-- ==== Sys2Proof/Word.lean ====
section
/-!
DEFINITION. The 32-bit word of the register space and of Felwin packets (R616, R678).
-/
namespace Sys2Proof

/-- One 32-bit register or packet word (R678). -/
abbrev Word := BitVec 32

/-- One byte. -/
abbrev Byte := BitVec 8

end Sys2Proof
end

