-- ==== Sys2Proof/Syntax.lean ====
section
/-!
DEFINITION. The commands of the block: one constructor for each row of the table of operations and events, with the values
the outside world gives it (a Felwin command's header and parameters, the writing master and the value of a register
write, what an event measured or carried).
-/
namespace Sys2Proof

/-- A bus master of Table 19.3. -/
abbrev Mast := Fin 68

/-- The header fields of a Felwin command that its meaning uses (Table 17.1): the ring it came on, its SEQ, SESSION and
FLAGS. Its opcode is the command's own. -/
structure CmdHdr where
  ring : Fin 4
  seq : BitVec 16
  session : BitVec 16
  flags : BitVec 8
  deriving DecidableEq, Repr


/-- One change of the glue-up as the mate's image decodes it (R516, R517): a command or a register write (CONFIG, KEYS), a register's value of
another category, a key moved Keeper to Keeper, the next inline SEQ or lookaside count of a slot's current generation, the block-split
accumulator, adaptation in back-off, a second of the performance store. -/
inductive Glue where
  | command (code : BitVec 16) (par : List Word)
  | write (off : BitVec 26) (w : Word)
  | value (off : BitVec 26) (w : Word)
  | key (page : Fin 72) (slot : Fin 2) (salt : Word) (key : List Word)
  | inlineSeq (page : Fin 72) (slot : Fin 2) (seq : BitVec 64)
  | laCount (page : Fin 72) (slot : Fin 2) (n : BitVec 64)
  | accumulator (n : Nat)
  | backOff
  | second (time : BitVec 64) (frames : Nat) (layers : List (List Word))
  deriving DecidableEq, Repr

/-- A complete snapshot received (Table 14.5): EPOCH, JSEQ_CUT, SF_CUT and the superframes the active has begun since the cut, whether DIGEST
checks, and what its sections hold. -/
structure Snapshot where
  epoch : Word
  cut : Word
  sf : BitVec 16
  since : Nat
  digestOk : Bool
  items : List Glue
  deriving DecidableEq, Repr

/-- One symbol interval of a subcarrier at the equaliser's input (Table 3.1, step 4): the samples of X and Y at the symbol and half a symbol before
it, in 2^-14 of the root of the mean payload power, and the symbol's index in the superframe where it is known. -/
structure RxSym where
  x0 : Int × Int
  xh : Int × Int
  y0 : Int × Int
  yh : Int × Int
  pos : Option Nat
  deriving DecidableEq, Repr

/-- The pilots of a window of 512 pilot positions on a subcarrier: the index of the first, counted from the boundary at which the block order
restarted, and the phases of X and Y against the known values, in 2^-16 turns (R144, R146). -/
structure PilotWin where
  first : Int
  x : List Int
  y : List Int
  deriving DecidableEq, Repr

/-- What one superframe showed of a subcarrier: whether the training word was missed, and the sums Σ|a|² and Σ|y − a|² of X and of Y (R153). -/
structure ScFrame where
  missed : Bool
  sigX : Nat
  errX : Nat
  sigY : Nat
  errY : Nat
  deriving DecidableEq, Repr

/-- What one ODUflex frame recovered by the demultiplexer carried (R261, R268): its tributary, STAT, BDI, BIP-8 violations and BEI. -/
structure FlexOh where
  t : Fin 32
  stat : BitVec 3
  bdi : Bool
  bip : Nat
  bei : Nat
  deriving DecidableEq, Repr

/-- A received OTUCn frame: its slice frames as the line carries them, or the one frame of an interoperable mode; the 16-byte words of it that hold a
bit marked UNCORR, by their index in the OTUCn frame; the overhead of the ODUflex frames that end in it; how many units wait in the framer's
buffer; and how many in the buffer to Veneer (`false`) or to the client demapper (`true`) of a channel (R29). -/
structure RxFrame where
  slices : List (List (BitVec 8))
  marked : List Nat
  flex : List FlexOh
  held : Nat
  waits : List (Fin 32 × Bool × Nat)
  deriving DecidableEq, Repr

/-- What one ALIGN period showed on a lane (R332 to R334): Clause 36 synchronisation, whether its ALIGN came, code-group errors, when the
ALIGN came in code groups, and its SEQ. -/
structure AlignLane where
  sync : Bool
  seen : Bool
  errs : Nat
  pos : Nat
  seq : BitVec 4
  deriving DecidableEq, Repr

/-- A code group received on a Mitre or Batten lane (Table 9.3): a byte, the start or the end of a packet, PAD, IDLE or an ordered set between packets, or one that
is invalid or has a running-disparity error. -/
inductive CodeGroup where
  | data (b : BitVec 8)
  | sop
  | eop
  | pad
  | idle
  | bad
  deriving DecidableEq, Repr

/-- A Scribe packet as it arrives (R409 to R413): its level in −0.5 dBFS, how far its spectral peak stands above the search band's mean in 0.5 dB, the 64 bits
at the synchronising word's place, the frozen correction in kHz, and the bits that follow, still whitened. -/
structure ScrPkt where
  level : BitVec 8
  peak : BitVec 8
  word : BitVec 64
  afc : Word
  bits : List Bool
  deriving DecidableEq, Repr

/-- A received HELLO (Table 11.3): sender, SEQ, allowed modes, state, LOCKED, excluded modes, key-page mask, whether its certificate
chain verifies and the identifier it names, and its whole content in words. -/
structure ScrHello where
  src : BitVec 64
  seq : BitVec 16
  modes : BitVec 6
  state : BitVec 4
  locked : Bool
  excl : BitVec 6
  pages : List Word
  chainOk : Bool
  certId : BitVec 64
  hello : List Word
  deriving DecidableEq, Repr

/-- A key of a KEYS message (Table 11.3): page, slot, key and salt. -/
structure ScrKey where
  page : BitVec 8
  slot : BitVec 8
  key : List Word
  salt : Word
  deriving DecidableEq, Repr

/-- A PTP message of a port (R489): its type, domain and sequence; whether a Sync is two-step; its correction and its timestamp in ps; bytes
34 to 63 of an Announce. -/
structure PtpMsg where
  typ : BitVec 4
  domain : BitVec 8
  seq : BitVec 16
  twoStep : Bool
  corr : Int
  time : Nat
  body : List (BitVec 8)
  deriving DecidableEq, Repr

/-- What the exchange at a Mitre link-up gives of the mate (R512, R515, R516, R539): its identifier, whether its certificate and its signature
hold, its snapshot format version, its role, its PRIMARY bit, how long it has been ACTIVE in ms, its ephemeral key and its nonce. -/
structure MateHello where
  id : BitVec 64
  certOk : Bool
  sigOk : Bool
  fmt : Nat
  role : BitVec 3
  primary : Bool
  activeMs : Nat
  pub : List Nat
  nonce : List Nat
  deriving DecidableEq, Repr


/-- The commands: one constructor for each row of the table of operations and events. -/
inductive Instr where
  /-- SECOND_BOUNDARY (R725): At the end of each whole second, raises every once-per-second event that had occurrences in that second, with that second's summary. -/
  | secondBoundary
  /-- MINUTE_BOUNDARY (R725): At the end of each whole minute, raises every once-per-minute event that had occurrences in that minute. -/
  | minuteBoundary
  /-- REGISTER_WRITE (R684): A write to a register that has no row of its own sets or ignores each field by its access code, range and locks. -/
  | registerWrite (m : Mast) (off : BitVec 26) (be : BitVec 4) (w : Word)
  /-- FABRIC_TIMEOUT (R27): An unacknowledged request crossing ends after 100 µs with an error response to the requester and is counted. -/
  | fabricTimeout (k : Fin 20) (m : Mast) (off : BitVec 26) (rd : Bool)
  /-- LTX_MODE_SET (R41): Sets the transmit line mode, OTUC count, roll-off, Kerf, pre-compensation, clip level and pilot gain while TX_OUT is dark. -/
  | ltxModeSet (h : CmdHdr) (p : List Word)
  /-- LTX_MODE_WRITE (R95): A register write changing the transmit mode or OTUC count loads the new mode's plan 0 into both banks, or empties them. -/
  | ltxModeWrite (m : Mast) (mode : BitVec 4) (n : BitVec 6)
  /-- LTX_PLAN_LOAD (R55): Loads a plan into the shadow bank after the checks of Table 2.5. -/
  | ltxPlanLoad (h : CmdHdr) (p : List Word)
  /-- PLAN_BOUNDS_READY (R225): The matcher bounds of a loaded plan are computed and the load completes. -/
  | planBoundsReady
  /-- LTX_PLAN_COMMIT (R71): Commits the shadow plan, scheduling it at S = c + 17 while lit or applying it at once while dark. -/
  | ltxPlanCommit (h : CmdHdr) (p : List Word)
  /-- PLAN_CHG_COMMIT (R71): A write of 1 to LTX_PLAN_CHG.COMMIT commits bank 1 with the same checks, reporting the outcome in RESULT. -/
  | planChgCommit (m : Mast)
  /-- LTX_PLAN_CANCEL (R75): Cancels a pending plan change if the next header would carry PLAN_CD of at least 4. -/
  | ltxPlanCancel (h : CmdHdr) (p : List Word)
  /-- PLAN_CHG_CANCEL (R75): A write of 1 to LTX_PLAN_CHG.CANCEL requests cancellation of the pending plan change. -/
  | planChgCancel (m : Mast)
  /-- LTX_PLAN_GET (R91): Returns the active or shadow plan with ΣE, W_min and any pending S. -/
  | ltxPlanGet (h : CmdHdr) (p : List Word)
  /-- LTX_BIAS_CTRL (R79): Sets the bias-loop enables, hold, dither frequency, amplitude, dwell, gain and sweep request, and returns lock flags and DAC values. -/
  | ltxBiasCtrl (h : CmdHdr) (p : List Word)
  /-- BIAS_SWEEP (R82): A write of 1 to LTX_BIAS_CTRL.SWEEP starts a coarse sweep of all enabled loops. -/
  | biasSweep (m : Mast)
  /-- BIAS_SWEEP_DONE (R82): The coarse bias sweep completes and the dither round-robin starts. -/
  | biasSweepDone
  /-- DITHER_CYCLE (R80): At the start of each dither cycle the transmitter raises the DSYNC strobe with a width coding the loop index. -/
  | ditherCycle
  /-- BIAS_DWELL_END (R81): At the end of a dwell the cluster 2 engine updates the loop's bias DAC from Gauge words and judges lock. -/
  | biasDwellEnd
  /-- LTX_LASER_SET (R724): Sets laser tuning, fine tuning or timers by the form word. -/
  | ltxLaserSet (h : CmdHdr) (p : List Word)
  /-- LTX_LASER_STATUS (R91): Returns a laser port's ITLA status words, frequency, power, temperature and reset count. -/
  | ltxLaserStatus (h : CmdHdr) (p : List Word)
  /-- LAS_EN_WRITE (R97): Writing LTX_LAS_CTRL[p].EN drives the laser enable pin and tunes the laser, or disables its output. -/
  | lasEnWrite (m : Mast) (p : Fin 2) (en : Bool)
  /-- LAS_FREQ_WRITE (R97): Writing LTX_LAS_FREQ[p] while EN is 1 and TX_OUT is dark starts a new tuning. -/
  | lasFreqWrite (m : Mast) (p : Fin 2) (v : Word)
  /-- LAS_FTF_WRITE (R88): Writing LTX_LAS_CTRL[p].FTF applies or holds a fine-tuning offset within FTFR. -/
  | lasFtfWrite (m : Mast) (p : Fin 2) (v : BitVec 16)
  /-- FTF_APPLY (R88): A held fine-tuning offset is applied 100 ms after the last one applied. -/
  | ftfApply (p : Fin 2)
  /-- LAS_RESET (R87): A write of 1 to LTX_LAS_CTRL[p].RESET ends the hold and starts up to three soft resets. -/
  | lasReset (m : Mast) (p : Fin 2)
  /-- LASER_POLL (R87): The polling period expires and the device reads the laser's StatusF and StatusW. -/
  | laserPoll (p : Fin 2) (statusF statusW : BitVec 16)
  /-- ITLA_RESPONSE_TIMEOUT (R87): An ITLA command gets no response within the response timeout and LASER_FAIL is raised. -/
  | itlaResponseTimeout (p : Fin 2)
  /-- LASER_FAULT_PIN (R87): A laser's fault pin goes low and LASER_FAIL is raised with its consequences. -/
  | laserFaultPin (p : Fin 2)
  /-- LASER_TUNED (R86): The laser reports tuning complete and the device enables its output. -/
  | laserTuned (p : Fin 2) (lf ftfr oop ctemp : Word)
  /-- LASER_TUNE_TIMEOUT (R86): Tuning has not completed within the tuning timeout and LASER_FAIL is raised. -/
  | laserTuneTimeout (p : Fin 2)
  /-- LASER_RESET_RETRY (R87): The next soft reset attempt falls due 1 s after the previous one, or the laser is held disabled after the third. -/
  | laserResetRetry (p : Fin 2)
  /-- LTX_OUTPUT (R89): Lights TX_OUT by the bring-up sequence after its checks, or darkens it. -/
  | ltxOutput (h : CmdHdr) (p : List Word)
  /-- OUT_EN_WRITE (R89): Writing LTX_CTRL.OUT_EN requests TX_OUT lit or darkens it within 1 ms. -/
  | outEnWrite (m : Mast) (v : Bool)
  /-- OUTPUT_RAMP_DONE (R89): The attenuator ramp ends, TX_ON and LOCK are set, the first superframe starts and the output request replies OK. -/
  | outputRampDone
  /-- BIAS_LOCK_TIMEOUT (R90): Loops have not locked within the bias-lock timeout; the request ends TIMEOUT and TX_DARK is raised. -/
  | biasLockTimeout
  /-- SUPERFRAME_BOUNDARY (R32): At a transmit superframe boundary the header is sent and plan changes, key switches and moves due at it take effect. -/
  | superframeBoundary (hist : List (Nat × Nat))
  /-- DARK_TIME_TICK (R723): While no superframes are sent, a tick of 2^20 native symbol periods stands in for the superframe boundary. -/
  | darkTimeTick
  /-- LO_LIGHT_CHANGE (R21): Light appears or disappears at LAS_LO and the internal splitter switches the local oscillator source. -/
  | loLightChange (present : Bool)
  /-- LRX_MODE_SET (R105): Sets the receive mode, OTUC count, roll-off and Kerf while RX_EN is 0. -/
  | lrxModeSet (h : CmdHdr) (p : List Word)
  /-- LRX_MODE_WRITE (R159): A register write changing the receive mode or OTUC count empties the receive plan table and activates plan 0. -/
  | lrxModeWrite (m : Mast) (mode : BitVec 4) (n : BitVec 6)
  /-- LRX_ENABLE (R105): Enables or disables the receiver, starting acquisition or returning to IDLE. -/
  | lrxEnable (h : CmdHdr) (p : List Word)
  /-- RX_EN_WRITE (R105): Writing LRX_CTRL.RX_EN starts acquisition or returns the receiver to IDLE, subject to refusal. -/
  | rxEnWrite (m : Mast) (v : Bool)
  /-- LRX_ACQ_CFG (R140): Sets the gain, dispersion, timing, lock and hold configuration words. -/
  | lrxAcqCfg (h : CmdHdr) (p : List Word)
  /-- LRX_EQ_CFG (R140): Sets the equaliser and decision-feedback configuration words. -/
  | lrxEqCfg (h : CmdHdr) (p : List Word)
  /-- LRX_FREEZE (R138): Sets the loop freeze bits and per-subcarrier freeze controls. -/
  | lrxFreeze (h : CmdHdr) (p : List Word)
  /-- LRX_RESTART (R139): Restarts acquisition from the stage named by FROM, clearing freeze bits of the loops it re-runs. -/
  | lrxRestart (h : CmdHdr) (p : List Word)
  /-- LRX_RESTART_GO (R139): A write of 1 to LRX_RESTART.GO starts the restart named by FROM and SC_MASK. -/
  | lrxRestartGo (m : Mast)
  /-- LRX_STATUS (R140): Returns receiver status, dispersion, offsets and per-subcarrier state words. -/
  | lrxStatus (h : CmdHdr) (p : List Word)
  /-- LRX_TAPS_GET (R729): Returns the feed-forward and feedback taps of one subcarrier. -/
  | lrxTapsGet (h : CmdHdr) (p : List Word)
  /-- SIG_PRESENT_SET (R103): All four channels have been at or above −30 dBFS for 4 µs and SIG_PRESENT sets. -/
  | sigPresentSet
  /-- SIG_PRESENT_CLEAR (R137): A channel has been below −33 dBFS for 4 µs; SIG_PRESENT clears, loops freeze and the receiver enters HOLD. -/
  | sigPresentClear
  /-- GAIN_SETTLED (R106): All channels are within 0.5 dB of the gain target and stage FREQ starts. -/
  | gainSettled (pow : List Nat)
  /-- FREQ_ESTIMATE_DONE (R107): The coarse estimator finishes averaging 64 FFT blocks and yields the frequency offset. -/
  | freqEstimateDone (spectra : List (List Nat))
  /-- DISP_BATCH_DONE (R110): A batch of 16 dispersion trials completes; the scan proceeds or ends with the fine peak. -/
  | dispBatchDone (metrics : List Word)
  /-- SYMBOL_WINDOW_END (R117): A window of 4,096 symbols ends and the timing, CMA, singularity and burst-guard tests are evaluated. -/
  | symbolWindowEnd (pow : List Nat) (cross : List Int) (wins : List (List RxSym))
  /-- TRAINING_WORD_DETECT (R131): The training-word detector finds a correlation at or above threshold on a subcarrier. -/
  | trainingWordDetect (sc : Fin 16) (pos : Nat) (xs ys : List (Int × Int))
  /-- PILOT_WINDOW_END (R147): A window of 512 pilot positions ends and carrier lock and loss are judged. -/
  | pilotWindowEnd (wins : List PilotWin)
  /-- RX_SUPERFRAME_BOUNDARY (R135): At a received superframe boundary PLM, SNR, residual dispersion, plan switches and LLR release are processed. -/
  | rxSuperframeBoundary (frames : List ScFrame)
  /-- SUPERFRAME_HEADER_RX (R77): A valid superframe header arms, replaces or disarms a plan announcement and reports PLAN_ACT. -/
  | superframeHeaderRx (hdr : BitVec 64)
  /-- STAGE_TIMEOUT (R134): An acquisition stage exceeds its stage timeout; the attempt fails, pauses 1 ms and restarts cold. -/
  | stageTimeout
  /-- ACQ_TIMEOUT (R134): An attempt exceeds the acquisition timeout and fails. -/
  | acqTimeout
  /-- RESTART_PAUSE_END (R134): The 1 ms pause after a failed attempt ends and a cold attempt starts at GAIN. -/
  | restartPauseEnd
  /-- HOLD_EXPIRED (R137): The hold time expires without signal and the held state is discarded. -/
  | holdExpired
  /-- WARM_TIMEOUT (R137): A warm restart has not reached LOCKED within the warm timeout and becomes cold. -/
  | warmTimeout
  /-- LRX_QUALITY (R173): Returns the snapshot quality words, margins and slip counts. -/
  | lrxQuality (h : CmdHdr) (p : List Word)
  /-- LRX_CR_SET (R173): Sets carrier recovery settings, averaging exponent and report period. -/
  | lrxCrSet (h : CmdHdr) (p : List Word)
  /-- LRX_ADAPT_SET (R173): Sets adaptation enables, margins, timers and limits. -/
  | lrxAdaptSet (h : CmdHdr) (p : List Word)
  /-- LRX_RPLAN_LOAD (R158): Loads a host plan into the receive plan table after its checks. -/
  | lrxRplanLoad (h : CmdHdr) (p : List Word)
  /-- LRX_RPLAN_GET (R173): Returns one entry of the receive plan table. -/
  | lrxRplanGet (h : CmdHdr) (p : List Word)
  /-- LRX_ADAPT_NOW (R163): Computes a candidate plan and optionally offers it, ignoring the minimum interval. -/
  | lrxAdaptNow (h : CmdHdr) (p : List Word)
  /-- LRX_Q_TAKE (R156): A write of 1 to LRX_Q_SNAP.TAKE starts a copy of all quality words into the snapshot bank. -/
  | lrxQTake (m : Mast)
  /-- LRX_Q_SNAP_DONE (R156): The quality snapshot copy completes and GEN increments. -/
  | lrxQSnapDone
  /-- SLIP_CLR (R174): A write of 1 to LRX_ADAPT_CFG.SLIP_CLR clears every slip counter. -/
  | slipClr (m : Mast)
  /-- ADAPT_EN_WRITE (R172): Clearing TX_EN abandons an outstanding offer; clearing RX_EN stops reports and refuses later offers. -/
  | adaptEnWrite (m : Mast) (tx rx : Bool)
  /-- SNR_REPORT_SEND (R161): The report period expires and the receiver sends SNR_REPORT. -/
  | snrReportSend
  /-- SNR_REPORT (R164): A received SNR report is stored; a candidate plan is computed and offered if the offer rules hold. -/
  | snrReport (crcOk : Bool) (plan : BitVec 8) (dd : BitVec 16) (snr : List (BitVec 16)) (margin : BitVec 16) (uncorr : Word)
  /-- REPORT_STALE (R161): Two report periods pass with no newer report and the report becomes stale. -/
  | reportStale
  /-- OFFER (R166): A received OFFER is checked and answered HELD or REFUSE. -/
  | offer (crcOk : Bool) (seq id prev : BitVec 8) (words : List Word)
  /-- HELD (R167): A HELD for the outstanding offer makes the transmitter write its shadow and commit. -/
  | held (crcOk : Bool) (seq id : BitVec 8)
  /-- REFUSE (R170): A REFUSE raises PLAN_REFUSED and starts the back-off. -/
  | refuse (crcOk : Bool) (seq id reason : BitVec 8)
  /-- ROLLBACK_REQ (R169): A rollback request cancels or completes the change and commits the plan to return to. -/
  | rollbackReq (crcOk : Bool) (leave ret reason : BitVec 8)
  /-- OFFER_REPLY_TIMEOUT (R170): No reply arrives within the reply timeout; the offer is resent or abandoned after 3 resends. -/
  | offerReplyTimeout
  /-- ADAPT_BACKOFF_END (R170): The adaptation back-off time ends and offers may resume. -/
  | adaptBackoffEnd
  /-- VERIFY_END (R167): The verification window of V superframes plus reply timeout ends and the plan counts as verified. -/
  | verifyEnd
  /-- CAL_STATUS (R214): Returns calibration status, fuse states and reference deviations. -/
  | calStatus (h : CmdHdr) (p : List Word)
  /-- CAL_BG_SET (R214): Sets background calibration enables, pass timing, thresholds and wait-to-restore. -/
  | calBgSet (h : CmdHdr) (p : List Word)
  /-- CAL_REF_SET (R184): Sets the CAL_VREF and CAL_FREF values. -/
  | calRefSet (h : CmdHdr) (p : List Word)
  /-- CAL_RUN (R198): Starts a foreground run of the requested kinds after its condition checks. -/
  | calRun (h : CmdHdr) (p : List Word) (vdev fdev : Word)
  /-- CAL_FG_DONE (R199): A foreground run completes, writes volatile sets, resumes background and replies OK. -/
  | calFgDone (sets : List (Fin 8 × List Word)) (enob : List Word) (figs : List Word)
  /-- FG_TIMEOUT (R200): A foreground run exceeds its timeout and ends TIMEOUT with sets unchanged. -/
  | fgTimeout
  /-- CAL_ABORT (R200): Aborts a foreground run, which ends ABORTED with sets unchanged. -/
  | calAbort (h : CmdHdr) (p : List Word)
  /-- CAL_COMMIT (R210): Takes the named sets atomically and writes each to its next fuse row. -/
  | calCommit (h : CmdHdr) (p : List Word) (vdd : Bool)
  /-- FUSE_ROW_WRITE_DONE (R208): A fuse row's words, read-back and commit word are written, or the write is retried at the next index. -/
  | fuseRowWriteDone (same : Bool)
  /-- FUSE_VDD_LOSS (R209): VDD_IO leaves its range during a fuse write and programming stops at once. -/
  | fuseVddLoss (n k : Nat)
  /-- CAL_EXPORT (R211): Returns a set's values as a record signed by the Keeper. -/
  | calExport (h : CmdHdr) (p : List Word)
  /-- CAL_LOAD (R212): Loads an exported record into a set after its checks, with source LOADED. -/
  | calLoad (h : CmdHdr) (p : List Word)
  /-- CAL_QUALITY (R214): Returns the snapshot quality figures and eye figures. -/
  | calQuality (h : CmdHdr) (p : List Word)
  /-- CAL_SLICE (R214): Takes a slice out as FAULTY or starts its return. -/
  | calSlice (h : CmdHdr) (p : List Word) (trim : BitVec 16)
  /-- CNV_Q_TAKE (R203): A write of 1 to CNV_Q_SNAP.TAKE requests a snapshot of the converter quality words. -/
  | cnvQTake (m : Mast)
  /-- CNV_Q_SNAP_DONE (R203): The converter snapshot is copied between slice steps and GEN increments. -/
  | cnvQSnapDone
  /-- CAL_PASS_START (R190): The pass period elapses or Tj moves beyond its threshold and a background pass starts. -/
  | calPassStart
  /-- SLICE_STEP_START (R191): A slice is selected and a healthy spare is connected in shadow to its phase. -/
  | sliceStepStart (m : Fin 8)
  /-- SLICE_HANDOVER (R192): The shadow is compared with the handover threshold and takes the phase, or the trim repeats. -/
  | sliceHandover (m : Fin 8) (trim : BitVec 16) (d pin : Nat)
  /-- SLICE_CAL_DONE (R191): The calibrated slice is checked against the fault limits and becomes SPARE or FAULTY. -/
  | sliceCalDone (m : Fin 8) (gain offset resid : BitVec 16)
  /-- SLICE_FAULT (R194): An active slice fails a fault test and its phase is taken over. -/
  | sliceFault (n : Fin 528) (test : Fin 4) (trim : BitVec 16)
  /-- SLICE_RETEST (R196): The retest interval expires and a FAULTY or RETURNING slice is retested. -/
  | sliceRetest (n : Fin 528) (pass : Bool)
  /-- SLICE_RETURN (R197): A slice that stayed RETURNING for the wait-to-restore takes back its phase at a superframe boundary. -/
  | sliceReturn (n : Fin 528) (trim : BitVec 16) (diffs : List (Nat × Nat))
  /-- REF_CHECK (R186): The periodic check compares CAL_VREF and CAL_FREF with their expected values. -/
  | refCheck (vdev fdev : Word)
  /-- BG_ESTIMATOR_UPDATE (R189): A background estimator's update interval ends and it steps its correction. -/
  | bgEstimatorUpdate (est : Fin 4) (u : Fin 8) (gain offset timing : BitVec 16) (steps : List (BitVec 16))
  /-- FEC_CFG (R244): Sets FEC control, decoder, LLR and degrade thresholds. -/
  | fecCfg (h : CmdHdr) (p : List Word)
  /-- FEC_STATUS (R244): Returns FEC status, latched BER and last-second counts. -/
  | fecStatus (h : CmdHdr) (p : List Word)
  /-- FEC_COUNTERS (R583): Takes its own snapshot and returns the FEC counters of the selected subcarriers. -/
  | fecCounters (h : CmdHdr) (p : List Word)
  /-- FEC_INJECT (R243): Sets transmit error injection in MAINT. -/
  | fecInject (h : CmdHdr) (p : List Word)
  /-- FEC_GEOMETRY (R244): Returns a block's start, length, label bits, k_a and bound for a held plan. -/
  | fecGeometry (h : CmdHdr) (p : List Word)
  /-- FEC_CNT_CLR (R246): A write of 1 to FEC_CTRL.CNT_CLR presets every FEC counter to 0. -/
  | fecCntClr (m : Mast)
  /-- FEC_ONE_SHOT (R243): A write of 1 to FEC_INJ.ONE_SHOT arms the flip of every fifth sign bit of the next block. -/
  | fecOneShot (m : Mast)
  /-- FEC_INJ_DONE (R243): The one-shot injection has corrupted its block on each selected subcarrier. -/
  | fecInjDone
  /-- FEC_BLOCK_ENCODE (R223): A block is assembled from 42,000 net bits, matched, encoded and mapped. -/
  | fecBlockEncode (net : List Bool) (held : Nat)
  /-- FEC_BLOCK_DECODE (R231): A received block is decoded by layered min-sum, inverse-matched and counted. -/
  | fecBlockDecode (ys : List Int) (held : Nat)
  /-- FRM_CFG (R276): Sets Dovetail, defect, degrade and consequent-action configuration. -/
  | frmCfg (h : CmdHdr) (p : List Word)
  /-- FRM_STATUS (R276): Returns framer status and Dovetail counts. -/
  | frmStatus (h : CmdHdr) (p : List Word)
  /-- FRM_PM_GET (R276): Returns the most recent PM records of a layer. -/
  | frmPmGet (h : CmdHdr) (p : List Word)
  /-- FRM_TTI_SET (R276): Sets the TTI to send and expect for SM or PM. -/
  | frmTtiSet (h : CmdHdr) (p : List Word)
  /-- FRM_TTI_GET (R276): Returns the accepted TTI of a layer. -/
  | frmTtiGet (h : CmdHdr) (p : List Word)
  /-- FRM_OHC_CFG (R272): Sets an overhead channel's slices and routes. -/
  | frmOhcCfg (h : CmdHdr) (p : List Word)
  /-- FRM_OHC_XFER (R276): Passes bytes to and from an overhead channel's engine buffer. -/
  | frmOhcXfer (h : CmdHdr) (p : List Word)
  /-- FRM_CNT_CLR (R278): A write of 1 to FRM_CTRL.CNT_CLR clears the Dovetail and slip counts. -/
  | frmCntClr (m : Mast)
  /-- FRM_RESYNC (R259): A write of 1 to FRM_CTRL.RESYNC closes every candidate, leaves in-frame and restarts the search. -/
  | frmResync (m : Mast)
  /-- FAS_DETECT (R254): While out of frame a new alignment-signal detection opens a candidate. -/
  | fasDetect (off blk : Nat) (marker : Bool)
  /-- CANDIDATE_CHECK (R255): A candidate is checked one frame period later; it gains a hit, completes or is dropped. -/
  | candidateCheck (off : Nat) (sees : Bool)
  /-- RESOLUTION_WINDOW_END (R256): The resolution window ends and the completers are resolved. -/
  | resolutionWindowEnd
  /-- IN_FRAME_CHECK (R257): While in frame the alignment signal is checked at the in-frame offset each frame. -/
  | inFrameCheck (sees : Bool)
  /-- RX_FRAME (R261): A received frame's overhead is processed for multiframe, BIP, BDI, STAT, TTI and channels. -/
  | rxFrame (f : RxFrame)
  /-- TX_FRAME (R249): The transmit framer builds one OTUCn frame with its overhead, tributaries and channel bytes. -/
  | txFrame (held : Nat) (waits : List (Fin 32 × Nat)) (eth : List (Fin 32 × List Bool))
  /-- LOS_CLEAR (R261): SIG_PRESENT and no LASER_FAIL have held for LOS_CLR and LOS clears. -/
  | losClear
  /-- LOF_DECLARE (R261): Out of frame for LOF_SET declares LOF. -/
  | lofDeclare
  /-- LOF_CLEAR (R261): In frame for LOF_CLR clears LOF. -/
  | lofClear
  /-- LOM_DECLARE (R261): Out of multiframe for 3 ms declares LOM. -/
  | lomDeclare
  /-- LOM_CLEAR (R261): In multiframe for 3 ms clears LOM. -/
  | lomClear
  /-- PM_SECOND (R267): The PM second ends at a frame boundary; records are latched and stored and degrade is judged. -/
  | pmSecond
  /-- CLI_ADD (R308): Adds a client channel after the checks of Table 8.5 and starts its stream. -/
  | cliAdd (h : CmdHdr) (p : List Word)
  /-- CLI_REMOVE (R310): Frees a channel's slots, stops its stream and deconfigures it. -/
  | cliRemove (h : CmdHdr) (p : List Word)
  /-- CLI_MOVE (R311): Schedules a new slot set for a channel at S or applies it at once while dark. -/
  | cliMove (h : CmdHdr) (p : List Word)
  /-- CLI_MOVE_CANCEL (R317): Cancels the pending move if at least 4 superframes remain before S. -/
  | cliMoveCancel (h : CmdHdr) (p : List Word)
  /-- CLI_STATUS (R319): Returns client status and per-channel configuration and state. -/
  | cliStatus (h : CmdHdr) (p : List Word)
  /-- CLI_COUNTERS (R583): Takes its own snapshot and returns the client counters. -/
  | cliCounters (h : CmdHdr) (p : List Word)
  /-- CLI_TS_CFG (R307): Sets a channel's ingress and egress timestamp adjustments. -/
  | cliTsCfg (h : CmdHdr) (p : List Word)
  /-- CLI_LOOP (R318): Sets a host or line loopback on a channel in MAINT. -/
  | cliLoop (h : CmdHdr) (p : List Word)
  /-- CLI_SLOT_MAP (R319): Returns a consistent transmit, pending and receive map of every slot. -/
  | cliSlotMap (h : CmdHdr) (p : List Word)
  /-- CLI_CNT_CLR (R320): A write of 1 to CLI_CTRL.CNT_CLR clears every client counter. -/
  | cliCntClr (m : Mast)
  /-- PSI_MULTIFRAME (R292): A PSI multiframe is received; map entries and move records are accepted and channel slots judged. -/
  | psiMultiframe (act pend : List (BitVec 16)) (rec : List (BitVec 8))
  /-- CLIENT_INGRESS_FAIL (R295): An ingress failure is detected and the ingress-failure signal replaces client data. -/
  | clientIngressFail (t : Fin 32) (why : Fin 3) (lane : Fin 16) (skew : BitVec 14) (errs : Nat)
  /-- INGRESS_FAIL_CLEAR (R295): The ingress conditions have held for 1 ms and the failure clears. -/
  | ingressFailClear (t : Fin 32) (skew : BitVec 14)
  /-- CLIENT_UP (R309): The far demapper is aligned and egress carries client data. -/
  | clientUp (t : Fin 32)
  /-- PTP_MESSAGE_RX (R306): A PTP event message is timestamped and handled by its port and the BMCA. -/
  | ptpMessageRx (p : Fin 32) (m : PtpMsg)
  /-- PTP_MESSAGE_TX (R489): A port's message-rate timer expires and it sends Sync, Delay_Req or Announce. -/
  | ptpMessageTx (p : Fin 33) (kind : Fin 3)
  /-- SRD_LANE_SET (R326): Sets lane control and transmit equaliser words for the lanes in the mask. -/
  | srdLaneSet (h : CmdHdr) (p : List Word)
  /-- SRD_STATUS (R347): Returns serial-lane group and per-lane status. -/
  | srdStatus (h : CmdHdr) (p : List Word)
  /-- SRD_EYE_SCAN (R339): Starts an eye scan of a lane, replying PENDING until it ends. -/
  | srdEyeScan (h : CmdHdr) (p : List Word)
  /-- EYE_DONE (R340): An eye scan completes or is aborted and its result is returned. -/
  | eyeDone (n : Fin 34) (aborted : Bool) (errs : List (Option Nat)) (vstep : BitVec 16) (phase : BitVec 8)
  /-- SRD_JIG_SET (R346): Sets a lane's Jig generator, checker and injection. -/
  | srdJigSet (h : CmdHdr) (p : List Word)
  /-- SRD_JIG_GET (R583): Takes its own snapshot and returns Jig lock and counts. -/
  | srdJigGet (h : CmdHdr) (p : List Word)
  /-- SRD_CNT_CLR (R348): A write of 1 to SRD_CTRL.CNT_CLR clears every serial-lane counter. -/
  | srdCntClr (m : Mast)
  /-- LANE_RETRAIN (R327): A write of 1 to SRD_LANE_CTRL.RETRAIN starts training of the lane. -/
  | laneRetrain (m : Mast) (n : Fin 34)
  /-- JIG_INJECT (R345): A write of 1 to SRD_JIG_CFG.INJ_GO flips one bit or a burst. -/
  | jigInject (m : Mast) (n : Fin 22)
  /-- JIG_LOCK (R344): The checker sees 64 error-free bits and locks. -/
  | jigLock (n : Fin 22) (bits errs : Nat)
  /-- JIG_UNLOCK (R344): The checker sees more than 256 errors in 1,024 bits and restarts seeding. -/
  | jigUnlock (n : Fin 22) (bits errs : Nat)
  /-- LANE_POWER_UP (R329): A lane group is powered at its time after SRD release. -/
  | lanePowerUp (k : Fin 6)
  /-- LANE_TRAINED (R327): A lane completes training and reaches the up state. -/
  | laneTrained (n : Fin 34)
  /-- TRAIN_TIMEOUT (R328): A lane has not come up within the training timeout. -/
  | trainTimeout (n : Fin 34)
  /-- TRAIN_RETRY (R328): One second after a training failure the lane retries. -/
  | trainRetry (n : Fin 34)
  /-- LANE_SIGNAL_LOSS (R328): A lane in traffic loses signal or lock and retrains. -/
  | laneSignalLoss (n : Fin 34)
  /-- ALIGN (R332): An ALIGN ordered set is received; deskew, drop, mask and width rules are applied. -/
  | align (g : Fin 2) (lanes : List AlignLane) (active next good : BitVec 4)
  /-- LANE_WTR_END (R336): A RETURNING lane passes the wait-to-restore time and returns to GOOD. -/
  | laneWtrEnd (n : Fin 34)
  /-- PACKET_RX (R333): A Mitre or Batten packet is received whole or discarded on code errors. -/
  | packetRx (g : Fin 2) (cols : List (List CodeGroup)) (noAlign : Bool)
  /-- VNR_CFG (R399): Sets Veneer control and lookaside settings. -/
  | vnrCfg (h : CmdHdr) (p : List Word)
  /-- VNR_STATUS (R399): Returns Veneer status and every page status. -/
  | vnrStatus (h : CmdHdr) (p : List Word)
  /-- VNR_PAGE_SET (R399): Sets a tenant page's configuration and rotation period. -/
  | vnrPageSet (h : CmdHdr) (p : List Word)
  /-- VNR_KEY_LOAD (R356): Unwraps and loads a key into a slot, at once or as a scheduled rewrite. -/
  | vnrKeyLoad (h : CmdHdr) (p : List Word)
  /-- VNR_KEY_SWITCH (R372): Schedules a flip of TX_KP for the named pages. -/
  | vnrKeySwitch (h : CmdHdr) (p : List Word)
  /-- VNR_KEY_ERASE (R378): Zeroises named slots and clears pending changes of their pages. -/
  | vnrKeyErase (h : CmdHdr) (p : List Word)
  /-- VNR_BIND (R358): Binds a channel to a tenant page or to none. -/
  | vnrBind (h : CmdHdr) (p : List Word)
  /-- VNR_LA (R381): Starts a lookaside encrypt or decrypt request after its checks. -/
  | vnrLa (h : CmdHdr) (p : List Word)
  /-- LA_DONE (R384): A lookaside request completes, releasing output or zeros and replying. -/
  | laDone (n : Nat) (aad data : List Word) (mis : Bool)
  /-- VNR_COUNTERS (R583): Takes its own snapshot and returns the Veneer counters. -/
  | vnrCounters (h : CmdHdr) (p : List Word)
  /-- VNR_REARM (R393): Clears ERASED when every sensor is in range. -/
  | vnrRearm (h : CmdHdr) (p : List Word)
  /-- VNR_CTRL_REARM (R393): A write of 1 to VNR_CTRL.REARM acts as VNR_REARM. -/
  | vnrCtrlRearm (m : Mast)
  /-- VNR_CNT_CLR (R401): A write of 1 to VNR_CTRL.CNT_CLR clears every Veneer counter. -/
  | vnrCntClr (m : Mast)
  /-- PROT_MODE_WRITE (R388): Writing VNR_CTRL.PROT_MODE selects AUTO or DUP, subject to load. -/
  | protModeWrite (m : Mast) (v : BitVec 2)
  /-- VNR_TX_BLOCK (R366): A protected block of a bound channel is encrypted under the current slot or sent as FILL. -/
  | vnrTxBlock (t : Fin 32) (pipe : Fin 26) (why : Fin 3)
  /-- VNR_KAT_DONE (R390): The known-answer test completes and a failing pipeline pair is retired. -/
  | vnrKatDone (dir : Fin 3) (pipe : Fin 26) (pass : Bool)
  /-- VNR_RX_BLOCK (R368): A received protected block is handled by the rows of Table 10.5. -/
  | vnrRxBlock (t : Fin 32) (pipe : Fin 26) (kp ka fill : Bool) (gen : BitVec 5) (seq : BitVec 48) (filled tagOk marked mis : Bool)
  /-- RETAINED_GEN_ERASE (R370): Two superframes after the newer generation verifies, the retained generation is erased. -/
  | retainedGenErase (p : Fin 72) (k : Fin 2)
  /-- KEY_AGE (R379): A generation's count reaches 2^47 and KEY_AGE is raised once. -/
  | keyAge (p : Fin 72) (k : Fin 2) (la : Bool)
  /-- KEY_EXHAUSTED (R379): A generation's count reaches 2^48; inline sends FILL and lookaside refuses. -/
  | keyExhausted (p : Fin 72) (k : Fin 2)
  /-- KEY_ROTATION_TIMER (R380): A page's rotation period expires and a fresh key agreement and switch start. -/
  | keyRotationTimer (p : Fin 72)
  /-- SENSOR_ALARM (R393): An erasure sensor goes out of range; in SENSE every slot is zeroised, in DUP only reported. -/
  | sensorAlarm (b : Fin 4)
  /-- SENSOR_REKEY (R393): All sensors have been in range for 1 s and the Keeper rekeys pages 0–3. -/
  | sensorRekey
  /-- DRBG_HEALTH_FAIL (R397): The DRBG health test fails; tenant pages stop and RNG_OK clears. -/
  | drbgHealthFail
  /-- DRBG_HEALTH_PASS (R645): 1,024 consecutive samples pass and tenant pages resume. -/
  | drbgHealthPass
  /-- SCR_CFG_SET (R431): Sets Scribe control, placement, timers, modes, key pages and pinned peer. -/
  | scrCfgSet (h : CmdHdr) (p : List Word)
  /-- SCR_TRUST (R422): Loads the allow-list of peer identifiers. -/
  | scrTrust (h : CmdHdr) (p : List Word)
  /-- SCR_STATUS (R431): Returns Scribe state, peer, correction and agreement. -/
  | scrStatus (h : CmdHdr) (p : List Word)
  /-- SCR_PEERS (R431): Returns identifiers heard in the last 60 s. -/
  | scrPeers (h : CmdHdr) (p : List Word)
  /-- SCR_RESTART (R431): Clears the excluded mask, darkens a Scribe-lit output and returns to BEACON or LISTEN. -/
  | scrRestart (h : CmdHdr) (p : List Word)
  /-- SCR_CTRL_RESTART (R433): A write of 1 to SCR_CTRL.RESTART acts as SCR_RESTART. -/
  | scrCtrlRestart (m : Mast)
  /-- SCR_CNT_CLR (R433): A write of 1 to SCR_CTRL.CNT_CLR clears every Scribe counter. -/
  | scrCntClr (m : Mast)
  /-- SCR_EN_WRITE (R423): Writing SCR_CTRL.EN moves Scribe between OFF and LISTEN. -/
  | scrEnWrite (m : Mast) (v : Bool)
  /-- SYNC_WORD_DETECT (R413): A synchronising word is accepted and the packet is received, or preempts or is treated as interference. -/
  | syncWordDetect (k : ScrPkt)
  /-- HELLO (R418): A received HELLO is identity-checked and may open a selection window. -/
  | hello (x : ScrHello)
  /-- KEX (R421): A received KEX is verified and used or held, and page 2 is keyed. -/
  | kex (src : BitVec 64) (seq : BitVec 16) (pub nonce : List Word) (sigOk : Bool)
  /-- PROPOSE (R424): The follower checks a proposed mode and shape and answers ACCEPT or REJECT. -/
  | propose (src : BitVec 64) (seq : BitVec 16) (mode : BitVec 4) (shape : Word)
  /-- ACCEPT (R424): The leader receives ACCEPT and sends KEYS. -/
  | accept (src : BitVec 64) (seq of : BitVec 16)
  /-- REJECT (R424): The leader receives REJECT and enters HOLD. -/
  | reject (src : BitVec 64) (seq of : BitVec 16) (reason : BitVec 8)
  /-- KEYS (R425): The follower places received keys through its Keeper and answers KEYS_ACK. -/
  | keys (src : BitVec 64) (seq : BitVec 16) (ks : List ScrKey)
  /-- KEYS_ACK (R425): The leader receives KEYS_ACK, erases unlisted pages and sends GO or goes LIVE. -/
  | keysAck (src : BitVec 64) (seq of : BitVec 16) (pages : List (BitVec 8))
  /-- GO (R426): On receipt of GO the follower darkens its beacon, sets the mode, lights TX_OUT and enables RX. -/
  | go (src : BitVec 64) (seq of : BitVec 16)
  /-- GO_SENT (R426): The leader's GO transmission ends and it starts the go-live steps. -/
  | goSent
  /-- RENEG (R428): RENEG darkens TX_OUT, excludes the mode and restarts from PROPOSE. -/
  | reneg (src : BitVec 64) (seq : BitVec 16) (mode : BitVec 4)
  /-- ROTATE (R430): ROTATE starts a fresh KEX and key exchange for a page. -/
  | rotate (src : BitVec 64) (seq : BitVec 16) (page : BitVec 8)
  /-- HOLD_OFF_END (R414): The random hold-off after READY ends and Scribe enters BEACON. -/
  | holdOffEnd
  /-- HELLO_TIMER (R415): The HELLO interval expires and a HELLO is sent. -/
  | helloTimer
  /-- BEACON_LIGHT (R407): In BEACON with its conditions met, Scribe lights TX_OUT as the beacon. -/
  | beaconLight
  /-- SELECTION_WINDOW_END (R419): The selection window ends and a lone authenticated peer is selected. -/
  | selectionWindowEnd
  /-- SCR_REPLY_TIMEOUT (R416): A reply has not arrived; the message is resent or the device enters HOLD. -/
  | scrReplyTimeout
  /-- NEG_TIMEOUT (R416): Negotiation has not reached GOING in time and the device enters HOLD. -/
  | negTimeout
  /-- SCR_HOLD_END (R417): The HOLD back-off ends and Scribe returns to BEACON or LIVE. -/
  | scrHoldEnd
  /-- SCR_LIVE (R427): Receiver LOCKED and in frame have held for 3 ms and the end enters LIVE. -/
  | scrLive
  /-- GO_LIVE_TIMEOUT (R427): LIVE is not reached in time; TX_OUT darkens, the mode is excluded and BEACON resumes. -/
  | goLiveTimeout
  /-- RELOCK_TIMEOUT (R428): A receiver has not been LOCKED for the relock timeout and the leader sends RENEG. -/
  | relockTimeout
  /-- PEER_HELLO_LOST (R423): In LIVE the peer's HELLO is missing for 10 s and Scribe returns to BEACON. -/
  | peerHelloLost
  /-- REF_CFG (R465): Sets reference selection, DPLL, monitors, timers, Clamp and ESMC settings. -/
  | refCfg (h : CmdHdr) (p : List Word)
  /-- REF_CAND_SET (R442): Sets a candidate's configuration and nominal frequency, requalifying it. -/
  | refCandSet (h : CmdHdr) (p : List Word)
  /-- CAND_FREQ_WRITE (R442): A register write to a candidate's frequency or lane makes it unqualified. -/
  | candFreqWrite (m : Mast) (c : Fin 12) (v : BitVec 30)
  /-- REF_SELECT (R449): Sets the selection mode and candidate. -/
  | refSelect (h : CmdHdr) (p : List Word)
  /-- REF_STATUS (R465): Returns DPLL, history, phase error and candidate states. -/
  | refStatus (h : CmdHdr) (p : List Word)
  /-- REF_OUT_SET (R460): Sets an output's configuration, frequency and offset. -/
  | refOutSet (h : CmdHdr) (p : List Word)
  /-- REF_REALIGN (R462): Schedules a step of the named outputs to the target plus offset. -/
  | refRealign (h : CmdHdr) (p : List Word)
  /-- REALIGN_STEP (R462): At the next target instant the outputs step into alignment. -/
  | realignStep (cmd : Bool) (mask : BitVec 6) (moves : List Word)
  /-- REF_ACTIVITY (R437): A candidate becomes active or inactive by its edge tests. -/
  | refActivity (c : Fin 12) (edges : Bool)
  /-- FREQ_GATE_END (R438): A frequency gate ends and the candidate's offset is judged against the limits. -/
  | freqGateEnd (c : Fin 12) (off : Word)
  /-- REF_QUALIFY_END (R439): The qualification or wait-to-restore time ends and the candidate qualifies. -/
  | refQualifyEnd (c : Fin 12)
  /-- DRIFT_EVAL (R441): Every 16 s the drift rate of each active candidate is evaluated. -/
  | driftEval
  /-- BUILDOUT_END (R450): The build-out window ends; the DPLL tracks the new candidate and selection is evaluated. -/
  | buildoutEnd
  /-- DPLL_LOCK (R453): Phase error has stayed within ±LOCK_THR for 10 s and the DPLL becomes LOCKED. -/
  | dpllLock
  /-- DPLL_UNLOCK (R453): Phase error exceeds four times LOCK_THR and the DPLL returns to ACQUIRING. -/
  | dpllUnlock (err : Word)
  /-- DPLL_HISTORY_TICK (R454): Once per second while LOCKED the DPLL frequency is recorded. -/
  | dpllHistoryTick (freq phase : Word)
  /-- CLAMP_EXPIRED (R458): Time in CLAMP reaches CLAMP_MAX and the output QL becomes SEC. -/
  | clampExpired
  /-- OSC_LOST (R459): OSC_IN becomes inactive in CLAMP and the DPLL continues against XTAL_IN. -/
  | oscLost
  /-- ESMC_RX (R444): A received ESMC PDU sets the candidate's received QL. -/
  | esmcRx (t : Fin 32) (ssm : BitVec 4) (enh : BitVec 8)
  /-- ESMC_TX (R446): Once per second or on QL change an ESMC PDU is sent on selected channels. -/
  | esmcTx
  /-- QL_TIMEOUT (R444): No valid QL message for 5 s makes the received code FAILED. -/
  | qlTimeout (k : Fin 4)
  /-- LINE_QL_RX (R445): A line QL message is received and sets candidate 8's received QL. -/
  | lineQlRx (b0 b1 b2 b3 : BitVec 8)
  /-- COMPAT_PULSE (R463): A source pulse out of window for 3 pulses causes a compatibility realignment. -/
  | compatPulse (o : Fin 6) (err : Word)
  /-- TOD_GET (R503): Returns the time of day, status and rate. -/
  | todGet (h : CmdHdr) (p : List Word)
  /-- TOD_STEP (R476): Requests a relative or absolute step of the time of day. -/
  | todStep (h : CmdHdr) (p : List Word)
  /-- TOD_STEP_APPLY (R475): The step takes effect at its tick or second boundary, setting VALID and clearing STEP_AVAIL. -/
  | todStepApply
  /-- TOD_REARM (R474): Begins a new period with one step available. -/
  | todRearm (h : CmdHdr) (p : List Word)
  /-- TOD_RATE_SET (R477): Sets the rate adjustment while the servo is disabled. -/
  | todRateSet (h : CmdHdr) (p : List Word)
  /-- PTP_CFG (R503): Sets clock, servo, limit and schedule settings. -/
  | ptpCfg (h : CmdHdr) (p : List Word)
  /-- PTP_PORT_SET (R490): Sets a PTP port's configuration. -/
  | ptpPortSet (h : CmdHdr) (p : List Word)
  /-- PTP_STATUS (R503): Returns servo, parent, grandmaster and port states. -/
  | ptpStatus (h : CmdHdr) (p : List Word)
  /-- LINE_DELAY (R503): Returns line measurements, asymmetry and hold state. -/
  | lineDelay (h : CmdHdr) (p : List Word)
  /-- ASYM_ACCEPT (R488): Accepts the measured or a host asymmetry and clears PATH_ASYM. -/
  | asymAccept (h : CmdHdr) (p : List Word)
  /-- SCHED_SET (R499): Arms a scheduled entry after its checks, or runs it late or refuses it. -/
  | schedSet (h : CmdHdr) (p : List Word)
  /-- SCHED_CANCEL (R503): Disarms the entries in the mask. -/
  | schedCancel (h : CmdHdr) (p : List Word)
  /-- SCHED_FIRE (R498): An armed entry's time is reached and its action runs. -/
  | schedFire (e : Fin 16)
  /-- TOD_LATCH (R473): A write of 1 to TOD_CTRL.LATCH copies the counter at the next tick. -/
  | todLatch (m : Mast)
  /-- TOD_CNT_CLR (R505): A write of 1 to TOD_CTRL.CNT_CLR clears the TOD counters. -/
  | todCntClr (m : Mast)
  /-- TIME_BASE_OK (R472): The time base becomes valid and BASE_OK is set. -/
  | timeBaseOk
  /-- LINE_STAMP_RX (R484): A line stamp message yields a measurement pair, tested for asymmetry and delayed to the servo. -/
  | lineStampRx (bytes : List (BitVec 8))
  /-- LINE_ANNOUNCE_RX (R491): Line Announce data is received for the BMCA. -/
  | lineAnnounceRx (bytes : List (BitVec 8))
  /-- ASYM_HOLD_END (R488): The acceptance hold expires and the new asymmetry takes effect if both ends stayed VALID. -/
  | asymHoldEnd
  /-- SERVO_SECOND (R494): Each second the servo filters the parent's offsets and steers the rate. -/
  | servoSecond
  /-- PARENT_MEASURE_DONE (R496): The 1 s measurement of a new parent ends; the servo steps, slaves or refuses. -/
  | parentMeasureDone
  /-- ANNOUNCE_TIMEOUT (R489): announceReceiptTimeout expires and the port's parent is lost. -/
  | announceTimeout (p : Fin 33)
  /-- HOLDOVER_EXPIRY (R493): The holdover time ends and clockClass 165 is sent. -/
  | holdoverExpiry
  /-- PAIR_CFG (R546): Sets pair control, timers, comparison, spare settings and mate identifier. -/
  | pairCfg (h : CmdHdr) (p : List Word)
  /-- PAIR_STATUS (R546): Returns pair status, epoch, journal and comparison counters. -/
  | pairStatus (h : CmdHdr) (p : List Word)
  /-- PAIR_SWITCH (R531): Requests a manual or forced switchover. -/
  | pairSwitch (h : CmdHdr) (p : List Word)
  /-- PAIR_PROMOTE (R511): Promotes a STALE or ISOLATED unit to ACTIVE. -/
  | pairPromote (h : CmdHdr) (p : List Word)
  /-- PAIR_OOS (R511): Takes the unit out of service. -/
  | pairOos (h : CmdHdr) (p : List Word)
  /-- PAIR_RETURN (R541): Starts the return of an OOS unit. -/
  | pairReturn (h : CmdHdr) (p : List Word)
  /-- PAIR_SNAPSHOT (R520): Cuts a snapshot on the active unit. -/
  | pairSnapshot (h : CmdHdr) (p : List Word)
  /-- PAIR_SPARES (R546): Returns every engine spare state word. -/
  | pairSpares (h : CmdHdr) (p : List Word)
  /-- PAIR_CNT_CLR (R548): A write of 1 to PAIR_CTRL.CNT_CLR clears every pair counter. -/
  | pairCntClr (m : Mast)
  /-- HEARTBEAT_TX (R513): Every 100 µs a HEARTBEAT is sent on Mitre. -/
  | heartbeatTx
  /-- HEARTBEAT_RX (R513): A HEARTBEAT is received with role, health, epoch and acknowledgement. -/
  | heartbeatRx (role : Fin 5) (healthy : Bool) (epoch ack : Word) (locked inFrame asks : Bool)
  /-- MITRE_LINK_LOST (R513): No valid HEARTBEAT for 1 ms or group down marks the Mitre link lost. -/
  | mitreLinkLost (groupDown : Bool)
  /-- MITRE_LINK_UP (R515): 10 ms of valid heartbeats and authentication bring the Mitre link up. -/
  | mitreLinkUp (x : MateHello)
  /-- PAIR_AUTH_RETRY (R515): Ten seconds after a failed exchange it is retried. -/
  | pairAuthRetry (x : MateHello)
  /-- PEG_TX (R514): Every 1 ms PEG_OUT sends a rising edge with a high time coding state. -/
  | pegTx
  /-- PEG_PULSE (R514): A Peg pulse is received and classified into a code. -/
  | pegPulse (us : Nat)
  /-- PEG_LOSS (R514): No Peg edge for 3 ms marks Peg lost. -/
  | pegLoss
  /-- DEATH_WIN_END (R511): DEATH_WIN ends after a link loss and the standby promotes or becomes STALE. -/
  | deathWinEnd
  /-- JOURNAL_ENTRY_RX (R519): A journal entry is received and applied in JSEQ order or held behind a gap. -/
  | journalEntryRx (jseq : Word) (g : Glue)
  /-- JOURNAL_ACK_TIMEOUT (R518): No acknowledgement within the timeout; the active proceeds and the standby becomes STALE. -/
  | journalAckTimeout
  /-- JOURNAL_RESEND (R519): The acknowledgement has not advanced for 200 µs and outstanding entries are resent. -/
  | journalResend
  /-- FAIL_RX (R532): A FAIL packet from the active triggers promotion. -/
  | failRx (row : Fin 8)
  /-- GAP_END (R533): GAP_HOLD ends; outputs are released and held actions run LATE. -/
  | gapEnd
  /-- SNAPSHOT_PERIOD (R520): The snapshot period expires and the active cuts a snapshot. -/
  | snapshotPeriod
  /-- SNAPSHOT_RX (R521): A complete snapshot arrives and is applied if its digest checks. -/
  | snapshotRx (x : Snapshot)
  /-- SNAPSHOT_TIMEOUT (R521): A snapshot has not fully arrived within the timeout and is discarded. -/
  | snapshotTimeout
  /-- DIGEST_BATCH_RX (R528): A batch of frame digests is received and compared. -/
  | digestBatchRx (d : Fin 2) (ds : List (BitVec 22 × BitVec 64 × Bool))
  /-- DIGEST_MISSING (R528): A digest has no partner within 200 µs and is counted. -/
  | digestMissing (d : Fin 2) (ftag : BitVec 22)
  /-- IDENTIFICATION_DONE (R529): Both identification results are known and Table 14.6 decides the outcome. -/
  | identificationDone (own mate : Bool)
  /-- PAIR_WTR_END (R541): The returning unit's wait-to-restore ends and it requests a planned handover if PRIMARY and REVERT. -/
  | pairWtrEnd
  /-- PLANNED_HANDOVER (R542): At boundary S the returning unit asserts TX_SEL and the old active releases. -/
  | plannedHandover
  /-- MITRE_TIME_STAMP (R524): Once per millisecond a Mitre stamp aligns the standby's time of day. -/
  | mitreTimeStamp (offset : Int) (rate : Word)
  /-- ENG_WATCHDOG (R632): An engine's watchdog expires and its task migrates to a spare. -/
  | engWatchdog (e : Fin 64)
  /-- ENG_ECC (R632): An uncorrectable local SRAM error fails an engine. -/
  | engEcc (e : Fin 64) (corrected : Bool)
  /-- ENG_TRAP (R632): A fatal trap fails an engine. -/
  | engTrap (e : Fin 64)
  /-- TASK_RESUME (R633): The spare resumes the task from its checkpoint. -/
  | taskResume (sp : Fin 64) (pass : Bool)
  /-- ENGINE_RETEST (R544): The retest interval expires and a FAULTY engine is retested. -/
  | engineRetest (e : Fin 64) (pass : Bool)
  /-- SPARE_WTR_END (R544): A RETURNING engine passes SPARE_WTR and takes its task back at the next boundary. -/
  | spareWtrEnd (e : Fin 64)
  /-- SHARED_SRAM_ERROR (R621): An uncorrectable error in a cluster's shared SRAM enters FAULT. -/
  | sharedSramError (c : Fin 8)
  /-- MON_CFG (R574): Sets a modulator's scan, chain, trigger, delay, period and PGA. -/
  | monCfg (h : CmdHdr) (p : List Word)
  /-- MON_START (R563): Starts or stops a modulator, restarting its chain. -/
  | monStart (h : CmdHdr) (p : List Word)
  /-- MON_READ (R569): Pops up to count words from a result queue. -/
  | monRead (h : CmdHdr) (p : List Word)
  /-- MON_TRIGGER (R554): Triggers the modulators in the mask. -/
  | monTrigger (h : CmdHdr) (p : List Word)
  /-- MON_SYSCAL (R571): Starts a system calibration of kind MOD, ZERO or FULL. -/
  | monSyscal (h : CmdHdr) (p : List Word)
  /-- MON_SYSCAL_DONE (R573): A system calibration completes, new set 7 values take effect and chains restart. -/
  | monSyscalDone (z0 f0 z1 f1 : Int)
  /-- MON_STATUS (R574): Returns Gauge status, queue states and trigger overrun counts. -/
  | monStatus (h : CmdHdr) (p : List Word)
  /-- MON_CNT_CLR (R576): A write of 1 to MON_CTRL.CNT_CLR clears LOST and trigger overrun counts. -/
  | monCntClr (m : Mast)
  /-- MON_INTERLEAVE_WRITE (R566): Writing MON_CTRL.INTERLEAVE turns interleaved conversion on or off, subject to refusal. -/
  | monInterleaveWrite (m : Mast) (v : Bool)
  /-- MON_Q_READ (R569): A low-word read of MON_Q[m] pops one result word or returns EMPTY. -/
  | monQRead (m : Mast) (q : Fin 2)
  /-- MON_TIMER_TRIGGER (R554): A modulator's trigger PERIOD expires. -/
  | monTimerTrigger (m : Fin 2)
  /-- DSYNC_PULSE (R557): A DSYNC falling edge within the width window triggers a burst with its PW tag. -/
  | dsyncPulse
  /-- MON_DELAY_END (R555): The trigger delay ends and a burst through the mask starts. -/
  | monDelayEnd (m : Fin 2)
  /-- MON_WORD (R561): A chain word is corrected and queued, discarded as lost or saturated. -/
  | monWord (m : Fin 2) (bs : List Bool) (t : BitVec 24)
  /-- OBS_SNAPSHOT (R582): Replaces the register bank with a new counter snapshot. -/
  | obsSnapshot (h : CmdHdr) (p : List Word)
  /-- OBS_CNT_READ (R583): Returns counters from a new snapshot or an HBM dump. -/
  | obsCntRead (h : CmdHdr) (p : List Word)
  /-- OBS_CNT_PRESET (R584): Presets a counter or clears wrap bits of one range. -/
  | obsCntPreset (h : CmdHdr) (p : List Word)
  /-- OBS_EVT_ROUTE (R587): Sets an event's queue, record and trigger route. -/
  | obsEvtRoute (h : CmdHdr) (p : List Word)
  /-- OBS_DUMP_CFG (R588): Sets dump destinations, period and sandbox counter rights. -/
  | obsDumpCfg (h : CmdHdr) (p : List Word)
  /-- OBS_BW_CFG (R591): Sets a bandwidth monitor's port, window and enable. -/
  | obsBwCfg (h : CmdHdr) (p : List Word)
  /-- CAP_CFG (R597): Sets captures, post-trigger lengths and trigger inputs. -/
  | capCfg (h : CmdHdr) (p : List Word)
  /-- CAP_TRIGGER (R587): Fires a trigger input with an optional mark. -/
  | capTrigger (h : CmdHdr) (p : List Word)
  /-- CAP_READ (R597): Starts a copy of a frozen window to host memory. -/
  | capRead (h : CmdHdr) (p : List Word)
  /-- CAP_READ_DONE (R597): The window copy ends and the final reply is sent. -/
  | capReadDone
  /-- CAP_REARM (R597): Discards a frozen window and rearms the capture. -/
  | capRearm (h : CmdHdr) (p : List Word)
  /-- REC_CFG (R605): Sets the recorder's enable, drives and log share. -/
  | recCfg (h : CmdHdr) (p : List Word)
  /-- REC_READ (R604): Starts a return of decrypted records by RSEQ or time range. -/
  | recRead (h : CmdHdr) (p : List Word)
  /-- REC_READ_DONE (R604): The record copy ends and the final reply is sent. -/
  | recReadDone (n first last : Nat) (part : Bool)
  /-- REC_HOLD (R602): Holds or releases a capture window on the drives. -/
  | recHold (h : CmdHdr) (p : List Word)
  /-- REC_STATUS (R605): Returns recorder and drive state. -/
  | recStatus (h : CmdHdr) (p : List Word)
  /-- OBS_CNT_CLR (R584): A write of 1 to OBS_CTRL.CNT_CLR presets observability and event counters to 0. -/
  | obsCntClr (m : Mast)
  /-- BW_CLEAR (R591): A write of 1 to OBS_CTRL.BW_CLR resets every MAX and MIN. -/
  | bwClear (m : Mast)
  /-- OBS_SNAP_TAKE (R582): A write of 1 to OBS_SNAP.TAKE replaces the register bank. -/
  | obsSnapTake (m : Mast)
  /-- OBS_PRESET (R584): A write of 1 to OBS_PRESET_CTRL.GO presets the indexed counter. -/
  | obsPreset (m : Mast) (index : BitVec 11)
  /-- WRAP_CLEAR (R580): Writing 1s to OBS_WRAP_CLR clears live wrap sticky bits. -/
  | wrapClear (m : Mast) (k : Fin 64) (mask : Word)
  /-- DUMP_PERIOD (R588): A whole multiple of PERIOD is reached and a dump is taken to each destination. -/
  | dumpPeriod
  /-- BW_WINDOW_END (R591): A bandwidth window ends; its count is latched and MAX and MIN updated. -/
  | bwWindowEnd (w : Fin 16) (bytes : Nat)
  /-- TRIGGER_INPUT_FIRE (R587): A trigger input fires and starts its captures, dump and mark. -/
  | triggerInputFire (t : Fin 8)
  /-- CAP_FROZEN (R596): The post-trigger length is written and the capture freezes, starting any automatic drain. -/
  | capFrozen (soft filled : Bool)
  /-- DRAIN_DONE (R597): A window's drain to the recorder ends and the capture rearms or stays frozen. -/
  | drainDone (soft : Bool) (ms : Nat)
  /-- SEGMENT_WRITE_DONE (R599): An encrypted 64 KiB segment is written to a drive. -/
  | segmentWriteDone
  /-- DRIVE_FAIL (R600): A drive fails or lacks its namespace; its segments move to the other drive. -/
  | driveFail (port : Fin 2) (nvmeError : Bool) (code : Word)
  /-- DRIVE_READY (R601): A drive is first used; its namespace is deallocated and SSEQ starts at 0. -/
  | driveReady (port : Fin 2) (blocks smart : Word)
  /-- EQ_COALESCE_END (R704): The coalescing time ends and the queue vector is signalled once more. -/
  | eqCoalesceEnd
  /-- CMD_DOORBELL (R611): A write of CMD_DB[r] publishes new command entries. -/
  | cmdDoorbell (m : Mast) (r : Fin 4) (v : BitVec 16)
  /-- COMMAND_FETCH (R618): The interpreter takes the next command when reply room allows and applies the acceptance checks. -/
  | commandFetch (pkt : List Word)
  /-- REPLY_WRITE (R726): A completed reply is written once enough entries are free, then its producer and vector. -/
  | replyWrite (r : Fin 4)
  /-- REPLY_ACK (R612): A write of CMD_RACK[r] frees reply entries. -/
  | replyAck (m : Mast) (r : Fin 4) (v : BitVec 16)
  /-- DUMP_CONS_WRITE (R615): A write of CMD_DUMP_CONS frees dump-ring space. -/
  | dumpConsWrite (m : Mast) (v : Word)
  /-- CMD_TIMEOUT (R623): A command exceeds its class timeout, ends TIMEOUT and its partial effects are undone. -/
  | cmdTimeout (r : Fin 4) (q : BitVec 16)
  /-- IDENTIFY (R640): Returns part code, identifier, Batten address and image versions. -/
  | identify (h : CmdHdr) (p : List Word)
  /-- STATUS (R640): Returns command status, Batten status and open sessions. -/
  | status (h : CmdHdr) (p : List Word)
  /-- SYS_STATE_SET (R620): Requests a host-driven device state transition. -/
  | sysStateSet (h : CmdHdr) (p : List Word)
  /-- SYS_SESSION_OPEN (R627): Opens a new session. -/
  | sysSessionOpen (h : CmdHdr) (p : List Word)
  /-- SYS_SESSION_CLOSE (R627): Closes a session. -/
  | sysSessionClose (h : CmdHdr) (p : List Word)
  /-- SYS_SLOT_RELEASE (R727): Releases reply slots holding final replies to the named SEQ range. -/
  | sysSlotRelease (h : CmdHdr) (p : List Word)
  /-- SYS_REG_ACCESS (R682): Performs up to 64 register reads and writes as master 2. -/
  | sysRegAccess (h : CmdHdr) (p : List Word)
  /-- BATTEN_STATUS (R640): Returns the ring count and identifier of each address. -/
  | battenStatus (h : CmdHdr) (p : List Word)
  /-- ENG_STATUS (R640): Returns every engine state and update progress. -/
  | engStatus (h : CmdHdr) (p : List Word)
  /-- ENG_CFG (R640): Sets watchdog and probation settings. -/
  | engCfg (h : CmdHdr) (p : List Word)
  /-- FW_STAGE (R634): Writes an engine image to the inactive bank for verification. -/
  | fwStage (h : CmdHdr) (p : List Word)
  /-- FW_STAGE_DONE (R649): The Keeper's verification of the staged image ends and the final reply is sent. -/
  | fwStageDone (hdr body : List Word)
  /-- FW_ACTIVATE (R635): Starts applying the staged image to clusters 6 down to 0. -/
  | fwActivate (h : CmdHdr) (p : List Word)
  /-- FW_PROBATION_END (R635): Probation ends; the old engine takes the new image and becomes the spare. -/
  | fwProbationEnd
  /-- FW_COMMIT (R647): Makes the new bank the boot bank and raises the engine counter. -/
  | fwCommit (h : CmdHdr) (p : List Word)
  /-- SBX_LOAD (R637): Starts loading a customer image onto sandbox engines. -/
  | sbxLoad (h : CmdHdr) (p : List Word)
  /-- SBX_LOAD_DONE (R637): The customer image is verified and loaded and the final reply is sent. -/
  | sbxLoadDone (hdr body : List Word)
  /-- SBX_CTRL (R639): Sets sandbox rights and starts or stops tasks. -/
  | sbxCtrl (h : CmdHdr) (p : List Word)
  /-- SBX_MSG (R637): Sends a message to a sandbox task and returns its messages. -/
  | sbxMsg (h : CmdHdr) (p : List Word) (taken : Nat) (posted : List (List (BitVec 8)))
  /-- BATTEN_RESTART (R629): A write of 1 to CMD_BAT_CFG.RESTART restarts enumeration. -/
  | battenRestart (m : Mast)
  /-- BATTEN_TOKEN_RX (R629): A TOKEN is received and handled for addressing or counting. -/
  | battenTokenRx (a n check : BitVec 8) (ids : List (BitVec 64))
  /-- BATTEN_PACKET_RX (R630): A Batten packet is taken or forwarded. -/
  | battenPacketRx (dst src : BitVec 8) (ring : Fin 4) (typ : BitVec 8) (body : List Word)
  /-- ENUM_TIMEOUT (R629): The TOKEN has not returned within the enumeration timeout. -/
  | enumTimeout
  /-- ENUM_RETRY (R629): 100 ms after an open ring the head restarts enumeration. -/
  | enumRetry
  /-- PCIE_HOST_RESET (R663): A PCIe hot reset, link down or FLR restarts only the host interface. -/
  | pcieHostReset (down : Bool)
  /-- SEC_STATUS (R671): Returns security status, reset cause and fused digests. -/
  | secStatus (h : CmdHdr) (p : List Word)
  /-- SEC_CERTS (R671): Returns the device's certificates. -/
  | secCerts (h : CmdHdr) (p : List Word)
  /-- ATTEST (R656): Returns a signed attestation report for a nonce. -/
  | attest (h : CmdHdr) (p : List Word)
  /-- SEC_SESSION_KEY (R655): Establishes a session's transport key by ECDH. -/
  | secSessionKey (h : CmdHdr) (p : List Word)
  /-- SEC_NONCE (R658): Issues a nonce for a lifecycle token. -/
  | secNonce (h : CmdHdr) (p : List Word)
  /-- SEC_LIFECYCLE (R658): Moves the lifecycle to a higher state with authorisation. -/
  | secLifecycle (h : CmdHdr) (p : List Word)
  /-- SEC_CUSTKEY (R671): Fuses the customer code key digest once. -/
  | secCustkey (h : CmdHdr) (p : List Word)
  /-- SEC_RESET (R663): Requests a device reset 10 ms after the reply. -/
  | secReset (h : CmdHdr) (p : List Word)
  /-- PWR_STATE_SET (R664): Starts a power-state transition. -/
  | pwrStateSet (h : CmdHdr) (p : List Word)
  /-- PWR_TRANSITION_DONE (R666): A power-state transition completes. -/
  | pwrTransitionDone (ms : Nat)
  /-- PWR_STATUS (R671): Returns power state and Tj per sensor. -/
  | pwrStatus (h : CmdHdr) (p : List Word)
  /-- PWR_CFG (R671): Sets thermal thresholds and PWM outputs. -/
  | pwrCfg (h : CmdHdr) (p : List Word)
  /-- LIFECYCLE_RESET (R659): Ten milliseconds after an accepted lifecycle change the device resets. -/
  | lifecycleReset
  /-- DEVICE_RESET (R663): Ten milliseconds after SEC_RESET the device resets and wipes. -/
  | deviceReset
  /-- POWER_ON_RESET (R663): PORST_N low for 1 ms or VDD_AON below its limit resets everything. -/
  | powerOnReset
  /-- DEBUG_RESET (R663): A JTAG system reset resets the device in BLANK or unlocked RETURN. -/
  | debugReset (unlocked : Bool)
  /-- WAKE (R668): WAKE_N low or PCIe idle exit wakes the device from PS4 with reset cause 4. -/
  | wake
  /-- PORST_RELEASE (R651): PORST_N is released and the Keeper ROM starts the boot. -/
  | porstRelease
  /-- FUSE_READ_DONE (R206): All fuse rows are read and each set is loaded from its highest valid row. -/
  | fuseReadDone
  /-- KEEPER_BOOT (R652): The boot record is read and the Keeper image verified, falling back to the other bank on failure. -/
  | keeperBoot
  /-- ENGINE_IMAGE_LOADED (R651): The engine image is verified and loaded and clusters 0–6 start. -/
  | engineImageLoaded
  /-- BOOT_READY (R651): The remaining islands are released, tests pass, pages 0–3 are keyed and the state becomes READY. -/
  | bootReady
  /-- SVN_RETRY (R650): Every 60 s a counter raise that could not be made is retried. -/
  | svnRetry
  /-- KEEPER_ALARM (R662): A Keeper lockstep mismatch or watchdog expiry zeroises keys and enters FAULT. -/
  | keeperAlarm (watchdog : Bool)
  /-- THERMAL_EVAL (R669): Every 100 µs Tj is evaluated against the warning and critical thresholds. -/
  | thermalEval (temps : List (BitVec 16))
  /-- SET_ALIAS_WRITE (R688): A write to a set alias ORs the value into the register's RW and RWL fields in one cycle. -/
  | setAliasWrite (m : Mast) (off : BitVec 25) (w : Word)
  /-- CLEAR_ALIAS_WRITE (R688): A write to a clear alias clears the given bits of the register's RW and RWL fields in one cycle. -/
  | clearAliasWrite (m : Mast) (off : BitVec 25) (w : Word)
  /-- LOW_WORD_READ (R691): A low-word read of a 64-bit register latches the high word into the master's read shadow. -/
  | lowWordRead (m : Mast) (off : BitVec 26)
  /-- HIGH_WORD_READ (R692): A high-word read returns the valid shadow or the live word with SHADOW_MISS. -/
  | highWordRead (m : Mast) (off : BitVec 26)
  /-- LOW_WORD_WRITE (R693): A low-word write of a 64-bit register is staged in the master's write shadow. -/
  | lowWordWrite (m : Mast) (off : BitVec 26) (w : Word)
  /-- HIGH_WORD_WRITE (R693): A high-word write applies with the staged low word, or alone with SHADOW_MISS. -/
  | highWordWrite (m : Mast) (off : BitVec 26) (w : Word)
  /-- ACC_SELF_READ (R681): A read of SYS_ACC_SELF returns and clears the reading master's access status. -/
  | accSelfRead (m : Mast)
  /-- INT_STAT_CLEAR (R701): A write to an INT_STAT, INT_EN or vector register clears bits and re-signals if the summary stays 1. -/
  | intStatClear (m : Mast) (b : Fin 19) (which : Fin 5) (w : Word)
  /-- SYS_LOCK_SET (R690): A write of 1 to a SYS_LOCK bit locks the block's RWL fields against other masters. -/
  | sysLockSet (m : Mast) (mask : BitVec 19)
  /-- EQ_CONS_WRITE (R704): A write of SYS_EQ_CONS frees event-queue entries. -/
  | eqConsWrite (m : Mast) (v : BitVec 16)
  /-- GPIO_EDGE (R697): A selected edge is seen on a GPIO pin and its status bit is set. -/
  | gpioEdge (n : Fin 16) (level : Bool)
  /-- MSIX_UNMASK (R702): Unmasking a vector with MSI-X enabled sends its pending message. -/
  | msixUnmask (v : Fin 64) (en fmask : Bool)
  /-- OSC_IN_ACTIVE (R459): OSC_IN becomes active again and the DPLL and monitors return to it without a phase step. -/
  | oscInActive
  /-- LINE_QL_MESSAGE_TX (R445): Once per second, and at once on a change of output QL, each end sends its line QL message in the line timing channel. -/
  | lineQlMessageTx
  /-- PCIE_LINK_UP (R628): The PCIe endpoint link comes up and the device becomes the head of its Batten ring with address 0. -/
  | pcieLinkUp
  /-- CLIENT_FRAME_INGRESS (R300): A whole OTUCm client frame of a type-6 channel arrives and is written to the ingress slip buffer, discarding the oldest if a fourth would be held. -/
  | clientFrameIngress (t : Fin 32) (frame : List (BitVec 8)) (gcc : List (List (BitVec 8)))
  /-- CLIENT_FRAME_EGRESS (R300): At each host-lane frame time of a type-6 channel the egress slip buffer is read, repeating the last frame when empty. -/
  | clientFrameEgress (t : Fin 32)
  deriving DecidableEq, Repr

end Sys2Proof
end

