-- ==== Sys2Proof/Decode.lean ====
section
/-!
DEFINITION. The command a word spells by the bits of the table of operations and events.
-/
namespace Sys2Proof

/-- The table gives none of its rows bits: a command comes as a bus access, a packet or an event, never as a word of its own.
So no word spells a command. -/
def decodeTableWord (_nbits _w : Nat) : Option Instr := none

end Sys2Proof
end

