-- ==== Sys2Proof/Machine/Bits.lean ====
section
/-!
DEFINITION. Bit fields, two's complement and word packing over natural numbers (R13, R707).
-/
namespace Sys2Proof.Machine

/-- The `width` bits of `v` from bit `lo` up (R13). -/
def bits (v lo width : Nat) : Nat := v / 2 ^ lo % 2 ^ width

/-- Bit `k` of `v`. -/
def bit (v k : Nat) : Bool := v / 2 ^ k % 2 == 1

/-- 1 for true, 0 for false, as a status bit shows it. -/
def b2n (b : Bool) : Nat := if b then 1 else 0

/-- `v` with bit `k` set. -/
def setBit (v k : Nat) : Nat := if bit v k then v else v + 2 ^ k

/-- `v` with bit `k` clear. -/
def clrBit (v k : Nat) : Nat := if bit v k then v - 2 ^ k else v

/-- `v` with bit `k` at `b`. -/
def putBit (v k : Nat) (b : Bool) : Nat := if b then setBit v k else clrBit v k

/-- The numbers `k < n` whose bit of `v` is 1, in increasing order. -/
def bitsSet (n v : Nat) : List Nat := (List.range n).filter (bit v)

/-- The `width`-bit two's complement pattern of `z`. -/
def toPat (width : Nat) (z : Int) : Nat := (z % (2 ^ width : Int)).toNat

/-- The integer a `width`-bit two's complement pattern stands for. -/
def ofPat (width v : Nat) : Int :=
  if 2 * (v % 2 ^ width) < 2 ^ width then (v % 2 ^ width : Int) else (v % 2 ^ width : Int) - 2 ^ width

/-- One payload word (R707). -/
def w32 (z : Int) : Nat := toPat 32 z

/-- Two payload words, low word first (R707). -/
def w64 (n : Nat) : List Nat := [n % 2 ^ 32, n / 2 ^ 32 % 2 ^ 32]

/-- A signed quantity wider than 32 bits as two payload words, low word first (R707). -/
def wi64 (z : Int) : List Nat := w64 (toPat 64 z)

/-- `v` held to at most `hi` (a saturating field). -/
def sat (hi v : Nat) : Nat := min hi v

/-- `z` held to [lo, hi]. -/
def clampI (lo hi z : Int) : Int := max lo (min hi z)

/-- The `k`-th word of a parameter list, 0 where there is none. -/
def nth (p : List Nat) (k : Nat) : Nat := p.getD k 0

/-- Bytes packed into 32-bit words, in their own order and padded to a whole word (R707). -/
def packBytes : List Nat → List Nat
  | [] => []
  | [a] => [a % 256]
  | [a, b] => [a % 256 + 256 * (b % 256)]
  | [a, b, c] => [a % 256 + 256 * (b % 256) + 65536 * (c % 256)]
  | a :: b :: c :: d :: r =>
    (a % 256 + 256 * (b % 256) + 65536 * (c % 256) + 16777216 * (d % 256)) :: packBytes r

/-- The four bytes of a word, lowest first (R616). -/
def wordBytes (w : Nat) : List Nat := [w % 256, w / 256 % 256, w / 65536 % 256, w / 16777216 % 256]

/-- A list cut into rows of `n`, as many as cover it. -/
def rowsOf (n : Nat) (xs : List Nat) : List (List Nat) := (List.range ((xs.length + n - 1) / n)).map (fun k => (xs.drop (n * k)).take n)

/-- The columns of a packet's bytes on `n` active lanes (R331, Table 9.3): SOP on the lowest active lane, the bytes one per lane in increasing lane
order from the lane after it, EOP after the last, PAD to the column's end. A control group stands at 256 above its byte. -/
def layPacket (n : Nat) (bytes : List Nat) : List (List Nat) :=
  let gs := 0x1FB :: bytes ++ [0x1FD]
  rowsOf n (gs ++ List.replicate ((n - gs.length % n) % n) 0x1F7)

/-- The bytes of a number, most significant first. -/
def bytesBE : Nat → Nat → List Nat
  | 0, _ => []
  | k + 1, v => v / 256 ^ k % 256 :: bytesBE k v

/-- The number that bytes spell, most significant first. -/
def ofBytes (bs : List Nat) : Nat := bs.foldl (fun a b => 256 * a + b % 256) 0

/-- A field of `n` bytes from byte `k` on, most significant first. -/
def beField (bs : List Nat) (k n : Nat) : Nat := ofBytes ((bs.drop k).take n)

/-- Bytes with the octet stuffing of RFC 1662 (R252). -/
def stuffed (bs : List Nat) : List Nat := bs.flatMap (fun b => if b = 0x7E ∨ b = 0x7D then [0x7D, b ^^^ 0x20] else [b])

/-- The nonce of R364 as three words whose bytes run in order: the salt XOR (DIR << 31), then a 64-bit counter, most significant byte first. -/
def nonceWords (salt dir ctr : Nat) : List Nat :=
  let be := fun (w : Nat) => w % 256 * 16777216 + w / 256 % 256 * 65536 + w / 65536 % 256 * 256 + w / 16777216 % 256
  [be (salt % 2 ^ 32 ^^^ (dir % 2 * 2 ^ 31)), be (ctr / 2 ^ 32 % 2 ^ 32), be (ctr % 2 ^ 32)]

end Sys2Proof.Machine
end

