-- ==== Sys2Proof/Machine/FecCode.lean ====
section
/-!
DEFINITION. The native FEC code: block geometry, labelling, the distribution matcher and the parity checks (R219 to R224).
-/
namespace Sys2Proof.Machine

/-! ### Geometry and labelling -/

/-- s_j: the payload symbol at which block `j` starts at entropy `e` (R221). -/
def blkStart (e j : Nat) : Nat := (j * 389760 + (e - 1)) / e

/-- L_j: the block's payload symbols. -/
def blkLen (e j : Nat) : Nat := blkStart e (j + 1) - blkStart e j

/-- 2U: label bits per symbol of constellation `c` (Table 6.2). -/
def labelBits (c : Nat) : Nat := 2 * (c + 1)

/-- S: sign positions per symbol. -/
def signsPer (c : Nat) : Nat := if c = 0 then 2 else 4

/-- Amplitude label bits of the dimensions of a symbol in their order: XI, XQ, YI, YQ; BPSK has no level in Q (Table 6.2). -/
def dimBits (c : Nat) : List Nat := if c = 0 then [0, 0] else [c / 2, (c + 1) / 2 - 1, c / 2, (c + 1) / 2 - 1]

/-- Whether constellation `c` at entropy `e` is shaped: a square constellation below its uniform entropy (R46, Table 2.3). -/
def shaped (c e : Nat) : Bool := (c == 3 || c == 5 || c == 7) && decide (e < 16 * (c + 1))

/-- A: amplitudes per dimension of a shaped constellation. -/
def ampLevels (c : Nat) : Nat := 2 ^ (c / 2)

/-- n: the block's label bits (R222). -/
def blkBits (c l : Nat) : Nat := l * labelBits c

/-- k_a: the net bits that go to the amplitudes (R223). -/
def ampNet (c l : Nat) : Nat := 42000 - (signsPer c * l - 6720)

/-- The sign position of parity bit `t` among `p` (R223). -/
def paritySign (p t : Nat) : Nat := t * p / 6720

/-- The least `t` whose parity position among `p` is not below `pos`: as many parity bits stand before `pos`. -/
def parityBefore (p pos : Nat) : Nat := (pos * 6720 + (p - 1)) / p

/-- The sign bit at position `pos` of `p`: parity where R223 puts it, else the next information sign bit. -/
def signAt (p : Nat) (par info : Nat → Bool) (pos : Nat) : Bool :=
  let t := parityBefore p pos
  if t < 6720 ∧ paritySign p t = pos then par t else info (pos - t)

/-- The binary-reflected Gray code of an amplitude index (R222). -/
def gray (a : Nat) : Nat := a ^^^ (a / 2)

/-- The amplitude index below 16 whose Gray code is `g`. -/
def ungray (g : Nat) : Nat := ((List.range 16).find? (fun a => gray a == g)).getD 0

/-- The number a list of bits makes, first bit most significant. -/
def ofBits (bs : List Bool) : Nat := bs.foldl (fun a b => 2 * a + b2n b) 0

/-- The `w` bits of `v`, most significant first. -/
def toBits (w v : Nat) : List Bool := (List.range w).map (fun k => bit v (w - 1 - k))

/-- A list of bits cut into groups of the listed widths. -/
def cut : List Nat → List Bool → List Nat
  | [], _ => []
  | w :: ws, bs => ofBits (bs.take w) :: cut ws (bs.drop w)

/-- The level of a dimension: sign bit 0 gives +(2a + 1), sign bit 1 −(2a + 1) (R222). -/
def level (sign : Bool) (a : Nat) : Int := if sign then -(2 * a + 1) else 2 * a + 1

/-! ### Distribution matcher (R224)

The energy (2a + 1)² is 8·w(a) + 1 with w(a) = a(a + 1)/2, so a bound B on the sum over N dimensions is a bound M on the sum of
w(a), and B = N + 8M. -/

/-- w(a). -/
def ampW (a : Nat) : Nat := a * (a + 1) / 2

/-- The sequences of `n` amplitudes below `lv` with Σ w(a) at most `m`. -/
def seqCount (lv : Nat) : Nat → Nat → Nat
  | 0, _ => 1
  | n + 1, m => (((List.range lv).filter (fun a => decide (ampW a ≤ m))).map (fun a => seqCount lv n (m - ampW a))).foldl (· + ·) 0

/-- M: the least bound that at least 2^`k` sequences of `n` amplitudes meet. -/
def matchM (lv n k : Nat) : Nat := ((List.range (n * ampW (lv - 1) + 1)).find? (fun m => decide (2 ^ k ≤ seqCount lv n m))).getD 0

/-- B of R224. -/
def matchB (lv n k : Nat) : Nat := n + 8 * matchM lv n k

/-- The amplitude at which rank `v` falls, and the rank left, when `n` amplitudes follow and the bound left is `m`. -/
def pickAmp (n m v : Nat) : Nat → List Nat → Nat × Nat × Nat
  | _, [] => (0, m, v)
  | lv, a :: as =>
    let c := if ampW a ≤ m then seqCount lv n (m - ampW a) else 0
    if v < c ∨ as = [] then (a, m - ampW a, v) else pickAmp n m (v - c) lv as

/-- The sequence of rank `v` among those of `n` amplitudes with Σ w(a) at most `m`, in ascending lexicographic order. -/
def unrank (lv : Nat) : Nat → Nat → Nat → List Nat
  | 0, _, _ => []
  | n + 1, m, v => let (a, m', v') := pickAmp n m v lv (List.range lv); a :: unrank lv n m' v'

/-- The rank of a sequence within the bound `m`; `none` where it exceeds the bound. -/
def rankOf (lv : Nat) : Nat → List Nat → Option Nat
  | _, [] => some 0
  | m, a :: as =>
    if m < ampW a then none else
    (rankOf lv (m - ampW a) as).map (fun r =>
      r + (((List.range a).filter (fun b => decide (ampW b ≤ m))).map (fun b => seqCount lv as.length (m - ampW b))).foldl (· + ·) 0)

/-! ### Parity checks (R220) -/

/-- The first, second and third row with an entry in information column `j`. -/
def colRows (j : Nat) : List Nat := let o := 1 + j / 16 % 7; [j % 16, (j % 16 + o) % 16, (j % 16 + o + 8) % 16]

/-- The shift of entry (i, j) of an information column. -/
def colShift (i j : Nat) : Nat := (37 * (i + 1) * (j + 1) + 11 * i * i) % 420

/-- The sum of bits. -/
def xorAll (bs : List Bool) : Bool := bs.foldl (fun a b => a != b) false

/-- Row `x` of base row `i` over the systematic part `f`. -/
def infoCheck (f : Nat → Bool) (i x : Nat) : Bool :=
  xorAll (((List.range 170).filter (fun j => (colRows j).contains i)).map (fun j => f (420 * j + (x + colShift i j) % 420)))

/-- Row `x` of base row `i` over the parity part: column 170 in rows 0 and 15 with shift 1 and row 8 with shift 0, column
170 + t in rows t − 1 and t with shift 0. `p t x` is bit `x` of parity column `t`. -/
def parCheck (p : Nat → Nat → Bool) (i x : Nat) : Bool :=
  ((if i = 0 ∨ i = 15 then p 0 ((x + 1) % 420) else if i = 8 then p 0 x else false) != (if i = 0 then false else p i x)) != (if i = 15 then false else p (i + 1) x)

/-- A check of the whole codeword. -/
def checkBit (f : Nat → Bool) (p : Nat → Nat → Bool) (i x : Nat) : Bool := infoCheck f i x != parCheck p i x

/-- Whether every check is zero. -/
def syndromeZero (f : Nat → Bool) (p : Nat → Nat → Bool) : Bool :=
  (List.range 16).all (fun i => (List.range 420).all (fun x => !checkBit f p i x))

/-- The parity the encoder computes: the unique one that sets every check to zero. Column 0 is the sum of all rows over the
systematic part; the others follow down the staircase. -/
def parityBit (f : Nat → Bool) : Nat → Nat → Bool
  | 0, x => xorAll ((List.range 16).map (fun i => infoCheck f i x))
  | 1, x => infoCheck f 0 x != xorAll ((List.range 16).map (fun i => infoCheck f i ((x + 1) % 420)))
  | t + 2, x => (infoCheck f (t + 1) x != parityBit f (t + 1) x) !=
      (if t + 1 = 8 then xorAll ((List.range 16).map (fun i => infoCheck f i x)) else false)

/-! ### Blocks -/

/-- The bits of a list as a function. -/
def bitsFn (bs : List Bool) : Nat → Bool := let a := bs.toArray; fun k => a.getD k false

/-- The label of a block of `l` symbols: the amplitude of every dimension in symbol order, then dimension order (R223, R224). -/
def blkAmps (c e l : Nat) (net : List Bool) : List Nat :=
  if shaped c e then unrank (ampLevels c) (4 * l) (matchM (ampLevels c) (4 * l) (ampNet c l)) (ofBits (net.take (ampNet c l)))
  else (cut (List.replicate l (dimBits c)).flatten net).map ungray

/-- The amplitude label bits of a block. -/
def ampLabels (c l : Nat) (amps : List Nat) : List Bool :=
  (((List.replicate l (dimBits c)).flatten).zip amps).flatMap (fun p => toBits p.1 (gray p.2))

/-- The sign bits of a block assembled from `net` (R223). -/
def blkSigns (c e l : Nat) (net : List Bool) : List Bool :=
  let info := net.drop (ampNet c l)
  let f := bitsFn (ampLabels c l (blkAmps c e l net) ++ info)
  let par := bitsFn ((List.range 6720).map (fun t => parityBit f (t / 420) (t % 420)))
  (List.range (signsPer c * l)).map (signAt (signsPer c * l) par (bitsFn info))

/-- The levels of a block: its dimensions with sign `signs` and amplitude `amps`; in BPSK Q is zero. -/
def blkLevels (c : Nat) (signs : List Bool) (amps : List Nat) : List Int :=
  let ls := (signs.zip amps).map (fun p => level p.1 p.2)
  if c = 0 then ls.flatMap (fun x => [x, 0]) else ls

/-- Whether hard decisions `h` over the transmitted codeword meet every check, `sent` of its bits being systematic. -/
def synOf (sent : Nat) (h : Nat → Bool) : Bool := syndromeZero (fun k => decide (k < sent) && h k) (fun t x => h (sent + 420 * t + x))

/-- What a decided block gives: whether its syndrome is zero, whether inverse matching fails, its net bits (R235, R236). `hard`
is the transmitted codeword: the systematic bits sent, then the parity. -/
structure BlkResult where
  synOk : Bool
  dmFail : Bool
  net : List Bool

/-- Checks a decided block and undoes its matching. `fr` stands for the rank of a sequence beyond the bound, which R236 does not
define: a free value. -/
def blkResult (c e l : Nat) (hard : List Bool) (fr : Nat) : BlkResult :=
  let sent := blkBits c l - 6720
  let h := bitsFn hard
  let na := sent - (signsPer c * l - 6720)
  let info := (hard.take sent).drop na
  let syn := synOf sent h
  if !shaped c e then ⟨syn, false, hard.take sent⟩
  else
    let amps := (cut (List.replicate l (dimBits c)).flatten hard).map ungray
    let k := ampNet c l
    match rankOf (ampLevels c) (matchM (ampLevels c) (4 * l) k) amps with
    | some r => ⟨syn, decide (2 ^ k ≤ r), toBits k (r % 2 ^ k) ++ info⟩
    | none => ⟨syn, true, toBits k (fr % 2 ^ k) ++ info⟩

end Sys2Proof.Machine
end

