-- ==== Sys2Proof/Config.lean ====
section
/-!
DEFINITION. The values the spec leaves open: constants without a body, so that no proof can see what they are. Each is named
by a log entry.
-/
namespace Sys2Proof.Config

/-- A fresh value the spec does not fix: `freeValue kind n` is the `n`-th one taken, of the sort `kind` (log entry 2). -/
opaque freeValue : Nat → Nat → Nat

/-- SHA-384 of words: its twelve words (log entry 5: the digest is not computed by the model). -/
opaque sha384 : List Nat → List Nat

/-- The payload of the section of category `cat` in a snapshot of format version `fmt` (R520), in words: of the registers and of what else the
category holds. Only Moavia reads it. -/
opaque snapSection (fmt cat : Nat) (regs : List (Nat × Nat)) (rest : List Nat) : List Nat

/-- Whether an ECDSA P-384 signature over words verifies with key `key` (log entry 5). -/
opaque ecdsaOk : Nat → List Nat → List Nat → Bool

/-- Word `k` of the `n`-th signature made with key `key` over words (log entry 5). -/
opaque ecdsaSign : Nat → List Nat → Nat → Nat → Nat

/-- AES-256-GCM decryption: key and nonce in words, additional data, ciphertext and tag in bytes; the plaintext's bytes, nothing where the tag fails (log
entry 5). -/
opaque gcmOpen : List Nat → List Nat → List Nat → List Nat → List Nat → Option (List Nat)

/-- AES-256-GCM encryption: key and nonce in words, additional data and plaintext in bytes; the bytes of the ciphertext, then of the tag (log entry 5). -/
opaque gcmSeal : List Nat → List Nat → List Nat → List Nat → List Nat

/-- The bytes of AES-256 in counter mode as GCM deciphers them, before any tag: key and nonce in words, ciphertext in bytes (log entry 5). -/
opaque gcmStream : List Nat → List Nat → List Nat → List Nat

/-- The public key of an ephemeral key pair, in words (log entry 5). -/
opaque pubKey : Nat → List Nat

/-- The ECDH shared secret of an own key pair and a public key, in words (log entry 5). -/
opaque ecdh : Nat → List Nat → List Nat

/-- The words of the device's certificate of a kind (R653, R654), from its fuses, or issued with its keys at a boot, told apart by the second
number (log entry 5). -/
opaque cert : Nat → Nat → List Nat

/-- Coefficient `j` of Gauge's FIR filter `f`, 1 COMP or 2 SHARP (R560; the spec gives the responses, not the coefficients). -/
opaque firCoef : Nat → Nat → BitVec 18

/-- The fused SHA-384 digest of the Salhorn firmware key (R649; log entry 5). -/
opaque fwKeyDigest : List Nat

/-- Tap `j` of the response filter of a polarisation, from the corrections of its two paths at the comb lines, gain in 0.01 dB and phase in
0.1 mrad (R68; log entry 146: the spec gives no design rule). -/
opaque respTap : List (Int × Int) → Nat → BitVec 32

/-- The error of bias loop `n` from the Gauge words of its dwell (R81; log entry 53: the spec gives no demodulation). -/
opaque biasError : Nat → List Nat → Int

/-- The lock threshold of the bias loops, in units of the error (R82; log entry 53: the spec gives no figure). -/
opaque biasThreshold : Nat

/-- What the laser at a port answers to a read of an ITLA register that does not change (R84): IOCap, FatalT, the limits (log entry 54). -/
opaque itlaReg : Nat → Nat → BitVec 16

/-- Whether the laser at a port supports FCF3 (R86; log entry 54). -/
opaque itlaFcf3 : Nat → Bool

/-- The bits below a soft word's that the native decoder holds (R231; log entry 147). -/
opaque decFraction : Nat

/-- The symbols that an interoperable mode sends for a block of net bits: cFEC or oFEC with its interleaving, frame structure and labelling (R226,
R227; log entry 75: the agreements are not in the spec). -/
opaque interopEncode : Nat → List Bool → List Int

/-- The soft words of an interoperable mode's received values at an inverse noise and a gain (R229; log entry 75). -/
opaque interopDemap : Nat → Nat → Nat → List Int → List Int

/-- The decisions of an interoperable decoder over soft words, and whether a component syndrome is left (R226, R227, R237), with its iteration
settings: of the staircase, or soft and hard (log entry 75). -/
opaque interopDecode : Nat → List Nat → List Int → List Bool × Bool

/-- The band edges in kHz that the coarse estimator fits to an averaged spectrum, for a mode, count, roll-off and Kerf (R107; log entry 148). -/
opaque bandEdges : Nat → Nat → Nat → Nat → List Nat → Int × Int

/-- The residual dispersion in ps/nm that the group-delay slope of a subcarrier's taps shows (R113; log entry 148). -/
opaque tapSlope : List (List (Int × Int)) → Int

/-- The natural frequency of a loop per update, in 2^-32, at a bandwidth in Hz: 0 the timing loop, 1 the frequency loop (R115, R144), 2 the servo, at
a bandwidth in 0.001 Hz (R494; log entry 148: the spec does not say what its bandwidth measures). -/
opaque natFreq : Nat → Nat → Nat

/-- The damping of the frequency loop and of the servo in 0.001 (R144, R494; log entry 148). -/
opaque crDamping : Nat
opaque servoDamping : Nat

/-- The timing error in 2^-32 symbols of a Gardner sum over a window, with the power of its samples (R116; log entry 148). -/
opaque gardnerGain : Int → Nat → Int

/-- The step of the tracking loop for a phase error, both in 2^-16 turns (R146; log entry 148). -/
opaque trackStep : Int → Int

/-- The symbols on each side over which the blind phase search sums (R146; log entry 148). -/
opaque bpsHalf : Nat

/-- The known symbol at a position of an interoperable mode, as the signs of XI, XQ, YI and YQ; none where it carries payload (log entry 75). -/
opaque interopKnown : Nat → Nat → List Int

/-- The pilot spacing of an interoperable mode in symbols (R150; log entry 75). -/
opaque interopSpacing : Nat → Nat

/-- The 64B/66B blocks of an Ethernet channel of a type and a lane arrangement, from the bits of its host lanes: RS(544,514) decoded, the transcoding
reversed, the alignment markers removed (R294; log entry 155: the codes are those of IEEE 802.3). -/
opaque ethIngress : Nat → Nat → List Bool → List (BitVec 66)

/-- The bits of its host lanes from the blocks of such a channel, with alignment markers, transcoding and RS-FEC (R294; log entry 155). -/
opaque ethEgress : Nat → Nat → List (BitVec 66) → List Bool

/-- The blocks waiting above which an idle one between packets is deleted (R294; log entry 155). -/
opaque idleDepth : Nat

/-- The bytes of an ODTUCn.ts in a frame, by GMP with its justification overhead, for a count of slots, an MFAS, BDI and STAT of the ODUflex, and
the payload bits it takes (R286; log entry 155: G.709's mapping is not in the spec). -/
opaque odtuMap : Nat → Nat → Bool → Nat → List Bool → List Nat

/-- The ODUflex payload bits, with their marks, that an ODTUCn.ts of a count of slots holds in a frame (R286; log entry 155). -/
opaque odtuUnmap : Nat → Nat → List (Nat × Bool) → List (Bool × Bool)

/-- Byte of the OPU overhead of a slice at a row and column 15 or 16, but the PSI (R290; log entry 155: what G.709 gives). -/
opaque opuByte : Nat → Nat → Nat → Nat → BitVec 8

/-- The line frame of an interoperable mode from the blocks of its channels in order, and those blocks, with their marks, from its bytes and its
marked words (R275, R288, R294; log entry 75). -/
opaque interopMap : Nat → List (List (BitVec 66)) → List Nat
opaque interopClients : Nat → List Nat → List Nat → List (List (BitVec 66 × Bool))

/-- What Veneer puts on the line for the bits of a bound channel in a frame, and what it delivers of such bits: its blocks, trailers and fill (R362
to R369; log entry 155: AES-GCM itself is not computed). -/
opaque cipherText : Nat → Nat → List Bool → List Bool
opaque plainText : Nat → Nat → List (Bool × Bool) → List (Bool × Bool)

/-- The bytes of a packet on Mitre: its kind, the generation of page 1's key and its content (R515, R519; log entry 155). Of the packets of Mitre the
spec gives no layout but that of the journal entry and the snapshot. -/
opaque mitreBytes : Nat → Nat → List Nat → List Nat

/-- The centre group delay in ps of a dispersion compensation (R481): receive or transmit, mode, OTUC count, ps/nm. The spec gives no
figure. -/
opaque groupDelay : Bool → Nat → Nat → Int → Nat

/-- REV of SYS_ID: each revision of silicon has its own, which the manual does not list (Table 19.8). -/
opaque revision : BitVec 8

end Sys2Proof.Config
end

