-- ==== Sys2Proof/Machine/Reg.lean ====
section
/-!
DEFINITION. What a register field is (R15, R16, R684): where it lies, its access code, its range and its reset value;
and the key under which the register file of State holds it.
-/
namespace Sys2Proof.Machine

/-- The access codes of Table 19.4. -/
inductive Acc where
  | rw | ro | wo | rc | w1c | w1s | rwl
  deriving DecidableEq, Repr

/-- A field of a field map (R16). `off` is the BAR0 offset of instance 0 of its register; instance `i` lies at
`off + i * stride` (R15). `range` is the range of R9, read as two's complement where `sgn`, as the intervals it is made of; none stated, none listed. -/
structure Fld where
  off : Nat
  lo : Nat
  width : Nat
  stride : Nat
  acc : Acc
  reset : Nat → Nat
  range : List (Int × Int)
  sgn : Bool

/-- A register of a register table: its name, its BAR0 offset, its stride, how many instances it has, its size in
bytes (4 or 8) and its fields. -/
structure RegDef where
  name : String
  off : Nat
  stride : Nat
  count : Nat
  size : Nat
  flds : List Fld

/-- The key of field `f` of instance `i`: the register's BAR0 offset, the field's lowest bit and its width, each in its
own digits, so that the order of keys is the order of addresses. -/
def Fld.key (f : Fld) (i : Nat) : Nat := ((f.off + i * f.stride) * 64 + f.lo) * 128 + f.width

/-- The width, in bits, of the field a key stands for. -/
def keyWidth (k : Nat) : Nat := k % 128

/-- The BAR0 offset of the register whose field a key stands for. -/
def keyOff (k : Nat) : Nat := k / 8192

/-- What the field reads as at reset: its reset value, cut to the field's width. -/
def Fld.dflt (f : Fld) (i : Nat) : Nat := f.reset i % 2 ^ f.width

/-- The number a raw field value stands for: two's complement where the field is signed. -/
def Fld.int (f : Fld) (v : Nat) : Int := if f.sgn then ofPat f.width v else (v % 2 ^ f.width : Int)

/-- Whether a raw value lies in the field's range (R8, R9). A field with no stated range takes every value it can hold. -/
def Fld.inRange (f : Fld) (v : Nat) : Bool :=
  f.range.isEmpty || f.range.any (fun r => decide (r.1 ≤ f.int v ∧ f.int v ≤ r.2))

/-- Whether software can set the field by a write (RW and RWL). -/
def Fld.writable (f : Fld) : Bool := f.acc == .rw || f.acc == .rwl

/-- The highest and lowest number a raw value may be: a field's whole word of two's complement. -/
def Fld.pat (f : Fld) (z : Int) : Nat := toPat f.width z

end Sys2Proof.Machine
end

