-- ==== Sys2Proof/Machine/RegsCli.lean ====
section
/-!
DEFINITION. The registers of the CLI block (Client) and their fields, from Tables 8.8 and 8.9: offset, bits, access code,
reset value and range, one definition a field.
-/
namespace Sys2Proof.Machine

def CLI_CTRL.CNT_CLR : Fld := ⟨0x600000, 0, 1, 0, .w1s, fun _ => 0, [], false⟩
def CLI_STATUS.ORPHAN : Fld := ⟨0x600004, 24, 8, 0, .ro, fun _ => 0, [], false⟩
def CLI_STATUS.LOAD : Fld := ⟨0x600004, 12, 10, 0, .ro, fun _ => 0, [], false⟩
def CLI_STATUS.CHANNELS : Fld := ⟨0x600004, 0, 6, 0, .ro, fun _ => 0, [], false⟩
def CLI_MOVE_STAT.TARGET_SF : Fld := ⟨0x600008, 16, 16, 0, .ro, fun _ => 0, [], false⟩
def CLI_MOVE_STAT.CD : Fld := ⟨0x600008, 11, 5, 0, .ro, fun _ => 0, [], false⟩
def CLI_MOVE_STAT.PENDING : Fld := ⟨0x600008, 7, 1, 0, .ro, fun _ => 0, [], false⟩
def CLI_MOVE_STAT.CHANNEL : Fld := ⟨0x600008, 0, 5, 0, .ro, fun _ => 0, [], false⟩
def CLI_INT_STAT.ALL : Fld := ⟨0x600020, 0, 8, 0, .w1c, fun _ => 0, [], false⟩
def CLI_INT_EN.ALL : Fld := ⟨0x600024, 0, 8, 0, .rw, fun _ => 0, [], false⟩
def CLI_CH_CFG.TYPE : Fld := ⟨0x601000, 28, 4, 0x40, .rwl, fun _ => 0, [(0, 7)], false⟩
def CLI_CH_CFG.RATE : Fld := ⟨0x601000, 26, 2, 0x40, .rwl, fun _ => 0, [(0, 2)], false⟩
def CLI_CH_CFG.M : Fld := ⟨0x601000, 21, 5, 0x40, .rwl, fun _ => 0, [(0, 16)], false⟩
def CLI_CH_CFG.LANE_BASE : Fld := ⟨0x601000, 16, 4, 0x40, .rwl, fun _ => 0, [], false⟩
def CLI_CH_CFG.SLOTS : Fld := ⟨0x601000, 0, 10, 0x40, .ro, fun _ => 0, [], false⟩
def CLI_CH_CTRL.LOOP : Fld := ⟨0x601004, 1, 2, 0x40, .rw, fun _ => 0, [(0, 2)], false⟩
def CLI_CH_CTRL.EN : Fld := ⟨0x601004, 0, 1, 0x40, .ro, fun _ => 0, [], false⟩
def CLI_CH_STAT.REALIGN : Fld := ⟨0x601008, 24, 8, 0x40, .ro, fun _ => 0, [], false⟩
def CLI_CH_STAT.RX_SLOTS : Fld := ⟨0x601008, 10, 10, 0x40, .ro, fun _ => 0, [], false⟩
def CLI_CH_STAT.SKEW : Fld := ⟨0x601008, 7, 1, 0x40, .ro, fun _ => 0, [], false⟩
def CLI_CH_STAT.LF_OUT : Fld := ⟨0x601008, 6, 1, 0x40, .ro, fun _ => 0, [], false⟩
def CLI_CH_STAT.ING_FAIL : Fld := ⟨0x601008, 5, 1, 0x40, .ro, fun _ => 0, [], false⟩
def CLI_CH_STAT.STATE : Fld := ⟨0x601008, 0, 4, 0x40, .ro, fun _ => 0, [], false⟩
def CLI_CH_SKEW.ALL : Fld := ⟨0x60100c, 0, 14, 0x40, .ro, fun _ => 0, [], false⟩
def CLI_TS_ADJ_IN.ALL : Fld := ⟨0x601010, 0, 32, 0x40, .rw, fun _ => 0, [(-1000000, 1000000)], true⟩
def CLI_TS_ADJ_EG.ALL : Fld := ⟨0x601014, 0, 32, 0x40, .rw, fun _ => 0, [(-1000000, 1000000)], true⟩
def CLI_EBLK.ALL : Fld := ⟨0x601020, 0, 48, 0x40, .ro, fun _ => 0, [], false⟩
def CLI_ING_ERR.ALL : Fld := ⟨0x601028, 0, 48, 0x40, .ro, fun _ => 0, [], false⟩
def CLI_SLIP_DROP.ALL : Fld := ⟨0x601030, 0, 48, 0x40, .ro, fun _ => 0, [], false⟩
def CLI_SLIP_REP.ALL : Fld := ⟨0x601038, 0, 48, 0x40, .ro, fun _ => 0, [], false⟩
def CLI_TS_OWNER.OWNER : Fld := ⟨0x603000, 0, 8, 0x4, .ro, fun _ => 255, [], false⟩
def CLI_TS_OWNER.PEND : Fld := ⟨0x603000, 8, 8, 0x4, .ro, fun _ => 255, [], false⟩
def CLI_RX_MSI.CHAN : Fld := ⟨0x604000, 0, 8, 0x4, .ro, fun _ => 0, [], false⟩
def CLI_RX_MSI.OCC : Fld := ⟨0x604000, 8, 1, 0x4, .ro, fun _ => 0, [], false⟩

def CLI.regs1 : List RegDef := [
  ⟨"CLI_CTRL", 0x600000, 0, 1, 4, [CLI_CTRL.CNT_CLR]⟩,
  ⟨"CLI_STATUS", 0x600004, 0, 1, 4, [CLI_STATUS.ORPHAN, CLI_STATUS.LOAD, CLI_STATUS.CHANNELS]⟩,
  ⟨"CLI_MOVE_STAT", 0x600008, 0, 1, 4, [CLI_MOVE_STAT.TARGET_SF, CLI_MOVE_STAT.CD, CLI_MOVE_STAT.PENDING, CLI_MOVE_STAT.CHANNEL]⟩,
  ⟨"CLI_INT_STAT", 0x600020, 0, 1, 4, [CLI_INT_STAT.ALL]⟩,
  ⟨"CLI_INT_EN", 0x600024, 0, 1, 4, [CLI_INT_EN.ALL]⟩,
  ⟨"CLI_CH_CFG", 0x601000, 0x40, 32, 4, [CLI_CH_CFG.TYPE, CLI_CH_CFG.RATE, CLI_CH_CFG.M, CLI_CH_CFG.LANE_BASE, CLI_CH_CFG.SLOTS]⟩,
  ⟨"CLI_CH_CTRL", 0x601004, 0x40, 32, 4, [CLI_CH_CTRL.LOOP, CLI_CH_CTRL.EN]⟩,
  ⟨"CLI_CH_STAT", 0x601008, 0x40, 32, 4, [CLI_CH_STAT.REALIGN, CLI_CH_STAT.RX_SLOTS, CLI_CH_STAT.SKEW, CLI_CH_STAT.LF_OUT, CLI_CH_STAT.ING_FAIL, CLI_CH_STAT.STATE]⟩,
  ⟨"CLI_CH_SKEW", 0x60100c, 0x40, 32, 4, [CLI_CH_SKEW.ALL]⟩,
  ⟨"CLI_TS_ADJ_IN", 0x601010, 0x40, 32, 4, [CLI_TS_ADJ_IN.ALL]⟩,
  ⟨"CLI_TS_ADJ_EG", 0x601014, 0x40, 32, 4, [CLI_TS_ADJ_EG.ALL]⟩,
  ⟨"CLI_EBLK", 0x601020, 0x40, 32, 8, [CLI_EBLK.ALL]⟩]

def CLI.regs2 : List RegDef := [
  ⟨"CLI_ING_ERR", 0x601028, 0x40, 32, 8, [CLI_ING_ERR.ALL]⟩,
  ⟨"CLI_SLIP_DROP", 0x601030, 0x40, 32, 8, [CLI_SLIP_DROP.ALL]⟩,
  ⟨"CLI_SLIP_REP", 0x601038, 0x40, 32, 8, [CLI_SLIP_REP.ALL]⟩,
  ⟨"CLI_TS_OWNER", 0x603000, 0x4, 640, 4, [CLI_TS_OWNER.OWNER, CLI_TS_OWNER.PEND]⟩,
  ⟨"CLI_RX_MSI", 0x604000, 0x4, 640, 4, [CLI_RX_MSI.CHAN, CLI_RX_MSI.OCC]⟩]

/-- The registers of the block, in address order. -/
def CLI.regs : List RegDef := CLI.regs1 ++ CLI.regs2

/-- The fields of CLI_MOVE_STAT, from the top bit down. -/
def CLI_MOVE_STAT.fields : List Fld := [CLI_MOVE_STAT.TARGET_SF, CLI_MOVE_STAT.CD, CLI_MOVE_STAT.PENDING, CLI_MOVE_STAT.CHANNEL]

end Sys2Proof.Machine
end

