-- ==== Sys2Proof/Machine/RegsCmd.lean ====
section
/-!
DEFINITION. The registers of the CMD block (Command rings) and their fields, from R641, R642, Tables 17.12 and 17.13: offset, bits, access code,
reset value and range, one definition a field.
-/
namespace Sys2Proof.Machine

def CMD_STATUS.SESSIONS : Fld := ⟨0x1200004, 24, 8, 0, .ro, fun _ => 0, [], false⟩
def CMD_STATUS.FAULT_CAUSE : Fld := ⟨0x1200004, 12, 4, 0, .ro, fun _ => 0, [], false⟩
def CMD_STATUS.RING_OK : Fld := ⟨0x1200004, 3, 1, 0, .ro, fun _ => 0, [], false⟩
def CMD_STATUS.STATE : Fld := ⟨0x1200004, 0, 3, 0, .ro, fun _ => 0, [], false⟩
def CMD_TIMEOUTS.C_TO : Fld := ⟨0x1200008, 12, 12, 0, .rw, fun _ => 600, [(1, 3600)], false⟩
def CMD_TIMEOUTS.A_TO : Fld := ⟨0x1200008, 0, 7, 0, .rw, fun _ => 10, [(1, 100)], false⟩
def CMD_BAT_STAT.HEAD : Fld := ⟨0x120000c, 31, 1, 0, .ro, fun _ => 0, [], false⟩
def CMD_BAT_STAT.ENUM : Fld := ⟨0x120000c, 28, 3, 0, .ro, fun _ => 0, [], false⟩
def CMD_BAT_STAT.COUNT : Fld := ⟨0x120000c, 14, 7, 0, .ro, fun _ => 0, [], false⟩
def CMD_BAT_STAT.ADDR : Fld := ⟨0x120000c, 0, 7, 0, .ro, fun _ => 127, [], false⟩
def CMD_BAT_CFG.RESTART : Fld := ⟨0x1200010, 31, 1, 0, .w1s, fun _ => 0, [], false⟩
def CMD_BAT_CFG.B_TO : Fld := ⟨0x1200010, 9, 10, 0, .rw, fun _ => 10, [(1, 100)], false⟩
def CMD_BAT_CFG.ENUM_TO : Fld := ⟨0x1200010, 0, 9, 0, .rw, fun _ => 20, [(1, 300)], false⟩
def CMD_INT_STAT.ALL : Fld := ⟨0x1200020, 0, 4, 0, .w1c, fun _ => 0, [], false⟩
def CMD_INT_EN.ALL : Fld := ⟨0x1200024, 0, 4, 0, .rw, fun _ => 0, [], false⟩
def CMD_CRC_DROP.ALL : Fld := ⟨0x1200030, 0, 48, 0, .ro, fun _ => 0, [], false⟩
def CMD_DUMP_BASE.ALL : Fld := ⟨0x1200040, 0, 64, 0, .rw, fun _ => 0, [], false⟩
def CMD_DUMP_CFG.EN : Fld := ⟨0x1200048, 31, 1, 0, .rw, fun _ => 0, [], false⟩
def CMD_DUMP_CFG.VEC : Fld := ⟨0x1200048, 16, 6, 0, .rw, fun _ => 4, [], false⟩
def CMD_DUMP_CFG.SIZE : Fld := ⟨0x1200048, 0, 16, 0, .rw, fun _ => 64, [(64, 65535)], false⟩
def CMD_DUMP_PROD.ALL : Fld := ⟨0x120004c, 0, 32, 0, .ro, fun _ => 0, [], false⟩
def CMD_DUMP_CONS.ALL : Fld := ⟨0x1200050, 0, 32, 0, .rw, fun _ => 0, [], false⟩
def CMD_CQ_BASE.ALL : Fld := ⟨0x1200100, 0, 64, 0x40, .rwl, fun _ => 0, [], false⟩
def CMD_RQ_BASE.ALL : Fld := ⟨0x1200108, 0, 64, 0x40, .rwl, fun _ => 0, [], false⟩
def CMD_WB_ADDR.ALL : Fld := ⟨0x1200110, 0, 64, 0x40, .rwl, fun _ => 0, [], false⟩
def CMD_RING_CFG.EN : Fld := ⟨0x1200118, 31, 1, 0x40, .rw, fun _ => 0, [], false⟩
def CMD_RING_CFG.VEC : Fld := ⟨0x1200118, 16, 6, 0x40, .rw, fun i => i, [], false⟩
def CMD_RING_CFG.RDEPTH : Fld := ⟨0x1200118, 8, 4, 0x40, .rwl, fun _ => 10, [(4, 10)], false⟩
def CMD_RING_CFG.CDEPTH : Fld := ⟨0x1200118, 0, 4, 0x40, .rwl, fun _ => 10, [(4, 10)], false⟩
def CMD_DB.PROD : Fld := ⟨0x120011c, 0, 16, 0x40, .wo, fun _ => 0, [], false⟩
def CMD_RING_STAT.CONS : Fld := ⟨0x1200120, 0, 16, 0x40, .ro, fun _ => 0, [], false⟩
def CMD_RING_STAT.RPROD : Fld := ⟨0x1200120, 16, 16, 0x40, .ro, fun _ => 0, [], false⟩
def CMD_RACK.ALL : Fld := ⟨0x1200124, 0, 16, 0x40, .rw, fun _ => 0, [], false⟩

def CMD.regs1 : List RegDef := [
  ⟨"CMD_STATUS", 0x1200004, 0, 1, 4, [CMD_STATUS.SESSIONS, CMD_STATUS.FAULT_CAUSE, CMD_STATUS.RING_OK, CMD_STATUS.STATE]⟩,
  ⟨"CMD_TIMEOUTS", 0x1200008, 0, 1, 4, [CMD_TIMEOUTS.C_TO, CMD_TIMEOUTS.A_TO]⟩,
  ⟨"CMD_BAT_STAT", 0x120000c, 0, 1, 4, [CMD_BAT_STAT.HEAD, CMD_BAT_STAT.ENUM, CMD_BAT_STAT.COUNT, CMD_BAT_STAT.ADDR]⟩,
  ⟨"CMD_BAT_CFG", 0x1200010, 0, 1, 4, [CMD_BAT_CFG.RESTART, CMD_BAT_CFG.B_TO, CMD_BAT_CFG.ENUM_TO]⟩,
  ⟨"CMD_INT_STAT", 0x1200020, 0, 1, 4, [CMD_INT_STAT.ALL]⟩,
  ⟨"CMD_INT_EN", 0x1200024, 0, 1, 4, [CMD_INT_EN.ALL]⟩,
  ⟨"CMD_CRC_DROP", 0x1200030, 0, 1, 8, [CMD_CRC_DROP.ALL]⟩,
  ⟨"CMD_DUMP_BASE", 0x1200040, 0, 1, 8, [CMD_DUMP_BASE.ALL]⟩,
  ⟨"CMD_DUMP_CFG", 0x1200048, 0, 1, 4, [CMD_DUMP_CFG.EN, CMD_DUMP_CFG.VEC, CMD_DUMP_CFG.SIZE]⟩,
  ⟨"CMD_DUMP_PROD", 0x120004c, 0, 1, 4, [CMD_DUMP_PROD.ALL]⟩,
  ⟨"CMD_DUMP_CONS", 0x1200050, 0, 1, 4, [CMD_DUMP_CONS.ALL]⟩,
  ⟨"CMD_CQ_BASE", 0x1200100, 0x40, 4, 8, [CMD_CQ_BASE.ALL]⟩]

def CMD.regs2 : List RegDef := [
  ⟨"CMD_RQ_BASE", 0x1200108, 0x40, 4, 8, [CMD_RQ_BASE.ALL]⟩,
  ⟨"CMD_WB_ADDR", 0x1200110, 0x40, 4, 8, [CMD_WB_ADDR.ALL]⟩,
  ⟨"CMD_RING_CFG", 0x1200118, 0x40, 4, 4, [CMD_RING_CFG.EN, CMD_RING_CFG.VEC, CMD_RING_CFG.RDEPTH, CMD_RING_CFG.CDEPTH]⟩,
  ⟨"CMD_DB", 0x120011c, 0x40, 4, 4, [CMD_DB.PROD]⟩,
  ⟨"CMD_RING_STAT", 0x1200120, 0x40, 4, 4, [CMD_RING_STAT.CONS, CMD_RING_STAT.RPROD]⟩,
  ⟨"CMD_RACK", 0x1200124, 0x40, 4, 4, [CMD_RACK.ALL]⟩]

/-- The registers of the block, in address order. -/
def CMD.regs : List RegDef := CMD.regs1 ++ CMD.regs2

end Sys2Proof.Machine
end

