-- ==== Sys2Proof/Machine/EvClass.lean ====
section
/-!
DEFINITION. The class of every event (R586, R730, Table 16.12), by the index x of OBS_EVT_ROUTE: the event's counter index less 1,024
(Table 16.1); and the phase and role of each slice at reset (R178).
-/
namespace Sys2Proof.Machine

/-- The classes of the events of unit class `c`, in order of their low bytes: 0 DEFECT, 1 FAULT, 2 CHANGE, 3 INFO. -/
def evClasses (c : Nat) : List Nat :=
  match c with
  | 1 => [2, 1, 2, 1]
  | 2 => [2, 2, 2, 2, 0, 0, 1, 3, 0, 2]
  | 3 => [2, 0, 0, 2, 0, 0, 2, 2, 3, 0, 0, 0, 3, 0, 0, 2, 0, 0, 0, 2, 2, 0, 2, 0]
  | 4 => [3, 3, 1, 2, 1, 0, 0, 3, 1, 0, 2]
  | 5 => [0, 0, 0, 0, 3]
  | 6 => [2, 0, 0, 0, 0, 0, 2, 3]
  | 7 => [2, 0, 2, 2, 0, 0, 0, 2]
  | 8 => [0, 0, 2, 0, 2, 3, 3, 3]
  | 9 => [2, 2, 0, 2, 0, 1, 0, 2, 0, 0, 1, 3]
  | 10 => [2, 2, 2, 0, 0, 0, 0, 0, 3, 0]
  | 11 => [2, 0, 0, 2, 2, 2, 2, 0, 2, 0, 2]
  | 12 => [2, 0, 0, 2, 2, 2, 2, 3]
  | 13 => [2, 2, 2, 0, 1, 0, 0, 2, 1, 0, 0, 1, 2, 1]
  | 14 => [3, 0, 0, 0, 2]
  | 15 => [3, 3, 3, 3, 0, 0, 0, 1, 2, 3]
  | 16 => [1, 1, 3, 1, 2, 1, 3]
  | 17 => [1, 2, 1, 2, 3]
  | 18 => [2, 0, 0, 0]
  | _ => []

/-- Whether some event uses route entry `x`. -/
def evUsed (x : Nat) : Bool := decide (x % 32 < (evClasses (x / 32 + 1)).length)

/-- The class code of the event of route entry `x`; 0 where none uses it (R730). -/
def evClass (x : Nat) : Nat := (evClasses (x / 32 + 1)).getD (x % 32) 0

/-- The phase slice `n` serves at reset: slices 0 to 63 of each half-converter serve phases 0 to 63, the other two none. -/
def sliceResetPhase (n : Nat) : Nat := if n % 66 < 64 then n % 66 else 255

/-- The role of slice `n` at reset: ACTIVE, or SPARE for slices 64 and 65 of each half-converter. -/
def sliceResetRole (n : Nat) : Nat := if n % 66 < 64 then 0 else 1

end Sys2Proof.Machine
end

