-- ==== Sys2Proof/Machine/RegsCnv.lean ====
section
/-!
DEFINITION. The registers of the CNV block (Converters and calibration) and their fields, from Tables 5.11 and 5.12: offset, bits, access code,
reset value and range, one definition a field.
-/
namespace Sys2Proof.Machine

def CNV_CTRL.BG_DAC : Fld := ⟨0x300000, 4, 4, 0, .rw, fun _ => 15, [], false⟩
def CNV_CTRL.BG_ADC : Fld := ⟨0x300000, 0, 4, 0, .rw, fun _ => 15, [], false⟩
def CNV_STATUS.UNCAL : Fld := ⟨0x300004, 8, 8, 0, .ro, fun _ => 255, [], false⟩
def CNV_STATUS.FG_BUSY : Fld := ⟨0x300004, 7, 1, 0, .ro, fun _ => 0, [], false⟩
def CNV_STATUS.UNTRACEABLE : Fld := ⟨0x300004, 6, 1, 0, .ro, fun _ => 0, [], false⟩
def CNV_STATUS.NOSPARE : Fld := ⟨0x300004, 5, 1, 0, .ro, fun _ => 0, [], false⟩
def CNV_STATUS.REF_BAD : Fld := ⟨0x300004, 4, 1, 0, .ro, fun _ => 0, [], false⟩
def CNV_BG_CFG.PERIOD : Fld := ⟨0x300008, 20, 12, 0, .rw, fun _ => 10, [(1, 3600)], false⟩
def CNV_BG_CFG.TEMP_THR : Fld := ⟨0x300008, 15, 5, 0, .rw, fun _ => 5, [(1, 20)], false⟩
def CNV_THR.HANDOVER : Fld := ⟨0x30000c, 24, 8, 0, .rw, fun _ => 42, [(30, 50)], false⟩
def CNV_THR.MM_ALARM : Fld := ⟨0x30000c, 16, 8, 0, .rw, fun _ => 40, [(25, 55)], false⟩
def CNV_THR.SPUR_ALARM : Fld := ⟨0x30000c, 8, 8, 0, .rw, fun _ => 50, [(30, 70)], false⟩
def CNV_THR.FG_TO : Fld := ⟨0x30000c, 0, 8, 0, .rw, fun _ => 2, [(1, 10)], false⟩
def CNV_REF_CFG.VREF_UV : Fld := ⟨0x300010, 0, 21, 0, .rw, fun _ => 1000000, [(500000, 1250000)], false⟩
def CNV_FREF_CFG.FREF_HZ : Fld := ⟨0x300014, 0, 28, 0, .rw, fun _ => 10000000, [(1000000, 156250000)], false⟩
def CNV_REF_STAT.VDEV : Fld := ⟨0x300018, 16, 16, 0, .ro, fun _ => 0, [], false⟩
def CNV_REF_STAT.FDEV : Fld := ⟨0x300018, 0, 16, 0, .ro, fun _ => 0, [], false⟩
def CNV_WTR.WTR : Fld := ⟨0x30001c, 20, 12, 0, .rw, fun _ => 300, [(60, 3600)], false⟩
def CNV_WTR.RETEST : Fld := ⟨0x30001c, 8, 12, 0, .rw, fun _ => 60, [(10, 3600)], false⟩
def CNV_Q_SNAP.GEN : Fld := ⟨0x300020, 16, 16, 0, .ro, fun _ => 0, [], false⟩
def CNV_Q_SNAP.TAKE : Fld := ⟨0x300020, 0, 1, 0, .w1s, fun _ => 0, [], false⟩
def CNV_INT_STAT.ALL : Fld := ⟨0x300030, 0, 11, 0, .w1c, fun _ => 0, [], false⟩
def CNV_INT_EN.ALL : Fld := ⟨0x300034, 0, 11, 0, .rw, fun _ => 0, [], false⟩
def CNV_HALF_Q.MM : Fld := ⟨0x300100, 24, 8, 0x10, .ro, fun _ => 0, [], false⟩
def CNV_HALF_Q.SPUR : Fld := ⟨0x300100, 16, 8, 0x10, .ro, fun _ => 0, [], false⟩
def CNV_HALF_Q.SPARES : Fld := ⟨0x300100, 8, 8, 0x10, .ro, fun _ => 2, [], false⟩
def CNV_FUSE_STAT.SOURCE : Fld := ⟨0x300200, 24, 4, 0x4, .ro, fun _ => 0, [], false⟩
def CNV_FUSE_STAT.REFINED : Fld := ⟨0x300200, 23, 1, 0x4, .ro, fun _ => 0, [], false⟩
def CNV_FUSE_STAT.LATEST : Fld := ⟨0x300200, 20, 3, 0x4, .ro, fun _ => 0, [], false⟩
def CNV_FUSE_STAT.NEXT : Fld := ⟨0x300200, 16, 4, 0x4, .ro, fun _ => 0, [], false⟩
def CNV_FUSE_STAT.BAD : Fld := ⟨0x300200, 8, 8, 0x4, .ro, fun _ => 0, [], false⟩
def CNV_SLICE.GAIN : Fld := ⟨0x301000, 22, 10, 0x4, .ro, fun _ => 0, [], true⟩
def CNV_SLICE.OFFSET : Fld := ⟨0x301000, 12, 10, 0x4, .ro, fun _ => 0, [], true⟩
def CNV_SLICE.TIMING : Fld := ⟨0x301000, 0, 12, 0x4, .ro, fun _ => 0, [], true⟩
def CNV_SLICE_PH.PHASE : Fld := ⟨0x302000, 8, 8, 0x4, .ro, fun i => sliceResetPhase i, [], false⟩
def CNV_SLICE_PH.ROLE : Fld := ⟨0x302000, 0, 3, 0x4, .ro, fun i => sliceResetRole i, [], false⟩

def CNV.regs1 : List RegDef := [
  ⟨"CNV_CTRL", 0x300000, 0, 1, 4, [CNV_CTRL.BG_DAC, CNV_CTRL.BG_ADC]⟩,
  ⟨"CNV_STATUS", 0x300004, 0, 1, 4, [CNV_STATUS.UNCAL, CNV_STATUS.FG_BUSY, CNV_STATUS.UNTRACEABLE, CNV_STATUS.NOSPARE, CNV_STATUS.REF_BAD]⟩,
  ⟨"CNV_BG_CFG", 0x300008, 0, 1, 4, [CNV_BG_CFG.PERIOD, CNV_BG_CFG.TEMP_THR]⟩,
  ⟨"CNV_THR", 0x30000c, 0, 1, 4, [CNV_THR.HANDOVER, CNV_THR.MM_ALARM, CNV_THR.SPUR_ALARM, CNV_THR.FG_TO]⟩,
  ⟨"CNV_REF_CFG", 0x300010, 0, 1, 4, [CNV_REF_CFG.VREF_UV]⟩,
  ⟨"CNV_FREF_CFG", 0x300014, 0, 1, 4, [CNV_FREF_CFG.FREF_HZ]⟩,
  ⟨"CNV_REF_STAT", 0x300018, 0, 1, 4, [CNV_REF_STAT.VDEV, CNV_REF_STAT.FDEV]⟩,
  ⟨"CNV_WTR", 0x30001c, 0, 1, 4, [CNV_WTR.WTR, CNV_WTR.RETEST]⟩,
  ⟨"CNV_Q_SNAP", 0x300020, 0, 1, 4, [CNV_Q_SNAP.GEN, CNV_Q_SNAP.TAKE]⟩,
  ⟨"CNV_INT_STAT", 0x300030, 0, 1, 4, [CNV_INT_STAT.ALL]⟩,
  ⟨"CNV_INT_EN", 0x300034, 0, 1, 4, [CNV_INT_EN.ALL]⟩,
  ⟨"CNV_HALF_Q", 0x300100, 0x10, 8, 4, [CNV_HALF_Q.MM, CNV_HALF_Q.SPUR, CNV_HALF_Q.SPARES]⟩]

def CNV.regs2 : List RegDef := [
  ⟨"CNV_FUSE_STAT", 0x300200, 0x4, 8, 4, [CNV_FUSE_STAT.SOURCE, CNV_FUSE_STAT.REFINED, CNV_FUSE_STAT.LATEST, CNV_FUSE_STAT.NEXT, CNV_FUSE_STAT.BAD]⟩,
  ⟨"CNV_SLICE", 0x301000, 0x4, 528, 4, [CNV_SLICE.GAIN, CNV_SLICE.OFFSET, CNV_SLICE.TIMING]⟩,
  ⟨"CNV_SLICE_PH", 0x302000, 0x4, 528, 4, [CNV_SLICE_PH.PHASE, CNV_SLICE_PH.ROLE]⟩]

/-- The registers of the block, in address order. -/
def CNV.regs : List RegDef := CNV.regs1 ++ CNV.regs2

end Sys2Proof.Machine
end

