-- ==== Sys2Proof/Machine/RegsEng.lean ====
section
/-!
DEFINITION. The registers of the ENG block (Engines) and their fields, from R641, R642, Tables 17.12 and 17.13: offset, bits, access code,
reset value and range, one definition a field.
-/
namespace Sys2Proof.Machine

def ENG_FW_STAT.PHASE : Fld := ⟨0xf00004, 28, 4, 0, .ro, fun _ => 0, [], false⟩
def ENG_FW_STAT.BANK : Fld := ⟨0xf00004, 24, 4, 0, .ro, fun _ => 0, [], false⟩
def ENG_FW_STAT.CLUSTER : Fld := ⟨0xf00004, 16, 3, 0, .ro, fun _ => 0, [], false⟩
def ENG_FW_STAT.ENGINE : Fld := ⟨0xf00004, 0, 6, 0, .ro, fun _ => 0, [], false⟩
def ENG_FW_CFG.PROBATION : Fld := ⟨0xf00008, 0, 10, 0, .rw, fun _ => 2, [(1, 600)], false⟩
def ENG_WDOG.PERIOD : Fld := ⟨0xf0000c, 0, 7, 0, .rw, fun _ => 10, [(1, 100)], false⟩
def ENG_SBX_CFG.EN : Fld := ⟨0xf00010, 31, 1, 0, .rw, fun _ => 0, [], false⟩
def ENG_SBX_CFG.HBM_GB : Fld := ⟨0xf00010, 20, 4, 0, .rw, fun _ => 0, [(0, 8)], false⟩
def ENG_SBX_CFG.CAP : Fld := ⟨0xf00010, 19, 1, 0, .rw, fun _ => 0, [], false⟩
def ENG_SBX_CFG.MASK_HI : Fld := ⟨0xf00010, 17, 2, 0, .rw, fun _ => 0, [], false⟩
def ENG_SBX_CFG.MASK_LO : Fld := ⟨0xf00010, 0, 16, 0, .rw, fun _ => 0, [], false⟩
def ENG_SBX_GPIO.GPIO : Fld := ⟨0xf00014, 0, 16, 0, .rw, fun _ => 0, [], false⟩
def ENG_SBX_GPIO.PWM : Fld := ⟨0xf00014, 16, 4, 0, .rw, fun _ => 0, [], false⟩
def ENG_SBX_DENY.READS : Fld := ⟨0xf00018, 0, 16, 0, .ro, fun _ => 0, [], false⟩
def ENG_SBX_DENY.WRITES : Fld := ⟨0xf00018, 16, 16, 0, .ro, fun _ => 0, [], false⟩
def ENG_INT_STAT.ALL : Fld := ⟨0xf00020, 0, 7, 0, .w1c, fun _ => 0, [], false⟩
def ENG_INT_EN.ALL : Fld := ⟨0xf00024, 0, 7, 0, .rw, fun _ => 0, [], false⟩
def ENG_CORE.STATE : Fld := ⟨0xf00100, 28, 4, 0x10, .ro, fun i => if i % 8 = 7 then 1 else if 56 ≤ i then 6 else 0, [], false⟩
def ENG_CORE.CAUSE : Fld := ⟨0xf00100, 24, 4, 0x10, .ro, fun _ => 0, [], false⟩
def ENG_CORE.SBE : Fld := ⟨0xf00100, 16, 8, 0x10, .ro, fun _ => 0, [], false⟩
def ENG_CORE.IMAGE : Fld := ⟨0xf00100, 15, 1, 0x10, .ro, fun _ => 0, [], false⟩
def ENG_CORE.TASK : Fld := ⟨0xf00100, 0, 8, 0x10, .ro, fun _ => 255, [], false⟩

def ENG.regs1 : List RegDef := [
  ⟨"ENG_FW_STAT", 0xf00004, 0, 1, 4, [ENG_FW_STAT.PHASE, ENG_FW_STAT.BANK, ENG_FW_STAT.CLUSTER, ENG_FW_STAT.ENGINE]⟩,
  ⟨"ENG_FW_CFG", 0xf00008, 0, 1, 4, [ENG_FW_CFG.PROBATION]⟩,
  ⟨"ENG_WDOG", 0xf0000c, 0, 1, 4, [ENG_WDOG.PERIOD]⟩,
  ⟨"ENG_SBX_CFG", 0xf00010, 0, 1, 4, [ENG_SBX_CFG.EN, ENG_SBX_CFG.HBM_GB, ENG_SBX_CFG.CAP, ENG_SBX_CFG.MASK_HI, ENG_SBX_CFG.MASK_LO]⟩,
  ⟨"ENG_SBX_GPIO", 0xf00014, 0, 1, 4, [ENG_SBX_GPIO.GPIO, ENG_SBX_GPIO.PWM]⟩,
  ⟨"ENG_SBX_DENY", 0xf00018, 0, 1, 4, [ENG_SBX_DENY.READS, ENG_SBX_DENY.WRITES]⟩,
  ⟨"ENG_INT_STAT", 0xf00020, 0, 1, 4, [ENG_INT_STAT.ALL]⟩,
  ⟨"ENG_INT_EN", 0xf00024, 0, 1, 4, [ENG_INT_EN.ALL]⟩,
  ⟨"ENG_CORE", 0xf00100, 0x10, 64, 4, [ENG_CORE.STATE, ENG_CORE.CAUSE, ENG_CORE.SBE, ENG_CORE.IMAGE, ENG_CORE.TASK]⟩]

/-- The registers of the block, in address order. -/
def ENG.regs : List RegDef := ENG.regs1

end Sys2Proof.Machine
end

