-- ==== Sys2Proof/Machine/RegsFec.lean ====
section
/-!
DEFINITION. The registers of the FEC block (FEC) and their fields, from Tables 6.7 and 6.8: offset, bits, access code,
reset value and range, one definition a field.
-/
namespace Sys2Proof.Machine

def FEC_CTRL.EARLY_STOP : Fld := ⟨0x400000, 1, 1, 0, .rw, fun _ => 1, [], false⟩
def FEC_CTRL.CNT_CLR : Fld := ⟨0x400000, 0, 1, 0, .w1s, fun _ => 0, [], false⟩
def FEC_STATUS.INTEROP : Fld := ⟨0x400004, 17, 1, 0, .ro, fun _ => 0, [], false⟩
def FEC_STATUS.DEG : Fld := ⟨0x400004, 16, 1, 0, .ro, fun _ => 0, [], false⟩
def FEC_STATUS.DEC_ACT : Fld := ⟨0x400004, 0, 16, 0, .ro, fun _ => 0, [], false⟩
def FEC_DEC_CFG.ITER_MAX : Fld := ⟨0x400008, 16, 5, 0, .rw, fun _ => 12, [(4, 20)], false⟩
def FEC_DEC_CFG.NORM : Fld := ⟨0x400008, 8, 4, 0, .rw, fun _ => 12, [(0, 0), (8, 15)], false⟩
def FEC_DEC_CFG.SD_ITER : Fld := ⟨0x400008, 6, 2, 0, .rw, fun _ => 3, [(0, 0), (2, 3)], false⟩
def FEC_DEC_CFG.HD_ITER : Fld := ⟨0x400008, 3, 3, 0, .rw, fun _ => 2, [(0, 4)], false⟩
def FEC_DEC_CFG.STC_ITER : Fld := ⟨0x400008, 0, 3, 0, .rw, fun _ => 3, [(2, 6)], false⟩
def FEC_LLR_CFG.GAIN : Fld := ⟨0x40000c, 0, 7, 0, .rw, fun _ => 16, [(4, 64)], false⟩
def FEC_DEG_SET.MANT : Fld := ⟨0x400010, 16, 8, 0, .rw, fun _ => 15, [(10, 99)], false⟩
def FEC_DEG_SET.EXP : Fld := ⟨0x400010, 12, 4, 0, .rw, fun _ => 2, [(2, 13)], false⟩
def FEC_DEG_SET.N : Fld := ⟨0x400010, 0, 4, 0, .rw, fun _ => 3, [(1, 10)], false⟩
def FEC_DEG_CLR.MANT : Fld := ⟨0x400014, 16, 8, 0, .rw, fun _ => 10, [(10, 99)], false⟩
def FEC_DEG_CLR.EXP : Fld := ⟨0x400014, 12, 4, 0, .rw, fun _ => 2, [(2, 13)], false⟩
def FEC_SEC_BER.MANT : Fld := ⟨0x400018, 16, 8, 0, .ro, fun _ => 0, [], false⟩
def FEC_SEC_BER.EXP : Fld := ⟨0x400018, 12, 4, 0, .ro, fun _ => 0, [], false⟩
def FEC_INJ.MODE : Fld := ⟨0x40001c, 26, 2, 0, .rw, fun _ => 0, [(0, 2)], false⟩
def FEC_INJ.RATE : Fld := ⟨0x40001c, 22, 4, 0, .rw, fun _ => 6, [(2, 9)], false⟩
def FEC_INJ.ONE_SHOT : Fld := ⟨0x40001c, 21, 1, 0, .w1s, fun _ => 0, [], false⟩
def FEC_INJ.SC_MASK : Fld := ⟨0x40001c, 0, 16, 0, .rw, fun _ => 0, [], false⟩
def FEC_INT_STAT.ALL : Fld := ⟨0x400020, 0, 5, 0, .w1c, fun _ => 0, [], false⟩
def FEC_INT_EN.ALL : Fld := ⟨0x400024, 0, 5, 0, .rw, fun _ => 0, [], false⟩
def FEC_BLOCKS.ALL : Fld := ⟨0x400100, 0, 48, 0x40, .ro, fun _ => 0, [], false⟩
def FEC_BITS.ALL : Fld := ⟨0x400108, 0, 48, 0x40, .ro, fun _ => 0, [], false⟩
def FEC_ERRS.ALL : Fld := ⟨0x400110, 0, 48, 0x40, .ro, fun _ => 0, [], false⟩
def FEC_ERAS.ALL : Fld := ⟨0x400118, 0, 48, 0x40, .ro, fun _ => 0, [], false⟩
def FEC_UNCORR.ALL : Fld := ⟨0x400120, 0, 48, 0x40, .ro, fun _ => 0, [], false⟩
def FEC_DMFAIL.ALL : Fld := ⟨0x400128, 0, 48, 0x40, .ro, fun _ => 0, [], false⟩
def FEC_ITERSUM.ALL : Fld := ⟨0x400130, 0, 48, 0x40, .ro, fun _ => 0, [], false⟩

def FEC.regs1 : List RegDef := [
  ⟨"FEC_CTRL", 0x400000, 0, 1, 4, [FEC_CTRL.EARLY_STOP, FEC_CTRL.CNT_CLR]⟩,
  ⟨"FEC_STATUS", 0x400004, 0, 1, 4, [FEC_STATUS.INTEROP, FEC_STATUS.DEG, FEC_STATUS.DEC_ACT]⟩,
  ⟨"FEC_DEC_CFG", 0x400008, 0, 1, 4, [FEC_DEC_CFG.ITER_MAX, FEC_DEC_CFG.NORM, FEC_DEC_CFG.SD_ITER, FEC_DEC_CFG.HD_ITER, FEC_DEC_CFG.STC_ITER]⟩,
  ⟨"FEC_LLR_CFG", 0x40000c, 0, 1, 4, [FEC_LLR_CFG.GAIN]⟩,
  ⟨"FEC_DEG_SET", 0x400010, 0, 1, 4, [FEC_DEG_SET.MANT, FEC_DEG_SET.EXP, FEC_DEG_SET.N]⟩,
  ⟨"FEC_DEG_CLR", 0x400014, 0, 1, 4, [FEC_DEG_CLR.MANT, FEC_DEG_CLR.EXP]⟩,
  ⟨"FEC_SEC_BER", 0x400018, 0, 1, 4, [FEC_SEC_BER.MANT, FEC_SEC_BER.EXP]⟩,
  ⟨"FEC_INJ", 0x40001c, 0, 1, 4, [FEC_INJ.MODE, FEC_INJ.RATE, FEC_INJ.ONE_SHOT, FEC_INJ.SC_MASK]⟩,
  ⟨"FEC_INT_STAT", 0x400020, 0, 1, 4, [FEC_INT_STAT.ALL]⟩,
  ⟨"FEC_INT_EN", 0x400024, 0, 1, 4, [FEC_INT_EN.ALL]⟩,
  ⟨"FEC_BLOCKS", 0x400100, 0x40, 16, 8, [FEC_BLOCKS.ALL]⟩,
  ⟨"FEC_BITS", 0x400108, 0x40, 16, 8, [FEC_BITS.ALL]⟩]

def FEC.regs2 : List RegDef := [
  ⟨"FEC_ERRS", 0x400110, 0x40, 16, 8, [FEC_ERRS.ALL]⟩,
  ⟨"FEC_ERAS", 0x400118, 0x40, 16, 8, [FEC_ERAS.ALL]⟩,
  ⟨"FEC_UNCORR", 0x400120, 0x40, 16, 8, [FEC_UNCORR.ALL]⟩,
  ⟨"FEC_DMFAIL", 0x400128, 0x40, 16, 8, [FEC_DMFAIL.ALL]⟩,
  ⟨"FEC_ITERSUM", 0x400130, 0x40, 16, 8, [FEC_ITERSUM.ALL]⟩]

/-- The registers of the block, in address order. -/
def FEC.regs : List RegDef := FEC.regs1 ++ FEC.regs2

end Sys2Proof.Machine
end

