-- ==== Sys2Proof/Machine/RegsFrm.lean ====
section
/-!
DEFINITION. The registers of the FRM block (Framer) and their fields, from Tables 7.8 and 7.9: offset, bits, access code,
reset value and range, one definition a field.
-/
namespace Sys2Proof.Machine

def FRM_CTRL.CNT_CLR : Fld := ⟨0x500000, 3, 1, 0, .w1s, fun _ => 0, [], false⟩
def FRM_CTRL.RESYNC : Fld := ⟨0x500000, 2, 1, 0, .w1s, fun _ => 0, [], false⟩
def FRM_CTRL.BDI_FORCE : Fld := ⟨0x500000, 1, 1, 0, .rw, fun _ => 0, [], false⟩
def FRM_CTRL.FILL_FORCE : Fld := ⟨0x500000, 0, 1, 0, .rw, fun _ => 0, [], false⟩
def FRM_STATUS.DOVE : Fld := ⟨0x500004, 17, 3, 0, .ro, fun _ => 0, [], false⟩
def FRM_STATUS.IM : Fld := ⟨0x500004, 16, 1, 0, .ro, fun _ => 0, [], false⟩
def FRM_STATUS.DEG_PM : Fld := ⟨0x500004, 12, 1, 0, .ro, fun _ => 0, [], false⟩
def FRM_STATUS.DEG_SM : Fld := ⟨0x500004, 11, 1, 0, .ro, fun _ => 0, [], false⟩
def FRM_STATUS.TIM : Fld := ⟨0x500004, 10, 1, 0, .ro, fun _ => 0, [], false⟩
def FRM_STATUS.RDI_PM : Fld := ⟨0x500004, 9, 1, 0, .ro, fun _ => 0, [], false⟩
def FRM_STATUS.RDI_SM : Fld := ⟨0x500004, 8, 1, 0, .ro, fun _ => 0, [], false⟩
def FRM_STATUS.OCI : Fld := ⟨0x500004, 7, 1, 0, .ro, fun _ => 0, [], false⟩
def FRM_STATUS.LCK : Fld := ⟨0x500004, 6, 1, 0, .ro, fun _ => 0, [], false⟩
def FRM_STATUS.AIS : Fld := ⟨0x500004, 5, 1, 0, .ro, fun _ => 0, [], false⟩
def FRM_STATUS.LOM : Fld := ⟨0x500004, 4, 1, 0, .ro, fun _ => 0, [], false⟩
def FRM_STATUS.LOF : Fld := ⟨0x500004, 3, 1, 0, .ro, fun _ => 0, [], false⟩
def FRM_STATUS.LOSF : Fld := ⟨0x500004, 2, 1, 0, .ro, fun _ => 0, [], false⟩
def FRM_STATUS.LOS : Fld := ⟨0x500004, 1, 1, 0, .ro, fun _ => 0, [], false⟩
def FRM_STATUS.OOF : Fld := ⟨0x500004, 0, 1, 0, .ro, fun _ => 1, [], false⟩
def FRM_DOVE_CFG.M : Fld := ⟨0x500008, 12, 4, 0, .rw, fun _ => 5, [(2, 15)], false⟩
def FRM_DOVE_CFG.N : Fld := ⟨0x500008, 8, 4, 0, .rw, fun _ => 3, [(1, 8)], false⟩
def FRM_DOVE_CFG.FAS_TOL : Fld := ⟨0x500008, 0, 4, 0, .rw, fun _ => 4, [], false⟩
def FRM_DOVE_STAT.CANDS : Fld := ⟨0x50000c, 28, 4, 0, .ro, fun _ => 0, [], false⟩
def FRM_DOVE_STAT.BLK_OFS : Fld := ⟨0x50000c, 0, 16, 0, .ro, fun _ => 0, [], false⟩
def FRM_DEF_CFG.LOF_SET : Fld := ⟨0x500010, 24, 8, 0, .rw, fun _ => 6, [(1, 20)], false⟩
def FRM_DEF_CFG.LOF_CLR : Fld := ⟨0x500010, 16, 8, 0, .rw, fun _ => 6, [(1, 20)], false⟩
def FRM_DEF_CFG.LOS_CLR : Fld := ⟨0x500010, 8, 8, 0, .rw, fun _ => 1, [(0, 100)], false⟩
def FRM_DEG_CFG.SES_THR : Fld := ⟨0x500014, 24, 8, 0, .rw, fun _ => 15, [(1, 50)], false⟩
def FRM_DEG_CFG.DEG_THR : Fld := ⟨0x500014, 16, 8, 0, .rw, fun _ => 10, [(1, 50)], false⟩
def FRM_DEG_CFG.DEG_M : Fld := ⟨0x500014, 12, 4, 0, .rw, fun _ => 7, [(2, 10)], false⟩
def FRM_CA_CFG.TIM_ACT : Fld := ⟨0x500018, 3, 1, 0, .rw, fun _ => 0, [], false⟩
def FRM_CA_CFG.TIM_MODE : Fld := ⟨0x500018, 1, 2, 0, .rw, fun _ => 0, [], false⟩
def FRM_PM_CTRL.GEN : Fld := ⟨0x50001c, 16, 16, 0, .ro, fun _ => 0, [], false⟩
def FRM_PM_CTRL.FREE_RUN : Fld := ⟨0x50001c, 1, 1, 0, .ro, fun _ => 0, [], false⟩
def FRM_PM_CTRL.HOLD : Fld := ⟨0x50001c, 0, 1, 0, .rw, fun _ => 0, [], false⟩
def FRM_INT_STAT.ALL : Fld := ⟨0x500020, 0, 8, 0, .w1c, fun _ => 0, [], false⟩
def FRM_INT_EN.ALL : Fld := ⟨0x500024, 0, 8, 0, .rw, fun _ => 0, [], false⟩
def FRM_PM_TIME.ALL : Fld := ⟨0x500040, 0, 48, 0, .ro, fun _ => 0, [], false⟩
def FRM_PM_FRAMES.ALL : Fld := ⟨0x500048, 0, 20, 0, .ro, fun _ => 0, [], false⟩
def FRM_EMUL.ALL : Fld := ⟨0x500050, 0, 48, 0, .ro, fun _ => 0, [], false⟩
def FRM_CAND_DROP.ALL : Fld := ⟨0x500058, 0, 48, 0, .ro, fun _ => 0, [], false⟩
def FRM_OOF_CNT.ALL : Fld := ⟨0x500060, 0, 48, 0, .ro, fun _ => 0, [], false⟩
def FRM_UFR.ALL : Fld := ⟨0x500068, 0, 48, 0, .ro, fun _ => 0, [], false⟩
def FRM_PM_NEB.ALL : Fld := ⟨0x500100, 0, 32, 0x10, .ro, fun _ => 0, [], false⟩
def FRM_PM_FEB.ALL : Fld := ⟨0x500104, 0, 32, 0x10, .ro, fun _ => 0, [], false⟩
def FRM_PM_BIPV.ALL : Fld := ⟨0x500108, 0, 32, 0x10, .ro, fun _ => 0, [], false⟩
def FRM_PM_FLAGS.FE_UAS10 : Fld := ⟨0x50010c, 11, 1, 0x10, .ro, fun _ => 0, [], false⟩
def FRM_PM_FLAGS.FE_SES : Fld := ⟨0x50010c, 10, 1, 0x10, .ro, fun _ => 0, [], false⟩
def FRM_PM_FLAGS.FE_ES : Fld := ⟨0x50010c, 9, 1, 0x10, .ro, fun _ => 0, [], false⟩
def FRM_PM_FLAGS.FE_DEF : Fld := ⟨0x50010c, 8, 1, 0x10, .ro, fun _ => 0, [], false⟩
def FRM_PM_FLAGS.UAS10 : Fld := ⟨0x50010c, 3, 1, 0x10, .ro, fun _ => 0, [], false⟩
def FRM_PM_FLAGS.SES : Fld := ⟨0x50010c, 2, 1, 0x10, .ro, fun _ => 0, [], false⟩
def FRM_PM_FLAGS.ES : Fld := ⟨0x50010c, 1, 1, 0x10, .ro, fun _ => 0, [], false⟩
def FRM_PM_FLAGS.DEF : Fld := ⟨0x50010c, 0, 1, 0x10, .ro, fun _ => 0, [], false⟩
def FRM_OHC_CFG.SLICE_MASK : Fld := ⟨0x500400, 0, 32, 0x10, .rw, fun _ => 0, [], false⟩
def FRM_OHC_ROUTE.CLIENT : Fld := ⟨0x500404, 8, 8, 0x10, .rw, fun _ => 0, [(0, 31)], false⟩
def FRM_OHC_ROUTE.RX_DEST : Fld := ⟨0x500404, 4, 4, 0x10, .rw, fun _ => 0, [(0, 2)], false⟩
def FRM_OHC_ROUTE.TX_SRC : Fld := ⟨0x500404, 0, 4, 0x10, .rw, fun _ => 0, [(0, 2)], false⟩
def FRM_OHC_STAT.SLIP_DROP : Fld := ⟨0x500408, 16, 16, 0x10, .ro, fun _ => 0, [], false⟩
def FRM_OHC_STAT.SLIP_REP : Fld := ⟨0x500408, 0, 16, 0x10, .ro, fun _ => 0, [], false⟩

def FRM.regs1 : List RegDef := [
  ⟨"FRM_CTRL", 0x500000, 0, 1, 4, [FRM_CTRL.CNT_CLR, FRM_CTRL.RESYNC, FRM_CTRL.BDI_FORCE, FRM_CTRL.FILL_FORCE]⟩,
  ⟨"FRM_STATUS", 0x500004, 0, 1, 4, [FRM_STATUS.DOVE, FRM_STATUS.IM, FRM_STATUS.DEG_PM, FRM_STATUS.DEG_SM, FRM_STATUS.TIM, FRM_STATUS.RDI_PM, FRM_STATUS.RDI_SM, FRM_STATUS.OCI, FRM_STATUS.LCK, FRM_STATUS.AIS, FRM_STATUS.LOM, FRM_STATUS.LOF, FRM_STATUS.LOSF, FRM_STATUS.LOS, FRM_STATUS.OOF]⟩,
  ⟨"FRM_DOVE_CFG", 0x500008, 0, 1, 4, [FRM_DOVE_CFG.M, FRM_DOVE_CFG.N, FRM_DOVE_CFG.FAS_TOL]⟩,
  ⟨"FRM_DOVE_STAT", 0x50000c, 0, 1, 4, [FRM_DOVE_STAT.CANDS, FRM_DOVE_STAT.BLK_OFS]⟩,
  ⟨"FRM_DEF_CFG", 0x500010, 0, 1, 4, [FRM_DEF_CFG.LOF_SET, FRM_DEF_CFG.LOF_CLR, FRM_DEF_CFG.LOS_CLR]⟩,
  ⟨"FRM_DEG_CFG", 0x500014, 0, 1, 4, [FRM_DEG_CFG.SES_THR, FRM_DEG_CFG.DEG_THR, FRM_DEG_CFG.DEG_M]⟩,
  ⟨"FRM_CA_CFG", 0x500018, 0, 1, 4, [FRM_CA_CFG.TIM_ACT, FRM_CA_CFG.TIM_MODE]⟩,
  ⟨"FRM_PM_CTRL", 0x50001c, 0, 1, 4, [FRM_PM_CTRL.GEN, FRM_PM_CTRL.FREE_RUN, FRM_PM_CTRL.HOLD]⟩,
  ⟨"FRM_INT_STAT", 0x500020, 0, 1, 4, [FRM_INT_STAT.ALL]⟩,
  ⟨"FRM_INT_EN", 0x500024, 0, 1, 4, [FRM_INT_EN.ALL]⟩,
  ⟨"FRM_PM_TIME", 0x500040, 0, 1, 8, [FRM_PM_TIME.ALL]⟩,
  ⟨"FRM_PM_FRAMES", 0x500048, 0, 1, 4, [FRM_PM_FRAMES.ALL]⟩]

def FRM.regs2 : List RegDef := [
  ⟨"FRM_EMUL", 0x500050, 0, 1, 8, [FRM_EMUL.ALL]⟩,
  ⟨"FRM_CAND_DROP", 0x500058, 0, 1, 8, [FRM_CAND_DROP.ALL]⟩,
  ⟨"FRM_OOF_CNT", 0x500060, 0, 1, 8, [FRM_OOF_CNT.ALL]⟩,
  ⟨"FRM_UFR", 0x500068, 0, 1, 8, [FRM_UFR.ALL]⟩,
  ⟨"FRM_PM_NEB", 0x500100, 0x10, 34, 4, [FRM_PM_NEB.ALL]⟩,
  ⟨"FRM_PM_FEB", 0x500104, 0x10, 34, 4, [FRM_PM_FEB.ALL]⟩,
  ⟨"FRM_PM_BIPV", 0x500108, 0x10, 34, 4, [FRM_PM_BIPV.ALL]⟩,
  ⟨"FRM_PM_FLAGS", 0x50010c, 0x10, 34, 4, [FRM_PM_FLAGS.FE_UAS10, FRM_PM_FLAGS.FE_SES, FRM_PM_FLAGS.FE_ES, FRM_PM_FLAGS.FE_DEF, FRM_PM_FLAGS.UAS10, FRM_PM_FLAGS.SES, FRM_PM_FLAGS.ES, FRM_PM_FLAGS.DEF]⟩,
  ⟨"FRM_OHC_CFG", 0x500400, 0x10, 3, 4, [FRM_OHC_CFG.SLICE_MASK]⟩,
  ⟨"FRM_OHC_ROUTE", 0x500404, 0x10, 3, 4, [FRM_OHC_ROUTE.CLIENT, FRM_OHC_ROUTE.RX_DEST, FRM_OHC_ROUTE.TX_SRC]⟩,
  ⟨"FRM_OHC_STAT", 0x500408, 0x10, 3, 4, [FRM_OHC_STAT.SLIP_DROP, FRM_OHC_STAT.SLIP_REP]⟩]

/-- The registers of the block, in address order. -/
def FRM.regs : List RegDef := FRM.regs1 ++ FRM.regs2

end Sys2Proof.Machine
end

