-- ==== Sys2Proof/Machine/RegsLrx.lean ====
section
/-!
DEFINITION. The registers of the LRX block (Line receive) and their fields, from Tables 3.7 to 3.16 and Tables 4.4 and 4.5: offset, bits, access code,
reset value and range, one definition a field.
-/
namespace Sys2Proof.Machine

def LRX_CTRL.OTUC_N : Fld := ⟨0x200000, 12, 6, 0, .rwl, fun _ => 0, [], false⟩
def LRX_CTRL.MODE : Fld := ⟨0x200000, 8, 4, 0, .rwl, fun _ => 0, [], false⟩
def LRX_CTRL.RX_EN : Fld := ⟨0x200000, 0, 1, 0, .rw, fun _ => 0, [], false⟩
def LRX_STATUS.ACQ_FAILS : Fld := ⟨0x200004, 24, 8, 0, .ro, fun _ => 0, [], false⟩
def LRX_STATUS.STAGE : Fld := ⟨0x200004, 20, 4, 0, .ro, fun _ => 0, [], false⟩
def LRX_STATUS.WARM : Fld := ⟨0x200004, 19, 1, 0, .ro, fun _ => 0, [], false⟩
def LRX_STATUS.SIG_PRESENT : Fld := ⟨0x200004, 18, 1, 0, .ro, fun _ => 0, [], false⟩
def LRX_STATUS.TIM_LOCK : Fld := ⟨0x200004, 17, 1, 0, .ro, fun _ => 0, [], false⟩
def LRX_STATUS.SF_LOCK : Fld := ⟨0x200004, 16, 1, 0, .ro, fun _ => 0, [], false⟩
def LRX_STATUS.SC_DD : Fld := ⟨0x200004, 0, 16, 0, .ro, fun _ => 0, [], false⟩
def LRX_SHAPE.KERF : Fld := ⟨0x200008, 8, 5, 0, .rwl, fun _ => 0, [(0, 24)], false⟩
def LRX_SHAPE.ROLLOFF : Fld := ⟨0x200008, 0, 5, 0, .rwl, fun _ => 5, [(2, 20)], false⟩
def LRX_AGC.TARGET : Fld := ⟨0x20000c, 0, 6, 0, .rw, fun _ => 28, [(16, 40)], false⟩
def LRX_AGC.GAIN : Fld := ⟨0x20000c, 8, 8, 0, .ro, fun _ => 0, [], false⟩
def LRX_FREQ_EST.ALL : Fld := ⟨0x200010, 0, 32, 0, .ro, fun _ => 0, [], true⟩
def LRX_CD_CFG.FORCE : Fld := ⟨0x200014, 31, 1, 0, .rw, fun _ => 0, [], false⟩
def LRX_CD_CFG.VERIFY : Fld := ⟨0x200014, 30, 1, 0, .rw, fun _ => 1, [], false⟩
def LRX_CD_CFG.D_FORCE : Fld := ⟨0x200014, 0, 19, 0, .rw, fun _ => 0, [], true⟩
def LRX_CD_EST.ALL : Fld := ⟨0x200018, 0, 19, 0, .ro, fun _ => 0, [], true⟩
def LRX_TIM_CFG.BW : Fld := ⟨0x200020, 0, 8, 0, .rw, fun _ => 20, [(1, 100)], false⟩
def LRX_TIM_EST.ALL : Fld := ⟨0x200024, 0, 32, 0, .ro, fun _ => 0, [], true⟩
def LRX_EQ_CFG.MU_ACQ : Fld := ⟨0x200030, 24, 4, 0, .rw, fun _ => 7, [(4, 14)], false⟩
def LRX_EQ_CFG.MU_TRK : Fld := ⟨0x200030, 20, 4, 0, .rw, fun _ => 10, [(4, 14)], false⟩
def LRX_EQ_CFG.HALF_TAPS : Fld := ⟨0x200030, 16, 4, 0, .rwl, fun _ => 7, [(3, 15)], false⟩
def LRX_EQ_CFG.LEAK : Fld := ⟨0x200030, 12, 4, 0, .rw, fun _ => 8, [(0, 0), (4, 12)], false⟩
def LRX_DFE_CFG.CONST_EN : Fld := ⟨0x200034, 24, 8, 0, .rw, fun _ => 63, [], false⟩
def LRX_DFE_CFG.NFB : Fld := ⟨0x200034, 20, 3, 0, .rw, fun _ => 2, [(0, 4)], false⟩
def LRX_DFE_CFG.THETA : Fld := ⟨0x200034, 16, 4, 0, .rw, fun _ => 4, [(0, 12)], false⟩
def LRX_DFE_CFG.F_OFF : Fld := ⟨0x200034, 8, 8, 0, .rw, fun _ => 48, [(16, 60)], false⟩
def LRX_DFE_CFG.F_ON : Fld := ⟨0x200034, 0, 8, 0, .rw, fun _ => 40, [(8, 59)], false⟩
def LRX_LOCK_CFG.SF_MISS : Fld := ⟨0x200038, 20, 4, 0, .rw, fun _ => 4, [(2, 15)], false⟩
def LRX_LOCK_CFG.SC_MISS : Fld := ⟨0x200038, 16, 4, 0, .rw, fun _ => 2, [(1, 15)], false⟩
def LRX_LOCK_CFG.PLM_MIN : Fld := ⟨0x200038, 8, 8, 0, .rw, fun _ => 24, [(12, 48)], false⟩
def LRX_LOCK_CFG.SF_THR : Fld := ⟨0x200038, 0, 8, 0, .rw, fun _ => 32, [(16, 58)], false⟩
def LRX_HOLD.ACQ_TO : Fld := ⟨0x20003c, 22, 10, 0, .rw, fun _ => 50, [(10, 1000)], false⟩
def LRX_HOLD.WARM_TO : Fld := ⟨0x20003c, 16, 6, 0, .rw, fun _ => 5, [(1, 50)], false⟩
def LRX_HOLD.HOLD : Fld := ⟨0x20003c, 0, 10, 0, .rw, fun _ => 10, [(0, 1000)], false⟩
def LRX_FREEZE.IQ : Fld := ⟨0x200040, 0, 1, 0, .rw, fun _ => 0, [], false⟩
def LRX_FREEZE.AGC : Fld := ⟨0x200040, 1, 1, 0, .rw, fun _ => 0, [], false⟩
def LRX_FREEZE.FREQ : Fld := ⟨0x200040, 2, 1, 0, .rw, fun _ => 0, [], false⟩
def LRX_FREEZE.TIMING : Fld := ⟨0x200040, 3, 1, 0, .rw, fun _ => 0, [], false⟩
def LRX_FREEZE.CD_TRACK : Fld := ⟨0x200040, 4, 1, 0, .rw, fun _ => 0, [], false⟩
def LRX_RESTART.SC_MASK : Fld := ⟨0x200044, 16, 16, 0, .rw, fun _ => 0, [], false⟩
def LRX_RESTART.RESULT : Fld := ⟨0x200044, 4, 4, 0, .ro, fun _ => 0, [], false⟩
def LRX_RESTART.GO : Fld := ⟨0x200044, 3, 1, 0, .w1s, fun _ => 0, [], false⟩
def LRX_RESTART.FROM : Fld := ⟨0x200044, 0, 3, 0, .rw, fun _ => 0, [(0, 4)], false⟩
def LRX_INT_STAT.ALL : Fld := ⟨0x200050, 0, 13, 0, .w1c, fun _ => 0, [], false⟩
def LRX_INT_EN.ALL : Fld := ⟨0x200054, 0, 13, 0, .rw, fun _ => 0, [], false⟩
def LRX_SC_CTRL.DFE_DIS : Fld := ⟨0x200100, 2, 1, 0x10, .rw, fun _ => 0, [], false⟩
def LRX_SC_CTRL.DFE_FREEZE : Fld := ⟨0x200100, 1, 1, 0x10, .rw, fun _ => 0, [], false⟩
def LRX_SC_CTRL.FFE_FREEZE : Fld := ⟨0x200100, 0, 1, 0x10, .rw, fun _ => 0, [], false⟩
def LRX_SC_STAT.PLM : Fld := ⟨0x200104, 24, 8, 0x10, .ro, fun _ => 0, [], false⟩
def LRX_SC_STAT.UNREL : Fld := ⟨0x200104, 16, 8, 0x10, .ro, fun _ => 0, [], false⟩
def LRX_SC_STAT.CENTROID : Fld := ⟨0x200104, 8, 8, 0x10, .ro, fun _ => 0, [], false⟩
def LRX_SC_STAT.STATE : Fld := ⟨0x200104, 0, 4, 0x10, .ro, fun _ => 0, [], false⟩
def LRX_SC_RCD.ALL : Fld := ⟨0x200108, 0, 10, 0x10, .ro, fun _ => 0, [], true⟩
def LRX_CR_CFG.SLIP_THR : Fld := ⟨0x200800, 24, 4, 0, .rw, fun _ => 12, [(0, 0), (8, 15)], false⟩
def LRX_CR_CFG.BPS_MIN : Fld := ⟨0x200800, 21, 3, 0, .rw, fun _ => 5, [], false⟩
def LRX_CR_CFG.BPS_N : Fld := ⟨0x200800, 19, 2, 0, .rw, fun _ => 2, [], false⟩
def LRX_CR_CFG.WIN : Fld := ⟨0x200800, 15, 4, 0, .rw, fun _ => 3, [(0, 7)], false⟩
def LRX_CR_CFG.FBW : Fld := ⟨0x200800, 0, 8, 0, .rw, fun _ => 10, [(1, 200)], false⟩
def LRX_CR_STAT.SHIFTING : Fld := ⟨0x200804, 1, 1, 0, .ro, fun _ => 0, [], false⟩
def LRX_CR_STAT.CR_LOCK : Fld := ⟨0x200804, 0, 1, 0, .ro, fun _ => 0, [], false⟩
def LRX_Q_CFG.AVG : Fld := ⟨0x200808, 0, 4, 0, .rw, fun _ => 6, [(0, 12)], false⟩
def LRX_Q_CFG.REPORT : Fld := ⟨0x200808, 8, 4, 0, .rw, fun _ => 6, [(4, 12)], false⟩
def LRX_Q_SNAP.GEN : Fld := ⟨0x20080c, 16, 16, 0, .ro, fun _ => 0, [], false⟩
def LRX_Q_SNAP.TAKE : Fld := ⟨0x20080c, 0, 1, 0, .w1s, fun _ => 0, [], false⟩
def LRX_ADAPT_CFG.SLIP_CLR : Fld := ⟨0x200810, 3, 1, 0, .w1s, fun _ => 0, [], false⟩
def LRX_ADAPT_CFG.HITLESS : Fld := ⟨0x200810, 2, 1, 0, .rw, fun _ => 1, [], false⟩
def LRX_ADAPT_CFG.RX_EN : Fld := ⟨0x200810, 1, 1, 0, .rw, fun _ => 0, [], false⟩
def LRX_ADAPT_CFG.TX_EN : Fld := ⟨0x200810, 0, 1, 0, .rw, fun _ => 0, [], false⟩
def LRX_ADAPT_MARGIN.TARGET : Fld := ⟨0x200814, 24, 8, 0, .rw, fun _ => 10, [(0, 40)], false⟩
def LRX_ADAPT_MARGIN.FLOOR : Fld := ⟨0x200814, 16, 8, 0, .rw, fun _ => 3, [(0, 40)], false⟩
def LRX_ADAPT_MARGIN.LOW : Fld := ⟨0x200814, 8, 8, 0, .rw, fun _ => 3, [(-20, 40)], true⟩
def LRX_ADAPT_MARGIN.GAMMA : Fld := ⟨0x200814, 0, 5, 0, .rw, fun _ => 10, [(0, 30)], false⟩
def LRX_ADAPT_TIMERS.V : Fld := ⟨0x200818, 22, 10, 0, .rw, fun _ => 64, [(0, 0), (16, 1023)], false⟩
def LRX_ADAPT_TIMERS.BACKOFF : Fld := ⟨0x200818, 12, 10, 0, .rw, fun _ => 10, [(1, 600)], false⟩
def LRX_ADAPT_TIMERS.MIN_INT : Fld := ⟨0x200818, 0, 12, 0, .rw, fun _ => 60, [(1, 3600)], false⟩
def LRX_ADAPT_STAT.LAST_PLAN : Fld := ⟨0x20081c, 24, 8, 0, .ro, fun _ => 0, [], false⟩
def LRX_ADAPT_STAT.OFFER_SEQ : Fld := ⟨0x20081c, 16, 8, 0, .ro, fun _ => 0, [], false⟩
def LRX_ADAPT_STAT.BACKOFF_LEFT : Fld := ⟨0x20081c, 8, 8, 0, .ro, fun _ => 0, [], false⟩
def LRX_ADAPT_STAT.PHASE : Fld := ⟨0x20081c, 0, 3, 0, .ro, fun _ => 0, [], false⟩
def LRX_CR_INT_STAT.ALL : Fld := ⟨0x200820, 0, 11, 0, .w1c, fun _ => 0, [], false⟩
def LRX_CR_INT_EN.ALL : Fld := ⟨0x200824, 0, 11, 0, .rw, fun _ => 0, [], false⟩
def LRX_ADAPT_LIMITS.ROLLBACK : Fld := ⟨0x200828, 16, 16, 0, .rw, fun _ => 0, [], false⟩
def LRX_ADAPT_LIMITS.HYST : Fld := ⟨0x200828, 9, 5, 0, .rw, fun _ => 5, [(1, 30)], false⟩
def LRX_ADAPT_LIMITS.REPLY_TO : Fld := ⟨0x200828, 0, 9, 0, .rw, fun _ => 20, [(5, 500)], false⟩
def LRX_SC_Q.SNR : Fld := ⟨0x200900, 16, 16, 0x10, .ro, fun _ => 65535, [], false⟩
def LRX_SC_Q.MARGIN : Fld := ⟨0x200900, 0, 16, 0x10, .ro, fun _ => 32768, [], true⟩
def LRX_SC_QX.SNR_X : Fld := ⟨0x200904, 20, 12, 0x10, .ro, fun _ => 4095, [], false⟩
def LRX_SC_QX.SNR_Y : Fld := ⟨0x200904, 8, 12, 0x10, .ro, fun _ => 4095, [], false⟩
def LRX_SC_QX.PHERR : Fld := ⟨0x200904, 0, 8, 0x10, .ro, fun _ => 0, [], false⟩
def LRX_SC_SLIP.OUT : Fld := ⟨0x200908, 16, 16, 0x10, .ro, fun _ => 0, [], false⟩
def LRX_SC_SLIP.TRK : Fld := ⟨0x200908, 0, 16, 0x10, .ro, fun _ => 0, [], false⟩
def LRX_FAR_Q.SNR : Fld := ⟨0x200a00, 16, 16, 0x4, .ro, fun _ => 0, [], false⟩
def LRX_RPLAN_ID.ID : Fld := ⟨0x200c00, 0, 8, 0x4, .ro, fun _ => 0, [], false⟩
def LRX_RPLAN_ID.PREV : Fld := ⟨0x200c00, 8, 1, 0x4, .ro, fun _ => 0, [], false⟩
def LRX_RPLAN_ID.ARMED : Fld := ⟨0x200c00, 9, 1, 0x4, .ro, fun _ => 0, [], false⟩
def LRX_RPLAN_ID.ACTIVE : Fld := ⟨0x200c00, 10, 1, 0x4, .ro, fun _ => 0, [], false⟩
def LRX_RPLAN_ID.VALID : Fld := ⟨0x200c00, 15, 1, 0x4, .ro, fun _ => 0, [], false⟩
def LRX_RPLAN_SC.EN : Fld := ⟨0x200d00, 31, 1, 0x4, .ro, fun _ => 0, [], false⟩
def LRX_RPLAN_SC.CONST : Fld := ⟨0x200d00, 24, 3, 0x4, .ro, fun _ => 0, [], false⟩
def LRX_RPLAN_SC.ENT : Fld := ⟨0x200d00, 16, 8, 0x4, .ro, fun _ => 0, [], false⟩
def LRX_RPLAN_SC.GAIN : Fld := ⟨0x200d00, 0, 8, 0x4, .ro, fun _ => 0, [], true⟩

def LRX.regs1 : List RegDef := [
  ⟨"LRX_CTRL", 0x200000, 0, 1, 4, [LRX_CTRL.OTUC_N, LRX_CTRL.MODE, LRX_CTRL.RX_EN]⟩,
  ⟨"LRX_STATUS", 0x200004, 0, 1, 4, [LRX_STATUS.ACQ_FAILS, LRX_STATUS.STAGE, LRX_STATUS.WARM, LRX_STATUS.SIG_PRESENT, LRX_STATUS.TIM_LOCK, LRX_STATUS.SF_LOCK, LRX_STATUS.SC_DD]⟩,
  ⟨"LRX_SHAPE", 0x200008, 0, 1, 4, [LRX_SHAPE.KERF, LRX_SHAPE.ROLLOFF]⟩,
  ⟨"LRX_AGC", 0x20000c, 0, 1, 4, [LRX_AGC.TARGET, LRX_AGC.GAIN]⟩,
  ⟨"LRX_FREQ_EST", 0x200010, 0, 1, 4, [LRX_FREQ_EST.ALL]⟩,
  ⟨"LRX_CD_CFG", 0x200014, 0, 1, 4, [LRX_CD_CFG.FORCE, LRX_CD_CFG.VERIFY, LRX_CD_CFG.D_FORCE]⟩,
  ⟨"LRX_CD_EST", 0x200018, 0, 1, 4, [LRX_CD_EST.ALL]⟩,
  ⟨"LRX_TIM_CFG", 0x200020, 0, 1, 4, [LRX_TIM_CFG.BW]⟩,
  ⟨"LRX_TIM_EST", 0x200024, 0, 1, 4, [LRX_TIM_EST.ALL]⟩,
  ⟨"LRX_EQ_CFG", 0x200030, 0, 1, 4, [LRX_EQ_CFG.MU_ACQ, LRX_EQ_CFG.MU_TRK, LRX_EQ_CFG.HALF_TAPS, LRX_EQ_CFG.LEAK]⟩,
  ⟨"LRX_DFE_CFG", 0x200034, 0, 1, 4, [LRX_DFE_CFG.CONST_EN, LRX_DFE_CFG.NFB, LRX_DFE_CFG.THETA, LRX_DFE_CFG.F_OFF, LRX_DFE_CFG.F_ON]⟩,
  ⟨"LRX_LOCK_CFG", 0x200038, 0, 1, 4, [LRX_LOCK_CFG.SF_MISS, LRX_LOCK_CFG.SC_MISS, LRX_LOCK_CFG.PLM_MIN, LRX_LOCK_CFG.SF_THR]⟩]

def LRX.regs2 : List RegDef := [
  ⟨"LRX_HOLD", 0x20003c, 0, 1, 4, [LRX_HOLD.ACQ_TO, LRX_HOLD.WARM_TO, LRX_HOLD.HOLD]⟩,
  ⟨"LRX_FREEZE", 0x200040, 0, 1, 4, [LRX_FREEZE.IQ, LRX_FREEZE.AGC, LRX_FREEZE.FREQ, LRX_FREEZE.TIMING, LRX_FREEZE.CD_TRACK]⟩,
  ⟨"LRX_RESTART", 0x200044, 0, 1, 4, [LRX_RESTART.SC_MASK, LRX_RESTART.RESULT, LRX_RESTART.GO, LRX_RESTART.FROM]⟩,
  ⟨"LRX_INT_STAT", 0x200050, 0, 1, 4, [LRX_INT_STAT.ALL]⟩,
  ⟨"LRX_INT_EN", 0x200054, 0, 1, 4, [LRX_INT_EN.ALL]⟩,
  ⟨"LRX_SC_CTRL", 0x200100, 0x10, 16, 4, [LRX_SC_CTRL.DFE_DIS, LRX_SC_CTRL.DFE_FREEZE, LRX_SC_CTRL.FFE_FREEZE]⟩,
  ⟨"LRX_SC_STAT", 0x200104, 0x10, 16, 4, [LRX_SC_STAT.PLM, LRX_SC_STAT.UNREL, LRX_SC_STAT.CENTROID, LRX_SC_STAT.STATE]⟩,
  ⟨"LRX_SC_RCD", 0x200108, 0x10, 16, 4, [LRX_SC_RCD.ALL]⟩,
  ⟨"LRX_CR_CFG", 0x200800, 0, 1, 4, [LRX_CR_CFG.SLIP_THR, LRX_CR_CFG.BPS_MIN, LRX_CR_CFG.BPS_N, LRX_CR_CFG.WIN, LRX_CR_CFG.FBW]⟩,
  ⟨"LRX_CR_STAT", 0x200804, 0, 1, 4, [LRX_CR_STAT.SHIFTING, LRX_CR_STAT.CR_LOCK]⟩,
  ⟨"LRX_Q_CFG", 0x200808, 0, 1, 4, [LRX_Q_CFG.AVG, LRX_Q_CFG.REPORT]⟩,
  ⟨"LRX_Q_SNAP", 0x20080c, 0, 1, 4, [LRX_Q_SNAP.GEN, LRX_Q_SNAP.TAKE]⟩]

def LRX.regs3 : List RegDef := [
  ⟨"LRX_ADAPT_CFG", 0x200810, 0, 1, 4, [LRX_ADAPT_CFG.SLIP_CLR, LRX_ADAPT_CFG.HITLESS, LRX_ADAPT_CFG.RX_EN, LRX_ADAPT_CFG.TX_EN]⟩,
  ⟨"LRX_ADAPT_MARGIN", 0x200814, 0, 1, 4, [LRX_ADAPT_MARGIN.TARGET, LRX_ADAPT_MARGIN.FLOOR, LRX_ADAPT_MARGIN.LOW, LRX_ADAPT_MARGIN.GAMMA]⟩,
  ⟨"LRX_ADAPT_TIMERS", 0x200818, 0, 1, 4, [LRX_ADAPT_TIMERS.V, LRX_ADAPT_TIMERS.BACKOFF, LRX_ADAPT_TIMERS.MIN_INT]⟩,
  ⟨"LRX_ADAPT_STAT", 0x20081c, 0, 1, 4, [LRX_ADAPT_STAT.LAST_PLAN, LRX_ADAPT_STAT.OFFER_SEQ, LRX_ADAPT_STAT.BACKOFF_LEFT, LRX_ADAPT_STAT.PHASE]⟩,
  ⟨"LRX_CR_INT_STAT", 0x200820, 0, 1, 4, [LRX_CR_INT_STAT.ALL]⟩,
  ⟨"LRX_CR_INT_EN", 0x200824, 0, 1, 4, [LRX_CR_INT_EN.ALL]⟩,
  ⟨"LRX_ADAPT_LIMITS", 0x200828, 0, 1, 4, [LRX_ADAPT_LIMITS.ROLLBACK, LRX_ADAPT_LIMITS.HYST, LRX_ADAPT_LIMITS.REPLY_TO]⟩,
  ⟨"LRX_SC_Q", 0x200900, 0x10, 16, 4, [LRX_SC_Q.SNR, LRX_SC_Q.MARGIN]⟩,
  ⟨"LRX_SC_QX", 0x200904, 0x10, 16, 4, [LRX_SC_QX.SNR_X, LRX_SC_QX.SNR_Y, LRX_SC_QX.PHERR]⟩,
  ⟨"LRX_SC_SLIP", 0x200908, 0x10, 16, 4, [LRX_SC_SLIP.OUT, LRX_SC_SLIP.TRK]⟩,
  ⟨"LRX_FAR_Q", 0x200a00, 0x4, 16, 4, [LRX_FAR_Q.SNR]⟩,
  ⟨"LRX_RPLAN_ID", 0x200c00, 0x4, 8, 4, [LRX_RPLAN_ID.ID, LRX_RPLAN_ID.PREV, LRX_RPLAN_ID.ARMED, LRX_RPLAN_ID.ACTIVE, LRX_RPLAN_ID.VALID]⟩]

def LRX.regs4 : List RegDef := [
  ⟨"LRX_RPLAN_SC", 0x200d00, 0x4, 128, 4, [LRX_RPLAN_SC.EN, LRX_RPLAN_SC.CONST, LRX_RPLAN_SC.ENT, LRX_RPLAN_SC.GAIN]⟩]

/-- The registers of the block, in address order. -/
def LRX.regs : List RegDef := LRX.regs1 ++ LRX.regs2 ++ LRX.regs3 ++ LRX.regs4

end Sys2Proof.Machine
end

