-- ==== Sys2Proof/Machine/RegsLtx.lean ====
section
/-!
DEFINITION. The registers of the LTX block (Line transmit) and their fields, from Tables 2.10 to 2.20: offset, bits, access code,
reset value and range, one definition a field.
-/
namespace Sys2Proof.Machine

def LTX_CTRL.OTUC_N : Fld := ⟨0x100000, 10, 6, 0, .rwl, fun _ => 0, [], false⟩
def LTX_CTRL.LOCK : Fld := ⟨0x100000, 8, 1, 0, .ro, fun _ => 0, [], false⟩
def LTX_CTRL.MODE : Fld := ⟨0x100000, 4, 4, 0, .rwl, fun _ => 0, [], false⟩
def LTX_CTRL.PRECOMP_CD_EN : Fld := ⟨0x100000, 3, 1, 0, .rwl, fun _ => 0, [], false⟩
def LTX_CTRL.OUT_EN : Fld := ⟨0x100000, 0, 1, 0, .rw, fun _ => 0, [], false⟩
def LTX_STATUS.LAS1_READY : Fld := ⟨0x100004, 4, 1, 0, .ro, fun _ => 0, [], false⟩
def LTX_STATUS.LAS0_READY : Fld := ⟨0x100004, 3, 1, 0, .ro, fun _ => 0, [], false⟩
def LTX_STATUS.BIAS_LOCKED : Fld := ⟨0x100004, 2, 1, 0, .ro, fun _ => 0, [], false⟩
def LTX_STATUS.TX_ON : Fld := ⟨0x100004, 1, 1, 0, .ro, fun _ => 0, [], false⟩
def LTX_STATUS.PLAN_PENDING : Fld := ⟨0x100004, 0, 1, 0, .ro, fun _ => 0, [], false⟩
def LTX_SHAPE.KERF : Fld := ⟨0x100008, 8, 5, 0, .rwl, fun _ => 0, [(0, 24)], false⟩
def LTX_SHAPE.ROLLOFF : Fld := ⟨0x100008, 0, 5, 0, .rwl, fun _ => 5, [(2, 20)], false⟩
def LTX_PRECOMP.P : Fld := ⟨0x10000c, 0, 18, 0, .rwl, fun _ => 0, [(-20000, 20000)], true⟩
def LTX_CLIP.THR_EXP : Fld := ⟨0x100010, 8, 4, 0, .rw, fun _ => 5, [(3, 7)], false⟩
def LTX_CLIP.LEVEL : Fld := ⟨0x100010, 0, 8, 0, .rw, fun _ => 100, [(70, 140)], false⟩
def LTX_SF_NUM.ALL : Fld := ⟨0x100014, 0, 16, 0, .ro, fun _ => 0, [], false⟩
def LTX_PILOT.GAIN : Fld := ⟨0x100018, 0, 4, 0, .rw, fun _ => 0, [(-6, 6)], true⟩
def LTX_INT_STAT.ALL : Fld := ⟨0x100020, 0, 9, 0, .w1c, fun _ => 0, [], false⟩
def LTX_INT_EN.ALL : Fld := ⟨0x100024, 0, 9, 0, .rw, fun _ => 0, [], false⟩
def LTX_PLAN_HDR.PLAN_ID : Fld := ⟨0x100100, 0, 8, 0x4, .rwl, fun _ => 0, [(0, 254)], false⟩
def LTX_PLAN_CHG.TARGET_SF : Fld := ⟨0x100110, 16, 16, 0, .ro, fun _ => 0, [], false⟩
def LTX_PLAN_CHG.CD : Fld := ⟨0x100110, 11, 5, 0, .ro, fun _ => 0, [], false⟩
def LTX_PLAN_CHG.CANCEL : Fld := ⟨0x100110, 8, 1, 0, .w1s, fun _ => 0, [], false⟩
def LTX_PLAN_CHG.COMMIT : Fld := ⟨0x100110, 7, 1, 0, .w1s, fun _ => 0, [], false⟩
def LTX_PLAN_CHG.RESULT : Fld := ⟨0x100110, 4, 3, 0, .ro, fun _ => 0, [], false⟩
def LTX_PLAN_CHK.SUM_E : Fld := ⟨0x100114, 16, 12, 0, .ro, fun _ => 0, [], false⟩
def LTX_PLAN_CHK.W_MIN : Fld := ⟨0x100114, 0, 12, 0, .ro, fun _ => 0, [], false⟩
def LTX_PLAN_SC.EN : Fld := ⟨0x100200, 31, 1, 0x4, .rwl, fun _ => 0, [], false⟩
def LTX_PLAN_SC.CONST : Fld := ⟨0x100200, 24, 3, 0x4, .rwl, fun _ => 0, [], false⟩
def LTX_PLAN_SC.ENT : Fld := ⟨0x100200, 16, 8, 0x4, .rwl, fun _ => 0, [], false⟩
def LTX_PLAN_SC.GAIN : Fld := ⟨0x100200, 0, 8, 0x4, .rwl, fun _ => 0, [(-24, 12)], true⟩
def LTX_BIAS_CTRL.HOLD : Fld := ⟨0x100400, 31, 1, 0, .rw, fun _ => 0, [], false⟩
def LTX_BIAS_CTRL.SWEEP : Fld := ⟨0x100400, 30, 1, 0, .w1s, fun _ => 0, [], false⟩
def LTX_BIAS_CTRL.GAIN : Fld := ⟨0x100400, 27, 3, 0, .rw, fun _ => 2, [], false⟩
def LTX_BIAS_CTRL.DWELL : Fld := ⟨0x100400, 19, 8, 0, .rw, fun _ => 16, [(0, 0), (4, 255)], false⟩
def LTX_BIAS_CTRL.FREQ : Fld := ⟨0x100400, 6, 13, 0, .rw, fun _ => 3200, [(200, 8000)], false⟩
def LTX_BIAS_CTRL.EN : Fld := ⟨0x100400, 0, 6, 0, .rw, fun _ => 63, [], false⟩
def LTX_BIAS_DAC.ALL : Fld := ⟨0x100410, 0, 16, 0x4, .ro, fun _ => 0, [], false⟩
def LTX_LAS_CTRL.EN : Fld := ⟨0x100500, 31, 1, 0x10, .rw, fun _ => 0, [], false⟩
def LTX_LAS_CTRL.RESET : Fld := ⟨0x100500, 30, 1, 0x10, .w1s, fun _ => 0, [], false⟩
def LTX_LAS_CTRL.POWER : Fld := ⟨0x100500, 16, 11, 0x10, .rw, fun _ => 1600, [(1200, 1800)], false⟩
def LTX_LAS_CTRL.FTF : Fld := ⟨0x100500, 0, 16, 0x10, .rw, fun _ => 0, [], true⟩
def LTX_LAS_STAT.STATUSF : Fld := ⟨0x100504, 16, 16, 0x10, .ro, fun _ => 0, [], false⟩
def LTX_LAS_STAT.RESETS : Fld := ⟨0x100504, 8, 8, 0x10, .ro, fun _ => 0, [], false⟩
def LTX_LAS_STAT.HOLD : Fld := ⟨0x100504, 4, 1, 0x10, .ro, fun _ => 0, [], false⟩
def LTX_LAS_STAT.FAIL : Fld := ⟨0x100504, 3, 1, 0x10, .ro, fun _ => 0, [], false⟩
def LTX_LAS_STAT.TUNING : Fld := ⟨0x100504, 2, 1, 0x10, .ro, fun _ => 0, [], false⟩
def LTX_LAS_STAT.TUNED : Fld := ⟨0x100504, 1, 1, 0x10, .ro, fun _ => 0, [], false⟩
def LTX_LAS_STAT.LASING : Fld := ⟨0x100504, 0, 1, 0x10, .ro, fun _ => 0, [], false⟩
def LTX_LAS_FREQ.FREQ : Fld := ⟨0x100508, 0, 32, 0x10, .rwl, fun _ => 193100000, [(191150000, 196125000)], false⟩
def LTX_LAS_TIMERS.TUNE_TO : Fld := ⟨0x100520, 24, 8, 0, .rw, fun _ => 30, [(5, 120)], false⟩
def LTX_LAS_TIMERS.POLL : Fld := ⟨0x100520, 16, 8, 0, .rw, fun _ => 10, [(1, 100)], false⟩
def LTX_LAS_TIMERS.RESP_TO : Fld := ⟨0x100520, 8, 8, 0, .rw, fun _ => 20, [(5, 100)], false⟩
def LTX_LAS_TIMERS.BIAS_TO : Fld := ⟨0x100520, 0, 8, 0, .rw, fun _ => 25, [(5, 250)], false⟩

def LTX.regs1 : List RegDef := [
  ⟨"LTX_CTRL", 0x100000, 0, 1, 4, [LTX_CTRL.OTUC_N, LTX_CTRL.LOCK, LTX_CTRL.MODE, LTX_CTRL.PRECOMP_CD_EN, LTX_CTRL.OUT_EN]⟩,
  ⟨"LTX_STATUS", 0x100004, 0, 1, 4, [LTX_STATUS.LAS1_READY, LTX_STATUS.LAS0_READY, LTX_STATUS.BIAS_LOCKED, LTX_STATUS.TX_ON, LTX_STATUS.PLAN_PENDING]⟩,
  ⟨"LTX_SHAPE", 0x100008, 0, 1, 4, [LTX_SHAPE.KERF, LTX_SHAPE.ROLLOFF]⟩,
  ⟨"LTX_PRECOMP", 0x10000c, 0, 1, 4, [LTX_PRECOMP.P]⟩,
  ⟨"LTX_CLIP", 0x100010, 0, 1, 4, [LTX_CLIP.THR_EXP, LTX_CLIP.LEVEL]⟩,
  ⟨"LTX_SF_NUM", 0x100014, 0, 1, 4, [LTX_SF_NUM.ALL]⟩,
  ⟨"LTX_PILOT", 0x100018, 0, 1, 4, [LTX_PILOT.GAIN]⟩,
  ⟨"LTX_INT_STAT", 0x100020, 0, 1, 4, [LTX_INT_STAT.ALL]⟩,
  ⟨"LTX_INT_EN", 0x100024, 0, 1, 4, [LTX_INT_EN.ALL]⟩,
  ⟨"LTX_PLAN_HDR", 0x100100, 0x4, 2, 4, [LTX_PLAN_HDR.PLAN_ID]⟩,
  ⟨"LTX_PLAN_CHG", 0x100110, 0, 1, 4, [LTX_PLAN_CHG.TARGET_SF, LTX_PLAN_CHG.CD, LTX_PLAN_CHG.CANCEL, LTX_PLAN_CHG.COMMIT, LTX_PLAN_CHG.RESULT]⟩,
  ⟨"LTX_PLAN_CHK", 0x100114, 0, 1, 4, [LTX_PLAN_CHK.SUM_E, LTX_PLAN_CHK.W_MIN]⟩]

def LTX.regs2 : List RegDef := [
  ⟨"LTX_PLAN_SC", 0x100200, 0x4, 32, 4, [LTX_PLAN_SC.EN, LTX_PLAN_SC.CONST, LTX_PLAN_SC.ENT, LTX_PLAN_SC.GAIN]⟩,
  ⟨"LTX_BIAS_CTRL", 0x100400, 0, 1, 4, [LTX_BIAS_CTRL.HOLD, LTX_BIAS_CTRL.SWEEP, LTX_BIAS_CTRL.GAIN, LTX_BIAS_CTRL.DWELL, LTX_BIAS_CTRL.FREQ, LTX_BIAS_CTRL.EN]⟩,
  ⟨"LTX_BIAS_DAC", 0x100410, 0x4, 6, 4, [LTX_BIAS_DAC.ALL]⟩,
  ⟨"LTX_LAS_CTRL", 0x100500, 0x10, 2, 4, [LTX_LAS_CTRL.EN, LTX_LAS_CTRL.RESET, LTX_LAS_CTRL.POWER, LTX_LAS_CTRL.FTF]⟩,
  ⟨"LTX_LAS_STAT", 0x100504, 0x10, 2, 4, [LTX_LAS_STAT.STATUSF, LTX_LAS_STAT.RESETS, LTX_LAS_STAT.HOLD, LTX_LAS_STAT.FAIL, LTX_LAS_STAT.TUNING, LTX_LAS_STAT.TUNED, LTX_LAS_STAT.LASING]⟩,
  ⟨"LTX_LAS_FREQ", 0x100508, 0x10, 2, 4, [LTX_LAS_FREQ.FREQ]⟩,
  ⟨"LTX_LAS_TIMERS", 0x100520, 0, 1, 4, [LTX_LAS_TIMERS.TUNE_TO, LTX_LAS_TIMERS.POLL, LTX_LAS_TIMERS.RESP_TO, LTX_LAS_TIMERS.BIAS_TO]⟩]

/-- The registers of the block, in address order. -/
def LTX.regs : List RegDef := LTX.regs1 ++ LTX.regs2

/-- The fields of LTX_PLAN_SC, from the top bit down. -/
def LTX_PLAN_SC.fields : List Fld := [LTX_PLAN_SC.EN, LTX_PLAN_SC.CONST, LTX_PLAN_SC.ENT, LTX_PLAN_SC.GAIN]

end Sys2Proof.Machine
end

