-- ==== Sys2Proof/Machine/RegsMon.lean ====
section
/-!
DEFINITION. The registers of the MON block (Gauge) and their fields, from Tables 15.7 and 15.8: offset, bits, access code,
reset value and range, one definition a field.
-/
namespace Sys2Proof.Machine

def MON_CTRL.CNT_CLR : Fld := ⟨0xd00000, 5, 1, 0, .w1s, fun _ => 0, [], false⟩
def MON_CTRL.INTERLEAVE : Fld := ⟨0xd00000, 4, 1, 0, .rw, fun _ => 0, [], false⟩
def MON_CTRL.EN1 : Fld := ⟨0xd00000, 1, 1, 0, .rw, fun _ => 0, [], false⟩
def MON_CTRL.EN0 : Fld := ⟨0xd00000, 0, 1, 0, .rw, fun _ => 0, [], false⟩
def MON_STATUS.S1 : Fld := ⟨0xd00004, 20, 6, 0, .ro, fun _ => 3, [], false⟩
def MON_STATUS.S0 : Fld := ⟨0xd00004, 14, 6, 0, .ro, fun _ => 3, [], false⟩
def MON_STATUS.SYSCAL : Fld := ⟨0xd00004, 5, 1, 0, .ro, fun _ => 0, [], false⟩
def MON_STATUS.M0_BIAS : Fld := ⟨0xd00004, 4, 1, 0, .ro, fun _ => 0, [], false⟩
def MON_STATUS.BURST1 : Fld := ⟨0xd00004, 3, 1, 0, .ro, fun _ => 0, [], false⟩
def MON_STATUS.BURST0 : Fld := ⟨0xd00004, 2, 1, 0, .ro, fun _ => 0, [], false⟩
def MON_STATUS.RUN1 : Fld := ⟨0xd00004, 1, 1, 0, .ro, fun _ => 0, [], false⟩
def MON_STATUS.RUN0 : Fld := ⟨0xd00004, 0, 1, 0, .ro, fun _ => 0, [], false⟩
def MON_PGA.ALL : Fld := ⟨0xd00008, 0, 16, 0, .rw, fun _ => 0, [], false⟩
def MON_INT_STAT.ALL : Fld := ⟨0xd00020, 0, 5, 0, .w1c, fun _ => 0, [], false⟩
def MON_INT_EN.ALL : Fld := ⟨0xd00024, 0, 5, 0, .rw, fun _ => 0, [], false⟩
def MON_SCAN.ALL : Fld := ⟨0xd00100, 0, 32, 0x40, .rw, fun _ => 0, [], false⟩
def MON_CHAIN.WORDS : Fld := ⟨0xd00104, 24, 8, 0x40, .rw, fun _ => 1, [], false⟩
def MON_CHAIN.SINGLE : Fld := ⟨0xd00104, 23, 1, 0x40, .rw, fun _ => 0, [], false⟩
def MON_CHAIN.FIR : Fld := ⟨0xd00104, 16, 2, 0x40, .rw, fun _ => 0, [], false⟩
def MON_CHAIN.R_LOG : Fld := ⟨0xd00104, 8, 4, 0x40, .rw, fun _ => 4, [(2, 10)], false⟩
def MON_CHAIN.K : Fld := ⟨0xd00104, 0, 3, 0x40, .rw, fun _ => 3, [(2, 4)], false⟩
def MON_TRIG.SRC : Fld := ⟨0xd00108, 30, 2, 0x40, .rw, fun _ => 0, [], false⟩
def MON_TRIG.PW_MAX : Fld := ⟨0xd00108, 10, 10, 0x40, .rw, fun _ => 130, [(1, 1023)], false⟩
def MON_TRIG.PW_MIN : Fld := ⟨0xd00108, 0, 10, 0x40, .rw, fun _ => 10, [(1, 1023)], false⟩
def MON_TRIG_TIME.DELAY : Fld := ⟨0xd0010c, 0, 16, 0x40, .rw, fun _ => 0, [], false⟩
def MON_PERIOD.PERIOD : Fld := ⟨0xd00110, 0, 30, 0x40, .rw, fun _ => 100000, [(1000, 1073741823)], false⟩
def MON_Q.ALL : Fld := ⟨0xd00118, 0, 64, 0x40, .rc, fun _ => 0, [], false⟩
def MON_Q_STAT.LEVEL : Fld := ⟨0xd00120, 16, 11, 0x40, .ro, fun _ => 0, [], false⟩
def MON_Q_STAT.LOST : Fld := ⟨0xd00120, 0, 16, 0x40, .ro, fun _ => 0, [], false⟩
def MON_TRIG_OVR.ALL : Fld := ⟨0xd00124, 0, 16, 0x40, .ro, fun _ => 0, [], false⟩
def MON_CAL.ALL : Fld := ⟨0xd00800, 0, 32, 0x4, .ro, fun _ => 0, [], false⟩
def MON_FIR_ROM.ALL : Fld := ⟨0xd01000, 0, 18, 0x4, .ro, fun _ => 0, [], true⟩

def MON.regs1 : List RegDef := [
  ⟨"MON_CTRL", 0xd00000, 0, 1, 4, [MON_CTRL.CNT_CLR, MON_CTRL.INTERLEAVE, MON_CTRL.EN1, MON_CTRL.EN0]⟩,
  ⟨"MON_STATUS", 0xd00004, 0, 1, 4, [MON_STATUS.S1, MON_STATUS.S0, MON_STATUS.SYSCAL, MON_STATUS.M0_BIAS, MON_STATUS.BURST1, MON_STATUS.BURST0, MON_STATUS.RUN1, MON_STATUS.RUN0]⟩,
  ⟨"MON_PGA", 0xd00008, 0, 1, 4, [MON_PGA.ALL]⟩,
  ⟨"MON_INT_STAT", 0xd00020, 0, 1, 4, [MON_INT_STAT.ALL]⟩,
  ⟨"MON_INT_EN", 0xd00024, 0, 1, 4, [MON_INT_EN.ALL]⟩,
  ⟨"MON_SCAN", 0xd00100, 0x40, 2, 4, [MON_SCAN.ALL]⟩,
  ⟨"MON_CHAIN", 0xd00104, 0x40, 2, 4, [MON_CHAIN.WORDS, MON_CHAIN.SINGLE, MON_CHAIN.FIR, MON_CHAIN.R_LOG, MON_CHAIN.K]⟩,
  ⟨"MON_TRIG", 0xd00108, 0x40, 2, 4, [MON_TRIG.SRC, MON_TRIG.PW_MAX, MON_TRIG.PW_MIN]⟩,
  ⟨"MON_TRIG_TIME", 0xd0010c, 0x40, 2, 4, [MON_TRIG_TIME.DELAY]⟩,
  ⟨"MON_PERIOD", 0xd00110, 0x40, 2, 4, [MON_PERIOD.PERIOD]⟩,
  ⟨"MON_Q", 0xd00118, 0x40, 2, 8, [MON_Q.ALL]⟩,
  ⟨"MON_Q_STAT", 0xd00120, 0x40, 2, 4, [MON_Q_STAT.LEVEL, MON_Q_STAT.LOST]⟩]

def MON.regs2 : List RegDef := [
  ⟨"MON_TRIG_OVR", 0xd00124, 0x40, 2, 4, [MON_TRIG_OVR.ALL]⟩,
  ⟨"MON_CAL", 0xd00800, 0x4, 68, 4, [MON_CAL.ALL]⟩,
  ⟨"MON_FIR_ROM", 0xd01000, 0x4, 192, 4, [MON_FIR_ROM.ALL]⟩]

/-- The registers of the block, in address order. -/
def MON.regs : List RegDef := MON.regs1 ++ MON.regs2

end Sys2Proof.Machine
end

