-- ==== Sys2Proof/Machine/RegsObs.lean ====
section
/-!
DEFINITION. The registers of the OBS block (Observability) and their fields, from R606, R607, Tables 16.9 and 16.10: offset, bits, access code,
reset value and range, one definition a field.
-/
namespace Sys2Proof.Machine

def OBS_CTRL.LOG_ENG : Fld := ⟨0xe00000, 2, 1, 0, .rw, fun _ => 0, [], false⟩
def OBS_CTRL.BW_CLR : Fld := ⟨0xe00000, 1, 1, 0, .w1s, fun _ => 0, [], false⟩
def OBS_CTRL.CNT_CLR : Fld := ⟨0xe00000, 0, 1, 0, .w1s, fun _ => 0, [], false⟩
def OBS_SNAP.GEN : Fld := ⟨0xe00004, 16, 16, 0, .ro, fun _ => 0, [], false⟩
def OBS_SNAP.TAKE : Fld := ⟨0xe00004, 0, 1, 0, .w1s, fun _ => 0, [], false⟩
def OBS_ACL.ALL : Fld := ⟨0xe00008, 0, 16, 0, .rw, fun _ => 0, [], false⟩
def OBS_DUMP_CFG.RANGES : Fld := ⟨0xe0000c, 16, 16, 0, .rw, fun _ => 8191, [], false⟩
def OBS_DUMP_CFG.EN : Fld := ⟨0xe0000c, 3, 1, 0, .rw, fun _ => 0, [], false⟩
def OBS_DUMP_CFG.DEST : Fld := ⟨0xe0000c, 0, 3, 0, .rw, fun _ => 2, [], false⟩
def OBS_DUMP_PERIOD.PERIOD : Fld := ⟨0xe00010, 0, 19, 0, .rw, fun _ => 100, [(1, 360000)], false⟩
def OBS_PRESET_CTRL.GO : Fld := ⟨0xe00014, 31, 1, 0, .w1s, fun _ => 0, [], false⟩
def OBS_PRESET_CTRL.INDEX : Fld := ⟨0xe00014, 0, 11, 0, .rw, fun _ => 0, [], false⟩
def OBS_PRESET_VAL.ALL : Fld := ⟨0xe00018, 0, 48, 0, .rw, fun _ => 0, [], false⟩
def OBS_INT_STAT.ALL : Fld := ⟨0xe00020, 0, 10, 0, .w1c, fun _ => 0, [], false⟩
def OBS_INT_EN.ALL : Fld := ⟨0xe00024, 0, 10, 0, .rw, fun _ => 0, [], false⟩
def OBS_CAP_CFG.SC_MASK : Fld := ⟨0xe00030, 16, 16, 0, .rw, fun _ => 65535, [], false⟩
def OBS_CAP_CFG.SOFT_GB : Fld := ⟨0xe00030, 10, 6, 0, .rw, fun _ => 47, [(1, 47)], false⟩
def OBS_CAP_CFG.REARM : Fld := ⟨0xe00030, 9, 1, 0, .rw, fun _ => 1, [], false⟩
def OBS_CAP_CFG.RAW_SRC : Fld := ⟨0xe00030, 8, 1, 0, .rw, fun _ => 0, [], false⟩
def OBS_CAP_CFG.SOFT_EN : Fld := ⟨0xe00030, 3, 1, 0, .rw, fun _ => 0, [], false⟩
def OBS_CAP_CFG.RAW_EN : Fld := ⟨0xe00030, 2, 1, 0, .rw, fun _ => 0, [], false⟩
def OBS_CAP_CFG.DRAIN_AUTO : Fld := ⟨0xe00030, 1, 1, 0, .rw, fun _ => 1, [], false⟩
def OBS_CAP_POST.SOFT_POST : Fld := ⟨0xe00034, 16, 16, 0, .rw, fun _ => 179, [], false⟩
def OBS_CAP_POST.RAW_POST : Fld := ⟨0xe00034, 0, 7, 0, .rw, fun _ => 20, [(0, 87)], false⟩
def OBS_CAP_STAT.SOFT_STATE : Fld := ⟨0xe00038, 29, 3, 0, .ro, fun _ => 0, [], false⟩
def OBS_CAP_STAT.RAW_STATE : Fld := ⟨0xe00038, 26, 3, 0, .ro, fun _ => 0, [], false⟩
def OBS_CAP_STAT.SOFT_SHORT : Fld := ⟨0xe00038, 25, 1, 0, .ro, fun _ => 0, [], false⟩
def OBS_CAP_STAT.RAW_SHORT : Fld := ⟨0xe00038, 24, 1, 0, .ro, fun _ => 0, [], false⟩
def OBS_CAP_STAT.SOFT_INPUT : Fld := ⟨0xe00038, 21, 3, 0, .ro, fun _ => 0, [], false⟩
def OBS_CAP_STAT.RAW_INPUT : Fld := ⟨0xe00038, 18, 3, 0, .ro, fun _ => 0, [], false⟩
def OBS_REC_CFG.LOG_PCT : Fld := ⟨0xe00040, 24, 8, 0, .rw, fun _ => 25, [(5, 95)], false⟩
def OBS_REC_CFG.DRIVES : Fld := ⟨0xe00040, 2, 2, 0, .rw, fun _ => 3, [], false⟩
def OBS_REC_CFG.EN : Fld := ⟨0xe00040, 0, 1, 0, .rw, fun _ => 0, [], false⟩
def OBS_REC_STAT.DRIVES_OK : Fld := ⟨0xe00044, 30, 2, 0, .ro, fun _ => 0, [], false⟩
def OBS_REC_STAT.DRAINING : Fld := ⟨0xe00044, 29, 1, 0, .ro, fun _ => 0, [], false⟩
def OBS_REC_STAT.HELD : Fld := ⟨0xe00044, 24, 4, 0, .ro, fun _ => 0, [], false⟩
def OBS_REC_STAT.BACKLOG : Fld := ⟨0xe00044, 0, 16, 0, .ro, fun _ => 0, [], false⟩
def OBS_REC_RSEQ.ALL : Fld := ⟨0xe00048, 0, 32, 0, .ro, fun _ => 0, [], false⟩
def OBS_TRIG_CFG.GPIO : Fld := ⟨0xe00080, 12, 4, 0x4, .rw, fun _ => 0, [], false⟩
def OBS_TRIG_CFG.EDGE : Fld := ⟨0xe00080, 9, 1, 0x4, .rw, fun _ => 0, [], false⟩
def OBS_TRIG_CFG.GPIO_EN : Fld := ⟨0xe00080, 8, 1, 0x4, .rw, fun _ => 0, [], false⟩
def OBS_TRIG_CFG.MARK : Fld := ⟨0xe00080, 3, 1, 0x4, .rw, fun _ => 0, [], false⟩
def OBS_TRIG_CFG.DUMP : Fld := ⟨0xe00080, 2, 1, 0x4, .rw, fun _ => 0, [], false⟩
def OBS_TRIG_CFG.SOFT : Fld := ⟨0xe00080, 1, 1, 0x4, .rw, fun _ => 0, [], false⟩
def OBS_TRIG_CFG.RAW : Fld := ⟨0xe00080, 0, 1, 0x4, .rw, fun _ => 0, [], false⟩
def OBS_WRAP.ALL : Fld := ⟨0xe00100, 0, 32, 0x4, .ro, fun _ => 0, [], false⟩
def OBS_WRAP_CLR.ALL : Fld := ⟨0xe00200, 0, 32, 0x4, .w1s, fun _ => 0, [], false⟩
def OBS_BW_CFG.EN : Fld := ⟨0xe00400, 31, 1, 0x20, .rw, fun _ => 0, [], false⟩
def OBS_BW_CFG.PORT : Fld := ⟨0xe00400, 23, 7, 0x20, .rw, fun _ => 0, [(0, 71)], false⟩
def OBS_BW_CFG.WIN : Fld := ⟨0xe00400, 0, 23, 0x20, .rw, fun _ => 10000, [(1, 600000)], false⟩
def OBS_BW_STAT.GEN : Fld := ⟨0xe00404, 16, 16, 0x20, .ro, fun _ => 0, [], false⟩
def OBS_BW_STAT.FREE_RUN : Fld := ⟨0xe00404, 15, 1, 0x20, .ro, fun _ => 0, [], false⟩
def OBS_BW_BYTES.ALL : Fld := ⟨0xe00408, 0, 48, 0x20, .ro, fun _ => 0, [], false⟩
def OBS_BW_MAX.ALL : Fld := ⟨0xe00410, 0, 48, 0x20, .ro, fun _ => 0, [], false⟩
def OBS_BW_MIN.ALL : Fld := ⟨0xe00418, 0, 48, 0x20, .ro, fun _ => 281474976710655, [], false⟩
def OBS_EVT_ROUTE.CLASS : Fld := ⟨0xe01000, 6, 2, 0x4, .ro, fun _ => 0, [], false⟩
def OBS_EVT_ROUTE.Q : Fld := ⟨0xe01000, 5, 1, 0x4, .rw, fun i => if evUsed i then 1 else 0, [], false⟩
def OBS_EVT_ROUTE.REC : Fld := ⟨0xe01000, 4, 1, 0x4, .rw, fun i => if evUsed i ∧ evClass i ≠ 3 then 1 else 0, [], false⟩
def OBS_EVT_ROUTE.TRIG_EN : Fld := ⟨0xe01000, 3, 1, 0x4, .rw, fun _ => 0, [], false⟩
def OBS_EVT_ROUTE.TRIG : Fld := ⟨0xe01000, 0, 3, 0x4, .rw, fun _ => 0, [], false⟩
def OBS_CNT.ALL : Fld := ⟨0xe04000, 0, 48, 0x8, .ro, fun _ => 0, [], false⟩

def OBS.regs1 : List RegDef := [
  ⟨"OBS_CTRL", 0xe00000, 0, 1, 4, [OBS_CTRL.LOG_ENG, OBS_CTRL.BW_CLR, OBS_CTRL.CNT_CLR]⟩,
  ⟨"OBS_SNAP", 0xe00004, 0, 1, 4, [OBS_SNAP.GEN, OBS_SNAP.TAKE]⟩,
  ⟨"OBS_ACL", 0xe00008, 0, 1, 4, [OBS_ACL.ALL]⟩,
  ⟨"OBS_DUMP_CFG", 0xe0000c, 0, 1, 4, [OBS_DUMP_CFG.RANGES, OBS_DUMP_CFG.EN, OBS_DUMP_CFG.DEST]⟩,
  ⟨"OBS_DUMP_PERIOD", 0xe00010, 0, 1, 4, [OBS_DUMP_PERIOD.PERIOD]⟩,
  ⟨"OBS_PRESET_CTRL", 0xe00014, 0, 1, 4, [OBS_PRESET_CTRL.GO, OBS_PRESET_CTRL.INDEX]⟩,
  ⟨"OBS_PRESET_VAL", 0xe00018, 0, 1, 8, [OBS_PRESET_VAL.ALL]⟩,
  ⟨"OBS_INT_STAT", 0xe00020, 0, 1, 4, [OBS_INT_STAT.ALL]⟩,
  ⟨"OBS_INT_EN", 0xe00024, 0, 1, 4, [OBS_INT_EN.ALL]⟩,
  ⟨"OBS_CAP_CFG", 0xe00030, 0, 1, 4, [OBS_CAP_CFG.SC_MASK, OBS_CAP_CFG.SOFT_GB, OBS_CAP_CFG.REARM, OBS_CAP_CFG.RAW_SRC, OBS_CAP_CFG.SOFT_EN, OBS_CAP_CFG.RAW_EN, OBS_CAP_CFG.DRAIN_AUTO]⟩,
  ⟨"OBS_CAP_POST", 0xe00034, 0, 1, 4, [OBS_CAP_POST.SOFT_POST, OBS_CAP_POST.RAW_POST]⟩,
  ⟨"OBS_CAP_STAT", 0xe00038, 0, 1, 4, [OBS_CAP_STAT.SOFT_STATE, OBS_CAP_STAT.RAW_STATE, OBS_CAP_STAT.SOFT_SHORT, OBS_CAP_STAT.RAW_SHORT, OBS_CAP_STAT.SOFT_INPUT, OBS_CAP_STAT.RAW_INPUT]⟩]

def OBS.regs2 : List RegDef := [
  ⟨"OBS_REC_CFG", 0xe00040, 0, 1, 4, [OBS_REC_CFG.LOG_PCT, OBS_REC_CFG.DRIVES, OBS_REC_CFG.EN]⟩,
  ⟨"OBS_REC_STAT", 0xe00044, 0, 1, 4, [OBS_REC_STAT.DRIVES_OK, OBS_REC_STAT.DRAINING, OBS_REC_STAT.HELD, OBS_REC_STAT.BACKLOG]⟩,
  ⟨"OBS_REC_RSEQ", 0xe00048, 0, 1, 4, [OBS_REC_RSEQ.ALL]⟩,
  ⟨"OBS_TRIG_CFG", 0xe00080, 0x4, 8, 4, [OBS_TRIG_CFG.GPIO, OBS_TRIG_CFG.EDGE, OBS_TRIG_CFG.GPIO_EN, OBS_TRIG_CFG.MARK, OBS_TRIG_CFG.DUMP, OBS_TRIG_CFG.SOFT, OBS_TRIG_CFG.RAW]⟩,
  ⟨"OBS_WRAP", 0xe00100, 0x4, 64, 4, [OBS_WRAP.ALL]⟩,
  ⟨"OBS_WRAP_CLR", 0xe00200, 0x4, 64, 4, [OBS_WRAP_CLR.ALL]⟩,
  ⟨"OBS_BW_CFG", 0xe00400, 0x20, 16, 4, [OBS_BW_CFG.EN, OBS_BW_CFG.PORT, OBS_BW_CFG.WIN]⟩,
  ⟨"OBS_BW_STAT", 0xe00404, 0x20, 16, 4, [OBS_BW_STAT.GEN, OBS_BW_STAT.FREE_RUN]⟩,
  ⟨"OBS_BW_BYTES", 0xe00408, 0x20, 16, 8, [OBS_BW_BYTES.ALL]⟩,
  ⟨"OBS_BW_MAX", 0xe00410, 0x20, 16, 8, [OBS_BW_MAX.ALL]⟩,
  ⟨"OBS_BW_MIN", 0xe00418, 0x20, 16, 8, [OBS_BW_MIN.ALL]⟩,
  ⟨"OBS_EVT_ROUTE", 0xe01000, 0x4, 1024, 4, [OBS_EVT_ROUTE.CLASS, OBS_EVT_ROUTE.Q, OBS_EVT_ROUTE.REC, OBS_EVT_ROUTE.TRIG_EN, OBS_EVT_ROUTE.TRIG]⟩]

def OBS.regs3 : List RegDef := [
  ⟨"OBS_CNT", 0xe04000, 0x8, 2048, 8, [OBS_CNT.ALL]⟩]

/-- The registers of the block, in address order. -/
def OBS.regs : List RegDef := OBS.regs1 ++ OBS.regs2 ++ OBS.regs3

end Sys2Proof.Machine
end

