-- ==== Sys2Proof/Machine/RegsPair.lean ====
section
/-!
DEFINITION. The registers of the PAIR block (Pair) and their fields, from Tables 14.14 and 14.15: offset, bits, access code,
reset value and range, one definition a field.
-/
namespace Sys2Proof.Machine

def PAIR_CTRL.CNT_CLR : Fld := ⟨0xc00000, 6, 1, 0, .w1s, fun _ => 0, [], false⟩
def PAIR_CTRL.CMP_RX : Fld := ⟨0xc00000, 5, 1, 0, .rw, fun _ => 1, [], false⟩
def PAIR_CTRL.CMP_TX : Fld := ⟨0xc00000, 4, 1, 0, .rw, fun _ => 1, [], false⟩
def PAIR_CTRL.REVERT : Fld := ⟨0xc00000, 3, 1, 0, .rw, fun _ => 1, [], false⟩
def PAIR_CTRL.PRIMARY : Fld := ⟨0xc00000, 2, 1, 0, .rw, fun _ => 0, [], false⟩
def PAIR_CTRL.EN : Fld := ⟨0xc00000, 0, 1, 0, .rw, fun _ => 0, [], false⟩
def PAIR_STATUS.ROLE : Fld := ⟨0xc00004, 29, 3, 0, .ro, fun _ => 0, [], false⟩
def PAIR_STATUS.MATE_ROLE : Fld := ⟨0xc00004, 26, 3, 0, .ro, fun _ => 7, [], false⟩
def PAIR_STATUS.LINK : Fld := ⟨0xc00004, 25, 1, 0, .ro, fun _ => 0, [], false⟩
def PAIR_STATUS.PEG : Fld := ⟨0xc00004, 24, 1, 0, .ro, fun _ => 0, [], false⟩
def PAIR_STATUS.PEG_CODE : Fld := ⟨0xc00004, 22, 2, 0, .ro, fun _ => 0, [], false⟩
def PAIR_STATUS.SYNCED : Fld := ⟨0xc00004, 21, 1, 0, .ro, fun _ => 0, [], false⟩
def PAIR_STATUS.IDENT : Fld := ⟨0xc00004, 20, 1, 0, .ro, fun _ => 0, [], false⟩
def PAIR_STATUS.WTR_RUN : Fld := ⟨0xc00004, 19, 1, 0, .ro, fun _ => 0, [], false⟩
def PAIR_STATUS.WTR_LEFT : Fld := ⟨0xc00004, 0, 16, 0, .ro, fun _ => 0, [], false⟩
def PAIR_TIMERS.WTR : Fld := ⟨0xc00008, 20, 12, 0, .rw, fun _ => 300, [(60, 3600)], false⟩
def PAIR_TIMERS.SNAP_PERIOD : Fld := ⟨0xc00008, 8, 12, 0, .rw, fun _ => 10, [(1, 3600)], false⟩
def PAIR_TIMERS.DEATH_WIN : Fld := ⟨0xc00008, 0, 8, 0, .rw, fun _ => 5, [(3, 50)], false⟩
def PAIR_TIMERS2.SNAP_TO : Fld := ⟨0xc0000c, 22, 10, 0, .rw, fun _ => 20, [(5, 1000)], false⟩
def PAIR_TIMERS2.ACK_TO : Fld := ⟨0xc0000c, 12, 10, 0, .rw, fun _ => 10, [(1, 100)], false⟩
def PAIR_TIMERS2.GAP_HOLD : Fld := ⟨0xc0000c, 0, 10, 0, .rw, fun _ => 10, [(0, 1000)], false⟩
def PAIR_CMP_CFG.MIS_N : Fld := ⟨0xc00010, 24, 8, 0, .rw, fun _ => 1, [(1, 255)], false⟩
def PAIR_CMP_CFG.UNRES_N : Fld := ⟨0xc00010, 20, 4, 0, .rw, fun _ => 3, [(1, 15)], false⟩
def PAIR_SPARE_CFG.RETEST : Fld := ⟨0xc00014, 12, 12, 0, .rw, fun _ => 60, [(10, 3600)], false⟩
def PAIR_SPARE_CFG.SPARE_WTR : Fld := ⟨0xc00014, 0, 12, 0, .rw, fun _ => 300, [(60, 3600)], false⟩
def PAIR_EPOCH.ALL : Fld := ⟨0xc00018, 0, 32, 0, .ro, fun _ => 0, [], false⟩
def PAIR_JSEQ.ALL : Fld := ⟨0xc0001c, 0, 32, 0, .ro, fun _ => 0, [], false⟩
def PAIR_INT_STAT.ALL : Fld := ⟨0xc00020, 0, 14, 0, .w1c, fun _ => 0, [], false⟩
def PAIR_INT_EN.ALL : Fld := ⟨0xc00024, 0, 14, 0, .rw, fun _ => 0, [], false⟩
def PAIR_JACK.ALL : Fld := ⟨0xc00028, 0, 32, 0, .ro, fun _ => 0, [], false⟩
def PAIR_MATE_ID.ALL : Fld := ⟨0xc00030, 0, 64, 0, .rw, fun _ => 0, [], false⟩
def PAIR_CMP_TX.ALL : Fld := ⟨0xc00040, 0, 48, 0, .ro, fun _ => 0, [], false⟩
def PAIR_MIS_TX.ALL : Fld := ⟨0xc00048, 0, 48, 0, .ro, fun _ => 0, [], false⟩
def PAIR_CMP_RX.ALL : Fld := ⟨0xc00050, 0, 48, 0, .ro, fun _ => 0, [], false⟩
def PAIR_MIS_RX.ALL : Fld := ⟨0xc00058, 0, 48, 0, .ro, fun _ => 0, [], false⟩
def PAIR_SKIP_RX.ALL : Fld := ⟨0xc00060, 0, 48, 0, .ro, fun _ => 0, [], false⟩
def PAIR_MISSING.ALL : Fld := ⟨0xc00068, 0, 48, 0, .ro, fun _ => 0, [], false⟩
def PAIR_ENG.STATE : Fld := ⟨0xc00100, 28, 4, 0x4, .ro, fun i => if i % 8 = 7 then 1 else 0, [], false⟩
def PAIR_ENG.RUNS_FOR : Fld := ⟨0xc00100, 8, 8, 0x4, .ro, fun _ => 255, [], false⟩
def PAIR_ENG.FAILS : Fld := ⟨0xc00100, 0, 8, 0x4, .ro, fun _ => 0, [], false⟩

def PAIR.regs1 : List RegDef := [
  ⟨"PAIR_CTRL", 0xc00000, 0, 1, 4, [PAIR_CTRL.CNT_CLR, PAIR_CTRL.CMP_RX, PAIR_CTRL.CMP_TX, PAIR_CTRL.REVERT, PAIR_CTRL.PRIMARY, PAIR_CTRL.EN]⟩,
  ⟨"PAIR_STATUS", 0xc00004, 0, 1, 4, [PAIR_STATUS.ROLE, PAIR_STATUS.MATE_ROLE, PAIR_STATUS.LINK, PAIR_STATUS.PEG, PAIR_STATUS.PEG_CODE, PAIR_STATUS.SYNCED, PAIR_STATUS.IDENT, PAIR_STATUS.WTR_RUN, PAIR_STATUS.WTR_LEFT]⟩,
  ⟨"PAIR_TIMERS", 0xc00008, 0, 1, 4, [PAIR_TIMERS.WTR, PAIR_TIMERS.SNAP_PERIOD, PAIR_TIMERS.DEATH_WIN]⟩,
  ⟨"PAIR_TIMERS2", 0xc0000c, 0, 1, 4, [PAIR_TIMERS2.SNAP_TO, PAIR_TIMERS2.ACK_TO, PAIR_TIMERS2.GAP_HOLD]⟩,
  ⟨"PAIR_CMP_CFG", 0xc00010, 0, 1, 4, [PAIR_CMP_CFG.MIS_N, PAIR_CMP_CFG.UNRES_N]⟩,
  ⟨"PAIR_SPARE_CFG", 0xc00014, 0, 1, 4, [PAIR_SPARE_CFG.RETEST, PAIR_SPARE_CFG.SPARE_WTR]⟩,
  ⟨"PAIR_EPOCH", 0xc00018, 0, 1, 4, [PAIR_EPOCH.ALL]⟩,
  ⟨"PAIR_JSEQ", 0xc0001c, 0, 1, 4, [PAIR_JSEQ.ALL]⟩,
  ⟨"PAIR_INT_STAT", 0xc00020, 0, 1, 4, [PAIR_INT_STAT.ALL]⟩,
  ⟨"PAIR_INT_EN", 0xc00024, 0, 1, 4, [PAIR_INT_EN.ALL]⟩,
  ⟨"PAIR_JACK", 0xc00028, 0, 1, 4, [PAIR_JACK.ALL]⟩,
  ⟨"PAIR_MATE_ID", 0xc00030, 0, 1, 8, [PAIR_MATE_ID.ALL]⟩]

def PAIR.regs2 : List RegDef := [
  ⟨"PAIR_CMP_TX", 0xc00040, 0, 1, 8, [PAIR_CMP_TX.ALL]⟩,
  ⟨"PAIR_MIS_TX", 0xc00048, 0, 1, 8, [PAIR_MIS_TX.ALL]⟩,
  ⟨"PAIR_CMP_RX", 0xc00050, 0, 1, 8, [PAIR_CMP_RX.ALL]⟩,
  ⟨"PAIR_MIS_RX", 0xc00058, 0, 1, 8, [PAIR_MIS_RX.ALL]⟩,
  ⟨"PAIR_SKIP_RX", 0xc00060, 0, 1, 8, [PAIR_SKIP_RX.ALL]⟩,
  ⟨"PAIR_MISSING", 0xc00068, 0, 1, 8, [PAIR_MISSING.ALL]⟩,
  ⟨"PAIR_ENG", 0xc00100, 0x4, 64, 4, [PAIR_ENG.STATE, PAIR_ENG.RUNS_FOR, PAIR_ENG.FAILS]⟩]

/-- The registers of the block, in address order. -/
def PAIR.regs : List RegDef := PAIR.regs1 ++ PAIR.regs2

end Sys2Proof.Machine
end

