-- ==== Sys2Proof/Machine/RegsPwr.lean ====
section
/-!
DEFINITION. The registers of the PWR block (Power) and their fields, from Tables 18.15 and 18.16: offset, bits, access code,
reset value and range, one definition a field.
-/
namespace Sys2Proof.Machine

def PWR_STATUS.TJ : Fld := ⟨0x1100000, 24, 8, 0, .ro, fun _ => 0, [], false⟩
def PWR_STATUS.TRIP : Fld := ⟨0x1100000, 15, 1, 0, .ro, fun _ => 0, [], false⟩
def PWR_STATUS.WARN : Fld := ⟨0x1100000, 14, 1, 0, .ro, fun _ => 0, [], false⟩
def PWR_STATUS.TARGET : Fld := ⟨0x1100000, 5, 3, 0, .ro, fun _ => 0, [], false⟩
def PWR_STATUS.BUSY : Fld := ⟨0x1100000, 4, 1, 0, .ro, fun _ => 0, [], false⟩
def PWR_STATUS.STATE : Fld := ⟨0x1100000, 0, 3, 0, .ro, fun _ => 0, [], false⟩
def PWR_THERM_CFG.WARN : Fld := ⟨0x1100004, 24, 8, 0, .rw, fun _ => 140, [(85, 150)], false⟩
def PWR_THERM_CFG.CRIT : Fld := ⟨0x1100004, 16, 8, 0, .rw, fun _ => 155, [(150, 160)], false⟩
def PWR_THERM_CFG.HYST : Fld := ⟨0x1100004, 8, 8, 0, .rw, fun _ => 5, [(1, 20)], false⟩
def PWR_INT_STAT.ALL : Fld := ⟨0x1100020, 0, 4, 0, .w1c, fun _ => 0, [], false⟩
def PWR_INT_EN.ALL : Fld := ⟨0x1100024, 0, 4, 0, .rw, fun _ => 0, [], false⟩
def PWR_PWM.FREQ : Fld := ⟨0x1100100, 8, 16, 0x4, .rw, fun _ => 2500, [(1, 5000)], false⟩
def PWR_PWM.DUTY : Fld := ⟨0x1100100, 0, 8, 0x4, .rw, fun _ => 255, [], false⟩

def PWR.regs1 : List RegDef := [
  ⟨"PWR_STATUS", 0x1100000, 0, 1, 4, [PWR_STATUS.TJ, PWR_STATUS.TRIP, PWR_STATUS.WARN, PWR_STATUS.TARGET, PWR_STATUS.BUSY, PWR_STATUS.STATE]⟩,
  ⟨"PWR_THERM_CFG", 0x1100004, 0, 1, 4, [PWR_THERM_CFG.WARN, PWR_THERM_CFG.CRIT, PWR_THERM_CFG.HYST]⟩,
  ⟨"PWR_INT_STAT", 0x1100020, 0, 1, 4, [PWR_INT_STAT.ALL]⟩,
  ⟨"PWR_INT_EN", 0x1100024, 0, 1, 4, [PWR_INT_EN.ALL]⟩,
  ⟨"PWR_PWM", 0x1100100, 0x4, 4, 4, [PWR_PWM.FREQ, PWR_PWM.DUTY]⟩]

/-- The registers of the block, in address order. -/
def PWR.regs : List RegDef := PWR.regs1

end Sys2Proof.Machine
end

