-- ==== Sys2Proof/Machine/RegsRef.lean ====
section
/-!
DEFINITION. The registers of the REF block (Timing references) and their fields, from Tables 12.7 and 12.8: offset, bits, access code,
reset value and range, one definition a field.
-/
namespace Sys2Proof.Machine

def REF_CTRL.CLAMP_QL : Fld := ⟨0xa00000, 16, 4, 0, .rw, fun _ => 6, [(1, 8)], false⟩
def REF_CTRL.ESMC_TX : Fld := ⟨0xa00000, 15, 1, 0, .rw, fun _ => 0, [], false⟩
def REF_CTRL.REVERT : Fld := ⟨0xa00000, 13, 1, 0, .rw, fun _ => 1, [], false⟩
def REF_CTRL.QL_EN : Fld := ⟨0xa00000, 12, 1, 0, .rw, fun _ => 1, [], false⟩
def REF_CTRL.SEL_CAND : Fld := ⟨0xa00000, 8, 4, 0, .rw, fun _ => 0, [(0, 11)], false⟩
def REF_CTRL.SEL_MODE : Fld := ⟨0xa00000, 0, 3, 0, .rw, fun _ => 0, [(0, 4)], false⟩
def REF_STATUS.OUT_QL : Fld := ⟨0xa00004, 28, 4, 0, .ro, fun _ => 8, [], false⟩
def REF_STATUS.SELECTED : Fld := ⟨0xa00004, 24, 4, 0, .ro, fun _ => 15, [], false⟩
def REF_STATUS.DPLL : Fld := ⟨0xa00004, 21, 3, 0, .ro, fun _ => 0, [], false⟩
def REF_STATUS.HIST_VALID : Fld := ⟨0xa00004, 20, 1, 0, .ro, fun _ => 0, [], false⟩
def REF_STATUS.OSC_PRESENT : Fld := ⟨0xa00004, 19, 1, 0, .ro, fun _ => 0, [], false⟩
def REF_STATUS.MON_SRC : Fld := ⟨0xa00004, 18, 1, 0, .ro, fun _ => 1, [], false⟩
def REF_STATUS.BUILDOUT : Fld := ⟨0xa00004, 17, 1, 0, .ro, fun _ => 0, [], false⟩
def REF_STATUS.CLAMP_EXPIRED : Fld := ⟨0xa00004, 16, 1, 0, .ro, fun _ => 0, [], false⟩
def REF_STATUS.QUALIFIED : Fld := ⟨0xa00004, 0, 12, 0, .ro, fun _ => 0, [], false⟩
def REF_DPLL_CFG.BW : Fld := ⟨0xa00008, 20, 12, 0, .rw, fun _ => 100, [(1, 1000)], false⟩
def REF_DPLL_CFG.ACQ_BW : Fld := ⟨0xa00008, 12, 8, 0, .rw, fun _ => 10, [(1, 100)], false⟩
def REF_DPLL_CFG.LOCK_THR : Fld := ⟨0xa00008, 0, 10, 0, .rw, fun _ => 100, [(10, 1000)], false⟩
def REF_MON_CFG.ACCEPT : Fld := ⟨0xa0000c, 22, 10, 0, .rw, fun _ => 46, [(1, 500)], false⟩
def REF_MON_CFG.REJECT : Fld := ⟨0xa0000c, 12, 10, 0, .rw, fun _ => 92, [(2, 1000)], false⟩
def REF_MON_CFG.RATE : Fld := ⟨0xa0000c, 0, 12, 0, .rw, fun _ => 20, [(1, 1000)], false⟩
def REF_TIMERS.QUAL : Fld := ⟨0xa00010, 22, 10, 0, .rw, fun _ => 10, [(1, 600)], false⟩
def REF_TIMERS.WTR : Fld := ⟨0xa00010, 10, 12, 0, .rw, fun _ => 300, [(0, 3600)], false⟩
def REF_TIMERS.BUILDOUT : Fld := ⟨0xa00010, 0, 7, 0, .rw, fun _ => 50, [(10, 100)], false⟩
def REF_CLAMP_CFG.HIST_AVG : Fld := ⟨0xa00014, 22, 10, 0, .rw, fun _ => 60, [(1, 900)], false⟩
def REF_CLAMP_CFG.HIST_GUARD : Fld := ⟨0xa00014, 16, 6, 0, .rw, fun _ => 2, [(0, 60)], false⟩
def REF_CLAMP_CFG.HIST_MIN : Fld := ⟨0xa00014, 4, 12, 0, .rw, fun _ => 60, [(10, 3600)], false⟩
def REF_CLAMP_MAX.ALL : Fld := ⟨0xa00018, 0, 20, 0, .rw, fun _ => 0, [(0, 604800)], false⟩
def REF_OSC_CFG.HZ : Fld := ⟨0xa0001c, 0, 27, 0, .rw, fun _ => 10000000, [(10000000, 100000000)], false⟩
def REF_INT_STAT.ALL : Fld := ⟨0xa00020, 0, 11, 0, .w1c, fun _ => 0, [], false⟩
def REF_INT_EN.ALL : Fld := ⟨0xa00024, 0, 11, 0, .rw, fun _ => 0, [], false⟩
def REF_DPLL_FREQ.ALL : Fld := ⟨0xa00028, 0, 32, 0, .ro, fun _ => 0, [], true⟩
def REF_HIST_FREQ.ALL : Fld := ⟨0xa0002c, 0, 32, 0, .ro, fun _ => 0, [], true⟩
def REF_PHASE_ERR.ALL : Fld := ⟨0xa00030, 0, 32, 0, .ro, fun _ => 0, [], true⟩
def REF_COMPAT_CFG.WIN : Fld := ⟨0xa00034, 0, 10, 0, .rw, fun _ => 20, [(2, 1000)], false⟩
def REF_ESMC_MASK.MASK : Fld := ⟨0xa00038, 0, 32, 0, .rw, fun _ => 4294967295, [], false⟩
def REF_CAND_CFG.PRIO : Fld := ⟨0xa00100, 28, 4, 0x10, .rw, fun _ => 0, [], false⟩
def REF_CAND_CFG.QL : Fld := ⟨0xa00100, 24, 4, 0x10, .rw, fun _ => 8, [(1, 9)], false⟩
def REF_CAND_CFG.QL_SRC : Fld := ⟨0xa00100, 23, 1, 0x10, .rw, fun _ => 0, [], false⟩
def REF_CAND_CFG.LOCKOUT : Fld := ⟨0xa00100, 22, 1, 0x10, .rw, fun _ => 0, [], false⟩
def REF_CAND_CFG.LANE : Fld := ⟨0xa00100, 16, 4, 0x10, .rw, fun _ => 0, [], false⟩
def REF_CAND_STAT.QL_RX : Fld := ⟨0xa00104, 28, 4, 0x10, .ro, fun _ => 10, [], false⟩
def REF_CAND_STAT.QL_EFF : Fld := ⟨0xa00104, 24, 4, 0x10, .ro, fun _ => 8, [], false⟩
def REF_CAND_STAT.STATE : Fld := ⟨0xa00104, 20, 4, 0x10, .ro, fun _ => 0, [], false⟩
def REF_CAND_STAT.ACT : Fld := ⟨0xa00104, 19, 1, 0x10, .ro, fun _ => 0, [], false⟩
def REF_CAND_STAT.DRIFT : Fld := ⟨0xa00104, 18, 1, 0x10, .ro, fun _ => 0, [], false⟩
def REF_CAND_STAT.QUAL_LEFT : Fld := ⟨0xa00104, 0, 16, 0x10, .ro, fun _ => 0, [], false⟩
def REF_CAND_FREQ.ALL : Fld := ⟨0xa00108, 0, 32, 0x10, .ro, fun _ => 0, [], true⟩
def REF_CAND_FHZ.HZ : Fld := ⟨0xa0010c, 0, 30, 0x10, .rw, fun _ => 10000000, [(1, 1000000000)], false⟩
def REF_OUT_CFG.EN : Fld := ⟨0xa00400, 31, 1, 0x10, .rw, fun _ => 0, [], false⟩
def REF_OUT_CFG.COMPAT : Fld := ⟨0xa00400, 30, 1, 0x10, .rw, fun _ => 0, [], false⟩
def REF_OUT_CFG.SRC : Fld := ⟨0xa00400, 26, 3, 0x10, .rw, fun _ => 0, [], false⟩
def REF_OUT_CFG.POL : Fld := ⟨0xa00400, 25, 1, 0x10, .rw, fun _ => 1, [], false⟩
def REF_OUT_CFG.WIDTH : Fld := ⟨0xa00400, 0, 23, 0x10, .rw, fun _ => 1000, [(1, 5000000)], false⟩
def REF_OUT_FHZ.HZ : Fld := ⟨0xa00404, 0, 30, 0x10, .rw, fun i => if i < 4 then 10000000 else 1, [(1, 1000000000)], false⟩
def REF_OUT_OFS.ALL : Fld := ⟨0xa00408, 0, 32, 0x10, .rw, fun _ => 0, [], true⟩

def REF.regs1 : List RegDef := [
  ⟨"REF_CTRL", 0xa00000, 0, 1, 4, [REF_CTRL.CLAMP_QL, REF_CTRL.ESMC_TX, REF_CTRL.REVERT, REF_CTRL.QL_EN, REF_CTRL.SEL_CAND, REF_CTRL.SEL_MODE]⟩,
  ⟨"REF_STATUS", 0xa00004, 0, 1, 4, [REF_STATUS.OUT_QL, REF_STATUS.SELECTED, REF_STATUS.DPLL, REF_STATUS.HIST_VALID, REF_STATUS.OSC_PRESENT, REF_STATUS.MON_SRC, REF_STATUS.BUILDOUT, REF_STATUS.CLAMP_EXPIRED, REF_STATUS.QUALIFIED]⟩,
  ⟨"REF_DPLL_CFG", 0xa00008, 0, 1, 4, [REF_DPLL_CFG.BW, REF_DPLL_CFG.ACQ_BW, REF_DPLL_CFG.LOCK_THR]⟩,
  ⟨"REF_MON_CFG", 0xa0000c, 0, 1, 4, [REF_MON_CFG.ACCEPT, REF_MON_CFG.REJECT, REF_MON_CFG.RATE]⟩,
  ⟨"REF_TIMERS", 0xa00010, 0, 1, 4, [REF_TIMERS.QUAL, REF_TIMERS.WTR, REF_TIMERS.BUILDOUT]⟩,
  ⟨"REF_CLAMP_CFG", 0xa00014, 0, 1, 4, [REF_CLAMP_CFG.HIST_AVG, REF_CLAMP_CFG.HIST_GUARD, REF_CLAMP_CFG.HIST_MIN]⟩,
  ⟨"REF_CLAMP_MAX", 0xa00018, 0, 1, 4, [REF_CLAMP_MAX.ALL]⟩,
  ⟨"REF_OSC_CFG", 0xa0001c, 0, 1, 4, [REF_OSC_CFG.HZ]⟩,
  ⟨"REF_INT_STAT", 0xa00020, 0, 1, 4, [REF_INT_STAT.ALL]⟩,
  ⟨"REF_INT_EN", 0xa00024, 0, 1, 4, [REF_INT_EN.ALL]⟩,
  ⟨"REF_DPLL_FREQ", 0xa00028, 0, 1, 4, [REF_DPLL_FREQ.ALL]⟩,
  ⟨"REF_HIST_FREQ", 0xa0002c, 0, 1, 4, [REF_HIST_FREQ.ALL]⟩]

def REF.regs2 : List RegDef := [
  ⟨"REF_PHASE_ERR", 0xa00030, 0, 1, 4, [REF_PHASE_ERR.ALL]⟩,
  ⟨"REF_COMPAT_CFG", 0xa00034, 0, 1, 4, [REF_COMPAT_CFG.WIN]⟩,
  ⟨"REF_ESMC_MASK", 0xa00038, 0, 1, 4, [REF_ESMC_MASK.MASK]⟩,
  ⟨"REF_CAND_CFG", 0xa00100, 0x10, 12, 4, [REF_CAND_CFG.PRIO, REF_CAND_CFG.QL, REF_CAND_CFG.QL_SRC, REF_CAND_CFG.LOCKOUT, REF_CAND_CFG.LANE]⟩,
  ⟨"REF_CAND_STAT", 0xa00104, 0x10, 12, 4, [REF_CAND_STAT.QL_RX, REF_CAND_STAT.QL_EFF, REF_CAND_STAT.STATE, REF_CAND_STAT.ACT, REF_CAND_STAT.DRIFT, REF_CAND_STAT.QUAL_LEFT]⟩,
  ⟨"REF_CAND_FREQ", 0xa00108, 0x10, 12, 4, [REF_CAND_FREQ.ALL]⟩,
  ⟨"REF_CAND_FHZ", 0xa0010c, 0x10, 12, 4, [REF_CAND_FHZ.HZ]⟩,
  ⟨"REF_OUT_CFG", 0xa00400, 0x10, 6, 4, [REF_OUT_CFG.EN, REF_OUT_CFG.COMPAT, REF_OUT_CFG.SRC, REF_OUT_CFG.POL, REF_OUT_CFG.WIDTH]⟩,
  ⟨"REF_OUT_FHZ", 0xa00404, 0x10, 6, 4, [REF_OUT_FHZ.HZ]⟩,
  ⟨"REF_OUT_OFS", 0xa00408, 0x10, 6, 4, [REF_OUT_OFS.ALL]⟩]

/-- The registers of the block, in address order. -/
def REF.regs : List RegDef := REF.regs1 ++ REF.regs2

end Sys2Proof.Machine
end

