-- ==== Sys2Proof/Machine/RegsScr.lean ====
section
/-!
DEFINITION. The registers of the SCR block (Scribe) and their fields, from Tables 11.7 and 11.8: offset, bits, access code,
reset value and range, one definition a field.
-/
namespace Sys2Proof.Machine

def SCR_CTRL.CNT_CLR : Fld := ⟨0x900000, 5, 1, 0, .w1s, fun _ => 0, [], false⟩
def SCR_CTRL.RESTART : Fld := ⟨0x900000, 4, 1, 0, .w1s, fun _ => 0, [], false⟩
def SCR_CTRL.PIN : Fld := ⟨0x900000, 3, 1, 0, .rw, fun _ => 0, [], false⟩
def SCR_CTRL.AUTO_RENEG : Fld := ⟨0x900000, 2, 1, 0, .rw, fun _ => 1, [], false⟩
def SCR_CTRL.NEG : Fld := ⟨0x900000, 1, 1, 0, .rw, fun _ => 1, [], false⟩
def SCR_CTRL.EN : Fld := ⟨0x900000, 0, 1, 0, .rw, fun _ => 0, [], false⟩
def SCR_STATUS.LEVEL : Fld := ⟨0x900004, 24, 8, 0, .ro, fun _ => 0, [], false⟩
def SCR_STATUS.PEERS : Fld := ⟨0x900004, 16, 8, 0, .ro, fun _ => 0, [], false⟩
def SCR_STATUS.RX_BUSY : Fld := ⟨0x900004, 11, 1, 0, .ro, fun _ => 0, [], false⟩
def SCR_STATUS.KEYED : Fld := ⟨0x900004, 10, 1, 0, .ro, fun _ => 0, [], false⟩
def SCR_STATUS.ROLE : Fld := ⟨0x900004, 8, 2, 0, .ro, fun _ => 0, [], false⟩
def SCR_STATUS.STATE : Fld := ⟨0x900004, 0, 4, 0, .ro, fun _ => 0, [], false⟩
def SCR_CFG.FREQ : Fld := ⟨0x900008, 22, 10, 0, .rw, fun _ => 645, [(600, 700)], false⟩
def SCR_CFG.LEVEL : Fld := ⟨0x900008, 16, 6, 0, .rw, fun _ => 0, [(-20, 6)], true⟩
def SCR_CFG.CAP_MARGIN : Fld := ⟨0x900008, 8, 8, 0, .rw, fun _ => 12, [(0, 40)], false⟩
def SCR_CFG.SYNC_TOL : Fld := ⟨0x900008, 0, 4, 0, .rw, fun _ => 6, [(0, 12)], false⟩
def SCR_TIMERS.HELLO : Fld := ⟨0x90000c, 22, 10, 0, .rw, fun _ => 100, [(10, 1000)], false⟩
def SCR_TIMERS.REPLY_TO : Fld := ⟨0x90000c, 12, 10, 0, .rw, fun _ => 50, [(10, 1000)], false⟩
def SCR_TIMERS.NEG_TO : Fld := ⟨0x90000c, 5, 7, 0, .rw, fun _ => 10, [(1, 120)], false⟩
def SCR_TIMERS.RETRIES : Fld := ⟨0x90000c, 0, 5, 0, .rw, fun _ => 5, [(1, 15)], false⟩
def SCR_BACKOFF.ALL : Fld := ⟨0x900010, 0, 10, 0, .rw, fun _ => 10, [(1, 600)], false⟩
def SCR_TIMERS2.SEL_WIN : Fld := ⟨0x900014, 22, 10, 0, .rw, fun _ => 200, [(10, 1000)], false⟩
def SCR_TIMERS2.GO_TO : Fld := ⟨0x900014, 10, 12, 0, .rw, fun _ => 200, [(50, 3000)], false⟩
def SCR_TIMERS2.RELOCK_TO : Fld := ⟨0x900014, 0, 10, 0, .rw, fun _ => 10, [(1, 600)], false⟩
def SCR_MODES.ALL : Fld := ⟨0x900018, 1, 5, 0, .rw, fun _ => 31, [], false⟩
def SCR_AFC.ALL : Fld := ⟨0x90001c, 0, 32, 0, .ro, fun _ => 0, [], true⟩
def SCR_PEER_ID.ALL : Fld := ⟨0x900020, 0, 64, 0, .rw, fun _ => 0, [], false⟩
def SCR_PEER_CUR.ALL : Fld := ⟨0x900028, 0, 64, 0, .ro, fun _ => 0, [], false⟩
def SCR_KEY_PAGES.ALL : Fld := ⟨0x900030, 0, 32, 0x4, .rw, fun _ => 0, [], false⟩
def SCR_INT_STAT.ALL : Fld := ⟨0x900040, 0, 10, 0, .w1c, fun _ => 0, [], false⟩
def SCR_INT_EN.ALL : Fld := ⟨0x900044, 0, 10, 0, .rw, fun _ => 0, [], false⟩
def SCR_RX_OK.ALL : Fld := ⟨0x900100, 0, 48, 0, .ro, fun _ => 0, [], false⟩
def SCR_RX_HCRC.ALL : Fld := ⟨0x900108, 0, 48, 0, .ro, fun _ => 0, [], false⟩
def SCR_RX_CRC.ALL : Fld := ⟨0x900110, 0, 48, 0, .ro, fun _ => 0, [], false⟩
def SCR_PREEMPTED.ALL : Fld := ⟨0x900118, 0, 48, 0, .ro, fun _ => 0, [], false⟩
def SCR_INTERF.ALL : Fld := ⟨0x900120, 0, 48, 0, .ro, fun _ => 0, [], false⟩
def SCR_LOOPED.ALL : Fld := ⟨0x900128, 0, 48, 0, .ro, fun _ => 0, [], false⟩
def SCR_PEER_REJ.ALL : Fld := ⟨0x900130, 0, 48, 0, .ro, fun _ => 0, [], false⟩
def SCR_TX_PKTS.ALL : Fld := ⟨0x900138, 0, 48, 0, .ro, fun _ => 0, [], false⟩

def SCR.regs1 : List RegDef := [
  ⟨"SCR_CTRL", 0x900000, 0, 1, 4, [SCR_CTRL.CNT_CLR, SCR_CTRL.RESTART, SCR_CTRL.PIN, SCR_CTRL.AUTO_RENEG, SCR_CTRL.NEG, SCR_CTRL.EN]⟩,
  ⟨"SCR_STATUS", 0x900004, 0, 1, 4, [SCR_STATUS.LEVEL, SCR_STATUS.PEERS, SCR_STATUS.RX_BUSY, SCR_STATUS.KEYED, SCR_STATUS.ROLE, SCR_STATUS.STATE]⟩,
  ⟨"SCR_CFG", 0x900008, 0, 1, 4, [SCR_CFG.FREQ, SCR_CFG.LEVEL, SCR_CFG.CAP_MARGIN, SCR_CFG.SYNC_TOL]⟩,
  ⟨"SCR_TIMERS", 0x90000c, 0, 1, 4, [SCR_TIMERS.HELLO, SCR_TIMERS.REPLY_TO, SCR_TIMERS.NEG_TO, SCR_TIMERS.RETRIES]⟩,
  ⟨"SCR_BACKOFF", 0x900010, 0, 1, 4, [SCR_BACKOFF.ALL]⟩,
  ⟨"SCR_TIMERS2", 0x900014, 0, 1, 4, [SCR_TIMERS2.SEL_WIN, SCR_TIMERS2.GO_TO, SCR_TIMERS2.RELOCK_TO]⟩,
  ⟨"SCR_MODES", 0x900018, 0, 1, 4, [SCR_MODES.ALL]⟩,
  ⟨"SCR_AFC", 0x90001c, 0, 1, 4, [SCR_AFC.ALL]⟩,
  ⟨"SCR_PEER_ID", 0x900020, 0, 1, 8, [SCR_PEER_ID.ALL]⟩,
  ⟨"SCR_PEER_CUR", 0x900028, 0, 1, 8, [SCR_PEER_CUR.ALL]⟩,
  ⟨"SCR_KEY_PAGES", 0x900030, 0x4, 3, 4, [SCR_KEY_PAGES.ALL]⟩,
  ⟨"SCR_INT_STAT", 0x900040, 0, 1, 4, [SCR_INT_STAT.ALL]⟩]

def SCR.regs2 : List RegDef := [
  ⟨"SCR_INT_EN", 0x900044, 0, 1, 4, [SCR_INT_EN.ALL]⟩,
  ⟨"SCR_RX_OK", 0x900100, 0, 1, 8, [SCR_RX_OK.ALL]⟩,
  ⟨"SCR_RX_HCRC", 0x900108, 0, 1, 8, [SCR_RX_HCRC.ALL]⟩,
  ⟨"SCR_RX_CRC", 0x900110, 0, 1, 8, [SCR_RX_CRC.ALL]⟩,
  ⟨"SCR_PREEMPTED", 0x900118, 0, 1, 8, [SCR_PREEMPTED.ALL]⟩,
  ⟨"SCR_INTERF", 0x900120, 0, 1, 8, [SCR_INTERF.ALL]⟩,
  ⟨"SCR_LOOPED", 0x900128, 0, 1, 8, [SCR_LOOPED.ALL]⟩,
  ⟨"SCR_PEER_REJ", 0x900130, 0, 1, 8, [SCR_PEER_REJ.ALL]⟩,
  ⟨"SCR_TX_PKTS", 0x900138, 0, 1, 8, [SCR_TX_PKTS.ALL]⟩]

/-- The registers of the block, in address order. -/
def SCR.regs : List RegDef := SCR.regs1 ++ SCR.regs2

end Sys2Proof.Machine
end

