-- ==== Sys2Proof/Machine/RegsSec.lean ====
section
/-!
DEFINITION. The registers of the SEC block (Security) and their fields, from Tables 18.15 and 18.16: offset, bits, access code,
reset value and range, one definition a field.
-/
namespace Sys2Proof.Machine

def SEC_STATUS.LIFECYCLE : Fld := ⟨0x1000000, 29, 3, 0, .ro, fun _ => 0, [], false⟩
def SEC_STATUS.FALLBACK : Fld := ⟨0x1000000, 28, 1, 0, .ro, fun _ => 0, [], false⟩
def SEC_STATUS.CUSTKEY : Fld := ⟨0x1000000, 27, 1, 0, .ro, fun _ => 0, [], false⟩
def SEC_STATUS.DEBUG_OPEN : Fld := ⟨0x1000000, 26, 1, 0, .ro, fun _ => 0, [], false⟩
def SEC_STATUS.KEEPER_ALARM : Fld := ⟨0x1000000, 25, 1, 0, .ro, fun _ => 0, [], false⟩
def SEC_STATUS.DRBG_OK : Fld := ⟨0x1000000, 24, 1, 0, .ro, fun _ => 0, [], false⟩
def SEC_STATUS.K_CNT : Fld := ⟨0x1000000, 17, 7, 0, .ro, fun _ => 0, [], false⟩
def SEC_STATUS.E_CNT : Fld := ⟨0x1000000, 10, 7, 0, .ro, fun _ => 0, [], false⟩
def SEC_STATUS.BANK : Fld := ⟨0x1000000, 9, 1, 0, .ro, fun _ => 0, [], false⟩
def SEC_RESET_CAUSE.BOOTS : Fld := ⟨0x1000004, 16, 16, 0, .ro, fun _ => 1, [], false⟩
def SEC_RESET_CAUSE.CAUSE : Fld := ⟨0x1000004, 0, 4, 0, .ro, fun _ => 1, [], false⟩
def SEC_HBM_SENS.ALL : Fld := ⟨0x1000008, 0, 32, 0, .rw, fun _ => 4294967295, [], false⟩
def SEC_DEVICE_ID.ALL : Fld := ⟨0x1000010, 0, 64, 0, .ro, fun _ => 0, [], false⟩
def SEC_INT_STAT.ALL : Fld := ⟨0x1000020, 0, 5, 0, .w1c, fun _ => 0, [], false⟩
def SEC_INT_EN.ALL : Fld := ⟨0x1000024, 0, 5, 0, .rw, fun _ => 0, [], false⟩

def SEC.regs1 : List RegDef := [
  ⟨"SEC_STATUS", 0x1000000, 0, 1, 4, [SEC_STATUS.LIFECYCLE, SEC_STATUS.FALLBACK, SEC_STATUS.CUSTKEY, SEC_STATUS.DEBUG_OPEN, SEC_STATUS.KEEPER_ALARM, SEC_STATUS.DRBG_OK, SEC_STATUS.K_CNT, SEC_STATUS.E_CNT, SEC_STATUS.BANK]⟩,
  ⟨"SEC_RESET_CAUSE", 0x1000004, 0, 1, 4, [SEC_RESET_CAUSE.BOOTS, SEC_RESET_CAUSE.CAUSE]⟩,
  ⟨"SEC_HBM_SENS", 0x1000008, 0, 1, 4, [SEC_HBM_SENS.ALL]⟩,
  ⟨"SEC_DEVICE_ID", 0x1000010, 0, 1, 8, [SEC_DEVICE_ID.ALL]⟩,
  ⟨"SEC_INT_STAT", 0x1000020, 0, 1, 4, [SEC_INT_STAT.ALL]⟩,
  ⟨"SEC_INT_EN", 0x1000024, 0, 1, 4, [SEC_INT_EN.ALL]⟩]

/-- The registers of the block, in address order. -/
def SEC.regs : List RegDef := SEC.regs1

end Sys2Proof.Machine
end

