-- ==== Sys2Proof/Machine/RegsSrd.lean ====
section
/-!
DEFINITION. The registers of the SRD block (Serial lanes) and their fields, from Tables 9.8 and 9.9: offset, bits, access code,
reset value and range, one definition a field.
-/
namespace Sys2Proof.Machine

def SRD_CTRL.CNT_CLR : Fld := ⟨0x700000, 0, 1, 0, .w1s, fun _ => 0, [], false⟩
def SRD_GRP_STAT.MITRE_TX : Fld := ⟨0x700004, 0, 4, 0, .ro, fun _ => 0, [], false⟩
def SRD_GRP_STAT.MITRE_RX : Fld := ⟨0x700004, 4, 4, 0, .ro, fun _ => 0, [], false⟩
def SRD_GRP_STAT.BATTEN_TX : Fld := ⟨0x700004, 8, 2, 0, .ro, fun _ => 0, [], false⟩
def SRD_GRP_STAT.BATTEN_RX : Fld := ⟨0x700004, 10, 2, 0, .ro, fun _ => 0, [], false⟩
def SRD_EYE_THR.W_PAM4 : Fld := ⟨0x700008, 24, 8, 0, .rw, fun _ => 15, [(5, 50)], false⟩
def SRD_EYE_THR.H_PAM4 : Fld := ⟨0x700008, 16, 8, 0, .rw, fun _ => 15, [(5, 100)], false⟩
def SRD_EYE_THR.W_NRZ : Fld := ⟨0x700008, 8, 8, 0, .rw, fun _ => 40, [(10, 80)], false⟩
def SRD_EYE_THR.H_NRZ : Fld := ⟨0x700008, 0, 8, 0, .rw, fun _ => 40, [(10, 200)], false⟩
def SRD_TIMERS.WTR : Fld := ⟨0x70000c, 20, 12, 0, .rw, fun _ => 300, [(60, 3600)], false⟩
def SRD_TIMERS.TRAIN_TO : Fld := ⟨0x70000c, 10, 10, 0, .rw, fun _ => 50, [(10, 500)], false⟩
def SRD_INT_STAT.ALL : Fld := ⟨0x700020, 0, 8, 0, .w1c, fun _ => 0, [], false⟩
def SRD_INT_EN.ALL : Fld := ⟨0x700024, 0, 8, 0, .rw, fun _ => 0, [], false⟩
def SRD_LANE_CTRL.TX_INV : Fld := ⟨0x701000, 9, 1, 0x40, .rw, fun _ => 0, [], false⟩
def SRD_LANE_CTRL.RX_INV : Fld := ⟨0x701000, 8, 1, 0x40, .rw, fun _ => 0, [], false⟩
def SRD_LANE_CTRL.RETRAIN : Fld := ⟨0x701000, 4, 1, 0x40, .w1s, fun _ => 0, [], false⟩
def SRD_LANE_CTRL.RX_FREEZE : Fld := ⟨0x701000, 3, 1, 0x40, .rw, fun _ => 0, [], false⟩
def SRD_LANE_CTRL.TRAIN : Fld := ⟨0x701000, 2, 1, 0x40, .rw, fun _ => 0, [], false⟩
def SRD_LANE_STAT.RETRAINS : Fld := ⟨0x701004, 24, 8, 0x40, .ro, fun _ => 0, [], false⟩
def SRD_LANE_STAT.IN_GROUP : Fld := ⟨0x701004, 7, 1, 0x40, .ro, fun _ => 0, [], false⟩
def SRD_LANE_STAT.SYNC : Fld := ⟨0x701004, 6, 1, 0x40, .ro, fun _ => 0, [], false⟩
def SRD_LANE_STAT.SIG : Fld := ⟨0x701004, 5, 1, 0x40, .ro, fun _ => 0, [], false⟩
def SRD_LANE_STAT.SCAN : Fld := ⟨0x701004, 4, 1, 0x40, .ro, fun _ => 0, [], false⟩
def SRD_LANE_STAT.STATE : Fld := ⟨0x701004, 0, 4, 0x40, .ro, fun _ => 0, [], false⟩
def SRD_TXFIR.PRE2 : Fld := ⟨0x701008, 24, 8, 0x40, .rw, fun _ => 0, [(0, 12)], true⟩
def SRD_TXFIR.PRE1 : Fld := ⟨0x701008, 16, 8, 0x40, .rw, fun _ => 250, [(-24, 0)], true⟩
def SRD_TXFIR.MAIN : Fld := ⟨0x701008, 8, 8, 0x40, .rw, fun _ => 54, [(32, 64)], true⟩
def SRD_TXFIR.POST1 : Fld := ⟨0x701008, 0, 8, 0x40, .rw, fun _ => 252, [(-16, 0)], true⟩
def SRD_EYE_SUM.WIDTH : Fld := ⟨0x70100c, 16, 16, 0x40, .ro, fun _ => 0, [], false⟩
def SRD_EYE_SUM.HEIGHT : Fld := ⟨0x70100c, 0, 16, 0x40, .ro, fun _ => 0, [], false⟩
def SRD_CERR.ALL : Fld := ⟨0x701010, 0, 48, 0x40, .ro, fun _ => 0, [], false⟩
def SRD_PKT_DROP.ALL : Fld := ⟨0x701018, 0, 48, 0x40, .ro, fun _ => 0, [], false⟩
def SRD_JIG_CFG.GEN_PAT : Fld := ⟨0x701020, 28, 4, 0x40, .rw, fun _ => 5, [(0, 8)], false⟩
def SRD_JIG_CFG.CHK_PAT : Fld := ⟨0x701020, 24, 4, 0x40, .rw, fun _ => 5, [(0, 8)], false⟩
def SRD_JIG_CFG.GEN_EN : Fld := ⟨0x701020, 23, 1, 0x40, .rw, fun _ => 0, [], false⟩
def SRD_JIG_CFG.CHK_EN : Fld := ⟨0x701020, 22, 1, 0x40, .rw, fun _ => 0, [], false⟩
def SRD_JIG_CFG.INJ : Fld := ⟨0x701020, 20, 2, 0x40, .rw, fun _ => 0, [], false⟩
def SRD_JIG_CFG.RATE : Fld := ⟨0x701020, 16, 4, 0x40, .rw, fun _ => 6, [(3, 12)], false⟩
def SRD_JIG_CFG.BURST : Fld := ⟨0x701020, 8, 8, 0x40, .rw, fun _ => 1, [(1, 255)], false⟩
def SRD_JIG_CFG.INJ_GO : Fld := ⟨0x701020, 7, 1, 0x40, .w1s, fun _ => 0, [], false⟩
def SRD_JIG_CFG.LOCK : Fld := ⟨0x701020, 6, 1, 0x40, .ro, fun _ => 0, [], false⟩
def SRD_JIG_BITS.ALL : Fld := ⟨0x701028, 0, 48, 0x40, .ro, fun _ => 0, [], false⟩
def SRD_JIG_ERR.ALL : Fld := ⟨0x701030, 0, 48, 0x40, .ro, fun _ => 0, [], false⟩
def SRD_JIG_USER.ALL : Fld := ⟨0x701038, 0, 64, 0x40, .rw, fun _ => 0, [], false⟩

def SRD.regs1 : List RegDef := [
  ⟨"SRD_CTRL", 0x700000, 0, 1, 4, [SRD_CTRL.CNT_CLR]⟩,
  ⟨"SRD_GRP_STAT", 0x700004, 0, 1, 4, [SRD_GRP_STAT.MITRE_TX, SRD_GRP_STAT.MITRE_RX, SRD_GRP_STAT.BATTEN_TX, SRD_GRP_STAT.BATTEN_RX]⟩,
  ⟨"SRD_EYE_THR", 0x700008, 0, 1, 4, [SRD_EYE_THR.W_PAM4, SRD_EYE_THR.H_PAM4, SRD_EYE_THR.W_NRZ, SRD_EYE_THR.H_NRZ]⟩,
  ⟨"SRD_TIMERS", 0x70000c, 0, 1, 4, [SRD_TIMERS.WTR, SRD_TIMERS.TRAIN_TO]⟩,
  ⟨"SRD_INT_STAT", 0x700020, 0, 1, 4, [SRD_INT_STAT.ALL]⟩,
  ⟨"SRD_INT_EN", 0x700024, 0, 1, 4, [SRD_INT_EN.ALL]⟩,
  ⟨"SRD_LANE_CTRL", 0x701000, 0x40, 34, 4, [SRD_LANE_CTRL.TX_INV, SRD_LANE_CTRL.RX_INV, SRD_LANE_CTRL.RETRAIN, SRD_LANE_CTRL.RX_FREEZE, SRD_LANE_CTRL.TRAIN]⟩,
  ⟨"SRD_LANE_STAT", 0x701004, 0x40, 34, 4, [SRD_LANE_STAT.RETRAINS, SRD_LANE_STAT.IN_GROUP, SRD_LANE_STAT.SYNC, SRD_LANE_STAT.SIG, SRD_LANE_STAT.SCAN, SRD_LANE_STAT.STATE]⟩,
  ⟨"SRD_TXFIR", 0x701008, 0x40, 16, 4, [SRD_TXFIR.PRE2, SRD_TXFIR.PRE1, SRD_TXFIR.MAIN, SRD_TXFIR.POST1]⟩,
  ⟨"SRD_EYE_SUM", 0x70100c, 0x40, 34, 4, [SRD_EYE_SUM.WIDTH, SRD_EYE_SUM.HEIGHT]⟩,
  ⟨"SRD_CERR", 0x701010, 0x40, 34, 8, [SRD_CERR.ALL]⟩,
  ⟨"SRD_PKT_DROP", 0x701018, 0x40, 34, 8, [SRD_PKT_DROP.ALL]⟩]

def SRD.regs2 : List RegDef := [
  ⟨"SRD_JIG_CFG", 0x701020, 0x40, 22, 4, [SRD_JIG_CFG.GEN_PAT, SRD_JIG_CFG.CHK_PAT, SRD_JIG_CFG.GEN_EN, SRD_JIG_CFG.CHK_EN, SRD_JIG_CFG.INJ, SRD_JIG_CFG.RATE, SRD_JIG_CFG.BURST, SRD_JIG_CFG.INJ_GO, SRD_JIG_CFG.LOCK]⟩,
  ⟨"SRD_JIG_BITS", 0x701028, 0x40, 22, 8, [SRD_JIG_BITS.ALL]⟩,
  ⟨"SRD_JIG_ERR", 0x701030, 0x40, 22, 8, [SRD_JIG_ERR.ALL]⟩,
  ⟨"SRD_JIG_USER", 0x701038, 0x40, 22, 8, [SRD_JIG_USER.ALL]⟩]

/-- The registers of the block, in address order. -/
def SRD.regs : List RegDef := SRD.regs1 ++ SRD.regs2

end Sys2Proof.Machine
end

