-- ==== Sys2Proof/Machine/RegsSys.lean ====
section
/-!
DEFINITION. The registers of the SYS block (System) and their fields, from R696, Tables 19.7 and 19.8: offset, bits, access code,
reset value and range, one definition a field.
-/
namespace Sys2Proof.Machine

def SYS_ID.PART : Fld := ⟨0x0, 16, 16, 0, .ro, fun _ => 0, [], false⟩
def SYS_ID.REV : Fld := ⟨0x0, 8, 8, 0, .ro, fun _ => 0, [], false⟩
def SYS_LOCK.LOCK : Fld := ⟨0x4, 0, 19, 0, .w1s, fun _ => 0, [], false⟩
def SYS_INT_SUM.SUM : Fld := ⟨0x8, 0, 19, 0, .ro, fun _ => 0, [], false⟩
def SYS_ACC_SELF.ALL : Fld := ⟨0x10, 0, 32, 0, .rc, fun _ => 0, [], false⟩
def SYS_ACC_ADDR.VALID : Fld := ⟨0x14, 31, 1, 0, .ro, fun _ => 0, [], false⟩
def SYS_ACC_ADDR.OFFSET : Fld := ⟨0x14, 0, 26, 0, .ro, fun _ => 0, [], false⟩
def SYS_INT_STAT.ALL : Fld := ⟨0x20, 0, 17, 0, .w1c, fun _ => 0, [], false⟩
def SYS_INT_EN.ALL : Fld := ⟨0x24, 0, 17, 0, .rw, fun _ => 0, [], false⟩
def SYS_GPIO_OE.ALL : Fld := ⟨0x30, 0, 16, 0, .rw, fun _ => 0, [], false⟩
def SYS_GPIO_OUT.ALL : Fld := ⟨0x34, 0, 16, 0, .rw, fun _ => 0, [], false⟩
def SYS_GPIO_IN.ALL : Fld := ⟨0x38, 0, 16, 0, .ro, fun _ => 0, [], false⟩
def SYS_GPIO_EDGE.ALL : Fld := ⟨0x3c, 0, 32, 0, .rw, fun _ => 0, [], false⟩
def SYS_EQ_BASE.ALL : Fld := ⟨0x40, 0, 64, 0, .rwl, fun _ => 0, [], false⟩
def SYS_EQ_WB.ALL : Fld := ⟨0x48, 0, 64, 0, .rwl, fun _ => 0, [], false⟩
def SYS_EQ_CFG.EN : Fld := ⟨0x50, 31, 1, 0, .rw, fun _ => 0, [], false⟩
def SYS_EQ_CFG.VEC : Fld := ⟨0x50, 16, 6, 0, .rw, fun _ => 5, [], false⟩
def SYS_EQ_CFG.COAL : Fld := ⟨0x50, 4, 10, 0, .rw, fun _ => 0, [(0, 1000)], false⟩
def SYS_EQ_CFG.DEPTH : Fld := ⟨0x50, 0, 4, 0, .rwl, fun _ => 10, [(6, 14)], false⟩
def SYS_EQ_PROD.ALL : Fld := ⟨0x54, 0, 16, 0, .ro, fun _ => 0, [], false⟩
def SYS_EQ_CONS.ALL : Fld := ⟨0x58, 0, 16, 0, .rw, fun _ => 0, [], false⟩
def SYS_EQ_STAT.LOST : Fld := ⟨0x5c, 16, 16, 0, .ro, fun _ => 0, [], false⟩
def SYS_EQ_STAT.LEVEL : Fld := ⟨0x5c, 0, 15, 0, .ro, fun _ => 0, [], false⟩
def SYS_INT_VEC.VEC : Fld := ⟨0x100, 0, 6, 0x4, .rw, fun i => 8 + i, [], false⟩
def SYS_ACC_STAT.SHADOW_GEN : Fld := ⟨0x200, 24, 8, 0x4, .ro, fun _ => 0, [], false⟩
def SYS_ACC_STAT.ERRORS : Fld := ⟨0x200, 16, 8, 0x4, .ro, fun _ => 0, [], false⟩
def SYS_ACC_STAT.PARTIAL : Fld := ⟨0x200, 5, 1, 0x4, .ro, fun _ => 0, [], false⟩
def SYS_ACC_STAT.FABRIC : Fld := ⟨0x200, 4, 1, 0x4, .ro, fun _ => 0, [], false⟩
def SYS_ACC_STAT.UNMAPPED : Fld := ⟨0x200, 3, 1, 0x4, .ro, fun _ => 0, [], false⟩
def SYS_ACC_STAT.LOCK : Fld := ⟨0x200, 2, 1, 0x4, .ro, fun _ => 0, [], false⟩
def SYS_ACC_STAT.SHADOW_MISS : Fld := ⟨0x200, 1, 1, 0x4, .ro, fun _ => 0, [], false⟩
def SYS_ACC_STAT.RANGE : Fld := ⟨0x200, 0, 1, 0x4, .ro, fun _ => 0, [], false⟩
def MSIX_ADDR.ALL : Fld := ⟨0x80000, 0, 64, 0x10, .rw, fun _ => 0, [], false⟩
def MSIX_DATA.ALL : Fld := ⟨0x80008, 0, 32, 0x10, .rw, fun _ => 0, [], false⟩
def MSIX_CTRL.MASK : Fld := ⟨0x8000c, 0, 1, 0x10, .rw, fun _ => 1, [], false⟩
def MSIX_PBA.ALL : Fld := ⟨0x81000, 0, 64, 0, .ro, fun _ => 0, [], false⟩

def SYS.regs1 : List RegDef := [
  ⟨"SYS_ID", 0x0, 0, 1, 4, [SYS_ID.PART, SYS_ID.REV]⟩,
  ⟨"SYS_LOCK", 0x4, 0, 1, 4, [SYS_LOCK.LOCK]⟩,
  ⟨"SYS_INT_SUM", 0x8, 0, 1, 4, [SYS_INT_SUM.SUM]⟩,
  ⟨"SYS_ACC_SELF", 0x10, 0, 1, 4, [SYS_ACC_SELF.ALL]⟩,
  ⟨"SYS_ACC_ADDR", 0x14, 0, 1, 4, [SYS_ACC_ADDR.VALID, SYS_ACC_ADDR.OFFSET]⟩,
  ⟨"SYS_INT_STAT", 0x20, 0, 1, 4, [SYS_INT_STAT.ALL]⟩,
  ⟨"SYS_INT_EN", 0x24, 0, 1, 4, [SYS_INT_EN.ALL]⟩,
  ⟨"SYS_GPIO_OE", 0x30, 0, 1, 4, [SYS_GPIO_OE.ALL]⟩,
  ⟨"SYS_GPIO_OUT", 0x34, 0, 1, 4, [SYS_GPIO_OUT.ALL]⟩,
  ⟨"SYS_GPIO_IN", 0x38, 0, 1, 4, [SYS_GPIO_IN.ALL]⟩,
  ⟨"SYS_GPIO_EDGE", 0x3c, 0, 1, 4, [SYS_GPIO_EDGE.ALL]⟩,
  ⟨"SYS_EQ_BASE", 0x40, 0, 1, 8, [SYS_EQ_BASE.ALL]⟩]

def SYS.regs2 : List RegDef := [
  ⟨"SYS_EQ_WB", 0x48, 0, 1, 8, [SYS_EQ_WB.ALL]⟩,
  ⟨"SYS_EQ_CFG", 0x50, 0, 1, 4, [SYS_EQ_CFG.EN, SYS_EQ_CFG.VEC, SYS_EQ_CFG.COAL, SYS_EQ_CFG.DEPTH]⟩,
  ⟨"SYS_EQ_PROD", 0x54, 0, 1, 4, [SYS_EQ_PROD.ALL]⟩,
  ⟨"SYS_EQ_CONS", 0x58, 0, 1, 4, [SYS_EQ_CONS.ALL]⟩,
  ⟨"SYS_EQ_STAT", 0x5c, 0, 1, 4, [SYS_EQ_STAT.LOST, SYS_EQ_STAT.LEVEL]⟩,
  ⟨"SYS_INT_VEC", 0x100, 0x4, 19, 4, [SYS_INT_VEC.VEC]⟩,
  ⟨"SYS_ACC_STAT", 0x200, 0x4, 68, 4, [SYS_ACC_STAT.SHADOW_GEN, SYS_ACC_STAT.ERRORS, SYS_ACC_STAT.PARTIAL, SYS_ACC_STAT.FABRIC, SYS_ACC_STAT.UNMAPPED, SYS_ACC_STAT.LOCK, SYS_ACC_STAT.SHADOW_MISS, SYS_ACC_STAT.RANGE]⟩,
  ⟨"MSIX_ADDR", 0x80000, 0x10, 64, 8, [MSIX_ADDR.ALL]⟩,
  ⟨"MSIX_DATA", 0x80008, 0x10, 64, 4, [MSIX_DATA.ALL]⟩,
  ⟨"MSIX_CTRL", 0x8000c, 0x10, 64, 4, [MSIX_CTRL.MASK]⟩,
  ⟨"MSIX_PBA", 0x81000, 0, 1, 8, [MSIX_PBA.ALL]⟩]

/-- The registers of the block, in address order. -/
def SYS.regs : List RegDef := SYS.regs1 ++ SYS.regs2

end Sys2Proof.Machine
end

