-- ==== Sys2Proof/Machine/RegsTod.lean ====
section
/-!
DEFINITION. The registers of the TOD block (Time of day) and their fields, from Tables 13.5 and 13.6: offset, bits, access code,
reset value and range, one definition a field.
-/
namespace Sys2Proof.Machine

def TOD_CTRL.GEN : Fld := ⟨0xb00000, 16, 16, 0, .ro, fun _ => 0, [], false⟩
def TOD_CTRL.CNT_CLR : Fld := ⟨0xb00000, 1, 1, 0, .w1s, fun _ => 0, [], false⟩
def TOD_CTRL.LATCH : Fld := ⟨0xb00000, 0, 1, 0, .w1s, fun _ => 0, [], false⟩
def TOD_STATUS.PARENT : Fld := ⟨0xb00004, 26, 6, 0, .ro, fun _ => 0, [], false⟩
def TOD_STATUS.HOLD_LEFT : Fld := ⟨0xb00004, 8, 18, 0, .ro, fun _ => 0, [], false⟩
def TOD_STATUS.SERVO : Fld := ⟨0xb00004, 6, 2, 0, .ro, fun _ => 0, [], false⟩
def TOD_STATUS.FAR_VALID : Fld := ⟨0xb00004, 5, 1, 0, .ro, fun _ => 0, [], false⟩
def TOD_STATUS.PATH_ASYM : Fld := ⟨0xb00004, 4, 1, 0, .ro, fun _ => 0, [], false⟩
def TOD_STATUS.STEP_AVAIL : Fld := ⟨0xb00004, 2, 1, 0, .ro, fun _ => 1, [], false⟩
def TOD_STATUS.VALID : Fld := ⟨0xb00004, 1, 1, 0, .ro, fun _ => 0, [], false⟩
def TOD_STATUS.BASE_OK : Fld := ⟨0xb00004, 0, 1, 0, .ro, fun _ => 0, [], false⟩
def TOD_RATE.ALL : Fld := ⟨0xb00008, 0, 32, 0, .ro, fun _ => 0, [], true⟩
def TOD_LATCH_SEC.ALL : Fld := ⟨0xb00010, 0, 48, 0, .ro, fun _ => 0, [], false⟩
def TOD_LATCH_NS.ALL : Fld := ⟨0xb00018, 0, 30, 0, .ro, fun _ => 0, [], false⟩
def TOD_LATCH_FRAC.ALL : Fld := ⟨0xb0001c, 0, 32, 0, .ro, fun _ => 0, [], false⟩
def TOD_INT_STAT.ALL : Fld := ⟨0xb00020, 0, 8, 0, .w1c, fun _ => 0, [], false⟩
def TOD_INT_EN.ALL : Fld := ⟨0xb00024, 0, 8, 0, .rw, fun _ => 0, [], false⟩
def TOD_LIMITS.JUMP_THR : Fld := ⟨0xb00028, 22, 10, 0, .rw, fun _ => 10, [(1, 1000)], false⟩
def TOD_LIMITS.ASYM_THR : Fld := ⟨0xb00028, 12, 10, 0, .rw, fun _ => 50, [(5, 1000)], false⟩
def TOD_LIMITS.ACC_HOLD : Fld := ⟨0xb00028, 0, 12, 0, .rw, fun _ => 60, [(10, 3600)], false⟩
def TOD_ASYM.ALL : Fld := ⟨0xb0002c, 0, 32, 0, .ro, fun _ => 0, [], true⟩
def TOD_ASYM_NEW.ALL : Fld := ⟨0xb00030, 0, 32, 0, .ro, fun _ => 0, [], true⟩
def TOD_SCHED_CFG.GRACE : Fld := ⟨0xb00034, 0, 20, 0, .rw, fun _ => 1000, [(0, 1000000)], false⟩
def TOD_LINE_FWD.ALL : Fld := ⟨0xb00038, 0, 64, 0, .ro, fun _ => 0, [], true⟩
def TOD_LINE_REV.ALL : Fld := ⟨0xb00040, 0, 64, 0, .ro, fun _ => 0, [], true⟩
def TOD_SERVO_CFG.EN : Fld := ⟨0xb00048, 31, 1, 0, .rw, fun _ => 0, [], false⟩
def TOD_SERVO_CFG.BW : Fld := ⟨0xb00048, 20, 10, 0, .rw, fun _ => 50, [(1, 1000)], false⟩
def TOD_SERVO_CFG.RATE_MAX : Fld := ⟨0xb00048, 0, 20, 0, .rw, fun _ => 100, [(1, 10000)], false⟩
def TOD_PTP_CFG.DOMAIN : Fld := ⟨0xb0004c, 24, 8, 0, .rw, fun _ => 24, [(24, 43)], false⟩
def TOD_PTP_CFG.PRIO2 : Fld := ⟨0xb0004c, 16, 8, 0, .rw, fun _ => 128, [], false⟩
def TOD_PTP_CFG.HOLDOVER : Fld := ⟨0xb0004c, 0, 16, 0, .rw, fun _ => 1800, [(0, 43200)], false⟩
def TOD_OFFSET.ALL : Fld := ⟨0xb00050, 0, 32, 0, .ro, fun _ => 0, [], true⟩
def TOD_PTP_EARLY.ALL : Fld := ⟨0xb00058, 0, 48, 0, .ro, fun _ => 0, [], false⟩
def TOD_PTP_DROP.ALL : Fld := ⟨0xb00060, 0, 48, 0, .ro, fun _ => 0, [], false⟩
def TOD_PORT_CFG.EN : Fld := ⟨0xb00100, 31, 1, 0x10, .rw, fun _ => 0, [], false⟩
def TOD_PORT_CFG.MASTER_ONLY : Fld := ⟨0xb00100, 30, 1, 0x10, .rw, fun _ => 0, [], false⟩
def TOD_PORT_CFG.NOT_SLAVE : Fld := ⟨0xb00100, 29, 1, 0x10, .rw, fun _ => 0, [], false⟩
def TOD_PORT_CFG.TWO_STEP : Fld := ⟨0xb00100, 28, 1, 0x10, .rw, fun _ => 0, [], false⟩
def TOD_PORT_CFG.DA : Fld := ⟨0xb00100, 27, 1, 0x10, .rw, fun _ => 0, [], false⟩
def TOD_PORT_CFG.LOCAL_PRIO : Fld := ⟨0xb00100, 0, 8, 0x10, .rw, fun _ => 128, [(1, 255)], false⟩
def TOD_PORT_STAT.STATE : Fld := ⟨0xb00104, 28, 4, 0x10, .ro, fun _ => 0, [], false⟩
def TOD_SCHED_T.ALL : Fld := ⟨0xb00400, 0, 64, 0x10, .ro, fun _ => 0, [], false⟩
def TOD_SCHED_ACT.ARMED : Fld := ⟨0xb00408, 31, 1, 0x10, .ro, fun _ => 0, [], false⟩
def TOD_SCHED_ACT.RUN_LATE : Fld := ⟨0xb00408, 30, 1, 0x10, .ro, fun _ => 0, [], false⟩
def TOD_SCHED_ACT.CODE : Fld := ⟨0xb00408, 27, 3, 0x10, .ro, fun _ => 0, [], false⟩
def TOD_SCHED_ACT.L : Fld := ⟨0xb00408, 26, 1, 0x10, .ro, fun _ => 0, [], false⟩
def TOD_SCHED_ACT.P : Fld := ⟨0xb00408, 0, 8, 0x10, .ro, fun _ => 0, [], false⟩
def TOD_SCHED_STAT.STATUS : Fld := ⟨0xb0040c, 24, 8, 0x10, .ro, fun _ => 0, [], false⟩
def TOD_SCHED_STAT.LATE_US : Fld := ⟨0xb0040c, 0, 24, 0x10, .ro, fun _ => 0, [], false⟩

def TOD.regs1 : List RegDef := [
  ⟨"TOD_CTRL", 0xb00000, 0, 1, 4, [TOD_CTRL.GEN, TOD_CTRL.CNT_CLR, TOD_CTRL.LATCH]⟩,
  ⟨"TOD_STATUS", 0xb00004, 0, 1, 4, [TOD_STATUS.PARENT, TOD_STATUS.HOLD_LEFT, TOD_STATUS.SERVO, TOD_STATUS.FAR_VALID, TOD_STATUS.PATH_ASYM, TOD_STATUS.STEP_AVAIL, TOD_STATUS.VALID, TOD_STATUS.BASE_OK]⟩,
  ⟨"TOD_RATE", 0xb00008, 0, 1, 4, [TOD_RATE.ALL]⟩,
  ⟨"TOD_LATCH_SEC", 0xb00010, 0, 1, 8, [TOD_LATCH_SEC.ALL]⟩,
  ⟨"TOD_LATCH_NS", 0xb00018, 0, 1, 4, [TOD_LATCH_NS.ALL]⟩,
  ⟨"TOD_LATCH_FRAC", 0xb0001c, 0, 1, 4, [TOD_LATCH_FRAC.ALL]⟩,
  ⟨"TOD_INT_STAT", 0xb00020, 0, 1, 4, [TOD_INT_STAT.ALL]⟩,
  ⟨"TOD_INT_EN", 0xb00024, 0, 1, 4, [TOD_INT_EN.ALL]⟩,
  ⟨"TOD_LIMITS", 0xb00028, 0, 1, 4, [TOD_LIMITS.JUMP_THR, TOD_LIMITS.ASYM_THR, TOD_LIMITS.ACC_HOLD]⟩,
  ⟨"TOD_ASYM", 0xb0002c, 0, 1, 4, [TOD_ASYM.ALL]⟩,
  ⟨"TOD_ASYM_NEW", 0xb00030, 0, 1, 4, [TOD_ASYM_NEW.ALL]⟩,
  ⟨"TOD_SCHED_CFG", 0xb00034, 0, 1, 4, [TOD_SCHED_CFG.GRACE]⟩]

def TOD.regs2 : List RegDef := [
  ⟨"TOD_LINE_FWD", 0xb00038, 0, 1, 8, [TOD_LINE_FWD.ALL]⟩,
  ⟨"TOD_LINE_REV", 0xb00040, 0, 1, 8, [TOD_LINE_REV.ALL]⟩,
  ⟨"TOD_SERVO_CFG", 0xb00048, 0, 1, 4, [TOD_SERVO_CFG.EN, TOD_SERVO_CFG.BW, TOD_SERVO_CFG.RATE_MAX]⟩,
  ⟨"TOD_PTP_CFG", 0xb0004c, 0, 1, 4, [TOD_PTP_CFG.DOMAIN, TOD_PTP_CFG.PRIO2, TOD_PTP_CFG.HOLDOVER]⟩,
  ⟨"TOD_OFFSET", 0xb00050, 0, 1, 4, [TOD_OFFSET.ALL]⟩,
  ⟨"TOD_PTP_EARLY", 0xb00058, 0, 1, 8, [TOD_PTP_EARLY.ALL]⟩,
  ⟨"TOD_PTP_DROP", 0xb00060, 0, 1, 8, [TOD_PTP_DROP.ALL]⟩,
  ⟨"TOD_PORT_CFG", 0xb00100, 0x10, 33, 4, [TOD_PORT_CFG.EN, TOD_PORT_CFG.MASTER_ONLY, TOD_PORT_CFG.NOT_SLAVE, TOD_PORT_CFG.TWO_STEP, TOD_PORT_CFG.DA, TOD_PORT_CFG.LOCAL_PRIO]⟩,
  ⟨"TOD_PORT_STAT", 0xb00104, 0x10, 33, 4, [TOD_PORT_STAT.STATE]⟩,
  ⟨"TOD_SCHED_T", 0xb00400, 0x10, 16, 8, [TOD_SCHED_T.ALL]⟩,
  ⟨"TOD_SCHED_ACT", 0xb00408, 0x10, 16, 4, [TOD_SCHED_ACT.ARMED, TOD_SCHED_ACT.RUN_LATE, TOD_SCHED_ACT.CODE, TOD_SCHED_ACT.L, TOD_SCHED_ACT.P]⟩,
  ⟨"TOD_SCHED_STAT", 0xb0040c, 0x10, 16, 4, [TOD_SCHED_STAT.STATUS, TOD_SCHED_STAT.LATE_US]⟩]

/-- The registers of the block, in address order. -/
def TOD.regs : List RegDef := TOD.regs1 ++ TOD.regs2

end Sys2Proof.Machine
end

