-- ==== Sys2Proof/Machine/RegsVnr.lean ====
section
/-!
DEFINITION. The registers of the VNR block (Veneer) and their fields, from Tables 10.11 and 10.12: offset, bits, access code,
reset value and range, one definition a field.
-/
namespace Sys2Proof.Machine

def VNR_CTRL.REARM : Fld := ⟨0x800000, 7, 1, 0, .w1s, fun _ => 0, [], false⟩
def VNR_CTRL.CNT_CLR : Fld := ⟨0x800000, 6, 1, 0, .w1s, fun _ => 0, [], false⟩
def VNR_CTRL.PROT_MODE : Fld := ⟨0x800000, 0, 2, 0, .rw, fun _ => 0, [(0, 1)], false⟩
def VNR_STATUS.ERASED : Fld := ⟨0x800004, 31, 1, 0, .ro, fun _ => 0, [], false⟩
def VNR_STATUS.SENSE_ARMED : Fld := ⟨0x800004, 30, 1, 0, .ro, fun _ => 0, [], false⟩
def VNR_STATUS.STATE : Fld := ⟨0x800004, 29, 1, 0, .ro, fun _ => 0, [], false⟩
def VNR_STATUS.DEGRADED : Fld := ⟨0x800004, 28, 1, 0, .ro, fun _ => 0, [], false⟩
def VNR_STATUS.SENSOR : Fld := ⟨0x800004, 24, 4, 0, .ro, fun _ => 0, [], false⟩
def VNR_STATUS.RNG_OK : Fld := ⟨0x800004, 23, 1, 0, .ro, fun _ => 1, [], false⟩
def VNR_STATUS.TX_PIPES : Fld := ⟨0x800004, 18, 5, 0, .ro, fun _ => 26, [], false⟩
def VNR_STATUS.RX_PIPES : Fld := ⟨0x800004, 13, 5, 0, .ro, fun _ => 26, [], false⟩
def VNR_STATUS.LA_PAIRS : Fld := ⟨0x800004, 10, 2, 0, .ro, fun _ => 2, [], false⟩
def VNR_STATUS.LOAD : Fld := ⟨0x800004, 0, 10, 0, .ro, fun _ => 0, [], false⟩
def VNR_LA_CFG.HOLD : Fld := ⟨0x800008, 0, 7, 0, .rw, fun _ => 4, [(1, 64)], false⟩
def VNR_INT_STAT.ALL : Fld := ⟨0x800020, 0, 12, 0, .w1c, fun _ => 0, [], false⟩
def VNR_INT_EN.ALL : Fld := ⟨0x800024, 0, 12, 0, .rw, fun _ => 0, [], false⟩
def VNR_DUP_MIS.ALL : Fld := ⟨0x800040, 0, 48, 0, .ro, fun _ => 0, [], false⟩
def VNR_LA_REQ.ALL : Fld := ⟨0x800048, 0, 48, 0, .ro, fun _ => 0, [], false⟩
def VNR_PAGE_CFG.OWNER : Fld := ⟨0x800100, 16, 16, 0x10, .rw, fun _ => 0, [], false⟩
def VNR_PAGE_CFG.SANDBOX : Fld := ⟨0x800100, 4, 1, 0x10, .rw, fun _ => 0, [], false⟩
def VNR_PAGE_CFG.LA_EN : Fld := ⟨0x800100, 3, 1, 0x10, .rw, fun _ => 0, [], false⟩
def VNR_PAGE_CFG.INLINE : Fld := ⟨0x800100, 2, 1, 0x10, .rw, fun _ => 1, [], false⟩
def VNR_PAGE_CFG.DIR : Fld := ⟨0x800100, 1, 1, 0x10, .rw, fun _ => 0, [], false⟩
def VNR_PAGE_STAT.GEN1 : Fld := ⟨0x800104, 27, 5, 0x10, .ro, fun _ => 0, [], false⟩
def VNR_PAGE_STAT.GEN0 : Fld := ⟨0x800104, 22, 5, 0x10, .ro, fun _ => 0, [], false⟩
def VNR_PAGE_STAT.V1 : Fld := ⟨0x800104, 21, 1, 0x10, .ro, fun _ => 0, [], false⟩
def VNR_PAGE_STAT.V0 : Fld := ⟨0x800104, 20, 1, 0x10, .ro, fun _ => 0, [], false⟩
def VNR_PAGE_STAT.TX_KP : Fld := ⟨0x800104, 19, 1, 0x10, .ro, fun _ => 0, [], false⟩
def VNR_PAGE_STAT.PENDING : Fld := ⟨0x800104, 18, 1, 0x10, .ro, fun _ => 0, [], false⟩
def VNR_PAGE_STAT.RX_USE : Fld := ⟨0x800104, 16, 2, 0x10, .ro, fun _ => 0, [], false⟩
def VNR_PAGE_STAT.TARGET_SF : Fld := ⟨0x800104, 0, 16, 0x10, .ro, fun _ => 0, [], false⟩
def VNR_PAGE_ROT.PERIOD : Fld := ⟨0x800108, 0, 17, 0x10, .rw, fun _ => 0, [(0, 0), (60, 86400)], false⟩
def VNR_CH_BIND.PAGE : Fld := ⟨0x800800, 0, 8, 0x4, .rwl, fun _ => 255, [], false⟩
def VNR_TX_BLK.ALL : Fld := ⟨0x801000, 0, 48, 0x40, .ro, fun _ => 0, [], false⟩
def VNR_RX_OK.ALL : Fld := ⟨0x801008, 0, 48, 0x40, .ro, fun _ => 0, [], false⟩
def VNR_RX_TAG_FAIL.ALL : Fld := ⟨0x801010, 0, 48, 0x40, .ro, fun _ => 0, [], false⟩
def VNR_RX_UNC_DROP.ALL : Fld := ⟨0x801018, 0, 48, 0x40, .ro, fun _ => 0, [], false⟩
def VNR_KEY_DROP.ALL : Fld := ⟨0x801020, 0, 48, 0x40, .ro, fun _ => 0, [], false⟩
def VNR_RX_REPLAY.ALL : Fld := ⟨0x801028, 0, 48, 0x40, .ro, fun _ => 0, [], false⟩
def VNR_RX_FILL.ALL : Fld := ⟨0x801030, 0, 48, 0x40, .ro, fun _ => 0, [], false⟩

def VNR.regs1 : List RegDef := [
  ⟨"VNR_CTRL", 0x800000, 0, 1, 4, [VNR_CTRL.REARM, VNR_CTRL.CNT_CLR, VNR_CTRL.PROT_MODE]⟩,
  ⟨"VNR_STATUS", 0x800004, 0, 1, 4, [VNR_STATUS.ERASED, VNR_STATUS.SENSE_ARMED, VNR_STATUS.STATE, VNR_STATUS.DEGRADED, VNR_STATUS.SENSOR, VNR_STATUS.RNG_OK, VNR_STATUS.TX_PIPES, VNR_STATUS.RX_PIPES, VNR_STATUS.LA_PAIRS, VNR_STATUS.LOAD]⟩,
  ⟨"VNR_LA_CFG", 0x800008, 0, 1, 4, [VNR_LA_CFG.HOLD]⟩,
  ⟨"VNR_INT_STAT", 0x800020, 0, 1, 4, [VNR_INT_STAT.ALL]⟩,
  ⟨"VNR_INT_EN", 0x800024, 0, 1, 4, [VNR_INT_EN.ALL]⟩,
  ⟨"VNR_DUP_MIS", 0x800040, 0, 1, 8, [VNR_DUP_MIS.ALL]⟩,
  ⟨"VNR_LA_REQ", 0x800048, 0, 1, 8, [VNR_LA_REQ.ALL]⟩,
  ⟨"VNR_PAGE_CFG", 0x800100, 0x10, 72, 4, [VNR_PAGE_CFG.OWNER, VNR_PAGE_CFG.SANDBOX, VNR_PAGE_CFG.LA_EN, VNR_PAGE_CFG.INLINE, VNR_PAGE_CFG.DIR]⟩,
  ⟨"VNR_PAGE_STAT", 0x800104, 0x10, 72, 4, [VNR_PAGE_STAT.GEN1, VNR_PAGE_STAT.GEN0, VNR_PAGE_STAT.V1, VNR_PAGE_STAT.V0, VNR_PAGE_STAT.TX_KP, VNR_PAGE_STAT.PENDING, VNR_PAGE_STAT.RX_USE, VNR_PAGE_STAT.TARGET_SF]⟩,
  ⟨"VNR_PAGE_ROT", 0x800108, 0x10, 72, 4, [VNR_PAGE_ROT.PERIOD]⟩,
  ⟨"VNR_CH_BIND", 0x800800, 0x4, 32, 4, [VNR_CH_BIND.PAGE]⟩,
  ⟨"VNR_TX_BLK", 0x801000, 0x40, 32, 8, [VNR_TX_BLK.ALL]⟩]

def VNR.regs2 : List RegDef := [
  ⟨"VNR_RX_OK", 0x801008, 0x40, 32, 8, [VNR_RX_OK.ALL]⟩,
  ⟨"VNR_RX_TAG_FAIL", 0x801010, 0x40, 32, 8, [VNR_RX_TAG_FAIL.ALL]⟩,
  ⟨"VNR_RX_UNC_DROP", 0x801018, 0x40, 32, 8, [VNR_RX_UNC_DROP.ALL]⟩,
  ⟨"VNR_KEY_DROP", 0x801020, 0x40, 32, 8, [VNR_KEY_DROP.ALL]⟩,
  ⟨"VNR_RX_REPLAY", 0x801028, 0x40, 32, 8, [VNR_RX_REPLAY.ALL]⟩,
  ⟨"VNR_RX_FILL", 0x801030, 0x40, 32, 8, [VNR_RX_FILL.ALL]⟩]

/-- The registers of the block, in address order. -/
def VNR.regs : List RegDef := VNR.regs1 ++ VNR.regs2

end Sys2Proof.Machine
end

