-- ==== Sys2Proof/Machine/Event.lean ====
section
/-!
DEFINITION. The events (R17, R699, R728): each event's identifier, the status register and bit it sets, and its class.
-/
namespace Sys2Proof.Machine

/-- An event of one of the chapters' event tables. `bit` is its bit of the block's INT_STAT, `none` where the table gives
it none or where the bit depends on the payload. -/
structure Ev where
  id : Nat
  stat : Fld
  bit : Option Nat

/-- The index of the event's entry of OBS_EVT_ROUTE (R586): its counter index less 1,024. -/
def Ev.x (e : Ev) : Nat := 32 * (e.id / 256 - 1) + (e.id % 256 - 1)

/-- STATE_CHANGE. Payload: Old and new state; FAULT_CAUSE. -/
def EV.STATE_CHANGE : Ev := ⟨0x101, CMD_INT_STAT.ALL, some 0⟩
/-- CMD_TIMEOUT. Payload: Ring; SEQ; opcode. -/
def EV.CMD_TIMEOUT : Ev := ⟨0x102, CMD_INT_STAT.ALL, some 1⟩
/-- BATTEN_ENUM. Payload: n; changed flag. -/
def EV.BATTEN_ENUM : Ev := ⟨0x103, CMD_INT_STAT.ALL, some 2⟩
/-- BATTEN_FAULT. Payload: Cause: OPEN, TWO_HEADS. -/
def EV.BATTEN_FAULT : Ev := ⟨0x104, CMD_INT_STAT.ALL, some 3⟩
/-- PLAN_ANNOUNCED. Payload: New plan identifier, S. -/
def EV.PLAN_ANNOUNCED : Ev := ⟨0x201, LTX_INT_STAT.ALL, none⟩
/-- PLAN_APPLIED. Payload: Old and new plan identifiers, S. -/
def EV.PLAN_APPLIED : Ev := ⟨0x202, LTX_INT_STAT.ALL, some 0⟩
/-- PLAN_CANCELLED. Payload: Cancelled plan identifier, S. -/
def EV.PLAN_CANCELLED : Ev := ⟨0x203, LTX_INT_STAT.ALL, some 1⟩
/-- BIAS_LOCK. Payload: Enabled loop mask. -/
def EV.BIAS_LOCK : Ev := ⟨0x204, LTX_INT_STAT.ALL, some 8⟩
/-- BIAS_UNLOCK. Payload: Loop index, error. -/
def EV.BIAS_UNLOCK : Ev := ⟨0x205, LTX_INT_STAT.ALL, some 2⟩
/-- BIAS_RAIL. Payload: Loop index, DAC value. -/
def EV.BIAS_RAIL : Ev := ⟨0x206, LTX_INT_STAT.ALL, some 3⟩
/-- LASER_FAIL. Payload: Port, StatusF, reset count. -/
def EV.LASER_FAIL : Ev := ⟨0x207, LTX_INT_STAT.ALL, none⟩
/-- LASER_TUNED. Payload: Port, frequency from LF1–LF3. -/
def EV.LASER_TUNED : Ev := ⟨0x208, LTX_INT_STAT.ALL, some 7⟩
/-- CLIP_HIGH. Payload: Clipped fraction in the superframe. -/
def EV.CLIP_HIGH : Ev := ⟨0x209, LTX_INT_STAT.ALL, some 6⟩
/-- TX_DARK. Payload: Cause: command, laser, bias timeout, power state. -/
def EV.TX_DARK : Ev := ⟨0x20a, LTX_INT_STAT.ALL, none⟩
/-- RX_LOCKED. Payload: Time from attempt start in µs; WARM; D; offset. -/
def EV.RX_LOCKED : Ev := ⟨0x301, LRX_INT_STAT.ALL, some 0⟩
/-- RX_UNLOCK. Payload: Cause: position of the Table 3.4 row counted from 1, by R728, so 2 or 5; FROZEN. -/
def EV.RX_UNLOCK : Ev := ⟨0x302, LRX_INT_STAT.ALL, some 1⟩
/-- SC_UNLOCK. Payload: Subcarrier; PLM. -/
def EV.SC_UNLOCK : Ev := ⟨0x303, LRX_INT_STAT.ALL, some 2⟩
/-- SC_RELOCK. Payload: Subcarrier; time in µs. -/
def EV.SC_RELOCK : Ev := ⟨0x304, LRX_INT_STAT.ALL, some 3⟩
/-- SF_UNLOCK. Payload: Missed superframes. -/
def EV.SF_UNLOCK : Ev := ⟨0x305, LRX_INT_STAT.ALL, some 4⟩
/-- ACQ_FAIL. Payload: Last stage reached; ACQ_FAILS. -/
def EV.ACQ_FAIL : Ev := ⟨0x306, LRX_INT_STAT.ALL, some 5⟩
/-- DFE_OFF. Payload: Subcarrier; fraction. -/
def EV.DFE_OFF : Ev := ⟨0x307, LRX_INT_STAT.ALL, some 6⟩
/-- DFE_ON. Payload: Subcarrier. -/
def EV.DFE_ON : Ev := ⟨0x308, LRX_INT_STAT.ALL, some 7⟩
/-- POL_SINGULAR. Payload: Subcarrier; correlation. -/
def EV.POL_SINGULAR : Ev := ⟨0x309, LRX_INT_STAT.ALL, some 8⟩
/-- TIM_LIMIT. Payload: Integrator value in ppb. -/
def EV.TIM_LIMIT : Ev := ⟨0x30a, LRX_INT_STAT.ALL, some 9⟩
/-- FREQ_RANGE. Payload: Estimate in kHz. -/
def EV.FREQ_RANGE : Ev := ⟨0x30b, LRX_INT_STAT.ALL, some 10⟩
/-- HOLD_EXPIRED. Payload: Hold time. -/
def EV.HOLD_EXPIRED : Ev := ⟨0x30c, LRX_INT_STAT.ALL, some 11⟩
/-- CD_MISMATCH. Payload: D tried; largest boundary disagreement in symbols. -/
def EV.CD_MISMATCH : Ev := ⟨0x30d, LRX_INT_STAT.ALL, some 12⟩
/-- PLAN_UNKNOWN. Payload: Announced plan; SF_NUM of the target. -/
def EV.PLAN_UNKNOWN : Ev := ⟨0x30e, LRX_CR_INT_STAT.ALL, some 0⟩
/-- PLAN_LATE. Payload: Plan; superframes lost. -/
def EV.PLAN_LATE : Ev := ⟨0x30f, LRX_CR_INT_STAT.ALL, some 1⟩
/-- CR_LOCK. Payload: Total offset in kHz. -/
def EV.CR_LOCK : Ev := ⟨0x310, LRX_CR_INT_STAT.ALL, some 2⟩
/-- CR_UNLOCK. Payload: Cause: phase error or offset limit. -/
def EV.CR_UNLOCK : Ev := ⟨0x311, LRX_CR_INT_STAT.ALL, some 3⟩
/-- CYCLE_SLIP. Payload: Subcarrier mask; output and tracker slips in the superframe. -/
def EV.CYCLE_SLIP : Ev := ⟨0x312, LRX_CR_INT_STAT.ALL, some 4⟩
/-- MARGIN_LOW. Payload: Line margin; subcarrier with the least margin. -/
def EV.MARGIN_LOW : Ev := ⟨0x313, LRX_CR_INT_STAT.ALL, some 5⟩
/-- PLAN_OFFERED. Payload: Plan; m; ΣE; urgent flag. -/
def EV.PLAN_OFFERED : Ev := ⟨0x314, LRX_CR_INT_STAT.ALL, some 6⟩
/-- PLAN_REFUSED. Payload: Plan; reason of Table 4.1, or 5 LOCAL by R167; for LOCAL, the status of the refusal. -/
def EV.PLAN_REFUSED : Ev := ⟨0x315, LRX_CR_INT_STAT.ALL, some 7⟩
/-- ADAPT_SILENT. Payload: Cause: no reply or no reports. -/
def EV.ADAPT_SILENT : Ev := ⟨0x316, LRX_CR_INT_STAT.ALL, some 8⟩
/-- PLAN_ROLLBACK. Payload: Plan left; plan restored; reason. -/
def EV.PLAN_ROLLBACK : Ev := ⟨0x317, LRX_CR_INT_STAT.ALL, some 9⟩
/-- ADAPT_SHORT. Payload: W_min − ΣE at the floor. -/
def EV.ADAPT_SHORT : Ev := ⟨0x318, LRX_CR_INT_STAT.ALL, some 10⟩
/-- CAL_FG_DONE. Payload: Kinds run; ENOB per converter. -/
def EV.CAL_FG_DONE : Ev := ⟨0x401, CNV_INT_STAT.ALL, some 0⟩
/-- CAL_PASS_DONE. Payload: Pass duration; worst MM; worst SPUR. -/
def EV.CAL_PASS_DONE : Ev := ⟨0x402, CNV_INT_STAT.ALL, some 1⟩
/-- SLICE_FAULT. Payload: Channel, half, slice, phase; test failed; slice that took over. -/
def EV.SLICE_FAULT : Ev := ⟨0x403, CNV_INT_STAT.ALL, some 2⟩
/-- SLICE_RETURN. Payload: Channel, half, slice, phase. -/
def EV.SLICE_RETURN : Ev := ⟨0x404, CNV_INT_STAT.ALL, some 3⟩
/-- SLICE_NOSPARE. Payload: Channel, half, phase interpolated. -/
def EV.SLICE_NOSPARE : Ev := ⟨0x405, CNV_INT_STAT.ALL, some 4⟩
/-- CAL_QUALITY_LOW. Payload: Figure; instance; value. -/
def EV.CAL_QUALITY_LOW : Ev := ⟨0x406, CNV_INT_STAT.ALL, some 5⟩
/-- CAL_REF_BAD. Payload: VDEV; FDEV. -/
def EV.CAL_REF_BAD : Ev := ⟨0x407, CNV_INT_STAT.ALL, some 6⟩
/-- FUSE_COMMITTED. Payload: Set; row; TRACEABLE. -/
def EV.FUSE_COMMITTED : Ev := ⟨0x408, CNV_INT_STAT.ALL, some 7⟩
/-- FUSE_ROW_BAD. Payload: Set; BAD mask. -/
def EV.FUSE_ROW_BAD : Ev := ⟨0x409, CNV_INT_STAT.ALL, some 8⟩
/-- FUSE_EXHAUSTED. Payload: Set. -/
def EV.FUSE_EXHAUSTED : Ev := ⟨0x40a, CNV_INT_STAT.ALL, some 9⟩
/-- CAL_LOADED. Payload: Set; BASE_ROW. -/
def EV.CAL_LOADED : Ev := ⟨0x40b, CNV_INT_STAT.ALL, some 10⟩
/-- FEC_DEG. Payload: Latched pre-FEC BER. -/
def EV.FEC_DEG : Ev := ⟨0x501, FEC_INT_STAT.ALL, some 0⟩
/-- FEC_DEG_CLEAR. Payload: Latched pre-FEC BER. -/
def EV.FEC_DEG_CLEAR : Ev := ⟨0x502, FEC_INT_STAT.ALL, some 1⟩
/-- FEC_UNCORR. Payload: Subcarrier mask; UNCORR increment in the superframe. -/
def EV.FEC_UNCORR : Ev := ⟨0x503, FEC_INT_STAT.ALL, some 2⟩
/-- FEC_DM_FAIL. Payload: Subcarrier mask; DMFAIL increment in the superframe. -/
def EV.FEC_DM_FAIL : Ev := ⟨0x504, FEC_INT_STAT.ALL, some 3⟩
/-- FEC_INJ_DONE. Payload: Subcarrier mask. -/
def EV.FEC_INJ_DONE : Ev := ⟨0x505, FEC_INT_STAT.ALL, some 4⟩
/-- IN_FRAME. Payload: BLK_OFS; time out of frame in µs. -/
def EV.IN_FRAME : Ev := ⟨0x601, FRM_INT_STAT.ALL, some 0⟩
/-- OUT_OF_FRAME. Payload: OOF_CNT. -/
def EV.OUT_OF_FRAME : Ev := ⟨0x602, FRM_INT_STAT.ALL, some 1⟩
/-- DEFECT_RAISE. Payload: Defect code; layer. -/
def EV.DEFECT_RAISE : Ev := ⟨0x603, FRM_INT_STAT.ALL, some 2⟩
/-- DEFECT_CLEAR. Payload: Defect code; layer; duration in ms. -/
def EV.DEFECT_CLEAR : Ev := ⟨0x604, FRM_INT_STAT.ALL, some 3⟩
/-- EMULATION. Payload: EMUL increment in the second; BLK_OFS of the last emulation. -/
def EV.EMULATION : Ev := ⟨0x605, FRM_INT_STAT.ALL, some 4⟩
/-- OHC_SLIP. Payload: Channel; drops and repeats in the second. -/
def EV.OHC_SLIP : Ev := ⟨0x606, FRM_INT_STAT.ALL, some 5⟩
/-- TTI_CHANGE. Payload: Layer; first 16 bytes of the newly accepted TTI. -/
def EV.TTI_CHANGE : Ev := ⟨0x607, FRM_INT_STAT.ALL, some 6⟩
/-- PM_LATCH. Payload: GEN; FREE_RUN; FRAMES. -/
def EV.PM_LATCH : Ev := ⟨0x608, FRM_INT_STAT.ALL, some 7⟩
/-- CLIENT_UP. Payload: Channel; time down in ms. -/
def EV.CLIENT_UP : Ev := ⟨0x701, CLI_INT_STAT.ALL, some 0⟩
/-- CLIENT_DOWN. Payload: Channel; cause. -/
def EV.CLIENT_DOWN : Ev := ⟨0x702, CLI_INT_STAT.ALL, some 1⟩
/-- TRIB_MOVE_ANNOUNCED. Payload: Channel; version; S. -/
def EV.TRIB_MOVE_ANNOUNCED : Ev := ⟨0x703, CLI_INT_STAT.ALL, some 2⟩
/-- TRIB_MOVE_APPLIED. Payload: Channel; old and new slot counts; S. -/
def EV.TRIB_MOVE_APPLIED : Ev := ⟨0x704, CLI_INT_STAT.ALL, some 3⟩
/-- TRIB_MOVE_LATE. Payload: Channel; received SF_NUM at the switch. -/
def EV.TRIB_MOVE_LATE : Ev := ⟨0x705, CLI_INT_STAT.ALL, some 4⟩
/-- CLI_SKEW. Payload: Channel; lane; skew in 0.1 ns. -/
def EV.CLI_SKEW : Ev := ⟨0x706, CLI_INT_STAT.ALL, some 5⟩
/-- CBR_SLIP. Payload: Channel; drops and repeats in the second. -/
def EV.CBR_SLIP : Ev := ⟨0x707, CLI_INT_STAT.ALL, some 6⟩
/-- TRIB_MOVE_CANCELLED. Payload: Channel; S. -/
def EV.TRIB_MOVE_CANCELLED : Ev := ⟨0x708, CLI_INT_STAT.ALL, some 7⟩
/-- TRAIN_FAIL. Payload: Lane; RETRAINS. -/
def EV.TRAIN_FAIL : Ev := ⟨0x801, SRD_INT_STAT.ALL, some 0⟩
/-- LANE_DROP. Payload: Lane; cause: sync, ALIGN, errors. -/
def EV.LANE_DROP : Ev := ⟨0x802, SRD_INT_STAT.ALL, some 1⟩
/-- LANE_RESTORE. Payload: Lane; new ACTIVE. -/
def EV.LANE_RESTORE : Ev := ⟨0x803, SRD_INT_STAT.ALL, some 2⟩
/-- GROUP_DOWN. Payload: Group: 0 Mitre, 1 Batten; direction. -/
def EV.GROUP_DOWN : Ev := ⟨0x804, SRD_INT_STAT.ALL, some 3⟩
/-- GROUP_UP. Payload: Group; ACTIVE. -/
def EV.GROUP_UP : Ev := ⟨0x805, SRD_INT_STAT.ALL, some 4⟩
/-- EYE_DONE. Payload: Lane; width; height; status. -/
def EV.EYE_DONE : Ev := ⟨0x806, SRD_INT_STAT.ALL, some 5⟩
/-- JIG_LOCK. Payload: Lane. -/
def EV.JIG_LOCK : Ev := ⟨0x807, SRD_INT_STAT.ALL, some 6⟩
/-- JIG_UNLOCK. Payload: Lane; SRD_JIG_ERR low word. -/
def EV.JIG_UNLOCK : Ev := ⟨0x808, SRD_INT_STAT.ALL, some 7⟩
/-- KEY_LOADED. Payload: Page; slot; GEN; S or 0xFFFF. -/
def EV.KEY_LOADED : Ev := ⟨0x901, VNR_INT_STAT.ALL, some 0⟩
/-- KEY_SWITCHED. Payload: Page mask; KEY_SEQ; S. -/
def EV.KEY_SWITCHED : Ev := ⟨0x902, VNR_INT_STAT.ALL, some 1⟩
/-- KEY_UNKNOWN. Payload: Page; channel; KEY_SEQ. -/
def EV.KEY_UNKNOWN : Ev := ⟨0x903, VNR_INT_STAT.ALL, some 2⟩
/-- KEY_ERASED. Payload: Cause: command or sensor; sensor bits. -/
def EV.KEY_ERASED : Ev := ⟨0x904, VNR_INT_STAT.ALL, some 3⟩
/-- VNR_AUTH. Payload: Channel; RX_TAG_FAIL increment in the second. -/
def EV.VNR_AUTH : Ev := ⟨0x905, VNR_INT_STAT.ALL, some 4⟩
/-- VNR_FAULT. Payload: Cause: mismatch, known-answer test, RNG; pipeline. -/
def EV.VNR_FAULT : Ev := ⟨0x906, VNR_INT_STAT.ALL, some 5⟩
/-- VNR_SENSOR. Payload: Sensor bits; STATE. -/
def EV.VNR_SENSOR : Ev := ⟨0x907, VNR_INT_STAT.ALL, some 6⟩
/-- PROT_CHANGE. Payload: New STATE; LOAD. -/
def EV.PROT_CHANGE : Ev := ⟨0x908, VNR_INT_STAT.ALL, some 7⟩
/-- KEY_AGE. Payload: Page; slot; GEN; class: inline or lookaside. -/
def EV.KEY_AGE : Ev := ⟨0x909, VNR_INT_STAT.ALL, some 8⟩
/-- KEY_EXHAUSTED. Payload: Page; slot; GEN. -/
def EV.KEY_EXHAUSTED : Ev := ⟨0x90a, VNR_INT_STAT.ALL, some 9⟩
/-- VNR_DEGRADED. Payload: TX_PIPES; RX_PIPES; channels sent as FILL. -/
def EV.VNR_DEGRADED : Ev := ⟨0x90b, VNR_INT_STAT.ALL, some 10⟩
/-- LA_DONE. Payload: Sequence of the request; status. -/
def EV.LA_DONE : Ev := ⟨0x90c, VNR_INT_STAT.ALL, some 11⟩
/-- SCR_PAIRED. Payload: Peer; role. -/
def EV.SCR_PAIRED : Ev := ⟨0xa01, SCR_INT_STAT.ALL, some 0⟩
/-- SCR_AGREED. Payload: Mode; shape; pages keyed. -/
def EV.SCR_AGREED : Ev := ⟨0xa02, SCR_INT_STAT.ALL, some 1⟩
/-- SCR_LIVE. Payload: Mode; ms from leaving BEACON. -/
def EV.SCR_LIVE : Ev := ⟨0xa03, SCR_INT_STAT.ALL, some 2⟩
/-- SCR_FALLBACK. Payload: Mode excluded; cause: go-live or relock. -/
def EV.SCR_FALLBACK : Ev := ⟨0xa04, SCR_INT_STAT.ALL, some 3⟩
/-- SCR_TIMEOUT. Payload: State; TYPE awaited. -/
def EV.SCR_TIMEOUT : Ev := ⟨0xa05, SCR_INT_STAT.ALL, some 4⟩
/-- SCR_NO_COMMON. Payload: Both allowed masks; excluded mask. -/
def EV.SCR_NO_COMMON : Ev := ⟨0xa06, SCR_INT_STAT.ALL, some 5⟩
/-- SCR_PEER_REJECT. Payload: Identifier; cause: certificate or signature. -/
def EV.SCR_PEER_REJECT : Ev := ⟨0xa07, SCR_INT_STAT.ALL, some 6⟩
/-- SCR_MULTI_PEER. Payload: Identifier newly heard; PEERS. -/
def EV.SCR_MULTI_PEER : Ev := ⟨0xa08, SCR_INT_STAT.ALL, some 7⟩
/-- PREEMPTED. Payload: Count in the second. -/
def EV.PREEMPTED : Ev := ⟨0xa09, SCR_INT_STAT.ALL, some 8⟩
/-- SCR_LOOPBACK. Payload: Level. -/
def EV.SCR_LOOPBACK : Ev := ⟨0xa0a, SCR_INT_STAT.ALL, some 9⟩
/-- REF_QUALIFIED. Payload: Candidate; effective QL. -/
def EV.REF_QUALIFIED : Ev := ⟨0xb01, REF_INT_STAT.ALL, some 0⟩
/-- REF_DISQUALIFIED. Payload: Candidate; cause: activity or reject limit; offset. -/
def EV.REF_DISQUALIFIED : Ev := ⟨0xb02, REF_INT_STAT.ALL, some 1⟩
/-- DRIFT. Payload: Candidate; cause: accept limit or rate; offset; rate. -/
def EV.DRIFT : Ev := ⟨0xb03, REF_INT_STAT.ALL, some 2⟩
/-- REF_SWITCH. Payload: Old and new candidate; cause. -/
def EV.REF_SWITCH : Ev := ⟨0xb04, REF_INT_STAT.ALL, some 3⟩
/-- CLAMP_ENTER. Payload: Clamp frequency; FREERUN flag. -/
def EV.CLAMP_ENTER : Ev := ⟨0xb05, REF_INT_STAT.ALL, some 4⟩
/-- CLAMP_EXIT. Payload: Candidate; time in CLAMP in s. -/
def EV.CLAMP_EXIT : Ev := ⟨0xb06, REF_INT_STAT.ALL, some 5⟩
/-- DPLL_LOCK. Payload: Candidate. -/
def EV.DPLL_LOCK : Ev := ⟨0xb07, REF_INT_STAT.ALL, some 6⟩
/-- DPLL_UNLOCK. Payload: Phase error in ns. -/
def EV.DPLL_UNLOCK : Ev := ⟨0xb08, REF_INT_STAT.ALL, some 7⟩
/-- QL_CHANGE. Payload: Candidate or output; old and new code. -/
def EV.QL_CHANGE : Ev := ⟨0xb09, REF_INT_STAT.ALL, some 8⟩
/-- OSC_LOST. Payload: DPLL state. -/
def EV.OSC_LOST : Ev := ⟨0xb0a, REF_INT_STAT.ALL, some 9⟩
/-- OUT_REALIGNED. Payload: Output mask; step in ns; cause: command or compatibility. -/
def EV.OUT_REALIGNED : Ev := ⟨0xb0b, REF_INT_STAT.ALL, some 10⟩
/-- TOD_STEPPED. Payload: Source: host or servo; step in ns. -/
def EV.TOD_STEPPED : Ev := ⟨0xc01, TOD_INT_STAT.ALL, some 0⟩
/-- JUMP_REFUSED. Payload: Port; offset in ns. -/
def EV.JUMP_REFUSED : Ev := ⟨0xc02, TOD_INT_STAT.ALL, some 1⟩
/-- PATH_ASYM. Payload: Test value in ns; TOD_ASYM_NEW. -/
def EV.PATH_ASYM : Ev := ⟨0xc03, TOD_INT_STAT.ALL, some 2⟩
/-- ASYM_ACCEPTED. Payload: New ASYM; source: host or hold. -/
def EV.ASYM_ACCEPTED : Ev := ⟨0xc04, TOD_INT_STAT.ALL, some 3⟩
/-- PTP_PARENT_CHANGE. Payload: Old and new parent; grandmaster identity. -/
def EV.PTP_PARENT_CHANGE : Ev := ⟨0xc05, TOD_INT_STAT.ALL, some 4⟩
/-- SERVO_STATE. Payload: Old and new state. -/
def EV.SERVO_STATE : Ev := ⟨0xc06, TOD_INT_STAT.ALL, some 5⟩
/-- PTP_PORT_STATE. Payload: Port; old and new state. -/
def EV.PTP_PORT_STATE : Ev := ⟨0xc07, TOD_INT_STAT.ALL, some 6⟩
/-- SCHED_FIRED. Payload: Entry; status; lateness in ns. -/
def EV.SCHED_FIRED : Ev := ⟨0xc08, TOD_INT_STAT.ALL, some 7⟩
/-- PAIR_ROLE. Payload: Old and new role; cause row of Table 14.3. -/
def EV.PAIR_ROLE : Ev := ⟨0xd01, PAIR_INT_STAT.ALL, some 0⟩
/-- PAIR_SWITCHOVER. Payload: Cause row of Table 14.7, or REVERT; PROMOTED_STALE mask; gap in µs. -/
def EV.PAIR_SWITCHOVER : Ev := ⟨0xd02, PAIR_INT_STAT.ALL, some 1⟩
/-- PAIR_SYNCED. Payload: EPOCH; JSEQ_CUT. -/
def EV.PAIR_SYNCED : Ev := ⟨0xd03, PAIR_INT_STAT.ALL, some 2⟩
/-- PAIR_SYNC_FAIL. Payload: EPOCH; cause: timeout, digest, store overflow. -/
def EV.PAIR_SYNC_FAIL : Ev := ⟨0xd04, PAIR_INT_STAT.ALL, some 3⟩
/-- PAIR_MISCOMPARE. Payload: Direction; FTAG; outcome row of Table 14.6. -/
def EV.PAIR_MISCOMPARE : Ev := ⟨0xd05, PAIR_INT_STAT.ALL, some 4⟩
/-- PEG_LOST. Payload: Mitre link state. -/
def EV.PEG_LOST : Ev := ⟨0xd06, PAIR_INT_STAT.ALL, some 5⟩
/-- PAIR_LINK_DOWN. Payload: Cause: heartbeat, group down. -/
def EV.PAIR_LINK_DOWN : Ev := ⟨0xd07, PAIR_INT_STAT.ALL, some 6⟩
/-- PAIR_LINK_UP. Payload: Mate identifier. -/
def EV.PAIR_LINK_UP : Ev := ⟨0xd08, PAIR_INT_STAT.ALL, some 7⟩
/-- PAIR_DUAL_ACTIVE. Payload: Time both were ACTIVE in ms. -/
def EV.PAIR_DUAL_ACTIVE : Ev := ⟨0xd09, PAIR_INT_STAT.ALL, some 8⟩
/-- PAIR_UNPROTECTED. Payload: Mate role. -/
def EV.PAIR_UNPROTECTED : Ev := ⟨0xd0a, PAIR_INT_STAT.ALL, some 9⟩
/-- PAIR_AUTH_FAIL. Payload: Cause: identifier, certificate, signature, VERSION. -/
def EV.PAIR_AUTH_FAIL : Ev := ⟨0xd0b, PAIR_INT_STAT.ALL, some 10⟩
/-- SPARE_TAKEOVER. Payload: Failed engine; engine taking over. -/
def EV.SPARE_TAKEOVER : Ev := ⟨0xd0c, PAIR_INT_STAT.ALL, some 11⟩
/-- SPARE_RETURN. Payload: Engine; engine released. -/
def EV.SPARE_RETURN : Ev := ⟨0xd0d, PAIR_INT_STAT.ALL, some 12⟩
/-- SPARE_NONE. Payload: Failed engine; task. -/
def EV.SPARE_NONE : Ev := ⟨0xd0e, PAIR_INT_STAT.ALL, some 13⟩
/-- MON_SYSCAL_DONE. Payload: Kind; channel; status; new gain and offset. -/
def EV.MON_SYSCAL_DONE : Ev := ⟨0xe01, MON_INT_STAT.ALL, some 0⟩
/-- MON_Q_LOST. Payload: Modulator; words lost in the second. -/
def EV.MON_Q_LOST : Ev := ⟨0xe02, MON_INT_STAT.ALL, some 1⟩
/-- MON_TRIG_OVR. Payload: Modulator; triggers ignored in the second. -/
def EV.MON_TRIG_OVR : Ev := ⟨0xe03, MON_INT_STAT.ALL, some 2⟩
/-- MON_CLIP. Payload: Modulator; channel; saturated words in the second. -/
def EV.MON_CLIP : Ev := ⟨0xe04, MON_INT_STAT.ALL, some 3⟩
/-- MON_ILV_OFF. Payload: Cause: bias loops took M0; words of M1 left in queue 0. -/
def EV.MON_ILV_OFF : Ev := ⟨0xe05, MON_INT_STAT.ALL, some 4⟩
/-- DUMP_DONE. Payload: Generation; destinations delivered. -/
def EV.DUMP_DONE : Ev := ⟨0xf01, OBS_INT_STAT.ALL, some 0⟩
/-- CAP_TRIGGERED. Payload: Captures started; input; trigger position. -/
def EV.CAP_TRIGGERED : Ev := ⟨0xf02, OBS_INT_STAT.ALL, some 1⟩
/-- CAP_FROZEN. Payload: Raw or soft; SHORT; window bytes. -/
def EV.CAP_FROZEN : Ev := ⟨0xf03, OBS_INT_STAT.ALL, some 2⟩
/-- DRAIN_DONE. Payload: Window number; bytes; duration in ms. -/
def EV.DRAIN_DONE : Ev := ⟨0xf04, OBS_INT_STAT.ALL, some 3⟩
/-- CAP_BUSY. Payload: Input; capture states; triggers ignored in the second. -/
def EV.CAP_BUSY : Ev := ⟨0xf05, OBS_INT_STAT.ALL, some 4⟩
/-- REC_LOST. Payload: First and last RSEQ discarded. -/
def EV.REC_LOST : Ev := ⟨0xf06, OBS_INT_STAT.ALL, some 5⟩
/-- REC_FULL. Payload: Window number; windows held. -/
def EV.REC_FULL : Ev := ⟨0xf07, OBS_INT_STAT.ALL, some 6⟩
/-- DRIVE_FAIL. Payload: Root port; NVMe status or cause. -/
def EV.DRIVE_FAIL : Ev := ⟨0xf08, OBS_INT_STAT.ALL, some 7⟩
/-- DRIVE_READY. Payload: Root port; capacity in 4,096-byte blocks. -/
def EV.DRIVE_READY : Ev := ⟨0xf09, OBS_INT_STAT.ALL, some 8⟩
/-- CNT_WRAP. Payload: Lowest counter index wrapped in the second. -/
def EV.CNT_WRAP : Ev := ⟨0xf0a, OBS_INT_STAT.ALL, some 9⟩
/-- ENG_WATCHDOG. Payload: Engine; task. -/
def EV.ENG_WATCHDOG : Ev := ⟨0x1001, ENG_INT_STAT.ALL, some 0⟩
/-- ENG_ECC. Payload: Engine; memory; corrected or not. -/
def EV.ENG_ECC : Ev := ⟨0x1002, ENG_INT_STAT.ALL, some 1⟩
/-- FW_ENGINE_DONE. Payload: Engine. -/
def EV.FW_ENGINE_DONE : Ev := ⟨0x1003, ENG_INT_STAT.ALL, some 2⟩
/-- FW_ROLLBACK. Payload: Engine; cause. -/
def EV.FW_ROLLBACK : Ev := ⟨0x1004, ENG_INT_STAT.ALL, some 3⟩
/-- FW_DONE. Payload: Image version. -/
def EV.FW_DONE : Ev := ⟨0x1005, ENG_INT_STAT.ALL, some 4⟩
/-- SBX_STOP. Payload: Engine; cause: trap, watchdog. -/
def EV.SBX_STOP : Ev := ⟨0x1006, ENG_INT_STAT.ALL, some 5⟩
/-- SBX_MSG. Payload: Engine; bytes. -/
def EV.SBX_MSG : Ev := ⟨0x1007, ENG_INT_STAT.ALL, some 6⟩
/-- BOOT_FALLBACK. Payload: Failing bank; image type; check order. -/
def EV.BOOT_FALLBACK : Ev := ⟨0x1101, SEC_INT_STAT.ALL, some 0⟩
/-- SVN_RAISED. Payload: Image type; old and new counter. -/
def EV.SVN_RAISED : Ev := ⟨0x1102, SEC_INT_STAT.ALL, some 1⟩
/-- KEEPER_ALARM. Payload: Cause: lockstep or watchdog. -/
def EV.KEEPER_ALARM : Ev := ⟨0x1103, SEC_INT_STAT.ALL, some 2⟩
/-- LIFECYCLE_SET. Payload: Old and new code. -/
def EV.LIFECYCLE_SET : Ev := ⟨0x1104, SEC_INT_STAT.ALL, some 3⟩
/-- SESSION_KEYED. Payload: Session. -/
def EV.SESSION_KEYED : Ev := ⟨0x1105, SEC_INT_STAT.ALL, some 4⟩
/-- PWR_STATE. Payload: Old and new state; ms taken. -/
def EV.PWR_STATE : Ev := ⟨0x1201, PWR_INT_STAT.ALL, some 0⟩
/-- THERM_WARN. Payload: Tj; sensor. -/
def EV.THERM_WARN : Ev := ⟨0x1202, PWR_INT_STAT.ALL, some 1⟩
/-- THERM_CRIT. Payload: Tj; sensor. -/
def EV.THERM_CRIT : Ev := ⟨0x1203, PWR_INT_STAT.ALL, some 2⟩
/-- THERM_CLEAR. Payload: Threshold cleared; Tj. -/
def EV.THERM_CLEAR : Ev := ⟨0x1204, PWR_INT_STAT.ALL, some 3⟩

end Sys2Proof.Machine
end

