-- ==== Sys2Proof/Machine/Output.lean ====
section
/-!
DEFINITION. What the block sends outward (replies and writes to host memory, interrupt messages, line overhead, protocol
messages, pin levels), and the status codes and replies of Felwin (Table 0.5, Table 17.2).
-/
namespace Sys2Proof.Machine

/-- The status codes of Table 0.5 (R18). -/
inductive Status where
  | ok | pending | busyBoot | busy | badOpcode | badLength | badParam | range | state | noResource
  | auth | lifecycle | privilege | timeout | aborted | late | past | jumpRefused
  | tagFail | keyGone | lengthLimit | nonceExhausted | empty | hwFault | internal
  deriving DecidableEq, Repr

/-- The code of a status (Table 0.5). -/
def Status.code : Status → Nat
  | .ok => 0x00 | .pending => 0x01 | .busyBoot => 0x02 | .busy => 0x03 | .badOpcode => 0x10 | .badLength => 0x11
  | .badParam => 0x12 | .range => 0x13 | .state => 0x14 | .noResource => 0x15 | .auth => 0x20 | .lifecycle => 0x21
  | .privilege => 0x22 | .timeout => 0x30 | .aborted => 0x31 | .late => 0x40 | .past => 0x41 | .jumpRefused => 0x42
  | .tagFail => 0x50 | .keyGone => 0x51 | .lengthLimit => 0x52 | .nonceExhausted => 0x53 | .empty => 0x60
  | .hwFault => 0x70 | .internal => 0x7F

/-- A Felwin reply (R617): the fields of its header and its payload words. `ring` is the ring it goes back on; `noHold`
that its command carried NO_HOLD (R625). -/
structure Reply where
  addr : Nat
  ring : Nat
  opcode : Nat
  seq : Nat
  session : Nat
  flags : Nat
  status : Nat
  state : Nat
  payload : List Nat
  noHold : Bool
  deriving DecidableEq, Repr

/-- The settings of the transmit chain that act on the whole signal in a superframe (Table 2.1, steps 7 to 13): roll-off in 0.01 (R44); the
subcarriers summed, and F_S in 250 MHz of the Scribe subcarrier where it is sent; the dispersion pre-compensation P in ps/nm, or none
(R67); the 257 taps of the response filter of each polarisation (R68); per channel the skew in 0.05 ps, per polarisation the IQ gain in 0.01 dB
and phase in 0.1 mrad (R68); per half-DAC gain in 0.01 %, offset in 1/16 LSB and timing in fs (R180); the loop dithered, the dither's
frequency in Hz and amplitude in 0.1 % (R79); the clip level in 0.1 dB (R69); the bits of quantisation; the attenuator in 0.1 dB (R70). -/
structure TxChain where
  rolloff : Nat
  subs : List Nat
  scribe : Option Nat
  precomp : Option Int
  taps : List (List (BitVec 32))
  skew : List Int
  iq : List (Int × Int)
  halves : List (Int × Int × Int)
  dither : Option (Nat × Nat × Nat)
  clip : Nat
  bits : Nat
  atten : Nat
  deriving DecidableEq, Repr

/-- What one subcarrier sends in a superframe beside its payload (R46, R52, R61 to R65): its centre from the carrier in 250 kHz; the power of its
mean payload symbol and of its pilot, training and header symbols, in 2^-64 of the mean subcarrier; the symbols of pilot positions 0 to 191,
training word and header, each as the signs of XI, XQ, YI and YQ; and the generators of X and Y from which the pilots of positions 192 to 16,131 go on. -/
structure TxSub where
  sc : Nat
  centre : Int
  power : Nat
  pilot : Nat
  head : List (List Int)
  genX : Nat
  genY : Nat
  deriving DecidableEq, Repr

/-- An outward effect. The model keeps them in order, newest first, so that what a command sends is part of the next state. -/
inductive Output where
  /-- a reply written to reply ring `ring` from entry position `at` on (R612), its packet words -/
  | reply (ring pos : Nat) (words : List Nat)
  /-- a write to host memory: address and words -/
  | host (addr : Nat) (words : List Nat)
  /-- an MSI-X message on a vector (R701) -/
  | msix (vec : Nat)
  /-- an event-queue entry at its ring position (R704, Table 19.10) -/
  | eqEntry (pos : Nat) (words : List Nat)
  /-- a counter dump at its byte position in the dump ring (R615) -/
  | dump (pos : Nat) (words : List Nat)
  /-- the bytes of a capture window or of records copied to host memory (R597, R604) -/
  | copy (addr bytes : Nat)
  /-- the transmit chain as it stands in the superframe that starts -/
  | chain (c : TxChain)
  /-- an enabled subcarrier in the superframe that starts -/
  | sub (c : TxSub)
  /-- the pad before a plan change (R74): subcarrier, its payload symbol from which it runs, its symbols, and the registers of X's and Y's
  generators from which it goes on -/
  | pad (sc start len genX genY : Nat)
  /-- a superframe header sent by the line transmitter (Table 2.6), its fields as words -/
  | header (words : List Nat)
  /-- a plan-adaptation message (Table 4.1) -/
  | adapt (words : List Nat)
  /-- a Scribe packet (Tables 11.1 to 11.3): TYPE, whether protected, SEQ, addressee, the bytes of its payload before protection; F_S in 250 MHz, its level in
  0.5 dB (R403, R405), and the bits of its symbols, whitened (R408) -/
  | scribe (typ prot seq dst : Nat) (body : List Nat) (freq : Nat) (level : Int) (symbols : List Bool)
  /-- a PTP message of a port -/
  | ptp (port : Nat) (words : List Nat)
  /-- an ESMC PDU on an Ethernet channel (R446): whether an event PDU, its SSM and enhanced SSM codes (Table 12.2) -/
  | esmc (chan : Nat) (event : Bool) (ssm enh : Nat)
  /-- a clock or pulse output as it runs from now on (R460): whether enabled, hertz, polarity, pulse width in 100 ns -/
  | clock (out : Nat) (en : Bool) (hz pol width : Nat)
  /-- a message in the line timing channel -/
  | lineTime (words : List Nat)
  /-- a line overhead frame or block the transmitter sends -/
  | line (words : List Nat)
  /-- an FEC block handed to the mapper (R222, R223): subcarrier, block index, the levels in symbol order then dimension order -/
  | block (sc j : Nat) (levels : List Int)
  /-- the net bits of a decoded FEC block with its UNCORR mark, into the merge (R234, R235) -/
  | net (sc : Nat) (uncorr : Bool) (bits : List Bool)
  /-- an OTUCn frame as sent (Tables 7.2 and 8.3): MFAS; TTI byte, BDI and BEI per slice of SM and of ODUC PM; the PSI byte of each
  slice; the frames of the overhead channels; BDI of each ODUflex as a mask; the client frame each CBR tributary carries -/
  | otuc (mfas : Nat) (sm pm psi : List Nat) (oh : List (List Nat)) (flexBdi : Nat) (cbr : List (Nat × List Nat))
  /-- the slice frames of an OTUCn frame as sent, scrambled (R248 to R251) -/
  | slices (bytes : List (List Nat))
  /-- all-ones fill for a tributary in place of a discarded protected block (R29): toward the line, or the client where `rx` -/
  | fill (t : Nat) (rx : Bool)
  /-- the bits on the host lanes of an Ethernet channel (R294, R296) -/
  | eth (t : Nat) (bits : List Bool)
  /-- a client frame on the host lanes of a CBR channel: 0 from the line, 1 the replacement frames of R302 -/
  | client (ch kind : Nat) (bytes : List Nat)
  /-- a protected block sent on a channel (R362 to R365): KP, KA, FILL, GEN, SEQ, and the words of its nonce -/
  | vblock (ch kp ka fill gen seq : Nat) (nonce : List Nat)
  /-- what the receiver delivers of a protected block (Table 10.5): the channel, and 0 fill or 1 the plaintext with its marks cleared -/
  | delivered (ch kind : Nat)
  /-- an ALIGN sent on a group, 0 Mitre or 1 Batten: ACTIVE, NEXT, GOOD, SEQ (Table 9.3) -/
  | align (grp active next good seq : Nat)
  /-- Jig on a lane: the generator's pattern where it runs, the user pattern, and −log10 of the rate at which it flips bits (R343, R345) -/
  | jig (lane : Nat) (gen : Option Nat) (user : Nat) (rate : Option Nat)
  /-- a packet received whole on a group, into the device (R331, R333) -/
  | packet (grp : Nat) (bytes : List Nat)
  /-- bits flipped on a lane by Jig: how many at once (R345) -/
  | inject (lane bits : Nat)
  /-- a Batten packet: destination, source, ring, type, body (R630), and its columns of code groups on the active lanes (R331) -/
  | batten (dst src ring typ : Nat) (body : List Nat) (cols : List (List Nat))
  /-- a Batten TOKEN with its check byte (R330, R629) -/
  | token (a n check : Nat)
  /-- a message to the mate over Mitre: 1 HEARTBEAT, 2 journal entry, 3 snapshot, 4 FAIL, 5 a new cut asked for, 6 a batch of digests,
  7 the mate's role as decided here, 8 the result of an identification, 9 a handover asked for, 10 the key exchange; and its columns
  of code groups on the active lanes (R331) -/
  | mitre (kind : Nat) (body : List Nat) (cols : List (List Nat))
  /-- a Peg pulse code -/
  | peg (code : Nat)
  /-- an ITLA register write on a laser port: the register's place in the list of R84, and the value -/
  | itla (port reg val : Nat)
  /-- ITLA registers read on a laser port, those with strings by AEA transfer (R84) -/
  | itlaRead (port : Nat) (regs : List Nat)
  /-- the serial rate of a laser port in baud (R85) -/
  | baud (port rate : Nat)
  /-- the strobe DSYNC at the start of a dither cycle, its width in ns (R80) -/
  | dsync (width : Nat)
  /-- a level on a pin -/
  | pin (pin level : Nat)
  /-- a write or command to a recorder drive -/
  | drive (port kind : Nat) (words : List Nat)
  /-- a client or lane signal -/
  | lane (lane kind : Nat) (words : List Nat)
  /-- a message to a sandbox task -/
  | sandbox (eng : Nat) (words : List Nat)
  /-- the answer a bus read gives its master -/
  | readData (mast off val : Nat)
  deriving DecidableEq, Repr

end Sys2Proof.Machine
end

