-- ==== Sys2Proof/Machine/StCore.lean ====
section
/-!
DEFINITION. The state of the system, observability, command and engine blocks that no register shows: access shadows, the
event queue's loss flag, captures and recorder, reply slots, sessions and the Batten ring, firmware update and sandbox.
-/
namespace Sys2Proof.Machine

/-- A write to SYS_GPIO_OE or SYS_GPIO_OUT held during a switchover gap (R698): whether it is to OUT, and the word. -/
structure HeldPin where
  out : Bool
  word : Nat
  deriving DecidableEq, Repr

/-- System block: each master's read shadow and write shadow (register offset and staged word, R691, R693) and the first
flagged offset (R681); the MSI-X enable and function mask (R702); the event queue's next-entry LOST flag (R706), ESEQ
(R705) and coalescing window (R704); held pin writes (R698). -/
structure SysSt where
  rdShadow : Tab (Option (Nat × Nat)) := []
  wrShadow : Tab (Option (Nat × Nat)) := []
  accAddr : Tab (Option Nat) := []
  msixEn : Bool := false
  fnMask : Bool := false
  eqLost : Bool := false
  eseq : Nat := 0
  coalOpen : Bool := false
  coalDue : Bool := false
  held : List HeldPin := []
  deriving DecidableEq, Repr

/-- One occurrence of what an event raised at most once a second or minute reports (R725): the event, the instance, whether
it is judged by the minute, and what this occurrence adds to the summary. -/
structure Occ where
  ev : Nat
  inst : Nat
  minute : Bool
  item : List Nat
  deriving DecidableEq, Repr

/-- A record of the recorder (R598): type, flags, RSEQ, time, body words. -/
structure Rec where
  typ : Nat
  flags : Nat
  rseq : Nat
  time : Nat
  body : List Nat
  deriving DecidableEq, Repr

/-- A capture window on the drives (R602): its number, whether it is soft, its bytes, whether it is held and whether its
CAP_END has been written. -/
structure Win where
  num : Nat
  soft : Bool
  bytes : Nat
  held : Bool
  done : Bool
  deriving DecidableEq, Repr

/-- A counter dump kept in HBM (R588): its flags, generation, ranges, time and the counters and wrap bits at the snapshot. -/
structure Dump where
  flags : Nat
  gen : Nat
  ranges : Nat
  time : Nat
  cnts : Tab Nat
  wraps : Tab Nat
  deriving DecidableEq, Repr

/-- A recorder drive (R600): whether it is in use, its capacity in 4,096-byte blocks, its SMART critical warning, and the
bytes of its log and capture areas in use. -/
structure Drive where
  usable : Bool := false
  used : Bool := false
  cap : Nat := 0
  smart : Nat := 0
  logUsed : Nat := 0
  capUsed : Nat := 0
  deriving DecidableEq, Repr

/-- A command whose final reply is still to come: its ring, SEQ, SESSION, FLAGS, opcode and parameters (R623). -/
structure Running where
  ring : Nat
  seq : Nat
  session : Nat
  flags : Nat
  opcode : Nat
  par : List Nat
  deriving DecidableEq, Repr

/-- Observability block (R580, R587 to R604): occurrences of the running second and minute; trigger inputs due to fire; for the raw and the soft
capture whether its ring has filled since arming, and its trigger position and the window number it drains to; capture windows; the recorder's staged records,
discarded range, segment count and drives; the dump history and misses; the bandwidth windows to discard; copies running. -/
structure ObsSt where
  occ : List Occ := []
  trigDue : List Nat := []
  rawFilled : Bool := false
  softFilled : Bool := false
  rawPos : Nat := 0
  softPos : Nat := 0
  nextWin : Nat := 0
  wins : List Win := []
  rawWin : Option Nat := none
  softWin : Option Nat := none
  recs : List Rec := []
  lost : Option (Nat × Nat) := none
  sseq : Nat := 0
  drives : Tab Drive := []
  dumps : List Dump := []
  missed : Nat := 0
  bwDiscard : Tab Nat := []
  capRead : Option Running := none
  recRead : Option Running := none
  deriving DecidableEq, Repr

/-- A reply slot (R624, R625): the command it holds and its final reply, `none` while the command runs. -/
structure Slot where
  run : Running
  reply : Option Reply
  deriving DecidableEq, Repr

/-- Command block: each ring's producer count (CMD_DB) and waiting replies in completion order (R726); the reply slots
(R624), keyed 1024 × ring + slot; open sessions (R627); the ring last served (R613); the commands that came over Batten and wait, each with its ring number; the identifiers at the Batten
addresses, whether an enumeration that R630 counts as running runs, the TOKEN sent and not back, and whether a retry is due. -/
structure CmdSt where
  prod : Tab Nat := []
  waiting : Tab (List Reply) := []
  slots : Tab (Option Slot) := []
  sessions : List Nat := []
  lastRing : Nat := 3
  inbox : List (Nat × List Nat) := []
  ids : Tab Nat := []
  enumBusy : Bool := false
  tokenOut : Option (Nat × Nat) := none
  retryDue : Bool := false
  deriving DecidableEq, Repr

/-- An image as the flash or host memory holds it (R649): the 88 words of its header (Table 18.3) and its body. -/
structure Image where
  hdr : List Nat
  body : List Nat
  deriving DecidableEq, Repr

/-- A firmware activation in progress (R635): the command it answers; the swaps made, newest first, each the old engine and the one that took
its task; whether the newest is in probation. -/
structure FwUpdate where
  run : Running
  swaps : List (Nat × Nat)
  probation : Bool
  deriving DecidableEq, Repr

/-- A task taken over (R633, R544): the failed engine, the spare, the task; whether the spare has resumed it; and whether the engine is to take
it back at the next boundary. -/
structure Migration where
  failed : Nat
  spare : Nat
  task : Nat
  resumed : Bool
  due : Bool
  deriving DecidableEq, Repr

/-- Engines (R631 to R639): the FW_STAGE in progress, the image staged and its bank; the header of the image in force; activation; tasks taken over; the SBX_LOAD in
progress with its engines; the engines whose sandbox task is loaded; the messages to each that it has not taken. -/
structure EngSt where
  stage : Option Running := none
  staged : Option Image := none
  stagedBank : Nat := 0
  running : List Nat := []
  update : Option FwUpdate := none
  migs : List Migration := []
  sbxLoad : Option (Running × Nat) := none
  sbxTasks : List Nat := []
  sbxIn : Tab (List (List Nat)) := []
  deriving DecidableEq, Repr

end Sys2Proof.Machine
end

