-- ==== Sys2Proof/Machine/StBlocks.lean ====
section
/-!
DEFINITION. The state of the time, pair, security and power blocks that no register shows, and the fuses and boot flash.
-/
namespace Sys2Proof.Machine

/-- The two parts (Table 0.1). -/
inductive Part where
  | ask3200 | ask1600
  deriving DecidableEq, Repr

/-- The fuses: the part code (R2), the device identifier, the lifecycle bits (R657), the Keeper and engine anti-rollback
counters (R650), the customer code key digest (R671), whether the device secret has been programmed to all ones (R658), and
the words of the
calibration rows that are not blank, keyed 8 × set + row (R204, R205). -/
structure Fuses where
  part : Part := .ask3200
  devId : Nat := 1
  life : Nat := 1
  kCnt : Nat := 0
  eCnt : Nat := 0
  custKey : Option (List Nat) := none
  secretGone : Bool := false
  rows : Tab (List Nat) := []
  deriving DecidableEq, Repr

/-- The boot flash (R646, R647): the two boot record copies, each its bank and SEQ where it is valid, and each bank's Keeper
and engine image. -/
structure Flash where
  rec0 : Option (Nat × Nat) := none
  rec1 : Option (Nat × Nat) := none
  keeperA : Option Image := none
  engineA : Option Image := none
  keeperB : Option Image := none
  engineB : Option Image := none
  deriving DecidableEq, Repr

/-- A step asked for by TOD_STEP (R476): absolute or relative, its value in 1/(25 × 2^32) ns, and for an absolute step the old time of
its boundary. -/
structure TodReq where
  abs : Bool
  value : Int
  boundary : Nat
  deriving DecidableEq, Repr

/-- A Sync received from a port's master (R489): its sequence, the master's time less the local stamp so far in ps, and whether a Follow_Up
is still to come; the local stamp of the Delay_Req sent and its sequence. -/
structure PtpPort where
  seq : Nat := 0
  fwd : Option Int := none
  part : Option (Nat × Int) := none
  req : Option (Nat × Int) := none
  txSeq : Nat := 0
  deriving DecidableEq, Repr

/-- The wait for sixteen measurements after an asymmetric step (R487): those still to come, the sums of a and b of the sixteen before it, and
the ASYM it is measured from. -/
structure AsymWait where
  left : Nat
  oldA : Int
  oldB : Int
  base : Int
  deriving DecidableEq, Repr

/-- The time-of-day counter (R469, R470): seconds, nanoseconds, the 32-bit fraction and the carried remainder. The step asked for. Line
stamps by SF_NUM in 2^-16 ns, the latest superframe received, and the receive stamp of one whose header has not come (R480, R483). The last 32 measurements, the delay line, the wait after a
step and whether both ends' VALID stayed 1 in the hold (R485 to R488). Announce data by port (bytes 34 to 63), refused ports with their
grandmaster, message exchanges (R489 to R496); the servo's integrator in 2^-32 ps/s, its offset samples with their round trips, its last rates, the seconds in and far out
of limits, whether it has ever locked, its seconds in HOLD (R493 to R497). Scheduled entries held by a gap (R502). -/
structure TodSt where
  sec : Nat := 0
  ns : Nat := 0
  frac : Nat := 0
  rem : Nat := 0
  step : Option TodReq := none
  txSt : Tab (Option Nat) := []
  rxSt : Tab (Option Nat) := []
  lastRx : Option Nat := none
  rxTent : Option Nat := none
  meas : List (Int × Int) := []
  delay : List (Int × Int) := []
  wait : Option AsymWait := none
  holdOk : Bool := true
  ann : Tab (List Nat) := []
  refused : Tab (Option Nat) := []
  ports : Tab PtpPort := []
  loop : Int := 0
  samples : List (Int × Int) := []
  rates : List Int := []
  good : Nat := 0
  far : Nat := 0
  everLocked : Bool := false
  holdExpired : Bool := false
  gapActs : List Nat := []
  deriving DecidableEq, Repr

/-- A journal entry (R519): JSEQ, epoch, category, and what it carries. -/
structure JEntry where
  jseq : Nat
  epoch : Nat
  cat : Nat
  body : List Nat
  deriving DecidableEq, Repr

/-- A frame digest (R527, R528): its FTAG, the CRC-64, whether the frame is not to be compared, and whether it is this unit's own. -/
structure Digest where
  ftag : Nat
  crc : Nat
  skip : Bool
  own : Bool
  deriving DecidableEq, Repr

/-- Pair block. The select pins; whether PAIR_RETURN or a reset allows joining (R511); the mate's identifier and PRIMARY as authenticated
(R512, R515); whether the exchange failed and its retry is due. DEATH_WIN running (R511); Peg classification: the last code, how often in a
row, and classified pulses in a row (R514). The command waiting for its journal acknowledgement (R518); journal entries kept (active) or held
behind a gap or since the last snapshot (other roles, each with its JSEQ), what the last entry of each part of the asynchronous categories held (R517), the bytes kept and since the last cut, the last cut (R519 to R522); snapshot failures in a row (R521); whether a STALE unit has taken a snapshot (R511), and whether the unit is one that returns
to service (R541). The mate's
last complete epoch, its health, whether its receiver is LOCKED, and heartbeats in a row with it out while ours is in (R513, R531).
The switchover gap, the cause of one that a planned handover started, the mask and the sessions told of it (R533, R535). Digests waiting for
a partner and for their batch, by direction 0 transmit and 1 receive, and the frames of the running superframe (R527, R528); mismatches of
the superframe, and what the identification running was started by (R529); when identifications stayed unresolved, and whether that holds the
unit STALE (R530). The tick it became ACTIVE at (R539). -/
structure PairSt where
  sel0 : Bool := false
  sel1 : Bool := false
  joinOk : Bool := true
  mateId : Nat := 0
  matePrimary : Bool := false
  retry : Bool := false
  death : Bool := false
  pegCand : Nat := 0
  pegRun : Nat := 0
  pegGood : Nat := 0
  wait : Option (Running × Nat) := none
  kept : List JEntry := []
  held : List (Nat × Glue) := []
  sent : Tab (List Nat) := []
  cutBytes : Nat := 0
  keptBytes : Nat := 0
  jcut : Nat := 0
  snapFails : Nat := 0
  snapIn : Bool := false
  returning : Bool := false
  mateEpoch : Nat := 0
  mateHealthy : Bool := false
  mateLocked : Bool := false
  badHb : Nat := 0
  gap : Bool := false
  handover : Bool := false
  mask : Nat := 0
  untold : List Nat := []
  told : Bool := true
  digs : Tab (List Digest) := []
  batch : Tab (List Digest) := []
  idx : Tab Nat := []
  mis : Nat := 0
  misSf : Nat := 0
  misDir : Nat := 0
  misTag : Nat := 0
  unresolved : List Nat := []
  unresHold : Bool := false
  activeAt : Nat := 0
  deriving DecidableEq, Repr

/-- Security block: the step of Table 18.5 reached; whether both banks failed; the header of the Keeper image in force; the issued nonce
(R658); session transport keys (R655); counter raises still to be made, each the image type and the SVN (R650); the header of the sandbox
image loaded; whether AK is available (R656), and what tells this boot's certificates from others; the cause of the reset due; the flash. -/
structure SecSt where
  boot : Nat := 0
  bootFail : Bool := false
  keeper : List Nat := []
  nonce : Option (List Nat) := none
  keys : Tab (List Nat) := []
  svnDue : List (Nat × Nat) := []
  sbxHdr : Option (List Nat) := none
  akReady : Bool := false
  certNo : Nat := 0
  resetDue : Option Nat := none
  flash : Flash := {}
  deriving DecidableEq, Repr

/-- Power block: the PWR_STATE_SET in progress and the state it started from (R666); whether TX_OUT was lit and the receiver enabled at entry
to PS2; the last temperatures of the 22 sensors in °C, and the highest (R669). -/
structure PwrSt where
  run : Option Running := none
  txWas : Bool := false
  rxWas : Bool := false
  origin : Nat := 0
  temps : List Int := []
  tj : Int := 0
  deriving DecidableEq, Repr

end Sys2Proof.Machine
end

