-- ==== Sys2Proof/Machine/StCal.lean ====
section
/-!
DEFINITION. The state of the converters and Try-square that no register shows.
-/
namespace Sys2Proof.Machine

/-- An ADC slice (R178, Table 5.4): the phase it serves (0xFF none), its role, when it last came to serve no phase (an order, not a
time), the phase it served when it failed. Its corrections stand in its calibration set. -/
structure SliceSt where
  phase : Nat
  role : Nat
  since : Nat
  lost : Nat
  deriving DecidableEq, Repr

/-- A background step in a half-converter (R191, Table 5.4): the slice selected, the spare in shadow, handover trials failed, and once one of
them is on the calibration bus, which. -/
structure StepSt where
  sel : Nat
  spare : Nat
  fails : Nat
  onBus : Option Nat
  deriving DecidableEq, Repr

/-- A calibration set (R181, R188): its payload words, the time, REF_ID, Tj, CAL_VREF and CAL_FREF of its calibration, whether its base is
traceable, whether a foreground run made it (Table 5.8), and the words whose last result was taken while REF_BAD stood. An empty payload is the
NOMINAL one. -/
structure CalSet where
  words : List Nat := []
  time : Nat := 0
  refId : Nat := 0
  tj : Nat := 0
  vref : Nat := 0
  fref : Nat := 0
  base : Bool := true
  fg : Bool := false
  untr : List Nat := []
  deriving DecidableEq, Repr

/-- A row being written (R208): its set, index and words, and whether it is the retry. -/
structure RowWrite where
  set : Nat
  row : Nat
  words : List Nat
  retry : Bool
  deriving DecidableEq, Repr

/-- A CAL_COMMIT being carried out (R210): its command, whether it waits for the end of the slice steps in progress, the rows still to write, the one
being written, the results so far as set, row and status code. -/
structure CommitSt where
  run : Running
  waits : Bool
  todo : List (Nat × List Nat)
  cur : Option RowWrite
  done : List (Nat × Nat)
  deriving DecidableEq, Repr

/-- Converters (R178, R181, R190 to R203, R207, R208). The slices that differ from reset; a counter that orders spares; a pass running, when it began, the next slice index of
each half-converter; the steps in progress; the calibration sets; the live figures of the half-converters, mismatch and spur in −0.25 dB;
figures standing below their alarm; phases interpolated, as 64 × half-converter + phase; the foreground run, its kinds and figures; a
commit; a snapshot wanted and the CAL_QUALITY commands waiting for it; Tj at the last pass start (R190); the skew words and Tj that the skew
estimator starts from (R189); by 64 × half-converter + phase the mean-square difference and input of the last handover, and by slice the residual offset
of its last step 4 (R202); the slices that take back their phase at the next boundary (R197). -/
structure CnvSt where
  slices : Tab (Option SliceSt) := []
  order : Nat := 0
  pass : Bool := false
  passAt : Nat := 0
  cursor : Tab Nat := []
  steps : Tab (Option StepSt) := []
  sets : Tab CalSet := []
  figs : Tab (Nat × Nat) := []
  low : List (Nat × Nat) := []
  interp : List Nat := []
  fg : Option Running := none
  fgFigs : List Nat := []
  commit : Option CommitSt := none
  qTake : Bool := false
  qRuns : List Running := []
  passTj : Int := 0
  skew0 : List Nat := []
  skewTj : Int := 0
  diffs : Tab (Nat × Nat) := []
  resid : Tab Int := []
  rets : List Nat := []
  deriving DecidableEq, Repr

end Sys2Proof.Machine
end

