-- ==== Sys2Proof/Machine/StLine.lean ====
section
/-!
DEFINITION. The state of the line transmitter that no register shows: output bring-up, bias loops, lasers, plan loads and the
block split.
-/
namespace Sys2Proof.Machine

/-- A bias loop (R82): locked, consecutive dwells below the lock threshold, consecutive dwells above four times it, and
whether its DAC stands within 256 codes of an end. -/
structure LoopSt where
  locked : Bool := false
  good : Nat := 0
  bad : Nat := 0
  rail : Bool := false
  deriving DecidableEq, Repr

/-- A laser port (R84 to R88): soft resets tried in the recovery running, and whether one runs; the fine-tuning range the laser reports, the
offset in force and the one held, whether 100 ms since the last applied have not passed, and the last figures read from the laser. -/
structure LaserSt where
  tries : Nat := 0
  recov : Bool := false
  ftfr : Nat := 0
  ftf : Int := 0
  held : Option Int := none
  recent : Bool := false
  lf : Nat := 0
  oop : Nat := 0
  ctemp : Nat := 0
  statusW : Nat := 0
  deriving DecidableEq, Repr

/-- Line transmitter. Bring-up step of Table 2.8 (0 none, 1 sweep, 2 locking, 3 ramp); the LTX_OUTPUT command waiting for it;
the attenuator setting and the attenuation in force in 0.1 dB (R70, Table 2.8), and whether the drive is enabled; dither amplitude in 0.1 % and frequency in Hz (R79); a sweep in progress; the loop
being dithered; the width in ns of the strobe DSYNC while it is raised (R80); the loops; the laser ports; light at LAS_TX and LAS_LO (R20, R21); the line synthesiser's lock; plan loads
waiting for their matcher bounds, with their reply's payload (R225); the pilot gain in force (R64); the block-split accumulator (R58), the next FEC
block index of each subcarrier (R57, R221) and the superframes completed since the block order last restarted (R59). -/
structure LtxSt where
  bring : Nat := 0
  outRun : Option Running := none
  atten : Nat := 0
  attNow : Nat := 150
  drive : Bool := false
  ditherAmp : Nat := 5
  ditherHz : Nat := 16000
  sweeping : Bool := false
  loop : Nat := 0
  dsync : Option Nat := none
  loops : Tab LoopSt := []
  las : Tab LaserSt := []
  txLight : Bool := false
  loLight : Bool := false
  synthLocked : Bool := false
  loads : List Running := []
  pilot : Nat := 0
  acc : Nat := 0
  blk : Tab Nat := []
  sfs : Nat := 0
  deriving DecidableEq, Repr

end Sys2Proof.Machine
end

