-- ==== Sys2Proof/Machine/StMon.lean ====
section
/-!
DEFINITION. The state of Gauge that no register shows.
-/
namespace Sys2Proof.Machine

/-- A decimation chain (R558 to R560): its integrators and comb delays modulo 2^W, and the FIR's input words, newest first. -/
structure ChainSt where
  ints : List Nat := []
  combs : List Nat := []
  fir : List Int := []
  deriving DecidableEq, Repr

/-- A modulator (R553 to R564): the channel being converted; whether a step or burst runs, and whether its delay runs before it; the source
in force; words delivered in this step; words left to tag or discard after a restart; the PW and SEQ tags; whether a restart is due at the
next word boundary; its chain; and whether the next word queued carries LOST. -/
structure ModSt where
  ch : Option Nat := none
  active : Bool := false
  delay : Bool := false
  src : Nat := 0
  words : Nat := 0
  settle : Nat := 0
  pw : Nat := 0
  seq : Nat := 0
  restart : Bool := false
  chain : ChainSt := {}
  deriving DecidableEq, Repr

/-- Gauge: its modulators; the result queues, oldest first, with whether their next word carries LOST; the held ZERO measurement, as
channel, PGA code and z (R571); the system calibration running. -/
structure MonSt where
  mods : Tab ModSt := []
  queues : Tab (List Nat) := []
  lost : Tab Nat := []
  zero : Option (Nat × Nat × Int) := none
  cal : Option Running := none
  deriving DecidableEq, Repr

end Sys2Proof.Machine
end

