-- ==== Sys2Proof/Machine/StMux.lean ====
section
/-!
DEFINITION. The state of the FEC, framer and client blocks that no register shows.
-/
namespace Sys2Proof.Machine

/-- FEC. Codeword bits with non-zero soft input, their errors, uncorrectable blocks and matcher failures of the running second,
and the last two of the second before (R241, Table 6.6); the runs of seconds above the set threshold and at or below the clear
threshold; the subcarriers of the one-shot injection and those still to be corrupted (R243); the LLR gain in force (R229). -/
structure FecSt where
  secBits : Nat := 0
  secErrs : Nat := 0
  secUncorr : Nat := 0
  secDm : Nat := 0
  lastUncorr : Nat := 0
  lastDm : Nat := 0
  setRun : Nat := 0
  clrRun : Nat := 0
  shot : Nat := 0
  shotDue : Nat := 0
  gain : Nat := 16
  deriving DecidableEq, Repr

/-- A candidate alignment (R254 to R256): its offset modulo L_F, the offset from the start of its FEC block, whether it agrees, its
hit count, the N it opened with, whether it has completed. -/
structure Cand where
  off : Nat
  blk : Nat
  agree : Bool
  hits : Nat
  n : Nat
  done : Bool
  deriving DecidableEq, Repr

/-- A defect present: its code (R279), its layer, when it was declared. -/
structure Defect where
  code : Nat
  layer : Nat
  since : Nat
  deriving DecidableEq, Repr

/-- A layer (R261, R268, R269). The running second's BIP-8 violations, errored and far-end errored blocks; the last three STAT and the
last five BDI values, newest first; the trail trace being received, the one last received whole and in how many multiframes in a
row, the accepted one; consecutive bad and not bad seconds; the SES and far-end SES of the last ten seconds, newest first; whether
the layer and its far end are unavailable. -/
structure Layer where
  bipv : Nat := 0
  neb : Nat := 0
  feb : Nat := 0
  stats : List Nat := []
  bdis : List Bool := []
  tti : List Nat := []
  ttiCand : List Nat := []
  ttiRun : Nat := 0
  ttiAcc : Option (List Nat) := none
  badRun : Nat := 0
  goodRun : Nat := 0
  ses : List Bool := []
  fses : List Bool := []
  uas : Bool := false
  fuas : Bool := false
  deriving DecidableEq, Repr

/-- A performance record (R270): its second, FRAMES, and NEB, FEB, BIPV and flags of each layer; whether it is flagged missing (Table 14.4). -/
structure PmRec where
  time : Nat
  frames : Nat
  layers : List (List Nat)
  missing : Bool := false
  deriving DecidableEq, Repr

/-- An overhead channel (R272, R273): the receive and transmit slip buffers of whole channel frames, oldest first, the last frame
read from each, and the engine buffer's bytes each way. -/
structure OhSt where
  rx : List (List Nat) := []
  rxLast : List Nat := []
  tx : List (List Nat) := []
  txLast : List Nat := []
  rxEng : List Nat := []
  txEng : List Nat := []
  deriving DecidableEq, Repr

/-- Framer. The candidates and whether the resolution window is open; the in-frame offset, consecutive missed checks, when the frame
was lost; the last MFAS of slice 1, frames with and without the expected one in a row (R260); the defects present, those declared
in the running second; the layers; frames received in the second, EMUL counted in it and the block offset of the last emulation;
the records kept, newest first; the traces to send and expected of SM and PM; the MFAS of the next frame sent; BIP-8 violations per
slice of the last frame, sent back as BEI; the overhead channels; the frames sent; the BIP-8 of every slice of the last two frames sent and received,
newest first; the bytes that wait for the line timing channel. -/
structure FrmSt where
  cands : List Cand := []
  window : Bool := false
  inOff : Nat := 0
  miss : Nat := 0
  oofAt : Nat := 0
  mfas : Option Nat := none
  mfGood : Nat := 0
  mfBad : Nat := 0
  defects : List Defect := []
  seen : List (Nat × Nat) := []
  layers : Tab Layer := []
  frames : Nat := 0
  emulSec : Nat := 0
  recs : List PmRec := []
  ttiTx : Tab (List Nat) := []
  ttiExp : Tab (List Nat) := []
  txMfas : Nat := 0
  beiSm : List Nat := []
  beiPm : List Nat := []
  oh : Tab OhSt := []
  txFrames : Nat := 0
  txBip : List (List Nat) := []
  rxBip : List (List Nat) := []
  timeOut : List Nat := []
  deriving DecidableEq, Repr

/-- A tributary move (R311, R314): its channel, its new slots, its version, S, and whether it has been announced. -/
structure Move where
  ch : Nat
  slots : List Nat
  ver : Nat
  sf : Nat
  said : Bool
  deriving DecidableEq, Repr

/-- Client block. The pending move and the version of the last; the received map entries of each slot with how many multiframes in a
row each has come; the move held by the receiver with its pending map (R314), the version last seen; channels whose move came late
(R316); when each channel went down; the slip buffers of the CBR channels, oldest frame first, and the last frame read (R300); the 64B/66B blocks that
wait to be mapped, whether a packet runs in them, and the bits of a block begun (R294); the bits of a block demapped in part, with their marks; the
PRBS31 registers of TEST channels, sent and received (R281); the MFAS of the next replacement frame, by 2 × channel, and 1 more to the host (R302). -/
structure CliSt where
  move : Option Move := none
  ver : Nat := 0
  ent : Tab (Nat × Nat) := []
  rxMove : Option (Move × List Nat) := none
  rxVer : Option Nat := none
  late : List Nat := []
  downAt : Tab Nat := []
  ing : Tab (List (List Nat)) := []
  ingLast : Tab (List Nat) := []
  eg : Tab (List (List Nat)) := []
  egLast : Tab (List Nat) := []
  blocks : Tab (List (BitVec 66)) := []
  inPkt : Tab Bool := []
  inBits : Tab (List Bool) := []
  egBits : Tab (List (Bool × Bool)) := []
  prbsTx : Tab Nat := []
  prbsRx : Tab Nat := []
  ais : Tab Nat := []
  deriving DecidableEq, Repr

end Sys2Proof.Machine
end

