-- ==== Sys2Proof/Machine/StRef.lean ====
section
/-!
DEFINITION. The state of the timing references that no register shows.
-/
namespace Sys2Proof.Machine

/-- A REF_REALIGN waiting for its target instant (R462): its command and output mask. -/
structure Realign where
  run : Running
  mask : Nat
  deriving DecidableEq, Repr

/-- Timing references. Per candidate the offsets of its last 32 gates in 0.1 ppb, newest first (R438, R441), and the drift evaluations in
limit (R441); the candidates disqualified since they last qualified, as a mask (R442); the recorded DPLL frequencies, newest first,
the seconds LOCKED and the guard seconds left (R454); when CLAMP was entered (R458); the realignment waiting; the outputs of compatibility
alignment due to realign, as a mask, and how many of its pulses in a row stood out of the window (R463). -/
structure RefSt where
  gates : Tab (List Int) := []
  calm : Tab Nat := []
  again : Nat := 0
  hist : List Int := []
  lockedFor : Nat := 0
  guard : Nat := 0
  clampAt : Nat := 0
  realign : Option Realign := none
  compatDue : Nat := 0
  pulses : Tab Nat := []
  deriving DecidableEq, Repr

end Sys2Proof.Machine
end

