-- ==== Sys2Proof/Machine/StRx.lean ====
section
/-!
DEFINITION. The state of the line receiver and of plan adaptation that no register shows.
-/
namespace Sys2Proof.Machine

/-- A subcarrier's receiver (R113 to R136, R146). Consecutive superframes with PLM below threshold; the phase of a re-acquisition by
Table 3.4 (0 none, 1 PILOT for one superframe, 2 CMA, 3 PILOT, 4 PILOT of a plan change) and when it began; the burst guard's bypass and its run
of good windows (R130); the last training-word detections, newest first, and, in superframe lock, the boundary (R131), in symbols; the residual of the
last in kHz; the last costs of CMA, newest first; whether CMA is past its singularity check and the PILOT exit is met, and the updates of PILOT so far;
the sets hxx, hxy, hyx and hyy and the feedback sets, in 2^-30; the samples in the filters and the values fed back, newest first; the tracking phases
of X and Y in 2^-16 turns; the walk-off delay and its part by R119 in 1/64 sample, and whether R119 moves it; the pilots' unwrapped phases of X and Y
by pilot index, newest first, and the intervals that an output slip erased, with their polarisation (R151); the averages of R154 over both
polarisations, X and Y, in 2^-64; the live quality words of R156, and the phase error of the last pilot window in mrad; slips of the running
superframe. -/
structure ScSt where
  miss : Nat := 0
  phase : Nat := 0
  unlockAt : Nat := 0
  bypass : Bool := false
  goodWin : Nat := 0
  dets : List Nat := []
  bnd : Option Nat := none
  resid : Int := 0
  costs : List Nat := []
  cmaOk : Bool := false
  met : Bool := false
  upds : Nat := 0
  ff : List (List (Int × Int)) := []
  fb : List (List (Int × Int)) := []
  dx : List (Int × Int) := []
  dy : List (Int × Int) := []
  px : List (Int × Int) := []
  py : List (Int × Int) := []
  thX : Int := 0
  thY : Int := 0
  walk : Nat := 0
  trim : Int := 0
  adj : Bool := false
  pil : List (Int × Int × Int) := []
  erased : List (Int × Bool) := []
  avg : Option (Nat × Nat × Nat) := none
  snr : Nat := 0xFFFF
  snrX : Nat := 0xFFF
  snrY : Nat := 0xFFF
  margin : Nat := 0x8000
  phErr : Nat := 0
  phNow : Nat := 0
  slipOut : Nat := 0
  slipTrk : Nat := 0
  deriving DecidableEq, Repr

/-- A dispersion scan (R110): whether it is the fine one, the trials still to come, those evaluated with their metrics. -/
structure Scan where
  fine : Bool
  todo : List Int
  tried : List (Int × Nat)
  deriving DecidableEq, Repr

/-- Line receiver. The subcarriers; when the attempt began; whether a 1 ms pause runs (R134), the hold time has expired (R137),
DISP has ended since the last cold restart; the other kept coarse trial and the disagreements so far (R131); the scan; consecutive
failed attempts; the gains of the four channels in 0.25 dB (R102); the gain correction in 0.01 dB and the phase correction in 2^-16 turns of X and of
Y (R101); the timing loop's integrator in 2^-64 symbols per symbol and its phase in 2^-32 symbols (R115); the frequency loop's integrators, of
frequency in 2^-16 Hz and of its rate per update (R144); the last timing integrator values (R117) and carrier windows (R147), newest first; consecutive
windows with loss (R148); consecutive superframes with the training word missed; with the mean residual beyond its limit (R114); the centre of the
coarse shift in kHz (R145); the SF_NUM of the superframe being received; LLRs released; the restart a freeze suppresses (R138). The block order
(R57 to R59): accumulator, blocks taken by subcarrier, superframes begun since the restart.
The receive plan: active identifier, the one before, the armed one with its target, one to switch to late (R78), the announcement
last found unknown; superframes of verification left, whether ROLLBACK_REQ was sent, uncorrectable blocks in it; the order of use
of table entries, oldest first. MARGIN_LOW raised and not re-enabled; the live and the snapshot line margin; the far SNRs live, and as the last report gave them;
a quality copy under way and the LRX_QUALITY commands waiting for one; UNCORR and DMFAIL increments of the superframe by
subcarrier; UNCORR since the last report; superframes lost (R78); adaptation messages discarded. -/
structure LrxSt where
  scs : Tab ScSt := []
  attemptAt : Nat := 0
  pause : Bool := false
  expired : Bool := false
  dHeld : Bool := false
  other : Option Int := none
  mism : Nat := 0
  scan : Option Scan := none
  fails : Nat := 0
  agc : List Nat := []
  iq : List (Int × Int) := []
  timInt : Int := 0
  timPh : Int := 0
  crInt : Int := 0
  crRate : Int := 0
  tim : List Int := []
  crWin : List (Int × Bool) := []
  crBad : Nat := 0
  sfMiss : Nat := 0
  cdRun : Nat := 0
  coarse : Int := 0
  sfNum : Nat := 0
  llr : Bool := false
  suppressed : Option Nat := none
  acc : Nat := 0
  blk : Tab Nat := []
  sfs : Nat := 0
  act : Nat := 0
  prev : Option Nat := none
  armed : Option (Nat × Nat) := none
  late : Option Nat := none
  unknown : Option (Nat × Nat) := none
  verif : Nat := 0
  rollSent : Bool := false
  verUncorr : Nat := 0
  lru : List Nat := []
  lowRaised : Bool := false
  margin : Nat := 0x8000
  bankMargin : Nat := 0x8000
  far : Tab Nat := []
  farNow : Tab Nat := []
  qTake : Bool := false
  qRuns : List Running := []
  uncorrSF : Tab Nat := []
  dmSF : Tab Nat := []
  uncorrRep : Nat := 0
  sfLost : Nat := 0
  adaptDrop : Nat := 0
  deriving DecidableEq, Repr

/-- An SNR report as the transmitter keeps it (R161): plan, SNRs by subcarrier, line margin. -/
structure Report where
  plan : Nat
  snr : List Nat
  margin : Nat
  deriving DecidableEq, Repr

/-- An outstanding offer (R160, R162): SEQ, identifier, entry words, margin in 0.1 dB, resends so far. -/
structure Offer where
  seq : Nat
  id : Nat
  words : List Nat
  m : Nat
  resends : Nat
  deriving DecidableEq, Repr

/-- Adaptation of the transmit direction (R157 to R172). The latest report, while fresh; consecutive reports below LOW, and with the
improvement of R165; whether a short result has been reported since; the last identifier assigned; the outstanding offer; the SEQ
of the next; back-off running; a committed offer not yet applied; the verification window running; when a change was last applied;
rollback requests ignored; the plan before the last change with its words; when the back-off began; a plan to return to once the
pending change has taken effect (R169); whether reports have stopped (R171); the bytes that wait for the adaptation channel. -/
structure AdaptSt where
  report : Option Report := none
  lowRun : Nat := 0
  impRun : Nat := 0
  shortSaid : Bool := false
  lastId : Nat := 254
  offer : Option Offer := none
  nextSeq : Nat := 0
  backoff : Bool := false
  committed : Bool := false
  verify : Bool := false
  appliedAt : Option Nat := none
  ignored : Nat := 0
  prevId : Nat := 0
  prevWords : List Nat := []
  backoffAt : Nat := 0
  rollTo : Option (Nat × List Nat) := none
  silent : Bool := false
  out : List Nat := []
  deriving DecidableEq, Repr

end Sys2Proof.Machine
end

