-- ==== Sys2Proof/Machine/StScr.lean ====
section
/-!
DEFINITION. The state of Scribe that no register shows.
-/
namespace Sys2Proof.Machine

/-- A device heard (R418, R422, R424): its identifier, when and at what level it was last heard, whether it passed the identity
check, and its last HELLO: allowed modes, state, LOCKED, excluded modes and key-page mask, and the digest over it. -/
structure ScrPeer where
  id : Nat
  heardAt : Nat
  level : Nat
  passed : Bool
  modes : Nat
  state : Nat
  locked : Bool
  excl : Nat
  pages : List Nat
  hello : List Nat
  deriving DecidableEq, Repr

/-- A KEX (R421): its SEQ, ephemeral public key, nonce, and whether its signature verifies. -/
structure ScrKex where
  seq : Nat
  pub : List Nat
  nonce : List Nat
  sigOk : Bool
  deriving DecidableEq, Repr

/-- A message whose reply has not arrived (R416): the TYPE awaited, the message's SEQ, TYPE and content, and its resends so far. -/
structure ScrWait where
  want : Nat
  seq : Nat
  typ : Nat
  body : List Nat
  tries : Nat := 0
  deriving DecidableEq, Repr

/-- Scribe. Whether the hold-off of R414 has passed; whether the beacon is lit, or its bring-up runs, and whether Scribe lit TX_OUT
(R407, R426); the last SEQ sent; the level of the packet being received; devices heard; identifiers ignored, each until a tick (R418);
the selection window, its authenticated peers, and identifiers reported since selection (R419); the allow-list (R422); KEX held
(R423); replies given, by the SEQ they answer; the message awaiting a reply; the excluded modes (R427); the own ephemeral key and nonce and
whether the peer's KEX has passed; the agreed mode and LTX_SHAPE word and the pages keyed; the page being rotated and when each page last
was (R430); keys sent, as page, slot, and whether GO waits for its transmission's end; when BEACON was left. -/
structure ScrSt where
  free : Bool := false
  beacon : Bool := false
  lighting : Bool := false
  litBy : Bool := false
  seq : Nat := 0
  rx : Option Nat := none
  peers : List ScrPeer := []
  banned : List (Nat × Nat) := []
  window : Bool := false
  cands : List Nat := []
  told : List Nat := []
  trust : List Nat := []
  heldKex : List (Nat × ScrKex) := []
  replies : Tab (List Nat) := []
  wait : Option ScrWait := none
  excl : Nat := 0
  ephem : Nat := 0
  nonce : List Nat := []
  kexIn : Bool := false
  mode : Nat := 0
  shape : Nat := 0
  pages : List Nat := []
  rot : Option Nat := none
  rotAt : Tab (Option Nat) := []
  keysOut : List (Nat × Nat) := []
  ackSeq : Nat := 0
  goDue : Bool := false
  leftAt : Nat := 0
  deriving DecidableEq, Repr

end Sys2Proof.Machine
end

