-- ==== Sys2Proof/Machine/StSrd.lean ====
section
/-!
DEFINITION. The state of the serial lanes that no register shows.
-/
namespace Sys2Proof.Machine

/-- An eye scan (R339): its lane, eye, whether it is a quick scan, d, t and its command. -/
structure EyeScan where
  lane : Nat
  eye : Nat
  quick : Nat
  d : Nat
  t : Nat
  run : Running
  deriving DecidableEq, Repr

/-- An 8b/10b group (R330 to R337), Mitre or Batten, masks by lane within the group. The lanes the local receiver can use; missed
ALIGNs in a row of each lane; consecutive aligned periods and whether the group is up; consecutive periods in which the far GOOD
differed from the transmit ACTIVE; the NEXT being announced with its periods so far; periods since the last width change; the SEQ
of the next ALIGN sent; the lanes that have left and not rejoined each direction; the NEXT the far end announces with its periods so far. -/
structure GrpSt where
  good : Nat := 0
  missed : List Nat := [0, 0, 0, 0]
  aligned : Nat := 0
  up : Bool := false
  diff : Nat := 0
  next : Option (Nat × Nat) := none
  since : Nat := 4
  seq : Nat := 0
  lostTx : Nat := 0
  lostRx : Nat := 0
  farNext : Option (Nat × Nat) := none
  deriving DecidableEq, Repr

/-- Serial lanes (R323 to R337): the two groups, the scans running, the width and height last scanned of each eye (keyed 4 × lane + eye). -/
structure SrdSt where
  mitre : GrpSt := {}
  batten : GrpSt := {}
  scans : List EyeScan := []
  eyes : Tab (Nat × Nat) := []
  deriving DecidableEq, Repr

end Sys2Proof.Machine
end

