-- ==== Sys2Proof/Machine/StVnr.lean ====
section
/-!
DEFINITION. The state of the Veneer cipher that no register shows.
-/
namespace Sys2Proof.Machine

/-- A key generation of a slot (R351, R364, R379): its GEN, key and salt words, the next inline SEQ, the next lookaside count, whether
KEY_AGE has been raised for each count and KEY_EXHAUSTED for the inline one, and per channel one more than the last verified SEQ. -/
structure KeyGen where
  gen : Nat
  key : List Nat
  salt : Nat
  seq : Nat := 0
  la : Nat := 0
  aged : Bool := false
  agedLa : Bool := false
  spent : Bool := false
  rx : Tab Nat := []
  deriving DecidableEq, Repr

/-- A key slot: its current and its retained generation (R370, R374), and superframes left of RX_USE. -/
structure KeySlot where
  cur : Option KeyGen := none
  ret : Option KeyGen := none
  use : Nat := 0
  deriving DecidableEq, Repr

/-- The scheduled changes of one S (R373): S, the batch number, the pages that switch, the pages whose current slot is rewritten. -/
structure Batch where
  sf : Nat
  num : Nat
  switch : List Nat
  rewrite : List Nat
  deriving DecidableEq, Repr

/-- A lookaside request in flight (R381): its command, operation, page, slot and generation with its key, the lengths of its additional
data and data, destination, nonce and tag. -/
structure LaReq where
  run : Running
  op : Nat
  page : Nat
  slot : Nat
  gen : Nat
  key : List Nat
  aad : Nat
  len : Nat
  dest : Nat
  nonce : List Nat
  tag : List Nat
  deriving DecidableEq, Repr

/-- Veneer (R351, R370 to R386, R391). The key slots, keyed 2 × page + slot; the pending batch and the number of the last; the batch number last announced by the
far end and, per page, the one KEY_UNKNOWN was raised for; the lookaside requests in flight, oldest first; whether VNR_DEGRADED has
been raised for the present shortage. -/
structure VnrSt where
  slots : Tab KeySlot := []
  batch : Option Batch := none
  num : Nat := 0
  rxNum : Nat := 0
  unknown : Tab Nat := []
  las : List LaReq := []
  short : Bool := false
  deriving DecidableEq, Repr

end Sys2Proof.Machine
end

