-- ==== Sys2Proof/Machine/State.lean ====
section
/-!
DEFINITION. The machine's state as plain data, the reasons a step can stop, and the state after reset.
-/
namespace Sys2Proof.Machine

/-- The whole state. `regs` is the register file: every field of every register that the tables of the chapters name, under
the key of `Fld.key`, unlisted fields at their reset values. `cnts` and `wraps` are the live counters and wrap sticky bits
(R578, R580), `bank` and `bankWraps` the register bank (R582), `snapGen` the snapshot generation count (R581). `out` holds
what the block has sent, newest first. `tick` is the free-running local count in TIM ticks of 1.28 ns. `draws` is the
model's own count of free values taken. The other fields are the blocks' state that no register shows. -/
structure State where
  pending : List Instr := []
  regs : Tab Nat := []
  cnts : Tab Nat := []
  wraps : Tab Nat := []
  bank : Tab Nat := []
  bankWraps : Tab Nat := []
  snapGen : Nat := 0
  out : List Output := []
  tick : Nat := 0
  draws : Nat := 0
  fuse : Fuses := {}
  sys : SysSt := {}
  obs : ObsSt := {}
  cmd : CmdSt := {}
  eng : EngSt := {}
  tod : TodSt := {}
  pair : PairSt := {}
  sec : SecSt := {}
  pwr : PwrSt := {}
  ltx : LtxSt := {}
  lrx : LrxSt := {}
  adapt : AdaptSt := {}
  cnv : CnvSt := {}
  fec : FecSt := {}
  frm : FrmSt := {}
  cli : CliSt := {}
  vnr : VnrSt := {}
  srd : SrdSt := {}
  scr : ScrSt := {}
  ref : RefSt := {}
  mon : MonSt := {}
  deriving DecidableEq, Repr

/-- The reasons a step can fault. The spec has no command that stops the block, so there is none. -/
inductive Fault where
  deriving DecidableEq, Repr

/-- The reasons a step can be refused. -/
inductive Refusal where
  /-- Raised by the dispatcher for a command that has no meaning yet. Safe: nothing is claimed of it. -/
  | notModelled (mnemonic : String)
  deriving DecidableEq, Repr

/-- The state right after reset. -/
def State.reset : State := {}

end Sys2Proof.Machine
end

