-- ==== Sys2Proof/Machine/Ops.lean ====
section
/-!
DEFINITION. The operations every meaning is built from: reading and writing register fields, counting, raising events with
their status bits, queue entries, records and triggers, interrupt messages, and the updates a meaning is a list of.
-/
namespace Sys2Proof.Machine
open Sys2Proof

/-! ### Registers, time, counters -/

/-- The value of field `f` of instance `i`. -/
def State.rd (s : State) (f : Fld) (i : Nat := 0) : Nat := Tab.get (f.dflt i) s.regs (f.key i)

/-- The value of field `f` of instance `i` as the number it stands for. -/
def State.rdI (s : State) (f : Fld) (i : Nat := 0) : Int := f.int (s.rd f i)

/-- Whether the one-bit field `f` of instance `i` is 1. -/
def State.on (s : State) (f : Fld) (i : Nat := 0) : Bool := s.rd f i == 1

/-- The state with field `f` of instance `i` at `v`, cut to the field's width. -/
def State.wr (s : State) (f : Fld) (i v : Nat) : State :=
  { s with regs := Tab.set (f.dflt i) s.regs (f.key i) (v % 2 ^ f.width) }

/-- A free value of sort `kind`: the next one not yet taken. -/
def State.free (s : State) (kind : Nat) : Nat := Config.freeValue kind s.draws

/-- Whether TOD_STATUS.VALID is 1. -/
def State.todValid (s : State) : Bool := s.on TOD_STATUS.VALID

/-- The free-running local count since reset, in nanoseconds: 1.28 ns a tick (Table 1.2). -/
def State.freeNs (s : State) : Nat := s.tick * 32 / 25

/-- The time-of-day count in nanoseconds. -/
def State.todNs (s : State) : Nat := s.tod.sec * 1000000000 + s.tod.ns

/-- The time a raise, record or dump carries (R705): the time of day while VALID is 1, else the free-running count. -/
def State.nowNs (s : State) : Nat := if s.todValid then s.todNs else s.freeNs

/-- FREE_RUN: 1 while the free-running count stands in for the time of day. -/
def State.freeRun (s : State) : Nat := b2n (!s.todValid)

/-- Adds an occurrence of what event `e` of instance `inst` reports (R725). -/
def State.occur (s : State) (e : Ev) (inst : Nat) (minute : Bool) (item : List Nat) : State :=
  { s with obs := { s.obs with occ := s.obs.occ ++ [⟨e.id, inst, minute, item⟩] } }

/-- The live value of counter `j`. -/
def State.cnt (s : State) (j : Nat) : Nat := Tab.get 0 s.cnts j

/-- Counter `j` counts `n` more (R578, R580): modulo 2^48, with its wrap sticky bit set and the wrap noted for CNT_WRAP where
it passes 2^48 − 1. -/
def State.count (s : State) (j n : Nat) : State :=
  let v := s.cnt j + n
  let s := { s with cnts := Tab.set 0 s.cnts j (v % 2 ^ 48) }
  if v < 2 ^ 48 then s else { s with wraps := Tab.set 0 s.wraps j 1 }.occur EV.CNT_WRAP 0 false [j]

/-- Counter `j` is preset to `v` (R584). -/
def State.preset (s : State) (j v : Nat) : State := { s with cnts := Tab.set 0 s.cnts j (v % 2 ^ 48) }

/-- The generation the next snapshot produces (R581). -/
def State.nextGen (s : State) : Nat := (s.snapGen + 1) % 2 ^ 16

/-- A snapshot of any kind: the generation count steps (R581). -/
def State.snap (s : State) : State := { s with snapGen := s.nextGen }

/-- A snapshot that replaces the register bank (R582). -/
def State.snapBank (s : State) : State :=
  let s := s.snap
  { s with bank := s.cnts, bankWraps := s.wraps }.wr OBS_SNAP.GEN 0 s.snapGen

/-! ### Interrupts -/

/-- The status and enable fields of block `b` (R700). -/
def intPairs (b : Nat) : List (Fld × Fld) :=
  match b with
  | 0 => [(SYS_INT_STAT.ALL, SYS_INT_EN.ALL)]
  | 1 => [(LTX_INT_STAT.ALL, LTX_INT_EN.ALL)]
  | 2 => [(LRX_INT_STAT.ALL, LRX_INT_EN.ALL), (LRX_CR_INT_STAT.ALL, LRX_CR_INT_EN.ALL)]
  | 3 => [(CNV_INT_STAT.ALL, CNV_INT_EN.ALL)]
  | 4 => [(FEC_INT_STAT.ALL, FEC_INT_EN.ALL)]
  | 5 => [(FRM_INT_STAT.ALL, FRM_INT_EN.ALL)]
  | 6 => [(CLI_INT_STAT.ALL, CLI_INT_EN.ALL)]
  | 7 => [(SRD_INT_STAT.ALL, SRD_INT_EN.ALL)]
  | 8 => [(VNR_INT_STAT.ALL, VNR_INT_EN.ALL)]
  | 9 => [(SCR_INT_STAT.ALL, SCR_INT_EN.ALL)]
  | 10 => [(REF_INT_STAT.ALL, REF_INT_EN.ALL)]
  | 11 => [(TOD_INT_STAT.ALL, TOD_INT_EN.ALL)]
  | 12 => [(PAIR_INT_STAT.ALL, PAIR_INT_EN.ALL)]
  | 13 => [(MON_INT_STAT.ALL, MON_INT_EN.ALL)]
  | 14 => [(OBS_INT_STAT.ALL, OBS_INT_EN.ALL)]
  | 15 => [(ENG_INT_STAT.ALL, ENG_INT_EN.ALL)]
  | 16 => [(SEC_INT_STAT.ALL, SEC_INT_EN.ALL)]
  | 17 => [(PWR_INT_STAT.ALL, PWR_INT_EN.ALL)]
  | 18 => [(CMD_INT_STAT.ALL, CMD_INT_EN.ALL)]
  | _ => []

/-- The block whose window a register lies in (R676). -/
def Fld.block (f : Fld) : Nat := f.off / 0x100000

/-- Bit `b` of SYS_INT_SUM (R700). -/
def State.sumBit (s : State) (b : Nat) : Bool := (intPairs b).any (fun p => s.rd p.1 &&& s.rd p.2 != 0)

/-- SYS_INT_SUM. -/
def State.intSum (s : State) : Nat := ((List.range 19).filter (fun b => s.sumBit b)).foldl (fun a b => a + 2 ^ b) 0

/-- Whether a message on vector `v` is sent rather than left pending (R702). -/
def State.vecOpen (s : State) (v : Nat) : Bool := s.sys.msixEn && !s.sys.fnMask && !s.on MSIX_CTRL.MASK v

/-- A message falls due on vector `v` (R702): sent, or its pending bit set. -/
def State.signal (s : State) (v : Nat) : State :=
  if s.vecOpen v then { s with out := .msix v :: s.out }
  else s.wr MSIX_PBA.ALL 0 (setBit (s.rd MSIX_PBA.ALL) v)

/-- Block `b` signals its vector (R701). -/
def State.signalBlock (s : State) (b : Nat) : State := s.signal (s.rd SYS_INT_VEC.VEC b)

/-- Sets the bits of `mask` in status field `f`; a summary bit that goes from 0 to 1 is signalled (R699, R701). -/
def State.setStat (s : State) (f : Fld) (mask : Nat) : State :=
  let s' := s.wr f 0 (s.rd f ||| mask)
  if !s.sumBit f.block && s'.sumBit f.block then s'.signalBlock f.block else s'

/-- After a write to block `b`'s INT_STAT, INT_EN or vector: the summary bit left at 1 is signalled (R701). -/
def State.resignal (s : State) (b : Nat) : State := if s.sumBit b then s.signalBlock b else s

/-! ### Event queue and records -/

/-- Signals the queue's vector, at most once per COAL (R704). -/
def State.signalQueue (s : State) : State :=
  if s.rd SYS_EQ_CFG.COAL == 0 then s.signal (s.rd SYS_EQ_CFG.VEC)
  else if s.sys.coalOpen then { s with sys := { s.sys with coalDue := true } }
  else ({ s with sys := { s.sys with coalOpen := true } }).signal (s.rd SYS_EQ_CFG.VEC)

/-- The entries of an event queue: 2^DEPTH (R704). -/
def State.eqDepth (s : State) : Nat := 2 ^ s.rd SYS_EQ_CFG.DEPTH

/-- Places an entry in the event queue (R704 to R706), the raising device's address, identifier, flags, ESEQ, time and
payload given. -/
def State.enqueue (s : State) (addr id flags eseq time : Nat) (pay : List Nat) : State :=
  if !s.on SYS_EQ_CFG.EN then { s with sys := { s.sys with eqLost := true } }
  else if s.eqDepth ≤ s.rd SYS_EQ_STAT.LEVEL then
    let s := { s with sys := { s.sys with eqLost := true } }
    (s.wr SYS_EQ_STAT.LOST 0 (sat 65535 (s.rd SYS_EQ_STAT.LOST + 1))).setStat SYS_INT_STAT.ALL (2 ^ 16)
  else
    let prod := s.rd SYS_EQ_PROD.ALL
    let word0 := id + 65536 * addr + 16777216 * (flags % 8 + 8 * b2n s.sys.eqLost)
    let words := word0 :: eseq :: (w64 time ++ (pay ++ List.replicate 12 0).take 12)
    let s := { s with out := .eqEntry (prod % s.eqDepth) words :: s.out, sys := { s.sys with eqLost := false } }
    let s := (s.wr SYS_EQ_PROD.ALL 0 (prod + 1)).wr SYS_EQ_STAT.LEVEL 0 (s.rd SYS_EQ_STAT.LEVEL + 1)
    { s with out := .host (s.rd SYS_EQ_WB.ALL) [s.rd SYS_EQ_PROD.ALL] :: s.out }.signalQueue

/-- A packet on Batten (R630): its prefix, its body in bytes, laid on the lanes of the transmitter's ACTIVE. -/
def State.batten (s : State) (dst src ring typ : Nat) (body : List Nat) : Output :=
  .batten dst src ring typ body (layPacket (bitsSet 2 (s.rd SRD_GRP_STAT.BATTEN_TX)).length ([dst, src, ring, typ] ++ body.flatMap wordBytes))

/-- Routes an event to the queue (R587, R705): ESEQ steps whether or not the entry reaches it; a device of the ring that is
not the head sends it to address 0 (R630). -/
def State.queueEvent (s : State) (id cls : Nat) (pay : List Nat) : State :=
  let eseq := s.sys.eseq
  let flags := cls + 4 * s.freeRun
  let s := { s with sys := { s.sys with eseq := (eseq + 1) % 2 ^ 32 } }
  let own := s.rd CMD_BAT_STAT.ADDR
  if s.rd CMD_BAT_STAT.HEAD == 0 && own != 0x7F then
    { s with out := s.batten 0 own 0 2 (id :: flags :: eseq :: (w64 s.nowNs ++ pay.take 12)) :: s.out }
  else s.enqueue (if own == 0x7F then 0 else own) id flags eseq s.nowNs pay

/-- The bytes a record takes in staging: its header and its body (R598). -/
def Rec.bytes (r : Rec) : Nat := 16 + 4 * r.body.length

/-- The staging area in bytes: the HBM that soft capture and the sandbox do not take (R593, R638). -/
def State.staging (s : State) : Nat := (48 - s.rd OBS_CAP_CFG.SOFT_GB - s.rd ENG_SBX_CFG.HBM_GB) * 1000000000

/-- The staged bytes. -/
def State.staged (s : State) : Nat := (s.obs.recs.map Rec.bytes).foldl (· + ·) 0

/-- Whether some drive takes segments (R603). -/
def State.driveOk (s : State) : Bool := s.rd OBS_REC_STAT.DRIVES_OK != 0

/-- Whether the recorder writes records: enabled, and the HBM out of reset and not in self-refresh (R604, Table 18.13). -/
def State.recording (s : State) : Bool := s.on OBS_REC_CFG.EN && s.rd CMD_STATUS.STATE != 0 && decide (s.rd PWR_STATUS.STATE < 3)

/-- The staged records with the oldest overwritten until `room` bytes more fit. -/
def dropOldest (room : Nat) : List Rec → List Rec
  | [] => []
  | r :: rs => if (((r :: rs).map Rec.bytes).foldl (· + ·) 0) ≤ room then r :: rs else dropOldest room rs

/-- Writes a record (R598, R603): RSEQ steps for every record; with drives present and staging full it is discarded and
counted at index 64; with no drive the oldest are overwritten. -/
def State.record (s : State) (typ flags : Nat) (body : List Nat) : State :=
  if !s.recording then s else
  let rseq := (s.rd OBS_REC_RSEQ.ALL + 1) % 2 ^ 32
  let r : Rec := ⟨typ, flags + s.freeRun, rseq, s.nowNs, body⟩
  let s := s.wr OBS_REC_RSEQ.ALL 0 rseq
  if s.staged + r.bytes ≤ s.staging then { s with obs := { s.obs with recs := s.obs.recs ++ [r] } }
  else if s.driveOk then
    let from0 := match s.obs.lost with | some (a, _) => a | none => rseq
    { s with obs := { s.obs with lost := some (from0, rseq) } }.count 64 1
  else { s with obs := { s.obs with recs := dropOldest (s.staging - r.bytes) s.obs.recs ++ [r] } }

/-! ### Events -/

/-- Raises event `e` with its payload words (R579, R587, R699): its counter, its status bit, the queue, the record, the
trigger input. -/
def State.raise (s : State) (e : Ev) (pay : List Nat) : State :=
  let pay := pay.map (· % 2 ^ 32)
  let cls := evClass e.x
  let s := s.count (1024 + e.x) 1
  let s := match e.bit with | some b => s.setStat e.stat (2 ^ b) | none => s
  let s := if s.on OBS_EVT_ROUTE.Q e.x then s.queueEvent e.id cls pay else s
  let s := if s.on OBS_EVT_ROUTE.REC e.x then s.record 1 0 (e.id :: cls :: pay) else s
  if s.on OBS_EVT_ROUTE.TRIG_EN e.x then
    { s with obs := { s.obs with trigDue := s.obs.trigDue ++ [s.rd OBS_EVT_ROUTE.TRIG e.x] } }
  else s

/-! ### Updates -/

/-- The updates a meaning is made of. Every command's effect is a list of them. -/
inductive Upd where
  /-- a field of an instance takes a value -/
  | put (f : Fld) (i v : Nat)
  /-- an event is raised -/
  | raise (e : Ev) (pay : List Nat)
  /-- an occurrence is noted for the end of the second or minute -/
  | occur (e : Ev) (inst : Nat) (minute : Bool) (item : List Nat)
  /-- status bits are set without an event -/
  | stat (f : Fld) (mask : Nat)
  /-- a block's summary is signalled again where it stays 1 -/
  | resignal (b : Nat)
  /-- a message falls due on a vector -/
  | signal (v : Nat)
  /-- an entry raised by another device of the ring is placed in the event queue -/
  | enqueue (addr id flags eseq time : Nat) (pay : List Nat)
  /-- a counter counts -/
  | count (j n : Nat)
  /-- a counter is preset -/
  | preset (j v : Nat)
  /-- the live wrap sticky bits of the listed counters clear -/
  | unwrap (js : List Nat)
  /-- a snapshot that leaves the register bank -/
  | snap
  /-- a snapshot that replaces the register bank -/
  | snapBank
  /-- a record is written -/
  | record (typ flags : Nat) (body : List Nat)
  /-- something is sent -/
  | emit (o : Output)
  /-- a free value has been taken -/
  | drawn
  /-- one tick of the free-running count -/
  | tick
  /-- the registers with BAR0 offsets in `[lo, hi)` go to their reset values -/
  | clearRegs (lo hi : Nat)
  /-- the counters with indices in `[lo, hi)` and their wrap bits go to 0 -/
  | clearCnts (lo hi : Nat)
  /-- the bank, the snapshot count and the free-running count go to their reset values -/
  | clearTime
  | fuse (g : Fuses → Fuses)
  | sys (g : SysSt → SysSt)
  | obs (g : ObsSt → ObsSt)
  | cmd (g : CmdSt → CmdSt)
  | eng (g : EngSt → EngSt)
  | tod (g : TodSt → TodSt)
  | pair (g : PairSt → PairSt)
  | sec (g : SecSt → SecSt)
  | pwr (g : PwrSt → PwrSt)
  | ltx (g : LtxSt → LtxSt)
  | lrx (g : LrxSt → LrxSt)
  | adapt (g : AdaptSt → AdaptSt)
  | cnv (g : CnvSt → CnvSt)
  | fec (g : FecSt → FecSt)
  | cli (g : CliSt → CliSt)
  | vnr (g : VnrSt → VnrSt)
  | srd (g : SrdSt → SrdSt)
  | frm (g : FrmSt → FrmSt)
  | scr (g : ScrSt → ScrSt)
  | ref (g : RefSt → RefSt)
  | mon (g : MonSt → MonSt)

/-- What one update does to the state. -/
def Upd.apply : Upd → State → State
  | .put f i v, s => s.wr f i v
  | .raise e p, s => s.raise e p
  | .occur e i m it, s => s.occur e i m it
  | .stat f m, s => s.setStat f m
  | .resignal b, s => s.resignal b
  | .signal v, s => s.signal v
  | .enqueue a i f q t p, s => s.enqueue a i f q t p
  | .count j n, s => s.count j n
  | .preset j v, s => s.preset j v
  | .unwrap js, s => { s with wraps := s.wraps.filter (fun e => !js.contains e.1) }
  | .snap, s => s.snap
  | .snapBank, s => s.snapBank
  | .record t f b, s => s.record t f b
  | .emit o, s => { s with out := o :: s.out }
  | .drawn, s => { s with draws := s.draws + 1 }
  | .tick, s => { s with tick := s.tick + 1 }
  | .clearRegs lo hi, s => { s with regs := s.regs.filter (fun e => decide (keyOff e.1 < lo ∨ hi ≤ keyOff e.1)) }
  | .clearCnts lo hi, s => { s with cnts := Tab.drop s.cnts lo hi, wraps := Tab.drop s.wraps lo hi }
  | .clearTime, s => { s with bank := [], bankWraps := [], snapGen := 0, tick := 0 }
  | .fuse g, s => { s with fuse := g s.fuse }
  | .sys g, s => { s with sys := g s.sys }
  | .obs g, s => { s with obs := g s.obs }
  | .cmd g, s => { s with cmd := g s.cmd }
  | .eng g, s => { s with eng := g s.eng }
  | .tod g, s => { s with tod := g s.tod }
  | .pair g, s => { s with pair := g s.pair }
  | .sec g, s => { s with sec := g s.sec }
  | .pwr g, s => { s with pwr := g s.pwr }
  | .ltx g, s => { s with ltx := g s.ltx }
  | .lrx g, s => { s with lrx := g s.lrx }
  | .adapt g, s => { s with adapt := g s.adapt }
  | .cnv g, s => { s with cnv := g s.cnv }
  | .fec g, s => { s with fec := g s.fec }
  | .cli g, s => { s with cli := g s.cli }
  | .vnr g, s => { s with vnr := g s.vnr }
  | .srd g, s => { s with srd := g s.srd }
  | .frm g, s => { s with frm := g s.frm }
  | .scr g, s => { s with scr := g s.scr }
  | .ref g, s => { s with ref := g s.ref }
  | .mon g, s => { s with mon := g s.mon }

/-- The updates applied in order. -/
def run (us : List Upd) (s : State) : State := us.foldl (fun s u => u.apply s) s

/-- An effect: the updates it makes in a given state. -/
abbrev Eff := State → List Upd

/-- The state an effect leaves. -/
def Eff.act (e : Eff) (s : State) : State := run (e s) s

/-- The outcome of a command. -/
abbrev Out := Host.Outcome State Fault Refusal

/-- A command whose effect is `e` runs to the next state that its updates give. -/
def perform (e : Eff) (s : State) : Out := .next (e.act s)

/-- No effect. -/
def nop : Eff := fun _ => []

/-- One update. -/
def upd (u : Upd) : Eff := fun _ => [u]

/-- `a`, then `b` in the state `a` leaves. -/
def Eff.andThen (a b : Eff) : Eff := fun s => let us := a s; us ++ b (run us s)

/-- The effects one after the other, each in the state the one before leaves. -/
def seqE : List Eff → Eff
  | [] => nop
  | e :: es => Eff.andThen e (seqE es)

/-- `f` for each element in turn. -/
def forE {α : Type} (xs : List α) (f : α → Eff) : Eff := seqE (xs.map f)

/-- An effect chosen by looking at the state it acts on. -/
def dyn (g : State → Eff) : Eff := fun s => g s s

/-- `e` where `c` holds, else nothing. -/
def whenE (c : Bool) (e : Eff) : Eff := if c then e else nop

def put (f : Fld) (v : Nat) (i : Nat := 0) : Eff := upd (.put f i v)
def putI (f : Fld) (z : Int) (i : Nat := 0) : Eff := upd (.put f i (f.pat z))
def putB (f : Fld) (b : Bool) (i : Nat := 0) : Eff := upd (.put f i (b2n b))
def raise (e : Ev) (pay : List Nat) : Eff := upd (.raise e pay)
def occur (e : Ev) (inst : Nat) (item : List Nat) : Eff := upd (.occur e inst false item)
def occurMin (e : Ev) (inst : Nat) (item : List Nat) : Eff := upd (.occur e inst true item)
def stat (f : Fld) (b : Nat) : Eff := upd (.stat f (2 ^ b))
def count (j : Nat) (n : Nat := 1) : Eff := upd (.count j n)
def emit (o : Output) : Eff := upd (.emit o)
def record (typ : Nat) (body : List Nat) : Eff := upd (.record typ 0 body)
def drawn : Eff := upd .drawn

/-- A saturating field counts `n` more. -/
def bump (f : Fld) (n : Nat := 1) (i : Nat := 0) : Eff := fun s => [.put f i (sat (2 ^ f.width - 1) (s.rd f i + n))]

/-- The raw value of field `f` in a register word (or in the 64 bits of an 8-byte register). -/
def Fld.raw (f : Fld) (w : Nat) : Nat := bits w f.lo f.width

/-- Whether every writable field of `fs` takes a value of its range in word `w` (R9). -/
def wordOk (fs : List Fld) (w : Nat) : Bool := fs.all (fun f => !f.writable || f.inRange (f.raw w))

/-- The writable fields of `fs` take their values from word `w`. -/
def putWord (fs : List Fld) (w : Nat) (i : Nat := 0) : Eff :=
  fun _ => (fs.filter Fld.writable).map (fun f => .put f i (f.raw w))

/-- The word the fields of `fs` make for instance `i`. -/
def State.word (s : State) (fs : List Fld) (i : Nat := 0) : Nat :=
  fs.foldl (fun a f => a + s.rd f i * 2 ^ f.lo) 0

/-! ### Key slots -/

/-- Slot `k` of page `p`. -/
def VnrSt.slot (v : VnrSt) (p k : Nat) : KeySlot := Tab.get {} v.slots (2 * p + k)

/-- A change to slot `k` of page `p`. -/
def modSlot (p k : Nat) (g : KeySlot → KeySlot) : Eff := upd (.vnr fun v => { v with slots := Tab.set {} v.slots (2 * p + k) (g (v.slot p k)) })

end Sys2Proof.Machine
end

