-- ==== Sys2Proof/Machine/Modes.lean ====
section
/-!
DEFINITION. The line modes, the constellation grid, the default plan of each mode and the plan checks (R3, R41, R42, R46, R47,
R49 to R56, R163).
-/
namespace Sys2Proof.Machine

/-- Whether mode code `m` is native (Table 2.2). -/
def nativeMode (m : Nat) : Bool := (1 ≤ m && m ≤ 5) || m == 11

/-- Whether mode code `m` is one of the single-carrier interoperable modes (Table 2.2). -/
def interopMode (m : Nat) : Bool := 6 ≤ m && m ≤ 10

/-- The capacity in units of the buffers between stages (Table 1.4), from demapper to FEC, and of a mailbox between two clusters. -/
def bufCap : Nat := 2
def demapCap : Nat := 3
def mailCap : Nat := 4

/-- The OTUC count of a native mode: fixed by the mode, or `n` for mode code 11 (R42). -/
def otucOf (m n : Nat) : Nat :=
  match m with
  | 1 => 32 | 2 => 24 | 3 => 16 | 4 => 8 | 5 => 4 | 11 => n | _ => 0

/-- Whether `n` is an OTUC count of mode code 11: 5 to 31 other than 8, 16 and 24 (R42). -/
def lmxOk (n : Nat) : Bool := decide (5 ≤ n ∧ n ≤ 31) && n != 8 && n != 16 && n != 24

/-- The subcarriers of a native mode (Table 2.2, R42). -/
def modeScs (m n : Nat) : List Nat :=
  match m with
  | 1 => List.range 16 | 2 => List.range 16 | 3 => List.range 16
  | 4 => (List.range 8).map (4 + ·)
  | 5 => (List.range 4).map (6 + ·)
  | 11 => if n ≤ 7 then (List.range 8).map (4 + ·) else List.range 16
  | _ => []

/-- P of R54. -/
def wP : Nat := 239 * 995328 * 116 * 16 * 1048576
/-- Q of R54. -/
def wQ : Nat := 226 * 2 * 1875 * 1032444 * 10000

/-- round(W_req × 2^16) for an OTUCn, in exact integers (R54). -/
def wRound (n : Nat) : Nat := (n * wP * 2 ^ 17 + wQ) / (2 * wQ)

/-- W_min for an OTUCn: the least integer not below W_req (R53, R54). -/
def wMinN (n : Nat) : Nat := (n * wP + wQ - 1) / wQ

/-- W_min of a mode; 0 in interoperable modes. -/
def wMin (m n : Nat) : Nat := if nativeMode m then wMinN (otucOf m n) else 0

/-- ρ of R58. -/
def rho (n sumE : Nat) : Nat := 2 ^ 16 * wRound n / sumE

/-- Whether constellation `c` allows entropy `e` (Table 2.3). -/
def entOk (c e : Nat) : Bool :=
  match c with
  | 0 => e == 16 | 1 => e == 32 | 2 => e == 48 | 3 => decide (40 ≤ e ∧ e ≤ 64) | 4 => e == 80
  | 5 => decide (64 ≤ e ∧ e ≤ 96) | 6 => e == 112 | 7 => decide (88 ≤ e ∧ e ≤ 128) | _ => false

/-- The constellation plan_from gives to entropy `e` (R163). -/
def constOfE (e : Nat) : Nat := if e = 16 then 0 else if e = 32 then 1 else if e ≤ 64 then 3 else if e ≤ 96 then 5 else 7

/-- A plan entry word in the layout of LTX_PLAN_SC (Table 2.15), enabled, gain 0 dB. -/
def scWord (c e : Nat) : Nat := 2 ^ 31 + c * 2 ^ 24 + e * 2 ^ 16

/-- The least E with some constellation allowed at or above `x` that R163 can assign: 16, 32, 40 to 128. -/
def gridUp (x : Nat) : Nat := if x ≤ 16 then 16 else if x ≤ 32 then 32 else if x ≤ 40 then 40 else x

/-- Constellation and entropy of a mode's default plan (Table 2.2, R42). -/
def defaultCE (m n : Nat) : Nat × Nat :=
  match m with
  | 1 => (7, 106)
  | 2 => (5, 80)
  | 11 => let k := (modeScs m n).length; let e := gridUp ((wMinN n + k - 1) / k); (constOfE e, e)
  | _ => (3, 53)

/-- Plan 0 of a mode: its sixteen entry words; all zero in a mode that is not native (R95). -/
def plan0 (m n : Nat) : List Nat :=
  let (c, e) := defaultCE m n
  (List.range 16).map (fun k => if (modeScs m n).contains k then scWord c e else 0)

/-- Whether an entry word enables its subcarrier. -/
def scEn (w : Nat) : Bool := bit w 31
def scConst (w : Nat) : Nat := bits w 24 3
def scEnt (w : Nat) : Nat := bits w 16 8
def scGain (w : Nat) : Int := ofPat 8 w

/-- ΣE over the enabled entries of a plan (R53). -/
def sumE (ws : List Nat) : Nat := ((ws.filter scEn).map scEnt).foldl (· + ·) 0

/-- Whether the plan's entries are those of plan 0: the same enables, and for each enabled entry the same content (Table 2.5). -/
def isPlan0 (m n : Nat) (ws : List Nat) : Bool :=
  (ws.zip (plan0 m n)).all (fun p => scEn p.1 == scEn p.2 && (!scEn p.1 || (scConst p.1 == scConst p.2 && scEnt p.1 == scEnt p.2 && scGain p.1 == scGain p.2)))

/-- The outcome of the checks of Table 2.5: `none` where the plan passes, else the failing check's order. -/
def planCheck (m n : Nat) (host : Bool) (id : Nat) (ws : List Nat) : Option Nat :=
  let scs := modeScs m n
  let en := (List.range 16).filter (fun k => scEn (ws.getD k 0))
  if !nativeMode m then some 1
  else if !((if host then decide (1 ≤ id ∧ id ≤ 127) else decide (128 ≤ id ∧ id ≤ 254)) || (id == 0 && isPlan0 m n ws)) then some 2
  else if !en.all scs.contains then some 3
  else if !en.all (fun k => entOk (scConst (ws.getD k 0)) (scEnt (ws.getD k 0))) then some 4
  else if !en.all (fun k => decide (-24 ≤ scGain (ws.getD k 0) ∧ scGain (ws.getD k 0) ≤ 12)) then some 5
  else if en.isEmpty || decide (sumE ws < wMin m n) then some 6
  else none

/-- Whether the occupied width of R47 is at most 340 GHz, in units of 500 kHz. -/
def widthOk (m n rolloff kerf : Nat) : Bool :=
  let k := (modeScs m n).length
  !nativeMode m || decide (k * 375 * (100 + rolloff) + (k - 1) * 125 * kerf ≤ 680000)

/-- Whether the part and the grid of modes allow mode `m` with count `n` (R3, R41, R42). -/
def modeOk (asic1600 : Bool) (m n : Nat) : Bool :=
  decide (m ≤ 11) && (m != 11 || lmxOk n) && !(asic1600 && (m == 1 || m == 2 || (m == 11 && decide (16 < n))))

/-- The dispersion range of a mode in ps/nm (Table 2.2, R42). -/
def cdRange (m n : Nat) : Nat :=
  match m with
  | 1 => 12000 | 2 => 24000 | 3 => 60000
  | 11 => if n ≤ 7 then 160000 else if n ≤ 15 then 60000 else if n ≤ 23 then 24000 else 12000
  | _ => 160000

end Sys2Proof.Machine
end

