-- ==== Sys2Proof/Machine/Numeric.lean ====
section
/-!
DEFINITION. Decibels, powers and logarithms in 64-bit fixed point, for the SNR rules of R153 to R155 and R162 and the demapper of R229 and R230, roots
and phases. A value v stands for v / 2^64 where nothing else is said (log entry 147: the precision is the model's).
-/
namespace Sys2Proof.Machine

/-- 10^(2^i / 1000) in 2^-64, i = 0 to 15. -/
def tenPowers : List Nat := [18489268210561536987,
  18531890375673023371,
  18617429695109339415,
  18789694651118867538,
  19139021155796183517,
  19857278300080642989,
  21375669327403393734,
  24769641589254725920,
  33259806825994437632,
  59968021764830161471,
  194948421250795437689,
  2060249049714006793517,
  230101644490040030624887,
  2870249979370664577992088188,
  446601032201592790614478104144386194,
  10812340712624153880926792871295083646693786031451710]

/-- 2^(2^i / 18.56) in 2^-64, i = 0 to 7. -/
def entPowers : List Nat := [19148687472825872485,
  19877341522536907762,
  21418885870850346312,
  24869899539743352773,
  33529597453375784689,
  60944842130036982093,
  201351185196348206182,
  2197802474950326087051]

/-- The product of the listed powers whose bit of `n` is 1. -/
def powOf : List Nat → Nat → Nat
  | [], _ => 2 ^ 64
  | c :: cs, n => if n % 2 = 1 then powOf cs (n / 2) * c / 2 ^ 64 else powOf cs (n / 2)

/-- The ratio of `z` hundredths of a dB, `z` between −65,535 and 65,535. -/
def ratioOf (z : Int) : Nat := if 0 ≤ z then powOf tenPowers z.toNat else 2 ^ 128 / powOf tenPowers (-z).toNat

/-- 2^(e / 18.56) (R155, R162). -/
def entPow (e : Nat) : Nat := powOf entPowers e

/-- The greatest `n` below 2^`k` added to `n0` with `ratioOf` of it at most `v`. -/
def dbSearch (v : Nat) : Nat → Nat → Nat
  | 0, n0 => n0
  | k + 1, n0 => if powOf tenPowers (n0 + 2 ^ k) ≤ v then dbSearch v k (n0 + 2 ^ k) else dbSearch v k n0

/-- A ratio in hundredths of a dB, rounded down (DESIGN CHOICE, log entry 12: the spec states no rounding), not below −100 dB. -/
def dbOf (v : Nat) : Int := (dbSearch (v * 10 ^ 10) 16 0 : Int) - 10000

/-- e^(2^i / 65536) in 2^-64, i = 0 to 22. -/
def expPowers : List Nat := [18447025550833756843,
  18447307032252994902,
  18447870007976831669,
  18448996010967782912,
  18451248223137477973,
  18455753472345505796,
  18464767271176066526,
  18482808078018285842,
  18518942588666869715,
  18591423680622123788,
  18737238023755501947,
  19032306587872971150,
  19636456851539679190,
  20902899511243624349,
  23686088245777032822,
  30413539329486470295,
  50143449209799256683,
  136304026803256390413,
  1007158100559408451355,
  54988969081439155412736,
  163919806582506698591828152,
  1456609517792428406714055862390918,
  115018199355157251870643531501709554553678249260]

/-- e^−x for `x` in 2^-16, 0 beyond 63. -/
def expNeg (x : Nat) : Nat := if 2 ^ 22 ≤ x then 0 else 2 ^ 128 / powOf expPowers x

/-- The greatest `n` below 2^`k` added to `n0` with e^n, `n` in 2^-16, at most `v`. -/
def lnSearch (v : Nat) : Nat → Nat → Nat
  | 0, n0 => n0
  | k + 1, n0 => if powOf expPowers (n0 + 2 ^ k) ≤ v then lnSearch v k (n0 + 2 ^ k) else lnSearch v k n0

/-- ln v in 2^-16, of `v` in 2^-64 and at least 1. -/
def lnOf (v : Nat) : Nat := lnSearch v 22 0

/-- The greatest `n` below 2^`k` added to `n0` with n² at most `v`. -/
def rootSearch (v : Nat) : Nat → Nat → Nat
  | 0, n0 => n0
  | k + 1, n0 => if (n0 + 2 ^ k) * (n0 + 2 ^ k) ≤ v then rootSearch v k (n0 + 2 ^ k) else rootSearch v k n0

/-- The root of `v`, rounded down, up to 2^48. -/
def rootOf (v : Nat) : Nat := rootSearch v 48 0

/-- The angles with tangent 2^-i, in 2^-32 turns, i = 0 to 19. -/
def atanSteps : List Nat := [536870912, 316933406, 167458907, 85004756, 42667331, 21354465, 10679838, 5340245, 2670163, 1335087, 667544, 333772, 166886,
  83443, 41722, 20861, 10430, 5215, 2608, 1304]

/-- The angle of (x, y), x not negative, in 2^-32 turns, by rotation steps `i`, `i` + 1, …. -/
def cordic : List Nat → Nat → Int → Int → Int
  | [], _, _, _ => 0
  | a :: as, i, x, y =>
    if 0 ≤ y then a + cordic as (i + 1) (x + y / 2 ^ i) (y - x / 2 ^ i) else -a + cordic as (i + 1) (x - y / 2 ^ i) (y + x / 2 ^ i)

/-- The phase of x + jy in 2^-16 turns, from −32,768 to 32,767. -/
def phaseOf (x y : Int) : Int :=
  let a := if 0 ≤ x then cordic atanSteps 0 (x * 65536) (y * 65536) else if 0 ≤ y then 2 ^ 31 + cordic atanSteps 0 (-x * 65536) (-y * 65536)
    else -2 ^ 31 + cordic atanSteps 0 (-x * 65536) (-y * 65536)
  clampI (-32768) 32767 ((a + 32768) / 65536)

/-- The angle `a`, in 2^-32 turns, of (x, y) turned away by rotation steps `i`, `i` + 1, …: each step is 1/0.60725 too long over all. -/
def turnSteps : List Nat → Nat → Int → Int → Int → Int × Int
  | [], _, _, x, y => (x, y)
  | t :: ts, i, a, x, y =>
    if 0 ≤ a then turnSteps ts (i + 1) (a - t) (x - y / 2 ^ i) (y + x / 2 ^ i) else turnSteps ts (i + 1) (a + t) (x + y / 2 ^ i) (y - x / 2 ^ i)

/-! ### Complex numbers -/

/-- A complex number: its real and its imaginary part. -/
abbrev Cpx := Int × Int

def cAdd (a b : Cpx) : Cpx := (a.1 + b.1, a.2 + b.2)
def cSub (a b : Cpx) : Cpx := (a.1 - b.1, a.2 - b.2)
def cMul (a b : Cpx) : Cpx := (a.1 * b.1 - a.2 * b.2, a.1 * b.2 + a.2 * b.1)
def cConj (a : Cpx) : Cpx := (a.1, -a.2)
def cNeg (a : Cpx) : Cpx := (-a.1, -a.2)
def cScale (k : Int) (a : Cpx) : Cpx := (k * a.1, k * a.2)

/-- Both parts divided by `n` and rounded down. -/
def cDiv (n : Nat) (a : Cpx) : Cpx := (a.1 / n, a.2 / n)

/-- |a|². -/
def cNorm (a : Cpx) : Nat := (a.1 * a.1 + a.2 * a.2).toNat

/-- Σ h·x. -/
def dot (h x : List Cpx) : Cpx := (h.zip x).foldl (fun a p => cAdd a (cMul p.1 p.2)) (0, 0)

/-- A phase in 2^-16 turns taken to −32,768 to 32,767. -/
def wrapPhase (z : Int) : Int := ofPat 16 (toPat 16 z)

/-- `z` turned by `p` in 2^-16 turns: 2,608,131,496 is 0.60725 in 2^-32. -/
def turnBy (p : Int) (z : Cpx) : Cpx :=
  let q := wrapPhase p
  let (q, z) := if 16384 < q then (q - 32768, cNeg z) else if q < -16384 then (q + 32768, cNeg z) else (q, z)
  let (x, y) := turnSteps atanSteps 0 (q * 65536) (z.1 * 65536) (z.2 * 65536)
  cDiv (2 ^ 48) (cScale 2608131496 (x, y))

end Sys2Proof.Machine
end

