-- ==== Sys2Proof/Machine/FecDecode.lean ====
section
/-!
DEFINITION. The demapper's soft words (R229, R230) and the native decoder (R231).
-/
namespace Sys2Proof.Machine

/-! ### Prior of a shaped block (R230) -/

/-- The energies (2a + 1)² of the amplitudes below `lv`. -/
def energies (lv : Nat) : List Nat := (List.range lv).map (fun a => (2 * a + 1) * (2 * a + 1))

/-- The weights exp(−μ(2a + 1)²), μ in 2^-24. -/
def priorWeights (lv mu : Nat) : List Nat := (energies lv).map (fun e => expNeg (mu * e / 256))

/-- The entropy in nats of the prior, in 2^-16: ln Z + μ Σ (2a + 1)² w / Z. -/
def priorEntropy (lv mu : Nat) : Nat :=
  let ws := priorWeights lv mu
  let z := max 1 (ws.foldl (· + ·) 0)
  let m := (((ws.zip (energies lv)).map (fun p => p.1 * p.2)).foldl (· + ·) 0)
  lnOf z + mu * m / z / 256

/-- The greatest μ below 2^`k` added to `m0`, in 2^-24, at which `n` amplitudes hold at least `ka` bits: ln 2 is 45,426 in 2^-16. -/
def muSearch (lv n ka : Nat) : Nat → Nat → Nat
  | 0, m0 => m0
  | k + 1, m0 => if ka * 45426 ≤ n * priorEntropy lv (m0 + 2 ^ k) then muSearch lv n ka k (m0 + 2 ^ k) else muSearch lv n ka k m0

/-- μ of a block of `l` symbols of constellation `c` at entropy `e` (R230): the value at which the entropy of p is k_a / N; 0 where the block is not
shaped. -/
def muOf (c e l : Nat) : Nat := if shaped c e then muSearch (ampLevels c) (4 * l) (ampNet c l) 26 0 else 0

/-! ### Soft words (R229) -/

/-- The cost in nats of a level, in 2^-16: its prior and its distance from the received value, `y` in 2^-8 level units, at an inverse noise `iv` of
1/(2σ²) in 2^-16. -/
def levelCost (mu iv : Nat) (y : Int) (sign : Bool) (a : Nat) : Nat :=
  mu * ((2 * a + 1) * (2 * a + 1)) / 256 + iv * ((y - 256 * level sign a).natAbs * (y - 256 * level sign a).natAbs) / 65536

/-- −ln Σ e^−cost of the listed costs, in 2^-16. -/
def softMin (cs : List Nat) : Int :=
  let m := cs.foldl min (cs.headD 0)
  m - lnOf ((cs.map (fun x => expNeg (x - m))).foldl (· + ·) 0)

/-- The log-likelihood ratios, in 2^-16, of the label bits of one dimension with `w` amplitude bits: the sign, then the Gray code, each positive
where 0 is the likelier value. -/
def dimLlrs (mu iv w : Nat) (y : Int) : List Int :=
  let pts := ([false, true].flatMap (fun g => (List.range (2 ^ w)).map (fun a => (g, a, levelCost mu iv y g a))))
  let side (f : Bool × Nat × Nat → Bool) : Int := softMin ((pts.filter f).map (fun p => p.2.2))
  (side (·.1) - side (fun p => !p.1)) ::
    (List.range w).map (fun b => side (fun p => bit (gray p.2.1) (w - 1 - b)) - side (fun p => !bit (gray p.2.1) (w - 1 - b)))

/-- q = round(g × λ), saturated to ±31, g in quarters (R229); halves are rounded up (log entry 147). -/
def softWord (gain : Nat) (l : Int) : Int := clampI (-31) 31 ((2 * gain * l + 262144) / 524288)

/-- The soft words of a block in codeword order (R223, R229): amplitude label bits in symbol and dimension order, information signs, parity signs. `ys`
are the received values of the dimensions that carry a level, in symbol order then dimension order; `dead` tells the dimensions whose words are
zero. -/
def demap (c e l gain iv : Nat) (ys : List Int) (dead : Nat → Bool) : List Int :=
  let mu := muOf c e l
  let dims := (List.replicate l (dimBits c)).flatten
  let qs := ((ys.zip dims).zip (List.range ys.length)).map (fun p =>
    if dead p.2 then List.replicate (p.1.2 + 1) 0 else (dimLlrs mu iv p.1.2 p.1.1).map (softWord gain))
  let signs := (qs.map (·.headD 0)).toArray
  let n := signsPer c * l
  let par := (List.range 6720).map (paritySign n)
  let isPar := fun pos => let t := parityBefore n pos; decide (t < 6720) && paritySign n t == pos
  qs.flatMap (·.drop 1) ++ ((List.range n).filter (fun pos => !isPar pos)).map (fun pos => signs.getD pos 0) ++ par.map (fun pos => signs.getD pos 0)

/-! ### Layered normalised min-sum (R231) -/

/-- The transmitted codeword positions of check (i, x), in a block whose first `sent` systematic bits are sent: the others are known zeros, which
bind no check. -/
def checkBits (sent i x : Nat) : List Nat :=
  ((List.range 170).filter (fun j => (colRows j).contains i)).filterMap (fun j =>
    let p := 420 * j + (x + colShift i j) % 420
    if p < sent then some p else none) ++
  (if i = 0 ∨ i = 15 then [sent + (x + 1) % 420] else if i = 8 then [sent + x] else []) ++
  (if i = 0 then [] else [sent + 420 * i + x]) ++ (if i = 15 then [] else [sent + 420 * (i + 1) + x])

/-- The messages of a check to its bits: from the messages to it, each bit takes the product of the others' signs and α times the least of the others'
magnitudes, α in sixteenths. -/
def checkOut (norm : Nat) (qs : List Int) : List Int :=
  let neg := (qs.filter (fun q => decide (q < 0))).length
  (List.range qs.length).map (fun k =>
    let q := qs.getD k 0
    let others := (qs.take k ++ qs.drop (k + 1)).map Int.natAbs
    let m : Int := (norm * others.foldl min (others.headD 0) / 16 : Nat)
    if (neg - b2n (decide (q < 0))) % 2 = 1 then -m else m)

/-- The decoder's values: of every bit, and the messages each check last sent. -/
structure DecSt where
  val : Array Int
  msg : Array (List Int)

/-- One check: its last messages are taken back, and its new ones added. -/
def decCheck (norm sent : Nat) (d : DecSt) (c : Nat) : DecSt :=
  let ps := checkBits sent (c / 420) (c % 420)
  let qs := (ps.zip (d.msg.getD c [] ++ List.replicate ps.length 0)).map (fun p => d.val.getD p.1 0 - p.2)
  let rs := checkOut norm qs
  ⟨(ps.zip (qs.zip rs)).foldl (fun a p => a.setIfInBounds p.1 (p.2.1 + p.2.2)) d.val, d.msg.setIfInBounds c rs⟩

/-- One iteration: the sixteen layers in row order. -/
def decIter (norm sent : Nat) (d : DecSt) : DecSt := (List.range 6720).foldl (decCheck norm sent) d

/-- The hard decisions: a negative value is 1. -/
def DecSt.hard (d : DecSt) : List Bool := d.val.toList.map (fun v => decide (v < 0))

/-- Up to `n` iterations, stopping early where `stop` on the first zero syndrome: the decisions and the iterations run. -/
def decRun (norm sent : Nat) (stop : Bool) : Nat → Nat → DecSt → List Bool × Nat
  | 0, ran, d => (d.hard, ran)
  | n + 1, ran, d =>
    let d' := decIter norm sent d
    if stop && synOf sent (bitsFn d'.hard) then (d'.hard, ran + 1) else decRun norm sent stop n (ran + 1) d'

/-- The native decoder over the soft words of a block: decisions and iterations. Messages are held with `Config.decFraction` bits beyond the soft
words' (log entry 147: the spec gives no width). -/
def minSum (norm limit sent : Nat) (stop : Bool) (soft : List Int) : List Bool × Nat :=
  decRun norm sent stop limit 0 ⟨(soft.map (· * 2 ^ Config.decFraction)).toArray, (List.replicate 6720 []).toArray⟩

end Sys2Proof.Machine
end

