-- ==== Sys2Proof/Machine/Crc.lean ====
section
/-!
DEFINITION. The cyclic redundancy checks of R722, and the shift registers of the pseudo-random sequences.
-/
namespace Sys2Proof.Machine

/-- One bit of a CRC without reflection, most significant bit first, in a register of `width` bits. -/
def crcBit (width poly crc : Nat) (b : Bool) : Nat :=
  let top := (bit crc (width - 1)) != b
  let sh := crc * 2 % 2 ^ width
  if top then sh ^^^ poly else sh

/-- A CRC without reflection over bits, first bit first (R722). -/
def crcBits (width poly init : Nat) (bs : List Bool) : Nat := bs.foldl (crcBit width poly) init

/-- The bits of a `width`-bit field, most significant first. -/
def msbFirst (width v : Nat) : List Bool := (List.range width).map (fun k => bit v (width - 1 - k))

/-- The CRC-8 of a move record (Table 8.3). -/
def crc8 (bytes : List Nat) : Nat := crcBits 8 0x07 0 (bytes.flatMap (msbFirst 8))

/-- The CRC-16 of the line's messages and of Scribe's header (R66, R483, Table 11.2): polynomial 0x1021, initial value 0xFFFF. -/
def crc16 (bytes : List Nat) : Nat := crcBits 16 0x1021 0xFFFF (bytes.flatMap (msbFirst 8))

/-- One shift of the reflected CRC-32C register. -/
def crc32cShift (c : Nat) : Nat := if bit c 0 then (c / 2) ^^^ 0x82F63B78 else c / 2

/-- One byte into the reflected CRC-32C register. -/
def crc32cByte (c b : Nat) : Nat :=
  let c := c ^^^ (b % 256)
  crc32cShift (crc32cShift (crc32cShift (crc32cShift (crc32cShift (crc32cShift (crc32cShift (crc32cShift c)))))))

/-- The CRC-32C of RFC 3720 over bytes (R722): reflected, initial value and final XOR 0xFFFF_FFFF. -/
def crc32c (bs : List Nat) : Nat := (bs.foldl crc32cByte 0xFFFFFFFF) ^^^ 0xFFFFFFFF

/-- The CRC-32C over the bytes of 32-bit words. -/
def crc32cWords (ws : List Nat) : Nat := crc32c (ws.flatMap wordBytes)

/-! ### Shift registers

A generator of polynomial x^a + x^b + … + 1 is a register of a bits, numbered from 0; a step shifts up and puts the sum of the bits a − 1,
b − 1, … into bit 0; its output is the top bit, before the step (log entry 145). -/

/-- One step of the register of width `w` with the taps `ps`. -/
def lfsrStep (w : Nat) (ps : List Nat) (r : Nat) : Nat := (2 * r + b2n (ps.foldl (fun a p => a != bit r p) false)) % 2 ^ w

/-- The next `n` output bits, and the register after them. -/
def lfsrRun (w : Nat) (ps : List Nat) : Nat → Nat → List Bool × Nat
  | 0, r => ([], r)
  | n + 1, r => let (bs, r') := lfsrRun w ps n (lfsrStep w ps r); (bit r (w - 1) :: bs, r')

/-- Bits combined one by one with the generator's output, and the register after them. -/
def lfsrMix (w : Nat) (ps : List Nat) : List Bool → Nat → List Bool × Nat
  | [], r => ([], r)
  | b :: bs, r => let (cs, r') := lfsrMix w ps bs (lfsrStep w ps r); ((b != bit r (w - 1)) :: cs, r')

end Sys2Proof.Machine
end

