-- ==== Sys2Proof/Machine/Grid.lean ====
section
/-!
DEFINITION. The subcarrier grid (R46), the symbols of a superframe (R61 to R63), and the order of FEC block positions that both ends keep (R57, R58,
R74).
-/
namespace Sys2Proof.Machine
open Sys2Proof

/-! ### Grid and symbols -/

/-- Δf of R46 in 500 kHz: 18.75 GHz × (1 + β) + K, at roll-off β in 0.01 and Kerf K in 62.5 MHz. -/
def gridStep (rolloff kerf : Nat) : Nat := 375 * (100 + rolloff) + 125 * kerf

/-- The centre of SCk from the optical carrier in 250 kHz: (k − 7.5) × Δf (R46). -/
def scCentre (rolloff kerf k : Nat) : Int := (2 * (k : Int) - 15) * gridStep rolloff kerf

/-- The taps of x^9 + x^5 + 1 (R62). -/
def prbs9 : List Nat := [8, 4]

/-- The seeds of SCk's generators for X and for Y (R62). -/
def seedX (k : Nat) : Nat := 0x100 + k
def seedY (k : Nat) : Nat := 0x180 + k

/-- The sign a bit sets: 0 positive (R63). -/
def signOf (b : Bool) : Int := if b then -1 else 1

/-- The next `n` QPSK symbols of two generators (R63): each takes two bits, I then Q; the signs of XI, XQ, YI and YQ, and the registers after
them. -/
def qpskRun : Nat → Nat → Nat → List (List Int) × Nat × Nat
  | 0, x, y => ([], x, y)
  | n + 1, x, y =>
    let (bx, x') := lfsrRun 9 prbs9 2 x
    let (b2, y') := lfsrRun 9 prbs9 2 y
    let (ss, e) := qpskRun n x' y'
    ((bx ++ b2).map signOf :: ss, e)

/-- The payload symbols of a subcarrier in a superframe (R61). -/
def payloadSyms : Nat := 1032444

/-- Whether symbol `i` of a superframe is a pilot position (R61), and its use by R62: 0 payload, 1 training word, 2 header, 3 pilot. -/
def symUse (i : Nat) : Nat := if i % 65 ≠ 0 ∨ 16131 < i / 65 then 0 else if i / 65 < 64 then 1 else if i / 65 < 192 then 2 else 3

/-- The blocks of a subcarrier at entropy `e` that end within `n` payload symbols. -/
def blocksWithin (e n : Nat) : Nat := n * e / 389760

/-! ### Block order -/

/-- The next position of R57 among the blocks that `fits` allows, of subcarrier and block index: the enabled subcarrier whose next block starts first,
ties to the lower index. -/
def nextPosOf (ws : List Nat) (blk : Tab Nat) (fits : Nat → Nat → Bool) : Option Nat :=
  let start := fun k => blkStart (scEnt (ws.getD k 0)) (Tab.get 0 blk k)
  ((List.range 16).filter (fun k => scEn (ws.getD k 0) && fits (scEnt (ws.getD k 0)) (Tab.get 0 blk k))).foldl
    (fun b k => match b with | none => some k | some c => if start k < start c then some k else some c) none

/-- Whether block `j` at entropy `e` ends within the payload symbols before a plan change, if one is due (R74). -/
def fitsIn (bound : Option Nat) (e j : Nat) : Bool := bound.all (fun n => decide (j < blocksWithin e n))

end Sys2Proof.Machine
end

