-- ==== Sys2Proof/Machine/Equalise.lean ====
section
/-!
DEFINITION. One subcarrier's equaliser, symbol by symbol (R116, R121 to R129, R146, R152): filters, decisions, margins, feedback, adaptation and the
tracking phase.

Samples, outputs and points are in 2^-14 of the root of the mean payload power of a polarisation, taps in 2^-30, phases in 2^-16 turns (log entry 147).
-/
namespace Sys2Proof.Machine
open Sys2Proof

/-! ### Points -/

/-- The mean of |a|² per polarisation-symbol in level units, in 2^-16: of the labels' uniform points, or of a shaped block's prior at its first
block's length. -/
def meanEnergy (c e : Nat) : Nat :=
  let even (w : Nat) : Nat := (4 * 4 ^ w - 1) * 65536 / 3
  if c = 0 then 65536
  else if shaped c e then
    let lv := ampLevels c
    let ws := priorWeights lv (muOf c e (blkLen e 0))
    2 * (((ws.zip (energies lv)).map (fun p => p.1 * p.2)).foldl (· + ·) 0 * 65536 / max 1 (ws.foldl (· + ·) 0))
  else even (c / 2) + even ((c + 1) / 2 - 1)

/-- The value of level 1: d_min / 2. -/
def levelUnit (c e : Nat) : Nat := rootOf (2 ^ 44 / max 1 (meanEnergy c e))

/-- I and Q of a pilot at a pilot gain in 0.5 dB (R64). -/
def pilotUnit (gain : Int) : Nat := rootOf (2 ^ 27 * ratioOf (50 * gain) / 2 ^ 64)

/-- The `n`-th training or pilot symbol of SCk in a superframe (R62, R63); the generators' period is 511 bits, so that of the symbols 511. -/
def qpskAt (k n : Nat) : List Int := (qpskRun (n % 511 + 1) (seedX k) (seedY k)).1.getLast?.getD []

/-- What stands at symbol `i` of a superframe of SCk: 0 payload, 1 a header symbol, 2 a known one with its signs (R61 to R63). -/
def symAt (k i : Nat) : Nat × List Int :=
  match symUse i with
  | 0 => (0, [])
  | 1 => (2, qpskAt k (i / 65))
  | 2 => (1, [])
  | _ => (2, qpskAt k (i / 65 - 128))

/-- The nearest value of a dimension with `w` amplitude bits, and the distance from the decision boundary; none on the outer side of an outermost
point (R125, R129). -/
def slice (unit w : Nat) (y : Int) : Int × Option Int :=
  let top : Int := 2 ^ (w + 1) - 1
  let l := clampI (-top) top (2 * (y / (2 * unit : Nat)) + 1)
  let d := l * unit
  (d, if (l = top ∧ d < y) ∨ (l = -top ∧ y < d) then none else some (unit - (y - d).natAbs))

/-- The lesser of two distances, none being infinite. -/
def lesser : Option Int → Option Int → Option Int
  | none, m => m
  | m, none => m
  | some a, some b => some (min a b)

/-- The decision for a symbol of constellation `c`, and its margin (R125, R129); BPSK has no level in Q. -/
def decide2 (c unit : Nat) (z : Cpx) : Cpx × Option Int :=
  let (i, mi) := slice unit ((dimBits c).headD 0) z.1
  if c = 0 then ((i, 0), mi) else
  let (q, mq) := slice unit ((dimBits c).getD 1 0) z.2
  ((i, q), lesser mi mq)

/-- Whether a margin makes a decision reliable: m ≥ θ × d_min/2, θ in sixteenths (R129). -/
def reliable (theta unit : Nat) (m : Option Int) : Bool := m.all (fun x => decide (((theta * unit : Nat) : Int) ≤ 16 * x))

/-! ### The equaliser -/

/-- How an equaliser runs: subcarrier, adaptation (0 held, 1 CMA, 2 PILOT, 3 DD, 4 DD with feedback), μ and leakage as powers of two (0 none),
taps, whether feed-forward and feedback taps are frozen, constellation, values of a level and of a pilot, θ, and whether the carrier phase is
tracked; `known` tells what stands at a position. -/
structure EqRun where
  mode : Nat
  mu : Nat
  leak : Nat
  n : Nat
  nfb : Nat
  ffHeld : Bool
  fbHeld : Bool
  con : Nat
  unit : Nat
  pilot : Nat
  theta : Nat
  track : Bool
  known : Nat → Nat × List Int

/-- An equaliser as it stands: the sets hxx, hxy, hyx, hyy, the feedback sets, the samples in the filters and the values fed back, newest first,
and the tracking phases; and what the window has measured: symbols; the sum of CMA costs in 2^-28; outputs' correlation and powers; payload decisions
and how many were unreliable; updates; power of known values and of their errors; tracker slips; Gardner sum and the samples' power. -/
structure EqSt where
  ff : List (List Cpx)
  fb : List (List Cpx)
  dx : List Cpx
  dy : List Cpx
  px : List Cpx
  py : List Cpx
  thX : Int
  thY : Int
  syms : Nat := 0
  cost : Nat := 0
  xy : Cpx := (0, 0)
  xx : Nat := 0
  yy : Nat := 0
  decs : Nat := 0
  unrel : Nat := 0
  upd : Nat := 0
  sig : Nat := 0
  err : Nat := 0
  slips : Nat := 0
  gard : Int := 0
  pow : Nat := 0

/-- A set of `n` taps about the same centre; `n` taps from the first for feedback (R121, R127). -/
def centred (n : Nat) (h : List Cpx) : List Cpx :=
  (List.range n).map (fun j => if (n - 1) / 2 ≤ j + (h.length - 1) / 2 then h.getD (j + (h.length - 1) / 2 - (n - 1) / 2) (0, 0) else (0, 0))
def fromFirst (n : Nat) (h : List Cpx) : List Cpx := (List.range n).map (fun j => h.getD j (0, 0))

/-- The four sets of a list of sets, each brought to length by `f`. -/
def fourSets (f : List Cpx → List Cpx) (hs : List (List Cpx)) : List (List Cpx) := (List.range 4).map (fun i => f (hs.getD i []))

/-- One LMS update of a set (R122, R123; log entry 149): h + μ e x* with leakage, for an error and samples in 2^-14. -/
def adaptSet (mu leak : Nat) (e : Cpx) (xs h : List Cpx) : List Cpx :=
  (h.zip (xs ++ List.replicate h.length (0, 0))).map (fun p =>
    cSub (cAdd p.1 (cDiv (2 ^ mu) (cScale 4 (cMul e (cConj p.2))))) (if leak = 0 then (0, 0) else cDiv (2 ^ (leak + 12)) p.1))

/-- The four sets, those of X by X's error and those of Y by Y's. -/
def adaptSets (mu leak : Nat) (eX eY : Cpx) (xs ys : List Cpx) (hs : List (List Cpx)) : List (List Cpx) :=
  [adaptSet mu leak eX xs (hs.getD 0 []), adaptSet mu leak eX ys (hs.getD 1 []), adaptSet mu leak eY xs (hs.getD 2 []), adaptSet mu leak eY ys (hs.getD 3 [])]

/-- The outputs of a 2×2 filter. -/
def filter2 (hs : List (List Cpx)) (xs ys : List Cpx) : Cpx × Cpx :=
  (cDiv (2 ^ 30) (cAdd (dot (hs.getD 0 []) xs) (dot (hs.getD 1 []) ys)), cDiv (2 ^ 30) (cAdd (dot (hs.getD 2 []) xs) (dot (hs.getD 3 []) ys)))

/-- The constant-modulus error of an output, its power normalised (Table 3.3; log entry 149). -/
def cmaError (o : Cpx) : Cpx := cDiv (2 ^ 28) (cScale (2 ^ 28 - (cNorm o : Int)) o)

/-- The tracking phase after a symbol decided or known as `d` (R146, R152): at a pilot from which it stands off by more than π/4 it is reset to the
pilot's phase. -/
def trackPhase (th : Int) (z d : Cpx) (pilot : Bool) : Int × Nat :=
  let q := cMul z (cConj d)
  let p := phaseOf (q.1 / 16384) (q.2 / 16384)
  if pilot && decide (8192 < p.natAbs) then (th + p, 1) else (th + Config.trackStep p, 0)

/-- One symbol through the equaliser. -/
def eqStep (r : EqRun) (a : EqSt) (y : RxSym) : EqSt :=
  let dx := (y.x0 :: y.xh :: a.dx).take r.n
  let dy := (y.y0 :: y.yh :: a.dy).take r.n
  let (oX, oY) := filter2 a.ff dx dy
  let fbOn := r.mode == 4
  let (bX, bY) := if fbOn then filter2 a.fb a.px a.py else ((0, 0), (0, 0))
  let zX := cSub (turnBy (-a.thX) oX) bX
  let zY := cSub (turnBy (-a.thY) oY) bY
  let (use, signs) := (y.pos.map r.known).getD (0, [])
  let pilot := use == 2
  let kX : Cpx := (r.pilot * signs.getD 0 0, r.pilot * signs.getD 1 0)
  let kY : Cpx := (r.pilot * signs.getD 2 0, r.pilot * signs.getD 3 0)
  let (cX, mX) := decide2 r.con r.unit zX
  let (cY, mY) := decide2 r.con r.unit zY
  let okX := reliable r.theta r.unit mX
  let okY := reliable r.theta r.unit mY
  let dX := if pilot then kX else cX
  let dY := if pilot then kY else cY
  let eX := cSub dX zX
  let eY := cSub dY zY
  let moves := if r.mode = 1 then true else if r.mode = 2 then pilot else if 3 ≤ r.mode then use != 1 else false
  let (uX, uY) := if r.mode = 1 then (cmaError oX, cmaError oY) else (turnBy a.thX eX, turnBy a.thY eY)
  let fedX := if pilot then kX else if use == 0 && okX then cX else (0, 0)
  let fedY := if pilot then kY else if use == 0 && okY then cY else (0, 0)
  let sure (ok : Bool) (e : Cpx) : Cpx := if pilot || (use == 0 && ok) then cNeg e else (0, 0)
  let (thX, sX) := if r.track && use != 1 then trackPhase a.thX zX dX pilot else (a.thX, 0)
  let (thY, sY) := if r.track && use != 1 then trackPhase a.thY zY dY pilot else (a.thY, 0)
  let md (o : Cpx) : Nat := let v := 2 ^ 28 - (cNorm o : Int); (v * v / 2 ^ 28).toNat
  { ff := if moves && !r.ffHeld then adaptSets r.mu r.leak uX uY dx dy a.ff else a.ff,
    fb := if fbOn && !r.fbHeld && use != 1 then
        (let f := adaptSets r.mu (if pilot || (okX && okY) then r.leak else 0) (sure okX eX) (sure okY eY) a.px a.py a.fb; fourSets (fromFirst r.nfb) f) else a.fb,
    dx := dx, dy := dy, px := (fedX :: a.px).take r.nfb, py := (fedY :: a.py).take r.nfb, thX := thX, thY := thY,
    syms := a.syms + 1, cost := a.cost + md oX + md oY,
    xy := cAdd a.xy (cDiv (2 ^ 14) (cMul oX (cConj oY))), xx := a.xx + cNorm oX / 2 ^ 14, yy := a.yy + cNorm oY / 2 ^ 14,
    decs := a.decs + (if use == 0 then 2 else 0), unrel := a.unrel + (if use == 0 then b2n (!okX) + b2n (!okY) else 0),
    upd := a.upd + b2n moves,
    sig := a.sig + (if pilot then cNorm kX + cNorm kY else 0), err := a.err + (if pilot then cNorm eX + cNorm eY else 0),
    slips := a.slips + sX + sY,
    gard := a.gard + (cMul (cSub y.x0 (a.dx.headD (0, 0))) (cConj y.xh)).1 + (cMul (cSub y.y0 (a.dy.headD (0, 0))) (cConj y.yh)).1,
    pow := a.pow + cNorm y.x0 + cNorm y.y0 }

/-- A window's symbols through the equaliser. -/
def eqRun (r : EqRun) (a : EqSt) (ys : List RxSym) : EqSt := ys.foldl (eqStep r) a

/-! ### What a window showed -/

/-- The mean CMA cost of a symbol, in 2^-28. -/
def EqSt.meanCost (a : EqSt) : Nat := a.cost / max 1 a.syms

/-- The correlation magnitude of the outputs in 1/256, 256 being 1 (R122). -/
def EqSt.corr (a : EqSt) : Nat := 256 * rootOf (cNorm a.xy) / max 1 (rootOf (a.xx * a.yy))

/-- The unreliable fraction in 1/256 (Table 3.16). -/
def EqSt.unrelByte (a : EqSt) : Nat := sat 255 (256 * a.unrel / max 1 a.decs)

/-- A ratio of a pilot power to a pilot error power in 0.25 dB, from 0 to 255 (R133). -/
def plmOf (sig err : Nat) : Nat := (clampI 0 255 (dbOf (sig * 2 ^ 64 / max 1 err) / 25)).toNat

/-- The centroid of a tap set's energy over hxx and hyy less the centre tap, in 1/16 taps, at `n` taps (R116). -/
def centroidOf (hs : List (List Cpx)) (n : Nat) : Int :=
  let es := (List.range n).map (fun j => (j, cNorm ((hs.getD 0 []).getD j (0, 0)) + cNorm ((hs.getD 3 []).getD j (0, 0))))
  let e := (es.map (·.2)).foldl (· + ·) 0
  if e = 0 then 0 else ((16 * (es.map (fun x => x.1 * x.2)).foldl (· + ·) 0 / e : Nat) : Int) - 8 * (n - 1 : Nat)

end Sys2Proof.Machine
end

