-- ==== Sys2Proof/Machine/Felwin.lean ====
section
/-!
DEFINITION. How a Felwin command is accepted, acts and is answered (R618, R619, R623 to R627): the checks of Table 17.3 that
follow addressing, the command's own body, and its reply with the slot that holds it.
-/
namespace Sys2Proof.Machine
open Sys2Proof

/-- What a command's body answers: a status, the payload read from the state the effect leaves, reply flags, the effect;
whether the reply waits for a later step, and what happens once the reply is given. -/
structure Ans where
  status : Status
  pay : State → List Nat := fun _ => []
  flags : Nat := 0
  eff : Eff := nop
  defer : Bool := false
  after : Eff := nop

/-- A refusal: a status and no side effect (R19). -/
def no (st : Status) : Ans := { status := st }

/-- OK with an effect and no payload. -/
def okE (e : Eff) : Ans := { status := .ok, eff := e }

/-- OK with an effect and a payload. -/
def okP (e : Eff) (pay : State → List Nat) : Ans := { status := .ok, pay := pay, eff := e }

/-- A class C command taken: PENDING now, its final reply later (R623). -/
def pendE (e : Eff) : Ans := { status := .pending, eff := e }

/-- OK with an effect; the reply is given by a later step. -/
def deferE (e : Eff) : Ans := { status := .ok, eff := e, defer := true }

/-- A class C command taken and ended in the same step: PENDING, then what ends it. -/
def pendThen (e : Eff) : Ans := { status := .pending, after := e }

/-- A Felwin command: its opcode, the parameter counts it allows, the device states it is legal in, and its body. -/
structure OpDef where
  code : Nat
  lenOk : Nat → Bool
  legal : List Nat
  body : CmdHdr → List Nat → State → Ans

/-- Exactly `n` parameter words. -/
def len (n : Nat) (k : Nat) : Bool := k == n

/-- From `a` to `b` parameter words. -/
def lenIn (a b : Nat) (k : Nat) : Bool := decide (a ≤ k ∧ k ≤ b)

/-- The device state code of Table 17.4. -/
def State.dev (s : State) : Nat := s.rd CMD_STATUS.STATE

/-- The sessions a command may name: 0 and those open (R627). -/
def State.sessionOpen (s : State) (n : Nat) : Bool := n == 0 || s.cmd.sessions.contains n

/-- The key of the reply slot of SEQ `q` on ring `r` (R624). -/
def slotKey (r q : Nat) : Nat := 1024 * r + q % 1024

/-- The running form of a command. -/
def runOf (h : CmdHdr) (code : Nat) (p : List Nat) : Running :=
  ⟨h.ring.val, h.seq.toNat, h.session.toNat, h.flags.toNat, code, p⟩

/-- The role of Table 14.2: 0 OOS, 1 ACTIVE, 2 STANDBY, 3 STALE, 4 ISOLATED. -/
def State.role (s : State) : Nat := s.rd PAIR_STATUS.ROLE

/-- Whether the unit is paired (R510). -/
def State.paired (s : State) : Bool := s.on PAIR_CTRL.EN

/-- Whether the unit is paired and not ACTIVE: it then sends no Scribe packet, PTP message, offer or SNR report, and does not source the
overhead channels from its engine buffer (R525). -/
def State.quiet (s : State) : Bool := s.paired && s.role != 1

/-- PROMOTED_STALE, bit 2 of the reply flags: the first reply of a promoted unit to each session (R535). -/
def State.staleFlag (s : State) (session : Nat) : Nat := b2n (!s.pair.told && s.pair.mask != 0 && !s.pair.untold.contains session)

/-- The device's Batten address, 0 where it has none (R628). -/
def State.ownAddr (s : State) : Nat := if s.rd CMD_BAT_STAT.ADDR == 0x7F then 0 else s.rd CMD_BAT_STAT.ADDR

/-- The reply to a command (R617); one flagged PROMOTED_STALE ends with the mask (R535). -/
def State.mkReply (s : State) (r : Running) (st : Status) (flags : Nat) (pay : List Nat) : Reply :=
  let stale := s.staleFlag r.session
  ⟨s.ownAddr, r.ring, r.opcode, r.seq, r.session, flags + (if st = .late then 2 else 0) + 4 * stale, st.code, s.dev,
   (pay ++ if stale = 1 ∧ r.opcode ≠ 0x0D03 ∧ r.opcode ≠ 0x0D04 then [s.pair.mask] else []).map (· % 2 ^ 32), r.flags % 2 == 1 && st != .pending⟩

/-- The header words of a reply packet (Table 17.2), without its CRC. -/
def Reply.words (r : Reply) : List Nat :=
  [r.opcode + 65536 * r.seq, r.addr + 256 * r.flags + 65536 * r.payload.length, r.session + 65536 * r.status + 16777216 * r.state, 0] ++ r.payload

/-- A reply written with NO_HOLD releases its slot (R625), where the slot still holds its command. -/
def unhold (r : Reply) : Eff := dyn fun s =>
  whenE (r.noHold && (match Tab.get none s.cmd.slots (slotKey r.ring r.seq) with | some sl => sl.run.seq == r.seq | none => false))
    (upd (.cmd fun c => { c with slots := Tab.set none c.slots (slotKey r.ring r.seq) none }))

/-- Sends a reply: into its ring's waiting replies (R726), or over Batten to the head from a device that is not the head (R630). -/
def sendReply (r : Reply) : Eff := dyn fun s =>
  if s.rd CMD_BAT_STAT.HEAD == 0 && s.rd CMD_BAT_STAT.ADDR != 0x7F then
    seqE [emit (s.batten 0 (s.rd CMD_BAT_STAT.ADDR) r.ring 1 r.words), unhold r]
  else upd (.cmd fun c => { c with waiting := Tab.set [] c.waiting r.ring (Tab.get [] c.waiting r.ring ++ [r]) })

/-- The parameters a COMMAND record keeps (Table 16.7). -/
def recordParams (r : Running) : List Nat :=
  if r.opcode == 0x0904 || r.opcode / 256 == 0x11 then [r.par.length] else r.par.take 64

/-- Gives command `r` its reply: it is held in its slot (R625), or, with PENDING, its slot stays running; it is sent and recorded. -/
def replyTo (r : Running) (st : Status) (flags : Nat) (pay : State → List Nat) : Eff := dyn fun s =>
  let rep := s.mkReply r st flags (pay s)
  let held : Option Reply := if st = .pending then none else some rep
  seqE [
    upd (.cmd fun c => { c with slots := Tab.set none c.slots (slotKey r.ring r.seq) (some ⟨r, held⟩) }),
    whenE (s.staleFlag r.session == 1) (upd (.pair fun q => { q with untold := r.session :: q.untold })),
    sendReply rep,
    record 2 ([r.session, r.opcode, r.seq, st.code, rep.flags] ++ recordParams r)]

/-- Whether the slot of `r` holds it as running. -/
def State.isRunning (s : State) (r : Running) : Bool :=
  match Tab.get none s.cmd.slots (slotKey r.ring r.seq) with | some sl => sl.run == r && sl.reply.isNone | none => false

/-- The final reply, flagged `flags`, of a command whose slot still holds it as running (R623). A change that the mate's journal brought has no
slot, and no reply. -/
def finishFl (r : Running) (st : Status) (flags : Nat) (pay : List Nat) : Eff := dyn fun s => whenE (s.isRunning r) (replyTo r st flags (fun _ => pay))

/-- The final reply without flags. -/
def finish (r : Running) (st : Status) (pay : List Nat := []) : Eff := finishFl r st 0 pay

/-- The command's slot holds it as running (R624). -/
def slotRuns (r : Running) : Eff := upd (.cmd fun c => { c with slots := Tab.set none c.slots (slotKey r.ring r.seq) (some ⟨r, none⟩) })

/-- The effect of an answer, and its reply where it is not given by a later step. -/
def actAndReply (r : Running) (a : Ans) : Eff :=
  if a.defer && a.status = .ok then seqE [slotRuns r, a.eff] else seqE [a.eff, replyTo r a.status a.flags a.pay, a.after]

/-- The opcodes the Keeper's boot responder answers in BOOT: IDENTIFY, STATUS, ATTEST (Table 17.3 row 5). -/
def bootOps : List Nat := [0x0101, 0x0102, 0x1103]

/-- The opcodes that change the CONFIG or KEYS categories of Table 14.4: those that set modes, plans, lasers, output, receive and
FEC settings, framing, clients, keys and bindings, Scribe, references, time and schedules. -/
def configOps : List Nat :=
  [0x0201, 0x0202, 0x0203, 0x0204, 0x0206, 0x0207, 0x0209] ++ [0x0301, 0x0302, 0x0303, 0x0304, 0x0305, 0x030A, 0x030B, 0x030C] ++
  [0x0501, 0x0601, 0x0604, 0x0606, 0x0701, 0x0702, 0x0703, 0x0704, 0x0707, 0x0801] ++
  [0x0901, 0x0903, 0x0904, 0x0905, 0x0906, 0x0907, 0x090A, 0x0A01, 0x0A02, 0x0B01, 0x0B02, 0x0B03, 0x0B05, 0x0B06] ++
  [0x0C02, 0x0C03, 0x0C04, 0x0C05, 0x0C06, 0x0C09, 0x0C0A, 0x0C0B]

/-- Whether the command is journalled (R518, R519): a change of a synchronous category at an ACTIVE unit with the link up. -/
def State.journals (s : State) (code : Nat) : Bool := configOps.contains code && s.paired && s.role == 1 && s.on PAIR_STATUS.LINK

/-- The block a unit class's commands act on (Table 0.4, Table 19.2); SYS for the system class. -/
def classBlock (code : Nat) : Nat :=
  match code / 256 with
  | 0x02 => 1 | 0x03 => 2 | 0x04 => 3 | 0x05 => 4 | 0x06 => 5 | 0x07 => 6 | 0x08 => 7 | 0x09 => 8 | 0x0A => 9 | 0x0B => 10
  | 0x0C => 11 | 0x0D => 12 | 0x0E => 13 | 0x0F => 14 | 0x10 => 15 | 0x11 => 16 | 0x12 => 17 | _ => 0

/-- Whether block `b` is powered (Table 18.12): the line blocks are off from PS2, all but AON, the timing blocks, the pair
manager, the engines and the host interface from PS3. -/
def State.powered (s : State) (b : Nat) : Bool :=
  match s.rd PWR_STATUS.STATE with
  | 0 => true
  | 1 => true
  | 2 => !([1, 2, 3].contains b)
  | 3 => [0, 10, 11, 12, 13, 15, 16, 17, 18].contains b
  | _ => [16, 17].contains b

/-- The opcodes that need the Keeper (R662). -/
def needsKeeper (code : Nat) : Bool :=
  (code / 256 == 0x11 && code != 0x1101 && code != 0x1108) || [0x0904, 0x0406, 0x0407, 0x0408, 0x1003, 0x1006].contains code

/-- The lifecycle code (R657): the number of lifecycle bits programmed, 5 reading as SCRAPPED, code 4. -/
def State.lifecycle (s : State) : Nat := min s.fuse.life 4

/-- What rows 5 and 7 to 10 of Table 17.3 and the command's body answer. -/
def OpDef.answer (op : OpDef) (h : CmdHdr) (p : List Nat) (s : State) : Ans :=
  if s.dev == 0 && !bootOps.contains op.code then no .busyBoot
  else if !s.sessionOpen h.session.toNat then no .auth
  else if !op.lenOk p.length then no .badLength
  else if !op.legal.contains s.dev then no .state
  else if op.code == 0x0207 && s.dev == 3 && nth p 0 != 1 then no .state
  else if !s.powered (classBlock op.code) then no .state
  else if s.paired && s.role != 1 && configOps.contains op.code then no .state
  else if 1 < h.flags.toNat then no .badParam
  else if s.on SEC_STATUS.KEEPER_ALARM && needsKeeper op.code then no .hwFault
  else op.body h p s

/-- Fields of an image header (Table 18.3): type, format, snapshot format version, version, SVN, key, parts, body bytes, device. -/
def hdrType (h : List Nat) : Nat := nth h 1 % 256
def hdrFmt (h : List Nat) : Nat := nth h 1 / 256 % 256
def hdrSnap (h : List Nat) : Nat := nth h 1 / 65536
def hdrVersion (h : List Nat) : Nat := nth h 2
def hdrSvn (h : List Nat) : Nat := nth h 3 % 256
def hdrKey (h : List Nat) : Nat := nth h 3 / 256 % 256
def hdrParts (h : List Nat) : Nat := nth h 3 / 65536
def hdrDevice (h : List Nat) : Nat := nth h 5 + nth h 6 * 2 ^ 32

/-- The snapshot format version of the engine image in force (R516). -/
def State.snapFmt (s : State) : Nat := hdrSnap s.eng.running

/-- A packet on Mitre, laid on the lanes of the transmitter's ACTIVE (R331, R515). -/
def State.mitre (s : State) (kind : Nat) (body : List Nat) : Output :=
  .mitre kind body (layPacket (bitsSet 4 (s.rd SRD_GRP_STAT.MITRE_TX)).length (Config.mitreBytes kind (s.rd VNR_PAGE_STAT.GEN0 1) body))

/-- Sends a packet to the mate. -/
def toMate (kind : Nat) (body : List Nat) : Eff := fun s => [.emit (s.mitre kind body)]

/-- The current generation of each key slot: 2 × page + slot, then what `f` takes of it. -/
def State.curGens (s : State) (f : KeyGen → List Nat) : List Nat := s.vnr.slots.flatMap (fun e => match e.2.cur with | some c => e.1 :: f c | none => [])

/-- Pairs of signed numbers as words of 64 bits. -/
def pairWords (zs : List (Int × Int)) : List Nat := zs.flatMap (fun z => w64 (toPat 64 z.1) ++ w64 (toPat 64 z.2))

/-- What the parts of the asynchronous categories hold (Table 14.4): 1 and 2 LINE, its running counts and the rest, 3 ADAPT, 4 TIME, 5 SCRIBE, 6 COUNTS,
7 PM, of which the latest record. -/
def State.glueOf (s : State) (part : Nat) : List Nat :=
  match part with
  | 1 => [s.rd LTX_SF_NUM.ALL, s.ltx.acc] ++ s.curGens (fun c => w64 c.seq)
  | 2 => [s.rd LTX_STATUS.PLAN_PENDING, s.word CLI_MOVE_STAT.fields] ++
      (List.range 2).map (fun k => s.rd LTX_PLAN_HDR.PLAN_ID k) ++ (List.range 32).map (fun k => s.word LTX_PLAN_SC.fields k)
  | 3 => [b2n s.adapt.committed, b2n s.adapt.verify, s.lrx.verif, b2n s.adapt.backoff, s.rd LRX_ADAPT_STAT.BACKOFF_LEFT] ++
      (match s.adapt.offer with | some o => [o.seq, o.id, o.m, o.resends] ++ o.words | none => [])
  | 4 => s.rd TOD_STATUS.SERVO :: pairWords s.tod.meas ++ pairWords s.tod.delay ++
      (match s.tod.wait with | some a => a.left :: pairWords [(a.oldA, a.oldB), (a.base, 0)] | none => [])
  | 5 => [s.rd SCR_STATUS.STATE, s.rd SCR_STATUS.ROLE, s.rd SCR_STATUS.KEYED, s.scr.seq] ++ w64 (s.rd SCR_PEER_CUR.ALL) ++
      [4, 5].flatMap (fun k => match (Tab.get {} s.vnr.slots k).cur with | some c => k :: c.gen :: c.salt :: c.key ++ w64 c.seq | none => [])
  | 6 => s.curGens (fun c => w64 c.la)
  | _ => match s.frm.recs with | r :: _ => w64 r.time ++ r.frames :: r.layers.flatten | [] => []

/-- What a section of a snapshot holds beside the registers (R517): the generations in use, with their keys; the running counts and plans; the whole
record store; the other parts as their entries have them. -/
def State.snapPart (s : State) (c : Nat) : List Nat :=
  match c with
  | 0 => []
  | 1 => s.curGens (fun g => g.gen :: g.salt :: g.key)
  | 2 => s.glueOf 1 ++ s.glueOf 2
  | 7 => s.frm.recs.flatMap (fun r => w64 r.time ++ r.frames :: r.layers.flatten)
  | _ => s.glueOf c

/-- The sections of a snapshot (Table 14.5), categories 0 to 7 in turn: the code, the length in bytes, the payload in the image's format. -/
def State.sections (s : State) : List Nat :=
  (List.range 8).flatMap (fun c =>
    let body := Config.snapSection s.snapFmt c s.regs (s.snapPart c)
    c :: 4 * body.length :: body)

/-- The snapshot cut in state `s` (Table 14.5) as words, the first byte of each its bits 7..0: header, sections, digest. -/
def State.snapshot (s : State) : List Nat :=
  let w := w64 (s.rd LTX_SF_NUM.ALL + s.todNs % 2 ^ 48 * 65536)
  let bs := [s.snapFmt % 256 + 0xFF * 65536, s.rd PAIR_EPOCH.ALL, s.rd PAIR_JSEQ.ALL, 4 * s.sections.length] ++ w64 s.fuse.devId ++ w ++ s.sections
  bs ++ Config.sha384 bs

/-- The active cuts a snapshot (R520): EPOCH steps, the cut is the last entry sent, and the snapshot goes to the mate with every
category but RECEIVE. -/
def cutSnapshot : Eff := dyn fun s => seqE [
  put PAIR_EPOCH.ALL (s.rd PAIR_EPOCH.ALL + 1),
  upd (.pair fun q => { q with jcut := s.rd PAIR_JSEQ.ALL, cutBytes := 0 }),
  dyn fun s => toMate 3 s.snapshot]

/-- The mate becomes STALE by this unit's decision, and is told; a new cut follows while the link is up (R520). -/
def mateStale : Eff := dyn fun s => seqE [put PAIR_STATUS.MATE_ROLE 3, toMate 7 [3], whenE (s.on PAIR_STATUS.LINK) cutSnapshot]

/-- Sends a journal entry (R519): JSEQ steps, the entry is kept for resending. More than 64 MiB kept is discarded, the standby becoming STALE
(R522); more than 4 MiB since the last cut brings a new one (R520). -/
def journal (cat : Nat) (body : List Nat) : Eff := seqE [fun s =>
  let e : JEntry := ⟨(s.rd PAIR_JSEQ.ALL + 1) % 2 ^ 32, s.rd PAIR_EPOCH.ALL, cat, body⟩
  [.put PAIR_JSEQ.ALL 0 e.jseq, .emit (s.mitre 2 (e.jseq :: e.epoch :: e.cat :: body.length :: body)),
   .pair fun q => { q with kept := q.kept ++ [e], keptBytes := q.keptBytes + 16 + 4 * body.length, cutBytes := q.cutBytes + 16 + 4 * body.length }],
  dyn fun s =>
    if 67108864 < s.pair.keptBytes then seqE [upd (.pair fun q => { q with kept := [], keptBytes := 0 }), raise EV.PAIR_SYNC_FAIL [s.rd PAIR_EPOCH.ALL, 3], mateStale]
    else whenE (decide (4194304 < s.pair.cutBytes)) cutSnapshot]

/-- A command with parameters `p` taken from row 5 of Table 17.3 on: checked, acted on and answered; a SCRAPPED device answers
IDENTIFY and STATUS alone (Table 18.9), and in PS4 no command reaches the device (Table 18.12). A journalled change waits for its acknowledgement before it is applied and answered while the mate is STANDBY, else it does not (R518). -/
def felwinN (op : OpDef) (h : CmdHdr) (p : List Nat) : Eff := dyn fun s =>
  let a := op.answer h p s
  if (s.lifecycle == 4 && op.code != 0x0101 && op.code != 0x0102) || s.rd PWR_STATUS.STATE == 4 then nop
  else if s.journals op.code && (a.status = .ok ∨ a.status = .pending ∨ a.status = .late) then seqE [
    journal (if op.code / 256 == 9 then 1 else 0) (op.code :: p),
    if s.rd PAIR_STATUS.MATE_ROLE = 2 then seqE [slotRuns (runOf h op.code p),
      dyn fun s => upd (.pair fun q => { q with wait := some (runOf h op.code p, s.rd PAIR_JSEQ.ALL) })]
    else actAndReply (runOf h op.code p) a]
  else actAndReply (runOf h op.code p) a

/-- A Felwin command. -/
def felwin (op : OpDef) (h : CmdHdr) (p : List Word) : Eff := felwinN op h (p.map (·.toNat))

/-- The device states of Table 17.4 by their codes: all but BOOT; and READY, CONFIGURED, IN_SERVICE, MAINT. -/
def upStates : List Nat := [1, 2, 3, 4, 5]
def runStates : List Nat := [1, 2, 3, 4]
/-- CONFIGURED, IN_SERVICE, MAINT. -/
def cfgStates : List Nat := [2, 3, 4]

end Sys2Proof.Machine
end

