-- ==== Sys2Proof/Machine/RegMap.lean ====
section
/-!
DEFINITION. The register map of BAR0 (R675 to R678, R684, R689): the blocks, the register an offset names, and where aliases lie.
-/
namespace Sys2Proof.Machine

/-- The registers of block `b` (Table 19.2). -/
def regsOf : Nat → List RegDef
  | 0 => SYS.regs
  | 1 => LTX.regs
  | 2 => LRX.regs
  | 3 => CNV.regs
  | 4 => FEC.regs
  | 5 => FRM.regs
  | 6 => CLI.regs
  | 7 => SRD.regs
  | 8 => VNR.regs
  | 9 => SCR.regs
  | 10 => REF.regs
  | 11 => TOD.regs
  | 12 => PAIR.regs
  | 13 => MON.regs
  | 14 => OBS.regs
  | 15 => ENG.regs
  | 16 => SEC.regs
  | 17 => PWR.regs
  | 18 => CMD.regs
  | _ => []

/-- Which instance of register `r` the byte offset `off` lies in, if any. -/
def RegDef.inst (r : RegDef) (off : Nat) : Option Nat :=
  if off < r.off then none
  else if r.stride = 0 then (if off < r.off + r.size then some 0 else none)
  else if (off - r.off) % r.stride < r.size ∧ (off - r.off) / r.stride < r.count then some ((off - r.off) / r.stride) else none

/-- The first of `rs` that `off` lies in, with the instance. -/
def findIn (off : Nat) : List RegDef → Option (RegDef × Nat)
  | [] => none
  | r :: rs => match r.inst off with | some i => some (r, i) | none => findIn off rs

/-- The register at BAR0 offset `off`, with the instance (R675). -/
def findReg (off : Nat) : Option (RegDef × Nat) := findIn off (regsOf (off / 0x100000))

/-- The offset of instance `i`. -/
def RegDef.at (r : RegDef) (i : Nat) : Nat := r.off + i * r.stride

/-- Whether instance `i` is one that its table gives as read-only where others of the array are not (Tables 2.10, 10.11, 12.7). -/
def RegDef.fixed (r : RegDef) (i : Nat) : Bool :=
  (r.off == 0x100100 && i == 0) || (r.off == 0x100200 && decide (i < 16)) || ((r.off == 0x800100 || r.off == 0x800108) && decide (i < 8)) ||
  (r.off == 0xA0010C && decide (8 ≤ i))

/-- Whether every field of the instance is RO. -/
def RegDef.readOnly (r : RegDef) (i : Nat) : Bool := r.fixed i || r.flds.all (fun f => f.acc == .ro)

/-- Whether the instance has RW or RWL fields. -/
def RegDef.holds (r : RegDef) (i : Nat) : Bool := !r.fixed i && r.flds.any Fld.writable

/-- The register offset that a set alias (`true`) or clear alias (`false`) address stands for (Table 19.2): the blocks below 0x100_0000 have theirs
at +0x200_0000 and +0x300_0000, SEC, PWR and CMD at +0x0A0_0000 and +0x0D0_0000. -/
def aliasOf (off : Nat) : Option (Bool × Nat) :=
  if 0x2000000 ≤ off ∧ off < 0x3000000 then some (true, off - 0x2000000)
  else if 0x3000000 ≤ off ∧ off < 0x4000000 then some (false, off - 0x3000000)
  else if 0x1A00000 ≤ off ∧ off < 0x1D00000 then some (true, off - 0xA00000)
  else if 0x1D00000 ≤ off ∧ off < 0x2000000 then some (false, off - 0xD00000)
  else none

end Sys2Proof.Machine
end

