-- ==== Sys2Proof/Machine/Access.lean ====
section
/-!
DEFINITION. Field writes by a bus master: access status, ranges, locks and powered-down blocks (R9, R665, R680, R681, R684, R690).
-/
namespace Sys2Proof.Machine
open Sys2Proof

/-- Flags an access of master `m` at offset `off` (R681): the flag sets, ERRORS counts, the first offset since the last clear is
captured. -/
def flagAcc (m : Nat) (flag : Fld) (off : Nat) : Eff := fun s =>
  [.put flag m 1, .put SYS_ACC_STAT.ERRORS m (sat 255 (s.rd SYS_ACC_STAT.ERRORS m + 1))] ++
  (if (Tab.get none s.sys.accAddr m).isNone then [.sys fun y => { y with accAddr := Tab.set none y.accAddr m (some off) }] else [])

/-- The BAR0 offset of instance `i` of the field's register. -/
def Fld.at (f : Fld) (i : Nat) : Nat := f.off + i * f.stride

/-- The lock conditions of Table 19.5, by the block and offset of the register. -/
def State.lockCond (s : State) (f : Fld) (i : Nat) : Bool :=
  match f.block with
  | 0 => s.on SYS_EQ_CFG.EN
  | 1 => if f.off = LTX_PLAN_HDR.PLAN_ID.off ∨ f.off = LTX_PLAN_SC.EN.off then s.on LTX_STATUS.PLAN_PENDING else s.on LTX_CTRL.LOCK || s.on LTX_STATUS.TX_ON
  | 2 => s.on LRX_CTRL.RX_EN
  | 6 => s.on CLI_CH_CTRL.EN i
  | 8 => s.on CLI_CH_CTRL.EN i
  | 18 => s.on CMD_RING_CFG.EN i
  | _ => false

/-- Whether an RWL field is locked against master `m` (R690). -/
def State.locked (s : State) (m : Nat) (f : Fld) (i : Nat) : Bool :=
  f.acc == .rwl && (s.lockCond f i || (bit (s.rd SYS_LOCK.LOCK) f.block && m != 1 && m != 2))

/-- Whether block `b` takes register writes: its island released from reset (after READY, or one of the always-on and boot
blocks) and powered (R665, *The SYS block*). -/
def State.writable (s : State) (b : Nat) : Bool := (s.dev != 0 || [0, 16, 17, 18].contains b) && s.powered b

/-- Whether a master is an engine of cluster 7, which runs customer code (R585, R637). -/
def inSandbox (m : Mast) : Bool := decide (60 ≤ m.val)

/-- Whether a write by master `m` is recorded: those of the engines of clusters 1 to 6 only while LOG_ENG is 1 (Table 16.7). -/
def State.logs (s : State) (m : Nat) : Bool := !decide (12 ≤ m ∧ m ≤ 59) || s.on OBS_CTRL.LOG_ENG

/-- Whether a register of block `b` belongs to the CONFIG category of Table 14.4: the line, client, key, Scribe, reference and time blocks. -/
def configBlock (b : Nat) : Bool := [1, 2, 4, 5, 6, 7, 8, 9, 10, 11].contains b

/-- A register's value as record words: one, or two for a 64-bit register. -/
def RegDef.value (r : RegDef) (v : Nat) : List Nat := if r.size = 8 then w64 v else [v]

/-- The effect `e` of a write of `w` by master `m` to register `r`, instance `i`: recorded with its old and new value where the register holds
RW or RWL fields (Table 16.7), and a host's write to a CONFIG register of an ACTIVE unit journalled to its mate (R518, log entry 40). -/
def logWrite (m : Nat) (r : RegDef) (i : Nat) (w : State → Nat) (e : Eff) : Eff := dyn fun s => seqE [e, dyn fun t => seqE [
  whenE (r.holds i && s.logs m) (record 3 ([m, r.at i] ++ r.value (s.word r.flds i) ++ r.value (t.word r.flds i))),
  whenE (m == 0 && configBlock (r.off / 0x100000) && s.paired && s.role == 1 && s.on PAIR_STATUS.LINK) (journal 0 ([0, r.at i] ++ r.value (w t)))]]

/-- A write by master `m` that acts on the register of field `f`: an engine of cluster 7 is denied it and the denial counted (R637); a
block that takes no writes sets RANGE. -/
def byMaster (m : Mast) (f : Fld) (i : Nat) (e : Eff) : Eff := dyn fun s =>
  if inSandbox m then bump ENG_SBX_DENY.WRITES
  else if !s.writable f.block then flagAcc m SYS_ACC_STAT.RANGE (f.at i)
  else match findReg (f.at i) with
  | some (r, k) => logWrite m r k (fun t => t.word r.flds k ||| (if f.acc == .w1s then 2 ^ f.lo else 0)) e
  | none => e

/-- A low-word read of a 64-bit register by master `m` latches its high word (R691). -/
def latchShadow (m off hi : Nat) : Eff := fun s =>
  [.put SYS_ACC_STAT.SHADOW_GEN m (s.rd SYS_ACC_STAT.SHADOW_GEN m + 1), .sys fun y => { y with rdShadow := Tab.set none y.rdShadow m (some (off, hi)) }]

/-- A write of `v` by master `m` to field `f` of instance `i`, followed by `after` where it takes effect (R9, R684, R690, R665).
`ok` is what the field's owner asks of the value besides its range. -/
def setFieldIf (m : Nat) (f : Fld) (i v : Nat) (ok : Bool) (after : Eff) : Eff := dyn fun s =>
  if !s.writable f.block then flagAcc m SYS_ACC_STAT.RANGE (f.at i)
  else if s.locked m f i then whenE (v != s.rd f i) (flagAcc m SYS_ACC_STAT.LOCK (f.at i))
  else if !f.inRange v || !ok then flagAcc m SYS_ACC_STAT.RANGE (f.at i)
  else seqE [put f v i, after]

/-- A write of a field that has no effect of its own beside its value. -/
def setField (m : Nat) (f : Fld) (i v : Nat) : Eff := setFieldIf m f i v true nop

end Sys2Proof.Machine
end

