-- ==== Sys2Proof/Machine/Defects.lean ====
section
/-!
DEFINITION. The line's defects and their consequent actions, and which client channels are carried and filled (R261 to R266, R288,
R289, R293, R361).
-/
namespace Sys2Proof.Machine
open Sys2Proof

/-! ### Channels -/

/-- Whether channel `t` is configured. -/
def State.chOn (s : State) (t : Nat) : Bool := s.on CLI_CH_CTRL.EN t

/-- Whether channel `t` is a configured Ethernet channel. -/
def State.isEth (s : State) (t : Nat) : Bool := s.chOn t && decide (1 ≤ s.rd CLI_CH_CFG.TYPE t ∧ s.rd CLI_CH_CFG.TYPE t ≤ 5)

/-- The host lanes a client takes (Table 8.1); `none` where the table has no such arrangement. -/
def laneCount (typ rate m : Nat) : Option Nat :=
  match typ, rate with
  | 1, 1 => some 1 | 1, 2 => some 2
  | 2, 0 => some 1 | 2, 1 => some 2 | 2, 2 => some 4
  | 3, 0 => some 2 | 3, 1 => some 4 | 3, 2 => some 8
  | 4, 0 => some 4 | 4, 1 => some 8
  | 5, 0 => some 8
  | 6, 0 => if m % 2 = 0 ∧ 1 ≤ m ∧ m ≤ 16 then some (m / 2) else none
  | 6, 1 => if 1 ≤ m ∧ m ≤ 16 then some m else none
  | 6, 2 => if 1 ≤ m ∧ m ≤ 8 then some (2 * m) else none
  | 7, _ => some 0
  | _, _ => none

/-- The least power of two not below `k`, for up to 16 lanes. -/
def pow2Up (k : Nat) : Nat := if k ≤ 1 then 1 else if k ≤ 2 then 2 else if k ≤ 4 then 4 else if k ≤ 8 then 8 else 16

/-- The lanes of a client's group (R283), `none` where type, rate, m or base are not allowed. -/
def laneGroup (typ rate m base : Nat) : Option (List Nat) :=
  match laneCount typ rate m with
  | none => none
  | some 0 => if m = 0 then some [] else none
  | some k => if base % pow2Up k = 0 ∧ base + k ≤ 16 ∧ (typ = 6 ∨ m = 0) then some ((List.range k).map (base + ·)) else none

/-- The lanes of configured channel `t`. -/
def State.lanesOf (s : State) (t : Nat) : List Nat :=
  (laneGroup (s.rd CLI_CH_CFG.TYPE t) (s.rd CLI_CH_CFG.RATE t) (s.rd CLI_CH_CFG.M t) (s.rd CLI_CH_CFG.LANE_BASE t)).getD []

/-- Whether channel `t` is bound to a Veneer page. -/
def State.chBound (s : State) (t : Nat) : Bool := s.rd VNR_CH_BIND.PAGE t != 255

/-- The 100GbE units of an Ethernet type (Table 8.1). -/
def ethUnits (typ : Nat) : Nat :=
  match typ with
  | 1 => 1 | 2 => 2 | 3 => 4 | 4 => 8 | 5 => 16 | _ => 0

/-- The least and the greatest slot count of a type (Table 8.1). -/
def slotRange (typ m : Nat) : Nat × Nat :=
  match typ with
  | 6 => (21 * m, 21 * m)
  | 7 => (1, 640)
  | _ => (20 * ethUnits typ, 640)

/-- The Ethernet units an interoperable mode carries (R288). -/
def interopUnits (mode : Nat) : Nat :=
  match mode with
  | 6 => 4 | 7 => 4 | 8 => 3 | 9 => 2 | 10 => 1 | _ => 0

/-- Whether an interoperable mode carries a type at all (R288). -/
def interopType (mode typ : Nat) : Bool := if mode = 6 then typ == 3 else typ == 1 || typ == 2 || typ == 3

/-- The slots of the mode in force: 20 n (R284); none in an interoperable mode. -/
def State.modeSlots (s : State) : Nat := if nativeMode (s.rd LTX_CTRL.MODE) then 20 * otucOf (s.rd LTX_CTRL.MODE) (s.rd LTX_CTRL.OTUC_N) else 0

/-- The slots whose owner is channel `t`, in increasing order. -/
def State.slotsOf (s : State) (t : Nat) : List Nat := (List.range 640).filter (fun q => s.rd CLI_TS_OWNER.OWNER q == t)

/-- The Ethernet units held by the channels up to `t` that an interoperable mode can carry. -/
def State.unitsUpTo (s : State) (t : Nat) : Nat :=
  (((List.range (t + 1)).filter (fun c => s.chOn c && interopType (s.rd LTX_CTRL.MODE) (s.rd CLI_CH_CFG.TYPE c) && !s.chBound c)).map
    (fun c => ethUnits (s.rd CLI_CH_CFG.TYPE c))).foldl (· + ·) 0

/-- Whether the line carries configured channel `t` in the mode in force (R288, R289, R361). -/
def State.carried (s : State) (t : Nat) : Bool :=
  let mode := s.rd LTX_CTRL.MODE
  let typ := s.rd CLI_CH_CFG.TYPE t
  let n := s.rd CLI_CH_CFG.SLOTS t
  let (lo, hi) := slotRange typ (s.rd CLI_CH_CFG.M t)
  if nativeMode mode then decide (lo ≤ n ∧ n ≤ hi ∧ 0 < n) && (s.slotsOf t).all (fun q => decide (q < s.modeSlots))
  else interopMode mode && interopType mode typ && !s.chBound t && (mode != 6 || s.unitsUpTo t == 4) && decide (s.unitsUpTo t ≤ interopUnits mode)

/-- The configured channels. -/
def State.channels (s : State) : List Nat := (List.range 32).filter s.chOn

/-- Channel `t` goes to state `st` of Table 8.9 with CLIENT_DOWN for `cause` (R322), unless it is there. In states 5 to 8 its egress sends
local fault, or for type 6 the frames of R302 (R296). In a switchover gap none goes down (R534). -/
def chDown (t st cause : Nat) : Eff := dyn fun s =>
  if s.rd CLI_CH_STAT.STATE t == st || s.pair.gap then nop
  else seqE [put CLI_CH_STAT.STATE st t, whenE (decide (5 ≤ st)) (put CLI_CH_STAT.LF_OUT 1 t),
    upd (.cli fun c => { c with downAt := if s.rd CLI_CH_STAT.STATE t == 3 then Tab.set 0 c.downAt t s.tick else c.downAt }), raise EV.CLIENT_DOWN [t, cause]]

/-! ### Defects -/

/-- Whether a defect is present. -/
def State.defect (s : State) (code layer : Nat) : Bool := s.frm.defects.any (fun d => d.code == code && d.layer == layer)

/-- Whether AIS, LCK or OCI. -/
def isMaint (code : Nat) : Bool := code == 5 || code == 6 || code == 7

/-- Whether defect `c'` of layer `l'` suppresses defect `c` of layer `l` (Table 7.5). LOS, LOSF, LOF and LOM, codes 1 to 4, stand at layer 0. -/
def suppresses (c' l' c l : Nat) : Bool :=
  if c ≤ 4 then decide (c' < c)
  else if c = 10 then (l' == l && c' != 10) || decide (l' < l ∧ l' ≤ 1)
  else decide (c' ≤ 4) || (decide (2 ≤ l) && l' == 1 && isMaint c' && c != 9) || (c == 8 && decide (1 ≤ l) && l' == l && isMaint c')

/-- A defect clears, with its duration in ms (Table 7.10). -/
def clearDefect (code layer : Nat) : Eff := dyn fun s =>
  match s.frm.defects.find? (fun d => d.code == code && d.layer == layer) with
  | none => nop
  | some d => seqE [upd (.frm fun f => { f with defects := f.defects.filter (fun e => !(e.code == code && e.layer == layer)) }),
      raise EV.DEFECT_CLEAR [code, layer, (s.tick - d.since) * 32 / 25000000]]

/-- A defect whose entry condition holds is declared unless suppressed; those it suppresses clear (R261). -/
def declareDefect (code layer : Nat) : Eff := dyn fun s =>
  if s.defect code layer || s.frm.defects.any (fun d => suppresses d.code d.layer code layer) || !s.on LRX_CTRL.RX_EN then nop
  else seqE [upd (.frm fun f => { f with defects := f.defects ++ [⟨code, layer, s.tick⟩], seen := f.seen ++ [(code, layer)] }),
    raise EV.DEFECT_RAISE [code, layer],
    forE (s.frm.defects.filter (fun d => suppresses code layer d.code d.layer)) (fun d => clearDefect d.code d.layer)]

/-- Whether LOS, LOSF, LOF or LOM stands. -/
def State.lineDefect (s : State) : Bool := s.frm.defects.any (fun d => decide (d.code ≤ 4))

/-- Whether AIS, LCK or OCI of layer `l` stands. -/
def State.maintDefect (s : State) (l : Nat) : Bool := s.frm.defects.any (fun d => isMaint d.code && d.layer == l)

/-- Whether Dovetail is in frame (Table 7.3). -/
def State.inFrame (s : State) : Bool := decide (3 ≤ s.rd FRM_STATUS.DOVE)

/-- Whether every received tributary carries all-ones fill (R262, R264, R265, R266). -/
def State.fillAll (s : State) : Bool :=
  !s.on LRX_CTRL.RX_EN || !s.inFrame || s.lineDefect || s.maintDefect 1 || (s.on FRM_CA_CFG.TIM_ACT && (s.defect 9 0 || s.defect 9 1)) ||
  (s.dev == 4 && s.on FRM_CTRL.FILL_FORCE)

/-- Whether tributary `t` carries all-ones fill by the line's defects or its own (Table 7.6, R316). -/
def State.fillTrib (s : State) (t : Nat) : Bool := s.fillAll || s.maintDefect (2 + t) || s.cli.late.contains t

/-- BDI sent in SM, in ODUC PM and in the PM of ODUflex `t` (Table 7.6, R262, R266, R275). -/
def State.bdiSm (s : State) : Bool :=
  (s.on LRX_CTRL.RX_EN && (s.lineDefect || (s.on FRM_CA_CFG.TIM_ACT && s.defect 9 0))) || (s.dev == 4 && s.on FRM_CTRL.BDI_FORCE)
def State.bdiPm (s : State) : Bool :=
  (s.on LRX_CTRL.RX_EN && (s.lineDefect || s.maintDefect 1 || (s.on FRM_CA_CFG.TIM_ACT && s.defect 9 1))) || (s.dev == 4 && s.on FRM_CTRL.BDI_FORCE)
def State.bdiFlex (s : State) (t : Nat) : Bool := s.on LRX_CTRL.RX_EN && (s.lineDefect || s.maintDefect 1 || s.maintDefect (2 + t))

/-- The channel an accepted entry names, where it is occupied. -/
def State.rxOwner (s : State) (q : Nat) : Option Nat := if s.on CLI_RX_MSI.OCC q then some (s.rd CLI_RX_MSI.CHAN q) else none

/-- How many accepted slots channel `t` has. -/
def State.rxSlots (s : State) (t : Nat) : Nat := ((List.range 640).filter (fun q => s.rxOwner q == some t)).length

/-- How channel `t` stands by its accepted slots, where the receive mode is native (R293): 7 absent, 6 in mismatch, else 0. -/
def State.slotState (s : State) (t : Nat) : Nat :=
  let n := s.rxSlots t
  let (lo, hi) := slotRange (s.rd CLI_CH_CFG.TYPE t) (s.rd CLI_CH_CFG.M t)
  if !nativeMode (s.rd LRX_CTRL.MODE) then 0 else if n = 0 then 7 else if n < lo ∨ hi < n then 6 else 0

/-- The channels follow their slots and the consequent actions (R264, R265, R289, R293): one the mode does not carry goes to MODE; a carried
one without accepted slots is absent, with too few or, for type 6, another count than 21 m in mismatch; one whose tributary fills goes to egress
fill; else it aligns again. -/
def judgeFill : Eff := dyn fun s => forE s.channels fun t =>
  let st := s.rd CLI_CH_STAT.STATE t
  if !s.carried t then (if s.rd LTX_CTRL.MODE = 0 then nop else chDown t 8 5)
  else if s.slotState t = 7 then chDown t 7 4
  else if s.slotState t = 6 then chDown t 6 3
  else if s.fillTrib t then (if st < 5 then chDown t 5 2 else put CLI_CH_STAT.STATE 5 t)
  else whenE (decide (5 ≤ st)) (put CLI_CH_STAT.STATE (if s.on CLI_CH_STAT.ING_FAIL t then 4 else 2) t)

/-- LOSF follows the receiver (Table 7.5): it stands while the receiver is enabled and no LLRs are released. -/
def syncLosf : Eff := seqE [dyn fun s =>
  if s.on LRX_CTRL.RX_EN && !s.lrx.llr then declareDefect 2 0 else clearDefect 2 0, judgeFill]

/-- LOS arises (Table 7.5). -/
def losEnter : Eff := seqE [declareDefect 1 0, judgeFill]

/-- With RX_EN at 0 no defect stands (R262). -/
def clearDefects : Eff := seqE [dyn fun s => forE s.frm.defects (fun d => clearDefect d.code d.layer), judgeFill]

/-- The laser port that serves the local oscillator (R20, R21): port 1 where there is light at LAS_LO, else port 0 by the internal splitter. -/
def State.loPort (s : State) : Nat := if s.ltx.loLight then 1 else 0

/-- Light at LAS_TX: from outside, or as the laser of port 0 lases. -/
def State.txPresent (s : State) : Bool := s.ltx.txLight || s.on LTX_LAS_STAT.LASING 0

/-- A message of the line timing channel: sent, and queued, stuffed and with its flag, for the frames (R252). -/
def timeMsg (bytes : List Nat) : Eff := seqE [emit (.lineTime bytes), upd (.frm fun f => { f with timeOut := f.timeOut ++ stuffed bytes ++ [0x7E] })]

/-! ### Tributary moves -/

/-- The pending move leaves CLI_MOVE_STAT, and the pending map equals the active map again (R317). -/
def dropMove : Eff := seqE [fun s => (List.range 640).map (fun q => .put CLI_TS_OWNER.PEND q (s.rd CLI_TS_OWNER.OWNER q)),
  put CLI_MOVE_STAT.PENDING 0, put CLI_MOVE_STAT.CD 0, upd (.cli fun c => { c with move := none })]

/-- A channel takes a slot set in the transmit map; slots it leaves become free (R313). -/
def takeSlots (t : Nat) (slots : List Nat) : Eff := fun s =>
  let own (c q : Nat) : List Upd := [.put CLI_TS_OWNER.OWNER q c, .put CLI_TS_OWNER.PEND q c]
  (s.slotsOf t).flatMap (own 255) ++ slots.flatMap (own t) ++ [.put CLI_CH_CFG.SLOTS t slots.length]

/-- The pending move takes effect (R311, R313), with TRIB_MOVE_APPLIED carrying `sf`. -/
def applyMove (sf : Nat) : Eff := dyn fun s =>
  match s.cli.move with
  | none => nop
  | some m =>
    let old := s.rd CLI_CH_CFG.SLOTS m.ch
    seqE [takeSlots m.ch m.slots, dropMove, put CLI_MOVE_STAT.TARGET_SF sf, raise EV.TRIB_MOVE_APPLIED [m.ch, old, m.slots.length, sf]]

end Sys2Proof.Machine
end

