-- ==== Sys2Proof/Machine/Cipher.lean ====
section
/-!
DEFINITION. Veneer's key slots, scheduled key changes and protection state (R351, R353, R357, R360, R370 to R376, R388 to R394).
-/
namespace Sys2Proof.Machine
open Sys2Proof

/-! ### Slots -/

/-- The fields of VNR_PAGE_STAT of slot `k`. -/
def genFld (k : Nat) : Fld := if k = 0 then VNR_PAGE_STAT.GEN0 else VNR_PAGE_STAT.GEN1
def validFld (k : Nat) : Fld := if k = 0 then VNR_PAGE_STAT.V0 else VNR_PAGE_STAT.V1

/-- A key enters a slot (R357, R370, R374): GEN steps, the generation before is retained. -/
def placeKey (p k : Nat) (key : List Nat) (salt : Nat) : Eff := dyn fun s =>
  let gen := (s.rd (genFld k) p + 1) % 32
  seqE [modSlot p k (fun y => { y with cur := some ⟨gen, key, salt, 0, 0, false, false, false, []⟩, ret := y.cur }), put (genFld k) gen p, put (validFld k) 1 p]

/-- The key and salt of a session (R421, R515): the one-step derivation of SP 800-56C with SHA-384 over the ECDH secret of the own ephemeral key `e`
and the far one, with both identifiers and nonces, the leader's first. -/
def sessionKey (leads : Bool) (e : Nat) (pub : List Nat) (own far : Nat) (nOwn nFar : List Nat) : List Nat :=
  Config.sha384 ([1] ++ Config.ecdh e pub ++ (if leads then w64 own ++ w64 far ++ nOwn ++ nFar else w64 far ++ w64 own ++ nFar ++ nOwn))

/-- A slot is zeroised with its retained generation (R378, R393). -/
def eraseSlot (p k : Nat) : Eff := seqE [modSlot p k (fun _ => {}), put (validFld k) 0 p,
  fun s => [.put VNR_PAGE_STAT.RX_USE p (clrBit (s.rd VNR_PAGE_STAT.RX_USE p) k)]]

/-- The Keeper keys pages 0 to 3 (R353, R393), with keys no master reads. -/
def keyPrivileged : Eff := forE (List.range 4) fun p => dyn fun s => seqE [drawn, placeKey p 0 [s.free 23] (s.free 24 % 2 ^ 32)]

/-! ### Scheduled changes -/

/-- The 72-bit mask of a set of pages in three words (R399). -/
def maskWords (ps : List Nat) : List Nat :=
  (List.range 3).map (fun w => (ps.filter (fun p => p / 32 == w)).foldl (fun a p => setBit a (p % 32)) 0)

/-- The pages a three-word mask names. -/
def pagesOf (ws : List Nat) : List Nat := (List.range 96).filter (fun p => bit (nth ws (p / 32)) (p % 32))

/-- A page's switch takes effect: its current slot is the other one. -/
def flipPage (p : Nat) : Eff := fun s => [.put VNR_PAGE_STAT.TX_KP p (1 - s.rd VNR_PAGE_STAT.TX_KP p)]

/-- The pending batch takes effect (R372, R376, R402), with KEY_SWITCHED carrying `sf`. -/
def applyBatch (sf : Nat) : Eff := dyn fun s =>
  match s.vnr.batch with
  | none => nop
  | some b => seqE [forE b.switch flipPage,
      forE (b.switch ++ b.rewrite) (fun p => seqE [put VNR_PAGE_STAT.PENDING 0 p, put VNR_PAGE_STAT.TARGET_SF sf p]),
      upd (.vnr fun v => { v with batch := none }), raise EV.KEY_SWITCHED (maskWords (b.switch ++ b.rewrite) ++ [b.num, sf])]

/-- A page's pending change is cleared (R378). -/
def clearPending (p : Nat) : Eff := seqE [put VNR_PAGE_STAT.PENDING 0 p, upd (.vnr fun v => { v with batch :=
  match v.batch with
  | none => none
  | some b =>
    let b' : Batch := ⟨b.sf, b.num, b.switch.filter (· != p), b.rewrite.filter (· != p)⟩
    if b'.switch.isEmpty ∧ b'.rewrite.isEmpty then none else some b' })]

/-- Whether a page's current slot is being rewritten: until S the transmitter uses the retained generation (R374). -/
def VnrSt.rewriting (v : VnrSt) (p : Nat) : Bool := match v.batch with | some b => b.rewrite.contains p | none => false

/-- Whether a switch of the page is pending (R375). -/
def VnrSt.switching (v : VnrSt) (p : Nat) : Bool := match v.batch with | some b => b.switch.contains p | none => false

/-- KEY_ANN of the superframe header of superframe `sf` (R375): KEY_CD above KEY_SEQ. -/
def State.keyAnn (s : State) (sf : Nat) : Nat :=
  match s.vnr.batch with
  | some b => (b.sf + 65536 - sf) % 65536 % 32 * 64 + b.num % 64
  | none => s.vnr.num % 64

/-! ### Protection by load -/

/-- Whether page `p` has a bound, configured channel. -/
def State.pageInUse (s : State) (p : Nat) : Bool := s.channels.any (fun t => s.rd VNR_CH_BIND.PAGE t == p)

/-- The encrypted load (R360): the slots of bound channels and the new ones of their pending move. -/
def State.vnrLoad (s : State) : Nat :=
  ((List.range 640).filter (fun q =>
    (s.rd CLI_TS_OWNER.OWNER q < 32 && s.chBound (s.rd CLI_TS_OWNER.OWNER q)) || (s.rd CLI_TS_OWNER.PEND q < 32 && s.chBound (s.rd CLI_TS_OWNER.PEND q)))).length

/-- PROT_MODE in force: the ASK1600 is always in DUP (R4, R388). -/
def State.protMode (s : State) : Nat := if s.fuse.part == .ask1600 then 1 else s.rd VNR_CTRL.PROT_MODE

/-- The protection mode in force (R388): the ASK1600 resets to DUP and stays there. -/
def State.protDup (s : State) : Bool := s.fuse.part == .ask1600 || s.rd VNR_CTRL.PROT_MODE == 1

/-- Pipelines in service in the direction with fewer. -/
def State.pipes (s : State) : Nat := min (s.rd VNR_STATUS.TX_PIPES) (s.rd VNR_STATUS.RX_PIPES)

/-- The load that pairs of pipelines carry in DUP (R389). -/
def State.dupCap (s : State) : Nat := min 320 (30 * (s.pipes / 2))

/-- The state the mode and the load call for: DUP is 0, SENSE 1 (R388). -/
def State.protWant (s : State) : Nat := if s.protDup || decide (s.vnrLoad ≤ s.dupCap) then 0 else 1

/-- The load that the pipelines in service in direction `d` carry, 0 transmit or 1 receive (R391). -/
def State.capacity (s : State) (d : Nat) : Nat :=
  let n := s.rd (if d = 0 then VNR_STATUS.TX_PIPES else VNR_STATUS.RX_PIPES)
  if s.rd VNR_STATUS.STATE = 0 then 30 * (n / 2) else 30 * n

/-- The encrypted load of the bound channels up to `t`. -/
def State.loadUpTo (s : State) (t : Nat) : Nat := ((s.channels.filter (fun c => decide (c ≤ t) && s.chBound c)).map (fun c => s.rd CLI_CH_CFG.SLOTS c)).foldl (· + ·) 0

/-- Whether bound channel `t` is beyond the capacity of direction `d` (R391). -/
def State.beyond (s : State) (d t : Nat) : Bool := decide (s.capacity d < s.loadUpTo t)

/-- The bound channels beyond the capacity, as a mask. -/
def State.beyondMask (s : State) : Nat := (s.channels.filter (fun t => s.chBound t && (s.beyond 0 t || s.beyond 1 t))).foldl (fun a t => a + 2 ^ t) 0

/-- Protection follows mode, load and pipelines: a step to SENSE arms the sensors at once (R394); a shortage raises VNR_DEGRADED once (R391). -/
def judgeProt : Eff := dyn fun s =>
  let short := s.beyondMask != 0
  seqE [whenE (s.protWant == 1) (put VNR_STATUS.SENSE_ARMED 1), putB VNR_STATUS.DEGRADED short, upd (.vnr fun v => { v with short := short }),
    whenE (short && !s.vnr.short) (raise EV.VNR_DEGRADED [s.rd VNR_STATUS.TX_PIPES, s.rd VNR_STATUS.RX_PIPES, s.beyondMask])]

/-- Veneer's part of a superframe boundary of the local transmitter, or of a dark-time tick (R378, R394): RX_USE ages, sensors disarm
one boundary after DUP has started, and a change of state takes effect. -/
def vnrBoundary : Eff := dyn fun s =>
  let aged := s.vnr.slots.map (fun e => (e.1, { e.2 with use := e.2.use - 1 }))
  seqE [upd (.vnr fun v => { v with slots := aged }),
    forE (s.vnr.slots.filter (fun e => e.2.use == 1)) (fun e => fun t => [.put VNR_PAGE_STAT.RX_USE (e.1 / 2) (clrBit (t.rd VNR_PAGE_STAT.RX_USE (e.1 / 2)) (e.1 % 2))]),
    whenE (s.rd VNR_STATUS.STATE == 0 && s.protWant == 0) (put VNR_STATUS.SENSE_ARMED 0),
    whenE (s.rd VNR_STATUS.STATE != s.protWant) (seqE [put VNR_STATUS.STATE s.protWant, raise EV.PROT_CHANGE [s.protWant, s.vnrLoad], judgeProt])]

end Sys2Proof.Machine
end

