-- ==== Sys2Proof/Machine/PtpClock.lean ====
section
/-!
DEFINITION. The time of day as one exact count, line stamps, and the state of the boundary clock: which ports run, the best master clock, the
servo's state and the clock class (R469 to R472, R481, R489 to R496).
-/
namespace Sys2Proof.Machine
open Sys2Proof

/-! ### The counter -/

/-- One nanosecond in the units of the exact count, 1/(25 × 2^32) ns (R470). -/
def todUnit : Nat := 25 * 2 ^ 32

/-- The period of the count: 2^48 seconds (R469). -/
def todPeriod : Nat := 2 ^ 48 * 1000000000 * todUnit

/-- The exact count of the time of day. -/
def State.todVal (s : State) : Nat := s.todNs * todUnit + 25 * s.tod.frac + s.tod.rem

/-- The time of day takes an exact count. -/
def setTod (v : Int) : Eff :=
  let n := (v % (todPeriod : Int)).toNat
  upd (.tod fun t => { t with sec := n / todUnit / 1000000000, ns := n / todUnit % 1000000000, frac := n % todUnit / 25, rem := n % todUnit % 25 })

/-- What one tick adds: 1.28 ns and the rate adjustment (R470, R471). -/
def State.todInc (s : State) : Int := 32 * 2 ^ 32 + 25 * s.rdI TOD_RATE.ALL

/-- The exact count of the next tick. -/
def State.todNext (s : State) : Int := if s.on TOD_STATUS.BASE_OK then s.todVal + s.todInc else s.todVal

/-- One TIM tick: the free-running count advances, and the time of day once the time base is valid (R470, R472). -/
def todTick : Eff := seqE [dyn fun s => whenE (s.on TOD_STATUS.BASE_OK) (setTod s.todNext), upd .tick]

/-- An exact count as seconds low, seconds high, nanoseconds, fraction. -/
def todWords (v : Int) : List Nat :=
  let n := (v % (todPeriod : Int)).toNat
  w64 (n / todUnit / 1000000000) ++ [n / todUnit % 1000000000, n % todUnit / 25]

/-- The time of day in ps. -/
def State.todPs (s : State) : Int := (s.todVal * 1000 / todUnit : Nat)

/-! ### Line stamps -/

/-- Table 13.1: the corrections in ps from strobe to TX_OUT and from RX_IN to strobe. -/
def lineCorr (mode n : Nat) : Nat × Nat :=
  match mode with
  | 4 => (151700, 291400) | 5 => (170500, 320900) | 6 => (188200, 352600) | 10 => (224400, 418000)
  | 11 => if n ≤ 7 then (151700, 291400) else (142300, 276800)
  | m => if 7 ≤ m ∧ m ≤ 9 then (186900, 349700) else (142300, 276800)

/-- A time in ps as a stamp in 2^-16 ns. -/
def stampOf (ps : Int) : Nat := (ps * 65536 / 1000 % (2 ^ 48 * 1000000000 * 65536 : Int)).toNat

/-- The transmit and receive stamps of a superframe boundary that falls now (R480, R481). -/
def State.txStamp (s : State) : Nat :=
  stampOf (s.todPs + (lineCorr (s.rd LTX_CTRL.MODE) (s.rd LTX_CTRL.OTUC_N)).1 +
    Config.groupDelay false (s.rd LTX_CTRL.MODE) (s.rd LTX_CTRL.OTUC_N) (if s.on LTX_CTRL.PRECOMP_CD_EN then s.rdI LTX_PRECOMP.P else 0))
def State.rxStamp (s : State) : Nat :=
  stampOf (s.todPs - (lineCorr (s.rd LRX_CTRL.MODE) (s.rd LRX_CTRL.OTUC_N)).2 -
    Config.groupDelay true (s.rd LRX_CTRL.MODE) (s.rd LRX_CTRL.OTUC_N) (s.rdI LRX_CD_EST.ALL))

/-- The twelve bytes of a stamp (R483): seconds 48 bits, nanoseconds 32 bits, fraction high 16 bits. -/
def stampBytes (st : Nat) : List Nat := bytesBE 6 (st / 65536 / 1000000000) ++ bytesBE 4 (st / 65536 % 1000000000) ++ bytesBE 2 (st % 65536)

/-- The stamp twelve bytes spell, in 2^-16 ns. -/
def ofStampBytes (bs : List Nat) : Nat := (ofBytes (bs.take 6) * 1000000000 + ofBytes ((bs.drop 6).take 4)) * 65536 + ofBytes ((bs.drop 10).take 2)

/-- The stamp message sent with superframe `sf` (R483). -/
def State.stampMessage (s : State) (sf : Nat) : List Nat :=
  let rx := s.tod.lastRx.getD 0
  let m := [0x54, b2n s.todValid + 2 * s.rd TOD_STATUS.STEP_AVAIL] ++ bytesBE 2 sf ++ stampBytes ((Tab.get none s.tod.txSt sf).getD 0) ++
    bytesBE 2 rx ++ stampBytes ((Tab.get none s.tod.rxSt rx).getD 0)
  m ++ bytesBE 2 (crc16 m)

/-! ### Ports and the best master clock -/

/-- The ports by index: 0 to 31 the client channels, 32 the line (R490). -/
def ptpPorts : List Nat := List.range 33

/-- The state of port `p`. -/
def State.ptpSt (s : State) (p : Nat) : Nat := s.rd TOD_PORT_STAT.STATE p

/-- Whether port `p` runs: enabled, on a configured Ethernet channel, or for the line in a native mode (R482, R490). -/
def State.ptpOn (s : State) (p : Nat) : Bool := s.on TOD_PORT_CFG.EN p && (if p = 32 then nativeMode (s.rd LRX_CTRL.MODE) else s.isEth p)

/-- The Announce data held of port `p` (bytes 34 to 63 of its last Announce). -/
def State.annOf (s : State) (p : Nat) : List Nat := Tab.get [] s.tod.ann p

/-- The grandmaster identity, and the clock's class, in Announce data. -/
def annGm (a : List Nat) : Nat := ofBytes ((a.drop 19).take 8)
def annClass (a : List Nat) : Nat := nth a 14

/-- This clock's identity (DESIGN CHOICE: the device identifier). -/
def State.clockId (s : State) : Nat := s.fuse.devId % 2 ^ 64

/-- The class of this clock with no parent (R492, R493). -/
def State.ownClass (s : State) : Nat := if !s.todValid || !s.tod.everLocked then 248 else if s.tod.holdExpired then 165 else 135

/-- The Announce data of this clock as its own grandmaster. -/
def State.ownAnn (s : State) : List Nat :=
  List.replicate 13 0 ++ [128, s.ownClass, 0xFE, 0xFF, 0xFF, s.rd TOD_PTP_CFG.PRIO2] ++ bytesBE 8 s.clockId ++ [0, 0, 0xA0]

/-- The parent port, if any. -/
def State.parent (s : State) : Option Nat := if s.rd TOD_STATUS.PARENT = 0 then none else some (s.rd TOD_STATUS.PARENT - 1)

/-- The servo's state: 0 FREE, 1 ACQUIRE, 2 LOCKED, 3 HOLD. -/
def State.servo (s : State) : Nat := s.rd TOD_STATUS.SERVO

/-- The Announce data the clock sends: the parent's, one step further, while locked to it, else its own (R493). -/
def State.sentAnn (s : State) : List Nat :=
  match s.parent with
  | some p =>
    let a := s.annOf p
    if s.servo = 2 ∧ s.todValid = true then a.take 27 ++ bytesBE 2 (ofBytes ((a.drop 27).take 2) + 1) ++ a.drop 29 else s.ownAnn
  | none => s.ownAnn

/-- The order of clocks in the alternate BMCA (R489): class, accuracy, variance, priority 2, local priority; then, for classes above 127, the
grandmaster; then steps removed and the port. -/
def annKey (a : List Nat) (localPrio port : Nat) : List Nat :=
  [annClass a, nth a 15, ofBytes ((a.drop 16).take 2), nth a 18, localPrio] ++ (if 127 < annClass a then [annGm a] else []) ++ [ofBytes ((a.drop 27).take 2), port]

/-- Lexicographic order. -/
def lexLt : List Nat → List Nat → Bool
  | a :: as, b :: bs => decide (a < b) || (a == b && lexLt as bs)
  | [], _ :: _ => true
  | _, [] => false

/-- The key of port `p`, if its clock may become the parent: Announce data held, not refused, neither masterOnly nor notSlave. -/
def State.portKey (s : State) (p : Nat) : Option (List Nat) :=
  if s.ptpOn p && s.annOf p != [] && (p == 32 || !s.quiet) && (Tab.get none s.tod.refused p).isNone && !s.on TOD_PORT_CFG.MASTER_ONLY p && !s.on TOD_PORT_CFG.NOT_SLAVE p
  then some (annKey (s.annOf p) (s.rd TOD_PORT_CFG.LOCAL_PRIO p) (p + 1)) else none

/-- The best port, unless this clock is better than its master. -/
def State.bestPort (s : State) : Option Nat :=
  (ptpPorts.foldl (fun (b : Option Nat × List Nat) p => match s.portKey p with
    | some k => if lexLt k b.2 then (some p, k) else b
    | none => b) (none, annKey s.ownAnn 128 0)).1

/-- The state port `p` takes with `par` the parent (R490, R496); the client ports of a paired unit that is not ACTIVE stay LISTENING
(R525). -/
def State.portWant (s : State) (par : Option Nat) (p : Nat) : Nat :=
  let st := s.ptpSt p
  if !s.ptpOn p then 0
  else if p < 32 ∧ s.quiet = true then 1
  else if (Tab.get none s.tod.refused p).isSome then 6
  else if par = some p then (if s.parent = some p ∧ st = 3 then 3 else 2)
  else if s.annOf p = [] then (if st = 4 then 4 else 1)
  else match par with
    | some q => if (s.portKey p).isSome && annGm (s.annOf p) == annGm (s.annOf q) then 5 else 4
    | none => 4

/-- A port takes a state. -/
def portTo (p st : Nat) : Eff := dyn fun s => whenE (s.ptpSt p != st) (seqE [put TOD_PORT_STAT.STATE st p, raise EV.PTP_PORT_STATE [p + 1, s.ptpSt p, st]])

/-- The servo's state as the parent and the offsets call for it (R495, R487). -/
def State.servoWant (s : State) : Nat :=
  match s.parent with
  | none => if s.servo = 0 then 0 else 3
  | some p =>
    if p = 32 ∧ s.on TOD_STATUS.PATH_ASYM then 3
    else if s.ptpSt p = 3 then (if 16 ≤ s.tod.good then 2 else 1)
    else if s.servo ≤ 1 then 1 else 3

/-- The mean of the last rates (R495). -/
def meanRate (rs : List Int) : Int := if rs.isEmpty then 0 else rs.foldl (· + ·) 0 / rs.length

/-- The servo goes to the state that is called for; HOLD keeps the mean rate of the last 16 s. -/
def syncServo : Eff := dyn fun s =>
  let w := s.servoWant
  if w = s.servo then nop else seqE [
    put TOD_STATUS.SERVO w, raise EV.SERVO_STATE [s.servo, w],
    whenE (w == 3 && s.on TOD_SERVO_CFG.EN && !s.tod.rates.isEmpty) (putI TOD_RATE.ALL (meanRate s.tod.rates)),
    whenE (w == 2) (upd (.tod fun t => { t with everLocked := true, holdExpired := false }))]

/-- Announce goes out of port `p` (R489 to R491): as a PTP message, or on the line in its own frame. -/
def sendAnnounce (p : Nat) : Eff := dyn fun s =>
  if s.ptpSt p != 4 then nop
  else if p = 32 then
    let m := 0x41 :: s.sentAnn
    whenE (s.on LTX_STATUS.TX_ON && !s.scr.beacon && nativeMode (s.rd LTX_CTRL.MODE)) (timeMsg (m ++ bytesBE 2 (crc16 m)))
  else emit (.ptp (p + 1) ([11, s.rd TOD_PORT_CFG.DA p, s.rd TOD_PTP_CFG.DOMAIN] ++ s.sentAnn))

/-- The ports, the parent and the servo follow what the BMCA says (R489, R496); changed Announce data goes at once over the line (R491). -/
def syncPorts : Eff := dyn fun s =>
  let par := s.bestPort
  seqE [upd (.tod fun t => { t with ann := t.ann.filter (fun e => s.ptpOn e.1), refused := t.refused.filter (fun e => s.ptpOn e.1), ports := t.ports.filter (fun e => s.ptpOn e.1) }),
    forE ptpPorts (fun p => dyn fun _ => portTo p (s.portWant par p)),
    whenE (par != s.parent) (seqE [
      put TOD_STATUS.PARENT (match par with | some p => p + 1 | none => 0),
      upd (.tod fun t => { t with samples := [], good := 0, far := 0 }),
      raise EV.PTP_PARENT_CHANGE ([s.rd TOD_STATUS.PARENT, match par with | some p => p + 1 | none => 0] ++
        w64 (match par with | some p => annGm (s.annOf p) | none => s.clockId))]),
    syncServo,
    dyn fun t => whenE (t.sentAnn != s.sentAnn) (sendAnnounce 32)]

end Sys2Proof.Machine
end

