-- ==== Sys2Proof/Machine/PairOps.lean ====
section
/-!
DEFINITION. Role changes, the select pins, a unit's declaration of its own failure (R509, R511, R532, R537), and
the comparison of outputs (R527 to R529).
-/
namespace Sys2Proof.Machine

/-- Pin numbers of the model's pin outputs: GPIO 0 to 15, then TX_SEL0, TX_SEL1, LAS0_EN, LAS1_EN, THERMTRIP_N. -/
def pinSel0 : Nat := 16
def pinSel1 : Nat := 17
def pinLasEn (p : Nat) : Nat := 18 + p
def pinTrip : Nat := 20

/-- The sampled level of GPIO pin `n` is `lv` (R697): an edge that SYS_GPIO_EDGE selects sets its status bit, and one that a trigger input selects
fires the input (Table 16.10). -/
def pinSample (n : Nat) (lv : Bool) : Eff := dyn fun s =>
  let was := bit (s.rd SYS_GPIO_IN.ALL) n
  let sel := bits (s.rd SYS_GPIO_EDGE.ALL) (2 * n) 2
  let fires (i : Nat) : Bool := s.on OBS_TRIG_CFG.GPIO_EN i && s.rd OBS_TRIG_CFG.GPIO i == n && s.on OBS_TRIG_CFG.EDGE i == was
  whenE (lv != was) (seqE [put SYS_GPIO_IN.ALL (putBit (s.rd SYS_GPIO_IN.ALL) n lv),
    whenE (bit sel (b2n was)) (stat SYS_INT_STAT.ALL n),
    upd (.obs fun o => { o with trigDue := o.trigDue ++ (List.range 8).filter fires })])

/-- SYS_GPIO_OUT (`out`) or SYS_GPIO_OE takes a word (R697): the pins whose driven level changes are sent, and sampled. -/
def writePins (out : Bool) (w : Nat) : Eff := dyn fun s =>
  let oe := if out then s.rd SYS_GPIO_OE.ALL else w
  let lv := if out then w else s.rd SYS_GPIO_OUT.ALL
  seqE [put (if out then SYS_GPIO_OUT.ALL else SYS_GPIO_OE.ALL) w,
    forE ((bitsSet 16 oe).filter (fun k => bit lv k != bit (s.rd SYS_GPIO_OUT.ALL) k || !bit (s.rd SYS_GPIO_OE.ALL) k)) (fun k =>
      seqE [emit (.pin k (b2n (bit lv k))), pinSample k (bit lv k)])]

/-- Drives TX_SEL0 and TX_SEL1. -/
def setSel (a b : Bool) : Eff := seqE [upd (.pair fun q => { q with sel0 := a, sel1 := b }), emit (.pin pinSel0 (b2n a)), emit (.pin pinSel1 (b2n b))]

/-- The unit's role changes by row `row` of Table 14.3; both select lines are released on leaving ACTIVE (R509). -/
def setRole (new row : Nat) : Eff := dyn fun s =>
  let old := s.role
  if old = new then nop else seqE [
    put PAIR_STATUS.ROLE new,
    whenE (old == 1) (setSel false false),
    whenE (new == 1) (upd (.pair fun q => { q with activeAt := s.tick })),
    whenE (new != 2 || old != 3) (seqE [put PAIR_STATUS.WTR_RUN 0, put PAIR_STATUS.WTR_LEFT 0]),
    whenE (new == 0) (upd (.pair fun q => { q with joinOk := false })),
    whenE (new == 3) (seqE [put PAIR_STATUS.SYNCED 0, upd (.pair fun q => { q with snapIn := false })]),
    whenE (new == 0 || new == 1) (upd (.pair fun q => { q with returning := false })),
    raise EV.PAIR_ROLE [old, new, row], syncPorts]

/-- Whether the mate could take over: its role is STANDBY or STALE. -/
def State.mateReady (s : State) : Bool := s.rd PAIR_STATUS.MATE_ROLE == 2 || s.rd PAIR_STATUS.MATE_ROLE == 3

/-- An ACTIVE unit fails (R532, R537): with its mate STANDBY or STALE it sends FAIL, drives Peg FAILED, releases its select
lines and goes to OOS; otherwise it stays ACTIVE and raises PAIR_UNPROTECTED. `trigger` is the row of Table 14.7. -/
def unitFails (trigger : Nat) : Eff := dyn fun s =>
  if !(s.paired && s.role == 1) then nop
  else if s.mateReady then seqE [toMate 4 [trigger], emit (.peg 3), setRole 0 1]
  else raise EV.PAIR_UNPROTECTED [s.rd PAIR_STATUS.MATE_ROLE]

/-! ### Output comparison -/

/-- Whether the digests of direction `d` (0 transmit, 1 receive) are compared (R528). -/
def State.comparing (s : State) (d : Nat) : Bool :=
  s.paired && s.on PAIR_STATUS.LINK && (s.role == 1 || s.role == 2) && (s.rd PAIR_STATUS.MATE_ROLE == 1 || s.rd PAIR_STATUS.MATE_ROLE == 2) &&
    s.on (if d = 0 then PAIR_CTRL.CMP_TX else PAIR_CTRL.CMP_RX)

/-- A mismatch of direction `d` (R529): the MIS_N-th of a superframe starts the identification; those during it start nothing. -/
def mismatch (d ftag : Nat) : Eff := dyn fun s =>
  let n := if s.pair.misSf = ftag / 64 then s.pair.mis + 1 else 1
  seqE [upd (.pair fun q => { q with mis := n, misSf := ftag / 64 }),
    whenE (s.rd PAIR_CMP_CFG.MIS_N ≤ n && !s.on PAIR_STATUS.IDENT) (seqE [put PAIR_STATUS.IDENT 1, upd (.pair fun q => { q with misDir := d, misTag := ftag })])]

/-- A digest of direction `d` meets its partner (R528), or waits for it: a frame marked at either unit is counted as skipped. -/
def meetDigest (d : Nat) (g : Digest) : Eff := dyn fun s =>
  let ds := Tab.get [] s.pair.digs d
  match ds.find? (fun x => x.ftag == g.ftag && x.own != g.own) with
  | none => upd (.pair fun q => { q with digs := Tab.set [] q.digs d (ds.filter (fun x => !(x.ftag == g.ftag && x.own == g.own)) ++ [g]) })
  | some x => seqE [upd (.pair fun q => { q with digs := Tab.set [] q.digs d (ds.filter (fun y => y.ftag != g.ftag)) }),
      if x.skip || g.skip then count 284
      else seqE [count (280 + 2 * d), whenE (x.crc != g.crc) (seqE [count (281 + 2 * d), mismatch d g.ftag])]]

/-- The digest of a frame sent or received in superframe `sf` (R527, R528): tagged, compared, and sent to the mate in batches of sixteen. -/
def ownDigest (d sf crc : Nat) (skip : Bool) : Eff := dyn fun s =>
  let i := Tab.get 0 s.pair.idx d
  let g : Digest := ⟨sf * 64 + i, crc, skip, true⟩
  let b := Tab.get [] s.pair.batch d ++ [g]
  seqE [upd (.pair fun q => { q with idx := Tab.set 0 q.idx d (i + 1) }),
    whenE (s.comparing d) (seqE [
      if b.length < 16 then upd (.pair fun q => { q with batch := Tab.set [] q.batch d b })
      else seqE [toMate 6 (d :: b.flatMap (fun x => x.ftag :: b2n x.skip :: w64 x.crc)), upd (.pair fun q => { q with batch := Tab.set [] q.batch d [] })],
      meetDigest d g])]

end Sys2Proof.Machine
end

