-- ==== Sys2Proof/Machine/Due.lean ====
section
/-!
DEFINITION. Changes that other blocks hold and that take effect when TX_OUT goes dark (R76).
-/
namespace Sys2Proof.Machine

/-- A pending tributary move takes effect (R311). -/
def moveNow (sf : Nat) : Eff := seqE [applyMove sf, judgeProt]
/-- A pending key-switch batch takes effect (R372). -/
def batchNow (sf : Nat) : Eff := applyBatch sf

end Sys2Proof.Machine
end

