-- ==== Sys2Proof/Machine/Plan.lean ====
section
/-!
DEFINITION. The Marquetry plan banks: loading, committing, applying and cancelling a plan, and TX_OUT going dark (R55 to R59,
R71 to R76, R95).
-/
namespace Sys2Proof.Machine

/-- The part code (Table 0.1). -/
def Part.code : Part → Nat | .ask3200 => 0x3200 | .ask1600 => 0x1600

/-- Whether the part is the ASK1600. -/
def State.is1600 (s : State) : Bool := s.fuse.part == .ask1600

/-- The transmit mode code and OTUC count in force. -/
def State.txMode (s : State) : Nat := s.rd LTX_CTRL.MODE
def State.txN (s : State) : Nat := s.rd LTX_CTRL.OTUC_N

/-- TX_OUT is lit. -/
def State.lit (s : State) : Bool := s.on LTX_STATUS.TX_ON

/-- The transmitter sends superframes: TX_OUT is lit, and not only as the Scribe beacon (R407, R723). -/
def State.sending (s : State) : Bool := s.lit && !s.scr.beacon

def LTX_SHAPE.fields : List Fld := [LTX_SHAPE.KERF, LTX_SHAPE.ROLLOFF]

/-- The sixteen entry words of bank `b`. -/
def State.bankWords (s : State) (b : Nat) : List Nat := (List.range 16).map (fun k => s.word LTX_PLAN_SC.fields (16 * b + k))

/-- Writes a plan into bank `b`. -/
def putBank (b id : Nat) (ws : List Nat) : Eff :=
  seqE [put LTX_PLAN_HDR.PLAN_ID id b, forE (List.range 16) fun k => putWord LTX_PLAN_SC.fields (ws.getD k 0) (16 * b + k)]

/-- LTX_PLAN_CHK follows bank 1 and the mode (Table 2.17). -/
def setChk : Eff := fun s =>
  [.put LTX_PLAN_CHK.SUM_E 0 (if nativeMode s.txMode then sumE (s.bankWords 1) else 0), .put LTX_PLAN_CHK.W_MIN 0 (wMin s.txMode s.txN)]

/-- Plan loads of opcode `op` that wait for their bounds end: what they would have loaded belongs to the mode before (R95, R159; log entry 59). -/
def dropLoads (op : Nat) : Eff := dyn fun s => seqE [upd (.ltx fun x => { x with loads := x.loads.filter (·.opcode != op) }),
  forE (s.ltx.loads.filter (·.opcode == op)) (fun r => finish r .aborted)]

/-- Loads the mode's plan 0 into both banks, or empties them (R95). -/
def loadPlan0 : Eff := dyn fun s => seqE [putBank 0 0 (plan0 s.txMode s.txN), putBank 1 0 (plan0 s.txMode s.txN), put LTX_PLAN_CHG.RESULT 0, setChk,
  upd (.adapt fun a => { a with lastId := 254, rollTo := none, prevId := 0, prevWords := plan0 s.txMode s.txN }), dropLoads 0x0202]

/-- The session of Scribe ends: no peer, nothing awaited (R419, R423). -/
def scrDrop : Eff := seqE [put SCR_STATUS.RX_BUSY 0, put SCR_PEER_CUR.ALL 0, put SCR_STATUS.ROLE 0, put SCR_STATUS.KEYED 0,
  upd (.scr fun c => { c with rx := none, window := false, cands := [], told := [], heldKex := [], replies := [], wait := none, kexIn := false }),
  upd (.scr fun c => { c with rot := none, keysOut := [], goDue := false })]

/-- Scribe goes OFF (Table 11.4); the excluded modes are forgotten (R427). -/
def scrOff : Eff := seqE [put SCR_STATUS.STATE 0, scrDrop, upd (.scr fun c => { c with excl := 0 })]

/-- Scribe leaves OFF where EN is 1 and no interoperable mode is set, and goes OFF where one is (R406, Table 11.4). -/
def scrFollow : Eff := dyn fun s =>
  if s.rd SCR_STATUS.STATE = 0 then whenE (s.on SCR_CTRL.EN && !interopMode s.txMode) (put SCR_STATUS.STATE (if s.scr.free then 2 else 1))
  else whenE (interopMode s.txMode) scrOff

/-- Whether a mode's upper occupied edge stands clear of Scribe at F_S of `freq` × 250 MHz (R404), in units of 500 kHz. -/
def edgeOk (m n rolloff kerf freq : Nat) : Bool :=
  let k := (modeScs m n).length
  !nativeMode m || decide (k * 375 * (100 + rolloff) + (k - 1) * 125 * kerf + 6000 ≤ 1000 * freq)

/-- Whether a combination passes R404 as Scribe stands. -/
def State.scribeOk (s : State) (m n rolloff kerf : Nat) : Bool := !s.on SCR_CTRL.EN || edgeOk m n rolloff kerf (s.rd SCR_CFG.FREQ)

/-- Sets the transmit mode; a mode, or a count of mode code 11, that differs from the one in force loads plan 0 (R95). -/
def setTxMode (mode n : Nat) : Eff := dyn fun s =>
  let differs := mode != s.txMode || (mode == 11 && n != s.txN)
  seqE [put LTX_CTRL.MODE mode, put LTX_CTRL.OTUC_N n, whenE differs loadPlan0, judgeFill, scrFollow]

/-- A load by command stores the gain of each disabled entry as 0 (R55). -/
def loadWords (ws : List Nat) : List Nat := ws.map (fun w => if scEn w then w else w / 256 * 256)

/-- The status of a failing check of Table 2.5. -/
def checkStatus (k : Nat) : Status :=
  match k with
  | 1 => .state | 5 => .range | 6 => .noResource | _ => .badParam

/-- RESULT of LTX_PLAN_CHG for a failing check (Table 2.16). -/
def checkResult (k : Nat) : Nat :=
  match k with
  | 1 => 5 | 5 => 3 | 6 => 4 | _ => 2

/-- W_min − ΣE, the payload of a plan load refused with NO_RESOURCE (R56). -/
def shortfall (m n : Nat) (ws : List Nat) : Nat := w32 ((wMin m n : Int) - (sumE ws : Int))

/-- The shadow plan becomes active, with PLAN_APPLIED carrying `sf`; the accumulator and block order restart (R59, R72, R76).
A change that adaptation committed enters its verification window (R167). -/
def applyPlan (sf : Nat) : Eff := dyn fun s =>
  let old := s.rd LTX_PLAN_HDR.PLAN_ID 0
  let oldWords := s.bankWords 0
  let new := s.rd LTX_PLAN_HDR.PLAN_ID 1
  seqE [putBank 0 new (s.bankWords 1), put LTX_STATUS.PLAN_PENDING 0, put LTX_PLAN_CHG.CD 0, put LTX_PLAN_CHG.TARGET_SF sf,
    upd (.ltx fun x => { x with acc := 0, blk := [], sfs := 0 }),
    upd (.adapt fun a => { a with prevId := old, prevWords := oldWords, appliedAt := some s.tick, verify := a.verify || a.committed, committed := false }),
    whenE s.adapt.committed (put LRX_ADAPT_STAT.PHASE 3), raise EV.PLAN_APPLIED [old, new, sf]]

/-- A commit of the shadow plan that has passed its checks (R71, R72): at S = c + 17 while lit, at once while dark. -/
def commitPlan : Eff := dyn fun s =>
  if s.sending then seqE [put LTX_STATUS.PLAN_PENDING 1, put LTX_PLAN_CHG.TARGET_SF (s.rd LTX_SF_NUM.ALL + 17), put LTX_PLAN_CHG.CD 16]
  else applyPlan 0xFFFF

/-- Whether a cancellation is accepted: a change is pending and the next header would carry PLAN_CD of at least 4 (R75). -/
def State.cancelOk (s : State) : Bool := s.on LTX_STATUS.PLAN_PENDING && decide (4 ≤ s.rd LTX_PLAN_CHG.CD)

/-- Cancels the pending change (R75). -/
def cancelPlan : Eff := dyn fun s => seqE [put LTX_STATUS.PLAN_PENDING 0, put LTX_PLAN_CHG.CD 0,
  whenE s.adapt.committed (seqE [upd (.adapt fun a => { a with committed := false }), put LRX_ADAPT_STAT.PHASE 0]),
  raise EV.PLAN_CANCELLED [s.rd LTX_PLAN_HDR.PLAN_ID 1, s.rd LTX_PLAN_CHG.TARGET_SF]]

/-- Where a change to be completed has been (R169), the plan a rollback returns to is committed, once its checks pass (log entry 67). -/
def commitReturn : Eff := dyn fun s =>
  match s.adapt.rollTo with
  | some (id, ws) => seqE [upd (.adapt fun a => { a with rollTo := none }),
      whenE (!s.on LTX_STATUS.PLAN_PENDING && (id == 0 || (planCheck s.txMode s.txN (decide (id ≤ 127)) id ws).isNone)) (seqE [putBank 1 id ws, setChk, commitPlan])]
  | none => nop

/-- TX_OUT goes dark, or a bring-up ends, for cause `cause` of Table 2.21 (R76, R89): a pending plan change, tributary move and
key batch take effect at once; a waiting LTX_OUTPUT ends ABORTED. The drive goes to zero and the attenuator to 15 dB (log entry 56). -/
def goDark (cause : Nat) : Eff := dyn fun s =>
  let was := s.lit
  let run := s.ltx.outRun
  seqE [put LTX_STATUS.TX_ON 0, put LTX_CTRL.LOCK 0, put LTX_CTRL.OUT_EN 0,
    upd (.ltx fun x => { x with bring := 0, outRun := none, drive := false, attNow := 150 }), upd (.scr fun c => { c with beacon := false, lighting := false, litBy := false }),
    whenE (s.on LTX_STATUS.PLAN_PENDING) (seqE [applyPlan 0xFFFF, commitReturn]),
    whenE was (seqE [moveNow 0xFFFF, batchNow 0xFFFF, raise EV.TX_DARK [cause]]),
    match run with
    | some r => finish r .aborted
    | none => nop]

/-- The superframe header of Table 2.6; its CRC-16 covers bits [63:16] (R722). -/
def headerVal (sf act next cd keyAnn : Nat) : Nat :=
  let hi := sf % 65536 * 2 ^ 32 + act % 256 * 2 ^ 24 + next % 256 * 2 ^ 16 + cd % 32 * 2 ^ 11 + keyAnn % 2048
  hi * 65536 + crcBits 16 0x1021 0xFFFF (msbFirst 48 hi)

/-- The header as its two 32-bit halves, the low one first. -/
def headerWords (sf act next cd keyAnn : Nat) : List Nat := w64 (headerVal sf act next cd keyAnn)

end Sys2Proof.Machine
end

