-- ==== Sys2Proof/Machine/Acquire.lean ====
section
/-!
DEFINITION. The line receiver's acquisition (R105 to R139): stages, restarts, freezing, hold, and the receive plan table
(R158, R159).
-/
namespace Sys2Proof.Machine
open Sys2Proof

/-! ### Mode and receive plan -/

/-- The receive mode code and OTUC count in force. -/
def State.rxMode (s : State) : Nat := s.rd LRX_CTRL.MODE
def State.rxN (s : State) : Nat := s.rd LRX_CTRL.OTUC_N

/-- The stage of Table 3.2. -/
def State.stage (s : State) : Nat := s.rd LRX_STATUS.STAGE

def LRX_SHAPE.fields : List Fld := [LRX_SHAPE.KERF, LRX_SHAPE.ROLLOFF]
def LRX_RPLAN_SC.fields : List Fld := [LRX_RPLAN_SC.EN, LRX_RPLAN_SC.CONST, LRX_RPLAN_SC.ENT, LRX_RPLAN_SC.GAIN]
def LRX_RPLAN_ID.fields : List Fld := [LRX_RPLAN_ID.ID, LRX_RPLAN_ID.PREV, LRX_RPLAN_ID.ARMED, LRX_RPLAN_ID.ACTIVE, LRX_RPLAN_ID.VALID]

/-- The table entry that holds plan `id` (R158). -/
def State.rplanOf (s : State) (id : Nat) : Option Nat := (List.range 8).find? (fun e => s.on LRX_RPLAN_ID.VALID e && s.rd LRX_RPLAN_ID.ID e == id)

/-- The sixteen words of table entry `e`. -/
def State.rplanWords (s : State) (e : Nat) : List Nat := (List.range 16).map (fun k => s.word LRX_RPLAN_SC.fields (16 * e + k))

/-- The words of plan `id` where the receiver holds it: the mode's plan 0, or an entry of the table. -/
def State.heldWords (s : State) (id : Nat) : Option (List Nat) :=
  if !nativeMode s.rxMode then none else if id = 0 then some (plan0 s.rxMode s.rxN) else (s.rplanOf id).map s.rplanWords

/-- The words of the receiver's active plan. -/
def State.rxWords (s : State) : List Nat := (s.heldWords s.lrx.act).getD (plan0 s.rxMode s.rxN)

/-- The subcarriers the receiver serves: those its active plan enables; in single-carrier modes the carrier, as instance 0. -/
def State.rxScs (s : State) : List Nat :=
  if nativeMode s.rxMode then (List.range 16).filter (fun k => scEn (s.rxWords.getD k 0)) else if interopMode s.rxMode then [0] else []

/-- The constellation of an interoperable mode: 16QAM, 8QAM or QPSK (Table 2.2). -/
def interopConst (m : Nat) : Nat := if m ≤ 7 then 3 else if m = 8 then 2 else 1

/-- The entry of subcarrier `k` under the active plan; of the carrier in an interoperable mode. -/
def State.rxEntry (s : State) (k : Nat) : Nat :=
  if interopMode s.rxMode then scWord (interopConst s.rxMode) (16 * (interopConst s.rxMode + 1)) else s.rxWords.getD k 0

/-- The constellation of subcarrier `k` under the active plan. -/
def State.rxConst (s : State) (k : Nat) : Nat := scConst (s.rxEntry k)

/-- The protection flags of the table follow the active, armed and previous plan (R158). -/
def syncProt : Eff := fun s => (List.range 8).flatMap fun e =>
  let v := s.on LRX_RPLAN_ID.VALID e
  let id := s.rd LRX_RPLAN_ID.ID e
  [.put LRX_RPLAN_ID.ACTIVE e (b2n (v && id == s.lrx.act)), .put LRX_RPLAN_ID.ARMED e (b2n (v && s.lrx.armed.map (·.1) == some id)),
   .put LRX_RPLAN_ID.PREV e (b2n (v && s.lrx.prev == some id))]

/-- Whether plan `id` is protected (R158). -/
def State.planProt (s : State) (id : Nat) : Bool := id == s.lrx.act || s.lrx.armed.map (·.1) == some id || s.lrx.prev == some id

/-- The entry a new plan `id` takes: its own, else an empty one, else the least recently used that is not protected. -/
def State.pickEntry (s : State) (id : Nat) : Nat :=
  match s.rplanOf id with
  | some e => e
  | none =>
    match (List.range 8).find? (fun e => !s.on LRX_RPLAN_ID.VALID e) with
    | some e => e
    | none => ((s.lrx.lru ++ List.range 8).find? (fun e => !s.planProt (s.rd LRX_RPLAN_ID.ID e))).getD 0

/-- Entry `e` is the most recently used. -/
def useEntry (e : Nat) : Eff := upd (.lrx fun x => { x with lru := x.lru.filter (· != e) ++ [e] })

/-- Stores a plan in the table. -/
def storePlan (id : Nat) (ws : List Nat) : Eff := dyn fun s =>
  let e := s.pickEntry id
  seqE [put LRX_RPLAN_ID.ID id e, put LRX_RPLAN_ID.VALID 1 e,
    fun _ => (List.range 16).flatMap (fun k => LRX_RPLAN_SC.fields.map (fun f => .put f (16 * e + k) (f.raw (ws.getD k 0)))), useEntry e, syncProt]

/-- Empties the receive plan table and makes plan 0 active; an armed plan and a verification window end (R159), and a load that waits for its
bounds ends ABORTED, so that the table stays empty (log entry 59). -/
def emptyTable : Eff := seqE [dropLoads 0x030C,
  fun _ => (List.range 8).flatMap (fun e => LRX_RPLAN_ID.fields.map (fun f => .put f e 0)),
  fun _ => (List.range 128).flatMap (fun n => LRX_RPLAN_SC.fields.map (fun f => .put f n 0)),
  upd (.lrx fun x => { x with act := 0, prev := none, armed := none, late := none, verif := 0, lru := [] })]

/-- Sets the receive mode; one that differs from the mode in force empties the receive plan table (R159). -/
def setRxMode (mode n : Nat) : Eff := dyn fun s =>
  let differs := mode != s.rxMode || (mode == 11 && n != s.rxN)
  seqE [put LRX_CTRL.MODE mode, put LRX_CTRL.OTUC_N n, whenE differs emptyTable, judgeFill, syncPorts]

/-! ### Subcarriers -/

/-- Subcarrier `k`. -/
def LrxSt.sc (x : LrxSt) (k : Nat) : ScSt := Tab.get {} x.scs k

/-- A change to subcarrier `k`. -/
def modSc (k : Nat) (g : ScSt → ScSt) : Eff := upd (.lrx fun x => { x with scs := Tab.set {} x.scs k (g (x.sc k)) })

/-- N of R121. -/
def State.taps (s : State) : Nat := 2 * s.rd LRX_EQ_CFG.HALF_TAPS + 1

/-- The feed-forward taps of a cold start: the centre taps of hxx and hyy are 1, the others 0 (R121). -/
def coldTaps (n : Nat) : List (List Cpx) :=
  let one : List Cpx := (List.range n).map (fun j => if j = (n - 1) / 2 then (2 ^ 30, 0) else (0, 0))
  let zero : List Cpx := List.replicate n (0, 0)
  [one, zero, zero, one]

/-- The taps after POL_SINGULAR: hyy is the time-reversed conjugate of hxx, hyx the negated one of hxy (R122). -/
def reseed (ff : List (List Cpx)) : List (List Cpx) :=
  [ff.getD 0 [], ff.getD 1 [], ((ff.getD 1 []).map (cNeg ∘ cConj)).reverse, ((ff.getD 0 []).map cConj).reverse]

/-- A tap as R729 gives it: real part in [15:0], imaginary part in [31:16], 0x4000 being 1.0, rounded down and held to its range (log entry
147). -/
def tapWord (t : Cpx) : Nat :=
  let h (z : Int) : Nat := toPat 16 (clampI (-32768) 32767 (z / 65536))
  h t.1 + 65536 * h t.2

/-- Whether subcarrier `k` is in DD. -/
def State.inDD (s : State) (k : Nat) : Bool := s.rd LRX_SC_STAT.STATE k == 3 || s.rd LRX_SC_STAT.STATE k == 4

/-- LRX_STATUS.SC_DD follows the subcarriers' states. -/
def syncDD : Eff := fun s =>
  [.put LRX_STATUS.SC_DD 0 ((List.range 16).foldl (fun a k => a + b2n (s.rd LRX_SC_STAT.STATE k == 3 || s.rd LRX_SC_STAT.STATE k == 4) * 2 ^ k) 0)]

/-- Whether subcarrier `k`'s feedback filter runs in DD (R127, R130). -/
def State.fbRuns (s : State) (k : Nat) : Bool :=
  s.rd LRX_DFE_CFG.NFB != 0 && bit (s.rd LRX_DFE_CFG.CONST_EN) (s.rxConst k) && !s.on LRX_SC_CTRL.DFE_DIS k && !(s.lrx.sc k).bypass

/-- Subcarrier `k` goes to DD. -/
def toDD (k : Nat) : Eff := dyn fun s => seqE [put LRX_SC_STAT.STATE (if s.fbRuns k then 4 else 3) k, modSc k (fun c => { c with phase := 0, miss := 0, met := false }), syncDD]

/-- The states of subcarriers in DD follow whether their feedback runs. -/
def syncFb : Eff := fun s => ((List.range 16).filter (fun k => s.rd LRX_SC_STAT.STATE k == 3 || s.rd LRX_SC_STAT.STATE k == 4)).map
  (fun k => .put LRX_SC_STAT.STATE k (if s.fbRuns k then 4 else 3))

/-- Every enabled subcarrier shows state `v`. -/
def allScs (v : Nat) (g : ScSt → ScSt) : Eff := dyn fun s => seqE [forE s.rxScs (fun k => seqE [put LRX_SC_STAT.STATE v k, modSc k g]), syncDD]

/-! ### Walk-off (R109, R114, R119) -/

/-- When subcarrier `k` arrives, in 1/64 sample from the carrier: −D × λ²/c × its centre, with λ = 1,550 nm and c = 3 × 10^8 m/s (log entry 150). -/
def State.arrival (s : State) (k : Nat) : Int := -(s.rdI LRX_CD_EST.ALL) * scCentre (s.rd LRX_SHAPE.ROLLOFF) (s.rd LRX_SHAPE.KERF) k * 3844 / 625000000

/-- The walk-off delay of subcarrier `k` referred to the enabled one that arrives last, with its part by R119: from 0 to 256 ns (R109). -/
def State.walkOf (s : State) (k : Nat) : Nat :=
  let last := (s.rxScs.map s.arrival).foldl max (s.arrival k)
  (clampI 0 786432 (last - s.arrival k + (s.lrx.sc k).trim)).toNat

/-- The walk-off delays follow D and their parts by R119; a single carrier has none. -/
def layWalk : Eff := dyn fun s => whenE (nativeMode s.rxMode) (forE s.rxScs (fun k => modSc k (fun c => { c with walk := s.walkOf k })))

/-! ### Quality -/

/-- A subcarrier that is not in DD is not measured (R154). -/
def ScSt.unmeasured (c : ScSt) : ScSt := { c with avg := none, snr := 0xFFFF, snrX := 0xFFF, snrY := 0xFFF, margin := 0x8000 }

/-- Every subcarrier leaves DD: none is measured, nor the line margin (R154, R155). -/
def noQuality : Eff := seqE [forE (List.range 16) (fun k => modSc k ScSt.unmeasured), upd (.lrx fun x => { x with margin := 0x8000 })]

/-! ### Stages -/

/-- Light at the local oscillator: at LAS_LO, or by the splitter from LAS_TX (R20, R21). -/
def State.loPresent (s : State) : Bool := s.ltx.loLight || s.txPresent

/-- The coarse trials of a mode: every multiple of 400 ps/nm across its range (R110). -/
def coarseTrials (range : Nat) : List Int :=
  let n := range / 400
  (List.range (2 * n + 1)).map (fun (k : Nat) => 400 * ((k : Int) - n))

/-- The fine trials: steps of 25 ps/nm over ±400 ps/nm around `d`, within the mode's range (R110, R111). -/
def fineTrials (range : Nat) (d : Int) : List Int :=
  ((List.range 33).map (fun (k : Nat) => d - 400 + 25 * (k : Int))).filter (fun t => decide (t.natAbs ≤ range))

/-- The dispersion range of the receive mode. -/
def State.rxCd (s : State) : Nat := cdRange s.rxMode s.rxN

/-- The trial with the highest metric, the first of equals. -/
def bestTrial (ts : List (Int × Nat)) : Option (Int × Nat) :=
  ts.foldl (fun b t => match b with | none => some t | some c => if c.2 < t.2 then some t else some c) none

/-- The fields of the stages' locks fall. -/
def dropLocks : Eff := seqE [put LRX_STATUS.SF_LOCK 0, put LRX_CR_STAT.CR_LOCK 0, put LRX_CR_STAT.SHIFTING 0,
  upd (.lrx fun x => { x with llr := false, crWin := [], crBad := 0, sfMiss := 0 }), syncLosf]

/-- SFSYNC starts: the detections begin anew (R131). -/
def startSfsync : Eff := seqE [put LRX_STATUS.STAGE 6, dropLocks, dyn fun s => forE s.rxScs (fun k => modSc k (fun c => { c with dets := [], bnd := none }))]

/-- CMA starts (R122). -/
def startCma : Eff := seqE [put LRX_STATUS.STAGE 5, allScs 1 (fun c => { c with costs := [], cmaOk := false, met := false, phase := 0 })]

/-- TIMING starts from the integrator's present value (R117). -/
def startTiming : Eff := seqE [put LRX_STATUS.STAGE 4, put LRX_STATUS.TIM_LOCK 0, upd (.lrx fun x => { x with tim := [] })]

/-- DISP ends with estimate `d`; CD_TRACK holds D against the scan (R110, R114). -/
def dispDone (d : Int) : Eff := dyn fun s =>
  seqE [whenE (!s.on LRX_FREEZE.CD_TRACK) (putI LRX_CD_EST.ALL d), layWalk, upd (.lrx fun x => { x with dHeld := true, scan := none }), startTiming]

/-- A fine scan around `d`. -/
def fineScan (d : Int) : Eff := dyn fun s => upd (.lrx fun x => { x with scan := some ⟨true, fineTrials s.rxCd d, []⟩ })

/-- DISP starts (R110, R112, R131, R137): after CD_MISMATCH from the other kept trial; else in a warm attempt from the held D; else by FORCE and VERIFY.
After a mismatch with no other trial kept, as with a forced D or in a warm attempt, it starts as it would without one (DESIGN CHOICE, log entry 151). -/
def startDisp : Eff := dyn fun s => seqE [put LRX_STATUS.STAGE 3,
  if s.lrx.mism == 1 && s.lrx.other.isSome then fineScan (s.lrx.other.getD 0)
  else if s.on LRX_STATUS.WARM then fineScan (s.rdI LRX_CD_EST.ALL)
  else if s.on LRX_CD_CFG.FORCE then
    (if s.on LRX_CD_CFG.VERIFY then fineScan (s.rdI LRX_CD_CFG.D_FORCE) else dispDone (s.rdI LRX_CD_CFG.D_FORCE))
  else upd (.lrx fun x => { x with scan := some ⟨false, coarseTrials s.rxCd, []⟩ })]

/-- The time from the attempt's start in µs. -/
def State.attemptUs (s : State) : Nat := (s.tick - s.lrx.attemptAt) * 32 / 25000

/-- LOCKED (R106): the attempt has ended, and WARM with it (log entry 151). -/
def startLocked : Eff := dyn fun s => seqE [put LRX_STATUS.STAGE 10, put LRX_STATUS.ACQ_FAILS 0, upd (.lrx fun x => { x with fails := 0, mism := 0 }),
  raise EV.RX_LOCKED [s.attemptUs, s.rd LRX_STATUS.WARM, w32 (s.rdI LRX_CD_EST.ALL), w32 (s.rdI LRX_FREQ_EST.ALL)], put LRX_STATUS.WARM 0]

/-- The receiver returns to IDLE: disabled, LLRs zero (Table 3.2). -/
def toIdle : Eff := seqE [put LRX_STATUS.STAGE 0, put LRX_STATUS.WARM 0, put LRX_STATUS.TIM_LOCK 0, dropLocks,
  forE (List.range 16) (fun k => put LRX_SC_STAT.STATE 0 k), syncDD, noQuality,
  upd (.lrx fun x => { x with pause := false, expired := false, scan := none, suppressed := none, mism := 0, other := none })]

/-! ### Restarts and freezing -/

/-- The restarts: 0 cold, 1 from DISP, 2 from TIMING, 3 from SFSYNC with taps held (R139), 4 warm (R137). A restart from LOCKED, a cold and a warm
one begin a new attempt; any other goes on with the attempt under way (DESIGN CHOICE, log entry 151). -/
def restartNow (kind : Nat) : Eff := dyn fun s => seqE [
  upd (.lrx fun x => { x with pause := false, expired := false, suppressed := none,
                              attemptAt := if kind = 0 ∨ kind = 4 ∨ s.stage = 10 then s.tick else x.attemptAt }),
  noQuality,
  match kind with
  | 0 => seqE [put LRX_STATUS.WARM 0, put LRX_STATUS.TIM_LOCK 0, dropLocks,
      upd (.lrx fun x => { x with dHeld := false, other := none, mism := 0, scan := none, timInt := 0, timPh := 0, crInt := 0, crRate := 0 }),
      forE (List.range 16) (fun k => seqE [put LRX_SC_STAT.STATE 0 k,
        modSc k (fun c => { ff := if s.on LRX_SC_CTRL.FFE_FREEZE k then fourSets (centred s.taps) c.ff else coldTaps s.taps,
                            fb := if s.on LRX_SC_CTRL.DFE_FREEZE k then c.fb else [] })]),
      syncDD, put LRX_STATUS.STAGE 1]
  | 1 => seqE [dropLocks, allScs 5 (fun c => { c with phase := 0 }), startDisp]
  | 2 => seqE [dropLocks, allScs 5 (fun c => { c with phase := 0 }), startTiming]
  | 3 => seqE [allScs 5 (fun c => { c with phase := 0 }), startSfsync]
  | _ => seqE [put LRX_STATUS.WARM 1, put LRX_STATUS.TIM_LOCK 0, upd (.lrx fun x => { x with mism := 0 }), dropLocks, allScs 5 (fun c => { c with phase := 0 }),
      put LRX_STATUS.STAGE 1]]

/-- The bits of LRX_FREEZE whose loop a restart of kind `kind` re-runs (R138): AGC 1, FREQ 2, TIMING 3, CD_TRACK 4. -/
def rerunLoops (kind : Nat) : Nat :=
  match kind with
  | 0 => 30 | 1 => 24 | 2 => 8 | 3 => 0 | _ => 26

def LRX_FREEZE.fields : List Fld := [LRX_FREEZE.IQ, LRX_FREEZE.AGC, LRX_FREEZE.FREQ, LRX_FREEZE.TIMING, LRX_FREEZE.CD_TRACK]

/-- The freeze bits of the loops that a restart re-runs, and the subcarriers in `scs` whose taps are frozen. -/
def State.frozenBy (s : State) (kind : Nat) (scs : List Nat) : Nat × List Nat :=
  (s.word LRX_FREEZE.fields &&& rerunLoops kind, scs.filter (fun k => s.on LRX_SC_CTRL.FFE_FREEZE k))

/-- An automatic restart: suppressed while a loop it would re-run is frozen (R138). -/
def autoRestart (kind : Nat) : Eff := dyn fun s =>
  if s.frozenBy kind s.rxScs = (0, []) then restartNow kind else upd (.lrx fun x => { x with suppressed := some kind })

/-- After freeze bits change, a suppressed restart that nothing blocks any more runs (R138). -/
def unfreezeCheck : Eff := dyn fun s =>
  match s.lrx.suppressed with
  | some kind => if s.frozenBy kind s.rxScs = (0, []) then restartNow kind else nop
  | none => nop

/-- Any loop is frozen: the FROZEN flag of the events of a loss (R138). -/
def State.anyFrozen (s : State) : Bool := s.word LRX_FREEZE.fields &&& 30 != 0 || s.rxScs.any (fun k => s.on LRX_SC_CTRL.FFE_FREEZE k)

/-- A payload with the FROZEN flag behind it where the loop is frozen (R138; DESIGN CHOICE, log entry 13). -/
def withFrozen (b : Bool) (pay : List Nat) : List Nat := if b then pay ++ [1] else pay

/-- The attempt fails (R134): counted at once, a pause of 1 ms runs, ACQ_FAIL on every eighth failure in a row. -/
def failAttempt : Eff := dyn fun s =>
  if s.lrx.pause || !decide (1 ≤ s.stage ∧ s.stage ≤ 9) then nop
  else seqE [upd (.lrx fun x => { x with pause := true, fails := x.fails + 1 }), bump LRX_STATUS.ACQ_FAILS,
    dyn fun t => whenE (t.lrx.fails % 8 == 0) (raise EV.ACQ_FAIL [t.stage, t.rd LRX_STATUS.ACQ_FAILS])]

/-- Whether acquisition or tracking runs: a stage from GAIN to LOCKED, no pause. -/
def State.rxRuns (s : State) : Bool := decide (1 ≤ s.stage ∧ s.stage ≤ 10) && !s.lrx.pause

/-- IDLE is left when RX_EN is 1 and local-oscillator light is present (Table 3.2). -/
def tryStart : Eff := dyn fun s => if s.on LRX_CTRL.RX_EN && s.stage == 0 && s.loPresent then restartNow 0 else nop

/-- Whether the calibration sets that receive or transmit needs are loaded (R183). -/
def State.calOk (s : State) (sets : List Nat) : Bool := sets.all (fun k => s.rd CNV_FUSE_STAT.SOURCE k != 0)

/-- Whether a request to set RX_EN is refused (R105, R183). -/
def State.rxRefused (s : State) : Bool := s.rxMode == 0 || !s.calOk [0, 1, 2, 3, 5]

/-- RX_EN changes (R105). -/
def setRxEn (v : Bool) : Eff := dyn fun s =>
  if v == s.on LRX_CTRL.RX_EN then nop else if v then seqE [put LRX_CTRL.RX_EN 1, syncLosf, tryStart] else seqE [put LRX_CTRL.RX_EN 0, clearDefects, toIdle]

end Sys2Proof.Machine
end

