-- ==== Sys2Proof/Machine/Calibration.lean ====
section
/-!
DEFINITION. Try-square: the calibration sets, background steps, slice faults, foreground runs, fuse rows and exported records (R177 to
R218).
-/
namespace Sys2Proof.Machine
open Sys2Proof

/-! ### Slices -/

/-- Slice `n` = 66 m + s of half-converter m (R216), as reset leaves it where nothing has changed. -/
def CnvSt.slice (c : CnvSt) (n : Nat) : SliceSt := (Tab.get none c.slices n).getD ⟨sliceResetPhase n, sliceResetRole n, 0, 255⟩

/-- A change to slice `n`. -/
def modSlice (n : Nat) (g : SliceSt → SliceSt) : Eff := upd (.cnv fun c => { c with slices := Tab.set none c.slices n (some (g (c.slice n))) })

/-- The slices of half-converter `m`. -/
def halfSlices (m : Nat) : List Nat := (List.range 66).map (66 * m + ·)

/-- The slices of half-converter `m` in role `r`. -/
def CnvSt.inRole (c : CnvSt) (m r : Nat) : List Nat := (halfSlices m).filter (fun n => (c.slice n).role == r)

/-- The SPARE slice of half-converter `m` that has waited longest (R191). -/
def CnvSt.oldestSpare (c : CnvSt) (m : Nat) : Option Nat :=
  (c.inRole m 1).foldl (fun b n => match b with | none => some n | some k => if (c.slice n).since < (c.slice k).since then some n else some k) none

/-- The half-converter that takes sample `i` of ADC channel `c`, counted at 384 GS/s, and the phase within it (R177). -/
def sampleAt (c i : Nat) : Nat × Nat := (2 * c + i % 2, i / 2 % 64)

/-- The slice of half-converter `m` that serves phase `p` (R178); none where the phase is interpolated. -/
def CnvSt.server (c : CnvSt) (m p : Nat) : Option Nat := (halfSlices m).find? (fun n => (c.slice n).role == 0 && (c.slice n).phase == p)

/-- The slice that takes sample `i` of ADC channel `c` (R177, R178). -/
def CnvSt.sampledBy (x : CnvSt) (c i : Nat) : Option Nat := x.server (sampleAt c i).1 (sampleAt c i).2

/-- Samples of ADC channel `c` from sample `i` on as the DSP takes them (R195): one of an interpolated phase is the mean, rounded down, of its
neighbours; `before` is the sample before the first, and the last has itself for its right neighbour (log entry 156). -/
def CnvSt.mended (x : CnvSt) (c : Nat) : Nat → Int → List Int → List Int
  | _, _, [] => []
  | i, before, y :: ys =>
    (if x.interp.contains (64 * (sampleAt c i).1 + (sampleAt c i).2) then (before + ys.headD y) / 2 else y) :: x.mended c (i + 1) y ys

/-- Slice `n` serves no phase from now, in role `r`. -/
def retire (n r : Nat) : Eff := upd (.cnv fun c =>
  { c with order := c.order + 1, slices := Tab.set none c.slices n (some { c.slice n with phase := 255, role := r, since := c.order + 1 }) })

/-- Slice `n` serves phase `p`. -/
def serve (n p : Nat) : Eff := modSlice n (fun l => { l with phase := p, role := 0 })

/-! ### Calibration sets -/

/-- The payload length of a set (Table 5.2). -/
def setLen (k : Nat) : Nat := match k with | 4 => 8 | 5 => 512 | 6 => 20 | 7 => 68 | _ => 135

/-- Word `i` of the NOMINAL payload of set `k`: all zero, but for the nominal gains of Gauge in set 7 (R562). -/
def nominalWord (k i : Nat) : Nat := if k ≠ 7 then 0 else if i < 32 then 2 ^ 30 else if i = 64 ∨ i = 66 then 1342177280 else 0

/-- The payload of set `k`, the NOMINAL one where nothing has been loaded. -/
def CnvSt.setWords (c : CnvSt) (k : Nat) : List Nat :=
  let w := (Tab.get {} c.sets k).words
  (List.range (setLen k)).map (fun i => w.getD i (nominalWord k i))

/-- A change to set `k`. -/
def modSet (k : Nat) (g : CalSet → CalSet) : Eff := upd (.cnv fun c => { c with sets := Tab.set {} c.sets k (g (Tab.get {} c.sets k)) })

/-- Whether a set's values are traceable (R188): its base and every word found since. -/
def CalSet.traceable (c : CalSet) : Bool := c.base && c.untr.isEmpty

/-- UNCAL and UNTRACEABLE follow the sets (R182, R188). -/
def syncSets : Eff := fun s => [
  .put CNV_STATUS.UNCAL 0 ((List.range 8).foldl (fun a k => a + b2n (s.rd CNV_FUSE_STAT.SOURCE k == 0) * 2 ^ k) 0),
  .put CNV_STATUS.UNTRACEABLE 0 (b2n ((List.range 8).any (fun k => !(Tab.get {} s.cnv.sets k).traceable)))]

/-- The conditions of a calibration made now (Table 5.8); REF_ID stays that of the set's row or record. -/
def State.calNow (s : State) (k : Nat) (words : List Nat) (fg : Bool) : CalSet where
  words := words
  time := s.nowNs / 1000000000 % 2 ^ 32
  refId := (Tab.get {} s.cnv.sets k).refId
  tj := toPat 8 s.pwr.tj
  vref := s.rd CNV_REF_CFG.VREF_UV
  fref := s.rd CNV_FREF_CFG.FREF_HZ
  base := !s.on CNV_STATUS.REF_BAD
  fg := fg

/-- Background calibration finds `v` for word `i` of set `k` (R182, R188): the refined flag sets where the value changes; a word found while REF_BAD
stands is untraceable until it is found again without. -/
def refine (k i v : Nat) : Eff := dyn fun s =>
  let ws := s.cnv.setWords k
  let old := Tab.get {} s.cnv.sets k
  let untr := old.untr.filter (· != i) ++ if s.on CNV_STATUS.REF_BAD then [i] else []
  if ws.getD i 0 = v then seqE [modSet k (fun c => { c with untr := untr }), syncSets]
  else seqE [modSet k (fun _ => { s.calNow k (ws.set i v) false with base := old.base, untr := untr }), put CNV_FUSE_STAT.REFINED 1 k, syncSets]

/-- The set and word that hold slice `n`'s corrections: set `n / 132`, in slice order (Table 5.2). -/
def State.sliceWord (s : State) (n : Nat) : Nat := (s.cnv.setWords (n / 132)).getD (n % 132) 0

/-- A slice word's gain in 0.02 %, offset in 1/16 LSB and timing in fs (CNV_SLICE). -/
def wordGain (w : Nat) : Int := ofPat 10 (bits w 22 10)
def wordOffset (w : Nat) : Int := ofPat 10 (bits w 12 10)
def wordTiming (w : Nat) : Int := ofPat 12 (bits w 0 12)

/-- A slice word from gain, offset and timing, each held to its range (R179). -/
def mkSliceWord (g o t : Int) : Nat :=
  toPat 10 (clampI (-512) 511 g) * 2 ^ 22 + toPat 10 (clampI (-512) 511 o) * 2 ^ 12 + toPat 12 (clampI (-2048) 2047 t)

/-- A DAC half word from gain in 0.01 %, offset in 1/16 LSB and timing in fs, each held to its range (R180; log entry 146). -/
def mkHalfWord (g o t : Int) : Nat :=
  toPat 10 (clampI (-500) 500 g) * 2 ^ 22 + toPat 10 (clampI (-128) 128 o) * 2 ^ 12 + toPat 12 (clampI (-1000) 1000 t)

/-- Slice `n` takes a timing correction (R179, R182). -/
def setTiming (n : Nat) (v : Int) : Eff := dyn fun s =>
  let w := s.sliceWord n
  refine (n / 132) (n % 132) (mkSliceWord (wordGain w) (wordOffset w) v)

/-- Slice `n` is trimmed by `d` fs (R191, R194). -/
def trimSlice (n : Nat) (d : Int) : Eff := dyn fun s => setTiming n (wordTiming (s.sliceWord n) + d)

/-- The skew words held to ±25 ps, in 0.05 ps (R100); they and Tj are what the skew estimator starts from (R189). -/
def holdSkew (ws : List Nat) : List Nat := ((List.range ws.length).zip ws).map (fun e => if e.1 < 8 then w32 (clampI (-500) 500 (ofPat 32 e.2)) else e.2)
def baseSkew : Eff := dyn fun s =>
  upd (.cnv fun c => { c with skew0 := (s.cnv.setWords 6).take 8, skewTj := ofPat 8 (Tab.get {} s.cnv.sets 6).tj })

/-! ### References -/

/-- The references are checked (R186, R188): VDEV in 0.001 %, FDEV in 0.01 ppm; beyond 2 % or 50 ppm they are bad. The event carries both as
32-bit two's complement (R707). -/
def checkRefs (vdev fdev : Int) : Eff :=
  let bad := decide (2000 < vdev.natAbs ∨ 5000 < fdev.natAbs)
  let v := clampI (-32768) 32767 vdev
  let f := clampI (-32768) 32767 fdev
  seqE [put CNV_REF_STAT.VDEV (toPat 16 v), put CNV_REF_STAT.FDEV (toPat 16 f), putB CNV_STATUS.REF_BAD bad, whenE bad (raise EV.CAL_REF_BAD [w32 v, w32 f])]

/-- REF_CHECK (R186, R188). -/
def execRefCheck (vdev fdev : Word) (s : State) : Out := perform (checkRefs vdev.toInt fdev.toInt) s

/-! ### Commands over settings and status -/

def CNV_STATUS.fields : List Fld := [CNV_STATUS.UNCAL, CNV_STATUS.FG_BUSY, CNV_STATUS.UNTRACEABLE, CNV_STATUS.NOSPARE, CNV_STATUS.REF_BAD]
def CNV_FUSE_STAT.fields : List Fld := [CNV_FUSE_STAT.SOURCE, CNV_FUSE_STAT.REFINED, CNV_FUSE_STAT.LATEST, CNV_FUSE_STAT.NEXT, CNV_FUSE_STAT.BAD]
def CNV_CTRL.fields : List Fld := [CNV_CTRL.BG_DAC, CNV_CTRL.BG_ADC]
def CNV_BG_CFG.fields : List Fld := [CNV_BG_CFG.PERIOD, CNV_BG_CFG.TEMP_THR]
def CNV_THR.fields : List Fld := [CNV_THR.HANDOVER, CNV_THR.MM_ALARM, CNV_THR.SPUR_ALARM, CNV_THR.FG_TO]
def CNV_WTR.fields : List Fld := [CNV_WTR.WTR, CNV_WTR.RETEST]
def CNV_HALF_Q.fields : List Fld := [CNV_HALF_Q.MM, CNV_HALF_Q.SPUR, CNV_HALF_Q.SPARES]

def opCalStatus : OpDef := ⟨0x0401, len 0, upStates, fun _ _ _ => okP nop (fun s =>
  [s.word CNV_STATUS.fields] ++ (List.range 8).map (fun k => s.word CNV_FUSE_STAT.fields k) ++ [s.word [CNV_REF_STAT.VDEV, CNV_REF_STAT.FDEV]])⟩
/-- CAL_STATUS (R214). -/
def execCalStatus (h : CmdHdr) (p : List Word) (s : State) : Out := perform (felwin opCalStatus h p) s

def opCalBgSet : OpDef := ⟨0x0402, len 4, cfgStates, fun _ p _ =>
  if !wordOk CNV_BG_CFG.fields (nth p 1) || !wordOk CNV_THR.fields (nth p 2) || !wordOk CNV_WTR.fields (nth p 3) then no .range
  else okE (seqE [putWord CNV_CTRL.fields (nth p 0), putWord CNV_BG_CFG.fields (nth p 1), putWord CNV_THR.fields (nth p 2), putWord CNV_WTR.fields (nth p 3)])⟩
/-- CAL_BG_SET (R189, R190, R192, R196, R197). -/
def execCalBgSet (h : CmdHdr) (p : List Word) (s : State) : Out := perform (felwin opCalBgSet h p) s

def opCalRefSet : OpDef := ⟨0x0403, len 2, [1, 2, 4], fun _ p _ =>
  if !decide (500000 ≤ nth p 0 ∧ nth p 0 ≤ 1250000 ∧ 1000000 ≤ nth p 1 ∧ nth p 1 ≤ 156250000) then no .range
  else okE (seqE [put CNV_REF_CFG.VREF_UV (nth p 0), put CNV_FREF_CFG.FREF_HZ (nth p 1)])⟩
/-- CAL_REF_SET (R184, R185). -/
def execCalRefSet (h : CmdHdr) (p : List Word) (s : State) : Out := perform (felwin opCalRefSet h p) s

/-! ### Foreground runs -/

/-- The sets a run of kinds `k` makes (R198): ADC 0 to 3, DAC 4, each with its parts of 5 and 6. -/
def runSets (k : Nat) : List Nat := (if bit k 0 then [0, 1, 2, 3] else []) ++ (if bit k 1 then [4] else []) ++ [5, 6]

/-- Whether a run of kinds `k` makes word `i` of set `set` (R198): of sets 5 and 6 the ADC kind the receive entries, the DAC kind the transmit ones;
the optical path has both (log entry 156). -/
def runMakes (k set i : Nat) : Bool :=
  match set with
  | 5 => bit k 2 || if i < 256 then bit k 0 else bit k 1
  | 6 => bit k 2 || if i < 16 then (if i % 8 < 4 then bit k 0 else bit k 1) else if i < 18 then bit k 0 else bit k 1
  | _ => true

/-- Whether a run's converters are out of traffic (R198, R199). -/
def State.runOk (s : State) (k : Nat) : Bool :=
  let rxOff := !s.on LRX_CTRL.RX_EN
  let dark := !s.lit && s.ltx.bring == 0
  (!bit k 0 || rxOff) && (!bit k 1 || dark) && (!bit k 2 || (rxOff && dark && s.txPresent)) &&
  (!bit k 1 || bit k 0 || s.calOk [0, 1, 2, 3])

/-- Whether background calibration is suspended on the ADCs or the DACs by the run in progress (R199, Table 5.6: on the converters named; an optical
run has both in its path, log entry 156). -/
def State.suspended (s : State) (dac : Bool) : Bool :=
  match s.cnv.fg with
  | some r => bit (nth r.par 0) (b2n dac) || bit (nth r.par 0) 2
  | none => false

/-- Background steps on every half-converter are abandoned: a CALIBRATING slice is SPARE again with its previous corrections, a shadow as
well (Table 5.6, step 1). -/
def abandonSteps (ms : List Nat) : Eff := seqE [
  dyn fun s => forE (ms.flatMap (fun m => s.cnv.inRole m 2 ++ (s.cnv.inRole m 3).filter (fun n => !s.cnv.rets.contains n))) (fun n => retire n 1),
  upd (.cnv fun c => { c with steps := ms.foldl (fun t m => Tab.set none t m none) c.steps })]

def opCalRun (vdev fdev : Int) : OpDef := ⟨0x0404, len 2, [1, 2, 4], fun h p s =>
  if nth p 0 == 0 || 7 < nth p 0 then no .badParam
  else if nth p 1 < 1 || 10 < nth p 1 then no .range
  else if s.on CNV_STATUS.FG_BUSY then no .busy
  else if !s.runOk (nth p 0) then no .state
  else if s.on CNV_STATUS.REF_BAD then no .noResource
  else let adc := bit (nth p 0) 0 || bit (nth p 0) 2
    pendE (seqE [put CNV_STATUS.FG_BUSY 1, abandonSteps (if adc then List.range 8 else []),
      upd (.cnv fun c => { c with fg := some (runOf h 0x0404 p), pass := if adc then false else c.pass }), checkRefs vdev fdev])⟩
/-- CAL_RUN (R186, R187, R198, R199, R215): `vdev` and `fdev` are what its check of the references finds. -/
def execCalRun (h : CmdHdr) (p : List Word) (vdev fdev : Word) (s : State) : Out := perform (felwin (opCalRun vdev.toInt fdev.toInt) h p) s

/-- A foreground run ends with `st`: the sets keep their values (R200). -/
def endRun (st : Status) : Eff := dyn fun s =>
  match s.cnv.fg with
  | some r => seqE [put CNV_STATUS.FG_BUSY 0, upd (.cnv fun c => { c with fg := none }), finish r st]
  | none => nop

/-- A quality figure `fig` of Table 5.7 at unit `i` is judged against its threshold with a hysteresis (R202); larger is better. -/
def judgeFig (fig i v thr hyst : Nat) : Eff := dyn fun s =>
  if v < thr && !s.cnv.low.contains (fig, i) then seqE [upd (.cnv fun c => { c with low := (fig, i) :: c.low }), raise EV.CAL_QUALITY_LOW [fig, i, v]]
  else whenE (decide (thr + hyst ≤ v)) (upd (.cnv fun c => { c with low := c.low.filter (· != (fig, i)) }))

/-- The words of set `k` after a run of `kinds` that measured `ws`: those it makes, the others as they were. -/
def State.runWords (s : State) (kinds k : Nat) (ws : List Nat) : List Nat :=
  let new := ((List.range (setLen k)).zip (s.cnv.setWords k)).map (fun e => if runMakes kinds k e.1 then ws.getD e.1 e.2 else e.2)
  if k = 6 then holdSkew new else new

/-- CAL_FG_DONE (R198 to R201, Table 5.6): the run's sets take the measured payloads with source FOREGROUND; ENOB, in 0.01 bit for the four
ADCs and four DACs, is judged against its limits. `figs` are the figures of the kinds run. -/
def execCalFgDone (sets : List (Fin 8 × List Word)) (enob : List Word) (figs : List Word) (s : State) : Out := perform (dyn fun s =>
  match s.cnv.fg with
  | none => nop
  | some r =>
    let kinds := nth r.par 0
    let en := (List.range 8).map (fun k => (enob.getD k 0).toNat)
    seqE [put CNV_STATUS.FG_BUSY 0,
      forE (runSets kinds) (fun k => seqE [modSet k (fun _ => s.calNow k (s.runWords kinds k (((sets.find? (fun e => e.1.val == k)).map (·.2.map (·.toNat))).getD [])) true),
        put CNV_FUSE_STAT.SOURCE 4 k, put CNV_FUSE_STAT.REFINED 0 k]),
      syncSets, baseSkew, upd (.cnv fun c => { c with fg := none, fgFigs := figs.map (·.toNat) }),
      raise EV.CAL_FG_DONE (kinds :: en),
      forE (List.range 8) (fun k => whenE (bit kinds (k / 4)) (judgeFig 3 k (en.getD k 0) (if k < 4 then 560 else 530) 33)),
      finish r .ok (figs.map (·.toNat))]) s

/-- FG_TIMEOUT (R200). -/
def execFgTimeout (s : State) : Out := perform (endRun .timeout) s

def opCalAbort : OpDef := ⟨0x0405, len 0, [1, 2, 4], fun _ _ s => if s.cnv.fg.isSome then okE (endRun .aborted) else no .state⟩
/-- CAL_ABORT (R200). -/
def execCalAbort (h : CmdHdr) (p : List Word) (s : State) : Out := perform (felwin opCalAbort h p) s

/-! ### Fuse rows -/

/-- The key of a row among the fuses. -/
def rowKey (set row : Nat) : Nat := 8 * set + row

/-- The words of row `row` of set `set`; none programmed in a blank row. -/
def Fuses.rowOf (f : Fuses) (set row : Nat) : List Nat := Tab.get [] f.rows (rowKey set row)

/-- Whether a row's words read as blank (R205). -/
def rowBlank (ws : List Nat) : Bool := ws.all (· == 0)

/-- Whether a row is valid (R205): commit word, CRC, and SET, ROW and FMT in word 0. -/
def rowValid (set row : Nat) (ws : List Nat) : Bool :=
  let n := setLen set
  ws.length == n + 7 && nth ws (n + 6) == 0xA5C30000 + set * 0x100 + row && nth ws (n + 5) == crc32cWords (ws.take (n + 5)) &&
  nth ws 0 / 2 ^ 16 == set * 2 ^ 8 + row * 2 ^ 4 + 1

/-- The highest valid row of a set. -/
def Fuses.latest (f : Fuses) (set : Nat) : Option Nat := ((List.range 8).reverse).find? (fun r => rowValid set r (f.rowOf set r))

/-- The next row to write (R207): above the highest that is not blank; 8 when exhausted. Row 0 is Salhorn's. -/
def Fuses.next (f : Fuses) (set : Nat) : Nat := match ((List.range 8).reverse).find? (fun r => !rowBlank (f.rowOf set r)) with | some r => r + 1 | none => 1

/-- The rows of a set that are interrupted (R205). -/
def Fuses.bad (f : Fuses) (set : Nat) : Nat :=
  (List.range 8).foldl (fun a r => a + b2n (!rowBlank (f.rowOf set r) && !rowValid set r (f.rowOf set r)) * 2 ^ r) 0

/-- CNV_FUSE_STAT follows the fuse rows. -/
def syncRows (set : Nat) : Eff := fun s => [.put CNV_FUSE_STAT.LATEST set ((s.fuse.latest set).getD 0), .put CNV_FUSE_STAT.NEXT set (s.fuse.next set),
  .put CNV_FUSE_STAT.BAD set (s.fuse.bad set)]

/-- The words of a row but its commit word (Table 5.8). -/
def rowWords (set row refId : Nat) (c : CalSet) (pay : List Nat) : List Nat :=
  let ws := [set * 2 ^ 24 + row * 2 ^ 20 + 2 ^ 16 + setLen set, c.time, refId, c.tj * 2 ^ 24 + c.vref,
    b2n c.traceable * 2 ^ 31 + b2n c.fg * 2 ^ 30 + c.fref] ++ pay
  ws ++ [crc32cWords ws]

/-- Programs words into a row. -/
def programRow (set row : Nat) (ws : List Nat) : Eff := seqE [
  upd (.fuse fun f => { f with rows := Tab.set [] f.rows (rowKey set row) ws }), syncRows set]

/-- A set of a payload and the four words of its conditions, as rows and records have them (Table 5.8). -/
def setFrom (pay cond : List Nat) : CalSet where
  words := pay
  time := nth cond 0
  refId := nth cond 1
  tj := bits (nth cond 2) 24 8
  vref := bits (nth cond 2) 0 21
  fref := bits (nth cond 3) 0 28
  base := bit (nth cond 3) 31
  fg := bit (nth cond 3) 30

/-- Boot reads every row and loads each set from its highest valid one, else NOMINAL; interrupted rows are reported (R206). -/
def loadFuses : Eff := dyn fun s => seqE [
  forE (List.range 8) (fun k =>
    match s.fuse.latest k with
    | some r => let ws := s.fuse.rowOf k r
      seqE [modSet k (fun _ => setFrom ((ws.drop 5).take (setLen k)) (ws.drop 1)),
        put CNV_FUSE_STAT.SOURCE (if r = 0 then 1 else 2) k, syncRows k]
    | none => seqE [modSet k (fun _ => {}), put CNV_FUSE_STAT.SOURCE 0 k, syncRows k]),
  syncSets, baseSkew, forE (List.range 8) (fun k => whenE (s.fuse.bad k != 0) (raise EV.FUSE_ROW_BAD [k, s.fuse.bad k]))]

/-- The set's contents as a row would take them now (R210). -/
def State.rowFor (s : State) (set row refId : Nat) : List Nat := rowWords set row refId (Tab.get {} s.cnv.sets set) (s.cnv.setWords set)

/-- Takes up the next row of a commit, or ends it (R210): OK where all rows are OK, flagged PARTIAL where some are, else the first
failing status. -/
def commitNext : Nat → Eff
  | 0 => nop
  | fuel + 1 => dyn fun s =>
    match s.cnv.commit with
    | none => nop
    | some c =>
      match c.todo with
      | (set, ws) :: rest =>
        let row := s.fuse.next set
        if 8 ≤ row then seqE [raise EV.FUSE_EXHAUSTED [set],
          upd (.cnv fun x => { x with commit := some { c with todo := rest, done := c.done ++ [(0xF, Status.noResource.code)] } }), commitNext fuel]
        else upd (.cnv fun x => { x with commit := some { c with todo := rest, cur := some ⟨set, row, ws, false⟩ } })
      | [] =>
        let bad := c.done.filter (fun d => d.2 != 0)
        let pay := c.done.flatMap (fun d => [d.1, d.2])
        let st := if bad.isEmpty then Status.ok else if bad.length < c.done.length then Status.ok else
          if (bad.head?.map (·.2)) = some Status.hwFault.code then Status.hwFault else Status.noResource
        seqE [upd (.cnv fun x => { x with commit := none }),
          finishFl c.run st (b2n (!bad.isEmpty && decide (bad.length < c.done.length))) pay]

/-- Whether fuses may be programmed at this Tj (R209). -/
def State.fuseTj (s : State) : Bool := decide (0 ≤ s.pwr.tj ∧ s.pwr.tj ≤ 125)

/-- Whether some half-converter is in a slice step. -/
def CnvSt.stepping (c : CnvSt) : Bool := (List.range 8).any (fun m => (Tab.get none c.steps m).isSome)

/-- A commit that waited for the slice steps takes the values of its sets, all at once, and the first row is taken up (R210). -/
def commitGo : Eff := dyn fun s =>
  match s.cnv.commit with
  | some c => whenE (c.waits && !s.cnv.stepping) (seqE [
      upd (.cnv fun x => { x with commit := some { c with waits := false, todo := (bitsSet 8 (nth c.run.par 0)).map (fun k => (k, s.rowFor k 0 (nth c.run.par 1))) } }),
      commitNext 9])
  | none => nop

def opCalCommit (vdd : Bool) : OpDef := ⟨0x0406, len 2, cfgStates, fun h p s =>
  if nth p 0 == 0 || 255 < nth p 0 then no .badParam
  else if s.on CNV_STATUS.FG_BUSY || s.cnv.commit.isSome then no .busy
  else if !s.fuseTj || !vdd then no .state
  else { status := .pending, after := seqE [upd (.cnv fun c => { c with commit := some ⟨runOf h 0x0406 p, true, [], none, []⟩ }), commitGo] }⟩
/-- CAL_COMMIT (R207 to R210, R215): the named sets' values are taken at once, after the slice steps in progress, and written row by row. `vdd` says
whether VDD_IO is within ±5 % of nominal. -/
def execCalCommit (h : CmdHdr) (p : List Word) (vdd : Bool) (s : State) : Out := perform (felwin (opCalCommit vdd) h p) s

/-- The row's words for index `row`: its header names the row, so its CRC is over that. -/
def reRow (set row : Nat) (ws : List Nat) : List Nat :=
  let body := (set * 2 ^ 24 + row * 2 ^ 20 + 2 ^ 16 + setLen set) :: (ws.drop 1).take (setLen set + 4)
  body ++ [crc32cWords body]

/-- The end of the row being written, with its index or 0xF, and its status. -/
def rowEnds (row st : Nat) : Eff := seqE [upd (.cnv fun x => match x.commit with
  | some c => { x with commit := some { c with cur := none, done := c.done ++ [(row, st)] } }
  | none => x), commitNext 9]

/-- The commit word of row `row` of set `set` (Table 5.8). -/
def commitWord (set row : Nat) : Nat := 0xA5C30000 + set * 0x100 + row

/-- What is programmed of a row whose write is cut after `n` words and `k` bits of the commit word, lowest first (R208, R209). -/
def cutRow (w : RowWrite) (n k : Nat) : List Nat :=
  let ws := reRow w.set w.row w.words
  if ws.length < n then ws ++ [commitWord w.set w.row % 2 ^ min k 31] else ws.take n

/-- Programming stops (R209): the commit ends, what is not written yet as failed. -/
def stopCommit : Eff := dyn fun s =>
  match s.cnv.commit with
  | none => nop
  | some c => let left := (if c.cur.isSome then [()] else []) ++ c.todo.map (fun _ => ())
    seqE [upd (.cnv fun x => { x with commit := some { c with todo := [], cur := none, done := c.done ++ left.map (fun _ => (0xF, Status.hwFault.code)) } }), commitNext 9]

/-- FUSE_ROW_WRITE_DONE (R208 to R210, R218): the words read back as written and the commit word is written, or the row is left without it and
written once more at the next index. Where Tj has left its range the write stops without the commit word. -/
def execFuseRowWriteDone (same : Bool) (s : State) : Out := perform (dyn fun s =>
  match s.cnv.commit with
  | none => nop
  | some c =>
    match c.cur with
    | none => nop
    | some w =>
      let ws := reRow w.set w.row w.words
      if !s.fuseTj then seqE [programRow w.set w.row ws, stopCommit]
      else if same then seqE [programRow w.set w.row (ws ++ [commitWord w.set w.row]), modSet w.set (fun x => { x with refId := nth ws 2 }),
        raise EV.FUSE_COMMITTED [w.set, w.row, bits (nth ws 4) 31 1], whenE (w.row == 7) (raise EV.FUSE_EXHAUSTED [w.set]), rowEnds w.row 0]
      else seqE [programRow w.set w.row ws,
        if w.retry || 7 ≤ w.row then rowEnds 0xF Status.hwFault.code
        else upd (.cnv fun x => { x with commit := some { c with cur := some { w with row := w.row + 1, retry := true } } })]) s

/-- FUSE_VDD_LOSS (R208, R209): programming stops at once, with `n` words of the row programmed, or all but the commit word and `k` bits of that. -/
def execFuseVddLoss (n k : Nat) (s : State) : Out := perform (dyn fun s =>
  match s.cnv.commit.bind (·.cur) with
  | none => nop
  | some w => seqE [programRow w.set w.row (cutRow w n k), stopCommit]) s

/-! ### Exported records -/

/-- CK, the calibration key (Table 18.6), among the model's key numbers. -/
def keyCK : Nat := 4

/-- The words a record's signature covers (Table 5.9). -/
def State.recordWords (s : State) (k : Nat) : List Nat :=
  [k * 2 ^ 24 + 2 ^ 20 + ((s.fuse.latest k).getD 0xF) * 2 ^ 16 + setLen k] ++ w64 s.fuse.devId ++ ((s.rowFor k 0 (Tab.get {} s.cnv.sets k).refId).drop 1).take (setLen k + 4)

def opCalExport : OpDef := ⟨0x0407, len 1, runStates, fun _ p s =>
  if 7 < nth p 0 then no .badParam
  else let ws := s.recordWords (nth p 0)
    okP drawn (fun _ => ws ++ (List.range 24).map (fun i => Config.ecdsaSign keyCK (Config.sha384 ws) s.draws i))⟩
/-- CAL_EXPORT (R211). -/
def execCalExport (h : CmdHdr) (p : List Word) (s : State) : Out := perform (felwin opCalExport h p) s

/-- Whether a set's converters are out of traffic (R212, R198). -/
def State.setIdle (s : State) (k : Nat) : Bool :=
  let rxOff := !s.on LRX_CTRL.RX_EN
  let dark := !s.lit && s.ltx.bring == 0
  match k with
  | 4 => dark | 5 => rxOff && dark | 6 => rxOff && dark | 7 => true | _ => rxOff

def opCalLoad : OpDef := ⟨0x0408, fun k => [166, 39, 543, 51, 99].contains k, [1, 2, 4], fun _ p s =>
  let set := bits (nth p 0) 24 8
  let n := bits (nth p 0) 0 16
  let body := p.take (p.length - 24)
  if s.on CNV_STATUS.FG_BUSY then no .busy
  else if !Config.ecdsaOk keyCK (Config.sha384 body) (p.drop (p.length - 24)) then no .auth
  else if nth p 1 + nth p 2 * 2 ^ 32 != s.fuse.devId then no .auth
  else if 7 < set || bits (nth p 0) 20 4 != 1 || n != setLen set || p.length != n + 31 then no .badParam
  else if bits (nth p 0) 16 4 != (s.fuse.latest set).getD 0xF then no .state
  else if !s.setIdle set then no .state
  else okE (seqE [modSet set (fun _ => setFrom ((p.drop 7).take n) (p.drop 3)),
    put CNV_FUSE_STAT.SOURCE 3 set, put CNV_FUSE_STAT.REFINED 0 set, syncSets, whenE (set == 6) baseSkew, raise EV.CAL_LOADED [set, bits (nth p 0) 16 4]])⟩
/-- CAL_LOAD (R212, R213, R215). -/
def execCalLoad (h : CmdHdr) (p : List Word) (s : State) : Out := perform (felwin opCalLoad h p) s

/-- The values of CAL_LOAD are lost (R213): such a set is NOMINAL until the fuses are read again. -/
def dropLoaded : Eff := dyn fun s => seqE [
  forE ((List.range 8).filter (fun k => s.rd CNV_FUSE_STAT.SOURCE k == 3)) (fun k =>
    seqE [modSet k (fun _ => {}), put CNV_FUSE_STAT.SOURCE 0 k, put CNV_FUSE_STAT.REFINED 0 k]), syncSets]

/-! ### Quality snapshot -/

/-- The healthy slices of half-converter `m` that serve no phase. -/
def CnvSt.spares (c : CnvSt) (m : Nat) : Nat := (c.inRole m 1 ++ c.inRole m 2 ++ c.inRole m 3).length

/-- The words of R203 are copied and GEN steps. -/
def takeCnv : Eff := seqE [fun s =>
  (List.range 8).flatMap (fun m => let f := Tab.get (0, 0) s.cnv.figs m
    [.put CNV_HALF_Q.MM m f.1, .put CNV_HALF_Q.SPUR m f.2, .put CNV_HALF_Q.SPARES m (s.cnv.spares m)]) ++
  (List.range 528).flatMap (fun n => let w := s.sliceWord n; let l := s.cnv.slice n
    [.put CNV_SLICE.GAIN n (bits w 22 10), .put CNV_SLICE.OFFSET n (bits w 12 10), .put CNV_SLICE.TIMING n (bits w 0 12),
     .put CNV_SLICE_PH.PHASE n l.phase, .put CNV_SLICE_PH.ROLE n l.role]) ++
  [.put CNV_Q_SNAP.GEN 0 (s.rd CNV_Q_SNAP.GEN + 1)], upd (.cnv fun c => { c with qTake := false, qRuns := [] })]

/-- The payload of CAL_QUALITY (Table 5.10). -/
def State.calQualityWords (s : State) : List Nat :=
  [s.rd CNV_Q_SNAP.GEN] ++ (List.range 8).map (fun m => s.word CNV_HALF_Q.fields m) ++ s.cnv.fgFigs ++
  (List.range 34).map (fun n => s.word [SRD_EYE_SUM.WIDTH, SRD_EYE_SUM.HEIGHT] n)

def opCalQuality : OpDef := ⟨0x0409, len 0, runStates, fun h p _ => deferE (upd (.cnv fun c => { c with qTake := true, qRuns := c.qRuns ++ [runOf h 0x0409 p] }))⟩
/-- CAL_QUALITY (R202, R214): answered after a TAKE. -/
def execCalQuality (h : CmdHdr) (p : List Word) (s : State) : Out := perform (felwin opCalQuality h p) s

/-- A snapshot of the calibration quality is asked for. -/
def cnvTake : Eff := upd (.cnv fun c => { c with qTake := true })

/-- CNV_Q_TAKE (R203). -/
def execCnvQTake (m : Mast) (s : State) : Out := perform (byMaster m CNV_Q_SNAP.TAKE 0 cnvTake) s

/-- CNV_Q_SNAP_DONE (R203): the copy is made between slice steps. -/
def execCnvQSnapDone (s : State) : Out := perform (dyn fun s =>
  if !s.cnv.qTake || s.cnv.stepping then nop else seqE [takeCnv, dyn fun t => forE s.cnv.qRuns (fun r => finish r .ok t.calQualityWords)]) s

/-! ### Background calibration -/

/-- Whether background calibration of half-converter `m` runs. -/
def State.bgOn (s : State) (m : Nat) : Bool := bit (s.rd CNV_CTRL.BG_ADC) (m / 2) && !s.suspended false

/-- A background pass starts over every enabled half-converter (R190). -/
def startPass : Eff := dyn fun s =>
  whenE (!s.cnv.pass && (List.range 8).any s.bgOn)
    (upd (.cnv fun c => { c with pass := true, passAt := s.tick, passTj := s.pwr.tj, cursor := (List.range 8).foldl (fun t m => Tab.set 0 t m (if s.bgOn m then 0 else 66)) [] }))

/-- A pass starts where Tj has moved by more than TEMP_THR since the last one started (R190). -/
def tempPass : Eff := dyn fun s => whenE (decide (s.rd CNV_BG_CFG.TEMP_THR < (s.pwr.tj - s.cnv.passTj).natAbs)) startPass

/-- The next ACTIVE slice of half-converter `m` at or above its cursor. -/
def CnvSt.nextActive (c : CnvSt) (m : Nat) : Option Nat :=
  (halfSlices m).find? (fun n => decide (Tab.get 0 c.cursor m ≤ n % 66) && (c.slice n).role == 0)

/-- A level in −0.25 dB of a ratio in 2^-64. -/
def quarterDb (v : Nat) : Nat := (clampI 0 255 (-(dbOf v) / 25)).toNat

/-- The slice mismatch of half-converter `m` (Table 5.7): Σ D_p / (64 × P_in), each phase over the input of its own last handover; a phase without
one adds nothing (log entry 156). -/
def CnvSt.mismatch (c : CnvSt) (m : Nat) : Nat :=
  quarterDb (((List.range 64).foldl (fun a p => let d := Tab.get (0, 1) c.diffs (64 * m + p); a + d.1 * 2 ^ 64 / max 1 d.2) 0) / 64)

/-- The offset spur of half-converter `m` (Table 5.7): the largest line of the residual offsets of its phases, in 1/16 LSB, over a full-scale sine, whose
power at 8 bits is 2^13 LSB². -/
def CnvSt.spur (c : CnvSt) (m : Nat) : Nat :=
  let o := (List.range 64).map (fun p => match c.server m p with | some n => Tab.get 0 c.resid n | none => 0)
  let line := fun k => cNorm (((List.range 64).zip o).foldl (fun a e => cAdd a (turnBy (-(1024 * (e.1 * k % 64) : Int)) (65536 * e.2, 0))) (0, 0))
  quarterDb (((List.range 63).map (fun k => line (k + 1))).foldl max 0 / 2 ^ 1)

/-- The pass ends when no enabled half-converter has a slice left to step (R190, R202, R203): the figures change together. -/
def passEnd : Eff := dyn fun s =>
  let on := (List.range 8).filter s.bgOn
  let fs := on.map (fun m => (m, s.cnv.mismatch m, s.cnv.spur m))
  let worst (g : Nat × Nat → Nat) : Nat := (fs.map (fun f => g f.2)).foldl min 255
  if !s.cnv.pass || s.cnv.stepping || on.any (fun m => (s.cnv.nextActive m).isSome) then nop
  else seqE [upd (.cnv fun c => { c with pass := false, figs := fs.foldl (fun t f => Tab.set (0, 0) t f.1 f.2) c.figs }),
    raise EV.CAL_PASS_DONE [(s.tick - s.cnv.passAt) * 32 / 25000000, worst (·.1), worst (·.2)],
    forE fs (fun f => seqE [judgeFig 1 f.1 f.2.1 (4 * s.rd CNV_THR.MM_ALARM) 8, judgeFig 2 f.1 f.2.2 (4 * s.rd CNV_THR.SPUR_ALARM) 8])]

/-- CAL_PASS_START (R190): the pass period has elapsed; a pass over every enabled half-converter starts. -/
def execCalPassStart (s : State) : Out := perform (seqE [passEnd, startPass]) s

/-- The step of half-converter `m` ends; a commit that waited for it and the pass may go on. -/
def stepEnds (m : Nat) : Eff := seqE [upd (.cnv fun c => { c with steps := Tab.set none c.steps m none }), commitGo, passEnd]

/-- SLICE_STEP_START (R191, Table 5.4): the next active slice is selected and the spare that has waited longest is connected in shadow. A
half-converter without a healthy spare steps no slice. No step starts while a commit waits for the steps in progress (R210). -/
def execSliceStepStart (m : Fin 8) (s : State) : Out := perform (dyn fun s =>
  match s.cnv.pass && s.bgOn m && (Tab.get none s.cnv.steps m).isNone && !(s.cnv.commit.any (·.waits)), s.cnv.nextActive m, s.cnv.oldestSpare m with
  | true, some n, some r => seqE [modSlice r (fun l => { l with role := 3 }),
      upd (.cnv fun c => { c with steps := Tab.set none c.steps m (some ⟨n, r, 0, none⟩), cursor := Tab.set 0 c.cursor m (n % 66 + 1) })]
  | true, some _, none => seqE [upd (.cnv fun c => { c with cursor := Tab.set 0 c.cursor m 66 }), passEnd]
  | _, _, _ => passEnd) s

/-- Whether a mean-square difference `d` passes the handover threshold of HANDOVER dBc below a mean-square input `pin` (R192). -/
def State.handoverOk (s : State) (d pin : Nat) : Bool := decide (d ^ 10 * 10 ^ s.rd CNV_THR.HANDOVER ≤ pin ^ 10)

/-- SLICE_HANDOVER (R191 to R193, Table 5.4): the spare, trimmed by `trim` fs to match the slice selected, differs from it by a mean square `d`, of the
input's `pin`. On a pass it serves the phase and the other goes on the calibration bus; the second failure puts the spare there. -/
def execSliceHandover (m : Fin 8) (trim : BitVec 16) (d pin : Nat) (s : State) : Out := perform (dyn fun s =>
  match Tab.get none s.cnv.steps m with
  | some st =>
    let setStep (x : StepSt) : Eff := upd (.cnv fun c => { c with steps := Tab.set none c.steps m (some x) })
    let p := (s.cnv.slice st.sel).phase
    if st.onBus.isSome then nop
    else seqE [trimSlice st.spare trim.toInt,
      if s.handoverOk d pin then
        seqE [serve st.spare p, modSlice st.sel (fun l => { l with phase := 255, role := 2 }), setStep { st with onBus := some st.sel },
          upd (.cnv fun c => { c with diffs := Tab.set (0, 1) c.diffs (64 * m.val + p) (d, pin) })]
      else if st.fails = 0 then setStep { st with fails := 1 }
      else seqE [modSlice st.spare (fun l => { l with role := 2 }), setStep { st with onBus := some st.spare }]]
  | none => nop) s

/-- The words that name slice `n` in an event: channel, half, slice. -/
def sliceName (n : Nat) : List Nat := [n / 132, n / 66 % 2, n % 66]

/-- SLICE_CAL_DONE (R191, R202, Table 5.4 step 5): the slice on the bus takes its new gain and offset, with `resid` 1/16 LSB of offset left, or fails the
limits of Table 5.5; after the last slice of the pass the figures change. -/
def execSliceCalDone (m : Fin 8) (gain offset resid : BitVec 16) (s : State) : Out := perform (dyn fun s =>
  match Tab.get none s.cnv.steps m with
  | some ⟨_, _, _, some n⟩ => seqE [
    if gain.toInt.natAbs ≤ 450 ∧ offset.toInt.natAbs ≤ 448 then
      seqE [refine (n / 132) (n % 132) (mkSliceWord gain.toInt offset.toInt (wordTiming (s.sliceWord n))), upd (.cnv fun c => { c with resid := Tab.set 0 c.resid n resid.toInt }), retire n 1]
    else seqE [modSlice n (fun l => { l with role := 4, phase := 255, lost := 255 }), raise EV.SLICE_FAULT (sliceName n ++ [255, 5, 255])],
    stepEnds m.val]
  | _ => nop) s

/-- Slice `n` leaves its phase (R194, R195): SPARE, SHADOW or CALIBRATING takes it over, else it is interpolated. Answers the taking slice. -/
def State.taker (s : State) (m : Nat) : Option Nat :=
  match s.cnv.oldestSpare m with
  | some k => some k
  | none => match s.cnv.inRole m 3 with
    | k :: _ => some k
    | [] => (s.cnv.inRole m 2).head?

/-- The step of half-converter `m` is abandoned: its shadow and its calibrating slice are SPARE with their previous corrections. -/
def abandonStep (m : Nat) : Eff := seqE [abandonSteps [m], commitGo, passEnd]

/-- Takes slice `n` out as FAULTY (R194, R195); the taking slice is trimmed by `trim` fs. -/
def takeOut (n : Nat) (test : Option Nat) (trim : Int) : Eff := dyn fun s =>
  let m := n / 66
  let p := (s.cnv.slice n).phase
  let t := if p = 255 then none else s.taker m
  let touched := match Tab.get none s.cnv.steps m with
    | some st => st.sel == n || st.spare == n || (t.isSome && (t == some st.spare || t == st.onBus)) | none => false
  seqE [modSlice n (fun l => { l with role := 4, phase := 255, lost := p }), upd (.cnv fun c => { c with rets := c.rets.filter (fun k => k != n && some k != t) }),
    match t with | some k => seqE [serve k p, trimSlice k trim] | none => nop,
    whenE touched (abandonStep m),
    match test with | some x => raise EV.SLICE_FAULT (sliceName n ++ [p, x, match t with | some k => k % 66 | none => 255]) | none => nop,
    whenE (p != 255 && t.isNone) (seqE [upd (.cnv fun c => { c with interp := (64 * m + p) :: c.interp }), put CNV_STATUS.NOSPARE 1,
      raise EV.SLICE_NOSPARE [m / 2, m % 2, p]])]

/-- Whether slice `n`'s timing correction lies beyond ±1.8 ps (Table 5.5). -/
def State.timingBad (s : State) (n : Nat) : Bool := (s.cnv.slice n).role == 0 && decide (1800 < (wordTiming (s.sliceWord n)).natAbs)

/-- SLICE_FAULT (R194, R195): an active slice fails test `test` of Table 5.5, timing by the correction it holds; the slice that takes over is trimmed
by `trim` fs. -/
def execSliceFault (n : Fin 528) (test : Fin 4) (trim : BitVec 16) (s : State) : Out := perform (dyn fun s =>
  whenE ((s.cnv.slice n).role == 0 && (test.val != 0 || s.timingBad n)) (takeOut n.val (some (test.val + 1)) trim.toInt)) s

/-- SLICE_RETEST (R196): a FAULTY slice that passes is RETURNING; a RETURNING one that fails is FAULTY. -/
def execSliceRetest (n : Fin 528) (pass : Bool) (s : State) : Out := perform (dyn fun s =>
  let r := (s.cnv.slice n).role
  if r == 4 && pass then modSlice n.val (fun l => { l with role := 5 }) else whenE (r == 5 && !pass) (modSlice n.val (fun l => { l with role := 4 }))) s

/-- SLICE_RETURN (R197): the wait-to-restore time of a RETURNING slice is over. In shadow on the phase it served when it failed, it is trimmed; where one of
the two trials of `diffs`, mean-square difference and input, passes the handover threshold, or no slice serves the phase, it takes the phase back at the
next boundary; else it waits again (log entry 156). One that served no phase is SPARE at once. -/
def execSliceReturn (n : Fin 528) (trim : BitVec 16) (diffs : List (Nat × Nat)) (s : State) : Out := perform (dyn fun s =>
  let l := s.cnv.slice n
  if l.role ≠ 5 then nop
  else if l.lost = 255 then seqE [retire n.val 1, raise EV.SLICE_RETURN (sliceName n ++ [255])]
  else seqE [trimSlice n.val trim.toInt,
    whenE ((s.cnv.server (n.val / 66) l.lost).isNone || (diffs.take 2).any (fun d => s.handoverOk d.1 d.2))
      (seqE [modSlice n.val (fun l => { l with role := 3 }), upd (.cnv fun c => { c with rets := c.rets ++ [n.val] })])]) s

/-- At a boundary of the local transmitter, or the dark-time tick, a returning slice takes its phase back (R197); the slice that served it is SPARE,
and a step of it is abandoned. -/
def returnSlice (n : Nat) : Eff := dyn fun s =>
  let l := s.cnv.slice n
  let m := n / 66
  let left := s.cnv.interp.filter (· != 64 * m + l.lost)
  let old := s.cnv.server m l.lost
  seqE [serve n l.lost,
    match old with
    | some k => seqE [retire k 1, whenE ((Tab.get none s.cnv.steps m).any (fun st => st.sel == k)) (abandonStep m)]
    | none => nop,
    upd (.cnv fun c => { c with interp := left }), putB CNV_STATUS.NOSPARE (!left.isEmpty), raise EV.SLICE_RETURN (sliceName n ++ [l.lost])]

/-- The slices due at a boundary take their phases back. -/
def returnSlices : Eff := dyn fun s => seqE [upd (.cnv fun c => { c with rets := [] }), forE s.cnv.rets returnSlice]

def opCalSlice (trim : Int) : OpDef := ⟨0x040A, len 4, [3, 4], fun _ p s =>
  let n := 66 * (2 * nth p 0 + nth p 1) + nth p 2
  let r := (s.cnv.slice n).role
  if 3 < nth p 0 ∨ 1 < nth p 1 ∨ 65 < nth p 2 ∨ 1 < nth p 3 then no .badParam
  else if nth p 3 = 0 then (if r = 4 ∨ r = 5 then no .state else okP (takeOut n none trim) (fun s => [(s.cnv.slice n).role]))
  else if r = 4 then okP (modSlice n (fun l => { l with role := 5 })) (fun s => [(s.cnv.slice n).role]) else no .state⟩
/-- CAL_SLICE (R196, R214); `trim` is what the slice that takes over is trimmed by (R194). -/
def execCalSlice (h : CmdHdr) (p : List Word) (trim : BitVec 16) (s : State) : Out := perform (felwin (opCalSlice trim.toInt) h p) s

/-! ### Estimators -/

/-- Changes less `r` in all, each within ±`lim` as far as that goes. -/
def balance (lim : Int) : Int → List Int → List Int
  | _, [] => []
  | r, e :: es => let x := clampI (e - lim) (e + lim) r; (e - x) :: balance lim (r - x) es

/-- Estimator of slice timing of half-converter `m` (R189): each active slice's correction moves by at most 10 fs, and they keep zero mean; one beyond
±1.8 ps fails (R194). -/
def slicesTiming (m : Nat) (steps : List Int) : Eff := dyn fun s =>
  let ns := s.cnv.inRole m 0
  let want := ((List.range ns.length).map (fun i => clampI (-10) 10 (steps.getD i 0)))
  let sum := (ns.map (fun n => wordTiming (s.sliceWord n))).foldl (· + ·) 0 + want.foldl (· + ·) 0
  seqE [forE (ns.zip (balance 10 sum want)) (fun e => trimSlice e.1 e.2),
    dyn fun s => forE (ns.filter s.timingBad) (fun n => takeOut n (some 1) 0)]

/-- The skew of channel `u`, receive then transmit, that Tj asks for (R189): the foreground word, in 0.05 ps, and the coefficient of set 6, in fs per °C (log
entry 146), times the change of Tj since. -/
def State.skewWanted (s : State) (u : Nat) : Int :=
  ofPat 32 (s.cnv.skew0.getD u 0) + ofPat 32 ((s.cnv.setWords 6).getD (8 + u) 0) * (s.pwr.tj - s.cnv.skewTj) / 50

/-- BG_ESTIMATOR_UPDATE (R180, R189, Table 5.3): an estimator updates, each step held to its limit. 0 is the slice timing of half-converter `u`, with a
step in fs for each active slice in `steps`; 1 the A/B halves of channel `u` by `gain` and `timing`; 2 DAC half `u` by `gain`, `offset` and `timing`; 3 the
skew of channel `u`, receive then transmit. Each is enabled by its converter's bit. -/
def execBgEstimatorUpdate (est : Fin 4) (u : Fin 8) (gain offset timing : BitVec 16) (steps : List (BitVec 16)) (s : State) : Out := perform (dyn fun s =>
  let lim (n : Int) (z : BitVec 16) : Int := clampI (-n) n z.toInt
  let halves (k i : Nat) (mk : Int → Int → Int → Nat) (g o t : Int) : Eff := dyn fun s => let w := (s.cnv.setWords k).getD i 0
    refine k i (mk (wordGain w + g) (wordOffset w + o) (wordTiming w + t))
  let dacOn (c : Nat) : Bool := bit (s.rd CNV_CTRL.BG_DAC) c && !s.suspended true
  match est.val with
  | 0 => whenE (s.bgOn u.val) (slicesTiming u.val (steps.map (·.toInt)))
  | 1 => whenE (decide (u.val < 4) && s.bgOn (2 * u.val)) (seqE [halves u.val 132 mkSliceWord (lim 1 gain) 0 0, halves u.val 133 mkSliceWord 0 0 (lim 10 timing)])
  | 2 => whenE (dacOn (u.val / 2)) (halves 4 u.val mkHalfWord (lim 1 gain) (lim 1 offset) (lim 5 timing))
  | _ => whenE (if u.val < 4 then s.bgOn (2 * u.val) else dacOn (u.val - 4)) (
      let now := ofPat 32 ((s.cnv.setWords 6).getD u.val 0)
      refine 6 u.val (w32 (clampI (-500) 500 (now + clampI (-1) 1 (s.skewWanted u.val - now)))))) s

end Sys2Proof.Machine
end

