-- ==== Sys2Proof/Machine/Gauge.lean ====
section
/-!
DEFINITION. The Gauge monitor converter: scan, triggers, decimation chain, result queues and system calibration (R550 to R577).
-/
namespace Sys2Proof.Machine
open Sys2Proof

/-! ### Modulators -/

/-- Modulator `m`. -/
def MonSt.mod (x : MonSt) (m : Nat) : ModSt := Tab.get {} x.mods m

/-- A change to modulator `m`. -/
def modMod (m : Nat) (g : ModSt → ModSt) : Eff := upd (.mon fun x => { x with mods := Tab.set {} x.mods m (g (x.mod m)) })

def enFld (m : Nat) : Fld := if m = 0 then MON_CTRL.EN0 else MON_CTRL.EN1
def burstFld (m : Nat) : Fld := if m = 0 then MON_STATUS.BURST0 else MON_STATUS.BURST1

/-- M0 belongs to the bias loops (R552). -/
def State.m0Bias (s : State) : Bool := s.rd LTX_BIAS_CTRL.EN != 0 && (s.on LTX_STATUS.TX_ON || s.ltx.bring != 0)

/-- Interleaved conversion (R566). -/
def State.interleaved (s : State) : Bool := s.on MON_CTRL.INTERLEAVE

/-- The modulator whose settings modulator `m` runs on (R566). -/
def State.monCfg (s : State) (m : Nat) : Nat := if s.interleaved then 0 else m

/-- K, r and the FIR code of modulator `m` in force. -/
def State.monK (s : State) (m : Nat) : Nat := s.rd MON_CHAIN.K (s.monCfg m)
def State.monR (s : State) (m : Nat) : Nat := s.rd MON_CHAIN.R_LOG (s.monCfg m)
def State.monFir (s : State) (m : Nat) : Nat := s.rd MON_CHAIN.FIR (s.monCfg m)

/-- Taps and decimation of a FIR code (Table 15.2). -/
def firTaps (f : Nat) : Nat := match f with | 0 => 1 | 1 => 31 | 2 => 63 | _ => 64
def firDec (f : Nat) : Nat := match f with | 0 => 1 | 1 => 2 | 2 => 2 | _ => 64

/-- Coefficient `j` of FIR code `f` (R560): the boxcar's are equal; those of COMP and SHARP stand in ROM and are not given. -/
def firCoef (f j : Nat) : Int := if firTaps f ≤ j then 0 else if f = 0 then 131072 else if f = 3 then 2048 else (Config.firCoef f j).toInt

/-- S of a chain (R563). -/
def settleWords (k f : Nat) : Nat := (k + firTaps f - 1) / firDec f

/-- S of modulator `m` as it is set. -/
def State.monS (s : State) (m : Nat) : Nat := settleWords (s.monK m) (s.monFir m)

/-- WORDS of modulator `m` (Table 15.8, R564). -/
def State.monWords (s : State) (m : Nat) : Nat :=
  if s.on MON_CHAIN.SINGLE (s.monCfg m) then 1 else if s.rd MON_CHAIN.WORDS (s.monCfg m) = 0 then 256 else s.rd MON_CHAIN.WORDS (s.monCfg m)

/-- The scan mask of modulator `m`. -/
def State.monScan (s : State) (m : Nat) : Nat := s.rd MON_SCAN.ALL (s.monCfg m)

/-- Whether modulator `m` converts. -/
def State.monRuns (s : State) (m : Nat) : Bool := s.on (enFld (s.monCfg m)) && s.monScan m != 0

/-- MON_STATUS, whose state bits follow the modulators. -/
def State.monStatus (s : State) : Nat :=
  2 ^ 20 * s.monS 1 + 2 ^ 14 * s.monS 0 + 32 * s.rd MON_STATUS.SYSCAL + 16 * b2n s.m0Bias + 8 * s.rd MON_STATUS.BURST1 + 4 * s.rd MON_STATUS.BURST0 +
    2 * b2n (s.monRuns 1) + b2n (s.monRuns 0)

/-! ### The chain -/

/-- The width W of the CIC (R558). -/
def cicWidth (k r : Nat) : Nat := 2 + k * r

/-- The chain after a restart. -/
def ChainSt.zero (k : Nat) : ChainSt := ⟨List.replicate k 0, List.replicate k 0, []⟩

/-- One bit through the integrators, modulo 2^w: each adds the one before. -/
def integrate (w : Nat) : List Nat → Nat → List Nat
  | [], _ => []
  | a :: as, x => let a' := (a + x) % 2 ^ w; a' :: integrate w as a'

/-- One integrator output through the combs: each subtracts its delayed input; the delays that follow and the output. -/
def comb (w : Nat) : List Nat → Nat → List Nat × Nat
  | [], x => ([], x)
  | d :: ds, x => let (ds', y) := comb w ds ((x + 2 ^ w - d % 2 ^ w) % 2 ^ w); (x :: ds', y)

/-- The CIC output scaled to ±2^23 for a bit density of ±1 (R559). -/
def cicScale (k r : Nat) (y : Int) : Int := if k * r ≤ 23 then y * 2 ^ (23 - k * r) else y / 2 ^ (k * r - 23)

/-- The chain over the bits of one CIC period: +1 or −1 each. -/
def ChainSt.cic (c : ChainSt) (k r : Nat) (bs : List Bool) : ChainSt :=
  let w := cicWidth k r
  let ints := bs.foldl (fun a b => integrate w a (if b then 1 else 2 ^ w - 1)) c.ints
  let (combs, y) := comb w c.combs (ints.getLastD 0)
  { c with ints := ints, combs := combs, fir := (cicScale k r (ofPat w y) :: c.fir).take 64 }

/-- The bits in groups of one CIC period. -/
def bitGroups (n : Nat) : Nat → List Bool → List (List Bool)
  | 0, _ => []
  | fuel + 1, bs => if bs.isEmpty then [] else bs.take n :: bitGroups n fuel (bs.drop n)

/-- The FIR output: rounded half up to 24 bits and saturated (R560). -/
def ChainSt.out (c : ChainSt) (f : Nat) : Int :=
  let acc := (List.range (firTaps f)).foldl (fun a j => a + firCoef f j * c.fir.getD j 0) (0 : Int)
  clampI (-8388608) 8388607 ((acc + 65536) / 131072)

/-- The chain over the bits of one word. -/
def ChainSt.word (c : ChainSt) (k r f : Nat) (bs : List Bool) : ChainSt := (bitGroups (2 ^ r) (firDec f) bs).foldl (fun c g => c.cic k r g) c

/-- Division by 2^30 to nearest, halves up. -/
def nearest30 (z : Int) : Int := (z + 536870912) / 1073741824

/-- A chain output corrected by its modulator (R562, first step). -/
def modCorrect (cal : List Nat) (m : Nat) (w : Int) : Int := nearest30 ((w - ofPat 24 (nth cal (65 + 2 * m))) * nth cal (64 + 2 * m))

/-- A chain output corrected by modulator and channel (R562); whether it saturated. -/
def correct (cal : List Nat) (m c : Nat) (w : Int) : Int × Bool :=
  let v := nearest30 ((modCorrect cal m w - ofPat 24 (nth cal (32 + c))) * nth cal c)
  let v' := clampI (-8388608) 8388607 v
  (v', v != v')

/-- The chain of modulator `m` restarts (R563). -/
def chainRestart (m : Nat) : Eff := dyn fun s => modMod m (fun x => { x with settle := s.monS m, restart := false, chain := ChainSt.zero (s.monK m) })

/-! ### Steps, triggers and bursts -/

/-- The lowest channel of a mask. -/
def lowest (mask : Nat) : Nat := (bitsSet 32 mask).headD 0

/-- A step on channel `c` of modulator `m` starts: the chain restarts where the channel differs from the one being converted, and always
with SINGLE (R563, R564). -/
def startStep (m c : Nat) : Eff := dyn fun s => seqE [
  whenE ((s.mon.mod m).ch != some c || s.on MON_CHAIN.SINGLE (s.monCfg m)) (chainRestart m),
  modMod m (fun x => { x with ch := some c, active := true, words := 0 })]

/-- The modulators that step with modulator `m`. -/
def State.together (s : State) (m : Nat) : List Nat := if s.interleaved then [0, 1] else [m]

/-- The burst of modulator `m` starts (R555). -/
def startBurst (m : Nat) : Eff := dyn fun s => seqE [
  forE (s.together m) (fun k => seqE [modMod k (fun x => { x with delay := false, src := s.rd MON_TRIG.SRC m, seq := (x.seq + 1) % 16 }), startStep k (lowest (s.monScan m))])]

/-- A trigger of modulator `m` with PW tag `pw` (R555, R556). -/
def trigger (m pw : Nat) : Eff := dyn fun s =>
  let x := s.mon.mod m
  if !s.monRuns m then nop
  else if x.active || x.delay || s.on MON_STATUS.SYSCAL then seqE [bump MON_TRIG_OVR.ALL 1 m, occur EV.MON_TRIG_OVR m [m, 1]]
  else seqE [forE (s.together m) (fun k => seqE [put (burstFld k) 1, modMod k (fun x => { x with pw := pw })]),
    if s.rd MON_TRIG_TIME.DELAY m = 0 then startBurst m else modMod m (fun x => { x with delay := true })]

/-- A modulator that takes triggers of its own: M1 does not while interleaved. -/
def State.ownTrigger (s : State) (m : Nat) : Bool := m == 0 || !s.interleaved

/-- A trigger by command or schedule of the modulators whose source lies in `srcs` (R554). -/
def triggerBy (srcs ms : List Nat) : Eff := dyn fun s => forE (ms.filter (fun m => s.ownTrigger m && srcs.contains (s.rd MON_TRIG.SRC m))) (fun m => trigger m 0)

/-- MON_TIMER_TRIGGER (R554): a modulator's PERIOD ends. -/
def execMonTimerTrigger (m : Fin 2) (s : State) : Out := perform (triggerBy [1] [m.val]) s

/-- The PW tag of a pulse `w` × 10 ns wide (R557): its width in 200 ns to nearest, less 1, held to 0 to 7. -/
def pwTag (w : Nat) : Nat := min 7 ((w * 10 + 100) / 200 - 1)

/-- A pulse `w` × 10 ns wide triggers the modulators whose window takes it (R557). -/
def pulse (w : Nat) : Eff := dyn fun s =>
  forE ([0, 1].filter (fun m => s.ownTrigger m && s.rd MON_TRIG.SRC m == 2 && decide (s.rd MON_TRIG.PW_MIN m ≤ w ∧ w ≤ s.rd MON_TRIG.PW_MAX m)))
    (fun m => trigger m (pwTag w))

/-- DSYNC_PULSE (R80, R557): the strobe DSYNC falls, and its width in 10 ns is the pulse's. -/
def execDsyncPulse (s : State) : Out := perform (dyn fun s =>
  match s.ltx.dsync with
  | some ns => seqE [upd (.ltx fun x => { x with dsync := none }), pulse (ns / 10)]
  | none => nop) s

/-- MON_DELAY_END (R555): the trigger delay ends and the burst starts. -/
def execMonDelayEnd (m : Fin 2) (s : State) : Out := perform (dyn fun s => whenE (s.mon.mod m).delay (startBurst m)) s

/-- After a step of modulator `m` on channel `c`: the next higher channel of the mask, or the lowest again; a burst ends after the highest. -/
def nextStep (m c : Nat) : Eff := dyn fun s =>
  match (bitsSet 32 (s.monScan m)).find? (fun k => decide (c < k)) with
  | some k => startStep m k
  | none => if (s.mon.mod m).src = 0 && s.rd MON_TRIG.SRC (s.monCfg m) == 0 then startStep m (lowest (s.monScan m))
    else seqE [modMod m (fun x => { x with active := false }), put (burstFld m) 0]

/-- Puts a result word in queue `q` (R568, R570); a full queue discards it. -/
def enqueueWord (q m : Nat) (w : Nat) : Eff := dyn fun s =>
  let ws := Tab.get [] s.mon.queues q
  if 1024 ≤ ws.length then seqE [bump MON_Q_STAT.LOST 1 q, upd (.mon fun x => { x with lost := Tab.set 0 x.lost q 1 }), occur EV.MON_Q_LOST m [m, 1]]
  else seqE [upd (.mon fun x => { x with queues := Tab.set [] x.queues q (ws ++ [w + 2 ^ 61 * Tab.get 0 x.lost q]), lost := Tab.set 0 x.lost q 0 }),
    put MON_Q_STAT.LEVEL (ws.length + 1) q]

/-- A word of modulator `m` for its step's channel is corrected, tagged and queued (R561, R562, R568). -/
def deliver (m c : Nat) (w : Int) (t : Nat) : Eff := dyn fun s =>
  let x := s.mon.mod m
  let single := s.on MON_CHAIN.SINGLE (s.monCfg m)
  let (v, clip) := correct (s.cnv.setWords 7) m c w
  let word := 2 ^ 62 * b2n (!single && x.settle != 0) + 2 ^ 60 * m + 2 ^ 55 * c + 2 ^ 52 * x.pw + 2 ^ 48 * (if x.src = 0 then 0 else x.seq) + 2 ^ 24 * t + toPat 24 v
  seqE [modMod m (fun x => { x with settle := x.settle - 1 }),
    if single && x.settle != 0 then nop
    else seqE [enqueueWord (if s.interleaved then 0 else m) m word, whenE clip (occur EV.MON_CLIP m [m, c, 1]),
      modMod m (fun x => { x with words := x.words + 1 }),
      whenE (s.monWords m == x.words + 1) (nextStep m c)]]

/-- Interleaving ends as the bias loops take M0 (R567). -/
def ilvOff : Eff := dyn fun s => seqE [put MON_CTRL.INTERLEAVE 0,
  forE [0, 1] (fun k => seqE [put (burstFld k) 0, modMod k (fun x => { x with active := false, delay := false, ch := none }), chainRestart k]),
  raise EV.MON_ILV_OFF [1, ((Tab.get [] s.mon.queues 0).filter (fun w => bit w 60)).length]]

/-- MON_WORD (R558 to R570): the modulator bits of one word period end at AON count `t`; the chain's word is queued where a step runs. A
restart that was due discards it (R565). -/
def execMonWord (m : Fin 2) (bs : List Bool) (t : BitVec 24) (s : State) : Out := perform (dyn fun s =>
  let x := s.mon.mod m
  if s.on MON_STATUS.SYSCAL || !s.monRuns m then nop
  else if m.val == 0 && s.m0Bias && s.interleaved then ilvOff
  else if x.restart then chainRestart m
  else seqE [whenE (!x.active && !x.delay && s.rd MON_TRIG.SRC (s.monCfg m) == 0) (seqE [modMod m (fun x => { x with src := 0, pw := 0 }), startStep m (lowest (s.monScan m))]),
    dyn fun s' =>
      let ch := (s'.mon.mod m).chain.word (s'.monK m) (s'.monR m) (s'.monFir m) bs
      seqE [modMod m (fun x => { x with chain := ch }),
        match (s'.mon.mod m).active, (s'.mon.mod m).ch with
        | true, some c => deliver m c (ch.out (s'.monFir m)) t.toNat
        | _, _ => nop]]) s

/-! ### Commands -/

def MON_CHAIN.fields : List Fld := [MON_CHAIN.WORDS, MON_CHAIN.SINGLE, MON_CHAIN.FIR, MON_CHAIN.R_LOG, MON_CHAIN.K]
def MON_TRIG.fields : List Fld := [MON_TRIG.SRC, MON_TRIG.PW_MAX, MON_TRIG.PW_MIN]

/-- The PGA code of channel `c`. -/
def pgaOf (w c : Nat) : Nat := if c < 24 then 0 else bits w (2 * (c - 24)) 2

/-- A write that changes K, r, FIR, or the PGA code of the channel being converted, restarts the chains it concerns at the next word
boundary (R565): `old` is the state before it. -/
def chainChanged (old : State) : Eff := dyn fun s => forE ([0, 1].filter (fun m =>
  s.monK m != old.monK m || s.monR m != old.monR m || s.monFir m != old.monFir m ||
    (match (s.mon.mod m).ch with | some c => pgaOf (s.rd MON_PGA.ALL) c != pgaOf (old.rd MON_PGA.ALL) c | none => false)))
  (fun m => modMod m (fun x => { x with restart := true }))

/-- Whether the pulse window is in order (Table 15.8). -/
def pwOk (lo hi : Nat) : Bool := decide (1 ≤ lo ∧ lo ≤ hi)

def opMonCfg : OpDef := ⟨0x0E01, len 7, runStates, fun _ p s =>
  let m := nth p 0
  if 1 < m then no .badParam
  else if !wordOk MON_CHAIN.fields (nth p 2) || !pwOk (MON_TRIG.PW_MIN.raw (nth p 3)) (MON_TRIG.PW_MAX.raw (nth p 3)) || !MON_PERIOD.PERIOD.inRange (MON_PERIOD.PERIOD.raw (nth p 5)) then no .range
  else if m == 0 && s.m0Bias then no .state
  else okP (seqE [put MON_SCAN.ALL (nth p 1) m, putWord MON_CHAIN.fields (nth p 2) m, putWord MON_TRIG.fields (nth p 3) m, putWord [MON_TRIG_TIME.DELAY] (nth p 4) m,
      putWord [MON_PERIOD.PERIOD] (nth p 5) m, put MON_PGA.ALL (nth p 6), chainChanged s])
    (fun t => [t.monS m])⟩
/-- MON_CFG (R574, R565). -/
def execMonCfg (h : CmdHdr) (p : List Word) (s : State) : Out := perform (felwin opMonCfg h p) s

/-- Modulator `m` starts, its chain restarting, or stops (R563). -/
def monStart (m : Nat) (v : Bool) : Eff := seqE [putB (enFld m) v, put (burstFld m) 0, modMod m (fun x => { x with active := false, delay := false, ch := if v then none else x.ch }),
  whenE v (chainRestart m)]

def opMonStart : OpDef := ⟨0x0E02, len 2, runStates, fun _ p s =>
  if 1 < nth p 0 ∨ 1 < nth p 1 then no .badParam
  else if nth p 0 == 0 && s.m0Bias then no .state
  else okE (monStart (nth p 0) (nth p 1 == 1))⟩
/-- MON_START (R563). -/
def execMonStart (h : CmdHdr) (p : List Word) (s : State) : Out := perform (felwin opMonStart h p) s

/-- Pops `n` words of queue `q`. -/
def popQueue (q n : Nat) : Eff := seqE [upd (.mon fun x => { x with queues := Tab.set [] x.queues q ((Tab.get [] x.queues q).drop n) }),
  dyn fun s => put MON_Q_STAT.LEVEL (Tab.get [] s.mon.queues q).length q]

def opMonRead : OpDef := ⟨0x0E03, len 2, upStates, fun _ p s =>
  let m := nth p 0
  let ws := (Tab.get [] s.mon.queues m).take (nth p 1)
  if 1 < m then no .badParam else if nth p 1 = 0 ∨ 256 < nth p 1 then no .range
  else if m == 0 && s.m0Bias then no .state
  else if ws.isEmpty then no .empty
  else okP (popQueue m ws.length) (fun _ => ws.length :: ws.flatMap w64)⟩
/-- MON_READ (R569). -/
def execMonRead (h : CmdHdr) (p : List Word) (s : State) : Out := perform (felwin opMonRead h p) s

/-- The modulators of a mask that a command triggers now (R554). -/
def State.triggerable (s : State) (mask : Nat) : List Nat := (bitsSet 2 mask).filter (fun m =>
  s.ownTrigger m && s.rd MON_TRIG.SRC m != 0 && s.monRuns m && !(s.mon.mod m).active && !(s.mon.mod m).delay && !s.on MON_STATUS.SYSCAL)

def opMonTrigger : OpDef := ⟨0x0E04, len 1, cfgStates, fun _ p s =>
  if 3 < nth p 0 then no .badParam
  else if bit (nth p 0) 0 && s.m0Bias then no .state
  else okP (triggerBy [1, 2, 3] (bitsSet 2 (nth p 0))) (fun _ => [(s.triggerable (nth p 0)).foldl setBit 0])⟩
/-- MON_TRIGGER (R554). -/
def execMonTrigger (h : CmdHdr) (p : List Word) (s : State) : Out := perform (felwin opMonTrigger h p) s

def opMonStatus : OpDef := ⟨0x0E06, len 0, upStates, fun _ _ _ => okP nop (fun s =>
  [s.monStatus] ++ [0, 1].map (fun m => s.word [MON_Q_STAT.LEVEL, MON_Q_STAT.LOST] m) ++ [0, 1].map (fun m => s.rd MON_TRIG_OVR.ALL m))⟩
/-- MON_STATUS (R574). -/
def execMonStatus (h : CmdHdr) (p : List Word) (s : State) : Out := perform (felwin opMonStatus h p) s

/-- The Gauge counts clear. -/
def monCntClr : Eff := fun _ => [0, 1].flatMap (fun k => [.put MON_Q_STAT.LOST k 0, .put MON_TRIG_OVR.ALL k 0])

/-- MON_CNT_CLR (R576): a write of 1 to MON_CTRL.CNT_CLR; the sandbox's is ignored (R585). -/
def execMonCntClr (m : Mast) (s : State) : Out := perform (byMaster m MON_CTRL.CNT_CLR 0 monCntClr) s

/-- A write of MON_CTRL.INTERLEAVE (R566): setting it is refused while M0_BIAS is 1 or a system calibration runs; both chains restart. -/
def interleaveWrite (m : Nat) (v : Bool) : Eff := dyn fun s =>
  if (v && !s.interleaved && (s.m0Bias || s.on MON_STATUS.SYSCAL)) then flagAcc m SYS_ACC_STAT.RANGE MON_CTRL.INTERLEAVE.off
  else if v == s.interleaved then nop
  else seqE [putB MON_CTRL.INTERLEAVE v, forE [0, 1] (fun k => seqE [put (burstFld k) 0, modMod k (fun x => { x with active := false, delay := false }), chainRestart k])]
/-- MON_INTERLEAVE_WRITE (R566). -/
def execMonInterleaveWrite (m : Mast) (v : Bool) (s : State) : Out := perform (byMaster m MON_CTRL.INTERLEAVE 0 (interleaveWrite m v)) s

/-- The word a read of MON_Q[q] by master `m` gives (R569): the EMPTY word where the queue is empty, or where the bias loops own M0 and the
reader is no engine (R552). -/
def State.monQWord (s : State) (m q : Nat) : Nat := if q == 0 && s.m0Bias && decide (m < 4) then 2 ^ 63 else (Tab.get [] s.mon.queues q).headD (2 ^ 63)

/-- A low-word read of MON_Q[q] by master `m` (R569, R691, R694): one word is popped, its high word latched. -/
def monQPop (m q : Nat) : Eff := dyn fun s =>
  let w := s.monQWord m q
  seqE [whenE (w != 2 ^ 63) (popQueue q 1), latchShadow m (MON_Q.ALL.at q) (w / 2 ^ 32)]

/-- The read and its answer. -/
def monQRead (m q : Nat) : Eff := dyn fun s => seqE [monQPop m q, emit (.readData m (MON_Q.ALL.at q) (s.monQWord m q % 2 ^ 32))]
/-- MON_Q_READ (R569). -/
def execMonQRead (m : Mast) (q : Fin 2) (s : State) : Out := perform (monQRead m.val q.val) s

/-! ### System calibration -/

/-- T of R571. -/
def State.calT (s : State) : Nat := s.rd CNV_REF_CFG.VREF_UV * 2 ^ 23

/-- A gain from full scale `num` / 1,200,000 and the words between zero and full, to nearest. -/
def gainOf (num : Nat) (d : Int) : Int := if d = 0 then 0 else let n : Int := num * 2 ^ 30; let q : Int := 1200000 * d; (2 * n + q) / (2 * q)

/-- Whether a gain lies within 0.5 to 2.0 (R572). -/
def gainOk (g : Int) : Bool := decide (536870912 ≤ g ∧ g < 2147483648)

/-- Whether the held ZERO serves a FULL on channel `c` (R572). -/
def State.zeroFor (s : State) (c : Nat) : Bool :=
  match s.mon.zero with | some (c', g, _) => c' == c && g == pgaOf (s.rd MON_PGA.ALL) c | none => false

def opMonSyscal : OpDef := ⟨0x0E05, len 4, cfgStates, fun h p s =>
  let k := nth p 0
  let c := nth p 1
  if 2 < k || (k != 0 && !decide (24 ≤ c ∧ c ≤ 31)) then no .badParam
  else if nth p 3 < 8 ∨ 14 < nth p 3 then no .range
  else if s.on MON_STATUS.SYSCAL then no .busy
  else if s.interleaved || (k == 2 && !s.zeroFor c) then no .state
  else if k == 0 && s.on CNV_STATUS.REF_BAD then no .noResource
  else pendE (seqE [put MON_STATUS.SYSCAL 1, put MON_STATUS.BURST0 0, put MON_STATUS.BURST1 0, forE [0, 1] (fun m => modMod m (fun x => { x with active := false, delay := false })),
    upd (.mon fun x => { x with cal := some (runOf h 0x0E05 p) })])⟩
/-- MON_SYSCAL (R571, R572): a system calibration starts. -/
def execMonSyscal (h : CmdHdr) (p : List Word) (s : State) : Out := perform (felwin opMonSyscal h p) s

/-- New words of set 7 take effect at once, as a foreground result (R573, R182). -/
def newSet7 (ws : List (Nat × Nat)) : Eff := dyn fun s => seqE [
  modSet 7 (fun _ => s.calNow 7 (ws.foldl (fun l e => l.set e.1 e.2) (s.cnv.setWords 7)) true),
  put CNV_FUSE_STAT.SOURCE 4 7, put CNV_FUSE_STAT.REFINED 0 7, syncSets]

/-- A system calibration of kind `k` on channel `c` ends: both chains restart, the event and the final reply go out. -/
def endSyscal (r : Running) (st : Status) (pay cal : List Nat) (after : Eff) : Eff := seqE [
  put MON_STATUS.SYSCAL 0, upd (.mon fun x => { x with cal := none }), after, forE [0, 1] chainRestart,
  raise EV.MON_SYSCAL_DONE ([nth r.par 0, nth r.par 1, st.code] ++ cal), finish r st pay]

/-- The mean of 2^a words whose sum is `n`, to nearest (R571). -/
def meanOf (a : Nat) (n : Int) : Int := (2 * n + 2 ^ a) / 2 ^ (a + 1)

/-- MON_SYSCAL_DONE (R571 to R573): the measurements end, with the sums of the 2^a words of the chain with the input at zero and at full: of M0 and of
M1 for MOD; for ZERO and FULL the named channel's, taken by M0, whose correction comes first. -/
def execMonSyscalDone (z0 f0 z1 f1 : Int) (s : State) : Out := perform (dyn fun s =>
  match s.mon.cal with
  | none => nop
  | some r =>
    let c := nth r.par 1
    let mean (n : Int) : Int := meanOf (nth r.par 3) n
    let own (n : Int) : Int := modCorrect (s.cnv.setWords 7) 0 (mean n)
    match nth r.par 0 with
    | 0 =>
      let g0 := gainOf s.calT (mean f0 - mean z0)
      let g1 := gainOf s.calT (mean f1 - mean z1)
      let new := [w32 g0, w32 (mean z0), w32 g1, w32 (mean z1)]
      if gainOk g0 && gainOk g1 then
        endSyscal r .ok ([z0, f0, z1, f1].map (fun n => w32 (mean n)) ++ new) new (newSet7 ([64, 65, 66, 67].zip new))
      else endSyscal r .range [] [] nop
    | 1 => endSyscal r .ok [w32 (own z0), 0] [] (upd (.mon fun x => { x with zero := some (c, pgaOf (s.rd MON_PGA.ALL) c, own z0) }))
    | _ =>
      let z := match s.mon.zero with | some (_, _, z) => z | none => 0
      let g := gainOf (nth r.par 2 * 2 ^ pgaOf (s.rd MON_PGA.ALL) c * 2 ^ 23) (own f0 - z)
      if gainOk g then endSyscal r .ok [w32 z, w32 (own f0), w32 g, w32 z] [w32 g, w32 z] (seqE [upd (.mon fun x => { x with zero := none }), newSet7 [(c, w32 g), (32 + c, w32 z)]])
      else endSyscal r .range [] [] nop) s

end Sys2Proof.Machine
end

