-- ==== Sys2Proof/Machine/Signal.lean ====
section
/-!
DEFINITION. The line signal of the transmitter in a superframe (Table 2.1): subcarrier grid and powers, training word, header and pilots, the
settings of the common chain (R40, R44, R46, R52, R61 to R70, R180), and the symbols before which a block must end (R57, R74).
-/
namespace Sys2Proof.Machine
open Sys2Proof

/-! ### Grid and power -/

/-- 10^(g/10) of an entry's gain, in 2^-64 (R51). -/
def scRatio (w : Nat) : Nat := ratioOf (25 * scGain w)

/-- The enabled subcarriers of a plan. -/
def enabled (ws : List Nat) : List Nat := (List.range 16).filter (fun k => scEn (ws.getD k 0))

/-- Σ 10^(g/10) over the enabled subcarriers. -/
def gainSum (ws : List Nat) : Nat := ((enabled ws).map (fun k => scRatio (ws.getD k 0))).foldl (· + ·) 0

/-- s² of R52, in 2^-64: N_en / Σ 10^(g/10). -/
def gainScale (ws : List Nat) : Nat := (enabled ws).length * 2 ^ 128 / max 1 (gainSum ws)

/-- The power of subcarrier `k`'s mean payload symbol under a plan: s² × 10^(g/10) (R52). -/
def scPower (ws : List Nat) (k : Nat) : Nat := gainScale ws * scRatio (ws.getD k 0) / 2 ^ 64

/-- The power of its pilot and training symbols at a pilot gain in 0.5 dB (R64). -/
def pilotPower (ws : List Nat) (gain : Int) (k : Nat) : Nat := scPower ws k * ratioOf (50 * gain) / 2 ^ 64

/-! ### Training word, header and pilots -/

/-- The header's symbols (R65): each bit, most significant first, on two positions, +(1 + j)/√2 for 0 and −(1 + j)/√2 for 1, on both
polarisations. -/
def headerSyms (hdr : Nat) : List (List Int) := (msbFirst 64 hdr).flatMap (fun b => List.replicate 2 (List.replicate 4 (signOf b)))

/-- What subcarrier `k` sends in a superframe that carries header `hdr`. -/
def State.txSub (s : State) (hdr k : Nat) : TxSub :=
  let ws := s.bankWords 0
  let (train, gx, gy) := qpskRun 64 (seedX k) (seedY k)
  ⟨k, scCentre (s.rd LTX_SHAPE.ROLLOFF) (s.rd LTX_SHAPE.KERF) k, scPower ws k, pilotPower ws (ofPat 4 s.ltx.pilot) k, train ++ headerSyms hdr, gx, gy⟩

/-! ### The common chain -/

/-- The correction of a path at one comb line from a word of set 5 (R68): the opposite of its magnitude and phase, its boost held to 14 dB. -/
def respCorrection (w : Nat) : Int × Int := (min 1400 (-(ofPat 16 (w / 65536))), -(ofPat 16 w))

/-- The corrections of DAC paths `a` and `a` + 1, which make the filter of one polarisation. -/
def State.respCurves (s : State) (a : Nat) : List (Int × Int) :=
  ((List.range 128).map (fun i => respCorrection ((s.cnv.setWords 5).getD (256 + 64 * a + i) 0)))

/-- A skew word of set 6 held to ±25 ps, in 0.05 ps (R68, R100). -/
def skewOf (w : Nat) : Int := clampI (-500) 500 (ofPat 32 w)

/-- An IQ word of set 6 (R68, R101; log entry 146): gain in [31:16] in 0.01 dB within ±1.0 dB, phase in [15:0] in 0.1 mrad within ±5.0°. -/
def iqOf (w : Nat) : Int × Int := (clampI (-100) 100 (ofPat 16 (w / 65536)), clampI (-872) 872 (ofPat 16 w))

/-- The corrections of half-DAC `m` = 2c + h: gain in 0.01 %, offset in 1/16 LSB, timing in fs, in the layout of CNV_SLICE (Table 5.2, R180; log
entry 146). -/
def State.dacHalf (s : State) (m : Nat) : Int × Int × Int :=
  let w := (s.cnv.setWords 4).getD m 0
  (wordGain w, wordOffset w, wordTiming w)

/-- The first enabled loop after `n`, counting cyclically (R79). -/
def nextLoop (mask n : Nat) : Nat := ((List.range 6).map (fun k => (n + 1 + k) % 6)).find? (bit mask) |>.getD n

/-- The loop under dither (R79): the one the round-robin stands at where it is enabled, else the next enabled one. -/
def State.biasLoop (s : State) : Nat := if bit (s.rd LTX_BIAS_CTRL.EN) s.ltx.loop then s.ltx.loop else nextLoop (s.rd LTX_BIAS_CTRL.EN) s.ltx.loop

/-- Dither stops and the DACs hold: HOLD, Gauge's system calibration, or a pair switchover (R83). -/
def State.biasHeld (s : State) : Bool := s.on LTX_BIAS_CTRL.HOLD || s.on MON_STATUS.SYSCAL || s.pair.gap

/-- Dither runs. -/
def State.dithers (s : State) : Bool := !s.biasHeld && !s.ltx.sweeping && s.rd LTX_BIAS_CTRL.EN != 0

/-- The chain as the settings in force make it. -/
def State.txChain (s : State) : TxChain where
  rolloff := s.rd LTX_SHAPE.ROLLOFF
  subs := if nativeMode s.txMode then enabled (s.bankWords 0) else if interopMode s.txMode then [0] else []
  scribe := if s.rd SCR_STATUS.STATE = 0 then none else some (s.rd SCR_CFG.FREQ)
  precomp := if s.on LTX_CTRL.PRECOMP_CD_EN then some (s.rdI LTX_PRECOMP.P) else none
  taps := [0, 2].map (fun a => (List.range 257).map (Config.respTap (s.respCurves a)))
  skew := [4, 5, 6, 7].map (fun i => skewOf ((s.cnv.setWords 6).getD i 0))
  iq := [18, 19].map (fun i => iqOf ((s.cnv.setWords 6).getD i 0))
  halves := (List.range 8).map s.dacHalf
  dither := if s.dithers then some (s.biasLoop, s.ltx.ditherHz, s.ltx.ditherAmp) else none
  clip := s.rd LTX_CLIP.LEVEL
  bits := 8
  atten := s.ltx.attNow

/-- The signal of the superframe that starts (R40): the chain, and in native modes each enabled subcarrier with the header `hdr`. -/
def sendSignal (hdr : Nat) : Eff := dyn fun s => seqE [emit (.chain s.txChain),
  whenE (nativeMode s.txMode) (forE (enabled (s.bankWords 0)) (fun k => emit (.sub (s.txSub hdr k))))]

/-! ### Blocks before a plan change -/

/-- The payload symbols of a subcarrier from the last restart of the block order to the boundary at which the pending change takes effect
(R59, R71); none while no change is pending. -/
def State.payloadEnd (s : State) : Option Nat :=
  if s.on LTX_STATUS.PLAN_PENDING then some ((s.ltx.sfs + (s.rd LTX_PLAN_CHG.TARGET_SF + 65536 - s.rd LTX_SF_NUM.ALL) % 65536) * payloadSyms) else none

/-- The pads of the subcarriers whose last block of the plan that ends does not end at the boundary (R74): the pilot sequence goes on past
the last pilot of the superframe (log entry 145). A superframe's training and pilot symbols, 16,004, take 32,008 bits of a generator of period
511, which leaves it where 163 symbols do. -/
def emitPads : Eff := dyn fun s =>
  let n := (s.ltx.sfs + 1) * payloadSyms
  forE (enabled (s.bankWords 0)) (fun k =>
    let e := scEnt ((s.bankWords 0).getD k 0)
    let from0 := blkStart e (blocksWithin e n)
    let (_, gx, gy) := qpskRun 163 (seedX k) (seedY k)
    whenE (decide (from0 < n)) (emit (.pad k from0 (n - from0) gx gy)))

end Sys2Proof.Machine
end

