-- ==== Sys2Proof/Machine/Transmit.lean ====
section
/-!
DEFINITION. Line transmit: modes, plans, bias loops, lasers and the output bring-up (R40 to R98, R724).
-/
namespace Sys2Proof.Machine
open Sys2Proof

/-! ### Mode -/

/-- The pre-compensation and shaping settings of a mode command are in range (R44, R45, R64, R67, R69). -/
def modeArgsOk (p : List Nat) : Bool :=
  LTX_SHAPE.ROLLOFF.inRange (nth p 2) && decide (nth p 2 < 32) && decide (nth p 3 ≤ 24) && decide (nth p 4 ≤ 1) &&
  decide (-20000 ≤ ofPat 32 (nth p 5) ∧ ofPat 32 (nth p 5) ≤ 20000) && decide (70 ≤ nth p 6 ∧ nth p 6 ≤ 140) &&
  decide (-6 ≤ ofPat 32 (nth p 7) ∧ ofPat 32 (nth p 7) ≤ 6)

def opLtxModeSet : OpDef := ⟨0x0201, len 8, [1, 2, 4], fun _ p s =>
  if s.lit then no .state
  else if !modeOk s.is1600 (nth p 0) (nth p 1) || !modeArgsOk p || !widthOk (nth p 0) (nth p 1) (nth p 2) (nth p 3) || !s.scribeOk (nth p 0) (nth p 1) (nth p 2) (nth p 3) then no .range
  else okE (seqE [setTxMode (nth p 0) (nth p 1), put LTX_SHAPE.ROLLOFF (nth p 2), put LTX_SHAPE.KERF (nth p 3),
    put LTX_CTRL.PRECOMP_CD_EN (nth p 4), put LTX_PRECOMP.P (nth p 5), put LTX_CLIP.LEVEL (nth p 6), put LTX_PILOT.GAIN (nth p 7)])⟩
/-- LTX_MODE_SET (R41, R42, R47): mode, count, roll-off, Kerf, pre-compensation, clip level and pilot gain, while TX_OUT is dark. A mode code
outside Table 2.2 answers RANGE (DESIGN CHOICE, log entry 50: the spec names no status for it). -/
def execLtxModeSet (h : CmdHdr) (p : List Word) (s : State) : Out := perform (felwin opLtxModeSet h p) s

/-- A register write of LTX_CTRL.MODE and OTUC_N by master `m` (R9, R41, R42, R95): locked while lit; a mode that is none, too wide or, with its
count, refused keeps its value with RANGE, and one of the two that the other's old value allows takes effect alone. -/
def ltxModeWrite (m mode n : Nat) : Eff := dyn fun s =>
  let fits (mode n : Nat) : Bool := modeOk s.is1600 mode n && widthOk mode n (s.rd LTX_SHAPE.ROLLOFF) (s.rd LTX_SHAPE.KERF) &&
    s.scribeOk mode n (s.rd LTX_SHAPE.ROLLOFF) (s.rd LTX_SHAPE.KERF)
  if s.locked m LTX_CTRL.MODE 0 && (mode != s.txMode || n != s.txN) then flagAcc m SYS_ACC_STAT.LOCK LTX_CTRL.MODE.off
  else if fits mode n then setTxMode mode n
  else seqE [flagAcc m SYS_ACC_STAT.RANGE LTX_CTRL.MODE.off, if fits s.txMode n then setTxMode s.txMode n else whenE (fits mode s.txN) (setTxMode mode s.txN)]
/-- LTX_MODE_WRITE (R95): a register write that changes the mode or OTUC count. -/
def execLtxModeWrite (m : Mast) (mode : BitVec 4) (n : BitVec 6) (s : State) : Out := perform (byMaster m LTX_CTRL.MODE 0 (ltxModeWrite m mode.toNat n.toNat)) s

/-! ### Plans -/

def opLtxPlanLoad : OpDef := ⟨0x0202, len 17, cfgStates, fun h p s =>
  let ws := loadWords (p.drop 1)
  if s.on LTX_STATUS.PLAN_PENDING || s.on LRX_ADAPT_CFG.TX_EN then no .state else
  match planCheck s.txMode s.txN true (nth p 0) ws with
  | some 6 => { status := .noResource, pay := fun s => [shortfall s.txMode s.txN ws] }
  | some k => no (checkStatus k)
  | none => deferE (upd (.ltx fun x => { x with loads := x.loads ++ [runOf h 0x0202 p] }))⟩
/-- LTX_PLAN_LOAD (R55, R56, R73): loads a plan into the shadow bank after the checks of Table 2.5; the load completes, and is
answered, when the matcher bounds are held (R225). -/
def execLtxPlanLoad (h : CmdHdr) (p : List Word) (s : State) : Out := perform (felwin opLtxPlanLoad h p) s

/-- PLAN_BOUNDS_READY (R73, R225): the bounds of the oldest plan load are held and the load completes; where a commit has locked the shadow
meanwhile, it answers STATE. -/
def execPlanBoundsReady (s : State) : Out := perform (dyn fun s =>
  match s.ltx.loads with
  | [] => nop
  | r :: rs =>
    let ws := loadWords (r.par.drop 1)
    seqE [upd (.ltx fun x => { x with loads := rs }),
      if r.opcode = 0x0202 ∧ s.on LTX_STATUS.PLAN_PENDING then finish r .state
      else if r.opcode = 0x0202 then seqE [putBank 1 (nth r.par 0) ws, setChk, finish r .ok]
      else seqE [storePlan (nth r.par 0) ws, finish r .ok [s.pickEntry (nth r.par 0)]]]) s

def opLtxPlanCommit : OpDef := ⟨0x0203, len 1, cfgStates, fun _ p s =>
  if s.on LTX_STATUS.PLAN_PENDING || s.on LRX_ADAPT_CFG.TX_EN then no .state
  else if nativeMode s.txMode && nth p 0 != s.rd LTX_PLAN_HDR.PLAN_ID 1 then no .badParam else
  match planCheck s.txMode s.txN true (s.rd LTX_PLAN_HDR.PLAN_ID 1) (s.bankWords 1) with
  | some 6 => { status := .noResource, pay := fun s => [shortfall s.txMode s.txN (s.bankWords 1)] }
  | some k => no (checkStatus k)
  | none => okP commitPlan (fun s => [s.rd LTX_PLAN_CHG.TARGET_SF])⟩
/-- LTX_PLAN_COMMIT (R71, R72): commits the shadow plan, at S = c + 17 while lit, at once while dark. -/
def execLtxPlanCommit (h : CmdHdr) (p : List Word) (s : State) : Out := perform (felwin opLtxPlanCommit h p) s

/-- A commit through LTX_PLAN_CHG.COMMIT: the same checks, the outcome in RESULT (R71). -/
def planChgCommit : Eff := dyn fun s =>
  if s.on LTX_STATUS.PLAN_PENDING || s.on LRX_ADAPT_CFG.TX_EN then put LTX_PLAN_CHG.RESULT 5 else
  match planCheck s.txMode s.txN true (s.rd LTX_PLAN_HDR.PLAN_ID 1) (s.bankWords 1) with
  | some k => put LTX_PLAN_CHG.RESULT (checkResult k)
  | none => seqE [commitPlan, put LTX_PLAN_CHG.RESULT 1]
/-- PLAN_CHG_COMMIT (R71): a write of 1 to LTX_PLAN_CHG.COMMIT. -/
def execPlanChgCommit (m : Mast) (s : State) : Out := perform (byMaster m LTX_PLAN_CHG.COMMIT 0 planChgCommit) s

def opLtxPlanCancel : OpDef := ⟨0x0204, len 0, [3, 4], fun _ _ s => if s.cancelOk && !s.on LRX_ADAPT_CFG.TX_EN then okE cancelPlan else no .state⟩
/-- LTX_PLAN_CANCEL (R75). -/
def execLtxPlanCancel (h : CmdHdr) (p : List Word) (s : State) : Out := perform (felwin opLtxPlanCancel h p) s

/-- A write of 1 to LTX_PLAN_CHG.CANCEL (R75): refused, RESULT becomes 5; accepted, 1 (DESIGN CHOICE, log entry 52: the spec gives no RESULT of an
accepted cancellation). -/
def planChgCancel : Eff := dyn fun s =>
  if s.cancelOk && !s.on LRX_ADAPT_CFG.TX_EN then seqE [cancelPlan, put LTX_PLAN_CHG.RESULT 1] else put LTX_PLAN_CHG.RESULT 5
/-- PLAN_CHG_CANCEL (R75). -/
def execPlanChgCancel (m : Mast) (s : State) : Out := perform (byMaster m LTX_PLAN_CHG.CANCEL 0 planChgCancel) s

def opLtxPlanGet : OpDef := ⟨0x0205, len 1, upStates, fun _ p _ =>
  if 1 < nth p 0 then no .badParam
  else okP nop (fun s => [s.rd LTX_PLAN_HDR.PLAN_ID (nth p 0)] ++ s.bankWords (nth p 0) ++
    [sumE (s.bankWords (nth p 0)), wMin s.txMode s.txN] ++ (if s.on LTX_STATUS.PLAN_PENDING then [s.rd LTX_PLAN_CHG.TARGET_SF] else []))⟩
/-- LTX_PLAN_GET (R91): the active or shadow plan with ΣE, W_min and any pending S. -/
def execLtxPlanGet (h : CmdHdr) (p : List Word) (s : State) : Out := perform (felwin opLtxPlanGet h p) s

/-! ### Bias loops -/

/-- Loop `n`. -/
def LtxSt.loopAt (x : LtxSt) (n : Nat) : LoopSt := Tab.get {} x.loops n

/-- The enabled loops. -/
def State.loopMask (s : State) : Nat := s.rd LTX_BIAS_CTRL.EN

/-- Whether every enabled loop is locked. -/
def State.allLocked (s : State) : Bool := (bitsSet 6 s.loopMask).all (fun n => (s.ltx.loopAt n).locked)

/-- Starts a coarse sweep of all enabled loops (R82): they are no longer locked until they lock anew. -/
def startSweep : Eff := dyn fun s => seqE [
  upd (.ltx fun x => { x with sweeping := true, loops := (bitsSet 6 s.loopMask).foldl (fun t n => Tab.set {} t n {}) x.loops }),
  put LTX_STATUS.BIAS_LOCKED 0]

/-- When all enabled loops have locked: BIAS_LOCKED, the event, and the next step of a bring-up (R82, Table 2.8). -/
def judgeLock : Eff := dyn fun s =>
  if s.allLocked && !s.on LTX_STATUS.BIAS_LOCKED && !s.ltx.sweeping then
    seqE [put LTX_STATUS.BIAS_LOCKED 1, raise EV.BIAS_LOCK [s.loopMask], whenE (s.ltx.bring == 2) (upd (.ltx fun x => { x with bring := 3 }))]
  else if !s.allLocked then put LTX_STATUS.BIAS_LOCKED 0 else nop

/-- The masks of locked and railed loops. -/
def State.lockMask (s : State) : Nat := (bitsSet 6 63).foldl (fun a n => a + b2n (s.ltx.loopAt n).locked * 2 ^ n) 0
def State.railMask (s : State) : Nat := (bitsSet 6 63).foldl (fun a n => a + b2n (s.ltx.loopAt n).rail * 2 ^ n) 0

def opLtxBiasCtrl : OpDef := ⟨0x0206, len 7, cfgStates, fun _ p _ =>
  if 63 < nth p 0 ∨ 1 < nth p 1 ∨ nth p 2 < 1000 ∨ 40000 < nth p 2 ∨ nth p 3 < 1 ∨ 40 < nth p 3 ∨ nth p 4 < 4 ∨ 256 < nth p 4 ∨ 7 < nth p 5 ∨ 1 < nth p 6 then no .range
  else okP (seqE [put LTX_BIAS_CTRL.EN (nth p 0), put LTX_BIAS_CTRL.HOLD (nth p 1), put LTX_BIAS_CTRL.FREQ (nth p 2 / 5),
      put LTX_BIAS_CTRL.DWELL (nth p 4), put LTX_BIAS_CTRL.GAIN (nth p 5),
      upd (.ltx fun x => { x with ditherHz := nth p 2, ditherAmp := nth p 3 }), whenE (nth p 6 == 1) startSweep, judgeLock])
    (fun s => [s.lockMask, s.railMask] ++ (List.range 6).map (fun n => s.rd LTX_BIAS_DAC.ALL n))⟩
/-- LTX_BIAS_CTRL (R79, R81 to R83). -/
def execLtxBiasCtrl (h : CmdHdr) (p : List Word) (s : State) : Out := perform (felwin opLtxBiasCtrl h p) s

/-- BIAS_SWEEP (R82): a write of 1 to LTX_BIAS_CTRL.SWEEP starts a coarse sweep. -/
def execBiasSweep (m : Mast) (s : State) : Out := perform (byMaster m LTX_BIAS_CTRL.SWEEP 0 startSweep) s

/-- BIAS_SWEEP_DONE (R82, Table 2.8): the sweep completes and the dither round-robin starts at the first enabled loop. -/
def execBiasSweepDone (s : State) : Out := perform (dyn fun s =>
  if !s.ltx.sweeping then nop
  else seqE [upd (.ltx fun x => { x with sweeping := false, loop := nextLoop s.loopMask 5, bring := if x.bring = 1 then 2 else x.bring }), judgeLock]) s

/-- DITHER_CYCLE (R79, R80, R83): at the start of a dither cycle the strobe DSYNC, 200 ns × (loop index + 1) wide, goes up; Gauge takes its
falling edge (DSYNC_PULSE). -/
def execDitherCycle (s : State) : Out := perform (dyn fun s =>
  let w := 200 * (s.biasLoop + 1)
  whenE s.dithers (seqE [upd (.ltx fun x => { x with loop := s.biasLoop, dsync := some w }), emit (.dsync w)])) s

/-- How a dwell's error stands against the lock threshold: below it, above four times it, or between (R82). -/
def LoopSt.judge (l : LoopSt) (below above4 : Bool) : LoopSt :=
  let good := if below then l.good + 1 else 0
  let bad := if above4 then l.bad + 1 else 0
  if l.locked then { l with good := good, bad := if 8 ≤ bad then 0 else bad, locked := decide (bad < 8) }
  else { l with good := good, bad := bad, locked := decide (4 ≤ good) }

/-- The words of M0's queue that loop `n` takes: those of its bursts, by their PW tag, and not tagged SETTLING (R81, R557, R568). -/
def biasWords (ws : List Nat) (n : Nat) : List Nat := ws.filter (fun w => !bit w 62 && bits w 52 3 == n)

/-- A DAC moved against an error by the loop gain 2^−(GAIN+1), held to its 16 bits (R81; log entry 53). -/
def biasStep (dac gain : Nat) (err : Int) : Nat := (clampI 0 65535 (dac - err / 2 ^ (gain + 1))).toNat

/-- BIAS_DWELL_END (R79, R81, R82): the engine takes M0's words of the dwell, discards those tagged SETTLING, forms the error and moves the
dithered loop's DAC; its lock is judged from the error, and the next enabled loop is dithered. BIAS_RAIL is raised as the DAC comes within
256 codes of an end, and not again while it stays there (DESIGN CHOICE, log entry 53). -/
def execBiasDwellEnd (s : State) : Out := perform (dyn fun s =>
  let n := s.biasLoop
  let l := s.ltx.loopAt n
  let ws := Tab.get [] s.mon.queues 0
  let err := Config.biasError n (biasWords ws n)
  let dac := biasStep (s.rd LTX_BIAS_DAC.ALL n) (s.rd LTX_BIAS_CTRL.GAIN) err
  let rail := decide (dac < 256 ∨ 65279 < dac)
  let l' := { l.judge (decide (err.natAbs < Config.biasThreshold)) (decide (4 * Config.biasThreshold < err.natAbs)) with rail := rail }
  if !s.dithers then nop
  else seqE [whenE s.m0Bias (popQueue 0 ws.length), put LTX_BIAS_DAC.ALL dac n,
    upd (.ltx fun x => { x with loops := Tab.set {} x.loops n l', loop := nextLoop s.loopMask n }),
    whenE (l.locked && !l'.locked) (raise EV.BIAS_UNLOCK [n, w32 err]),
    whenE (rail && !l.rail) (raise EV.BIAS_RAIL [n, dac]),
    judgeLock]) s

/-! ### Lasers -/

/-- Laser port `p`. -/
def LtxSt.laser (x : LtxSt) (p : Nat) : LaserSt := Tab.get {} x.las p

/-- A change to laser port `p`. -/
def modLaser (p : Nat) (g : LaserSt → LaserSt) : Eff := upd (.ltx fun x => { x with las := Tab.set {} x.las p (g (x.laser p)) })

/-- The ready bit of port `p` in LTX_STATUS. -/
def lasReady (p : Nat) : Fld := if p = 0 then LTX_STATUS.LAS0_READY else LTX_STATUS.LAS1_READY

/-- ITLA registers by their place in the list of R84 (log entry 54): NOP to SerNo 1 to 5, IOCap 6, StatusF, StatusW, FatalT, WarnT 7 to 10, Channel
and ChannelH 11 and 12, PWR 13, ResEna 14, MCB, GRID, GRID2 15 to 17, FCF1 to FCF3 18 to 20, LF1 to LF3 21 to 23, OOP, CTemp, FTFR, FTF 24 to
27, OPSL, OPSH, LFL1, LFL2, LFH1, LFH2 28 to 33. -/
def itlaIoCap : Nat := 6
def itlaFatalT : Nat := 9
def itlaChannel : Nat := 11
def itlaChannelH : Nat := 12
def itlaPwr : Nat := 13
def itlaResEna : Nat := 14
def itlaFcf : Nat := 18
def itlaFtf : Nat := 27

/-- What the device reads of a laser it enables: its presence and type, its strings by AEA transfer, its limits and settings (R84). -/
def itlaIdent : List Nat := [1, 2, 3, 4, 5, 6, 9, 10, 15, 16, 17, 26, 28, 29, 30, 31, 32, 33]
/-- What it polls (R87), and what it reads once tuned (R91). -/
def itlaPolled : List Nat := [7, 8]
def itlaTuned : List Nat := [21, 22, 23, 24, 25, 26]

/-- The highest serial rate that IOCap reports, up to 115,200 baud (R85; PRESUMED, log entry 54: bits [7:4] as the OIF agreement codes them). -/
def baudOf (ioCap : Nat) : Nat := match bits ioCap 4 4 with | 0 => 9600 | 1 => 19200 | 2 => 38400 | 3 => 57600 | _ => 115200

/-- The laser's output is off: neither tuned nor lasing. -/
def laserIdle (p : Nat) : Eff := seqE [put LTX_LAS_STAT.TUNED 0 p, put LTX_LAS_STAT.LASING 0 p, put (lasReady p) 0]

/-- Starts tuning laser `p` (R86): the target in FCF1 (THz), FCF2 (0.1 GHz) and, where the laser supports it, FCF3 (MHz), Channel 1 and power, with
the output disabled through ResEna (PRESUMED, log entry 54: the units of FCF1 to FCF3). -/
def tune (p : Nat) : Eff := dyn fun s =>
  let f := s.rd LTX_LAS_FREQ.FREQ p
  seqE [laserIdle p, put LTX_LAS_STAT.TUNING 1 p, emit (.itla p itlaResEna 0),
    emit (.itla p itlaFcf (f / 1000000)), emit (.itla p (itlaFcf + 1) (f % 1000000 / 100)),
    whenE (Config.itlaFcf3 p) (emit (.itla p (itlaFcf + 2) (f % 100))),
    emit (.itla p itlaChannelH 0), emit (.itla p itlaChannel 1), emit (.itla p itlaPwr (s.rd LTX_LAS_CTRL.POWER p))]

/-- The enable pin of laser `p` goes high (R97): the serial line starts at 9,600 baud, the laser is read, and the rate is raised to the highest
it reports (R84, R85). -/
def laserOn (p : Nat) : Eff := seqE [emit (.pin (pinLasEn p) 1), emit (.baud p 9600), emit (.itlaRead p itlaIdent),
  emit (.baud p (baudOf (Config.itlaReg p itlaIoCap).toNat))]

/-- Disables laser `p`: output off through ResEna, enable pin low (R97). -/
def laserOff (p : Nat) : Eff := seqE [laserIdle p, put LTX_LAS_STAT.TUNING 0 p, emit (.itla p itlaResEna 0), emit (.pin (pinLasEn p) 0)]

/-- A failed laser held disabled, or under recovery, starts afresh by a laser command (R87): hold, failure and recovery end, and after a hold its
enable pin goes high again. -/
def laserFresh (p : Nat) : Eff := dyn fun s => seqE [whenE (s.on LTX_LAS_STAT.HOLD p) (laserOn p), put LTX_LAS_STAT.HOLD 0 p, put LTX_LAS_STAT.FAIL 0 p,
  modLaser p (fun l => { l with tries := 0, recov := false })]

/-- A soft reset of laser `p` through ResEna, and a new tuning (R87; ResEna 2 is the soft reset, 1 enables and 0 disables: PRESUMED, log entry 54). -/
def softReset (p : Nat) : Eff := seqE [modLaser p (fun l => { l with tries := l.tries + 1, recov := true }), bump LTX_LAS_STAT.RESETS 1 p, emit (.itla p itlaResEna 2), tune p]

/-- LASER_FAIL on port `p` (R87): port 0 darkens TX_OUT and fails an ACTIVE unit (Table 14.7). Where the laser is enabled recovery starts, its first
soft reset at once (DESIGN CHOICE, log entry 55: the spec gives the time between resets alone). -/
def laserFail (p : Nat) : Eff := dyn fun s =>
  if s.on LTX_LAS_STAT.FAIL p then nop
  else seqE [put LTX_LAS_STAT.FAIL 1 p, put LTX_LAS_STAT.TUNING 0 p, laserIdle p,
    stat LTX_INT_STAT.ALL (4 + p), raise EV.LASER_FAIL [p, s.rd LTX_LAS_STAT.STATUSF p, s.rd LTX_LAS_STAT.RESETS p],
    whenE (p == s.loPort) losEnter, whenE (p == 0) (seqE [goDark 2, unitFails 2]),
    whenE (s.on LTX_LAS_CTRL.EN p && !(s.ltx.laser p).recov) (seqE [modLaser p (fun l => { l with tries := 0 }), softReset p])]

/-- A fine-tuning offset accepted for laser `p` (R88): applied at once, or held while 100 ms since the last have not passed. -/
def acceptFtf (p : Nat) (z : Int) : Eff := dyn fun s =>
  seqE [putI LTX_LAS_CTRL.FTF z p,
    if (s.ltx.laser p).recent then modLaser p (fun l => { l with held := some z })
    else seqE [modLaser p (fun l => { l with ftf := z, recent := true, held := none }), emit (.itla p itlaFtf (toPat 16 z))]]

/-- Whether an offset lies within the range laser `p` reports in FTFR (R88). -/
def State.ftfOk (s : State) (p : Nat) (z : Int) : Bool := decide (z.natAbs ≤ (s.ltx.laser p).ftfr)

/-- The enable of laser `p` changes (R97). -/
def setLasEn (p : Nat) (en : Bool) : Eff := dyn fun s =>
  seqE [putB LTX_LAS_CTRL.EN en p,
    if en && !s.on LTX_LAS_CTRL.EN p then seqE [put LTX_LAS_STAT.HOLD 0 p, laserFresh p, laserOn p, tune p]
    else whenE (!en && s.on LTX_LAS_CTRL.EN p) (seqE [put LTX_LAS_STAT.HOLD 0 p, laserFresh p, laserOff p])]

/-- The power target of laser `p` reaches PWR while the laser is enabled and not held (R97). -/
def lasPower (p : Nat) : Eff := dyn fun s =>
  whenE (s.on LTX_LAS_CTRL.EN p && !s.on LTX_LAS_STAT.HOLD p) (emit (.itla p itlaPwr (s.rd LTX_LAS_CTRL.POWER p)))

/-- Whether a frequency is a target the laser registers take: in range and a multiple of 6,250 MHz (Table 2.20). -/
def lasFreqOk (f : Nat) : Bool := decide (191150000 ≤ f ∧ f ≤ 196125000) && f % 6250 == 0

/-- LTX_LASER_SET's body by FORM (R88, R724). -/
def laserSet (p : List Nat) (s : State) : Ans :=
  match nth p 0 with
  | 0 =>
    let port := nth p 1
    if p.length != 5 then no .badLength
    else if 1 < port ∨ 1 < nth p 4 then no .badParam
    else if nth p 3 < 1200 ∨ 1800 < nth p 3 then no .range
    else if !lasFreqOk (nth p 2) then no .range
    else if s.lit && nth p 2 != s.rd LTX_LAS_FREQ.FREQ port then no .state
    else okE (seqE [put LTX_LAS_FREQ.FREQ (nth p 2) port, put LTX_LAS_CTRL.POWER (nth p 3) port,
      if nth p 4 == 1 && s.on LTX_LAS_CTRL.EN port then
        (if nth p 2 != s.rd LTX_LAS_FREQ.FREQ port || s.on LTX_LAS_STAT.FAIL port then seqE [laserFresh port, tune port] else lasPower port)
      else setLasEn port (nth p 4 == 1)])
  | 1 =>
    if p.length != 3 then no .badLength
    else if 1 < nth p 1 then no .badParam
    else if !s.ftfOk (nth p 1) (ofPat 32 (nth p 2)) then no .range
    else okE (acceptFtf (nth p 1) (ofPat 32 (nth p 2)))
  | 2 =>
    let fs := [LTX_LAS_TIMERS.TUNE_TO, LTX_LAS_TIMERS.POLL, LTX_LAS_TIMERS.RESP_TO, LTX_LAS_TIMERS.BIAS_TO]
    if p.length != 2 then no .badLength else if !wordOk fs (nth p 1) then no .range else okE (putWord fs (nth p 1))
  | _ => no .badParam

def opLtxLaserSet : OpDef := ⟨0x0207, lenIn 1 5, cfgStates, fun _ p s => laserSet p s⟩
/-- LTX_LASER_SET (R88, R724): tuning, fine tuning or timers, by the FORM word. -/
def execLtxLaserSet (h : CmdHdr) (p : List Word) (s : State) : Out := perform (felwin opLtxLaserSet h p) s

def opLtxLaserStatus : OpDef := ⟨0x0208, len 1, upStates, fun _ p _ =>
  if 1 < nth p 0 then no .badParam
  else okP nop (fun s => let l := s.ltx.laser (nth p 0)
    [s.rd LTX_LAS_STAT.STATUSF (nth p 0), l.statusW, l.lf, l.oop, l.ctemp, s.rd LTX_LAS_STAT.RESETS (nth p 0)])⟩
/-- LTX_LASER_STATUS (R91). -/
def execLtxLaserStatus (h : CmdHdr) (p : List Word) (s : State) : Out := perform (felwin opLtxLaserStatus h p) s

/-- LAS_EN_WRITE (R97): LTX_LAS_CTRL[p].EN is written. -/
def execLasEnWrite (m : Mast) (p : Fin 2) (en : Bool) (s : State) : Out := perform (byMaster m LTX_LAS_CTRL.EN p (setLasEn p en)) s

/-- A write of LTX_LAS_FREQ[p] (R88, R97): while EN is 1 and TX_OUT is dark it starts a new tuning. -/
def lasFreqWrite (m p v : Nat) : Eff := dyn fun s =>
  setFieldIf m LTX_LAS_FREQ.FREQ p v (lasFreqOk v) (whenE (s.on LTX_LAS_CTRL.EN p && !s.lit) (seqE [laserFresh p, tune p]))
/-- LAS_FREQ_WRITE (R97). -/
def execLasFreqWrite (m : Mast) (p : Fin 2) (v : Word) (s : State) : Out := perform (byMaster m LTX_LAS_FREQ.FREQ p (lasFreqWrite m p v.toNat)) s

/-- A write of LTX_LAS_CTRL[p].FTF (R88): outside FTFR it leaves FTF and sets RANGE. -/
def lasFtfWrite (m p : Nat) (z : Int) : Eff := dyn fun s =>
  if !s.ftfOk p z then flagAcc m SYS_ACC_STAT.RANGE (LTX_LAS_CTRL.FTF.at p) else acceptFtf p z
/-- LAS_FTF_WRITE (R88). -/
def execLasFtfWrite (m : Mast) (p : Fin 2) (v : BitVec 16) (s : State) : Out := perform (byMaster m LTX_LAS_CTRL.FTF p (lasFtfWrite m p v.toInt)) s

/-- FTF_APPLY (R88): 100 ms after the last offset applied, the held one is applied. -/
def execFtfApply (p : Fin 2) (s : State) : Out := perform (dyn fun s =>
  match (s.ltx.laser p).held with
  | some z => seqE [modLaser p (fun l => { l with ftf := z, held := none, recent := true }), emit (.itla p itlaFtf (toPat 16 z))]
  | none => modLaser p (fun l => { l with recent := false })) s

/-- A write of 1 to RESET ends the hold and starts the soft resets of an enabled laser. -/
def lasReset (p : Nat) : Eff := dyn fun s => whenE (s.on LTX_LAS_CTRL.EN p) (seqE [whenE (s.on LTX_LAS_STAT.HOLD p) (laserOn p),
  put LTX_LAS_STAT.HOLD 0 p, modLaser p (fun l => { l with tries := 0 }), softReset p])

/-- LAS_RESET (R87, R97): a write of 1 to LTX_LAS_CTRL[p].RESET ends the hold and starts up to three soft resets. -/
def execLasReset (m : Mast) (p : Fin 2) (s : State) : Out := perform (byMaster m LTX_LAS_CTRL.RESET p (lasReset p)) s

/-- LASER_POLL (R84, R87): the device polls an enabled laser and gets StatusF and StatusW; a bit of StatusF that FatalT names is a laser
failure (log entry 54). -/
def execLaserPoll (p : Fin 2) (statusF statusW : BitVec 16) (s : State) : Out := perform (dyn fun s =>
  whenE (s.on LTX_LAS_CTRL.EN p && !s.on LTX_LAS_STAT.HOLD p) (seqE [emit (.itlaRead p itlaPolled), put LTX_LAS_STAT.STATUSF statusF.toNat p,
    modLaser p (fun l => { l with statusW := statusW.toNat }), whenE (statusF &&& Config.itlaReg p itlaFatalT != 0) (laserFail p.val)])) s

/-- ITLA_RESPONSE_TIMEOUT (R87): an ITLA command got no response in time. -/
def execItlaResponseTimeout (p : Fin 2) (s : State) : Out := perform (laserFail p.val) s

/-- LASER_FAULT_PIN (R87): the laser's fault pin goes low. -/
def execLaserFaultPin (p : Fin 2) (s : State) : Out := perform (seqE [laserFail p.val]) s

/-- LASER_TUNED (R86): tuning is complete; the output is enabled and the failure, if any, is over. -/
def execLaserTuned (p : Fin 2) (lf ftfr oop ctemp : Word) (s : State) : Out := perform (dyn fun s =>
  if !s.on LTX_LAS_STAT.TUNING p then nop
  else seqE [put LTX_LAS_STAT.TUNING 0 p, put LTX_LAS_STAT.TUNED 1 p, put LTX_LAS_STAT.LASING 1 p, put LTX_LAS_STAT.FAIL 0 p,
    put LTX_LAS_STAT.RESETS 0 p, put (lasReady p) 1, emit (.itla p itlaResEna 1), emit (.itlaRead p itlaTuned),
    modLaser p (fun l => { l with lf := lf.toNat, ftfr := ftfr.toNat, oop := oop.toNat, ctemp := ctemp.toNat, tries := 0, recov := false }),
    raise EV.LASER_TUNED [p.val, lf.toNat], tryStart]) s

/-- LASER_TUNE_TIMEOUT (R86, R87): tuning has not completed in time. -/
def execLaserTuneTimeout (p : Fin 2) (s : State) : Out := perform (dyn fun s =>
  whenE (s.on LTX_LAS_STAT.TUNING p) (seqE [put LTX_LAS_STAT.TUNING 0 p, laserFail p.val])) s

/-- LASER_RESET_RETRY (R87): 1 s after the previous soft reset a laser under recovery is reset again, or after the third held disabled. -/
def execLaserResetRetry (p : Fin 2) (s : State) : Out := perform (dyn fun s =>
  if !(s.ltx.laser p).recov then nop
  else if (s.ltx.laser p).tries < 3 then softReset p
  else seqE [put LTX_LAS_STAT.HOLD 1 p, modLaser p (fun l => { l with recov := false }), laserOff p]) s

/-! ### Output -/

/-- The conditions of R89 and R183 for lighting TX_OUT. -/
def State.canLight (s : State) : Bool :=
  (interopMode s.txMode || (nativeMode s.txMode && (planCheck s.txMode s.txN true (s.rd LTX_PLAN_HDR.PLAN_ID 0) (s.bankWords 0)).isNone) ||
    (nativeMode s.txMode && decide (128 ≤ s.rd LTX_PLAN_HDR.PLAN_ID 0))) &&
  (s.on LTX_LAS_STAT.TUNED 0 || s.txPresent) && s.ltx.synthLocked && s.calOk [4, 5, 6]

/-- The bring-up of Table 2.8 starts: attenuator at 15 dB, drive at zero, and the coarse sweep. -/
def startBring (run : Option Running) : Eff := seqE [put LTX_CTRL.OUT_EN 1,
  upd (.ltx fun x => { x with bring := 1, outRun := run, drive := false, attNow := 150 }), startSweep]

/-- A host request to light TX_OUT while the beacon is lit darkens it first and sets Scribe OFF (R407). -/
def endBeacon : Eff := dyn fun s => whenE s.scr.beacon (seqE [goDark 1, scrOff])

def opLtxOutput : OpDef := ⟨0x0209, len 2, cfgStates, fun h p s =>
  let r := runOf h 0x0209 p
  let setAtt : Eff := upd (.ltx fun x => { x with atten := nth p 1, attNow := if s.lit then nth p 1 else x.attNow })
  if 1 < nth p 0 then no .badParam else if 150 < nth p 1 then no .range
  else if nth p 0 == 0 then pendThen (seqE [setAtt, goDark 1, finish r .ok])
  else if s.ltx.bring != 0 then no .busy
  else if s.sending then pendThen (seqE [setAtt, finish r .ok])
  else if !s.canLight then no .state
  else pendE (seqE [setAtt, endBeacon, startBring (some r)])⟩
/-- LTX_OUTPUT (R70, R89): lights TX_OUT by the bring-up sequence after its checks, or darkens it. While it is lit, a request to light it takes the
attenuation and answers OK (DESIGN CHOICE, log entry 56: the spec is silent). -/
def execLtxOutput (h : CmdHdr) (p : List Word) (s : State) : Out := perform (felwin opLtxOutput h p) s

/-- A write of LTX_CTRL.OUT_EN (R89): 1 requests TX_OUT lit, refused with RANGE; 0 darkens it. -/
def outEnWrite (m : Nat) (v : Bool) : Eff := dyn fun s =>
  if !v then goDark 1
  else if s.sending || s.ltx.bring != 0 then nop
  else if !s.canLight then flagAcc m SYS_ACC_STAT.RANGE LTX_CTRL.OUT_EN.off
  else seqE [endBeacon, startBring none]
/-- OUT_EN_WRITE (R89). -/
def execOutEnWrite (m : Mast) (v : Bool) (s : State) : Out := perform (byMaster m LTX_CTRL.OUT_EN 0 (outEnWrite m v)) s

/-- A superframe starts, its number in LTX_SF_NUM (R65, R73, R480, R483): stamped in every mode; in native modes its header goes out, with PLAN_CD
and KEY_ANN, and with every fourth a stamp message. -/
def startSf : Eff := dyn fun s =>
  let sf := s.rd LTX_SF_NUM.ALL
  let act := s.rd LTX_PLAN_HDR.PLAN_ID 0
  let cd := if s.on LTX_STATUS.PLAN_PENDING then s.rd LTX_PLAN_CHG.CD else 0
  let next := if cd = 0 then act else s.rd LTX_PLAN_HDR.PLAN_ID 1
  seqE [upd (.tod fun t => { t with txSt := Tab.set none t.txSt sf (some s.txStamp) }), upd (.pair fun q => { q with idx := Tab.set 0 q.idx 0 0 }),
    sendSignal (headerVal sf act next cd (s.keyAnn sf)),
    whenE (nativeMode s.txMode) (seqE [emit (.header (headerWords sf act next cd (s.keyAnn sf))),
      whenE (cd == 16) (raise EV.PLAN_ANNOUNCED [next, s.rd LTX_PLAN_CHG.TARGET_SF]), whenE (cd != 0) (put LTX_PLAN_CHG.CD (cd - 1)),
      dyn fun s => whenE (sf % 4 == 0) (timeMsg (s.stampMessage sf))])]

/-- OUTPUT_RAMP_DONE (Table 2.8 steps 4 and 5): the drive is enabled and the attenuator at its setting; TX_OUT is lit, LOCK is set, the first superframe
starts with SF_NUM 0 and the request is answered OK. The beacon lights by steps 1 to 4, with LOCK, and sends no superframe (R93, R407). -/
def execOutputRampDone (s : State) : Out := perform (dyn fun s =>
  let run := s.ltx.outRun
  if s.ltx.bring != 3 then nop
  else seqE [put LTX_STATUS.TX_ON 1, put LTX_CTRL.LOCK 1, upd (.ltx fun x => { x with bring := 0, drive := true, attNow := x.atten }),
    if s.scr.lighting then upd (.scr fun c => { c with beacon := true, lighting := false })
    else seqE [put LTX_SF_NUM.ALL 0,
      upd (.ltx fun x => { x with outRun := none, acc := 0, blk := [], sfs := 0, pilot := s.rd LTX_PILOT.GAIN }),
      upd (.frm fun f => { f with txMfas := 0 }),
      startSf,
      match run with
      | some r => finish r .ok
      | none => nop]]) s

/-- BIAS_LOCK_TIMEOUT (R90): the request ends TIMEOUT, TX_OUT stays dark, TX_DARK is raised with cause bias timeout, which fails
an ACTIVE unit (Table 14.7). -/
def execBiasLockTimeout (s : State) : Out := perform (dyn fun s =>
  let run := s.ltx.outRun
  if s.ltx.bring != 1 && s.ltx.bring != 2 then nop
  else seqE [upd (.ltx fun x => { x with bring := 0, outRun := none, sweeping := false }), upd (.scr fun c => { c with lighting := false, litBy := false }), put LTX_CTRL.OUT_EN 0, raise EV.TX_DARK [3],
    (match run with
     | some r => finish r .timeout
     | none => nop), unitFails 2]) s

/-- LO_LIGHT_CHANGE (R20, R21; log entry 62): light appears or disappears at LAS_LO; the internal splitter serves the local oscillator from
LAS_TX only while there is none. -/
def execLoLightChange (present : Bool) (s : State) : Out := perform (seqE [upd (.ltx fun x => { x with loLight := present }), tryStart]) s

end Sys2Proof.Machine
end

