-- ==== Sys2Proof/Machine/Receive.lean ====
section
/-!
DEFINITION. Line receive: the commands of Table 3.6 and the events of acquisition and tracking (R99 to R143, R729).
-/
namespace Sys2Proof.Machine
open Sys2Proof

/-! ### Commands -/

def opLrxModeSet : OpDef := ⟨0x0301, len 4, [1, 2, 4], fun _ p s =>
  if s.on LRX_CTRL.RX_EN then no .state
  else if !modeOk s.is1600 (nth p 0) (nth p 1) || 31 < nth p 2 || 31 < nth p 3 || !LRX_SHAPE.ROLLOFF.inRange (nth p 2) || !LRX_SHAPE.KERF.inRange (nth p 3) ||
      !widthOk (nth p 0) (nth p 1) (nth p 2) (nth p 3) then no .range
  else okE (seqE [setRxMode (nth p 0) (nth p 1), put LRX_SHAPE.ROLLOFF (nth p 2), put LRX_SHAPE.KERF (nth p 3)])⟩
/-- LRX_MODE_SET (R105, R159): mode, count, roll-off and Kerf, while RX_EN is 0. -/
def execLrxModeSet (h : CmdHdr) (p : List Word) (s : State) : Out := perform (felwin opLrxModeSet h p) s

/-- A register write of LRX_CTRL.MODE and OTUC_N by master `m` (R9, R105, R159): where the pair is refused, a count that is in range still takes
effect beside the mode in force. -/
def lrxModeWrite (m mode n : Nat) : Eff := dyn fun s =>
  let ok (mode n : Nat) : Bool := modeOk s.is1600 mode n && widthOk mode n (s.rd LRX_SHAPE.ROLLOFF) (s.rd LRX_SHAPE.KERF)
  if s.locked m LRX_CTRL.MODE 0 then whenE (mode != s.rxMode || n != s.rxN) (flagAcc m SYS_ACC_STAT.LOCK LRX_CTRL.MODE.off)
  else if ok mode n then setRxMode mode n
  else seqE [flagAcc m SYS_ACC_STAT.RANGE LRX_CTRL.MODE.off, if ok s.rxMode n then setRxMode s.rxMode n else whenE (ok mode s.rxN) (setRxMode mode s.rxN)]
/-- LRX_MODE_WRITE (R159). -/
def execLrxModeWrite (m : Mast) (mode : BitVec 4) (n : BitVec 6) (s : State) : Out := perform (byMaster m LRX_CTRL.MODE 0 (lrxModeWrite m mode.toNat n.toNat)) s

def opLrxEnable : OpDef := ⟨0x0302, len 1, cfgStates, fun _ p s =>
  if 1 < nth p 0 then no .badParam
  else if nth p 0 == 1 && !s.on LRX_CTRL.RX_EN && s.rxRefused then no .state
  else okE (setRxEn (nth p 0 == 1))⟩
/-- LRX_ENABLE (R105, R183). -/
def execLrxEnable (h : CmdHdr) (p : List Word) (s : State) : Out := perform (felwin opLrxEnable h p) s

/-- A write of LRX_CTRL.RX_EN (R105, R183): a refused 1 sets RANGE. -/
def rxEnWrite (m : Nat) (v : Bool) : Eff := dyn fun s =>
  if (v && !s.on LRX_CTRL.RX_EN && s.rxRefused) then flagAcc m SYS_ACC_STAT.RANGE LRX_CTRL.RX_EN.off else setRxEn v
/-- RX_EN_WRITE (R105). -/
def execRxEnWrite (m : Mast) (v : Bool) (s : State) : Out := perform (byMaster m LRX_CTRL.RX_EN 0 (rxEnWrite m v)) s

def LRX_CD_CFG.fields : List Fld := [LRX_CD_CFG.FORCE, LRX_CD_CFG.VERIFY, LRX_CD_CFG.D_FORCE]
def LRX_LOCK_CFG.fields : List Fld := [LRX_LOCK_CFG.SF_MISS, LRX_LOCK_CFG.SC_MISS, LRX_LOCK_CFG.PLM_MIN, LRX_LOCK_CFG.SF_THR]
def LRX_HOLD.fields : List Fld := [LRX_HOLD.ACQ_TO, LRX_HOLD.WARM_TO, LRX_HOLD.HOLD]
def LRX_EQ_CFG.fields : List Fld := [LRX_EQ_CFG.MU_ACQ, LRX_EQ_CFG.MU_TRK, LRX_EQ_CFG.HALF_TAPS, LRX_EQ_CFG.LEAK]
def LRX_DFE_CFG.fields : List Fld := [LRX_DFE_CFG.CONST_EN, LRX_DFE_CFG.NFB, LRX_DFE_CFG.THETA, LRX_DFE_CFG.F_OFF, LRX_DFE_CFG.F_ON]
def LRX_SC_CTRL.fields : List Fld := [LRX_SC_CTRL.DFE_DIS, LRX_SC_CTRL.DFE_FREEZE, LRX_SC_CTRL.FFE_FREEZE]

/-- A forced dispersion lies within the receive mode's range (Table 3.10). -/
def State.dForceOk (s : State) (w : Nat) : Bool := decide ((LRX_CD_CFG.D_FORCE.int (LRX_CD_CFG.D_FORCE.raw w)).natAbs ≤ s.rxCd)

/-- The feedback thresholds agree: F_ON from 8 to F_OFF − 1 (R130). -/
def fOnOk (fOff fOn : Nat) : Bool := decide (8 ≤ fOn ∧ fOn < fOff)

def opLrxAcqCfg : OpDef := ⟨0x0303, len 5, cfgStates, fun _ p s =>
  if !wordOk [LRX_AGC.TARGET] (nth p 0) || !s.dForceOk (nth p 1) || !wordOk [LRX_TIM_CFG.BW] (nth p 2) || !wordOk LRX_LOCK_CFG.fields (nth p 3) || !wordOk LRX_HOLD.fields (nth p 4) then no .range
  else okE (seqE [putWord [LRX_AGC.TARGET] (nth p 0), putWord LRX_CD_CFG.fields (nth p 1), putWord [LRX_TIM_CFG.BW] (nth p 2), putWord LRX_LOCK_CFG.fields (nth p 3), putWord LRX_HOLD.fields (nth p 4)])⟩
/-- LRX_ACQ_CFG (R140). -/
def execLrxAcqCfg (h : CmdHdr) (p : List Word) (s : State) : Out := perform (felwin opLrxAcqCfg h p) s

def opLrxEqCfg : OpDef := ⟨0x0304, len 2, cfgStates, fun _ p s =>
  if !wordOk LRX_EQ_CFG.fields (nth p 0) || !wordOk LRX_DFE_CFG.fields (nth p 1) || !fOnOk (LRX_DFE_CFG.F_OFF.raw (nth p 1)) (LRX_DFE_CFG.F_ON.raw (nth p 1)) then no .range
  else if s.on LRX_CTRL.RX_EN && LRX_EQ_CFG.HALF_TAPS.raw (nth p 0) != s.rd LRX_EQ_CFG.HALF_TAPS then no .state
  else okE (seqE [putWord LRX_EQ_CFG.fields (nth p 0), putWord LRX_DFE_CFG.fields (nth p 1), syncFb])⟩
/-- LRX_EQ_CFG (R121, R123, R127 to R130, R140): the tap count changes only while RX_EN is 0. -/
def execLrxEqCfg (h : CmdHdr) (p : List Word) (s : State) : Out := perform (felwin opLrxEqCfg h p) s

def opLrxFreeze : OpDef := ⟨0x0305, len 17, [3, 4], fun _ p _ =>
  okE (seqE [putWord LRX_FREEZE.fields (nth p 0), forE (List.range 16) (fun k => putWord LRX_SC_CTRL.fields (nth p (k + 1)) k), syncFb, unfreezeCheck])⟩
/-- LRX_FREEZE (R138). -/
def execLrxFreeze (h : CmdHdr) (p : List Word) (s : State) : Out := perform (felwin opLrxFreeze h p) s

/-- The subcarriers a host restart re-runs. -/
def State.restartScs (s : State) (frm mask : Nat) : List Nat := if frm = 4 then s.rxScs.filter (bit mask) else s.rxScs

/-- Whether a host restart is refused (R139). -/
def State.restartRefused (s : State) (frm : Nat) : Bool := !s.on LRX_CTRL.RX_EN || (frm == 4 && s.stage != 10)

/-- The freeze bits a host restart clears: the word of LRX_FREEZE bits, and the mask of subcarriers whose FFE_FREEZE it clears (R138). -/
def State.restartClears (s : State) (frm mask : Nat) : List Nat :=
  let (loops, scs) := s.frozenBy frm (s.restartScs frm mask)
  [if frm = 4 then 0 else loops, scs.foldl (fun a k => a + 2 ^ k) 0]

/-- A host restart (R138, R139): clears the freeze bits of the loops it re-runs, then restarts; FROM = 4 re-runs the equalisers of
`mask` from CMA at cold taps. -/
def hostRestart (frm mask : Nat) : Eff := dyn fun s =>
  let scs := s.restartScs frm mask
  seqE [putWord LRX_FREEZE.fields (s.word LRX_FREEZE.fields - nth (s.restartClears frm mask) 0),
    forE scs (fun k => put LRX_SC_CTRL.FFE_FREEZE 0 k),
    if frm = 4 then seqE [forE scs (fun k => seqE [put LRX_SC_STAT.STATE 5 k,
        modSc k (fun c => { c.unmeasured with phase := 2, costs := [], cmaOk := false, met := false, upds := 0, unlockAt := s.tick, ff := coldTaps s.taps })]), syncDD]
    else seqE [upd (.lrx fun x => { x with mism := 0 }), restartNow frm]]

def opLrxRestart : OpDef := ⟨0x0306, len 2, [3, 4], fun _ p s =>
  if 4 < nth p 0 then no .range else if 65535 < nth p 1 then no .badParam
  else if s.restartRefused (nth p 0) then no .state
  else let cleared := s.restartClears (nth p 0) (nth p 1)
    okP (hostRestart (nth p 0) (nth p 1)) (fun _ => cleared)⟩
/-- LRX_RESTART (R138, R139). -/
def execLrxRestart (h : CmdHdr) (p : List Word) (s : State) : Out := perform (felwin opLrxRestart h p) s

/-- A write of 1 to LRX_RESTART.GO (R139): FROM and SC_MASK as they stand; RESULT 1 OK, 5 STATE. -/
def restartGo : Eff := dyn fun s =>
  if s.restartRefused (s.rd LRX_RESTART.FROM) then put LRX_RESTART.RESULT 5
  else seqE [hostRestart (s.rd LRX_RESTART.FROM) (s.rd LRX_RESTART.SC_MASK), put LRX_RESTART.RESULT 1]
/-- LRX_RESTART_GO (R139). -/
def execLrxRestartGo (m : Mast) (s : State) : Out := perform (byMaster m LRX_RESTART.GO 0 restartGo) s

def LRX_STATUS.fields : List Fld := [LRX_STATUS.ACQ_FAILS, LRX_STATUS.STAGE, LRX_STATUS.WARM, LRX_STATUS.SIG_PRESENT, LRX_STATUS.TIM_LOCK, LRX_STATUS.SF_LOCK, LRX_STATUS.SC_DD]
def LRX_SC_STAT.fields : List Fld := [LRX_SC_STAT.PLM, LRX_SC_STAT.UNREL, LRX_SC_STAT.CENTROID, LRX_SC_STAT.STATE]

def opLrxStatus : OpDef := ⟨0x0307, len 0, upStates, fun _ _ _ => okP nop (fun s =>
  [s.word LRX_STATUS.fields, w32 (s.rdI LRX_CD_EST.ALL), w32 (s.rdI LRX_FREQ_EST.ALL), s.rd LRX_TIM_EST.ALL] ++
  (List.range 16).map (fun k => s.word LRX_SC_STAT.fields k) ++ (List.range 16).map (fun k => s.rd LRX_SC_RCD.ALL k))⟩
/-- LRX_STATUS (R140). -/
def execLrxStatus (h : CmdHdr) (p : List Word) (s : State) : Out := perform (felwin opLrxStatus h p) s

def opLrxTapsGet : OpDef := ⟨0x0308, len 1, [3, 4], fun _ p _ =>
  if 15 < nth p 0 then no .badParam
  else okP nop (fun s => let c := s.lrx.sc (nth p 0)
    [s.taps, s.rd LRX_DFE_CFG.NFB] ++ (fourSets (centred s.taps) c.ff ++ fourSets (fromFirst (s.rd LRX_DFE_CFG.NFB)) c.fb).flatten.map tapWord)⟩
/-- LRX_TAPS_GET (R729): the sets as they stand, at the lengths in force. -/
def execLrxTapsGet (h : CmdHdr) (p : List Word) (s : State) : Out := perform (felwin opLrxTapsGet h p) s

/-! ### Acquisition -/

/-- SIG_PRESENT_SET (R103, R137): in HOLD the signal's return restarts the receiver, warm where D is held and the hold time has not
expired, else cold. -/
def execSigPresentSet (s : State) : Out := perform (dyn fun s => seqE [put LRX_STATUS.SIG_PRESENT 1,
  whenE (s.stage == 11) (autoRestart (if s.lrx.dHeld && !s.lrx.expired then 4 else 0))]) s

/-- SIG_PRESENT_CLEAR (R103, R137): the loops freeze at their last values and the receiver enters HOLD. -/
def execSigPresentClear (s : State) : Out := perform (dyn fun s => seqE [put LRX_STATUS.SIG_PRESENT 0, losEnter,
  whenE (decide (1 ≤ s.stage ∧ s.stage ≤ 10)) (seqE [put LRX_STATUS.STAGE 11,
    upd (.lrx fun x => { x with pause := false, expired := false, llr := false, suppressed := none }),
    raise EV.RX_UNLOCK [5, b2n s.anyFrozen]])]) s

/-- A channel's RMS level at the ADC in 0.25 dBFS, at no gain, from its mean square in 2^-64 of full scale. -/
def adcLevel (pow : Nat) : Int := dbOf pow / 25

/-- The target level in 0.25 dBFS (R102). -/
def State.agcTarget (s : State) : Int := -2 * (s.rd LRX_AGC.TARGET : Int)

/-- The gain control (R102): each channel's gain, 0 to 24 dB in 0.25 dB, brings its level to the target; held under FREEZE.AGC. LRX_AGC.GAIN shows
XI's (DESIGN CHOICE, log entry 152: the spec does not say which channel). `pow` are the mean squares of XI, XQ, YI and YQ. -/
def agc (pow : List Nat) : Eff := dyn fun s => whenE (!s.on LRX_FREEZE.AGC) (
  let gs := (List.range 4).map (fun c => (clampI 0 96 (s.agcTarget - adcLevel (nth pow c))).toNat)
  seqE [upd (.lrx fun x => { x with agc := gs }), put LRX_AGC.GAIN (nth gs 0)])

/-- Whether all four channels are within 0.5 dB of the target at the gains held (Table 3.2). -/
def State.agcSettled (s : State) (pow : List Nat) : Bool :=
  (List.range 4).all (fun c => decide ((adcLevel (nth pow c) + nth s.lrx.agc c - s.agcTarget).natAbs ≤ 2))

/-- The IQ imbalance of one polarisation and its correction (R101), from the mean squares of I and Q and the mean of their product: the gain in 0.01 dB
to ±1.0 dB, the phase in 2^-16 turns to ±5.0°. -/
def iqCorrection (ii qq : Nat) (iq : Int) : Int × Int :=
  (clampI (-100) 100 (-(dbOf (ii * 2 ^ 64 / max 1 qq))), clampI (-910) 910 (-(phaseOf (rootOf (((ii * qq : Nat) : Int) - iq * iq).toNat) iq)))

/-- The IQ corrections of X and Y follow, unless FREEZE.IQ holds them (R101). -/
def iqTrack (pow : List Nat) (cross : List Int) : Eff := dyn fun s => whenE (!s.on LRX_FREEZE.IQ)
  (upd (.lrx fun x => { x with iq := [iqCorrection (nth pow 0) (nth pow 1) (cross.getD 0 0), iqCorrection (nth pow 2) (nth pow 3) (cross.getD 1 0)] }))

/-- GAIN_SETTLED (R102, R106): the gains take the four channels, of mean squares `pow` at no gain, to the target; with all within 0.5 dB of it FREQ
starts, or in a warm attempt the fine scan. -/
def execGainSettled (pow : List Nat) (s : State) : Out := perform (dyn fun s =>
  if !(s.stage == 1 && s.on LRX_STATUS.SIG_PRESENT && !s.lrx.pause) then nop
  else seqE [agc pow, dyn fun s => whenE (s.agcSettled pow) (if s.on LRX_STATUS.WARM then startDisp else put LRX_STATUS.STAGE 2)]) s

/-- The average of power spectra, bin by bin (R107). -/
def spectrumMean (ss : List (List Nat)) : List Nat :=
  (List.range 4096).map (fun i => (ss.map (fun x => nth x i)).foldl (· + ·) 0 / max 1 ss.length)

/-- FREQ_ESTIMATE_DONE (R107, R108): the offset is the midpoint of the band edges fitted to the average of the 64 spectra; within ±5.0 GHz DISP
starts; beyond, FREQ_RANGE is raised and the attempt fails. -/
def execFreqEstimateDone (spectra : List (List Nat)) (s : State) : Out := perform (dyn fun s =>
  let e := Config.bandEdges s.rxMode s.rxN (s.rd LRX_SHAPE.ROLLOFF) (s.rd LRX_SHAPE.KERF) (spectrumMean spectra)
  let est := (e.1 + e.2) / 2
  if !(s.stage == 2 && !s.lrx.pause) then nop
  else if 5000000 < est.natAbs then seqE [raise EV.FREQ_RANGE (withFrozen (s.on LRX_FREEZE.FREQ) [w32 est]), failAttempt]
  else seqE [whenE (!s.on LRX_FREEZE.FREQ) (seqE [putI LRX_FREQ_EST.ALL est, upd (.lrx fun x => { x with coarse := est, crInt := 0, crRate := 0 })]), startDisp]) s

/-- The end of a scan's batches (R110): the coarse scan keeps its two best trials more than 1,200 ps/nm apart and the fine scan starts
around the better; the fine peak is the estimate. -/
def scanEnd (sc : Scan) : Eff :=
  match bestTrial sc.tried with
  | none => nop
  | some b =>
    if sc.fine then dispDone b.1
    else seqE [upd (.lrx fun x => { x with other := (bestTrial (sc.tried.filter (fun t => decide (1200 < (t.1 - b.1).natAbs)))).map (·.1) }), fineScan b.1]

/-- DISP_BATCH_DONE (R110): the metrics of the next 16 trials. -/
def execDispBatchDone (metrics : List Word) (s : State) : Out := perform (dyn fun s =>
  match s.stage == 3 && !s.lrx.pause, s.lrx.scan with
  | true, some sc =>
    let batch := (sc.todo.take 16).zip ((metrics.map (·.toNat)) ++ List.replicate 16 0)
    let sc' : Scan := ⟨sc.fine, sc.todo.drop 16, sc.tried ++ batch⟩
    seqE [upd (.lrx fun x => { x with scan := some sc' }), whenE sc'.todo.isEmpty (scanEnd sc')]
  | _, _ => nop) s

/-- Timing lock (R117): eight windows, each integrator value within 1 ppm of their mean. -/
def timLocked (h : List Int) : Bool :=
  h.length == 8 && h.all (fun x => decide ((8 * x - h.foldl (· + ·) 0).natAbs < 8000))

/-- Whether a window's costs are stable: four of them within 5 % (Table 3.3). -/
def costStable (cs : List Nat) : Bool :=
  let top := cs.foldl max 0
  cs.length == 4 && cs.all (fun c => decide (100 * (top - c) ≤ 5 * top))

/-! ### The equalisers -/

/-- How subcarrier `k` adapts (Table 3.3, Table 3.4): 0 held, 1 CMA, 2 PILOT, 3 DD, 4 DD with feedback. -/
def State.eqMode (s : State) (k : Nat) : Nat :=
  let st := s.rd LRX_SC_STAT.STATE k
  if st = 5 then (match (s.lrx.sc k).phase with | 1 => 2 | 2 => 1 | 3 => 2 | _ => 0) else if st ≤ 4 then st else 0

/-- What stands at symbol `i` of a superframe on subcarrier `k`, in the receive mode. -/
def State.symKnown (s : State) (k i : Nat) : Nat × List Int :=
  if interopMode s.rxMode then (let v := Config.interopKnown s.rxMode i; (if v.isEmpty then 0 else 2, v)) else symAt k (i % 2 ^ 20)

/-- The equaliser of subcarrier `k` as the settings in force run it. -/
def State.eqSet (s : State) (k : Nat) : EqRun where
  mode := s.eqMode k
  mu := if s.eqMode k ≤ 2 then s.rd LRX_EQ_CFG.MU_ACQ else s.rd LRX_EQ_CFG.MU_TRK
  leak := s.rd LRX_EQ_CFG.LEAK
  n := s.taps
  nfb := s.rd LRX_DFE_CFG.NFB
  ffHeld := s.on LRX_SC_CTRL.FFE_FREEZE k
  fbHeld := s.on LRX_SC_CTRL.DFE_FREEZE k
  con := s.rxConst k
  unit := levelUnit (s.rxConst k) (scEnt (s.rxEntry k))
  pilot := pilotUnit (s.rdI LTX_PILOT.GAIN)
  theta := s.rd LRX_DFE_CFG.THETA
  track := decide (7 ≤ s.stage)
  known := s.symKnown k

/-- The equaliser of subcarrier `k` as it stands. -/
def State.eqNow (s : State) (k : Nat) : EqSt :=
  let c := s.lrx.sc k
  { ff := fourSets (centred s.taps) c.ff, fb := fourSets (fromFirst (s.rd LRX_DFE_CFG.NFB)) c.fb,
    dx := c.dx, dy := c.dy, px := c.px, py := c.py, thX := c.thX, thY := c.thY }

/-- The equaliser of subcarrier `k` after a window's symbols. -/
def State.eqWindow (s : State) (k : Nat) (ys : List RxSym) : EqSt := eqRun (s.eqSet k) (s.eqNow k) ys

/-- One CMA window of subcarrier `k` (R122): with the cost stable, the singularity check; held taps are not set anew, and the event says so (R138). -/
def cmaWindow (k : Nat) (a : EqSt) : Eff := dyn fun s =>
  let cs := (a.meanCost :: (s.lrx.sc k).costs).take 4
  let frozen := s.on LRX_SC_CTRL.FFE_FREEZE k
  if !costStable cs then modSc k (fun c => { c with costs := cs })
  else if 128 < a.corr then seqE [raise EV.POL_SINGULAR (withFrozen frozen [k, a.corr]),
    modSc k (fun c => { c with costs := [], ff := if frozen then c.ff else reseed c.ff })]
  else modSc k (fun c => { c with costs := [], cmaOk := true, upds := 0, phase := if c.phase = 2 then 3 else c.phase })

/-- Whether subcarrier `k` meets the PILOT exit (Table 3.3): 2,048 updates, and the PLM of the window 3 dB above its threshold. -/
def State.pilotExit (s : State) (k : Nat) (a : EqSt) : Bool :=
  decide (2048 ≤ (s.lrx.sc k).upds ∧ s.rd LRX_LOCK_CFG.PLM_MIN + 12 ≤ plmOf a.sig a.err)

/-- The burst guard on subcarrier `k` (R130). -/
def burstGuard (k : Nat) (a : EqSt) : Eff := dyn fun s =>
  let c := s.lrx.sc k
  if s.rd LRX_DFE_CFG.NFB == 0 || !bit (s.rd LRX_DFE_CFG.CONST_EN) (s.rxConst k) || s.on LRX_SC_CTRL.DFE_DIS k then nop
  else if !c.bypass then
    whenE (decide (s.rd LRX_DFE_CFG.F_OFF * a.decs < 64 * a.unrel)) (seqE [modSc k (fun c => { c with bypass := true, goodWin := 0 }), raise EV.DFE_OFF [k, a.unrelByte], syncFb])
  else if s.rd LRX_DFE_CFG.F_ON * a.decs < 64 * a.unrel then modSc k (fun c => { c with goodWin := 0 })
  else if c.goodWin + 1 < 16 then modSc k (fun c => { c with goodWin := c.goodWin + 1 })
  else seqE [modSc k (fun c => { c with bypass := false, goodWin := 0 }), raise EV.DFE_ON [k], syncFb]

/-- A subcarrier that re-acquired returns to DD: SC_RELOCK after Table 3.4; one seeded by a plan change raises nothing (R136). -/
def relock (k : Nat) : Eff := dyn fun s =>
  let c := s.lrx.sc k
  seqE [toDD k, whenE (c.phase == 3) (raise EV.SC_RELOCK [k, (s.tick - c.unlockAt) * 32 / 25000])]

/-- One window on subcarrier `k`: the equaliser as its symbols leave it, the tracker's slips (R152), and the tests of its state. -/
def scWindow (k : Nat) (ys : List RxSym) : Eff := dyn fun s =>
  let a := s.eqWindow k ys
  seqE [put LRX_SC_STAT.UNREL a.unrelByte k, bump LRX_SC_SLIP.TRK a.slips k,
    modSc k (fun c => { c with ff := a.ff, fb := a.fb, dx := a.dx, dy := a.dy, px := a.px, py := a.py, thX := a.thX, thY := a.thY,
                               upds := if s.eqMode k = 2 then c.upds + a.upd else c.upds, slipTrk := c.slipTrk + a.slips }),
    dyn fun t =>
      let c := t.lrx.sc k
      let st := t.rd LRX_SC_STAT.STATE k
      if t.stage == 5 && st == 1 && !c.cmaOk then cmaWindow k a
      else if t.stage == 10 && c.phase == 2 then cmaWindow k a
      else if t.stage == 8 && t.pilotExit k a then modSc k (fun c => { c with met := true })
      else if t.stage == 10 && (c.phase == 3 || c.phase == 4) && t.pilotExit k a then relock k
      else if t.stage == 9 && st == 2 && (c.met || t.pilotExit k a) then toDD k
      else whenE (st == 3 || st == 4) (burstGuard k a)]

/-- The stage moves on when every enabled subcarrier is through (Table 3.2). -/
def stageAdvance : Eff := dyn fun s =>
  if s.stage == 5 && s.rxScs.all (fun k => (s.lrx.sc k).cmaOk) then startSfsync
  else if s.stage == 8 && s.rxScs.all (fun k => (s.lrx.sc k).met) then put LRX_STATUS.STAGE 9
  else whenE (s.stage == 9 && s.rxScs.all (fun k => s.rd LRX_SC_STAT.STATE k == 3 || s.rd LRX_SC_STAT.STATE k == 4)) startLocked

/-! ### Timing -/

/-- Whether every enabled subcarrier has reached PILOT, so that the centroids are the timing error (R116). -/
def State.pastPilot (s : State) : Bool := s.rxScs.all (fun k => decide (2 ≤ s.rd LRX_SC_STAT.STATE k))

/-- The timing error of a window in 2^-32 symbols (R116): the Gardner sum of all enabled subcarriers and both polarisations, and from PILOT the mean
deviation of their centroids. `ws` are the subcarriers with their symbols. -/
def State.timError (s : State) (ws : List (Nat × List RxSym)) : Int :=
  if s.pastPilot then (s.rxScs.map (fun k => centroidOf (s.lrx.sc k).ff s.taps)).foldl (· + ·) 0 * 2 ^ 27 / max 1 s.rxScs.length
  else
    let as := ws.map (fun e => s.eqWindow e.1 e.2)
    Config.gardnerGain ((as.map (·.gard)).foldl (· + ·) 0) ((as.map (·.pow)).foldl (· + ·) 0)

/-- The timing integrator in ppb. -/
def LrxSt.ppb (x : LrxSt) : Int := x.timInt * 1000000000 / 2 ^ 64

/-- The timing loop takes a window's error (R115): second order, damping 0.707, one update in 4,096 symbols; frozen, it holds. -/
def timLoop (e : Int) : Eff := dyn fun s => whenE (!s.on LRX_FREEZE.TIMING) (
  let w := Config.natFreq 0 (100000 * s.rd LRX_TIM_CFG.BW)
  seqE [upd (.lrx fun x => { x with timInt := x.timInt + w * w * e / 2 ^ 44, timPh := x.timPh + (x.timInt + w * w * e / 2 ^ 44) * 4096 / 2 ^ 32 + 1414 * w * e / 1000 / 2 ^ 32 }),
    dyn fun t => putI LRX_TIM_EST.ALL t.lrx.ppb])

/-- The timing loop's window (R117, R118, R120): TIM_LIMIT where the integrator comes to its limit. After TIM_LIMIT the integrator starts again from 0 (DESIGN CHOICE, log entry 151). -/
def timWindow : Eff := dyn fun s =>
  let integ := s.lrx.ppb
  let h := (integ :: s.lrx.tim).take 8
  seqE [upd (.lrx fun x => { x with tim := h }), putB LRX_STATUS.TIM_LOCK (timLocked h),
    if 200000 ≤ integ.natAbs ∧ (s.lrx.tim.headD 0).natAbs < 200000 then seqE [raise EV.TIM_LIMIT (withFrozen (s.on LRX_FREEZE.TIMING) [w32 integ]),
      whenE (!s.on LRX_FREEZE.TIMING) (upd (.lrx fun x => { x with timInt := 0, timPh := 0 })), autoRestart 2]
    else whenE (s.stage == 4 && timLocked h) (if s.on LRX_STATUS.WARM then startSfsync else startCma)]

/-- SYMBOL_WINDOW_END (R101, R102, R115 to R118, R121 to R130, R152): a window of 4,096 symbols ends. `pow` and `cross` are the ADC channels' mean
squares at no gain and the means of I × Q of X and Y, `wins` the symbols of the enabled subcarriers in order. -/
def execSymbolWindowEnd (pow : List Nat) (cross : List Int) (wins : List (List RxSym)) (s : State) : Out := perform (dyn fun s =>
  let ws := s.rxScs.zip (s.rxScs.map (fun (k : Nat) => (wins[s.rxScs.idxOf k]?).getD []))
  if !(s.rxRuns && decide (4 ≤ s.stage)) then nop
  else seqE [agc pow, iqTrack pow cross, timLoop (s.timError ws), timWindow,
    dyn fun t => whenE (decide (5 ≤ s.stage ∧ 5 ≤ t.stage)) (seqE [forE ws (fun e => scWindow e.1 e.2), stageAdvance])]) s

/-! ### Superframe lock -/

/-- The distance between two boundaries, modulo the superframe of 2^20 symbols. -/
def bndDist (a b : Nat) : Nat := min ((a + 2 ^ 20 - b) % 2 ^ 20) ((b + 2 ^ 20 - a) % 2 ^ 20)

/-- The largest disagreement among boundaries (R131). -/
def disagreement (bs : List Nat) : Nat := (bs.flatMap (fun a => bs.map (bndDist a))).foldl max 0

/-- Superframe lock judged once every enabled subcarrier is locked (R131, R132): the residual handed over is that of the last detection (DESIGN CHOICE,
log entry 151: the spec does not say which subcarrier's). -/
def judgeSf (resid : Int) : Eff := dyn fun s =>
  let bs := s.rxScs.filterMap (fun k => (s.lrx.sc k).bnd)
  if bs.length ≠ s.rxScs.length ∨ bs = [] then nop
  else if disagreement bs ≤ 4 then seqE [put LRX_STATUS.SF_LOCK 1, put LRX_STATUS.STAGE 7,
    whenE (!s.on LRX_FREEZE.FREQ) (seqE [putI LRX_FREQ_EST.ALL (s.rdI LRX_FREQ_EST.ALL + resid), upd (.lrx fun x => { x with crInt := x.crInt + resid * 65536000 })]),
    forE s.rxScs (fun k => modSc k (fun c => { c with thX := 0, thY := 0, pil := [], erased := [] })),
    upd (.lrx fun x => { x with mism := 0, crWin := [], crBad := 0, sfMiss := 0 })]
  else seqE [raise EV.CD_MISMATCH (withFrozen (s.on LRX_FREEZE.CD_TRACK) [w32 (s.rdI LRX_CD_EST.ALL), disagreement bs]),
    forE s.rxScs (fun k => modSc k (fun c => { c with dets := [], bnd := none })),
    upd (.lrx fun x => { x with mism := x.mism + 1 }), autoRestart (if s.lrx.mism = 0 then 1 else 0)]

/-- The product of each symbol with the conjugate of the one before it. -/
def pairProducts : List Cpx → List Cpx
  | a :: b :: rest => cMul b (cConj a) :: pairProducts (b :: rest)
  | _ => []

/-- The differential correlation of received symbols with known ones, pair by adjacent pair (R131), with what a full one would be: the sum over the
pairs of both products, and the sum of their magnitudes. -/
def diffCorr (rs ks : List Cpx) : Cpx × Nat :=
  let ps := (pairProducts rs).zip (pairProducts ks)
  (ps.foldl (fun a p => cAdd a (cMul p.1 (cConj p.2))) (0, 0), (ps.map (fun p => rootOf (cNorm p.1) * rootOf (cNorm p.2))).foldl (· + ·) 0)

/-- The training symbols of SCk for X and for Y (R62, R63). -/
def trainX (k : Nat) : List Cpx := (qpskRun 64 (seedX k) (seedY k)).1.map (fun v => (v.getD 0 0, v.getD 1 0))
def trainY (k : Nat) : List Cpx := (qpskRun 64 (seedX k) (seedY k)).1.map (fun v => (v.getD 2 0, v.getD 3 0))

/-- The correlation of both polarisations at a symbol offset. -/
def trainCorr (k : Nat) (xs ys : List Cpx) : Cpx × Nat :=
  let (a, m) := diffCorr xs (trainX k)
  let (b, n) := diffCorr ys (trainY k)
  (cAdd a b, m + n)

/-- The frequency in kHz at which the phase advances by `p` (2^-16 turns) in the 65 symbols between pilots at 18.75 GBd: within ±144.2 MHz (R132). -/
def residOf (p : Int) : Int := p * 18750000 / (65 * 65536)

/-- TRAINING_WORD_DETECT (R131, R132): the symbols of X and of Y at the training positions that start at symbol `pos` of subcarrier `sc`. A detection
is a normalised correlation at or above the threshold; its common phase gives the residual offset. The last sixteen detections are held. -/
def execTrainingWordDetect (sc : Fin 16) (pos : Nat) (xs ys : List (Int × Int)) (s : State) : Out := perform (dyn fun s =>
  let (c, full) := trainCorr sc.val xs ys
  let resid := residOf (phaseOf c.1 c.2)
  if !(s.stage == 6 && !s.lrx.pause && s.rxScs.contains sc.val && decide (0 < full ∧ s.rd LRX_LOCK_CFG.SF_THR * full ≤ 64 * rootOf (cNorm c))) then nop
  else seqE [modSc sc (fun c => { c with dets := (pos :: c.dets).take 16, resid := resid }),
    whenE ((s.lrx.sc sc).dets.any (fun d => d + 2 ^ 20 == pos)) (modSc sc (fun c => { c with bnd := some (pos % 2 ^ 20) })), judgeSf resid]) s

/-! ### Carrier -/

/-- Carrier lock over the last four windows (R147). -/
def crLocked (ws : List (Int × Bool)) : Bool :=
  ws.length == 4 && ws.all (·.2) && ws.all (fun w => decide ((4 * w.1 - (ws.map (·.1)).foldl (· + ·) 0).natAbs ≤ 4000))

/-- The slip threshold in π/256 (Table 4.5). -/
def State.slipThr (s : State) : Nat := if s.rd LRX_CR_CFG.SLIP_THR = 0 then 256 else 16 * s.rd LRX_CR_CFG.SLIP_THR

/-- The nearest branch of phase `p` to `last` (R151). -/
def unwrapTo (last p : Int) : Int := last + wrapPhase (p - last)

/-- The unwrapped phases of a list that follows `last`, in order. -/
def unwrap : Int → List Int → List Int
  | _, [] => []
  | last, p :: ps => unwrapTo last p :: unwrap (unwrapTo last p) ps

/-- How far each phase steps from the one before, `last` being the one before the first. -/
def phaseSteps : Int → List Int → List Nat
  | _, [] => []
  | last, p :: ps => (wrapPhase (p - last)).natAbs :: phaseSteps p ps

/-- The pilots of a window, with their unwrapped phases, newest first; those held begin with `old`. -/
def pilotPhases (old : List (Int × Int × Int)) (w : PilotWin) : List (Int × Int × Int) :=
  let l := (old.headD (0, w.x.headD 0, w.y.headD 0)).2
  (((List.range w.x.length).map (fun (i : Nat) => w.first + i)).zip ((unwrap l.1 w.x).zip (unwrap l.2 w.y))).reverse

/-- The output estimate at pilot `j` from the pilots held (R146): the line fitted by least squares to the phases of the window of 2 `half` + 1 pilots about
it stands at its centre at their mean. -/
def outEst (half : Nat) (ps : List (Int × Int × Int)) (j : Int) : Int × Int :=
  let w := (ps.filter (fun p => decide ((p.1 - j).natAbs ≤ half))).map (·.2)
  ((w.map (·.1)).foldl (· + ·) 0 / max 1 w.length, (w.map (·.2)).foldl (· + ·) 0 / max 1 w.length)

/-- The RMS phase error of the pilots `ps` against the output estimate, in mrad: 2π / 65,536 is 95,874 / 10^9 (R147). -/
def pilotRms (half : Nat) (held ps : List (Int × Int × Int)) : Nat :=
  let sq := ps.map (fun p => let e := outEst half held p.1; (p.2.1 - e.1) * (p.2.1 - e.1) + (p.2.2 - e.2) * (p.2.2 - e.2))
  rootOf ((sq.foldl (· + ·) 0).toNat * 1000000 / max 1 (2 * ps.length)) * 95874 / 1000000000

/-- The intervals before the pilots whose step exceeds the slip threshold, of X (false) and of Y (R151). The phases are taken after the frequency loop, so
that the advance it predicts is 0. -/
def slipsOf (thr : Nat) (old : List (Int × Int × Int)) (w : PilotWin) : List (Int × Bool) :=
  let l := (old.headD (0, w.x.headD 0, w.y.headD 0)).2
  let at_ (y : Bool) (st : List Nat) : List (Int × Bool) :=
    (((List.range st.length).zip st).filter (fun e => decide (thr < e.2))).map (fun e => (w.first + e.1 - 1, y))
  at_ false (phaseSteps l.1 w.x) ++ at_ true (phaseSteps l.2 w.y)

/-- One pilot window on subcarrier `k` (R146, R147, R151): the phases held, the phase error and the output slips. The phases of 1,100 pilots are held,
more than a block and a window take. -/
def scPilot (k : Nat) (w : PilotWin) : Eff := dyn fun s =>
  let c := s.lrx.sc k
  let new := pilotPhases c.pil w
  let held := (new ++ c.pil).take 1100
  let bad := slipsOf (128 * s.slipThr) c.pil w
  let lost := (bad ++ c.erased).filter (fun e => decide (w.first ≤ e.1 + 1100))
  seqE [modSc k (fun c => { c with pil := held, erased := lost, phNow := pilotRms (s.rd LRX_CR_CFG.WIN) held new, slipOut := c.slipOut + bad.length }),
    bump LRX_SC_SLIP.OUT bad.length k]

/-- The subcarriers whose pilots drive the frequency loop (R144): those in DD or PILOT; in CARRIER, when none is yet, all (log entry 149). -/
def State.crScs (s : State) : List Nat :=
  if s.stage = 7 then s.rxScs else s.rxScs.filter (fun k => s.eqMode k == 2 || s.eqMode k == 3 || s.eqMode k == 4)

/-- Symbol rate over pilot spacing in Hz (R61, R150, Table 2.2). -/
def State.pilotHz (s : State) : Nat :=
  let sp := max 1 (Config.interopSpacing s.rxMode)
  match s.rxMode with
  | 6 => 59843750000 / sp | 7 => 60138500000 / sp | 8 => 60138500000 / sp | 9 => 60138500000 / sp | 10 => 30069200000 / sp | _ => 18750000000 / 65

/-- One update of the frequency loop (R144), second order: `e` is the mean phase advance in 2^-16 turns, which stands for e × rate Hz in 2^-16. -/
def crStep (w damping rate : Nat) (x : Int × Int) (e : Int) : Int × Int :=
  let v := x.2 + w * w * (e * rate) / 2 ^ 64
  (x.1 + v + 2 * damping * w * (e * rate) / 1000 / 2 ^ 32, v)

/-- The mean phase advances from pilot to pilot over both polarisations of the windows. -/
def advances (ws : List PilotWin) : List Int :=
  let steps (ps : List Int) : List Int := (ps.zip (ps.drop 1)).map (fun p => wrapPhase (p.2 - p.1))
  let rows := ws.flatMap (fun w => [steps w.x, steps w.y])
  (List.range ((rows.headD []).length)).map (fun i => (rows.map (fun r => r.getD i 0)).foldl (· + ·) 0 / max 1 rows.length)

/-- The frequency loop takes a window (R144, R145); frozen, it holds (R149). LRX_FREQ_EST is the coarse shift with the loop's estimate. -/
def crLoop (ws : List PilotWin) : Eff := dyn fun s => whenE (!s.on LRX_FREEZE.FREQ) (
  let (f, v) := (advances ws).foldl (crStep (Config.natFreq 1 (10000 * s.rd LRX_CR_CFG.FBW)) Config.crDamping s.pilotHz) (s.lrx.crInt, s.lrx.crRate)
  seqE [upd (.lrx fun x => { x with crInt := f, crRate := v }), putI LRX_FREQ_EST.ALL (s.lrx.coarse + f / 65536000),
    whenE (decide (46875 < (f / 65536000).natAbs)) (put LRX_CR_STAT.SHIFTING 1)])

/-- PILOT_WINDOW_END (R144 to R151): a window of 512 pilot positions ends, with the pilots of the enabled subcarriers in order. -/
def execPilotWindowEnd (wins : List PilotWin) (s : State) : Out := perform (dyn fun s =>
  let ws := s.rxScs.zip (s.rxScs.map (fun (k : Nat) => (wins[s.rxScs.idxOf k]?).getD ⟨0, [], []⟩))
  if !(s.rxRuns && decide (7 ≤ s.stage)) then nop
  else seqE [crLoop ((ws.filter (fun e => s.crScs.contains e.1)).map (·.2)), forE ws (fun e => scPilot e.1 e.2),
    dyn fun t =>
      let z := t.rdI LRX_FREQ_EST.ALL
      let ph := t.rxScs.map (fun k => (t.lrx.sc k).phNow)
      let crw := ((z, ph.all (fun p => decide (p ≤ 250))) :: t.lrx.crWin).take 4
      let bad := decide (ph.length ≤ 2 * (ph.filter (fun p => decide (600 < p))).length) && ph != []
      let crBad := if bad then t.lrx.crBad + 1 else 0
      seqE [upd (.lrx fun x => { x with crWin := crw, crBad := crBad }),
        if t.on LRX_CR_STAT.CR_LOCK && (4 ≤ crBad || 5000000 ≤ z.natAbs) then
          seqE [put LRX_CR_STAT.CR_LOCK 0, raise EV.CR_UNLOCK (withFrozen (t.on LRX_FREEZE.FREQ) [if 4 ≤ crBad then 1 else 2]), autoRestart 3]
        else whenE (!t.on LRX_CR_STAT.CR_LOCK && crLocked crw) (seqE [put LRX_CR_STAT.CR_LOCK 1, raise EV.CR_LOCK [w32 z],
          whenE (t.stage == 7) (seqE [put LRX_STATUS.STAGE 8, allScs 2 (fun c => { c with met := false, upds := 0 })])])]]) s

/-! ### Timers -/

/-- STAGE_TIMEOUT (R134): the stage has not met its exit in time. -/
def execStageTimeout (s : State) : Out := perform failAttempt s

/-- ACQ_TIMEOUT (R134): the attempt has not reached LOCKED in time. -/
def execAcqTimeout (s : State) : Out := perform (seqE [failAttempt]) s

/-- RESTART_PAUSE_END (R134): the pause ends and a cold attempt starts. -/
def execRestartPauseEnd (s : State) : Out := perform (dyn fun s => whenE s.lrx.pause (seqE [upd (.lrx fun x => { x with pause := false }), autoRestart 0])) s

/-- HOLD_EXPIRED (R137): the held state is discarded. -/
def execHoldExpired (s : State) : Out := perform (dyn fun s =>
  whenE (s.stage == 11 && !s.lrx.expired) (seqE [raise EV.HOLD_EXPIRED [s.rd LRX_HOLD.HOLD],
    upd (.lrx fun x => { x with expired := true, dHeld := false, other := none, scs := [] })])) s

/-- WARM_TIMEOUT (R137): a warm attempt that has not reached LOCKED becomes cold; one that has failed waits out its pause (R134). -/
def execWarmTimeout (s : State) : Out := perform (dyn fun s => whenE (s.on LRX_STATUS.WARM && !s.lrx.pause && decide (1 ≤ s.stage ∧ s.stage ≤ 9)) (autoRestart 0)) s

end Sys2Proof.Machine
end

