-- ==== Sys2Proof/Machine/Adapt.lean ====
section
/-!
DEFINITION. Carrier settings, line quality and plan adaptation (R153 to R176).
-/
namespace Sys2Proof.Machine
open Sys2Proof

/-! ### Quality -/

/-- The snapshot of R156 is copied: the live words become the bank, GEN steps. -/
def takeQuality : Eff := dyn fun s => seqE [
  fun s => (List.range 16).flatMap (fun k => let c := s.lrx.sc k
    [.put LRX_SC_Q.SNR k c.snr, .put LRX_SC_Q.MARGIN k c.margin, .put LRX_SC_QX.SNR_X k c.snrX, .put LRX_SC_QX.SNR_Y k c.snrY,
     .put LRX_SC_QX.PHERR k c.phErr, .put LRX_FAR_Q.SNR k (Tab.get 0 s.lrx.far k)]),
  put LRX_Q_SNAP.GEN (s.rd LRX_Q_SNAP.GEN + 1),
  upd (.lrx fun x => { x with bankMargin := x.margin, qTake := false })]

/-- The payload of LRX_QUALITY (Table 4.3). -/
def State.qualityWords (s : State) : List Nat :=
  [s.rd LRX_Q_SNAP.GEN, s.lrx.bankMargin] ++ (List.range 16).map (fun k => s.word [LRX_SC_Q.SNR, LRX_SC_Q.MARGIN] k) ++
  (List.range 16).map (fun k => s.word [LRX_SC_QX.SNR_X, LRX_SC_QX.SNR_Y, LRX_SC_QX.PHERR] k) ++
  (List.range 16).map (fun k => s.word [LRX_SC_SLIP.OUT, LRX_SC_SLIP.TRK] k) ++ (List.range 16).map (fun k => s.word [LRX_FAR_Q.SNR] k)

def opLrxQuality : OpDef := ⟨0x0309, len 0, [3, 4], fun h p _ =>
  deferE (upd (.lrx fun x => { x with qTake := true, qRuns := x.qRuns ++ [runOf h 0x0309 p] }))⟩
/-- LRX_QUALITY (R173): answered after a TAKE. -/
def execLrxQuality (h : CmdHdr) (p : List Word) (s : State) : Out := perform (felwin opLrxQuality h p) s

/-- A snapshot of the line quality is asked for. -/
def lrxTake : Eff := upd (.lrx fun x => { x with qTake := true })

/-- LRX_Q_TAKE (R156): a write of 1 to LRX_Q_SNAP.TAKE. -/
def execLrxQTake (m : Mast) (s : State) : Out := perform (byMaster m LRX_Q_SNAP.TAKE 0 lrxTake) s

/-- LRX_Q_SNAP_DONE (R156): the copy completes; waiting LRX_QUALITY commands are answered from it. -/
def execLrxQSnapDone (s : State) : Out := perform (dyn fun s =>
  if !s.lrx.qTake then nop
  else seqE [takeQuality, upd (.lrx fun x => { x with qRuns := [] }), dyn fun t => forE s.lrx.qRuns (fun r => finish r .ok t.qualityWords)]) s

def LRX_CR_CFG.fields : List Fld := [LRX_CR_CFG.SLIP_THR, LRX_CR_CFG.BPS_MIN, LRX_CR_CFG.BPS_N, LRX_CR_CFG.WIN, LRX_CR_CFG.FBW]

/-- A report period in superframes: a power of two of 16 to 4,096 (R161). -/
def periodOk (n : Nat) : Bool := (List.range 9).any (fun k => n == 2 ^ (k + 4))

def opLrxCrSet : OpDef := ⟨0x030A, len 3, cfgStates, fun _ p _ =>
  if !wordOk LRX_CR_CFG.fields (nth p 0) || 12 < nth p 1 || !periodOk (nth p 2) then no .range
  else okE (seqE [putWord LRX_CR_CFG.fields (nth p 0), put LRX_Q_CFG.AVG (nth p 1), put LRX_Q_CFG.REPORT (nth p 2).log2])⟩
/-- LRX_CR_SET (R144, R146, R151, R154, R161). -/
def execLrxCrSet (h : CmdHdr) (p : List Word) (s : State) : Out := perform (felwin opLrxCrSet h p) s

/-- Clears every slip count (Table 4.5). -/
def clearSlips : Eff := fun _ => (List.range 16).flatMap (fun k => [.put LRX_SC_SLIP.OUT k 0, .put LRX_SC_SLIP.TRK k 0])

/-- SLIP_CLR (R174). -/
def execSlipClr (m : Mast) (s : State) : Out := perform (byMaster m LRX_ADAPT_CFG.SLIP_CLR 0 clearSlips) s

/-! ### Adaptation settings -/

/-- TX_EN and RX_EN change (R157, R172): clearing TX_EN abandons an outstanding offer; setting it lets a short result be said again; clearing RX_EN
ends the verification and with it rollback requests. -/
def setAdaptEn (tx rx : Bool) : Eff := dyn fun s => seqE [
  whenE (!tx && s.adapt.offer.isSome) (seqE [upd (.adapt fun a => { a with offer := none }), put LRX_ADAPT_STAT.PHASE 0]),
  whenE (tx && !s.on LRX_ADAPT_CFG.TX_EN) (upd (.adapt fun a => { a with shortSaid := false, lowRun := 0, impRun := 0 })),
  whenE (!rx) (upd (.lrx fun x => { x with verif := 0 })),
  putB LRX_ADAPT_CFG.TX_EN tx, putB LRX_ADAPT_CFG.RX_EN rx]

/-- ADAPT_EN_WRITE (R172): a register write of LRX_ADAPT_CFG's enables. -/
def execAdaptEnWrite (m : Mast) (tx rx : Bool) (s : State) : Out := perform (byMaster m LRX_ADAPT_CFG.TX_EN 0 (setAdaptEn tx rx)) s

def LRX_ADAPT_MARGIN.fields : List Fld := [LRX_ADAPT_MARGIN.TARGET, LRX_ADAPT_MARGIN.FLOOR, LRX_ADAPT_MARGIN.LOW, LRX_ADAPT_MARGIN.GAMMA]
def LRX_ADAPT_TIMERS.fields : List Fld := [LRX_ADAPT_TIMERS.V, LRX_ADAPT_TIMERS.BACKOFF, LRX_ADAPT_TIMERS.MIN_INT]
def LRX_ADAPT_LIMITS.fields : List Fld := [LRX_ADAPT_LIMITS.ROLLBACK, LRX_ADAPT_LIMITS.HYST, LRX_ADAPT_LIMITS.REPLY_TO]

/-- FLOOR from 0 to TARGET, LOW from −20 to TARGET (Table 4.5). -/
def marginsOk (w : Nat) : Bool :=
  let target := LRX_ADAPT_MARGIN.TARGET.raw w
  let low := LRX_ADAPT_MARGIN.LOW.int (LRX_ADAPT_MARGIN.LOW.raw w)
  wordOk LRX_ADAPT_MARGIN.fields w && decide (LRX_ADAPT_MARGIN.FLOOR.raw w ≤ target ∧ -20 ≤ low ∧ low ≤ target)

def opLrxAdaptSet : OpDef := ⟨0x030B, len 4, cfgStates, fun _ p _ =>
  if !marginsOk (nth p 1) || !wordOk LRX_ADAPT_TIMERS.fields (nth p 2) || !wordOk LRX_ADAPT_LIMITS.fields (nth p 3) then no .range
  else okE (seqE [setAdaptEn (bit (nth p 0) 0) (bit (nth p 0) 1), put LRX_ADAPT_CFG.HITLESS (bits (nth p 0) 2 1), whenE (bit (nth p 0) 3) clearSlips,
    putWord LRX_ADAPT_MARGIN.fields (nth p 1), putWord LRX_ADAPT_TIMERS.fields (nth p 2), putWord LRX_ADAPT_LIMITS.fields (nth p 3)])⟩
/-- LRX_ADAPT_SET (R157, R164, R165, R168, R170). -/
def execLrxAdaptSet (h : CmdHdr) (p : List Word) (s : State) : Out := perform (felwin opLrxAdaptSet h p) s

/-! ### The receive plan table -/

/-- The outcome of the checks of R158 on a host load: a status where one fails. -/
def State.rplanRefusal (s : State) (id : Nat) (ws : List Nat) : Option Status :=
  if !nativeMode s.rxMode then some .state
  else if !decide (1 ≤ id ∧ id ≤ 127) then some .badParam
  else if s.planProt id then some .state
  else (planCheck s.rxMode s.rxN true id ws).map checkStatus

def opLrxRplanLoad : OpDef := ⟨0x030C, len 17, cfgStates, fun h p s =>
  let ws := loadWords (p.drop 1)
  match s.rplanRefusal (nth p 0) ws with
  | some .noResource => { status := .noResource, pay := fun _ => [shortfall s.rxMode s.rxN ws] }
  | some st => no st
  | none => deferE (upd (.ltx fun x => { x with loads := x.loads ++ [runOf h 0x030C p] }))⟩
/-- LRX_RPLAN_LOAD (R158, R225): answered when the matcher bounds are held. -/
def execLrxRplanLoad (h : CmdHdr) (p : List Word) (s : State) : Out := perform (felwin opLrxRplanLoad h p) s

def opLrxRplanGet : OpDef := ⟨0x030D, len 1, upStates, fun _ p _ =>
  if 7 < nth p 0 then no .badParam else okP nop (fun s => s.word LRX_RPLAN_ID.fields (nth p 0) :: s.rplanWords (nth p 0))⟩
/-- LRX_RPLAN_GET (R173). -/
def execLrxRplanGet (h : CmdHdr) (p : List Word) (s : State) : Out := perform (felwin opLrxRplanGet h p) s

/-! ### Plan computation -/

/-- The greatest entropy from `n` down to 40 that the ratio `v` = 10^(x/10) + 1 carries. -/
def entSearch (v : Nat) : Nat → Option Nat
  | 0 => none
  | n + 1 => if n + 1 < 40 then none else if entPow (n + 1) ≤ v then some (n + 1) else entSearch v n

/-- e_max of R162, SNR in 0.01 dB, Γ and margin in 0.1 dB. -/
def eMax (snr gamma t : Nat) : Nat :=
  let v := ratioOf ((snr : Int) - 10 * gamma - 10 * t) + 2 ^ 64
  match entSearch v 128 with
  | some e => e
  | none => if entPow 32 ≤ v then 32 else if entPow 16 ≤ v then 16 else 0

/-- The entropies at margin `t`: 0 for a subcarrier disabled in the active plan or not measured (R162). -/
def entsAt (snr : List Nat) (active : List Nat) (scs : List Nat) (gamma t : Nat) : List Nat :=
  (List.range 16).map (fun k => if scs.contains k && scEn (active.getD k 0) && snr.getD k 0xFFFF != 0xFFFF then eMax (snr.getD k 0) gamma t else 0)

/-- ΣE of entropies. -/
def sumEnts (es : List Nat) : Nat := es.foldl (· + ·) 0

/-- compute of R162 from margin `floor + n` down to `floor`: the entropies and the margin, or none where the result is short. -/
def computeDown (snr active scs : List Nat) (gamma wmin : Nat) (hitless : Bool) (floor : Nat) : Nat → Option (List Nat × Nat)
  | 0 => let es := entsAt snr active scs gamma floor
    if (hitless && scs.any (fun k => scEn (active.getD k 0) && es.getD k 0 == 0)) || sumEnts es < wmin then none else some (es, floor)
  | n + 1 => let es := entsAt snr active scs gamma (floor + n + 1)
    if (hitless && scs.any (fun k => scEn (active.getD k 0) && es.getD k 0 == 0)) || sumEnts es < wmin then computeDown snr active scs gamma wmin hitless floor n
    else some (es, floor + n + 1)

/-- The candidate of the latest report. -/
def State.candidate (s : State) (r : Report) : Option (List Nat × Nat) :=
  let floor := s.rd LRX_ADAPT_MARGIN.FLOOR
  computeDown r.snr (s.bankWords 0) (modeScs s.txMode s.txN) (s.rd LRX_ADAPT_MARGIN.GAMMA) (wMin s.txMode s.txN) (s.on LRX_ADAPT_CFG.HITLESS) floor (100 - floor)

/-- plan_from (R163): the entry words of entropies. -/
def planFrom (es : List Nat) : List Nat := (List.range 16).map (fun k => if es.getD k 0 = 0 then 0 else scWord (constOfE (es.getD k 0)) (es.getD k 0))

/-- The identifier the next plan takes (R163): the first after the last assigned, cyclically through 128 to 254, that is not the
active, pending or previous plan. -/
def State.nextPlanId (s : State) : Nat :=
  let used := [s.rd LTX_PLAN_HDR.PLAN_ID 0, s.adapt.prevId] ++ (if s.on LTX_STATUS.PLAN_PENDING then [s.rd LTX_PLAN_HDR.PLAN_ID 1] else [])
  (((List.range 127).map (fun k => 128 + (s.adapt.lastId + 1 - 128 + k) % 127)).find? (fun i => !used.contains i)).getD 128

/-- W_min − ΣE at the floor (ADAPT_SHORT). -/
def State.shortBy (s : State) (r : Report) : Nat :=
  w32 ((wMin s.txMode s.txN : Int) - (sumEnts (entsAt r.snr (s.bankWords 0) (modeScs s.txMode s.txN) (s.rd LRX_ADAPT_MARGIN.GAMMA) (s.rd LRX_ADAPT_MARGIN.FLOOR)) : Int))

/-! ### Offers -/

/-- An adaptation message of type `t`: TYPE, SEQ and length in its first word, payload, CRC-32C (R160). It is queued, stuffed and
with its flag, for the adaptation channel of the frames sent (R252); while no frame is sent it is not (log entry 154). -/
def adaptMsg (t seq : Nat) (pay : List Nat) : Eff := dyn fun s =>
  let ws := (t + 256 * (seq % 256) + 65536 * pay.length) :: pay
  let all := ws ++ [crc32cWords ws]
  whenE (s.sending && nativeMode s.txMode) (seqE [emit (.adapt all), upd (.adapt fun a => { a with out := a.out ++ stuffed (all.flatMap wordBytes) ++ [0x7E] })])

/-- The SEQ of the next message is used up. -/
def nextSeq : Eff := upd (.adapt fun a => { a with nextSeq := (a.nextSeq + 1) % 256 })

/-- The words of an OFFER (Table 4.1). -/
def State.offerPay (s : State) (o : Offer) : List Nat := [o.id, s.rd LTX_PLAN_HDR.PLAN_ID 0] ++ o.words ++ [sumE o.words]

/-- No offer is made while one is outstanding, in the back-off, or while a change is pending or within its verification window (R165, R170), nor by
a paired unit that is not ACTIVE (R525). -/
def State.mayOffer (s : State) : Bool :=
  s.on LRX_ADAPT_CFG.TX_EN && s.adapt.offer.isNone && !s.adapt.backoff && !s.adapt.committed && !s.adapt.verify && !s.on LTX_STATUS.PLAN_PENDING && !s.quiet

/-- Offers a computed plan (Table 4.2, step 1). -/
def sendOffer (es : List Nat) (t : Nat) (urgent : Bool) : Eff := dyn fun s =>
  let o : Offer := ⟨s.adapt.nextSeq, s.nextPlanId, planFrom es, t, 0⟩
  seqE [upd (.adapt fun a => { a with offer := some o, lastId := o.id }), nextSeq,
    put LRX_ADAPT_STAT.PHASE 1, put LRX_ADAPT_STAT.LAST_PLAN o.id, put LRX_ADAPT_STAT.OFFER_SEQ o.seq,
    adaptMsg 2 o.seq (s.offerPay o), raise EV.PLAN_OFFERED [o.id, t, sumEnts es, b2n urgent]]

/-- The back-off starts (R170). -/
def startBackoff : Eff := dyn fun s => seqE [upd (.adapt fun a => { a with backoff := true, backoffAt := s.tick, offer := none }),
  put LRX_ADAPT_STAT.PHASE 4, put LRX_ADAPT_STAT.BACKOFF_LEFT (sat 255 (s.rd LRX_ADAPT_TIMERS.BACKOFF))]

/-- PHASE as what still runs gives it. -/
def State.phaseOf (s : State) : Nat :=
  if s.adapt.offer.isSome then 1 else if s.adapt.committed then 2 else if s.adapt.verify then 3 else if s.adapt.backoff then 4
  else if s.adapt.silent then 5 else 0

/-- Whether the minimum interval since the last applied change has elapsed (R165). -/
def State.intervalOver (s : State) : Bool :=
  match s.adapt.appliedAt with
  | none => true
  | some t => decide (s.rd LRX_ADAPT_TIMERS.MIN_INT * 25000000000 ≤ (s.tick - t) * 32)

/-- A message arrives only while the line received is in frame without LOF (R252); one that fails its CRC is discarded and counted (R160). -/
def ifCrc (ok : Bool) (e : Eff) : Eff := dyn fun s => whenE (s.inFrame && !s.defect 3 0) (if ok then e else upd (.lrx fun x => { x with adaptDrop := x.adaptDrop + 1 }))

/-- What the transmitter does with a fresh report (R162 to R165). -/
def judgeReport (r : Report) : Eff := dyn fun s =>
  let measured := r.margin != 0x8000
  let lm := ofPat 16 r.margin
  let cand := s.candidate r
  let low := if measured && decide (lm < 10 * s.rdI LRX_ADAPT_MARGIN.LOW) then s.adapt.lowRun + 1 else 0
  let imp := match cand with
    | some (_, t) => if measured && decide ((10 * s.rd LRX_ADAPT_LIMITS.HYST : Int) ≤ 10 * (t : Int) - lm) then s.adapt.impRun + 1 else 0
    | none => 0
  seqE [upd (.adapt fun a => { a with lowRun := low, impRun := imp }),
    match cand with
    | none => whenE (!s.adapt.shortSaid) (seqE [upd (.adapt fun a => { a with shortSaid := true }), raise EV.ADAPT_SHORT [s.shortBy r]])
    | some (es, t) => seqE [upd (.adapt fun a => { a with shortSaid := false }),
        if s.mayOffer && decide (2 ≤ low) then sendOffer es t true
        else whenE (s.mayOffer && decide (4 ≤ imp) && s.intervalOver) (sendOffer es t false)]]

/-- SNR_REPORT received (R161, R164, R165): stored, the far SNRs kept, and judged while TX_EN is 1 in a native mode. -/
def execSnrReport (crcOk : Bool) (plan : BitVec 8) (dd : BitVec 16) (snr : List (BitVec 16)) (margin : BitVec 16) (uncorr : Word) (s : State) : Out :=
  perform (ifCrc crcOk (
    let r : Report := ⟨plan.toNat, (List.range 16).map (fun k => (snr.getD k 0xFFFF).toNat), margin.toNat⟩
    seqE [upd (.adapt fun a => { a with report := some r, silent := false }),
      upd (.lrx fun x => { x with farNow := (List.range 16).foldl (fun t k => Tab.set 0 t k (r.snr.getD k 0)) [] }),
      dyn fun s => seqE [put LRX_ADAPT_STAT.PHASE s.phaseOf, whenE (s.on LRX_ADAPT_CFG.TX_EN && nativeMode s.txMode) (judgeReport r)]])) s

/-- SNR_REPORT_SEND (R161): the report period ends; with RX_EN at 1 the receiver reports (Table 4.1). During verification a line margin
below 0 dB asks for a rollback, by R168. -/
def execSnrReportSend (s : State) : Out := perform (dyn fun s =>
  if !s.on LRX_ADAPT_CFG.RX_EN || !nativeMode s.rxMode || s.quiet then nop
  else seqE [adaptMsg 1 s.adapt.nextSeq ([s.lrx.act, s.rd LRX_STATUS.SC_DD] ++ (List.range 16).map (fun k => (s.lrx.sc k).snr) ++ [s.lrx.margin, s.lrx.uncorrRep]),
    nextSeq, upd (.lrx fun x => { x with uncorrRep := 0 }),
    dyn fun s => whenE (s.lrx.verif != 0 && !s.lrx.rollSent && s.lrx.margin != 0x8000 && decide (ofPat 16 s.lrx.margin < 0))
      (seqE [adaptMsg 5 s.adapt.nextSeq [s.lrx.act, s.lrx.prev.getD 0, 3], nextSeq, upd (.lrx fun x => { x with rollSent := true })])]) s

/-- REPORT_STALE (R161, R171): two report periods without a newer report. -/
def execReportStale (s : State) : Out := perform (dyn fun s =>
  if s.adapt.report.isNone then nop
  else seqE [upd (.adapt fun a => { a with report := none, lowRun := 0, impRun := 0 }),
    whenE (s.on LRX_ADAPT_CFG.TX_EN) (seqE [raise EV.ADAPT_SILENT [2], upd (.adapt fun a => { a with silent := true }), dyn fun t => put LRX_ADAPT_STAT.PHASE t.phaseOf])]) s

/-- The answer to an offer (R166): none to hold it, else the reason of REFUSE; and whether the plan is to be stored. -/
def State.judgeOffer (s : State) (id : Nat) (ws : List Nat) : Option Nat × Bool :=
  if !s.on LRX_ADAPT_CFG.RX_EN then (some 1, false)
  else if (planCheck s.rxMode s.rxN false id ws).isSome then (some 2, false)
  else
    let armedOther := match s.lrx.armed with | some (a, _) => a != id | none => false
    let verOther := s.lrx.verif != 0 && s.lrx.act != id
    if s.heldWords id = some ws then (if armedOther || verOther then (some 3, false) else (none, false))
    else if s.lrx.armed.isSome || s.lrx.verif != 0 then (some 3, false)
    else if s.planProt id then (some 4, false)
    else (none, true)

/-- OFFER received (R166): HELD or REFUSE. -/
def execOffer (crcOk : Bool) (seq id prev : BitVec 8) (words : List Word) (s : State) : Out := perform (ifCrc crcOk (dyn fun s =>
  let ws := loadWords ((List.range 16).map (fun k => (words.getD k 0).toNat))
  match s.judgeOffer id.toNat ws with
  | (some reason, _) => seqE [adaptMsg 4 s.adapt.nextSeq [seq.toNat, id.toNat, reason], nextSeq]
  | (none, store) => seqE [whenE store (storePlan id.toNat ws), adaptMsg 3 s.adapt.nextSeq [seq.toNat, id.toNat], nextSeq])) s

/-- Writes the shadow and commits a plan of adaptation's own; the status of a refusal (R167). -/
def State.localRefusal (s : State) (id : Nat) (ws : List Nat) : Option Status :=
  if s.on LTX_STATUS.PLAN_PENDING then some .state else (planCheck s.txMode s.txN false id ws).map checkStatus

/-- HELD received (R167): for the outstanding offer the transmitter writes its shadow and commits; a local refusal ends the offer. -/
def execHeld (crcOk : Bool) (seq id : BitVec 8) (s : State) : Out := perform (ifCrc crcOk (dyn fun s =>
  match s.adapt.offer with
  | none => nop
  | some o =>
    if o.seq ≠ seq.toNat ∨ o.id ≠ id.toNat then nop
    else match s.localRefusal o.id o.words with
    | some st => seqE [raise EV.PLAN_REFUSED [o.id, 5, st.code], startBackoff]
    | none => seqE [putBank 1 o.id o.words, setChk, upd (.adapt fun a => { a with offer := none, committed := true }), put LRX_ADAPT_STAT.PHASE 2, commitPlan])) s

/-- REFUSE received (R170). -/
def execRefuse (crcOk : Bool) (seq id reason : BitVec 8) (s : State) : Out := perform (ifCrc crcOk (dyn fun s =>
  match s.adapt.offer with
  | some o => whenE (o.seq == seq.toNat) (seqE [raise EV.PLAN_REFUSED [id.toNat, reason.toNat], startBackoff])
  | none => nop)) s

/-- The words of the plan to return to, where the transmitter holds them (R169). -/
def State.returnWords (s : State) (id : Nat) : Option (List Nat) :=
  if id = s.rd LTX_PLAN_HDR.PLAN_ID 0 then some (s.bankWords 0) else if id = s.adapt.prevId && !s.adapt.prevWords.isEmpty then some s.adapt.prevWords
  else if id = 0 then some (plan0 s.txMode s.txN) else none

/-- ROLLBACK_REQ received (R169): a pending change is cancelled if it still can be, else completes; then the plan to return to is
committed. A request naming another plan is ignored and counted. -/
def execRollbackReq (crcOk : Bool) (leave ret reason : BitVec 8) (s : State) : Out := perform (ifCrc crcOk (dyn fun s =>
  let names := leave.toNat == s.rd LTX_PLAN_HDR.PLAN_ID 0 || (s.on LTX_STATUS.PLAN_PENDING && leave.toNat == s.rd LTX_PLAN_HDR.PLAN_ID 1)
  match names, s.returnWords ret.toNat with
  | true, some ws => seqE [whenE s.cancelOk cancelPlan,
      upd (.adapt fun a => { a with verify := false, rollTo := some (ret.toNat, ws) }), startBackoff, commitReturn,
      raise EV.PLAN_ROLLBACK [leave.toNat, ret.toNat, reason.toNat]]
  | _, _ => upd (.adapt fun a => { a with ignored := a.ignored + 1 }))) s

/-- OFFER_REPLY_TIMEOUT (R170): the offer is sent again, at most three times, then abandoned. -/
def execOfferReplyTimeout (s : State) : Out := perform (dyn fun s =>
  match s.adapt.offer with
  | none => nop
  | some o =>
    if o.resends < 3 then seqE [adaptMsg 2 o.seq (s.offerPay o), upd (.adapt fun a => { a with offer := some { o with resends := o.resends + 1 } })]
    else seqE [raise EV.ADAPT_SILENT [1], startBackoff]) s

/-- ADAPT_BACKOFF_END (R170). -/
def execAdaptBackoffEnd (s : State) : Out := perform (dyn fun s => whenE s.adapt.backoff (seqE [
  upd (.adapt fun a => { a with backoff := false }), put LRX_ADAPT_STAT.BACKOFF_LEFT 0, dyn fun s => put LRX_ADAPT_STAT.PHASE s.phaseOf])) s

/-- VERIFY_END (R167, Table 4.2): the transmitter's verification window and the reply timeout have passed. -/
def execVerifyEnd (s : State) : Out := perform (dyn fun s => whenE s.adapt.verify (seqE [
  upd (.adapt fun a => { a with verify := false }), dyn fun s => put LRX_ADAPT_STAT.PHASE s.phaseOf])) s

def opLrxAdaptNow : OpDef := ⟨0x030E, len 1, [3, 4], fun _ p s =>
  if 1 < nth p 0 then no .badParam
  else match nativeMode s.txMode, s.adapt.report with
  | true, some r =>
    match s.candidate r with
    | none => { status := .noResource, pay := fun _ => [s.shortBy r] }
    | some (es, t) =>
      let id := s.nextPlanId
      if nth p 0 == 1 && !s.mayOffer then no .state
      else okP (whenE (nth p 0 == 1) (sendOffer es t false)) (fun _ => [id] ++ planFrom es ++ [t, sumEnts es])
  | _, _ => no .state⟩
/-- LRX_ADAPT_NOW (R163, R164): computes a candidate from the fresh report, and offers it on request. -/
def execLrxAdaptNow (h : CmdHdr) (p : List Word) (s : State) : Out := perform (felwin opLrxAdaptNow h p) s

end Sys2Proof.Machine
end

