-- ==== Sys2Proof/Machine/Fec.lean ====
section
/-!
DEFINITION. Forward error correction: its commands, the blocks it encodes and decodes, its counters and thresholds (R225 to R247).
-/
namespace Sys2Proof.Machine
open Sys2Proof

/-! ### Counters and thresholds -/

/-- The index of counter `c` of Table 6.4 for decoder `k` (Table 16.1): 0 BLOCKS, 1 BITS, 2 ERRS, 3 ERAS, 4 UNCORR, 5 DMFAIL, 6 ITERSUM. -/
def fecCnt (k c : Nat) : Nat := 128 + 8 * k + c

/-- Every FEC counter goes to 0 (R246, R584). -/
def fecCntClr : Eff := fun _ => (List.range 16).flatMap (fun k => (List.range 7).map (fun c => .preset (fecCnt k c) 0))

/-- DEC_ACT and INTEROP follow the receive mode and the active plan (R228, Table 6.8). -/
def State.decAct (s : State) : Nat := s.rxScs.foldl (fun a k => a + 2 ^ k) 0

/-- FEC_STATUS. -/
def State.fecStatus (s : State) : Nat := s.decAct + 65536 * s.rd FEC_STATUS.DEG + 131072 * b2n (interopMode s.rxMode)

/-- The exponent of a bit error ratio: the least `e` up to 15 with errs / bits at least 10 × 10^−(e+1) (Table 6.8). -/
def berExp (errs bits : Nat) : Nat := ((List.range 16).find? (fun e => decide (bits ≤ errs * 10 ^ e))).getD 15

/-- MANT of a bit error ratio, rounded down (log entry 14: the spec states no rounding); 0 for no errors. -/
def berMant (errs bits : Nat) : Nat := if bits = 0 then 0 else errs * 10 ^ (berExp errs bits + 1) / bits

/-- Whether errs / bits exceeds MANT × 10^−(EXP+1). -/
def berAbove (errs bits mant exp : Nat) : Bool := decide (mant * bits < errs * 10 ^ (exp + 1))

/-- The FEC part of a performance-monitoring second (R241). -/
def fecSecond : Eff := dyn fun s =>
  let f := s.fec
  let hi := berAbove f.secErrs f.secBits (s.rd FEC_DEG_SET.MANT) (s.rd FEC_DEG_SET.EXP)
  let lo := !berAbove f.secErrs f.secBits (s.rd FEC_DEG_CLR.MANT) (s.rd FEC_DEG_CLR.EXP)
  let setRun := if f.secBits = 0 then f.setRun else if hi then f.setRun + 1 else 0
  let clrRun := if f.secBits = 0 then f.clrRun else if lo then f.clrRun + 1 else 0
  let n := s.rd FEC_DEG_SET.N
  let none := decide (f.secBits = 0 ∨ f.secErrs = 0)
  seqE [put FEC_SEC_BER.MANT (if none then 0 else berMant f.secErrs f.secBits), put FEC_SEC_BER.EXP (if none then 0 else berExp f.secErrs f.secBits),
    upd (.fec fun f => { f with secBits := 0, secErrs := 0, secUncorr := 0, secDm := 0, lastUncorr := f.secUncorr, lastDm := f.secDm, setRun := setRun, clrRun := clrRun }),
    dyn fun t =>
      let word := t.word [FEC_SEC_BER.MANT, FEC_SEC_BER.EXP]
      if !s.on FEC_STATUS.DEG && decide (n ≤ setRun) then seqE [put FEC_STATUS.DEG 1, upd (.fec fun f => { f with clrRun := 0 }), raise EV.FEC_DEG [word]]
      else whenE (s.on FEC_STATUS.DEG && decide (n ≤ clrRun)) (seqE [put FEC_STATUS.DEG 0, upd (.fec fun f => { f with setRun := 0 }), raise EV.FEC_DEG_CLEAR [word]])]

/-! ### Commands -/

def FEC_DEC_CFG.fields : List Fld := [FEC_DEC_CFG.ITER_MAX, FEC_DEC_CFG.NORM, FEC_DEC_CFG.SD_ITER, FEC_DEC_CFG.HD_ITER, FEC_DEC_CFG.STC_ITER]
def FEC_DEG_SET.fields : List Fld := [FEC_DEG_SET.MANT, FEC_DEG_SET.EXP, FEC_DEG_SET.N]
def FEC_DEG_CLR.fields : List Fld := [FEC_DEG_CLR.MANT, FEC_DEG_CLR.EXP]
def FEC_INJ.fields : List Fld := [FEC_INJ.MODE, FEC_INJ.RATE, FEC_INJ.SC_MASK]

/-- Whether threshold MANT × 10^−(EXP+1) is at most the other (R241). -/
def degLe (mant exp mant' exp' : Nat) : Bool := decide (mant * 10 ^ (exp' + 1) ≤ mant' * 10 ^ (exp + 1))

/-- Whether a clear threshold word is at most a set threshold word. -/
def degWordsOk (set clr : Nat) : Bool := degLe (FEC_DEG_CLR.MANT.raw clr) (FEC_DEG_CLR.EXP.raw clr) (FEC_DEG_SET.MANT.raw set) (FEC_DEG_SET.EXP.raw set)

def opFecCfg : OpDef := ⟨0x0501, len 5, cfgStates, fun _ p _ =>
  if !wordOk FEC_DEC_CFG.fields (nth p 1) || !wordOk [FEC_LLR_CFG.GAIN] (nth p 2) || !wordOk FEC_DEG_SET.fields (nth p 3) || !wordOk FEC_DEG_CLR.fields (nth p 4) ||
    !degWordsOk (nth p 3) (nth p 4) then no .range
  else okE (seqE [putWord [FEC_CTRL.EARLY_STOP] (nth p 0), putWord FEC_DEC_CFG.fields (nth p 1), putWord [FEC_LLR_CFG.GAIN] (nth p 2),
    putWord FEC_DEG_SET.fields (nth p 3), putWord FEC_DEG_CLR.fields (nth p 4), whenE (bit (nth p 0) 0) fecCntClr])⟩
/-- FEC_CFG (R241, R244): control, decoder, LLR and degrade settings; a clear threshold above the set threshold is refused. -/
def execFecCfg (h : CmdHdr) (p : List Word) (s : State) : Out := perform (felwin opFecCfg h p) s

def opFecStatus : OpDef := ⟨0x0502, len 0, upStates, fun _ _ _ => okP nop (fun s =>
  [s.fecStatus, s.word [FEC_SEC_BER.MANT, FEC_SEC_BER.EXP], s.fec.lastUncorr, s.fec.lastDm])⟩
/-- FEC_STATUS (R244). -/
def execFecStatus (h : CmdHdr) (p : List Word) (s : State) : Out := perform (felwin opFecStatus h p) s

def opFecCounters : OpDef := ⟨0x0503, len 1, cfgStates, fun _ p _ =>
  if 65535 < nth p 0 then no .badParam
  else okP (upd .snap) (fun s => s.snapGen :: (bitsSet 16 (nth p 0)).flatMap (fun k => (List.range 7).flatMap (fun c =>
    w64 (s.cnt (fecCnt k c) + Tab.get 0 s.wraps (fecCnt k c) * 2 ^ 48))))⟩
/-- FEC_COUNTERS (R244, R583): its own snapshot, which leaves the register bank. -/
def execFecCounters (h : CmdHdr) (p : List Word) (s : State) : Out := perform (felwin opFecCounters h p) s

/-- A write of 1 to ONE_SHOT (R243): in MAINT and MODE 2, the next block of each selected subcarrier is to be corrupted. -/
def oneShot : Eff := dyn fun s => whenE (s.dev == 4 && s.rd FEC_INJ.MODE == 2) (upd (.fec fun f => { f with shot := s.rd FEC_INJ.SC_MASK, shotDue := s.rd FEC_INJ.SC_MASK }))

/-- Leaving MAINT turns injection off (R243). -/
def leaveInject : Eff := seqE [put FEC_INJ.MODE 0, upd (.fec fun f => { f with shot := 0, shotDue := 0 })]

def opFecInject : OpDef := ⟨0x0504, len 1, [4], fun _ p _ =>
  if !wordOk FEC_INJ.fields (nth p 0) then no .range
  else okE (seqE [putWord FEC_INJ.fields (nth p 0), whenE (bit (nth p 0) 21) oneShot])⟩
/-- FEC_INJECT (R243): legal in MAINT alone. -/
def execFecInject (h : CmdHdr) (p : List Word) (s : State) : Out := perform (felwin opFecInject h p) s

/-- The words of plan `id` as the transmitter holds it: the active plan or the shadow. -/
def State.txHeld (s : State) (id : Nat) : Option (List Nat) :=
  if !nativeMode s.txMode then none
  else if s.rd LTX_PLAN_HDR.PLAN_ID 0 == id then some (s.bankWords 0)
  else if s.rd LTX_PLAN_HDR.PLAN_ID 1 == id then some (s.bankWords 1) else none

/-- The geometry of block `j` for an entry word (R221 to R224). -/
def geometry (w j : Nat) : List Nat :=
  let c := scConst w
  let e := scEnt w
  let l := blkLen e j
  [blkStart e j, l, blkBits c l, ampNet c l, if shaped c e then matchB (ampLevels c) (4 * l) (ampNet c l) else 0]

def opFecGeometry : OpDef := ⟨0x0505, len 4, upStates, fun _ p s =>
  match if nth p 1 = 0 then s.txHeld (nth p 0) else if nth p 1 = 1 then s.heldWords (nth p 0) else none with
  | none => no .badParam
  | some ws => if nth p 2 < 16 ∧ scEn (ws.getD (nth p 2) 0) then okP nop (fun _ => geometry (ws.getD (nth p 2) 0) (nth p 3)) else no .badParam⟩
/-- FEC_GEOMETRY (R244): answered from the bounds held; a plan that is not held returns BAD_PARAM. -/
def execFecGeometry (h : CmdHdr) (p : List Word) (s : State) : Out := perform (felwin opFecGeometry h p) s

/-- FEC_CNT_CLR (R246): a write of 1 to FEC_CTRL.CNT_CLR; the sandbox's is ignored (R585). -/
def execFecCntClr (m : Mast) (s : State) : Out := perform (byMaster m FEC_CTRL.CNT_CLR 0 fecCntClr) s

/-- FEC_ONE_SHOT (R243): a write of 1 to FEC_INJ.ONE_SHOT. -/
def execFecOneShot (m : Mast) (s : State) : Out := perform (byMaster m FEC_INJ.ONE_SHOT 0 oneShot) s

/-- FEC_INJ_DONE (R243): the one-shot injection has corrupted its blocks. -/
def execFecInjDone (s : State) : Out := perform (dyn fun s =>
  whenE (s.fec.shot != 0) (seqE [upd (.fec fun f => { f with shot := 0, shotDue := 0 }), raise EV.FEC_INJ_DONE [s.fec.shot]])) s

/-! ### Block order -/

/-- Filler positions are passed until one carries a block (R58), by accumulator and blocks taken; at most `fuel` of them. -/
def passFiller (ws : List Nat) (fits : Nat → Nat → Bool) (r : Nat) : Nat → Nat × Tab Nat → Nat × Tab Nat
  | 0, p => p
  | fuel + 1, (acc, blk) =>
    match nextPosOf ws blk fits with
    | none => (acc, blk)
    | some k => if 2 ^ 32 ≤ acc + r then (acc, blk) else passFiller ws fits r fuel ((acc + r) % 2 ^ 32, Tab.set 0 blk k (Tab.get 0 blk k + 1))

/-- The position of the next block of the stream (R57, R58): its subcarrier and block index, and accumulator and blocks taken after it. -/
def takePos (ws : List Nat) (fits : Nat → Nat → Bool) (r : Nat) (acc : Nat) (blk : Tab Nat) : Option (Nat × Nat × Nat × Tab Nat) :=
  let p := passFiller ws fits r 64 (acc, blk)
  (nextPosOf ws p.2 fits).map (fun k => (k, Tab.get 0 p.2 k, (p.1 + r) % 2 ^ 32, Tab.set 0 p.2 k (Tab.get 0 p.2 k + 1)))

/-! ### Encoding -/

/-- The sign bits after injection (R243): MODE 1 flips each with probability 10^−RATE, at places the spec does not fix; the one-shot
flips every fifth. -/
def inject (rate : Bool) (flips : Nat) (shot : Bool) (signs : List Bool) : List Bool :=
  (signs.zip (List.range signs.length)).map (fun p => (p.1 != (rate && bit flips p.2)) != (shot && p.2 % 5 == 4))

/-- Whether MODE 1 and whether the one-shot corrupts the next block of subcarrier `k` (R243). -/
def State.injRate (s : State) (k : Nat) : Bool := s.dev == 4 && s.rd FEC_INJ.MODE == 1 && bit (s.rd FEC_INJ.SC_MASK) k
def State.injShot (s : State) (k : Nat) : Bool := s.dev == 4 && bit s.fec.shotDue k

/-- The injection of a block of subcarrier `k` is used up. -/
def injected (k : Nat) : Eff := dyn fun s => seqE [whenE (s.injRate k) drawn, whenE (s.injShot k) (upd (.fec fun f => { f with shotDue := clrBit f.shotDue k }))]

/-- The levels of block `j` of subcarrier `k` (R223): assembled, matched, encoded, with injected errors where selected. -/
def State.blockLevels (s : State) (k j : Nat) (net : List Bool) : List Int :=
  let w := (s.bankWords 0).getD k 0
  let c := scConst w
  let e := scEnt w
  blkLevels c (inject (s.injRate k) (s.free 20) (s.injShot k) (blkSigns c e (blkLen e j) net)) (blkAmps c e (blkLen e j) net)

/-- The levels of a block of an interoperable mode (R226 to R228): the ganged encoder's, with injected errors on the signs of the carrier, bit 0 of
SC_MASK. -/
def State.carrierLevels (s : State) (net : List Bool) : List Int :=
  let ls := Config.interopEncode s.txMode net
  (ls.zip (inject (s.injRate 0) (s.free 20) (s.injShot 0) (ls.map (fun x => decide (x < 0))))).map (fun p => if p.2 then -(p.1.natAbs : Int) else p.1.natAbs)

/-- FEC_BLOCK_ENCODE (R28, R29, R57, R58, R74, R223, R228): the next net bits of the framer's stream, 42,000 in native modes, become the block of the next
position that carries one, unless it would not end before a pending plan change. With the buffer of that many units `held` full the block is discarded
whole and counted. -/
def execFecBlockEncode (net : List Bool) (held : Nat) (s : State) : Out := perform (dyn fun s =>
  if !(s.sending && (interopMode s.txMode || (nativeMode s.txMode && net.length == 42000))) then nop
  else if bufCap ≤ held then count 34
  else if interopMode s.txMode then seqE [emit (.block 0 (Tab.get 0 s.ltx.blk 0) (s.carrierLevels net)), injected 0,
    upd (.ltx fun x => { x with blk := Tab.set 0 x.blk 0 (Tab.get 0 x.blk 0 + 1) })]
  else match takePos (s.bankWords 0) (fitsIn s.payloadEnd) (rho (otucOf s.txMode s.txN) (sumE (s.bankWords 0))) s.ltx.acc s.ltx.blk with
  | none => nop
  | some (k, j, acc, blk) => seqE [emit (.block k j (s.blockLevels k j net)), injected k, upd (.ltx fun x => { x with acc := acc, blk := blk })]) s

/-! ### Decoding -/

/-- One decoded block's counts (R239): the counters of decoder `k`, the second's sums and the superframe's increments. -/
def countBlock (k nz errs eras iters : Nat) (uncorr dm : Bool) : Eff := seqE [
  count (fecCnt k 0), count (fecCnt k 1) nz, count (fecCnt k 2) errs, count (fecCnt k 3) eras, whenE uncorr (count (fecCnt k 4)),
  whenE dm (count (fecCnt k 5)), count (fecCnt k 6) iters,
  upd (.fec fun f => { f with secBits := f.secBits + nz, secErrs := f.secErrs + errs, secUncorr := f.secUncorr + b2n uncorr, secDm := f.secDm + b2n dm }),
  upd (.lrx fun x => { x with
    uncorrSF := if uncorr then Tab.set 0 x.uncorrSF k (Tab.get 0 x.uncorrSF k + 1) else x.uncorrSF,
    dmSF := if dm then Tab.set 0 x.dmSF k (Tab.get 0 x.dmSF k + 1) else x.dmSF,
    verUncorr := x.verUncorr + b2n uncorr, uncorrRep := x.uncorrRep + b2n uncorr })]

/-- Bits with non-zero soft input whose hard decision differs from the released one: 0 is the likelier value where the soft word is
positive (R229, R239). -/
def errBits (soft : List Int) (hard : List Bool) : Nat :=
  ((soft.zip hard).filter (fun p => p.1 != 0 && decide (p.1 < 0) != p.2)).length

/-- The symbol on the complex plane after the blind phase search (R146): of `n` test phases over ±π/4, that at which the symbols about it lie nearest to
points of the constellation. -/
def phaseSearch (c unit n half : Nat) (zs : List Cpx) (i : Nat) : Cpx :=
  let near := (zs.drop (i - half)).take (half + i + 1 - (i - half))
  let tests := (List.range n).map (fun (b : Nat) => -8192 + (b : Int) * 16384 / n)
  let cost (p : Int) : Nat := (near.map (fun z => let y := turnBy p z; cNorm (cSub y (decide2 c unit y).1))).foldl (· + ·) 0
  let best := tests.foldl (fun b p => match b with | none => some p | some q => if cost p < cost q then some p else some q) none
  turnBy (best.getD 0) (zs.getD i (0, 0))

/-- The interval between pilots in which payload symbol `q` lies, counted from the restart of the block order, its place in it, and its length. -/
def intervalOf (q : Nat) : Nat × Nat × Nat :=
  let r := q % payloadSyms
  (q / payloadSyms * 16132 + r / 64, r % 64 + 1, if r / 64 = 16131 then 61 else 65)

/-- The output estimate of payload symbol `q` (R146): interpolated between the pilots about it. -/
def State.outPhase (s : State) (k q : Nat) : Int × Int :=
  let (a, o, n) := intervalOf q
  let e := outEst (s.rd LRX_CR_CFG.WIN) (s.lrx.sc k).pil a
  let f := outEst (s.rd LRX_CR_CFG.WIN) (s.lrx.sc k).pil (a + 1)
  ((e.1 * (n - o : Nat) + f.1 * o) / (n : Int), (e.2 * (n - o : Nat) + f.2 * o) / (n : Int))

/-- The symbols of one polarisation after the output phase, refined by the blind phase search at constellations from BPS_MIN on (R146). -/
def State.outSyms (s : State) (k : Nat) (zs : List Cpx) : List Cpx :=
  let c := s.rxConst k
  let n := match s.rd LRX_CR_CFG.BPS_N with | 0 => 0 | b => 4 * 2 ^ b
  if n = 0 ∨ c < s.rd LRX_CR_CFG.BPS_MIN then zs
  else (List.range zs.length).map (phaseSearch c (levelUnit c (scEnt (s.rxEntry k))) n Config.bpsHalf zs)

/-- The received values of block `j` of subcarrier `k`, in 2^-8 level units, in symbol order then dimension order; `ys` are its equalised symbols, XI, XQ,
YI and YQ of each. -/
def State.blockValues (s : State) (k j : Nat) (ys : List Int) : List Int :=
  let c := s.rxConst k
  let e := scEnt (s.rxEntry k)
  let idx := List.range (blkLen e j)
  let at_ (i d : Nat) : Int := ys.getD (4 * i + d) 0
  let xs := s.outSyms k (idx.map (fun i => turnBy (-(s.outPhase k (blkStart e j + i)).1) (at_ i 0, at_ i 1)))
  let vs := s.outSyms k (idx.map (fun i => turnBy (-(s.outPhase k (blkStart e j + i)).2) (at_ i 2, at_ i 3)))
  ((xs.zip vs).flatMap (fun p => if c = 0 then [p.1.1, p.2.1] else [p.1.1, p.1.2, p.2.1, p.2.2])).map (fun v => v * 256 / max 1 (levelUnit c e))

/-- Whether the value of dimension `d` of block `j` lies in an interval that an output slip erased on its polarisation (R151). -/
def State.slipped (s : State) (k j d : Nat) : Bool :=
  let n := if s.rxConst k = 0 then 2 else 4
  let (a, _, _) := intervalOf (blkStart (scEnt (s.rxEntry k)) j + d / n)
  (s.lrx.sc k).erased.contains ((a : Int), decide (n / 2 ≤ d % n))

/-- 1/(2σ²) of subcarrier `k` in level units, in 2^-16, from its averaged SNR (R153, R229; log entry 149). -/
def State.inverseNoise (s : State) (k : Nat) : Nat :=
  (((s.lrx.sc k).avg.getD (0, 0, 0)).1) / 2 ^ 32 / max 1 (meanEnergy (s.rxConst k) (scEnt (s.rxEntry k)))

/-- The soft words of block `j` of subcarrier `k` (R135, R151, R229): zero before LLRs are released, on a subcarrier not in DD, and where erased. -/
def State.softWords (s : State) (k j : Nat) (ys : List Int) : List Int :=
  let e := s.rxEntry k
  let off := !(s.lrx.llr && s.inDD k)
  demap (scConst e) (scEnt e) (blkLen (scEnt e) j) s.fec.gain (s.inverseNoise k) (s.blockValues k j ys) (fun d => off || s.slipped k j d)

/-- The payload symbols from the restart of the receiver's block order to the boundary at which the armed plan takes effect (R59, R77). -/
def State.rxPayloadEnd (s : State) : Option Nat :=
  s.lrx.armed.map (fun p => (s.lrx.sfs + (p.2 + 65536 - s.lrx.sfNum) % 65536) * payloadSyms)

/-- The place of the next block of the receiver's stream (R57, R58, R228): of the carrier, or by the order of the subcarriers. -/
def State.rxPlace (s : State) : Option (Nat × Nat × Nat × Tab Nat) :=
  if interopMode s.rxMode then some (0, Tab.get 0 s.lrx.blk 0, s.lrx.acc, Tab.set 0 s.lrx.blk 0 (Tab.get 0 s.lrx.blk 0 + 1))
  else if nativeMode s.rxMode then takePos s.rxWords (fitsIn s.rxPayloadEnd) (rho (otucOf s.rxMode s.rxN) (sumE s.rxWords)) s.lrx.acc s.lrx.blk
  else none

/-- The decisions on native block `j` of subcarrier `k` at its iterations, and how many were run (R231 to R235). -/
def State.nativeDec (s : State) (k j : Nat) (soft : List Int) : List Bool × Nat :=
  minSum (if s.rd FEC_DEC_CFG.NORM = 0 then 16 else s.rd FEC_DEC_CFG.NORM) (s.rd FEC_DEC_CFG.ITER_MAX)
    (blkBits (s.rxConst k) (blkLen (scEnt (s.rxEntry k)) j) - 6720) (s.on FEC_CTRL.EARLY_STOP) soft

/-- The block checked and inverse-matched (R235, R236). -/
def State.nativeResult (s : State) (k j : Nat) (soft : List Int) : BlkResult :=
  blkResult (s.rxConst k) (scEnt (s.rxEntry k)) (blkLen (scEnt (s.rxEntry k)) j) (s.nativeDec k j soft).1 (s.free 21)

/-- The native block `j` of subcarrier `k`: decoded, checked, inverse-matched and counted (R231, R235, R236, R239). -/
def nativeBlock (k j : Nat) (soft : List Int) : Eff := dyn fun s =>
  let nz := (soft.filter (· != 0)).length
  let d := s.nativeDec k j soft
  let r := s.nativeResult k j soft
  let bad := !r.synOk || r.dmFail
  seqE [whenE r.dmFail drawn, emit (.net k bad r.net), countBlock k nz (errBits soft d.1) (soft.length - nz) d.2 bad r.dmFail]

/-- The decisions of an interoperable mode's decoder at its iterations, of the staircase, or soft (code 0 is 4) and hard; and whether a component syndrome
is left (R226, R227, R237). -/
def State.carrierDec (s : State) (soft : List Int) : List Bool × Bool :=
  Config.interopDecode s.rxMode (if s.rxMode = 6 then [s.rd FEC_DEC_CFG.STC_ITER]
    else [if s.rd FEC_DEC_CFG.SD_ITER = 0 then 4 else s.rd FEC_DEC_CFG.SD_ITER, s.rd FEC_DEC_CFG.HD_ITER]) soft

/-- A block of an interoperable mode. -/
def carrierBlock (soft : List Int) : Eff := dyn fun s =>
  let nz := (soft.filter (· != 0)).length
  let (hard, fail) := s.carrierDec soft
  seqE [emit (.net 0 fail hard), countBlock 0 nz (errBits soft hard) (soft.length - nz) 0 fail false]

/-- The soft words of the block at a place. -/
def State.placeWords (s : State) (k j : Nat) (ys : List Int) : List Int :=
  if interopMode s.rxMode then
    (if s.lrx.llr && s.inDD 0 then Config.interopDemap s.rxMode (s.inverseNoise 0) s.fec.gain ys else ys.map (fun _ => 0))
  else s.softWords k j ys

/-- FEC_BLOCK_DECODE (R28, R29, R57, R58, R229 to R237): the next block of the receiver's stream, its equalised symbols `ys`. With the buffer of that many
units `held` full it is discarded and counted; then, as while not locked, zeros go out marked uncorrectable. With no soft input at all it is not decoded. -/
def execFecBlockDecode (ys : List Int) (held : Nat) (s : State) : Out := perform (dyn fun s =>
  match s.rxPlace with
  | none => nop
  | some (k, j, acc, blk) =>
    let soft := s.placeWords k j ys
    let dead := emit (.net k true (List.replicate (if nativeMode s.rxMode then 42000 else (s.carrierDec soft).1.length) false))
    seqE [upd (.lrx fun x => { x with acc := acc, blk := blk }),
      if demapCap ≤ held then seqE [count 35, dead]
      else if s.stage != 10 then dead
      else if soft.all (· == 0) then seqE [dead, countBlock k 0 0 soft.length 0 true false]
      else if interopMode s.rxMode then carrierBlock soft else nativeBlock k j soft]) s

end Sys2Proof.Machine
end

