-- ==== Sys2Proof/Machine/Framing.lean ====
section
/-!
DEFINITION. Line framing: Dovetail, the defect timers, trail traces, performance monitoring and the overhead channels (R248 to R279).
-/
namespace Sys2Proof.Machine
open Sys2Proof

/-! ### Dovetail -/

/-- L_F: the bits of an OTUCn frame of the receive mode (R248). -/
def State.frameBits (s : State) : Nat := otucOf s.rxMode s.rxN * 122368

/-- Candidates and the state of Table 7.3 follow while out of frame. -/
def setCands (cs : List Cand) (window : Bool) : Eff := seqE [upd (.frm fun f => { f with cands := cs, window := window }),
  put FRM_DOVE_STAT.CANDS cs.length, put FRM_STATUS.DOVE (if window then 2 else if cs.isEmpty then 0 else 1)]

/-- Dovetail is out of frame with no candidate (R257, R259). -/
def dovetailRestart : Eff := dyn fun s => seqE [setCands [] false, put FRM_STATUS.OOF 1, put FRM_STATUS.IM 0, put FRM_DOVE_STAT.BLK_OFS 0,
  upd (.frm fun f => { f with miss := 0, oofAt := if s.inFrame then s.tick else f.oofAt, mfas := none, mfGood := 0, mfBad := 0, rxBip := [] }),
  upd (.cli fun c => { c with egBits := [] }), judgeFill]

/-- EMUL counts `n` more (R256, R258). -/
def emul (n : Nat) : Eff := seqE [whenE (n != 0) (count 256 n), upd (.frm fun f => { f with emulSec := f.emulSec + n })]

/-- Whether an alignment at `blk` bits from its block's start agrees (R256, R275). -/
def State.agrees (s : State) (blk : Nat) (marker : Bool) : Bool := if interopMode s.rxMode then marker else blk % 16 == 0

/-- FAS_DETECT (R254, R258): out of frame a detection at an offset no candidate holds opens one, unless four are open; in frame one at
another offset counts in EMUL. `off` is the offset, `blk` that from its FEC block's start; `marker` says, in an interoperable mode,
whether it stands where the agreement fixes. -/
def execFasDetect (off blk : Nat) (marker : Bool) (s : State) : Out := perform (dyn fun s =>
  let o := if s.frameBits = 0 then off else off % s.frameBits
  if s.rxMode = 0 then nop
  else if s.inFrame then whenE (o != s.frm.inOff) (seqE [emul 1, occur EV.EMULATION 0 [1, blk]])
  else if s.frm.cands.any (fun c => c.off == o) || decide (4 ≤ s.frm.cands.length) then nop
  else setCands (s.frm.cands ++ [⟨o, blk, s.agrees blk marker, 1, s.rd FRM_DOVE_CFG.N, false⟩]) s.frm.window) s

/-- CANDIDATE_CHECK (R255, R256): the candidate at `off` is checked one frame period on: it gains a hit, completes, or is dropped and
counted. The first completion opens the resolution window. -/
def execCandidateCheck (off : Nat) (sees : Bool) (s : State) : Out := perform (dyn fun s =>
  match s.frm.cands.find? (fun c => c.off == off) with
  | none => nop
  | some c =>
    if c.done then nop
    else if !sees then seqE [count 257, setCands (s.frm.cands.filter (fun d => d.off != off)) s.frm.window]
    else
      let done := decide (c.n ≤ c.hits + 1)
      setCands (s.frm.cands.map (fun d => if d.off = off then { d with hits := d.hits + 1, done := done } else d)) (s.frm.window || done)) s

/-- RESOLUTION_WINDOW_END (R256): exactly one completer that agrees wins; otherwise every completer is an emulation and the search
restarts. -/
def execResolutionWindowEnd (s : State) : Out := perform (dyn fun s =>
  let completers := s.frm.cands.filter (·.done)
  if !s.frm.window then nop
  else match completers.filter (·.agree) with
  | [w] => seqE [emul (completers.length - 1), upd (.frm fun f => { f with cands := [], window := false, inOff := w.off, miss := 0 }),
      put FRM_DOVE_STAT.CANDS 0, put FRM_DOVE_STAT.BLK_OFS w.blk, put FRM_STATUS.DOVE 3, put FRM_STATUS.OOF 0,
      raise EV.IN_FRAME [w.blk, (s.tick - s.frm.oofAt) * 32 / 25000], judgeFill]
  | _ => seqE [emul completers.length, dovetailRestart]) s

/-- IN_FRAME_CHECK (R257): the check at the in-frame offset; after M missed in a row Dovetail leaves in-frame. -/
def execInFrameCheck (sees : Bool) (s : State) : Out := perform (dyn fun s =>
  if !s.inFrame then nop
  else if sees then seqE [upd (.frm fun f => { f with miss := 0 }), put FRM_STATUS.DOVE 3]
  else if s.frm.miss + 1 < s.rd FRM_DOVE_CFG.M then seqE [upd (.frm fun f => { f with miss := f.miss + 1 }), put FRM_STATUS.DOVE 4]
  else seqE [count 258, dovetailRestart, raise EV.OUT_OF_FRAME [s.cnt 258 + 1]]) s

/-- FRM_RESYNC (R259): a write of 1 to FRM_CTRL.RESYNC. -/
def execFrmResync (m : Mast) (s : State) : Out := perform (byMaster m FRM_CTRL.RESYNC 0 dovetailRestart) s

/-! ### Defect timers -/

/-- LOS_CLEAR (R261): SIG_PRESENT and no LASER_FAIL have held for LOS_CLR. -/
def execLosClear (s : State) : Out := perform (dyn fun s =>
  whenE (s.on LRX_STATUS.SIG_PRESENT && !s.on LTX_LAS_STAT.FAIL s.loPort) (seqE [clearDefect 1 0, syncLosf])) s
/-- LOF_DECLARE (R261): out of frame for LOF_SET. -/
def execLofDeclare (s : State) : Out := perform (dyn fun s => whenE (!s.inFrame) (seqE [declareDefect 3 0, judgeFill])) s
/-- LOF_CLEAR (R261): in frame for LOF_CLR. -/
def execLofClear (s : State) : Out := perform (dyn fun s => whenE s.inFrame (seqE [clearDefect 3 0, judgeFill])) s
/-- LOM_DECLARE (R261): out of multiframe for 3 ms; there is none in the interoperable modes (R275). -/
def execLomDeclare (s : State) : Out := perform (dyn fun s => whenE (!s.on FRM_STATUS.IM && nativeMode s.rxMode) (seqE [declareDefect 4 0, judgeFill])) s
/-- LOM_CLEAR (R261): in multiframe for 3 ms. -/
def execLomClear (s : State) : Out := perform (dyn fun s => whenE (s.on FRM_STATUS.IM) (seqE [clearDefect 4 0, judgeFill])) s

/-! ### Commands -/

def FRM_DOVE_CFG.fields : List Fld := [FRM_DOVE_CFG.M, FRM_DOVE_CFG.N, FRM_DOVE_CFG.FAS_TOL]
def FRM_DEF_CFG.fields : List Fld := [FRM_DEF_CFG.LOF_SET, FRM_DEF_CFG.LOF_CLR, FRM_DEF_CFG.LOS_CLR]
def FRM_DEG_CFG.fields : List Fld := [FRM_DEG_CFG.SES_THR, FRM_DEG_CFG.DEG_THR, FRM_DEG_CFG.DEG_M]
def FRM_CA_CFG.fields : List Fld := [FRM_CA_CFG.TIM_ACT, FRM_CA_CFG.TIM_MODE]
def FRM_OHC_ROUTE.fields : List Fld := [FRM_OHC_ROUTE.CLIENT, FRM_OHC_ROUTE.RX_DEST, FRM_OHC_ROUTE.TX_SRC]

def opFrmCfg : OpDef := ⟨0x0601, len 4, cfgStates, fun _ p _ =>
  if !wordOk FRM_DOVE_CFG.fields (nth p 0) || !wordOk FRM_DEF_CFG.fields (nth p 1) || !wordOk FRM_DEG_CFG.fields (nth p 2) || !wordOk FRM_CA_CFG.fields (nth p 3) then no .range
  else okE (seqE [putWord FRM_DOVE_CFG.fields (nth p 0), putWord FRM_DEF_CFG.fields (nth p 1), putWord FRM_DEG_CFG.fields (nth p 2), putWord FRM_CA_CFG.fields (nth p 3), judgeFill])⟩
/-- FRM_CFG (R276). -/
def execFrmCfg (h : CmdHdr) (p : List Word) (s : State) : Out := perform (felwin opFrmCfg h p) s

/-- FRM_STATUS: Dovetail's state and the defects (Table 7.9). -/
def State.frmStatus (s : State) : Nat :=
  s.word [FRM_STATUS.DOVE, FRM_STATUS.IM, FRM_STATUS.OOF] + 4096 * b2n (s.defect 10 1) + 2048 * b2n (s.defect 10 0) + 1024 * b2n (s.defect 9 0 || s.defect 9 1) +
  512 * b2n (s.defect 8 1) + 256 * b2n (s.defect 8 0) + 128 * b2n (s.defect 7 1) + 64 * b2n (s.defect 6 1) + 32 * b2n (s.defect 5 1) +
  16 * b2n (s.defect 4 0) + 8 * b2n (s.defect 3 0) + 4 * b2n (s.defect 2 0) + 2 * b2n (s.defect 1 0)

/-- A counter of the register bank as a command returns it (R582). -/
def State.bankWords64 (s : State) (j : Nat) : List Nat := w64 (Tab.get 0 s.bank j)

def opFrmStatus : OpDef := ⟨0x0602, len 0, upStates, fun _ _ _ => okP nop (fun s =>
  [s.frmStatus, s.word [FRM_DOVE_STAT.CANDS, FRM_DOVE_STAT.BLK_OFS]] ++ (List.range 4).flatMap (fun k => s.bankWords64 (256 + k)))⟩
/-- FRM_STATUS (R276); the counts are those of the register bank (R582). -/
def execFrmStatus (h : CmdHdr) (p : List Word) (s : State) : Out := perform (felwin opFrmStatus h p) s

def opFrmPmGet : OpDef := ⟨0x0603, len 2, [3, 4, 5], fun _ p s =>
  if 33 < nth p 0 ∨ nth p 1 = 0 ∨ 900 < nth p 1 then no .range
  else
    let recs := s.frm.recs.take (nth p 1)
    { status := .ok, flags := if recs.length < nth p 1 then 8 else 0,
      pay := fun _ => recs.flatMap (fun r => w64 r.time ++ [r.frames] ++ r.layers.getD (nth p 0) [0, 0, 0, 0]) }⟩
/-- FRM_PM_GET (R270, R276): the most recent records of a layer, newest first, PARTIAL if fewer are held. -/
def execFrmPmGet (h : CmdHdr) (p : List Word) (s : State) : Out := perform (felwin opFrmPmGet h p) s

/-- The bytes of words, lowest first. -/
def bytesOf (ws : List Nat) : List Nat := ws.flatMap wordBytes

def opFrmTtiSet : OpDef := ⟨0x0604, len 33, cfgStates, fun _ p _ =>
  if 1 < nth p 0 then no .badParam
  else okE (upd (.frm fun f => { f with ttiTx := Tab.set [] f.ttiTx (nth p 0) (bytesOf ((p.drop 1).take 16)), ttiExp := Tab.set [] f.ttiExp (nth p 0) (bytesOf ((p.drop 17).take 16)) }))⟩
/-- FRM_TTI_SET (R276): the trace to send and the trace expected of SM or PM. -/
def execFrmTtiSet (h : CmdHdr) (p : List Word) (s : State) : Out := perform (felwin opFrmTtiSet h p) s

/-- Layer `l`. -/
def FrmSt.layer (f : FrmSt) (l : Nat) : Layer := Tab.get {} f.layers l

def opFrmTtiGet : OpDef := ⟨0x0605, len 1, upStates, fun _ p _ =>
  if 1 < nth p 0 then no .badParam
  else okP nop (fun s => packBytes ((s.frm.layer (nth p 0)).ttiAcc.getD []))⟩
/-- FRM_TTI_GET (R276): the accepted trace of a layer, nothing if none is accepted. -/
def execFrmTtiGet (h : CmdHdr) (p : List Word) (s : State) : Out := perform (felwin opFrmTtiGet h p) s

/-- Whether channel `t` carries an OTN client. -/
def State.otnClient (s : State) (t : Nat) : Bool := s.chOn t && s.rd CLI_CH_CFG.TYPE t == 6

/-- Whether a route word's client carries an OTN client, where a route of 2 needs one (Table 7.9). -/
def State.routeOk (s : State) (w : Nat) : Bool :=
  (FRM_OHC_ROUTE.RX_DEST.raw w != 2 && FRM_OHC_ROUTE.TX_SRC.raw w != 2) || s.otnClient (FRM_OHC_ROUTE.CLIENT.raw w)

def opFrmOhcCfg : OpDef := ⟨0x0606, len 3, cfgStates, fun _ p s =>
  if 2 < nth p 0 then no .badParam
  else if !wordOk FRM_OHC_ROUTE.fields (nth p 2) || !s.routeOk (nth p 2) then no .range
  else okE (seqE [put FRM_OHC_CFG.SLICE_MASK (nth p 1) (nth p 0), putWord FRM_OHC_ROUTE.fields (nth p 2) (nth p 0)])⟩
/-- FRM_OHC_CFG (R272, R276): an overhead channel's slices and routes. -/
def execFrmOhcCfg (h : CmdHdr) (p : List Word) (s : State) : Out := perform (felwin opFrmOhcCfg h p) s

/-! ### Overhead channels -/

/-- Overhead channel `c`, and a change to it. -/
def FrmSt.ohc (f : FrmSt) (c : Nat) : OhSt := Tab.get {} f.oh c
def modOh (c : Nat) (g : OhSt → OhSt) : Eff := upd (.frm fun f => { f with oh := Tab.set {} f.oh c (g (f.ohc c)) })

/-- The slices of channel `c` in an OTUCn: bits at or above n are ignored (Table 7.8). -/
def State.ohSlices (s : State) (c n : Nat) : List Nat := (List.range n).filter (bit (s.rd FRM_OHC_CFG.SLICE_MASK c))

/-- A slip of channel `c` (R273): a dropped or a repeated frame is counted, and noted for OHC_SLIP. -/
def ohSlip (c : Nat) (drop : Bool) : Eff := seqE [bump (if drop then FRM_OHC_STAT.SLIP_DROP else FRM_OHC_STAT.SLIP_REP) 1 c, occur EV.OHC_SLIP c [c, b2n drop, b2n (!drop)]]

/-- The engine moves whole frames from the receive slip buffer into its own buffer of 1,024 bytes while they fit (log entry 15). -/
def drainOh (c : Nat) : Nat → Eff
  | 0 => nop
  | n + 1 => dyn fun s =>
    let o := s.frm.ohc c
    match o.rx with
    | [] => nop
    | f :: fs => if o.rxEng.length + f.length ≤ 1024 then seqE [modOh c (fun o => { o with rx := fs, rxLast := f, rxEng := o.rxEng ++ f }), drainOh c n] else nop

/-- A channel frame written into a slip buffer of four frames: the oldest goes first (R273). -/
def ohWrite (c : Nat) (rx : Bool) (frame : List Nat) : Eff := dyn fun s =>
  let buf := if rx then (s.frm.ohc c).rx else (s.frm.ohc c).tx
  let full := decide (4 ≤ buf.length)
  let buf' := (if full then buf.drop 1 else buf) ++ [frame]
  seqE [modOh c (fun o => if rx then { o with rx := buf' } else { o with tx := buf' }), whenE full (ohSlip c true)]

/-- A channel frame read from a slip buffer: with none there, the last one read again (R273). -/
def ohRead (c : Nat) (rx : Bool) : Eff := dyn fun s =>
  match (if rx then (s.frm.ohc c).rx else (s.frm.ohc c).tx) with
  | f :: fs => modOh c (fun o => if rx then { o with rx := fs, rxLast := f } else { o with tx := fs, txLast := f })
  | [] => ohSlip c false

/-- The direction codes of FRM_OHC_XFER: 1 receive, 2 transmit (log entry 1). -/
def opFrmOhcXfer : OpDef := ⟨0x0607, lenIn 2 258, [3, 4], fun _ p s =>
  let c := nth p 0
  let bytes := bytesOf (p.drop 2)
  let room := 1024 - (s.frm.ohc c).txEng.length
  if 2 < c ∨ nth p 1 = 0 ∨ 2 < nth p 1 then no .badParam
  else if nth p 1 = 1 then
    if s.rd FRM_OHC_ROUTE.RX_DEST c != 1 then no .state
    else okP (seqE [modOh c (fun o => { o with rxEng := [] }), drainOh c 4]) (fun _ => packBytes (s.frm.ohc c).rxEng ++ [0])
  else if s.rd FRM_OHC_ROUTE.TX_SRC c != 1 then no .state
  else okP (modOh c (fun o => { o with txEng := o.txEng ++ bytes.take room })) (fun _ => [min room bytes.length])⟩
/-- FRM_OHC_XFER (R272, R276): bytes to or from the engine buffer of a channel routed to it. -/
def execFrmOhcXfer (h : CmdHdr) (p : List Word) (s : State) : Out := perform (felwin opFrmOhcXfer h p) s

/-- The framer's counters clear. -/
def frmCntClr : Eff := fun _ => (List.range 4).map (fun k => .preset (256 + k) 0) ++ (List.range 3).flatMap (fun c => [.put FRM_OHC_STAT.SLIP_DROP c 0, .put FRM_OHC_STAT.SLIP_REP c 0])

/-- FRM_CNT_CLR (R278): a write of 1 to FRM_CTRL.CNT_CLR clears the Dovetail and the slip counts; the sandbox's is ignored (R585). -/
def execFrmCntClr (m : Mast) (s : State) : Out := perform (byMaster m FRM_CTRL.CNT_CLR 0 frmCntClr) s

/-! ### Performance monitoring -/

/-- The layers that exist: SM, and in native modes ODUC PM and the ODUflex of each channel that has one (R268, R275). -/
def State.layerOn (s : State) (l : Nat) : Bool :=
  if interopMode s.rxMode then l == 0
  else nativeMode s.rxMode && (decide (l < 2) || (s.chOn (l - 2) && s.rd CLI_CH_CFG.TYPE (l - 2) != 6))

/-- Whether defect `(c, l')` counts toward DEF of layer `l`: one that suppresses the layer's RDI, or AIS, LCK or OCI of the layer (R268). -/
def defOf (l : Nat) (d : Nat × Nat) : Bool := suppresses d.1 d.2 8 l || (isMaint d.1 && d.2 == l)

/-- Whether `n` errored blocks reach `pct` percent of the frames; none reaches nothing (log entry 16). -/
def reaches (n pct frames : Nat) : Bool := decide (0 < n ∧ pct * frames ≤ 100 * n)

/-- The availability after a second (R269): unavailable at the first of ten SES seconds in a row, available again at the first of ten
without; judged from the ten seconds before. -/
def uasNext (was : Bool) (hist : List Bool) : Bool :=
  if hist.length < 10 then was else if !was && hist.all id then true else if was && hist.all (!·) then false else was

/-- The second of one layer: its record and its next state. -/
def State.layerSecond (s : State) (l : Nat) : List Nat × Layer :=
  let y := s.frm.layer l
  let ds := s.frm.seen ++ s.frm.defects.map (fun d => (d.code, d.layer))
  let df := s.layerOn l && ds.any (defOf l)
  let fdf := s.layerOn l && ds.any (fun d => d == (8, l))
  let ses := reaches y.neb (s.rd FRM_DEG_CFG.SES_THR) s.frm.frames || df
  let fses := reaches y.feb (s.rd FRM_DEG_CFG.SES_THR) s.frm.frames || fdf
  let es := decide (0 < y.neb) || df
  let fes := decide (0 < y.feb) || fdf
  let uas := uasNext y.uas y.ses
  let fuas := uasNext y.fuas y.fses
  let bad := reaches y.neb (s.rd FRM_DEG_CFG.DEG_THR) s.frm.frames
  let flags := b2n df + 2 * b2n es + 4 * b2n ses + 8 * b2n uas + 256 * b2n fdf + 512 * b2n fes + 1024 * b2n fses + 2048 * b2n fuas
  ([y.neb, y.feb, sat (2 ^ 32 - 1) y.bipv, flags],
   { y with bipv := 0, neb := 0, feb := 0, ses := (ses :: y.ses).take 10, fses := (fses :: y.fses).take 10, uas := uas, fuas := fuas,
            badRun := if bad then y.badRun + 1 else 0, goodRun := if bad then 0 else y.goodRun + 1 })

/-- DEG of a layer (R261): declared after DEG_M bad seconds in a row, cleared after DEG_M that are not bad. -/
def judgeDeg (l : Nat) : Eff := dyn fun s =>
  let y := s.frm.layer l
  if !nativeMode s.rxMode || !s.layerOn l then nop
  else if s.rd FRM_DEG_CFG.DEG_M ≤ y.badRun then declareDefect 10 l
  else whenE (decide (s.rd FRM_DEG_CFG.DEG_M ≤ y.goodRun)) (clearDefect 10 l)

/-- The latched bank takes a record (R270). -/
def latchBank (r : PmRec) (free : Bool) : Eff := seqE [put FRM_PM_TIME.ALL r.time, put FRM_PM_FRAMES.ALL r.frames, putB FRM_PM_CTRL.FREE_RUN free,
  forE (List.range 34) fun l =>
    let w := r.layers.getD l [0, 0, 0, 0]
    seqE [put FRM_PM_NEB.ALL (nth w 0) l, put FRM_PM_FEB.ALL (nth w 1) l, put FRM_PM_BIPV.ALL (nth w 2) l,
      fun _ => [FRM_PM_FLAGS.FE_UAS10, FRM_PM_FLAGS.FE_SES, FRM_PM_FLAGS.FE_ES, FRM_PM_FLAGS.FE_DEF, FRM_PM_FLAGS.UAS10, FRM_PM_FLAGS.SES, FRM_PM_FLAGS.ES,
        FRM_PM_FLAGS.DEF].map (fun f => .put f l (f.raw (nth w 3)))]]

/-- PM_SECOND (R241, R267 to R271): the second ends at a frame boundary. -/
def execPmSecond (s : State) : Out := perform (dyn fun s =>
  let ls := (List.range 34).map s.layerSecond
  let r : PmRec := ⟨s.todNs / 1000000000, s.frm.frames, ls.map (·.1), false⟩
  let time := if s.todValid then r.time else s.freeNs / 1000000000
  let r := { r with time := time }
  seqE [fecSecond,
    upd (.frm fun f => { f with layers := ((List.range 34).zip ls).foldl (fun t p => Tab.set {} t p.1 p.2.2) f.layers, frames := 0, seen := [], recs := (r :: f.recs).take 900 }),
    forE (List.range 34) judgeDeg,
    whenE (!s.on FRM_PM_CTRL.HOLD) (latchBank r (!s.todValid)),
    put FRM_PM_CTRL.GEN (s.rd FRM_PM_CTRL.GEN + 1),
    record 5 ([b2n (!s.todValid)] ++ w64 r.time ++ [r.frames] ++ r.layers.flatten),
    if bit (s.rd FRM_INT_EN.ALL) 7 then raise EV.PM_LATCH [(s.rd FRM_PM_CTRL.GEN + 1) % 65536, b2n (!s.todValid), r.frames]
    else stat FRM_INT_STAT.ALL 7]) s

end Sys2Proof.Machine
end

