-- ==== Sys2Proof/Machine/Otuc.lean ====
section
/-!
DEFINITION. The bytes of an OTUCn frame: slices, overhead places, scrambling, tributary slots, the digest, ODUflex rates and 64B/66B blocks (R248 to
R252, R284 to R286, R294 to R299, R302, R527).
-/
namespace Sys2Proof.Machine

/-! ### Bits and bytes -/

/-- Bytes of bits, first bit most significant. -/
def packBits : List Bool → List Nat
  | a :: b :: c :: d :: e :: f :: g :: h :: r =>
    (128 * b2n a + 64 * b2n b + 32 * b2n c + 16 * b2n d + 8 * b2n e + 4 * b2n f + 2 * b2n g + b2n h) :: packBits r
  | _ => []

/-- The bits of bytes, most significant first. -/
def byteBits (bs : List Nat) : List Bool := bs.flatMap (msbFirst 8)

/-- The taps of x^16 + x^12 + x^3 + x + 1 (R250). -/
def otuTaps : List Nat := [15, 11, 2, 0]

/-- A slice frame scrambled, or descrambled (R250): the generator starts from 0xFFFF at the MFAS byte; the six FAS bytes stay. -/
def scramble (bs : List Nat) : List Nat := bs.take 6 ++ packBits (lfsrMix 16 otuTaps (byteBits (bs.drop 6)) 0xFFFF).1

/-- The byte of a slice frame at a row and a column, counted from 1. -/
def byteAt (slice : List Nat) (row col : Nat) : Nat := slice.getD ((row - 1) * 3824 + (col - 1)) 0

/-- The ones of a byte. -/
def onesOf (v : Nat) : Nat := (bitsSet 8 v).length

/-- The exclusive or of bytes: the BIP-8 over them. -/
def bip8 (bs : List Nat) : Nat := bs.foldl (· ^^^ ·) 0

/-! ### Tributary slots (R284, R299)

Behind the first word of each row a slice frame has 952 payload words of 16 bytes, which the slots take in turn; 952 is 12 more than a multiple of
20, so that a slot has 47 or 48 of them, and the turn goes on from frame to frame (log entry 155). -/

/-- The slot of a slice, from 0, that has payload word `w` in frame `f`. -/
def slotOfWord (f w : Nat) : Nat := (w + 12 * f) % 20

/-- The payload words of an OTUCn frame in transmission order: slice and word. -/
def lineWords (n : Nat) : List (Nat × Nat) := (List.range 952).flatMap (fun w => (List.range n).map (fun i => (i, w)))

/-- Payload word `w` of slice `i` in a slice's bytes. -/
def payWord (slice : List Nat) (w : Nat) : List Nat := (slice.drop (w / 238 * 3824 + 16 * (w % 238) + 16)).take 16

/-- The payload words of a frame of which `own` tells the owner of each slot, from the bytes of each owner; zeros where it has none left. -/
def layWords (f : Nat) (own : Nat → Nat) : List (Nat × Nat) → Tab (List Nat) → List (List Nat)
  | [], _ => []
  | (i, w) :: r, t =>
    let c := own (20 * i + slotOfWord f w)
    let bs := Tab.get [] t c
    (bs.take 16 ++ List.replicate (16 - bs.length) 0) :: layWords f own r (Tab.set [] t c (bs.drop 16))

/-- The payload words of slice `i` among `n`, of words in transmission order. -/
def wordsOf (n i : Nat) (ws : List (List Nat)) : List (List Nat) := (List.range 952).map (fun w => ws.getD (n * w + i) [])

/-- An overhead word: 16 bytes, 0 but where `bs` gives one for its column, counted from 1. -/
def ohWord (bs : List (Nat × Nat)) : List Nat := (List.range 16).map (fun c => ((bs.find? (fun x => x.1 == c + 1)).map (·.2 % 256)).getD 0)

/-- A slice frame of its overhead words, one for each row, and its payload words. -/
def sliceOf (oh : List (List Nat)) (ws : List (List Nat)) : List Nat :=
  (List.range 4).flatMap (fun r => oh.getD r [] ++ (((ws.drop (238 * r)).take 238).flatten))

/-- The bytes that channel `t` has in a received frame, in transmission order, with the marks of its words; `own` tells the owner of each accepted
slot, `marked` the marked words of the OTUCn frame (R248, R263). -/
def chanBytes (f n : Nat) (own : Nat → Option Nat) (slices : List (List Nat)) (marked : List Nat) (t : Nat) : List (Nat × Bool) :=
  ((lineWords n).filter (fun p => own (20 * p.1 + slotOfWord f p.2) == some t)).flatMap (fun p =>
    (payWord (slices.getD p.1 []) p.2).map (fun b => (b, marked.contains ((p.2 + p.2 / 238 + 1) * n + p.1))))

/-- The CRC-64 of a frame's payload, in transmission order (R527). -/
def frameDigest (n : Nat) (slices : List (List Nat)) : Nat :=
  crcBits 64 0x42F0E1EBA9EA3693 (2 ^ 64 - 1) (byteBits ((lineWords n).flatMap (fun p => payWord (slices.getD p.1 []) p.2))) ^^^ (2 ^ 64 - 1)

/-- The BIP-8 of a slice: over its OPU, columns 15 to 3,824 of every row (log entry 155). -/
def sliceBip (slice : List Nat) : Nat := bip8 ((List.range 4).flatMap (fun r => (slice.drop (3824 * r + 14)).take 3810))

/-! ### ODUflex -/

/-- The payload bits of the ODUflex of `s` slots in frame `k` of a count (R286): at s × 5.15625 Gb/s over frames of 122,368 bits with 121,856 of payload
each, and line frames of 122,368 bits at 239/226 × 99.5328 Gb/s. -/
def flexBits (s k : Nat) : Nat :=
  let p := s * 122368 * 226 * 515625 * 238
  let q := 239 * 239 * 9953280
  (k + 1) * p / q - k * p / q

/-- The taps of the PRBS31 of x^31 + x^28 + 1 (log entry 155). -/
def prbs31 : List Nat := [30, 27]

/-- The bits that differ from the PRBS31 that the 31 bits before each foretell, and the register of the last 31. -/
def prbsErrs : List Bool → Nat → Nat × Nat
  | [], r => (0, r)
  | b :: bs, r =>
    let want := bit r 30 != bit r 27
    let (n, r') := prbsErrs bs ((2 * r + b2n b) % 2 ^ 31)
    (n + b2n (b != want), r')

/-! ### 64B/66B blocks (R294 to R297; log entry 155: the block codes are those of IEEE 802.3)

A block is a number of 66 bits, the synchronisation header above, then the block type and seven bytes. -/

/-- The idle block, the local fault ordered set and the error block. -/
def idleBlock : BitVec 66 := BitVec.ofNat 66 (0b10 * 2 ^ 64 + 0x1E * 2 ^ 56)
def faultBlock : BitVec 66 := BitVec.ofNat 66 (0b10 * 2 ^ 64 + 0x4B * 2 ^ 56 + 0x000001 * 2 ^ 32)
def errorBlock : BitVec 66 := BitVec.ofNat 66 (0b10 * 2 ^ 64 + 0x1E * 2 ^ 56 + 0x1E3C78F1E3C78F)

/-- Whether a packet runs after block `b` where `was` says whether one ran before it: a start begins one, a terminate ends it. -/
def inPacket (was : Bool) (b : BitVec 66) : Bool :=
  let typ := b.toNat / 2 ^ 56 % 256
  if b.toNat / 2 ^ 64 ≠ 2 then was else if typ = 0x78 then true else if [0x87, 0x99, 0xAA, 0xB4, 0xCC, 0xD2, 0xE1, 0xFF].contains typ then false else was

/-- Blocks for `need` bits from a queue (R294): between packets an idle block comes where the queue is empty, and one at its head goes where more than
`deep` wait. The blocks, the queue left, and whether a packet runs. -/
def adaptRate (deep : Nat) : Nat → Nat → List (BitVec 66) → Bool → List (BitVec 66) × List (BitVec 66) × Bool
  | 0, _, q, p => ([], q, p)
  | _, 0, q, p => ([], q, p)
  | fuel + 1, need, [], p =>
    if p then ([], [], p) else let (o, q, p') := adaptRate deep fuel (need - 66) [] p; (idleBlock :: o, q, p')
  | fuel + 1, need, b :: q, p =>
    if !p && b == idleBlock && decide (deep < q.length) then adaptRate deep fuel need q p
    else let (o, q', p') := adaptRate deep fuel (need - 66) q (inPacket p b); (b :: o, q', p')

/-- The bits of blocks. -/
def blockBits (bs : List (BitVec 66)) : List Bool := bs.flatMap (fun b => msbFirst 66 b.toNat)

/-- The whole blocks among bits with their marks, as many as `n`, each with whether one of its bits is marked. -/
def bitBlocks : Nat → List (Bool × Bool) → List (BitVec 66 × Bool)
  | 0, _ => []
  | n + 1, bs => (BitVec.ofNat 66 ((bs.take 66).foldl (fun a b => 2 * a + b2n b.1) 0), (bs.take 66).any (·.2)) :: bitBlocks n (bs.drop 66)

/-- The local fault stream of `n` blocks (R295, R296). -/
def faultBlocks (n : Nat) : List (BitVec 66) := List.replicate n faultBlock

/-! ### Replacement frames (R302) -/

/-- A client frame with a valid FAS and an MFAS, every other byte 0xFF, each slice scrambled (log entry 155), its `m` slices interleaved in words. -/
def aisFrame (m mfas : Nat) : List Nat :=
  let s := scramble ([0xF6, 0xF6, 0xF6, 0x28, 0x28, 0x28, mfas % 256] ++ List.replicate 15289 0xFF)
  (List.range 956).flatMap (fun w => (List.replicate m ((s.drop (16 * w)).take 16)).flatten)

end Sys2Proof.Machine
end

