-- ==== Sys2Proof/Machine/RefSel.lean ====
section
/-!
DEFINITION. Timing references: candidates, quality levels and selection (R435, R443 to R451, R455, R457).
-/
namespace Sys2Proof.Machine
open Sys2Proof

/-! ### Candidates and quality levels -/

/-- The twelve candidates (Table 12.1). -/
def cands : List Nat := List.range 12

/-- Whether REFIN `c` is a pulse input (R435). -/
def State.isPulse (s : State) (c : Nat) : Bool := decide (c < 8) && decide (s.rd REF_CAND_FHZ.HZ c ≤ 8000)

/-- Whether candidate `c` is active (R437). -/
def State.refAct (s : State) (c : Nat) : Bool := s.on REF_CAND_STAT.ACT c

/-- Whether candidate `c` is qualified. -/
def State.refQual (s : State) (c : Nat) : Bool := bit (s.rd REF_STATUS.QUALIFIED) c

/-- Whether an offset in 0.1 ppb lies within the accept or the reject limit (R439). -/
def State.accepts (s : State) (off : Int) : Bool := decide (off.natAbs ≤ 1000 * s.rd REF_MON_CFG.ACCEPT)
def State.inReject (s : State) (off : Int) : Bool := decide (off.natAbs ≤ 1000 * s.rd REF_MON_CFG.REJECT)

/-- The effective QL of candidate `c` (R444). -/
def State.qlEff (s : State) (c : Nat) : Nat := if s.on REF_CAND_CFG.QL_SRC c then s.rd REF_CAND_STAT.QL_RX c else s.rd REF_CAND_CFG.QL c

/-- The selected candidate, if any. -/
def State.refSel (s : State) : Option Nat := if s.rd REF_STATUS.SELECTED = 15 then none else some (s.rd REF_STATUS.SELECTED)

/-- The state code of candidate `c` (Table 12.8). -/
def State.candState (s : State) (c : Nat) : Nat :=
  if s.rd REF_CAND_CFG.PRIO c = 0 then 0 else if !s.refAct c then 1 else if s.refSel = some c then 6
  else if s.refQual c then 5 else if !s.inReject (s.rdI REF_CAND_FREQ.ALL c) then 2 else if bit s.ref.again c then 4 else 3

/-- The output QL (R446). -/
def State.outQl (s : State) : Nat :=
  match s.rd REF_STATUS.DPLL, s.refSel with
  | 2, some c => s.qlEff c
  | 3, _ => if s.on REF_STATUS.CLAMP_EXPIRED || !s.on REF_STATUS.OSC_PRESENT then 8 else s.rd REF_CTRL.CLAMP_QL
  | _, _ => 8

/-- The lane of a host lane candidate. -/
def State.candLane (s : State) (c : Nat) : Nat := s.rd REF_CAND_CFG.LANE c

/-- Whether channel `t` carries the selected candidate (R446). -/
def State.carriesSel (s : State) (t : Nat) : Bool := match s.refSel with | some c => decide (9 ≤ c) && (s.lanesOf t).contains (s.candLane c) | none => false

/-- SSM and enhanced SSM code of a quality level (Table 12.2); FAILED has none, and goes as DNU. -/
def ssmOf (ql : Nat) : Nat × Nat :=
  match ql with
  | 1 => (0x2, 0x21) | 2 => (0x2, 0x20) | 3 => (0x2, 0x23) | 4 => (0x2, 0xFF) | 5 => (0x4, 0xFF) | 6 => (0x8, 0xFF) | 7 => (0xB, 0x22) | 8 => (0xB, 0xFF) | _ => (0xF, 0xFF)

/-- The channels ESMC is sent on (R446). -/
def State.esmcChans (s : State) : List Nat := if s.on REF_CTRL.ESMC_TX then (bitsSet 32 (s.rd REF_ESMC_MASK.MASK)).filter s.isEth else []

/-- ESMC PDUs go out with the output QL, DNU on the channel that carries the selected candidate (R446). -/
def sendEsmc (event : Bool) : Eff := dyn fun s => forE s.esmcChans (fun t =>
  let c := ssmOf (if s.carriesSel t then 9 else s.rd REF_STATUS.OUT_QL)
  emit (.esmc t event c.1 c.2))

/-- The line QL message (R445), with DNU in place of the output QL while the line carries the selected candidate (R446). -/
def State.lineQl (s : State) : List Nat :=
  let dnu := s.refSel == some 8
  let m := [0x51, if dnu then 9 else s.rd REF_STATUS.OUT_QL, b2n dnu]
  m ++ [crc8 m]

/-- The number QL_CHANGE gives the output. -/
def qlOutput : Nat := 12

/-- Whether a host lane candidate has no Ethernet channel to take a code from (R444). -/
def State.noSource (s : State) (c : Nat) : Bool := decide (9 ≤ c) && !(List.range 32).any (fun t => s.isEth t && (s.lanesOf t).contains (s.candLane c))

/-- The received code of a candidate without a source is FAILED (R444). -/
def failQl : Eff := dyn fun s => forE (cands.filter (fun c => s.noSource c && s.rd REF_CAND_STAT.QL_RX c != 10)) (fun c => put REF_CAND_STAT.QL_RX 10 c)

/-- QL_CHANGE for every candidate whose effective QL has changed (R468). -/
def syncQl : Eff := dyn fun s => forE (cands.filter (fun c => s.qlEff c != s.rd REF_CAND_STAT.QL_EFF c)) (fun c => seqE [
  put REF_CAND_STAT.QL_EFF (s.qlEff c) c, raise EV.QL_CHANGE [c, s.rd REF_CAND_STAT.QL_EFF c, s.qlEff c]])

/-- A change of the output QL is reported and sent at once (R445, R446). -/
def syncOut : Eff := dyn fun s => whenE (s.outQl != s.rd REF_STATUS.OUT_QL) (seqE [
  put REF_STATUS.OUT_QL s.outQl, raise EV.QL_CHANGE [qlOutput, s.rd REF_STATUS.OUT_QL, s.outQl], sendEsmc true,
  dyn fun t => whenE t.sending (timeMsg t.lineQl)])

/-- The state codes follow. -/
def syncStates : Eff := fun s => cands.map (fun c => .put REF_CAND_STAT.STATE c (s.candState c))

/-! ### Selection -/

/-- Whether candidate `c` is eligible (R447). -/
def State.eligible (s : State) (c : Nat) : Bool :=
  s.rd REF_CAND_CFG.PRIO c != 0 && !s.on REF_CAND_CFG.LOCKOUT c && s.refQual c && (!s.on REF_CTRL.QL_EN || decide (1 ≤ s.qlEff c ∧ s.qlEff c ≤ 8))

/-- The rank of a candidate, a smaller number the better (R448): QL order while QL_EN is 1, priority, index. -/
def State.rank (s : State) (c : Nat) : Nat := (if s.on REF_CTRL.QL_EN then 4096 * s.qlEff c else 0) + 16 * s.rd REF_CAND_CFG.PRIO c + c

/-- The best-ranked eligible candidate. -/
def State.best (s : State) : Option Nat :=
  (cands.filter s.eligible).foldl (fun b c => match b with | none => some c | some x => if s.rank c < s.rank x then some c else some x) none

/-- What AUTO selects (R448), given the candidate selected now. -/
def State.autoSel (s : State) : Option Nat :=
  match s.refSel, s.best with
  | some c, some b =>
    if !s.eligible c then some b
    else if s.on REF_CTRL.REVERT then (if s.rank b < s.rank c then some b else some c)
    else if s.on REF_CTRL.QL_EN && decide (s.qlEff b < s.qlEff c) then some b else some c
  | _, b => b

/-- The candidate SEL_MODE calls for, if any (Table 12.3). -/
def State.target (s : State) : Option Nat :=
  let c := s.rd REF_CTRL.SEL_CAND
  match s.rd REF_CTRL.SEL_MODE with
  | 0 => s.autoSel
  | 1 => if s.eligible c then some c else s.autoSel
  | 2 => if s.refAct c && s.inReject (s.rdI REF_CAND_FREQ.ALL c) then some c else none
  | _ => none

/-- Why a switch is made: 1 the selected candidate may no longer be, 2 a better one may, 3 the selection mode. -/
def State.switchCause (s : State) : Nat :=
  match s.refSel with
  | some c => if decide (1 ≤ s.rd REF_CTRL.SEL_MODE) then 3 else if s.eligible c then 2 else 1
  | none => if decide (1 ≤ s.rd REF_CTRL.SEL_MODE) then 3 else 2

/-- The mean of the recorded frequency beyond the guard (R454). -/
def State.clampMean (s : State) : Int :=
  let h := (s.ref.hist.drop (s.rd REF_CLAMP_CFG.HIST_GUARD)).take (s.rd REF_CLAMP_CFG.HIST_AVG)
  if h.isEmpty then 0 else h.foldl (· + ·) 0 / h.length

/-- Seconds since CLAMP or FREERUN was entered. -/
def State.clampSecs (s : State) : Nat := (s.tick - s.ref.clampAt) * 32 / 25000000000

/-- A switch to candidate `c` starts (R450, R457): the DPLL holds its frequency for the build-out window. -/
def startSwitch (c : Nat) : Eff := dyn fun s => seqE [
  put REF_STATUS.BUILDOUT 1, put REF_STATUS.SELECTED c,
  raise EV.REF_SWITCH [s.rd REF_STATUS.SELECTED, c, s.switchCause],
  whenE s.refSel.isNone (raise EV.CLAMP_EXIT [c, s.clampSecs])]

/-- CLAMP, or FREERUN where `free`, is entered (R455, R449). -/
def enterClamp (free : Bool) : Eff := dyn fun s =>
  let f := s.clampMean
  seqE [put REF_STATUS.SELECTED 15, put REF_STATUS.DPLL (if free then 0 else 3), upd (.ref fun r => { r with clampAt := s.tick, lockedFor := 0 }),
    put REF_STATUS.CLAMP_EXPIRED 0, if free then seqE [putI REF_DPLL_FREQ.ALL 0, raise EV.CLAMP_ENTER [0, 1]]
      else seqE [putI REF_DPLL_FREQ.ALL f, putI REF_HIST_FREQ.ALL f, raise EV.CLAMP_ENTER [w32 f, 0]]]

/-- Whether CLAMP can be entered: a valid history and OSC_IN (R455). -/
def State.clampOk (s : State) : Bool := s.on REF_STATUS.HIST_VALID && s.on REF_STATUS.OSC_PRESENT

/-- Selection is evaluated (R448, R449, R455), but not within a build-out window (R451). -/
def selEval : Eff := dyn fun s =>
  if s.on REF_STATUS.BUILDOUT then nop else
  match s.target, s.refSel with
  | some c, sel => whenE (sel != some c) (startSwitch c)
  | none, some _ => enterClamp (s.rd REF_CTRL.SEL_MODE == 4 || !s.clampOk)
  | none, none =>
    if s.rd REF_CTRL.SEL_MODE ≠ 4 ∧ s.rd REF_STATUS.DPLL ≠ 3 ∧ s.clampOk = true then enterClamp false
    else whenE (s.rd REF_CTRL.SEL_MODE == 4 && s.rd REF_STATUS.DPLL != 0) (enterClamp true)

/-- A change of eligibility, effective QL or selection setting is taken in. -/
def refEval : Eff := seqE [failQl, syncQl, selEval, syncOut, syncStates]

end Sys2Proof.Machine
end

