-- ==== Sys2Proof/Machine/Client.lean ====
section
/-!
DEFINITION. Client channels: adding, moving and removing them, the slot maps, ingress failures and the CBR slip buffers (R280 to R322).
-/
namespace Sys2Proof.Machine
open Sys2Proof

/-! ### Lanes and slots -/

/-- The lanes held by the configured channels. -/
def State.heldLanes (s : State) : List Nat := s.channels.flatMap s.lanesOf

/-- Whether lane `n` is up. -/
def State.laneUp (s : State) (n : Nat) : Bool := s.rd SRD_LANE_STAT.STATE n == 3

/-- Slots that exist: those of the mode, or all 640 while no mode is set (log entry 17). -/
def State.slotBound (s : State) : Nat := if s.txMode = 0 then 640 else s.modeSlots

/-- Whether slot `q` is free for channel `own` (R308, R312): free, or of its own old set. -/
def State.slotFree (s : State) (own : Option Nat) (q : Nat) : Bool :=
  (s.rd CLI_TS_OWNER.OWNER q == 255 && s.rd CLI_TS_OWNER.PEND q == 255) || some (s.rd CLI_TS_OWNER.OWNER q) == own

/-- The slots held and those of a pending move (R287). -/
def State.load (s : State) : Nat := ((List.range 640).filter (fun q => s.rd CLI_TS_OWNER.OWNER q != 255 || s.rd CLI_TS_OWNER.PEND q != 255)).length

/-- No element twice. -/
def distinct : List Nat → Bool
  | [] => true
  | x :: xs => !xs.contains x && distinct xs

/-- 16-bit numbers packed two to a word, the first lower; and the first `n` of a packed list. -/
def packHalves : List Nat → List Nat
  | [] => []
  | [a] => [a % 65536]
  | a :: b :: r => (a % 65536 + 65536 * (b % 65536)) :: packHalves r
def unpackHalves (n : Nat) (ws : List Nat) : List Nat := (ws.flatMap (fun w => [w % 65536, w / 65536 % 65536])).take n

/-- Insertion of a number into a rising list. -/
def insertSorted (x : Nat) : List Nat → List Nat
  | [] => [x]
  | y :: ys => if x ≤ y then x :: y :: ys else y :: insertSorted x ys

/-- The slots in increasing order (R285). -/
def sortSlots (l : List Nat) : List Nat := l.foldr insertSorted []

/-- Checks 6 to 8 of Table 8.5 for a slot set, and in DUP the check of R389 for a bound channel: the slots taken, or the failing status.
In an interoperable mode there are none. -/
def State.pickSlots (s : State) (own : Option Nat) (bound : Bool) (typ m : Nat) (auto : Bool) (n : Nat) (named : List Nat) : Except Status (List Nat) :=
  if interopMode s.txMode then .ok [] else
  let (lo, hi) := slotRange typ m
  let free := (List.range s.slotBound).filter (s.slotFree own)
  let slots := if auto then free.take n else sortSlots named
  if n < lo ∨ hi < n then .error .range
  else if slots.length != n || !distinct slots || !slots.all (fun q => decide (q < s.slotBound) && s.slotFree own q) then .error .noResource
  else if s.is1600 && decide (320 < s.load + (slots.filter (fun q => s.rd CLI_TS_OWNER.OWNER q == 255)).length) then .error .noResource
  else if s.protDup && bound &&
    decide (s.dupCap < s.vnrLoad + (slots.filter (fun q => some (s.rd CLI_TS_OWNER.OWNER q) != own)).length) then .error .noResource
  else .ok slots

/-- Whether a channel of type `typ` may be added in the mode in force (R288, R361); none set allows every type. -/
def State.typeOk (s : State) (t typ : Nat) : Bool :=
  !interopMode s.txMode ||
    (interopType s.txMode typ && !s.chBound t &&
      decide ((s.channels.map (fun c => ethUnits (s.rd CLI_CH_CFG.TYPE c))).foldl (· + ·) 0 + ethUnits typ ≤ interopUnits s.txMode))

/-! ### Commands -/

/-- A lane group starts training (R329), or its lanes go back to powered. -/
def trainLanes (ls : List Nat) : Eff := dyn fun s => forE (ls.filter (fun n => s.rd SRD_LANE_STAT.STATE n == 1)) (fun n => put SRD_LANE_STAT.STATE 2 n)
def releaseLanes (ls : List Nat) : Eff := forE ls (fun n => seqE [put SRD_LANE_STAT.STATE 1 n, put SRD_LANE_STAT.SYNC 0 n])

/-- The state a new channel shows: MODE, absent or in mismatch, egress fill, lanes training or aligning. -/
def startState (t : Nat) (lanes : List Nat) : Eff := dyn fun s =>
  let up := lanes.all s.laneUp
  let st := if !s.carried t then 8 else if 0 < s.slotState t then s.slotState t else if s.fillTrib t then 5 else if up then 2 else 1
  seqE [put CLI_CH_STAT.STATE st t, put CLI_CH_STAT.RX_SLOTS (s.rxSlots t) t, putB CLI_CH_STAT.LF_OUT (decide (5 ≤ st)) t, putB CLI_CH_STAT.ING_FAIL (!up) t,
    upd (.cli fun c => { c with downAt := Tab.set 0 c.downAt t s.tick, late := c.late.filter (· != t) })]

/-- A channel is configured with its slots in the transmit map (R309). -/
def addChannel (t w : Nat) (lanes slots : List Nat) : Eff := seqE [
  fun _ => [CLI_CH_CFG.TYPE, CLI_CH_CFG.RATE, CLI_CH_CFG.M, CLI_CH_CFG.LANE_BASE].map (fun f => .put f t (f.raw w)),
  put CLI_CH_CTRL.EN 1 t, put CLI_CH_CTRL.LOOP 0 t, takeSlots t slots, trainLanes lanes, startState t lanes, judgeProt, syncPorts]

/-- The words a client command has after its fixed ones: none with AUTO, else its slot list. -/
def slotWords (auto n : Nat) : Nat := if auto = 1 then 0 else (n + 1) / 2

def opCliAdd : OpDef := ⟨0x0701, lenIn 4 324, cfgStates, fun _ p s =>
  let t := nth p 0
  let w := nth p 1
  let typ := CLI_CH_CFG.TYPE.raw w
  let m := CLI_CH_CFG.M.raw w
  if p.length != 4 + slotWords (nth p 2) (nth p 3) then no .badLength
  else if 31 < t then no .badParam
  else if s.chOn t then no .state
  else if 1 < nth p 2 then no .badParam
  else match laneGroup typ (CLI_CH_CFG.RATE.raw w) m (CLI_CH_CFG.LANE_BASE.raw w) with
  | none => no .badParam
  | some lanes =>
    if lanes.any (fun n => s.heldLanes.contains n) then no .noResource
    else if !s.typeOk t typ then no .state
    else match s.pickSlots none (s.chBound t) typ m (nth p 2 == 1) (nth p 3) (unpackHalves (nth p 3) (p.drop 4)) with
    | .error e => no e
    | .ok slots => okP (addChannel t w lanes slots) (fun _ => packHalves slots)⟩
/-- CLI_ADD (R308, R309): a channel is added after the checks of Table 8.5, in order. -/
def execCliAdd (h : CmdHdr) (p : List Word) (s : State) : Out := perform (felwin opCliAdd h p) s

/-- A channel is deconfigured (R310). -/
def removeChannel (t : Nat) : Eff := dyn fun s => seqE [
  whenE (s.rd CLI_CH_STAT.STATE t == 3) (raise EV.CLIENT_DOWN [t, 7]),
  releaseLanes (s.lanesOf t), takeSlots t [],
  fun _ => [CLI_CH_CFG.TYPE, CLI_CH_CFG.RATE, CLI_CH_CFG.M, CLI_CH_CFG.LANE_BASE, CLI_CH_CFG.SLOTS, CLI_CH_CTRL.EN, CLI_CH_CTRL.LOOP, CLI_CH_STAT.SKEW,
    CLI_CH_STAT.LF_OUT, CLI_CH_STAT.ING_FAIL, CLI_CH_STAT.STATE].map (fun f => .put f t 0),
  upd (.cli fun c => { c with late := c.late.filter (· != t), ing := Tab.set [] c.ing t [], eg := Tab.set [] c.eg t [] }),
  upd (.cli fun c => { c with blocks := Tab.set [] c.blocks t [], inPkt := Tab.set false c.inPkt t false, inBits := Tab.set [] c.inBits t [], egBits := Tab.set [] c.egBits t [] }),
  dyn fun t' => forE (t'.frm.defects.filter (fun d => d.layer == 2 + t)) (fun d => clearDefect d.code d.layer), judgeProt, syncPorts, refEval]

def opCliRemove : OpDef := ⟨0x0702, len 1, cfgStates, fun _ p s =>
  if 31 < nth p 0 then no .badParam
  else if !s.chOn (nth p 0) || (s.cli.move.map (·.ch)) == some (nth p 0) then no .state
  else okE (removeChannel (nth p 0))⟩
/-- CLI_REMOVE (R310). -/
def execCliRemove (h : CmdHdr) (p : List Word) (s : State) : Out := perform (felwin opCliRemove h p) s

/-- A move accepted (R311, R313): pending until S = c + 17 while lit, else in effect at once. -/
def startMove (t : Nat) (slots : List Nat) : Eff := dyn fun s =>
  let ver := (s.cli.ver + 1) % 256
  let sf := (s.rd LTX_SF_NUM.ALL + 17) % 65536
  seqE [upd (.cli fun c => { c with ver := ver, move := some ⟨t, slots, ver, if s.sending then sf else 0xFFFF, false⟩ }), put CLI_MOVE_STAT.CHANNEL t,
    if s.sending then seqE [fun s => (s.slotsOf t).map (fun q => .put CLI_TS_OWNER.PEND q 255) ++ slots.map (fun q => .put CLI_TS_OWNER.PEND q t), put CLI_MOVE_STAT.PENDING 1, put CLI_MOVE_STAT.TARGET_SF sf, put CLI_MOVE_STAT.CD 17]
    else applyMove 0xFFFF, judgeProt]

def opCliMove : OpDef := ⟨0x0703, lenIn 3 323, cfgStates, fun _ p s =>
  let t := nth p 0
  if p.length != 3 + slotWords (nth p 1) (nth p 2) then no .badLength
  else if 31 < t || 1 < nth p 1 then no .badParam
  else if !s.chOn t || s.cli.move.isSome then no .state
  else match s.pickSlots (some t) (s.chBound t) (s.rd CLI_CH_CFG.TYPE t) (s.rd CLI_CH_CFG.M t) (nth p 1 == 1) (nth p 2) (unpackHalves (nth p 2) (p.drop 3)) with
  | .error e => no e
  | .ok slots => okP (startMove t slots) (fun s' => (if s.sending then s'.rd CLI_MOVE_STAT.TARGET_SF else 0xFFFF) :: packHalves slots)⟩
/-- CLI_MOVE (R311, R312): schedules a new slot set, or applies it at once while TX_OUT is dark. -/
def execCliMove (h : CmdHdr) (p : List Word) (s : State) : Out := perform (felwin opCliMove h p) s

def opCliMoveCancel : OpDef := ⟨0x0704, len 0, [3, 4], fun _ _ s =>
  match s.cli.move with
  | none => no .state
  | some m => if s.rd CLI_MOVE_STAT.CD < 4 then no .state
    else okP (seqE [dropMove, judgeProt, raise EV.TRIB_MOVE_CANCELLED [m.ch, m.sf]]) (fun _ => [m.ch, m.sf])⟩
/-- CLI_MOVE_CANCEL (R317): only while at least 4 superframes remain before S. -/
def execCliMoveCancel (h : CmdHdr) (p : List Word) (s : State) : Out := perform (felwin opCliMoveCancel h p) s

def CLI_CH_CFG.fields : List Fld := [CLI_CH_CFG.TYPE, CLI_CH_CFG.RATE, CLI_CH_CFG.M, CLI_CH_CFG.LANE_BASE, CLI_CH_CFG.SLOTS]
def CLI_CH_STAT.fields : List Fld := [CLI_CH_STAT.REALIGN, CLI_CH_STAT.RX_SLOTS, CLI_CH_STAT.SKEW, CLI_CH_STAT.LF_OUT, CLI_CH_STAT.ING_FAIL, CLI_CH_STAT.STATE]

/-- CLI_STATUS: the channels configured and the load follow the maps (Table 8.9). -/
def State.cliStatus (s : State) : Nat := s.word [CLI_STATUS.ORPHAN] + 4096 * s.load + s.channels.length

def opCliStatus : OpDef := ⟨0x0705, len 1, upStates, fun _ p _ => okP nop (fun s =>
  [s.cliStatus, s.word CLI_MOVE_STAT.fields] ++ (bitsSet 32 (nth p 0)).flatMap (fun t => [s.word CLI_CH_CFG.fields t, s.word CLI_CH_STAT.fields t, s.rd CLI_CH_SKEW.ALL t]))⟩
/-- CLI_STATUS (R319). -/
def execCliStatus (h : CmdHdr) (p : List Word) (s : State) : Out := perform (felwin opCliStatus h p) s

/-- The index of counter `c` of channel `t` (Table 16.1): 0 EBLK, 1 ING_ERR, 2 SLIP_DROP, 3 SLIP_REP. -/
def cliCnt (t c : Nat) : Nat := 288 + 4 * t + c

def opCliCounters : OpDef := ⟨0x0706, len 1, cfgStates, fun _ p _ => okP (upd .snap) (fun s =>
  s.snapGen :: (bitsSet 32 (nth p 0)).flatMap (fun t => (List.range 4).flatMap (fun c =>
    w64 (s.cnt (cliCnt t c) + Tab.get 0 s.wraps (cliCnt t c) * 2 ^ 48))))⟩
/-- CLI_COUNTERS (R319, R583). -/
def execCliCounters (h : CmdHdr) (p : List Word) (s : State) : Out := perform (felwin opCliCounters h p) s

/-- Table 8.4: ingress correction, egress correction and residual uncertainty in ps. -/
def tsTable (typ rate : Nat) : List Nat :=
  match typ, rate with
  | 5, 0 => [214600, 188200, 2600]
  | 4, 0 => [216300, 190100, 2600]
  | 4, 1 => [298400, 251700, 3200]
  | 3, 0 => [219800, 193600, 2600]
  | 3, 1 => [301200, 254000, 3200]
  | 3, 2 => [463500, 377900, 4500]
  | 2, 0 => [224000, 197300, 2600]
  | 2, 1 => [305600, 257200, 3200]
  | 2, 2 => [467100, 381400, 4500]
  | 1, 1 => [309900, 260800, 3200]
  | 1, 2 => [471800, 385000, 4500]
  | _, _ => [0, 0, 0]

def opCliTsCfg : OpDef := ⟨0x0707, len 3, cfgStates, fun _ p _ =>
  if 31 < nth p 0 then no .badParam
  else if !CLI_TS_ADJ_IN.ALL.inRange (nth p 1) || !CLI_TS_ADJ_EG.ALL.inRange (nth p 2) then no .range
  else okP (seqE [put CLI_TS_ADJ_IN.ALL (nth p 1) (nth p 0), put CLI_TS_ADJ_EG.ALL (nth p 2) (nth p 0)])
    (fun s => tsTable (s.rd CLI_CH_CFG.TYPE (nth p 0)) (s.rd CLI_CH_CFG.RATE (nth p 0)))⟩
/-- CLI_TS_CFG (R306, R307). -/
def execCliTsCfg (h : CmdHdr) (p : List Word) (s : State) : Out := perform (felwin opCliTsCfg h p) s

/-- A loopback on channel `t` (R318): with a line loop the host lanes send local fault or the frames of R302. -/
def setLoop (t v : Nat) : Eff := dyn fun s => seqE [put CLI_CH_CTRL.LOOP v t, putB CLI_CH_STAT.LF_OUT (v == 2 || decide (5 ≤ s.rd CLI_CH_STAT.STATE t)) t]

/-- Leaving MAINT clears every loopback (R318). -/
def leaveLoops : Eff := dyn fun s => forE (s.channels.filter (fun t => s.rd CLI_CH_CTRL.LOOP t != 0)) (fun t => setLoop t 0)

def opCliLoop : OpDef := ⟨0x0708, len 2, [4], fun _ p s =>
  if 31 < nth p 0 ∨ 2 < nth p 1 then no .badParam else if !s.chOn (nth p 0) then no .state
  else okE (setLoop (nth p 0) (nth p 1))⟩
/-- CLI_LOOP (R318). -/
def execCliLoop (h : CmdHdr) (p : List Word) (s : State) : Out := perform (felwin opCliLoop h p) s

def opCliSlotMap : OpDef := ⟨0x0709, len 0, [2, 3, 4, 5], fun _ _ _ => okP nop (fun s => (List.range s.modeSlots).map (fun q =>
  s.rd CLI_TS_OWNER.OWNER q + 256 * s.rd CLI_TS_OWNER.PEND q + 65536 * s.rd CLI_RX_MSI.CHAN q + 16777216 * s.rd CLI_RX_MSI.OCC q))⟩
/-- CLI_SLOT_MAP (R319): one word per slot, the owner, the pending owner and the accepted entry (log entry 18). -/
def execCliSlotMap (h : CmdHdr) (p : List Word) (s : State) : Out := perform (felwin opCliSlotMap h p) s

/-- The client counters clear. -/
def cliCntClr : Eff := fun _ => (List.range 128).map (fun k => .preset (288 + k) 0)

/-- CLI_CNT_CLR (R320): a write of 1 to CLI_CTRL.CNT_CLR; the sandbox's is ignored (R585). -/
def execCliCntClr (m : Mast) (s : State) : Out := perform (byMaster m CLI_CTRL.CNT_CLR 0 cliCntClr) s

/-! ### Received maps -/

/-- The value of a map entry sent for an owner (R291): available, occupied, channel. -/
def mapEntry (owner : Nat) : Nat := if owner = 255 then 0x8000 else 0xC000 + owner

/-- The entries of the listed slots are accepted. -/
def acceptEntries (vs : List (Nat × Nat)) : Eff := fun _ => vs.flatMap (fun v => [.put CLI_RX_MSI.CHAN v.1 (v.2 % 256), .put CLI_RX_MSI.OCC v.1 (v.2 / 16384 % 2)])

/-- RX_SLOTS follows the accepted entries, and each carried channel is judged (R293). -/
def judgeSlots : Eff := seqE [dyn fun s => forE (List.range 32) (fun t => put CLI_CH_STAT.RX_SLOTS (s.rxSlots t) t), judgeFill]

/-- A received move record (R314, R316): a pending one is held with its pending map; one that is not drops what is held. A version that
has moved on with no move held is a move that came too late for this receiver. -/
def takeRecord (r act pend : List Nat) : Eff := dyn fun s =>
  let ver := nth r 1
  if r.length != 6 || crc8 (r.take 5) != nth r 5 then nop
  else if bit (nth r 4) 0 && nth r 0 < 32 then upd (.cli fun c => { c with rxMove := some (⟨nth r 0, [], ver, nth r 2 * 256 + nth r 3, false⟩, pend) })
  else
    let moved := s.channels.filter (fun t => (List.range act.length).any (fun q =>
      (s.rxOwner q == some t) != (nth act q == mapEntry t)))
    let late := if s.cli.rxMove.isNone && s.cli.rxVer.isSome && s.cli.rxVer != some ver then moved.filter (fun t => !s.cli.late.contains t) else []
    seqE [upd (.cli fun c => { c with rxMove := none, rxVer := some ver, late := c.late ++ late }),
      forE late (fun t => raise EV.TRIB_MOVE_LATE [t, s.lrx.sfNum])]

/-- PSI_MULTIFRAME (R292, R293, R314): the active and pending map entries of the mode's slots and bytes 82 to 87 of slice 1. -/
def execPsiMultiframe (act pend : List (BitVec 16)) (rec : List (BitVec 8)) (s : State) : Out := perform (dyn fun s =>
  let n := 20 * otucOf s.rxMode s.rxN
  let a := (act.map (·.toNat)).take n
  let runs := ((List.range a.length).zip a).map (fun p =>
    let (v, r) := Tab.get (0, 0) s.cli.ent p.1
    (p.1, p.2, if v = p.2 then r + 1 else 1))
  if !(nativeMode s.rxMode && s.inFrame && s.on FRM_STATUS.IM) then nop
  else seqE [upd (.cli fun c => { c with ent := runs.foldl (fun e x => Tab.set (0, 0) e x.1 (x.2.1, min x.2.2 3)) c.ent }),
    takeRecord (rec.map (·.toNat)) a (pend.map (·.toNat)),
    acceptEntries ((runs.filter (fun x => decide (3 ≤ x.2.2))).map (fun x => (x.1, x.2.1))),
    dyn fun s => upd (.cli fun c => { c with late := c.late.filter (fun t => (List.range a.length).any (fun q => (s.rxOwner q == some t) != (nth a q == mapEntry t))) }),
    dyn fun s => whenE ((List.range 640).any (fun q => match s.rxOwner q with | some c => !(c < 32 && s.chOn c) | none => false)) (bump CLI_STATUS.ORPHAN),
    judgeSlots]) s

/-! ### Ingress and egress -/

/-- CLIENT_INGRESS_FAIL (R295, R302, R304): `why` 0 a loss or the high symbol-error condition, 1 skew of `lane` beyond the range, 2 a
realignment; `errs` errored blocks came with it. -/
def execClientIngressFail (t : Fin 32) (why : Fin 3) (lane : Fin 16) (skew : BitVec 14) (errs : Nat) (s : State) : Out := perform (dyn fun s =>
  let typ := s.rd CLI_CH_CFG.TYPE t.val
  let first := !s.on CLI_CH_STAT.ING_FAIL t.val
  if !s.chOn t.val || typ == 7 then nop
  else seqE [put CLI_CH_STAT.ING_FAIL 1 t.val, count (cliCnt t.val 1) errs, put CLI_CH_SKEW.ALL skew.toNat t.val,
    whenE (why.val == 1) (seqE [put CLI_CH_STAT.SKEW 1 t.val, raise EV.CLI_SKEW [t.val, lane.val, skew.toNat]]),
    whenE (why.val == 2) (bump CLI_CH_STAT.REALIGN 1 t.val),
    whenE (first && decide (s.rd CLI_CH_STAT.STATE t.val < 5)) (chDown t.val 4 (if why.val = 1 then 6 else 1))]) s

/-- INGRESS_FAIL_CLEAR (R295, R303): the conditions have held for 1 ms; `skew` is the largest skew the Shim buffers measure on the channel's lanes, in
0.1 ns. Beyond the range of 1 µs the failure stands. -/
def execIngressFailClear (t : Fin 32) (skew : BitVec 14) (s : State) : Out := perform (dyn fun s =>
  if !s.chOn t.val || 10000 < skew.toNat then nop
  else seqE [put CLI_CH_STAT.ING_FAIL 0 t.val, put CLI_CH_SKEW.ALL skew.toNat t.val, put CLI_CH_STAT.SKEW 0 t.val,
    whenE (s.rd CLI_CH_STAT.STATE t.val == 4) (put CLI_CH_STAT.STATE 2 t.val)]) s

/-- CLIENT_UP (R309): the demapper is aligned and egress carries client data. -/
def execClientUp (t : Fin 32) (s : State) : Out := perform (dyn fun s =>
  let st := s.rd CLI_CH_STAT.STATE t.val
  if !s.chOn t.val || st == 3 || decide (6 ≤ st) || s.on CLI_CH_STAT.ING_FAIL t.val || s.fillTrib t.val || !s.carried t.val then nop
  else seqE [put CLI_CH_STAT.STATE 3 t.val, putB CLI_CH_STAT.LF_OUT (s.rd CLI_CH_CTRL.LOOP t.val == 2) t.val,
    raise EV.CLIENT_UP [t.val, (s.tick - Tab.get 0 s.cli.downAt t.val) * 32 / 25000000]]) s

/-- A slip of a CBR channel (R300). -/
def cbrSlip (t : Nat) (drop : Bool) : Eff := seqE [count (cliCnt t (if drop then 2 else 3)), occur EV.CBR_SLIP t [t, b2n drop, b2n (!drop)]]

/-- Whether channel `t` is a configured CBR channel. -/
def State.isCbr (s : State) (t : Nat) : Bool := s.chOn t && s.rd CLI_CH_CFG.TYPE t == 6

/-- A client frame written into a slip buffer of three (R300). -/
def cbrWrite (t : Nat) (ing : Bool) (frame : List Nat) : Eff := dyn fun s =>
  let buf := Tab.get [] (if ing then s.cli.ing else s.cli.eg) t
  let full := decide (3 ≤ buf.length)
  let buf' := (if full then buf.drop 1 else buf) ++ [frame]
  seqE [upd (.cli fun c => if ing then { c with ing := Tab.set [] c.ing t buf' } else { c with eg := Tab.set [] c.eg t buf' }), whenE full (cbrSlip t true)]

/-- A client frame read from a slip buffer: with none there, the last read again (R300). -/
def cbrRead (t : Nat) (ing : Bool) : Eff := dyn fun s =>
  match Tab.get [] (if ing then s.cli.ing else s.cli.eg) t with
  | f :: fs => upd (.cli fun c =>
      if ing then { c with ing := Tab.set [] c.ing t fs, ingLast := Tab.set [] c.ingLast t f } else { c with eg := Tab.set [] c.eg t fs, egLast := Tab.set [] c.egLast t f })
  | [] => cbrSlip t false

/-- The overhead channels forwarded between the line and client `t`. -/
def State.ohTo (s : State) (f : Fld) (t : Nat) : List Nat := (List.range 3).filter (fun c => s.rd f c == 2 && s.rd FRM_OHC_ROUTE.CLIENT c == t)

/-- CLIENT_FRAME_INGRESS (R298, R300, R272): a whole client frame and the channel frames of its overhead. In a host loop it goes back to egress;
in a line loop it goes nowhere (R318). -/
def execClientFrameIngress (t : Fin 32) (frame : List (BitVec 8)) (gcc : List (List (BitVec 8))) (s : State) : Out := perform (dyn fun s =>
  if !s.isCbr t.val || s.on CLI_CH_STAT.ING_FAIL t.val || s.rd CLI_CH_CTRL.LOOP t.val == 2 then nop
  else seqE [cbrWrite t.val (s.rd CLI_CH_CTRL.LOOP t.val == 0) (frame.map (·.toNat)),
    forE (s.ohTo FRM_OHC_ROUTE.TX_SRC t.val) (fun c => ohWrite c false ((gcc.getD c []).map (·.toNat)))]) s

/-- The next replacement frame of channel `t` (R302), toward the line or toward the host, and its MFAS counted on. -/
def State.aisNext (s : State) (t : Nat) (host : Bool) : List Nat := aisFrame (s.rd CLI_CH_CFG.M t) (Tab.get 0 s.cli.ais (2 * t + b2n host))
def CliSt.aisOn (c : CliSt) (t : Nat) (host : Bool) : CliSt := { c with ais := Tab.set 0 c.ais (2 * t + b2n host) ((Tab.get 0 c.ais (2 * t + b2n host) + 1) % 256) }

/-- CLIENT_FRAME_EGRESS (R300, R302): at each host-lane frame time the egress buffer is read; under fill the frames of R302 are sent. -/
def execClientFrameEgress (t : Fin 32) (s : State) : Out := perform (dyn fun s =>
  if !s.isCbr t.val then nop
  else if s.on CLI_CH_STAT.LF_OUT t.val then seqE [emit (.client t.val 1 (s.aisNext t.val true)), upd (.cli fun c => c.aisOn t.val true)]
  else seqE [cbrRead t.val false, forE (s.ohTo FRM_OHC_ROUTE.RX_DEST t.val) (fun c => ohRead c true),
    dyn fun s => emit (.client t.val 0 (Tab.get [] s.cli.egLast t.val))]) s

end Sys2Proof.Machine
end

