-- ==== Sys2Proof/Machine/Lanes.lean ====
section
/-!
DEFINITION. The serial lanes: training, the 8b/10b groups, eye scans and Jig (R323 to R350).
-/
namespace Sys2Proof.Machine
open Sys2Proof

/-! ### Lanes and channels -/

/-- The lanes a two-word mask names (R347). -/
def lanesIn (lo hi : Nat) : List Nat := bitsSet 34 (lo + 2 ^ 32 * hi)

/-- The configured channel that holds host lane `n`. -/
def State.chanOf (s : State) (n : Nat) : Option Nat := if n < 16 then s.channels.find? (fun t => (s.lanesOf t).contains n) else none

/-- A host lane that fails or retrains under a configured channel is an ingress failure of it (R328). -/
def laneIngress (n : Nat) : Eff := dyn fun s =>
  match s.chanOf n with
  | none => nop
  | some t => seqE [whenE (!s.on CLI_CH_STAT.ING_FAIL t && s.rd CLI_CH_STAT.STATE t == 3) (chDown t 4 1), put CLI_CH_STAT.ING_FAIL 1 t]

/-- A channel whose lanes are all up goes on from lanes training to aligning (Table 8.9). -/
def laneReady (n : Nat) : Eff := dyn fun s =>
  match s.chanOf n with
  | none => nop
  | some t => whenE (s.rd CLI_CH_STAT.STATE t == 1 && (s.lanesOf t).all s.laneUp) (put CLI_CH_STAT.STATE 2 t)

/-- Lane `n` starts training (R327 to R329). -/
def startTraining (n : Nat) : Eff := seqE [put SRD_LANE_STAT.STATE 2 n, put SRD_LANE_STAT.SYNC 0 n, laneIngress n]

/-- The group of a lane and its index within it. -/
def laneGrp (n : Nat) : Option (Nat × Nat) := if 16 ≤ n ∧ n ≤ 19 then some (0, n - 16) else if n = 20 ∨ n = 21 then some (1, n - 20) else none

/-- ACTIVE of a group, transmit and receive (Table 9.8). -/
def grpTx (g : Nat) : Fld := if g = 0 then SRD_GRP_STAT.MITRE_TX else SRD_GRP_STAT.BATTEN_TX
def grpRx (g : Nat) : Fld := if g = 0 then SRD_GRP_STAT.MITRE_RX else SRD_GRP_STAT.BATTEN_RX

/-- Whether lane `n` carries traffic: a host lane of a configured channel, a lane in ACTIVE of its group, a PCIe lane that is up. -/
def State.traffic (s : State) (n : Nat) : Bool :=
  match laneGrp n with
  | some (g, k) => bit (s.rd (grpTx g) ||| s.rd (grpRx g)) k
  | none => if n < 16 then (s.chanOf n).isSome else s.laneUp n

/-! ### Commands -/

def SRD_LANE_CTRL.fields : List Fld := [SRD_LANE_CTRL.TX_INV, SRD_LANE_CTRL.RX_INV, SRD_LANE_CTRL.RX_FREEZE, SRD_LANE_CTRL.TRAIN]
def SRD_TXFIR.fields : List Fld := [SRD_TXFIR.PRE2, SRD_TXFIR.PRE1, SRD_TXFIR.MAIN, SRD_TXFIR.POST1]

/-- The limits of R326 on an equaliser word. -/
def firOk (w : Nat) : Bool := wordOk SRD_TXFIR.fields w && decide ((SRD_TXFIR.fields.map (fun f => (f.int (f.raw w)).natAbs)).foldl (· + ·) 0 ≤ 64)

def opSrdLaneSet : OpDef := ⟨0x0801, len 4, cfgStates, fun _ p _ =>
  let ls := lanesIn (nth p 0) (nth p 1)
  if 3 < nth p 1 then no .badParam
  else if ls.any (fun n => decide (n < 16)) && !firOk (nth p 3) then no .range
  else okE (forE ls fun n => dyn fun s => seqE [putWord SRD_LANE_CTRL.fields (nth p 2) n, whenE (decide (n < 16)) (putWord SRD_TXFIR.fields (nth p 3) n),
    whenE (bit (nth p 2) 4 && s.rd SRD_LANE_STAT.STATE n != 0) (startTraining n)])⟩
/-- SRD_LANE_SET (R326, R327, R347). -/
def execSrdLaneSet (h : CmdHdr) (p : List Word) (s : State) : Out := perform (felwin opSrdLaneSet h p) s

def SRD_LANE_STAT.fields : List Fld := [SRD_LANE_STAT.RETRAINS, SRD_LANE_STAT.IN_GROUP, SRD_LANE_STAT.SYNC, SRD_LANE_STAT.SIG, SRD_LANE_STAT.SCAN, SRD_LANE_STAT.STATE]
def SRD_GRP_STAT.fields : List Fld := [SRD_GRP_STAT.MITRE_TX, SRD_GRP_STAT.MITRE_RX, SRD_GRP_STAT.BATTEN_TX, SRD_GRP_STAT.BATTEN_RX]

/-- The index of counter `c` of lane `n` (Table 16.1): 0 CERR, 1 PKT_DROP, 2 JIG_BITS, 3 JIG_ERR. -/
def srdCnt (n c : Nat) : Nat := 672 + 4 * n + c

def opSrdStatus : OpDef := ⟨0x0802, len 2, upStates, fun _ p _ =>
  if 3 < nth p 1 then no .badParam
  else okP nop (fun s => s.word SRD_GRP_STAT.fields :: (lanesIn (nth p 0) (nth p 1)).flatMap (fun n =>
    [s.word SRD_LANE_STAT.fields n, s.word [SRD_EYE_SUM.WIDTH, SRD_EYE_SUM.HEIGHT] n] ++ s.bankWords64 (srdCnt n 0) ++ s.bankWords64 (srdCnt n 1)))⟩
/-- SRD_STATUS (R347); the counts are those of the register bank (R582). -/
def execSrdStatus (h : CmdHdr) (p : List Word) (s : State) : Out := perform (felwin opSrdStatus h p) s

def opSrdEyeScan : OpDef := ⟨0x0803, len 5, cfgStates, fun h p s =>
  let n := nth p 0
  if 33 < n || 1 < nth p 2 || !(if n < 16 then decide (nth p 1 < 3) else nth p 1 == 3) then no .badParam
  else if nth p 3 < 5 ∨ 10 < nth p 3 ∨ nth p 4 < 3 ∨ 9 < nth p 4 then no .range
  else if 8 ≤ s.srd.scans.length || s.on SRD_LANE_STAT.SCAN n || s.rd SRD_LANE_STAT.STATE n == 2 then no .busy
  else pendE (seqE [put SRD_LANE_STAT.SCAN 1 n, upd (.srd fun x => { x with scans := x.scans ++ [⟨n, nth p 1, nth p 2, nth p 3, nth p 4, runOf h 0x0803 p⟩] })])⟩
/-- SRD_EYE_SCAN (R338, R339). -/
def execSrdEyeScan (h : CmdHdr) (p : List Word) (s : State) : Out := perform (felwin opSrdEyeScan h p) s

/-- The points of a scan as row and phase step, rows from the highest voltage down (R338, Table 9.5): all, or the centre row and column, number 32. -/
def scanPoints (quick : Nat) : List (Nat × Nat) :=
  ((List.range 64).flatMap (fun r => (List.range 64).map (fun p => (r, p)))).filter (fun x => quick != 1 || x.1 == 32 || x.2 == 32)

/-- The entry of a point with `errs` errors in 10^`d` bits (R340; log entry 147: to nearest by a logarithm in thousandths); 0xFFFE not measured. -/
def scanEntry (d : Nat) : Option Nat → Nat
  | none => 0xFFFE
  | some 0 => 0xFFFF
  | some e => min 0xFFFD ((16000 * d + 500 - (16 * dbOf (e * 2 ^ 64)).toNat) / 1000)

/-- The length of the longest run of true values that holds place `i`. -/
def runAt (xs : List Bool) (i : Nat) : Nat :=
  if xs.getD i false then ((xs.drop i).takeWhile id).length + (((xs.take i).reverse).takeWhile id).length else 0

/-- Whether the error ratio at a point is at most 10^−t (R341). -/
def eyeOpen (d t : Nat) : Option Nat → Bool
  | none => false
  | some e => decide (e * 10 ^ t ≤ 10 ^ d)

/-- The width in mUI and the height in 0.1 mV of a scan (R341): of the centre row about the data-sampler phase, and of the centre column about the centre,
from the errors of its points and the voltage step in 0.01 mV. -/
def eyeFigures (e : EyeScan) (errs : List (Option Nat)) (vstep phase : Nat) : Nat × Nat :=
  let at_ (x : Nat × Nat) : Bool := eyeOpen e.d e.t ((((scanPoints e.quick).zip errs).find? (fun q => q.1 == x)).bind (·.2))
  (runAt ((List.range 64).map (fun p => at_ (32, p))) phase * 1000 / 64, runAt ((List.range 64).map (fun r => at_ (r, 32))) 32 * vstep / 10)

/-- The result words of a scan (Table 9.5). -/
def scanWords (e : EyeScan) (width height vstep phase : Nat) (errs : List (Option Nat)) : List Nat :=
  [64 * 2 ^ 24 + 64 * 2 ^ 16 + e.d * 4096 + e.quick * 2048 + e.eye * 256 + e.lane, width * 65536 + height, vstep * 65536 + e.t * 256 + phase] ++
  packHalves ((List.range (scanPoints e.quick).length).map (fun k => scanEntry e.d (errs.getD k none)))

/-- An eye figure judged against its threshold (R202, R342), with the table's hysteresis of 2 dB in amplitude. `key` keeps width and
height apart. -/
def judgeEye (key n v thr : Nat) : Eff := dyn fun s =>
  if v < thr && !s.cnv.low.contains (key, n) then seqE [upd (.cnv fun c => { c with low := (key, n) :: c.low }), raise EV.CAL_QUALITY_LOW [6, n, v]]
  else whenE (decide (thr * 12589 ≤ v * 10000)) (upd (.cnv fun c => { c with low := c.low.filter (· != (key, n)) }))

/-- The smallest width and height among a lane's eyes last scanned (R341). -/
def SrdSt.least (x : SrdSt) (n : Nat) : Nat × Nat :=
  let es := (x.eyes.filter (fun e => e.1 / 4 == n)).map (·.2)
  match es with
  | [] => (0, 0)
  | e :: r => r.foldl (fun a b => (min a.1 b.1, min a.2 b.2)) e

/-- EYE_DONE (R339 to R342): the scan of lane `n` ends, or is ABORTED where the lane trains, was dropped or lost power; `errs` are the errors of the points
measured, `vstep` the voltage step in 0.01 mV, `phase` the data sampler's phase step. -/
def execEyeDone (n : Fin 34) (aborted : Bool) (errs : List (Option Nat)) (vstep : BitVec 16) (phase : BitVec 8) (s : State) : Out := perform (dyn fun s =>
  match s.srd.scans.find? (fun e => e.lane == n.val) with
  | none => nop
  | some e =>
    let bad := aborted || [0, 2, 5].contains (s.rd SRD_LANE_STAT.STATE n.val)
    let st : Status := if bad then .aborted else .ok
    let (w, h) := eyeFigures e errs vstep.toNat phase.toNat
    seqE [put SRD_LANE_STAT.SCAN 0 n.val, upd (.srd fun x => { x with scans := x.scans.filter (fun f => f.lane != n.val) }),
      whenE (!bad) (seqE [upd (.srd fun x => { x with eyes := Tab.insert x.eyes (4 * n.val + e.eye) (w, h) }),
        dyn fun s => seqE [put SRD_EYE_SUM.WIDTH (s.srd.least n.val).1 n.val, put SRD_EYE_SUM.HEIGHT (s.srd.least n.val).2 n.val],
        judgeEye 106 n.val w (10 * s.rd (if n.val < 16 then SRD_EYE_THR.W_PAM4 else SRD_EYE_THR.W_NRZ)),
        judgeEye 107 n.val h (10 * s.rd (if n.val < 16 then SRD_EYE_THR.H_PAM4 else SRD_EYE_THR.H_NRZ))]),
      finish e.run st (scanWords e w h vstep.toNat phase.toNat errs),
      raise EV.EYE_DONE [n.val, w, h, st.code]]) s

/-! ### Jig -/

def SRD_JIG_CFG.fields : List Fld := [SRD_JIG_CFG.GEN_PAT, SRD_JIG_CFG.CHK_PAT, SRD_JIG_CFG.GEN_EN, SRD_JIG_CFG.CHK_EN, SRD_JIG_CFG.INJ, SRD_JIG_CFG.RATE, SRD_JIG_CFG.BURST]

/-- Whether a Jig word is legal on lane `n` (R343, R346): a generator, or injection into traffic, on a lane that carries traffic only in
MAINT; a generator on Batten only with one device on the ring. -/
def State.jigLegal (s : State) (n w : Nat) : Bool :=
  let gen := bit w 23
  !((gen || SRD_JIG_CFG.INJ.raw w != 0) && s.traffic n && s.dev != 4) && !(gen && (n == 20 || n == 21) && decide (1 < s.rd CMD_BAT_STAT.COUNT))

/-- SSPRQ exists on PAM4 lanes alone (Table 9.6). -/
def jigPatOk (n w : Nat) : Bool := decide (n < 16) || (SRD_JIG_CFG.GEN_PAT.raw w != 6 && SRD_JIG_CFG.CHK_PAT.raw w != 6)

/-- Whether field `f` of a write of `w` to SRD_JIG_CFG of lane `n` takes effect (R9): in its range, a pattern the lane has, a generator or injection
that is legal there. -/
def State.jigField (s : State) (n w : Nat) (f : Fld) : Bool :=
  f.inRange (f.raw w) && (if f.lo = SRD_JIG_CFG.GEN_PAT.lo ∨ f.lo = SRD_JIG_CFG.CHK_PAT.lo then decide (n < 16) || f.raw w != 6
    else if f.lo = SRD_JIG_CFG.GEN_EN.lo then s.jigLegal n (f.raw w * 2 ^ f.lo)
    else if f.lo = SRD_JIG_CFG.INJ.lo then s.jigLegal n (f.raw w * 2 ^ f.lo) else true)

/-- What Jig does on a lane as it stands (R343, R345). -/
def jigSignal (n : Nat) : Eff := dyn fun s =>
  emit (.jig n (if s.on SRD_JIG_CFG.GEN_EN n then some (s.rd SRD_JIG_CFG.GEN_PAT n) else none) (s.rd SRD_JIG_USER.ALL n)
    (if s.rd SRD_JIG_CFG.INJ n = 2 then some (s.rd SRD_JIG_CFG.RATE n) else none))

/-- A Jig word takes effect: the lane shows Jig while its generator runs and goes back afterwards; a checker switched off is unlocked. -/
def setJig (n w : Nat) : Eff := dyn fun s =>
  let was := s.on SRD_JIG_CFG.GEN_EN n
  let gen := bit w 23
  seqE [putWord SRD_JIG_CFG.fields w n, jigSignal n, whenE (!bit w 22) (put SRD_JIG_CFG.LOCK 0 n),
    whenE (gen && !was) (seqE [put SRD_LANE_STAT.STATE 7 n, laneIngress n]),
    whenE (was && !gen) (put SRD_LANE_STAT.STATE (if (s.chanOf n).isSome then 2 else if s.on SRD_LANE_STAT.SYNC n then 3 else 1) n)]

/-- Leaving MAINT turns the generator and injection off on lanes that carry traffic (R346). -/
def leaveJig : Eff := dyn fun s => forE ((List.range 22).filter (fun n => s.traffic n && (s.on SRD_JIG_CFG.GEN_EN n || s.rd SRD_JIG_CFG.INJ n != 0)))
  (fun n => setJig n (s.word (SRD_JIG_CFG.fields.filter (fun f => f.lo != 23 && f.lo != 20)) n))

/-- The bits a write of INJ_GO flips (R345). -/
def injectGo (n : Nat) : Eff := dyn fun s =>
  match s.rd SRD_JIG_CFG.INJ n with
  | 1 => emit (.inject n 1)
  | 3 => emit (.inject n (s.rd SRD_JIG_CFG.BURST n))
  | _ => nop

def opSrdJigSet : OpDef := ⟨0x0804, len 4, cfgStates, fun _ p s =>
  if 21 < nth p 0 then no .badParam
  else if !wordOk SRD_JIG_CFG.fields (nth p 1) || !jigPatOk (nth p 0) (nth p 1) then no .range
  else if !s.jigLegal (nth p 0) (nth p 1) then no .state
  else okE (seqE [put SRD_JIG_USER.ALL (nth p 2 + 2 ^ 32 * nth p 3) (nth p 0), setJig (nth p 0) (nth p 1), whenE (bit (nth p 1) 7) (injectGo (nth p 0))])⟩
/-- SRD_JIG_SET (R343 to R346). -/
def execSrdJigSet (h : CmdHdr) (p : List Word) (s : State) : Out := perform (felwin opSrdJigSet h p) s

def opSrdJigGet : OpDef := ⟨0x0805, len 2, cfgStates, fun _ p _ =>
  if 0x3FFFFF < nth p 0 ∨ 0 < nth p 1 then no .badParam
  else okP (upd .snap) (fun s =>
    let c := fun j => w64 (s.cnt j + Tab.get 0 s.wraps j * 2 ^ 48)
    s.snapGen :: (bitsSet 22 (nth p 0)).flatMap (fun n => s.rd SRD_JIG_CFG.LOCK n :: (c (srdCnt n 2) ++ c (srdCnt n 3))))⟩
/-- SRD_JIG_GET (R347, R583). -/
def execSrdJigGet (h : CmdHdr) (p : List Word) (s : State) : Out := perform (felwin opSrdJigGet h p) s

/-- The lane counters clear. -/
def srdCntClr : Eff := fun _ => (List.range 136).map (fun k => .preset (672 + k) 0)

/-- SRD_CNT_CLR (R348): a write of 1 to SRD_CTRL.CNT_CLR; the sandbox's is ignored (R585). -/
def execSrdCntClr (m : Mast) (s : State) : Out := perform (byMaster m SRD_CTRL.CNT_CLR 0 srdCntClr) s

/-- A powered lane trains anew. -/
def retrain (n : Nat) : Eff := dyn fun s => whenE (s.rd SRD_LANE_STAT.STATE n != 0) (startTraining n)

/-- LANE_RETRAIN (R327): a write of 1 to SRD_LANE_CTRL.RETRAIN. -/
def execLaneRetrain (m : Mast) (n : Fin 34) (s : State) : Out := perform (byMaster m SRD_LANE_CTRL.RETRAIN n (retrain n)) s

/-- A write of 1 to INJ_GO; into traffic outside MAINT it is refused. -/
def injGoWrite (m n : Nat) : Eff := dyn fun s =>
  if s.traffic n && s.dev != 4 then flagAcc m SYS_ACC_STAT.RANGE (SRD_JIG_CFG.INJ_GO.at n) else injectGo n

/-- JIG_INJECT (R345, R346): a write of 1 to SRD_JIG_CFG.INJ_GO; into traffic only in MAINT. -/
def execJigInject (m : Mast) (n : Fin 22) (s : State) : Out := perform (byMaster m SRD_JIG_CFG.INJ_GO n (injGoWrite m n)) s

/-- JIG_LOCK (R344): the checker locks; while it is locked, `bits` more have been checked with `errs` errors. -/
def execJigLock (n : Fin 22) (bits errs : Nat) (s : State) : Out := perform (dyn fun s =>
  if s.on SRD_JIG_CFG.LOCK n.val then seqE [count (srdCnt n.val 2) bits, count (srdCnt n.val 3) errs]
  else whenE (s.on SRD_JIG_CFG.CHK_EN n.val) (seqE [put SRD_JIG_CFG.LOCK 1 n.val, raise EV.JIG_LOCK [n.val]])) s

/-- JIG_UNLOCK (R344): the checker loses lock; `bits` and `errs` were counted while it was locked. -/
def execJigUnlock (n : Fin 22) (bits errs : Nat) (s : State) : Out := perform (dyn fun s =>
  whenE (s.on SRD_JIG_CFG.LOCK n.val) (seqE [count (srdCnt n.val 2) bits, count (srdCnt n.val 3) errs, put SRD_JIG_CFG.LOCK 0 n.val,
    dyn fun s => raise EV.JIG_UNLOCK [n.val, s.cnt (srdCnt n.val 3)]])) s

/-! ### Power, training, signal -/

/-- The lanes of step `k` of Table 9.2. -/
def powerStep (k : Nat) : List Nat :=
  match k with
  | 0 => [20, 21, 22, 23, 24, 25]
  | 1 => [0, 1, 2, 3]
  | 2 => [4, 5, 6, 7]
  | 3 => [8, 9, 10, 11]
  | 4 => [12, 13, 14, 15]
  | _ => [16, 17, 18, 19] ++ (List.range 8).map (26 + ·)

/-- LANE_POWER_UP (R329): step `k` of Table 9.2; a host lane a channel holds starts training. -/
def execLanePowerUp (k : Fin 6) (s : State) : Out := perform (forE (powerStep k.val) fun n => dyn fun s =>
  whenE (s.rd SRD_LANE_STAT.STATE n == 0) (put SRD_LANE_STAT.STATE (if (s.chanOf n).isSome then 2 else 1) n)) s

/-- LANE_TRAINED (R327): a lane reaches the up state. -/
def execLaneTrained (n : Fin 34) (s : State) : Out := perform (dyn fun s =>
  let st := s.rd SRD_LANE_STAT.STATE n.val
  whenE (st == 2 || (st == 1 && decide (16 ≤ n.val))) (seqE [put SRD_LANE_STAT.STATE 3 n.val, put SRD_LANE_STAT.SYNC 1 n.val, put SRD_LANE_STAT.SIG 1 n.val, laneReady n.val])) s

/-- TRAIN_TIMEOUT (R328). -/
def execTrainTimeout (n : Fin 34) (s : State) : Out := perform (dyn fun s =>
  whenE (s.rd SRD_LANE_STAT.STATE n.val == 2) (seqE [put SRD_LANE_STAT.STATE 4 n.val, laneIngress n.val, raise EV.TRAIN_FAIL [n.val, s.rd SRD_LANE_STAT.RETRAINS n.val]])) s

/-- TRAIN_RETRY (R328): one second after a training failure. -/
def execTrainRetry (n : Fin 34) (s : State) : Out := perform (dyn fun s => whenE (s.rd SRD_LANE_STAT.STATE n.val == 4) (put SRD_LANE_STAT.STATE 2 n.val)) s

/-- LANE_SIGNAL_LOSS (R328): a lane in traffic retrains by itself, and the retrain is counted. -/
def execLaneSignalLoss (n : Fin 34) (s : State) : Out := perform (dyn fun s =>
  whenE (s.rd SRD_LANE_STAT.STATE n.val == 3) (seqE [put SRD_LANE_STAT.SIG 0 n.val, bump SRD_LANE_STAT.RETRAINS 1 n.val, startTraining n.val])) s

/-! ### Groups -/

/-- Group `g`, a change to it, and the lane index of its lane `k`. -/
def SrdSt.grp (x : SrdSt) (g : Nat) : GrpSt := if g = 0 then x.mitre else x.batten
def modGrp (g : Nat) (f : GrpSt → GrpSt) : Eff := upd (.srd fun x => if g = 0 then { x with mitre := f x.mitre } else { x with batten := f x.batten })
def grpLane (g k : Nat) : Nat := if g = 0 then 16 + k else 20 + k

/-- IN_GROUP of the group's lanes follows ACTIVE. -/
def syncGroup (g : Nat) : Eff := fun s => (List.range (if g = 0 then 4 else 2)).map (fun k =>
  .put SRD_LANE_STAT.IN_GROUP (grpLane g k) (b2n (bit (s.rd (grpTx g) ||| s.rd (grpRx g)) k)))

/-- ACTIVE of a direction becomes `mask`; lanes that had left and are in it again raise LANE_RESTORE (R335, R336). -/
def setActive (g : Nat) (tx : Bool) (mask : Nat) : Eff := dyn fun s =>
  let f := if tx then grpTx g else grpRx g
  let old := s.rd f
  let lost := if tx then (s.srd.grp g).lostTx else (s.srd.grp g).lostRx
  let lost' := (lost ||| old) &&& (15 - mask % 16)
  if old = mask then nop
  else seqE [put f mask, modGrp g (fun y => if tx then { y with lostTx := lost' } else { y with lostRx := lost' }), syncGroup g,
    forE ((List.range 4).filter (fun k => bit mask k && bit lost k)) (fun k => raise EV.LANE_RESTORE [grpLane g k, mask])]

/-- A lane leaves GOOD (R334). -/
def dropLane (g k cause : Nat) : Eff := seqE [modGrp g (fun y => { y with good := clrBit y.good k }), put SRD_LANE_STAT.STATE 5 (grpLane g k), put SRD_LANE_STAT.SYNC 0 (grpLane g k),
  raise EV.LANE_DROP [grpLane g k, cause]]

/-- One ALIGN period on lane `k` of group `g` (R333, R334, R336): causes 1 synchronisation, 2 ALIGN, 3 errors. -/
def alignLane (g k : Nat) (a : AlignLane) : Eff := dyn fun s =>
  let n := grpLane g k
  let st := s.rd SRD_LANE_STAT.STATE n
  let missed := if a.seen then 0 else nth (s.srd.grp g).missed k + 1
  seqE [count (srdCnt n 0) a.errs, modGrp g (fun y => { y with missed := y.missed.set k missed }), putB SRD_LANE_STAT.SIG (a.sync || a.seen) n,
    if bit (s.srd.grp g).good k then
      (if !a.sync then dropLane g k 1 else if 2 ≤ missed then dropLane g k 2 else whenE (decide (16 < a.errs)) (dropLane g k 3))
    else if (st == 1 || st == 2 || st == 3) && a.sync then seqE [put SRD_LANE_STAT.STATE 3 n, put SRD_LANE_STAT.SYNC 1 n, modGrp g (fun y => { y with good := setBit y.good k })]
    else if st == 5 && a.sync then seqE [put SRD_LANE_STAT.STATE 6 n, put SRD_LANE_STAT.SYNC 1 n]
    else whenE (st == 6 && !a.sync) (seqE [put SRD_LANE_STAT.STATE 5 n, put SRD_LANE_STAT.SYNC 0 n])]

/-- Whether the active lanes' ALIGNs came within 64 code groups with equal SEQ (R332). -/
def alignedNow (mask : Nat) (ls : List AlignLane) : Bool :=
  let as := ((List.range ls.length).zip ls).filter (fun p => bit mask p.1) |>.map (·.2)
  !as.isEmpty && as.all (fun a => a.seen && as.all (fun b => decide (a.pos ≤ b.pos + 64) && a.seq == b.seq))

/-- The check byte of a TOKEN (Table 9.3). -/
def tokenCheck (a n : Nat) : Nat := a ^^^ n ^^^ 0xA5

/-- A TOKEN as it is sent. -/
def tokenOut (a n : Nat) : Output := .token a n (tokenCheck a n)

/-- The head sends TOKEN(1, 0) (R629, Table 17.6); `busy` where R630 counts the enumeration as running. -/
def startEnum (busy : Bool) : Eff := seqE [put CMD_BAT_STAT.ENUM 1, emit (tokenOut 1 0),
  upd (.cmd fun c => { c with enumBusy := busy, tokenOut := some (1, 0), retryDue := false })]

/-- A head whose Batten group is not up holds n = 1 and runs no enumeration (R628). -/
def stopEnum : Eff := dyn fun s => whenE (s.on CMD_BAT_STAT.HEAD) (seqE [put CMD_BAT_STAT.COUNT 1, put CMD_BAT_STAT.ENUM 0,
  upd (.cmd fun c => { c with enumBusy := false, tokenOut := none, retryDue := false })])

/-- Group `g` has come up or gone down: a head enumerates its ring each time its Batten group comes up (R629). -/
def groupTurns (g : Nat) (isUp : Bool) : Eff := dyn fun s => whenE (g == 1) (if isUp then whenE (s.on CMD_BAT_STAT.HEAD) (startEnum true) else stopEnum)

/-- Deskew and the group's state (R332, R337). -/
def judgeGroup (g : Nat) (ls : List AlignLane) : Eff := dyn fun s =>
  let y := s.srd.grp g
  let run := if alignedNow (s.rd (grpRx g)) ls then y.aligned + 1 else 0
  seqE [modGrp g (fun y => { y with aligned := min run 2 }),
    if y.up && y.good == 0 then seqE [modGrp g (fun y => { y with up := false }), raise EV.GROUP_DOWN [g, 2], groupTurns g false]
    else whenE (!y.up && y.good != 0 && decide (2 ≤ run)) (seqE [modGrp g (fun y => { y with up := true }), raise EV.GROUP_UP [g, s.rd (grpRx g)], groupTurns g true])]

/-- The transmit width follows the far GOOD (R335, R337). -/
def judgeWidth (g farGood : Nat) : Eff := dyn fun s =>
  let y := s.srd.grp g
  let since := min 4 (y.since + 1)
  match y.next with
  | some (m, k) =>
    if k < 2 then modGrp g (fun y => { y with next := some (m, k + 1), since := since })
    else seqE [modGrp g (fun y => { y with next := none, since := 0, diff := 0 }), setActive g true m, whenE (m == 0) (raise EV.GROUP_DOWN [g, 1])]
  | none =>
    let diff := if farGood = s.rd (grpTx g) then 0 else y.diff + 1
    if 2 ≤ diff ∧ 4 ≤ since then modGrp g (fun y => { y with next := some (farGood, 0), diff := 0, since := since })
    else modGrp g (fun y => { y with diff := diff, since := since })

/-- The receiver's ACTIVE follows the far transmitter's (R335): a NEXT that two ALIGNs in a row have carried applies from this one. -/
def farWidth (g active next : Nat) : Eff := dyn fun s =>
  let y := s.srd.grp g
  match y.farNext with
  | some (m, 2) => seqE [modGrp g (fun y => { y with farNext := none }), setActive g false m]
  | _ =>
    let run := match y.farNext with | some (m, k) => if m = next then k + 1 else 1 | none => 1
    seqE [modGrp g (fun y => { y with farNext := if next = active then none else some (next, run) }), setActive g false active]

/-- ALIGN (R332 to R337): one ALIGN period of a group, what each of its lanes showed, and the far end's ACTIVE, NEXT and GOOD; the device's own
ALIGN goes out. -/
def execAlign (g : Fin 2) (lanes : List AlignLane) (active next good : BitVec 4) (s : State) : Out := perform (
  let w := if g.val = 0 then 4 else 2
  let ls := lanes.take w
  seqE [forE ((List.range w).zip ls) (fun p => alignLane g.val p.1 p.2), farWidth g.val (active.toNat % 2 ^ w) (next.toNat % 2 ^ w), judgeGroup g.val ls, judgeWidth g.val (good.toNat % 2 ^ w),
    dyn fun s => seqE [emit (.align g.val (s.rd (grpTx g.val)) (((s.srd.grp g.val).next.map (·.1)).getD (s.rd (grpTx g.val))) (s.srd.grp g.val).good (s.srd.grp g.val).seq),
      modGrp g.val (fun y => { y with seq := (y.seq + 1) % 16 })]]) s

/-- LANE_WTR_END (R336): a RETURNING lane has passed the wait-to-restore time and is GOOD again. -/
def execLaneWtrEnd (n : Fin 34) (s : State) : Out := perform (dyn fun s =>
  match laneGrp n.val with
  | none => nop
  | some (g, k) => whenE (s.rd SRD_LANE_STAT.STATE n.val == 6) (seqE [put SRD_LANE_STAT.STATE 3 n.val, modGrp g (fun y => { y with good := setBit y.good k })])) s

/-- The bytes of a received packet's code groups (R331): those from its SOP to its EOP. -/
def packetBytes (gs : List CodeGroup) : List Nat :=
  ((gs.dropWhile (· != .sop)).drop 1).takeWhile (· != .eop) |>.filterMap (fun x => match x with | .data b => some b.toNat | _ => none)

/-- PACKET_RX (R331, R333): a packet of group `g` arrives as columns of code groups on the lanes of the receiver's ACTIVE; `noAlign` says that an ALIGN is
missing within it. With that or an errored code group it is discarded whole, and counted on each lane an errored group fell on. -/
def execPacketRx (g : Fin 2) (cols : List (List CodeGroup)) (noAlign : Bool) (s : State) : Out := perform (dyn fun s =>
  let lanes := bitsSet 4 (s.rd (grpRx g.val))
  let bad := ((List.range lanes.length).zip lanes).filter (fun l => cols.any (fun c => c.getD l.1 .pad == .bad))
  if !bad.isEmpty || noAlign then forE bad (fun l => count (srdCnt (grpLane g.val l.2) 1))
  else emit (.packet g.val (packetBytes cols.flatten))) s

end Sys2Proof.Machine
end

