-- ==== Sys2Proof/Machine/Engines.lean ====
section
/-!
DEFINITION. The Tenon engines (R631 to R639, R543 to R545): failure and migration, the return of an engine, firmware update in service
and the sandbox; entry to FAULT (R621) and the leaving of MAINT (R622).
-/
namespace Sys2Proof.Machine
open Sys2Proof

/-! ### Device states -/

/-- Leaving MAINT ends the maintenance functions (R622; R243, R266, R318, R346). -/
def leaveMaint : Eff := seqE [leaveInject, leaveLoops, leaveJig, put FRM_CTRL.FILL_FORCE 0, put FRM_CTRL.BDI_FORCE 0, judgeFill]

/-- The device state becomes `new` (R620), with STATE_CHANGE. -/
def setDev (new : Nat) : Eff := dyn fun s => seqE [put CMD_STATUS.STATE new, whenE (s.dev == 4 && new != 4) leaveMaint,
  raise EV.STATE_CHANGE [s.dev, new, s.rd CMD_STATUS.FAULT_CAUSE]]

/-- The device enters FAULT with cause bit `c` recorded (R620, R621); from BOOT it cannot. An ACTIVE unit declares itself failed;
a unit of another role whose mate is STANDBY or STALE goes to OOS (Table 14.3). `trigger` is the row of Table 14.7. -/
def enterFault (c trigger : Nat) : Eff := seqE [fun s => [.put CMD_STATUS.FAULT_CAUSE 0 (setBit (s.rd CMD_STATUS.FAULT_CAUSE) c)], dyn fun s =>
  whenE (s.dev != 0 && s.dev != 5) (seqE [setDev 5,
    if s.role == 1 then unitFails trigger else whenE (s.paired && s.role != 0 && s.mateReady) (setRole 0 1)])]

/-! ### Failure and migration -/

/-- Whether engine `e` is a spare that runs and awaits no task (R35, R36). -/
def State.spareFree (s : State) (e : Nat) : Bool := s.rd ENG_CORE.STATE e == 1 && !s.eng.migs.any (fun m => m.spare == e)

/-- The spare of R36 and R37 for task `t` that engine `e` can run no longer: a free spare of the task's own cluster, else, in clusters 0 to 6, one of the
lowest-numbered other cluster. -/
def State.spareFor (s : State) (e t : Nat) : Option Nat :=
  let ofCluster (c : Nat) := ((List.range 8).map (8 * c + ·)).filter (fun x => x != e && s.spareFree x)
  (ofCluster (t / 8) ++ if 56 ≤ t then [] else (List.range 7).flatMap ofCluster).head?

/-- The engine's state in both blocks that show it (Tables 14.15 and 17.13); the pair block has no code for probation and stopped tasks. -/
def setEng (e st : Nat) : Eff := seqE [put ENG_CORE.STATE st e, whenE (decide (st ≤ 4)) (put PAIR_ENG.STATE st e)]

/-- Engine `e` holds no task. -/
def dropTask (e : Nat) : Eff := seqE [put ENG_CORE.TASK 255 e, put PAIR_ENG.RUNS_FOR 255 e]

/-- Engine `e` serves task `t`; RUNS_FOR names the task's own engine where that is another. -/
def giveTask (e t : Nat) : Eff := seqE [setEng e 0, put ENG_CORE.TASK t e, put PAIR_ENG.RUNS_FOR (if t = e then 255 else t) e]

/-- The entry for a task that engine `e` runs or is to run in place of another. -/
def State.migBy (s : State) (e : Nat) : Option Migration := s.eng.migs.find? (fun m => m.spare == e)

/-- The entry of the task that engine `e` failed with. -/
def State.migOf (s : State) (e : Nat) : Option Migration := s.eng.migs.find? (fun m => m.failed == e)

/-- The task engine `e` runs or is to run; 255 none. -/
def State.taskOf (s : State) (e : Nat) : Nat := match s.migBy e with | some m => m.task | none => s.rd ENG_CORE.TASK e

/-- Task `t` of engine `e` goes to a spare (R633), or stops with FAULT where none is free (R545). Sandbox tasks too, by R639. -/
def migrate (e t : Nat) : Eff := dyn fun s =>
  match s.spareFor e t with
  | some sp => seqE [raise EV.SPARE_TAKEOVER [e, sp], put PAIR_ENG.RUNS_FOR t sp, upd (.eng fun g => { g with migs :=
      (match s.migBy e with
       | some m => g.migs.map (fun x => if x.spare == e then { m with spare := sp, resumed := false, due := false } else x)
       | none => g.migs ++ [⟨e, sp, t, false, false⟩]) })]
  | none => seqE [raise EV.SPARE_NONE [e, t], upd (.eng fun g => { g with migs := g.migs.filter (fun m => m.spare != e) }), enterFault 0 5]

/-- Engine `e` fails with cause 1 watchdog, 2 ECC or 3 trap (R632, R633): halted and failed, its task, if it has one, migrates. -/
def failEngine (e cause : Nat) : Eff := dyn fun s =>
  let t := s.taskOf e
  seqE [put ENG_CORE.CAUSE cause e, whenE (cause == 1) (bump PAIR_ENG.FAILS 1 e),
    if cause = 2 then raise EV.ENG_ECC [e, 1, 2] else raise EV.ENG_WATCHDOG [e, t],
    setEng e 2, dropTask e, whenE (t != 255) (migrate e t)]

/-! ### Firmware update -/

/-- Whether engine `e` took a task in the running update and so runs the new image. -/
def FwUpdate.took (u : FwUpdate) (e : Nat) : Bool := u.swaps.any (fun w => w.2 == e)

/-- The engine to be updated next (R635): clusters 6 down to 0, in each the serving engines in increasing index. -/
def State.fwNext (s : State) : Option Nat :=
  match s.eng.update with
  | none => none
  | some u => ((List.range 7).reverse.flatMap (fun c => (List.range 8).map (8 * c + ·))).find? (fun e => s.rd ENG_CORE.STATE e == 0 && !u.took e)

/-- Shows the engine in progress. -/
def fwShow (e phase : Nat) : Eff := seqE [put ENG_FW_STAT.CLUSTER (e / 8), put ENG_FW_STAT.ENGINE e, put ENG_FW_STAT.PHASE phase]

/-- The update goes on to its next engine, or ends with every engine updated (R636). -/
def fwNextStep : Eff := dyn fun s =>
  match s.eng.update, s.fwNext with
  | some _, some e => fwShow e 2
  | some u, none =>
    let hdr := (s.eng.staged.map (·.hdr)).getD []
    seqE [put ENG_FW_STAT.PHASE 5, upd (.eng fun g => { g with update := none, running := hdr }),
      raise EV.FW_DONE [hdrVersion hdr], finish u.run .ok [u.swaps.length]]
  | none, _ => nop

/-- A boundary of the local transmitter, or the dark-time tick (R635): the cluster's spare, with the new image, takes the engine's task; the
old engine idles in probation. -/
def fwBoundary : Eff := dyn fun s =>
  match s.eng.update, s.fwNext with
  | some u, some e =>
    if u.probation then nop
    else match ((List.range 8).map (8 * (e / 8) + ·)).find? s.spareFree with
    | none => nop
    | some sp => seqE [put ENG_CORE.IMAGE s.eng.stagedBank sp, giveTask sp (s.rd ENG_CORE.TASK e), setEng e 5, dropTask e,
        upd (.eng fun g => { g with update := some { u with swaps := (e, sp) :: u.swaps, probation := true }, migs := g.migs.map (fun m => if m.spare == e then { m with spare := sp } else m) }),
        fwShow e 3]
  | _, _ => nop

/-- One swap is undone (R636): the old engine, unless it has failed, takes its task back with the old image. -/
def fwUndo (w : Nat × Nat) : Eff := dyn fun s =>
  whenE (s.rd ENG_CORE.STATE w.1 == 5 || s.rd ENG_CORE.STATE w.1 == 1) (seqE [
    put ENG_CORE.IMAGE (1 - s.eng.stagedBank) w.1, giveTask w.1 (s.rd ENG_CORE.TASK w.2), dropTask w.2, setEng w.2 1,
    upd (.eng fun g => { g with migs := g.migs.map (fun m => if m.spare == w.2 then { m with spare := w.1 } else m) })])

/-- A watchdog expiry (cause 1) or trap (2) of engine `e` ends the update (R636). -/
def fwRollback (u : FwUpdate) (e cause : Nat) : Eff := seqE [
  put ENG_FW_STAT.PHASE 4, forE u.swaps fwUndo, raise EV.FW_ROLLBACK [e, cause],
  put ENG_FW_STAT.PHASE 1, upd (.eng fun g => { g with update := none }), finish u.run .aborted [e]]

/-- Whether a watchdog expiry or trap of engine `e` ends the running update: it runs the new image in probation, or follows one that did. -/
def State.fwEnds (s : State) (e : Nat) : Option FwUpdate :=
  match s.eng.update with
  | some u => if u.probation && u.took e then some u else none
  | none => none

/-- A watchdog expiry or trap of a sandbox task's engine (R639): the task stops. `cause` is 1 for a trap and 2 for the watchdog. -/
def sbxFail (e cause code : Nat) : Eff := seqE [put ENG_CORE.CAUSE code e, whenE (code == 1) (bump PAIR_ENG.FAILS 1 e),
  raise EV.SBX_STOP [e, cause], put ENG_CORE.STATE 6 e]

/-- Whether engine `e` runs: neither failed, faulty nor stopped. -/
def State.engRuns (s : State) (e : Nat) : Bool := !([2, 4, 6].contains (s.rd ENG_CORE.STATE e))

/-- What a watchdog expiry (code 1) or fatal trap (code 3) of engine `e` does. -/
def engStops (e code : Nat) : Eff := dyn fun s =>
  if !s.engRuns e then nop
  else if 56 ≤ e then whenE (s.rd ENG_CORE.STATE e == 0) (sbxFail e (if code = 1 then 2 else 1) code)
  else match s.fwEnds e with
  | some u => seqE [put ENG_CORE.CAUSE code e, whenE (code == 1) (bump PAIR_ENG.FAILS 1 e), whenE (code == 1) (raise EV.ENG_WATCHDOG [e, s.rd ENG_CORE.TASK e]),
      fwRollback u e (if code = 1 then 1 else 2)]
  | none => failEngine e code

/-- ENG_WATCHDOG (R632, R636, R639): the watchdog of engine `e` expires; the expiries of its cluster are counted (R578, Table 16.1). -/
def execEngWatchdog (e : Fin 64) (s : State) : Out := perform (dyn fun s =>
  whenE (s.engRuns e.val) (seqE [count (48 + e.val / 8), engStops e.val 1])) s

/-- ENG_TRAP (R632, R636, R639): a fatal trap of engine `e`. -/
def execEngTrap (e : Fin 64) (s : State) : Out := perform (engStops e.val 3) s

/-- ENG_ECC (R632, R639): an error in the local SRAM of engine `e`. A corrected one is counted; an uncorrectable one fails the engine, a
sandbox task moving to E63 (R37). -/
def execEngEcc (e : Fin 64) (corrected : Bool) (s : State) : Out := perform (dyn fun s =>
  if corrected then seqE [bump ENG_CORE.SBE 1 e.val, raise EV.ENG_ECC [e.val, 1, 1]]
  else if s.engRuns e.val then failEngine e.val 2 else nop) s

/-- TASK_RESUME (R633, R544): the spare resumes the task from its checkpoint; the failed engine is restarted and tests its local SRAM, which
passes or fails. -/
def execTaskResume (sp : Fin 64) (pass : Bool) (s : State) : Out := perform (dyn fun s =>
  match s.migBy sp.val with
  | none => nop
  | some m =>
    if m.resumed then nop
    else seqE [giveTask sp.val m.task, upd (.eng fun g => { g with migs := g.migs.map (fun x => if x.spare == sp.val then { x with resumed := true } else x) }),
      whenE (s.rd ENG_CORE.STATE m.failed == 2) (setEng m.failed (if pass then 3 else 4))]) s

/-- ENGINE_RETEST (R544): the restart test of an engine that failed without a task, and the retest of a FAULTY one. -/
def execEngineRetest (e : Fin 64) (pass : Bool) (s : State) : Out := perform (dyn fun s =>
  whenE (s.rd ENG_CORE.STATE e.val == 4 || (s.rd ENG_CORE.STATE e.val == 2 && (match s.migOf e.val with | some m => m.resumed | none => true)))
    (setEng e.val (if pass then 3 else 4))) s

/-- With a spare of clusters 0 to 6 free again, SPARE_NONE no longer stands (R621). -/
def spareNoneClears : Eff := dyn fun s =>
  whenE ((List.range 56).any s.spareFree) (put CMD_STATUS.FAULT_CAUSE (clrBit (s.rd CMD_STATUS.FAULT_CAUSE) 0))

/-- SPARE_WTR_END (R544): a RETURNING engine has had no watchdog event for SPARE_WTR. It takes its task back at the next boundary; one that
left no task behind is a spare. -/
def execSpareWtrEnd (e : Fin 64) (s : State) : Out := perform (dyn fun s =>
  if s.rd ENG_CORE.STATE e.val != 3 then nop
  else match s.migOf e.val with
  | some m => whenE m.resumed (upd (.eng fun g => { g with migs := g.migs.map (fun x => if x.failed == e.val then { x with due := true } else x) }))
  | none => seqE [setEng e.val 1, dropTask e.val, spareNoneClears]) s

/-- The boundary at which due engines take their tasks back (R544). -/
def engReturn : Eff := dyn fun s => forE (s.eng.migs.filter (·.due)) fun m => seqE [
  giveTask m.failed m.task, setEng m.spare 1, dropTask m.spare, upd (.eng fun g => { g with migs := g.migs.filter (fun x => x.failed != m.failed) }),
  raise EV.SPARE_RETURN [m.failed, m.spare], spareNoneClears]

/-- SHARED_SRAM_ERROR (R621): an uncorrectable error in the shared SRAM of cluster `c`. The rule names clusters 0 to 6; in cluster 7 the
spec gives it no effect. -/
def execSharedSramError (c : Fin 8) (s : State) : Out := perform (whenE (decide (c.val < 7)) (enterFault 1 1)) s

/-- ENG_STATUS's reply: every ENG_CORE word and ENG_FW_STAT. -/
def ENG_CORE.fields : List Fld := [ENG_CORE.STATE, ENG_CORE.CAUSE, ENG_CORE.SBE, ENG_CORE.IMAGE, ENG_CORE.TASK]
def ENG_FW_STAT.fields : List Fld := [ENG_FW_STAT.PHASE, ENG_FW_STAT.BANK, ENG_FW_STAT.CLUSTER, ENG_FW_STAT.ENGINE]

def opEngStatus : OpDef := ⟨0x1001, len 0, upStates, fun _ _ _ =>
  okP nop (fun s => (List.range 64).map (fun e => s.word ENG_CORE.fields e) ++ [s.word ENG_FW_STAT.fields])⟩
/-- ENG_STATUS (R640). -/
def execEngStatus (h : CmdHdr) (p : List Word) (s : State) : Out := perform (felwin opEngStatus h p) s

def opEngCfg : OpDef := ⟨0x1002, len 2, [1, 2, 4], fun _ p _ =>
  if !wordOk [ENG_WDOG.PERIOD] (nth p 0) || !wordOk [ENG_FW_CFG.PROBATION] (nth p 1) then no .range
  else okE (seqE [putWord [ENG_WDOG.PERIOD] (nth p 0), putWord [ENG_FW_CFG.PROBATION] (nth p 1)])⟩
/-- ENG_CFG (R640). -/
def execEngCfg (h : CmdHdr) (p : List Word) (s : State) : Out := perform (felwin opEngCfg h p) s

/-! ### Images -/

/-- The number that stands for a public key given in 25 words, its 97 bytes. -/
def keyOf (ws : List Nat) : Nat := ((ws.take 24) ++ [nth ws 24 % 256]).foldr (fun w a => w + 2 ^ 32 * a) 0

/-- The words of a header's public key, its digest of the body and its signature (Table 18.3). -/
def hdrPub (h : List Nat) : List Nat := (h.drop 19).take 24 ++ [nth h 43 % 256]
def hdrDigest (h : List Nat) : List Nat := (h.drop 7).take 12
def hdrSig (h : List Nat) : List Nat := (h.drop 64).take 24

/-- The most body bytes of an image type: its place in a bank (Table 18.2), or 16 MiB for TYPE 3. -/
def bodyMax (typ : Nat) : Nat := match typ with | 1 => 1048576 - 352 | 2 => 16777216 - 352 | _ => 16777216

/-- The part's bit of PARTS. -/
def Part.idx : Part → Nat | .ask3200 => 0 | .ask1600 => 1

/-- The verification of Table 18.4 for image type `typ`: nothing where it passes, else the order and status of the failing check. -/
def State.verify (s : State) (typ : Nat) (im : Image) : Option (Nat × Status) :=
  let h := im.hdr
  let digest := if typ = 3 then s.fuse.custKey else some Config.fwKeyDigest
  if nth h 0 != 0x4E594B41 || hdrFmt h != 1 || hdrType h != typ || decide (bodyMax typ < nth h 4) then some (1, .badParam)
  else if hdrKey h != (if typ = 3 then 1 else 0) || digest != some (Config.sha384 (hdrPub h)) then some (2, .auth)
  else if !Config.ecdsaOk (keyOf (hdrPub h)) (Config.sha384 (h.take 64)) (hdrSig h) then some (3, .auth)
  else if Config.sha384 (im.body.take ((nth h 4 + 3) / 4)) != hdrDigest h then some (4, .auth)
  else if !bit (hdrParts h) s.fuse.part.idx || !(hdrDevice h == 0 || hdrDevice h == s.fuse.devId) then some (5, .badParam)
  else if typ != 3 && decide (hdrSvn h < (if typ = 1 then s.fuse.kCnt else s.fuse.eCnt)) then some (6, .auth)
  else none

/-- The engine image of a bank, and the flash with another in its place. -/
def Flash.engine (f : Flash) (bank : Nat) : Option Image := if bank = 0 then f.engineA else f.engineB
def Flash.keeper (f : Flash) (bank : Nat) : Option Image := if bank = 0 then f.keeperA else f.keeperB
def Flash.setEngine (f : Flash) (bank : Nat) (im : Image) : Flash := if bank = 0 then { f with engineA := some im } else { f with engineB := some im }

/-- The inactive bank: the one that is not the boot bank; after a fallback, the one not running. -/
def State.idleBank (s : State) : Nat := if s.on SEC_STATUS.FALLBACK then 1 - s.rd SEC_STATUS.BANK else 1 - s.rd ENG_FW_STAT.BANK

def opFwStage : OpDef := ⟨0x1003, len 3, runStates, fun h p s =>
  if s.eng.stage.isSome || s.eng.update.isSome then no .busy
  else pendE (upd (.eng fun g => { g with stage := some (runOf h 0x1003 p) }))⟩
/-- FW_STAGE (R634). -/
def execFwStage (h : CmdHdr) (p : List Word) (s : State) : Out := perform (felwin opFwStage h p) s

/-- FW_STAGE_DONE (R634, R649): the Keeper has verified the image; it stands in the inactive bank and the final reply gives its version. Where a
check fails the reply gives its status and order, and nothing has changed (R19; log entry 158). -/
def execFwStageDone (hdr body : List Word) (s : State) : Out := perform (dyn fun s =>
  match s.eng.stage with
  | none => nop
  | some r =>
    let im : Image := ⟨hdr.map (·.toNat), body.map (·.toNat)⟩
    seqE [upd (.eng fun g => { g with stage := none }),
      match s.verify 2 im with
      | none => seqE [upd (.sec fun x => { x with flash := x.flash.setEngine s.idleBank im }), upd (.eng fun g => { g with staged := some im, stagedBank := s.idleBank }),
          put ENG_FW_STAT.PHASE 1, finish r .ok [hdrVersion im.hdr]]
      | some (n, st) => finish r st [n]]) s

def opFwActivate : OpDef := ⟨0x1004, len 0, [3, 4], fun h p s =>
  match s.eng.staged with
  | none => no .state
  | some im =>
    if s.eng.update.isSome || s.eng.stage.isSome || !(List.range 7).all (fun c => ((List.range 8).map (8 * c + ·)).any s.spareFree) || s.eng.migs.any (fun m => decide (m.spare < 56)) then no .busy
    else if hdrSnap im.hdr != s.snapFmt && s.paired && s.role != 0 then no .state
    else { status := .pending, after := seqE [upd (.eng fun g => { g with update := some ⟨runOf h 0x1004 p, [], false⟩ }), fwNextStep] }⟩
/-- FW_ACTIVATE (R634, R635). -/
def execFwActivate (h : CmdHdr) (p : List Word) (s : State) : Out := perform (felwin opFwActivate h p) s

/-- FW_PROBATION_END (R635, R636): the old engine loads the new image and becomes the spare. -/
def execFwProbationEnd (s : State) : Out := perform (dyn fun s =>
  match s.eng.update with
  | none => nop
  | some u =>
    match u.probation, u.swaps with
    | true, w :: _ => seqE [whenE (s.rd ENG_CORE.STATE w.1 == 5) (seqE [put ENG_CORE.IMAGE s.eng.stagedBank w.1, setEng w.1 1]),
        raise EV.FW_ENGINE_DONE [w.1], upd (.eng fun g => { g with update := some { u with probation := false } }), fwNextStep]
    | _, _ => nop) s

/-- Whether fuses may be programmed (R209): Tj within 0 to 125 °C. VDD_IO stands within its limits outside FUSE_VDD_LOSS. -/
def State.fuseOk (s : State) : Bool := decide (0 ≤ s.pwr.tj ∧ s.pwr.tj ≤ 125)

/-- Raises the anti-rollback counter of image type `typ` to `svn`, or leaves the raise to be retried (R650). -/
def raiseCounter (typ svn : Nat) : Eff := dyn fun s =>
  let old := if typ = 1 then s.fuse.kCnt else s.fuse.eCnt
  if svn ≤ old then nop
  else if s.fuseOk then seqE [upd (.fuse fun f => if typ = 1 then { f with kCnt := svn } else { f with eCnt := svn }), raise EV.SVN_RAISED [typ, old, svn]]
  else upd (.sec fun x => { x with svnDue := x.svnDue ++ [(typ, svn)] })

/-- The boot record in force (R647): of the valid copies the one with the larger SEQ. The first component says whether it is copy 1. -/
def Flash.bootRec (f : Flash) : Option (Bool × Nat × Nat) :=
  match f.rec0, f.rec1 with
  | some (b, q), some (b', q') => if q < q' then some (true, b', q') else some (false, b, q)
  | some (b, q), none => some (false, b, q)
  | none, some (b, q) => some (true, b, q)
  | none, none => none

/-- The other copy is written with SEQ one greater, naming `bank` (R647). -/
def Flash.commit (f : Flash) (bank : Nat) : Flash :=
  match f.bootRec with
  | some (false, _, q) => { f with rec1 := some (bank, (q + 1) % 2 ^ 32) }
  | some (true, _, q) => { f with rec0 := some (bank, (q + 1) % 2 ^ 32) }
  | none => { f with rec0 := some (bank, 0) }

def opFwCommit : OpDef := ⟨0x1005, len 0, runStates, fun _ _ s =>
  match s.eng.staged with
  | none => no .state
  | some im => if s.eng.update.isSome || s.eng.stage.isSome then no .state else
    okP (seqE [upd (.sec fun x => { x with flash := x.flash.commit s.eng.stagedBank }), put ENG_FW_STAT.BANK s.eng.stagedBank, raiseCounter 2 (hdrSvn im.hdr)])
      (fun s => [s.rd ENG_FW_STAT.BANK])⟩
/-- FW_COMMIT (R636, R647, R650). -/
def execFwCommit (h : CmdHdr) (p : List Word) (s : State) : Out := perform (felwin opFwCommit h p) s

/-! ### Sandbox -/

/-- The sandbox engines a mask names, bit i for E56 + i. -/
def sbxOf (mask : Nat) : List Nat := (bitsSet 7 mask).map (56 + ·)

/-- Whether a sandbox mask names engines, and none beyond E62. -/
def sbxMaskOk (mask : Nat) : Bool := decide (1 ≤ mask ∧ mask < 128)

def opSbxLoad : OpDef := ⟨0x1006, len 4, [2, 4], fun h p s =>
  if s.eng.sbxLoad.isSome then no .busy
  else if s.lifecycle == 3 then no .lifecycle
  else if !sbxMaskOk (nth p 3) then no .badParam
  else pendE (upd (.eng fun g => { g with sbxLoad := some (runOf h 0x1006 p, nth p 3) }))⟩
/-- SBX_LOAD (R637, Table 18.9). -/
def execSbxLoad (h : CmdHdr) (p : List Word) (s : State) : Out := perform (felwin opSbxLoad h p) s

/-- The engine that runs sandbox task `t`. -/
def State.sbxAt (s : State) (t : Nat) : Nat := match s.migOf t with | some m => m.spare | none => t

/-- A sandbox task stops. -/
def sbxStop (t : Nat) : Eff := dyn fun s => put ENG_CORE.STATE 6 (s.sbxAt t)

/-- SBX_LOAD_DONE (R637, R649): the image is verified and loaded; the engines named hold a task each, which does not run yet. -/
def execSbxLoadDone (hdr body : List Word) (s : State) : Out := perform (dyn fun s =>
  match s.eng.sbxLoad with
  | none => nop
  | some (r, mask) =>
    let im : Image := ⟨hdr.map (·.toNat), body.map (·.toNat)⟩
    seqE [upd (.eng fun g => { g with sbxLoad := none }),
      match s.verify 3 im with
      | some (n, st) => finish r st [n]
      | none => seqE [forE (sbxOf mask) sbxStop,
          upd (.eng fun g => { g with sbxTasks := g.sbxTasks.filter (fun t => !(sbxOf mask).contains t) ++ sbxOf mask }),
          upd (.sec fun x => { x with sbxHdr := some im.hdr }), finish r .ok [(sbxOf mask).length]]]) s

def ENG_SBX_CFG.fields : List Fld := [ENG_SBX_CFG.EN, ENG_SBX_CFG.HBM_GB, ENG_SBX_CFG.CAP, ENG_SBX_CFG.MASK_HI, ENG_SBX_CFG.MASK_LO]
def ENG_SBX_GPIO.fields : List Fld := [ENG_SBX_GPIO.GPIO, ENG_SBX_GPIO.PWM]

/-- Whether an ENG_SBX_CFG word keeps the HBM windows within their sum (R638). -/
def State.sbxFits (s : State) (w : Nat) : Bool := decide (bits w 20 4 + s.rd OBS_CAP_CFG.SOFT_GB ≤ 47)

def opSbxCtrl : OpDef := ⟨0x1007, len 4, cfgStates, fun _ p s =>
  let es := sbxOf (nth p 2)
  if !sbxMaskOk (nth p 2) || 1 < nth p 3 || !es.all s.eng.sbxTasks.contains then no .badParam
  else if !wordOk ENG_SBX_CFG.fields (nth p 0) || !s.sbxFits (nth p 0) then no .range
  else if nth p 3 == 1 && !bit (nth p 0) 31 then no .state
  else okE (seqE [putWord ENG_SBX_CFG.fields (nth p 0), putWord ENG_SBX_GPIO.fields (nth p 1),
    forE es (fun t => if nth p 3 == 1 then dyn fun s => whenE (s.rd ENG_CORE.STATE (s.sbxAt t) == 6) (seqE [put ENG_CORE.STATE 0 (s.sbxAt t), put ENG_CORE.TASK t (s.sbxAt t)])
      else sbxStop t)])⟩
/-- SBX_CTRL (R637 to R639): rights, and the start or stop of the tasks named. -/
def execSbxCtrl (h : CmdHdr) (p : List Word) (s : State) : Out := perform (felwin opSbxCtrl h p) s

/-- The reply's messages: each its byte count, then its bytes. -/
def msgWords (ms : List (List Nat)) : List Nat := ms.flatMap (fun m => m.length :: packBytes m)

/-- SBX_MSG's body: `taken` messages have been taken by the task and `posted` posted by it since the last; each way holds 16 messages of
up to 1,024 bytes, what is beyond being discarded and counted (R29). -/
def opSbxMsg (taken : Nat) (posted : List (List (BitVec 8))) : OpDef := ⟨0x1008, lenIn 1 257, cfgStates, fun _ p s =>
  let e := nth p 0
  let q := (Tab.get [] s.eng.sbxIn e).drop taken
  let good := (posted.filter (fun m => decide (m.length ≤ 1024))).map (·.map (·.toNat))
  if !s.eng.sbxTasks.contains e then no .badParam
  else if 1 < p.length && 16 ≤ q.length then no .noResource
  else okP (seqE [
    upd (.eng fun g => { g with sbxIn := Tab.set [] g.sbxIn e (if p.length = 1 then q else q ++ [p.drop 1]) }),
    whenE (decide (1 < p.length)) (emit (.sandbox e (p.drop 1))),
    forE (good.take 16) (fun m => raise EV.SBX_MSG [e, m.length]),
    whenE (decide (good.length ≠ posted.length ∨ 16 < good.length)) (count 40 (posted.length - min 16 good.length))]) (fun _ => msgWords (good.take 16))⟩
/-- SBX_MSG (R637): a message to sandbox task `e`, and the task's own. -/
def execSbxMsg (h : CmdHdr) (p : List Word) (taken : Nat) (posted : List (List (BitVec 8))) (s : State) : Out := perform (felwin (opSbxMsg taken posted) h p) s

end Sys2Proof.Machine
end

