-- ==== Sys2Proof/Machine/Observe.lean ====
section
/-!
DEFINITION. Observability: snapshots, presets, dumps, bandwidth windows, captures, the recorder and the event queue's
coalescing (R578 to R608, R704).
-/
namespace Sys2Proof.Machine
open Sys2Proof

/-! ### Shared operations -/

/-- Whether counter index `j` is assigned (Table 16.1). -/
def assigned (j : Nat) : Bool :=
  decide (j < 20 ∨ (32 ≤ j ∧ j ≤ 40) ∨ (48 ≤ j ∧ j ≤ 55) ∨ (64 ≤ j ∧ j ≤ 68) ∨ (256 ≤ j ∧ j ≤ 259) ∨ (264 ≤ j ∧ j ≤ 273) ∨
    (280 ≤ j ∧ j ≤ 285) ∨ (288 ≤ j ∧ j ≤ 417) ∨ (424 ≤ j ∧ j ≤ 647) ∨ (672 ≤ j ∧ j ≤ 807)) ||
  (decide (128 ≤ j ∧ j ≤ 255) && j % 8 != 7) || (decide (1024 ≤ j ∧ j < 1600) && evUsed (j - 1024))

/-- Presets counter `j` where it is assigned; an unassigned index keeps reading 0 (R578, R584). -/
def presetCnt (j v : Nat) : Eff := if assigned j then upd (.preset j v) else nop

/-- Presets every listed counter to 0. -/
def clearList (js : List Nat) : Eff := fun _ => js.map (fun j => .preset j 0)

/-- A counter as a dump or a reply carries it: count in [47:0], wrap sticky bit in [48] (Table 16.3). -/
def cntWords (cnts wraps : Tab Nat) (j : Nat) : List Nat := w64 (Tab.get 0 cnts j + Tab.get 0 wraps j * 2 ^ 48)

/-- The counters of the ranges whose bit is set in `ranges`, in index order (Table 16.3). -/
def rangeWords (ranges : Nat) (cnts wraps : Tab Nat) : List Nat :=
  (bitsSet 16 ranges).flatMap (fun r => (List.range 128).flatMap (fun k => cntWords cnts wraps (128 * r + k)))

/-- A dump in the format of Table 16.3, `missed` the dumps not delivered to this destination since the last. -/
def Dump.words (d : Dump) (missed devId : Nat) : List Nat :=
  let body := rangeWords d.ranges d.cnts d.wraps
  let ws := [1 + 65536 * d.flags, d.gen + 65536 * d.ranges] ++ w64 d.time ++ [missed, 4 * body.length] ++ w64 devId ++ body
  ws ++ [crc32cWords ws]

/-- The dump taken now; bit 2 of the flags where a trigger took it. -/
def State.dumpNow (s : State) (trig : Bool) : Dump :=
  ⟨s.freeRun + 2 * b2n (!s.wraps.isEmpty) + 4 * b2n trig, s.snapGen, s.rd OBS_DUMP_CFG.RANGES, s.nowNs, s.cnts, s.wraps⟩

/-- The bytes of a dump of the ranges set. -/
def dumpBytes (ranges : Nat) : Nat := 36 + 1024 * (bitsSet 16 ranges).length

/-- The free bytes of the counter-dump ring (R615). -/
def State.dumpRoom (s : State) : Nat :=
  s.rd CMD_DUMP_CFG.SIZE * 1024 - (s.rd CMD_DUMP_PROD.ALL + 2 ^ 32 - s.rd CMD_DUMP_CONS.ALL) % 2 ^ 32

/-- A dump placed in the counter-dump ring behind its prefix (R615), or not delivered and counted (R589). -/
def dumpToHost (addr : Nat) (bytes : Nat) (words : List Nat) : Eff := fun s =>
  if s.on CMD_DUMP_CFG.EN && decide (8 + bytes ≤ s.dumpRoom) then
    [.emit (.dump (s.rd CMD_DUMP_PROD.ALL % (s.rd CMD_DUMP_CFG.SIZE * 1024)) ([addr, bytes] ++ words)),
     .put CMD_DUMP_PROD.ALL 0 (s.rd CMD_DUMP_PROD.ALL + 8 + bytes), .signal (s.rd CMD_DUMP_CFG.VEC), .obs fun o => { o with missed := 0 }]
  else [.count 65 1, .obs fun o => { o with missed := sat 65535 (o.missed + 1) }]

/-- A dump delivered to each destination set (R588): HBM history, recorder, host ring or, on a device that is not the head,
the head by Batten (R630). -/
def takeDump (trig : Bool) : Eff := seqE [upd .snap, dyn fun s =>
  let d := s.dumpNow trig
  let dest := s.rd OBS_DUMP_CFG.DEST
  let ws := d.words s.obs.missed s.fuse.devId
  let remote := s.rd CMD_BAT_STAT.HEAD == 0 && s.rd CMD_BAT_STAT.ADDR != 0x7F
  let roomy := s.on CMD_DUMP_CFG.EN && decide (8 + dumpBytes d.ranges ≤ s.dumpRoom)
  let delivered := b2n (bit dest 0 && (remote || roomy)) + 2 * b2n (bit dest 1) + 4 * b2n (bit dest 2 && s.recording)
  seqE [
    whenE (bit dest 1) (upd (.obs fun o => { o with dumps := (d :: o.dumps).take 4096 })),
    whenE (bit dest 2) (record 4 ws),
    whenE (bit dest 0) (if remote then emit (s.batten 0 (s.rd CMD_BAT_STAT.ADDR) 0 3 ws) else dumpToHost 0 (dumpBytes d.ranges) ws),
    if s.rd OBS_INT_EN.ALL % 2 == 1 then raise EV.DUMP_DONE [s.snapGen, delivered] else stat OBS_INT_STAT.ALL 0]]

/-- The subcarriers in SC_MASK. -/
def popcount (n v : Nat) : Nat := (bitsSet n v).length

/-- The slots of the soft ring (R593). -/
def softSlots (gb mask : Nat) : Nat := gb * 1000000000 / (4194304 * popcount 16 mask)

/-- The slots of the soft ring as configured. -/
def State.slots (s : State) : Nat := softSlots (s.rd OBS_CAP_CFG.SOFT_GB) (s.rd OBS_CAP_CFG.SC_MASK)

/-- The bytes of a capture window: the whole raw ring (R592) or the whole soft ring (R593). -/
def State.winBytes (s : State) (soft : Bool) : Nat :=
  if soft then s.slots * 4194304 * popcount 16 (s.rd OBS_CAP_CFG.SC_MASK) else 134217728

/-- The state field of a capture (Table 16.5). -/
def capState (soft : Bool) : Fld := if soft then OBS_CAP_STAT.SOFT_STATE else OBS_CAP_STAT.RAW_STATE

/-- Arms a capture: its ring has not filled since (R596). -/
def arm (soft : Bool) : Eff := seqE [put (capState soft) 1,
  upd (.obs fun o => if soft then { o with softFilled := false } else { o with rawFilled := false })]

/-- A trigger input fires (R587, R594, R595): starts the captures its action bits select, takes its dump, writes its mark. -/
def fireTrigger (t : Nat) (mark : List Nat) : Eff := dyn fun s =>
  let wantR := s.on OBS_TRIG_CFG.RAW t
  let wantS := s.on OBS_TRIG_CFG.SOFT t
  let goR := wantR && s.rd OBS_CAP_STAT.RAW_STATE == 1
  let goS := wantS && s.rd OBS_CAP_STAT.SOFT_STATE == 1
  let busy := (wantR && !goR) || (wantS && !goS)
  let rp := s.free 1 % 33554432
  let sp := s.free 1
  seqE [
    whenE goR (seqE [put OBS_CAP_STAT.RAW_STATE 2, put OBS_CAP_STAT.RAW_INPUT t, upd (.obs fun o => { o with rawPos := rp })]),
    whenE goS (seqE [put OBS_CAP_STAT.SOFT_STATE 2, put OBS_CAP_STAT.SOFT_INPUT t, upd (.obs fun o => { o with softPos := sp })]),
    whenE (goR || goS) (seqE [drawn, raise EV.CAP_TRIGGERED [b2n goR + 2 * b2n goS, t, if goR then rp else sp]]),
    whenE busy (seqE [count 68, dyn fun s => occur EV.CAP_BUSY 0 [t, s.rd OBS_CAP_STAT.RAW_STATE, s.rd OBS_CAP_STAT.SOFT_STATE]]),
    whenE (s.on OBS_TRIG_CFG.DUMP t) (takeDump true),
    whenE (s.on OBS_TRIG_CFG.MARK t) (record 9 (t :: mark))]

/-- The bytes of the capture area over the drives in use: what the log area leaves (R602). -/
def State.capArea (s : State) : Nat :=
  (s.obs.drives.filter (fun d => d.2.used)).foldl (fun a d => a + d.2.cap * 4096 * (100 - s.rd OBS_REC_CFG.LOG_PCT) / 100) 0

/-- The windows left when the oldest that are not held are overwritten, each whole, until `need` bytes fit in `area` (R602). -/
def makeRoom (need area : Nat) : List Win → List Win
  | [] => []
  | w :: ws =>
    if ((w :: ws).map (·.bytes)).foldl (· + ·) 0 + need ≤ area then w :: ws
    else if w.held then w :: makeRoom (need + w.bytes) area ws else makeRoom need area ws

/-- The bytes of a list of windows. -/
def winsBytes (ws : List Win) : Nat := (ws.map (·.bytes)).foldl (· + ·) 0

/-- The drives with the capture area in use `n` bytes over those that take segments, in equal parts (R600, R602). -/
def shareOut (n : Nat) (ds : Tab Drive) : Tab Drive :=
  ds.map (fun d => if d.2.used then (d.1, { d.2 with capUsed := n / (ds.filter (fun x => x.2.used)).length }) else d)

/-- Starts the drain of a FROZEN window (R597, R602), or refuses it and leaves it FROZEN, raising REC_FULL. -/
def startDrain (soft : Bool) : Eff := dyn fun s =>
  let bytes := s.winBytes soft
  let num := s.obs.nextWin
  let kept := makeRoom bytes s.capArea s.obs.wins
  if winsBytes kept + bytes ≤ s.capArea then seqE [
    put (capState soft) 4, put OBS_REC_STAT.DRAINING 1,
    upd (.obs fun o => { o with wins := kept ++ [⟨num, soft, bytes, false, false⟩], nextWin := o.nextWin + 1,
                                rawWin := if soft then o.rawWin else some num, softWin := if soft then some num else o.softWin,
                                drives := shareOut (winsBytes kept + bytes) o.drives }),
    record 6 [num, if soft then 2 else 1, if soft then s.rd OBS_CAP_CFG.SC_MASK else s.rd OBS_CAP_CFG.RAW_SRC,
      if soft then s.rd OBS_CAP_STAT.SOFT_INPUT else s.rd OBS_CAP_STAT.RAW_INPUT, if soft then s.obs.softPos else s.obs.rawPos,
      if soft then s.slots else 0, if soft then s.rd OBS_CAP_STAT.SOFT_SHORT else s.rd OBS_CAP_STAT.RAW_SHORT]]
  else raise EV.REC_FULL [num, s.rd OBS_REC_STAT.HELD]

/-- Writes to the capture settings (R594, R597): a capture's fields change only while it is IDLE, and clearing the enable of
an ARMED capture makes it IDLE. -/
def capWrite (w : Nat) : Eff := dyn fun s =>
  let rawSt := s.rd OBS_CAP_STAT.RAW_STATE
  let softSt := s.rd OBS_CAP_STAT.SOFT_STATE
  let rawEn := OBS_CAP_CFG.RAW_EN.raw w
  let softEn := OBS_CAP_CFG.SOFT_EN.raw w
  seqE [
    put OBS_CAP_CFG.REARM (OBS_CAP_CFG.REARM.raw w), put OBS_CAP_CFG.DRAIN_AUTO (OBS_CAP_CFG.DRAIN_AUTO.raw w),
    whenE (rawSt == 0) (seqE [put OBS_CAP_CFG.RAW_SRC (OBS_CAP_CFG.RAW_SRC.raw w), put OBS_CAP_CFG.RAW_EN rawEn, whenE (rawEn == 1) (arm false)]),
    whenE (rawSt == 1 && rawEn == 0) (seqE [put OBS_CAP_CFG.RAW_EN 0, put OBS_CAP_STAT.RAW_STATE 0]),
    whenE (softSt == 0) (seqE [put OBS_CAP_CFG.SC_MASK (OBS_CAP_CFG.SC_MASK.raw w), put OBS_CAP_CFG.SOFT_GB (OBS_CAP_CFG.SOFT_GB.raw w),
      put OBS_CAP_CFG.SOFT_EN softEn, whenE (softEn == 1) (arm true)]),
    whenE (softSt == 1 && softEn == 0) (seqE [put OBS_CAP_CFG.SOFT_EN 0, put OBS_CAP_STAT.SOFT_STATE 0])]

/-- Whether a capture configuration word lies in range: each field's own range, and HBM_GB + SOFT_GB at most 47 (R638). -/
def State.capOk (s : State) (w : Nat) : Bool :=
  wordOk [OBS_CAP_CFG.SOFT_GB] w && decide (OBS_CAP_CFG.SOFT_GB.raw w + s.rd ENG_SBX_CFG.HBM_GB ≤ 47)

/-- Whether SOFT_POST of a word lies in 0 to the slot count less 1 (R596). -/
def postOk (slots w : Nat) : Bool := wordOk [OBS_CAP_POST.RAW_POST] w && decide (OBS_CAP_POST.SOFT_POST.raw w < slots)

def OBS_TRIG_CFG.fields : List Fld :=
  [OBS_TRIG_CFG.GPIO, OBS_TRIG_CFG.EDGE, OBS_TRIG_CFG.GPIO_EN, OBS_TRIG_CFG.MARK, OBS_TRIG_CFG.DUMP, OBS_TRIG_CFG.SOFT, OBS_TRIG_CFG.RAW]
def OBS_BW_CFG.fields : List Fld := [OBS_BW_CFG.EN, OBS_BW_CFG.PORT, OBS_BW_CFG.WIN]
def OBS_DUMP_CFG.fields : List Fld := [OBS_DUMP_CFG.RANGES, OBS_DUMP_CFG.EN, OBS_DUMP_CFG.DEST]
def OBS_REC_CFG.fields : List Fld := [OBS_REC_CFG.LOG_PCT, OBS_REC_CFG.DRIVES, OBS_REC_CFG.EN]
def OBS_EVT_ROUTE.fields : List Fld := [OBS_EVT_ROUTE.Q, OBS_EVT_ROUTE.REC, OBS_EVT_ROUTE.TRIG_EN, OBS_EVT_ROUTE.TRIG]

/-- A write to a monitor's settings discards its window in progress; counting resumes at the next boundary (R591). -/
def bwWrite (w : Nat) (v : Nat) : Eff := seqE [putWord OBS_BW_CFG.fields v w, upd (.obs fun o => { o with bwDiscard := Tab.set 0 o.bwDiscard w 1 })]

/-- A drive the recorder may not use is out of use (Table 16.10, DRIVES). -/
def setDrivesOk : Eff := fun s =>
  let ok (p : Nat) : Bool := (Tab.get {} s.obs.drives p).usable && bit (s.rd OBS_REC_CFG.DRIVES) p && s.on OBS_REC_CFG.EN
  [.put OBS_REC_STAT.DRIVES_OK 0 (b2n (ok 0) + 2 * b2n (ok 1)),
   .obs fun o => { o with drives := Tab.set {} (Tab.set {} o.drives 0 { (Tab.get {} o.drives 0) with used := ok 0 }) 1
                            { (Tab.get {} o.drives 1) with used := ok 1 } }]

/-- BACKLOG: the staged bytes in MiB, saturating (Table 16.10). -/
def setBacklog : Eff := fun s => [.put OBS_REC_STAT.BACKLOG 0 (sat 65535 (s.staged / 1048576))]

/-- The staged records a segment takes: the oldest that fit in `room` bytes (R599), and the rest. -/
def takeSegment (room : Nat) : List Rec → List Rec × List Rec
  | [] => ([], [])
  | r :: rs => if r.bytes ≤ room then let (a, b) := takeSegment (room - r.bytes) rs; (r :: a, b) else ([], r :: rs)

/-! ### Felwin commands -/

def opObsSnapshot : OpDef := ⟨0x0F01, len 0, upStates, fun _ _ _ => okP (upd .snapBank) (fun s => [s.snapGen])⟩
/-- OBS_SNAPSHOT (R582): replaces the register bank with a new snapshot. -/
def execObsSnapshot (h : CmdHdr) (p : List Word) (s : State) : Out := perform (felwin opObsSnapshot h p) s

def opObsCntRead : OpDef := ⟨0x0F02, lenIn 3 4, upStates, fun _ p s =>
  let first := nth p 0; let n := nth p 1
  let js := (List.range n).map (first + ·)
  if n < 1 ∨ 256 < n then no .range
  else if 2048 < first + n then no .badParam
  else if nth p 2 == 0 then okP (upd .snap) (fun s => [s.snapGen] ++ w64 s.nowNs ++ js.flatMap (cntWords s.cnts s.wraps))
  else if nth p 2 == 1 then
    if 4095 < nth p 3 then no .range else
    match s.obs.dumps[nth p 3]? with
    | none => no .badParam
    | some d => okP nop (fun _ => [d.gen] ++ w64 d.time ++ js.flatMap (cntWords d.cnts d.wraps))
  else no .badParam⟩
/-- OBS_CNT_READ (R583): counters from a snapshot of its own or from an HBM dump. -/
def execObsCntRead (h : CmdHdr) (p : List Word) (s : State) : Out := perform (felwin opObsCntRead h p) s

def opObsCntPreset : OpDef := ⟨0x0F03, fun k => k == 3 || k == 5, cfgStates, fun _ p _ =>
  if p.length == 3 then
    if 2047 < nth p 0 then no .badParam else if 65535 < nth p 2 then no .range else okE (presetCnt (nth p 0) (nth p 1 + 2 ^ 32 * nth p 2))
  else if 15 < nth p 0 then no .badParam
  else okE (upd (.unwrap ((List.range 128).filter (fun k => bit (nth p (1 + k / 32)) (k % 32)) |>.map (128 * nth p 0 + ·))))⟩
/-- OBS_CNT_PRESET (R584): presets a counter, or clears wrap sticky bits of one range. -/
def execObsCntPreset (h : CmdHdr) (p : List Word) (s : State) : Out := perform (felwin opObsCntPreset h p) s

/-- The route entry of an event identifier, where some event has it. -/
def routeOf (id : Nat) : Option Nat :=
  let x := 32 * (id / 256 - 1) + (id % 256 - 1)
  if 1 ≤ id / 256 ∧ id / 256 ≤ 18 ∧ 1 ≤ id % 256 ∧ id % 256 ≤ 32 ∧ evUsed x then some x else none

def opObsEvtRoute : OpDef := ⟨0x0F04, len 2, runStates, fun _ p _ =>
  match routeOf (nth p 0) with
  | none => no .badParam
  | some x => okP (putWord OBS_EVT_ROUTE.fields (nth p 1) x) (fun _ => [evClass x])⟩
/-- OBS_EVT_ROUTE (R587): sets an event's queue, record and trigger route. -/
def execObsEvtRoute (h : CmdHdr) (p : List Word) (s : State) : Out := perform (felwin opObsEvtRoute h p) s

def opObsDumpCfg : OpDef := ⟨0x0F05, len 3, runStates, fun _ p _ =>
  if !wordOk [OBS_DUMP_PERIOD.PERIOD] (nth p 1) then no .range
  else okE (seqE [putWord OBS_DUMP_CFG.fields (nth p 0), putWord [OBS_DUMP_PERIOD.PERIOD] (nth p 1), putWord [OBS_ACL.ALL] (nth p 2)])⟩
/-- OBS_DUMP_CFG (R588): dump destinations, period and the sandbox's counter rights. -/
def execObsDumpCfg (h : CmdHdr) (p : List Word) (s : State) : Out := perform (felwin opObsDumpCfg h p) s

def opObsBwCfg : OpDef := ⟨0x0F06, len 2, cfgStates, fun _ p _ =>
  if 15 < nth p 0 then no .badParam else if !wordOk OBS_BW_CFG.fields (nth p 1) then no .range else okE (bwWrite (nth p 0) (nth p 1))⟩
/-- OBS_BW_CFG (R590, R591): a monitor's port, window and enable. -/
def execObsBwCfg (h : CmdHdr) (p : List Word) (s : State) : Out := perform (felwin opObsBwCfg h p) s

def opCapCfg : OpDef := ⟨0x0F07, len 10, cfgStates, fun _ p s =>
  let slots := if s.rd OBS_CAP_STAT.SOFT_STATE == 0 then softSlots (OBS_CAP_CFG.SOFT_GB.raw (nth p 0)) (OBS_CAP_CFG.SC_MASK.raw (nth p 0)) else s.slots
  if !s.capOk (nth p 0) || !postOk slots (nth p 1) then no .range
  else okP (seqE [capWrite (nth p 0), putWord [OBS_CAP_POST.SOFT_POST, OBS_CAP_POST.RAW_POST] (nth p 1),
      forE (List.range 8) fun t => putWord OBS_TRIG_CFG.fields (nth p (2 + t)) t]) (fun s => [s.slots])⟩
/-- CAP_CFG (R593 to R597): captures, post-trigger lengths and trigger inputs. -/
def execCapCfg (h : CmdHdr) (p : List Word) (s : State) : Out := perform (felwin opCapCfg h p) s

def opCapTrigger : OpDef := ⟨0x0F08, lenIn 1 17, cfgStates, fun _ p _ =>
  if 7 < nth p 0 then no .range
  else okP (fireTrigger (nth p 0) (p.drop 1)) (fun s => [s.rd OBS_CAP_STAT.RAW_STATE, s.rd OBS_CAP_STAT.SOFT_STATE])⟩
/-- CAP_TRIGGER (R587): fires a trigger input with an optional mark. -/
def execCapTrigger (h : CmdHdr) (p : List Word) (s : State) : Out := perform (felwin opCapTrigger h p) s

/-- The capture a parameter names: 1 raw, 2 soft. -/
def capOf (v : Nat) : Option Bool := if v == 1 then some false else if v == 2 then some true else none

def opCapRead : OpDef := ⟨0x0F09, len 7, [3, 4, 5], fun h p s =>
  match capOf (nth p 0) with
  | none => no .badParam
  | some soft =>
    if s.obs.capRead.isSome then no .busy
    else if s.rd (capState soft) != 3 then no .state
    else if s.winBytes soft < nth p 3 + 2 ^ 32 * nth p 4 + (nth p 5 + 2 ^ 32 * nth p 6) then no .range
    else pendE (upd (.obs fun o => { o with capRead := some (runOf h 0x0F09 p) }))⟩
/-- CAP_READ (R597): starts the copy of a FROZEN window to host memory. -/
def execCapRead (h : CmdHdr) (p : List Word) (s : State) : Out := perform (felwin opCapRead h p) s

/-- CAP_READ_DONE (R597): the copy ends and the final reply gives the bytes, the trigger position and SHORT. -/
def execCapReadDone (s : State) : Out := perform (dyn fun s =>
  match s.obs.capRead with
  | none => nop
  | some r =>
    let soft := nth r.par 0 == 2
    let n := nth r.par 5 + 2 ^ 32 * nth r.par 6
    seqE [upd (.obs fun o => { o with capRead := none }), emit (.copy (nth r.par 1 + 2 ^ 32 * nth r.par 2) n),
      finish r .ok (w64 n ++ [if soft then s.obs.softPos else s.obs.rawPos, if soft then s.rd OBS_CAP_STAT.SOFT_SHORT else s.rd OBS_CAP_STAT.RAW_SHORT])]) s

def opCapRearm : OpDef := ⟨0x0F0A, len 1, [2, 3, 4, 5], fun _ p s =>
  match capOf (nth p 0) with
  | none => no .badParam
  | some soft => if s.rd (capState soft) != 3 then no .state else okE (arm soft)⟩
/-- CAP_REARM (R597): discards a FROZEN window and arms the capture again. -/
def execCapRearm (h : CmdHdr) (p : List Word) (s : State) : Out := perform (felwin opCapRearm h p) s

def opRecCfg : OpDef := ⟨0x0F0B, len 1, [1, 2, 4], fun _ p _ =>
  if !wordOk OBS_REC_CFG.fields (nth p 0) then no .range else okE (seqE [putWord OBS_REC_CFG.fields (nth p 0), setDrivesOk])⟩
/-- REC_CFG (R605): the recorder's enable, drives and log share. -/
def execRecCfg (h : CmdHdr) (p : List Word) (s : State) : Out := perform (felwin opRecCfg h p) s

def opRecRead : OpDef := ⟨0x0F0C, len 8, [3, 4, 5], fun h p s =>
  if nth p 0 != 1 && nth p 0 != 2 then no .badParam
  else if s.obs.recRead.isSome then no .busy
  else pendE (upd (.obs fun o => { o with recRead := some (runOf h 0x0F0C p) }))⟩
/-- REC_READ (R604): starts the return of decrypted records by RSEQ or by time. -/
def execRecRead (h : CmdHdr) (p : List Word) (s : State) : Out := perform (felwin opRecRead h p) s

/-- REC_READ_DONE (R604): the copy ends; the reply gives the records returned and the first and last RSEQ, flagged PARTIAL where
a segment's tag failed or a window's CAP_END is missing. -/
def execRecReadDone (n first last : Nat) (part : Bool) (s : State) : Out := perform (dyn fun s =>
  match s.obs.recRead with
  | none => nop
  | some r => seqE [upd (.obs fun o => { o with recRead := none }), emit (.copy (nth r.par 5 + 2 ^ 32 * nth r.par 6) (nth r.par 7)),
      finishFl r .ok (8 * b2n part) [n, first, last]]) s

/-- The windows with window `num` held or released. -/
def holdWin (num : Nat) (b : Bool) (ws : List Win) : List Win := ws.map (fun w => if w.num = num then { w with held := b } else w)

/-- The windows held. -/
def heldCount (ws : List Win) : Nat := (ws.filter (·.held)).length

def opRecHold : OpDef := ⟨0x0F0D, len 2, [3, 4, 5], fun _ p s =>
  if 1 < nth p 1 then no .badParam else
  match s.obs.wins.find? (fun w => w.num = nth p 0) with
  | none => no .badParam
  | some w =>
    if nth p 1 == 1 && !w.held && decide (15 ≤ heldCount s.obs.wins) then no .noResource
    else okP (seqE [upd (.obs fun o => { o with wins := holdWin (nth p 0) (nth p 1 == 1) o.wins }),
        dyn fun s => put OBS_REC_STAT.HELD (heldCount s.obs.wins)]) (fun s => [heldCount s.obs.wins])⟩
/-- REC_HOLD (R602): holds or releases a capture window on the drives, at most 15 held. -/
def execRecHold (h : CmdHdr) (p : List Word) (s : State) : Out := perform (felwin opRecHold h p) s

/-- What REC_STATUS reports of a drive. -/
def Drive.words (d : Drive) : List Nat := w64 d.cap ++ [d.smart] ++ w64 d.logUsed ++ w64 d.capUsed

def OBS_REC_STAT.fields : List Fld := [OBS_REC_STAT.DRIVES_OK, OBS_REC_STAT.DRAINING, OBS_REC_STAT.HELD, OBS_REC_STAT.BACKLOG]

def opRecStatus : OpDef := ⟨0x0F0E, len 0, upStates, fun _ _ _ =>
  okP nop (fun s => s.word OBS_REC_STAT.fields :: ((Tab.get {} s.obs.drives 0).words ++ (Tab.get {} s.obs.drives 1).words ++
    ((s.obs.wins.filter (·.held)).map (·.num))))⟩
/-- REC_STATUS (R605): recorder and drive state. -/
def execRecStatus (h : CmdHdr) (p : List Word) (s : State) : Out := perform (felwin opRecStatus h p) s

/-! ### Register writes -/

/-- The OBS and event counters clear. -/
def obsCntClr : Eff := clearList (List.range 128 ++ (List.range 576).map (1024 + ·))

/-- OBS_CNT_CLR (R584): a write of 1 to OBS_CTRL.CNT_CLR presets indices 0–127 and 1024–1599 to 0. -/
def execObsCntClr (m : Mast) (s : State) : Out := perform (byMaster m OBS_CTRL.CNT_CLR 0 obsCntClr) s

/-- Every MAX goes to 0 and every MIN to 2^48 − 1. -/
def bwClear : Eff := forE (List.range 16) fun w => seqE [put OBS_BW_MAX.ALL 0 w, put OBS_BW_MIN.ALL (2 ^ 48 - 1) w]

/-- BW_CLEAR (R591): a write of 1 to OBS_CTRL.BW_CLR. -/
def execBwClear (m : Mast) (s : State) : Out := perform (byMaster m OBS_CTRL.BW_CLR 0 bwClear) s

/-- OBS_SNAP_TAKE (R582): a write of 1 to OBS_SNAP.TAKE replaces the register bank. -/
def execObsSnapTake (m : Mast) (s : State) : Out := perform (byMaster m OBS_SNAP.TAKE 0 (upd .snapBank)) s

/-- Counter INDEX is preset to OBS_PRESET_VAL. -/
def presetGo : Eff := dyn fun s => presetCnt (s.rd OBS_PRESET_CTRL.INDEX) (s.rd OBS_PRESET_VAL.ALL)

/-- OBS_PRESET (R584): a write with GO at 1 presets counter INDEX to OBS_PRESET_VAL. -/
def execObsPreset (m : Mast) (index : BitVec 11) (s : State) : Out :=
  perform (byMaster m OBS_PRESET_CTRL.GO 0 (seqE [put OBS_PRESET_CTRL.INDEX index.toNat, presetGo])) s

/-- The live wrap sticky bits of mask `w` of word `i` clear. -/
def wrapClear (i w : Nat) : Eff := upd (.unwrap ((bitsSet 32 w).map (32 * i + ·)))

/-- WRAP_CLEAR (R580): 1s written to OBS_WRAP_CLR[i] clear those live wrap sticky bits. -/
def execWrapClear (m : Mast) (i : Fin 64) (mask : Word) (s : State) : Out :=
  perform (byMaster m OBS_WRAP_CLR.ALL i (wrapClear i mask.toNat)) s

/-! ### Events -/

/-- DUMP_PERIOD (R588): a whole multiple of PERIOD is reached; with EN at 1 a dump is taken. -/
def execDumpPeriod (s : State) : Out := perform (dyn fun s => whenE (s.on OBS_DUMP_CFG.EN) (takeDump false)) s

/-- BW_WINDOW_END (R591): the window's bytes are latched, MAX and MIN updated, GEN stepped; a window in progress when the
monitor's settings were written is discarded. -/
def execBwWindowEnd (w : Fin 16) (bytes : Nat) (s : State) : Out := perform (dyn fun s =>
  if !s.on OBS_BW_CFG.EN w then nop
  else if Tab.get 0 s.obs.bwDiscard w == 1 then upd (.obs fun o => { o with bwDiscard := Tab.set 0 o.bwDiscard w 0 })
  else seqE [put OBS_BW_BYTES.ALL bytes w, put OBS_BW_MAX.ALL (max (s.rd OBS_BW_MAX.ALL w) (bytes % 2 ^ 48)) w,
    put OBS_BW_MIN.ALL (min (s.rd OBS_BW_MIN.ALL w) (bytes % 2 ^ 48)) w, put OBS_BW_STAT.GEN (s.rd OBS_BW_STAT.GEN w + 1) w,
    put OBS_BW_STAT.FREE_RUN s.freeRun w]) s

/-- The list without its first element equal to `t`. -/
def dropFirst (t : Nat) : List Nat → List Nat
  | [] => []
  | x :: xs => if x = t then xs else x :: dropFirst t xs

/-- TRIGGER_INPUT_FIRE (R587): a trigger input fires; a firing that an event or edge made due is taken. -/
def execTriggerInputFire (t : Fin 8) (s : State) : Out :=
  perform (seqE [upd (.obs fun o => { o with trigDue := dropFirst t.val o.trigDue }), fireTrigger t.val []]) s

/-- CAP_FROZEN (R594, R596, R597): the post-trigger length has been written; the window freezes, SHORT where the ring had not
filled since it was armed, and with DRAIN_AUTO its drain starts. -/
def execCapFrozen (soft filled : Bool) (s : State) : Out := perform (dyn fun s =>
  if s.rd (capState soft) != 2 then nop
  else seqE [put (capState soft) 3, putB (if soft then OBS_CAP_STAT.SOFT_SHORT else OBS_CAP_STAT.RAW_SHORT) (!filled),
    upd (.obs fun o => if soft then { o with softFilled := filled } else { o with rawFilled := filled }),
    raise EV.CAP_FROZEN ([if soft then 2 else 1, b2n (!filled)] ++ w64 (s.winBytes soft)),
    whenE (s.on OBS_CAP_CFG.DRAIN_AUTO && s.on OBS_REC_CFG.EN) (startDrain soft)]) s

/-- DRAIN_DONE (R594, R597): a window's drain ends after `ms`; the capture is armed again with REARM at 1, else it stays FROZEN. -/
def execDrainDone (soft : Bool) (ms : Nat) (s : State) : Out := perform (dyn fun s =>
  match (if soft then s.obs.softWin else s.obs.rawWin) with
  | none => nop
  | some num =>
    let bytes := s.winBytes soft
    let other := if soft then s.obs.rawWin else s.obs.softWin
    seqE [record 8 ([num] ++ w64 bytes),
      upd (.obs fun o => { o with wins := o.wins.map (fun w => if w.num = num then { w with done := true } else w),
                                  rawWin := if soft then o.rawWin else none, softWin := if soft then none else o.softWin }),
      putB OBS_REC_STAT.DRAINING other.isSome,
      if s.on OBS_CAP_CFG.REARM then arm soft else put (capState soft) 3,
      raise EV.DRAIN_DONE ([num] ++ w64 bytes ++ [ms])]) s

/-- The bytes of a record (R598). -/
def Rec.image (r : Rec) : List Nat := ([r.typ + 256 * r.flags + 65536 * (4 * r.body.length), r.rseq] ++ w64 r.time ++ r.body).flatMap wordBytes

/-- The segment of log records `seg` written now under page 0's generation `y` (R599): its header in clear, the payload with its unused tail zero sealed
with the header as additional data, the tag; in words. -/
def State.segment (s : State) (y : KeyGen) (seg : List Rec) : List Nat :=
  let nonce := nonceWords y.salt (s.rd VNR_PAGE_CFG.DIR 0) (2 ^ 63 + y.la)
  let body := seg.flatMap Rec.image
  let hdr := [1] ++ w64 s.obs.sseq ++ [y.gen] ++ nonce ++ w64 s.fuse.devId ++ [body.length] ++ w64 ((seg.head?.map (·.time)).getD 0)
  hdr ++ packBytes (Config.gcmSeal y.key nonce (hdr.flatMap wordBytes) (body ++ List.replicate (65472 - body.length) 0))

/-- The bytes of a drive's log area (R602). -/
def State.logArea (s : State) (d : Drive) : Nat := d.cap * 4096 * s.rd OBS_REC_CFG.LOG_PCT / 100

/-- SEGMENT_WRITE_DONE (R599, R600, R603): the oldest staged records go out as one 64 KiB segment, sealed by a lookaside request under page 0, to the
drives in turn by SSEQ; a range of records discarded meanwhile is reported and its GAP record written. Under a Keeper alarm none is written (R662). -/
def execSegmentWriteDone (s : State) : Out := perform (dyn fun s =>
  let ok := s.rd OBS_REC_STAT.DRIVES_OK
  let k := s.rd VNR_PAGE_STAT.TX_KP 0
  match (s.vnr.slot 0 k).cur with
  | none => nop
  | some y =>
    if ok == 0 || s.on SEC_STATUS.KEEPER_ALARM then nop else
    let port := if ok == 3 then s.obs.sseq % 2 else if ok == 1 then 0 else 1
    let (seg, rest) := takeSegment 65472 s.obs.recs
    let d : Drive := Tab.get {} s.obs.drives port
    seqE [emit (.drive port 1 (s.segment y seg)),
      modSlot 0 k (fun x => { x with cur := some { y with la := y.la + 1 } }), count 417,
      upd (.obs fun o => { o with recs := rest, sseq := o.sseq + 1, drives := Tab.set {} o.drives port { d with logUsed := min (s.logArea d) (d.logUsed + 65536) } }),
      (match s.obs.lost with
       | none => nop
       | some (a, b) => seqE [upd (.obs fun o => { o with lost := none }), raise EV.REC_LOST [a, b], record 10 [a, b]]),
      setBacklog]) s

/-- DRIVE_FAIL (R600): a drive fails or reports no usable namespace, and takes no further segments; an NVMe command that
completed with an error is counted at index 66 or 67. -/
def execDriveFail (port : Fin 2) (nvmeError : Bool) (code : Word) (s : State) : Out := perform (seqE [
  upd (.obs fun o => { o with drives := Tab.set {} o.drives port.val { (Tab.get {} o.drives port.val) with usable := false, used := false } }),
  setDrivesOk, whenE nvmeError (count (66 + port.val)), raise EV.DRIVE_FAIL [port.val, code.toNat]]) s

/-- DRIVE_READY (R601): a drive is first used; its namespace is deallocated and SSEQ starts at 0. -/
def execDriveReady (port : Fin 2) (blocks smart : Word) (s : State) : Out := perform (seqE [
  emit (.drive port.val 0 []),
  upd (.obs fun o => { o with sseq := 0, drives := Tab.set {} o.drives port.val { usable := true, cap := blocks.toNat, smart := smart.toNat } }),
  setDrivesOk, raise EV.DRIVE_READY [port.val, blocks.toNat]]) s

/-- EQ_COALESCE_END (R704): the coalescing time ends; entries that arrived within it are signalled once more. -/
def execEqCoalesceEnd (s : State) : Out := perform (fun s =>
  if s.sys.coalOpen && s.sys.coalDue then [.sys fun y => { y with coalDue := false }, .signal (s.rd SYS_EQ_CFG.VEC)]
  else [.sys fun y => { y with coalOpen := false, coalDue := false }]) s

end Sys2Proof.Machine
end

