-- ==== Sys2Proof/Machine/Tod.lean ====
section
/-!
DEFINITION. Time of day: the counter's commands, steps and rate, the scheduled actions, and the line measurements with their asymmetry
(R469 to R488, R498 to R503).
-/
namespace Sys2Proof.Machine
open Sys2Proof

/-! ### Scheduled actions -/

/-- How late a time T is against the time of day, in ns by R478; negative while T is still to come. -/
def State.lateness (s : State) (t : Nat) : Int := ofPat 64 (toPat 64 ((s.todNs : Int) - t))

/-- The result of entry `e` (R498, R501): it is disarmed, its status recorded; SCHED_FIRED sets its bit always, and is an event while enabled. -/
def schedResult (e : Nat) (st : Status) (ns : Nat) : Eff := dyn fun s => seqE [
  put TOD_SCHED_ACT.ARMED 0 e, put TOD_SCHED_STAT.STATUS st.code e, put TOD_SCHED_STAT.LATE_US (sat 16777215 (ns / 1000)) e,
  if bit (s.rd TOD_INT_EN.ALL) 7 then raise EV.SCHED_FIRED ([e, st.code] ++ w64 ns) else stat TOD_INT_STAT.ALL 7]

/-- The action of entry `e` (R498, R698): beside the event, a pin level, a recorder trigger, the Gauge triggers, an output's enable. -/
def schedAct (e : Nat) : Eff := dyn fun s =>
  let p := s.rd TOD_SCHED_ACT.P e
  let l := s.on TOD_SCHED_ACT.L e
  match s.rd TOD_SCHED_ACT.CODE e with
  | 2 => writePins true (putBit (s.rd SYS_GPIO_OUT.ALL) p l)
  | 3 => upd (.obs fun o => { o with trigDue := o.trigDue ++ [p] })
  | 4 => triggerBy [1, 3] [0, 1]
  | 5 => putB REF_OUT_CFG.EN l p
  | _ => nop

/-- Entry `e` runs with status `st` (R498); an action on pins or outputs in a switchover gap waits for its end (R502). -/
def schedRun (e : Nat) (st : Status) (ns : Nat) : Eff := dyn fun s =>
  if s.pair.gap && (s.rd TOD_SCHED_ACT.CODE e == 2 || s.rd TOD_SCHED_ACT.CODE e == 5) then
    upd (.tod fun t => { t with gapActs := t.gapActs.filter (· != e) ++ [e] })
  else seqE [schedAct e, schedResult e st ns]

/-- The actions held by a gap run at its end, with status LATE (R502). -/
def runGapActs : Eff := dyn fun s => seqE [upd (.tod fun t => { t with gapActs := [] }),
  forE (s.tod.gapActs.filter (fun e => s.on TOD_SCHED_ACT.ARMED e)) (fun e => dyn fun s =>
    seqE [schedAct e, schedResult e .late (s.lateness (s.rd TOD_SCHED_T.ALL e)).toNat])]

/-- Whether a lateness lies in the grace window (R500). -/
def State.inGrace (s : State) (late : Int) : Bool := decide (late ≤ 1000 * s.rd TOD_SCHED_CFG.GRACE)

/-- A step re-checks every armed entry by R500 (R501). -/
def schedRecheck : Eff := forE (List.range 16) fun e => dyn fun s =>
  let late := s.lateness (s.rd TOD_SCHED_T.ALL e)
  if !s.on TOD_SCHED_ACT.ARMED e || decide (late < 0) then nop
  else if s.inGrace late || s.on TOD_SCHED_ACT.RUN_LATE e then schedRun e .late late.toNat
  else schedResult e .past late.toNat

/-- Whether an action word is valid (R498, R499): its code, its P, and for code 2 an output pin. -/
def State.actOk (s : State) (w : Nat) : Bool :=
  let p := TOD_SCHED_ACT.P.raw w
  match TOD_SCHED_ACT.CODE.raw w with
  | 1 => true | 2 => decide (p < 16) && bit (s.rd SYS_GPIO_OE.ALL) p | 3 => decide (p < 8) | 4 => true | 5 => decide (p < 6) | _ => false

/-- An entry is programmed (R499). -/
def schedPut (e t w : Nat) : Eff := seqE [put TOD_SCHED_T.ALL t e, put TOD_SCHED_ACT.ARMED 1 e,
  fun _ => [TOD_SCHED_ACT.RUN_LATE, TOD_SCHED_ACT.CODE, TOD_SCHED_ACT.L, TOD_SCHED_ACT.P].map (fun f => .put f e (f.raw w)),
  upd (.tod fun t => { t with gapActs := t.gapActs.filter (· != e) })]

def opSchedSet : OpDef := ⟨0x0C0A, len 4, cfgStates, fun _ p s =>
  let e := nth p 0
  let t := nth p 1 + nth p 2 * 2 ^ 32
  let late := s.lateness t
  if 15 < e || !s.actOk (nth p 3) then no .badParam
  else if !s.todValid then no .state
  else if late < 0 then okE (schedPut e t (nth p 3))
  else if s.inGrace late || TOD_SCHED_ACT.RUN_LATE.raw (nth p 3) = 1 then
    { status := .late, pay := fun _ => w64 late.toNat, eff := seqE [schedPut e t (nth p 3), schedRun e .late late.toNat] }
  else no .past⟩
/-- SCHED_SET (R499, R500). -/
def execSchedSet (h : CmdHdr) (p : List Word) (s : State) : Out := perform (felwin opSchedSet h p) s

def opSchedCancel : OpDef := ⟨0x0C0B, len 1, cfgStates, fun _ p s =>
  let es := (bitsSet 16 (nth p 0)).filter (fun e => s.on TOD_SCHED_ACT.ARMED e)
  if 65535 < nth p 0 then no .badParam
  else okP (forE es (fun e => put TOD_SCHED_ACT.ARMED 0 e)) (fun _ => [es.foldl setBit 0])⟩
/-- SCHED_CANCEL (R503). -/
def execSchedCancel (h : CmdHdr) (p : List Word) (s : State) : Out := perform (felwin opSchedCancel h p) s

/-- SCHED_FIRE (R498): an armed entry's time is reached. -/
def execSchedFire (e : Fin 16) (s : State) : Out := perform (dyn fun s => whenE (s.on TOD_SCHED_ACT.ARMED e.val && decide (0 ≤ s.lateness (s.rd TOD_SCHED_T.ALL e.val))) (schedRun e .ok 0)) s

/-! ### Steps and rate -/

/-- A step of the time of day to an exact count (R475): VALID set, STEP_AVAIL cleared, TOD_STEPPED with its source, 1 host or 2 servo, and the
step in ns; armed entries are checked again (R501). -/
def stepTo (src : Nat) (new : Int) (by_ : Int) : Eff := seqE [setTod new, put TOD_STATUS.VALID 1, put TOD_STATUS.STEP_AVAIL 0,
  upd (.tod fun t => { t with step := none }), raise EV.TOD_STEPPED (src :: wi64 (by_ / todUnit)), schedRecheck]

/-- The first whole second at least 1 ms ahead, as an exact count (R476). -/
def State.nextSecond (s : State) : Nat := (s.todVal + 1000000 * todUnit + 1000000000 * todUnit - 1) / (1000000000 * todUnit) * (1000000000 * todUnit)

def opTodStep : OpDef := ⟨0x0C02, len 5, runStates, fun _ p s =>
  let sec := nth p 1 + nth p 2 * 2 ^ 32
  if 1 < nth p 0 then no .badParam
  else if !s.on TOD_STATUS.BASE_OK || !s.on TOD_STATUS.STEP_AVAIL then no .state
  else if s.tod.step.isSome then no .busy
  else if nth p 0 = 0 then
    okP (upd (.tod fun t => { t with step := some ⟨false, (ofPat 64 sec * 1000000000 + ofPat 32 (nth p 3)) * todUnit + 25 * nth p 4, 0⟩ })) (fun _ => todWords s.todNext)
  else if 2 ^ 48 ≤ sec || 1000000000 ≤ nth p 3 then no .range
  else okP (upd (.tod fun t => { t with step := some ⟨true, ((sec * 1000000000 + nth p 3) * todUnit + 25 * nth p 4 : Nat), s.nextSecond⟩ })) (fun _ => todWords s.nextSecond)⟩
/-- TOD_STEP (R475, R476). -/
def execTodStep (h : CmdHdr) (p : List Word) (s : State) : Out := perform (felwin opTodStep h p) s

/-- TOD_STEP_APPLY (R475, R476): the step takes effect at its tick, or once its boundary is reached, with what has passed of it. -/
def execTodStepApply (s : State) : Out := perform (dyn fun s =>
  match s.tod.step with
  | none => nop
  | some r => if r.abs then whenE (decide (0 ≤ s.lateness (r.boundary / todUnit))) (stepTo 1 (r.value + s.todVal - r.boundary) (r.value - r.boundary)) else stepTo 1 (s.todVal + r.value) r.value) s

def TOD_STATUS.fields : List Fld := [TOD_STATUS.PARENT, TOD_STATUS.HOLD_LEFT, TOD_STATUS.SERVO, TOD_STATUS.FAR_VALID, TOD_STATUS.PATH_ASYM, TOD_STATUS.STEP_AVAIL,
  TOD_STATUS.VALID, TOD_STATUS.BASE_OK]

def opTodGet : OpDef := ⟨0x0C01, len 0, upStates, fun _ _ _ => okP nop (fun s => todWords s.todVal ++ [s.word TOD_STATUS.fields, s.rd TOD_RATE.ALL])⟩
/-- TOD_GET (R503). -/
def execTodGet (h : CmdHdr) (p : List Word) (s : State) : Out := perform (felwin opTodGet h p) s

def opTodRearm : OpDef := ⟨0x0C03, len 0, runStates, fun _ _ _ => okE (seqE [put TOD_STATUS.STEP_AVAIL 1, upd (.tod fun t => { t with refused := [] }), syncPorts])⟩
/-- TOD_REARM (R474): a new period with one step; refused ports return to the BMCA (R496). -/
def execTodRearm (h : CmdHdr) (p : List Word) (s : State) : Out := perform (felwin opTodRearm h p) s

/-- The greatest rate adjustment, 100 ppm (R471). -/
def rateMax : Int := 549756

def opTodRateSet : OpDef := ⟨0x0C04, len 1, runStates, fun _ p s =>
  if rateMax < (ofPat 32 (nth p 0)).natAbs then no .range
  else if s.on TOD_SERVO_CFG.EN then no .state
  else okE (put TOD_RATE.ALL (nth p 0))⟩
/-- TOD_RATE_SET (R471, R477). -/
def execTodRateSet (h : CmdHdr) (p : List Word) (s : State) : Out := perform (felwin opTodRateSet h p) s

/-- TIME_BASE_OK (R472): after READY the time base becomes valid and the counter starts at zero. -/
def execTimeBaseOk (s : State) : Out := perform (dyn fun s => whenE (s.dev != 0 && !s.on TOD_STATUS.BASE_OK) (seqE [put TOD_STATUS.BASE_OK 1, setTod 0])) s

/-- The three latch registers take the count, and GEN steps. -/
def todLatch : Eff := dyn fun s =>
  let w := todWords s.todNext
  seqE [put TOD_LATCH_SEC.ALL (nth w 0 + nth w 1 * 2 ^ 32), put TOD_LATCH_NS.ALL (nth w 2), put TOD_LATCH_FRAC.ALL (nth w 3), put TOD_CTRL.GEN (s.rd TOD_CTRL.GEN + 1)]

/-- TOD_LATCH (R473): the counter of the next tick is latched, and GEN increments. -/
def execTodLatch (m : Mast) (s : State) : Out := perform (byMaster m TOD_CTRL.LATCH 0 todLatch) s

/-- The time counters clear. -/
def todCntClr : Eff := clearList [272, 273]

/-- TOD_CNT_CLR (R505): every TOD counter clears. -/
def execTodCntClr (m : Mast) (s : State) : Out := perform (byMaster m TOD_CTRL.CNT_CLR 0 todCntClr) s

/-! ### Line measurements -/

/-- The sums of a and b over measurements. -/
def sumA (ms : List (Int × Int)) : Int := (ms.map (·.1)).foldl (· + ·) 0
def sumB (ms : List (Int × Int)) : Int := (ms.map (·.2)).foldl (· + ·) 0

/-- Sixteen times the test value of R486, newest measurements first. -/
def asymTest (ms : List (Int × Int)) : Int :=
  (sumA (ms.take 16) - sumA ((ms.drop 16).take 16)) - (sumB (ms.take 16) - sumB ((ms.drop 16).take 16))

/-- The newest measurements that stand off the mean of the sixteen older ones by more than the threshold: those taken after the step. -/
def stepAge (thr : Int) (ms : List (Int × Int)) : Nat :=
  let old := (ms.drop 16).take 16
  max 1 ((ms.take 16).takeWhile (fun m => decide (16 * thr < (16 * (m.1 - m.2) - (sumA old - sumB old)).natAbs))).length

/-- Sixteen measurements have been taken after the step (R487): the new asymmetry is set and the hold starts. -/
def asymMeasured : Eff := dyn fun s =>
  match s.tod.wait with
  | some w => whenE (w.left == 0) (seqE [
      putI TOD_ASYM_NEW.ALL (w.base + ((sumA (s.tod.meas.take 16) - w.oldA) - (sumB (s.tod.meas.take 16) - w.oldB)) / 16),
      put TOD_STATUS.HOLD_LEFT (s.rd TOD_LIMITS.ACC_HOLD),
      upd (.tod fun t => { t with wait := none, meas := t.meas.take 16, holdOk := s.todValid && s.on TOD_STATUS.FAR_VALID })])
  | none => nop

/-- The asymmetry threshold in ps. -/
def State.asymThr (s : State) : Int := 10000 * s.rd TOD_LIMITS.ASYM_THR

/-- A measurement leaves the delay line for the servo (R485): it counts while the line is the parent. -/
def lineSample (m : Int × Int) : Eff := dyn fun s =>
  whenE (s.parent == some 32) (upd (.tod fun t => { t with samples := (m.1 + m.2, (m.1 - m.2 - s.rdI TOD_ASYM.ALL) / 2) :: t.samples }))

/-- A measurement pair (R484 to R487). -/
def measure (a b : Int) : Eff := dyn fun s =>
  let ms := ((a, b) :: s.tod.meas).take 32
  let standing := s.on TOD_STATUS.PATH_ASYM
  seqE [putI TOD_LINE_FWD.ALL a, putI TOD_LINE_REV.ALL b,
    upd (.tod fun t => { t with meas := ms, holdOk := t.holdOk && s.todValid && s.on TOD_STATUS.FAR_VALID }),
    if s.tod.wait.isSome then seqE [upd (.tod fun t => { t with wait := t.wait.map (fun w => { w with left := w.left - 1 }) }), asymMeasured]
    else if ms.length = 32 ∧ 16 * s.asymThr < (asymTest ms).natAbs then
      let k := stepAge s.asymThr ms
      let old := (ms.drop k).take 16
      seqE [put TOD_STATUS.PATH_ASYM 1, put TOD_STATUS.HOLD_LEFT 0,
        upd (.tod fun t => { t with delay := [], wait := some ⟨16 - k, sumA old, sumB old, if standing then s.rdI TOD_ASYM_NEW.ALL else s.rdI TOD_ASYM.ALL⟩ }),
        whenE (!standing) (raise EV.PATH_ASYM [w32 (asymTest ms / 16000), s.rd TOD_ASYM_NEW.ALL]), asymMeasured, syncServo]
    else if standing then nop
    else seqE [upd (.tod fun t => { t with delay := (((a, b) :: t.delay).take 32) }),
      match s.tod.delay[31]? with | some m => lineSample m | none => nop]]

/-- LINE_STAMP_RX (R483 to R487): a stamp message of 32 bytes; one whose CRC fails is discarded, and one naming a superframe without a local
stamp gives no measurement. -/
def execLineStampRx (bytes : List (BitVec 8)) (s : State) : Out := perform (dyn fun s =>
  let m := bytes.map (·.toNat)
  let part (k n : Nat) : Nat := ofBytes ((m.drop k).take n)
  if m.length != 32 || nth m 0 != 0x54 || crc16 (m.take 30) != part 30 2 || !nativeMode (s.rd LRX_CTRL.MODE) then nop
  else seqE [putB TOD_STATUS.FAR_VALID (bit (nth m 1) 0),
    match Tab.get none s.tod.rxSt (part 2 2), Tab.get none s.tod.txSt (part 16 2) with
    | some rx, some tx => measure (((rx : Int) - ofStampBytes ((m.drop 4).take 12)) * 1000 / 65536) (((ofStampBytes ((m.drop 18).take 12) : Int) - tx) * 1000 / 65536)
    | _, _ => nop]) s

/-- An asymmetry is accepted (R488), by the host (1) or at the end of the hold (2): line measurements resume. -/
def acceptAsym (v : Int) (src : Nat) : Eff := seqE [putI TOD_ASYM.ALL v, put TOD_STATUS.PATH_ASYM 0, put TOD_STATUS.HOLD_LEFT 0,
  upd (.tod fun t => { t with wait := none, delay := [] }), raise EV.ASYM_ACCEPTED [w32 v, src], syncServo]

/-- ASYM_HOLD_END (R488): the new asymmetry takes effect if both ends stayed valid. -/
def execAsymHoldEnd (s : State) : Out := perform (dyn fun s =>
  if !s.on TOD_STATUS.PATH_ASYM || s.tod.wait.isSome then nop
  else seqE [put TOD_STATUS.HOLD_LEFT 0, whenE (s.tod.holdOk && s.todValid && s.on TOD_STATUS.FAR_VALID) (acceptAsym (s.rdI TOD_ASYM_NEW.ALL) 2)]) s

def opAsymAccept : OpDef := ⟨0x0C09, len 2, [3, 4], fun _ p s =>
  let v := if nth p 0 = 0 then s.rdI TOD_ASYM_NEW.ALL else ofPat 32 (nth p 1)
  if 1 < nth p 0 then no .badParam
  else if !s.on TOD_STATUS.PATH_ASYM then no .state
  else if 200000 * s.rd TOD_LIMITS.JUMP_THR < (v - s.rdI TOD_ASYM_NEW.ALL).natAbs then no .jumpRefused
  else okP (acceptAsym v 1) (fun s => [s.rd TOD_ASYM.ALL])⟩
/-- ASYM_ACCEPT (R488, R503). -/
def execAsymAccept (h : CmdHdr) (p : List Word) (s : State) : Out := perform (felwin opAsymAccept h p) s

def opLineDelay : OpDef := ⟨0x0C08, len 0, [3, 4, 5], fun _ _ _ => okP nop (fun s => w64 (s.rd TOD_LINE_FWD.ALL) ++ w64 (s.rd TOD_LINE_REV.ALL) ++
  [s.rd TOD_ASYM.ALL, s.rd TOD_ASYM_NEW.ALL, s.rd TOD_STATUS.PATH_ASYM, s.rd TOD_STATUS.FAR_VALID, s.rd TOD_STATUS.HOLD_LEFT])⟩
/-- LINE_DELAY (R484, R503). -/
def execLineDelay (h : CmdHdr) (p : List Word) (s : State) : Out := perform (felwin opLineDelay h p) s

end Sys2Proof.Machine
end

