-- ==== Sys2Proof/Machine/Pair.lean ====
section
/-!
DEFINITION. The pair: its commands, the Mitre link and Peg, roles and promotion, snapshots, digests and identification, time alignment and
the planned handover (R507 to R542, R546 to R548).
-/
namespace Sys2Proof.Machine
open Sys2Proof

/-! ### Promotion -/

/-- Whether the receiver is LOCKED and Dovetail in frame. -/
def State.rxGood (s : State) : Bool := s.stage == 10 && s.inFrame

/-- Whether the unit is healthy (R540). -/
def State.healthy (s : State) : Bool :=
  s.dev != 5 && !s.on SEC_STATUS.KEEPER_ALARM && (s.role == 1 || !s.pair.mateLocked || s.stage == 10) && s.pair.unresolved.isEmpty && !s.pair.unresHold

/-- Whether JSEQ `a` comes after `b`, round the 32 bits. -/
def jAfter (a b : Nat) : Bool := decide (0 < ofPat 32 (toPat 32 ((a : Int) - b)))

/-- The PROMOTED_STALE mask (R535): every asynchronous category where entries are discarded or the last snapshot applied is not the last cut;
else RECEIVE alone while the receiver is not LOCKED. -/
def State.promotedMask (s : State) : Nat :=
  if s.pair.held.any (fun e => jAfter e.1 (s.rd PAIR_JSEQ.ALL)) || decide (s.rd PAIR_EPOCH.ALL < s.pair.mateEpoch) then 0xFC else if s.stage == 10 then 0 else 0x100

/-- The re-derivations of Table 14.4 for the categories of a mask (R536): adaptation idle in back-off, the servo in HOLD, every lookaside
count advanced, the stored seconds flagged missing, the receiver restarted warm; and in any case no protected Scribe message before a fresh
key exchange, and the BMCA run again from LISTENING. -/
def rederive (mask : Nat) : Eff := seqE [
  whenE (bit mask 3) (seqE [upd (.adapt fun a => { a with committed := false, verify := false }), startBackoff]),
  whenE (bit mask 6) (upd (.vnr fun v => { v with slots := v.slots.map (fun e => (e.1, { e.2 with cur := e.2.cur.map (fun c => { c with la := c.la + 2 ^ 32 }) })) })),
  whenE (bit mask 7) (upd (.frm fun f => { f with recs := f.recs.map (fun r => { r with missing := true }) })),
  dyn fun s => whenE (bit mask 8 && s.on LRX_CTRL.RX_EN) (restartNow 4),
  put SCR_STATUS.KEYED 0, upd (.tod fun t => { t with ann := [] }), syncPorts,
  dyn fun s => whenE (bit mask 4 && s.servo != 3) (seqE [put TOD_STATUS.SERVO 3, raise EV.SERVO_STATE [s.servo, 3]])]

/-- Promotion (R533, Table 14.8), `trigger` the row of Table 14.7 and `row` that of Table 14.3: outputs held, held entries discarded and the
mask fixed, both select lines asserted, ACTIVE. -/
def promote (trigger row : Nat) : Eff := dyn fun s =>
  let m := s.promotedMask
  seqE [upd (.pair fun q => { q with gap := true, handover := false, mask := m, told := false, untold := [], held := [], death := false, badHb := 0 }),
    setSel true true, setRole 1 row, raise EV.PAIR_SWITCHOVER [trigger, m, 10 * s.rd PAIR_TIMERS2.GAP_HOLD], rederive m]

/-- A trigger of Table 14.7 that a STANDBY acts on. -/
def promoteStandby (trigger : Nat) : Eff := dyn fun s => whenE (s.paired && s.role == 2) (promote trigger 2)

/-! ### Commands -/

def PAIR_CTRL.fields : List Fld := [PAIR_CTRL.CMP_RX, PAIR_CTRL.CMP_TX, PAIR_CTRL.REVERT, PAIR_CTRL.PRIMARY, PAIR_CTRL.EN]
def PAIR_TIMERS.fields : List Fld := [PAIR_TIMERS.WTR, PAIR_TIMERS.SNAP_PERIOD, PAIR_TIMERS.DEATH_WIN]
def PAIR_TIMERS2.fields : List Fld := [PAIR_TIMERS2.SNAP_TO, PAIR_TIMERS2.ACK_TO, PAIR_TIMERS2.GAP_HOLD]
def PAIR_CMP_CFG.fields : List Fld := [PAIR_CMP_CFG.MIS_N, PAIR_CMP_CFG.UNRES_N]
def PAIR_SPARE_CFG.fields : List Fld := [PAIR_SPARE_CFG.RETEST, PAIR_SPARE_CFG.SPARE_WTR]
def PAIR_STATUS.fields : List Fld := [PAIR_STATUS.ROLE, PAIR_STATUS.MATE_ROLE, PAIR_STATUS.LINK, PAIR_STATUS.PEG, PAIR_STATUS.PEG_CODE, PAIR_STATUS.SYNCED,
  PAIR_STATUS.IDENT, PAIR_STATUS.WTR_RUN, PAIR_STATUS.WTR_LEFT]
def PAIR_ENG.fields : List Fld := [PAIR_ENG.STATE, PAIR_ENG.RUNS_FOR, PAIR_ENG.FAILS]

/-- The registers of PAIR_CFG, in its order. -/
def pairCfgRegs : List (List Fld) := [PAIR_CTRL.fields, PAIR_TIMERS.fields, PAIR_TIMERS2.fields, PAIR_CMP_CFG.fields, PAIR_SPARE_CFG.fields]

/-- An unpaired unit's role reads OOS and its select pins are low (R510); it may join again once paired. -/
def pairEnSync : Eff := dyn fun s => whenE (!s.paired && s.role != 0) (seqE [setRole 0 1, upd (.pair fun q => { q with joinOk := true })])

/-- The PAIR counters clear. -/
def pairCntClr : Eff := clearList [280, 281, 282, 283, 284, 285]

/-- An OOS unit joins its authenticated mate (R511, R512): an ACTIVE mate makes it STALE; two OOS units elect by PRIMARY, then by the larger
identifier. -/
def joinPair : Eff := dyn fun s =>
  let mine := s.on PAIR_CTRL.PRIMARY
  let wins := if mine != s.pair.matePrimary then mine else decide (s.pair.mateId < s.fuse.devId)
  if !(s.paired && s.on PAIR_STATUS.LINK && s.role == 0 && s.pair.joinOk) then nop
  else if s.rd PAIR_STATUS.MATE_ROLE == 0 && wins then seqE [setSel true true, setRole 1 12]
  else seqE [setRole 3 12, upd (.pair fun q => { q with returning := true }), toMate 5 []]

def opPairCfg : OpDef := ⟨0x0D01, len 7, runStates, fun _ p _ =>
  if !((List.range 5).all (fun k => wordOk (pairCfgRegs.getD k []) (nth p k))) then no .range
  else okE (seqE [forE (List.range 5) (fun k => putWord (pairCfgRegs.getD k []) (nth p k)), put PAIR_MATE_ID.ALL (nth p 5 + nth p 6 * 2 ^ 32),
    whenE (PAIR_CTRL.CNT_CLR.raw (nth p 0) == 1) pairCntClr, pairEnSync, joinPair])⟩
/-- PAIR_CFG (R510, R546). -/
def execPairCfg (h : CmdHdr) (p : List Word) (s : State) : Out := perform (felwin opPairCfg h p) s

def opPairStatus : OpDef := ⟨0x0D02, len 0, upStates, fun _ _ _ => okP nop (fun s =>
  [s.word PAIR_STATUS.fields, s.rd PAIR_EPOCH.ALL, s.rd PAIR_JSEQ.ALL, s.rd PAIR_JACK.ALL] ++ w64 (s.rd PAIR_MATE_ID.ALL) ++
  (List.range 6).flatMap (fun k => w64 (s.cnt (280 + k))))⟩
/-- PAIR_STATUS (R546). -/
def execPairStatus (h : CmdHdr) (p : List Word) (s : State) : Out := perform (felwin opPairStatus h p) s

def opPairSwitch : OpDef := ⟨0x0D03, len 1, [3, 4], fun _ p s =>
  let forced := nth p 0 == 1
  let mate := s.rd PAIR_STATUS.MATE_ROLE
  let ready := (s.role == 2 && s.healthy) || (s.role == 1 && mate == 2 && s.pair.mateHealthy)
  let readyForced := s.role == 2 || s.role == 3 || (s.role == 1 && (mate == 2 || mate == 3))
  if 1 < nth p 0 then no .badParam
  else if !s.paired || !(ready || (forced && readyForced)) then no .state
  else if s.role == 1 then okP (seqE [toMate 4 [7], setRole 2 11]) (fun _ => [0])
  else okP (promote 7 s.role) (fun s => [s.pair.mask])⟩
/-- PAIR_SWITCH (R531, R546): at the unit to be promoted, the promotion; at the active, which releases its select lines, the request to the mate. -/
def execPairSwitch (h : CmdHdr) (p : List Word) (s : State) : Out := perform (felwin opPairSwitch h p) s

def opPairPromote : OpDef := ⟨0x0D04, len 0, [3, 4, 5], fun _ _ s =>
  if !s.paired || !(s.role == 3 || s.role == 4) then no .state else okP (promote 7 4) (fun s => [s.pair.mask])⟩
/-- PAIR_PROMOTE (R511, R546). -/
def execPairPromote (h : CmdHdr) (p : List Word) (s : State) : Out := perform (felwin opPairPromote h p) s

def opPairOos : OpDef := ⟨0x0D05, len 0, [3, 4, 5], fun _ _ _ => okE (seqE [setRole 0 1, upd (.pair fun q => { q with joinOk := false })])⟩
/-- PAIR_OOS (R511). -/
def execPairOos (h : CmdHdr) (p : List Word) (s : State) : Out := perform (felwin opPairOos h p) s

def opPairReturn : OpDef := ⟨0x0D06, len 0, runStates, fun _ _ s =>
  if s.role != 0 then no .state
  else okE (seqE [upd (.pair fun q => { q with joinOk := true, unresHold := false, unresolved := [] }), joinPair])⟩
/-- PAIR_RETURN (R541). -/
def execPairReturn (h : CmdHdr) (p : List Word) (s : State) : Out := perform (felwin opPairReturn h p) s

def opPairSnapshot : OpDef := ⟨0x0D07, len 0, [3, 4], fun _ _ s =>
  if s.role != 1 then no .state else okP cutSnapshot (fun s => [s.rd PAIR_EPOCH.ALL, s.pair.jcut])⟩
/-- PAIR_SNAPSHOT (R520). -/
def execPairSnapshot (h : CmdHdr) (p : List Word) (s : State) : Out := perform (felwin opPairSnapshot h p) s

def opPairSpares : OpDef := ⟨0x0D08, len 0, upStates, fun _ _ _ => okP nop (fun s => (List.range 64).map (fun e => s.word PAIR_ENG.fields e))⟩
/-- PAIR_SPARES (R546). -/
def execPairSpares (h : CmdHdr) (p : List Word) (s : State) : Out := perform (felwin opPairSpares h p) s

/-- PAIR_CNT_CLR (R548): every PAIR counter clears. -/
def execPairCntClr (m : Mast) (s : State) : Out := perform (byMaster m PAIR_CTRL.CNT_CLR 0 pairCntClr) s

/-! ### Heartbeat, link and Peg -/

/-- The ACTIVE sends an entry of each part of the asynchronous categories that has changed since its last entry (R517, R519, log entry 118). -/
def sendChanged : Eff := dyn fun s => whenE (s.role == 1 && s.on PAIR_STATUS.LINK) (forE [1, 2, 3, 4, 5, 6, 7] fun k => dyn fun s =>
  whenE (s.glueOf k != Tab.get [] s.pair.sent k) (seqE [journal (max 2 k) (s.glueOf k), upd (.pair fun q => { q with sent := Tab.set [] q.sent k (s.glueOf k) })]))

/-- HEARTBEAT_TX (R513, R519): role, health, epoch, acknowledgement, and whether the receiver is LOCKED and in frame; then the
asynchronous categories that have changed. A lapse of health restarts the wait-to-restore (R541). -/
def execHeartbeatTx (s : State) : Out := perform (dyn fun s => whenE s.paired (seqE [
  toMate 1 [s.role, b2n s.healthy, s.rd PAIR_EPOCH.ALL, if s.role = 1 then s.rd PAIR_JACK.ALL else s.rd PAIR_JSEQ.ALL, b2n (s.stage == 10), b2n s.inFrame],
  whenE (s.role != 1) (put PAIR_JACK.ALL (s.rd PAIR_JSEQ.ALL)),
  whenE (s.on PAIR_STATUS.WTR_RUN && !s.healthy) (put PAIR_STATUS.WTR_LEFT (s.rd PAIR_TIMERS.WTR)), sendChanged])) s

/-- MITRE_LINK_LOST (R511, R513, R538): no valid HEARTBEAT for 1 ms, or the group down. A STANDBY waits out DEATH_WIN, or, having lost Peg
within it, promotes; a STALE unit that has lost Peg is ISOLATED. -/
def execMitreLinkLost (groupDown : Bool) (s : State) : Out := perform (dyn fun s =>
  if !s.on PAIR_STATUS.LINK then nop
  else seqE [put PAIR_STATUS.LINK 0, put PAIR_STATUS.MATE_ROLE 7, upd (.pair fun q => { q with badHb := 0, mateLocked := false, mateHealthy := false }),
    raise EV.PAIR_LINK_DOWN [if groupDown then 2 else 1],
    if s.role == 2 then (if s.pair.death && !s.on PAIR_STATUS.PEG then promote 6 5 else upd (.pair fun q => { q with death := true }))
    else whenE (s.role == 3 && !s.on PAIR_STATUS.PEG) (setRole 4 8)]) s

/-- The key of page 1 (R515): agreed in the manner of R421 with a fresh ephemeral key and nonce; the unit with the larger identifier leads. -/
def keyMitre (x : MateHello) : Eff := dyn fun s =>
  let d := sessionKey (decide (x.id.toNat < s.fuse.devId)) (s.free 49) x.pub s.fuse.devId x.id.toNat ((List.range 8).map (fun i => s.free (50 + i) % 2 ^ 32)) x.nonce
  placeKey 1 0 (d.take 8) (nth d 8)

/-- The exchange of R515 with its outcome, and what a link-up brings (R512, R513, R516, R539): the key into page 1, election or joining, and of
two ACTIVE units the later one STALE. -/
def linkUp (x : MateHello) : Eff := dyn fun s =>
  let ms := (s.tick - s.pair.activeAt) * 32 / 25000000
  let cause := if x.id.toNat != s.rd PAIR_MATE_ID.ALL then 1 else if !x.certOk then 2 else if !x.sigOk then 3 else if x.fmt != s.snapFmt then 4 else 0
  if !s.paired || s.on PAIR_STATUS.LINK then nop
  else if cause != 0 then seqE [upd (.pair fun q => { q with retry := true }), raise EV.PAIR_AUTH_FAIL [cause]]
  else seqE [put PAIR_STATUS.LINK 1, put PAIR_STATUS.MATE_ROLE x.role.toNat,
    upd (.pair fun q => { q with retry := false, mateId := x.id.toNat, matePrimary := x.primary, death := false, badHb := 0 }),
    drawn, keyMitre x,
    raise EV.PAIR_LINK_UP (w64 x.id.toNat), joinPair,
    dyn fun s =>
      if s.role == 1 && x.role.toNat == 1 then whenE (decide (ms < x.activeMs)) (seqE [raise EV.PAIR_DUAL_ACTIVE [ms], setRole 3 13, toMate 5 []])
      else if s.role == 1 then whenE (x.role.toNat == 3) cutSnapshot
      else whenE (s.role == 3) (toMate 5 [])]

/-- MITRE_LINK_UP (R513, R515): 10 ms of valid HEARTBEATs and the exchange of certificates. -/
def execMitreLinkUp (x : MateHello) (s : State) : Out := perform (linkUp x) s

/-- PAIR_AUTH_RETRY (R515): ten seconds after a failed exchange. -/
def execPairAuthRetry (x : MateHello) (s : State) : Out := perform (dyn fun s => whenE s.pair.retry (seqE [toMate 10 [], linkUp x])) s

/-- PEG_TX (R514): the code of the sender's state. -/
def execPegTx (s : State) : Out := perform (dyn fun s =>
  whenE s.paired (emit (.peg (if s.dev == 5 then 3 else if s.role == 1 then 1 else if s.healthy then 2 else 3)))) s

/-- The code a high time in µs classifies as, to within 50 µs (R514); 0 none. -/
def pegCode (us : Nat) : Nat := if 50 ≤ us ∧ us ≤ 150 then 1 else if 250 ≤ us ∧ us ≤ 350 then 2 else if 450 ≤ us ∧ us ≤ 550 then 3 else 0

/-- PEG_PULSE (R511, R514): a code is accepted after two pulses in a row, Peg is valid again after ten that classify; FAILED from the active
promotes a STANDBY or a STALE unit. -/
def execPegPulse (us : Nat) (s : State) : Out := perform (dyn fun s =>
  let c := pegCode us
  let good := if c = 0 then 0 else s.pair.pegGood + 1
  let runs := if c ≠ 0 ∧ c = s.pair.pegCand then s.pair.pegRun + 1 else 1
  let valid := s.on PAIR_STATUS.PEG || decide (10 ≤ good)
  seqE [upd (.pair fun q => { q with pegCand := c, pegRun := runs, pegGood := min 10 good }),
    whenE (!s.on PAIR_STATUS.PEG && valid) (seqE [put PAIR_STATUS.PEG 1, whenE (s.paired && s.role == 4) (setRole 3 9)]),
    whenE (valid && c != 0 && decide (2 ≤ runs)) (seqE [put PAIR_STATUS.PEG_CODE c, dyn fun s =>
      whenE (c == 3 && s.paired && (s.role == 2 || s.role == 3)) (promote 1 s.role)])]) s

/-- PEG_LOSS (R511, R514, R538): no edge for 3 ms. With the link up it only raises PEG_LOST; with it lost, a STANDBY in DEATH_WIN promotes and
a STALE unit is ISOLATED. -/
def execPegLoss (s : State) : Out := perform (dyn fun s =>
  if !s.on PAIR_STATUS.PEG then nop
  else seqE [put PAIR_STATUS.PEG 0, put PAIR_STATUS.PEG_CODE 0, upd (.pair fun q => { q with pegGood := 0, pegRun := 0, pegCand := 0 }),
    if s.on PAIR_STATUS.LINK then seqE [raise EV.PEG_LOST [1], whenE (s.role == 2) (upd (.pair fun q => { q with death := true }))]
    else if s.role == 2 && s.pair.death then promote 6 5
    else whenE (s.paired && s.role == 3) (setRole 4 8)]) s

/-- DEATH_WIN_END (R511, R538): the link lost and Peg not lost with it, a STANDBY becomes STALE, and ISOLATED where Peg is lost too. -/
def execDeathWinEnd (s : State) : Out := perform (dyn fun s => whenE s.pair.death (seqE [
  upd (.pair fun q => { q with death := false }),
  whenE (s.role == 2 && !s.on PAIR_STATUS.LINK) (seqE [setRole 3 6, whenE (!s.on PAIR_STATUS.PEG) (setRole 4 8)])])) s

/-- FAIL_RX (R531 to R535): the active's declared failure, `row` its row of Table 14.7, promotes a STANDBY. -/
def execFailRx (row : Fin 8) (s : State) : Out := perform (promoteStandby row.val) s

/-- GAP_END (R502, R533, R534, R698): held pin writes take effect in order and held actions run LATE; channels are judged again; a planned
handover raises PAIR_SWITCHOVER with REVERT and an empty mask (Table 14.11). -/
def execGapEnd (s : State) : Out := perform (dyn fun s => whenE s.pair.gap (seqE [
  upd (.pair fun q => { q with gap := false, handover := false }),
  forE s.sys.held (fun x => writePins x.out x.word), upd (.sys fun y => { y with held := [] }),
  runGapActs, judgeFill,
  whenE s.pair.handover (raise EV.PAIR_SWITCHOVER [8, 0, 2 + 10 * s.rd PAIR_TIMERS2.GAP_HOLD])])) s

/-! ### Snapshots, journal timers -/

/-- JOURNAL_RESEND (R519): every entry after the acknowledgement is sent again. -/
def execJournalResend (s : State) : Out := perform (dyn fun s => whenE (s.paired && s.role == 1 && s.on PAIR_STATUS.LINK)
  (forE (s.pair.kept.filter (fun e => jAfter e.jseq (s.rd PAIR_JACK.ALL))) (fun e =>
    toMate 2 (e.jseq :: e.epoch :: e.cat :: e.body.length :: e.body)))) s

/-- SNAPSHOT_PERIOD (R520, R521): the active cuts one; a unit whose snapshots keep failing asks for one. -/
def execSnapshotPeriod (s : State) : Out := perform (dyn fun s =>
  if s.paired && s.role == 1 && s.on PAIR_STATUS.LINK then cutSnapshot else whenE (s.paired && s.role != 1 && decide (3 ≤ s.pair.snapFails)) (toMate 5 [])) s

/-- A snapshot fails for cause 1 timeout or 2 digest (R521): it is discarded, a new cut asked for; the third in a row raises PAIR_SYNC_FAIL. -/
def snapFail (cause : Nat) : Eff := dyn fun s => whenE (s.paired && (s.role == 2 || s.role == 3)) (seqE [
  upd (.pair fun q => { q with snapFails := q.snapFails + 1 }),
  whenE (decide (s.pair.snapFails < 2)) (toMate 5 []),
  whenE (s.pair.snapFails == 2) (raise EV.PAIR_SYNC_FAIL [s.rd PAIR_EPOCH.ALL, cause])])

/-- SNAPSHOT_TIMEOUT (R521). -/
def execSnapshotTimeout (s : State) : Out := perform (snapFail 1) s

/-! ### Digests and identification -/

/-- DIGEST_BATCH_RX (R528, R529): the mate's digests of direction `d`, each with its FTAG and skip mark. -/
def execDigestBatchRx (d : Fin 2) (ds : List (BitVec 22 × BitVec 64 × Bool)) (s : State) : Out := perform (forE ds (fun x =>
  dyn fun s => whenE (s.comparing d.val) (meetDigest d.val ⟨x.1.toNat, x.2.1.toNat, x.2.2, false⟩))) s

/-- DIGEST_MISSING (R528): a digest without a partner for 200 µs is counted. -/
def execDigestMissing (d : Fin 2) (ftag : BitVec 22) (s : State) : Out := perform (dyn fun s =>
  let ds := Tab.get [] s.pair.digs d.val
  whenE (ds.any (fun x => x.ftag == ftag.toNat)) (seqE [
    upd (.pair fun q => { q with digs := Tab.set [] q.digs d.val (ds.filter (fun x => x.ftag != ftag.toNat)) }), count 285])) s

/-- The outcome row of Table 14.6. -/
def identRow (activeFails standbyFails : Bool) : Nat := if activeFails then (if standbyFails then 3 else 1) else if standbyFails then 2 else 4

/-- IDENTIFICATION_DONE (R529, R530, Table 14.6): both results are known. -/
def execIdentificationDone (own mate : Bool) (s : State) : Out := perform (dyn fun s =>
  let act := s.role == 1
  let row := if act then identRow own mate else identRow mate own
  let late := (s.tick :: s.pair.unresolved).filter (fun t => decide ((s.tick - t) * 32 ≤ 60 * 25000000000))
  if !s.on PAIR_STATUS.IDENT then nop
  else seqE [put PAIR_STATUS.IDENT 0, toMate 8 [row], raise EV.PAIR_MISCOMPARE [s.pair.misDir + 1, s.pair.misTag, row],
    upd (.pair fun q => { q with mis := 0 }),
    match row with
    | 1 => if act then setRole 0 1 else promoteStandby 4
    | 4 => if act then mateStale else seqE [
        upd (.pair fun q => { q with unresolved := late.take 16, unresHold := q.unresHold || decide (s.rd PAIR_CMP_CFG.UNRES_N ≤ late.length) }), setRole 3 7]
    | _ => if act then seqE [put PAIR_STATUS.MATE_ROLE 0, raise EV.PAIR_UNPROTECTED [0]] else setRole 0 1]) s

/-! ### Handover and time -/

/-- PAIR_WTR_END (R541, R542): the healthy STANDBY whose PRIMARY and REVERT are 1 asks for the planned handover. -/
def execPairWtrEnd (s : State) : Out := perform (dyn fun s => whenE (s.on PAIR_STATUS.WTR_RUN) (seqE [
  put PAIR_STATUS.WTR_RUN 0, put PAIR_STATUS.WTR_LEFT 0, upd (.pair fun q => { q with returning := false }),
  whenE (s.role == 2 && s.healthy && s.on PAIR_CTRL.PRIMARY && s.on PAIR_CTRL.REVERT) (toMate 9 [])])) s

/-- PLANNED_HANDOVER (R542, Table 14.11): at boundary S the returning STANDBY asserts its select lines and becomes ACTIVE; the old active, with
no plan change, key switch or move pending, releases its own and becomes STANDBY. -/
def execPlannedHandover (s : State) : Out := perform (dyn fun s =>
  if !s.paired then nop
  else if s.role == 1 then whenE (s.rd PAIR_STATUS.MATE_ROLE == 2 && !s.on LTX_STATUS.PLAN_PENDING && s.vnr.batch.isNone && s.cli.move.isNone) (setRole 2 11)
  else whenE (s.role == 2) (seqE [upd (.pair fun q => { q with gap := true, handover := true, mask := 0, told := true }), setSel true true, setRole 1 11])) s

/-- MITRE_TIME_STAMP (R524): a STANDBY or STALE unit with the link up takes the active's time by its one step, then by `rate`; `offset` is
its own time less the active's in ps. -/
def execMitreTimeStamp (offset : Int) (rate : Word) (s : State) : Out := perform (dyn fun s =>
  if !(s.paired && s.on PAIR_STATUS.LINK && (s.role == 2 || s.role == 3) && s.on TOD_STATUS.BASE_OK) then nop
  else if s.on TOD_STATUS.STEP_AVAIL then stepTo 2 (s.todVal - offset * todUnit / 1000) (-offset * todUnit / 1000)
  else putI TOD_RATE.ALL (clampI (-rateMax) rateMax rate.toInt)) s

end Sys2Proof.Machine
end

