-- ==== Sys2Proof/Machine/Boundary.lean ====
section
/-!
DEFINITION. Superframe boundaries of the transmitter and the receiver (R32, R69, R73, R77, R78, R113, R114, R119, R133 to R136, R145, R152 to
R155, R168, R723), and the ends of seconds and minutes (R725).
-/
namespace Sys2Proof.Machine
open Sys2Proof

/-! ### The transmitter -/

/-- What the boundary of the local transmitter and the dark-time tick share (R723): pilot gain (R64), protection (R394), engines (R544, R635). -/
def localBoundary : Eff := dyn fun s => seqE [upd (.ltx fun x => { x with pilot := s.rd LTX_PILOT.GAIN }), returnSlices, vnrBoundary, engReturn, fwBoundary]

/-- The samples of a histogram, by their peak-to-average ratio in 0.1 dB, that the clip level cuts (R69). -/
def clipped (level : Nat) (hist : List (Nat × Nat)) : Nat := ((hist.filter (fun e => decide (level < e.1))).map (·.2)).foldl (· + ·) 0

/-- CLIP_HIGH (R69): the samples clipped in the superframe that ends, against the threshold of 10^-THR_EXP; the fraction is given in 10^-9. -/
def judgeClip (hist : List (Nat × Nat)) : Eff := dyn fun s =>
  let n := clipped (s.rd LTX_CLIP.LEVEL) hist
  let total := (hist.map (·.2)).foldl (· + ·) 0
  whenE (decide (total < n * 10 ^ s.rd LTX_CLIP.THR_EXP)) (raise EV.CLIP_HIGH [n * 1000000000 / max 1 total])

/-- SUPERFRAME_BOUNDARY (R32, R34): all that is due at the boundary takes effect on the first symbol of the new superframe. `hist` counts the
samples of the superframe that ends by the ratio of their power to the mean, in 0.1 dB. -/
def execSuperframeBoundary (hist : List (Nat × Nat)) (s : State) : Out := perform (dyn fun s =>
  let sf := (s.rd LTX_SF_NUM.ALL + 1) % 65536
  if !s.sending then nop
  else seqE [judgeClip hist, put LTX_SF_NUM.ALL sf,
    if s.on LTX_STATUS.PLAN_PENDING && s.rd LTX_PLAN_CHG.TARGET_SF == sf then seqE [emitPads, applyPlan sf]
    else upd (.ltx fun x => { x with sfs := x.sfs + 1 }),
    commitReturn,
    whenE (s.vnr.batch.map (·.sf) == some sf) (seqE [applyBatch sf, judgeProt]),
    localBoundary,
    whenE (s.on CLI_MOVE_STAT.PENDING && s.rd CLI_MOVE_STAT.CD != 0) (put CLI_MOVE_STAT.CD (s.rd CLI_MOVE_STAT.CD - 1)),
    startSf]) s

/-- DARK_TIME_TICK (R723). -/
def execDarkTimeTick (s : State) : Out := perform (dyn fun s => whenE (!s.sending) localBoundary) s

/-! ### The receiver: what the superframe that ends showed -/

/-- The receiver asks for the plan before (R168), once: reason 1 SC_UNLOCK, 2 FEC, 3 margin. -/
def askRollback (reason : Nat) : Eff := dyn fun s => whenE (s.on LRX_ADAPT_CFG.RX_EN && s.lrx.verif != 0 && !s.lrx.rollSent) (seqE [
  adaptMsg 5 s.adapt.nextSeq [s.lrx.act, s.lrx.prev.getD 0, reason], nextSeq, upd (.lrx fun x => { x with rollSent := true })])

/-- PLM of a superframe in 0.25 dB (R133): over the pilots of R153's sums (log entry 149). -/
def framePlm (f : ScFrame) : Nat := plmOf (f.sigX + f.sigY) (f.errX + f.errY)

/-- The residual dispersion that subcarrier `k`'s taps show, within ±400 ps/nm (R113). -/
def State.tapDisp (s : State) (k : Nat) : Int := clampI (-400) 400 (Config.tapSlope (s.lrx.sc k).ff)

/-- Whether subcarrier `k` is lost in this superframe (Table 3.4): in DD, PLM below the threshold for the SC_MISS-th time in a row. -/
def State.scLost (s : State) (k : Nat) (f : ScFrame) : Bool :=
  s.stage == 10 && s.inDD k && decide (framePlm f < s.rd LRX_LOCK_CFG.PLM_MIN ∧ s.rd LRX_LOCK_CFG.SC_MISS ≤ (s.lrx.sc k).miss + 1)

/-- One superframe on subcarrier `k` (R113, R116, R133, R134): a lost one re-acquires, PILOT from held taps for one superframe, then CMA; with its
taps frozen the loss is only reported (R138). -/
def scPlm (k : Nat) (f : ScFrame) : Eff := dyn fun s =>
  let c := s.lrx.sc k
  let frozen := s.on LRX_SC_CTRL.FFE_FREEZE k
  seqE [put LRX_SC_STAT.PLM (framePlm f) k, putI LRX_SC_STAT.CENTROID (clampI (-128) 127 (centroidOf c.ff s.taps)) k,
    whenE (!s.on LRX_FREEZE.CD_TRACK) (putI LRX_SC_RCD.ALL (s.tapDisp k) k),
    if c.phase == 1 then modSc k (fun c => { c with phase := 2, costs := [] })
    else if !(s.stage == 10 && s.inDD k) then nop
    else if !s.scLost k f then modSc k (fun c => { c with miss := if framePlm f < s.rd LRX_LOCK_CFG.PLM_MIN then c.miss + 1 else 0 })
    else seqE [raise EV.SC_UNLOCK (withFrozen frozen [k, framePlm f]), modSc k (fun c => { c with miss := 0 }), askRollback 1,
      whenE (!frozen) (seqE [put LRX_SC_STAT.STATE 5 k, modSc k (fun c => { c.unmeasured with phase := 1, unlockAt := s.tick, met := false, upds := 0 }), syncDD])]]

/-- The average of one SNR (R154): weight 2^-AVG for the new value. -/
def avgWith (a old new : Nat) : Nat := old + new / 2 ^ a - old / 2 ^ a

/-- An SNR field: hundredths of a dB of an average, from 0 to `top`. -/
def snrField (top v : Nat) : Nat := (clampI 0 top (dbOf v)).toNat

/-- The SNRs of one superframe in 2^-64, over both polarisations, of X and of Y (R153), referred to payload power by the pilot gain. -/
def State.frameSnr (s : State) (f : ScFrame) : Nat × Nat × Nat :=
  let r := fun sig err => sig * 2 ^ 64 / max 1 err * 2 ^ 64 / ratioOf (50 * s.rdI LTX_PILOT.GAIN)
  (r (f.sigX + f.sigY) (f.errX + f.errY), r f.sigX f.errX, r f.sigY f.errY)

/-- SNR_req of entropy `e` in hundredths of a dB (R155). -/
def State.snrReq (s : State) (e : Nat) : Int := dbOf (entPow e - 2 ^ 64) + 10 * (s.rd LRX_ADAPT_MARGIN.GAMMA : Int)

/-- The quality words of subcarrier `k` after a superframe (R153 to R156); out of DD it is not measured. -/
def scQuality (k : Nat) (f : ScFrame) : Eff := dyn fun s =>
  let c := s.lrx.sc k
  if !s.inDD k then modSc k (fun c => { c.unmeasured with phErr := sat 255 (c.phNow / 4) })
  else
    let (n, nx, ny) := s.frameSnr f
    let a := s.rd LRX_Q_CFG.AVG
    let (v, vx, vy) := match c.avg with
      | none => (n, nx, ny)
      | some (o, ox, oy) => (avgWith a o n, avgWith a ox nx, avgWith a oy ny)
    let snr := snrField 0xFFFE v
    let m := if nativeMode s.rxMode then toPat 16 (clampI (-32767) 32767 ((snr : Int) - s.snrReq (scEnt (s.rxWords.getD k 0)))) else 0x8000
    modSc k (fun c => { c with avg := some (v, vx, vy), snr := snr, snrX := snrField 0xFFE vx, snrY := snrField 0xFFE vy, margin := m, phErr := sat 255 (c.phNow / 4) })

/-- The line margin and the subcarrier with the least (R155); none while some enabled subcarrier is not measured. -/
def State.lineMargin (s : State) : Option (Int × Nat) :=
  if !nativeMode s.rxMode || s.rxScs.isEmpty || s.rxScs.any (fun k => (s.lrx.sc k).snr == 0xFFFF) then none
  else s.rxScs.foldl (fun b k =>
    let m := ofPat 16 (s.lrx.sc k).margin
    match b with
    | none => some (m, k)
    | some (x, j) => if m < x then some (m, k) else some (x, j)) none

/-- The line margin is taken, with MARGIN_LOW and its hysteresis (R155, R176). -/
def judgeMargin : Eff := dyn fun s =>
  match s.lineMargin with
  | none => upd (.lrx fun x => { x with margin := 0x8000 })
  | some (m, k) =>
    let low := 10 * s.rdI LRX_ADAPT_MARGIN.LOW
    let hyst : Int := 10 * s.rd LRX_ADAPT_LIMITS.HYST
    seqE [upd (.lrx fun x => { x with margin := toPat 16 m }),
      if m < low ∧ !s.lrx.lowRaised then seqE [upd (.lrx fun x => { x with lowRaised := true }), raise EV.MARGIN_LOW [w32 m, k]]
      else whenE (decide (low + hyst < m)) (upd (.lrx fun x => { x with lowRaised := false }))]

/-- The mask of the keys of a table. -/
def keyMask (t : Tab Nat) : Nat := t.foldl (fun a e => a + 2 ^ e.1) 0

/-- The sum of a table's values. -/
def tabSum (t : Tab Nat) : Nat := t.foldl (fun a e => a + e.2) 0

/-- FEC_UNCORR and FEC_DM_FAIL of the superframe (R242), and the rollback on uncorrectable blocks (R168). -/
def fecSummary : Eff := dyn fun s =>
  let u := s.lrx.uncorrSF
  let d := s.lrx.dmSF
  seqE [whenE (!u.isEmpty) (raise EV.FEC_UNCORR [keyMask u, tabSum u]), whenE (!d.isEmpty) (raise EV.FEC_DM_FAIL [keyMask d, tabSum d]),
    upd (.lrx fun x => { x with uncorrSF := [], dmSF := [] }),
    whenE (decide (s.rd LRX_ADAPT_LIMITS.ROLLBACK < s.lrx.verUncorr)) (askRollback 2)]

/-- CYCLE_SLIP of the superframe (R152). -/
def slipSummary : Eff := dyn fun s =>
  let ks := (List.range 16).filter (fun k => (s.lrx.sc k).slipOut != 0 || (s.lrx.sc k).slipTrk != 0)
  whenE (!ks.isEmpty) (seqE [raise EV.CYCLE_SLIP [ks.foldl (fun a k => a + 2 ^ k) 0, (ks.map (fun k => (s.lrx.sc k).slipOut)).foldl (· + ·) 0,
      (ks.map (fun k => (s.lrx.sc k).slipTrk)).foldl (· + ·) 0], forE ks (fun k => modSc k (fun c => { c with slipOut := 0, slipTrk := 0 }))])

/-- The bulk dispersion follows drift (R114): the mean of δD has stayed beyond ±100 ps/nm for 16 superframes, be it on one side or on both (DESIGN
CHOICE, log entry 151). The walk-off delays follow. -/
def trackDisp : Eff := dyn fun s =>
  let ks := s.rxScs
  let sum : Int := (ks.map (fun k => s.rdI LRX_SC_RCD.ALL k)).foldl (· + ·) 0
  let far := decide (100 * ks.length < sum.natAbs)
  let step : Int := if 0 ≤ sum then 10 else -10
  if s.on LRX_FREEZE.CD_TRACK || !far then upd (.lrx fun x => { x with cdRun := 0 })
  else seqE [upd (.lrx fun x => { x with cdRun := min 16 (x.cdRun + 1) }),
    whenE (decide (16 ≤ s.lrx.cdRun + 1)) (seqE [putI LRX_CD_EST.ALL (s.rdI LRX_CD_EST.ALL + step),
      forE ks (fun k => dyn fun s => putI LRX_SC_RCD.ALL (clampI (-400) 400 (s.rdI LRX_SC_RCD.ALL k - step)) k), layWalk])]

/-- Walk-off delays move by 1/64 sample where a centroid stands off the mean by more than half a tap, until within a quarter (R119). -/
def adjustWalk : Eff := dyn fun s =>
  let ks := s.rxScs
  let cen := fun k => centroidOf (s.lrx.sc k).ff s.taps
  let sum : Int := (ks.map cen).foldl (· + ·) 0
  seqE [forE ks fun k =>
      let dev : Int := ks.length * cen k - sum
      let lim : Nat := if (s.lrx.sc k).adj then 4 else 8
      let far := decide (lim * ks.length < dev.natAbs)
      modSc k (fun c => { c with adj := far, trim := if far then c.trim + (if 0 < dev then 1 else -1) else c.trim }),
    layWalk]

/-- The coarse shift moves by one FFT bin of 93,750 kHz toward the estimate, and the loop's integrator by as much the other way (R145); frozen, both
hold (R149). -/
def moveCoarse : Eff := dyn fun s => whenE (s.on LRX_CR_STAT.SHIFTING && !s.on LRX_FREEZE.FREQ) (
  let d : Int := if 0 < s.lrx.crInt then 93750 else -93750
  seqE [put LRX_CR_STAT.SHIFTING 0, upd (.lrx fun x => { x with coarse := x.coarse + d, crInt := x.crInt - d * 65536000 })])

/-- Loss over all subcarriers (Table 3.4): the training word missed, or half or more unlocked in this superframe. -/
def judgeLoss (fs : List (Nat × ScFrame)) (unlocked : Nat) : Eff := dyn fun s =>
  let n := s.rxScs.length
  let missed := decide (n ≤ 2 * (fs.filter (·.2.missed)).length) && n != 0
  let run := if missed then s.lrx.sfMiss + 1 else 0
  if s.stage == 10 && 1 ≤ unlocked && n ≤ 2 * unlocked then seqE [raise EV.RX_UNLOCK [2, b2n s.anyFrozen], autoRestart 4]
  else seqE [upd (.lrx fun x => { x with sfMiss := run }),
    whenE (s.on LRX_STATUS.SF_LOCK && decide (s.rd LRX_LOCK_CFG.SF_MISS ≤ run)) (seqE [upd (.lrx fun x => { x with sfMiss := 0 }), raise EV.SF_UNLOCK (withFrozen s.anyFrozen [run]), autoRestart 3])]

/-! ### The receiver: the superframe that starts -/

/-- The nearest subcarrier of `ks` to `k`, the lower one on a tie (R136; log entry 151: among those enabled before the boundary). -/
def nearest (k : Nat) (ks : List Nat) : Option Nat := ks.foldl (fun b j =>
  match b with
  | none => some j
  | some i => if (max k j - min k j) < (max k i - min k i) then some j else some i) none

/-- The block order and the accumulator of the receiver restart (R59): the pilots held are counted from here on. -/
def restartOrder : Eff := dyn fun s =>
  let d : Int := s.lrx.sfs * 16132
  seqE [upd (.lrx fun x => { x with acc := 0, blk := [], sfs := 0 }),
    forE (List.range 16) (fun k => modSc k (fun c => { c with pil := c.pil.map (fun p => (p.1 - d, p.2)), erased := c.erased.map (fun p => (p.1 - d, p.2)) }))]

/-- The receiver's plan becomes `id` (R136, R158, R168): subcarriers it disables park; those it enables start in PILOT with their nearest enabled
neighbour's taps; a plan of the adaptation's range is verified for V superframes. -/
def switchPlan (id : Nat) : Eff := dyn fun s =>
  let old := s.rxScs
  let v := if s.on LRX_ADAPT_CFG.RX_EN && 128 ≤ id then (if s.rd LRX_ADAPT_TIMERS.V = 0 then 1024 else s.rd LRX_ADAPT_TIMERS.V) else 0
  seqE [upd (.lrx fun x => { x with prev := some x.act, act := id, armed := none, late := none, unknown := none }),
    upd (.lrx fun x => { x with verif := v, rollSent := false, verUncorr := 0 }),
    (match s.rplanOf id with
     | some e => useEntry e
     | none => nop), syncProt,
    dyn fun s => seqE [forE (old.filter (fun k => !s.rxScs.contains k)) (fun k => seqE [put LRX_SC_STAT.STATE 6 k, modSc k ScSt.unmeasured]),
      forE (s.rxScs.filter (fun k => !old.contains k)) (fun k => seqE [put LRX_SC_STAT.STATE (if 8 ≤ s.stage then 2 else 5) k,
        modSc k (fun c => { c with ff := if s.on LRX_SC_CTRL.FFE_FREEZE k then c.ff else ((nearest k old).map (fun j => (s.lrx.sc j).ff)).getD c.ff }),
        modSc k (fun c => { c with phase := if s.stage = 10 then 4 else 0, miss := 0, met := false, upds := 0 })])],
    restartOrder, layWalk,
    syncFb, syncDD]

/-- A plan switch due at the boundary that starts superframe `sf`: the armed one at its target (R77), or one that comes late (R78). -/
def planAt (sf : Nat) : Eff := dyn fun s =>
  match s.lrx.late, s.lrx.armed with
  | some p, _ => seqE [switchPlan p, upd (.lrx fun x => { x with sfLost := x.sfLost + 1 }), raise EV.PLAN_LATE [p, 1]]
  | none, some (p, t) => whenE (t == sf) (switchPlan p)
  | none, none => nop

/-- The far SNRs of the last report become the live ones with the boundary (R156). -/
def takeFar : Eff := upd (.lrx fun x => { x with far := x.farNow })

/-- RX_SUPERFRAME_BOUNDARY (R59, R113, R114, R116, R119, R133 to R136, R145, R152 to R156, R168, R229, R242, R480): a received superframe ends, with what
it showed of each enabled subcarrier in order, and the next starts. The block order restarts with the first superframe whose LLRs are released (log
entry 153). -/
def execRxSuperframeBoundary (frames : List ScFrame) (s : State) : Out := perform (dyn fun s =>
  let fs := s.rxScs.zip (s.rxScs.map (fun (k : Nat) => (frames[(s.rxScs.idxOf k)]?).getD ⟨false, 0, 0, 0, 0⟩))
  let lost := (fs.filter (fun e => s.scLost e.1 e.2)).length
  let sf := (s.lrx.sfNum + 1) % 65536
  if !(s.rxRuns && decide (7 ≤ s.stage)) then nop
  else seqE [forE fs (fun e => scPlm e.1 e.2), judgeLoss fs lost,
    dyn fun s => if s.stage < 7 then nop else seqE [
      forE fs (fun e => scQuality e.1 e.2), takeFar, judgeMargin, slipSummary, fecSummary, trackDisp, adjustWalk, moveCoarse,
      upd (.lrx fun x => { x with sfNum := sf, verif := x.verif - 1, sfs := x.sfs + 1 }),
      whenE (s.stage == 10 && !s.lrx.llr) (seqE [upd (.lrx fun x => { x with llr := true }), restartOrder, syncLosf]),
      planAt sf,
      upd (.fec fun x => { x with gain := s.rd FEC_LLR_CFG.GAIN }), upd (.pair fun q => { q with idx := Tab.set 0 q.idx 1 0 }),
      upd (.tod fun t => { t with rxTent := if s.stage = 10 then some s.rxStamp else none })]]) s

/-- Whether the 64 bits of a header carry a right CRC (R66, R722). -/
def headerOk (h : Nat) : Bool := crcBits 16 0x1021 0xFFFF (msbFirst 48 (h / 65536)) == h % 65536

/-- SUPERFRAME_HEADER_RX (R66, R77, R78, R480): the header of the superframe being received, as combined over the enabled subcarriers. -/
def execSuperframeHeaderRx (hdr : BitVec 64) (s : State) : Out := perform (dyn fun s =>
  let h := hdr.toNat
  let sf := bits h 48 16
  let act := bits h 40 8
  let next := bits h 32 8
  let cd := bits h 27 5
  let target := (sf + cd) % 65536
  if !(s.rxRuns && decide (7 ≤ s.stage) && nativeMode s.rxMode && headerOk h) then nop
  else seqE [upd (.lrx fun x => { x with sfNum := sf }), upd (.vnr fun v => { v with rxNum := bits h 16 6 }),
    (match s.tod.rxTent with
     | some st => upd (.tod fun t => { t with rxSt := Tab.set none t.rxSt sf (some st), lastRx := some sf, rxTent := none })
     | none => nop),
    upd (.lrx fun x => { x with late := if act != x.act && (s.heldWords act).isSome then some act else none }),
    if cd = 0 then upd (.lrx fun x => { x with armed := none, unknown := none })
    else if (s.heldWords next).isSome then upd (.lrx fun x => { x with armed := some (next, target), unknown := none })
    else seqE [upd (.lrx fun x => { x with armed := none }),
      whenE (s.lrx.unknown != some (next, target)) (seqE [upd (.lrx fun x => { x with unknown := some (next, target) }), raise EV.PLAN_UNKNOWN [next, target]])],
    syncProt]) s

/-! ### Seconds and minutes -/

/-- The sum of word `k` of the items. -/
def itemSum (k : Nat) (its : List (List Nat)) : Nat := (its.map (nth · k)).foldl (· + ·) 0

/-- The payload of a summary event from its occurrences (R725 and the rules of the events). -/
def State.summary (s : State) (ev : Nat) (its : List (List Nat)) : List Nat :=
  let last := its.getLast?.getD []
  if ev = EV.EMULATION.id then [s.frm.emulSec, nth last 1]
  else if ev = EV.OHC_SLIP.id ∨ ev = EV.CBR_SLIP.id then [nth last 0, itemSum 1 its, itemSum 2 its]
  else if ev = EV.VNR_AUTH.id ∨ ev = EV.MON_Q_LOST.id ∨ ev = EV.MON_TRIG_OVR.id then [nth last 0, itemSum 1 its]
  else if ev = EV.MON_CLIP.id then [nth last 0, nth last 1, itemSum 2 its]
  else if ev = EV.PREEMPTED.id then [itemSum 0 its]
  else if ev = EV.CAP_BUSY.id then last ++ [its.length]
  else if ev = EV.CNT_WRAP.id then [(its.map (nth · 0)).foldl min (nth last 0)]
  else last

/-- The events that are raised at most once a second or minute. -/
def summaryEvents : List Ev :=
  [EV.EMULATION, EV.OHC_SLIP, EV.CBR_SLIP, EV.VNR_AUTH, EV.MON_Q_LOST, EV.MON_TRIG_OVR, EV.MON_CLIP, EV.PREEMPTED, EV.CAP_BUSY, EV.CNT_WRAP, EV.SCR_LOOPBACK]

/-- Raises the summaries of the occurrences noted by the second or the minute, event by event and instance by instance, and clears them (R725). -/
def raiseSummaries (minute : Bool) : Eff := dyn fun s =>
  let os := s.obs.occ.filter (fun o => o.minute == minute)
  seqE [upd (.obs fun o => { o with occ := o.occ.filter (fun x => x.minute != minute) }),
    forE summaryEvents (fun e => forE (((os.filter (·.ev == e.id)).map (·.inst)).eraseDups) (fun i =>
      raise e (s.summary e.id ((os.filter (fun o => o.ev == e.id && o.inst == i)).map (·.item)))))]

/-- SECOND_BOUNDARY (R725): the end of a whole second; the counts of seconds left go down with it. -/
def execSecondBoundary (s : State) : Out := perform (seqE [raiseSummaries false, upd (.frm fun f => { f with emulSec := 0 }), dyn fun s => seqE [
  whenE (s.on PAIR_STATUS.WTR_RUN && s.rd PAIR_STATUS.WTR_LEFT != 0) (put PAIR_STATUS.WTR_LEFT (s.rd PAIR_STATUS.WTR_LEFT - 1)),
  whenE s.adapt.backoff (put LRX_ADAPT_STAT.BACKOFF_LEFT (sat 255 (s.rd LRX_ADAPT_TIMERS.BACKOFF - (s.tick - s.adapt.backoffAt) * 32 / 25000000000)))]]) s

/-- MINUTE_BOUNDARY (R725). -/
def execMinuteBoundary (s : State) : Out := perform (raiseSummaries true) s

end Sys2Proof.Machine
end

