-- ==== Sys2Proof/Machine/Control.lean ====
section
/-!
DEFINITION. The host interface but for the fetch of commands (R609 to R612, R615, R620, R626 to R630, R663, R726, R727): rings, replies, device
states, sessions, and the Batten ring.
-/
namespace Sys2Proof.Machine
open Sys2Proof

/-! ### Rings -/

/-- The entries of reply ring `r` the host has freed (R612). -/
def State.freeReplies (s : State) (r : Nat) : Nat :=
  2 ^ s.rd CMD_RING_CFG.RDEPTH r - (s.rd CMD_RING_STAT.RPROD r + 65536 - s.rd CMD_RACK.ALL r) % 65536

/-- The reply entries a reply takes: ceil((20 + 4 LEN) / 4096) (R612). -/
def Reply.entries (r : Reply) : Nat := (20 + 4 * r.payload.length + 4095) / 4096

/-- The producer count of ring `r` becomes `v` (R611). What runs more than the depth ahead of the consumer the ring cannot hold: those packets are
discarded and counted (R29, Table 16.1; log entry 23). -/
def doorbell (r v : Nat) : Eff := dyn fun s =>
  let cons := s.rd CMD_RING_STAT.CONS r
  let excess := (v + 65536 - cons) % 65536 - 2 ^ s.rd CMD_RING_CFG.CDEPTH r
  seqE [upd (.cmd fun c => { c with prod := Tab.set 0 c.prod r ((v + 65536 - excess) % 65536) }), whenE (excess != 0) (count 39 excess)]

/-- CMD_DOORBELL (R611): the host publishes its producer count. -/
def execCmdDoorbell (m : Mast) (r : Fin 4) (v : BitVec 16) (s : State) : Out := perform (byMaster m CMD_DB.PROD r (doorbell r v.toNat)) s

/-- REPLY_ACK (R612): the host frees reply entries. -/
def execReplyAck (m : Mast) (r : Fin 4) (v : BitVec 16) (s : State) : Out := perform (byMaster m CMD_RACK.ALL r (setField m CMD_RACK.ALL r v.toNat)) s

/-- DUMP_CONS_WRITE (R615): the host frees space of the dump ring. -/
def execDumpConsWrite (m : Mast) (v : Word) (s : State) : Out := perform (byMaster m CMD_DUMP_CONS.ALL 0 (setField m CMD_DUMP_CONS.ALL 0 v.toNat)) s

/-- REPLY_WRITE (R612, R625, R726): the oldest waiting reply of ring `r` is written once enough entries are free: its entries, the producer
count, the vector. -/
def execReplyWrite (r : Fin 4) (s : State) : Out := perform (dyn fun s =>
  match Tab.get [] s.cmd.waiting r.val with
  | [] => nop
  | rep :: rest =>
    let ws := rep.words
    let prod := s.rd CMD_RING_STAT.RPROD r.val
    if !s.on CMD_RING_CFG.EN r.val || s.freeReplies r.val < rep.entries then nop
    else seqE [
      emit (.reply r.val (prod % 2 ^ s.rd CMD_RING_CFG.RDEPTH r.val) (ws ++ [crc32cWords ws])),
      put CMD_RING_STAT.RPROD (prod + rep.entries) r.val,
      dyn fun s => emit (.host (s.rd CMD_WB_ADDR.ALL r.val) [s.rd CMD_RING_STAT.RPROD r.val]),
      upd (.signal (s.rd CMD_RING_CFG.VEC r.val)),
      upd (.cmd fun c => { c with waiting := Tab.set [] c.waiting r.val rest }),
      unhold rep]) s

/-! ### Identity and device states -/

/-- The version of an image in flash; 0 where there is none. -/
def imageVersion (im : Option Image) : Nat := match im with | some i => hdrVersion i.hdr | none => 0

def CMD_STATUS.fields : List Fld := [CMD_STATUS.SESSIONS, CMD_STATUS.FAULT_CAUSE, CMD_STATUS.RING_OK, CMD_STATUS.STATE]
def CMD_BAT_STAT.fields : List Fld := [CMD_BAT_STAT.HEAD, CMD_BAT_STAT.ENUM, CMD_BAT_STAT.COUNT, CMD_BAT_STAT.ADDR]

def opIdentify : OpDef := ⟨0x0101, len 0, 0 :: upStates, fun _ _ _ => okP nop (fun s =>
  [s.fuse.part.code] ++ w64 s.fuse.devId ++ [s.rd CMD_BAT_STAT.ADDR, imageVersion s.sec.flash.keeperA, imageVersion s.sec.flash.engineA,
   imageVersion s.sec.flash.keeperB, imageVersion s.sec.flash.engineB])⟩
/-- IDENTIFY (R640). -/
def execIdentify (h : CmdHdr) (p : List Word) (s : State) : Out := perform (felwin opIdentify h p) s

def opStatus : OpDef := ⟨0x0102, len 0, 0 :: upStates, fun _ _ _ => okP nop (fun s => [s.word CMD_STATUS.fields, s.word CMD_BAT_STAT.fields] ++ s.cmd.sessions)⟩
/-- STATUS (R640). -/
def execStatus (h : CmdHdr) (p : List Word) (s : State) : Out := perform (felwin opStatus h p) s

/-- The host-driven transitions of Table 17.4. -/
def State.stateOk (s : State) (new : Nat) : Bool :=
  match new with
  | 2 => [1, 3, 4].contains s.dev
  | 3 => [2, 4].contains s.dev
  | 4 => [2, 3].contains s.dev || (s.dev == 5 && s.rd CMD_STATUS.FAULT_CAUSE == 0)
  | _ => false

def opSysStateSet : OpDef := ⟨0x0103, len 1, upStates, fun _ p s =>
  if 5 < nth p 0 then no .badParam else if !s.stateOk (nth p 0) then no .state else okP (setDev (nth p 0)) (fun s => [s.dev])⟩
/-- SYS_STATE_SET (R620, R622). -/
def execSysStateSet (h : CmdHdr) (p : List Word) (s : State) : Out := perform (felwin opSysStateSet h p) s

/-! ### Sessions and slots -/

/-- The number the next session takes: the lowest not open. -/
def State.newSession (s : State) : Nat := ((List.range 17).map (· + 1)).find? (fun n => !s.cmd.sessions.contains n) |>.getD 0

def opSysSessionOpen : OpDef := ⟨0x0104, len 0, upStates, fun _ _ s =>
  let n := s.newSession
  if 16 ≤ s.cmd.sessions.length then no .noResource
  else okP (seqE [upd (.cmd fun c => { c with sessions := c.sessions ++ [n] }), put CMD_STATUS.SESSIONS (s.cmd.sessions.length + 1)]) (fun _ => [n])⟩
/-- SYS_SESSION_OPEN (R627). -/
def execSysSessionOpen (h : CmdHdr) (p : List Word) (s : State) : Out := perform (felwin opSysSessionOpen h p) s

/-- Session `n` ends, and its transport key with it (R627, R655). -/
def endSession (n : Nat) : Eff := seqE [upd (.cmd fun c => { c with sessions := c.sessions.filter (· != n) }), upd (.sec fun x => { x with keys := Tab.set [] x.keys n [] }),
  dyn fun s => put CMD_STATUS.SESSIONS s.cmd.sessions.length]

/-- Every session ends. -/
def endSessions : Eff := dyn fun s => forE s.cmd.sessions endSession

def opSysSessionClose : OpDef := ⟨0x0105, len 1, upStates, fun _ p s => if s.cmd.sessions.contains (nth p 0) then okE (endSession (nth p 0)) else no .badParam⟩
/-- SYS_SESSION_CLOSE (R627). -/
def execSysSessionClose (h : CmdHdr) (p : List Word) (s : State) : Out := perform (felwin opSysSessionClose h p) s

/-- Whether the slot of SEQ `q` on ring `r` holds a final reply to exactly that SEQ (R727). -/
def State.holdsFinal (s : State) (r q : Nat) : Bool := match Tab.get none s.cmd.slots (slotKey r q) with | some sl => sl.run.seq == q && sl.reply.isSome | none => false

def opSysSlotRelease : OpDef := ⟨0x0106, len 2, upStates, fun h p s =>
  if 65535 < nth p 0 ∨ nth p 1 < 1 ∨ 1024 < nth p 1 then no .range
  else
    let qs := ((List.range (nth p 1)).map (fun i => (nth p 0 + i) % 65536)).filter (s.holdsFinal h.ring.val)
    okP (upd (.cmd fun c => { c with slots := qs.foldl (fun t q => Tab.set none t (slotKey h.ring.val q) none) c.slots })) (fun _ => [qs.length])⟩
/-- SYS_SLOT_RELEASE (R727). -/
def execSysSlotRelease (h : CmdHdr) (p : List Word) (s : State) : Out := perform (felwin opSysSlotRelease h p) s

/-! ### Batten -/

def opBattenStatus : OpDef := ⟨0x0108, len 0, upStates, fun _ _ _ => okP nop (fun s =>
  s.rd CMD_BAT_STAT.COUNT :: (List.range (s.rd CMD_BAT_STAT.COUNT)).flatMap (fun a => w64 (if a = s.rd CMD_BAT_STAT.ADDR then s.fuse.devId else Tab.get 0 s.cmd.ids a)))⟩
/-- BATTEN_STATUS (R640). -/
def execBattenStatus (h : CmdHdr) (p : List Word) (s : State) : Out := perform (felwin opBattenStatus h p) s

/-- Restarts enumeration at a head whose Batten group is up (R628, R629). -/
def restartEnum (busy : Bool) : Eff := dyn fun s => whenE (s.on CMD_BAT_STAT.HEAD && s.srd.batten.up) (startEnum busy)

/-- BATTEN_RESTART (R629): a write of 1 to CMD_BAT_CFG.RESTART. -/
def execBattenRestart (m : Mast) (s : State) : Out := perform (byMaster m CMD_BAT_CFG.RESTART 0 (restartEnum true)) s

/-- ENUM_RETRY (R629): 100 ms after an open ring. -/
def execEnumRetry (s : State) : Out := perform (dyn fun s => whenE s.cmd.retryDue (restartEnum false)) s

/-- ENUM_TIMEOUT (R629, R630): the TOKEN has not returned in time. -/
def execEnumTimeout (s : State) : Out := perform (dyn fun s => whenE s.cmd.tokenOut.isSome (seqE [
  upd (.cmd fun c => { c with enumBusy := false, tokenOut := none, retryDue := true }),
  put CMD_BAT_STAT.ENUM 3, put CMD_BAT_STAT.COUNT 1, raise EV.BATTEN_FAULT [1]])) s

/-- The enumeration ends with `n` devices, whose identifiers have been read; the flag says that some address now names another device. -/
def endEnum (n : Nat) (ids : List Nat) : Eff := dyn fun s =>
  let changed := (List.range n).any (fun a => Tab.get 0 s.cmd.ids a != 0 && Tab.get 0 s.cmd.ids a != ids.getD a 0)
  seqE [put CMD_BAT_STAT.COUNT n, put CMD_BAT_STAT.ENUM 2,
    upd (.cmd fun c => { c with enumBusy := false, tokenOut := none, ids := (List.range n).foldl (fun t a => Tab.set 0 t a (ids.getD a 0)) c.ids }),
    raise EV.BATTEN_ENUM [n, b2n changed]]

/-- BATTEN_TOKEN_RX (R628, R629, Tables 9.3 and 17.6): TOKEN(a, n) arrives with its check byte, `ids` the identifiers the head reads at the end of an
enumeration. -/
def execBattenTokenRx (a n check : BitVec 8) (ids : List (BitVec 64)) (s : State) : Out := perform (dyn fun s =>
  let a := a.toNat
  let n := n.toNat
  if tokenCheck a n != check.toNat then nop
  else if s.on CMD_BAT_STAT.HEAD then
    match s.cmd.tokenOut with
    | some (1, 0) => if n = 0 then seqE [upd (.cmd fun c => { c with tokenOut := some (a, a) }), emit (tokenOut a a)] else raise EV.BATTEN_FAULT [2]
    | some (k, k') => if a = k ∧ n = k' then endEnum n (ids.map (·.toNat)) else raise EV.BATTEN_FAULT [2]
    | none => raise EV.BATTEN_FAULT [2]
  else if n = 0 then
    if a < 64 then seqE [put CMD_BAT_STAT.ADDR a, emit (tokenOut (a + 1) 0)] else seqE [put CMD_BAT_STAT.ADDR 127, put CMD_BAT_STAT.COUNT 0, emit (tokenOut a 0)]
  else seqE [whenE (s.rd CMD_BAT_STAT.ADDR != 127) (put CMD_BAT_STAT.COUNT n), emit (tokenOut a n)]) s

/-! ### The PCIe link -/

/-- PCIE_LINK_UP (R628): the device is the head of its ring, at address 0; with its Batten group up it enumerates the ring. -/
def execPcieLinkUp (s : State) : Out := perform (dyn fun s => whenE (!s.on CMD_BAT_STAT.HEAD) (seqE [
  put CMD_BAT_STAT.HEAD 1, put CMD_BAT_STAT.ADDR 0, put CMD_BAT_STAT.COUNT 1, restartEnum true])) s

/-- The host interface restarts (R663): rings disabled, sessions ended, reply slots and event queue cleared, MSI-X masked and disabled (R702). -/
def hostRestarts : Eff := seqE [
  fun _ => (List.range 4).flatMap (fun r => [.put CMD_RING_CFG.EN r 0, .put CMD_RING_STAT.CONS r 0, .put CMD_RING_STAT.RPROD r 0, .put CMD_RACK.ALL r 0]),
  put CMD_DUMP_CFG.EN 0, endSessions, upd (.cmd fun c => { c with prod := [], waiting := [], slots := [], lastRing := 3 }),
  fun _ => (List.range 64).map (fun v => .put MSIX_CTRL.MASK v 1), put SYS_EQ_PROD.ALL 0, put SYS_EQ_CONS.ALL 0, put SYS_EQ_STAT.LEVEL 0, put SYS_EQ_STAT.LOST 0,
  upd (.sys fun y => { y with msixEn := false, fnMask := false, eqLost := false, coalOpen := false, coalDue := false })]

/-- PCIE_HOST_RESET (R663): a hot reset, a function level reset, or the link going down (`down`), which ends the head's part (R628). -/
def execPcieHostReset (down : Bool) (s : State) : Out := perform (seqE [hostRestarts, whenE down (seqE [stopEnum,
  put CMD_BAT_STAT.HEAD 0, put CMD_BAT_STAT.ADDR 127, put CMD_BAT_STAT.COUNT 0])]) s

end Sys2Proof.Machine
end

