-- ==== Sys2Proof/Machine/RefClock.lean ====
section
/-!
DEFINITION. Timing references: monitors, commands, the DPLL, Clamp, the clock outputs and quality messages (R435 to R468).
-/
namespace Sys2Proof.Machine
open Sys2Proof

/-! ### Monitors -/

/-- The time a candidate needs to qualify starts anew (R439, R442). -/
def startQual (c : Nat) : Eff := fun s => [.put REF_CAND_STAT.QUAL_LEFT c (if bit s.ref.again c then s.rd REF_TIMERS.WTR else s.rd REF_TIMERS.QUAL)]

/-- Candidate `c` is no longer qualified. -/
def clearQual (c : Nat) : Eff := fun s => [.put REF_STATUS.QUALIFIED 0 (clrBit (s.rd REF_STATUS.QUALIFIED) c)]

/-- A qualified candidate is disqualified for cause 1, activity, or 2, the reject limit (R440). -/
def disqualify (c cause : Nat) : Eff := dyn fun s => whenE (s.refQual c) (seqE [
  clearQual c, upd (.ref fun r => { r with again := setBit r.again c }), raise EV.REF_DISQUALIFIED [c, cause, s.rd REF_CAND_FREQ.ALL c]])

/-- Output `o` runs as its registers say (R460). -/
def outSignal (o : Nat) : Eff := dyn fun s =>
  emit (.clock o (s.on REF_OUT_CFG.EN o) (s.rd REF_OUT_FHZ.HZ o) (s.rd REF_OUT_CFG.POL o) (s.rd REF_OUT_CFG.WIDTH o))

/-- At READY every candidate starts its qualification time and every received QL is FAILED; the outputs start (R464). -/
def refStart : Eff := seqE [forE (List.range 6) outSignal, forE cands (fun c => seqE [put REF_CAND_STAT.QL_RX 10 c, startQual c]), syncQl, syncStates]

/-- Whether a candidate of Table 12.1 is active: by its edges, or for c ≥ 8 by timing lock, or its lane's SYNC. -/
def State.actNow (s : State) (c : Nat) (edges : Bool) : Bool :=
  if c < 8 then edges else if c = 8 then s.on LRX_STATUS.TIM_LOCK && !s.defect 1 0 else s.on SRD_LANE_STAT.SYNC (s.candLane c)

/-- REF_ACTIVITY (R437): a candidate becomes active or inactive. -/
def execRefActivity (c : Fin 12) (edges : Bool) (s : State) : Out := perform (dyn fun s =>
  let a := s.actNow c edges
  if a == s.refAct c then nop
  else if a then seqE [put REF_CAND_STAT.ACT 1 c, startQual c, refEval]
  else seqE [put REF_CAND_STAT.ACT 0 c, upd (.ref fun r => { r with gates := Tab.set [] r.gates c [] }), disqualify c 1, startQual c, refEval]) s

/-- DRIFT of candidate `c` for cause 1, the accept limit, or 2, the rate (R440, R441): raised as it sets. -/
def setDrift (c cause : Nat) (rate : Int) : Eff := dyn fun s =>
  whenE (!s.on REF_CAND_STAT.DRIFT c) (seqE [put REF_CAND_STAT.DRIFT 1 c, raise EV.DRIFT [c, cause, s.rd REF_CAND_FREQ.ALL c, w32 rate]])

/-- The offset in 0.1 ppb that a gate of candidate `c` gives, measured as `off` (R436, R438): the line candidate's is LRX_TIM_EST with the offset of the line
synthesiser, which follows the DPLL, to nearest. -/
def State.gateOffset (s : State) (c : Nat) (off : Int) : Int :=
  if c = 8 then 10 * s.rdI LRX_TIM_EST.ALL + (s.rdI REF_DPLL_FREQ.ALL + 50) / 100 else off

/-- FREQ_GATE_END (R438 to R442): a gate's offset in 0.1 ppb is judged against the limits. -/
def execFreqGateEnd (c : Fin 12) (off : Word) (s : State) : Out := perform (dyn fun s =>
  let z := s.gateOffset c off.toInt
  if !s.refAct c then nop
  else seqE [putI REF_CAND_FREQ.ALL z c, upd (.ref fun r => { r with gates := Tab.set [] r.gates c ((z :: Tab.get [] r.gates c).take 32) }),
    if s.refQual c then (if !s.inReject z then seqE [disqualify c 2, startQual c] else whenE (!s.accepts z) (setDrift c 1 0))
    else if s.accepts z then put REF_CAND_STAT.QUAL_LEFT (s.rd REF_CAND_STAT.QUAL_LEFT c - 1) c else startQual c,
    refEval]) s

/-- REF_QUALIFY_END (R439, R442): the qualification or wait-to-restore time ends with every gate inside the accept limit. -/
def execRefQualifyEnd (c : Fin 12) (s : State) : Out := perform (dyn fun s =>
  if !s.refAct c || s.refQual c || !s.accepts (s.rdI REF_CAND_FREQ.ALL c) then nop
  else seqE [put REF_STATUS.QUALIFIED (setBit (s.rd REF_STATUS.QUALIFIED) c), put REF_CAND_STAT.QUAL_LEFT 0 c,
    upd (.ref fun r => { r with again := clrBit r.again c }), raise EV.REF_QUALIFIED [c.val, s.qlEff c], refEval]) s

/-- The drift rate from 32 gates: 256 times the rate in 0.1 ppb/s (R441). -/
def drift256 (g : List Int) : Int := (g.take 16).foldl (· + ·) 0 - ((g.drop 16).take 16).foldl (· + ·) 0

/-- DRIFT_EVAL (R441): every 16 s the drift rate of each active candidate is judged. -/
def execDriftEval (s : State) : Out := perform (dyn fun s => forE (cands.filter (fun c => s.refAct c && (Tab.get [] s.ref.gates c).length == 32)) fun c =>
  let g := Tab.get [] s.ref.gates c
  let d := drift256 g
  let calm := Tab.get 0 s.ref.calm c + 1
  if 256 * s.rd REF_MON_CFG.RATE < d.natAbs then seqE [upd (.ref fun r => { r with calm := Tab.set 0 r.calm c 0 }), setDrift c 2 (Int.tdiv d 256)]
  else if !(g.take 16).all s.accepts then upd (.ref fun r => { r with calm := Tab.set 0 r.calm c 0 })
  else seqE [upd (.ref fun r => { r with calm := Tab.set 0 r.calm c (min 4 calm) }), whenE (decide (4 ≤ calm)) (put REF_CAND_STAT.DRIFT 0 c)]) s

/-! ### Commands -/

def REF_CTRL.fields : List Fld := [REF_CTRL.CLAMP_QL, REF_CTRL.ESMC_TX, REF_CTRL.REVERT, REF_CTRL.QL_EN, REF_CTRL.SEL_CAND, REF_CTRL.SEL_MODE]
def REF_DPLL_CFG.fields : List Fld := [REF_DPLL_CFG.BW, REF_DPLL_CFG.ACQ_BW, REF_DPLL_CFG.LOCK_THR]
def REF_MON_CFG.fields : List Fld := [REF_MON_CFG.ACCEPT, REF_MON_CFG.REJECT, REF_MON_CFG.RATE]
def REF_TIMERS.fields : List Fld := [REF_TIMERS.QUAL, REF_TIMERS.WTR, REF_TIMERS.BUILDOUT]
def REF_CLAMP_CFG.fields : List Fld := [REF_CLAMP_CFG.HIST_AVG, REF_CLAMP_CFG.HIST_GUARD, REF_CLAMP_CFG.HIST_MIN]
def REF_CAND_CFG.fields : List Fld := [REF_CAND_CFG.PRIO, REF_CAND_CFG.QL, REF_CAND_CFG.QL_SRC, REF_CAND_CFG.LOCKOUT, REF_CAND_CFG.LANE]
def REF_OUT_CFG.fields : List Fld := [REF_OUT_CFG.EN, REF_OUT_CFG.COMPAT, REF_OUT_CFG.SRC, REF_OUT_CFG.POL, REF_OUT_CFG.WIDTH]

/-- The registers of REF_CFG, in its order. -/
def refCfgRegs : List (List Fld) :=
  [REF_CTRL.fields, REF_DPLL_CFG.fields, REF_MON_CFG.fields, REF_TIMERS.fields, REF_CLAMP_CFG.fields, [REF_CLAMP_MAX.ALL], [REF_OSC_CFG.HZ],
   [REF_COMPAT_CFG.WIN], [REF_ESMC_MASK.MASK]]

/-- The acquisition bandwidth is not below the locked one (R452). -/
def bwOk (bw acq : Nat) : Bool := decide (bw ≤ 100 * acq)

/-- The reject limit is above the accept limit (R439). -/
def limitsOk (accept reject : Nat) : Bool := decide (accept < reject)

def opRefCfg : OpDef := ⟨0x0B01, len 9, runStates, fun _ p _ =>
  if !((List.range 9).all (fun k => wordOk (refCfgRegs.getD k []) (nth p k))) || !bwOk (REF_DPLL_CFG.BW.raw (nth p 1)) (REF_DPLL_CFG.ACQ_BW.raw (nth p 1)) ||
    !limitsOk (REF_MON_CFG.ACCEPT.raw (nth p 2)) (REF_MON_CFG.REJECT.raw (nth p 2)) then no .range
  else okE (seqE [forE (List.range 9) (fun k => putWord (refCfgRegs.getD k []) (nth p k)), refEval])⟩
/-- REF_CFG (R465). -/
def execRefCfg (h : CmdHdr) (p : List Word) (s : State) : Out := perform (felwin opRefCfg h p) s

/-- A candidate whose frequency or lane was written is unqualified, and its qualification time starts again (R442); of another lane no
message has come (R444). -/
def requalify (c : Nat) : Eff := seqE [clearQual c, startQual c, whenE (decide (9 ≤ c)) (put REF_CAND_STAT.QL_RX 10 c), refEval]

def opRefCandSet : OpDef := ⟨0x0B02, len 3, runStates, fun _ p s =>
  let c := nth p 0
  if 11 < c then no .badParam
  else if !wordOk REF_CAND_CFG.fields (nth p 1) || (decide (c < 8) && !REF_CAND_FHZ.HZ.inRange (REF_CAND_FHZ.HZ.raw (nth p 2))) then no .range
  else if c != 8 && s.refSel == some c then no .state
  else okE (seqE [putWord REF_CAND_CFG.fields (nth p 1) c, whenE (decide (c < 8)) (put REF_CAND_FHZ.HZ (REF_CAND_FHZ.HZ.raw (nth p 2)) c),
    if c = 8 then refEval else requalify c])⟩
/-- REF_CAND_SET (R442): a candidate's settings; frequency or lane written, it must qualify anew; the selected one is refused. -/
def execRefCandSet (h : CmdHdr) (p : List Word) (s : State) : Out := perform (felwin opRefCandSet h p) s

/-- A register write of a candidate's frequency (c < 8) or lane (c = 9 to 11) (R442); to the selected candidate it is refused (R9). -/
def candFreqWrite (m c v : Nat) : Eff := dyn fun s =>
  let f := if c < 8 then REF_CAND_FHZ.HZ else REF_CAND_CFG.LANE
  if s.refSel == some c || !f.inRange v then flagAcc m SYS_ACC_STAT.RANGE (f.at c)
  else if c = 8 then nop
  else seqE [put f v c, requalify c]
/-- CAND_FREQ_WRITE (R442). -/
def execCandFreqWrite (m : Mast) (c : Fin 12) (v : BitVec 30) (s : State) : Out := perform (byMaster m REF_CAND_FHZ.HZ c (candFreqWrite m c v.toNat)) s

def opRefSelect : OpDef := ⟨0x0B03, len 2, runStates, fun _ p _ =>
  if 4 < nth p 0 ∨ 11 < nth p 1 then no .range
  else okP (seqE [put REF_CTRL.SEL_MODE (nth p 0), put REF_CTRL.SEL_CAND (nth p 1), refEval]) (fun s => [s.rd REF_STATUS.SELECTED, s.rd REF_STATUS.DPLL])⟩
/-- REF_SELECT (R449). -/
def execRefSelect (h : CmdHdr) (p : List Word) (s : State) : Out := perform (felwin opRefSelect h p) s

def REF_STATUS.fields : List Fld := [REF_STATUS.OUT_QL, REF_STATUS.SELECTED, REF_STATUS.DPLL, REF_STATUS.HIST_VALID, REF_STATUS.OSC_PRESENT, REF_STATUS.MON_SRC,
  REF_STATUS.BUILDOUT, REF_STATUS.CLAMP_EXPIRED, REF_STATUS.QUALIFIED]
def REF_CAND_STAT.fields : List Fld := [REF_CAND_STAT.QL_RX, REF_CAND_STAT.QL_EFF, REF_CAND_STAT.STATE, REF_CAND_STAT.ACT, REF_CAND_STAT.DRIFT, REF_CAND_STAT.QUAL_LEFT]

def opRefStatus : OpDef := ⟨0x0B04, len 0, upStates, fun _ _ _ => okP nop (fun s =>
  [s.word REF_STATUS.fields, s.rd REF_DPLL_FREQ.ALL, s.rd REF_HIST_FREQ.ALL, s.rd REF_PHASE_ERR.ALL] ++ cands.map (fun c => s.word REF_CAND_STAT.fields c) ++
    cands.map (fun c => s.rd REF_CAND_FREQ.ALL c))⟩
/-- REF_STATUS (R465). -/
def execRefStatus (h : CmdHdr) (p : List Word) (s : State) : Out := perform (felwin opRefStatus h p) s

/-- Whether output `o` can run at `hz` with pulse width `width` × 100 ns (R460). -/
def outOk (o hz width : Nat) : Bool := decide (1 ≤ hz) && if o < 4 then decide (hz ≤ 1000000000)
  else decide (hz ≤ 8000) && decide (1 ≤ width ∧ width ≤ 5000000) && decide (width * 100 * hz < 1000000000)

def opRefOutSet : OpDef := ⟨0x0B05, len 4, runStates, fun _ p _ =>
  let o := nth p 0
  if 5 < o then no .badParam
  else if !outOk o (REF_OUT_FHZ.HZ.raw (nth p 2)) (REF_OUT_CFG.WIDTH.raw (nth p 1)) then no .range
  else okE (seqE [putWord REF_OUT_CFG.fields (nth p 1) o, put REF_OUT_FHZ.HZ (REF_OUT_FHZ.HZ.raw (nth p 2)) o, put REF_OUT_OFS.ALL (nth p 3) o, outSignal o])⟩
/-- REF_OUT_SET (R460). -/
def execRefOutSet (h : CmdHdr) (p : List Word) (s : State) : Out := perform (felwin opRefOutSet h p) s

/-- Whether a signed offset in ns lies within half the period of target `t` (R462). -/
def State.realignOfs (s : State) (t : Nat) (z : Int) : Bool :=
  decide (2 * z.natAbs * (if t = 0 then 1 else s.rd REF_CAND_FHZ.HZ (t - 1)) ≤ 1000000000)

def opRefRealign : OpDef := ⟨0x0B06, len 3, cfgStates, fun h p s =>
  let t := nth p 1
  if 63 < nth p 0 ∨ 8 < t then no .badParam
  else if decide (1 ≤ t) && !s.isPulse (t - 1) then no .badParam
  else if !s.realignOfs t (ofPat 32 (nth p 2)) then no .range
  else if (if t = 0 then !s.todValid else !s.refAct (t - 1)) then no .state
  else if s.on REF_STATUS.BUILDOUT || s.pair.gap || s.ref.realign.isSome then no .busy
  else deferE (upd (.ref fun r => { r with realign := some ⟨runOf h 0x0B06 p, nth p 0⟩ }))⟩
/-- REF_REALIGN (R462): the named outputs step at the next target instant; the reply follows the step. -/
def execRefRealign (h : CmdHdr) (p : List Word) (s : State) : Out := perform (felwin opRefRealign h p) s

/-- REALIGN_STEP (R462, R463): at a target instant the outputs of `mask` step by `moves` ns each; by the command waiting, or with `cmd`
false those in compatibility alignment whose source is active. -/
def execRealignStep (cmd : Bool) (mask : BitVec 6) (moves : List Word) (s : State) : Out := perform (dyn fun s =>
  if cmd then
    match s.ref.realign with
    | none => nop
    | some r =>
      let mv := (List.range (popcount6 r.mask)).map (fun k => (moves.getD k 0).toNat)
      seqE [upd (.ref fun x => { x with realign := none }), raise EV.OUT_REALIGNED [r.mask, mv.headD 0, 1], finish r.run .ok mv]
  else
    let os := (bitsSet 6 mask.toNat).filter (fun o => s.on REF_OUT_CFG.COMPAT o && s.isPulse (s.rd REF_OUT_CFG.SRC o) && s.refAct (s.rd REF_OUT_CFG.SRC o))
    seqE [upd (.ref fun x => { x with compatDue := os.foldl clrBit x.compatDue }),
      whenE (!os.isEmpty && !s.pair.gap) (raise EV.OUT_REALIGNED [os.foldl setBit 0, ((moves.headD 0).toNat), 2])]) s
where
  popcount6 (m : Nat) : Nat := (bitsSet 6 m).length

/-- COMPAT_PULSE (R463): a source pulse of output `o`, whose phase stands `err` ns off its target: one due realigns at it; a third pulse in a
row beyond the window makes it due. -/
def execCompatPulse (o : Fin 6) (err : Word) (s : State) : Out := perform (dyn fun s =>
  let src := s.rd REF_OUT_CFG.SRC o
  let n := if s.rd REF_COMPAT_CFG.WIN < err.toInt.natAbs then Tab.get 0 s.ref.pulses o.val + 1 else 0
  if !(s.on REF_OUT_CFG.COMPAT o && s.isPulse src && s.refAct src) then nop
  else if bit s.ref.compatDue o.val then seqE [upd (.ref fun r => { r with compatDue := clrBit r.compatDue o.val, pulses := Tab.set 0 r.pulses o.val 0 }),
    raise EV.OUT_REALIGNED [2 ^ o.val, w32 (-err.toInt), 2]]
  else upd (.ref fun r => { r with pulses := Tab.set 0 r.pulses o.val (if n < 3 then n else 0), compatDue := if n < 3 then r.compatDue else setBit r.compatDue o.val })) s

/-! ### The DPLL -/

/-- BUILDOUT_END (R450, R451, R463): the DPLL tracks the new candidate in the locked bandwidth where it is still active, outputs in
compatibility alignment are due to realign, and selection is evaluated. -/
def execBuildoutEnd (s : State) : Out := perform (dyn fun s =>
  if !s.on REF_STATUS.BUILDOUT then nop
  else seqE [put REF_STATUS.BUILDOUT 0,
    match s.refSel with
    | some c => whenE (s.refAct c) (seqE [put REF_STATUS.DPLL 2, put REF_STATUS.CLAMP_EXPIRED 0])
    | none => nop,
    upd (.ref fun r => { r with guard := s.rd REF_CLAMP_CFG.HIST_GUARD, compatDue := ((List.range 6).filter (fun o => s.on REF_OUT_CFG.COMPAT o)).foldl setBit 0 }),
    refEval]) s

/-- DPLL_LOCK (R453): the phase error has stayed within ±LOCK_THR for 10 s. -/
def execDpllLock (s : State) : Out := perform (dyn fun s =>
  match s.refSel with
  | some c => whenE (s.rd REF_STATUS.DPLL == 1 && !s.on REF_STATUS.BUILDOUT) (seqE [put REF_STATUS.DPLL 2, raise EV.DPLL_LOCK [c], refEval])
  | none => nop) s

/-- DPLL_UNLOCK (R453): the phase error exceeds four times LOCK_THR. -/
def execDpllUnlock (err : Word) (s : State) : Out := perform (dyn fun s =>
  whenE (s.rd REF_STATUS.DPLL == 2 && !s.on REF_STATUS.BUILDOUT) (seqE [put REF_STATUS.DPLL 1, putI REF_PHASE_ERR.ALL (1000 * err.toInt),
    upd (.ref fun r => { r with lockedFor := 0 }), raise EV.DPLL_UNLOCK [err.toNat], refEval])) s

/-- A DPLL frequency within the hold-in range of ±12 ppm (R452), in 0.001 ppb. -/
def heldIn (z : Int) : Int := clampI (-12000000) 12000000 z

/-- DPLL_HISTORY_TICK (R452, R454): once per second while LOCKED the frequency, in 0.001 ppb, is recorded, but not in a build-out window or the
guard time after a switch. -/
def execDpllHistoryTick (freq phase : Word) (s : State) : Out := perform (dyn fun s =>
  let n := s.ref.lockedFor + 1
  if s.rd REF_STATUS.DPLL != 2 then nop
  else seqE [putI REF_DPLL_FREQ.ALL (heldIn freq.toInt), put REF_PHASE_ERR.ALL phase.toNat,
    upd (.ref fun r => { r with lockedFor := n, guard := if s.on REF_STATUS.BUILDOUT then r.guard else r.guard - 1,
                                hist := if s.on REF_STATUS.BUILDOUT || r.guard != 0 then r.hist else (heldIn freq.toInt :: r.hist).take 960 }),
    whenE (decide (s.rd REF_CLAMP_CFG.HIST_MIN ≤ n)) (put REF_STATUS.HIST_VALID 1), dyn fun t => putI REF_HIST_FREQ.ALL t.clampMean]) s

/-- CLAMP_EXPIRED (R458): the time in CLAMP reaches CLAMP_MAX; reported under the identifier of CLAMP_ENTER. -/
def execClampExpired (s : State) : Out := perform (dyn fun s =>
  if s.rd REF_STATUS.DPLL != 3 || s.rd REF_CLAMP_MAX.ALL == 0 || s.on REF_STATUS.CLAMP_EXPIRED then nop
  else seqE [put REF_STATUS.CLAMP_EXPIRED 1, raise EV.CLAMP_ENTER [s.rd REF_CLAMP_MAX.ALL, 0], refEval]) s

/-- OSC_LOST (R436, R459): OSC_IN becomes inactive; the monitors turn to XTAL_IN, and in CLAMP the DPLL goes on against it with the output QL
at SEC. -/
def execOscLost (s : State) : Out := perform (dyn fun s =>
  if !s.on REF_STATUS.OSC_PRESENT then nop
  else seqE [put REF_STATUS.OSC_PRESENT 0, put REF_STATUS.MON_SRC 1, whenE (s.rd REF_STATUS.DPLL == 3) (raise EV.OSC_LOST [3]), refEval]) s

/-- OSC_IN becomes active (R436, R459). -/
def oscBack : Eff := seqE [put REF_STATUS.OSC_PRESENT 1, put REF_STATUS.MON_SRC 0, refEval]

/-! ### Quality messages -/

/-- The QL code of an SSM and enhanced SSM code (Table 12.2); FAILED for any other pair. -/
def qlOf (ssm enh : Nat) : Nat :=
  match ssm, enh with
  | 0x2, 0x21 => 1 | 0x2, 0x20 => 2 | 0x2, 0x23 => 3 | 0x2, 0xFF => 4 | 0x4, 0xFF => 5 | 0x8, 0xFF => 6 | 0xB, 0x22 => 7 | 0xB, 0xFF => 8 | 0xF, 0xFF => 9 | _, _ => 10

/-- ESMC_RX (R444): an ESMC PDU of an Ethernet channel sets the received code of the candidates on its lanes. -/
def execEsmcRx (t : Fin 32) (ssm : BitVec 4) (enh : BitVec 8) (s : State) : Out := perform (dyn fun s =>
  whenE (s.isEth t) (seqE [forE ([9, 10, 11].filter (fun c => (s.lanesOf t).contains (s.candLane c))) (fun c => put REF_CAND_STAT.QL_RX (qlOf ssm.toNat enh.toNat) c), refEval])) s

/-- ESMC_TX (R446): ESMC information PDUs are sent once per second. -/
def execEsmcTx (s : State) : Out := perform (sendEsmc false) s

/-- QL_TIMEOUT (R444): no valid message for 5 s makes the received code of candidates 8 to 11 FAILED. -/
def execQlTimeout (k : Fin 4) (s : State) : Out := perform (seqE [put REF_CAND_STAT.QL_RX 10 (8 + k.val), refEval]) s

/-- LINE_QL_RX (R444, R445): a line QL message sets candidate 8's received code; one whose CRC fails is discarded. -/
def execLineQlRx (b0 b1 b2 b3 : BitVec 8) (s : State) : Out := perform (
  let code := if bit b2.toNat 0 then 9 else if 1 ≤ b1.toNat ∧ b1.toNat ≤ 10 then b1.toNat else 10
  whenE (b0.toNat == 0x51 && crc8 [b0.toNat, b1.toNat, b2.toNat] == b3.toNat) (seqE [put REF_CAND_STAT.QL_RX code 8, refEval])) s

end Sys2Proof.Machine
end

