-- ==== Sys2Proof/Machine/Veneer.lean ====
section
/-!
DEFINITION. The Veneer cipher: its commands, protected blocks, lookaside requests, sensors and pipelines (R351 to R402).
-/
namespace Sys2Proof.Machine
open Sys2Proof

/-! ### Settings -/

/-- Whether PROT_MODE may become `v` (R388, R389): the failing status, if any. -/
def State.protRefused (s : State) (v : Nat) : Option Status :=
  if 1 < v ∨ (v = 0 ∧ s.is1600) then some .range
  else if v = 1 ∧ !s.protDup ∧ s.dupCap < s.vnrLoad then some .noResource else none

/-- Whether a sensor is out of range. -/
def State.sensorOut (s : State) : Bool := s.rd VNR_STATUS.SENSOR != 0

/-- The index of counter `c` of channel `t` (Table 16.1), in the order of Table 10.11 from VNR_TX_BLK. -/
def vnrCnt (t c : Nat) : Nat := 424 + 7 * t + c

/-- Every VNR counter goes to 0. -/
def vnrCntClr : Eff := fun _ => [.preset 416 0, .preset 417 0] ++ (List.range 224).map (fun k => .preset (424 + k) 0)

def opVnrCfg : OpDef := ⟨0x0901, len 2, runStates, fun _ p s =>
  let v := VNR_CTRL.PROT_MODE.raw (nth p 0)
  if !wordOk [VNR_LA_CFG.HOLD] (nth p 1) then no .range
  else match s.protRefused v with
  | some e => no e
  | none =>
    if bit (nth p 0) 7 && s.sensorOut then no .state
    else okE (seqE [put VNR_CTRL.PROT_MODE v, putWord [VNR_LA_CFG.HOLD] (nth p 1), whenE (bit (nth p 0) 6) vnrCntClr, whenE (bit (nth p 0) 7) (put VNR_STATUS.ERASED 0), judgeProt])⟩
/-- VNR_CFG (R388, R389, R399). -/
def execVnrCfg (h : CmdHdr) (p : List Word) (s : State) : Out := perform (felwin opVnrCfg h p) s

def VNR_STATUS.fields : List Fld := [VNR_STATUS.ERASED, VNR_STATUS.SENSE_ARMED, VNR_STATUS.STATE, VNR_STATUS.DEGRADED, VNR_STATUS.SENSOR, VNR_STATUS.RNG_OK,
  VNR_STATUS.TX_PIPES, VNR_STATUS.RX_PIPES, VNR_STATUS.LA_PAIRS]
def VNR_PAGE_STAT.fields : List Fld := [VNR_PAGE_STAT.GEN1, VNR_PAGE_STAT.GEN0, VNR_PAGE_STAT.V1, VNR_PAGE_STAT.V0, VNR_PAGE_STAT.TX_KP, VNR_PAGE_STAT.PENDING,
  VNR_PAGE_STAT.RX_USE, VNR_PAGE_STAT.TARGET_SF]
def VNR_PAGE_CFG.fields : List Fld := [VNR_PAGE_CFG.OWNER, VNR_PAGE_CFG.SANDBOX, VNR_PAGE_CFG.LA_EN, VNR_PAGE_CFG.INLINE, VNR_PAGE_CFG.DIR]

/-- VNR_STATUS; LOAD follows the slot map (R360). -/
def State.vnrStatus (s : State) : Nat := s.word VNR_STATUS.fields + s.vnrLoad

def opVnrStatus : OpDef := ⟨0x0902, len 0, upStates, fun _ _ _ => okP nop (fun s => s.vnrStatus :: (List.range 72).map (fun p => s.word VNR_PAGE_STAT.fields p))⟩
/-- VNR_STATUS (R399). -/
def execVnrStatus (h : CmdHdr) (p : List Word) (s : State) : Out := perform (felwin opVnrStatus h p) s

/-- The status a page number of a command gets (R352, R399), if it is refused. -/
def pageRefused (p : Nat) : Option Status := if p < 8 then some .privilege else if 71 < p then some .badParam else none

/-- Whether some channel is bound to page `p`. -/
def State.pageBound (s : State) (p : Nat) : Bool := (List.range 32).any (fun t => s.rd VNR_CH_BIND.PAGE t == p)

def opVnrPageSet : OpDef := ⟨0x0903, len 3, cfgStates, fun _ p s =>
  match pageRefused (nth p 0) with
  | some e => no e
  | none =>
    if !wordOk [VNR_PAGE_ROT.PERIOD] (nth p 2) then no .range
    else if VNR_PAGE_CFG.INLINE.raw (nth p 1) == 0 && s.pageBound (nth p 0) then no .state
    else okE (seqE [putWord VNR_PAGE_CFG.fields (nth p 1) (nth p 0), putWord [VNR_PAGE_ROT.PERIOD] (nth p 2) (nth p 0)])⟩
/-- VNR_PAGE_SET (R359, R380). -/
def execVnrPageSet (h : CmdHdr) (p : List Word) (s : State) : Out := perform (felwin opVnrPageSet h p) s

def opVnrBind : OpDef := ⟨0x0907, len 2, cfgStates, fun _ p s =>
  let t := nth p 0
  let g := nth p 1
  if 31 < t then no .badParam
  else if g != 255 && (pageRefused g).isSome then no ((pageRefused g).getD .badParam)
  else if s.chOn t || (g != 255 && !s.on VNR_PAGE_CFG.INLINE g) then no .state
  else okE (put VNR_CH_BIND.PAGE g t)⟩
/-- VNR_BIND (R358, R359). -/
def execVnrBind (h : CmdHdr) (p : List Word) (s : State) : Out := perform (felwin opVnrBind h p) s

def opVnrCounters : OpDef := ⟨0x0909, len 1, cfgStates, fun _ p _ => okP (upd .snap) (fun s =>
  let c := fun j => w64 (s.cnt j + Tab.get 0 s.wraps j * 2 ^ 48)
  [s.snapGen] ++ c 416 ++ (bitsSet 32 (nth p 0)).flatMap (fun t => (List.range 7).flatMap (fun k => c (vnrCnt t k))))⟩
/-- VNR_COUNTERS (R399, R583). -/
def execVnrCounters (h : CmdHdr) (p : List Word) (s : State) : Out := perform (felwin opVnrCounters h p) s

def opVnrRearm : OpDef := ⟨0x090A, len 0, [2, 3, 4, 5], fun _ _ s => if s.sensorOut then no .state else okE (put VNR_STATUS.ERASED 0)⟩
/-- VNR_REARM (R393). -/
def execVnrRearm (h : CmdHdr) (p : List Word) (s : State) : Out := perform (felwin opVnrRearm h p) s

/-- A write of 1 to REARM; with a sensor out of range it is refused. -/
def rearmWrite (m : Nat) : Eff := dyn fun s =>
  if s.sensorOut then flagAcc m SYS_ACC_STAT.RANGE VNR_CTRL.REARM.off else put VNR_STATUS.ERASED 0

/-- VNR_CTRL_REARM (R393): a write of 1 to VNR_CTRL.REARM. -/
def execVnrCtrlRearm (m : Mast) (s : State) : Out := perform (byMaster m VNR_CTRL.REARM 0 (rearmWrite m)) s

/-- VNR_CNT_CLR (R401): a write of 1 to VNR_CTRL.CNT_CLR; the sandbox's is ignored (R585). -/
def execVnrCntClr (m : Mast) (s : State) : Out := perform (byMaster m VNR_CTRL.CNT_CLR 0 vnrCntClr) s

/-- A write of PROT_MODE (R388): one that is refused sets RANGE. -/
def protModeWrite (m v : Nat) : Eff := dyn fun s =>
  if (s.protRefused v).isSome then flagAcc m SYS_ACC_STAT.RANGE VNR_CTRL.PROT_MODE.off else seqE [put VNR_CTRL.PROT_MODE v, judgeProt]
/-- PROT_MODE_WRITE (R388). -/
def execProtModeWrite (m : Mast) (v : BitVec 2) (s : State) : Out := perform (byMaster m VNR_CTRL.PROT_MODE 0 (protModeWrite m v.toNat)) s

/-! ### Keys -/

/-- Whether scheduled changes wait for a superframe boundary: TX_OUT is lit in a native mode (R361, R372). -/
def State.scheduled (s : State) : Bool := s.sending && nativeMode s.txMode

/-- S of a change accepted now. -/
def State.nextS (s : State) : Nat := (s.rd LTX_SF_NUM.ALL + 17) % 65536

/-- Why a scheduled change on pages `ps` is refused (R373). -/
def State.schedRefused (s : State) (ps : List Nat) : Option Status :=
  if ps.any (fun p => s.on VNR_PAGE_STAT.PENDING p) then some .state
  else match s.vnr.batch with
  | some b => if s.scheduled && b.sf != s.nextS then some .busy else none
  | none => none

/-- Scheduled changes enter the batch of S (R373, R375). -/
def schedule (switch rewrite : List Nat) : Eff := dyn fun s =>
  let num := (s.vnr.num + 1) % 64
  seqE [upd (.vnr fun v => match v.batch with
      | some b => { v with batch := some ⟨b.sf, b.num, b.switch ++ switch, b.rewrite ++ rewrite⟩ }
      | none => { v with batch := some ⟨s.nextS, num, switch, rewrite⟩, num := num }),
    forE (switch ++ rewrite) (fun p => seqE [put VNR_PAGE_STAT.PENDING 1 p, put VNR_PAGE_STAT.TARGET_SF s.nextS p])]

/-- The unwrapped key of a blob (R356, Table 10.2): key words and salt, or the failing status. -/
def State.unwrap (s : State) (session page slot : Nat) (b : List Nat) : Except Status (List Nat × Nat) :=
  match Tab.get [] s.sec.keys session with
  | [] => .error .auth
  | k => match Config.gcmOpen k ((b.drop 1).take 3) (wordBytes (nth b 0)) (((b.drop 4).take 9).flatMap wordBytes) (((b.drop 13).take 4).flatMap wordBytes) with
    | none => .error .auth
    | some bytes => let pt := packBytes bytes; if bits (nth b 0) 0 8 != page || bits (nth b 0) 8 8 != slot then .error .badParam else .ok (pt.take 8, nth pt 8)

/-- Whether a load to a slot is a rewrite of the current slot of a page in use (R372). -/
def State.isRewrite (s : State) (p k : Nat) : Bool := s.rd VNR_PAGE_STAT.TX_KP p == k && s.pageInUse p

/-- The superframe number a key takes effect at: that of the next switch for a rewrite while one can be scheduled, else 0xFFFF, at once. -/
def State.keySf (s : State) (g k : Nat) : Nat := if s.isRewrite g k && s.scheduled then s.nextS else 0xFFFF

/-- A key enters a slot, as a rewrite at S where the slot is in use (R357, R372 to R374). -/
def keyEnters (g k : Nat) (key : List Nat) (salt : Nat) : Eff := dyn fun s => seqE [
  placeKey g k key salt, whenE (s.isRewrite g k && s.scheduled) (schedule [] [g]),
  dyn fun t => raise EV.KEY_LOADED [g, k, t.rd (genFld k) g, s.keySf g k]]

def opVnrKeyLoad : OpDef := ⟨0x0904, len 19, cfgStates, fun h p s =>
  let g := nth p 0
  let k := nth p 1
  match pageRefused g with
  | some e => no e
  | none =>
    if 1 < k then no .badParam
    else if s.on VNR_STATUS.ERASED then no .state
    else match s.unwrap h.session.toNat g k (p.drop 2) with
    | .error e => no e
    | .ok (key, salt) =>
      match if s.isRewrite g k then s.schedRefused [g] else none with
      | some e => no e
      | none => okP (keyEnters g k key salt) (fun t => [t.rd (genFld k) g, s.keySf g k])⟩
/-- VNR_KEY_LOAD (R356, R357, R372 to R374): a wrapped key is loaded into a slot, at once or as a rewrite at S. -/
def execVnrKeyLoad (h : CmdHdr) (p : List Word) (s : State) : Out := perform (felwin opVnrKeyLoad h p) s

/-- The status a page mask gets, if it is refused: a privileged page, or none or a page that does not exist. -/
def maskRefused (ws : List Nat) : Option Status :=
  let ps := pagesOf ws
  if ps.any (fun p => decide (p < 8)) then some .privilege else if ps.any (fun p => decide (71 < p)) then some .badParam else none

/-- The pages' phases switch, at S or at once (R372). -/
def switchPages (ps : List Nat) : Eff := dyn fun s =>
  if s.scheduled then schedule ps []
  else seqE [forE ps (fun p => seqE [flipPage p, put VNR_PAGE_STAT.TARGET_SF 0xFFFF p]), raise EV.KEY_SWITCHED (maskWords ps ++ [s.vnr.num, 0xFFFF])]

def opVnrKeySwitch : OpDef := ⟨0x0905, len 3, cfgStates, fun _ p s =>
  match maskRefused p with
  | some e => no e
  | none => match s.schedRefused (pagesOf p) with
    | some e => no e
    | none => okP (switchPages (pagesOf p)) (fun _ => [if s.scheduled then s.nextS else 0xFFFF])⟩
/-- VNR_KEY_SWITCH (R372, R373): flips TX_KP of the named pages at S, or at once while TX_OUT is dark. -/
def execVnrKeySwitch (h : CmdHdr) (p : List Word) (s : State) : Out := perform (felwin opVnrKeySwitch h p) s

/-! ### Lookaside -/

/-- A request leaves the engine: output written, the reply given, VNR_LA_REQ counted, LA_DONE (R384, R386, R402). -/
def endLa (r : LaReq) (st : Status) (pay : List Nat) : Eff := dyn fun s => seqE [
  upd (.vnr fun v => { v with las := v.las.filter (fun q => q != r) }), count 417, finish r.run st pay,
  if bit (s.rd VNR_INT_EN.ALL) 11 then raise EV.LA_DONE [r.run.seq, st.code] else stat VNR_INT_STAT.ALL 11]

/-- The bytes a streaming request may release before its tag (R385). -/
def State.laHold (s : State) (r : LaReq) : Nat := r.len - 1024 * s.rd VNR_LA_CFG.HOLD

/-- A request that ends in flight (R386): zeros over the output not yet released. A streaming one has released a number of bytes the
spec does not fix. -/
def stopLa (r : LaReq) (st : Status) : Eff := dyn fun s =>
  let n := if r.op = 3 then s.free 22 % (s.laHold r + 1) else 0
  seqE [whenE (r.op == 3) drawn, emit (.host (r.dest + n) (List.replicate ((r.len - n + 3) / 4) 0)), endLa r st [r.gen, 0, 0, 0, 0, 0, 0, 0, n]]

/-- The requests in flight under a slot end with KEY_GONE. -/
def stopSlot (p k : Nat) : Eff := dyn fun s => forE (s.vnr.las.filter (fun r => r.page == p && r.slot == k)) (fun r => stopLa r .keyGone)

def opVnrKeyErase : OpDef := ⟨0x0906, len 4, [2, 3, 4, 5], fun _ p _ =>
  match maskRefused (p.take 3) with
  | some e => no e
  | none =>
    if 3 < nth p 3 then no .badParam
    else okE (seqE [forE (pagesOf (p.take 3)) (fun g => seqE [forE (bitsSet 2 (nth p 3)) (fun k => seqE [stopSlot g k, eraseSlot g k]), clearPending g]),
      raise EV.KEY_ERASED [1, 0]])⟩
/-- VNR_KEY_ERASE (R378): zeroises the named slots at once and clears a pending change of their pages. -/
def execVnrKeyErase (h : CmdHdr) (p : List Word) (s : State) : Out := perform (felwin opVnrKeyErase h p) s

def opVnrLa : OpDef := ⟨0x0908, len 14, cfgStates, fun h p s =>
  let op := bits (nth p 0) 28 4
  let g := bits (nth p 0) 0 8
  let k := if bit (nth p 0) 27 then bits (nth p 0) 26 1 else s.rd VNR_PAGE_STAT.TX_KP g
  if 4096 < nth p 1 ∨ 65536 < nth p 2 then no .lengthLimit
  else if op = 0 ∨ 3 < op ∨ 71 < g then no .badParam
  else if g < 8 || !s.on VNR_PAGE_CFG.LA_EN g || s.rd VNR_PAGE_CFG.OWNER g != h.session.toNat then no .privilege
  else match (s.vnr.slot g k).cur with
  | none => no .state
  | some y =>
    if op = 1 ∧ 2 ^ 48 ≤ y.la then no .nonceExhausted
    else if !s.on VNR_STATUS.RNG_OK then no .hwFault
    else
      let nonce := if op = 1 then nonceWords y.salt (s.rd VNR_PAGE_CFG.DIR g) (2 ^ 63 + y.la) else (p.drop 7).take 3
      let r : LaReq := ⟨runOf h 0x0908 p, op, g, k, y.gen, y.key, nth p 1, nth p 2, nth p 5 + nth p 6 * 2 ^ 32, nonce, if op = 1 then [0, 0, 0, 0] else (p.drop 10).take 4⟩
      deferE (seqE [whenE (op == 1) (modSlot g k (fun z => { z with cur := z.cur.map (fun c => { c with la := c.la + 1 }) })),
        upd (.vnr fun v => { v with las := v.las ++ [r] })])⟩
/-- VNR_LA (R381 to R383): a lookaside request starts after the checks of Table 10.8. -/
def execVnrLa (h : CmdHdr) (p : List Word) (s : State) : Out := perform (felwin opVnrLa h p) s

/-- The output of a request over its additional data and its data (R383 to R385): the words written, the tag of an encryption, and whether the tag of a
decryption holds. A decryption whose tag fails has what it may have released before. -/
def LaReq.result (r : LaReq) (aad data : List Nat) : List Nat × List Nat × Bool :=
  if r.op = 1 then
    let c := Config.gcmSeal r.key r.nonce aad data
    (packBytes (c.take data.length), packBytes ((c.drop data.length).take 16), true)
  else match Config.gcmOpen r.key r.nonce aad data (r.tag.flatMap wordBytes) with
    | some pt => (packBytes pt, r.tag, true)
    | none => (packBytes (Config.gcmStream r.key r.nonce data), r.tag, false)

/-- Zeros over `len` bytes of a request's output from address `a` on. -/
def laZeros (a len : Nat) : Eff := emit (.host a (List.replicate ((len + 3) / 4) 0))

/-- LA_DONE (R383 to R387, R390): request `n` in flight completes, under the generation it started with. `aad` and `data` are what the engine has read from
the source address, `mis` whether the pair's results differed. -/
def execLaDone (n : Nat) (aad data : List Word) (mis : Bool) (s : State) : Out := perform (dyn fun s =>
  match s.vnr.las[n]? with
  | none => nop
  | some r =>
    let (words, tag, ok) := r.result (((aad.map (·.toNat)).flatMap wordBytes).take r.aad) (((data.map (·.toNat)).flatMap wordBytes).take r.len)
    let pay := fun (k : Nat) => [r.gen] ++ r.nonce ++ tag ++ [k]
    if mis then seqE [count 416, raise EV.VNR_FAULT [1, 0], stopLa r .hwFault]
    else if ok then seqE [emit (.host r.dest words), endLa r .ok (pay r.len)]
    else if r.op = 2 then seqE [laZeros r.dest r.len, endLa r .tagFail (pay 0)]
    else seqE [emit (.host r.dest (words.take (s.laHold r / 4))), laZeros (r.dest + s.laHold r) (r.len - s.laHold r), endLa r .tagFail (pay (s.laHold r))]) s

/-! ### Blocks -/

/-- The generation the transmitter encrypts page `p` under (R366, R374): the current slot's, or the retained one while its rewrite is pending. -/
def State.txGen (s : State) (p : Nat) : Option KeyGen :=
  let y := s.vnr.slot p (s.rd VNR_PAGE_STAT.TX_KP p)
  if s.vnr.rewriting p then y.ret else y.cur

/-- The transmitted block stepped the generation's SEQ. -/
def stepSeq (p : Nat) : Eff := dyn fun s =>
  let bump' := fun (c : KeyGen) => { c with seq := c.seq + 1 }
  modSlot p (s.rd VNR_PAGE_STAT.TX_KP p) (fun y => if s.vnr.rewriting p then { y with ret := y.ret.map bump' } else { y with cur := y.cur.map bump' })

/-- A FILL block (R365). -/
def sendFill (t p : Nat) : Eff := dyn fun s =>
  emit (.vblock t (s.rd VNR_PAGE_STAT.TX_KP p) (b2n (s.vnr.switching p)) 1 (((s.txGen p).map (·.gen)).getD 0) 0 [])

/-- VNR_TX_BLOCK (R364 to R366, R379, R390, R391, R397): a protected block of bound channel `t` through pipeline `pipe`. `why` is 0 for
a block computed, 1 for a pair that disagrees, in DUP, 2 for a slot erased while the block was in flight. -/
def execVnrTxBlock (t : Fin 32) (pipe : Fin 26) (why : Fin 3) (s : State) : Out := perform (dyn fun s =>
  let p := s.rd VNR_CH_BIND.PAGE t.val
  if !(s.chOn t.val && s.chBound t.val && s.carried t.val) then nop
  else if why.val = 2 then seqE [count (vnrCnt t.val 4), sendFill t.val p]
  else match s.txGen p with
  | none => sendFill t.val p
  | some y =>
    if !s.on VNR_STATUS.RNG_OK || s.beyond 0 t.val || 2 ^ 48 ≤ y.seq then sendFill t.val p
    else if why.val = 1 ∧ s.rd VNR_STATUS.STATE = 0 then seqE [count 416, raise EV.VNR_FAULT [1, pipe.val], sendFill t.val p]
    else seqE [stepSeq p, count (vnrCnt t.val 0),
      emit (.vblock t.val (s.rd VNR_PAGE_STAT.TX_KP p) (b2n (s.vnr.switching p)) 0 y.gen y.seq (nonceWords y.salt (s.rd VNR_PAGE_CFG.DIR p) y.seq))]) s

/-- A pipeline that fails its known-answer test is retired with its pair (R390, R391, R398). `dir` is 0 transmit, 1 receive, 2 lookaside. -/
def retirePipe (dir pipe : Nat) : Eff := dyn fun s =>
  let f := if dir = 0 then VNR_STATUS.TX_PIPES else if dir = 1 then VNR_STATUS.RX_PIPES else VNR_STATUS.LA_PAIRS
  seqE [put f (s.rd f - (if dir = 2 then 1 else 2)), raise EV.VNR_FAULT [2, pipe], judgeProt]

/-- VNR_KAT_DONE (R390). -/
def execVnrKatDone (dir : Fin 3) (pipe : Fin 26) (pass : Bool) (s : State) : Out := perform (whenE (!pass) (retirePipe dir.val pipe.val)) s

/-- The generation of slot `k` of page `p` that a block names: current or retained. -/
def KeySlot.named (y : KeySlot) (gen : Nat) : Option KeyGen :=
  match y.cur with
  | some c => if c.gen = gen then some c else (match y.ret with | some r => if r.gen = gen then some r else none | none => none)
  | none => none

/-- A verified block of channel `t` (R368, R370, R378): its SEQ is the last under its generation, and the slot is in use. -/
def verified (t p k gen seq : Nat) : Eff := seqE [
  modSlot p k (fun y =>
    let mark := fun (c : KeyGen) => if c.gen = gen then { c with rx := Tab.set 0 c.rx t (seq + 1) } else c
    if (y.cur.map (·.gen)) = some gen then { y with cur := y.cur.map mark, use := 3 } else { y with ret := y.ret.map mark, use := 3 }),
  fun s => [.put VNR_PAGE_STAT.RX_USE p (setBit (s.rd VNR_PAGE_STAT.RX_USE p) k)]]

/-- KA = 1 while the page's other slot is empty raises KEY_UNKNOWN, once per page per batch (R377). -/
def kaSeen (t p k : Nat) : Eff := dyn fun s =>
  if (s.vnr.slot p (1 - k)).cur.isSome || Tab.get 0 s.vnr.unknown p == s.vnr.rxNum + 1 then nop
  else seqE [upd (.vnr fun v => { v with unknown := Tab.set 0 v.unknown p (v.rxNum + 1) }), raise EV.KEY_UNKNOWN [p, t, s.vnr.rxNum]]

/-- VNR_RX_BLOCK (R368, R377, R390, R397): a received block of bound channel `t` by the rows of Table 10.5, through pipeline `pipe`. `filled` says that it
already carries fill or is a unit in defect, `tagOk` that its tag verifies, `marked` that some bit of it carries the UNCORR mark, `mis` that a pair in
DUP disagrees. -/
def execVnrRxBlock (t : Fin 32) (pipe : Fin 26) (kp ka fill : Bool) (gen : BitVec 5) (seq : BitVec 48) (filled tagOk marked mis : Bool) (s : State) : Out := perform (dyn fun s =>
  let p := s.rd VNR_CH_BIND.PAGE t.val
  let k := b2n kp
  let out := fun (n : Nat) => emit (.delivered t.val n)
  if !(s.chOn t.val && s.chBound t.val && s.carried t.val) then nop
  else if filled || s.fillTrib t.val || !s.on VNR_STATUS.RNG_OK || s.beyond 1 t.val then out 0
  else seqE [whenE ka (kaSeen t.val p k),
    if fill then seqE [count (vnrCnt t.val 6), out 0]
    else match (s.vnr.slot p k).named gen.toNat with
    | none => seqE [count (vnrCnt t.val 4), out 0]
    | some y =>
      if mis && s.rd VNR_STATUS.STATE == 0 then seqE [count 416, raise EV.VNR_FAULT [1, pipe.val], out 0]
      else if !tagOk && marked then seqE [count (vnrCnt t.val 3), out 0]
      else if !tagOk then seqE [count (vnrCnt t.val 2), occur EV.VNR_AUTH t.val [t.val, 1], out 0]
      else if seq.toNat + 1 ≤ Tab.get 0 y.rx t.val then seqE [count (vnrCnt t.val 5), out 0]
      else seqE [verified t.val p k gen.toNat seq.toNat, count (vnrCnt t.val 1), out 1]]) s

/-- Whether every channel bound to the page has verified a block under the slot's current generation. -/
def State.allVerified (s : State) (p k : Nat) : Bool :=
  match (s.vnr.slot p k).cur with
  | none => false
  | some c => ((List.range 32).filter (fun t => s.rd VNR_CH_BIND.PAGE t == p)).all (fun t => decide (0 < Tab.get 0 c.rx t))

/-- RETAINED_GEN_ERASE (R370, R374): two superframes after the newer generation has verified on every bound channel, and not while a
rewrite is pending, the retained generation is erased. -/
def execRetainedGenErase (p : Fin 72) (k : Fin 2) (s : State) : Out := perform (dyn fun s =>
  whenE (s.allVerified p.val k.val && !s.vnr.rewriting p.val) (modSlot p.val k.val (fun y => { y with ret := none }))) s

/-! ### Limits, sensors, randomness -/

/-- KEY_AGE (R379): a count of the slot's generation has reached 2^47, raised once for each count; class 1 inline, 2 lookaside. -/
def execKeyAge (p : Fin 72) (k : Fin 2) (la : Bool) (s : State) : Out := perform (dyn fun s =>
  match (s.vnr.slot p.val k.val).cur with
  | none => nop
  | some c =>
    if (if la then c.agedLa || decide (c.la < 2 ^ 47) else c.aged || decide (c.seq < 2 ^ 47)) then nop
    else seqE [modSlot p.val k.val (fun y => { y with cur := y.cur.map (fun c => if la then { c with agedLa := true } else { c with aged := true }) }),
      raise EV.KEY_AGE [p.val, k.val, c.gen, if la then 2 else 1]]) s

/-- KEY_EXHAUSTED (R379): the inline count of the slot's generation has reached 2^48. -/
def execKeyExhausted (p : Fin 72) (k : Fin 2) (s : State) : Out := perform (dyn fun s =>
  match (s.vnr.slot p.val k.val).cur with
  | none => nop
  | some c =>
    if c.spent || decide (c.seq < 2 ^ 48) then nop
    else seqE [modSlot p.val k.val (fun y => { y with cur := y.cur.map (fun c => { c with spent := true }) }), raise EV.KEY_EXHAUSTED [p.val, k.val, c.gen]]) s

/-- Every slot is zeroised (R353, R393). -/
def eraseAll : Eff := seqE [dyn fun s => forE s.vnr.las (fun r => stopLa r .keyGone),
  forE (List.range 72) (fun p => seqE [eraseSlot p 0, eraseSlot p 1, put VNR_PAGE_STAT.PENDING 0 p]), upd (.vnr fun v => { v with batch := none })]

/-- SENSOR_ALARM (R393): sensor `b` goes out of range. Armed, every slot is zeroised; else it is only reported. -/
def execSensorAlarm (b : Fin 4) (s : State) : Out := perform (seqE [fun s => [.put VNR_STATUS.SENSOR 0 (setBit (s.rd VNR_STATUS.SENSOR) b.val)], dyn fun s =>
  if s.on VNR_STATUS.SENSE_ARMED then seqE [eraseAll, put VNR_STATUS.ERASED 1, raise EV.KEY_ERASED [2, s.rd VNR_STATUS.SENSOR]]
  else raise EV.VNR_SENSOR [s.rd VNR_STATUS.SENSOR, s.rd VNR_STATUS.STATE]]) s

/-- SENSOR_REKEY (R393): every sensor has been in range for 1 s; the Keeper rekeys pages 0 to 3 where they were erased. -/
def execSensorRekey (s : State) : Out := perform (dyn fun s => seqE [put VNR_STATUS.SENSOR 0,
  whenE (s.on VNR_STATUS.ERASED && !s.on SEC_STATUS.KEEPER_ALARM && (s.vnr.slot 0 0).cur.isNone) keyPrivileged]) s

/-- DRBG_HEALTH_FAIL (R397, R645): tenant pages stop. -/
def execDrbgHealthFail (s : State) : Out := perform (seqE [put VNR_STATUS.RNG_OK 0, put SEC_STATUS.DRBG_OK 0, raise EV.VNR_FAULT [3, 0]]) s

/-- DRBG_HEALTH_PASS (R397, R645): 1,024 consecutive samples pass and tenant pages resume. -/
def execDrbgHealthPass (s : State) : Out := perform (seqE [put VNR_STATUS.RNG_OK 1, put SEC_STATUS.DRBG_OK 1]) s

end Sys2Proof.Machine
end

