-- ==== Sys2Proof/Machine/Scribe.lean ====
section
/-!
DEFINITION. The Scribe channel and autonomous bring-up (R403 to R434), and key rotation (R380, R430).
-/
namespace Sys2Proof.Machine
open Sys2Proof

/-! ### Sending -/

/-- The state code of Table 11.4. -/
def State.scrState (s : State) : Nat := s.rd SCR_STATUS.STATE

def setScr (v : Nat) : Eff := put SCR_STATUS.STATE v

/-- The selected peer, 0 when none. -/
def State.scrPeer (s : State) : Nat := s.rd SCR_PEER_CUR.ALL

/-- Whether this device is the LEADER (R420). -/
def State.leads (s : State) : Bool := s.rd SCR_STATUS.ROLE == 1

/-- Whether Scribe transmits: a paired unit that is not ACTIVE does not (R422, R525), nor one whose hold-off has not passed (R414), nor one in HOLD (R417). -/
def State.scrSends (s : State) : Bool := s.scr.free && !s.quiet && s.scrState != 0 && s.scrState != 8

/-- The synchronising word (Table 11.1). -/
def syncWord : Nat := 0x9E2B6D14F0C7A53B

/-- Bits XORed with the whitening generator, loaded with all ones at the first header bit (R408). -/
def whiten (bs : List Bool) : List Bool := (lfsrMix 15 [14, 13] bs 0x7FFF).1

/-- HCRC of a header (Table 11.2). -/
def hcrc (bs : List Nat) : Nat := crc16 (bs.take 22)

/-- The symbols of a packet, one bit each (Table 11.1): tone, training, synchronising word, then header, payload and CRC-32C whitened. -/
def packetSymbols (hdr payload : List Nat) : List Bool :=
  List.replicate 512 false ++ (List.range 128).map (fun i => i % 2 == 0) ++ msbFirst 64 syncWord ++
  whiten (byteBits (hdr ++ payload ++ bytesBE 4 (crc32c (hdr ++ payload))))

/-- The header of a packet (Table 11.2). -/
def State.scrHeader (s : State) (typ prot seq dst len : Nat) : List Nat :=
  let h := [16 + 8 * prot, typ] ++ bytesBE 2 len ++ bytesBE 8 s.fuse.devId ++ bytesBE 8 dst ++ bytesBE 2 seq
  h ++ bytesBE 2 (hcrc h)

/-- The key of the session, page 2 (R420). -/
def State.scrKey (s : State) : Option KeyGen := (Tab.get {} s.vnr.slots 4).cur

/-- A packet as sent (R408, R420): its payload protected under page 2 where `prot` is 1, the SEQ as the nonce's counter and the header as additional data. -/
def State.scrPacket (s : State) (typ prot seq dst : Nat) (body : List Nat) : List Bool :=
  let hdr := s.scrHeader typ prot seq dst (body.length + 16 * prot)
  match prot, s.scrKey with
  | 1, some y =>
    let c := Config.gcmSeal y.key (nonceWords y.salt (s.rd VNR_PAGE_CFG.DIR 2) seq) hdr body
    packetSymbols hdr ((List.range (body.length + 16)).map (fun i => nth c i % 256))
  | _, _ => packetSymbols hdr body

/-- Sends a packet of TYPE `typ` with SEQ `seq` (Tables 11.1, 11.2), protected once page 2 is keyed (R420). -/
def sendPacket (typ seq : Nat) (body : List Nat) : Eff := dyn fun s =>
  let dst := if typ = 1 then 2 ^ 64 - 1 else s.scrPeer
  let prot := b2n (s.on SCR_STATUS.KEYED && s.scrKey.isSome)
  whenE s.scrSends (seqE [count 271, emit (.scribe typ prot seq dst body (s.rd SCR_CFG.FREQ) (s.rdI SCR_CFG.LEVEL) (s.scrPacket typ prot seq dst body))])

/-- Sends a new packet. -/
def sendScr (typ : Nat) (body : List Nat) : Eff := dyn fun s => seqE [upd (.scr fun c => { c with seq := (c.seq + 1) % 65536 }), sendPacket typ ((s.scr.seq + 1) % 65536) body]

/-- Sends a message that expects a reply of TYPE `want` (R416). -/
def sendWait (typ want : Nat) (body : List Nat) : Eff := seqE [sendScr typ body, dyn fun s => upd (.scr fun c => { c with wait := some ⟨want, s.scr.seq, typ, body, 0⟩ })]

/-- Sends the reply to the packet with SEQ `q`, kept for a repeat (R423). -/
def sendReplyTo (q typ : Nat) (body : List Nat) : Eff := seqE [sendScr typ body,
  dyn fun s => upd (.scr fun c => { c with replies := Tab.set [] c.replies q ([typ, s.scr.seq] ++ body) })]

/-- Nothing is awaited any more. -/
def stopWait : Eff := upd (.scr fun c => { c with wait := none })

/-- HOLD is entered (R417). -/
def holdScr : Eff := seqE [setScr 8, stopWait, upd (.scr fun c => { c with goDue := false })]

/-- The modes this device allows (R424): SCR_MODES, without codes 1 and 2 on an ASK1600. -/
def State.ownModes (s : State) : Nat := let m := 2 * s.rd SCR_MODES.ALL; if s.is1600 then clrBit (clrBit m 1) 2 else m

/-- The receiver is LOCKED. -/
def State.rxLocked (s : State) : Bool := s.stage == 10

/-- The bytes of the first `n` words of a list, as a certificate, key or signature gives them. -/
def bytesIn (n : Nat) (ws : List Nat) : List Nat := (List.range n).flatMap (fun i => wordBytes (nth ws i))

/-- The identity key IDK (Table 18.6) among the model's key numbers. -/
def keyIDK : Nat := 1

/-- The first 32 words of a certificate of kind `k` (Table 18.7), what its signature covers. The device CA's identifier, the issue time and the key
stand in fuses, or were made with the keys at the last boot: those words are Config.cert's. -/
def State.certHead (s : State) (k : Nat) : List Nat :=
  let c := Config.cert k (if k ≤ 2 then 0 else s.sec.certNo)
  let ca := [nth (Config.cert 1 0) 1, nth (Config.cert 1 0) 2]
  let own := w64 s.fuse.devId
  [1 + 256 * k + 65536 * (if k = 1 then 0 else s.fuse.part.code)] ++ (if k = 1 then ca ++ [0, 0] else if k = 2 then own ++ ca else own ++ own) ++
    nth c 5 :: (List.range 24).map (fun i => nth c (6 + i)) ++ [nth c 30 % 256, 0]

/-- The 56 words of a certificate (R653, R654): IDK signs those of KIND 3 and 4, issued at each boot; the signatures of KIND 1 and 2 are the issuers'. -/
def State.certWords (s : State) (k : Nat) : List Nat :=
  s.certHead k ++ (List.range 24).map (fun i => if k ≤ 2 then nth (Config.cert k 0) (32 + i) else Config.ecdsaSign keyIDK (Config.sha384 (s.certHead k)) s.sec.certNo i)

/-- The content of a HELLO (Table 11.3; log entry 157 for the widths the table does not give). -/
def State.helloBytes (s : State) : List Nat :=
  bytesBE 2 s.fuse.part.code ++ [s.ownModes] ++ bytesBE 2 (s.rd SCR_CFG.FREQ) ++ [s.scrState, b2n s.rxLocked, s.scr.excl] ++
  ((List.range 3).flatMap (fun i => wordBytes (s.rd SCR_KEY_PAGES.ALL i))).take 9 ++ bytesBE 2 448 ++ bytesIn 56 (s.certWords 2) ++ bytesIn 56 (s.certWords 1)

/-! ### Peers -/

/-- What is known of device `id`. -/
def State.heard (s : State) (id : Nat) : Option ScrPeer := s.scr.peers.find? (fun p => p.id == id)

/-- Whether `id` is ignored after a failed identity check (R418). -/
def State.banned (s : State) (id : Nat) : Bool := s.scr.banned.any (fun b => b.1 == id && decide (s.tick < b.2))

/-- Ticks in 60 s. -/
def ticks60 : Nat := 46875000000

/-- A peer fails the identity check (R418): counted, reported once, ignored for 60 s. -/
def rejectPeer (id cause : Nat) : Eff := dyn fun s => seqE [count 270, raise EV.SCR_PEER_REJECT (w64 id ++ [cause]),
  upd (.scr fun c => { c with banned := (id, s.tick + ticks60) :: c.banned.filter (fun b => b.1 != id) })]

/-- A packet of another identifier than the selected peer's is discarded (R419). -/
def otherPeer (id : Nat) : Eff := dyn fun s => seqE [count 268,
  whenE (!s.scr.told.contains id) (seqE [upd (.scr fun c => { c with told := id :: c.told }), raise EV.SCR_MULTI_PEER (w64 id ++ [s.rd SCR_STATUS.PEERS])])]

/-- A packet accepted from `src`, whose SEQ is `q`: `body` is what it does; a repeated SEQ is answered again (R423). -/
def fromPeer (src q : Nat) (body : Eff) : Eff := dyn fun s =>
  if s.scrState = 0 then nop
  else seqE [put SCR_STATUS.RX_BUSY 0, upd (.scr fun c => { c with rx := none }), count 264,
    if s.banned src then nop
    else if s.scrPeer ≠ 0 ∧ s.scrPeer ≠ src then otherPeer src
    else match if s.scrPeer = src then Tab.get [] s.scr.replies q else [] with
      | typ :: seq :: rest => sendPacket typ seq rest
      | _ => body]

/-! ### Keys -/

/-- The pages that this device and the peer key over Scribe (R422); none while the array is erased (R393). -/
def State.scrPages (s : State) : List Nat :=
  match s.heard s.scrPeer with
  | none => []
  | some p => if !s.scr.trust.contains p.id || s.lifecycle == 3 || s.on VNR_STATUS.ERASED then []
    else (List.range 72).filter (fun g => decide (8 ≤ g) && bit (s.rd SCR_KEY_PAGES.ALL (g / 32)) (g % 32) && bit (nth p.pages (g / 32)) (g % 32))

/-- Keys whose switch waits for KEYS_ACK: with NEG at 0 and in a rotation (R429, R430). -/
def State.laterKeys (s : State) : Bool := !s.on SCR_CTRL.NEG || s.scr.rot.isSome

/-- The slot a page's new key goes into (R425, R429). -/
def State.scrSlot (s : State) (g : Nat) : Nat := if s.laterKeys then 1 - s.rd VNR_PAGE_STAT.TX_KP g else 0

/-- A key agreed over Scribe enters slot `k` of page `g` (R420, R425). -/
def scrPlace (g k : Nat) (key : List Nat) (salt : Nat) : Eff := dyn fun s => seqE [placeKey g k key salt, putB VNR_PAGE_CFG.DIR (!s.leads) g,
  whenE (!s.laterKeys) (put VNR_PAGE_STAT.TX_KP 0 g), dyn fun t => raise EV.KEY_LOADED [g, k, t.rd (genFld k) g, 0xFFFF]]

/-- The pages of a rotation or of keys agreed alone switch (R372, R429, R430); where the switch is refused, the agreement has failed (R380). -/
def scrSwitch (ps : List Nat) : Eff := dyn fun s =>
  whenE (s.laterKeys && !ps.isEmpty) (if (s.schedRefused ps).isNone then switchPages ps
    else forE ps (fun g => raise EV.KEY_AGE [g, s.rd VNR_PAGE_STAT.TX_KP g, s.rd (genFld (s.rd VNR_PAGE_STAT.TX_KP g)) g, 0]))

/-- A fresh key and salt drawn by the Keeper: nine words. -/
def State.freshKey (s : State) : List Nat := (List.range 9).map (fun i => s.free (40 + i) % 2 ^ 32)

/-- One key of a KEYS message: drawn, placed and listed. -/
def keyOne (g : Nat) : Eff := dyn fun s => seqE [drawn, scrPlace g (s.scrSlot g) (s.freshKey.take 8) (nth s.freshKey 8),
  upd (.scr fun c => { c with keysOut := c.keysOut ++ [(g, s.scrSlot g)] })]

/-- The leader sends KEYS for pages `ps` (R425, R430). -/
def sendKeys (ps : List Nat) : Eff := dyn fun s =>
  let body := (List.range ps.length).flatMap (fun i => [ps.getD i 0, s.scrSlot (ps.getD i 0)] ++ bytesIn 9 ((List.range 9).map (fun j => Config.freeValue (40 + j) (s.draws + i) % 2 ^ 32)))
  seqE [upd (.scr fun c => { c with keysOut := [] }), forE ps keyOne, sendWait 6 7 body]

/-- The modes excluded by either end (R424). -/
def State.exclBoth (s : State) : Nat := s.scr.excl ||| ((s.heard s.scrPeer).map (·.excl)).getD 0

/-- The mode the leader proposes (R424). -/
def State.proposal (s : State) : Option Nat :=
  [1, 2, 3, 4, 5].find? (fun c => bit s.ownModes c && bit (((s.heard s.scrPeer).map (·.modes)).getD 0) c && !bit s.exclBoth c &&
    widthOk c 0 (s.rd LTX_SHAPE.ROLLOFF) (s.rd LTX_SHAPE.KERF) && edgeOk c 0 (s.rd LTX_SHAPE.ROLLOFF) (s.rd LTX_SHAPE.KERF) (s.rd SCR_CFG.FREQ))

/-- SCR_NO_COMMON (R424). -/
def noCommon : Eff := dyn fun s => seqE [raise EV.SCR_NO_COMMON [s.ownModes, ((s.heard s.scrPeer).map (·.modes)).getD 0, s.exclBoth], holdScr]

/-- PROPOSE is entered: the leader proposes a mode, plan 0 (R424). -/
def enterPropose : Eff := dyn fun s => seqE [setScr 4, stopWait, whenE s.leads (match s.proposal with
  | none => noCommon
  | some c => seqE [upd (.scr fun x => { x with mode := c, shape := s.word LTX_SHAPE.fields }), sendWait 3 4 ([c] ++ bytesBE 4 (s.word LTX_SHAPE.fields) ++ [0])])]

/-- KEYING is entered: the leader sends the keys of R422. -/
def enterKeying : Eff := dyn fun s => seqE [setScr 5, stopWait, whenE s.leads (sendKeys s.scrPages)]

/-- What the signature of a KEX covers (R421): the digests of both HELLOs, both ephemeral keys and both nonces; of a peer whose KEX has not
come, its HELLO alone (log entry 157). -/
def State.kexDigest (s : State) (e : Nat) (n : List Nat) (peer : Option ScrKex) : List Nat :=
  let far := match s.heard s.scrPeer with
    | some p => p.hello
    | none => []
  Config.sha384 (Config.sha384 (packBytes s.helloBytes) ++ Config.sha384 far ++ Config.pubKey e ++ (peer.map (·.pub)).getD [] ++ n ++ (peer.map (·.nonce)).getD [])

/-- Sends a KEX with a fresh ephemeral key and nonce (R421), in answer to the peer's or awaiting it. -/
def sendKex (peer : Option ScrKex) : Eff := dyn fun s =>
  let e := s.free 49
  let n := (List.range 8).map (fun i => s.free (50 + i) % 2 ^ 32)
  let sig := (List.range 24).map (fun i => Config.ecdsaSign keyIDK (s.kexDigest e n peer) s.draws i)
  let body := (bytesIn 25 (Config.pubKey e)).take 97 ++ bytesIn 8 n ++ bytesIn 24 sig
  seqE [drawn, upd (.scr fun c => { c with ephem := e, nonce := n }),
    match peer with
    | some k => sendReplyTo k.seq 2 body
    | none => sendWait 2 2 body]

/-- Page 2 is keyed from both KEX (R420, R421). -/
def keyPage2 (k : ScrKex) : Eff := dyn fun s =>
  let d := sessionKey s.leads s.scr.ephem k.pub s.fuse.devId s.scrPeer s.scr.nonce k.nonce
  seqE [placeKey 2 0 (d.take 8) (nth d 8), putB VNR_PAGE_CFG.DIR (!s.leads) 2, put SCR_STATUS.KEYED 1]

/-- Both KEX have passed: negotiation goes on (Table 11.4), or a rotation's keys are sent (R430). -/
def afterKex : Eff := dyn fun s => seqE [stopWait,
  match s.scr.rot with
  | some g => whenE s.leads (sendKeys [g])
  | none => if s.on SCR_CTRL.NEG then enterPropose else enterKeying]

/-- BEACON is returned to; the peer is kept or dropped. -/
def backToBeacon (keep : Bool) : Eff := seqE [setScr 2, stopWait, whenE (!keep) scrDrop]

/-- The peer's KEX is used (R421, R423): a failing signature is a failed identity check (R418). -/
def useKex (k : ScrKex) : Eff := dyn fun s =>
  if !k.sigOk then seqE [rejectPeer s.scrPeer 2, whenE (s.scrState == 3) (backToBeacon false)]
  else seqE [upd (.scr fun c => { c with kexIn := true, replies :=
      match c.wait with
      | some w => if w.typ = 2 then Tab.set [] c.replies k.seq ([2, w.seq] ++ w.body) else c.replies
      | none => c.replies }), keyPage2 k, afterKex]

/-- KEYX is entered with peer `id` (R419, R420, R423): a held KEX of that peer is used at once, the others are discarded. -/
def selectPeer (id : Nat) : Eff := dyn fun s =>
  let own := s.fuse.devId
  let role := if id < own then 1 else 2
  let held := s.scr.heldKex.find? (fun h => h.1 == id)
  seqE [put SCR_PEER_CUR.ALL id, put SCR_STATUS.ROLE role, raise EV.SCR_PAIRED (w64 id ++ [role]), setScr 3,
    upd (.scr fun c => { c with heldKex := [], told := [], replies := [], kexIn := false, rot := none, leftAt := s.tick }),
    match held with
    | some (_, k) => seqE [sendKex (some k), useKex k]
    | none => sendKex none]

/-! ### Commands -/

def SCR_CTRL.fields : List Fld := [SCR_CTRL.PIN, SCR_CTRL.AUTO_RENEG, SCR_CTRL.NEG]
def SCR_CFG.fields : List Fld := [SCR_CFG.FREQ, SCR_CFG.LEVEL, SCR_CFG.CAP_MARGIN, SCR_CFG.SYNC_TOL]
def SCR_TIMERS.fields : List Fld := [SCR_TIMERS.HELLO, SCR_TIMERS.REPLY_TO, SCR_TIMERS.NEG_TO, SCR_TIMERS.RETRIES]
def SCR_TIMERS2.fields : List Fld := [SCR_TIMERS2.SEL_WIN, SCR_TIMERS2.GO_TO, SCR_TIMERS2.RELOCK_TO]

/-- SCR_CTRL.EN changes (R423): 0 darkens the beacon and turns Scribe OFF, 1 lets it leave OFF. -/
def setScrEn (v : Bool) : Eff := dyn fun s => seqE [putB SCR_CTRL.EN v,
  if v then scrFollow else seqE [whenE (s.scr.beacon || s.scr.lighting) (goDark 1), whenE (s.scrState != 0) scrOff]]

/-- SCR_RESTART (R431): the excluded modes are forgotten, a TX_OUT lit by Scribe goes dark, and bring-up starts again. -/
def scrRestart : Eff := dyn fun s => seqE [upd (.scr fun c => { c with excl := 0 }), whenE (s.scr.beacon || s.scr.lighting || s.scr.litBy) (goDark 1),
  if s.scrState = 0 then scrFollow else seqE [scrDrop, setScr (if s.scr.free then 2 else 1)]]

/-- Every Scribe counter goes to 0. -/
def scrCntClr : Eff := fun _ => (List.range 8).map (fun k => .preset (264 + k) 0)

/-- The tenant pages of word `i` of a key-page mask (R422, Table 11.7). -/
def tenantMask (i w : Nat) : Nat := if i = 0 then w / 256 * 256 else if i = 1 then w else w % 256

/-- Whether Scribe as enabled and placed by the words of SCR_CTRL and SCR_CFG clears the mode in force (R404). -/
def State.scrEdge (s : State) (en freq : Nat) : Bool :=
  en == 0 || edgeOk s.txMode s.txN (s.rd LTX_SHAPE.ROLLOFF) (s.rd LTX_SHAPE.KERF) freq

def opScrCfgSet : OpDef := ⟨0x0A01, len 11, runStates, fun _ p s =>
  let en := bits (nth p 0) 0 1
  let f := SCR_CFG.FREQ.raw (nth p 1)
  if !(wordOk SCR_CFG.fields (nth p 1) && wordOk SCR_TIMERS.fields (nth p 2) && wordOk SCR_TIMERS2.fields (nth p 3) && wordOk [SCR_BACKOFF.ALL] (nth p 4)) then no .range
  else if f != s.rd SCR_CFG.FREQ && s.lit then no .range
  else if !s.scrEdge en f then no .range
  else okE (seqE [putWord SCR_CTRL.fields (nth p 0), putWord SCR_CFG.fields (nth p 1), putWord SCR_TIMERS.fields (nth p 2), putWord SCR_TIMERS2.fields (nth p 3),
    putWord [SCR_BACKOFF.ALL] (nth p 4), putWord [SCR_MODES.ALL] (nth p 5), forE (List.range 3) (fun i => put SCR_KEY_PAGES.ALL (tenantMask i (nth p (6 + i))) i),
    put SCR_PEER_ID.ALL (nth p 9 + 2 ^ 32 * nth p 10), setScrEn (en == 1), whenE (bit (nth p 0) 5) scrCntClr, whenE (bit (nth p 0) 4) scrRestart])⟩
/-- SCR_CFG_SET (R431, R404). -/
def execScrCfgSet (h : CmdHdr) (p : List Word) (s : State) : Out := perform (felwin opScrCfgSet h p) s

def opScrTrust : OpDef := ⟨0x0A02, fun k => k % 2 == 1 && decide (k ≤ 33), [1, 2, 4], fun _ p _ =>
  if 16 < nth p 0 then no .range
  else if p.length != 1 + 2 * nth p 0 then no .badLength
  else okE (upd (.scr fun c => { c with trust := (List.range (nth p 0)).map (fun i => nth p (1 + 2 * i) + 2 ^ 32 * nth p (2 + 2 * i)) }))⟩
/-- SCR_TRUST (R422): loads the allow-list. -/
def execScrTrust (h : CmdHdr) (p : List Word) (s : State) : Out := perform (felwin opScrTrust h p) s

def SCR_STATUS.fields : List Fld := [SCR_STATUS.LEVEL, SCR_STATUS.PEERS, SCR_STATUS.RX_BUSY, SCR_STATUS.KEYED, SCR_STATUS.ROLE, SCR_STATUS.STATE]

def opScrStatus : OpDef := ⟨0x0A03, len 0, upStates, fun _ _ _ => okP nop (fun s =>
  [s.word SCR_STATUS.fields] ++ w64 s.scrPeer ++ [s.rd SCR_AFC.ALL, s.scr.mode, s.scr.excl] ++ maskWords s.scr.pages)⟩
/-- SCR_STATUS (R431). -/
def execScrStatus (h : CmdHdr) (p : List Word) (s : State) : Out := perform (felwin opScrStatus h p) s

def opScrPeers : OpDef := ⟨0x0A04, len 0, upStates, fun _ _ _ => okP nop (fun s =>
  ((s.scr.peers.filter (fun p => decide (s.tick < p.heardAt + ticks60))).take 16).flatMap (fun p =>
    w64 p.id ++ [p.level, b2n p.passed, (s.tick - p.heardAt) * 32 / 25000000]))⟩
/-- SCR_PEERS (R431): identifiers heard in the last 60 s with level, identity result and age in ms. -/
def execScrPeers (h : CmdHdr) (p : List Word) (s : State) : Out := perform (felwin opScrPeers h p) s

def opScrRestart : OpDef := ⟨0x0A05, len 0, runStates, fun _ _ _ => okE scrRestart⟩
/-- SCR_RESTART (R431). -/
def execScrRestart (h : CmdHdr) (p : List Word) (s : State) : Out := perform (felwin opScrRestart h p) s

/-- SCR_CTRL_RESTART (R433): a write of 1 to SCR_CTRL.RESTART. -/
def execScrCtrlRestart (m : Mast) (s : State) : Out := perform (byMaster m SCR_CTRL.RESTART 0 scrRestart) s

/-- SCR_CNT_CLR (R433): a write of 1 to SCR_CTRL.CNT_CLR; the sandbox's is ignored (R585). -/
def execScrCntClr (m : Mast) (s : State) : Out := perform (byMaster m SCR_CTRL.CNT_CLR 0 scrCntClr) s

/-- A write of SCR_CTRL.EN; one that R404 forbids sets RANGE. -/
def scrEnWrite (m : Nat) (v : Bool) : Eff := dyn fun s =>
  if !s.scrEdge (b2n v) (s.rd SCR_CFG.FREQ) then flagAcc m SYS_ACC_STAT.RANGE SCR_CTRL.EN.off else setScrEn v
/-- SCR_EN_WRITE (R423). -/
def execScrEnWrite (m : Mast) (v : Bool) (s : State) : Out := perform (byMaster m SCR_CTRL.EN 0 (scrEnWrite m v)) s

/-! ### Reception -/

/-- Whether a header fails R411: HCRC, VER, LEN or TYPE. -/
def headerBad (bs : List Nat) : Bool :=
  decide (bs.length < 24) || hcrc bs != beField bs 22 2 || beField bs 0 1 / 16 != 1 || decide (1024 < beField bs 2 2) ||
  beField bs 1 1 == 0 || decide (10 < beField bs 1 1)

/-- Whether the frequency control finds a packet at correction `afc` kHz (R409). -/
def State.afcOk (s : State) (afc : Int) : Bool :=
  if s.rxLocked then decide ((afc - s.rdI LRX_FREQ_EST.ALL).natAbs ≤ 50000) else decide (afc.natAbs ≤ 3000000)

/-- Whether the tag of a protected packet holds under page 2 (R420): the sender's DIR is the other end's. -/
def State.tagHolds (s : State) (hdr payload : List Nat) : Bool :=
  let c := payload.length - 16
  match s.scrKey with
  | none => false
  | some y => decide (16 ≤ payload.length) &&
      (Config.gcmOpen y.key (nonceWords y.salt (1 - s.rd VNR_PAGE_CFG.DIR 2) (beField hdr 20 2)) hdr (payload.take c) (payload.drop c)).isSome

/-- A packet is received: kept, or discarded and counted by R411, R412 and R420. -/
def takePacket (k : ScrPkt) : Eff := dyn fun s =>
  let bs := packBits (whiten k.bits)
  let len := beField bs 2 2
  let done : Eff := seqE [put SCR_STATUS.RX_BUSY 0, upd (.scr fun c => { c with rx := none })]
  seqE [put SCR_AFC.ALL k.afc.toNat, put SCR_STATUS.LEVEL k.level.toNat, put SCR_STATUS.RX_BUSY 1, upd (.scr fun c => { c with rx := some k.level.toNat }),
    if headerBad bs then seqE [count 265, done]
    else if beField bs 4 8 == s.fuse.devId then seqE [count 269, occurMin EV.SCR_LOOPBACK 0 [k.level.toNat], done]
    else if beField bs 12 8 != s.fuse.devId && beField bs 12 8 != 2 ^ 64 - 1 then done
    else whenE (decide (bs.length < 28 + len) || crc32c (bs.take (24 + len)) != beField bs (24 + len) 4 ||
      (bit (beField bs 0 1) 3 && !s.tagHolds (bs.take 24) ((bs.drop 24).take len))) (seqE [count 266, done])]

/-- SYNC_WORD_DETECT (R409 to R413): a synchronising word is found at a level in −0.5 dBFS. While a packet is received, one not near the
capture margin above it is ignored; one that reaches the margin preempts it; the rest is interference. -/
def execSyncWordDetect (k : ScrPkt) (s : State) : Out := perform (dyn fun s =>
  let m := (s.rd SCR_CFG.CAP_MARGIN : Int)
  if s.scrState = 0 ∨ k.peak.toNat < 20 ∨ s.rd SCR_CFG.SYNC_TOL < (bitsSet 64 (k.word.toNat ^^^ syncWord)).length then nop else
  match s.scr.rx with
  | none => whenE (s.afcOk k.afc.toInt) (takePacket k)
  | some cur =>
    let lead : Int := cur - k.level.toNat
    if !s.afcOk k.afc.toInt || lead < m - 6 then nop
    else if m ≤ lead then seqE [count 267, occur EV.PREEMPTED 0 [1], takePacket k]
    else count 268) s

/-- What a HELLO tells of its sender. -/
def helloPeer (x : ScrHello) (s : State) : ScrPeer :=
  ⟨x.src.toNat, s.tick, s.rd SCR_STATUS.LEVEL, x.chainOk && x.certId == x.src, x.modes.toNat, x.state.toNat, x.locked, x.excl.toNat, x.pages.map (·.toNat), x.hello.map (·.toNat)⟩

/-- An authenticated HELLO in BEACON enters the selection window, or opens it (R419); opening discards the KEX held (R423). -/
def enterWindow (id : Nat) : Eff := dyn fun s =>
  let open' := if s.scr.window then s.scr.cands else []
  let cands := if open'.contains id then open' else open' ++ [id]
  seqE [upd (.scr fun c => { c with window := true, cands := cands, heldKex := if c.window then c.heldKex else [] }), put SCR_STATUS.PEERS (sat 255 cands.length)]

/-- HELLO (R418, R419): the sender's identity is checked; in BEACON it enters the selection window. -/
def execHello (x : ScrHello) (s : State) : Out := perform (fromPeer x.src.toNat x.seq.toNat (dyn fun s =>
  let p := helloPeer x s
  seqE [upd (.scr fun c => { c with peers := (p :: c.peers.filter (fun q => q.id != p.id)).take 64 }),
    if !p.passed then rejectPeer p.id 1 else whenE (s.scrState == 2) (enterWindow p.id)])) s

/-- KEX (R421, R423): used in KEYX and in a rotation, held in BEACON from a peer that has passed R418. -/
def execKex (src : BitVec 64) (seq : BitVec 16) (pub nonce : List Word) (sigOk : Bool) (s : State) : Out := perform (fromPeer src.toNat seq.toNat (dyn fun s =>
  let k : ScrKex := ⟨seq.toNat, pub.map (·.toNat), nonce.map (·.toNat), sigOk⟩
  let id := src.toNat
  if s.scrState = 2 then whenE (((s.heard id).map (·.passed)).getD false) (upd (.scr fun c => { c with heldKex := (id, k) :: c.heldKex.filter (fun h => h.1 != id) }))
  else if s.scrState = 3 ∨ (s.scrState = 7 ∧ s.scr.rot.isSome) then useKex k
  else nop)) s

/-- The reason the follower rejects a proposal (Table 11.3), if it does: 1 MODE, 2 SHAPE, 3 STATE. -/
def State.rejects (s : State) (c : Nat) (shape : Nat) : Option Nat :=
  let r := LTX_SHAPE.ROLLOFF.raw shape
  let k := LTX_SHAPE.KERF.raw shape
  if !bit s.ownModes c || bit s.scr.excl c then some 1
  else if !wordOk LTX_SHAPE.fields shape || !widthOk c 0 r k || !edgeOk c 0 r k (s.rd SCR_CFG.FREQ) then some 2
  else if s.sending || s.ltx.bring != 0 && !s.scr.lighting then some 3
  else none

/-- PROPOSE (R424): the follower answers ACCEPT and goes to KEYING, or REJECT and to HOLD. -/
def execPropose (src : BitVec 64) (seq : BitVec 16) (mode : BitVec 4) (shape : Word) (s : State) : Out := perform (fromPeer src.toNat seq.toNat (dyn fun s =>
  if s.scrState != 4 || s.leads || s.scrPeer != src.toNat then nop else
  match s.rejects mode.toNat shape.toNat with
  | some r => seqE [sendReplyTo seq.toNat 5 (bytesBE 2 seq.toNat ++ [r]), noCommon]
  | none => seqE [upd (.scr fun c => { c with mode := mode.toNat, shape := shape.toNat }), sendReplyTo seq.toNat 4 (bytesBE 2 seq.toNat), enterKeying])) s

/-- Whether the reply of TYPE `typ` to the message with SEQ `q` is awaited. -/
def State.awaits (s : State) (typ q : Nat) : Bool := match s.scr.wait with | some w => w.want == typ && w.seq == q | none => false

/-- ACCEPT (R424, R425): the leader sends the keys. -/
def execAccept (src : BitVec 64) (seq of : BitVec 16) (s : State) : Out := perform (fromPeer src.toNat seq.toNat (dyn fun s =>
  whenE (s.scrState == 4 && s.awaits 4 of.toNat) enterKeying)) s

/-- REJECT (R424): the leader goes to HOLD. -/
def execReject (src : BitVec 64) (seq of : BitVec 16) (_reason : BitVec 8) (s : State) : Out := perform (fromPeer src.toNat seq.toNat (dyn fun s =>
  whenE (s.scrState == 4 && s.awaits 4 of.toNat) (seqE [holdScr]))) s

/-- SCR_AGREED with the pages keyed (R434). -/
def agreed (ps : List Nat) : Eff := dyn fun s => seqE [upd (.scr fun c => { c with pages := ps }), raise EV.SCR_AGREED ([s.scr.mode, s.scr.shape] ++ maskWords ps)]

/-- LIVE is entered (R427, R429). -/
def enterLive : Eff := dyn fun s => seqE [setScr 7, stopWait, raise EV.SCR_LIVE [s.txMode, (s.tick - s.scr.leftAt) * 32 / 25000000]]

/-- The keys of a KEYS message that the follower's Keeper places (R422, R425). -/
def State.takeable (s : State) (ks : List ScrKey) : List ScrKey := ks.filter (fun k => (s.scrPages).contains k.page.toNat && decide (k.slot.toNat < 2))

/-- KEYS (R425, R429, R430): the follower places the keys and answers KEYS_ACK with the pages loaded. -/
def execKeys (src : BitVec 64) (seq : BitVec 16) (ks : List ScrKey) (s : State) : Out := perform (fromPeer src.toNat seq.toNat (dyn fun s =>
  let good := s.takeable ks
  let ps := good.map (fun k => k.page.toNat)
  if s.leads || s.scrPeer != src.toNat || (s.scrState != 5 && !(s.scrState == 7 && s.scr.rot.isSome)) then nop
  else seqE [forE good (fun k => scrPlace k.page.toNat k.slot.toNat (k.key.map (·.toNat)) k.salt.toNat), sendReplyTo seq.toNat 7 (bytesBE 2 seq.toNat ++ ps),
    dyn fun t => upd (.scr fun c => { c with ackSeq := t.scr.seq }), scrSwitch ps,
    if s.scrState = 7 then upd (.scr fun c => { c with rot := none })
    else seqE [agreed ps, whenE (!s.on SCR_CTRL.NEG) enterLive]])) s

/-- KEYS_ACK (R425, R429, R430): the leader erases its copy of the pages not loaded, and sends GO, goes LIVE, or ends the rotation. -/
def execKeysAck (src : BitVec 64) (seq of : BitVec 16) (pages : List (BitVec 8)) (s : State) : Out := perform (fromPeer src.toNat seq.toNat (dyn fun s =>
  let ps := pages.map (·.toNat)
  let kept := (s.scr.keysOut.map (·.1)).filter ps.contains
  if !s.awaits 7 of.toNat || !s.leads then nop
  else seqE [stopWait, forE (s.scr.keysOut.filter (fun k => !ps.contains k.1)) (fun k => eraseSlot k.1 k.2), scrSwitch kept,
    if s.scrState = 7 then upd (.scr fun c => { c with rot := none })
    else seqE [agreed kept, if s.on SCR_CTRL.NEG then seqE [sendScr 8 (bytesBE 2 seq.toNat), upd (.scr fun c => { c with goDue := true })] else enterLive]])) s

/-! ### Going live -/

/-- The go-live steps of R426: the beacon goes dark, mode, shape and plan 0 are set at both ends of the line, TX_OUT lights and the receiver
is enabled. -/
def goLive : Eff := dyn fun s => seqE [
  whenE (s.lit || s.ltx.bring != 0) (goDark 1),
  setTxMode s.scr.mode 0, loadPlan0, putWord LTX_SHAPE.fields s.scr.shape, setRxEn false, setRxMode s.scr.mode 0, emptyTable, putWord LRX_SHAPE.fields s.scr.shape,
  setScr 6, stopWait, upd (.scr fun c => { c with goDue := false }),
  dyn fun t => whenE t.canLight (seqE [startBring none, upd (.scr fun c => { c with litBy := true })]),
  dyn fun t => whenE (!t.rxRefused) (setRxEn true)]

/-- GO (R426): the follower starts on receipt, and does not answer. -/
def execGo (src : BitVec 64) (seq of : BitVec 16) (s : State) : Out := perform (fromPeer src.toNat seq.toNat (dyn fun s =>
  whenE (s.scrState == 5 && !s.leads && s.scrPeer == src.toNat && s.scr.ackSeq == of.toNat && s.on SCR_CTRL.NEG) goLive)) s

/-- GO_SENT (R426): the leader starts at the end of its GO transmission. -/
def execGoSent (s : State) : Out := perform (dyn fun s => whenE s.scr.goDue goLive) s

/-- Whether the line is in service: superframes sent, the receiver LOCKED, Dovetail IN_FRAME with no LOS, LOSF or LOF (R427). -/
def State.lineUp (s : State) : Bool := s.rxLocked && s.inFrame && !(List.range 4).any (fun c => decide (1 ≤ c) && s.defect c 0)

/-- SCR_LIVE (R427): LOCKED and in frame have held together for 3 ms. -/
def execScrLive (s : State) : Out := perform (dyn fun s => whenE (s.scrState == 6 && s.lineUp) enterLive) s

/-- GO_LIVE_TIMEOUT (R427): TX_OUT goes dark, the mode is excluded, and BEACON resumes with the peer kept. -/
def execGoLiveTimeout (s : State) : Out := perform (dyn fun s =>
  whenE (s.scrState == 6) (seqE [goDark 1, upd (.scr fun c => { c with excl := setBit c.excl c.mode }), raise EV.SCR_FALLBACK [s.scr.mode, 1], backToBeacon true])) s

/-- The mode is given up (R428): TX_OUT goes dark, the mode is excluded, and negotiation goes on from PROPOSE. -/
def renegotiate (c : Nat) : Eff := seqE [goDark 1, upd (.scr fun x => { x with excl := setBit x.excl c }), enterPropose]

/-- RELOCK_TIMEOUT (R428): an end's receiver has not been LOCKED for the relock timeout. -/
def execRelockTimeout (s : State) : Out := perform (dyn fun s =>
  let far := ((s.heard s.scrPeer).map (·.locked)).getD true
  if s.scrState != 7 || (s.rxLocked && far) then nop
  else if !s.on SCR_CTRL.AUTO_RENEG then raise EV.SCR_FALLBACK [s.scr.mode, 2]
  else whenE s.leads (seqE [sendScr 9 [s.scr.mode], raise EV.SCR_FALLBACK [s.scr.mode, 2], renegotiate s.scr.mode])) s

/-- RENEG (R428): the follower darkens TX_OUT, excludes the mode and waits for a proposal. -/
def execReneg (src : BitVec 64) (seq : BitVec 16) (mode : BitVec 4) (s : State) : Out := perform (fromPeer src.toNat seq.toNat (dyn fun s =>
  whenE (s.scrState == 7 && !s.leads && s.scrPeer == src.toNat) (renegotiate mode.toNat))) s

/-- PEER_HELLO_LOST (R423, Table 11.4): in LIVE the peer's HELLO is missing for 10 s. -/
def execPeerHelloLost (s : State) : Out := perform (dyn fun s => whenE (s.scrState == 7) (backToBeacon false)) s

/-! ### Timers -/

/-- HOLD_OFF_END (R414): the hold-off after READY ends. -/
def execHoldOffEnd (s : State) : Out := perform (dyn fun s =>
  whenE (s.dev != 0) (seqE [upd (.scr fun c => { c with free := true }), whenE (s.scrState == 1) (setScr 2)])) s

/-- HELLO_TIMER (R415): a HELLO falls due in BEACON and LIVE. -/
def execHelloTimer (s : State) : Out := perform (dyn fun s => whenE (s.scrState == 2 || s.scrState == 7) (sendScr 1 s.helloBytes)) s

/-- BEACON_LIGHT (R407): in BEACON, with its conditions met, Scribe lights TX_OUT by steps 1 to 4 of Table 2.8. -/
def execBeaconLight (s : State) : Out := perform (dyn fun s =>
  whenE (s.scrState == 2 && s.scrSends && s.powered 1 && (s.on LTX_LAS_STAT.TUNED 0 || s.txPresent) && s.calOk [4, 5, 6] && !s.lit && s.ltx.bring == 0)
    (seqE [upd (.scr fun c => { c with lighting := true }), upd (.ltx fun x => { x with bring := 1, outRun := none }), startSweep])) s

/-- SELECTION_WINDOW_END (R419): a lone authenticated peer, or the pinned one, is selected; of two or more none is. In lifecycle RETURN
no keys are agreed (Table 18.9), so none is selected. -/
def execSelectionWindowEnd (s : State) : Out := perform (dyn fun s =>
  let cands := s.scr.cands
  if !s.scr.window || s.scrState != 2 then nop
  else seqE [upd (.scr fun c => { c with window := false, cands := [] }),
    if s.lifecycle == 3 then nop
    else if s.on SCR_CTRL.PIN then whenE (cands.contains (s.rd SCR_PEER_ID.ALL)) (selectPeer (s.rd SCR_PEER_ID.ALL))
    else match cands with
      | [id] => selectPeer id
      | _ => raise EV.SCR_MULTI_PEER (w64 (cands.getLastD 0) ++ [sat 255 cands.length])]) s

/-- Retries or time are used up (R416): SCR_TIMEOUT and HOLD; a rotation that fails so raises KEY_AGE (R380). -/
def scrTimeout : Eff := dyn fun s => seqE [raise EV.SCR_TIMEOUT [s.scrState, (s.scr.wait.map (·.want)).getD 0],
  (match s.scr.rot with
   | some g => seqE [upd (.scr fun c => { c with rot := none }), raise EV.KEY_AGE [g, s.rd VNR_PAGE_STAT.TX_KP g, s.rd (genFld (s.rd VNR_PAGE_STAT.TX_KP g)) g, 0]]
   | none => nop),
  holdScr]

/-- SCR_REPLY_TIMEOUT (R416): the message is sent again with the same SEQ, or after RETRIES resends HOLD is entered. -/
def execScrReplyTimeout (s : State) : Out := perform (dyn fun s =>
  match s.scr.wait with
  | none => nop
  | some w => if w.tries < s.rd SCR_TIMERS.RETRIES
    then seqE [sendPacket w.typ w.seq w.body, upd (.scr fun c => { c with wait := some { w with tries := w.tries + 1 } })]
    else scrTimeout) s

/-- NEG_TIMEOUT (R416): negotiation has not reached GOING in time. -/
def execNegTimeout (s : State) : Out := perform (dyn fun s => whenE (decide (3 ≤ s.scrState ∧ s.scrState ≤ 5)) (seqE [scrTimeout])) s

/-- SCR_HOLD_END (R417): HOLD ends in LIVE where the line is still in service, else in BEACON. -/
def execScrHoldEnd (s : State) : Out := perform (dyn fun s =>
  if s.scrState != 8 then nop else if s.sending && s.lineUp && s.scrPeer != 0 then setScr 7 else backToBeacon false) s

/-! ### Rotation -/

/-- A rotation of page `g` starts: both ends exchange KEX afresh (R430). -/
def startRotation (g : Nat) : Eff := seqE [dyn fun s => upd (.scr fun c => { c with rot := some g, kexIn := false, rotAt := Tab.set none c.rotAt g (some s.tick) }), sendKex none]

/-- Whether page `g` was rotated within the last 60 s (R430). -/
def State.rotatedNow (s : State) (g : Nat) : Bool := match Tab.get none s.scr.rotAt g with | some t => decide (s.tick < t + ticks60) | none => false

/-- ROTATE (R430): the far end's rotation timer has expired. -/
def execRotate (src : BitVec 64) (seq : BitVec 16) (page : BitVec 8) (s : State) : Out := perform (fromPeer src.toNat seq.toNat (dyn fun s =>
  whenE (s.scrState == 7 && s.scrPeer == src.toNat && s.scrPages.contains page.toNat && s.scr.rot.isNone) (startRotation page.toNat))) s

/-- KEY_ROTATION_TIMER (R380, R430): a page's rotation period ends; where no agreement can start, it has failed. -/
def execKeyRotationTimer (p : Fin 72) (s : State) : Out := perform (dyn fun s =>
  let g := p.val
  let k := s.rd VNR_PAGE_STAT.TX_KP g
  if s.rd VNR_PAGE_ROT.PERIOD g = 0 ∨ s.rotatedNow g = true then nop
  else if s.scrState == 7 && s.scrPages.contains g && s.scr.rot.isNone then seqE [sendScr 10 [g], startRotation g]
  else raise EV.KEY_AGE [g, k, s.rd (genFld k) g, 0]) s

end Sys2Proof.Machine
end

