-- ==== Sys2Proof/Machine/Security.lean ====
section
/-!
DEFINITION. The Keeper: boot (R646 to R652), resets and wipe (R661, R663), identity and attestation (R653 to R656), lifecycle (R657 to R660),
integrity (R662).
-/
namespace Sys2Proof.Machine
open Sys2Proof

/-! ### Status and attestation -/

/-- Whether internal debug is open as the lifecycle gives it (Table 18.9). -/
def State.debugOpen (s : State) : Bool := s.lifecycle == 0

/-- SEC_STATUS (Table 18.16). -/
def State.secWord (s : State) : Nat :=
  s.lifecycle * 2 ^ 29 + s.rd SEC_STATUS.FALLBACK * 2 ^ 28 + b2n s.fuse.custKey.isSome * 2 ^ 27 + b2n s.debugOpen * 2 ^ 26 +
  s.rd SEC_STATUS.KEEPER_ALARM * 2 ^ 25 + s.rd SEC_STATUS.DRBG_OK * 2 ^ 24 + min 64 s.fuse.kCnt * 2 ^ 17 + min 64 s.fuse.eCnt * 2 ^ 10 + s.rd SEC_STATUS.BANK * 2 ^ 9

def SEC_RESET_CAUSE.fields : List Fld := [SEC_RESET_CAUSE.BOOTS, SEC_RESET_CAUSE.CAUSE]

/-- The fused customer code key digest, or zeros. -/
def State.custDigest (s : State) : List Nat := (List.range 12).map (fun i => nth (s.fuse.custKey.getD []) i)

def opSecStatus : OpDef := ⟨0x1101, len 0, upStates, fun _ _ _ => okP nop (fun s =>
  [s.secWord, s.word SEC_RESET_CAUSE.fields] ++ (List.range 12).map (fun i => nth Config.fwKeyDigest i) ++ s.custDigest)⟩
/-- SEC_STATUS (R671). -/
def execSecStatus (h : CmdHdr) (p : List Word) (s : State) : Out := perform (felwin opSecStatus h p) s

def opSecCerts : OpDef := ⟨0x1102, len 0, upStates, fun _ _ _ => okP nop (fun s => [1, 2, 3, 4].flatMap s.certWords)⟩
/-- SEC_CERTS (R653, R654). -/
def execSecCerts (h : CmdHdr) (p : List Word) (s : State) : Out := perform (felwin opSecCerts h p) s

/-- SHA-384 of an image header as twelve words; zeros where there is no image. -/
def hdrSha (h : List Nat) : List Nat := if h.isEmpty then List.replicate 12 0 else (List.range 12).map (fun i => nth (Config.sha384 h) i)

/-- The engine image header a report names: while an update runs that of the image being activated (Table 18.8). -/
def State.engHdr (s : State) : List Nat := if s.eng.update.isSome then (s.eng.staged.map (·.hdr)).getD [] else s.eng.running

/-- The flags of bytes 54 and 55 of a report; ENGINE_PENDING is read as no engine image being in force yet. -/
def State.attFlags (s : State) : Nat :=
  s.rd SEC_STATUS.FALLBACK + 2 * b2n s.sec.bootFail + 4 * b2n s.debugOpen + 8 * b2n s.fuse.custKey.isSome + 16 * b2n s.sec.sbxHdr.isSome +
  32 * b2n s.eng.update.isSome + 64 * b2n s.eng.running.isEmpty + 128 * b2n (!s.sec.akReady)

/-- Words 0 to 63 of the report of Table 18.8. -/
def State.reportWords (s : State) (nonce : List Nat) : List Nat :=
  [1 + 256 * s.lifecycle + 65536 * s.fuse.part.code] ++ w64 s.fuse.devId ++ (List.range 8).map (nth nonce) ++
  [s.rd SEC_RESET_CAUSE.BOOTS, s.rd SEC_RESET_CAUSE.CAUSE + 256 * s.rd SEC_STATUS.BANK + 65536 * hdrSvn s.sec.keeper + 16777216 * hdrSvn s.engHdr,
   min 64 s.fuse.kCnt + 256 * min 64 s.fuse.eCnt + 65536 * s.attFlags, hdrVersion s.sec.keeper, hdrVersion s.engHdr] ++
  hdrSha s.sec.keeper ++ hdrSha s.engHdr ++ hdrSha (s.sec.sbxHdr.getD []) ++ s.custDigest

/-- AK, the attestation key (Table 18.6), among the model's key numbers. -/
def keyAK : Nat := 2

/-- The 24 words of a signature made now over words. -/
def State.sign (s : State) (key : Nat) (ws : List Nat) : List Nat := (List.range 24).map (fun i => Config.ecdsaSign key (Config.sha384 ws) s.draws i)

def opAttest : OpDef := ⟨0x1103, len 8, 0 :: upStates, fun _ p s =>
  let ws := s.reportWords p
  okP drawn (fun _ => ws ++ s.sign (if s.sec.akReady then keyAK else keyIDK) ws)⟩
/-- ATTEST (R656). -/
def execAttest (h : CmdHdr) (p : List Word) (s : State) : Out := perform (felwin opAttest h p) s

/-! ### Session keys -/

def opSecSessionKey : OpDef := ⟨0x1104, len 26, runStates, fun _ p s =>
  let n := nth p 0
  let e := s.free 49
  let dev := (List.range 25).map (fun i => nth (Config.pubKey e) i % 2 ^ 32)
  let fixed := w64 s.fuse.devId ++ [n] ++ p.drop 1 ++ dev
  if !(n == 0 || s.cmd.sessions.contains n) then no .badParam
  else okP (seqE [drawn, upd (.sec fun x => { x with keys := Tab.set [] x.keys n ((Config.sha384 ([1] ++ Config.ecdh e (p.drop 1) ++ fixed)).take 8) }),
    raise EV.SESSION_KEYED [n]]) (fun _ => dev ++ s.sign keyIDK fixed)⟩
/-- SEC_SESSION_KEY (R655). -/
def execSecSessionKey (h : CmdHdr) (p : List Word) (s : State) : Out := perform (felwin opSecSessionKey h p) s

/-! ### Lifecycle -/

def opSecNonce : OpDef := ⟨0x1105, len 0, [1, 2, 4, 5], fun _ _ s =>
  let n := (List.range 8).map (fun i => s.free (50 + i) % 2 ^ 32)
  okP (seqE [drawn, upd (.sec fun x => { x with nonce := some n })]) (fun _ => n)⟩
/-- SEC_NONCE (R658). -/
def execSecNonce (h : CmdHdr) (p : List Word) (s : State) : Out := perform (felwin opSecNonce h p) s

/-- Whether R660 holds a reset, a lifecycle change or a power state back: the unit is ACTIVE and its mate STANDBY or STALE. -/
def State.mustMove (s : State) : Bool := s.paired && s.role == 1 && s.mateReady

/-- Whether the token authorises RETURN (R658): signed by the customer code key, or by the Salhorn firmware key where none is fused. -/
def State.tokenOk (s : State) (sig : List Nat) : Bool :=
  match s.sec.nonce with
  | none => false
  | some n => Config.ecdsaOk (keyOf (s.fuse.custKey.getD Config.fwKeyDigest)) (Config.sha384 (w64 s.fuse.devId ++ n ++ [3])) sig

/-- Whether the change to `target` is one of Table 18.10 and authorised. -/
def State.lifeOk (s : State) (target : Nat) (auth : List Nat) : Bool :=
  let isId := auth.length == 2 && nth auth 0 + nth auth 1 * 2 ^ 32 == s.fuse.devId
  match target with
  | 2 => s.lifecycle == 1 && isId
  | 3 => (s.lifecycle == 1 || s.lifecycle == 2) && auth.length == 24 && s.tokenOk auth
  | 4 => decide (s.lifecycle < 4) && isId
  | _ => false

def opSecLifecycle : OpDef := ⟨0x1106, fun k => k == 3 || k == 25, [1, 2, 4, 5], fun _ p s =>
  let used : Eff := whenE (p.length == 25) (upd (.sec fun x => { x with nonce := none }))
  if s.mustMove || !s.fuseOk then no .state
  else if !s.lifeOk (nth p 0) (p.drop 1) then { status := .lifecycle, eff := used }
  else okE (seqE [used, raise EV.LIFECYCLE_SET [s.lifecycle, nth p 0],
    upd (.fuse fun f => if nth p 0 = 4 then { f with secretGone := true, life := 5 } else { f with life := nth p 0 }),
    upd (.sec fun x => { x with resetDue := some 3 })])⟩
/-- SEC_LIFECYCLE (R657 to R660). -/
def execSecLifecycle (h : CmdHdr) (p : List Word) (s : State) : Out := perform (felwin opSecLifecycle h p) s

def opSecCustkey : OpDef := ⟨0x1107, len 25, [1, 2, 4], fun _ p s =>
  let d := (List.range 12).map (fun i => nth (Config.sha384 (p.take 24 ++ [nth p 24 % 256])) i)
  if s.lifecycle != 1 || s.fuse.custKey.isSome then no .lifecycle
  else if !s.fuseOk then no .state
  else okP (upd (.fuse fun f => { f with custKey := some d })) (fun _ => d)⟩
/-- SEC_CUSTKEY (R671): fuses the customer code key's digest, once. -/
def execSecCustkey (h : CmdHdr) (p : List Word) (s : State) : Out := perform (felwin opSecCustkey h p) s

/-! ### Resets -/

def opSecReset : OpDef := ⟨0x1108, len 0, upStates, fun _ _ s => if s.mustMove then no .state else okE (upd (.sec fun x => { x with resetDue := some 2 }))⟩
/-- SEC_RESET (R660, R663). -/
def execSecReset (h : CmdHdr) (p : List Word) (s : State) : Out := perform (felwin opSecReset h p) s

/-- A fuse row being written is left as far as it has come (R209): how far the spec does not say. -/
def cutFuseRow : Eff := dyn fun s =>
  match s.cnv.commit.bind (·.cur) with
  | none => nop
  | some w => seqE [drawn, upd (.fuse fun f => { f with rows := Tab.set [] f.rows (rowKey w.set w.row) (cutRow w (s.free 26 % (setLen w.set + 8)) (s.free 27)) })]

/-- The pins a reset releases. -/
def dropPins : Eff := dyn fun s => seqE [
  whenE (s.pair.sel0 || s.pair.sel1) (setSel false false),
  forE ((List.range 2).filter (fun p => s.on LTX_LAS_CTRL.EN p)) (fun p => emit (.pin (pinLasEn p) 0)),
  whenE (s.on PWR_STATUS.TRIP) (emit (.pin pinTrip 1))]

/-- Everything but fuses, flash and what the outside has of the block goes to its reset value and is wiped (R661, R663); `aon` is whether
the AON registers go as well. -/
def clearAll (aon : Bool) : Eff := seqE [
  cutFuseRow, dropPins,
  fun _ => if aon then [.clearRegs 0 0x2000000] else [.clearRegs 0 0x1000004, .clearRegs 0x1000008 0x1100004, .clearRegs 0x1100008 0x1100100, .clearRegs 0x1100110 0x2000000],
  fun _ => [.clearCnts 0 4096, .clearTime, .sys fun _ => {}, .obs fun _ => {}, .cmd fun _ => {}, .eng fun _ => {}, .tod fun _ => {}, .pair fun _ => {}],
  fun _ => [.sec fun x => { flash := x.flash }, .pwr fun x => { temps := x.temps, tj := x.tj }],
  fun _ => [.ltx fun _ => {}, .lrx fun _ => {}, .adapt fun _ => {}, .cnv fun _ => {}, .fec fun _ => {}, .frm fun _ => {}, .cli fun _ => {}, .vnr fun _ => {}],
  fun _ => [.srd fun _ => {}, .scr fun _ => {}, .ref fun _ => {}, .mon fun _ => {}]]

/-- A reset of Table 18.11 other than power-on: the AON registers stand, the boot counts, and Table 18.5 runs from step 1. -/
def deviceReset (cause : Nat) : Eff := seqE [clearAll false, bump SEC_RESET_CAUSE.BOOTS, put SEC_RESET_CAUSE.CAUSE cause, upd (.sec fun x => { x with boot := 1 })]

/-- LIFECYCLE_RESET (R659): 10 ms after an accepted lifecycle change. -/
def execLifecycleReset (s : State) : Out := perform (dyn fun s => whenE (s.sec.resetDue == some 3) (deviceReset 3)) s

/-- DEVICE_RESET (R663): 10 ms after the reply to SEC_RESET. -/
def execDeviceReset (s : State) : Out := perform (dyn fun s => whenE (s.sec.resetDue == some 2) (deviceReset 2)) s

/-- POWER_ON_RESET (R663): PORST_N low for 1 ms, or VDD_AON below its limit. -/
def execPowerOnReset (s : State) : Out := perform (clearAll true) s

/-- DEBUG_RESET (R663): a JTAG system reset, in BLANK, or in RETURN with debug open by a Salhorn unlock token. -/
def execDebugReset (unlocked : Bool) (s : State) : Out := perform (dyn fun s =>
  whenE (s.lifecycle == 0 || (s.lifecycle == 3 && unlocked)) (deviceReset 5)) s

/-- WAKE (R668): in PS4, WAKE_N low for 10 µs or an electrical idle exit on the PCIe lanes. -/
def execWake (s : State) : Out := perform (dyn fun s => whenE (s.rd PWR_STATUS.STATE == 4) (deviceReset 4)) s

/-! ### Boot -/

/-- PORST_RELEASE (R651, step 1). -/
def execPorstRelease (s : State) : Out := perform (dyn fun s => whenE (s.sec.boot == 0) (upd (.sec fun x => { x with boot := 1 }))) s

/-- FUSE_READ_DONE (R206; Table 18.5, step 2). -/
def execFuseReadDone (s : State) : Out := perform (dyn fun s => whenE (s.sec.boot == 1) (seqE [loadFuses, upd (.sec fun x => { x with boot := 2 })])) s

/-- An image of a bank verified: nothing where it passes, else the order of the failing check; no image fails the first. -/
def State.imageFails (s : State) (bank typ : Nat) : Option Nat :=
  match (if typ = 1 then s.sec.flash.keeper bank else s.sec.flash.engine bank) with
  | none => some 1
  | some im => (s.verify typ im).map (·.1)

/-- Whether both images of a bank pass. -/
def State.bankOk (s : State) (bank : Nat) : Bool := (s.imageFails bank 1).isNone && (s.imageFails bank 2).isNone

/-- The header of the Keeper image of a bank. -/
def State.keeperHdr (s : State) (bank : Nat) : List Nat := ((s.sec.flash.keeper bank).map (·.hdr)).getD []

/-- The Keeper of `bank` runs, and the boot responder answers (Table 18.5, steps 4 and 7). -/
def runKeeper (bank : Nat) : Eff := dyn fun s => seqE [put SEC_STATUS.BANK bank, put CMD_STATUS.RING_OK 1,
  upd (.sec fun x => { x with boot := 3, keeper := s.keeperHdr bank })]

/-- The boot bank fails with an image of type `typ` (R652): the other bank boots where it passes; else the device stays in BOOT with the boot
responder running. -/
def fallBack (bank typ order : Nat) : Eff := dyn fun s =>
  if s.bankOk (1 - bank) && !s.on SEC_STATUS.FALLBACK then seqE [put SEC_STATUS.FALLBACK 1, raise EV.BOOT_FALLBACK [bank, typ, order], runKeeper (1 - bank)]
  else seqE [put CMD_STATUS.RING_OK 1, upd (.sec fun x => { x with bootFail := true })]

/-- The bank the boot record names (R647). With no valid copy the spec names none: bank A. -/
def State.bootBank (s : State) : Nat := match s.sec.flash.bootRec with | some (_, b, _) => b % 2 | none => 0

/-- KEEPER_BOOT (R647, R649, R652; Table 18.5, step 4). -/
def execKeeperBoot (s : State) : Out := perform (dyn fun s =>
  if s.sec.boot != 2 || s.sec.bootFail then nop
  else seqE [put ENG_FW_STAT.BANK s.bootBank,
    match s.imageFails s.bootBank 1 with
    | none => runKeeper s.bootBank
    | some n => fallBack s.bootBank 1 n]) s

/-- The engine image of `bank` runs on clusters 0 to 6; after both images of the boot bank have verified, the counters rise to their SVNs
(R650). -/
def loadEngines (bank : Nat) : Eff := dyn fun s =>
  let h := ((s.sec.flash.engine bank).map (·.hdr)).getD []
  seqE [upd (.eng fun g => { g with running := h }), upd (.sec fun x => { x with boot := 4 }), forE (List.range 56) (fun e => put ENG_CORE.IMAGE bank e),
    whenE (!s.on SEC_STATUS.FALLBACK) (seqE [raiseCounter 1 (hdrSvn s.sec.keeper), raiseCounter 2 (hdrSvn h)])]

/-- ENGINE_IMAGE_LOADED (R651, R652; Table 18.5, step 8). -/
def execEngineImageLoaded (s : State) : Out := perform (dyn fun s =>
  let bank := s.rd SEC_STATUS.BANK
  if s.sec.boot != 3 || s.sec.bootFail then nop
  else match s.imageFails bank 2 with
  | none => loadEngines bank
  | some n => seqE [fallBack bank 2 n, dyn fun s => whenE (!s.sec.bootFail) (loadEngines (1 - bank))]) s

/-- The tasks at READY (R35): every engine of clusters 0 to 6 but the spares runs its own. -/
def placeTasks : Eff := forE ((List.range 56).filter (fun e => e % 8 != 7)) (fun e => put ENG_CORE.TASK e e)

/-- BOOT_READY (R35, R645, R651; Table 18.5, steps 9 and 10): the remaining islands are released with their clocks locked, the DRBG runs, the
Keeper keys pages 0 to 3, the tasks are placed, the references start, and the state is READY. -/
def execBootReady (s : State) : Out := perform (dyn fun s => whenE (s.sec.boot == 4 && s.dev == 0) (seqE [
  put SEC_STATUS.DRBG_OK 1, put VNR_STATUS.RNG_OK 1, upd (.sec fun x => { x with boot := 5, akReady := true, certNo := s.draws }), drawn,
  upd (.ltx fun x => { x with synthLocked := true }), keyPrivileged, placeTasks, refStart, setDev 1])) s

/-- SVN_RETRY (R650): every 60 s. -/
def execSvnRetry (s : State) : Out := perform (dyn fun s => whenE (!s.on SEC_STATUS.KEEPER_ALARM) (seqE [
  upd (.sec fun x => { x with svnDue := [] }), forE s.sec.svnDue (fun d => raiseCounter d.1 d.2)])) s

/-- KEEPER_ALARM (R662): a lockstep mismatch, or the Keeper's watchdog. Every slot is zeroised with the effects of R393. -/
def execKeeperAlarm (watchdog : Bool) (s : State) : Out := perform (dyn fun s => whenE (!s.on SEC_STATUS.KEEPER_ALARM) (seqE [
  put SEC_STATUS.KEEPER_ALARM 1, eraseAll, put VNR_STATUS.ERASED 1, raise EV.KEY_ERASED [2, s.rd VNR_STATUS.SENSOR],
  raise EV.KEEPER_ALARM [if watchdog then 2 else 1], enterFault 2 1])) s

end Sys2Proof.Machine
end

