-- ==== Sys2Proof/Machine/Power.lean ====
section
/-!
DEFINITION. Power states (R664 to R668), thermal limits and PWM outputs (R669, R670).
-/
namespace Sys2Proof.Machine
open Sys2Proof

/-! ### Power states -/

/-- What leaving power state `old` for its neighbour `new` does (Table 18.13). -/
def powerEffect (old new : Nat) : Eff := dyn fun s =>
  match old, new with
  | 1, 2 => seqE [upd (.pwr fun x => { x with txWas := s.sending, rxWas := s.on LRX_CTRL.RX_EN }), goDark 4, setRxEn false]
  | 2, 1 => seqE [whenE s.pwr.rxWas (setRxEn true), whenE (s.pwr.txWas && s.canLight) (startBring none)]
  | 2, 3 => seqE [
      forE (List.range 16) (fun n => seqE [put SRD_LANE_STAT.STATE 0 n, put SRD_LANE_STAT.SYNC 0 n, put SRD_LANE_STAT.SIG 0 n, laneIngress n]),
      forE [false, true] (fun soft => dyn fun s => whenE (s.rd (capState soft) == 1 || s.rd (capState soft) == 2)
        (seqE [put (capState soft) 0, put (if soft then OBS_CAP_CFG.SOFT_EN else OBS_CAP_CFG.RAW_EN) 0]))]
  | 3, 2 => forE (List.range 16) (fun n => dyn fun s => if (s.chanOf n).isSome then startTraining n else put SRD_LANE_STAT.STATE 1 n)
  | 3, 4 => seqE [eraseAll, endSessions, put TOD_STATUS.VALID 0, dropLoaded]
  | _, _ => nop

/-- The next state on the way from `a` to `b` (R666). -/
def towards (a b : Nat) : Nat := if a < b then a + 1 else if b < a then a - 1 else a

/-- One transition is made: its effect in the state it leaves, and PWR_STATE once the next is reached. -/
def powerMove (new ms : Nat) : Eff := dyn fun s =>
  let old := s.rd PWR_STATUS.STATE
  if new < old then seqE [put PWR_STATUS.STATE new, powerEffect old new, raise EV.PWR_STATE [old, new, ms]]
  else seqE [powerEffect old new, put PWR_STATUS.STATE new, raise EV.PWR_STATE [old, new, ms]]

/-- The device states a target is legal from (Table 18.12). -/
def powerLegal (target : Nat) : List Nat := if target ≤ 1 then [2, 3, 4] else [2, 4, 5]

def opPwrStateSet : OpDef := ⟨0x1201, len 1, [2, 3, 4, 5], fun h p s =>
  let r := runOf h 0x1201 p
  if 4 < nth p 0 then no .badParam
  else if !(powerLegal (nth p 0)).contains s.dev || (2 ≤ nth p 0 && s.mustMove) then no .state
  else if s.on PWR_STATUS.BUSY then no .busy
  else if nth p 0 = s.rd PWR_STATUS.STATE then pendThen (finish r .ok [nth p 0])
  else pendE (seqE [put PWR_STATUS.BUSY 1, put PWR_STATUS.TARGET (nth p 0), upd (.pwr fun x => { x with run := some r, origin := s.rd PWR_STATUS.STATE })])⟩
/-- PWR_STATE_SET (R660, R664, R666). -/
def execPwrStateSet (h : CmdHdr) (p : List Word) (s : State) : Out := perform (felwin opPwrStateSet h p) s

/-- PWR_TRANSITION_DONE (R666): the next transition towards the target completes, `ms` after its start; at the target the final reply goes
out. -/
def execPwrTransitionDone (ms : Nat) (s : State) : Out := perform (dyn fun s =>
  match s.pwr.run with
  | none => nop
  | some r =>
    let new := towards (s.rd PWR_STATUS.STATE) (s.rd PWR_STATUS.TARGET)
    if new = s.rd PWR_STATUS.TARGET then seqE [put PWR_STATUS.BUSY 0, upd (.pwr fun x => { x with run := none }), finish r .ok [new], powerMove new ms]
    else powerMove new ms) s

/-- A transition that is given up goes back to the state it started from (R623). -/
def powerBack : Eff := dyn fun s =>
  let o := s.pwr.origin
  seqE [put PWR_STATUS.BUSY 0, put PWR_STATUS.TARGET o, upd (.pwr fun x => { x with run := none }),
    forE (List.range 4) (fun _ => dyn fun s => whenE (s.rd PWR_STATUS.STATE != o) (powerMove (towards (s.rd PWR_STATUS.STATE) o) 0))]

/-! ### Thermal limits -/

def PWR_STATUS.fields : List Fld := [PWR_STATUS.TJ, PWR_STATUS.TRIP, PWR_STATUS.WARN, PWR_STATUS.TARGET, PWR_STATUS.BUSY, PWR_STATUS.STATE]
def PWR_THERM_CFG.fields : List Fld := [PWR_THERM_CFG.WARN, PWR_THERM_CFG.CRIT, PWR_THERM_CFG.HYST]
def PWR_PWM.fields : List Fld := [PWR_PWM.FREQ, PWR_PWM.DUTY]

def opPwrStatus : OpDef := ⟨0x1202, len 0, upStates, fun _ _ _ => okP nop (fun s =>
  s.word PWR_STATUS.fields :: (List.range 22).map (fun i => w32 (s.pwr.temps.getD i 0)))⟩
/-- PWR_STATUS (R671): the state, and Tj of each of the 22 sensors. -/
def execPwrStatus (h : CmdHdr) (p : List Word) (s : State) : Out := perform (felwin opPwrStatus h p) s

/-- Whether a PWR_THERM_CFG word has its critical threshold above its warning threshold (R669). -/
def thermOk (w : Nat) : Bool := decide (PWR_THERM_CFG.WARN.raw w < PWR_THERM_CFG.CRIT.raw w)

def opPwrCfg : OpDef := ⟨0x1203, len 5, upStates, fun _ p _ =>
  if !wordOk PWR_THERM_CFG.fields (nth p 0) || !thermOk (nth p 0) || !(List.range 4).all (fun n => wordOk PWR_PWM.fields (nth p (1 + n))) then no .range
  else okE (seqE [putWord PWR_THERM_CFG.fields (nth p 0), forE (List.range 4) (fun n => putWord PWR_PWM.fields (nth p (1 + n)) n)])⟩
/-- PWR_CFG (R669 to R671). -/
def execPwrCfg (h : CmdHdr) (p : List Word) (s : State) : Out := perform (felwin opPwrCfg h p) s

/-- The highest of the temperatures, and the first sensor that shows it. -/
def hottest : List Int → Int × Nat
  | [] => (0, 0)
  | t :: ts => ((t :: ts).foldl max t, ((t :: ts).findIdx (fun x => x == (t :: ts).foldl max t)))

/-- One threshold judged with its hysteresis (R669): `flag` stands from its crossing until Tj falls below it less HYST. `which` is 1 for the
warning and 2 for the critical threshold. -/
def judgeTherm (flag thr : Fld) (which : Nat) (e : Ev) (tj : Int) (sensor : Nat) : Eff := dyn fun s =>
  let t : Int := s.rd thr
  let h : Int := s.rd PWR_THERM_CFG.HYST
  if !s.on flag && decide (t ≤ tj) then seqE [put flag 1, whenE (which == 2) (emit (.pin pinTrip 0)), raise e [w32 tj, sensor]]
  else whenE (s.on flag && decide (tj < t - h)) (seqE [put flag 0, whenE (which == 2) (emit (.pin pinTrip 1)), raise EV.THERM_CLEAR [which, w32 tj]])

/-- THERMAL_EVAL (R669): every 100 µs the 16 hotspot sensors and MCH10 to MCH15, in °C, are judged. -/
def execThermalEval (temps : List (BitVec 16)) (s : State) : Out := perform (
  let ts := temps.map (·.toInt)
  let (tj, sensor) := hottest ts
  whenE (!ts.isEmpty) (seqE [upd (.pwr fun x => { x with temps := ts, tj := tj }), put PWR_STATUS.TJ (toPat 8 tj),
    judgeTherm PWR_STATUS.WARN PWR_THERM_CFG.WARN 1 EV.THERM_WARN tj sensor, judgeTherm PWR_STATUS.TRIP PWR_THERM_CFG.CRIT 2 EV.THERM_CRIT tj sensor, tempPass])) s

end Sys2Proof.Machine
end

