-- ==== Sys2Proof/Machine/Ptp.lean ====
section
/-!
DEFINITION. The boundary clock: its commands, the messages of its ports, and the servo (R489 to R497, R503).
-/
namespace Sys2Proof.Machine
open Sys2Proof

/-! ### Commands -/

def TOD_PTP_CFG.fields : List Fld := [TOD_PTP_CFG.DOMAIN, TOD_PTP_CFG.PRIO2, TOD_PTP_CFG.HOLDOVER]
def TOD_SERVO_CFG.fields : List Fld := [TOD_SERVO_CFG.EN, TOD_SERVO_CFG.BW, TOD_SERVO_CFG.RATE_MAX]
def TOD_LIMITS.fields : List Fld := [TOD_LIMITS.JUMP_THR, TOD_LIMITS.ASYM_THR, TOD_LIMITS.ACC_HOLD]
def TOD_PORT_CFG.fields : List Fld :=
  [TOD_PORT_CFG.EN, TOD_PORT_CFG.MASTER_ONLY, TOD_PORT_CFG.NOT_SLAVE, TOD_PORT_CFG.TWO_STEP, TOD_PORT_CFG.DA, TOD_PORT_CFG.LOCAL_PRIO]

/-- The registers of PTP_CFG, in its order. -/
def ptpCfgRegs : List (List Fld) := [TOD_PTP_CFG.fields, TOD_SERVO_CFG.fields, TOD_LIMITS.fields, [TOD_SCHED_CFG.GRACE]]

def opPtpCfg : OpDef := ⟨0x0C05, len 4, runStates, fun _ p _ =>
  if !((List.range 4).all (fun k => wordOk (ptpCfgRegs.getD k []) (nth p k))) then no .range
  else okE (seqE [forE (List.range 4) (fun k => putWord (ptpCfgRegs.getD k []) (nth p k)), syncPorts])⟩
/-- PTP_CFG (R503). -/
def execPtpCfg (h : CmdHdr) (p : List Word) (s : State) : Out := perform (felwin opPtpCfg h p) s

def opPtpPortSet : OpDef := ⟨0x0C06, len 2, cfgStates, fun _ p _ =>
  if 32 < nth p 0 then no .badParam
  else if !wordOk TOD_PORT_CFG.fields (nth p 1) then no .range
  else okE (seqE [putWord TOD_PORT_CFG.fields (nth p 1) (nth p 0), syncPorts])⟩
/-- PTP_PORT_SET (R490). -/
def execPtpPortSet (h : CmdHdr) (p : List Word) (s : State) : Out := perform (felwin opPtpPortSet h p) s

/-- The Announce data of the grandmaster in force: the parent's, else this clock's. -/
def State.gmAnn (s : State) : List Nat := match s.parent with | some p => s.annOf p | none => s.ownAnn

def opPtpStatus : OpDef := ⟨0x0C07, len 0, upStates, fun _ _ _ => okP nop (fun s =>
  [s.servo, s.rd TOD_STATUS.PARENT] ++ w64 (annGm s.gmAnn) ++ [annClass s.gmAnn, s.rd TOD_OFFSET.ALL] ++ ptpPorts.map (fun p => s.word [TOD_PORT_STAT.STATE] p))⟩
/-- PTP_STATUS (R503). -/
def execPtpStatus (h : CmdHdr) (p : List Word) (s : State) : Out := perform (felwin opPtpStatus h p) s

/-! ### Messages -/

/-- A change to the message exchange of port `p`. -/
def modPort (p : Nat) (g : PtpPort → PtpPort) : Eff := upd (.tod fun t => { t with ports := Tab.set {} t.ports p (g (Tab.get {} t.ports p)) })

/-- The ingress and the egress stamp of an event message of channel `t` now, in ps (R306, R307). -/
def State.inStamp (s : State) (t : Nat) : Int :=
  s.todPs - nth (tsTable (s.rd CLI_CH_CFG.TYPE t) (s.rd CLI_CH_CFG.RATE t)) 0 - s.rdI CLI_TS_ADJ_IN.ALL t
def State.egStamp (s : State) (t : Nat) : Int :=
  s.todPs + nth (tsTable (s.rd CLI_CH_CFG.TYPE t) (s.rd CLI_CH_CFG.RATE t)) 1 + s.rdI CLI_TS_ADJ_EG.ALL t

/-- A time in ps as seconds low, seconds high, nanoseconds and picoseconds of a message. -/
def ptpTime (ps : Int) : List Nat :=
  let n := (ps % (2 ^ 48 * 1000000000000 : Int)).toNat
  w64 (n / 1000000000000) ++ [n / 1000 % 1000000000, n % 1000]

/-- Announce data of port `p` (R489, R491); a new grandmaster brings a refused port back (R496). -/
def annRx (p : Nat) (a : List Nat) : Eff := dyn fun s => seqE [
  upd (.tod fun t => { t with ann := Tab.set [] t.ann p a,
                              refused := if Tab.get none s.tod.refused p = some (annGm a) then t.refused else Tab.set none t.refused p none }), syncPorts]

/-- PTP_MESSAGE_RX (R306, R489, R492, R496): by type, Sync 0, Delay_Req 1, Follow_Up 8, Delay_Resp 9, Announce 11; others are counted and
discarded, and before BASE_OK all are. -/
def execPtpMessageRx (p : Fin 32) (m : PtpMsg) (s : State) : Out := perform (dyn fun s =>
  let x := Tab.get {} s.tod.ports p.val
  let st := s.ptpSt p
  let slave := st == 2 || st == 3
  if !s.ptpOn p then nop
  else if !s.on TOD_STATUS.BASE_OK then count 272
  else if !([0, 1, 8, 9, 11].contains m.typ.toNat) then count 273
  else if m.domain.toNat != s.rd TOD_PTP_CFG.DOMAIN then nop
  else match m.typ.toNat with
    | 11 => whenE (m.body.length == 30) (annRx p (m.body.map (·.toNat)))
    | 0 => whenE slave (if m.twoStep then modPort p (fun x => { x with part := some (m.seq.toNat, s.inStamp p - m.corr) })
        else modPort p (fun x => { x with fwd := some (s.inStamp p - m.corr - m.time), part := none }))
    | 8 => (match x.part with
        | some (q, d) => whenE (slave && q == m.seq.toNat) (modPort p (fun x => { x with fwd := some (d - m.corr - m.time), part := none }))
        | none => nop)
    | 1 => whenE (st == 4 && s.todValid) (emit (.ptp (p + 1) ([9, s.rd TOD_PORT_CFG.DA p, s.rd TOD_PTP_CFG.DOMAIN, m.seq.toNat] ++ ptpTime (s.inStamp p))))
    | _ => (match x.req, x.fwd with
        | some (q, t3), some f => whenE (slave && q == m.seq.toNat) (seqE [modPort p (fun x => { x with req := none }),
            whenE (s.parent == some p.val) (let back : Int := m.time - m.corr - t3
              upd (.tod fun t => { t with samples := (f + back, (f - back) / 2) :: t.samples }))])
        | _, _ => nop)) s

/-- LINE_ANNOUNCE_RX (R491): Announce data of the line's far end; one whose CRC fails is discarded. -/
def execLineAnnounceRx (bytes : List (BitVec 8)) (s : State) : Out := perform (dyn fun s =>
  let m := bytes.map (·.toNat)
  whenE (m.length == 33 && nth m 0 == 0x41 && crc16 (m.take 31) == ofBytes (m.drop 31) && s.ptpOn 32) (annRx 32 ((m.drop 1).take 30))) s

/-- PTP_MESSAGE_TX (R489 to R492): a message-rate timer of port `p` expires: 0 Sync, 1 Delay_Req, 2 Announce. -/
def execPtpMessageTx (p : Fin 33) (kind : Fin 3) (s : State) : Out := perform (dyn fun s =>
  let x := Tab.get {} s.tod.ports p.val
  let st := s.ptpSt p
  let hdr (typ : Nat) : List Nat := [typ, s.rd TOD_PORT_CFG.DA p, s.rd TOD_PTP_CFG.DOMAIN, x.txSeq]
  if kind.val = 2 then sendAnnounce p
  else if p.val = 32 then nop
  else if kind.val = 0 then whenE (st == 4 && s.todValid) (seqE [
    if s.on TOD_PORT_CFG.TWO_STEP p then seqE [emit (.ptp (p + 1) (hdr 0 ++ [1])), emit (.ptp (p + 1) (hdr 8 ++ ptpTime (s.egStamp p)))]
    else emit (.ptp (p + 1) (hdr 0 ++ [0] ++ ptpTime (s.egStamp p))), modPort p (fun x => { x with txSeq := (x.txSeq + 1) % 65536 })])
  else whenE (st == 2 || st == 3) (seqE [emit (.ptp (p + 1) (hdr 1)),
    modPort p (fun x => { x with req := some (x.txSeq, s.egStamp p), txSeq := (x.txSeq + 1) % 65536 })])) s

/-- ANNOUNCE_TIMEOUT (R489, R496): a port's Announce is lost; it becomes MASTER, a refused one LISTENING. -/
def execAnnounceTimeout (p : Fin 33) (s : State) : Out := perform (dyn fun s => whenE (s.ptpOn p) (seqE [
  upd (.tod fun t => { t with ann := Tab.set [] t.ann p [], refused := Tab.set none t.refused p none }),
  portTo p (if s.ptpSt p = 6 then 1 else 4), syncPorts])) s

/-! ### Servo -/

/-- Insertion of a sample by round trip. -/
def insertSample (x : Int × Int) : List (Int × Int) → List (Int × Int)
  | [] => [x]
  | y :: ys => if x.1 ≤ y.1 then x :: y :: ys else y :: insertSample x ys

/-- The filtered offset in ps (R494): the mean over the quarter of the samples with the least round trip; of the line, over all. -/
def State.filtered (s : State) : Option Int :=
  let all := s.tod.samples
  let kept := if s.parent = some 32 then all else ((all.foldr insertSample []).take (max 1 (all.length / 4)))
  if kept.isEmpty then none else some ((kept.map (·.2)).foldl (· + ·) 0 / kept.length)

/-- The jump threshold in ps. -/
def State.jumpThr (s : State) : Int := 100000 * s.rd TOD_LIMITS.JUMP_THR

/-- TOD_OFFSET shows an offset, held to its range. -/
def putOffset (z : Int) : Eff := putI TOD_OFFSET.ALL (clampI (-2147483648) 2147483647 z)

/-- The rate the servo applies, held to ±RATE_MAX and to the counter's range (R471, R494). -/
def State.limitRate (s : State) (z : Int) : Int :=
  let r : Int := rateMax * s.rd TOD_SERVO_CFG.RATE_MAX / 10000
  clampI (-r) r z

/-- Whether the servo may use its parent's offsets: not while PATH_ASYM freezes the line (R487). -/
def State.servoFrozen (s : State) : Bool := s.parent == some 32 && s.on TOD_STATUS.PATH_ASYM

/-- A rate in units of 2^-32 ns per tick (R471) as a slope in ps per second, in 2^-32, and the reverse. -/
def slopeOf (r : Int) : Int := r * 2 ^ 32 * 10000000000 / 54975581
def rateOf (x : Int) : Int := x * 54975581 / 10000000000 / 2 ^ 32

/-- The phase loop's update on an offset in ps (R494; log entry 148): its integrator, and the rate it calls for. -/
def State.servoLoop (s : State) (off : Int) : Int × Int :=
  let w : Int := Config.natFreq 2 (s.rd TOD_SERVO_CFG.BW)
  let i := s.tod.loop - w * w * off / 2 ^ 32
  (i, s.limitRate (rateOf (i - 2 * Config.servoDamping * w * off / 1000)))

/-- SERVO_SECOND (R494 to R497): each second the SLAVE parent's offset is filtered and the loop's rate applied; sixteen seconds beyond the jump
threshold make it a new parent. -/
def execServoSecond (s : State) : Out := perform (seqE [
  dyn fun s => whenE (s.on TOD_STATUS.PATH_ASYM) (put TOD_STATUS.HOLD_LEFT (s.rd TOD_STATUS.HOLD_LEFT - 1)),
  dyn fun s => match s.parent, s.filtered with
    | some p, some off =>
      let near := decide (off.natAbs ≤ 100000)
      let far := if s.jumpThr < off.natAbs then s.tod.far + 1 else 0
      let (i, r) := s.servoLoop off
      if !s.on TOD_SERVO_CFG.EN || s.ptpSt p != 3 || s.servoFrozen then nop
      else seqE [putOffset off, putI TOD_RATE.ALL r,
        upd (.tod fun t => { t with loop := i, samples := [], rates := (r :: t.rates).take 16, good := if near then t.good + 1 else 0, far := if far < 16 then far else 0 }),
        whenE (decide (16 ≤ far)) (seqE [portTo p 2, upd (.tod fun t => { t with good := 0 })]), syncServo]
    | _, _ => nop]) s

/-- PARENT_MEASURE_DONE (R496): the second's measurement of an UNCALIBRATED parent ends: the servo steps, slaves the port or refuses it. -/
def execParentMeasureDone (s : State) : Out := perform (dyn fun s =>
  match s.parent, s.filtered with
  | some p, some off =>
    if !s.on TOD_SERVO_CFG.EN || !s.on TOD_STATUS.BASE_OK || s.ptpSt p != 2 || s.servoFrozen then nop
    else seqE [putOffset off, upd (.tod fun t => { t with loop := slopeOf (s.rdI TOD_RATE.ALL), samples := [], good := 0, far := 0 }),
      if s.on TOD_STATUS.STEP_AVAIL && s.tod.step.isNone then seqE [stepTo 2 (s.todVal - off * todUnit / 1000) (-off * todUnit / 1000), portTo p 3, syncServo]
      else if off.natAbs ≤ s.jumpThr then seqE [portTo p 3, syncServo]
      else seqE [upd (.tod fun t => { t with refused := Tab.set none t.refused p (some (annGm (s.annOf p))) }),
        raise EV.JUMP_REFUSED ((p + 1) :: wi64 (off / 1000)), syncPorts]]
  | _, _ => nop) s

/-- HOLDOVER_EXPIRY (R493): beyond the holdover time clockClass 165 is sent. -/
def execHoldoverExpiry (s : State) : Out := perform (dyn fun s => whenE (s.servo == 3) (seqE [
  upd (.tod fun t => { t with holdExpired := true }), syncPorts, forE (List.range 32) sendAnnounce])) s

end Sys2Proof.Machine
end

