-- ==== Sys2Proof/Machine/RegRead.lean ====
section
/-!
DEFINITION. What a read of a register returns and does (R677, R678, R680 to R684, R691, R692, R694).
-/
namespace Sys2Proof.Machine
open Sys2Proof

/-! ### Values -/

/-- The counter that a counter register shows (Table 16.1). -/
def RegDef.counter (r : RegDef) (i : Nat) : Option Nat :=
  let o := r.off
  if 0x400100 ≤ o ∧ o ≤ 0x400130 then some (fecCnt i ((o - 0x400100) / 8))
  else if 0x500050 ≤ o ∧ o ≤ 0x500068 then some (256 + (o - 0x500050) / 8)
  else if 0x601020 ≤ o ∧ o ≤ 0x601038 then some (288 + 4 * i + (o - 0x601020) / 8)
  else if o = 0x701010 ∨ o = 0x701018 then some (srdCnt i ((o - 0x701010) / 8))
  else if o = 0x701028 ∨ o = 0x701030 then some (srdCnt i (2 + (o - 0x701028) / 8))
  else if o = 0x800040 ∨ o = 0x800048 then some (416 + (o - 0x800040) / 8)
  else if 0x801000 ≤ o ∧ o ≤ 0x801030 then some (vnrCnt i ((o - 0x801000) / 8))
  else if 0x900100 ≤ o ∧ o ≤ 0x900138 then some (264 + (o - 0x900100) / 8)
  else if o = 0xB00058 ∨ o = 0xB00060 then some (272 + (o - 0xB00058) / 8)
  else if 0xC00040 ≤ o ∧ o ≤ 0xC00068 then some (280 + (o - 0xC00040) / 8)
  else if o = 0xE04000 then some i
  else none

/-- SYS_ACC_ADDR as master `m` reads it (R681). -/
def State.accAddrWord (s : State) (m : Nat) : Nat := match Tab.get none s.sys.accAddr m with | some o => 2 ^ 31 + o % 2 ^ 26 | none => 0

def SYS_ACC_STAT.fields : List Fld := [SYS_ACC_STAT.SHADOW_GEN, SYS_ACC_STAT.ERRORS, SYS_ACC_STAT.PARTIAL, SYS_ACC_STAT.FABRIC, SYS_ACC_STAT.UNMAPPED,
  SYS_ACC_STAT.LOCK, SYS_ACC_STAT.SHADOW_MISS, SYS_ACC_STAT.RANGE]

/-- A word of 32 sticky bits of the register bank (R582). -/
def State.wrapWord (s : State) (i : Nat) : Nat := (List.range 32).foldl (fun a k => a + Tab.get 0 s.bankWraps (32 * i + k) * 2 ^ k) 0

/-- The fields of `r` as they stand, but for `f`, which reads `v`. -/
def State.wordBut (s : State) (r : RegDef) (i : Nat) (f : Fld) (v : Nat) : Nat := s.word (r.flds.filter (fun g => g.lo != f.lo)) i + v * 2 ^ f.lo

/-- What register `r`, instance `i`, holds for a reading master `m`: counters from the register bank (R582), the registers that show other
state, and otherwise its fields. -/
def State.regVal (s : State) (m : Nat) (r : RegDef) (i : Nat) : Nat :=
  match r.counter i with
  | some j => Tab.get 0 s.bank j
  | none =>
    if r.off = 0x0 then s.fuse.part.code * 65536 + Config.revision.toNat * 256
    else if r.off = 0x8 then s.intSum
    else if r.off = 0x10 then s.word SYS_ACC_STAT.fields m
    else if r.off = 0x14 then s.accAddrWord m
    else if r.off = 0x100000 then s.wordBut r i LTX_CTRL.MODE (if s.scr.beacon then 0 else s.txMode)
    else if r.off = 0x400004 then s.fecStatus
    else if r.off = 0x500004 then s.frmStatus
    else if r.off = 0x600004 then s.cliStatus
    else if r.off = 0x800000 then s.wordBut r i VNR_CTRL.PROT_MODE (b2n s.protDup)
    else if r.off = 0x800004 then s.vnrStatus
    else if r.off = 0xD00004 then s.monStatus
    else if r.off = 0xD00800 then nth (s.cnv.setWords 7) i
    else if r.off = 0xD01000 then toPat 18 (firCoef (1 + i / 64) (i % 64))
    else if r.off = 0xE00100 then s.wrapWord i
    else if r.off = 0xE01000 then s.wordBut r i OBS_EVT_ROUTE.CLASS (if evUsed i then evClass i else 0)
    else if r.off = 0x1000000 then s.secWord
    else if r.off = 0x1000010 then s.fuse.devId
    else s.word r.flds i

/-- Whether a block's island is released from reset (*The SYS block*). -/
def State.released (s : State) (b : Nat) : Bool := s.dev != 0 || [0, 16, 17, 18].contains b

/-- Whether master `m` may read register `r`: an engine of cluster 7 the blocks in its mask, never SEC, and the counters whose range OBS_ACL gives
it (Table 17.10, R585). -/
def State.mayRead (s : State) (m : Nat) (b : Nat) : Bool :=
  !decide (60 ≤ m) || (if b < 16 then bit (s.rd ENG_SBX_CFG.MASK_LO) b else b != 16 && bit (s.rd ENG_SBX_CFG.MASK_HI) (b - 17))

/-- Whether a counter reads 0 for master `m` (R585). -/
def State.hidden (s : State) (m : Nat) (r : RegDef) (i : Nat) : Bool :=
  decide (60 ≤ m) && (match r.counter i with | some j => !bit (s.rd OBS_ACL.ALL) (j / 128) | none => false)

/-- What a read by `m` gives of the register: 0 where the counter is hidden from it. -/
def State.readVal (s : State) (m : Nat) (r : RegDef) (i : Nat) : Nat := if s.hidden m r i then 0 else s.regVal m r i

/-! ### Reads -/

/-- Whether register `r` is a 64-bit register by the rule of chapter 19, and not part of the MSI-X structures. -/
def RegDef.wide (r : RegDef) : Bool := r.size == 8 && !decide (0x80000 ≤ r.off ∧ r.off < 0x100000)

/-- The high word in master `m`'s read shadow where it is valid and for `off` (R692). -/
def State.shadow (s : State) (m off : Nat) : Option Nat :=
  match Tab.get none s.sys.rdShadow m with | some (o, hi) => if o = off then some hi else none | none => none

/-- What a full-word read by master `m` of the word at BAR0 offset `off` returns (R677, R678, R691, R692): 0 where no register lies, where its
block is not yet released, and for a denied engine of cluster 7. -/
def State.busVal (s : State) (m off : Nat) : Nat :=
  if !s.mayRead m (off / 0x100000) then 0 else
  match findReg off with
  | none => 0
  | some (r, i) =>
    if !s.released (off / 0x100000) then 0
    else if r.off = 0xD00118 ∧ off = r.at i then s.monQWord m i % 2 ^ 32
    else if r.wide ∧ off ≠ r.at i then (s.shadow m (r.at i)).getD (s.readVal m r i / 2 ^ 32 % 2 ^ 32)
    else s.readVal m r i / 2 ^ (8 * (off - r.at i)) % 2 ^ 32

/-- What that read does (R569, R637, R681, R691, R692, R694): a denial is counted; SYS_ACC_SELF clears the master's flags, ERRORS and SYS_ACC_ADDR; a
low word latches the high word and pops a result queue; a high word clears the shadow's mark, or without it sets SHADOW_MISS. -/
def busSide (m off : Nat) : Eff := dyn fun s =>
  if !s.mayRead m (off / 0x100000) then bump ENG_SBX_DENY.READS else
  match findReg off with
  | none => nop
  | some (r, i) =>
    if !s.released (off / 0x100000) then nop
    else if r.off = 0x10 then seqE [forE (SYS_ACC_STAT.fields.drop 1) (fun f => put f 0 m), upd (.sys fun y => { y with accAddr := Tab.set none y.accAddr m none })]
    else if r.off = 0xD00118 ∧ off = r.at i then monQPop m i
    else if !r.wide then nop
    else if off = r.at i then latchShadow m off (s.readVal m r i / 2 ^ 32 % 2 ^ 32)
    else if (s.shadow m (r.at i)).isSome then upd (.sys fun y => { y with rdShadow := Tab.set none y.rdShadow m none })
    else flagAcc m SYS_ACC_STAT.SHADOW_MISS off

/-- A full-word read and its answer. -/
def busRead (m off : Nat) : Eff := dyn fun s => seqE [busSide m off, emit (.readData m off (s.busVal m off))]

/-- LOW_WORD_READ (R691): a read of the low word of a 64-bit register. -/
def execLowWordRead (m : Mast) (off : BitVec 26) (s : State) : Out := perform (busRead m.val (off.toNat / 8 * 8)) s

/-- HIGH_WORD_READ (R692): a read of the high word of a 64-bit register. -/
def execHighWordRead (m : Mast) (off : BitVec 26) (s : State) : Out := perform (busRead m.val (off.toNat / 8 * 8 + 4)) s

/-- ACC_SELF_READ (R681): a read of SYS_ACC_SELF, which returns and clears the reading master's access status. -/
def execAccSelfRead (m : Mast) (s : State) : Out := perform (busRead m.val 0x10) s

end Sys2Proof.Machine
end

