-- ==== Sys2Proof/Machine/RegWrite.lean ====
section
/-!
DEFINITION. What a write to a register does (R9, R677, R678, R680, R684, R688 to R690, R693): each field by its access code, and the registers whose
owner's rules give a write an effect or a condition of its own.
-/
namespace Sys2Proof.Machine
open Sys2Proof

/-! ### Fields -/

/-- Field `f` of instance `i` in a write of `w` by master `m` (Table 19.4). -/
def writeField (m i w : Nat) (f : Fld) : Eff := dyn fun s =>
  match f.acc with
  | .rw => setField m f i (f.raw w)
  | .rwl => setField m f i (f.raw w)
  | .w1c => put f (s.rd f i - (s.rd f i &&& f.raw w)) i
  | _ => nop

/-- The fields `fs` of one write: the RWL ones first, so that an enable in the same word neither locks nor frees them (R690). -/
def writeFields (m i w : Nat) (fs : List Fld) : Eff :=
  seqE [forE (fs.filter (fun f => f.acc == .rwl)) (writeField m i w), forE (fs.filter (fun f => f.acc != .rwl)) (writeField m i w)]

/-- A bound between fields of one register (R9): the fields that take part, and what must hold of the word. -/
abbrev Bound := List Fld × (State → Nat → Bool)

/-- The word that the fields `fs` of instance `i` make where those of `on` take their values from `w` and the others keep theirs. -/
def State.wordWith (s : State) (fs on : List Fld) (i w : Nat) : Nat :=
  fs.foldl (fun a g => a + (if on.any (fun f => f.lo == g.lo) then g.raw w else s.rd g i) * 2 ^ g.lo) 0

/-- Of the fields `on` of a write of `w`, those that take effect under the bounds `bs` (R9): of a bound that fails with the values that stand after the
write no field is written; then the bounds are judged again. -/
def State.within (s : State) (fs : List Fld) (bs : List Bound) (i w : Nat) : Nat → List Fld → List Fld
  | 0, on => on
  | n + 1, on =>
    match bs.find? (fun b => on.any (fun f => b.1.any (fun g => g.lo == f.lo)) && !b.2 s (s.wordWith fs on i w)) with
    | none => on
    | some b => s.within fs bs i w n (on.filter (fun f => !b.1.any (fun g => g.lo == f.lo)))

/-- The fields `fs` that bound one another as `bs` gives (R9): a field out of its own range keeps its value, and so does each field of a bound that fails;
RANGE is set, and the others are written. -/
def bounded (m i w : Nat) (fs : List Fld) (bs : List Bound) : Eff := dyn fun s =>
  if fs.any (fun f => s.locked m f i) then writeFields m i w fs
  else
    let good := fs.filter (fun f => f.inRange (f.raw w))
    let on := s.within fs bs i w bs.length good
    seqE [match good.filter (fun f => !on.any (fun g => g.lo == f.lo)) with | f :: _ => flagAcc m SYS_ACC_STAT.RANGE (f.at i) | [] => nop,
      writeFields m i w (fs.filter (fun f => !f.inRange (f.raw w) || on.any (fun g => g.lo == f.lo)))]

/-- The fields `fs` that are judged together (R9): one bound in which each takes part. -/
def joint (m i w : Nat) (fs : List Fld) (ok : State → Nat → Bool) : Eff := bounded m i w fs [(fs, ok)]

/-- The fields of `r` that are none of `fs`. -/
def RegDef.but (r : RegDef) (fs : List Fld) : List Fld := r.flds.filter (fun f => !fs.any (fun g => g.lo == f.lo && g.off == f.off))

/-- A one-bit action field is written 1. -/
def goes (f : Fld) (w : Nat) (e : Eff) : Eff := whenE (f.raw w == 1) e

/-- Whether a write of `w` changes field `f`. -/
def State.changes (s : State) (f : Fld) (i w : Nat) : Bool := s.rd f i != f.raw w

/-- A write of `w` to a field that must leave it where it is refused by a rule about the device's condition (R9). -/
def refuse (m : Nat) (f : Fld) (i : Nat) : Eff := flagAcc m SYS_ACC_STAT.RANGE (f.at i)

/-! ### Blocks -/

/-- Writes to SYS_GPIO_OE and SYS_GPIO_OUT (R698): held during a switchover gap; an engine of cluster 7 changes only the pins given to it. -/
def pinWrite (m : Nat) (out : Bool) (w : Nat) : Eff := dyn fun s =>
  let mask := if 60 ≤ m then s.rd ENG_SBX_GPIO.GPIO else 0xFFFF
  let w' := (bitsSet 16 mask).foldl (fun a k => putBit a k (bit w k)) (s.rd SYS_GPIO_OUT.ALL)
  let v := if 60 ≤ m then w' else w % 65536
  if s.pair.gap then upd (.sys fun y => { y with held := y.held ++ [⟨out, v⟩] }) else writePins out v

/-- A vector whose pending bit is set, unmasked with MSI-X enabled, sends its message (R702). -/
def sendPending (v : Nat) : Eff := dyn fun s =>
  whenE (bit (s.rd MSIX_PBA.ALL) v && s.vecOpen v) (seqE [put MSIX_PBA.ALL (clrBit (s.rd MSIX_PBA.ALL) v), upd (.signal v)])

/-- SYS_EQ_CONS takes a count (R704): LEVEL is what is written and not yet freed. -/
def eqConsWrite (m w : Nat) : Eff := seqE [setField m SYS_EQ_CONS.ALL 0 (w % 65536),
  dyn fun s => put SYS_EQ_STAT.LEVEL (sat 32767 ((s.rd SYS_EQ_PROD.ALL + 65536 - s.rd SYS_EQ_CONS.ALL) % 65536))]

/-- A write of 1s to SYS_LOCK sets those locks (R690). -/
def lockSet (w : Nat) : Eff := dyn fun s => put SYS_LOCK.LOCK (s.rd SYS_LOCK.LOCK ||| SYS_LOCK.LOCK.raw w)

/-- The SYS registers. -/
def writeSys (m i w : Nat) (r : RegDef) : Eff :=
  if r.off = 0x4 then lockSet w
  else if r.off = 0x30 then pinWrite m false w
  else if r.off = 0x34 then pinWrite m true w
  else if r.off = 0x58 then eqConsWrite m w
  else if r.off = 0x100 then seqE [writeFields m i w r.flds, upd (.resignal i)]
  else if r.off = 0x8000C then seqE [writeFields m i w r.flds, sendPending i]
  else writeFields m i w r.flds

/-- Bank 1's PLAN_ID (Table 2.14): 128 to 254 only from the engines of cluster 1, 255 from none. -/
def planIdOk (m w : Nat) : Bool :=
  let id := LTX_PLAN_HDR.PLAN_ID.raw w
  decide (id ≤ 127) || (decide (id ≤ 254) && decide (12 ≤ m ∧ m ≤ 19))

/-- The LTX registers. -/
def writeLtx (m i w : Nat) (r : RegDef) : Eff := dyn fun s =>
  if r.off = 0x100000 then seqE [
    whenE (s.changes LTX_CTRL.MODE 0 w || s.changes LTX_CTRL.OTUC_N 0 w) (ltxModeWrite m (LTX_CTRL.MODE.raw w) (LTX_CTRL.OTUC_N.raw w)),
    writeField m 0 w LTX_CTRL.PRECOMP_CD_EN,
    whenE (s.changes LTX_CTRL.OUT_EN 0 w) (outEnWrite m (LTX_CTRL.OUT_EN.raw w == 1))]
  else if r.off = 0x100008 then joint m i w r.flds (fun s w =>
    let (b, k) := (LTX_SHAPE.ROLLOFF.raw w, LTX_SHAPE.KERF.raw w)
    s.txMode == 0 || (widthOk s.txMode s.txN b k && s.scribeOk s.txMode s.txN b k))
  else if r.off = 0x100100 then seqE [setFieldIf m LTX_PLAN_HDR.PLAN_ID i (LTX_PLAN_HDR.PLAN_ID.raw w) (planIdOk m w) nop]
  else if r.off = 0x100110 then seqE [goes LTX_PLAN_CHG.COMMIT w planChgCommit, goes LTX_PLAN_CHG.CANCEL w planChgCancel]
  else if r.off = 0x100200 then seqE [writeFields m i w r.flds, setChk]
  else if r.off = 0x100400 then seqE [writeFields m i w r.flds, dyn fun s => upd (.ltx fun x => { x with ditherHz := 5 * s.rd LTX_BIAS_CTRL.FREQ }),
    goes LTX_BIAS_CTRL.SWEEP w startSweep, judgeLock]
  else if r.off = 0x100500 then seqE [writeField m i w LTX_LAS_CTRL.POWER, dyn fun t => whenE (t.rd LTX_LAS_CTRL.POWER i != s.rd LTX_LAS_CTRL.POWER i) (lasPower i),
    whenE (s.changes LTX_LAS_CTRL.FTF i w) (lasFtfWrite m i (LTX_LAS_CTRL.FTF.int (LTX_LAS_CTRL.FTF.raw w))),
    whenE (s.changes LTX_LAS_CTRL.EN i w) (setLasEn i (LTX_LAS_CTRL.EN.raw w == 1)), goes LTX_LAS_CTRL.RESET w (lasReset i)]
  else if r.off = 0x100508 then lasFreqWrite m i w
  else writeFields m i w r.flds

/-- The LRX registers. -/
def writeLrx (m i w : Nat) (r : RegDef) : Eff := dyn fun s =>
  if r.off = 0x200000 then seqE [
    whenE (s.changes LRX_CTRL.MODE 0 w || s.changes LRX_CTRL.OTUC_N 0 w) (lrxModeWrite m (LRX_CTRL.MODE.raw w) (LRX_CTRL.OTUC_N.raw w)),
    whenE (s.changes LRX_CTRL.RX_EN 0 w) (rxEnWrite m (LRX_CTRL.RX_EN.raw w == 1))]
  else if r.off = 0x200008 then joint m i w r.flds (fun s w => s.rxMode == 0 || widthOk s.rxMode s.rxN (LRX_SHAPE.ROLLOFF.raw w) (LRX_SHAPE.KERF.raw w))
  else if r.off = 0x200014 then seqE [writeFields m i w (r.but [LRX_CD_CFG.D_FORCE]), setFieldIf m LRX_CD_CFG.D_FORCE i (LRX_CD_CFG.D_FORCE.raw w) (s.dForceOk w) nop]
  else if r.off = 0x200034 then seqE [writeFields m i w (r.but [LRX_DFE_CFG.F_OFF, LRX_DFE_CFG.F_ON]),
    joint m i w [LRX_DFE_CFG.F_OFF, LRX_DFE_CFG.F_ON] (fun _ w => fOnOk (LRX_DFE_CFG.F_OFF.raw w) (LRX_DFE_CFG.F_ON.raw w)), syncFb]
  else if r.off = 0x200040 then seqE [writeFields m i w r.flds, unfreezeCheck]
  else if r.off = 0x200044 then seqE [writeFields m i w r.flds, goes LRX_RESTART.GO w restartGo]
  else if r.off = 0x200100 then seqE [writeFields m i w r.flds, syncFb, unfreezeCheck]
  else if r.off = 0x20080C then goes LRX_Q_SNAP.TAKE w lrxTake
  else if r.off = 0x200810 then seqE [writeField m i w LRX_ADAPT_CFG.HITLESS, setAdaptEn (LRX_ADAPT_CFG.TX_EN.raw w == 1) (LRX_ADAPT_CFG.RX_EN.raw w == 1),
    goes LRX_ADAPT_CFG.SLIP_CLR w clearSlips]
  else if r.off = 0x200814 then seqE [writeField m i w LRX_ADAPT_MARGIN.GAMMA,
    bounded m i w [LRX_ADAPT_MARGIN.TARGET, LRX_ADAPT_MARGIN.FLOOR, LRX_ADAPT_MARGIN.LOW] [
      ([LRX_ADAPT_MARGIN.TARGET, LRX_ADAPT_MARGIN.FLOOR], fun _ w => decide (LRX_ADAPT_MARGIN.FLOOR.raw w ≤ LRX_ADAPT_MARGIN.TARGET.raw w)),
      ([LRX_ADAPT_MARGIN.TARGET, LRX_ADAPT_MARGIN.LOW], fun _ w => decide (LRX_ADAPT_MARGIN.LOW.int (LRX_ADAPT_MARGIN.LOW.raw w) ≤ LRX_ADAPT_MARGIN.TARGET.raw w))]]
  else writeFields m i w r.flds

/-- The CNV registers. -/
def writeCnv (m i w : Nat) (r : RegDef) : Eff :=
  if r.off = 0x300020 then goes CNV_Q_SNAP.TAKE w cnvTake else writeFields m i w r.flds

/-- The FEC registers: a clear threshold above the set threshold is refused (R241); FEC_INJ acts in MAINT (R243). -/
def writeFec (m i w : Nat) (r : RegDef) : Eff := dyn fun s =>
  let thr := [FEC_DEG_SET.MANT, FEC_DEG_SET.EXP]
  if r.off = 0x400000 then seqE [writeFields m i w r.flds, goes FEC_CTRL.CNT_CLR w fecCntClr]
  else if r.off = 0x400010 then seqE [writeFields m i w (r.but thr), joint m i w thr (fun s w => degWordsOk w (s.word FEC_DEG_CLR.fields))]
  else if r.off = 0x400014 then joint m i w r.flds (fun s w => degWordsOk (s.word FEC_DEG_SET.fields) w)
  else if r.off = 0x40001C then seqE [writeFields m i w (r.but [FEC_INJ.MODE]), if s.dev == 4 then writeField m i w FEC_INJ.MODE else whenE (s.changes FEC_INJ.MODE i w) (refuse m FEC_INJ.MODE i), goes FEC_INJ.ONE_SHOT w oneShot]
  else writeFields m i w r.flds

/-- The FRM registers: FILL_FORCE and BDI_FORCE ignore writes outside MAINT (R266). -/
def writeFrm (m i w : Nat) (r : RegDef) : Eff := dyn fun s =>
  if r.off = 0x500000 then seqE [whenE (s.dev == 4) (writeFields m i w r.flds), goes FRM_CTRL.CNT_CLR w frmCntClr, goes FRM_CTRL.RESYNC w dovetailRestart, judgeFill]
  else if r.off = 0x500018 then seqE [writeFields m i w r.flds, judgeFill]
  else if r.off = 0x500404 then bounded m i w r.flds [
      ([FRM_OHC_ROUTE.RX_DEST, FRM_OHC_ROUTE.CLIENT], fun s w => FRM_OHC_ROUTE.RX_DEST.raw w != 2 || s.otnClient (FRM_OHC_ROUTE.CLIENT.raw w)),
      ([FRM_OHC_ROUTE.TX_SRC, FRM_OHC_ROUTE.CLIENT], fun s w => FRM_OHC_ROUTE.TX_SRC.raw w != 2 || s.otnClient (FRM_OHC_ROUTE.CLIENT.raw w))]
  else writeFields m i w r.flds

/-- The CLI registers: LOOP acts in MAINT on a configured channel (R318). -/
def writeCli (m i w : Nat) (r : RegDef) : Eff := dyn fun s =>
  let v := CLI_CH_CTRL.LOOP.raw w
  if r.off = 0x600000 then goes CLI_CTRL.CNT_CLR w cliCntClr
  else if r.off = 0x601004 then whenE (s.changes CLI_CH_CTRL.LOOP i w)
    (if s.dev != 4 || !s.chOn i || decide (2 < v) then refuse m CLI_CH_CTRL.LOOP i else setLoop i v)
  else writeFields m i w r.flds

/-- The SRD registers: the equaliser is judged whole (R326), and Jig by R346 and Table 9.6. -/
def writeSrd (m i w : Nat) (r : RegDef) : Eff := dyn fun s =>
  if r.off = 0x700000 then goes SRD_CTRL.CNT_CLR w srdCntClr
  else if r.off = 0x701000 then seqE [writeFields m i w r.flds, goes SRD_LANE_CTRL.RETRAIN w (retrain i)]
  else if r.off = 0x701008 then joint m i w r.flds (fun _ w => firOk w)
  else if r.off = 0x701020 then seqE [
    match SRD_JIG_CFG.fields.filter (fun f => !s.jigField i w f) with | f :: _ => refuse m f i | [] => nop,
    setJig i (s.wordWith SRD_JIG_CFG.fields (SRD_JIG_CFG.fields.filter (s.jigField i w)) i w),
    goes SRD_JIG_CFG.INJ_GO w (injGoWrite m i)]
  else writeFields m i w r.flds

/-- The VNR registers: INLINE stays while a channel is bound (R359); a binding names an INLINE tenant page, or none (R358). -/
def writeVnr (m i w : Nat) (r : RegDef) : Eff := dyn fun s =>
  let g := VNR_CH_BIND.PAGE.raw w
  if r.off = 0x800000 then seqE [whenE (VNR_CTRL.PROT_MODE.raw w != s.protMode) (protModeWrite m (VNR_CTRL.PROT_MODE.raw w)),
    goes VNR_CTRL.CNT_CLR w vnrCntClr, goes VNR_CTRL.REARM w (rearmWrite m)]
  else if r.off = 0x800100 then seqE [writeFields m i w (r.but [VNR_PAGE_CFG.INLINE]),
    setFieldIf m VNR_PAGE_CFG.INLINE i (VNR_PAGE_CFG.INLINE.raw w) (bit w 2 || !s.pageBound i) nop]
  else if r.off = 0x800800 then setFieldIf m VNR_CH_BIND.PAGE i g (g == 255 || ((pageRefused g).isNone && s.on VNR_PAGE_CFG.INLINE g)) nop
  else writeFields m i w r.flds

/-- The SCR registers: FREQ stays while TX_OUT is lit, and clear of the mode in force (R404); the key pages are the tenant's (R422). -/
def writeScr (m i w : Nat) (r : RegDef) : Eff := dyn fun s =>
  let f := SCR_CFG.FREQ.raw w
  if r.off = 0x900000 then seqE [writeFields m i w (r.but [SCR_CTRL.EN]), whenE (s.changes SCR_CTRL.EN 0 w) (scrEnWrite m (SCR_CTRL.EN.raw w == 1)),
    goes SCR_CTRL.CNT_CLR w scrCntClr, goes SCR_CTRL.RESTART w scrRestart]
  else if r.off = 0x900008 then seqE [writeFields m i w (r.but [SCR_CFG.FREQ]),
    whenE (s.changes SCR_CFG.FREQ 0 w) (setFieldIf m SCR_CFG.FREQ 0 f (!s.lit && s.scrEdge (s.rd SCR_CTRL.EN) f) nop)]
  else if r.off = 0x900030 then put SCR_KEY_PAGES.ALL (tenantMask i w) i
  else writeFields m i w r.flds

/-- An output's settings as a write leaves them (R460): its frequency and pulse width are judged together. -/
def outWrite (m i : Nat) (fs rest : List Fld) (w hz width : Nat) : Eff := seqE [writeFields m i w rest,
  if outOk i hz width then forE fs (fun f => put f (f.raw w) i) else match fs with | f :: _ => refuse m f i | [] => nop]

/-- The REF registers; the selection is made again after each. -/
def writeRef (m i w : Nat) (r : RegDef) : Eff := dyn fun s => seqE [
  if r.off = 0xA00008 then seqE [writeField m i w REF_DPLL_CFG.LOCK_THR,
    joint m i w [REF_DPLL_CFG.BW, REF_DPLL_CFG.ACQ_BW] (fun _ w => bwOk (REF_DPLL_CFG.BW.raw w) (REF_DPLL_CFG.ACQ_BW.raw w))]
  else if r.off = 0xA0000C then seqE [writeField m i w REF_MON_CFG.RATE,
    joint m i w [REF_MON_CFG.ACCEPT, REF_MON_CFG.REJECT] (fun _ w => limitsOk (REF_MON_CFG.ACCEPT.raw w) (REF_MON_CFG.REJECT.raw w))]
  else if r.off = 0xA00100 then seqE [writeFields m i w (r.but [REF_CAND_CFG.LANE]),
    whenE (s.changes REF_CAND_CFG.LANE i w) (if 9 ≤ i then candFreqWrite m i (REF_CAND_CFG.LANE.raw w) else writeField m i w REF_CAND_CFG.LANE)]
  else if r.off = 0xA0010C then candFreqWrite m i (REF_CAND_FHZ.HZ.raw w)
  else if r.off = 0xA00400 then outWrite m i [REF_OUT_CFG.WIDTH] (r.but [REF_OUT_CFG.WIDTH]) w (s.rd REF_OUT_FHZ.HZ i) (REF_OUT_CFG.WIDTH.raw w)
  else if r.off = 0xA00404 then outWrite m i [REF_OUT_FHZ.HZ] [] w (REF_OUT_FHZ.HZ.raw w) (s.rd REF_OUT_CFG.WIDTH i)
  else writeFields m i w r.flds, whenE (r.off == 0xA00400 || r.off == 0xA00404) (outSignal i), refEval]

/-- The TOD registers. -/
def writeTod (m i w : Nat) (r : RegDef) : Eff :=
  if r.off = 0xB00000 then seqE [goes TOD_CTRL.LATCH w todLatch, goes TOD_CTRL.CNT_CLR w todCntClr]
  else seqE [writeFields m i w r.flds, syncPorts]

/-- The PAIR registers. -/
def writePair (m i w : Nat) (r : RegDef) : Eff := seqE [writeFields m i w r.flds,
  whenE (r.off == 0xC00000) (goes PAIR_CTRL.CNT_CLR w pairCntClr), pairEnSync, joinPair]

/-- The MON registers: the host's writes to M0's instances are ignored while the bias loops own M0 (R552); a changed chain restarts (R565). -/
def writeMon (m i w : Nat) (r : RegDef) : Eff := dyn fun s =>
  if r.off = 0xD00000 then seqE [whenE (s.changes MON_CTRL.INTERLEAVE 0 w) (interleaveWrite m (MON_CTRL.INTERLEAVE.raw w == 1)),
    whenE (s.changes MON_CTRL.EN0 0 w) (monStart 0 (MON_CTRL.EN0.raw w == 1)), whenE (s.changes MON_CTRL.EN1 0 w) (monStart 1 (MON_CTRL.EN1.raw w == 1)),
    goes MON_CTRL.CNT_CLR w monCntClr]
  else if 0xD00100 ≤ r.off ∧ r.off ≤ 0xD00110 ∧ i = 0 ∧ m < 4 ∧ s.m0Bias then nop
  else seqE [
    if r.off = 0xD00108 then seqE [writeField m i w MON_TRIG.SRC, joint m i w [MON_TRIG.PW_MAX, MON_TRIG.PW_MIN] (fun _ w => pwOk (MON_TRIG.PW_MIN.raw w) (MON_TRIG.PW_MAX.raw w))]
    else writeFields m i w r.flds,
    chainChanged s]

/-- The OBS registers. -/
def writeObs (m i w : Nat) (r : RegDef) : Eff := dyn fun s =>
  if r.off = 0xE00000 then seqE [writeFields m i w r.flds, goes OBS_CTRL.BW_CLR w bwClear, goes OBS_CTRL.CNT_CLR w obsCntClr]
  else if r.off = 0xE00004 then goes OBS_SNAP.TAKE w (upd .snapBank)
  else if r.off = 0xE00014 then seqE [writeField m i w OBS_PRESET_CTRL.INDEX, goes OBS_PRESET_CTRL.GO w presetGo]
  else if r.off = 0xE00030 then (if s.capOk w then capWrite w else seqE [capWrite (w - OBS_CAP_CFG.SOFT_GB.raw w * 1024 + s.rd OBS_CAP_CFG.SOFT_GB * 1024), refuse m OBS_CAP_CFG.SOFT_GB 0])
  else if r.off = 0xE00034 then seqE [writeField m i w OBS_CAP_POST.RAW_POST,
    setFieldIf m OBS_CAP_POST.SOFT_POST 0 (OBS_CAP_POST.SOFT_POST.raw w) (decide (OBS_CAP_POST.SOFT_POST.raw w < s.slots)) nop]
  else if r.off = 0xE00040 then seqE [writeFields m i w r.flds, setDrivesOk]
  else if r.off = 0xE00200 then wrapClear i w
  else if r.off = 0xE00400 then seqE [writeFields m i w r.flds, upd (.obs fun o => { o with bwDiscard := Tab.set 0 o.bwDiscard i 1 })]
  else writeFields m i w r.flds

/-- The ENG registers: HBM_GB within the sum of R638. -/
def writeEng (m i w : Nat) (r : RegDef) : Eff := dyn fun s =>
  if r.off = 0xF00010 then seqE [writeFields m i w (r.but [ENG_SBX_CFG.HBM_GB]), setFieldIf m ENG_SBX_CFG.HBM_GB i (ENG_SBX_CFG.HBM_GB.raw w) (s.sbxFits w) nop]
  else writeFields m i w r.flds

/-- The PWR registers: the critical threshold stays above the warning threshold (R669). -/
def writePwr (m i w : Nat) (r : RegDef) : Eff :=
  if r.off = 0x1100004 then seqE [writeField m i w PWR_THERM_CFG.HYST, joint m i w [PWR_THERM_CFG.WARN, PWR_THERM_CFG.CRIT] (fun _ w => thermOk w)]
  else writeFields m i w r.flds

/-- The CMD registers. -/
def writeCmd (m i w : Nat) (r : RegDef) : Eff :=
  if r.off = 0x1200010 then seqE [writeFields m i w r.flds, goes CMD_BAT_CFG.RESTART w (restartEnum true)]
  else if r.off = 0x120011C then doorbell i (CMD_DB.PROD.raw w)
  else writeFields m i w r.flds

/-- Whether register `r` is an INT_STAT or INT_EN of its block (R701). -/
def RegDef.isInt (r : RegDef) : Bool := (intPairs (r.off / 0x100000)).any (fun p => p.1.off == r.off || p.2.off == r.off)

/-- A write of `w` to register `r`, instance `i`, by its block. -/
def writeBlock (m i w : Nat) (r : RegDef) : Eff :=
  if r.isInt then seqE [writeFields m i w r.flds, upd (.resignal (r.off / 0x100000))] else
  match r.off / 0x100000 with
  | 0 => writeSys m i w r | 1 => writeLtx m i w r | 2 => writeLrx m i w r | 3 => writeCnv m i w r | 4 => writeFec m i w r
  | 5 => writeFrm m i w r | 6 => writeCli m i w r | 7 => writeSrd m i w r | 8 => writeVnr m i w r | 9 => writeScr m i w r
  | 10 => writeRef m i w r | 11 => writeTod m i w r | 12 => writePair m i w r | 13 => writeMon m i w r | 14 => writeObs m i w r
  | 15 => writeEng m i w r | 17 => writePwr m i w r | 18 => writeCmd m i w r | _ => writeFields m i w r.flds

/-! ### The bus -/

/-- One access at offset `off` flags at most one error in ERRORS, whatever it flagged, and it is its offset that is captured (R681). -/
def oneError (m off : Nat) (e : Eff) : Eff := dyn fun s => seqE [e, dyn fun t => seqE [
  whenE (decide (s.rd SYS_ACC_STAT.ERRORS m < t.rd SYS_ACC_STAT.ERRORS m)) (put SYS_ACC_STAT.ERRORS (s.rd SYS_ACC_STAT.ERRORS m + 1) m),
  whenE ((Tab.get none s.sys.accAddr m).isNone && (Tab.get none t.sys.accAddr m).isSome) (upd (.sys fun y => { y with accAddr := Tab.set none y.accAddr m (some off) }))]]

/-- What an engine of cluster 7 may write (Table 17.10): SYS_GPIO_OUT, and the PWM outputs given to it. -/
def State.mayWrite (s : State) (m : Nat) (r : RegDef) (i : Nat) : Bool :=
  !decide (60 ≤ m) || r.off == 0x34 || (r.off == 0x1100100 && bit (s.rd ENG_SBX_GPIO.PWM) i)

/-- A write of `w`, whole, by master `m` to instance `i` of register `r`. -/
def writeReg (m : Nat) (r : RegDef) (i w : Nat) : Eff := dyn fun s =>
  if !s.mayWrite m r i then bump ENG_SBX_DENY.WRITES
  else if r.readOnly i then flagAcc m SYS_ACC_STAT.UNMAPPED (r.at i)
  else if r.flds.all (fun f => f.acc == .ro || f.acc == .rc) then nop
  else if !s.writable (r.off / 0x100000) then flagAcc m SYS_ACC_STAT.RANGE (r.at i)
  else logWrite m r i (fun _ => w) (writeBlock m i w r)

/-- One word of a 64-bit register takes `w` (`hi`: the high word), the other standing as it is. -/
def halfWord (old w : Nat) (hi : Bool) : Nat := if hi then old % 2 ^ 32 + 2 ^ 32 * w else old / 2 ^ 32 * 2 ^ 32 + w

/-- The low word of a 64-bit register is staged in the master's write shadow (R693). -/
def stageLow (m off w : Nat) : Eff := upd (.sys fun y => { y with wrShadow := Tab.set none y.wrShadow m (some (off, w)) })

/-- The high word of a 64-bit register (R693): with the staged low word where it is this register's, else alone, with SHADOW_MISS. -/
def highWrite (m : Nat) (r : RegDef) (i w : Nat) : Eff := dyn fun s =>
  let alone : Eff := seqE [writeReg m r i (halfWord (s.word r.flds i) w true), flagAcc m SYS_ACC_STAT.SHADOW_MISS (r.at i + 4)]
  match Tab.get none s.sys.wrShadow m with
  | some (o, lo) =>
    if o = r.at i then seqE [upd (.sys fun y => { y with wrShadow := Tab.set none y.wrShadow m none }), writeReg m r i (lo + 2 ^ 32 * w)] else alone
  | none => alone

/-- An alias write of `w` (R688, R689): the RW and RWL fields take (value | w) or (value & ~w); one word of a 64-bit register alone. -/
def aliasWrite (m : Nat) (set : Bool) (off w : Nat) : Eff := dyn fun s =>
  let comb (v x : Nat) : Nat := if set then v ||| x else v - (v &&& x)
  match findReg off with
  | none => flagAcc m SYS_ACC_STAT.UNMAPPED off
  | some (r, i) =>
    if !r.holds i || decide (0x80000 ≤ r.off ∧ r.off < 0x100000) then flagAcc m SYS_ACC_STAT.UNMAPPED off
    else
      let v := s.word (r.flds.filter Fld.writable) i + (if r.off = 0x800000 then s.protMode - s.rd VNR_CTRL.PROT_MODE else 0)
      writeReg m r i (comb v (w * 2 ^ (8 * (off - r.at i))))

/-- A full-word write of `w` by master `m` at offset `off`, a multiple of 4 (R677, R684, R688, R693). -/
def busWrite (m off w : Nat) : Eff := oneError m off (match aliasOf off with
  | some (set, o) => aliasWrite m set o w
  | none => match findReg off with
    | none => if 60 ≤ m then bump ENG_SBX_DENY.WRITES else flagAcc m SYS_ACC_STAT.UNMAPPED off
    | some (r, i) => dyn fun s =>
      if r.readOnly i || !s.mayWrite m r i then writeReg m r i w
      else if r.wide then (if off = r.at i then stageLow m off w else highWrite m r i w)
      else writeReg m r i (if r.size = 8 then halfWord (s.word r.flds i) w (decide (off ≠ r.at i)) else w))

end Sys2Proof.Machine
end

