-- ==== Sys2Proof/Machine/Registers.lean ====
section
/-!
DEFINITION. The commands of the register map and of the pins and timers beside it (R9, R27, R445, R459, R678 to R704).
-/
namespace Sys2Proof.Machine
open Sys2Proof

/-! ### Bus writes -/

/-- REGISTER_WRITE (R684): a write of `w` at BAR0 offset `off`, with the byte enables `be`; one that enables fewer than four bytes is
ignored and sets PARTIAL (R678). -/
def execRegisterWrite (m : Mast) (off : BitVec 26) (be : BitVec 4) (w : Word) (s : State) : Out := perform (
  if inSandbox m && be != 15 then bump ENG_SBX_DENY.WRITES
  else if be != 15 then flagAcc m SYS_ACC_STAT.PARTIAL (off.toNat / 4 * 4)
  else busWrite m (off.toNat / 4 * 4) w.toNat) s

/-- The alias address of the register at `off` (Table 19.2). -/
def aliasAddr (set : Bool) (off : Nat) : Nat :=
  if off < 0x1000000 then off + (if set then 0x2000000 else 0x3000000) else off + (if set then 0xA00000 else 0xD00000)

/-- SET_ALIAS_WRITE (R688): a write to the set alias of the register at `off`. -/
def execSetAliasWrite (m : Mast) (off : BitVec 25) (w : Word) (s : State) : Out := perform (busWrite m (aliasAddr true (off.toNat / 4 * 4)) w.toNat) s

/-- CLEAR_ALIAS_WRITE (R688): a write to the clear alias of the register at `off`. -/
def execClearAliasWrite (m : Mast) (off : BitVec 25) (w : Word) (s : State) : Out := perform (busWrite m (aliasAddr false (off.toNat / 4 * 4)) w.toNat) s

/-- LOW_WORD_WRITE (R693): a write of the low word of a 64-bit register. -/
def execLowWordWrite (m : Mast) (off : BitVec 26) (w : Word) (s : State) : Out := perform (seqE [busWrite m (off.toNat / 8 * 8) w.toNat]) s

/-- HIGH_WORD_WRITE (R693): a write of the high word of a 64-bit register. -/
def execHighWordWrite (m : Mast) (off : BitVec 26) (w : Word) (s : State) : Out := perform (busWrite m (off.toNat / 8 * 8 + 4) w.toNat) s

/-- INT_STAT_CLEAR (R701): a write to an INT_STAT, an INT_EN or SYS_INT_VEC[b]: `which` 0 clears the bits of block `b`'s INT_STAT, 1 sets its
enables, 2 its vector; the second pair of LRX is at 3 and 4. -/
def execIntStatClear (m : Mast) (b : Fin 19) (which : Fin 5) (w : Word) (s : State) : Out :=
  let ps := intPairs b.val
  let f : Option (Fld × Nat) := match which with
    | 0 => (ps.head?).map (fun p => (p.1, 0)) | 1 => (ps.head?).map (fun p => (p.2, 0)) | 2 => some (SYS_INT_VEC.VEC, b.val)
    | 3 => (ps[1]?).map (fun p => (p.1, 0)) | _ => (ps[1]?).map (fun p => (p.2, 0))
  perform (match f with | some (f, i) => busWrite m (f.at i) w.toNat | none => nop) s

/-- SYS_LOCK_SET (R690): a write of 1s to SYS_LOCK. -/
def execSysLockSet (m : Mast) (mask : BitVec 19) (s : State) : Out := perform (busWrite m 0x4 mask.toNat) s

/-- EQ_CONS_WRITE (R704): the host frees event-queue entries. -/
def execEqConsWrite (m : Mast) (v : BitVec 16) (s : State) : Out := perform (busWrite m 0x58 v.toNat) s

/-! ### Pins, interrupts and timers -/

/-- GPIO_EDGE (R697): the sampled level of pin `n` changes; a pin the device drives shows what it drives. -/
def execGpioEdge (n : Fin 16) (level : Bool) (s : State) : Out := perform (dyn fun s => whenE (!bit (s.rd SYS_GPIO_OE.ALL) n) (pinSample n level)) s

/-- MSIX_UNMASK (R702): the host clears vector `v`'s Mask bit and sets the function's MSI-X Enable and Function Mask; every message pending
on a vector now open is sent. -/
def execMsixUnmask (v : Fin 64) (en fmask : Bool) (s : State) : Out := perform (seqE [
  upd (.sys fun y => { y with msixEn := en, fnMask := fmask }), put MSIX_CTRL.MASK 0 v, forE (List.range 64) sendPending]) s

/-- FABRIC_TIMEOUT (R27, R683): a request of island `k` (Table 16.1) got no acknowledgement: counted; where it is a bus access of master `m`,
FABRIC is set, and a read returns all ones. -/
def execFabricTimeout (k : Fin 20) (m : Mast) (off : BitVec 26) (rd : Bool) (s : State) : Out := perform (seqE [count k.val,
  flagAcc m SYS_ACC_STAT.FABRIC off.toNat, whenE rd (emit (.readData m off.toNat 0xFFFFFFFF))]) s

/-- OSC_IN_ACTIVE (R459): OSC_IN is active again. -/
def execOscInActive (s : State) : Out := perform oscBack s

/-- LINE_QL_MESSAGE_TX (R445): the once-a-second line QL message goes out while the transmitter sends. -/
def execLineQlMessageTx (s : State) : Out := perform (dyn fun s => whenE s.sending (timeMsg s.lineQl)) s

end Sys2Proof.Machine
end

