-- ==== Sys2Proof/Machine/Fetch.lean ====
section
/-!
DEFINITION. SYS_REG_ACCESS, and the interpreter's intake (R613, R616 to R618, R623 to R625, R630, R682): the table of opcodes, the acceptance checks, the
fetch from the rings and from Batten, and the command timeouts.
-/
namespace Sys2Proof.Machine
open Sys2Proof

/-! ### SYS_REG_ACCESS -/

/-- The access status a reply entry carries: the flags of SYS_ACC_STAT[2] (R682). -/
def accFlags : List Fld := [SYS_ACC_STAT.PARTIAL, SYS_ACC_STAT.FABRIC, SYS_ACC_STAT.UNMAPPED, SYS_ACC_STAT.LOCK, SYS_ACC_STAT.SHADOW_MISS, SYS_ACC_STAT.RANGE]

/-- The entries of SYS_REG_ACCESS in turn, from state `s`: offset, 1 read or 2 write, value (log entry 1). Each clears master 2's flags and acts
as master 2; the answer holds the updates made, the values read and the flags of each entry. -/
def regEntries : Nat → List Nat → State → List Upd × List Nat × List Nat
  | 0, _, _ => ([], [], [])
  | n + 1, p, s =>
    let off := nth p 0 / 4 * 4
    let rd := nth p 1 == 1
    let clear := run ((forE accFlags (fun f => put f 0 2)) s) s
    let us := (forE accFlags (fun f => put f 0 2)) s ++ (if rd then busSide 2 off else busWrite 2 off (nth p 2)) clear
    let s' := run us s
    let (vs, reads, flags) := regEntries n (p.drop 3) s'
    (us ++ vs, (if rd then [clear.busVal 2 off] else []) ++ reads, s'.word accFlags 2 :: flags)

def opSysRegAccess : OpDef := ⟨0x0107, fun k => k % 3 == 0 && decide (3 ≤ k ∧ k ≤ 192), upStates, fun _ p s =>
  let n := p.length / 3
  if (List.range n).any (fun i => nth p (3 * i + 1) != 1 && nth p (3 * i + 1) != 2 || decide (0x4000000 ≤ nth p (3 * i))) then no .badParam
  else
    let (us, reads, flags) := regEntries n p s
    okP (fun _ => us) (fun _ => reads ++ flags)⟩
/-- SYS_REG_ACCESS (R682): up to 64 register reads and writes as master 2. -/
def execSysRegAccess (h : CmdHdr) (p : List Word) (s : State) : Out := perform (felwin opSysRegAccess h p) s

/-! ### Opcodes -/

/-- A command taken from a ring, of which the measurement made as it runs is free: `f` gives it by the state (log entry 156). -/
def freely (o : OpDef) (f : State → OpDef) : OpDef := { o with body := fun h p s => let a := (f s).body h p s; { a with eff := seqE [a.eff, drawn] } }

def opsClass1 : List OpDef := [opIdentify, opStatus, opSysStateSet, opSysSessionOpen, opSysSessionClose, opSysSlotRelease, opSysRegAccess, 
  opBattenStatus]
def opsClass2 : List OpDef := [opLtxModeSet, opLtxPlanLoad, opLtxPlanCommit, opLtxPlanCancel, opLtxPlanGet, opLtxBiasCtrl, opLtxLaserSet, 
  opLtxLaserStatus, opLtxOutput]
def opsClass3 : List OpDef := [opLrxModeSet, opLrxEnable, opLrxAcqCfg, opLrxEqCfg, opLrxFreeze, opLrxRestart, opLrxStatus, opLrxTapsGet, opLrxQuality, 
  opLrxCrSet, opLrxAdaptSet, opLrxRplanLoad, opLrxRplanGet, opLrxAdaptNow]
def opsClass4 : List OpDef := [opCalStatus, opCalBgSet, opCalRefSet,
  freely (opCalRun 0 0) (fun s => opCalRun (ofPat 32 (s.free 60 % 2 ^ 32)) (ofPat 32 (s.free 61 % 2 ^ 32))), opCalAbort,
  freely (opCalCommit true) (fun s => opCalCommit (bit (s.free 62) 0)), opCalExport, opCalLoad, opCalQuality,
  freely (opCalSlice 0) (fun s => opCalSlice (ofPat 16 (s.free 63 % 65536)))]
def opsClass5 : List OpDef := [opFecCfg, opFecStatus, opFecCounters, opFecInject, opFecGeometry]
def opsClass6 : List OpDef := [opFrmCfg, opFrmStatus, opFrmPmGet, opFrmTtiSet, opFrmTtiGet, opFrmOhcCfg, opFrmOhcXfer]
def opsClass7 : List OpDef := [opCliAdd, opCliRemove, opCliMove, opCliMoveCancel, opCliStatus, opCliCounters, opCliTsCfg, opCliLoop, opCliSlotMap]
def opsClass8 : List OpDef := [opSrdLaneSet, opSrdStatus, opSrdEyeScan, opSrdJigSet, opSrdJigGet]
def opsClass9 : List OpDef := [opVnrCfg, opVnrStatus, opVnrPageSet, opVnrKeyLoad, opVnrKeySwitch, opVnrKeyErase, opVnrBind, opVnrLa, opVnrCounters, 
  opVnrRearm]
def opsClass10 : List OpDef := [opScrCfgSet, opScrTrust, opScrStatus, opScrPeers, opScrRestart]
def opsClass11 : List OpDef := [opRefCfg, opRefCandSet, opRefSelect, opRefStatus, opRefOutSet, opRefRealign]
def opsClass12 : List OpDef := [opTodGet, opTodStep, opTodRearm, opTodRateSet, opPtpCfg, opPtpPortSet, opPtpStatus, opLineDelay, opAsymAccept, 
  opSchedSet, opSchedCancel]
def opsClass13 : List OpDef := [opPairCfg, opPairStatus, opPairSwitch, opPairPromote, opPairOos, opPairReturn, opPairSnapshot, opPairSpares]
def opsClass14 : List OpDef := [opMonCfg, opMonStart, opMonRead, opMonTrigger, opMonSyscal, opMonStatus]
def opsClass15 : List OpDef := [opObsSnapshot, opObsCntRead, opObsCntPreset, opObsEvtRoute, opObsDumpCfg, opObsBwCfg, opCapCfg, opCapTrigger, opCapRead, 
  opCapRearm, opRecCfg, opRecRead, opRecHold, opRecStatus]
def opsClass16 : List OpDef := [opEngStatus, opEngCfg, opFwStage, opFwActivate, opFwCommit, opSbxLoad, opSbxCtrl, (opSbxMsg 0 [])]
def opsClass17 : List OpDef := [opSecStatus, opSecCerts, opAttest, opSecSessionKey, opSecNonce, opSecLifecycle, opSecCustkey, opSecReset]
def opsClass18 : List OpDef := [opPwrStateSet, opPwrStatus, opPwrCfg]

/-- Every opcode, by unit class. -/
def opTable : List OpDef := opsClass1 ++ opsClass2 ++ opsClass3 ++ opsClass4 ++ opsClass5 ++ opsClass6 ++
  opsClass7 ++ opsClass8 ++ opsClass9 ++ opsClass10 ++ opsClass11 ++ opsClass12 ++
  opsClass13 ++ opsClass14 ++ opsClass15 ++ opsClass16 ++ opsClass17 ++ opsClass18

/-- The class C opcodes (R623). -/
def classC : List Nat := [0x0209, 0x0404, 0x0406, 0x0803, 0x0E05, 0x0F09, 0x0F0C, 0x1003, 0x1004, 0x1006, 0x1201]

/-! ### Acceptance -/

/-- Rows 5 to 10 of Table 17.3 for a command that is new to its slot. -/
def acceptNew (op : Nat) (h : CmdHdr) (p : List Nat) : Eff := dyn fun s =>
  let r := runOf h op p
  if s.rd PWR_STATUS.STATE == 4 || (s.lifecycle == 4 && op != 0x0101 && op != 0x0102) then nop
  else if s.dev == 0 && !bootOps.contains op then replyTo r .busyBoot 0 (fun _ => [])
  else match opTable.find? (fun o => o.code == op) with
  | none => replyTo r .badOpcode 0 (fun _ => [])
  | some o => felwinN o h p

/-- A command packet taken by ring `ring` of this device or by way of Batten: the checks of Table 17.3 in order. `ws` are its words: the header
of Table 17.1, the parameters, the CRC. -/
def acceptCmd (ring : Fin 4) (ws : List Nat) : Eff := dyn fun s =>
  let len := nth ws 1 / 65536
  let body := ws.take (4 + len)
  let addr := nth ws 1 % 256
  let op := nth ws 0 % 65536
  let p := body.drop 4
  let h : CmdHdr := ⟨ring, BitVec.ofNat 16 (nth ws 0 / 65536), BitVec.ofNat 16 (nth ws 2), BitVec.ofNat 8 (nth ws 1 / 256)⟩
  let r := runOf h op p
  if 1019 < len || crc32cWords body != nth ws (4 + len) then fun s => [.put CMD_CRC_DROP.ALL 0 (s.rd CMD_CRC_DROP.ALL + 1)]
  else if addr != s.ownAddr then
    (if s.rd CMD_BAT_STAT.COUNT ≤ addr then sendReply (s.mkReply r .noResource 0 [])
     else if s.cmd.enumBusy then sendReply (s.mkReply r .busy 0 [])
     else emit (s.batten addr s.ownAddr ring.val 0 (ws.take (5 + len))))
  else match Tab.get none s.cmd.slots (slotKey ring.val h.seq.toNat) with
  | none => acceptNew op h p
  | some sl =>
    if sl.run.seq = h.seq.toNat ∧ sl.run.session = h.session.toNat then
      match sl.reply with
      | some rep => sendReply { rep with flags := rep.flags ||| 1 }
      | none => sendReply (s.mkReply sl.run .pending 1 [])
    else if sl.reply.isNone then sendReply (s.mkReply r .busy 0 [])
    else acceptNew op h p

/-! ### Intake -/

/-- Whether a slot holds a command whose synchronous part still runs (R613): no class C command, which was answered PENDING, and no lookaside
request, which its engine carries on with. -/
def runsSync (e : Nat × Option Slot) : Bool :=
  match e.2 with | some sl => sl.reply.isNone && !classC.contains sl.run.opcode && sl.run.opcode != 0x0908 | none => false

/-- Whether the interpreter is in the midst of a command. -/
def State.midCommand (s : State) : Bool := s.pair.wait.isSome || s.cmd.slots.any runsSync

/-- The reply entries that ring `r`'s waiting replies still need. -/
def State.waitingEntries (s : State) (r : Nat) : Nat := ((Tab.get [] s.cmd.waiting r).map Reply.entries).foldl (· + ·) 0

/-- Whether a command can be taken from ring `r` (R611, R613). -/
def State.ringReady (s : State) (r : Nat) : Bool :=
  s.on CMD_RING_CFG.EN r && Tab.get 0 s.cmd.prod r != s.rd CMD_RING_STAT.CONS r && decide (16 + s.waitingEntries r ≤ s.freeReplies r)

/-- The next ring in round-robin order that has a command and reply room (R613). -/
def State.nextRing (s : State) : Option (Fin 4) := (([1, 2, 3, 4] : List Nat).map (fun k => Fin.ofNat 4 (s.cmd.lastRing + k))).find? (fun r => s.ringReady r.val)

/-- COMMAND_FETCH (R613, R618): the interpreter takes the next command: one that came over Batten first, else the entry `pkt` of the next ring. -/
def execCommandFetch (pkt : List Word) (s : State) : Out := perform (dyn fun s =>
  if s.midCommand || !s.on CMD_STATUS.RING_OK then nop
  else match s.cmd.inbox with
  | (r, ws) :: rest => seqE [upd (.cmd fun c => { c with inbox := rest }), acceptCmd (Fin.ofNat 4 r) ws]
  | [] =>
    match s.nextRing with
    | none => nop
    | some r => seqE [put CMD_RING_STAT.CONS (s.rd CMD_RING_STAT.CONS r.val + 1) r.val, upd (.cmd fun c => { c with lastRing := r.val }), acceptCmd r (pkt.map (·.toNat))]) s

/-- A reply packet of another device as the head queues it (Table 17.2). -/
def replyOf (ring : Nat) (ws : List Nat) : Reply :=
  ⟨nth ws 1 % 256, ring, nth ws 0 % 65536, nth ws 0 / 65536, nth ws 2 % 65536, nth ws 1 / 256 % 256, nth ws 2 / 65536 % 256, nth ws 2 / 16777216,
   (ws.drop 4).take (nth ws 1 / 65536), false⟩

/-- BATTEN_PACKET_RX (R630): a packet addressed to this device is taken: a command to be run, and at the head a reply, an event or a dump of another
device; one that has come back to its source is discarded; every other is forwarded. -/
def execBattenPacketRx (dst src : BitVec 8) (ring : Fin 4) (typ : BitVec 8) (body : List Word) (s : State) : Out := perform (dyn fun s =>
  let ws := body.map (·.toNat)
  let own := s.rd CMD_BAT_STAT.ADDR
  if src.toNat = own then nop
  else if dst.toNat != own then emit (s.batten dst.toNat src.toNat ring.val typ.toNat ws)
  else match typ.toNat with
  | 0 => if s.midCommand then upd (.cmd fun c => { c with inbox := c.inbox ++ [(ring.val, ws)] }) else acceptCmd ring ws
  | 1 => upd (.cmd fun c => { c with waiting := Tab.set [] c.waiting ring.val (Tab.get [] c.waiting ring.val ++ [replyOf ring.val ws]) })
  | 2 => upd (.enqueue src.toNat (nth ws 0) (nth ws 1) (nth ws 2) (nth ws 3 + 2 ^ 32 * nth ws 4) (ws.drop 5))
  | 3 => dumpToHost src.toNat (4 * ws.length) ws
  | _ => nop) s

/-! ### Timeouts -/

/-- The partial effect of a running command is undone (R623). -/
def cancelRun (r : Running) : Eff := dyn fun s =>
  match r.opcode with
  | 0x0202 => upd (.ltx fun x => { x with loads := x.loads.filter (· != r) })
  | 0x0209 => seqE [upd (.ltx fun x => { x with outRun := none }), whenE (s.ltx.bring != 0) (goDark 1)]
  | 0x0309 => upd (.lrx fun x => { x with qRuns := x.qRuns.filter (· != r) })
  | 0x030C => upd (.ltx fun x => { x with loads := x.loads.filter (· != r) })
  | 0x0404 => seqE [upd (.cnv fun c => { c with fg := none }), put CNV_STATUS.FG_BUSY 0]
  | 0x0406 => upd (.cnv fun c => { c with commit := none })
  | 0x0409 => upd (.cnv fun c => { c with qRuns := c.qRuns.filter (· != r) })
  | 0x0803 => seqE [put SRD_LANE_STAT.SCAN 0 (nth r.par 0), upd (.srd fun x => { x with scans := x.scans.filter (fun e => e.run != r) })]
  | 0x0908 => upd (.vnr fun v => { v with las := v.las.filter (fun q => q.run != r) })
  | 0x0B06 => upd (.ref fun x => { x with realign := none })
  | 0x0E05 => seqE [put MON_STATUS.SYSCAL 0, upd (.mon fun x => { x with cal := none }), forE [0, 1] chainRestart]
  | 0x0F09 => upd (.obs fun o => { o with capRead := none })
  | 0x0F0C => upd (.obs fun o => { o with recRead := none })
  | 0x1003 => upd (.eng fun g => { g with stage := none })
  | 0x1004 => match s.eng.update with
    | some u => seqE [put ENG_FW_STAT.PHASE 4, forE u.swaps fwUndo, put ENG_FW_STAT.PHASE 1, upd (.eng fun g => { g with update := none })]
    | none => nop
  | 0x1006 => upd (.eng fun g => { g with sbxLoad := none })
  | 0x1201 => powerBack
  | _ => nop

/-- CMD_TIMEOUT (R623): the command of SEQ `q` on ring `r`, still running, ends with TIMEOUT and its partial effect is undone. -/
def execCmdTimeout (r : Fin 4) (q : BitVec 16) (s : State) : Out := perform (dyn fun s =>
  match Tab.get none s.cmd.slots (slotKey r.val q.toNat) with
  | some sl => whenE (sl.run.seq == q.toNat && sl.reply.isNone) (seqE [cancelRun sl.run,
      upd (.pair fun x => { x with wait := match x.wait with | some (w, j) => if w = sl.run then none else some (w, j) | none => none }),
      finish sl.run .timeout, raise EV.CMD_TIMEOUT [r.val, q.toNat, sl.run.opcode]])
  | none => nop) s

end Sys2Proof.Machine
end

