-- ==== Sys2Proof/Machine/Frames.lean ====
section
/-!
DEFINITION. A frame received and a frame sent (R248 to R252, R260, R261, R263, R268, R272, R281, R284 to R302, R313 to R318, R527).
-/
namespace Sys2Proof.Machine
open Sys2Proof

/-- A change to layer `l`. -/
def modLayer (l : Nat) (g : Layer → Layer) : Eff := upd (.frm fun f => { f with layers := Tab.set {} f.layers l (g (f.layer l)) })

/-- The multiframe by MFAS (R260): entered after two frames in a row with the expected value, left after five without. -/
def multiframe (mfas : Nat) : Eff := dyn fun s =>
  let expected := match s.frm.mfas with | some m => decide (mfas = (m + 1) % 256) | none => false
  if s.on FRM_STATUS.IM then
    let exp := (s.frm.mfas.getD 0 + 1) % 256
    let bad := if mfas = exp then 0 else s.frm.mfBad + 1
    if 5 ≤ bad then seqE [put FRM_STATUS.IM 0, upd (.frm fun f => { f with mfas := some mfas, mfGood := 0, mfBad := 0 })]
    else upd (.frm fun f => { f with mfas := some exp, mfBad := bad })
  else
    let good := if expected then s.frm.mfGood + 1 else 0
    seqE [upd (.frm fun f => { f with mfas := some mfas, mfGood := good, mfBad := 0 }), whenE (decide (2 ≤ good)) (put FRM_STATUS.IM 1)]

/-- The trail trace byte of layer `l` (R252, R261): a trace is accepted when the same 64 bytes come in three trace multiframes in a row. -/
def takeTti (l b : Nat) : Eff := dyn fun s =>
  let y := s.frm.layer l
  let i := s.frm.mfas.getD 0 % 64
  let buf := if i = 0 then [b] else if y.tti.length = i then y.tti ++ [b] else []
  if !s.on FRM_STATUS.IM then modLayer l (fun y => { y with tti := [] })
  else if buf.length < 64 then modLayer l (fun y => { y with tti := buf })
  else
    let run := if y.ttiCand = buf then y.ttiRun + 1 else 1
    seqE [modLayer l (fun y => { y with tti := [], ttiCand := buf, ttiRun := run }),
      whenE (decide (3 ≤ run) && y.ttiAcc != some buf) (seqE [modLayer l (fun y => { y with ttiAcc := some buf }), raise EV.TTI_CHANGE (l :: packBytes (buf.take 16))])]

/-- Whether the accepted trace differs from the expected one in the parts TIM_MODE compares: SAPI is bytes 0 to 15, DAPI 16 to 31
(log entry 19). -/
def State.tim (s : State) (l : Nat) : Bool :=
  match (s.frm.layer l).ttiAcc with
  | none => false
  | some a =>
    let e := Tab.get (List.replicate 64 0) s.frm.ttiExp l
    (bit (s.rd FRM_CA_CFG.TIM_MODE) 0 && a.take 16 != e.take 16) || (bit (s.rd FRM_CA_CFG.TIM_MODE) 1 && (a.drop 16).take 16 != (e.drop 16).take 16)

/-- AIS, LCK or OCI, `code` with STAT `v`, on layer `l` by the last three STAT values. -/
def judgeStat (code v l : Nat) : Eff := dyn fun s =>
  let h := (s.frm.layer l).stats
  if h.length = 3 ∧ h.all (· == v) then declareDefect code l
  else whenE (h.length == 3 && h.all (· != v)) (clearDefect code l)

/-- RDI on layer `l` by the last five BDI values. -/
def judgeRdi (l : Nat) : Eff := dyn fun s =>
  let h := (s.frm.layer l).bdis
  if h.length = 5 ∧ h.all id then declareDefect 8 l
  else whenE (h.length == 5 && h.all (!·)) (clearDefect 8 l)

/-- TIM on layer `l`. -/
def judgeTim (l : Nat) : Eff := dyn fun s => if s.tim l then declareDefect 9 l else clearDefect 9 l

/-- A frame's overhead on layer `l`: violations, errored blocks, BDI. -/
def takeLayer (l bip : Nat) (bei bdi : Bool) : Eff := modLayer l (fun y => { y with
  bipv := y.bipv + bip, neb := y.neb + b2n (decide (0 < bip)), feb := y.feb + b2n bei, bdis := (bdi :: y.bdis).take 5 })

/-- STAT of layer `l`. -/
def takeStat (l v : Nat) : Eff := seqE [modLayer l (fun y => { y with stats := (v :: y.stats).take 3 }), judgeStat 5 7 l, judgeStat 6 5 l, judgeStat 7 6 l]

/-- An ODUflex frame's overhead. -/
def takeFlex (x : FlexOh) : Eff := dyn fun s =>
  if !s.layerOn (2 + x.t.val) then nop
  else seqE [takeLayer (2 + x.t.val) x.bip (decide (0 < x.bei)) x.bdi, takeStat (2 + x.t.val) x.stat.toNat, judgeRdi (2 + x.t.val)]

/-- The received move takes effect at the first frame of a superframe at or after S (R314). -/
def rxSwitch : Eff := dyn fun s =>
  match s.cli.rxMove with
  | none => nop
  | some (m, pend) =>
    if 32768 ≤ (s.lrx.sfNum + 65536 - m.sf) % 65536 then nop
    else
      let vs := (List.range pend.length).zip pend
      seqE [acceptEntries vs, upd (.cli fun c => { c with rxMove := none, rxVer := some m.ver, late := c.late.filter (· != m.ch) }),
        upd (.cli fun c => { c with ent := vs.foldl (fun e x => Tab.set (0, 0) e x.1 (x.2, 3)) c.ent }), judgeSlots]

/-- The bytes of overhead channel `c` in a frame: those of its slices, in slice order. -/
def State.ohFrame (s : State) (c n : Nat) (bytes : List Nat) : List Nat := (s.ohSlices c n).flatMap (fun k => [nth bytes (2 * k), nth bytes (2 * k + 1)])

/-- Overhead channel `c` of a received frame (R272). -/
def takeOh (c : Nat) (bytes : List Nat) : Eff := dyn fun s =>
  let f := s.ohFrame c (otucOf s.rxMode s.rxN) bytes
  if f.isEmpty then nop
  else match s.rd FRM_OHC_ROUTE.RX_DEST c with
  | 1 => seqE [ohWrite c true f, drainOh c 4]
  | 2 => ohWrite c true f
  | _ => nop

/-- Of overhead that every slice has, the violations of the parity `got` against that of the OPU two frames before (R268; log entry 155). -/
def State.violations (s : State) (got : List Nat) : List Nat :=
  match s.frm.rxBip with
  | [_, old] => ((List.range got.length).zip got).map (fun p => onesOf (p.2 ^^^ nth old p.1))
  | _ => got.map (fun _ => 0)

/-! ### Demapping (R294 to R297, R299, R302) -/

/-- The blocks of Ethernet channel `t` go to its host lanes, or back to the line in a line loop, where the lanes send local fault (R294 to R297,
R318): one with a marked bit is replaced and counted. In a host loop the lanes send the client's own stream. -/
def deliverEth (t : Nat) (bs : List (BitVec 66 × Bool)) : Eff := dyn fun s =>
  let out := bs.map (fun b => if b.2 then errorBlock else b.1)
  let host := fun bs => emit (.eth t (Config.ethEgress (s.rd CLI_CH_CFG.TYPE t) (s.rd CLI_CH_CFG.RATE t) bs))
  seqE [count (cliCnt t 0) (bs.filter (·.2)).length,
    match s.rd CLI_CH_CTRL.LOOP t with
    | 1 => nop
    | 2 => seqE [upd (.cli fun c => { c with blocks := Tab.set [] c.blocks t (Tab.get [] c.blocks t ++ out) }), host (faultBlocks bs.length)]
    | _ => host out]

/-- A tributary under fill (R264, R296, R302): an Ethernet channel sends local fault, a CBR channel the frames of R302 at its own frame times. -/
def fillEgress (t : Nat) : Eff := dyn fun s =>
  whenE (s.isEth t && s.rd CLI_CH_CTRL.LOOP t != 1)
    (emit (.eth t (Config.ethEgress (s.rd CLI_CH_CFG.TYPE t) (s.rd CLI_CH_CFG.RATE t) (faultBlocks (flexBits (s.rd CLI_CH_CFG.SLOTS t) s.frm.txFrames / 66)))))

/-- Whether channel `t` takes part in the receiver's frames: its tributary is neither filled nor in mismatch, absent or late. -/
def State.flows (s : State) (t : Nat) : Bool := s.carried t && s.slotState t == 0 && !s.fillTrib t

/-- What tributary `t` holds in a received frame, from its bytes with their marks (R281, R297, R299, R302, R362). -/
def takeTrib (t mfas : Nat) (bs : List (Nat × Bool)) : Eff := dyn fun s =>
  let typ := s.rd CLI_CH_CFG.TYPE t
  let plain := fun (xs : List (Bool × Bool)) => if s.chBound t then Config.plainText t s.frm.frames xs else xs
  if typ = 6 then
    let frame := bs.take (15296 * s.rd CLI_CH_CFG.M t)
    let bits := plain (frame.flatMap (fun b => (msbFirst 8 b.1).map (·, b.2)))
    seqE [whenE (frame.any (·.2)) (count (cliCnt t 0)),
      match s.rd CLI_CH_CTRL.LOOP t with
      | 1 => nop
      | l => cbrWrite t (l == 2) (packBits (bits.map (·.1)))]
  else
    let bits := plain (Config.odtuUnmap (s.rxSlots t) mfas bs)
    if typ = 7 then
      let (n, r) := prbsErrs (bits.map (·.1)) (Tab.get 0 s.cli.prbsRx t)
      seqE [upd (.cli fun c => { c with prbsRx := Tab.set 0 c.prbsRx t r }), count (cliCnt t 1) n]
    else
      let all := Tab.get [] s.cli.egBits t ++ bits
      let n := all.length / 66
      seqE [upd (.cli fun c => { c with egBits := Tab.set [] c.egBits t (all.drop (66 * n)) }), deliverEth t (bitBlocks n all)]

/-- A protected block or a unit that the buffer to Veneer or to the client demapper (`dem`) cannot take is discarded and counted, and its
positions carry fill (R29). -/
def dropTrib (t : Nat) (dem : Bool) : Eff := seqE [count (if dem then 38 else 37), emit (.fill t true), fillEgress t]

/-- The tributaries of a received frame. `waits` says how many units wait for a channel, and whether before the client demapper. -/
def takeTribs (f n mfas : Nat) (slices : List (List Nat)) (marked : List Nat) (waits : List (Fin 32 × Bool × Nat)) : Eff := dyn fun s =>
  forE s.channels fun t => dyn fun s =>
    match waits.find? (fun w => w.1.val == t && decide (bufCap ≤ w.2.2)) with
    | some w => dropTrib t w.2.1
    | none => if s.flows t then takeTrib t mfas (chanBytes f n s.rxOwner slices marked t) else fillEgress t

/-- The channels of an interoperable line frame, in order (R275, R288, R294). -/
def takeInterop (bytes marked : List Nat) : Eff := dyn fun s =>
  let cs := s.channels.filter s.carried
  forE (cs.zip (Config.interopClients s.rxMode bytes marked)) fun p => dyn fun s => if s.fillTrib p.1 then fillEgress p.1 else deliverEth p.1 p.2

/-- RX_FRAME (R29, R248, R250 to R252, R260, R261, R263, R268, R272, R275, R281, R294 to R299, R302, R314, R527): the slice frames as the line
carries them, the 16-byte words with an UNCORR mark, the ODUflex overhead, and how many units wait before the framer and behind it. A frame that the
framer's buffer cannot take counts as errored, one violation each in SM and ODUC PM, and nothing else of it is read (R29; log entry 23). -/
def execRxFrame (f : RxFrame) (s : State) : Out := perform (dyn fun s =>
  let raw := f.slices.map (·.map (·.toNat))
  let sl := raw.map scramble
  let n := otucOf s.rxMode s.rxN
  let s1 := sl.getD 0 []
  let at1 := byteAt s1
  let sm := s.violations (sl.map (byteAt · 1 9))
  let pm := s.violations (sl.map (byteAt · 3 11))
  let bei := fun (r c : Nat) => sl.any (fun x => decide (0 < byteAt x r c / 16))
  let gcc := fun (r c : Nat) => sl.flatMap (fun x => [byteAt x r c, byteAt x r (c + 1)])
  let sum := fun (l : List Nat) => l.foldl (· + ·) 0
  if !s.inFrame then nop
  else if bufCap ≤ f.held then seqE [count 36, upd (.frm fun x => { x with frames := x.frames + 1, rxBip := [] }), takeLayer 0 1 false false, takeLayer 1 1 false false]
  else if interopMode s.rxMode then seqE [upd (.frm fun x => { x with frames := x.frames + 1 }),
    whenE (!f.marked.isEmpty) (seqE [count 259, modLayer 0 (fun y => { y with neb := y.neb + 1 })]), takeInterop raw.flatten f.marked]
  else seqE [
    upd (.frm fun x => { x with frames := x.frames + 1, beiSm := sm, beiPm := pm, rxBip := (sl.map sliceBip :: x.rxBip).take 2 }),
    whenE (!f.marked.isEmpty) (count 259), multiframe (at1 1 7),
    takeLayer 0 (sum sm) (bei 1 10) (bit (at1 1 10) 3), takeLayer 1 (sum pm) (bei 3 12) (bit (at1 3 12) 3),
    takeStat 1 (at1 3 12 % 8), judgeRdi 0, judgeRdi 1,
    takeTti 0 (at1 1 8), takeTti 1 (at1 3 10), judgeTim 0, judgeTim 1,
    forE f.flex takeFlex,
    takeOh 0 (gcc 1 11), takeOh 1 (gcc 4 1), takeOh 2 (gcc 4 3),
    rxSwitch, judgeFill,
    takeTribs (at1 4 16) n (at1 1 7) sl f.marked f.waits,
    dyn fun s => ownDigest 1 s.lrx.sfNum (frameDigest n sl) (!f.marked.isEmpty)]) s

/-! ### Transmit -/

/-- A pending move is announced from the first PSI multiframe after acceptance (R313). -/
def announceMove : Eff := dyn fun s =>
  match s.cli.move with
  | none => nop
  | some m => if s.frm.txMfas != 0 || m.said then nop
    else seqE [upd (.cli fun c => { c with move := some { m with said := true } }), raise EV.TRIB_MOVE_ANNOUNCED [m.ch, m.ver, m.sf]]

/-- A pending move takes effect at the first frame at or after S (R313). -/
def txSwitch : Eff := dyn fun s =>
  match s.cli.move with
  | none => nop
  | some m => if 32768 ≤ (s.rd LTX_SF_NUM.ALL + 65536 - m.sf) % 65536 then nop else seqE [applyMove m.sf, judgeProt]

/-- The owner of slot `q` in the pending map (Table 8.3): the active one while no announced move is pending. -/
def State.pendOwner (s : State) (q : Nat) : Nat :=
  let o := s.rd CLI_TS_OWNER.OWNER q
  match s.cli.move with
  | some m => if !m.said then o else if m.slots.contains q then m.ch else if o = m.ch then 255 else o
  | none => o

/-- The move record, bytes 82 to 86 (Table 8.3). -/
def State.moveRecord (s : State) : List Nat :=
  match s.cli.move with
  | some m => if m.said then [m.ch, m.ver, m.sf / 256, m.sf % 256, 1] else [0xFF, s.cli.ver, 0, 0, 0]
  | none => [0xFF, s.cli.ver, 0, 0, 0]

/-- PSI byte `k` of slice `i`, counted from 0 (R290, R291). -/
def State.psi (s : State) (i k : Nat) : Nat :=
  let half := fun v j => if j % 2 = 0 then v / 256 else v % 256
  if k = 0 then 0x22
  else if k < 2 then 0
  else if k < 42 then half (mapEntry (s.rd CLI_TS_OWNER.OWNER (20 * i + (k - 2) / 2))) k
  else if k < 82 then half (mapEntry (s.pendOwner (20 * i + (k - 42) / 2))) k
  else if i = 0 ∧ k < 87 then nth s.moveRecord (k - 82)
  else if i = 0 ∧ k = 87 then crc8 s.moveRecord
  else 0

/-- Overhead channel `c` of a frame to send (R272, R273): zero bytes, the engine buffer with its idle time filled by flags, or the slip
buffer of the forwarded client; the frame then stands as the last one read. -/
def sendOh (c : Nat) : Eff := dyn fun s =>
  let n := 2 * (s.ohSlices c (otucOf s.txMode s.txN)).length
  match s.rd FRM_OHC_ROUTE.TX_SRC c with
  | 1 => if s.quiet then modOh c (fun o => { o with txLast := List.replicate n 0x7E })
    else modOh c (fun o => { o with txEng := o.txEng.drop n, txLast := (o.txEng ++ List.replicate n 0x7E).take n })
  | 2 => ohRead c false
  | _ => modOh c (fun o => { o with txLast := List.replicate n 0 })

/-- The CBR channels the line carries. -/
def State.cbrChannels (s : State) : List Nat := s.channels.filter (fun t => s.isCbr t && s.carried t)

/-- Whether tributary `t` carries the ingress-failure signal (R295, R302, R309, R318): during an ingress failure and in a host loop. -/
def State.ingSignal (s : State) (t : Nat) : Bool := s.on CLI_CH_STAT.ING_FAIL t && s.rd CLI_CH_CTRL.LOOP t != 2 || s.rd CLI_CH_CTRL.LOOP t == 1

/-- Each CBR tributary takes one client frame; during an ingress failure its replacement frames go out and the buffer rests (R299, R300,
R302). -/
def sendCbr : Eff := dyn fun s => forE s.cbrChannels fun t =>
  if s.ingSignal t then upd (.cli fun c => { c with ingLast := Tab.set [] c.ingLast t (s.aisNext t false) }.aisOn t false) else cbrRead t true

/-- The bits from the host lanes of an Ethernet channel (R294, R318): their blocks wait to be mapped, or in a host loop go back to the lanes; in a
line loop they go nowhere. -/
def takeEth (t : Nat) (bits : List Bool) : Eff := dyn fun s =>
  let bs := Config.ethIngress (s.rd CLI_CH_CFG.TYPE t) (s.rd CLI_CH_CFG.RATE t) bits
  if !s.isEth t || s.on CLI_CH_STAT.ING_FAIL t then nop
  else match s.rd CLI_CH_CTRL.LOOP t with
  | 1 => emit (.eth t (Config.ethEgress (s.rd CLI_CH_CFG.TYPE t) (s.rd CLI_CH_CFG.RATE t) bs))
  | 2 => nop
  | _ => upd (.cli fun c => { c with blocks := Tab.set [] c.blocks t (Tab.get [] c.blocks t ++ bs) })

/-- A tributary of the transmitter whose unit the client-ingress buffer cannot take carries fill in its place (R29). -/
def State.ingDropped (waits : List (Fin 32 × Nat)) (t : Nat) : Bool := waits.any (fun w => w.1.val == t && decide (bufCap ≤ w.2))

/-- The payload bits of the ODUflex of channel `t` in the frame to send, and the client block after it (R281, R286, R294, R295, R315): PRBS31, the
local fault stream, or the client's blocks at the rate of its slots. -/
def State.flexNext (s : State) (c : CliSt) (t : Nat) : List Bool × CliSt :=
  let need := flexBits (s.rd CLI_CH_CFG.SLOTS t) s.frm.txFrames
  let begun := Tab.get [] c.inBits t
  let cut := fun (bs : List Bool) (c : CliSt) => (bs.take need, { c with inBits := Tab.set [] c.inBits t (bs.drop need) })
  if s.rd CLI_CH_CFG.TYPE t = 7 then
    let (bs, r) := lfsrRun 31 prbs31 need (Tab.get (2 ^ 31 - 1) c.prbsTx t)
    (bs, { c with prbsTx := Tab.set (2 ^ 31 - 1) c.prbsTx t r })
  else if s.ingSignal t then cut (begun ++ blockBits (faultBlocks (need / 66 + 1))) { c with inPkt := Tab.set false c.inPkt t false }
  else
    let q := Tab.get [] c.blocks t
    let (bs, q', p) := adaptRate Config.idleDepth (need + q.length) (need - begun.length) q (Tab.get false c.inPkt t)
    cut (begun ++ blockBits bs) { c with blocks := Tab.set [] c.blocks t q', inPkt := Tab.set false c.inPkt t p }

/-- The bytes of tributary `t` in the frame to send and the client block after it (R286, R299, R362). -/
def State.tribNext (s : State) (waits : List (Fin 32 × Nat)) (c : CliSt) (t : Nat) : List Nat × CliSt :=
  let cipher := fun (bs : List Bool) => if s.chBound t then Config.cipherText t s.frm.txFrames bs else bs
  let lay := fun (bs : List Bool) =>
    if s.isCbr t then packBits (cipher bs) else Config.odtuMap (s.rd CLI_CH_CFG.SLOTS t) s.frm.txMfas (s.bdiFlex t) 1 (cipher bs)
  let (bs, c') := if s.isCbr t then (byteBits (Tab.get [] c.ingLast t), c) else s.flexNext c t
  (lay (if State.ingDropped waits t then bs.map (fun _ => true) else bs), c')

/-- The bytes of every carried tributary, and the client block after them. -/
def State.tribsNext (s : State) (waits : List (Fin 32 × Nat)) : Tab (List Nat) × CliSt :=
  (s.channels.filter s.carried).foldl (fun a t => let (bs, c) := s.tribNext waits a.2 t; (Tab.set [] a.1 t bs, c)) ([], s.cli)

/-- A byte of a queue that drains into a channel, flags behind it (R252). -/
def flagByte (q : List Nat) (k : Nat) : Nat := q.getD k 0x7E

/-- The bytes of slice `i` in overhead channel `c`, zeros where the channel does not use it (R272). -/
def State.ohBytes (s : State) (c n i : Nat) : Nat × Nat :=
  match (s.ohSlices c n).findIdx? (· == i) with
  | some k => (nth (s.frm.ohc c).txLast (2 * k), nth (s.frm.ohc c).txLast (2 * k + 1))
  | none => (0, 0)

/-- The overhead words of slice `i` of the frame to send (Tables 7.2 and 8.3). In SM and PM the BEI lies in bits 7 to 4, BDI in bit 3 and STAT in bits
2 to 0; the frame count modulo 20 in row 4, column 16 tells the turn of the slots (log entry 155). -/
def State.ohWords (s : State) (n i : Nat) : List (List Nat) :=
  let k := s.frm.txMfas
  let tti := fun l => nth (Tab.get [] s.frm.ttiTx l) (k % 64)
  let bip := match s.frm.txBip with | [_, old] => nth old i | _ => 0
  let opu := fun r c => (Config.opuByte r c i k).toNat
  let g := fun c => s.ohBytes c n i
  [ohWord [(1, 0xF6), (2, 0xF6), (3, 0xF6), (4, 0x28), (5, 0x28), (6, 0x28), (7, k), (8, tti 0), (9, bip), (10, 16 * nth s.frm.beiSm i + 8 * b2n s.bdiSm),
      (11, (g 0).1), (12, (g 0).2), (14, flagByte s.adapt.out i), (15, opu 1 15), (16, opu 1 16)],
    ohWord ((if i = 0 then [(1, flagByte s.frm.timeOut 0), (2, flagByte s.frm.timeOut 1)] else []) ++ [(15, opu 2 15), (16, opu 2 16)]),
    ohWord [(10, tti 1), (11, bip), (12, 16 * nth s.frm.beiPm i + 8 * b2n s.bdiPm + 1), (15, opu 3 15), (16, opu 3 16)],
    ohWord [(1, (g 1).1), (2, (g 1).2), (3, (g 2).1), (4, (g 2).2), (15, s.psi i k), (16, s.frm.txFrames % 20)]]

/-- The slice frames of the frame to send, before scrambling (R248, R251, R284, R299). -/
def State.slicesNext (s : State) (n : Nat) (tribs : Tab (List Nat)) : List (List Nat) :=
  let ws := layWords s.frm.txFrames (s.rd CLI_TS_OWNER.OWNER) (lineWords n) tribs
  (List.range n).map (fun i => sliceOf (s.ohWords n i) (wordsOf n i ws))

/-- The frame as it goes out. -/
def State.otuc (s : State) : Output :=
  let n := otucOf s.txMode s.txN
  let k := s.frm.txMfas
  let tti := fun l => nth (Tab.get [] s.frm.ttiTx l) (k % 64)
  let bei := fun (v : List Nat) => (List.range n).map (fun i => nth v i)
  .otuc k ([tti 0, b2n s.bdiSm] ++ bei s.frm.beiSm) ([tti 1, b2n s.bdiPm] ++ bei s.frm.beiPm) ((List.range n).map (fun i => s.psi i k))
    ((List.range 3).map (fun c => (s.frm.ohc c).txLast)) (((List.range 32).filter s.bdiFlex).foldl (fun a t => a + 2 ^ t) 0)
    (s.cbrChannels.map (fun t => (t, Tab.get [] s.cli.ingLast t)))

/-- The slice frames go out scrambled, with the tributaries' bytes; the queues of the device's channels, the parity of the last two frames and the
counts of frames move on. -/
def sendSlices (waits : List (Fin 32 × Nat)) : Eff := dyn fun s =>
  let n := otucOf s.txMode s.txN
  let (tribs, c) := s.tribsNext waits
  let sl := s.slicesNext n tribs
  seqE [emit (.slices (sl.map scramble)), upd (.cli fun _ => c), upd (.adapt fun a => { a with out := a.out.drop n }),
    upd (.frm fun f => { f with txMfas := (f.txMfas + 1) % 256, txFrames := f.txFrames + 1, txBip := (sl.map sliceBip :: f.txBip).take 2, timeOut := f.timeOut.drop 2 }),
    ownDigest 0 (s.rd LTX_SF_NUM.ALL) (frameDigest n sl) false]

/-- The line frame of an interoperable mode takes the blocks that wait (R288, R294). -/
def sendInterop : Eff := dyn fun s =>
  let cs := s.channels.filter s.carried
  let bs := fun t => if s.ingSignal t then faultBlocks (max 1 (Tab.get [] s.cli.blocks t).length) else Tab.get [] s.cli.blocks t
  seqE [emit (.slices [Config.interopMap s.txMode (cs.map bs)]), upd (.cli fun c => { c with blocks := cs.foldl (fun b t => Tab.set [] b t []) c.blocks })]

/-- TX_FRAME (R29, R248 to R252, R281, R284 to R286, R290, R294, R295, R299, R313, R527): one OTUCn frame, or one frame of an interoperable mode.
`held` units wait in the framer's buffer and, of `waits`, in the client-ingress buffers: what a full one cannot take is counted and its place filled;
`eth` holds the bits from the host lanes of the Ethernet channels in the frame's time. -/
def execTxFrame (held : Nat) (waits : List (Fin 32 × Nat)) (eth : List (Fin 32 × List Bool)) (s : State) : Out := perform (dyn fun s =>
  let full := decide (bufCap ≤ held)
  let lost := if full then (s.channels.filter s.carried).map (fun t => (Fin.ofNat 32 t, bufCap)) else waits
  if !s.sending then nop
  else seqE [forE eth (fun e => takeEth e.1.val e.2), if nativeMode s.txMode then seqE [
      forE (waits.filter (fun w => decide (bufCap ≤ w.2))) (fun _ => count 32), whenE full (count 33),
      forE (lost.filter (fun w => decide (bufCap ≤ w.2))) (fun w => emit (.fill w.1.val false)),
      txSwitch, announceMove, forE (List.range 3) sendOh, sendCbr, dyn fun s => emit s.otuc, sendSlices lost]
    else sendInterop]) s

end Sys2Proof.Machine
end

