-- ==== Sys2Proof/Machine/Journal.lean ====
section
/-!
DEFINITION. The glue-up at work (R513, R518 to R523, R531): heartbeats received, journal entries and snapshots applied, the acknowledgement's
timeout.
-/
namespace Sys2Proof.Machine
open Sys2Proof

/-! ### The command that waits for its acknowledgement -/

/-- The command waiting for its journal entry is applied and answered (R518). -/
def releaseWait : Eff := dyn fun s =>
  match s.pair.wait with
  | none => nop
  | some (r, _) => seqE [upd (.pair fun q => { q with wait := none }), dyn fun t =>
    match opTable.find? (fun o => o.code == r.opcode) with
    | none => nop
    | some o => actAndReply r (o.answer ⟨Fin.ofNat 4 r.ring, BitVec.ofNat 16 r.seq, BitVec.ofNat 16 r.session, BitVec.ofNat 8 r.flags⟩ r.par t)]

/-- JOURNAL_ACK_TIMEOUT (R511, R518): the active applies and answers the waiting command, its mate becoming STALE; at a STANDBY, the active's word
that this has happened. -/
def execJournalAckTimeout (s : State) : Out := perform (dyn fun s =>
  if s.pair.wait.isSome then seqE [releaseWait, dyn fun t => whenE (t.role == 1) mateStale]
  else whenE (s.paired && s.role == 2) (setRole 3 7)) s

/-! ### Changes the mate sends -/

/-- The header a journalled command runs under: FLAGS that no accepted command has, so that no reply is sent here. -/
def mateHdr : CmdHdr := ⟨0, 0, 0, 255⟩

/-- The fields of the register at offset `off`, of a block that the categories of Table 14.4 are in, take their values from `w`, as they are. -/
def takeValue (off w : Nat) : Eff := match findReg off with
  | none => nop
  | some (r, i) => dyn fun s => whenE (configBlock (off / 0x100000)) <|
    let v := if r.size = 8 then halfWord (s.word r.flds i) w (decide (off ≠ r.at i)) else w
    forE r.flds (fun f => put f (f.raw v) i)

/-- The current generation of a slot is changed by `g`. -/
def modGen (p k : Nat) (g : KeyGen → KeyGen) : Eff := modSlot p k (fun y => { y with cur := y.cur.map g })

/-- One change of the glue-up takes effect (R517, R519): a command by its own body, whatever this unit's role; a register by the write the
active's host made, or by its value. -/
def applyGlue (g : Glue) : Eff := match g with
  | .command code par => dyn fun s =>
    match opTable.find? (fun o => o.code == code.toNat) with
    | none => nop
    | some o =>
      let a := o.body mateHdr (par.map (·.toNat)) s
      whenE (decide (a.status = .ok ∨ a.status = .pending ∨ a.status = .late)) (seqE [a.eff, a.after])
  | .write off w => busWrite 2 (off.toNat / 4 * 4) w.toNat
  | .value off w => takeValue (off.toNat / 4 * 4) w.toNat
  | .key p k salt key => keyEnters p.val k.val (key.map (·.toNat)) salt.toNat
  | .inlineSeq p k n => modGen p.val k.val (fun c => { c with seq := n.toNat })
  | .laCount p k n => modGen p.val k.val (fun c => { c with la := n.toNat })
  | .accumulator n => upd (.ltx fun x => { x with acc := n })
  | .backOff => startBackoff
  | .second t n ls => upd (.frm fun f => { f with recs := (⟨t.toNat, n, ls.map (·.map (·.toNat)), false⟩ :: f.recs).take 900 })

/-- The entries held that follow PAIR_JSEQ without a gap are applied in order (R519); a STANDBY then lets them go, a STALE unit keeps them until a
snapshot contains them. -/
def drainHeld : Nat → Eff
  | 0 => nop
  | n + 1 => dyn fun s =>
    match s.pair.held.find? (fun e => e.1 == (s.rd PAIR_JSEQ.ALL + 1) % 2 ^ 32) with
    | none => nop
    | some e => seqE [put PAIR_JSEQ.ALL e.1, whenE (s.role == 2) (upd (.pair fun q => { q with held := q.held.filter (fun x => x.1 != e.1) })),
        applyGlue e.2, drainHeld n]

/-- Whether an entry is held behind a gap. -/
def State.gapped (s : State) : Bool := s.pair.held.any (fun e => jAfter e.1 (s.rd PAIR_JSEQ.ALL))

/-- A STALE unit that has applied a snapshot and has the journal contiguous from its cut becomes STANDBY (R511), unless R530 keeps it STALE; one
that returns to service starts its wait-to-restore (R541). -/
def trySync : Eff := dyn fun s => whenE (s.role == 3 && s.pair.snapIn && !s.gapped && !s.pair.unresHold) (seqE [
  setRole 2 10, put PAIR_STATUS.SYNCED 1, upd (.pair fun q => { q with held := [] }), raise EV.PAIR_SYNCED [s.rd PAIR_EPOCH.ALL, s.pair.jcut],
  whenE s.pair.returning (seqE [put PAIR_STATUS.WTR_RUN 1, put PAIR_STATUS.WTR_LEFT (s.rd PAIR_TIMERS.WTR)])])

/-- JOURNAL_ENTRY_RX (R519): an entry of the active's journal, held until those before it have come, then applied. -/
def execJournalEntryRx (jseq : Word) (g : Glue) (s : State) : Out := perform (dyn fun s =>
  let q := jseq.toNat
  if !(s.paired && s.on PAIR_STATUS.LINK && (s.role == 2 || s.role == 3)) || (s.role == 2 && !jAfter q (s.rd PAIR_JSEQ.ALL)) || s.pair.held.any (fun e => e.1 == q) then nop
  else seqE [upd (.pair fun x => { x with held := x.held ++ [(q, g)] }), drainHeld (s.pair.held.length + 1), trySync]) s

/-- A snapshot whose digest checks is applied (R521, R523): what it holds where this unit's journal has not already brought it past the cut, the
superframe number, then the entries held from the cut on. -/
def takeSnapshot (x : Snapshot) : Eff := dyn fun s => seqE [
  upd (.pair fun q => { q with snapFails := 0, snapIn := true, jcut := x.cut.toNat }), put PAIR_EPOCH.ALL x.epoch.toNat,
  whenE (s.role == 3 || jAfter x.cut.toNat (s.rd PAIR_JSEQ.ALL)) (seqE [
    upd (.pair fun q => { q with held := q.held.filter (fun e => jAfter e.1 x.cut.toNat) }), put PAIR_JSEQ.ALL x.cut.toNat,
    forE x.items applyGlue, put LTX_SF_NUM.ALL ((x.sf.toNat + x.since) % 65536),
    dyn fun t => drainHeld t.pair.held.length]),
  dyn fun t => if t.role == 3 then trySync else whenE (!t.gapped) (raise EV.PAIR_SYNCED [x.epoch.toNat, x.cut.toNat])]

/-- SNAPSHOT_RX (R521): a complete snapshot from the active. -/
def execSnapshotRx (x : Snapshot) (s : State) : Out := perform (dyn fun s =>
  if !(s.paired && s.on PAIR_STATUS.LINK && (s.role == 2 || s.role == 3)) then nop
  else if x.digestOk then takeSnapshot x else snapFail 2) s

/-! ### Heartbeats -/

/-- The acknowledgement a HEARTBEAT carries to the active (R518, R519, R522): what the mate holds need not be sent again, what the snapshot it
applied contains need not be kept, and a waiting command whose entry it holds is done. -/
def takeAck (epoch ack : Nat) : Eff := dyn fun s => seqE [
  whenE (jAfter ack (s.rd PAIR_JACK.ALL) && !jAfter ack (s.rd PAIR_JSEQ.ALL)) (put PAIR_JACK.ALL ack),
  whenE (epoch == s.rd PAIR_EPOCH.ALL) (upd (.pair fun q =>
    let kept := q.kept.filter (fun e => jAfter e.jseq q.jcut)
    { q with kept := kept, keptBytes := (kept.map (fun e => 16 + 4 * e.body.length)).foldl (· + ·) 0 })),
  dyn fun t => match t.pair.wait with
  | some (_, j) => whenE (!jAfter j (t.rd PAIR_JACK.ALL)) releaseWait
  | none => nop]

/-- HEARTBEAT_RX (R513, R518 to R522, R531): the mate's role, health, last complete epoch and acknowledgement, whether its receiver is LOCKED and
in frame, and whether it asks for a new cut. The active cuts a snapshot for a mate that has become STALE and is unprotected when one
that was STANDBY or STALE is out of service; a STANDBY whose own receiver is good promotes after 1 ms in which the active's is not. -/
def execHeartbeatRx (role : Fin 5) (healthy : Bool) (epoch ack : Word) (locked inFrame asks : Bool) (s : State) : Out := perform (dyn fun s =>
  let was := s.rd PAIR_STATUS.MATE_ROLE
  let n := if s.role == 2 && role.val == 1 && s.rxGood && !(locked && inFrame) then s.pair.badHb + 1 else 0
  if !(s.paired && s.on PAIR_STATUS.LINK) then nop
  else seqE [
    put PAIR_STATUS.MATE_ROLE role.val,
    upd (.pair fun q => { q with mateHealthy := healthy, mateLocked := locked, mateEpoch := epoch.toNat, badHb := n }),
    whenE (s.role == 1) (seqE [
      takeAck epoch.toNat ack.toNat,
      whenE (asks || (role.val == 3 && was != 3)) cutSnapshot,
      whenE (role.val == 0 && (was == 2 || was == 3)) (raise EV.PAIR_UNPROTECTED [0])]),
    whenE (decide (10 ≤ n)) (promote 3 2)]) s

end Sys2Proof.Machine
end

