-- ==== Sys2Proof/Machine/Dispatch.lean ====
section
/-!
DEFINITION. One arm for each command: the direct call of its meaning.
-/
namespace Sys2Proof.Machine
open Sys2Proof

def exec (i : Instr) (s : State) : Host.Outcome State Fault Refusal :=
  match i with
  | .secondBoundary => Sys2Proof.Machine.execSecondBoundary s
  | .minuteBoundary => Sys2Proof.Machine.execMinuteBoundary s
  | .registerWrite m off be w => Sys2Proof.Machine.execRegisterWrite m off be w s
  | .fabricTimeout k m off rd => Sys2Proof.Machine.execFabricTimeout k m off rd s
  | .ltxModeSet h p => Sys2Proof.Machine.execLtxModeSet h p s
  | .ltxModeWrite m mode n => Sys2Proof.Machine.execLtxModeWrite m mode n s
  | .ltxPlanLoad h p => Sys2Proof.Machine.execLtxPlanLoad h p s
  | .planBoundsReady => Sys2Proof.Machine.execPlanBoundsReady s
  | .ltxPlanCommit h p => Sys2Proof.Machine.execLtxPlanCommit h p s
  | .planChgCommit m => Sys2Proof.Machine.execPlanChgCommit m s
  | .ltxPlanCancel h p => Sys2Proof.Machine.execLtxPlanCancel h p s
  | .planChgCancel m => Sys2Proof.Machine.execPlanChgCancel m s
  | .ltxPlanGet h p => Sys2Proof.Machine.execLtxPlanGet h p s
  | .ltxBiasCtrl h p => Sys2Proof.Machine.execLtxBiasCtrl h p s
  | .biasSweep m => Sys2Proof.Machine.execBiasSweep m s
  | .biasSweepDone => Sys2Proof.Machine.execBiasSweepDone s
  | .ditherCycle => Sys2Proof.Machine.execDitherCycle s
  | .biasDwellEnd => Sys2Proof.Machine.execBiasDwellEnd s
  | .ltxLaserSet h p => Sys2Proof.Machine.execLtxLaserSet h p s
  | .ltxLaserStatus h p => Sys2Proof.Machine.execLtxLaserStatus h p s
  | .lasEnWrite m p en => Sys2Proof.Machine.execLasEnWrite m p en s
  | .lasFreqWrite m p v => Sys2Proof.Machine.execLasFreqWrite m p v s
  | .lasFtfWrite m p v => Sys2Proof.Machine.execLasFtfWrite m p v s
  | .ftfApply p => Sys2Proof.Machine.execFtfApply p s
  | .lasReset m p => Sys2Proof.Machine.execLasReset m p s
  | .laserPoll p statusF statusW => Sys2Proof.Machine.execLaserPoll p statusF statusW s
  | .itlaResponseTimeout p => Sys2Proof.Machine.execItlaResponseTimeout p s
  | .laserFaultPin p => Sys2Proof.Machine.execLaserFaultPin p s
  | .laserTuned p lf ftfr oop ctemp => Sys2Proof.Machine.execLaserTuned p lf ftfr oop ctemp s
  | .laserTuneTimeout p => Sys2Proof.Machine.execLaserTuneTimeout p s
  | .laserResetRetry p => Sys2Proof.Machine.execLaserResetRetry p s
  | .ltxOutput h p => Sys2Proof.Machine.execLtxOutput h p s
  | .outEnWrite m v => Sys2Proof.Machine.execOutEnWrite m v s
  | .outputRampDone => Sys2Proof.Machine.execOutputRampDone s
  | .biasLockTimeout => Sys2Proof.Machine.execBiasLockTimeout s
  | .superframeBoundary hist => Sys2Proof.Machine.execSuperframeBoundary hist s
  | .darkTimeTick => Sys2Proof.Machine.execDarkTimeTick s
  | .loLightChange present => Sys2Proof.Machine.execLoLightChange present s
  | .lrxModeSet h p => Sys2Proof.Machine.execLrxModeSet h p s
  | .lrxModeWrite m mode n => Sys2Proof.Machine.execLrxModeWrite m mode n s
  | .lrxEnable h p => Sys2Proof.Machine.execLrxEnable h p s
  | .rxEnWrite m v => Sys2Proof.Machine.execRxEnWrite m v s
  | .lrxAcqCfg h p => Sys2Proof.Machine.execLrxAcqCfg h p s
  | .lrxEqCfg h p => Sys2Proof.Machine.execLrxEqCfg h p s
  | .lrxFreeze h p => Sys2Proof.Machine.execLrxFreeze h p s
  | .lrxRestart h p => Sys2Proof.Machine.execLrxRestart h p s
  | .lrxRestartGo m => Sys2Proof.Machine.execLrxRestartGo m s
  | .lrxStatus h p => Sys2Proof.Machine.execLrxStatus h p s
  | .lrxTapsGet h p => Sys2Proof.Machine.execLrxTapsGet h p s
  | .sigPresentSet => Sys2Proof.Machine.execSigPresentSet s
  | .sigPresentClear => Sys2Proof.Machine.execSigPresentClear s
  | .gainSettled pow => Sys2Proof.Machine.execGainSettled pow s
  | .freqEstimateDone spectra => Sys2Proof.Machine.execFreqEstimateDone spectra s
  | .dispBatchDone metrics => Sys2Proof.Machine.execDispBatchDone metrics s
  | .symbolWindowEnd pow cross wins => Sys2Proof.Machine.execSymbolWindowEnd pow cross wins s
  | .trainingWordDetect sc pos xs ys => Sys2Proof.Machine.execTrainingWordDetect sc pos xs ys s
  | .pilotWindowEnd wins => Sys2Proof.Machine.execPilotWindowEnd wins s
  | .rxSuperframeBoundary frames => Sys2Proof.Machine.execRxSuperframeBoundary frames s
  | .superframeHeaderRx hdr => Sys2Proof.Machine.execSuperframeHeaderRx hdr s
  | .stageTimeout => Sys2Proof.Machine.execStageTimeout s
  | .acqTimeout => Sys2Proof.Machine.execAcqTimeout s
  | .restartPauseEnd => Sys2Proof.Machine.execRestartPauseEnd s
  | .holdExpired => Sys2Proof.Machine.execHoldExpired s
  | .warmTimeout => Sys2Proof.Machine.execWarmTimeout s
  | .lrxQuality h p => Sys2Proof.Machine.execLrxQuality h p s
  | .lrxCrSet h p => Sys2Proof.Machine.execLrxCrSet h p s
  | .lrxAdaptSet h p => Sys2Proof.Machine.execLrxAdaptSet h p s
  | .lrxRplanLoad h p => Sys2Proof.Machine.execLrxRplanLoad h p s
  | .lrxRplanGet h p => Sys2Proof.Machine.execLrxRplanGet h p s
  | .lrxAdaptNow h p => Sys2Proof.Machine.execLrxAdaptNow h p s
  | .lrxQTake m => Sys2Proof.Machine.execLrxQTake m s
  | .lrxQSnapDone => Sys2Proof.Machine.execLrxQSnapDone s
  | .slipClr m => Sys2Proof.Machine.execSlipClr m s
  | .adaptEnWrite m tx rx => Sys2Proof.Machine.execAdaptEnWrite m tx rx s
  | .snrReportSend => Sys2Proof.Machine.execSnrReportSend s
  | .snrReport crcOk plan dd snr margin uncorr => Sys2Proof.Machine.execSnrReport crcOk plan dd snr margin uncorr s
  | .reportStale => Sys2Proof.Machine.execReportStale s
  | .offer crcOk seq id prev words => Sys2Proof.Machine.execOffer crcOk seq id prev words s
  | .held crcOk seq id => Sys2Proof.Machine.execHeld crcOk seq id s
  | .refuse crcOk seq id reason => Sys2Proof.Machine.execRefuse crcOk seq id reason s
  | .rollbackReq crcOk leave ret reason => Sys2Proof.Machine.execRollbackReq crcOk leave ret reason s
  | .offerReplyTimeout => Sys2Proof.Machine.execOfferReplyTimeout s
  | .adaptBackoffEnd => Sys2Proof.Machine.execAdaptBackoffEnd s
  | .verifyEnd => Sys2Proof.Machine.execVerifyEnd s
  | .calStatus h p => Sys2Proof.Machine.execCalStatus h p s
  | .calBgSet h p => Sys2Proof.Machine.execCalBgSet h p s
  | .calRefSet h p => Sys2Proof.Machine.execCalRefSet h p s
  | .calRun h p vdev fdev => Sys2Proof.Machine.execCalRun h p vdev fdev s
  | .calFgDone sets enob figs => Sys2Proof.Machine.execCalFgDone sets enob figs s
  | .fgTimeout => Sys2Proof.Machine.execFgTimeout s
  | .calAbort h p => Sys2Proof.Machine.execCalAbort h p s
  | .calCommit h p vdd => Sys2Proof.Machine.execCalCommit h p vdd s
  | .fuseRowWriteDone same => Sys2Proof.Machine.execFuseRowWriteDone same s
  | .fuseVddLoss n k => Sys2Proof.Machine.execFuseVddLoss n k s
  | .calExport h p => Sys2Proof.Machine.execCalExport h p s
  | .calLoad h p => Sys2Proof.Machine.execCalLoad h p s
  | .calQuality h p => Sys2Proof.Machine.execCalQuality h p s
  | .calSlice h p trim => Sys2Proof.Machine.execCalSlice h p trim s
  | .cnvQTake m => Sys2Proof.Machine.execCnvQTake m s
  | .cnvQSnapDone => Sys2Proof.Machine.execCnvQSnapDone s
  | .calPassStart => Sys2Proof.Machine.execCalPassStart s
  | .sliceStepStart m => Sys2Proof.Machine.execSliceStepStart m s
  | .sliceHandover m trim d pin => Sys2Proof.Machine.execSliceHandover m trim d pin s
  | .sliceCalDone m gain offset resid => Sys2Proof.Machine.execSliceCalDone m gain offset resid s
  | .sliceFault n test trim => Sys2Proof.Machine.execSliceFault n test trim s
  | .sliceRetest n pass => Sys2Proof.Machine.execSliceRetest n pass s
  | .sliceReturn n trim diffs => Sys2Proof.Machine.execSliceReturn n trim diffs s
  | .refCheck vdev fdev => Sys2Proof.Machine.execRefCheck vdev fdev s
  | .bgEstimatorUpdate est u gain offset timing steps => Sys2Proof.Machine.execBgEstimatorUpdate est u gain offset timing steps s
  | .fecCfg h p => Sys2Proof.Machine.execFecCfg h p s
  | .fecStatus h p => Sys2Proof.Machine.execFecStatus h p s
  | .fecCounters h p => Sys2Proof.Machine.execFecCounters h p s
  | .fecInject h p => Sys2Proof.Machine.execFecInject h p s
  | .fecGeometry h p => Sys2Proof.Machine.execFecGeometry h p s
  | .fecCntClr m => Sys2Proof.Machine.execFecCntClr m s
  | .fecOneShot m => Sys2Proof.Machine.execFecOneShot m s
  | .fecInjDone => Sys2Proof.Machine.execFecInjDone s
  | .fecBlockEncode net held => Sys2Proof.Machine.execFecBlockEncode net held s
  | .fecBlockDecode ys held => Sys2Proof.Machine.execFecBlockDecode ys held s
  | .frmCfg h p => Sys2Proof.Machine.execFrmCfg h p s
  | .frmStatus h p => Sys2Proof.Machine.execFrmStatus h p s
  | .frmPmGet h p => Sys2Proof.Machine.execFrmPmGet h p s
  | .frmTtiSet h p => Sys2Proof.Machine.execFrmTtiSet h p s
  | .frmTtiGet h p => Sys2Proof.Machine.execFrmTtiGet h p s
  | .frmOhcCfg h p => Sys2Proof.Machine.execFrmOhcCfg h p s
  | .frmOhcXfer h p => Sys2Proof.Machine.execFrmOhcXfer h p s
  | .frmCntClr m => Sys2Proof.Machine.execFrmCntClr m s
  | .frmResync m => Sys2Proof.Machine.execFrmResync m s
  | .fasDetect off blk marker => Sys2Proof.Machine.execFasDetect off blk marker s
  | .candidateCheck off sees => Sys2Proof.Machine.execCandidateCheck off sees s
  | .resolutionWindowEnd => Sys2Proof.Machine.execResolutionWindowEnd s
  | .inFrameCheck sees => Sys2Proof.Machine.execInFrameCheck sees s
  | .rxFrame f => Sys2Proof.Machine.execRxFrame f s
  | .txFrame held waits eth => Sys2Proof.Machine.execTxFrame held waits eth s
  | .losClear => Sys2Proof.Machine.execLosClear s
  | .lofDeclare => Sys2Proof.Machine.execLofDeclare s
  | .lofClear => Sys2Proof.Machine.execLofClear s
  | .lomDeclare => Sys2Proof.Machine.execLomDeclare s
  | .lomClear => Sys2Proof.Machine.execLomClear s
  | .pmSecond => Sys2Proof.Machine.execPmSecond s
  | .cliAdd h p => Sys2Proof.Machine.execCliAdd h p s
  | .cliRemove h p => Sys2Proof.Machine.execCliRemove h p s
  | .cliMove h p => Sys2Proof.Machine.execCliMove h p s
  | .cliMoveCancel h p => Sys2Proof.Machine.execCliMoveCancel h p s
  | .cliStatus h p => Sys2Proof.Machine.execCliStatus h p s
  | .cliCounters h p => Sys2Proof.Machine.execCliCounters h p s
  | .cliTsCfg h p => Sys2Proof.Machine.execCliTsCfg h p s
  | .cliLoop h p => Sys2Proof.Machine.execCliLoop h p s
  | .cliSlotMap h p => Sys2Proof.Machine.execCliSlotMap h p s
  | .cliCntClr m => Sys2Proof.Machine.execCliCntClr m s
  | .psiMultiframe act pend rec => Sys2Proof.Machine.execPsiMultiframe act pend rec s
  | .clientIngressFail t why lane skew errs => Sys2Proof.Machine.execClientIngressFail t why lane skew errs s
  | .ingressFailClear t skew => Sys2Proof.Machine.execIngressFailClear t skew s
  | .clientUp t => Sys2Proof.Machine.execClientUp t s
  | .ptpMessageRx p m => Sys2Proof.Machine.execPtpMessageRx p m s
  | .ptpMessageTx p kind => Sys2Proof.Machine.execPtpMessageTx p kind s
  | .srdLaneSet h p => Sys2Proof.Machine.execSrdLaneSet h p s
  | .srdStatus h p => Sys2Proof.Machine.execSrdStatus h p s
  | .srdEyeScan h p => Sys2Proof.Machine.execSrdEyeScan h p s
  | .eyeDone n aborted errs vstep phase => Sys2Proof.Machine.execEyeDone n aborted errs vstep phase s
  | .srdJigSet h p => Sys2Proof.Machine.execSrdJigSet h p s
  | .srdJigGet h p => Sys2Proof.Machine.execSrdJigGet h p s
  | .srdCntClr m => Sys2Proof.Machine.execSrdCntClr m s
  | .laneRetrain m n => Sys2Proof.Machine.execLaneRetrain m n s
  | .jigInject m n => Sys2Proof.Machine.execJigInject m n s
  | .jigLock n bits errs => Sys2Proof.Machine.execJigLock n bits errs s
  | .jigUnlock n bits errs => Sys2Proof.Machine.execJigUnlock n bits errs s
  | .lanePowerUp k => Sys2Proof.Machine.execLanePowerUp k s
  | .laneTrained n => Sys2Proof.Machine.execLaneTrained n s
  | .trainTimeout n => Sys2Proof.Machine.execTrainTimeout n s
  | .trainRetry n => Sys2Proof.Machine.execTrainRetry n s
  | .laneSignalLoss n => Sys2Proof.Machine.execLaneSignalLoss n s
  | .align g lanes active next good => Sys2Proof.Machine.execAlign g lanes active next good s
  | .laneWtrEnd n => Sys2Proof.Machine.execLaneWtrEnd n s
  | .packetRx g cols noAlign => Sys2Proof.Machine.execPacketRx g cols noAlign s
  | .vnrCfg h p => Sys2Proof.Machine.execVnrCfg h p s
  | .vnrStatus h p => Sys2Proof.Machine.execVnrStatus h p s
  | .vnrPageSet h p => Sys2Proof.Machine.execVnrPageSet h p s
  | .vnrKeyLoad h p => Sys2Proof.Machine.execVnrKeyLoad h p s
  | .vnrKeySwitch h p => Sys2Proof.Machine.execVnrKeySwitch h p s
  | .vnrKeyErase h p => Sys2Proof.Machine.execVnrKeyErase h p s
  | .vnrBind h p => Sys2Proof.Machine.execVnrBind h p s
  | .vnrLa h p => Sys2Proof.Machine.execVnrLa h p s
  | .laDone n aad data mis => Sys2Proof.Machine.execLaDone n aad data mis s
  | .vnrCounters h p => Sys2Proof.Machine.execVnrCounters h p s
  | .vnrRearm h p => Sys2Proof.Machine.execVnrRearm h p s
  | .vnrCtrlRearm m => Sys2Proof.Machine.execVnrCtrlRearm m s
  | .vnrCntClr m => Sys2Proof.Machine.execVnrCntClr m s
  | .protModeWrite m v => Sys2Proof.Machine.execProtModeWrite m v s
  | .vnrTxBlock t pipe why => Sys2Proof.Machine.execVnrTxBlock t pipe why s
  | .vnrKatDone dir pipe pass => Sys2Proof.Machine.execVnrKatDone dir pipe pass s
  | .vnrRxBlock t pipe kp ka fill gen seq filled tagOk marked mis => Sys2Proof.Machine.execVnrRxBlock t pipe kp ka fill gen seq filled tagOk marked mis s
  | .retainedGenErase p k => Sys2Proof.Machine.execRetainedGenErase p k s
  | .keyAge p k la => Sys2Proof.Machine.execKeyAge p k la s
  | .keyExhausted p k => Sys2Proof.Machine.execKeyExhausted p k s
  | .keyRotationTimer p => Sys2Proof.Machine.execKeyRotationTimer p s
  | .sensorAlarm b => Sys2Proof.Machine.execSensorAlarm b s
  | .sensorRekey => Sys2Proof.Machine.execSensorRekey s
  | .drbgHealthFail => Sys2Proof.Machine.execDrbgHealthFail s
  | .drbgHealthPass => Sys2Proof.Machine.execDrbgHealthPass s
  | .scrCfgSet h p => Sys2Proof.Machine.execScrCfgSet h p s
  | .scrTrust h p => Sys2Proof.Machine.execScrTrust h p s
  | .scrStatus h p => Sys2Proof.Machine.execScrStatus h p s
  | .scrPeers h p => Sys2Proof.Machine.execScrPeers h p s
  | .scrRestart h p => Sys2Proof.Machine.execScrRestart h p s
  | .scrCtrlRestart m => Sys2Proof.Machine.execScrCtrlRestart m s
  | .scrCntClr m => Sys2Proof.Machine.execScrCntClr m s
  | .scrEnWrite m v => Sys2Proof.Machine.execScrEnWrite m v s
  | .syncWordDetect k => Sys2Proof.Machine.execSyncWordDetect k s
  | .hello x => Sys2Proof.Machine.execHello x s
  | .kex src seq pub nonce sigOk => Sys2Proof.Machine.execKex src seq pub nonce sigOk s
  | .propose src seq mode shape => Sys2Proof.Machine.execPropose src seq mode shape s
  | .accept src seq of => Sys2Proof.Machine.execAccept src seq of s
  | .reject src seq of reason => Sys2Proof.Machine.execReject src seq of reason s
  | .keys src seq ks => Sys2Proof.Machine.execKeys src seq ks s
  | .keysAck src seq of pages => Sys2Proof.Machine.execKeysAck src seq of pages s
  | .go src seq of => Sys2Proof.Machine.execGo src seq of s
  | .goSent => Sys2Proof.Machine.execGoSent s
  | .reneg src seq mode => Sys2Proof.Machine.execReneg src seq mode s
  | .rotate src seq page => Sys2Proof.Machine.execRotate src seq page s
  | .holdOffEnd => Sys2Proof.Machine.execHoldOffEnd s
  | .helloTimer => Sys2Proof.Machine.execHelloTimer s
  | .beaconLight => Sys2Proof.Machine.execBeaconLight s
  | .selectionWindowEnd => Sys2Proof.Machine.execSelectionWindowEnd s
  | .scrReplyTimeout => Sys2Proof.Machine.execScrReplyTimeout s
  | .negTimeout => Sys2Proof.Machine.execNegTimeout s
  | .scrHoldEnd => Sys2Proof.Machine.execScrHoldEnd s
  | .scrLive => Sys2Proof.Machine.execScrLive s
  | .goLiveTimeout => Sys2Proof.Machine.execGoLiveTimeout s
  | .relockTimeout => Sys2Proof.Machine.execRelockTimeout s
  | .peerHelloLost => Sys2Proof.Machine.execPeerHelloLost s
  | .refCfg h p => Sys2Proof.Machine.execRefCfg h p s
  | .refCandSet h p => Sys2Proof.Machine.execRefCandSet h p s
  | .candFreqWrite m c v => Sys2Proof.Machine.execCandFreqWrite m c v s
  | .refSelect h p => Sys2Proof.Machine.execRefSelect h p s
  | .refStatus h p => Sys2Proof.Machine.execRefStatus h p s
  | .refOutSet h p => Sys2Proof.Machine.execRefOutSet h p s
  | .refRealign h p => Sys2Proof.Machine.execRefRealign h p s
  | .realignStep cmd mask moves => Sys2Proof.Machine.execRealignStep cmd mask moves s
  | .refActivity c edges => Sys2Proof.Machine.execRefActivity c edges s
  | .freqGateEnd c off => Sys2Proof.Machine.execFreqGateEnd c off s
  | .refQualifyEnd c => Sys2Proof.Machine.execRefQualifyEnd c s
  | .driftEval => Sys2Proof.Machine.execDriftEval s
  | .buildoutEnd => Sys2Proof.Machine.execBuildoutEnd s
  | .dpllLock => Sys2Proof.Machine.execDpllLock s
  | .dpllUnlock err => Sys2Proof.Machine.execDpllUnlock err s
  | .dpllHistoryTick freq phase => Sys2Proof.Machine.execDpllHistoryTick freq phase s
  | .clampExpired => Sys2Proof.Machine.execClampExpired s
  | .oscLost => Sys2Proof.Machine.execOscLost s
  | .esmcRx t ssm enh => Sys2Proof.Machine.execEsmcRx t ssm enh s
  | .esmcTx => Sys2Proof.Machine.execEsmcTx s
  | .qlTimeout k => Sys2Proof.Machine.execQlTimeout k s
  | .lineQlRx b0 b1 b2 b3 => Sys2Proof.Machine.execLineQlRx b0 b1 b2 b3 s
  | .compatPulse o err => Sys2Proof.Machine.execCompatPulse o err s
  | .todGet h p => Sys2Proof.Machine.execTodGet h p s
  | .todStep h p => Sys2Proof.Machine.execTodStep h p s
  | .todStepApply => Sys2Proof.Machine.execTodStepApply s
  | .todRearm h p => Sys2Proof.Machine.execTodRearm h p s
  | .todRateSet h p => Sys2Proof.Machine.execTodRateSet h p s
  | .ptpCfg h p => Sys2Proof.Machine.execPtpCfg h p s
  | .ptpPortSet h p => Sys2Proof.Machine.execPtpPortSet h p s
  | .ptpStatus h p => Sys2Proof.Machine.execPtpStatus h p s
  | .lineDelay h p => Sys2Proof.Machine.execLineDelay h p s
  | .asymAccept h p => Sys2Proof.Machine.execAsymAccept h p s
  | .schedSet h p => Sys2Proof.Machine.execSchedSet h p s
  | .schedCancel h p => Sys2Proof.Machine.execSchedCancel h p s
  | .schedFire e => Sys2Proof.Machine.execSchedFire e s
  | .todLatch m => Sys2Proof.Machine.execTodLatch m s
  | .todCntClr m => Sys2Proof.Machine.execTodCntClr m s
  | .timeBaseOk => Sys2Proof.Machine.execTimeBaseOk s
  | .lineStampRx bytes => Sys2Proof.Machine.execLineStampRx bytes s
  | .lineAnnounceRx bytes => Sys2Proof.Machine.execLineAnnounceRx bytes s
  | .asymHoldEnd => Sys2Proof.Machine.execAsymHoldEnd s
  | .servoSecond => Sys2Proof.Machine.execServoSecond s
  | .parentMeasureDone => Sys2Proof.Machine.execParentMeasureDone s
  | .announceTimeout p => Sys2Proof.Machine.execAnnounceTimeout p s
  | .holdoverExpiry => Sys2Proof.Machine.execHoldoverExpiry s
  | .pairCfg h p => Sys2Proof.Machine.execPairCfg h p s
  | .pairStatus h p => Sys2Proof.Machine.execPairStatus h p s
  | .pairSwitch h p => Sys2Proof.Machine.execPairSwitch h p s
  | .pairPromote h p => Sys2Proof.Machine.execPairPromote h p s
  | .pairOos h p => Sys2Proof.Machine.execPairOos h p s
  | .pairReturn h p => Sys2Proof.Machine.execPairReturn h p s
  | .pairSnapshot h p => Sys2Proof.Machine.execPairSnapshot h p s
  | .pairSpares h p => Sys2Proof.Machine.execPairSpares h p s
  | .pairCntClr m => Sys2Proof.Machine.execPairCntClr m s
  | .heartbeatTx => Sys2Proof.Machine.execHeartbeatTx s
  | .heartbeatRx role healthy epoch ack locked inFrame asks => Sys2Proof.Machine.execHeartbeatRx role healthy epoch ack locked inFrame asks s
  | .mitreLinkLost groupDown => Sys2Proof.Machine.execMitreLinkLost groupDown s
  | .mitreLinkUp x => Sys2Proof.Machine.execMitreLinkUp x s
  | .pairAuthRetry x => Sys2Proof.Machine.execPairAuthRetry x s
  | .pegTx => Sys2Proof.Machine.execPegTx s
  | .pegPulse us => Sys2Proof.Machine.execPegPulse us s
  | .pegLoss => Sys2Proof.Machine.execPegLoss s
  | .deathWinEnd => Sys2Proof.Machine.execDeathWinEnd s
  | .journalEntryRx jseq g => Sys2Proof.Machine.execJournalEntryRx jseq g s
  | .journalAckTimeout => Sys2Proof.Machine.execJournalAckTimeout s
  | .journalResend => Sys2Proof.Machine.execJournalResend s
  | .failRx row => Sys2Proof.Machine.execFailRx row s
  | .gapEnd => Sys2Proof.Machine.execGapEnd s
  | .snapshotPeriod => Sys2Proof.Machine.execSnapshotPeriod s
  | .snapshotRx x => Sys2Proof.Machine.execSnapshotRx x s
  | .snapshotTimeout => Sys2Proof.Machine.execSnapshotTimeout s
  | .digestBatchRx d ds => Sys2Proof.Machine.execDigestBatchRx d ds s
  | .digestMissing d ftag => Sys2Proof.Machine.execDigestMissing d ftag s
  | .identificationDone own mate => Sys2Proof.Machine.execIdentificationDone own mate s
  | .pairWtrEnd => Sys2Proof.Machine.execPairWtrEnd s
  | .plannedHandover => Sys2Proof.Machine.execPlannedHandover s
  | .mitreTimeStamp offset rate => Sys2Proof.Machine.execMitreTimeStamp offset rate s
  | .engWatchdog e => Sys2Proof.Machine.execEngWatchdog e s
  | .engEcc e corrected => Sys2Proof.Machine.execEngEcc e corrected s
  | .engTrap e => Sys2Proof.Machine.execEngTrap e s
  | .taskResume sp pass => Sys2Proof.Machine.execTaskResume sp pass s
  | .engineRetest e pass => Sys2Proof.Machine.execEngineRetest e pass s
  | .spareWtrEnd e => Sys2Proof.Machine.execSpareWtrEnd e s
  | .sharedSramError c => Sys2Proof.Machine.execSharedSramError c s
  | .monCfg h p => Sys2Proof.Machine.execMonCfg h p s
  | .monStart h p => Sys2Proof.Machine.execMonStart h p s
  | .monRead h p => Sys2Proof.Machine.execMonRead h p s
  | .monTrigger h p => Sys2Proof.Machine.execMonTrigger h p s
  | .monSyscal h p => Sys2Proof.Machine.execMonSyscal h p s
  | .monSyscalDone z0 f0 z1 f1 => Sys2Proof.Machine.execMonSyscalDone z0 f0 z1 f1 s
  | .monStatus h p => Sys2Proof.Machine.execMonStatus h p s
  | .monCntClr m => Sys2Proof.Machine.execMonCntClr m s
  | .monInterleaveWrite m v => Sys2Proof.Machine.execMonInterleaveWrite m v s
  | .monQRead m q => Sys2Proof.Machine.execMonQRead m q s
  | .monTimerTrigger m => Sys2Proof.Machine.execMonTimerTrigger m s
  | .dsyncPulse => Sys2Proof.Machine.execDsyncPulse s
  | .monDelayEnd m => Sys2Proof.Machine.execMonDelayEnd m s
  | .monWord m bs t => Sys2Proof.Machine.execMonWord m bs t s
  | .obsSnapshot h p => Sys2Proof.Machine.execObsSnapshot h p s
  | .obsCntRead h p => Sys2Proof.Machine.execObsCntRead h p s
  | .obsCntPreset h p => Sys2Proof.Machine.execObsCntPreset h p s
  | .obsEvtRoute h p => Sys2Proof.Machine.execObsEvtRoute h p s
  | .obsDumpCfg h p => Sys2Proof.Machine.execObsDumpCfg h p s
  | .obsBwCfg h p => Sys2Proof.Machine.execObsBwCfg h p s
  | .capCfg h p => Sys2Proof.Machine.execCapCfg h p s
  | .capTrigger h p => Sys2Proof.Machine.execCapTrigger h p s
  | .capRead h p => Sys2Proof.Machine.execCapRead h p s
  | .capReadDone => Sys2Proof.Machine.execCapReadDone s
  | .capRearm h p => Sys2Proof.Machine.execCapRearm h p s
  | .recCfg h p => Sys2Proof.Machine.execRecCfg h p s
  | .recRead h p => Sys2Proof.Machine.execRecRead h p s
  | .recReadDone n first last part => Sys2Proof.Machine.execRecReadDone n first last part s
  | .recHold h p => Sys2Proof.Machine.execRecHold h p s
  | .recStatus h p => Sys2Proof.Machine.execRecStatus h p s
  | .obsCntClr m => Sys2Proof.Machine.execObsCntClr m s
  | .bwClear m => Sys2Proof.Machine.execBwClear m s
  | .obsSnapTake m => Sys2Proof.Machine.execObsSnapTake m s
  | .obsPreset m index => Sys2Proof.Machine.execObsPreset m index s
  | .wrapClear m k mask => Sys2Proof.Machine.execWrapClear m k mask s
  | .dumpPeriod => Sys2Proof.Machine.execDumpPeriod s
  | .bwWindowEnd w bytes => Sys2Proof.Machine.execBwWindowEnd w bytes s
  | .triggerInputFire t => Sys2Proof.Machine.execTriggerInputFire t s
  | .capFrozen soft filled => Sys2Proof.Machine.execCapFrozen soft filled s
  | .drainDone soft ms => Sys2Proof.Machine.execDrainDone soft ms s
  | .segmentWriteDone => Sys2Proof.Machine.execSegmentWriteDone s
  | .driveFail port nvmeError code => Sys2Proof.Machine.execDriveFail port nvmeError code s
  | .driveReady port blocks smart => Sys2Proof.Machine.execDriveReady port blocks smart s
  | .eqCoalesceEnd => Sys2Proof.Machine.execEqCoalesceEnd s
  | .cmdDoorbell m r v => Sys2Proof.Machine.execCmdDoorbell m r v s
  | .commandFetch pkt => Sys2Proof.Machine.execCommandFetch pkt s
  | .replyWrite r => Sys2Proof.Machine.execReplyWrite r s
  | .replyAck m r v => Sys2Proof.Machine.execReplyAck m r v s
  | .dumpConsWrite m v => Sys2Proof.Machine.execDumpConsWrite m v s
  | .cmdTimeout r q => Sys2Proof.Machine.execCmdTimeout r q s
  | .identify h p => Sys2Proof.Machine.execIdentify h p s
  | .status h p => Sys2Proof.Machine.execStatus h p s
  | .sysStateSet h p => Sys2Proof.Machine.execSysStateSet h p s
  | .sysSessionOpen h p => Sys2Proof.Machine.execSysSessionOpen h p s
  | .sysSessionClose h p => Sys2Proof.Machine.execSysSessionClose h p s
  | .sysSlotRelease h p => Sys2Proof.Machine.execSysSlotRelease h p s
  | .sysRegAccess h p => Sys2Proof.Machine.execSysRegAccess h p s
  | .battenStatus h p => Sys2Proof.Machine.execBattenStatus h p s
  | .engStatus h p => Sys2Proof.Machine.execEngStatus h p s
  | .engCfg h p => Sys2Proof.Machine.execEngCfg h p s
  | .fwStage h p => Sys2Proof.Machine.execFwStage h p s
  | .fwStageDone hdr body => Sys2Proof.Machine.execFwStageDone hdr body s
  | .fwActivate h p => Sys2Proof.Machine.execFwActivate h p s
  | .fwProbationEnd => Sys2Proof.Machine.execFwProbationEnd s
  | .fwCommit h p => Sys2Proof.Machine.execFwCommit h p s
  | .sbxLoad h p => Sys2Proof.Machine.execSbxLoad h p s
  | .sbxLoadDone hdr body => Sys2Proof.Machine.execSbxLoadDone hdr body s
  | .sbxCtrl h p => Sys2Proof.Machine.execSbxCtrl h p s
  | .sbxMsg h p taken posted => Sys2Proof.Machine.execSbxMsg h p taken posted s
  | .battenRestart m => Sys2Proof.Machine.execBattenRestart m s
  | .battenTokenRx a n check ids => Sys2Proof.Machine.execBattenTokenRx a n check ids s
  | .battenPacketRx dst src ring typ body => Sys2Proof.Machine.execBattenPacketRx dst src ring typ body s
  | .enumTimeout => Sys2Proof.Machine.execEnumTimeout s
  | .enumRetry => Sys2Proof.Machine.execEnumRetry s
  | .pcieHostReset down => Sys2Proof.Machine.execPcieHostReset down s
  | .secStatus h p => Sys2Proof.Machine.execSecStatus h p s
  | .secCerts h p => Sys2Proof.Machine.execSecCerts h p s
  | .attest h p => Sys2Proof.Machine.execAttest h p s
  | .secSessionKey h p => Sys2Proof.Machine.execSecSessionKey h p s
  | .secNonce h p => Sys2Proof.Machine.execSecNonce h p s
  | .secLifecycle h p => Sys2Proof.Machine.execSecLifecycle h p s
  | .secCustkey h p => Sys2Proof.Machine.execSecCustkey h p s
  | .secReset h p => Sys2Proof.Machine.execSecReset h p s
  | .pwrStateSet h p => Sys2Proof.Machine.execPwrStateSet h p s
  | .pwrTransitionDone ms => Sys2Proof.Machine.execPwrTransitionDone ms s
  | .pwrStatus h p => Sys2Proof.Machine.execPwrStatus h p s
  | .pwrCfg h p => Sys2Proof.Machine.execPwrCfg h p s
  | .lifecycleReset => Sys2Proof.Machine.execLifecycleReset s
  | .deviceReset => Sys2Proof.Machine.execDeviceReset s
  | .powerOnReset => Sys2Proof.Machine.execPowerOnReset s
  | .debugReset unlocked => Sys2Proof.Machine.execDebugReset unlocked s
  | .wake => Sys2Proof.Machine.execWake s
  | .porstRelease => Sys2Proof.Machine.execPorstRelease s
  | .fuseReadDone => Sys2Proof.Machine.execFuseReadDone s
  | .keeperBoot => Sys2Proof.Machine.execKeeperBoot s
  | .engineImageLoaded => Sys2Proof.Machine.execEngineImageLoaded s
  | .bootReady => Sys2Proof.Machine.execBootReady s
  | .svnRetry => Sys2Proof.Machine.execSvnRetry s
  | .keeperAlarm watchdog => Sys2Proof.Machine.execKeeperAlarm watchdog s
  | .thermalEval temps => Sys2Proof.Machine.execThermalEval temps s
  | .setAliasWrite m off w => Sys2Proof.Machine.execSetAliasWrite m off w s
  | .clearAliasWrite m off w => Sys2Proof.Machine.execClearAliasWrite m off w s
  | .lowWordRead m off => Sys2Proof.Machine.execLowWordRead m off s
  | .highWordRead m off => Sys2Proof.Machine.execHighWordRead m off s
  | .lowWordWrite m off w => Sys2Proof.Machine.execLowWordWrite m off w s
  | .highWordWrite m off w => Sys2Proof.Machine.execHighWordWrite m off w s
  | .accSelfRead m => Sys2Proof.Machine.execAccSelfRead m s
  | .intStatClear m b which w => Sys2Proof.Machine.execIntStatClear m b which w s
  | .sysLockSet m mask => Sys2Proof.Machine.execSysLockSet m mask s
  | .eqConsWrite m v => Sys2Proof.Machine.execEqConsWrite m v s
  | .gpioEdge n level => Sys2Proof.Machine.execGpioEdge n level s
  | .msixUnmask v en fmask => Sys2Proof.Machine.execMsixUnmask v en fmask s
  | .oscInActive => Sys2Proof.Machine.execOscInActive s
  | .lineQlMessageTx => Sys2Proof.Machine.execLineQlMessageTx s
  | .pcieLinkUp => Sys2Proof.Machine.execPcieLinkUp s
  | .clientFrameIngress t frame gcc => Sys2Proof.Machine.execClientFrameIngress t frame gcc s
  | .clientFrameEgress t => Sys2Proof.Machine.execClientFrameEgress t s

end Sys2Proof.Machine
end

