-- ==== Sys2Proof/Machine/Step.lean ====
section
/-!
DEFINITION. One step: the command at the front of the queue, or, with none waiting, one tick of the timing domain.
-/
namespace Sys2Proof.Machine
open Sys2Proof

/-- With no command waiting, one TIM tick of 1.28 ns passes (Table 1.2): the free-running count and the time-of-day counter
advance (R468; DESIGN CHOICE, log entry 3). -/
def idle : Eff := todTick

/-- One step: the front of the queue is executed with the queue's rest. -/
def step (s : State) : Host.Outcome State Fault Refusal :=
  match s.pending with
  | [] => perform idle s
  | c :: cs => exec c { s with pending := cs }

/-- `s` with the command a word spells put at the front of its queue; unchanged where it spells none. -/
def State.withFetchWord (s : State) (nbits w : Nat) : State :=
  match decodeTableWord nbits w with
  | some c => { s with pending := c :: s.pending }
  | none => s

end Sys2Proof.Machine
end

