-- ==== Sys2Proof/Machine/May.lean ====
section
/-!
DEFINITION. What each command may change, for the statements of what it leaves: the register fields, the events it may raise, the counters it may
move, and the parts of the state that no register shows. Event raising, recording and the register writes of a bus master have their own statements.
-/
namespace Sys2Proof.Machine
open Sys2Proof

/-- The parts of the state that no register shows. Of `pair` the journal (the waiting command and the entries kept) and the sessions told of a
promotion are parts of their own, of `cmd` the reply slots and the waiting replies; `bank` is the register bank with the snapshot count. -/
inductive Comp where
  | fuse | sys | obs | cmd | slots | eng | tod | pair | journal | told | sec | pwr | ltx | lrx | adapt | cnv | fec | cli | vnr | srd | frm | scr | ref | mon
  | bank | tick | draws
  deriving DecidableEq, Repr

/-- What a command may change: its group, the fields, the events, the counters as intervals (first index and how many), the hidden parts. Group 7 holds
the commands whose field is their operand, and the resets. -/
structure May where
  group : Nat
  flds : List Fld
  evs : List Ev
  cnts : List (Nat × Nat)
  comps : List Comp

/-- The fields that `journal` may write. -/
def May.journal : List Fld := [PAIR_EPOCH.ALL, PAIR_JSEQ.ALL, PAIR_STATUS.MATE_ROLE]

/-- The fields that `trigger` may write. -/
def May.trigger : List Fld := [MON_STATUS.BURST0, MON_STATUS.BURST1, MON_STATUS.SYSCAL, MON_TRIG_OVR.ALL, MON_TRIG_TIME.DELAY]

/-- The fields that `putBank` may write. -/
def May.putBank : List Fld := [LTX_PLAN_HDR.PLAN_ID, LTX_PLAN_SC.CONST, LTX_PLAN_SC.EN, LTX_PLAN_SC.ENT, LTX_PLAN_SC.GAIN]

/-- The fields that `startTraining` may write. -/
def May.startTraining : List Fld := [CLI_CH_STAT.ING_FAIL, CLI_CH_STAT.LF_OUT, CLI_CH_STAT.STATE, SRD_LANE_STAT.STATE, SRD_LANE_STAT.SYNC]

/-- The fields that `backToBeacon` may write. -/
def May.backToBeacon : List Fld := [SCR_PEER_CUR.ALL, SCR_STATUS.KEYED, SCR_STATUS.ROLE, SCR_STATUS.RX_BUSY, SCR_STATUS.STATE]

/-- The fields that `eraseAll` may write. -/
def May.eraseAll : List Fld := [VNR_INT_STAT.ALL, VNR_PAGE_STAT.PENDING, VNR_PAGE_STAT.RX_USE, VNR_PAGE_STAT.V0, VNR_PAGE_STAT.V1]

/-- The fields that `scrOff` may write. -/
def May.scrOff : List Fld := May.backToBeacon

/-- The fields that `tune` may write. -/
def May.tune : List Fld := [LTX_LAS_STAT.LASING, LTX_LAS_STAT.TUNED, LTX_LAS_STAT.TUNING, LTX_STATUS.LAS0_READY, LTX_STATUS.LAS1_READY]

/-- The fields that `byMaster` may write. -/
def May.byMaster : List Fld := [ENG_SBX_DENY.WRITES, PAIR_EPOCH.ALL, PAIR_JSEQ.ALL, PAIR_STATUS.MATE_ROLE, SYS_ACC_STAT.ERRORS, SYS_ACC_STAT.RANGE]

/-- The fields that `scrPlace` may write. -/
def May.scrPlace : List Fld := [VNR_PAGE_CFG.DIR, VNR_PAGE_STAT.GEN0, VNR_PAGE_STAT.GEN1, VNR_PAGE_STAT.TX_KP, VNR_PAGE_STAT.V0, VNR_PAGE_STAT.V1]

/-- The fields that `interleaveWrite` may write. -/
def May.interleaveWrite : List Fld := [MON_CTRL.INTERLEAVE, MON_STATUS.BURST0, MON_STATUS.BURST1, MON_STATUS.SYSCAL, SYS_ACC_STAT.ERRORS, SYS_ACC_STAT.RANGE]

/-- The fields that `softReset` may write. -/
def May.softReset : List Fld := May.tune ++ [LTX_LAS_STAT.RESETS]

/-- The fields that `enterKeying` may write. -/
def May.enterKeying : List Fld := May.scrPlace ++ [SCR_STATUS.STATE]

/-- The fields that `dovetailRestart` may write. -/
def May.dovetailRestart : List Fld := [CLI_CH_STAT.LF_OUT, CLI_CH_STAT.STATE, FRM_DOVE_STAT.BLK_OFS, FRM_DOVE_STAT.CANDS, FRM_STATUS.DOVE, FRM_STATUS.IM, FRM_STATUS.OOF]

/-- The fields that `setRole` may write. -/
def May.setRole : List Fld := [PAIR_STATUS.ROLE, PAIR_STATUS.SYNCED, PAIR_STATUS.WTR_LEFT, PAIR_STATUS.WTR_RUN, TOD_PORT_STAT.STATE, TOD_RATE.ALL, TOD_STATUS.PARENT, TOD_STATUS.SERVO]

/-- The fields that `setLasEn` may write. -/
def May.setLasEn : List Fld := May.tune ++ [LTX_LAS_CTRL.EN, LTX_LAS_STAT.FAIL, LTX_LAS_STAT.HOLD]

/-- The fields that `commitPlan` may write. -/
def May.commitPlan : List Fld := May.putBank ++ [LRX_ADAPT_STAT.PHASE, LTX_PLAN_CHG.CD, LTX_PLAN_CHG.TARGET_SF, LTX_STATUS.PLAN_PENDING]

/-- The fields that `refEval` may write. -/
def May.refEval : List Fld := [REF_CAND_STAT.QL_EFF, REF_CAND_STAT.QL_RX, REF_CAND_STAT.STATE, REF_DPLL_FREQ.ALL, REF_HIST_FREQ.ALL, REF_STATUS.BUILDOUT, REF_STATUS.CLAMP_EXPIRED, REF_STATUS.DPLL, REF_STATUS.OUT_QL, REF_STATUS.SELECTED]

/-- The fields that `restartNow` may write. -/
def May.restartNow : List Fld := [CLI_CH_STAT.LF_OUT, CLI_CH_STAT.STATE, LRX_CD_EST.ALL, LRX_CR_STAT.CR_LOCK, LRX_CR_STAT.SHIFTING, LRX_SC_STAT.STATE, LRX_STATUS.SC_DD, LRX_STATUS.SF_LOCK, LRX_STATUS.STAGE, LRX_STATUS.TIM_LOCK, LRX_STATUS.WARM]

/-- The fields that `setJig` may write. -/
def May.setJig : List Fld := [CLI_CH_STAT.ING_FAIL, CLI_CH_STAT.LF_OUT, CLI_CH_STAT.STATE, SRD_JIG_CFG.BURST, SRD_JIG_CFG.CHK_EN, SRD_JIG_CFG.CHK_PAT, SRD_JIG_CFG.GEN_EN, SRD_JIG_CFG.GEN_PAT, SRD_JIG_CFG.INJ, SRD_JIG_CFG.LOCK, SRD_JIG_CFG.RATE, SRD_LANE_STAT.STATE]

/-- The fields that `requalify` may write. -/
def May.requalify : List Fld := May.refEval ++ [REF_CAND_STAT.QUAL_LEFT, REF_STATUS.QUALIFIED]

/-- The fields that `unitFails` may write. -/
def May.unitFails : List Fld := May.setRole ++ May.trigger

/-- The fields that `schedRun` may write. -/
def May.schedRun : List Fld := May.trigger ++ [REF_OUT_CFG.EN, SYS_GPIO_IN.ALL, SYS_GPIO_OE.ALL, SYS_GPIO_OUT.ALL, SYS_INT_STAT.ALL, TOD_INT_STAT.ALL, TOD_SCHED_ACT.ARMED, TOD_SCHED_STAT.LATE_US, TOD_SCHED_STAT.STATUS]

/-- The fields that `candFreqWrite` may write. -/
def May.candFreqWrite : List Fld := May.requalify ++ [REF_CAND_CFG.LANE, REF_CAND_FHZ.HZ, SYS_ACC_STAT.ERRORS, SYS_ACC_STAT.RANGE]

/-- The fields that `setDev` may write. -/
def May.setDev : List Fld := May.setJig ++ [CLI_CH_CTRL.LOOP, CMD_STATUS.STATE, FEC_INJ.MODE, FRM_CTRL.BDI_FORCE, FRM_CTRL.FILL_FORCE]

/-- The fields that `setRxMode` may write. -/
def May.setRxMode : List Fld := [CLI_CH_STAT.LF_OUT, CLI_CH_STAT.STATE, LRX_CTRL.MODE, LRX_CTRL.OTUC_N, LRX_RPLAN_ID.ACTIVE, LRX_RPLAN_ID.ARMED, LRX_RPLAN_ID.ID, LRX_RPLAN_ID.PREV, LRX_RPLAN_ID.VALID, LRX_RPLAN_SC.CONST, LRX_RPLAN_SC.EN, LRX_RPLAN_SC.ENT, LRX_RPLAN_SC.GAIN, TOD_PORT_STAT.STATE, TOD_RATE.ALL, TOD_STATUS.PARENT, TOD_STATUS.SERVO]

/-- The fields that `setTxMode` may write. -/
def May.setTxMode : List Fld := May.scrOff ++ May.putBank ++ [CLI_CH_STAT.LF_OUT, CLI_CH_STAT.STATE, LTX_CTRL.MODE, LTX_CTRL.OTUC_N, LTX_PLAN_CHG.RESULT, LTX_PLAN_CHK.SUM_E, LTX_PLAN_CHK.W_MIN]

/-- The fields that `hostRestart` may write. -/
def May.hostRestart : List Fld := May.restartNow ++ [LRX_FREEZE.AGC, LRX_FREEZE.CD_TRACK, LRX_FREEZE.FREQ, LRX_FREEZE.IQ, LRX_FREEZE.TIMING, LRX_SC_CTRL.FFE_FREEZE]

/-- The fields that `restartGo` may write. -/
def May.restartGo : List Fld := May.hostRestart ++ [LRX_RESTART.RESULT]

/-- The fields that `goDark` may write. -/
def May.goDark : List Fld := May.commitPlan ++ [CLI_CH_CFG.SLOTS, CLI_MOVE_STAT.CD, CLI_MOVE_STAT.PENDING, CLI_MOVE_STAT.TARGET_SF, CLI_TS_OWNER.OWNER, CLI_TS_OWNER.PEND, LTX_CTRL.LOCK, LTX_CTRL.OUT_EN, LTX_PLAN_CHK.SUM_E, LTX_PLAN_CHK.W_MIN, LTX_STATUS.TX_ON, VNR_PAGE_STAT.PENDING, VNR_PAGE_STAT.TARGET_SF, VNR_PAGE_STAT.TX_KP, VNR_STATUS.DEGRADED, VNR_STATUS.SENSE_ARMED]

/-- The fields that `promote` may write. -/
def May.promote : List Fld := May.unitFails ++ May.restartNow ++ [LRX_ADAPT_STAT.BACKOFF_LEFT, LRX_ADAPT_STAT.PHASE, SCR_STATUS.KEYED]

/-- The fields that `scrRestart` may write. -/
def May.scrRestart : List Fld := May.goDark ++ May.scrOff

/-- The fields that `enterFault` may write. -/
def May.enterFault : List Fld := May.setDev ++ May.unitFails ++ [CMD_STATUS.FAULT_CAUSE]

/-- The fields that `laserFail` may write. -/
def May.laserFail : List Fld := May.goDark ++ May.unitFails ++ May.softReset ++ [CLI_CH_STAT.LF_OUT, CLI_CH_STAT.STATE, LTX_INT_STAT.ALL, LTX_LAS_STAT.FAIL]

/-- What each command may change. -/
def May.of : Instr → May
  | .secondBoundary .. => ⟨0, [LRX_ADAPT_STAT.BACKOFF_LEFT, PAIR_STATUS.WTR_LEFT], [], [(1024, 576)], [.frm, .obs]⟩
  | .minuteBoundary .. => ⟨0, [], [], [(1024, 576)], [.obs]⟩
  | .registerWrite .. => ⟨7, [], [], [], []⟩
  | .fabricTimeout .. => ⟨6, [SYS_ACC_STAT.ERRORS, SYS_ACC_STAT.FABRIC], [], [(0, 20)], [.sys]⟩
  | .ltxModeSet .. => ⟨0, May.setTxMode ++ May.journal ++ [LTX_CLIP.LEVEL, LTX_CTRL.PRECOMP_CD_EN, LTX_PILOT.GAIN, LTX_PRECOMP.P, LTX_SHAPE.KERF, LTX_SHAPE.ROLLOFF], [EV.CLIENT_DOWN, EV.PAIR_SYNC_FAIL], [], [.adapt, .cli, .journal, .ltx, .scr, .slots, .told]⟩
  | .ltxModeWrite .. => ⟨0, May.setTxMode ++ May.byMaster ++ [LTX_SHAPE.KERF, LTX_SHAPE.ROLLOFF, SYS_ACC_STAT.LOCK, SYS_LOCK.LOCK], [EV.CLIENT_DOWN, EV.PAIR_SYNC_FAIL], [], [.adapt, .cli, .journal, .ltx, .scr, .slots, .sys, .told]⟩
  | .ltxPlanLoad .. => ⟨0, May.journal, [EV.PAIR_SYNC_FAIL], [], [.journal, .ltx, .slots, .told]⟩
  | .planBoundsReady .. => ⟨0, May.putBank ++ [LRX_RPLAN_ID.ACTIVE, LRX_RPLAN_ID.ARMED, LRX_RPLAN_ID.ID, LRX_RPLAN_ID.PREV, LRX_RPLAN_ID.VALID, LRX_RPLAN_SC.CONST, LRX_RPLAN_SC.EN, LRX_RPLAN_SC.ENT, LRX_RPLAN_SC.GAIN, LTX_PLAN_CHK.SUM_E, LTX_PLAN_CHK.W_MIN], [], [], [.lrx, .ltx, .slots, .told]⟩
  | .ltxPlanCommit .. => ⟨0, May.commitPlan ++ May.journal, [EV.PAIR_SYNC_FAIL, EV.PLAN_APPLIED], [], [.adapt, .journal, .ltx, .slots, .told]⟩
  | .planChgCommit .. => ⟨0, May.commitPlan ++ May.byMaster ++ [LTX_PLAN_CHG.COMMIT, LTX_PLAN_CHG.RESULT], [EV.PAIR_SYNC_FAIL, EV.PLAN_APPLIED], [], [.adapt, .journal, .ltx, .sys]⟩
  | .ltxPlanCancel .. => ⟨0, May.journal ++ [LRX_ADAPT_STAT.PHASE, LTX_PLAN_CHG.CD, LTX_STATUS.PLAN_PENDING], [EV.PAIR_SYNC_FAIL, EV.PLAN_CANCELLED], [], [.adapt, .journal, .slots, .told]⟩
  | .planChgCancel .. => ⟨0, May.byMaster ++ [LRX_ADAPT_STAT.PHASE, LTX_PLAN_CHG.CANCEL, LTX_PLAN_CHG.CD, LTX_PLAN_CHG.RESULT, LTX_STATUS.PLAN_PENDING], [EV.PAIR_SYNC_FAIL, EV.PLAN_CANCELLED], [], [.adapt, .journal, .sys]⟩
  | .ltxPlanGet .. => ⟨0, May.journal, [EV.PAIR_SYNC_FAIL], [], [.journal, .slots, .told]⟩
  | .ltxBiasCtrl .. => ⟨0, May.journal ++ [LTX_BIAS_CTRL.DWELL, LTX_BIAS_CTRL.EN, LTX_BIAS_CTRL.FREQ, LTX_BIAS_CTRL.GAIN, LTX_BIAS_CTRL.HOLD, LTX_STATUS.BIAS_LOCKED], [EV.BIAS_LOCK, EV.PAIR_SYNC_FAIL], [], [.journal, .ltx, .slots, .told]⟩
  | .biasSweep .. => ⟨0, May.byMaster ++ [LTX_BIAS_CTRL.SWEEP, LTX_STATUS.BIAS_LOCKED], [EV.PAIR_SYNC_FAIL], [], [.journal, .ltx, .sys]⟩
  | .biasSweepDone .. => ⟨0, [LTX_STATUS.BIAS_LOCKED], [EV.BIAS_LOCK], [], [.ltx]⟩
  | .ditherCycle .. => ⟨0, [], [], [], [.ltx]⟩
  | .biasDwellEnd .. => ⟨0, [LTX_BIAS_DAC.ALL, LTX_STATUS.BIAS_LOCKED, MON_Q_STAT.LEVEL], [EV.BIAS_LOCK, EV.BIAS_RAIL, EV.BIAS_UNLOCK], [], [.ltx, .mon]⟩
  | .ltxLaserSet .. => ⟨0, May.setLasEn ++ May.journal ++ [LTX_LAS_CTRL.FTF, LTX_LAS_CTRL.POWER, LTX_LAS_FREQ.FREQ, LTX_LAS_TIMERS.BIAS_TO, LTX_LAS_TIMERS.POLL, LTX_LAS_TIMERS.RESP_TO, LTX_LAS_TIMERS.TUNE_TO], [EV.PAIR_SYNC_FAIL], [], [.journal, .ltx, .slots, .told]⟩
  | .ltxLaserStatus .. => ⟨0, May.journal, [EV.PAIR_SYNC_FAIL], [], [.journal, .slots, .told]⟩
  | .lasEnWrite .. => ⟨0, May.setLasEn ++ May.byMaster, [EV.PAIR_SYNC_FAIL], [], [.journal, .ltx, .sys]⟩
  | .lasFreqWrite .. => ⟨0, May.byMaster ++ May.tune ++ [LTX_LAS_CTRL.EN, LTX_LAS_FREQ.FREQ, LTX_LAS_STAT.FAIL, LTX_LAS_STAT.HOLD, SYS_ACC_STAT.LOCK, SYS_LOCK.LOCK], [EV.PAIR_SYNC_FAIL], [], [.journal, .ltx, .sys]⟩
  | .lasFtfWrite .. => ⟨0, May.byMaster ++ [LTX_LAS_CTRL.FTF], [EV.PAIR_SYNC_FAIL], [], [.journal, .ltx, .sys]⟩
  | .ftfApply .. => ⟨0, [], [], [], [.ltx]⟩
  | .lasReset .. => ⟨0, May.byMaster ++ May.softReset ++ [LTX_LAS_CTRL.RESET, LTX_LAS_STAT.HOLD], [EV.PAIR_SYNC_FAIL], [], [.journal, .ltx, .sys]⟩
  | .laserPoll .. => ⟨0, May.laserFail ++ [LTX_LAS_STAT.STATUSF], [EV.CLIENT_DOWN, EV.DEFECT_CLEAR, EV.DEFECT_RAISE, EV.KEY_SWITCHED, EV.LASER_FAIL, EV.MON_TRIG_OVR, EV.PAIR_ROLE, EV.PAIR_UNPROTECTED, EV.PLAN_APPLIED, EV.PTP_PARENT_CHANGE, EV.PTP_PORT_STATE, EV.SERVO_STATE, EV.TRIB_MOVE_APPLIED, EV.TX_DARK, EV.VNR_DEGRADED], [], [.adapt, .cli, .frm, .ltx, .mon, .pair, .scr, .slots, .tod, .told, .vnr]⟩
  | .itlaResponseTimeout .. => ⟨0, May.laserFail, [EV.CLIENT_DOWN, EV.DEFECT_CLEAR, EV.DEFECT_RAISE, EV.KEY_SWITCHED, EV.LASER_FAIL, EV.MON_TRIG_OVR, EV.PAIR_ROLE, EV.PAIR_UNPROTECTED, EV.PLAN_APPLIED, EV.PTP_PARENT_CHANGE, EV.PTP_PORT_STATE, EV.SERVO_STATE, EV.TRIB_MOVE_APPLIED, EV.TX_DARK, EV.VNR_DEGRADED], [], [.adapt, .cli, .frm, .ltx, .mon, .pair, .scr, .slots, .tod, .told, .vnr]⟩
  | .laserFaultPin .. => ⟨0, May.laserFail, [EV.CLIENT_DOWN, EV.DEFECT_CLEAR, EV.DEFECT_RAISE, EV.KEY_SWITCHED, EV.LASER_FAIL, EV.MON_TRIG_OVR, EV.PAIR_ROLE, EV.PAIR_UNPROTECTED, EV.PLAN_APPLIED, EV.PTP_PARENT_CHANGE, EV.PTP_PORT_STATE, EV.SERVO_STATE, EV.TRIB_MOVE_APPLIED, EV.TX_DARK, EV.VNR_DEGRADED], [], [.adapt, .cli, .frm, .ltx, .mon, .pair, .scr, .slots, .tod, .told, .vnr]⟩
  | .laserTuned .. => ⟨0, May.restartNow ++ [LTX_LAS_STAT.FAIL, LTX_LAS_STAT.LASING, LTX_LAS_STAT.RESETS, LTX_LAS_STAT.TUNED, LTX_LAS_STAT.TUNING, LTX_STATUS.LAS0_READY, LTX_STATUS.LAS1_READY], [EV.CLIENT_DOWN, EV.DEFECT_CLEAR, EV.DEFECT_RAISE, EV.LASER_TUNED], [], [.cli, .frm, .lrx, .ltx]⟩
  | .laserTuneTimeout .. => ⟨0, May.laserFail, [EV.CLIENT_DOWN, EV.DEFECT_CLEAR, EV.DEFECT_RAISE, EV.KEY_SWITCHED, EV.LASER_FAIL, EV.MON_TRIG_OVR, EV.PAIR_ROLE, EV.PAIR_UNPROTECTED, EV.PLAN_APPLIED, EV.PTP_PARENT_CHANGE, EV.PTP_PORT_STATE, EV.SERVO_STATE, EV.TRIB_MOVE_APPLIED, EV.TX_DARK, EV.VNR_DEGRADED], [], [.adapt, .cli, .frm, .ltx, .mon, .pair, .scr, .slots, .tod, .told, .vnr]⟩
  | .laserResetRetry .. => ⟨0, May.softReset ++ [LTX_LAS_STAT.HOLD], [], [], [.ltx]⟩
  | .ltxOutput .. => ⟨0, May.goDark ++ May.scrOff ++ May.journal ++ [LTX_STATUS.BIAS_LOCKED], [EV.KEY_SWITCHED, EV.PAIR_SYNC_FAIL, EV.PLAN_APPLIED, EV.TRIB_MOVE_APPLIED, EV.TX_DARK, EV.VNR_DEGRADED], [], [.adapt, .cli, .journal, .ltx, .scr, .slots, .told, .vnr]⟩
  | .outEnWrite .. => ⟨0, May.goDark ++ May.byMaster ++ May.scrOff ++ [LTX_STATUS.BIAS_LOCKED], [EV.KEY_SWITCHED, EV.PAIR_SYNC_FAIL, EV.PLAN_APPLIED, EV.TRIB_MOVE_APPLIED, EV.TX_DARK, EV.VNR_DEGRADED], [], [.adapt, .cli, .journal, .ltx, .scr, .slots, .sys, .told, .vnr]⟩
  | .outputRampDone .. => ⟨0, [LTX_CTRL.LOCK, LTX_PLAN_CHG.CD, LTX_SF_NUM.ALL, LTX_STATUS.TX_ON], [EV.PLAN_ANNOUNCED], [], [.frm, .ltx, .pair, .scr, .slots, .tod, .told]⟩
  | .biasLockTimeout .. => ⟨0, May.unitFails ++ [LTX_CTRL.OUT_EN], [EV.MON_TRIG_OVR, EV.PAIR_ROLE, EV.PAIR_UNPROTECTED, EV.PTP_PARENT_CHANGE, EV.PTP_PORT_STATE, EV.SERVO_STATE, EV.TX_DARK], [], [.frm, .ltx, .mon, .pair, .scr, .slots, .tod, .told]⟩
  | .superframeBoundary .. => ⟨0, May.commitPlan ++ [CLI_MOVE_STAT.CD, CMD_STATUS.FAULT_CAUSE, CNV_STATUS.NOSPARE, ENG_CORE.IMAGE, ENG_CORE.STATE, ENG_CORE.TASK, ENG_FW_STAT.CLUSTER, ENG_FW_STAT.ENGINE, ENG_FW_STAT.PHASE, LTX_PLAN_CHK.SUM_E, LTX_PLAN_CHK.W_MIN, LTX_SF_NUM.ALL, PAIR_ENG.RUNS_FOR, PAIR_ENG.STATE, VNR_PAGE_STAT.PENDING, VNR_PAGE_STAT.RX_USE, VNR_PAGE_STAT.TARGET_SF, VNR_PAGE_STAT.TX_KP, VNR_STATUS.DEGRADED, VNR_STATUS.SENSE_ARMED, VNR_STATUS.STATE], [EV.CAL_PASS_DONE, EV.CAL_QUALITY_LOW, EV.CLIP_HIGH, EV.FUSE_EXHAUSTED, EV.KEY_SWITCHED, EV.PLAN_ANNOUNCED, EV.PLAN_APPLIED, EV.PROT_CHANGE, EV.SLICE_RETURN, EV.SPARE_RETURN, EV.VNR_DEGRADED], [], [.adapt, .cnv, .eng, .frm, .ltx, .pair, .slots, .tod, .told, .vnr]⟩
  | .darkTimeTick .. => ⟨0, [CMD_STATUS.FAULT_CAUSE, CNV_STATUS.NOSPARE, ENG_CORE.IMAGE, ENG_CORE.STATE, ENG_CORE.TASK, ENG_FW_STAT.CLUSTER, ENG_FW_STAT.ENGINE, ENG_FW_STAT.PHASE, PAIR_ENG.RUNS_FOR, PAIR_ENG.STATE, VNR_PAGE_STAT.RX_USE, VNR_STATUS.DEGRADED, VNR_STATUS.SENSE_ARMED, VNR_STATUS.STATE], [EV.CAL_PASS_DONE, EV.CAL_QUALITY_LOW, EV.FUSE_EXHAUSTED, EV.PROT_CHANGE, EV.SLICE_RETURN, EV.SPARE_RETURN, EV.VNR_DEGRADED], [], [.cnv, .eng, .ltx, .slots, .told, .vnr]⟩
  | .loLightChange .. => ⟨0, May.restartNow, [EV.CLIENT_DOWN, EV.DEFECT_CLEAR, EV.DEFECT_RAISE], [], [.cli, .frm, .lrx, .ltx]⟩
  | .lrxModeSet .. => ⟨0, May.setRxMode ++ May.journal ++ [LRX_SHAPE.KERF, LRX_SHAPE.ROLLOFF], [EV.CLIENT_DOWN, EV.PAIR_SYNC_FAIL, EV.PTP_PARENT_CHANGE, EV.PTP_PORT_STATE, EV.SERVO_STATE], [], [.cli, .frm, .journal, .lrx, .ltx, .slots, .tod, .told]⟩
  | .lrxModeWrite .. => ⟨0, May.setRxMode ++ May.byMaster ++ [LRX_SHAPE.KERF, LRX_SHAPE.ROLLOFF, SYS_ACC_STAT.LOCK, SYS_LOCK.LOCK], [EV.CLIENT_DOWN, EV.PAIR_SYNC_FAIL, EV.PTP_PARENT_CHANGE, EV.PTP_PORT_STATE, EV.SERVO_STATE], [], [.cli, .frm, .journal, .lrx, .ltx, .slots, .sys, .tod, .told]⟩
  | .lrxEnable .. => ⟨0, May.restartNow ++ May.journal ++ [LRX_CTRL.RX_EN], [EV.CLIENT_DOWN, EV.DEFECT_CLEAR, EV.DEFECT_RAISE, EV.PAIR_SYNC_FAIL], [], [.cli, .frm, .journal, .lrx, .slots, .told]⟩
  | .rxEnWrite .. => ⟨0, May.restartNow ++ May.byMaster ++ [LRX_CTRL.RX_EN], [EV.CLIENT_DOWN, EV.DEFECT_CLEAR, EV.DEFECT_RAISE, EV.PAIR_SYNC_FAIL], [], [.cli, .frm, .journal, .lrx, .sys]⟩
  | .lrxAcqCfg .. => ⟨0, May.journal ++ [LRX_AGC.TARGET, LRX_CD_CFG.D_FORCE, LRX_CD_CFG.FORCE, LRX_CD_CFG.VERIFY, LRX_HOLD.ACQ_TO, LRX_HOLD.HOLD, LRX_HOLD.WARM_TO, LRX_LOCK_CFG.PLM_MIN, LRX_LOCK_CFG.SC_MISS, LRX_LOCK_CFG.SF_MISS, LRX_LOCK_CFG.SF_THR, LRX_TIM_CFG.BW], [EV.PAIR_SYNC_FAIL], [], [.journal, .slots, .told]⟩
  | .lrxEqCfg .. => ⟨0, May.journal ++ [LRX_DFE_CFG.CONST_EN, LRX_DFE_CFG.F_OFF, LRX_DFE_CFG.F_ON, LRX_DFE_CFG.NFB, LRX_DFE_CFG.THETA, LRX_EQ_CFG.HALF_TAPS, LRX_EQ_CFG.LEAK, LRX_EQ_CFG.MU_ACQ, LRX_EQ_CFG.MU_TRK, LRX_SC_STAT.STATE], [EV.PAIR_SYNC_FAIL], [], [.journal, .slots, .told]⟩
  | .lrxFreeze .. => ⟨0, May.restartNow ++ May.journal ++ [LRX_FREEZE.AGC, LRX_FREEZE.CD_TRACK, LRX_FREEZE.FREQ, LRX_FREEZE.IQ, LRX_FREEZE.TIMING, LRX_SC_CTRL.DFE_DIS, LRX_SC_CTRL.DFE_FREEZE, LRX_SC_CTRL.FFE_FREEZE], [EV.CLIENT_DOWN, EV.DEFECT_CLEAR, EV.DEFECT_RAISE, EV.PAIR_SYNC_FAIL], [], [.cli, .frm, .journal, .lrx, .slots, .told]⟩
  | .lrxRestart .. => ⟨0, May.hostRestart ++ May.journal, [EV.CLIENT_DOWN, EV.DEFECT_CLEAR, EV.DEFECT_RAISE, EV.PAIR_SYNC_FAIL], [], [.cli, .frm, .journal, .lrx, .slots, .told]⟩
  | .lrxRestartGo .. => ⟨0, May.restartGo ++ May.byMaster ++ [LRX_RESTART.GO], [EV.CLIENT_DOWN, EV.DEFECT_CLEAR, EV.DEFECT_RAISE, EV.PAIR_SYNC_FAIL], [], [.cli, .frm, .journal, .lrx, .sys]⟩
  | .lrxStatus .. => ⟨0, May.journal, [EV.PAIR_SYNC_FAIL], [], [.journal, .slots, .told]⟩
  | .lrxTapsGet .. => ⟨0, May.journal, [EV.PAIR_SYNC_FAIL], [], [.journal, .slots, .told]⟩
  | .sigPresentSet .. => ⟨0, May.restartNow ++ [LRX_STATUS.SIG_PRESENT], [EV.CLIENT_DOWN, EV.DEFECT_CLEAR, EV.DEFECT_RAISE], [], [.cli, .frm, .lrx]⟩
  | .sigPresentClear .. => ⟨0, [CLI_CH_STAT.LF_OUT, CLI_CH_STAT.STATE, LRX_STATUS.SIG_PRESENT, LRX_STATUS.STAGE], [EV.CLIENT_DOWN, EV.DEFECT_CLEAR, EV.DEFECT_RAISE, EV.RX_UNLOCK], [], [.cli, .frm, .lrx]⟩
  | .gainSettled .. => ⟨0, [LRX_AGC.GAIN, LRX_CD_EST.ALL, LRX_STATUS.STAGE, LRX_STATUS.TIM_LOCK], [], [], [.lrx]⟩
  | .freqEstimateDone .. => ⟨0, [LRX_CD_EST.ALL, LRX_FREQ_EST.ALL, LRX_STATUS.ACQ_FAILS, LRX_STATUS.STAGE, LRX_STATUS.TIM_LOCK], [EV.ACQ_FAIL, EV.FREQ_RANGE], [], [.lrx]⟩
  | .dispBatchDone .. => ⟨0, [LRX_CD_EST.ALL, LRX_STATUS.STAGE, LRX_STATUS.TIM_LOCK], [], [], [.lrx]⟩
  | .symbolWindowEnd .. => ⟨0, May.restartNow ++ [LRX_AGC.GAIN, LRX_SC_SLIP.TRK, LRX_SC_STAT.UNREL, LRX_STATUS.ACQ_FAILS, LRX_TIM_EST.ALL], [EV.CLIENT_DOWN, EV.DEFECT_CLEAR, EV.DEFECT_RAISE, EV.DFE_OFF, EV.DFE_ON, EV.POL_SINGULAR, EV.RX_LOCKED, EV.SC_RELOCK, EV.TIM_LIMIT], [], [.cli, .frm, .lrx]⟩
  | .trainingWordDetect .. => ⟨0, May.restartNow ++ [LRX_FREQ_EST.ALL], [EV.CD_MISMATCH, EV.CLIENT_DOWN, EV.DEFECT_CLEAR, EV.DEFECT_RAISE], [], [.cli, .frm, .lrx]⟩
  | .pilotWindowEnd .. => ⟨0, May.restartNow ++ [LRX_FREQ_EST.ALL, LRX_SC_SLIP.OUT], [EV.CLIENT_DOWN, EV.CR_LOCK, EV.CR_UNLOCK, EV.DEFECT_CLEAR, EV.DEFECT_RAISE], [], [.cli, .frm, .lrx]⟩
  | .rxSuperframeBoundary .. => ⟨0, May.restartNow ++ [LRX_RPLAN_ID.ACTIVE, LRX_RPLAN_ID.ARMED, LRX_RPLAN_ID.PREV, LRX_SC_RCD.ALL, LRX_SC_STAT.CENTROID, LRX_SC_STAT.PLM], [EV.CLIENT_DOWN, EV.CYCLE_SLIP, EV.DEFECT_CLEAR, EV.DEFECT_RAISE, EV.FEC_DM_FAIL, EV.FEC_UNCORR, EV.MARGIN_LOW, EV.PLAN_LATE, EV.RX_UNLOCK, EV.SC_UNLOCK, EV.SF_UNLOCK], [], [.adapt, .cli, .fec, .frm, .lrx, .pair, .tod]⟩
  | .superframeHeaderRx .. => ⟨0, [LRX_RPLAN_ID.ACTIVE, LRX_RPLAN_ID.ARMED, LRX_RPLAN_ID.PREV], [EV.PLAN_UNKNOWN], [], [.lrx, .tod, .vnr]⟩
  | .stageTimeout .. => ⟨0, [LRX_STATUS.ACQ_FAILS], [EV.ACQ_FAIL], [], [.lrx]⟩
  | .acqTimeout .. => ⟨0, [LRX_STATUS.ACQ_FAILS], [EV.ACQ_FAIL], [], [.lrx]⟩
  | .restartPauseEnd .. => ⟨0, May.restartNow, [EV.CLIENT_DOWN, EV.DEFECT_CLEAR, EV.DEFECT_RAISE], [], [.cli, .frm, .lrx]⟩
  | .holdExpired .. => ⟨0, [], [EV.HOLD_EXPIRED], [], [.lrx]⟩
  | .warmTimeout .. => ⟨0, May.restartNow, [EV.CLIENT_DOWN, EV.DEFECT_CLEAR, EV.DEFECT_RAISE], [], [.cli, .frm, .lrx]⟩
  | .lrxQuality .. => ⟨0, May.journal, [EV.PAIR_SYNC_FAIL], [], [.journal, .lrx, .slots, .told]⟩
  | .lrxCrSet .. => ⟨0, May.journal ++ [LRX_CR_CFG.BPS_MIN, LRX_CR_CFG.BPS_N, LRX_CR_CFG.FBW, LRX_CR_CFG.SLIP_THR, LRX_CR_CFG.WIN, LRX_Q_CFG.AVG, LRX_Q_CFG.REPORT], [EV.PAIR_SYNC_FAIL], [], [.journal, .slots, .told]⟩
  | .lrxAdaptSet .. => ⟨0, May.journal ++ [LRX_ADAPT_CFG.HITLESS, LRX_ADAPT_CFG.RX_EN, LRX_ADAPT_CFG.TX_EN, LRX_ADAPT_LIMITS.HYST, LRX_ADAPT_LIMITS.REPLY_TO, LRX_ADAPT_LIMITS.ROLLBACK, LRX_ADAPT_MARGIN.FLOOR, LRX_ADAPT_MARGIN.GAMMA, LRX_ADAPT_MARGIN.LOW, LRX_ADAPT_MARGIN.TARGET, LRX_ADAPT_STAT.PHASE, LRX_ADAPT_TIMERS.BACKOFF, LRX_ADAPT_TIMERS.MIN_INT, LRX_ADAPT_TIMERS.V, LRX_SC_SLIP.OUT, LRX_SC_SLIP.TRK], [EV.PAIR_SYNC_FAIL], [], [.adapt, .journal, .lrx, .slots, .told]⟩
  | .lrxRplanLoad .. => ⟨0, May.journal, [EV.PAIR_SYNC_FAIL], [], [.journal, .ltx, .slots, .told]⟩
  | .lrxRplanGet .. => ⟨0, May.journal, [EV.PAIR_SYNC_FAIL], [], [.journal, .slots, .told]⟩
  | .lrxAdaptNow .. => ⟨0, May.journal ++ [LRX_ADAPT_STAT.LAST_PLAN, LRX_ADAPT_STAT.OFFER_SEQ, LRX_ADAPT_STAT.PHASE], [EV.PAIR_SYNC_FAIL, EV.PLAN_OFFERED], [], [.adapt, .journal, .slots, .told]⟩
  | .lrxQTake .. => ⟨0, May.byMaster ++ [LRX_Q_SNAP.TAKE], [EV.PAIR_SYNC_FAIL], [], [.journal, .lrx, .sys]⟩
  | .lrxQSnapDone .. => ⟨0, [LRX_FAR_Q.SNR, LRX_Q_SNAP.GEN, LRX_SC_Q.MARGIN, LRX_SC_Q.SNR, LRX_SC_QX.PHERR, LRX_SC_QX.SNR_X, LRX_SC_QX.SNR_Y], [], [], [.lrx, .slots, .told]⟩
  | .slipClr .. => ⟨0, May.byMaster ++ [LRX_ADAPT_CFG.SLIP_CLR, LRX_SC_SLIP.OUT, LRX_SC_SLIP.TRK], [EV.PAIR_SYNC_FAIL], [], [.journal, .sys]⟩
  | .adaptEnWrite .. => ⟨0, May.byMaster ++ [LRX_ADAPT_CFG.RX_EN, LRX_ADAPT_CFG.TX_EN, LRX_ADAPT_STAT.PHASE], [EV.PAIR_SYNC_FAIL], [], [.adapt, .journal, .lrx, .sys]⟩
  | .snrReportSend .. => ⟨0, [], [], [], [.adapt, .lrx]⟩
  | .snrReport .. => ⟨0, [LRX_ADAPT_STAT.LAST_PLAN, LRX_ADAPT_STAT.OFFER_SEQ, LRX_ADAPT_STAT.PHASE], [EV.ADAPT_SHORT, EV.PLAN_OFFERED], [], [.adapt, .lrx]⟩
  | .reportStale .. => ⟨0, [LRX_ADAPT_STAT.PHASE], [EV.ADAPT_SILENT], [], [.adapt]⟩
  | .offer .. => ⟨0, [LRX_RPLAN_ID.ACTIVE, LRX_RPLAN_ID.ARMED, LRX_RPLAN_ID.ID, LRX_RPLAN_ID.PREV, LRX_RPLAN_ID.VALID, LRX_RPLAN_SC.CONST, LRX_RPLAN_SC.EN, LRX_RPLAN_SC.ENT, LRX_RPLAN_SC.GAIN], [], [], [.adapt, .lrx]⟩
  | .held .. => ⟨0, May.commitPlan ++ [LRX_ADAPT_STAT.BACKOFF_LEFT, LTX_PLAN_CHK.SUM_E, LTX_PLAN_CHK.W_MIN], [EV.PLAN_APPLIED, EV.PLAN_REFUSED], [], [.adapt, .lrx, .ltx]⟩
  | .refuse .. => ⟨0, [LRX_ADAPT_STAT.BACKOFF_LEFT, LRX_ADAPT_STAT.PHASE], [EV.PLAN_REFUSED], [], [.adapt, .lrx]⟩
  | .rollbackReq .. => ⟨0, May.commitPlan ++ [LRX_ADAPT_STAT.BACKOFF_LEFT, LTX_PLAN_CHK.SUM_E, LTX_PLAN_CHK.W_MIN], [EV.PLAN_APPLIED, EV.PLAN_CANCELLED, EV.PLAN_ROLLBACK], [], [.adapt, .lrx, .ltx]⟩
  | .offerReplyTimeout .. => ⟨0, [LRX_ADAPT_STAT.BACKOFF_LEFT, LRX_ADAPT_STAT.PHASE], [EV.ADAPT_SILENT], [], [.adapt]⟩
  | .adaptBackoffEnd .. => ⟨0, [LRX_ADAPT_STAT.BACKOFF_LEFT, LRX_ADAPT_STAT.PHASE], [], [], [.adapt]⟩
  | .verifyEnd .. => ⟨0, [LRX_ADAPT_STAT.PHASE], [], [], [.adapt]⟩
  | .calStatus .. => ⟨1, May.journal, [EV.PAIR_SYNC_FAIL], [], [.journal, .slots, .told]⟩
  | .calBgSet .. => ⟨1, May.journal ++ [CNV_BG_CFG.PERIOD, CNV_BG_CFG.TEMP_THR, CNV_CTRL.BG_ADC, CNV_CTRL.BG_DAC, CNV_THR.FG_TO, CNV_THR.HANDOVER, CNV_THR.MM_ALARM, CNV_THR.SPUR_ALARM, CNV_WTR.RETEST, CNV_WTR.WTR], [EV.PAIR_SYNC_FAIL], [], [.journal, .slots, .told]⟩
  | .calRefSet .. => ⟨1, May.journal ++ [CNV_FREF_CFG.FREF_HZ, CNV_REF_CFG.VREF_UV], [EV.PAIR_SYNC_FAIL], [], [.journal, .slots, .told]⟩
  | .calRun .. => ⟨1, May.journal ++ [CNV_REF_STAT.FDEV, CNV_REF_STAT.VDEV, CNV_STATUS.FG_BUSY, CNV_STATUS.REF_BAD], [EV.CAL_REF_BAD, EV.PAIR_SYNC_FAIL], [], [.cnv, .journal, .slots, .told]⟩
  | .calFgDone .. => ⟨1, [CNV_FUSE_STAT.REFINED, CNV_FUSE_STAT.SOURCE, CNV_STATUS.FG_BUSY, CNV_STATUS.UNCAL, CNV_STATUS.UNTRACEABLE], [EV.CAL_FG_DONE, EV.CAL_QUALITY_LOW], [], [.cnv, .slots, .told]⟩
  | .fgTimeout .. => ⟨1, [CNV_STATUS.FG_BUSY], [], [], [.cnv, .slots, .told]⟩
  | .calAbort .. => ⟨1, May.journal ++ [CNV_STATUS.FG_BUSY], [EV.PAIR_SYNC_FAIL], [], [.cnv, .journal, .slots, .told]⟩
  | .calCommit .. => ⟨1, May.journal, [EV.FUSE_EXHAUSTED, EV.PAIR_SYNC_FAIL], [], [.cnv, .journal, .slots, .told]⟩
  | .fuseRowWriteDone .. => ⟨1, [CNV_FUSE_STAT.BAD, CNV_FUSE_STAT.LATEST, CNV_FUSE_STAT.NEXT], [EV.FUSE_COMMITTED, EV.FUSE_EXHAUSTED], [], [.cnv, .fuse, .slots, .told]⟩
  | .fuseVddLoss .. => ⟨1, [CNV_FUSE_STAT.BAD, CNV_FUSE_STAT.LATEST, CNV_FUSE_STAT.NEXT], [EV.FUSE_EXHAUSTED], [], [.cnv, .fuse, .slots, .told]⟩
  | .calExport .. => ⟨1, May.journal, [EV.PAIR_SYNC_FAIL], [], [.draws, .journal, .slots, .told]⟩
  | .calLoad .. => ⟨1, May.journal ++ [CNV_FUSE_STAT.REFINED, CNV_FUSE_STAT.SOURCE, CNV_STATUS.UNCAL, CNV_STATUS.UNTRACEABLE], [EV.CAL_LOADED, EV.PAIR_SYNC_FAIL], [], [.cnv, .journal, .slots, .told]⟩
  | .calQuality .. => ⟨1, May.journal, [EV.PAIR_SYNC_FAIL], [], [.cnv, .journal, .slots, .told]⟩
  | .calSlice .. => ⟨1, May.journal ++ [CNV_FUSE_STAT.REFINED, CNV_STATUS.NOSPARE, CNV_STATUS.UNCAL, CNV_STATUS.UNTRACEABLE], [EV.CAL_PASS_DONE, EV.CAL_QUALITY_LOW, EV.FUSE_EXHAUSTED, EV.PAIR_SYNC_FAIL, EV.SLICE_FAULT, EV.SLICE_NOSPARE], [], [.cnv, .journal, .slots, .told]⟩
  | .cnvQTake .. => ⟨1, May.byMaster ++ [CNV_Q_SNAP.TAKE], [EV.PAIR_SYNC_FAIL], [], [.cnv, .journal, .sys]⟩
  | .cnvQSnapDone .. => ⟨1, [CNV_HALF_Q.MM, CNV_HALF_Q.SPARES, CNV_HALF_Q.SPUR, CNV_Q_SNAP.GEN, CNV_SLICE.GAIN, CNV_SLICE.OFFSET, CNV_SLICE.TIMING, CNV_SLICE_PH.PHASE, CNV_SLICE_PH.ROLE], [], [], [.cnv, .slots, .told]⟩
  | .calPassStart .. => ⟨1, [], [EV.CAL_PASS_DONE, EV.CAL_QUALITY_LOW], [], [.cnv]⟩
  | .sliceStepStart .. => ⟨1, [], [EV.CAL_PASS_DONE, EV.CAL_QUALITY_LOW], [], [.cnv]⟩
  | .sliceHandover .. => ⟨1, [CNV_FUSE_STAT.REFINED, CNV_STATUS.UNCAL, CNV_STATUS.UNTRACEABLE], [], [], [.cnv]⟩
  | .sliceCalDone .. => ⟨1, [CNV_FUSE_STAT.REFINED, CNV_STATUS.UNCAL, CNV_STATUS.UNTRACEABLE], [EV.CAL_PASS_DONE, EV.CAL_QUALITY_LOW, EV.FUSE_EXHAUSTED, EV.SLICE_FAULT], [], [.cnv, .slots, .told]⟩
  | .sliceFault .. => ⟨1, [CNV_FUSE_STAT.REFINED, CNV_STATUS.NOSPARE, CNV_STATUS.UNCAL, CNV_STATUS.UNTRACEABLE], [EV.CAL_PASS_DONE, EV.CAL_QUALITY_LOW, EV.FUSE_EXHAUSTED, EV.SLICE_FAULT, EV.SLICE_NOSPARE], [], [.cnv, .slots, .told]⟩
  | .sliceRetest .. => ⟨1, [], [], [], [.cnv]⟩
  | .sliceReturn .. => ⟨1, [CNV_FUSE_STAT.REFINED, CNV_STATUS.UNCAL, CNV_STATUS.UNTRACEABLE], [EV.SLICE_RETURN], [], [.cnv]⟩
  | .refCheck .. => ⟨1, [CNV_REF_STAT.FDEV, CNV_REF_STAT.VDEV, CNV_STATUS.REF_BAD], [EV.CAL_REF_BAD], [], []⟩
  | .bgEstimatorUpdate .. => ⟨1, [CNV_FUSE_STAT.REFINED, CNV_STATUS.NOSPARE, CNV_STATUS.UNCAL, CNV_STATUS.UNTRACEABLE], [EV.CAL_PASS_DONE, EV.CAL_QUALITY_LOW, EV.FUSE_EXHAUSTED, EV.SLICE_FAULT, EV.SLICE_NOSPARE], [], [.cnv, .slots, .told]⟩
  | .fecCfg .. => ⟨1, May.journal ++ [FEC_CTRL.EARLY_STOP, FEC_DEC_CFG.HD_ITER, FEC_DEC_CFG.ITER_MAX, FEC_DEC_CFG.NORM, FEC_DEC_CFG.SD_ITER, FEC_DEC_CFG.STC_ITER, FEC_DEG_CLR.EXP, FEC_DEG_CLR.MANT, FEC_DEG_SET.EXP, FEC_DEG_SET.MANT, FEC_DEG_SET.N, FEC_LLR_CFG.GAIN], [EV.PAIR_SYNC_FAIL], [(128, 128)], [.journal, .slots, .told]⟩
  | .fecStatus .. => ⟨1, May.journal, [EV.PAIR_SYNC_FAIL], [], [.journal, .slots, .told]⟩
  | .fecCounters .. => ⟨1, May.journal, [EV.PAIR_SYNC_FAIL], [], [.bank, .journal, .slots, .told]⟩
  | .fecInject .. => ⟨1, May.journal ++ [FEC_INJ.MODE, FEC_INJ.RATE, FEC_INJ.SC_MASK], [EV.PAIR_SYNC_FAIL], [], [.fec, .journal, .slots, .told]⟩
  | .fecGeometry .. => ⟨1, May.journal, [EV.PAIR_SYNC_FAIL], [], [.journal, .slots, .told]⟩
  | .fecCntClr .. => ⟨1, May.byMaster ++ [FEC_CTRL.CNT_CLR], [EV.PAIR_SYNC_FAIL], [(128, 128)], [.journal, .sys]⟩
  | .fecOneShot .. => ⟨1, May.byMaster ++ [FEC_INJ.ONE_SHOT], [EV.PAIR_SYNC_FAIL], [], [.fec, .journal, .sys]⟩
  | .fecInjDone .. => ⟨1, [], [EV.FEC_INJ_DONE], [], [.fec]⟩
  | .fecBlockEncode .. => ⟨1, [], [], [(34, 1)], [.draws, .fec, .ltx]⟩
  | .fecBlockDecode .. => ⟨1, [], [], [(35, 1), (128, 128)], [.draws, .fec, .lrx]⟩
  | .frmCfg .. => ⟨1, May.journal ++ [CLI_CH_STAT.LF_OUT, CLI_CH_STAT.STATE, FRM_CA_CFG.TIM_ACT, FRM_CA_CFG.TIM_MODE, FRM_DEF_CFG.LOF_CLR, FRM_DEF_CFG.LOF_SET, FRM_DEF_CFG.LOS_CLR, FRM_DEG_CFG.DEG_M, FRM_DEG_CFG.DEG_THR, FRM_DEG_CFG.SES_THR, FRM_DOVE_CFG.FAS_TOL, FRM_DOVE_CFG.M, FRM_DOVE_CFG.N], [EV.CLIENT_DOWN, EV.PAIR_SYNC_FAIL], [], [.cli, .journal, .slots, .told]⟩
  | .frmStatus .. => ⟨1, May.journal, [EV.PAIR_SYNC_FAIL], [], [.journal, .slots, .told]⟩
  | .frmPmGet .. => ⟨1, May.journal, [EV.PAIR_SYNC_FAIL], [], [.journal, .slots, .told]⟩
  | .frmTtiSet .. => ⟨1, May.journal, [EV.PAIR_SYNC_FAIL], [], [.frm, .journal, .slots, .told]⟩
  | .frmTtiGet .. => ⟨1, May.journal, [EV.PAIR_SYNC_FAIL], [], [.journal, .slots, .told]⟩
  | .frmOhcCfg .. => ⟨1, May.journal ++ [FRM_OHC_CFG.SLICE_MASK, FRM_OHC_ROUTE.CLIENT, FRM_OHC_ROUTE.RX_DEST, FRM_OHC_ROUTE.TX_SRC], [EV.PAIR_SYNC_FAIL], [], [.journal, .slots, .told]⟩
  | .frmOhcXfer .. => ⟨1, May.journal, [EV.PAIR_SYNC_FAIL], [], [.frm, .journal, .slots, .told]⟩
  | .frmCntClr .. => ⟨1, May.byMaster ++ [FRM_CTRL.CNT_CLR, FRM_OHC_STAT.SLIP_DROP, FRM_OHC_STAT.SLIP_REP], [EV.PAIR_SYNC_FAIL], [(256, 4)], [.journal, .sys]⟩
  | .frmResync .. => ⟨1, May.dovetailRestart ++ May.byMaster ++ [FRM_CTRL.RESYNC], [EV.CLIENT_DOWN, EV.PAIR_SYNC_FAIL], [], [.cli, .frm, .journal, .sys]⟩
  | .fasDetect .. => ⟨1, [FRM_DOVE_STAT.CANDS, FRM_STATUS.DOVE], [EV.EMULATION], [(256, 1)], [.frm]⟩
  | .candidateCheck .. => ⟨1, [FRM_DOVE_STAT.CANDS, FRM_STATUS.DOVE], [], [(257, 1)], [.frm]⟩
  | .resolutionWindowEnd .. => ⟨1, May.dovetailRestart, [EV.CLIENT_DOWN, EV.IN_FRAME], [(256, 1)], [.cli, .frm]⟩
  | .inFrameCheck .. => ⟨1, May.dovetailRestart, [EV.CLIENT_DOWN, EV.OUT_OF_FRAME], [(258, 1)], [.cli, .frm]⟩
  | .rxFrame .. => ⟨1, [CLI_CH_STAT.LF_OUT, CLI_CH_STAT.RX_SLOTS, CLI_CH_STAT.STATE, CLI_RX_MSI.CHAN, CLI_RX_MSI.OCC, FRM_OHC_STAT.SLIP_DROP, FRM_OHC_STAT.SLIP_REP, FRM_STATUS.IM, PAIR_STATUS.IDENT], [EV.CBR_SLIP, EV.CLIENT_DOWN, EV.DEFECT_CLEAR, EV.DEFECT_RAISE, EV.OHC_SLIP, EV.TTI_CHANGE], [(36, 1), (37, 2), (259, 1), (280, 4), (284, 1), (288, 128)], [.cli, .frm, .pair]⟩
  | .txFrame .. => ⟨1, [CLI_CH_CFG.SLOTS, CLI_MOVE_STAT.CD, CLI_MOVE_STAT.PENDING, CLI_MOVE_STAT.TARGET_SF, CLI_TS_OWNER.OWNER, CLI_TS_OWNER.PEND, FRM_OHC_STAT.SLIP_DROP, FRM_OHC_STAT.SLIP_REP, PAIR_STATUS.IDENT, VNR_STATUS.DEGRADED, VNR_STATUS.SENSE_ARMED], [EV.CBR_SLIP, EV.OHC_SLIP, EV.TRIB_MOVE_ANNOUNCED, EV.TRIB_MOVE_APPLIED, EV.VNR_DEGRADED], [(32, 1), (33, 1), (280, 4), (284, 1), (288, 128)], [.adapt, .cli, .frm, .pair, .vnr]⟩
  | .losClear .. => ⟨1, [CLI_CH_STAT.LF_OUT, CLI_CH_STAT.STATE], [EV.CLIENT_DOWN, EV.DEFECT_CLEAR, EV.DEFECT_RAISE], [], [.cli, .frm]⟩
  | .lofDeclare .. => ⟨1, [CLI_CH_STAT.LF_OUT, CLI_CH_STAT.STATE], [EV.CLIENT_DOWN, EV.DEFECT_CLEAR, EV.DEFECT_RAISE], [], [.cli, .frm]⟩
  | .lofClear .. => ⟨1, [CLI_CH_STAT.LF_OUT, CLI_CH_STAT.STATE], [EV.CLIENT_DOWN, EV.DEFECT_CLEAR], [], [.cli, .frm]⟩
  | .lomDeclare .. => ⟨1, [CLI_CH_STAT.LF_OUT, CLI_CH_STAT.STATE], [EV.CLIENT_DOWN, EV.DEFECT_CLEAR, EV.DEFECT_RAISE], [], [.cli, .frm]⟩
  | .lomClear .. => ⟨1, [CLI_CH_STAT.LF_OUT, CLI_CH_STAT.STATE], [EV.CLIENT_DOWN, EV.DEFECT_CLEAR], [], [.cli, .frm]⟩
  | .pmSecond .. => ⟨1, [FEC_SEC_BER.EXP, FEC_SEC_BER.MANT, FEC_STATUS.DEG, FRM_INT_STAT.ALL, FRM_PM_BIPV.ALL, FRM_PM_CTRL.FREE_RUN, FRM_PM_CTRL.GEN, FRM_PM_FEB.ALL, FRM_PM_FLAGS.DEF, FRM_PM_FLAGS.ES, FRM_PM_FLAGS.FE_DEF, FRM_PM_FLAGS.FE_ES, FRM_PM_FLAGS.FE_SES, FRM_PM_FLAGS.FE_UAS10, FRM_PM_FLAGS.SES, FRM_PM_FLAGS.UAS10, FRM_PM_FRAMES.ALL, FRM_PM_NEB.ALL, FRM_PM_TIME.ALL], [EV.DEFECT_CLEAR, EV.DEFECT_RAISE, EV.FEC_DEG, EV.FEC_DEG_CLEAR, EV.PM_LATCH], [], [.fec, .frm]⟩
  | .cliAdd .. => ⟨2, May.journal ++ [CLI_CH_CFG.LANE_BASE, CLI_CH_CFG.M, CLI_CH_CFG.RATE, CLI_CH_CFG.SLOTS, CLI_CH_CFG.TYPE, CLI_CH_CTRL.EN, CLI_CH_CTRL.LOOP, CLI_CH_STAT.ING_FAIL, CLI_CH_STAT.LF_OUT, CLI_CH_STAT.RX_SLOTS, CLI_CH_STAT.STATE, CLI_TS_OWNER.OWNER, CLI_TS_OWNER.PEND, SRD_LANE_STAT.STATE, TOD_PORT_STAT.STATE, TOD_RATE.ALL, TOD_STATUS.PARENT, TOD_STATUS.SERVO, VNR_STATUS.DEGRADED, VNR_STATUS.SENSE_ARMED], [EV.PAIR_SYNC_FAIL, EV.PTP_PARENT_CHANGE, EV.PTP_PORT_STATE, EV.SERVO_STATE, EV.VNR_DEGRADED], [], [.cli, .frm, .journal, .slots, .tod, .told, .vnr]⟩
  | .cliRemove .. => ⟨2, May.refEval ++ May.journal ++ [CLI_CH_CFG.LANE_BASE, CLI_CH_CFG.M, CLI_CH_CFG.RATE, CLI_CH_CFG.SLOTS, CLI_CH_CFG.TYPE, CLI_CH_CTRL.EN, CLI_CH_CTRL.LOOP, CLI_CH_STAT.ING_FAIL, CLI_CH_STAT.LF_OUT, CLI_CH_STAT.SKEW, CLI_CH_STAT.STATE, CLI_TS_OWNER.OWNER, CLI_TS_OWNER.PEND, SRD_LANE_STAT.STATE, SRD_LANE_STAT.SYNC, TOD_PORT_STAT.STATE, TOD_RATE.ALL, TOD_STATUS.PARENT, TOD_STATUS.SERVO, VNR_STATUS.DEGRADED, VNR_STATUS.SENSE_ARMED], [EV.CLAMP_ENTER, EV.CLAMP_EXIT, EV.CLIENT_DOWN, EV.DEFECT_CLEAR, EV.PAIR_SYNC_FAIL, EV.PTP_PARENT_CHANGE, EV.PTP_PORT_STATE, EV.QL_CHANGE, EV.REF_SWITCH, EV.SERVO_STATE, EV.VNR_DEGRADED], [], [.cli, .frm, .journal, .ref, .slots, .tod, .told, .vnr]⟩
  | .cliMove .. => ⟨2, May.journal ++ [CLI_CH_CFG.SLOTS, CLI_MOVE_STAT.CD, CLI_MOVE_STAT.CHANNEL, CLI_MOVE_STAT.PENDING, CLI_MOVE_STAT.TARGET_SF, CLI_TS_OWNER.OWNER, CLI_TS_OWNER.PEND, VNR_STATUS.DEGRADED, VNR_STATUS.SENSE_ARMED], [EV.PAIR_SYNC_FAIL, EV.TRIB_MOVE_APPLIED, EV.VNR_DEGRADED], [], [.cli, .journal, .slots, .told, .vnr]⟩
  | .cliMoveCancel .. => ⟨2, May.journal ++ [CLI_MOVE_STAT.CD, CLI_MOVE_STAT.PENDING, CLI_TS_OWNER.PEND, VNR_STATUS.DEGRADED, VNR_STATUS.SENSE_ARMED], [EV.PAIR_SYNC_FAIL, EV.TRIB_MOVE_CANCELLED, EV.VNR_DEGRADED], [], [.cli, .journal, .slots, .told, .vnr]⟩
  | .cliStatus .. => ⟨2, May.journal, [EV.PAIR_SYNC_FAIL], [], [.journal, .slots, .told]⟩
  | .cliCounters .. => ⟨2, May.journal, [EV.PAIR_SYNC_FAIL], [], [.bank, .journal, .slots, .told]⟩
  | .cliTsCfg .. => ⟨2, May.journal ++ [CLI_TS_ADJ_EG.ALL, CLI_TS_ADJ_IN.ALL], [EV.PAIR_SYNC_FAIL], [], [.journal, .slots, .told]⟩
  | .cliLoop .. => ⟨2, May.journal ++ [CLI_CH_CTRL.LOOP, CLI_CH_STAT.LF_OUT], [EV.PAIR_SYNC_FAIL], [], [.journal, .slots, .told]⟩
  | .cliSlotMap .. => ⟨2, May.journal, [EV.PAIR_SYNC_FAIL], [], [.journal, .slots, .told]⟩
  | .cliCntClr .. => ⟨2, May.byMaster ++ [CLI_CTRL.CNT_CLR], [EV.PAIR_SYNC_FAIL], [(288, 128)], [.journal, .sys]⟩
  | .psiMultiframe .. => ⟨2, [CLI_CH_STAT.LF_OUT, CLI_CH_STAT.RX_SLOTS, CLI_CH_STAT.STATE, CLI_RX_MSI.CHAN, CLI_RX_MSI.OCC, CLI_STATUS.ORPHAN], [EV.CLIENT_DOWN, EV.TRIB_MOVE_LATE], [], [.cli]⟩
  | .clientIngressFail .. => ⟨2, [CLI_CH_SKEW.ALL, CLI_CH_STAT.ING_FAIL, CLI_CH_STAT.LF_OUT, CLI_CH_STAT.REALIGN, CLI_CH_STAT.SKEW, CLI_CH_STAT.STATE], [EV.CLIENT_DOWN, EV.CLI_SKEW], [(288, 128)], [.cli]⟩
  | .ingressFailClear .. => ⟨2, [CLI_CH_SKEW.ALL, CLI_CH_STAT.ING_FAIL, CLI_CH_STAT.SKEW, CLI_CH_STAT.STATE], [], [], []⟩
  | .clientUp .. => ⟨2, [CLI_CH_STAT.LF_OUT, CLI_CH_STAT.STATE], [EV.CLIENT_UP], [], []⟩
  | .ptpMessageRx .. => ⟨3, [TOD_PORT_STAT.STATE, TOD_RATE.ALL, TOD_STATUS.PARENT, TOD_STATUS.SERVO], [EV.PTP_PARENT_CHANGE, EV.PTP_PORT_STATE, EV.SERVO_STATE], [(272, 1), (273, 1)], [.frm, .tod]⟩
  | .ptpMessageTx .. => ⟨3, [], [], [], [.frm, .tod]⟩
  | .srdLaneSet .. => ⟨2, May.startTraining ++ May.journal ++ [SRD_LANE_CTRL.RX_FREEZE, SRD_LANE_CTRL.RX_INV, SRD_LANE_CTRL.TRAIN, SRD_LANE_CTRL.TX_INV, SRD_TXFIR.MAIN, SRD_TXFIR.POST1, SRD_TXFIR.PRE1, SRD_TXFIR.PRE2], [EV.CLIENT_DOWN, EV.PAIR_SYNC_FAIL], [], [.cli, .journal, .slots, .told]⟩
  | .srdStatus .. => ⟨2, May.journal, [EV.PAIR_SYNC_FAIL], [], [.journal, .slots, .told]⟩
  | .srdEyeScan .. => ⟨2, May.journal ++ [SRD_LANE_STAT.SCAN], [EV.PAIR_SYNC_FAIL], [], [.journal, .slots, .srd, .told]⟩
  | .eyeDone .. => ⟨2, [SRD_EYE_SUM.HEIGHT, SRD_EYE_SUM.WIDTH, SRD_LANE_STAT.SCAN], [EV.CAL_QUALITY_LOW, EV.EYE_DONE], [], [.cnv, .slots, .srd, .told]⟩
  | .srdJigSet .. => ⟨2, May.setJig ++ May.journal ++ [SRD_JIG_USER.ALL], [EV.CLIENT_DOWN, EV.PAIR_SYNC_FAIL], [], [.cli, .journal, .slots, .told]⟩
  | .srdJigGet .. => ⟨2, May.journal, [EV.PAIR_SYNC_FAIL], [], [.bank, .journal, .slots, .told]⟩
  | .srdCntClr .. => ⟨2, May.byMaster ++ [SRD_CTRL.CNT_CLR], [EV.PAIR_SYNC_FAIL], [(672, 136)], [.journal, .sys]⟩
  | .laneRetrain .. => ⟨2, May.byMaster ++ May.startTraining ++ [SRD_LANE_CTRL.RETRAIN], [EV.CLIENT_DOWN, EV.PAIR_SYNC_FAIL], [], [.cli, .journal, .sys]⟩
  | .jigInject .. => ⟨2, May.byMaster ++ [SRD_JIG_CFG.INJ_GO], [EV.PAIR_SYNC_FAIL], [], [.journal, .sys]⟩
  | .jigLock .. => ⟨2, [SRD_JIG_CFG.LOCK], [EV.JIG_LOCK], [(672, 136)], []⟩
  | .jigUnlock .. => ⟨2, [SRD_JIG_CFG.LOCK], [EV.JIG_UNLOCK], [(672, 136)], []⟩
  | .lanePowerUp .. => ⟨2, [SRD_LANE_STAT.STATE], [], [], []⟩
  | .laneTrained .. => ⟨2, [CLI_CH_STAT.STATE, SRD_LANE_STAT.SIG, SRD_LANE_STAT.STATE, SRD_LANE_STAT.SYNC], [], [], []⟩
  | .trainTimeout .. => ⟨2, [CLI_CH_STAT.ING_FAIL, CLI_CH_STAT.LF_OUT, CLI_CH_STAT.STATE, SRD_LANE_STAT.STATE], [EV.CLIENT_DOWN, EV.TRAIN_FAIL], [], [.cli]⟩
  | .trainRetry .. => ⟨2, [SRD_LANE_STAT.STATE], [], [], []⟩
  | .laneSignalLoss .. => ⟨2, May.startTraining ++ [SRD_LANE_STAT.RETRAINS, SRD_LANE_STAT.SIG], [EV.CLIENT_DOWN], [], [.cli]⟩
  | .align .. => ⟨2, [CMD_BAT_STAT.COUNT, CMD_BAT_STAT.ENUM, SRD_GRP_STAT.BATTEN_RX, SRD_GRP_STAT.BATTEN_TX, SRD_GRP_STAT.MITRE_RX, SRD_GRP_STAT.MITRE_TX, SRD_LANE_STAT.IN_GROUP, SRD_LANE_STAT.SIG, SRD_LANE_STAT.STATE, SRD_LANE_STAT.SYNC], [EV.GROUP_DOWN, EV.GROUP_UP, EV.LANE_DROP, EV.LANE_RESTORE], [(672, 136)], [.cmd, .srd]⟩
  | .laneWtrEnd .. => ⟨2, [SRD_LANE_STAT.STATE], [], [], [.srd]⟩
  | .packetRx .. => ⟨2, [], [], [(672, 136)], []⟩
  | .vnrCfg .. => ⟨2, May.journal ++ [VNR_CTRL.PROT_MODE, VNR_LA_CFG.HOLD, VNR_STATUS.DEGRADED, VNR_STATUS.ERASED, VNR_STATUS.SENSE_ARMED], [EV.PAIR_SYNC_FAIL, EV.VNR_DEGRADED], [(416, 1), (417, 1), (424, 224)], [.journal, .slots, .told, .vnr]⟩
  | .vnrStatus .. => ⟨2, May.journal, [EV.PAIR_SYNC_FAIL], [], [.journal, .slots, .told]⟩
  | .vnrPageSet .. => ⟨2, May.journal ++ [VNR_PAGE_CFG.DIR, VNR_PAGE_CFG.INLINE, VNR_PAGE_CFG.LA_EN, VNR_PAGE_CFG.OWNER, VNR_PAGE_CFG.SANDBOX, VNR_PAGE_ROT.PERIOD], [EV.PAIR_SYNC_FAIL], [], [.journal, .slots, .told]⟩
  | .vnrKeyLoad .. => ⟨2, May.journal ++ [VNR_PAGE_STAT.GEN0, VNR_PAGE_STAT.GEN1, VNR_PAGE_STAT.PENDING, VNR_PAGE_STAT.TARGET_SF, VNR_PAGE_STAT.V0, VNR_PAGE_STAT.V1], [EV.KEY_LOADED, EV.PAIR_SYNC_FAIL], [], [.journal, .slots, .told, .vnr]⟩
  | .vnrKeySwitch .. => ⟨2, May.journal ++ [VNR_PAGE_STAT.PENDING, VNR_PAGE_STAT.TARGET_SF, VNR_PAGE_STAT.TX_KP], [EV.KEY_SWITCHED, EV.PAIR_SYNC_FAIL], [], [.journal, .slots, .told, .vnr]⟩
  | .vnrKeyErase .. => ⟨2, May.journal ++ [VNR_INT_STAT.ALL, VNR_PAGE_STAT.PENDING, VNR_PAGE_STAT.RX_USE, VNR_PAGE_STAT.V0, VNR_PAGE_STAT.V1], [EV.KEY_ERASED, EV.LA_DONE, EV.PAIR_SYNC_FAIL], [(417, 1)], [.draws, .journal, .slots, .told, .vnr]⟩
  | .vnrBind .. => ⟨2, May.journal ++ [VNR_CH_BIND.PAGE], [EV.PAIR_SYNC_FAIL], [], [.journal, .slots, .told]⟩
  | .vnrLa .. => ⟨2, May.journal, [EV.PAIR_SYNC_FAIL], [], [.journal, .slots, .told, .vnr]⟩
  | .laDone .. => ⟨2, [VNR_INT_STAT.ALL], [EV.LA_DONE, EV.VNR_FAULT], [(416, 1), (417, 1)], [.draws, .slots, .told, .vnr]⟩
  | .vnrCounters .. => ⟨2, May.journal, [EV.PAIR_SYNC_FAIL], [], [.bank, .journal, .slots, .told]⟩
  | .vnrRearm .. => ⟨2, May.journal ++ [VNR_STATUS.ERASED], [EV.PAIR_SYNC_FAIL], [], [.journal, .slots, .told]⟩
  | .vnrCtrlRearm .. => ⟨2, May.byMaster ++ [VNR_CTRL.REARM, VNR_STATUS.ERASED], [EV.PAIR_SYNC_FAIL], [], [.journal, .sys]⟩
  | .vnrCntClr .. => ⟨2, May.byMaster ++ [VNR_CTRL.CNT_CLR], [EV.PAIR_SYNC_FAIL], [(416, 1), (417, 1), (424, 224)], [.journal, .sys]⟩
  | .protModeWrite .. => ⟨2, May.byMaster ++ [VNR_CTRL.PROT_MODE, VNR_STATUS.DEGRADED, VNR_STATUS.SENSE_ARMED], [EV.PAIR_SYNC_FAIL, EV.VNR_DEGRADED], [], [.journal, .sys, .vnr]⟩
  | .vnrTxBlock .. => ⟨2, [], [EV.VNR_FAULT], [(416, 1), (424, 224)], [.vnr]⟩
  | .vnrKatDone .. => ⟨2, [VNR_STATUS.DEGRADED, VNR_STATUS.LA_PAIRS, VNR_STATUS.RX_PIPES, VNR_STATUS.SENSE_ARMED, VNR_STATUS.TX_PIPES], [EV.VNR_DEGRADED, EV.VNR_FAULT], [], [.vnr]⟩
  | .vnrRxBlock .. => ⟨2, [VNR_PAGE_STAT.RX_USE], [EV.KEY_UNKNOWN, EV.VNR_AUTH, EV.VNR_FAULT], [(416, 1), (424, 224)], [.vnr]⟩
  | .retainedGenErase .. => ⟨2, [], [], [], [.vnr]⟩
  | .keyAge .. => ⟨2, [], [EV.KEY_AGE], [], [.vnr]⟩
  | .keyExhausted .. => ⟨2, [], [EV.KEY_EXHAUSTED], [], [.vnr]⟩
  | .keyRotationTimer .. => ⟨2, [], [EV.KEY_AGE], [(271, 1)], [.draws, .scr]⟩
  | .sensorAlarm .. => ⟨2, May.eraseAll ++ [VNR_STATUS.ERASED, VNR_STATUS.SENSOR], [EV.KEY_ERASED, EV.LA_DONE, EV.VNR_SENSOR], [(417, 1)], [.draws, .slots, .told, .vnr]⟩
  | .sensorRekey .. => ⟨2, [VNR_PAGE_STAT.GEN0, VNR_PAGE_STAT.GEN1, VNR_PAGE_STAT.V0, VNR_PAGE_STAT.V1, VNR_STATUS.SENSOR], [], [], [.draws, .vnr]⟩
  | .drbgHealthFail .. => ⟨2, [SEC_STATUS.DRBG_OK, VNR_STATUS.RNG_OK], [EV.VNR_FAULT], [], []⟩
  | .drbgHealthPass .. => ⟨2, [SEC_STATUS.DRBG_OK, VNR_STATUS.RNG_OK], [], [], []⟩
  | .scrCfgSet .. => ⟨2, May.scrRestart ++ May.journal ++ [SCR_BACKOFF.ALL, SCR_CFG.CAP_MARGIN, SCR_CFG.FREQ, SCR_CFG.LEVEL, SCR_CFG.SYNC_TOL, SCR_CTRL.AUTO_RENEG, SCR_CTRL.EN, SCR_CTRL.NEG, SCR_CTRL.PIN, SCR_KEY_PAGES.ALL, SCR_MODES.ALL, SCR_PEER_ID.ALL, SCR_TIMERS.HELLO, SCR_TIMERS.NEG_TO, SCR_TIMERS.REPLY_TO, SCR_TIMERS.RETRIES, SCR_TIMERS2.GO_TO, SCR_TIMERS2.RELOCK_TO, SCR_TIMERS2.SEL_WIN], [EV.KEY_SWITCHED, EV.PAIR_SYNC_FAIL, EV.PLAN_APPLIED, EV.TRIB_MOVE_APPLIED, EV.TX_DARK, EV.VNR_DEGRADED], [(264, 8)], [.adapt, .cli, .journal, .ltx, .scr, .slots, .told, .vnr]⟩
  | .scrTrust .. => ⟨2, May.journal, [EV.PAIR_SYNC_FAIL], [], [.journal, .scr, .slots, .told]⟩
  | .scrStatus .. => ⟨2, May.journal, [EV.PAIR_SYNC_FAIL], [], [.journal, .slots, .told]⟩
  | .scrPeers .. => ⟨2, May.journal, [EV.PAIR_SYNC_FAIL], [], [.journal, .slots, .told]⟩
  | .scrRestart .. => ⟨2, May.scrRestart ++ May.journal, [EV.KEY_SWITCHED, EV.PAIR_SYNC_FAIL, EV.PLAN_APPLIED, EV.TRIB_MOVE_APPLIED, EV.TX_DARK, EV.VNR_DEGRADED], [], [.adapt, .cli, .journal, .ltx, .scr, .slots, .told, .vnr]⟩
  | .scrCtrlRestart .. => ⟨2, May.scrRestart ++ May.byMaster ++ [SCR_CTRL.RESTART], [EV.KEY_SWITCHED, EV.PAIR_SYNC_FAIL, EV.PLAN_APPLIED, EV.TRIB_MOVE_APPLIED, EV.TX_DARK, EV.VNR_DEGRADED], [], [.adapt, .cli, .journal, .ltx, .scr, .slots, .sys, .told, .vnr]⟩
  | .scrCntClr .. => ⟨2, May.byMaster ++ [SCR_CTRL.CNT_CLR], [EV.PAIR_SYNC_FAIL], [(264, 8)], [.journal, .sys]⟩
  | .scrEnWrite .. => ⟨2, May.goDark ++ May.byMaster ++ May.scrOff ++ [SCR_CFG.FREQ, SCR_CTRL.EN], [EV.KEY_SWITCHED, EV.PAIR_SYNC_FAIL, EV.PLAN_APPLIED, EV.TRIB_MOVE_APPLIED, EV.TX_DARK, EV.VNR_DEGRADED], [], [.adapt, .cli, .journal, .ltx, .scr, .slots, .sys, .told, .vnr]⟩
  | .syncWordDetect .. => ⟨2, [SCR_AFC.ALL, SCR_STATUS.LEVEL, SCR_STATUS.RX_BUSY], [EV.PREEMPTED, EV.SCR_LOOPBACK], [(265, 1), (266, 1), (267, 1), (268, 1), (269, 1)], [.scr]⟩
  | .hello .. => ⟨2, [SCR_STATUS.PEERS, SCR_STATUS.RX_BUSY], [EV.SCR_MULTI_PEER, EV.SCR_PEER_REJECT], [(264, 1), (268, 1), (270, 1), (271, 1)], [.scr]⟩
  | .kex .. => ⟨2, May.enterKeying ++ May.backToBeacon, [EV.KEY_LOADED, EV.SCR_MULTI_PEER, EV.SCR_NO_COMMON, EV.SCR_PEER_REJECT], [(264, 1), (268, 1), (270, 1), (271, 1)], [.draws, .scr, .vnr]⟩
  | .propose .. => ⟨2, May.enterKeying ++ [SCR_STATUS.RX_BUSY], [EV.KEY_LOADED, EV.SCR_MULTI_PEER, EV.SCR_NO_COMMON], [(264, 1), (268, 1), (271, 1)], [.draws, .scr, .vnr]⟩
  | .accept .. => ⟨2, May.enterKeying ++ [SCR_STATUS.RX_BUSY], [EV.KEY_LOADED, EV.SCR_MULTI_PEER], [(264, 1), (268, 1), (271, 1)], [.draws, .scr, .vnr]⟩
  | .reject .. => ⟨2, [SCR_STATUS.RX_BUSY, SCR_STATUS.STATE], [EV.SCR_MULTI_PEER], [(264, 1), (268, 1), (271, 1)], [.scr]⟩
  | .keys .. => ⟨2, May.scrPlace ++ [SCR_STATUS.RX_BUSY, SCR_STATUS.STATE, VNR_PAGE_STAT.PENDING, VNR_PAGE_STAT.TARGET_SF], [EV.KEY_AGE, EV.KEY_LOADED, EV.KEY_SWITCHED, EV.SCR_AGREED, EV.SCR_LIVE, EV.SCR_MULTI_PEER], [(264, 1), (268, 1), (271, 1)], [.scr, .vnr]⟩
  | .keysAck .. => ⟨2, [SCR_STATUS.RX_BUSY, SCR_STATUS.STATE, VNR_PAGE_STAT.PENDING, VNR_PAGE_STAT.RX_USE, VNR_PAGE_STAT.TARGET_SF, VNR_PAGE_STAT.TX_KP, VNR_PAGE_STAT.V0, VNR_PAGE_STAT.V1], [EV.KEY_AGE, EV.KEY_SWITCHED, EV.SCR_AGREED, EV.SCR_LIVE, EV.SCR_MULTI_PEER], [(264, 1), (268, 1), (271, 1)], [.scr, .vnr]⟩
  | .go .. => ⟨2, May.goDark ++ May.setRxMode ++ May.restartNow ++ May.setTxMode ++ [LRX_CTRL.RX_EN, LRX_SHAPE.KERF, LRX_SHAPE.ROLLOFF, LTX_SHAPE.KERF, LTX_SHAPE.ROLLOFF, LTX_STATUS.BIAS_LOCKED], [EV.CLIENT_DOWN, EV.DEFECT_CLEAR, EV.DEFECT_RAISE, EV.KEY_SWITCHED, EV.PLAN_APPLIED, EV.PTP_PARENT_CHANGE, EV.PTP_PORT_STATE, EV.SCR_MULTI_PEER, EV.SERVO_STATE, EV.TRIB_MOVE_APPLIED, EV.TX_DARK, EV.VNR_DEGRADED], [(264, 1), (268, 1), (271, 1)], [.adapt, .cli, .frm, .lrx, .ltx, .scr, .slots, .tod, .told, .vnr]⟩
  | .goSent .. => ⟨2, May.goDark ++ May.setRxMode ++ May.restartNow ++ May.setTxMode ++ [LRX_CTRL.RX_EN, LRX_SHAPE.KERF, LRX_SHAPE.ROLLOFF, LTX_SHAPE.KERF, LTX_SHAPE.ROLLOFF, LTX_STATUS.BIAS_LOCKED], [EV.CLIENT_DOWN, EV.DEFECT_CLEAR, EV.DEFECT_RAISE, EV.KEY_SWITCHED, EV.PLAN_APPLIED, EV.PTP_PARENT_CHANGE, EV.PTP_PORT_STATE, EV.SERVO_STATE, EV.TRIB_MOVE_APPLIED, EV.TX_DARK, EV.VNR_DEGRADED], [], [.adapt, .cli, .frm, .lrx, .ltx, .scr, .slots, .tod, .told, .vnr]⟩
  | .reneg .. => ⟨2, May.goDark ++ [SCR_STATUS.RX_BUSY, SCR_STATUS.STATE], [EV.KEY_SWITCHED, EV.PLAN_APPLIED, EV.SCR_MULTI_PEER, EV.SCR_NO_COMMON, EV.TRIB_MOVE_APPLIED, EV.TX_DARK, EV.VNR_DEGRADED], [(264, 1), (268, 1), (271, 1)], [.adapt, .cli, .ltx, .scr, .slots, .told, .vnr]⟩
  | .rotate .. => ⟨2, [SCR_STATUS.RX_BUSY], [EV.SCR_MULTI_PEER], [(264, 1), (268, 1), (271, 1)], [.draws, .scr]⟩
  | .holdOffEnd .. => ⟨2, [SCR_STATUS.STATE], [], [], [.scr]⟩
  | .helloTimer .. => ⟨2, [], [], [(271, 1)], [.scr]⟩
  | .beaconLight .. => ⟨2, [LTX_STATUS.BIAS_LOCKED], [], [], [.ltx, .scr]⟩
  | .selectionWindowEnd .. => ⟨2, May.enterKeying ++ May.backToBeacon, [EV.KEY_LOADED, EV.SCR_MULTI_PEER, EV.SCR_NO_COMMON, EV.SCR_PAIRED, EV.SCR_PEER_REJECT], [(270, 1), (271, 1)], [.draws, .scr, .vnr]⟩
  | .scrReplyTimeout .. => ⟨2, [SCR_STATUS.STATE], [EV.KEY_AGE, EV.SCR_TIMEOUT], [(271, 1)], [.scr]⟩
  | .negTimeout .. => ⟨2, [SCR_STATUS.STATE], [EV.KEY_AGE, EV.SCR_TIMEOUT], [], [.scr]⟩
  | .scrHoldEnd .. => ⟨2, May.backToBeacon, [], [], [.scr]⟩
  | .scrLive .. => ⟨2, [SCR_STATUS.STATE], [EV.SCR_LIVE], [], [.scr]⟩
  | .goLiveTimeout .. => ⟨2, May.goDark ++ May.backToBeacon, [EV.KEY_SWITCHED, EV.PLAN_APPLIED, EV.SCR_FALLBACK, EV.TRIB_MOVE_APPLIED, EV.TX_DARK, EV.VNR_DEGRADED], [], [.adapt, .cli, .ltx, .scr, .slots, .told, .vnr]⟩
  | .relockTimeout .. => ⟨2, May.goDark ++ [SCR_STATUS.STATE], [EV.KEY_SWITCHED, EV.PLAN_APPLIED, EV.SCR_FALLBACK, EV.SCR_NO_COMMON, EV.TRIB_MOVE_APPLIED, EV.TX_DARK, EV.VNR_DEGRADED], [(271, 1)], [.adapt, .cli, .ltx, .scr, .slots, .told, .vnr]⟩
  | .peerHelloLost .. => ⟨2, May.backToBeacon, [], [], [.scr]⟩
  | .refCfg .. => ⟨3, May.refEval ++ May.journal ++ [REF_CLAMP_CFG.HIST_AVG, REF_CLAMP_CFG.HIST_GUARD, REF_CLAMP_CFG.HIST_MIN, REF_CLAMP_MAX.ALL, REF_COMPAT_CFG.WIN, REF_CTRL.CLAMP_QL, REF_CTRL.ESMC_TX, REF_CTRL.QL_EN, REF_CTRL.REVERT, REF_CTRL.SEL_CAND, REF_CTRL.SEL_MODE, REF_DPLL_CFG.ACQ_BW, REF_DPLL_CFG.BW, REF_DPLL_CFG.LOCK_THR, REF_ESMC_MASK.MASK, REF_MON_CFG.ACCEPT, REF_MON_CFG.RATE, REF_MON_CFG.REJECT, REF_OSC_CFG.HZ, REF_TIMERS.BUILDOUT, REF_TIMERS.QUAL, REF_TIMERS.WTR], [EV.CLAMP_ENTER, EV.CLAMP_EXIT, EV.PAIR_SYNC_FAIL, EV.QL_CHANGE, EV.REF_SWITCH], [], [.frm, .journal, .ref, .slots, .told]⟩
  | .refCandSet .. => ⟨3, May.requalify ++ May.journal ++ [REF_CAND_CFG.LANE, REF_CAND_CFG.LOCKOUT, REF_CAND_CFG.PRIO, REF_CAND_CFG.QL, REF_CAND_CFG.QL_SRC, REF_CAND_FHZ.HZ], [EV.CLAMP_ENTER, EV.CLAMP_EXIT, EV.PAIR_SYNC_FAIL, EV.QL_CHANGE, EV.REF_SWITCH], [], [.frm, .journal, .ref, .slots, .told]⟩
  | .candFreqWrite .. => ⟨3, May.candFreqWrite ++ May.byMaster, [EV.CLAMP_ENTER, EV.CLAMP_EXIT, EV.PAIR_SYNC_FAIL, EV.QL_CHANGE, EV.REF_SWITCH], [], [.frm, .journal, .ref, .sys]⟩
  | .refSelect .. => ⟨3, May.refEval ++ May.journal ++ [REF_CTRL.SEL_CAND, REF_CTRL.SEL_MODE], [EV.CLAMP_ENTER, EV.CLAMP_EXIT, EV.PAIR_SYNC_FAIL, EV.QL_CHANGE, EV.REF_SWITCH], [], [.frm, .journal, .ref, .slots, .told]⟩
  | .refStatus .. => ⟨3, May.journal, [EV.PAIR_SYNC_FAIL], [], [.journal, .slots, .told]⟩
  | .refOutSet .. => ⟨3, May.journal ++ [REF_OUT_CFG.COMPAT, REF_OUT_CFG.EN, REF_OUT_CFG.POL, REF_OUT_CFG.SRC, REF_OUT_CFG.WIDTH, REF_OUT_FHZ.HZ, REF_OUT_OFS.ALL], [EV.PAIR_SYNC_FAIL], [], [.journal, .slots, .told]⟩
  | .refRealign .. => ⟨3, May.journal, [EV.PAIR_SYNC_FAIL], [], [.journal, .ref, .slots, .told]⟩
  | .realignStep .. => ⟨3, [], [EV.OUT_REALIGNED], [], [.ref, .slots, .told]⟩
  | .refActivity .. => ⟨3, May.refEval ++ [REF_CAND_STAT.ACT, REF_CAND_STAT.QUAL_LEFT, REF_STATUS.QUALIFIED], [EV.CLAMP_ENTER, EV.CLAMP_EXIT, EV.QL_CHANGE, EV.REF_DISQUALIFIED, EV.REF_SWITCH], [], [.frm, .ref]⟩
  | .freqGateEnd .. => ⟨3, May.refEval ++ [REF_CAND_FREQ.ALL, REF_CAND_STAT.DRIFT, REF_CAND_STAT.QUAL_LEFT, REF_STATUS.QUALIFIED], [EV.CLAMP_ENTER, EV.CLAMP_EXIT, EV.DRIFT, EV.QL_CHANGE, EV.REF_DISQUALIFIED, EV.REF_SWITCH], [], [.frm, .ref]⟩
  | .refQualifyEnd .. => ⟨3, May.refEval ++ [REF_CAND_STAT.QUAL_LEFT, REF_STATUS.QUALIFIED], [EV.CLAMP_ENTER, EV.CLAMP_EXIT, EV.QL_CHANGE, EV.REF_QUALIFIED, EV.REF_SWITCH], [], [.frm, .ref]⟩
  | .driftEval .. => ⟨3, [REF_CAND_STAT.DRIFT], [EV.DRIFT], [], [.ref]⟩
  | .buildoutEnd .. => ⟨3, May.refEval, [EV.CLAMP_ENTER, EV.CLAMP_EXIT, EV.QL_CHANGE, EV.REF_SWITCH], [], [.frm, .ref]⟩
  | .dpllLock .. => ⟨3, May.refEval, [EV.CLAMP_ENTER, EV.CLAMP_EXIT, EV.DPLL_LOCK, EV.QL_CHANGE, EV.REF_SWITCH], [], [.frm, .ref]⟩
  | .dpllUnlock .. => ⟨3, May.refEval ++ [REF_PHASE_ERR.ALL], [EV.CLAMP_ENTER, EV.CLAMP_EXIT, EV.DPLL_UNLOCK, EV.QL_CHANGE, EV.REF_SWITCH], [], [.frm, .ref]⟩
  | .dpllHistoryTick .. => ⟨3, [REF_DPLL_FREQ.ALL, REF_HIST_FREQ.ALL, REF_PHASE_ERR.ALL, REF_STATUS.HIST_VALID], [], [], [.ref]⟩
  | .clampExpired .. => ⟨3, May.refEval, [EV.CLAMP_ENTER, EV.CLAMP_EXIT, EV.QL_CHANGE, EV.REF_SWITCH], [], [.frm, .ref]⟩
  | .oscLost .. => ⟨3, May.refEval ++ [REF_STATUS.MON_SRC, REF_STATUS.OSC_PRESENT], [EV.CLAMP_ENTER, EV.CLAMP_EXIT, EV.OSC_LOST, EV.QL_CHANGE, EV.REF_SWITCH], [], [.frm, .ref]⟩
  | .esmcRx .. => ⟨3, May.refEval, [EV.CLAMP_ENTER, EV.CLAMP_EXIT, EV.QL_CHANGE, EV.REF_SWITCH], [], [.frm, .ref]⟩
  | .esmcTx .. => ⟨3, [], [], [], []⟩
  | .qlTimeout .. => ⟨3, May.refEval, [EV.CLAMP_ENTER, EV.CLAMP_EXIT, EV.QL_CHANGE, EV.REF_SWITCH], [], [.frm, .ref]⟩
  | .lineQlRx .. => ⟨3, May.refEval, [EV.CLAMP_ENTER, EV.CLAMP_EXIT, EV.QL_CHANGE, EV.REF_SWITCH], [], [.frm, .ref]⟩
  | .compatPulse .. => ⟨3, [], [EV.OUT_REALIGNED], [], [.ref]⟩
  | .todGet .. => ⟨3, May.journal, [EV.PAIR_SYNC_FAIL], [], [.journal, .slots, .told]⟩
  | .todStep .. => ⟨3, May.journal, [EV.PAIR_SYNC_FAIL], [], [.journal, .slots, .tod, .told]⟩
  | .todStepApply .. => ⟨3, May.schedRun ++ [TOD_STATUS.STEP_AVAIL, TOD_STATUS.VALID], [EV.MON_TRIG_OVR, EV.SCHED_FIRED, EV.TOD_STEPPED], [], [.mon, .obs, .tod]⟩
  | .todRearm .. => ⟨3, May.journal ++ [TOD_PORT_STAT.STATE, TOD_RATE.ALL, TOD_STATUS.PARENT, TOD_STATUS.SERVO, TOD_STATUS.STEP_AVAIL], [EV.PAIR_SYNC_FAIL, EV.PTP_PARENT_CHANGE, EV.PTP_PORT_STATE, EV.SERVO_STATE], [], [.frm, .journal, .slots, .tod, .told]⟩
  | .todRateSet .. => ⟨3, May.journal ++ [TOD_RATE.ALL], [EV.PAIR_SYNC_FAIL], [], [.journal, .slots, .told]⟩
  | .ptpCfg .. => ⟨3, May.journal ++ [TOD_LIMITS.ACC_HOLD, TOD_LIMITS.ASYM_THR, TOD_LIMITS.JUMP_THR, TOD_PORT_STAT.STATE, TOD_PTP_CFG.DOMAIN, TOD_PTP_CFG.HOLDOVER, TOD_PTP_CFG.PRIO2, TOD_RATE.ALL, TOD_SCHED_CFG.GRACE, TOD_SERVO_CFG.BW, TOD_SERVO_CFG.EN, TOD_SERVO_CFG.RATE_MAX, TOD_STATUS.PARENT, TOD_STATUS.SERVO], [EV.PAIR_SYNC_FAIL, EV.PTP_PARENT_CHANGE, EV.PTP_PORT_STATE, EV.SERVO_STATE], [], [.frm, .journal, .slots, .tod, .told]⟩
  | .ptpPortSet .. => ⟨3, May.journal ++ [TOD_PORT_CFG.DA, TOD_PORT_CFG.EN, TOD_PORT_CFG.LOCAL_PRIO, TOD_PORT_CFG.MASTER_ONLY, TOD_PORT_CFG.NOT_SLAVE, TOD_PORT_CFG.TWO_STEP, TOD_PORT_STAT.STATE, TOD_RATE.ALL, TOD_STATUS.PARENT, TOD_STATUS.SERVO], [EV.PAIR_SYNC_FAIL, EV.PTP_PARENT_CHANGE, EV.PTP_PORT_STATE, EV.SERVO_STATE], [], [.frm, .journal, .slots, .tod, .told]⟩
  | .ptpStatus .. => ⟨3, May.journal, [EV.PAIR_SYNC_FAIL], [], [.journal, .slots, .told]⟩
  | .lineDelay .. => ⟨3, May.journal, [EV.PAIR_SYNC_FAIL], [], [.journal, .slots, .told]⟩
  | .asymAccept .. => ⟨3, May.journal ++ [TOD_ASYM.ALL, TOD_RATE.ALL, TOD_STATUS.HOLD_LEFT, TOD_STATUS.PATH_ASYM, TOD_STATUS.SERVO], [EV.ASYM_ACCEPTED, EV.PAIR_SYNC_FAIL, EV.SERVO_STATE], [], [.journal, .slots, .tod, .told]⟩
  | .schedSet .. => ⟨3, May.schedRun ++ May.journal ++ [TOD_SCHED_ACT.CODE, TOD_SCHED_ACT.L, TOD_SCHED_ACT.P, TOD_SCHED_ACT.RUN_LATE, TOD_SCHED_T.ALL], [EV.MON_TRIG_OVR, EV.PAIR_SYNC_FAIL, EV.SCHED_FIRED], [], [.journal, .mon, .obs, .slots, .tod, .told]⟩
  | .schedCancel .. => ⟨3, May.journal ++ [TOD_SCHED_ACT.ARMED], [EV.PAIR_SYNC_FAIL], [], [.journal, .slots, .told]⟩
  | .schedFire .. => ⟨3, May.schedRun, [EV.MON_TRIG_OVR, EV.SCHED_FIRED], [], [.mon, .obs, .tod]⟩
  | .todLatch .. => ⟨3, May.byMaster ++ [TOD_CTRL.GEN, TOD_CTRL.LATCH, TOD_LATCH_FRAC.ALL, TOD_LATCH_NS.ALL, TOD_LATCH_SEC.ALL], [EV.PAIR_SYNC_FAIL], [], [.journal, .sys]⟩
  | .todCntClr .. => ⟨3, May.byMaster ++ [TOD_CTRL.CNT_CLR], [EV.PAIR_SYNC_FAIL], [(272, 2)], [.journal, .sys]⟩
  | .timeBaseOk .. => ⟨3, [TOD_STATUS.BASE_OK], [], [], [.tod]⟩
  | .lineStampRx .. => ⟨3, [TOD_ASYM_NEW.ALL, TOD_LINE_FWD.ALL, TOD_LINE_REV.ALL, TOD_RATE.ALL, TOD_STATUS.FAR_VALID, TOD_STATUS.HOLD_LEFT, TOD_STATUS.PATH_ASYM, TOD_STATUS.SERVO], [EV.PATH_ASYM, EV.SERVO_STATE], [], [.tod]⟩
  | .lineAnnounceRx .. => ⟨3, [TOD_PORT_STAT.STATE, TOD_RATE.ALL, TOD_STATUS.PARENT, TOD_STATUS.SERVO], [EV.PTP_PARENT_CHANGE, EV.PTP_PORT_STATE, EV.SERVO_STATE], [], [.frm, .tod]⟩
  | .asymHoldEnd .. => ⟨3, [TOD_ASYM.ALL, TOD_RATE.ALL, TOD_STATUS.HOLD_LEFT, TOD_STATUS.PATH_ASYM, TOD_STATUS.SERVO], [EV.ASYM_ACCEPTED, EV.SERVO_STATE], [], [.tod]⟩
  | .servoSecond .. => ⟨3, [TOD_OFFSET.ALL, TOD_PORT_STAT.STATE, TOD_RATE.ALL, TOD_STATUS.HOLD_LEFT, TOD_STATUS.SERVO], [EV.PTP_PORT_STATE, EV.SERVO_STATE], [], [.tod]⟩
  | .parentMeasureDone .. => ⟨3, May.schedRun ++ [TOD_OFFSET.ALL, TOD_PORT_STAT.STATE, TOD_RATE.ALL, TOD_STATUS.PARENT, TOD_STATUS.SERVO, TOD_STATUS.STEP_AVAIL, TOD_STATUS.VALID], [EV.JUMP_REFUSED, EV.MON_TRIG_OVR, EV.PTP_PARENT_CHANGE, EV.PTP_PORT_STATE, EV.SCHED_FIRED, EV.SERVO_STATE, EV.TOD_STEPPED], [], [.frm, .mon, .obs, .tod]⟩
  | .announceTimeout .. => ⟨3, [TOD_PORT_STAT.STATE, TOD_RATE.ALL, TOD_STATUS.PARENT, TOD_STATUS.SERVO], [EV.PTP_PARENT_CHANGE, EV.PTP_PORT_STATE, EV.SERVO_STATE], [], [.frm, .tod]⟩
  | .holdoverExpiry .. => ⟨3, [TOD_PORT_STAT.STATE, TOD_RATE.ALL, TOD_STATUS.PARENT, TOD_STATUS.SERVO], [EV.PTP_PARENT_CHANGE, EV.PTP_PORT_STATE, EV.SERVO_STATE], [], [.frm, .tod]⟩
  | .pairCfg .. => ⟨4, May.setRole ++ May.journal ++ [PAIR_CMP_CFG.MIS_N, PAIR_CMP_CFG.UNRES_N, PAIR_CTRL.CMP_RX, PAIR_CTRL.CMP_TX, PAIR_CTRL.CNT_CLR, PAIR_CTRL.EN, PAIR_CTRL.PRIMARY, PAIR_CTRL.REVERT, PAIR_MATE_ID.ALL, PAIR_SPARE_CFG.RETEST, PAIR_SPARE_CFG.SPARE_WTR, PAIR_TIMERS.DEATH_WIN, PAIR_TIMERS.SNAP_PERIOD, PAIR_TIMERS.WTR, PAIR_TIMERS2.ACK_TO, PAIR_TIMERS2.GAP_HOLD, PAIR_TIMERS2.SNAP_TO], [EV.PAIR_ROLE, EV.PAIR_SYNC_FAIL, EV.PTP_PARENT_CHANGE, EV.PTP_PORT_STATE, EV.SERVO_STATE], [(280, 6)], [.frm, .journal, .pair, .slots, .tod, .told]⟩
  | .pairStatus .. => ⟨4, May.journal, [EV.PAIR_SYNC_FAIL], [], [.journal, .slots, .told]⟩
  | .pairSwitch .. => ⟨4, May.promote ++ May.journal, [EV.CLIENT_DOWN, EV.DEFECT_CLEAR, EV.DEFECT_RAISE, EV.MON_TRIG_OVR, EV.PAIR_ROLE, EV.PAIR_SWITCHOVER, EV.PAIR_SYNC_FAIL, EV.PTP_PARENT_CHANGE, EV.PTP_PORT_STATE, EV.SERVO_STATE], [], [.adapt, .cli, .frm, .journal, .lrx, .mon, .pair, .slots, .tod, .told, .vnr]⟩
  | .pairPromote .. => ⟨4, May.promote ++ May.journal, [EV.CLIENT_DOWN, EV.DEFECT_CLEAR, EV.DEFECT_RAISE, EV.MON_TRIG_OVR, EV.PAIR_ROLE, EV.PAIR_SWITCHOVER, EV.PAIR_SYNC_FAIL, EV.PTP_PARENT_CHANGE, EV.PTP_PORT_STATE, EV.SERVO_STATE], [], [.adapt, .cli, .frm, .journal, .lrx, .mon, .pair, .slots, .tod, .told, .vnr]⟩
  | .pairOos .. => ⟨4, May.setRole ++ May.journal, [EV.PAIR_ROLE, EV.PAIR_SYNC_FAIL, EV.PTP_PARENT_CHANGE, EV.PTP_PORT_STATE, EV.SERVO_STATE], [], [.frm, .journal, .pair, .slots, .tod, .told]⟩
  | .pairReturn .. => ⟨4, May.setRole ++ May.journal, [EV.PAIR_ROLE, EV.PAIR_SYNC_FAIL, EV.PTP_PARENT_CHANGE, EV.PTP_PORT_STATE, EV.SERVO_STATE], [], [.frm, .journal, .pair, .slots, .tod, .told]⟩
  | .pairSnapshot .. => ⟨4, May.journal, [EV.PAIR_SYNC_FAIL], [], [.journal, .slots, .told]⟩
  | .pairSpares .. => ⟨4, May.journal, [EV.PAIR_SYNC_FAIL], [], [.journal, .slots, .told]⟩
  | .pairCntClr .. => ⟨4, May.byMaster ++ [PAIR_CTRL.CNT_CLR], [EV.PAIR_SYNC_FAIL], [(280, 6)], [.journal, .sys]⟩
  | .heartbeatTx .. => ⟨4, May.journal ++ [PAIR_JACK.ALL, PAIR_STATUS.WTR_LEFT], [EV.PAIR_SYNC_FAIL], [], [.journal, .pair]⟩
  | .heartbeatRx .. => ⟨4, May.promote ++ [PAIR_EPOCH.ALL, PAIR_JACK.ALL, PAIR_STATUS.MATE_ROLE], [EV.CLIENT_DOWN, EV.DEFECT_CLEAR, EV.DEFECT_RAISE, EV.MON_TRIG_OVR, EV.PAIR_ROLE, EV.PAIR_SWITCHOVER, EV.PAIR_UNPROTECTED, EV.PTP_PARENT_CHANGE, EV.PTP_PORT_STATE, EV.SERVO_STATE], [], [.adapt, .cli, .frm, .journal, .lrx, .mon, .pair, .slots, .tod, .told, .vnr]⟩
  | .mitreLinkLost .. => ⟨4, May.promote ++ [PAIR_STATUS.LINK, PAIR_STATUS.MATE_ROLE], [EV.CLIENT_DOWN, EV.DEFECT_CLEAR, EV.DEFECT_RAISE, EV.MON_TRIG_OVR, EV.PAIR_LINK_DOWN, EV.PAIR_ROLE, EV.PAIR_SWITCHOVER, EV.PTP_PARENT_CHANGE, EV.PTP_PORT_STATE, EV.SERVO_STATE], [], [.adapt, .cli, .frm, .lrx, .mon, .pair, .tod, .vnr]⟩
  | .mitreLinkUp .. => ⟨4, May.setRole ++ [PAIR_EPOCH.ALL, PAIR_STATUS.LINK, PAIR_STATUS.MATE_ROLE, VNR_PAGE_STAT.GEN0, VNR_PAGE_STAT.GEN1, VNR_PAGE_STAT.V0, VNR_PAGE_STAT.V1], [EV.PAIR_AUTH_FAIL, EV.PAIR_DUAL_ACTIVE, EV.PAIR_LINK_UP, EV.PAIR_ROLE, EV.PTP_PARENT_CHANGE, EV.PTP_PORT_STATE, EV.SERVO_STATE], [], [.draws, .frm, .journal, .pair, .tod, .vnr]⟩
  | .pairAuthRetry .. => ⟨4, May.setRole ++ [PAIR_EPOCH.ALL, PAIR_STATUS.LINK, PAIR_STATUS.MATE_ROLE, VNR_PAGE_STAT.GEN0, VNR_PAGE_STAT.GEN1, VNR_PAGE_STAT.V0, VNR_PAGE_STAT.V1], [EV.PAIR_AUTH_FAIL, EV.PAIR_DUAL_ACTIVE, EV.PAIR_LINK_UP, EV.PAIR_ROLE, EV.PTP_PARENT_CHANGE, EV.PTP_PORT_STATE, EV.SERVO_STATE], [], [.draws, .frm, .journal, .pair, .tod, .vnr]⟩
  | .pegTx .. => ⟨4, [], [], [], []⟩
  | .pegPulse .. => ⟨4, May.promote ++ [PAIR_STATUS.PEG, PAIR_STATUS.PEG_CODE], [EV.CLIENT_DOWN, EV.DEFECT_CLEAR, EV.DEFECT_RAISE, EV.MON_TRIG_OVR, EV.PAIR_ROLE, EV.PAIR_SWITCHOVER, EV.PTP_PARENT_CHANGE, EV.PTP_PORT_STATE, EV.SERVO_STATE], [], [.adapt, .cli, .frm, .lrx, .mon, .pair, .tod, .vnr]⟩
  | .pegLoss .. => ⟨4, May.promote ++ [PAIR_STATUS.PEG, PAIR_STATUS.PEG_CODE], [EV.CLIENT_DOWN, EV.DEFECT_CLEAR, EV.DEFECT_RAISE, EV.MON_TRIG_OVR, EV.PAIR_ROLE, EV.PAIR_SWITCHOVER, EV.PEG_LOST, EV.PTP_PARENT_CHANGE, EV.PTP_PORT_STATE, EV.SERVO_STATE], [], [.adapt, .cli, .frm, .lrx, .mon, .pair, .tod, .vnr]⟩
  | .deathWinEnd .. => ⟨4, May.setRole, [EV.PAIR_ROLE, EV.PTP_PARENT_CHANGE, EV.PTP_PORT_STATE, EV.SERVO_STATE], [], [.frm, .pair, .tod]⟩
  | .journalEntryRx .. => ⟨7, [], [], [], []⟩
  | .journalAckTimeout .. => ⟨4, May.setRole ++ [PAIR_EPOCH.ALL, PAIR_STATUS.MATE_ROLE], [EV.PAIR_ROLE, EV.PTP_PARENT_CHANGE, EV.PTP_PORT_STATE, EV.SERVO_STATE], [], [.frm, .journal, .pair, .slots, .tod, .told]⟩
  | .journalResend .. => ⟨4, [], [], [], []⟩
  | .failRx .. => ⟨4, May.promote, [EV.CLIENT_DOWN, EV.DEFECT_CLEAR, EV.DEFECT_RAISE, EV.MON_TRIG_OVR, EV.PAIR_ROLE, EV.PAIR_SWITCHOVER, EV.PTP_PARENT_CHANGE, EV.PTP_PORT_STATE, EV.SERVO_STATE], [], [.adapt, .cli, .frm, .lrx, .mon, .pair, .tod, .vnr]⟩
  | .gapEnd .. => ⟨4, May.trigger ++ [CLI_CH_STAT.LF_OUT, CLI_CH_STAT.STATE, REF_OUT_CFG.EN, SYS_GPIO_IN.ALL, SYS_GPIO_OE.ALL, SYS_GPIO_OUT.ALL, SYS_INT_STAT.ALL, TOD_INT_STAT.ALL, TOD_SCHED_ACT.ARMED, TOD_SCHED_STAT.LATE_US, TOD_SCHED_STAT.STATUS], [EV.CLIENT_DOWN, EV.MON_TRIG_OVR, EV.PAIR_SWITCHOVER, EV.SCHED_FIRED], [], [.cli, .mon, .obs, .pair, .sys, .tod]⟩
  | .snapshotPeriod .. => ⟨4, [PAIR_EPOCH.ALL], [], [], [.journal]⟩
  | .snapshotRx .. => ⟨7, [], [], [], []⟩
  | .snapshotTimeout .. => ⟨4, [], [EV.PAIR_SYNC_FAIL], [], [.pair]⟩
  | .digestBatchRx .. => ⟨4, [PAIR_STATUS.IDENT], [], [(280, 4), (284, 1)], [.pair]⟩
  | .digestMissing .. => ⟨4, [], [], [(285, 1)], [.pair]⟩
  | .identificationDone .. => ⟨4, May.promote ++ [PAIR_EPOCH.ALL, PAIR_STATUS.IDENT, PAIR_STATUS.MATE_ROLE], [EV.CLIENT_DOWN, EV.DEFECT_CLEAR, EV.DEFECT_RAISE, EV.MON_TRIG_OVR, EV.PAIR_MISCOMPARE, EV.PAIR_ROLE, EV.PAIR_SWITCHOVER, EV.PAIR_UNPROTECTED, EV.PTP_PARENT_CHANGE, EV.PTP_PORT_STATE, EV.SERVO_STATE], [], [.adapt, .cli, .frm, .journal, .lrx, .mon, .pair, .tod, .vnr]⟩
  | .pairWtrEnd .. => ⟨4, [PAIR_STATUS.WTR_LEFT, PAIR_STATUS.WTR_RUN], [], [], [.pair]⟩
  | .plannedHandover .. => ⟨4, May.setRole, [EV.PAIR_ROLE, EV.PTP_PARENT_CHANGE, EV.PTP_PORT_STATE, EV.SERVO_STATE], [], [.frm, .pair, .tod]⟩
  | .mitreTimeStamp .. => ⟨4, May.schedRun ++ [TOD_RATE.ALL, TOD_STATUS.STEP_AVAIL, TOD_STATUS.VALID], [EV.MON_TRIG_OVR, EV.SCHED_FIRED, EV.TOD_STEPPED], [], [.mon, .obs, .tod]⟩
  | .engWatchdog .. => ⟨5, May.enterFault ++ [ENG_CORE.CAUSE, ENG_CORE.IMAGE, ENG_CORE.STATE, ENG_CORE.TASK, ENG_FW_STAT.PHASE, PAIR_ENG.FAILS, PAIR_ENG.RUNS_FOR, PAIR_ENG.STATE], [EV.CLIENT_DOWN, EV.ENG_ECC, EV.ENG_WATCHDOG, EV.FW_ROLLBACK, EV.MON_TRIG_OVR, EV.PAIR_ROLE, EV.PAIR_UNPROTECTED, EV.PTP_PARENT_CHANGE, EV.PTP_PORT_STATE, EV.SBX_STOP, EV.SERVO_STATE, EV.SPARE_NONE, EV.SPARE_TAKEOVER, EV.STATE_CHANGE], [(48, 8)], [.cli, .eng, .fec, .frm, .mon, .pair, .slots, .tod, .told]⟩
  | .engEcc .. => ⟨5, May.enterFault ++ [ENG_CORE.CAUSE, ENG_CORE.SBE, ENG_CORE.STATE, ENG_CORE.TASK, PAIR_ENG.FAILS, PAIR_ENG.RUNS_FOR, PAIR_ENG.STATE], [EV.CLIENT_DOWN, EV.ENG_ECC, EV.ENG_WATCHDOG, EV.MON_TRIG_OVR, EV.PAIR_ROLE, EV.PAIR_UNPROTECTED, EV.PTP_PARENT_CHANGE, EV.PTP_PORT_STATE, EV.SERVO_STATE, EV.SPARE_NONE, EV.SPARE_TAKEOVER, EV.STATE_CHANGE], [], [.cli, .eng, .fec, .frm, .mon, .pair, .tod]⟩
  | .engTrap .. => ⟨5, May.enterFault ++ [ENG_CORE.CAUSE, ENG_CORE.IMAGE, ENG_CORE.STATE, ENG_CORE.TASK, ENG_FW_STAT.PHASE, PAIR_ENG.FAILS, PAIR_ENG.RUNS_FOR, PAIR_ENG.STATE], [EV.CLIENT_DOWN, EV.ENG_ECC, EV.ENG_WATCHDOG, EV.FW_ROLLBACK, EV.MON_TRIG_OVR, EV.PAIR_ROLE, EV.PAIR_UNPROTECTED, EV.PTP_PARENT_CHANGE, EV.PTP_PORT_STATE, EV.SBX_STOP, EV.SERVO_STATE, EV.SPARE_NONE, EV.SPARE_TAKEOVER, EV.STATE_CHANGE], [], [.cli, .eng, .fec, .frm, .mon, .pair, .slots, .tod, .told]⟩
  | .taskResume .. => ⟨5, [ENG_CORE.STATE, ENG_CORE.TASK, PAIR_ENG.RUNS_FOR, PAIR_ENG.STATE], [], [], [.eng]⟩
  | .engineRetest .. => ⟨5, [ENG_CORE.STATE, PAIR_ENG.STATE], [], [], []⟩
  | .spareWtrEnd .. => ⟨5, [CMD_STATUS.FAULT_CAUSE, ENG_CORE.STATE, ENG_CORE.TASK, PAIR_ENG.RUNS_FOR, PAIR_ENG.STATE], [], [], [.eng]⟩
  | .sharedSramError .. => ⟨5, May.enterFault, [EV.CLIENT_DOWN, EV.MON_TRIG_OVR, EV.PAIR_ROLE, EV.PAIR_UNPROTECTED, EV.PTP_PARENT_CHANGE, EV.PTP_PORT_STATE, EV.SERVO_STATE, EV.STATE_CHANGE], [], [.cli, .fec, .frm, .mon, .pair, .tod]⟩
  | .monCfg .. => ⟨3, May.journal ++ [MON_CHAIN.FIR, MON_CHAIN.K, MON_CHAIN.R_LOG, MON_CHAIN.SINGLE, MON_CHAIN.WORDS, MON_PERIOD.PERIOD, MON_PGA.ALL, MON_SCAN.ALL, MON_TRIG.PW_MAX, MON_TRIG.PW_MIN, MON_TRIG.SRC, MON_TRIG_TIME.DELAY], [EV.PAIR_SYNC_FAIL], [], [.journal, .mon, .slots, .told]⟩
  | .monStart .. => ⟨3, May.journal ++ [MON_CTRL.EN0, MON_CTRL.EN1, MON_STATUS.BURST0, MON_STATUS.BURST1], [EV.PAIR_SYNC_FAIL], [], [.journal, .mon, .slots, .told]⟩
  | .monRead .. => ⟨3, May.journal ++ [MON_Q_STAT.LEVEL], [EV.PAIR_SYNC_FAIL], [], [.journal, .mon, .slots, .told]⟩
  | .monTrigger .. => ⟨3, May.trigger ++ May.journal, [EV.MON_TRIG_OVR, EV.PAIR_SYNC_FAIL], [], [.journal, .mon, .slots, .told]⟩
  | .monSyscal .. => ⟨3, May.journal ++ [MON_STATUS.BURST0, MON_STATUS.BURST1, MON_STATUS.SYSCAL], [EV.PAIR_SYNC_FAIL], [], [.journal, .mon, .slots, .told]⟩
  | .monSyscalDone .. => ⟨3, [CNV_FUSE_STAT.REFINED, CNV_FUSE_STAT.SOURCE, CNV_STATUS.UNCAL, CNV_STATUS.UNTRACEABLE, MON_STATUS.SYSCAL], [EV.MON_SYSCAL_DONE], [], [.cnv, .mon, .slots, .told]⟩
  | .monStatus .. => ⟨3, May.journal, [EV.PAIR_SYNC_FAIL], [], [.journal, .slots, .told]⟩
  | .monCntClr .. => ⟨3, May.byMaster ++ [MON_CTRL.CNT_CLR, MON_Q_STAT.LOST, MON_TRIG_OVR.ALL], [EV.PAIR_SYNC_FAIL], [], [.journal, .sys]⟩
  | .monInterleaveWrite .. => ⟨3, May.byMaster ++ May.interleaveWrite, [EV.PAIR_SYNC_FAIL], [], [.journal, .mon, .sys]⟩
  | .monQRead .. => ⟨3, [MON_Q_STAT.LEVEL, SYS_ACC_STAT.SHADOW_GEN], [], [], [.mon, .sys]⟩
  | .monTimerTrigger .. => ⟨3, May.trigger, [EV.MON_TRIG_OVR], [], [.mon]⟩
  | .dsyncPulse .. => ⟨3, May.trigger, [EV.MON_TRIG_OVR], [], [.ltx, .mon]⟩
  | .monDelayEnd .. => ⟨3, [], [], [], [.mon]⟩
  | .monWord .. => ⟨3, [MON_CTRL.INTERLEAVE, MON_Q_STAT.LEVEL, MON_Q_STAT.LOST, MON_STATUS.BURST0, MON_STATUS.BURST1, MON_TRIG.SRC], [EV.MON_CLIP, EV.MON_ILV_OFF, EV.MON_Q_LOST], [], [.mon]⟩
  | .obsSnapshot .. => ⟨4, May.journal ++ [OBS_SNAP.GEN], [EV.PAIR_SYNC_FAIL], [], [.bank, .journal, .slots, .told]⟩
  | .obsCntRead .. => ⟨4, May.journal, [EV.PAIR_SYNC_FAIL], [], [.bank, .journal, .slots, .told]⟩
  | .obsCntPreset .. => ⟨4, May.journal, [EV.PAIR_SYNC_FAIL], [(0, 128), (0, 2048), (1024, 576)], [.journal, .slots, .told]⟩
  | .obsEvtRoute .. => ⟨4, May.journal ++ [OBS_EVT_ROUTE.Q, OBS_EVT_ROUTE.REC, OBS_EVT_ROUTE.TRIG, OBS_EVT_ROUTE.TRIG_EN], [EV.PAIR_SYNC_FAIL], [], [.journal, .slots, .told]⟩
  | .obsDumpCfg .. => ⟨4, May.journal ++ [OBS_ACL.ALL, OBS_DUMP_CFG.DEST, OBS_DUMP_CFG.EN, OBS_DUMP_CFG.RANGES, OBS_DUMP_PERIOD.PERIOD], [EV.PAIR_SYNC_FAIL], [], [.journal, .slots, .told]⟩
  | .obsBwCfg .. => ⟨4, May.journal ++ [OBS_BW_CFG.EN, OBS_BW_CFG.PORT, OBS_BW_CFG.WIN], [EV.PAIR_SYNC_FAIL], [], [.journal, .obs, .slots, .told]⟩
  | .capCfg .. => ⟨4, May.journal ++ [OBS_CAP_CFG.DRAIN_AUTO, OBS_CAP_CFG.RAW_EN, OBS_CAP_CFG.RAW_SRC, OBS_CAP_CFG.REARM, OBS_CAP_CFG.SC_MASK, OBS_CAP_CFG.SOFT_EN, OBS_CAP_CFG.SOFT_GB, OBS_CAP_POST.RAW_POST, OBS_CAP_POST.SOFT_POST, OBS_CAP_STAT.RAW_STATE, OBS_CAP_STAT.SOFT_STATE, OBS_TRIG_CFG.DUMP, OBS_TRIG_CFG.EDGE, OBS_TRIG_CFG.GPIO, OBS_TRIG_CFG.GPIO_EN, OBS_TRIG_CFG.MARK, OBS_TRIG_CFG.RAW, OBS_TRIG_CFG.SOFT], [EV.PAIR_SYNC_FAIL], [], [.journal, .obs, .slots, .told]⟩
  | .capTrigger .. => ⟨4, May.journal ++ [CMD_DUMP_PROD.ALL, OBS_CAP_STAT.RAW_INPUT, OBS_CAP_STAT.RAW_STATE, OBS_CAP_STAT.SOFT_INPUT, OBS_CAP_STAT.SOFT_STATE, OBS_INT_STAT.ALL], [EV.CAP_BUSY, EV.CAP_TRIGGERED, EV.DUMP_DONE, EV.PAIR_SYNC_FAIL], [(65, 1), (68, 1)], [.bank, .draws, .journal, .obs, .slots, .told]⟩
  | .capRead .. => ⟨4, May.journal, [EV.PAIR_SYNC_FAIL], [], [.journal, .obs, .slots, .told]⟩
  | .capReadDone .. => ⟨4, [], [], [], [.obs, .slots, .told]⟩
  | .capRearm .. => ⟨4, May.journal ++ [OBS_CAP_STAT.RAW_STATE, OBS_CAP_STAT.SOFT_STATE], [EV.PAIR_SYNC_FAIL], [], [.journal, .obs, .slots, .told]⟩
  | .recCfg .. => ⟨4, May.journal ++ [OBS_REC_CFG.DRIVES, OBS_REC_CFG.EN, OBS_REC_CFG.LOG_PCT, OBS_REC_STAT.DRIVES_OK], [EV.PAIR_SYNC_FAIL], [], [.journal, .obs, .slots, .told]⟩
  | .recRead .. => ⟨4, May.journal, [EV.PAIR_SYNC_FAIL], [], [.journal, .obs, .slots, .told]⟩
  | .recReadDone .. => ⟨4, [], [], [], [.obs, .slots, .told]⟩
  | .recHold .. => ⟨4, May.journal ++ [OBS_REC_STAT.HELD], [EV.PAIR_SYNC_FAIL], [], [.journal, .obs, .slots, .told]⟩
  | .recStatus .. => ⟨4, May.journal, [EV.PAIR_SYNC_FAIL], [], [.journal, .slots, .told]⟩
  | .obsCntClr .. => ⟨4, May.byMaster ++ [OBS_CTRL.CNT_CLR], [EV.PAIR_SYNC_FAIL], [(0, 128), (1024, 576)], [.journal, .sys]⟩
  | .bwClear .. => ⟨4, May.byMaster ++ [OBS_BW_MAX.ALL, OBS_BW_MIN.ALL, OBS_CTRL.BW_CLR], [EV.PAIR_SYNC_FAIL], [], [.journal, .sys]⟩
  | .obsSnapTake .. => ⟨4, May.byMaster ++ [OBS_SNAP.GEN, OBS_SNAP.TAKE], [EV.PAIR_SYNC_FAIL], [], [.bank, .journal, .sys]⟩
  | .obsPreset .. => ⟨4, May.byMaster ++ [OBS_PRESET_CTRL.GO, OBS_PRESET_CTRL.INDEX], [EV.PAIR_SYNC_FAIL], [(0, 2048)], [.journal, .sys]⟩
  | .wrapClear .. => ⟨4, May.byMaster ++ [OBS_WRAP_CLR.ALL], [EV.PAIR_SYNC_FAIL], [], [.journal, .sys]⟩
  | .dumpPeriod .. => ⟨4, [CMD_DUMP_PROD.ALL, OBS_INT_STAT.ALL], [EV.DUMP_DONE], [(65, 1)], [.bank, .obs]⟩
  | .bwWindowEnd .. => ⟨4, [OBS_BW_BYTES.ALL, OBS_BW_MAX.ALL, OBS_BW_MIN.ALL, OBS_BW_STAT.FREE_RUN, OBS_BW_STAT.GEN], [], [], [.obs]⟩
  | .triggerInputFire .. => ⟨4, [CMD_DUMP_PROD.ALL, OBS_CAP_STAT.RAW_INPUT, OBS_CAP_STAT.RAW_STATE, OBS_CAP_STAT.SOFT_INPUT, OBS_CAP_STAT.SOFT_STATE, OBS_INT_STAT.ALL], [EV.CAP_BUSY, EV.CAP_TRIGGERED, EV.DUMP_DONE], [(65, 1), (68, 1)], [.bank, .draws, .obs]⟩
  | .capFrozen .. => ⟨4, [OBS_CAP_CFG.DRAIN_AUTO, OBS_CAP_CFG.RAW_SRC, OBS_CAP_CFG.SC_MASK, OBS_CAP_STAT.RAW_INPUT, OBS_CAP_STAT.RAW_SHORT, OBS_CAP_STAT.RAW_STATE, OBS_CAP_STAT.SOFT_INPUT, OBS_CAP_STAT.SOFT_SHORT, OBS_CAP_STAT.SOFT_STATE, OBS_REC_CFG.EN, OBS_REC_STAT.DRAINING, OBS_REC_STAT.HELD], [EV.CAP_FROZEN, EV.REC_FULL], [], [.obs]⟩
  | .drainDone .. => ⟨4, [OBS_CAP_CFG.REARM, OBS_CAP_STAT.RAW_STATE, OBS_CAP_STAT.SOFT_STATE, OBS_REC_STAT.DRAINING], [EV.DRAIN_DONE], [], [.obs]⟩
  | .segmentWriteDone .. => ⟨4, [OBS_REC_STAT.BACKLOG], [EV.REC_LOST], [(417, 1)], [.obs, .vnr]⟩
  | .driveFail .. => ⟨4, [OBS_REC_STAT.DRIVES_OK], [EV.DRIVE_FAIL], [(66, 2)], [.obs]⟩
  | .driveReady .. => ⟨4, [OBS_REC_STAT.DRIVES_OK], [EV.DRIVE_READY], [], [.obs]⟩
  | .eqCoalesceEnd .. => ⟨4, [], [], [], [.sys]⟩
  | .cmdDoorbell .. => ⟨5, May.byMaster ++ [CMD_DB.PROD], [EV.PAIR_SYNC_FAIL], [(39, 1)], [.cmd, .journal, .sys]⟩
  | .commandFetch .. => ⟨5, May.journal ++ [CMD_CRC_DROP.ALL, CMD_RING_STAT.CONS], [EV.PAIR_SYNC_FAIL], [], [.cmd, .journal, .slots, .told]⟩
  | .replyWrite .. => ⟨5, [CMD_RING_STAT.RPROD], [], [], [.cmd, .slots]⟩
  | .replyAck .. => ⟨5, May.byMaster ++ [CMD_RACK.ALL, SYS_ACC_STAT.LOCK, SYS_LOCK.LOCK], [EV.PAIR_SYNC_FAIL], [], [.journal, .sys]⟩
  | .dumpConsWrite .. => ⟨5, May.byMaster ++ [CMD_DUMP_CONS.ALL, SYS_ACC_STAT.LOCK, SYS_LOCK.LOCK], [EV.PAIR_SYNC_FAIL], [], [.journal, .sys]⟩
  | .cmdTimeout .. => ⟨5, May.goDark ++ May.restartNow ++ May.eraseAll ++ [CLI_CH_STAT.ING_FAIL, CMD_STATUS.SESSIONS, CNV_FUSE_STAT.REFINED, CNV_FUSE_STAT.SOURCE, CNV_STATUS.FG_BUSY, CNV_STATUS.UNCAL, CNV_STATUS.UNTRACEABLE, ENG_CORE.IMAGE, ENG_CORE.STATE, ENG_CORE.TASK, ENG_FW_STAT.PHASE, LRX_CTRL.RX_EN, LTX_STATUS.BIAS_LOCKED, MON_STATUS.SYSCAL, OBS_CAP_CFG.RAW_EN, OBS_CAP_CFG.SOFT_EN, OBS_CAP_STAT.RAW_STATE, OBS_CAP_STAT.SOFT_STATE, PAIR_ENG.RUNS_FOR, PAIR_ENG.STATE, PWR_STATUS.BUSY, PWR_STATUS.STATE, PWR_STATUS.TARGET, SRD_LANE_STAT.SCAN, SRD_LANE_STAT.SIG, SRD_LANE_STAT.STATE, SRD_LANE_STAT.SYNC, TOD_STATUS.VALID], [EV.CLIENT_DOWN, EV.CMD_TIMEOUT, EV.DEFECT_CLEAR, EV.DEFECT_RAISE, EV.KEY_SWITCHED, EV.LA_DONE, EV.PLAN_APPLIED, EV.PWR_STATE, EV.TRIB_MOVE_APPLIED, EV.TX_DARK, EV.VNR_DEGRADED], [(417, 1)], [.adapt, .cli, .cmd, .cnv, .draws, .eng, .frm, .lrx, .ltx, .mon, .obs, .pair, .pwr, .ref, .scr, .sec, .slots, .srd, .told, .vnr]⟩
  | .identify .. => ⟨5, May.journal, [EV.PAIR_SYNC_FAIL], [], [.journal, .slots, .told]⟩
  | .status .. => ⟨5, May.journal, [EV.PAIR_SYNC_FAIL], [], [.journal, .slots, .told]⟩
  | .sysStateSet .. => ⟨5, May.setDev ++ May.journal, [EV.CLIENT_DOWN, EV.PAIR_SYNC_FAIL, EV.STATE_CHANGE], [], [.cli, .fec, .journal, .slots, .told]⟩
  | .sysSessionOpen .. => ⟨5, May.journal ++ [CMD_STATUS.SESSIONS], [EV.PAIR_SYNC_FAIL], [], [.cmd, .journal, .slots, .told]⟩
  | .sysSessionClose .. => ⟨5, May.journal ++ [CMD_STATUS.SESSIONS], [EV.PAIR_SYNC_FAIL], [], [.cmd, .journal, .sec, .slots, .told]⟩
  | .sysSlotRelease .. => ⟨5, May.journal, [EV.PAIR_SYNC_FAIL], [], [.cmd, .journal, .slots, .told]⟩
  | .sysRegAccess .. => ⟨7, [], [], [], []⟩
  | .battenStatus .. => ⟨5, May.journal, [EV.PAIR_SYNC_FAIL], [], [.journal, .slots, .told]⟩
  | .engStatus .. => ⟨5, May.journal, [EV.PAIR_SYNC_FAIL], [], [.journal, .slots, .told]⟩
  | .engCfg .. => ⟨5, May.journal ++ [ENG_FW_CFG.PROBATION, ENG_WDOG.PERIOD], [EV.PAIR_SYNC_FAIL], [], [.journal, .slots, .told]⟩
  | .fwStage .. => ⟨5, May.journal, [EV.PAIR_SYNC_FAIL], [], [.eng, .journal, .slots, .told]⟩
  | .fwStageDone .. => ⟨5, [ENG_FW_STAT.PHASE], [], [], [.eng, .sec, .slots, .told]⟩
  | .fwActivate .. => ⟨5, May.journal ++ [ENG_FW_STAT.CLUSTER, ENG_FW_STAT.ENGINE, ENG_FW_STAT.PHASE], [EV.FW_DONE, EV.PAIR_SYNC_FAIL], [], [.eng, .journal, .slots, .told]⟩
  | .fwProbationEnd .. => ⟨5, [ENG_CORE.IMAGE, ENG_CORE.STATE, ENG_FW_STAT.CLUSTER, ENG_FW_STAT.ENGINE, ENG_FW_STAT.PHASE, PAIR_ENG.STATE], [EV.FW_DONE, EV.FW_ENGINE_DONE], [], [.eng, .slots, .told]⟩
  | .fwCommit .. => ⟨5, May.journal ++ [ENG_FW_STAT.BANK], [EV.PAIR_SYNC_FAIL, EV.SVN_RAISED], [], [.fuse, .journal, .sec, .slots, .told]⟩
  | .sbxLoad .. => ⟨5, May.journal, [EV.PAIR_SYNC_FAIL], [], [.eng, .journal, .slots, .told]⟩
  | .sbxLoadDone .. => ⟨5, [ENG_CORE.STATE], [], [], [.eng, .sec, .slots, .told]⟩
  | .sbxCtrl .. => ⟨5, May.journal ++ [ENG_CORE.STATE, ENG_CORE.TASK, ENG_SBX_CFG.CAP, ENG_SBX_CFG.EN, ENG_SBX_CFG.HBM_GB, ENG_SBX_CFG.MASK_HI, ENG_SBX_CFG.MASK_LO, ENG_SBX_GPIO.GPIO, ENG_SBX_GPIO.PWM], [EV.PAIR_SYNC_FAIL], [], [.journal, .slots, .told]⟩
  | .sbxMsg .. => ⟨5, May.journal, [EV.PAIR_SYNC_FAIL, EV.SBX_MSG], [(40, 1)], [.eng, .journal, .slots, .told]⟩
  | .battenRestart .. => ⟨5, May.byMaster ++ [CMD_BAT_CFG.RESTART, CMD_BAT_STAT.ENUM], [EV.PAIR_SYNC_FAIL], [], [.cmd, .journal, .sys]⟩
  | .battenTokenRx .. => ⟨5, [CMD_BAT_STAT.ADDR, CMD_BAT_STAT.COUNT, CMD_BAT_STAT.ENUM], [EV.BATTEN_ENUM, EV.BATTEN_FAULT], [], [.cmd]⟩
  | .battenPacketRx .. => ⟨5, May.journal ++ [CMD_CRC_DROP.ALL, CMD_DUMP_PROD.ALL], [EV.PAIR_SYNC_FAIL], [(65, 1)], [.cmd, .journal, .obs, .slots, .told]⟩
  | .enumTimeout .. => ⟨5, [CMD_BAT_STAT.COUNT, CMD_BAT_STAT.ENUM], [EV.BATTEN_FAULT], [], [.cmd]⟩
  | .enumRetry .. => ⟨5, [CMD_BAT_STAT.ENUM], [], [], [.cmd]⟩
  | .pcieHostReset .. => ⟨5, [CMD_BAT_STAT.ADDR, CMD_BAT_STAT.COUNT, CMD_BAT_STAT.ENUM, CMD_BAT_STAT.HEAD, CMD_DUMP_CFG.EN, CMD_RACK.ALL, CMD_RING_CFG.EN, CMD_RING_STAT.CONS, CMD_RING_STAT.RPROD, CMD_STATUS.SESSIONS, MSIX_CTRL.MASK, SYS_EQ_CONS.ALL, SYS_EQ_PROD.ALL, SYS_EQ_STAT.LEVEL, SYS_EQ_STAT.LOST], [], [], [.cmd, .sec, .slots, .sys]⟩
  | .secStatus .. => ⟨5, May.journal, [EV.PAIR_SYNC_FAIL], [], [.journal, .slots, .told]⟩
  | .secCerts .. => ⟨5, May.journal, [EV.PAIR_SYNC_FAIL], [], [.journal, .slots, .told]⟩
  | .attest .. => ⟨5, May.journal, [EV.PAIR_SYNC_FAIL], [], [.draws, .journal, .slots, .told]⟩
  | .secSessionKey .. => ⟨5, May.journal, [EV.PAIR_SYNC_FAIL, EV.SESSION_KEYED], [], [.draws, .journal, .sec, .slots, .told]⟩
  | .secNonce .. => ⟨5, May.journal, [EV.PAIR_SYNC_FAIL], [], [.draws, .journal, .sec, .slots, .told]⟩
  | .secLifecycle .. => ⟨5, May.journal, [EV.LIFECYCLE_SET, EV.PAIR_SYNC_FAIL], [], [.fuse, .journal, .sec, .slots, .told]⟩
  | .secCustkey .. => ⟨5, May.journal, [EV.PAIR_SYNC_FAIL], [], [.fuse, .journal, .slots, .told]⟩
  | .secReset .. => ⟨5, May.journal, [EV.PAIR_SYNC_FAIL], [], [.journal, .sec, .slots, .told]⟩
  | .pwrStateSet .. => ⟨5, May.journal ++ [PWR_STATUS.BUSY, PWR_STATUS.TARGET], [EV.PAIR_SYNC_FAIL], [], [.journal, .pwr, .slots, .told]⟩
  | .pwrTransitionDone .. => ⟨5, May.goDark ++ May.restartNow ++ May.eraseAll ++ [CLI_CH_STAT.ING_FAIL, CMD_STATUS.SESSIONS, CNV_FUSE_STAT.REFINED, CNV_FUSE_STAT.SOURCE, CNV_STATUS.UNCAL, CNV_STATUS.UNTRACEABLE, LRX_CTRL.RX_EN, LTX_STATUS.BIAS_LOCKED, OBS_CAP_CFG.RAW_EN, OBS_CAP_CFG.SOFT_EN, OBS_CAP_STAT.RAW_STATE, OBS_CAP_STAT.SOFT_STATE, PWR_STATUS.BUSY, PWR_STATUS.STATE, SRD_LANE_STAT.SIG, SRD_LANE_STAT.STATE, SRD_LANE_STAT.SYNC, TOD_STATUS.VALID], [EV.CLIENT_DOWN, EV.DEFECT_CLEAR, EV.DEFECT_RAISE, EV.KEY_SWITCHED, EV.LA_DONE, EV.PLAN_APPLIED, EV.PWR_STATE, EV.TRIB_MOVE_APPLIED, EV.TX_DARK, EV.VNR_DEGRADED], [(417, 1)], [.adapt, .cli, .cmd, .cnv, .draws, .frm, .lrx, .ltx, .pwr, .scr, .sec, .slots, .told, .vnr]⟩
  | .pwrStatus .. => ⟨5, May.journal, [EV.PAIR_SYNC_FAIL], [], [.journal, .slots, .told]⟩
  | .pwrCfg .. => ⟨5, May.journal ++ [PWR_PWM.DUTY, PWR_PWM.FREQ, PWR_THERM_CFG.CRIT, PWR_THERM_CFG.HYST, PWR_THERM_CFG.WARN], [EV.PAIR_SYNC_FAIL], [], [.journal, .slots, .told]⟩
  | .lifecycleReset .. => ⟨7, [], [], [], []⟩
  | .deviceReset .. => ⟨7, [], [], [], []⟩
  | .powerOnReset .. => ⟨7, [], [], [], []⟩
  | .debugReset .. => ⟨7, [], [], [], []⟩
  | .wake .. => ⟨7, [], [], [], []⟩
  | .porstRelease .. => ⟨5, [], [], [], [.sec]⟩
  | .fuseReadDone .. => ⟨5, [CNV_FUSE_STAT.BAD, CNV_FUSE_STAT.LATEST, CNV_FUSE_STAT.NEXT, CNV_FUSE_STAT.SOURCE, CNV_STATUS.UNCAL, CNV_STATUS.UNTRACEABLE], [EV.FUSE_ROW_BAD], [], [.cnv, .sec]⟩
  | .keeperBoot .. => ⟨5, [CMD_STATUS.RING_OK, ENG_FW_STAT.BANK, SEC_STATUS.BANK, SEC_STATUS.FALLBACK], [EV.BOOT_FALLBACK], [], [.sec]⟩
  | .engineImageLoaded .. => ⟨5, [CMD_STATUS.RING_OK, ENG_CORE.IMAGE, SEC_STATUS.BANK, SEC_STATUS.FALLBACK], [EV.BOOT_FALLBACK, EV.SVN_RAISED], [], [.eng, .fuse, .sec]⟩
  | .bootReady .. => ⟨5, May.setDev ++ [ENG_CORE.TASK, REF_CAND_STAT.QL_EFF, REF_CAND_STAT.QL_RX, REF_CAND_STAT.QUAL_LEFT, REF_CAND_STAT.STATE, SEC_STATUS.DRBG_OK, VNR_PAGE_STAT.GEN0, VNR_PAGE_STAT.GEN1, VNR_PAGE_STAT.V0, VNR_PAGE_STAT.V1, VNR_STATUS.RNG_OK], [EV.CLIENT_DOWN, EV.QL_CHANGE, EV.STATE_CHANGE], [], [.cli, .draws, .fec, .ltx, .sec, .vnr]⟩
  | .svnRetry .. => ⟨5, [], [EV.SVN_RAISED], [], [.fuse, .sec]⟩
  | .keeperAlarm .. => ⟨5, May.enterFault ++ May.eraseAll ++ [SEC_STATUS.KEEPER_ALARM, VNR_STATUS.ERASED], [EV.CLIENT_DOWN, EV.KEEPER_ALARM, EV.KEY_ERASED, EV.LA_DONE, EV.MON_TRIG_OVR, EV.PAIR_ROLE, EV.PAIR_UNPROTECTED, EV.PTP_PARENT_CHANGE, EV.PTP_PORT_STATE, EV.SERVO_STATE, EV.STATE_CHANGE], [(417, 1)], [.cli, .draws, .fec, .frm, .mon, .pair, .slots, .tod, .told, .vnr]⟩
  | .thermalEval .. => ⟨5, [PWR_STATUS.TJ, PWR_STATUS.TRIP, PWR_STATUS.WARN, PWR_THERM_CFG.CRIT, PWR_THERM_CFG.HYST, PWR_THERM_CFG.WARN], [EV.THERM_CLEAR, EV.THERM_CRIT, EV.THERM_WARN], [], [.cnv, .pwr]⟩
  | .setAliasWrite .. => ⟨7, [], [], [], []⟩
  | .clearAliasWrite .. => ⟨7, [], [], [], []⟩
  | .lowWordRead .. => ⟨6, [ENG_SBX_DENY.READS, MON_Q_STAT.LEVEL, SYS_ACC_STAT.ERRORS, SYS_ACC_STAT.FABRIC, SYS_ACC_STAT.LOCK, SYS_ACC_STAT.PARTIAL, SYS_ACC_STAT.RANGE, SYS_ACC_STAT.SHADOW_GEN, SYS_ACC_STAT.SHADOW_MISS, SYS_ACC_STAT.UNMAPPED], [], [], [.mon, .sys]⟩
  | .highWordRead .. => ⟨6, [ENG_SBX_DENY.READS, MON_Q_STAT.LEVEL, SYS_ACC_STAT.ERRORS, SYS_ACC_STAT.FABRIC, SYS_ACC_STAT.LOCK, SYS_ACC_STAT.PARTIAL, SYS_ACC_STAT.RANGE, SYS_ACC_STAT.SHADOW_GEN, SYS_ACC_STAT.SHADOW_MISS, SYS_ACC_STAT.UNMAPPED], [], [], [.mon, .sys]⟩
  | .lowWordWrite .. => ⟨7, [], [], [], []⟩
  | .highWordWrite .. => ⟨7, [], [], [], []⟩
  | .accSelfRead .. => ⟨6, [ENG_SBX_DENY.READS, MON_Q_STAT.LEVEL, SYS_ACC_STAT.ERRORS, SYS_ACC_STAT.FABRIC, SYS_ACC_STAT.LOCK, SYS_ACC_STAT.PARTIAL, SYS_ACC_STAT.RANGE, SYS_ACC_STAT.SHADOW_GEN, SYS_ACC_STAT.SHADOW_MISS, SYS_ACC_STAT.UNMAPPED], [], [], [.mon, .sys]⟩
  | .intStatClear .. => ⟨7, [], [], [], []⟩
  | .sysLockSet .. => ⟨7, [], [], [], []⟩
  | .eqConsWrite .. => ⟨7, [], [], [], []⟩
  | .gpioEdge .. => ⟨6, [SYS_GPIO_IN.ALL, SYS_INT_STAT.ALL], [], [], [.obs]⟩
  | .msixUnmask .. => ⟨6, [MSIX_CTRL.MASK, MSIX_PBA.ALL], [], [], [.sys]⟩
  | .oscInActive .. => ⟨6, May.refEval ++ [REF_STATUS.MON_SRC, REF_STATUS.OSC_PRESENT], [EV.CLAMP_ENTER, EV.CLAMP_EXIT, EV.QL_CHANGE, EV.REF_SWITCH], [], [.frm, .ref]⟩
  | .lineQlMessageTx .. => ⟨6, [], [], [], [.frm]⟩
  | .pcieLinkUp .. => ⟨5, [CMD_BAT_STAT.ADDR, CMD_BAT_STAT.COUNT, CMD_BAT_STAT.ENUM, CMD_BAT_STAT.HEAD], [], [], [.cmd]⟩
  | .clientFrameIngress .. => ⟨2, [FRM_OHC_STAT.SLIP_DROP, FRM_OHC_STAT.SLIP_REP], [EV.CBR_SLIP, EV.OHC_SLIP], [(288, 128)], [.cli, .frm]⟩
  | .clientFrameEgress .. => ⟨2, [FRM_OHC_STAT.SLIP_DROP, FRM_OHC_STAT.SLIP_REP], [EV.CBR_SLIP, EV.OHC_SLIP], [(288, 128)], [.cli, .frm]⟩

end Sys2Proof.Machine
end

