-- ==== Sys2Proof/Safety.lean ====
section
/-!
DEFINITION. What a safe run is, in the terms the claims use: a command completes, a Felwin command is accepted, a reply stands in its slot; and the
form that the state keeps.
-/
namespace Sys2Proof.Machine
open Sys2Proof

/-- A command completes from `s`, in a state of which `P` holds. -/
def Completes (c : Instr) (s : State) (P : State → Prop) : Prop := ∃ t, exec c s = .next t ∧ P t

/-- The checks of Table 17.3 that come before a command's own let it through, and no mate has to confirm it: the device is not SCRAPPED, in PS4 or
in BOOT, the session is open, the length and the device state are the command's, its block is powered, the unit may change what the command changes,
NO_HOLD is not set, and the Keeper serves it. -/
structure Accepted (op : OpDef) (h : CmdHdr) (p : List Word) (s : State) : Prop where
  life : s.lifecycle ≠ 4
  power : s.rd PWR_STATUS.STATE ≠ 4
  boot : s.dev ≠ 0 ∨ bootOps.contains op.code
  session : s.sessionOpen h.session.toNat = true
  length : op.lenOk p.length = true
  legal : op.legal.contains s.dev = true
  reset : op.code ≠ 0x0207 ∨ s.dev ≠ 3
  powered : s.powered (classBlock op.code) = true
  role : s.paired = false ∨ configOps.contains op.code = false ∨ (s.role = 1 ∧ s.on PAIR_STATUS.LINK = false)
  hold : h.flags = 0
  keeper : s.on SEC_STATUS.KEEPER_ALARM = false

/-- The final reply that the slot of the command with header `h` holds (R625). -/
def State.slotReply (s : State) (h : CmdHdr) : Option Reply := (Tab.get none s.cmd.slots (slotKey h.ring.val h.seq.toNat)).bind (·.reply)

/-- The slot of the command with header `h` holds a reply of status `st`. -/
def State.replied (s : State) (h : CmdHdr) (st : Status) : Prop := (s.slotReply h).map (·.status) = some st.code

/-- The slot of the command with header `h` holds it as running: PENDING was sent, or its reply is still to come. -/
def State.running (s : State) (h : CmdHdr) (op : OpDef) (p : List Word) : Prop :=
  Tab.get none s.cmd.slots (slotKey h.ring.val h.seq.toNat) = some ⟨runOf h op.code (p.map (·.toNat)), none⟩

/-- The payload of the reply that the slot of the command with header `h` holds; empty where it holds none. -/
def State.payload (s : State) (h : CmdHdr) : List Nat := ((s.slotReply h).map (·.payload)).getD []

/-- A unit whose replies carry no PROMOTED_STALE mask (R535). -/
def State.plain (s : State) : Prop := s.pair.told = true ∨ s.pair.mask = 0

/-- Accepted with parameters and in states of which `C` holds, the command completes with OK, and `P` relates its parameters, the state before and
the state after. -/
def Does (c : CmdHdr → List Word → Instr) (op : OpDef) (C : List Nat → State → Prop) (P : CmdHdr → List Nat → State → State → Prop) : Prop :=
  ∀ h p s, Accepted op h p s → C (p.map (·.toNat)) s → Completes (c h p) s (fun t => t.replied h .ok ∧ P h (p.map (·.toNat)) s t)

/-- The same for a command whose final reply comes later: its slot holds it as running (R623, R624). -/
def Starts (c : CmdHdr → List Word → Instr) (op : OpDef) (C : List Nat → State → Prop) (P : CmdHdr → List Nat → State → State → Prop) : Prop :=
  ∀ h p s, Accepted op h p s → C (p.map (·.toNat)) s → Completes (c h p) s (fun t => t.running h op p ∧ P h (p.map (·.toNat)) s t)

/-- The command completes and answers, and its reply's payload is what `f` makes of the state before, as 32-bit words: a command that only reads. -/
def Answers (c : CmdHdr → List Word → Instr) (op : OpDef) (C : List Nat → State → Prop) (f : List Nat → State → List Nat) : Prop :=
  Does c op (fun p s => s.plain ∧ C p s) (fun h p s t => t.payload h = (f p s).map (· % 2 ^ 32))

/-- A write by master `m` reaches the registers of block `b`: it is no engine of cluster 7, and the block is released from reset and powered. -/
def State.takes (s : State) (m : Mast) (b : Nat) : Prop := m.val < 60 ∧ s.writable b = true

/-- What has been sent between `s` and `t`, newest first. -/
def State.sentSince (s t : State) : List Output := t.out.take (t.out.length - s.out.length)

/-- An adaptation message of which `P` holds has been sent between `s` and `t`. -/
def State.sentAdapt (s t : State) (P : List Nat → Bool) : Bool := (s.sentSince t).any (fun o => match o with | .adapt w => P w | _ => false)

/-- A message of sequence number `q` from channel `src` is one the Scribe takes up: it is not IDLE, the sender is not banned, no other peer is
being heard, and the message is no repeat. -/
def State.hears (s : State) (src q : Nat) : Prop :=
  s.scrState ≠ 0 ∧ s.banned src = false ∧ (s.scrPeer = 0 ∨ s.scrPeer = src) ∧ Tab.get [] s.scr.replies q = []

/-- A Felwin command with its opcode, lengths, legal states and body, its header and its parameters; none for the other rows. -/
def felwinOf : Instr → Option (OpDef × CmdHdr × List Word)
  | .ltxModeSet h p => some (opLtxModeSet, h, p) | .ltxPlanLoad h p => some (opLtxPlanLoad, h, p) | .ltxPlanCommit h p => some (opLtxPlanCommit, h, p)
  | .ltxPlanCancel h p => some (opLtxPlanCancel, h, p) | .ltxPlanGet h p => some (opLtxPlanGet, h, p) | .ltxBiasCtrl h p => some (opLtxBiasCtrl, h, p)
  | .ltxLaserSet h p => some (opLtxLaserSet, h, p) | .ltxLaserStatus h p => some (opLtxLaserStatus, h, p) | .ltxOutput h p => some (opLtxOutput, h, p)
  | .lrxModeSet h p => some (opLrxModeSet, h, p) | .lrxEnable h p => some (opLrxEnable, h, p) | .lrxAcqCfg h p => some (opLrxAcqCfg, h, p)
  | .lrxEqCfg h p => some (opLrxEqCfg, h, p) | .lrxFreeze h p => some (opLrxFreeze, h, p) | .lrxRestart h p => some (opLrxRestart, h, p)
  | .lrxStatus h p => some (opLrxStatus, h, p) | .lrxTapsGet h p => some (opLrxTapsGet, h, p) | .lrxQuality h p => some (opLrxQuality, h, p)
  | .lrxCrSet h p => some (opLrxCrSet, h, p) | .lrxAdaptSet h p => some (opLrxAdaptSet, h, p) | .lrxRplanLoad h p => some (opLrxRplanLoad, h, p)
  | .lrxRplanGet h p => some (opLrxRplanGet, h, p) | .lrxAdaptNow h p => some (opLrxAdaptNow, h, p) | .calStatus h p => some (opCalStatus, h, p)
  | .calBgSet h p => some (opCalBgSet, h, p) | .calRefSet h p => some (opCalRefSet, h, p) | .calRun h p vdev fdev => some (opCalRun vdev.toInt fdev.toInt, h, p)
  | .calAbort h p => some (opCalAbort, h, p) | .calCommit h p vdd => some (opCalCommit vdd, h, p) | .calExport h p => some (opCalExport, h, p)
  | .calLoad h p => some (opCalLoad, h, p) | .calQuality h p => some (opCalQuality, h, p) | .calSlice h p trim => some (opCalSlice trim.toInt, h, p)
  | .fecCfg h p => some (opFecCfg, h, p) | .fecStatus h p => some (opFecStatus, h, p) | .fecCounters h p => some (opFecCounters, h, p)
  | .fecInject h p => some (opFecInject, h, p) | .fecGeometry h p => some (opFecGeometry, h, p) | .frmCfg h p => some (opFrmCfg, h, p)
  | .frmStatus h p => some (opFrmStatus, h, p) | .frmPmGet h p => some (opFrmPmGet, h, p) | .frmTtiSet h p => some (opFrmTtiSet, h, p)
  | .frmTtiGet h p => some (opFrmTtiGet, h, p) | .frmOhcCfg h p => some (opFrmOhcCfg, h, p) | .frmOhcXfer h p => some (opFrmOhcXfer, h, p)
  | .cliAdd h p => some (opCliAdd, h, p) | .cliRemove h p => some (opCliRemove, h, p) | .cliMove h p => some (opCliMove, h, p)
  | .cliMoveCancel h p => some (opCliMoveCancel, h, p) | .cliStatus h p => some (opCliStatus, h, p) | .cliCounters h p => some (opCliCounters, h, p)
  | .cliTsCfg h p => some (opCliTsCfg, h, p) | .cliLoop h p => some (opCliLoop, h, p) | .cliSlotMap h p => some (opCliSlotMap, h, p)
  | .srdLaneSet h p => some (opSrdLaneSet, h, p) | .srdStatus h p => some (opSrdStatus, h, p) | .srdEyeScan h p => some (opSrdEyeScan, h, p)
  | .srdJigSet h p => some (opSrdJigSet, h, p) | .srdJigGet h p => some (opSrdJigGet, h, p) | .vnrCfg h p => some (opVnrCfg, h, p)
  | .vnrStatus h p => some (opVnrStatus, h, p) | .vnrPageSet h p => some (opVnrPageSet, h, p) | .vnrKeyLoad h p => some (opVnrKeyLoad, h, p)
  | .vnrKeySwitch h p => some (opVnrKeySwitch, h, p) | .vnrKeyErase h p => some (opVnrKeyErase, h, p) | .vnrBind h p => some (opVnrBind, h, p)
  | .vnrLa h p => some (opVnrLa, h, p) | .vnrCounters h p => some (opVnrCounters, h, p) | .vnrRearm h p => some (opVnrRearm, h, p)
  | .scrCfgSet h p => some (opScrCfgSet, h, p) | .scrTrust h p => some (opScrTrust, h, p) | .scrStatus h p => some (opScrStatus, h, p)
  | .scrPeers h p => some (opScrPeers, h, p) | .scrRestart h p => some (opScrRestart, h, p) | .refCfg h p => some (opRefCfg, h, p)
  | .refCandSet h p => some (opRefCandSet, h, p) | .refSelect h p => some (opRefSelect, h, p) | .refStatus h p => some (opRefStatus, h, p)
  | .refOutSet h p => some (opRefOutSet, h, p) | .refRealign h p => some (opRefRealign, h, p) | .todGet h p => some (opTodGet, h, p)
  | .todStep h p => some (opTodStep, h, p) | .todRearm h p => some (opTodRearm, h, p) | .todRateSet h p => some (opTodRateSet, h, p)
  | .ptpCfg h p => some (opPtpCfg, h, p) | .ptpPortSet h p => some (opPtpPortSet, h, p) | .ptpStatus h p => some (opPtpStatus, h, p)
  | .lineDelay h p => some (opLineDelay, h, p) | .asymAccept h p => some (opAsymAccept, h, p) | .schedSet h p => some (opSchedSet, h, p)
  | .schedCancel h p => some (opSchedCancel, h, p) | .pairCfg h p => some (opPairCfg, h, p) | .pairStatus h p => some (opPairStatus, h, p)
  | .pairSwitch h p => some (opPairSwitch, h, p) | .pairPromote h p => some (opPairPromote, h, p) | .pairOos h p => some (opPairOos, h, p)
  | .pairReturn h p => some (opPairReturn, h, p) | .pairSnapshot h p => some (opPairSnapshot, h, p) | .pairSpares h p => some (opPairSpares, h, p)
  | .monCfg h p => some (opMonCfg, h, p) | .monStart h p => some (opMonStart, h, p) | .monRead h p => some (opMonRead, h, p)
  | .monTrigger h p => some (opMonTrigger, h, p) | .monSyscal h p => some (opMonSyscal, h, p) | .monStatus h p => some (opMonStatus, h, p)
  | .obsSnapshot h p => some (opObsSnapshot, h, p) | .obsCntRead h p => some (opObsCntRead, h, p) | .obsCntPreset h p => some (opObsCntPreset, h, p)
  | .obsEvtRoute h p => some (opObsEvtRoute, h, p) | .obsDumpCfg h p => some (opObsDumpCfg, h, p) | .obsBwCfg h p => some (opObsBwCfg, h, p)
  | .capCfg h p => some (opCapCfg, h, p) | .capTrigger h p => some (opCapTrigger, h, p) | .capRead h p => some (opCapRead, h, p)
  | .capRearm h p => some (opCapRearm, h, p) | .recCfg h p => some (opRecCfg, h, p) | .recRead h p => some (opRecRead, h, p)
  | .recHold h p => some (opRecHold, h, p) | .recStatus h p => some (opRecStatus, h, p) | .identify h p => some (opIdentify, h, p)
  | .status h p => some (opStatus, h, p) | .sysStateSet h p => some (opSysStateSet, h, p) | .sysSessionOpen h p => some (opSysSessionOpen, h, p)
  | .sysSessionClose h p => some (opSysSessionClose, h, p) | .sysSlotRelease h p => some (opSysSlotRelease, h, p)
  | .sysRegAccess h p => some (opSysRegAccess, h, p) | .battenStatus h p => some (opBattenStatus, h, p) | .engStatus h p => some (opEngStatus, h, p)
  | .engCfg h p => some (opEngCfg, h, p) | .fwStage h p => some (opFwStage, h, p) | .fwActivate h p => some (opFwActivate, h, p)
  | .fwCommit h p => some (opFwCommit, h, p) | .sbxLoad h p => some (opSbxLoad, h, p) | .sbxCtrl h p => some (opSbxCtrl, h, p)
  | .secStatus h p => some (opSecStatus, h, p) | .secCerts h p => some (opSecCerts, h, p) | .attest h p => some (opAttest, h, p)
  | .secSessionKey h p => some (opSecSessionKey, h, p) | .secNonce h p => some (opSecNonce, h, p) | .secLifecycle h p => some (opSecLifecycle, h, p)
  | .secCustkey h p => some (opSecCustkey, h, p) | .secReset h p => some (opSecReset, h, p) | .pwrStateSet h p => some (opPwrStateSet, h, p)
  | .pwrStatus h p => some (opPwrStatus, h, p) | .pwrCfg h p => some (opPwrCfg, h, p)
  | .sbxMsg h p taken posted => some (opSbxMsg taken posted, h, p)
  | _ => none

/-- The Felwin commands that only read. -/
def readsOnly : Instr → Bool
  | .ltxPlanGet _ _ | .ltxLaserStatus _ _ | .lrxStatus _ _ | .lrxTapsGet _ _ | .lrxRplanGet _ _ | .calStatus _ _ | .fecStatus _ _ | .fecGeometry _ _
  | .frmStatus _ _ | .frmPmGet _ _ | .frmTtiGet _ _ | .cliStatus _ _ | .cliSlotMap _ _ | .srdStatus _ _ | .vnrStatus _ _ | .scrStatus _ _
  | .scrPeers _ _ | .refStatus _ _ | .todGet _ _ | .ptpStatus _ _ | .lineDelay _ _ | .pairStatus _ _ | .pairSpares _ _
  | .monStatus _ _ | .recStatus _ _ | .identify _ _ | .status _ _ | .battenStatus _ _ | .engStatus _ _ | .secStatus _ _ | .secCerts _ _ | .pwrStatus _ _ => true
  | _ => false

/-- The fields that any event, record or reply may write: the status registers, the pending MSI-X bits, the event queue's counts and the recorder's
sequence number (R587, R598, R699, R702, R704). -/
def sharedFlds : List Fld := [SYS_INT_STAT.ALL, LTX_INT_STAT.ALL, LRX_INT_STAT.ALL, LRX_CR_INT_STAT.ALL, CNV_INT_STAT.ALL, FEC_INT_STAT.ALL, FRM_INT_STAT.ALL,
  CLI_INT_STAT.ALL, SRD_INT_STAT.ALL, VNR_INT_STAT.ALL, SCR_INT_STAT.ALL, REF_INT_STAT.ALL, TOD_INT_STAT.ALL, PAIR_INT_STAT.ALL, MON_INT_STAT.ALL,
  OBS_INT_STAT.ALL, ENG_INT_STAT.ALL, SEC_INT_STAT.ALL, PWR_INT_STAT.ALL, CMD_INT_STAT.ALL, MSIX_PBA.ALL, SYS_EQ_STAT.LOST, SYS_EQ_STAT.LEVEL,
  SYS_EQ_PROD.ALL, OBS_REC_RSEQ.ALL]

/-- A hidden part is the same in `s` and `t`; of `sys` all but the event queue's own state, of `obs` all but the occurrences, triggers and records
that events leave. -/
def Comp.same : Comp → State → State → Prop
  | .fuse, s, t => t.fuse = s.fuse
  | .sys, s, t => { t.sys with
      eqLost := s.sys.eqLost, eseq := s.sys.eseq, coalOpen := s.sys.coalOpen, coalDue := s.sys.coalDue } = s.sys
  | .obs, s, t => { t.obs with occ := s.obs.occ, trigDue := s.obs.trigDue, recs := s.obs.recs, lost := s.obs.lost } = s.obs
  | .cmd, s, t => { t.cmd with slots := s.cmd.slots, waiting := s.cmd.waiting } = s.cmd
  | .slots, s, t => t.cmd.slots = s.cmd.slots ∧ t.cmd.waiting = s.cmd.waiting
  | .eng, s, t => t.eng = s.eng
  | .tod, s, t => t.tod = s.tod
  | .pair, s, t => { t.pair with
      wait := s.pair.wait, kept := s.pair.kept, keptBytes := s.pair.keptBytes, cutBytes := s.pair.cutBytes, jcut := s.pair.jcut,
      untold := s.pair.untold } = s.pair
  | .journal, s, t => t.pair.wait = s.pair.wait ∧ t.pair.kept = s.pair.kept ∧ t.pair.keptBytes = s.pair.keptBytes ∧
      t.pair.cutBytes = s.pair.cutBytes ∧ t.pair.jcut = s.pair.jcut
  | .told, s, t => t.pair.untold = s.pair.untold
  | .sec, s, t => t.sec = s.sec
  | .pwr, s, t => t.pwr = s.pwr
  | .ltx, s, t => t.ltx = s.ltx
  | .lrx, s, t => t.lrx = s.lrx
  | .adapt, s, t => t.adapt = s.adapt
  | .cnv, s, t => t.cnv = s.cnv
  | .fec, s, t => t.fec = s.fec
  | .cli, s, t => t.cli = s.cli
  | .vnr, s, t => t.vnr = s.vnr
  | .srd, s, t => t.srd = s.srd
  | .frm, s, t => t.frm = s.frm
  | .scr, s, t => t.scr = s.scr
  | .ref, s, t => t.ref = s.ref
  | .mon, s, t => t.mon = s.mon
  | .bank, s, t => t.bank = s.bank ∧ t.bankWraps = s.bankWraps ∧ t.snapGen = s.snapGen
  | .tick, s, t => t.tick = s.tick
  | .draws, s, t => t.draws = s.draws

/-- What a command that may change `m` leaves: the queue; what has been sent; every field but those of `m` and the shared ones; every counter and
wrap bit but those of `m` and of its events, and that of records discarded (index 64); every hidden part but those of `m`. -/
structure Keeps (m : May) (s t : State) : Prop where
  queue : t.pending = s.pending
  sent : s.out <:+ t.out
  flds : ∀ f i, (∀ g ∈ m.flds ++ sharedFlds, ∀ j, f.key i ≠ g.key j) → t.rd f i = s.rd f i
  cnts : ∀ j, j ≠ 64 → (∀ r ∈ m.cnts, j < r.1 ∨ r.1 + r.2 ≤ j) → (∀ e ∈ m.evs, j ≠ 1024 + e.x) →
    t.cnt j = s.cnt j ∧ Tab.get 0 t.wraps j = Tab.get 0 s.wraps j
  comps : ∀ c, c ∉ m.comps → c.same s t

/-- What a command leaves that only replies: all but the recorder's sequence number among the registers, the counter of records discarded, the
reply slots and waiting replies, and the sessions told of a promotion. -/
structure OnlyReplies (s t : State) : Prop where
  queue : t.pending = s.pending
  sent : s.out <:+ t.out
  flds : ∀ f i, f.key i ≠ OBS_REC_RSEQ.ALL.key 0 → t.rd f i = s.rd f i
  cnts : ∀ j, j ≠ 64 → t.cnt j = s.cnt j
  comps : ∀ c, c ∉ [Comp.slots, .told] → c.same s t

/-- Accepted with parameters and in states of which `C` holds, the command completes with the status `st`, and nothing but its reply follows. -/
def Refuses (c : CmdHdr → List Word → Instr) (op : OpDef) (C : List Nat → State → Prop) (st : Status) : Prop :=
  ∀ h p s, Accepted op h p s → C (p.map (·.toNat)) s → Completes (c h p) s (fun t => t.replied h st ∧ OnlyReplies s t)

/-- Every key of a table rises, and every value is below the bound. -/
def Tab.below (b : Nat) (t : Tab Nat) : Bool := Tab.sorted t && t.all (fun e => decide (e.2 < b))

/-- The form the state's tables keep: keys strictly rising in the register file, the counters, the wrap bits and the bank; counters and their bank
copies within 48 bits (R578); wrap bits single bits (R580). -/
def State.formed (s : State) : Bool :=
  Tab.sorted s.regs && Tab.below (2 ^ 48) s.cnts && Tab.below 2 s.wraps && Tab.below (2 ^ 48) s.bank && Tab.below 2 s.bankWraps

/-- Every field of the register map reads within its width (R16). -/
def State.fits (s : State) : Prop := ∀ b, ∀ r ∈ regsOf b, ∀ f ∈ r.flds, ∀ i, s.rd f i < 2 ^ f.width

/-- The registers whose fields a write sets and nothing more: no rule gives the write an effect or a condition beside range and lock. -/
def plainOffs : List Nat :=
  [0x3C, 0x80008, 0x10000C, 0x100010, 0x100018, 0x100520, 0x20000C, 0x200020, 0x200030, 0x200038, 0x20003C, 0x200800, 0x200808, 0x200818, 0x200828] ++
  [0x300000, 0x300008, 0x30000C, 0x300010, 0x300014, 0x30001C, 0x400008, 0x40000C, 0x500008, 0x500010, 0x500014, 0x50001C, 0x500400, 0x601000, 0x601010] ++
  [0x601014, 0x700008, 0x70000C, 0x800008, 0x800108, 0x90000C, 0x900010, 0x900014, 0x900018, 0xE00008, 0xE0000C, 0xE00010, 0xE00080, 0xE01000] ++
  [0xF00008, 0xF0000C, 0xF00014, 0x1000008, 0x1100100, 0x1200008, 0x1200048, 0x1200050, 0x1200124]

/-- What a write to a register beside its fields may change: the master's access status, and, where a host's change of configuration is journalled
to the mate, the journal (R518, R681). -/
def writeMay (fs : List Fld) : May := ⟨7, fs ++ May.journal ++ [SYS_ACC_STAT.ERRORS, SYS_ACC_STAT.RANGE, SYS_ACC_STAT.LOCK], [EV.PAIR_SYNC_FAIL], [], [.sys, .journal]⟩

/-- What a reset leaves of `s` in `t` (R661, R663): every register but those at the offsets
of `keep` at its reset value, every counter and copy at 0, every hidden part as after power-on but the fuses, the flash and the last temperatures. -/
structure Cleared (keep : List Nat) (boot : Nat) (s t : State) : Prop where
  regs : ∀ f i, keyOff (f.key i) < 0x2000000 → keyOff (f.key i) ∉ keep → t.rd f i = f.dflt i
  cnts : ∀ j < 4096, t.cnt j = 0
  bank : t.bank = [] ∧ t.bankWraps = [] ∧ t.snapGen = 0 ∧ t.tick = 0
  queue : t.pending = s.pending
  fuse : { t.fuse with rows := s.fuse.rows } = s.fuse
  sec : t.sec = { flash := s.sec.flash, boot := boot }
  pwr : t.pwr = { temps := s.pwr.temps, tj := s.pwr.tj }
  core : t.sys = {} ∧ t.obs = {} ∧ t.cmd = {} ∧ t.eng = {} ∧ t.tod = {} ∧ t.pair = {}
  line : t.ltx = {} ∧ t.lrx = {} ∧ t.adapt = {} ∧ t.cnv = {} ∧ t.fec = {} ∧ t.frm = {} ∧ t.cli = {}
  rest : t.vnr = {} ∧ t.srd = {} ∧ t.scr = {} ∧ t.ref = {} ∧ t.mon = {}

/-- The always-on registers that only a power-on reset clears (R663): SEC_RESET_CAUSE, PWR_THERM_CFG and PWR_PWM. -/
def aonRegs : List Nat := [0x1000004, 0x1100004, 0x1100100, 0x1100104, 0x1100108, 0x110010C]

/-- The always-on registers after a reset of cause `n`. -/
structure AonKept (n : Nat) (s t : State) : Prop where
  cause : t.rd SEC_RESET_CAUSE.CAUSE = n
  boots : t.rd SEC_RESET_CAUSE.BOOTS = sat (2 ^ SEC_RESET_CAUSE.BOOTS.width - 1) (s.rd SEC_RESET_CAUSE.BOOTS + 1) % 2 ^ SEC_RESET_CAUSE.BOOTS.width
  therm : ∀ f ∈ PWR_THERM_CFG.fields, t.rd f = s.rd f
  pwm : ∀ f ∈ PWR_PWM.fields, ∀ i < 4, t.rd f i = s.rd f i

end Sys2Proof.Machine
end

