-- ==== Sys2Proof/WellFormed.lean ====
section
/-!
DEFINITION. Which commands the world can give: a Felwin command has at most 1,019 parameter words (R616) and its packet at most 1,024 words
(R611), and what an event carries has no more items than the subcarriers, lanes, pages or sensors they belong to.
-/
namespace Sys2Proof

/-- Whether a command is well formed. -/
def Instr.WellFormed (i : Instr) : Prop :=
  match i with
  | .symbolWindowEnd _ _ syms => syms.length ≤ 16
  | .pilotWindowEnd wins => wins.length ≤ 16
  | .rxSuperframeBoundary frames => frames.length ≤ 16
  | .snrReport _ _ _ snr _ _ => snr.length ≤ 16
  | .rxFrame f => ∀ x ∈ f.slices, x.length = (f.slices.headD []).length
  | .align _ lanes _ _ _ => lanes.length ≤ 4
  | .syncWordDetect k => k.bits.length ≤ 8416
  | .keys _ _ ks => ks.length ≤ 72
  | .keysAck _ _ _ pages => pages.length ≤ 72
  | .digestBatchRx _ ds => ds.length ≤ 16
  | .commandFetch pkt => pkt.length ≤ 1024
  | .battenPacketRx _ _ _ _ body => body.length ≤ 1024
  | .thermalEval temps => temps.length ≤ 22
  | .ltxModeSet _ p | .ltxPlanLoad _ p | .ltxPlanCommit _ p | .ltxPlanCancel _ p | .ltxPlanGet _ p | .ltxBiasCtrl _ p | .ltxLaserSet _ p
  | .ltxLaserStatus _ p | .ltxOutput _ p | .lrxModeSet _ p | .lrxEnable _ p | .lrxAcqCfg _ p | .lrxEqCfg _ p | .lrxFreeze _ p | .lrxRestart _ p
  | .lrxStatus _ p | .lrxTapsGet _ p | .lrxQuality _ p | .lrxCrSet _ p | .lrxAdaptSet _ p | .lrxRplanLoad _ p | .lrxRplanGet _ p | .lrxAdaptNow _ p
  | .calStatus _ p | .calBgSet _ p | .calRefSet _ p | .calRun _ p _ _ | .calAbort _ p | .calCommit _ p _ | .calExport _ p | .calLoad _ p
  | .calQuality _ p | .calSlice _ p _ | .fecCfg _ p | .fecStatus _ p | .fecCounters _ p | .fecInject _ p | .fecGeometry _ p | .frmCfg _ p
  | .frmStatus _ p | .frmPmGet _ p | .frmTtiSet _ p | .frmTtiGet _ p | .frmOhcCfg _ p | .frmOhcXfer _ p | .cliAdd _ p | .cliRemove _ p | .cliMove _ p
  | .cliMoveCancel _ p | .cliStatus _ p | .cliCounters _ p | .cliTsCfg _ p | .cliLoop _ p | .cliSlotMap _ p | .srdLaneSet _ p | .srdStatus _ p
  | .srdEyeScan _ p | .srdJigSet _ p | .srdJigGet _ p | .vnrCfg _ p | .vnrStatus _ p | .vnrPageSet _ p | .vnrKeyLoad _ p | .vnrKeySwitch _ p
  | .vnrKeyErase _ p | .vnrBind _ p | .vnrLa _ p | .vnrCounters _ p | .vnrRearm _ p | .scrCfgSet _ p | .scrTrust _ p | .scrStatus _ p | .scrPeers _ p
  | .scrRestart _ p | .refCfg _ p | .refCandSet _ p | .refSelect _ p | .refStatus _ p | .refOutSet _ p | .refRealign _ p | .todGet _ p | .todStep _ p
  | .todRearm _ p | .todRateSet _ p | .ptpCfg _ p | .ptpPortSet _ p | .ptpStatus _ p | .lineDelay _ p | .asymAccept _ p | .schedSet _ p
  | .schedCancel _ p | .pairCfg _ p | .pairStatus _ p | .pairSwitch _ p | .pairPromote _ p | .pairOos _ p | .pairReturn _ p | .pairSnapshot _ p
  | .pairSpares _ p | .monCfg _ p | .monStart _ p | .monRead _ p | .monTrigger _ p | .monSyscal _ p | .monStatus _ p | .obsSnapshot _ p
  | .obsCntRead _ p | .obsCntPreset _ p | .obsEvtRoute _ p | .obsDumpCfg _ p | .obsBwCfg _ p | .capCfg _ p | .capTrigger _ p | .capRead _ p
  | .capRearm _ p | .recCfg _ p | .recRead _ p | .recHold _ p | .recStatus _ p | .identify _ p | .status _ p | .sysStateSet _ p | .sysSessionOpen _ p
  | .sysSessionClose _ p | .sysSlotRelease _ p | .sysRegAccess _ p | .battenStatus _ p | .engStatus _ p | .engCfg _ p | .fwStage _ p | .fwActivate _ p
  | .fwCommit _ p | .sbxLoad _ p | .sbxCtrl _ p | .sbxMsg _ p _ _ | .secStatus _ p | .secCerts _ p | .attest _ p | .secSessionKey _ p | .secNonce _ p
  | .secLifecycle _ p | .secCustkey _ p | .secReset _ p | .pwrStateSet _ p | .pwrStatus _ p | .pwrCfg _ p => p.length ≤ 1019
  | .secondBoundary | .minuteBoundary | .registerWrite _ _ _ _ | .fabricTimeout _ _ _ _ | .ltxModeWrite _ _ _ | .planBoundsReady | .planChgCommit _
  | .planChgCancel _ | .biasSweep _ | .biasSweepDone | .ditherCycle | .biasDwellEnd | .lasEnWrite _ _ _ | .lasFreqWrite _ _ _ | .lasFtfWrite _ _ _
  | .ftfApply _ | .lasReset _ _ | .laserPoll _ _ _ | .itlaResponseTimeout _ | .laserFaultPin _ | .laserTuned _ _ _ _ _ | .laserTuneTimeout _
  | .laserResetRetry _ | .outEnWrite _ _ | .outputRampDone | .biasLockTimeout | .superframeBoundary _ | .darkTimeTick | .loLightChange _
  | .lrxModeWrite _ _ _ | .rxEnWrite _ _ | .lrxRestartGo _ | .sigPresentSet | .sigPresentClear | .gainSettled _ | .freqEstimateDone _ | .dispBatchDone _
  | .trainingWordDetect _ _ _ _ | .superframeHeaderRx _ | .stageTimeout | .acqTimeout | .restartPauseEnd | .holdExpired | .warmTimeout | .lrxQTake _
  | .lrxQSnapDone | .slipClr _ | .adaptEnWrite _ _ _ | .snrReportSend | .reportStale | .offer _ _ _ _ _ | .held _ _ _ | .refuse _ _ _ _
  | .rollbackReq _ _ _ _ | .offerReplyTimeout | .adaptBackoffEnd | .verifyEnd | .calFgDone _ _ _ | .fgTimeout | .fuseRowWriteDone _ | .fuseVddLoss _ _
  | .cnvQTake _ | .cnvQSnapDone | .calPassStart | .sliceStepStart _ | .sliceHandover _ _ _ _ | .sliceCalDone _ _ _ _ | .sliceFault _ _ _
  | .sliceRetest _ _ | .sliceReturn _ _ _ | .refCheck _ _ | .bgEstimatorUpdate _ _ _ _ _ _ | .fecCntClr _ | .fecOneShot _ | .fecInjDone
  | .fecBlockEncode _ _ | .fecBlockDecode _ _ | .frmCntClr _ | .frmResync _ | .fasDetect _ _ _ | .candidateCheck _ _ | .resolutionWindowEnd
  | .inFrameCheck _ | .txFrame _ _ _ | .losClear | .lofDeclare | .lofClear | .lomDeclare | .lomClear | .pmSecond | .cliCntClr _ | .psiMultiframe _ _ _
  | .clientIngressFail _ _ _ _ _ | .ingressFailClear _ _ | .clientUp _ | .ptpMessageRx _ _ | .ptpMessageTx _ _ | .eyeDone _ _ _ _ _ | .srdCntClr _
  | .laneRetrain _ _ | .jigInject _ _ | .jigLock _ _ _ | .jigUnlock _ _ _ | .lanePowerUp _ | .laneTrained _ | .trainTimeout _ | .trainRetry _
  | .laneSignalLoss _ | .laneWtrEnd _ | .packetRx _ _ _ | .laDone _ _ _ _ | .vnrCtrlRearm _ | .vnrCntClr _ | .protModeWrite _ _ | .vnrTxBlock _ _ _
  | .vnrKatDone _ _ _ | .vnrRxBlock _ _ _ _ _ _ _ _ _ _ _ | .retainedGenErase _ _ | .keyAge _ _ _ | .keyExhausted _ _ | .keyRotationTimer _
  | .sensorAlarm _ | .sensorRekey | .drbgHealthFail | .drbgHealthPass | .scrCtrlRestart _ | .scrCntClr _ | .scrEnWrite _ _ | .hello _ | .kex _ _ _ _ _
  | .propose _ _ _ _ | .accept _ _ _ | .reject _ _ _ _ | .go _ _ _ | .goSent | .reneg _ _ _ | .rotate _ _ _ | .holdOffEnd | .helloTimer | .beaconLight
  | .selectionWindowEnd | .scrReplyTimeout | .negTimeout | .scrHoldEnd | .scrLive | .goLiveTimeout | .relockTimeout | .peerHelloLost
  | .candFreqWrite _ _ _ | .realignStep _ _ _ | .refActivity _ _ | .freqGateEnd _ _ | .refQualifyEnd _ | .driftEval | .buildoutEnd | .dpllLock
  | .dpllUnlock _ | .dpllHistoryTick _ _ | .clampExpired | .oscLost | .esmcRx _ _ _ | .esmcTx | .qlTimeout _ | .lineQlRx _ _ _ _ | .compatPulse _ _
  | .todStepApply | .schedFire _ | .todLatch _ | .todCntClr _ | .timeBaseOk | .lineStampRx _ | .lineAnnounceRx _ | .asymHoldEnd | .servoSecond
  | .parentMeasureDone | .announceTimeout _ | .holdoverExpiry | .pairCntClr _ | .heartbeatTx | .heartbeatRx _ _ _ _ _ _ _ | .mitreLinkLost _
  | .mitreLinkUp _ | .pairAuthRetry _ | .pegTx | .pegPulse _ | .pegLoss | .deathWinEnd | .journalEntryRx _ _ | .journalAckTimeout | .journalResend
  | .failRx _ | .gapEnd | .snapshotPeriod | .snapshotRx _ | .snapshotTimeout | .digestMissing _ _ | .identificationDone _ _ | .pairWtrEnd
  | .plannedHandover | .mitreTimeStamp _ _ | .engWatchdog _ | .engEcc _ _ | .engTrap _ | .taskResume _ _ | .engineRetest _ _ | .spareWtrEnd _
  | .sharedSramError _ | .monSyscalDone _ _ _ _ | .monCntClr _ | .monInterleaveWrite _ _ | .monQRead _ _ | .monTimerTrigger _ | .dsyncPulse
  | .monDelayEnd _ | .monWord _ _ _ | .capReadDone | .recReadDone _ _ _ _ | .obsCntClr _ | .bwClear _ | .obsSnapTake _ | .obsPreset _ _
  | .wrapClear _ _ _ | .dumpPeriod | .bwWindowEnd _ _ | .triggerInputFire _ | .capFrozen _ _ | .drainDone _ _ | .segmentWriteDone | .driveFail _ _ _
  | .driveReady _ _ _ | .eqCoalesceEnd | .cmdDoorbell _ _ _ | .replyWrite _ | .replyAck _ _ _ | .dumpConsWrite _ _ | .cmdTimeout _ _ | .fwStageDone _ _
  | .fwProbationEnd | .sbxLoadDone _ _ | .battenRestart _ | .battenTokenRx _ _ _ _ | .enumTimeout | .enumRetry | .pcieHostReset _ | .pwrTransitionDone _
  | .lifecycleReset | .deviceReset | .powerOnReset | .debugReset _ | .wake | .porstRelease | .fuseReadDone | .keeperBoot | .engineImageLoaded
  | .bootReady | .svnRetry | .keeperAlarm _ | .setAliasWrite _ _ _ | .clearAliasWrite _ _ _ | .lowWordRead _ _ | .highWordRead _ _ | .lowWordWrite _ _ _
  | .highWordWrite _ _ _ | .accSelfRead _ | .intStatClear _ _ _ _ | .sysLockSet _ _ | .eqConsWrite _ _ | .gpioEdge _ _ | .msixUnmask _ _ _
  | .oscInActive | .lineQlMessageTx | .pcieLinkUp | .clientFrameIngress _ _ _ | .clientFrameEgress _ => True

end Sys2Proof
end

