-- ==== Sys2Proof/Certificates/Slice0/Obligations.lean ====
section
/-!
DEFINITION. The statements put to the provers: what each command and each event does once its conditions hold, what it leaves, which commands are turned
away and how, what reset leaves, and the form that every step keeps.
-/
open Sys2Proof Sys2Proof.Machine

/-- The line transmit commands (Table 2.9): each, once accepted, completes with the reply and the effect its clause gives.
Where the rules leave a form, code or order open it states the model's choice: log entries 6, 7, 50 to 59, 62, 79, 145, 146, 148. -/
def Obligations.TransmitCommands : Prop :=
  Does .ltxModeSet opLtxModeSet (fun p s => s.lit = false ∧ modeOk s.is1600 (nth p 0) (nth p 1) = true ∧ modeArgsOk p = true ∧
      widthOk (nth p 0) (nth p 1) (nth p 2) (nth p 3) = true ∧ s.scribeOk (nth p 0) (nth p 1) (nth p 2) (nth p 3) = true)
    (fun _ p s t => t.txMode = nth p 0 ∧ t.txN = nth p 1 % 64 ∧ t.rd LTX_SHAPE.ROLLOFF = nth p 2 ∧ t.rd LTX_SHAPE.KERF = nth p 3 ∧
      t.rd LTX_CLIP.LEVEL = nth p 6 ∧ (nth p 0 ≠ s.txMode → t.rd LTX_PLAN_HDR.PLAN_ID 0 = 0 ∧ t.rd LTX_PLAN_HDR.PLAN_ID 1 = 0)) ∧
  Starts .ltxPlanLoad opLtxPlanLoad (fun p s => s.on LTX_STATUS.PLAN_PENDING = false ∧ s.on LRX_ADAPT_CFG.TX_EN = false ∧
      planCheck s.txMode s.txN true (nth p 0) (loadWords (p.drop 1)) = none)
    (fun h p s t => t.ltx.loads = s.ltx.loads ++ [runOf h 0x0202 p]) ∧
  Does .ltxPlanCommit opLtxPlanCommit (fun p s => s.on LTX_STATUS.PLAN_PENDING = false ∧ s.on LRX_ADAPT_CFG.TX_EN = false ∧
      nth p 0 = s.rd LTX_PLAN_HDR.PLAN_ID 1 ∧ planCheck s.txMode s.txN true (s.rd LTX_PLAN_HDR.PLAN_ID 1) (s.bankWords 1) = none)
    (fun _ _ s t => if s.sending then t.rd LTX_STATUS.PLAN_PENDING = 1 ∧ t.rd LTX_PLAN_CHG.TARGET_SF = (s.rd LTX_SF_NUM.ALL + 17) % 65536 ∧ t.rd LTX_PLAN_CHG.CD = 16
      else t.rd LTX_STATUS.PLAN_PENDING = 0 ∧ t.rd LTX_PLAN_CHG.TARGET_SF = 0xFFFF ∧ t.ltx.acc = 0) ∧
  Does .ltxPlanCancel opLtxPlanCancel (fun _ s => s.cancelOk = true ∧ s.on LRX_ADAPT_CFG.TX_EN = false)
    (fun _ _ _ t => t.rd LTX_STATUS.PLAN_PENDING = 0 ∧ t.rd LTX_PLAN_CHG.CD = 0) ∧
  Answers .ltxPlanGet opLtxPlanGet (fun p _ => nth p 0 ≤ 1) (fun p s => [s.rd LTX_PLAN_HDR.PLAN_ID (nth p 0)] ++ s.bankWords (nth p 0) ++
    [sumE (s.bankWords (nth p 0)), wMin s.txMode s.txN] ++ (if s.on LTX_STATUS.PLAN_PENDING then [s.rd LTX_PLAN_CHG.TARGET_SF] else [])) ∧
  Does .ltxBiasCtrl opLtxBiasCtrl (fun p _ => nth p 0 ≤ 63 ∧ nth p 1 ≤ 1 ∧ (1000 ≤ nth p 2 ∧ nth p 2 ≤ 40000) ∧ (1 ≤ nth p 3 ∧ nth p 3 ≤ 40) ∧
      (4 ≤ nth p 4 ∧ nth p 4 ≤ 256) ∧ nth p 5 ≤ 7 ∧ nth p 6 ≤ 1)
    (fun _ p _ t => t.rd LTX_BIAS_CTRL.EN = nth p 0 ∧ t.rd LTX_BIAS_CTRL.HOLD = nth p 1 ∧ t.ltx.ditherHz = nth p 2 ∧ t.ltx.ditherAmp = nth p 3 ∧
      t.rd LTX_BIAS_CTRL.GAIN = nth p 5 ∧ (nth p 6 = 1 → t.ltx.sweeping = true)) ∧
  Does .ltxLaserSet opLtxLaserSet (fun p s => p.length = 5 ∧ nth p 0 = 0 ∧ nth p 1 ≤ 1 ∧ (1200 ≤ nth p 3 ∧ nth p 3 ≤ 1800) ∧ nth p 4 ≤ 1 ∧
      lasFreqOk (nth p 2) = true ∧ s.lit = false)
    (fun _ p _ t => t.rd LTX_LAS_FREQ.FREQ (nth p 1) = nth p 2 ∧ t.rd LTX_LAS_CTRL.POWER (nth p 1) = nth p 3 ∧ t.rd LTX_LAS_CTRL.EN (nth p 1) = nth p 4) ∧
  Does .ltxLaserSet opLtxLaserSet (fun p s => p.length = 3 ∧ nth p 0 = 1 ∧ nth p 1 ≤ 1 ∧ s.ftfOk (nth p 1) (ofPat 32 (nth p 2)) = true ∧
      (s.ltx.laser (nth p 1)).recent = false)
    (fun _ p _ t => (t.ltx.laser (nth p 1)).ftf = ofPat 32 (nth p 2) ∧ (t.ltx.laser (nth p 1)).recent = true) ∧
  Does .ltxLaserSet opLtxLaserSet (fun p _ => p.length = 2 ∧ nth p 0 = 2 ∧
      wordOk [LTX_LAS_TIMERS.TUNE_TO, LTX_LAS_TIMERS.POLL, LTX_LAS_TIMERS.RESP_TO, LTX_LAS_TIMERS.BIAS_TO] (nth p 1) = true)
    (fun _ p _ t => ∀ f ∈ [LTX_LAS_TIMERS.TUNE_TO, LTX_LAS_TIMERS.POLL, LTX_LAS_TIMERS.RESP_TO, LTX_LAS_TIMERS.BIAS_TO], t.rd f = f.raw (nth p 1)) ∧
  Answers .ltxLaserStatus opLtxLaserStatus (fun p _ => nth p 0 ≤ 1) (fun p s => [s.rd LTX_LAS_STAT.STATUSF (nth p 0), (s.ltx.laser (nth p 0)).statusW,
    (s.ltx.laser (nth p 0)).lf, (s.ltx.laser (nth p 0)).oop, (s.ltx.laser (nth p 0)).ctemp, s.rd LTX_LAS_STAT.RESETS (nth p 0)]) ∧
  Does .ltxOutput opLtxOutput (fun p s => nth p 0 = 0 ∧ nth p 1 ≤ 150 ∧ s.ltx.outRun = none)
    (fun _ p _ t => t.lit = false ∧ t.rd LTX_CTRL.OUT_EN = 0 ∧ t.ltx.bring = 0 ∧ t.ltx.atten = nth p 1) ∧
  Does .ltxOutput opLtxOutput (fun p s => nth p 0 = 1 ∧ nth p 1 ≤ 150 ∧ s.ltx.bring = 0 ∧ s.sending = true)
    (fun _ p s t => t.lit = s.lit ∧ t.ltx.atten = nth p 1 ∧ t.ltx.attNow = (if s.lit then nth p 1 else s.ltx.attNow)) ∧
  Starts .ltxOutput opLtxOutput (fun p s => nth p 0 = 1 ∧ nth p 1 ≤ 150 ∧ s.ltx.bring = 0 ∧ s.sending = false ∧ s.canLight = true ∧ s.scr.beacon = false)
    (fun h p _ t => t.rd LTX_CTRL.OUT_EN = 1 ∧ t.ltx.bring = 1 ∧ t.ltx.sweeping = true ∧ t.ltx.drive = false ∧ t.ltx.attNow = 150 ∧ t.ltx.outRun = some (runOf h 0x0209 p))

/-- The register writes of LTX that have a row of their own: each completes with the effect its clause gives, where a master's write reaches the block.
Where the rules leave a form, code or order open it states the model's choice: log entries 9, 10, 20, 50 to 59, 62, 79, 145, 146, 148. -/
def Obligations.TransmitWrites : Prop :=
  (∀ m mode n s, s.takes m 1 → s.locked m.val LTX_CTRL.MODE 0 = false → modeOk s.is1600 mode.toNat n.toNat = true →
    widthOk mode.toNat n.toNat (s.rd LTX_SHAPE.ROLLOFF) (s.rd LTX_SHAPE.KERF) = true → s.scribeOk mode.toNat n.toNat (s.rd LTX_SHAPE.ROLLOFF) (s.rd LTX_SHAPE.KERF) = true →
    Completes (.ltxModeWrite m mode n) s (fun t => t.txMode = mode.toNat ∧ t.txN = n.toNat ∧ (mode.toNat ≠ s.txMode → t.rd LTX_PLAN_HDR.PLAN_ID 0 = 0))) ∧
  (∀ m s, s.takes m 1 → s.on LTX_STATUS.PLAN_PENDING = false → s.on LRX_ADAPT_CFG.TX_EN = false → s.sending = true →
    planCheck s.txMode s.txN true (s.rd LTX_PLAN_HDR.PLAN_ID 1) (s.bankWords 1) = none →
    Completes (.planChgCommit m) s (fun t => t.rd LTX_PLAN_CHG.RESULT = 1 ∧ t.rd LTX_STATUS.PLAN_PENDING = 1 ∧ t.rd LTX_PLAN_CHG.CD = 16)) ∧
  (∀ m s, s.takes m 1 → s.cancelOk = true → s.on LRX_ADAPT_CFG.TX_EN = false →
    Completes (.planChgCancel m) s (fun t => t.rd LTX_PLAN_CHG.RESULT = 1 ∧ t.rd LTX_STATUS.PLAN_PENDING = 0)) ∧
  (∀ m s, s.takes m 1 → Completes (.biasSweep m) s (fun t => t.ltx.sweeping = true ∧ t.rd LTX_STATUS.BIAS_LOCKED = 0)) ∧
  (∀ m p en s, s.takes m 1 → Completes (.lasEnWrite m p en) s (fun t => t.rd LTX_LAS_CTRL.EN p.val = b2n en ∧ (s.on LTX_LAS_CTRL.EN p.val = true → en = false → t.on LTX_LAS_STAT.LASING p.val = false))) ∧
  (∀ m p v s, s.takes m 1 → s.locked m.val LTX_LAS_FREQ.FREQ p.val = false → LTX_LAS_FREQ.FREQ.inRange v.toNat = true → lasFreqOk v.toNat = true →
    Completes (.lasFreqWrite m p v) s (fun t => t.rd LTX_LAS_FREQ.FREQ p.val = v.toNat ∧ (s.on LTX_LAS_CTRL.EN p.val = true → s.lit = false → t.on LTX_LAS_STAT.TUNING p.val = true))) ∧
  (∀ m p v s, s.takes m 1 → s.ftfOk p.val v.toInt = true → Completes (.lasFtfWrite m p v) s (fun t => t.rdI LTX_LAS_CTRL.FTF p.val = v.toInt)) ∧
  (∀ m p s, s.takes m 1 → s.on LTX_LAS_CTRL.EN p.val = true → Completes (.lasReset m p) s (fun t => t.rd LTX_LAS_STAT.HOLD p.val = 0 ∧ t.on LTX_LAS_STAT.TUNING p.val = true ∧ (t.ltx.laser p.val).tries = 1)) ∧
  (∀ m s, s.takes m 1 → s.ltx.outRun = none → Completes (.outEnWrite m false) s (fun t => t.lit = false ∧ t.rd LTX_CTRL.OUT_EN = 0 ∧ t.ltx.bring = 0)) ∧
  (∀ m s, s.takes m 1 → s.sending = false → s.ltx.bring = 0 → s.canLight = true → s.scr.beacon = false →
    Completes (.outEnWrite m true) s (fun t => t.rd LTX_CTRL.OUT_EN = 1 ∧ t.ltx.bring = 1))

/-- The events of the line transmitter, plan bounds, bias loops, lasers, the output ramp: each completes with the effect its clause gives, where the condition its clause names holds.
Where the rules leave a form, code or order open it states the model's choice: log entries 9, 10, 20, 50 to 59, 62, 79, 145, 146, 148. -/
def Obligations.TransmitEvents : Prop :=
  (∀ r s, s.ltx.loads = [r] → r.opcode = 0x0202 → s.on LTX_STATUS.PLAN_PENDING = false → Completes .planBoundsReady s (fun t => t.ltx.loads = [] ∧ t.rd LTX_PLAN_HDR.PLAN_ID 1 = nth r.par 0 % 256)) ∧
  (∀ s, s.ltx.sweeping = true → Completes .biasSweepDone s (fun t => t.ltx.sweeping = false ∧ t.ltx.loop = nextLoop s.loopMask 5)) ∧
  (∀ s, s.biasHeld = false → s.ltx.sweeping = false → s.loopMask ≠ 0 → Completes .ditherCycle s (fun t => t.ltx.loop = s.biasLoop ∧
    t.ltx.dsync = some (200 * (s.biasLoop + 1)) ∧ t.out = .dsync (200 * (s.biasLoop + 1)) :: s.out)) ∧
  (∀ s, s.biasHeld = false → s.ltx.sweeping = false → s.loopMask ≠ 0 → Completes .biasDwellEnd s (fun t => t.ltx.loop = nextLoop s.loopMask s.biasLoop ∧
    t.rd LTX_BIAS_DAC.ALL s.biasLoop = biasStep (s.rd LTX_BIAS_DAC.ALL s.biasLoop) (s.rd LTX_BIAS_CTRL.GAIN)
      (Config.biasError s.biasLoop (biasWords (Tab.get [] s.mon.queues 0) s.biasLoop)))) ∧
  (∀ p z s, (s.ltx.laser p.val).held = some z → Completes (.ftfApply p) s (fun t => (t.ltx.laser p.val).ftf = z ∧ (t.ltx.laser p.val).held = none)) ∧
  (∀ p f w s, s.on LTX_LAS_CTRL.EN p.val = true → s.on LTX_LAS_STAT.HOLD p.val = false → Completes (.laserPoll p f w) s (fun t => t.rd LTX_LAS_STAT.STATUSF p.val = f.toNat ∧ (t.ltx.laser p.val).statusW = w.toNat)) ∧
  (∀ p s, s.on LTX_LAS_STAT.FAIL p.val = false → s.on LTX_LAS_CTRL.EN p.val = true → (s.ltx.laser p.val).recov = false → Completes (.itlaResponseTimeout p) s (fun t => t.on LTX_LAS_STAT.FAIL p.val = true ∧ t.on LTX_LAS_STAT.TUNING p.val = true)) ∧
  (∀ p s, s.on LTX_LAS_STAT.FAIL p.val = false → s.on LTX_LAS_CTRL.EN p.val = true → (s.ltx.laser p.val).recov = false → Completes (.laserFaultPin p) s (fun t => t.on LTX_LAS_STAT.FAIL p.val = true ∧ t.on LTX_LAS_STAT.TUNING p.val = true)) ∧
  (∀ p a b c d s, s.on LTX_LAS_STAT.TUNING p.val = true → Completes (.laserTuned p a b c d) s (fun t => t.on LTX_LAS_STAT.TUNING p.val = false ∧
    t.on LTX_LAS_STAT.TUNED p.val = true ∧ t.on LTX_LAS_STAT.FAIL p.val = false ∧ t.rd LTX_LAS_STAT.RESETS p.val = 0)) ∧
  (∀ p s, s.on LTX_LAS_STAT.TUNING p.val = true → Completes (.laserTuneTimeout p) s (fun t => t.on LTX_LAS_STAT.FAIL p.val = true)) ∧
  (∀ p s, (s.ltx.laser p.val).recov = true → 3 ≤ (s.ltx.laser p.val).tries →
    Completes (.laserResetRetry p) s (fun t => t.on LTX_LAS_STAT.HOLD p.val = true ∧ t.on LTX_LAS_STAT.LASING p.val = false)) ∧
  (∀ s, s.ltx.bring = 3 → s.scr.lighting = false → Completes .outputRampDone s (fun t => t.lit = true ∧ t.rd LTX_CTRL.LOCK = 1 ∧ t.ltx.bring = 0 ∧ t.ltx.drive = true ∧ t.ltx.attNow = s.ltx.atten ∧ t.rd LTX_SF_NUM.ALL = 0 ∧ t.ltx.acc = 0)) ∧
  (∀ s, s.ltx.bring = 1 ∨ s.ltx.bring = 2 → Completes .biasLockTimeout s (fun t => t.ltx.bring = 0 ∧ t.rd LTX_CTRL.OUT_EN = 0)) ∧
  (∀ b s, Completes (.loLightChange b) s (fun t => t.ltx.loLight = b))

/-- The line receive commands (Table 3.6): each, once accepted, completes with the reply and the effect its clause gives.
Where the rules leave a form, code or order open it states the model's choice: log entries 6, 7, 12, 13, 60 to 66, 147 to 152. -/
def Obligations.ReceiveCommands : Prop :=
  Does .lrxModeSet opLrxModeSet (fun p s => s.on LRX_CTRL.RX_EN = false ∧ modeOk s.is1600 (nth p 0) (nth p 1) = true ∧ nth p 2 ≤ 31 ∧ nth p 3 ≤ 31 ∧
      LRX_SHAPE.ROLLOFF.inRange (nth p 2) = true ∧ LRX_SHAPE.KERF.inRange (nth p 3) = true ∧ widthOk (nth p 0) (nth p 1) (nth p 2) (nth p 3) = true)
    (fun _ p s t => t.rxMode = nth p 0 ∧ t.rxN = nth p 1 % 64 ∧ t.rd LRX_SHAPE.ROLLOFF = nth p 2 ∧ t.rd LRX_SHAPE.KERF = nth p 3 ∧
      (nth p 0 ≠ s.rxMode → t.lrx.act = 0 ∧ t.lrx.armed = none ∧ t.lrx.lru = [])) ∧
  Does .lrxEnable opLrxEnable (fun p s => nth p 0 = 1 ∧ s.rxRefused = false) (fun _ _ s t => t.on LRX_CTRL.RX_EN = true ∧
      (s.on LRX_CTRL.RX_EN = false → s.stage = 0 → s.loPresent = true → t.stage = 1)) ∧
  Does .lrxEnable opLrxEnable (fun p s => nth p 0 = 0 ∧ s.on LRX_CTRL.RX_EN = true) (fun _ _ _ t => t.on LRX_CTRL.RX_EN = false ∧ t.stage = 0) ∧
  Does .lrxAcqCfg opLrxAcqCfg (fun p s => wordOk [LRX_AGC.TARGET] (nth p 0) = true ∧ s.dForceOk (nth p 1) = true ∧ wordOk [LRX_TIM_CFG.BW] (nth p 2) = true ∧
      wordOk LRX_LOCK_CFG.fields (nth p 3) = true ∧ wordOk LRX_HOLD.fields (nth p 4) = true)
    (fun _ p _ t => t.rd LRX_AGC.TARGET = LRX_AGC.TARGET.raw (nth p 0) ∧ t.rd LRX_CD_CFG.D_FORCE = LRX_CD_CFG.D_FORCE.raw (nth p 1) ∧
      t.rd LRX_TIM_CFG.BW = LRX_TIM_CFG.BW.raw (nth p 2) ∧ t.rd LRX_LOCK_CFG.SF_THR = LRX_LOCK_CFG.SF_THR.raw (nth p 3) ∧ t.rd LRX_HOLD.HOLD = LRX_HOLD.HOLD.raw (nth p 4)) ∧
  Does .lrxEqCfg opLrxEqCfg (fun p s => wordOk LRX_EQ_CFG.fields (nth p 0) = true ∧ wordOk LRX_DFE_CFG.fields (nth p 1) = true ∧
      fOnOk (LRX_DFE_CFG.F_OFF.raw (nth p 1)) (LRX_DFE_CFG.F_ON.raw (nth p 1)) = true ∧ s.on LRX_CTRL.RX_EN = false)
    (fun _ p _ t => t.rd LRX_EQ_CFG.HALF_TAPS = LRX_EQ_CFG.HALF_TAPS.raw (nth p 0) ∧ t.rd LRX_DFE_CFG.NFB = LRX_DFE_CFG.NFB.raw (nth p 1)) ∧
  Does .lrxFreeze opLrxFreeze (fun _ _ => True) (fun _ p _ t => t.rd LRX_FREEZE.TIMING = LRX_FREEZE.TIMING.raw (nth p 0) ∧ t.rd LRX_FREEZE.AGC = LRX_FREEZE.AGC.raw (nth p 0)) ∧
  Does .lrxRestart opLrxRestart (fun p s => nth p 0 = 0 ∧ nth p 1 ≤ 65535 ∧ s.on LRX_CTRL.RX_EN = true) (fun _ _ _ t => t.stage = 1 ∧ t.rd LRX_STATUS.WARM = 0) ∧
  Answers .lrxStatus opLrxStatus (fun _ _ => True) (fun _ s => [s.word LRX_STATUS.fields, w32 (s.rdI LRX_CD_EST.ALL), w32 (s.rdI LRX_FREQ_EST.ALL), s.rd LRX_TIM_EST.ALL] ++
    (List.range 16).map (fun k => s.word LRX_SC_STAT.fields k) ++ (List.range 16).map (fun k => s.rd LRX_SC_RCD.ALL k)) ∧
  Answers .lrxTapsGet opLrxTapsGet (fun p _ => nth p 0 ≤ 15) (fun p s => [s.taps, s.rd LRX_DFE_CFG.NFB] ++
    (fourSets (centred s.taps) (s.lrx.sc (nth p 0)).ff ++ fourSets (fromFirst (s.rd LRX_DFE_CFG.NFB)) (s.lrx.sc (nth p 0)).fb).flatten.map tapWord)

/-- The register writes of LRX that have a row of their own: each completes with the effect its clause gives, where the condition its clause names holds.
Where the rules leave a form, code or order open it states the model's choice: log entries 9, 10, 20, 12, 13, 60 to 66, 147 to 152. -/
def Obligations.ReceiveWrites : Prop :=
  (∀ m mode n s, s.takes m 2 → s.locked m.val LRX_CTRL.MODE 0 = false → modeOk s.is1600 mode.toNat n.toNat = true →
    widthOk mode.toNat n.toNat (s.rd LRX_SHAPE.ROLLOFF) (s.rd LRX_SHAPE.KERF) = true →
    Completes (.lrxModeWrite m mode n) s (fun t => t.rxMode = mode.toNat ∧ t.rxN = n.toNat ∧ (mode.toNat ≠ s.rxMode → t.lrx.act = 0 ∧ t.lrx.lru = []))) ∧
  (∀ m s, s.takes m 2 → s.rxRefused = false → Completes (.rxEnWrite m true) s (fun t => t.on LRX_CTRL.RX_EN = true)) ∧
  (∀ m s, s.takes m 2 → s.on LRX_CTRL.RX_EN = true → Completes (.rxEnWrite m false) s (fun t => t.on LRX_CTRL.RX_EN = false ∧ t.stage = 0)) ∧
  (∀ m s, s.takes m 2 → s.rd LRX_RESTART.FROM = 0 → s.on LRX_CTRL.RX_EN = true →
    Completes (.lrxRestartGo m) s (fun t => t.rd LRX_RESTART.RESULT = 1 ∧ t.stage = 1 ∧ t.rd LRX_STATUS.WARM = 0)) ∧
  (∀ m s, s.takes m 2 → s.on LRX_CTRL.RX_EN = false → Completes (.lrxRestartGo m) s (fun t => t.rd LRX_RESTART.RESULT = 5 ∧ t.stage = s.stage)) ∧
  (∀ m s, s.takes m 2 → Completes (.slipClr m) s (fun t => ∀ k < 16, t.rd LRX_SC_SLIP.OUT k = 0 ∧ t.rd LRX_SC_SLIP.TRK k = 0))

/-- The events of acquisition and tracking (R102 to R139, R144 to R152): each completes with the effect its clause gives, where the condition its clause names holds.
Where the rules leave a form, code or order open it states the model's choice: log entries 9, 10, 20, 12, 13, 60 to 66, 147 to 152. -/
def Obligations.AcquisitionEvents : Prop :=
  (∀ s, s.stage ≠ 11 → Completes .sigPresentSet s (fun t => t.rd LRX_STATUS.SIG_PRESENT = 1 ∧ t.stage = s.stage)) ∧
  (∀ s, s.stage = 10 → Completes .sigPresentClear s (fun t => t.rd LRX_STATUS.SIG_PRESENT = 0 ∧ t.stage = 11 ∧ t.lrx.llr = false)) ∧
  (∀ pow s, s.stage = 1 → s.on LRX_STATUS.SIG_PRESENT = true → s.lrx.pause = false → s.on LRX_FREEZE.AGC = false → s.on LRX_STATUS.WARM = false →
    Completes (.gainSettled pow) s (fun t => t.lrx.agc = (List.range 4).map (fun c => (clampI 0 96 (s.agcTarget - adcLevel (nth pow c))).toNat) ∧
      t.rd LRX_AGC.GAIN = nth t.lrx.agc 0 ∧ t.stage = (if t.agcSettled pow then 2 else 1))) ∧
  (∀ ss s, s.stage = 2 → s.lrx.pause = false → s.on LRX_FREEZE.FREQ = false → s.on LRX_STATUS.WARM = false → s.lrx.mism = 0 → s.on LRX_CD_CFG.FORCE = false →
    Completes (.freqEstimateDone ss) s (fun t => let e := Config.bandEdges s.rxMode s.rxN (s.rd LRX_SHAPE.ROLLOFF) (s.rd LRX_SHAPE.KERF) (spectrumMean ss)
      if 5000000 < ((e.1 + e.2) / 2).natAbs then t.lrx.pause = true ∧ t.lrx.fails = s.lrx.fails + 1
      else t.rdI LRX_FREQ_EST.ALL = (e.1 + e.2) / 2 ∧ t.stage = 3 ∧ t.lrx.scan = some ⟨false, coarseTrials s.rxCd, []⟩)) ∧
  (∀ ms sc s, s.stage = 3 → s.lrx.pause = false → s.lrx.scan = some sc → 16 < sc.todo.length →
    Completes (.dispBatchDone ms) s (fun t => ∃ sc', t.lrx.scan = some sc' ∧ sc'.fine = sc.fine ∧ sc'.todo = sc.todo.drop 16)) ∧
  (∀ pow cross ys k s, s.stage = 4 → s.lrx.pause = false → s.rxScs = [k] → s.on LRX_FREEZE.TIMING = false →
    Completes (.symbolWindowEnd pow cross [ys]) s (fun t => t.rd LRX_TIM_EST.ALL = toPat 32 ((s.lrx.timInt +
      Config.natFreq 0 (100000 * s.rd LRX_TIM_CFG.BW) * Config.natFreq 0 (100000 * s.rd LRX_TIM_CFG.BW) * s.timError [(k, ys)] / 2 ^ 44) * 1000000000 / 2 ^ 64))) ∧
  (∀ pow cross ys k s, s.stage = 8 → s.lrx.pause = false → s.rxScs = [k] → s.on LRX_FREEZE.TIMING = true →
    Completes (.symbolWindowEnd pow cross [ys]) s (fun t => (t.lrx.sc k).ff = (s.eqWindow k ys).ff ∧ (t.lrx.sc k).fb = (s.eqWindow k ys).fb ∧
      (t.lrx.sc k).dx = (s.eqWindow k ys).dx ∧ (t.lrx.sc k).dy = (s.eqWindow k ys).dy ∧ (t.lrx.sc k).thX = (s.eqWindow k ys).thX ∧
      (t.lrx.sc k).thY = (s.eqWindow k ys).thY ∧ t.rd LRX_TIM_EST.ALL = s.rd LRX_TIM_EST.ALL)) ∧
  (∀ k pos xs ys s, s.stage = 6 → s.lrx.pause = false → s.rxScs = [k.val] → 0 < (trainCorr k.val xs ys).2 →
    s.rd LRX_LOCK_CFG.SF_THR * (trainCorr k.val xs ys).2 ≤ 64 * rootOf (cNorm (trainCorr k.val xs ys).1) → (s.lrx.sc k.val).dets = [pos] →
    Completes (.trainingWordDetect k (pos + 2 ^ 20) xs ys) s (fun t => t.rd LRX_STATUS.SF_LOCK = 1 ∧ t.stage = 7 ∧ (t.lrx.sc k.val).bnd = some ((pos + 2 ^ 20) % 2 ^ 20))) ∧
  (∀ w k s, s.stage = 7 → s.lrx.pause = false → s.rxScs = [k] → s.on LRX_FREEZE.FREQ = false →
    Completes (.pilotWindowEnd [w]) s (fun t => (t.lrx.sc k).pil = (pilotPhases (s.lrx.sc k).pil w ++ (s.lrx.sc k).pil).take 1100 ∧
      (t.lrx.crInt, t.lrx.crRate) = (advances [w]).foldl (crStep (Config.natFreq 1 (10000 * s.rd LRX_CR_CFG.FBW)) Config.crDamping s.pilotHz) (s.lrx.crInt, s.lrx.crRate) ∧
      t.rd LRX_FREQ_EST.ALL = toPat 32 (s.lrx.coarse + t.lrx.crInt / 65536000))) ∧
  (∀ s, s.stage = 5 → s.lrx.pause = false → Completes .stageTimeout s (fun t => t.lrx.pause = true ∧ t.lrx.fails = s.lrx.fails + 1)) ∧
  (∀ s, s.stage = 9 → s.lrx.pause = false → Completes .acqTimeout s (fun t => t.lrx.pause = true ∧ t.lrx.fails = s.lrx.fails + 1)) ∧
  (∀ s, s.lrx.pause = true → s.frozenBy 0 s.rxScs = (0, []) → Completes .restartPauseEnd s (fun t => t.lrx.pause = false ∧ t.stage = 1)) ∧
  (∀ s, s.stage = 11 → s.lrx.expired = false → Completes .holdExpired s (fun t => t.lrx.expired = true ∧ t.lrx.dHeld = false ∧ t.lrx.scs = [])) ∧
  (∀ s, s.on LRX_STATUS.WARM = true → s.stage = 5 → s.lrx.pause = false → s.frozenBy 0 s.rxScs = (0, []) → Completes .warmTimeout s (fun t => t.rd LRX_STATUS.WARM = 0 ∧ t.stage = 1))

/-- The carrier and adaptation commands (Table 4.3): each, once accepted, completes with the reply and the effect its clause gives.
Where the rules leave a form, code or order open it states the model's choice: log entries 6, 7, 12, 67 to 70, 148, 154. -/
def Obligations.AdaptationCommands : Prop :=
  Starts .lrxQuality opLrxQuality (fun _ _ => True) (fun h p s t => t.lrx.qTake = true ∧ t.lrx.qRuns = s.lrx.qRuns ++ [runOf h 0x0309 p]) ∧
  Does .lrxCrSet opLrxCrSet (fun p _ => wordOk LRX_CR_CFG.fields (nth p 0) = true ∧ nth p 1 ≤ 12 ∧ periodOk (nth p 2) = true)
    (fun _ p _ t => t.rd LRX_CR_CFG.BPS_N = LRX_CR_CFG.BPS_N.raw (nth p 0) ∧ t.rd LRX_Q_CFG.AVG = nth p 1 ∧ 2 ^ t.rd LRX_Q_CFG.REPORT = nth p 2) ∧
  Does .lrxAdaptSet opLrxAdaptSet (fun p _ => marginsOk (nth p 1) = true ∧ wordOk LRX_ADAPT_TIMERS.fields (nth p 2) = true ∧ wordOk LRX_ADAPT_LIMITS.fields (nth p 3) = true)
    (fun _ p s t => t.on LRX_ADAPT_CFG.TX_EN = bit (nth p 0) 0 ∧ t.on LRX_ADAPT_CFG.RX_EN = bit (nth p 0) 1 ∧
      t.rd LRX_ADAPT_MARGIN.TARGET = LRX_ADAPT_MARGIN.TARGET.raw (nth p 1) ∧ t.rd LRX_ADAPT_TIMERS.V = LRX_ADAPT_TIMERS.V.raw (nth p 2) ∧
      (bit (nth p 0) 0 = false → t.adapt.offer = none ∨ s.adapt.offer = none)) ∧
  Starts .lrxRplanLoad opLrxRplanLoad (fun p s => s.rplanRefusal (nth p 0) (loadWords (p.drop 1)) = none) (fun h p s t => t.ltx.loads = s.ltx.loads ++ [runOf h 0x030C p]) ∧
  Answers .lrxRplanGet opLrxRplanGet (fun p _ => nth p 0 ≤ 7) (fun p s => s.word LRX_RPLAN_ID.fields (nth p 0) :: s.rplanWords (nth p 0)) ∧
  (∀ h p s r es m, Accepted opLrxAdaptNow h p s → nth (p.map (·.toNat)) 0 = 1 → nativeMode s.txMode = true → s.adapt.report = some r → s.candidate r = some (es, m) →
    s.mayOffer = true → Completes (.lrxAdaptNow h p) s (fun t => t.replied h .ok ∧ t.rd LRX_ADAPT_STAT.PHASE = 1 ∧ t.rd LRX_ADAPT_STAT.LAST_PLAN = s.nextPlanId % 256 ∧
      (t.adapt.offer).map (·.words) = some (planFrom es)))

/-- The messages, timers and register writes of adaptation (R156 to R172): each completes with the effect its clause gives, where the condition its clause names holds.
Where the rules leave a form, code or order open it states the model's choice: log entries 9, 10, 20, 12, 67 to 70, 148, 154. -/
def Obligations.AdaptationEvents : Prop :=
  (∀ m s, s.takes m 2 → Completes (.lrxQTake m) s (fun t => t.lrx.qTake = true)) ∧
  (∀ s, s.lrx.qTake = true → Completes .lrxQSnapDone s (fun t => t.lrx.qTake = false ∧ t.lrx.qRuns = [] ∧ t.lrx.bankMargin = s.lrx.margin ∧
    t.rd LRX_Q_SNAP.GEN = (s.rd LRX_Q_SNAP.GEN + 1) % 2 ^ LRX_Q_SNAP.GEN.width)) ∧
  (∀ m tx rx s, s.takes m 2 → Completes (.adaptEnWrite m tx rx) s (fun t => t.on LRX_ADAPT_CFG.TX_EN = tx ∧ t.on LRX_ADAPT_CFG.RX_EN = rx ∧ (tx = false → t.adapt.offer = none))) ∧
  (∀ s, s.on LRX_ADAPT_CFG.RX_EN = true → nativeMode s.rxMode = true → s.quiet = false → Completes .snrReportSend s (fun t => t.lrx.uncorrRep = 0 ∧
    (s.sending = true → nativeMode s.txMode = true → s.sentAdapt t (fun w => nth w 1 == s.lrx.act) = true))) ∧
  (∀ pl d ns mg u s, s.inFrame = true → s.defect 3 0 = false → Completes (.snrReport true pl d ns mg u) s (fun t => (t.adapt.report).map (·.plan) = some pl.toNat ∧ (t.adapt.report).map (·.margin) = some mg.toNat)) ∧
  (∀ pl d ns mg u s, s.inFrame = true → s.defect 3 0 = false → Completes (.snrReport false pl d ns mg u) s (fun t => t.adapt = s.adapt ∧ t.lrx.adaptDrop = s.lrx.adaptDrop + 1)) ∧
  (∀ s, s.adapt.report.isSome = true → Completes .reportStale s (fun t => t.adapt.report = none ∧ t.adapt.lowRun = 0)) ∧
  (∀ sq id pv ws s, s.inFrame = true → s.defect 3 0 = false → s.on LRX_ADAPT_CFG.RX_EN = true → s.lrx.armed = none → s.lrx.verif = 0 → s.planProt id.toNat = false →
    planCheck s.rxMode s.rxN false id.toNat (loadWords ((List.range 16).map (fun k => (ws.getD k (0 : Word)).toNat))) = none →
    Completes (.offer true sq id pv ws) s (fun t => (s.rplanOf id.toNat = none → ∃ e < 8, t.rd LRX_RPLAN_ID.ID e = id.toNat) ∧
      (s.sending = true → nativeMode s.txMode = true → s.sentAdapt t (fun w => nth w 0 % 256 == 3 && nth w 1 == sq.toNat && nth w 2 == id.toNat) = true))) ∧
  (∀ sq id pv ws s, s.inFrame = true → s.defect 3 0 = false → s.on LRX_ADAPT_CFG.RX_EN = false → s.sending = true → nativeMode s.txMode = true →
    Completes (.offer true sq id pv ws) s (fun t => s.sentAdapt t (fun w => nth w 0 % 256 == 4 && nth w 3 == 1) = true)) ∧
  (∀ sq id o s, s.inFrame = true → s.defect 3 0 = false → s.adapt.offer = some o → o.seq = sq.toNat → o.id = id.toNat → s.localRefusal o.id o.words = none → s.sending = true →
    Completes (.held true sq id) s (fun t => t.adapt.offer = none ∧ t.adapt.committed = true ∧ t.rd LTX_STATUS.PLAN_PENDING = 1 ∧ t.rd LTX_PLAN_HDR.PLAN_ID 1 = id.toNat)) ∧
  (∀ sq id rs o s, s.inFrame = true → s.defect 3 0 = false → s.adapt.offer = some o → o.seq = sq.toNat → Completes (.refuse true sq id rs) s (fun t => t.adapt.offer = none ∧ t.adapt.backoff = true ∧ t.rd LRX_ADAPT_STAT.PHASE = 4)) ∧
  (∀ lv rt rs ws s, s.inFrame = true → s.defect 3 0 = false → lv.toNat = s.rd LTX_PLAN_HDR.PLAN_ID 0 → s.on LTX_STATUS.PLAN_PENDING = false → s.returnWords rt.toNat = some ws → s.sending = true →
    Completes (.rollbackReq true lv rt rs) s (fun t => t.adapt.verify = false ∧ t.adapt.backoff = true ∧ t.rd LTX_STATUS.PLAN_PENDING = 1 ∧ t.rd LTX_PLAN_HDR.PLAN_ID 1 = rt.toNat)) ∧
  (∀ o s, s.adapt.offer = some o → o.resends < 3 → Completes .offerReplyTimeout s (fun t => (t.adapt.offer).map (·.resends) = some (o.resends + 1))) ∧
  (∀ o s, s.adapt.offer = some o → 3 ≤ o.resends → Completes .offerReplyTimeout s (fun t => t.adapt.offer = none ∧ t.adapt.backoff = true)) ∧
  (∀ s, s.adapt.backoff = true → Completes .adaptBackoffEnd s (fun t => t.adapt.backoff = false ∧ t.rd LRX_ADAPT_STAT.BACKOFF_LEFT = 0)) ∧
  (∀ s, s.adapt.verify = true → Completes .verifyEnd s (fun t => t.adapt.verify = false))

/-- The calibration commands (Table 5.10): each, once accepted, completes with the reply and the effect its clause gives.
Where the rules leave a form, code or order open it states the model's choice: log entries 6, 7, 71 to 74, 146, 156. -/
def Obligations.CalibrationCommands : Prop :=
  Answers .calStatus opCalStatus (fun _ _ => True) (fun _ s => [s.word CNV_STATUS.fields] ++ (List.range 8).map (fun k => s.word CNV_FUSE_STAT.fields k) ++
    [s.word [CNV_REF_STAT.VDEV, CNV_REF_STAT.FDEV]]) ∧
  Does .calBgSet opCalBgSet (fun p _ => wordOk CNV_BG_CFG.fields (nth p 1) = true ∧ wordOk CNV_THR.fields (nth p 2) = true ∧ wordOk CNV_WTR.fields (nth p 3) = true)
    (fun _ p _ t => t.rd CNV_CTRL.BG_ADC = CNV_CTRL.BG_ADC.raw (nth p 0) ∧ t.rd CNV_BG_CFG.PERIOD = CNV_BG_CFG.PERIOD.raw (nth p 1) ∧
      t.rd CNV_THR.HANDOVER = CNV_THR.HANDOVER.raw (nth p 2) ∧ t.rd CNV_WTR.WTR = CNV_WTR.WTR.raw (nth p 3)) ∧
  Does .calRefSet opCalRefSet (fun p _ => 500000 ≤ nth p 0 ∧ nth p 0 ≤ 1250000 ∧ 1000000 ≤ nth p 1 ∧ nth p 1 ≤ 156250000)
    (fun _ p _ t => t.rd CNV_REF_CFG.VREF_UV = nth p 0 ∧ t.rd CNV_FREF_CFG.FREF_HZ = nth p 1) ∧
  (∀ v f, Starts (fun h p => .calRun h p v f) (opCalRun v.toInt f.toInt) (fun p s => 1 ≤ nth p 0 ∧ nth p 0 ≤ 7 ∧ 1 ≤ nth p 1 ∧ nth p 1 ≤ 10 ∧ s.on CNV_STATUS.FG_BUSY = false ∧ s.runOk (nth p 0) = true ∧
      s.on CNV_STATUS.REF_BAD = false)
    (fun h p _ t => t.rd CNV_STATUS.FG_BUSY = 1 ∧ t.cnv.fg = some (runOf h 0x0404 p) ∧
      t.on CNV_STATUS.REF_BAD = decide (2000 < v.toInt.natAbs ∨ 5000 < f.toInt.natAbs))) ∧
  Does .calAbort opCalAbort (fun _ s => s.cnv.fg.isSome = true) (fun _ _ s t => t.rd CNV_STATUS.FG_BUSY = 0 ∧ t.cnv.fg = none ∧ t.cnv.sets = s.cnv.sets) ∧
  (∀ v, Starts (fun h p => .calCommit h p v) (opCalCommit v) (fun p s => v = true ∧ 1 ≤ nth p 0 ∧ nth p 0 ≤ 255 ∧ s.on CNV_STATUS.FG_BUSY = false ∧ s.cnv.commit = none ∧ (0 ≤ s.pwr.tj ∧ s.pwr.tj ≤ 125) ∧
      ∀ k < 8, s.fuse.next k < 8)
    (fun h p s t => (t.cnv.commit).map (·.run) = some (runOf h 0x0406 p) ∧
      (t.cnv.commit).map (·.waits) = some s.cnv.stepping ∧ ((t.cnv.commit).bind (·.cur)).isSome = !s.cnv.stepping)) ∧
  Does .calExport opCalExport (fun p _ => nth p 0 ≤ 7) (fun h p s t => t.draws = s.draws + 1 ∧ t.fuse = s.fuse ∧ t.cnv = s.cnv ∧
    (s.plain → (t.payload h).take (setLen (nth p 0) + 7) = (s.recordWords (nth p 0)).map (· % 2 ^ 32))) ∧
  (∀ h p s, Accepted opCalLoad h p s → s.on CNV_STATUS.FG_BUSY = false → nth (p.map (·.toNat)) 1 + nth (p.map (·.toNat)) 2 * 2 ^ 32 = s.fuse.devId →
    bits (nth (p.map (·.toNat)) 0) 24 8 ≤ 7 → bits (nth (p.map (·.toNat)) 0) 20 4 = 1 →
    bits (nth (p.map (·.toNat)) 0) 0 16 = setLen (bits (nth (p.map (·.toNat)) 0) 24 8) → p.length = setLen (bits (nth (p.map (·.toNat)) 0) 24 8) + 31 →
    bits (nth (p.map (·.toNat)) 0) 16 4 = (s.fuse.latest (bits (nth (p.map (·.toNat)) 0) 24 8)).getD 0xF → s.setIdle (bits (nth (p.map (·.toNat)) 0) 24 8) = true →
    Completes (.calLoad h p) s (fun t =>
      if Config.ecdsaOk keyCK (Config.sha384 ((p.map (·.toNat)).take (p.length - 24))) ((p.map (·.toNat)).drop (p.length - 24)) = true
      then t.replied h .ok ∧ t.rd CNV_FUSE_STAT.SOURCE (bits (nth (p.map (·.toNat)) 0) 24 8) = 3 ∧ t.rd CNV_FUSE_STAT.REFINED (bits (nth (p.map (·.toNat)) 0) 24 8) = 0 ∧
        Tab.get {} t.cnv.sets (bits (nth (p.map (·.toNat)) 0) 24 8) =
          setFrom (((p.map (·.toNat)).drop 7).take (setLen (bits (nth (p.map (·.toNat)) 0) 24 8))) ((p.map (·.toNat)).drop 3)
      else t.replied h .auth ∧ t.cnv = s.cnv)) ∧
  Starts .calQuality opCalQuality (fun _ _ => True) (fun h p s t => t.cnv.qTake = true ∧ t.cnv.qRuns = s.cnv.qRuns ++ [runOf h 0x0409 p]) ∧
  (∀ v, Does (fun h p => .calSlice h p v) (opCalSlice v.toInt) (fun p s => nth p 0 ≤ 3 ∧ nth p 1 ≤ 1 ∧ nth p 2 ≤ 65 ∧ nth p 3 = 0 ∧ (s.cnv.slice (66 * (2 * nth p 0 + nth p 1) + nth p 2)).role = 0)
    (fun _ p _ t => (t.cnv.slice (66 * (2 * nth p 0 + nth p 1) + nth p 2)).role = 4 ∧ (t.cnv.slice (66 * (2 * nth p 0 + nth p 1) + nth p 2)).phase = 255)) ∧
  (∀ v, Does (fun h p => .calSlice h p v) (opCalSlice v.toInt) (fun p s => nth p 0 ≤ 3 ∧ nth p 1 ≤ 1 ∧ nth p 2 ≤ 65 ∧ nth p 3 = 1 ∧ (s.cnv.slice (66 * (2 * nth p 0 + nth p 1) + nth p 2)).role = 4)
    (fun _ p _ t => (t.cnv.slice (66 * (2 * nth p 0 + nth p 1) + nth p 2)).role = 5))

/-- The events and register writes of Try-square (R186 to R210): each completes with the effect its clause gives, where the condition its clause names holds.
Where the rules leave a form, code or order open it states the model's choice: log entries 9, 10, 20, 71 to 74, 146, 156. -/
def Obligations.CalibrationEvents : Prop :=
  (∀ r k ws en fg s, s.cnv.fg = some r → (runSets (nth r.par 0)).contains k = true → Completes (.calFgDone ws en fg) s
    (fun t => t.rd CNV_STATUS.FG_BUSY = 0 ∧ t.cnv.fg = none ∧ t.rd CNV_FUSE_STAT.SOURCE k = 4 ∧ t.rd CNV_FUSE_STAT.REFINED k = 0 ∧
      (Tab.get {} t.cnv.sets k).words = s.runWords (nth r.par 0) k (((ws.find? (fun e => e.1.val == k)).map (·.2.map (·.toNat))).getD []))) ∧
  (∀ r s, s.cnv.fg = some r → Completes .fgTimeout s (fun t => t.rd CNV_STATUS.FG_BUSY = 0 ∧ t.cnv.fg = none ∧ t.cnv.sets = s.cnv.sets)) ∧
  (∀ c w s, s.cnv.commit = some c → c.cur = some w → s.fuseTj = true → Completes (.fuseRowWriteDone true) s
    (fun t => t.fuse.rowOf w.set w.row = reRow w.set w.row w.words ++ [0xA5C30000 + w.set * 0x100 + w.row])) ∧
  (∀ c w s, s.cnv.commit = some c → c.cur = some w → w.retry = false → w.row < 7 → s.fuseTj = true → Completes (.fuseRowWriteDone false) s
    (fun t => t.fuse.rowOf w.set w.row = reRow w.set w.row w.words ∧ ((t.cnv.commit).bind (·.cur)).map (fun x => (x.row, x.retry)) = some (w.row + 1, true))) ∧
  (∀ b c w s, s.cnv.commit = some c → c.cur = some w → s.fuseTj = false → Completes (.fuseRowWriteDone b) s
    (fun t => t.fuse.rowOf w.set w.row = reRow w.set w.row w.words ∧ t.cnv.commit = none)) ∧
  (∀ n k c w s, s.cnv.commit = some c → c.cur = some w → Completes (.fuseVddLoss n k) s
    (fun t => t.fuse.rowOf w.set w.row = cutRow w n k ∧ t.cnv.commit = none)) ∧
  (∀ m s, s.takes m 3 → Completes (.cnvQTake m) s (fun t => t.cnv.qTake = true)) ∧
  (∀ s, s.cnv.qTake = true → s.cnv.stepping = false → Completes .cnvQSnapDone s (fun t => t.cnv.qTake = false ∧ t.cnv.qRuns = [] ∧ t.rd CNV_Q_SNAP.GEN = (s.rd CNV_Q_SNAP.GEN + 1) % 2 ^ CNV_Q_SNAP.GEN.width)) ∧
  (∀ s, s.cnv.pass = false → s.bgOn 0 = true → Completes .calPassStart s (fun t => t.cnv.pass = true ∧ t.cnv.passAt = s.tick ∧ t.cnv.passTj = s.pwr.tj)) ∧
  (∀ m n r s, s.cnv.pass = true → s.bgOn m.val = true → Tab.get none s.cnv.steps m.val = none → s.cnv.commit = none → s.cnv.nextActive m.val = some n → s.cnv.oldestSpare m.val = some r →
    Completes (.sliceStepStart m) s (fun t => Tab.get none t.cnv.steps m.val = some ⟨n, r, 0, none⟩ ∧ (t.cnv.slice r).role = 3)) ∧
  (∀ m z d pin st s, Tab.get none s.cnv.steps m.val = some st → st.onBus = none → st.sel ≠ st.spare → s.handoverOk d pin = true →
    Completes (.sliceHandover m z d pin) s (fun t => (t.cnv.slice st.spare).phase = (s.cnv.slice st.sel).phase ∧ (t.cnv.slice st.spare).role = 0 ∧ (t.cnv.slice st.sel).role = 2)) ∧
  (∀ m g o f a b c n s, Tab.get none s.cnv.steps m.val = some ⟨a, b, c, some n⟩ → Completes (.sliceCalDone m g o f) s
    (fun t => Tab.get none t.cnv.steps m.val = none ∧ (t.cnv.slice n).phase = 255 ∧
      (t.cnv.slice n).role = if g.toInt.natAbs ≤ 450 ∧ o.toInt.natAbs ≤ 448 then 1 else 4)) ∧
  (∀ n x z s, (s.cnv.slice n.val).role = 0 → (x.val ≠ 0 ∨ s.timingBad n.val = true) → Completes (.sliceFault n x z) s (fun t => (t.cnv.slice n.val).role = 4 ∧ (t.cnv.slice n.val).phase = 255)) ∧
  (∀ n s, (s.cnv.slice n.val).role = 4 → Completes (.sliceRetest n true) s (fun t => (t.cnv.slice n.val).role = 5)) ∧
  (∀ n z ds s, (s.cnv.slice n.val).role = 5 → (s.cnv.slice n.val).lost = 255 → Completes (.sliceReturn n z ds) s (fun t => (t.cnv.slice n.val).role = 1)) ∧
  (∀ n z ds s, (s.cnv.slice n.val).role = 5 → (s.cnv.slice n.val).lost ≠ 255 → (ds.take 2).any (fun d => s.handoverOk d.1 d.2) = true →
    Completes (.sliceReturn n z ds) s (fun t => (t.cnv.slice n.val).role = 3 ∧ t.cnv.rets = s.cnv.rets ++ [n.val])) ∧
  (∀ v f s, Completes (.refCheck v f) s (fun t => t.on CNV_STATUS.REF_BAD = decide (2000 < v.toInt.natAbs ∨ 5000 < f.toInt.natAbs))) ∧
  (∀ u g o z zs s, u.val < 4 → s.bgOn (2 * u.val) = true → Completes (.bgEstimatorUpdate 3 u g o z zs) s
    (fun t => (t.cnv.setWords 6).getD u.val 0 = w32 (clampI (-500) 500 (ofPat 32 ((s.cnv.setWords 6).getD u.val 0) +
      clampI (-1) 1 (s.skewWanted u.val - ofPat 32 ((s.cnv.setWords 6).getD u.val 0)))))) ∧
  (∀ u g o z zs s, bit (s.rd CNV_CTRL.BG_DAC) (u.val / 2) = true → s.suspended true = false → Completes (.bgEstimatorUpdate 2 u g o z zs) s
    (fun t => (t.cnv.setWords 4).getD u.val 0 = mkHalfWord (wordGain ((s.cnv.setWords 4).getD u.val 0) + clampI (-1) 1 g.toInt)
      (wordOffset ((s.cnv.setWords 4).getD u.val 0) + clampI (-1) 1 o.toInt) (wordTiming ((s.cnv.setWords 4).getD u.val 0) + clampI (-5) 5 z.toInt)))

/-- The FEC commands (Table 6.6): each, once accepted, completes with the reply and the effect its clause gives.
Where the rules leave a form, code or order open it states the model's choice: log entries 6, 7, 14, 75 to 79, 145, 147, 149, 153. -/
def Obligations.FecCommands : Prop :=
  Does .fecCfg opFecCfg (fun p _ => wordOk FEC_DEC_CFG.fields (nth p 1) = true ∧ wordOk [FEC_LLR_CFG.GAIN] (nth p 2) = true ∧ wordOk FEC_DEG_SET.fields (nth p 3) = true ∧
      wordOk FEC_DEG_CLR.fields (nth p 4) = true ∧ degWordsOk (nth p 3) (nth p 4) = true)
    (fun _ p _ t => t.rd FEC_CTRL.EARLY_STOP = FEC_CTRL.EARLY_STOP.raw (nth p 0) ∧ t.rd FEC_DEC_CFG.ITER_MAX = FEC_DEC_CFG.ITER_MAX.raw (nth p 1) ∧
      t.rd FEC_DEG_SET.MANT = FEC_DEG_SET.MANT.raw (nth p 3) ∧ t.rd FEC_DEG_CLR.MANT = FEC_DEG_CLR.MANT.raw (nth p 4)) ∧
  Answers .fecStatus opFecStatus (fun _ _ => True) (fun _ s => [s.fecStatus, s.word [FEC_SEC_BER.MANT, FEC_SEC_BER.EXP], s.fec.lastUncorr, s.fec.lastDm]) ∧
  Does .fecCounters opFecCounters (fun p _ => nth p 0 ≤ 65535) (fun _ _ s t => t.snapGen = s.nextGen ∧ t.bank = s.bank) ∧
  Does .fecInject opFecInject (fun p _ => wordOk FEC_INJ.fields (nth p 0) = true)
    (fun _ p _ t => t.rd FEC_INJ.MODE = FEC_INJ.MODE.raw (nth p 0) ∧ t.rd FEC_INJ.SC_MASK = FEC_INJ.SC_MASK.raw (nth p 0)) ∧
  (∀ h p s ws, Accepted opFecGeometry h p s → s.plain → nth (p.map (·.toNat)) 1 = 0 → s.txHeld (nth (p.map (·.toNat)) 0) = some ws → nth (p.map (·.toNat)) 2 < 16 →
    scEn (ws.getD (nth (p.map (·.toNat)) 2) 0) = true → Completes (.fecGeometry h p) s (fun t => t.replied h .ok ∧
      t.payload h = (geometry (ws.getD (nth (p.map (·.toNat)) 2) 0) (nth (p.map (·.toNat)) 3)).map (· % 2 ^ 32)))

/-- The events and register writes of the FEC (R57, R58, R223, R231 to R243): each completes with the effect its clause gives, where the condition its clause names holds.
Where the rules leave a form, code or order open it states the model's choice: log entries 9, 10, 20, 14, 75 to 79, 145, 147, 149, 153. -/
def Obligations.FecEvents : Prop :=
  (∀ m s, s.takes m 4 → Completes (.fecCntClr m) s (fun t => ∀ k < 16, ∀ c < 7, t.cnt (fecCnt k c) = 0)) ∧
  (∀ m s, s.takes m 4 → s.dev = 4 → s.rd FEC_INJ.MODE = 2 → Completes (.fecOneShot m) s (fun t => t.fec.shot = s.rd FEC_INJ.SC_MASK ∧ t.fec.shotDue = s.rd FEC_INJ.SC_MASK)) ∧
  (∀ s, s.fec.shot ≠ 0 → Completes .fecInjDone s (fun t => t.fec.shot = 0 ∧ t.fec.shotDue = 0)) ∧
  (∀ net held k j acc blk s, s.sending = true → nativeMode s.txMode = true → net.length = 42000 → held < bufCap → s.dev ≠ 4 →
    takePos (s.bankWords 0) (fitsIn s.payloadEnd) (rho (otucOf s.txMode s.txN) (sumE (s.bankWords 0))) s.ltx.acc s.ltx.blk = some (k, j, acc, blk) →
    Completes (.fecBlockEncode net held) s (fun t => t.ltx.acc = acc ∧ t.ltx.blk = blk ∧ t.out = Output.block k j (s.blockLevels k j net) :: s.out)) ∧
  (∀ net held s, s.sending = true → interopMode s.txMode = true → held < bufCap → s.dev ≠ 4 →
    Completes (.fecBlockEncode net held) s (fun t => Tab.get 0 t.ltx.blk 0 = Tab.get 0 s.ltx.blk 0 + 1 ∧
      t.out = Output.block 0 (Tab.get 0 s.ltx.blk 0) (s.carrierLevels net) :: s.out)) ∧
  (∀ net held s, s.sending = true → nativeMode s.txMode = true → net.length = 42000 → bufCap ≤ held →
    Completes (.fecBlockEncode net held) s (fun t => t.cnt 34 = (s.cnt 34 + 1) % 2 ^ 48 ∧ t.out = s.out)) ∧
  (∀ ys held k j acc blk s, s.rxPlace = some (k, j, acc, blk) → demapCap ≤ held →
    Completes (.fecBlockDecode ys held) s (fun t => t.cnt 35 = (s.cnt 35 + 1) % 2 ^ 48 ∧ t.lrx.acc = acc ∧ t.lrx.blk = blk)) ∧
  (∀ ys held k j acc blk s, s.rxPlace = some (k, j, acc, blk) → held < demapCap → s.stage ≠ 10 →
    Completes (.fecBlockDecode ys held) s (fun t => t.lrx.acc = acc ∧ t.lrx.blk = blk ∧
      t.out = .net k true (List.replicate (if nativeMode s.rxMode then 42000 else (s.carrierDec (s.placeWords k j ys)).1.length) false) :: s.out)) ∧
  (∀ ys held k j acc blk s, s.rxPlace = some (k, j, acc, blk) → held < demapCap → s.stage = 10 → nativeMode s.rxMode = true →
    Completes (.fecBlockDecode ys held) s (fun t => t.lrx.acc = acc ∧ t.lrx.blk = blk ∧ t.cnt (fecCnt k 0) = (s.cnt (fecCnt k 0) + 1) % 2 ^ 48 ∧
      if (s.placeWords k j ys).all (· == 0) = true then t.out = .net k true (List.replicate 42000 false) :: s.out
      else t.out = .net k (!(s.nativeResult k j (s.placeWords k j ys)).synOk || (s.nativeResult k j (s.placeWords k j ys)).dmFail)
        (s.nativeResult k j (s.placeWords k j ys)).net :: s.out)) ∧
  (∀ ys held k j acc blk s, s.rxPlace = some (k, j, acc, blk) → held < demapCap → s.stage = 10 → nativeMode s.rxMode = false →
    Completes (.fecBlockDecode ys held) s (fun t => t.lrx.acc = acc ∧ t.lrx.blk = blk ∧
      if (s.placeWords k j ys).all (· == 0) = true then t.cnt (fecCnt k 4) = (s.cnt (fecCnt k 4) + 1) % 2 ^ 48
      else t.out = .net 0 (s.carrierDec (s.placeWords k j ys)).2 (s.carrierDec (s.placeWords k j ys)).1 :: s.out))

/-- The framing commands (R276, Table 7.7): each, once accepted, completes with the reply and the effect its clause gives.
Where the rules leave a form, code or order open it states the model's choice: log entries 6, 7, 15, 16, 19, 80 to 83, 155. -/
def Obligations.FramingCommands : Prop :=
  Does .frmCfg opFrmCfg (fun p _ => wordOk FRM_DOVE_CFG.fields (nth p 0) = true ∧ wordOk FRM_DEF_CFG.fields (nth p 1) = true ∧ wordOk FRM_DEG_CFG.fields (nth p 2) = true ∧
      wordOk FRM_CA_CFG.fields (nth p 3) = true)
    (fun _ p _ t => t.rd FRM_DOVE_CFG.M = FRM_DOVE_CFG.M.raw (nth p 0) ∧ t.rd FRM_DEF_CFG.LOF_SET = FRM_DEF_CFG.LOF_SET.raw (nth p 1) ∧
      t.rd FRM_DEG_CFG.DEG_M = FRM_DEG_CFG.DEG_M.raw (nth p 2) ∧ t.rd FRM_CA_CFG.TIM_MODE = FRM_CA_CFG.TIM_MODE.raw (nth p 3)) ∧
  Answers .frmStatus opFrmStatus (fun _ _ => True) (fun _ s => [s.frmStatus, s.word [FRM_DOVE_STAT.CANDS, FRM_DOVE_STAT.BLK_OFS]] ++
    (List.range 4).flatMap (fun k => s.bankWords64 (256 + k))) ∧
  Answers .frmPmGet opFrmPmGet (fun p _ => nth p 0 ≤ 33 ∧ 1 ≤ nth p 1 ∧ nth p 1 ≤ 900)
    (fun p s => (s.frm.recs.take (nth p 1)).flatMap (fun r => w64 r.time ++ [r.frames] ++ r.layers.getD (nth p 0) [0, 0, 0, 0])) ∧
  Does .frmTtiSet opFrmTtiSet (fun p _ => nth p 0 ≤ 1) (fun _ p _ t => Tab.get [] t.frm.ttiTx (nth p 0) = bytesOf ((p.drop 1).take 16) ∧
    Tab.get [] t.frm.ttiExp (nth p 0) = bytesOf ((p.drop 17).take 16)) ∧
  Answers .frmTtiGet opFrmTtiGet (fun p _ => nth p 0 ≤ 1) (fun p s => packBytes ((s.frm.layer (nth p 0)).ttiAcc.getD [])) ∧
  Does .frmOhcCfg opFrmOhcCfg (fun p s => nth p 0 ≤ 2 ∧ wordOk FRM_OHC_ROUTE.fields (nth p 2) = true ∧ s.routeOk (nth p 2) = true)
    (fun _ p _ t => t.rd FRM_OHC_CFG.SLICE_MASK (nth p 0) = nth p 1 % 2 ^ FRM_OHC_CFG.SLICE_MASK.width ∧
      t.rd FRM_OHC_ROUTE.RX_DEST (nth p 0) = FRM_OHC_ROUTE.RX_DEST.raw (nth p 2) ∧ t.rd FRM_OHC_ROUTE.TX_SRC (nth p 0) = FRM_OHC_ROUTE.TX_SRC.raw (nth p 2)) ∧
  Does .frmOhcXfer opFrmOhcXfer (fun p s => nth p 0 ≤ 2 ∧ nth p 1 = 2 ∧ s.rd FRM_OHC_ROUTE.TX_SRC (nth p 0) = 1)
    (fun _ p s t => (t.frm.ohc (nth p 0)).txEng = (s.frm.ohc (nth p 0)).txEng ++ (bytesOf (p.drop 2)).take (1024 - (s.frm.ohc (nth p 0)).txEng.length)) ∧
  Answers .frmOhcXfer opFrmOhcXfer (fun p s => nth p 0 ≤ 2 ∧ nth p 1 = 1 ∧ s.rd FRM_OHC_ROUTE.RX_DEST (nth p 0) = 1) (fun p s => packBytes (s.frm.ohc (nth p 0)).rxEng ++ [0])

/-- Dovetail, the defects, frames and seconds (R254 to R271): each completes with the effect its clause gives, where the condition its clause names holds.
Where the rules leave a form, code or order open it states the model's choice: log entries 9, 10, 20, 15, 16, 19, 80 to 83, 155. -/
def Obligations.FramingEvents : Prop :=
  (∀ m s, s.takes m 5 → Completes (.frmCntClr m) s (fun t => ∀ k < 4, t.cnt (256 + k) = 0)) ∧
  (∀ m s, s.takes m 5 → Completes (.frmResync m) s (fun t => t.frm.cands = [] ∧ t.rd FRM_STATUS.OOF = 1 ∧ t.rd FRM_STATUS.IM = 0 ∧ t.rd FRM_STATUS.DOVE = 0)) ∧
  (∀ o b mk s, s.rxMode ≠ 0 → s.inFrame = false → s.frm.cands = [] → s.frm.window = false → s.frameBits ≠ 0 → Completes (.fasDetect o b mk) s
    (fun t => t.frm.cands = [⟨o % s.frameBits, b, s.agrees b mk, 1, s.rd FRM_DOVE_CFG.N, false⟩] ∧ t.rd FRM_DOVE_STAT.CANDS = 1 ∧ t.rd FRM_STATUS.DOVE = 1)) ∧
  (∀ o c s, s.frm.cands.find? (fun c => c.off == o) = some c → c.done = false → Completes (.candidateCheck o false) s
    (fun t => t.cnt 257 = (s.cnt 257 + 1) % 2 ^ 48 ∧ t.frm.cands = s.frm.cands.filter (fun d => d.off != o))) ∧
  (∀ w s, s.frm.window = true → (s.frm.cands.filter (·.done)).filter (·.agree) = [w] → Completes .resolutionWindowEnd s
    (fun t => t.inFrame = true ∧ t.rd FRM_STATUS.OOF = 0 ∧ t.frm.inOff = w.off ∧ t.frm.cands = [])) ∧
  (∀ s, s.inFrame = true → Completes (.inFrameCheck true) s (fun t => t.frm.miss = 0 ∧ t.rd FRM_STATUS.DOVE = 3)) ∧
  (∀ s, s.inFrame = true → s.rd FRM_DOVE_CFG.M ≤ s.frm.miss + 1 → Completes (.inFrameCheck false) s
    (fun t => t.inFrame = false ∧ t.rd FRM_STATUS.OOF = 1 ∧ t.cnt 258 = (s.cnt 258 + 1) % 2 ^ 48)) ∧
  (∀ f s, s.inFrame = true → Completes (.rxFrame f) s (fun t => t.frm.frames = s.frm.frames + 1 ∧
    (bufCap ≤ f.held → t.cnt 36 = (s.cnt 36 + 1) % 2 ^ 48 ∧ (t.frm.layer 0).bipv = (s.frm.layer 0).bipv + 1) ∧
    (f.held < bufCap → interopMode s.rxMode = false → (t.frm.layer 0).bipv = (s.frm.layer 0).bipv +
      (s.violations ((f.slices.map (fun x => scramble (x.map (·.toNat)))).map (byteAt · 1 9))).foldl (· + ·) 0))) ∧
  (∀ held w e s, s.sending = true → nativeMode s.txMode = true → Completes (.txFrame held w e) s (fun t => t.frm.txMfas = (s.frm.txMfas + 1) % 256 ∧
    t.frm.txFrames = s.frm.txFrames + 1 ∧ t.cnt 33 = (if bufCap ≤ held then (s.cnt 33 + 1) % 2 ^ 48 else s.cnt 33) ∧
    t.cnt 32 = (if w.any (fun x => decide (bufCap ≤ x.2)) = true then (s.cnt 32 + (w.filter (fun x => decide (bufCap ≤ x.2))).length) % 2 ^ 48 else s.cnt 32))) ∧
  (∀ held w s, s.sending = true → interopMode s.txMode = true → nativeMode s.txMode = false → Completes (.txFrame held w []) s (fun t => t.out =
    .slices [Config.interopMap s.txMode ((s.channels.filter s.carried).map (fun k =>
      if s.ingSignal k = true then faultBlocks (max 1 (Tab.get [] s.cli.blocks k).length) else Tab.get [] s.cli.blocks k))] :: s.out)) ∧
  (∀ s, s.on LRX_STATUS.SIG_PRESENT = true → s.on LTX_LAS_STAT.FAIL s.loPort = false → Completes .losClear s (fun t => t.defect 1 0 = false)) ∧
  (∀ s, s.inFrame = false → s.on LRX_CTRL.RX_EN = true → s.frm.defects = [] → Completes .lofDeclare s (fun t => t.defect 3 0 = true)) ∧
  (∀ s, s.inFrame = true → Completes .lofClear s (fun t => t.defect 3 0 = false)) ∧
  (∀ s, s.on FRM_STATUS.IM = false → nativeMode s.rxMode = true → s.on LRX_CTRL.RX_EN = true → s.frm.defects = [] → Completes .lomDeclare s (fun t => t.defect 4 0 = true)) ∧
  (∀ s, s.on FRM_STATUS.IM = true → Completes .lomClear s (fun t => t.defect 4 0 = false)) ∧
  (∀ s, Completes .pmSecond s (fun t => t.frm.frames = 0 ∧ t.rd FRM_PM_CTRL.GEN = (s.rd FRM_PM_CTRL.GEN + 1) % 2 ^ FRM_PM_CTRL.GEN.width ∧
    (t.frm.recs.head?).map (·.frames) = some s.frm.frames))

/-- The client commands (Table 8.7): each, once accepted, completes with the reply and the effect its clause gives.
Where the rules leave a form, code or order open it states the model's choice: log entries 6, 7, 17, 18, 84 to 86, 155. -/
def Obligations.ClientCommands : Prop :=
  Does .cliAdd opCliAdd (fun p s => p.length = 4 + slotWords (nth p 2) (nth p 3) ∧ nth p 0 ≤ 31 ∧ s.chOn (nth p 0) = false ∧ nth p 2 ≤ 1 ∧
      s.typeOk (nth p 0) (CLI_CH_CFG.TYPE.raw (nth p 1)) = true ∧
      (laneGroup (CLI_CH_CFG.TYPE.raw (nth p 1)) (CLI_CH_CFG.RATE.raw (nth p 1)) (CLI_CH_CFG.M.raw (nth p 1)) (CLI_CH_CFG.LANE_BASE.raw (nth p 1))).any (fun ls => ls.all (fun n => !s.heldLanes.contains n)) = true ∧
      (s.pickSlots none (s.chBound (nth p 0)) (CLI_CH_CFG.TYPE.raw (nth p 1)) (CLI_CH_CFG.M.raw (nth p 1)) (nth p 2 == 1) (nth p 3)
        (unpackHalves (nth p 3) (p.drop 4))).isOk = true)
    (fun _ p _ t => t.chOn (nth p 0) = true ∧ t.rd CLI_CH_CFG.TYPE (nth p 0) = CLI_CH_CFG.TYPE.raw (nth p 1) ∧ t.rd CLI_CH_CTRL.LOOP (nth p 0) = 0) ∧
  Does .cliRemove opCliRemove (fun p s => nth p 0 ≤ 31 ∧ s.chOn (nth p 0) = true ∧ s.cli.move = none)
    (fun _ p _ t => t.chOn (nth p 0) = false ∧ t.rd CLI_CH_CFG.TYPE (nth p 0) = 0 ∧ t.rd CLI_CH_CFG.SLOTS (nth p 0) = 0) ∧
  Does .cliMove opCliMove (fun p s => p.length = 3 + slotWords (nth p 1) (nth p 2) ∧ nth p 0 ≤ 31 ∧ nth p 1 ≤ 1 ∧ s.chOn (nth p 0) = true ∧ s.cli.move = none ∧
      (s.pickSlots (some (nth p 0)) (s.chBound (nth p 0)) (s.rd CLI_CH_CFG.TYPE (nth p 0)) (s.rd CLI_CH_CFG.M (nth p 0)) (nth p 1 == 1) (nth p 2)
        (unpackHalves (nth p 2) (p.drop 3))).isOk = true)
    (fun _ p s t => t.cli.ver = (s.cli.ver + 1) % 256 ∧
      (s.sending = true → t.cli.move.map (·.sf) = some ((s.rd LTX_SF_NUM.ALL + 17) % 65536) ∧ t.rd CLI_MOVE_STAT.PENDING = 1 ∧ t.rd CLI_MOVE_STAT.CD = 17) ∧
      (s.sending = false → t.cli.move = none ∧ t.rd CLI_MOVE_STAT.TARGET_SF = 0xFFFF ∧ t.rd CLI_MOVE_STAT.PENDING = 0) ∧ t.rd CLI_MOVE_STAT.CHANNEL = nth p 0 % 2 ^ CLI_MOVE_STAT.CHANNEL.width) ∧
  Does .cliMoveCancel opCliMoveCancel (fun _ s => s.cli.move ≠ none ∧ 4 ≤ s.rd CLI_MOVE_STAT.CD)
    (fun _ _ _ t => t.cli.move = none ∧ t.rd CLI_MOVE_STAT.PENDING = 0 ∧ t.rd CLI_MOVE_STAT.CD = 0) ∧
  Answers .cliStatus opCliStatus (fun _ _ => True) (fun p s => [s.cliStatus, s.word CLI_MOVE_STAT.fields] ++
    (bitsSet 32 (nth p 0)).flatMap (fun t => [s.word CLI_CH_CFG.fields t, s.word CLI_CH_STAT.fields t, s.rd CLI_CH_SKEW.ALL t])) ∧
  Does .cliCounters opCliCounters (fun _ _ => True) (fun _ _ s t => t.snapGen = s.nextGen ∧ t.bank = s.bank) ∧
  Does .cliTsCfg opCliTsCfg (fun p _ => nth p 0 ≤ 31 ∧ CLI_TS_ADJ_IN.ALL.inRange (nth p 1) = true ∧ CLI_TS_ADJ_EG.ALL.inRange (nth p 2) = true)
    (fun _ p _ t => t.rd CLI_TS_ADJ_IN.ALL (nth p 0) = nth p 1 % 2 ^ CLI_TS_ADJ_IN.ALL.width ∧ t.rd CLI_TS_ADJ_EG.ALL (nth p 0) = nth p 2 % 2 ^ CLI_TS_ADJ_EG.ALL.width) ∧
  Does .cliLoop opCliLoop (fun p s => nth p 0 ≤ 31 ∧ nth p 1 ≤ 2 ∧ s.chOn (nth p 0) = true)
    (fun _ p _ t => t.rd CLI_CH_CTRL.LOOP (nth p 0) = nth p 1 ∧ (nth p 1 = 2 → t.rd CLI_CH_STAT.LF_OUT (nth p 0) = 1)) ∧
  Answers .cliSlotMap opCliSlotMap (fun _ _ => True) (fun _ s => (List.range s.modeSlots).map (fun q =>
    s.rd CLI_TS_OWNER.OWNER q + 256 * s.rd CLI_TS_OWNER.PEND q + 65536 * s.rd CLI_RX_MSI.CHAN q + 16777216 * s.rd CLI_RX_MSI.OCC q))

/-- Received maps, ingress failures and the slip buffers (R292, R295, R300, R302, R309, R314): each completes with the effect its clause gives, where the condition its clause names holds.
Where the rules leave a form, code or order open it states the model's choice: log entries 9, 10, 20, 17, 18, 84 to 86, 155. -/
def Obligations.ClientEvents : Prop :=
  (∀ m s, s.takes m 6 → Completes (.cliCntClr m) s (fun t => ∀ k < 128, t.cnt (288 + k) = 0)) ∧
  (∀ r s, nativeMode s.rxMode = true → s.inFrame = true → s.on FRM_STATUS.IM = true → s.channels = [] → r.length = 6 →
    crc8 ((r.map (·.toNat)).take 5) = nth (r.map (·.toNat)) 5 → bit (nth (r.map (·.toNat)) 4) 0 = false →
    Completes (.psiMultiframe [] [] r) s (fun t => t.cli.rxMove = none ∧ t.cli.rxVer = some (nth (r.map (·.toNat)) 1))) ∧
  (∀ k why lane skew errs s, s.chOn k.val = true → s.rd CLI_CH_CFG.TYPE k.val ≠ 7 → Completes (.clientIngressFail k why lane skew errs) s
    (fun t => t.rd CLI_CH_STAT.ING_FAIL k.val = 1 ∧ (why.val = 1 → t.rd CLI_CH_SKEW.ALL k.val = skew.toNat))) ∧
  (∀ k skew s, s.chOn k.val = true → 10000 < skew.toNat → Completes (.ingressFailClear k skew) s (fun t => t = s)) ∧
  (∀ k skew s, s.chOn k.val = true → skew.toNat ≤ 10000 → Completes (.ingressFailClear k skew) s (fun t => t.rd CLI_CH_STAT.ING_FAIL k.val = 0 ∧
    t.rd CLI_CH_SKEW.ALL k.val = skew.toNat ∧ t.rd CLI_CH_STAT.SKEW k.val = 0 ∧
    (s.rd CLI_CH_STAT.STATE k.val = 4 → t.rd CLI_CH_STAT.STATE k.val = 2))) ∧
  (∀ k s, s.chOn k.val = true → s.rd CLI_CH_STAT.STATE k.val = 2 → s.on CLI_CH_STAT.ING_FAIL k.val = false → s.fillTrib k.val = false → s.carried k.val = true →
    Completes (.clientUp k) s (fun t => t.rd CLI_CH_STAT.STATE k.val = 3 ∧ t.cnt (1024 + EV.CLIENT_UP.x) = (s.cnt (1024 + EV.CLIENT_UP.x) + 1) % 2 ^ 48)) ∧
  (∀ k f s, s.isCbr k.val = true → s.on CLI_CH_STAT.ING_FAIL k.val = false → s.rd CLI_CH_CTRL.LOOP k.val = 0 → (Tab.get [] s.cli.ing k.val).length < 3 → Completes (.clientFrameIngress k f []) s
    (fun t => Tab.get [] t.cli.ing k.val = Tab.get [] s.cli.ing k.val ++ [f.map (·.toNat)])) ∧
  (∀ k f s, s.isCbr k.val = true → s.on CLI_CH_STAT.ING_FAIL k.val = false → s.rd CLI_CH_CTRL.LOOP k.val = 0 → 3 ≤ (Tab.get [] s.cli.ing k.val).length → Completes (.clientFrameIngress k f []) s
    (fun t => Tab.get [] t.cli.ing k.val = (Tab.get [] s.cli.ing k.val).drop 1 ++ [f.map (·.toNat)] ∧ t.cnt (cliCnt k.val 2) = (s.cnt (cliCnt k.val 2) + 1) % 2 ^ 48)) ∧
  (∀ k s, s.isCbr k.val = true → s.on CLI_CH_STAT.LF_OUT k.val = true → Completes (.clientFrameEgress k) s (fun t => t.out = .client k.val 1 (s.aisNext k.val true) :: s.out)) ∧
  (∀ k s, s.isCbr k.val = true → s.on CLI_CH_STAT.LF_OUT k.val = false → Tab.get [] s.cli.eg k.val = [] → Completes (.clientFrameEgress k) s
    (fun t => Output.client k.val 0 (Tab.get [] s.cli.egLast k.val) ∈ s.sentSince t ∧ t.cnt (cliCnt k.val 3) = (s.cnt (cliCnt k.val 3) + 1) % 2 ^ 48))

/-- The serial lane commands (Table 9.7): each, once accepted, completes with the reply and the effect its clause gives.
Where the rules leave a form, code or order open it states the model's choice: log entries 6, 7, 87, 88, 147. -/
def Obligations.LaneCommands : Prop :=
  Does .srdLaneSet opSrdLaneSet (fun p _ => nth p 1 ≤ 3 ∧ firOk (nth p 3) = true)
    (fun _ p _ t => ∀ n ∈ lanesIn (nth p 0) (nth p 1), t.rd SRD_LANE_CTRL.TX_INV n = SRD_LANE_CTRL.TX_INV.raw (nth p 2) ∧
      t.rd SRD_LANE_CTRL.RX_INV n = SRD_LANE_CTRL.RX_INV.raw (nth p 2) ∧ (n < 16 → t.rd SRD_TXFIR.MAIN n = SRD_TXFIR.MAIN.raw (nth p 3))) ∧
  Answers .srdStatus opSrdStatus (fun p _ => nth p 1 ≤ 3) (fun p s => s.word SRD_GRP_STAT.fields :: (lanesIn (nth p 0) (nth p 1)).flatMap (fun n =>
    [s.word SRD_LANE_STAT.fields n, s.word [SRD_EYE_SUM.WIDTH, SRD_EYE_SUM.HEIGHT] n] ++ s.bankWords64 (srdCnt n 0) ++ s.bankWords64 (srdCnt n 1))) ∧
  Starts .srdEyeScan opSrdEyeScan (fun p s => nth p 0 ≤ 33 ∧ nth p 2 ≤ 1 ∧ (if nth p 0 < 16 then nth p 1 < 3 else nth p 1 = 3) ∧ 5 ≤ nth p 3 ∧ nth p 3 ≤ 10 ∧
      3 ≤ nth p 4 ∧ nth p 4 ≤ 9 ∧ s.srd.scans.length < 8 ∧ s.on SRD_LANE_STAT.SCAN (nth p 0) = false ∧ s.rd SRD_LANE_STAT.STATE (nth p 0) ≠ 2)
    (fun _ p s t => t.rd SRD_LANE_STAT.SCAN (nth p 0) = 1 ∧ t.srd.scans.length = s.srd.scans.length + 1) ∧
  Does .srdJigSet opSrdJigSet (fun p s => nth p 0 ≤ 21 ∧ wordOk SRD_JIG_CFG.fields (nth p 1) = true ∧ jigPatOk (nth p 0) (nth p 1) = true ∧ s.jigLegal (nth p 0) (nth p 1) = true)
    (fun _ p _ t => t.rd SRD_JIG_CFG.GEN_EN (nth p 0) = SRD_JIG_CFG.GEN_EN.raw (nth p 1) ∧ t.rd SRD_JIG_CFG.GEN_PAT (nth p 0) = SRD_JIG_CFG.GEN_PAT.raw (nth p 1) ∧
      t.rd SRD_JIG_USER.ALL (nth p 0) = (nth p 2 + 2 ^ 32 * nth p 3) % 2 ^ SRD_JIG_USER.ALL.width) ∧
  Does .srdJigGet opSrdJigGet (fun p _ => nth p 0 ≤ 0x3FFFFF ∧ nth p 1 = 0) (fun _ _ s t => t.snapGen = s.nextGen ∧ t.bank = s.bank)

/-- Lanes, groups, eye scans and Jig (R327 to R348), register writes and events: each completes with the effect its clause gives, where the condition its clause names holds.
Where the rules leave a form, code or order open it states the model's choice: log entries 9, 10, 20, 87, 88, 147. -/
def Obligations.LaneEvents : Prop :=
  (∀ m s, s.takes m 7 → Completes (.srdCntClr m) s (fun t => ∀ k < 136, t.cnt (672 + k) = 0)) ∧
  (∀ m n s, s.takes m 7 → s.rd SRD_LANE_STAT.STATE n.val ≠ 0 → Completes (.laneRetrain m n) s (fun t => t.rd SRD_LANE_STAT.STATE n.val = 2 ∧ t.rd SRD_LANE_STAT.SYNC n.val = 0)) ∧
  (∀ m n s, s.takes m 7 → (s.dev = 4 ∨ s.traffic n.val = false) → s.rd SRD_JIG_CFG.INJ n.val = 1 → Completes (.jigInject m n) s (fun t => Output.inject n.val 1 ∈ s.sentSince t)) ∧
  (∀ n b e s, s.on SRD_JIG_CFG.CHK_EN n.val = true → s.on SRD_JIG_CFG.LOCK n.val = false → Completes (.jigLock n b e) s (fun t => t.rd SRD_JIG_CFG.LOCK n.val = 1)) ∧
  (∀ n b e s, s.on SRD_JIG_CFG.LOCK n.val = true → Completes (.jigLock n b e) s (fun t => t.cnt (srdCnt n.val 2) = (s.cnt (srdCnt n.val 2) + b) % 2 ^ 48 ∧
    t.cnt (srdCnt n.val 3) = (s.cnt (srdCnt n.val 3) + e) % 2 ^ 48 ∧ t.regs = s.regs)) ∧
  (∀ n b e s, s.on SRD_JIG_CFG.LOCK n.val = true → Completes (.jigUnlock n b e) s (fun t => t.rd SRD_JIG_CFG.LOCK n.val = 0 ∧
    t.cnt (srdCnt n.val 2) = (s.cnt (srdCnt n.val 2) + b) % 2 ^ 48 ∧ t.cnt (srdCnt n.val 3) = (s.cnt (srdCnt n.val 3) + e) % 2 ^ 48)) ∧
  (∀ k n s, n ∈ powerStep k.val → s.rd SRD_LANE_STAT.STATE n = 0 → s.channels = [] → Completes (.lanePowerUp k) s (fun t => t.rd SRD_LANE_STAT.STATE n = 1)) ∧
  (∀ n s, s.rd SRD_LANE_STAT.STATE n.val = 2 → Completes (.laneTrained n) s (fun t => t.rd SRD_LANE_STAT.STATE n.val = 3 ∧ t.rd SRD_LANE_STAT.SYNC n.val = 1 ∧
    t.rd SRD_LANE_STAT.SIG n.val = 1)) ∧
  (∀ n s, s.rd SRD_LANE_STAT.STATE n.val = 2 → Completes (.trainTimeout n) s (fun t => t.rd SRD_LANE_STAT.STATE n.val = 4)) ∧
  (∀ n s, s.rd SRD_LANE_STAT.STATE n.val = 4 → Completes (.trainRetry n) s (fun t => t = s.wr SRD_LANE_STAT.STATE n.val 2)) ∧
  (∀ n s, s.rd SRD_LANE_STAT.STATE n.val = 3 → Completes (.laneSignalLoss n) s (fun t => t.rd SRD_LANE_STAT.STATE n.val = 2 ∧ t.rd SRD_LANE_STAT.SIG n.val = 0 ∧
    t.rd SRD_LANE_STAT.RETRAINS n.val = sat (2 ^ SRD_LANE_STAT.RETRAINS.width - 1) (s.rd SRD_LANE_STAT.RETRAINS n.val + 1) % 2 ^ SRD_LANE_STAT.RETRAINS.width)) ∧
  (∀ g a nx gd s, (s.srd.grp g.val).farNext = none → Completes (.align g [] a nx gd) s (fun t => t.rd (grpRx g.val) = a.toNat % 2 ^ (if g.val = 0 then 4 else 2) ∧
    (t.srd.grp g.val).seq = ((s.srd.grp g.val).seq + 1) % 16)) ∧
  (∀ n g k s, laneGrp n.val = some (g, k) → s.rd SRD_LANE_STAT.STATE n.val = 6 → Completes (.laneWtrEnd n) s
    (fun t => t.rd SRD_LANE_STAT.STATE n.val = 3 ∧ (t.srd.grp g).good = setBit (s.srd.grp g).good k)) ∧
  (∀ g cols s, cols.all (fun c => !c.contains .bad) = true → Completes (.packetRx g cols false) s (fun t => t.regs = s.regs ∧
    t.out = .packet g.val (packetBytes cols.flatten) :: s.out)) ∧
  (∀ g cols s, Completes (.packetRx g cols true) s (fun t => t.regs = s.regs ∧ t.out = s.out)) ∧
  (∀ g cols na i k s, (bitsSet 4 (s.rd (grpRx g.val)))[i]? = some k → cols.any (fun c => c.getD i .pad == .bad) = true →
    Completes (.packetRx g cols na) s (fun t => t.out = s.out ∧ t.cnt (srdCnt (grpLane g.val k) 1) = (s.cnt (srdCnt (grpLane g.val k) 1) + 1) % 2 ^ 48)) ∧
  (∀ n es v ph e s, s.srd.scans = [e] → e.lane = n.val → [0, 2, 5].contains (s.rd SRD_LANE_STAT.STATE n.val) = false → Completes (.eyeDone n false es v ph) s
    (fun t => t.srd.scans = [] ∧ t.srd.eyes = Tab.insert s.srd.eyes (4 * n.val + e.eye) (eyeFigures e es v.toNat ph.toNat))) ∧
  (∀ n es v ph e s, s.srd.scans = [e] → e.lane = n.val → Completes (.eyeDone n true es v ph) s
    (fun t => t.srd.scans = [] ∧ t.rd SRD_LANE_STAT.SCAN n.val = 0 ∧ t.srd.eyes = s.srd.eyes))

/-- The Veneer commands (Table 10.10): each, once accepted, completes with the reply and the effect its clause gives.
Where the rules leave a form, code or order open it states the model's choice: log entries 6, 7, 5, 89 to 92, 155. -/
def Obligations.VeneerCommands : Prop :=
  Does .vnrCfg opVnrCfg (fun p s => wordOk [VNR_LA_CFG.HOLD] (nth p 1) = true ∧ s.protRefused (VNR_CTRL.PROT_MODE.raw (nth p 0)) = none ∧
      (bit (nth p 0) 7 = true → s.sensorOut = false))
    (fun _ p _ t => t.rd VNR_CTRL.PROT_MODE = VNR_CTRL.PROT_MODE.raw (nth p 0) ∧ t.rd VNR_LA_CFG.HOLD = VNR_LA_CFG.HOLD.raw (nth p 1) ∧
      (bit (nth p 0) 7 = true → t.rd VNR_STATUS.ERASED = 0)) ∧
  Answers .vnrStatus opVnrStatus (fun _ _ => True) (fun _ s => s.vnrStatus :: (List.range 72).map (fun p => s.word VNR_PAGE_STAT.fields p)) ∧
  Does .vnrPageSet opVnrPageSet (fun p s => 8 ≤ nth p 0 ∧ nth p 0 ≤ 71 ∧ wordOk [VNR_PAGE_ROT.PERIOD] (nth p 2) = true ∧
      (VNR_PAGE_CFG.INLINE.raw (nth p 1) = 0 → s.pageBound (nth p 0) = false))
    (fun _ p _ t => (∀ f ∈ VNR_PAGE_CFG.fields, t.rd f (nth p 0) = f.raw (nth p 1)) ∧ t.rd VNR_PAGE_ROT.PERIOD (nth p 0) = VNR_PAGE_ROT.PERIOD.raw (nth p 2)) ∧
  (∀ h p s, Accepted opVnrKeyLoad h p s → 8 ≤ nth (p.map (·.toNat)) 0 → nth (p.map (·.toNat)) 0 ≤ 71 → nth (p.map (·.toNat)) 1 ≤ 1 → s.on VNR_STATUS.ERASED = false →
    s.isRewrite (nth (p.map (·.toNat)) 0) (nth (p.map (·.toNat)) 1) = false → Completes (.vnrKeyLoad h p) s (fun t =>
      match s.unwrap h.session.toNat (nth (p.map (·.toNat)) 0) (nth (p.map (·.toNat)) 1) ((p.map (·.toNat)).drop 2) with
      | .error e => t.replied h e ∧ t.vnr = s.vnr
      | .ok (key, salt) => t.replied h .ok ∧ t.rd (validFld (nth (p.map (·.toNat)) 1)) (nth (p.map (·.toNat)) 0) = 1 ∧
          t.rd (genFld (nth (p.map (·.toNat)) 1)) (nth (p.map (·.toNat)) 0) = (s.rd (genFld (nth (p.map (·.toNat)) 1)) (nth (p.map (·.toNat)) 0) + 1) % 32 ∧
          (t.vnr.slot (nth (p.map (·.toNat)) 0) (nth (p.map (·.toNat)) 1)).cur.map (fun c => (c.key, c.salt, c.seq)) = some (key, salt, 0))) ∧
  Does .vnrKeySwitch opVnrKeySwitch (fun p s => maskRefused p = none ∧ s.schedRefused (pagesOf p) = none)
    (fun _ p s t => (s.scheduled = true → ∀ g ∈ pagesOf p, t.rd VNR_PAGE_STAT.PENDING g = 1 ∧ t.rd VNR_PAGE_STAT.TARGET_SF g = s.nextS) ∧
      (s.scheduled = false → ∀ g ∈ pagesOf p, t.rd VNR_PAGE_STAT.TX_KP g = (1 - s.rd VNR_PAGE_STAT.TX_KP g) % 2 ∧ t.rd VNR_PAGE_STAT.TARGET_SF g = 0xFFFF)) ∧
  Does .vnrKeyErase opVnrKeyErase (fun p _ => maskRefused (p.take 3) = none ∧ nth p 3 ≤ 3)
    (fun _ p _ t => ∀ g ∈ pagesOf (p.take 3), t.rd VNR_PAGE_STAT.PENDING g = 0 ∧
      ∀ k ∈ bitsSet 2 (nth p 3), t.rd (validFld k) g = 0 ∧ (t.vnr.slot g k).cur = none ∧ (t.vnr.slot g k).ret = none) ∧
  Does .vnrBind opVnrBind (fun p s => nth p 0 ≤ 31 ∧ s.chOn (nth p 0) = false ∧ (nth p 1 = 255 ∨ (8 ≤ nth p 1 ∧ nth p 1 ≤ 71 ∧ s.on VNR_PAGE_CFG.INLINE (nth p 1) = true)))
    (fun _ p _ t => t.rd VNR_CH_BIND.PAGE (nth p 0) = nth p 1) ∧
  (∀ h p s, Accepted opVnrLa h p s → nth (p.map (·.toNat)) 1 ≤ 4096 → nth (p.map (·.toNat)) 2 ≤ 65536 → bits (nth (p.map (·.toNat)) 0) 28 4 = 2 →
    8 ≤ bits (nth (p.map (·.toNat)) 0) 0 8 → bits (nth (p.map (·.toNat)) 0) 0 8 ≤ 71 → s.on VNR_PAGE_CFG.LA_EN (bits (nth (p.map (·.toNat)) 0) 0 8) = true →
    s.rd VNR_PAGE_CFG.OWNER (bits (nth (p.map (·.toNat)) 0) 0 8) = h.session.toNat → bit (nth (p.map (·.toNat)) 0) 27 = true →
    (s.vnr.slot (bits (nth (p.map (·.toNat)) 0) 0 8) (bits (nth (p.map (·.toNat)) 0) 26 1)).cur.isSome = true → s.on VNR_STATUS.RNG_OK = true →
    Completes (.vnrLa h p) s (fun t => t.running h opVnrLa p ∧ t.vnr.las = s.vnr.las ++ t.vnr.las.drop s.vnr.las.length ∧
        (t.vnr.las.drop s.vnr.las.length).map (fun r => (r.op, r.page, r.len, r.nonce, r.tag)) =
          [(2, bits (nth (p.map (·.toNat)) 0) 0 8, nth (p.map (·.toNat)) 2, ((p.map (·.toNat)).drop 7).take 3, ((p.map (·.toNat)).drop 10).take 4)])) ∧
  Does .vnrCounters opVnrCounters (fun _ _ => True) (fun _ _ s t => t.snapGen = s.nextGen ∧ t.bank = s.bank) ∧
  Does .vnrRearm opVnrRearm (fun _ s => s.sensorOut = false) (fun _ _ _ t => t.rd VNR_STATUS.ERASED = 0)

/-- Veneer's register writes, lookaside completions, limits and sensors (R379, R383 to R393, R397, R401): each completes with the effect its clause gives, where the condition its clause names holds.
Where the rules leave a form, code or order open it states the model's choice: log entries 9, 10, 20, 5, 89 to 92, 155. -/
def Obligations.VeneerEvents : Prop :=
  (∀ m s, s.takes m 8 → s.sensorOut = false → Completes (.vnrCtrlRearm m) s (fun t => t.rd VNR_STATUS.ERASED = 0)) ∧
  (∀ m s, s.takes m 8 → Completes (.vnrCntClr m) s (fun t => t.cnt 416 = 0 ∧ t.cnt 417 = 0 ∧ ∀ k < 224, t.cnt (424 + k) = 0)) ∧
  (∀ m v s, s.takes m 8 → s.protRefused v.toNat = none → Completes (.protModeWrite m v) s (fun t => t.rd VNR_CTRL.PROT_MODE = v.toNat)) ∧
  (∀ n a d r s, s.vnr.las[n]? = some r → Completes (.laDone n a d false) s (fun t => r ∉ t.vnr.las ∧ t.cnt 417 = (s.cnt 417 + 1) % 2 ^ 48 ∧
    let x := r.result (((a.map (·.toNat)).flatMap wordBytes).take r.aad) (((d.map (·.toNat)).flatMap wordBytes).take r.len)
    if x.2.2 = true then Output.host r.dest x.1 ∈ s.sentSince t
    else if r.op = 2 then Output.host r.dest (List.replicate ((r.len + 3) / 4) 0) ∈ s.sentSince t
    else Output.host r.dest (x.1.take (s.laHold r / 4)) ∈ s.sentSince t)) ∧
  (∀ n a d r s, s.vnr.las[n]? = some r → Completes (.laDone n a d true) s (fun t => r ∉ t.vnr.las ∧ t.cnt 416 = (s.cnt 416 + 1) % 2 ^ 48)) ∧
  (∀ dir pipe s, Completes (.vnrKatDone dir pipe true) s (fun t => t = s)) ∧
  (∀ pipe s, Completes (.vnrKatDone 0 pipe false) s (fun t => t.rd VNR_STATUS.TX_PIPES = (s.rd VNR_STATUS.TX_PIPES - 2) % 2 ^ VNR_STATUS.TX_PIPES.width)) ∧
  (∀ p k s, s.allVerified p.val k.val = true → s.vnr.rewriting p.val = false → Completes (.retainedGenErase p k) s
    (fun t => (t.vnr.slot p.val k.val).ret = none ∧ (t.vnr.slot p.val k.val).cur = (s.vnr.slot p.val k.val).cur)) ∧
  (∀ p k c s, (s.vnr.slot p.val k.val).cur = some c → c.aged = false → 2 ^ 47 ≤ c.seq → Completes (.keyAge p k false) s
    (fun t => (t.vnr.slot p.val k.val).cur = some { c with aged := true } ∧ t.cnt (1024 + EV.KEY_AGE.x) = (s.cnt (1024 + EV.KEY_AGE.x) + 1) % 2 ^ 48)) ∧
  (∀ p k c s, (s.vnr.slot p.val k.val).cur = some c → c.spent = false → 2 ^ 48 ≤ c.seq → Completes (.keyExhausted p k) s
    (fun t => (t.vnr.slot p.val k.val).cur = some { c with spent := true } ∧ t.cnt (1024 + EV.KEY_EXHAUSTED.x) = (s.cnt (1024 + EV.KEY_EXHAUSTED.x) + 1) % 2 ^ 48)) ∧
  (∀ b s, s.on VNR_STATUS.SENSE_ARMED = true → Completes (.sensorAlarm b) s (fun t => t.rd VNR_STATUS.ERASED = 1 ∧ ∀ p < 72, ∀ k < 2, (t.vnr.slot p k).cur = none)) ∧
  (∀ b s, s.on VNR_STATUS.SENSE_ARMED = false → Completes (.sensorAlarm b) s (fun t => t.vnr = s.vnr ∧
    t.rd VNR_STATUS.SENSOR = setBit (s.rd VNR_STATUS.SENSOR) b.val % 2 ^ VNR_STATUS.SENSOR.width)) ∧
  (∀ s, s.on VNR_STATUS.ERASED = false → Completes .sensorRekey s (fun t => t = s.wr VNR_STATUS.SENSOR 0 0)) ∧
  (∀ s, Completes .drbgHealthFail s (fun t => t.rd VNR_STATUS.RNG_OK = 0 ∧ t.rd SEC_STATUS.DRBG_OK = 0)) ∧
  (∀ s, Completes .drbgHealthPass s (fun t => t = (s.wr VNR_STATUS.RNG_OK 0 1).wr SEC_STATUS.DRBG_OK 0 1))

/-- Protected blocks (R364 to R370, R377, R397): a block computed steps SEQ under its generation; a received one is delivered once, and only where
its tag verifies and its SEQ has not been seen.
Where the rules leave a form, code or order open it states the model's choice: log entries 9, 10, 20, 5, 89 to 92, 155. -/
def Obligations.VeneerBlocks : Prop :=
  (∀ k pipe y s, s.chOn k.val = true → s.chBound k.val = true → s.carried k.val = true → s.txGen (s.rd VNR_CH_BIND.PAGE k.val) = some y →
    s.on VNR_STATUS.RNG_OK = true → s.beyond 0 k.val = false → y.seq < 2 ^ 48 → Completes (.vnrTxBlock k pipe 0) s
    (fun t => t.cnt (vnrCnt k.val 0) = (s.cnt (vnrCnt k.val 0) + 1) % 2 ^ 48 ∧ (t.txGen (s.rd VNR_CH_BIND.PAGE k.val)).map (·.seq) = some (y.seq + 1) ∧
      Output.vblock k.val (s.rd VNR_PAGE_STAT.TX_KP (s.rd VNR_CH_BIND.PAGE k.val)) (b2n (s.vnr.switching (s.rd VNR_CH_BIND.PAGE k.val))) 0 y.gen y.seq
        (nonceWords y.salt (s.rd VNR_PAGE_CFG.DIR (s.rd VNR_CH_BIND.PAGE k.val)) y.seq) ∈ s.sentSince t)) ∧
  (∀ k pipe kp g q mk y s, s.chOn k.val = true → s.chBound k.val = true → s.carried k.val = true → s.fillTrib k.val = false → s.on VNR_STATUS.RNG_OK = true → s.beyond 1 k.val = false →
    (s.vnr.slot (s.rd VNR_CH_BIND.PAGE k.val) (b2n kp)).named g.toNat = some y → Tab.get 0 y.rx k.val ≤ q.toNat →
    Completes (.vnrRxBlock k pipe kp false false g q false true mk false) s
    (fun t => t.cnt (vnrCnt k.val 1) = (s.cnt (vnrCnt k.val 1) + 1) % 2 ^ 48 ∧ t.out = .delivered k.val 1 :: s.out)) ∧
  (∀ k pipe kp g q mk y s, s.chOn k.val = true → s.chBound k.val = true → s.carried k.val = true → s.fillTrib k.val = false → s.on VNR_STATUS.RNG_OK = true → s.beyond 1 k.val = false →
    (s.vnr.slot (s.rd VNR_CH_BIND.PAGE k.val) (b2n kp)).named g.toNat = some y → q.toNat < Tab.get 0 y.rx k.val →
    Completes (.vnrRxBlock k pipe kp false false g q false true mk false) s
    (fun t => t.cnt (vnrCnt k.val 5) = (s.cnt (vnrCnt k.val 5) + 1) % 2 ^ 48 ∧ t.vnr = s.vnr ∧ t.out = .delivered k.val 0 :: s.out)) ∧
  (∀ k pipe kp g q mk y s, s.chOn k.val = true → s.chBound k.val = true → s.carried k.val = true → s.fillTrib k.val = false → s.on VNR_STATUS.RNG_OK = true → s.beyond 1 k.val = false →
    (s.vnr.slot (s.rd VNR_CH_BIND.PAGE k.val) (b2n kp)).named g.toNat = some y → Completes (.vnrRxBlock k pipe kp false false g q false false mk false) s
    (fun t => t.cnt (vnrCnt k.val (if mk then 3 else 2)) = (s.cnt (vnrCnt k.val (if mk then 3 else 2)) + 1) % 2 ^ 48 ∧ t.vnr = s.vnr ∧ t.out = .delivered k.val 0 :: s.out))

/-- The Scribe commands (Table 11.6): each, once accepted, completes with the reply and the effect its clause gives.
Where the rules leave a form, code or order open it states the model's choice: log entries 6, 7, 5, 93 to 97, 145, 157. -/
def Obligations.ScribeCommands : Prop :=
  Does .scrCfgSet opScrCfgSet (fun p s => wordOk SCR_CFG.fields (nth p 1) = true ∧ wordOk SCR_TIMERS.fields (nth p 2) = true ∧ wordOk SCR_TIMERS2.fields (nth p 3) = true ∧
      wordOk [SCR_BACKOFF.ALL] (nth p 4) = true ∧ SCR_CFG.FREQ.raw (nth p 1) = s.rd SCR_CFG.FREQ ∧ s.scrEdge (bits (nth p 0) 0 1) (SCR_CFG.FREQ.raw (nth p 1)) = true)
    (fun _ p _ t => t.rd SCR_CFG.LEVEL = SCR_CFG.LEVEL.raw (nth p 1) ∧ t.rd SCR_TIMERS.REPLY_TO = SCR_TIMERS.REPLY_TO.raw (nth p 2) ∧
      t.rd SCR_MODES.ALL = SCR_MODES.ALL.raw (nth p 5) ∧ t.rd SCR_CTRL.EN = bits (nth p 0) 0 1 ∧ t.rd SCR_CTRL.NEG = SCR_CTRL.NEG.raw (nth p 0)) ∧
  Does .scrTrust opScrTrust (fun p _ => nth p 0 ≤ 16 ∧ p.length = 1 + 2 * nth p 0)
    (fun _ p _ t => t.scr.trust = (List.range (nth p 0)).map (fun i => nth p (1 + 2 * i) + 2 ^ 32 * nth p (2 + 2 * i))) ∧
  Answers .scrStatus opScrStatus (fun _ _ => True) (fun _ s => [s.word SCR_STATUS.fields] ++ w64 s.scrPeer ++ [s.rd SCR_AFC.ALL, s.scr.mode, s.scr.excl] ++ maskWords s.scr.pages) ∧
  Answers .scrPeers opScrPeers (fun _ _ => True) (fun _ s => ((s.scr.peers.filter (fun p => decide (s.tick < p.heardAt + ticks60))).take 16).flatMap (fun p =>
    w64 p.id ++ [p.level, b2n p.passed, (s.tick - p.heardAt) * 32 / 25000000])) ∧
  Does .scrRestart opScrRestart (fun _ _ => True) (fun _ _ _ t => t.scr.excl = 0)

/-- Scribe's register writes and the messages it takes from a peer it hears (R411 to R430): each completes with the effect its clause gives, where the condition its clause names holds.
Where the rules leave a form, code or order open it states the model's choice: log entries 9, 10, 20, 5, 93 to 97, 145, 157. -/
def Obligations.ScribeMessages : Prop :=
  (∀ m s, s.takes m 9 → Completes (.scrCtrlRestart m) s (fun t => t.scr.excl = 0)) ∧
  (∀ m s, s.takes m 9 → Completes (.scrCntClr m) s (fun t => ∀ k < 8, t.cnt (264 + k) = 0)) ∧
  (∀ m v s, s.takes m 9 → s.scrEdge (b2n v) (s.rd SCR_CFG.FREQ) = true → Completes (.scrEnWrite m v) s (fun t => t.rd SCR_CTRL.EN = b2n v)) ∧
  (∀ k s, s.scrState ≠ 0 → 20 ≤ k.peak.toNat → (bitsSet 64 (k.word.toNat ^^^ syncWord)).length ≤ s.rd SCR_CFG.SYNC_TOL → s.scr.rx = none → s.afcOk k.afc.toInt = true →
    headerBad (packBits (whiten k.bits)) = true → Completes (.syncWordDetect k) s (fun t => t.rd SCR_STATUS.LEVEL = k.level.toNat % 2 ^ SCR_STATUS.LEVEL.width ∧
      t.cnt 265 = (s.cnt 265 + 1) % 2 ^ 48 ∧ t.scr.rx = none)) ∧
  (∀ k bs s, s.scrState ≠ 0 → 20 ≤ k.peak.toNat → (bitsSet 64 (k.word.toNat ^^^ syncWord)).length ≤ s.rd SCR_CFG.SYNC_TOL → s.scr.rx = none → s.afcOk k.afc.toInt = true →
    bs = packBits (whiten k.bits) → headerBad bs = false → beField bs 4 8 ≠ s.fuse.devId → beField bs 12 8 = s.fuse.devId →
    Completes (.syncWordDetect k) s (fun t => t.rd SCR_STATUS.LEVEL = k.level.toNat % 2 ^ SCR_STATUS.LEVEL.width ∧
      (crc32c (bs.take (24 + beField bs 2 2)) ≠ beField bs (24 + beField bs 2 2) 4 → t.scr.rx = none ∧ t.cnt 266 = (s.cnt 266 + 1) % 2 ^ 48) ∧
      (crc32c (bs.take (24 + beField bs 2 2)) = beField bs (24 + beField bs 2 2) 4 → 28 + beField bs 2 2 ≤ bs.length → bit (beField bs 0 1) 3 = false →
        t.scr.rx = some k.level.toNat ∧ t.rd SCR_STATUS.RX_BUSY = 1))) ∧
  (∀ x s, s.hears x.src.toNat x.seq.toNat → s.scrState = 2 → x.chainOk = true → x.certId = x.src → Completes (.hello x) s
    (fun t => x.src.toNat ∈ t.scr.cands ∧ t.scr.window = true ∧ (t.heard x.src.toNat).map (·.passed) = some true)) ∧
  (∀ src seq pub n ok s, s.hears src.toNat seq.toNat → s.scrState = 2 → (s.heard src.toNat).map (·.passed) = some true → Completes (.kex src seq pub n ok) s
    (fun t => t.scr.heldKex.head? = some (src.toNat, ⟨seq.toNat, pub.map (·.toNat), n.map (·.toNat), ok⟩))) ∧
  (∀ src seq mode shape s, s.hears src.toNat seq.toNat → s.scrState = 4 → s.leads = false → s.scrPeer = src.toNat → s.rejects mode.toNat shape.toNat = none →
    Completes (.propose src seq mode shape) s (fun t => t.scrState = 5 ∧ t.scr.mode = mode.toNat ∧ t.scr.shape = shape.toNat)) ∧
  (∀ src seq mode shape r s, s.hears src.toNat seq.toNat → s.scrState = 4 → s.leads = false → s.scrPeer = src.toNat → s.rejects mode.toNat shape.toNat = some r →
    Completes (.propose src seq mode shape) s (fun t => t.scrState = 8 ∧ t.scr.wait = none)) ∧
  (∀ src seq q s, s.hears src.toNat seq.toNat → s.scrState = 4 → s.awaits 4 q.toNat = true → Completes (.accept src seq q) s (fun t => t.scrState = 5)) ∧
  (∀ src seq q r s, s.hears src.toNat seq.toNat → s.scrState = 4 → s.awaits 4 q.toNat = true → Completes (.reject src seq q r) s (fun t => t.scrState = 8 ∧ t.scr.wait = none)) ∧
  (∀ src seq ks s, s.hears src.toNat seq.toNat → s.scrState = 5 → s.leads = false → s.scrPeer = src.toNat → s.on SCR_CTRL.NEG = true → s.scr.rot = none →
    Completes (.keys src seq ks) s (fun t => t.scrState = 5 ∧ t.scr.pages = (s.takeable ks).map (fun k => k.page.toNat))) ∧
  (∀ src seq q ps s, s.hears src.toNat seq.toNat → s.scrState = 5 → s.leads = true → s.awaits 7 q.toNat = true → s.on SCR_CTRL.NEG = true → s.scr.rot = none →
    Completes (.keysAck src seq q ps) s (fun t => t.scr.goDue = true ∧ t.scr.pages = (s.scr.keysOut.map (·.1)).filter (ps.map (·.toNat)).contains)) ∧
  (∀ src seq q s, s.hears src.toNat seq.toNat → s.scrState = 5 → s.leads = false → s.scrPeer = src.toNat → s.scr.ackSeq = q.toNat → s.on SCR_CTRL.NEG = true →
    Completes (.go src seq q) s (fun t => t.scrState = 6)) ∧
  (∀ src seq mode s, s.hears src.toNat seq.toNat → s.scrState = 7 → s.leads = false → s.scrPeer = src.toNat → Completes (.reneg src seq mode) s
    (fun t => t.scrState = 4 ∧ t.scr.excl = setBit s.scr.excl mode.toNat ∧ t.lit = false)) ∧
  (∀ src seq page s, s.hears src.toNat seq.toNat → s.scrState = 7 → s.scrPeer = src.toNat → s.scrPages.contains page.toNat = true → s.scr.rot = none →
    Completes (.rotate src seq page) s (fun t => t.scr.rot = some page.toNat))

/-- Scribe's timers and steps (R407, R414 to R430): each completes with the effect its clause gives, in the states its clause names.
Where the rules leave a form, code or order open it states the model's choice: log entries 9, 10, 20, 5, 93 to 97, 145, 157. -/
def Obligations.ScribeTimers : Prop :=
  (∀ s, s.scr.goDue = true → Completes .goSent s (fun t => t.scrState = 6)) ∧
  (∀ s, s.dev ≠ 0 → Completes .holdOffEnd s (fun t => t.scr.free = true ∧ (s.scrState = 1 → t.scrState = 2))) ∧
  (∀ s, s.scrState = 2 → s.scrSends = true → Completes .helloTimer s (fun t => t.cnt 271 = (s.cnt 271 + 1) % 2 ^ 48 ∧ t.scr.seq = (s.scr.seq + 1) % 65536)) ∧
  (∀ s, s.scrState = 2 → s.scrSends = true → s.powered 1 = true → s.ltx.txLight = true → s.calOk [4, 5, 6] = true → s.lit = false → s.ltx.bring = 0 →
    Completes .beaconLight s (fun t => t.scr.lighting = true ∧ t.ltx.bring = 1)) ∧
  (∀ s c, s.scr.window = true → s.scrState = 2 → s.lifecycle ≠ 3 → s.on SCR_CTRL.PIN = false → s.scr.cands = [c] → c < 2 ^ 64 → s.scr.heldKex = [] →
    Completes .selectionWindowEnd s (fun t => t.scrState = 3 ∧ t.scrPeer = c ∧ t.leads = decide (c < s.fuse.devId) ∧ t.scr.window = false)) ∧
  (∀ s w, s.scr.wait = some w → w.tries < s.rd SCR_TIMERS.RETRIES → Completes .scrReplyTimeout s (fun t => t.scr.wait = some { w with tries := w.tries + 1 } ∧ t.scr.seq = s.scr.seq)) ∧
  (∀ s w, s.scr.wait = some w → s.rd SCR_TIMERS.RETRIES ≤ w.tries → Completes .scrReplyTimeout s (fun t => t.scr.wait = none ∧ t.scrState = 8)) ∧
  (∀ s, 3 ≤ s.scrState → s.scrState ≤ 5 → Completes .negTimeout s (fun t => t.scr.wait = none ∧ t.scrState = 8)) ∧
  (∀ s, s.scrState = 8 → s.sending = false → Completes .scrHoldEnd s (fun t => t.scrState = 2 ∧ t.scrPeer = 0)) ∧
  (∀ s, s.scrState = 6 → s.lineUp = true → Completes .scrLive s (fun t => t.scrState = 7)) ∧
  (∀ s, s.scrState = 6 → Completes .goLiveTimeout s (fun t => t.scrState = 2 ∧ t.scr.excl = setBit s.scr.excl s.scr.mode ∧ t.lit = false)) ∧
  (∀ s, s.scrState = 7 → s.rxLocked = false → s.on SCR_CTRL.AUTO_RENEG = false → Completes .relockTimeout s (fun t =>
    t.scrState = 7 ∧ t.cnt (1024 + EV.SCR_FALLBACK.x) = (s.cnt (1024 + EV.SCR_FALLBACK.x) + 1) % 2 ^ 48)) ∧
  (∀ s, s.scrState = 7 → Completes .peerHelloLost s (fun t => t.scrState = 2 ∧ t.scrPeer = 0)) ∧
  (∀ p s, s.rd VNR_PAGE_ROT.PERIOD p.val ≠ 0 → s.rotatedNow p.val = false → s.scrState ≠ 7 → Completes (.keyRotationTimer p) s (fun t =>
    t.cnt (1024 + EV.KEY_AGE.x) = (s.cnt (1024 + EV.KEY_AGE.x) + 1) % 2 ^ 48 ∧ t.vnr = s.vnr))

/-- The reference commands (Table 12.6): each, once accepted, completes with the reply and the effect its clause gives.
Where the rules leave a form, code or order open it states the model's choice: log entries 6, 7, 100 to 103, 148, 159. -/
def Obligations.ReferenceCommands : Prop :=
  Does .refCfg opRefCfg (fun p _ => (∀ k < 9, wordOk (refCfgRegs.getD k []) (nth p k) = true) ∧ bwOk (REF_DPLL_CFG.BW.raw (nth p 1)) (REF_DPLL_CFG.ACQ_BW.raw (nth p 1)) = true ∧
      limitsOk (REF_MON_CFG.ACCEPT.raw (nth p 2)) (REF_MON_CFG.REJECT.raw (nth p 2)) = true)
    (fun _ p _ t => t.rd REF_CTRL.SEL_MODE = REF_CTRL.SEL_MODE.raw (nth p 0) ∧ t.rd REF_MON_CFG.ACCEPT = REF_MON_CFG.ACCEPT.raw (nth p 2) ∧
      t.rd REF_TIMERS.WTR = REF_TIMERS.WTR.raw (nth p 3) ∧ t.rd REF_CLAMP_MAX.ALL = REF_CLAMP_MAX.ALL.raw (nth p 5)) ∧
  Does .refCandSet opRefCandSet (fun p s => nth p 0 ≤ 11 ∧ wordOk REF_CAND_CFG.fields (nth p 1) = true ∧ (nth p 0 < 8 → REF_CAND_FHZ.HZ.inRange (REF_CAND_FHZ.HZ.raw (nth p 2)) = true) ∧
      (nth p 0 = 8 ∨ s.refSel ≠ some (nth p 0)))
    (fun _ p _ t => t.rd REF_CAND_CFG.PRIO (nth p 0) = REF_CAND_CFG.PRIO.raw (nth p 1) ∧ t.rd REF_CAND_CFG.QL (nth p 0) = REF_CAND_CFG.QL.raw (nth p 1) ∧
      (nth p 0 < 8 → t.rd REF_CAND_FHZ.HZ (nth p 0) = REF_CAND_FHZ.HZ.raw (nth p 2)) ∧ (nth p 0 ≠ 8 → t.refQual (nth p 0) = false)) ∧
  Does .refSelect opRefSelect (fun p _ => nth p 0 ≤ 4 ∧ nth p 1 ≤ 11) (fun _ p _ t => t.rd REF_CTRL.SEL_MODE = nth p 0 ∧ t.rd REF_CTRL.SEL_CAND = nth p 1) ∧
  Answers .refStatus opRefStatus (fun _ _ => True) (fun _ s => [s.word REF_STATUS.fields, s.rd REF_DPLL_FREQ.ALL, s.rd REF_HIST_FREQ.ALL, s.rd REF_PHASE_ERR.ALL] ++
    cands.map (fun c => s.word REF_CAND_STAT.fields c) ++ cands.map (fun c => s.rd REF_CAND_FREQ.ALL c)) ∧
  Does .refOutSet opRefOutSet (fun p _ => nth p 0 ≤ 5 ∧ outOk (nth p 0) (REF_OUT_FHZ.HZ.raw (nth p 2)) (REF_OUT_CFG.WIDTH.raw (nth p 1)) = true)
    (fun _ p _ t => t.rd REF_OUT_CFG.EN (nth p 0) = REF_OUT_CFG.EN.raw (nth p 1) ∧ t.rd REF_OUT_FHZ.HZ (nth p 0) = REF_OUT_FHZ.HZ.raw (nth p 2) ∧
      t.rd REF_OUT_OFS.ALL (nth p 0) = nth p 3 % 2 ^ REF_OUT_OFS.ALL.width) ∧
  (∀ h p s, Accepted opRefRealign h p s → nth (p.map (·.toNat)) 0 ≤ 63 → nth (p.map (·.toNat)) 1 = 0 → s.realignOfs 0 (ofPat 32 (nth (p.map (·.toNat)) 2)) = true →
    s.todValid = true → s.on REF_STATUS.BUILDOUT = false → s.pair.gap = false → s.ref.realign = none → Completes (.refRealign h p) s
    (fun t => t.running h opRefRealign p ∧ t.ref.realign = some ⟨runOf h 0x0B06 (p.map (·.toNat)), nth (p.map (·.toNat)) 0⟩))

/-- Candidates, quality levels, the DPLL and the outputs (R436 to R463): each completes with the effect its clause gives, where the condition its clause names holds.
Where the rules leave a form, code or order open it states the model's choice: log entries 9, 10, 20, 100 to 103, 148, 159. -/
def Obligations.ReferenceEvents : Prop :=
  (∀ m c v s, s.takes m 10 → c.val < 8 → s.refSel ≠ some c.val → REF_CAND_FHZ.HZ.inRange v.toNat = true → Completes (.candFreqWrite m c v) s
    (fun t => t.rd REF_CAND_FHZ.HZ c.val = v.toNat % 2 ^ REF_CAND_FHZ.HZ.width ∧ t.refQual c.val = false)) ∧
  (∀ mk mv r s, s.ref.realign = some r → Completes (.realignStep true mk mv) s (fun t => t.ref.realign = none ∧
    t.cnt (1024 + EV.OUT_REALIGNED.x) = (s.cnt (1024 + EV.OUT_REALIGNED.x) + 1) % 2 ^ 48)) ∧
  (∀ c e s, c.val < 8 → e ≠ s.refAct c.val → Completes (.refActivity c e) s (fun t => t.refAct c.val = e)) ∧
  (∀ c off s, s.refAct c.val = true → Completes (.freqGateEnd c off) s (fun t => t.rd REF_CAND_FREQ.ALL c.val = REF_CAND_FREQ.ALL.pat (s.gateOffset c.val off.toInt) % 2 ^ REF_CAND_FREQ.ALL.width ∧
    Tab.get [] t.ref.gates c.val = (s.gateOffset c.val off.toInt :: Tab.get [] s.ref.gates c.val).take 32 ∧
    (s.refQual c.val = true → s.inReject (s.gateOffset c.val off.toInt) = false → t.refQual c.val = false))) ∧
  (∀ c s, s.refAct c.val = true → s.refQual c.val = false → s.accepts (s.rdI REF_CAND_FREQ.ALL c.val) = true → Completes (.refQualifyEnd c) s
    (fun t => t.refQual c.val = true ∧ bit t.ref.again c.val = false)) ∧
  (∀ s c, c ∈ cands → s.refAct c = true → (Tab.get [] s.ref.gates c).length = 32 → 256 * s.rd REF_MON_CFG.RATE < (drift256 (Tab.get [] s.ref.gates c)).natAbs →
    Completes .driftEval s (fun t => t.rd REF_CAND_STAT.DRIFT c = 1 ∧ Tab.get 0 t.ref.calm c = 0)) ∧
  (∀ s, s.on REF_STATUS.BUILDOUT = true → Completes .buildoutEnd s (fun t => t.ref.guard = s.rd REF_CLAMP_CFG.HIST_GUARD ∧
    t.ref.compatDue = ((List.range 6).filter (fun o => s.on REF_OUT_CFG.COMPAT o)).foldl setBit 0)) ∧
  (∀ s c, s.refSel = some c → s.rd REF_STATUS.DPLL = 1 → s.on REF_STATUS.BUILDOUT = false → Completes .dpllLock s
    (fun t => t.cnt (1024 + EV.DPLL_LOCK.x) = (s.cnt (1024 + EV.DPLL_LOCK.x) + 1) % 2 ^ 48)) ∧
  (∀ e s, s.rd REF_STATUS.DPLL = 2 → s.on REF_STATUS.BUILDOUT = false → Completes (.dpllUnlock e) s
    (fun t => t.ref.lockedFor = 0 ∧ t.cnt (1024 + EV.DPLL_UNLOCK.x) = (s.cnt (1024 + EV.DPLL_UNLOCK.x) + 1) % 2 ^ 48)) ∧
  (∀ f ph s, s.rd REF_STATUS.DPLL = 2 → Completes (.dpllHistoryTick f ph) s (fun t => t.rd REF_DPLL_FREQ.ALL = REF_DPLL_FREQ.ALL.pat (heldIn f.toInt) % 2 ^ REF_DPLL_FREQ.ALL.width ∧ t.rd REF_PHASE_ERR.ALL = ph.toNat ∧
    t.ref.lockedFor = s.ref.lockedFor + 1 ∧ (s.on REF_STATUS.BUILDOUT = false → s.ref.guard = 0 → t.ref.hist = (heldIn f.toInt :: s.ref.hist).take 960))) ∧
  (∀ s, s.rd REF_STATUS.DPLL = 3 → s.rd REF_CLAMP_MAX.ALL ≠ 0 → s.on REF_STATUS.CLAMP_EXPIRED = false → s.rd REF_CTRL.SEL_MODE = 3 → s.rd REF_STATUS.SELECTED = 15 →
    Completes .clampExpired s (fun t => t.rd REF_STATUS.CLAMP_EXPIRED = 1 ∧ t.rd REF_STATUS.OUT_QL = 8)) ∧
  (∀ s, s.on REF_STATUS.OSC_PRESENT = true → Completes .oscLost s (fun t => t.rd REF_STATUS.OSC_PRESENT = 0 ∧ t.rd REF_STATUS.MON_SRC = 1)) ∧
  (∀ k ssm enh c s, s.isEth k.val = true → c ∈ [9, 10, 11] → s.candLane c ∈ s.lanesOf k.val → Completes (.esmcRx k ssm enh) s
    (fun t => t.rd REF_CAND_STAT.QL_RX c = qlOf ssm.toNat enh.toNat)) ∧
  (∀ s, Completes .esmcTx s (fun t => t.regs = s.regs ∧ ∀ k ∈ s.esmcChans, (let c := ssmOf (if s.carriesSel k then 9 else s.rd REF_STATUS.OUT_QL)
      Output.esmc k false c.1 c.2 ∈ s.sentSince t))) ∧
  (∀ k s, Completes (.qlTimeout k) s (fun t => t.rd REF_CAND_STAT.QL_RX (8 + k.val) = 10)) ∧
  (∀ b1 b2 b3 s, crc8 [0x51, b1.toNat, b2.toNat] = b3.toNat → bit b2.toNat 0 = false → 1 ≤ b1.toNat → b1.toNat ≤ 10 → Completes (.lineQlRx 0x51 b1 b2 b3) s
    (fun t => t.rd REF_CAND_STAT.QL_RX 8 = b1.toNat)) ∧
  (∀ o e s, s.on REF_OUT_CFG.COMPAT o.val = true → s.isPulse (s.rd REF_OUT_CFG.SRC o.val) = true → s.refAct (s.rd REF_OUT_CFG.SRC o.val) = true →
    bit s.ref.compatDue o.val = true → Completes (.compatPulse o e) s (fun t => t.ref.compatDue = clrBit s.ref.compatDue o.val ∧ Tab.get 0 t.ref.pulses o.val = 0))

/-- The time commands (Table 13.4): each, once accepted, completes with the reply and the effect its clause gives.
Where the rules leave a form, code or order open it states the model's choice: log entries 6, 7, 104 to 110, 148. -/
def Obligations.TimeCommands : Prop :=
  Answers .todGet opTodGet (fun _ _ => True) (fun _ s => todWords s.todVal ++ [s.word TOD_STATUS.fields, s.rd TOD_RATE.ALL]) ∧
  Does .todStep opTodStep (fun p s => nth p 0 = 0 ∧ s.on TOD_STATUS.BASE_OK = true ∧ s.on TOD_STATUS.STEP_AVAIL = true ∧ s.tod.step = none)
    (fun _ p _ t => t.tod.step = some ⟨false, (ofPat 64 (nth p 1 + nth p 2 * 2 ^ 32) * 1000000000 + ofPat 32 (nth p 3)) * todUnit + 25 * nth p 4, 0⟩) ∧
  Does .todStep opTodStep (fun p s => nth p 0 = 1 ∧ s.on TOD_STATUS.BASE_OK = true ∧ s.on TOD_STATUS.STEP_AVAIL = true ∧ s.tod.step = none ∧
      nth p 1 + nth p 2 * 2 ^ 32 < 2 ^ 48 ∧ nth p 3 < 1000000000)
    (fun _ p s t => t.tod.step = some ⟨true, (((nth p 1 + nth p 2 * 2 ^ 32) * 1000000000 + nth p 3) * todUnit + 25 * nth p 4 : Nat), s.nextSecond⟩) ∧
  Does .todRearm opTodRearm (fun _ _ => True) (fun _ _ _ t => t.rd TOD_STATUS.STEP_AVAIL = 1 ∧ t.tod.refused = []) ∧
  Does .todRateSet opTodRateSet (fun p s => (ofPat 32 (nth p 0)).natAbs ≤ rateMax.toNat ∧ s.on TOD_SERVO_CFG.EN = false) (fun _ p _ t => t.rd TOD_RATE.ALL = nth p 0) ∧
  Does .ptpCfg opPtpCfg (fun p _ => ∀ k < 4, wordOk (ptpCfgRegs.getD k []) (nth p k) = true)
    (fun _ p _ t => t.rd TOD_PTP_CFG.DOMAIN = TOD_PTP_CFG.DOMAIN.raw (nth p 0) ∧ t.rd TOD_SERVO_CFG.EN = TOD_SERVO_CFG.EN.raw (nth p 1) ∧
      t.rd TOD_LIMITS.JUMP_THR = TOD_LIMITS.JUMP_THR.raw (nth p 2) ∧ t.rd TOD_SCHED_CFG.GRACE = TOD_SCHED_CFG.GRACE.raw (nth p 3)) ∧
  Does .ptpPortSet opPtpPortSet (fun p _ => nth p 0 ≤ 32 ∧ wordOk TOD_PORT_CFG.fields (nth p 1) = true)
    (fun _ p _ t => t.rd TOD_PORT_CFG.EN (nth p 0) = TOD_PORT_CFG.EN.raw (nth p 1) ∧ t.rd TOD_PORT_CFG.LOCAL_PRIO (nth p 0) = TOD_PORT_CFG.LOCAL_PRIO.raw (nth p 1)) ∧
  Answers .ptpStatus opPtpStatus (fun _ _ => True) (fun _ s => [s.servo, s.rd TOD_STATUS.PARENT] ++ w64 (annGm s.gmAnn) ++ [annClass s.gmAnn, s.rd TOD_OFFSET.ALL] ++
    ptpPorts.map (fun p => s.word [TOD_PORT_STAT.STATE] p)) ∧
  Answers .lineDelay opLineDelay (fun _ _ => True) (fun _ s => w64 (s.rd TOD_LINE_FWD.ALL) ++ w64 (s.rd TOD_LINE_REV.ALL) ++
    [s.rd TOD_ASYM.ALL, s.rd TOD_ASYM_NEW.ALL, s.rd TOD_STATUS.PATH_ASYM, s.rd TOD_STATUS.FAR_VALID, s.rd TOD_STATUS.HOLD_LEFT]) ∧
  Does .asymAccept opAsymAccept (fun p s => nth p 0 = 1 ∧ s.on TOD_STATUS.PATH_ASYM = true ∧
      (ofPat 32 (nth p 1) - s.rdI TOD_ASYM_NEW.ALL).natAbs ≤ 200000 * s.rd TOD_LIMITS.JUMP_THR)
    (fun _ p _ t => t.rd TOD_ASYM.ALL = nth p 1 ∧ t.rd TOD_STATUS.PATH_ASYM = 0 ∧ t.rd TOD_STATUS.HOLD_LEFT = 0 ∧ t.tod.wait = none) ∧
  Does .schedSet opSchedSet (fun p s => nth p 0 ≤ 15 ∧ s.actOk (nth p 3) = true ∧ s.todValid = true ∧ s.lateness (nth p 1 + nth p 2 * 2 ^ 32) < 0)
    (fun _ p _ t => t.rd TOD_SCHED_ACT.ARMED (nth p 0) = 1 ∧ t.rd TOD_SCHED_T.ALL (nth p 0) = nth p 1 + nth p 2 * 2 ^ 32 ∧
      t.rd TOD_SCHED_ACT.CODE (nth p 0) = TOD_SCHED_ACT.CODE.raw (nth p 3) ∧ t.rd TOD_SCHED_ACT.P (nth p 0) = TOD_SCHED_ACT.P.raw (nth p 3)) ∧
  (∀ h p s, Accepted opSchedSet h p s → nth (p.map (·.toNat)) 0 ≤ 15 → s.actOk (nth (p.map (·.toNat)) 3) = true → s.todValid = true →
    0 ≤ s.lateness (nth (p.map (·.toNat)) 1 + nth (p.map (·.toNat)) 2 * 2 ^ 32) → s.inGrace (s.lateness (nth (p.map (·.toNat)) 1 + nth (p.map (·.toNat)) 2 * 2 ^ 32)) = true →
    TOD_SCHED_ACT.CODE.raw (nth (p.map (·.toNat)) 3) = 1 → s.pair.gap = false → Completes (.schedSet h p) s (fun t => t.replied h .late ∧
      t.rd TOD_SCHED_ACT.ARMED (nth (p.map (·.toNat)) 0) = 0 ∧ t.rd TOD_SCHED_STAT.STATUS (nth (p.map (·.toNat)) 0) = Status.late.code)) ∧
  Does .schedCancel opSchedCancel (fun p _ => nth p 0 ≤ 65535) (fun _ p _ t => ∀ e ∈ bitsSet 16 (nth p 0), t.on TOD_SCHED_ACT.ARMED e = false)

/-- The time of day, the line and the scheduled actions (R472 to R488, R498, R505): each completes with the effect its clause gives, where the condition its clause names holds.
Where the rules leave a form, code or order open it states the model's choice: log entries 9, 10, 20, 104 to 110, 148. -/
def Obligations.TimeEvents : Prop :=
  (∀ s r, s.tod.step = some r → r.abs = true → 0 ≤ s.lateness (r.boundary / todUnit) → Completes .todStepApply s
    (fun t => t.todVal = ((r.value + s.todVal - r.boundary) % (todPeriod : Int)).toNat ∧ t.rd TOD_STATUS.VALID = 1 ∧
    t.rd TOD_STATUS.STEP_AVAIL = 0 ∧ t.tod.step = none)) ∧
  (∀ s r, s.tod.step = some r → r.abs = false → Completes .todStepApply s (fun t => t.todVal = ((s.todVal + r.value) % (todPeriod : Int)).toNat ∧ t.rd TOD_STATUS.VALID = 1 ∧
    t.rd TOD_STATUS.STEP_AVAIL = 0 ∧ t.tod.step = none)) ∧
  (∀ e s, s.on TOD_SCHED_ACT.ARMED e.val = true → 0 ≤ s.lateness (s.rd TOD_SCHED_T.ALL e.val) → s.pair.gap = false → Completes (.schedFire e) s
    (fun t => t.rd TOD_SCHED_ACT.ARMED e.val = 0 ∧ t.rd TOD_SCHED_STAT.STATUS e.val = Status.ok.code ∧ t.rd TOD_SCHED_STAT.LATE_US e.val = 0)) ∧
  (∀ m s, s.takes m 11 → Completes (.todLatch m) s (fun t => t.rd TOD_LATCH_NS.ALL = nth (todWords s.todNext) 2 % 2 ^ TOD_LATCH_NS.ALL.width ∧
    t.rd TOD_CTRL.GEN = (s.rd TOD_CTRL.GEN + 1) % 2 ^ TOD_CTRL.GEN.width)) ∧
  (∀ m s, s.takes m 11 → Completes (.todCntClr m) s (fun t => t.cnt 272 = 0 ∧ t.cnt 273 = 0)) ∧
  (∀ s, s.dev ≠ 0 → s.on TOD_STATUS.BASE_OK = false → Completes .timeBaseOk s (fun t => t.todVal = 0 ∧ t.rd TOD_STATUS.BASE_OK = 1)) ∧
  (∀ bs s, bs.length = 32 → nth (bs.map (·.toNat)) 0 = 0x54 → crc16 ((bs.map (·.toNat)).take 30) = ofBytes (((bs.map (·.toNat)).drop 30).take 2) →
    nativeMode (s.rd LRX_CTRL.MODE) = true → Completes (.lineStampRx bs) s (fun t => t.on TOD_STATUS.FAR_VALID = bit (nth (bs.map (·.toNat)) 1) 0)) ∧
  (∀ bs s, bs.length = 33 → nth (bs.map (·.toNat)) 0 = 0x41 → crc16 ((bs.map (·.toNat)).take 31) = ofBytes ((bs.map (·.toNat)).drop 31) → s.ptpOn 32 = true →
    Completes (.lineAnnounceRx bs) s (fun t => t.annOf 32 = ((bs.map (·.toNat)).drop 1).take 30)) ∧
  (∀ s, s.on TOD_STATUS.PATH_ASYM = true → s.tod.wait = none → s.tod.holdOk = true → s.todValid = true → s.on TOD_STATUS.FAR_VALID = true → Completes .asymHoldEnd s
    (fun t => t.rd TOD_STATUS.PATH_ASYM = 0 ∧ t.rd TOD_STATUS.HOLD_LEFT = 0 ∧ t.tod.delay = []))

/-- The boundary clock (R489 to R497): each completes with the effect its clause gives, where the condition its clause names holds.
Where the rules leave a form, code or order open it states the model's choice: log entries 9, 10, 20, 104 to 110, 148. -/
def Obligations.ClockEvents : Prop :=
  (∀ p m s, s.ptpOn p.val = true → s.on TOD_STATUS.BASE_OK = false → Completes (.ptpMessageRx p m) s (fun t => t = s.count 272 1)) ∧
  (∀ p m s, s.ptpOn p.val = true → s.on TOD_STATUS.BASE_OK = true → m.typ.toNat ∉ [0, 1, 8, 9, 11] → Completes (.ptpMessageRx p m) s (fun t => t = s.count 273 1)) ∧
  (∀ p m s, s.ptpOn p.val = true → s.on TOD_STATUS.BASE_OK = true → m.domain.toNat = s.rd TOD_PTP_CFG.DOMAIN → m.typ.toNat = 11 → m.body.length = 30 →
    Completes (.ptpMessageRx p m) s (fun t => t.annOf p.val = m.body.map (·.toNat))) ∧
  (∀ p m s, s.ptpOn p.val = true → s.on TOD_STATUS.BASE_OK = true → m.domain.toNat = s.rd TOD_PTP_CFG.DOMAIN → m.typ.toNat = 0 → m.twoStep = false → s.ptpSt p.val = 3 →
    Completes (.ptpMessageRx p m) s (fun t => (Tab.get {} t.tod.ports p.val).fwd = some (s.inStamp p.val - m.corr - m.time) ∧ t.regs = s.regs)) ∧
  (∀ p s, p.val < 32 → s.ptpSt p.val = 4 → s.todValid = true → s.on TOD_PORT_CFG.TWO_STEP p.val = false → Completes (.ptpMessageTx p 0) s
    (fun t => t.out = .ptp (p.val + 1) ([0, s.rd TOD_PORT_CFG.DA p.val, s.rd TOD_PTP_CFG.DOMAIN, (Tab.get {} s.tod.ports p.val).txSeq, 0] ++ ptpTime (s.egStamp p.val)) :: s.out)) ∧
  (∀ p s, s.ptpOn p.val = true → Completes (.announceTimeout p) s (fun t => t.annOf p.val = [])) ∧
  (∀ s p off, s.parent = some p → s.filtered = some off → s.on TOD_SERVO_CFG.EN = true → s.ptpSt p = 3 → s.on TOD_STATUS.PATH_ASYM = false → Completes .servoSecond s
    (fun t => t.tod.samples = [] ∧ t.rd TOD_OFFSET.ALL = TOD_OFFSET.ALL.pat (clampI (-2147483648) 2147483647 off) % 2 ^ TOD_OFFSET.ALL.width ∧
      t.rd TOD_RATE.ALL = TOD_RATE.ALL.pat (s.servoLoop off).2 % 2 ^ TOD_RATE.ALL.width ∧ t.tod.loop = (s.servoLoop off).1)) ∧
  (∀ s p off, s.parent = some p → s.filtered = some off → s.on TOD_SERVO_CFG.EN = true → s.on TOD_STATUS.BASE_OK = true → s.ptpSt p = 2 → s.servoFrozen = false →
    s.on TOD_STATUS.STEP_AVAIL = true → s.tod.step = none → Completes .parentMeasureDone s (fun t => t.rd TOD_STATUS.VALID = 1 ∧ t.rd TOD_STATUS.STEP_AVAIL = 0)) ∧
  (∀ s, s.servo = 3 → s.rd TOD_STATUS.PARENT = 0 → Completes .holdoverExpiry s (fun t => t.tod.holdExpired = true))

/-- The pair commands (Table 14.13): each, once accepted, completes with the reply and the effect its clause gives. PAIR_SWITCH and PAIR_PROMOTE assert both select lines; PAIR_SWITCH at the active
releases them.
Where the rules leave a form, code or order open it states the model's choice: log entries 6, 7, 25, 40, 111 to 123, 155, 161. -/
def Obligations.PairCommands : Prop :=
  Does .pairCfg opPairCfg (fun p _ => ∀ k < 5, wordOk (pairCfgRegs.getD k []) (nth p k) = true)
    (fun _ p _ t => t.rd PAIR_TIMERS.WTR = PAIR_TIMERS.WTR.raw (nth p 1) ∧ t.rd PAIR_CTRL.REVERT = PAIR_CTRL.REVERT.raw (nth p 0) ∧
      t.rd PAIR_MATE_ID.ALL = (nth p 5 + nth p 6 * 2 ^ 32) % 2 ^ 64) ∧
  Answers .pairStatus opPairStatus (fun _ _ => True) (fun _ s => [s.word PAIR_STATUS.fields, s.rd PAIR_EPOCH.ALL, s.rd PAIR_JSEQ.ALL,
    s.rd PAIR_JACK.ALL] ++ w64 (s.rd PAIR_MATE_ID.ALL) ++ (List.range 6).flatMap (fun k => w64 (s.cnt (280 + k)))) ∧
  Does .pairSwitch opPairSwitch (fun p s => nth p 0 = 0 ∧ s.paired ∧ s.role = 2 ∧ s.healthy)
    (fun _ _ _ t => t.role = 1 ∧ t.pair.sel0 = true ∧ t.pair.sel1 = true ∧ t.pair.gap = true) ∧
  Does .pairSwitch opPairSwitch (fun p s => nth p 0 = 1 ∧ s.paired ∧ s.role = 1 ∧ s.rd PAIR_STATUS.MATE_ROLE = 3)
    (fun _ _ _ t => t.role = 2 ∧ t.pair.sel0 = false ∧ t.pair.sel1 = false) ∧
  Does .pairPromote opPairPromote (fun _ s => s.paired ∧ (s.role = 3 ∨ s.role = 4)) (fun _ _ _ t => t.role = 1 ∧ t.pair.sel0 = true ∧ t.pair.sel1 = true) ∧
  Does .pairOos opPairOos (fun _ _ => True) (fun _ _ s t => t.role = 0 ∧ (s.role = 1 → t.pair.sel0 = false ∧ t.pair.sel1 = false)) ∧
  Does .pairReturn opPairReturn (fun _ s => s.role = 0 ∧ s.on PAIR_STATUS.LINK = false) (fun _ _ _ t => t.pair.joinOk = true ∧ t.pair.unresHold = false) ∧
  Does .pairSnapshot opPairSnapshot (fun _ s => s.role = 1) (fun _ _ s t => t.rd PAIR_EPOCH.ALL = (s.rd PAIR_EPOCH.ALL + 1) % 2 ^ 32 ∧ t.pair.jcut = s.rd PAIR_JSEQ.ALL) ∧
  Answers .pairSpares opPairSpares (fun _ _ => True) (fun _ s => (List.range 64).map (fun e => s.word PAIR_ENG.fields e))

/-- Heartbeats, the link, Peg, the journal and the snapshots (R511 to R524): each completes with the effect its clause gives, where the condition its clause names holds.
Where the rules leave a form, code or order open it states the model's choice: log entries 9, 10, 20, 25, 40, 111 to 123, 155, 161. -/
def Obligations.PairLinkEvents : Prop :=
  (∀ s, s.paired → Completes .heartbeatTx s (fun t => s.mitre 1 [s.role, b2n s.healthy, s.rd PAIR_EPOCH.ALL,
    if s.role = 1 then s.rd PAIR_JACK.ALL else s.rd PAIR_JSEQ.ALL, b2n (s.stage == 10), b2n s.inFrame] ∈ s.sentSince t)) ∧
  (∀ r hl e a lk fr ask s, s.paired → s.on PAIR_STATUS.LINK → s.role = 0 → Completes (.heartbeatRx r hl e a lk fr ask) s
    (fun t => t.rd PAIR_STATUS.MATE_ROLE = r.val ∧ t.pair.mateHealthy = hl ∧ t.pair.mateLocked = lk ∧ t.pair.mateEpoch = e.toNat)) ∧
  (∀ g s, s.on PAIR_STATUS.LINK → s.role = 2 → s.pair.death = false → Completes (.mitreLinkLost g) s
    (fun t => t.rd PAIR_STATUS.LINK = 0 ∧ t.rd PAIR_STATUS.MATE_ROLE = 7 ∧ t.pair.death = true)) ∧
  (∀ x s, s.paired → s.on PAIR_STATUS.LINK = false → s.role = 2 → x.id.toNat = s.rd PAIR_MATE_ID.ALL → x.certOk → x.sigOk → x.fmt = s.snapFmt →
    Completes (.mitreLinkUp x) s (fun t => t.rd PAIR_STATUS.LINK = 1 ∧ t.rd PAIR_STATUS.MATE_ROLE = x.role.toNat ∧ t.pair.mateId = x.id.toNat)) ∧
  (∀ x s, s.pair.retry → Completes (.pairAuthRetry x) s (fun t => s.mitre 10 [] ∈ s.sentSince t)) ∧
  (∀ s, s.paired → s.dev = 5 → Completes .pegTx s (fun t => t.out = .peg 3 :: s.out)) ∧
  (∀ us s, s.on PAIR_STATUS.PEG → s.role = 1 → pegCode us ≠ 0 → s.pair.pegCand = pegCode us → 1 ≤ s.pair.pegRun →
    Completes (.pegPulse us) s (fun t => t.rd PAIR_STATUS.PEG_CODE = pegCode us)) ∧
  (∀ s, s.on PAIR_STATUS.PEG → s.role = 1 → Completes .pegLoss s (fun t => t.rd PAIR_STATUS.PEG = 0 ∧ t.rd PAIR_STATUS.PEG_CODE = 0 ∧ t.role = 1)) ∧
  (∀ s, s.pair.death → s.role = 2 → s.on PAIR_STATUS.LINK = false → s.on PAIR_STATUS.PEG → Completes .deathWinEnd s (fun t => t.role = 3 ∧ t.pair.death = false)) ∧
  (∀ j off w s, s.paired → s.on PAIR_STATUS.LINK → s.role = 2 → s.pair.held = [] → s.rd PAIR_JSEQ.ALL < 2 ^ 32 - 2 → j.toNat = s.rd PAIR_JSEQ.ALL + 1 →
    findReg (off.toNat / 4 * 4) = none → Completes (.journalEntryRx j (.value off w)) s (fun t => t.rd PAIR_JSEQ.ALL = j.toNat ∧ t.pair.held = [])) ∧
  (∀ j g s, s.paired → s.on PAIR_STATUS.LINK → s.role = 2 → s.pair.held = [] → s.rd PAIR_JSEQ.ALL < 2 ^ 31 → j.toNat = s.rd PAIR_JSEQ.ALL + 2 →
    Completes (.journalEntryRx j g) s (fun t => t.rd PAIR_JSEQ.ALL = s.rd PAIR_JSEQ.ALL ∧ t.pair.held = [(j.toNat, g)])) ∧
  (∀ s, s.paired → s.role = 2 → s.pair.wait = none → Completes .journalAckTimeout s (fun t => t.role = 3 ∧ t.rd PAIR_STATUS.SYNCED = 0)) ∧
  (∀ s e, s.paired → s.role = 1 → s.on PAIR_STATUS.LINK → s.pair.kept = [e] → jAfter e.jseq (s.rd PAIR_JACK.ALL) →
    Completes .journalResend s (fun t => t.out = s.mitre 2 (e.jseq :: e.epoch :: e.cat :: e.body.length :: e.body) :: s.out)) ∧
  (∀ s, s.paired → s.role = 1 → s.on PAIR_STATUS.LINK → Completes .snapshotPeriod s (fun t => t.rd PAIR_EPOCH.ALL = (s.rd PAIR_EPOCH.ALL + 1) % 2 ^ 32)) ∧
  (∀ x s, s.paired → s.on PAIR_STATUS.LINK → s.role = 3 → x.digestOk → x.items = [] → s.pair.held = [] → s.pair.unresHold = false →
    Completes (.snapshotRx x) s (fun t => t.role = 2 ∧ t.rd PAIR_STATUS.SYNCED = 1 ∧ t.rd PAIR_EPOCH.ALL = x.epoch.toNat ∧ t.rd PAIR_JSEQ.ALL = x.cut.toNat)) ∧
  (∀ s, s.paired → s.role = 3 → s.pair.snapFails < 2 → Completes .snapshotTimeout s (fun t => t.pair.snapFails = s.pair.snapFails + 1 ∧ t.out = s.mitre 5 [] :: s.out))

/-- Comparison, promotion, handover and time (R524, R528 to R542): each completes with the effect its clause gives, where the condition its clause names holds.
Where the rules leave a form, code or order open it states the model's choice: log entries 9, 10, 20, 25, 40, 111 to 123, 155, 161. -/
def Obligations.PairSwitchEvents : Prop :=
  (∀ m s, s.takes m 12 → Completes (.pairCntClr m) s (fun t => ∀ k < 6, t.cnt (280 + k) = 0)) ∧
  (∀ row s, s.paired → s.role = 2 → Completes (.failRx row) s (fun t => t.role = 1 ∧ t.pair.sel0 = true ∧ t.pair.sel1 = true)) ∧
  (∀ s, s.pair.gap → Completes .gapEnd s (fun t => t.pair.gap = false ∧ t.sys.held = [])) ∧
  (∀ d g s, s.comparing d.val → Tab.get [] s.pair.digs d.val = [⟨g.1.toNat, g.2.1.toNat, false, true⟩] → g.2.2 = false →
    Completes (.digestBatchRx d [g]) s (fun t => t.cnt (280 + 2 * d.val) = (s.cnt (280 + 2 * d.val) + 1) % 2 ^ 48 ∧ t.cnt (281 + 2 * d.val) = s.cnt (281 + 2 * d.val))) ∧
  (∀ d f s, (Tab.get [] s.pair.digs d.val).any (fun x => x.ftag == f.toNat) → Completes (.digestMissing d f) s (fun t => t.cnt 285 = (s.cnt 285 + 1) % 2 ^ 48)) ∧
  (∀ s, s.on PAIR_STATUS.IDENT → s.role = 1 → Completes (.identificationDone true false) s (fun t => t.role = 0 ∧ t.rd PAIR_STATUS.IDENT = 0)) ∧
  (∀ s, s.on PAIR_STATUS.WTR_RUN → Completes .pairWtrEnd s (fun t => t.rd PAIR_STATUS.WTR_RUN = 0 ∧ t.rd PAIR_STATUS.WTR_LEFT = 0)) ∧
  (∀ s, s.paired → s.role = 2 → Completes .plannedHandover s (fun t => t.role = 1 ∧ t.pair.sel0 = true ∧ t.pair.sel1 = true ∧ t.pair.mask = 0)) ∧
  (∀ off r s, s.paired → s.on PAIR_STATUS.LINK → s.role = 2 → s.on TOD_STATUS.BASE_OK → s.on TOD_STATUS.STEP_AVAIL = false →
    Completes (.mitreTimeStamp off r) s (fun t => t.rdI TOD_RATE.ALL = clampI (-rateMax) rateMax r.toInt))

/-- The Gauge commands (Table 15.6): each, once accepted, completes with the reply and the effect its clause gives.
Where the rules leave a form, code or order open it states the model's choice: log entries 6, 7, 124 to 126, 161. -/
def Obligations.GaugeCommands : Prop :=
  Does .monCfg opMonCfg (fun p s => nth p 0 ≤ 1 ∧ wordOk MON_CHAIN.fields (nth p 2) = true ∧ pwOk (MON_TRIG.PW_MIN.raw (nth p 3)) (MON_TRIG.PW_MAX.raw (nth p 3)) = true ∧
      MON_PERIOD.PERIOD.inRange (MON_PERIOD.PERIOD.raw (nth p 5)) = true ∧ (nth p 0 = 0 → s.m0Bias = false))
    (fun _ p _ t => t.rd MON_SCAN.ALL (nth p 0) = nth p 1 ∧ t.rd MON_CHAIN.K (nth p 0) = MON_CHAIN.K.raw (nth p 2) ∧ t.rd MON_TRIG.SRC (nth p 0) = MON_TRIG.SRC.raw (nth p 3) ∧
      t.rd MON_PERIOD.PERIOD (nth p 0) = MON_PERIOD.PERIOD.raw (nth p 5)) ∧
  Does .monStart opMonStart (fun p s => nth p 0 ≤ 1 ∧ nth p 1 ≤ 1 ∧ (nth p 0 = 0 → s.m0Bias = false))
    (fun _ p _ t => t.rd (enFld (nth p 0)) = nth p 1 ∧ t.rd (burstFld (nth p 0)) = 0 ∧ (t.mon.mod (nth p 0)).active = false) ∧
  Does .monRead opMonRead (fun p s => s.plain ∧ nth p 0 ≤ 1 ∧ 1 ≤ nth p 1 ∧ nth p 1 ≤ 256 ∧ (nth p 0 = 0 → s.m0Bias = false) ∧ Tab.get [] s.mon.queues (nth p 0) ≠ [])
    (fun h p s t => t.payload h = (((Tab.get [] s.mon.queues (nth p 0)).take (nth p 1)).length :: ((Tab.get [] s.mon.queues (nth p 0)).take (nth p 1)).flatMap w64).map (· % 2 ^ 32) ∧
      Tab.get [] t.mon.queues (nth p 0) = (Tab.get [] s.mon.queues (nth p 0)).drop (nth p 1)) ∧
  Does .monTrigger opMonTrigger (fun p s => nth p 0 = 2 ∧ 1 ∈ s.triggerable 2 ∧ s.rd MON_TRIG_TIME.DELAY 1 ≠ 0)
    (fun _ _ _ t => (t.mon.mod 1).delay = true ∧ (t.mon.mod 1).pw = 0 ∧ t.rd (burstFld 1) = 1) ∧
  Starts .monSyscal opMonSyscal (fun p s => nth p 0 = 1 ∧ 24 ≤ nth p 1 ∧ nth p 1 ≤ 31 ∧ 8 ≤ nth p 3 ∧ nth p 3 ≤ 14 ∧ s.on MON_STATUS.SYSCAL = false ∧ s.interleaved = false)
    (fun h p _ t => t.rd MON_STATUS.SYSCAL = 1 ∧ t.mon.cal = some (runOf h 0x0E05 p)) ∧
  Answers .monStatus opMonStatus (fun _ _ => True) (fun _ s => [s.monStatus] ++ [0, 1].map (fun m => s.word [MON_Q_STAT.LEVEL, MON_Q_STAT.LOST] m) ++
    [0, 1].map (fun m => s.rd MON_TRIG_OVR.ALL m))

/-- Triggers, words, queues and system calibration (R554 to R573): each completes with the effect its clause gives, where the condition its clause names holds.
Where the rules leave a form, code or order open it states the model's choice: log entries 9, 10, 20, 124 to 126, 161. -/
def Obligations.GaugeEvents : Prop :=
  (∀ z0 f0 z1 f1 r s, s.mon.cal = some r → nth r.par 0 = 1 → Completes (.monSyscalDone z0 f0 z1 f1) s (fun t => t.rd MON_STATUS.SYSCAL = 0 ∧ t.mon.cal = none ∧
    t.mon.zero = some (nth r.par 1, pgaOf (s.rd MON_PGA.ALL) (nth r.par 1), modCorrect (s.cnv.setWords 7) 0 (meanOf (nth r.par 3) z0)))) ∧
  (∀ m s, s.takes m 13 → Completes (.monCntClr m) s (fun t => ∀ k < 2, t.rd MON_Q_STAT.LOST k = 0 ∧ t.rd MON_TRIG_OVR.ALL k = 0)) ∧
  (∀ m v s, s.takes m 13 → s.m0Bias = false → s.on MON_STATUS.SYSCAL = false → Completes (.monInterleaveWrite m v) s (fun t => t.interleaved = v)) ∧
  (∀ m q s, Completes (.monQRead m q) s (fun t => t.out = .readData m.val (MON_Q.ALL.at q.val) (s.monQWord m.val q.val % 2 ^ 32) :: s.out ∧
    (s.monQWord m.val q.val ≠ 2 ^ 63 → Tab.get [] t.mon.queues q.val = (Tab.get [] s.mon.queues q.val).drop 1))) ∧
  (∀ m s, s.ownTrigger m.val = true → s.rd MON_TRIG.SRC m.val = 1 → s.monRuns m.val = true → (s.mon.mod m.val).active = false → (s.mon.mod m.val).delay = false →
    s.on MON_STATUS.SYSCAL = false → s.rd MON_TRIG_TIME.DELAY m.val ≠ 0 → Completes (.monTimerTrigger m) s (fun t => (t.mon.mod m.val).delay = true ∧ t.rd (burstFld m.val) = 1)) ∧
  (∀ m s, s.ownTrigger m.val = true → s.rd MON_TRIG.SRC m.val = 1 → s.monRuns m.val = true → (s.mon.mod m.val).active = true →
    Completes (.monTimerTrigger m) s (fun t => t.mon = s.mon ∧ t.rd MON_TRIG_OVR.ALL m.val = sat (2 ^ MON_TRIG_OVR.ALL.width - 1) (s.rd MON_TRIG_OVR.ALL m.val + 1) % 2 ^ MON_TRIG_OVR.ALL.width)) ∧
  (∀ ns s, s.ltx.dsync = some ns → s.interleaved = true → s.rd MON_TRIG.SRC 0 = 2 → s.rd MON_TRIG.PW_MIN 0 ≤ ns / 10 → ns / 10 ≤ s.rd MON_TRIG.PW_MAX 0 →
    s.monRuns 0 = true → (s.mon.mod 0).active = false → (s.mon.mod 0).delay = false → s.on MON_STATUS.SYSCAL = false → Completes .dsyncPulse s
    (fun t => t.ltx.dsync = none ∧ (t.mon.mod 0).pw = pwTag (ns / 10) ∧ (t.mon.mod 1).pw = pwTag (ns / 10))) ∧
  (∀ m s, (s.mon.mod m.val).delay = true → Completes (.monDelayEnd m) s (fun t => (t.mon.mod m.val).delay = false ∧ (t.mon.mod m.val).active = true ∧
    (t.mon.mod m.val).seq = ((s.mon.mod m.val).seq + 1) % 16)) ∧
  (∀ m bs c s, s.on MON_STATUS.SYSCAL = false → s.monRuns m.val = true → s.m0Bias = false → (s.mon.mod m.val).restart = true → Completes (.monWord m bs c) s
    (fun t => (t.mon.mod m.val).restart = false ∧ (t.mon.mod m.val).settle = s.monS m.val ∧ (t.mon.mod m.val).chain = ChainSt.zero (s.monK m.val))) ∧
  (∀ m bs c s, s.on MON_STATUS.SYSCAL = false → s.monRuns m.val = true → s.m0Bias = false → (s.mon.mod m.val).restart = false → (s.mon.mod m.val).active = false →
    (s.mon.mod m.val).delay = true → Completes (.monWord m bs c) s
    (fun t => (t.mon.mod m.val).chain = (s.mon.mod m.val).chain.word (s.monK m.val) (s.monR m.val) (s.monFir m.val) bs ∧ t.mon.queues = s.mon.queues))

/-- The observability commands (Table 16.8): each, once accepted, completes with the reply and the effect its clause gives.
Where the rules leave a form, code or order open it states the model's choice: log entries 6, 7, 24, 127 to 130, 160. -/
def Obligations.ObserveCommands : Prop :=
  Does .obsSnapshot opObsSnapshot (fun _ _ => True) (fun _ _ s t => t.bank = s.cnts ∧ t.bankWraps = s.wraps ∧ t.snapGen = s.nextGen) ∧
  Does .obsCntRead opObsCntRead (fun p _ => 1 ≤ nth p 1 ∧ nth p 1 ≤ 256 ∧ nth p 0 + nth p 1 ≤ 2048 ∧ nth p 2 = 0) (fun _ _ s t => t.snapGen = s.nextGen ∧ t.bank = s.bank) ∧
  Does .obsCntPreset opObsCntPreset (fun p _ => p.length = 3 ∧ assigned (nth p 0) = true ∧ nth p 0 ≤ 2047 ∧ nth p 2 ≤ 65535 ∧ nth p 0 ≠ 64)
    (fun _ p _ t => t.cnt (nth p 0) = nth p 1 + 2 ^ 32 * nth p 2) ∧
  Does .obsEvtRoute opObsEvtRoute (fun p _ => (routeOf (nth p 0)).isSome = true)
    (fun _ p _ t => ∀ f ∈ OBS_EVT_ROUTE.fields, t.rd f ((routeOf (nth p 0)).getD 0) = f.raw (nth p 1)) ∧
  Does .obsDumpCfg opObsDumpCfg (fun p _ => wordOk [OBS_DUMP_PERIOD.PERIOD] (nth p 1) = true)
    (fun _ p _ t => t.rd OBS_DUMP_CFG.RANGES = OBS_DUMP_CFG.RANGES.raw (nth p 0) ∧ t.rd OBS_DUMP_CFG.DEST = OBS_DUMP_CFG.DEST.raw (nth p 0) ∧
      t.rd OBS_DUMP_PERIOD.PERIOD = OBS_DUMP_PERIOD.PERIOD.raw (nth p 1)) ∧
  Does .obsBwCfg opObsBwCfg (fun p _ => nth p 0 ≤ 15 ∧ wordOk OBS_BW_CFG.fields (nth p 1) = true)
    (fun _ p _ t => t.rd OBS_BW_CFG.PORT (nth p 0) = OBS_BW_CFG.PORT.raw (nth p 1) ∧ Tab.get 0 t.obs.bwDiscard (nth p 0) = 1) ∧
  Does .capCfg opCapCfg (fun p s => s.capOk (nth p 0) = true ∧ s.rd OBS_CAP_STAT.SOFT_STATE ≠ 0 ∧ postOk s.slots (nth p 1) = true)
    (fun _ p _ t => t.rd OBS_CAP_CFG.REARM = OBS_CAP_CFG.REARM.raw (nth p 0) ∧ t.rd OBS_CAP_POST.SOFT_POST = OBS_CAP_POST.SOFT_POST.raw (nth p 1) ∧
      ∀ k < 8, t.rd OBS_TRIG_CFG.RAW k = OBS_TRIG_CFG.RAW.raw (nth p (2 + k))) ∧
  Does .capTrigger opCapTrigger (fun p s => nth p 0 ≤ 7 ∧ s.on OBS_TRIG_CFG.RAW (nth p 0) = true ∧ s.rd OBS_CAP_STAT.RAW_STATE = 1)
    (fun _ p _ t => t.rd OBS_CAP_STAT.RAW_STATE = 2 ∧ t.rd OBS_CAP_STAT.RAW_INPUT = nth p 0) ∧
  Starts .capRead opCapRead (fun p s => nth p 0 = 1 ∧ s.obs.capRead = none ∧ s.rd OBS_CAP_STAT.RAW_STATE = 3 ∧
      nth p 3 + 2 ^ 32 * nth p 4 + (nth p 5 + 2 ^ 32 * nth p 6) ≤ 134217728)
    (fun h p _ t => t.obs.capRead = some (runOf h 0x0F09 p)) ∧
  Does .capRearm opCapRearm (fun p s => (nth p 0 = 1 ∨ nth p 0 = 2) ∧ s.rd (capState (nth p 0 == 2)) = 3) (fun _ p _ t => t.rd (capState (nth p 0 == 2)) = 1) ∧
  Does .recCfg opRecCfg (fun p _ => wordOk OBS_REC_CFG.fields (nth p 0) = true)
    (fun _ p _ t => t.rd OBS_REC_CFG.EN = OBS_REC_CFG.EN.raw (nth p 0) ∧ t.rd OBS_REC_CFG.LOG_PCT = OBS_REC_CFG.LOG_PCT.raw (nth p 0)) ∧
  Starts .recRead opRecRead (fun p s => (nth p 0 = 1 ∨ nth p 0 = 2) ∧ s.obs.recRead = none) (fun h p _ t => t.obs.recRead = some (runOf h 0x0F0C p)) ∧
  Does .recHold opRecHold (fun p s => nth p 1 = 0 ∧ (s.obs.wins.find? (fun w => w.num = nth p 0)).isSome = true)
    (fun _ p s t => t.obs.wins = holdWin (nth p 0) false s.obs.wins ∧ t.rd OBS_REC_STAT.HELD = heldCount (holdWin (nth p 0) false s.obs.wins) % 2 ^ OBS_REC_STAT.HELD.width) ∧
  Answers .recStatus opRecStatus (fun _ _ => True) (fun _ s => s.word OBS_REC_STAT.fields :: ((Tab.get {} s.obs.drives 0).words ++ (Tab.get {} s.obs.drives 1).words ++
    ((s.obs.wins.filter (·.held)).map (·.num))))

/-- Counters, dumps, windows, captures, the recorder and its drives (R578 to R604, R704), register writes and events: each completes with the effect its clause gives, where the condition its clause names holds. Index 64
counts the recorder's own losses, which a record of the write may add to.
Where the rules leave a form, code or order open it states the model's choice: log entries 9, 10, 20, 24, 127 to 130, 160. -/
def Obligations.ObserveEvents : Prop :=
  (∀ m s, s.takes m 14 → Completes (.obsCntClr m) s (fun t => ∀ k < 1600, (k < 128 ∧ k ≠ 64) ∨ 1024 ≤ k → t.cnt k = 0)) ∧
  (∀ m s, s.takes m 14 → Completes (.bwClear m) s (fun t => ∀ k < 16, t.rd OBS_BW_MAX.ALL k = 0 ∧ t.rd OBS_BW_MIN.ALL k = 2 ^ 48 - 1)) ∧
  (∀ m s, s.takes m 14 → Completes (.obsSnapTake m) s (fun t => t.bank = s.cnts ∧ t.bankWraps = s.wraps ∧ t.snapGen = s.nextGen)) ∧
  (∀ m j s, s.takes m 14 → assigned j.toNat = true → j.toNat ≠ 64 → Completes (.obsPreset m j) s (fun t => t.cnt j.toNat = s.rd OBS_PRESET_VAL.ALL % 2 ^ 48)) ∧
  (∀ m i w s, s.takes m 14 → Completes (.wrapClear m i w) s (fun t => ∀ k ∈ bitsSet 32 w.toNat, 32 * i.val + k ≠ 64 → Tab.get 0 t.wraps (32 * i.val + k) = 0)) ∧
  (∀ s, s.on OBS_DUMP_CFG.EN = true → Completes .dumpPeriod s (fun t => t.snapGen = s.nextGen ∧ t.bank = s.bank)) ∧
  (∀ w b s, s.on OBS_BW_CFG.EN w.val = true → Tab.get 0 s.obs.bwDiscard w.val ≠ 1 → Completes (.bwWindowEnd w b) s (fun t => t.rd OBS_BW_BYTES.ALL w.val = b % 2 ^ 48 ∧
    t.rd OBS_BW_STAT.GEN w.val = (s.rd OBS_BW_STAT.GEN w.val + 1) % 2 ^ OBS_BW_STAT.GEN.width)) ∧
  (∀ k s, s.on OBS_TRIG_CFG.SOFT k.val = true → s.rd OBS_CAP_STAT.SOFT_STATE = 1 → Completes (.triggerInputFire k) s
    (fun t => t.rd OBS_CAP_STAT.SOFT_STATE = 2 ∧ t.rd OBS_CAP_STAT.SOFT_INPUT = k.val)) ∧
  (∀ soft fl s, s.rd (capState soft) = 2 → s.on OBS_CAP_CFG.DRAIN_AUTO = false → Completes (.capFrozen soft fl) s (fun t => t.rd (capState soft) = 3 ∧
    t.rd (if soft then OBS_CAP_STAT.SOFT_SHORT else OBS_CAP_STAT.RAW_SHORT) = b2n (!fl))) ∧
  (∀ ms n s, s.obs.rawWin = some n → Completes (.drainDone false ms) s (fun t => t.obs.rawWin = none ∧ t.rd OBS_CAP_STAT.RAW_STATE = if s.on OBS_CAP_CFG.REARM then 1 else 3)) ∧
  (∀ s y, s.rd OBS_REC_STAT.DRIVES_OK ≠ 0 → s.on SEC_STATUS.KEEPER_ALARM = false → (s.vnr.slot 0 (s.rd VNR_PAGE_STAT.TX_KP 0)).cur = some y → Completes .segmentWriteDone s
    (fun t => t.obs.sseq = s.obs.sseq + 1 ∧ t.cnt 417 = (s.cnt 417 + 1) % 2 ^ 48 ∧ (t.vnr.slot 0 (s.rd VNR_PAGE_STAT.TX_KP 0)).cur = some { y with la := y.la + 1 } ∧
      Output.drive (if s.rd OBS_REC_STAT.DRIVES_OK = 3 then s.obs.sseq % 2 else if s.rd OBS_REC_STAT.DRIVES_OK = 1 then 0 else 1) 1
        (s.segment y (takeSegment 65472 s.obs.recs).1) ∈ s.sentSince t)) ∧
  (∀ p e c s, Completes (.driveFail p e c) s (fun t => (Tab.get {} t.obs.drives p.val).usable = false ∧ (Tab.get {} t.obs.drives p.val).used = false)) ∧
  (∀ p b sm s, Completes (.driveReady p b sm) s (fun t => t.obs.sseq = 0 ∧ (Tab.get {} t.obs.drives p.val).usable = true ∧ (Tab.get {} t.obs.drives p.val).cap = b.toNat)) ∧
  (∀ s, s.sys.coalDue = false → Completes .eqCoalesceEnd s (fun t => t.sys.coalOpen = false ∧ t.regs = s.regs)) ∧
  (∀ s r, s.obs.capRead = some r → Completes .capReadDone s (fun t => t.obs.capRead = none ∧
    Output.copy (nth r.par 1 + 2 ^ 32 * nth r.par 2) (nth r.par 5 + 2 ^ 32 * nth r.par 6) ∈ s.sentSince t)) ∧
  (∀ n a b pt s r, s.obs.recRead = some r → Completes (.recReadDone n a b pt) s (fun t => t.obs.recRead = none ∧
    Output.copy (nth r.par 5 + 2 ^ 32 * nth r.par 6) (nth r.par 7) ∈ s.sentSince t))

/-- The system and engine commands (Table 17.11): each, once accepted, completes with the reply and the effect its clause gives.
Where the rules leave a form, code or order open it states the model's choice: log entries 6, 7, 26 to 30, 36 to 39, 41 to 48, 158. -/
def Obligations.SystemCommands : Prop :=
  Answers .identify opIdentify (fun _ _ => True) (fun _ s => [s.fuse.part.code] ++ w64 s.fuse.devId ++ [s.rd CMD_BAT_STAT.ADDR, imageVersion s.sec.flash.keeperA,
    imageVersion s.sec.flash.engineA, imageVersion s.sec.flash.keeperB, imageVersion s.sec.flash.engineB]) ∧
  Answers .status opStatus (fun _ _ => True) (fun _ s => [s.word CMD_STATUS.fields, s.word CMD_BAT_STAT.fields] ++ s.cmd.sessions) ∧
  Does .sysStateSet opSysStateSet (fun p s => s.stateOk (nth p 0) = true) (fun _ p _ t => t.dev = nth p 0) ∧
  Does .sysSessionOpen opSysSessionOpen (fun _ s => s.cmd.sessions.length < 16)
    (fun _ _ s t => t.cmd.sessions = s.cmd.sessions ++ [s.newSession] ∧ t.rd CMD_STATUS.SESSIONS = (s.cmd.sessions.length + 1) % 2 ^ CMD_STATUS.SESSIONS.width) ∧
  Does .sysSessionClose opSysSessionClose (fun p s => nth p 0 ∈ s.cmd.sessions) (fun _ p _ t => nth p 0 ∉ t.cmd.sessions ∧ Tab.get [] t.sec.keys (nth p 0) = []) ∧
  Does .sysSlotRelease opSysSlotRelease (fun p s => s.plain ∧ nth p 0 ≤ 65535 ∧ 1 ≤ nth p 1 ∧ nth p 1 ≤ 1024)
    (fun h p s t => t.payload h = [(((List.range (nth p 1)).map (fun i => (nth p 0 + i) % 65536)).filter (s.holdsFinal h.ring.val)).length % 2 ^ 32]) ∧
  Does .sysRegAccess opSysRegAccess (fun p s => s.plain ∧ ∀ i < p.length / 3, nth p (3 * i + 1) = 1 ∧ nth p (3 * i) < 0x4000000)
    (fun h p s t => t.payload h = ((regEntries (p.length / 3) p s).2.1 ++ (regEntries (p.length / 3) p s).2.2).map (· % 2 ^ 32)) ∧
  Answers .battenStatus opBattenStatus (fun _ _ => True) (fun _ s => s.rd CMD_BAT_STAT.COUNT :: (List.range (s.rd CMD_BAT_STAT.COUNT)).flatMap (fun a =>
    w64 (if a = s.rd CMD_BAT_STAT.ADDR then s.fuse.devId else Tab.get 0 s.cmd.ids a))) ∧
  Answers .engStatus opEngStatus (fun _ _ => True) (fun _ s => (List.range 64).map (fun e => s.word ENG_CORE.fields e) ++ [s.word ENG_FW_STAT.fields]) ∧
  Does .engCfg opEngCfg (fun p _ => wordOk [ENG_WDOG.PERIOD] (nth p 0) = true ∧ wordOk [ENG_FW_CFG.PROBATION] (nth p 1) = true)
    (fun _ p _ t => t.rd ENG_WDOG.PERIOD = ENG_WDOG.PERIOD.raw (nth p 0) ∧ t.rd ENG_FW_CFG.PROBATION = ENG_FW_CFG.PROBATION.raw (nth p 1)) ∧
  Starts .fwStage opFwStage (fun _ s => s.eng.stage = none ∧ s.eng.update = none) (fun h p _ t => t.eng.stage = some (runOf h 0x1003 p)) ∧
  Starts .fwActivate opFwActivate (fun _ s => s.eng.staged.isSome = true ∧ s.eng.update = none ∧ s.eng.stage = none ∧ s.eng.migs = [] ∧ s.paired = false ∧
      (∀ c < 7, ∃ k < 8, s.rd ENG_CORE.STATE (8 * c + k) = 1) ∧ ∃ e < 56, s.rd ENG_CORE.STATE e = 0)
    (fun h p _ t => t.eng.update = some ⟨runOf h 0x1004 p, [], false⟩ ∧ t.rd ENG_FW_STAT.PHASE = 2) ∧
  Does .fwCommit opFwCommit (fun _ s => s.eng.staged.isSome = true ∧ s.eng.update = none ∧ s.eng.stage = none)
    (fun _ _ s t => t.rd ENG_FW_STAT.BANK = s.eng.stagedBank % 2 ^ ENG_FW_STAT.BANK.width ∧ t.sec.flash = s.sec.flash.commit s.eng.stagedBank) ∧
  Starts .sbxLoad opSbxLoad (fun p s => s.eng.sbxLoad = none ∧ s.lifecycle ≠ 3 ∧ sbxMaskOk (nth p 3) = true) (fun h p _ t => t.eng.sbxLoad = some (runOf h 0x1006 p, nth p 3)) ∧
  Does .sbxCtrl opSbxCtrl (fun p s => sbxMaskOk (nth p 2) = true ∧ nth p 3 = 0 ∧ (sbxOf (nth p 2)).all s.eng.sbxTasks.contains = true ∧
      wordOk ENG_SBX_CFG.fields (nth p 0) = true ∧ s.sbxFits (nth p 0) = true)
    (fun _ p s t => t.rd ENG_SBX_CFG.EN = ENG_SBX_CFG.EN.raw (nth p 0) ∧ ∀ k ∈ sbxOf (nth p 2), t.rd ENG_CORE.STATE (s.sbxAt k) = 6) ∧
  (∀ taken posted, Does (fun h p => .sbxMsg h p taken posted) (opSbxMsg taken posted) (fun p s => nth p 0 ∈ s.eng.sbxTasks ∧ 1 < p.length ∧ ((Tab.get [] s.eng.sbxIn (nth p 0)).drop taken).length < 16)
    (fun _ p s t => Tab.get [] t.eng.sbxIn (nth p 0) = (Tab.get [] s.eng.sbxIn (nth p 0)).drop taken ++ [p.drop 1] ∧ Output.sandbox (nth p 0) (p.drop 1) ∈ s.sentSince t))

/-- The engines (R543 to R545, R621, R632 to R639): each completes with the effect its clause gives, where the condition its clause names holds.
Where the rules leave a form, code or order open it states the model's choice: log entries 9, 10, 20, 26 to 30, 36 to 39, 41 to 48, 158. -/
def Obligations.EngineEvents : Prop :=
  (∀ e s, s.engRuns e.val = true → e.val < 56 → s.eng.update = none → Completes (.engWatchdog e) s (fun t => t.rd ENG_CORE.STATE e.val = 2 ∧ t.rd ENG_CORE.CAUSE e.val = 1 ∧
    t.rd ENG_CORE.TASK e.val = 255)) ∧
  (∀ e s, s.engRuns e.val = true → e.val < 56 → s.eng.update = none → Completes (.engTrap e) s (fun t => t.rd ENG_CORE.STATE e.val = 2 ∧ t.rd ENG_CORE.CAUSE e.val = 3)) ∧
  (∀ e s, 56 ≤ e.val → s.rd ENG_CORE.STATE e.val = 0 → Completes (.engTrap e) s (fun t => t.rd ENG_CORE.STATE e.val = 6 ∧ t.rd ENG_CORE.CAUSE e.val = 3 ∧ t.eng = s.eng)) ∧
  (∀ e s, Completes (.engEcc e true) s (fun t => t.rd ENG_CORE.SBE e.val = sat (2 ^ ENG_CORE.SBE.width - 1) (s.rd ENG_CORE.SBE e.val + 1) % 2 ^ ENG_CORE.SBE.width ∧
    t.rd ENG_CORE.STATE e.val = s.rd ENG_CORE.STATE e.val)) ∧
  (∀ e s, s.engRuns e.val = true → Completes (.engEcc e false) s (fun t => t.rd ENG_CORE.STATE e.val = 2 ∧ t.rd ENG_CORE.CAUSE e.val = 2)) ∧
  (∀ sp pass m s, s.migBy sp.val = some m → m.resumed = false → Completes (.taskResume sp pass) s (fun t => t.rd ENG_CORE.TASK sp.val = m.task % 2 ^ ENG_CORE.TASK.width)) ∧
  (∀ e pass s, s.rd ENG_CORE.STATE e.val = 4 → Completes (.engineRetest e pass) s (fun t => t.rd ENG_CORE.STATE e.val = if pass then 3 else 4)) ∧
  (∀ e s, s.rd ENG_CORE.STATE e.val = 3 → s.migOf e.val = none → Completes (.spareWtrEnd e) s (fun t => t.rd ENG_CORE.STATE e.val = 1 ∧ t.rd ENG_CORE.TASK e.val = 255)) ∧
  (∀ c s, c.val < 7 → s.dev ≠ 0 → s.dev ≠ 5 → Completes (.sharedSramError c) s (fun t => t.dev = 5 ∧ bit (t.rd CMD_STATUS.FAULT_CAUSE) 1 = true)) ∧
  (∀ hd bd r s, s.eng.stage = some r → Completes (.fwStageDone hd bd) s (fun t => t.eng.stage = none ∧ t.eng.staged =
    (if (s.verify 2 ⟨hd.map (·.toNat), bd.map (·.toNat)⟩).isNone then some ⟨hd.map (·.toNat), bd.map (·.toNat)⟩ else s.eng.staged) ∧
    t.sec.flash = (if (s.verify 2 ⟨hd.map (·.toNat), bd.map (·.toNat)⟩).isNone then s.sec.flash.setEngine s.idleBank ⟨hd.map (·.toNat), bd.map (·.toNat)⟩ else s.sec.flash))) ∧
  (∀ u w ws s, s.eng.update = some u → u.probation = true → u.swaps = w :: ws → Completes .fwProbationEnd s
    (fun t => t.cnt (1024 + EV.FW_ENGINE_DONE.x) = (s.cnt (1024 + EV.FW_ENGINE_DONE.x) + 1) % 2 ^ 48 ∧ ∀ v, t.eng.update = some v → v.probation = false)) ∧
  (∀ hd bd r mask s, s.eng.sbxLoad = some (r, mask) → Completes (.sbxLoadDone hd bd) s (fun t => t.eng.sbxLoad = none ∧
    ((s.verify 3 ⟨hd.map (·.toNat), bd.map (·.toNat)⟩) = none → ∀ k ∈ sbxOf mask, k ∈ t.eng.sbxTasks)))

/-- The rings, the intake, timeouts and Batten (R611 to R630, R663): each completes with the effect its clause gives, where the condition its clause names holds.
Where the rules leave a form, code or order open it states the model's choice: log entries 9, 10, 20, 26 to 30, 36 to 39, 41 to 48, 158. -/
def Obligations.HostEvents : Prop :=
  (∀ m r v s, s.takes m 18 → (v.toNat + 65536 - s.rd CMD_RING_STAT.CONS r.val) % 65536 ≤ 2 ^ s.rd CMD_RING_CFG.CDEPTH r.val → Completes (.cmdDoorbell m r v) s
    (fun t => Tab.get 0 t.cmd.prod r.val = v.toNat ∧ t.cnt 39 = s.cnt 39)) ∧
  (∀ m r v s, s.takes m 18 → 2 ^ s.rd CMD_RING_CFG.CDEPTH r.val < (v.toNat + 65536 - s.rd CMD_RING_STAT.CONS r.val) % 65536 → Completes (.cmdDoorbell m r v) s
    (fun t => t.cnt 39 = (s.cnt 39 + ((v.toNat + 65536 - s.rd CMD_RING_STAT.CONS r.val) % 65536 - 2 ^ s.rd CMD_RING_CFG.CDEPTH r.val)) % 2 ^ 48)) ∧
  (∀ m r v s, s.takes m 18 → Completes (.replyAck m r v) s (fun t => t.rd CMD_RACK.ALL r.val = v.toNat)) ∧
  (∀ m v s, s.takes m 18 → Completes (.dumpConsWrite m v) s (fun t => t.rd CMD_DUMP_CONS.ALL = v.toNat)) ∧
  (∀ pkt r s, s.midCommand = false → s.on CMD_STATUS.RING_OK = true → s.cmd.inbox = [] → s.nextRing = some r → Completes (.commandFetch pkt) s (fun t =>
    ∃ s', t = (acceptCmd r (pkt.map (·.toNat))).act s' ∧ s'.cmd.lastRing = r.val ∧ s'.cmd.slots = s.cmd.slots ∧
      s'.rd CMD_RING_STAT.CONS r.val = (s.rd CMD_RING_STAT.CONS r.val + 1) % 2 ^ CMD_RING_STAT.CONS.width)) ∧
  (∀ r rep rest s, Tab.get [] s.cmd.waiting r.val = rep :: rest → s.on CMD_RING_CFG.EN r.val = true → rep.entries ≤ s.freeReplies r.val → Completes (.replyWrite r) s
    (fun t => Tab.get [] t.cmd.waiting r.val = rest ∧ t.rd CMD_RING_STAT.RPROD r.val = (s.rd CMD_RING_STAT.RPROD r.val + rep.entries) % 2 ^ CMD_RING_STAT.RPROD.width ∧
      ∃ k c, Output.reply r.val k (rep.words ++ [c]) ∈ s.sentSince t)) ∧
  (∀ r q run s, Tab.get none s.cmd.slots (slotKey r.val q.toNat) = some ⟨run, none⟩ → run.seq = q.toNat → run.ring = r.val → run.flags = 0 → run.opcode = 0x0F09 →
    s.pair.wait = none → Completes (.cmdTimeout r q) s (fun t => t.obs.capRead = none ∧
      ((Tab.get none t.cmd.slots (slotKey r.val q.toNat)).bind (·.reply)).map (·.status) = some Status.timeout.code)) ∧
  (∀ m s, s.takes m 18 → s.on CMD_BAT_STAT.HEAD = true → s.srd.batten.up = true → Completes (.battenRestart m) s (fun t => t.rd CMD_BAT_STAT.ENUM = 1 ∧ t.cmd.tokenOut = some (1, 0))) ∧
  (∀ a ids s, s.on CMD_BAT_STAT.HEAD = false → a.toNat < 64 → Completes (.battenTokenRx a 0 (BitVec.ofNat 8 (tokenCheck a.toNat 0)) ids) s
    (fun t => t.rd CMD_BAT_STAT.ADDR = a.toNat ∧ t.out = tokenOut (a.toNat + 1) 0 :: s.out)) ∧
  (∀ a n check ids s, tokenCheck a.toNat n.toNat ≠ check.toNat → Completes (.battenTokenRx a n check ids) s (fun t => t = s)) ∧
  (∀ dst src ring ty body s, src.toNat ≠ s.rd CMD_BAT_STAT.ADDR → dst.toNat ≠ s.rd CMD_BAT_STAT.ADDR → Completes (.battenPacketRx dst src ring ty body) s
    (fun t => t.out = s.batten dst.toNat src.toNat ring.val ty.toNat (body.map (·.toNat)) :: s.out ∧ t.regs = s.regs)) ∧
  (∀ dst src ring body s, src.toNat ≠ s.rd CMD_BAT_STAT.ADDR → dst.toNat = s.rd CMD_BAT_STAT.ADDR → Completes (.battenPacketRx dst src ring 1 body) s
    (fun t => Tab.get [] t.cmd.waiting ring.val = Tab.get [] s.cmd.waiting ring.val ++ [replyOf ring.val (body.map (·.toNat))])) ∧
  (∀ s, s.cmd.tokenOut.isSome = true → Completes .enumTimeout s (fun t => t.rd CMD_BAT_STAT.ENUM = 3 ∧ t.rd CMD_BAT_STAT.COUNT = 1 ∧ t.cmd.retryDue = true)) ∧
  (∀ s, s.cmd.retryDue = true → s.on CMD_BAT_STAT.HEAD = true → s.srd.batten.up = true → Completes .enumRetry s (fun t => t.rd CMD_BAT_STAT.ENUM = 1 ∧ t.cmd.tokenOut = some (1, 0))) ∧
  (∀ down s, Completes (.pcieHostReset down) s (fun t => t.cmd.sessions = [] ∧ t.cmd.slots = [] ∧ t.sys.msixEn = false ∧ (∀ r < 4, t.rd CMD_RING_CFG.EN r = 0) ∧
    (down = true → t.rd CMD_BAT_STAT.HEAD = 0 ∧ t.rd CMD_BAT_STAT.ADDR = 127))) ∧
  (∀ s, s.on CMD_BAT_STAT.HEAD = false → Completes .pcieLinkUp s (fun t => t.rd CMD_BAT_STAT.HEAD = 1 ∧ t.rd CMD_BAT_STAT.ADDR = 0 ∧ t.rd CMD_BAT_STAT.COUNT = 1))

/-- A packet that reaches the interpreter with a good CRC, this device's address and a free slot runs the command of its opcode, with the
parameters behind its header (R616, Table 17.1, Table 17.3).
Where the rules leave a form, code or order open it states the model's choice: log entries 9, 10, 20, 26 to 30, 36 to 39, 41 to 48, 158. -/
def Obligations.PacketRunsCommand : Prop :=
  ∀ op ∈ opTable, ∀ (ring : Fin 4) (ws : List Nat) (s : State), nth ws 0 % 65536 = op.code → nth ws 1 / 65536 ≤ 1019 →
    crc32cWords (ws.take (4 + nth ws 1 / 65536)) = nth ws (4 + nth ws 1 / 65536) → nth ws 1 % 256 = s.ownAddr → s.dev ≠ 0 → s.rd PWR_STATUS.STATE ≠ 4 → s.lifecycle ≠ 4 →
    Tab.get none s.cmd.slots (slotKey ring.val (nth ws 0 / 65536 % 65536)) = none →
    (acceptCmd ring ws).act s = (felwinN op ⟨ring, BitVec.ofNat 16 (nth ws 0 / 65536), BitVec.ofNat 16 (nth ws 2), BitVec.ofNat 8 (nth ws 1 / 256)⟩
      ((ws.take (4 + nth ws 1 / 65536)).drop 4)).act s

/-- The security and power commands (Table 18.14): each, once accepted, completes with the reply and the effect its clause gives. SEC_LIFECYCLE to RETURN is
decided by the token's signature, which the model leaves open (log entry 5); an attempt uses the nonce up either way (R658).
Where the rules leave a form, code or order open it states the model's choice: log entries 6, 7, 5, 22, 131 to 141, 161. -/
def Obligations.KeeperCommands : Prop :=
  Answers .secStatus opSecStatus (fun _ _ => True) (fun _ s => [s.secWord, s.word SEC_RESET_CAUSE.fields] ++ (List.range 12).map (fun i => nth Config.fwKeyDigest i) ++ s.custDigest) ∧
  Answers .secCerts opSecCerts (fun _ _ => True) (fun _ s => [1, 2, 3, 4].flatMap s.certWords) ∧
  Answers .attest opAttest (fun _ _ => True) (fun p s => s.reportWords p ++ s.sign (if s.sec.akReady then keyAK else keyIDK) (s.reportWords p)) ∧
  Does .secSessionKey opSecSessionKey (fun p s => nth p 0 = 0 ∨ nth p 0 ∈ s.cmd.sessions)
    (fun h p s t => let dev := (List.range 25).map (fun i => nth (Config.pubKey (s.free 49)) i % 2 ^ 32)
      let fixed := w64 s.fuse.devId ++ [nth p 0] ++ p.drop 1 ++ dev
      t.draws = s.draws + 1 ∧ Tab.get [] t.sec.keys (nth p 0) = (Config.sha384 ([1] ++ Config.ecdh (s.free 49) (p.drop 1) ++ fixed)).take 8 ∧
      (s.plain → t.payload h = (dev ++ s.sign keyIDK fixed).map (· % 2 ^ 32)) ∧
      t.cnt (1024 + EV.SESSION_KEYED.x) = (s.cnt (1024 + EV.SESSION_KEYED.x) + 1) % 2 ^ 48 ∧ t.cmd.sessions = s.cmd.sessions) ∧
  Does .secNonce opSecNonce (fun _ _ => True) (fun h _ s t => t.sec.nonce = some ((List.range 8).map (fun i => s.free (50 + i) % 2 ^ 32)) ∧ (s.plain → t.sec.nonce = some (t.payload h))) ∧
  Does .secLifecycle opSecLifecycle (fun p s => p.length = 3 ∧ s.mustMove = false ∧ s.fuseOk = true ∧ nth p 0 = 2 ∧ s.lifecycle = 1 ∧ nth p 1 + nth p 2 * 2 ^ 32 = s.fuse.devId)
    (fun _ _ _ t => t.lifecycle = 2 ∧ t.sec.resetDue = some 3) ∧
  Does .secLifecycle opSecLifecycle (fun p s => p.length = 3 ∧ s.mustMove = false ∧ s.fuseOk = true ∧ nth p 0 = 4 ∧ nth p 1 + nth p 2 * 2 ^ 32 = s.fuse.devId)
    (fun _ _ _ t => t.lifecycle = 4 ∧ t.fuse.secretGone = true ∧ t.sec.resetDue = some 3) ∧
  (∀ h p s, Accepted opSecLifecycle h p s → p.length = 25 → s.mustMove = false → s.fuseOk = true → nth (p.map (·.toNat)) 0 = 3 → (s.lifecycle = 1 ∨ s.lifecycle = 2) →
    Completes (.secLifecycle h p) s (fun t => t.sec.nonce = none ∧ if s.tokenOk ((p.map (·.toNat)).drop 1) then t.replied h .ok ∧ t.lifecycle = 3 ∧ t.sec.resetDue = some 3
      else t.replied h .lifecycle ∧ t.fuse = s.fuse ∧ t.sec.resetDue = s.sec.resetDue)) ∧
  Refuses .secLifecycle opSecLifecycle (fun p s => p.length = 3 ∧ s.mustMove = false ∧ s.fuseOk = true ∧ s.lifeOk (nth p 0) (p.drop 1) = false) .lifecycle ∧
  Does .secCustkey opSecCustkey (fun _ s => s.lifecycle = 1 ∧ s.fuse.custKey = none ∧ s.fuseOk = true)
    (fun h p s t => (s.plain → t.fuse.custKey = some (t.payload h)) ∧ t.fuse = { s.fuse with custKey := some ((List.range 12).map (fun i => nth (Config.sha384 (p.take 24 ++ [nth p 24 % 256])) i)) }) ∧
  Does .secReset opSecReset (fun _ s => s.mustMove = false) (fun _ _ _ t => t.sec.resetDue = some 2) ∧
  Starts .pwrStateSet opPwrStateSet (fun p s => nth p 0 ≤ 4 ∧ (powerLegal (nth p 0)).contains s.dev = true ∧ s.mustMove = false ∧ s.on PWR_STATUS.BUSY = false ∧
      nth p 0 ≠ s.rd PWR_STATUS.STATE)
    (fun h p s t => t.rd PWR_STATUS.BUSY = 1 ∧ t.rd PWR_STATUS.TARGET = nth p 0 ∧ t.pwr.run = some (runOf h 0x1201 p) ∧ t.pwr.origin = s.rd PWR_STATUS.STATE) ∧
  Does .pwrStateSet opPwrStateSet (fun p s => nth p 0 ≤ 4 ∧ (powerLegal (nth p 0)).contains s.dev = true ∧ s.mustMove = false ∧ s.on PWR_STATUS.BUSY = false ∧
      nth p 0 = s.rd PWR_STATUS.STATE) (fun h p s t => s.plain → t.payload h = [nth p 0]) ∧
  Answers .pwrStatus opPwrStatus (fun _ _ => True) (fun _ s => s.word PWR_STATUS.fields :: (List.range 22).map (fun i => w32 (s.pwr.temps.getD i 0))) ∧
  Does .pwrCfg opPwrCfg (fun p _ => wordOk PWR_THERM_CFG.fields (nth p 0) = true ∧ thermOk (nth p 0) = true ∧ ∀ n < 4, wordOk PWR_PWM.fields (nth p (1 + n)) = true)
    (fun _ p _ t => t.rd PWR_THERM_CFG.WARN = PWR_THERM_CFG.WARN.raw (nth p 0) ∧ t.rd PWR_THERM_CFG.CRIT = PWR_THERM_CFG.CRIT.raw (nth p 0) ∧
      ∀ n < 4, t.rd PWR_PWM.DUTY n = PWR_PWM.DUTY.raw (nth p (1 + n)))

/-- Resets, boot, the Keeper's alarm, power states and thermal limits (R650 to R652, R659, R662, R663, R666, R668, R669; Tables 18.5 and 18.11): each completes with the effect its clause gives, where the condition its clause names holds.
Where the rules leave a form, code or order open it states the model's choice: log entries 9, 10, 20, 5, 22, 131 to 141, 161. -/
def Obligations.BootEvents : Prop :=
  (∀ s, s.sec.resetDue = some 3 → Completes .lifecycleReset s (fun t => t.dev = 0 ∧ t.rd SEC_RESET_CAUSE.CAUSE = 3 ∧ t.sec.boot = 1 ∧ t.cmd = {} ∧ t.vnr = {} ∧ t.sec.flash = s.sec.flash)) ∧
  (∀ s, s.sec.resetDue = some 2 → Completes .deviceReset s (fun t => t.dev = 0 ∧ t.rd SEC_RESET_CAUSE.CAUSE = 2 ∧ t.sec.boot = 1 ∧ t.cmd = {} ∧ t.vnr = {} ∧ t.sec.flash = s.sec.flash ∧
    t.rd SEC_RESET_CAUSE.BOOTS = sat (2 ^ SEC_RESET_CAUSE.BOOTS.width - 1) (s.rd SEC_RESET_CAUSE.BOOTS + 1) % 2 ^ SEC_RESET_CAUSE.BOOTS.width)) ∧
  (∀ s, Completes .powerOnReset s (fun t => t.dev = 0 ∧ t.rd SEC_RESET_CAUSE.BOOTS = 1 ∧ t.rd SEC_RESET_CAUSE.CAUSE = 1 ∧ t.sec.boot = 0 ∧ t.cmd = {} ∧ t.vnr = {} ∧ t.cnts = [] ∧ t.sec.flash = s.sec.flash)) ∧
  (∀ u s, s.lifecycle = 0 → Completes (.debugReset u) s (fun t => t.dev = 0 ∧ t.rd SEC_RESET_CAUSE.CAUSE = 5 ∧ t.sec.boot = 1)) ∧
  (∀ s, s.rd PWR_STATUS.STATE = 4 → Completes .wake s (fun t => t.dev = 0 ∧ t.rd SEC_RESET_CAUSE.CAUSE = 4 ∧ t.rd PWR_STATUS.STATE = 0)) ∧
  (∀ s, s.sec.boot = 0 → Completes .porstRelease s (fun t => t = { s with sec := { s.sec with boot := 1 } })) ∧
  (∀ s, s.sec.boot = 1 → Completes .fuseReadDone s (fun t => t.sec.boot = 2 ∧ t.fuse = s.fuse)) ∧
  (∀ s, s.sec.boot = 2 → s.sec.bootFail = false → Completes .keeperBoot s (fun t => t.rd CMD_STATUS.RING_OK = 1 ∧ t.rd ENG_FW_STAT.BANK = s.bootBank ∧
    if (s.imageFails s.bootBank 1).isNone then t.sec.boot = 3 ∧ t.rd SEC_STATUS.BANK = s.bootBank ∧ t.sec.keeper = s.keeperHdr s.bootBank
    else if s.bankOk (1 - s.bootBank) && !s.on SEC_STATUS.FALLBACK then t.sec.boot = 3 ∧ t.rd SEC_STATUS.BANK = 1 - s.bootBank ∧ t.rd SEC_STATUS.FALLBACK = 1
    else t.sec.boot = 2 ∧ t.sec.bootFail = true)) ∧
  (∀ s, s.sec.boot = 3 → s.sec.bootFail = false → s.rd SEC_STATUS.BANK ≤ 1 → Completes .engineImageLoaded s (fun t =>
    let b := s.rd SEC_STATUS.BANK
    let runs (k : Nat) : Prop := t.sec.boot = 4 ∧ t.rd SEC_STATUS.BANK = k ∧ t.eng.running = ((s.sec.flash.engine k).map (·.hdr)).getD [] ∧ ∀ e < 56, t.rd ENG_CORE.IMAGE e = k
    if (s.imageFails b 2).isNone then runs b
    else if s.bankOk (1 - b) && !s.on SEC_STATUS.FALLBACK then runs (1 - b) ∧ t.rd SEC_STATUS.FALLBACK = 1
    else t.sec.boot = 3 ∧ t.sec.bootFail = true ∧ t.rd CMD_STATUS.RING_OK = 1)) ∧
  (∀ s, s.sec.boot = 4 → s.dev = 0 → Completes .bootReady s (fun t => t.dev = 1 ∧ t.sec.boot = 5 ∧ t.sec.akReady = true ∧ t.rd VNR_STATUS.RNG_OK = 1 ∧
    t.rd SEC_STATUS.DRBG_OK = 1 ∧ (∀ e < 56, e % 8 ≠ 7 → t.rd ENG_CORE.TASK e = e) ∧ ∀ p < 4, t.rd (genFld 0) p = (s.rd (genFld 0) p + 1) % 32)) ∧
  (∀ n s, s.on SEC_STATUS.KEEPER_ALARM = false → s.sec.svnDue = [(1, n)] → s.fuse.kCnt < n → s.fuseOk = true → Completes .svnRetry s (fun t => t.fuse = { s.fuse with kCnt := n } ∧ t.sec.svnDue = [])) ∧
  (∀ w s, s.on SEC_STATUS.KEEPER_ALARM = false → Completes (.keeperAlarm w) s (fun t => t.rd SEC_STATUS.KEEPER_ALARM = 1 ∧ t.rd VNR_STATUS.ERASED = 1 ∧ (s.dev ≠ 0 → t.dev = 5) ∧
    ∀ p < 72, ∀ k < 2, (t.vnr.slot p k).cur = none)) ∧
  (∀ ms r s, s.pwr.run = some r → Completes (.pwrTransitionDone ms) s (fun t =>
    t.rd PWR_STATUS.STATE = towards (s.rd PWR_STATUS.STATE) (s.rd PWR_STATUS.TARGET) % 2 ^ PWR_STATUS.STATE.width)) ∧
  (∀ ts s, ts ≠ [] → Completes (.thermalEval ts) s (fun t => t.pwr.tj = (hottest (ts.map (·.toInt))).1 ∧ t.rd PWR_STATUS.TJ = toPat 8 (hottest (ts.map (·.toInt))).1 % 2 ^ PWR_STATUS.TJ.width ∧
    ((s.rd PWR_THERM_CFG.CRIT : Int) ≤ t.pwr.tj → t.on PWR_STATUS.TRIP = true)))

/-- Bus writes (R9, R678, R684, R688, R690, R693, R701, R704): a whole write to an RW register takes each field that is in range, and a field whose value is out
of range keeps its own, with the master's RANGE set; a partial write and an unmapped address set the master's flag and change no register but its access
status.
Where the rules leave a form, code or order open it states the model's choice: log entries 31 to 34. -/
def Obligations.RegisterWrites : Prop :=
  (∀ m w s, s.takes m 4 → wordOk FEC_DEC_CFG.fields w.toNat = true → Completes (.registerWrite m 0x400008 15 w) s (fun t => ∀ f ∈ FEC_DEC_CFG.fields, t.rd f = f.raw w.toNat)) ∧
  (∀ m w s, s.takes m 4 → wordOk FEC_DEC_CFG.fields w.toNat = false → Completes (.registerWrite m 0x400008 15 w) s (fun t => t.rd SYS_ACC_STAT.RANGE m.val = 1 ∧
    Keeps (writeMay FEC_DEC_CFG.fields) s t ∧ ∀ f ∈ FEC_DEC_CFG.fields, t.rd f = if f.inRange (f.raw w.toNat) then f.raw w.toNat else s.rd f)) ∧
  (∀ m off be w s, m.val < 60 → be ≠ 15 → Completes (.registerWrite m off be w) s (fun t => t.rd SYS_ACC_STAT.PARTIAL m.val = 1 ∧
    t.rd SYS_ACC_STAT.ERRORS m.val = sat 255 (s.rd SYS_ACC_STAT.ERRORS m.val + 1) % 2 ^ SYS_ACC_STAT.ERRORS.width ∧
    Keeps ⟨7, [SYS_ACC_STAT.PARTIAL, SYS_ACC_STAT.ERRORS], [], [], [.sys]⟩ s t)) ∧
  (∀ m off w s, m.val < 60 → aliasOf (off.toNat / 4 * 4) = none → findReg (off.toNat / 4 * 4) = none → Completes (.registerWrite m off 15 w) s
    (fun t => t.rd SYS_ACC_STAT.UNMAPPED m.val = 1 ∧ Keeps ⟨7, [SYS_ACC_STAT.UNMAPPED, SYS_ACC_STAT.ERRORS], [], [], [.sys]⟩ s t)) ∧
  (∀ m w s, s.takes m 1 → Completes (.setAliasWrite m 0x100024 w) s (fun t => t.rd LTX_INT_EN.ALL = LTX_INT_EN.ALL.raw (s.rd LTX_INT_EN.ALL ||| w.toNat))) ∧
  (∀ m w s, s.takes m 1 → Completes (.clearAliasWrite m 0x100024 w) s (fun t => t.rd LTX_INT_EN.ALL = LTX_INT_EN.ALL.raw (s.rd LTX_INT_EN.ALL - (s.rd LTX_INT_EN.ALL &&& w.toNat)))) ∧
  (∀ m w s, m.val < 60 → Completes (.lowWordWrite m 0x900020 w) s (fun t => Tab.get none t.sys.wrShadow m.val = some (0x900020, w.toNat) ∧ t.rd SCR_PEER_ID.ALL = s.rd SCR_PEER_ID.ALL)) ∧
  (∀ m w lo s, s.takes m 9 → Tab.get none s.sys.wrShadow m.val = some (0x900020, lo) → lo < 2 ^ 32 → Completes (.highWordWrite m 0x900020 w) s
    (fun t => t.rd SCR_PEER_ID.ALL = lo + 2 ^ 32 * w.toNat ∧ Tab.get none t.sys.wrShadow m.val = none)) ∧
  (∀ m b w p s, s.takes m b.val → (intPairs b.val).head? = some p → Completes (.intStatClear m b 0 w) s (fun t => t.rd p.1 = (s.rd p.1 - (s.rd p.1 &&& p.1.raw w.toNat)) % 2 ^ p.1.width)) ∧
  (∀ m k s, s.takes m 0 → Completes (.sysLockSet m k) s (fun t => t.rd SYS_LOCK.LOCK = (s.rd SYS_LOCK.LOCK ||| k.toNat) % 2 ^ 19)) ∧
  (∀ m v s, s.takes m 0 → Completes (.eqConsWrite m v) s (fun t => t.rd SYS_EQ_CONS.ALL = v.toNat ∧
    t.rd SYS_EQ_STAT.LEVEL = sat 32767 ((s.rd SYS_EQ_PROD.ALL + 65536 - v.toNat) % 65536) % 2 ^ SYS_EQ_STAT.LEVEL.width))

/-- Bus reads, pins and timers beside the register map (R27, R445, R459, R681, R691, R692, R697, R702): each completes with the effect its clause gives, where the condition its clause names holds.
Where the rules leave a form, code or order open it states the model's choice: log entries 31 to 34. -/
def Obligations.RegisterReads : Prop :=
  (∀ m off r i s, m.val < 60 → findReg (off.toNat / 8 * 8) = some (r, i) → off.toNat / 8 * 8 = r.at i → r.wide = true → r.off ≠ 0xD00118 → s.dev ≠ 0 →
    Completes (.lowWordRead m off) s (fun t => t.out = .readData m.val (r.at i) (s.regVal m.val r i % 2 ^ 32) :: s.out ∧
      Tab.get none t.sys.rdShadow m.val = some (r.at i, s.regVal m.val r i / 2 ^ 32 % 2 ^ 32) ∧
      t.rd SYS_ACC_STAT.SHADOW_GEN m.val = (s.rd SYS_ACC_STAT.SHADOW_GEN m.val + 1) % 2 ^ SYS_ACC_STAT.SHADOW_GEN.width)) ∧
  (∀ m off r i hi s, m.val < 60 → findReg (off.toNat / 8 * 8 + 4) = some (r, i) → r.at i = off.toNat / 8 * 8 → r.wide = true → s.dev ≠ 0 →
    Tab.get none s.sys.rdShadow m.val = some (r.at i, hi) → hi < 2 ^ 32 → Completes (.highWordRead m off) s
    (fun t => t.out = .readData m.val (r.at i + 4) hi :: s.out ∧ Tab.get none t.sys.rdShadow m.val = none)) ∧
  (∀ m s, m.val < 60 → Completes (.accSelfRead m) s (fun t => t.rd SYS_ACC_STAT.ERRORS m.val = 0 ∧ t.rd SYS_ACC_STAT.RANGE m.val = 0 ∧ Tab.get none t.sys.accAddr m.val = none ∧
    t.out = .readData m.val 0x10 (s.word SYS_ACC_STAT.fields m.val % 2 ^ 32) :: s.out)) ∧
  (∀ n lv s, bit (s.rd SYS_GPIO_OE.ALL) n.val = false → Completes (.gpioEdge n lv) s (fun t => bit (t.rd SYS_GPIO_IN.ALL) n.val = lv)) ∧
  (∀ v en fm s, Completes (.msixUnmask v en fm) s (fun t => t.rd MSIX_CTRL.MASK v.val = 0 ∧ t.sys.msixEn = en ∧ t.sys.fnMask = fm)) ∧
  (∀ k m off rd s, Completes (.fabricTimeout k m off rd) s (fun t => t.cnt k.val = (s.cnt k.val + 1) % 2 ^ 48 ∧ t.rd SYS_ACC_STAT.FABRIC m.val = 1 ∧
    t.out = if rd then .readData m.val off.toNat 0xFFFFFFFF :: s.out else s.out)) ∧
  (∀ s, Completes .oscInActive s (fun t => t.rd REF_STATUS.OSC_PRESENT = 1 ∧ t.rd REF_STATUS.MON_SRC = 0)) ∧
  (∀ s, s.sending = true → Completes .lineQlMessageTx s (fun t => t = { s with out := .lineTime s.lineQl :: s.out, frm := { s.frm with timeOut := s.frm.timeOut ++ stuffed s.lineQl ++ [0x7E] } }))

/-- Superframe boundaries and the ends of seconds and minutes (R32, R66, R71, R72, R77, R723, R725): what is due at a boundary takes effect there, the countdown of a
plan change goes down by one, a valid header sets the receiver's superframe number and the plan it announces is armed, and an event held to once a second
or minute is raised at its end. Each completes with the effect its clause gives, where the condition its clause names holds.
Where the rules leave a form, code or order open it states the model's choice: log entries 31 to 34. -/
def Obligations.Boundaries : Prop :=
  (∀ c s, s.sending = true → Completes (.superframeBoundary c) s (fun t => t.rd LTX_SF_NUM.ALL = (s.rd LTX_SF_NUM.ALL + 1) % 65536 ∧ t.ltx.pilot = s.rd LTX_PILOT.GAIN)) ∧
  (∀ c s, s.sending = true → s.on LTX_STATUS.PLAN_PENDING = true → s.rd LTX_PLAN_CHG.TARGET_SF = (s.rd LTX_SF_NUM.ALL + 1) % 65536 → s.adapt.rollTo = none →
    Completes (.superframeBoundary c) s (fun t => t.rd LTX_STATUS.PLAN_PENDING = 0 ∧ t.rd LTX_PLAN_CHG.CD = 0 ∧
      t.rd LTX_PLAN_HDR.PLAN_ID 0 = s.rd LTX_PLAN_HDR.PLAN_ID 1 % 2 ^ LTX_PLAN_HDR.PLAN_ID.width ∧ t.ltx.acc = 0 ∧ t.ltx.sfs = 0)) ∧
  (∀ c s, s.sending = true → nativeMode s.txMode = true → s.on LTX_STATUS.PLAN_PENDING = true → s.rd LTX_PLAN_CHG.TARGET_SF ≠ (s.rd LTX_SF_NUM.ALL + 1) % 65536 →
    s.adapt.rollTo = none → s.rd LTX_PLAN_CHG.CD ≠ 0 → Completes (.superframeBoundary c) s
    (fun t => t.rd LTX_PLAN_CHG.CD = (s.rd LTX_PLAN_CHG.CD - 1) % 2 ^ LTX_PLAN_CHG.CD.width ∧ t.rd LTX_PLAN_HDR.PLAN_ID 0 = s.rd LTX_PLAN_HDR.PLAN_ID 0)) ∧
  (∀ s, s.sending = false → Completes .darkTimeTick s (fun t => t.ltx.pilot = s.rd LTX_PILOT.GAIN ∧ t.rd LTX_SF_NUM.ALL = s.rd LTX_SF_NUM.ALL)) ∧
  (∀ fs s, s.rxRuns = true → 7 ≤ s.stage → s.stage ≤ 9 → s.on LRX_STATUS.SF_LOCK = false → Completes (.rxSuperframeBoundary fs) s (fun t => t.lrx.sfNum = (s.lrx.sfNum + 1) % 65536)) ∧
  (∀ h s, s.rxRuns = true → 7 ≤ s.stage → nativeMode s.rxMode = true → headerOk h.toNat = true → Completes (.superframeHeaderRx h) s
    (fun t => t.lrx.sfNum = bits h.toNat 48 16 ∧ t.vnr.rxNum = bits h.toNat 16 6 ∧
      (bits h.toNat 27 5 = 0 → t.lrx.armed = none) ∧ (bits h.toNat 27 5 ≠ 0 → t.lrx.armed =
        if (s.heldWords (bits h.toNat 32 8)).isSome then some (bits h.toNat 32 8, (bits h.toNat 48 16 + bits h.toNat 27 5) % 65536) else none))) ∧
  (∀ s, Completes .secondBoundary s (fun t => t.frm.emulSec = 0 ∧
    (s.on PAIR_STATUS.WTR_RUN = true → s.rd PAIR_STATUS.WTR_LEFT ≠ 0 → t.rd PAIR_STATUS.WTR_LEFT = (s.rd PAIR_STATUS.WTR_LEFT - 1) % 2 ^ PAIR_STATUS.WTR_LEFT.width))) ∧
  (∀ e ∈ summaryEvents, ∀ o s, s.obs.occ = [o] → o.ev = e.id → o.minute = false → Completes .secondBoundary s
    (fun t => t.cnt (1024 + e.x) = (s.cnt (1024 + e.x) + 1) % 2 ^ 48)) ∧
  (∀ s, Completes .minuteBoundary s (fun t => ∀ o ∈ t.obs.occ, o.minute = false)) ∧
  (∀ e ∈ summaryEvents, ∀ o s, s.obs.occ = [o] → o.ev = e.id → o.minute = true → Completes .minuteBoundary s
    (fun t => t.cnt (1024 + e.x) = (s.cnt (1024 + e.x) + 1) % 2 ^ 48))

/-- A step takes the command at the front of the queue and is that command's effect with the queue's rest. -/
def Obligations.StepRunsFront : Prop :=
  ∀ c cs s, s.pending = c :: cs → step s = exec c { s with pending := cs }

/-- With no command waiting a step is one TIM tick (the model's choice, log entry 3): the free-running count advances, time advances as R470 and R471 give,
and nothing else changes. -/
def Obligations.StepIdles : Prop :=
  ∀ s, s.pending = [] → ∃ t, step s = .next t ∧ t = { s with tick := s.tick + 1, tod := t.tod } ∧
    { t.tod with sec := s.tod.sec, ns := s.tod.ns, frac := s.tod.frac, rem := s.tod.rem } = s.tod ∧
    (s.tod.frac < 2 ^ 32 → s.tod.ns < 10 ^ 9 → t.tod.frac < 2 ^ 32 ∧ t.tod.ns < 10 ^ 9)

/-- Every command that is turned away completes with its status and nothing else happens (Table 17.3, rows 5 and 7 to 10; R619, R627, R662).
Where the rules leave a form, code or order open it states the model's choice: log entries 7, 46, 141. -/
def Obligations.CommandChecks : Prop :=
  ∀ c op h p, felwinOf c = some (op, h, p) → ∀ s, h.flags.toNat % 2 = 0 →
    let refused := fun st => Completes c s (fun t => t.replied h st ∧ OnlyReplies s t)
    let booted := s.dev ≠ 0 ∨ op.code ∈ bootOps
    let open' := s.sessionOpen h.session.toNat = true
    let fits := op.lenOk p.length = true
    let legal := op.legal.contains s.dev = true ∧ (op.code ≠ 0x0207 ∨ s.dev ≠ 3) ∧ s.powered (classBlock op.code) = true
    let serves := s.paired = false ∨ s.role = 1 ∨ op.code ∉ configOps
    (s.lifecycle = 4 ∧ op.code ≠ 0x0101 ∧ op.code ≠ 0x0102 ∨ s.rd PWR_STATUS.STATE = 4 → Completes c s (fun t => t = s)) ∧
    (s.lifecycle ≠ 4 → s.rd PWR_STATUS.STATE ≠ 4 →
      (¬ booted → refused .busyBoot) ∧
      (booted → ¬ open' → refused .auth) ∧
      (booted → open' → ¬ fits → refused .badLength) ∧
      (booted → open' → fits → op.code ≠ 0x0207 → ¬ legal → refused .state) ∧
      (booted → open' → fits → legal → ¬ serves → refused .state) ∧
      (booted → open' → fits → legal → serves → 1 < h.flags.toNat → refused .badParam) ∧
      (booted → open' → fits → legal → serves → h.flags = 0 → s.on SEC_STATUS.KEEPER_ALARM = true → needsKeeper op.code = true → refused .hwFault))

/-- A command that only reads completes from every state, answered or turned away, and nothing but its reply follows. -/
def Obligations.ReadersKeep : Prop :=
  ∀ c s, readsOnly c = true → Completes c s (OnlyReplies s)

/-- On the ASK1600 a command that selects LM3200N, LM2400N, or code 11 with more than 16 slices is refused with RANGE (R3), and so is one that sets
another protection mode than duplicate computation (R4); neither has a side effect. A plan load that asks for more width than the mode leaves is
refused with NO_RESOURCE, and its reply carries W_min − ΣE (R56). -/
def Obligations.LineRefusals : Prop :=
  Refuses .ltxModeSet opLtxModeSet (fun p s => s.is1600 = true ∧ s.lit = false ∧ (nth p 0 = 1 ∨ nth p 0 = 2 ∨ (nth p 0 = 11 ∧ 16 < nth p 1))) .range ∧
  Refuses .lrxModeSet opLrxModeSet (fun p s => s.is1600 = true ∧ s.on LRX_CTRL.RX_EN = false ∧ (nth p 0 = 1 ∨ nth p 0 = 2 ∨ (nth p 0 = 11 ∧ 16 < nth p 1))) .range ∧
  Refuses .vnrCfg opVnrCfg (fun p s => s.is1600 = true ∧ wordOk [VNR_LA_CFG.HOLD] (nth p 1) = true ∧ VNR_CTRL.PROT_MODE.raw (nth p 0) ≠ 1) .range ∧
  (∀ h p s, Accepted opLtxPlanLoad h p s → s.plain → s.on LTX_STATUS.PLAN_PENDING = false → s.on LRX_ADAPT_CFG.TX_EN = false →
    planCheck s.txMode s.txN true (nth (p.map (·.toNat)) 0) (loadWords ((p.map (·.toNat)).drop 1)) = some 6 →
    Completes (.ltxPlanLoad h p) s (fun t => t.replied h .noResource ∧ OnlyReplies s t ∧
      t.payload h = [w32 ((wMin s.txMode s.txN : Int) - (sumE (loadWords ((p.map (·.toNat)).drop 1)) : Int))])) ∧
  (∀ h p s, Accepted opLrxRplanLoad h p s → s.plain →
    s.rplanRefusal (nth (p.map (·.toNat)) 0) (loadWords ((p.map (·.toNat)).drop 1)) = some .noResource →
    Completes (.lrxRplanLoad h p) s (fun t => t.replied h .noResource ∧ OnlyReplies s t ∧
      t.payload h = [w32 ((wMin s.rxMode s.rxN : Int) - (sumE (loadWords ((p.map (·.toNat)).drop 1)) : Int))]))

/-- While a foreground run is in progress, CAL_RUN, CAL_COMMIT and CAL_LOAD return BUSY, and so does CAL_COMMIT while another writes (R215); a
foreground run asked for while REF_BAD is set is refused with NO_RESOURCE (R187). -/
def Obligations.CalibrationRefusals : Prop :=
  (∀ v f, Refuses (fun h p => .calRun h p v f) (opCalRun v.toInt f.toInt) (fun p s => (1 ≤ nth p 0 ∧ nth p 0 ≤ 7) ∧ (1 ≤ nth p 1 ∧ nth p 1 ≤ 10) ∧ s.on CNV_STATUS.FG_BUSY = true) .busy) ∧
  (∀ v, Refuses (fun h p => .calCommit h p v) (opCalCommit v) (fun p s => (1 ≤ nth p 0 ∧ nth p 0 ≤ 255) ∧ (s.on CNV_STATUS.FG_BUSY = true ∨ s.cnv.commit.isSome = true)) .busy) ∧
  Refuses .calLoad opCalLoad (fun _ s => s.on CNV_STATUS.FG_BUSY = true) .busy ∧
  (∀ v f, Refuses (fun h p => .calRun h p v f) (opCalRun v.toInt f.toInt) (fun p s => (1 ≤ nth p 0 ∧ nth p 0 ≤ 7) ∧ (1 ≤ nth p 1 ∧ nth p 1 ≤ 10) ∧ s.on CNV_STATUS.FG_BUSY = false ∧
    s.runOk (nth p 0) = true ∧ s.on CNV_STATUS.REF_BAD = true) .noResource)

/-- The parity the encoder computes sets every check of the code to zero (R220), and a shaped block's amplitudes give back the rank they were
chosen by (R224, R236). -/
def Obligations.FecCodes : Prop :=
  (∀ f, ∀ i < 16, ∀ x < 420, checkBit f (parityBit f) i x = false) ∧
  (∀ lv n m v, v < seqCount lv n m → rankOf lv m (unrank lv n m v) = some v ∧ (unrank lv n m v).length = n ∧ ∀ a ∈ unrank lv n m v, a < lv)

/-- The state's tables keep their form through every step: keys strictly rising, counters and their copies within 48 bits (R578), wrap bits single. -/
def Obligations.FormKept : Prop :=
  ∀ s t, s.formed = true → step s = .next t → t.formed = true

/-- Every field of the register map keeps within its width through every step. -/
def Obligations.FieldsFit : Prop :=
  ∀ s t, s.fits → step s = .next t → t.fits

/-- The state after reset has the form and the fit that every step keeps; the device is in BOOT, unlit, with every register at its reset value, every
counter 0 and no command waiting.
Where the rules leave a form, code or order open it states the model's choice: log entries 4, 22. -/
def Obligations.ResetState : Prop :=
  State.reset.formed = true ∧ State.reset.fits ∧ State.reset.dev = 0 ∧ State.reset.lit = false ∧ State.reset.pending = [] ∧
  (∀ f i, State.reset.rd f i = f.dflt i) ∧ (∀ j, State.reset.cnt j = 0)

/-- What the commands and events of the line, the clients, the lanes, Veneer and Scribe leave (chapters 2 to 11): each completes from every state, and
may change only what `May.of` lists of it.
Where the rules leave a form, code or order open it states the model's choice: log entries 9, 10, 20. -/
def Obligations.DataFrames : Prop := ∀ c s, (May.of c).group ≤ 2 → Completes c s (Keeps (May.of c) s)

/-- The same of the commands and events of the references, the time of day, the pair, Gauge, observability, control, the engines, security, power and
the register map's own (chapters 12 to 19).
Where the rules leave a form, code or order open it states the model's choice: log entries 9, 10, 20. -/
def Obligations.SystemFrames : Prop := ∀ c s, 3 ≤ (May.of c).group → (May.of c).group ≤ 6 → Completes c s (Keeps (May.of c) s)

/-- The frame of a register write (R9, R684, R690): a whole write by a master that is no engine of cluster 7 to a register that has no effect of its own
sets each RW field that is in range and each unlocked RWL field that is in range, and changes nothing else but the master's access status. -/
def Obligations.PlainWrites : Prop :=
  ∀ m off w r i s, findReg off.toNat = some (r, i) → off.toNat = r.at i → r.off ∈ plainOffs → r.fixed i = false → s.takes m (r.off / 0x100000) →
    Completes (.registerWrite m off 15 w) s (fun t => Keeps (writeMay r.flds) s t ∧ ∀ f ∈ r.flds,
      t.rd f i = if f.writable && !s.locked m.val f i && f.inRange (f.raw w.toNat) then f.raw w.toNat else s.rd f i)

/-- A write that changes no register of a block (R585, R637, R684): one to a register of RO and RC fields changes nothing at all; one by an engine
of cluster 7 to anything but SYS_GPIO_OUT and the PWM outputs is denied and the denial counted.
Where the rules leave a form, code or order open it states the model's choice: log entries 31. -/
def Obligations.DeniedWrites : Prop :=
  (∀ m off w r i s, m.val < 60 → findReg (off.toNat / 4 * 4) = some (r, i) → r.readOnly i = false → r.wide = false →
    r.flds.all (fun f => f.acc == .ro || f.acc == .rc) = true → Completes (.registerWrite m off 15 w) s (fun t => t = s)) ∧
  (∀ m off w s, 60 ≤ m.val → aliasOf (off.toNat / 4 * 4) = none → off.toNat / 4 ≠ 0x34 / 4 → (off.toNat < 0x1100100 ∨ 0x1100110 ≤ off.toNat) →
    Completes (.registerWrite m off 15 w) s (fun t => Keeps ⟨7, [ENG_SBX_DENY.WRITES], [], [], []⟩ s t ∧
      t.rd ENG_SBX_DENY.WRITES = sat 65535 (s.rd ENG_SBX_DENY.WRITES + 1)))

/-- What the resets leave (R661, R663, Table 18.11): everything goes to its reset value but the fuses and the flash, and, except at power-on, but the
thermal limits, the PWM outputs and the reset cause, whose boots count.
Where the rules leave a form, code or order open it states the model's choice: log entries 4, 137. -/
def Obligations.ResetFrames : Prop :=
  (∀ s, Completes .powerOnReset s (Cleared [] 0 s)) ∧
  (∀ c n s, (c, n) ∈ [(Instr.lifecycleReset, 3), (.deviceReset, 2)] → s.sec.resetDue = some n → Completes c s (fun t => Cleared aonRegs 1 s t ∧ AonKept n s t)) ∧
  (∀ u s, s.lifecycle = 0 ∨ (s.lifecycle = 3 ∧ u = true) → Completes (.debugReset u) s (fun t => Cleared aonRegs 1 s t ∧ AonKept 5 s t)) ∧
  (∀ s, s.rd PWR_STATUS.STATE = 4 → Completes .wake s (fun t => Cleared aonRegs 1 s t ∧ AonKept 4 s t))
end

