-- ==== Sys2Proof/Laws/State.lean ====
section
/-!
SUPPORT. What each operation over the state leaves as it was, one lemma for each field it does not write.
-/
namespace Sys2Proof.Machine

/-! ### State.wr -/

@[simp] theorem State.wr_pending (s : State) (f : Fld) (i v : Nat) : (s.wr f i v).pending = s.pending := rfl
@[simp] theorem State.wr_cnts (s : State) (f : Fld) (i v : Nat) : (s.wr f i v).cnts = s.cnts := rfl
@[simp] theorem State.wr_wraps (s : State) (f : Fld) (i v : Nat) : (s.wr f i v).wraps = s.wraps := rfl
@[simp] theorem State.wr_bank (s : State) (f : Fld) (i v : Nat) : (s.wr f i v).bank = s.bank := rfl
@[simp] theorem State.wr_bankWraps (s : State) (f : Fld) (i v : Nat) : (s.wr f i v).bankWraps = s.bankWraps := rfl
@[simp] theorem State.wr_snapGen (s : State) (f : Fld) (i v : Nat) : (s.wr f i v).snapGen = s.snapGen := rfl
@[simp] theorem State.wr_out (s : State) (f : Fld) (i v : Nat) : (s.wr f i v).out = s.out := rfl
@[simp] theorem State.wr_tick (s : State) (f : Fld) (i v : Nat) : (s.wr f i v).tick = s.tick := rfl
@[simp] theorem State.wr_draws (s : State) (f : Fld) (i v : Nat) : (s.wr f i v).draws = s.draws := rfl
@[simp] theorem State.wr_fuse (s : State) (f : Fld) (i v : Nat) : (s.wr f i v).fuse = s.fuse := rfl
@[simp] theorem State.wr_sys (s : State) (f : Fld) (i v : Nat) : (s.wr f i v).sys = s.sys := rfl
@[simp] theorem State.wr_obs (s : State) (f : Fld) (i v : Nat) : (s.wr f i v).obs = s.obs := rfl
@[simp] theorem State.wr_cmd (s : State) (f : Fld) (i v : Nat) : (s.wr f i v).cmd = s.cmd := rfl
@[simp] theorem State.wr_eng (s : State) (f : Fld) (i v : Nat) : (s.wr f i v).eng = s.eng := rfl
@[simp] theorem State.wr_tod (s : State) (f : Fld) (i v : Nat) : (s.wr f i v).tod = s.tod := rfl
@[simp] theorem State.wr_pair (s : State) (f : Fld) (i v : Nat) : (s.wr f i v).pair = s.pair := rfl
@[simp] theorem State.wr_sec (s : State) (f : Fld) (i v : Nat) : (s.wr f i v).sec = s.sec := rfl
@[simp] theorem State.wr_pwr (s : State) (f : Fld) (i v : Nat) : (s.wr f i v).pwr = s.pwr := rfl
@[simp] theorem State.wr_ltx (s : State) (f : Fld) (i v : Nat) : (s.wr f i v).ltx = s.ltx := rfl
@[simp] theorem State.wr_lrx (s : State) (f : Fld) (i v : Nat) : (s.wr f i v).lrx = s.lrx := rfl
@[simp] theorem State.wr_adapt (s : State) (f : Fld) (i v : Nat) : (s.wr f i v).adapt = s.adapt := rfl
@[simp] theorem State.wr_cnv (s : State) (f : Fld) (i v : Nat) : (s.wr f i v).cnv = s.cnv := rfl
@[simp] theorem State.wr_fec (s : State) (f : Fld) (i v : Nat) : (s.wr f i v).fec = s.fec := rfl
@[simp] theorem State.wr_frm (s : State) (f : Fld) (i v : Nat) : (s.wr f i v).frm = s.frm := rfl
@[simp] theorem State.wr_cli (s : State) (f : Fld) (i v : Nat) : (s.wr f i v).cli = s.cli := rfl
@[simp] theorem State.wr_vnr (s : State) (f : Fld) (i v : Nat) : (s.wr f i v).vnr = s.vnr := rfl
@[simp] theorem State.wr_srd (s : State) (f : Fld) (i v : Nat) : (s.wr f i v).srd = s.srd := rfl
@[simp] theorem State.wr_scr (s : State) (f : Fld) (i v : Nat) : (s.wr f i v).scr = s.scr := rfl
@[simp] theorem State.wr_ref (s : State) (f : Fld) (i v : Nat) : (s.wr f i v).ref = s.ref := rfl
@[simp] theorem State.wr_mon (s : State) (f : Fld) (i v : Nat) : (s.wr f i v).mon = s.mon := rfl

/-! ### State.occur -/

@[simp] theorem State.occur_pending (s : State) (e : Ev) (i : Nat) (m : Bool) (it : List Nat) : (s.occur e i m it).pending = s.pending := rfl
@[simp] theorem State.occur_regs (s : State) (e : Ev) (i : Nat) (m : Bool) (it : List Nat) : (s.occur e i m it).regs = s.regs := rfl
@[simp] theorem State.occur_cnts (s : State) (e : Ev) (i : Nat) (m : Bool) (it : List Nat) : (s.occur e i m it).cnts = s.cnts := rfl
@[simp] theorem State.occur_wraps (s : State) (e : Ev) (i : Nat) (m : Bool) (it : List Nat) : (s.occur e i m it).wraps = s.wraps := rfl
@[simp] theorem State.occur_bank (s : State) (e : Ev) (i : Nat) (m : Bool) (it : List Nat) : (s.occur e i m it).bank = s.bank := rfl
@[simp] theorem State.occur_bankWraps (s : State) (e : Ev) (i : Nat) (m : Bool) (it : List Nat) : (s.occur e i m it).bankWraps = s.bankWraps := rfl
@[simp] theorem State.occur_snapGen (s : State) (e : Ev) (i : Nat) (m : Bool) (it : List Nat) : (s.occur e i m it).snapGen = s.snapGen := rfl
@[simp] theorem State.occur_out (s : State) (e : Ev) (i : Nat) (m : Bool) (it : List Nat) : (s.occur e i m it).out = s.out := rfl
@[simp] theorem State.occur_tick (s : State) (e : Ev) (i : Nat) (m : Bool) (it : List Nat) : (s.occur e i m it).tick = s.tick := rfl
@[simp] theorem State.occur_draws (s : State) (e : Ev) (i : Nat) (m : Bool) (it : List Nat) : (s.occur e i m it).draws = s.draws := rfl
@[simp] theorem State.occur_fuse (s : State) (e : Ev) (i : Nat) (m : Bool) (it : List Nat) : (s.occur e i m it).fuse = s.fuse := rfl
@[simp] theorem State.occur_sys (s : State) (e : Ev) (i : Nat) (m : Bool) (it : List Nat) : (s.occur e i m it).sys = s.sys := rfl
@[simp] theorem State.occur_cmd (s : State) (e : Ev) (i : Nat) (m : Bool) (it : List Nat) : (s.occur e i m it).cmd = s.cmd := rfl
@[simp] theorem State.occur_eng (s : State) (e : Ev) (i : Nat) (m : Bool) (it : List Nat) : (s.occur e i m it).eng = s.eng := rfl
@[simp] theorem State.occur_tod (s : State) (e : Ev) (i : Nat) (m : Bool) (it : List Nat) : (s.occur e i m it).tod = s.tod := rfl
@[simp] theorem State.occur_pair (s : State) (e : Ev) (i : Nat) (m : Bool) (it : List Nat) : (s.occur e i m it).pair = s.pair := rfl
@[simp] theorem State.occur_sec (s : State) (e : Ev) (i : Nat) (m : Bool) (it : List Nat) : (s.occur e i m it).sec = s.sec := rfl
@[simp] theorem State.occur_pwr (s : State) (e : Ev) (i : Nat) (m : Bool) (it : List Nat) : (s.occur e i m it).pwr = s.pwr := rfl
@[simp] theorem State.occur_ltx (s : State) (e : Ev) (i : Nat) (m : Bool) (it : List Nat) : (s.occur e i m it).ltx = s.ltx := rfl
@[simp] theorem State.occur_lrx (s : State) (e : Ev) (i : Nat) (m : Bool) (it : List Nat) : (s.occur e i m it).lrx = s.lrx := rfl
@[simp] theorem State.occur_adapt (s : State) (e : Ev) (i : Nat) (m : Bool) (it : List Nat) : (s.occur e i m it).adapt = s.adapt := rfl
@[simp] theorem State.occur_cnv (s : State) (e : Ev) (i : Nat) (m : Bool) (it : List Nat) : (s.occur e i m it).cnv = s.cnv := rfl
@[simp] theorem State.occur_fec (s : State) (e : Ev) (i : Nat) (m : Bool) (it : List Nat) : (s.occur e i m it).fec = s.fec := rfl
@[simp] theorem State.occur_frm (s : State) (e : Ev) (i : Nat) (m : Bool) (it : List Nat) : (s.occur e i m it).frm = s.frm := rfl
@[simp] theorem State.occur_cli (s : State) (e : Ev) (i : Nat) (m : Bool) (it : List Nat) : (s.occur e i m it).cli = s.cli := rfl
@[simp] theorem State.occur_vnr (s : State) (e : Ev) (i : Nat) (m : Bool) (it : List Nat) : (s.occur e i m it).vnr = s.vnr := rfl
@[simp] theorem State.occur_srd (s : State) (e : Ev) (i : Nat) (m : Bool) (it : List Nat) : (s.occur e i m it).srd = s.srd := rfl
@[simp] theorem State.occur_scr (s : State) (e : Ev) (i : Nat) (m : Bool) (it : List Nat) : (s.occur e i m it).scr = s.scr := rfl
@[simp] theorem State.occur_ref (s : State) (e : Ev) (i : Nat) (m : Bool) (it : List Nat) : (s.occur e i m it).ref = s.ref := rfl
@[simp] theorem State.occur_mon (s : State) (e : Ev) (i : Nat) (m : Bool) (it : List Nat) : (s.occur e i m it).mon = s.mon := rfl

/-! ### State.preset -/

@[simp] theorem State.preset_pending (s : State) (j v : Nat) : (s.preset j v).pending = s.pending := rfl
@[simp] theorem State.preset_regs (s : State) (j v : Nat) : (s.preset j v).regs = s.regs := rfl
@[simp] theorem State.preset_wraps (s : State) (j v : Nat) : (s.preset j v).wraps = s.wraps := rfl
@[simp] theorem State.preset_bank (s : State) (j v : Nat) : (s.preset j v).bank = s.bank := rfl
@[simp] theorem State.preset_bankWraps (s : State) (j v : Nat) : (s.preset j v).bankWraps = s.bankWraps := rfl
@[simp] theorem State.preset_snapGen (s : State) (j v : Nat) : (s.preset j v).snapGen = s.snapGen := rfl
@[simp] theorem State.preset_out (s : State) (j v : Nat) : (s.preset j v).out = s.out := rfl
@[simp] theorem State.preset_tick (s : State) (j v : Nat) : (s.preset j v).tick = s.tick := rfl
@[simp] theorem State.preset_draws (s : State) (j v : Nat) : (s.preset j v).draws = s.draws := rfl
@[simp] theorem State.preset_fuse (s : State) (j v : Nat) : (s.preset j v).fuse = s.fuse := rfl
@[simp] theorem State.preset_sys (s : State) (j v : Nat) : (s.preset j v).sys = s.sys := rfl
@[simp] theorem State.preset_obs (s : State) (j v : Nat) : (s.preset j v).obs = s.obs := rfl
@[simp] theorem State.preset_cmd (s : State) (j v : Nat) : (s.preset j v).cmd = s.cmd := rfl
@[simp] theorem State.preset_eng (s : State) (j v : Nat) : (s.preset j v).eng = s.eng := rfl
@[simp] theorem State.preset_tod (s : State) (j v : Nat) : (s.preset j v).tod = s.tod := rfl
@[simp] theorem State.preset_pair (s : State) (j v : Nat) : (s.preset j v).pair = s.pair := rfl
@[simp] theorem State.preset_sec (s : State) (j v : Nat) : (s.preset j v).sec = s.sec := rfl
@[simp] theorem State.preset_pwr (s : State) (j v : Nat) : (s.preset j v).pwr = s.pwr := rfl
@[simp] theorem State.preset_ltx (s : State) (j v : Nat) : (s.preset j v).ltx = s.ltx := rfl
@[simp] theorem State.preset_lrx (s : State) (j v : Nat) : (s.preset j v).lrx = s.lrx := rfl
@[simp] theorem State.preset_adapt (s : State) (j v : Nat) : (s.preset j v).adapt = s.adapt := rfl
@[simp] theorem State.preset_cnv (s : State) (j v : Nat) : (s.preset j v).cnv = s.cnv := rfl
@[simp] theorem State.preset_fec (s : State) (j v : Nat) : (s.preset j v).fec = s.fec := rfl
@[simp] theorem State.preset_frm (s : State) (j v : Nat) : (s.preset j v).frm = s.frm := rfl
@[simp] theorem State.preset_cli (s : State) (j v : Nat) : (s.preset j v).cli = s.cli := rfl
@[simp] theorem State.preset_vnr (s : State) (j v : Nat) : (s.preset j v).vnr = s.vnr := rfl
@[simp] theorem State.preset_srd (s : State) (j v : Nat) : (s.preset j v).srd = s.srd := rfl
@[simp] theorem State.preset_scr (s : State) (j v : Nat) : (s.preset j v).scr = s.scr := rfl
@[simp] theorem State.preset_ref (s : State) (j v : Nat) : (s.preset j v).ref = s.ref := rfl
@[simp] theorem State.preset_mon (s : State) (j v : Nat) : (s.preset j v).mon = s.mon := rfl

/-! ### State.snap -/

@[simp] theorem State.snap_pending (s : State) : (s.snap).pending = s.pending := rfl
@[simp] theorem State.snap_regs (s : State) : (s.snap).regs = s.regs := rfl
@[simp] theorem State.snap_cnts (s : State) : (s.snap).cnts = s.cnts := rfl
@[simp] theorem State.snap_wraps (s : State) : (s.snap).wraps = s.wraps := rfl
@[simp] theorem State.snap_bank (s : State) : (s.snap).bank = s.bank := rfl
@[simp] theorem State.snap_bankWraps (s : State) : (s.snap).bankWraps = s.bankWraps := rfl
@[simp] theorem State.snap_out (s : State) : (s.snap).out = s.out := rfl
@[simp] theorem State.snap_tick (s : State) : (s.snap).tick = s.tick := rfl
@[simp] theorem State.snap_draws (s : State) : (s.snap).draws = s.draws := rfl
@[simp] theorem State.snap_fuse (s : State) : (s.snap).fuse = s.fuse := rfl
@[simp] theorem State.snap_sys (s : State) : (s.snap).sys = s.sys := rfl
@[simp] theorem State.snap_obs (s : State) : (s.snap).obs = s.obs := rfl
@[simp] theorem State.snap_cmd (s : State) : (s.snap).cmd = s.cmd := rfl
@[simp] theorem State.snap_eng (s : State) : (s.snap).eng = s.eng := rfl
@[simp] theorem State.snap_tod (s : State) : (s.snap).tod = s.tod := rfl
@[simp] theorem State.snap_pair (s : State) : (s.snap).pair = s.pair := rfl
@[simp] theorem State.snap_sec (s : State) : (s.snap).sec = s.sec := rfl
@[simp] theorem State.snap_pwr (s : State) : (s.snap).pwr = s.pwr := rfl
@[simp] theorem State.snap_ltx (s : State) : (s.snap).ltx = s.ltx := rfl
@[simp] theorem State.snap_lrx (s : State) : (s.snap).lrx = s.lrx := rfl
@[simp] theorem State.snap_adapt (s : State) : (s.snap).adapt = s.adapt := rfl
@[simp] theorem State.snap_cnv (s : State) : (s.snap).cnv = s.cnv := rfl
@[simp] theorem State.snap_fec (s : State) : (s.snap).fec = s.fec := rfl
@[simp] theorem State.snap_frm (s : State) : (s.snap).frm = s.frm := rfl
@[simp] theorem State.snap_cli (s : State) : (s.snap).cli = s.cli := rfl
@[simp] theorem State.snap_vnr (s : State) : (s.snap).vnr = s.vnr := rfl
@[simp] theorem State.snap_srd (s : State) : (s.snap).srd = s.srd := rfl
@[simp] theorem State.snap_scr (s : State) : (s.snap).scr = s.scr := rfl
@[simp] theorem State.snap_ref (s : State) : (s.snap).ref = s.ref := rfl
@[simp] theorem State.snap_mon (s : State) : (s.snap).mon = s.mon := rfl

/-! ### State.snapBank -/

@[simp] theorem State.snapBank_pending (s : State) : (s.snapBank).pending = s.pending := rfl
@[simp] theorem State.snapBank_cnts (s : State) : (s.snapBank).cnts = s.cnts := rfl
@[simp] theorem State.snapBank_wraps (s : State) : (s.snapBank).wraps = s.wraps := rfl
@[simp] theorem State.snapBank_out (s : State) : (s.snapBank).out = s.out := rfl
@[simp] theorem State.snapBank_tick (s : State) : (s.snapBank).tick = s.tick := rfl
@[simp] theorem State.snapBank_draws (s : State) : (s.snapBank).draws = s.draws := rfl
@[simp] theorem State.snapBank_fuse (s : State) : (s.snapBank).fuse = s.fuse := rfl
@[simp] theorem State.snapBank_sys (s : State) : (s.snapBank).sys = s.sys := rfl
@[simp] theorem State.snapBank_obs (s : State) : (s.snapBank).obs = s.obs := rfl
@[simp] theorem State.snapBank_cmd (s : State) : (s.snapBank).cmd = s.cmd := rfl
@[simp] theorem State.snapBank_eng (s : State) : (s.snapBank).eng = s.eng := rfl
@[simp] theorem State.snapBank_tod (s : State) : (s.snapBank).tod = s.tod := rfl
@[simp] theorem State.snapBank_pair (s : State) : (s.snapBank).pair = s.pair := rfl
@[simp] theorem State.snapBank_sec (s : State) : (s.snapBank).sec = s.sec := rfl
@[simp] theorem State.snapBank_pwr (s : State) : (s.snapBank).pwr = s.pwr := rfl
@[simp] theorem State.snapBank_ltx (s : State) : (s.snapBank).ltx = s.ltx := rfl
@[simp] theorem State.snapBank_lrx (s : State) : (s.snapBank).lrx = s.lrx := rfl
@[simp] theorem State.snapBank_adapt (s : State) : (s.snapBank).adapt = s.adapt := rfl
@[simp] theorem State.snapBank_cnv (s : State) : (s.snapBank).cnv = s.cnv := rfl
@[simp] theorem State.snapBank_fec (s : State) : (s.snapBank).fec = s.fec := rfl
@[simp] theorem State.snapBank_frm (s : State) : (s.snapBank).frm = s.frm := rfl
@[simp] theorem State.snapBank_cli (s : State) : (s.snapBank).cli = s.cli := rfl
@[simp] theorem State.snapBank_vnr (s : State) : (s.snapBank).vnr = s.vnr := rfl
@[simp] theorem State.snapBank_srd (s : State) : (s.snapBank).srd = s.srd := rfl
@[simp] theorem State.snapBank_scr (s : State) : (s.snapBank).scr = s.scr := rfl
@[simp] theorem State.snapBank_ref (s : State) : (s.snapBank).ref = s.ref := rfl
@[simp] theorem State.snapBank_mon (s : State) : (s.snapBank).mon = s.mon := rfl

/-! ### State.count -/

@[simp] theorem State.count_pending (s : State) (j n : Nat) : (s.count j n).pending = s.pending := by simp only [State.count]; split <;> rfl
@[simp] theorem State.count_regs (s : State) (j n : Nat) : (s.count j n).regs = s.regs := by simp only [State.count]; split <;> rfl
@[simp] theorem State.count_bank (s : State) (j n : Nat) : (s.count j n).bank = s.bank := by simp only [State.count]; split <;> rfl
@[simp] theorem State.count_bankWraps (s : State) (j n : Nat) : (s.count j n).bankWraps = s.bankWraps := by simp only [State.count]; split <;> rfl
@[simp] theorem State.count_snapGen (s : State) (j n : Nat) : (s.count j n).snapGen = s.snapGen := by simp only [State.count]; split <;> rfl
@[simp] theorem State.count_out (s : State) (j n : Nat) : (s.count j n).out = s.out := by simp only [State.count]; split <;> rfl
@[simp] theorem State.count_tick (s : State) (j n : Nat) : (s.count j n).tick = s.tick := by simp only [State.count]; split <;> rfl
@[simp] theorem State.count_draws (s : State) (j n : Nat) : (s.count j n).draws = s.draws := by simp only [State.count]; split <;> rfl
@[simp] theorem State.count_fuse (s : State) (j n : Nat) : (s.count j n).fuse = s.fuse := by simp only [State.count]; split <;> rfl
@[simp] theorem State.count_sys (s : State) (j n : Nat) : (s.count j n).sys = s.sys := by simp only [State.count]; split <;> rfl
@[simp] theorem State.count_cmd (s : State) (j n : Nat) : (s.count j n).cmd = s.cmd := by simp only [State.count]; split <;> rfl
@[simp] theorem State.count_eng (s : State) (j n : Nat) : (s.count j n).eng = s.eng := by simp only [State.count]; split <;> rfl
@[simp] theorem State.count_tod (s : State) (j n : Nat) : (s.count j n).tod = s.tod := by simp only [State.count]; split <;> rfl
@[simp] theorem State.count_pair (s : State) (j n : Nat) : (s.count j n).pair = s.pair := by simp only [State.count]; split <;> rfl
@[simp] theorem State.count_sec (s : State) (j n : Nat) : (s.count j n).sec = s.sec := by simp only [State.count]; split <;> rfl
@[simp] theorem State.count_pwr (s : State) (j n : Nat) : (s.count j n).pwr = s.pwr := by simp only [State.count]; split <;> rfl
@[simp] theorem State.count_ltx (s : State) (j n : Nat) : (s.count j n).ltx = s.ltx := by simp only [State.count]; split <;> rfl
@[simp] theorem State.count_lrx (s : State) (j n : Nat) : (s.count j n).lrx = s.lrx := by simp only [State.count]; split <;> rfl
@[simp] theorem State.count_adapt (s : State) (j n : Nat) : (s.count j n).adapt = s.adapt := by simp only [State.count]; split <;> rfl
@[simp] theorem State.count_cnv (s : State) (j n : Nat) : (s.count j n).cnv = s.cnv := by simp only [State.count]; split <;> rfl
@[simp] theorem State.count_fec (s : State) (j n : Nat) : (s.count j n).fec = s.fec := by simp only [State.count]; split <;> rfl
@[simp] theorem State.count_frm (s : State) (j n : Nat) : (s.count j n).frm = s.frm := by simp only [State.count]; split <;> rfl
@[simp] theorem State.count_cli (s : State) (j n : Nat) : (s.count j n).cli = s.cli := by simp only [State.count]; split <;> rfl
@[simp] theorem State.count_vnr (s : State) (j n : Nat) : (s.count j n).vnr = s.vnr := by simp only [State.count]; split <;> rfl
@[simp] theorem State.count_srd (s : State) (j n : Nat) : (s.count j n).srd = s.srd := by simp only [State.count]; split <;> rfl
@[simp] theorem State.count_scr (s : State) (j n : Nat) : (s.count j n).scr = s.scr := by simp only [State.count]; split <;> rfl
@[simp] theorem State.count_ref (s : State) (j n : Nat) : (s.count j n).ref = s.ref := by simp only [State.count]; split <;> rfl
@[simp] theorem State.count_mon (s : State) (j n : Nat) : (s.count j n).mon = s.mon := by simp only [State.count]; split <;> rfl

/-! ### State.signal -/

@[simp] theorem State.signal_pending (s : State) (v : Nat) : (s.signal v).pending = s.pending := by simp only [State.signal]; split <;> rfl
@[simp] theorem State.signal_cnts (s : State) (v : Nat) : (s.signal v).cnts = s.cnts := by simp only [State.signal]; split <;> rfl
@[simp] theorem State.signal_wraps (s : State) (v : Nat) : (s.signal v).wraps = s.wraps := by simp only [State.signal]; split <;> rfl
@[simp] theorem State.signal_bank (s : State) (v : Nat) : (s.signal v).bank = s.bank := by simp only [State.signal]; split <;> rfl
@[simp] theorem State.signal_bankWraps (s : State) (v : Nat) : (s.signal v).bankWraps = s.bankWraps := by simp only [State.signal]; split <;> rfl
@[simp] theorem State.signal_snapGen (s : State) (v : Nat) : (s.signal v).snapGen = s.snapGen := by simp only [State.signal]; split <;> rfl
@[simp] theorem State.signal_tick (s : State) (v : Nat) : (s.signal v).tick = s.tick := by simp only [State.signal]; split <;> rfl
@[simp] theorem State.signal_draws (s : State) (v : Nat) : (s.signal v).draws = s.draws := by simp only [State.signal]; split <;> rfl
@[simp] theorem State.signal_fuse (s : State) (v : Nat) : (s.signal v).fuse = s.fuse := by simp only [State.signal]; split <;> rfl
@[simp] theorem State.signal_sys (s : State) (v : Nat) : (s.signal v).sys = s.sys := by simp only [State.signal]; split <;> rfl
@[simp] theorem State.signal_obs (s : State) (v : Nat) : (s.signal v).obs = s.obs := by simp only [State.signal]; split <;> rfl
@[simp] theorem State.signal_cmd (s : State) (v : Nat) : (s.signal v).cmd = s.cmd := by simp only [State.signal]; split <;> rfl
@[simp] theorem State.signal_eng (s : State) (v : Nat) : (s.signal v).eng = s.eng := by simp only [State.signal]; split <;> rfl
@[simp] theorem State.signal_tod (s : State) (v : Nat) : (s.signal v).tod = s.tod := by simp only [State.signal]; split <;> rfl
@[simp] theorem State.signal_pair (s : State) (v : Nat) : (s.signal v).pair = s.pair := by simp only [State.signal]; split <;> rfl
@[simp] theorem State.signal_sec (s : State) (v : Nat) : (s.signal v).sec = s.sec := by simp only [State.signal]; split <;> rfl
@[simp] theorem State.signal_pwr (s : State) (v : Nat) : (s.signal v).pwr = s.pwr := by simp only [State.signal]; split <;> rfl
@[simp] theorem State.signal_ltx (s : State) (v : Nat) : (s.signal v).ltx = s.ltx := by simp only [State.signal]; split <;> rfl
@[simp] theorem State.signal_lrx (s : State) (v : Nat) : (s.signal v).lrx = s.lrx := by simp only [State.signal]; split <;> rfl
@[simp] theorem State.signal_adapt (s : State) (v : Nat) : (s.signal v).adapt = s.adapt := by simp only [State.signal]; split <;> rfl
@[simp] theorem State.signal_cnv (s : State) (v : Nat) : (s.signal v).cnv = s.cnv := by simp only [State.signal]; split <;> rfl
@[simp] theorem State.signal_fec (s : State) (v : Nat) : (s.signal v).fec = s.fec := by simp only [State.signal]; split <;> rfl
@[simp] theorem State.signal_frm (s : State) (v : Nat) : (s.signal v).frm = s.frm := by simp only [State.signal]; split <;> rfl
@[simp] theorem State.signal_cli (s : State) (v : Nat) : (s.signal v).cli = s.cli := by simp only [State.signal]; split <;> rfl
@[simp] theorem State.signal_vnr (s : State) (v : Nat) : (s.signal v).vnr = s.vnr := by simp only [State.signal]; split <;> rfl
@[simp] theorem State.signal_srd (s : State) (v : Nat) : (s.signal v).srd = s.srd := by simp only [State.signal]; split <;> rfl
@[simp] theorem State.signal_scr (s : State) (v : Nat) : (s.signal v).scr = s.scr := by simp only [State.signal]; split <;> rfl
@[simp] theorem State.signal_ref (s : State) (v : Nat) : (s.signal v).ref = s.ref := by simp only [State.signal]; split <;> rfl
@[simp] theorem State.signal_mon (s : State) (v : Nat) : (s.signal v).mon = s.mon := by simp only [State.signal]; split <;> rfl

/-! ### State.signalBlock -/

@[simp] theorem State.signalBlock_pending (s : State) (b : Nat) : (s.signalBlock b).pending = s.pending := State.signal_pending s _
@[simp] theorem State.signalBlock_cnts (s : State) (b : Nat) : (s.signalBlock b).cnts = s.cnts := State.signal_cnts s _
@[simp] theorem State.signalBlock_wraps (s : State) (b : Nat) : (s.signalBlock b).wraps = s.wraps := State.signal_wraps s _
@[simp] theorem State.signalBlock_bank (s : State) (b : Nat) : (s.signalBlock b).bank = s.bank := State.signal_bank s _
@[simp] theorem State.signalBlock_bankWraps (s : State) (b : Nat) : (s.signalBlock b).bankWraps = s.bankWraps := State.signal_bankWraps s _
@[simp] theorem State.signalBlock_snapGen (s : State) (b : Nat) : (s.signalBlock b).snapGen = s.snapGen := State.signal_snapGen s _
@[simp] theorem State.signalBlock_tick (s : State) (b : Nat) : (s.signalBlock b).tick = s.tick := State.signal_tick s _
@[simp] theorem State.signalBlock_draws (s : State) (b : Nat) : (s.signalBlock b).draws = s.draws := State.signal_draws s _
@[simp] theorem State.signalBlock_fuse (s : State) (b : Nat) : (s.signalBlock b).fuse = s.fuse := State.signal_fuse s _
@[simp] theorem State.signalBlock_sys (s : State) (b : Nat) : (s.signalBlock b).sys = s.sys := State.signal_sys s _
@[simp] theorem State.signalBlock_obs (s : State) (b : Nat) : (s.signalBlock b).obs = s.obs := State.signal_obs s _
@[simp] theorem State.signalBlock_cmd (s : State) (b : Nat) : (s.signalBlock b).cmd = s.cmd := State.signal_cmd s _
@[simp] theorem State.signalBlock_eng (s : State) (b : Nat) : (s.signalBlock b).eng = s.eng := State.signal_eng s _
@[simp] theorem State.signalBlock_tod (s : State) (b : Nat) : (s.signalBlock b).tod = s.tod := State.signal_tod s _
@[simp] theorem State.signalBlock_pair (s : State) (b : Nat) : (s.signalBlock b).pair = s.pair := State.signal_pair s _
@[simp] theorem State.signalBlock_sec (s : State) (b : Nat) : (s.signalBlock b).sec = s.sec := State.signal_sec s _
@[simp] theorem State.signalBlock_pwr (s : State) (b : Nat) : (s.signalBlock b).pwr = s.pwr := State.signal_pwr s _
@[simp] theorem State.signalBlock_ltx (s : State) (b : Nat) : (s.signalBlock b).ltx = s.ltx := State.signal_ltx s _
@[simp] theorem State.signalBlock_lrx (s : State) (b : Nat) : (s.signalBlock b).lrx = s.lrx := State.signal_lrx s _
@[simp] theorem State.signalBlock_adapt (s : State) (b : Nat) : (s.signalBlock b).adapt = s.adapt := State.signal_adapt s _
@[simp] theorem State.signalBlock_cnv (s : State) (b : Nat) : (s.signalBlock b).cnv = s.cnv := State.signal_cnv s _
@[simp] theorem State.signalBlock_fec (s : State) (b : Nat) : (s.signalBlock b).fec = s.fec := State.signal_fec s _
@[simp] theorem State.signalBlock_frm (s : State) (b : Nat) : (s.signalBlock b).frm = s.frm := State.signal_frm s _
@[simp] theorem State.signalBlock_cli (s : State) (b : Nat) : (s.signalBlock b).cli = s.cli := State.signal_cli s _
@[simp] theorem State.signalBlock_vnr (s : State) (b : Nat) : (s.signalBlock b).vnr = s.vnr := State.signal_vnr s _
@[simp] theorem State.signalBlock_srd (s : State) (b : Nat) : (s.signalBlock b).srd = s.srd := State.signal_srd s _
@[simp] theorem State.signalBlock_scr (s : State) (b : Nat) : (s.signalBlock b).scr = s.scr := State.signal_scr s _
@[simp] theorem State.signalBlock_ref (s : State) (b : Nat) : (s.signalBlock b).ref = s.ref := State.signal_ref s _
@[simp] theorem State.signalBlock_mon (s : State) (b : Nat) : (s.signalBlock b).mon = s.mon := State.signal_mon s _

/-! ### State.setStat -/

@[simp] theorem State.setStat_pending (s : State) (f : Fld) (m : Nat) : (s.setStat f m).pending = s.pending := by simp only [State.setStat]; split <;> simp
@[simp] theorem State.setStat_cnts (s : State) (f : Fld) (m : Nat) : (s.setStat f m).cnts = s.cnts := by simp only [State.setStat]; split <;> simp
@[simp] theorem State.setStat_wraps (s : State) (f : Fld) (m : Nat) : (s.setStat f m).wraps = s.wraps := by simp only [State.setStat]; split <;> simp
@[simp] theorem State.setStat_bank (s : State) (f : Fld) (m : Nat) : (s.setStat f m).bank = s.bank := by simp only [State.setStat]; split <;> simp
@[simp] theorem State.setStat_bankWraps (s : State) (f : Fld) (m : Nat) : (s.setStat f m).bankWraps = s.bankWraps := by simp only [State.setStat]; split <;> simp
@[simp] theorem State.setStat_snapGen (s : State) (f : Fld) (m : Nat) : (s.setStat f m).snapGen = s.snapGen := by simp only [State.setStat]; split <;> simp
@[simp] theorem State.setStat_tick (s : State) (f : Fld) (m : Nat) : (s.setStat f m).tick = s.tick := by simp only [State.setStat]; split <;> simp
@[simp] theorem State.setStat_draws (s : State) (f : Fld) (m : Nat) : (s.setStat f m).draws = s.draws := by simp only [State.setStat]; split <;> simp
@[simp] theorem State.setStat_fuse (s : State) (f : Fld) (m : Nat) : (s.setStat f m).fuse = s.fuse := by simp only [State.setStat]; split <;> simp
@[simp] theorem State.setStat_sys (s : State) (f : Fld) (m : Nat) : (s.setStat f m).sys = s.sys := by simp only [State.setStat]; split <;> simp
@[simp] theorem State.setStat_obs (s : State) (f : Fld) (m : Nat) : (s.setStat f m).obs = s.obs := by simp only [State.setStat]; split <;> simp
@[simp] theorem State.setStat_cmd (s : State) (f : Fld) (m : Nat) : (s.setStat f m).cmd = s.cmd := by simp only [State.setStat]; split <;> simp
@[simp] theorem State.setStat_eng (s : State) (f : Fld) (m : Nat) : (s.setStat f m).eng = s.eng := by simp only [State.setStat]; split <;> simp
@[simp] theorem State.setStat_tod (s : State) (f : Fld) (m : Nat) : (s.setStat f m).tod = s.tod := by simp only [State.setStat]; split <;> simp
@[simp] theorem State.setStat_pair (s : State) (f : Fld) (m : Nat) : (s.setStat f m).pair = s.pair := by simp only [State.setStat]; split <;> simp
@[simp] theorem State.setStat_sec (s : State) (f : Fld) (m : Nat) : (s.setStat f m).sec = s.sec := by simp only [State.setStat]; split <;> simp
@[simp] theorem State.setStat_pwr (s : State) (f : Fld) (m : Nat) : (s.setStat f m).pwr = s.pwr := by simp only [State.setStat]; split <;> simp
@[simp] theorem State.setStat_ltx (s : State) (f : Fld) (m : Nat) : (s.setStat f m).ltx = s.ltx := by simp only [State.setStat]; split <;> simp
@[simp] theorem State.setStat_lrx (s : State) (f : Fld) (m : Nat) : (s.setStat f m).lrx = s.lrx := by simp only [State.setStat]; split <;> simp
@[simp] theorem State.setStat_adapt (s : State) (f : Fld) (m : Nat) : (s.setStat f m).adapt = s.adapt := by simp only [State.setStat]; split <;> simp
@[simp] theorem State.setStat_cnv (s : State) (f : Fld) (m : Nat) : (s.setStat f m).cnv = s.cnv := by simp only [State.setStat]; split <;> simp
@[simp] theorem State.setStat_fec (s : State) (f : Fld) (m : Nat) : (s.setStat f m).fec = s.fec := by simp only [State.setStat]; split <;> simp
@[simp] theorem State.setStat_frm (s : State) (f : Fld) (m : Nat) : (s.setStat f m).frm = s.frm := by simp only [State.setStat]; split <;> simp
@[simp] theorem State.setStat_cli (s : State) (f : Fld) (m : Nat) : (s.setStat f m).cli = s.cli := by simp only [State.setStat]; split <;> simp
@[simp] theorem State.setStat_vnr (s : State) (f : Fld) (m : Nat) : (s.setStat f m).vnr = s.vnr := by simp only [State.setStat]; split <;> simp
@[simp] theorem State.setStat_srd (s : State) (f : Fld) (m : Nat) : (s.setStat f m).srd = s.srd := by simp only [State.setStat]; split <;> simp
@[simp] theorem State.setStat_scr (s : State) (f : Fld) (m : Nat) : (s.setStat f m).scr = s.scr := by simp only [State.setStat]; split <;> simp
@[simp] theorem State.setStat_ref (s : State) (f : Fld) (m : Nat) : (s.setStat f m).ref = s.ref := by simp only [State.setStat]; split <;> simp
@[simp] theorem State.setStat_mon (s : State) (f : Fld) (m : Nat) : (s.setStat f m).mon = s.mon := by simp only [State.setStat]; split <;> simp

/-! ### State.resignal -/

@[simp] theorem State.resignal_pending (s : State) (b : Nat) : (s.resignal b).pending = s.pending := by simp only [State.resignal]; split <;> simp
@[simp] theorem State.resignal_cnts (s : State) (b : Nat) : (s.resignal b).cnts = s.cnts := by simp only [State.resignal]; split <;> simp
@[simp] theorem State.resignal_wraps (s : State) (b : Nat) : (s.resignal b).wraps = s.wraps := by simp only [State.resignal]; split <;> simp
@[simp] theorem State.resignal_bank (s : State) (b : Nat) : (s.resignal b).bank = s.bank := by simp only [State.resignal]; split <;> simp
@[simp] theorem State.resignal_bankWraps (s : State) (b : Nat) : (s.resignal b).bankWraps = s.bankWraps := by simp only [State.resignal]; split <;> simp
@[simp] theorem State.resignal_snapGen (s : State) (b : Nat) : (s.resignal b).snapGen = s.snapGen := by simp only [State.resignal]; split <;> simp
@[simp] theorem State.resignal_tick (s : State) (b : Nat) : (s.resignal b).tick = s.tick := by simp only [State.resignal]; split <;> simp
@[simp] theorem State.resignal_draws (s : State) (b : Nat) : (s.resignal b).draws = s.draws := by simp only [State.resignal]; split <;> simp
@[simp] theorem State.resignal_fuse (s : State) (b : Nat) : (s.resignal b).fuse = s.fuse := by simp only [State.resignal]; split <;> simp
@[simp] theorem State.resignal_sys (s : State) (b : Nat) : (s.resignal b).sys = s.sys := by simp only [State.resignal]; split <;> simp
@[simp] theorem State.resignal_obs (s : State) (b : Nat) : (s.resignal b).obs = s.obs := by simp only [State.resignal]; split <;> simp
@[simp] theorem State.resignal_cmd (s : State) (b : Nat) : (s.resignal b).cmd = s.cmd := by simp only [State.resignal]; split <;> simp
@[simp] theorem State.resignal_eng (s : State) (b : Nat) : (s.resignal b).eng = s.eng := by simp only [State.resignal]; split <;> simp
@[simp] theorem State.resignal_tod (s : State) (b : Nat) : (s.resignal b).tod = s.tod := by simp only [State.resignal]; split <;> simp
@[simp] theorem State.resignal_pair (s : State) (b : Nat) : (s.resignal b).pair = s.pair := by simp only [State.resignal]; split <;> simp
@[simp] theorem State.resignal_sec (s : State) (b : Nat) : (s.resignal b).sec = s.sec := by simp only [State.resignal]; split <;> simp
@[simp] theorem State.resignal_pwr (s : State) (b : Nat) : (s.resignal b).pwr = s.pwr := by simp only [State.resignal]; split <;> simp
@[simp] theorem State.resignal_ltx (s : State) (b : Nat) : (s.resignal b).ltx = s.ltx := by simp only [State.resignal]; split <;> simp
@[simp] theorem State.resignal_lrx (s : State) (b : Nat) : (s.resignal b).lrx = s.lrx := by simp only [State.resignal]; split <;> simp
@[simp] theorem State.resignal_adapt (s : State) (b : Nat) : (s.resignal b).adapt = s.adapt := by simp only [State.resignal]; split <;> simp
@[simp] theorem State.resignal_cnv (s : State) (b : Nat) : (s.resignal b).cnv = s.cnv := by simp only [State.resignal]; split <;> simp
@[simp] theorem State.resignal_fec (s : State) (b : Nat) : (s.resignal b).fec = s.fec := by simp only [State.resignal]; split <;> simp
@[simp] theorem State.resignal_frm (s : State) (b : Nat) : (s.resignal b).frm = s.frm := by simp only [State.resignal]; split <;> simp
@[simp] theorem State.resignal_cli (s : State) (b : Nat) : (s.resignal b).cli = s.cli := by simp only [State.resignal]; split <;> simp
@[simp] theorem State.resignal_vnr (s : State) (b : Nat) : (s.resignal b).vnr = s.vnr := by simp only [State.resignal]; split <;> simp
@[simp] theorem State.resignal_srd (s : State) (b : Nat) : (s.resignal b).srd = s.srd := by simp only [State.resignal]; split <;> simp
@[simp] theorem State.resignal_scr (s : State) (b : Nat) : (s.resignal b).scr = s.scr := by simp only [State.resignal]; split <;> simp
@[simp] theorem State.resignal_ref (s : State) (b : Nat) : (s.resignal b).ref = s.ref := by simp only [State.resignal]; split <;> simp
@[simp] theorem State.resignal_mon (s : State) (b : Nat) : (s.resignal b).mon = s.mon := by simp only [State.resignal]; split <;> simp

/-! ### State.signalQueue -/

@[simp] theorem State.signalQueue_pending (s : State) : (s.signalQueue).pending = s.pending := by simp only [State.signalQueue]; (repeat' split) <;> simp
@[simp] theorem State.signalQueue_cnts (s : State) : (s.signalQueue).cnts = s.cnts := by simp only [State.signalQueue]; (repeat' split) <;> simp
@[simp] theorem State.signalQueue_wraps (s : State) : (s.signalQueue).wraps = s.wraps := by simp only [State.signalQueue]; (repeat' split) <;> simp
@[simp] theorem State.signalQueue_bank (s : State) : (s.signalQueue).bank = s.bank := by simp only [State.signalQueue]; (repeat' split) <;> simp
@[simp] theorem State.signalQueue_bankWraps (s : State) : (s.signalQueue).bankWraps = s.bankWraps := by simp only [State.signalQueue]; (repeat' split) <;> simp
@[simp] theorem State.signalQueue_snapGen (s : State) : (s.signalQueue).snapGen = s.snapGen := by simp only [State.signalQueue]; (repeat' split) <;> simp
@[simp] theorem State.signalQueue_tick (s : State) : (s.signalQueue).tick = s.tick := by simp only [State.signalQueue]; (repeat' split) <;> simp
@[simp] theorem State.signalQueue_draws (s : State) : (s.signalQueue).draws = s.draws := by simp only [State.signalQueue]; (repeat' split) <;> simp
@[simp] theorem State.signalQueue_fuse (s : State) : (s.signalQueue).fuse = s.fuse := by simp only [State.signalQueue]; (repeat' split) <;> simp
@[simp] theorem State.signalQueue_obs (s : State) : (s.signalQueue).obs = s.obs := by simp only [State.signalQueue]; (repeat' split) <;> simp
@[simp] theorem State.signalQueue_cmd (s : State) : (s.signalQueue).cmd = s.cmd := by simp only [State.signalQueue]; (repeat' split) <;> simp
@[simp] theorem State.signalQueue_eng (s : State) : (s.signalQueue).eng = s.eng := by simp only [State.signalQueue]; (repeat' split) <;> simp
@[simp] theorem State.signalQueue_tod (s : State) : (s.signalQueue).tod = s.tod := by simp only [State.signalQueue]; (repeat' split) <;> simp
@[simp] theorem State.signalQueue_pair (s : State) : (s.signalQueue).pair = s.pair := by simp only [State.signalQueue]; (repeat' split) <;> simp
@[simp] theorem State.signalQueue_sec (s : State) : (s.signalQueue).sec = s.sec := by simp only [State.signalQueue]; (repeat' split) <;> simp
@[simp] theorem State.signalQueue_pwr (s : State) : (s.signalQueue).pwr = s.pwr := by simp only [State.signalQueue]; (repeat' split) <;> simp
@[simp] theorem State.signalQueue_ltx (s : State) : (s.signalQueue).ltx = s.ltx := by simp only [State.signalQueue]; (repeat' split) <;> simp
@[simp] theorem State.signalQueue_lrx (s : State) : (s.signalQueue).lrx = s.lrx := by simp only [State.signalQueue]; (repeat' split) <;> simp
@[simp] theorem State.signalQueue_adapt (s : State) : (s.signalQueue).adapt = s.adapt := by simp only [State.signalQueue]; (repeat' split) <;> simp
@[simp] theorem State.signalQueue_cnv (s : State) : (s.signalQueue).cnv = s.cnv := by simp only [State.signalQueue]; (repeat' split) <;> simp
@[simp] theorem State.signalQueue_fec (s : State) : (s.signalQueue).fec = s.fec := by simp only [State.signalQueue]; (repeat' split) <;> simp
@[simp] theorem State.signalQueue_frm (s : State) : (s.signalQueue).frm = s.frm := by simp only [State.signalQueue]; (repeat' split) <;> simp
@[simp] theorem State.signalQueue_cli (s : State) : (s.signalQueue).cli = s.cli := by simp only [State.signalQueue]; (repeat' split) <;> simp
@[simp] theorem State.signalQueue_vnr (s : State) : (s.signalQueue).vnr = s.vnr := by simp only [State.signalQueue]; (repeat' split) <;> simp
@[simp] theorem State.signalQueue_srd (s : State) : (s.signalQueue).srd = s.srd := by simp only [State.signalQueue]; (repeat' split) <;> simp
@[simp] theorem State.signalQueue_scr (s : State) : (s.signalQueue).scr = s.scr := by simp only [State.signalQueue]; (repeat' split) <;> simp
@[simp] theorem State.signalQueue_ref (s : State) : (s.signalQueue).ref = s.ref := by simp only [State.signalQueue]; (repeat' split) <;> simp
@[simp] theorem State.signalQueue_mon (s : State) : (s.signalQueue).mon = s.mon := by simp only [State.signalQueue]; (repeat' split) <;> simp

/-! ### State.enqueue -/

@[simp] theorem State.enqueue_pending (s : State) (a d fl q t : Nat) (p : List Nat) : (s.enqueue a d fl q t p).pending = s.pending := by simp only [State.enqueue]; (repeat' split) <;> simp
@[simp] theorem State.enqueue_cnts (s : State) (a d fl q t : Nat) (p : List Nat) : (s.enqueue a d fl q t p).cnts = s.cnts := by simp only [State.enqueue]; (repeat' split) <;> simp
@[simp] theorem State.enqueue_wraps (s : State) (a d fl q t : Nat) (p : List Nat) : (s.enqueue a d fl q t p).wraps = s.wraps := by simp only [State.enqueue]; (repeat' split) <;> simp
@[simp] theorem State.enqueue_bank (s : State) (a d fl q t : Nat) (p : List Nat) : (s.enqueue a d fl q t p).bank = s.bank := by simp only [State.enqueue]; (repeat' split) <;> simp
@[simp] theorem State.enqueue_bankWraps (s : State) (a d fl q t : Nat) (p : List Nat) : (s.enqueue a d fl q t p).bankWraps = s.bankWraps := by simp only [State.enqueue]; (repeat' split) <;> simp
@[simp] theorem State.enqueue_snapGen (s : State) (a d fl q t : Nat) (p : List Nat) : (s.enqueue a d fl q t p).snapGen = s.snapGen := by simp only [State.enqueue]; (repeat' split) <;> simp
@[simp] theorem State.enqueue_tick (s : State) (a d fl q t : Nat) (p : List Nat) : (s.enqueue a d fl q t p).tick = s.tick := by simp only [State.enqueue]; (repeat' split) <;> simp
@[simp] theorem State.enqueue_draws (s : State) (a d fl q t : Nat) (p : List Nat) : (s.enqueue a d fl q t p).draws = s.draws := by simp only [State.enqueue]; (repeat' split) <;> simp
@[simp] theorem State.enqueue_fuse (s : State) (a d fl q t : Nat) (p : List Nat) : (s.enqueue a d fl q t p).fuse = s.fuse := by simp only [State.enqueue]; (repeat' split) <;> simp
@[simp] theorem State.enqueue_obs (s : State) (a d fl q t : Nat) (p : List Nat) : (s.enqueue a d fl q t p).obs = s.obs := by simp only [State.enqueue]; (repeat' split) <;> simp
@[simp] theorem State.enqueue_cmd (s : State) (a d fl q t : Nat) (p : List Nat) : (s.enqueue a d fl q t p).cmd = s.cmd := by simp only [State.enqueue]; (repeat' split) <;> simp
@[simp] theorem State.enqueue_eng (s : State) (a d fl q t : Nat) (p : List Nat) : (s.enqueue a d fl q t p).eng = s.eng := by simp only [State.enqueue]; (repeat' split) <;> simp
@[simp] theorem State.enqueue_tod (s : State) (a d fl q t : Nat) (p : List Nat) : (s.enqueue a d fl q t p).tod = s.tod := by simp only [State.enqueue]; (repeat' split) <;> simp
@[simp] theorem State.enqueue_pair (s : State) (a d fl q t : Nat) (p : List Nat) : (s.enqueue a d fl q t p).pair = s.pair := by simp only [State.enqueue]; (repeat' split) <;> simp
@[simp] theorem State.enqueue_sec (s : State) (a d fl q t : Nat) (p : List Nat) : (s.enqueue a d fl q t p).sec = s.sec := by simp only [State.enqueue]; (repeat' split) <;> simp
@[simp] theorem State.enqueue_pwr (s : State) (a d fl q t : Nat) (p : List Nat) : (s.enqueue a d fl q t p).pwr = s.pwr := by simp only [State.enqueue]; (repeat' split) <;> simp
@[simp] theorem State.enqueue_ltx (s : State) (a d fl q t : Nat) (p : List Nat) : (s.enqueue a d fl q t p).ltx = s.ltx := by simp only [State.enqueue]; (repeat' split) <;> simp
@[simp] theorem State.enqueue_lrx (s : State) (a d fl q t : Nat) (p : List Nat) : (s.enqueue a d fl q t p).lrx = s.lrx := by simp only [State.enqueue]; (repeat' split) <;> simp
@[simp] theorem State.enqueue_adapt (s : State) (a d fl q t : Nat) (p : List Nat) : (s.enqueue a d fl q t p).adapt = s.adapt := by simp only [State.enqueue]; (repeat' split) <;> simp
@[simp] theorem State.enqueue_cnv (s : State) (a d fl q t : Nat) (p : List Nat) : (s.enqueue a d fl q t p).cnv = s.cnv := by simp only [State.enqueue]; (repeat' split) <;> simp
@[simp] theorem State.enqueue_fec (s : State) (a d fl q t : Nat) (p : List Nat) : (s.enqueue a d fl q t p).fec = s.fec := by simp only [State.enqueue]; (repeat' split) <;> simp
@[simp] theorem State.enqueue_frm (s : State) (a d fl q t : Nat) (p : List Nat) : (s.enqueue a d fl q t p).frm = s.frm := by simp only [State.enqueue]; (repeat' split) <;> simp
@[simp] theorem State.enqueue_cli (s : State) (a d fl q t : Nat) (p : List Nat) : (s.enqueue a d fl q t p).cli = s.cli := by simp only [State.enqueue]; (repeat' split) <;> simp
@[simp] theorem State.enqueue_vnr (s : State) (a d fl q t : Nat) (p : List Nat) : (s.enqueue a d fl q t p).vnr = s.vnr := by simp only [State.enqueue]; (repeat' split) <;> simp
@[simp] theorem State.enqueue_srd (s : State) (a d fl q t : Nat) (p : List Nat) : (s.enqueue a d fl q t p).srd = s.srd := by simp only [State.enqueue]; (repeat' split) <;> simp
@[simp] theorem State.enqueue_scr (s : State) (a d fl q t : Nat) (p : List Nat) : (s.enqueue a d fl q t p).scr = s.scr := by simp only [State.enqueue]; (repeat' split) <;> simp
@[simp] theorem State.enqueue_ref (s : State) (a d fl q t : Nat) (p : List Nat) : (s.enqueue a d fl q t p).ref = s.ref := by simp only [State.enqueue]; (repeat' split) <;> simp
@[simp] theorem State.enqueue_mon (s : State) (a d fl q t : Nat) (p : List Nat) : (s.enqueue a d fl q t p).mon = s.mon := by simp only [State.enqueue]; (repeat' split) <;> simp

/-! ### State.queueEvent -/

@[simp] theorem State.queueEvent_pending (s : State) (d c : Nat) (p : List Nat) : (s.queueEvent d c p).pending = s.pending := by simp only [State.queueEvent]; (repeat' split) <;> simp
@[simp] theorem State.queueEvent_cnts (s : State) (d c : Nat) (p : List Nat) : (s.queueEvent d c p).cnts = s.cnts := by simp only [State.queueEvent]; (repeat' split) <;> simp
@[simp] theorem State.queueEvent_wraps (s : State) (d c : Nat) (p : List Nat) : (s.queueEvent d c p).wraps = s.wraps := by simp only [State.queueEvent]; (repeat' split) <;> simp
@[simp] theorem State.queueEvent_bank (s : State) (d c : Nat) (p : List Nat) : (s.queueEvent d c p).bank = s.bank := by simp only [State.queueEvent]; (repeat' split) <;> simp
@[simp] theorem State.queueEvent_bankWraps (s : State) (d c : Nat) (p : List Nat) : (s.queueEvent d c p).bankWraps = s.bankWraps := by simp only [State.queueEvent]; (repeat' split) <;> simp
@[simp] theorem State.queueEvent_snapGen (s : State) (d c : Nat) (p : List Nat) : (s.queueEvent d c p).snapGen = s.snapGen := by simp only [State.queueEvent]; (repeat' split) <;> simp
@[simp] theorem State.queueEvent_tick (s : State) (d c : Nat) (p : List Nat) : (s.queueEvent d c p).tick = s.tick := by simp only [State.queueEvent]; (repeat' split) <;> simp
@[simp] theorem State.queueEvent_draws (s : State) (d c : Nat) (p : List Nat) : (s.queueEvent d c p).draws = s.draws := by simp only [State.queueEvent]; (repeat' split) <;> simp
@[simp] theorem State.queueEvent_fuse (s : State) (d c : Nat) (p : List Nat) : (s.queueEvent d c p).fuse = s.fuse := by simp only [State.queueEvent]; (repeat' split) <;> simp
@[simp] theorem State.queueEvent_obs (s : State) (d c : Nat) (p : List Nat) : (s.queueEvent d c p).obs = s.obs := by simp only [State.queueEvent]; (repeat' split) <;> simp
@[simp] theorem State.queueEvent_cmd (s : State) (d c : Nat) (p : List Nat) : (s.queueEvent d c p).cmd = s.cmd := by simp only [State.queueEvent]; (repeat' split) <;> simp
@[simp] theorem State.queueEvent_eng (s : State) (d c : Nat) (p : List Nat) : (s.queueEvent d c p).eng = s.eng := by simp only [State.queueEvent]; (repeat' split) <;> simp
@[simp] theorem State.queueEvent_tod (s : State) (d c : Nat) (p : List Nat) : (s.queueEvent d c p).tod = s.tod := by simp only [State.queueEvent]; (repeat' split) <;> simp
@[simp] theorem State.queueEvent_pair (s : State) (d c : Nat) (p : List Nat) : (s.queueEvent d c p).pair = s.pair := by simp only [State.queueEvent]; (repeat' split) <;> simp
@[simp] theorem State.queueEvent_sec (s : State) (d c : Nat) (p : List Nat) : (s.queueEvent d c p).sec = s.sec := by simp only [State.queueEvent]; (repeat' split) <;> simp
@[simp] theorem State.queueEvent_pwr (s : State) (d c : Nat) (p : List Nat) : (s.queueEvent d c p).pwr = s.pwr := by simp only [State.queueEvent]; (repeat' split) <;> simp
@[simp] theorem State.queueEvent_ltx (s : State) (d c : Nat) (p : List Nat) : (s.queueEvent d c p).ltx = s.ltx := by simp only [State.queueEvent]; (repeat' split) <;> simp
@[simp] theorem State.queueEvent_lrx (s : State) (d c : Nat) (p : List Nat) : (s.queueEvent d c p).lrx = s.lrx := by simp only [State.queueEvent]; (repeat' split) <;> simp
@[simp] theorem State.queueEvent_adapt (s : State) (d c : Nat) (p : List Nat) : (s.queueEvent d c p).adapt = s.adapt := by simp only [State.queueEvent]; (repeat' split) <;> simp
@[simp] theorem State.queueEvent_cnv (s : State) (d c : Nat) (p : List Nat) : (s.queueEvent d c p).cnv = s.cnv := by simp only [State.queueEvent]; (repeat' split) <;> simp
@[simp] theorem State.queueEvent_fec (s : State) (d c : Nat) (p : List Nat) : (s.queueEvent d c p).fec = s.fec := by simp only [State.queueEvent]; (repeat' split) <;> simp
@[simp] theorem State.queueEvent_frm (s : State) (d c : Nat) (p : List Nat) : (s.queueEvent d c p).frm = s.frm := by simp only [State.queueEvent]; (repeat' split) <;> simp
@[simp] theorem State.queueEvent_cli (s : State) (d c : Nat) (p : List Nat) : (s.queueEvent d c p).cli = s.cli := by simp only [State.queueEvent]; (repeat' split) <;> simp
@[simp] theorem State.queueEvent_vnr (s : State) (d c : Nat) (p : List Nat) : (s.queueEvent d c p).vnr = s.vnr := by simp only [State.queueEvent]; (repeat' split) <;> simp
@[simp] theorem State.queueEvent_srd (s : State) (d c : Nat) (p : List Nat) : (s.queueEvent d c p).srd = s.srd := by simp only [State.queueEvent]; (repeat' split) <;> simp
@[simp] theorem State.queueEvent_scr (s : State) (d c : Nat) (p : List Nat) : (s.queueEvent d c p).scr = s.scr := by simp only [State.queueEvent]; (repeat' split) <;> simp
@[simp] theorem State.queueEvent_ref (s : State) (d c : Nat) (p : List Nat) : (s.queueEvent d c p).ref = s.ref := by simp only [State.queueEvent]; (repeat' split) <;> simp
@[simp] theorem State.queueEvent_mon (s : State) (d c : Nat) (p : List Nat) : (s.queueEvent d c p).mon = s.mon := by simp only [State.queueEvent]; (repeat' split) <;> simp

/-! ### State.record -/

@[simp] theorem State.record_pending (s : State) (ty fl : Nat) (b : List Nat) : (s.record ty fl b).pending = s.pending := by simp only [State.record]; (repeat' split) <;> simp
@[simp] theorem State.record_bank (s : State) (ty fl : Nat) (b : List Nat) : (s.record ty fl b).bank = s.bank := by simp only [State.record]; (repeat' split) <;> simp
@[simp] theorem State.record_bankWraps (s : State) (ty fl : Nat) (b : List Nat) : (s.record ty fl b).bankWraps = s.bankWraps := by simp only [State.record]; (repeat' split) <;> simp
@[simp] theorem State.record_snapGen (s : State) (ty fl : Nat) (b : List Nat) : (s.record ty fl b).snapGen = s.snapGen := by simp only [State.record]; (repeat' split) <;> simp
@[simp] theorem State.record_out (s : State) (ty fl : Nat) (b : List Nat) : (s.record ty fl b).out = s.out := by simp only [State.record]; (repeat' split) <;> simp
@[simp] theorem State.record_tick (s : State) (ty fl : Nat) (b : List Nat) : (s.record ty fl b).tick = s.tick := by simp only [State.record]; (repeat' split) <;> simp
@[simp] theorem State.record_draws (s : State) (ty fl : Nat) (b : List Nat) : (s.record ty fl b).draws = s.draws := by simp only [State.record]; (repeat' split) <;> simp
@[simp] theorem State.record_fuse (s : State) (ty fl : Nat) (b : List Nat) : (s.record ty fl b).fuse = s.fuse := by simp only [State.record]; (repeat' split) <;> simp
@[simp] theorem State.record_sys (s : State) (ty fl : Nat) (b : List Nat) : (s.record ty fl b).sys = s.sys := by simp only [State.record]; (repeat' split) <;> simp
@[simp] theorem State.record_cmd (s : State) (ty fl : Nat) (b : List Nat) : (s.record ty fl b).cmd = s.cmd := by simp only [State.record]; (repeat' split) <;> simp
@[simp] theorem State.record_eng (s : State) (ty fl : Nat) (b : List Nat) : (s.record ty fl b).eng = s.eng := by simp only [State.record]; (repeat' split) <;> simp
@[simp] theorem State.record_tod (s : State) (ty fl : Nat) (b : List Nat) : (s.record ty fl b).tod = s.tod := by simp only [State.record]; (repeat' split) <;> simp
@[simp] theorem State.record_pair (s : State) (ty fl : Nat) (b : List Nat) : (s.record ty fl b).pair = s.pair := by simp only [State.record]; (repeat' split) <;> simp
@[simp] theorem State.record_sec (s : State) (ty fl : Nat) (b : List Nat) : (s.record ty fl b).sec = s.sec := by simp only [State.record]; (repeat' split) <;> simp
@[simp] theorem State.record_pwr (s : State) (ty fl : Nat) (b : List Nat) : (s.record ty fl b).pwr = s.pwr := by simp only [State.record]; (repeat' split) <;> simp
@[simp] theorem State.record_ltx (s : State) (ty fl : Nat) (b : List Nat) : (s.record ty fl b).ltx = s.ltx := by simp only [State.record]; (repeat' split) <;> simp
@[simp] theorem State.record_lrx (s : State) (ty fl : Nat) (b : List Nat) : (s.record ty fl b).lrx = s.lrx := by simp only [State.record]; (repeat' split) <;> simp
@[simp] theorem State.record_adapt (s : State) (ty fl : Nat) (b : List Nat) : (s.record ty fl b).adapt = s.adapt := by simp only [State.record]; (repeat' split) <;> simp
@[simp] theorem State.record_cnv (s : State) (ty fl : Nat) (b : List Nat) : (s.record ty fl b).cnv = s.cnv := by simp only [State.record]; (repeat' split) <;> simp
@[simp] theorem State.record_fec (s : State) (ty fl : Nat) (b : List Nat) : (s.record ty fl b).fec = s.fec := by simp only [State.record]; (repeat' split) <;> simp
@[simp] theorem State.record_frm (s : State) (ty fl : Nat) (b : List Nat) : (s.record ty fl b).frm = s.frm := by simp only [State.record]; (repeat' split) <;> simp
@[simp] theorem State.record_cli (s : State) (ty fl : Nat) (b : List Nat) : (s.record ty fl b).cli = s.cli := by simp only [State.record]; (repeat' split) <;> simp
@[simp] theorem State.record_vnr (s : State) (ty fl : Nat) (b : List Nat) : (s.record ty fl b).vnr = s.vnr := by simp only [State.record]; (repeat' split) <;> simp
@[simp] theorem State.record_srd (s : State) (ty fl : Nat) (b : List Nat) : (s.record ty fl b).srd = s.srd := by simp only [State.record]; (repeat' split) <;> simp
@[simp] theorem State.record_scr (s : State) (ty fl : Nat) (b : List Nat) : (s.record ty fl b).scr = s.scr := by simp only [State.record]; (repeat' split) <;> simp
@[simp] theorem State.record_ref (s : State) (ty fl : Nat) (b : List Nat) : (s.record ty fl b).ref = s.ref := by simp only [State.record]; (repeat' split) <;> simp
@[simp] theorem State.record_mon (s : State) (ty fl : Nat) (b : List Nat) : (s.record ty fl b).mon = s.mon := by simp only [State.record]; (repeat' split) <;> simp

/-! ### State.raise -/

@[simp] theorem State.raise_pending (s : State) (e : Ev) (p : List Nat) : (s.raise e p).pending = s.pending := by simp only [State.raise]; (repeat' split) <;> simp
@[simp] theorem State.raise_bank (s : State) (e : Ev) (p : List Nat) : (s.raise e p).bank = s.bank := by simp only [State.raise]; (repeat' split) <;> simp
@[simp] theorem State.raise_bankWraps (s : State) (e : Ev) (p : List Nat) : (s.raise e p).bankWraps = s.bankWraps := by simp only [State.raise]; (repeat' split) <;> simp
@[simp] theorem State.raise_snapGen (s : State) (e : Ev) (p : List Nat) : (s.raise e p).snapGen = s.snapGen := by simp only [State.raise]; (repeat' split) <;> simp
@[simp] theorem State.raise_tick (s : State) (e : Ev) (p : List Nat) : (s.raise e p).tick = s.tick := by simp only [State.raise]; (repeat' split) <;> simp
@[simp] theorem State.raise_draws (s : State) (e : Ev) (p : List Nat) : (s.raise e p).draws = s.draws := by simp only [State.raise]; (repeat' split) <;> simp
@[simp] theorem State.raise_fuse (s : State) (e : Ev) (p : List Nat) : (s.raise e p).fuse = s.fuse := by simp only [State.raise]; (repeat' split) <;> simp
@[simp] theorem State.raise_cmd (s : State) (e : Ev) (p : List Nat) : (s.raise e p).cmd = s.cmd := by simp only [State.raise]; (repeat' split) <;> simp
@[simp] theorem State.raise_eng (s : State) (e : Ev) (p : List Nat) : (s.raise e p).eng = s.eng := by simp only [State.raise]; (repeat' split) <;> simp
@[simp] theorem State.raise_tod (s : State) (e : Ev) (p : List Nat) : (s.raise e p).tod = s.tod := by simp only [State.raise]; (repeat' split) <;> simp
@[simp] theorem State.raise_pair (s : State) (e : Ev) (p : List Nat) : (s.raise e p).pair = s.pair := by simp only [State.raise]; (repeat' split) <;> simp
@[simp] theorem State.raise_sec (s : State) (e : Ev) (p : List Nat) : (s.raise e p).sec = s.sec := by simp only [State.raise]; (repeat' split) <;> simp
@[simp] theorem State.raise_pwr (s : State) (e : Ev) (p : List Nat) : (s.raise e p).pwr = s.pwr := by simp only [State.raise]; (repeat' split) <;> simp
@[simp] theorem State.raise_ltx (s : State) (e : Ev) (p : List Nat) : (s.raise e p).ltx = s.ltx := by simp only [State.raise]; (repeat' split) <;> simp
@[simp] theorem State.raise_lrx (s : State) (e : Ev) (p : List Nat) : (s.raise e p).lrx = s.lrx := by simp only [State.raise]; (repeat' split) <;> simp
@[simp] theorem State.raise_adapt (s : State) (e : Ev) (p : List Nat) : (s.raise e p).adapt = s.adapt := by simp only [State.raise]; (repeat' split) <;> simp
@[simp] theorem State.raise_cnv (s : State) (e : Ev) (p : List Nat) : (s.raise e p).cnv = s.cnv := by simp only [State.raise]; (repeat' split) <;> simp
@[simp] theorem State.raise_fec (s : State) (e : Ev) (p : List Nat) : (s.raise e p).fec = s.fec := by simp only [State.raise]; (repeat' split) <;> simp
@[simp] theorem State.raise_frm (s : State) (e : Ev) (p : List Nat) : (s.raise e p).frm = s.frm := by simp only [State.raise]; (repeat' split) <;> simp
@[simp] theorem State.raise_cli (s : State) (e : Ev) (p : List Nat) : (s.raise e p).cli = s.cli := by simp only [State.raise]; (repeat' split) <;> simp
@[simp] theorem State.raise_vnr (s : State) (e : Ev) (p : List Nat) : (s.raise e p).vnr = s.vnr := by simp only [State.raise]; (repeat' split) <;> simp
@[simp] theorem State.raise_srd (s : State) (e : Ev) (p : List Nat) : (s.raise e p).srd = s.srd := by simp only [State.raise]; (repeat' split) <;> simp
@[simp] theorem State.raise_scr (s : State) (e : Ev) (p : List Nat) : (s.raise e p).scr = s.scr := by simp only [State.raise]; (repeat' split) <;> simp
@[simp] theorem State.raise_ref (s : State) (e : Ev) (p : List Nat) : (s.raise e p).ref = s.ref := by simp only [State.raise]; (repeat' split) <;> simp
@[simp] theorem State.raise_mon (s : State) (e : Ev) (p : List Nat) : (s.raise e p).mon = s.mon := by simp only [State.raise]; (repeat' split) <;> simp

end Sys2Proof.Machine
end

