-- ==== Sys2Proof/Laws/Effects.lean ====
section
/-!
SUPPORT. How effects act, one lemma for each way of building one, and what a table, a register and a counter read after a write.
-/
namespace Sys2Proof.Machine

/-! ### Effects -/

@[simp] theorem run_nil (s : State) : run [] s = s := Eq.trans rfl rfl
@[simp] theorem run_cons (u : Upd) (us : List Upd) (s : State) : run (u :: us) s = run us (u.apply s) := Eq.trans rfl rfl
@[simp] theorem run_append (us vs : List Upd) (s : State) : run (us ++ vs) s = run vs (run us s) := by simp [run]

/-- A meaning answers the state its effect leaves. -/
theorem perform_next (e : Eff) (s : State) : perform e s = .next (e.act s) := rfl

@[simp] theorem act_nop (s : State) : nop.act s = s := Eq.trans rfl rfl
@[simp] theorem act_upd (u : Upd) (s : State) : (upd u).act s = u.apply s := Eq.trans rfl rfl
@[simp] theorem act_seq_nil (s : State) : (seqE []).act s = s := Eq.trans rfl rfl
@[simp] theorem act_andThen (a b : Eff) (s : State) : (a.andThen b).act s = b.act (a.act s) := by simp [Eff.act, Eff.andThen]
@[simp] theorem act_seq_cons (e : Eff) (es : List Eff) (s : State) : (seqE (e :: es)).act s = (seqE es).act (e.act s) := act_andThen e _ s
@[simp] theorem act_dyn (g : State → Eff) (s : State) : (dyn g).act s = (g s).act s := Eq.trans rfl rfl
@[simp] theorem act_whenE (c : Bool) (e : Eff) (s : State) : (whenE c e).act s = if c then e.act s else s := by cases c <;> rfl
@[simp] theorem act_ite (c : Prop) [Decidable c] (a b : Eff) (s : State) : (if c then a else b).act s = if c then a.act s else b.act s := by split <;> rfl
@[simp] theorem act_forE_nil {α : Type} (f : α → Eff) (s : State) : (forE [] f).act s = s := Eq.trans rfl rfl
@[simp] theorem act_forE_cons {α : Type} (x : α) (xs : List α) (f : α → Eff) (s : State) : (forE (x :: xs) f).act s = (forE xs f).act ((f x).act s) :=
  act_seq_cons _ _ s
@[simp] theorem act_put (f : Fld) (v i : Nat) (s : State) : (put f v i).act s = s.wr f i v := Eq.trans rfl rfl
@[simp] theorem act_putI (f : Fld) (z : Int) (i : Nat) (s : State) : (putI f z i).act s = s.wr f i (f.pat z) := Eq.trans rfl rfl
@[simp] theorem act_putB (f : Fld) (b : Bool) (i : Nat) (s : State) : (putB f b i).act s = s.wr f i (b2n b) := Eq.trans rfl rfl
@[simp] theorem act_raise (e : Ev) (p : List Nat) (s : State) : (raise e p).act s = s.raise e p := Eq.trans rfl rfl
@[simp] theorem act_occur (e : Ev) (i : Nat) (it : List Nat) (s : State) : (occur e i it).act s = s.occur e i false it := Eq.trans rfl rfl
@[simp] theorem act_occurMin (e : Ev) (i : Nat) (it : List Nat) (s : State) : (occurMin e i it).act s = s.occur e i true it := Eq.trans rfl rfl
@[simp] theorem act_stat (f : Fld) (b : Nat) (s : State) : (stat f b).act s = s.setStat f (2 ^ b) := Eq.trans rfl rfl
@[simp] theorem act_count (j n : Nat) (s : State) : (count j n).act s = s.count j n := Eq.trans rfl rfl
@[simp] theorem act_emit (o : Output) (s : State) : (emit o).act s = { s with out := o :: s.out } := Eq.trans rfl rfl
@[simp] theorem act_record (t : Nat) (b : List Nat) (s : State) : (record t b).act s = s.record t 0 b := Eq.trans rfl rfl
@[simp] theorem act_drawn (s : State) : drawn.act s = { s with draws := s.draws + 1 } := Eq.trans rfl rfl
@[simp] theorem act_bump (f : Fld) (n i : Nat) (s : State) : (bump f n i).act s = s.wr f i (sat (2 ^ f.width - 1) (s.rd f i + n)) := Eq.trans rfl rfl
/-- An effect written as the list of its updates. -/
theorem act_run (e : Eff) (s : State) : e.act s = run (e s) s := rfl

/-! ### Tables -/

theorem Tab.get_insert {α : Type} (d : α) (t : Tab α) (k : Nat) (v : α) (j : Nat) :
    Tab.get d (Tab.insert t k v) j = if j = k then v else Tab.get d t j := by
  induction t with
  | nil => simp [Tab.insert, Tab.get]
  | cons e r ih =>
    obtain ⟨k', v'⟩ := e
    simp only [Tab.insert]
    split
    · simp [Tab.get]
    · split
      · subst_vars; simp only [Tab.get]; split <;> rfl
      · simp only [Tab.get, ih]; split <;> split <;> simp_all

theorem Tab.get_erase {α : Type} (d : α) (t : Tab α) (k j : Nat) : Tab.get d (Tab.erase t k) j = if j = k then d else Tab.get d t j := by
  induction t with
  | nil => simp [Tab.erase, Tab.get]
  | cons e r ih =>
    obtain ⟨k', v'⟩ := e
    simp only [Tab.erase, List.filter_cons] at ih ⊢
    split
    · simp only [Tab.get, ih]; split <;> split <;> simp_all
    · rw [ih]; simp only [Tab.get]; split <;> simp_all

/-- What a table reads after a write. -/
theorem Tab.get_set {α : Type} [DecidableEq α] (d : α) (t : Tab α) (k : Nat) (v : α) (j : Nat) :
    Tab.get d (Tab.set d t k v) j = if j = k then v else Tab.get d t j := by
  unfold Tab.set
  split
  · subst_vars; exact Tab.get_erase v t k j
  · exact Tab.get_insert d t k v j

@[simp] theorem Tab.get_set_self {α : Type} [DecidableEq α] (d : α) (t : Tab α) (k : Nat) (v : α) : Tab.get d (Tab.set d t k v) k = v := by
  simp [Tab.get_set]

/-- The default a table is written under does not matter to another key. -/
theorem Tab.get_set_ne {α : Type} [DecidableEq α] (d d' : α) (t : Tab α) {k j : Nat} (v : α) (h : j ≠ k) :
    Tab.get d' (Tab.set d t k v) j = Tab.get d' t j := by
  unfold Tab.set
  split
  · rw [Tab.get_erase, if_neg h]
  · rw [Tab.get_insert, if_neg h]

/-! ### Registers and counters -/

@[simp] theorem rd_wr_self (s : State) (f : Fld) (i v : Nat) : (s.wr f i v).rd f i = v % 2 ^ f.width := by simp [State.rd, State.wr]

/-- Another field of the register file keeps its value through a write. -/
theorem rd_wr_ne (s : State) (f g : Fld) (i j v : Nat) (h : f.key i ≠ g.key j) : (s.wr g j v).rd f i = s.rd f i := by
  simp [State.rd, State.wr, Tab.get_set_ne _ _ _ _ h]

/-- A field reads the same in two states whose register files are equal. -/
theorem rd_congr {s t : State} (h : s.regs = t.regs) (f : Fld) (i : Nat) : s.rd f i = t.rd f i := by simp [State.rd, h]

@[simp] theorem cnt_count_self (s : State) (j n : Nat) : (s.count j n).cnt j = (s.cnt j + n) % 2 ^ 48 := by
  simp only [State.count]; split <;> simp [State.cnt, State.occur]

/-! ### The registers that raising an event and recording touch -/

/-- The keys of the fields that raising `e` may write: its status bit, the pending MSI-X bits, the event queue's registers and the recorder's
sequence number. -/
def raiseKeys (e : Ev) : List Nat :=
  [e.stat.key 0, MSIX_PBA.ALL.key 0, SYS_EQ_STAT.LOST.key 0, SYS_INT_STAT.ALL.key 0, SYS_EQ_PROD.ALL.key 0, SYS_EQ_STAT.LEVEL.key 0, OBS_REC_RSEQ.ALL.key 0]

theorem rd_signal (s : State) (v : Nat) (f : Fld) (i : Nat) (h : f.key i ≠ MSIX_PBA.ALL.key 0) : (s.signal v).rd f i = s.rd f i := by
  simp only [State.signal]; split
  · rfl
  · exact rd_wr_ne _ _ _ _ _ _ h

theorem rd_setStat (s : State) (g : Fld) (m : Nat) (f : Fld) (i : Nat) (h : f.key i ≠ g.key 0) (h' : f.key i ≠ MSIX_PBA.ALL.key 0) :
    (s.setStat g m).rd f i = s.rd f i := by
  simp only [State.setStat]; split
  · rw [State.signalBlock, rd_signal _ _ _ _ h', rd_wr_ne _ _ _ _ _ _ h]
  · exact rd_wr_ne _ _ _ _ _ _ h

@[simp] theorem count_regs (s : State) (j n : Nat) : (s.count j n).regs = s.regs := by simp

theorem rd_count (s : State) (j n : Nat) (f : Fld) (i : Nat) : (s.count j n).rd f i = s.rd f i := rd_congr (by simp) f i

theorem rd_signalQueue (s : State) (f : Fld) (i : Nat) (h : f.key i ≠ MSIX_PBA.ALL.key 0) : s.signalQueue.rd f i = s.rd f i := by
  simp only [State.signalQueue]; repeat' split
  · exact rd_signal _ _ _ _ h
  · rfl
  · rw [rd_signal _ _ _ _ h]; rfl

theorem rd_enqueue (s : State) (a d fl q t : Nat) (p : List Nat) (f : Fld) (i : Nat) (h : f.key i ∉ raiseKeys ⟨0, SYS_INT_STAT.ALL, none⟩) :
    (s.enqueue a d fl q t p).rd f i = s.rd f i := by
  simp only [raiseKeys, List.mem_cons, not_or] at h
  obtain ⟨h0, h1, h2, _, h4, h5, _⟩ := h
  simp only [State.enqueue]; repeat' split
  · rfl
  · rw [rd_setStat _ _ _ _ _ h0 h1, rd_wr_ne _ _ _ _ _ _ h2]; rfl
  · rw [rd_signalQueue _ _ _ h1]
    refine Eq.trans (rd_congr rfl f i : _ = ((_ : State).wr SYS_EQ_STAT.LEVEL 0 _).rd f i) ?_
    rw [rd_wr_ne _ _ _ _ _ _ h5, rd_wr_ne _ _ _ _ _ _ h4]; rfl

theorem record_regs (s : State) (ty fl : Nat) (b : List Nat) :
    (s.record ty fl b).regs = (if s.recording then s.wr OBS_REC_RSEQ.ALL 0 ((s.rd OBS_REC_RSEQ.ALL + 1) % 2 ^ 32) else s).regs := by
  cases h : s.recording <;> simp only [State.record, h] <;> (repeat' split) <;> simp_all

theorem rd_record (s : State) (ty fl : Nat) (b : List Nat) (f : Fld) (i : Nat) (h : f.key i ≠ OBS_REC_RSEQ.ALL.key 0) :
    (s.record ty fl b).rd f i = s.rd f i := by
  rw [rd_congr (record_regs s ty fl b) f i]; split
  · exact rd_wr_ne _ _ _ _ _ _ h
  · rfl

/-- Raising an event leaves every field but those of `raiseKeys`. -/
theorem rd_raise (s : State) (e : Ev) (p : List Nat) (f : Fld) (i : Nat) (h : f.key i ∉ raiseKeys e) : (s.raise e p).rd f i = s.rd f i := by
  have h' : f.key i ∉ raiseKeys ⟨0, SYS_INT_STAT.ALL, none⟩ := by
    simp only [raiseKeys, List.mem_cons, not_or] at h ⊢
    exact ⟨h.2.2.2.1, h.2⟩
  simp only [raiseKeys, List.mem_cons, not_or] at h
  obtain ⟨h0, h1, h2, h3, h4, h5, h6, _⟩ := h
  have hs : ∀ (t : State) (m : Nat), (t.setStat e.stat m).rd f i = t.rd f i := fun t m => rd_setStat t _ m f i h0 h1
  have hq : ∀ (t : State) (a b : Nat) (q : List Nat), (t.queueEvent a b q).rd f i = t.rd f i := by
    intro t a b q
    simp only [State.queueEvent]; split
    · rfl
    · rw [rd_enqueue _ _ _ _ _ _ _ _ _ h']; rfl
  have hr : ∀ (t : State) (a b : Nat) (q : List Nat), (t.record a b q).rd f i = t.rd f i := fun t a b q => rd_record t a b q f i h6
  have he : ∀ (x : State) (o : ObsSt), ({ x with obs := o } : State).rd f i = x.rd f i := fun _ _ => rfl
  simp only [State.raise]
  (repeat' split) <;> simp only [he, hs, hq, hr, rd_count]

end Sys2Proof.Machine
end

