-- ==== Sys2Proof/Laws/Commands.lean ====
section
/-!
SUPPORT. What an accepted Felwin command leaves: its body's effect, and its reply in its slot.
-/
namespace Sys2Proof.Machine
open Sys2Proof

/-- An accepted command answers what its body answers. -/
theorem answer_accepted {op : OpDef} {h : CmdHdr} {p : List Word} {s : State} (a : Accepted op h p s) :
    op.answer h (p.map (·.toNat)) s = op.body h (p.map (·.toNat)) s := by
  obtain ⟨_, _, hb, hs, hl, hg, hr, hp, hc, hh, hk⟩ := a
  have h1 : (s.dev == 0 && !bootOps.contains op.code) = false := by rcases hb with hb | hb <;> simp_all
  have h2 : (op.code == 0x0207 && s.dev == 3 && nth (p.map (·.toNat)) 0 != 1) = false := by rcases hr with hr | hr <;> simp [hr]
  have h3 : (s.paired && s.role != 1 && configOps.contains op.code) = false := by rcases hc with hc | hc | ⟨hc, _⟩ <;> simp only [hc] <;> simp
  simp only [OpDef.answer, h1, hs, hg, h2, hp, h3, hk, hh, List.length_map, hl]
  simp

/-- An accepted command that the journal does not hold back acts and is answered at once. -/
theorem felwin_accepted {op : OpDef} {h : CmdHdr} {p : List Word} {s : State} (a : Accepted op h p s) :
    (felwin op h p).act s = (actAndReply (runOf h op.code (p.map (·.toNat))) (op.body h (p.map (·.toNat)) s)).act s := by
  have hj : s.journals op.code = false := by
    rcases a.role with hc | hc | ⟨_, hc⟩ <;> simp only [State.journals, hc] <;> simp
  have hl : (s.lifecycle == 4) = false := by simp [a.life]
  have hp : (s.rd PWR_STATUS.STATE == 4) = false := by simp [a.power]
  simp only [felwin, felwinN, act_dyn, answer_accepted a, hj, hl, hp]
  simp

/-! ### Replies -/

theorem unhold_slots (r : Reply) (s : State) (hn : r.noHold = false) : ((unhold r).act s).cmd.slots = s.cmd.slots := by
  simp only [unhold, act_dyn, act_whenE, hn]; simp

theorem sendReply_slots (r : Reply) (s : State) (hn : r.noHold = false) : ((sendReply r).act s).cmd.slots = s.cmd.slots := by
  simp only [sendReply, act_dyn, act_ite, act_seq_cons, act_seq_nil, act_emit, act_upd]; split
  · rw [unhold_slots _ _ hn]
  · rfl

theorem replyTo_slot (r : Running) (st : Status) (fl : Nat) (pay : State → List Nat) (s : State) (hf : r.flags = 0) :
    Tab.get none ((replyTo r st fl pay).act s).cmd.slots (slotKey r.ring r.seq) =
      some ⟨r, if st = .pending then none else some (s.mkReply r st fl (pay s))⟩ := by
  simp only [replyTo, act_dyn, act_seq_cons, act_seq_nil, act_record, State.record_cmd]
  rw [sendReply_slots _ _ (by simp [State.mkReply, hf])]
  simp only [act_whenE]
  split <;> simp [Upd.apply]

theorem unhold_regs (r : Reply) (s : State) : ((unhold r).act s).regs = s.regs := by
  simp only [unhold, act_dyn, act_whenE, act_upd]; (repeat' split) <;> rfl

theorem sendReply_regs (r : Reply) (s : State) : ((sendReply r).act s).regs = s.regs := by
  simp only [sendReply, act_dyn, act_ite, act_seq_cons, act_seq_nil, act_emit, act_upd]; split
  · rw [unhold_regs]
  · rfl

/-- A reply changes none of the registers but the recorder's sequence number. -/
theorem replyTo_rd (r : Running) (st : Status) (fl : Nat) (pay : State → List Nat) (s : State) (f : Fld) (i : Nat)
    (hf : f.key i ≠ OBS_REC_RSEQ.ALL.key 0) : ((replyTo r st fl pay).act s).rd f i = s.rd f i := by
  simp only [replyTo, act_dyn, act_seq_cons, act_seq_nil, act_record, act_whenE, act_upd]
  rw [rd_record _ _ _ _ _ _ hf, rd_congr (sendReply_regs _ _) f i]
  split <;> rfl

end Sys2Proof.Machine
end

