-- ==== Sys2Proof/Laws/Parts.lean ====
section
/-!
SUPPORT. What a change to one part of a block's state does: the part reads as changed, every other part as before.
-/
namespace Sys2Proof.Machine

/-! ### Subcarriers -/

@[simp] theorem act_modSc (k : Nat) (g : ScSt → ScSt) (s : State) :
    (modSc k g).act s = { s with lrx := { s.lrx with scs := Tab.set {} s.lrx.scs k (g (s.lrx.sc k)) } } := Eq.trans rfl rfl
@[simp] theorem modSc_self (k : Nat) (g : ScSt → ScSt) (s : State) : ((modSc k g).act s).lrx.sc k = g (s.lrx.sc k) := by simp [LrxSt.sc]
theorem modSc_other {j k : Nat} (g : ScSt → ScSt) (s : State) (h : j ≠ k) : ((modSc k g).act s).lrx.sc j = s.lrx.sc j := by simp [LrxSt.sc, Tab.get_set, h]

/-! ### Lasers -/

@[simp] theorem act_modLaser (k : Nat) (g : LaserSt → LaserSt) (s : State) :
    (modLaser k g).act s = { s with ltx := { s.ltx with las := Tab.set {} s.ltx.las k (g (s.ltx.laser k)) } } := Eq.trans rfl rfl
@[simp] theorem modLaser_self (k : Nat) (g : LaserSt → LaserSt) (s : State) : ((modLaser k g).act s).ltx.laser k = g (s.ltx.laser k) := by simp [LtxSt.laser]
theorem modLaser_other {j k : Nat} (g : LaserSt → LaserSt) (s : State) (h : j ≠ k) : ((modLaser k g).act s).ltx.laser j = s.ltx.laser j := by simp [LtxSt.laser, Tab.get_set, h]

/-! ### Modulators of the Gauge -/

@[simp] theorem act_modMod (k : Nat) (g : ModSt → ModSt) (s : State) :
    (modMod k g).act s = { s with mon := { s.mon with mods := Tab.set {} s.mon.mods k (g (s.mon.mod k)) } } := Eq.trans rfl rfl
@[simp] theorem modMod_self (k : Nat) (g : ModSt → ModSt) (s : State) : ((modMod k g).act s).mon.mod k = g (s.mon.mod k) := by simp [MonSt.mod]
theorem modMod_other {j k : Nat} (g : ModSt → ModSt) (s : State) (h : j ≠ k) : ((modMod k g).act s).mon.mod j = s.mon.mod j := by simp [MonSt.mod, Tab.get_set, h]

/-! ### Overhead layers -/

@[simp] theorem act_modLayer (k : Nat) (g : Layer → Layer) (s : State) :
    (modLayer k g).act s = { s with frm := { s.frm with layers := Tab.set {} s.frm.layers k (g (s.frm.layer k)) } } := Eq.trans rfl rfl
@[simp] theorem modLayer_self (k : Nat) (g : Layer → Layer) (s : State) : ((modLayer k g).act s).frm.layer k = g (s.frm.layer k) := by simp [FrmSt.layer]
theorem modLayer_other {j k : Nat} (g : Layer → Layer) (s : State) (h : j ≠ k) : ((modLayer k g).act s).frm.layer j = s.frm.layer j := by simp [FrmSt.layer, Tab.get_set, h]

/-! ### Overhead channels -/

@[simp] theorem act_modOh (k : Nat) (g : OhSt → OhSt) (s : State) :
    (modOh k g).act s = { s with frm := { s.frm with oh := Tab.set {} s.frm.oh k (g (s.frm.ohc k)) } } := Eq.trans rfl rfl
@[simp] theorem modOh_self (k : Nat) (g : OhSt → OhSt) (s : State) : ((modOh k g).act s).frm.ohc k = g (s.frm.ohc k) := by simp [FrmSt.ohc]
theorem modOh_other {j k : Nat} (g : OhSt → OhSt) (s : State) (h : j ≠ k) : ((modOh k g).act s).frm.ohc j = s.frm.ohc j := by simp [FrmSt.ohc, Tab.get_set, h]

/-! ### Calibration sets -/

@[simp] theorem act_modSet (k : Nat) (g : CalSet → CalSet) (s : State) :
    (modSet k g).act s = { s with cnv := { s.cnv with sets := Tab.set {} s.cnv.sets k (g (Tab.get {} s.cnv.sets k)) } } := Eq.trans rfl rfl
theorem modSet_read (j k : Nat) (g : CalSet → CalSet) (s : State) :
    Tab.get {} ((modSet k g).act s).cnv.sets j = if j = k then g (Tab.get {} s.cnv.sets k) else Tab.get {} s.cnv.sets j := by simp [Tab.get_set]

/-! ### PTP ports -/

@[simp] theorem act_modPort (k : Nat) (g : PtpPort → PtpPort) (s : State) :
    (modPort k g).act s = { s with tod := { s.tod with ports := Tab.set {} s.tod.ports k (g (Tab.get {} s.tod.ports k)) } } := Eq.trans rfl rfl
theorem modPort_read (j k : Nat) (g : PtpPort → PtpPort) (s : State) :
    Tab.get {} ((modPort k g).act s).tod.ports j = if j = k then g (Tab.get {} s.tod.ports k) else Tab.get {} s.tod.ports j := by simp [Tab.get_set]

/-! ### Converter slices -/

@[simp] theorem act_modSlice (n : Nat) (g : SliceSt → SliceSt) (s : State) :
    (modSlice n g).act s = { s with cnv := { s.cnv with slices := Tab.set none s.cnv.slices n (some (g (s.cnv.slice n))) } } := Eq.trans rfl rfl
@[simp] theorem modSlice_self (n : Nat) (g : SliceSt → SliceSt) (s : State) : ((modSlice n g).act s).cnv.slice n = g (s.cnv.slice n) := by
  simp [CnvSt.slice]
theorem modSlice_other {j n : Nat} (g : SliceSt → SliceSt) (s : State) (h : j ≠ n) : ((modSlice n g).act s).cnv.slice j = s.cnv.slice j := by
  simp [CnvSt.slice, Tab.get_set, h]

/-! ### Key slots -/

@[simp] theorem act_modSlot (p k : Nat) (g : KeySlot → KeySlot) (s : State) :
    (modSlot p k g).act s = { s with vnr := { s.vnr with slots := Tab.set {} s.vnr.slots (2 * p + k) (g (s.vnr.slot p k)) } } := Eq.trans rfl rfl
@[simp] theorem modSlot_self (p k : Nat) (g : KeySlot → KeySlot) (s : State) : ((modSlot p k g).act s).vnr.slot p k = g (s.vnr.slot p k) := by
  simp [VnrSt.slot]
/-- A page has the two slots 0 and 1, so slots of other pages and the page's other slot keep their keys. -/
theorem modSlot_other {p q k j : Nat} (g : KeySlot → KeySlot) (s : State) (hk : k < 2) (hj : j < 2) (h : q ≠ p ∨ j ≠ k) :
    ((modSlot p k g).act s).vnr.slot q j = s.vnr.slot q j := by
  have hn : 2 * q + j ≠ 2 * p + k := by omega
  simp [VnrSt.slot, Tab.get_set, hn]
@[simp] theorem act_modGen (p k : Nat) (g : KeyGen → KeyGen) (s : State) :
    (modGen p k g).act s = (modSlot p k (fun y => { y with cur := y.cur.map g })).act s := Eq.trans rfl rfl

/-! ### Lane groups -/

@[simp] theorem act_modGrp (g : Nat) (f : GrpSt → GrpSt) (s : State) :
    (modGrp g f).act s = { s with srd := if g = 0 then { s.srd with mitre := f s.srd.mitre } else { s.srd with batten := f s.srd.batten } } := Eq.trans rfl rfl
@[simp] theorem modGrp_self (g : Nat) (f : GrpSt → GrpSt) (s : State) : ((modGrp g f).act s).srd.grp g = f (s.srd.grp g) := by
  by_cases h : g = 0 <;> simp [SrdSt.grp, h]
theorem modGrp_mitre (f : GrpSt → GrpSt) (s : State) : ((modGrp 1 f).act s).srd.mitre = s.srd.mitre := by simp
theorem modGrp_batten (f : GrpSt → GrpSt) (s : State) : ((modGrp 0 f).act s).srd.batten = s.srd.batten := by simp

end Sys2Proof.Machine
end

