-- ==== Sys2Proof/Tests/Slice0.lean ====
section
/-!
SUPPORT. Tests: inputs that meet the hypotheses of every clause of every statement that has any, at a boundary value of a range where the clause
has one; ill-formed commands that each check of well-formedness refuses; numbers the spec's worked examples give.
-/
open Sys2Proof Sys2Proof.Machine
namespace Sys2Proof.Tests
set_option Elab.async false

/-- The state after reset with the device state `d` and the fields `xs` as given. -/
def base (d : Nat) (xs : List (Fld × Nat × Nat)) : State := ((CMD_STATUS.STATE, 0, d) :: xs).foldl (fun s x => s.wr x.1 x.2.1 x.2.2) State.reset

/-- Bank `b` of the plan of four subcarriers of mode 5. -/
def pl5 (b : Nat) : List (Fld × Nat × Nat) := [6, 7, 8, 9].flatMap fun k => [(LTX_PLAN_SC.EN, 16 * b + k, 1), (LTX_PLAN_SC.CONST, 16 * b + k, 3), (LTX_PLAN_SC.ENT, 16 * b + k, 53)]

/-- A running command of opcode `o`. -/
def rn (o : Nat) (p : List Nat) : Running := ⟨0, 5, 0, 0, o, p⟩

/-- `Accepted`, decided. -/
def accepts (op : OpDef) (h : CmdHdr) (p : List Word) (s : State) : Bool :=
  s.lifecycle != 4 && s.rd PWR_STATUS.STATE != 4 && (s.dev != 0 || bootOps.contains op.code) && s.sessionOpen h.session.toNat && op.lenOk p.length &&
  op.legal.contains s.dev && (op.code != 0x0207 || s.dev != 3) && s.powered (classBlock op.code) && (!s.paired || (!configOps.contains op.code || s.role == 1 && !s.on PAIR_STATUS.LINK)) && h.flags == 0 && !s.on SEC_STATUS.KEEPER_ALARM

/-- What `accepts` says holds. -/
theorem acc {op : OpDef} {h : CmdHdr} {p : List Word} {s : State} (e : accepts op h p s = true) : Accepted op h p s := by
  simp only [accepts, Bool.and_eq_true, bne_iff_ne, Bool.or_eq_true, beq_iff_eq, Bool.not_eq_true', Bool.and_eq_true] at e
  exact ⟨e.1.1.1.1.1.1.1.1.1.1, e.1.1.1.1.1.1.1.1.1.2, e.1.1.1.1.1.1.1.1.2, e.1.1.1.1.1.1.1.2, e.1.1.1.1.1.1.2, e.1.1.1.1.1.2, e.1.1.1.1.2, e.1.1.1.2, e.1.1.2, e.1.2, e.2⟩

/-- A register that a search finds and a test passes. -/
theorem found {o : Nat} (P : RegDef → Nat → Bool) (h : (findReg o).any (fun x => P x.1 x.2) = true) : ∃ r i, findReg o = some (r, i) ∧ P r i = true := by
  cases e : findReg o with
  | none => rw [e] at h; cases h
  | some x => rw [e] at h; exact ⟨x.1, x.2, rfl, h⟩

/-- Some header, parameters and state meet a command's checks and the condition `C`. -/
def Met (op : OpDef) (C : List Nat → State → Prop) : Prop := ∃ h p s, Accepted op h p s ∧ C (p.map (·.toNat)) s

/-- Given header, parameters and state meet them. -/
theorem met {op : OpDef} {C : List Nat → State → Prop} (h : CmdHdr) (p : List Nat) (s : State) (a : accepts op h (p.map (BitVec.ofNat 32)) s = true)
    (c : C ((p.map (BitVec.ofNat 32)).map (·.toNat)) s) : Met op C := ⟨h, _, s, acc a, c⟩

/-- Inputs that meet the hypotheses of each clause of `Obligations.TransmitCommands` that has any. -/
theorem test_meets_TransmitCommands :
  Met opLtxModeSet (fun p s => s.lit = false ∧ modeOk s.is1600 (nth p 0) (nth p 1) = true ∧ modeArgsOk p = true ∧ widthOk (nth p 0) (nth p 1) (nth p 2) (nth p 3) = true ∧ s.scribeOk (nth p 0) (nth p 1) (nth p 2) (nth p 3) = true) ∧
  Met opLtxPlanLoad (fun p s => s.on LTX_STATUS.PLAN_PENDING = false ∧ s.on LRX_ADAPT_CFG.TX_EN = false ∧ planCheck s.txMode s.txN true (nth p 0) (loadWords (p.drop 1)) = none) ∧
  Met opLtxPlanCommit (fun p s => s.on LTX_STATUS.PLAN_PENDING = false ∧ s.on LRX_ADAPT_CFG.TX_EN = false ∧ nth p 0 = s.rd LTX_PLAN_HDR.PLAN_ID 1 ∧ planCheck s.txMode s.txN true (s.rd LTX_PLAN_HDR.PLAN_ID 1) (s.bankWords 1) = none) ∧
  Met opLtxPlanCancel (fun _ s => s.cancelOk = true ∧ s.on LRX_ADAPT_CFG.TX_EN = false) ∧
  Met opLtxPlanGet (fun p _ => nth p 0 ≤ 1) ∧
  Met opLtxBiasCtrl (fun p _ => nth p 0 ≤ 63 ∧ nth p 1 ≤ 1 ∧ (1000 ≤ nth p 2 ∧ nth p 2 ≤ 40000) ∧ (1 ≤ nth p 3 ∧ nth p 3 ≤ 40) ∧ (4 ≤ nth p 4 ∧ nth p 4 ≤ 256) ∧ nth p 5 ≤ 7 ∧ nth p 6 ≤ 1) ∧
  Met opLtxLaserSet (fun p s => p.length = 5 ∧ nth p 0 = 0 ∧ nth p 1 ≤ 1 ∧ (1200 ≤ nth p 3 ∧ nth p 3 ≤ 1800) ∧ nth p 4 ≤ 1 ∧ lasFreqOk (nth p 2) = true ∧ s.lit = false) ∧
  Met opLtxLaserSet (fun p s => p.length = 3 ∧ nth p 0 = 1 ∧ nth p 1 ≤ 1 ∧ s.ftfOk (nth p 1) (ofPat 32 (nth p 2)) = true ∧ (s.ltx.laser (nth p 1)).recent = false) ∧
  Met opLtxLaserSet (fun p _ => p.length = 2 ∧ nth p 0 = 2 ∧ wordOk [LTX_LAS_TIMERS.TUNE_TO, LTX_LAS_TIMERS.POLL, LTX_LAS_TIMERS.RESP_TO, LTX_LAS_TIMERS.BIAS_TO] (nth p 1) = true) ∧
  Met opLtxLaserStatus (fun p _ => nth p 0 ≤ 1) ∧
  Met opLtxOutput (fun p s => nth p 0 = 0 ∧ nth p 1 ≤ 150 ∧ s.ltx.outRun = none) ∧
  Met opLtxOutput (fun p s => nth p 0 = 1 ∧ nth p 1 ≤ 150 ∧ s.ltx.bring = 0 ∧ s.sending = true) ∧
  Met opLtxOutput (fun p s => nth p 0 = 1 ∧ nth p 1 ≤ 150 ∧ s.ltx.bring = 0 ∧ s.sending = false ∧ s.canLight = true ∧ s.scr.beacon = false) :=
  ⟨met ⟨0, 0, 0, 0⟩ ([5, 4, 5, 0, 0, 0, 100, 0]) (base 1 []) (by decide +kernel) (by decide +kernel),
   met ⟨0, 0, 0, 0⟩ (3 :: plan0 5 0) (base 2 [(LTX_CTRL.MODE, 0, 5)]) (by decide +kernel) (by decide +kernel),
   met ⟨0, 0, 0, 0⟩ ([0]) (base 2 ((LTX_CTRL.MODE, 0, 5) :: pl5 1)) (by decide +kernel) (by decide +kernel),
   met ⟨0, 0, 0, 0⟩ ([]) (base 3 [(LTX_STATUS.PLAN_PENDING, 0, 1), (LTX_PLAN_CHG.CD, 0, 4)]) (by decide +kernel) (by decide +kernel),
   met ⟨0, 0, 0, 0⟩ ([1]) (base 2 ((LTX_CTRL.MODE, 0, 5) :: (LTX_STATUS.PLAN_PENDING, 0, 1) :: pl5 1)) (by decide +kernel) (by decide +kernel),
   met ⟨0, 0, 0, 0⟩ ([63, 0, 1000, 1, 4, 3, 1]) (base 2 []) (by decide +kernel) (by decide +kernel),
   met ⟨0, 0, 0, 0⟩ ([0, 1, 193100000, 1200, 1]) (base 2 []) (by decide +kernel) (by decide +kernel),
   met ⟨0, 0, 0, 0⟩ ([1, 0, 5]) ({ base 2 [] with ltx := { las := [(0, { ftfr := 5 })] } }) (by decide +kernel) (by decide +kernel),
   met ⟨0, 0, 0, 0⟩ ([2, 0x1E0A1419]) (base 2 []) (by decide +kernel) (by decide +kernel),
   met ⟨0, 0, 0, 0⟩ ([1]) (base 1 []) (by decide +kernel) (by decide +kernel),
   met ⟨0, 0, 0, 0⟩ ([0, 150]) (base 2 [(LTX_STATUS.TX_ON, 0, 1)]) (by decide +kernel) (by decide +kernel),
   met ⟨0, 0, 0, 0⟩ ([1, 20]) (base 3 [(LTX_STATUS.TX_ON, 0, 1)]) (by decide +kernel) (by decide +kernel),
   met ⟨0, 0, 0, 0⟩ ([1, 0]) ({ base 2 ([(LTX_CTRL.MODE, 0, 5), (LTX_LAS_STAT.TUNED, 0, 1), (CNV_FUSE_STAT.SOURCE, 4, 1), (CNV_FUSE_STAT.SOURCE, 5, 1), (CNV_FUSE_STAT.SOURCE, 6, 1)] ++ pl5 0) with ltx := { synthLocked := true } }) (by decide +kernel) (by decide +kernel)⟩

/-- Inputs that meet the hypotheses of each clause of `Obligations.TransmitWrites` that has any. -/
theorem test_meets_TransmitWrites :
  (∃ (m : Mast) (mode : BitVec 4) (n : BitVec 6) (s : State), s.takes m 1 ∧ s.locked m.val LTX_CTRL.MODE 0 = false ∧ modeOk s.is1600 mode.toNat n.toNat = true ∧ widthOk mode.toNat n.toNat (s.rd LTX_SHAPE.ROLLOFF) (s.rd LTX_SHAPE.KERF) = true ∧ s.scribeOk mode.toNat n.toNat (s.rd LTX_SHAPE.ROLLOFF) (s.rd LTX_SHAPE.KERF) = true) ∧
  (∃ (m : Mast) (s : State), s.takes m 1 ∧ s.on LTX_STATUS.PLAN_PENDING = false ∧ s.on LRX_ADAPT_CFG.TX_EN = false ∧ s.sending = true ∧ planCheck s.txMode s.txN true (s.rd LTX_PLAN_HDR.PLAN_ID 1) (s.bankWords 1) = none) ∧
  (∃ (m : Mast) (s : State), s.takes m 1 ∧ s.cancelOk = true ∧ s.on LRX_ADAPT_CFG.TX_EN = false) ∧
  (∃ (m : Mast) (s : State), s.takes m 1) ∧
  (∃ (m : Mast) (s : State), s.takes m 1) ∧
  (∃ (m : Mast) (p : Fin 2) (v : Word) (s : State), s.takes m 1 ∧ s.locked m.val LTX_LAS_FREQ.FREQ p.val = false ∧ LTX_LAS_FREQ.FREQ.inRange v.toNat = true ∧ lasFreqOk v.toNat = true) ∧
  (∃ (m : Mast) (p : Fin 2) (v : BitVec 16) (s : State), s.takes m 1 ∧ s.ftfOk p.val v.toInt = true) ∧
  (∃ (m : Mast) (p : Fin 2) (s : State), s.takes m 1 ∧ s.on LTX_LAS_CTRL.EN p.val = true) ∧
  (∃ (m : Mast) (s : State), s.takes m 1 ∧ s.ltx.outRun = none) ∧
  (∃ (m : Mast) (s : State), s.takes m 1 ∧ s.sending = false ∧ s.ltx.bring = 0 ∧ s.canLight = true ∧ s.scr.beacon = false) :=
  ⟨⟨(5 : Mast), (5 : BitVec 4), (4 : BitVec 6), base 1 [], by unfold State.takes; decide +kernel⟩,
   ⟨(0 : Mast), base 1 ((LTX_CTRL.MODE, 0, 5) :: (LTX_STATUS.TX_ON, 0, 1) :: pl5 1), by unfold State.takes; decide +kernel⟩,
   ⟨(0 : Mast), base 2 [(LTX_STATUS.PLAN_PENDING, 0, 1), (LTX_PLAN_CHG.CD, 0, 4)], by unfold State.takes; decide +kernel⟩,
   ⟨(0 : Mast), base 1 [], by unfold State.takes; decide +kernel⟩,
   ⟨(0 : Mast), base 1 [], by unfold State.takes; decide +kernel⟩,
   ⟨(0 : Mast), (0 : Fin 2), (193100000 : Word), base 1 [(LTX_LAS_CTRL.EN, 0, 1)], by unfold State.takes; decide +kernel⟩,
   ⟨(0 : Mast), (0 : Fin 2), (4 : BitVec 16), { base 1 [] with ltx := { las := [(0, { ftfr := 5 })] } }, by unfold State.takes; decide +kernel⟩,
   (let m : Mast := 0; let p : Fin 2 := 0; ⟨m, p, base 1 [(LTX_LAS_CTRL.EN, p.val, 1)], by unfold State.takes; decide +kernel⟩),
   ⟨(0 : Mast), { base 1 [] with ltx := { outRun := none } }, by unfold State.takes; decide +kernel⟩,
   ⟨(0 : Mast), { base 2 ([(LTX_CTRL.MODE, 0, 5), (LTX_LAS_STAT.TUNED, 0, 1), (CNV_FUSE_STAT.SOURCE, 4, 1), (CNV_FUSE_STAT.SOURCE, 5, 1), (CNV_FUSE_STAT.SOURCE, 6, 1)] ++ pl5 0) with ltx := { synthLocked := true } }, by unfold State.takes; decide +kernel⟩⟩

/-- Inputs that meet the hypotheses of each clause of `Obligations.TransmitEvents` that has any. -/
theorem test_meets_TransmitEvents :
  (∃ (r : Running) (s : State), s.ltx.loads = [r] ∧ r.opcode = 0x0202 ∧ s.on LTX_STATUS.PLAN_PENDING = false) ∧
  (∃ (s : State), s.ltx.sweeping = true) ∧
  (∃ (s : State), s.biasHeld = false ∧ s.ltx.sweeping = false ∧ s.loopMask ≠ 0) ∧
  (∃ (s : State), s.biasHeld = false ∧ s.ltx.sweeping = false ∧ s.loopMask ≠ 0) ∧
  (∃ (p : Fin 2) (z : Int) (s : State), (s.ltx.laser p.val).held = some z) ∧
  (∃ (p : Fin 2) (s : State), s.on LTX_LAS_CTRL.EN p.val = true ∧ s.on LTX_LAS_STAT.HOLD p.val = false) ∧
  (∃ (p : Fin 2) (s : State), s.on LTX_LAS_STAT.FAIL p.val = false ∧ s.on LTX_LAS_CTRL.EN p.val = true ∧ (s.ltx.laser p.val).recov = false) ∧
  (∃ (p : Fin 2) (s : State), s.on LTX_LAS_STAT.FAIL p.val = false ∧ s.on LTX_LAS_CTRL.EN p.val = true ∧ (s.ltx.laser p.val).recov = false) ∧
  (∃ (p : Fin 2) (s : State), s.on LTX_LAS_STAT.TUNING p.val = true) ∧
  (∃ (p : Fin 2) (s : State), s.on LTX_LAS_STAT.TUNING p.val = true) ∧
  (∃ (p : Fin 2) (s : State), (s.ltx.laser p.val).recov = true ∧ 3 ≤ (s.ltx.laser p.val).tries) ∧
  (∃ (s : State), s.ltx.bring = 3 ∧ s.scr.lighting = false) ∧
  (∃ (s : State), (s.ltx.bring = 1 ∨ s.ltx.bring = 2)) :=
  ⟨(let r : Running := rn 0x0202 (3 :: plan0 5 0); ⟨r, { base 1 [(LTX_STATUS.PLAN_PENDING, 0, 0)] with ltx := { loads := [r] } }, by decide +kernel⟩),
   ⟨{ base 1 [] with ltx := { sweeping := true } }, by decide +kernel⟩,
   ⟨base 1 [], by decide +kernel⟩,
   ⟨{ base 1 [] with ltx := { sweeping := false } }, by decide +kernel⟩,
   ⟨(0 : Fin 2), ((7 : Int) : Int), { base 1 [] with ltx := { las := [(0, { held := some 7 })] } }, by decide +kernel⟩,
   (let p : Fin 2 := 0; ⟨p, base 1 [(LTX_LAS_CTRL.EN, p.val, 1), (LTX_LAS_STAT.HOLD, p.val, 0)], by decide +kernel⟩),
   (let p : Fin 2 := 0; ⟨p, base 1 [(LTX_LAS_STAT.FAIL, p.val, 0), (LTX_LAS_CTRL.EN, p.val, 1)], by decide +kernel⟩),
   (let p : Fin 2 := 0; ⟨p, base 1 [(LTX_LAS_STAT.FAIL, p.val, 0), (LTX_LAS_CTRL.EN, p.val, 1)], by decide +kernel⟩),
   (let p : Fin 2 := 0; ⟨p, base 1 [(LTX_LAS_STAT.TUNING, p.val, 1)], by decide +kernel⟩),
   (let p : Fin 2 := 0; ⟨p, base 1 [(LTX_LAS_STAT.TUNING, p.val, 1)], by decide +kernel⟩),
   ⟨(0 : Fin 2), { base 1 [(LTX_LAS_STAT.FAIL, 0, 1)] with ltx := { las := [(0, { tries := 3, recov := true })] } }, by decide +kernel⟩,
   ⟨{ base 1 [] with ltx := { bring := 3 }, scr := { lighting := false } }, by decide +kernel⟩,
   ⟨{ base 1 [] with ltx := { bring := 1 } }, by decide +kernel⟩⟩

/-- Inputs that meet the hypotheses of each clause of `Obligations.ReceiveCommands` that has any. -/
theorem test_meets_ReceiveCommands :
  Met opLrxModeSet (fun p s => s.on LRX_CTRL.RX_EN = false ∧ modeOk s.is1600 (nth p 0) (nth p 1) = true ∧ nth p 2 ≤ 31 ∧ nth p 3 ≤ 31 ∧ LRX_SHAPE.ROLLOFF.inRange (nth p 2) = true ∧ LRX_SHAPE.KERF.inRange (nth p 3) = true ∧ widthOk (nth p 0) (nth p 1) (nth p 2) (nth p 3) = true) ∧
  Met opLrxEnable (fun p s => nth p 0 = 1 ∧ s.rxRefused = false) ∧
  Met opLrxEnable (fun p s => nth p 0 = 0 ∧ s.on LRX_CTRL.RX_EN = true) ∧
  Met opLrxAcqCfg (fun p s => wordOk [LRX_AGC.TARGET] (nth p 0) = true ∧ s.dForceOk (nth p 1) = true ∧ wordOk [LRX_TIM_CFG.BW] (nth p 2) = true ∧ wordOk LRX_LOCK_CFG.fields (nth p 3) = true ∧ wordOk LRX_HOLD.fields (nth p 4) = true) ∧
  Met opLrxEqCfg (fun p s => wordOk LRX_EQ_CFG.fields (nth p 0) = true ∧ wordOk LRX_DFE_CFG.fields (nth p 1) = true ∧ fOnOk (LRX_DFE_CFG.F_OFF.raw (nth p 1)) (LRX_DFE_CFG.F_ON.raw (nth p 1)) = true ∧ s.on LRX_CTRL.RX_EN = false) ∧
  Met opLrxFreeze (fun _ _ => True) ∧
  Met opLrxRestart (fun p s => nth p 0 = 0 ∧ nth p 1 ≤ 65535 ∧ s.on LRX_CTRL.RX_EN = true) ∧
  Met opLrxStatus (fun _ _ => True) ∧
  Met opLrxTapsGet (fun p _ => nth p 0 ≤ 15) :=
  ⟨met ⟨0, 0, 0, 0⟩ ([5, 4, 5, 0]) (base 1 []) (by decide +kernel) (by decide +kernel),
   met ⟨0, 0, 0, 0⟩ ([1]) (base 2 ((LRX_CTRL.MODE, 0, 5) :: [0, 1, 2, 3, 5].map (fun k => (CNV_FUSE_STAT.SOURCE, k, 1)))) (by decide +kernel) (by decide +kernel),
   met ⟨0, 0, 0, 0⟩ ([0]) (base 2 [(LRX_CTRL.RX_EN, 0, 1), (LRX_CTRL.MODE, 0, 5), (LRX_STATUS.STAGE, 0, 10)]) (by decide +kernel) (by decide +kernel),
   met ⟨0, 0, 0, 0⟩ ([State.reset.word [LRX_AGC.TARGET], 0, State.reset.word [LRX_TIM_CFG.BW], State.reset.word LRX_LOCK_CFG.fields, State.reset.word LRX_HOLD.fields]) (base 3 []) (by decide +kernel) (by decide +kernel),
   met ⟨0, 0, 0, 0⟩ ([State.reset.word LRX_EQ_CFG.fields, State.reset.word LRX_DFE_CFG.fields]) (base 2 []) (by decide +kernel) (by decide +kernel),
   met ⟨0, 0, 0, 0⟩ (3 :: List.replicate 16 0) (base 3 []) (by decide +kernel) (trivial),
   met ⟨0, 0, 0, 0⟩ ([0, 5]) (base 3 [(LRX_CTRL.RX_EN, 0, 1), (LRX_CTRL.MODE, 0, 5), (LRX_STATUS.STAGE, 0, 10)]) (by decide +kernel) (by decide +kernel),
   met ⟨0, 0, 0, 0⟩ ([]) (base 1 []) (by decide +kernel) (trivial),
   met ⟨0, 0, 0, 0⟩ ([15]) (base 4 []) (by decide +kernel) (by decide +kernel)⟩

/-- Inputs that meet the hypotheses of each clause of `Obligations.ReceiveWrites` that has any. -/
theorem test_meets_ReceiveWrites :
  (∃ (m : Mast) (mode : BitVec 4) (n : BitVec 6) (s : State), s.takes m 2 ∧ s.locked m.val LRX_CTRL.MODE 0 = false ∧ modeOk s.is1600 mode.toNat n.toNat = true ∧ widthOk mode.toNat n.toNat (s.rd LRX_SHAPE.ROLLOFF) (s.rd LRX_SHAPE.KERF) = true) ∧
  (∃ (m : Mast) (s : State), s.takes m 2 ∧ s.rxRefused = false) ∧
  (∃ (m : Mast) (s : State), s.takes m 2 ∧ s.on LRX_CTRL.RX_EN = true) ∧
  (∃ (m : Mast) (s : State), s.takes m 2 ∧ s.rd LRX_RESTART.FROM = 0 ∧ s.on LRX_CTRL.RX_EN = true) ∧
  (∃ (m : Mast) (s : State), s.takes m 2 ∧ s.on LRX_CTRL.RX_EN = false) ∧
  (∃ (m : Mast) (s : State), s.takes m 2) :=
  ⟨⟨(0 : Mast), (0 : BitVec 4), (0 : BitVec 6), base 1 [], by unfold State.takes; decide +kernel⟩,
   ⟨(0 : Mast), base 2 ((LRX_CTRL.MODE, 0, 5) :: [0, 1, 2, 3, 5].map (fun k => (CNV_FUSE_STAT.SOURCE, k, 1))), by unfold State.takes; decide +kernel⟩,
   ⟨(0 : Mast), base 1 [(LRX_CTRL.RX_EN, 0, 1)], by unfold State.takes; decide +kernel⟩,
   ⟨(0 : Mast), base 1 [(LRX_RESTART.FROM, 0, 0), (LRX_CTRL.RX_EN, 0, 1)], by unfold State.takes; decide +kernel⟩,
   ⟨(0 : Mast), base 1 [(LRX_CTRL.RX_EN, 0, 0)], by unfold State.takes; decide +kernel⟩,
   ⟨(0 : Mast), base 1 [], by unfold State.takes; decide +kernel⟩⟩

/-- Inputs that meet the hypotheses of each clause of `Obligations.AcquisitionEvents` that has any. -/
theorem test_meets_AcquisitionEvents :
  (∃ (s : State), s.stage ≠ 11) ∧
  (∃ (s : State), s.stage = 10) ∧
  (∃ (s : State), s.stage = 1 ∧ s.on LRX_STATUS.SIG_PRESENT = true ∧ s.lrx.pause = false ∧ s.on LRX_FREEZE.AGC = false ∧ s.on LRX_STATUS.WARM = false) ∧
  (∃ (s : State), s.stage = 2 ∧ s.lrx.pause = false ∧ s.on LRX_FREEZE.FREQ = false ∧ s.on LRX_STATUS.WARM = false ∧ s.lrx.mism = 0 ∧ s.on LRX_CD_CFG.FORCE = false) ∧
  (∃ (sc : Scan) (s : State), s.stage = 3 ∧ s.lrx.pause = false ∧ s.lrx.scan = some sc ∧ 16 < sc.todo.length) ∧
  (∃ (k : Nat) (s : State), s.stage = 4 ∧ s.lrx.pause = false ∧ s.rxScs = [k] ∧ s.on LRX_FREEZE.TIMING = false) ∧
  (∃ (k : Nat) (s : State), s.stage = 8 ∧ s.lrx.pause = false ∧ s.rxScs = [k] ∧ s.on LRX_FREEZE.TIMING = true) ∧
  (∃ (k : Fin 16) (pos : Nat) (xs : List (Int × Int)) (ys : List (Int × Int)) (s : State), s.stage = 6 ∧ s.lrx.pause = false ∧ s.rxScs = [k.val] ∧ 0 < (trainCorr k.val xs ys).2 ∧ s.rd LRX_LOCK_CFG.SF_THR * (trainCorr k.val xs ys).2 ≤ 64 * rootOf (cNorm (trainCorr k.val xs ys).1) ∧ (s.lrx.sc k.val).dets = [pos]) ∧
  (∃ (k : Nat) (s : State), s.stage = 7 ∧ s.lrx.pause = false ∧ s.rxScs = [k] ∧ s.on LRX_FREEZE.FREQ = false) ∧
  (∃ (s : State), s.stage = 5 ∧ s.lrx.pause = false) ∧
  (∃ (s : State), s.stage = 9 ∧ s.lrx.pause = false) ∧
  (∃ (s : State), s.lrx.pause = true ∧ s.frozenBy 0 s.rxScs = (0, [])) ∧
  (∃ (s : State), s.stage = 11 ∧ s.lrx.expired = false) ∧
  (∃ (s : State), s.on LRX_STATUS.WARM = true ∧ s.stage = 5 ∧ s.lrx.pause = false ∧ s.frozenBy 0 s.rxScs = (0, [])) :=
  ⟨⟨base 1 [], by decide +kernel⟩,
   ⟨base 1 [(LRX_STATUS.STAGE, 0, 10)], by decide +kernel⟩,
   ⟨{ base 1 [(LRX_STATUS.STAGE, 0, 1), (LRX_STATUS.SIG_PRESENT, 0, 1), (LRX_FREEZE.AGC, 0, 0), (LRX_STATUS.WARM, 0, 0)] with lrx := { pause := false } }, by decide +kernel⟩,
   ⟨{ base 1 [(LRX_STATUS.STAGE, 0, 2), (LRX_FREEZE.FREQ, 0, 0), (LRX_STATUS.WARM, 0, 0), (LRX_CD_CFG.FORCE, 0, 0)] with lrx := { pause := false, mism := 0 } }, by decide +kernel⟩,
   (let sc : Scan := ({ fine := false, todo := (List.range 17).map (fun k => (k : Int)), tried := [] } : Scan); ⟨sc, { base 1 [(LRX_STATUS.STAGE, 0, 3)] with lrx := { pause := false, scan := some sc } }, by decide +kernel⟩),
   ⟨(6 : Nat), { base 3 [(LRX_CTRL.RX_EN, 0, 1), (LRX_CTRL.MODE, 0, 5), (LRX_STATUS.STAGE, 0, 4), (LRX_RPLAN_ID.VALID, 2, 1), (LRX_RPLAN_ID.ID, 2, 9), (LRX_RPLAN_SC.EN, 38, 1), (LRX_RPLAN_SC.CONST, 38, 3), (LRX_RPLAN_SC.ENT, 38, 53)] with lrx := { act := 9 } }, by decide +kernel⟩,
   ⟨(6 : Nat), { base 3 [(LRX_CTRL.RX_EN, 0, 1), (LRX_CTRL.MODE, 0, 5), (LRX_STATUS.STAGE, 0, 8), (LRX_FREEZE.TIMING, 0, 1), (LRX_RPLAN_ID.VALID, 2, 1), (LRX_RPLAN_ID.ID, 2, 9), (LRX_RPLAN_SC.EN, 38, 1), (LRX_RPLAN_SC.CONST, 38, 3), (LRX_RPLAN_SC.ENT, 38, 53)] with lrx := { act := 9 } }, by decide +kernel⟩,
   ⟨(6 : Fin 16), (100 : Nat), (trainX 6 : List (Int × Int)), (trainY 6 : List (Int × Int)), { base 3 [(LRX_CTRL.RX_EN, 0, 1), (LRX_CTRL.MODE, 0, 5), (LRX_STATUS.STAGE, 0, 6), (LRX_RPLAN_ID.VALID, 2, 1), (LRX_RPLAN_ID.ID, 2, 9), (LRX_RPLAN_SC.EN, 38, 1), (LRX_RPLAN_SC.CONST, 38, 3), (LRX_RPLAN_SC.ENT, 38, 53)] with lrx := { act := 9, scs := [(6, { dets := [100] })] } }, by decide +kernel⟩,
   ⟨(6 : Nat), { base 3 [(LRX_CTRL.RX_EN, 0, 1), (LRX_CTRL.MODE, 0, 5), (LRX_STATUS.STAGE, 0, 7), (LRX_RPLAN_ID.VALID, 2, 1), (LRX_RPLAN_ID.ID, 2, 9), (LRX_RPLAN_SC.EN, 38, 1), (LRX_RPLAN_SC.CONST, 38, 3), (LRX_RPLAN_SC.ENT, 38, 53)] with lrx := { act := 9 } }, by decide +kernel⟩,
   ⟨{ base 1 [(LRX_STATUS.STAGE, 0, 5)] with lrx := { pause := false } }, by decide +kernel⟩,
   ⟨{ base 1 [(LRX_STATUS.STAGE, 0, 9)] with lrx := { pause := false } }, by decide +kernel⟩,
   ⟨{ base 1 [] with lrx := { pause := true } }, by decide +kernel⟩,
   ⟨{ base 1 [(LRX_STATUS.STAGE, 0, 11)] with lrx := { expired := false } }, by decide +kernel⟩,
   ⟨{ base 1 [(LRX_STATUS.WARM, 0, 1), (LRX_STATUS.STAGE, 0, 5)] with lrx := { pause := false } }, by decide +kernel⟩⟩

/-- Inputs that meet the hypotheses of each clause of `Obligations.AdaptationCommands` that has any. -/
theorem test_meets_AdaptationCommands :
  Met opLrxQuality (fun _ _ => True) ∧
  Met opLrxCrSet (fun p _ => wordOk LRX_CR_CFG.fields (nth p 0) = true ∧ nth p 1 ≤ 12 ∧ periodOk (nth p 2) = true) ∧
  Met opLrxAdaptSet (fun p _ => marginsOk (nth p 1) = true ∧ wordOk LRX_ADAPT_TIMERS.fields (nth p 2) = true ∧ wordOk LRX_ADAPT_LIMITS.fields (nth p 3) = true) ∧
  Met opLrxRplanLoad (fun p s => s.rplanRefusal (nth p 0) (loadWords (p.drop 1)) = none) ∧
  Met opLrxRplanGet (fun p _ => nth p 0 ≤ 7) ∧
  (∃ (h : CmdHdr) (p : List Word) (s : State) (r : Report) (es : List Nat) (m : Nat), Accepted opLrxAdaptNow h p s ∧ nth (p.map (·.toNat)) 0 = 1 ∧ nativeMode s.txMode = true ∧ s.adapt.report = some r ∧ s.candidate r = some (es, m) ∧ s.mayOffer = true) :=
  ⟨met ⟨0, 0, 0, 0⟩ ([]) (base 3 [(LRX_CTRL.MODE, 0, 5)]) (by decide +kernel) (trivial),
   met ⟨0, 0, 0, 0⟩ ([State.reset.word LRX_CR_CFG.fields, 12, 4096]) (base 2 []) (by decide +kernel) (by decide +kernel),
   met ⟨0, 0, 0, 0⟩ ([0, State.reset.word LRX_ADAPT_MARGIN.fields, State.reset.word LRX_ADAPT_TIMERS.fields, State.reset.word LRX_ADAPT_LIMITS.fields]) (base 2 []) (by decide +kernel) (by decide +kernel),
   met ⟨0, 0, 0, 0⟩ (3 :: plan0 5 0) (base 2 [(LRX_CTRL.MODE, 0, 5)]) (by decide +kernel) (by decide +kernel),
   met ⟨0, 0, 0, 0⟩ ([7]) (base 1 []) (by decide +kernel) (by decide +kernel),
   ⟨(⟨0, 7, 0, 0⟩ : CmdHdr), ([1] : List Word), { base 3 ((LTX_CTRL.MODE, 0, 5) :: (LTX_STATUS.TX_ON, 0, 1) :: (LRX_ADAPT_CFG.TX_EN, 0, 1) :: pl5 0) with adapt := { report := some { plan := 0, snr := List.replicate 16 3000, margin := 100 } } }, (({ plan := 0, snr := List.replicate 16 3000, margin := 100 } : Report) : Report), ([0, 0, 0, 0, 0, 0, 117, 117, 117, 117, 0, 0, 0, 0, 0, 0] : List Nat), (100 : Nat), acc (by decide +kernel), by decide +kernel⟩⟩

/-- Inputs that meet the hypotheses of each clause of `Obligations.AdaptationEvents` that has any. -/
theorem test_meets_AdaptationEvents :
  (∃ (m : Mast) (s : State), s.takes m 2) ∧
  (∃ (s : State), s.lrx.qTake = true) ∧
  (∃ (m : Mast) (s : State), s.takes m 2) ∧
  (∃ (s : State), s.on LRX_ADAPT_CFG.RX_EN = true ∧ nativeMode s.rxMode = true ∧ s.quiet = false) ∧
  (∃ (s : State), s.inFrame = true ∧ s.defect 3 0 = false) ∧
  (∃ (s : State), s.inFrame = true ∧ s.defect 3 0 = false) ∧
  (∃ (s : State), s.adapt.report.isSome = true) ∧
  (∃ (id : BitVec 8) (ws : List Word) (s : State), s.inFrame = true ∧ s.defect 3 0 = false ∧ s.on LRX_ADAPT_CFG.RX_EN = true ∧ s.lrx.armed = none ∧ s.lrx.verif = 0 ∧ s.planProt id.toNat = false ∧ planCheck s.rxMode s.rxN false id.toNat (loadWords ((List.range 16).map (fun k => (ws.getD k (0 : Word)).toNat))) = none) ∧
  (∃ (s : State), s.inFrame = true ∧ s.defect 3 0 = false ∧ s.on LRX_ADAPT_CFG.RX_EN = false ∧ s.sending = true ∧ nativeMode s.txMode = true) ∧
  (∃ (sq : BitVec 8) (id : BitVec 8) (o : Offer) (s : State), s.inFrame = true ∧ s.defect 3 0 = false ∧ s.adapt.offer = some o ∧ o.seq = sq.toNat ∧ o.id = id.toNat ∧ s.localRefusal o.id o.words = none ∧ s.sending = true) ∧
  (∃ (sq : BitVec 8) (o : Offer) (s : State), s.inFrame = true ∧ s.defect 3 0 = false ∧ s.adapt.offer = some o ∧ o.seq = sq.toNat) ∧
  (∃ (lv : BitVec 8) (rt : BitVec 8) (ws : List Nat) (s : State), s.inFrame = true ∧ s.defect 3 0 = false ∧ lv.toNat = s.rd LTX_PLAN_HDR.PLAN_ID 0 ∧ s.on LTX_STATUS.PLAN_PENDING = false ∧ s.returnWords rt.toNat = some ws ∧ s.sending = true) ∧
  (∃ (o : Offer) (s : State), s.adapt.offer = some o ∧ o.resends < 3) ∧
  (∃ (o : Offer) (s : State), s.adapt.offer = some o ∧ 3 ≤ o.resends) ∧
  (∃ (s : State), s.adapt.backoff = true) ∧
  (∃ (s : State), s.adapt.verify = true) :=
  ⟨⟨(4 : Mast), base 1 [], by unfold State.takes; decide +kernel⟩,
   ⟨{ base 1 [] with lrx := { qTake := true } }, by decide +kernel⟩,
   ⟨(0 : Mast), base 1 [], by unfold State.takes; decide +kernel⟩,
   ⟨base 3 [(LRX_CTRL.MODE, 0, 5), (LRX_ADAPT_CFG.RX_EN, 0, 1)], by decide +kernel⟩,
   ⟨base 1 [(FRM_STATUS.DOVE, 0, 3)], by decide +kernel⟩,
   ⟨base 1 [(FRM_STATUS.DOVE, 0, 3)], by decide +kernel⟩,
   ⟨{ base 3 [] with adapt := { report := some { plan := 0, snr := List.replicate 16 3000, margin := 100 }, lowRun := 1 } }, by decide +kernel⟩,
   ⟨(130 : BitVec 8), ((plan0 5 0).map (BitVec.ofNat 32) : List Word), base 2 [(FRM_STATUS.DOVE, 0, 3), (LRX_CTRL.MODE, 0, 5), (LRX_ADAPT_CFG.RX_EN, 0, 1)], by decide +kernel⟩,
   ⟨base 2 [(FRM_STATUS.DOVE, 0, 3), (LTX_STATUS.TX_ON, 0, 1), (LTX_CTRL.MODE, 0, 5)], by decide +kernel⟩,
   ⟨(3 : BitVec 8), (128 : BitVec 8), (({ seq := 3, id := 128, words := plan0 5 0, m := 10, resends := 0 } : Offer) : Offer), { base 2 [(FRM_STATUS.DOVE, 0, 3), (LTX_STATUS.TX_ON, 0, 1), (LTX_CTRL.MODE, 0, 5)] with adapt := { offer := some ⟨3, 128, plan0 5 0, 10, 0⟩ } }, by decide +kernel⟩,
   (let sq : BitVec 8 := 0; let o : Offer := ({ seq := 0, id := 128, words := plan0 5 0, m := 10, resends := 0 } : Offer); ⟨sq, o, { base 1 [(FRM_STATUS.DOVE, 0, 3)] with adapt := { offer := some o } }, by decide +kernel⟩),
   ⟨(0 : BitVec 8), (0 : BitVec 8), (plan0 5 0 : List Nat), base 2 ((FRM_STATUS.DOVE, 0, 3) :: (LTX_CTRL.MODE, 0, 5) :: (LTX_STATUS.TX_ON, 0, 1) :: pl5 0), by decide +kernel⟩,
   (let o : Offer := ({ seq := 0, id := 128, words := plan0 5 0, m := 10, resends := 2 } : Offer); ⟨o, { base 1 [] with adapt := { offer := some o } }, by decide +kernel⟩),
   (let o : Offer := ({ seq := 0, id := 128, words := plan0 5 0, m := 10, resends := 3 } : Offer); ⟨o, { base 1 [] with adapt := { offer := some o } }, by decide +kernel⟩),
   ⟨{ base 1 [] with adapt := { backoff := true } }, by decide +kernel⟩,
   ⟨{ base 1 [] with adapt := { verify := true } }, by decide +kernel⟩⟩

/-- Inputs that meet the hypotheses of each clause of `Obligations.CalibrationCommands` that has any. -/
theorem test_meets_CalibrationCommands :
  Met opCalStatus (fun _ _ => True) ∧
  Met opCalBgSet (fun p _ => wordOk CNV_BG_CFG.fields (nth p 1) = true ∧ wordOk CNV_THR.fields (nth p 2) = true ∧ wordOk CNV_WTR.fields (nth p 3) = true) ∧
  Met opCalRefSet (fun p _ => 500000 ≤ nth p 0 ∧ nth p 0 ≤ 1250000 ∧ 1000000 ≤ nth p 1 ∧ nth p 1 ≤ 156250000) ∧
  (∃ (v : Word) (f : Word), Met (opCalRun v.toInt f.toInt) (fun p s => 1 ≤ nth p 0 ∧ nth p 0 ≤ 7 ∧ 1 ≤ nth p 1 ∧ nth p 1 ≤ 10 ∧ s.on CNV_STATUS.FG_BUSY = false ∧ s.runOk (nth p 0) = true ∧ s.on CNV_STATUS.REF_BAD = false)) ∧
  Met opCalAbort (fun _ s => s.cnv.fg.isSome = true) ∧
  (∃ (v : Bool), Met (opCalCommit v) (fun p s => v = true ∧ 1 ≤ nth p 0 ∧ nth p 0 ≤ 255 ∧ s.on CNV_STATUS.FG_BUSY = false ∧ s.cnv.commit = none ∧ (0 ≤ s.pwr.tj ∧ s.pwr.tj ≤ 125) ∧ ∀ k < 8, s.fuse.next k < 8)) ∧
  Met opCalExport (fun p _ => nth p 0 ≤ 7) ∧
  (∃ (h : CmdHdr) (p : List Word) (s : State), Accepted opCalLoad h p s ∧ s.on CNV_STATUS.FG_BUSY = false ∧ nth (p.map (·.toNat)) 1 + nth (p.map (·.toNat)) 2 * 2 ^ 32 = s.fuse.devId ∧ bits (nth (p.map (·.toNat)) 0) 24 8 ≤ 7 ∧ bits (nth (p.map (·.toNat)) 0) 20 4 = 1 ∧ bits (nth (p.map (·.toNat)) 0) 0 16 = setLen (bits (nth (p.map (·.toNat)) 0) 24 8) ∧ p.length = setLen (bits (nth (p.map (·.toNat)) 0) 24 8) + 31 ∧ bits (nth (p.map (·.toNat)) 0) 16 4 = (s.fuse.latest (bits (nth (p.map (·.toNat)) 0) 24 8)).getD 0xF ∧ s.setIdle (bits (nth (p.map (·.toNat)) 0) 24 8) = true) ∧
  Met opCalQuality (fun _ _ => True) ∧
  (∃ (v : BitVec 16), Met (opCalSlice v.toInt) (fun p s => nth p 0 ≤ 3 ∧ nth p 1 ≤ 1 ∧ nth p 2 ≤ 65 ∧ nth p 3 = 0 ∧ (s.cnv.slice (66 * (2 * nth p 0 + nth p 1) + nth p 2)).role = 0)) ∧
  (∃ (v : BitVec 16), Met (opCalSlice v.toInt) (fun p s => nth p 0 ≤ 3 ∧ nth p 1 ≤ 1 ∧ nth p 2 ≤ 65 ∧ nth p 3 = 1 ∧ (s.cnv.slice (66 * (2 * nth p 0 + nth p 1) + nth p 2)).role = 4)) :=
  ⟨met ⟨0, 0, 0, 0⟩ ([]) (base 1 []) (by decide +kernel) (trivial),
   met ⟨0, 0, 0, 0⟩ ([15, State.reset.word CNV_BG_CFG.fields, State.reset.word CNV_THR.fields, State.reset.word CNV_WTR.fields]) (base 2 []) (by decide +kernel) (by decide +kernel),
   met ⟨0, 0, 0, 0⟩ ([500000, 156250000]) (base 1 []) (by decide +kernel) (by decide +kernel),
   ⟨0, 0, met ⟨0, 0, 0, 0⟩ ([7, 10]) ({ base 1 [] with ltx := { txLight := true } }) (by decide +kernel) (by decide +kernel)⟩,
   met ⟨0, 0, 0, 0⟩ ([]) ({ base 1 [(CNV_STATUS.FG_BUSY, 0, 1)] with cnv := { fg := some (rn 0x0404 [1, 1]) } }) (by decide +kernel) (by decide +kernel),
   ⟨true, met ⟨0, 0, 0, 0⟩ ([255, 9]) (base 2 []) (by decide +kernel) (by decide +kernel)⟩,
   met ⟨0, 0, 0, 0⟩ ([7]) (base 1 []) (by decide +kernel) (by decide +kernel),
   ⟨(⟨0, 7, 0, 0⟩ : CmdHdr), ([0x071F0044#32, 1, 0] ++ List.replicate 96 0 : List Word), base 1 [(CNV_STATUS.FG_BUSY, 0, 0)], acc (by decide +kernel), by decide +kernel⟩,
   met ⟨0, 0, 0, 0⟩ ([]) (base 1 []) (by decide +kernel) (trivial),
   ⟨0, met ⟨0, 0, 0, 0⟩ ([3, 1, 65, 0]) ({ base 3 [] with cnv := { slices := [(527, some ⟨5, 0, 0, 255⟩)] } }) (by decide +kernel) (by decide +kernel)⟩,
   ⟨0, met ⟨0, 0, 0, 0⟩ ([3, 1, 65, 1]) ({ base 3 [] with cnv := { slices := [(527, some ⟨255, 4, 0, 5⟩)] } }) (by decide +kernel) (by decide +kernel)⟩⟩

/-- Inputs that meet the hypotheses of each clause of `Obligations.CalibrationEvents` that has any. -/
theorem test_meets_CalibrationEvents :
  (∃ (r : Running) (k : Nat) (s : State), s.cnv.fg = some r ∧ (runSets (nth r.par 0)).contains k = true) ∧
  (∃ (r : Running) (s : State), s.cnv.fg = some r) ∧
  (∃ (c : CommitSt) (w : RowWrite) (s : State), s.cnv.commit = some c ∧ c.cur = some w ∧ s.fuseTj = true) ∧
  (∃ (c : CommitSt) (w : RowWrite) (s : State), s.cnv.commit = some c ∧ c.cur = some w ∧ w.retry = false ∧ w.row < 7 ∧ s.fuseTj = true) ∧
  (∃ (c : CommitSt) (w : RowWrite) (s : State), s.cnv.commit = some c ∧ c.cur = some w ∧ s.fuseTj = false) ∧
  (∃ (c : CommitSt) (w : RowWrite) (s : State), s.cnv.commit = some c ∧ c.cur = some w) ∧
  (∃ (m : Mast) (s : State), s.takes m 3) ∧
  (∃ (s : State), s.cnv.qTake = true ∧ s.cnv.stepping = false) ∧
  (∃ (s : State), s.cnv.pass = false ∧ s.bgOn 0 = true) ∧
  (∃ (m : Fin 8) (n : Nat) (r : Nat) (s : State), s.cnv.pass = true ∧ s.bgOn m.val = true ∧ Tab.get none s.cnv.steps m.val = none ∧ s.cnv.commit = none ∧ s.cnv.nextActive m.val = some n ∧ s.cnv.oldestSpare m.val = some r) ∧
  (∃ (m : Fin 8) (d : Nat) (pin : Nat) (st : StepSt) (s : State), Tab.get none s.cnv.steps m.val = some st ∧ st.onBus = none ∧ st.sel ≠ st.spare ∧ s.handoverOk d pin = true) ∧
  (∃ (m : Fin 8) (a : Nat) (b : Nat) (c : Nat) (n : Nat) (s : State), Tab.get none s.cnv.steps m.val = some ⟨a, b, c, some n⟩) ∧
  (∃ (n : Fin 528) (x : Fin 4) (s : State), (s.cnv.slice n.val).role = 0 ∧ (x.val ≠ 0 ∨ s.timingBad n.val = true)) ∧
  (∃ (n : Fin 528) (s : State), (s.cnv.slice n.val).role = 4) ∧
  (∃ (n : Fin 528) (s : State), (s.cnv.slice n.val).role = 5 ∧ (s.cnv.slice n.val).lost = 255) ∧
  (∃ (n : Fin 528) (ds : List (Nat × Nat)) (s : State), (s.cnv.slice n.val).role = 5 ∧ (s.cnv.slice n.val).lost ≠ 255 ∧ (ds.take 2).any (fun d => s.handoverOk d.1 d.2) = true) ∧
  (∃ (u : Fin 8) (s : State), u.val < 4 ∧ s.bgOn (2 * u.val) = true) ∧
  (∃ (u : Fin 8) (s : State), bit (s.rd CNV_CTRL.BG_DAC) (u.val / 2) = true ∧ s.suspended true = false) :=
  ⟨⟨(rn 0x0404 [1, 1] : Running), (0 : Nat), { base 1 [(CNV_STATUS.FG_BUSY, 0, 1)] with cnv := { fg := some (rn 0x0404 [1, 1]) } }, by decide +kernel⟩,
   (let r : Running := rn 0x0404 [1, 1]; ⟨r, { base 1 [] with cnv := { fg := some r } }, by decide +kernel⟩),
   (let c : CommitSt := ({ run := rn 0x0406 [1, 0], waits := false, todo := [], cur := some ⟨0, 2, [1, 2, 3, 4, 5], false⟩, done := [] } : CommitSt); let w : RowWrite := (⟨0, 2, [1, 2, 3, 4, 5], false⟩ : RowWrite); ⟨c, w, { base 1 [] with cnv := { commit := some c } }, by decide +kernel⟩),
   (let c : CommitSt := ({ run := rn 0x0406 [1, 0], waits := false, todo := [], cur := some ⟨0, 2, [1, 2, 3, 4, 5], false⟩, done := [] } : CommitSt); let w : RowWrite := (⟨0, 2, [1, 2, 3, 4, 5], false⟩ : RowWrite); ⟨c, w, { base 1 [] with cnv := { commit := some c } }, by decide +kernel⟩),
   (let c : CommitSt := ({ run := rn 0x0406 [1, 0], waits := false, todo := [], cur := some ⟨0, 2, [1, 2, 3, 4, 5], false⟩, done := [] } : CommitSt); let w : RowWrite := (⟨0, 2, [1, 2, 3, 4, 5], false⟩ : RowWrite); ⟨c, w, { base 1 [] with cnv := { commit := some c }, pwr := { tj := 130 } }, by decide +kernel⟩),
   (let c : CommitSt := ({ run := rn 0x0406 [1, 0], waits := false, todo := [], cur := some ⟨0, 2, [1, 2, 3, 4, 5], false⟩, done := [] } : CommitSt); let w : RowWrite := (⟨0, 2, [1, 2, 3, 4, 5], false⟩ : RowWrite); ⟨c, w, { base 1 [] with cnv := { commit := some c } }, by decide +kernel⟩),
   ⟨(0 : Mast), base 1 [], by unfold State.takes; decide +kernel⟩,
   ⟨{ base 1 [] with cnv := { qTake := true } }, by decide +kernel⟩,
   ⟨{ base 1 [] with cnv := { pass := false } }, by decide +kernel⟩,
   ⟨(0 : Fin 8), (0 : Nat), (64 : Nat), { base 1 [] with cnv := { pass := true, commit := none } }, by decide +kernel⟩,
   ⟨(0 : Fin 8), (1 : Nat), (100000000 : Nat), (({ sel := 3, spare := 64, fails := 0, onBus := none } : StepSt) : StepSt), { base 1 [] with cnv := { steps := [(0, some ⟨3, 64, 0, none⟩)] } }, by decide +kernel⟩,
   ⟨(0 : Fin 8), (3 : Nat), (64 : Nat), (0 : Nat), (3 : Nat), { base 1 [] with cnv := { steps := [(0, some ⟨3, 64, 0, some 3⟩)] } }, by decide +kernel⟩,
   ⟨(5 : Fin 528), (1 : Fin 4), base 1 [], by decide +kernel⟩,
   ⟨(0 : Fin 528), { base 1 [] with cnv := { slices := [(0, some ⟨255, 4, 0, 5⟩)] } }, by decide +kernel⟩,
   ⟨(0 : Fin 528), { base 1 [] with cnv := { slices := [(0, some ⟨255, 5, 0, 255⟩)] } }, by decide +kernel⟩,
   ⟨(0 : Fin 528), ([(1, 100000000)] : List (Nat × Nat)), { base 1 [] with cnv := { slices := [(0, some ⟨255, 5, 0, 3⟩)] } }, by decide +kernel⟩,
   ⟨(3 : Fin 8), base 1 [(CNV_CTRL.BG_ADC, 0, 15)], by decide +kernel⟩,
   ⟨(3 : Fin 8), base 1 [(CNV_CTRL.BG_DAC, 0, 15)], by decide +kernel⟩⟩

/-- Inputs that meet the hypotheses of each clause of `Obligations.FecCommands` that has any. -/
theorem test_meets_FecCommands :
  Met opFecCfg (fun p _ => wordOk FEC_DEC_CFG.fields (nth p 1) = true ∧ wordOk [FEC_LLR_CFG.GAIN] (nth p 2) = true ∧ wordOk FEC_DEG_SET.fields (nth p 3) = true ∧ wordOk FEC_DEG_CLR.fields (nth p 4) = true ∧ degWordsOk (nth p 3) (nth p 4) = true) ∧
  Met opFecStatus (fun _ _ => True) ∧
  Met opFecCounters (fun p _ => nth p 0 ≤ 65535) ∧
  Met opFecInject (fun p _ => wordOk FEC_INJ.fields (nth p 0) = true) ∧
  (∃ (h : CmdHdr) (p : List Word) (s : State) (ws : List Nat), Accepted opFecGeometry h p s ∧ s.plain ∧ nth (p.map (·.toNat)) 1 = 0 ∧ s.txHeld (nth (p.map (·.toNat)) 0) = some ws ∧ nth (p.map (·.toNat)) 2 < 16 ∧ scEn (ws.getD (nth (p.map (·.toNat)) 2) 0) = true) :=
  ⟨met ⟨0, 0, 0, 0⟩ ([0, State.reset.word FEC_DEC_CFG.fields, State.reset.word [FEC_LLR_CFG.GAIN], State.reset.word FEC_DEG_SET.fields, State.reset.word FEC_DEG_CLR.fields]) (base 2 []) (by decide +kernel) (by decide +kernel),
   met ⟨0, 0, 0, 0⟩ ([]) (base 1 []) (by decide +kernel) (trivial),
   met ⟨0, 0, 0, 0⟩ ([65535]) (base 2 []) (by decide +kernel) (by decide +kernel),
   met ⟨0, 0, 0, 0⟩ ([State.reset.word FEC_INJ.fields]) (base 4 []) (by decide +kernel) (by decide +kernel),
   ⟨(⟨0, 7, 0, 0⟩ : CmdHdr), ([0, 0, 6, 1] : List Word), base 1 ((LTX_CTRL.MODE, 0, 5) :: pl5 0), (plan0 5 0 : List Nat), acc (by decide +kernel), by unfold State.plain; decide +kernel⟩⟩

/-- Inputs that meet the hypotheses of each clause of `Obligations.FecEvents` that has any. -/
theorem test_meets_FecEvents :
  (∃ (m : Mast) (s : State), s.takes m 4) ∧
  (∃ (m : Mast) (s : State), s.takes m 4 ∧ s.dev = 4 ∧ s.rd FEC_INJ.MODE = 2) ∧
  (∃ (s : State), s.fec.shot ≠ 0) ∧
  (∃ (net : List Bool) (held : Nat) (k : Nat) (j : Nat) (acc : Nat) (blk : Tab Nat) (s : State), s.sending = true ∧ nativeMode s.txMode = true ∧ net.length = 42000 ∧ held < bufCap ∧ s.dev ≠ 4 ∧ takePos (s.bankWords 0) (fitsIn s.payloadEnd) (rho (otucOf s.txMode s.txN) (sumE (s.bankWords 0))) s.ltx.acc s.ltx.blk = some (k, j, acc, blk)) ∧
  (∃ (held : Nat) (s : State), s.sending = true ∧ interopMode s.txMode = true ∧ held < bufCap ∧ s.dev ≠ 4) ∧
  (∃ (net : List Bool) (held : Nat) (s : State), s.sending = true ∧ nativeMode s.txMode = true ∧ net.length = 42000 ∧ bufCap ≤ held) ∧
  (∃ (held : Nat) (k : Nat) (j : Nat) (acc : Nat) (blk : Tab Nat) (s : State), s.rxPlace = some (k, j, acc, blk) ∧ demapCap ≤ held) ∧
  (∃ (held : Nat) (k : Nat) (j : Nat) (acc : Nat) (blk : Tab Nat) (s : State), s.rxPlace = some (k, j, acc, blk) ∧ held < demapCap ∧ s.stage ≠ 10) ∧
  (∃ (held : Nat) (k : Nat) (j : Nat) (acc : Nat) (blk : Tab Nat) (s : State), s.rxPlace = some (k, j, acc, blk) ∧ held < demapCap ∧ s.stage = 10 ∧ nativeMode s.rxMode = true) ∧
  (∃ (held : Nat) (k : Nat) (j : Nat) (acc : Nat) (blk : Tab Nat) (s : State), s.rxPlace = some (k, j, acc, blk) ∧ held < demapCap ∧ s.stage = 10 ∧ nativeMode s.rxMode = false) :=
  ⟨⟨(0 : Mast), base 1 [], by unfold State.takes; decide +kernel⟩,
   ⟨(0 : Mast), base 4 [(FEC_INJ.MODE, 0, 2)], by unfold State.takes; decide +kernel⟩,
   ⟨{ base 4 [] with fec := { shot := 65535, shotDue := 0 } }, by decide +kernel⟩,
   (let net : List Bool := List.replicate 42000 false; let held : Nat := 0; let k : Nat := 6; let j : Nat := 0; let acc : Nat := 2635907071; let blk : Tab Nat := [(6, 1)]; ⟨net, held, k, j, acc, blk, { base 3 [(LTX_STATUS.TX_ON, 0, 1), (LTX_CTRL.MODE, 0, 5), (LTX_PLAN_SC.EN, 6, 1), (LTX_PLAN_SC.CONST, 6, 1), (LTX_PLAN_SC.ENT, 6, 32)] with ltx := { acc := 4294967295 } }, by decide +kernel⟩),
   ⟨(0 : Nat), base 3 [(LTX_STATUS.TX_ON, 0, 1), (LTX_CTRL.MODE, 0, 8)], by decide +kernel⟩,
   ⟨(List.replicate 42000 false : List Bool), (2 : Nat), base 3 [(LTX_STATUS.TX_ON, 0, 1), (LTX_CTRL.MODE, 0, 5)], by decide +kernel⟩,
   ⟨(3 : Nat), (0 : Nat), (0 : Nat), (0 : Nat), ([(0, 1)] : Tab Nat), base 3 [(LRX_CTRL.MODE, 0, 8), (LRX_STATUS.STAGE, 0, 5)], by decide +kernel⟩,
   ⟨(0 : Nat), (0 : Nat), (0 : Nat), (0 : Nat), ([(0, 1)] : Tab Nat), base 3 [(LRX_CTRL.MODE, 0, 8), (LRX_STATUS.STAGE, 0, 5)], by decide +kernel⟩,
   ⟨(0 : Nat), (7 : Nat), (0 : Nat), (4280341638 : Nat), ([(6, 1), (7, 1)] : Tab Nat), base 3 [(LRX_CTRL.MODE, 0, 5), (LRX_STATUS.STAGE, 0, 10)], by decide +kernel⟩,
   ⟨(0 : Nat), (0 : Nat), (0 : Nat), (0 : Nat), ([(0, 1)] : Tab Nat), base 3 [(LRX_CTRL.MODE, 0, 8), (LRX_STATUS.STAGE, 0, 10)], by decide +kernel⟩⟩

/-- Inputs that meet the hypotheses of each clause of `Obligations.FramingCommands` that has any. -/
theorem test_meets_FramingCommands :
  Met opFrmCfg (fun p _ => wordOk FRM_DOVE_CFG.fields (nth p 0) = true ∧ wordOk FRM_DEF_CFG.fields (nth p 1) = true ∧ wordOk FRM_DEG_CFG.fields (nth p 2) = true ∧ wordOk FRM_CA_CFG.fields (nth p 3) = true) ∧
  Met opFrmStatus (fun _ _ => True) ∧
  Met opFrmPmGet (fun p _ => nth p 0 ≤ 33 ∧ 1 ≤ nth p 1 ∧ nth p 1 ≤ 900) ∧
  Met opFrmTtiSet (fun p _ => nth p 0 ≤ 1) ∧
  Met opFrmTtiGet (fun p _ => nth p 0 ≤ 1) ∧
  Met opFrmOhcCfg (fun p s => nth p 0 ≤ 2 ∧ wordOk FRM_OHC_ROUTE.fields (nth p 2) = true ∧ s.routeOk (nth p 2) = true) ∧
  Met opFrmOhcXfer (fun p s => nth p 0 ≤ 2 ∧ nth p 1 = 2 ∧ s.rd FRM_OHC_ROUTE.TX_SRC (nth p 0) = 1) ∧
  Met opFrmOhcXfer (fun p s => nth p 0 ≤ 2 ∧ nth p 1 = 1 ∧ s.rd FRM_OHC_ROUTE.RX_DEST (nth p 0) = 1) :=
  ⟨met ⟨0, 0, 0, 0⟩ ([State.reset.word FRM_DOVE_CFG.fields, State.reset.word FRM_DEF_CFG.fields, State.reset.word FRM_DEG_CFG.fields, State.reset.word FRM_CA_CFG.fields]) (base 2 []) (by decide +kernel) (by decide +kernel),
   met ⟨0, 0, 0, 0⟩ ([]) (base 1 []) (by decide +kernel) (trivial),
   met ⟨0, 0, 0, 0⟩ ([33, 900]) (base 3 []) (by decide +kernel) (by decide +kernel),
   met ⟨0, 0, 0, 0⟩ (1 :: List.replicate 32 0x41424344) (base 2 []) (by decide +kernel) (by decide +kernel),
   met ⟨0, 0, 0, 0⟩ ([1]) (base 1 []) (by decide +kernel) (by decide +kernel),
   met ⟨0, 0, 0, 0⟩ ([2, 7, State.reset.word FRM_OHC_ROUTE.fields]) (base 2 []) (by decide +kernel) (by decide +kernel),
   met ⟨0, 0, 0, 0⟩ ([2, 2, 0x01020304]) (base 3 [(FRM_OHC_ROUTE.TX_SRC, 2, 1)]) (by decide +kernel) (by decide +kernel),
   met ⟨0, 0, 0, 0⟩ ([2, 1]) ({ base 3 [(FRM_OHC_ROUTE.RX_DEST, 2, 1)] with frm := { oh := [(2, { rxEng := [1, 2, 3, 4] })] } }) (by decide +kernel) (by decide +kernel)⟩

/-- Inputs that meet the hypotheses of each clause of `Obligations.FramingEvents` that has any. -/
theorem test_meets_FramingEvents :
  (∃ (m : Mast) (s : State), s.takes m 5) ∧
  (∃ (m : Mast) (s : State), s.takes m 5) ∧
  (∃ (s : State), s.rxMode ≠ 0 ∧ s.inFrame = false ∧ s.frm.cands = [] ∧ s.frm.window = false ∧ s.frameBits ≠ 0) ∧
  (∃ (o : Nat) (c : Cand) (s : State), s.frm.cands.find? (fun c => c.off == o) = some c ∧ c.done = false) ∧
  (∃ (w : Cand) (s : State), s.frm.window = true ∧ (s.frm.cands.filter (·.done)).filter (·.agree) = [w]) ∧
  (∃ (s : State), s.inFrame = true) ∧
  (∃ (s : State), s.inFrame = true ∧ s.rd FRM_DOVE_CFG.M ≤ s.frm.miss + 1) ∧
  (∃ (s : State), s.inFrame = true) ∧
  (∃ (s : State), s.sending = true ∧ nativeMode s.txMode = true) ∧
  (∃ (s : State), s.sending = true ∧ interopMode s.txMode = true ∧ nativeMode s.txMode = false) ∧
  (∃ (s : State), s.on LRX_STATUS.SIG_PRESENT = true ∧ s.on LTX_LAS_STAT.FAIL s.loPort = false) ∧
  (∃ (s : State), s.inFrame = false ∧ s.on LRX_CTRL.RX_EN = true ∧ s.frm.defects = []) ∧
  (∃ (s : State), s.inFrame = true) ∧
  (∃ (s : State), s.on FRM_STATUS.IM = false ∧ nativeMode s.rxMode = true ∧ s.on LRX_CTRL.RX_EN = true ∧ s.frm.defects = []) ∧
  (∃ (s : State), s.on FRM_STATUS.IM = true) :=
  ⟨⟨(0 : Mast), base 1 [], by unfold State.takes; decide +kernel⟩,
   ⟨(0 : Mast), base 1 [], by unfold State.takes; decide +kernel⟩,
   ⟨base 3 [(LRX_CTRL.MODE, 0, 5)], by decide +kernel⟩,
   ⟨(7 : Nat), (({ off := 7, blk := 1, agree := true, hits := 1, n := 3, done := false } : Cand) : Cand), { base 1 [] with frm := { cands := [⟨7, 1, true, 1, 3, false⟩] } }, by decide +kernel⟩,
   ⟨(({ off := 7, blk := 1, agree := true, hits := 3, n := 3, done := true } : Cand) : Cand), { base 1 [] with frm := { window := true, cands := [⟨7, 1, true, 3, 3, true⟩] } }, by decide +kernel⟩,
   ⟨{ base 3 [(FRM_STATUS.DOVE, 0, 4), (LRX_CTRL.MODE, 0, 5)] with frm := { miss := 1 } }, by decide +kernel⟩,
   ⟨{ base 3 [(FRM_STATUS.DOVE, 0, 3), (LRX_CTRL.MODE, 0, 5)] with frm := { miss := 7 } }, by decide +kernel⟩,
   ⟨base 3 [(LRX_CTRL.MODE, 0, 5), (LRX_CTRL.RX_EN, 0, 1), (LRX_STATUS.STAGE, 0, 10), (FRM_STATUS.DOVE, 0, 3)], by decide +kernel⟩,
   ⟨base 3 [(LTX_CTRL.MODE, 0, 5), (LTX_STATUS.TX_ON, 0, 1)], by decide +kernel⟩,
   ⟨base 3 [(LTX_CTRL.MODE, 0, 8), (LTX_STATUS.TX_ON, 0, 1)], by decide +kernel⟩,
   ⟨base 1 [(LRX_STATUS.SIG_PRESENT, 0, 1)], by decide +kernel⟩,
   ⟨{ base 1 [(LRX_CTRL.RX_EN, 0, 1)] with frm := { defects := [] } }, by decide +kernel⟩,
   ⟨{ base 3 [(FRM_STATUS.DOVE, 0, 3)] with frm := { defects := [⟨3, 0, 5⟩] } }, by decide +kernel⟩,
   ⟨base 3 [(LRX_CTRL.MODE, 0, 5), (LRX_CTRL.RX_EN, 0, 1)], by decide +kernel⟩,
   ⟨base 1 [(FRM_STATUS.IM, 0, 1)], by decide +kernel⟩⟩

/-- Inputs that meet the hypotheses of each clause of `Obligations.ClientCommands` that has any. -/
theorem test_meets_ClientCommands :
  Met opCliAdd (fun p s => p.length = 4 + slotWords (nth p 2) (nth p 3) ∧ nth p 0 ≤ 31 ∧ s.chOn (nth p 0) = false ∧ nth p 2 ≤ 1 ∧ s.typeOk (nth p 0) (CLI_CH_CFG.TYPE.raw (nth p 1)) = true ∧ (laneGroup (CLI_CH_CFG.TYPE.raw (nth p 1)) (CLI_CH_CFG.RATE.raw (nth p 1)) (CLI_CH_CFG.M.raw (nth p 1)) (CLI_CH_CFG.LANE_BASE.raw (nth p 1))).any (fun ls => ls.all (fun n => !s.heldLanes.contains n)) = true ∧ (s.pickSlots none (s.chBound (nth p 0)) (CLI_CH_CFG.TYPE.raw (nth p 1)) (CLI_CH_CFG.M.raw (nth p 1)) (nth p 2 == 1) (nth p 3) (unpackHalves (nth p 3) (p.drop 4))).isOk = true) ∧
  Met opCliRemove (fun p s => nth p 0 ≤ 31 ∧ s.chOn (nth p 0) = true ∧ s.cli.move = none) ∧
  Met opCliMove (fun p s => p.length = 3 + slotWords (nth p 1) (nth p 2) ∧ nth p 0 ≤ 31 ∧ nth p 1 ≤ 1 ∧ s.chOn (nth p 0) = true ∧ s.cli.move = none ∧ (s.pickSlots (some (nth p 0)) (s.chBound (nth p 0)) (s.rd CLI_CH_CFG.TYPE (nth p 0)) (s.rd CLI_CH_CFG.M (nth p 0)) (nth p 1 == 1) (nth p 2) (unpackHalves (nth p 2) (p.drop 3))).isOk = true) ∧
  Met opCliMoveCancel (fun _ s => s.cli.move ≠ none ∧ 4 ≤ s.rd CLI_MOVE_STAT.CD) ∧
  Met opCliStatus (fun _ _ => True) ∧
  Met opCliCounters (fun _ _ => True) ∧
  Met opCliTsCfg (fun p _ => nth p 0 ≤ 31 ∧ CLI_TS_ADJ_IN.ALL.inRange (nth p 1) = true ∧ CLI_TS_ADJ_EG.ALL.inRange (nth p 2) = true) ∧
  Met opCliLoop (fun p s => nth p 0 ≤ 31 ∧ nth p 1 ≤ 2 ∧ s.chOn (nth p 0) = true) ∧
  Met opCliSlotMap (fun _ _ => True) :=
  ⟨met ⟨0, 0, 0, 0⟩ ([31, 6 * 2 ^ 28 + 2 ^ 26 + 2 ^ 21 + 15 * 2 ^ 16, 1, 21]) (base 3 [(LTX_CTRL.MODE, 0, 5)]) (by decide +kernel) (by decide +kernel),
   met ⟨0, 0, 0, 0⟩ ([31]) (base 3 [(LTX_CTRL.MODE, 0, 5), (CLI_CH_CTRL.EN, 31, 1), (CLI_CH_CFG.SLOTS, 31, 1), (CLI_TS_OWNER.OWNER, 0, 31)]) (by decide +kernel) (by decide +kernel),
   met ⟨0, 0, 0, 0⟩ ([31, 1, 21]) (base 3 ((List.range 21).map (fun k => (CLI_TS_OWNER.OWNER, k, 31)) ++ [(LTX_CTRL.MODE, 0, 5), (CLI_CH_CTRL.EN, 31, 1), (CLI_CH_CFG.TYPE, 31, 6), (CLI_CH_CFG.M, 31, 1), (CLI_CH_CFG.SLOTS, 31, 21), (LTX_STATUS.TX_ON, 0, 1)])) (by decide +kernel) (by decide +kernel),
   met ⟨0, 0, 0, 0⟩ ([]) ({ base 3 [(CLI_MOVE_STAT.CD, 0, 4), (CLI_MOVE_STAT.PENDING, 0, 1)] with cli := { move := some ⟨3, [1], 1, 20, false⟩ } }) (by decide +kernel) (by decide +kernel),
   met ⟨0, 0, 0, 0⟩ ([0x80000001]) (base 3 []) (by decide +kernel) (trivial),
   met ⟨0, 0, 0, 0⟩ ([3]) (base 3 []) (by decide +kernel) (trivial),
   met ⟨0, 0, 0, 0⟩ ([31, 5, 0xFFFFFFFB]) (base 2 []) (by decide +kernel) (by decide +kernel),
   met ⟨0, 0, 0, 0⟩ ([31, 2]) (base 4 [(CLI_CH_CTRL.EN, 31, 1)]) (by decide +kernel) (by decide +kernel),
   met ⟨0, 0, 0, 0⟩ ([]) (base 2 []) (by decide +kernel) (trivial)⟩

/-- Inputs that meet the hypotheses of each clause of `Obligations.ClientEvents` that has any. -/
theorem test_meets_ClientEvents :
  (∃ (m : Mast) (s : State), s.takes m 6) ∧
  (∃ (r : List (BitVec 8)) (s : State), nativeMode s.rxMode = true ∧ s.inFrame = true ∧ s.on FRM_STATUS.IM = true ∧ s.channels = [] ∧ r.length = 6 ∧ crc8 ((r.map (·.toNat)).take 5) = nth (r.map (·.toNat)) 5 ∧ bit (nth (r.map (·.toNat)) 4) 0 = false) ∧
  (∃ (k : Fin 32) (s : State), s.chOn k.val = true ∧ s.rd CLI_CH_CFG.TYPE k.val ≠ 7) ∧
  (∃ (k : Fin 32) (skew : BitVec 14) (s : State), s.chOn k.val = true ∧ 10000 < skew.toNat) ∧
  (∃ (k : Fin 32) (skew : BitVec 14) (s : State), s.chOn k.val = true ∧ skew.toNat ≤ 10000) ∧
  (∃ (k : Fin 32) (s : State), s.chOn k.val = true ∧ s.rd CLI_CH_STAT.STATE k.val = 2 ∧ s.on CLI_CH_STAT.ING_FAIL k.val = false ∧ s.fillTrib k.val = false ∧ s.carried k.val = true) ∧
  (∃ (k : Fin 32) (s : State), s.isCbr k.val = true ∧ s.on CLI_CH_STAT.ING_FAIL k.val = false ∧ s.rd CLI_CH_CTRL.LOOP k.val = 0 ∧ (Tab.get [] s.cli.ing k.val).length < 3) ∧
  (∃ (k : Fin 32) (s : State), s.isCbr k.val = true ∧ s.on CLI_CH_STAT.ING_FAIL k.val = false ∧ s.rd CLI_CH_CTRL.LOOP k.val = 0 ∧ 3 ≤ (Tab.get [] s.cli.ing k.val).length) ∧
  (∃ (k : Fin 32) (s : State), s.isCbr k.val = true ∧ s.on CLI_CH_STAT.LF_OUT k.val = true) ∧
  (∃ (k : Fin 32) (s : State), s.isCbr k.val = true ∧ s.on CLI_CH_STAT.LF_OUT k.val = false ∧ Tab.get [] s.cli.eg k.val = []) :=
  ⟨⟨(0 : Mast), base 1 [], by unfold State.takes; decide +kernel⟩,
   ⟨([0, 5, 0, 0, 0, BitVec.ofNat 8 (crc8 [0, 5, 0, 0, 0])] : List (BitVec 8)), base 3 [(LRX_CTRL.MODE, 0, 5), (FRM_STATUS.DOVE, 0, 3), (FRM_STATUS.IM, 0, 1)], by decide +kernel⟩,
   ⟨(31 : Fin 32), base 3 [(CLI_CH_CTRL.EN, 31, 1), (CLI_CH_STAT.STATE, 31, 3)], by decide +kernel⟩,
   ⟨(0 : Fin 32), (12000 : BitVec 14), base 3 [(CLI_CH_CTRL.EN, 0, 1), (CLI_CH_STAT.STATE, 0, 2)], by decide +kernel⟩,
   ⟨(0 : Fin 32), (5 : BitVec 14), base 3 [(CLI_CH_CTRL.EN, 0, 1), (CLI_CH_STAT.STATE, 0, 4)], by decide +kernel⟩,
   (let k : Fin 32 := 31; ⟨k, base 3 ((List.range 21).map (fun k => (CLI_TS_OWNER.OWNER, k, 31)) ++ [(LTX_CTRL.MODE, 0, 5), (CLI_CH_CTRL.EN, 31, 1), (CLI_CH_CFG.TYPE, 31, 6), (CLI_CH_CFG.M, 31, 1), (CLI_CH_CFG.SLOTS, 31, 21), (CLI_CH_STAT.STATE, 31, 2), (LRX_CTRL.RX_EN, 0, 1), (FRM_STATUS.DOVE, 0, 3), (LRX_CTRL.MODE, 0, 5)]), by decide +kernel⟩),
   ⟨(31 : Fin 32), { base 3 [(CLI_CH_CTRL.EN, 31, 1), (CLI_CH_CFG.TYPE, 31, 6)] with cli := { ing := [(31, [[1], [2]])] } }, by decide +kernel⟩,
   ⟨(31 : Fin 32), { base 3 [(CLI_CH_CTRL.EN, 31, 1), (CLI_CH_CFG.TYPE, 31, 6)] with cli := { ing := [(31, [[1], [2], [3]])] } }, by decide +kernel⟩,
   ⟨(31 : Fin 32), base 3 [(CLI_CH_CTRL.EN, 31, 1), (CLI_CH_CFG.TYPE, 31, 6), (CLI_CH_STAT.LF_OUT, 31, 1)], by decide +kernel⟩,
   ⟨(31 : Fin 32), base 3 [(CLI_CH_CTRL.EN, 31, 1), (CLI_CH_CFG.TYPE, 31, 6)], by decide +kernel⟩⟩

/-- Inputs that meet the hypotheses of each clause of `Obligations.LaneCommands` that has any. -/
theorem test_meets_LaneCommands :
  Met opSrdLaneSet (fun p _ => nth p 1 ≤ 3 ∧ firOk (nth p 3) = true) ∧
  Met opSrdStatus (fun p _ => nth p 1 ≤ 3) ∧
  Met opSrdEyeScan (fun p s => nth p 0 ≤ 33 ∧ nth p 2 ≤ 1 ∧ (if nth p 0 < 16 then nth p 1 < 3 else nth p 1 = 3) ∧ 5 ≤ nth p 3 ∧ nth p 3 ≤ 10 ∧ 3 ≤ nth p 4 ∧ nth p 4 ≤ 9 ∧ s.srd.scans.length < 8 ∧ s.on SRD_LANE_STAT.SCAN (nth p 0) = false ∧ s.rd SRD_LANE_STAT.STATE (nth p 0) ≠ 2) ∧
  Met opSrdJigSet (fun p s => nth p 0 ≤ 21 ∧ wordOk SRD_JIG_CFG.fields (nth p 1) = true ∧ jigPatOk (nth p 0) (nth p 1) = true ∧ s.jigLegal (nth p 0) (nth p 1) = true) ∧
  Met opSrdJigGet (fun p _ => nth p 0 ≤ 0x3FFFFF ∧ nth p 1 = 0) :=
  ⟨met ⟨0, 0, 0, 0⟩ ([0x3FFFFF, 3, 0, State.reset.word SRD_TXFIR.fields]) (base 2 []) (by decide +kernel) (by decide +kernel),
   met ⟨0, 0, 0, 0⟩ ([0x3FFFFF, 3]) (base 3 []) (by decide +kernel) (by decide +kernel),
   met ⟨0, 0, 0, 0⟩ ([33, 3, 1, 10, 9]) (base 3 []) (by decide +kernel) (by decide +kernel),
   met ⟨0, 0, 0, 0⟩ ([21, State.reset.word SRD_JIG_CFG.fields, 5, 7]) (base 3 []) (by decide +kernel) (by decide +kernel),
   met ⟨0, 0, 0, 0⟩ ([0x3FFFFF, 0]) (base 3 []) (by decide +kernel) (by decide +kernel)⟩

/-- Inputs that meet the hypotheses of each clause of `Obligations.LaneEvents` that has any. -/
theorem test_meets_LaneEvents :
  (∃ (m : Mast) (s : State), s.takes m 7) ∧
  (∃ (m : Mast) (n : Fin 34) (s : State), s.takes m 7 ∧ s.rd SRD_LANE_STAT.STATE n.val ≠ 0) ∧
  (∃ (m : Mast) (n : Fin 22) (s : State), s.takes m 7 ∧ (s.dev = 4 ∨ s.traffic n.val = false) ∧ s.rd SRD_JIG_CFG.INJ n.val = 1) ∧
  (∃ (n : Fin 22) (s : State), s.on SRD_JIG_CFG.CHK_EN n.val = true ∧ s.on SRD_JIG_CFG.LOCK n.val = false) ∧
  (∃ (n : Fin 22) (s : State), s.on SRD_JIG_CFG.LOCK n.val = true) ∧
  (∃ (n : Fin 22) (s : State), s.on SRD_JIG_CFG.LOCK n.val = true) ∧
  (∃ (k : Fin 6) (n : Nat) (s : State), n ∈ powerStep k.val ∧ s.rd SRD_LANE_STAT.STATE n = 0 ∧ s.channels = []) ∧
  (∃ (n : Fin 34) (s : State), s.rd SRD_LANE_STAT.STATE n.val = 2) ∧
  (∃ (n : Fin 34) (s : State), s.rd SRD_LANE_STAT.STATE n.val = 2) ∧
  (∃ (n : Fin 34) (s : State), s.rd SRD_LANE_STAT.STATE n.val = 4) ∧
  (∃ (n : Fin 34) (s : State), s.rd SRD_LANE_STAT.STATE n.val = 3) ∧
  (∃ (g : Fin 2) (s : State), (s.srd.grp g.val).farNext = none) ∧
  (∃ (n : Fin 34) (g : Nat) (k : Nat) (s : State), laneGrp n.val = some (g, k) ∧ s.rd SRD_LANE_STAT.STATE n.val = 6) ∧
  (∃ (cols : List (List CodeGroup)), cols.all (fun c => !c.contains .bad) = true) ∧
  (∃ (g : Fin 2) (cols : List (List CodeGroup)) (i : Nat) (k : Nat) (s : State), (bitsSet 4 (s.rd (grpRx g.val)))[i]? = some k ∧ cols.any (fun c => c.getD i .pad == .bad) = true) ∧
  (∃ (n : Fin 34) (e : EyeScan) (s : State), s.srd.scans = [e] ∧ e.lane = n.val ∧ [0, 2, 5].contains (s.rd SRD_LANE_STAT.STATE n.val) = false) ∧
  (∃ (n : Fin 34) (e : EyeScan) (s : State), s.srd.scans = [e] ∧ e.lane = n.val) :=
  ⟨⟨(0 : Mast), base 1 [], by unfold State.takes; decide +kernel⟩,
   ⟨(0 : Mast), (0 : Fin 34), base 3 [(SRD_LANE_STAT.STATE, 0, 3)], by unfold State.takes; decide +kernel⟩,
   (let m : Mast := 0; let n : Fin 22 := 0; ⟨m, n, base 1 [(SRD_JIG_CFG.INJ, n.val, 1)], by unfold State.takes; decide +kernel⟩),
   (let n : Fin 22 := 0; ⟨n, base 1 [(SRD_JIG_CFG.CHK_EN, n.val, 1), (SRD_JIG_CFG.LOCK, n.val, 0)], by decide +kernel⟩),
   ⟨(3 : Fin 22), base 3 [(SRD_JIG_CFG.LOCK, 3, 1)], by decide +kernel⟩,
   (let n : Fin 22 := 0; ⟨n, base 1 [(SRD_JIG_CFG.LOCK, n.val, 1)], by decide +kernel⟩),
   ⟨(0 : Fin 6), (25 : Nat), base 1 [], by decide +kernel⟩,
   (let n : Fin 34 := 0; ⟨n, base 1 [(SRD_LANE_STAT.STATE, n.val, 2)], by decide +kernel⟩),
   (let n : Fin 34 := 0; ⟨n, base 1 [(SRD_LANE_STAT.STATE, n.val, 2)], by decide +kernel⟩),
   (let n : Fin 34 := 0; ⟨n, base 1 [(SRD_LANE_STAT.STATE, n.val, 4)], by decide +kernel⟩),
   (let n : Fin 34 := 0; ⟨n, base 1 [(SRD_LANE_STAT.STATE, n.val, 3)], by decide +kernel⟩),
   ⟨(0 : Fin 2), base 1 [], by decide +kernel⟩,
   ⟨(19 : Fin 34), (0 : Nat), (3 : Nat), base 3 [(SRD_LANE_STAT.STATE, 19, 6)], by decide +kernel⟩,
   (let cols : List (List CodeGroup) := [[CodeGroup.data 3]]; ⟨cols, by decide +kernel⟩),
   ⟨(0 : Fin 2), ([[CodeGroup.bad]] : List (List CodeGroup)), ((0 : Nat) : Nat), ((0 : Nat) : Nat), base 3 [(SRD_GRP_STAT.MITRE_RX, 0, 1)], by decide +kernel⟩,
   ⟨(33 : Fin 34), ((⟨33, 3, 0, 5, 3, rn 0x0803 [33, 3, 0, 5, 3]⟩ : EyeScan) : EyeScan), { base 3 [(SRD_LANE_STAT.SCAN, 33, 1), (SRD_LANE_STAT.STATE, 33, 3)] with srd := { scans := [⟨33, 3, 0, 5, 3, rn 0x0803 [33, 3, 0, 5, 3]⟩] } }, by decide +kernel⟩,
   ⟨(33 : Fin 34), ((⟨33, 3, 0, 5, 3, rn 0x0803 [33, 3, 0, 5, 3]⟩ : EyeScan) : EyeScan), { base 3 [(SRD_LANE_STAT.SCAN, 33, 1), (SRD_LANE_STAT.STATE, 33, 3)] with srd := { scans := [⟨33, 3, 0, 5, 3, rn 0x0803 [33, 3, 0, 5, 3]⟩] } }, by decide +kernel⟩⟩

/-- Inputs that meet the hypotheses of each clause of `Obligations.VeneerCommands` that has any. -/
theorem test_meets_VeneerCommands :
  Met opVnrCfg (fun p s => wordOk [VNR_LA_CFG.HOLD] (nth p 1) = true ∧ s.protRefused (VNR_CTRL.PROT_MODE.raw (nth p 0)) = none ∧ (bit (nth p 0) 7 = true → s.sensorOut = false)) ∧
  Met opVnrStatus (fun _ _ => True) ∧
  Met opVnrPageSet (fun p s => 8 ≤ nth p 0 ∧ nth p 0 ≤ 71 ∧ wordOk [VNR_PAGE_ROT.PERIOD] (nth p 2) = true ∧ (VNR_PAGE_CFG.INLINE.raw (nth p 1) = 0 → s.pageBound (nth p 0) = false)) ∧
  (∃ (h : CmdHdr) (p : List Word) (s : State), Accepted opVnrKeyLoad h p s ∧ 8 ≤ nth (p.map (·.toNat)) 0 ∧ nth (p.map (·.toNat)) 0 ≤ 71 ∧ nth (p.map (·.toNat)) 1 ≤ 1 ∧ s.on VNR_STATUS.ERASED = false ∧ s.isRewrite (nth (p.map (·.toNat)) 0) (nth (p.map (·.toNat)) 1) = false) ∧
  Met opVnrKeySwitch (fun p s => maskRefused p = none ∧ s.schedRefused (pagesOf p) = none) ∧
  Met opVnrKeyErase (fun p _ => maskRefused (p.take 3) = none ∧ nth p 3 ≤ 3) ∧
  Met opVnrBind (fun p s => nth p 0 ≤ 31 ∧ s.chOn (nth p 0) = false ∧ (nth p 1 = 255 ∨ (8 ≤ nth p 1 ∧ nth p 1 ≤ 71 ∧ s.on VNR_PAGE_CFG.INLINE (nth p 1) = true))) ∧
  (∃ (h : CmdHdr) (p : List Word) (s : State), Accepted opVnrLa h p s ∧ nth (p.map (·.toNat)) 1 ≤ 4096 ∧ nth (p.map (·.toNat)) 2 ≤ 65536 ∧ bits (nth (p.map (·.toNat)) 0) 28 4 = 2 ∧ 8 ≤ bits (nth (p.map (·.toNat)) 0) 0 8 ∧ bits (nth (p.map (·.toNat)) 0) 0 8 ≤ 71 ∧ s.on VNR_PAGE_CFG.LA_EN (bits (nth (p.map (·.toNat)) 0) 0 8) = true ∧ s.rd VNR_PAGE_CFG.OWNER (bits (nth (p.map (·.toNat)) 0) 0 8) = h.session.toNat ∧ bit (nth (p.map (·.toNat)) 0) 27 = true ∧ (s.vnr.slot (bits (nth (p.map (·.toNat)) 0) 0 8) (bits (nth (p.map (·.toNat)) 0) 26 1)).cur.isSome = true ∧ s.on VNR_STATUS.RNG_OK = true) ∧
  Met opVnrCounters (fun _ _ => True) ∧
  Met opVnrRearm (fun _ s => s.sensorOut = false) :=
  ⟨met ⟨0, 0, 0, 0⟩ ([0, State.reset.word [VNR_LA_CFG.HOLD]]) (base 3 []) (by decide +kernel) (by decide +kernel),
   met ⟨0, 0, 0, 0⟩ ([]) (base 1 []) (by decide +kernel) (trivial),
   met ⟨0, 0, 0, 0⟩ ([71, 2 ^ 31, 60]) (base 2 []) (by decide +kernel) (by decide +kernel),
   ⟨(⟨0, 7, 0, 0⟩ : CmdHdr), ([8, 1] ++ List.replicate 17 0 : List Word), base 3 [], acc (by decide +kernel), by decide +kernel⟩,
   met ⟨0, 0, 0, 0⟩ ([0x100, 0, 0]) (base 3 []) (by decide +kernel) (by decide +kernel),
   met ⟨0, 0, 0, 0⟩ ([0, 0, 0x80, 3]) ({ base 3 [(validFld 0, 71, 1)] with vnr := { slots := [(2 * 71, { cur := some { gen := 1, key := [1], salt := 2 } })] } }) (by decide +kernel) (by decide +kernel),
   met ⟨0, 0, 0, 0⟩ ([31, 71]) (base 3 [(VNR_PAGE_CFG.INLINE, 71, 1)]) (by decide +kernel) (by decide +kernel),
   ⟨(⟨0, 7, 0, 0⟩ : CmdHdr), ([BitVec.ofNat 32 (2 * 2 ^ 28 + 2 ^ 27 + 71), 4096, 65536, 0, 0, 0, 0, 1, 2, 3, 4, 5, 6, 7] : List Word), { base 3 [(VNR_STATUS.RNG_OK, 0, 1), (VNR_PAGE_CFG.LA_EN, 71, 1)] with vnr := { slots := [(2 * 71, { cur := some { gen := 1, key := [1], salt := 2 } })] } }, acc (by decide +kernel), by decide +kernel⟩,
   met ⟨0, 0, 0, 0⟩ ([3]) (base 3 []) (by decide +kernel) (trivial),
   met ⟨0, 0, 0, 0⟩ ([]) (base 2 []) (by decide +kernel) (by decide +kernel)⟩

/-- Inputs that meet the hypotheses of each clause of `Obligations.VeneerEvents` that has any. -/
theorem test_meets_VeneerEvents :
  (∃ (m : Mast) (s : State), s.takes m 8 ∧ s.sensorOut = false) ∧
  (∃ (m : Mast) (s : State), s.takes m 8) ∧
  (∃ (m : Mast) (v : BitVec 2) (s : State), s.takes m 8 ∧ s.protRefused v.toNat = none) ∧
  (∃ (n : Nat) (r : LaReq) (s : State), s.vnr.las[n]? = some r) ∧
  (∃ (n : Nat) (r : LaReq) (s : State), s.vnr.las[n]? = some r) ∧
  (∃ (p : Fin 72) (k : Fin 2) (s : State), s.allVerified p.val k.val = true ∧ s.vnr.rewriting p.val = false) ∧
  (∃ (p : Fin 72) (k : Fin 2) (c : KeyGen) (s : State), (s.vnr.slot p.val k.val).cur = some c ∧ c.aged = false ∧ 2 ^ 47 ≤ c.seq) ∧
  (∃ (p : Fin 72) (k : Fin 2) (c : KeyGen) (s : State), (s.vnr.slot p.val k.val).cur = some c ∧ c.spent = false ∧ 2 ^ 48 ≤ c.seq) ∧
  (∃ (s : State), s.on VNR_STATUS.SENSE_ARMED = true) ∧
  (∃ (s : State), s.on VNR_STATUS.SENSE_ARMED = false) ∧
  (∃ (s : State), s.on VNR_STATUS.ERASED = false) :=
  ⟨⟨(0 : Mast), base 1 [], by unfold State.takes; decide +kernel⟩,
   ⟨(0 : Mast), base 1 [], by unfold State.takes; decide +kernel⟩,
   ⟨(0 : Mast), (0 : BitVec 2), base 1 [], by unfold State.takes; decide +kernel⟩,
   ⟨(0 : Nat), ((⟨rn 0x0908 [], 2, 71, 0, 1, [9], 4, 8, 4096, [1, 2, 3], [4, 5, 6, 7]⟩ : LaReq) : LaReq), { base 3 [] with vnr := { las := [⟨rn 0x0908 [], 2, 71, 0, 1, [9], 4, 8, 4096, [1, 2, 3], [4, 5, 6, 7]⟩] } }, by decide +kernel⟩,
   ⟨(0 : Nat), ((⟨rn 0x0908 [], 1, 71, 0, 1, [9], 4, 8, 4096, [1, 2, 3], []⟩ : LaReq) : LaReq), { base 3 [] with vnr := { las := [⟨rn 0x0908 [], 1, 71, 0, 1, [9], 4, 8, 4096, [1, 2, 3], []⟩] } }, by decide +kernel⟩,
   ⟨(71 : Fin 72), (1 : Fin 2), { base 3 [(VNR_CH_BIND.PAGE, 5, 71)] with vnr := { slots := [(2 * 71 + 1, { cur := some { gen := 1, key := [1], salt := 2, rx := [(5, 1)] }, ret := some { gen := 0, key := [3], salt := 4 } })] } }, by decide +kernel⟩,
   ⟨(71 : Fin 72), (0 : Fin 2), (({ gen := 1, key := [1], salt := 2, seq := 2 ^ 47 } : KeyGen) : KeyGen), { base 3 [] with vnr := { slots := [(2 * 71, { cur := some { gen := 1, key := [1], salt := 2, seq := 2 ^ 47 } })] } }, by decide +kernel⟩,
   ⟨(71 : Fin 72), (0 : Fin 2), (({ gen := 1, key := [1], salt := 2, seq := 2 ^ 48 } : KeyGen) : KeyGen), { base 3 [] with vnr := { slots := [(2 * 71, { cur := some { gen := 1, key := [1], salt := 2, seq := 2 ^ 48 } })] } }, by decide +kernel⟩,
   ⟨base 1 [(VNR_STATUS.SENSE_ARMED, 0, 1)], by decide +kernel⟩,
   ⟨base 1 [(VNR_STATUS.SENSE_ARMED, 0, 0)], by decide +kernel⟩,
   ⟨base 1 [(VNR_STATUS.ERASED, 0, 0)], by decide +kernel⟩⟩

/-- Inputs that meet the hypotheses of each clause of `Obligations.VeneerBlocks` that has any. -/
theorem test_meets_VeneerBlocks :
  (∃ (k : Fin 32) (y : KeyGen) (s : State), s.chOn k.val = true ∧ s.chBound k.val = true ∧ s.carried k.val = true ∧ s.txGen (s.rd VNR_CH_BIND.PAGE k.val) = some y ∧ s.on VNR_STATUS.RNG_OK = true ∧ s.beyond 0 k.val = false ∧ y.seq < 2 ^ 48) ∧
  (∃ (k : Fin 32) (kp : Bool) (g : BitVec 5) (q : BitVec 48) (y : KeyGen) (s : State), s.chOn k.val = true ∧ s.chBound k.val = true ∧ s.carried k.val = true ∧ s.fillTrib k.val = false ∧ s.on VNR_STATUS.RNG_OK = true ∧ s.beyond 1 k.val = false ∧ (s.vnr.slot (s.rd VNR_CH_BIND.PAGE k.val) (b2n kp)).named g.toNat = some y ∧ Tab.get 0 y.rx k.val ≤ q.toNat) ∧
  (∃ (k : Fin 32) (kp : Bool) (g : BitVec 5) (q : BitVec 48) (y : KeyGen) (s : State), s.chOn k.val = true ∧ s.chBound k.val = true ∧ s.carried k.val = true ∧ s.fillTrib k.val = false ∧ s.on VNR_STATUS.RNG_OK = true ∧ s.beyond 1 k.val = false ∧ (s.vnr.slot (s.rd VNR_CH_BIND.PAGE k.val) (b2n kp)).named g.toNat = some y ∧ q.toNat < Tab.get 0 y.rx k.val) ∧
  (∃ (k : Fin 32) (kp : Bool) (g : BitVec 5) (y : KeyGen) (s : State), s.chOn k.val = true ∧ s.chBound k.val = true ∧ s.carried k.val = true ∧ s.fillTrib k.val = false ∧ s.on VNR_STATUS.RNG_OK = true ∧ s.beyond 1 k.val = false ∧ (s.vnr.slot (s.rd VNR_CH_BIND.PAGE k.val) (b2n kp)).named g.toNat = some y) :=
  ⟨(let k : Fin 32 := 31; let y : KeyGen := ({ gen := 1, key := [1], salt := 2, seq := 2 ^ 48 - 1 } : KeyGen); ⟨k, y, { base 3 ((List.range 21).map (fun k => (CLI_TS_OWNER.OWNER, k, 31)) ++ [(LTX_CTRL.MODE, 0, 5), (CLI_CH_CTRL.EN, 31, 1), (CLI_CH_CFG.TYPE, 31, 6), (CLI_CH_CFG.M, 31, 1), (CLI_CH_CFG.SLOTS, 31, 21), (VNR_CH_BIND.PAGE, 31, 71), (VNR_STATUS.RNG_OK, 0, 1)]) with vnr := { slots := [(2 * 71, { cur := some { gen := 1, key := [1], salt := 2, seq := 2 ^ 48 - 1 } })] } }, by decide +kernel⟩),
   (let k : Fin 32 := 31; let kp : Bool := false; let g : BitVec 5 := 1; let q : BitVec 48 := 5; let y : KeyGen := ({ gen := 1, key := [1], salt := 2, rx := [(31, 5)] } : KeyGen); ⟨k, kp, g, q, y, { base 3 ((List.range 21).map (fun k => (CLI_TS_OWNER.OWNER, k, 31)) ++ [(LTX_CTRL.MODE, 0, 5), (LRX_CTRL.MODE, 0, 5), (LRX_CTRL.RX_EN, 0, 1), (FRM_STATUS.DOVE, 0, 3), (CLI_CH_CTRL.EN, 31, 1), (CLI_CH_CFG.TYPE, 31, 6), (CLI_CH_CFG.M, 31, 1), (CLI_CH_CFG.SLOTS, 31, 21), (VNR_CH_BIND.PAGE, 31, 71), (VNR_STATUS.RNG_OK, 0, 1)]) with vnr := { slots := [(2 * 71, { cur := some { gen := 1, key := [1], salt := 2, rx := [(31, 5)] } })] } }, by decide +kernel⟩),
   (let k : Fin 32 := 31; let kp : Bool := false; let g : BitVec 5 := 1; let q : BitVec 48 := 4; let y : KeyGen := ({ gen := 1, key := [1], salt := 2, rx := [(31, 5)] } : KeyGen); ⟨k, kp, g, q, y, { base 3 ((List.range 21).map (fun k => (CLI_TS_OWNER.OWNER, k, 31)) ++ [(LTX_CTRL.MODE, 0, 5), (LRX_CTRL.MODE, 0, 5), (LRX_CTRL.RX_EN, 0, 1), (FRM_STATUS.DOVE, 0, 3), (CLI_CH_CTRL.EN, 31, 1), (CLI_CH_CFG.TYPE, 31, 6), (CLI_CH_CFG.M, 31, 1), (CLI_CH_CFG.SLOTS, 31, 21), (VNR_CH_BIND.PAGE, 31, 71), (VNR_STATUS.RNG_OK, 0, 1)]) with vnr := { slots := [(2 * 71, { cur := some { gen := 1, key := [1], salt := 2, rx := [(31, 5)] } })] } }, by decide +kernel⟩),
   (let k : Fin 32 := 31; let kp : Bool := false; let g : BitVec 5 := 1; let y : KeyGen := ({ gen := 1, key := [1], salt := 2, rx := [(31, 5)] } : KeyGen); ⟨k, kp, g, y, { base 3 ((List.range 21).map (fun k => (CLI_TS_OWNER.OWNER, k, 31)) ++ [(LTX_CTRL.MODE, 0, 5), (LRX_CTRL.MODE, 0, 5), (LRX_CTRL.RX_EN, 0, 1), (FRM_STATUS.DOVE, 0, 3), (CLI_CH_CTRL.EN, 31, 1), (CLI_CH_CFG.TYPE, 31, 6), (CLI_CH_CFG.M, 31, 1), (CLI_CH_CFG.SLOTS, 31, 21), (VNR_CH_BIND.PAGE, 31, 71), (VNR_STATUS.RNG_OK, 0, 1)]) with vnr := { slots := [(2 * 71, { cur := some { gen := 1, key := [1], salt := 2, rx := [(31, 5)] } })] } }, by decide +kernel⟩)⟩

/-- Inputs that meet the hypotheses of each clause of `Obligations.ScribeCommands` that has any. -/
theorem test_meets_ScribeCommands :
  Met opScrCfgSet (fun p s => wordOk SCR_CFG.fields (nth p 1) = true ∧ wordOk SCR_TIMERS.fields (nth p 2) = true ∧ wordOk SCR_TIMERS2.fields (nth p 3) = true ∧ wordOk [SCR_BACKOFF.ALL] (nth p 4) = true ∧ SCR_CFG.FREQ.raw (nth p 1) = s.rd SCR_CFG.FREQ ∧ s.scrEdge (bits (nth p 0) 0 1) (SCR_CFG.FREQ.raw (nth p 1)) = true) ∧
  Met opScrTrust (fun p _ => nth p 0 ≤ 16 ∧ p.length = 1 + 2 * nth p 0) ∧
  Met opScrStatus (fun _ _ => True) ∧
  Met opScrPeers (fun _ _ => True) ∧
  Met opScrRestart (fun _ _ => True) :=
  ⟨met ⟨0, 0, 0, 0⟩ ([0, State.reset.word SCR_CFG.fields, State.reset.word SCR_TIMERS.fields, State.reset.word SCR_TIMERS2.fields, State.reset.word [SCR_BACKOFF.ALL], 63, 0, 0, 0, 0, 0]) (base 1 []) (by decide +kernel) (by decide +kernel),
   met ⟨0, 0, 0, 0⟩ ([2, 5, 0, 6, 1]) (base 1 []) (by decide +kernel) (by decide +kernel),
   met ⟨0, 0, 0, 0⟩ ([]) (base 1 []) (by decide +kernel) (trivial),
   met ⟨0, 0, 0, 0⟩ ([]) (base 1 []) (by decide +kernel) (trivial),
   met ⟨0, 0, 0, 0⟩ ([]) (base 1 []) (by decide +kernel) (trivial)⟩

/-- Inputs that meet the hypotheses of each clause of `Obligations.ScribeMessages` that has any. -/
theorem test_meets_ScribeMessages :
  (∃ (m : Mast) (s : State), s.takes m 9) ∧
  (∃ (m : Mast) (s : State), s.takes m 9) ∧
  (∃ (m : Mast) (v : Bool) (s : State), s.takes m 9 ∧ s.scrEdge (b2n v) (s.rd SCR_CFG.FREQ) = true) ∧
  (∃ (k : ScrPkt) (s : State), s.scrState ≠ 0 ∧ 20 ≤ k.peak.toNat ∧ (bitsSet 64 (k.word.toNat ^^^ syncWord)).length ≤ s.rd SCR_CFG.SYNC_TOL ∧ s.scr.rx = none ∧ s.afcOk k.afc.toInt = true ∧ headerBad (packBits (whiten k.bits)) = true) ∧
  (∃ (k : ScrPkt) (bs : List Nat) (s : State), s.scrState ≠ 0 ∧ 20 ≤ k.peak.toNat ∧ (bitsSet 64 (k.word.toNat ^^^ syncWord)).length ≤ s.rd SCR_CFG.SYNC_TOL ∧ s.scr.rx = none ∧ s.afcOk k.afc.toInt = true ∧ bs = packBits (whiten k.bits) ∧ headerBad bs = false ∧ beField bs 4 8 ≠ s.fuse.devId ∧ beField bs 12 8 = s.fuse.devId) ∧
  (∃ (x : ScrHello) (s : State), s.hears x.src.toNat x.seq.toNat ∧ s.scrState = 2 ∧ x.chainOk = true ∧ x.certId = x.src) ∧
  (∃ (src : BitVec 64) (seq : BitVec 16) (s : State), s.hears src.toNat seq.toNat ∧ s.scrState = 2 ∧ (s.heard src.toNat).map (·.passed) = some true) ∧
  (∃ (src : BitVec 64) (seq : BitVec 16) (mode : BitVec 4) (shape : Word) (s : State), s.hears src.toNat seq.toNat ∧ s.scrState = 4 ∧ s.leads = false ∧ s.scrPeer = src.toNat ∧ s.rejects mode.toNat shape.toNat = none) ∧
  (∃ (src : BitVec 64) (seq : BitVec 16) (mode : BitVec 4) (shape : Word) (r : Nat) (s : State), s.hears src.toNat seq.toNat ∧ s.scrState = 4 ∧ s.leads = false ∧ s.scrPeer = src.toNat ∧ s.rejects mode.toNat shape.toNat = some r) ∧
  (∃ (src : BitVec 64) (seq : BitVec 16) (q : BitVec 16) (s : State), s.hears src.toNat seq.toNat ∧ s.scrState = 4 ∧ s.awaits 4 q.toNat = true) ∧
  (∃ (src : BitVec 64) (seq : BitVec 16) (q : BitVec 16) (s : State), s.hears src.toNat seq.toNat ∧ s.scrState = 4 ∧ s.awaits 4 q.toNat = true) ∧
  (∃ (src : BitVec 64) (seq : BitVec 16) (s : State), s.hears src.toNat seq.toNat ∧ s.scrState = 5 ∧ s.leads = false ∧ s.scrPeer = src.toNat ∧ s.on SCR_CTRL.NEG = true ∧ s.scr.rot = none) ∧
  (∃ (src : BitVec 64) (seq : BitVec 16) (q : BitVec 16) (s : State), s.hears src.toNat seq.toNat ∧ s.scrState = 5 ∧ s.leads = true ∧ s.awaits 7 q.toNat = true ∧ s.on SCR_CTRL.NEG = true ∧ s.scr.rot = none) ∧
  (∃ (src : BitVec 64) (seq : BitVec 16) (q : BitVec 16) (s : State), s.hears src.toNat seq.toNat ∧ s.scrState = 5 ∧ s.leads = false ∧ s.scrPeer = src.toNat ∧ s.scr.ackSeq = q.toNat ∧ s.on SCR_CTRL.NEG = true) ∧
  (∃ (src : BitVec 64) (seq : BitVec 16) (s : State), s.hears src.toNat seq.toNat ∧ s.scrState = 7 ∧ s.leads = false ∧ s.scrPeer = src.toNat) ∧
  (∃ (src : BitVec 64) (seq : BitVec 16) (page : BitVec 8) (s : State), s.hears src.toNat seq.toNat ∧ s.scrState = 7 ∧ s.scrPeer = src.toNat ∧ s.scrPages.contains page.toNat = true ∧ s.scr.rot = none) :=
  ⟨⟨(0 : Mast), base 1 [], by unfold State.takes; decide +kernel⟩,
   ⟨(0 : Mast), base 1 [], by unfold State.takes; decide +kernel⟩,
   ⟨(0 : Mast), (false : Bool), base 1 [], by unfold State.takes; decide +kernel⟩,
   ⟨(({ level := 200, peak := 40, word := BitVec.ofNat 64 syncWord, afc := 0, bits := List.replicate 8 true } : ScrPkt) : ScrPkt), base 1 [(SCR_STATUS.STATE, 0, 2)], by decide +kernel⟩,
   ⟨(({ level := 200, peak := 40, word := BitVec.ofNat 64 syncWord, afc := 0, bits := whiten (byteBits ((([0x10, 1, 0, 0] ++ bytesBE 8 2 ++ bytesBE 8 1 ++ [0, 0]) ++ bytesBE 2 (crc16 ([0x10, 1, 0, 0] ++ bytesBE 8 2 ++ bytesBE 8 1 ++ [0, 0]))) ++ [0, 0, 0, 0])) } : ScrPkt) : ScrPkt), ((([0x10, 1, 0, 0] ++ bytesBE 8 2 ++ bytesBE 8 1 ++ [0, 0]) ++ bytesBE 2 (crc16 ([0x10, 1, 0, 0] ++ bytesBE 8 2 ++ bytesBE 8 1 ++ [0, 0]))) ++ [0, 0, 0, 0] : List Nat), base 1 [(SCR_STATUS.STATE, 0, 2)], by decide +kernel⟩,
   ⟨(({ src := 9, seq := 4, modes := 63, state := 2, locked := false, excl := 0, pages := [0, 0, 0], chainOk := true, certId := 9, hello := [1, 2] } : ScrHello) : ScrHello), base 1 [(SCR_STATUS.STATE, 0, 2)], by unfold State.hears; decide +kernel⟩,
   ⟨(9 : BitVec 64), (3 : BitVec 16), { base 1 [(SCR_STATUS.STATE, 0, 2)] with scr := { peers := [⟨9, 0, 5, true, 63, 2, false, 0, [], []⟩] } }, by unfold State.hears; decide +kernel⟩,
   ⟨(9 : BitVec 64), (3 : BitVec 16), (5 : BitVec 4), (BitVec.ofNat 32 (State.reset.word LTX_SHAPE.fields) : Word), base 2 [(SCR_STATUS.STATE, 0, 4), (SCR_STATUS.ROLE, 0, 2), (SCR_PEER_CUR.ALL, 0, 9), (SCR_MODES.ALL, 0, 63)], by unfold State.hears; decide +kernel⟩,
   ⟨(9 : BitVec 64), (3 : BitVec 16), (9 : BitVec 4), (BitVec.ofNat 32 (State.reset.word LTX_SHAPE.fields) : Word), (1 : Nat), base 2 [(SCR_STATUS.STATE, 0, 4), (SCR_STATUS.ROLE, 0, 2), (SCR_PEER_CUR.ALL, 0, 9)], by unfold State.hears; decide +kernel⟩,
   ⟨(9 : BitVec 64), (3 : BitVec 16), (7 : BitVec 16), { base 2 [(SCR_STATUS.STATE, 0, 4), (SCR_STATUS.ROLE, 0, 1), (SCR_PEER_CUR.ALL, 0, 9)] with scr := { wait := some ⟨4, 7, 3, [1], 0⟩ } }, by unfold State.hears; decide +kernel⟩,
   ⟨(9 : BitVec 64), (3 : BitVec 16), (7 : BitVec 16), { base 2 [(SCR_STATUS.STATE, 0, 4), (SCR_STATUS.ROLE, 0, 1), (SCR_PEER_CUR.ALL, 0, 9)] with scr := { wait := some ⟨4, 7, 3, [1], 0⟩ } }, by unfold State.hears; decide +kernel⟩,
   ⟨(0 : BitVec 64), (0 : BitVec 16), { base 1 [(SCR_STATUS.STATE, 0, 5), (SCR_CTRL.NEG, 0, 1)] with scr := { rot := none } }, by unfold State.hears; decide +kernel⟩,
   ⟨(9 : BitVec 64), (3 : BitVec 16), (7 : BitVec 16), { base 2 [(SCR_STATUS.STATE, 0, 5), (SCR_STATUS.ROLE, 0, 1), (SCR_PEER_CUR.ALL, 0, 9)] with scr := { wait := some ⟨7, 7, 6, [1], 0⟩, keysOut := [(10, 0), (11, 0)] } }, by unfold State.hears; decide +kernel⟩,
   (let src : BitVec 64 := 0; let seq : BitVec 16 := 0; let q : BitVec 16 := 0; ⟨src, seq, q, { base 1 [(SCR_STATUS.STATE, 0, 5), (SCR_CTRL.NEG, 0, 1)] with scr := { ackSeq := q.toNat } }, by unfold State.hears; decide +kernel⟩),
   ⟨(0 : BitVec 64), (0 : BitVec 16), base 1 [(SCR_STATUS.STATE, 0, 7)], by unfold State.hears; decide +kernel⟩,
   ⟨(9 : BitVec 64), (3 : BitVec 16), (10 : BitVec 8), { base 2 [(SCR_STATUS.STATE, 0, 7), (SCR_PEER_CUR.ALL, 0, 9), (SCR_KEY_PAGES.ALL, 0, 0x400)] with scr := { trust := [9], peers := [⟨9, 0, 5, true, 63, 2, false, 0, [0x400, 0, 0], []⟩] } }, by unfold State.hears; decide +kernel⟩⟩

/-- Inputs that meet the hypotheses of each clause of `Obligations.ScribeTimers` that has any. -/
theorem test_meets_ScribeTimers :
  (∃ (s : State), s.scr.goDue = true) ∧
  (∃ (s : State), s.dev ≠ 0) ∧
  (∃ (s : State), s.scrState = 2 ∧ s.scrSends = true) ∧
  (∃ (s : State), s.scrState = 2 ∧ s.scrSends = true ∧ s.powered 1 = true ∧ s.ltx.txLight = true ∧ s.calOk [4, 5, 6] = true ∧ s.lit = false ∧ s.ltx.bring = 0) ∧
  (∃ (s : State) (c : Nat), s.scr.window = true ∧ s.scrState = 2 ∧ s.lifecycle ≠ 3 ∧ s.on SCR_CTRL.PIN = false ∧ s.scr.cands = [c] ∧ c < 2 ^ 64 ∧ s.scr.heldKex = []) ∧
  (∃ (s : State) (w : ScrWait), s.scr.wait = some w ∧ w.tries < s.rd SCR_TIMERS.RETRIES) ∧
  (∃ (s : State) (w : ScrWait), s.scr.wait = some w ∧ s.rd SCR_TIMERS.RETRIES ≤ w.tries) ∧
  (∃ (s : State), 3 ≤ s.scrState ∧ s.scrState ≤ 5) ∧
  (∃ (s : State), s.scrState = 8 ∧ s.sending = false) ∧
  (∃ (s : State), s.scrState = 6 ∧ s.lineUp = true) ∧
  (∃ (s : State), s.scrState = 6) ∧
  (∃ (s : State), s.scrState = 7 ∧ s.rxLocked = false ∧ s.on SCR_CTRL.AUTO_RENEG = false) ∧
  (∃ (s : State), s.scrState = 7) ∧
  (∃ (p : Fin 72) (s : State), s.rd VNR_PAGE_ROT.PERIOD p.val ≠ 0 ∧ s.rotatedNow p.val = false ∧ s.scrState ≠ 7) :=
  ⟨⟨{ base 1 [] with scr := { goDue := true } }, by decide +kernel⟩,
   ⟨base 1 [], by decide +kernel⟩,
   ⟨{ base 1 [(SCR_STATUS.STATE, 0, 2)] with scr := { free := true } }, by decide +kernel⟩,
   ⟨{ base 1 [(SCR_STATUS.STATE, 0, 2), (CNV_FUSE_STAT.SOURCE, 4, 1), (CNV_FUSE_STAT.SOURCE, 5, 1), (CNV_FUSE_STAT.SOURCE, 6, 1)] with scr := { free := true }, ltx := { txLight := true } }, by decide +kernel⟩,
   ⟨{ base 1 [(SCR_STATUS.STATE, 0, 2)] with scr := { window := true, cands := [9], heldKex := [] } }, (9 : Nat), by decide +kernel⟩,
   ⟨{ base 2 [(SCR_STATUS.STATE, 0, 4)] with scr := { wait := some ⟨4, 7, 3, [1], 0⟩ } }, ((⟨4, 7, 3, [1], 0⟩ : ScrWait) : ScrWait), by decide +kernel⟩,
   ⟨{ base 2 [(SCR_STATUS.STATE, 0, 4)] with scr := { wait := some ⟨4, 7, 3, [1], 15⟩ } }, ((⟨4, 7, 3, [1], 15⟩ : ScrWait) : ScrWait), by decide +kernel⟩,
   ⟨base 2 [(SCR_STATUS.STATE, 0, 3)], by decide +kernel⟩,
   ⟨base 1 [(SCR_STATUS.STATE, 0, 8)], by decide +kernel⟩,
   ⟨base 3 [(SCR_STATUS.STATE, 0, 6), (LRX_STATUS.STAGE, 0, 10), (FRM_STATUS.DOVE, 0, 3), (LRX_CTRL.MODE, 0, 5), (LRX_CTRL.RX_EN, 0, 1)], by decide +kernel⟩,
   ⟨base 1 [(SCR_STATUS.STATE, 0, 6)], by decide +kernel⟩,
   ⟨base 1 [(SCR_STATUS.STATE, 0, 7), (SCR_CTRL.AUTO_RENEG, 0, 0)], by decide +kernel⟩,
   ⟨base 1 [(SCR_STATUS.STATE, 0, 7)], by decide +kernel⟩,
   ⟨(71 : Fin 72), base 1 [(VNR_PAGE_ROT.PERIOD, 71, 60)], by decide +kernel⟩⟩

/-- Inputs that meet the hypotheses of each clause of `Obligations.ReferenceCommands` that has any. -/
theorem test_meets_ReferenceCommands :
  Met opRefCfg (fun p _ => (∀ k < 9, wordOk (refCfgRegs.getD k []) (nth p k) = true) ∧ bwOk (REF_DPLL_CFG.BW.raw (nth p 1)) (REF_DPLL_CFG.ACQ_BW.raw (nth p 1)) = true ∧ limitsOk (REF_MON_CFG.ACCEPT.raw (nth p 2)) (REF_MON_CFG.REJECT.raw (nth p 2)) = true) ∧
  Met opRefCandSet (fun p s => nth p 0 ≤ 11 ∧ wordOk REF_CAND_CFG.fields (nth p 1) = true ∧ (nth p 0 < 8 → REF_CAND_FHZ.HZ.inRange (REF_CAND_FHZ.HZ.raw (nth p 2)) = true) ∧ (nth p 0 = 8 ∨ s.refSel ≠ some (nth p 0))) ∧
  Met opRefSelect (fun p _ => nth p 0 ≤ 4 ∧ nth p 1 ≤ 11) ∧
  Met opRefStatus (fun _ _ => True) ∧
  Met opRefOutSet (fun p _ => nth p 0 ≤ 5 ∧ outOk (nth p 0) (REF_OUT_FHZ.HZ.raw (nth p 2)) (REF_OUT_CFG.WIDTH.raw (nth p 1)) = true) ∧
  (∃ (h : CmdHdr) (p : List Word) (s : State), Accepted opRefRealign h p s ∧ nth (p.map (·.toNat)) 0 ≤ 63 ∧ nth (p.map (·.toNat)) 1 = 0 ∧ s.realignOfs 0 (ofPat 32 (nth (p.map (·.toNat)) 2)) = true ∧ s.todValid = true ∧ s.on REF_STATUS.BUILDOUT = false ∧ s.pair.gap = false ∧ s.ref.realign = none) :=
  ⟨met ⟨0, 0, 0, 0⟩ (refCfgRegs.map (fun f => State.reset.word f)) (base 1 []) (by decide +kernel) (by decide +kernel),
   met ⟨0, 0, 0, 0⟩ ([7, State.reset.word REF_CAND_CFG.fields, 10000000]) (base 1 []) (by decide +kernel) (by decide +kernel),
   met ⟨0, 0, 0, 0⟩ ([4, 11]) (base 1 []) (by decide +kernel) (by decide +kernel),
   met ⟨0, 0, 0, 0⟩ ([]) (base 1 []) (by decide +kernel) (trivial),
   met ⟨0, 0, 0, 0⟩ ([5, State.reset.word REF_OUT_CFG.fields, 8000 - 7999, 5]) (base 1 []) (by decide +kernel) (by decide +kernel),
   ⟨(⟨0, 7, 0, 0⟩ : CmdHdr), ([63, 0, 5] : List Word), base 2 [(TOD_STATUS.VALID, 0, 1)], acc (by decide +kernel), by decide +kernel⟩⟩

/-- Inputs that meet the hypotheses of each clause of `Obligations.ReferenceEvents` that has any. -/
theorem test_meets_ReferenceEvents :
  (∃ (m : Mast) (c : Fin 12) (v : BitVec 30) (s : State), s.takes m 10 ∧ c.val < 8 ∧ s.refSel ≠ some c.val ∧ REF_CAND_FHZ.HZ.inRange v.toNat = true) ∧
  (∃ (r : Realign) (s : State), s.ref.realign = some r) ∧
  (∃ (c : Fin 12) (e : Bool) (s : State), c.val < 8 ∧ e ≠ s.refAct c.val) ∧
  (∃ (c : Fin 12) (s : State), s.refAct c.val = true) ∧
  (∃ (c : Fin 12) (s : State), s.refAct c.val = true ∧ s.refQual c.val = false ∧ s.accepts (s.rdI REF_CAND_FREQ.ALL c.val) = true) ∧
  (∃ (s : State) (c : Nat), c ∈ cands ∧ s.refAct c = true ∧ (Tab.get [] s.ref.gates c).length = 32 ∧ 256 * s.rd REF_MON_CFG.RATE < (drift256 (Tab.get [] s.ref.gates c)).natAbs) ∧
  (∃ (s : State), s.on REF_STATUS.BUILDOUT = true) ∧
  (∃ (s : State) (c : Nat), s.refSel = some c ∧ s.rd REF_STATUS.DPLL = 1 ∧ s.on REF_STATUS.BUILDOUT = false) ∧
  (∃ (s : State), s.rd REF_STATUS.DPLL = 2 ∧ s.on REF_STATUS.BUILDOUT = false) ∧
  (∃ (s : State), s.rd REF_STATUS.DPLL = 2) ∧
  (∃ (s : State), s.rd REF_STATUS.DPLL = 3 ∧ s.rd REF_CLAMP_MAX.ALL ≠ 0 ∧ s.on REF_STATUS.CLAMP_EXPIRED = false ∧ s.rd REF_CTRL.SEL_MODE = 3 ∧ s.rd REF_STATUS.SELECTED = 15) ∧
  (∃ (s : State), s.on REF_STATUS.OSC_PRESENT = true) ∧
  (∃ (k : Fin 32) (c : Nat) (s : State), s.isEth k.val = true ∧ c ∈ [9, 10, 11] ∧ s.candLane c ∈ s.lanesOf k.val) ∧
  (∃ (b1 : BitVec 8) (b2 : BitVec 8) (b3 : BitVec 8), crc8 [0x51, b1.toNat, b2.toNat] = b3.toNat ∧ bit b2.toNat 0 = false ∧ 1 ≤ b1.toNat ∧ b1.toNat ≤ 10) ∧
  (∃ (o : Fin 6) (s : State), s.on REF_OUT_CFG.COMPAT o.val = true ∧ s.isPulse (s.rd REF_OUT_CFG.SRC o.val) = true ∧ s.refAct (s.rd REF_OUT_CFG.SRC o.val) = true ∧ bit s.ref.compatDue o.val = true) :=
  ⟨⟨(0 : Mast), (7 : Fin 12), (1000000000 : BitVec 30), base 1 [], by unfold State.takes; decide +kernel⟩,
   ⟨((⟨rn 0x0B06 [63, 0, 5], 63⟩ : Realign) : Realign), { base 1 [] with ref := { realign := some ⟨rn 0x0B06 [63, 0, 5], 63⟩ } }, by decide +kernel⟩,
   ⟨(7 : Fin 12), (true : Bool), base 1 [], by decide +kernel⟩,
   ⟨(7 : Fin 12), base 1 [(REF_CAND_STAT.ACT, 7, 1)], by decide +kernel⟩,
   ⟨(7 : Fin 12), base 1 [(REF_CAND_STAT.ACT, 7, 1)], by decide +kernel⟩,
   ⟨{ base 1 [(REF_CAND_STAT.ACT, 7, 1)] with ref := { gates := [(7, List.replicate 16 1000 ++ List.replicate 16 0)] } }, (7 : Nat), by decide +kernel⟩,
   ⟨base 1 [(REF_STATUS.BUILDOUT, 0, 1)], by decide +kernel⟩,
   ⟨base 1 [(REF_STATUS.DPLL, 0, 1), (REF_STATUS.SELECTED, 0, 7)], (7 : Nat), by decide +kernel⟩,
   ⟨base 1 [(REF_STATUS.DPLL, 0, 2), (REF_STATUS.BUILDOUT, 0, 0)], by decide +kernel⟩,
   ⟨base 1 [(REF_STATUS.DPLL, 0, 2)], by decide +kernel⟩,
   ⟨base 1 [(REF_STATUS.DPLL, 0, 3), (REF_CTRL.SEL_MODE, 0, 3), (REF_CLAMP_MAX.ALL, 0, 5)], by decide +kernel⟩,
   ⟨base 1 [(REF_STATUS.OSC_PRESENT, 0, 1)], by decide +kernel⟩,
   ⟨(31 : Fin 32), (9 : Nat), base 3 [(CLI_CH_CTRL.EN, 31, 1), (CLI_CH_CFG.TYPE, 31, 1), (CLI_CH_CFG.RATE, 31, 1), (CLI_CH_CFG.LANE_BASE, 31, 3), (REF_CAND_CFG.LANE, 9, 3)], by decide +kernel⟩,
   (let b1 : BitVec 8 := 10; let b2 : BitVec 8 := 0; let b3 : BitVec 8 := BitVec.ofNat 8 (crc8 [0x51, 10, 0]); ⟨b1, b2, b3, by decide +kernel⟩),
   ⟨(5 : Fin 6), { base 1 [(REF_OUT_CFG.COMPAT, 5, 1), (REF_OUT_CFG.SRC, 5, 2), (REF_CAND_FHZ.HZ, 2, 1), (REF_CAND_STAT.ACT, 2, 1)] with ref := { compatDue := 63 } }, by decide +kernel⟩⟩

/-- Inputs that meet the hypotheses of each clause of `Obligations.TimeCommands` that has any. -/
theorem test_meets_TimeCommands :
  Met opTodGet (fun _ _ => True) ∧
  Met opTodStep (fun p s => nth p 0 = 0 ∧ s.on TOD_STATUS.BASE_OK = true ∧ s.on TOD_STATUS.STEP_AVAIL = true ∧ s.tod.step = none) ∧
  Met opTodStep (fun p s => nth p 0 = 1 ∧ s.on TOD_STATUS.BASE_OK = true ∧ s.on TOD_STATUS.STEP_AVAIL = true ∧ s.tod.step = none ∧ nth p 1 + nth p 2 * 2 ^ 32 < 2 ^ 48 ∧ nth p 3 < 1000000000) ∧
  Met opTodRearm (fun _ _ => True) ∧
  Met opTodRateSet (fun p s => (ofPat 32 (nth p 0)).natAbs ≤ rateMax.toNat ∧ s.on TOD_SERVO_CFG.EN = false) ∧
  Met opPtpCfg (fun p _ => ∀ k < 4, wordOk (ptpCfgRegs.getD k []) (nth p k) = true) ∧
  Met opPtpPortSet (fun p _ => nth p 0 ≤ 32 ∧ wordOk TOD_PORT_CFG.fields (nth p 1) = true) ∧
  Met opPtpStatus (fun _ _ => True) ∧
  Met opLineDelay (fun _ _ => True) ∧
  Met opAsymAccept (fun p s => nth p 0 = 1 ∧ s.on TOD_STATUS.PATH_ASYM = true ∧ (ofPat 32 (nth p 1) - s.rdI TOD_ASYM_NEW.ALL).natAbs ≤ 200000 * s.rd TOD_LIMITS.JUMP_THR) ∧
  Met opSchedSet (fun p s => nth p 0 ≤ 15 ∧ s.actOk (nth p 3) = true ∧ s.todValid = true ∧ s.lateness (nth p 1 + nth p 2 * 2 ^ 32) < 0) ∧
  (∃ (h : CmdHdr) (p : List Word) (s : State), Accepted opSchedSet h p s ∧ nth (p.map (·.toNat)) 0 ≤ 15 ∧ s.actOk (nth (p.map (·.toNat)) 3) = true ∧ s.todValid = true ∧ 0 ≤ s.lateness (nth (p.map (·.toNat)) 1 + nth (p.map (·.toNat)) 2 * 2 ^ 32) ∧ s.inGrace (s.lateness (nth (p.map (·.toNat)) 1 + nth (p.map (·.toNat)) 2 * 2 ^ 32)) = true ∧ TOD_SCHED_ACT.CODE.raw (nth (p.map (·.toNat)) 3) = 1 ∧ s.pair.gap = false) ∧
  Met opSchedCancel (fun p _ => nth p 0 ≤ 65535) :=
  ⟨met ⟨0, 0, 0, 0⟩ ([]) (base 1 []) (by decide +kernel) (trivial),
   met ⟨0, 0, 0, 0⟩ ([0, 0xFFFFFFFF, 0xFFFFFFFF, 5, 3]) (base 3 [(TOD_STATUS.BASE_OK, 0, 1), (TOD_STATUS.STEP_AVAIL, 0, 1)]) (by decide +kernel) (by decide +kernel),
   met ⟨0, 0, 0, 0⟩ ([1, 5, 0xFFFF, 999999999, 3]) (base 3 [(TOD_STATUS.BASE_OK, 0, 1), (TOD_STATUS.STEP_AVAIL, 0, 1)]) (by decide +kernel) (by decide +kernel),
   met ⟨0, 0, 0, 0⟩ ([]) (base 3 []) (by decide +kernel) (trivial),
   met ⟨0, 0, 0, 0⟩ ([0]) (base 3 []) (by decide +kernel) (by decide +kernel),
   met ⟨0, 0, 0, 0⟩ (ptpCfgRegs.map (fun f => State.reset.word f)) (base 3 []) (by decide +kernel) (by decide +kernel),
   met ⟨0, 0, 0, 0⟩ ([32, State.reset.word TOD_PORT_CFG.fields]) (base 3 []) (by decide +kernel) (by decide +kernel),
   met ⟨0, 0, 0, 0⟩ ([]) (base 1 []) (by decide +kernel) (trivial),
   met ⟨0, 0, 0, 0⟩ ([]) (base 3 []) (by decide +kernel) (trivial),
   met ⟨0, 0, 0, 0⟩ ([1, 5]) (base 3 [(TOD_STATUS.PATH_ASYM, 0, 1), (TOD_ASYM_NEW.ALL, 0, 7), (TOD_STATUS.VALID, 0, 1), (TOD_STATUS.BASE_OK, 0, 1), (TOD_STATUS.FAR_VALID, 0, 1)]) (by decide +kernel) (by decide +kernel),
   met ⟨0, 0, 0, 0⟩ ([15, 5000, 0, 2 ^ 27]) (base 3 [(TOD_STATUS.VALID, 0, 1), (TOD_STATUS.BASE_OK, 0, 1)]) (by decide +kernel) (by decide +kernel),
   ⟨(⟨0, 7, 0, 0⟩ : CmdHdr), ([15, 5000, 0, 2 ^ 27] : List Word), { base 3 [(TOD_STATUS.VALID, 0, 1), (TOD_STATUS.BASE_OK, 0, 1)] with tod := { ns := 6000 } }, acc (by decide +kernel), by decide +kernel⟩,
   met ⟨0, 0, 0, 0⟩ ([65535]) (base 3 [(TOD_SCHED_ACT.ARMED, 15, 1)]) (by decide +kernel) (by decide +kernel)⟩

/-- Inputs that meet the hypotheses of each clause of `Obligations.TimeEvents` that has any. -/
theorem test_meets_TimeEvents :
  (∃ (s : State) (r : TodReq), s.tod.step = some r ∧ r.abs = true ∧ 0 ≤ s.lateness (r.boundary / todUnit)) ∧
  (∃ (s : State) (r : TodReq), s.tod.step = some r ∧ r.abs = false) ∧
  (∃ (e : Fin 16) (s : State), s.on TOD_SCHED_ACT.ARMED e.val = true ∧ 0 ≤ s.lateness (s.rd TOD_SCHED_T.ALL e.val) ∧ s.pair.gap = false) ∧
  (∃ (m : Mast) (s : State), s.takes m 11) ∧
  (∃ (m : Mast) (s : State), s.takes m 11) ∧
  (∃ (s : State), s.dev ≠ 0 ∧ s.on TOD_STATUS.BASE_OK = false) ∧
  (∃ (bs : List (BitVec 8)) (s : State), bs.length = 32 ∧ nth (bs.map (·.toNat)) 0 = 0x54 ∧ crc16 ((bs.map (·.toNat)).take 30) = ofBytes (((bs.map (·.toNat)).drop 30).take 2) ∧ nativeMode (s.rd LRX_CTRL.MODE) = true) ∧
  (∃ (bs : List (BitVec 8)) (s : State), bs.length = 33 ∧ nth (bs.map (·.toNat)) 0 = 0x41 ∧ crc16 ((bs.map (·.toNat)).take 31) = ofBytes ((bs.map (·.toNat)).drop 31) ∧ s.ptpOn 32 = true) ∧
  (∃ (s : State), s.on TOD_STATUS.PATH_ASYM = true ∧ s.tod.wait = none ∧ s.tod.holdOk = true ∧ s.todValid = true ∧ s.on TOD_STATUS.FAR_VALID = true) :=
  ⟨⟨{ base 3 [(TOD_STATUS.STEP_AVAIL, 0, 1)] with tod := { step := some ⟨true, 5 * 10 ^ 9 * 65536, 0⟩ } }, ((⟨true, 5 * 10 ^ 9 * 65536, 0⟩ : TodReq) : TodReq), by decide +kernel⟩,
   ⟨{ base 3 [(TOD_STATUS.STEP_AVAIL, 0, 1)] with tod := { ns := 700, step := some ⟨false, -5, 0⟩ } }, ((⟨false, -5, 0⟩ : TodReq) : TodReq), by decide +kernel⟩,
   (let e : Fin 16 := 0; ⟨e, { base 1 [(TOD_SCHED_ACT.ARMED, e.val, 1)] with pair := { gap := false } }, by decide +kernel⟩),
   ⟨(0 : Mast), base 1 [], by unfold State.takes; decide +kernel⟩,
   ⟨(0 : Mast), base 1 [], by unfold State.takes; decide +kernel⟩,
   ⟨base 1 [(TOD_STATUS.BASE_OK, 0, 0)], by decide +kernel⟩,
   ⟨(0x54 :: 1 :: List.replicate 28 0 ++ (let c := crc16 (0x54 :: 1 :: List.replicate 28 0); [BitVec.ofNat 8 (c / 256), BitVec.ofNat 8 c]) : List (BitVec 8)), base 3 [(LRX_CTRL.MODE, 0, 5), (TOD_STATUS.VALID, 0, 1), (TOD_STATUS.BASE_OK, 0, 1)], by decide +kernel⟩,
   ⟨(0x41 :: List.replicate 30 7 ++ (let c := crc16 (0x41 :: List.replicate 30 7); [BitVec.ofNat 8 (c / 256), BitVec.ofNat 8 c]) : List (BitVec 8)), base 3 [(LRX_CTRL.MODE, 0, 5), (TOD_PORT_CFG.EN, 32, 1), (TOD_STATUS.BASE_OK, 0, 1)], by decide +kernel⟩,
   ⟨base 3 [(TOD_STATUS.PATH_ASYM, 0, 1), (TOD_STATUS.VALID, 0, 1), (TOD_STATUS.FAR_VALID, 0, 1)], by decide +kernel⟩⟩

/-- Inputs that meet the hypotheses of each clause of `Obligations.ClockEvents` that has any. -/
theorem test_meets_ClockEvents :
  (∃ (p : Fin 32) (s : State), s.ptpOn p.val = true ∧ s.on TOD_STATUS.BASE_OK = false) ∧
  (∃ (p : Fin 32) (m : PtpMsg) (s : State), s.ptpOn p.val = true ∧ s.on TOD_STATUS.BASE_OK = true ∧ m.typ.toNat ∉ [0, 1, 8, 9, 11]) ∧
  (∃ (p : Fin 32) (m : PtpMsg) (s : State), s.ptpOn p.val = true ∧ s.on TOD_STATUS.BASE_OK = true ∧ m.domain.toNat = s.rd TOD_PTP_CFG.DOMAIN ∧ m.typ.toNat = 11 ∧ m.body.length = 30) ∧
  (∃ (p : Fin 32) (m : PtpMsg) (s : State), s.ptpOn p.val = true ∧ s.on TOD_STATUS.BASE_OK = true ∧ m.domain.toNat = s.rd TOD_PTP_CFG.DOMAIN ∧ m.typ.toNat = 0 ∧ m.twoStep = false ∧ s.ptpSt p.val = 3) ∧
  (∃ (p : Fin 33) (s : State), p.val < 32 ∧ s.ptpSt p.val = 4 ∧ s.todValid = true ∧ s.on TOD_PORT_CFG.TWO_STEP p.val = false) ∧
  (∃ (p : Fin 33) (s : State), s.ptpOn p.val = true) ∧
  (∃ (s : State) (p : Nat) (off : Nat), s.parent = some p ∧ s.filtered = some off ∧ s.on TOD_SERVO_CFG.EN = true ∧ s.ptpSt p = 3 ∧ s.on TOD_STATUS.PATH_ASYM = false) ∧
  (∃ (s : State) (p : Nat) (off : Nat), s.parent = some p ∧ s.filtered = some off ∧ s.on TOD_SERVO_CFG.EN = true ∧ s.on TOD_STATUS.BASE_OK = true ∧ s.ptpSt p = 2 ∧ s.servoFrozen = false ∧ s.on TOD_STATUS.STEP_AVAIL = true ∧ s.tod.step = none) ∧
  (∃ (s : State), s.servo = 3 ∧ s.rd TOD_STATUS.PARENT = 0) :=
  ⟨⟨(31 : Fin 32), base 3 [(TOD_PORT_CFG.EN, 31, 1), (CLI_CH_CTRL.EN, 31, 1), (CLI_CH_CFG.TYPE, 31, 1)], by decide +kernel⟩,
   ⟨(31 : Fin 32), (({ typ := 2, domain := 0, seq := 1, twoStep := false, corr := 0, time := 5, body := [] } : PtpMsg) : PtpMsg), base 3 [(TOD_PORT_CFG.EN, 31, 1), (CLI_CH_CTRL.EN, 31, 1), (CLI_CH_CFG.TYPE, 31, 1), (TOD_STATUS.BASE_OK, 0, 1)], by decide +kernel⟩,
   ⟨(31 : Fin 32), (({ typ := 11, domain := BitVec.ofNat 8 (State.reset.rd TOD_PTP_CFG.DOMAIN), seq := 1, twoStep := false, corr := 0, time := 5, body := List.replicate 30 9 } : PtpMsg) : PtpMsg), base 3 [(TOD_PORT_CFG.EN, 31, 1), (CLI_CH_CTRL.EN, 31, 1), (CLI_CH_CFG.TYPE, 31, 1), (TOD_STATUS.BASE_OK, 0, 1)], by decide +kernel⟩,
   ⟨(31 : Fin 32), (({ typ := 0, domain := BitVec.ofNat 8 (State.reset.rd TOD_PTP_CFG.DOMAIN), seq := 1, twoStep := false, corr := 0, time := 5, body := [] } : PtpMsg) : PtpMsg), base 3 [(TOD_PORT_CFG.EN, 31, 1), (CLI_CH_CTRL.EN, 31, 1), (CLI_CH_CFG.TYPE, 31, 1), (TOD_STATUS.BASE_OK, 0, 1), (TOD_PORT_STAT.STATE, 31, 3)], by decide +kernel⟩,
   ⟨(31 : Fin 33), base 3 [(TOD_PORT_CFG.EN, 31, 1), (CLI_CH_CTRL.EN, 31, 1), (CLI_CH_CFG.TYPE, 31, 1), (TOD_STATUS.BASE_OK, 0, 1), (TOD_PORT_STAT.STATE, 31, 4), (TOD_STATUS.VALID, 0, 1), (TOD_PORT_CFG.TWO_STEP, 31, 0)], by decide +kernel⟩,
   ⟨(31 : Fin 33), { base 3 [(TOD_PORT_CFG.EN, 31, 1), (CLI_CH_CTRL.EN, 31, 1), (CLI_CH_CFG.TYPE, 31, 1), (TOD_STATUS.BASE_OK, 0, 1)] with tod := { ann := [(31, List.replicate 30 9)] } }, by decide +kernel⟩,
   ⟨{ base 3 [(TOD_SERVO_CFG.EN, 0, 1), (TOD_STATUS.PARENT, 0, 33), (TOD_PORT_STAT.STATE, 32, 3), (TOD_STATUS.BASE_OK, 0, 1), (TOD_STATUS.SERVO, 0, 2)] with tod := { samples := [(7, 50)] } }, (32 : Nat), (50 : Nat), by decide +kernel⟩,
   ⟨{ base 3 [(TOD_SERVO_CFG.EN, 0, 1), (TOD_STATUS.PARENT, 0, 33), (TOD_PORT_STAT.STATE, 32, 2), (TOD_STATUS.BASE_OK, 0, 1)] with tod := { samples := [(7, 50)] } }, (32 : Nat), (50 : Nat), by decide +kernel⟩,
   ⟨base 3 [(TOD_STATUS.SERVO, 0, 3)], by decide +kernel⟩⟩

/-- Inputs that meet the hypotheses of each clause of `Obligations.PairCommands` that has any. -/
theorem test_meets_PairCommands :
  Met opPairCfg (fun p _ => ∀ k < 5, wordOk (pairCfgRegs.getD k []) (nth p k) = true) ∧
  Met opPairStatus (fun _ _ => True) ∧
  Met opPairSwitch (fun p s => nth p 0 = 0 ∧ s.paired ∧ s.role = 2 ∧ s.healthy) ∧
  Met opPairSwitch (fun p s => nth p 0 = 1 ∧ s.paired ∧ s.role = 1 ∧ s.rd PAIR_STATUS.MATE_ROLE = 3) ∧
  Met opPairPromote (fun _ s => s.paired ∧ (s.role = 3 ∨ s.role = 4)) ∧
  Met opPairOos (fun _ _ => True) ∧
  Met opPairReturn (fun _ s => s.role = 0 ∧ s.on PAIR_STATUS.LINK = false) ∧
  Met opPairSnapshot (fun _ s => s.role = 1) ∧
  Met opPairSpares (fun _ _ => True) :=
  ⟨met ⟨0, 0, 0, 0⟩ (pairCfgRegs.map (fun f => State.reset.word f) ++ [5, 6]) (base 1 []) (by decide +kernel) (by decide +kernel),
   met ⟨0, 0, 0, 0⟩ ([]) (base 1 []) (by decide +kernel) (trivial),
   met ⟨0, 0, 0, 0⟩ ([0]) (base 3 [(PAIR_CTRL.EN, 0, 1), (PAIR_STATUS.ROLE, 0, 2)]) (by decide +kernel) (by decide +kernel),
   met ⟨0, 0, 0, 0⟩ ([1]) (base 3 [(PAIR_CTRL.EN, 0, 1), (PAIR_STATUS.ROLE, 0, 1), (PAIR_STATUS.MATE_ROLE, 0, 3), (PAIR_STATUS.LINK, 0, 1)]) (by decide +kernel) (by decide +kernel),
   met ⟨0, 0, 0, 0⟩ ([]) (base 3 [(PAIR_CTRL.EN, 0, 1), (PAIR_STATUS.ROLE, 0, 3)]) (by decide +kernel) (by decide +kernel),
   met ⟨0, 0, 0, 0⟩ ([]) (base 3 [(PAIR_CTRL.EN, 0, 1), (PAIR_STATUS.ROLE, 0, 1)]) (by decide +kernel) (trivial),
   met ⟨0, 0, 0, 0⟩ ([]) (base 1 []) (by decide +kernel) (by decide +kernel),
   met ⟨0, 0, 0, 0⟩ ([]) (base 3 [(PAIR_CTRL.EN, 0, 1), (PAIR_STATUS.ROLE, 0, 1), (PAIR_STATUS.LINK, 0, 1)]) (by decide +kernel) (by decide +kernel),
   met ⟨0, 0, 0, 0⟩ ([]) (base 1 []) (by decide +kernel) (trivial)⟩

/-- Inputs that meet the hypotheses of each clause of `Obligations.PairLinkEvents` that has any. -/
theorem test_meets_PairLinkEvents :
  (∃ (s : State), s.paired) ∧
  (∃ (s : State), s.paired ∧ s.on PAIR_STATUS.LINK ∧ s.role = 0) ∧
  (∃ (s : State), s.on PAIR_STATUS.LINK ∧ s.role = 2 ∧ s.pair.death = false) ∧
  (∃ (x : MateHello) (s : State), s.paired ∧ s.on PAIR_STATUS.LINK = false ∧ s.role = 2 ∧ x.id.toNat = s.rd PAIR_MATE_ID.ALL ∧ x.certOk ∧ x.sigOk ∧ x.fmt = s.snapFmt) ∧
  (∃ (s : State), s.pair.retry) ∧
  (∃ (s : State), s.paired ∧ s.dev = 5) ∧
  (∃ (us : Nat) (s : State), s.on PAIR_STATUS.PEG ∧ s.role = 1 ∧ pegCode us ≠ 0 ∧ s.pair.pegCand = pegCode us ∧ 1 ≤ s.pair.pegRun) ∧
  (∃ (s : State), s.on PAIR_STATUS.PEG ∧ s.role = 1) ∧
  (∃ (s : State), s.pair.death ∧ s.role = 2 ∧ s.on PAIR_STATUS.LINK = false ∧ s.on PAIR_STATUS.PEG) ∧
  (∃ (j : Word) (off : BitVec 26) (s : State), s.paired ∧ s.on PAIR_STATUS.LINK ∧ s.role = 2 ∧ s.pair.held = [] ∧ s.rd PAIR_JSEQ.ALL < 2 ^ 32 - 2 ∧ j.toNat = s.rd PAIR_JSEQ.ALL + 1 ∧ findReg (off.toNat / 4 * 4) = none) ∧
  (∃ (j : Word) (s : State), s.paired ∧ s.on PAIR_STATUS.LINK ∧ s.role = 2 ∧ s.pair.held = [] ∧ s.rd PAIR_JSEQ.ALL < 2 ^ 31 ∧ j.toNat = s.rd PAIR_JSEQ.ALL + 2) ∧
  (∃ (s : State), s.paired ∧ s.role = 2 ∧ s.pair.wait = none) ∧
  (∃ (s : State) (e : JEntry), s.paired ∧ s.role = 1 ∧ s.on PAIR_STATUS.LINK ∧ s.pair.kept = [e] ∧ jAfter e.jseq (s.rd PAIR_JACK.ALL)) ∧
  (∃ (s : State), s.paired ∧ s.role = 1 ∧ s.on PAIR_STATUS.LINK) ∧
  (∃ (x : Snapshot) (s : State), s.paired ∧ s.on PAIR_STATUS.LINK ∧ s.role = 3 ∧ x.digestOk ∧ x.items = [] ∧ s.pair.held = [] ∧ s.pair.unresHold = false) ∧
  (∃ (s : State), s.paired ∧ s.role = 3 ∧ s.pair.snapFails < 2) :=
  ⟨⟨base 1 [(PAIR_CTRL.EN, 0, 1)], by decide +kernel⟩,
   ⟨base 1 [(PAIR_CTRL.EN, 0, 1), (PAIR_STATUS.LINK, 0, 1), (PAIR_STATUS.ROLE, 0, 0)], by decide +kernel⟩,
   ⟨{ base 1 [(PAIR_STATUS.LINK, 0, 1), (PAIR_STATUS.ROLE, 0, 2)] with pair := { death := false } }, by decide +kernel⟩,
   ⟨(({ id := 9, certOk := true, sigOk := true, fmt := State.reset.snapFmt, role := 1, primary := true, activeMs := 5, pub := [1], nonce := [2] } : MateHello) : MateHello), base 3 [(PAIR_CTRL.EN, 0, 1), (PAIR_STATUS.LINK, 0, 0), (PAIR_STATUS.ROLE, 0, 2), (PAIR_MATE_ID.ALL, 0, 9)], by decide +kernel⟩,
   ⟨{ base 3 [(PAIR_CTRL.EN, 0, 1)] with pair := { retry := true } }, by decide +kernel⟩,
   ⟨base 5 [(PAIR_CTRL.EN, 0, 1)], by decide +kernel⟩,
   ⟨(300 : Nat), { base 3 [(PAIR_CTRL.EN, 0, 1), (PAIR_STATUS.ROLE, 0, 1), (PAIR_STATUS.PEG, 0, 1)] with pair := { pegCand := 2, pegRun := 1 } }, by decide +kernel⟩,
   ⟨base 1 [(PAIR_STATUS.PEG, 0, 1), (PAIR_STATUS.ROLE, 0, 1)], by decide +kernel⟩,
   ⟨{ base 1 [(PAIR_STATUS.ROLE, 0, 2), (PAIR_STATUS.LINK, 0, 0), (PAIR_STATUS.PEG, 0, 1)] with pair := { death := true } }, by decide +kernel⟩,
   ⟨(1 : Word), (0x3FFFFFC : BitVec 26), base 3 [(PAIR_CTRL.EN, 0, 1), (PAIR_STATUS.ROLE, 0, 2), (PAIR_STATUS.LINK, 0, 1)], by decide +kernel⟩,
   ⟨(2 : Word), base 3 [(PAIR_CTRL.EN, 0, 1), (PAIR_STATUS.ROLE, 0, 2), (PAIR_STATUS.LINK, 0, 1)], by decide +kernel⟩,
   ⟨{ base 1 [(PAIR_CTRL.EN, 0, 1), (PAIR_STATUS.ROLE, 0, 2)] with pair := { wait := none } }, by decide +kernel⟩,
   ⟨{ base 3 [(PAIR_CTRL.EN, 0, 1), (PAIR_STATUS.ROLE, 0, 1), (PAIR_STATUS.LINK, 0, 1)] with pair := { kept := [⟨3, 1, 2, [5, 6]⟩] } }, ((⟨3, 1, 2, [5, 6]⟩ : JEntry) : JEntry), by decide +kernel⟩,
   ⟨base 1 [(PAIR_CTRL.EN, 0, 1), (PAIR_STATUS.ROLE, 0, 1), (PAIR_STATUS.LINK, 0, 1)], by decide +kernel⟩,
   ⟨(({ epoch := 4, cut := 9, sf := 3, since := 2, digestOk := true, items := [] } : Snapshot) : Snapshot), base 3 [(PAIR_CTRL.EN, 0, 1), (PAIR_STATUS.ROLE, 0, 3), (PAIR_STATUS.LINK, 0, 1)], by decide +kernel⟩,
   ⟨base 1 [(PAIR_CTRL.EN, 0, 1), (PAIR_STATUS.ROLE, 0, 3)], by decide +kernel⟩⟩

/-- Inputs that meet the hypotheses of each clause of `Obligations.PairSwitchEvents` that has any. -/
theorem test_meets_PairSwitchEvents :
  (∃ (m : Mast) (s : State), s.takes m 12) ∧
  (∃ (s : State), s.paired ∧ s.role = 2) ∧
  (∃ (s : State), s.pair.gap) ∧
  (∃ (d : Fin 2) (g : BitVec 22 × BitVec 64 × Bool) (s : State), s.comparing d.val ∧ Tab.get [] s.pair.digs d.val = [⟨g.1.toNat, g.2.1.toNat, false, true⟩] ∧ g.2.2 = false) ∧
  (∃ (d : Fin 2) (f : BitVec 22) (s : State), (Tab.get [] s.pair.digs d.val).any (fun x => x.ftag == f.toNat)) ∧
  (∃ (s : State), s.on PAIR_STATUS.IDENT ∧ s.role = 1) ∧
  (∃ (s : State), s.on PAIR_STATUS.WTR_RUN) ∧
  (∃ (s : State), s.paired ∧ s.role = 2) ∧
  (∃ (s : State), s.paired ∧ s.on PAIR_STATUS.LINK ∧ s.role = 2 ∧ s.on TOD_STATUS.BASE_OK ∧ s.on TOD_STATUS.STEP_AVAIL = false) :=
  ⟨⟨(0 : Mast), base 1 [], by unfold State.takes; decide +kernel⟩,
   ⟨base 1 [(PAIR_CTRL.EN, 0, 1), (PAIR_STATUS.ROLE, 0, 2)], by decide +kernel⟩,
   ⟨{ base 1 [] with pair := { gap := true } }, by decide +kernel⟩,
   ⟨(0 : Fin 2), (((5 : BitVec 22), (7 : BitVec 64), false) : BitVec 22 × BitVec 64 × Bool), { base 3 [(PAIR_CTRL.EN, 0, 1), (PAIR_STATUS.ROLE, 0, 2), (PAIR_STATUS.MATE_ROLE, 0, 1), (PAIR_STATUS.LINK, 0, 1), (PAIR_CTRL.CMP_TX, 0, 1)] with pair := { digs := [(0, [⟨5, 7, false, true⟩])] } }, by decide +kernel⟩,
   ⟨(0 : Fin 2), (5 : BitVec 22), { base 3 [(PAIR_CTRL.EN, 0, 1), (PAIR_STATUS.ROLE, 0, 2), (PAIR_STATUS.MATE_ROLE, 0, 1), (PAIR_STATUS.LINK, 0, 1), (PAIR_CTRL.CMP_TX, 0, 1)] with pair := { digs := [(0, [⟨5, 7, false, true⟩])] } }, by decide +kernel⟩,
   ⟨base 1 [(PAIR_STATUS.IDENT, 0, 1), (PAIR_STATUS.ROLE, 0, 1)], by decide +kernel⟩,
   ⟨base 1 [(PAIR_STATUS.WTR_RUN, 0, 1)], by decide +kernel⟩,
   ⟨base 1 [(PAIR_CTRL.EN, 0, 1), (PAIR_STATUS.ROLE, 0, 2)], by decide +kernel⟩,
   ⟨base 3 [(PAIR_CTRL.EN, 0, 1), (PAIR_STATUS.LINK, 0, 1), (PAIR_STATUS.ROLE, 0, 2), (TOD_STATUS.BASE_OK, 0, 1), (TOD_STATUS.STEP_AVAIL, 0, 0)], by decide +kernel⟩⟩

/-- Inputs that meet the hypotheses of each clause of `Obligations.GaugeCommands` that has any. -/
theorem test_meets_GaugeCommands :
  Met opMonCfg (fun p s => nth p 0 ≤ 1 ∧ wordOk MON_CHAIN.fields (nth p 2) = true ∧ pwOk (MON_TRIG.PW_MIN.raw (nth p 3)) (MON_TRIG.PW_MAX.raw (nth p 3)) = true ∧ MON_PERIOD.PERIOD.inRange (MON_PERIOD.PERIOD.raw (nth p 5)) = true ∧ (nth p 0 = 0 → s.m0Bias = false)) ∧
  Met opMonStart (fun p s => nth p 0 ≤ 1 ∧ nth p 1 ≤ 1 ∧ (nth p 0 = 0 → s.m0Bias = false)) ∧
  Met opMonRead (fun p s => s.plain ∧ nth p 0 ≤ 1 ∧ 1 ≤ nth p 1 ∧ nth p 1 ≤ 256 ∧ (nth p 0 = 0 → s.m0Bias = false) ∧ Tab.get [] s.mon.queues (nth p 0) ≠ []) ∧
  Met opMonTrigger (fun p s => nth p 0 = 2 ∧ 1 ∈ s.triggerable 2 ∧ s.rd MON_TRIG_TIME.DELAY 1 ≠ 0) ∧
  Met opMonSyscal (fun p s => nth p 0 = 1 ∧ 24 ≤ nth p 1 ∧ nth p 1 ≤ 31 ∧ 8 ≤ nth p 3 ∧ nth p 3 ≤ 14 ∧ s.on MON_STATUS.SYSCAL = false ∧ s.interleaved = false) ∧
  Met opMonStatus (fun _ _ => True) :=
  ⟨met ⟨0, 0, 0, 0⟩ ([1, 0x10, State.reset.word MON_CHAIN.fields 1, State.reset.word MON_TRIG.fields 1, 5, State.reset.word [MON_PERIOD.PERIOD] 1, 0]) (base 1 []) (by decide +kernel) (by decide +kernel),
   met ⟨0, 0, 0, 0⟩ ([1, 1]) (base 1 []) (by decide +kernel) (by decide +kernel),
   met ⟨0, 0, 0, 0⟩ ([1, 256]) ({ base 3 [] with mon := { queues := [(1, [5, 6])] } }) (by decide +kernel) (by unfold State.plain; decide +kernel),
   met ⟨0, 0, 0, 0⟩ ([2]) (base 3 [(MON_CTRL.EN1, 0, 1), (MON_TRIG.SRC, 1, 3), (MON_SCAN.ALL, 1, 4), (MON_TRIG_TIME.DELAY, 1, 5)]) (by decide +kernel) (by decide +kernel),
   met ⟨0, 0, 0, 0⟩ ([1, 31, 0, 14]) (base 3 []) (by decide +kernel) (by decide +kernel),
   met ⟨0, 0, 0, 0⟩ ([]) (base 1 []) (by decide +kernel) (trivial)⟩

/-- Inputs that meet the hypotheses of each clause of `Obligations.GaugeEvents` that has any. -/
theorem test_meets_GaugeEvents :
  (∃ (r : Running) (s : State), s.mon.cal = some r ∧ nth r.par 0 = 1) ∧
  (∃ (m : Mast) (s : State), s.takes m 13) ∧
  (∃ (m : Mast) (s : State), s.takes m 13 ∧ s.m0Bias = false ∧ s.on MON_STATUS.SYSCAL = false) ∧
  (∃ (m : Fin 2) (s : State), s.ownTrigger m.val = true ∧ s.rd MON_TRIG.SRC m.val = 1 ∧ s.monRuns m.val = true ∧ (s.mon.mod m.val).active = false ∧ (s.mon.mod m.val).delay = false ∧ s.on MON_STATUS.SYSCAL = false ∧ s.rd MON_TRIG_TIME.DELAY m.val ≠ 0) ∧
  (∃ (m : Fin 2) (s : State), s.ownTrigger m.val = true ∧ s.rd MON_TRIG.SRC m.val = 1 ∧ s.monRuns m.val = true ∧ (s.mon.mod m.val).active = true) ∧
  (∃ (ns : Nat) (s : State), s.ltx.dsync = some ns ∧ s.interleaved = true ∧ s.rd MON_TRIG.SRC 0 = 2 ∧ s.rd MON_TRIG.PW_MIN 0 ≤ ns / 10 ∧ ns / 10 ≤ s.rd MON_TRIG.PW_MAX 0 ∧ s.monRuns 0 = true ∧ (s.mon.mod 0).active = false ∧ (s.mon.mod 0).delay = false ∧ s.on MON_STATUS.SYSCAL = false) ∧
  (∃ (m : Fin 2) (s : State), (s.mon.mod m.val).delay = true) ∧
  (∃ (m : Fin 2) (s : State), s.on MON_STATUS.SYSCAL = false ∧ s.monRuns m.val = true ∧ s.m0Bias = false ∧ (s.mon.mod m.val).restart = true) ∧
  (∃ (m : Fin 2) (s : State), s.on MON_STATUS.SYSCAL = false ∧ s.monRuns m.val = true ∧ s.m0Bias = false ∧ (s.mon.mod m.val).restart = false ∧ (s.mon.mod m.val).active = false ∧ (s.mon.mod m.val).delay = true) :=
  ⟨⟨(rn 0x0E05 [1, 31, 0, 14] : Running), { base 1 [(MON_STATUS.SYSCAL, 0, 1)] with mon := { cal := some (rn 0x0E05 [1, 31, 0, 14]) } }, by decide +kernel⟩,
   ⟨(0 : Mast), base 1 [], by unfold State.takes; decide +kernel⟩,
   ⟨(0 : Mast), base 1 [(MON_STATUS.SYSCAL, 0, 0)], by unfold State.takes; decide +kernel⟩,
   ⟨(1 : Fin 2), base 3 [(MON_CTRL.EN1, 0, 1), (MON_TRIG.SRC, 1, 1), (MON_SCAN.ALL, 1, 4), (MON_TRIG_TIME.DELAY, 1, 5)], by decide +kernel⟩,
   ⟨(1 : Fin 2), { base 3 [(MON_CTRL.EN1, 0, 1), (MON_TRIG.SRC, 1, 1), (MON_SCAN.ALL, 1, 4)] with mon := { mods := [(1, { active := true })] } }, by decide +kernel⟩,
   ⟨(100 : Nat), { base 3 [(MON_CTRL.INTERLEAVE, 0, 1), (MON_CTRL.EN0, 0, 1), (MON_TRIG.SRC, 0, 2), (MON_TRIG.PW_MIN, 0, 1), (MON_TRIG.PW_MAX, 0, 200), (MON_SCAN.ALL, 0, 4)] with ltx := { dsync := some 100 } }, by decide +kernel⟩,
   ⟨(1 : Fin 2), { base 3 [(MON_CTRL.EN1, 0, 1)] with mon := { mods := [(1, { delay := true, seq := 15 })] } }, by decide +kernel⟩,
   ⟨(1 : Fin 2), { base 3 [(MON_CTRL.EN1, 0, 1), (MON_SCAN.ALL, 1, 4)] with mon := { mods := [(1, { restart := true })] } }, by decide +kernel⟩,
   ⟨(1 : Fin 2), { base 3 [(MON_CTRL.EN1, 0, 1), (MON_SCAN.ALL, 1, 4)] with mon := { mods := [(1, { delay := true })] } }, by decide +kernel⟩⟩

/-- Inputs that meet the hypotheses of each clause of `Obligations.ObserveCommands` that has any. -/
theorem test_meets_ObserveCommands :
  Met opObsSnapshot (fun _ _ => True) ∧
  Met opObsCntRead (fun p _ => 1 ≤ nth p 1 ∧ nth p 1 ≤ 256 ∧ nth p 0 + nth p 1 ≤ 2048 ∧ nth p 2 = 0) ∧
  Met opObsCntPreset (fun p _ => p.length = 3 ∧ assigned (nth p 0) = true ∧ nth p 0 ≤ 2047 ∧ nth p 2 ≤ 65535 ∧ nth p 0 ≠ 64) ∧
  Met opObsEvtRoute (fun p _ => (routeOf (nth p 0)).isSome = true) ∧
  Met opObsDumpCfg (fun p _ => wordOk [OBS_DUMP_PERIOD.PERIOD] (nth p 1) = true) ∧
  Met opObsBwCfg (fun p _ => nth p 0 ≤ 15 ∧ wordOk OBS_BW_CFG.fields (nth p 1) = true) ∧
  Met opCapCfg (fun p s => s.capOk (nth p 0) = true ∧ s.rd OBS_CAP_STAT.SOFT_STATE ≠ 0 ∧ postOk s.slots (nth p 1) = true) ∧
  Met opCapTrigger (fun p s => nth p 0 ≤ 7 ∧ s.on OBS_TRIG_CFG.RAW (nth p 0) = true ∧ s.rd OBS_CAP_STAT.RAW_STATE = 1) ∧
  Met opCapRead (fun p s => nth p 0 = 1 ∧ s.obs.capRead = none ∧ s.rd OBS_CAP_STAT.RAW_STATE = 3 ∧ nth p 3 + 2 ^ 32 * nth p 4 + (nth p 5 + 2 ^ 32 * nth p 6) ≤ 134217728) ∧
  Met opCapRearm (fun p s => (nth p 0 = 1 ∨ nth p 0 = 2) ∧ s.rd (capState (nth p 0 == 2)) = 3) ∧
  Met opRecCfg (fun p _ => wordOk OBS_REC_CFG.fields (nth p 0) = true) ∧
  Met opRecRead (fun p s => (nth p 0 = 1 ∨ nth p 0 = 2) ∧ s.obs.recRead = none) ∧
  Met opRecHold (fun p s => nth p 1 = 0 ∧ (s.obs.wins.find? (fun w => w.num = nth p 0)).isSome = true) ∧
  Met opRecStatus (fun _ _ => True) :=
  ⟨met ⟨0, 0, 0, 0⟩ ([]) (base 1 []) (by decide +kernel) (trivial),
   met ⟨0, 0, 0, 0⟩ ([1792, 256, 0]) (base 3 []) (by decide +kernel) (by decide +kernel),
   met ⟨0, 0, 0, 0⟩ ([647, 0xFFFFFFFF, 0xFFFF]) (base 3 []) (by decide +kernel) (by decide +kernel),
   met ⟨0, 0, 0, 0⟩ ([0x0101, 0x1F]) (base 3 []) (by decide +kernel) (by decide +kernel),
   met ⟨0, 0, 0, 0⟩ ([State.reset.word OBS_DUMP_CFG.fields, State.reset.word [OBS_DUMP_PERIOD.PERIOD], 5]) (base 3 []) (by decide +kernel) (by decide +kernel),
   met ⟨0, 0, 0, 0⟩ ([15, State.reset.word OBS_BW_CFG.fields 15]) (base 3 []) (by decide +kernel) (by decide +kernel),
   met ⟨0, 0, 0, 0⟩ ([47 * 2 ^ 10 + 0xFFFF0000, State.reset.word [OBS_CAP_POST.RAW_POST], 0, 0, 0, 0, 0, 0, 0, 1]) (base 3 [(OBS_CAP_STAT.SOFT_STATE, 0, 1)]) (by decide +kernel) (by decide +kernel),
   met ⟨0, 0, 0, 0⟩ ([7]) (base 3 [(OBS_TRIG_CFG.RAW, 7, 1), (OBS_CAP_STAT.RAW_STATE, 0, 1)]) (by decide +kernel) (by decide +kernel),
   met ⟨0, 0, 0, 0⟩ ([1, 0, 0, 5, 0, 134217723, 0]) (base 3 [(OBS_CAP_STAT.RAW_STATE, 0, 3)]) (by decide +kernel) (by decide +kernel),
   met ⟨0, 0, 0, 0⟩ ([2]) (base 3 [(OBS_CAP_STAT.SOFT_STATE, 0, 3)]) (by decide +kernel) (by decide +kernel),
   met ⟨0, 0, 0, 0⟩ ([State.reset.word OBS_REC_CFG.fields]) (base 1 []) (by decide +kernel) (by decide +kernel),
   met ⟨0, 0, 0, 0⟩ ([2, 0, 0, 0, 0, 0, 0, 0]) (base 3 []) (by decide +kernel) (by decide +kernel),
   met ⟨0, 0, 0, 0⟩ ([5, 0]) ({ base 3 [] with obs := { wins := [⟨5, false, 9, true, true⟩] } }) (by decide +kernel) (by decide +kernel),
   met ⟨0, 0, 0, 0⟩ ([]) (base 1 []) (by decide +kernel) (trivial)⟩

/-- Inputs that meet the hypotheses of each clause of `Obligations.ObserveEvents` that has any. -/
theorem test_meets_ObserveEvents :
  (∃ (m : Mast) (s : State), s.takes m 14) ∧
  (∃ (m : Mast) (s : State), s.takes m 14) ∧
  (∃ (m : Mast) (s : State), s.takes m 14) ∧
  (∃ (m : Mast) (j : BitVec 11) (s : State), s.takes m 14 ∧ assigned j.toNat = true ∧ j.toNat ≠ 64) ∧
  (∃ (m : Mast) (s : State), s.takes m 14) ∧
  (∃ (s : State), s.on OBS_DUMP_CFG.EN = true) ∧
  (∃ (w : Fin 16) (s : State), s.on OBS_BW_CFG.EN w.val = true ∧ Tab.get 0 s.obs.bwDiscard w.val ≠ 1) ∧
  (∃ (k : Fin 8) (s : State), s.on OBS_TRIG_CFG.SOFT k.val = true ∧ s.rd OBS_CAP_STAT.SOFT_STATE = 1) ∧
  (∃ (soft : Bool) (s : State), s.rd (capState soft) = 2 ∧ s.on OBS_CAP_CFG.DRAIN_AUTO = false) ∧
  (∃ (n : Nat) (s : State), s.obs.rawWin = some n) ∧
  (∃ (s : State) (y : KeyGen), s.rd OBS_REC_STAT.DRIVES_OK ≠ 0 ∧ s.on SEC_STATUS.KEEPER_ALARM = false ∧ (s.vnr.slot 0 (s.rd VNR_PAGE_STAT.TX_KP 0)).cur = some y) ∧
  (∃ (s : State), s.sys.coalDue = false) ∧
  (∃ (s : State) (r : Running), s.obs.capRead = some r) ∧
  (∃ (s : State) (r : Running), s.obs.recRead = some r) :=
  ⟨⟨(0 : Mast), base 1 [], by unfold State.takes; decide +kernel⟩,
   ⟨(0 : Mast), base 1 [], by unfold State.takes; decide +kernel⟩,
   ⟨(0 : Mast), base 1 [], by unfold State.takes; decide +kernel⟩,
   ⟨(0 : Mast), (647 : BitVec 11), base 1 [(OBS_PRESET_VAL.ALL, 0, 77)], by unfold State.takes; decide +kernel⟩,
   ⟨(0 : Mast), base 1 [], by unfold State.takes; decide +kernel⟩,
   ⟨base 1 [(OBS_DUMP_CFG.EN, 0, 1)], by decide +kernel⟩,
   (let w : Fin 16 := 0; ⟨w, base 1 [(OBS_BW_CFG.EN, w.val, 1)], by decide +kernel⟩),
   (let k : Fin 8 := 0; ⟨k, base 1 [(OBS_TRIG_CFG.SOFT, k.val, 1), (OBS_CAP_STAT.SOFT_STATE, 0, 1)], by decide +kernel⟩),
   ⟨(true : Bool), base 3 [(OBS_CAP_STAT.SOFT_STATE, 0, 2), (OBS_CAP_CFG.DRAIN_AUTO, 0, 0)], by decide +kernel⟩,
   ⟨(4 : Nat), { base 3 [(OBS_CAP_STAT.RAW_STATE, 0, 4)] with obs := { rawWin := some 4, wins := [⟨4, false, 9, true, false⟩] } }, by decide +kernel⟩,
   ⟨{ base 3 [(OBS_REC_STAT.DRIVES_OK, 0, 3)] with vnr := { slots := [(0, { cur := some { gen := 1, key := [1], salt := 2 } })] } }, (({ gen := 1, key := [1], salt := 2 } : KeyGen) : KeyGen), by decide +kernel⟩,
   ⟨{ base 1 [] with sys := { coalDue := false } }, by decide +kernel⟩,
   ⟨{ base 3 [] with obs := { capRead := some (rn 0x0F09 [1, 0, 0, 5, 0, 100, 0]) } }, (rn 0x0F09 [1, 0, 0, 5, 0, 100, 0] : Running), by decide +kernel⟩,
   ⟨{ base 3 [] with obs := { recRead := some (rn 0x0F0C [2, 0, 0, 0, 0, 0, 0, 0]) } }, (rn 0x0F0C [2, 0, 0, 0, 0, 0, 0, 0] : Running), by decide +kernel⟩⟩

/-- Inputs that meet the hypotheses of each clause of `Obligations.SystemCommands` that has any. -/
theorem test_meets_SystemCommands :
  Met opIdentify (fun _ _ => True) ∧
  Met opStatus (fun _ _ => True) ∧
  Met opSysStateSet (fun p s => s.stateOk (nth p 0) = true) ∧
  Met opSysSessionOpen (fun _ s => s.cmd.sessions.length < 16) ∧
  Met opSysSessionClose (fun p s => nth p 0 ∈ s.cmd.sessions) ∧
  Met opSysSlotRelease (fun p s => s.plain ∧ nth p 0 ≤ 65535 ∧ 1 ≤ nth p 1 ∧ nth p 1 ≤ 1024) ∧
  Met opSysRegAccess (fun p s => s.plain ∧ ∀ i < p.length / 3, nth p (3 * i + 1) = 1 ∧ nth p (3 * i) < 0x4000000) ∧
  Met opBattenStatus (fun _ _ => True) ∧
  Met opEngStatus (fun _ _ => True) ∧
  Met opEngCfg (fun p _ => wordOk [ENG_WDOG.PERIOD] (nth p 0) = true ∧ wordOk [ENG_FW_CFG.PROBATION] (nth p 1) = true) ∧
  Met opFwStage (fun _ s => s.eng.stage = none ∧ s.eng.update = none) ∧
  Met opFwActivate (fun _ s => s.eng.staged.isSome = true ∧ s.eng.update = none ∧ s.eng.stage = none ∧ s.eng.migs = [] ∧ s.paired = false ∧ (∀ c < 7, ∃ k < 8, s.rd ENG_CORE.STATE (8 * c + k) = 1) ∧ ∃ e < 56, s.rd ENG_CORE.STATE e = 0) ∧
  Met opFwCommit (fun _ s => s.eng.staged.isSome = true ∧ s.eng.update = none ∧ s.eng.stage = none) ∧
  Met opSbxLoad (fun p s => s.eng.sbxLoad = none ∧ s.lifecycle ≠ 3 ∧ sbxMaskOk (nth p 3) = true) ∧
  Met opSbxCtrl (fun p s => sbxMaskOk (nth p 2) = true ∧ nth p 3 = 0 ∧ (sbxOf (nth p 2)).all s.eng.sbxTasks.contains = true ∧ wordOk ENG_SBX_CFG.fields (nth p 0) = true ∧ s.sbxFits (nth p 0) = true) ∧
  (∃ (taken : Nat) (posted : List (List (BitVec 8))), Met (opSbxMsg taken posted) (fun p s => nth p 0 ∈ s.eng.sbxTasks ∧ 1 < p.length ∧ ((Tab.get [] s.eng.sbxIn (nth p 0)).drop taken).length < 16)) :=
  ⟨met ⟨0, 0, 0, 0⟩ ([]) (base 1 []) (by decide +kernel) (trivial),
   met ⟨0, 0, 0, 0⟩ ([]) (base 1 []) (by decide +kernel) (trivial),
   met ⟨0, 0, 0, 0⟩ ([3]) (base 2 []) (by decide +kernel) (by decide +kernel),
   met ⟨0, 0, 0, 0⟩ ([]) (base 1 []) (by decide +kernel) (by decide +kernel),
   met ⟨0, 0, 0, 0⟩ ([5]) ({ base 3 [] with cmd := { sessions := [5] } }) (by decide +kernel) (by decide +kernel),
   met ⟨0, 0, 0, 0⟩ ([65535, 1024]) ({ base 3 [] with cmd := { slots := [(0, some ⟨rn 1 [], some ⟨0, 0, 1, 5, 0, 0, 0, 3, [], false⟩⟩)] } }) (by decide +kernel) (by unfold State.plain; decide +kernel),
   met ⟨0, 0, 0, 0⟩ ([0x3FFFFFF, 1, 0, 0, 1, 0]) (base 3 []) (by decide +kernel) (by unfold State.plain; decide +kernel),
   met ⟨0, 0, 0, 0⟩ ([]) (base 1 []) (by decide +kernel) (trivial),
   met ⟨0, 0, 0, 0⟩ ([]) (base 1 []) (by decide +kernel) (trivial),
   met ⟨0, 0, 0, 0⟩ ([State.reset.word [ENG_WDOG.PERIOD], State.reset.word [ENG_FW_CFG.PROBATION]]) (base 1 []) (by decide +kernel) (by decide +kernel),
   met ⟨0, 0, 0, 0⟩ ([1, 2, 3]) (base 3 []) (by decide +kernel) (by decide +kernel),
   met ⟨0, 0, 0, 0⟩ ([]) ({ base 3 [] with eng := { staged := some ⟨[], []⟩ } }) (by decide +kernel) (by decide +kernel),
   met ⟨0, 0, 0, 0⟩ ([]) ({ base 3 [] with eng := { staged := some ⟨[], []⟩ } }) (by decide +kernel) (by decide +kernel),
   met ⟨0, 0, 0, 0⟩ ([1, 2, 3, 127]) (base 4 []) (by decide +kernel) (by decide +kernel),
   met ⟨0, 0, 0, 0⟩ ([State.reset.word ENG_SBX_CFG.fields, 0, 64, 0]) ({ base 3 [(ENG_CORE.STATE, 62, 0), (OBS_CAP_CFG.SOFT_GB, 0, 5)] with eng := { sbxTasks := [62] } }) (by decide +kernel) (by decide +kernel),
   ⟨1, [[1, 2]], met ⟨0, 0, 0, 0⟩ ([5, 7]) ({ base 3 [] with eng := { sbxTasks := [5] } }) (by decide +kernel) (by decide +kernel)⟩⟩

/-- Inputs that meet the hypotheses of each clause of `Obligations.EngineEvents` that has any. -/
theorem test_meets_EngineEvents :
  (∃ (e : Fin 64) (s : State), s.engRuns e.val = true ∧ e.val < 56 ∧ s.eng.update = none) ∧
  (∃ (e : Fin 64) (s : State), s.engRuns e.val = true ∧ e.val < 56 ∧ s.eng.update = none) ∧
  (∃ (e : Fin 64) (s : State), 56 ≤ e.val ∧ s.rd ENG_CORE.STATE e.val = 0) ∧
  (∃ (e : Fin 64) (s : State), s.engRuns e.val = true) ∧
  (∃ (sp : Fin 64) (m : Migration) (s : State), s.migBy sp.val = some m ∧ m.resumed = false) ∧
  (∃ (e : Fin 64) (s : State), s.rd ENG_CORE.STATE e.val = 4) ∧
  (∃ (e : Fin 64) (s : State), s.rd ENG_CORE.STATE e.val = 3 ∧ s.migOf e.val = none) ∧
  (∃ (c : Fin 8) (s : State), c.val < 7 ∧ s.dev ≠ 0 ∧ s.dev ≠ 5) ∧
  (∃ (r : Running) (s : State), s.eng.stage = some r) ∧
  (∃ (u : FwUpdate) (w : Nat × Nat) (ws : List (Nat × Nat)) (s : State), s.eng.update = some u ∧ u.probation = true ∧ u.swaps = w :: ws) ∧
  (∃ (r : Running) (mask : Nat) (s : State), s.eng.sbxLoad = some (r, mask)) :=
  ⟨⟨(0 : Fin 64), { base 1 [] with eng := { update := none } }, by decide +kernel⟩,
   ⟨(0 : Fin 64), { base 1 [] with eng := { update := none } }, by decide +kernel⟩,
   ⟨(60 : Fin 64), base 3 [(ENG_CORE.STATE, 60, 0)], by decide +kernel⟩,
   ⟨(0 : Fin 64), base 1 [], by decide +kernel⟩,
   ⟨(7 : Fin 64), ((⟨0, 7, 0, false, true⟩ : Migration) : Migration), { base 3 [] with eng := { migs := [⟨0, 7, 0, false, true⟩] } }, by decide +kernel⟩,
   (let e : Fin 64 := 0; ⟨e, base 1 [(ENG_CORE.STATE, e.val, 4)], by decide +kernel⟩),
   (let e : Fin 64 := 0; ⟨e, base 1 [(ENG_CORE.STATE, e.val, 3)], by decide +kernel⟩),
   ⟨(0 : Fin 8), base 1 [], by decide +kernel⟩,
   ⟨(rn 0x1003 [1, 2, 3] : Running), { base 3 [] with eng := { stage := some (rn 0x1003 [1, 2, 3]) } }, by decide +kernel⟩,
   ⟨((⟨rn 0x1004 [], [(0, 7), (1, 15)], true⟩ : FwUpdate) : FwUpdate), ((0, 7) : Nat × Nat), ([(1, 15)] : List (Nat × Nat)), { base 3 [] with eng := { update := some ⟨rn 0x1004 [], [(0, 7), (1, 15)], true⟩ } }, by decide +kernel⟩,
   ⟨(rn 0x1006 [1, 2, 3, 127] : Running), (127 : Nat), { base 4 [] with eng := { sbxLoad := some (rn 0x1006 [1, 2, 3, 127], 127) } }, by decide +kernel⟩⟩

/-- Inputs that meet the hypotheses of each clause of `Obligations.HostEvents` that has any. -/
theorem test_meets_HostEvents :
  (∃ (m : Mast) (r : Fin 4) (v : BitVec 16) (s : State), s.takes m 18 ∧ (v.toNat + 65536 - s.rd CMD_RING_STAT.CONS r.val) % 65536 ≤ 2 ^ s.rd CMD_RING_CFG.CDEPTH r.val) ∧
  (∃ (m : Mast) (r : Fin 4) (v : BitVec 16) (s : State), s.takes m 18 ∧ 2 ^ s.rd CMD_RING_CFG.CDEPTH r.val < (v.toNat + 65536 - s.rd CMD_RING_STAT.CONS r.val) % 65536) ∧
  (∃ (m : Mast) (s : State), s.takes m 18) ∧
  (∃ (m : Mast) (s : State), s.takes m 18) ∧
  (∃ (r : Fin 4) (s : State), s.midCommand = false ∧ s.on CMD_STATUS.RING_OK = true ∧ s.cmd.inbox = [] ∧ s.nextRing = some r) ∧
  (∃ (r : Fin 4) (rep : Reply) (rest : List Reply) (s : State), Tab.get [] s.cmd.waiting r.val = rep :: rest ∧ s.on CMD_RING_CFG.EN r.val = true ∧ rep.entries ≤ s.freeReplies r.val) ∧
  (∃ (r : Fin 4) (q : BitVec 16) (run : Running) (s : State), Tab.get none s.cmd.slots (slotKey r.val q.toNat) = some ⟨run, none⟩ ∧ run.seq = q.toNat ∧ run.ring = r.val ∧ run.flags = 0 ∧ run.opcode = 0x0F09 ∧ s.pair.wait = none) ∧
  (∃ (m : Mast) (s : State), s.takes m 18 ∧ s.on CMD_BAT_STAT.HEAD = true ∧ s.srd.batten.up = true) ∧
  (∃ (a : BitVec 8) (s : State), s.on CMD_BAT_STAT.HEAD = false ∧ a.toNat < 64) ∧
  (∃ (a : BitVec 8) (n : BitVec 8) (check : BitVec 8), tokenCheck a.toNat n.toNat ≠ check.toNat) ∧
  (∃ (dst : BitVec 8) (src : BitVec 8) (s : State), src.toNat ≠ s.rd CMD_BAT_STAT.ADDR ∧ dst.toNat ≠ s.rd CMD_BAT_STAT.ADDR) ∧
  (∃ (dst : BitVec 8) (src : BitVec 8) (s : State), src.toNat ≠ s.rd CMD_BAT_STAT.ADDR ∧ dst.toNat = s.rd CMD_BAT_STAT.ADDR) ∧
  (∃ (s : State), s.cmd.tokenOut.isSome = true) ∧
  (∃ (s : State), s.cmd.retryDue = true ∧ s.on CMD_BAT_STAT.HEAD = true ∧ s.srd.batten.up = true) ∧
  (∃ (s : State), s.on CMD_BAT_STAT.HEAD = false) :=
  ⟨⟨(0 : Mast), (0 : Fin 4), (0 : BitVec 16), base 1 [], by unfold State.takes; decide +kernel⟩,
   ⟨(0 : Mast), (0 : Fin 4), (60000 : BitVec 16), base 1 [], by unfold State.takes; decide +kernel⟩,
   ⟨(0 : Mast), base 1 [], by unfold State.takes; decide +kernel⟩,
   ⟨(0 : Mast), base 1 [], by unfold State.takes; decide +kernel⟩,
   ⟨((3 : Fin 4) : Fin 4), { base 3 [(CMD_STATUS.RING_OK, 0, 1), (CMD_RING_CFG.EN, 3, 1)] with cmd := { prod := [(3, 1)] } }, by decide +kernel⟩,
   ⟨(3 : Fin 4), ((⟨0, 3, 1, 5, 0, 0, 0, 3, List.replicate 1019 0, false⟩ : Reply) : Reply), (([] : List Reply) : List Reply), { base 3 [(CMD_RING_CFG.EN, 3, 1)] with cmd := { waiting := [(3, [⟨0, 3, 1, 5, 0, 0, 0, 3, List.replicate 1019 0, false⟩])] } }, by decide +kernel⟩,
   ⟨(0 : Fin 4), (5 : BitVec 16), (rn 0x0F09 [1] : Running), { base 3 [] with cmd := { slots := [(5, some ⟨rn 0x0F09 [1], none⟩)] }, obs := { capRead := some (rn 0x0F09 [1]) } }, by decide +kernel⟩,
   ⟨(0 : Mast), { base 3 [(CMD_BAT_STAT.HEAD, 0, 1)] with srd := { batten := { up := true } } }, by unfold State.takes; decide +kernel⟩,
   ⟨(63 : BitVec 8), base 1 [(CMD_BAT_STAT.HEAD, 0, 0)], by decide +kernel⟩,
   (let a : BitVec 8 := 0; let n : BitVec 8 := 0; let check : BitVec 8 := 0; ⟨a, n, check, by decide +kernel⟩),
   ⟨(0 : BitVec 8), (0 : BitVec 8), base 1 [], by decide +kernel⟩,
   ⟨(5 : BitVec 8), (9 : BitVec 8), base 3 [(CMD_BAT_STAT.ADDR, 0, 5)], by decide +kernel⟩,
   ⟨{ base 3 [(CMD_BAT_STAT.HEAD, 0, 1)] with cmd := { tokenOut := some (1, 0) } }, by decide +kernel⟩,
   ⟨{ base 3 [(CMD_BAT_STAT.HEAD, 0, 1)] with srd := { batten := { up := true } }, cmd := { retryDue := true } }, by decide +kernel⟩,
   ⟨base 1 [(CMD_BAT_STAT.HEAD, 0, 0)], by decide +kernel⟩⟩

/-- Inputs that meet the hypotheses of each clause of `Obligations.PacketRunsCommand` that has any. -/
theorem test_meets_PacketRunsCommand :
  (∃ op ∈ opTable, ∃ (ring : Fin 4) (ws : List Nat) (s : State), nth ws 0 % 65536 = op.code ∧ nth ws 1 / 65536 ≤ 1019 ∧ crc32cWords (ws.take (4 + nth ws 1 / 65536)) = nth ws (4 + nth ws 1 / 65536) ∧ nth ws 1 % 256 = s.ownAddr ∧ s.dev ≠ 0 ∧ s.rd PWR_STATUS.STATE ≠ 4 ∧ s.lifecycle ≠ 4 ∧ Tab.get none s.cmd.slots (slotKey ring.val (nth ws 0 / 65536 % 65536)) = none) :=
  (let ws : List Nat := [0x70000 + opIdentify.code, 0, 0, 0]; ⟨opIdentify, (by unfold opTable opsClass1; (iterate 17 refine List.mem_append_left _ ?_); exact List.mem_cons_self), 3, ws ++ [crc32cWords ws], base 3 [], by decide +kernel⟩)

/-- Inputs that meet the hypotheses of each clause of `Obligations.KeeperCommands` that has any. -/
theorem test_meets_KeeperCommands :
  Met opSecStatus (fun _ _ => True) ∧
  Met opSecCerts (fun _ _ => True) ∧
  Met opAttest (fun _ _ => True) ∧
  Met opSecSessionKey (fun p s => nth p 0 = 0 ∨ nth p 0 ∈ s.cmd.sessions) ∧
  Met opSecNonce (fun _ _ => True) ∧
  Met opSecLifecycle (fun p s => p.length = 3 ∧ s.mustMove = false ∧ s.fuseOk = true ∧ nth p 0 = 2 ∧ s.lifecycle = 1 ∧ nth p 1 + nth p 2 * 2 ^ 32 = s.fuse.devId) ∧
  Met opSecLifecycle (fun p s => p.length = 3 ∧ s.mustMove = false ∧ s.fuseOk = true ∧ nth p 0 = 4 ∧ nth p 1 + nth p 2 * 2 ^ 32 = s.fuse.devId) ∧
  (∃ (h : CmdHdr) (p : List Word) (s : State), Accepted opSecLifecycle h p s ∧ p.length = 25 ∧ s.mustMove = false ∧ s.fuseOk = true ∧ nth (p.map (·.toNat)) 0 = 3 ∧ (s.lifecycle = 1 ∨ s.lifecycle = 2)) ∧
  Met opSecLifecycle (fun p s => p.length = 3 ∧ s.mustMove = false ∧ s.fuseOk = true ∧ s.lifeOk (nth p 0) (p.drop 1) = false) ∧
  Met opSecCustkey (fun _ s => s.lifecycle = 1 ∧ s.fuse.custKey = none ∧ s.fuseOk = true) ∧
  Met opSecReset (fun _ s => s.mustMove = false) ∧
  Met opPwrStateSet (fun p s => nth p 0 ≤ 4 ∧ (powerLegal (nth p 0)).contains s.dev = true ∧ s.mustMove = false ∧ s.on PWR_STATUS.BUSY = false ∧ nth p 0 ≠ s.rd PWR_STATUS.STATE) ∧
  Met opPwrStateSet (fun p s => nth p 0 ≤ 4 ∧ (powerLegal (nth p 0)).contains s.dev = true ∧ s.mustMove = false ∧ s.on PWR_STATUS.BUSY = false ∧ nth p 0 = s.rd PWR_STATUS.STATE) ∧
  Met opPwrStatus (fun _ _ => True) ∧
  Met opPwrCfg (fun p _ => wordOk PWR_THERM_CFG.fields (nth p 0) = true ∧ thermOk (nth p 0) = true ∧ ∀ n < 4, wordOk PWR_PWM.fields (nth p (1 + n)) = true) :=
  ⟨met ⟨0, 0, 0, 0⟩ ([]) (base 1 []) (by decide +kernel) (trivial),
   met ⟨0, 0, 0, 0⟩ ([]) (base 1 []) (by decide +kernel) (trivial),
   met ⟨0, 0, 0, 0⟩ (List.replicate 8 7) (base 3 []) (by decide +kernel) (trivial),
   met ⟨0, 0, 0, 0⟩ (0 :: List.replicate 25 7) (base 3 []) (by decide +kernel) (by decide +kernel),
   met ⟨0, 0, 0, 0⟩ ([]) (base 1 []) (by decide +kernel) (trivial),
   met ⟨0, 0, 0, 0⟩ ([2, 1, 0]) (base 4 []) (by decide +kernel) (by decide +kernel),
   met ⟨0, 0, 0, 0⟩ ([4, 1, 0]) (base 4 []) (by decide +kernel) (by decide +kernel),
   ⟨(⟨0, 7, 0, 0⟩ : CmdHdr), (3 :: List.replicate 24 0 : List Word), base 1 [], acc (by decide +kernel), by decide +kernel⟩,
   met ⟨0, 0, 0, 0⟩ ([2, 0, 0]) (base 1 []) (by decide +kernel) (by decide +kernel),
   met ⟨0, 0, 0, 0⟩ (List.replicate 25 7) (base 4 []) (by decide +kernel) (by decide +kernel),
   met ⟨0, 0, 0, 0⟩ ([]) (base 1 []) (by decide +kernel) (by decide +kernel),
   met ⟨0, 0, 0, 0⟩ ([1]) (base 3 []) (by decide +kernel) (by decide +kernel),
   met ⟨0, 0, 0, 0⟩ ([State.reset.rd PWR_STATUS.STATE]) (base 2 []) (by decide +kernel) (by decide +kernel),
   met ⟨0, 0, 0, 0⟩ ([]) (base 1 []) (by decide +kernel) (trivial),
   met ⟨0, 0, 0, 0⟩ (State.reset.word PWR_THERM_CFG.fields :: (List.range 4).map (fun n => State.reset.word PWR_PWM.fields n)) (base 3 []) (by decide +kernel) (by decide +kernel)⟩

/-- Inputs that meet the hypotheses of each clause of `Obligations.BootEvents` that has any. -/
theorem test_meets_BootEvents :
  (∃ (s : State), s.sec.resetDue = some 3) ∧
  (∃ (s : State), s.sec.resetDue = some 2) ∧
  (∃ (s : State), s.lifecycle = 0) ∧
  (∃ (s : State), s.rd PWR_STATUS.STATE = 4) ∧
  (∃ (s : State), s.sec.boot = 0) ∧
  (∃ (s : State), s.sec.boot = 1) ∧
  (∃ (s : State), s.sec.boot = 2 ∧ s.sec.bootFail = false) ∧
  (∃ (s : State), s.sec.boot = 3 ∧ s.sec.bootFail = false ∧ s.rd SEC_STATUS.BANK ≤ 1) ∧
  (∃ (s : State), s.sec.boot = 4 ∧ s.dev = 0) ∧
  (∃ (n : Nat) (s : State), s.on SEC_STATUS.KEEPER_ALARM = false ∧ s.sec.svnDue = [(1, n)] ∧ s.fuse.kCnt < n ∧ s.fuseOk = true) ∧
  (∃ (s : State), s.on SEC_STATUS.KEEPER_ALARM = false) ∧
  (∃ (r : Running) (s : State), s.pwr.run = some r) ∧
  (∃ (ts : List (BitVec 16)), ts ≠ []) :=
  ⟨⟨{ base 1 [] with sec := { resetDue := some 3 } }, by decide +kernel⟩,
   ⟨{ base 1 [] with sec := { resetDue := some 2 } }, by decide +kernel⟩,
   ⟨{ base 3 [] with fuse := { life := 0 } }, by decide +kernel⟩,
   ⟨base 1 [(PWR_STATUS.STATE, 0, 4)], by decide +kernel⟩,
   ⟨{ base 1 [] with sec := { boot := 0 } }, by decide +kernel⟩,
   ⟨{ base 1 [] with sec := { boot := 1 } }, by decide +kernel⟩,
   ⟨{ base 1 [] with sec := { boot := 2, bootFail := false } }, by decide +kernel⟩,
   ⟨{ base 1 [] with sec := { boot := 3, bootFail := false } }, by decide +kernel⟩,
   ⟨{ base 0 [] with sec := { boot := 4 } }, by decide +kernel⟩,
   ⟨(5 : Nat), { base 3 [] with sec := { svnDue := [(1, 5)] } }, by decide +kernel⟩,
   ⟨base 1 [(SEC_STATUS.KEEPER_ALARM, 0, 0)], by decide +kernel⟩,
   ⟨(rn 0x1201 [1] : Running), { base 3 [(PWR_STATUS.TARGET, 0, 1)] with pwr := { run := some (rn 0x1201 [1]) } }, by decide +kernel⟩,
   (let ts : List (BitVec 16) := [40, 101]; ⟨ts, by decide +kernel⟩)⟩

/-- Inputs that meet the hypotheses of each clause of `Obligations.RegisterWrites` that has any. -/
theorem test_meets_RegisterWrites :
  (∃ (m : Mast) (w : Word) (s : State), s.takes m 4 ∧ wordOk FEC_DEC_CFG.fields w.toNat = true) ∧
  (∃ (m : Mast) (w : Word) (s : State), s.takes m 4 ∧ wordOk FEC_DEC_CFG.fields w.toNat = false) ∧
  (∃ (m : Mast) (be : BitVec 4), m.val < 60 ∧ be ≠ 15) ∧
  (∃ (m : Mast) (off : BitVec 26), m.val < 60 ∧ aliasOf (off.toNat / 4 * 4) = none ∧ findReg (off.toNat / 4 * 4) = none) ∧
  (∃ (m : Mast) (s : State), s.takes m 1) ∧
  (∃ (m : Mast) (s : State), s.takes m 1) ∧
  (∃ (m : Mast), m.val < 60) ∧
  (∃ (m : Mast) (lo : Nat) (s : State), s.takes m 9 ∧ Tab.get none s.sys.wrShadow m.val = some (0x900020, lo) ∧ lo < 2 ^ 32) ∧
  (∃ (m : Mast) (b : Fin 19) (p : Fld × Fld) (s : State), s.takes m b.val ∧ (intPairs b.val).head? = some p) ∧
  (∃ (m : Mast) (s : State), s.takes m 0) ∧
  (∃ (m : Mast) (s : State), s.takes m 0) :=
  ⟨⟨(5 : Mast), (BitVec.ofNat 32 (State.reset.word FEC_DEC_CFG.fields) : Word), base 3 [], by unfold State.takes; decide +kernel⟩,
   ⟨(0 : Mast), (0 : Word), base 1 [], by unfold State.takes; decide +kernel⟩,
   (let m : Mast := 0; let be : BitVec 4 := 0; ⟨m, be, by decide +kernel⟩),
   (let m : Mast := 59; let off : BitVec 26 := 0x1300000; ⟨m, off, by decide +kernel⟩),
   ⟨(0 : Mast), base 1 [], by unfold State.takes; decide +kernel⟩,
   ⟨(0 : Mast), base 1 [], by unfold State.takes; decide +kernel⟩,
   (let m : Mast := 0; ⟨m, by decide +kernel⟩),
   ⟨(3 : Mast), (9 : Nat), { base 3 [] with sys := { wrShadow := [(3, some (0x900020, 9))] } }, by unfold State.takes; decide +kernel⟩,
   ⟨3, 1, (LTX_INT_STAT.ALL, LTX_INT_EN.ALL), base 3 [(LTX_INT_STAT.ALL, 0, 7)], by unfold State.takes; decide +kernel, rfl⟩,
   ⟨(0 : Mast), base 1 [], by unfold State.takes; decide +kernel⟩,
   ⟨(0 : Mast), base 1 [], by unfold State.takes; decide +kernel⟩⟩

/-- Inputs that meet the hypotheses of each clause of `Obligations.RegisterReads` that has any. -/
theorem test_meets_RegisterReads :
  (∃ (m : Mast) (off : BitVec 26) (r : RegDef) (i : Nat) (s : State), m.val < 60 ∧ findReg (off.toNat / 8 * 8) = some (r, i) ∧ off.toNat / 8 * 8 = r.at i ∧ r.wide = true ∧ r.off ≠ 0xD00118 ∧ s.dev ≠ 0) ∧
  (∃ (m : Mast) (off : BitVec 26) (r : RegDef) (i hi : Nat) (s : State), m.val < 60 ∧ findReg (off.toNat / 8 * 8 + 4) = some (r, i) ∧ r.at i = off.toNat / 8 * 8 ∧ r.wide = true ∧ s.dev ≠ 0 ∧ Tab.get none s.sys.rdShadow m.val = some (r.at i, hi) ∧ hi < 2 ^ 32) ∧
  (∃ (m : Mast), m.val < 60) ∧
  (∃ (n : Fin 16) (s : State), bit (s.rd SYS_GPIO_OE.ALL) n.val = false) ∧
  (∃ (s : State), s.sending = true) :=
  ⟨(by
     obtain ⟨r, i, h, p⟩ := found (o := (0x900020 : BitVec 26).toNat / 8 * 8) (fun r i => 0x900020 == r.at i && (r.wide && r.off != 0xD00118)) (by decide +kernel)
     simp only [Bool.and_eq_true, beq_iff_eq, bne_iff_ne] at p
     exact ⟨59, 0x900020, r, i, base 3 [(SCR_PEER_ID.ALL, 0, 2 ^ 40 + 5)], by decide, h, p.1, p.2.1, p.2.2, by decide +kernel⟩),
   (by
     obtain ⟨r, i, h, p⟩ := found (o := (0x900024 : BitVec 26).toNat / 8 * 8 + 4) (fun r i => r.at i == 0x900020 && r.wide) (by decide +kernel)
     simp only [Bool.and_eq_true, beq_iff_eq] at p
     exact ⟨59, 0x900024, r, i, 7, { base 3 [] with sys := { rdShadow := [(59, some (r.at i, 7))] } }, by decide, h, p.1, p.2, (by decide +kernel : (base 3 []).dev ≠ 0), rfl, by decide⟩),
   (let m : Mast := 0; ⟨m, by decide +kernel⟩),
   ⟨(0 : Fin 16), base 1 [], by decide +kernel⟩,
   ⟨base 1 [(LTX_STATUS.TX_ON, 0, 1)], by decide +kernel⟩⟩

/-- Inputs that meet the hypotheses of each clause of `Obligations.Boundaries` that has any. -/
theorem test_meets_Boundaries :
  (∃ (s : State), s.sending = true) ∧
  (∃ (s : State), s.sending = true ∧ s.on LTX_STATUS.PLAN_PENDING = true ∧ s.rd LTX_PLAN_CHG.TARGET_SF = (s.rd LTX_SF_NUM.ALL + 1) % 65536 ∧ s.adapt.rollTo = none) ∧
  (∃ (s : State), s.sending = true ∧ nativeMode s.txMode = true ∧ s.on LTX_STATUS.PLAN_PENDING = true ∧ s.rd LTX_PLAN_CHG.TARGET_SF ≠ (s.rd LTX_SF_NUM.ALL + 1) % 65536 ∧ s.adapt.rollTo = none ∧ s.rd LTX_PLAN_CHG.CD ≠ 0) ∧
  (∃ (s : State), s.sending = false) ∧
  (∃ (s : State), s.rxRuns = true ∧ 7 ≤ s.stage ∧ s.stage ≤ 9 ∧ s.on LRX_STATUS.SF_LOCK = false) ∧
  (∃ (h : BitVec 64) (s : State), s.rxRuns = true ∧ 7 ≤ s.stage ∧ nativeMode s.rxMode = true ∧ headerOk h.toNat = true) ∧
  (∃ e ∈ summaryEvents, ∃ (o : Occ) (s : State), s.obs.occ = [o] ∧ o.ev = e.id ∧ o.minute = false) ∧
  (∃ e ∈ summaryEvents, ∃ (o : Occ) (s : State), s.obs.occ = [o] ∧ o.ev = e.id ∧ o.minute = true) :=
  ⟨⟨base 1 [(LTX_STATUS.TX_ON, 0, 1)], by decide +kernel⟩,
   ⟨base 3 [(LTX_CTRL.MODE, 0, 5), (LTX_STATUS.TX_ON, 0, 1), (LTX_STATUS.PLAN_PENDING, 0, 1), (LTX_PLAN_CHG.TARGET_SF, 0, 1), (LTX_PLAN_HDR.PLAN_ID, 1, 5)], by decide +kernel⟩,
   ⟨base 3 [(LTX_CTRL.MODE, 0, 5), (LTX_STATUS.TX_ON, 0, 1), (LTX_STATUS.PLAN_PENDING, 0, 1), (LTX_PLAN_CHG.TARGET_SF, 0, 9), (LTX_PLAN_CHG.CD, 0, 8)], by decide +kernel⟩,
   ⟨base 1 [], by decide +kernel⟩,
   ⟨base 3 [(LRX_CTRL.MODE, 0, 5), (LRX_CTRL.RX_EN, 0, 1), (LRX_STATUS.STAGE, 0, 9)], by decide +kernel⟩,
   ⟨(BitVec.ofNat 64 ((5 * 2 ^ 32 + 9) * 65536 + crcBits 16 0x1021 0xFFFF (msbFirst 48 (5 * 2 ^ 32 + 9))) : BitVec 64), base 3 [(LRX_CTRL.MODE, 0, 5), (LRX_CTRL.RX_EN, 0, 1), (LRX_STATUS.STAGE, 0, 10)], by decide +kernel⟩,
   ⟨EV.VNR_AUTH, by simp [summaryEvents], ⟨EV.VNR_AUTH.id, 0, false, [1]⟩, { base 3 [] with obs := { occ := [⟨EV.VNR_AUTH.id, 0, false, [1]⟩] } }, rfl, rfl, rfl⟩,
   ⟨EV.VNR_AUTH, by simp [summaryEvents], ⟨EV.VNR_AUTH.id, 0, true, [1]⟩, { base 3 [] with obs := { occ := [⟨EV.VNR_AUTH.id, 0, true, [1]⟩] } }, rfl, rfl, rfl⟩⟩

/-! Inputs for the statements about every command, the refusals, the frames and the invariants. -/

/-- A command waiting, and none. -/
theorem test_meets_StepRunsFront_StepIdles :
    (∃ c cs, ∃ s : State, s.pending = c :: cs) ∧ (∃ s : State, s.pending = [] ∧ s.tod.frac < 2 ^ 32 ∧ s.tod.ns < 10 ^ 9) :=
  ⟨⟨.wake, [.oscLost], { State.reset with pending := [.wake, .oscLost] }, rfl⟩, State.reset, rfl, by decide +kernel⟩

/-- One Felwin command for each check that turns it away, in a state that passes the checks before it. -/
theorem test_meets_CommandChecks :
    (∃ c op h p, felwinOf c = some (op, h, p) ∧ h.flags.toNat % 2 = 0 ∧ ∃ s : State, s.lifecycle = 4 ∧ op.code ≠ 0x0101 ∧ op.code ≠ 0x0102) ∧
    (∃ c op h p, felwinOf c = some (op, h, p) ∧ h.flags.toNat % 2 = 0 ∧ ∃ s : State, s.rd PWR_STATUS.STATE = 4) ∧
    (∃ c op h p, felwinOf c = some (op, h, p) ∧ h.flags.toNat % 2 = 0 ∧ ∃ s : State, s.lifecycle ≠ 4 ∧ s.rd PWR_STATUS.STATE ≠ 4 ∧
      ¬ (s.dev ≠ 0 ∨ op.code ∈ bootOps)) ∧
    (∃ c op h p, felwinOf c = some (op, h, p) ∧ h.flags.toNat % 2 = 0 ∧ ∃ s : State, s.lifecycle ≠ 4 ∧ s.rd PWR_STATUS.STATE ≠ 4 ∧
      (s.dev ≠ 0 ∨ op.code ∈ bootOps) ∧ ¬ s.sessionOpen h.session.toNat = true) ∧
    (∃ c op h p, felwinOf c = some (op, h, p) ∧ h.flags.toNat % 2 = 0 ∧ ∃ s : State, s.lifecycle ≠ 4 ∧ s.rd PWR_STATUS.STATE ≠ 4 ∧
      (s.dev ≠ 0 ∨ op.code ∈ bootOps) ∧ s.sessionOpen h.session.toNat = true ∧ ¬ op.lenOk p.length = true) ∧
    (∃ c op h p, felwinOf c = some (op, h, p) ∧ h.flags.toNat % 2 = 0 ∧ ∃ s : State, s.lifecycle ≠ 4 ∧ s.rd PWR_STATUS.STATE ≠ 4 ∧
      (s.dev ≠ 0 ∨ op.code ∈ bootOps) ∧ s.sessionOpen h.session.toNat = true ∧ op.lenOk p.length = true ∧ op.code ≠ 0x0207 ∧
      ¬ (op.legal.contains s.dev = true ∧ (op.code ≠ 0x0207 ∨ s.dev ≠ 3) ∧ s.powered (classBlock op.code) = true)) :=
  ⟨⟨.ltxPlanCommit ⟨0, 0, 0, 0⟩ [], _, _, _, rfl, by decide, { base 3 [] with fuse := { life := 4 } }, by decide +kernel⟩,
   ⟨.ltxPlanCommit ⟨0, 0, 0, 0⟩ [], _, _, _, rfl, by decide, base 3 [(PWR_STATUS.STATE, 0, 4)], by decide +kernel⟩,
   ⟨.ltxPlanCommit ⟨0, 0, 0, 0⟩ [], _, _, _, rfl, by decide, base 0 [], by decide +kernel⟩,
   ⟨.ltxPlanCommit ⟨0, 0, 9, 0⟩ [], _, _, _, rfl, by decide, base 3 [], by decide +kernel⟩,
   ⟨.ltxPlanCommit ⟨0, 0, 0, 0⟩ [1, 2], _, _, _, rfl, by decide, base 3 [], by decide +kernel⟩,
   ⟨.ltxPlanCommit ⟨0, 0, 0, 0⟩ [7], _, _, _, rfl, by decide, base 1 [], by decide +kernel⟩⟩

/-- The checks of Table 17.3 that come after the device state. -/
theorem test_meets_CommandChecks_late :
    (∃ c op h p, felwinOf c = some (op, h, p) ∧ h.flags.toNat % 2 = 0 ∧ ∃ s : State, s.lifecycle ≠ 4 ∧ s.rd PWR_STATUS.STATE ≠ 4 ∧
      (s.dev ≠ 0 ∨ op.code ∈ bootOps) ∧ s.sessionOpen h.session.toNat = true ∧ op.lenOk p.length = true ∧
      (op.legal.contains s.dev = true ∧ (op.code ≠ 0x0207 ∨ s.dev ≠ 3) ∧ s.powered (classBlock op.code) = true) ∧
      ¬ (s.paired = false ∨ s.role = 1 ∨ op.code ∉ configOps)) ∧
    (∃ c op h p, felwinOf c = some (op, h, p) ∧ h.flags.toNat % 2 = 0 ∧ ∃ s : State, s.lifecycle ≠ 4 ∧ s.rd PWR_STATUS.STATE ≠ 4 ∧
      (s.dev ≠ 0 ∨ op.code ∈ bootOps) ∧ s.sessionOpen h.session.toNat = true ∧ op.lenOk p.length = true ∧
      (op.legal.contains s.dev = true ∧ (op.code ≠ 0x0207 ∨ s.dev ≠ 3) ∧ s.powered (classBlock op.code) = true) ∧
      (s.paired = false ∨ s.role = 1 ∨ op.code ∉ configOps) ∧ 1 < h.flags.toNat) ∧
    (∃ c op h p, felwinOf c = some (op, h, p) ∧ h.flags.toNat % 2 = 0 ∧ ∃ s : State, s.lifecycle ≠ 4 ∧ s.rd PWR_STATUS.STATE ≠ 4 ∧
      (s.dev ≠ 0 ∨ op.code ∈ bootOps) ∧ s.sessionOpen h.session.toNat = true ∧ op.lenOk p.length = true ∧
      (op.legal.contains s.dev = true ∧ (op.code ≠ 0x0207 ∨ s.dev ≠ 3) ∧ s.powered (classBlock op.code) = true) ∧
      (s.paired = false ∨ s.role = 1 ∨ op.code ∉ configOps) ∧ h.flags = 0 ∧ s.on SEC_STATUS.KEEPER_ALARM = true ∧ needsKeeper op.code = true) :=
  ⟨⟨.fecCfg ⟨0, 0, 0, 0⟩ [0, 0, 0, 0, 0], _, _, _, rfl, by decide, base 3 [(PAIR_CTRL.EN, 0, 1), (PAIR_STATUS.ROLE, 0, 2)], by decide +kernel⟩,
   ⟨.ltxPlanCommit ⟨0, 0, 0, 2⟩ [7], _, _, _, rfl, by decide, base 3 [], by decide +kernel⟩,
   ⟨.secNonce ⟨0, 0, 0, 0⟩ [], _, _, _, rfl, by decide, base 2 [(SEC_STATUS.KEEPER_ALARM, 0, 1)], by decide +kernel⟩⟩

/-- What the line refuses. -/
theorem test_meets_LineRefusals :
    Met opLtxModeSet (fun p s => s.is1600 = true ∧ s.lit = false ∧ (nth p 0 = 1 ∨ nth p 0 = 2 ∨ (nth p 0 = 11 ∧ 16 < nth p 1))) ∧
    Met opLrxModeSet (fun p s => s.is1600 = true ∧ s.on LRX_CTRL.RX_EN = false ∧ (nth p 0 = 1 ∨ nth p 0 = 2 ∨ (nth p 0 = 11 ∧ 16 < nth p 1))) ∧
    Met opVnrCfg (fun p s => s.is1600 = true ∧ wordOk [VNR_LA_CFG.HOLD] (nth p 1) = true ∧ VNR_CTRL.PROT_MODE.raw (nth p 0) ≠ 1) ∧
    (∃ (h : CmdHdr) (p : List Word) (s : State), Accepted opLtxPlanLoad h p s ∧ s.plain ∧ s.on LTX_STATUS.PLAN_PENDING = false ∧ s.on LRX_ADAPT_CFG.TX_EN = false ∧
      planCheck s.txMode s.txN true (nth (p.map (·.toNat)) 0) (loadWords ((p.map (·.toNat)).drop 1)) = some 6) ∧
    (∃ (h : CmdHdr) (p : List Word) (s : State), Accepted opLrxRplanLoad h p s ∧ s.plain ∧
      s.rplanRefusal (nth (p.map (·.toNat)) 0) (loadWords ((p.map (·.toNat)).drop 1)) = some .noResource) :=
  ⟨met ⟨0, 0, 0, 0⟩ [11, 17, 0, 0, 0, 0, 0, 0] { base 2 [] with fuse := { part := .ask1600 } } (by decide +kernel) (by decide +kernel),
   met ⟨0, 0, 0, 0⟩ [1, 0, 0, 0] { base 2 [] with fuse := { part := .ask1600 } } (by decide +kernel) (by decide +kernel),
   met ⟨0, 0, 0, 0⟩ [0, State.reset.word [VNR_LA_CFG.HOLD]] { base 2 [] with fuse := { part := .ask1600 } } (by decide +kernel) (by decide +kernel),
   ⟨⟨0, 0, 0, 0⟩, 12#32 :: List.replicate 16 0, base 3 [(LTX_CTRL.MODE, 0, 5)], acc (by decide +kernel), by unfold State.plain; decide +kernel⟩,
   ⟨⟨0, 0, 0, 0⟩, 12#32 :: List.replicate 16 0, base 3 [(LRX_CTRL.MODE, 0, 5)], acc (by decide +kernel), by unfold State.plain; decide +kernel⟩⟩

/-- What the calibration refuses. -/
theorem test_meets_CalibrationRefusals :
    Met (opCalRun 0 0) (fun p s => (1 ≤ nth p 0 ∧ nth p 0 ≤ 7) ∧ (1 ≤ nth p 1 ∧ nth p 1 ≤ 10) ∧ s.on CNV_STATUS.FG_BUSY = true) ∧
    Met (opCalCommit true) (fun p s => (1 ≤ nth p 0 ∧ nth p 0 ≤ 255) ∧ (s.on CNV_STATUS.FG_BUSY = true ∨ s.cnv.commit.isSome = true)) ∧
    Met opCalLoad (fun _ s => s.on CNV_STATUS.FG_BUSY = true) ∧
    Met (opCalRun 0 0) (fun p s => (1 ≤ nth p 0 ∧ nth p 0 ≤ 7) ∧ (1 ≤ nth p 1 ∧ nth p 1 ≤ 10) ∧ s.on CNV_STATUS.FG_BUSY = false ∧
      s.runOk (nth p 0) = true ∧ s.on CNV_STATUS.REF_BAD = true) :=
  ⟨met ⟨0, 0, 0, 0⟩ [7, 10] (base 1 [(CNV_STATUS.FG_BUSY, 0, 1)]) (by decide +kernel) (by decide +kernel),
   met ⟨0, 0, 0, 0⟩ [255, 9] (base 2 [(CNV_STATUS.FG_BUSY, 0, 1)]) (by decide +kernel) (by decide +kernel),
   met ⟨0, 0, 0, 0⟩ (0x071F0044 :: List.replicate 98 0) (base 1 [(CNV_STATUS.FG_BUSY, 0, 1)]) (by decide +kernel) (by decide +kernel),
   met ⟨0, 0, 0, 0⟩ [1, 10] { base 1 [(CNV_STATUS.REF_BAD, 0, 1)] with ltx := { txLight := true } } (by decide +kernel) (by decide +kernel)⟩

/-- A command that only reads, and one of each group of frames. -/
theorem test_meets_ReadersKeep_Frames :
    readsOnly (.ltxLaserStatus ⟨0, 0, 0, 0⟩ [5]) = true ∧ (May.of .biasSweepDone).group ≤ 2 ∧
    (3 ≤ (May.of .oscLost).group ∧ (May.of .oscLost).group ≤ 6) := by decide

/-- A rank below the number of sequences. -/
theorem test_meets_FecCodes : (15 < 16 ∧ 419 < 420) ∧ ∃ lv n m v, v < seqCount lv n m := ⟨by decide, 4, 3, 2, 3, by decide +kernel⟩

/-- The state after reset meets both invariants, and the idle step from it answers a next state. -/
theorem test_meets_FormKept_FieldsFit : ∃ s t, State.formed s = true ∧ State.fits s ∧ step s = .next t :=
  ⟨State.reset, _, by decide, fun _ _ _ f _ i => Nat.mod_lt _ (Nat.two_pow_pos f.width), rfl⟩

/-- A plain register of a block that takes the write, a read-only register, and a register that no engine of cluster 7 may write. -/
theorem test_meets_PlainWrites_DeniedWrites :
    (∃ (m : Mast) (off : BitVec 26) (r : RegDef) (i : Nat) (s : State), findReg off.toNat = some (r, i) ∧ off.toNat = r.at i ∧ r.off ∈ plainOffs ∧
      r.fixed i = false ∧ s.takes m (r.off / 0x100000)) ∧
    (∃ (m : Mast) (off : BitVec 26) (r : RegDef) (i : Nat), m.val < 60 ∧ findReg (off.toNat / 4 * 4) = some (r, i) ∧ r.readOnly i = false ∧ r.wide = false ∧
      r.flds.all (fun f => f.acc == .ro || f.acc == .rc) = true) ∧
    (∃ (m : Mast) (off : BitVec 26), 60 ≤ m.val ∧ aliasOf (off.toNat / 4 * 4) = none ∧ off.toNat / 4 ≠ 0x34 / 4 ∧
      (off.toNat < 0x1100100 ∨ 0x1100110 ≤ off.toNat)) := by
  refine ⟨?_, ?_, 67, 0x1100110, by decide +kernel⟩
  · obtain ⟨r, i, h, p⟩ := found (o := (0x400008 : BitVec 26).toNat) (fun r i => 0x400008 == r.at i && (r.off == 0x400008 && !r.fixed i)) (by decide +kernel)
    simp only [Bool.and_eq_true, beq_iff_eq, Bool.not_eq_true'] at p
    refine ⟨5, 0x400008, r, i, base 3 [], h, p.1, ?_, p.2.2, ?_⟩
    · rw [p.2.1]; decide +kernel
    · rw [p.2.1]; unfold State.takes; decide +kernel
  · obtain ⟨r, i, h, p⟩ := found (o := (0x10 : BitVec 26).toNat / 4 * 4) (fun r i => !r.readOnly i && (!r.wide && r.flds.all (fun f => f.acc == .ro || f.acc == .rc)))
      (by decide +kernel)
    simp only [Bool.and_eq_true, Bool.not_eq_true'] at p
    exact ⟨59, 0x10, r, i, by decide, h, p.1, p.2.1, p.2.2⟩

/-- The states the resets start from. -/
theorem test_meets_ResetFrames :
    (∃ s : State, s.sec.resetDue = some 3) ∧ (∃ s : State, s.sec.resetDue = some 2) ∧ (∃ (u : Bool) (s : State), s.lifecycle = 0 ∨ (s.lifecycle = 3 ∧ u = true)) ∧
    (∃ (u : Bool) (s : State), s.lifecycle = 3 ∧ u = true) ∧ (∃ s : State, s.rd PWR_STATUS.STATE = 4) :=
  ⟨⟨{ base 2 [] with sec := { resetDue := some 3 } }, rfl⟩, ⟨{ base 3 [] with sec := { resetDue := some 2 } }, rfl⟩,
   ⟨false, { base 3 [] with fuse := { life := 0 } }, .inl rfl⟩, ⟨true, { base 3 [] with fuse := { life := 3 } }, rfl, rfl⟩,
   base 3 [(PWR_STATUS.STATE, 0, 4)], by decide +kernel⟩

/-! Commands no one can give are refused by each check of well-formedness. -/

theorem test_ill_windows : ¬ (Instr.symbolWindowEnd [] [] (List.replicate 17 [])).WellFormed ∧ ¬ (Instr.pilotWindowEnd (List.replicate 17 ⟨0, [], []⟩)).WellFormed ∧
    ¬ (Instr.rxSuperframeBoundary (List.replicate 17 ⟨false, 0, 0, 0, 0⟩)).WellFormed ∧ ¬ (Instr.snrReport true 0 0 (List.replicate 17 0) 0 0).WellFormed := by
  unfold Instr.WellFormed; decide
theorem test_ill_rxFrame : ¬ (Instr.rxFrame ⟨[[1], []], [], [], 0, []⟩).WellFormed := by unfold Instr.WellFormed; decide
theorem test_ill_align : ¬ (Instr.align 0 (List.replicate 5 ⟨true, true, 0, 0, 0⟩) 0 0 0).WellFormed := by unfold Instr.WellFormed; decide
theorem test_ill_messages : ¬ (Instr.keys 1 1 (List.replicate 73 ⟨0, 0, [], 0⟩)).WellFormed ∧ ¬ (Instr.keysAck 1 1 1 (List.replicate 73 0)).WellFormed ∧
    ¬ (Instr.digestBatchRx 0 (List.replicate 17 (0, 0, false))).WellFormed ∧ ¬ (Instr.thermalEval (List.replicate 23 0)).WellFormed := by unfold Instr.WellFormed; decide
theorem test_ill_packets : ¬ (Instr.commandFetch (List.replicate 1025 0)).WellFormed ∧ ¬ (Instr.battenPacketRx 0 0 0 0 (List.replicate 1025 0)).WellFormed ∧
    ¬ (Instr.syncWordDetect ⟨0, 0, 0, 0, List.replicate 8417 true⟩).WellFormed := by unfold Instr.WellFormed; decide +kernel
theorem test_ill_parameters : ¬ (Instr.identify ⟨0, 0, 0, 0⟩ (List.replicate 1020 0)).WellFormed := by unfold Instr.WellFormed; decide +kernel
theorem test_well_parameters : (Instr.identify ⟨0, 0, 0, 0⟩ (List.replicate 1019 0)).WellFormed := by unfold Instr.WellFormed; decide +kernel

/-! Numbers the spec's worked examples give. -/

/-- Plan 12 of chapter 2's worked example: ΣE is 1,694, the line's W_min, and every check of Table 2.5 passes. -/
theorem test_plan12 :
    let w (c e : Nat) := scWord c e
    let ws := [w 5 80, w 7 100] ++ List.replicate 5 (w 7 111) ++ [w 7 112, w 7 112] ++ List.replicate 5 (w 7 111) ++ [w 7 100, w 5 80]
    sumE ws = 1694 ∧ wMin 1 0 = 1694 ∧ planCheck 1 0 true 12 ws = none := by decide +kernel

/-- The block starts of SC2 under plan 12, and k_a of the four columns (chapter 6's worked example). -/
theorem test_blocks_plan12 :
    [0, 1, 2, 3].map (blkStart 111) = [0, 3512, 7023, 10535] ∧ [blkLen 80 0, blkLen 112 0] = [4872, 3480] ∧
    [ampNet 5 4872, ampNet 7 3480, ampNet 7 3512, ampNet 7 3511] = [29232, 34800, 34672, 34676] := by decide +kernel

/-- The automatic plan of chapter 4's worked example: found at 1.1 dB with ΣE 1,703, and 1,688 at 1.2 dB. -/
theorem test_autoplan :
    let snr := [1420, 1700, 1990] ++ List.replicate 10 2070 ++ [1990, 1680, 1390]
    let scs := List.range 16
    let es := [76, 92, 110] ++ List.replicate 10 115 ++ [110, 91, 74]
    entsAt snr (plan0 1 0) scs 10 11 = es ∧ sumEnts es = 1703 ∧ sumEnts (entsAt snr (plan0 1 0) scs 10 12) = 1688 := by decide +kernel

/-- A soft window of 47 GB of 16 subcarriers is 700 slots (chapter 16's worked example), and the COMP filter after K = 3 settles in 16 words (Table 15.3). -/
theorem test_slots_and_settling : softSlots 47 0xFFFF = 700 ∧ settleWords 3 1 = 16 := by decide +kernel

end Sys2Proof.Tests
end

/-!
What a command that is turned away leaves: its reply in its slot (R625) and, of the rest of the state, what `OnlyReplies` names (R19). From it: the
commands that the ASK1600 refuses (R3, R4), and the plan loads that do not fit (R56).
-/
namespace Sys2Proof.Machine
open Sys2Proof

/-! ### `OnlyReplies` composes -/

theorem Comp.same_trans {c : Comp} {s t u : State} (h₁ : c.same s t) (h₂ : c.same t u) : c.same s u := by
  cases c <;> simp only [Comp.same] at h₁ h₂ ⊢
  case sys =>
    exact (congrArg (fun x : SysSt => { x with
      eqLost := s.sys.eqLost, eseq := s.sys.eseq, coalOpen := s.sys.coalOpen, coalDue := s.sys.coalDue }) h₂).trans h₁
  case obs =>
    exact (congrArg (fun x : ObsSt => { x with
      occ := s.obs.occ, trigDue := s.obs.trigDue, recs := s.obs.recs, lost := s.obs.lost }) h₂).trans h₁
  case cmd => exact (congrArg (fun x : CmdSt => { x with slots := s.cmd.slots, waiting := s.cmd.waiting }) h₂).trans h₁
  case pair =>
    exact (congrArg (fun x : PairSt => { x with
      wait := s.pair.wait, kept := s.pair.kept, keptBytes := s.pair.keptBytes, cutBytes := s.pair.cutBytes, jcut := s.pair.jcut,
      untold := s.pair.untold }) h₂).trans h₁
  all_goals simp only [h₁, h₂, and_self]

theorem OnlyReplies.refl (s : State) : OnlyReplies s s where
  queue := rfl
  sent := List.suffix_rfl
  flds _ _ _ := rfl
  cnts _ _ := rfl
  comps c _ := by cases c <;> simp only [Comp.same, and_self]

theorem OnlyReplies.trans {s t u : State} (h₁ : OnlyReplies s t) (h₂ : OnlyReplies t u) : OnlyReplies s u where
  queue := h₂.queue.trans h₁.queue
  sent := h₁.sent.trans h₂.sent
  flds f i hf := (h₂.flds f i hf).trans (h₁.flds f i hf)
  cnts j hj := (h₂.cnts j hj).trans (h₁.cnts j hj)
  comps c hc := Comp.same_trans (h₁.comps c hc) (h₂.comps c hc)

/-! ### The steps of a reply -/

theorem onlyReplies_replySlots (s : State) (sl : Tab (Option Slot)) (w : Tab (List Reply)) :
    OnlyReplies s { s with cmd := { s.cmd with slots := sl, waiting := w } } where
  queue := rfl
  sent := List.suffix_rfl
  flds _ _ _ := rfl
  cnts _ _ := rfl
  comps c hc := by cases c <;> simp_all [Comp.same]

theorem onlyReplies_untold (s : State) (l : List Nat) : OnlyReplies s { s with pair := { s.pair with untold := l } } where
  queue := rfl
  sent := List.suffix_rfl
  flds _ _ _ := rfl
  cnts _ _ := rfl
  comps c hc := by cases c <;> simp_all [Comp.same]

theorem onlyReplies_emit (s : State) (o : Output) : OnlyReplies s { s with out := o :: s.out } where
  queue := rfl
  sent := List.suffix_cons _ _
  flds _ _ _ := rfl
  cnts _ _ := rfl
  comps c _ := by cases c <;> simp only [Comp.same, and_self]

theorem cnt_count_ne (s : State) {j k : Nat} (n : Nat) (h : j ≠ k) : (s.count k n).cnt j = s.cnt j := by
  simp only [State.count]; split <;> simp [State.cnt, State.occur, Tab.get_set, h]

theorem cnt_record_ne (s : State) (ty fl : Nat) (b : List Nat) {j : Nat} (h : j ≠ 64) : (s.record ty fl b).cnt j = s.cnt j := by
  simp only [State.record]; split_ifs
  · rfl
  · rfl
  · exact cnt_count_ne _ _ h
  · rfl

/-- Of the observability part a counter that wraps changes the occurrences alone. -/
theorem obs_same_count {s t : State} (h : Comp.obs.same s t) (j n : Nat) : Comp.obs.same s (t.count j n) := by
  simp only [State.count]; split <;> exact h

theorem obs_same_record (s : State) (ty fl : Nat) (b : List Nat) : Comp.obs.same s (s.record ty fl b) := by
  simp only [State.record]; split_ifs
  · rfl
  · rfl
  · exact obs_same_count (by rfl) 64 1
  · rfl

theorem onlyReplies_record (s : State) (ty fl : Nat) (b : List Nat) : OnlyReplies s (s.record ty fl b) where
  queue := State.record_pending s ty fl b
  sent := by simp
  flds f i hf := rd_record s ty fl b f i hf
  cnts _ hj := cnt_record_ne s ty fl b hj
  comps c _ := by
    cases c
    case obs => exact obs_same_record s ty fl b
    all_goals simp [Comp.same]

theorem onlyReplies_unhold (r : Reply) (s : State) : OnlyReplies s ((unhold r).act s) := by
  simp only [unhold, act_dyn, act_whenE, act_upd]; split_ifs
  · exact onlyReplies_replySlots s _ s.cmd.waiting
  · exact .refl s

theorem onlyReplies_sendReply (r : Reply) (s : State) : OnlyReplies s ((sendReply r).act s) := by
  simp only [sendReply, act_dyn, act_ite, act_seq_cons, act_seq_nil, act_emit, act_upd]; split
  · exact (onlyReplies_emit s _).trans (onlyReplies_unhold r _)
  · exact onlyReplies_replySlots s s.cmd.slots _

theorem onlyReplies_replyTo (r : Running) (st : Status) (fl : Nat) (pay : State → List Nat) (s : State) :
    OnlyReplies s ((replyTo r st fl pay).act s) := by
  simp only [replyTo, act_dyn, act_seq_cons, act_seq_nil, act_record, act_whenE, act_upd]
  refine .trans (.trans ?_ (onlyReplies_sendReply _ _)) (onlyReplies_record _ _ _ _)
  have hslot := onlyReplies_replySlots s (Tab.set none s.cmd.slots (slotKey r.ring r.seq)
    (some ⟨r, if st = .pending then none else some (s.mkReply r st fl (pay s))⟩)) s.cmd.waiting
  split
  · exact hslot.trans (onlyReplies_untold _ _)
  · exact hslot

/-! ### Refusals -/

/-- The answer of a command turned away with status `st` and payload `pay`. -/
def refusal (st : Status) (pay : State → List Nat) : Ans := { status := st, pay := pay }

theorem no_eq_refusal (st : Status) : no st = refusal st (fun _ => []) := rfl

theorem act_refusal (r : Running) (st : Status) (pay : State → List Nat) (s : State) :
    (actAndReply r (refusal st pay)).act s = (replyTo r st 0 pay).act s := by
  simp [actAndReply, refusal]

section
variable {op : OpDef} {h : CmdHdr} {p : List Word} {s : State} {st : Status} {pay : State → List Nat}

/-- An accepted command whose body refuses gives its reply and does nothing else. -/
theorem felwin_refusal (a : Accepted op h p s) (hb : op.body h (p.map (·.toNat)) s = refusal st pay) :
    (felwin op h p).act s = (replyTo (runOf h op.code (p.map (·.toNat))) st 0 pay).act s := by
  rw [felwin_accepted a, hb, act_refusal]

theorem felwin_refusal_onlyReplies (a : Accepted op h p s) (hb : op.body h (p.map (·.toNat)) s = refusal st pay) :
    OnlyReplies s ((felwin op h p).act s) := by
  rw [felwin_refusal a hb]; exact onlyReplies_replyTo _ _ _ _ _

theorem felwin_refusal_slotReply (a : Accepted op h p s) (hb : op.body h (p.map (·.toNat)) s = refusal st pay) (hst : st ≠ .pending) :
    ((felwin op h p).act s).slotReply h = some (s.mkReply (runOf h op.code (p.map (·.toNat))) st 0 (pay s)) := by
  have hslot := replyTo_slot (runOf h op.code (p.map (·.toNat))) st 0 pay s (by simp [runOf, a.hold])
  rw [if_neg hst, ← felwin_refusal a hb] at hslot
  exact congrArg (·.bind Slot.reply) hslot

theorem felwin_refusal_replied (a : Accepted op h p s) (hb : op.body h (p.map (·.toNat)) s = refusal st pay) (hst : st ≠ .pending) :
    ((felwin op h p).act s).replied h st := by
  rw [State.replied, felwin_refusal_slotReply a hb hst]; rfl

/-- A unit with no stale mask to report adds nothing to a reply's payload (R535). -/
theorem mkReply_payload_of_plain (hs : s.plain) (r : Running) (st : Status) (fl : Nat) (pay : List Nat) :
    (s.mkReply r st fl pay).payload = pay.map (· % 2 ^ 32) := by
  have hstale : s.staleFlag r.session = 0 := by rcases hs with hs | hs <;> simp [State.staleFlag, hs, b2n]
  simp [State.mkReply, hstale]

theorem felwin_refusal_payload (a : Accepted op h p s) (hb : op.body h (p.map (·.toNat)) s = refusal st pay) (hst : st ≠ .pending)
    (hs : s.plain) : ((felwin op h p).act s).payload h = (pay s).map (· % 2 ^ 32) := by
  rw [State.payload, felwin_refusal_slotReply a hb hst]
  exact mkReply_payload_of_plain hs _ _ _ _

end

/-- A command whose body answers `no st` where `C` holds is refused there with `st`. -/
theorem refuses_of_body {c : CmdHdr → List Word → Instr} {op : OpDef} {C : List Nat → State → Prop} {st : Status} (hst : st ≠ .pending)
    (hc : ∀ h p s, exec (c h p) s = perform (felwin op h p) s) (hb : ∀ h p s, C p s → op.body h p s = no st) : Refuses c op C st := by
  intro h p s a hC
  have hno := (hb h _ s hC).trans (no_eq_refusal st)
  exact ⟨_, hc h p s, felwin_refusal_replied a hno hst, felwin_refusal_onlyReplies a hno⟩

theorem w32_mod (z : Int) : w32 z % 2 ^ 32 = w32 z := Nat.mod_eq_of_lt (by unfold w32 toPat; omega)

/-- A plan load whose body refuses for want of width completes with NO_RESOURCE and the missing width (R56). -/
theorem completes_shortfall {c : Instr} {op : OpDef} {h : CmdHdr} {p : List Word} {s : State} {m n : Nat} {ws : List Nat} {pay : State → List Nat}
    (hc : exec c s = perform (felwin op h p) s) (a : Accepted op h p s) (hs : s.plain)
    (hb : op.body h (p.map (·.toNat)) s = refusal .noResource pay) (hp : pay s = [shortfall m n ws]) :
    Completes c s (fun t => t.replied h .noResource ∧ OnlyReplies s t ∧ t.payload h = [w32 ((wMin m n : Int) - (sumE ws : Int))]) := by
  refine ⟨_, hc, felwin_refusal_replied a hb (by decide), felwin_refusal_onlyReplies a hb, ?_⟩
  rw [felwin_refusal_payload a hb (by decide) hs, hp, shortfall, List.map_singleton, w32_mod]

/-! ### What the line refuses -/

/-- What the ASK1600 does not have: the wide modes, and more than 16 slices of mode code 11 (R3). -/
theorem modeOk_ask1600_eq_false {m n : Nat} (h : m = 1 ∨ m = 2 ∨ (m = 11 ∧ 16 < n)) : modeOk true m n = false := by
  rcases h with rfl | rfl | ⟨rfl, hn⟩
  · rfl
  · rfl
  · simp [modeOk, hn]

theorem opLtxModeSet_body_of_not_modeOk (h : CmdHdr) {p : List Nat} {s : State} (hl : s.lit = false)
    (hm : modeOk s.is1600 (nth p 0) (nth p 1) = false) : opLtxModeSet.body h p s = no .range := by
  simp [opLtxModeSet, hl, hm]

theorem opLrxModeSet_body_of_not_modeOk (h : CmdHdr) {p : List Nat} {s : State} (he : s.on LRX_CTRL.RX_EN = false)
    (hm : modeOk s.is1600 (nth p 0) (nth p 1) = false) : opLrxModeSet.body h p s = no .range := by
  simp [opLrxModeSet, he, hm]

/-- Every protection mode but duplicate computation is out of the ASK1600's range (R4). -/
theorem protRefused_ask1600 {s : State} {v : Nat} (hs : s.is1600 = true) (hv : v ≠ 1) : s.protRefused v = some .range := by
  have hout : 1 < v ∨ (v = 0 ∧ s.is1600) := by
    rcases Nat.eq_zero_or_pos v with h0 | hpos
    · exact .inr ⟨h0, hs⟩
    · exact .inl (by omega)
  rw [State.protRefused, if_pos hout]

theorem opVnrCfg_body_of_protRefused (h : CmdHdr) {p : List Nat} {s : State} {st : Status} (hw : wordOk [VNR_LA_CFG.HOLD] (nth p 1) = true)
    (hv : s.protRefused (VNR_CTRL.PROT_MODE.raw (nth p 0)) = some st) : opVnrCfg.body h p s = no st := by
  simp [opVnrCfg, hw, hv]

theorem opLtxPlanLoad_body_of_short (h : CmdHdr) {p : List Nat} {s : State} (hp : s.on LTX_STATUS.PLAN_PENDING = false)
    (ht : s.on LRX_ADAPT_CFG.TX_EN = false) (hk : planCheck s.txMode s.txN true (nth p 0) (loadWords (p.drop 1)) = some 6) :
    opLtxPlanLoad.body h p s = refusal .noResource (fun t => [shortfall t.txMode t.txN (loadWords (p.drop 1))]) := by
  simp only [opLtxPlanLoad, hp, ht, hk, Bool.or_self, Bool.false_eq_true, if_false]; rfl

theorem opLrxRplanLoad_body_of_short (h : CmdHdr) {p : List Nat} {s : State}
    (hk : s.rplanRefusal (nth p 0) (loadWords (p.drop 1)) = some .noResource) :
    opLrxRplanLoad.body h p s = refusal .noResource (fun _ => [shortfall s.rxMode s.rxN (loadWords (p.drop 1))]) := by
  simp only [opLrxRplanLoad, hk]; rfl

/-- Settles O50: each command's body refuses in the states its clause names, and a refusal leaves only its reply. -/
theorem lineRefusals : Obligations.LineRefusals := by
  refine ⟨?_, ?_, ?_, ?_, ?_⟩
  · refine refuses_of_body (by decide) (fun _ _ _ => rfl) ?_
    rintro h p s ⟨hs, hl, hm⟩
    exact opLtxModeSet_body_of_not_modeOk h hl (by rw [hs]; exact modeOk_ask1600_eq_false hm)
  · refine refuses_of_body (by decide) (fun _ _ _ => rfl) ?_
    rintro h p s ⟨hs, he, hm⟩
    exact opLrxModeSet_body_of_not_modeOk h he (by rw [hs]; exact modeOk_ask1600_eq_false hm)
  · refine refuses_of_body (by decide) (fun _ _ _ => rfl) ?_
    rintro h p s ⟨hs, hw, hv⟩
    exact opVnrCfg_body_of_protRefused h hw (protRefused_ask1600 hs hv)
  · intro h p s a hs hp ht hk
    exact completes_shortfall rfl a hs (opLtxPlanLoad_body_of_short h hp ht hk) rfl
  · intro h p s a hs hk
    exact completes_shortfall rfl a hs (opLrxRplanLoad_body_of_short h hk) rfl

end Sys2Proof.Machine

/-!
What the calibration refuses: while a foreground run is in progress or a commit writes (R215), and a run asked for while the references are bad (R187).
-/
namespace Sys2Proof.Machine
open Sys2Proof

/-- A parameter within its bounds passes the range checks that come before all others of CAL_RUN and CAL_COMMIT. -/
theorem not_out_of_bounds {k n : Nat} (hk : 1 ≤ k ∧ k ≤ n) : ¬ (k = 0 ∨ n < k) := by omega

section
variable (vdev fdev : Int) (h : CmdHdr) {p : List Nat} {s : State}
  (hk : 1 ≤ nth p 0 ∧ nth p 0 ≤ 7) (hr : 1 ≤ nth p 1 ∧ nth p 1 ≤ 10)
include hk hr

theorem opCalRun_body_of_fgBusy (hf : s.on CNV_STATUS.FG_BUSY = true) : (opCalRun vdev fdev).body h p s = no .busy := by
  simp [opCalRun, not_out_of_bounds hk, not_out_of_bounds hr, hf]

/-- A run whose converters are out of traffic comes to the check of the references (R198, R187). -/
theorem opCalRun_body_of_refBad (hf : s.on CNV_STATUS.FG_BUSY = false) (ho : s.runOk (nth p 0) = true)
    (hb : s.on CNV_STATUS.REF_BAD = true) : (opCalRun vdev fdev).body h p s = no .noResource := by
  simp [opCalRun, not_out_of_bounds hk, not_out_of_bounds hr, hf, ho, hb]

end

theorem opCalCommit_body_of_busy (vdd : Bool) (h : CmdHdr) {p : List Nat} {s : State} (hk : 1 ≤ nth p 0 ∧ nth p 0 ≤ 255)
    (hb : s.on CNV_STATUS.FG_BUSY = true ∨ s.cnv.commit.isSome = true) : (opCalCommit vdd).body h p s = no .busy := by
  simp [opCalCommit, not_out_of_bounds hk, hb]

theorem opCalLoad_body_of_fgBusy (h : CmdHdr) (p : List Nat) {s : State} (hf : s.on CNV_STATUS.FG_BUSY = true) :
    opCalLoad.body h p s = no .busy := by
  simp [opCalLoad, hf]

/-- Settles O51: where each clause holds, the command's body comes past its earlier checks to the one that turns it away. -/
theorem calibrationRefusals : Obligations.CalibrationRefusals := by
  refine ⟨fun v f => ?_, fun v => ?_, ?_, fun v f => ?_⟩
  · refine refuses_of_body (by decide) (fun _ _ _ => rfl) ?_
    rintro h p s ⟨hk, hr, hf⟩
    exact opCalRun_body_of_fgBusy _ _ h hk hr hf
  · refine refuses_of_body (by decide) (fun _ _ _ => rfl) ?_
    rintro h p s ⟨hk, hb⟩
    exact opCalCommit_body_of_busy v h hk hb
  · refine refuses_of_body (by decide) (fun _ _ _ => rfl) ?_
    exact fun h p s hf => opCalLoad_body_of_fgBusy h p hf
  · refine refuses_of_body (by decide) (fun _ _ _ => rfl) ?_
    rintro h p s ⟨hk, hr, hf, ho, hb⟩
    exact opCalRun_body_of_refBad _ _ h hk hr hf ho hb

end Sys2Proof.Machine

/-!
What every step is: an effect performed, and an effect is a run of updates. From it: the step rule, the idle step, and the form of the state's tables, which each
update keeps (R470, R471, R578, R580).
-/
namespace Sys2Proof.Machine
open Sys2Proof

/-! ### A step is an effect performed -/

/-- Every command answers the state that some effect leaves. -/
theorem exec_performs (c : Instr) (s : State) : ∃ e : Eff, exec c s = .next (e.act s) := by
  cases c
  case intStatClear m b which w =>
    simp only [exec, execIntStatClear]
    split <;> exact ⟨_, rfl⟩
  all_goals exact ⟨_, rfl⟩

/-- A property that every update keeps holds after every effect. -/
theorem run_keeps {P : State → Prop} (h : ∀ (u : Upd) s, P s → P (u.apply s)) (us : List Upd) {s : State} (hs : P s) : P (run us s) := by
  induction us generalizing s with
  | nil => exact hs
  | cons u us ih => exact ih (h u s hs)

/-- A property that every update keeps, and that does not look at the queue, holds after every step. -/
theorem step_keeps {P : State → Prop} (h : ∀ (u : Upd) s, P s → P (u.apply s)) (hq : ∀ s cs, P s → P { s with pending := cs }) {s t : State}
    (hs : P s) (hst : step s = .next t) : P t := by
  simp only [step] at hst
  split at hst
  · injection hst with hst
    exact hst ▸ run_keeps h _ hs
  · obtain ⟨e, he⟩ := exec_performs _ _
    rw [he] at hst
    injection hst with hst
    exact hst ▸ run_keeps h _ (hq s _ hs)

/-- Settles O46: with `c` at the front of the queue `step` is by definition `exec c` on the state with the rest. -/
theorem stepRunsFront : Obligations.StepRunsFront := by
  intro c cs s h
  rw [step, h]

/-! ### The idle step -/

/-- The fields of the time of day that an exact count sets lie within their ranges. -/
theorem setTod_act (v : Int) (s : State) : ∃ a b c d, (setTod v).act s = { s with tod := { s.tod with sec := a, ns := b, frac := c, rem := d } } ∧
    b < 10 ^ 9 ∧ c < 2 ^ 32 := by
  refine ⟨_, _, _, _, rfl, Nat.mod_lt _ (by norm_num), ?_⟩
  rw [Nat.div_lt_iff_lt_mul (by norm_num)]
  exact lt_of_lt_of_eq (Nat.mod_lt _ (by unfold todUnit; norm_num)) (by unfold todUnit; norm_num)

/-- Settles O47: the tick is the only other update of the idle step, and the count is set through `setTod`. -/
theorem stepIdles : Obligations.StepIdles := by
  intro s h
  have hstep : step s = .next (todTick.act s) := by simp only [step, h]; rfl
  refine ⟨_, hstep, ?_⟩
  obtain ⟨a, b, c, d, htod, hb, hc⟩ := setTod_act s.todNext s
  simp only [todTick, act_seq_cons, act_seq_nil, act_dyn, act_whenE, act_upd, Upd.apply]
  split
  · rw [htod]
    exact ⟨rfl, rfl, fun _ _ => ⟨hc, hb⟩⟩
  · exact ⟨rfl, rfl, fun hf hn => ⟨hf, hn⟩⟩

/-! ### The form of a table -/

theorem Tab.sorted_cons {α : Type} (e : Nat × α) (t : Tab α) : Tab.sorted (e :: t) = true ↔ (∀ x ∈ t, e.1 < x.1) ∧ Tab.sorted t = true := by
  induction t generalizing e with
  | nil => simp [Tab.sorted]
  | cons x r ih =>
    have htrans : e.1 < x.1 → (∀ y ∈ r, x.1 < y.1) → ∀ y ∈ r, e.1 < y.1 := fun h hx y hy => h.trans (hx y hy)
    simp only [Tab.sorted, Bool.and_eq_true, decide_eq_true_eq, List.forall_mem_cons, ih x]
    tauto

/-- A sorted table is one whose keys rise pairwise. -/
theorem Tab.sorted_iff_pairwise {α : Type} (t : Tab α) : Tab.sorted t = true ↔ t.Pairwise (fun a b => a.1 < b.1) := by
  induction t with
  | nil => simp [Tab.sorted]
  | cons e r ih => rw [Tab.sorted_cons, List.pairwise_cons, ih]

theorem Tab.sorted_filter {α : Type} {t : Tab α} (h : Tab.sorted t = true) (p : Nat × α → Bool) : Tab.sorted (t.filter p) = true := by
  rw [Tab.sorted_iff_pairwise] at h ⊢
  exact h.filter p

theorem Tab.mem_insert {α : Type} {t : Tab α} {k : Nat} {v : α} {e : Nat × α} (h : e ∈ Tab.insert t k v) : e = (k, v) ∨ e ∈ t := by
  induction t with
  | nil => simpa [Tab.insert] using h
  | cons x r ih =>
    obtain ⟨k', v'⟩ := x
    simp only [Tab.insert] at h
    split at h
    · simpa using h
    · split at h <;> simp only [List.mem_cons] at h ⊢ <;> tauto

theorem Tab.sorted_insert {α : Type} {t : Tab α} (h : Tab.sorted t = true) (k : Nat) (v : α) : Tab.sorted (Tab.insert t k v) = true := by
  induction t with
  | nil => rfl
  | cons x r ih =>
    obtain ⟨k', v'⟩ := x
    obtain ⟨hlt, hr⟩ := (Tab.sorted_cons _ _).1 h
    simp only [Tab.insert]
    split
    · rename_i hk
      refine (Tab.sorted_cons _ _).2 ⟨?_, h⟩
      simp only [List.forall_mem_cons]
      exact ⟨hk, fun y hy => lt_trans hk (hlt y hy)⟩
    · split
      · subst_vars
        exact (Tab.sorted_cons _ _).2 ⟨hlt, hr⟩
      · refine (Tab.sorted_cons _ _).2 ⟨fun y hy => ?_, ih hr⟩
        rcases Tab.mem_insert hy with rfl | hy
        · simp only; omega
        · exact hlt y hy

theorem Tab.sorted_set {α : Type} [DecidableEq α] {t : Tab α} (h : Tab.sorted t = true) (d : α) (k : Nat) (v : α) :
    Tab.sorted (Tab.set d t k v) = true := by
  unfold Tab.set
  split
  · exact Tab.sorted_filter h _
  · exact Tab.sorted_insert h k v

theorem Tab.below_iff {b : Nat} {t : Tab Nat} : Tab.below b t = true ↔ Tab.sorted t = true ∧ ∀ e ∈ t, e.2 < b := by
  simp [Tab.below]

theorem Tab.below_filter {b : Nat} {t : Tab Nat} (h : Tab.below b t = true) (p : Nat × Nat → Bool) : Tab.below b (t.filter p) = true := by
  obtain ⟨hs, hb⟩ := Tab.below_iff.1 h
  exact Tab.below_iff.2 ⟨Tab.sorted_filter hs p, fun e he => hb e (List.mem_of_mem_filter he)⟩

theorem Tab.below_set {b : Nat} {t : Tab Nat} (h : Tab.below b t = true) (d k : Nat) {v : Nat} (hv : v < b) : Tab.below b (Tab.set d t k v) = true := by
  obtain ⟨hs, hb⟩ := Tab.below_iff.1 h
  refine Tab.below_iff.2 ⟨Tab.sorted_set hs d k v, fun e he => ?_⟩
  unfold Tab.set at he
  split at he
  · exact hb e (List.mem_of_mem_filter he)
  · rcases Tab.mem_insert he with rfl | he
    · exact hv
    · exact hb e he

/-! ### What the shared operations do

Raising an event, recording, queueing and signalling change the state by a few kinds of steps. A property that those steps keep, they keep. -/

/-- `P` is kept by the steps that the shared operations are made of: a write to a field of `W`, a counter of `J` or its wrap bit set, something sent,
and the event queue's and the observability block's own state. -/
structure Closed (W : Fld → Prop) (J : Nat → Prop) (P : State → Prop) : Prop where
  wr : ∀ s f i v, W f → P s → P (s.wr f i v)
  cnt : ∀ s j v, J j → P s → P { s with cnts := Tab.set 0 s.cnts j (v % 2 ^ 48) }
  wrap : ∀ s j, J j → P s → P { s with wraps := Tab.set 0 s.wraps j 1 }
  out : ∀ s o, P s → P { s with out := o :: s.out }
  sys : ∀ s a b c d, P s → P { s with sys := { s.sys with eqLost := a, eseq := b, coalOpen := c, coalDue := d } }
  obs : ∀ s a b c d, P s → P { s with obs := { s.obs with occ := a, trigDue := b, recs := c, lost := d } }

namespace Closed
variable {W : Fld → Prop} {J : Nat → Prop} {P : State → Prop} (c : Closed W J P) {s : State} (h : P s)
include c h

theorem count {j : Nat} (hj : J j) (n : Nat) : P (s.count j n) := by
  have hc := c.cnt s j (s.cnt j + n) hj h
  simp only [State.count]
  split
  · exact hc
  · exact c.obs _ _ _ _ _ (c.wrap _ j hj hc)

theorem signal (hw : ∀ f ∈ sharedFlds, W f) (v : Nat) : P (s.signal v) := by
  simp only [State.signal]
  split
  · exact c.out _ _ h
  · exact c.wr _ _ _ _ (hw _ (by simp [sharedFlds])) h

theorem setStat (hw : ∀ f ∈ sharedFlds, W f) {f : Fld} (hf : W f) (m : Nat) : P (s.setStat f m) := by
  have hp := c.wr s f 0 (s.rd f ||| m) hf h
  simp only [State.setStat]
  split
  · exact c.signal hp hw _
  · exact hp

theorem resignal (hw : ∀ f ∈ sharedFlds, W f) (b : Nat) : P (s.resignal b) := by
  simp only [State.resignal]
  split
  · exact c.signal h hw _
  · exact h

theorem signalQueue (hw : ∀ f ∈ sharedFlds, W f) : P s.signalQueue := by
  simp only [State.signalQueue]
  split_ifs
  · exact c.signal h hw _
  · exact c.sys s _ _ _ _ h
  · exact c.signal (c.sys s s.sys.eqLost s.sys.eseq true s.sys.coalDue h) hw _

theorem enqueue (hw : ∀ f ∈ sharedFlds, W f) (a d fl q t : Nat) (p : List Nat) : P (s.enqueue a d fl q t p) := by
  have hl : ∀ b, P { s with sys := { s.sys with eqLost := b } } := fun b => c.sys s b _ _ _ h
  simp only [State.enqueue]
  split_ifs
  · exact hl true
  · exact c.setStat (c.wr _ _ _ _ (hw _ (by simp [sharedFlds])) (hl true)) hw (hw _ (by simp [sharedFlds])) _
  · have hp := fun o => c.wr _ SYS_EQ_PROD.ALL 0 (s.rd SYS_EQ_PROD.ALL + 1) (hw _ (by simp [sharedFlds])) (c.out _ o (hl false))
    exact c.signalQueue (c.out _ _ (c.wr _ SYS_EQ_STAT.LEVEL 0 _ (hw _ (by simp [sharedFlds])) (hp _))) hw

theorem queueEvent (hw : ∀ f ∈ sharedFlds, W f) (id cls : Nat) (p : List Nat) : P (s.queueEvent id cls p) := by
  have hq := c.sys s s.sys.eqLost ((s.sys.eseq + 1) % 2 ^ 32) s.sys.coalOpen s.sys.coalDue h
  simp only [State.queueEvent]
  split
  · exact c.out _ _ hq
  · exact c.enqueue hq hw _ _ _ _ _ _

theorem record (hw : ∀ f ∈ sharedFlds, W f) (hj : J 64) (ty fl : Nat) (b : List Nat) : P (s.record ty fl b) := by
  have hr := c.wr s OBS_REC_RSEQ.ALL 0 ((s.rd OBS_REC_RSEQ.ALL + 1) % 2 ^ 32) (hw _ (by simp [sharedFlds])) h
  simp only [State.record]
  split_ifs
  · exact h
  · exact c.obs _ _ _ _ _ hr
  · exact c.count (c.obs _ _ _ _ _ hr) hj 1
  · exact c.obs _ _ _ _ _ hr

theorem raise (hw : ∀ f ∈ sharedFlds, W f) (hj : J 64) {e : Ev} (he : W e.stat) (hx : J (1024 + e.x)) (p : List Nat) : P (s.raise e p) := by
  have hc := c.count h hx 1
  have hs : P (match e.bit with | some b => (s.count (1024 + e.x) 1).setStat e.stat (2 ^ b) | none => s.count (1024 + e.x) 1) := by
    split
    · exact c.setStat hc hw he _
    · exact hc
  have hq : ∀ (b : Bool) x y z {t : State}, P t → P (if b then t.queueEvent x y z else t) := by
    intro b x y z t ht
    split
    · exact c.queueEvent ht hw _ _ _
    · exact ht
  have hr : ∀ (b : Bool) x y z {t : State}, P t → P (if b then t.record x y z else t) := by
    intro b x y z t ht
    split
    · exact c.record ht hw hj _ _ _
    · exact ht
  have ht : ∀ (b : Bool) x {t : State}, P t → P (if b then { t with obs := { t.obs with trigDue := x } } else t) := by
    intro b x t ht
    split
    · exact c.obs _ _ _ _ _ ht
    · exact ht
  exact ht _ _ (hr _ _ _ _ (hq _ _ _ _ hs))

end Closed

/-! ### The form of the state -/

theorem formed_iff (s : State) : s.formed = true ↔ Tab.sorted s.regs = true ∧ Tab.below (2 ^ 48) s.cnts = true ∧ Tab.below 2 s.wraps = true ∧
    Tab.below (2 ^ 48) s.bank = true ∧ Tab.below 2 s.bankWraps = true := by
  simp only [State.formed, Bool.and_eq_true, and_assoc]

theorem formed_closed : Closed (fun _ => True) (fun _ => True) (fun s => s.formed = true) where
  wr s f i v _ h := by
    obtain ⟨hr, hrest⟩ := (formed_iff s).1 h
    exact (formed_iff _).2 ⟨Tab.sorted_set hr _ _ _, hrest⟩
  cnt s j v _ h := by
    obtain ⟨hr, hc, hrest⟩ := (formed_iff s).1 h
    exact (formed_iff _).2 ⟨hr, Tab.below_set hc _ _ (Nat.mod_lt _ (by norm_num)), hrest⟩
  wrap s j _ h := by
    obtain ⟨hr, hc, hw, hrest⟩ := (formed_iff s).1 h
    exact (formed_iff _).2 ⟨hr, hc, Tab.below_set hw 0 j Nat.one_lt_two, hrest⟩
  out _ _ h := h
  sys _ _ _ _ _ h := h
  obs _ _ _ _ _ h := h

/-- Every update keeps the form. -/
theorem formed_apply (u : Upd) (s : State) (h : s.formed = true) : (u.apply s).formed = true := by
  have c := formed_closed
  have hw : ∀ f ∈ sharedFlds, True := fun _ _ => trivial
  obtain ⟨hr, hc, hv, hb, hx⟩ := (formed_iff s).1 h
  cases u
  case put f i v => exact c.wr s f i v trivial h
  case raise e p => exact c.raise h hw trivial trivial trivial p
  case stat f m => exact c.setStat h hw trivial m
  case resignal b => exact c.resignal h hw b
  case signal v => exact c.signal h hw v
  case enqueue a d fl q t p => exact c.enqueue h hw a d fl q t p
  case count j n => exact c.count h trivial n
  case preset j v => exact c.cnt s j v trivial h
  case unwrap js => exact (formed_iff _).2 ⟨hr, hc, Tab.below_filter hv _, hb, hx⟩
  case snapBank => exact c.wr { s.snap with bank := s.cnts, bankWraps := s.wraps } _ _ _ trivial ((formed_iff _).2 ⟨hr, hc, hv, hc, hv⟩)
  case record t f b => exact c.record h hw trivial t f b
  case clearRegs lo hi => exact (formed_iff _).2 ⟨Tab.sorted_filter hr _, hc, hv, hb, hx⟩
  case clearCnts lo hi => exact (formed_iff _).2 ⟨hr, Tab.below_filter hc _, Tab.below_filter hv _, hb, hx⟩
  case clearTime => exact (formed_iff _).2 ⟨hr, hc, hv, rfl, rfl⟩
  all_goals exact h

/-- Settles O53: a step is a run of updates, and each keeps the form. -/
theorem formKept : Obligations.FormKept := fun _ _ hs hst =>
  step_keeps (P := fun s => s.formed = true) formed_apply (fun _ _ h => h) hs hst

/-- Settles O55: the tables of the reset state are empty, so that every field and counter reads its default. -/
theorem resetState : Obligations.ResetState :=
  ⟨rfl, fun _ _ _ _ _ _ => Nat.mod_lt _ (Nat.two_pow_pos _), rfl, rfl, rfl, fun _ _ => rfl, fun _ => rfl⟩

end Sys2Proof.Machine

/-!
Footprints: what an effect may change, as a `May`, and how the footprints of effects come from those of their parts. An effect within a footprint keeps all
that `Keeps` names.
-/
namespace Sys2Proof.Machine
open Sys2Proof

/-! ### Footprints -/

/-- Two fields lie at the same places: their keys are the same. -/
def Fld.alike (f g : Fld) : Bool := f.off == g.off && f.lo == g.lo && f.width == g.width && f.stride == g.stride

theorem Fld.alike_refl (f : Fld) : f.alike f = true := by simp [Fld.alike]

theorem Fld.alike_iff {f g : Fld} : f.alike g = true ↔ f.off = g.off ∧ f.lo = g.lo ∧ f.width = g.width ∧ f.stride = g.stride := by
  simp [Fld.alike, and_assoc]

theorem Fld.alike_congr {f g : Fld} (h : f.alike g = true) : f.alike = g.alike := by
  obtain ⟨ho, hl, hw, hs⟩ := Fld.alike_iff.1 h
  funext x
  simp [Fld.alike, ho, hl, hw, hs]

theorem Fld.key_of_alike {f g : Fld} (h : f.alike g = true) (i : Nat) : f.key i = g.key i := by
  obtain ⟨ho, hl, hw, hs⟩ := Fld.alike_iff.1 h
  simp [Fld.key, ho, hl, hw, hs]

/-- What an effect may change: the fields, among them always those that events and replies share; the counters, among them always that of the
records discarded; the hidden parts; and whether registers may be cleared. -/
structure Foot where
  fld : Fld → Bool
  cnt : Nat → Bool
  has : Comp → Bool
  clears : Bool
  congr : ∀ {f g : Fld}, f.alike g = true → fld f = fld g
  shared : ∀ f ∈ sharedFlds, fld f = true
  discards : cnt 64 = true

/-- Whether the lists of a `May` name counter `j`: by an interval, by an event, or as that of the records discarded. -/
def May.moves (m : May) (j : Nat) : Bool :=
  j == 64 || m.cnts.any (fun r => decide (r.1 ≤ j ∧ j < r.1 + r.2)) || m.evs.any (fun e => j == 1024 + e.x)

/-- The footprint that the lists of a `May` name. -/
def May.foot (m : May) : Foot where
  fld f := (sharedFlds ++ m.flds).any f.alike
  cnt := m.moves
  has := m.comps.contains
  clears := false
  congr h := by rw [Fld.alike_congr h]
  shared f hf := List.any_eq_true.2 ⟨f, List.mem_append_left _ hf, f.alike_refl⟩
  discards := by simp [May.moves]

/-- The widest footprint: all but fields wider than a key tells. -/
def Foot.wide : Foot where
  fld f := decide (f.width < 128)
  cnt _ := true
  has _ := true
  clears := true
  congr h := by rw [(Fld.alike_iff.1 h).2.2.1]
  shared := by decide +kernel
  discards := rfl

/-- A footprint has the event: its counter and its status register. -/
def Foot.ev (F : Foot) (e : Ev) : Bool := F.cnt (1024 + e.x) && F.fld e.stat

/-- A change of the system block that leaves all but the event queue's own state. -/
@[simp] def keepsSys (g : SysSt → SysSt) : Prop := ∀ x, { g x with eqLost := x.eqLost, eseq := x.eseq, coalOpen := x.coalOpen, coalDue := x.coalDue } = x

/-- A change of the observability block that leaves all but what events and records leave there. -/
@[simp] def keepsObs (g : ObsSt → ObsSt) : Prop := ∀ x, { g x with occ := x.occ, trigDue := x.trigDue, recs := x.recs, lost := x.lost } = x

/-- A change of the command block that leaves all but the reply slots and the waiting replies. -/
@[simp] def keepsCmd (g : CmdSt → CmdSt) : Prop := ∀ x, { g x with slots := x.slots, waiting := x.waiting } = x

/-- A change of the command block that leaves the reply slots and the waiting replies. -/
@[simp] def keepsSlots (g : CmdSt → CmdSt) : Prop := ∀ x, (g x).slots = x.slots ∧ (g x).waiting = x.waiting

/-- A change of the pair's state that leaves all but the journal and the sessions told. -/
@[simp] def keepsPair (g : PairSt → PairSt) : Prop := ∀ x, { g x with
  wait := x.wait, kept := x.kept, keptBytes := x.keptBytes, cutBytes := x.cutBytes, jcut := x.jcut, untold := x.untold } = x

/-- A change of the pair's state that leaves the journal. -/
@[simp] def keepsJournal (g : PairSt → PairSt) : Prop := ∀ x,
  (g x).wait = x.wait ∧ (g x).kept = x.kept ∧ (g x).keptBytes = x.keptBytes ∧ (g x).cutBytes = x.cutBytes ∧ (g x).jcut = x.jcut

/-- A change of the pair's state that leaves the sessions told of a promotion. -/
@[simp] def keepsTold (g : PairSt → PairSt) : Prop := ∀ x, (g x).untold = x.untold

/-- The updates a footprint allows. -/
def Foot.allows (F : Foot) : Upd → Prop
  | .put f _ _ => F.fld f = true
  | .raise e _ => F.ev e = true
  | .stat f _ => F.fld f = true
  | .count j _ => F.cnt j = true
  | .preset j _ => F.cnt j = true
  | .unwrap js => ∀ j ∈ js, F.cnt j = true
  | .snap => F.has .bank = true
  | .snapBank => F.has .bank = true ∧ F.fld OBS_SNAP.GEN = true
  | .drawn => F.has .draws = true
  | .tick => F.has .tick = true
  | .clearRegs _ _ => F.clears = true
  | .clearCnts lo hi => ∀ j, lo ≤ j → j < hi → F.cnt j = true
  | .clearTime => F.has .bank = true ∧ F.has .tick = true
  | .occur .. | .resignal _ | .signal _ | .enqueue .. | .record .. | .emit _ => True
  | .fuse _ => F.has .fuse = true
  | .sys g => F.has .sys = true ∨ keepsSys g
  | .obs g => F.has .obs = true ∨ keepsObs g
  | .cmd g => (F.has .cmd = true ∨ keepsCmd g) ∧ (F.has .slots = true ∨ keepsSlots g)
  | .pair g => (F.has .pair = true ∨ keepsPair g) ∧ (F.has .journal = true ∨ keepsJournal g) ∧ (F.has .told = true ∨ keepsTold g)
  | .eng _ => F.has .eng = true
  | .tod _ => F.has .tod = true
  | .sec _ => F.has .sec = true
  | .pwr _ => F.has .pwr = true
  | .ltx _ => F.has .ltx = true
  | .lrx _ => F.has .lrx = true
  | .adapt _ => F.has .adapt = true
  | .cnv _ => F.has .cnv = true
  | .fec _ => F.has .fec = true
  | .cli _ => F.has .cli = true
  | .vnr _ => F.has .vnr = true
  | .srd _ => F.has .srd = true
  | .frm _ => F.has .frm = true
  | .scr _ => F.has .scr = true
  | .ref _ => F.has .ref = true
  | .mon _ => F.has .mon = true

theorem Tab.get_filter_of_keeps {d : Nat} {t : Tab Nat} {p : Nat × Nat → Bool} {k : Nat} (h : ∀ v, p (k, v) = true) : Tab.get d (t.filter p) k = Tab.get d t k := by
  induction t with
  | nil => rfl
  | cons e r ih =>
    obtain ⟨k', v⟩ := e
    by_cases hk : k = k'
    · subst hk; simp [h v, Tab.get]
    · by_cases hp : p (k', v) = true <;> simp [hp, Tab.get, hk, ih]

theorem Tab.get_filter_of_drops {d : Nat} {t : Tab Nat} {p : Nat × Nat → Bool} {k : Nat} (h : ∀ v, ¬ p (k, v) = true) : Tab.get d (t.filter p) k = d := by
  induction t with
  | nil => rfl
  | cons e r ih =>
    obtain ⟨k', v⟩ := e
    by_cases hk : k = k'
    · subst hk; simp [h v, ih]
    · by_cases hp : p (k', v) = true <;> simp [hp, Tab.get, hk, ih]

/-- Every footprint has the fields that events, records and replies share, and the counter of the records discarded. -/
@[simp] theorem Foot.has_shared (F : Foot) : F.cnt 64 = true ∧
    F.fld SYS_INT_STAT.ALL = true ∧ F.fld LTX_INT_STAT.ALL = true ∧ F.fld LRX_INT_STAT.ALL = true ∧ F.fld LRX_CR_INT_STAT.ALL = true ∧ F.fld
    CNV_INT_STAT.ALL = true ∧ F.fld FEC_INT_STAT.ALL = true ∧ F.fld FRM_INT_STAT.ALL = true ∧ F.fld CLI_INT_STAT.ALL = true ∧ F.fld SRD_INT_STAT.ALL =
    true ∧ F.fld VNR_INT_STAT.ALL = true ∧ F.fld SCR_INT_STAT.ALL = true ∧ F.fld REF_INT_STAT.ALL = true ∧ F.fld TOD_INT_STAT.ALL = true ∧ F.fld
    PAIR_INT_STAT.ALL = true ∧ F.fld MON_INT_STAT.ALL = true ∧ F.fld OBS_INT_STAT.ALL = true ∧ F.fld ENG_INT_STAT.ALL = true ∧ F.fld SEC_INT_STAT.ALL =
    true ∧ F.fld PWR_INT_STAT.ALL = true ∧ F.fld CMD_INT_STAT.ALL = true ∧ F.fld MSIX_PBA.ALL = true ∧ F.fld SYS_EQ_STAT.LOST = true ∧ F.fld
    SYS_EQ_STAT.LEVEL = true ∧ F.fld SYS_EQ_PROD.ALL = true ∧ F.fld OBS_REC_RSEQ.ALL = true := by
  have h := F.shared
  simp only [sharedFlds, List.forall_mem_cons] at h
  exact ⟨F.discards, by simpa using h⟩

/-! ### An update within a footprint keeps the rest -/

theorem Comp.same_refl (c : Comp) (s : State) : c.same s s := by cases c <;> simp only [Comp.same, and_self]

theorem keeps_refl (m : May) (s : State) : Keeps m s s where
  queue := rfl
  sent := List.suffix_rfl
  flds _ _ _ := rfl
  cnts _ _ _ _ := ⟨rfl, rfl⟩
  comps c _ := c.same_refl s

/-- The counters that a `May` does not name lie outside its intervals and are no event's. -/
theorem May.moves_eq_false {m : May} {j : Nat} :
    m.moves j = false ↔ j ≠ 64 ∧ (∀ r ∈ m.cnts, j < r.1 ∨ r.1 + r.2 ≤ j) ∧ ∀ e ∈ m.evs, j ≠ 1024 + e.x := by
  simp only [May.moves, Bool.or_eq_false_iff, List.any_eq_false, decide_eq_true_eq, beq_iff_eq, beq_eq_false_iff_ne, and_assoc]
  exact and_congr_right fun _ => and_congr_left fun _ => forall_congr' fun r => forall_congr' fun _ => by omega

section
variable {m : May} {s t : State}

/-- What a `May` leaves is left by a further step that changes no table and no part but those it has. -/
theorem Keeps.step (k : Keeps m s t) {u : State} (hq : u.pending = t.pending) (ho : t.out <:+ u.out)
    (hf : ∀ f i, (∀ g ∈ m.flds ++ sharedFlds, ∀ j, f.key i ≠ g.key j) → u.rd f i = t.rd f i)
    (hc : ∀ j, m.moves j = false → u.cnt j = t.cnt j ∧ Tab.get 0 u.wraps j = Tab.get 0 t.wraps j)
    (hs : ∀ c, c ∉ m.comps → c.same t u) : Keeps m s u where
  queue := hq.trans k.queue
  sent := k.sent.trans ho
  flds f i h := (hf f i h).trans (k.flds f i h)
  cnts j h64 hr he := by
    obtain ⟨h1, h2⟩ := hc j (May.moves_eq_false.2 ⟨h64, hr, he⟩)
    obtain ⟨h3, h4⟩ := k.cnts j h64 hr he
    exact ⟨h1.trans h3, h2.trans h4⟩
  comps c h := Comp.same_trans (k.comps c h) (hs c h)

theorem Keeps.trans {u : State} (h₁ : Keeps m s t) (h₂ : Keeps m t u) : Keeps m s u :=
  h₁.step h₂.queue h₂.sent h₂.flds (fun j h => by
    obtain ⟨h64, hr, he⟩ := May.moves_eq_false.1 h
    exact h₂.cnts j h64 hr he) h₂.comps

/-- A step that leaves the tables and the queue keeps what a `May` without the parts it changes leaves. -/
theorem Keeps.part (k : Keeps m s t) {u : State} (hq : u.pending = t.pending) (ho : t.out <:+ u.out) (hr : u.regs = t.regs) (hc : u.cnts = t.cnts)
    (hw : u.wraps = t.wraps) (hs : ∀ c, c ∉ m.comps → c.same t u) : Keeps m s u :=
  k.step hq ho (fun f i _ => rd_congr hr f i) (fun j _ => ⟨by simp [State.cnt, hc], by rw [hw]⟩) hs

/-- What a `May` leaves is left by the steps the shared operations are made of. -/
theorem keeps_closed (m : May) (s : State) : Closed (fun f => m.foot.fld f = true) (fun j => m.foot.cnt j = true) (Keeps m s) where
  wr t f i v hf k := k.step rfl List.suffix_rfl (fun g j hg => by
      obtain ⟨x, hx, hfx⟩ := List.any_eq_true.1 hf
      refine rd_wr_ne _ _ _ _ _ _ ?_
      rw [Fld.key_of_alike hfx]
      exact hg x (by simpa [or_comm] using hx) i) (fun _ _ => ⟨rfl, rfl⟩) (fun c _ => by cases c <;> simp [Comp.same])
  cnt t j v hj k := k.step rfl List.suffix_rfl (fun _ _ _ => rfl) (fun x hx => by
      have hne : x ≠ j := by rintro rfl; exact absurd hx (by simpa [May.foot] using hj)
      exact ⟨by simp [State.cnt, Tab.get_set, hne], rfl⟩) (fun c _ => by cases c <;> simp [Comp.same])
  wrap t j hj k := k.step rfl List.suffix_rfl (fun _ _ _ => rfl) (fun x hx => by
      have hne : x ≠ j := by rintro rfl; exact absurd hx (by simpa [May.foot] using hj)
      exact ⟨rfl, by simp [Tab.get_set, hne]⟩) (fun c _ => by cases c <;> simp [Comp.same])
  out t o k := k.part rfl (List.suffix_cons _ _) rfl rfl rfl (fun c _ => by cases c <;> simp [Comp.same])
  sys t _ _ _ _ k := k.part rfl List.suffix_rfl rfl rfl rfl (fun c _ => by cases c <;> simp [Comp.same])
  obs t _ _ _ _ k := k.part rfl List.suffix_rfl rfl rfl rfl (fun c _ => by cases c <;> simp [Comp.same])

/-- An update that the footprint of a `May` allows keeps what the `May` leaves. -/
theorem keeps_apply {u : Upd} (h : m.foot.allows u) (k : Keeps m s t) : Keeps m s (u.apply t) := by
  have c := keeps_closed m s
  have hw : ∀ f ∈ sharedFlds, m.foot.fld f = true := m.foot.shared
  have h64 := m.foot.discards
  have hcomp : ∀ c, m.foot.has c = true → c ∈ m.comps := fun c hc => by simpa [May.foot] using hc
  cases u <;> simp only [Foot.allows, Foot.ev, Bool.and_eq_true] at h
  case put f i v => exact c.wr t f i v h k
  case raise e p => exact c.raise k hw h64 h.2 h.1 p
  case occur e i b it => exact c.obs t _ _ _ _ k
  case stat f x => exact c.setStat k hw h x
  case resignal b => exact c.resignal k hw b
  case signal v => exact c.signal k hw v
  case enqueue a d fl q x p => exact c.enqueue k hw a d fl q x p
  case count j n => exact c.count k h n
  case preset j v => exact c.cnt t j v h k
  case unwrap js =>
    refine k.step rfl List.suffix_rfl (fun _ _ _ => rfl) (fun j hj => ⟨rfl, ?_⟩) (fun c _ => by cases c <;> simp [Comp.same, Upd.apply])
    have hmem : j ∉ js := fun hm => absurd hj (by simpa [May.foot] using h j hm)
    exact Tab.get_filter_of_keeps (fun v => by simp [hmem])
  case snapBank =>
    have hb : Keeps m s { t.snap with bank := t.cnts, bankWraps := t.wraps } :=
      k.part rfl List.suffix_rfl rfl rfl rfl (fun c hc => by
        have := hcomp _ h.1
        cases c <;> simp_all [Comp.same, State.snap])
    exact c.wr _ _ _ _ h.2 hb
  case record ty fl b => exact c.record k hw h64 ty fl b
  case emit o => exact c.out t o k
  case clearRegs lo hi => exact absurd h (by simp [May.foot])
  case clearCnts lo hi =>
    refine k.step rfl List.suffix_rfl (fun _ _ _ => rfl) (fun j hj => ?_) (fun c _ => by cases c <;> simp [Comp.same, Upd.apply])
    have hout : decide (j < lo ∨ hi ≤ j) = true := by
      by_contra hin
      rw [decide_eq_true_eq, not_or, not_lt, not_le] at hin
      exact absurd hj (by simpa [May.foot] using h j hin.1 hin.2)
    exact ⟨Tab.get_filter_of_keeps (fun _ => hout), Tab.get_filter_of_keeps (fun _ => hout)⟩
  case clearTime =>
    have h1 := hcomp _ h.1
    have h2 := hcomp _ h.2
    exact k.part rfl List.suffix_rfl rfl rfl rfl (fun c hc => by cases c <;> simp_all [Comp.same, Upd.apply])
  case sys g =>
    refine k.part rfl List.suffix_rfl rfl rfl rfl (fun c hc => ?_)
    cases c <;> simp only [Comp.same, Upd.apply, and_self]
    exact (h.resolve_left fun hm => hc (hcomp _ hm)) _
  case obs g =>
    refine k.part rfl List.suffix_rfl rfl rfl rfl (fun c hc => ?_)
    cases c <;> simp only [Comp.same, Upd.apply, and_self]
    exact (h.resolve_left fun hm => hc (hcomp _ hm)) _
  case cmd g =>
    refine k.part rfl List.suffix_rfl rfl rfl rfl (fun c hc => ?_)
    cases c <;> simp only [Comp.same, Upd.apply, and_self]
    · exact (h.1.resolve_left fun hm => hc (hcomp _ hm)) _
    · exact (h.2.resolve_left fun hm => hc (hcomp _ hm)) _
  case pair g =>
    refine k.part rfl List.suffix_rfl rfl rfl rfl (fun c hc => ?_)
    cases c <;> simp only [Comp.same, Upd.apply, and_self]
    · exact (h.1.resolve_left fun hm => hc (hcomp _ hm)) _
    · exact (h.2.1.resolve_left fun hm => hc (hcomp _ hm)) _
    · exact (h.2.2.resolve_left fun hm => hc (hcomp _ hm)) _
  all_goals
    have h1 := hcomp _ h
    exact k.part rfl List.suffix_rfl rfl rfl rfl (fun c hc => by cases c <;> simp_all [Comp.same, Upd.apply, State.snap])

end

/-! ### What the footprint allows of each part -/

section
variable {F : Foot}

@[simp] theorem allows_signal (v : Nat) : F.allows (.signal v) := trivial
@[simp] theorem allows_resignal (b : Nat) : F.allows (.resignal b) := trivial
@[simp] theorem allows_emit (o : Output) : F.allows (.emit o) := trivial
@[simp] theorem allows_record (t f : Nat) (b : List Nat) : F.allows (.record t f b) := trivial
@[simp] theorem allows_enqueue (a i f q t : Nat) (p : List Nat) : F.allows (.enqueue a i f q t p) := trivial
@[simp] theorem allows_put_iff (f : Fld) (i v : Nat) : F.allows (.put f i v) ↔ F.fld f = true := Iff.rfl
@[simp] theorem allows_stat_iff (f : Fld) (x : Nat) : F.allows (.stat f x) ↔ F.fld f = true := Iff.rfl
@[simp] theorem allows_raise_iff (e : Ev) (p : List Nat) : F.allows (.raise e p) ↔ F.ev e = true := Iff.rfl
@[simp] theorem allows_count_iff (j n : Nat) : F.allows (.count j n) ↔ F.cnt j = true := Iff.rfl
@[simp] theorem allows_preset_iff (j n : Nat) : F.allows (.preset j n) ↔ F.cnt j = true := Iff.rfl
@[simp] theorem allows_snap_iff : F.allows .snap ↔ F.has .bank = true := Iff.rfl
@[simp] theorem allows_snapBank_iff : F.allows .snapBank ↔ F.has .bank = true ∧ F.fld OBS_SNAP.GEN = true := Iff.rfl
@[simp] theorem allows_drawn_iff : F.allows .drawn ↔ F.has .draws = true := Iff.rfl
@[simp] theorem allows_tick_iff : F.allows .tick ↔ F.has .tick = true := Iff.rfl
@[simp] theorem allows_clearRegs_iff (lo hi : Nat) : F.allows (.clearRegs lo hi) ↔ F.clears = true := Iff.rfl
@[simp] theorem allows_clearTime_iff : F.allows .clearTime ↔ F.has .bank = true ∧ F.has .tick = true := Iff.rfl
@[simp] theorem allows_clearCnts_iff (lo hi : Nat) : F.allows (.clearCnts lo hi) ↔ ∀ j, lo ≤ j → j < hi → F.cnt j = true := Iff.rfl
@[simp] theorem allows_fuse_iff (g : Fuses → Fuses) : F.allows (.fuse g) ↔ F.has .fuse = true := Iff.rfl
@[simp] theorem allows_sys (g : SysSt → SysSt) (h : F.has .sys = true) : F.allows (.sys g) := .inl h
@[simp] theorem allows_obs (g : ObsSt → ObsSt) (h : F.has .obs = true) : F.allows (.obs g) := .inl h
@[simp] theorem allows_cmd (g : CmdSt → CmdSt) (h : F.has .cmd = true) (hs : F.has .slots = true) : F.allows (.cmd g) := ⟨.inl h, .inl hs⟩
@[simp] theorem allows_pair (g : PairSt → PairSt) (h : F.has .pair = true) (hj : F.has .journal = true) (ht : F.has .told = true) : F.allows (.pair g) :=
  ⟨.inl h, .inl hj, .inl ht⟩
@[simp] theorem allows_eng_iff (g : EngSt → EngSt) : F.allows (.eng g) ↔ F.has .eng = true := Iff.rfl
@[simp] theorem allows_tod_iff (g : TodSt → TodSt) : F.allows (.tod g) ↔ F.has .tod = true := Iff.rfl
@[simp] theorem allows_sec_iff (g : SecSt → SecSt) : F.allows (.sec g) ↔ F.has .sec = true := Iff.rfl
@[simp] theorem allows_pwr_iff (g : PwrSt → PwrSt) : F.allows (.pwr g) ↔ F.has .pwr = true := Iff.rfl
@[simp] theorem allows_ltx_iff (g : LtxSt → LtxSt) : F.allows (.ltx g) ↔ F.has .ltx = true := Iff.rfl
@[simp] theorem allows_lrx_iff (g : LrxSt → LrxSt) : F.allows (.lrx g) ↔ F.has .lrx = true := Iff.rfl
@[simp] theorem allows_adapt_iff (g : AdaptSt → AdaptSt) : F.allows (.adapt g) ↔ F.has .adapt = true := Iff.rfl
@[simp] theorem allows_cnv_iff (g : CnvSt → CnvSt) : F.allows (.cnv g) ↔ F.has .cnv = true := Iff.rfl
@[simp] theorem allows_fec_iff (g : FecSt → FecSt) : F.allows (.fec g) ↔ F.has .fec = true := Iff.rfl
@[simp] theorem allows_cli_iff (g : CliSt → CliSt) : F.allows (.cli g) ↔ F.has .cli = true := Iff.rfl
@[simp] theorem allows_vnr_iff (g : VnrSt → VnrSt) : F.allows (.vnr g) ↔ F.has .vnr = true := Iff.rfl
@[simp] theorem allows_srd_iff (g : SrdSt → SrdSt) : F.allows (.srd g) ↔ F.has .srd = true := Iff.rfl
@[simp] theorem allows_frm_iff (g : FrmSt → FrmSt) : F.allows (.frm g) ↔ F.has .frm = true := Iff.rfl
@[simp] theorem allows_scr_iff (g : ScrSt → ScrSt) : F.allows (.scr g) ↔ F.has .scr = true := Iff.rfl
@[simp] theorem allows_ref_iff (g : RefSt → RefSt) : F.allows (.ref g) ↔ F.has .ref = true := Iff.rfl
@[simp] theorem allows_mon_iff (g : MonSt → MonSt) : F.allows (.mon g) ↔ F.has .mon = true := Iff.rfl

@[simp] theorem allows_pair_own_iff (g : PairSt → PairSt) (h : F.has .pair = true) :
    F.allows (.pair g) ↔ (F.has .journal = true ∨ keepsJournal g) ∧ (F.has .told = true ∨ keepsTold g) := by
  simp only [Foot.allows, h, true_or, true_and]
@[simp] theorem allows_pair_journal_iff (g : PairSt → PairSt) (h : F.has .journal = true) :
    F.allows (.pair g) ↔ (F.has .pair = true ∨ keepsPair g) ∧ (F.has .told = true ∨ keepsTold g) := by
  simp only [Foot.allows, h, true_or, true_and]
@[simp] theorem allows_pair_told_iff (g : PairSt → PairSt) (h : F.has .told = true) :
    F.allows (.pair g) ↔ (F.has .pair = true ∨ keepsPair g) ∧ (F.has .journal = true ∨ keepsJournal g) := by
  simp only [Foot.allows, h, true_or, and_true]
@[simp] theorem allows_cmd_own_iff (g : CmdSt → CmdSt) (h : F.has .cmd = true) : F.allows (.cmd g) ↔ F.has .slots = true ∨ keepsSlots g := by
  simp only [Foot.allows, h, true_or, true_and]
@[simp] theorem allows_cmd_slots_iff (g : CmdSt → CmdSt) (h : F.has .slots = true) : F.allows (.cmd g) ↔ F.has .cmd = true ∨ keepsCmd g := by
  simp only [Foot.allows, h, true_or, and_true]

@[simp] theorem fld_ite (c : Prop) [Decidable c] (f g : Fld) : F.fld (if c then f else g) = if c then F.fld f else F.fld g := by split <;> rfl
@[simp] theorem cnt_ite (c : Prop) [Decidable c] (i j : Nat) : F.cnt (if c then i else j) = if c then F.cnt i else F.cnt j := by split <;> rfl
@[simp] theorem fld_genFld (k : Nat) : F.fld (genFld k) = if k = 0 then F.fld VNR_PAGE_STAT.GEN0 else F.fld VNR_PAGE_STAT.GEN1 := fld_ite ..
@[simp] theorem fld_validFld (k : Nat) : F.fld (validFld k) = if k = 0 then F.fld VNR_PAGE_STAT.V0 else F.fld VNR_PAGE_STAT.V1 := fld_ite ..
@[simp] theorem fld_burstFld (k : Nat) : F.fld (burstFld k) = if k = 0 then F.fld MON_STATUS.BURST0 else F.fld MON_STATUS.BURST1 := fld_ite ..
@[simp] theorem fld_enFld (k : Nat) : F.fld (enFld k) = if k = 0 then F.fld MON_CTRL.EN0 else F.fld MON_CTRL.EN1 := fld_ite ..
@[simp] theorem fld_lasReady (k : Nat) : F.fld (lasReady k) = if k = 0 then F.fld LTX_STATUS.LAS0_READY else F.fld LTX_STATUS.LAS1_READY := fld_ite ..
@[simp] theorem fld_capState (b : Bool) : F.fld (capState b) = if b then F.fld OBS_CAP_STAT.SOFT_STATE else F.fld OBS_CAP_STAT.RAW_STATE := fld_ite ..
@[simp] theorem fld_grpTx (g : Nat) : F.fld (grpTx g) = if g = 0 then F.fld SRD_GRP_STAT.MITRE_TX else F.fld SRD_GRP_STAT.BATTEN_TX := fld_ite ..
@[simp] theorem fld_grpRx (g : Nat) : F.fld (grpRx g) = if g = 0 then F.fld SRD_GRP_STAT.MITRE_RX else F.fld SRD_GRP_STAT.BATTEN_RX := fld_ite ..

end

/-! ### Effects within a footprint -/

/-- In state `s` the effect makes only updates that the footprint allows. -/
def Eff.Within (F : Foot) (e : Eff) (s : State) : Prop := ∀ u ∈ e s, F.allows u

/-- The state an effect leaves, where only that there is one matters. -/
def Eff.after (e : Eff) (s : State) : State := e.act s

theorem keeps_run {m : May} {s t : State} (k : Keeps m s t) (us : List Upd) (h : ∀ u ∈ us, m.foot.allows u) : Keeps m s (run us t) := by
  induction us generalizing t with
  | nil => exact k
  | cons u us ih => exact ih (keeps_apply (h u (by simp)) k) (fun v hv => h v (by simp [hv]))

/-- An effect within the footprint of a `May` keeps what the `May` leaves. -/
theorem keeps_act {m : May} {e : Eff} {s : State} (h : e.Within m.foot s) : Keeps m s (e.act s) := keeps_run (keeps_refl m s) _ h

section
variable {F : Foot} {s : State}

@[simp] theorem within_nop : Eff.Within F nop s := by simp [Eff.Within, nop]
@[simp] theorem within_upd (u : Upd) : Eff.Within F (upd u) s ↔ F.allows u := by simp [Eff.Within, upd]
@[simp] theorem within_seq_nil : Eff.Within F (seqE []) s := within_nop
@[simp] theorem within_andThen (a b : Eff) : Eff.Within F (a.andThen b) s ↔ a.Within F s ∧ b.Within F (a.after s) := by
  simp [Eff.Within, Eff.andThen, or_imp, forall_and, Eff.after, Eff.act]
@[simp] theorem within_seq_cons (e : Eff) (es : List Eff) : Eff.Within F (seqE (e :: es)) s ↔ e.Within F s ∧ (seqE es).Within F (e.after s) := by
  rw [seqE, within_andThen]
@[simp] theorem within_dyn (g : State → Eff) : Eff.Within F (dyn g) s ↔ (g s).Within F s := Iff.rfl
@[simp] theorem within_whenE (c : Bool) (e : Eff) : Eff.Within F (whenE c e) s ↔ (c = true → e.Within F s) := by cases c <;> simp [whenE]
@[simp] theorem within_ite (c : Prop) [Decidable c] (a b : Eff) : Eff.Within F (if c then a else b) s ↔ if c then a.Within F s else b.Within F s := by
  split <;> rfl
@[simp] theorem within_fun_nil : Eff.Within F (fun _ => []) s := by simp [Eff.Within]
@[simp] theorem within_fun_cons (u : State → Upd) (us : State → List Upd) :
    Eff.Within F (fun s => u s :: us s) s ↔ F.allows (u s) ∧ Eff.Within F us s := by simp [Eff.Within]
@[simp] theorem within_fun_append (a b : State → List Upd) : Eff.Within F (fun s => a s ++ b s) s ↔ Eff.Within F a s ∧ Eff.Within F b s := by
  simp [Eff.Within, or_imp, forall_and]
@[simp] theorem within_fun_map {α : Type} (xs : State → List α) (u : State → α → Upd) :
    Eff.Within F (fun s => (xs s).map (u s)) s ↔ ∀ x ∈ xs s, F.allows (u s x) := by simp [Eff.Within]
@[simp] theorem within_fun_flatMap {α : Type} (xs : State → List α) (us : State → α → List Upd) :
    Eff.Within F (fun s => (xs s).flatMap (us s)) s ↔ ∀ x ∈ xs s, Eff.Within F (fun s => us s x) s := by
  simp only [Eff.Within, List.mem_flatMap]
  exact ⟨fun h x hx u hu => h u ⟨x, hx, hu⟩, fun h u ⟨x, hx, hu⟩ => h x hx u hu⟩
@[simp] theorem within_fun_ite (c : State → Prop) [∀ t, Decidable (c t)] (a b : State → List Upd) :
    Eff.Within F (fun s => if c s then a s else b s) s ↔ if c s then Eff.Within F a s else Eff.Within F b s := by
  simp only [Eff.Within]
  split <;> rfl
@[simp] theorem within_toMate (k : Nat) (b : List Nat) : Eff.Within F (toMate k b) s := by simp [toMate, Eff.Within]
@[simp] theorem within_put_iff (f : Fld) (v i : Nat) : Eff.Within F (put f v i) s ↔ F.fld f = true := within_upd _
@[simp] theorem within_putI_iff (f : Fld) (z : Int) (i : Nat) : Eff.Within F (putI f z i) s ↔ F.fld f = true := within_upd _
@[simp] theorem within_putB_iff (f : Fld) (b : Bool) (i : Nat) : Eff.Within F (putB f b i) s ↔ F.fld f = true := within_upd _
@[simp] theorem within_raise_iff (e : Ev) (p : List Nat) : Eff.Within F (raise e p) s ↔ F.ev e = true := within_upd _
@[simp] theorem within_occur (e : Ev) (i : Nat) (it : List Nat) : Eff.Within F (occur e i it) s := (within_upd _).2 trivial
@[simp] theorem within_occurMin (e : Ev) (i : Nat) (it : List Nat) : Eff.Within F (occurMin e i it) s := (within_upd _).2 trivial
@[simp] theorem within_stat_iff (f : Fld) (b : Nat) : Eff.Within F (stat f b) s ↔ F.fld f = true := within_upd _
@[simp] theorem within_count_iff (j n : Nat) : Eff.Within F (count j n) s ↔ F.cnt j = true := within_upd _
@[simp] theorem within_emit (o : Output) : Eff.Within F (emit o) s := (within_upd _).2 trivial
@[simp] theorem within_record (t : Nat) (b : List Nat) : Eff.Within F (record t b) s := (within_upd _).2 trivial
@[simp] theorem within_drawn_iff : Eff.Within F drawn s ↔ F.has .draws = true := within_upd _
@[simp] theorem within_bump_iff (f : Fld) (n i : Nat) : Eff.Within F (bump f n i) s ↔ F.fld f = true := by simp [Eff.Within, bump]
@[simp] theorem within_modSlot_iff (p k : Nat) (g : KeySlot → KeySlot) : Eff.Within F (modSlot p k g) s ↔ F.has .vnr = true := within_upd _
@[simp] theorem within_putWord (fs : List Fld) (w i : Nat) (h : fs.all F.fld = true) : Eff.Within F (putWord fs w i) s := by
  simp only [Eff.Within, putWord, List.forall_mem_map, List.mem_filter, and_imp]
  exact fun f hf _ => List.all_eq_true.1 h f hf

theorem within_seq_of_forall {es : List Eff} (h : ∀ e ∈ es, ∀ t, e.Within F t) : Eff.Within F (seqE es) s := by
  induction es generalizing s with
  | nil => exact within_seq_nil
  | cons e es ih => exact (within_seq_cons e es).2 ⟨h e (by simp) s, ih (fun x hx => h x (by simp [hx]))⟩

@[simp] theorem within_forE {α : Type} {xs : List α} {f : α → Eff} (h : ∀ x t, (f x).Within F t) : Eff.Within F (forE xs f) s :=
  within_seq_of_forall (by simpa using fun x _ => h x)

theorem within_forE_mem {α : Type} {xs : List α} {f : α → Eff} (h : ∀ x ∈ xs, ∀ t, (f x).Within F t) : Eff.Within F (forE xs f) s :=
  within_seq_of_forall (by simpa using h)

end

/-! ### Larger footprints -/

/-- A footprint has all counters of an interval. -/
def Foot.cnts (F : Foot) (r : Nat × Nat) : Bool := (List.range r.2).all fun k => F.cnt (r.1 + k)

/-- A footprint covers what a `May` names: its fields, events, counters and hidden parts. -/
def Foot.covers (F : Foot) (n : May) : Bool := n.flds.all F.fld && n.evs.all F.ev && n.cnts.all F.cnts && n.comps.all F.has

/-- The fields, events, counters and parts of `m` and of each of `ms`. -/
def May.join (m : May) (ms : List May) : May :=
  ⟨m.group, m.flds ++ ms.flatMap (·.flds), m.evs ++ ms.flatMap (·.evs), m.cnts ++ ms.flatMap (·.cnts), m.comps ++ ms.flatMap (·.comps)⟩

@[simp] theorem Foot.cnts_one (F : Foot) (j : Nat) : F.cnts (j, 1) = F.cnt j := by simp [Foot.cnts]

theorem Foot.cnt_of_cnts {F : Foot} {a n j : Nat} (h : F.cnts (a, n) = true) (ha : a ≤ j) (hn : j < a + n) : F.cnt j = true := by
  have := List.all_eq_true.1 h (j - a) (List.mem_range.2 (by omega))
  rwa [Nat.add_sub_cancel' ha] at this

@[simp] theorem Foot.covers_mk (F : Foot) (g : Nat) (fs : List Fld) (es : List Ev) (ns : List (Nat × Nat)) (cs : List Comp) :
    F.covers ⟨g, fs, es, ns, cs⟩ = (fs.all F.fld && es.all F.ev && ns.all F.cnts && cs.all F.has) := rfl

@[simp] theorem Foot.covers_join (F : Foot) (m : May) (ms : List May) : F.covers (m.join ms) = (F.covers m && ms.all F.covers) := by
  rw [Bool.eq_iff_iff]
  simp only [Foot.covers, May.join, List.all_append, List.all_flatMap, Bool.and_eq_true, List.all_eq_true]
  grind

section
variable {F : Foot} {n : May}

theorem Foot.fld_of_covers (h : F.covers n = true) {f : Fld} (hf : n.foot.fld f = true) : F.fld f = true := by
  simp only [Foot.covers, Bool.and_eq_true, List.all_eq_true] at h
  obtain ⟨⟨⟨hflds, -⟩, -⟩, -⟩ := h
  obtain ⟨g, hg, hfg⟩ := List.any_eq_true.1 hf
  rw [F.congr hfg]
  rcases List.mem_append.1 hg with hg | hg
  · exact F.shared g hg
  · exact hflds g hg

theorem Foot.cnt_of_covers (h : F.covers n = true) {j : Nat} (hj : n.foot.cnt j = true) : F.cnt j = true := by
  simp only [Foot.covers, Bool.and_eq_true, List.all_eq_true] at h
  obtain ⟨⟨⟨-, hevs⟩, hcnts⟩, -⟩ := h
  simp only [May.foot, May.moves, Bool.or_eq_true, List.any_eq_true, beq_iff_eq, decide_eq_true_eq] at hj
  rcases hj with (rfl | ⟨r, hr, hj⟩) | ⟨e, he, rfl⟩
  · exact F.discards
  · exact Foot.cnt_of_cnts (hcnts r hr) hj.1 hj.2
  · exact (Bool.and_eq_true_iff.1 (hevs e he)).1

theorem Foot.has_of_covers (h : F.covers n = true) {c : Comp} (hc : n.foot.has c = true) : F.has c = true := by
  simp only [Foot.covers, Bool.and_eq_true, List.all_eq_true] at h
  exact h.2 c (by simpa [May.foot] using hc)

theorem Foot.allows_of_covers (h : F.covers n = true) {u : Upd} (hu : n.foot.allows u) : F.allows u := by
  have hf := fun {f} => Foot.fld_of_covers h (f := f)
  have hj := fun {j} => Foot.cnt_of_covers h (j := j)
  have hc := fun {c} => Foot.has_of_covers h (c := c)
  cases u <;> simp only [Foot.allows, Foot.ev, Bool.and_eq_true] at hu ⊢
  case unwrap js => exact fun j hm => hj (hu j hm)
  case clearCnts lo hi => exact fun j hl hh => hj (hu j hl hh)
  case raise e p => exact ⟨hj hu.1, hf hu.2⟩
  case snapBank => exact ⟨hc hu.1, hf hu.2⟩
  case clearTime => exact ⟨hc hu.1, hc hu.2⟩
  case clearRegs lo hi => exact absurd hu (by simp [May.foot])
  case sys g => exact hu.imp_left hc
  case obs g => exact hu.imp_left hc
  case cmd g => exact ⟨hu.1.imp_left hc, hu.2.imp_left hc⟩
  case pair g => exact ⟨hu.1.imp_left hc, hu.2.1.imp_left hc, hu.2.2.imp_left hc⟩
  case put f i v => exact hf hu
  case stat f x => exact hf hu
  case count j x => exact hj hu
  case preset j x => exact hj hu
  all_goals exact hc hu

/-- An effect within the footprint of a `May` is within every footprint that covers it. -/
theorem within_of_covers (h : F.covers n = true) {e : Eff} {s : State} (he : e.Within n.foot s) : e.Within F s :=
  fun u hu => Foot.allows_of_covers h (he u hu)

end

end Sys2Proof.Machine

/-!
Field widths (R16): every update whose field is one that a key tells keeps each field of the register map within its width.
-/
namespace Sys2Proof.Machine
open Sys2Proof

/-- Every field of the register map is narrower than a key tells. -/
theorem regsOf_width_lt : ∀ b, ∀ r ∈ regsOf b, ∀ f ∈ r.flds, f.width < 128 := by
  intro b
  unfold regsOf
  split <;> decide +kernel

theorem Fld.dflt_lt (f : Fld) (i : Nat) : f.dflt i < 2 ^ f.width := Nat.mod_lt _ (Nat.two_pow_pos _)

theorem Fld.width_eq_of_key_eq {f g : Fld} {i j : Nat} (hf : f.width < 128) (hg : g.width < 128) (h : f.key i = g.key j) : f.width = g.width := by
  simp only [Fld.key] at h
  omega

/-- A key just set reads as the value, or, set to the table's default, as the reader's own. -/
theorem Tab.get_set_self_or {α : Type} [DecidableEq α] (d' d : α) (t : Tab α) (k : Nat) (v : α) :
    Tab.get d' (Tab.set d t k v) k = v ∨ Tab.get d' (Tab.set d t k v) k = d' := by
  unfold Tab.set
  split
  · exact .inr (by simp [Tab.get_erase])
  · exact .inl (by simp [Tab.get_insert])

theorem fits_closed : Closed (fun f => f.width < 128) (fun _ => True) State.fits where
  wr s f i v hf h b r hr g hg j := by
    by_cases hk : g.key j = f.key i
    · have hw := Fld.width_eq_of_key_eq (regsOf_width_lt b r hr g hg) hf hk
      simp only [State.rd, State.wr, hk]
      rcases Tab.get_set_self_or (g.dflt j) (f.dflt i) s.regs (f.key i) (v % 2 ^ f.width) with he | he <;> rw [he]
      · rw [hw]; exact Nat.mod_lt _ (Nat.two_pow_pos _)
      · exact g.dflt_lt j
    · rw [rd_wr_ne _ _ _ _ _ _ hk]
      exact h b r hr g hg j
  cnt _ _ _ _ h := h
  wrap _ _ _ h := h
  out _ _ h := h
  sys _ _ _ _ _ h := h
  obs _ _ _ _ _ h := h

theorem fits_clearRegs {s : State} (h : s.fits) (lo hi : Nat) : ((Upd.clearRegs lo hi).apply s).fits := by
  intro b r hr g hg j
  simp only [State.rd, Upd.apply]
  by_cases hk : decide (keyOff (g.key j) < lo ∨ hi ≤ keyOff (g.key j)) = true
  · rw [Tab.get_filter_of_keeps fun _ => hk]
    exact h b r hr g hg j
  · rw [Tab.get_filter_of_drops fun _ => hk]
    exact g.dflt_lt j

/-- An update that the widest footprint allows keeps the fields within their widths. -/
theorem fits_apply {u : Upd} {s : State} (hu : Foot.wide.allows u) (h : s.fits) : (u.apply s).fits := by
  have c := fits_closed
  have hw : ∀ f ∈ sharedFlds, f.width < 128 := by decide +kernel
  have hfld : ∀ f, Foot.wide.fld f = true → f.width < 128 := fun f hf => of_decide_eq_true hf
  cases u
  case put f i v => exact c.wr s f i v (hfld f hu) h
  case raise e p => exact c.raise h hw trivial (hfld _ (Bool.and_eq_true_iff.1 hu).2) trivial p
  case stat f m => exact c.setStat h hw (hfld f hu) m
  case resignal b => exact c.resignal h hw b
  case signal v => exact c.signal h hw v
  case enqueue a d fl q t p => exact c.enqueue h hw a d fl q t p
  case count j n => exact c.count h trivial n
  case snapBank => exact c.wr { s.snap with bank := s.cnts, bankWraps := s.wraps } _ _ _ (by decide) h
  case record t f b => exact c.record h hw trivial t f b
  case clearRegs lo hi => exact fits_clearRegs h lo hi
  all_goals exact h

/-- An effect within the widest footprint keeps the fields within their widths. -/
theorem fits_act {e : Eff} {s : State} (he : e.Within Foot.wide s) (h : s.fits) : (e.act s).fits := by
  have : ∀ us : List Upd, (∀ u ∈ us, Foot.wide.allows u) → ∀ s : State, s.fits → (run us s).fits := by
    intro us
    induction us with
    | nil => exact fun _ _ h => h
    | cons u us ih => exact fun hus s h => ih (fun v hv => hus v (by simp [hv])) _ (fits_apply (hus u (by simp)) h)
  exact this _ he s h

/-- A footprint of all counters and parts and of every field that a key tells. -/
structure Foot.Wide (F : Foot) : Prop where
  fld : ∀ f : Fld, f.width < 128 → F.fld f = true
  cnt : ∀ j, F.cnt j = true
  has : ∀ c, F.has c = true
  clears : F.clears = true

theorem wide_wide : Foot.wide.Wide := ⟨fun _ h => decide_eq_true h, fun _ => rfl, fun _ => rfl, rfl⟩

end Sys2Proof.Machine

/-!
The footprint of each operation of the model (`Touch`), in the model's order: every effect it makes lies within a footprint that has what it itself
changes and the footprints of the operations it calls.
-/
namespace Sys2Proof.Machine
open Sys2Proof

section
variable {Φ : Foot} {σ : State}

/-! ### Felwin -/

def Touch.unhold : May := ⟨0, [], [], [], [.slots]⟩
@[simp] theorem within_unhold (r : Reply) (hF : Φ.covers Touch.unhold = true) : (unhold r).Within Φ σ := by
  simp [Touch.unhold] at hF
  simp [unhold, hF]

def Touch.sendReply : May := .join ⟨0, [], [], [], [.slots]⟩ [Touch.unhold]
@[simp] theorem within_sendReply (r : Reply) (hF : Φ.covers Touch.sendReply = true) : (sendReply r).Within Φ σ := by
  simp [Touch.sendReply] at hF
  simp [sendReply, hF]

def Touch.replyTo : May := .join ⟨0, [], [], [], [.slots, .told]⟩ [Touch.sendReply]
@[simp] theorem within_replyTo (r : Running) (st : Status) (flags : Nat) (pay : State → List Nat) (hF : Φ.covers Touch.replyTo = true) : (replyTo r st flags pay).Within Φ σ := by
  simp [Touch.replyTo] at hF
  simp [replyTo, hF]

def Touch.finishFl : May := .join ⟨0, [], [], [], []⟩ [Touch.replyTo]
@[simp] theorem within_finishFl (r : Running) (st : Status) (flags : Nat) (pay : List Nat) (hF : Φ.covers Touch.finishFl = true) : (finishFl r st flags pay).Within Φ σ := by
  simp [Touch.finishFl] at hF
  simp [finishFl, hF]

def Touch.finish : May := .join ⟨0, [], [], [], []⟩ [Touch.finishFl]
@[simp] theorem within_finish (r : Running) (st : Status) (pay : List Nat) (hF : Φ.covers Touch.finish = true) : (finish r st pay).Within Φ σ := by
  simp [Touch.finish] at hF
  simp [finish, hF]

def Touch.slotRuns : May := ⟨0, [], [], [], [.slots]⟩
@[simp] theorem within_slotRuns (r : Running) (hF : Φ.covers Touch.slotRuns = true) : (slotRuns r).Within Φ σ := by
  simp [Touch.slotRuns] at hF
  simp [slotRuns, hF]

def Touch.actAndReply : May := .join ⟨0, [], [], [], []⟩ [Touch.replyTo, Touch.slotRuns]
/-- What an answer does is within a footprint in every state: its effect and what follows its reply. -/
def Ans.Within (F : Foot) (a : Ans) : Prop := (∀ t, a.eff.Within F t) ∧ ∀ t, a.after.Within F t

@[simp] theorem within_actAndReply (r : Running) (a : Ans) (hF : Φ.covers Touch.actAndReply = true) (ha : a.Within Φ) :
    (actAndReply r a).Within Φ σ := by
  simp [Touch.actAndReply] at hF
  obtain ⟨he, hafter⟩ := ha
  simp only [actAndReply]
  split <;> simp [hF, he, hafter]

def Touch.cutSnapshot : May := ⟨0, [PAIR_EPOCH.ALL], [], [], [.journal]⟩
@[simp] theorem within_cutSnapshot (hF : Φ.covers Touch.cutSnapshot = true) : cutSnapshot.Within Φ σ := by
  simp [Touch.cutSnapshot] at hF
  simp [cutSnapshot, hF]

def Touch.mateStale : May := .join ⟨0, [PAIR_STATUS.MATE_ROLE], [], [], []⟩ [Touch.cutSnapshot]
@[simp] theorem within_mateStale (hF : Φ.covers Touch.mateStale = true) : mateStale.Within Φ σ := by
  simp [Touch.mateStale] at hF
  simp [mateStale, hF]

def Touch.journal : May := .join ⟨0, [PAIR_JSEQ.ALL], [EV.PAIR_SYNC_FAIL], [], [.journal]⟩ [Touch.cutSnapshot, Touch.mateStale]
@[simp] theorem within_journal (cat : Nat) (body : List Nat) (hF : Φ.covers Touch.journal = true) : (journal cat body).Within Φ σ := by
  simp [Touch.journal] at hF
  simp [journal, hF]

def Touch.felwinN : May := .join ⟨0, [], [], [], [.journal]⟩ [Touch.slotRuns, Touch.actAndReply, Touch.journal]
theorem ans_within_no (st : Status) : (no st).Within Φ := ⟨fun _ => within_nop, fun _ => within_nop⟩

/-- What a command answers is within every footprint that its body's answer is within: a refusal does nothing. -/
theorem ans_within_answer {op : OpDef} {h : CmdHdr} {p : List Nat} (hb : (op.body h p σ).Within Φ) : (op.answer h p σ).Within Φ := by
  have hno := ans_within_no (Φ := Φ)
  unfold OpDef.answer
  (repeat' split) <;> first | exact hb | exact hno _

theorem within_felwinN (op : OpDef) (h : CmdHdr) (p : List Nat) (hF : Φ.covers Touch.felwinN = true) (hb : ∀ s, (op.body h p s).Within Φ) :
    (felwinN op h p).Within Φ σ := by
  have ha := ans_within_answer (hb σ)
  simp [Touch.felwinN] at hF
  simp [felwinN, hF, ha]

theorem within_felwin (op : OpDef) (h : CmdHdr) (p : List Word) (hF : Φ.covers Touch.felwinN = true) (hb : ∀ s, (op.body h (p.map (·.toNat)) s).Within Φ) :
    (felwin op h p).Within Φ σ := within_felwinN op h _ hF hb




/-! ### Access -/

def Touch.flagAcc : May := ⟨0, [SYS_ACC_STAT.ERRORS], [], [], [.sys]⟩
@[simp] theorem within_flagAcc (m : Nat) (flag : Fld) (off : Nat) (hF : Φ.covers Touch.flagAcc = true) (hf : Φ.fld flag = true) : (flagAcc m flag off).Within Φ σ := by
  simp [Touch.flagAcc] at hF
  simp only [flagAcc, Eff.Within]
  split <;> simp [hF, hf]

def Touch.logWrite : May := .join ⟨0, [], [], [], []⟩ [Touch.journal]
@[simp] theorem within_logWrite (m : Nat) (r : RegDef) (i : Nat) (w : State → Nat) (e : Eff) (hF : Φ.covers Touch.logWrite = true)
    (he : ∀ t, e.Within Φ t) : (logWrite m r i w e).Within Φ σ := by
  simp [Touch.logWrite] at hF
  simp [logWrite, hF, he]

def Touch.byMaster : May := .join ⟨0, [ENG_SBX_DENY.WRITES, SYS_ACC_STAT.RANGE], [], [], []⟩ [Touch.flagAcc, Touch.logWrite]
@[simp] theorem within_byMaster (m : Mast) (f : Fld) (i : Nat) (e : Eff) (hF : Φ.covers Touch.byMaster = true) (he : ∀ t, e.Within Φ t) :
    (byMaster m f i e).Within Φ σ := by
  simp [Touch.byMaster] at hF
  simp only [byMaster, within_dyn]
  (repeat' split) <;> simp [hF, he]

def Touch.latchShadow : May := ⟨0, [SYS_ACC_STAT.SHADOW_GEN], [], [], [.sys]⟩
@[simp] theorem within_latchShadow (m off hi : Nat) (hF : Φ.covers Touch.latchShadow = true) : (latchShadow m off hi).Within Φ σ := by
  simp [Touch.latchShadow] at hF
  simp [latchShadow, Eff.Within, hF]

def Touch.setFieldIf : May := .join ⟨0, [SYS_ACC_STAT.RANGE, SYS_ACC_STAT.LOCK], [], [], []⟩ [Touch.flagAcc]
@[simp] theorem within_setFieldIf (m : Nat) (f : Fld) (i v : Nat) (ok : Bool) (after : Eff) (hF : Φ.covers Touch.setFieldIf = true) (hf : Φ.fld f = true)
    (ha : ∀ t, after.Within Φ t) : (setFieldIf m f i v ok after).Within Φ σ := by
  simp [Touch.setFieldIf] at hF
  simp only [setFieldIf, within_dyn]
  (repeat' split) <;> simp [hF, hf, ha]

@[simp] theorem within_setField (m : Nat) (f : Fld) (i v : Nat) (hF : Φ.covers Touch.setFieldIf = true) (hf : Φ.fld f = true) : (setField m f i v).Within Φ σ :=
  within_setFieldIf m f i v true nop hF hf fun _ => within_nop

/-! ### Defects -/

def Touch.chDown : May := ⟨0, [CLI_CH_STAT.LF_OUT, CLI_CH_STAT.STATE], [EV.CLIENT_DOWN], [], [.cli]⟩
@[simp] theorem within_chDown (t st cause : Nat) (hF : Φ.covers Touch.chDown = true) : (chDown t st cause).Within Φ σ := by
  simp [Touch.chDown] at hF
  simp [chDown, hF]

def Touch.clearDefect : May := ⟨0, [], [EV.DEFECT_CLEAR], [], [.frm]⟩
@[simp] theorem within_clearDefect (code layer : Nat) (hF : Φ.covers Touch.clearDefect = true) : (clearDefect code layer).Within Φ σ := by
  simp [Touch.clearDefect] at hF
  simp [clearDefect]
  split <;> simp [hF]

def Touch.declareDefect : May := .join ⟨0, [], [EV.DEFECT_RAISE], [], [.frm]⟩ [Touch.clearDefect]
@[simp] theorem within_declareDefect (code layer : Nat) (hF : Φ.covers Touch.declareDefect = true) : (declareDefect code layer).Within Φ σ := by
  simp [Touch.declareDefect] at hF
  simp [declareDefect, hF]

def Touch.judgeFill : May := .join ⟨0, [CLI_CH_STAT.STATE], [], [], []⟩ [Touch.chDown]
@[simp] theorem within_judgeFill (hF : Φ.covers Touch.judgeFill = true) : judgeFill.Within Φ σ := by
  simp [Touch.judgeFill] at hF
  simp [judgeFill, hF]

def Touch.syncLosf : May := .join ⟨0, [], [], [], []⟩ [Touch.clearDefect, Touch.declareDefect, Touch.judgeFill]
@[simp] theorem within_syncLosf (hF : Φ.covers Touch.syncLosf = true) : syncLosf.Within Φ σ := by
  simp [Touch.syncLosf] at hF
  simp [syncLosf, hF]

def Touch.losEnter : May := .join ⟨0, [], [], [], []⟩ [Touch.declareDefect, Touch.judgeFill]
@[simp] theorem within_losEnter (hF : Φ.covers Touch.losEnter = true) : losEnter.Within Φ σ := by
  simp [Touch.losEnter] at hF
  simp [losEnter, hF]

def Touch.clearDefects : May := .join ⟨0, [], [], [], []⟩ [Touch.clearDefect, Touch.judgeFill]
@[simp] theorem within_clearDefects (hF : Φ.covers Touch.clearDefects = true) : clearDefects.Within Φ σ := by
  simp [Touch.clearDefects] at hF
  simp [clearDefects, hF]

def Touch.timeMsg : May := ⟨0, [], [], [], [.frm]⟩
@[simp] theorem within_timeMsg (bytes : List Nat) (hF : Φ.covers Touch.timeMsg = true) : (timeMsg bytes).Within Φ σ := by
  simp [Touch.timeMsg] at hF
  simp [timeMsg, hF]

def Touch.dropMove : May := ⟨0, [CLI_MOVE_STAT.CD, CLI_MOVE_STAT.PENDING, CLI_TS_OWNER.PEND], [], [], [.cli]⟩
@[simp] theorem within_dropMove (hF : Φ.covers Touch.dropMove = true) : dropMove.Within Φ σ := by
  simp [Touch.dropMove] at hF
  simp [dropMove, hF]

def Touch.takeSlots : May := ⟨0, [CLI_CH_CFG.SLOTS, CLI_TS_OWNER.OWNER, CLI_TS_OWNER.PEND], [], [], []⟩
@[simp] theorem within_takeSlots (t : Nat) (slots : List Nat) (hF : Φ.covers Touch.takeSlots = true) : (takeSlots t slots).Within Φ σ := by
  simp [Touch.takeSlots] at hF
  unfold takeSlots
  simp [hF]

def Touch.applyMove : May := .join ⟨0, [CLI_MOVE_STAT.TARGET_SF], [EV.TRIB_MOVE_APPLIED], [], []⟩ [Touch.dropMove, Touch.takeSlots]
@[simp] theorem within_applyMove (sf : Nat) (hF : Φ.covers Touch.applyMove = true) : (applyMove sf).Within Φ σ := by
  simp [Touch.applyMove] at hF
  simp [applyMove]
  split <;> simp [hF]

/-! ### Cipher -/

def Touch.placeKey : May := ⟨0, [VNR_PAGE_STAT.GEN0, VNR_PAGE_STAT.GEN1, VNR_PAGE_STAT.V0, VNR_PAGE_STAT.V1], [], [], [.vnr]⟩
@[simp] theorem within_placeKey (p k : Nat) (key : List Nat) (salt : Nat) (hF : Φ.covers Touch.placeKey = true) : (placeKey p k key salt).Within Φ σ := by
  simp [Touch.placeKey] at hF
  simp [placeKey, hF]

def Touch.eraseSlot : May := ⟨0, [VNR_PAGE_STAT.RX_USE, VNR_PAGE_STAT.V0, VNR_PAGE_STAT.V1], [], [], [.vnr]⟩
@[simp] theorem within_eraseSlot (p k : Nat) (hF : Φ.covers Touch.eraseSlot = true) : (eraseSlot p k).Within Φ σ := by
  simp [Touch.eraseSlot] at hF
  simp [eraseSlot, hF]

def Touch.keyPrivileged : May := .join ⟨0, [], [], [], [.draws]⟩ [Touch.placeKey]
@[simp] theorem within_keyPrivileged (hF : Φ.covers Touch.keyPrivileged = true) : keyPrivileged.Within Φ σ := by
  simp [Touch.keyPrivileged] at hF
  simp [keyPrivileged, hF]

def Touch.flipPage : May := ⟨0, [VNR_PAGE_STAT.TX_KP], [], [], []⟩
@[simp] theorem within_flipPage (p : Nat) (hF : Φ.covers Touch.flipPage = true) : (flipPage p).Within Φ σ := by
  simp [Touch.flipPage] at hF
  simp [flipPage, Eff.Within, hF]

def Touch.applyBatch : May := .join ⟨0, [VNR_PAGE_STAT.PENDING, VNR_PAGE_STAT.TARGET_SF], [EV.KEY_SWITCHED], [], [.vnr]⟩ [Touch.flipPage]
@[simp] theorem within_applyBatch (sf : Nat) (hF : Φ.covers Touch.applyBatch = true) : (applyBatch sf).Within Φ σ := by
  simp [Touch.applyBatch] at hF
  simp [applyBatch]
  split <;> simp [hF]

def Touch.clearPending : May := ⟨0, [VNR_PAGE_STAT.PENDING], [], [], [.vnr]⟩
@[simp] theorem within_clearPending (p : Nat) (hF : Φ.covers Touch.clearPending = true) : (clearPending p).Within Φ σ := by
  simp [Touch.clearPending] at hF
  simp [clearPending, hF]

def Touch.judgeProt : May := ⟨0, [VNR_STATUS.DEGRADED, VNR_STATUS.SENSE_ARMED], [EV.VNR_DEGRADED], [], [.vnr]⟩
@[simp] theorem within_judgeProt (hF : Φ.covers Touch.judgeProt = true) : judgeProt.Within Φ σ := by
  simp [Touch.judgeProt] at hF
  simp [judgeProt, hF]

def Touch.vnrBoundary : May := .join ⟨0, [VNR_PAGE_STAT.RX_USE, VNR_STATUS.SENSE_ARMED, VNR_STATUS.STATE], [EV.PROT_CHANGE], [], [.vnr]⟩ [Touch.judgeProt]
@[simp] theorem within_vnrBoundary (hF : Φ.covers Touch.vnrBoundary = true) : vnrBoundary.Within Φ σ := by
  simp [Touch.vnrBoundary] at hF
  simp [vnrBoundary, hF]

/-! ### PtpClock -/

def Touch.setTod : May := ⟨0, [], [], [], [.tod]⟩
@[simp] theorem within_setTod (v : Int) (hF : Φ.covers Touch.setTod = true) : (setTod v).Within Φ σ := by
  simp [Touch.setTod] at hF
  simp [setTod, hF]

def Touch.todTick : May := .join ⟨0, [], [], [], [.tick]⟩ [Touch.setTod]
@[simp] theorem within_todTick (hF : Φ.covers Touch.todTick = true) : todTick.Within Φ σ := by
  simp [Touch.todTick] at hF
  simp [todTick, hF]

def Touch.portTo : May := ⟨0, [TOD_PORT_STAT.STATE], [EV.PTP_PORT_STATE], [], []⟩
@[simp] theorem within_portTo (p st : Nat) (hF : Φ.covers Touch.portTo = true) : (portTo p st).Within Φ σ := by
  simp [Touch.portTo] at hF
  simp [portTo, hF]

def Touch.syncServo : May := ⟨0, [TOD_RATE.ALL, TOD_STATUS.SERVO], [EV.SERVO_STATE], [], [.tod]⟩
@[simp] theorem within_syncServo (hF : Φ.covers Touch.syncServo = true) : syncServo.Within Φ σ := by
  simp [Touch.syncServo] at hF
  simp [syncServo, hF]

def Touch.sendAnnounce : May := .join ⟨0, [], [], [], []⟩ [Touch.timeMsg]
@[simp] theorem within_sendAnnounce (p : Nat) (hF : Φ.covers Touch.sendAnnounce = true) : (sendAnnounce p).Within Φ σ := by
  simp [Touch.sendAnnounce] at hF
  simp [sendAnnounce, hF]

def Touch.syncPorts : May := .join ⟨0, [TOD_STATUS.PARENT], [EV.PTP_PARENT_CHANGE], [], [.tod]⟩ [Touch.portTo, Touch.syncServo, Touch.sendAnnounce]
@[simp] theorem within_syncPorts (hF : Φ.covers Touch.syncPorts = true) : syncPorts.Within Φ σ := by
  simp [Touch.syncPorts] at hF
  simp [syncPorts, hF]

/-! ### PairOps -/

def Touch.pinSample : May := ⟨0, [SYS_GPIO_IN.ALL], [], [], [.obs]⟩
@[simp] theorem within_pinSample (n : Nat) (lv : Bool) (hF : Φ.covers Touch.pinSample = true) : (pinSample n lv).Within Φ σ := by
  simp [Touch.pinSample] at hF
  simp [pinSample, hF]

def Touch.writePins : May := .join ⟨0, [SYS_GPIO_OE.ALL, SYS_GPIO_OUT.ALL], [], [], []⟩ [Touch.pinSample]
@[simp] theorem within_writePins (out : Bool) (w : Nat) (hF : Φ.covers Touch.writePins = true) : (writePins out w).Within Φ σ := by
  simp [Touch.writePins] at hF
  simp [writePins, hF]

def Touch.setSel : May := ⟨0, [], [], [], [.pair]⟩
@[simp] theorem within_setSel (a b : Bool) (hF : Φ.covers Touch.setSel = true) : (setSel a b).Within Φ σ := by
  simp [Touch.setSel] at hF
  simp [setSel, hF]

def Touch.setRole : May := .join ⟨0, [PAIR_STATUS.ROLE, PAIR_STATUS.SYNCED, PAIR_STATUS.WTR_LEFT, PAIR_STATUS.WTR_RUN], [EV.PAIR_ROLE], [], [.pair]⟩
  [Touch.syncPorts, Touch.setSel]
@[simp] theorem within_setRole (new row : Nat) (hF : Φ.covers Touch.setRole = true) : (setRole new row).Within Φ σ := by
  simp [Touch.setRole] at hF
  simp [setRole, hF]

def Touch.unitFails : May := .join ⟨0, [], [EV.PAIR_UNPROTECTED], [], []⟩ [Touch.setRole]
@[simp] theorem within_unitFails (trigger : Nat) (hF : Φ.covers Touch.unitFails = true) : (unitFails trigger).Within Φ σ := by
  simp [Touch.unitFails] at hF
  simp [unitFails, hF]

def Touch.mismatch : May := ⟨0, [PAIR_STATUS.IDENT], [], [], [.pair]⟩
@[simp] theorem within_mismatch (d ftag : Nat) (hF : Φ.covers Touch.mismatch = true) : (mismatch d ftag).Within Φ σ := by
  simp [Touch.mismatch] at hF
  simp [mismatch, hF]

def Touch.meetDigest (d : Nat) : May := .join ⟨0, [], [], [(280 + 2 * d, 1), (281 + 2 * d, 1), (284, 1)], [.pair]⟩ [Touch.mismatch]
@[simp] theorem within_meetDigest (d : Nat) (g : Digest) (hF : Φ.covers (Touch.meetDigest d) = true) : (meetDigest d g).Within Φ σ := by
  simp [Touch.meetDigest] at hF
  simp only [meetDigest, within_dyn]
  split <;> simp [hF]

def Touch.ownDigest (d : Nat) : May := .join ⟨0, [], [], [], [.pair]⟩ [Touch.meetDigest d]
@[simp] theorem within_ownDigest (d sf crc : Nat) (skip : Bool) (hF : Φ.covers (Touch.ownDigest d) = true) : (ownDigest d sf crc skip).Within Φ σ := by
  simp [Touch.ownDigest] at hF
  simp [ownDigest, hF]

/-! ### Due -/

def Touch.moveNow : May := .join ⟨0, [], [], [], []⟩ [Touch.applyMove, Touch.judgeProt]
@[simp] theorem within_moveNow (sf : Nat) (hF : Φ.covers Touch.moveNow = true) : (moveNow sf).Within Φ σ := by
  simp [Touch.moveNow] at hF
  simp [moveNow, hF]

def Touch.batchNow : May := .join ⟨0, [], [], [], []⟩ [Touch.applyBatch]
@[simp] theorem within_batchNow (sf : Nat) (hF : Φ.covers Touch.batchNow = true) : (batchNow sf).Within Φ σ := by
  simp [Touch.batchNow] at hF
  simp [batchNow, hF]

/-! ### Plan -/

def Touch.putBank : May := ⟨0, [LTX_PLAN_HDR.PLAN_ID, LTX_PLAN_SC.CONST, LTX_PLAN_SC.EN, LTX_PLAN_SC.ENT, LTX_PLAN_SC.GAIN], [], [], []⟩
@[simp] theorem within_putBank (b id : Nat) (ws : List Nat) (hF : Φ.covers Touch.putBank = true) : (putBank b id ws).Within Φ σ := by
  simp [Touch.putBank] at hF
  simp [putBank, hF, LTX_PLAN_SC.fields]

def Touch.setChk : May := ⟨0, [LTX_PLAN_CHK.SUM_E, LTX_PLAN_CHK.W_MIN], [], [], []⟩
@[simp] theorem within_setChk (hF : Φ.covers Touch.setChk = true) : setChk.Within Φ σ := by
  simp [Touch.setChk] at hF
  simp [setChk, Eff.Within, hF]

def Touch.dropLoads : May := .join ⟨0, [], [], [], [.ltx]⟩ [Touch.finish]
@[simp] theorem within_dropLoads (op : Nat) (hF : Φ.covers Touch.dropLoads = true) : (dropLoads op).Within Φ σ := by
  simp [Touch.dropLoads] at hF
  simp [dropLoads, hF]

def Touch.loadPlan0 : May := .join ⟨0, [LTX_PLAN_CHG.RESULT], [], [], [.adapt]⟩ [Touch.putBank, Touch.setChk, Touch.dropLoads]
@[simp] theorem within_loadPlan0 (hF : Φ.covers Touch.loadPlan0 = true) : loadPlan0.Within Φ σ := by
  simp [Touch.loadPlan0] at hF
  simp [loadPlan0, hF]

def Touch.scrDrop : May := ⟨0, [SCR_PEER_CUR.ALL, SCR_STATUS.KEYED, SCR_STATUS.ROLE, SCR_STATUS.RX_BUSY], [], [], [.scr]⟩
@[simp] theorem within_scrDrop (hF : Φ.covers Touch.scrDrop = true) : scrDrop.Within Φ σ := by
  simp [Touch.scrDrop] at hF
  simp [scrDrop, hF]

def Touch.scrOff : May := .join ⟨0, [SCR_STATUS.STATE], [], [], [.scr]⟩ [Touch.scrDrop]
@[simp] theorem within_scrOff (hF : Φ.covers Touch.scrOff = true) : scrOff.Within Φ σ := by
  simp [Touch.scrOff] at hF
  simp [scrOff, hF]

def Touch.scrFollow : May := .join ⟨0, [SCR_STATUS.STATE], [], [], []⟩ [Touch.scrOff]
@[simp] theorem within_scrFollow (hF : Φ.covers Touch.scrFollow = true) : scrFollow.Within Φ σ := by
  simp [Touch.scrFollow] at hF
  simp [scrFollow, hF]

def Touch.setTxMode : May := .join ⟨0, [LTX_CTRL.MODE, LTX_CTRL.OTUC_N], [], [], []⟩ [Touch.judgeFill, Touch.loadPlan0, Touch.scrFollow]
@[simp] theorem within_setTxMode (mode n : Nat) (hF : Φ.covers Touch.setTxMode = true) : (setTxMode mode n).Within Φ σ := by
  simp [Touch.setTxMode] at hF
  simp [setTxMode, hF]

def Touch.applyPlan : May := .join ⟨0, [LRX_ADAPT_STAT.PHASE, LTX_PLAN_CHG.CD, LTX_PLAN_CHG.TARGET_SF, LTX_STATUS.PLAN_PENDING], [EV.PLAN_APPLIED], [],
  [.adapt, .ltx]⟩ [Touch.putBank]
@[simp] theorem within_applyPlan (sf : Nat) (hF : Φ.covers Touch.applyPlan = true) : (applyPlan sf).Within Φ σ := by
  simp [Touch.applyPlan] at hF
  simp [applyPlan, hF]

def Touch.commitPlan : May := .join ⟨0, [LTX_PLAN_CHG.CD, LTX_PLAN_CHG.TARGET_SF, LTX_STATUS.PLAN_PENDING], [], [], []⟩ [Touch.applyPlan]
@[simp] theorem within_commitPlan (hF : Φ.covers Touch.commitPlan = true) : commitPlan.Within Φ σ := by
  simp [Touch.commitPlan] at hF
  simp [commitPlan, hF]

def Touch.cancelPlan : May := ⟨0, [LRX_ADAPT_STAT.PHASE, LTX_PLAN_CHG.CD, LTX_STATUS.PLAN_PENDING], [EV.PLAN_CANCELLED], [], [.adapt]⟩
@[simp] theorem within_cancelPlan (hF : Φ.covers Touch.cancelPlan = true) : cancelPlan.Within Φ σ := by
  simp [Touch.cancelPlan] at hF
  simp [cancelPlan, hF]

def Touch.commitReturn : May := .join ⟨0, [], [], [], [.adapt]⟩ [Touch.putBank, Touch.setChk, Touch.commitPlan]
@[simp] theorem within_commitReturn (hF : Φ.covers Touch.commitReturn = true) : commitReturn.Within Φ σ := by
  simp [Touch.commitReturn] at hF
  simp [commitReturn]
  split <;> simp [hF]

def Touch.goDark : May := .join ⟨0, [LTX_CTRL.LOCK, LTX_CTRL.OUT_EN, LTX_STATUS.TX_ON], [EV.TX_DARK], [], [.ltx, .scr]⟩ [Touch.finish, Touch.moveNow,
  Touch.batchNow, Touch.applyPlan, Touch.commitReturn]
@[simp] theorem within_goDark (cause : Nat) (hF : Φ.covers Touch.goDark = true) : (goDark cause).Within Φ σ := by
  simp [Touch.goDark] at hF
  simp [goDark, hF]
  split <;> simp [hF]

/-! ### Acquire -/

def Touch.syncProt : May := ⟨0, [LRX_RPLAN_ID.ACTIVE, LRX_RPLAN_ID.ARMED, LRX_RPLAN_ID.PREV], [], [], []⟩
@[simp] theorem within_syncProt (hF : Φ.covers Touch.syncProt = true) : syncProt.Within Φ σ := by
  simp [Touch.syncProt] at hF
  unfold syncProt
  simp [hF]

def Touch.useEntry : May := ⟨0, [], [], [], [.lrx]⟩
@[simp] theorem within_useEntry (e : Nat) (hF : Φ.covers Touch.useEntry = true) : (useEntry e).Within Φ σ := by
  simp [Touch.useEntry] at hF
  simp [useEntry, hF]

def Touch.storePlan : May := .join ⟨0, [LRX_RPLAN_ID.ID, LRX_RPLAN_ID.VALID, LRX_RPLAN_SC.CONST, LRX_RPLAN_SC.EN, LRX_RPLAN_SC.ENT, LRX_RPLAN_SC.GAIN], [],
  [], []⟩ [Touch.syncProt, Touch.useEntry]
@[simp] theorem within_storePlan (id : Nat) (ws : List Nat) (hF : Φ.covers Touch.storePlan = true) : (storePlan id ws).Within Φ σ := by
  simp [Touch.storePlan] at hF
  simp [storePlan, hF, LRX_RPLAN_SC.fields]

def Touch.emptyTable : May := .join ⟨0, [LRX_RPLAN_ID.ACTIVE, LRX_RPLAN_ID.ARMED, LRX_RPLAN_ID.ID, LRX_RPLAN_ID.PREV, LRX_RPLAN_ID.VALID,
  LRX_RPLAN_SC.CONST, LRX_RPLAN_SC.EN, LRX_RPLAN_SC.ENT, LRX_RPLAN_SC.GAIN], [], [], [.lrx]⟩ [Touch.dropLoads]
@[simp] theorem within_emptyTable (hF : Φ.covers Touch.emptyTable = true) : emptyTable.Within Φ σ := by
  simp [Touch.emptyTable] at hF
  simp [emptyTable, hF, LRX_RPLAN_ID.fields, LRX_RPLAN_SC.fields]

def Touch.setRxMode : May := .join ⟨0, [LRX_CTRL.MODE, LRX_CTRL.OTUC_N], [], [], []⟩ [Touch.judgeFill, Touch.syncPorts, Touch.emptyTable]
@[simp] theorem within_setRxMode (mode n : Nat) (hF : Φ.covers Touch.setRxMode = true) : (setRxMode mode n).Within Φ σ := by
  simp [Touch.setRxMode] at hF
  simp [setRxMode, hF]

def Touch.modSc : May := ⟨0, [], [], [], [.lrx]⟩
@[simp] theorem within_modSc (k : Nat) (g : ScSt → ScSt) (hF : Φ.covers Touch.modSc = true) : (modSc k g).Within Φ σ := by
  simp [Touch.modSc] at hF
  simp [modSc, hF]

def Touch.syncDD : May := ⟨0, [LRX_STATUS.SC_DD], [], [], []⟩
@[simp] theorem within_syncDD (hF : Φ.covers Touch.syncDD = true) : syncDD.Within Φ σ := by
  simp [Touch.syncDD] at hF
  simp [syncDD, Eff.Within, hF]

def Touch.toDD : May := .join ⟨0, [LRX_SC_STAT.STATE], [], [], []⟩ [Touch.modSc, Touch.syncDD]
@[simp] theorem within_toDD (k : Nat) (hF : Φ.covers Touch.toDD = true) : (toDD k).Within Φ σ := by
  simp [Touch.toDD] at hF
  simp [toDD, hF]

def Touch.syncFb : May := ⟨0, [LRX_SC_STAT.STATE], [], [], []⟩
@[simp] theorem within_syncFb (hF : Φ.covers Touch.syncFb = true) : syncFb.Within Φ σ := by
  simp [Touch.syncFb] at hF
  unfold syncFb
  simp [hF]

def Touch.allScs : May := .join ⟨0, [LRX_SC_STAT.STATE], [], [], []⟩ [Touch.modSc, Touch.syncDD]
@[simp] theorem within_allScs (v : Nat) (g : ScSt → ScSt) (hF : Φ.covers Touch.allScs = true) : (allScs v g).Within Φ σ := by
  simp [Touch.allScs] at hF
  simp [allScs, hF]

def Touch.layWalk : May := .join ⟨0, [], [], [], []⟩ [Touch.modSc]
@[simp] theorem within_layWalk (hF : Φ.covers Touch.layWalk = true) : layWalk.Within Φ σ := by
  simp [Touch.layWalk] at hF
  simp [layWalk, hF]

def Touch.noQuality : May := .join ⟨0, [], [], [], [.lrx]⟩ [Touch.modSc]
@[simp] theorem within_noQuality (hF : Φ.covers Touch.noQuality = true) : noQuality.Within Φ σ := by
  simp [Touch.noQuality] at hF
  simp [noQuality, hF]

def Touch.dropLocks : May := .join ⟨0, [LRX_CR_STAT.CR_LOCK, LRX_CR_STAT.SHIFTING, LRX_STATUS.SF_LOCK], [], [], [.lrx]⟩ [Touch.syncLosf]
@[simp] theorem within_dropLocks (hF : Φ.covers Touch.dropLocks = true) : dropLocks.Within Φ σ := by
  simp [Touch.dropLocks] at hF
  simp [dropLocks, hF]

def Touch.startSfsync : May := .join ⟨0, [LRX_STATUS.STAGE], [], [], []⟩ [Touch.modSc, Touch.dropLocks]
@[simp] theorem within_startSfsync (hF : Φ.covers Touch.startSfsync = true) : startSfsync.Within Φ σ := by
  simp [Touch.startSfsync] at hF
  simp [startSfsync, hF]

def Touch.startCma : May := .join ⟨0, [LRX_STATUS.STAGE], [], [], []⟩ [Touch.allScs]
@[simp] theorem within_startCma (hF : Φ.covers Touch.startCma = true) : startCma.Within Φ σ := by
  simp [Touch.startCma] at hF
  simp [startCma, hF]

def Touch.startTiming : May := ⟨0, [LRX_STATUS.STAGE, LRX_STATUS.TIM_LOCK], [], [], [.lrx]⟩
@[simp] theorem within_startTiming (hF : Φ.covers Touch.startTiming = true) : startTiming.Within Φ σ := by
  simp [Touch.startTiming] at hF
  simp [startTiming, hF]

def Touch.dispDone : May := .join ⟨0, [LRX_CD_EST.ALL], [], [], [.lrx]⟩ [Touch.layWalk, Touch.startTiming]
@[simp] theorem within_dispDone (d : Int) (hF : Φ.covers Touch.dispDone = true) : (dispDone d).Within Φ σ := by
  simp [Touch.dispDone] at hF
  simp [dispDone, hF]

def Touch.fineScan : May := ⟨0, [], [], [], [.lrx]⟩
@[simp] theorem within_fineScan (d : Int) (hF : Φ.covers Touch.fineScan = true) : (fineScan d).Within Φ σ := by
  simp [Touch.fineScan] at hF
  simp [fineScan, hF]

def Touch.startDisp : May := .join ⟨0, [LRX_STATUS.STAGE], [], [], [.lrx]⟩ [Touch.dispDone, Touch.fineScan]
@[simp] theorem within_startDisp (hF : Φ.covers Touch.startDisp = true) : startDisp.Within Φ σ := by
  simp [Touch.startDisp] at hF
  simp [startDisp, hF]

def Touch.startLocked : May := ⟨0, [LRX_STATUS.ACQ_FAILS, LRX_STATUS.STAGE, LRX_STATUS.WARM], [EV.RX_LOCKED], [], [.lrx]⟩
@[simp] theorem within_startLocked (hF : Φ.covers Touch.startLocked = true) : startLocked.Within Φ σ := by
  simp [Touch.startLocked] at hF
  simp [startLocked, hF]

def Touch.toIdle : May := .join ⟨0, [LRX_SC_STAT.STATE, LRX_STATUS.STAGE, LRX_STATUS.TIM_LOCK, LRX_STATUS.WARM], [], [], [.lrx]⟩ [Touch.syncDD,
  Touch.noQuality, Touch.dropLocks]
@[simp] theorem within_toIdle (hF : Φ.covers Touch.toIdle = true) : toIdle.Within Φ σ := by
  simp [Touch.toIdle] at hF
  simp [toIdle, hF]

def Touch.restartNow : May := .join ⟨0, [LRX_SC_STAT.STATE, LRX_STATUS.STAGE, LRX_STATUS.TIM_LOCK, LRX_STATUS.WARM], [], [], [.lrx]⟩ [Touch.modSc,
  Touch.syncDD, Touch.allScs, Touch.noQuality, Touch.dropLocks, Touch.startSfsync, Touch.startTiming, Touch.startDisp]
@[simp] theorem within_restartNow (kind : Nat) (hF : Φ.covers Touch.restartNow = true) : (restartNow kind).Within Φ σ := by
  simp [Touch.restartNow] at hF
  simp [restartNow, hF]
  split <;> simp [hF]

def Touch.autoRestart : May := .join ⟨0, [], [], [], [.lrx]⟩ [Touch.restartNow]
@[simp] theorem within_autoRestart (kind : Nat) (hF : Φ.covers Touch.autoRestart = true) : (autoRestart kind).Within Φ σ := by
  simp [Touch.autoRestart] at hF
  simp [autoRestart, hF]

def Touch.unfreezeCheck : May := .join ⟨0, [], [], [], []⟩ [Touch.restartNow]
@[simp] theorem within_unfreezeCheck (hF : Φ.covers Touch.unfreezeCheck = true) : unfreezeCheck.Within Φ σ := by
  simp [Touch.unfreezeCheck] at hF
  simp [unfreezeCheck]
  split <;> simp [hF]

def Touch.failAttempt : May := ⟨0, [LRX_STATUS.ACQ_FAILS], [EV.ACQ_FAIL], [], [.lrx]⟩
@[simp] theorem within_failAttempt (hF : Φ.covers Touch.failAttempt = true) : failAttempt.Within Φ σ := by
  simp [Touch.failAttempt] at hF
  simp [failAttempt, hF]

def Touch.tryStart : May := .join ⟨0, [], [], [], []⟩ [Touch.restartNow]
@[simp] theorem within_tryStart (hF : Φ.covers Touch.tryStart = true) : tryStart.Within Φ σ := by
  simp [Touch.tryStart] at hF
  simp [tryStart, hF]

def Touch.setRxEn : May := .join ⟨0, [LRX_CTRL.RX_EN], [], [], []⟩ [Touch.syncLosf, Touch.clearDefects, Touch.toIdle, Touch.tryStart]
@[simp] theorem within_setRxEn (v : Bool) (hF : Φ.covers Touch.setRxEn = true) : (setRxEn v).Within Φ σ := by
  simp [Touch.setRxEn] at hF
  simp [setRxEn, hF]

/-! ### Calibration -/

def Touch.modSlice : May := ⟨0, [], [], [], [.cnv]⟩
@[simp] theorem within_modSlice (n : Nat) (g : SliceSt → SliceSt) (hF : Φ.covers Touch.modSlice = true) : (modSlice n g).Within Φ σ := by
  simp [Touch.modSlice] at hF
  simp [modSlice, hF]

def Touch.retire : May := ⟨0, [], [], [], [.cnv]⟩
@[simp] theorem within_retire (n r : Nat) (hF : Φ.covers Touch.retire = true) : (retire n r).Within Φ σ := by
  simp [Touch.retire] at hF
  simp [retire, hF]

def Touch.serve : May := .join ⟨0, [], [], [], []⟩ [Touch.modSlice]
@[simp] theorem within_serve (n p : Nat) (hF : Φ.covers Touch.serve = true) : (serve n p).Within Φ σ := by
  simp [Touch.serve] at hF
  simp [serve, hF]

def Touch.modSet : May := ⟨0, [], [], [], [.cnv]⟩
@[simp] theorem within_modSet (k : Nat) (g : CalSet → CalSet) (hF : Φ.covers Touch.modSet = true) : (modSet k g).Within Φ σ := by
  simp [Touch.modSet] at hF
  simp [modSet, hF]

def Touch.syncSets : May := ⟨0, [CNV_STATUS.UNCAL, CNV_STATUS.UNTRACEABLE], [], [], []⟩
@[simp] theorem within_syncSets (hF : Φ.covers Touch.syncSets = true) : syncSets.Within Φ σ := by
  simp [Touch.syncSets] at hF
  simp [syncSets, Eff.Within, hF]

def Touch.refine : May := .join ⟨0, [CNV_FUSE_STAT.REFINED], [], [], []⟩ [Touch.modSet, Touch.syncSets]
@[simp] theorem within_refine (k i v : Nat) (hF : Φ.covers Touch.refine = true) : (refine k i v).Within Φ σ := by
  simp [Touch.refine] at hF
  simp [refine, hF]

def Touch.setTiming : May := .join ⟨0, [], [], [], []⟩ [Touch.refine]
@[simp] theorem within_setTiming (n : Nat) (v : Int) (hF : Φ.covers Touch.setTiming = true) : (setTiming n v).Within Φ σ := by
  simp [Touch.setTiming] at hF
  simp [setTiming, hF]

def Touch.trimSlice : May := .join ⟨0, [], [], [], []⟩ [Touch.setTiming]
@[simp] theorem within_trimSlice (n : Nat) (d : Int) (hF : Φ.covers Touch.trimSlice = true) : (trimSlice n d).Within Φ σ := by
  simp [Touch.trimSlice] at hF
  simp [trimSlice, hF]

def Touch.baseSkew : May := ⟨0, [], [], [], [.cnv]⟩
@[simp] theorem within_baseSkew (hF : Φ.covers Touch.baseSkew = true) : baseSkew.Within Φ σ := by
  simp [Touch.baseSkew] at hF
  simp [baseSkew, hF]

def Touch.checkRefs : May := ⟨0, [CNV_REF_STAT.FDEV, CNV_REF_STAT.VDEV, CNV_STATUS.REF_BAD], [EV.CAL_REF_BAD], [], []⟩
@[simp] theorem within_checkRefs (vdev fdev : Int) (hF : Φ.covers Touch.checkRefs = true) : (checkRefs vdev fdev).Within Φ σ := by
  simp [Touch.checkRefs] at hF
  simp [checkRefs, hF]

def Touch.abandonSteps : May := .join ⟨0, [], [], [], [.cnv]⟩ [Touch.retire]
@[simp] theorem within_abandonSteps (ms : List Nat) (hF : Φ.covers Touch.abandonSteps = true) : (abandonSteps ms).Within Φ σ := by
  simp [Touch.abandonSteps] at hF
  simp [abandonSteps, hF]

def Touch.endRun : May := .join ⟨0, [CNV_STATUS.FG_BUSY], [], [], [.cnv]⟩ [Touch.finish]
@[simp] theorem within_endRun (st : Status) (hF : Φ.covers Touch.endRun = true) : (endRun st).Within Φ σ := by
  simp [Touch.endRun] at hF
  simp [endRun]
  split <;> simp [hF]

def Touch.judgeFig : May := ⟨0, [], [EV.CAL_QUALITY_LOW], [], [.cnv]⟩
@[simp] theorem within_judgeFig (fig i v thr hyst : Nat) (hF : Φ.covers Touch.judgeFig = true) : (judgeFig fig i v thr hyst).Within Φ σ := by
  simp [Touch.judgeFig] at hF
  simp [judgeFig, hF]

def Touch.syncRows : May := ⟨0, [CNV_FUSE_STAT.BAD, CNV_FUSE_STAT.LATEST, CNV_FUSE_STAT.NEXT], [], [], []⟩
@[simp] theorem within_syncRows (set : Nat) (hF : Φ.covers Touch.syncRows = true) : (syncRows set).Within Φ σ := by
  simp [Touch.syncRows] at hF
  simp [syncRows, Eff.Within, hF]

def Touch.programRow : May := .join ⟨0, [], [], [], [.fuse]⟩ [Touch.syncRows]
@[simp] theorem within_programRow (set row : Nat) (ws : List Nat) (hF : Φ.covers Touch.programRow = true) : (programRow set row ws).Within Φ σ := by
  simp [Touch.programRow] at hF
  simp [programRow, hF]

def Touch.loadFuses : May := .join ⟨0, [CNV_FUSE_STAT.SOURCE], [EV.FUSE_ROW_BAD], [], []⟩ [Touch.modSet, Touch.syncSets, Touch.baseSkew, Touch.syncRows]
@[simp] theorem within_loadFuses (hF : Φ.covers Touch.loadFuses = true) : loadFuses.Within Φ σ := by
  simp [Touch.loadFuses] at hF
  simp [loadFuses, hF]
  refine within_forE fun k t => ?_
  split <;> simp [hF]

def Touch.commitNext : May := .join ⟨0, [], [EV.FUSE_EXHAUSTED], [], [.cnv]⟩ [Touch.finishFl]
@[simp] theorem within_commitNext (n : Nat) (hF : Φ.covers Touch.commitNext = true) : (commitNext n).Within Φ σ := by
  simp [Touch.commitNext] at hF
  induction n generalizing σ with
  | zero => simp [commitNext]
  | succ n ih =>
    simp only [commitNext, within_dyn]
    (repeat' split) <;> simp [hF, ih]

def Touch.commitGo : May := .join ⟨0, [], [], [], [.cnv]⟩ [Touch.commitNext]
@[simp] theorem within_commitGo (hF : Φ.covers Touch.commitGo = true) : commitGo.Within Φ σ := by
  simp [Touch.commitGo] at hF
  simp [commitGo]
  split <;> simp [hF]

def Touch.rowEnds : May := .join ⟨0, [], [], [], [.cnv]⟩ [Touch.commitNext]
@[simp] theorem within_rowEnds (row st : Nat) (hF : Φ.covers Touch.rowEnds = true) : (rowEnds row st).Within Φ σ := by
  simp [Touch.rowEnds] at hF
  simp [rowEnds, hF]

def Touch.stopCommit : May := .join ⟨0, [], [], [], [.cnv]⟩ [Touch.commitNext]
@[simp] theorem within_stopCommit (hF : Φ.covers Touch.stopCommit = true) : stopCommit.Within Φ σ := by
  simp [Touch.stopCommit] at hF
  simp [stopCommit]
  split <;> simp [hF]

def Touch.dropLoaded : May := .join ⟨0, [CNV_FUSE_STAT.REFINED, CNV_FUSE_STAT.SOURCE], [], [], []⟩ [Touch.modSet, Touch.syncSets]
@[simp] theorem within_dropLoaded (hF : Φ.covers Touch.dropLoaded = true) : dropLoaded.Within Φ σ := by
  simp [Touch.dropLoaded] at hF
  simp [dropLoaded, hF]

def Touch.takeCnv : May := ⟨0, [CNV_HALF_Q.MM, CNV_HALF_Q.SPARES, CNV_HALF_Q.SPUR, CNV_Q_SNAP.GEN, CNV_SLICE.GAIN, CNV_SLICE.OFFSET, CNV_SLICE.TIMING,
  CNV_SLICE_PH.PHASE, CNV_SLICE_PH.ROLE], [], [], [.cnv]⟩
@[simp] theorem within_takeCnv (hF : Φ.covers Touch.takeCnv = true) : takeCnv.Within Φ σ := by
  simp [Touch.takeCnv] at hF
  simp [takeCnv, hF]

def Touch.cnvTake : May := ⟨0, [], [], [], [.cnv]⟩
@[simp] theorem within_cnvTake (hF : Φ.covers Touch.cnvTake = true) : cnvTake.Within Φ σ := by
  simp [Touch.cnvTake] at hF
  simp [cnvTake, hF]

def Touch.startPass : May := ⟨0, [], [], [], [.cnv]⟩
@[simp] theorem within_startPass (hF : Φ.covers Touch.startPass = true) : startPass.Within Φ σ := by
  simp [Touch.startPass] at hF
  simp [startPass, hF]

def Touch.tempPass : May := .join ⟨0, [], [], [], []⟩ [Touch.startPass]
@[simp] theorem within_tempPass (hF : Φ.covers Touch.tempPass = true) : tempPass.Within Φ σ := by
  simp [Touch.tempPass] at hF
  simp [tempPass, hF]

def Touch.passEnd : May := .join ⟨0, [], [EV.CAL_PASS_DONE], [], [.cnv]⟩ [Touch.judgeFig]
@[simp] theorem within_passEnd (hF : Φ.covers Touch.passEnd = true) : passEnd.Within Φ σ := by
  simp [Touch.passEnd] at hF
  simp [passEnd, hF]

def Touch.stepEnds : May := .join ⟨0, [], [], [], [.cnv]⟩ [Touch.commitGo, Touch.passEnd]
@[simp] theorem within_stepEnds (m : Nat) (hF : Φ.covers Touch.stepEnds = true) : (stepEnds m).Within Φ σ := by
  simp [Touch.stepEnds] at hF
  simp [stepEnds, hF]

def Touch.abandonStep : May := .join ⟨0, [], [], [], []⟩ [Touch.abandonSteps, Touch.commitGo, Touch.passEnd]
@[simp] theorem within_abandonStep (m : Nat) (hF : Φ.covers Touch.abandonStep = true) : (abandonStep m).Within Φ σ := by
  simp [Touch.abandonStep] at hF
  simp [abandonStep, hF]

def Touch.takeOut : May := .join ⟨0, [CNV_STATUS.NOSPARE], [EV.SLICE_FAULT, EV.SLICE_NOSPARE], [], [.cnv]⟩ [Touch.modSlice, Touch.serve, Touch.trimSlice,
  Touch.abandonStep]
@[simp] theorem within_takeOut (n : Nat) (test : Option Nat) (trim : Int) (hF : Φ.covers Touch.takeOut = true) : (takeOut n test trim).Within Φ σ := by
  simp [Touch.takeOut] at hF
  simp [takeOut, hF]
  (repeat' split) <;> simp [hF]

def Touch.returnSlice : May := .join ⟨0, [CNV_STATUS.NOSPARE], [EV.SLICE_RETURN], [], [.cnv]⟩ [Touch.retire, Touch.serve, Touch.abandonStep]
@[simp] theorem within_returnSlice (n : Nat) (hF : Φ.covers Touch.returnSlice = true) : (returnSlice n).Within Φ σ := by
  simp [Touch.returnSlice] at hF
  simp [returnSlice, hF]
  split <;> simp [hF]

def Touch.returnSlices : May := .join ⟨0, [], [], [], [.cnv]⟩ [Touch.returnSlice]
@[simp] theorem within_returnSlices (hF : Φ.covers Touch.returnSlices = true) : returnSlices.Within Φ σ := by
  simp [Touch.returnSlices] at hF
  simp [returnSlices, hF]

def Touch.slicesTiming : May := .join ⟨0, [], [], [], []⟩ [Touch.trimSlice, Touch.takeOut]
@[simp] theorem within_slicesTiming (m : Nat) (steps : List Int) (hF : Φ.covers Touch.slicesTiming = true) : (slicesTiming m steps).Within Φ σ := by
  simp [Touch.slicesTiming] at hF
  simp [slicesTiming, hF]

/-! ### Gauge -/

def Touch.modMod : May := ⟨0, [], [], [], [.mon]⟩
@[simp] theorem within_modMod (m : Nat) (g : ModSt → ModSt) (hF : Φ.covers Touch.modMod = true) : (modMod m g).Within Φ σ := by
  simp [Touch.modMod] at hF
  simp [modMod, hF]

def Touch.chainRestart : May := .join ⟨0, [], [], [], []⟩ [Touch.modMod]
@[simp] theorem within_chainRestart (m : Nat) (hF : Φ.covers Touch.chainRestart = true) : (chainRestart m).Within Φ σ := by
  simp [Touch.chainRestart] at hF
  simp [chainRestart, hF]

def Touch.startStep : May := .join ⟨0, [], [], [], []⟩ [Touch.modMod, Touch.chainRestart]
@[simp] theorem within_startStep (m c : Nat) (hF : Φ.covers Touch.startStep = true) : (startStep m c).Within Φ σ := by
  simp [Touch.startStep] at hF
  simp [startStep, hF]

def Touch.startBurst : May := .join ⟨0, [], [], [], []⟩ [Touch.modMod, Touch.startStep]
@[simp] theorem within_startBurst (m : Nat) (hF : Φ.covers Touch.startBurst = true) : (startBurst m).Within Φ σ := by
  simp [Touch.startBurst] at hF
  simp [startBurst, hF]

def Touch.trigger : May := .join ⟨0, [MON_STATUS.BURST0, MON_STATUS.BURST1, MON_TRIG_OVR.ALL], [], [], []⟩ [Touch.modMod, Touch.startBurst]
@[simp] theorem within_trigger (m pw : Nat) (hF : Φ.covers Touch.trigger = true) : (trigger m pw).Within Φ σ := by
  simp [Touch.trigger] at hF
  simp [trigger, hF]

def Touch.triggerBy : May := .join ⟨0, [], [], [], []⟩ [Touch.trigger]
@[simp] theorem within_triggerBy (srcs ms : List Nat) (hF : Φ.covers Touch.triggerBy = true) : (triggerBy srcs ms).Within Φ σ := by
  simp [Touch.triggerBy] at hF
  simp [triggerBy, hF]

def Touch.pulse : May := .join ⟨0, [], [], [], []⟩ [Touch.trigger]
@[simp] theorem within_pulse (w : Nat) (hF : Φ.covers Touch.pulse = true) : (pulse w).Within Φ σ := by
  simp [Touch.pulse] at hF
  simp [pulse, hF]

def Touch.nextStep : May := .join ⟨0, [MON_STATUS.BURST0, MON_STATUS.BURST1], [], [], []⟩ [Touch.modMod, Touch.startStep]
@[simp] theorem within_nextStep (m c : Nat) (hF : Φ.covers Touch.nextStep = true) : (nextStep m c).Within Φ σ := by
  simp [Touch.nextStep] at hF
  simp [nextStep]
  split <;> simp [hF]

def Touch.enqueueWord : May := ⟨0, [MON_Q_STAT.LEVEL, MON_Q_STAT.LOST], [], [], [.mon]⟩
@[simp] theorem within_enqueueWord (q m : Nat) (w : Nat) (hF : Φ.covers Touch.enqueueWord = true) : (enqueueWord q m w).Within Φ σ := by
  simp [Touch.enqueueWord] at hF
  simp [enqueueWord, hF]

def Touch.deliver : May := .join ⟨0, [], [], [], []⟩ [Touch.modMod, Touch.nextStep, Touch.enqueueWord]
@[simp] theorem within_deliver (m c : Nat) (w : Int) (t : Nat) (hF : Φ.covers Touch.deliver = true) : (deliver m c w t).Within Φ σ := by
  simp [Touch.deliver] at hF
  simp [deliver, hF]

def Touch.ilvOff : May := .join ⟨0, [MON_CTRL.INTERLEAVE, MON_STATUS.BURST0, MON_STATUS.BURST1], [EV.MON_ILV_OFF], [], []⟩ [Touch.modMod,
  Touch.chainRestart]
@[simp] theorem within_ilvOff (hF : Φ.covers Touch.ilvOff = true) : ilvOff.Within Φ σ := by
  simp [Touch.ilvOff] at hF
  simp [ilvOff, hF]

def Touch.chainChanged : May := .join ⟨0, [], [], [], []⟩ [Touch.modMod]
@[simp] theorem within_chainChanged (old : State) (hF : Φ.covers Touch.chainChanged = true) : (chainChanged old).Within Φ σ := by
  simp [Touch.chainChanged] at hF
  simp [chainChanged, hF]

def Touch.monStart : May := .join ⟨0, [MON_CTRL.EN0, MON_CTRL.EN1, MON_STATUS.BURST0, MON_STATUS.BURST1], [], [], []⟩ [Touch.modMod, Touch.chainRestart]
@[simp] theorem within_monStart (m : Nat) (v : Bool) (hF : Φ.covers Touch.monStart = true) : (monStart m v).Within Φ σ := by
  simp [Touch.monStart] at hF
  simp [monStart, hF]

def Touch.popQueue : May := ⟨0, [MON_Q_STAT.LEVEL], [], [], [.mon]⟩
@[simp] theorem within_popQueue (q n : Nat) (hF : Φ.covers Touch.popQueue = true) : (popQueue q n).Within Φ σ := by
  simp [Touch.popQueue] at hF
  simp [popQueue, hF]

def Touch.monCntClr : May := ⟨0, [MON_Q_STAT.LOST, MON_TRIG_OVR.ALL], [], [], []⟩
@[simp] theorem within_monCntClr (hF : Φ.covers Touch.monCntClr = true) : monCntClr.Within Φ σ := by
  simp [Touch.monCntClr] at hF
  simp [monCntClr, Eff.Within, hF]

def Touch.interleaveWrite : May := .join ⟨0, [MON_CTRL.INTERLEAVE, MON_STATUS.BURST0, MON_STATUS.BURST1, SYS_ACC_STAT.RANGE], [], [], []⟩ [Touch.flagAcc,
  Touch.modMod, Touch.chainRestart]
@[simp] theorem within_interleaveWrite (m : Nat) (v : Bool) (hF : Φ.covers Touch.interleaveWrite = true) : (interleaveWrite m v).Within Φ σ := by
  simp [Touch.interleaveWrite] at hF
  simp [interleaveWrite, hF]

def Touch.monQPop : May := .join ⟨0, [], [], [], []⟩ [Touch.latchShadow, Touch.popQueue]
@[simp] theorem within_monQPop (m q : Nat) (hF : Φ.covers Touch.monQPop = true) : (monQPop m q).Within Φ σ := by
  simp [Touch.monQPop] at hF
  simp [monQPop, hF]

def Touch.monQRead : May := .join ⟨0, [], [], [], []⟩ [Touch.monQPop]
@[simp] theorem within_monQRead (m q : Nat) (hF : Φ.covers Touch.monQRead = true) : (monQRead m q).Within Φ σ := by
  simp [Touch.monQRead] at hF
  simp [monQRead, hF]

def Touch.newSet7 : May := .join ⟨0, [CNV_FUSE_STAT.REFINED, CNV_FUSE_STAT.SOURCE], [], [], []⟩ [Touch.modSet, Touch.syncSets]
@[simp] theorem within_newSet7 (ws : List (Nat × Nat)) (hF : Φ.covers Touch.newSet7 = true) : (newSet7 ws).Within Φ σ := by
  simp [Touch.newSet7] at hF
  simp [newSet7, hF]

def Touch.endSyscal : May := .join ⟨0, [MON_STATUS.SYSCAL], [EV.MON_SYSCAL_DONE], [], [.mon]⟩ [Touch.chainRestart, Touch.finish]
@[simp] theorem within_endSyscal (r : Running) (st : Status) (pay cal : List Nat) (after : Eff) (hF : Φ.covers Touch.endSyscal = true)
    (ha : ∀ t, after.Within Φ t) : (endSyscal r st pay cal after).Within Φ σ := by
  simp [Touch.endSyscal] at hF
  simp [endSyscal, hF, ha]

/-! ### Signal -/

@[simp] theorem within_sendSignal (hdr : Nat) : (sendSignal hdr).Within Φ σ := by
  simp [sendSignal]

@[simp] theorem within_emitPads : emitPads.Within Φ σ := by
  simp [emitPads]

/-! ### Transmit -/

def Touch.ltxModeWrite : May := .join ⟨0, [SYS_ACC_STAT.LOCK, SYS_ACC_STAT.RANGE], [], [], []⟩ [Touch.flagAcc, Touch.setTxMode]
@[simp] theorem within_ltxModeWrite (m mode n : Nat) (hF : Φ.covers Touch.ltxModeWrite = true) : (ltxModeWrite m mode n).Within Φ σ := by
  simp [Touch.ltxModeWrite] at hF
  simp [ltxModeWrite, hF]

def Touch.planChgCommit : May := .join ⟨0, [LTX_PLAN_CHG.RESULT], [], [], []⟩ [Touch.commitPlan]
@[simp] theorem within_planChgCommit (hF : Φ.covers Touch.planChgCommit = true) : planChgCommit.Within Φ σ := by
  simp [Touch.planChgCommit] at hF
  simp [planChgCommit, hF]
  split <;> simp [hF]

def Touch.planChgCancel : May := .join ⟨0, [LTX_PLAN_CHG.RESULT], [], [], []⟩ [Touch.cancelPlan]
@[simp] theorem within_planChgCancel (hF : Φ.covers Touch.planChgCancel = true) : planChgCancel.Within Φ σ := by
  simp [Touch.planChgCancel] at hF
  simp [planChgCancel, hF]

def Touch.startSweep : May := ⟨0, [LTX_STATUS.BIAS_LOCKED], [], [], [.ltx]⟩
@[simp] theorem within_startSweep (hF : Φ.covers Touch.startSweep = true) : startSweep.Within Φ σ := by
  simp [Touch.startSweep] at hF
  simp [startSweep, hF]

def Touch.judgeLock : May := ⟨0, [LTX_STATUS.BIAS_LOCKED], [EV.BIAS_LOCK], [], [.ltx]⟩
@[simp] theorem within_judgeLock (hF : Φ.covers Touch.judgeLock = true) : judgeLock.Within Φ σ := by
  simp [Touch.judgeLock] at hF
  simp [judgeLock, hF]

def Touch.modLaser : May := ⟨0, [], [], [], [.ltx]⟩
@[simp] theorem within_modLaser (p : Nat) (g : LaserSt → LaserSt) (hF : Φ.covers Touch.modLaser = true) : (modLaser p g).Within Φ σ := by
  simp [Touch.modLaser] at hF
  simp [modLaser, hF]

def Touch.laserIdle : May := ⟨0, [LTX_LAS_STAT.LASING, LTX_LAS_STAT.TUNED, LTX_STATUS.LAS0_READY, LTX_STATUS.LAS1_READY], [], [], []⟩
@[simp] theorem within_laserIdle (p : Nat) (hF : Φ.covers Touch.laserIdle = true) : (laserIdle p).Within Φ σ := by
  simp [Touch.laserIdle] at hF
  simp [laserIdle, hF]

def Touch.tune : May := .join ⟨0, [LTX_LAS_STAT.TUNING], [], [], []⟩ [Touch.laserIdle]
@[simp] theorem within_tune (p : Nat) (hF : Φ.covers Touch.tune = true) : (tune p).Within Φ σ := by
  simp [Touch.tune] at hF
  simp [tune, hF]

@[simp] theorem within_laserOn (p : Nat) : (laserOn p).Within Φ σ := by
  simp [laserOn]

def Touch.laserOff : May := .join ⟨0, [LTX_LAS_STAT.TUNING], [], [], []⟩ [Touch.laserIdle]
@[simp] theorem within_laserOff (p : Nat) (hF : Φ.covers Touch.laserOff = true) : (laserOff p).Within Φ σ := by
  simp [Touch.laserOff] at hF
  simp [laserOff, hF]

def Touch.laserFresh : May := .join ⟨0, [LTX_LAS_STAT.FAIL, LTX_LAS_STAT.HOLD], [], [], []⟩ [Touch.modLaser]
@[simp] theorem within_laserFresh (p : Nat) (hF : Φ.covers Touch.laserFresh = true) : (laserFresh p).Within Φ σ := by
  simp [Touch.laserFresh] at hF
  simp [laserFresh, hF]

def Touch.softReset : May := .join ⟨0, [LTX_LAS_STAT.RESETS], [], [], []⟩ [Touch.modLaser, Touch.tune]
@[simp] theorem within_softReset (p : Nat) (hF : Φ.covers Touch.softReset = true) : (softReset p).Within Φ σ := by
  simp [Touch.softReset] at hF
  simp [softReset, hF]

def Touch.laserFail : May := .join ⟨0, [LTX_LAS_STAT.FAIL, LTX_LAS_STAT.TUNING], [EV.LASER_FAIL], [], []⟩ [Touch.losEnter, Touch.unitFails, Touch.goDark,
  Touch.modLaser, Touch.laserIdle, Touch.softReset]
@[simp] theorem within_laserFail (p : Nat) (hF : Φ.covers Touch.laserFail = true) : (laserFail p).Within Φ σ := by
  simp [Touch.laserFail] at hF
  simp [laserFail, hF]

def Touch.acceptFtf : May := .join ⟨0, [LTX_LAS_CTRL.FTF], [], [], []⟩ [Touch.modLaser]
@[simp] theorem within_acceptFtf (p : Nat) (z : Int) (hF : Φ.covers Touch.acceptFtf = true) : (acceptFtf p z).Within Φ σ := by
  simp [Touch.acceptFtf] at hF
  simp [acceptFtf, hF]

def Touch.setLasEn : May := .join ⟨0, [LTX_LAS_CTRL.EN, LTX_LAS_STAT.HOLD], [], [], []⟩ [Touch.tune, Touch.laserOff, Touch.laserFresh]
@[simp] theorem within_setLasEn (p : Nat) (en : Bool) (hF : Φ.covers Touch.setLasEn = true) : (setLasEn p en).Within Φ σ := by
  simp [Touch.setLasEn] at hF
  simp [setLasEn, hF]

@[simp] theorem within_lasPower (p : Nat) : (lasPower p).Within Φ σ := by
  simp [lasPower]

def Touch.lasFreqWrite : May := .join ⟨0, [LTX_LAS_FREQ.FREQ], [], [], []⟩ [Touch.setFieldIf, Touch.tune, Touch.laserFresh]
@[simp] theorem within_lasFreqWrite (m p v : Nat) (hF : Φ.covers Touch.lasFreqWrite = true) : (lasFreqWrite m p v).Within Φ σ := by
  simp [Touch.lasFreqWrite] at hF
  simp [lasFreqWrite, hF]

def Touch.lasFtfWrite : May := .join ⟨0, [SYS_ACC_STAT.RANGE], [], [], []⟩ [Touch.flagAcc, Touch.acceptFtf]
@[simp] theorem within_lasFtfWrite (m p : Nat) (z : Int) (hF : Φ.covers Touch.lasFtfWrite = true) : (lasFtfWrite m p z).Within Φ σ := by
  simp [Touch.lasFtfWrite] at hF
  simp [lasFtfWrite, hF]

def Touch.lasReset : May := .join ⟨0, [LTX_LAS_STAT.HOLD], [], [], []⟩ [Touch.modLaser, Touch.softReset]
@[simp] theorem within_lasReset (p : Nat) (hF : Φ.covers Touch.lasReset = true) : (lasReset p).Within Φ σ := by
  simp [Touch.lasReset] at hF
  simp [lasReset, hF]

def Touch.startBring : May := .join ⟨0, [LTX_CTRL.OUT_EN], [], [], [.ltx]⟩ [Touch.startSweep]
@[simp] theorem within_startBring (run : Option Running) (hF : Φ.covers Touch.startBring = true) : (startBring run).Within Φ σ := by
  simp [Touch.startBring] at hF
  simp [startBring, hF]

def Touch.endBeacon : May := .join ⟨0, [], [], [], []⟩ [Touch.scrOff, Touch.goDark]
@[simp] theorem within_endBeacon (hF : Φ.covers Touch.endBeacon = true) : endBeacon.Within Φ σ := by
  simp [Touch.endBeacon] at hF
  simp [endBeacon, hF]

def Touch.outEnWrite : May := .join ⟨0, [SYS_ACC_STAT.RANGE], [], [], []⟩ [Touch.flagAcc, Touch.goDark, Touch.startBring, Touch.endBeacon]
@[simp] theorem within_outEnWrite (m : Nat) (v : Bool) (hF : Φ.covers Touch.outEnWrite = true) : (outEnWrite m v).Within Φ σ := by
  simp [Touch.outEnWrite] at hF
  simp [outEnWrite, hF]

def Touch.startSf : May := .join ⟨0, [LTX_PLAN_CHG.CD], [EV.PLAN_ANNOUNCED], [], [.pair, .tod]⟩ [Touch.timeMsg]
@[simp] theorem within_startSf (hF : Φ.covers Touch.startSf = true) : startSf.Within Φ σ := by
  simp [Touch.startSf] at hF
  simp [startSf, hF]

/-! ### Receive -/

def Touch.lrxModeWrite : May := .join ⟨0, [SYS_ACC_STAT.LOCK, SYS_ACC_STAT.RANGE], [], [], []⟩ [Touch.flagAcc, Touch.setRxMode]
@[simp] theorem within_lrxModeWrite (m mode n : Nat) (hF : Φ.covers Touch.lrxModeWrite = true) : (lrxModeWrite m mode n).Within Φ σ := by
  simp [Touch.lrxModeWrite] at hF
  simp [lrxModeWrite, hF]

def Touch.rxEnWrite : May := .join ⟨0, [SYS_ACC_STAT.RANGE], [], [], []⟩ [Touch.flagAcc, Touch.setRxEn]
@[simp] theorem within_rxEnWrite (m : Nat) (v : Bool) (hF : Φ.covers Touch.rxEnWrite = true) : (rxEnWrite m v).Within Φ σ := by
  simp [Touch.rxEnWrite] at hF
  simp [rxEnWrite, hF]

def Touch.hostRestart : May := .join ⟨0, [LRX_FREEZE.AGC, LRX_FREEZE.CD_TRACK, LRX_FREEZE.FREQ, LRX_FREEZE.IQ, LRX_FREEZE.TIMING, LRX_SC_CTRL.FFE_FREEZE,
  LRX_SC_STAT.STATE], [], [], [.lrx]⟩ [Touch.modSc, Touch.syncDD, Touch.restartNow]
@[simp] theorem within_hostRestart (frm mask : Nat) (hF : Φ.covers Touch.hostRestart = true) : (hostRestart frm mask).Within Φ σ := by
  simp [Touch.hostRestart] at hF
  simp [hostRestart, hF, LRX_FREEZE.fields]

def Touch.restartGo : May := .join ⟨0, [LRX_RESTART.RESULT], [], [], []⟩ [Touch.hostRestart]
@[simp] theorem within_restartGo (hF : Φ.covers Touch.restartGo = true) : restartGo.Within Φ σ := by
  simp [Touch.restartGo] at hF
  simp [restartGo, hF]

def Touch.agc : May := ⟨0, [LRX_AGC.GAIN], [], [], [.lrx]⟩
@[simp] theorem within_agc (pow : List Nat) (hF : Φ.covers Touch.agc = true) : (agc pow).Within Φ σ := by
  simp [Touch.agc] at hF
  simp [agc, hF]

def Touch.iqTrack : May := ⟨0, [], [], [], [.lrx]⟩
@[simp] theorem within_iqTrack (pow : List Nat) (cross : List Int) (hF : Φ.covers Touch.iqTrack = true) : (iqTrack pow cross).Within Φ σ := by
  simp [Touch.iqTrack] at hF
  simp [iqTrack, hF]

def Touch.scanEnd : May := .join ⟨0, [], [], [], [.lrx]⟩ [Touch.dispDone, Touch.fineScan]
@[simp] theorem within_scanEnd (sc : Scan) (hF : Φ.covers Touch.scanEnd = true) : (scanEnd sc).Within Φ σ := by
  simp [Touch.scanEnd] at hF
  simp [scanEnd]
  split <;> simp [hF]

def Touch.cmaWindow : May := .join ⟨0, [], [EV.POL_SINGULAR], [], []⟩ [Touch.modSc]
@[simp] theorem within_cmaWindow (k : Nat) (a : EqSt) (hF : Φ.covers Touch.cmaWindow = true) : (cmaWindow k a).Within Φ σ := by
  simp [Touch.cmaWindow] at hF
  simp [cmaWindow, hF]

def Touch.burstGuard : May := .join ⟨0, [], [EV.DFE_OFF, EV.DFE_ON], [], []⟩ [Touch.modSc, Touch.syncFb]
@[simp] theorem within_burstGuard (k : Nat) (a : EqSt) (hF : Φ.covers Touch.burstGuard = true) : (burstGuard k a).Within Φ σ := by
  simp [Touch.burstGuard] at hF
  simp [burstGuard, hF]

def Touch.relock : May := .join ⟨0, [], [EV.SC_RELOCK], [], []⟩ [Touch.toDD]
@[simp] theorem within_relock (k : Nat) (hF : Φ.covers Touch.relock = true) : (relock k).Within Φ σ := by
  simp [Touch.relock] at hF
  simp [relock, hF]

def Touch.scWindow : May := .join ⟨0, [LRX_SC_SLIP.TRK, LRX_SC_STAT.UNREL], [], [], []⟩ [Touch.modSc, Touch.toDD, Touch.cmaWindow, Touch.burstGuard,
  Touch.relock]
@[simp] theorem within_scWindow (k : Nat) (ys : List RxSym) (hF : Φ.covers Touch.scWindow = true) : (scWindow k ys).Within Φ σ := by
  simp [Touch.scWindow] at hF
  simp [scWindow, hF]

def Touch.stageAdvance : May := .join ⟨0, [LRX_STATUS.STAGE], [], [], []⟩ [Touch.startSfsync, Touch.startLocked]
@[simp] theorem within_stageAdvance (hF : Φ.covers Touch.stageAdvance = true) : stageAdvance.Within Φ σ := by
  simp [Touch.stageAdvance] at hF
  simp [stageAdvance, hF]

def Touch.timLoop : May := ⟨0, [LRX_TIM_EST.ALL], [], [], [.lrx]⟩
@[simp] theorem within_timLoop (e : Int) (hF : Φ.covers Touch.timLoop = true) : (timLoop e).Within Φ σ := by
  simp [Touch.timLoop] at hF
  simp [timLoop, hF]

def Touch.timWindow : May := .join ⟨0, [LRX_STATUS.TIM_LOCK], [EV.TIM_LIMIT], [], [.lrx]⟩ [Touch.startSfsync, Touch.startCma, Touch.autoRestart]
@[simp] theorem within_timWindow (hF : Φ.covers Touch.timWindow = true) : timWindow.Within Φ σ := by
  simp [Touch.timWindow] at hF
  simp [timWindow, hF]

def Touch.judgeSf : May := .join ⟨0, [LRX_FREQ_EST.ALL, LRX_STATUS.SF_LOCK, LRX_STATUS.STAGE], [EV.CD_MISMATCH], [], [.lrx]⟩ [Touch.modSc,
  Touch.autoRestart]
@[simp] theorem within_judgeSf (resid : Int) (hF : Φ.covers Touch.judgeSf = true) : (judgeSf resid).Within Φ σ := by
  simp [Touch.judgeSf] at hF
  simp [judgeSf, hF]

def Touch.scPilot : May := .join ⟨0, [LRX_SC_SLIP.OUT], [], [], []⟩ [Touch.modSc]
@[simp] theorem within_scPilot (k : Nat) (w : PilotWin) (hF : Φ.covers Touch.scPilot = true) : (scPilot k w).Within Φ σ := by
  simp [Touch.scPilot] at hF
  simp [scPilot, hF]

def Touch.crLoop : May := ⟨0, [LRX_CR_STAT.SHIFTING, LRX_FREQ_EST.ALL], [], [], [.lrx]⟩
@[simp] theorem within_crLoop (ws : List PilotWin) (hF : Φ.covers Touch.crLoop = true) : (crLoop ws).Within Φ σ := by
  simp [Touch.crLoop] at hF
  simp [crLoop, hF]

/-! ### Adapt -/

def Touch.takeQuality : May := ⟨0, [LRX_FAR_Q.SNR, LRX_Q_SNAP.GEN, LRX_SC_Q.MARGIN, LRX_SC_Q.SNR, LRX_SC_QX.PHERR, LRX_SC_QX.SNR_X, LRX_SC_QX.SNR_Y], [],
  [], [.lrx]⟩
@[simp] theorem within_takeQuality (hF : Φ.covers Touch.takeQuality = true) : takeQuality.Within Φ σ := by
  simp [Touch.takeQuality] at hF
  simp [takeQuality, hF]

def Touch.lrxTake : May := ⟨0, [], [], [], [.lrx]⟩
@[simp] theorem within_lrxTake (hF : Φ.covers Touch.lrxTake = true) : lrxTake.Within Φ σ := by
  simp [Touch.lrxTake] at hF
  simp [lrxTake, hF]

def Touch.clearSlips : May := ⟨0, [LRX_SC_SLIP.OUT, LRX_SC_SLIP.TRK], [], [], []⟩
@[simp] theorem within_clearSlips (hF : Φ.covers Touch.clearSlips = true) : clearSlips.Within Φ σ := by
  simp [Touch.clearSlips] at hF
  unfold clearSlips
  simp [hF]

def Touch.setAdaptEn : May := ⟨0, [LRX_ADAPT_CFG.RX_EN, LRX_ADAPT_CFG.TX_EN, LRX_ADAPT_STAT.PHASE], [], [], [.adapt, .lrx]⟩
@[simp] theorem within_setAdaptEn (tx rx : Bool) (hF : Φ.covers Touch.setAdaptEn = true) : (setAdaptEn tx rx).Within Φ σ := by
  simp [Touch.setAdaptEn] at hF
  simp [setAdaptEn, hF]

def Touch.adaptMsg : May := ⟨0, [], [], [], [.adapt]⟩
@[simp] theorem within_adaptMsg (t seq : Nat) (pay : List Nat) (hF : Φ.covers Touch.adaptMsg = true) : (adaptMsg t seq pay).Within Φ σ := by
  simp [Touch.adaptMsg] at hF
  simp [adaptMsg, hF]

def Touch.nextSeq : May := ⟨0, [], [], [], [.adapt]⟩
@[simp] theorem within_nextSeq (hF : Φ.covers Touch.nextSeq = true) : nextSeq.Within Φ σ := by
  simp [Touch.nextSeq] at hF
  simp [nextSeq, hF]

def Touch.sendOffer : May := .join ⟨0, [LRX_ADAPT_STAT.LAST_PLAN, LRX_ADAPT_STAT.OFFER_SEQ, LRX_ADAPT_STAT.PHASE], [EV.PLAN_OFFERED], [], [.adapt]⟩
  [Touch.adaptMsg, Touch.nextSeq]
@[simp] theorem within_sendOffer (es : List Nat) (t : Nat) (urgent : Bool) (hF : Φ.covers Touch.sendOffer = true) : (sendOffer es t urgent).Within Φ σ := by
  simp [Touch.sendOffer] at hF
  simp [sendOffer, hF]

def Touch.startBackoff : May := ⟨0, [LRX_ADAPT_STAT.BACKOFF_LEFT, LRX_ADAPT_STAT.PHASE], [], [], [.adapt]⟩
@[simp] theorem within_startBackoff (hF : Φ.covers Touch.startBackoff = true) : startBackoff.Within Φ σ := by
  simp [Touch.startBackoff] at hF
  simp [startBackoff, hF]

def Touch.ifCrc : May := ⟨0, [], [], [], [.lrx]⟩
@[simp] theorem within_ifCrc (ok : Bool) (e : Eff) (hF : Φ.covers Touch.ifCrc = true) (he : ∀ t, e.Within Φ t) : (ifCrc ok e).Within Φ σ := by
  simp [Touch.ifCrc] at hF
  simp [ifCrc, hF, he]

def Touch.judgeReport : May := .join ⟨0, [], [EV.ADAPT_SHORT], [], [.adapt]⟩ [Touch.sendOffer]
@[simp] theorem within_judgeReport (r : Report) (hF : Φ.covers Touch.judgeReport = true) : (judgeReport r).Within Φ σ := by
  simp [Touch.judgeReport] at hF
  simp [judgeReport, hF]
  split <;> simp [hF]

/-! ### Fec -/

def Touch.fecCntClr : May := ⟨0, [], [], [(128, 128)], []⟩
@[simp] theorem within_fecCntClr (hF : Φ.covers Touch.fecCntClr = true) : fecCntClr.Within Φ σ := by
  simp [Touch.fecCntClr] at hF
  simp only [fecCntClr, Eff.Within, List.mem_flatMap, List.mem_map, List.mem_range]
  rintro _ ⟨k, hk, c, hc, rfl⟩
  exact Foot.cnt_of_cnts hF (by simp only [fecCnt]; omega) (by simp only [fecCnt]; omega)

def Touch.fecSecond : May := ⟨0, [FEC_SEC_BER.EXP, FEC_SEC_BER.MANT, FEC_STATUS.DEG], [EV.FEC_DEG, EV.FEC_DEG_CLEAR], [], [.fec]⟩
@[simp] theorem within_fecSecond (hF : Φ.covers Touch.fecSecond = true) : fecSecond.Within Φ σ := by
  simp [Touch.fecSecond] at hF
  simp [fecSecond, hF]

def Touch.oneShot : May := ⟨0, [], [], [], [.fec]⟩
@[simp] theorem within_oneShot (hF : Φ.covers Touch.oneShot = true) : oneShot.Within Φ σ := by
  simp [Touch.oneShot] at hF
  simp [oneShot, hF]

def Touch.leaveInject : May := ⟨0, [FEC_INJ.MODE], [], [], [.fec]⟩
@[simp] theorem within_leaveInject (hF : Φ.covers Touch.leaveInject = true) : leaveInject.Within Φ σ := by
  simp [Touch.leaveInject] at hF
  simp [leaveInject, hF]

def Touch.injected : May := ⟨0, [], [], [], [.draws, .fec]⟩
@[simp] theorem within_injected (k : Nat) (hF : Φ.covers Touch.injected = true) : (injected k).Within Φ σ := by
  simp [Touch.injected] at hF
  simp [injected, hF]

def Touch.countBlock (k : Nat) : May :=
  ⟨0, [], [], [(fecCnt k 0, 1), (fecCnt k 1, 1), (fecCnt k 2, 1), (fecCnt k 3, 1), (fecCnt k 4, 1), (fecCnt k 5, 1), (fecCnt k 6, 1)], [.fec, .lrx]⟩
@[simp] theorem within_countBlock (k nz errs eras iters : Nat) (uncorr dm : Bool) (hF : Φ.covers (Touch.countBlock k) = true) :
    (countBlock k nz errs eras iters uncorr dm).Within Φ σ := by
  simp [Touch.countBlock] at hF
  simp [countBlock, hF]

def Touch.nativeBlock (k : Nat) : May := .join ⟨0, [], [], [], [.draws]⟩ [Touch.countBlock k]
@[simp] theorem within_nativeBlock (k j : Nat) (soft : List Int) (hF : Φ.covers (Touch.nativeBlock k) = true) : (nativeBlock k j soft).Within Φ σ := by
  simp [Touch.nativeBlock] at hF
  simp [nativeBlock, hF]

def Touch.carrierBlock : May := .join ⟨0, [], [], [], []⟩ [Touch.countBlock 0]
@[simp] theorem within_carrierBlock (soft : List Int) (hF : Φ.covers Touch.carrierBlock = true) : (carrierBlock soft).Within Φ σ := by
  simp [Touch.carrierBlock] at hF
  simp [carrierBlock, hF]

/-! ### Framing -/

def Touch.setCands : May := ⟨0, [FRM_DOVE_STAT.CANDS, FRM_STATUS.DOVE], [], [], [.frm]⟩
@[simp] theorem within_setCands (cs : List Cand) (window : Bool) (hF : Φ.covers Touch.setCands = true) : (setCands cs window).Within Φ σ := by
  simp [Touch.setCands] at hF
  simp [setCands, hF]

def Touch.dovetailRestart : May := .join ⟨0, [FRM_DOVE_STAT.BLK_OFS, FRM_STATUS.IM, FRM_STATUS.OOF], [], [], [.cli, .frm]⟩ [Touch.judgeFill, Touch.setCands]
@[simp] theorem within_dovetailRestart (hF : Φ.covers Touch.dovetailRestart = true) : dovetailRestart.Within Φ σ := by
  simp [Touch.dovetailRestart] at hF
  simp [dovetailRestart, hF]

def Touch.emul : May := ⟨0, [], [], [(256, 1)], [.frm]⟩
@[simp] theorem within_emul (n : Nat) (hF : Φ.covers Touch.emul = true) : (emul n).Within Φ σ := by
  simp [Touch.emul] at hF
  simp [emul, hF]

def Touch.modOh : May := ⟨0, [], [], [], [.frm]⟩
@[simp] theorem within_modOh (c : Nat) (g : OhSt → OhSt) (hF : Φ.covers Touch.modOh = true) : (modOh c g).Within Φ σ := by
  simp [Touch.modOh] at hF
  simp [modOh, hF]

def Touch.ohSlip : May := ⟨0, [FRM_OHC_STAT.SLIP_DROP, FRM_OHC_STAT.SLIP_REP], [], [], []⟩
@[simp] theorem within_ohSlip (c : Nat) (drop : Bool) (hF : Φ.covers Touch.ohSlip = true) : (ohSlip c drop).Within Φ σ := by
  simp [Touch.ohSlip] at hF
  simp [ohSlip, hF]

def Touch.drainOh : May := .join ⟨0, [], [], [], []⟩ [Touch.modOh]
@[simp] theorem within_drainOh (c n : Nat) (hF : Φ.covers Touch.drainOh = true) : (drainOh c n).Within Φ σ := by
  simp [Touch.drainOh] at hF
  induction n generalizing σ with
  | zero => simp [drainOh]
  | succ n ih =>
    simp only [drainOh, within_dyn]
    (repeat' split) <;> simp [hF, ih]

def Touch.ohWrite : May := .join ⟨0, [], [], [], []⟩ [Touch.modOh, Touch.ohSlip]
@[simp] theorem within_ohWrite (c : Nat) (rx : Bool) (frame : List Nat) (hF : Φ.covers Touch.ohWrite = true) : (ohWrite c rx frame).Within Φ σ := by
  simp [Touch.ohWrite] at hF
  simp [ohWrite, hF]

def Touch.ohRead : May := .join ⟨0, [], [], [], []⟩ [Touch.modOh, Touch.ohSlip]
@[simp] theorem within_ohRead (c : Nat) (rx : Bool) (hF : Φ.covers Touch.ohRead = true) : (ohRead c rx).Within Φ σ := by
  simp [Touch.ohRead] at hF
  simp [ohRead]
  split <;> simp [hF]

def Touch.frmCntClr : May := ⟨0, [FRM_OHC_STAT.SLIP_DROP, FRM_OHC_STAT.SLIP_REP], [], [(256, 1), (257, 1), (258, 1), (259, 1)], []⟩
@[simp] theorem within_frmCntClr (hF : Φ.covers Touch.frmCntClr = true) : frmCntClr.Within Φ σ := by
  simp [Touch.frmCntClr] at hF
  simp [frmCntClr, Eff.Within, List.range_succ, hF, or_imp, forall_and]

def Touch.judgeDeg : May := .join ⟨0, [], [], [], []⟩ [Touch.clearDefect, Touch.declareDefect]
@[simp] theorem within_judgeDeg (l : Nat) (hF : Φ.covers Touch.judgeDeg = true) : (judgeDeg l).Within Φ σ := by
  simp [Touch.judgeDeg] at hF
  simp [judgeDeg, hF]

def Touch.latchBank : May := ⟨0, [FRM_PM_BIPV.ALL, FRM_PM_CTRL.FREE_RUN, FRM_PM_FEB.ALL, FRM_PM_FLAGS.DEF, FRM_PM_FLAGS.ES, FRM_PM_FLAGS.FE_DEF,
  FRM_PM_FLAGS.FE_ES, FRM_PM_FLAGS.FE_SES, FRM_PM_FLAGS.FE_UAS10, FRM_PM_FLAGS.SES, FRM_PM_FLAGS.UAS10, FRM_PM_FRAMES.ALL, FRM_PM_NEB.ALL, FRM_PM_TIME.ALL],
  [], [], []⟩
@[simp] theorem within_latchBank (r : PmRec) (free : Bool) (hF : Φ.covers Touch.latchBank = true) : (latchBank r free).Within Φ σ := by
  simp [Touch.latchBank] at hF
  simp [latchBank, hF]

/-! ### RefSel -/

@[simp] theorem within_sendEsmc (event : Bool) : (sendEsmc event).Within Φ σ := by
  simp [sendEsmc]

def Touch.failQl : May := ⟨0, [REF_CAND_STAT.QL_RX], [], [], []⟩
@[simp] theorem within_failQl (hF : Φ.covers Touch.failQl = true) : failQl.Within Φ σ := by
  simp [Touch.failQl] at hF
  simp [failQl, hF]

def Touch.syncQl : May := ⟨0, [REF_CAND_STAT.QL_EFF], [EV.QL_CHANGE], [], []⟩
@[simp] theorem within_syncQl (hF : Φ.covers Touch.syncQl = true) : syncQl.Within Φ σ := by
  simp [Touch.syncQl] at hF
  simp [syncQl, hF]

def Touch.syncOut : May := .join ⟨0, [REF_STATUS.OUT_QL], [EV.QL_CHANGE], [], []⟩ [Touch.timeMsg]
@[simp] theorem within_syncOut (hF : Φ.covers Touch.syncOut = true) : syncOut.Within Φ σ := by
  simp [Touch.syncOut] at hF
  simp [syncOut, hF]

def Touch.syncStates : May := ⟨0, [REF_CAND_STAT.STATE], [], [], []⟩
@[simp] theorem within_syncStates (hF : Φ.covers Touch.syncStates = true) : syncStates.Within Φ σ := by
  simp [Touch.syncStates] at hF
  simp [syncStates, Eff.Within, hF]

def Touch.startSwitch : May := ⟨0, [REF_STATUS.BUILDOUT, REF_STATUS.SELECTED], [EV.CLAMP_EXIT, EV.REF_SWITCH], [], []⟩
@[simp] theorem within_startSwitch (c : Nat) (hF : Φ.covers Touch.startSwitch = true) : (startSwitch c).Within Φ σ := by
  simp [Touch.startSwitch] at hF
  simp [startSwitch, hF]

def Touch.enterClamp : May := ⟨0, [REF_DPLL_FREQ.ALL, REF_HIST_FREQ.ALL, REF_STATUS.CLAMP_EXPIRED, REF_STATUS.DPLL, REF_STATUS.SELECTED], [EV.CLAMP_ENTER],
  [], [.ref]⟩
@[simp] theorem within_enterClamp (free : Bool) (hF : Φ.covers Touch.enterClamp = true) : (enterClamp free).Within Φ σ := by
  simp [Touch.enterClamp] at hF
  simp [enterClamp, hF]

def Touch.selEval : May := .join ⟨0, [], [], [], []⟩ [Touch.startSwitch, Touch.enterClamp]
@[simp] theorem within_selEval (hF : Φ.covers Touch.selEval = true) : selEval.Within Φ σ := by
  simp [Touch.selEval] at hF
  simp [selEval]
  split <;> simp [hF]

def Touch.refEval : May := .join ⟨0, [], [], [], []⟩ [Touch.failQl, Touch.syncQl, Touch.syncOut, Touch.syncStates, Touch.selEval]
@[simp] theorem within_refEval (hF : Φ.covers Touch.refEval = true) : refEval.Within Φ σ := by
  simp [Touch.refEval] at hF
  simp [refEval, hF]

/-! ### Client -/

def Touch.trainLanes : May := ⟨0, [SRD_LANE_STAT.STATE], [], [], []⟩
@[simp] theorem within_trainLanes (ls : List Nat) (hF : Φ.covers Touch.trainLanes = true) : (trainLanes ls).Within Φ σ := by
  simp [Touch.trainLanes] at hF
  simp [trainLanes, hF]

def Touch.releaseLanes : May := ⟨0, [SRD_LANE_STAT.STATE, SRD_LANE_STAT.SYNC], [], [], []⟩
@[simp] theorem within_releaseLanes (ls : List Nat) (hF : Φ.covers Touch.releaseLanes = true) : (releaseLanes ls).Within Φ σ := by
  simp [Touch.releaseLanes] at hF
  simp [releaseLanes, hF]

def Touch.startState : May := ⟨0, [CLI_CH_STAT.ING_FAIL, CLI_CH_STAT.LF_OUT, CLI_CH_STAT.RX_SLOTS, CLI_CH_STAT.STATE], [], [], [.cli]⟩
@[simp] theorem within_startState (t : Nat) (lanes : List Nat) (hF : Φ.covers Touch.startState = true) : (startState t lanes).Within Φ σ := by
  simp [Touch.startState] at hF
  simp [startState, hF]

def Touch.addChannel : May := .join ⟨0, [CLI_CH_CFG.LANE_BASE, CLI_CH_CFG.M, CLI_CH_CFG.RATE, CLI_CH_CFG.TYPE, CLI_CH_CTRL.EN, CLI_CH_CTRL.LOOP], [], [],
  []⟩ [Touch.takeSlots, Touch.judgeProt, Touch.syncPorts, Touch.trainLanes, Touch.startState]
@[simp] theorem within_addChannel (t w : Nat) (lanes slots : List Nat) (hF : Φ.covers Touch.addChannel = true) : (addChannel t w lanes slots).Within Φ σ := by
  simp [Touch.addChannel] at hF
  simp [addChannel, hF]

def Touch.removeChannel : May := .join ⟨0, [CLI_CH_CFG.LANE_BASE, CLI_CH_CFG.M, CLI_CH_CFG.RATE, CLI_CH_CFG.SLOTS, CLI_CH_CFG.TYPE, CLI_CH_CTRL.EN,
  CLI_CH_CTRL.LOOP, CLI_CH_STAT.ING_FAIL, CLI_CH_STAT.LF_OUT, CLI_CH_STAT.SKEW, CLI_CH_STAT.STATE], [EV.CLIENT_DOWN], [], [.cli]⟩ [Touch.clearDefect,
  Touch.takeSlots, Touch.judgeProt, Touch.syncPorts, Touch.refEval, Touch.releaseLanes]
@[simp] theorem within_removeChannel (t : Nat) (hF : Φ.covers Touch.removeChannel = true) : (removeChannel t).Within Φ σ := by
  simp [Touch.removeChannel] at hF
  simp [removeChannel, hF]

def Touch.startMove : May := .join ⟨0, [CLI_MOVE_STAT.CD, CLI_MOVE_STAT.CHANNEL, CLI_MOVE_STAT.PENDING, CLI_MOVE_STAT.TARGET_SF, CLI_TS_OWNER.PEND], [], [],
  [.cli]⟩ [Touch.applyMove, Touch.judgeProt]
@[simp] theorem within_startMove (t : Nat) (slots : List Nat) (hF : Φ.covers Touch.startMove = true) : (startMove t slots).Within Φ σ := by
  simp [Touch.startMove] at hF
  simp [startMove, hF]

def Touch.setLoop : May := ⟨0, [CLI_CH_CTRL.LOOP, CLI_CH_STAT.LF_OUT], [], [], []⟩
@[simp] theorem within_setLoop (t v : Nat) (hF : Φ.covers Touch.setLoop = true) : (setLoop t v).Within Φ σ := by
  simp [Touch.setLoop] at hF
  simp [setLoop, hF]

def Touch.leaveLoops : May := .join ⟨0, [], [], [], []⟩ [Touch.setLoop]
@[simp] theorem within_leaveLoops (hF : Φ.covers Touch.leaveLoops = true) : leaveLoops.Within Φ σ := by
  simp [Touch.leaveLoops] at hF
  simp [leaveLoops, hF]

def Touch.cliCntClr : May := ⟨0, [], [], [(288, 128)], []⟩
@[simp] theorem within_cliCntClr (hF : Φ.covers Touch.cliCntClr = true) : cliCntClr.Within Φ σ := by
  simp [Touch.cliCntClr] at hF
  simp only [cliCntClr, Eff.Within, List.mem_map, List.mem_range]
  rintro _ ⟨k, hk, rfl⟩
  exact Foot.cnt_of_cnts hF (by omega) (by omega)

def Touch.acceptEntries : May := ⟨0, [CLI_RX_MSI.CHAN, CLI_RX_MSI.OCC], [], [], []⟩
@[simp] theorem within_acceptEntries (vs : List (Nat × Nat)) (hF : Φ.covers Touch.acceptEntries = true) : (acceptEntries vs).Within Φ σ := by
  simp [Touch.acceptEntries] at hF
  unfold acceptEntries
  simp [hF]

def Touch.judgeSlots : May := .join ⟨0, [CLI_CH_STAT.RX_SLOTS], [], [], []⟩ [Touch.judgeFill]
@[simp] theorem within_judgeSlots (hF : Φ.covers Touch.judgeSlots = true) : judgeSlots.Within Φ σ := by
  simp [Touch.judgeSlots] at hF
  simp [judgeSlots, hF]

def Touch.takeRecord : May := ⟨0, [], [EV.TRIB_MOVE_LATE], [], [.cli]⟩
@[simp] theorem within_takeRecord (r act pend : List Nat) (hF : Φ.covers Touch.takeRecord = true) : (takeRecord r act pend).Within Φ σ := by
  simp [Touch.takeRecord] at hF
  simp [takeRecord, hF]

def Touch.cbrSlip (t : Nat) : May := ⟨0, [], [], [(cliCnt t 2, 1), (cliCnt t 3, 1)], []⟩
@[simp] theorem within_cbrSlip (t : Nat) (drop : Bool) (hF : Φ.covers (Touch.cbrSlip t) = true) : (cbrSlip t drop).Within Φ σ := by
  simp [Touch.cbrSlip] at hF
  cases drop <;> simp [cbrSlip, hF]

def Touch.cbrWrite (t : Nat) : May := .join ⟨0, [], [], [], [.cli]⟩ [Touch.cbrSlip t]
@[simp] theorem within_cbrWrite (t : Nat) (ing : Bool) (frame : List Nat) (hF : Φ.covers (Touch.cbrWrite t) = true) : (cbrWrite t ing frame).Within Φ σ := by
  simp [Touch.cbrWrite] at hF
  simp [cbrWrite, hF]

def Touch.cbrRead (t : Nat) : May := .join ⟨0, [], [], [], [.cli]⟩ [Touch.cbrSlip t]
@[simp] theorem within_cbrRead (t : Nat) (ing : Bool) (hF : Φ.covers (Touch.cbrRead t) = true) : (cbrRead t ing).Within Φ σ := by
  simp [Touch.cbrRead] at hF
  simp only [cbrRead, within_dyn]
  split <;> simp [hF]

/-! ### Lanes -/

def Touch.laneIngress : May := .join ⟨0, [CLI_CH_STAT.ING_FAIL], [], [], []⟩ [Touch.chDown]
@[simp] theorem within_laneIngress (n : Nat) (hF : Φ.covers Touch.laneIngress = true) : (laneIngress n).Within Φ σ := by
  simp [Touch.laneIngress] at hF
  simp [laneIngress]
  split <;> simp [hF]

def Touch.laneReady : May := ⟨0, [CLI_CH_STAT.STATE], [], [], []⟩
@[simp] theorem within_laneReady (n : Nat) (hF : Φ.covers Touch.laneReady = true) : (laneReady n).Within Φ σ := by
  simp [Touch.laneReady] at hF
  simp [laneReady]
  split <;> simp [hF]

def Touch.startTraining : May := .join ⟨0, [SRD_LANE_STAT.STATE, SRD_LANE_STAT.SYNC], [], [], []⟩ [Touch.laneIngress]
@[simp] theorem within_startTraining (n : Nat) (hF : Φ.covers Touch.startTraining = true) : (startTraining n).Within Φ σ := by
  simp [Touch.startTraining] at hF
  simp [startTraining, hF]

def Touch.judgeEye : May := ⟨0, [], [EV.CAL_QUALITY_LOW], [], [.cnv]⟩
@[simp] theorem within_judgeEye (key n v thr : Nat) (hF : Φ.covers Touch.judgeEye = true) : (judgeEye key n v thr).Within Φ σ := by
  simp [Touch.judgeEye] at hF
  simp [judgeEye, hF]

@[simp] theorem within_jigSignal (n : Nat) : (jigSignal n).Within Φ σ := by
  simp [jigSignal]

def Touch.setJig : May := .join ⟨0, [SRD_JIG_CFG.BURST, SRD_JIG_CFG.CHK_EN, SRD_JIG_CFG.CHK_PAT, SRD_JIG_CFG.GEN_EN, SRD_JIG_CFG.GEN_PAT, SRD_JIG_CFG.INJ,
  SRD_JIG_CFG.LOCK, SRD_JIG_CFG.RATE, SRD_LANE_STAT.STATE], [], [], []⟩ [Touch.laneIngress]
@[simp] theorem within_setJig (n w : Nat) (hF : Φ.covers Touch.setJig = true) : (setJig n w).Within Φ σ := by
  simp [Touch.setJig] at hF
  simp [setJig, hF, SRD_JIG_CFG.fields]

def Touch.leaveJig : May := .join ⟨0, [], [], [], []⟩ [Touch.setJig]
@[simp] theorem within_leaveJig (hF : Φ.covers Touch.leaveJig = true) : leaveJig.Within Φ σ := by
  simp [Touch.leaveJig] at hF
  simp [leaveJig, hF, SRD_JIG_CFG.fields]

@[simp] theorem within_injectGo (n : Nat) : (injectGo n).Within Φ σ := by
  simp [injectGo]
  split <;> simp []

def Touch.srdCntClr : May := ⟨0, [], [], [(672, 136)], []⟩
@[simp] theorem within_srdCntClr (hF : Φ.covers Touch.srdCntClr = true) : srdCntClr.Within Φ σ := by
  simp [Touch.srdCntClr] at hF
  simp only [srdCntClr, Eff.Within, List.mem_map, List.mem_range]
  rintro _ ⟨k, hk, rfl⟩
  exact Foot.cnt_of_cnts hF (by omega) (by omega)

def Touch.retrain : May := .join ⟨0, [], [], [], []⟩ [Touch.startTraining]
@[simp] theorem within_retrain (n : Nat) (hF : Φ.covers Touch.retrain = true) : (retrain n).Within Φ σ := by
  simp [Touch.retrain] at hF
  simp [retrain, hF]

def Touch.injGoWrite : May := .join ⟨0, [SYS_ACC_STAT.RANGE], [], [], []⟩ [Touch.flagAcc]
@[simp] theorem within_injGoWrite (m n : Nat) (hF : Φ.covers Touch.injGoWrite = true) : (injGoWrite m n).Within Φ σ := by
  simp [Touch.injGoWrite] at hF
  simp [injGoWrite, hF]

def Touch.modGrp : May := ⟨0, [], [], [], [.srd]⟩
@[simp] theorem within_modGrp (g : Nat) (f : GrpSt → GrpSt) (hF : Φ.covers Touch.modGrp = true) : (modGrp g f).Within Φ σ := by
  simp [Touch.modGrp] at hF
  simp [modGrp, hF]

def Touch.syncGroup : May := ⟨0, [SRD_LANE_STAT.IN_GROUP], [], [], []⟩
@[simp] theorem within_syncGroup (g : Nat) (hF : Φ.covers Touch.syncGroup = true) : (syncGroup g).Within Φ σ := by
  simp [Touch.syncGroup] at hF
  simp [syncGroup, Eff.Within, hF]

def Touch.setActive : May := .join ⟨0, [SRD_GRP_STAT.BATTEN_RX, SRD_GRP_STAT.BATTEN_TX, SRD_GRP_STAT.MITRE_RX, SRD_GRP_STAT.MITRE_TX], [EV.LANE_RESTORE],
  [], []⟩ [Touch.modGrp, Touch.syncGroup]
@[simp] theorem within_setActive (g : Nat) (tx : Bool) (mask : Nat) (hF : Φ.covers Touch.setActive = true) : (setActive g tx mask).Within Φ σ := by
  simp [Touch.setActive] at hF
  simp [setActive, hF]

def Touch.dropLane : May := .join ⟨0, [SRD_LANE_STAT.STATE, SRD_LANE_STAT.SYNC], [EV.LANE_DROP], [], []⟩ [Touch.modGrp]
@[simp] theorem within_dropLane (g k cause : Nat) (hF : Φ.covers Touch.dropLane = true) : (dropLane g k cause).Within Φ σ := by
  simp [Touch.dropLane] at hF
  simp [dropLane, hF]

def Touch.alignLane (g k : Nat) : May :=
  .join ⟨0, [SRD_LANE_STAT.SIG, SRD_LANE_STAT.STATE, SRD_LANE_STAT.SYNC], [], [(srdCnt (grpLane g k) 0, 1)], []⟩ [Touch.modGrp, Touch.dropLane]
@[simp] theorem within_alignLane (g k : Nat) (a : AlignLane) (hF : Φ.covers (Touch.alignLane g k) = true) : (alignLane g k a).Within Φ σ := by
  simp [Touch.alignLane] at hF
  simp [alignLane, hF]

def Touch.startEnum : May := ⟨0, [CMD_BAT_STAT.ENUM], [], [], [.cmd]⟩
@[simp] theorem within_startEnum (busy : Bool) (hF : Φ.covers Touch.startEnum = true) : (startEnum busy).Within Φ σ := by
  simp [Touch.startEnum] at hF
  simp [startEnum, hF]

def Touch.stopEnum : May := ⟨0, [CMD_BAT_STAT.COUNT, CMD_BAT_STAT.ENUM], [], [], [.cmd]⟩
@[simp] theorem within_stopEnum (hF : Φ.covers Touch.stopEnum = true) : stopEnum.Within Φ σ := by
  simp [Touch.stopEnum] at hF
  simp [stopEnum, hF]

def Touch.groupTurns : May := .join ⟨0, [], [], [], []⟩ [Touch.startEnum, Touch.stopEnum]
@[simp] theorem within_groupTurns (g : Nat) (isUp : Bool) (hF : Φ.covers Touch.groupTurns = true) : (groupTurns g isUp).Within Φ σ := by
  simp [Touch.groupTurns] at hF
  simp [groupTurns, hF]

def Touch.judgeGroup : May := .join ⟨0, [], [EV.GROUP_DOWN, EV.GROUP_UP], [], []⟩ [Touch.modGrp, Touch.groupTurns]
@[simp] theorem within_judgeGroup (g : Nat) (ls : List AlignLane) (hF : Φ.covers Touch.judgeGroup = true) : (judgeGroup g ls).Within Φ σ := by
  simp [Touch.judgeGroup] at hF
  simp [judgeGroup, hF]

def Touch.judgeWidth : May := .join ⟨0, [], [EV.GROUP_DOWN], [], []⟩ [Touch.modGrp, Touch.setActive]
@[simp] theorem within_judgeWidth (g farGood : Nat) (hF : Φ.covers Touch.judgeWidth = true) : (judgeWidth g farGood).Within Φ σ := by
  simp [Touch.judgeWidth] at hF
  simp [judgeWidth]
  split <;> simp [hF]

def Touch.farWidth : May := .join ⟨0, [], [], [], []⟩ [Touch.modGrp, Touch.setActive]
@[simp] theorem within_farWidth (g active next : Nat) (hF : Φ.covers Touch.farWidth = true) : (farWidth g active next).Within Φ σ := by
  simp [Touch.farWidth] at hF
  simp [farWidth]
  split <;> simp [hF]

/-! ### Engines -/

def Touch.leaveMaint : May := .join ⟨0, [FRM_CTRL.BDI_FORCE, FRM_CTRL.FILL_FORCE], [], [], []⟩ [Touch.judgeFill, Touch.leaveInject, Touch.leaveLoops,
  Touch.leaveJig]
@[simp] theorem within_leaveMaint (hF : Φ.covers Touch.leaveMaint = true) : leaveMaint.Within Φ σ := by
  simp [Touch.leaveMaint] at hF
  simp [leaveMaint, hF]

def Touch.setDev : May := .join ⟨0, [CMD_STATUS.STATE], [EV.STATE_CHANGE], [], []⟩ [Touch.leaveMaint]
@[simp] theorem within_setDev (new : Nat) (hF : Φ.covers Touch.setDev = true) : (setDev new).Within Φ σ := by
  simp [Touch.setDev] at hF
  simp [setDev, hF]

def Touch.enterFault : May := .join ⟨0, [CMD_STATUS.FAULT_CAUSE], [], [], []⟩ [Touch.setRole, Touch.unitFails, Touch.setDev]
@[simp] theorem within_enterFault (c trigger : Nat) (hF : Φ.covers Touch.enterFault = true) : (enterFault c trigger).Within Φ σ := by
  simp [Touch.enterFault] at hF
  simp [enterFault, hF]

def Touch.setEng : May := ⟨0, [ENG_CORE.STATE, PAIR_ENG.STATE], [], [], []⟩
@[simp] theorem within_setEng (e st : Nat) (hF : Φ.covers Touch.setEng = true) : (setEng e st).Within Φ σ := by
  simp [Touch.setEng] at hF
  simp [setEng, hF]

def Touch.dropTask : May := ⟨0, [ENG_CORE.TASK, PAIR_ENG.RUNS_FOR], [], [], []⟩
@[simp] theorem within_dropTask (e : Nat) (hF : Φ.covers Touch.dropTask = true) : (dropTask e).Within Φ σ := by
  simp [Touch.dropTask] at hF
  simp [dropTask, hF]

def Touch.giveTask : May := .join ⟨0, [ENG_CORE.TASK, PAIR_ENG.RUNS_FOR], [], [], []⟩ [Touch.setEng]
@[simp] theorem within_giveTask (e t : Nat) (hF : Φ.covers Touch.giveTask = true) : (giveTask e t).Within Φ σ := by
  simp [Touch.giveTask] at hF
  simp [giveTask, hF]

def Touch.migrate : May := .join ⟨0, [PAIR_ENG.RUNS_FOR], [EV.SPARE_NONE, EV.SPARE_TAKEOVER], [], [.eng]⟩ [Touch.enterFault]
@[simp] theorem within_migrate (e t : Nat) (hF : Φ.covers Touch.migrate = true) : (migrate e t).Within Φ σ := by
  simp [Touch.migrate] at hF
  simp [migrate]
  split <;> simp [hF]

def Touch.failEngine : May := .join ⟨0, [ENG_CORE.CAUSE, PAIR_ENG.FAILS], [EV.ENG_ECC, EV.ENG_WATCHDOG], [], []⟩ [Touch.setEng, Touch.dropTask,
  Touch.migrate]
@[simp] theorem within_failEngine (e cause : Nat) (hF : Φ.covers Touch.failEngine = true) : (failEngine e cause).Within Φ σ := by
  simp [Touch.failEngine] at hF
  simp [failEngine, hF]

def Touch.fwShow : May := ⟨0, [ENG_FW_STAT.CLUSTER, ENG_FW_STAT.ENGINE, ENG_FW_STAT.PHASE], [], [], []⟩
@[simp] theorem within_fwShow (e phase : Nat) (hF : Φ.covers Touch.fwShow = true) : (fwShow e phase).Within Φ σ := by
  simp [Touch.fwShow] at hF
  simp [fwShow, hF]

def Touch.fwNextStep : May := .join ⟨0, [ENG_FW_STAT.PHASE], [EV.FW_DONE], [], [.eng]⟩ [Touch.finish, Touch.fwShow]
@[simp] theorem within_fwNextStep (hF : Φ.covers Touch.fwNextStep = true) : fwNextStep.Within Φ σ := by
  simp [Touch.fwNextStep] at hF
  simp [fwNextStep]
  split <;> simp [hF]

def Touch.fwBoundary : May := .join ⟨0, [ENG_CORE.IMAGE], [], [], [.eng]⟩ [Touch.setEng, Touch.dropTask, Touch.giveTask, Touch.fwShow]
@[simp] theorem within_fwBoundary (hF : Φ.covers Touch.fwBoundary = true) : fwBoundary.Within Φ σ := by
  simp [Touch.fwBoundary] at hF
  simp [fwBoundary]
  (repeat' split) <;> simp [hF]

def Touch.fwUndo : May := .join ⟨0, [ENG_CORE.IMAGE], [], [], [.eng]⟩ [Touch.setEng, Touch.dropTask, Touch.giveTask]
@[simp] theorem within_fwUndo (w : Nat × Nat) (hF : Φ.covers Touch.fwUndo = true) : (fwUndo w).Within Φ σ := by
  simp [Touch.fwUndo] at hF
  simp [fwUndo, hF]

def Touch.fwRollback : May := .join ⟨0, [ENG_FW_STAT.PHASE], [EV.FW_ROLLBACK], [], [.eng]⟩ [Touch.finish, Touch.fwUndo]
@[simp] theorem within_fwRollback (u : FwUpdate) (e cause : Nat) (hF : Φ.covers Touch.fwRollback = true) : (fwRollback u e cause).Within Φ σ := by
  simp [Touch.fwRollback] at hF
  simp [fwRollback, hF]

def Touch.sbxFail : May := ⟨0, [ENG_CORE.CAUSE, ENG_CORE.STATE, PAIR_ENG.FAILS], [EV.SBX_STOP], [], []⟩
@[simp] theorem within_sbxFail (e cause code : Nat) (hF : Φ.covers Touch.sbxFail = true) : (sbxFail e cause code).Within Φ σ := by
  simp [Touch.sbxFail] at hF
  simp [sbxFail, hF]

def Touch.engStops : May := .join ⟨0, [ENG_CORE.CAUSE, PAIR_ENG.FAILS], [EV.ENG_WATCHDOG], [], []⟩ [Touch.failEngine, Touch.fwRollback, Touch.sbxFail]
@[simp] theorem within_engStops (e code : Nat) (hF : Φ.covers Touch.engStops = true) : (engStops e code).Within Φ σ := by
  simp [Touch.engStops] at hF
  simp [engStops, hF]
  split <;> simp [hF]

def Touch.spareNoneClears : May := ⟨0, [CMD_STATUS.FAULT_CAUSE], [], [], []⟩
@[simp] theorem within_spareNoneClears (hF : Φ.covers Touch.spareNoneClears = true) : spareNoneClears.Within Φ σ := by
  simp [Touch.spareNoneClears] at hF
  simp [spareNoneClears, hF]

def Touch.engReturn : May := .join ⟨0, [], [EV.SPARE_RETURN], [], [.eng]⟩ [Touch.setEng, Touch.dropTask, Touch.giveTask, Touch.spareNoneClears]
@[simp] theorem within_engReturn (hF : Φ.covers Touch.engReturn = true) : engReturn.Within Φ σ := by
  simp [Touch.engReturn] at hF
  simp [engReturn, hF]

def Touch.raiseCounter : May := ⟨0, [], [EV.SVN_RAISED], [], [.fuse, .sec]⟩
@[simp] theorem within_raiseCounter (typ svn : Nat) (hF : Φ.covers Touch.raiseCounter = true) : (raiseCounter typ svn).Within Φ σ := by
  simp [Touch.raiseCounter] at hF
  simp [raiseCounter, hF]

def Touch.sbxStop : May := ⟨0, [ENG_CORE.STATE], [], [], []⟩
@[simp] theorem within_sbxStop (t : Nat) (hF : Φ.covers Touch.sbxStop = true) : (sbxStop t).Within Φ σ := by
  simp [Touch.sbxStop] at hF
  simp [sbxStop, hF]

/-! ### Observe -/

@[simp] theorem within_presetCnt (j v : Nat) (hj : Φ.cnt j = true) : (presetCnt j v).Within Φ σ := by
  simp [presetCnt, hj]

@[simp] theorem within_clearList (js : List Nat) (hj : ∀ j ∈ js, Φ.cnt j = true) : (clearList js).Within Φ σ := by
  simpa [clearList, Eff.Within] using hj

def Touch.dumpToHost : May := ⟨0, [CMD_DUMP_PROD.ALL], [], [(65, 1)], [.obs]⟩
@[simp] theorem within_dumpToHost (addr : Nat) (bytes : Nat) (words : List Nat) (hF : Φ.covers Touch.dumpToHost = true) : (dumpToHost addr bytes words).Within Φ σ := by
  simp [Touch.dumpToHost] at hF
  simp only [dumpToHost, Eff.Within]
  (repeat' split) <;> simp [hF]

def Touch.takeDump : May := .join ⟨0, [], [EV.DUMP_DONE], [], [.bank, .obs]⟩ [Touch.dumpToHost]
@[simp] theorem within_takeDump (trig : Bool) (hF : Φ.covers Touch.takeDump = true) : (takeDump trig).Within Φ σ := by
  simp [Touch.takeDump] at hF
  simp [takeDump, hF]

def Touch.arm : May := ⟨0, [OBS_CAP_STAT.RAW_STATE, OBS_CAP_STAT.SOFT_STATE], [], [], [.obs]⟩
@[simp] theorem within_arm (soft : Bool) (hF : Φ.covers Touch.arm = true) : (arm soft).Within Φ σ := by
  simp [Touch.arm] at hF
  simp [arm, hF]

def Touch.fireTrigger : May := .join ⟨0, [OBS_CAP_STAT.RAW_INPUT, OBS_CAP_STAT.RAW_STATE, OBS_CAP_STAT.SOFT_INPUT, OBS_CAP_STAT.SOFT_STATE],
  [EV.CAP_TRIGGERED], [(68, 1)], [.draws, .obs]⟩ [Touch.takeDump]
@[simp] theorem within_fireTrigger (t : Nat) (mark : List Nat) (hF : Φ.covers Touch.fireTrigger = true) : (fireTrigger t mark).Within Φ σ := by
  simp [Touch.fireTrigger] at hF
  simp [fireTrigger, hF]

def Touch.startDrain : May := ⟨0, [OBS_CAP_STAT.RAW_STATE, OBS_CAP_STAT.SOFT_STATE, OBS_REC_STAT.DRAINING], [EV.REC_FULL], [], [.obs]⟩
@[simp] theorem within_startDrain (soft : Bool) (hF : Φ.covers Touch.startDrain = true) : (startDrain soft).Within Φ σ := by
  simp [Touch.startDrain] at hF
  simp [startDrain, hF]

def Touch.capWrite : May := .join ⟨0, [OBS_CAP_CFG.DRAIN_AUTO, OBS_CAP_CFG.RAW_EN, OBS_CAP_CFG.RAW_SRC, OBS_CAP_CFG.REARM, OBS_CAP_CFG.SC_MASK,
  OBS_CAP_CFG.SOFT_EN, OBS_CAP_CFG.SOFT_GB, OBS_CAP_STAT.RAW_STATE, OBS_CAP_STAT.SOFT_STATE], [], [], []⟩ [Touch.arm]
@[simp] theorem within_capWrite (w : Nat) (hF : Φ.covers Touch.capWrite = true) : (capWrite w).Within Φ σ := by
  simp [Touch.capWrite] at hF
  simp [capWrite, hF]

def Touch.bwWrite : May := ⟨0, [OBS_BW_CFG.EN, OBS_BW_CFG.PORT, OBS_BW_CFG.WIN], [], [], [.obs]⟩
@[simp] theorem within_bwWrite (w : Nat) (v : Nat) (hF : Φ.covers Touch.bwWrite = true) : (bwWrite w v).Within Φ σ := by
  simp [Touch.bwWrite] at hF
  simp [bwWrite, hF, OBS_BW_CFG.fields]

def Touch.setDrivesOk : May := ⟨0, [OBS_REC_STAT.DRIVES_OK], [], [], [.obs]⟩
@[simp] theorem within_setDrivesOk (hF : Φ.covers Touch.setDrivesOk = true) : setDrivesOk.Within Φ σ := by
  simp [Touch.setDrivesOk] at hF
  simp [setDrivesOk, Eff.Within, hF]

def Touch.setBacklog : May := ⟨0, [OBS_REC_STAT.BACKLOG], [], [], []⟩
@[simp] theorem within_setBacklog (hF : Φ.covers Touch.setBacklog = true) : setBacklog.Within Φ σ := by
  simp [Touch.setBacklog] at hF
  simp [setBacklog, Eff.Within, hF]

@[simp] theorem within_obsCntClr (hc : ∀ j, Φ.cnt j = true) : obsCntClr.Within Φ σ := within_clearList _ fun j _ => hc j


def Touch.bwClear : May := ⟨0, [OBS_BW_MAX.ALL, OBS_BW_MIN.ALL], [], [], []⟩
@[simp] theorem within_bwClear (hF : Φ.covers Touch.bwClear = true) : bwClear.Within Φ σ := by
  simp [Touch.bwClear] at hF
  simp [bwClear, hF]

@[simp] theorem within_presetGo (hc : ∀ j, Φ.cnt j = true) : presetGo.Within Φ σ := by
  simp [presetGo, hc]

@[simp] theorem within_wrapClear (i w : Nat) (hc : ∀ j, Φ.cnt j = true) : (wrapClear i w).Within Φ σ := by
  simp [wrapClear, Foot.allows, hc]

/-! ### Tod -/

def Touch.schedResult : May := ⟨0, [TOD_SCHED_ACT.ARMED, TOD_SCHED_STAT.LATE_US, TOD_SCHED_STAT.STATUS], [EV.SCHED_FIRED], [], []⟩
@[simp] theorem within_schedResult (e : Nat) (st : Status) (ns : Nat) (hF : Φ.covers Touch.schedResult = true) : (schedResult e st ns).Within Φ σ := by
  simp [Touch.schedResult] at hF
  simp [schedResult, hF]

def Touch.schedAct : May := .join ⟨0, [REF_OUT_CFG.EN], [], [], [.obs]⟩ [Touch.writePins, Touch.triggerBy]
@[simp] theorem within_schedAct (e : Nat) (hF : Φ.covers Touch.schedAct = true) : (schedAct e).Within Φ σ := by
  simp [Touch.schedAct] at hF
  simp [schedAct]
  split <;> simp [hF]

def Touch.schedRun : May := .join ⟨0, [], [], [], [.tod]⟩ [Touch.schedResult, Touch.schedAct]
@[simp] theorem within_schedRun (e : Nat) (st : Status) (ns : Nat) (hF : Φ.covers Touch.schedRun = true) : (schedRun e st ns).Within Φ σ := by
  simp [Touch.schedRun] at hF
  simp [schedRun, hF]

def Touch.runGapActs : May := .join ⟨0, [], [], [], [.tod]⟩ [Touch.schedResult, Touch.schedAct]
@[simp] theorem within_runGapActs (hF : Φ.covers Touch.runGapActs = true) : runGapActs.Within Φ σ := by
  simp [Touch.runGapActs] at hF
  simp [runGapActs, hF]

def Touch.schedRecheck : May := .join ⟨0, [], [], [], []⟩ [Touch.schedResult, Touch.schedRun]
@[simp] theorem within_schedRecheck (hF : Φ.covers Touch.schedRecheck = true) : schedRecheck.Within Φ σ := by
  simp [Touch.schedRecheck] at hF
  simp [schedRecheck, hF]

def Touch.schedPut : May := ⟨0, [TOD_SCHED_ACT.ARMED, TOD_SCHED_ACT.CODE, TOD_SCHED_ACT.L, TOD_SCHED_ACT.P, TOD_SCHED_ACT.RUN_LATE, TOD_SCHED_T.ALL], [],
  [], [.tod]⟩
@[simp] theorem within_schedPut (e t w : Nat) (hF : Φ.covers Touch.schedPut = true) : (schedPut e t w).Within Φ σ := by
  simp [Touch.schedPut] at hF
  simp [schedPut, hF]

def Touch.stepTo : May := .join ⟨0, [TOD_STATUS.STEP_AVAIL, TOD_STATUS.VALID], [EV.TOD_STEPPED], [], [.tod]⟩ [Touch.setTod, Touch.schedRecheck]
@[simp] theorem within_stepTo (src : Nat) (new : Int) (by_ : Int) (hF : Φ.covers Touch.stepTo = true) : (stepTo src new by_).Within Φ σ := by
  simp [Touch.stepTo] at hF
  simp [stepTo, hF]

def Touch.todLatch : May := ⟨0, [TOD_CTRL.GEN, TOD_LATCH_FRAC.ALL, TOD_LATCH_NS.ALL, TOD_LATCH_SEC.ALL], [], [], []⟩
@[simp] theorem within_todLatch (hF : Φ.covers Touch.todLatch = true) : todLatch.Within Φ σ := by
  simp [Touch.todLatch] at hF
  simp [todLatch, hF]

def Touch.todCntClr : May := ⟨0, [], [], [(272, 1), (273, 1)], []⟩
@[simp] theorem within_todCntClr (hF : Φ.covers Touch.todCntClr = true) : todCntClr.Within Φ σ := by
  simp [Touch.todCntClr] at hF
  simp [todCntClr, hF]

def Touch.asymMeasured : May := ⟨0, [TOD_ASYM_NEW.ALL, TOD_STATUS.HOLD_LEFT], [], [], [.tod]⟩
@[simp] theorem within_asymMeasured (hF : Φ.covers Touch.asymMeasured = true) : asymMeasured.Within Φ σ := by
  simp [Touch.asymMeasured] at hF
  simp [asymMeasured]
  split <;> simp [hF]

def Touch.lineSample : May := ⟨0, [], [], [], [.tod]⟩
@[simp] theorem within_lineSample (m : Int × Int) (hF : Φ.covers Touch.lineSample = true) : (lineSample m).Within Φ σ := by
  simp [Touch.lineSample] at hF
  simp [lineSample, hF]

def Touch.measure : May := .join ⟨0, [TOD_LINE_FWD.ALL, TOD_LINE_REV.ALL, TOD_STATUS.HOLD_LEFT, TOD_STATUS.PATH_ASYM], [EV.PATH_ASYM], [], [.tod]⟩
  [Touch.syncServo, Touch.asymMeasured, Touch.lineSample]
@[simp] theorem within_measure (a b : Int) (hF : Φ.covers Touch.measure = true) : (measure a b).Within Φ σ := by
  simp [Touch.measure] at hF
  simp [measure, hF]
  split <;> simp [hF]

def Touch.acceptAsym : May := .join ⟨0, [TOD_ASYM.ALL, TOD_STATUS.HOLD_LEFT, TOD_STATUS.PATH_ASYM], [EV.ASYM_ACCEPTED], [], [.tod]⟩ [Touch.syncServo]
@[simp] theorem within_acceptAsym (v : Int) (src : Nat) (hF : Φ.covers Touch.acceptAsym = true) : (acceptAsym v src).Within Φ σ := by
  simp [Touch.acceptAsym] at hF
  simp [acceptAsym, hF]

/-! ### Pair -/

def Touch.rederive : May := .join ⟨0, [SCR_STATUS.KEYED, TOD_STATUS.SERVO], [EV.SERVO_STATE], [], [.adapt, .frm, .tod, .vnr]⟩ [Touch.syncPorts,
  Touch.restartNow, Touch.startBackoff]
@[simp] theorem within_rederive (mask : Nat) (hF : Φ.covers Touch.rederive = true) : (rederive mask).Within Φ σ := by
  simp [Touch.rederive] at hF
  simp [rederive, hF]

def Touch.promote : May := .join ⟨0, [], [EV.PAIR_SWITCHOVER], [], [.pair, .told]⟩ [Touch.setSel, Touch.setRole, Touch.rederive]
@[simp] theorem within_promote (trigger row : Nat) (hF : Φ.covers Touch.promote = true) : (promote trigger row).Within Φ σ := by
  simp [Touch.promote] at hF
  simp [promote, hF]

def Touch.promoteStandby : May := .join ⟨0, [], [], [], []⟩ [Touch.promote]
@[simp] theorem within_promoteStandby (trigger : Nat) (hF : Φ.covers Touch.promoteStandby = true) : (promoteStandby trigger).Within Φ σ := by
  simp [Touch.promoteStandby] at hF
  simp [promoteStandby, hF]

def Touch.pairEnSync : May := .join ⟨0, [], [], [], [.pair]⟩ [Touch.setRole]
@[simp] theorem within_pairEnSync (hF : Φ.covers Touch.pairEnSync = true) : pairEnSync.Within Φ σ := by
  simp [Touch.pairEnSync] at hF
  simp [pairEnSync, hF]

def Touch.pairCntClr : May := ⟨0, [], [], [(280, 1), (281, 1), (282, 1), (283, 1), (284, 1), (285, 1)], []⟩
@[simp] theorem within_pairCntClr (hF : Φ.covers Touch.pairCntClr = true) : pairCntClr.Within Φ σ := by
  simp [Touch.pairCntClr] at hF
  simp [pairCntClr, hF]

def Touch.joinPair : May := .join ⟨0, [], [], [], [.pair]⟩ [Touch.setSel, Touch.setRole]
@[simp] theorem within_joinPair (hF : Φ.covers Touch.joinPair = true) : joinPair.Within Φ σ := by
  simp [Touch.joinPair] at hF
  simp [joinPair, hF]

def Touch.sendChanged : May := .join ⟨0, [], [], [], [.pair]⟩ [Touch.journal]
@[simp] theorem within_sendChanged (hF : Φ.covers Touch.sendChanged = true) : sendChanged.Within Φ σ := by
  simp [Touch.sendChanged] at hF
  simp [sendChanged, hF]

def Touch.keyMitre : May := .join ⟨0, [], [], [], []⟩ [Touch.placeKey]
@[simp] theorem within_keyMitre (x : MateHello) (hF : Φ.covers Touch.keyMitre = true) : (keyMitre x).Within Φ σ := by
  simp [Touch.keyMitre] at hF
  simp [keyMitre, hF]

def Touch.linkUp : May := .join ⟨0, [PAIR_STATUS.LINK, PAIR_STATUS.MATE_ROLE], [EV.PAIR_AUTH_FAIL, EV.PAIR_DUAL_ACTIVE, EV.PAIR_LINK_UP], [], [.draws,
  .pair]⟩ [Touch.cutSnapshot, Touch.setRole, Touch.joinPair, Touch.keyMitre]
@[simp] theorem within_linkUp (x : MateHello) (hF : Φ.covers Touch.linkUp = true) : (linkUp x).Within Φ σ := by
  simp [Touch.linkUp] at hF
  simp [linkUp, hF]

def Touch.snapFail : May := ⟨0, [], [EV.PAIR_SYNC_FAIL], [], [.pair]⟩
@[simp] theorem within_snapFail (cause : Nat) (hF : Φ.covers Touch.snapFail = true) : (snapFail cause).Within Φ σ := by
  simp [Touch.snapFail] at hF
  simp [snapFail, hF]

/-! ### Boundary -/

def Touch.localBoundary : May := .join ⟨0, [], [], [], [.ltx]⟩ [Touch.vnrBoundary, Touch.returnSlices, Touch.fwBoundary, Touch.engReturn]
@[simp] theorem within_localBoundary (hF : Φ.covers Touch.localBoundary = true) : localBoundary.Within Φ σ := by
  simp [Touch.localBoundary] at hF
  simp [localBoundary, hF]

def Touch.judgeClip : May := ⟨0, [], [EV.CLIP_HIGH], [], []⟩
@[simp] theorem within_judgeClip (hist : List (Nat × Nat)) (hF : Φ.covers Touch.judgeClip = true) : (judgeClip hist).Within Φ σ := by
  simp [Touch.judgeClip] at hF
  simp [judgeClip, hF]

def Touch.askRollback : May := .join ⟨0, [], [], [], [.lrx]⟩ [Touch.adaptMsg, Touch.nextSeq]
@[simp] theorem within_askRollback (reason : Nat) (hF : Φ.covers Touch.askRollback = true) : (askRollback reason).Within Φ σ := by
  simp [Touch.askRollback] at hF
  simp [askRollback, hF]

def Touch.scPlm : May := .join ⟨0, [LRX_SC_RCD.ALL, LRX_SC_STAT.CENTROID, LRX_SC_STAT.PLM, LRX_SC_STAT.STATE], [EV.SC_UNLOCK], [], []⟩ [Touch.modSc,
  Touch.syncDD, Touch.askRollback]
@[simp] theorem within_scPlm (k : Nat) (f : ScFrame) (hF : Φ.covers Touch.scPlm = true) : (scPlm k f).Within Φ σ := by
  simp [Touch.scPlm] at hF
  simp [scPlm, hF]

def Touch.scQuality : May := .join ⟨0, [], [], [], []⟩ [Touch.modSc]
@[simp] theorem within_scQuality (k : Nat) (f : ScFrame) (hF : Φ.covers Touch.scQuality = true) : (scQuality k f).Within Φ σ := by
  simp [Touch.scQuality] at hF
  simp [scQuality, hF]

def Touch.judgeMargin : May := ⟨0, [], [EV.MARGIN_LOW], [], [.lrx]⟩
@[simp] theorem within_judgeMargin (hF : Φ.covers Touch.judgeMargin = true) : judgeMargin.Within Φ σ := by
  simp [Touch.judgeMargin] at hF
  simp [judgeMargin]
  split <;> simp [hF]

def Touch.fecSummary : May := .join ⟨0, [], [EV.FEC_DM_FAIL, EV.FEC_UNCORR], [], [.lrx]⟩ [Touch.askRollback]
@[simp] theorem within_fecSummary (hF : Φ.covers Touch.fecSummary = true) : fecSummary.Within Φ σ := by
  simp [Touch.fecSummary] at hF
  simp [fecSummary, hF]

def Touch.slipSummary : May := .join ⟨0, [], [EV.CYCLE_SLIP], [], []⟩ [Touch.modSc]
@[simp] theorem within_slipSummary (hF : Φ.covers Touch.slipSummary = true) : slipSummary.Within Φ σ := by
  simp [Touch.slipSummary] at hF
  simp [slipSummary, hF]

def Touch.trackDisp : May := .join ⟨0, [LRX_CD_EST.ALL, LRX_SC_RCD.ALL], [], [], [.lrx]⟩ [Touch.layWalk]
@[simp] theorem within_trackDisp (hF : Φ.covers Touch.trackDisp = true) : trackDisp.Within Φ σ := by
  simp [Touch.trackDisp] at hF
  simp [trackDisp, hF]

def Touch.adjustWalk : May := .join ⟨0, [], [], [], []⟩ [Touch.modSc, Touch.layWalk]
@[simp] theorem within_adjustWalk (hF : Φ.covers Touch.adjustWalk = true) : adjustWalk.Within Φ σ := by
  simp [Touch.adjustWalk] at hF
  simp [adjustWalk, hF]

def Touch.moveCoarse : May := ⟨0, [LRX_CR_STAT.SHIFTING], [], [], [.lrx]⟩
@[simp] theorem within_moveCoarse (hF : Φ.covers Touch.moveCoarse = true) : moveCoarse.Within Φ σ := by
  simp [Touch.moveCoarse] at hF
  simp [moveCoarse, hF]

def Touch.judgeLoss : May := .join ⟨0, [], [EV.RX_UNLOCK, EV.SF_UNLOCK], [], [.lrx]⟩ [Touch.autoRestart]
@[simp] theorem within_judgeLoss (fs : List (Nat × ScFrame)) (unlocked : Nat) (hF : Φ.covers Touch.judgeLoss = true) : (judgeLoss fs unlocked).Within Φ σ := by
  simp [Touch.judgeLoss] at hF
  simp [judgeLoss, hF]

def Touch.restartOrder : May := .join ⟨0, [], [], [], [.lrx]⟩ [Touch.modSc]
@[simp] theorem within_restartOrder (hF : Φ.covers Touch.restartOrder = true) : restartOrder.Within Φ σ := by
  simp [Touch.restartOrder] at hF
  simp [restartOrder, hF]

def Touch.switchPlan : May := .join ⟨0, [LRX_SC_STAT.STATE], [], [], [.lrx]⟩ [Touch.syncProt, Touch.useEntry, Touch.modSc, Touch.syncDD, Touch.syncFb,
  Touch.layWalk, Touch.restartOrder]
@[simp] theorem within_switchPlan (id : Nat) (hF : Φ.covers Touch.switchPlan = true) : (switchPlan id).Within Φ σ := by
  simp [Touch.switchPlan] at hF
  simp [switchPlan, hF]
  split <;> simp [hF]

def Touch.planAt : May := .join ⟨0, [], [EV.PLAN_LATE], [], [.lrx]⟩ [Touch.switchPlan]
@[simp] theorem within_planAt (sf : Nat) (hF : Φ.covers Touch.planAt = true) : (planAt sf).Within Φ σ := by
  simp [Touch.planAt] at hF
  simp [planAt]
  split <;> simp [hF]

def Touch.takeFar : May := ⟨0, [], [], [], [.lrx]⟩
@[simp] theorem within_takeFar (hF : Φ.covers Touch.takeFar = true) : takeFar.Within Φ σ := by
  simp [Touch.takeFar] at hF
  simp [takeFar, hF]

def Touch.raiseSummaries : May := ⟨0, [], summaryEvents, [], [.obs]⟩
@[simp] theorem within_raiseSummaries (minute : Bool) (hF : Φ.covers Touch.raiseSummaries = true) : (raiseSummaries minute).Within Φ σ := by
  simp [Touch.raiseSummaries] at hF
  simp [raiseSummaries, hF]
  exact within_forE_mem fun e he t => by simp [hF.1 e he]

/-! ### Control -/

def Touch.doorbell : May := ⟨0, [], [], [(39, 1)], [.cmd]⟩
@[simp] theorem within_doorbell (r v : Nat) (hF : Φ.covers Touch.doorbell = true) : (doorbell r v).Within Φ σ := by
  simp [Touch.doorbell] at hF
  simp [doorbell, hF]

def Touch.endSession : May := ⟨0, [CMD_STATUS.SESSIONS], [], [], [.cmd, .sec]⟩
@[simp] theorem within_endSession (n : Nat) (hF : Φ.covers Touch.endSession = true) : (endSession n).Within Φ σ := by
  simp [Touch.endSession] at hF
  simp [endSession, hF]

def Touch.endSessions : May := .join ⟨0, [], [], [], []⟩ [Touch.endSession]
@[simp] theorem within_endSessions (hF : Φ.covers Touch.endSessions = true) : endSessions.Within Φ σ := by
  simp [Touch.endSessions] at hF
  simp [endSessions, hF]

def Touch.restartEnum : May := .join ⟨0, [], [], [], []⟩ [Touch.startEnum]
@[simp] theorem within_restartEnum (busy : Bool) (hF : Φ.covers Touch.restartEnum = true) : (restartEnum busy).Within Φ σ := by
  simp [Touch.restartEnum] at hF
  simp [restartEnum, hF]

def Touch.endEnum : May := ⟨0, [CMD_BAT_STAT.COUNT, CMD_BAT_STAT.ENUM], [EV.BATTEN_ENUM], [], [.cmd]⟩
@[simp] theorem within_endEnum (n : Nat) (ids : List Nat) (hF : Φ.covers Touch.endEnum = true) : (endEnum n ids).Within Φ σ := by
  simp [Touch.endEnum] at hF
  simp [endEnum, hF]

def Touch.hostRestarts : May := .join ⟨0, [CMD_DUMP_CFG.EN, CMD_RACK.ALL, CMD_RING_CFG.EN, CMD_RING_STAT.CONS, CMD_RING_STAT.RPROD, MSIX_CTRL.MASK,
  SYS_EQ_CONS.ALL], [], [], [.cmd, .slots, .sys]⟩ [Touch.endSessions]
@[simp] theorem within_hostRestarts (hF : Φ.covers Touch.hostRestarts = true) : hostRestarts.Within Φ σ := by
  simp [Touch.hostRestarts] at hF
  simp [hostRestarts, hF]

/-! ### RefClock -/

def Touch.startQual : May := ⟨0, [REF_CAND_STAT.QUAL_LEFT], [], [], []⟩
@[simp] theorem within_startQual (c : Nat) (hF : Φ.covers Touch.startQual = true) : (startQual c).Within Φ σ := by
  simp [Touch.startQual] at hF
  simp [startQual, Eff.Within, hF]

def Touch.clearQual : May := ⟨0, [REF_STATUS.QUALIFIED], [], [], []⟩
@[simp] theorem within_clearQual (c : Nat) (hF : Φ.covers Touch.clearQual = true) : (clearQual c).Within Φ σ := by
  simp [Touch.clearQual] at hF
  simp [clearQual, Eff.Within, hF]

def Touch.disqualify : May := .join ⟨0, [], [EV.REF_DISQUALIFIED], [], [.ref]⟩ [Touch.clearQual]
@[simp] theorem within_disqualify (c cause : Nat) (hF : Φ.covers Touch.disqualify = true) : (disqualify c cause).Within Φ σ := by
  simp [Touch.disqualify] at hF
  simp [disqualify, hF]

@[simp] theorem within_outSignal (o : Nat) : (outSignal o).Within Φ σ := by
  simp [outSignal]

def Touch.refStart : May := .join ⟨0, [REF_CAND_STAT.QL_RX], [], [], []⟩ [Touch.syncQl, Touch.syncStates, Touch.startQual]
@[simp] theorem within_refStart (hF : Φ.covers Touch.refStart = true) : refStart.Within Φ σ := by
  simp [Touch.refStart] at hF
  simp [refStart, hF]

def Touch.setDrift : May := ⟨0, [REF_CAND_STAT.DRIFT], [EV.DRIFT], [], []⟩
@[simp] theorem within_setDrift (c cause : Nat) (rate : Int) (hF : Φ.covers Touch.setDrift = true) : (setDrift c cause rate).Within Φ σ := by
  simp [Touch.setDrift] at hF
  simp [setDrift, hF]

def Touch.requalify : May := .join ⟨0, [REF_CAND_STAT.QL_RX], [], [], []⟩ [Touch.refEval, Touch.startQual, Touch.clearQual]
@[simp] theorem within_requalify (c : Nat) (hF : Φ.covers Touch.requalify = true) : (requalify c).Within Φ σ := by
  simp [Touch.requalify] at hF
  simp [requalify, hF]

def Touch.candFreqWrite : May := .join ⟨0, [REF_CAND_CFG.LANE, REF_CAND_FHZ.HZ, SYS_ACC_STAT.RANGE], [], [], []⟩ [Touch.flagAcc, Touch.requalify]
@[simp] theorem within_candFreqWrite (m c v : Nat) (hF : Φ.covers Touch.candFreqWrite = true) : (candFreqWrite m c v).Within Φ σ := by
  simp [Touch.candFreqWrite] at hF
  simp [candFreqWrite, hF]

def Touch.oscBack : May := .join ⟨0, [REF_STATUS.MON_SRC, REF_STATUS.OSC_PRESENT], [], [], []⟩ [Touch.refEval]
@[simp] theorem within_oscBack (hF : Φ.covers Touch.oscBack = true) : oscBack.Within Φ σ := by
  simp [Touch.oscBack] at hF
  simp [oscBack, hF]

/-! ### Veneer -/

def Touch.vnrCntClr : May := ⟨0, [], [], [(416, 1), (417, 1), (424, 224)], []⟩
@[simp] theorem within_vnrCntClr (hF : Φ.covers Touch.vnrCntClr = true) : vnrCntClr.Within Φ σ := by
  simp [Touch.vnrCntClr] at hF
  simp only [vnrCntClr, Eff.Within, List.mem_append, List.mem_cons, List.mem_map, List.mem_range, List.not_mem_nil, or_false]
  rintro _ ((rfl | rfl) | ⟨k, hk, rfl⟩)
  · simp [hF]
  · simp [hF]
  · exact Foot.cnt_of_cnts (a := 424) (n := 224) hF.2.2 (by omega) (by omega)

def Touch.rearmWrite : May := .join ⟨0, [SYS_ACC_STAT.RANGE, VNR_STATUS.ERASED], [], [], []⟩ [Touch.flagAcc]
@[simp] theorem within_rearmWrite (m : Nat) (hF : Φ.covers Touch.rearmWrite = true) : (rearmWrite m).Within Φ σ := by
  simp [Touch.rearmWrite] at hF
  simp [rearmWrite, hF]

def Touch.protModeWrite : May := .join ⟨0, [SYS_ACC_STAT.RANGE, VNR_CTRL.PROT_MODE], [], [], []⟩ [Touch.flagAcc, Touch.judgeProt]
@[simp] theorem within_protModeWrite (m v : Nat) (hF : Φ.covers Touch.protModeWrite = true) : (protModeWrite m v).Within Φ σ := by
  simp [Touch.protModeWrite] at hF
  simp [protModeWrite, hF]

def Touch.schedule : May := ⟨0, [VNR_PAGE_STAT.PENDING, VNR_PAGE_STAT.TARGET_SF], [], [], [.vnr]⟩
@[simp] theorem within_schedule (switch rewrite : List Nat) (hF : Φ.covers Touch.schedule = true) : (schedule switch rewrite).Within Φ σ := by
  simp [Touch.schedule] at hF
  simp [schedule, hF]

def Touch.keyEnters : May := .join ⟨0, [], [EV.KEY_LOADED], [], []⟩ [Touch.placeKey, Touch.schedule]
@[simp] theorem within_keyEnters (g k : Nat) (key : List Nat) (salt : Nat) (hF : Φ.covers Touch.keyEnters = true) : (keyEnters g k key salt).Within Φ σ := by
  simp [Touch.keyEnters] at hF
  simp [keyEnters, hF]

def Touch.switchPages : May := .join ⟨0, [VNR_PAGE_STAT.TARGET_SF], [EV.KEY_SWITCHED], [], []⟩ [Touch.flipPage, Touch.schedule]
@[simp] theorem within_switchPages (ps : List Nat) (hF : Φ.covers Touch.switchPages = true) : (switchPages ps).Within Φ σ := by
  simp [Touch.switchPages] at hF
  simp [switchPages, hF]

def Touch.endLa : May := .join ⟨0, [], [EV.LA_DONE], [(417, 1)], [.vnr]⟩ [Touch.finish]
@[simp] theorem within_endLa (r : LaReq) (st : Status) (pay : List Nat) (hF : Φ.covers Touch.endLa = true) : (endLa r st pay).Within Φ σ := by
  simp [Touch.endLa] at hF
  simp [endLa, hF]

def Touch.stopLa : May := .join ⟨0, [], [], [], [.draws]⟩ [Touch.endLa]
@[simp] theorem within_stopLa (r : LaReq) (st : Status) (hF : Φ.covers Touch.stopLa = true) : (stopLa r st).Within Φ σ := by
  simp [Touch.stopLa] at hF
  simp [stopLa, hF]

def Touch.stopSlot : May := .join ⟨0, [], [], [], []⟩ [Touch.stopLa]
@[simp] theorem within_stopSlot (p k : Nat) (hF : Φ.covers Touch.stopSlot = true) : (stopSlot p k).Within Φ σ := by
  simp [Touch.stopSlot] at hF
  simp [stopSlot, hF]

@[simp] theorem within_laZeros (a len : Nat) : (laZeros a len).Within Φ σ := by
  simp [laZeros]

def Touch.stepSeq : May := ⟨0, [], [], [], [.vnr]⟩
@[simp] theorem within_stepSeq (p : Nat) (hF : Φ.covers Touch.stepSeq = true) : (stepSeq p).Within Φ σ := by
  simp [Touch.stepSeq] at hF
  simp [stepSeq, hF]

@[simp] theorem within_sendFill (t p : Nat) : (sendFill t p).Within Φ σ := by
  simp [sendFill]

def Touch.retirePipe : May := .join ⟨0, [VNR_STATUS.LA_PAIRS, VNR_STATUS.RX_PIPES, VNR_STATUS.TX_PIPES], [EV.VNR_FAULT], [], []⟩ [Touch.judgeProt]
@[simp] theorem within_retirePipe (dir pipe : Nat) (hF : Φ.covers Touch.retirePipe = true) : (retirePipe dir pipe).Within Φ σ := by
  simp [Touch.retirePipe] at hF
  simp [retirePipe, hF]

def Touch.verified : May := ⟨0, [VNR_PAGE_STAT.RX_USE], [], [], [.vnr]⟩
@[simp] theorem within_verified (t p k gen seq : Nat) (hF : Φ.covers Touch.verified = true) : (verified t p k gen seq).Within Φ σ := by
  simp [Touch.verified] at hF
  simp [verified, hF]

def Touch.kaSeen : May := ⟨0, [], [EV.KEY_UNKNOWN], [], [.vnr]⟩
@[simp] theorem within_kaSeen (t p k : Nat) (hF : Φ.covers Touch.kaSeen = true) : (kaSeen t p k).Within Φ σ := by
  simp [Touch.kaSeen] at hF
  simp [kaSeen, hF]

def Touch.eraseAll : May := .join ⟨0, [VNR_PAGE_STAT.PENDING], [], [], [.vnr]⟩ [Touch.eraseSlot, Touch.stopLa]
@[simp] theorem within_eraseAll (hF : Φ.covers Touch.eraseAll = true) : eraseAll.Within Φ σ := by
  simp [Touch.eraseAll] at hF
  simp [eraseAll, hF]

/-! ### Scribe -/

def Touch.setScr : May := ⟨0, [SCR_STATUS.STATE], [], [], []⟩
@[simp] theorem within_setScr (v : Nat) (hF : Φ.covers Touch.setScr = true) : (setScr v).Within Φ σ := by
  simp [Touch.setScr] at hF
  simp [setScr, hF]

def Touch.sendPacket : May := ⟨0, [], [], [(271, 1)], []⟩
@[simp] theorem within_sendPacket (typ seq : Nat) (body : List Nat) (hF : Φ.covers Touch.sendPacket = true) : (sendPacket typ seq body).Within Φ σ := by
  simp [Touch.sendPacket] at hF
  simp [sendPacket, hF]

def Touch.sendScr : May := .join ⟨0, [], [], [], [.scr]⟩ [Touch.sendPacket]
@[simp] theorem within_sendScr (typ : Nat) (body : List Nat) (hF : Φ.covers Touch.sendScr = true) : (sendScr typ body).Within Φ σ := by
  simp [Touch.sendScr] at hF
  simp [sendScr, hF]

def Touch.sendWait : May := .join ⟨0, [], [], [], [.scr]⟩ [Touch.sendScr]
@[simp] theorem within_sendWait (typ want : Nat) (body : List Nat) (hF : Φ.covers Touch.sendWait = true) : (sendWait typ want body).Within Φ σ := by
  simp [Touch.sendWait] at hF
  simp [sendWait, hF]

def Touch.sendReplyTo : May := .join ⟨0, [], [], [], [.scr]⟩ [Touch.sendScr]
@[simp] theorem within_sendReplyTo (q typ : Nat) (body : List Nat) (hF : Φ.covers Touch.sendReplyTo = true) : (sendReplyTo q typ body).Within Φ σ := by
  simp [Touch.sendReplyTo] at hF
  simp [sendReplyTo, hF]

def Touch.stopWait : May := ⟨0, [], [], [], [.scr]⟩
@[simp] theorem within_stopWait (hF : Φ.covers Touch.stopWait = true) : stopWait.Within Φ σ := by
  simp [Touch.stopWait] at hF
  simp [stopWait, hF]

def Touch.holdScr : May := .join ⟨0, [], [], [], [.scr]⟩ [Touch.setScr, Touch.stopWait]
@[simp] theorem within_holdScr (hF : Φ.covers Touch.holdScr = true) : holdScr.Within Φ σ := by
  simp [Touch.holdScr] at hF
  simp [holdScr, hF]

def Touch.rejectPeer : May := ⟨0, [], [EV.SCR_PEER_REJECT], [(270, 1)], [.scr]⟩
@[simp] theorem within_rejectPeer (id cause : Nat) (hF : Φ.covers Touch.rejectPeer = true) : (rejectPeer id cause).Within Φ σ := by
  simp [Touch.rejectPeer] at hF
  simp [rejectPeer, hF]

def Touch.otherPeer : May := ⟨0, [], [EV.SCR_MULTI_PEER], [(268, 1)], [.scr]⟩
@[simp] theorem within_otherPeer (id : Nat) (hF : Φ.covers Touch.otherPeer = true) : (otherPeer id).Within Φ σ := by
  simp [Touch.otherPeer] at hF
  simp [otherPeer, hF]

def Touch.fromPeer : May := .join ⟨0, [SCR_STATUS.RX_BUSY], [], [(264, 1)], [.scr]⟩ [Touch.sendPacket, Touch.otherPeer]
@[simp] theorem within_fromPeer (src q : Nat) (body : Eff) (hF : Φ.covers Touch.fromPeer = true) (hb : ∀ t, body.Within Φ t) :
    (fromPeer src q body).Within Φ σ := by
  simp [Touch.fromPeer] at hF
  simp [fromPeer, hF]
  intros
  (repeat' split) <;> simp [hF, hb]

def Touch.scrPlace : May := .join ⟨0, [VNR_PAGE_CFG.DIR, VNR_PAGE_STAT.TX_KP], [EV.KEY_LOADED], [], []⟩ [Touch.placeKey]
@[simp] theorem within_scrPlace (g k : Nat) (key : List Nat) (salt : Nat) (hF : Φ.covers Touch.scrPlace = true) : (scrPlace g k key salt).Within Φ σ := by
  simp [Touch.scrPlace] at hF
  simp [scrPlace, hF]

def Touch.scrSwitch : May := .join ⟨0, [], [EV.KEY_AGE], [], []⟩ [Touch.switchPages]
@[simp] theorem within_scrSwitch (ps : List Nat) (hF : Φ.covers Touch.scrSwitch = true) : (scrSwitch ps).Within Φ σ := by
  simp [Touch.scrSwitch] at hF
  simp [scrSwitch, hF]

def Touch.keyOne : May := .join ⟨0, [], [], [], [.draws, .scr]⟩ [Touch.scrPlace]
@[simp] theorem within_keyOne (g : Nat) (hF : Φ.covers Touch.keyOne = true) : (keyOne g).Within Φ σ := by
  simp [Touch.keyOne] at hF
  simp [keyOne, hF]

def Touch.sendKeys : May := .join ⟨0, [], [], [], [.scr]⟩ [Touch.sendWait, Touch.keyOne]
@[simp] theorem within_sendKeys (ps : List Nat) (hF : Φ.covers Touch.sendKeys = true) : (sendKeys ps).Within Φ σ := by
  simp [Touch.sendKeys] at hF
  simp [sendKeys, hF]

def Touch.noCommon : May := .join ⟨0, [], [EV.SCR_NO_COMMON], [], []⟩ [Touch.holdScr]
@[simp] theorem within_noCommon (hF : Φ.covers Touch.noCommon = true) : noCommon.Within Φ σ := by
  simp [Touch.noCommon] at hF
  simp [noCommon, hF]

def Touch.enterPropose : May := .join ⟨0, [], [], [], [.scr]⟩ [Touch.setScr, Touch.sendWait, Touch.stopWait, Touch.noCommon]
@[simp] theorem within_enterPropose (hF : Φ.covers Touch.enterPropose = true) : enterPropose.Within Φ σ := by
  simp [Touch.enterPropose] at hF
  simp [enterPropose, hF]
  split <;> simp [hF, LTX_SHAPE.fields]

def Touch.enterKeying : May := .join ⟨0, [], [], [], []⟩ [Touch.setScr, Touch.stopWait, Touch.sendKeys]
@[simp] theorem within_enterKeying (hF : Φ.covers Touch.enterKeying = true) : enterKeying.Within Φ σ := by
  simp [Touch.enterKeying] at hF
  simp [enterKeying, hF]

def Touch.sendKex : May := .join ⟨0, [], [], [], [.draws, .scr]⟩ [Touch.sendWait, Touch.sendReplyTo]
@[simp] theorem within_sendKex (peer : Option ScrKex) (hF : Φ.covers Touch.sendKex = true) : (sendKex peer).Within Φ σ := by
  simp [Touch.sendKex] at hF
  simp [sendKex, hF]
  split <;> simp [hF]

def Touch.keyPage2 : May := .join ⟨0, [SCR_STATUS.KEYED, VNR_PAGE_CFG.DIR], [], [], []⟩ [Touch.placeKey]
@[simp] theorem within_keyPage2 (k : ScrKex) (hF : Φ.covers Touch.keyPage2 = true) : (keyPage2 k).Within Φ σ := by
  simp [Touch.keyPage2] at hF
  simp [keyPage2, hF]

def Touch.afterKex : May := .join ⟨0, [], [], [], []⟩ [Touch.stopWait, Touch.sendKeys, Touch.enterPropose, Touch.enterKeying]
@[simp] theorem within_afterKex (hF : Φ.covers Touch.afterKex = true) : afterKex.Within Φ σ := by
  simp [Touch.afterKex] at hF
  simp [afterKex, hF]
  split <;> simp [hF]

def Touch.backToBeacon : May := .join ⟨0, [], [], [], []⟩ [Touch.scrDrop, Touch.setScr, Touch.stopWait]
@[simp] theorem within_backToBeacon (keep : Bool) (hF : Φ.covers Touch.backToBeacon = true) : (backToBeacon keep).Within Φ σ := by
  simp [Touch.backToBeacon] at hF
  simp [backToBeacon, hF]

def Touch.useKex : May := .join ⟨0, [], [], [], [.scr]⟩ [Touch.rejectPeer, Touch.keyPage2, Touch.afterKex, Touch.backToBeacon]
@[simp] theorem within_useKex (k : ScrKex) (hF : Φ.covers Touch.useKex = true) : (useKex k).Within Φ σ := by
  simp [Touch.useKex] at hF
  simp [useKex, hF]

def Touch.selectPeer : May := .join ⟨0, [SCR_PEER_CUR.ALL, SCR_STATUS.ROLE], [EV.SCR_PAIRED], [], [.scr]⟩ [Touch.setScr, Touch.sendKex, Touch.useKex]
@[simp] theorem within_selectPeer (id : Nat) (hF : Φ.covers Touch.selectPeer = true) : (selectPeer id).Within Φ σ := by
  simp [Touch.selectPeer] at hF
  simp [selectPeer, hF]
  split <;> simp [hF]

def Touch.setScrEn : May := .join ⟨0, [SCR_CTRL.EN], [], [], []⟩ [Touch.scrOff, Touch.scrFollow, Touch.goDark]
@[simp] theorem within_setScrEn (v : Bool) (hF : Φ.covers Touch.setScrEn = true) : (setScrEn v).Within Φ σ := by
  simp [Touch.setScrEn] at hF
  simp [setScrEn, hF]

def Touch.scrRestart : May := .join ⟨0, [], [], [], [.scr]⟩ [Touch.scrDrop, Touch.scrFollow, Touch.goDark, Touch.setScr]
@[simp] theorem within_scrRestart (hF : Φ.covers Touch.scrRestart = true) : scrRestart.Within Φ σ := by
  simp [Touch.scrRestart] at hF
  simp [scrRestart, hF]

def Touch.scrCntClr : May := ⟨0, [], [], [(264, 8)], []⟩
@[simp] theorem within_scrCntClr (hF : Φ.covers Touch.scrCntClr = true) : scrCntClr.Within Φ σ := by
  simp [Touch.scrCntClr] at hF
  simp only [scrCntClr, Eff.Within, List.mem_map, List.mem_range]
  rintro _ ⟨k, hk, rfl⟩
  exact Foot.cnt_of_cnts hF (by omega) (by omega)

def Touch.scrEnWrite : May := .join ⟨0, [SYS_ACC_STAT.RANGE], [], [], []⟩ [Touch.flagAcc, Touch.setScrEn]
@[simp] theorem within_scrEnWrite (m : Nat) (v : Bool) (hF : Φ.covers Touch.scrEnWrite = true) : (scrEnWrite m v).Within Φ σ := by
  simp [Touch.scrEnWrite] at hF
  simp [scrEnWrite, hF]

def Touch.takePacket : May := ⟨0, [SCR_AFC.ALL, SCR_STATUS.LEVEL, SCR_STATUS.RX_BUSY], [], [(265, 1), (266, 1), (269, 1)], [.scr]⟩
@[simp] theorem within_takePacket (k : ScrPkt) (hF : Φ.covers Touch.takePacket = true) : (takePacket k).Within Φ σ := by
  simp [Touch.takePacket] at hF
  simp [takePacket, hF]

def Touch.enterWindow : May := ⟨0, [SCR_STATUS.PEERS], [], [], [.scr]⟩
@[simp] theorem within_enterWindow (id : Nat) (hF : Φ.covers Touch.enterWindow = true) : (enterWindow id).Within Φ σ := by
  simp [Touch.enterWindow] at hF
  simp [enterWindow, hF]

def Touch.agreed : May := ⟨0, [], [EV.SCR_AGREED], [], [.scr]⟩
@[simp] theorem within_agreed (ps : List Nat) (hF : Φ.covers Touch.agreed = true) : (agreed ps).Within Φ σ := by
  simp [Touch.agreed] at hF
  simp [agreed, hF]

def Touch.enterLive : May := .join ⟨0, [], [EV.SCR_LIVE], [], []⟩ [Touch.setScr, Touch.stopWait]
@[simp] theorem within_enterLive (hF : Φ.covers Touch.enterLive = true) : enterLive.Within Φ σ := by
  simp [Touch.enterLive] at hF
  simp [enterLive, hF]

def Touch.goLive : May := .join ⟨0, [LRX_SHAPE.KERF, LRX_SHAPE.ROLLOFF, LTX_SHAPE.KERF, LTX_SHAPE.ROLLOFF], [], [], [.scr]⟩ [Touch.loadPlan0,
  Touch.setTxMode, Touch.goDark, Touch.emptyTable, Touch.setRxMode, Touch.setRxEn, Touch.startBring, Touch.setScr, Touch.stopWait]
@[simp] theorem within_goLive (hF : Φ.covers Touch.goLive = true) : goLive.Within Φ σ := by
  simp [Touch.goLive] at hF
  simp [goLive, hF, LRX_SHAPE.fields, LTX_SHAPE.fields]

def Touch.renegotiate : May := .join ⟨0, [], [], [], [.scr]⟩ [Touch.goDark, Touch.enterPropose]
@[simp] theorem within_renegotiate (c : Nat) (hF : Φ.covers Touch.renegotiate = true) : (renegotiate c).Within Φ σ := by
  simp [Touch.renegotiate] at hF
  simp [renegotiate, hF]

def Touch.scrTimeout : May := .join ⟨0, [], [EV.KEY_AGE, EV.SCR_TIMEOUT], [], [.scr]⟩ [Touch.holdScr]
@[simp] theorem within_scrTimeout (hF : Φ.covers Touch.scrTimeout = true) : scrTimeout.Within Φ σ := by
  simp [Touch.scrTimeout] at hF
  simp [scrTimeout, hF]
  split <;> simp [hF]

def Touch.startRotation : May := .join ⟨0, [], [], [], [.scr]⟩ [Touch.sendKex]
@[simp] theorem within_startRotation (g : Nat) (hF : Φ.covers Touch.startRotation = true) : (startRotation g).Within Φ σ := by
  simp [Touch.startRotation] at hF
  simp [startRotation, hF]

/-! ### Security -/

def Touch.cutFuseRow : May := ⟨0, [], [], [], [.draws, .fuse]⟩
@[simp] theorem within_cutFuseRow (hF : Φ.covers Touch.cutFuseRow = true) : cutFuseRow.Within Φ σ := by
  simp [Touch.cutFuseRow] at hF
  simp [cutFuseRow]
  split <;> simp [hF]

def Touch.dropPins : May := .join ⟨0, [], [], [], []⟩ [Touch.setSel]
@[simp] theorem within_dropPins (hF : Φ.covers Touch.dropPins = true) : dropPins.Within Φ σ := by
  simp [Touch.dropPins] at hF
  simp [dropPins, hF]

def Touch.clearAll : May := .join ⟨0, [], [], [], [.adapt, .bank, .cli, .cmd, .cnv, .eng, .fec, .frm, .lrx, .ltx, .mon, .obs, .pair, .pwr, .ref, .scr, .sec,
  .srd, .sys, .tick, .tod, .vnr]⟩ [Touch.cutFuseRow, Touch.dropPins]
@[simp] theorem within_clearAll (aon : Bool) (hF : Φ.covers Touch.clearAll = true) (hw : Φ.Wide) : (clearAll aon).Within Φ σ := by
  simp [Touch.clearAll] at hF
  obtain ⟨-, hcnt, hhas, hclears⟩ := hw
  simp [clearAll, hF, hcnt, hhas, hclears]

def Touch.deviceReset : May := .join ⟨0, [SEC_RESET_CAUSE.BOOTS, SEC_RESET_CAUSE.CAUSE], [], [], [.sec]⟩ [Touch.clearAll]
@[simp] theorem within_deviceReset (cause : Nat) (hF : Φ.covers Touch.deviceReset = true) (hw : Φ.Wide) : (deviceReset cause).Within Φ σ := by
  simp [Touch.deviceReset] at hF
  simp [deviceReset, hF, hw]

def Touch.runKeeper : May := ⟨0, [CMD_STATUS.RING_OK, SEC_STATUS.BANK], [], [], [.sec]⟩
@[simp] theorem within_runKeeper (bank : Nat) (hF : Φ.covers Touch.runKeeper = true) : (runKeeper bank).Within Φ σ := by
  simp [Touch.runKeeper] at hF
  simp [runKeeper, hF]

def Touch.fallBack : May := .join ⟨0, [CMD_STATUS.RING_OK, SEC_STATUS.FALLBACK], [EV.BOOT_FALLBACK], [], [.sec]⟩ [Touch.runKeeper]
@[simp] theorem within_fallBack (bank typ order : Nat) (hF : Φ.covers Touch.fallBack = true) : (fallBack bank typ order).Within Φ σ := by
  simp [Touch.fallBack] at hF
  simp [fallBack, hF]

def Touch.loadEngines : May := .join ⟨0, [ENG_CORE.IMAGE], [], [], [.eng, .sec]⟩ [Touch.raiseCounter]
@[simp] theorem within_loadEngines (bank : Nat) (hF : Φ.covers Touch.loadEngines = true) : (loadEngines bank).Within Φ σ := by
  simp [Touch.loadEngines] at hF
  simp [loadEngines, hF]

def Touch.placeTasks : May := ⟨0, [ENG_CORE.TASK], [], [], []⟩
@[simp] theorem within_placeTasks (hF : Φ.covers Touch.placeTasks = true) : placeTasks.Within Φ σ := by
  simp [Touch.placeTasks] at hF
  simp [placeTasks, hF]

/-! ### Power -/

def Touch.powerEffect : May := .join ⟨0, [OBS_CAP_CFG.RAW_EN, OBS_CAP_CFG.SOFT_EN, OBS_CAP_STAT.RAW_STATE, OBS_CAP_STAT.SOFT_STATE, SRD_LANE_STAT.SIG,
  SRD_LANE_STAT.STATE, SRD_LANE_STAT.SYNC, TOD_STATUS.VALID], [], [], [.pwr]⟩ [Touch.goDark, Touch.setRxEn, Touch.dropLoaded, Touch.startBring,
  Touch.laneIngress, Touch.startTraining, Touch.endSessions, Touch.eraseAll]
@[simp] theorem within_powerEffect (old new : Nat) (hF : Φ.covers Touch.powerEffect = true) : (powerEffect old new).Within Φ σ := by
  simp [Touch.powerEffect] at hF
  simp [powerEffect]
  split <;> simp [hF]

def Touch.powerMove : May := .join ⟨0, [PWR_STATUS.STATE], [EV.PWR_STATE], [], []⟩ [Touch.powerEffect]
@[simp] theorem within_powerMove (new ms : Nat) (hF : Φ.covers Touch.powerMove = true) : (powerMove new ms).Within Φ σ := by
  simp [Touch.powerMove] at hF
  simp [powerMove, hF]

def Touch.powerBack : May := .join ⟨0, [PWR_STATUS.BUSY, PWR_STATUS.TARGET], [], [], [.pwr]⟩ [Touch.powerMove]
@[simp] theorem within_powerBack (hF : Φ.covers Touch.powerBack = true) : powerBack.Within Φ σ := by
  simp [Touch.powerBack] at hF
  simp [powerBack, hF]

def Touch.judgeTherm : May := ⟨0, [], [EV.THERM_CLEAR], [], []⟩
@[simp] theorem within_judgeTherm (flag thr : Fld) (which : Nat) (e : Ev) (tj : Int) (sensor : Nat) (hF : Φ.covers Touch.judgeTherm = true)
    (hf : Φ.fld flag = true) (he : Φ.ev e = true) : (judgeTherm flag thr which e tj sensor).Within Φ σ := by
  simp [Touch.judgeTherm] at hF
  simp [judgeTherm, hF, hf, he]

/-! ### Ptp -/

def Touch.modPort : May := ⟨0, [], [], [], [.tod]⟩
@[simp] theorem within_modPort (p : Nat) (g : PtpPort → PtpPort) (hF : Φ.covers Touch.modPort = true) : (modPort p g).Within Φ σ := by
  simp [Touch.modPort] at hF
  simp [modPort, hF]

def Touch.annRx : May := .join ⟨0, [], [], [], [.tod]⟩ [Touch.syncPorts]
@[simp] theorem within_annRx (p : Nat) (a : List Nat) (hF : Φ.covers Touch.annRx = true) : (annRx p a).Within Φ σ := by
  simp [Touch.annRx] at hF
  simp [annRx, hF]

def Touch.putOffset : May := ⟨0, [TOD_OFFSET.ALL], [], [], []⟩
@[simp] theorem within_putOffset (z : Int) (hF : Φ.covers Touch.putOffset = true) : (putOffset z).Within Φ σ := by
  simp [Touch.putOffset] at hF
  simp [putOffset, hF]

/-! ### Fetch -/

def Touch.cancelRun : May := .join ⟨0, [CNV_STATUS.FG_BUSY, ENG_FW_STAT.PHASE, MON_STATUS.SYSCAL, SRD_LANE_STAT.SCAN], [], [], [.cnv, .eng, .lrx, .ltx,
  .mon, .obs, .ref, .srd, .vnr]⟩ [Touch.goDark, Touch.chainRestart, Touch.fwUndo, Touch.powerBack]
@[simp] theorem within_cancelRun (r : Running) (hF : Φ.covers Touch.cancelRun = true) : (cancelRun r).Within Φ σ := by
  simp [Touch.cancelRun] at hF
  simp [cancelRun]
  (repeat' split) <;> simp [hF]

/-! ### Frames -/

def Touch.modLayer : May := ⟨0, [], [], [], [.frm]⟩
@[simp] theorem within_modLayer (l : Nat) (g : Layer → Layer) (hF : Φ.covers Touch.modLayer = true) : (modLayer l g).Within Φ σ := by
  simp [Touch.modLayer] at hF
  simp [modLayer, hF]

def Touch.multiframe : May := ⟨0, [FRM_STATUS.IM], [], [], [.frm]⟩
@[simp] theorem within_multiframe (mfas : Nat) (hF : Φ.covers Touch.multiframe = true) : (multiframe mfas).Within Φ σ := by
  simp [Touch.multiframe] at hF
  simp [multiframe, hF]

def Touch.takeTti : May := .join ⟨0, [], [EV.TTI_CHANGE], [], []⟩ [Touch.modLayer]
@[simp] theorem within_takeTti (l b : Nat) (hF : Φ.covers Touch.takeTti = true) : (takeTti l b).Within Φ σ := by
  simp [Touch.takeTti] at hF
  simp [takeTti, hF]

def Touch.judgeStat : May := .join ⟨0, [], [], [], []⟩ [Touch.clearDefect, Touch.declareDefect]
@[simp] theorem within_judgeStat (code v l : Nat) (hF : Φ.covers Touch.judgeStat = true) : (judgeStat code v l).Within Φ σ := by
  simp [Touch.judgeStat] at hF
  simp [judgeStat, hF]

def Touch.judgeRdi : May := .join ⟨0, [], [], [], []⟩ [Touch.clearDefect, Touch.declareDefect]
@[simp] theorem within_judgeRdi (l : Nat) (hF : Φ.covers Touch.judgeRdi = true) : (judgeRdi l).Within Φ σ := by
  simp [Touch.judgeRdi] at hF
  simp [judgeRdi, hF]

def Touch.judgeTim : May := .join ⟨0, [], [], [], []⟩ [Touch.clearDefect, Touch.declareDefect]
@[simp] theorem within_judgeTim (l : Nat) (hF : Φ.covers Touch.judgeTim = true) : (judgeTim l).Within Φ σ := by
  simp [Touch.judgeTim] at hF
  simp [judgeTim, hF]

def Touch.takeLayer : May := .join ⟨0, [], [], [], []⟩ [Touch.modLayer]
@[simp] theorem within_takeLayer (l bip : Nat) (bei bdi : Bool) (hF : Φ.covers Touch.takeLayer = true) : (takeLayer l bip bei bdi).Within Φ σ := by
  simp [Touch.takeLayer] at hF
  simp [takeLayer, hF]

def Touch.takeStat : May := .join ⟨0, [], [], [], []⟩ [Touch.modLayer, Touch.judgeStat]
@[simp] theorem within_takeStat (l v : Nat) (hF : Φ.covers Touch.takeStat = true) : (takeStat l v).Within Φ σ := by
  simp [Touch.takeStat] at hF
  simp [takeStat, hF]

def Touch.takeFlex : May := .join ⟨0, [], [], [], []⟩ [Touch.judgeRdi, Touch.takeLayer, Touch.takeStat]
@[simp] theorem within_takeFlex (x : FlexOh) (hF : Φ.covers Touch.takeFlex = true) : (takeFlex x).Within Φ σ := by
  simp [Touch.takeFlex] at hF
  simp [takeFlex, hF]

def Touch.rxSwitch : May := .join ⟨0, [], [], [], [.cli]⟩ [Touch.acceptEntries, Touch.judgeSlots]
@[simp] theorem within_rxSwitch (hF : Φ.covers Touch.rxSwitch = true) : rxSwitch.Within Φ σ := by
  simp [Touch.rxSwitch] at hF
  simp [rxSwitch]
  split <;> simp [hF]

def Touch.takeOh : May := .join ⟨0, [], [], [], []⟩ [Touch.drainOh, Touch.ohWrite]
@[simp] theorem within_takeOh (c : Nat) (bytes : List Nat) (hF : Φ.covers Touch.takeOh = true) : (takeOh c bytes).Within Φ σ := by
  simp [Touch.takeOh] at hF
  simp [takeOh]
  split <;> simp [hF]

def Touch.deliverEth (t : Nat) : May := ⟨0, [], [], [(cliCnt t 0, 1)], [.cli]⟩
@[simp] theorem within_deliverEth (t : Nat) (bs : List (BitVec 66 × Bool)) (hF : Φ.covers (Touch.deliverEth t) = true) : (deliverEth t bs).Within Φ σ := by
  simp [Touch.deliverEth] at hF
  simp only [deliverEth, within_dyn, within_seq_cons]
  split <;> simp [hF]

@[simp] theorem within_fillEgress (t : Nat) : (fillEgress t).Within Φ σ := by
  simp [fillEgress]

def Touch.takeTrib (t : Nat) : May := .join ⟨0, [], [], [(cliCnt t 0, 1), (cliCnt t 1, 1)], [.cli]⟩ [Touch.cbrWrite t, Touch.deliverEth t]
@[simp] theorem within_takeTrib (t mfas : Nat) (bs : List (Nat × Bool)) (hF : Φ.covers (Touch.takeTrib t) = true) :
    (takeTrib t mfas bs).Within Φ σ := by
  simp [Touch.takeTrib] at hF
  simp only [takeTrib, within_dyn]
  (repeat' split) <;> simp [hF]

def Touch.dropTrib : May := ⟨0, [], [], [(37, 1), (38, 1)], []⟩
@[simp] theorem within_dropTrib (t : Nat) (dem : Bool) (hF : Φ.covers Touch.dropTrib = true) : (dropTrib t dem).Within Φ σ := by
  simp [Touch.dropTrib] at hF
  cases dem <;> simp [dropTrib, hF]

/-- The counters of every client. -/
def Touch.clientCnts : May := ⟨0, [], [], [(288, 128)], [.cli]⟩

theorem covers_takeTrib {t : Nat} (ht : t < 32) (hF : Φ.covers Touch.clientCnts = true) : Φ.covers (Touch.takeTrib t) = true := by
  simp [Touch.clientCnts] at hF
  have hc : ∀ c < 4, Φ.cnt (cliCnt t c) = true := fun c hc =>
    Foot.cnt_of_cnts hF.1 (by simp only [cliCnt]; omega) (by simp only [cliCnt]; omega)
  simp [Touch.takeTrib, Touch.cbrWrite, Touch.cbrSlip, Touch.deliverEth, hF, hc]

def Touch.takeTribs : May := .join ⟨0, [], [], [], []⟩ [Touch.clientCnts, Touch.dropTrib]
@[simp] theorem within_takeTribs (f n mfas : Nat) (slices : List (List Nat)) (marked : List Nat) (waits : List (Fin 32 × Bool × Nat))
    (hF : Φ.covers Touch.takeTribs = true) : (takeTribs f n mfas slices marked waits).Within Φ σ := by
  simp [Touch.takeTribs] at hF
  refine (within_dyn _).2 (within_forE_mem fun t ht u => ?_)
  have htrib := covers_takeTrib (List.mem_range.1 (List.mem_filter.1 ht).1) hF.1
  simp only [within_dyn]
  (repeat' split) <;> simp [hF, htrib]

def Touch.takeInterop : May := Touch.clientCnts
@[simp] theorem within_takeInterop (bytes marked : List Nat) (hF : Φ.covers Touch.takeInterop = true) : (takeInterop bytes marked).Within Φ σ := by
  simp [Touch.takeInterop] at hF
  refine (within_dyn _).2 (within_forE_mem fun p hp u => ?_)
  have hchan := (List.of_mem_zip hp).1
  have htrib := covers_takeTrib (List.mem_range.1 (List.mem_filter.1 (List.mem_filter.1 hchan).1).1) hF
  simp [Touch.takeTrib] at htrib
  simp [htrib]

def Touch.announceMove : May := ⟨0, [], [EV.TRIB_MOVE_ANNOUNCED], [], [.cli]⟩
@[simp] theorem within_announceMove (hF : Φ.covers Touch.announceMove = true) : announceMove.Within Φ σ := by
  simp [Touch.announceMove] at hF
  simp [announceMove]
  split <;> simp [hF]

def Touch.txSwitch : May := .join ⟨0, [], [], [], []⟩ [Touch.applyMove, Touch.judgeProt]
@[simp] theorem within_txSwitch (hF : Φ.covers Touch.txSwitch = true) : txSwitch.Within Φ σ := by
  simp [Touch.txSwitch] at hF
  simp [txSwitch]
  split <;> simp [hF]

def Touch.sendOh : May := .join ⟨0, [], [], [], []⟩ [Touch.modOh, Touch.ohRead]
@[simp] theorem within_sendOh (c : Nat) (hF : Φ.covers Touch.sendOh = true) : (sendOh c).Within Φ σ := by
  simp [Touch.sendOh] at hF
  simp [sendOh]
  split <;> simp [hF]

def Touch.sendCbr : May := .join ⟨0, [], [], [], [.cli]⟩ [Touch.clientCnts]
@[simp] theorem within_sendCbr (hF : Φ.covers Touch.sendCbr = true) : sendCbr.Within Φ σ := by
  simp [Touch.sendCbr] at hF
  refine (within_dyn _).2 (within_forE_mem fun t ht u => ?_)
  have htrib := covers_takeTrib (List.mem_range.1 (List.mem_filter.1 (List.mem_filter.1 ht).1).1) hF.2
  simp [Touch.takeTrib, Touch.cbrWrite] at htrib
  simp [Touch.cbrRead, hF, htrib]

def Touch.takeEth : May := ⟨0, [], [], [], [.cli]⟩
@[simp] theorem within_takeEth (t : Nat) (bits : List Bool) (hF : Φ.covers Touch.takeEth = true) : (takeEth t bits).Within Φ σ := by
  simp [Touch.takeEth] at hF
  simp [takeEth]
  split <;> simp [hF]

def Touch.sendSlices : May := .join ⟨0, [], [], [], [.adapt, .cli, .frm]⟩ [Touch.ownDigest 0]
@[simp] theorem within_sendSlices (waits : List (Fin 32 × Nat)) (hF : Φ.covers Touch.sendSlices = true) : (sendSlices waits).Within Φ σ := by
  simp [Touch.sendSlices] at hF
  simp [sendSlices, hF]

def Touch.sendInterop : May := ⟨0, [], [], [], [.cli]⟩
@[simp] theorem within_sendInterop (hF : Φ.covers Touch.sendInterop = true) : sendInterop.Within Φ σ := by
  simp [Touch.sendInterop] at hF
  simp [sendInterop, hF]

/-! ### Journal -/

def Touch.modGen : May := ⟨0, [], [], [], [.vnr]⟩
@[simp] theorem within_modGen (p k : Nat) (g : KeyGen → KeyGen) (hF : Φ.covers Touch.modGen = true) : (modGen p k g).Within Φ σ := by
  simp [Touch.modGen] at hF
  simp [modGen, hF]

def Touch.trySync : May := .join ⟨0, [PAIR_STATUS.SYNCED, PAIR_STATUS.WTR_LEFT, PAIR_STATUS.WTR_RUN], [EV.PAIR_SYNCED], [], [.pair]⟩ [Touch.setRole]
@[simp] theorem within_trySync (hF : Φ.covers Touch.trySync = true) : trySync.Within Φ σ := by
  simp [Touch.trySync] at hF
  simp [trySync, hF]

/-! ### Step -/

def Touch.idle : May := .join ⟨0, [], [], [], []⟩ [Touch.todTick]
@[simp] theorem within_idle (hF : Φ.covers Touch.idle = true) : idle.Within Φ σ := by
  simp [Touch.idle] at hF
  simp [idle, hF]

end

end Sys2Proof.Machine

/-!
The footprint of each Felwin command's body (`Touch.op…`): what its answer does lies within it, whatever its parameters and the state.
-/
namespace Sys2Proof.Machine
open Sys2Proof

section
variable {Φ : Foot}

theorem ans_within_iff (a : Ans) : a.Within Φ ↔ (∀ t, a.eff.Within Φ t) ∧ ∀ t, a.after.Within Φ t := Iff.rfl

@[simp] theorem ans_within_refusal (st : Status) : (no st).Within Φ := ans_within_no st
@[simp] theorem ans_within_mk (st : Status) (pay : State → List Nat) (fl : Nat) (e : Eff) (d : Bool) (a : Eff) :
    (Ans.mk st pay fl e d a).Within Φ ↔ (∀ t, e.Within Φ t) ∧ ∀ t, a.Within Φ t := Iff.rfl
@[simp] theorem ans_within_okE (e : Eff) : (okE e).Within Φ ↔ ∀ t, e.Within Φ t := by simp [okE]
@[simp] theorem ans_within_okP (e : Eff) (pay : State → List Nat) : (okP e pay).Within Φ ↔ ∀ t, e.Within Φ t := by simp [okP]
@[simp] theorem ans_within_pendE (e : Eff) : (pendE e).Within Φ ↔ ∀ t, e.Within Φ t := by simp [pendE]
@[simp] theorem ans_within_deferE (e : Eff) : (deferE e).Within Φ ↔ ∀ t, e.Within Φ t := by simp [deferE]
@[simp] theorem ans_within_pendThen (e : Eff) : (pendThen e).Within Φ ↔ ∀ t, e.Within Φ t := by simp [pendThen]
@[simp] theorem ans_within_ite (c : Prop) [Decidable c] (a b : Ans) : (if c then a else b).Within Φ ↔ if c then a.Within Φ else b.Within Φ := by
  split <;> rfl

theorem all_getD {α : Type} {p : α → Bool} {xss : List (List α)} (h : ∀ xs ∈ xss, ∀ x ∈ xs, p x = true) (k : Nat) : (xss[k]?.getD []).all p = true := by
  cases hk : xss[k]? with
  | none => rfl
  | some xs => exact List.all_eq_true.2 (h xs (List.mem_of_getElem? hk))

def Touch.laserSet : May := .join ⟨0, [LTX_LAS_FREQ.FREQ, LTX_LAS_CTRL.POWER, LTX_LAS_TIMERS.TUNE_TO, LTX_LAS_TIMERS.POLL, LTX_LAS_TIMERS.RESP_TO,
  LTX_LAS_TIMERS.BIAS_TO], [], [], []⟩ [Touch.laserFresh, Touch.tune, Touch.setLasEn, Touch.acceptFtf]
theorem within_laserSet (p : List Nat) (s : State) (hF : Φ.covers Touch.laserSet = true) : (laserSet p s).Within Φ := by
  simp [Touch.laserSet] at hF
  simp only [laserSet]
  split <;> simp [hF]

/-! ### Calibration -/

@[simp] theorem within_opCalStatus (h : CmdHdr) (p : List Nat) (s : State) : (opCalStatus.body h p s).Within Φ := by
  simp [opCalStatus, CNV_FUSE_STAT.fields, CNV_STATUS.fields]

def Touch.opCalBgSet : May := ⟨0, [CNV_BG_CFG.PERIOD, CNV_BG_CFG.TEMP_THR, CNV_CTRL.BG_ADC, CNV_CTRL.BG_DAC, CNV_THR.FG_TO, CNV_THR.HANDOVER,
  CNV_THR.MM_ALARM, CNV_THR.SPUR_ALARM, CNV_WTR.RETEST, CNV_WTR.WTR], [], [], []⟩
@[simp] theorem within_opCalBgSet (h : CmdHdr) (p : List Nat) (s : State) (hF : Φ.covers Touch.opCalBgSet = true) : (opCalBgSet.body h p s).Within Φ := by
  simp [Touch.opCalBgSet] at hF
  simp [opCalBgSet, hF, CNV_BG_CFG.fields, CNV_CTRL.fields, CNV_THR.fields, CNV_WTR.fields]

def Touch.opCalRefSet : May := ⟨0, [CNV_FREF_CFG.FREF_HZ, CNV_REF_CFG.VREF_UV], [], [], []⟩
@[simp] theorem within_opCalRefSet (h : CmdHdr) (p : List Nat) (s : State) (hF : Φ.covers Touch.opCalRefSet = true) : (opCalRefSet.body h p s).Within Φ := by
  simp [Touch.opCalRefSet] at hF
  simp [opCalRefSet, hF]

def Touch.opCalRun : May := .join ⟨0, [CNV_STATUS.FG_BUSY], [], [], [.cnv]⟩ [Touch.checkRefs, Touch.abandonSteps]
@[simp] theorem within_opCalRun (vdev fdev : Int) (h : CmdHdr) (p : List Nat) (s : State) (hF : Φ.covers Touch.opCalRun = true) : ((opCalRun vdev fdev).body h p s).Within Φ := by
  simp [Touch.opCalRun] at hF
  simp [opCalRun, hF]

def Touch.opCalAbort : May := .join ⟨0, [], [], [], []⟩ [Touch.endRun]
@[simp] theorem within_opCalAbort (h : CmdHdr) (p : List Nat) (s : State) (hF : Φ.covers Touch.opCalAbort = true) : (opCalAbort.body h p s).Within Φ := by
  simp [Touch.opCalAbort] at hF
  simp [opCalAbort, hF]

def Touch.opCalCommit : May := .join ⟨0, [], [], [], [.cnv]⟩ [Touch.commitGo]
@[simp] theorem within_opCalCommit (vdd : Bool) (h : CmdHdr) (p : List Nat) (s : State) (hF : Φ.covers Touch.opCalCommit = true) : ((opCalCommit vdd).body h p s).Within Φ := by
  simp [Touch.opCalCommit] at hF
  simp [opCalCommit, hF]

def Touch.opCalExport : May := ⟨0, [], [], [], [.draws]⟩
@[simp] theorem within_opCalExport (h : CmdHdr) (p : List Nat) (s : State) (hF : Φ.covers Touch.opCalExport = true) : (opCalExport.body h p s).Within Φ := by
  simp [Touch.opCalExport] at hF
  simp [opCalExport, hF]

def Touch.opCalLoad : May := .join ⟨0, [CNV_FUSE_STAT.REFINED, CNV_FUSE_STAT.SOURCE], [EV.CAL_LOADED], [], []⟩ [Touch.modSet, Touch.syncSets,
  Touch.baseSkew]
@[simp] theorem within_opCalLoad (h : CmdHdr) (p : List Nat) (s : State) (hF : Φ.covers Touch.opCalLoad = true) : (opCalLoad.body h p s).Within Φ := by
  simp [Touch.opCalLoad] at hF
  simp [opCalLoad, hF]

def Touch.opCalQuality : May := ⟨0, [], [], [], [.cnv]⟩
@[simp] theorem within_opCalQuality (h : CmdHdr) (p : List Nat) (s : State) (hF : Φ.covers Touch.opCalQuality = true) : (opCalQuality.body h p s).Within Φ := by
  simp [Touch.opCalQuality] at hF
  simp [opCalQuality, hF]

def Touch.opCalSlice : May := .join ⟨0, [], [], [], []⟩ [Touch.modSlice, Touch.takeOut]
@[simp] theorem within_opCalSlice (trim : Int) (h : CmdHdr) (p : List Nat) (s : State) (hF : Φ.covers Touch.opCalSlice = true) : ((opCalSlice trim).body h p s).Within Φ := by
  simp [Touch.opCalSlice] at hF
  simp [opCalSlice, hF]

/-! ### Gauge -/

def Touch.opMonCfg : May := .join ⟨0, [MON_CHAIN.FIR, MON_CHAIN.K, MON_CHAIN.R_LOG, MON_CHAIN.SINGLE, MON_CHAIN.WORDS, MON_PERIOD.PERIOD, MON_PGA.ALL,
  MON_SCAN.ALL, MON_TRIG.PW_MAX, MON_TRIG.PW_MIN, MON_TRIG.SRC, MON_TRIG_TIME.DELAY], [], [], []⟩ [Touch.chainChanged]
@[simp] theorem within_opMonCfg (h : CmdHdr) (p : List Nat) (s : State) (hF : Φ.covers Touch.opMonCfg = true) : (opMonCfg.body h p s).Within Φ := by
  simp [Touch.opMonCfg] at hF
  simp [opMonCfg, hF, MON_CHAIN.fields, MON_TRIG.fields]

def Touch.opMonStart : May := .join ⟨0, [], [], [], []⟩ [Touch.monStart]
@[simp] theorem within_opMonStart (h : CmdHdr) (p : List Nat) (s : State) (hF : Φ.covers Touch.opMonStart = true) : (opMonStart.body h p s).Within Φ := by
  simp [Touch.opMonStart] at hF
  simp [opMonStart, hF]

def Touch.opMonRead : May := .join ⟨0, [], [], [], []⟩ [Touch.popQueue]
@[simp] theorem within_opMonRead (h : CmdHdr) (p : List Nat) (s : State) (hF : Φ.covers Touch.opMonRead = true) : (opMonRead.body h p s).Within Φ := by
  simp [Touch.opMonRead] at hF
  simp [opMonRead, hF]

def Touch.opMonTrigger : May := .join ⟨0, [], [], [], []⟩ [Touch.triggerBy]
@[simp] theorem within_opMonTrigger (h : CmdHdr) (p : List Nat) (s : State) (hF : Φ.covers Touch.opMonTrigger = true) : (opMonTrigger.body h p s).Within Φ := by
  simp [Touch.opMonTrigger] at hF
  simp [opMonTrigger, hF]

@[simp] theorem within_opMonStatus (h : CmdHdr) (p : List Nat) (s : State) : (opMonStatus.body h p s).Within Φ := by
  simp [opMonStatus]

def Touch.opMonSyscal : May := .join ⟨0, [MON_STATUS.BURST0, MON_STATUS.BURST1, MON_STATUS.SYSCAL], [], [], [.mon]⟩ [Touch.modMod]
@[simp] theorem within_opMonSyscal (h : CmdHdr) (p : List Nat) (s : State) (hF : Φ.covers Touch.opMonSyscal = true) : (opMonSyscal.body h p s).Within Φ := by
  simp [Touch.opMonSyscal] at hF
  simp [opMonSyscal, hF]

/-! ### Transmit -/

def Touch.opLtxModeSet : May := .join ⟨0, [LTX_CLIP.LEVEL, LTX_CTRL.PRECOMP_CD_EN, LTX_PILOT.GAIN, LTX_PRECOMP.P, LTX_SHAPE.KERF, LTX_SHAPE.ROLLOFF], [],
  [], []⟩ [Touch.setTxMode]
@[simp] theorem within_opLtxModeSet (h : CmdHdr) (p : List Nat) (s : State) (hF : Φ.covers Touch.opLtxModeSet = true) : (opLtxModeSet.body h p s).Within Φ := by
  simp [Touch.opLtxModeSet] at hF
  simp [opLtxModeSet, hF]

def Touch.opLtxPlanLoad : May := ⟨0, [], [], [], [.ltx]⟩
@[simp] theorem within_opLtxPlanLoad (h : CmdHdr) (p : List Nat) (s : State) (hF : Φ.covers Touch.opLtxPlanLoad = true) : (opLtxPlanLoad.body h p s).Within Φ := by
  simp [Touch.opLtxPlanLoad] at hF
  simp [opLtxPlanLoad]
  split <;> simp [hF]

def Touch.opLtxPlanCommit : May := .join ⟨0, [], [], [], []⟩ [Touch.commitPlan]
@[simp] theorem within_opLtxPlanCommit (h : CmdHdr) (p : List Nat) (s : State) (hF : Φ.covers Touch.opLtxPlanCommit = true) : (opLtxPlanCommit.body h p s).Within Φ := by
  simp [Touch.opLtxPlanCommit] at hF
  simp [opLtxPlanCommit]
  split <;> simp [hF]

def Touch.opLtxPlanCancel : May := .join ⟨0, [], [], [], []⟩ [Touch.cancelPlan]
@[simp] theorem within_opLtxPlanCancel (h : CmdHdr) (p : List Nat) (s : State) (hF : Φ.covers Touch.opLtxPlanCancel = true) : (opLtxPlanCancel.body h p s).Within Φ := by
  simp [Touch.opLtxPlanCancel] at hF
  simp [opLtxPlanCancel, hF]

@[simp] theorem within_opLtxPlanGet (h : CmdHdr) (p : List Nat) (s : State) : (opLtxPlanGet.body h p s).Within Φ := by
  simp [opLtxPlanGet]

def Touch.opLtxBiasCtrl : May := .join ⟨0, [LTX_BIAS_CTRL.DWELL, LTX_BIAS_CTRL.EN, LTX_BIAS_CTRL.FREQ, LTX_BIAS_CTRL.GAIN, LTX_BIAS_CTRL.HOLD], [], [],
  [.ltx]⟩ [Touch.startSweep, Touch.judgeLock]
@[simp] theorem within_opLtxBiasCtrl (h : CmdHdr) (p : List Nat) (s : State) (hF : Φ.covers Touch.opLtxBiasCtrl = true) : (opLtxBiasCtrl.body h p s).Within Φ := by
  simp [Touch.opLtxBiasCtrl] at hF
  simp [opLtxBiasCtrl, hF]

def Touch.opLtxLaserSet : May := Touch.laserSet
@[simp] theorem within_opLtxLaserSet (h : CmdHdr) (p : List Nat) (s : State) (hF : Φ.covers Touch.opLtxLaserSet = true) : (opLtxLaserSet.body h p s).Within Φ :=
  within_laserSet p s hF

@[simp] theorem within_opLtxLaserStatus (h : CmdHdr) (p : List Nat) (s : State) : (opLtxLaserStatus.body h p s).Within Φ := by
  simp [opLtxLaserStatus]

def Touch.opLtxOutput : May := .join ⟨0, [], [], [], [.ltx]⟩ [Touch.finish, Touch.goDark, Touch.startBring, Touch.endBeacon]
@[simp] theorem within_opLtxOutput (h : CmdHdr) (p : List Nat) (s : State) (hF : Φ.covers Touch.opLtxOutput = true) : (opLtxOutput.body h p s).Within Φ := by
  simp [Touch.opLtxOutput] at hF
  simp [opLtxOutput, hF]

/-! ### Receive -/

def Touch.opLrxModeSet : May := .join ⟨0, [LRX_SHAPE.KERF, LRX_SHAPE.ROLLOFF], [], [], []⟩ [Touch.setRxMode]
@[simp] theorem within_opLrxModeSet (h : CmdHdr) (p : List Nat) (s : State) (hF : Φ.covers Touch.opLrxModeSet = true) : (opLrxModeSet.body h p s).Within Φ := by
  simp [Touch.opLrxModeSet] at hF
  simp [opLrxModeSet, hF]

def Touch.opLrxEnable : May := .join ⟨0, [], [], [], []⟩ [Touch.setRxEn]
@[simp] theorem within_opLrxEnable (h : CmdHdr) (p : List Nat) (s : State) (hF : Φ.covers Touch.opLrxEnable = true) : (opLrxEnable.body h p s).Within Φ := by
  simp [Touch.opLrxEnable] at hF
  simp [opLrxEnable, hF]

def Touch.opLrxAcqCfg : May := ⟨0, [LRX_AGC.TARGET, LRX_CD_CFG.D_FORCE, LRX_CD_CFG.FORCE, LRX_CD_CFG.VERIFY, LRX_HOLD.ACQ_TO, LRX_HOLD.HOLD,
  LRX_HOLD.WARM_TO, LRX_LOCK_CFG.PLM_MIN, LRX_LOCK_CFG.SC_MISS, LRX_LOCK_CFG.SF_MISS, LRX_LOCK_CFG.SF_THR, LRX_TIM_CFG.BW], [], [], []⟩
@[simp] theorem within_opLrxAcqCfg (h : CmdHdr) (p : List Nat) (s : State) (hF : Φ.covers Touch.opLrxAcqCfg = true) : (opLrxAcqCfg.body h p s).Within Φ := by
  simp [Touch.opLrxAcqCfg] at hF
  simp [opLrxAcqCfg, hF, LRX_CD_CFG.fields, LRX_HOLD.fields, LRX_LOCK_CFG.fields]

def Touch.opLrxEqCfg : May := .join ⟨0, [LRX_DFE_CFG.CONST_EN, LRX_DFE_CFG.F_OFF, LRX_DFE_CFG.F_ON, LRX_DFE_CFG.NFB, LRX_DFE_CFG.THETA,
  LRX_EQ_CFG.HALF_TAPS, LRX_EQ_CFG.LEAK, LRX_EQ_CFG.MU_ACQ, LRX_EQ_CFG.MU_TRK], [], [], []⟩ [Touch.syncFb]
@[simp] theorem within_opLrxEqCfg (h : CmdHdr) (p : List Nat) (s : State) (hF : Φ.covers Touch.opLrxEqCfg = true) : (opLrxEqCfg.body h p s).Within Φ := by
  simp [Touch.opLrxEqCfg] at hF
  simp [opLrxEqCfg, hF, LRX_DFE_CFG.fields, LRX_EQ_CFG.fields]

def Touch.opLrxFreeze : May := .join ⟨0, [LRX_FREEZE.AGC, LRX_FREEZE.CD_TRACK, LRX_FREEZE.FREQ, LRX_FREEZE.IQ, LRX_FREEZE.TIMING, LRX_SC_CTRL.DFE_DIS,
  LRX_SC_CTRL.DFE_FREEZE, LRX_SC_CTRL.FFE_FREEZE], [], [], []⟩ [Touch.syncFb, Touch.unfreezeCheck]
@[simp] theorem within_opLrxFreeze (h : CmdHdr) (p : List Nat) (s : State) (hF : Φ.covers Touch.opLrxFreeze = true) : (opLrxFreeze.body h p s).Within Φ := by
  simp [Touch.opLrxFreeze] at hF
  simp [opLrxFreeze, hF, LRX_FREEZE.fields, LRX_SC_CTRL.fields]

def Touch.opLrxRestart : May := .join ⟨0, [], [], [], []⟩ [Touch.hostRestart]
@[simp] theorem within_opLrxRestart (h : CmdHdr) (p : List Nat) (s : State) (hF : Φ.covers Touch.opLrxRestart = true) : (opLrxRestart.body h p s).Within Φ := by
  simp [Touch.opLrxRestart] at hF
  simp [opLrxRestart, hF]

@[simp] theorem within_opLrxStatus (h : CmdHdr) (p : List Nat) (s : State) : (opLrxStatus.body h p s).Within Φ := by
  simp [opLrxStatus, LRX_SC_STAT.fields, LRX_STATUS.fields]

@[simp] theorem within_opLrxTapsGet (h : CmdHdr) (p : List Nat) (s : State) : (opLrxTapsGet.body h p s).Within Φ := by
  simp [opLrxTapsGet]

/-! ### Adapt -/

def Touch.opLrxQuality : May := ⟨0, [], [], [], [.lrx]⟩
@[simp] theorem within_opLrxQuality (h : CmdHdr) (p : List Nat) (s : State) (hF : Φ.covers Touch.opLrxQuality = true) : (opLrxQuality.body h p s).Within Φ := by
  simp [Touch.opLrxQuality] at hF
  simp [opLrxQuality, hF]

def Touch.opLrxCrSet : May := ⟨0, [LRX_CR_CFG.BPS_MIN, LRX_CR_CFG.BPS_N, LRX_CR_CFG.FBW, LRX_CR_CFG.SLIP_THR, LRX_CR_CFG.WIN, LRX_Q_CFG.AVG,
  LRX_Q_CFG.REPORT], [], [], []⟩
@[simp] theorem within_opLrxCrSet (h : CmdHdr) (p : List Nat) (s : State) (hF : Φ.covers Touch.opLrxCrSet = true) : (opLrxCrSet.body h p s).Within Φ := by
  simp [Touch.opLrxCrSet] at hF
  simp [opLrxCrSet, hF, LRX_CR_CFG.fields]

def Touch.opLrxAdaptSet : May := .join ⟨0, [LRX_ADAPT_CFG.HITLESS, LRX_ADAPT_LIMITS.HYST, LRX_ADAPT_LIMITS.REPLY_TO, LRX_ADAPT_LIMITS.ROLLBACK,
  LRX_ADAPT_MARGIN.FLOOR, LRX_ADAPT_MARGIN.GAMMA, LRX_ADAPT_MARGIN.LOW, LRX_ADAPT_MARGIN.TARGET, LRX_ADAPT_TIMERS.BACKOFF, LRX_ADAPT_TIMERS.MIN_INT,
  LRX_ADAPT_TIMERS.V], [], [], []⟩ [Touch.clearSlips, Touch.setAdaptEn]
@[simp] theorem within_opLrxAdaptSet (h : CmdHdr) (p : List Nat) (s : State) (hF : Φ.covers Touch.opLrxAdaptSet = true) : (opLrxAdaptSet.body h p s).Within Φ := by
  simp [Touch.opLrxAdaptSet] at hF
  simp [opLrxAdaptSet, hF, LRX_ADAPT_LIMITS.fields, LRX_ADAPT_MARGIN.fields, LRX_ADAPT_TIMERS.fields]

def Touch.opLrxRplanLoad : May := ⟨0, [], [], [], [.ltx]⟩
@[simp] theorem within_opLrxRplanLoad (h : CmdHdr) (p : List Nat) (s : State) (hF : Φ.covers Touch.opLrxRplanLoad = true) : (opLrxRplanLoad.body h p s).Within Φ := by
  simp [Touch.opLrxRplanLoad] at hF
  simp [opLrxRplanLoad]
  split <;> simp [hF]

@[simp] theorem within_opLrxRplanGet (h : CmdHdr) (p : List Nat) (s : State) : (opLrxRplanGet.body h p s).Within Φ := by
  simp [opLrxRplanGet, LRX_RPLAN_ID.fields]

def Touch.opLrxAdaptNow : May := .join ⟨0, [], [], [], []⟩ [Touch.sendOffer]
@[simp] theorem within_opLrxAdaptNow (h : CmdHdr) (p : List Nat) (s : State) (hF : Φ.covers Touch.opLrxAdaptNow = true) : (opLrxAdaptNow.body h p s).Within Φ := by
  simp [Touch.opLrxAdaptNow] at hF
  simp only [opLrxAdaptNow]
  (repeat' split) <;> simp [hF]

/-! ### Fec -/

def Touch.opFecCfg : May := .join ⟨0, [FEC_CTRL.EARLY_STOP, FEC_DEC_CFG.HD_ITER, FEC_DEC_CFG.ITER_MAX, FEC_DEC_CFG.NORM, FEC_DEC_CFG.SD_ITER,
  FEC_DEC_CFG.STC_ITER, FEC_DEG_CLR.EXP, FEC_DEG_CLR.MANT, FEC_DEG_SET.EXP, FEC_DEG_SET.MANT, FEC_DEG_SET.N, FEC_LLR_CFG.GAIN], [], [], []⟩ [Touch.fecCntClr]
@[simp] theorem within_opFecCfg (h : CmdHdr) (p : List Nat) (s : State) (hF : Φ.covers Touch.opFecCfg = true) : (opFecCfg.body h p s).Within Φ := by
  simp [Touch.opFecCfg] at hF
  simp [opFecCfg, hF, FEC_DEC_CFG.fields, FEC_DEG_CLR.fields, FEC_DEG_SET.fields]

@[simp] theorem within_opFecStatus (h : CmdHdr) (p : List Nat) (s : State) : (opFecStatus.body h p s).Within Φ := by
  simp [opFecStatus]

def Touch.opFecCounters : May := ⟨0, [], [], [], [.bank]⟩
@[simp] theorem within_opFecCounters (h : CmdHdr) (p : List Nat) (s : State) (hF : Φ.covers Touch.opFecCounters = true) : (opFecCounters.body h p s).Within Φ := by
  simp [Touch.opFecCounters] at hF
  simp [opFecCounters, hF]

def Touch.opFecInject : May := .join ⟨0, [FEC_INJ.MODE, FEC_INJ.RATE, FEC_INJ.SC_MASK], [], [], []⟩ [Touch.oneShot]
@[simp] theorem within_opFecInject (h : CmdHdr) (p : List Nat) (s : State) (hF : Φ.covers Touch.opFecInject = true) : (opFecInject.body h p s).Within Φ := by
  simp [Touch.opFecInject] at hF
  simp [opFecInject, hF, FEC_INJ.fields]

@[simp] theorem within_opFecGeometry (h : CmdHdr) (p : List Nat) (s : State) : (opFecGeometry.body h p s).Within Φ := by
  simp [opFecGeometry]
  split <;> simp

/-! ### Framing -/

def Touch.opFrmCfg : May := .join ⟨0, [FRM_CA_CFG.TIM_ACT, FRM_CA_CFG.TIM_MODE, FRM_DEF_CFG.LOF_CLR, FRM_DEF_CFG.LOF_SET, FRM_DEF_CFG.LOS_CLR,
  FRM_DEG_CFG.DEG_M, FRM_DEG_CFG.DEG_THR, FRM_DEG_CFG.SES_THR, FRM_DOVE_CFG.FAS_TOL, FRM_DOVE_CFG.M, FRM_DOVE_CFG.N], [], [], []⟩ [Touch.judgeFill]
@[simp] theorem within_opFrmCfg (h : CmdHdr) (p : List Nat) (s : State) (hF : Φ.covers Touch.opFrmCfg = true) : (opFrmCfg.body h p s).Within Φ := by
  simp [Touch.opFrmCfg] at hF
  simp [opFrmCfg, hF, FRM_CA_CFG.fields, FRM_DEF_CFG.fields, FRM_DEG_CFG.fields, FRM_DOVE_CFG.fields]

@[simp] theorem within_opFrmStatus (h : CmdHdr) (p : List Nat) (s : State) : (opFrmStatus.body h p s).Within Φ := by
  simp [opFrmStatus]

@[simp] theorem within_opFrmPmGet (h : CmdHdr) (p : List Nat) (s : State) : (opFrmPmGet.body h p s).Within Φ := by
  simp [opFrmPmGet]

def Touch.opFrmTtiSet : May := ⟨0, [], [], [], [.frm]⟩
@[simp] theorem within_opFrmTtiSet (h : CmdHdr) (p : List Nat) (s : State) (hF : Φ.covers Touch.opFrmTtiSet = true) : (opFrmTtiSet.body h p s).Within Φ := by
  simp [Touch.opFrmTtiSet] at hF
  simp [opFrmTtiSet, hF]

@[simp] theorem within_opFrmTtiGet (h : CmdHdr) (p : List Nat) (s : State) : (opFrmTtiGet.body h p s).Within Φ := by
  simp [opFrmTtiGet]

def Touch.opFrmOhcCfg : May := ⟨0, [FRM_OHC_CFG.SLICE_MASK, FRM_OHC_ROUTE.CLIENT, FRM_OHC_ROUTE.RX_DEST, FRM_OHC_ROUTE.TX_SRC], [], [], []⟩
@[simp] theorem within_opFrmOhcCfg (h : CmdHdr) (p : List Nat) (s : State) (hF : Φ.covers Touch.opFrmOhcCfg = true) : (opFrmOhcCfg.body h p s).Within Φ := by
  simp [Touch.opFrmOhcCfg] at hF
  simp [opFrmOhcCfg, hF, FRM_OHC_ROUTE.fields]

def Touch.opFrmOhcXfer : May := .join ⟨0, [], [], [], []⟩ [Touch.modOh, Touch.drainOh]
@[simp] theorem within_opFrmOhcXfer (h : CmdHdr) (p : List Nat) (s : State) (hF : Φ.covers Touch.opFrmOhcXfer = true) : (opFrmOhcXfer.body h p s).Within Φ := by
  simp [Touch.opFrmOhcXfer] at hF
  simp [opFrmOhcXfer, hF]

/-! ### Client -/

def Touch.opCliAdd : May := .join ⟨0, [], [], [], []⟩ [Touch.addChannel]
@[simp] theorem within_opCliAdd (h : CmdHdr) (p : List Nat) (s : State) (hF : Φ.covers Touch.opCliAdd = true) : (opCliAdd.body h p s).Within Φ := by
  simp [Touch.opCliAdd] at hF
  simp only [opCliAdd]
  (repeat' split) <;> simp [hF]

def Touch.opCliRemove : May := .join ⟨0, [], [], [], []⟩ [Touch.removeChannel]
@[simp] theorem within_opCliRemove (h : CmdHdr) (p : List Nat) (s : State) (hF : Φ.covers Touch.opCliRemove = true) : (opCliRemove.body h p s).Within Φ := by
  simp [Touch.opCliRemove] at hF
  simp [opCliRemove, hF]

def Touch.opCliMove : May := .join ⟨0, [], [], [], []⟩ [Touch.startMove]
@[simp] theorem within_opCliMove (h : CmdHdr) (p : List Nat) (s : State) (hF : Φ.covers Touch.opCliMove = true) : (opCliMove.body h p s).Within Φ := by
  simp [Touch.opCliMove] at hF
  simp [opCliMove]
  split <;> simp [hF]

def Touch.opCliMoveCancel : May := .join ⟨0, [], [EV.TRIB_MOVE_CANCELLED], [], []⟩ [Touch.dropMove, Touch.judgeProt]
@[simp] theorem within_opCliMoveCancel (h : CmdHdr) (p : List Nat) (s : State) (hF : Φ.covers Touch.opCliMoveCancel = true) : (opCliMoveCancel.body h p s).Within Φ := by
  simp [Touch.opCliMoveCancel] at hF
  simp [opCliMoveCancel]
  split <;> simp [hF]

@[simp] theorem within_opCliStatus (h : CmdHdr) (p : List Nat) (s : State) : (opCliStatus.body h p s).Within Φ := by
  simp [opCliStatus, CLI_CH_CFG.fields, CLI_CH_STAT.fields, CLI_MOVE_STAT.fields]

def Touch.opCliCounters : May := ⟨0, [], [], [], [.bank]⟩
@[simp] theorem within_opCliCounters (h : CmdHdr) (p : List Nat) (s : State) (hF : Φ.covers Touch.opCliCounters = true) : (opCliCounters.body h p s).Within Φ := by
  simp [Touch.opCliCounters] at hF
  simp [opCliCounters, hF]

def Touch.opCliTsCfg : May := ⟨0, [CLI_TS_ADJ_EG.ALL, CLI_TS_ADJ_IN.ALL], [], [], []⟩
@[simp] theorem within_opCliTsCfg (h : CmdHdr) (p : List Nat) (s : State) (hF : Φ.covers Touch.opCliTsCfg = true) : (opCliTsCfg.body h p s).Within Φ := by
  simp [Touch.opCliTsCfg] at hF
  simp [opCliTsCfg, hF]

def Touch.opCliLoop : May := .join ⟨0, [], [], [], []⟩ [Touch.setLoop]
@[simp] theorem within_opCliLoop (h : CmdHdr) (p : List Nat) (s : State) (hF : Φ.covers Touch.opCliLoop = true) : (opCliLoop.body h p s).Within Φ := by
  simp [Touch.opCliLoop] at hF
  simp [opCliLoop, hF]

@[simp] theorem within_opCliSlotMap (h : CmdHdr) (p : List Nat) (s : State) : (opCliSlotMap.body h p s).Within Φ := by
  simp [opCliSlotMap]

/-! ### Lanes -/

def Touch.opSrdLaneSet : May := .join ⟨0, [SRD_LANE_CTRL.RX_FREEZE, SRD_LANE_CTRL.RX_INV, SRD_LANE_CTRL.TRAIN, SRD_LANE_CTRL.TX_INV, SRD_TXFIR.MAIN,
  SRD_TXFIR.POST1, SRD_TXFIR.PRE1, SRD_TXFIR.PRE2], [], [], []⟩ [Touch.startTraining]
@[simp] theorem within_opSrdLaneSet (h : CmdHdr) (p : List Nat) (s : State) (hF : Φ.covers Touch.opSrdLaneSet = true) : (opSrdLaneSet.body h p s).Within Φ := by
  simp [Touch.opSrdLaneSet] at hF
  simp [opSrdLaneSet, hF, SRD_LANE_CTRL.fields, SRD_TXFIR.fields]

@[simp] theorem within_opSrdStatus (h : CmdHdr) (p : List Nat) (s : State) : (opSrdStatus.body h p s).Within Φ := by
  simp [opSrdStatus, SRD_GRP_STAT.fields, SRD_LANE_STAT.fields]

def Touch.opSrdEyeScan : May := ⟨0, [SRD_LANE_STAT.SCAN], [], [], [.srd]⟩
@[simp] theorem within_opSrdEyeScan (h : CmdHdr) (p : List Nat) (s : State) (hF : Φ.covers Touch.opSrdEyeScan = true) : (opSrdEyeScan.body h p s).Within Φ := by
  simp [Touch.opSrdEyeScan] at hF
  simp [opSrdEyeScan, hF]

def Touch.opSrdJigSet : May := .join ⟨0, [SRD_JIG_USER.ALL], [], [], []⟩ [Touch.setJig]
@[simp] theorem within_opSrdJigSet (h : CmdHdr) (p : List Nat) (s : State) (hF : Φ.covers Touch.opSrdJigSet = true) : (opSrdJigSet.body h p s).Within Φ := by
  simp [Touch.opSrdJigSet] at hF
  simp [opSrdJigSet, hF, SRD_JIG_CFG.fields]

def Touch.opSrdJigGet : May := ⟨0, [], [], [], [.bank]⟩
@[simp] theorem within_opSrdJigGet (h : CmdHdr) (p : List Nat) (s : State) (hF : Φ.covers Touch.opSrdJigGet = true) : (opSrdJigGet.body h p s).Within Φ := by
  simp [Touch.opSrdJigGet] at hF
  simp [opSrdJigGet, hF]

/-! ### Engines -/

@[simp] theorem within_opEngStatus (h : CmdHdr) (p : List Nat) (s : State) : (opEngStatus.body h p s).Within Φ := by
  simp [opEngStatus, ENG_CORE.fields, ENG_FW_STAT.fields]

def Touch.opEngCfg : May := ⟨0, [ENG_FW_CFG.PROBATION, ENG_WDOG.PERIOD], [], [], []⟩
@[simp] theorem within_opEngCfg (h : CmdHdr) (p : List Nat) (s : State) (hF : Φ.covers Touch.opEngCfg = true) : (opEngCfg.body h p s).Within Φ := by
  simp [Touch.opEngCfg] at hF
  simp [opEngCfg, hF]

def Touch.opFwStage : May := ⟨0, [], [], [], [.eng]⟩
@[simp] theorem within_opFwStage (h : CmdHdr) (p : List Nat) (s : State) (hF : Φ.covers Touch.opFwStage = true) : (opFwStage.body h p s).Within Φ := by
  simp [Touch.opFwStage] at hF
  simp [opFwStage, hF]

def Touch.opFwActivate : May := .join ⟨0, [], [], [], [.eng]⟩ [Touch.fwNextStep]
@[simp] theorem within_opFwActivate (h : CmdHdr) (p : List Nat) (s : State) (hF : Φ.covers Touch.opFwActivate = true) : (opFwActivate.body h p s).Within Φ := by
  simp [Touch.opFwActivate] at hF
  simp [opFwActivate]
  split <;> simp [hF]

def Touch.opFwCommit : May := .join ⟨0, [ENG_FW_STAT.BANK], [], [], [.sec]⟩ [Touch.raiseCounter]
@[simp] theorem within_opFwCommit (h : CmdHdr) (p : List Nat) (s : State) (hF : Φ.covers Touch.opFwCommit = true) : (opFwCommit.body h p s).Within Φ := by
  simp [Touch.opFwCommit] at hF
  simp [opFwCommit]
  split <;> simp [hF]

def Touch.opSbxLoad : May := ⟨0, [], [], [], [.eng]⟩
@[simp] theorem within_opSbxLoad (h : CmdHdr) (p : List Nat) (s : State) (hF : Φ.covers Touch.opSbxLoad = true) : (opSbxLoad.body h p s).Within Φ := by
  simp [Touch.opSbxLoad] at hF
  simp [opSbxLoad, hF]

def Touch.opSbxCtrl : May := .join ⟨0, [ENG_CORE.STATE, ENG_CORE.TASK, ENG_SBX_CFG.CAP, ENG_SBX_CFG.EN, ENG_SBX_CFG.HBM_GB, ENG_SBX_CFG.MASK_HI,
  ENG_SBX_CFG.MASK_LO, ENG_SBX_GPIO.GPIO, ENG_SBX_GPIO.PWM], [], [], []⟩ [Touch.sbxStop]
@[simp] theorem within_opSbxCtrl (h : CmdHdr) (p : List Nat) (s : State) (hF : Φ.covers Touch.opSbxCtrl = true) : (opSbxCtrl.body h p s).Within Φ := by
  simp [Touch.opSbxCtrl] at hF
  simp [opSbxCtrl, hF, ENG_SBX_CFG.fields, ENG_SBX_GPIO.fields]

/-! ### Observe -/

def Touch.opObsSnapshot : May := ⟨0, [OBS_SNAP.GEN], [], [], [.bank]⟩
@[simp] theorem within_opObsSnapshot (h : CmdHdr) (p : List Nat) (s : State) (hF : Φ.covers Touch.opObsSnapshot = true) : (opObsSnapshot.body h p s).Within Φ := by
  simp [Touch.opObsSnapshot] at hF
  simp [opObsSnapshot, hF]

def Touch.opObsCntRead : May := ⟨0, [], [], [], [.bank]⟩
@[simp] theorem within_opObsCntRead (h : CmdHdr) (p : List Nat) (s : State) (hF : Φ.covers Touch.opObsCntRead = true) : (opObsCntRead.body h p s).Within Φ := by
  simp [Touch.opObsCntRead] at hF
  simp [opObsCntRead, hF]
  split <;> simp

@[simp] theorem within_opObsCntPreset (h : CmdHdr) (p : List Nat) (s : State) (hc : ∀ j, Φ.cnt j = true) : (opObsCntPreset.body h p s).Within Φ := by
  simp [opObsCntPreset, Foot.allows, hc]

def Touch.opObsEvtRoute : May := ⟨0, [OBS_EVT_ROUTE.Q, OBS_EVT_ROUTE.REC, OBS_EVT_ROUTE.TRIG, OBS_EVT_ROUTE.TRIG_EN], [], [], []⟩
@[simp] theorem within_opObsEvtRoute (h : CmdHdr) (p : List Nat) (s : State) (hF : Φ.covers Touch.opObsEvtRoute = true) : (opObsEvtRoute.body h p s).Within Φ := by
  simp [Touch.opObsEvtRoute] at hF
  simp [opObsEvtRoute, OBS_EVT_ROUTE.fields]
  split <;> simp [hF]

def Touch.opObsDumpCfg : May := ⟨0, [OBS_ACL.ALL, OBS_DUMP_CFG.DEST, OBS_DUMP_CFG.EN, OBS_DUMP_CFG.RANGES, OBS_DUMP_PERIOD.PERIOD], [], [], []⟩
@[simp] theorem within_opObsDumpCfg (h : CmdHdr) (p : List Nat) (s : State) (hF : Φ.covers Touch.opObsDumpCfg = true) : (opObsDumpCfg.body h p s).Within Φ := by
  simp [Touch.opObsDumpCfg] at hF
  simp [opObsDumpCfg, hF, OBS_DUMP_CFG.fields]

def Touch.opObsBwCfg : May := .join ⟨0, [], [], [], []⟩ [Touch.bwWrite]
@[simp] theorem within_opObsBwCfg (h : CmdHdr) (p : List Nat) (s : State) (hF : Φ.covers Touch.opObsBwCfg = true) : (opObsBwCfg.body h p s).Within Φ := by
  simp [Touch.opObsBwCfg] at hF
  simp [opObsBwCfg, hF, OBS_BW_CFG.fields]

def Touch.opCapCfg : May := .join ⟨0, [OBS_CAP_POST.RAW_POST, OBS_CAP_POST.SOFT_POST, OBS_TRIG_CFG.DUMP, OBS_TRIG_CFG.EDGE, OBS_TRIG_CFG.GPIO,
  OBS_TRIG_CFG.GPIO_EN, OBS_TRIG_CFG.MARK, OBS_TRIG_CFG.RAW, OBS_TRIG_CFG.SOFT], [], [], []⟩ [Touch.capWrite]
@[simp] theorem within_opCapCfg (h : CmdHdr) (p : List Nat) (s : State) (hF : Φ.covers Touch.opCapCfg = true) : (opCapCfg.body h p s).Within Φ := by
  simp [Touch.opCapCfg] at hF
  simp [opCapCfg, hF, OBS_TRIG_CFG.fields]

def Touch.opCapTrigger : May := .join ⟨0, [], [], [], []⟩ [Touch.fireTrigger]
@[simp] theorem within_opCapTrigger (h : CmdHdr) (p : List Nat) (s : State) (hF : Φ.covers Touch.opCapTrigger = true) : (opCapTrigger.body h p s).Within Φ := by
  simp [Touch.opCapTrigger] at hF
  simp [opCapTrigger, hF]

def Touch.opCapRead : May := ⟨0, [], [], [], [.obs]⟩
@[simp] theorem within_opCapRead (h : CmdHdr) (p : List Nat) (s : State) (hF : Φ.covers Touch.opCapRead = true) : (opCapRead.body h p s).Within Φ := by
  simp [Touch.opCapRead] at hF
  simp [opCapRead]
  split <;> simp [hF]

def Touch.opCapRearm : May := .join ⟨0, [], [], [], []⟩ [Touch.arm]
@[simp] theorem within_opCapRearm (h : CmdHdr) (p : List Nat) (s : State) (hF : Φ.covers Touch.opCapRearm = true) : (opCapRearm.body h p s).Within Φ := by
  simp [Touch.opCapRearm] at hF
  simp [opCapRearm]
  split <;> simp [hF]

def Touch.opRecCfg : May := .join ⟨0, [OBS_REC_CFG.DRIVES, OBS_REC_CFG.EN, OBS_REC_CFG.LOG_PCT], [], [], []⟩ [Touch.setDrivesOk]
@[simp] theorem within_opRecCfg (h : CmdHdr) (p : List Nat) (s : State) (hF : Φ.covers Touch.opRecCfg = true) : (opRecCfg.body h p s).Within Φ := by
  simp [Touch.opRecCfg] at hF
  simp [opRecCfg, hF, OBS_REC_CFG.fields]

def Touch.opRecRead : May := ⟨0, [], [], [], [.obs]⟩
@[simp] theorem within_opRecRead (h : CmdHdr) (p : List Nat) (s : State) (hF : Φ.covers Touch.opRecRead = true) : (opRecRead.body h p s).Within Φ := by
  simp [Touch.opRecRead] at hF
  simp [opRecRead, hF]

def Touch.opRecHold : May := ⟨0, [OBS_REC_STAT.HELD], [], [], [.obs]⟩
@[simp] theorem within_opRecHold (h : CmdHdr) (p : List Nat) (s : State) (hF : Φ.covers Touch.opRecHold = true) : (opRecHold.body h p s).Within Φ := by
  simp [Touch.opRecHold] at hF
  simp [opRecHold]
  split <;> simp [hF]

@[simp] theorem within_opRecStatus (h : CmdHdr) (p : List Nat) (s : State) : (opRecStatus.body h p s).Within Φ := by
  simp [opRecStatus, OBS_REC_STAT.fields]

/-! ### Tod -/

def Touch.opSchedSet : May := .join ⟨0, [], [], [], []⟩ [Touch.schedRun, Touch.schedPut]
@[simp] theorem within_opSchedSet (h : CmdHdr) (p : List Nat) (s : State) (hF : Φ.covers Touch.opSchedSet = true) : (opSchedSet.body h p s).Within Φ := by
  simp [Touch.opSchedSet] at hF
  simp [opSchedSet, hF]

def Touch.opSchedCancel : May := ⟨0, [TOD_SCHED_ACT.ARMED], [], [], []⟩
@[simp] theorem within_opSchedCancel (h : CmdHdr) (p : List Nat) (s : State) (hF : Φ.covers Touch.opSchedCancel = true) : (opSchedCancel.body h p s).Within Φ := by
  simp [Touch.opSchedCancel] at hF
  simp [opSchedCancel, hF]

def Touch.opTodStep : May := ⟨0, [], [], [], [.tod]⟩
@[simp] theorem within_opTodStep (h : CmdHdr) (p : List Nat) (s : State) (hF : Φ.covers Touch.opTodStep = true) : (opTodStep.body h p s).Within Φ := by
  simp [Touch.opTodStep] at hF
  simp [opTodStep, hF]

@[simp] theorem within_opTodGet (h : CmdHdr) (p : List Nat) (s : State) : (opTodGet.body h p s).Within Φ := by
  simp [opTodGet, TOD_STATUS.fields]

def Touch.opTodRearm : May := .join ⟨0, [TOD_STATUS.STEP_AVAIL], [], [], [.tod]⟩ [Touch.syncPorts]
@[simp] theorem within_opTodRearm (h : CmdHdr) (p : List Nat) (s : State) (hF : Φ.covers Touch.opTodRearm = true) : (opTodRearm.body h p s).Within Φ := by
  simp [Touch.opTodRearm] at hF
  simp [opTodRearm, hF]

def Touch.opTodRateSet : May := ⟨0, [TOD_RATE.ALL], [], [], []⟩
@[simp] theorem within_opTodRateSet (h : CmdHdr) (p : List Nat) (s : State) (hF : Φ.covers Touch.opTodRateSet = true) : (opTodRateSet.body h p s).Within Φ := by
  simp [Touch.opTodRateSet] at hF
  simp [opTodRateSet, hF]

def Touch.opAsymAccept : May := .join ⟨0, [], [], [], []⟩ [Touch.acceptAsym]
@[simp] theorem within_opAsymAccept (h : CmdHdr) (p : List Nat) (s : State) (hF : Φ.covers Touch.opAsymAccept = true) : (opAsymAccept.body h p s).Within Φ := by
  simp [Touch.opAsymAccept] at hF
  simp [opAsymAccept, hF]

@[simp] theorem within_opLineDelay (h : CmdHdr) (p : List Nat) (s : State) : (opLineDelay.body h p s).Within Φ := by
  simp [opLineDelay]

/-! ### Pair -/

def Touch.opPairCfg : May := .join ⟨0, pairCfgRegs.flatten ++ [PAIR_MATE_ID.ALL], [], [], []⟩ [Touch.pairEnSync, Touch.pairCntClr, Touch.joinPair]
@[simp] theorem within_opPairCfg (h : CmdHdr) (p : List Nat) (s : State) (hF : Φ.covers Touch.opPairCfg = true) : (opPairCfg.body h p s).Within Φ := by
  simp [Touch.opPairCfg] at hF
  have hregs := all_getD hF.1.1
  simp [opPairCfg, hF, hregs]

@[simp] theorem within_opPairStatus (h : CmdHdr) (p : List Nat) (s : State) : (opPairStatus.body h p s).Within Φ := by
  simp [opPairStatus, PAIR_STATUS.fields]

def Touch.opPairSwitch : May := .join ⟨0, [], [], [], []⟩ [Touch.setRole, Touch.promote]
@[simp] theorem within_opPairSwitch (h : CmdHdr) (p : List Nat) (s : State) (hF : Φ.covers Touch.opPairSwitch = true) : (opPairSwitch.body h p s).Within Φ := by
  simp [Touch.opPairSwitch] at hF
  simp [opPairSwitch, hF]

def Touch.opPairPromote : May := .join ⟨0, [], [], [], []⟩ [Touch.promote]
@[simp] theorem within_opPairPromote (h : CmdHdr) (p : List Nat) (s : State) (hF : Φ.covers Touch.opPairPromote = true) : (opPairPromote.body h p s).Within Φ := by
  simp [Touch.opPairPromote] at hF
  simp [opPairPromote, hF]

def Touch.opPairOos : May := .join ⟨0, [], [], [], [.pair]⟩ [Touch.setRole]
@[simp] theorem within_opPairOos (h : CmdHdr) (p : List Nat) (s : State) (hF : Φ.covers Touch.opPairOos = true) : (opPairOos.body h p s).Within Φ := by
  simp [Touch.opPairOos] at hF
  simp [opPairOos, hF]

def Touch.opPairReturn : May := .join ⟨0, [], [], [], [.pair]⟩ [Touch.joinPair]
@[simp] theorem within_opPairReturn (h : CmdHdr) (p : List Nat) (s : State) (hF : Φ.covers Touch.opPairReturn = true) : (opPairReturn.body h p s).Within Φ := by
  simp [Touch.opPairReturn] at hF
  simp [opPairReturn, hF]

def Touch.opPairSnapshot : May := .join ⟨0, [], [], [], []⟩ [Touch.cutSnapshot]
@[simp] theorem within_opPairSnapshot (h : CmdHdr) (p : List Nat) (s : State) (hF : Φ.covers Touch.opPairSnapshot = true) : (opPairSnapshot.body h p s).Within Φ := by
  simp [Touch.opPairSnapshot] at hF
  simp [opPairSnapshot, hF]

@[simp] theorem within_opPairSpares (h : CmdHdr) (p : List Nat) (s : State) : (opPairSpares.body h p s).Within Φ := by
  simp [opPairSpares, PAIR_ENG.fields]

/-! ### Control -/

@[simp] theorem within_opIdentify (h : CmdHdr) (p : List Nat) (s : State) : (opIdentify.body h p s).Within Φ := by
  simp [opIdentify]

@[simp] theorem within_opStatus (h : CmdHdr) (p : List Nat) (s : State) : (opStatus.body h p s).Within Φ := by
  simp [opStatus, CMD_BAT_STAT.fields, CMD_STATUS.fields]

def Touch.opSysStateSet : May := .join ⟨0, [], [], [], []⟩ [Touch.setDev]
@[simp] theorem within_opSysStateSet (h : CmdHdr) (p : List Nat) (s : State) (hF : Φ.covers Touch.opSysStateSet = true) : (opSysStateSet.body h p s).Within Φ := by
  simp [Touch.opSysStateSet] at hF
  simp [opSysStateSet, hF]

def Touch.opSysSessionOpen : May := ⟨0, [CMD_STATUS.SESSIONS], [], [], [.cmd]⟩
@[simp] theorem within_opSysSessionOpen (h : CmdHdr) (p : List Nat) (s : State) (hF : Φ.covers Touch.opSysSessionOpen = true) : (opSysSessionOpen.body h p s).Within Φ := by
  simp [Touch.opSysSessionOpen] at hF
  simp [opSysSessionOpen, hF]

def Touch.opSysSessionClose : May := .join ⟨0, [], [], [], []⟩ [Touch.endSession]
@[simp] theorem within_opSysSessionClose (h : CmdHdr) (p : List Nat) (s : State) (hF : Φ.covers Touch.opSysSessionClose = true) : (opSysSessionClose.body h p s).Within Φ := by
  simp [Touch.opSysSessionClose] at hF
  simp [opSysSessionClose, hF]

def Touch.opSysSlotRelease : May := ⟨0, [], [], [], [.slots]⟩
@[simp] theorem within_opSysSlotRelease (h : CmdHdr) (p : List Nat) (s : State) (hF : Φ.covers Touch.opSysSlotRelease = true) : (opSysSlotRelease.body h p s).Within Φ := by
  simp [Touch.opSysSlotRelease] at hF
  simp [opSysSlotRelease, hF]

@[simp] theorem within_opBattenStatus (h : CmdHdr) (p : List Nat) (s : State) : (opBattenStatus.body h p s).Within Φ := by
  simp [opBattenStatus]

/-! ### RefClock -/

def Touch.opRefCfg : May := .join ⟨0, refCfgRegs.flatten, [], [], []⟩ [Touch.refEval]
@[simp] theorem within_opRefCfg (h : CmdHdr) (p : List Nat) (s : State) (hF : Φ.covers Touch.opRefCfg = true) : (opRefCfg.body h p s).Within Φ := by
  simp [Touch.opRefCfg] at hF
  have hregs := all_getD hF.1
  simp [opRefCfg, hF, hregs]

def Touch.opRefCandSet : May := .join ⟨0, [REF_CAND_CFG.LANE, REF_CAND_CFG.LOCKOUT, REF_CAND_CFG.PRIO, REF_CAND_CFG.QL, REF_CAND_CFG.QL_SRC,
  REF_CAND_FHZ.HZ], [], [], []⟩ [Touch.refEval, Touch.requalify]
@[simp] theorem within_opRefCandSet (h : CmdHdr) (p : List Nat) (s : State) (hF : Φ.covers Touch.opRefCandSet = true) : (opRefCandSet.body h p s).Within Φ := by
  simp [Touch.opRefCandSet] at hF
  simp [opRefCandSet, hF, REF_CAND_CFG.fields]

def Touch.opRefSelect : May := .join ⟨0, [REF_CTRL.SEL_CAND, REF_CTRL.SEL_MODE], [], [], []⟩ [Touch.refEval]
@[simp] theorem within_opRefSelect (h : CmdHdr) (p : List Nat) (s : State) (hF : Φ.covers Touch.opRefSelect = true) : (opRefSelect.body h p s).Within Φ := by
  simp [Touch.opRefSelect] at hF
  simp [opRefSelect, hF]

@[simp] theorem within_opRefStatus (h : CmdHdr) (p : List Nat) (s : State) : (opRefStatus.body h p s).Within Φ := by
  simp [opRefStatus, REF_CAND_STAT.fields, REF_STATUS.fields]

def Touch.opRefOutSet : May := ⟨0, [REF_OUT_CFG.COMPAT, REF_OUT_CFG.EN, REF_OUT_CFG.POL, REF_OUT_CFG.SRC, REF_OUT_CFG.WIDTH, REF_OUT_FHZ.HZ,
  REF_OUT_OFS.ALL], [], [], []⟩
@[simp] theorem within_opRefOutSet (h : CmdHdr) (p : List Nat) (s : State) (hF : Φ.covers Touch.opRefOutSet = true) : (opRefOutSet.body h p s).Within Φ := by
  simp [Touch.opRefOutSet] at hF
  simp [opRefOutSet, hF, REF_OUT_CFG.fields]

def Touch.opRefRealign : May := ⟨0, [], [], [], [.ref]⟩
@[simp] theorem within_opRefRealign (h : CmdHdr) (p : List Nat) (s : State) (hF : Φ.covers Touch.opRefRealign = true) : (opRefRealign.body h p s).Within Φ := by
  simp [Touch.opRefRealign] at hF
  simp [opRefRealign, hF]

/-! ### Veneer -/

def Touch.opVnrCfg : May := .join ⟨0, [VNR_CTRL.PROT_MODE, VNR_LA_CFG.HOLD, VNR_STATUS.ERASED], [], [], []⟩ [Touch.judgeProt, Touch.vnrCntClr]
@[simp] theorem within_opVnrCfg (h : CmdHdr) (p : List Nat) (s : State) (hF : Φ.covers Touch.opVnrCfg = true) : (opVnrCfg.body h p s).Within Φ := by
  simp [Touch.opVnrCfg] at hF
  simp [opVnrCfg]
  split <;> simp [hF]

@[simp] theorem within_opVnrStatus (h : CmdHdr) (p : List Nat) (s : State) : (opVnrStatus.body h p s).Within Φ := by
  simp [opVnrStatus, VNR_PAGE_STAT.fields]

def Touch.opVnrPageSet : May := ⟨0, [VNR_PAGE_CFG.DIR, VNR_PAGE_CFG.INLINE, VNR_PAGE_CFG.LA_EN, VNR_PAGE_CFG.OWNER, VNR_PAGE_CFG.SANDBOX,
  VNR_PAGE_ROT.PERIOD], [], [], []⟩
@[simp] theorem within_opVnrPageSet (h : CmdHdr) (p : List Nat) (s : State) (hF : Φ.covers Touch.opVnrPageSet = true) : (opVnrPageSet.body h p s).Within Φ := by
  simp [Touch.opVnrPageSet] at hF
  simp [opVnrPageSet, VNR_PAGE_CFG.fields]
  split <;> simp [hF]

def Touch.opVnrBind : May := ⟨0, [VNR_CH_BIND.PAGE], [], [], []⟩
@[simp] theorem within_opVnrBind (h : CmdHdr) (p : List Nat) (s : State) (hF : Φ.covers Touch.opVnrBind = true) : (opVnrBind.body h p s).Within Φ := by
  simp [Touch.opVnrBind] at hF
  simp [opVnrBind, hF]

def Touch.opVnrCounters : May := ⟨0, [], [], [], [.bank]⟩
@[simp] theorem within_opVnrCounters (h : CmdHdr) (p : List Nat) (s : State) (hF : Φ.covers Touch.opVnrCounters = true) : (opVnrCounters.body h p s).Within Φ := by
  simp [Touch.opVnrCounters] at hF
  simp [opVnrCounters, hF]

def Touch.opVnrRearm : May := ⟨0, [VNR_STATUS.ERASED], [], [], []⟩
@[simp] theorem within_opVnrRearm (h : CmdHdr) (p : List Nat) (s : State) (hF : Φ.covers Touch.opVnrRearm = true) : (opVnrRearm.body h p s).Within Φ := by
  simp [Touch.opVnrRearm] at hF
  simp [opVnrRearm, hF]

def Touch.opVnrKeyLoad : May := .join ⟨0, [], [], [], []⟩ [Touch.keyEnters]
@[simp] theorem within_opVnrKeyLoad (h : CmdHdr) (p : List Nat) (s : State) (hF : Φ.covers Touch.opVnrKeyLoad = true) : (opVnrKeyLoad.body h p s).Within Φ := by
  simp [Touch.opVnrKeyLoad] at hF
  simp only [opVnrKeyLoad]
  (repeat' split) <;> simp [hF]

def Touch.opVnrKeySwitch : May := .join ⟨0, [], [], [], []⟩ [Touch.switchPages]
@[simp] theorem within_opVnrKeySwitch (h : CmdHdr) (p : List Nat) (s : State) (hF : Φ.covers Touch.opVnrKeySwitch = true) : (opVnrKeySwitch.body h p s).Within Φ := by
  simp [Touch.opVnrKeySwitch] at hF
  simp only [opVnrKeySwitch]
  (repeat' split) <;> simp [hF]

def Touch.opVnrKeyErase : May := .join ⟨0, [], [EV.KEY_ERASED], [], []⟩ [Touch.eraseSlot, Touch.clearPending, Touch.stopSlot]
@[simp] theorem within_opVnrKeyErase (h : CmdHdr) (p : List Nat) (s : State) (hF : Φ.covers Touch.opVnrKeyErase = true) : (opVnrKeyErase.body h p s).Within Φ := by
  simp [Touch.opVnrKeyErase] at hF
  simp only [opVnrKeyErase]
  (repeat' split) <;> simp [hF]
  exact fun t => within_forE fun g u => by simp [hF]

def Touch.opVnrLa : May := ⟨0, [], [], [], [.vnr]⟩
@[simp] theorem within_opVnrLa (h : CmdHdr) (p : List Nat) (s : State) (hF : Φ.covers Touch.opVnrLa = true) : (opVnrLa.body h p s).Within Φ := by
  simp [Touch.opVnrLa] at hF
  simp [opVnrLa]
  split <;> simp [hF]

/-! ### Scribe -/

def Touch.opScrCfgSet : May := .join ⟨0, [SCR_BACKOFF.ALL, SCR_CFG.CAP_MARGIN, SCR_CFG.FREQ, SCR_CFG.LEVEL, SCR_CFG.SYNC_TOL, SCR_CTRL.AUTO_RENEG,
  SCR_CTRL.NEG, SCR_CTRL.PIN, SCR_KEY_PAGES.ALL, SCR_MODES.ALL, SCR_PEER_ID.ALL, SCR_TIMERS.HELLO, SCR_TIMERS.NEG_TO, SCR_TIMERS.REPLY_TO, SCR_TIMERS.RETRIES,
  SCR_TIMERS2.GO_TO, SCR_TIMERS2.RELOCK_TO, SCR_TIMERS2.SEL_WIN], [], [], []⟩ [Touch.setScrEn, Touch.scrRestart, Touch.scrCntClr]
@[simp] theorem within_opScrCfgSet (h : CmdHdr) (p : List Nat) (s : State) (hF : Φ.covers Touch.opScrCfgSet = true) : (opScrCfgSet.body h p s).Within Φ := by
  simp [Touch.opScrCfgSet] at hF
  simp [opScrCfgSet, hF, SCR_CFG.fields, SCR_CTRL.fields, SCR_TIMERS.fields, SCR_TIMERS2.fields]

def Touch.opScrTrust : May := ⟨0, [], [], [], [.scr]⟩
@[simp] theorem within_opScrTrust (h : CmdHdr) (p : List Nat) (s : State) (hF : Φ.covers Touch.opScrTrust = true) : (opScrTrust.body h p s).Within Φ := by
  simp [Touch.opScrTrust] at hF
  simp [opScrTrust, hF]

@[simp] theorem within_opScrStatus (h : CmdHdr) (p : List Nat) (s : State) : (opScrStatus.body h p s).Within Φ := by
  simp [opScrStatus, SCR_STATUS.fields]

@[simp] theorem within_opScrPeers (h : CmdHdr) (p : List Nat) (s : State) : (opScrPeers.body h p s).Within Φ := by
  simp [opScrPeers]

def Touch.opScrRestart : May := .join ⟨0, [], [], [], []⟩ [Touch.scrRestart]
@[simp] theorem within_opScrRestart (h : CmdHdr) (p : List Nat) (s : State) (hF : Φ.covers Touch.opScrRestart = true) : (opScrRestart.body h p s).Within Φ := by
  simp [Touch.opScrRestart] at hF
  simp [opScrRestart, hF]

/-! ### Security -/

@[simp] theorem within_opSecStatus (h : CmdHdr) (p : List Nat) (s : State) : (opSecStatus.body h p s).Within Φ := by
  simp [opSecStatus, SEC_RESET_CAUSE.fields]

@[simp] theorem within_opSecCerts (h : CmdHdr) (p : List Nat) (s : State) : (opSecCerts.body h p s).Within Φ := by
  simp [opSecCerts]

def Touch.opAttest : May := ⟨0, [], [], [], [.draws]⟩
@[simp] theorem within_opAttest (h : CmdHdr) (p : List Nat) (s : State) (hF : Φ.covers Touch.opAttest = true) : (opAttest.body h p s).Within Φ := by
  simp [Touch.opAttest] at hF
  simp [opAttest, hF]

def Touch.opSecSessionKey : May := ⟨0, [], [EV.SESSION_KEYED], [], [.draws, .sec]⟩
@[simp] theorem within_opSecSessionKey (h : CmdHdr) (p : List Nat) (s : State) (hF : Φ.covers Touch.opSecSessionKey = true) : (opSecSessionKey.body h p s).Within Φ := by
  simp [Touch.opSecSessionKey] at hF
  simp [opSecSessionKey, hF]

def Touch.opSecNonce : May := ⟨0, [], [], [], [.draws, .sec]⟩
@[simp] theorem within_opSecNonce (h : CmdHdr) (p : List Nat) (s : State) (hF : Φ.covers Touch.opSecNonce = true) : (opSecNonce.body h p s).Within Φ := by
  simp [Touch.opSecNonce] at hF
  simp [opSecNonce, hF]

def Touch.opSecLifecycle : May := ⟨0, [], [EV.LIFECYCLE_SET], [], [.fuse, .sec]⟩
@[simp] theorem within_opSecLifecycle (h : CmdHdr) (p : List Nat) (s : State) (hF : Φ.covers Touch.opSecLifecycle = true) : (opSecLifecycle.body h p s).Within Φ := by
  simp [Touch.opSecLifecycle] at hF
  simp [opSecLifecycle, hF]

def Touch.opSecCustkey : May := ⟨0, [], [], [], [.fuse]⟩
@[simp] theorem within_opSecCustkey (h : CmdHdr) (p : List Nat) (s : State) (hF : Φ.covers Touch.opSecCustkey = true) : (opSecCustkey.body h p s).Within Φ := by
  simp [Touch.opSecCustkey] at hF
  simp [opSecCustkey, hF]

def Touch.opSecReset : May := ⟨0, [], [], [], [.sec]⟩
@[simp] theorem within_opSecReset (h : CmdHdr) (p : List Nat) (s : State) (hF : Φ.covers Touch.opSecReset = true) : (opSecReset.body h p s).Within Φ := by
  simp [Touch.opSecReset] at hF
  simp [opSecReset, hF]

/-! ### Power -/

def Touch.opPwrStateSet : May := .join ⟨0, [PWR_STATUS.BUSY, PWR_STATUS.TARGET], [], [], [.pwr]⟩ [Touch.finish]
@[simp] theorem within_opPwrStateSet (h : CmdHdr) (p : List Nat) (s : State) (hF : Φ.covers Touch.opPwrStateSet = true) : (opPwrStateSet.body h p s).Within Φ := by
  simp [Touch.opPwrStateSet] at hF
  simp [opPwrStateSet, hF]

@[simp] theorem within_opPwrStatus (h : CmdHdr) (p : List Nat) (s : State) : (opPwrStatus.body h p s).Within Φ := by
  simp [opPwrStatus, PWR_STATUS.fields]

def Touch.opPwrCfg : May := ⟨0, [PWR_PWM.DUTY, PWR_PWM.FREQ, PWR_THERM_CFG.CRIT, PWR_THERM_CFG.HYST, PWR_THERM_CFG.WARN], [], [], []⟩
@[simp] theorem within_opPwrCfg (h : CmdHdr) (p : List Nat) (s : State) (hF : Φ.covers Touch.opPwrCfg = true) : (opPwrCfg.body h p s).Within Φ := by
  simp [Touch.opPwrCfg] at hF
  simp [opPwrCfg, hF, PWR_PWM.fields, PWR_THERM_CFG.fields]

/-! ### Ptp -/

def Touch.opPtpCfg : May := .join ⟨0, ptpCfgRegs.flatten, [], [], []⟩ [Touch.syncPorts]
@[simp] theorem within_opPtpCfg (h : CmdHdr) (p : List Nat) (s : State) (hF : Φ.covers Touch.opPtpCfg = true) : (opPtpCfg.body h p s).Within Φ := by
  simp [Touch.opPtpCfg] at hF
  have hregs := all_getD hF.1
  simp [opPtpCfg, hF, hregs]

def Touch.opPtpPortSet : May := .join ⟨0, [TOD_PORT_CFG.DA, TOD_PORT_CFG.EN, TOD_PORT_CFG.LOCAL_PRIO, TOD_PORT_CFG.MASTER_ONLY, TOD_PORT_CFG.NOT_SLAVE,
  TOD_PORT_CFG.TWO_STEP], [], [], []⟩ [Touch.syncPorts]
@[simp] theorem within_opPtpPortSet (h : CmdHdr) (p : List Nat) (s : State) (hF : Φ.covers Touch.opPtpPortSet = true) : (opPtpPortSet.body h p s).Within Φ := by
  simp [Touch.opPtpPortSet] at hF
  simp [opPtpPortSet, hF, TOD_PORT_CFG.fields]

@[simp] theorem within_opPtpStatus (h : CmdHdr) (p : List Nat) (s : State) : (opPtpStatus.body h p s).Within Φ := by
  simp [opPtpStatus]

def Touch.opSbxMsg : May := ⟨0, [], [EV.SBX_MSG], [(40, 1)], [.eng]⟩
@[simp] theorem within_opSbxMsg (taken : Nat) (posted : List (List (BitVec 8))) (h : CmdHdr) (p : List Nat) (s : State) (hF : Φ.covers Touch.opSbxMsg = true) :
    ((opSbxMsg taken posted).body h p s).Within Φ := by
  simp [Touch.opSbxMsg] at hF
  simp [opSbxMsg, hF]

end

end Sys2Proof.Machine

/-!
The footprints of the register writes and of the interpreter: a write touches the fields of its register and what the register's rule gives it, a packet
what the command of its opcode does. They lie within every footprint of all fields that a key tells (`Foot.Wide`).
-/
namespace Sys2Proof.Machine
open Sys2Proof

section
variable {Φ : Foot} {σ : State}

/-! ### Fields of a register -/

theorem findReg_mem {off : Nat} {r : RegDef} {i : Nat} (h : findReg off = some (r, i)) : r ∈ regsOf (off / 0x100000) := by
  have hin : ∀ rs : List RegDef, findIn off rs = some (r, i) → r ∈ rs := by
    intro rs
    induction rs with
    | nil => simp [findIn]
    | cons q qs ih =>
      intro hq
      rw [findIn] at hq
      cases hinst : q.inst off with
      | none => rw [hinst] at hq; exact List.mem_cons_of_mem _ (ih hq)
      | some j =>
        rw [hinst] at hq
        simp only [Option.some.injEq, Prod.mk.injEq] at hq
        exact hq.1 ▸ List.mem_cons_self
  exact hin _ h

theorem Foot.Wide.flds (hw : Φ.Wide) {off : Nat} {r : RegDef} {i : Nat} (h : findReg off = some (r, i)) : r.flds.all Φ.fld = true :=
  List.all_eq_true.2 fun f hf => hw.fld f (regsOf_width_lt _ r (findReg_mem h) f hf)

theorem all_but {r : RegDef} (hr : r.flds.all Φ.fld = true) (fs : List Fld) : (r.but fs).all Φ.fld = true :=
  List.all_eq_true.2 fun f hf => List.all_eq_true.1 hr f (List.mem_filter.1 hf).1

def Touch.busSide : May := .join ⟨0, ENG_SBX_DENY.READS :: SYS_ACC_STAT.SHADOW_MISS :: SYS_ACC_STAT.fields, [], [], [.sys]⟩
  [Touch.monQPop, Touch.latchShadow, Touch.flagAcc]
@[simp] theorem within_busSide (m off : Nat) (hF : Φ.covers Touch.busSide = true) : (busSide m off).Within Φ σ := by
  simp [Touch.busSide] at hF
  obtain ⟨⟨⟨hreads, hmiss, hacc⟩, hsys⟩, hrest⟩ := hF
  simp only [busSide, within_dyn]
  (repeat' split) <;> simp [hreads, hmiss, hsys, hrest]
  exact within_forE_mem fun f hf t => by simpa using hacc f (List.mem_of_mem_tail hf)

@[simp] theorem within_busRead (m off : Nat) (hF : Φ.covers Touch.busSide = true) : (busRead m off).Within Φ σ := by simp [busRead, hF]

@[simp] theorem within_writeField (m i w : Nat) (f : Fld) (hF : Φ.covers Touch.setFieldIf = true) (hf : Φ.fld f = true) :
    (writeField m i w f).Within Φ σ := by
  simp only [writeField, within_dyn]
  split <;> simp [hF, hf]

@[simp] theorem within_writeFields (m i w : Nat) (fs : List Fld) (hF : Φ.covers Touch.setFieldIf = true) (hf : fs.all Φ.fld = true) :
    (writeFields m i w fs).Within Φ σ := by
  have hmem := List.all_eq_true.1 hf
  simp only [writeFields, within_seq_cons, within_seq_nil, and_true]
  exact ⟨within_forE_mem fun f h _ => within_writeField m i w f hF (hmem f (List.mem_filter.1 h).1),
    within_forE_mem fun f h _ => within_writeField m i w f hF (hmem f (List.mem_filter.1 h).1)⟩

@[simp] theorem within_bounded (m i w : Nat) (fs : List Fld) (bs : List Bound) (hF : Φ.covers Touch.setFieldIf = true) (hf : fs.all Φ.fld = true) :
    (bounded m i w fs bs).Within Φ σ := by
  have hfilter : ∀ p : Fld → Bool, (fs.filter p).all Φ.fld = true := fun p =>
    List.all_eq_true.2 fun f h => List.all_eq_true.1 hf f (List.mem_filter.1 h).1
  have hacc := hF
  simp [Touch.setFieldIf] at hacc
  simp only [bounded, within_dyn]
  split
  · simp [hF, hf]
  · simp only [within_seq_cons, within_seq_nil, and_true]
    exact ⟨by split <;> simp [hacc], within_writeFields m i w _ hF (hfilter _)⟩

@[simp] theorem within_joint (m i w : Nat) (fs : List Fld) (ok : State → Nat → Bool) (hF : Φ.covers Touch.setFieldIf = true) (hf : fs.all Φ.fld = true) :
    (joint m i w fs ok).Within Φ σ := within_bounded m i w fs _ hF hf

@[simp] theorem within_goes_iff (f : Fld) (w : Nat) (e : Eff) : (goes f w e).Within Φ σ ↔ (f.raw w = 1 → e.Within Φ σ) := by simp [goes]

def Touch.refuse : May := .join ⟨0, [SYS_ACC_STAT.RANGE], [], [], []⟩ [Touch.flagAcc]
@[simp] theorem within_refuse (m : Nat) (f : Fld) (i : Nat) (hF : Φ.covers Touch.refuse = true) : (refuse m f i).Within Φ σ := by
  simp [Touch.refuse] at hF
  simp [refuse, hF]

def Touch.outWrite : May := .join ⟨0, [], [], [], []⟩ [Touch.setFieldIf, Touch.refuse]
@[simp] theorem within_outWrite (m i : Nat) (fs rest : List Fld) (w hz width : Nat) (hF : Φ.covers Touch.outWrite = true) (hf : fs.all Φ.fld = true)
    (hr : rest.all Φ.fld = true) : (outWrite m i fs rest w hz width).Within Φ σ := by
  simp [Touch.outWrite] at hF
  simp only [outWrite, within_seq_cons, within_seq_nil, and_true]
  refine ⟨by simp [hF, hr], ?_⟩
  split
  · exact within_forE_mem fun f h _ => by simpa using List.all_eq_true.1 hf f h
  · split <;> simp [hF]

@[simp] theorem within_outWrite_nil (m i : Nat) (fs : List Fld) (w hz width : Nat) (hF : Φ.covers Touch.outWrite = true) (hf : fs.all Φ.fld = true) :
    (outWrite m i fs [] w hz width).Within Φ σ := within_outWrite m i fs [] w hz width hF hf rfl

/-! ### The registers of each block -/

def Touch.pinWrite : May := .join ⟨0, [ENG_SBX_GPIO.GPIO, SYS_GPIO_OUT.ALL], [], [], [.sys]⟩ [Touch.writePins]
@[simp] theorem within_pinWrite (m : Nat) (out : Bool) (w : Nat) (hF : Φ.covers Touch.pinWrite = true) : (pinWrite m out w).Within Φ σ := by
  simp [Touch.pinWrite] at hF
  simp only [pinWrite, within_dyn]
  (repeat' split) <;> simp [hF]

def Touch.sendPending : May := ⟨0, [MSIX_PBA.ALL], [], [], []⟩
@[simp] theorem within_sendPending (v : Nat) (hF : Φ.covers Touch.sendPending = true) : (sendPending v).Within Φ σ := by
  simp [Touch.sendPending] at hF
  simp only [sendPending, within_dyn]
  simp

def Touch.eqConsWrite : May := .join ⟨0, [SYS_EQ_CONS.ALL, SYS_EQ_PROD.ALL, SYS_EQ_STAT.LEVEL], [], [], []⟩ [Touch.setFieldIf]
@[simp] theorem within_eqConsWrite (m w : Nat) (hF : Φ.covers Touch.eqConsWrite = true) : (eqConsWrite m w).Within Φ σ := by
  simp [Touch.eqConsWrite] at hF
  simp only [eqConsWrite]
  simp [hF]

def Touch.lockSet : May := ⟨0, [SYS_LOCK.LOCK], [], [], []⟩
@[simp] theorem within_lockSet (w : Nat) (hF : Φ.covers Touch.lockSet = true) : (lockSet w).Within Φ σ := by
  simp [Touch.lockSet] at hF
  simp only [lockSet, within_dyn]
  simp [hF]

def Touch.writeSys : May := .join ⟨0, [], [], [], []⟩ [Touch.setFieldIf, Touch.pinWrite, Touch.sendPending, Touch.eqConsWrite, Touch.lockSet]
@[simp] theorem within_writeSys (m i w : Nat) (r : RegDef) (hF : Φ.covers Touch.writeSys = true) (hr : r.flds.all Φ.fld = true) : (writeSys m i w r).Within Φ σ := by
  simp [Touch.writeSys] at hF
  simp only [writeSys]
  (repeat' split) <;> simp [hF, hr]

def Touch.writeLtx : May := .join ⟨0, [LTX_BIAS_CTRL.FREQ, LTX_BIAS_CTRL.SWEEP, LTX_CTRL.MODE, LTX_CTRL.OTUC_N, LTX_CTRL.OUT_EN, LTX_CTRL.PRECOMP_CD_EN,
  LTX_LAS_CTRL.EN, LTX_LAS_CTRL.FTF, LTX_LAS_CTRL.POWER, LTX_LAS_CTRL.RESET, LTX_PLAN_CHG.CANCEL, LTX_PLAN_CHG.COMMIT, LTX_PLAN_HDR.PLAN_ID, LTX_SHAPE.KERF,
  LTX_SHAPE.ROLLOFF], [], [], [.ltx]⟩ [Touch.setFieldIf, Touch.setChk, Touch.ltxModeWrite, Touch.planChgCommit, Touch.planChgCancel, Touch.startSweep,
  Touch.judgeLock, Touch.setLasEn, Touch.lasFreqWrite, Touch.lasFtfWrite, Touch.lasReset, Touch.outEnWrite]
@[simp] theorem within_writeLtx (m i w : Nat) (r : RegDef) (hF : Φ.covers Touch.writeLtx = true) (hr : r.flds.all Φ.fld = true) : (writeLtx m i w r).Within Φ σ := by
  simp [Touch.writeLtx] at hF
  simp only [writeLtx, within_dyn]
  (repeat' split) <;> simp [hF, hr]

def Touch.writeLrx : May := .join ⟨0, [LRX_ADAPT_CFG.HITLESS, LRX_ADAPT_CFG.RX_EN, LRX_ADAPT_CFG.SLIP_CLR, LRX_ADAPT_CFG.TX_EN, LRX_ADAPT_MARGIN.FLOOR,
  LRX_ADAPT_MARGIN.GAMMA, LRX_ADAPT_MARGIN.LOW, LRX_ADAPT_MARGIN.TARGET, LRX_CD_CFG.D_FORCE, LRX_CTRL.MODE, LRX_CTRL.OTUC_N, LRX_CTRL.RX_EN,
  LRX_DFE_CFG.F_OFF, LRX_DFE_CFG.F_ON, LRX_Q_SNAP.TAKE, LRX_RESTART.GO, LRX_SHAPE.KERF, LRX_SHAPE.ROLLOFF], [], [], []⟩ [Touch.setFieldIf, Touch.syncFb,
  Touch.unfreezeCheck, Touch.lrxModeWrite, Touch.rxEnWrite, Touch.restartGo, Touch.lrxTake, Touch.clearSlips, Touch.setAdaptEn]
@[simp] theorem within_writeLrx (m i w : Nat) (r : RegDef) (hF : Φ.covers Touch.writeLrx = true) (hr : r.flds.all Φ.fld = true) : (writeLrx m i w r).Within Φ σ := by
  simp [Touch.writeLrx] at hF
  have hb := all_but hr
  simp only [writeLrx, within_dyn]
  (repeat' split) <;> simp [hF, hr, hb]

def Touch.writeCnv : May := .join ⟨0, [CNV_Q_SNAP.TAKE], [], [], []⟩ [Touch.setFieldIf, Touch.cnvTake]
@[simp] theorem within_writeCnv (m i w : Nat) (r : RegDef) (hF : Φ.covers Touch.writeCnv = true) (hr : r.flds.all Φ.fld = true) : (writeCnv m i w r).Within Φ σ := by
  simp [Touch.writeCnv] at hF
  simp only [writeCnv]
  (repeat' split) <;> simp [hF, hr]

def Touch.writeFec : May := .join ⟨0, [FEC_CTRL.CNT_CLR, FEC_DEG_CLR.EXP, FEC_DEG_CLR.MANT, FEC_DEG_SET.EXP, FEC_DEG_SET.MANT, FEC_DEG_SET.N, FEC_INJ.MODE,
  FEC_INJ.ONE_SHOT], [], [], []⟩ [Touch.setFieldIf, Touch.fecCntClr, Touch.oneShot, Touch.refuse]
@[simp] theorem within_writeFec (m i w : Nat) (r : RegDef) (hF : Φ.covers Touch.writeFec = true) (hr : r.flds.all Φ.fld = true) : (writeFec m i w r).Within Φ σ := by
  simp [Touch.writeFec] at hF
  have hb := all_but hr
  simp only [writeFec, within_dyn]
  (repeat' split) <;> simp [hF, hr, hb, FEC_DEG_CLR.fields, FEC_DEG_SET.fields]

def Touch.writeFrm : May := .join ⟨0, [FRM_CTRL.CNT_CLR, FRM_CTRL.RESYNC, FRM_OHC_ROUTE.CLIENT, FRM_OHC_ROUTE.RX_DEST, FRM_OHC_ROUTE.TX_SRC], [], [], []⟩
  [Touch.setFieldIf, Touch.judgeFill, Touch.dovetailRestart, Touch.frmCntClr]
@[simp] theorem within_writeFrm (m i w : Nat) (r : RegDef) (hF : Φ.covers Touch.writeFrm = true) (hr : r.flds.all Φ.fld = true) : (writeFrm m i w r).Within Φ σ := by
  simp [Touch.writeFrm] at hF
  simp only [writeFrm, within_dyn]
  (repeat' split) <;> simp [hF, hr]

def Touch.writeCli : May := .join ⟨0, [CLI_CH_CTRL.LOOP, CLI_CTRL.CNT_CLR], [], [], []⟩ [Touch.setFieldIf, Touch.setLoop, Touch.cliCntClr, Touch.refuse]
@[simp] theorem within_writeCli (m i w : Nat) (r : RegDef) (hF : Φ.covers Touch.writeCli = true) (hr : r.flds.all Φ.fld = true) : (writeCli m i w r).Within Φ σ := by
  simp [Touch.writeCli] at hF
  simp only [writeCli, within_dyn]
  (repeat' split) <;> simp [hF, hr]

def Touch.writeSrd : May := .join ⟨0, [SRD_CTRL.CNT_CLR, SRD_JIG_CFG.BURST, SRD_JIG_CFG.CHK_EN, SRD_JIG_CFG.CHK_PAT, SRD_JIG_CFG.GEN_EN,
  SRD_JIG_CFG.GEN_PAT, SRD_JIG_CFG.INJ, SRD_JIG_CFG.INJ_GO, SRD_JIG_CFG.RATE, SRD_LANE_CTRL.RETRAIN], [], [], []⟩ [Touch.setFieldIf, Touch.setJig,
  Touch.srdCntClr, Touch.retrain, Touch.injGoWrite, Touch.refuse]
@[simp] theorem within_writeSrd (m i w : Nat) (r : RegDef) (hF : Φ.covers Touch.writeSrd = true) (hr : r.flds.all Φ.fld = true) : (writeSrd m i w r).Within Φ σ := by
  simp [Touch.writeSrd] at hF
  simp only [writeSrd, within_dyn]
  (repeat' split) <;> simp [hF, hr, SRD_JIG_CFG.fields]

def Touch.writeVnr : May := .join ⟨0, [VNR_CH_BIND.PAGE, VNR_CTRL.CNT_CLR, VNR_CTRL.PROT_MODE, VNR_CTRL.REARM, VNR_PAGE_CFG.INLINE], [], [], []⟩
  [Touch.setFieldIf, Touch.vnrCntClr, Touch.rearmWrite, Touch.protModeWrite]
@[simp] theorem within_writeVnr (m i w : Nat) (r : RegDef) (hF : Φ.covers Touch.writeVnr = true) (hr : r.flds.all Φ.fld = true) : (writeVnr m i w r).Within Φ σ := by
  simp [Touch.writeVnr] at hF
  have hb := all_but hr
  simp only [writeVnr, within_dyn]
  (repeat' split) <;> simp [hF, hr, hb]

def Touch.writeScr : May := .join ⟨0, [SCR_CFG.FREQ, SCR_CTRL.CNT_CLR, SCR_CTRL.EN, SCR_CTRL.RESTART, SCR_KEY_PAGES.ALL], [], [], []⟩ [Touch.setFieldIf,
  Touch.scrRestart, Touch.scrCntClr, Touch.scrEnWrite]
@[simp] theorem within_writeScr (m i w : Nat) (r : RegDef) (hF : Φ.covers Touch.writeScr = true) (hr : r.flds.all Φ.fld = true) : (writeScr m i w r).Within Φ σ := by
  simp [Touch.writeScr] at hF
  have hb := all_but hr
  simp only [writeScr, within_dyn]
  (repeat' split) <;> simp [hF, hr, hb]

def Touch.writeRef : May := .join ⟨0, [REF_CAND_CFG.LANE, REF_CAND_FHZ.HZ, REF_DPLL_CFG.ACQ_BW, REF_DPLL_CFG.BW, REF_DPLL_CFG.LOCK_THR, REF_MON_CFG.ACCEPT,
  REF_MON_CFG.RATE, REF_MON_CFG.REJECT, REF_OUT_CFG.WIDTH, REF_OUT_FHZ.HZ], [], [], []⟩ [Touch.setFieldIf, Touch.refEval, Touch.candFreqWrite, Touch.outWrite]
@[simp] theorem within_writeRef (m i w : Nat) (r : RegDef) (hF : Φ.covers Touch.writeRef = true) (hr : r.flds.all Φ.fld = true) : (writeRef m i w r).Within Φ σ := by
  simp [Touch.writeRef] at hF
  have hb := all_but hr
  simp only [writeRef, within_dyn]
  (repeat' split) <;> simp [hF, hr, hb]

def Touch.writeTod : May := .join ⟨0, [TOD_CTRL.CNT_CLR, TOD_CTRL.LATCH], [], [], []⟩ [Touch.setFieldIf, Touch.syncPorts, Touch.todLatch, Touch.todCntClr]
@[simp] theorem within_writeTod (m i w : Nat) (r : RegDef) (hF : Φ.covers Touch.writeTod = true) (hr : r.flds.all Φ.fld = true) : (writeTod m i w r).Within Φ σ := by
  simp [Touch.writeTod] at hF
  simp only [writeTod]
  (repeat' split) <;> simp [hF, hr]

def Touch.writePair : May := .join ⟨0, [PAIR_CTRL.CNT_CLR], [], [], []⟩ [Touch.setFieldIf, Touch.pairEnSync, Touch.pairCntClr, Touch.joinPair]
@[simp] theorem within_writePair (m i w : Nat) (r : RegDef) (hF : Φ.covers Touch.writePair = true) (hr : r.flds.all Φ.fld = true) : (writePair m i w r).Within Φ σ := by
  simp [Touch.writePair] at hF
  simp only [writePair]
  simp [hF, hr]

def Touch.writeMon : May := .join ⟨0, [MON_CTRL.CNT_CLR, MON_CTRL.EN0, MON_CTRL.EN1, MON_CTRL.INTERLEAVE, MON_TRIG.PW_MAX, MON_TRIG.PW_MIN, MON_TRIG.SRC],
  [], [], []⟩ [Touch.setFieldIf, Touch.chainChanged, Touch.monStart, Touch.monCntClr, Touch.interleaveWrite]
@[simp] theorem within_writeMon (m i w : Nat) (r : RegDef) (hF : Φ.covers Touch.writeMon = true) (hr : r.flds.all Φ.fld = true) : (writeMon m i w r).Within Φ σ := by
  simp [Touch.writeMon] at hF
  simp only [writeMon, within_dyn]
  (repeat' split) <;> simp [hF, hr]

def Touch.writeObs : May := .join ⟨0, [OBS_CAP_CFG.SOFT_GB, OBS_CAP_POST.RAW_POST, OBS_CAP_POST.SOFT_POST, OBS_CTRL.BW_CLR, OBS_CTRL.CNT_CLR,
  OBS_PRESET_CTRL.GO, OBS_PRESET_CTRL.INDEX, OBS_SNAP.TAKE, OBS_SNAP.GEN], [], [], [.bank, .obs]⟩ [Touch.setFieldIf, Touch.capWrite, Touch.setDrivesOk,
  Touch.bwClear, Touch.refuse]
@[simp] theorem within_writeObs (m i w : Nat) (r : RegDef) (hF : Φ.covers Touch.writeObs = true) (hr : r.flds.all Φ.fld = true) (hc : ∀ j, Φ.cnt j = true) : (writeObs m i w r).Within Φ σ := by
  simp [Touch.writeObs] at hF
  simp only [writeObs, within_dyn]
  (repeat' split) <;> simp [hF, hr, hc]

def Touch.writeEng : May := .join ⟨0, [ENG_SBX_CFG.HBM_GB], [], [], []⟩ [Touch.setFieldIf]
@[simp] theorem within_writeEng (m i w : Nat) (r : RegDef) (hF : Φ.covers Touch.writeEng = true) (hr : r.flds.all Φ.fld = true) : (writeEng m i w r).Within Φ σ := by
  simp [Touch.writeEng] at hF
  have hb := all_but hr
  simp only [writeEng, within_dyn]
  (repeat' split) <;> simp [hF, hr, hb]

def Touch.writePwr : May := .join ⟨0, [PWR_THERM_CFG.CRIT, PWR_THERM_CFG.HYST, PWR_THERM_CFG.WARN], [], [], []⟩ [Touch.setFieldIf]
@[simp] theorem within_writePwr (m i w : Nat) (r : RegDef) (hF : Φ.covers Touch.writePwr = true) (hr : r.flds.all Φ.fld = true) : (writePwr m i w r).Within Φ σ := by
  simp [Touch.writePwr] at hF
  simp only [writePwr]
  (repeat' split) <;> simp [hF, hr]

def Touch.writeCmd : May := .join ⟨0, [CMD_BAT_CFG.RESTART, CMD_DB.PROD], [], [], []⟩ [Touch.setFieldIf, Touch.doorbell, Touch.restartEnum]
@[simp] theorem within_writeCmd (m i w : Nat) (r : RegDef) (hF : Φ.covers Touch.writeCmd = true) (hr : r.flds.all Φ.fld = true) : (writeCmd m i w r).Within Φ σ := by
  simp [Touch.writeCmd] at hF
  simp only [writeCmd]
  (repeat' split) <;> simp [hF, hr]

end

end Sys2Proof.Machine

/-!
Bus writes, the table of opcodes, the interpreter's intake and the mate's changes, within a footprint of every field that a key tells (`Foot.Wide`).
-/
namespace Sys2Proof.Machine
open Sys2Proof

-- The proofs below evaluate in the kernel, which each waits for the one before it: one thread serves them all.
set_option Elab.async false

/-- Whether the fields of a `May` and the status registers of its events are such as a key tells. -/
def May.keyed (m : May) : Bool := m.flds.all (fun f => decide (f.width < 128)) && m.evs.all (fun e => decide (e.stat.width < 128))

theorem Foot.Wide.covers {Φ : Foot} (hw : Φ.Wide) {m : May} (h : m.keyed = true) : Φ.covers m = true := by
  simp only [May.keyed, Bool.and_eq_true, List.all_eq_true, decide_eq_true_eq] at h
  simp only [Foot.covers, Bool.and_eq_true, List.all_eq_true]
  refine ⟨⟨⟨fun f hf => hw.fld f (h.1 f hf), fun e he => ?_⟩, fun r _ => ?_⟩, fun c _ => hw.has c⟩
  · simp [Foot.ev, hw.cnt, hw.fld _ (h.2 e he)]
  · simp [Foot.cnts, hw.cnt]

section
variable {Φ : Foot} {σ : State} (hw : Φ.Wide)
include hw

/-! ### Bus writes -/

theorem within_writeBlock (m i w : Nat) (r : RegDef) (hr : r.flds.all Φ.fld = true) : (writeBlock m i w r).Within Φ σ := by
  have hfs : Φ.covers Touch.setFieldIf = true := hw.covers (by decide +kernel)
  have hsys := fun s => within_writeSys (σ := s) m i w r (hw.covers (by decide +kernel)) hr
  have hltx := fun s => within_writeLtx (σ := s) m i w r (hw.covers (by decide +kernel)) hr
  have hlrx := fun s => within_writeLrx (σ := s) m i w r (hw.covers (by decide +kernel)) hr
  have hcnv := fun s => within_writeCnv (σ := s) m i w r (hw.covers (by decide +kernel)) hr
  have hfec := fun s => within_writeFec (σ := s) m i w r (hw.covers (by decide +kernel)) hr
  have hfrm := fun s => within_writeFrm (σ := s) m i w r (hw.covers (by decide +kernel)) hr
  have hcli := fun s => within_writeCli (σ := s) m i w r (hw.covers (by decide +kernel)) hr
  have hsrd := fun s => within_writeSrd (σ := s) m i w r (hw.covers (by decide +kernel)) hr
  have hvnr := fun s => within_writeVnr (σ := s) m i w r (hw.covers (by decide +kernel)) hr
  have hscr := fun s => within_writeScr (σ := s) m i w r (hw.covers (by decide +kernel)) hr
  have href := fun s => within_writeRef (σ := s) m i w r (hw.covers (by decide +kernel)) hr
  have htod := fun s => within_writeTod (σ := s) m i w r (hw.covers (by decide +kernel)) hr
  have hpair := fun s => within_writePair (σ := s) m i w r (hw.covers (by decide +kernel)) hr
  have hmon := fun s => within_writeMon (σ := s) m i w r (hw.covers (by decide +kernel)) hr
  have hobs := fun s => within_writeObs (σ := s) m i w r (hw.covers (by decide +kernel)) hr hw.cnt
  have heng := fun s => within_writeEng (σ := s) m i w r (hw.covers (by decide +kernel)) hr
  have hpwr := fun s => within_writePwr (σ := s) m i w r (hw.covers (by decide +kernel)) hr
  have hcmd := fun s => within_writeCmd (σ := s) m i w r (hw.covers (by decide +kernel)) hr
  unfold writeBlock
  (repeat' split) <;> simp [hfs, hr, hsys, hltx, hlrx, hcnv, hfec, hfrm, hcli, hsrd, hvnr, hscr, href, htod, hpair, hmon, hobs, heng, hpwr, hcmd]

theorem within_writeReg (m : Nat) (r : RegDef) (i w : Nat) (hr : r.flds.all Φ.fld = true) : (writeReg m r i w).Within Φ σ := by
  have hflag : Φ.covers Touch.flagAcc = true := hw.covers (by decide +kernel)
  have hlog : Φ.covers Touch.logWrite = true := hw.covers (by decide +kernel)
  have hblock := fun s => within_writeBlock (σ := s) hw m i w r hr
  have hacc : ∀ f ∈ [SYS_ACC_STAT.RANGE, SYS_ACC_STAT.UNMAPPED, ENG_SBX_DENY.WRITES], Φ.fld f = true := fun f hf =>
    hw.fld f (by revert f; decide)
  simp only [List.forall_mem_cons] at hacc
  simp only [writeReg, within_dyn]
  (repeat' split) <;> simp [hflag, hlog, hblock, hacc]

theorem within_highWrite (m : Nat) (r : RegDef) (i w : Nat) (hr : r.flds.all Φ.fld = true) : (highWrite m r i w).Within Φ σ := by
  have hflag : Φ.covers Touch.flagAcc = true := hw.covers (by decide +kernel)
  have hreg := fun v s => within_writeReg (σ := s) hw m r i v hr
  have hmiss := hw.fld SYS_ACC_STAT.SHADOW_MISS (by decide)
  simp only [highWrite, within_dyn]
  (repeat' split) <;> simp [hflag, hreg, hmiss, hw.has]

theorem within_aliasWrite (m : Nat) (set : Bool) (off w : Nat) : (aliasWrite m set off w).Within Φ σ := by
  have hflag : Φ.covers Touch.flagAcc = true := hw.covers (by decide +kernel)
  have hun := hw.fld SYS_ACC_STAT.UNMAPPED (by decide)
  simp only [aliasWrite, within_dyn]
  split
  · simp [hflag, hun]
  next r i hfind =>
    split
    · simp [hflag, hun]
    · exact within_writeReg hw m r i _ (hw.flds hfind)

theorem within_oneError (m off : Nat) (e : Eff) (he : ∀ t, e.Within Φ t) : (oneError m off e).Within Φ σ := by
  have herr := hw.fld SYS_ACC_STAT.ERRORS (by decide)
  simp [oneError, he, herr, hw.has]

@[simp] theorem within_busWrite (m off w : Nat) : (busWrite m off w).Within Φ σ := by
  have hflag : Φ.covers Touch.flagAcc = true := hw.covers (by decide +kernel)
  have hun := hw.fld SYS_ACC_STAT.UNMAPPED (by decide)
  have hdeny := hw.fld ENG_SBX_DENY.WRITES (by decide)
  refine within_oneError hw m off _ fun t => ?_
  split
  · exact within_aliasWrite hw m _ _ w
  · split
    · split <;> simp [hflag, hun, hdeny]
    next r i hfind =>
      have hreg := fun v s => within_writeReg (σ := s) hw m r i v (hw.flds hfind)
      have hhigh := fun s => within_highWrite (σ := s) hw m r i w (hw.flds hfind)
      simp [hreg, hhigh, stageLow, hw.has]

/-! ### The table of opcodes -/

theorem allows_regEntries (n : Nat) (p : List Nat) (s : State) : ∀ u ∈ (regEntries n p s).1, Φ.allows u := by
  have hside : Φ.covers Touch.busSide = true := hw.covers (by decide +kernel)
  have hclear : ∀ t, (forE accFlags (fun f => put f 0 2)).Within Φ t := fun t => within_forE_mem fun f hf _ => by
    simpa using hw.fld f (by revert f; decide)
  induction n generalizing p s with
  | zero => simp [regEntries]
  | succ n ih =>
    intro u hu
    simp only [regEntries, List.mem_append] at hu
    rcases hu with (hu | hu) | hu
    · exact hclear s u hu
    · split at hu
      · exact within_busSide 2 _ hside u hu
      · exact within_busWrite hw 2 _ _ u hu
    · exact ih _ _ u hu

theorem within_opSysRegAccess (h : CmdHdr) (p : List Nat) (s : State) : (opSysRegAccess.body h p s).Within Φ := by
  simp only [opSysRegAccess]
  split
  · simp
  · exact (ans_within_okP _ _).2 fun _ => allows_regEntries hw _ p s

theorem within_freely (o : OpDef) (f : State → OpDef) (h : CmdHdr) (p : List Nat) (s : State) (hf : ((f s).body h p s).Within Φ) :
    ((freely o f).body h p s).Within Φ := by
  obtain ⟨he, hafter⟩ := hf
  simp [freely, he, hafter, hw.has]

theorem within_opsClass1 : ∀ o ∈ opsClass1, ∀ h p s, (o.body h p s).Within Φ := by
  simp only [opsClass1, List.forall_mem_cons]
  exact ⟨fun h p s => within_opIdentify h p s,
    fun h p s => within_opStatus h p s,
    fun h p s => within_opSysStateSet h p s (hw.covers (by decide +kernel)),
    fun h p s => within_opSysSessionOpen h p s (hw.covers (by decide +kernel)),
    fun h p s => within_opSysSessionClose h p s (hw.covers (by decide +kernel)),
    fun h p s => within_opSysSlotRelease h p s (hw.covers (by decide +kernel)),
    fun h p s => within_opSysRegAccess hw h p s,
    fun h p s => within_opBattenStatus h p s, List.forall_mem_nil _⟩

theorem within_opsClass2 : ∀ o ∈ opsClass2, ∀ h p s, (o.body h p s).Within Φ := by
  simp only [opsClass2, List.forall_mem_cons]
  exact ⟨fun h p s => within_opLtxModeSet h p s (hw.covers (by decide +kernel)),
    fun h p s => within_opLtxPlanLoad h p s (hw.covers (by decide +kernel)),
    fun h p s => within_opLtxPlanCommit h p s (hw.covers (by decide +kernel)),
    fun h p s => within_opLtxPlanCancel h p s (hw.covers (by decide +kernel)),
    fun h p s => within_opLtxPlanGet h p s,
    fun h p s => within_opLtxBiasCtrl h p s (hw.covers (by decide +kernel)),
    fun h p s => within_opLtxLaserSet h p s (hw.covers (by decide +kernel)),
    fun h p s => within_opLtxLaserStatus h p s,
    fun h p s => within_opLtxOutput h p s (hw.covers (by decide +kernel)), List.forall_mem_nil _⟩

theorem within_opsClass3 : ∀ o ∈ opsClass3, ∀ h p s, (o.body h p s).Within Φ := by
  simp only [opsClass3, List.forall_mem_cons]
  exact ⟨fun h p s => within_opLrxModeSet h p s (hw.covers (by decide +kernel)),
    fun h p s => within_opLrxEnable h p s (hw.covers (by decide +kernel)),
    fun h p s => within_opLrxAcqCfg h p s (hw.covers (by decide +kernel)),
    fun h p s => within_opLrxEqCfg h p s (hw.covers (by decide +kernel)),
    fun h p s => within_opLrxFreeze h p s (hw.covers (by decide +kernel)),
    fun h p s => within_opLrxRestart h p s (hw.covers (by decide +kernel)),
    fun h p s => within_opLrxStatus h p s,
    fun h p s => within_opLrxTapsGet h p s,
    fun h p s => within_opLrxQuality h p s (hw.covers (by decide +kernel)),
    fun h p s => within_opLrxCrSet h p s (hw.covers (by decide +kernel)),
    fun h p s => within_opLrxAdaptSet h p s (hw.covers (by decide +kernel)),
    fun h p s => within_opLrxRplanLoad h p s (hw.covers (by decide +kernel)),
    fun h p s => within_opLrxRplanGet h p s,
    fun h p s => within_opLrxAdaptNow h p s (hw.covers (by decide +kernel)), List.forall_mem_nil _⟩

theorem within_opsClass4 : ∀ o ∈ opsClass4, ∀ h p s, (o.body h p s).Within Φ := by
  simp only [opsClass4, List.forall_mem_cons]
  exact ⟨fun h p s => within_opCalStatus h p s,
    fun h p s => within_opCalBgSet h p s (hw.covers (by decide +kernel)),
    fun h p s => within_opCalRefSet h p s (hw.covers (by decide +kernel)),
    fun h p s => within_freely hw _ _ h p s (within_opCalRun _ _ h p s (hw.covers (by decide +kernel))),
    fun h p s => within_opCalAbort h p s (hw.covers (by decide +kernel)),
    fun h p s => within_freely hw _ _ h p s (within_opCalCommit _ h p s (hw.covers (by decide +kernel))),
    fun h p s => within_opCalExport h p s (hw.covers (by decide +kernel)),
    fun h p s => within_opCalLoad h p s (hw.covers (by decide +kernel)),
    fun h p s => within_opCalQuality h p s (hw.covers (by decide +kernel)),
    fun h p s => within_freely hw _ _ h p s (within_opCalSlice _ h p s (hw.covers (by decide +kernel))), List.forall_mem_nil _⟩

theorem within_opsClass5 : ∀ o ∈ opsClass5, ∀ h p s, (o.body h p s).Within Φ := by
  simp only [opsClass5, List.forall_mem_cons]
  exact ⟨fun h p s => within_opFecCfg h p s (hw.covers (by decide +kernel)),
    fun h p s => within_opFecStatus h p s,
    fun h p s => within_opFecCounters h p s (hw.covers (by decide +kernel)),
    fun h p s => within_opFecInject h p s (hw.covers (by decide +kernel)),
    fun h p s => within_opFecGeometry h p s, List.forall_mem_nil _⟩

theorem within_opsClass6 : ∀ o ∈ opsClass6, ∀ h p s, (o.body h p s).Within Φ := by
  simp only [opsClass6, List.forall_mem_cons]
  exact ⟨fun h p s => within_opFrmCfg h p s (hw.covers (by decide +kernel)),
    fun h p s => within_opFrmStatus h p s,
    fun h p s => within_opFrmPmGet h p s,
    fun h p s => within_opFrmTtiSet h p s (hw.covers (by decide +kernel)),
    fun h p s => within_opFrmTtiGet h p s,
    fun h p s => within_opFrmOhcCfg h p s (hw.covers (by decide +kernel)),
    fun h p s => within_opFrmOhcXfer h p s (hw.covers (by decide +kernel)), List.forall_mem_nil _⟩

theorem within_opsClass7 : ∀ o ∈ opsClass7, ∀ h p s, (o.body h p s).Within Φ := by
  simp only [opsClass7, List.forall_mem_cons]
  exact ⟨fun h p s => within_opCliAdd h p s (hw.covers (by decide +kernel)),
    fun h p s => within_opCliRemove h p s (hw.covers (by decide +kernel)),
    fun h p s => within_opCliMove h p s (hw.covers (by decide +kernel)),
    fun h p s => within_opCliMoveCancel h p s (hw.covers (by decide +kernel)),
    fun h p s => within_opCliStatus h p s,
    fun h p s => within_opCliCounters h p s (hw.covers (by decide +kernel)),
    fun h p s => within_opCliTsCfg h p s (hw.covers (by decide +kernel)),
    fun h p s => within_opCliLoop h p s (hw.covers (by decide +kernel)),
    fun h p s => within_opCliSlotMap h p s, List.forall_mem_nil _⟩

theorem within_opsClass8 : ∀ o ∈ opsClass8, ∀ h p s, (o.body h p s).Within Φ := by
  simp only [opsClass8, List.forall_mem_cons]
  exact ⟨fun h p s => within_opSrdLaneSet h p s (hw.covers (by decide +kernel)),
    fun h p s => within_opSrdStatus h p s,
    fun h p s => within_opSrdEyeScan h p s (hw.covers (by decide +kernel)),
    fun h p s => within_opSrdJigSet h p s (hw.covers (by decide +kernel)),
    fun h p s => within_opSrdJigGet h p s (hw.covers (by decide +kernel)), List.forall_mem_nil _⟩

theorem within_opsClass9 : ∀ o ∈ opsClass9, ∀ h p s, (o.body h p s).Within Φ := by
  simp only [opsClass9, List.forall_mem_cons]
  exact ⟨fun h p s => within_opVnrCfg h p s (hw.covers (by decide +kernel)),
    fun h p s => within_opVnrStatus h p s,
    fun h p s => within_opVnrPageSet h p s (hw.covers (by decide +kernel)),
    fun h p s => within_opVnrKeyLoad h p s (hw.covers (by decide +kernel)),
    fun h p s => within_opVnrKeySwitch h p s (hw.covers (by decide +kernel)),
    fun h p s => within_opVnrKeyErase h p s (hw.covers (by decide +kernel)),
    fun h p s => within_opVnrBind h p s (hw.covers (by decide +kernel)),
    fun h p s => within_opVnrLa h p s (hw.covers (by decide +kernel)),
    fun h p s => within_opVnrCounters h p s (hw.covers (by decide +kernel)),
    fun h p s => within_opVnrRearm h p s (hw.covers (by decide +kernel)), List.forall_mem_nil _⟩

theorem within_opsClass10 : ∀ o ∈ opsClass10, ∀ h p s, (o.body h p s).Within Φ := by
  simp only [opsClass10, List.forall_mem_cons]
  exact ⟨fun h p s => within_opScrCfgSet h p s (hw.covers (by decide +kernel)),
    fun h p s => within_opScrTrust h p s (hw.covers (by decide +kernel)),
    fun h p s => within_opScrStatus h p s,
    fun h p s => within_opScrPeers h p s,
    fun h p s => within_opScrRestart h p s (hw.covers (by decide +kernel)), List.forall_mem_nil _⟩

theorem within_opsClass11 : ∀ o ∈ opsClass11, ∀ h p s, (o.body h p s).Within Φ := by
  simp only [opsClass11, List.forall_mem_cons]
  exact ⟨fun h p s => within_opRefCfg h p s (hw.covers (by decide +kernel)),
    fun h p s => within_opRefCandSet h p s (hw.covers (by decide +kernel)),
    fun h p s => within_opRefSelect h p s (hw.covers (by decide +kernel)),
    fun h p s => within_opRefStatus h p s,
    fun h p s => within_opRefOutSet h p s (hw.covers (by decide +kernel)),
    fun h p s => within_opRefRealign h p s (hw.covers (by decide +kernel)), List.forall_mem_nil _⟩

theorem within_opsClass12 : ∀ o ∈ opsClass12, ∀ h p s, (o.body h p s).Within Φ := by
  simp only [opsClass12, List.forall_mem_cons]
  exact ⟨fun h p s => within_opTodGet h p s,
    fun h p s => within_opTodStep h p s (hw.covers (by decide +kernel)),
    fun h p s => within_opTodRearm h p s (hw.covers (by decide +kernel)),
    fun h p s => within_opTodRateSet h p s (hw.covers (by decide +kernel)),
    fun h p s => within_opPtpCfg h p s (hw.covers (by decide +kernel)),
    fun h p s => within_opPtpPortSet h p s (hw.covers (by decide +kernel)),
    fun h p s => within_opPtpStatus h p s,
    fun h p s => within_opLineDelay h p s,
    fun h p s => within_opAsymAccept h p s (hw.covers (by decide +kernel)),
    fun h p s => within_opSchedSet h p s (hw.covers (by decide +kernel)),
    fun h p s => within_opSchedCancel h p s (hw.covers (by decide +kernel)), List.forall_mem_nil _⟩

theorem within_opsClass13 : ∀ o ∈ opsClass13, ∀ h p s, (o.body h p s).Within Φ := by
  simp only [opsClass13, List.forall_mem_cons]
  exact ⟨fun h p s => within_opPairCfg h p s (hw.covers (by decide +kernel)),
    fun h p s => within_opPairStatus h p s,
    fun h p s => within_opPairSwitch h p s (hw.covers (by decide +kernel)),
    fun h p s => within_opPairPromote h p s (hw.covers (by decide +kernel)),
    fun h p s => within_opPairOos h p s (hw.covers (by decide +kernel)),
    fun h p s => within_opPairReturn h p s (hw.covers (by decide +kernel)),
    fun h p s => within_opPairSnapshot h p s (hw.covers (by decide +kernel)),
    fun h p s => within_opPairSpares h p s, List.forall_mem_nil _⟩

theorem within_opsClass14 : ∀ o ∈ opsClass14, ∀ h p s, (o.body h p s).Within Φ := by
  simp only [opsClass14, List.forall_mem_cons]
  exact ⟨fun h p s => within_opMonCfg h p s (hw.covers (by decide +kernel)),
    fun h p s => within_opMonStart h p s (hw.covers (by decide +kernel)),
    fun h p s => within_opMonRead h p s (hw.covers (by decide +kernel)),
    fun h p s => within_opMonTrigger h p s (hw.covers (by decide +kernel)),
    fun h p s => within_opMonSyscal h p s (hw.covers (by decide +kernel)),
    fun h p s => within_opMonStatus h p s, List.forall_mem_nil _⟩

theorem within_opsClass15 : ∀ o ∈ opsClass15, ∀ h p s, (o.body h p s).Within Φ := by
  simp only [opsClass15, List.forall_mem_cons]
  exact ⟨fun h p s => within_opObsSnapshot h p s (hw.covers (by decide +kernel)),
    fun h p s => within_opObsCntRead h p s (hw.covers (by decide +kernel)),
    fun h p s => within_opObsCntPreset h p s hw.cnt,
    fun h p s => within_opObsEvtRoute h p s (hw.covers (by decide +kernel)),
    fun h p s => within_opObsDumpCfg h p s (hw.covers (by decide +kernel)),
    fun h p s => within_opObsBwCfg h p s (hw.covers (by decide +kernel)),
    fun h p s => within_opCapCfg h p s (hw.covers (by decide +kernel)),
    fun h p s => within_opCapTrigger h p s (hw.covers (by decide +kernel)),
    fun h p s => within_opCapRead h p s (hw.covers (by decide +kernel)),
    fun h p s => within_opCapRearm h p s (hw.covers (by decide +kernel)),
    fun h p s => within_opRecCfg h p s (hw.covers (by decide +kernel)),
    fun h p s => within_opRecRead h p s (hw.covers (by decide +kernel)),
    fun h p s => within_opRecHold h p s (hw.covers (by decide +kernel)),
    fun h p s => within_opRecStatus h p s, List.forall_mem_nil _⟩

theorem within_opsClass16 : ∀ o ∈ opsClass16, ∀ h p s, (o.body h p s).Within Φ := by
  simp only [opsClass16, List.forall_mem_cons]
  exact ⟨fun h p s => within_opEngStatus h p s,
    fun h p s => within_opEngCfg h p s (hw.covers (by decide +kernel)),
    fun h p s => within_opFwStage h p s (hw.covers (by decide +kernel)),
    fun h p s => within_opFwActivate h p s (hw.covers (by decide +kernel)),
    fun h p s => within_opFwCommit h p s (hw.covers (by decide +kernel)),
    fun h p s => within_opSbxLoad h p s (hw.covers (by decide +kernel)),
    fun h p s => within_opSbxCtrl h p s (hw.covers (by decide +kernel)),
    fun h p s => within_opSbxMsg 0 [] h p s (hw.covers (by decide +kernel)), List.forall_mem_nil _⟩

theorem within_opsClass17 : ∀ o ∈ opsClass17, ∀ h p s, (o.body h p s).Within Φ := by
  simp only [opsClass17, List.forall_mem_cons]
  exact ⟨fun h p s => within_opSecStatus h p s,
    fun h p s => within_opSecCerts h p s,
    fun h p s => within_opAttest h p s (hw.covers (by decide +kernel)),
    fun h p s => within_opSecSessionKey h p s (hw.covers (by decide +kernel)),
    fun h p s => within_opSecNonce h p s (hw.covers (by decide +kernel)),
    fun h p s => within_opSecLifecycle h p s (hw.covers (by decide +kernel)),
    fun h p s => within_opSecCustkey h p s (hw.covers (by decide +kernel)),
    fun h p s => within_opSecReset h p s (hw.covers (by decide +kernel)), List.forall_mem_nil _⟩

theorem within_opsClass18 : ∀ o ∈ opsClass18, ∀ h p s, (o.body h p s).Within Φ := by
  simp only [opsClass18, List.forall_mem_cons]
  exact ⟨fun h p s => within_opPwrStateSet h p s (hw.covers (by decide +kernel)),
    fun h p s => within_opPwrStatus h p s,
    fun h p s => within_opPwrCfg h p s (hw.covers (by decide +kernel)), List.forall_mem_nil _⟩

/-- What a command of the table answers lies within it. -/
theorem within_opTable : ∀ o ∈ opTable, ∀ h p s, (o.body h p s).Within Φ := by
  simp only [opTable, List.forall_mem_append]
  exact ⟨⟨⟨⟨⟨⟨⟨⟨⟨⟨⟨⟨⟨⟨⟨⟨⟨within_opsClass1 hw, within_opsClass2 hw⟩, within_opsClass3 hw⟩, within_opsClass4 hw⟩, within_opsClass5 hw⟩, within_opsClass6 hw⟩, within_opsClass7 hw⟩, within_opsClass8 hw⟩, within_opsClass9 hw⟩, within_opsClass10 hw⟩, within_opsClass11 hw⟩, within_opsClass12 hw⟩, within_opsClass13 hw⟩, within_opsClass14 hw⟩, within_opsClass15 hw⟩, within_opsClass16 hw⟩, within_opsClass17 hw⟩, within_opsClass18 hw⟩

theorem within_of_find {op : OpDef} {k : Nat} (hf : opTable.find? (fun o => o.code == k) = some op) (h : CmdHdr) (p : List Nat) (s : State) :
    (op.body h p s).Within Φ := within_opTable hw op (List.mem_of_find?_eq_some hf) h p s

/-! ### The interpreter's intake -/

@[simp] theorem within_acceptNew (op : Nat) (h : CmdHdr) (p : List Nat) : (acceptNew op h p).Within Φ σ := by
  have hreply : Φ.covers Touch.replyTo = true := hw.covers (by decide +kernel)
  simp only [acceptNew, within_dyn]
  split
  · simp
  · split
    · simp [hreply]
    · split
      · simp [hreply]
      next o hfind => exact within_felwinN o h p (hw.covers (by decide +kernel)) fun s => within_of_find hw hfind h p s

@[simp] theorem within_acceptCmd (ring : Fin 4) (ws : List Nat) : (acceptCmd ring ws).Within Φ σ := by
  have hsend : Φ.covers Touch.sendReply = true := hw.covers (by decide +kernel)
  have hdrop := hw.fld CMD_CRC_DROP.ALL (by decide)
  have hnew := fun op h p s => within_acceptNew (σ := s) hw op h p
  simp only [acceptCmd, within_dyn]
  (repeat' split) <;> simp [hsend, hdrop, hnew]

/-! ### Changes the mate sends -/

@[simp] theorem within_releaseWait : releaseWait.Within Φ σ := by
  have hreply : Φ.covers Touch.actAndReply = true := hw.covers (by decide +kernel)
  simp only [releaseWait, within_dyn]
  split
  · simp
  · simp only [within_seq_cons, within_dyn, within_seq_nil, and_true]
    refine ⟨by simp [Foot.allows, hw.has], ?_⟩
    split
    · simp
    next o hfind => exact within_actAndReply _ _ hreply (ans_within_answer (within_of_find hw hfind _ _ _))

@[simp] theorem within_takeValue (off w : Nat) : (takeValue off w).Within Φ σ := by
  unfold takeValue
  split
  · simp
  next r i hfind =>
    simp only [within_dyn, within_whenE]
    exact fun _ => within_forE_mem fun f hf _ => by simpa using List.all_eq_true.1 (hw.flds hfind) f hf

@[simp] theorem within_applyGlue (g : Glue) : (applyGlue g).Within Φ σ := by
  have hkey : Φ.covers Touch.keyEnters = true := hw.covers (by decide +kernel)
  have hgen : Φ.covers Touch.modGen = true := hw.covers (by decide +kernel)
  have hback : Φ.covers Touch.startBackoff = true := hw.covers (by decide +kernel)
  cases g
  case command code par =>
    simp only [applyGlue, within_dyn]
    split
    · simp
    next o hfind =>
      obtain ⟨he, hafter⟩ := within_of_find hw hfind mateHdr (par.map (·.toNat)) σ
      simp [he, hafter]
  case write off w => exact within_busWrite hw _ _ _
  case value off w => exact within_takeValue hw _ _
  all_goals simp [applyGlue, hkey, hgen, hback, hw.has]

@[simp] theorem within_drainHeld (n : Nat) : (drainHeld n).Within Φ σ := by
  have hglue := fun g s => within_applyGlue (σ := s) hw g
  have hseq := hw.fld PAIR_JSEQ.ALL (by decide)
  induction n generalizing σ with
  | zero => simp [drainHeld]
  | succ n ih =>
    simp only [drainHeld, within_dyn]
    split <;> simp [hglue, hseq, ih, Foot.allows, hw.has]

@[simp] theorem within_takeSnapshot (x : Snapshot) : (takeSnapshot x).Within Φ σ := by
  have hglue := fun g s => within_applyGlue (σ := s) hw g
  have hdrain := fun n s => within_drainHeld (σ := s) hw n
  have hsync : Φ.covers Touch.trySync = true := hw.covers (by decide +kernel)
  have hown : Φ.covers ⟨0, [PAIR_EPOCH.ALL, PAIR_JSEQ.ALL, LTX_SF_NUM.ALL], [EV.PAIR_SYNCED], [], []⟩ = true := hw.covers (by decide +kernel)
  simp at hown
  simp [takeSnapshot, hglue, hdrain, hsync, hown, Foot.allows, hw.has]

@[simp] theorem within_takeAck (epoch ack : Nat) : (takeAck epoch ack).Within Φ σ := by
  have hrel := fun s => within_releaseWait (σ := s) hw
  have hack := hw.fld PAIR_JACK.ALL (by decide)
  simp only [takeAck, within_dyn, within_seq_cons]
  refine ⟨by simp [hack], by simp [Foot.allows, hw.has], ?_, within_seq_nil⟩
  split <;> simp [hrel]

end

end Sys2Proof.Machine

/-!
What each command and event touches (`Touch`, by the command's name): it runs to the state that an effect within that footprint leaves.
-/
namespace Sys2Proof.Machine
open Sys2Proof

/-- The outcome is what an effect within the footprint leaves of `s`. -/
def Touches (F : Foot) (s : State) (o : Out) : Prop := ∃ e : Eff, o = perform e s ∧ e.Within F s

section
variable {Φ : Foot} {s : State}

theorem touches_perform {e : Eff} (h : e.Within Φ s) : Touches Φ s (perform e s) := ⟨e, rfl, h⟩

theorem touches_felwin {op : OpDef} {n : May} (h : CmdHdr) (p : List Word) (hF : Φ.covers (.join Touch.felwinN [n]) = true)
    (hb : ∀ s, Φ.covers n = true → (op.body h (p.map (·.toNat)) s).Within Φ) : Touches Φ s (perform (felwin op h p) s) := by
  simp only [Foot.covers_join, List.all_cons, List.all_nil, Bool.and_true, Bool.and_eq_true] at hF
  exact touches_perform (within_felwin op h p hF.1 fun s => hb s hF.2)

/-! ### Counters of an array -/

theorem cnt_cliCnt {t c : Nat} (hF : Φ.cnts (288, 128) = true) (ht : t < 32) (hc : c < 4) : Φ.cnt (cliCnt t c) = true :=
  Foot.cnt_of_cnts hF (by simp only [cliCnt]; omega) (by simp only [cliCnt]; omega)

theorem cnt_srdCnt {n c : Nat} (hF : Φ.cnts (672, 136) = true) (hn : n < 34) (hc : c < 4) : Φ.cnt (srdCnt n c) = true :=
  Foot.cnt_of_cnts hF (by simp only [srdCnt]; omega) (by simp only [srdCnt]; omega)

theorem cnt_vnrCnt {t c : Nat} (hF : Φ.cnts (424, 224) = true) (ht : t < 32) (hc : c < 7) : Φ.cnt (vnrCnt t c) = true :=
  Foot.cnt_of_cnts hF (by simp only [vnrCnt]; omega) (by simp only [vnrCnt]; omega)

theorem cnt_fecCnt {k c : Nat} (hF : Φ.cnts (128, 128) = true) (hk : k < 16) (hc : c < 7) : Φ.cnt (fecCnt k c) = true :=
  Foot.cnt_of_cnts hF (by simp only [fecCnt]; omega) (by simp only [fecCnt]; omega)

theorem covers_countBlock {k : Nat} (hF : Φ.cnts (128, 128) = true) (hfec : Φ.has .fec = true) (hlrx : Φ.has .lrx = true) (hk : k < 16) :
    Φ.covers (Touch.countBlock k) = true := by
  have hc := fun c (hc : c < 7) => cnt_fecCnt hF hk hc
  simp [Touch.countBlock, hfec, hlrx, hc]

theorem grpLane_lt (g : Fin 2) {k : Nat} (hk : k < 4) : grpLane g.val k < 34 := by
  unfold grpLane
  split <;> omega

/-- The next position of R57 lies at one of the subcarriers. -/
theorem nextPosOf_lt {ws : List Nat} {blk : Tab Nat} {fits : Nat → Nat → Bool} {k : Nat} (h : nextPosOf ws blk fits = some k) : k < 16 := by
  have pick : ∀ (start : Nat → Nat) (l : List Nat) (b : Option Nat), (∀ c, b = some c → c < 16) → (∀ c ∈ l, c < 16) →
      ∀ c, l.foldl (fun b k => match b with | none => some k | some c => if start k < start c then some k else some c) b = some c → c < 16 := by
    intro start l
    induction l with
    | nil => exact fun b hb _ c hc => hb c hc
    | cons x xs ih =>
      intro b hb hl
      refine ih _ (fun c hc => ?_) fun c hc => hl c (by simp [hc])
      have hx := hl x (by simp)
      cases b with
      | none => simp only [Option.some.injEq] at hc; omega
      | some d =>
        have hd := hb d rfl
        simp only at hc
        split at hc <;> · simp only [Option.some.injEq] at hc; omega
  exact pick _ _ none (by simp) (fun c hc => by simpa using (List.mem_filter.1 hc).1) k h

theorem State.rxPlace_lt {k j acc : Nat} {blk : Tab Nat} (h : s.rxPlace = some (k, j, acc, blk)) : k < 16 := by
  unfold State.rxPlace at h
  split at h
  · simp only [Option.some.injEq, Prod.mk.injEq] at h; omega
  · split at h
    · simp only [takePos, Option.map_eq_some_iff, Prod.mk.injEq] at h
      obtain ⟨q, hq, rfl, -⟩ := h
      exact nextPosOf_lt hq
    · cases h

/-! ### Calibration -/

def Touch.execRefCheck : May := .join ⟨0, [], [], [], []⟩ [Touch.checkRefs]
theorem touches_execRefCheck (vdev fdev : Word) (hF : Φ.covers Touch.execRefCheck = true) : Touches Φ s (execRefCheck vdev fdev s) := by
  simp [Touch.execRefCheck] at hF
  refine touches_perform ?_
  simp [hF]

def Touch.execCalStatus : May := Touch.felwinN
theorem touches_execCalStatus (h : CmdHdr) (p : List Word) (hF : Φ.covers Touch.execCalStatus = true) : Touches Φ s (execCalStatus h p s) :=
  touches_perform (within_felwin _ h p hF fun s => within_opCalStatus h _ s)

def Touch.execCalBgSet : May := .join Touch.felwinN [Touch.opCalBgSet]
theorem touches_execCalBgSet (h : CmdHdr) (p : List Word) (hF : Φ.covers Touch.execCalBgSet = true) : Touches Φ s (execCalBgSet h p s) :=
  touches_felwin h p hF fun s => within_opCalBgSet h _ s

def Touch.execCalRefSet : May := .join Touch.felwinN [Touch.opCalRefSet]
theorem touches_execCalRefSet (h : CmdHdr) (p : List Word) (hF : Φ.covers Touch.execCalRefSet = true) : Touches Φ s (execCalRefSet h p s) :=
  touches_felwin h p hF fun s => within_opCalRefSet h _ s

def Touch.execCalRun : May := .join Touch.felwinN [Touch.opCalRun]
theorem touches_execCalRun (h : CmdHdr) (p : List Word) (vdev fdev : Word) (hF : Φ.covers Touch.execCalRun = true) : Touches Φ s (execCalRun h p vdev fdev s) :=
  touches_felwin h p hF fun s => within_opCalRun vdev.toInt fdev.toInt h _ s

def Touch.execCalFgDone : May := .join ⟨0, [CNV_FUSE_STAT.REFINED, CNV_FUSE_STAT.SOURCE, CNV_STATUS.FG_BUSY], [EV.CAL_FG_DONE], [], [.cnv]⟩ [Touch.finish,
  Touch.modSet, Touch.syncSets, Touch.baseSkew, Touch.judgeFig]
theorem touches_execCalFgDone (sets : List (Fin 8 × List Word)) (enob : List Word) (figs : List Word) (hF : Φ.covers Touch.execCalFgDone = true) : Touches Φ s (execCalFgDone sets enob figs s) := by
  simp [Touch.execCalFgDone] at hF
  refine touches_perform ?_
  simp only [within_dyn]
  (repeat' split) <;> simp [hF]

def Touch.execFgTimeout : May := .join ⟨0, [], [], [], []⟩ [Touch.endRun]
theorem touches_execFgTimeout (hF : Φ.covers Touch.execFgTimeout = true) : Touches Φ s (execFgTimeout s) := by
  simp [Touch.execFgTimeout] at hF
  refine touches_perform ?_
  simp [hF]

def Touch.execCalAbort : May := .join Touch.felwinN [Touch.opCalAbort]
theorem touches_execCalAbort (h : CmdHdr) (p : List Word) (hF : Φ.covers Touch.execCalAbort = true) : Touches Φ s (execCalAbort h p s) :=
  touches_felwin h p hF fun s => within_opCalAbort h _ s

def Touch.execCalCommit : May := .join Touch.felwinN [Touch.opCalCommit]
theorem touches_execCalCommit (h : CmdHdr) (p : List Word) (vdd : Bool) (hF : Φ.covers Touch.execCalCommit = true) : Touches Φ s (execCalCommit h p vdd s) :=
  touches_felwin h p hF fun s => within_opCalCommit vdd h _ s

def Touch.execFuseRowWriteDone : May := .join ⟨0, [], [EV.FUSE_COMMITTED, EV.FUSE_EXHAUSTED], [], [.cnv]⟩ [Touch.modSet, Touch.programRow, Touch.rowEnds,
  Touch.stopCommit]
theorem touches_execFuseRowWriteDone (same : Bool) (hF : Φ.covers Touch.execFuseRowWriteDone = true) : Touches Φ s (execFuseRowWriteDone same s) := by
  simp [Touch.execFuseRowWriteDone] at hF
  refine touches_perform ?_
  simp only [within_dyn]
  (repeat' split) <;> simp [hF]

def Touch.execFuseVddLoss : May := .join ⟨0, [], [], [], []⟩ [Touch.programRow, Touch.stopCommit]
theorem touches_execFuseVddLoss (n k : Nat) (hF : Φ.covers Touch.execFuseVddLoss = true) : Touches Φ s (execFuseVddLoss n k s) := by
  simp [Touch.execFuseVddLoss] at hF
  refine touches_perform ?_
  simp only [within_dyn]
  (repeat' split) <;> simp [hF]

def Touch.execCalExport : May := .join Touch.felwinN [Touch.opCalExport]
theorem touches_execCalExport (h : CmdHdr) (p : List Word) (hF : Φ.covers Touch.execCalExport = true) : Touches Φ s (execCalExport h p s) :=
  touches_felwin h p hF fun s => within_opCalExport h _ s

def Touch.execCalLoad : May := .join Touch.felwinN [Touch.opCalLoad]
theorem touches_execCalLoad (h : CmdHdr) (p : List Word) (hF : Φ.covers Touch.execCalLoad = true) : Touches Φ s (execCalLoad h p s) :=
  touches_felwin h p hF fun s => within_opCalLoad h _ s

def Touch.execCalQuality : May := .join Touch.felwinN [Touch.opCalQuality]
theorem touches_execCalQuality (h : CmdHdr) (p : List Word) (hF : Φ.covers Touch.execCalQuality = true) : Touches Φ s (execCalQuality h p s) :=
  touches_felwin h p hF fun s => within_opCalQuality h _ s

def Touch.execCnvQTake : May := .join ⟨0, [CNV_Q_SNAP.TAKE], [], [], []⟩ [Touch.byMaster, Touch.cnvTake]
theorem touches_execCnvQTake (m : Mast) (hF : Φ.covers Touch.execCnvQTake = true) : Touches Φ s (execCnvQTake m s) := by
  simp [Touch.execCnvQTake] at hF
  refine touches_perform ?_
  simp [hF]

def Touch.execCnvQSnapDone : May := .join ⟨0, [], [], [], []⟩ [Touch.finish, Touch.takeCnv]
theorem touches_execCnvQSnapDone (hF : Φ.covers Touch.execCnvQSnapDone = true) : Touches Φ s (execCnvQSnapDone s) := by
  simp [Touch.execCnvQSnapDone] at hF
  refine touches_perform ?_
  simp [hF]

def Touch.execCalPassStart : May := .join ⟨0, [], [], [], []⟩ [Touch.startPass, Touch.passEnd]
theorem touches_execCalPassStart (hF : Φ.covers Touch.execCalPassStart = true) : Touches Φ s (execCalPassStart s) := by
  simp [Touch.execCalPassStart] at hF
  refine touches_perform ?_
  simp [hF]

def Touch.execSliceStepStart : May := .join ⟨0, [], [], [], [.cnv]⟩ [Touch.modSlice, Touch.passEnd]
theorem touches_execSliceStepStart (m : Fin 8) (hF : Φ.covers Touch.execSliceStepStart = true) : Touches Φ s (execSliceStepStart m s) := by
  simp [Touch.execSliceStepStart] at hF
  refine touches_perform ?_
  simp only [within_dyn]
  (repeat' split) <;> simp [hF]

def Touch.execSliceHandover : May := .join ⟨0, [], [], [], [.cnv]⟩ [Touch.modSlice, Touch.serve, Touch.trimSlice]
theorem touches_execSliceHandover (m : Fin 8) (trim : BitVec 16) (d pin : Nat) (hF : Φ.covers Touch.execSliceHandover = true) : Touches Φ s (execSliceHandover m trim d pin s) := by
  simp [Touch.execSliceHandover] at hF
  refine touches_perform ?_
  simp only [within_dyn]
  (repeat' split) <;> simp [hF]

def Touch.execSliceCalDone : May := .join ⟨0, [], [EV.SLICE_FAULT], [], [.cnv]⟩ [Touch.modSlice, Touch.retire, Touch.refine, Touch.stepEnds]
theorem touches_execSliceCalDone (m : Fin 8) (gain offset resid : BitVec 16) (hF : Φ.covers Touch.execSliceCalDone = true) : Touches Φ s (execSliceCalDone m gain offset resid s) := by
  simp [Touch.execSliceCalDone] at hF
  refine touches_perform ?_
  simp only [within_dyn]
  (repeat' split) <;> simp [hF]

def Touch.execSliceFault : May := .join ⟨0, [], [], [], []⟩ [Touch.takeOut]
theorem touches_execSliceFault (n : Fin 528) (test : Fin 4) (trim : BitVec 16) (hF : Φ.covers Touch.execSliceFault = true) : Touches Φ s (execSliceFault n test trim s) := by
  simp [Touch.execSliceFault] at hF
  refine touches_perform ?_
  simp [hF]

def Touch.execSliceRetest : May := .join ⟨0, [], [], [], []⟩ [Touch.modSlice]
theorem touches_execSliceRetest (n : Fin 528) (pass : Bool) (hF : Φ.covers Touch.execSliceRetest = true) : Touches Φ s (execSliceRetest n pass s) := by
  simp [Touch.execSliceRetest] at hF
  refine touches_perform ?_
  simp [hF]

def Touch.execSliceReturn : May := .join ⟨0, [], [EV.SLICE_RETURN], [], [.cnv]⟩ [Touch.modSlice, Touch.retire, Touch.trimSlice]
theorem touches_execSliceReturn (n : Fin 528) (trim : BitVec 16) (diffs : List (Nat × Nat)) (hF : Φ.covers Touch.execSliceReturn = true) : Touches Φ s (execSliceReturn n trim diffs s) := by
  simp [Touch.execSliceReturn] at hF
  refine touches_perform ?_
  simp [hF]

def Touch.execCalSlice : May := .join Touch.felwinN [Touch.opCalSlice]
theorem touches_execCalSlice (h : CmdHdr) (p : List Word) (trim : BitVec 16) (hF : Φ.covers Touch.execCalSlice = true) : Touches Φ s (execCalSlice h p trim s) :=
  touches_felwin h p hF fun s => within_opCalSlice trim.toInt h _ s

def Touch.execBgEstimatorUpdate : May := .join ⟨0, [], [], [], []⟩ [Touch.refine, Touch.slicesTiming]
theorem touches_execBgEstimatorUpdate (est : Fin 4) (u : Fin 8) (gain offset timing : BitVec 16) (steps : List (BitVec 16)) (hF : Φ.covers Touch.execBgEstimatorUpdate = true) : Touches Φ s (execBgEstimatorUpdate est u gain offset timing steps s) := by
  simp [Touch.execBgEstimatorUpdate] at hF
  refine touches_perform ?_
  (repeat' split) <;> simp [hF]

/-! ### Gauge -/

def Touch.execMonTimerTrigger : May := .join ⟨0, [], [], [], []⟩ [Touch.triggerBy]
theorem touches_execMonTimerTrigger (m : Fin 2) (hF : Φ.covers Touch.execMonTimerTrigger = true) : Touches Φ s (execMonTimerTrigger m s) := by
  simp [Touch.execMonTimerTrigger] at hF
  refine touches_perform ?_
  simp [hF]

def Touch.execDsyncPulse : May := .join ⟨0, [], [], [], [.ltx]⟩ [Touch.pulse]
theorem touches_execDsyncPulse (hF : Φ.covers Touch.execDsyncPulse = true) : Touches Φ s (execDsyncPulse s) := by
  simp [Touch.execDsyncPulse] at hF
  refine touches_perform ?_
  simp only [within_dyn]
  (repeat' split) <;> simp [hF]

def Touch.execMonDelayEnd : May := .join ⟨0, [], [], [], []⟩ [Touch.startBurst]
theorem touches_execMonDelayEnd (m : Fin 2) (hF : Φ.covers Touch.execMonDelayEnd = true) : Touches Φ s (execMonDelayEnd m s) := by
  simp [Touch.execMonDelayEnd] at hF
  refine touches_perform ?_
  simp [hF]

def Touch.execMonWord : May := .join ⟨0, [], [], [], []⟩ [Touch.modMod, Touch.chainRestart, Touch.startStep, Touch.deliver, Touch.ilvOff]
theorem touches_execMonWord (m : Fin 2) (bs : List Bool) (t : BitVec 24) (hF : Φ.covers Touch.execMonWord = true) : Touches Φ s (execMonWord m bs t s) := by
  simp [Touch.execMonWord] at hF
  refine touches_perform ?_
  simp [hF]
  (repeat' split) <;> simp [hF]

def Touch.execMonCfg : May := .join Touch.felwinN [Touch.opMonCfg]
theorem touches_execMonCfg (h : CmdHdr) (p : List Word) (hF : Φ.covers Touch.execMonCfg = true) : Touches Φ s (execMonCfg h p s) :=
  touches_felwin h p hF fun s => within_opMonCfg h _ s

def Touch.execMonStart : May := .join Touch.felwinN [Touch.opMonStart]
theorem touches_execMonStart (h : CmdHdr) (p : List Word) (hF : Φ.covers Touch.execMonStart = true) : Touches Φ s (execMonStart h p s) :=
  touches_felwin h p hF fun s => within_opMonStart h _ s

def Touch.execMonRead : May := .join Touch.felwinN [Touch.opMonRead]
theorem touches_execMonRead (h : CmdHdr) (p : List Word) (hF : Φ.covers Touch.execMonRead = true) : Touches Φ s (execMonRead h p s) :=
  touches_felwin h p hF fun s => within_opMonRead h _ s

def Touch.execMonTrigger : May := .join Touch.felwinN [Touch.opMonTrigger]
theorem touches_execMonTrigger (h : CmdHdr) (p : List Word) (hF : Φ.covers Touch.execMonTrigger = true) : Touches Φ s (execMonTrigger h p s) :=
  touches_felwin h p hF fun s => within_opMonTrigger h _ s

def Touch.execMonStatus : May := Touch.felwinN
theorem touches_execMonStatus (h : CmdHdr) (p : List Word) (hF : Φ.covers Touch.execMonStatus = true) : Touches Φ s (execMonStatus h p s) :=
  touches_perform (within_felwin _ h p hF fun s => within_opMonStatus h _ s)

def Touch.execMonCntClr : May := .join ⟨0, [MON_CTRL.CNT_CLR], [], [], []⟩ [Touch.byMaster, Touch.monCntClr]
theorem touches_execMonCntClr (m : Mast) (hF : Φ.covers Touch.execMonCntClr = true) : Touches Φ s (execMonCntClr m s) := by
  simp [Touch.execMonCntClr] at hF
  refine touches_perform ?_
  simp [hF]

def Touch.execMonInterleaveWrite : May := .join ⟨0, [MON_CTRL.INTERLEAVE], [], [], []⟩ [Touch.byMaster, Touch.interleaveWrite]
theorem touches_execMonInterleaveWrite (m : Mast) (v : Bool) (hF : Φ.covers Touch.execMonInterleaveWrite = true) : Touches Φ s (execMonInterleaveWrite m v s) := by
  simp [Touch.execMonInterleaveWrite] at hF
  refine touches_perform ?_
  simp [hF]

def Touch.execMonQRead : May := .join ⟨0, [], [], [], []⟩ [Touch.monQRead]
theorem touches_execMonQRead (m : Mast) (q : Fin 2) (hF : Φ.covers Touch.execMonQRead = true) : Touches Φ s (execMonQRead m q s) := by
  simp [Touch.execMonQRead] at hF
  refine touches_perform ?_
  simp [hF]

def Touch.execMonSyscal : May := .join Touch.felwinN [Touch.opMonSyscal]
theorem touches_execMonSyscal (h : CmdHdr) (p : List Word) (hF : Φ.covers Touch.execMonSyscal = true) : Touches Φ s (execMonSyscal h p s) :=
  touches_felwin h p hF fun s => within_opMonSyscal h _ s

def Touch.execMonSyscalDone : May := .join ⟨0, [], [], [], [.mon]⟩ [Touch.newSet7, Touch.endSyscal]
theorem touches_execMonSyscalDone (z0 f0 z1 f1 : Int) (hF : Φ.covers Touch.execMonSyscalDone = true) : Touches Φ s (execMonSyscalDone z0 f0 z1 f1 s) := by
  simp [Touch.execMonSyscalDone] at hF
  refine touches_perform ?_
  simp only [within_dyn]
  (repeat' split) <;> simp [hF]

/-! ### Transmit -/

def Touch.execLtxModeSet : May := .join Touch.felwinN [Touch.opLtxModeSet]
theorem touches_execLtxModeSet (h : CmdHdr) (p : List Word) (hF : Φ.covers Touch.execLtxModeSet = true) : Touches Φ s (execLtxModeSet h p s) :=
  touches_felwin h p hF fun s => within_opLtxModeSet h _ s

def Touch.execLtxModeWrite : May := .join ⟨0, [LTX_CTRL.MODE], [], [], []⟩ [Touch.byMaster, Touch.ltxModeWrite]
theorem touches_execLtxModeWrite (m : Mast) (mode : BitVec 4) (n : BitVec 6) (hF : Φ.covers Touch.execLtxModeWrite = true) : Touches Φ s (execLtxModeWrite m mode n s) := by
  simp [Touch.execLtxModeWrite] at hF
  refine touches_perform ?_
  simp [hF]

def Touch.execLtxPlanLoad : May := .join Touch.felwinN [Touch.opLtxPlanLoad]
theorem touches_execLtxPlanLoad (h : CmdHdr) (p : List Word) (hF : Φ.covers Touch.execLtxPlanLoad = true) : Touches Φ s (execLtxPlanLoad h p s) :=
  touches_felwin h p hF fun s => within_opLtxPlanLoad h _ s

def Touch.execPlanBoundsReady : May := .join ⟨0, [], [], [], [.ltx]⟩ [Touch.finish, Touch.putBank, Touch.setChk, Touch.storePlan]
theorem touches_execPlanBoundsReady (hF : Φ.covers Touch.execPlanBoundsReady = true) : Touches Φ s (execPlanBoundsReady s) := by
  simp [Touch.execPlanBoundsReady] at hF
  refine touches_perform ?_
  simp only [within_dyn]
  (repeat' split) <;> simp [hF]

def Touch.execLtxPlanCommit : May := .join Touch.felwinN [Touch.opLtxPlanCommit]
theorem touches_execLtxPlanCommit (h : CmdHdr) (p : List Word) (hF : Φ.covers Touch.execLtxPlanCommit = true) : Touches Φ s (execLtxPlanCommit h p s) :=
  touches_felwin h p hF fun s => within_opLtxPlanCommit h _ s

def Touch.execPlanChgCommit : May := .join ⟨0, [LTX_PLAN_CHG.COMMIT], [], [], []⟩ [Touch.byMaster, Touch.planChgCommit]
theorem touches_execPlanChgCommit (m : Mast) (hF : Φ.covers Touch.execPlanChgCommit = true) : Touches Φ s (execPlanChgCommit m s) := by
  simp [Touch.execPlanChgCommit] at hF
  refine touches_perform ?_
  simp [hF]

def Touch.execLtxPlanCancel : May := .join Touch.felwinN [Touch.opLtxPlanCancel]
theorem touches_execLtxPlanCancel (h : CmdHdr) (p : List Word) (hF : Φ.covers Touch.execLtxPlanCancel = true) : Touches Φ s (execLtxPlanCancel h p s) :=
  touches_felwin h p hF fun s => within_opLtxPlanCancel h _ s

def Touch.execPlanChgCancel : May := .join ⟨0, [LTX_PLAN_CHG.CANCEL], [], [], []⟩ [Touch.byMaster, Touch.planChgCancel]
theorem touches_execPlanChgCancel (m : Mast) (hF : Φ.covers Touch.execPlanChgCancel = true) : Touches Φ s (execPlanChgCancel m s) := by
  simp [Touch.execPlanChgCancel] at hF
  refine touches_perform ?_
  simp [hF]

def Touch.execLtxPlanGet : May := Touch.felwinN
theorem touches_execLtxPlanGet (h : CmdHdr) (p : List Word) (hF : Φ.covers Touch.execLtxPlanGet = true) : Touches Φ s (execLtxPlanGet h p s) :=
  touches_perform (within_felwin _ h p hF fun s => within_opLtxPlanGet h _ s)

def Touch.execLtxBiasCtrl : May := .join Touch.felwinN [Touch.opLtxBiasCtrl]
theorem touches_execLtxBiasCtrl (h : CmdHdr) (p : List Word) (hF : Φ.covers Touch.execLtxBiasCtrl = true) : Touches Φ s (execLtxBiasCtrl h p s) :=
  touches_felwin h p hF fun s => within_opLtxBiasCtrl h _ s

def Touch.execBiasSweep : May := .join ⟨0, [LTX_BIAS_CTRL.SWEEP], [], [], []⟩ [Touch.byMaster, Touch.startSweep]
theorem touches_execBiasSweep (m : Mast) (hF : Φ.covers Touch.execBiasSweep = true) : Touches Φ s (execBiasSweep m s) := by
  simp [Touch.execBiasSweep] at hF
  refine touches_perform ?_
  simp [hF]

def Touch.execBiasSweepDone : May := .join ⟨0, [], [], [], [.ltx]⟩ [Touch.judgeLock]
theorem touches_execBiasSweepDone (hF : Φ.covers Touch.execBiasSweepDone = true) : Touches Φ s (execBiasSweepDone s) := by
  simp [Touch.execBiasSweepDone] at hF
  refine touches_perform ?_
  simp [hF]

def Touch.execDitherCycle : May := ⟨0, [], [], [], [.ltx]⟩
theorem touches_execDitherCycle (hF : Φ.covers Touch.execDitherCycle = true) : Touches Φ s (execDitherCycle s) := by
  simp [Touch.execDitherCycle] at hF
  refine touches_perform ?_
  simp [hF]

def Touch.execBiasDwellEnd : May := .join ⟨0, [LTX_BIAS_DAC.ALL], [EV.BIAS_RAIL, EV.BIAS_UNLOCK], [], [.ltx]⟩ [Touch.popQueue, Touch.judgeLock]
theorem touches_execBiasDwellEnd (hF : Φ.covers Touch.execBiasDwellEnd = true) : Touches Φ s (execBiasDwellEnd s) := by
  simp [Touch.execBiasDwellEnd] at hF
  refine touches_perform ?_
  simp [hF]

def Touch.execLtxLaserSet : May := .join Touch.felwinN [Touch.opLtxLaserSet]
theorem touches_execLtxLaserSet (h : CmdHdr) (p : List Word) (hF : Φ.covers Touch.execLtxLaserSet = true) : Touches Φ s (execLtxLaserSet h p s) :=
  touches_felwin h p hF fun s => within_opLtxLaserSet h _ s

def Touch.execLtxLaserStatus : May := Touch.felwinN
theorem touches_execLtxLaserStatus (h : CmdHdr) (p : List Word) (hF : Φ.covers Touch.execLtxLaserStatus = true) : Touches Φ s (execLtxLaserStatus h p s) :=
  touches_perform (within_felwin _ h p hF fun s => within_opLtxLaserStatus h _ s)

def Touch.execLasEnWrite : May := .join ⟨0, [LTX_LAS_CTRL.EN], [], [], []⟩ [Touch.byMaster, Touch.setLasEn]
theorem touches_execLasEnWrite (m : Mast) (p : Fin 2) (en : Bool) (hF : Φ.covers Touch.execLasEnWrite = true) : Touches Φ s (execLasEnWrite m p en s) := by
  simp [Touch.execLasEnWrite] at hF
  refine touches_perform ?_
  simp [hF]

def Touch.execLasFreqWrite : May := .join ⟨0, [LTX_LAS_FREQ.FREQ], [], [], []⟩ [Touch.byMaster, Touch.lasFreqWrite]
theorem touches_execLasFreqWrite (m : Mast) (p : Fin 2) (v : Word) (hF : Φ.covers Touch.execLasFreqWrite = true) : Touches Φ s (execLasFreqWrite m p v s) := by
  simp [Touch.execLasFreqWrite] at hF
  refine touches_perform ?_
  simp [hF]

def Touch.execLasFtfWrite : May := .join ⟨0, [LTX_LAS_CTRL.FTF], [], [], []⟩ [Touch.byMaster, Touch.lasFtfWrite]
theorem touches_execLasFtfWrite (m : Mast) (p : Fin 2) (v : BitVec 16) (hF : Φ.covers Touch.execLasFtfWrite = true) : Touches Φ s (execLasFtfWrite m p v s) := by
  simp [Touch.execLasFtfWrite] at hF
  refine touches_perform ?_
  simp [hF]

def Touch.execFtfApply : May := .join ⟨0, [], [], [], []⟩ [Touch.modLaser]
theorem touches_execFtfApply (p : Fin 2) (hF : Φ.covers Touch.execFtfApply = true) : Touches Φ s (execFtfApply p s) := by
  simp [Touch.execFtfApply] at hF
  refine touches_perform ?_
  simp only [within_dyn]
  (repeat' split) <;> simp [hF]

def Touch.execLasReset : May := .join ⟨0, [LTX_LAS_CTRL.RESET], [], [], []⟩ [Touch.byMaster, Touch.lasReset]
theorem touches_execLasReset (m : Mast) (p : Fin 2) (hF : Φ.covers Touch.execLasReset = true) : Touches Φ s (execLasReset m p s) := by
  simp [Touch.execLasReset] at hF
  refine touches_perform ?_
  simp [hF]

def Touch.execLaserPoll : May := .join ⟨0, [LTX_LAS_STAT.STATUSF], [], [], []⟩ [Touch.modLaser, Touch.laserFail]
theorem touches_execLaserPoll (p : Fin 2) (statusF statusW : BitVec 16) (hF : Φ.covers Touch.execLaserPoll = true) : Touches Φ s (execLaserPoll p statusF statusW s) := by
  simp [Touch.execLaserPoll] at hF
  refine touches_perform ?_
  simp [hF]

def Touch.execItlaResponseTimeout : May := .join ⟨0, [], [], [], []⟩ [Touch.laserFail]
theorem touches_execItlaResponseTimeout (p : Fin 2) (hF : Φ.covers Touch.execItlaResponseTimeout = true) : Touches Φ s (execItlaResponseTimeout p s) := by
  simp [Touch.execItlaResponseTimeout] at hF
  refine touches_perform ?_
  simp [hF]

def Touch.execLaserFaultPin : May := .join ⟨0, [], [], [], []⟩ [Touch.laserFail]
theorem touches_execLaserFaultPin (p : Fin 2) (hF : Φ.covers Touch.execLaserFaultPin = true) : Touches Φ s (execLaserFaultPin p s) := by
  simp [Touch.execLaserFaultPin] at hF
  refine touches_perform ?_
  simp [hF]

def Touch.execLaserTuned : May := .join ⟨0, [LTX_LAS_STAT.FAIL, LTX_LAS_STAT.LASING, LTX_LAS_STAT.RESETS, LTX_LAS_STAT.TUNED, LTX_LAS_STAT.TUNING,
  LTX_STATUS.LAS0_READY, LTX_STATUS.LAS1_READY], [EV.LASER_TUNED], [], []⟩ [Touch.tryStart, Touch.modLaser]
theorem touches_execLaserTuned (p : Fin 2) (lf ftfr oop ctemp : Word) (hF : Φ.covers Touch.execLaserTuned = true) : Touches Φ s (execLaserTuned p lf ftfr oop ctemp s) := by
  simp [Touch.execLaserTuned] at hF
  refine touches_perform ?_
  simp [hF]

def Touch.execLaserTuneTimeout : May := .join ⟨0, [LTX_LAS_STAT.TUNING], [], [], []⟩ [Touch.laserFail]
theorem touches_execLaserTuneTimeout (p : Fin 2) (hF : Φ.covers Touch.execLaserTuneTimeout = true) : Touches Φ s (execLaserTuneTimeout p s) := by
  simp [Touch.execLaserTuneTimeout] at hF
  refine touches_perform ?_
  simp [hF]

def Touch.execLaserResetRetry : May := .join ⟨0, [LTX_LAS_STAT.HOLD], [], [], []⟩ [Touch.modLaser, Touch.laserOff, Touch.softReset]
theorem touches_execLaserResetRetry (p : Fin 2) (hF : Φ.covers Touch.execLaserResetRetry = true) : Touches Φ s (execLaserResetRetry p s) := by
  simp [Touch.execLaserResetRetry] at hF
  refine touches_perform ?_
  simp [hF]

def Touch.execLtxOutput : May := .join Touch.felwinN [Touch.opLtxOutput]
theorem touches_execLtxOutput (h : CmdHdr) (p : List Word) (hF : Φ.covers Touch.execLtxOutput = true) : Touches Φ s (execLtxOutput h p s) :=
  touches_felwin h p hF fun s => within_opLtxOutput h _ s

def Touch.execOutEnWrite : May := .join ⟨0, [LTX_CTRL.OUT_EN], [], [], []⟩ [Touch.byMaster, Touch.outEnWrite]
theorem touches_execOutEnWrite (m : Mast) (v : Bool) (hF : Φ.covers Touch.execOutEnWrite = true) : Touches Φ s (execOutEnWrite m v s) := by
  simp [Touch.execOutEnWrite] at hF
  refine touches_perform ?_
  simp [hF]

def Touch.execOutputRampDone : May := .join ⟨0, [LTX_CTRL.LOCK, LTX_SF_NUM.ALL, LTX_STATUS.TX_ON], [], [], [.frm, .ltx, .scr]⟩ [Touch.finish, Touch.startSf]
theorem touches_execOutputRampDone (hF : Φ.covers Touch.execOutputRampDone = true) : Touches Φ s (execOutputRampDone s) := by
  simp [Touch.execOutputRampDone] at hF
  refine touches_perform ?_
  simp only [within_dyn]
  (repeat' split) <;> simp [hF]

def Touch.execBiasLockTimeout : May := .join ⟨0, [LTX_CTRL.OUT_EN], [EV.TX_DARK], [], [.ltx, .scr]⟩ [Touch.finish, Touch.unitFails]
theorem touches_execBiasLockTimeout (hF : Φ.covers Touch.execBiasLockTimeout = true) : Touches Φ s (execBiasLockTimeout s) := by
  simp [Touch.execBiasLockTimeout] at hF
  refine touches_perform ?_
  simp only [within_dyn]
  (repeat' split) <;> simp [hF]

def Touch.execLoLightChange : May := .join ⟨0, [], [], [], [.ltx]⟩ [Touch.tryStart]
theorem touches_execLoLightChange (present : Bool) (hF : Φ.covers Touch.execLoLightChange = true) : Touches Φ s (execLoLightChange present s) := by
  simp [Touch.execLoLightChange] at hF
  refine touches_perform ?_
  simp [hF]

/-! ### Receive -/

def Touch.execLrxModeSet : May := .join Touch.felwinN [Touch.opLrxModeSet]
theorem touches_execLrxModeSet (h : CmdHdr) (p : List Word) (hF : Φ.covers Touch.execLrxModeSet = true) : Touches Φ s (execLrxModeSet h p s) :=
  touches_felwin h p hF fun s => within_opLrxModeSet h _ s

def Touch.execLrxModeWrite : May := .join ⟨0, [LRX_CTRL.MODE], [], [], []⟩ [Touch.byMaster, Touch.lrxModeWrite]
theorem touches_execLrxModeWrite (m : Mast) (mode : BitVec 4) (n : BitVec 6) (hF : Φ.covers Touch.execLrxModeWrite = true) : Touches Φ s (execLrxModeWrite m mode n s) := by
  simp [Touch.execLrxModeWrite] at hF
  refine touches_perform ?_
  simp [hF]

def Touch.execLrxEnable : May := .join Touch.felwinN [Touch.opLrxEnable]
theorem touches_execLrxEnable (h : CmdHdr) (p : List Word) (hF : Φ.covers Touch.execLrxEnable = true) : Touches Φ s (execLrxEnable h p s) :=
  touches_felwin h p hF fun s => within_opLrxEnable h _ s

def Touch.execRxEnWrite : May := .join ⟨0, [LRX_CTRL.RX_EN], [], [], []⟩ [Touch.byMaster, Touch.rxEnWrite]
theorem touches_execRxEnWrite (m : Mast) (v : Bool) (hF : Φ.covers Touch.execRxEnWrite = true) : Touches Φ s (execRxEnWrite m v s) := by
  simp [Touch.execRxEnWrite] at hF
  refine touches_perform ?_
  simp [hF]

def Touch.execLrxAcqCfg : May := .join Touch.felwinN [Touch.opLrxAcqCfg]
theorem touches_execLrxAcqCfg (h : CmdHdr) (p : List Word) (hF : Φ.covers Touch.execLrxAcqCfg = true) : Touches Φ s (execLrxAcqCfg h p s) :=
  touches_felwin h p hF fun s => within_opLrxAcqCfg h _ s

def Touch.execLrxEqCfg : May := .join Touch.felwinN [Touch.opLrxEqCfg]
theorem touches_execLrxEqCfg (h : CmdHdr) (p : List Word) (hF : Φ.covers Touch.execLrxEqCfg = true) : Touches Φ s (execLrxEqCfg h p s) :=
  touches_felwin h p hF fun s => within_opLrxEqCfg h _ s

def Touch.execLrxFreeze : May := .join Touch.felwinN [Touch.opLrxFreeze]
theorem touches_execLrxFreeze (h : CmdHdr) (p : List Word) (hF : Φ.covers Touch.execLrxFreeze = true) : Touches Φ s (execLrxFreeze h p s) :=
  touches_felwin h p hF fun s => within_opLrxFreeze h _ s

def Touch.execLrxRestart : May := .join Touch.felwinN [Touch.opLrxRestart]
theorem touches_execLrxRestart (h : CmdHdr) (p : List Word) (hF : Φ.covers Touch.execLrxRestart = true) : Touches Φ s (execLrxRestart h p s) :=
  touches_felwin h p hF fun s => within_opLrxRestart h _ s

def Touch.execLrxRestartGo : May := .join ⟨0, [LRX_RESTART.GO], [], [], []⟩ [Touch.byMaster, Touch.restartGo]
theorem touches_execLrxRestartGo (m : Mast) (hF : Φ.covers Touch.execLrxRestartGo = true) : Touches Φ s (execLrxRestartGo m s) := by
  simp [Touch.execLrxRestartGo] at hF
  refine touches_perform ?_
  simp [hF]

def Touch.execLrxStatus : May := Touch.felwinN
theorem touches_execLrxStatus (h : CmdHdr) (p : List Word) (hF : Φ.covers Touch.execLrxStatus = true) : Touches Φ s (execLrxStatus h p s) :=
  touches_perform (within_felwin _ h p hF fun s => within_opLrxStatus h _ s)

def Touch.execLrxTapsGet : May := Touch.felwinN
theorem touches_execLrxTapsGet (h : CmdHdr) (p : List Word) (hF : Φ.covers Touch.execLrxTapsGet = true) : Touches Φ s (execLrxTapsGet h p s) :=
  touches_perform (within_felwin _ h p hF fun s => within_opLrxTapsGet h _ s)

def Touch.execSigPresentSet : May := .join ⟨0, [LRX_STATUS.SIG_PRESENT], [], [], []⟩ [Touch.autoRestart]
theorem touches_execSigPresentSet (hF : Φ.covers Touch.execSigPresentSet = true) : Touches Φ s (execSigPresentSet s) := by
  simp [Touch.execSigPresentSet] at hF
  refine touches_perform ?_
  simp [hF]

def Touch.execSigPresentClear : May := .join ⟨0, [LRX_STATUS.SIG_PRESENT, LRX_STATUS.STAGE], [EV.RX_UNLOCK], [], [.lrx]⟩ [Touch.losEnter]
theorem touches_execSigPresentClear (hF : Φ.covers Touch.execSigPresentClear = true) : Touches Φ s (execSigPresentClear s) := by
  simp [Touch.execSigPresentClear] at hF
  refine touches_perform ?_
  simp [hF]

def Touch.execGainSettled : May := .join ⟨0, [LRX_STATUS.STAGE], [], [], []⟩ [Touch.startDisp, Touch.agc]
theorem touches_execGainSettled (pow : List Nat) (hF : Φ.covers Touch.execGainSettled = true) : Touches Φ s (execGainSettled pow s) := by
  simp [Touch.execGainSettled] at hF
  refine touches_perform ?_
  simp [hF]

def Touch.execFreqEstimateDone : May := .join ⟨0, [LRX_FREQ_EST.ALL], [EV.FREQ_RANGE], [], [.lrx]⟩ [Touch.startDisp, Touch.failAttempt]
theorem touches_execFreqEstimateDone (spectra : List (List Nat)) (hF : Φ.covers Touch.execFreqEstimateDone = true) : Touches Φ s (execFreqEstimateDone spectra s) := by
  simp [Touch.execFreqEstimateDone] at hF
  refine touches_perform ?_
  simp [hF]

def Touch.execDispBatchDone : May := .join ⟨0, [], [], [], [.lrx]⟩ [Touch.scanEnd]
theorem touches_execDispBatchDone (metrics : List Word) (hF : Φ.covers Touch.execDispBatchDone = true) : Touches Φ s (execDispBatchDone metrics s) := by
  simp [Touch.execDispBatchDone] at hF
  refine touches_perform ?_
  simp only [within_dyn]
  (repeat' split) <;> simp [hF]

def Touch.execSymbolWindowEnd : May := .join ⟨0, [], [], [], []⟩ [Touch.agc, Touch.iqTrack, Touch.scWindow, Touch.stageAdvance, Touch.timLoop,
  Touch.timWindow]
theorem touches_execSymbolWindowEnd (pow : List Nat) (cross : List Int) (wins : List (List RxSym)) (hF : Φ.covers Touch.execSymbolWindowEnd = true) : Touches Φ s (execSymbolWindowEnd pow cross wins s) := by
  simp [Touch.execSymbolWindowEnd] at hF
  refine touches_perform ?_
  simp [hF]

def Touch.execTrainingWordDetect : May := .join ⟨0, [], [], [], []⟩ [Touch.modSc, Touch.judgeSf]
theorem touches_execTrainingWordDetect (sc : Fin 16) (pos : Nat) (xs ys : List (Int × Int)) (hF : Φ.covers Touch.execTrainingWordDetect = true) : Touches Φ s (execTrainingWordDetect sc pos xs ys s) := by
  simp [Touch.execTrainingWordDetect] at hF
  refine touches_perform ?_
  simp [hF]

def Touch.execPilotWindowEnd : May := .join ⟨0, [LRX_CR_STAT.CR_LOCK, LRX_STATUS.STAGE], [EV.CR_LOCK, EV.CR_UNLOCK], [], [.lrx]⟩ [Touch.allScs,
  Touch.autoRestart, Touch.scPilot, Touch.crLoop]
theorem touches_execPilotWindowEnd (wins : List PilotWin) (hF : Φ.covers Touch.execPilotWindowEnd = true) : Touches Φ s (execPilotWindowEnd wins s) := by
  simp [Touch.execPilotWindowEnd] at hF
  refine touches_perform ?_
  simp [hF]

def Touch.execStageTimeout : May := .join ⟨0, [], [], [], []⟩ [Touch.failAttempt]
theorem touches_execStageTimeout (hF : Φ.covers Touch.execStageTimeout = true) : Touches Φ s (execStageTimeout s) := by
  simp [Touch.execStageTimeout] at hF
  refine touches_perform ?_
  simp [hF]

def Touch.execAcqTimeout : May := .join ⟨0, [], [], [], []⟩ [Touch.failAttempt]
theorem touches_execAcqTimeout (hF : Φ.covers Touch.execAcqTimeout = true) : Touches Φ s (execAcqTimeout s) := by
  simp [Touch.execAcqTimeout] at hF
  refine touches_perform ?_
  simp [hF]

def Touch.execRestartPauseEnd : May := .join ⟨0, [], [], [], [.lrx]⟩ [Touch.autoRestart]
theorem touches_execRestartPauseEnd (hF : Φ.covers Touch.execRestartPauseEnd = true) : Touches Φ s (execRestartPauseEnd s) := by
  simp [Touch.execRestartPauseEnd] at hF
  refine touches_perform ?_
  simp [hF]

def Touch.execHoldExpired : May := ⟨0, [], [EV.HOLD_EXPIRED], [], [.lrx]⟩
theorem touches_execHoldExpired (hF : Φ.covers Touch.execHoldExpired = true) : Touches Φ s (execHoldExpired s) := by
  simp [Touch.execHoldExpired] at hF
  refine touches_perform ?_
  simp [hF]

def Touch.execWarmTimeout : May := .join ⟨0, [], [], [], []⟩ [Touch.autoRestart]
theorem touches_execWarmTimeout (hF : Φ.covers Touch.execWarmTimeout = true) : Touches Φ s (execWarmTimeout s) := by
  simp [Touch.execWarmTimeout] at hF
  refine touches_perform ?_
  simp [hF]

/-! ### Adapt -/

def Touch.execLrxQuality : May := .join Touch.felwinN [Touch.opLrxQuality]
theorem touches_execLrxQuality (h : CmdHdr) (p : List Word) (hF : Φ.covers Touch.execLrxQuality = true) : Touches Φ s (execLrxQuality h p s) :=
  touches_felwin h p hF fun s => within_opLrxQuality h _ s

def Touch.execLrxQTake : May := .join ⟨0, [LRX_Q_SNAP.TAKE], [], [], []⟩ [Touch.byMaster, Touch.lrxTake]
theorem touches_execLrxQTake (m : Mast) (hF : Φ.covers Touch.execLrxQTake = true) : Touches Φ s (execLrxQTake m s) := by
  simp [Touch.execLrxQTake] at hF
  refine touches_perform ?_
  simp [hF]

def Touch.execLrxQSnapDone : May := .join ⟨0, [], [], [], [.lrx]⟩ [Touch.finish, Touch.takeQuality]
theorem touches_execLrxQSnapDone (hF : Φ.covers Touch.execLrxQSnapDone = true) : Touches Φ s (execLrxQSnapDone s) := by
  simp [Touch.execLrxQSnapDone] at hF
  refine touches_perform ?_
  simp [hF]

def Touch.execLrxCrSet : May := .join Touch.felwinN [Touch.opLrxCrSet]
theorem touches_execLrxCrSet (h : CmdHdr) (p : List Word) (hF : Φ.covers Touch.execLrxCrSet = true) : Touches Φ s (execLrxCrSet h p s) :=
  touches_felwin h p hF fun s => within_opLrxCrSet h _ s

def Touch.execSlipClr : May := .join ⟨0, [LRX_ADAPT_CFG.SLIP_CLR], [], [], []⟩ [Touch.byMaster, Touch.clearSlips]
theorem touches_execSlipClr (m : Mast) (hF : Φ.covers Touch.execSlipClr = true) : Touches Φ s (execSlipClr m s) := by
  simp [Touch.execSlipClr] at hF
  refine touches_perform ?_
  simp [hF]

def Touch.execAdaptEnWrite : May := .join ⟨0, [LRX_ADAPT_CFG.TX_EN], [], [], []⟩ [Touch.byMaster, Touch.setAdaptEn]
theorem touches_execAdaptEnWrite (m : Mast) (tx rx : Bool) (hF : Φ.covers Touch.execAdaptEnWrite = true) : Touches Φ s (execAdaptEnWrite m tx rx s) := by
  simp [Touch.execAdaptEnWrite] at hF
  refine touches_perform ?_
  simp [hF]

def Touch.execLrxAdaptSet : May := .join Touch.felwinN [Touch.opLrxAdaptSet]
theorem touches_execLrxAdaptSet (h : CmdHdr) (p : List Word) (hF : Φ.covers Touch.execLrxAdaptSet = true) : Touches Φ s (execLrxAdaptSet h p s) :=
  touches_felwin h p hF fun s => within_opLrxAdaptSet h _ s

def Touch.execLrxRplanLoad : May := .join Touch.felwinN [Touch.opLrxRplanLoad]
theorem touches_execLrxRplanLoad (h : CmdHdr) (p : List Word) (hF : Φ.covers Touch.execLrxRplanLoad = true) : Touches Φ s (execLrxRplanLoad h p s) :=
  touches_felwin h p hF fun s => within_opLrxRplanLoad h _ s

def Touch.execLrxRplanGet : May := Touch.felwinN
theorem touches_execLrxRplanGet (h : CmdHdr) (p : List Word) (hF : Φ.covers Touch.execLrxRplanGet = true) : Touches Φ s (execLrxRplanGet h p s) :=
  touches_perform (within_felwin _ h p hF fun s => within_opLrxRplanGet h _ s)

def Touch.execSnrReport : May := .join ⟨0, [LRX_ADAPT_STAT.PHASE], [], [], [.adapt, .lrx]⟩ [Touch.ifCrc, Touch.judgeReport]
theorem touches_execSnrReport (crcOk : Bool) (plan : BitVec 8) (dd : BitVec 16) (snr : List (BitVec 16)) (margin : BitVec 16) (uncorr : Word) (hF : Φ.covers Touch.execSnrReport = true) : Touches Φ s (execSnrReport crcOk plan dd snr margin uncorr s) := by
  simp [Touch.execSnrReport] at hF
  refine touches_perform ?_
  simp [hF]

def Touch.execSnrReportSend : May := .join ⟨0, [], [], [], [.lrx]⟩ [Touch.adaptMsg, Touch.nextSeq]
theorem touches_execSnrReportSend (hF : Φ.covers Touch.execSnrReportSend = true) : Touches Φ s (execSnrReportSend s) := by
  simp [Touch.execSnrReportSend] at hF
  refine touches_perform ?_
  simp [hF]

def Touch.execReportStale : May := ⟨0, [LRX_ADAPT_STAT.PHASE], [EV.ADAPT_SILENT], [], [.adapt]⟩
theorem touches_execReportStale (hF : Φ.covers Touch.execReportStale = true) : Touches Φ s (execReportStale s) := by
  simp [Touch.execReportStale] at hF
  refine touches_perform ?_
  simp [hF]

def Touch.execOffer : May := .join ⟨0, [], [], [], []⟩ [Touch.storePlan, Touch.adaptMsg, Touch.nextSeq, Touch.ifCrc]
theorem touches_execOffer (crcOk : Bool) (seq id prev : BitVec 8) (words : List Word) (hF : Φ.covers Touch.execOffer = true) : Touches Φ s (execOffer crcOk seq id prev words s) := by
  simp [Touch.execOffer] at hF
  refine touches_perform (within_ifCrc _ _ (by simp [hF]) fun t => ?_)
  simp only [within_dyn]
  (repeat' split) <;> simp [hF]

def Touch.execHeld : May := .join ⟨0, [LRX_ADAPT_STAT.PHASE], [EV.PLAN_REFUSED], [], [.adapt]⟩ [Touch.putBank, Touch.setChk, Touch.commitPlan,
  Touch.startBackoff, Touch.ifCrc]
theorem touches_execHeld (crcOk : Bool) (seq id : BitVec 8) (hF : Φ.covers Touch.execHeld = true) : Touches Φ s (execHeld crcOk seq id s) := by
  simp [Touch.execHeld] at hF
  refine touches_perform (within_ifCrc _ _ (by simp [hF]) fun t => ?_)
  simp only [within_dyn]
  (repeat' split) <;> simp [hF]

def Touch.execRefuse : May := .join ⟨0, [], [EV.PLAN_REFUSED], [], []⟩ [Touch.startBackoff, Touch.ifCrc]
theorem touches_execRefuse (crcOk : Bool) (seq id reason : BitVec 8) (hF : Φ.covers Touch.execRefuse = true) : Touches Φ s (execRefuse crcOk seq id reason s) := by
  simp [Touch.execRefuse] at hF
  refine touches_perform (within_ifCrc _ _ (by simp [hF]) fun t => ?_)
  simp only [within_dyn]
  (repeat' split) <;> simp [hF]

def Touch.execRollbackReq : May := .join ⟨0, [], [EV.PLAN_ROLLBACK], [], [.adapt]⟩ [Touch.cancelPlan, Touch.commitReturn, Touch.startBackoff, Touch.ifCrc]
theorem touches_execRollbackReq (crcOk : Bool) (leave ret reason : BitVec 8) (hF : Φ.covers Touch.execRollbackReq = true) : Touches Φ s (execRollbackReq crcOk leave ret reason s) := by
  simp [Touch.execRollbackReq] at hF
  refine touches_perform (within_ifCrc _ _ (by simp [hF]) fun t => ?_)
  simp only [within_dyn]
  (repeat' split) <;> simp [hF]

def Touch.execOfferReplyTimeout : May := .join ⟨0, [], [EV.ADAPT_SILENT], [], [.adapt]⟩ [Touch.adaptMsg, Touch.startBackoff]
theorem touches_execOfferReplyTimeout (hF : Φ.covers Touch.execOfferReplyTimeout = true) : Touches Φ s (execOfferReplyTimeout s) := by
  simp [Touch.execOfferReplyTimeout] at hF
  refine touches_perform ?_
  simp only [within_dyn]
  (repeat' split) <;> simp [hF]

def Touch.execAdaptBackoffEnd : May := ⟨0, [LRX_ADAPT_STAT.BACKOFF_LEFT, LRX_ADAPT_STAT.PHASE], [], [], [.adapt]⟩
theorem touches_execAdaptBackoffEnd (hF : Φ.covers Touch.execAdaptBackoffEnd = true) : Touches Φ s (execAdaptBackoffEnd s) := by
  simp [Touch.execAdaptBackoffEnd] at hF
  refine touches_perform ?_
  simp [hF]

def Touch.execVerifyEnd : May := ⟨0, [LRX_ADAPT_STAT.PHASE], [], [], [.adapt]⟩
theorem touches_execVerifyEnd (hF : Φ.covers Touch.execVerifyEnd = true) : Touches Φ s (execVerifyEnd s) := by
  simp [Touch.execVerifyEnd] at hF
  refine touches_perform ?_
  simp [hF]

def Touch.execLrxAdaptNow : May := .join Touch.felwinN [Touch.opLrxAdaptNow]
theorem touches_execLrxAdaptNow (h : CmdHdr) (p : List Word) (hF : Φ.covers Touch.execLrxAdaptNow = true) : Touches Φ s (execLrxAdaptNow h p s) :=
  touches_felwin h p hF fun s => within_opLrxAdaptNow h _ s

/-! ### Fec -/

def Touch.execFecCfg : May := .join Touch.felwinN [Touch.opFecCfg]
theorem touches_execFecCfg (h : CmdHdr) (p : List Word) (hF : Φ.covers Touch.execFecCfg = true) : Touches Φ s (execFecCfg h p s) :=
  touches_felwin h p hF fun s => within_opFecCfg h _ s

def Touch.execFecStatus : May := Touch.felwinN
theorem touches_execFecStatus (h : CmdHdr) (p : List Word) (hF : Φ.covers Touch.execFecStatus = true) : Touches Φ s (execFecStatus h p s) :=
  touches_perform (within_felwin _ h p hF fun s => within_opFecStatus h _ s)

def Touch.execFecCounters : May := .join Touch.felwinN [Touch.opFecCounters]
theorem touches_execFecCounters (h : CmdHdr) (p : List Word) (hF : Φ.covers Touch.execFecCounters = true) : Touches Φ s (execFecCounters h p s) :=
  touches_felwin h p hF fun s => within_opFecCounters h _ s

def Touch.execFecInject : May := .join Touch.felwinN [Touch.opFecInject]
theorem touches_execFecInject (h : CmdHdr) (p : List Word) (hF : Φ.covers Touch.execFecInject = true) : Touches Φ s (execFecInject h p s) :=
  touches_felwin h p hF fun s => within_opFecInject h _ s

def Touch.execFecGeometry : May := Touch.felwinN
theorem touches_execFecGeometry (h : CmdHdr) (p : List Word) (hF : Φ.covers Touch.execFecGeometry = true) : Touches Φ s (execFecGeometry h p s) :=
  touches_perform (within_felwin _ h p hF fun s => within_opFecGeometry h _ s)

def Touch.execFecCntClr : May := .join ⟨0, [FEC_CTRL.CNT_CLR], [], [], []⟩ [Touch.byMaster, Touch.fecCntClr]
theorem touches_execFecCntClr (m : Mast) (hF : Φ.covers Touch.execFecCntClr = true) : Touches Φ s (execFecCntClr m s) := by
  simp [Touch.execFecCntClr] at hF
  refine touches_perform ?_
  simp [hF]

def Touch.execFecOneShot : May := .join ⟨0, [FEC_INJ.ONE_SHOT], [], [], []⟩ [Touch.byMaster, Touch.oneShot]
theorem touches_execFecOneShot (m : Mast) (hF : Φ.covers Touch.execFecOneShot = true) : Touches Φ s (execFecOneShot m s) := by
  simp [Touch.execFecOneShot] at hF
  refine touches_perform ?_
  simp [hF]

def Touch.execFecInjDone : May := ⟨0, [], [EV.FEC_INJ_DONE], [], [.fec]⟩
theorem touches_execFecInjDone (hF : Φ.covers Touch.execFecInjDone = true) : Touches Φ s (execFecInjDone s) := by
  simp [Touch.execFecInjDone] at hF
  refine touches_perform ?_
  simp [hF]

def Touch.execFecBlockEncode : May := .join ⟨0, [], [], [(34, 1)], [.ltx]⟩ [Touch.injected]
theorem touches_execFecBlockEncode (net : List Bool) (held : Nat) (hF : Φ.covers Touch.execFecBlockEncode = true) : Touches Φ s (execFecBlockEncode net held s) := by
  simp [Touch.execFecBlockEncode] at hF
  refine touches_perform ?_
  simp only [within_dyn]
  (repeat' split) <;> simp [hF]

def Touch.execFecBlockDecode : May := ⟨0, [], [], [(35, 1), (128, 128)], [.lrx, .fec, .draws]⟩
theorem touches_execFecBlockDecode (ys : List Int) (held : Nat) (hF : Φ.covers Touch.execFecBlockDecode = true) : Touches Φ s (execFecBlockDecode ys held s) := by
  simp [Touch.execFecBlockDecode] at hF
  refine touches_perform ?_
  simp only [within_dyn]
  split
  · simp
  next k j acc blk hplace =>
    have hblk := covers_countBlock hF.1.2 hF.2.2.1 hF.2.1 (s.rxPlace_lt hplace)
    have hcarrier := covers_countBlock hF.1.2 hF.2.2.1 hF.2.1 (by decide : 0 < 16)
    simp [hF, hblk, hcarrier, Touch.nativeBlock, Touch.carrierBlock]

/-! ### Framing -/

def Touch.execFasDetect : May := .join ⟨0, [], [], [], []⟩ [Touch.setCands, Touch.emul]
theorem touches_execFasDetect (off blk : Nat) (marker : Bool) (hF : Φ.covers Touch.execFasDetect = true) : Touches Φ s (execFasDetect off blk marker s) := by
  simp [Touch.execFasDetect] at hF
  refine touches_perform ?_
  simp [hF]

def Touch.execCandidateCheck : May := .join ⟨0, [], [], [(257, 1)], []⟩ [Touch.setCands]
theorem touches_execCandidateCheck (off : Nat) (sees : Bool) (hF : Φ.covers Touch.execCandidateCheck = true) : Touches Φ s (execCandidateCheck off sees s) := by
  simp [Touch.execCandidateCheck] at hF
  refine touches_perform ?_
  simp only [within_dyn]
  (repeat' split) <;> simp [hF]

def Touch.execResolutionWindowEnd : May := .join ⟨0, [FRM_DOVE_STAT.BLK_OFS, FRM_DOVE_STAT.CANDS, FRM_STATUS.DOVE, FRM_STATUS.OOF], [EV.IN_FRAME], [],
  [.frm]⟩ [Touch.judgeFill, Touch.dovetailRestart, Touch.emul]
theorem touches_execResolutionWindowEnd (hF : Φ.covers Touch.execResolutionWindowEnd = true) : Touches Φ s (execResolutionWindowEnd s) := by
  simp [Touch.execResolutionWindowEnd] at hF
  refine touches_perform ?_
  simp only [within_dyn]
  (repeat' split) <;> simp [hF]

def Touch.execInFrameCheck : May := .join ⟨0, [FRM_STATUS.DOVE], [EV.OUT_OF_FRAME], [(258, 1)], [.frm]⟩ [Touch.dovetailRestart]
theorem touches_execInFrameCheck (sees : Bool) (hF : Φ.covers Touch.execInFrameCheck = true) : Touches Φ s (execInFrameCheck sees s) := by
  simp [Touch.execInFrameCheck] at hF
  refine touches_perform ?_
  simp [hF]

def Touch.execFrmResync : May := .join ⟨0, [FRM_CTRL.RESYNC], [], [], []⟩ [Touch.byMaster, Touch.dovetailRestart]
theorem touches_execFrmResync (m : Mast) (hF : Φ.covers Touch.execFrmResync = true) : Touches Φ s (execFrmResync m s) := by
  simp [Touch.execFrmResync] at hF
  refine touches_perform ?_
  simp [hF]

def Touch.execLosClear : May := .join ⟨0, [], [], [], []⟩ [Touch.clearDefect, Touch.syncLosf]
theorem touches_execLosClear (hF : Φ.covers Touch.execLosClear = true) : Touches Φ s (execLosClear s) := by
  simp [Touch.execLosClear] at hF
  refine touches_perform ?_
  simp [hF]

def Touch.execLofDeclare : May := .join ⟨0, [], [], [], []⟩ [Touch.declareDefect, Touch.judgeFill]
theorem touches_execLofDeclare (hF : Φ.covers Touch.execLofDeclare = true) : Touches Φ s (execLofDeclare s) := by
  simp [Touch.execLofDeclare] at hF
  refine touches_perform ?_
  simp [hF]

def Touch.execLofClear : May := .join ⟨0, [], [], [], []⟩ [Touch.clearDefect, Touch.judgeFill]
theorem touches_execLofClear (hF : Φ.covers Touch.execLofClear = true) : Touches Φ s (execLofClear s) := by
  simp [Touch.execLofClear] at hF
  refine touches_perform ?_
  simp [hF]

def Touch.execLomDeclare : May := .join ⟨0, [], [], [], []⟩ [Touch.declareDefect, Touch.judgeFill]
theorem touches_execLomDeclare (hF : Φ.covers Touch.execLomDeclare = true) : Touches Φ s (execLomDeclare s) := by
  simp [Touch.execLomDeclare] at hF
  refine touches_perform ?_
  simp [hF]

def Touch.execLomClear : May := .join ⟨0, [], [], [], []⟩ [Touch.clearDefect, Touch.judgeFill]
theorem touches_execLomClear (hF : Φ.covers Touch.execLomClear = true) : Touches Φ s (execLomClear s) := by
  simp [Touch.execLomClear] at hF
  refine touches_perform ?_
  simp [hF]

def Touch.execFrmCfg : May := .join Touch.felwinN [Touch.opFrmCfg]
theorem touches_execFrmCfg (h : CmdHdr) (p : List Word) (hF : Φ.covers Touch.execFrmCfg = true) : Touches Φ s (execFrmCfg h p s) :=
  touches_felwin h p hF fun s => within_opFrmCfg h _ s

def Touch.execFrmStatus : May := Touch.felwinN
theorem touches_execFrmStatus (h : CmdHdr) (p : List Word) (hF : Φ.covers Touch.execFrmStatus = true) : Touches Φ s (execFrmStatus h p s) :=
  touches_perform (within_felwin _ h p hF fun s => within_opFrmStatus h _ s)

def Touch.execFrmPmGet : May := Touch.felwinN
theorem touches_execFrmPmGet (h : CmdHdr) (p : List Word) (hF : Φ.covers Touch.execFrmPmGet = true) : Touches Φ s (execFrmPmGet h p s) :=
  touches_perform (within_felwin _ h p hF fun s => within_opFrmPmGet h _ s)

def Touch.execFrmTtiSet : May := .join Touch.felwinN [Touch.opFrmTtiSet]
theorem touches_execFrmTtiSet (h : CmdHdr) (p : List Word) (hF : Φ.covers Touch.execFrmTtiSet = true) : Touches Φ s (execFrmTtiSet h p s) :=
  touches_felwin h p hF fun s => within_opFrmTtiSet h _ s

def Touch.execFrmTtiGet : May := Touch.felwinN
theorem touches_execFrmTtiGet (h : CmdHdr) (p : List Word) (hF : Φ.covers Touch.execFrmTtiGet = true) : Touches Φ s (execFrmTtiGet h p s) :=
  touches_perform (within_felwin _ h p hF fun s => within_opFrmTtiGet h _ s)

def Touch.execFrmOhcCfg : May := .join Touch.felwinN [Touch.opFrmOhcCfg]
theorem touches_execFrmOhcCfg (h : CmdHdr) (p : List Word) (hF : Φ.covers Touch.execFrmOhcCfg = true) : Touches Φ s (execFrmOhcCfg h p s) :=
  touches_felwin h p hF fun s => within_opFrmOhcCfg h _ s

def Touch.execFrmOhcXfer : May := .join Touch.felwinN [Touch.opFrmOhcXfer]
theorem touches_execFrmOhcXfer (h : CmdHdr) (p : List Word) (hF : Φ.covers Touch.execFrmOhcXfer = true) : Touches Φ s (execFrmOhcXfer h p s) :=
  touches_felwin h p hF fun s => within_opFrmOhcXfer h _ s

def Touch.execFrmCntClr : May := .join ⟨0, [FRM_CTRL.CNT_CLR], [], [], []⟩ [Touch.byMaster, Touch.frmCntClr]
theorem touches_execFrmCntClr (m : Mast) (hF : Φ.covers Touch.execFrmCntClr = true) : Touches Φ s (execFrmCntClr m s) := by
  simp [Touch.execFrmCntClr] at hF
  refine touches_perform ?_
  simp [hF]

def Touch.execPmSecond : May := .join ⟨0, [FRM_PM_CTRL.GEN], [EV.PM_LATCH], [], [.frm]⟩ [Touch.fecSecond, Touch.judgeDeg, Touch.latchBank]
theorem touches_execPmSecond (hF : Φ.covers Touch.execPmSecond = true) : Touches Φ s (execPmSecond s) := by
  simp [Touch.execPmSecond] at hF
  refine touches_perform ?_
  simp [hF]

/-! ### Client -/

def Touch.execCliAdd : May := .join Touch.felwinN [Touch.opCliAdd]
theorem touches_execCliAdd (h : CmdHdr) (p : List Word) (hF : Φ.covers Touch.execCliAdd = true) : Touches Φ s (execCliAdd h p s) :=
  touches_felwin h p hF fun s => within_opCliAdd h _ s

def Touch.execCliRemove : May := .join Touch.felwinN [Touch.opCliRemove]
theorem touches_execCliRemove (h : CmdHdr) (p : List Word) (hF : Φ.covers Touch.execCliRemove = true) : Touches Φ s (execCliRemove h p s) :=
  touches_felwin h p hF fun s => within_opCliRemove h _ s

def Touch.execCliMove : May := .join Touch.felwinN [Touch.opCliMove]
theorem touches_execCliMove (h : CmdHdr) (p : List Word) (hF : Φ.covers Touch.execCliMove = true) : Touches Φ s (execCliMove h p s) :=
  touches_felwin h p hF fun s => within_opCliMove h _ s

def Touch.execCliMoveCancel : May := .join Touch.felwinN [Touch.opCliMoveCancel]
theorem touches_execCliMoveCancel (h : CmdHdr) (p : List Word) (hF : Φ.covers Touch.execCliMoveCancel = true) : Touches Φ s (execCliMoveCancel h p s) :=
  touches_felwin h p hF fun s => within_opCliMoveCancel h _ s

def Touch.execCliStatus : May := Touch.felwinN
theorem touches_execCliStatus (h : CmdHdr) (p : List Word) (hF : Φ.covers Touch.execCliStatus = true) : Touches Φ s (execCliStatus h p s) :=
  touches_perform (within_felwin _ h p hF fun s => within_opCliStatus h _ s)

def Touch.execCliCounters : May := .join Touch.felwinN [Touch.opCliCounters]
theorem touches_execCliCounters (h : CmdHdr) (p : List Word) (hF : Φ.covers Touch.execCliCounters = true) : Touches Φ s (execCliCounters h p s) :=
  touches_felwin h p hF fun s => within_opCliCounters h _ s

def Touch.execCliTsCfg : May := .join Touch.felwinN [Touch.opCliTsCfg]
theorem touches_execCliTsCfg (h : CmdHdr) (p : List Word) (hF : Φ.covers Touch.execCliTsCfg = true) : Touches Φ s (execCliTsCfg h p s) :=
  touches_felwin h p hF fun s => within_opCliTsCfg h _ s

def Touch.execCliLoop : May := .join Touch.felwinN [Touch.opCliLoop]
theorem touches_execCliLoop (h : CmdHdr) (p : List Word) (hF : Φ.covers Touch.execCliLoop = true) : Touches Φ s (execCliLoop h p s) :=
  touches_felwin h p hF fun s => within_opCliLoop h _ s

def Touch.execCliSlotMap : May := Touch.felwinN
theorem touches_execCliSlotMap (h : CmdHdr) (p : List Word) (hF : Φ.covers Touch.execCliSlotMap = true) : Touches Φ s (execCliSlotMap h p s) :=
  touches_perform (within_felwin _ h p hF fun s => within_opCliSlotMap h _ s)

def Touch.execCliCntClr : May := .join ⟨0, [CLI_CTRL.CNT_CLR], [], [], []⟩ [Touch.byMaster, Touch.cliCntClr]
theorem touches_execCliCntClr (m : Mast) (hF : Φ.covers Touch.execCliCntClr = true) : Touches Φ s (execCliCntClr m s) := by
  simp [Touch.execCliCntClr] at hF
  refine touches_perform ?_
  simp [hF]

def Touch.execPsiMultiframe : May := .join ⟨0, [CLI_STATUS.ORPHAN], [], [], [.cli]⟩ [Touch.acceptEntries, Touch.judgeSlots, Touch.takeRecord]
theorem touches_execPsiMultiframe (act pend : List (BitVec 16)) (rec : List (BitVec 8)) (hF : Φ.covers Touch.execPsiMultiframe = true) : Touches Φ s (execPsiMultiframe act pend rec s) := by
  simp [Touch.execPsiMultiframe] at hF
  refine touches_perform ?_
  simp [hF]

def Touch.execClientIngressFail : May := .join ⟨0, [CLI_CH_SKEW.ALL, CLI_CH_STAT.ING_FAIL, CLI_CH_STAT.REALIGN, CLI_CH_STAT.SKEW], [EV.CLI_SKEW], [(288,
  128)], []⟩ [Touch.chDown]
theorem touches_execClientIngressFail (t : Fin 32) (why : Fin 3) (lane : Fin 16) (skew : BitVec 14) (errs : Nat) (hF : Φ.covers Touch.execClientIngressFail = true) : Touches Φ s (execClientIngressFail t why lane skew errs s) := by
  simp [Touch.execClientIngressFail] at hF
  have herr := cnt_cliCnt hF.1.2 t.isLt (by decide : 1 < 4)
  refine touches_perform ?_
  simp [hF, herr]

def Touch.execIngressFailClear : May := ⟨0, [CLI_CH_SKEW.ALL, CLI_CH_STAT.ING_FAIL, CLI_CH_STAT.SKEW, CLI_CH_STAT.STATE], [], [], []⟩
theorem touches_execIngressFailClear (t : Fin 32) (skew : BitVec 14) (hF : Φ.covers Touch.execIngressFailClear = true) : Touches Φ s (execIngressFailClear t skew s) := by
  simp [Touch.execIngressFailClear] at hF
  refine touches_perform ?_
  simp [hF]

def Touch.execClientUp : May := ⟨0, [CLI_CH_STAT.LF_OUT, CLI_CH_STAT.STATE], [EV.CLIENT_UP], [], []⟩
theorem touches_execClientUp (t : Fin 32) (hF : Φ.covers Touch.execClientUp = true) : Touches Φ s (execClientUp t s) := by
  simp [Touch.execClientUp] at hF
  refine touches_perform ?_
  simp [hF]

def Touch.execClientFrameEgress : May := .join ⟨0, [], [], [(288, 128)], [.cli]⟩ [Touch.ohRead]
theorem touches_execClientFrameEgress (t : Fin 32) (hF : Φ.covers Touch.execClientFrameEgress = true) : Touches Φ s (execClientFrameEgress t s) := by
  simp [Touch.execClientFrameEgress] at hF
  have hslip := fun c (hc : c < 4) => cnt_cliCnt hF.1.1 t.isLt hc
  refine touches_perform ?_
  simp [hF, hslip, Touch.cbrRead, Touch.cbrSlip]

/-! ### Lanes -/

def Touch.execSrdLaneSet : May := .join Touch.felwinN [Touch.opSrdLaneSet]
theorem touches_execSrdLaneSet (h : CmdHdr) (p : List Word) (hF : Φ.covers Touch.execSrdLaneSet = true) : Touches Φ s (execSrdLaneSet h p s) :=
  touches_felwin h p hF fun s => within_opSrdLaneSet h _ s

def Touch.execSrdStatus : May := Touch.felwinN
theorem touches_execSrdStatus (h : CmdHdr) (p : List Word) (hF : Φ.covers Touch.execSrdStatus = true) : Touches Φ s (execSrdStatus h p s) :=
  touches_perform (within_felwin _ h p hF fun s => within_opSrdStatus h _ s)

def Touch.execSrdEyeScan : May := .join Touch.felwinN [Touch.opSrdEyeScan]
theorem touches_execSrdEyeScan (h : CmdHdr) (p : List Word) (hF : Φ.covers Touch.execSrdEyeScan = true) : Touches Φ s (execSrdEyeScan h p s) :=
  touches_felwin h p hF fun s => within_opSrdEyeScan h _ s

def Touch.execEyeDone : May := .join ⟨0, [SRD_EYE_SUM.HEIGHT, SRD_EYE_SUM.WIDTH, SRD_LANE_STAT.SCAN], [EV.EYE_DONE], [], [.srd]⟩ [Touch.finish,
  Touch.judgeEye]
theorem touches_execEyeDone (n : Fin 34) (aborted : Bool) (errs : List (Option Nat)) (vstep : BitVec 16) (phase : BitVec 8) (hF : Φ.covers Touch.execEyeDone = true) : Touches Φ s (execEyeDone n aborted errs vstep phase s) := by
  simp [Touch.execEyeDone] at hF
  refine touches_perform ?_
  simp only [within_dyn]
  (repeat' split) <;> simp [hF]

def Touch.execSrdJigSet : May := .join Touch.felwinN [Touch.opSrdJigSet]
theorem touches_execSrdJigSet (h : CmdHdr) (p : List Word) (hF : Φ.covers Touch.execSrdJigSet = true) : Touches Φ s (execSrdJigSet h p s) :=
  touches_felwin h p hF fun s => within_opSrdJigSet h _ s

def Touch.execSrdJigGet : May := .join Touch.felwinN [Touch.opSrdJigGet]
theorem touches_execSrdJigGet (h : CmdHdr) (p : List Word) (hF : Φ.covers Touch.execSrdJigGet = true) : Touches Φ s (execSrdJigGet h p s) :=
  touches_felwin h p hF fun s => within_opSrdJigGet h _ s

def Touch.execSrdCntClr : May := .join ⟨0, [SRD_CTRL.CNT_CLR], [], [], []⟩ [Touch.byMaster, Touch.srdCntClr]
theorem touches_execSrdCntClr (m : Mast) (hF : Φ.covers Touch.execSrdCntClr = true) : Touches Φ s (execSrdCntClr m s) := by
  simp [Touch.execSrdCntClr] at hF
  refine touches_perform ?_
  simp [hF]

def Touch.execLaneRetrain : May := .join ⟨0, [SRD_LANE_CTRL.RETRAIN], [], [], []⟩ [Touch.byMaster, Touch.retrain]
theorem touches_execLaneRetrain (m : Mast) (n : Fin 34) (hF : Φ.covers Touch.execLaneRetrain = true) : Touches Φ s (execLaneRetrain m n s) := by
  simp [Touch.execLaneRetrain] at hF
  refine touches_perform ?_
  simp [hF]

def Touch.execJigInject : May := .join ⟨0, [SRD_JIG_CFG.INJ_GO], [], [], []⟩ [Touch.byMaster, Touch.injGoWrite]
theorem touches_execJigInject (m : Mast) (n : Fin 22) (hF : Φ.covers Touch.execJigInject = true) : Touches Φ s (execJigInject m n s) := by
  simp [Touch.execJigInject] at hF
  refine touches_perform ?_
  simp [hF]

def Touch.execJigLock : May := ⟨0, [SRD_JIG_CFG.LOCK], [EV.JIG_LOCK], [(672, 136)], []⟩
theorem touches_execJigLock (n : Fin 22) (bits errs : Nat) (hF : Φ.covers Touch.execJigLock = true) : Touches Φ s (execJigLock n bits errs s) := by
  simp [Touch.execJigLock] at hF
  have hbits := cnt_srdCnt hF.2 (Nat.lt_of_lt_of_le n.isLt (by decide)) (by decide : 2 < 4)
  have herrs := cnt_srdCnt hF.2 (Nat.lt_of_lt_of_le n.isLt (by decide)) (by decide : 3 < 4)
  refine touches_perform ?_
  simp [hF, hbits, herrs]

def Touch.execJigUnlock : May := ⟨0, [SRD_JIG_CFG.LOCK], [EV.JIG_UNLOCK], [(672, 136)], []⟩
theorem touches_execJigUnlock (n : Fin 22) (bits errs : Nat) (hF : Φ.covers Touch.execJigUnlock = true) : Touches Φ s (execJigUnlock n bits errs s) := by
  simp [Touch.execJigUnlock] at hF
  have hbits := cnt_srdCnt hF.2 (Nat.lt_of_lt_of_le n.isLt (by decide)) (by decide : 2 < 4)
  have herrs := cnt_srdCnt hF.2 (Nat.lt_of_lt_of_le n.isLt (by decide)) (by decide : 3 < 4)
  refine touches_perform ?_
  simp [hF, hbits, herrs]

def Touch.execLanePowerUp : May := ⟨0, [SRD_LANE_STAT.STATE], [], [], []⟩
theorem touches_execLanePowerUp (k : Fin 6) (hF : Φ.covers Touch.execLanePowerUp = true) : Touches Φ s (execLanePowerUp k s) := by
  simp [Touch.execLanePowerUp] at hF
  refine touches_perform ?_
  simp [hF]

def Touch.execLaneTrained : May := .join ⟨0, [SRD_LANE_STAT.SIG, SRD_LANE_STAT.STATE, SRD_LANE_STAT.SYNC], [], [], []⟩ [Touch.laneReady]
theorem touches_execLaneTrained (n : Fin 34) (hF : Φ.covers Touch.execLaneTrained = true) : Touches Φ s (execLaneTrained n s) := by
  simp [Touch.execLaneTrained] at hF
  refine touches_perform ?_
  simp [hF]

def Touch.execTrainTimeout : May := .join ⟨0, [SRD_LANE_STAT.STATE], [EV.TRAIN_FAIL], [], []⟩ [Touch.laneIngress]
theorem touches_execTrainTimeout (n : Fin 34) (hF : Φ.covers Touch.execTrainTimeout = true) : Touches Φ s (execTrainTimeout n s) := by
  simp [Touch.execTrainTimeout] at hF
  refine touches_perform ?_
  simp [hF]

def Touch.execTrainRetry : May := ⟨0, [SRD_LANE_STAT.STATE], [], [], []⟩
theorem touches_execTrainRetry (n : Fin 34) (hF : Φ.covers Touch.execTrainRetry = true) : Touches Φ s (execTrainRetry n s) := by
  simp [Touch.execTrainRetry] at hF
  refine touches_perform ?_
  simp [hF]

def Touch.execLaneSignalLoss : May := .join ⟨0, [SRD_LANE_STAT.RETRAINS, SRD_LANE_STAT.SIG], [], [], []⟩ [Touch.startTraining]
theorem touches_execLaneSignalLoss (n : Fin 34) (hF : Φ.covers Touch.execLaneSignalLoss = true) : Touches Φ s (execLaneSignalLoss n s) := by
  simp [Touch.execLaneSignalLoss] at hF
  refine touches_perform ?_
  simp [hF]

def Touch.execAlign : May := .join ⟨0, [SRD_LANE_STAT.SIG, SRD_LANE_STAT.STATE, SRD_LANE_STAT.SYNC], [], [(672, 136)], []⟩
  [Touch.modGrp, Touch.dropLane, Touch.judgeGroup, Touch.judgeWidth, Touch.farWidth]
theorem touches_execAlign (g : Fin 2) (lanes : List AlignLane) (active next good : BitVec 4) (hF : Φ.covers Touch.execAlign = true) : Touches Φ s (execAlign g lanes active next good s) := by
  simp [Touch.execAlign] at hF
  refine touches_perform ?_
  simp only [within_seq_cons, within_seq_nil, and_true]
  refine ⟨within_forE_mem fun p hp t => within_alignLane _ _ _ ?_, by simp [hF], by simp [hF], by simp [hF], by simp [hF]⟩
  have hlane : p.1 < 4 := lt_of_lt_of_le (List.mem_range.1 (List.of_mem_zip hp).1) (by split <;> decide)
  have herr := cnt_srdCnt hF.1.2 (grpLane_lt g hlane) (by decide : 0 < 4)
  simp [Touch.alignLane, hF, herr]

def Touch.execLaneWtrEnd : May := .join ⟨0, [SRD_LANE_STAT.STATE], [], [], []⟩ [Touch.modGrp]
theorem touches_execLaneWtrEnd (n : Fin 34) (hF : Φ.covers Touch.execLaneWtrEnd = true) : Touches Φ s (execLaneWtrEnd n s) := by
  simp [Touch.execLaneWtrEnd] at hF
  refine touches_perform ?_
  (repeat' split) <;> simp [hF]

def Touch.execPacketRx : May := ⟨0, [], [], [(672, 136)], []⟩
theorem touches_execPacketRx (g : Fin 2) (cols : List (List CodeGroup)) (noAlign : Bool) (hF : Φ.covers Touch.execPacketRx = true) : Touches Φ s (execPacketRx g cols noAlign s) := by
  simp [Touch.execPacketRx] at hF
  refine touches_perform ?_
  simp only [within_dyn]
  split
  · refine within_forE_mem fun l hl t => ?_
    have hlane : l.2 < 4 := List.mem_range.1 (List.mem_filter.1 (List.of_mem_zip (List.mem_filter.1 hl).1).2).1
    simpa using cnt_srdCnt hF (grpLane_lt g hlane) (by decide : 1 < 4)
  · simp

/-! ### Engines -/

def Touch.execEngWatchdog : May := .join ⟨0, [], [], [(48, 8)], []⟩ [Touch.engStops]
theorem touches_execEngWatchdog (e : Fin 64) (hF : Φ.covers Touch.execEngWatchdog = true) : Touches Φ s (execEngWatchdog e s) := by
  simp [Touch.execEngWatchdog] at hF
  have hcnt := Foot.cnt_of_cnts (j := 48 + e.val / 8) hF.1 (by omega) (by omega)
  refine touches_perform ?_
  simp [hF, hcnt]

def Touch.execEngTrap : May := .join ⟨0, [], [], [], []⟩ [Touch.engStops]
theorem touches_execEngTrap (e : Fin 64) (hF : Φ.covers Touch.execEngTrap = true) : Touches Φ s (execEngTrap e s) := by
  simp [Touch.execEngTrap] at hF
  refine touches_perform ?_
  simp [hF]

def Touch.execEngEcc : May := .join ⟨0, [ENG_CORE.SBE], [EV.ENG_ECC], [], []⟩ [Touch.failEngine]
theorem touches_execEngEcc (e : Fin 64) (corrected : Bool) (hF : Φ.covers Touch.execEngEcc = true) : Touches Φ s (execEngEcc e corrected s) := by
  simp [Touch.execEngEcc] at hF
  refine touches_perform ?_
  simp [hF]

def Touch.execTaskResume : May := .join ⟨0, [], [], [], [.eng]⟩ [Touch.setEng, Touch.giveTask]
theorem touches_execTaskResume (sp : Fin 64) (pass : Bool) (hF : Φ.covers Touch.execTaskResume = true) : Touches Φ s (execTaskResume sp pass s) := by
  simp [Touch.execTaskResume] at hF
  refine touches_perform ?_
  simp only [within_dyn]
  (repeat' split) <;> simp [hF]

def Touch.execEngineRetest : May := .join ⟨0, [], [], [], []⟩ [Touch.setEng]
theorem touches_execEngineRetest (e : Fin 64) (pass : Bool) (hF : Φ.covers Touch.execEngineRetest = true) : Touches Φ s (execEngineRetest e pass s) := by
  simp [Touch.execEngineRetest] at hF
  refine touches_perform ?_
  simp [hF]

def Touch.execSpareWtrEnd : May := .join ⟨0, [], [], [], [.eng]⟩ [Touch.setEng, Touch.dropTask, Touch.spareNoneClears]
theorem touches_execSpareWtrEnd (e : Fin 64) (hF : Φ.covers Touch.execSpareWtrEnd = true) : Touches Φ s (execSpareWtrEnd e s) := by
  simp [Touch.execSpareWtrEnd] at hF
  refine touches_perform ?_
  simp only [within_dyn]
  (repeat' split) <;> simp [hF]

def Touch.execSharedSramError : May := .join ⟨0, [], [], [], []⟩ [Touch.enterFault]
theorem touches_execSharedSramError (c : Fin 8) (hF : Φ.covers Touch.execSharedSramError = true) : Touches Φ s (execSharedSramError c s) := by
  simp [Touch.execSharedSramError] at hF
  refine touches_perform ?_
  simp [hF]

def Touch.execEngStatus : May := Touch.felwinN
theorem touches_execEngStatus (h : CmdHdr) (p : List Word) (hF : Φ.covers Touch.execEngStatus = true) : Touches Φ s (execEngStatus h p s) :=
  touches_perform (within_felwin _ h p hF fun s => within_opEngStatus h _ s)

def Touch.execEngCfg : May := .join Touch.felwinN [Touch.opEngCfg]
theorem touches_execEngCfg (h : CmdHdr) (p : List Word) (hF : Φ.covers Touch.execEngCfg = true) : Touches Φ s (execEngCfg h p s) :=
  touches_felwin h p hF fun s => within_opEngCfg h _ s

def Touch.execFwStage : May := .join Touch.felwinN [Touch.opFwStage]
theorem touches_execFwStage (h : CmdHdr) (p : List Word) (hF : Φ.covers Touch.execFwStage = true) : Touches Φ s (execFwStage h p s) :=
  touches_felwin h p hF fun s => within_opFwStage h _ s

def Touch.execFwStageDone : May := .join ⟨0, [ENG_FW_STAT.PHASE], [], [], [.eng, .sec]⟩ [Touch.finish]
theorem touches_execFwStageDone (hdr body : List Word) (hF : Φ.covers Touch.execFwStageDone = true) : Touches Φ s (execFwStageDone hdr body s) := by
  simp [Touch.execFwStageDone] at hF
  refine touches_perform ?_
  simp only [within_dyn]
  (repeat' split) <;> simp [hF]

def Touch.execFwActivate : May := .join Touch.felwinN [Touch.opFwActivate]
theorem touches_execFwActivate (h : CmdHdr) (p : List Word) (hF : Φ.covers Touch.execFwActivate = true) : Touches Φ s (execFwActivate h p s) :=
  touches_felwin h p hF fun s => within_opFwActivate h _ s

def Touch.execFwProbationEnd : May := .join ⟨0, [ENG_CORE.IMAGE], [EV.FW_ENGINE_DONE], [], [.eng]⟩ [Touch.setEng, Touch.fwNextStep]
theorem touches_execFwProbationEnd (hF : Φ.covers Touch.execFwProbationEnd = true) : Touches Φ s (execFwProbationEnd s) := by
  simp [Touch.execFwProbationEnd] at hF
  refine touches_perform ?_
  simp only [within_dyn]
  (repeat' split) <;> simp [hF]

def Touch.execFwCommit : May := .join Touch.felwinN [Touch.opFwCommit]
theorem touches_execFwCommit (h : CmdHdr) (p : List Word) (hF : Φ.covers Touch.execFwCommit = true) : Touches Φ s (execFwCommit h p s) :=
  touches_felwin h p hF fun s => within_opFwCommit h _ s

def Touch.execSbxLoad : May := .join Touch.felwinN [Touch.opSbxLoad]
theorem touches_execSbxLoad (h : CmdHdr) (p : List Word) (hF : Φ.covers Touch.execSbxLoad = true) : Touches Φ s (execSbxLoad h p s) :=
  touches_felwin h p hF fun s => within_opSbxLoad h _ s

def Touch.execSbxLoadDone : May := .join ⟨0, [], [], [], [.eng, .sec]⟩ [Touch.finish, Touch.sbxStop]
theorem touches_execSbxLoadDone (hdr body : List Word) (hF : Φ.covers Touch.execSbxLoadDone = true) : Touches Φ s (execSbxLoadDone hdr body s) := by
  simp [Touch.execSbxLoadDone] at hF
  refine touches_perform ?_
  simp only [within_dyn]
  (repeat' split) <;> simp [hF]

def Touch.execSbxCtrl : May := .join Touch.felwinN [Touch.opSbxCtrl]
theorem touches_execSbxCtrl (h : CmdHdr) (p : List Word) (hF : Φ.covers Touch.execSbxCtrl = true) : Touches Φ s (execSbxCtrl h p s) :=
  touches_felwin h p hF fun s => within_opSbxCtrl h _ s

/-! ### Observe -/

def Touch.execObsSnapshot : May := .join Touch.felwinN [Touch.opObsSnapshot]
theorem touches_execObsSnapshot (h : CmdHdr) (p : List Word) (hF : Φ.covers Touch.execObsSnapshot = true) : Touches Φ s (execObsSnapshot h p s) :=
  touches_felwin h p hF fun s => within_opObsSnapshot h _ s

def Touch.execObsCntRead : May := .join Touch.felwinN [Touch.opObsCntRead]
theorem touches_execObsCntRead (h : CmdHdr) (p : List Word) (hF : Φ.covers Touch.execObsCntRead = true) : Touches Φ s (execObsCntRead h p s) :=
  touches_felwin h p hF fun s => within_opObsCntRead h _ s

theorem touches_execObsCntPreset (h : CmdHdr) (p : List Word) (hw : Φ.Wide) : Touches Φ s (execObsCntPreset h p s) :=
  touches_perform (within_felwin _ h p (hw.covers (by decide +kernel)) fun s => within_opObsCntPreset h _ s hw.cnt)

def Touch.execObsEvtRoute : May := .join Touch.felwinN [Touch.opObsEvtRoute]
theorem touches_execObsEvtRoute (h : CmdHdr) (p : List Word) (hF : Φ.covers Touch.execObsEvtRoute = true) : Touches Φ s (execObsEvtRoute h p s) :=
  touches_felwin h p hF fun s => within_opObsEvtRoute h _ s

def Touch.execObsDumpCfg : May := .join Touch.felwinN [Touch.opObsDumpCfg]
theorem touches_execObsDumpCfg (h : CmdHdr) (p : List Word) (hF : Φ.covers Touch.execObsDumpCfg = true) : Touches Φ s (execObsDumpCfg h p s) :=
  touches_felwin h p hF fun s => within_opObsDumpCfg h _ s

def Touch.execObsBwCfg : May := .join Touch.felwinN [Touch.opObsBwCfg]
theorem touches_execObsBwCfg (h : CmdHdr) (p : List Word) (hF : Φ.covers Touch.execObsBwCfg = true) : Touches Φ s (execObsBwCfg h p s) :=
  touches_felwin h p hF fun s => within_opObsBwCfg h _ s

def Touch.execCapCfg : May := .join Touch.felwinN [Touch.opCapCfg]
theorem touches_execCapCfg (h : CmdHdr) (p : List Word) (hF : Φ.covers Touch.execCapCfg = true) : Touches Φ s (execCapCfg h p s) :=
  touches_felwin h p hF fun s => within_opCapCfg h _ s

def Touch.execCapTrigger : May := .join Touch.felwinN [Touch.opCapTrigger]
theorem touches_execCapTrigger (h : CmdHdr) (p : List Word) (hF : Φ.covers Touch.execCapTrigger = true) : Touches Φ s (execCapTrigger h p s) :=
  touches_felwin h p hF fun s => within_opCapTrigger h _ s

def Touch.execCapRead : May := .join Touch.felwinN [Touch.opCapRead]
theorem touches_execCapRead (h : CmdHdr) (p : List Word) (hF : Φ.covers Touch.execCapRead = true) : Touches Φ s (execCapRead h p s) :=
  touches_felwin h p hF fun s => within_opCapRead h _ s

def Touch.execCapReadDone : May := .join ⟨0, [], [], [], [.obs]⟩ [Touch.finish]
theorem touches_execCapReadDone (hF : Φ.covers Touch.execCapReadDone = true) : Touches Φ s (execCapReadDone s) := by
  simp [Touch.execCapReadDone] at hF
  refine touches_perform ?_
  simp only [within_dyn]
  (repeat' split) <;> simp [hF]

def Touch.execCapRearm : May := .join Touch.felwinN [Touch.opCapRearm]
theorem touches_execCapRearm (h : CmdHdr) (p : List Word) (hF : Φ.covers Touch.execCapRearm = true) : Touches Φ s (execCapRearm h p s) :=
  touches_felwin h p hF fun s => within_opCapRearm h _ s

def Touch.execRecCfg : May := .join Touch.felwinN [Touch.opRecCfg]
theorem touches_execRecCfg (h : CmdHdr) (p : List Word) (hF : Φ.covers Touch.execRecCfg = true) : Touches Φ s (execRecCfg h p s) :=
  touches_felwin h p hF fun s => within_opRecCfg h _ s

def Touch.execRecRead : May := .join Touch.felwinN [Touch.opRecRead]
theorem touches_execRecRead (h : CmdHdr) (p : List Word) (hF : Φ.covers Touch.execRecRead = true) : Touches Φ s (execRecRead h p s) :=
  touches_felwin h p hF fun s => within_opRecRead h _ s

def Touch.execRecReadDone : May := .join ⟨0, [], [], [], [.obs]⟩ [Touch.finishFl]
theorem touches_execRecReadDone (n first last : Nat) (part : Bool) (hF : Φ.covers Touch.execRecReadDone = true) : Touches Φ s (execRecReadDone n first last part s) := by
  simp [Touch.execRecReadDone] at hF
  refine touches_perform ?_
  simp only [within_dyn]
  (repeat' split) <;> simp [hF]

def Touch.execRecHold : May := .join Touch.felwinN [Touch.opRecHold]
theorem touches_execRecHold (h : CmdHdr) (p : List Word) (hF : Φ.covers Touch.execRecHold = true) : Touches Φ s (execRecHold h p s) :=
  touches_felwin h p hF fun s => within_opRecHold h _ s

def Touch.execRecStatus : May := Touch.felwinN
theorem touches_execRecStatus (h : CmdHdr) (p : List Word) (hF : Φ.covers Touch.execRecStatus = true) : Touches Φ s (execRecStatus h p s) :=
  touches_perform (within_felwin _ h p hF fun s => within_opRecStatus h _ s)

def Touch.execObsCntClr : May := .join ⟨0, [OBS_CTRL.CNT_CLR], [], [], []⟩ [Touch.byMaster]
theorem touches_execObsCntClr (m : Mast) (hF : Φ.covers Touch.execObsCntClr = true) (hw : Φ.Wide) : Touches Φ s (execObsCntClr m s) := by
  simp [Touch.execObsCntClr] at hF
  refine touches_perform ?_
  simp [hF, hw.cnt]

def Touch.execBwClear : May := .join ⟨0, [OBS_CTRL.BW_CLR], [], [], []⟩ [Touch.byMaster, Touch.bwClear]
theorem touches_execBwClear (m : Mast) (hF : Φ.covers Touch.execBwClear = true) : Touches Φ s (execBwClear m s) := by
  simp [Touch.execBwClear] at hF
  refine touches_perform ?_
  simp [hF]

def Touch.execObsSnapTake : May := .join ⟨0, [OBS_SNAP.GEN, OBS_SNAP.TAKE], [], [], [.bank]⟩ [Touch.byMaster]
theorem touches_execObsSnapTake (m : Mast) (hF : Φ.covers Touch.execObsSnapTake = true) : Touches Φ s (execObsSnapTake m s) := by
  simp [Touch.execObsSnapTake] at hF
  refine touches_perform ?_
  simp [hF]

def Touch.execObsPreset : May := .join ⟨0, [OBS_PRESET_CTRL.GO, OBS_PRESET_CTRL.INDEX], [], [], []⟩ [Touch.byMaster]
theorem touches_execObsPreset (m : Mast) (index : BitVec 11) (hF : Φ.covers Touch.execObsPreset = true) (hw : Φ.Wide) : Touches Φ s (execObsPreset m index s) := by
  simp [Touch.execObsPreset] at hF
  refine touches_perform ?_
  simp [hF, hw.cnt]

def Touch.execWrapClear : May := .join ⟨0, [OBS_WRAP_CLR.ALL], [], [], []⟩ [Touch.byMaster]
theorem touches_execWrapClear (m : Mast) (i : Fin 64) (mask : Word) (hF : Φ.covers Touch.execWrapClear = true) (hw : Φ.Wide) : Touches Φ s (execWrapClear m i mask s) := by
  simp [Touch.execWrapClear] at hF
  refine touches_perform ?_
  simp [hF, hw.cnt]

def Touch.execDumpPeriod : May := .join ⟨0, [], [], [], []⟩ [Touch.takeDump]
theorem touches_execDumpPeriod (hF : Φ.covers Touch.execDumpPeriod = true) : Touches Φ s (execDumpPeriod s) := by
  simp [Touch.execDumpPeriod] at hF
  refine touches_perform ?_
  simp [hF]

def Touch.execBwWindowEnd : May := ⟨0, [OBS_BW_BYTES.ALL, OBS_BW_MAX.ALL, OBS_BW_MIN.ALL, OBS_BW_STAT.FREE_RUN, OBS_BW_STAT.GEN], [], [], [.obs]⟩
theorem touches_execBwWindowEnd (w : Fin 16) (bytes : Nat) (hF : Φ.covers Touch.execBwWindowEnd = true) : Touches Φ s (execBwWindowEnd w bytes s) := by
  simp [Touch.execBwWindowEnd] at hF
  refine touches_perform ?_
  simp [hF]

def Touch.execTriggerInputFire : May := .join ⟨0, [], [], [], [.obs]⟩ [Touch.fireTrigger]
theorem touches_execTriggerInputFire (t : Fin 8) (hF : Φ.covers Touch.execTriggerInputFire = true) : Touches Φ s (execTriggerInputFire t s) := by
  simp [Touch.execTriggerInputFire] at hF
  refine touches_perform ?_
  simp [hF]

def Touch.execCapFrozen : May := .join ⟨0, [OBS_CAP_STAT.RAW_SHORT, OBS_CAP_STAT.RAW_STATE, OBS_CAP_STAT.SOFT_SHORT, OBS_CAP_STAT.SOFT_STATE],
  [EV.CAP_FROZEN], [], [.obs]⟩ [Touch.startDrain]
theorem touches_execCapFrozen (soft filled : Bool) (hF : Φ.covers Touch.execCapFrozen = true) : Touches Φ s (execCapFrozen soft filled s) := by
  simp [Touch.execCapFrozen] at hF
  refine touches_perform ?_
  simp [hF]

def Touch.execDrainDone : May := .join ⟨0, [OBS_CAP_STAT.RAW_STATE, OBS_CAP_STAT.SOFT_STATE, OBS_REC_STAT.DRAINING], [EV.DRAIN_DONE], [], [.obs]⟩
  [Touch.arm]
theorem touches_execDrainDone (soft : Bool) (ms : Nat) (hF : Φ.covers Touch.execDrainDone = true) : Touches Φ s (execDrainDone soft ms s) := by
  simp [Touch.execDrainDone] at hF
  refine touches_perform ?_
  simp only [within_dyn]
  (repeat' split) <;> simp [hF]

def Touch.execSegmentWriteDone : May := .join ⟨0, [], [EV.REC_LOST], [(417, 1)], [.obs, .vnr]⟩ [Touch.setBacklog]
theorem touches_execSegmentWriteDone (hF : Φ.covers Touch.execSegmentWriteDone = true) : Touches Φ s (execSegmentWriteDone s) := by
  simp [Touch.execSegmentWriteDone] at hF
  refine touches_perform ?_
  simp only [within_dyn]
  (repeat' split) <;> simp [hF]

def Touch.execDriveFail : May := .join ⟨0, [], [EV.DRIVE_FAIL], [(66, 2)], [.obs]⟩ [Touch.setDrivesOk]
theorem touches_execDriveFail (port : Fin 2) (nvmeError : Bool) (code : Word) (hF : Φ.covers Touch.execDriveFail = true) : Touches Φ s (execDriveFail port nvmeError code s) := by
  simp [Touch.execDriveFail] at hF
  have hcnt := Foot.cnt_of_cnts (j := 66 + port.val) hF.1.1.2 (by omega) (by omega)
  refine touches_perform ?_
  simp [hF, hcnt]

def Touch.execDriveReady : May := .join ⟨0, [], [EV.DRIVE_READY], [], [.obs]⟩ [Touch.setDrivesOk]
theorem touches_execDriveReady (port : Fin 2) (blocks smart : Word) (hF : Φ.covers Touch.execDriveReady = true) : Touches Φ s (execDriveReady port blocks smart s) := by
  simp [Touch.execDriveReady] at hF
  refine touches_perform ?_
  simp [hF]

def Touch.execEqCoalesceEnd : May := ⟨0, [], [], [], [.sys]⟩
theorem touches_execEqCoalesceEnd (hF : Φ.covers Touch.execEqCoalesceEnd = true) : Touches Φ s (execEqCoalesceEnd s) := by
  simp [Touch.execEqCoalesceEnd] at hF
  refine touches_perform ?_
  simp [hF]

/-! ### Tod -/

def Touch.execSchedSet : May := .join Touch.felwinN [Touch.opSchedSet]
theorem touches_execSchedSet (h : CmdHdr) (p : List Word) (hF : Φ.covers Touch.execSchedSet = true) : Touches Φ s (execSchedSet h p s) :=
  touches_felwin h p hF fun s => within_opSchedSet h _ s

def Touch.execSchedCancel : May := .join Touch.felwinN [Touch.opSchedCancel]
theorem touches_execSchedCancel (h : CmdHdr) (p : List Word) (hF : Φ.covers Touch.execSchedCancel = true) : Touches Φ s (execSchedCancel h p s) :=
  touches_felwin h p hF fun s => within_opSchedCancel h _ s

def Touch.execSchedFire : May := .join ⟨0, [], [], [], []⟩ [Touch.schedRun]
theorem touches_execSchedFire (e : Fin 16) (hF : Φ.covers Touch.execSchedFire = true) : Touches Φ s (execSchedFire e s) := by
  simp [Touch.execSchedFire] at hF
  refine touches_perform ?_
  simp [hF]

def Touch.execTodStep : May := .join Touch.felwinN [Touch.opTodStep]
theorem touches_execTodStep (h : CmdHdr) (p : List Word) (hF : Φ.covers Touch.execTodStep = true) : Touches Φ s (execTodStep h p s) :=
  touches_felwin h p hF fun s => within_opTodStep h _ s

def Touch.execTodStepApply : May := .join ⟨0, [], [], [], []⟩ [Touch.stepTo]
theorem touches_execTodStepApply (hF : Φ.covers Touch.execTodStepApply = true) : Touches Φ s (execTodStepApply s) := by
  simp [Touch.execTodStepApply] at hF
  refine touches_perform ?_
  simp only [within_dyn]
  (repeat' split) <;> simp [hF]

def Touch.execTodGet : May := Touch.felwinN
theorem touches_execTodGet (h : CmdHdr) (p : List Word) (hF : Φ.covers Touch.execTodGet = true) : Touches Φ s (execTodGet h p s) :=
  touches_perform (within_felwin _ h p hF fun s => within_opTodGet h _ s)

def Touch.execTodRearm : May := .join Touch.felwinN [Touch.opTodRearm]
theorem touches_execTodRearm (h : CmdHdr) (p : List Word) (hF : Φ.covers Touch.execTodRearm = true) : Touches Φ s (execTodRearm h p s) :=
  touches_felwin h p hF fun s => within_opTodRearm h _ s

def Touch.execTodRateSet : May := .join Touch.felwinN [Touch.opTodRateSet]
theorem touches_execTodRateSet (h : CmdHdr) (p : List Word) (hF : Φ.covers Touch.execTodRateSet = true) : Touches Φ s (execTodRateSet h p s) :=
  touches_felwin h p hF fun s => within_opTodRateSet h _ s

def Touch.execTimeBaseOk : May := .join ⟨0, [TOD_STATUS.BASE_OK], [], [], []⟩ [Touch.setTod]
theorem touches_execTimeBaseOk (hF : Φ.covers Touch.execTimeBaseOk = true) : Touches Φ s (execTimeBaseOk s) := by
  simp [Touch.execTimeBaseOk] at hF
  refine touches_perform ?_
  simp [hF]

def Touch.execTodLatch : May := .join ⟨0, [TOD_CTRL.LATCH], [], [], []⟩ [Touch.byMaster, Touch.todLatch]
theorem touches_execTodLatch (m : Mast) (hF : Φ.covers Touch.execTodLatch = true) : Touches Φ s (execTodLatch m s) := by
  simp [Touch.execTodLatch] at hF
  refine touches_perform ?_
  simp [hF]

def Touch.execTodCntClr : May := .join ⟨0, [TOD_CTRL.CNT_CLR], [], [], []⟩ [Touch.byMaster, Touch.todCntClr]
theorem touches_execTodCntClr (m : Mast) (hF : Φ.covers Touch.execTodCntClr = true) : Touches Φ s (execTodCntClr m s) := by
  simp [Touch.execTodCntClr] at hF
  refine touches_perform ?_
  simp [hF]

def Touch.execLineStampRx : May := .join ⟨0, [TOD_STATUS.FAR_VALID], [], [], []⟩ [Touch.measure]
theorem touches_execLineStampRx (bytes : List (BitVec 8)) (hF : Φ.covers Touch.execLineStampRx = true) : Touches Φ s (execLineStampRx bytes s) := by
  simp [Touch.execLineStampRx] at hF
  refine touches_perform ?_
  simp only [within_dyn]
  (repeat' split) <;> simp [hF]

def Touch.execAsymHoldEnd : May := .join ⟨0, [TOD_STATUS.HOLD_LEFT], [], [], []⟩ [Touch.acceptAsym]
theorem touches_execAsymHoldEnd (hF : Φ.covers Touch.execAsymHoldEnd = true) : Touches Φ s (execAsymHoldEnd s) := by
  simp [Touch.execAsymHoldEnd] at hF
  refine touches_perform ?_
  simp [hF]

def Touch.execAsymAccept : May := .join Touch.felwinN [Touch.opAsymAccept]
theorem touches_execAsymAccept (h : CmdHdr) (p : List Word) (hF : Φ.covers Touch.execAsymAccept = true) : Touches Φ s (execAsymAccept h p s) :=
  touches_felwin h p hF fun s => within_opAsymAccept h _ s

def Touch.execLineDelay : May := Touch.felwinN
theorem touches_execLineDelay (h : CmdHdr) (p : List Word) (hF : Φ.covers Touch.execLineDelay = true) : Touches Φ s (execLineDelay h p s) :=
  touches_perform (within_felwin _ h p hF fun s => within_opLineDelay h _ s)

/-! ### Pair -/

def Touch.execPairCfg : May := .join Touch.felwinN [Touch.opPairCfg]
theorem touches_execPairCfg (h : CmdHdr) (p : List Word) (hF : Φ.covers Touch.execPairCfg = true) : Touches Φ s (execPairCfg h p s) :=
  touches_felwin h p hF fun s => within_opPairCfg h _ s

def Touch.execPairStatus : May := Touch.felwinN
theorem touches_execPairStatus (h : CmdHdr) (p : List Word) (hF : Φ.covers Touch.execPairStatus = true) : Touches Φ s (execPairStatus h p s) :=
  touches_perform (within_felwin _ h p hF fun s => within_opPairStatus h _ s)

def Touch.execPairSwitch : May := .join Touch.felwinN [Touch.opPairSwitch]
theorem touches_execPairSwitch (h : CmdHdr) (p : List Word) (hF : Φ.covers Touch.execPairSwitch = true) : Touches Φ s (execPairSwitch h p s) :=
  touches_felwin h p hF fun s => within_opPairSwitch h _ s

def Touch.execPairPromote : May := .join Touch.felwinN [Touch.opPairPromote]
theorem touches_execPairPromote (h : CmdHdr) (p : List Word) (hF : Φ.covers Touch.execPairPromote = true) : Touches Φ s (execPairPromote h p s) :=
  touches_felwin h p hF fun s => within_opPairPromote h _ s

def Touch.execPairOos : May := .join Touch.felwinN [Touch.opPairOos]
theorem touches_execPairOos (h : CmdHdr) (p : List Word) (hF : Φ.covers Touch.execPairOos = true) : Touches Φ s (execPairOos h p s) :=
  touches_felwin h p hF fun s => within_opPairOos h _ s

def Touch.execPairReturn : May := .join Touch.felwinN [Touch.opPairReturn]
theorem touches_execPairReturn (h : CmdHdr) (p : List Word) (hF : Φ.covers Touch.execPairReturn = true) : Touches Φ s (execPairReturn h p s) :=
  touches_felwin h p hF fun s => within_opPairReturn h _ s

def Touch.execPairSnapshot : May := .join Touch.felwinN [Touch.opPairSnapshot]
theorem touches_execPairSnapshot (h : CmdHdr) (p : List Word) (hF : Φ.covers Touch.execPairSnapshot = true) : Touches Φ s (execPairSnapshot h p s) :=
  touches_felwin h p hF fun s => within_opPairSnapshot h _ s

def Touch.execPairSpares : May := Touch.felwinN
theorem touches_execPairSpares (h : CmdHdr) (p : List Word) (hF : Φ.covers Touch.execPairSpares = true) : Touches Φ s (execPairSpares h p s) :=
  touches_perform (within_felwin _ h p hF fun s => within_opPairSpares h _ s)

def Touch.execPairCntClr : May := .join ⟨0, [PAIR_CTRL.CNT_CLR], [], [], []⟩ [Touch.byMaster, Touch.pairCntClr]
theorem touches_execPairCntClr (m : Mast) (hF : Φ.covers Touch.execPairCntClr = true) : Touches Φ s (execPairCntClr m s) := by
  simp [Touch.execPairCntClr] at hF
  refine touches_perform ?_
  simp [hF]

def Touch.execHeartbeatTx : May := .join ⟨0, [PAIR_JACK.ALL, PAIR_STATUS.WTR_LEFT], [], [], []⟩ [Touch.sendChanged]
theorem touches_execHeartbeatTx (hF : Φ.covers Touch.execHeartbeatTx = true) : Touches Φ s (execHeartbeatTx s) := by
  simp [Touch.execHeartbeatTx] at hF
  refine touches_perform ?_
  simp [hF]

def Touch.execMitreLinkLost : May := .join ⟨0, [PAIR_STATUS.LINK, PAIR_STATUS.MATE_ROLE], [EV.PAIR_LINK_DOWN], [], [.pair]⟩ [Touch.setRole, Touch.promote]
theorem touches_execMitreLinkLost (groupDown : Bool) (hF : Φ.covers Touch.execMitreLinkLost = true) : Touches Φ s (execMitreLinkLost groupDown s) := by
  simp [Touch.execMitreLinkLost] at hF
  refine touches_perform ?_
  simp [hF]

def Touch.execMitreLinkUp : May := .join ⟨0, [], [], [], []⟩ [Touch.linkUp]
theorem touches_execMitreLinkUp (x : MateHello) (hF : Φ.covers Touch.execMitreLinkUp = true) : Touches Φ s (execMitreLinkUp x s) := by
  simp [Touch.execMitreLinkUp] at hF
  refine touches_perform ?_
  simp [hF]

def Touch.execPairAuthRetry : May := .join ⟨0, [], [], [], []⟩ [Touch.linkUp]
theorem touches_execPairAuthRetry (x : MateHello) (hF : Φ.covers Touch.execPairAuthRetry = true) : Touches Φ s (execPairAuthRetry x s) := by
  simp [Touch.execPairAuthRetry] at hF
  refine touches_perform ?_
  simp [hF]

theorem touches_execPegTx : Touches Φ s (execPegTx s) := by
  refine touches_perform ?_
  simp

def Touch.execPegPulse : May := .join ⟨0, [PAIR_STATUS.PEG, PAIR_STATUS.PEG_CODE], [], [], [.pair]⟩ [Touch.setRole, Touch.promote]
theorem touches_execPegPulse (us : Nat) (hF : Φ.covers Touch.execPegPulse = true) : Touches Φ s (execPegPulse us s) := by
  simp [Touch.execPegPulse] at hF
  refine touches_perform ?_
  simp [hF]

def Touch.execPegLoss : May := .join ⟨0, [PAIR_STATUS.PEG, PAIR_STATUS.PEG_CODE], [EV.PEG_LOST], [], [.pair]⟩ [Touch.setRole, Touch.promote]
theorem touches_execPegLoss (hF : Φ.covers Touch.execPegLoss = true) : Touches Φ s (execPegLoss s) := by
  simp [Touch.execPegLoss] at hF
  refine touches_perform ?_
  simp [hF]

def Touch.execDeathWinEnd : May := .join ⟨0, [], [], [], [.pair]⟩ [Touch.setRole]
theorem touches_execDeathWinEnd (hF : Φ.covers Touch.execDeathWinEnd = true) : Touches Φ s (execDeathWinEnd s) := by
  simp [Touch.execDeathWinEnd] at hF
  refine touches_perform ?_
  simp [hF]

def Touch.execFailRx : May := .join ⟨0, [], [], [], []⟩ [Touch.promoteStandby]
theorem touches_execFailRx (row : Fin 8) (hF : Φ.covers Touch.execFailRx = true) : Touches Φ s (execFailRx row s) := by
  simp [Touch.execFailRx] at hF
  refine touches_perform ?_
  simp [hF]

def Touch.execGapEnd : May := .join ⟨0, [], [EV.PAIR_SWITCHOVER], [], [.pair, .sys]⟩ [Touch.judgeFill, Touch.writePins, Touch.runGapActs]
theorem touches_execGapEnd (hF : Φ.covers Touch.execGapEnd = true) : Touches Φ s (execGapEnd s) := by
  simp [Touch.execGapEnd] at hF
  refine touches_perform ?_
  simp [hF]

theorem touches_execJournalResend : Touches Φ s (execJournalResend s) := by
  refine touches_perform ?_
  simp

def Touch.execSnapshotPeriod : May := .join ⟨0, [], [], [], []⟩ [Touch.cutSnapshot]
theorem touches_execSnapshotPeriod (hF : Φ.covers Touch.execSnapshotPeriod = true) : Touches Φ s (execSnapshotPeriod s) := by
  simp [Touch.execSnapshotPeriod] at hF
  refine touches_perform ?_
  simp [hF]

def Touch.execSnapshotTimeout : May := .join ⟨0, [], [], [], []⟩ [Touch.snapFail]
theorem touches_execSnapshotTimeout (hF : Φ.covers Touch.execSnapshotTimeout = true) : Touches Φ s (execSnapshotTimeout s) := by
  simp [Touch.execSnapshotTimeout] at hF
  refine touches_perform ?_
  simp [hF]

def Touch.execDigestBatchRx : May := .join ⟨0, [], [], [], []⟩ [Touch.meetDigest 0, Touch.meetDigest 1]
theorem touches_execDigestBatchRx (d : Fin 2) (ds : List (BitVec 22 × BitVec 64 × Bool)) (hF : Φ.covers Touch.execDigestBatchRx = true) : Touches Φ s (execDigestBatchRx d ds s) := by
  simp [Touch.execDigestBatchRx] at hF
  have hd : Φ.covers (Touch.meetDigest d.val) = true := by fin_cases d <;> simp [hF]
  refine touches_perform (within_forE fun x t => ?_)
  simp [hd]

def Touch.execDigestMissing : May := ⟨0, [], [], [(285, 1)], [.pair]⟩
theorem touches_execDigestMissing (d : Fin 2) (ftag : BitVec 22) (hF : Φ.covers Touch.execDigestMissing = true) : Touches Φ s (execDigestMissing d ftag s) := by
  simp [Touch.execDigestMissing] at hF
  refine touches_perform ?_
  simp [hF]

def Touch.execIdentificationDone : May := .join ⟨0, [PAIR_STATUS.IDENT, PAIR_STATUS.MATE_ROLE], [EV.PAIR_MISCOMPARE, EV.PAIR_UNPROTECTED], [], [.pair]⟩
  [Touch.mateStale, Touch.setRole, Touch.promoteStandby]
theorem touches_execIdentificationDone (own mate : Bool) (hF : Φ.covers Touch.execIdentificationDone = true) : Touches Φ s (execIdentificationDone own mate s) := by
  simp [Touch.execIdentificationDone] at hF
  refine touches_perform ?_
  simp only [within_dyn]
  (repeat' split) <;> simp [hF]

def Touch.execPairWtrEnd : May := ⟨0, [PAIR_STATUS.WTR_LEFT, PAIR_STATUS.WTR_RUN], [], [], [.pair]⟩
theorem touches_execPairWtrEnd (hF : Φ.covers Touch.execPairWtrEnd = true) : Touches Φ s (execPairWtrEnd s) := by
  simp [Touch.execPairWtrEnd] at hF
  refine touches_perform ?_
  simp [hF]

def Touch.execPlannedHandover : May := .join ⟨0, [], [], [], [.pair]⟩ [Touch.setSel, Touch.setRole]
theorem touches_execPlannedHandover (hF : Φ.covers Touch.execPlannedHandover = true) : Touches Φ s (execPlannedHandover s) := by
  simp [Touch.execPlannedHandover] at hF
  refine touches_perform ?_
  simp [hF]

def Touch.execMitreTimeStamp : May := .join ⟨0, [TOD_RATE.ALL], [], [], []⟩ [Touch.stepTo]
theorem touches_execMitreTimeStamp (offset : Int) (rate : Word) (hF : Φ.covers Touch.execMitreTimeStamp = true) : Touches Φ s (execMitreTimeStamp offset rate s) := by
  simp [Touch.execMitreTimeStamp] at hF
  refine touches_perform ?_
  simp [hF]

/-! ### Boundary -/

def Touch.execSuperframeBoundary : May := .join ⟨0, [CLI_MOVE_STAT.CD, LTX_SF_NUM.ALL], [], [], [.ltx]⟩ [Touch.applyBatch, Touch.judgeProt, Touch.applyPlan,
  Touch.commitReturn, Touch.startSf, Touch.localBoundary, Touch.judgeClip]
theorem touches_execSuperframeBoundary (hist : List (Nat × Nat)) (hF : Φ.covers Touch.execSuperframeBoundary = true) : Touches Φ s (execSuperframeBoundary hist s) := by
  simp [Touch.execSuperframeBoundary] at hF
  refine touches_perform ?_
  simp [hF]

def Touch.execDarkTimeTick : May := .join ⟨0, [], [], [], []⟩ [Touch.localBoundary]
theorem touches_execDarkTimeTick (hF : Φ.covers Touch.execDarkTimeTick = true) : Touches Φ s (execDarkTimeTick s) := by
  simp [Touch.execDarkTimeTick] at hF
  refine touches_perform ?_
  simp [hF]

def Touch.execRxSuperframeBoundary : May := .join ⟨0, [], [], [], [.fec, .lrx, .pair, .tod]⟩ [Touch.syncLosf, Touch.scPlm, Touch.scQuality,
  Touch.judgeMargin, Touch.fecSummary, Touch.slipSummary, Touch.trackDisp, Touch.adjustWalk, Touch.moveCoarse, Touch.judgeLoss, Touch.restartOrder,
  Touch.planAt, Touch.takeFar]
theorem touches_execRxSuperframeBoundary (frames : List ScFrame) (hF : Φ.covers Touch.execRxSuperframeBoundary = true) : Touches Φ s (execRxSuperframeBoundary frames s) := by
  simp [Touch.execRxSuperframeBoundary] at hF
  refine touches_perform ?_
  simp [hF]

def Touch.execSuperframeHeaderRx : May := .join ⟨0, [], [EV.PLAN_UNKNOWN], [], [.lrx, .tod, .vnr]⟩ [Touch.syncProt]
theorem touches_execSuperframeHeaderRx (hdr : BitVec 64) (hF : Φ.covers Touch.execSuperframeHeaderRx = true) : Touches Φ s (execSuperframeHeaderRx hdr s) := by
  simp [Touch.execSuperframeHeaderRx] at hF
  refine touches_perform ?_
  simp only [within_dyn]
  (repeat' split) <;> simp [hF]

def Touch.execSecondBoundary : May := .join ⟨0, [LRX_ADAPT_STAT.BACKOFF_LEFT, PAIR_STATUS.WTR_LEFT], [], [], [.frm]⟩ [Touch.raiseSummaries]
theorem touches_execSecondBoundary (hF : Φ.covers Touch.execSecondBoundary = true) : Touches Φ s (execSecondBoundary s) := by
  simp [Touch.execSecondBoundary] at hF
  refine touches_perform ?_
  simp [hF]

def Touch.execMinuteBoundary : May := .join ⟨0, [], [], [], []⟩ [Touch.raiseSummaries]
theorem touches_execMinuteBoundary (hF : Φ.covers Touch.execMinuteBoundary = true) : Touches Φ s (execMinuteBoundary s) := by
  simp [Touch.execMinuteBoundary] at hF
  refine touches_perform ?_
  simp [hF]

/-! ### Control -/

def Touch.execCmdDoorbell : May := .join ⟨0, [CMD_DB.PROD], [], [], []⟩ [Touch.byMaster, Touch.doorbell]
theorem touches_execCmdDoorbell (m : Mast) (r : Fin 4) (v : BitVec 16) (hF : Φ.covers Touch.execCmdDoorbell = true) : Touches Φ s (execCmdDoorbell m r v s) := by
  simp [Touch.execCmdDoorbell] at hF
  refine touches_perform ?_
  simp [hF]

def Touch.execReplyAck : May := .join ⟨0, [CMD_RACK.ALL], [], [], []⟩ [Touch.byMaster, Touch.setFieldIf]
theorem touches_execReplyAck (m : Mast) (r : Fin 4) (v : BitVec 16) (hF : Φ.covers Touch.execReplyAck = true) : Touches Φ s (execReplyAck m r v s) := by
  simp [Touch.execReplyAck] at hF
  refine touches_perform ?_
  simp [hF]

def Touch.execDumpConsWrite : May := .join ⟨0, [CMD_DUMP_CONS.ALL], [], [], []⟩ [Touch.byMaster, Touch.setFieldIf]
theorem touches_execDumpConsWrite (m : Mast) (v : Word) (hF : Φ.covers Touch.execDumpConsWrite = true) : Touches Φ s (execDumpConsWrite m v s) := by
  simp [Touch.execDumpConsWrite] at hF
  refine touches_perform ?_
  simp [hF]

def Touch.execReplyWrite : May := .join ⟨0, [CMD_RING_STAT.RPROD], [], [], [.cmd, .slots]⟩ [Touch.unhold]
theorem touches_execReplyWrite (r : Fin 4) (hF : Φ.covers Touch.execReplyWrite = true) : Touches Φ s (execReplyWrite r s) := by
  simp [Touch.execReplyWrite] at hF
  refine touches_perform ?_
  simp only [within_dyn]
  (repeat' split) <;> simp [hF]

def Touch.execIdentify : May := Touch.felwinN
theorem touches_execIdentify (h : CmdHdr) (p : List Word) (hF : Φ.covers Touch.execIdentify = true) : Touches Φ s (execIdentify h p s) :=
  touches_perform (within_felwin _ h p hF fun s => within_opIdentify h _ s)

def Touch.execStatus : May := Touch.felwinN
theorem touches_execStatus (h : CmdHdr) (p : List Word) (hF : Φ.covers Touch.execStatus = true) : Touches Φ s (execStatus h p s) :=
  touches_perform (within_felwin _ h p hF fun s => within_opStatus h _ s)

def Touch.execSysStateSet : May := .join Touch.felwinN [Touch.opSysStateSet]
theorem touches_execSysStateSet (h : CmdHdr) (p : List Word) (hF : Φ.covers Touch.execSysStateSet = true) : Touches Φ s (execSysStateSet h p s) :=
  touches_felwin h p hF fun s => within_opSysStateSet h _ s

def Touch.execSysSessionOpen : May := .join Touch.felwinN [Touch.opSysSessionOpen]
theorem touches_execSysSessionOpen (h : CmdHdr) (p : List Word) (hF : Φ.covers Touch.execSysSessionOpen = true) : Touches Φ s (execSysSessionOpen h p s) :=
  touches_felwin h p hF fun s => within_opSysSessionOpen h _ s

def Touch.execSysSessionClose : May := .join Touch.felwinN [Touch.opSysSessionClose]
theorem touches_execSysSessionClose (h : CmdHdr) (p : List Word) (hF : Φ.covers Touch.execSysSessionClose = true) : Touches Φ s (execSysSessionClose h p s) :=
  touches_felwin h p hF fun s => within_opSysSessionClose h _ s

def Touch.execSysSlotRelease : May := .join Touch.felwinN [Touch.opSysSlotRelease]
theorem touches_execSysSlotRelease (h : CmdHdr) (p : List Word) (hF : Φ.covers Touch.execSysSlotRelease = true) : Touches Φ s (execSysSlotRelease h p s) :=
  touches_felwin h p hF fun s => within_opSysSlotRelease h _ s

def Touch.execBattenStatus : May := Touch.felwinN
theorem touches_execBattenStatus (h : CmdHdr) (p : List Word) (hF : Φ.covers Touch.execBattenStatus = true) : Touches Φ s (execBattenStatus h p s) :=
  touches_perform (within_felwin _ h p hF fun s => within_opBattenStatus h _ s)

def Touch.execBattenRestart : May := .join ⟨0, [CMD_BAT_CFG.RESTART], [], [], []⟩ [Touch.byMaster, Touch.restartEnum]
theorem touches_execBattenRestart (m : Mast) (hF : Φ.covers Touch.execBattenRestart = true) : Touches Φ s (execBattenRestart m s) := by
  simp [Touch.execBattenRestart] at hF
  refine touches_perform ?_
  simp [hF]

def Touch.execEnumRetry : May := .join ⟨0, [], [], [], []⟩ [Touch.restartEnum]
theorem touches_execEnumRetry (hF : Φ.covers Touch.execEnumRetry = true) : Touches Φ s (execEnumRetry s) := by
  simp [Touch.execEnumRetry] at hF
  refine touches_perform ?_
  simp [hF]

def Touch.execEnumTimeout : May := ⟨0, [CMD_BAT_STAT.COUNT, CMD_BAT_STAT.ENUM], [EV.BATTEN_FAULT], [], [.cmd]⟩
theorem touches_execEnumTimeout (hF : Φ.covers Touch.execEnumTimeout = true) : Touches Φ s (execEnumTimeout s) := by
  simp [Touch.execEnumTimeout] at hF
  refine touches_perform ?_
  simp [hF]

def Touch.execBattenTokenRx : May := .join ⟨0, [CMD_BAT_STAT.ADDR, CMD_BAT_STAT.COUNT], [EV.BATTEN_FAULT], [], [.cmd]⟩ [Touch.endEnum]
theorem touches_execBattenTokenRx (a n check : BitVec 8) (ids : List (BitVec 64)) (hF : Φ.covers Touch.execBattenTokenRx = true) : Touches Φ s (execBattenTokenRx a n check ids s) := by
  simp [Touch.execBattenTokenRx] at hF
  refine touches_perform ?_
  simp only [within_dyn]
  (repeat' split) <;> simp [hF]

def Touch.execPcieLinkUp : May := .join ⟨0, [CMD_BAT_STAT.ADDR, CMD_BAT_STAT.COUNT, CMD_BAT_STAT.HEAD], [], [], []⟩ [Touch.restartEnum]
theorem touches_execPcieLinkUp (hF : Φ.covers Touch.execPcieLinkUp = true) : Touches Φ s (execPcieLinkUp s) := by
  simp [Touch.execPcieLinkUp] at hF
  refine touches_perform ?_
  simp [hF]

def Touch.execPcieHostReset : May := .join ⟨0, [CMD_BAT_STAT.ADDR, CMD_BAT_STAT.COUNT, CMD_BAT_STAT.HEAD], [], [], []⟩ [Touch.stopEnum, Touch.hostRestarts]
theorem touches_execPcieHostReset (down : Bool) (hF : Φ.covers Touch.execPcieHostReset = true) : Touches Φ s (execPcieHostReset down s) := by
  simp [Touch.execPcieHostReset] at hF
  refine touches_perform ?_
  simp [hF]

/-! ### RefClock -/

def Touch.execRefActivity : May := .join ⟨0, [REF_CAND_STAT.ACT], [], [], [.ref]⟩ [Touch.refEval, Touch.startQual, Touch.disqualify]
theorem touches_execRefActivity (c : Fin 12) (edges : Bool) (hF : Φ.covers Touch.execRefActivity = true) : Touches Φ s (execRefActivity c edges s) := by
  simp [Touch.execRefActivity] at hF
  refine touches_perform ?_
  simp [hF]

def Touch.execFreqGateEnd : May := .join ⟨0, [REF_CAND_FREQ.ALL, REF_CAND_STAT.QUAL_LEFT], [], [], [.ref]⟩ [Touch.refEval, Touch.startQual,
  Touch.disqualify, Touch.setDrift]
theorem touches_execFreqGateEnd (c : Fin 12) (off : Word) (hF : Φ.covers Touch.execFreqGateEnd = true) : Touches Φ s (execFreqGateEnd c off s) := by
  simp [Touch.execFreqGateEnd] at hF
  refine touches_perform ?_
  simp [hF]

def Touch.execRefQualifyEnd : May := .join ⟨0, [REF_CAND_STAT.QUAL_LEFT, REF_STATUS.QUALIFIED], [EV.REF_QUALIFIED], [], [.ref]⟩ [Touch.refEval]
theorem touches_execRefQualifyEnd (c : Fin 12) (hF : Φ.covers Touch.execRefQualifyEnd = true) : Touches Φ s (execRefQualifyEnd c s) := by
  simp [Touch.execRefQualifyEnd] at hF
  refine touches_perform ?_
  simp [hF]

def Touch.execDriftEval : May := .join ⟨0, [REF_CAND_STAT.DRIFT], [], [], [.ref]⟩ [Touch.setDrift]
theorem touches_execDriftEval (hF : Φ.covers Touch.execDriftEval = true) : Touches Φ s (execDriftEval s) := by
  simp [Touch.execDriftEval] at hF
  refine touches_perform ?_
  simp [hF]

def Touch.execRefCfg : May := .join Touch.felwinN [Touch.opRefCfg]
theorem touches_execRefCfg (h : CmdHdr) (p : List Word) (hF : Φ.covers Touch.execRefCfg = true) : Touches Φ s (execRefCfg h p s) :=
  touches_felwin h p hF fun s => within_opRefCfg h _ s

def Touch.execRefCandSet : May := .join Touch.felwinN [Touch.opRefCandSet]
theorem touches_execRefCandSet (h : CmdHdr) (p : List Word) (hF : Φ.covers Touch.execRefCandSet = true) : Touches Φ s (execRefCandSet h p s) :=
  touches_felwin h p hF fun s => within_opRefCandSet h _ s

def Touch.execCandFreqWrite : May := .join ⟨0, [REF_CAND_FHZ.HZ], [], [], []⟩ [Touch.byMaster, Touch.candFreqWrite]
theorem touches_execCandFreqWrite (m : Mast) (c : Fin 12) (v : BitVec 30) (hF : Φ.covers Touch.execCandFreqWrite = true) : Touches Φ s (execCandFreqWrite m c v s) := by
  simp [Touch.execCandFreqWrite] at hF
  refine touches_perform ?_
  simp [hF]

def Touch.execRefSelect : May := .join Touch.felwinN [Touch.opRefSelect]
theorem touches_execRefSelect (h : CmdHdr) (p : List Word) (hF : Φ.covers Touch.execRefSelect = true) : Touches Φ s (execRefSelect h p s) :=
  touches_felwin h p hF fun s => within_opRefSelect h _ s

def Touch.execRefStatus : May := Touch.felwinN
theorem touches_execRefStatus (h : CmdHdr) (p : List Word) (hF : Φ.covers Touch.execRefStatus = true) : Touches Φ s (execRefStatus h p s) :=
  touches_perform (within_felwin _ h p hF fun s => within_opRefStatus h _ s)

def Touch.execRefOutSet : May := .join Touch.felwinN [Touch.opRefOutSet]
theorem touches_execRefOutSet (h : CmdHdr) (p : List Word) (hF : Φ.covers Touch.execRefOutSet = true) : Touches Φ s (execRefOutSet h p s) :=
  touches_felwin h p hF fun s => within_opRefOutSet h _ s

def Touch.execRefRealign : May := .join Touch.felwinN [Touch.opRefRealign]
theorem touches_execRefRealign (h : CmdHdr) (p : List Word) (hF : Φ.covers Touch.execRefRealign = true) : Touches Φ s (execRefRealign h p s) :=
  touches_felwin h p hF fun s => within_opRefRealign h _ s

def Touch.execRealignStep : May := .join ⟨0, [], [EV.OUT_REALIGNED], [], [.ref]⟩ [Touch.finish]
theorem touches_execRealignStep (cmd : Bool) (mask : BitVec 6) (moves : List Word) (hF : Φ.covers Touch.execRealignStep = true) : Touches Φ s (execRealignStep cmd mask moves s) := by
  simp [Touch.execRealignStep] at hF
  refine touches_perform ?_
  simp only [within_dyn]
  (repeat' split) <;> simp [hF]

def Touch.execCompatPulse : May := ⟨0, [], [EV.OUT_REALIGNED], [], [.ref]⟩
theorem touches_execCompatPulse (o : Fin 6) (err : Word) (hF : Φ.covers Touch.execCompatPulse = true) : Touches Φ s (execCompatPulse o err s) := by
  simp [Touch.execCompatPulse] at hF
  refine touches_perform ?_
  simp [hF]

def Touch.execBuildoutEnd : May := .join ⟨0, [REF_STATUS.BUILDOUT, REF_STATUS.CLAMP_EXPIRED, REF_STATUS.DPLL], [], [], [.ref]⟩ [Touch.refEval]
theorem touches_execBuildoutEnd (hF : Φ.covers Touch.execBuildoutEnd = true) : Touches Φ s (execBuildoutEnd s) := by
  simp [Touch.execBuildoutEnd] at hF
  refine touches_perform ?_
  simp only [within_dyn]
  (repeat' split) <;> simp [hF]

def Touch.execDpllLock : May := .join ⟨0, [REF_STATUS.DPLL], [EV.DPLL_LOCK], [], []⟩ [Touch.refEval]
theorem touches_execDpllLock (hF : Φ.covers Touch.execDpllLock = true) : Touches Φ s (execDpllLock s) := by
  simp [Touch.execDpllLock] at hF
  refine touches_perform ?_
  simp only [within_dyn]
  (repeat' split) <;> simp [hF]

def Touch.execDpllUnlock : May := .join ⟨0, [REF_PHASE_ERR.ALL, REF_STATUS.DPLL], [EV.DPLL_UNLOCK], [], [.ref]⟩ [Touch.refEval]
theorem touches_execDpllUnlock (err : Word) (hF : Φ.covers Touch.execDpllUnlock = true) : Touches Φ s (execDpllUnlock err s) := by
  simp [Touch.execDpllUnlock] at hF
  refine touches_perform ?_
  simp [hF]

def Touch.execDpllHistoryTick : May := ⟨0, [REF_DPLL_FREQ.ALL, REF_HIST_FREQ.ALL, REF_PHASE_ERR.ALL, REF_STATUS.HIST_VALID], [], [], [.ref]⟩
theorem touches_execDpllHistoryTick (freq phase : Word) (hF : Φ.covers Touch.execDpllHistoryTick = true) : Touches Φ s (execDpllHistoryTick freq phase s) := by
  simp [Touch.execDpllHistoryTick] at hF
  refine touches_perform ?_
  simp [hF]

def Touch.execClampExpired : May := .join ⟨0, [REF_STATUS.CLAMP_EXPIRED], [EV.CLAMP_ENTER], [], []⟩ [Touch.refEval]
theorem touches_execClampExpired (hF : Φ.covers Touch.execClampExpired = true) : Touches Φ s (execClampExpired s) := by
  simp [Touch.execClampExpired] at hF
  refine touches_perform ?_
  simp [hF]

def Touch.execOscLost : May := .join ⟨0, [REF_STATUS.MON_SRC, REF_STATUS.OSC_PRESENT], [EV.OSC_LOST], [], []⟩ [Touch.refEval]
theorem touches_execOscLost (hF : Φ.covers Touch.execOscLost = true) : Touches Φ s (execOscLost s) := by
  simp [Touch.execOscLost] at hF
  refine touches_perform ?_
  simp [hF]

def Touch.execEsmcRx : May := .join ⟨0, [REF_CAND_STAT.QL_RX], [], [], []⟩ [Touch.refEval]
theorem touches_execEsmcRx (t : Fin 32) (ssm : BitVec 4) (enh : BitVec 8) (hF : Φ.covers Touch.execEsmcRx = true) : Touches Φ s (execEsmcRx t ssm enh s) := by
  simp [Touch.execEsmcRx] at hF
  refine touches_perform ?_
  simp [hF]

theorem touches_execEsmcTx : Touches Φ s (execEsmcTx s) := by
  refine touches_perform ?_
  simp

def Touch.execQlTimeout : May := .join ⟨0, [REF_CAND_STAT.QL_RX], [], [], []⟩ [Touch.refEval]
theorem touches_execQlTimeout (k : Fin 4) (hF : Φ.covers Touch.execQlTimeout = true) : Touches Φ s (execQlTimeout k s) := by
  simp [Touch.execQlTimeout] at hF
  refine touches_perform ?_
  simp [hF]

def Touch.execLineQlRx : May := .join ⟨0, [REF_CAND_STAT.QL_RX], [], [], []⟩ [Touch.refEval]
theorem touches_execLineQlRx (b0 b1 b2 b3 : BitVec 8) (hF : Φ.covers Touch.execLineQlRx = true) : Touches Φ s (execLineQlRx b0 b1 b2 b3 s) := by
  simp [Touch.execLineQlRx] at hF
  refine touches_perform ?_
  simp [hF]

/-! ### Veneer -/

def Touch.execVnrCfg : May := .join Touch.felwinN [Touch.opVnrCfg]
theorem touches_execVnrCfg (h : CmdHdr) (p : List Word) (hF : Φ.covers Touch.execVnrCfg = true) : Touches Φ s (execVnrCfg h p s) :=
  touches_felwin h p hF fun s => within_opVnrCfg h _ s

def Touch.execVnrStatus : May := Touch.felwinN
theorem touches_execVnrStatus (h : CmdHdr) (p : List Word) (hF : Φ.covers Touch.execVnrStatus = true) : Touches Φ s (execVnrStatus h p s) :=
  touches_perform (within_felwin _ h p hF fun s => within_opVnrStatus h _ s)

def Touch.execVnrPageSet : May := .join Touch.felwinN [Touch.opVnrPageSet]
theorem touches_execVnrPageSet (h : CmdHdr) (p : List Word) (hF : Φ.covers Touch.execVnrPageSet = true) : Touches Φ s (execVnrPageSet h p s) :=
  touches_felwin h p hF fun s => within_opVnrPageSet h _ s

def Touch.execVnrBind : May := .join Touch.felwinN [Touch.opVnrBind]
theorem touches_execVnrBind (h : CmdHdr) (p : List Word) (hF : Φ.covers Touch.execVnrBind = true) : Touches Φ s (execVnrBind h p s) :=
  touches_felwin h p hF fun s => within_opVnrBind h _ s

def Touch.execVnrCounters : May := .join Touch.felwinN [Touch.opVnrCounters]
theorem touches_execVnrCounters (h : CmdHdr) (p : List Word) (hF : Φ.covers Touch.execVnrCounters = true) : Touches Φ s (execVnrCounters h p s) :=
  touches_felwin h p hF fun s => within_opVnrCounters h _ s

def Touch.execVnrRearm : May := .join Touch.felwinN [Touch.opVnrRearm]
theorem touches_execVnrRearm (h : CmdHdr) (p : List Word) (hF : Φ.covers Touch.execVnrRearm = true) : Touches Φ s (execVnrRearm h p s) :=
  touches_felwin h p hF fun s => within_opVnrRearm h _ s

def Touch.execVnrCtrlRearm : May := .join ⟨0, [VNR_CTRL.REARM], [], [], []⟩ [Touch.byMaster, Touch.rearmWrite]
theorem touches_execVnrCtrlRearm (m : Mast) (hF : Φ.covers Touch.execVnrCtrlRearm = true) : Touches Φ s (execVnrCtrlRearm m s) := by
  simp [Touch.execVnrCtrlRearm] at hF
  refine touches_perform ?_
  simp [hF]

def Touch.execVnrCntClr : May := .join ⟨0, [VNR_CTRL.CNT_CLR], [], [], []⟩ [Touch.byMaster, Touch.vnrCntClr]
theorem touches_execVnrCntClr (m : Mast) (hF : Φ.covers Touch.execVnrCntClr = true) : Touches Φ s (execVnrCntClr m s) := by
  simp [Touch.execVnrCntClr] at hF
  refine touches_perform ?_
  simp [hF]

def Touch.execProtModeWrite : May := .join ⟨0, [VNR_CTRL.PROT_MODE], [], [], []⟩ [Touch.byMaster, Touch.protModeWrite]
theorem touches_execProtModeWrite (m : Mast) (v : BitVec 2) (hF : Φ.covers Touch.execProtModeWrite = true) : Touches Φ s (execProtModeWrite m v s) := by
  simp [Touch.execProtModeWrite] at hF
  refine touches_perform ?_
  simp [hF]

def Touch.execVnrKeyLoad : May := .join Touch.felwinN [Touch.opVnrKeyLoad]
theorem touches_execVnrKeyLoad (h : CmdHdr) (p : List Word) (hF : Φ.covers Touch.execVnrKeyLoad = true) : Touches Φ s (execVnrKeyLoad h p s) :=
  touches_felwin h p hF fun s => within_opVnrKeyLoad h _ s

def Touch.execVnrKeySwitch : May := .join Touch.felwinN [Touch.opVnrKeySwitch]
theorem touches_execVnrKeySwitch (h : CmdHdr) (p : List Word) (hF : Φ.covers Touch.execVnrKeySwitch = true) : Touches Φ s (execVnrKeySwitch h p s) :=
  touches_felwin h p hF fun s => within_opVnrKeySwitch h _ s

def Touch.execVnrKeyErase : May := .join Touch.felwinN [Touch.opVnrKeyErase]
theorem touches_execVnrKeyErase (h : CmdHdr) (p : List Word) (hF : Φ.covers Touch.execVnrKeyErase = true) : Touches Φ s (execVnrKeyErase h p s) :=
  touches_felwin h p hF fun s => within_opVnrKeyErase h _ s

def Touch.execVnrLa : May := .join Touch.felwinN [Touch.opVnrLa]
theorem touches_execVnrLa (h : CmdHdr) (p : List Word) (hF : Φ.covers Touch.execVnrLa = true) : Touches Φ s (execVnrLa h p s) :=
  touches_felwin h p hF fun s => within_opVnrLa h _ s

def Touch.execLaDone : May := .join ⟨0, [], [EV.VNR_FAULT], [(416, 1)], []⟩ [Touch.endLa, Touch.stopLa]
theorem touches_execLaDone (n : Nat) (aad data : List Word) (mis : Bool) (hF : Φ.covers Touch.execLaDone = true) : Touches Φ s (execLaDone n aad data mis s) := by
  simp [Touch.execLaDone] at hF
  refine touches_perform ?_
  simp only [within_dyn]
  (repeat' split) <;> simp [hF]

def Touch.execVnrTxBlock : May := .join ⟨0, [], [EV.VNR_FAULT], [(416, 1), (424, 224)], []⟩ [Touch.stepSeq]
theorem touches_execVnrTxBlock (t : Fin 32) (pipe : Fin 26) (why : Fin 3) (hF : Φ.covers Touch.execVnrTxBlock = true) : Touches Φ s (execVnrTxBlock t pipe why s) := by
  simp [Touch.execVnrTxBlock] at hF
  have hcnt := fun c (hc : c < 7) => cnt_vnrCnt hF.1.2.2 t.isLt hc
  refine touches_perform ?_
  simp only [within_dyn]
  (repeat' split) <;> simp [hF, hcnt]

def Touch.execVnrKatDone : May := .join ⟨0, [], [], [], []⟩ [Touch.retirePipe]
theorem touches_execVnrKatDone (dir : Fin 3) (pipe : Fin 26) (pass : Bool) (hF : Φ.covers Touch.execVnrKatDone = true) : Touches Φ s (execVnrKatDone dir pipe pass s) := by
  simp [Touch.execVnrKatDone] at hF
  refine touches_perform ?_
  simp [hF]

def Touch.execVnrRxBlock : May := .join ⟨0, [], [EV.VNR_FAULT], [(416, 1), (424, 224)], []⟩ [Touch.verified, Touch.kaSeen]
theorem touches_execVnrRxBlock (t : Fin 32) (pipe : Fin 26) (kp ka fill : Bool) (gen : BitVec 5) (seq : BitVec 48) (filled tagOk marked mis : Bool) (hF : Φ.covers Touch.execVnrRxBlock = true) : Touches Φ s (execVnrRxBlock t pipe kp ka fill gen seq filled tagOk marked mis s) := by
  simp [Touch.execVnrRxBlock] at hF
  have hcnt := fun c (hc : c < 7) => cnt_vnrCnt hF.1.2.2 t.isLt hc
  refine touches_perform ?_
  simp only [within_dyn]
  (repeat' split) <;> simp [hF, hcnt]

def Touch.execRetainedGenErase : May := ⟨0, [], [], [], [.vnr]⟩
theorem touches_execRetainedGenErase (p : Fin 72) (k : Fin 2) (hF : Φ.covers Touch.execRetainedGenErase = true) : Touches Φ s (execRetainedGenErase p k s) := by
  simp [Touch.execRetainedGenErase] at hF
  refine touches_perform ?_
  simp [hF]

def Touch.execKeyAge : May := ⟨0, [], [EV.KEY_AGE], [], [.vnr]⟩
theorem touches_execKeyAge (p : Fin 72) (k : Fin 2) (la : Bool) (hF : Φ.covers Touch.execKeyAge = true) : Touches Φ s (execKeyAge p k la s) := by
  simp [Touch.execKeyAge] at hF
  refine touches_perform ?_
  simp only [within_dyn]
  (repeat' split) <;> simp [hF]

def Touch.execKeyExhausted : May := ⟨0, [], [EV.KEY_EXHAUSTED], [], [.vnr]⟩
theorem touches_execKeyExhausted (p : Fin 72) (k : Fin 2) (hF : Φ.covers Touch.execKeyExhausted = true) : Touches Φ s (execKeyExhausted p k s) := by
  simp [Touch.execKeyExhausted] at hF
  refine touches_perform ?_
  simp only [within_dyn]
  (repeat' split) <;> simp [hF]

def Touch.execSensorAlarm : May := .join ⟨0, [VNR_STATUS.ERASED, VNR_STATUS.SENSOR], [EV.KEY_ERASED, EV.VNR_SENSOR], [], []⟩ [Touch.eraseAll]
theorem touches_execSensorAlarm (b : Fin 4) (hF : Φ.covers Touch.execSensorAlarm = true) : Touches Φ s (execSensorAlarm b s) := by
  simp [Touch.execSensorAlarm] at hF
  refine touches_perform ?_
  simp [hF]

def Touch.execSensorRekey : May := .join ⟨0, [VNR_STATUS.SENSOR], [], [], []⟩ [Touch.keyPrivileged]
theorem touches_execSensorRekey (hF : Φ.covers Touch.execSensorRekey = true) : Touches Φ s (execSensorRekey s) := by
  simp [Touch.execSensorRekey] at hF
  refine touches_perform ?_
  simp [hF]

def Touch.execDrbgHealthFail : May := ⟨0, [SEC_STATUS.DRBG_OK, VNR_STATUS.RNG_OK], [EV.VNR_FAULT], [], []⟩
theorem touches_execDrbgHealthFail (hF : Φ.covers Touch.execDrbgHealthFail = true) : Touches Φ s (execDrbgHealthFail s) := by
  simp [Touch.execDrbgHealthFail] at hF
  refine touches_perform ?_
  simp [hF]

def Touch.execDrbgHealthPass : May := ⟨0, [SEC_STATUS.DRBG_OK, VNR_STATUS.RNG_OK], [], [], []⟩
theorem touches_execDrbgHealthPass (hF : Φ.covers Touch.execDrbgHealthPass = true) : Touches Φ s (execDrbgHealthPass s) := by
  simp [Touch.execDrbgHealthPass] at hF
  refine touches_perform ?_
  simp [hF]

/-! ### Scribe -/

def Touch.execScrCfgSet : May := .join Touch.felwinN [Touch.opScrCfgSet]
theorem touches_execScrCfgSet (h : CmdHdr) (p : List Word) (hF : Φ.covers Touch.execScrCfgSet = true) : Touches Φ s (execScrCfgSet h p s) :=
  touches_felwin h p hF fun s => within_opScrCfgSet h _ s

def Touch.execScrTrust : May := .join Touch.felwinN [Touch.opScrTrust]
theorem touches_execScrTrust (h : CmdHdr) (p : List Word) (hF : Φ.covers Touch.execScrTrust = true) : Touches Φ s (execScrTrust h p s) :=
  touches_felwin h p hF fun s => within_opScrTrust h _ s

def Touch.execScrStatus : May := Touch.felwinN
theorem touches_execScrStatus (h : CmdHdr) (p : List Word) (hF : Φ.covers Touch.execScrStatus = true) : Touches Φ s (execScrStatus h p s) :=
  touches_perform (within_felwin _ h p hF fun s => within_opScrStatus h _ s)

def Touch.execScrPeers : May := Touch.felwinN
theorem touches_execScrPeers (h : CmdHdr) (p : List Word) (hF : Φ.covers Touch.execScrPeers = true) : Touches Φ s (execScrPeers h p s) :=
  touches_perform (within_felwin _ h p hF fun s => within_opScrPeers h _ s)

def Touch.execScrRestart : May := .join Touch.felwinN [Touch.opScrRestart]
theorem touches_execScrRestart (h : CmdHdr) (p : List Word) (hF : Φ.covers Touch.execScrRestart = true) : Touches Φ s (execScrRestart h p s) :=
  touches_felwin h p hF fun s => within_opScrRestart h _ s

def Touch.execScrCtrlRestart : May := .join ⟨0, [SCR_CTRL.RESTART], [], [], []⟩ [Touch.byMaster, Touch.scrRestart]
theorem touches_execScrCtrlRestart (m : Mast) (hF : Φ.covers Touch.execScrCtrlRestart = true) : Touches Φ s (execScrCtrlRestart m s) := by
  simp [Touch.execScrCtrlRestart] at hF
  refine touches_perform ?_
  simp [hF]

def Touch.execScrCntClr : May := .join ⟨0, [SCR_CTRL.CNT_CLR], [], [], []⟩ [Touch.byMaster, Touch.scrCntClr]
theorem touches_execScrCntClr (m : Mast) (hF : Φ.covers Touch.execScrCntClr = true) : Touches Φ s (execScrCntClr m s) := by
  simp [Touch.execScrCntClr] at hF
  refine touches_perform ?_
  simp [hF]

def Touch.execScrEnWrite : May := .join ⟨0, [SCR_CTRL.EN], [], [], []⟩ [Touch.byMaster, Touch.scrEnWrite]
theorem touches_execScrEnWrite (m : Mast) (v : Bool) (hF : Φ.covers Touch.execScrEnWrite = true) : Touches Φ s (execScrEnWrite m v s) := by
  simp [Touch.execScrEnWrite] at hF
  refine touches_perform ?_
  simp [hF]

def Touch.execSyncWordDetect : May := .join ⟨0, [], [], [(267, 1), (268, 1)], []⟩ [Touch.takePacket]
theorem touches_execSyncWordDetect (k : ScrPkt) (hF : Φ.covers Touch.execSyncWordDetect = true) : Touches Φ s (execSyncWordDetect k s) := by
  simp [Touch.execSyncWordDetect] at hF
  refine touches_perform ?_
  simp only [within_dyn]
  (repeat' split) <;> simp [hF]

def Touch.execHello : May := .join ⟨0, [], [], [], [.scr]⟩ [Touch.rejectPeer, Touch.fromPeer, Touch.enterWindow]
theorem touches_execHello (x : ScrHello) (hF : Φ.covers Touch.execHello = true) : Touches Φ s (execHello x s) := by
  simp [Touch.execHello] at hF
  refine touches_perform ?_
  simp [hF]

def Touch.execKex : May := .join ⟨0, [], [], [], [.scr]⟩ [Touch.fromPeer, Touch.useKex]
theorem touches_execKex (src : BitVec 64) (seq : BitVec 16) (pub nonce : List Word) (sigOk : Bool) (hF : Φ.covers Touch.execKex = true) : Touches Φ s (execKex src seq pub nonce sigOk s) := by
  simp [Touch.execKex] at hF
  refine touches_perform ?_
  simp [hF]

def Touch.execPropose : May := .join ⟨0, [], [], [], [.scr]⟩ [Touch.sendReplyTo, Touch.fromPeer, Touch.noCommon, Touch.enterKeying]
theorem touches_execPropose (src : BitVec 64) (seq : BitVec 16) (mode : BitVec 4) (shape : Word) (hF : Φ.covers Touch.execPropose = true) : Touches Φ s (execPropose src seq mode shape s) := by
  simp [Touch.execPropose] at hF
  refine touches_perform (within_fromPeer _ _ _ (by simp [hF]) fun t => ?_)
  simp only [within_dyn]
  (repeat' split) <;> simp [hF]

def Touch.execAccept : May := .join ⟨0, [], [], [], []⟩ [Touch.fromPeer, Touch.enterKeying]
theorem touches_execAccept (src : BitVec 64) (seq of : BitVec 16) (hF : Φ.covers Touch.execAccept = true) : Touches Φ s (execAccept src seq of s) := by
  simp [Touch.execAccept] at hF
  refine touches_perform ?_
  simp [hF]

def Touch.execReject : May := .join ⟨0, [], [], [], []⟩ [Touch.holdScr, Touch.fromPeer]
theorem touches_execReject (src : BitVec 64) (seq of : BitVec 16) (_reason : BitVec 8) (hF : Φ.covers Touch.execReject = true) : Touches Φ s (execReject src seq of _reason s) := by
  simp [Touch.execReject] at hF
  refine touches_perform ?_
  simp [hF]

def Touch.execKeys : May := .join ⟨0, [], [], [], [.scr]⟩ [Touch.sendReplyTo, Touch.fromPeer, Touch.scrPlace, Touch.scrSwitch, Touch.agreed,
  Touch.enterLive]
theorem touches_execKeys (src : BitVec 64) (seq : BitVec 16) (ks : List ScrKey) (hF : Φ.covers Touch.execKeys = true) : Touches Φ s (execKeys src seq ks s) := by
  simp [Touch.execKeys] at hF
  refine touches_perform (within_fromPeer _ _ _ (by simp [hF]) fun t => ?_)
  simp only [within_dyn]
  (repeat' split) <;> simp [hF]

def Touch.execKeysAck : May := .join ⟨0, [], [], [], [.scr]⟩ [Touch.eraseSlot, Touch.sendScr, Touch.stopWait, Touch.fromPeer, Touch.scrSwitch, Touch.agreed,
  Touch.enterLive]
theorem touches_execKeysAck (src : BitVec 64) (seq of : BitVec 16) (pages : List (BitVec 8)) (hF : Φ.covers Touch.execKeysAck = true) : Touches Φ s (execKeysAck src seq of pages s) := by
  simp [Touch.execKeysAck] at hF
  refine touches_perform (within_fromPeer _ _ _ (by simp [hF]) fun t => ?_)
  simp only [within_dyn]
  split
  · simp
  · simp [hF]

def Touch.execGo : May := .join ⟨0, [], [], [], []⟩ [Touch.fromPeer, Touch.goLive]
theorem touches_execGo (src : BitVec 64) (seq of : BitVec 16) (hF : Φ.covers Touch.execGo = true) : Touches Φ s (execGo src seq of s) := by
  simp [Touch.execGo] at hF
  refine touches_perform ?_
  simp [hF]

def Touch.execGoSent : May := .join ⟨0, [], [], [], []⟩ [Touch.goLive]
theorem touches_execGoSent (hF : Φ.covers Touch.execGoSent = true) : Touches Φ s (execGoSent s) := by
  simp [Touch.execGoSent] at hF
  refine touches_perform ?_
  simp [hF]

def Touch.execScrLive : May := .join ⟨0, [], [], [], []⟩ [Touch.enterLive]
theorem touches_execScrLive (hF : Φ.covers Touch.execScrLive = true) : Touches Φ s (execScrLive s) := by
  simp [Touch.execScrLive] at hF
  refine touches_perform ?_
  simp [hF]

def Touch.execGoLiveTimeout : May := .join ⟨0, [], [EV.SCR_FALLBACK], [], [.scr]⟩ [Touch.goDark, Touch.backToBeacon]
theorem touches_execGoLiveTimeout (hF : Φ.covers Touch.execGoLiveTimeout = true) : Touches Φ s (execGoLiveTimeout s) := by
  simp [Touch.execGoLiveTimeout] at hF
  refine touches_perform ?_
  simp [hF]

def Touch.execRelockTimeout : May := .join ⟨0, [], [EV.SCR_FALLBACK], [], []⟩ [Touch.sendScr, Touch.renegotiate]
theorem touches_execRelockTimeout (hF : Φ.covers Touch.execRelockTimeout = true) : Touches Φ s (execRelockTimeout s) := by
  simp [Touch.execRelockTimeout] at hF
  refine touches_perform ?_
  simp [hF]

def Touch.execReneg : May := .join ⟨0, [], [], [], []⟩ [Touch.fromPeer, Touch.renegotiate]
theorem touches_execReneg (src : BitVec 64) (seq : BitVec 16) (mode : BitVec 4) (hF : Φ.covers Touch.execReneg = true) : Touches Φ s (execReneg src seq mode s) := by
  simp [Touch.execReneg] at hF
  refine touches_perform ?_
  simp [hF]

def Touch.execPeerHelloLost : May := .join ⟨0, [], [], [], []⟩ [Touch.backToBeacon]
theorem touches_execPeerHelloLost (hF : Φ.covers Touch.execPeerHelloLost = true) : Touches Φ s (execPeerHelloLost s) := by
  simp [Touch.execPeerHelloLost] at hF
  refine touches_perform ?_
  simp [hF]

def Touch.execHoldOffEnd : May := .join ⟨0, [], [], [], [.scr]⟩ [Touch.setScr]
theorem touches_execHoldOffEnd (hF : Φ.covers Touch.execHoldOffEnd = true) : Touches Φ s (execHoldOffEnd s) := by
  simp [Touch.execHoldOffEnd] at hF
  refine touches_perform ?_
  simp [hF]

def Touch.execHelloTimer : May := .join ⟨0, [], [], [], []⟩ [Touch.sendScr]
theorem touches_execHelloTimer (hF : Φ.covers Touch.execHelloTimer = true) : Touches Φ s (execHelloTimer s) := by
  simp [Touch.execHelloTimer] at hF
  refine touches_perform ?_
  simp [hF]

def Touch.execBeaconLight : May := .join ⟨0, [], [], [], [.ltx, .scr]⟩ [Touch.startSweep]
theorem touches_execBeaconLight (hF : Φ.covers Touch.execBeaconLight = true) : Touches Φ s (execBeaconLight s) := by
  simp [Touch.execBeaconLight] at hF
  refine touches_perform ?_
  simp [hF]

def Touch.execSelectionWindowEnd : May := .join ⟨0, [], [EV.SCR_MULTI_PEER], [], [.scr]⟩ [Touch.selectPeer]
theorem touches_execSelectionWindowEnd (hF : Φ.covers Touch.execSelectionWindowEnd = true) : Touches Φ s (execSelectionWindowEnd s) := by
  simp [Touch.execSelectionWindowEnd] at hF
  refine touches_perform ?_
  simp only [within_dyn]
  (repeat' split) <;> simp [hF]

def Touch.execScrReplyTimeout : May := .join ⟨0, [], [], [], [.scr]⟩ [Touch.sendPacket, Touch.scrTimeout]
theorem touches_execScrReplyTimeout (hF : Φ.covers Touch.execScrReplyTimeout = true) : Touches Φ s (execScrReplyTimeout s) := by
  simp [Touch.execScrReplyTimeout] at hF
  refine touches_perform ?_
  simp only [within_dyn]
  (repeat' split) <;> simp [hF]

def Touch.execNegTimeout : May := .join ⟨0, [], [], [], []⟩ [Touch.scrTimeout]
theorem touches_execNegTimeout (hF : Φ.covers Touch.execNegTimeout = true) : Touches Φ s (execNegTimeout s) := by
  simp [Touch.execNegTimeout] at hF
  refine touches_perform ?_
  simp [hF]

def Touch.execScrHoldEnd : May := .join ⟨0, [], [], [], []⟩ [Touch.setScr, Touch.backToBeacon]
theorem touches_execScrHoldEnd (hF : Φ.covers Touch.execScrHoldEnd = true) : Touches Φ s (execScrHoldEnd s) := by
  simp [Touch.execScrHoldEnd] at hF
  refine touches_perform ?_
  simp [hF]

def Touch.execRotate : May := .join ⟨0, [], [], [], []⟩ [Touch.fromPeer, Touch.startRotation]
theorem touches_execRotate (src : BitVec 64) (seq : BitVec 16) (page : BitVec 8) (hF : Φ.covers Touch.execRotate = true) : Touches Φ s (execRotate src seq page s) := by
  simp [Touch.execRotate] at hF
  refine touches_perform ?_
  simp [hF]

def Touch.execKeyRotationTimer : May := .join ⟨0, [], [EV.KEY_AGE], [], []⟩ [Touch.sendScr, Touch.startRotation]
theorem touches_execKeyRotationTimer (p : Fin 72) (hF : Φ.covers Touch.execKeyRotationTimer = true) : Touches Φ s (execKeyRotationTimer p s) := by
  simp [Touch.execKeyRotationTimer] at hF
  refine touches_perform ?_
  simp [hF]

/-! ### Security -/

def Touch.execSecStatus : May := Touch.felwinN
theorem touches_execSecStatus (h : CmdHdr) (p : List Word) (hF : Φ.covers Touch.execSecStatus = true) : Touches Φ s (execSecStatus h p s) :=
  touches_perform (within_felwin _ h p hF fun s => within_opSecStatus h _ s)

def Touch.execSecCerts : May := Touch.felwinN
theorem touches_execSecCerts (h : CmdHdr) (p : List Word) (hF : Φ.covers Touch.execSecCerts = true) : Touches Φ s (execSecCerts h p s) :=
  touches_perform (within_felwin _ h p hF fun s => within_opSecCerts h _ s)

def Touch.execAttest : May := .join Touch.felwinN [Touch.opAttest]
theorem touches_execAttest (h : CmdHdr) (p : List Word) (hF : Φ.covers Touch.execAttest = true) : Touches Φ s (execAttest h p s) :=
  touches_felwin h p hF fun s => within_opAttest h _ s

def Touch.execSecSessionKey : May := .join Touch.felwinN [Touch.opSecSessionKey]
theorem touches_execSecSessionKey (h : CmdHdr) (p : List Word) (hF : Φ.covers Touch.execSecSessionKey = true) : Touches Φ s (execSecSessionKey h p s) :=
  touches_felwin h p hF fun s => within_opSecSessionKey h _ s

def Touch.execSecNonce : May := .join Touch.felwinN [Touch.opSecNonce]
theorem touches_execSecNonce (h : CmdHdr) (p : List Word) (hF : Φ.covers Touch.execSecNonce = true) : Touches Φ s (execSecNonce h p s) :=
  touches_felwin h p hF fun s => within_opSecNonce h _ s

def Touch.execSecLifecycle : May := .join Touch.felwinN [Touch.opSecLifecycle]
theorem touches_execSecLifecycle (h : CmdHdr) (p : List Word) (hF : Φ.covers Touch.execSecLifecycle = true) : Touches Φ s (execSecLifecycle h p s) :=
  touches_felwin h p hF fun s => within_opSecLifecycle h _ s

def Touch.execSecCustkey : May := .join Touch.felwinN [Touch.opSecCustkey]
theorem touches_execSecCustkey (h : CmdHdr) (p : List Word) (hF : Φ.covers Touch.execSecCustkey = true) : Touches Φ s (execSecCustkey h p s) :=
  touches_felwin h p hF fun s => within_opSecCustkey h _ s

def Touch.execSecReset : May := .join Touch.felwinN [Touch.opSecReset]
theorem touches_execSecReset (h : CmdHdr) (p : List Word) (hF : Φ.covers Touch.execSecReset = true) : Touches Φ s (execSecReset h p s) :=
  touches_felwin h p hF fun s => within_opSecReset h _ s

def Touch.execLifecycleReset : May := .join ⟨0, [], [], [], []⟩ [Touch.deviceReset]
theorem touches_execLifecycleReset (hF : Φ.covers Touch.execLifecycleReset = true) (hw : Φ.Wide) : Touches Φ s (execLifecycleReset s) := by
  simp [Touch.execLifecycleReset] at hF
  refine touches_perform ?_
  simp [hF, hw]

def Touch.execDeviceReset : May := .join ⟨0, [], [], [], []⟩ [Touch.deviceReset]
theorem touches_execDeviceReset (hF : Φ.covers Touch.execDeviceReset = true) (hw : Φ.Wide) : Touches Φ s (execDeviceReset s) := by
  simp [Touch.execDeviceReset] at hF
  refine touches_perform ?_
  simp [hF, hw]

def Touch.execPowerOnReset : May := .join ⟨0, [], [], [], []⟩ [Touch.clearAll]
theorem touches_execPowerOnReset (hF : Φ.covers Touch.execPowerOnReset = true) (hw : Φ.Wide) : Touches Φ s (execPowerOnReset s) := by
  simp [Touch.execPowerOnReset] at hF
  refine touches_perform ?_
  simp [hF, hw]

def Touch.execDebugReset : May := .join ⟨0, [], [], [], []⟩ [Touch.deviceReset]
theorem touches_execDebugReset (unlocked : Bool) (hF : Φ.covers Touch.execDebugReset = true) (hw : Φ.Wide) : Touches Φ s (execDebugReset unlocked s) := by
  simp [Touch.execDebugReset] at hF
  refine touches_perform ?_
  simp [hF, hw]

def Touch.execWake : May := .join ⟨0, [], [], [], []⟩ [Touch.deviceReset]
theorem touches_execWake (hF : Φ.covers Touch.execWake = true) (hw : Φ.Wide) : Touches Φ s (execWake s) := by
  simp [Touch.execWake] at hF
  refine touches_perform ?_
  simp [hF, hw]

def Touch.execPorstRelease : May := ⟨0, [], [], [], [.sec]⟩
theorem touches_execPorstRelease (hF : Φ.covers Touch.execPorstRelease = true) : Touches Φ s (execPorstRelease s) := by
  simp [Touch.execPorstRelease] at hF
  refine touches_perform ?_
  simp [hF]

def Touch.execFuseReadDone : May := .join ⟨0, [], [], [], [.sec]⟩ [Touch.loadFuses]
theorem touches_execFuseReadDone (hF : Φ.covers Touch.execFuseReadDone = true) : Touches Φ s (execFuseReadDone s) := by
  simp [Touch.execFuseReadDone] at hF
  refine touches_perform ?_
  simp [hF]

def Touch.execKeeperBoot : May := .join ⟨0, [ENG_FW_STAT.BANK], [], [], []⟩ [Touch.runKeeper, Touch.fallBack]
theorem touches_execKeeperBoot (hF : Φ.covers Touch.execKeeperBoot = true) : Touches Φ s (execKeeperBoot s) := by
  simp [Touch.execKeeperBoot] at hF
  refine touches_perform ?_
  simp only [within_dyn]
  (repeat' split) <;> simp [hF]

def Touch.execEngineImageLoaded : May := .join ⟨0, [], [], [], []⟩ [Touch.fallBack, Touch.loadEngines]
theorem touches_execEngineImageLoaded (hF : Φ.covers Touch.execEngineImageLoaded = true) : Touches Φ s (execEngineImageLoaded s) := by
  simp [Touch.execEngineImageLoaded] at hF
  refine touches_perform ?_
  simp only [within_dyn]
  (repeat' split) <;> simp [hF]

def Touch.execBootReady : May := .join ⟨0, [SEC_STATUS.DRBG_OK, VNR_STATUS.RNG_OK], [], [], [.draws, .ltx, .sec]⟩ [Touch.keyPrivileged, Touch.setDev,
  Touch.refStart, Touch.placeTasks]
theorem touches_execBootReady (hF : Φ.covers Touch.execBootReady = true) : Touches Φ s (execBootReady s) := by
  simp [Touch.execBootReady] at hF
  refine touches_perform ?_
  simp [hF]

def Touch.execSvnRetry : May := .join ⟨0, [], [], [], [.sec]⟩ [Touch.raiseCounter]
theorem touches_execSvnRetry (hF : Φ.covers Touch.execSvnRetry = true) : Touches Φ s (execSvnRetry s) := by
  simp [Touch.execSvnRetry] at hF
  refine touches_perform ?_
  simp [hF]

def Touch.execKeeperAlarm : May := .join ⟨0, [SEC_STATUS.KEEPER_ALARM, VNR_STATUS.ERASED], [EV.KEEPER_ALARM, EV.KEY_ERASED], [], []⟩ [Touch.enterFault,
  Touch.eraseAll]
theorem touches_execKeeperAlarm (watchdog : Bool) (hF : Φ.covers Touch.execKeeperAlarm = true) : Touches Φ s (execKeeperAlarm watchdog s) := by
  simp [Touch.execKeeperAlarm] at hF
  refine touches_perform ?_
  simp [hF]

/-! ### Power -/

def Touch.execPwrStateSet : May := .join Touch.felwinN [Touch.opPwrStateSet]
theorem touches_execPwrStateSet (h : CmdHdr) (p : List Word) (hF : Φ.covers Touch.execPwrStateSet = true) : Touches Φ s (execPwrStateSet h p s) :=
  touches_felwin h p hF fun s => within_opPwrStateSet h _ s

def Touch.execPwrTransitionDone : May := .join ⟨0, [PWR_STATUS.BUSY], [], [], [.pwr]⟩ [Touch.finish, Touch.powerMove]
theorem touches_execPwrTransitionDone (ms : Nat) (hF : Φ.covers Touch.execPwrTransitionDone = true) : Touches Φ s (execPwrTransitionDone ms s) := by
  simp [Touch.execPwrTransitionDone] at hF
  refine touches_perform ?_
  simp only [within_dyn]
  (repeat' split) <;> simp [hF]

def Touch.execPwrStatus : May := Touch.felwinN
theorem touches_execPwrStatus (h : CmdHdr) (p : List Word) (hF : Φ.covers Touch.execPwrStatus = true) : Touches Φ s (execPwrStatus h p s) :=
  touches_perform (within_felwin _ h p hF fun s => within_opPwrStatus h _ s)

def Touch.execPwrCfg : May := .join Touch.felwinN [Touch.opPwrCfg]
theorem touches_execPwrCfg (h : CmdHdr) (p : List Word) (hF : Φ.covers Touch.execPwrCfg = true) : Touches Φ s (execPwrCfg h p s) :=
  touches_felwin h p hF fun s => within_opPwrCfg h _ s

def Touch.execThermalEval : May := .join ⟨0, [PWR_STATUS.TJ, PWR_STATUS.TRIP, PWR_STATUS.WARN, PWR_THERM_CFG.CRIT, PWR_THERM_CFG.WARN], [EV.THERM_CRIT,
  EV.THERM_WARN], [], [.pwr]⟩ [Touch.tempPass, Touch.judgeTherm]
theorem touches_execThermalEval (temps : List (BitVec 16)) (hF : Φ.covers Touch.execThermalEval = true) : Touches Φ s (execThermalEval temps s) := by
  simp [Touch.execThermalEval] at hF
  refine touches_perform ?_
  simp [hF]

/-! ### Ptp -/

def Touch.execPtpCfg : May := .join Touch.felwinN [Touch.opPtpCfg]
theorem touches_execPtpCfg (h : CmdHdr) (p : List Word) (hF : Φ.covers Touch.execPtpCfg = true) : Touches Φ s (execPtpCfg h p s) :=
  touches_felwin h p hF fun s => within_opPtpCfg h _ s

def Touch.execPtpPortSet : May := .join Touch.felwinN [Touch.opPtpPortSet]
theorem touches_execPtpPortSet (h : CmdHdr) (p : List Word) (hF : Φ.covers Touch.execPtpPortSet = true) : Touches Φ s (execPtpPortSet h p s) :=
  touches_felwin h p hF fun s => within_opPtpPortSet h _ s

def Touch.execPtpStatus : May := Touch.felwinN
theorem touches_execPtpStatus (h : CmdHdr) (p : List Word) (hF : Φ.covers Touch.execPtpStatus = true) : Touches Φ s (execPtpStatus h p s) :=
  touches_perform (within_felwin _ h p hF fun s => within_opPtpStatus h _ s)

def Touch.execPtpMessageRx : May := .join ⟨0, [], [], [(272, 1), (273, 1)], [.tod]⟩ [Touch.modPort, Touch.annRx]
theorem touches_execPtpMessageRx (p : Fin 32) (m : PtpMsg) (hF : Φ.covers Touch.execPtpMessageRx = true) : Touches Φ s (execPtpMessageRx p m s) := by
  simp [Touch.execPtpMessageRx] at hF
  refine touches_perform ?_
  simp only [within_dyn]
  (repeat' split) <;> simp [hF]

def Touch.execLineAnnounceRx : May := .join ⟨0, [], [], [], []⟩ [Touch.annRx]
theorem touches_execLineAnnounceRx (bytes : List (BitVec 8)) (hF : Φ.covers Touch.execLineAnnounceRx = true) : Touches Φ s (execLineAnnounceRx bytes s) := by
  simp [Touch.execLineAnnounceRx] at hF
  refine touches_perform ?_
  simp [hF]

def Touch.execPtpMessageTx : May := .join ⟨0, [], [], [], []⟩ [Touch.sendAnnounce, Touch.modPort]
theorem touches_execPtpMessageTx (p : Fin 33) (kind : Fin 3) (hF : Φ.covers Touch.execPtpMessageTx = true) : Touches Φ s (execPtpMessageTx p kind s) := by
  simp [Touch.execPtpMessageTx] at hF
  refine touches_perform ?_
  simp [hF]

def Touch.execAnnounceTimeout : May := .join ⟨0, [], [], [], [.tod]⟩ [Touch.portTo, Touch.syncPorts]
theorem touches_execAnnounceTimeout (p : Fin 33) (hF : Φ.covers Touch.execAnnounceTimeout = true) : Touches Φ s (execAnnounceTimeout p s) := by
  simp [Touch.execAnnounceTimeout] at hF
  refine touches_perform ?_
  simp [hF]

def Touch.execServoSecond : May := .join ⟨0, [TOD_RATE.ALL, TOD_STATUS.HOLD_LEFT], [], [], [.tod]⟩ [Touch.portTo, Touch.syncServo, Touch.putOffset]
theorem touches_execServoSecond (hF : Φ.covers Touch.execServoSecond = true) : Touches Φ s (execServoSecond s) := by
  simp [Touch.execServoSecond] at hF
  refine touches_perform ?_
  simp [hF]
  (repeat' split) <;> simp [hF]

def Touch.execParentMeasureDone : May := .join ⟨0, [], [EV.JUMP_REFUSED], [], [.tod]⟩ [Touch.portTo, Touch.syncServo, Touch.syncPorts, Touch.stepTo,
  Touch.putOffset]
theorem touches_execParentMeasureDone (hF : Φ.covers Touch.execParentMeasureDone = true) : Touches Φ s (execParentMeasureDone s) := by
  simp [Touch.execParentMeasureDone] at hF
  refine touches_perform ?_
  simp only [within_dyn]
  (repeat' split) <;> simp [hF]

def Touch.execHoldoverExpiry : May := .join ⟨0, [], [], [], [.tod]⟩ [Touch.sendAnnounce, Touch.syncPorts]
theorem touches_execHoldoverExpiry (hF : Φ.covers Touch.execHoldoverExpiry = true) : Touches Φ s (execHoldoverExpiry s) := by
  simp [Touch.execHoldoverExpiry] at hF
  refine touches_perform ?_
  simp [hF]

/-! ### RegRead -/

def Touch.execLowWordRead : May := .join ⟨0, [], [], [], []⟩ [Touch.busSide]
theorem touches_execLowWordRead (m : Mast) (off : BitVec 26) (hF : Φ.covers Touch.execLowWordRead = true) : Touches Φ s (execLowWordRead m off s) := by
  simp [Touch.execLowWordRead] at hF
  refine touches_perform ?_
  simp [hF]

def Touch.execHighWordRead : May := .join ⟨0, [], [], [], []⟩ [Touch.busSide]
theorem touches_execHighWordRead (m : Mast) (off : BitVec 26) (hF : Φ.covers Touch.execHighWordRead = true) : Touches Φ s (execHighWordRead m off s) := by
  simp [Touch.execHighWordRead] at hF
  refine touches_perform ?_
  simp [hF]

def Touch.execAccSelfRead : May := .join ⟨0, [], [], [], []⟩ [Touch.busSide]
theorem touches_execAccSelfRead (m : Mast) (hF : Φ.covers Touch.execAccSelfRead = true) : Touches Φ s (execAccSelfRead m s) := by
  simp [Touch.execAccSelfRead] at hF
  refine touches_perform ?_
  simp [hF]

/-! ### Registers -/

def Touch.execRegisterWrite : May := .join ⟨0, [ENG_SBX_DENY.WRITES, SYS_ACC_STAT.PARTIAL], [], [], []⟩ [Touch.flagAcc]
theorem touches_execRegisterWrite (m : Mast) (off : BitVec 26) (be : BitVec 4) (w : Word) (hF : Φ.covers Touch.execRegisterWrite = true) (hw : Φ.Wide) : Touches Φ s (execRegisterWrite m off be w s) := by
  simp [Touch.execRegisterWrite] at hF
  refine touches_perform ?_
  simp [hF, hw]

theorem touches_execSetAliasWrite (m : Mast) (off : BitVec 25) (w : Word) (hw : Φ.Wide) : Touches Φ s (execSetAliasWrite m off w s) := by
  refine touches_perform ?_
  simp [hw]

theorem touches_execClearAliasWrite (m : Mast) (off : BitVec 25) (w : Word) (hw : Φ.Wide) : Touches Φ s (execClearAliasWrite m off w s) := by
  refine touches_perform ?_
  simp [hw]

theorem touches_execLowWordWrite (m : Mast) (off : BitVec 26) (w : Word) (hw : Φ.Wide) : Touches Φ s (execLowWordWrite m off w s) := by
  refine touches_perform ?_
  simp [hw]

theorem touches_execHighWordWrite (m : Mast) (off : BitVec 26) (w : Word) (hw : Φ.Wide) : Touches Φ s (execHighWordWrite m off w s) := by
  refine touches_perform ?_
  simp [hw]

theorem touches_execIntStatClear (m : Mast) (b : Fin 19) (which : Fin 5) (w : Word) (hw : Φ.Wide) : Touches Φ s (execIntStatClear m b which w s) := by
  refine touches_perform ?_
  (repeat' split) <;> simp [hw]

theorem touches_execSysLockSet (m : Mast) (mask : BitVec 19) (hw : Φ.Wide) : Touches Φ s (execSysLockSet m mask s) := by
  refine touches_perform ?_
  simp [hw]

theorem touches_execEqConsWrite (m : Mast) (v : BitVec 16) (hw : Φ.Wide) : Touches Φ s (execEqConsWrite m v s) := by
  refine touches_perform ?_
  simp [hw]

def Touch.execGpioEdge : May := .join ⟨0, [], [], [], []⟩ [Touch.pinSample]
theorem touches_execGpioEdge (n : Fin 16) (level : Bool) (hF : Φ.covers Touch.execGpioEdge = true) : Touches Φ s (execGpioEdge n level s) := by
  simp [Touch.execGpioEdge] at hF
  refine touches_perform ?_
  simp [hF]

def Touch.execMsixUnmask : May := .join ⟨0, [MSIX_CTRL.MASK], [], [], [.sys]⟩ [Touch.sendPending]
theorem touches_execMsixUnmask (v : Fin 64) (en fmask : Bool) (hF : Φ.covers Touch.execMsixUnmask = true) : Touches Φ s (execMsixUnmask v en fmask s) := by
  simp [Touch.execMsixUnmask] at hF
  refine touches_perform ?_
  simp [hF]

def Touch.execFabricTimeout : May := .join ⟨0, [SYS_ACC_STAT.FABRIC], [], [(0, 20)], []⟩ [Touch.flagAcc]
theorem touches_execFabricTimeout (k : Fin 20) (m : Mast) (off : BitVec 26) (rd : Bool) (hF : Φ.covers Touch.execFabricTimeout = true) : Touches Φ s (execFabricTimeout k m off rd s) := by
  simp [Touch.execFabricTimeout] at hF
  have hcnt := Foot.cnt_of_cnts (j := k.val) hF.1.2 (by omega) (by omega)
  refine touches_perform ?_
  simp [hF, hcnt]

def Touch.execOscInActive : May := .join ⟨0, [], [], [], []⟩ [Touch.oscBack]
theorem touches_execOscInActive (hF : Φ.covers Touch.execOscInActive = true) : Touches Φ s (execOscInActive s) := by
  simp [Touch.execOscInActive] at hF
  refine touches_perform ?_
  simp [hF]

def Touch.execLineQlMessageTx : May := .join ⟨0, [], [], [], []⟩ [Touch.timeMsg]
theorem touches_execLineQlMessageTx (hF : Φ.covers Touch.execLineQlMessageTx = true) : Touches Φ s (execLineQlMessageTx s) := by
  simp [Touch.execLineQlMessageTx] at hF
  refine touches_perform ?_
  simp [hF]

/-! ### Fetch -/

theorem touches_execSysRegAccess (h : CmdHdr) (p : List Word) (hw : Φ.Wide) : Touches Φ s (execSysRegAccess h p s) :=
  touches_perform (within_felwin _ h p (hw.covers (by decide +kernel)) fun s => within_opSysRegAccess hw h _ s)

def Touch.execCommandFetch : May := ⟨0, [CMD_RING_STAT.CONS], [], [], [.cmd]⟩
theorem touches_execCommandFetch (pkt : List Word) (hF : Φ.covers Touch.execCommandFetch = true) (hw : Φ.Wide) : Touches Φ s (execCommandFetch pkt s) := by
  simp [Touch.execCommandFetch] at hF
  refine touches_perform ?_
  simp only [within_dyn]
  (repeat' split) <;> simp [hF, hw]

def Touch.execBattenPacketRx : May := .join ⟨0, [], [], [], [.cmd, .slots]⟩ [Touch.dumpToHost]
theorem touches_execBattenPacketRx (dst src : BitVec 8) (ring : Fin 4) (typ : BitVec 8) (body : List Word) (hF : Φ.covers Touch.execBattenPacketRx = true) (hw : Φ.Wide) : Touches Φ s (execBattenPacketRx dst src ring typ body s) := by
  simp [Touch.execBattenPacketRx] at hF
  refine touches_perform ?_
  (repeat' split) <;> simp [hF, hw]

def Touch.execCmdTimeout : May := .join ⟨0, [], [EV.CMD_TIMEOUT], [], [.journal]⟩ [Touch.finish, Touch.cancelRun]
theorem touches_execCmdTimeout (r : Fin 4) (q : BitVec 16) (hF : Φ.covers Touch.execCmdTimeout = true) : Touches Φ s (execCmdTimeout r q s) := by
  simp [Touch.execCmdTimeout] at hF
  refine touches_perform ?_
  simp only [within_dyn]
  (repeat' split) <;> simp [hF]

/-! ### Frames -/

def Touch.execRxFrame : May := .join ⟨0, [], [], [(36, 1), (259, 1)], [.frm]⟩ [Touch.judgeFill, Touch.ownDigest 1, Touch.modLayer, Touch.multiframe,
  Touch.takeTti, Touch.judgeRdi, Touch.judgeTim, Touch.takeLayer, Touch.takeStat, Touch.takeFlex, Touch.rxSwitch, Touch.takeOh, Touch.takeTribs,
  Touch.takeInterop]
theorem touches_execRxFrame (f : RxFrame) (hF : Φ.covers Touch.execRxFrame = true) : Touches Φ s (execRxFrame f s) := by
  simp [Touch.execRxFrame] at hF
  refine touches_perform ?_
  simp [hF]

def Touch.execTxFrame : May := .join ⟨0, [], [], [(32, 1), (33, 1)], []⟩ [Touch.announceMove, Touch.txSwitch, Touch.sendOh, Touch.sendCbr, Touch.takeEth,
  Touch.sendSlices, Touch.sendInterop]
theorem touches_execTxFrame (held : Nat) (waits : List (Fin 32 × Nat)) (eth : List (Fin 32 × List Bool)) (hF : Φ.covers Touch.execTxFrame = true) : Touches Φ s (execTxFrame held waits eth s) := by
  simp [Touch.execTxFrame] at hF
  refine touches_perform ?_
  simp [hF]

/-! ### Journal -/

def Touch.execJournalAckTimeout : May := .join ⟨0, [], [], [], []⟩ [Touch.mateStale, Touch.setRole]
theorem touches_execJournalAckTimeout (hF : Φ.covers Touch.execJournalAckTimeout = true) (hw : Φ.Wide) : Touches Φ s (execJournalAckTimeout s) := by
  simp [Touch.execJournalAckTimeout] at hF
  refine touches_perform ?_
  simp [hF, hw]

def Touch.execJournalEntryRx : May := .join ⟨0, [], [], [], [.pair]⟩ [Touch.trySync]
theorem touches_execJournalEntryRx (jseq : Word) (g : Glue) (hF : Φ.covers Touch.execJournalEntryRx = true) (hw : Φ.Wide) : Touches Φ s (execJournalEntryRx jseq g s) := by
  simp [Touch.execJournalEntryRx] at hF
  refine touches_perform ?_
  simp [hF, hw]

def Touch.execSnapshotRx : May := .join ⟨0, [], [], [], []⟩ [Touch.snapFail]
theorem touches_execSnapshotRx (x : Snapshot) (hF : Φ.covers Touch.execSnapshotRx = true) (hw : Φ.Wide) : Touches Φ s (execSnapshotRx x s) := by
  simp [Touch.execSnapshotRx] at hF
  refine touches_perform ?_
  simp [hF, hw]

def Touch.execHeartbeatRx : May := .join ⟨0, [PAIR_STATUS.MATE_ROLE], [EV.PAIR_UNPROTECTED], [], [.pair]⟩ [Touch.cutSnapshot, Touch.promote]
theorem touches_execHeartbeatRx (role : Fin 5) (healthy : Bool) (epoch ack : Word) (locked inFrame asks : Bool) (hF : Φ.covers Touch.execHeartbeatRx = true) (hw : Φ.Wide) : Touches Φ s (execHeartbeatRx role healthy epoch ack locked inFrame asks s) := by
  simp [Touch.execHeartbeatRx] at hF
  refine touches_perform ?_
  simp [hF, hw]

/-! ### Two more -/

def Touch.execSbxMsg : May := .join Touch.felwinN [Touch.opSbxMsg]
theorem touches_execSbxMsg (h : CmdHdr) (p : List Word) (taken : Nat) (posted : List (List (BitVec 8))) (hF : Φ.covers Touch.execSbxMsg = true) :
    Touches Φ s (execSbxMsg h p taken posted s) :=
  touches_felwin h p hF fun s => within_opSbxMsg taken posted h _ s

def Touch.execClientFrameIngress : May := .join ⟨0, [], [], [(288, 128)], [.cli]⟩ [Touch.ohWrite]
theorem touches_execClientFrameIngress (t : Fin 32) (frame : List (BitVec 8)) (gcc : List (List (BitVec 8)))
    (hF : Φ.covers Touch.execClientFrameIngress = true) : Touches Φ s (execClientFrameIngress t frame gcc s) := by
  simp [Touch.execClientFrameIngress] at hF
  have hslip := fun c (hc : c < 4) => cnt_cliCnt hF.1.1 t.isLt hc
  refine touches_perform ?_
  simp [hF, hslip, Touch.cbrWrite, Touch.cbrSlip]

end

end Sys2Proof.Machine

/-!
The frames of all commands: what each command touches lies within what `May.of` lists for it (O56), and no command writes a field beyond its width (O54).
-/
namespace Sys2Proof.Machine
open Sys2Proof

-- The proofs below evaluate in the kernel, which each waits for the one before it: one thread serves them all.
set_option Elab.async false

/-- What a command touches, where that does not depend on the register a master names: the writes, intakes and resets list nothing here. -/
def Touch.of : Instr → May
  | .secondBoundary .. => Touch.execSecondBoundary
  | .minuteBoundary .. => Touch.execMinuteBoundary
  | .registerWrite .. => Touch.execRegisterWrite
  | .fabricTimeout .. => Touch.execFabricTimeout
  | .ltxModeSet .. => Touch.execLtxModeSet
  | .ltxModeWrite .. => Touch.execLtxModeWrite
  | .ltxPlanLoad .. => Touch.execLtxPlanLoad
  | .planBoundsReady .. => Touch.execPlanBoundsReady
  | .ltxPlanCommit .. => Touch.execLtxPlanCommit
  | .planChgCommit .. => Touch.execPlanChgCommit
  | .ltxPlanCancel .. => Touch.execLtxPlanCancel
  | .planChgCancel .. => Touch.execPlanChgCancel
  | .ltxPlanGet .. => Touch.execLtxPlanGet
  | .ltxBiasCtrl .. => Touch.execLtxBiasCtrl
  | .biasSweep .. => Touch.execBiasSweep
  | .biasSweepDone .. => Touch.execBiasSweepDone
  | .ditherCycle .. => Touch.execDitherCycle
  | .biasDwellEnd .. => Touch.execBiasDwellEnd
  | .ltxLaserSet .. => Touch.execLtxLaserSet
  | .ltxLaserStatus .. => Touch.execLtxLaserStatus
  | .lasEnWrite .. => Touch.execLasEnWrite
  | .lasFreqWrite .. => Touch.execLasFreqWrite
  | .lasFtfWrite .. => Touch.execLasFtfWrite
  | .ftfApply .. => Touch.execFtfApply
  | .lasReset .. => Touch.execLasReset
  | .laserPoll .. => Touch.execLaserPoll
  | .itlaResponseTimeout .. => Touch.execItlaResponseTimeout
  | .laserFaultPin .. => Touch.execLaserFaultPin
  | .laserTuned .. => Touch.execLaserTuned
  | .laserTuneTimeout .. => Touch.execLaserTuneTimeout
  | .laserResetRetry .. => Touch.execLaserResetRetry
  | .ltxOutput .. => Touch.execLtxOutput
  | .outEnWrite .. => Touch.execOutEnWrite
  | .outputRampDone .. => Touch.execOutputRampDone
  | .biasLockTimeout .. => Touch.execBiasLockTimeout
  | .superframeBoundary .. => Touch.execSuperframeBoundary
  | .darkTimeTick .. => Touch.execDarkTimeTick
  | .loLightChange .. => Touch.execLoLightChange
  | .lrxModeSet .. => Touch.execLrxModeSet
  | .lrxModeWrite .. => Touch.execLrxModeWrite
  | .lrxEnable .. => Touch.execLrxEnable
  | .rxEnWrite .. => Touch.execRxEnWrite
  | .lrxAcqCfg .. => Touch.execLrxAcqCfg
  | .lrxEqCfg .. => Touch.execLrxEqCfg
  | .lrxFreeze .. => Touch.execLrxFreeze
  | .lrxRestart .. => Touch.execLrxRestart
  | .lrxRestartGo .. => Touch.execLrxRestartGo
  | .lrxStatus .. => Touch.execLrxStatus
  | .lrxTapsGet .. => Touch.execLrxTapsGet
  | .sigPresentSet .. => Touch.execSigPresentSet
  | .sigPresentClear .. => Touch.execSigPresentClear
  | .gainSettled .. => Touch.execGainSettled
  | .freqEstimateDone .. => Touch.execFreqEstimateDone
  | .dispBatchDone .. => Touch.execDispBatchDone
  | .symbolWindowEnd .. => Touch.execSymbolWindowEnd
  | .trainingWordDetect .. => Touch.execTrainingWordDetect
  | .pilotWindowEnd .. => Touch.execPilotWindowEnd
  | .rxSuperframeBoundary .. => Touch.execRxSuperframeBoundary
  | .superframeHeaderRx .. => Touch.execSuperframeHeaderRx
  | .stageTimeout .. => Touch.execStageTimeout
  | .acqTimeout .. => Touch.execAcqTimeout
  | .restartPauseEnd .. => Touch.execRestartPauseEnd
  | .holdExpired .. => Touch.execHoldExpired
  | .warmTimeout .. => Touch.execWarmTimeout
  | .lrxQuality .. => Touch.execLrxQuality
  | .lrxCrSet .. => Touch.execLrxCrSet
  | .lrxAdaptSet .. => Touch.execLrxAdaptSet
  | .lrxRplanLoad .. => Touch.execLrxRplanLoad
  | .lrxRplanGet .. => Touch.execLrxRplanGet
  | .lrxAdaptNow .. => Touch.execLrxAdaptNow
  | .lrxQTake .. => Touch.execLrxQTake
  | .lrxQSnapDone .. => Touch.execLrxQSnapDone
  | .slipClr .. => Touch.execSlipClr
  | .adaptEnWrite .. => Touch.execAdaptEnWrite
  | .snrReportSend .. => Touch.execSnrReportSend
  | .snrReport .. => Touch.execSnrReport
  | .reportStale .. => Touch.execReportStale
  | .offer .. => Touch.execOffer
  | .held .. => Touch.execHeld
  | .refuse .. => Touch.execRefuse
  | .rollbackReq .. => Touch.execRollbackReq
  | .offerReplyTimeout .. => Touch.execOfferReplyTimeout
  | .adaptBackoffEnd .. => Touch.execAdaptBackoffEnd
  | .verifyEnd .. => Touch.execVerifyEnd
  | .calStatus .. => Touch.execCalStatus
  | .calBgSet .. => Touch.execCalBgSet
  | .calRefSet .. => Touch.execCalRefSet
  | .calRun .. => Touch.execCalRun
  | .calFgDone .. => Touch.execCalFgDone
  | .fgTimeout .. => Touch.execFgTimeout
  | .calAbort .. => Touch.execCalAbort
  | .calCommit .. => Touch.execCalCommit
  | .fuseRowWriteDone .. => Touch.execFuseRowWriteDone
  | .fuseVddLoss .. => Touch.execFuseVddLoss
  | .calExport .. => Touch.execCalExport
  | .calLoad .. => Touch.execCalLoad
  | .calQuality .. => Touch.execCalQuality
  | .calSlice .. => Touch.execCalSlice
  | .cnvQTake .. => Touch.execCnvQTake
  | .cnvQSnapDone .. => Touch.execCnvQSnapDone
  | .calPassStart .. => Touch.execCalPassStart
  | .sliceStepStart .. => Touch.execSliceStepStart
  | .sliceHandover .. => Touch.execSliceHandover
  | .sliceCalDone .. => Touch.execSliceCalDone
  | .sliceFault .. => Touch.execSliceFault
  | .sliceRetest .. => Touch.execSliceRetest
  | .sliceReturn .. => Touch.execSliceReturn
  | .refCheck .. => Touch.execRefCheck
  | .bgEstimatorUpdate .. => Touch.execBgEstimatorUpdate
  | .fecCfg .. => Touch.execFecCfg
  | .fecStatus .. => Touch.execFecStatus
  | .fecCounters .. => Touch.execFecCounters
  | .fecInject .. => Touch.execFecInject
  | .fecGeometry .. => Touch.execFecGeometry
  | .fecCntClr .. => Touch.execFecCntClr
  | .fecOneShot .. => Touch.execFecOneShot
  | .fecInjDone .. => Touch.execFecInjDone
  | .fecBlockEncode .. => Touch.execFecBlockEncode
  | .fecBlockDecode .. => Touch.execFecBlockDecode
  | .frmCfg .. => Touch.execFrmCfg
  | .frmStatus .. => Touch.execFrmStatus
  | .frmPmGet .. => Touch.execFrmPmGet
  | .frmTtiSet .. => Touch.execFrmTtiSet
  | .frmTtiGet .. => Touch.execFrmTtiGet
  | .frmOhcCfg .. => Touch.execFrmOhcCfg
  | .frmOhcXfer .. => Touch.execFrmOhcXfer
  | .frmCntClr .. => Touch.execFrmCntClr
  | .frmResync .. => Touch.execFrmResync
  | .fasDetect .. => Touch.execFasDetect
  | .candidateCheck .. => Touch.execCandidateCheck
  | .resolutionWindowEnd .. => Touch.execResolutionWindowEnd
  | .inFrameCheck .. => Touch.execInFrameCheck
  | .rxFrame .. => Touch.execRxFrame
  | .txFrame .. => Touch.execTxFrame
  | .losClear .. => Touch.execLosClear
  | .lofDeclare .. => Touch.execLofDeclare
  | .lofClear .. => Touch.execLofClear
  | .lomDeclare .. => Touch.execLomDeclare
  | .lomClear .. => Touch.execLomClear
  | .pmSecond .. => Touch.execPmSecond
  | .cliAdd .. => Touch.execCliAdd
  | .cliRemove .. => Touch.execCliRemove
  | .cliMove .. => Touch.execCliMove
  | .cliMoveCancel .. => Touch.execCliMoveCancel
  | .cliStatus .. => Touch.execCliStatus
  | .cliCounters .. => Touch.execCliCounters
  | .cliTsCfg .. => Touch.execCliTsCfg
  | .cliLoop .. => Touch.execCliLoop
  | .cliSlotMap .. => Touch.execCliSlotMap
  | .cliCntClr .. => Touch.execCliCntClr
  | .psiMultiframe .. => Touch.execPsiMultiframe
  | .clientIngressFail .. => Touch.execClientIngressFail
  | .ingressFailClear .. => Touch.execIngressFailClear
  | .clientUp .. => Touch.execClientUp
  | .ptpMessageRx .. => Touch.execPtpMessageRx
  | .ptpMessageTx .. => Touch.execPtpMessageTx
  | .srdLaneSet .. => Touch.execSrdLaneSet
  | .srdStatus .. => Touch.execSrdStatus
  | .srdEyeScan .. => Touch.execSrdEyeScan
  | .eyeDone .. => Touch.execEyeDone
  | .srdJigSet .. => Touch.execSrdJigSet
  | .srdJigGet .. => Touch.execSrdJigGet
  | .srdCntClr .. => Touch.execSrdCntClr
  | .laneRetrain .. => Touch.execLaneRetrain
  | .jigInject .. => Touch.execJigInject
  | .jigLock .. => Touch.execJigLock
  | .jigUnlock .. => Touch.execJigUnlock
  | .lanePowerUp .. => Touch.execLanePowerUp
  | .laneTrained .. => Touch.execLaneTrained
  | .trainTimeout .. => Touch.execTrainTimeout
  | .trainRetry .. => Touch.execTrainRetry
  | .laneSignalLoss .. => Touch.execLaneSignalLoss
  | .align .. => Touch.execAlign
  | .laneWtrEnd .. => Touch.execLaneWtrEnd
  | .packetRx .. => Touch.execPacketRx
  | .vnrCfg .. => Touch.execVnrCfg
  | .vnrStatus .. => Touch.execVnrStatus
  | .vnrPageSet .. => Touch.execVnrPageSet
  | .vnrKeyLoad .. => Touch.execVnrKeyLoad
  | .vnrKeySwitch .. => Touch.execVnrKeySwitch
  | .vnrKeyErase .. => Touch.execVnrKeyErase
  | .vnrBind .. => Touch.execVnrBind
  | .vnrLa .. => Touch.execVnrLa
  | .laDone .. => Touch.execLaDone
  | .vnrCounters .. => Touch.execVnrCounters
  | .vnrRearm .. => Touch.execVnrRearm
  | .vnrCtrlRearm .. => Touch.execVnrCtrlRearm
  | .vnrCntClr .. => Touch.execVnrCntClr
  | .protModeWrite .. => Touch.execProtModeWrite
  | .vnrTxBlock .. => Touch.execVnrTxBlock
  | .vnrKatDone .. => Touch.execVnrKatDone
  | .vnrRxBlock .. => Touch.execVnrRxBlock
  | .retainedGenErase .. => Touch.execRetainedGenErase
  | .keyAge .. => Touch.execKeyAge
  | .keyExhausted .. => Touch.execKeyExhausted
  | .keyRotationTimer .. => Touch.execKeyRotationTimer
  | .sensorAlarm .. => Touch.execSensorAlarm
  | .sensorRekey .. => Touch.execSensorRekey
  | .drbgHealthFail .. => Touch.execDrbgHealthFail
  | .drbgHealthPass .. => Touch.execDrbgHealthPass
  | .scrCfgSet .. => Touch.execScrCfgSet
  | .scrTrust .. => Touch.execScrTrust
  | .scrStatus .. => Touch.execScrStatus
  | .scrPeers .. => Touch.execScrPeers
  | .scrRestart .. => Touch.execScrRestart
  | .scrCtrlRestart .. => Touch.execScrCtrlRestart
  | .scrCntClr .. => Touch.execScrCntClr
  | .scrEnWrite .. => Touch.execScrEnWrite
  | .syncWordDetect .. => Touch.execSyncWordDetect
  | .hello .. => Touch.execHello
  | .kex .. => Touch.execKex
  | .propose .. => Touch.execPropose
  | .accept .. => Touch.execAccept
  | .reject .. => Touch.execReject
  | .keys .. => Touch.execKeys
  | .keysAck .. => Touch.execKeysAck
  | .go .. => Touch.execGo
  | .goSent .. => Touch.execGoSent
  | .reneg .. => Touch.execReneg
  | .rotate .. => Touch.execRotate
  | .holdOffEnd .. => Touch.execHoldOffEnd
  | .helloTimer .. => Touch.execHelloTimer
  | .beaconLight .. => Touch.execBeaconLight
  | .selectionWindowEnd .. => Touch.execSelectionWindowEnd
  | .scrReplyTimeout .. => Touch.execScrReplyTimeout
  | .negTimeout .. => Touch.execNegTimeout
  | .scrHoldEnd .. => Touch.execScrHoldEnd
  | .scrLive .. => Touch.execScrLive
  | .goLiveTimeout .. => Touch.execGoLiveTimeout
  | .relockTimeout .. => Touch.execRelockTimeout
  | .peerHelloLost .. => Touch.execPeerHelloLost
  | .refCfg .. => Touch.execRefCfg
  | .refCandSet .. => Touch.execRefCandSet
  | .candFreqWrite .. => Touch.execCandFreqWrite
  | .refSelect .. => Touch.execRefSelect
  | .refStatus .. => Touch.execRefStatus
  | .refOutSet .. => Touch.execRefOutSet
  | .refRealign .. => Touch.execRefRealign
  | .realignStep .. => Touch.execRealignStep
  | .refActivity .. => Touch.execRefActivity
  | .freqGateEnd .. => Touch.execFreqGateEnd
  | .refQualifyEnd .. => Touch.execRefQualifyEnd
  | .driftEval .. => Touch.execDriftEval
  | .buildoutEnd .. => Touch.execBuildoutEnd
  | .dpllLock .. => Touch.execDpllLock
  | .dpllUnlock .. => Touch.execDpllUnlock
  | .dpllHistoryTick .. => Touch.execDpllHistoryTick
  | .clampExpired .. => Touch.execClampExpired
  | .oscLost .. => Touch.execOscLost
  | .esmcRx .. => Touch.execEsmcRx
  | .qlTimeout .. => Touch.execQlTimeout
  | .lineQlRx .. => Touch.execLineQlRx
  | .compatPulse .. => Touch.execCompatPulse
  | .todGet .. => Touch.execTodGet
  | .todStep .. => Touch.execTodStep
  | .todStepApply .. => Touch.execTodStepApply
  | .todRearm .. => Touch.execTodRearm
  | .todRateSet .. => Touch.execTodRateSet
  | .ptpCfg .. => Touch.execPtpCfg
  | .ptpPortSet .. => Touch.execPtpPortSet
  | .ptpStatus .. => Touch.execPtpStatus
  | .lineDelay .. => Touch.execLineDelay
  | .asymAccept .. => Touch.execAsymAccept
  | .schedSet .. => Touch.execSchedSet
  | .schedCancel .. => Touch.execSchedCancel
  | .schedFire .. => Touch.execSchedFire
  | .todLatch .. => Touch.execTodLatch
  | .todCntClr .. => Touch.execTodCntClr
  | .timeBaseOk .. => Touch.execTimeBaseOk
  | .lineStampRx .. => Touch.execLineStampRx
  | .lineAnnounceRx .. => Touch.execLineAnnounceRx
  | .asymHoldEnd .. => Touch.execAsymHoldEnd
  | .servoSecond .. => Touch.execServoSecond
  | .parentMeasureDone .. => Touch.execParentMeasureDone
  | .announceTimeout .. => Touch.execAnnounceTimeout
  | .holdoverExpiry .. => Touch.execHoldoverExpiry
  | .pairCfg .. => Touch.execPairCfg
  | .pairStatus .. => Touch.execPairStatus
  | .pairSwitch .. => Touch.execPairSwitch
  | .pairPromote .. => Touch.execPairPromote
  | .pairOos .. => Touch.execPairOos
  | .pairReturn .. => Touch.execPairReturn
  | .pairSnapshot .. => Touch.execPairSnapshot
  | .pairSpares .. => Touch.execPairSpares
  | .pairCntClr .. => Touch.execPairCntClr
  | .heartbeatTx .. => Touch.execHeartbeatTx
  | .heartbeatRx .. => Touch.execHeartbeatRx
  | .mitreLinkLost .. => Touch.execMitreLinkLost
  | .mitreLinkUp .. => Touch.execMitreLinkUp
  | .pairAuthRetry .. => Touch.execPairAuthRetry
  | .pegPulse .. => Touch.execPegPulse
  | .pegLoss .. => Touch.execPegLoss
  | .deathWinEnd .. => Touch.execDeathWinEnd
  | .journalEntryRx .. => Touch.execJournalEntryRx
  | .journalAckTimeout .. => Touch.execJournalAckTimeout
  | .failRx .. => Touch.execFailRx
  | .gapEnd .. => Touch.execGapEnd
  | .snapshotPeriod .. => Touch.execSnapshotPeriod
  | .snapshotRx .. => Touch.execSnapshotRx
  | .snapshotTimeout .. => Touch.execSnapshotTimeout
  | .digestBatchRx .. => Touch.execDigestBatchRx
  | .digestMissing .. => Touch.execDigestMissing
  | .identificationDone .. => Touch.execIdentificationDone
  | .pairWtrEnd .. => Touch.execPairWtrEnd
  | .plannedHandover .. => Touch.execPlannedHandover
  | .mitreTimeStamp .. => Touch.execMitreTimeStamp
  | .engWatchdog .. => Touch.execEngWatchdog
  | .engEcc .. => Touch.execEngEcc
  | .engTrap .. => Touch.execEngTrap
  | .taskResume .. => Touch.execTaskResume
  | .engineRetest .. => Touch.execEngineRetest
  | .spareWtrEnd .. => Touch.execSpareWtrEnd
  | .sharedSramError .. => Touch.execSharedSramError
  | .monCfg .. => Touch.execMonCfg
  | .monStart .. => Touch.execMonStart
  | .monRead .. => Touch.execMonRead
  | .monTrigger .. => Touch.execMonTrigger
  | .monSyscal .. => Touch.execMonSyscal
  | .monSyscalDone .. => Touch.execMonSyscalDone
  | .monStatus .. => Touch.execMonStatus
  | .monCntClr .. => Touch.execMonCntClr
  | .monInterleaveWrite .. => Touch.execMonInterleaveWrite
  | .monQRead .. => Touch.execMonQRead
  | .monTimerTrigger .. => Touch.execMonTimerTrigger
  | .dsyncPulse .. => Touch.execDsyncPulse
  | .monDelayEnd .. => Touch.execMonDelayEnd
  | .monWord .. => Touch.execMonWord
  | .obsSnapshot .. => Touch.execObsSnapshot
  | .obsCntRead .. => Touch.execObsCntRead
  | .obsEvtRoute .. => Touch.execObsEvtRoute
  | .obsDumpCfg .. => Touch.execObsDumpCfg
  | .obsBwCfg .. => Touch.execObsBwCfg
  | .capCfg .. => Touch.execCapCfg
  | .capTrigger .. => Touch.execCapTrigger
  | .capRead .. => Touch.execCapRead
  | .capReadDone .. => Touch.execCapReadDone
  | .capRearm .. => Touch.execCapRearm
  | .recCfg .. => Touch.execRecCfg
  | .recRead .. => Touch.execRecRead
  | .recReadDone .. => Touch.execRecReadDone
  | .recHold .. => Touch.execRecHold
  | .recStatus .. => Touch.execRecStatus
  | .obsCntClr .. => Touch.execObsCntClr
  | .bwClear .. => Touch.execBwClear
  | .obsSnapTake .. => Touch.execObsSnapTake
  | .obsPreset .. => Touch.execObsPreset
  | .wrapClear .. => Touch.execWrapClear
  | .dumpPeriod .. => Touch.execDumpPeriod
  | .bwWindowEnd .. => Touch.execBwWindowEnd
  | .triggerInputFire .. => Touch.execTriggerInputFire
  | .capFrozen .. => Touch.execCapFrozen
  | .drainDone .. => Touch.execDrainDone
  | .segmentWriteDone .. => Touch.execSegmentWriteDone
  | .driveFail .. => Touch.execDriveFail
  | .driveReady .. => Touch.execDriveReady
  | .eqCoalesceEnd .. => Touch.execEqCoalesceEnd
  | .cmdDoorbell .. => Touch.execCmdDoorbell
  | .commandFetch .. => Touch.execCommandFetch
  | .replyWrite .. => Touch.execReplyWrite
  | .replyAck .. => Touch.execReplyAck
  | .dumpConsWrite .. => Touch.execDumpConsWrite
  | .cmdTimeout .. => Touch.execCmdTimeout
  | .identify .. => Touch.execIdentify
  | .status .. => Touch.execStatus
  | .sysStateSet .. => Touch.execSysStateSet
  | .sysSessionOpen .. => Touch.execSysSessionOpen
  | .sysSessionClose .. => Touch.execSysSessionClose
  | .sysSlotRelease .. => Touch.execSysSlotRelease
  | .battenStatus .. => Touch.execBattenStatus
  | .engStatus .. => Touch.execEngStatus
  | .engCfg .. => Touch.execEngCfg
  | .fwStage .. => Touch.execFwStage
  | .fwStageDone .. => Touch.execFwStageDone
  | .fwActivate .. => Touch.execFwActivate
  | .fwProbationEnd .. => Touch.execFwProbationEnd
  | .fwCommit .. => Touch.execFwCommit
  | .sbxLoad .. => Touch.execSbxLoad
  | .sbxLoadDone .. => Touch.execSbxLoadDone
  | .sbxCtrl .. => Touch.execSbxCtrl
  | .sbxMsg .. => Touch.execSbxMsg
  | .battenRestart .. => Touch.execBattenRestart
  | .battenTokenRx .. => Touch.execBattenTokenRx
  | .battenPacketRx .. => Touch.execBattenPacketRx
  | .enumTimeout .. => Touch.execEnumTimeout
  | .enumRetry .. => Touch.execEnumRetry
  | .pcieHostReset .. => Touch.execPcieHostReset
  | .secStatus .. => Touch.execSecStatus
  | .secCerts .. => Touch.execSecCerts
  | .attest .. => Touch.execAttest
  | .secSessionKey .. => Touch.execSecSessionKey
  | .secNonce .. => Touch.execSecNonce
  | .secLifecycle .. => Touch.execSecLifecycle
  | .secCustkey .. => Touch.execSecCustkey
  | .secReset .. => Touch.execSecReset
  | .pwrStateSet .. => Touch.execPwrStateSet
  | .pwrTransitionDone .. => Touch.execPwrTransitionDone
  | .pwrStatus .. => Touch.execPwrStatus
  | .pwrCfg .. => Touch.execPwrCfg
  | .lifecycleReset .. => Touch.execLifecycleReset
  | .deviceReset .. => Touch.execDeviceReset
  | .powerOnReset .. => Touch.execPowerOnReset
  | .debugReset .. => Touch.execDebugReset
  | .wake .. => Touch.execWake
  | .porstRelease .. => Touch.execPorstRelease
  | .fuseReadDone .. => Touch.execFuseReadDone
  | .keeperBoot .. => Touch.execKeeperBoot
  | .engineImageLoaded .. => Touch.execEngineImageLoaded
  | .bootReady .. => Touch.execBootReady
  | .svnRetry .. => Touch.execSvnRetry
  | .keeperAlarm .. => Touch.execKeeperAlarm
  | .thermalEval .. => Touch.execThermalEval
  | .lowWordRead .. => Touch.execLowWordRead
  | .highWordRead .. => Touch.execHighWordRead
  | .accSelfRead .. => Touch.execAccSelfRead
  | .gpioEdge .. => Touch.execGpioEdge
  | .msixUnmask .. => Touch.execMsixUnmask
  | .oscInActive .. => Touch.execOscInActive
  | .lineQlMessageTx .. => Touch.execLineQlMessageTx
  | .pcieLinkUp .. => Touch.execPcieLinkUp
  | .clientFrameIngress .. => Touch.execClientFrameIngress
  | .clientFrameEgress .. => Touch.execClientFrameEgress
  | _ => ⟨0, [], [], [], []⟩

/-- Every command runs to what an effect within its footprint leaves; those of the later groups may write what a bus master can. -/
theorem touches_exec {Φ : Foot} {s : State} (c : Instr) (hF : Φ.covers (Touch.of c) = true) (hw : 3 ≤ (May.of c).group → Φ.Wide) : Touches Φ s (exec c s) := by
  cases c with
  | secondBoundary => exact touches_execSecondBoundary hF
  | minuteBoundary => exact touches_execMinuteBoundary hF
  | registerWrite m off be w => exact touches_execRegisterWrite m off be w hF (hw (Nat.le_of_ble_eq_true rfl))
  | fabricTimeout k m off rd => exact touches_execFabricTimeout k m off rd hF
  | ltxModeSet h p => exact touches_execLtxModeSet h p hF
  | ltxModeWrite m mode n => exact touches_execLtxModeWrite m mode n hF
  | ltxPlanLoad h p => exact touches_execLtxPlanLoad h p hF
  | planBoundsReady => exact touches_execPlanBoundsReady hF
  | ltxPlanCommit h p => exact touches_execLtxPlanCommit h p hF
  | planChgCommit m => exact touches_execPlanChgCommit m hF
  | ltxPlanCancel h p => exact touches_execLtxPlanCancel h p hF
  | planChgCancel m => exact touches_execPlanChgCancel m hF
  | ltxPlanGet h p => exact touches_execLtxPlanGet h p hF
  | ltxBiasCtrl h p => exact touches_execLtxBiasCtrl h p hF
  | biasSweep m => exact touches_execBiasSweep m hF
  | biasSweepDone => exact touches_execBiasSweepDone hF
  | ditherCycle => exact touches_execDitherCycle hF
  | biasDwellEnd => exact touches_execBiasDwellEnd hF
  | ltxLaserSet h p => exact touches_execLtxLaserSet h p hF
  | ltxLaserStatus h p => exact touches_execLtxLaserStatus h p hF
  | lasEnWrite m p en => exact touches_execLasEnWrite m p en hF
  | lasFreqWrite m p v => exact touches_execLasFreqWrite m p v hF
  | lasFtfWrite m p v => exact touches_execLasFtfWrite m p v hF
  | ftfApply p => exact touches_execFtfApply p hF
  | lasReset m p => exact touches_execLasReset m p hF
  | laserPoll p statusF statusW => exact touches_execLaserPoll p statusF statusW hF
  | itlaResponseTimeout p => exact touches_execItlaResponseTimeout p hF
  | laserFaultPin p => exact touches_execLaserFaultPin p hF
  | laserTuned p lf ftfr oop ctemp => exact touches_execLaserTuned p lf ftfr oop ctemp hF
  | laserTuneTimeout p => exact touches_execLaserTuneTimeout p hF
  | laserResetRetry p => exact touches_execLaserResetRetry p hF
  | ltxOutput h p => exact touches_execLtxOutput h p hF
  | outEnWrite m v => exact touches_execOutEnWrite m v hF
  | outputRampDone => exact touches_execOutputRampDone hF
  | biasLockTimeout => exact touches_execBiasLockTimeout hF
  | superframeBoundary hist => exact touches_execSuperframeBoundary hist hF
  | darkTimeTick => exact touches_execDarkTimeTick hF
  | loLightChange present => exact touches_execLoLightChange present hF
  | lrxModeSet h p => exact touches_execLrxModeSet h p hF
  | lrxModeWrite m mode n => exact touches_execLrxModeWrite m mode n hF
  | lrxEnable h p => exact touches_execLrxEnable h p hF
  | rxEnWrite m v => exact touches_execRxEnWrite m v hF
  | lrxAcqCfg h p => exact touches_execLrxAcqCfg h p hF
  | lrxEqCfg h p => exact touches_execLrxEqCfg h p hF
  | lrxFreeze h p => exact touches_execLrxFreeze h p hF
  | lrxRestart h p => exact touches_execLrxRestart h p hF
  | lrxRestartGo m => exact touches_execLrxRestartGo m hF
  | lrxStatus h p => exact touches_execLrxStatus h p hF
  | lrxTapsGet h p => exact touches_execLrxTapsGet h p hF
  | sigPresentSet => exact touches_execSigPresentSet hF
  | sigPresentClear => exact touches_execSigPresentClear hF
  | gainSettled pow => exact touches_execGainSettled pow hF
  | freqEstimateDone spectra => exact touches_execFreqEstimateDone spectra hF
  | dispBatchDone metrics => exact touches_execDispBatchDone metrics hF
  | symbolWindowEnd pow cross wins => exact touches_execSymbolWindowEnd pow cross wins hF
  | trainingWordDetect sc pos xs ys => exact touches_execTrainingWordDetect sc pos xs ys hF
  | pilotWindowEnd wins => exact touches_execPilotWindowEnd wins hF
  | rxSuperframeBoundary frames => exact touches_execRxSuperframeBoundary frames hF
  | superframeHeaderRx hdr => exact touches_execSuperframeHeaderRx hdr hF
  | stageTimeout => exact touches_execStageTimeout hF
  | acqTimeout => exact touches_execAcqTimeout hF
  | restartPauseEnd => exact touches_execRestartPauseEnd hF
  | holdExpired => exact touches_execHoldExpired hF
  | warmTimeout => exact touches_execWarmTimeout hF
  | lrxQuality h p => exact touches_execLrxQuality h p hF
  | lrxCrSet h p => exact touches_execLrxCrSet h p hF
  | lrxAdaptSet h p => exact touches_execLrxAdaptSet h p hF
  | lrxRplanLoad h p => exact touches_execLrxRplanLoad h p hF
  | lrxRplanGet h p => exact touches_execLrxRplanGet h p hF
  | lrxAdaptNow h p => exact touches_execLrxAdaptNow h p hF
  | lrxQTake m => exact touches_execLrxQTake m hF
  | lrxQSnapDone => exact touches_execLrxQSnapDone hF
  | slipClr m => exact touches_execSlipClr m hF
  | adaptEnWrite m tx rx => exact touches_execAdaptEnWrite m tx rx hF
  | snrReportSend => exact touches_execSnrReportSend hF
  | snrReport crcOk plan dd snr margin uncorr => exact touches_execSnrReport crcOk plan dd snr margin uncorr hF
  | reportStale => exact touches_execReportStale hF
  | offer crcOk seq id prev words => exact touches_execOffer crcOk seq id prev words hF
  | held crcOk seq id => exact touches_execHeld crcOk seq id hF
  | refuse crcOk seq id reason => exact touches_execRefuse crcOk seq id reason hF
  | rollbackReq crcOk leave ret reason => exact touches_execRollbackReq crcOk leave ret reason hF
  | offerReplyTimeout => exact touches_execOfferReplyTimeout hF
  | adaptBackoffEnd => exact touches_execAdaptBackoffEnd hF
  | verifyEnd => exact touches_execVerifyEnd hF
  | calStatus h p => exact touches_execCalStatus h p hF
  | calBgSet h p => exact touches_execCalBgSet h p hF
  | calRefSet h p => exact touches_execCalRefSet h p hF
  | calRun h p vdev fdev => exact touches_execCalRun h p vdev fdev hF
  | calFgDone sets enob figs => exact touches_execCalFgDone sets enob figs hF
  | fgTimeout => exact touches_execFgTimeout hF
  | calAbort h p => exact touches_execCalAbort h p hF
  | calCommit h p vdd => exact touches_execCalCommit h p vdd hF
  | fuseRowWriteDone same => exact touches_execFuseRowWriteDone same hF
  | fuseVddLoss n k => exact touches_execFuseVddLoss n k hF
  | calExport h p => exact touches_execCalExport h p hF
  | calLoad h p => exact touches_execCalLoad h p hF
  | calQuality h p => exact touches_execCalQuality h p hF
  | calSlice h p trim => exact touches_execCalSlice h p trim hF
  | cnvQTake m => exact touches_execCnvQTake m hF
  | cnvQSnapDone => exact touches_execCnvQSnapDone hF
  | calPassStart => exact touches_execCalPassStart hF
  | sliceStepStart m => exact touches_execSliceStepStart m hF
  | sliceHandover m trim d pin => exact touches_execSliceHandover m trim d pin hF
  | sliceCalDone m gain offset resid => exact touches_execSliceCalDone m gain offset resid hF
  | sliceFault n test trim => exact touches_execSliceFault n test trim hF
  | sliceRetest n pass => exact touches_execSliceRetest n pass hF
  | sliceReturn n trim diffs => exact touches_execSliceReturn n trim diffs hF
  | refCheck vdev fdev => exact touches_execRefCheck vdev fdev hF
  | bgEstimatorUpdate est u gain offset timing steps => exact touches_execBgEstimatorUpdate est u gain offset timing steps hF
  | fecCfg h p => exact touches_execFecCfg h p hF
  | fecStatus h p => exact touches_execFecStatus h p hF
  | fecCounters h p => exact touches_execFecCounters h p hF
  | fecInject h p => exact touches_execFecInject h p hF
  | fecGeometry h p => exact touches_execFecGeometry h p hF
  | fecCntClr m => exact touches_execFecCntClr m hF
  | fecOneShot m => exact touches_execFecOneShot m hF
  | fecInjDone => exact touches_execFecInjDone hF
  | fecBlockEncode net held => exact touches_execFecBlockEncode net held hF
  | fecBlockDecode ys held => exact touches_execFecBlockDecode ys held hF
  | frmCfg h p => exact touches_execFrmCfg h p hF
  | frmStatus h p => exact touches_execFrmStatus h p hF
  | frmPmGet h p => exact touches_execFrmPmGet h p hF
  | frmTtiSet h p => exact touches_execFrmTtiSet h p hF
  | frmTtiGet h p => exact touches_execFrmTtiGet h p hF
  | frmOhcCfg h p => exact touches_execFrmOhcCfg h p hF
  | frmOhcXfer h p => exact touches_execFrmOhcXfer h p hF
  | frmCntClr m => exact touches_execFrmCntClr m hF
  | frmResync m => exact touches_execFrmResync m hF
  | fasDetect off blk marker => exact touches_execFasDetect off blk marker hF
  | candidateCheck off sees => exact touches_execCandidateCheck off sees hF
  | resolutionWindowEnd => exact touches_execResolutionWindowEnd hF
  | inFrameCheck sees => exact touches_execInFrameCheck sees hF
  | rxFrame f => exact touches_execRxFrame f hF
  | txFrame held waits eth => exact touches_execTxFrame held waits eth hF
  | losClear => exact touches_execLosClear hF
  | lofDeclare => exact touches_execLofDeclare hF
  | lofClear => exact touches_execLofClear hF
  | lomDeclare => exact touches_execLomDeclare hF
  | lomClear => exact touches_execLomClear hF
  | pmSecond => exact touches_execPmSecond hF
  | cliAdd h p => exact touches_execCliAdd h p hF
  | cliRemove h p => exact touches_execCliRemove h p hF
  | cliMove h p => exact touches_execCliMove h p hF
  | cliMoveCancel h p => exact touches_execCliMoveCancel h p hF
  | cliStatus h p => exact touches_execCliStatus h p hF
  | cliCounters h p => exact touches_execCliCounters h p hF
  | cliTsCfg h p => exact touches_execCliTsCfg h p hF
  | cliLoop h p => exact touches_execCliLoop h p hF
  | cliSlotMap h p => exact touches_execCliSlotMap h p hF
  | cliCntClr m => exact touches_execCliCntClr m hF
  | psiMultiframe act pend rec => exact touches_execPsiMultiframe act pend rec hF
  | clientIngressFail t why lane skew errs => exact touches_execClientIngressFail t why lane skew errs hF
  | ingressFailClear t skew => exact touches_execIngressFailClear t skew hF
  | clientUp t => exact touches_execClientUp t hF
  | ptpMessageRx p m => exact touches_execPtpMessageRx p m hF
  | ptpMessageTx p kind => exact touches_execPtpMessageTx p kind hF
  | srdLaneSet h p => exact touches_execSrdLaneSet h p hF
  | srdStatus h p => exact touches_execSrdStatus h p hF
  | srdEyeScan h p => exact touches_execSrdEyeScan h p hF
  | eyeDone n aborted errs vstep phase => exact touches_execEyeDone n aborted errs vstep phase hF
  | srdJigSet h p => exact touches_execSrdJigSet h p hF
  | srdJigGet h p => exact touches_execSrdJigGet h p hF
  | srdCntClr m => exact touches_execSrdCntClr m hF
  | laneRetrain m n => exact touches_execLaneRetrain m n hF
  | jigInject m n => exact touches_execJigInject m n hF
  | jigLock n bits errs => exact touches_execJigLock n bits errs hF
  | jigUnlock n bits errs => exact touches_execJigUnlock n bits errs hF
  | lanePowerUp k => exact touches_execLanePowerUp k hF
  | laneTrained n => exact touches_execLaneTrained n hF
  | trainTimeout n => exact touches_execTrainTimeout n hF
  | trainRetry n => exact touches_execTrainRetry n hF
  | laneSignalLoss n => exact touches_execLaneSignalLoss n hF
  | align g lanes active next good => exact touches_execAlign g lanes active next good hF
  | laneWtrEnd n => exact touches_execLaneWtrEnd n hF
  | packetRx g cols noAlign => exact touches_execPacketRx g cols noAlign hF
  | vnrCfg h p => exact touches_execVnrCfg h p hF
  | vnrStatus h p => exact touches_execVnrStatus h p hF
  | vnrPageSet h p => exact touches_execVnrPageSet h p hF
  | vnrKeyLoad h p => exact touches_execVnrKeyLoad h p hF
  | vnrKeySwitch h p => exact touches_execVnrKeySwitch h p hF
  | vnrKeyErase h p => exact touches_execVnrKeyErase h p hF
  | vnrBind h p => exact touches_execVnrBind h p hF
  | vnrLa h p => exact touches_execVnrLa h p hF
  | laDone n aad data mis => exact touches_execLaDone n aad data mis hF
  | vnrCounters h p => exact touches_execVnrCounters h p hF
  | vnrRearm h p => exact touches_execVnrRearm h p hF
  | vnrCtrlRearm m => exact touches_execVnrCtrlRearm m hF
  | vnrCntClr m => exact touches_execVnrCntClr m hF
  | protModeWrite m v => exact touches_execProtModeWrite m v hF
  | vnrTxBlock t pipe why => exact touches_execVnrTxBlock t pipe why hF
  | vnrKatDone dir pipe pass => exact touches_execVnrKatDone dir pipe pass hF
  | vnrRxBlock t pipe kp ka fill gen seq filled tagOk marked mis => exact touches_execVnrRxBlock t pipe kp ka fill gen seq filled tagOk marked mis hF
  | retainedGenErase p k => exact touches_execRetainedGenErase p k hF
  | keyAge p k la => exact touches_execKeyAge p k la hF
  | keyExhausted p k => exact touches_execKeyExhausted p k hF
  | keyRotationTimer p => exact touches_execKeyRotationTimer p hF
  | sensorAlarm b => exact touches_execSensorAlarm b hF
  | sensorRekey => exact touches_execSensorRekey hF
  | drbgHealthFail => exact touches_execDrbgHealthFail hF
  | drbgHealthPass => exact touches_execDrbgHealthPass hF
  | scrCfgSet h p => exact touches_execScrCfgSet h p hF
  | scrTrust h p => exact touches_execScrTrust h p hF
  | scrStatus h p => exact touches_execScrStatus h p hF
  | scrPeers h p => exact touches_execScrPeers h p hF
  | scrRestart h p => exact touches_execScrRestart h p hF
  | scrCtrlRestart m => exact touches_execScrCtrlRestart m hF
  | scrCntClr m => exact touches_execScrCntClr m hF
  | scrEnWrite m v => exact touches_execScrEnWrite m v hF
  | syncWordDetect k => exact touches_execSyncWordDetect k hF
  | hello x => exact touches_execHello x hF
  | kex src seq pub nonce sigOk => exact touches_execKex src seq pub nonce sigOk hF
  | propose src seq mode shape => exact touches_execPropose src seq mode shape hF
  | accept src seq of => exact touches_execAccept src seq of hF
  | reject src seq of reason => exact touches_execReject src seq of reason hF
  | keys src seq ks => exact touches_execKeys src seq ks hF
  | keysAck src seq of pages => exact touches_execKeysAck src seq of pages hF
  | go src seq of => exact touches_execGo src seq of hF
  | goSent => exact touches_execGoSent hF
  | reneg src seq mode => exact touches_execReneg src seq mode hF
  | rotate src seq page => exact touches_execRotate src seq page hF
  | holdOffEnd => exact touches_execHoldOffEnd hF
  | helloTimer => exact touches_execHelloTimer hF
  | beaconLight => exact touches_execBeaconLight hF
  | selectionWindowEnd => exact touches_execSelectionWindowEnd hF
  | scrReplyTimeout => exact touches_execScrReplyTimeout hF
  | negTimeout => exact touches_execNegTimeout hF
  | scrHoldEnd => exact touches_execScrHoldEnd hF
  | scrLive => exact touches_execScrLive hF
  | goLiveTimeout => exact touches_execGoLiveTimeout hF
  | relockTimeout => exact touches_execRelockTimeout hF
  | peerHelloLost => exact touches_execPeerHelloLost hF
  | refCfg h p => exact touches_execRefCfg h p hF
  | refCandSet h p => exact touches_execRefCandSet h p hF
  | candFreqWrite m c v => exact touches_execCandFreqWrite m c v hF
  | refSelect h p => exact touches_execRefSelect h p hF
  | refStatus h p => exact touches_execRefStatus h p hF
  | refOutSet h p => exact touches_execRefOutSet h p hF
  | refRealign h p => exact touches_execRefRealign h p hF
  | realignStep cmd mask moves => exact touches_execRealignStep cmd mask moves hF
  | refActivity c edges => exact touches_execRefActivity c edges hF
  | freqGateEnd c off => exact touches_execFreqGateEnd c off hF
  | refQualifyEnd c => exact touches_execRefQualifyEnd c hF
  | driftEval => exact touches_execDriftEval hF
  | buildoutEnd => exact touches_execBuildoutEnd hF
  | dpllLock => exact touches_execDpllLock hF
  | dpllUnlock err => exact touches_execDpllUnlock err hF
  | dpllHistoryTick freq phase => exact touches_execDpllHistoryTick freq phase hF
  | clampExpired => exact touches_execClampExpired hF
  | oscLost => exact touches_execOscLost hF
  | esmcRx t ssm enh => exact touches_execEsmcRx t ssm enh hF
  | esmcTx => exact touches_execEsmcTx 
  | qlTimeout k => exact touches_execQlTimeout k hF
  | lineQlRx b0 b1 b2 b3 => exact touches_execLineQlRx b0 b1 b2 b3 hF
  | compatPulse o err => exact touches_execCompatPulse o err hF
  | todGet h p => exact touches_execTodGet h p hF
  | todStep h p => exact touches_execTodStep h p hF
  | todStepApply => exact touches_execTodStepApply hF
  | todRearm h p => exact touches_execTodRearm h p hF
  | todRateSet h p => exact touches_execTodRateSet h p hF
  | ptpCfg h p => exact touches_execPtpCfg h p hF
  | ptpPortSet h p => exact touches_execPtpPortSet h p hF
  | ptpStatus h p => exact touches_execPtpStatus h p hF
  | lineDelay h p => exact touches_execLineDelay h p hF
  | asymAccept h p => exact touches_execAsymAccept h p hF
  | schedSet h p => exact touches_execSchedSet h p hF
  | schedCancel h p => exact touches_execSchedCancel h p hF
  | schedFire e => exact touches_execSchedFire e hF
  | todLatch m => exact touches_execTodLatch m hF
  | todCntClr m => exact touches_execTodCntClr m hF
  | timeBaseOk => exact touches_execTimeBaseOk hF
  | lineStampRx bytes => exact touches_execLineStampRx bytes hF
  | lineAnnounceRx bytes => exact touches_execLineAnnounceRx bytes hF
  | asymHoldEnd => exact touches_execAsymHoldEnd hF
  | servoSecond => exact touches_execServoSecond hF
  | parentMeasureDone => exact touches_execParentMeasureDone hF
  | announceTimeout p => exact touches_execAnnounceTimeout p hF
  | holdoverExpiry => exact touches_execHoldoverExpiry hF
  | pairCfg h p => exact touches_execPairCfg h p hF
  | pairStatus h p => exact touches_execPairStatus h p hF
  | pairSwitch h p => exact touches_execPairSwitch h p hF
  | pairPromote h p => exact touches_execPairPromote h p hF
  | pairOos h p => exact touches_execPairOos h p hF
  | pairReturn h p => exact touches_execPairReturn h p hF
  | pairSnapshot h p => exact touches_execPairSnapshot h p hF
  | pairSpares h p => exact touches_execPairSpares h p hF
  | pairCntClr m => exact touches_execPairCntClr m hF
  | heartbeatTx => exact touches_execHeartbeatTx hF
  | heartbeatRx role healthy epoch ack locked inFrame asks => exact touches_execHeartbeatRx role healthy epoch ack locked inFrame asks hF (hw (Nat.le_of_ble_eq_true rfl))
  | mitreLinkLost groupDown => exact touches_execMitreLinkLost groupDown hF
  | mitreLinkUp x => exact touches_execMitreLinkUp x hF
  | pairAuthRetry x => exact touches_execPairAuthRetry x hF
  | pegTx => exact touches_execPegTx 
  | pegPulse us => exact touches_execPegPulse us hF
  | pegLoss => exact touches_execPegLoss hF
  | deathWinEnd => exact touches_execDeathWinEnd hF
  | journalEntryRx jseq g => exact touches_execJournalEntryRx jseq g hF (hw (Nat.le_of_ble_eq_true rfl))
  | journalAckTimeout => exact touches_execJournalAckTimeout hF (hw (Nat.le_of_ble_eq_true rfl))
  | journalResend => exact touches_execJournalResend 
  | failRx row => exact touches_execFailRx row hF
  | gapEnd => exact touches_execGapEnd hF
  | snapshotPeriod => exact touches_execSnapshotPeriod hF
  | snapshotRx x => exact touches_execSnapshotRx x hF (hw (Nat.le_of_ble_eq_true rfl))
  | snapshotTimeout => exact touches_execSnapshotTimeout hF
  | digestBatchRx d ds => exact touches_execDigestBatchRx d ds hF
  | digestMissing d ftag => exact touches_execDigestMissing d ftag hF
  | identificationDone own mate => exact touches_execIdentificationDone own mate hF
  | pairWtrEnd => exact touches_execPairWtrEnd hF
  | plannedHandover => exact touches_execPlannedHandover hF
  | mitreTimeStamp offset rate => exact touches_execMitreTimeStamp offset rate hF
  | engWatchdog e => exact touches_execEngWatchdog e hF
  | engEcc e corrected => exact touches_execEngEcc e corrected hF
  | engTrap e => exact touches_execEngTrap e hF
  | taskResume sp pass => exact touches_execTaskResume sp pass hF
  | engineRetest e pass => exact touches_execEngineRetest e pass hF
  | spareWtrEnd e => exact touches_execSpareWtrEnd e hF
  | sharedSramError c => exact touches_execSharedSramError c hF
  | monCfg h p => exact touches_execMonCfg h p hF
  | monStart h p => exact touches_execMonStart h p hF
  | monRead h p => exact touches_execMonRead h p hF
  | monTrigger h p => exact touches_execMonTrigger h p hF
  | monSyscal h p => exact touches_execMonSyscal h p hF
  | monSyscalDone z0 f0 z1 f1 => exact touches_execMonSyscalDone z0 f0 z1 f1 hF
  | monStatus h p => exact touches_execMonStatus h p hF
  | monCntClr m => exact touches_execMonCntClr m hF
  | monInterleaveWrite m v => exact touches_execMonInterleaveWrite m v hF
  | monQRead m q => exact touches_execMonQRead m q hF
  | monTimerTrigger m => exact touches_execMonTimerTrigger m hF
  | dsyncPulse => exact touches_execDsyncPulse hF
  | monDelayEnd m => exact touches_execMonDelayEnd m hF
  | monWord m bs t => exact touches_execMonWord m bs t hF
  | obsSnapshot h p => exact touches_execObsSnapshot h p hF
  | obsCntRead h p => exact touches_execObsCntRead h p hF
  | obsCntPreset h p => exact touches_execObsCntPreset h p (hw (Nat.le_of_ble_eq_true rfl))
  | obsEvtRoute h p => exact touches_execObsEvtRoute h p hF
  | obsDumpCfg h p => exact touches_execObsDumpCfg h p hF
  | obsBwCfg h p => exact touches_execObsBwCfg h p hF
  | capCfg h p => exact touches_execCapCfg h p hF
  | capTrigger h p => exact touches_execCapTrigger h p hF
  | capRead h p => exact touches_execCapRead h p hF
  | capReadDone => exact touches_execCapReadDone hF
  | capRearm h p => exact touches_execCapRearm h p hF
  | recCfg h p => exact touches_execRecCfg h p hF
  | recRead h p => exact touches_execRecRead h p hF
  | recReadDone n first last part => exact touches_execRecReadDone n first last part hF
  | recHold h p => exact touches_execRecHold h p hF
  | recStatus h p => exact touches_execRecStatus h p hF
  | obsCntClr m => exact touches_execObsCntClr m hF (hw (Nat.le_of_ble_eq_true rfl))
  | bwClear m => exact touches_execBwClear m hF
  | obsSnapTake m => exact touches_execObsSnapTake m hF
  | obsPreset m index => exact touches_execObsPreset m index hF (hw (Nat.le_of_ble_eq_true rfl))
  | wrapClear m k mask => exact touches_execWrapClear m k mask hF (hw (Nat.le_of_ble_eq_true rfl))
  | dumpPeriod => exact touches_execDumpPeriod hF
  | bwWindowEnd w bytes => exact touches_execBwWindowEnd w bytes hF
  | triggerInputFire t => exact touches_execTriggerInputFire t hF
  | capFrozen soft filled => exact touches_execCapFrozen soft filled hF
  | drainDone soft ms => exact touches_execDrainDone soft ms hF
  | segmentWriteDone => exact touches_execSegmentWriteDone hF
  | driveFail port nvmeError code => exact touches_execDriveFail port nvmeError code hF
  | driveReady port blocks smart => exact touches_execDriveReady port blocks smart hF
  | eqCoalesceEnd => exact touches_execEqCoalesceEnd hF
  | cmdDoorbell m r v => exact touches_execCmdDoorbell m r v hF
  | commandFetch pkt => exact touches_execCommandFetch pkt hF (hw (Nat.le_of_ble_eq_true rfl))
  | replyWrite r => exact touches_execReplyWrite r hF
  | replyAck m r v => exact touches_execReplyAck m r v hF
  | dumpConsWrite m v => exact touches_execDumpConsWrite m v hF
  | cmdTimeout r q => exact touches_execCmdTimeout r q hF
  | identify h p => exact touches_execIdentify h p hF
  | status h p => exact touches_execStatus h p hF
  | sysStateSet h p => exact touches_execSysStateSet h p hF
  | sysSessionOpen h p => exact touches_execSysSessionOpen h p hF
  | sysSessionClose h p => exact touches_execSysSessionClose h p hF
  | sysSlotRelease h p => exact touches_execSysSlotRelease h p hF
  | sysRegAccess h p => exact touches_execSysRegAccess h p (hw (Nat.le_of_ble_eq_true rfl))
  | battenStatus h p => exact touches_execBattenStatus h p hF
  | engStatus h p => exact touches_execEngStatus h p hF
  | engCfg h p => exact touches_execEngCfg h p hF
  | fwStage h p => exact touches_execFwStage h p hF
  | fwStageDone hdr body => exact touches_execFwStageDone hdr body hF
  | fwActivate h p => exact touches_execFwActivate h p hF
  | fwProbationEnd => exact touches_execFwProbationEnd hF
  | fwCommit h p => exact touches_execFwCommit h p hF
  | sbxLoad h p => exact touches_execSbxLoad h p hF
  | sbxLoadDone hdr body => exact touches_execSbxLoadDone hdr body hF
  | sbxCtrl h p => exact touches_execSbxCtrl h p hF
  | sbxMsg h p taken posted => exact touches_execSbxMsg h p taken posted hF
  | battenRestart m => exact touches_execBattenRestart m hF
  | battenTokenRx a n check ids => exact touches_execBattenTokenRx a n check ids hF
  | battenPacketRx dst src ring typ body => exact touches_execBattenPacketRx dst src ring typ body hF (hw (Nat.le_of_ble_eq_true rfl))
  | enumTimeout => exact touches_execEnumTimeout hF
  | enumRetry => exact touches_execEnumRetry hF
  | pcieHostReset down => exact touches_execPcieHostReset down hF
  | secStatus h p => exact touches_execSecStatus h p hF
  | secCerts h p => exact touches_execSecCerts h p hF
  | attest h p => exact touches_execAttest h p hF
  | secSessionKey h p => exact touches_execSecSessionKey h p hF
  | secNonce h p => exact touches_execSecNonce h p hF
  | secLifecycle h p => exact touches_execSecLifecycle h p hF
  | secCustkey h p => exact touches_execSecCustkey h p hF
  | secReset h p => exact touches_execSecReset h p hF
  | pwrStateSet h p => exact touches_execPwrStateSet h p hF
  | pwrTransitionDone ms => exact touches_execPwrTransitionDone ms hF
  | pwrStatus h p => exact touches_execPwrStatus h p hF
  | pwrCfg h p => exact touches_execPwrCfg h p hF
  | lifecycleReset => exact touches_execLifecycleReset hF (hw (Nat.le_of_ble_eq_true rfl))
  | deviceReset => exact touches_execDeviceReset hF (hw (Nat.le_of_ble_eq_true rfl))
  | powerOnReset => exact touches_execPowerOnReset hF (hw (Nat.le_of_ble_eq_true rfl))
  | debugReset unlocked => exact touches_execDebugReset unlocked hF (hw (Nat.le_of_ble_eq_true rfl))
  | wake => exact touches_execWake hF (hw (Nat.le_of_ble_eq_true rfl))
  | porstRelease => exact touches_execPorstRelease hF
  | fuseReadDone => exact touches_execFuseReadDone hF
  | keeperBoot => exact touches_execKeeperBoot hF
  | engineImageLoaded => exact touches_execEngineImageLoaded hF
  | bootReady => exact touches_execBootReady hF
  | svnRetry => exact touches_execSvnRetry hF
  | keeperAlarm watchdog => exact touches_execKeeperAlarm watchdog hF
  | thermalEval temps => exact touches_execThermalEval temps hF
  | setAliasWrite m off w => exact touches_execSetAliasWrite m off w (hw (Nat.le_of_ble_eq_true rfl))
  | clearAliasWrite m off w => exact touches_execClearAliasWrite m off w (hw (Nat.le_of_ble_eq_true rfl))
  | lowWordRead m off => exact touches_execLowWordRead m off hF
  | highWordRead m off => exact touches_execHighWordRead m off hF
  | lowWordWrite m off w => exact touches_execLowWordWrite m off w (hw (Nat.le_of_ble_eq_true rfl))
  | highWordWrite m off w => exact touches_execHighWordWrite m off w (hw (Nat.le_of_ble_eq_true rfl))
  | accSelfRead m => exact touches_execAccSelfRead m hF
  | intStatClear m b which w => exact touches_execIntStatClear m b which w (hw (Nat.le_of_ble_eq_true rfl))
  | sysLockSet m mask => exact touches_execSysLockSet m mask (hw (Nat.le_of_ble_eq_true rfl))
  | eqConsWrite m v => exact touches_execEqConsWrite m v (hw (Nat.le_of_ble_eq_true rfl))
  | gpioEdge n level => exact touches_execGpioEdge n level hF
  | msixUnmask v en fmask => exact touches_execMsixUnmask v en fmask hF
  | oscInActive => exact touches_execOscInActive hF
  | lineQlMessageTx => exact touches_execLineQlMessageTx hF
  | pcieLinkUp => exact touches_execPcieLinkUp hF
  | clientFrameIngress t frame gcc => exact touches_execClientFrameIngress t frame gcc hF
  | clientFrameEgress t => exact touches_execClientFrameEgress t hF

/-- A header that stands for any: `May.of` and `Touch.of` do not look at it. -/
def hdr0 : CmdHdr := ⟨0, 0, 0, 0⟩

/-- Every field and event that a command touches is listed. -/
theorem keyed_of : ∀ c : Instr, (Touch.of c).keyed = true
  | .secondBoundary => (by decide +kernel : (Touch.execSecondBoundary).keyed = true)
  | .minuteBoundary => (by decide +kernel : (Touch.execMinuteBoundary).keyed = true)
  | .registerWrite _ _ _ _ => (by decide +kernel : (Touch.execRegisterWrite).keyed = true)
  | .fabricTimeout _ _ _ _ => (by decide +kernel : (Touch.execFabricTimeout).keyed = true)
  | .ltxModeSet _ _ => (by decide +kernel : (Touch.execLtxModeSet).keyed = true)
  | .ltxModeWrite _ _ _ => (by decide +kernel : (Touch.execLtxModeWrite).keyed = true)
  | .ltxPlanLoad _ _ => (by decide +kernel : (Touch.execLtxPlanLoad).keyed = true)
  | .planBoundsReady => (by decide +kernel : (Touch.execPlanBoundsReady).keyed = true)
  | .ltxPlanCommit _ _ => (by decide +kernel : (Touch.execLtxPlanCommit).keyed = true)
  | .planChgCommit _ => (by decide +kernel : (Touch.execPlanChgCommit).keyed = true)
  | .ltxPlanCancel _ _ => (by decide +kernel : (Touch.execLtxPlanCancel).keyed = true)
  | .planChgCancel _ => (by decide +kernel : (Touch.execPlanChgCancel).keyed = true)
  | .ltxPlanGet _ _ => (by decide +kernel : (Touch.execLtxPlanGet).keyed = true)
  | .ltxBiasCtrl _ _ => (by decide +kernel : (Touch.execLtxBiasCtrl).keyed = true)
  | .biasSweep _ => (by decide +kernel : (Touch.execBiasSweep).keyed = true)
  | .biasSweepDone => (by decide +kernel : (Touch.execBiasSweepDone).keyed = true)
  | .ditherCycle => (by decide +kernel : (Touch.execDitherCycle).keyed = true)
  | .biasDwellEnd => (by decide +kernel : (Touch.execBiasDwellEnd).keyed = true)
  | .ltxLaserSet _ _ => (by decide +kernel : (Touch.execLtxLaserSet).keyed = true)
  | .ltxLaserStatus _ _ => (by decide +kernel : (Touch.execLtxLaserStatus).keyed = true)
  | .lasEnWrite _ _ _ => (by decide +kernel : (Touch.execLasEnWrite).keyed = true)
  | .lasFreqWrite _ _ _ => (by decide +kernel : (Touch.execLasFreqWrite).keyed = true)
  | .lasFtfWrite _ _ _ => (by decide +kernel : (Touch.execLasFtfWrite).keyed = true)
  | .ftfApply _ => (by decide +kernel : (Touch.execFtfApply).keyed = true)
  | .lasReset _ _ => (by decide +kernel : (Touch.execLasReset).keyed = true)
  | .laserPoll _ _ _ => (by decide +kernel : (Touch.execLaserPoll).keyed = true)
  | .itlaResponseTimeout _ => (by decide +kernel : (Touch.execItlaResponseTimeout).keyed = true)
  | .laserFaultPin _ => (by decide +kernel : (Touch.execLaserFaultPin).keyed = true)
  | .laserTuned _ _ _ _ _ => (by decide +kernel : (Touch.execLaserTuned).keyed = true)
  | .laserTuneTimeout _ => (by decide +kernel : (Touch.execLaserTuneTimeout).keyed = true)
  | .laserResetRetry _ => (by decide +kernel : (Touch.execLaserResetRetry).keyed = true)
  | .ltxOutput _ _ => (by decide +kernel : (Touch.execLtxOutput).keyed = true)
  | .outEnWrite _ _ => (by decide +kernel : (Touch.execOutEnWrite).keyed = true)
  | .outputRampDone => (by decide +kernel : (Touch.execOutputRampDone).keyed = true)
  | .biasLockTimeout => (by decide +kernel : (Touch.execBiasLockTimeout).keyed = true)
  | .superframeBoundary _ => (by decide +kernel : (Touch.execSuperframeBoundary).keyed = true)
  | .darkTimeTick => (by decide +kernel : (Touch.execDarkTimeTick).keyed = true)
  | .loLightChange _ => (by decide +kernel : (Touch.execLoLightChange).keyed = true)
  | .lrxModeSet _ _ => (by decide +kernel : (Touch.execLrxModeSet).keyed = true)
  | .lrxModeWrite _ _ _ => (by decide +kernel : (Touch.execLrxModeWrite).keyed = true)
  | .lrxEnable _ _ => (by decide +kernel : (Touch.execLrxEnable).keyed = true)
  | .rxEnWrite _ _ => (by decide +kernel : (Touch.execRxEnWrite).keyed = true)
  | .lrxAcqCfg _ _ => (by decide +kernel : (Touch.execLrxAcqCfg).keyed = true)
  | .lrxEqCfg _ _ => (by decide +kernel : (Touch.execLrxEqCfg).keyed = true)
  | .lrxFreeze _ _ => (by decide +kernel : (Touch.execLrxFreeze).keyed = true)
  | .lrxRestart _ _ => (by decide +kernel : (Touch.execLrxRestart).keyed = true)
  | .lrxRestartGo _ => (by decide +kernel : (Touch.execLrxRestartGo).keyed = true)
  | .lrxStatus _ _ => (by decide +kernel : (Touch.execLrxStatus).keyed = true)
  | .lrxTapsGet _ _ => (by decide +kernel : (Touch.execLrxTapsGet).keyed = true)
  | .sigPresentSet => (by decide +kernel : (Touch.execSigPresentSet).keyed = true)
  | .sigPresentClear => (by decide +kernel : (Touch.execSigPresentClear).keyed = true)
  | .gainSettled _ => (by decide +kernel : (Touch.execGainSettled).keyed = true)
  | .freqEstimateDone _ => (by decide +kernel : (Touch.execFreqEstimateDone).keyed = true)
  | .dispBatchDone _ => (by decide +kernel : (Touch.execDispBatchDone).keyed = true)
  | .symbolWindowEnd _ _ _ => (by decide +kernel : (Touch.execSymbolWindowEnd).keyed = true)
  | .trainingWordDetect _ _ _ _ => (by decide +kernel : (Touch.execTrainingWordDetect).keyed = true)
  | .pilotWindowEnd _ => (by decide +kernel : (Touch.execPilotWindowEnd).keyed = true)
  | .rxSuperframeBoundary _ => (by decide +kernel : (Touch.execRxSuperframeBoundary).keyed = true)
  | .superframeHeaderRx _ => (by decide +kernel : (Touch.execSuperframeHeaderRx).keyed = true)
  | .stageTimeout => (by decide +kernel : (Touch.execStageTimeout).keyed = true)
  | .acqTimeout => (by decide +kernel : (Touch.execAcqTimeout).keyed = true)
  | .restartPauseEnd => (by decide +kernel : (Touch.execRestartPauseEnd).keyed = true)
  | .holdExpired => (by decide +kernel : (Touch.execHoldExpired).keyed = true)
  | .warmTimeout => (by decide +kernel : (Touch.execWarmTimeout).keyed = true)
  | .lrxQuality _ _ => (by decide +kernel : (Touch.execLrxQuality).keyed = true)
  | .lrxCrSet _ _ => (by decide +kernel : (Touch.execLrxCrSet).keyed = true)
  | .lrxAdaptSet _ _ => (by decide +kernel : (Touch.execLrxAdaptSet).keyed = true)
  | .lrxRplanLoad _ _ => (by decide +kernel : (Touch.execLrxRplanLoad).keyed = true)
  | .lrxRplanGet _ _ => (by decide +kernel : (Touch.execLrxRplanGet).keyed = true)
  | .lrxAdaptNow _ _ => (by decide +kernel : (Touch.execLrxAdaptNow).keyed = true)
  | .lrxQTake _ => (by decide +kernel : (Touch.execLrxQTake).keyed = true)
  | .lrxQSnapDone => (by decide +kernel : (Touch.execLrxQSnapDone).keyed = true)
  | .slipClr _ => (by decide +kernel : (Touch.execSlipClr).keyed = true)
  | .adaptEnWrite _ _ _ => (by decide +kernel : (Touch.execAdaptEnWrite).keyed = true)
  | .snrReportSend => (by decide +kernel : (Touch.execSnrReportSend).keyed = true)
  | .snrReport _ _ _ _ _ _ => (by decide +kernel : (Touch.execSnrReport).keyed = true)
  | .reportStale => (by decide +kernel : (Touch.execReportStale).keyed = true)
  | .offer _ _ _ _ _ => (by decide +kernel : (Touch.execOffer).keyed = true)
  | .held _ _ _ => (by decide +kernel : (Touch.execHeld).keyed = true)
  | .refuse _ _ _ _ => (by decide +kernel : (Touch.execRefuse).keyed = true)
  | .rollbackReq _ _ _ _ => (by decide +kernel : (Touch.execRollbackReq).keyed = true)
  | .offerReplyTimeout => (by decide +kernel : (Touch.execOfferReplyTimeout).keyed = true)
  | .adaptBackoffEnd => (by decide +kernel : (Touch.execAdaptBackoffEnd).keyed = true)
  | .verifyEnd => (by decide +kernel : (Touch.execVerifyEnd).keyed = true)
  | .calStatus _ _ => (by decide +kernel : (Touch.execCalStatus).keyed = true)
  | .calBgSet _ _ => (by decide +kernel : (Touch.execCalBgSet).keyed = true)
  | .calRefSet _ _ => (by decide +kernel : (Touch.execCalRefSet).keyed = true)
  | .calRun _ _ _ _ => (by decide +kernel : (Touch.execCalRun).keyed = true)
  | .calFgDone _ _ _ => (by decide +kernel : (Touch.execCalFgDone).keyed = true)
  | .fgTimeout => (by decide +kernel : (Touch.execFgTimeout).keyed = true)
  | .calAbort _ _ => (by decide +kernel : (Touch.execCalAbort).keyed = true)
  | .calCommit _ _ _ => (by decide +kernel : (Touch.execCalCommit).keyed = true)
  | .fuseRowWriteDone _ => (by decide +kernel : (Touch.execFuseRowWriteDone).keyed = true)
  | .fuseVddLoss _ _ => (by decide +kernel : (Touch.execFuseVddLoss).keyed = true)
  | .calExport _ _ => (by decide +kernel : (Touch.execCalExport).keyed = true)
  | .calLoad _ _ => (by decide +kernel : (Touch.execCalLoad).keyed = true)
  | .calQuality _ _ => (by decide +kernel : (Touch.execCalQuality).keyed = true)
  | .calSlice _ _ _ => (by decide +kernel : (Touch.execCalSlice).keyed = true)
  | .cnvQTake _ => (by decide +kernel : (Touch.execCnvQTake).keyed = true)
  | .cnvQSnapDone => (by decide +kernel : (Touch.execCnvQSnapDone).keyed = true)
  | .calPassStart => (by decide +kernel : (Touch.execCalPassStart).keyed = true)
  | .sliceStepStart _ => (by decide +kernel : (Touch.execSliceStepStart).keyed = true)
  | .sliceHandover _ _ _ _ => (by decide +kernel : (Touch.execSliceHandover).keyed = true)
  | .sliceCalDone _ _ _ _ => (by decide +kernel : (Touch.execSliceCalDone).keyed = true)
  | .sliceFault _ _ _ => (by decide +kernel : (Touch.execSliceFault).keyed = true)
  | .sliceRetest _ _ => (by decide +kernel : (Touch.execSliceRetest).keyed = true)
  | .sliceReturn _ _ _ => (by decide +kernel : (Touch.execSliceReturn).keyed = true)
  | .refCheck _ _ => (by decide +kernel : (Touch.execRefCheck).keyed = true)
  | .bgEstimatorUpdate _ _ _ _ _ _ => (by decide +kernel : (Touch.execBgEstimatorUpdate).keyed = true)
  | .fecCfg _ _ => (by decide +kernel : (Touch.execFecCfg).keyed = true)
  | .fecStatus _ _ => (by decide +kernel : (Touch.execFecStatus).keyed = true)
  | .fecCounters _ _ => (by decide +kernel : (Touch.execFecCounters).keyed = true)
  | .fecInject _ _ => (by decide +kernel : (Touch.execFecInject).keyed = true)
  | .fecGeometry _ _ => (by decide +kernel : (Touch.execFecGeometry).keyed = true)
  | .fecCntClr _ => (by decide +kernel : (Touch.execFecCntClr).keyed = true)
  | .fecOneShot _ => (by decide +kernel : (Touch.execFecOneShot).keyed = true)
  | .fecInjDone => (by decide +kernel : (Touch.execFecInjDone).keyed = true)
  | .fecBlockEncode _ _ => (by decide +kernel : (Touch.execFecBlockEncode).keyed = true)
  | .fecBlockDecode _ _ => (by decide +kernel : (Touch.execFecBlockDecode).keyed = true)
  | .frmCfg _ _ => (by decide +kernel : (Touch.execFrmCfg).keyed = true)
  | .frmStatus _ _ => (by decide +kernel : (Touch.execFrmStatus).keyed = true)
  | .frmPmGet _ _ => (by decide +kernel : (Touch.execFrmPmGet).keyed = true)
  | .frmTtiSet _ _ => (by decide +kernel : (Touch.execFrmTtiSet).keyed = true)
  | .frmTtiGet _ _ => (by decide +kernel : (Touch.execFrmTtiGet).keyed = true)
  | .frmOhcCfg _ _ => (by decide +kernel : (Touch.execFrmOhcCfg).keyed = true)
  | .frmOhcXfer _ _ => (by decide +kernel : (Touch.execFrmOhcXfer).keyed = true)
  | .frmCntClr _ => (by decide +kernel : (Touch.execFrmCntClr).keyed = true)
  | .frmResync _ => (by decide +kernel : (Touch.execFrmResync).keyed = true)
  | .fasDetect _ _ _ => (by decide +kernel : (Touch.execFasDetect).keyed = true)
  | .candidateCheck _ _ => (by decide +kernel : (Touch.execCandidateCheck).keyed = true)
  | .resolutionWindowEnd => (by decide +kernel : (Touch.execResolutionWindowEnd).keyed = true)
  | .inFrameCheck _ => (by decide +kernel : (Touch.execInFrameCheck).keyed = true)
  | .rxFrame _ => (by decide +kernel : (Touch.execRxFrame).keyed = true)
  | .txFrame _ _ _ => (by decide +kernel : (Touch.execTxFrame).keyed = true)
  | .losClear => (by decide +kernel : (Touch.execLosClear).keyed = true)
  | .lofDeclare => (by decide +kernel : (Touch.execLofDeclare).keyed = true)
  | .lofClear => (by decide +kernel : (Touch.execLofClear).keyed = true)
  | .lomDeclare => (by decide +kernel : (Touch.execLomDeclare).keyed = true)
  | .lomClear => (by decide +kernel : (Touch.execLomClear).keyed = true)
  | .pmSecond => (by decide +kernel : (Touch.execPmSecond).keyed = true)
  | .cliAdd _ _ => (by decide +kernel : (Touch.execCliAdd).keyed = true)
  | .cliRemove _ _ => (by decide +kernel : (Touch.execCliRemove).keyed = true)
  | .cliMove _ _ => (by decide +kernel : (Touch.execCliMove).keyed = true)
  | .cliMoveCancel _ _ => (by decide +kernel : (Touch.execCliMoveCancel).keyed = true)
  | .cliStatus _ _ => (by decide +kernel : (Touch.execCliStatus).keyed = true)
  | .cliCounters _ _ => (by decide +kernel : (Touch.execCliCounters).keyed = true)
  | .cliTsCfg _ _ => (by decide +kernel : (Touch.execCliTsCfg).keyed = true)
  | .cliLoop _ _ => (by decide +kernel : (Touch.execCliLoop).keyed = true)
  | .cliSlotMap _ _ => (by decide +kernel : (Touch.execCliSlotMap).keyed = true)
  | .cliCntClr _ => (by decide +kernel : (Touch.execCliCntClr).keyed = true)
  | .psiMultiframe _ _ _ => (by decide +kernel : (Touch.execPsiMultiframe).keyed = true)
  | .clientIngressFail _ _ _ _ _ => (by decide +kernel : (Touch.execClientIngressFail).keyed = true)
  | .ingressFailClear _ _ => (by decide +kernel : (Touch.execIngressFailClear).keyed = true)
  | .clientUp _ => (by decide +kernel : (Touch.execClientUp).keyed = true)
  | .ptpMessageRx _ _ => (by decide +kernel : (Touch.execPtpMessageRx).keyed = true)
  | .ptpMessageTx _ _ => (by decide +kernel : (Touch.execPtpMessageTx).keyed = true)
  | .srdLaneSet _ _ => (by decide +kernel : (Touch.execSrdLaneSet).keyed = true)
  | .srdStatus _ _ => (by decide +kernel : (Touch.execSrdStatus).keyed = true)
  | .srdEyeScan _ _ => (by decide +kernel : (Touch.execSrdEyeScan).keyed = true)
  | .eyeDone _ _ _ _ _ => (by decide +kernel : (Touch.execEyeDone).keyed = true)
  | .srdJigSet _ _ => (by decide +kernel : (Touch.execSrdJigSet).keyed = true)
  | .srdJigGet _ _ => (by decide +kernel : (Touch.execSrdJigGet).keyed = true)
  | .srdCntClr _ => (by decide +kernel : (Touch.execSrdCntClr).keyed = true)
  | .laneRetrain _ _ => (by decide +kernel : (Touch.execLaneRetrain).keyed = true)
  | .jigInject _ _ => (by decide +kernel : (Touch.execJigInject).keyed = true)
  | .jigLock _ _ _ => (by decide +kernel : (Touch.execJigLock).keyed = true)
  | .jigUnlock _ _ _ => (by decide +kernel : (Touch.execJigUnlock).keyed = true)
  | .lanePowerUp _ => (by decide +kernel : (Touch.execLanePowerUp).keyed = true)
  | .laneTrained _ => (by decide +kernel : (Touch.execLaneTrained).keyed = true)
  | .trainTimeout _ => (by decide +kernel : (Touch.execTrainTimeout).keyed = true)
  | .trainRetry _ => (by decide +kernel : (Touch.execTrainRetry).keyed = true)
  | .laneSignalLoss _ => (by decide +kernel : (Touch.execLaneSignalLoss).keyed = true)
  | .align _ _ _ _ _ => (by decide +kernel : (Touch.execAlign).keyed = true)
  | .laneWtrEnd _ => (by decide +kernel : (Touch.execLaneWtrEnd).keyed = true)
  | .packetRx _ _ _ => (by decide +kernel : (Touch.execPacketRx).keyed = true)
  | .vnrCfg _ _ => (by decide +kernel : (Touch.execVnrCfg).keyed = true)
  | .vnrStatus _ _ => (by decide +kernel : (Touch.execVnrStatus).keyed = true)
  | .vnrPageSet _ _ => (by decide +kernel : (Touch.execVnrPageSet).keyed = true)
  | .vnrKeyLoad _ _ => (by decide +kernel : (Touch.execVnrKeyLoad).keyed = true)
  | .vnrKeySwitch _ _ => (by decide +kernel : (Touch.execVnrKeySwitch).keyed = true)
  | .vnrKeyErase _ _ => (by decide +kernel : (Touch.execVnrKeyErase).keyed = true)
  | .vnrBind _ _ => (by decide +kernel : (Touch.execVnrBind).keyed = true)
  | .vnrLa _ _ => (by decide +kernel : (Touch.execVnrLa).keyed = true)
  | .laDone _ _ _ _ => (by decide +kernel : (Touch.execLaDone).keyed = true)
  | .vnrCounters _ _ => (by decide +kernel : (Touch.execVnrCounters).keyed = true)
  | .vnrRearm _ _ => (by decide +kernel : (Touch.execVnrRearm).keyed = true)
  | .vnrCtrlRearm _ => (by decide +kernel : (Touch.execVnrCtrlRearm).keyed = true)
  | .vnrCntClr _ => (by decide +kernel : (Touch.execVnrCntClr).keyed = true)
  | .protModeWrite _ _ => (by decide +kernel : (Touch.execProtModeWrite).keyed = true)
  | .vnrTxBlock _ _ _ => (by decide +kernel : (Touch.execVnrTxBlock).keyed = true)
  | .vnrKatDone _ _ _ => (by decide +kernel : (Touch.execVnrKatDone).keyed = true)
  | .vnrRxBlock _ _ _ _ _ _ _ _ _ _ _ => (by decide +kernel : (Touch.execVnrRxBlock).keyed = true)
  | .retainedGenErase _ _ => (by decide +kernel : (Touch.execRetainedGenErase).keyed = true)
  | .keyAge _ _ _ => (by decide +kernel : (Touch.execKeyAge).keyed = true)
  | .keyExhausted _ _ => (by decide +kernel : (Touch.execKeyExhausted).keyed = true)
  | .keyRotationTimer _ => (by decide +kernel : (Touch.execKeyRotationTimer).keyed = true)
  | .sensorAlarm _ => (by decide +kernel : (Touch.execSensorAlarm).keyed = true)
  | .sensorRekey => (by decide +kernel : (Touch.execSensorRekey).keyed = true)
  | .drbgHealthFail => (by decide +kernel : (Touch.execDrbgHealthFail).keyed = true)
  | .drbgHealthPass => (by decide +kernel : (Touch.execDrbgHealthPass).keyed = true)
  | .scrCfgSet _ _ => (by decide +kernel : (Touch.execScrCfgSet).keyed = true)
  | .scrTrust _ _ => (by decide +kernel : (Touch.execScrTrust).keyed = true)
  | .scrStatus _ _ => (by decide +kernel : (Touch.execScrStatus).keyed = true)
  | .scrPeers _ _ => (by decide +kernel : (Touch.execScrPeers).keyed = true)
  | .scrRestart _ _ => (by decide +kernel : (Touch.execScrRestart).keyed = true)
  | .scrCtrlRestart _ => (by decide +kernel : (Touch.execScrCtrlRestart).keyed = true)
  | .scrCntClr _ => (by decide +kernel : (Touch.execScrCntClr).keyed = true)
  | .scrEnWrite _ _ => (by decide +kernel : (Touch.execScrEnWrite).keyed = true)
  | .syncWordDetect _ => (by decide +kernel : (Touch.execSyncWordDetect).keyed = true)
  | .hello _ => (by decide +kernel : (Touch.execHello).keyed = true)
  | .kex _ _ _ _ _ => (by decide +kernel : (Touch.execKex).keyed = true)
  | .propose _ _ _ _ => (by decide +kernel : (Touch.execPropose).keyed = true)
  | .accept _ _ _ => (by decide +kernel : (Touch.execAccept).keyed = true)
  | .reject _ _ _ _ => (by decide +kernel : (Touch.execReject).keyed = true)
  | .keys _ _ _ => (by decide +kernel : (Touch.execKeys).keyed = true)
  | .keysAck _ _ _ _ => (by decide +kernel : (Touch.execKeysAck).keyed = true)
  | .go _ _ _ => (by decide +kernel : (Touch.execGo).keyed = true)
  | .goSent => (by decide +kernel : (Touch.execGoSent).keyed = true)
  | .reneg _ _ _ => (by decide +kernel : (Touch.execReneg).keyed = true)
  | .rotate _ _ _ => (by decide +kernel : (Touch.execRotate).keyed = true)
  | .holdOffEnd => (by decide +kernel : (Touch.execHoldOffEnd).keyed = true)
  | .helloTimer => (by decide +kernel : (Touch.execHelloTimer).keyed = true)
  | .beaconLight => (by decide +kernel : (Touch.execBeaconLight).keyed = true)
  | .selectionWindowEnd => (by decide +kernel : (Touch.execSelectionWindowEnd).keyed = true)
  | .scrReplyTimeout => (by decide +kernel : (Touch.execScrReplyTimeout).keyed = true)
  | .negTimeout => (by decide +kernel : (Touch.execNegTimeout).keyed = true)
  | .scrHoldEnd => (by decide +kernel : (Touch.execScrHoldEnd).keyed = true)
  | .scrLive => (by decide +kernel : (Touch.execScrLive).keyed = true)
  | .goLiveTimeout => (by decide +kernel : (Touch.execGoLiveTimeout).keyed = true)
  | .relockTimeout => (by decide +kernel : (Touch.execRelockTimeout).keyed = true)
  | .peerHelloLost => (by decide +kernel : (Touch.execPeerHelloLost).keyed = true)
  | .refCfg _ _ => (by decide +kernel : (Touch.execRefCfg).keyed = true)
  | .refCandSet _ _ => (by decide +kernel : (Touch.execRefCandSet).keyed = true)
  | .candFreqWrite _ _ _ => (by decide +kernel : (Touch.execCandFreqWrite).keyed = true)
  | .refSelect _ _ => (by decide +kernel : (Touch.execRefSelect).keyed = true)
  | .refStatus _ _ => (by decide +kernel : (Touch.execRefStatus).keyed = true)
  | .refOutSet _ _ => (by decide +kernel : (Touch.execRefOutSet).keyed = true)
  | .refRealign _ _ => (by decide +kernel : (Touch.execRefRealign).keyed = true)
  | .realignStep _ _ _ => (by decide +kernel : (Touch.execRealignStep).keyed = true)
  | .refActivity _ _ => (by decide +kernel : (Touch.execRefActivity).keyed = true)
  | .freqGateEnd _ _ => (by decide +kernel : (Touch.execFreqGateEnd).keyed = true)
  | .refQualifyEnd _ => (by decide +kernel : (Touch.execRefQualifyEnd).keyed = true)
  | .driftEval => (by decide +kernel : (Touch.execDriftEval).keyed = true)
  | .buildoutEnd => (by decide +kernel : (Touch.execBuildoutEnd).keyed = true)
  | .dpllLock => (by decide +kernel : (Touch.execDpllLock).keyed = true)
  | .dpllUnlock _ => (by decide +kernel : (Touch.execDpllUnlock).keyed = true)
  | .dpllHistoryTick _ _ => (by decide +kernel : (Touch.execDpllHistoryTick).keyed = true)
  | .clampExpired => (by decide +kernel : (Touch.execClampExpired).keyed = true)
  | .oscLost => (by decide +kernel : (Touch.execOscLost).keyed = true)
  | .esmcRx _ _ _ => (by decide +kernel : (Touch.execEsmcRx).keyed = true)
  | .esmcTx => rfl
  | .qlTimeout _ => (by decide +kernel : (Touch.execQlTimeout).keyed = true)
  | .lineQlRx _ _ _ _ => (by decide +kernel : (Touch.execLineQlRx).keyed = true)
  | .compatPulse _ _ => (by decide +kernel : (Touch.execCompatPulse).keyed = true)
  | .todGet _ _ => (by decide +kernel : (Touch.execTodGet).keyed = true)
  | .todStep _ _ => (by decide +kernel : (Touch.execTodStep).keyed = true)
  | .todStepApply => (by decide +kernel : (Touch.execTodStepApply).keyed = true)
  | .todRearm _ _ => (by decide +kernel : (Touch.execTodRearm).keyed = true)
  | .todRateSet _ _ => (by decide +kernel : (Touch.execTodRateSet).keyed = true)
  | .ptpCfg _ _ => (by decide +kernel : (Touch.execPtpCfg).keyed = true)
  | .ptpPortSet _ _ => (by decide +kernel : (Touch.execPtpPortSet).keyed = true)
  | .ptpStatus _ _ => (by decide +kernel : (Touch.execPtpStatus).keyed = true)
  | .lineDelay _ _ => (by decide +kernel : (Touch.execLineDelay).keyed = true)
  | .asymAccept _ _ => (by decide +kernel : (Touch.execAsymAccept).keyed = true)
  | .schedSet _ _ => (by decide +kernel : (Touch.execSchedSet).keyed = true)
  | .schedCancel _ _ => (by decide +kernel : (Touch.execSchedCancel).keyed = true)
  | .schedFire _ => (by decide +kernel : (Touch.execSchedFire).keyed = true)
  | .todLatch _ => (by decide +kernel : (Touch.execTodLatch).keyed = true)
  | .todCntClr _ => (by decide +kernel : (Touch.execTodCntClr).keyed = true)
  | .timeBaseOk => (by decide +kernel : (Touch.execTimeBaseOk).keyed = true)
  | .lineStampRx _ => (by decide +kernel : (Touch.execLineStampRx).keyed = true)
  | .lineAnnounceRx _ => (by decide +kernel : (Touch.execLineAnnounceRx).keyed = true)
  | .asymHoldEnd => (by decide +kernel : (Touch.execAsymHoldEnd).keyed = true)
  | .servoSecond => (by decide +kernel : (Touch.execServoSecond).keyed = true)
  | .parentMeasureDone => (by decide +kernel : (Touch.execParentMeasureDone).keyed = true)
  | .announceTimeout _ => (by decide +kernel : (Touch.execAnnounceTimeout).keyed = true)
  | .holdoverExpiry => (by decide +kernel : (Touch.execHoldoverExpiry).keyed = true)
  | .pairCfg _ _ => (by decide +kernel : (Touch.execPairCfg).keyed = true)
  | .pairStatus _ _ => (by decide +kernel : (Touch.execPairStatus).keyed = true)
  | .pairSwitch _ _ => (by decide +kernel : (Touch.execPairSwitch).keyed = true)
  | .pairPromote _ _ => (by decide +kernel : (Touch.execPairPromote).keyed = true)
  | .pairOos _ _ => (by decide +kernel : (Touch.execPairOos).keyed = true)
  | .pairReturn _ _ => (by decide +kernel : (Touch.execPairReturn).keyed = true)
  | .pairSnapshot _ _ => (by decide +kernel : (Touch.execPairSnapshot).keyed = true)
  | .pairSpares _ _ => (by decide +kernel : (Touch.execPairSpares).keyed = true)
  | .pairCntClr _ => (by decide +kernel : (Touch.execPairCntClr).keyed = true)
  | .heartbeatTx => (by decide +kernel : (Touch.execHeartbeatTx).keyed = true)
  | .heartbeatRx _ _ _ _ _ _ _ => (by decide +kernel : (Touch.execHeartbeatRx).keyed = true)
  | .mitreLinkLost _ => (by decide +kernel : (Touch.execMitreLinkLost).keyed = true)
  | .mitreLinkUp _ => (by decide +kernel : (Touch.execMitreLinkUp).keyed = true)
  | .pairAuthRetry _ => (by decide +kernel : (Touch.execPairAuthRetry).keyed = true)
  | .pegTx => rfl
  | .pegPulse _ => (by decide +kernel : (Touch.execPegPulse).keyed = true)
  | .pegLoss => (by decide +kernel : (Touch.execPegLoss).keyed = true)
  | .deathWinEnd => (by decide +kernel : (Touch.execDeathWinEnd).keyed = true)
  | .journalEntryRx _ _ => (by decide +kernel : (Touch.execJournalEntryRx).keyed = true)
  | .journalAckTimeout => (by decide +kernel : (Touch.execJournalAckTimeout).keyed = true)
  | .journalResend => rfl
  | .failRx _ => (by decide +kernel : (Touch.execFailRx).keyed = true)
  | .gapEnd => (by decide +kernel : (Touch.execGapEnd).keyed = true)
  | .snapshotPeriod => (by decide +kernel : (Touch.execSnapshotPeriod).keyed = true)
  | .snapshotRx _ => (by decide +kernel : (Touch.execSnapshotRx).keyed = true)
  | .snapshotTimeout => (by decide +kernel : (Touch.execSnapshotTimeout).keyed = true)
  | .digestBatchRx _ _ => (by decide +kernel : (Touch.execDigestBatchRx).keyed = true)
  | .digestMissing _ _ => (by decide +kernel : (Touch.execDigestMissing).keyed = true)
  | .identificationDone _ _ => (by decide +kernel : (Touch.execIdentificationDone).keyed = true)
  | .pairWtrEnd => (by decide +kernel : (Touch.execPairWtrEnd).keyed = true)
  | .plannedHandover => (by decide +kernel : (Touch.execPlannedHandover).keyed = true)
  | .mitreTimeStamp _ _ => (by decide +kernel : (Touch.execMitreTimeStamp).keyed = true)
  | .engWatchdog _ => (by decide +kernel : (Touch.execEngWatchdog).keyed = true)
  | .engEcc _ _ => (by decide +kernel : (Touch.execEngEcc).keyed = true)
  | .engTrap _ => (by decide +kernel : (Touch.execEngTrap).keyed = true)
  | .taskResume _ _ => (by decide +kernel : (Touch.execTaskResume).keyed = true)
  | .engineRetest _ _ => (by decide +kernel : (Touch.execEngineRetest).keyed = true)
  | .spareWtrEnd _ => (by decide +kernel : (Touch.execSpareWtrEnd).keyed = true)
  | .sharedSramError _ => (by decide +kernel : (Touch.execSharedSramError).keyed = true)
  | .monCfg _ _ => (by decide +kernel : (Touch.execMonCfg).keyed = true)
  | .monStart _ _ => (by decide +kernel : (Touch.execMonStart).keyed = true)
  | .monRead _ _ => (by decide +kernel : (Touch.execMonRead).keyed = true)
  | .monTrigger _ _ => (by decide +kernel : (Touch.execMonTrigger).keyed = true)
  | .monSyscal _ _ => (by decide +kernel : (Touch.execMonSyscal).keyed = true)
  | .monSyscalDone _ _ _ _ => (by decide +kernel : (Touch.execMonSyscalDone).keyed = true)
  | .monStatus _ _ => (by decide +kernel : (Touch.execMonStatus).keyed = true)
  | .monCntClr _ => (by decide +kernel : (Touch.execMonCntClr).keyed = true)
  | .monInterleaveWrite _ _ => (by decide +kernel : (Touch.execMonInterleaveWrite).keyed = true)
  | .monQRead _ _ => (by decide +kernel : (Touch.execMonQRead).keyed = true)
  | .monTimerTrigger _ => (by decide +kernel : (Touch.execMonTimerTrigger).keyed = true)
  | .dsyncPulse => (by decide +kernel : (Touch.execDsyncPulse).keyed = true)
  | .monDelayEnd _ => (by decide +kernel : (Touch.execMonDelayEnd).keyed = true)
  | .monWord _ _ _ => (by decide +kernel : (Touch.execMonWord).keyed = true)
  | .obsSnapshot _ _ => (by decide +kernel : (Touch.execObsSnapshot).keyed = true)
  | .obsCntRead _ _ => (by decide +kernel : (Touch.execObsCntRead).keyed = true)
  | .obsCntPreset _ _ => rfl
  | .obsEvtRoute _ _ => (by decide +kernel : (Touch.execObsEvtRoute).keyed = true)
  | .obsDumpCfg _ _ => (by decide +kernel : (Touch.execObsDumpCfg).keyed = true)
  | .obsBwCfg _ _ => (by decide +kernel : (Touch.execObsBwCfg).keyed = true)
  | .capCfg _ _ => (by decide +kernel : (Touch.execCapCfg).keyed = true)
  | .capTrigger _ _ => (by decide +kernel : (Touch.execCapTrigger).keyed = true)
  | .capRead _ _ => (by decide +kernel : (Touch.execCapRead).keyed = true)
  | .capReadDone => (by decide +kernel : (Touch.execCapReadDone).keyed = true)
  | .capRearm _ _ => (by decide +kernel : (Touch.execCapRearm).keyed = true)
  | .recCfg _ _ => (by decide +kernel : (Touch.execRecCfg).keyed = true)
  | .recRead _ _ => (by decide +kernel : (Touch.execRecRead).keyed = true)
  | .recReadDone _ _ _ _ => (by decide +kernel : (Touch.execRecReadDone).keyed = true)
  | .recHold _ _ => (by decide +kernel : (Touch.execRecHold).keyed = true)
  | .recStatus _ _ => (by decide +kernel : (Touch.execRecStatus).keyed = true)
  | .obsCntClr _ => (by decide +kernel : (Touch.execObsCntClr).keyed = true)
  | .bwClear _ => (by decide +kernel : (Touch.execBwClear).keyed = true)
  | .obsSnapTake _ => (by decide +kernel : (Touch.execObsSnapTake).keyed = true)
  | .obsPreset _ _ => (by decide +kernel : (Touch.execObsPreset).keyed = true)
  | .wrapClear _ _ _ => (by decide +kernel : (Touch.execWrapClear).keyed = true)
  | .dumpPeriod => (by decide +kernel : (Touch.execDumpPeriod).keyed = true)
  | .bwWindowEnd _ _ => (by decide +kernel : (Touch.execBwWindowEnd).keyed = true)
  | .triggerInputFire _ => (by decide +kernel : (Touch.execTriggerInputFire).keyed = true)
  | .capFrozen _ _ => (by decide +kernel : (Touch.execCapFrozen).keyed = true)
  | .drainDone _ _ => (by decide +kernel : (Touch.execDrainDone).keyed = true)
  | .segmentWriteDone => (by decide +kernel : (Touch.execSegmentWriteDone).keyed = true)
  | .driveFail _ _ _ => (by decide +kernel : (Touch.execDriveFail).keyed = true)
  | .driveReady _ _ _ => (by decide +kernel : (Touch.execDriveReady).keyed = true)
  | .eqCoalesceEnd => (by decide +kernel : (Touch.execEqCoalesceEnd).keyed = true)
  | .cmdDoorbell _ _ _ => (by decide +kernel : (Touch.execCmdDoorbell).keyed = true)
  | .commandFetch _ => (by decide +kernel : (Touch.execCommandFetch).keyed = true)
  | .replyWrite _ => (by decide +kernel : (Touch.execReplyWrite).keyed = true)
  | .replyAck _ _ _ => (by decide +kernel : (Touch.execReplyAck).keyed = true)
  | .dumpConsWrite _ _ => (by decide +kernel : (Touch.execDumpConsWrite).keyed = true)
  | .cmdTimeout _ _ => (by decide +kernel : (Touch.execCmdTimeout).keyed = true)
  | .identify _ _ => (by decide +kernel : (Touch.execIdentify).keyed = true)
  | .status _ _ => (by decide +kernel : (Touch.execStatus).keyed = true)
  | .sysStateSet _ _ => (by decide +kernel : (Touch.execSysStateSet).keyed = true)
  | .sysSessionOpen _ _ => (by decide +kernel : (Touch.execSysSessionOpen).keyed = true)
  | .sysSessionClose _ _ => (by decide +kernel : (Touch.execSysSessionClose).keyed = true)
  | .sysSlotRelease _ _ => (by decide +kernel : (Touch.execSysSlotRelease).keyed = true)
  | .sysRegAccess _ _ => rfl
  | .battenStatus _ _ => (by decide +kernel : (Touch.execBattenStatus).keyed = true)
  | .engStatus _ _ => (by decide +kernel : (Touch.execEngStatus).keyed = true)
  | .engCfg _ _ => (by decide +kernel : (Touch.execEngCfg).keyed = true)
  | .fwStage _ _ => (by decide +kernel : (Touch.execFwStage).keyed = true)
  | .fwStageDone _ _ => (by decide +kernel : (Touch.execFwStageDone).keyed = true)
  | .fwActivate _ _ => (by decide +kernel : (Touch.execFwActivate).keyed = true)
  | .fwProbationEnd => (by decide +kernel : (Touch.execFwProbationEnd).keyed = true)
  | .fwCommit _ _ => (by decide +kernel : (Touch.execFwCommit).keyed = true)
  | .sbxLoad _ _ => (by decide +kernel : (Touch.execSbxLoad).keyed = true)
  | .sbxLoadDone _ _ => (by decide +kernel : (Touch.execSbxLoadDone).keyed = true)
  | .sbxCtrl _ _ => (by decide +kernel : (Touch.execSbxCtrl).keyed = true)
  | .sbxMsg _ _ _ _ => (by decide +kernel : (Touch.execSbxMsg).keyed = true)
  | .battenRestart _ => (by decide +kernel : (Touch.execBattenRestart).keyed = true)
  | .battenTokenRx _ _ _ _ => (by decide +kernel : (Touch.execBattenTokenRx).keyed = true)
  | .battenPacketRx _ _ _ _ _ => (by decide +kernel : (Touch.execBattenPacketRx).keyed = true)
  | .enumTimeout => (by decide +kernel : (Touch.execEnumTimeout).keyed = true)
  | .enumRetry => (by decide +kernel : (Touch.execEnumRetry).keyed = true)
  | .pcieHostReset _ => (by decide +kernel : (Touch.execPcieHostReset).keyed = true)
  | .secStatus _ _ => (by decide +kernel : (Touch.execSecStatus).keyed = true)
  | .secCerts _ _ => (by decide +kernel : (Touch.execSecCerts).keyed = true)
  | .attest _ _ => (by decide +kernel : (Touch.execAttest).keyed = true)
  | .secSessionKey _ _ => (by decide +kernel : (Touch.execSecSessionKey).keyed = true)
  | .secNonce _ _ => (by decide +kernel : (Touch.execSecNonce).keyed = true)
  | .secLifecycle _ _ => (by decide +kernel : (Touch.execSecLifecycle).keyed = true)
  | .secCustkey _ _ => (by decide +kernel : (Touch.execSecCustkey).keyed = true)
  | .secReset _ _ => (by decide +kernel : (Touch.execSecReset).keyed = true)
  | .pwrStateSet _ _ => (by decide +kernel : (Touch.execPwrStateSet).keyed = true)
  | .pwrTransitionDone _ => (by decide +kernel : (Touch.execPwrTransitionDone).keyed = true)
  | .pwrStatus _ _ => (by decide +kernel : (Touch.execPwrStatus).keyed = true)
  | .pwrCfg _ _ => (by decide +kernel : (Touch.execPwrCfg).keyed = true)
  | .lifecycleReset => (by decide +kernel : (Touch.execLifecycleReset).keyed = true)
  | .deviceReset => (by decide +kernel : (Touch.execDeviceReset).keyed = true)
  | .powerOnReset => (by decide +kernel : (Touch.execPowerOnReset).keyed = true)
  | .debugReset _ => (by decide +kernel : (Touch.execDebugReset).keyed = true)
  | .wake => (by decide +kernel : (Touch.execWake).keyed = true)
  | .porstRelease => (by decide +kernel : (Touch.execPorstRelease).keyed = true)
  | .fuseReadDone => (by decide +kernel : (Touch.execFuseReadDone).keyed = true)
  | .keeperBoot => (by decide +kernel : (Touch.execKeeperBoot).keyed = true)
  | .engineImageLoaded => (by decide +kernel : (Touch.execEngineImageLoaded).keyed = true)
  | .bootReady => (by decide +kernel : (Touch.execBootReady).keyed = true)
  | .svnRetry => (by decide +kernel : (Touch.execSvnRetry).keyed = true)
  | .keeperAlarm _ => (by decide +kernel : (Touch.execKeeperAlarm).keyed = true)
  | .thermalEval _ => (by decide +kernel : (Touch.execThermalEval).keyed = true)
  | .setAliasWrite _ _ _ => rfl
  | .clearAliasWrite _ _ _ => rfl
  | .lowWordRead _ _ => (by decide +kernel : (Touch.execLowWordRead).keyed = true)
  | .highWordRead _ _ => (by decide +kernel : (Touch.execHighWordRead).keyed = true)
  | .lowWordWrite _ _ _ => rfl
  | .highWordWrite _ _ _ => rfl
  | .accSelfRead _ => (by decide +kernel : (Touch.execAccSelfRead).keyed = true)
  | .intStatClear _ _ _ _ => rfl
  | .sysLockSet _ _ => rfl
  | .eqConsWrite _ _ => rfl
  | .gpioEdge _ _ => (by decide +kernel : (Touch.execGpioEdge).keyed = true)
  | .msixUnmask _ _ _ => (by decide +kernel : (Touch.execMsixUnmask).keyed = true)
  | .oscInActive => (by decide +kernel : (Touch.execOscInActive).keyed = true)
  | .lineQlMessageTx => (by decide +kernel : (Touch.execLineQlMessageTx).keyed = true)
  | .pcieLinkUp => (by decide +kernel : (Touch.execPcieLinkUp).keyed = true)
  | .clientFrameIngress _ _ _ => (by decide +kernel : (Touch.execClientFrameIngress).keyed = true)
  | .clientFrameEgress _ => (by decide +kernel : (Touch.execClientFrameEgress).keyed = true)

/-- Settles O54: every effect of a command writes through fields that are listed with their width. -/
theorem fieldsFit : Obligations.FieldsFit := by
  intro s t hs hst
  simp only [step] at hst
  split at hst
  · injection hst with hst
    exact hst ▸ fits_act (within_idle (wide_wide.covers (by decide +kernel))) hs
  next c cs _ =>
    obtain ⟨e, he, hw⟩ := touches_exec (Φ := Foot.wide) (s := { s with pending := cs }) c (wide_wide.covers (keyed_of c)) fun _ => wide_wide
    rw [he] at hst
    injection hst with hst
    exact hst ▸ fits_act hw hs

/-- A command of the data path touches only what `May.of` lists. -/
theorem of_covers : ∀ c : Instr, (May.of c).group ≤ 2 → (May.of c).foot.covers (Touch.of c) = true
  | .secondBoundary, _ => (by decide +kernel : (May.of (.secondBoundary)).foot.covers Touch.execSecondBoundary = true)
  | .minuteBoundary, _ => (by decide +kernel : (May.of (.minuteBoundary)).foot.covers Touch.execMinuteBoundary = true)
  | .registerWrite _ _ _ _, h => absurd h (Nat.not_le_of_lt (Nat.le_of_ble_eq_true rfl))
  | .fabricTimeout _ _ _ _, h => absurd h (Nat.not_le_of_lt (Nat.le_of_ble_eq_true rfl))
  | .ltxModeSet _ _, _ => (by decide +kernel : (May.of (.ltxModeSet hdr0 [])).foot.covers Touch.execLtxModeSet = true)
  | .ltxModeWrite _ _ _, _ => (by decide +kernel : (May.of (.ltxModeWrite 0 0 0)).foot.covers Touch.execLtxModeWrite = true)
  | .ltxPlanLoad _ _, _ => (by decide +kernel : (May.of (.ltxPlanLoad hdr0 [])).foot.covers Touch.execLtxPlanLoad = true)
  | .planBoundsReady, _ => (by decide +kernel : (May.of (.planBoundsReady)).foot.covers Touch.execPlanBoundsReady = true)
  | .ltxPlanCommit _ _, _ => (by decide +kernel : (May.of (.ltxPlanCommit hdr0 [])).foot.covers Touch.execLtxPlanCommit = true)
  | .planChgCommit _, _ => (by decide +kernel : (May.of (.planChgCommit 0)).foot.covers Touch.execPlanChgCommit = true)
  | .ltxPlanCancel _ _, _ => (by decide +kernel : (May.of (.ltxPlanCancel hdr0 [])).foot.covers Touch.execLtxPlanCancel = true)
  | .planChgCancel _, _ => (by decide +kernel : (May.of (.planChgCancel 0)).foot.covers Touch.execPlanChgCancel = true)
  | .ltxPlanGet _ _, _ => (by decide +kernel : (May.of (.ltxPlanGet hdr0 [])).foot.covers Touch.execLtxPlanGet = true)
  | .ltxBiasCtrl _ _, _ => (by decide +kernel : (May.of (.ltxBiasCtrl hdr0 [])).foot.covers Touch.execLtxBiasCtrl = true)
  | .biasSweep _, _ => (by decide +kernel : (May.of (.biasSweep 0)).foot.covers Touch.execBiasSweep = true)
  | .biasSweepDone, _ => (by decide +kernel : (May.of (.biasSweepDone)).foot.covers Touch.execBiasSweepDone = true)
  | .ditherCycle, _ => (by decide +kernel : (May.of (.ditherCycle)).foot.covers Touch.execDitherCycle = true)
  | .biasDwellEnd, _ => (by decide +kernel : (May.of (.biasDwellEnd)).foot.covers Touch.execBiasDwellEnd = true)
  | .ltxLaserSet _ _, _ => (by decide +kernel : (May.of (.ltxLaserSet hdr0 [])).foot.covers Touch.execLtxLaserSet = true)
  | .ltxLaserStatus _ _, _ => (by decide +kernel : (May.of (.ltxLaserStatus hdr0 [])).foot.covers Touch.execLtxLaserStatus = true)
  | .lasEnWrite _ _ _, _ => (by decide +kernel : (May.of (.lasEnWrite 0 0 false)).foot.covers Touch.execLasEnWrite = true)
  | .lasFreqWrite _ _ _, _ => (by decide +kernel : (May.of (.lasFreqWrite 0 0 0)).foot.covers Touch.execLasFreqWrite = true)
  | .lasFtfWrite _ _ _, _ => (by decide +kernel : (May.of (.lasFtfWrite 0 0 0)).foot.covers Touch.execLasFtfWrite = true)
  | .ftfApply _, _ => (by decide +kernel : (May.of (.ftfApply 0)).foot.covers Touch.execFtfApply = true)
  | .lasReset _ _, _ => (by decide +kernel : (May.of (.lasReset 0 0)).foot.covers Touch.execLasReset = true)
  | .laserPoll _ _ _, _ => (by decide +kernel : (May.of (.laserPoll 0 0 0)).foot.covers Touch.execLaserPoll = true)
  | .itlaResponseTimeout _, _ => (by decide +kernel : (May.of (.itlaResponseTimeout 0)).foot.covers Touch.execItlaResponseTimeout = true)
  | .laserFaultPin _, _ => (by decide +kernel : (May.of (.laserFaultPin 0)).foot.covers Touch.execLaserFaultPin = true)
  | .laserTuned _ _ _ _ _, _ => (by decide +kernel : (May.of (.laserTuned 0 0 0 0 0)).foot.covers Touch.execLaserTuned = true)
  | .laserTuneTimeout _, _ => (by decide +kernel : (May.of (.laserTuneTimeout 0)).foot.covers Touch.execLaserTuneTimeout = true)
  | .laserResetRetry _, _ => (by decide +kernel : (May.of (.laserResetRetry 0)).foot.covers Touch.execLaserResetRetry = true)
  | .ltxOutput _ _, _ => (by decide +kernel : (May.of (.ltxOutput hdr0 [])).foot.covers Touch.execLtxOutput = true)
  | .outEnWrite _ _, _ => (by decide +kernel : (May.of (.outEnWrite 0 false)).foot.covers Touch.execOutEnWrite = true)
  | .outputRampDone, _ => (by decide +kernel : (May.of (.outputRampDone)).foot.covers Touch.execOutputRampDone = true)
  | .biasLockTimeout, _ => (by decide +kernel : (May.of (.biasLockTimeout)).foot.covers Touch.execBiasLockTimeout = true)
  | .superframeBoundary _, _ => (by decide +kernel : (May.of (.superframeBoundary [])).foot.covers Touch.execSuperframeBoundary = true)
  | .darkTimeTick, _ => (by decide +kernel : (May.of (.darkTimeTick)).foot.covers Touch.execDarkTimeTick = true)
  | .loLightChange _, _ => (by decide +kernel : (May.of (.loLightChange false)).foot.covers Touch.execLoLightChange = true)
  | .lrxModeSet _ _, _ => (by decide +kernel : (May.of (.lrxModeSet hdr0 [])).foot.covers Touch.execLrxModeSet = true)
  | .lrxModeWrite _ _ _, _ => (by decide +kernel : (May.of (.lrxModeWrite 0 0 0)).foot.covers Touch.execLrxModeWrite = true)
  | .lrxEnable _ _, _ => (by decide +kernel : (May.of (.lrxEnable hdr0 [])).foot.covers Touch.execLrxEnable = true)
  | .rxEnWrite _ _, _ => (by decide +kernel : (May.of (.rxEnWrite 0 false)).foot.covers Touch.execRxEnWrite = true)
  | .lrxAcqCfg _ _, _ => (by decide +kernel : (May.of (.lrxAcqCfg hdr0 [])).foot.covers Touch.execLrxAcqCfg = true)
  | .lrxEqCfg _ _, _ => (by decide +kernel : (May.of (.lrxEqCfg hdr0 [])).foot.covers Touch.execLrxEqCfg = true)
  | .lrxFreeze _ _, _ => (by decide +kernel : (May.of (.lrxFreeze hdr0 [])).foot.covers Touch.execLrxFreeze = true)
  | .lrxRestart _ _, _ => (by decide +kernel : (May.of (.lrxRestart hdr0 [])).foot.covers Touch.execLrxRestart = true)
  | .lrxRestartGo _, _ => (by decide +kernel : (May.of (.lrxRestartGo 0)).foot.covers Touch.execLrxRestartGo = true)
  | .lrxStatus _ _, _ => (by decide +kernel : (May.of (.lrxStatus hdr0 [])).foot.covers Touch.execLrxStatus = true)
  | .lrxTapsGet _ _, _ => (by decide +kernel : (May.of (.lrxTapsGet hdr0 [])).foot.covers Touch.execLrxTapsGet = true)
  | .sigPresentSet, _ => (by decide +kernel : (May.of (.sigPresentSet)).foot.covers Touch.execSigPresentSet = true)
  | .sigPresentClear, _ => (by decide +kernel : (May.of (.sigPresentClear)).foot.covers Touch.execSigPresentClear = true)
  | .gainSettled _, _ => (by decide +kernel : (May.of (.gainSettled [])).foot.covers Touch.execGainSettled = true)
  | .freqEstimateDone _, _ => (by decide +kernel : (May.of (.freqEstimateDone [])).foot.covers Touch.execFreqEstimateDone = true)
  | .dispBatchDone _, _ => (by decide +kernel : (May.of (.dispBatchDone [])).foot.covers Touch.execDispBatchDone = true)
  | .symbolWindowEnd _ _ _, _ => (by decide +kernel : (May.of (.symbolWindowEnd [] [] [])).foot.covers Touch.execSymbolWindowEnd = true)
  | .trainingWordDetect _ _ _ _, _ => (by decide +kernel : (May.of (.trainingWordDetect 0 0 [] [])).foot.covers Touch.execTrainingWordDetect = true)
  | .pilotWindowEnd _, _ => (by decide +kernel : (May.of (.pilotWindowEnd [])).foot.covers Touch.execPilotWindowEnd = true)
  | .rxSuperframeBoundary _, _ => (by decide +kernel : (May.of (.rxSuperframeBoundary [])).foot.covers Touch.execRxSuperframeBoundary = true)
  | .superframeHeaderRx _, _ => (by decide +kernel : (May.of (.superframeHeaderRx 0)).foot.covers Touch.execSuperframeHeaderRx = true)
  | .stageTimeout, _ => (by decide +kernel : (May.of (.stageTimeout)).foot.covers Touch.execStageTimeout = true)
  | .acqTimeout, _ => (by decide +kernel : (May.of (.acqTimeout)).foot.covers Touch.execAcqTimeout = true)
  | .restartPauseEnd, _ => (by decide +kernel : (May.of (.restartPauseEnd)).foot.covers Touch.execRestartPauseEnd = true)
  | .holdExpired, _ => (by decide +kernel : (May.of (.holdExpired)).foot.covers Touch.execHoldExpired = true)
  | .warmTimeout, _ => (by decide +kernel : (May.of (.warmTimeout)).foot.covers Touch.execWarmTimeout = true)
  | .lrxQuality _ _, _ => (by decide +kernel : (May.of (.lrxQuality hdr0 [])).foot.covers Touch.execLrxQuality = true)
  | .lrxCrSet _ _, _ => (by decide +kernel : (May.of (.lrxCrSet hdr0 [])).foot.covers Touch.execLrxCrSet = true)
  | .lrxAdaptSet _ _, _ => (by decide +kernel : (May.of (.lrxAdaptSet hdr0 [])).foot.covers Touch.execLrxAdaptSet = true)
  | .lrxRplanLoad _ _, _ => (by decide +kernel : (May.of (.lrxRplanLoad hdr0 [])).foot.covers Touch.execLrxRplanLoad = true)
  | .lrxRplanGet _ _, _ => (by decide +kernel : (May.of (.lrxRplanGet hdr0 [])).foot.covers Touch.execLrxRplanGet = true)
  | .lrxAdaptNow _ _, _ => (by decide +kernel : (May.of (.lrxAdaptNow hdr0 [])).foot.covers Touch.execLrxAdaptNow = true)
  | .lrxQTake _, _ => (by decide +kernel : (May.of (.lrxQTake 0)).foot.covers Touch.execLrxQTake = true)
  | .lrxQSnapDone, _ => (by decide +kernel : (May.of (.lrxQSnapDone)).foot.covers Touch.execLrxQSnapDone = true)
  | .slipClr _, _ => (by decide +kernel : (May.of (.slipClr 0)).foot.covers Touch.execSlipClr = true)
  | .adaptEnWrite _ _ _, _ => (by decide +kernel : (May.of (.adaptEnWrite 0 false false)).foot.covers Touch.execAdaptEnWrite = true)
  | .snrReportSend, _ => (by decide +kernel : (May.of (.snrReportSend)).foot.covers Touch.execSnrReportSend = true)
  | .snrReport _ _ _ _ _ _, _ => (by decide +kernel : (May.of (.snrReport false 0 0 [] 0 0)).foot.covers Touch.execSnrReport = true)
  | .reportStale, _ => (by decide +kernel : (May.of (.reportStale)).foot.covers Touch.execReportStale = true)
  | .offer _ _ _ _ _, _ => (by decide +kernel : (May.of (.offer false 0 0 0 [])).foot.covers Touch.execOffer = true)
  | .held _ _ _, _ => (by decide +kernel : (May.of (.held false 0 0)).foot.covers Touch.execHeld = true)
  | .refuse _ _ _ _, _ => (by decide +kernel : (May.of (.refuse false 0 0 0)).foot.covers Touch.execRefuse = true)
  | .rollbackReq _ _ _ _, _ => (by decide +kernel : (May.of (.rollbackReq false 0 0 0)).foot.covers Touch.execRollbackReq = true)
  | .offerReplyTimeout, _ => (by decide +kernel : (May.of (.offerReplyTimeout)).foot.covers Touch.execOfferReplyTimeout = true)
  | .adaptBackoffEnd, _ => (by decide +kernel : (May.of (.adaptBackoffEnd)).foot.covers Touch.execAdaptBackoffEnd = true)
  | .verifyEnd, _ => (by decide +kernel : (May.of (.verifyEnd)).foot.covers Touch.execVerifyEnd = true)
  | .calStatus _ _, _ => (by decide +kernel : (May.of (.calStatus hdr0 [])).foot.covers Touch.execCalStatus = true)
  | .calBgSet _ _, _ => (by decide +kernel : (May.of (.calBgSet hdr0 [])).foot.covers Touch.execCalBgSet = true)
  | .calRefSet _ _, _ => (by decide +kernel : (May.of (.calRefSet hdr0 [])).foot.covers Touch.execCalRefSet = true)
  | .calRun _ _ _ _, _ => (by decide +kernel : (May.of (.calRun hdr0 [] 0 0)).foot.covers Touch.execCalRun = true)
  | .calFgDone _ _ _, _ => (by decide +kernel : (May.of (.calFgDone [] [] [])).foot.covers Touch.execCalFgDone = true)
  | .fgTimeout, _ => (by decide +kernel : (May.of (.fgTimeout)).foot.covers Touch.execFgTimeout = true)
  | .calAbort _ _, _ => (by decide +kernel : (May.of (.calAbort hdr0 [])).foot.covers Touch.execCalAbort = true)
  | .calCommit _ _ _, _ => (by decide +kernel : (May.of (.calCommit hdr0 [] false)).foot.covers Touch.execCalCommit = true)
  | .fuseRowWriteDone _, _ => (by decide +kernel : (May.of (.fuseRowWriteDone false)).foot.covers Touch.execFuseRowWriteDone = true)
  | .fuseVddLoss _ _, _ => (by decide +kernel : (May.of (.fuseVddLoss 0 0)).foot.covers Touch.execFuseVddLoss = true)
  | .calExport _ _, _ => (by decide +kernel : (May.of (.calExport hdr0 [])).foot.covers Touch.execCalExport = true)
  | .calLoad _ _, _ => (by decide +kernel : (May.of (.calLoad hdr0 [])).foot.covers Touch.execCalLoad = true)
  | .calQuality _ _, _ => (by decide +kernel : (May.of (.calQuality hdr0 [])).foot.covers Touch.execCalQuality = true)
  | .calSlice _ _ _, _ => (by decide +kernel : (May.of (.calSlice hdr0 [] 0)).foot.covers Touch.execCalSlice = true)
  | .cnvQTake _, _ => (by decide +kernel : (May.of (.cnvQTake 0)).foot.covers Touch.execCnvQTake = true)
  | .cnvQSnapDone, _ => (by decide +kernel : (May.of (.cnvQSnapDone)).foot.covers Touch.execCnvQSnapDone = true)
  | .calPassStart, _ => (by decide +kernel : (May.of (.calPassStart)).foot.covers Touch.execCalPassStart = true)
  | .sliceStepStart _, _ => (by decide +kernel : (May.of (.sliceStepStart 0)).foot.covers Touch.execSliceStepStart = true)
  | .sliceHandover _ _ _ _, _ => (by decide +kernel : (May.of (.sliceHandover 0 0 0 0)).foot.covers Touch.execSliceHandover = true)
  | .sliceCalDone _ _ _ _, _ => (by decide +kernel : (May.of (.sliceCalDone 0 0 0 0)).foot.covers Touch.execSliceCalDone = true)
  | .sliceFault _ _ _, _ => (by decide +kernel : (May.of (.sliceFault 0 0 0)).foot.covers Touch.execSliceFault = true)
  | .sliceRetest _ _, _ => (by decide +kernel : (May.of (.sliceRetest 0 false)).foot.covers Touch.execSliceRetest = true)
  | .sliceReturn _ _ _, _ => (by decide +kernel : (May.of (.sliceReturn 0 0 [])).foot.covers Touch.execSliceReturn = true)
  | .refCheck _ _, _ => (by decide +kernel : (May.of (.refCheck 0 0)).foot.covers Touch.execRefCheck = true)
  | .bgEstimatorUpdate _ _ _ _ _ _, _ => (by decide +kernel : (May.of (.bgEstimatorUpdate 0 0 0 0 0 [])).foot.covers Touch.execBgEstimatorUpdate = true)
  | .fecCfg _ _, _ => (by decide +kernel : (May.of (.fecCfg hdr0 [])).foot.covers Touch.execFecCfg = true)
  | .fecStatus _ _, _ => (by decide +kernel : (May.of (.fecStatus hdr0 [])).foot.covers Touch.execFecStatus = true)
  | .fecCounters _ _, _ => (by decide +kernel : (May.of (.fecCounters hdr0 [])).foot.covers Touch.execFecCounters = true)
  | .fecInject _ _, _ => (by decide +kernel : (May.of (.fecInject hdr0 [])).foot.covers Touch.execFecInject = true)
  | .fecGeometry _ _, _ => (by decide +kernel : (May.of (.fecGeometry hdr0 [])).foot.covers Touch.execFecGeometry = true)
  | .fecCntClr _, _ => (by decide +kernel : (May.of (.fecCntClr 0)).foot.covers Touch.execFecCntClr = true)
  | .fecOneShot _, _ => (by decide +kernel : (May.of (.fecOneShot 0)).foot.covers Touch.execFecOneShot = true)
  | .fecInjDone, _ => (by decide +kernel : (May.of (.fecInjDone)).foot.covers Touch.execFecInjDone = true)
  | .fecBlockEncode _ _, _ => (by decide +kernel : (May.of (.fecBlockEncode [] 0)).foot.covers Touch.execFecBlockEncode = true)
  | .fecBlockDecode _ _, _ => (by decide +kernel : (May.of (.fecBlockDecode [] 0)).foot.covers Touch.execFecBlockDecode = true)
  | .frmCfg _ _, _ => (by decide +kernel : (May.of (.frmCfg hdr0 [])).foot.covers Touch.execFrmCfg = true)
  | .frmStatus _ _, _ => (by decide +kernel : (May.of (.frmStatus hdr0 [])).foot.covers Touch.execFrmStatus = true)
  | .frmPmGet _ _, _ => (by decide +kernel : (May.of (.frmPmGet hdr0 [])).foot.covers Touch.execFrmPmGet = true)
  | .frmTtiSet _ _, _ => (by decide +kernel : (May.of (.frmTtiSet hdr0 [])).foot.covers Touch.execFrmTtiSet = true)
  | .frmTtiGet _ _, _ => (by decide +kernel : (May.of (.frmTtiGet hdr0 [])).foot.covers Touch.execFrmTtiGet = true)
  | .frmOhcCfg _ _, _ => (by decide +kernel : (May.of (.frmOhcCfg hdr0 [])).foot.covers Touch.execFrmOhcCfg = true)
  | .frmOhcXfer _ _, _ => (by decide +kernel : (May.of (.frmOhcXfer hdr0 [])).foot.covers Touch.execFrmOhcXfer = true)
  | .frmCntClr _, _ => (by decide +kernel : (May.of (.frmCntClr 0)).foot.covers Touch.execFrmCntClr = true)
  | .frmResync _, _ => (by decide +kernel : (May.of (.frmResync 0)).foot.covers Touch.execFrmResync = true)
  | .fasDetect _ _ _, _ => (by decide +kernel : (May.of (.fasDetect 0 0 false)).foot.covers Touch.execFasDetect = true)
  | .candidateCheck _ _, _ => (by decide +kernel : (May.of (.candidateCheck 0 false)).foot.covers Touch.execCandidateCheck = true)
  | .resolutionWindowEnd, _ => (by decide +kernel : (May.of (.resolutionWindowEnd)).foot.covers Touch.execResolutionWindowEnd = true)
  | .inFrameCheck _, _ => (by decide +kernel : (May.of (.inFrameCheck false)).foot.covers Touch.execInFrameCheck = true)
  | .rxFrame _, _ => rfl
  | .txFrame _ _ _, _ => (by decide +kernel : (May.of (.txFrame 0 [] [])).foot.covers Touch.execTxFrame = true)
  | .losClear, _ => (by decide +kernel : (May.of (.losClear)).foot.covers Touch.execLosClear = true)
  | .lofDeclare, _ => (by decide +kernel : (May.of (.lofDeclare)).foot.covers Touch.execLofDeclare = true)
  | .lofClear, _ => (by decide +kernel : (May.of (.lofClear)).foot.covers Touch.execLofClear = true)
  | .lomDeclare, _ => (by decide +kernel : (May.of (.lomDeclare)).foot.covers Touch.execLomDeclare = true)
  | .lomClear, _ => (by decide +kernel : (May.of (.lomClear)).foot.covers Touch.execLomClear = true)
  | .pmSecond, _ => (by decide +kernel : (May.of (.pmSecond)).foot.covers Touch.execPmSecond = true)
  | .cliAdd _ _, _ => (by decide +kernel : (May.of (.cliAdd hdr0 [])).foot.covers Touch.execCliAdd = true)
  | .cliRemove _ _, _ => (by decide +kernel : (May.of (.cliRemove hdr0 [])).foot.covers Touch.execCliRemove = true)
  | .cliMove _ _, _ => (by decide +kernel : (May.of (.cliMove hdr0 [])).foot.covers Touch.execCliMove = true)
  | .cliMoveCancel _ _, _ => (by decide +kernel : (May.of (.cliMoveCancel hdr0 [])).foot.covers Touch.execCliMoveCancel = true)
  | .cliStatus _ _, _ => (by decide +kernel : (May.of (.cliStatus hdr0 [])).foot.covers Touch.execCliStatus = true)
  | .cliCounters _ _, _ => (by decide +kernel : (May.of (.cliCounters hdr0 [])).foot.covers Touch.execCliCounters = true)
  | .cliTsCfg _ _, _ => (by decide +kernel : (May.of (.cliTsCfg hdr0 [])).foot.covers Touch.execCliTsCfg = true)
  | .cliLoop _ _, _ => (by decide +kernel : (May.of (.cliLoop hdr0 [])).foot.covers Touch.execCliLoop = true)
  | .cliSlotMap _ _, _ => (by decide +kernel : (May.of (.cliSlotMap hdr0 [])).foot.covers Touch.execCliSlotMap = true)
  | .cliCntClr _, _ => (by decide +kernel : (May.of (.cliCntClr 0)).foot.covers Touch.execCliCntClr = true)
  | .psiMultiframe _ _ _, _ => (by decide +kernel : (May.of (.psiMultiframe [] [] [])).foot.covers Touch.execPsiMultiframe = true)
  | .clientIngressFail _ _ _ _ _, _ => (by decide +kernel : (May.of (.clientIngressFail 0 0 0 0 0)).foot.covers Touch.execClientIngressFail = true)
  | .ingressFailClear _ _, _ => (by decide +kernel : (May.of (.ingressFailClear 0 0)).foot.covers Touch.execIngressFailClear = true)
  | .clientUp _, _ => (by decide +kernel : (May.of (.clientUp 0)).foot.covers Touch.execClientUp = true)
  | .ptpMessageRx _ _, h => absurd h (Nat.not_le_of_lt (Nat.le_of_ble_eq_true rfl))
  | .ptpMessageTx _ _, h => absurd h (Nat.not_le_of_lt (Nat.le_of_ble_eq_true rfl))
  | .srdLaneSet _ _, _ => (by decide +kernel : (May.of (.srdLaneSet hdr0 [])).foot.covers Touch.execSrdLaneSet = true)
  | .srdStatus _ _, _ => (by decide +kernel : (May.of (.srdStatus hdr0 [])).foot.covers Touch.execSrdStatus = true)
  | .srdEyeScan _ _, _ => (by decide +kernel : (May.of (.srdEyeScan hdr0 [])).foot.covers Touch.execSrdEyeScan = true)
  | .eyeDone _ _ _ _ _, _ => (by decide +kernel : (May.of (.eyeDone 0 false [] 0 0)).foot.covers Touch.execEyeDone = true)
  | .srdJigSet _ _, _ => (by decide +kernel : (May.of (.srdJigSet hdr0 [])).foot.covers Touch.execSrdJigSet = true)
  | .srdJigGet _ _, _ => (by decide +kernel : (May.of (.srdJigGet hdr0 [])).foot.covers Touch.execSrdJigGet = true)
  | .srdCntClr _, _ => (by decide +kernel : (May.of (.srdCntClr 0)).foot.covers Touch.execSrdCntClr = true)
  | .laneRetrain _ _, _ => (by decide +kernel : (May.of (.laneRetrain 0 0)).foot.covers Touch.execLaneRetrain = true)
  | .jigInject _ _, _ => (by decide +kernel : (May.of (.jigInject 0 0)).foot.covers Touch.execJigInject = true)
  | .jigLock _ _ _, _ => (by decide +kernel : (May.of (.jigLock 0 0 0)).foot.covers Touch.execJigLock = true)
  | .jigUnlock _ _ _, _ => (by decide +kernel : (May.of (.jigUnlock 0 0 0)).foot.covers Touch.execJigUnlock = true)
  | .lanePowerUp _, _ => (by decide +kernel : (May.of (.lanePowerUp 0)).foot.covers Touch.execLanePowerUp = true)
  | .laneTrained _, _ => (by decide +kernel : (May.of (.laneTrained 0)).foot.covers Touch.execLaneTrained = true)
  | .trainTimeout _, _ => (by decide +kernel : (May.of (.trainTimeout 0)).foot.covers Touch.execTrainTimeout = true)
  | .trainRetry _, _ => (by decide +kernel : (May.of (.trainRetry 0)).foot.covers Touch.execTrainRetry = true)
  | .laneSignalLoss _, _ => (by decide +kernel : (May.of (.laneSignalLoss 0)).foot.covers Touch.execLaneSignalLoss = true)
  | .align _ _ _ _ _, _ => (by decide +kernel : (May.of (.align 0 [] 0 0 0)).foot.covers Touch.execAlign = true)
  | .laneWtrEnd _, _ => (by decide +kernel : (May.of (.laneWtrEnd 0)).foot.covers Touch.execLaneWtrEnd = true)
  | .packetRx _ _ _, _ => (by decide +kernel : (May.of (.packetRx 0 [] false)).foot.covers Touch.execPacketRx = true)
  | .vnrCfg _ _, _ => (by decide +kernel : (May.of (.vnrCfg hdr0 [])).foot.covers Touch.execVnrCfg = true)
  | .vnrStatus _ _, _ => (by decide +kernel : (May.of (.vnrStatus hdr0 [])).foot.covers Touch.execVnrStatus = true)
  | .vnrPageSet _ _, _ => (by decide +kernel : (May.of (.vnrPageSet hdr0 [])).foot.covers Touch.execVnrPageSet = true)
  | .vnrKeyLoad _ _, _ => (by decide +kernel : (May.of (.vnrKeyLoad hdr0 [])).foot.covers Touch.execVnrKeyLoad = true)
  | .vnrKeySwitch _ _, _ => (by decide +kernel : (May.of (.vnrKeySwitch hdr0 [])).foot.covers Touch.execVnrKeySwitch = true)
  | .vnrKeyErase _ _, _ => (by decide +kernel : (May.of (.vnrKeyErase hdr0 [])).foot.covers Touch.execVnrKeyErase = true)
  | .vnrBind _ _, _ => (by decide +kernel : (May.of (.vnrBind hdr0 [])).foot.covers Touch.execVnrBind = true)
  | .vnrLa _ _, _ => (by decide +kernel : (May.of (.vnrLa hdr0 [])).foot.covers Touch.execVnrLa = true)
  | .laDone _ _ _ _, _ => (by decide +kernel : (May.of (.laDone 0 [] [] false)).foot.covers Touch.execLaDone = true)
  | .vnrCounters _ _, _ => (by decide +kernel : (May.of (.vnrCounters hdr0 [])).foot.covers Touch.execVnrCounters = true)
  | .vnrRearm _ _, _ => (by decide +kernel : (May.of (.vnrRearm hdr0 [])).foot.covers Touch.execVnrRearm = true)
  | .vnrCtrlRearm _, _ => (by decide +kernel : (May.of (.vnrCtrlRearm 0)).foot.covers Touch.execVnrCtrlRearm = true)
  | .vnrCntClr _, _ => (by decide +kernel : (May.of (.vnrCntClr 0)).foot.covers Touch.execVnrCntClr = true)
  | .protModeWrite _ _, _ => (by decide +kernel : (May.of (.protModeWrite 0 0)).foot.covers Touch.execProtModeWrite = true)
  | .vnrTxBlock _ _ _, _ => (by decide +kernel : (May.of (.vnrTxBlock 0 0 0)).foot.covers Touch.execVnrTxBlock = true)
  | .vnrKatDone _ _ _, _ => (by decide +kernel : (May.of (.vnrKatDone 0 0 false)).foot.covers Touch.execVnrKatDone = true)
  | .vnrRxBlock _ _ _ _ _ _ _ _ _ _ _, _ => (by decide +kernel : (May.of (.vnrRxBlock 0 0 false false false 0 0 false false false false)).foot.covers Touch.execVnrRxBlock = true)
  | .retainedGenErase _ _, _ => (by decide +kernel : (May.of (.retainedGenErase 0 0)).foot.covers Touch.execRetainedGenErase = true)
  | .keyAge _ _ _, _ => (by decide +kernel : (May.of (.keyAge 0 0 false)).foot.covers Touch.execKeyAge = true)
  | .keyExhausted _ _, _ => (by decide +kernel : (May.of (.keyExhausted 0 0)).foot.covers Touch.execKeyExhausted = true)
  | .keyRotationTimer _, _ => (by decide +kernel : (May.of (.keyRotationTimer 0)).foot.covers Touch.execKeyRotationTimer = true)
  | .sensorAlarm _, _ => (by decide +kernel : (May.of (.sensorAlarm 0)).foot.covers Touch.execSensorAlarm = true)
  | .sensorRekey, _ => (by decide +kernel : (May.of (.sensorRekey)).foot.covers Touch.execSensorRekey = true)
  | .drbgHealthFail, _ => (by decide +kernel : (May.of (.drbgHealthFail)).foot.covers Touch.execDrbgHealthFail = true)
  | .drbgHealthPass, _ => (by decide +kernel : (May.of (.drbgHealthPass)).foot.covers Touch.execDrbgHealthPass = true)
  | .scrCfgSet _ _, _ => (by decide +kernel : (May.of (.scrCfgSet hdr0 [])).foot.covers Touch.execScrCfgSet = true)
  | .scrTrust _ _, _ => (by decide +kernel : (May.of (.scrTrust hdr0 [])).foot.covers Touch.execScrTrust = true)
  | .scrStatus _ _, _ => (by decide +kernel : (May.of (.scrStatus hdr0 [])).foot.covers Touch.execScrStatus = true)
  | .scrPeers _ _, _ => (by decide +kernel : (May.of (.scrPeers hdr0 [])).foot.covers Touch.execScrPeers = true)
  | .scrRestart _ _, _ => (by decide +kernel : (May.of (.scrRestart hdr0 [])).foot.covers Touch.execScrRestart = true)
  | .scrCtrlRestart _, _ => (by decide +kernel : (May.of (.scrCtrlRestart 0)).foot.covers Touch.execScrCtrlRestart = true)
  | .scrCntClr _, _ => (by decide +kernel : (May.of (.scrCntClr 0)).foot.covers Touch.execScrCntClr = true)
  | .scrEnWrite _ _, _ => (by decide +kernel : (May.of (.scrEnWrite 0 false)).foot.covers Touch.execScrEnWrite = true)
  | .syncWordDetect _, _ => rfl
  | .hello _, _ => rfl
  | .kex _ _ _ _ _, _ => (by decide +kernel : (May.of (.kex 0 0 [] [] false)).foot.covers Touch.execKex = true)
  | .propose _ _ _ _, _ => (by decide +kernel : (May.of (.propose 0 0 0 0)).foot.covers Touch.execPropose = true)
  | .accept _ _ _, _ => (by decide +kernel : (May.of (.accept 0 0 0)).foot.covers Touch.execAccept = true)
  | .reject _ _ _ _, _ => (by decide +kernel : (May.of (.reject 0 0 0 0)).foot.covers Touch.execReject = true)
  | .keys _ _ _, _ => (by decide +kernel : (May.of (.keys 0 0 [])).foot.covers Touch.execKeys = true)
  | .keysAck _ _ _ _, _ => (by decide +kernel : (May.of (.keysAck 0 0 0 [])).foot.covers Touch.execKeysAck = true)
  | .go _ _ _, _ => (by decide +kernel : (May.of (.go 0 0 0)).foot.covers Touch.execGo = true)
  | .goSent, _ => (by decide +kernel : (May.of (.goSent)).foot.covers Touch.execGoSent = true)
  | .reneg _ _ _, _ => (by decide +kernel : (May.of (.reneg 0 0 0)).foot.covers Touch.execReneg = true)
  | .rotate _ _ _, _ => (by decide +kernel : (May.of (.rotate 0 0 0)).foot.covers Touch.execRotate = true)
  | .holdOffEnd, _ => (by decide +kernel : (May.of (.holdOffEnd)).foot.covers Touch.execHoldOffEnd = true)
  | .helloTimer, _ => (by decide +kernel : (May.of (.helloTimer)).foot.covers Touch.execHelloTimer = true)
  | .beaconLight, _ => (by decide +kernel : (May.of (.beaconLight)).foot.covers Touch.execBeaconLight = true)
  | .selectionWindowEnd, _ => (by decide +kernel : (May.of (.selectionWindowEnd)).foot.covers Touch.execSelectionWindowEnd = true)
  | .scrReplyTimeout, _ => (by decide +kernel : (May.of (.scrReplyTimeout)).foot.covers Touch.execScrReplyTimeout = true)
  | .negTimeout, _ => (by decide +kernel : (May.of (.negTimeout)).foot.covers Touch.execNegTimeout = true)
  | .scrHoldEnd, _ => (by decide +kernel : (May.of (.scrHoldEnd)).foot.covers Touch.execScrHoldEnd = true)
  | .scrLive, _ => (by decide +kernel : (May.of (.scrLive)).foot.covers Touch.execScrLive = true)
  | .goLiveTimeout, _ => (by decide +kernel : (May.of (.goLiveTimeout)).foot.covers Touch.execGoLiveTimeout = true)
  | .relockTimeout, _ => (by decide +kernel : (May.of (.relockTimeout)).foot.covers Touch.execRelockTimeout = true)
  | .peerHelloLost, _ => (by decide +kernel : (May.of (.peerHelloLost)).foot.covers Touch.execPeerHelloLost = true)
  | .refCfg _ _, h => absurd h (Nat.not_le_of_lt (Nat.le_of_ble_eq_true rfl))
  | .refCandSet _ _, h => absurd h (Nat.not_le_of_lt (Nat.le_of_ble_eq_true rfl))
  | .candFreqWrite _ _ _, h => absurd h (Nat.not_le_of_lt (Nat.le_of_ble_eq_true rfl))
  | .refSelect _ _, h => absurd h (Nat.not_le_of_lt (Nat.le_of_ble_eq_true rfl))
  | .refStatus _ _, h => absurd h (Nat.not_le_of_lt (Nat.le_of_ble_eq_true rfl))
  | .refOutSet _ _, h => absurd h (Nat.not_le_of_lt (Nat.le_of_ble_eq_true rfl))
  | .refRealign _ _, h => absurd h (Nat.not_le_of_lt (Nat.le_of_ble_eq_true rfl))
  | .realignStep _ _ _, h => absurd h (Nat.not_le_of_lt (Nat.le_of_ble_eq_true rfl))
  | .refActivity _ _, h => absurd h (Nat.not_le_of_lt (Nat.le_of_ble_eq_true rfl))
  | .freqGateEnd _ _, h => absurd h (Nat.not_le_of_lt (Nat.le_of_ble_eq_true rfl))
  | .refQualifyEnd _, h => absurd h (Nat.not_le_of_lt (Nat.le_of_ble_eq_true rfl))
  | .driftEval, h => absurd h (Nat.not_le_of_lt (Nat.le_of_ble_eq_true rfl))
  | .buildoutEnd, h => absurd h (Nat.not_le_of_lt (Nat.le_of_ble_eq_true rfl))
  | .dpllLock, h => absurd h (Nat.not_le_of_lt (Nat.le_of_ble_eq_true rfl))
  | .dpllUnlock _, h => absurd h (Nat.not_le_of_lt (Nat.le_of_ble_eq_true rfl))
  | .dpllHistoryTick _ _, h => absurd h (Nat.not_le_of_lt (Nat.le_of_ble_eq_true rfl))
  | .clampExpired, h => absurd h (Nat.not_le_of_lt (Nat.le_of_ble_eq_true rfl))
  | .oscLost, h => absurd h (Nat.not_le_of_lt (Nat.le_of_ble_eq_true rfl))
  | .esmcRx _ _ _, h => absurd h (Nat.not_le_of_lt (Nat.le_of_ble_eq_true rfl))
  | .esmcTx, _ => rfl
  | .qlTimeout _, h => absurd h (Nat.not_le_of_lt (Nat.le_of_ble_eq_true rfl))
  | .lineQlRx _ _ _ _, h => absurd h (Nat.not_le_of_lt (Nat.le_of_ble_eq_true rfl))
  | .compatPulse _ _, h => absurd h (Nat.not_le_of_lt (Nat.le_of_ble_eq_true rfl))
  | .todGet _ _, h => absurd h (Nat.not_le_of_lt (Nat.le_of_ble_eq_true rfl))
  | .todStep _ _, h => absurd h (Nat.not_le_of_lt (Nat.le_of_ble_eq_true rfl))
  | .todStepApply, h => absurd h (Nat.not_le_of_lt (Nat.le_of_ble_eq_true rfl))
  | .todRearm _ _, h => absurd h (Nat.not_le_of_lt (Nat.le_of_ble_eq_true rfl))
  | .todRateSet _ _, h => absurd h (Nat.not_le_of_lt (Nat.le_of_ble_eq_true rfl))
  | .ptpCfg _ _, h => absurd h (Nat.not_le_of_lt (Nat.le_of_ble_eq_true rfl))
  | .ptpPortSet _ _, h => absurd h (Nat.not_le_of_lt (Nat.le_of_ble_eq_true rfl))
  | .ptpStatus _ _, h => absurd h (Nat.not_le_of_lt (Nat.le_of_ble_eq_true rfl))
  | .lineDelay _ _, h => absurd h (Nat.not_le_of_lt (Nat.le_of_ble_eq_true rfl))
  | .asymAccept _ _, h => absurd h (Nat.not_le_of_lt (Nat.le_of_ble_eq_true rfl))
  | .schedSet _ _, h => absurd h (Nat.not_le_of_lt (Nat.le_of_ble_eq_true rfl))
  | .schedCancel _ _, h => absurd h (Nat.not_le_of_lt (Nat.le_of_ble_eq_true rfl))
  | .schedFire _, h => absurd h (Nat.not_le_of_lt (Nat.le_of_ble_eq_true rfl))
  | .todLatch _, h => absurd h (Nat.not_le_of_lt (Nat.le_of_ble_eq_true rfl))
  | .todCntClr _, h => absurd h (Nat.not_le_of_lt (Nat.le_of_ble_eq_true rfl))
  | .timeBaseOk, h => absurd h (Nat.not_le_of_lt (Nat.le_of_ble_eq_true rfl))
  | .lineStampRx _, h => absurd h (Nat.not_le_of_lt (Nat.le_of_ble_eq_true rfl))
  | .lineAnnounceRx _, h => absurd h (Nat.not_le_of_lt (Nat.le_of_ble_eq_true rfl))
  | .asymHoldEnd, h => absurd h (Nat.not_le_of_lt (Nat.le_of_ble_eq_true rfl))
  | .servoSecond, h => absurd h (Nat.not_le_of_lt (Nat.le_of_ble_eq_true rfl))
  | .parentMeasureDone, h => absurd h (Nat.not_le_of_lt (Nat.le_of_ble_eq_true rfl))
  | .announceTimeout _, h => absurd h (Nat.not_le_of_lt (Nat.le_of_ble_eq_true rfl))
  | .holdoverExpiry, h => absurd h (Nat.not_le_of_lt (Nat.le_of_ble_eq_true rfl))
  | .pairCfg _ _, h => absurd h (Nat.not_le_of_lt (Nat.le_of_ble_eq_true rfl))
  | .pairStatus _ _, h => absurd h (Nat.not_le_of_lt (Nat.le_of_ble_eq_true rfl))
  | .pairSwitch _ _, h => absurd h (Nat.not_le_of_lt (Nat.le_of_ble_eq_true rfl))
  | .pairPromote _ _, h => absurd h (Nat.not_le_of_lt (Nat.le_of_ble_eq_true rfl))
  | .pairOos _ _, h => absurd h (Nat.not_le_of_lt (Nat.le_of_ble_eq_true rfl))
  | .pairReturn _ _, h => absurd h (Nat.not_le_of_lt (Nat.le_of_ble_eq_true rfl))
  | .pairSnapshot _ _, h => absurd h (Nat.not_le_of_lt (Nat.le_of_ble_eq_true rfl))
  | .pairSpares _ _, h => absurd h (Nat.not_le_of_lt (Nat.le_of_ble_eq_true rfl))
  | .pairCntClr _, h => absurd h (Nat.not_le_of_lt (Nat.le_of_ble_eq_true rfl))
  | .heartbeatTx, h => absurd h (Nat.not_le_of_lt (Nat.le_of_ble_eq_true rfl))
  | .heartbeatRx _ _ _ _ _ _ _, h => absurd h (Nat.not_le_of_lt (Nat.le_of_ble_eq_true rfl))
  | .mitreLinkLost _, h => absurd h (Nat.not_le_of_lt (Nat.le_of_ble_eq_true rfl))
  | .mitreLinkUp _, h => absurd h (Nat.not_le_of_lt (Nat.le_of_ble_eq_true rfl))
  | .pairAuthRetry _, h => absurd h (Nat.not_le_of_lt (Nat.le_of_ble_eq_true rfl))
  | .pegTx, _ => rfl
  | .pegPulse _, h => absurd h (Nat.not_le_of_lt (Nat.le_of_ble_eq_true rfl))
  | .pegLoss, h => absurd h (Nat.not_le_of_lt (Nat.le_of_ble_eq_true rfl))
  | .deathWinEnd, h => absurd h (Nat.not_le_of_lt (Nat.le_of_ble_eq_true rfl))
  | .journalEntryRx _ _, h => absurd h (Nat.not_le_of_lt (Nat.le_of_ble_eq_true rfl))
  | .journalAckTimeout, h => absurd h (Nat.not_le_of_lt (Nat.le_of_ble_eq_true rfl))
  | .journalResend, _ => rfl
  | .failRx _, h => absurd h (Nat.not_le_of_lt (Nat.le_of_ble_eq_true rfl))
  | .gapEnd, h => absurd h (Nat.not_le_of_lt (Nat.le_of_ble_eq_true rfl))
  | .snapshotPeriod, h => absurd h (Nat.not_le_of_lt (Nat.le_of_ble_eq_true rfl))
  | .snapshotRx _, h => absurd h (Nat.not_le_of_lt (Nat.le_of_ble_eq_true rfl))
  | .snapshotTimeout, h => absurd h (Nat.not_le_of_lt (Nat.le_of_ble_eq_true rfl))
  | .digestBatchRx _ _, h => absurd h (Nat.not_le_of_lt (Nat.le_of_ble_eq_true rfl))
  | .digestMissing _ _, h => absurd h (Nat.not_le_of_lt (Nat.le_of_ble_eq_true rfl))
  | .identificationDone _ _, h => absurd h (Nat.not_le_of_lt (Nat.le_of_ble_eq_true rfl))
  | .pairWtrEnd, h => absurd h (Nat.not_le_of_lt (Nat.le_of_ble_eq_true rfl))
  | .plannedHandover, h => absurd h (Nat.not_le_of_lt (Nat.le_of_ble_eq_true rfl))
  | .mitreTimeStamp _ _, h => absurd h (Nat.not_le_of_lt (Nat.le_of_ble_eq_true rfl))
  | .engWatchdog _, h => absurd h (Nat.not_le_of_lt (Nat.le_of_ble_eq_true rfl))
  | .engEcc _ _, h => absurd h (Nat.not_le_of_lt (Nat.le_of_ble_eq_true rfl))
  | .engTrap _, h => absurd h (Nat.not_le_of_lt (Nat.le_of_ble_eq_true rfl))
  | .taskResume _ _, h => absurd h (Nat.not_le_of_lt (Nat.le_of_ble_eq_true rfl))
  | .engineRetest _ _, h => absurd h (Nat.not_le_of_lt (Nat.le_of_ble_eq_true rfl))
  | .spareWtrEnd _, h => absurd h (Nat.not_le_of_lt (Nat.le_of_ble_eq_true rfl))
  | .sharedSramError _, h => absurd h (Nat.not_le_of_lt (Nat.le_of_ble_eq_true rfl))
  | .monCfg _ _, h => absurd h (Nat.not_le_of_lt (Nat.le_of_ble_eq_true rfl))
  | .monStart _ _, h => absurd h (Nat.not_le_of_lt (Nat.le_of_ble_eq_true rfl))
  | .monRead _ _, h => absurd h (Nat.not_le_of_lt (Nat.le_of_ble_eq_true rfl))
  | .monTrigger _ _, h => absurd h (Nat.not_le_of_lt (Nat.le_of_ble_eq_true rfl))
  | .monSyscal _ _, h => absurd h (Nat.not_le_of_lt (Nat.le_of_ble_eq_true rfl))
  | .monSyscalDone _ _ _ _, h => absurd h (Nat.not_le_of_lt (Nat.le_of_ble_eq_true rfl))
  | .monStatus _ _, h => absurd h (Nat.not_le_of_lt (Nat.le_of_ble_eq_true rfl))
  | .monCntClr _, h => absurd h (Nat.not_le_of_lt (Nat.le_of_ble_eq_true rfl))
  | .monInterleaveWrite _ _, h => absurd h (Nat.not_le_of_lt (Nat.le_of_ble_eq_true rfl))
  | .monQRead _ _, h => absurd h (Nat.not_le_of_lt (Nat.le_of_ble_eq_true rfl))
  | .monTimerTrigger _, h => absurd h (Nat.not_le_of_lt (Nat.le_of_ble_eq_true rfl))
  | .dsyncPulse, h => absurd h (Nat.not_le_of_lt (Nat.le_of_ble_eq_true rfl))
  | .monDelayEnd _, h => absurd h (Nat.not_le_of_lt (Nat.le_of_ble_eq_true rfl))
  | .monWord _ _ _, h => absurd h (Nat.not_le_of_lt (Nat.le_of_ble_eq_true rfl))
  | .obsSnapshot _ _, h => absurd h (Nat.not_le_of_lt (Nat.le_of_ble_eq_true rfl))
  | .obsCntRead _ _, h => absurd h (Nat.not_le_of_lt (Nat.le_of_ble_eq_true rfl))
  | .obsCntPreset _ _, _ => rfl
  | .obsEvtRoute _ _, h => absurd h (Nat.not_le_of_lt (Nat.le_of_ble_eq_true rfl))
  | .obsDumpCfg _ _, h => absurd h (Nat.not_le_of_lt (Nat.le_of_ble_eq_true rfl))
  | .obsBwCfg _ _, h => absurd h (Nat.not_le_of_lt (Nat.le_of_ble_eq_true rfl))
  | .capCfg _ _, h => absurd h (Nat.not_le_of_lt (Nat.le_of_ble_eq_true rfl))
  | .capTrigger _ _, h => absurd h (Nat.not_le_of_lt (Nat.le_of_ble_eq_true rfl))
  | .capRead _ _, h => absurd h (Nat.not_le_of_lt (Nat.le_of_ble_eq_true rfl))
  | .capReadDone, h => absurd h (Nat.not_le_of_lt (Nat.le_of_ble_eq_true rfl))
  | .capRearm _ _, h => absurd h (Nat.not_le_of_lt (Nat.le_of_ble_eq_true rfl))
  | .recCfg _ _, h => absurd h (Nat.not_le_of_lt (Nat.le_of_ble_eq_true rfl))
  | .recRead _ _, h => absurd h (Nat.not_le_of_lt (Nat.le_of_ble_eq_true rfl))
  | .recReadDone _ _ _ _, h => absurd h (Nat.not_le_of_lt (Nat.le_of_ble_eq_true rfl))
  | .recHold _ _, h => absurd h (Nat.not_le_of_lt (Nat.le_of_ble_eq_true rfl))
  | .recStatus _ _, h => absurd h (Nat.not_le_of_lt (Nat.le_of_ble_eq_true rfl))
  | .obsCntClr _, h => absurd h (Nat.not_le_of_lt (Nat.le_of_ble_eq_true rfl))
  | .bwClear _, h => absurd h (Nat.not_le_of_lt (Nat.le_of_ble_eq_true rfl))
  | .obsSnapTake _, h => absurd h (Nat.not_le_of_lt (Nat.le_of_ble_eq_true rfl))
  | .obsPreset _ _, h => absurd h (Nat.not_le_of_lt (Nat.le_of_ble_eq_true rfl))
  | .wrapClear _ _ _, h => absurd h (Nat.not_le_of_lt (Nat.le_of_ble_eq_true rfl))
  | .dumpPeriod, h => absurd h (Nat.not_le_of_lt (Nat.le_of_ble_eq_true rfl))
  | .bwWindowEnd _ _, h => absurd h (Nat.not_le_of_lt (Nat.le_of_ble_eq_true rfl))
  | .triggerInputFire _, h => absurd h (Nat.not_le_of_lt (Nat.le_of_ble_eq_true rfl))
  | .capFrozen _ _, h => absurd h (Nat.not_le_of_lt (Nat.le_of_ble_eq_true rfl))
  | .drainDone _ _, h => absurd h (Nat.not_le_of_lt (Nat.le_of_ble_eq_true rfl))
  | .segmentWriteDone, h => absurd h (Nat.not_le_of_lt (Nat.le_of_ble_eq_true rfl))
  | .driveFail _ _ _, h => absurd h (Nat.not_le_of_lt (Nat.le_of_ble_eq_true rfl))
  | .driveReady _ _ _, h => absurd h (Nat.not_le_of_lt (Nat.le_of_ble_eq_true rfl))
  | .eqCoalesceEnd, h => absurd h (Nat.not_le_of_lt (Nat.le_of_ble_eq_true rfl))
  | .cmdDoorbell _ _ _, h => absurd h (Nat.not_le_of_lt (Nat.le_of_ble_eq_true rfl))
  | .commandFetch _, h => absurd h (Nat.not_le_of_lt (Nat.le_of_ble_eq_true rfl))
  | .replyWrite _, h => absurd h (Nat.not_le_of_lt (Nat.le_of_ble_eq_true rfl))
  | .replyAck _ _ _, h => absurd h (Nat.not_le_of_lt (Nat.le_of_ble_eq_true rfl))
  | .dumpConsWrite _ _, h => absurd h (Nat.not_le_of_lt (Nat.le_of_ble_eq_true rfl))
  | .cmdTimeout _ _, h => absurd h (Nat.not_le_of_lt (Nat.le_of_ble_eq_true rfl))
  | .identify _ _, h => absurd h (Nat.not_le_of_lt (Nat.le_of_ble_eq_true rfl))
  | .status _ _, h => absurd h (Nat.not_le_of_lt (Nat.le_of_ble_eq_true rfl))
  | .sysStateSet _ _, h => absurd h (Nat.not_le_of_lt (Nat.le_of_ble_eq_true rfl))
  | .sysSessionOpen _ _, h => absurd h (Nat.not_le_of_lt (Nat.le_of_ble_eq_true rfl))
  | .sysSessionClose _ _, h => absurd h (Nat.not_le_of_lt (Nat.le_of_ble_eq_true rfl))
  | .sysSlotRelease _ _, h => absurd h (Nat.not_le_of_lt (Nat.le_of_ble_eq_true rfl))
  | .sysRegAccess _ _, _ => rfl
  | .battenStatus _ _, h => absurd h (Nat.not_le_of_lt (Nat.le_of_ble_eq_true rfl))
  | .engStatus _ _, h => absurd h (Nat.not_le_of_lt (Nat.le_of_ble_eq_true rfl))
  | .engCfg _ _, h => absurd h (Nat.not_le_of_lt (Nat.le_of_ble_eq_true rfl))
  | .fwStage _ _, h => absurd h (Nat.not_le_of_lt (Nat.le_of_ble_eq_true rfl))
  | .fwStageDone _ _, h => absurd h (Nat.not_le_of_lt (Nat.le_of_ble_eq_true rfl))
  | .fwActivate _ _, h => absurd h (Nat.not_le_of_lt (Nat.le_of_ble_eq_true rfl))
  | .fwProbationEnd, h => absurd h (Nat.not_le_of_lt (Nat.le_of_ble_eq_true rfl))
  | .fwCommit _ _, h => absurd h (Nat.not_le_of_lt (Nat.le_of_ble_eq_true rfl))
  | .sbxLoad _ _, h => absurd h (Nat.not_le_of_lt (Nat.le_of_ble_eq_true rfl))
  | .sbxLoadDone _ _, h => absurd h (Nat.not_le_of_lt (Nat.le_of_ble_eq_true rfl))
  | .sbxCtrl _ _, h => absurd h (Nat.not_le_of_lt (Nat.le_of_ble_eq_true rfl))
  | .sbxMsg _ _ _ _, h => absurd h (Nat.not_le_of_lt (Nat.le_of_ble_eq_true rfl))
  | .battenRestart _, h => absurd h (Nat.not_le_of_lt (Nat.le_of_ble_eq_true rfl))
  | .battenTokenRx _ _ _ _, h => absurd h (Nat.not_le_of_lt (Nat.le_of_ble_eq_true rfl))
  | .battenPacketRx _ _ _ _ _, h => absurd h (Nat.not_le_of_lt (Nat.le_of_ble_eq_true rfl))
  | .enumTimeout, h => absurd h (Nat.not_le_of_lt (Nat.le_of_ble_eq_true rfl))
  | .enumRetry, h => absurd h (Nat.not_le_of_lt (Nat.le_of_ble_eq_true rfl))
  | .pcieHostReset _, h => absurd h (Nat.not_le_of_lt (Nat.le_of_ble_eq_true rfl))
  | .secStatus _ _, h => absurd h (Nat.not_le_of_lt (Nat.le_of_ble_eq_true rfl))
  | .secCerts _ _, h => absurd h (Nat.not_le_of_lt (Nat.le_of_ble_eq_true rfl))
  | .attest _ _, h => absurd h (Nat.not_le_of_lt (Nat.le_of_ble_eq_true rfl))
  | .secSessionKey _ _, h => absurd h (Nat.not_le_of_lt (Nat.le_of_ble_eq_true rfl))
  | .secNonce _ _, h => absurd h (Nat.not_le_of_lt (Nat.le_of_ble_eq_true rfl))
  | .secLifecycle _ _, h => absurd h (Nat.not_le_of_lt (Nat.le_of_ble_eq_true rfl))
  | .secCustkey _ _, h => absurd h (Nat.not_le_of_lt (Nat.le_of_ble_eq_true rfl))
  | .secReset _ _, h => absurd h (Nat.not_le_of_lt (Nat.le_of_ble_eq_true rfl))
  | .pwrStateSet _ _, h => absurd h (Nat.not_le_of_lt (Nat.le_of_ble_eq_true rfl))
  | .pwrTransitionDone _, h => absurd h (Nat.not_le_of_lt (Nat.le_of_ble_eq_true rfl))
  | .pwrStatus _ _, h => absurd h (Nat.not_le_of_lt (Nat.le_of_ble_eq_true rfl))
  | .pwrCfg _ _, h => absurd h (Nat.not_le_of_lt (Nat.le_of_ble_eq_true rfl))
  | .lifecycleReset, h => absurd h (Nat.not_le_of_lt (Nat.le_of_ble_eq_true rfl))
  | .deviceReset, h => absurd h (Nat.not_le_of_lt (Nat.le_of_ble_eq_true rfl))
  | .powerOnReset, h => absurd h (Nat.not_le_of_lt (Nat.le_of_ble_eq_true rfl))
  | .debugReset _, h => absurd h (Nat.not_le_of_lt (Nat.le_of_ble_eq_true rfl))
  | .wake, h => absurd h (Nat.not_le_of_lt (Nat.le_of_ble_eq_true rfl))
  | .porstRelease, h => absurd h (Nat.not_le_of_lt (Nat.le_of_ble_eq_true rfl))
  | .fuseReadDone, h => absurd h (Nat.not_le_of_lt (Nat.le_of_ble_eq_true rfl))
  | .keeperBoot, h => absurd h (Nat.not_le_of_lt (Nat.le_of_ble_eq_true rfl))
  | .engineImageLoaded, h => absurd h (Nat.not_le_of_lt (Nat.le_of_ble_eq_true rfl))
  | .bootReady, h => absurd h (Nat.not_le_of_lt (Nat.le_of_ble_eq_true rfl))
  | .svnRetry, h => absurd h (Nat.not_le_of_lt (Nat.le_of_ble_eq_true rfl))
  | .keeperAlarm _, h => absurd h (Nat.not_le_of_lt (Nat.le_of_ble_eq_true rfl))
  | .thermalEval _, h => absurd h (Nat.not_le_of_lt (Nat.le_of_ble_eq_true rfl))
  | .setAliasWrite _ _ _, _ => rfl
  | .clearAliasWrite _ _ _, _ => rfl
  | .lowWordRead _ _, h => absurd h (Nat.not_le_of_lt (Nat.le_of_ble_eq_true rfl))
  | .highWordRead _ _, h => absurd h (Nat.not_le_of_lt (Nat.le_of_ble_eq_true rfl))
  | .lowWordWrite _ _ _, _ => rfl
  | .highWordWrite _ _ _, _ => rfl
  | .accSelfRead _, h => absurd h (Nat.not_le_of_lt (Nat.le_of_ble_eq_true rfl))
  | .intStatClear _ _ _ _, _ => rfl
  | .sysLockSet _ _, _ => rfl
  | .eqConsWrite _ _, _ => rfl
  | .gpioEdge _ _, h => absurd h (Nat.not_le_of_lt (Nat.le_of_ble_eq_true rfl))
  | .msixUnmask _ _ _, h => absurd h (Nat.not_le_of_lt (Nat.le_of_ble_eq_true rfl))
  | .oscInActive, h => absurd h (Nat.not_le_of_lt (Nat.le_of_ble_eq_true rfl))
  | .lineQlMessageTx, h => absurd h (Nat.not_le_of_lt (Nat.le_of_ble_eq_true rfl))
  | .pcieLinkUp, h => absurd h (Nat.not_le_of_lt (Nat.le_of_ble_eq_true rfl))
  | .clientFrameIngress _ _ _, _ => (by decide +kernel : (May.of (.clientFrameIngress 0 [] [])).foot.covers Touch.execClientFrameIngress = true)
  | .clientFrameEgress _, _ => (by decide +kernel : (May.of (.clientFrameEgress 0)).foot.covers Touch.execClientFrameEgress = true)

/-- Settles O56. -/
theorem dataFrames : Obligations.DataFrames := by
  intro c s hg
  obtain ⟨e, he, hw⟩ := touches_exec (s := s) c (of_covers c hg) fun h => absurd (h.trans hg) (by decide)
  exact ⟨_, he, keeps_act hw⟩

end Sys2Proof.Machine

/-!
What a command leaves that is turned away, or that only reads: its reply (R19, R625). From it the checks of Table 17.3 and the frame of the readers.
-/
namespace Sys2Proof.Machine
open Sys2Proof

/-- The row of a Felwin command runs the command. -/
theorem exec_felwinOf {c : Instr} {op : OpDef} {h : CmdHdr} {p : List Word} {s : State} (hc : felwinOf c = some (op, h, p)) :
    exec c s = perform (felwin op h p) s := by
  cases c
  all_goals cases hc
  all_goals rfl

/-- An answer that does nothing but reply. -/
def Ans.Quiet (a : Ans) : Prop := a.eff = nop ∧ a.after = nop ∧ a.defer = false

@[simp] theorem quiet_no (st : Status) : (no st).Quiet := ⟨rfl, rfl, rfl⟩

@[simp] theorem quiet_mk (st : Status) (pay : State → List Nat) (fl : Nat) : Ans.Quiet { status := st, pay := pay, flags := fl } := ⟨rfl, rfl, rfl⟩

@[simp] theorem quiet_okP (pay : State → List Nat) : (okP nop pay).Quiet := ⟨rfl, rfl, rfl⟩

@[simp] theorem quiet_ite (c : Prop) [Decidable c] (a b : Ans) : (if c then a else b).Quiet ↔ (c → a.Quiet) ∧ (¬c → b.Quiet) := by
  split <;> simp [*]

@[simp] theorem quiet_opLtxPlanGet (h : CmdHdr) (p : List Nat) (s : State) : (opLtxPlanGet.body h p s).Quiet := by simp [opLtxPlanGet]
@[simp] theorem quiet_opLtxLaserStatus (h : CmdHdr) (p : List Nat) (s : State) : (opLtxLaserStatus.body h p s).Quiet := by simp [opLtxLaserStatus]
@[simp] theorem quiet_opLrxStatus (h : CmdHdr) (p : List Nat) (s : State) : (opLrxStatus.body h p s).Quiet := by simp [opLrxStatus]
@[simp] theorem quiet_opLrxTapsGet (h : CmdHdr) (p : List Nat) (s : State) : (opLrxTapsGet.body h p s).Quiet := by simp [opLrxTapsGet]
@[simp] theorem quiet_opLrxRplanGet (h : CmdHdr) (p : List Nat) (s : State) : (opLrxRplanGet.body h p s).Quiet := by simp [opLrxRplanGet]
@[simp] theorem quiet_opCalStatus (h : CmdHdr) (p : List Nat) (s : State) : (opCalStatus.body h p s).Quiet := by simp [opCalStatus]
@[simp] theorem quiet_opFecStatus (h : CmdHdr) (p : List Nat) (s : State) : (opFecStatus.body h p s).Quiet := by simp [opFecStatus]
@[simp] theorem quiet_opFecGeometry (h : CmdHdr) (p : List Nat) (s : State) : (opFecGeometry.body h p s).Quiet := by
  simp only [opFecGeometry]
  split <;> simp
@[simp] theorem quiet_opFrmStatus (h : CmdHdr) (p : List Nat) (s : State) : (opFrmStatus.body h p s).Quiet := by simp [opFrmStatus]
@[simp] theorem quiet_opFrmPmGet (h : CmdHdr) (p : List Nat) (s : State) : (opFrmPmGet.body h p s).Quiet := by simp [opFrmPmGet]
@[simp] theorem quiet_opFrmTtiGet (h : CmdHdr) (p : List Nat) (s : State) : (opFrmTtiGet.body h p s).Quiet := by simp [opFrmTtiGet]
@[simp] theorem quiet_opCliStatus (h : CmdHdr) (p : List Nat) (s : State) : (opCliStatus.body h p s).Quiet := by simp [opCliStatus]
@[simp] theorem quiet_opCliSlotMap (h : CmdHdr) (p : List Nat) (s : State) : (opCliSlotMap.body h p s).Quiet := by simp [opCliSlotMap]
@[simp] theorem quiet_opSrdStatus (h : CmdHdr) (p : List Nat) (s : State) : (opSrdStatus.body h p s).Quiet := by simp [opSrdStatus]
@[simp] theorem quiet_opVnrStatus (h : CmdHdr) (p : List Nat) (s : State) : (opVnrStatus.body h p s).Quiet := by simp [opVnrStatus]
@[simp] theorem quiet_opScrStatus (h : CmdHdr) (p : List Nat) (s : State) : (opScrStatus.body h p s).Quiet := by simp [opScrStatus]
@[simp] theorem quiet_opScrPeers (h : CmdHdr) (p : List Nat) (s : State) : (opScrPeers.body h p s).Quiet := by simp [opScrPeers]
@[simp] theorem quiet_opRefStatus (h : CmdHdr) (p : List Nat) (s : State) : (opRefStatus.body h p s).Quiet := by simp [opRefStatus]
@[simp] theorem quiet_opTodGet (h : CmdHdr) (p : List Nat) (s : State) : (opTodGet.body h p s).Quiet := by simp [opTodGet]
@[simp] theorem quiet_opPtpStatus (h : CmdHdr) (p : List Nat) (s : State) : (opPtpStatus.body h p s).Quiet := by simp [opPtpStatus]
@[simp] theorem quiet_opLineDelay (h : CmdHdr) (p : List Nat) (s : State) : (opLineDelay.body h p s).Quiet := by simp [opLineDelay]
@[simp] theorem quiet_opPairStatus (h : CmdHdr) (p : List Nat) (s : State) : (opPairStatus.body h p s).Quiet := by simp [opPairStatus]
@[simp] theorem quiet_opPairSpares (h : CmdHdr) (p : List Nat) (s : State) : (opPairSpares.body h p s).Quiet := by simp [opPairSpares]
@[simp] theorem quiet_opMonStatus (h : CmdHdr) (p : List Nat) (s : State) : (opMonStatus.body h p s).Quiet := by simp [opMonStatus]
@[simp] theorem quiet_opRecStatus (h : CmdHdr) (p : List Nat) (s : State) : (opRecStatus.body h p s).Quiet := by simp [opRecStatus]
@[simp] theorem quiet_opIdentify (h : CmdHdr) (p : List Nat) (s : State) : (opIdentify.body h p s).Quiet := by simp [opIdentify]
@[simp] theorem quiet_opStatus (h : CmdHdr) (p : List Nat) (s : State) : (opStatus.body h p s).Quiet := by simp [opStatus]
@[simp] theorem quiet_opBattenStatus (h : CmdHdr) (p : List Nat) (s : State) : (opBattenStatus.body h p s).Quiet := by simp [opBattenStatus]
@[simp] theorem quiet_opEngStatus (h : CmdHdr) (p : List Nat) (s : State) : (opEngStatus.body h p s).Quiet := by simp [opEngStatus]
@[simp] theorem quiet_opSecStatus (h : CmdHdr) (p : List Nat) (s : State) : (opSecStatus.body h p s).Quiet := by simp [opSecStatus]
@[simp] theorem quiet_opSecCerts (h : CmdHdr) (p : List Nat) (s : State) : (opSecCerts.body h p s).Quiet := by simp [opSecCerts]
@[simp] theorem quiet_opPwrStatus (h : CmdHdr) (p : List Nat) (s : State) : (opPwrStatus.body h p s).Quiet := by simp [opPwrStatus]
/-! ### Turned away, or answered -/

theorem answer_quiet {op : OpDef} {h : CmdHdr} {p : List Nat} {s : State} (hb : (op.body h p s).Quiet) : (op.answer h p s).Quiet := by
  simp [OpDef.answer, hb]

/-- A quiet answer leaves only its reply. -/
theorem act_quiet {a : Ans} (ha : a.Quiet) (r : Running) (s : State) : (actAndReply r a).act s = (replyTo r a.status a.flags a.pay).act s := by
  obtain ⟨heff, hafter, hdefer⟩ := ha
  simp [actAndReply, heff, hafter, hdefer]

/-- A command whose answer is quiet, and that no mate has to confirm, leaves only its reply. -/
theorem felwin_quiet {op : OpDef} {h : CmdHdr} {p : List Word} {s : State} (hq : (op.answer h (p.map (·.toNat)) s).Quiet)
    (hj : s.journals op.code = false) : OnlyReplies s ((felwin op h p).act s) := by
  simp only [felwin, felwinN, act_dyn, act_ite, hj, Bool.false_and, Bool.false_eq_true, if_false]
  split
  · exact .refl s
  · rw [act_quiet hq]
    exact onlyReplies_replyTo _ _ _ _ _

theorem journals_eq_false {s : State} {code : Nat} (h : configOps.contains code = false) : s.journals code = false := by
  simp only [State.journals, h, Bool.false_and]

/-- A reader completes with its reply alone. -/
theorem reader_completes {c : Instr} {op : OpDef} {h : CmdHdr} {p : List Word} {s : State} (hc : felwinOf c = some (op, h, p))
    (hq : ∀ h p s, (op.body h p s).Quiet) (hj : configOps.contains op.code = false) : Completes c s (OnlyReplies s) :=
  ⟨_, exec_felwinOf hc, felwin_quiet (answer_quiet (hq _ _ _)) (journals_eq_false hj)⟩

/-- Settles O49: a reader's answer does nothing, and the journal takes none of them. -/
theorem readersKeep : Obligations.ReadersKeep := by
  intro c s hc
  cases c
  all_goals cases hc
  all_goals exact reader_completes rfl (by simp) (by decide)

/-! ### The checks of Table 17.3 -/

section
variable {c : Instr} {op : OpDef} {h : CmdHdr} {p : List Word} {s : State} {st : Status}

/-- A command turned away with a status that is no acceptance leaves its reply, in its slot. -/
theorem felwin_turnedAway (hl : s.lifecycle ≠ 4) (hp : s.rd PWR_STATUS.STATE ≠ 4) (ha : op.answer h (p.map (·.toNat)) s = no st)
    (hst : st ≠ .ok ∧ st ≠ .pending ∧ st ≠ .late) :
    (felwin op h p).act s = (replyTo (runOf h op.code (p.map (·.toNat))) st 0 fun _ => []).act s := by
  obtain ⟨hok, hpend, hlate⟩ := hst
  have hno : ¬ ((no st).status = .ok ∨ (no st).status = .pending ∨ (no st).status = .late) := by simp [no, hok, hpend, hlate]
  simp only [felwin, felwinN, act_dyn, ha, hno, beq_eq_false_iff_ne.2 hl, beq_eq_false_iff_ne.2 hp, decide_false, Bool.and_false,
    Bool.false_and, Bool.or_self, Bool.false_eq_true, if_false]
  rw [act_quiet (quiet_no st)]
  rfl

/-- A command that keeps its slot (NO_HOLD not set) finds its final reply there. -/
theorem replyTo_replied (hf : h.flags.toNat % 2 = 0) (hst : st ≠ .pending) (code : Nat) (p : List Nat) (fl : Nat) (pay : State → List Nat) :
    ((replyTo (runOf h code p) st fl pay).act s).replied h st := by
  have hslots : Tab.get none ((replyTo (runOf h code p) st fl pay).act s).cmd.slots (slotKey h.ring.val h.seq.toNat) =
      some ⟨runOf h code p, some (s.mkReply (runOf h code p) st fl (pay s))⟩ := by
    simp only [replyTo, act_dyn, act_seq_cons, act_seq_nil, act_record, State.record_cmd, hst, if_false]
    rw [sendReply_slots _ _ (by simp [State.mkReply, runOf, hf]), act_whenE]
    split <;> simp [Upd.apply, runOf]
  simp [State.replied, State.slotReply, hslots, State.mkReply]

/-- A SCRAPPED device answers IDENTIFY and STATUS alone, and in PS4 none reaches it (Tables 18.9, 18.12). -/
theorem felwin_dead (hd : s.lifecycle = 4 ∧ op.code ≠ 0x0101 ∧ op.code ≠ 0x0102 ∨ s.rd PWR_STATUS.STATE = 4) : (felwin op h p).act s = s := by
  have hd' : ((s.lifecycle == 4 && op.code != 0x0101 && op.code != 0x0102) || s.rd PWR_STATUS.STATE == 4) = true := by
    simpa [and_assoc] using hd
  simp only [felwin, felwinN, act_dyn, hd', if_true, act_nop]

theorem completes_turnedAway (hc : felwinOf c = some (op, h, p)) (hf : h.flags.toNat % 2 = 0) (hl : s.lifecycle ≠ 4)
    (hp : s.rd PWR_STATUS.STATE ≠ 4) (ha : op.answer h (p.map (·.toNat)) s = no st) (hst : st ≠ .ok ∧ st ≠ .pending ∧ st ≠ .late) :
    Completes c s (fun t => t.replied h st ∧ OnlyReplies s t) := by
  refine ⟨_, exec_felwinOf hc, ?_⟩
  rw [felwin_turnedAway hl hp ha hst]
  exact ⟨replyTo_replied hf hst.2.1 .., onlyReplies_replyTo _ _ _ _ _⟩

end

/-- The device states and the power in which a command is taken (Table 17.3 rows 8 and 9), with the exception of LTX_OUTPUT in IN_SERVICE (R19). -/
def OpDef.legalIn (op : OpDef) (s : State) : Prop :=
  op.legal.contains s.dev = true ∧ (op.code ≠ 0x0207 ∨ s.dev ≠ 3) ∧ s.powered (classBlock op.code) = true

/-- Whether this unit of a pair serves the command. -/
def OpDef.servedBy (op : OpDef) (s : State) : Prop := s.paired = false ∨ s.role = 1 ∨ op.code ∉ configOps

section
variable {op : OpDef} {h : CmdHdr} {p : List Nat} {s : State}

theorem boot_passed (hb : s.dev ≠ 0 ∨ op.code ∈ bootOps) : (s.dev == 0 && !bootOps.contains op.code) = false := by
  rcases hb with hb | hb <;> simp [hb]

theorem legal_passed (hl : op.legalIn s) : op.legal.contains s.dev = true ∧ (op.code == 0x0207 && s.dev == 3 && nth p 0 != 1) = false ∧
    s.powered (classBlock op.code) = true := by
  obtain ⟨hg, hr, hp⟩ := hl
  refine ⟨hg, ?_, hp⟩
  rcases hr with hr | hr <;> simp [hr]

theorem serves_passed (hs : op.servedBy s) : (s.paired && s.role != 1 && configOps.contains op.code) = false := by
  rcases hs with hs | hs | hs <;> simp [hs]

theorem answer_of_not_booted (hb : ¬ (s.dev ≠ 0 ∨ op.code ∈ bootOps)) : op.answer h p s = no .busyBoot := by
  simp only [not_or, ne_eq, not_not] at hb
  simp [OpDef.answer, hb]

variable (hb : s.dev ≠ 0 ∨ op.code ∈ bootOps)
include hb

theorem answer_of_no_session (hs : ¬ s.sessionOpen h.session.toNat = true) : op.answer h p s = no .auth := by
  simp only [OpDef.answer, boot_passed hb, Bool.false_eq_true, if_false, Bool.eq_false_of_not_eq_true hs, Bool.not_false, if_true]

variable (hs : s.sessionOpen h.session.toNat = true)
include hs

theorem answer_of_bad_length (hl : ¬ op.lenOk p.length = true) : op.answer h p s = no .badLength := by
  simp only [OpDef.answer, boot_passed hb, hs, Bool.eq_false_of_not_eq_true hl, Bool.not_true, Bool.not_false, Bool.false_eq_true, if_false, if_true]

variable (hl : op.lenOk p.length = true)
include hl

theorem answer_of_illegal (hc : op.code ≠ 0x0207) (hg : ¬ op.legalIn s) : op.answer h p s = no .state := by
  simp only [OpDef.legalIn, hc, ne_eq, not_false_eq_true, true_or, true_and, not_and] at hg
  simp only [OpDef.answer, boot_passed hb, hs, hl, beq_eq_false_iff_ne.2 hc, Bool.false_and, Bool.not_true, Bool.false_eq_true, if_false]
  split
  · rfl
  next hn => rw [if_pos (by simpa using hg (by simpa using hn))]

variable (hg : op.legalIn s)
include hg

theorem answer_of_unserved (hr : ¬ op.servedBy s) : op.answer h p s = no .state := by
  obtain ⟨h1, h2, h3⟩ := legal_passed (p := p) hg
  simp only [OpDef.servedBy, not_or, not_not] at hr
  have hs' : (s.paired && s.role != 1 && configOps.contains op.code) = true := by simp [hr]
  simp only [OpDef.answer, boot_passed hb, hs, hl, h1, h2, h3, hs', Bool.not_true, Bool.false_eq_true, if_false, if_true]

variable (hr : op.servedBy s)
include hr

theorem answer_of_flags (hf : 1 < h.flags.toNat) : op.answer h p s = no .badParam := by
  obtain ⟨h1, h2, h3⟩ := legal_passed (p := p) hg
  simp only [OpDef.answer, boot_passed hb, hs, hl, h1, h2, h3, serves_passed hr, hf, Bool.not_true, Bool.false_eq_true, if_false, if_true]

theorem answer_of_no_keeper (hf : h.flags = 0) (ha : s.on SEC_STATUS.KEEPER_ALARM = true) (hk : needsKeeper op.code = true) :
    op.answer h p s = no .hwFault := by
  obtain ⟨h1, h2, h3⟩ := legal_passed (p := p) hg
  simp only [OpDef.answer, boot_passed hb, hs, hl, h1, h2, h3, serves_passed hr, hf, ha, hk, Bool.not_true, Bool.false_eq_true, if_false, Bool.and_self, if_true]
  rfl

end

/-- Settles O48: each check of Table 17.3 turns the command away once the earlier ones have let it through. -/
theorem commandChecks : Obligations.CommandChecks := by
  intro c op h p hc s hf
  have hlen : p.length = (p.map (·.toNat)).length := by simp
  have away := fun hl hp {st} (ha : op.answer h (p.map (·.toNat)) s = no st) => completes_turnedAway (st := st) hc hf hl hp ha
  refine ⟨fun hd => ⟨_, exec_felwinOf hc, ?_⟩, fun hl hp => ⟨?_, ?_, ?_, ?_, ?_, ?_, ?_⟩⟩
  · exact felwin_dead hd
  · exact fun hb => away hl hp (answer_of_not_booted hb) (by decide)
  · exact fun hb hs => away hl hp (answer_of_no_session hb hs) (by decide)
  · exact fun hb hs hn => away hl hp (answer_of_bad_length hb hs (hlen ▸ hn)) (by decide)
  · exact fun hb hs hn hcode hg => away hl hp (answer_of_illegal hb hs (hlen ▸ hn) hcode hg) (by decide)
  · exact fun hb hs hn hg hr => away hl hp (answer_of_unserved hb hs (hlen ▸ hn) hg hr) (by decide)
  · exact fun hb hs hn hg hr hfl => away hl hp (answer_of_flags hb hs (hlen ▸ hn) hg hr hfl) (by decide)
  · exact fun hb hs hn hg hr h0 ha hk => away hl hp (answer_of_no_keeper hb hs (hlen ▸ hn) hg hr h0 ha hk) (by decide)

end Sys2Proof.Machine

/-!
The intake: a packet that passes the checks of Table 17.3 runs the command of its opcode.
-/
namespace Sys2Proof.Machine
open Sys2Proof

theorem opTable_codes_nodup : (opTable.map (·.code)).Nodup := by decide +kernel

/-- The table has one row for each opcode. -/
theorem find_opTable {op : OpDef} (h : op ∈ opTable) : opTable.find? (fun o => o.code == op.code) = some op := by
  obtain ⟨o, ho⟩ : ∃ o, opTable.find? (fun o => o.code == op.code) = some o :=
    Option.isSome_iff_exists.1 (List.find?_isSome.2 ⟨op, h, beq_self_eq_true _⟩)
  have hcode : o.code = op.code := by simpa using List.find?_some ho
  rw [ho, List.inj_on_of_nodup_map opTable_codes_nodup (List.mem_of_find?_eq_some ho) h hcode]

/-- Past rows 5 and 6 of Table 17.3 the interpreter runs the row of the opcode. -/
theorem act_acceptNew {op : OpDef} (hop : op ∈ opTable) {s : State} (hdev : s.dev ≠ 0) (hps : s.rd PWR_STATUS.STATE ≠ 4) (hlife : s.lifecycle ≠ 4)
    (h : CmdHdr) (p : List Nat) : (acceptNew op.code h p).act s = (felwinN op h p).act s := by
  simp only [acceptNew, act_dyn, find_opTable hop, beq_eq_false_iff_ne.2 hdev, beq_eq_false_iff_ne.2 hps, beq_eq_false_iff_ne.2 hlife,
    Bool.false_and, Bool.or_self, Bool.false_eq_true, if_false]

/-- Settles O40: a good packet for this device, new to its slot, comes to `acceptNew`. -/
theorem packetRunsCommand : Obligations.PacketRunsCommand := by
  intro op hop ring ws s hcode hlen hcrc haddr hdev hps hlife hslot
  rw [acceptCmd, act_dyn]
  simp only [hcrc, haddr, bne_self_eq_false, Bool.or_false, decide_eq_true_eq, not_lt.2 hlen, if_false, Bool.false_eq_true]
  have hseq : (BitVec.ofNat 16 (nth ws 0 / 65536)).toNat = nth ws 0 / 65536 % 65536 := by simp
  rw [hseq, hslot, hcode]
  exact act_acceptNew hop hdev hps hlife _ _

end Sys2Proof.Machine

/-!
What the resets leave (R663), and why two statements about them fail: each speaks of places that the register map does not have.
-/
namespace Sys2Proof.Machine
open Sys2Proof

/-- A field at a byte of SEC_RESET_CAUSE where no register starts. -/
def strayFld : Fld := ⟨0x1000005, 0, 8, 0, .rw, fun _ => 0, [], false⟩

/-- A state with a device reset due and a value stored at that byte. -/
def strayState : State := { regs := [(strayFld.key 0, 1)], sec := { resetDue := some 2 } }

/-- A device reset leaves all four bytes of an always-on register, whatever is stored there. -/
theorem deviceReset_keeps_stray : ((deviceReset 2).act strayState).rd strayFld = 1 := by decide +kernel

/-- Refutes O60: the always-on registers are kept by their bytes, so a device reset keeps a value at 0x1000005, which is not among the offsets that
`Cleared` lets stand. -/
theorem not_resetFrames : ¬ Obligations.ResetFrames := by
  rintro ⟨-, hreset, -⟩
  obtain ⟨t, ht, hclear, -⟩ := hreset .deviceReset 2 strayState (by simp) rfl
  have hrun : exec .deviceReset strayState = .next ((deviceReset 2).act strayState) := rfl
  rw [hrun] at ht
  injection ht with ht
  have hzero := hclear.regs strayFld 0 (by decide) (by decide)
  rw [← ht, deviceReset_keeps_stray] at hzero
  exact absurd hzero (by decide)

/-- A state with a count at an index past the last counter. -/
def strayCount : State := { cnts := [(4096, 1)] }

theorem powerOnReset_keeps_stray_count : ((clearAll true).act strayCount).cnts = [(4096, 1)] := by decide +kernel

/-- Refutes O42: a power-on reset clears the 4,096 counters, not the table they stand in, so a count at index 4,096 stays there. -/
theorem not_bootEvents : ¬ Obligations.BootEvents := by
  rintro ⟨-, -, hpor, -⟩
  obtain ⟨t, ht, -, -, -, -, -, -, hcnts, -⟩ := hpor strayCount
  have hrun : exec .powerOnReset strayCount = .next ((clearAll true).act strayCount) := rfl
  rw [hrun] at ht
  injection ht with ht
  rw [← ht, powerOnReset_keeps_stray_count] at hcnts
  exact absurd hcnts (by decide)

end Sys2Proof.Machine

/-!
Reading the state that an effect leaves: what a footprint says of each part (`Keeps.rd`, `Keeps.ltx`, …), what a reply leaves, and how a statement about a
command or a register write comes down to its effect.
-/
namespace Sys2Proof.Machine
open Sys2Proof

/-! ### Fields that lie apart -/

/-- Whether no instance of `g` has the key of `f` of instance `i`: bits, width or the register's place differ. -/
def Fld.clear (f : Fld) (i : Nat) (g : Fld) : Bool :=
  decide (f.width < 128) && decide (g.width < 128) && decide (f.lo < 64) && decide (g.lo < 64) &&
  (f.lo != g.lo || f.width != g.width ||
    (if g.stride = 0 then f.off + i * f.stride != g.off
      else decide (f.off + i * f.stride < g.off) || (f.off + i * f.stride) % g.stride != g.off % g.stride))

theorem Fld.key_inj {f g : Fld} {i j : Nat} (hf : f.width < 128) (hg : g.width < 128) (hfl : f.lo < 64) (hgl : g.lo < 64) (h : f.key i = g.key j) :
    f.lo = g.lo ∧ f.width = g.width ∧ f.off + i * f.stride = g.off + j * g.stride := by
  simp only [Fld.key] at h
  generalize f.off + i * f.stride = a at *
  generalize g.off + j * g.stride = b at *
  omega

theorem Fld.key_ne_of_clear {f g : Fld} {i : Nat} (h : f.clear i g = true) (j : Nat) : f.key i ≠ g.key j := by
  simp only [Fld.clear, Bool.and_eq_true, decide_eq_true_eq] at h
  obtain ⟨⟨⟨⟨hf, hg⟩, hfl⟩, hgl⟩, h⟩ := h
  intro hk
  obtain ⟨hlo, hw, hoff⟩ := Fld.key_inj hf hg hfl hgl hk
  split at h <;> rename_i hs
  · simp [hlo, hw, hoff, hs] at h
  · have hmod : (g.off + j * g.stride) % g.stride = g.off % g.stride := by simp
    simp [hlo, hw, hoff, hmod] at h

/-- Whether no field of the list has the key of `f` of instance `i`. -/
def Fld.clearOf (f : Fld) (i : Nat) (gs : List Fld) : Bool := gs.all (f.clear i)

theorem Fld.key_ne_of_clearOf {f : Fld} {i : Nat} {gs : List Fld} (h : f.clearOf i gs = true) : ∀ g ∈ gs, ∀ j, f.key i ≠ g.key j :=
  fun g hg => Fld.key_ne_of_clear (List.all_eq_true.1 h g hg)

/-- Whether no instance of `f` has the key of an instance of `g`: bits or width differ, the one array begins past the other register, or their
registers alternate. -/
def Fld.apart (f g : Fld) : Bool :=
  decide (f.width < 128) && decide (g.width < 128) && decide (f.lo < 64) && decide (g.lo < 64) &&
  (f.lo != g.lo || f.width != g.width || (g.stride == 0 && decide (g.off < f.off)) || (f.stride == 0 && decide (f.off < g.off)) ||
    f.off % Nat.gcd f.stride g.stride != g.off % Nat.gcd f.stride g.stride)

theorem Fld.key_ne_of_apart {f g : Fld} (h : f.apart g = true) (i j : Nat) : f.key i ≠ g.key j := by
  simp only [Fld.apart, Bool.and_eq_true, Bool.or_eq_true, decide_eq_true_eq, bne_iff_ne, beq_iff_eq] at h
  obtain ⟨⟨⟨⟨hf, hg⟩, hfl⟩, hgl⟩, h⟩ := h
  intro hk
  obtain ⟨hlo, hw, hoff⟩ := Fld.key_inj hf hg hfl hgl hk
  rcases h with (((h | h) | ⟨hs, h⟩) | ⟨hs, h⟩) | h
  · exact h hlo
  · exact h hw
  · rw [hs] at hoff
    omega
  · rw [hs] at hoff
    omega
  · have hmod : ∀ a k d n : Nat, n ∣ d → (a + k * d) % n = a % n := fun a k d n hd => by
      obtain ⟨c, rfl⟩ := hd
      rw [show a + k * (n * c) = a + n * (k * c) by ring, Nat.add_mul_mod_self_left]
    exact h (by rw [← hmod f.off i _ _ (Nat.gcd_dvd_left ..), hoff, hmod _ _ _ _ (Nat.gcd_dvd_right ..)])

/-- Whether no field of the list has a key of `f`, whatever the instances. -/
def Fld.apartOf (f : Fld) (gs : List Fld) : Bool := gs.all f.apart

theorem Fld.key_ne_of_apartOf {f : Fld} {gs : List Fld} (h : f.apartOf gs = true) (i : Nat) : ∀ g ∈ gs, ∀ j, f.key i ≠ g.key j :=
  fun g hg => Fld.key_ne_of_apart (List.all_eq_true.1 h g hg) i

/-- The fields that raising `e` may write. -/
def Ev.flds (e : Ev) : List Fld := [e.stat, MSIX_PBA.ALL, SYS_EQ_STAT.LOST, SYS_INT_STAT.ALL, SYS_EQ_PROD.ALL, SYS_EQ_STAT.LEVEL, OBS_REC_RSEQ.ALL]

theorem raiseKeys_eq (e : Ev) : raiseKeys e = e.flds.map (·.key 0) := rfl

theorem not_mem_raiseKeys {f : Fld} {e : Ev} (h : f.apartOf e.flds = true) (i : Nat) : f.key i ∉ raiseKeys e := by
  rw [raiseKeys_eq, List.mem_map]
  rintro ⟨g, hg, hk⟩
  exact Fld.key_ne_of_apartOf h i g hg 0 hk.symm

/-! ### What an update of a part gives -/

section
variable (s : State)

theorem apply_fuse (g : Fuses → Fuses) : (Upd.fuse g).apply s = { s with fuse := g s.fuse } := Eq.trans rfl rfl
theorem apply_sys (g : SysSt → SysSt) : (Upd.sys g).apply s = { s with sys := g s.sys } := Eq.trans rfl rfl
theorem apply_obs (g : ObsSt → ObsSt) : (Upd.obs g).apply s = { s with obs := g s.obs } := Eq.trans rfl rfl
theorem apply_cmd (g : CmdSt → CmdSt) : (Upd.cmd g).apply s = { s with cmd := g s.cmd } := Eq.trans rfl rfl
theorem apply_eng (g : EngSt → EngSt) : (Upd.eng g).apply s = { s with eng := g s.eng } := Eq.trans rfl rfl
theorem apply_tod (g : TodSt → TodSt) : (Upd.tod g).apply s = { s with tod := g s.tod } := Eq.trans rfl rfl
theorem apply_pair (g : PairSt → PairSt) : (Upd.pair g).apply s = { s with pair := g s.pair } := Eq.trans rfl rfl
theorem apply_sec (g : SecSt → SecSt) : (Upd.sec g).apply s = { s with sec := g s.sec } := Eq.trans rfl rfl
theorem apply_pwr (g : PwrSt → PwrSt) : (Upd.pwr g).apply s = { s with pwr := g s.pwr } := Eq.trans rfl rfl
theorem apply_ltx (g : LtxSt → LtxSt) : (Upd.ltx g).apply s = { s with ltx := g s.ltx } := Eq.trans rfl rfl
theorem apply_lrx (g : LrxSt → LrxSt) : (Upd.lrx g).apply s = { s with lrx := g s.lrx } := Eq.trans rfl rfl
theorem apply_adapt (g : AdaptSt → AdaptSt) : (Upd.adapt g).apply s = { s with adapt := g s.adapt } := Eq.trans rfl rfl
theorem apply_cnv (g : CnvSt → CnvSt) : (Upd.cnv g).apply s = { s with cnv := g s.cnv } := Eq.trans rfl rfl
theorem apply_fec (g : FecSt → FecSt) : (Upd.fec g).apply s = { s with fec := g s.fec } := Eq.trans rfl rfl
theorem apply_cli (g : CliSt → CliSt) : (Upd.cli g).apply s = { s with cli := g s.cli } := Eq.trans rfl rfl
theorem apply_vnr (g : VnrSt → VnrSt) : (Upd.vnr g).apply s = { s with vnr := g s.vnr } := Eq.trans rfl rfl
theorem apply_srd (g : SrdSt → SrdSt) : (Upd.srd g).apply s = { s with srd := g s.srd } := Eq.trans rfl rfl
theorem apply_frm (g : FrmSt → FrmSt) : (Upd.frm g).apply s = { s with frm := g s.frm } := Eq.trans rfl rfl
theorem apply_scr (g : ScrSt → ScrSt) : (Upd.scr g).apply s = { s with scr := g s.scr } := Eq.trans rfl rfl
theorem apply_ref (g : RefSt → RefSt) : (Upd.ref g).apply s = { s with ref := g s.ref } := Eq.trans rfl rfl
theorem apply_mon (g : MonSt → MonSt) : (Upd.mon g).apply s = { s with mon := g s.mon } := Eq.trans rfl rfl
theorem apply_put (f : Fld) (i v : Nat) : (Upd.put f i v).apply s = s.wr f i v := Eq.trans rfl rfl
theorem apply_raise (e : Ev) (p : List Nat) : (Upd.raise e p).apply s = s.raise e p := Eq.trans rfl rfl
theorem apply_emit (x : Output) : (Upd.emit x).apply s = { s with out := x :: s.out } := Eq.trans rfl rfl
theorem apply_drawn : Upd.drawn.apply s = { s with draws := s.draws + 1 } := Eq.trans rfl rfl

end

/-! ### Reading through a change of a part -/

section
variable {x0 : List Instr} {x1 : Tab Nat} {x2 : Tab Nat} {x3 : Tab Nat} {x4 : Tab Nat} {x5 : Tab Nat} {x6 : Nat} {x7 : List Output} {x8 : Nat} {x9 : Nat} {x10 : Fuses} {x11 : SysSt} {x12 : ObsSt} {x13 : CmdSt} {x14 : EngSt} {x15 : TodSt} {x16 : PairSt} {x17 : SecSt} {x18 : PwrSt} {x19 : LtxSt} {x20 : LrxSt} {x21 : AdaptSt} {x22 : CnvSt} {x23 : FecSt} {x24 : FrmSt} {x25 : CliSt} {x26 : VnrSt} {x27 : SrdSt} {x28 : ScrSt} {x29 : RefSt} {x30 : MonSt}

/-- A state that has another's registers reads as it does. -/
theorem rd_mk (s : State) (f : Fld) (i : Nat) : (State.mk x0 s.regs x2 x3 x4 x5 x6 x7 x8 x9 x10 x11 x12 x13 x14 x15 x16 x17 x18 x19 x20 x21 x22 x23 x24 x25 x26 x27 x28 x29 x30).rd f i = s.rd f i := Eq.trans rfl rfl

theorem on_mk (s : State) (f : Fld) (i : Nat) : (State.mk x0 s.regs x2 x3 x4 x5 x6 x7 x8 x9 x10 x11 x12 x13 x14 x15 x16 x17 x18 x19 x20 x21 x22 x23 x24 x25 x26 x27 x28 x29 x30).on f i = s.on f i := Eq.trans rfl rfl

theorem cnt_mk (s : State) (j : Nat) : (State.mk x0 x1 s.cnts x3 x4 x5 x6 x7 x8 x9 x10 x11 x12 x13 x14 x15 x16 x17 x18 x19 x20 x21 x22 x23 x24 x25 x26 x27 x28 x29 x30).cnt j = s.cnt j := Eq.trans rfl rfl

end

theorem rd_ite (c : Prop) [Decidable c] (a b : State) (f : Fld) (i : Nat) : (if c then a else b).rd f i = if c then a.rd f i else b.rd f i := by
  split <;> rfl

theorem cnt_ite_state (c : Prop) [Decidable c] (a b : State) (j : Nat) : (if c then a else b).cnt j = if c then a.cnt j else b.cnt j := by
  split <;> rfl

/-! ### Rules that evaluate an effect and read what it leaves

Each a conjunction of equations, for `simp only`. They are no `rfl` rules: one that the kernel had to check by unfolding would unfold the whole effect. -/

/-- The state that an effect's parts leave. -/
theorem act_rules : (∀ (g : State → Eff) (s : State), (dyn g).act s = (g s).act s) ∧ (∀ s, nop.act s = s) ∧ (∀ (e : Eff) es s, (seqE (e :: es)).act s = (seqE es).act (e.act s)) ∧
    (∀ s, (seqE []).act s = s) ∧ (∀ (c : Bool) e s, (whenE c e).act s = if c then e.act s else s) ∧
    (∀ (c : Prop) [Decidable c] (a b : Eff) s, (if c then a else b).act s = if c then a.act s else b.act s) ∧
    (∀ (u : Upd) s, (upd u).act s = u.apply s) ∧ (∀ f v i s, (put f v i).act s = s.wr f i v) ∧ (∀ f z i s, (putI f z i).act s = s.wr f i (f.pat z)) ∧
    (∀ f b i s, (putB f b i).act s = s.wr f i (b2n b)) ∧ (∀ e p s, (raise e p).act s = s.raise e p) ∧ (∀ o s, (emit o).act s = { s with out := o :: s.out }) ∧
    (∀ f n i s, (bump f n i).act s = s.wr f i (sat (2 ^ f.width - 1) (s.rd f i + n))) ∧ (∀ f b s, (stat f b).act s = s.setStat f (2 ^ b)) ∧
    (∀ j n s, (count j n).act s = s.count j n) ∧ (∀ t b s, (record t b).act s = s.record t 0 b) ∧ (∀ e i it s, (occur e i it).act s = s.occur e i false it) ∧
    (∀ e i it s, (occurMin e i it).act s = s.occur e i true it) ∧ (∀ s, drawn.act s = { s with draws := s.draws + 1 }) :=
  ⟨act_dyn, act_nop, act_seq_cons, act_seq_nil, act_whenE, fun c _ => act_ite c, act_upd, act_put, act_putI, act_putB, act_raise, act_emit, act_bump, act_stat, act_count,
    act_record, act_occur, act_occurMin, act_drawn⟩

/-- The state that an update of a part leaves. -/
theorem upd_rules : (∀ g s, (Upd.fuse g).apply s = { s with fuse := g s.fuse }) ∧ (∀ g s, (Upd.sys g).apply s = { s with sys := g s.sys }) ∧ (∀ g s, (Upd.obs g).apply s = { s with obs := g s.obs }) ∧ (∀ g s, (Upd.cmd g).apply s = { s with cmd := g s.cmd }) ∧ (∀ g s, (Upd.eng g).apply s = { s with eng := g s.eng }) ∧ (∀ g s, (Upd.tod g).apply s = { s with tod := g s.tod }) ∧ (∀ g s, (Upd.pair g).apply s = { s with pair := g s.pair }) ∧ (∀ g s, (Upd.sec g).apply s = { s with sec := g s.sec }) ∧ (∀ g s, (Upd.pwr g).apply s = { s with pwr := g s.pwr }) ∧ (∀ g s, (Upd.ltx g).apply s = { s with ltx := g s.ltx }) ∧ (∀ g s, (Upd.lrx g).apply s = { s with lrx := g s.lrx }) ∧ (∀ g s, (Upd.adapt g).apply s = { s with adapt := g s.adapt }) ∧ (∀ g s, (Upd.cnv g).apply s = { s with cnv := g s.cnv }) ∧ (∀ g s, (Upd.fec g).apply s = { s with fec := g s.fec }) ∧ (∀ g s, (Upd.cli g).apply s = { s with cli := g s.cli }) ∧ (∀ g s, (Upd.vnr g).apply s = { s with vnr := g s.vnr }) ∧ (∀ g s, (Upd.srd g).apply s = { s with srd := g s.srd }) ∧ (∀ g s, (Upd.frm g).apply s = { s with frm := g s.frm }) ∧ (∀ g s, (Upd.scr g).apply s = { s with scr := g s.scr }) ∧ (∀ g s, (Upd.ref g).apply s = { s with ref := g s.ref }) ∧ (∀ g s, (Upd.mon g).apply s = { s with mon := g s.mon }) :=
  ⟨fun g s => apply_fuse s g, fun g s => apply_sys s g, fun g s => apply_obs s g, fun g s => apply_cmd s g, fun g s => apply_eng s g, fun g s => apply_tod s g, fun g s => apply_pair s g, fun g s => apply_sec s g, fun g s => apply_pwr s g, fun g s => apply_ltx s g, fun g s => apply_lrx s g, fun g s => apply_adapt s g, fun g s => apply_cnv s g, fun g s => apply_fec s g, fun g s => apply_cli s g, fun g s => apply_vnr s g, fun g s => apply_srd s g, fun g s => apply_frm s g, fun g s => apply_scr s g, fun g s => apply_ref s g, fun g s => apply_mon s g⟩

/-- What a field reads after an operation on another place. -/
theorem rd_rules : (∀ (s : State) (f g : Fld) i j v, f.key i ≠ g.key j → (s.wr g j v).rd f i = s.rd f i) ∧ (∀ (s : State) f i v, (s.wr f i v).rd f i = v % 2 ^ f.width) ∧
    (∀ (s : State) e p f i, f.key i ∉ raiseKeys e → (s.raise e p).rd f i = s.rd f i) ∧
    (∀ (c : Prop) [Decidable c] (a b : State) f i, (if c then a else b).rd f i = if c then a.rd f i else b.rd f i) ∧
    (∀ (s : State) g m f i, f.key i ≠ g.key 0 → f.key i ≠ MSIX_PBA.ALL.key 0 → (s.setStat g m).rd f i = s.rd f i) ∧
    (∀ (s : State) j n f i, (s.count j n).rd f i = s.rd f i) ∧ (∀ (s : State) e k m it f i, (s.occur e k m it).rd f i = s.rd f i) ∧
    (∀ (s : State) ty fl b f i, f.key i ≠ OBS_REC_RSEQ.ALL.key 0 → (s.record ty fl b).rd f i = s.rd f i) :=
  ⟨rd_wr_ne, rd_wr_self, rd_raise, fun c _ => rd_ite c, rd_setStat, rd_count, fun _ _ _ _ _ _ _ => rfl, rd_record⟩

/-- Whether a bit is set after an operation on another place. -/
theorem on_rules : (∀ (s : State) (f g : Fld) i j v, f.key i ≠ g.key j → (s.wr g j v).on f i = s.on f i) ∧ (∀ (s : State) f i v, (s.wr f i v).on f i = (v % 2 ^ f.width == 1)) ∧
    (∀ (s : State) e p f i, f.key i ∉ raiseKeys e → (s.raise e p).on f i = s.on f i) ∧
    (∀ (c : Prop) [Decidable c] (a b : State) f i, (if c then a else b).on f i = if c then a.on f i else b.on f i) ∧
    (∀ (s : State) g m f i, f.key i ≠ g.key 0 → f.key i ≠ MSIX_PBA.ALL.key 0 → (s.setStat g m).on f i = s.on f i) ∧
    (∀ (s : State) j n f i, (s.count j n).on f i = s.on f i) ∧ (∀ (s : State) e k m it f i, (s.occur e k m it).on f i = s.on f i) ∧
    (∀ (s : State) ty fl b f i, f.key i ≠ OBS_REC_RSEQ.ALL.key 0 → (s.record ty fl b).on f i = s.on f i) := by
  refine ⟨?_, ?_, ?_, ?_, ?_, ?_, ?_, ?_⟩ <;> intros
  case refine_4 => split <;> rfl
  case refine_7 => rfl
  all_goals simp only [State.on]
  · rw [rd_wr_ne _ _ _ _ _ _ ‹_›]
  · rw [rd_wr_self]
  · rw [rd_raise _ _ _ _ _ ‹_›]
  · rw [rd_setStat _ _ _ _ _ ‹_› ‹_›]
  · rw [rd_count]
  · rw [rd_record _ _ _ _ _ _ ‹_›]

/-- What a field reads, whatever its instance, after an operation on a place apart. -/
theorem rd_any_rules : (∀ (s : State) (f g : Fld) i j v, f.apart g = true → (s.wr g j v).rd f i = s.rd f i) ∧ (∀ (s : State) f i v, (s.wr f i v).rd f i = v % 2 ^ f.width) ∧
    (∀ (s : State) e p f i, f.apartOf e.flds = true → (s.raise e p).rd f i = s.rd f i) ∧
    (∀ (c : Prop) [Decidable c] (a b : State) f i, (if c then a else b).rd f i = if c then a.rd f i else b.rd f i) ∧
    (∀ (s : State) g m f i, f.apart g = true → f.apart MSIX_PBA.ALL = true → (s.setStat g m).rd f i = s.rd f i) ∧
    (∀ (s : State) j n f i, (s.count j n).rd f i = s.rd f i) ∧ (∀ (s : State) e k m it f i, (s.occur e k m it).rd f i = s.rd f i) ∧
    (∀ (s : State) ty fl b f i, f.apart OBS_REC_RSEQ.ALL = true → (s.record ty fl b).rd f i = s.rd f i) :=
  ⟨fun _ _ _ _ _ _ h => rd_wr_ne _ _ _ _ _ _ (Fld.key_ne_of_apart h _ _), rd_wr_self, fun _ _ _ _ _ h => rd_raise _ _ _ _ _ (not_mem_raiseKeys h _), fun c _ => rd_ite c,
    fun _ _ _ _ _ h h' => rd_setStat _ _ _ _ _ (Fld.key_ne_of_apart h _ _) (Fld.key_ne_of_apart h' _ _), rd_count, fun _ _ _ _ _ _ _ => rfl,
    fun _ _ _ _ _ _ h => rd_record _ _ _ _ _ _ (Fld.key_ne_of_apart h _ _)⟩

/-- Whether a bit is set, whatever its instance, after an operation on a place apart. -/
theorem on_any_rules : (∀ (s : State) (f g : Fld) i j v, f.apart g = true → (s.wr g j v).on f i = s.on f i) ∧ (∀ (s : State) f i v, (s.wr f i v).on f i = (v % 2 ^ f.width == 1)) ∧
    (∀ (s : State) e p f i, f.apartOf e.flds = true → (s.raise e p).on f i = s.on f i) ∧
    (∀ (c : Prop) [Decidable c] (a b : State) f i, (if c then a else b).on f i = if c then a.on f i else b.on f i) ∧
    (∀ (s : State) g m f i, f.apart g = true → f.apart MSIX_PBA.ALL = true → (s.setStat g m).on f i = s.on f i) ∧
    (∀ (s : State) j n f i, (s.count j n).on f i = s.on f i) ∧ (∀ (s : State) e k m it f i, (s.occur e k m it).on f i = s.on f i) ∧
    (∀ (s : State) ty fl b f i, f.apart OBS_REC_RSEQ.ALL = true → (s.record ty fl b).on f i = s.on f i) := by
  obtain ⟨hwr, hself, hraise, hite, hset, hcount, hoccur, hrec⟩ := on_rules
  exact ⟨fun _ _ _ _ _ _ h => hwr _ _ _ _ _ _ (Fld.key_ne_of_apart h _ _), hself, fun _ _ _ _ _ h => hraise _ _ _ _ _ (not_mem_raiseKeys h _), hite,
    fun _ _ _ _ _ h h' => hset _ _ _ _ _ (Fld.key_ne_of_apart h _ _) (Fld.key_ne_of_apart h' _ _), hcount, hoccur,
    fun _ _ _ _ _ _ h => hrec _ _ _ _ _ _ (Fld.key_ne_of_apart h _ _)⟩

/-! Each part through the operations that leave it. -/

theorem fuse_rules : (∀ (s : State) f i v, (s.wr f i v).fuse = s.fuse) ∧ (∀ (s : State) e pl, (s.raise e pl).fuse = s.fuse) ∧ (∀ (s : State) f m, (s.setStat f m).fuse = s.fuse) ∧
    (∀ (s : State) j n, (s.count j n).fuse = s.fuse) ∧ (∀ (s : State) ty fl b, (s.record ty fl b).fuse = s.fuse) ∧ (∀ (s : State) e i m it, (s.occur e i m it).fuse = s.fuse) ∧
    (∀ (c : Prop) [Decidable c] (a b : State), (if c then a else b).fuse = if c then a.fuse else b.fuse) :=
  ⟨State.wr_fuse, State.raise_fuse, State.setStat_fuse, State.count_fuse, State.record_fuse, State.occur_fuse, fun c _ a b => by split <;> rfl⟩

theorem cmd_rules : (∀ (s : State) f i v, (s.wr f i v).cmd = s.cmd) ∧ (∀ (s : State) e pl, (s.raise e pl).cmd = s.cmd) ∧ (∀ (s : State) f m, (s.setStat f m).cmd = s.cmd) ∧
    (∀ (s : State) j n, (s.count j n).cmd = s.cmd) ∧ (∀ (s : State) ty fl b, (s.record ty fl b).cmd = s.cmd) ∧ (∀ (s : State) e i m it, (s.occur e i m it).cmd = s.cmd) ∧
    (∀ (c : Prop) [Decidable c] (a b : State), (if c then a else b).cmd = if c then a.cmd else b.cmd) :=
  ⟨State.wr_cmd, State.raise_cmd, State.setStat_cmd, State.count_cmd, State.record_cmd, State.occur_cmd, fun c _ a b => by split <;> rfl⟩

theorem eng_rules : (∀ (s : State) f i v, (s.wr f i v).eng = s.eng) ∧ (∀ (s : State) e pl, (s.raise e pl).eng = s.eng) ∧ (∀ (s : State) f m, (s.setStat f m).eng = s.eng) ∧
    (∀ (s : State) j n, (s.count j n).eng = s.eng) ∧ (∀ (s : State) ty fl b, (s.record ty fl b).eng = s.eng) ∧ (∀ (s : State) e i m it, (s.occur e i m it).eng = s.eng) ∧
    (∀ (c : Prop) [Decidable c] (a b : State), (if c then a else b).eng = if c then a.eng else b.eng) :=
  ⟨State.wr_eng, State.raise_eng, State.setStat_eng, State.count_eng, State.record_eng, State.occur_eng, fun c _ a b => by split <;> rfl⟩

theorem tod_rules : (∀ (s : State) f i v, (s.wr f i v).tod = s.tod) ∧ (∀ (s : State) e pl, (s.raise e pl).tod = s.tod) ∧ (∀ (s : State) f m, (s.setStat f m).tod = s.tod) ∧
    (∀ (s : State) j n, (s.count j n).tod = s.tod) ∧ (∀ (s : State) ty fl b, (s.record ty fl b).tod = s.tod) ∧ (∀ (s : State) e i m it, (s.occur e i m it).tod = s.tod) ∧
    (∀ (c : Prop) [Decidable c] (a b : State), (if c then a else b).tod = if c then a.tod else b.tod) :=
  ⟨State.wr_tod, State.raise_tod, State.setStat_tod, State.count_tod, State.record_tod, State.occur_tod, fun c _ a b => by split <;> rfl⟩

theorem pair_rules : (∀ (s : State) f i v, (s.wr f i v).pair = s.pair) ∧ (∀ (s : State) e pl, (s.raise e pl).pair = s.pair) ∧ (∀ (s : State) f m, (s.setStat f m).pair = s.pair) ∧
    (∀ (s : State) j n, (s.count j n).pair = s.pair) ∧ (∀ (s : State) ty fl b, (s.record ty fl b).pair = s.pair) ∧ (∀ (s : State) e i m it, (s.occur e i m it).pair = s.pair) ∧
    (∀ (c : Prop) [Decidable c] (a b : State), (if c then a else b).pair = if c then a.pair else b.pair) :=
  ⟨State.wr_pair, State.raise_pair, State.setStat_pair, State.count_pair, State.record_pair, State.occur_pair, fun c _ a b => by split <;> rfl⟩

theorem sec_rules : (∀ (s : State) f i v, (s.wr f i v).sec = s.sec) ∧ (∀ (s : State) e pl, (s.raise e pl).sec = s.sec) ∧ (∀ (s : State) f m, (s.setStat f m).sec = s.sec) ∧
    (∀ (s : State) j n, (s.count j n).sec = s.sec) ∧ (∀ (s : State) ty fl b, (s.record ty fl b).sec = s.sec) ∧ (∀ (s : State) e i m it, (s.occur e i m it).sec = s.sec) ∧
    (∀ (c : Prop) [Decidable c] (a b : State), (if c then a else b).sec = if c then a.sec else b.sec) :=
  ⟨State.wr_sec, State.raise_sec, State.setStat_sec, State.count_sec, State.record_sec, State.occur_sec, fun c _ a b => by split <;> rfl⟩

theorem pwr_rules : (∀ (s : State) f i v, (s.wr f i v).pwr = s.pwr) ∧ (∀ (s : State) e pl, (s.raise e pl).pwr = s.pwr) ∧ (∀ (s : State) f m, (s.setStat f m).pwr = s.pwr) ∧
    (∀ (s : State) j n, (s.count j n).pwr = s.pwr) ∧ (∀ (s : State) ty fl b, (s.record ty fl b).pwr = s.pwr) ∧ (∀ (s : State) e i m it, (s.occur e i m it).pwr = s.pwr) ∧
    (∀ (c : Prop) [Decidable c] (a b : State), (if c then a else b).pwr = if c then a.pwr else b.pwr) :=
  ⟨State.wr_pwr, State.raise_pwr, State.setStat_pwr, State.count_pwr, State.record_pwr, State.occur_pwr, fun c _ a b => by split <;> rfl⟩

theorem ltx_rules : (∀ (s : State) f i v, (s.wr f i v).ltx = s.ltx) ∧ (∀ (s : State) e pl, (s.raise e pl).ltx = s.ltx) ∧ (∀ (s : State) f m, (s.setStat f m).ltx = s.ltx) ∧
    (∀ (s : State) j n, (s.count j n).ltx = s.ltx) ∧ (∀ (s : State) ty fl b, (s.record ty fl b).ltx = s.ltx) ∧ (∀ (s : State) e i m it, (s.occur e i m it).ltx = s.ltx) ∧
    (∀ (c : Prop) [Decidable c] (a b : State), (if c then a else b).ltx = if c then a.ltx else b.ltx) :=
  ⟨State.wr_ltx, State.raise_ltx, State.setStat_ltx, State.count_ltx, State.record_ltx, State.occur_ltx, fun c _ a b => by split <;> rfl⟩

theorem lrx_rules : (∀ (s : State) f i v, (s.wr f i v).lrx = s.lrx) ∧ (∀ (s : State) e pl, (s.raise e pl).lrx = s.lrx) ∧ (∀ (s : State) f m, (s.setStat f m).lrx = s.lrx) ∧
    (∀ (s : State) j n, (s.count j n).lrx = s.lrx) ∧ (∀ (s : State) ty fl b, (s.record ty fl b).lrx = s.lrx) ∧ (∀ (s : State) e i m it, (s.occur e i m it).lrx = s.lrx) ∧
    (∀ (c : Prop) [Decidable c] (a b : State), (if c then a else b).lrx = if c then a.lrx else b.lrx) :=
  ⟨State.wr_lrx, State.raise_lrx, State.setStat_lrx, State.count_lrx, State.record_lrx, State.occur_lrx, fun c _ a b => by split <;> rfl⟩

theorem adapt_rules : (∀ (s : State) f i v, (s.wr f i v).adapt = s.adapt) ∧ (∀ (s : State) e pl, (s.raise e pl).adapt = s.adapt) ∧ (∀ (s : State) f m, (s.setStat f m).adapt = s.adapt) ∧
    (∀ (s : State) j n, (s.count j n).adapt = s.adapt) ∧ (∀ (s : State) ty fl b, (s.record ty fl b).adapt = s.adapt) ∧ (∀ (s : State) e i m it, (s.occur e i m it).adapt = s.adapt) ∧
    (∀ (c : Prop) [Decidable c] (a b : State), (if c then a else b).adapt = if c then a.adapt else b.adapt) :=
  ⟨State.wr_adapt, State.raise_adapt, State.setStat_adapt, State.count_adapt, State.record_adapt, State.occur_adapt, fun c _ a b => by split <;> rfl⟩

theorem cnv_rules : (∀ (s : State) f i v, (s.wr f i v).cnv = s.cnv) ∧ (∀ (s : State) e pl, (s.raise e pl).cnv = s.cnv) ∧ (∀ (s : State) f m, (s.setStat f m).cnv = s.cnv) ∧
    (∀ (s : State) j n, (s.count j n).cnv = s.cnv) ∧ (∀ (s : State) ty fl b, (s.record ty fl b).cnv = s.cnv) ∧ (∀ (s : State) e i m it, (s.occur e i m it).cnv = s.cnv) ∧
    (∀ (c : Prop) [Decidable c] (a b : State), (if c then a else b).cnv = if c then a.cnv else b.cnv) :=
  ⟨State.wr_cnv, State.raise_cnv, State.setStat_cnv, State.count_cnv, State.record_cnv, State.occur_cnv, fun c _ a b => by split <;> rfl⟩

theorem fec_rules : (∀ (s : State) f i v, (s.wr f i v).fec = s.fec) ∧ (∀ (s : State) e pl, (s.raise e pl).fec = s.fec) ∧ (∀ (s : State) f m, (s.setStat f m).fec = s.fec) ∧
    (∀ (s : State) j n, (s.count j n).fec = s.fec) ∧ (∀ (s : State) ty fl b, (s.record ty fl b).fec = s.fec) ∧ (∀ (s : State) e i m it, (s.occur e i m it).fec = s.fec) ∧
    (∀ (c : Prop) [Decidable c] (a b : State), (if c then a else b).fec = if c then a.fec else b.fec) :=
  ⟨State.wr_fec, State.raise_fec, State.setStat_fec, State.count_fec, State.record_fec, State.occur_fec, fun c _ a b => by split <;> rfl⟩

theorem cli_rules : (∀ (s : State) f i v, (s.wr f i v).cli = s.cli) ∧ (∀ (s : State) e pl, (s.raise e pl).cli = s.cli) ∧ (∀ (s : State) f m, (s.setStat f m).cli = s.cli) ∧
    (∀ (s : State) j n, (s.count j n).cli = s.cli) ∧ (∀ (s : State) ty fl b, (s.record ty fl b).cli = s.cli) ∧ (∀ (s : State) e i m it, (s.occur e i m it).cli = s.cli) ∧
    (∀ (c : Prop) [Decidable c] (a b : State), (if c then a else b).cli = if c then a.cli else b.cli) :=
  ⟨State.wr_cli, State.raise_cli, State.setStat_cli, State.count_cli, State.record_cli, State.occur_cli, fun c _ a b => by split <;> rfl⟩

theorem vnr_rules : (∀ (s : State) f i v, (s.wr f i v).vnr = s.vnr) ∧ (∀ (s : State) e pl, (s.raise e pl).vnr = s.vnr) ∧ (∀ (s : State) f m, (s.setStat f m).vnr = s.vnr) ∧
    (∀ (s : State) j n, (s.count j n).vnr = s.vnr) ∧ (∀ (s : State) ty fl b, (s.record ty fl b).vnr = s.vnr) ∧ (∀ (s : State) e i m it, (s.occur e i m it).vnr = s.vnr) ∧
    (∀ (c : Prop) [Decidable c] (a b : State), (if c then a else b).vnr = if c then a.vnr else b.vnr) :=
  ⟨State.wr_vnr, State.raise_vnr, State.setStat_vnr, State.count_vnr, State.record_vnr, State.occur_vnr, fun c _ a b => by split <;> rfl⟩

theorem srd_rules : (∀ (s : State) f i v, (s.wr f i v).srd = s.srd) ∧ (∀ (s : State) e pl, (s.raise e pl).srd = s.srd) ∧ (∀ (s : State) f m, (s.setStat f m).srd = s.srd) ∧
    (∀ (s : State) j n, (s.count j n).srd = s.srd) ∧ (∀ (s : State) ty fl b, (s.record ty fl b).srd = s.srd) ∧ (∀ (s : State) e i m it, (s.occur e i m it).srd = s.srd) ∧
    (∀ (c : Prop) [Decidable c] (a b : State), (if c then a else b).srd = if c then a.srd else b.srd) :=
  ⟨State.wr_srd, State.raise_srd, State.setStat_srd, State.count_srd, State.record_srd, State.occur_srd, fun c _ a b => by split <;> rfl⟩

theorem frm_rules : (∀ (s : State) f i v, (s.wr f i v).frm = s.frm) ∧ (∀ (s : State) e pl, (s.raise e pl).frm = s.frm) ∧ (∀ (s : State) f m, (s.setStat f m).frm = s.frm) ∧
    (∀ (s : State) j n, (s.count j n).frm = s.frm) ∧ (∀ (s : State) ty fl b, (s.record ty fl b).frm = s.frm) ∧ (∀ (s : State) e i m it, (s.occur e i m it).frm = s.frm) ∧
    (∀ (c : Prop) [Decidable c] (a b : State), (if c then a else b).frm = if c then a.frm else b.frm) :=
  ⟨State.wr_frm, State.raise_frm, State.setStat_frm, State.count_frm, State.record_frm, State.occur_frm, fun c _ a b => by split <;> rfl⟩

theorem scr_rules : (∀ (s : State) f i v, (s.wr f i v).scr = s.scr) ∧ (∀ (s : State) e pl, (s.raise e pl).scr = s.scr) ∧ (∀ (s : State) f m, (s.setStat f m).scr = s.scr) ∧
    (∀ (s : State) j n, (s.count j n).scr = s.scr) ∧ (∀ (s : State) ty fl b, (s.record ty fl b).scr = s.scr) ∧ (∀ (s : State) e i m it, (s.occur e i m it).scr = s.scr) ∧
    (∀ (c : Prop) [Decidable c] (a b : State), (if c then a else b).scr = if c then a.scr else b.scr) :=
  ⟨State.wr_scr, State.raise_scr, State.setStat_scr, State.count_scr, State.record_scr, State.occur_scr, fun c _ a b => by split <;> rfl⟩

theorem ref_rules : (∀ (s : State) f i v, (s.wr f i v).ref = s.ref) ∧ (∀ (s : State) e pl, (s.raise e pl).ref = s.ref) ∧ (∀ (s : State) f m, (s.setStat f m).ref = s.ref) ∧
    (∀ (s : State) j n, (s.count j n).ref = s.ref) ∧ (∀ (s : State) ty fl b, (s.record ty fl b).ref = s.ref) ∧ (∀ (s : State) e i m it, (s.occur e i m it).ref = s.ref) ∧
    (∀ (c : Prop) [Decidable c] (a b : State), (if c then a else b).ref = if c then a.ref else b.ref) :=
  ⟨State.wr_ref, State.raise_ref, State.setStat_ref, State.count_ref, State.record_ref, State.occur_ref, fun c _ a b => by split <;> rfl⟩

theorem mon_rules : (∀ (s : State) f i v, (s.wr f i v).mon = s.mon) ∧ (∀ (s : State) e pl, (s.raise e pl).mon = s.mon) ∧ (∀ (s : State) f m, (s.setStat f m).mon = s.mon) ∧
    (∀ (s : State) j n, (s.count j n).mon = s.mon) ∧ (∀ (s : State) ty fl b, (s.record ty fl b).mon = s.mon) ∧ (∀ (s : State) e i m it, (s.occur e i m it).mon = s.mon) ∧
    (∀ (c : Prop) [Decidable c] (a b : State), (if c then a else b).mon = if c then a.mon else b.mon) :=
  ⟨State.wr_mon, State.raise_mon, State.setStat_mon, State.count_mon, State.record_mon, State.occur_mon, fun c _ a b => by split <;> rfl⟩

theorem draws_rules : (∀ (s : State) f i v, (s.wr f i v).draws = s.draws) ∧ (∀ (s : State) e pl, (s.raise e pl).draws = s.draws) ∧ (∀ (s : State) f m, (s.setStat f m).draws = s.draws) ∧
    (∀ (s : State) j n, (s.count j n).draws = s.draws) ∧ (∀ (s : State) ty fl b, (s.record ty fl b).draws = s.draws) ∧ (∀ (s : State) e i m it, (s.occur e i m it).draws = s.draws) ∧
    (∀ (c : Prop) [Decidable c] (a b : State), (if c then a else b).draws = if c then a.draws else b.draws) :=
  ⟨State.wr_draws, State.raise_draws, State.setStat_draws, State.count_draws, State.record_draws, State.occur_draws, fun c _ a b => by split <;> rfl⟩

theorem snapGen_rules : (∀ (s : State) f i v, (s.wr f i v).snapGen = s.snapGen) ∧ (∀ (s : State) e pl, (s.raise e pl).snapGen = s.snapGen) ∧ (∀ (s : State) f m, (s.setStat f m).snapGen = s.snapGen) ∧
    (∀ (s : State) j n, (s.count j n).snapGen = s.snapGen) ∧ (∀ (s : State) ty fl b, (s.record ty fl b).snapGen = s.snapGen) ∧ (∀ (s : State) e i m it, (s.occur e i m it).snapGen = s.snapGen) ∧
    (∀ (c : Prop) [Decidable c] (a b : State), (if c then a else b).snapGen = if c then a.snapGen else b.snapGen) :=
  ⟨State.wr_snapGen, State.raise_snapGen, State.setStat_snapGen, State.count_snapGen, State.record_snapGen, State.occur_snapGen, fun c _ a b => by split <;> rfl⟩

theorem bank_rules : (∀ (s : State) f i v, (s.wr f i v).bank = s.bank) ∧ (∀ (s : State) e pl, (s.raise e pl).bank = s.bank) ∧ (∀ (s : State) f m, (s.setStat f m).bank = s.bank) ∧
    (∀ (s : State) j n, (s.count j n).bank = s.bank) ∧ (∀ (s : State) ty fl b, (s.record ty fl b).bank = s.bank) ∧ (∀ (s : State) e i m it, (s.occur e i m it).bank = s.bank) ∧
    (∀ (c : Prop) [Decidable c] (a b : State), (if c then a else b).bank = if c then a.bank else b.bank) :=
  ⟨State.wr_bank, State.raise_bank, State.setStat_bank, State.count_bank, State.record_bank, State.occur_bank, fun c _ a b => by split <;> rfl⟩

theorem tick_rules : (∀ (s : State) f i v, (s.wr f i v).tick = s.tick) ∧ (∀ (s : State) e pl, (s.raise e pl).tick = s.tick) ∧ (∀ (s : State) f m, (s.setStat f m).tick = s.tick) ∧
    (∀ (s : State) j n, (s.count j n).tick = s.tick) ∧ (∀ (s : State) ty fl b, (s.record ty fl b).tick = s.tick) ∧ (∀ (s : State) e i m it, (s.occur e i m it).tick = s.tick) ∧
    (∀ (c : Prop) [Decidable c] (a b : State), (if c then a else b).tick = if c then a.tick else b.tick) :=
  ⟨State.wr_tick, State.raise_tick, State.setStat_tick, State.count_tick, State.record_tick, State.occur_tick, fun c _ a b => by split <;> rfl⟩

theorem pending_rules : (∀ (s : State) f i v, (s.wr f i v).pending = s.pending) ∧ (∀ (s : State) e pl, (s.raise e pl).pending = s.pending) ∧ (∀ (s : State) f m, (s.setStat f m).pending = s.pending) ∧
    (∀ (s : State) j n, (s.count j n).pending = s.pending) ∧ (∀ (s : State) ty fl b, (s.record ty fl b).pending = s.pending) ∧ (∀ (s : State) e i m it, (s.occur e i m it).pending = s.pending) ∧
    (∀ (c : Prop) [Decidable c] (a b : State), (if c then a else b).pending = if c then a.pending else b.pending) :=
  ⟨State.wr_pending, State.raise_pending, State.setStat_pending, State.count_pending, State.record_pending, State.occur_pending, fun c _ a b => by split <;> rfl⟩

theorem slots_rules : (∀ (s : State) f i v, (s.wr f i v).cmd.slots = s.cmd.slots) ∧ (∀ (s : State) e pl, (s.raise e pl).cmd.slots = s.cmd.slots) ∧ (∀ (s : State) f m, (s.setStat f m).cmd.slots = s.cmd.slots) ∧
    (∀ (s : State) j n, (s.count j n).cmd.slots = s.cmd.slots) ∧ (∀ (s : State) ty fl b, (s.record ty fl b).cmd.slots = s.cmd.slots) ∧ (∀ (s : State) e i m it, (s.occur e i m it).cmd.slots = s.cmd.slots) ∧
    (∀ (c : Prop) [Decidable c] (a b : State), (if c then a else b).cmd.slots = if c then a.cmd.slots else b.cmd.slots) := by
  refine ⟨?_, ?_, ?_, ?_, ?_, ?_, fun c _ a b => by split <;> rfl⟩ <;> intros <;> simp only [cmd_rules]

theorem State.rd_of_on {s : State} {f : Fld} {i : Nat} (h : s.on f i = true) : s.rd f i = 1 := by simpa [State.on] using h

/-! ### Words of a register -/

/-- The fields of a register lie at different bits of it. -/
def Fld.distinct (fs : List Fld) : Bool :=
  decide (fs.map fun f => (f.lo, f.width)).Nodup && fs.all (fun f => decide (f.lo < 64) && decide (f.width < 128))

theorem Fld.key_ne_of_distinct {fs : List Fld} (h : Fld.distinct fs = true) (i : Nat) : fs.Pairwise fun f g => f.key i ≠ g.key i := by
  simp only [Fld.distinct, Bool.and_eq_true, decide_eq_true_eq, List.all_eq_true, List.Nodup, List.pairwise_map] at h
  obtain ⟨hne, hb⟩ := h
  refine hne.imp_of_mem fun {f g} hf hg hfg hk => hfg ?_
  obtain ⟨hlo, hw, -⟩ := Fld.key_inj (hb f hf).2 (hb g hg).2 (hb f hf).1 (hb g hg).1 hk
  rw [hlo, hw]

theorem run_puts_other {gs : List Fld} {v : Fld → Nat} {f : Fld} {i j : Nat} (h : ∀ g ∈ gs, f.key j ≠ g.key i) (s : State) :
    (run (gs.map fun g => .put g i (v g)) s).rd f j = s.rd f j := by
  induction gs generalizing s with
  | nil => rfl
  | cons g gs ih =>
    rw [List.map_cons, run_cons, ih (fun x hx => h x (List.mem_cons_of_mem _ hx)), apply_put, rd_wr_ne _ _ _ _ _ _ (h g (List.mem_cons_self ..))]

theorem run_puts_rd {gs : List Fld} {v : Fld → Nat} {f : Fld} {i : Nat} (hf : f ∈ gs) (h : gs.Pairwise fun f g => f.key i ≠ g.key i) (s : State) :
    (run (gs.map fun g => .put g i (v g)) s).rd f i = v f % 2 ^ f.width := by
  induction gs generalizing s with
  | nil => exact absurd hf (List.not_mem_nil)
  | cons g gs ih =>
    obtain ⟨hg, hgs⟩ := List.pairwise_cons.1 h
    rw [List.map_cons, run_cons]
    by_cases hmem : f ∈ gs
    · exact ih hmem hgs _
    · obtain rfl : f = g := by simpa [hmem] using hf
      rw [run_puts_other hg, apply_put, rd_wr_self]

theorem Fld.raw_mod (f : Fld) (w : Nat) : f.raw w % 2 ^ f.width = f.raw w := Nat.mod_eq_of_lt (Nat.mod_lt _ (Nat.two_pow_pos _))

/-- A word written to a register's writable fields. -/
theorem putWord_rd {fs : List Fld} {f : Fld} (hf : f ∈ fs) (hw : f.writable = true) (h : Fld.distinct fs = true) (w i : Nat) (s : State) :
    ((putWord fs w i).act s).rd f i = f.raw w :=
  (run_puts_rd (List.mem_filter.2 ⟨hf, hw⟩) ((Fld.key_ne_of_distinct h i).filter _) s).trans (f.raw_mod w)

theorem putWord_other {fs : List Fld} {f : Fld} {i j : Nat} (h : ∀ g ∈ fs, f.key j ≠ g.key i) (w : Nat) (s : State) :
    ((putWord fs w i).act s).rd f j = s.rd f j :=
  run_puts_other (fun g hg => h g (List.mem_of_mem_filter hg)) s

/-! ### What a footprint leaves -/

section
variable {m : May} {s t : State}

theorem Keeps.rd (k : Keeps m s t) {f : Fld} {i : Nat} (h : f.clearOf i (m.flds ++ sharedFlds) = true) : t.rd f i = s.rd f i :=
  k.flds f i (Fld.key_ne_of_clearOf h)

theorem Keeps.rdAny (k : Keeps m s t) {f : Fld} {i : Nat} (h : f.apartOf (m.flds ++ sharedFlds) = true) : t.rd f i = s.rd f i :=
  k.flds f i (Fld.key_ne_of_apartOf h i)

theorem Keeps.onAny (k : Keeps m s t) {f : Fld} {i : Nat} (h : f.apartOf (m.flds ++ sharedFlds) = true) : t.on f i = s.on f i := by
  rw [State.on, k.rdAny h, State.on]

theorem Keeps.on (k : Keeps m s t) {f : Fld} {i : Nat} (h : f.clearOf i (m.flds ++ sharedFlds) = true) : t.on f i = s.on f i := by
  rw [State.on, k.rd h, State.on]

theorem Keeps.cnt (k : Keeps m s t) {j : Nat} (h : m.moves j = false) : t.cnt j = s.cnt j := by
  obtain ⟨h64, hr, he⟩ := May.moves_eq_false.1 h
  exact (k.cnts j h64 hr he).1

theorem Keeps.fuse (k : Keeps m s t) (h : Comp.fuse ∉ m.comps) : t.fuse = s.fuse := k.comps .fuse h
theorem Keeps.eng (k : Keeps m s t) (h : Comp.eng ∉ m.comps) : t.eng = s.eng := k.comps .eng h
theorem Keeps.tod (k : Keeps m s t) (h : Comp.tod ∉ m.comps) : t.tod = s.tod := k.comps .tod h
theorem Keeps.sec (k : Keeps m s t) (h : Comp.sec ∉ m.comps) : t.sec = s.sec := k.comps .sec h
theorem Keeps.pwr (k : Keeps m s t) (h : Comp.pwr ∉ m.comps) : t.pwr = s.pwr := k.comps .pwr h
theorem Keeps.ltx (k : Keeps m s t) (h : Comp.ltx ∉ m.comps) : t.ltx = s.ltx := k.comps .ltx h
theorem Keeps.lrx (k : Keeps m s t) (h : Comp.lrx ∉ m.comps) : t.lrx = s.lrx := k.comps .lrx h
theorem Keeps.adapt (k : Keeps m s t) (h : Comp.adapt ∉ m.comps) : t.adapt = s.adapt := k.comps .adapt h
theorem Keeps.cnv (k : Keeps m s t) (h : Comp.cnv ∉ m.comps) : t.cnv = s.cnv := k.comps .cnv h
theorem Keeps.fec (k : Keeps m s t) (h : Comp.fec ∉ m.comps) : t.fec = s.fec := k.comps .fec h
theorem Keeps.cli (k : Keeps m s t) (h : Comp.cli ∉ m.comps) : t.cli = s.cli := k.comps .cli h
theorem Keeps.vnr (k : Keeps m s t) (h : Comp.vnr ∉ m.comps) : t.vnr = s.vnr := k.comps .vnr h
theorem Keeps.srd (k : Keeps m s t) (h : Comp.srd ∉ m.comps) : t.srd = s.srd := k.comps .srd h
theorem Keeps.frm (k : Keeps m s t) (h : Comp.frm ∉ m.comps) : t.frm = s.frm := k.comps .frm h
theorem Keeps.scr (k : Keeps m s t) (h : Comp.scr ∉ m.comps) : t.scr = s.scr := k.comps .scr h
theorem Keeps.ref (k : Keeps m s t) (h : Comp.ref ∉ m.comps) : t.ref = s.ref := k.comps .ref h
theorem Keeps.mon (k : Keeps m s t) (h : Comp.mon ∉ m.comps) : t.mon = s.mon := k.comps .mon h
theorem Keeps.tick (k : Keeps m s t) (h : Comp.tick ∉ m.comps) : t.tick = s.tick := k.comps .tick h
theorem Keeps.draws (k : Keeps m s t) (h : Comp.draws ∉ m.comps) : t.draws = s.draws := k.comps .draws h

theorem Keeps.slots (k : Keeps m s t) (h : Comp.slots ∉ m.comps) : t.cmd.slots = s.cmd.slots := (k.comps .slots h).1

end

/-! ### What a reply leaves -/

section
variable {s t : State}

theorem OnlyReplies.rd (k : OnlyReplies s t) {f : Fld} {i : Nat} (h : f.key i ≠ OBS_REC_RSEQ.ALL.key 0) : t.rd f i = s.rd f i := k.flds f i h

theorem OnlyReplies.on (k : OnlyReplies s t) {f : Fld} {i : Nat} (h : f.key i ≠ OBS_REC_RSEQ.ALL.key 0) : t.on f i = s.on f i := by
  rw [State.on, k.rd h, State.on]

theorem OnlyReplies.fuse (k : OnlyReplies s t) : t.fuse = s.fuse := k.comps .fuse (by decide)
theorem OnlyReplies.eng (k : OnlyReplies s t) : t.eng = s.eng := k.comps .eng (by decide)
theorem OnlyReplies.tod (k : OnlyReplies s t) : t.tod = s.tod := k.comps .tod (by decide)
theorem OnlyReplies.sec (k : OnlyReplies s t) : t.sec = s.sec := k.comps .sec (by decide)
theorem OnlyReplies.pwr (k : OnlyReplies s t) : t.pwr = s.pwr := k.comps .pwr (by decide)
theorem OnlyReplies.ltx (k : OnlyReplies s t) : t.ltx = s.ltx := k.comps .ltx (by decide)
theorem OnlyReplies.lrx (k : OnlyReplies s t) : t.lrx = s.lrx := k.comps .lrx (by decide)
theorem OnlyReplies.adapt (k : OnlyReplies s t) : t.adapt = s.adapt := k.comps .adapt (by decide)
theorem OnlyReplies.cnv (k : OnlyReplies s t) : t.cnv = s.cnv := k.comps .cnv (by decide)
theorem OnlyReplies.fec (k : OnlyReplies s t) : t.fec = s.fec := k.comps .fec (by decide)
theorem OnlyReplies.cli (k : OnlyReplies s t) : t.cli = s.cli := k.comps .cli (by decide)
theorem OnlyReplies.vnr (k : OnlyReplies s t) : t.vnr = s.vnr := k.comps .vnr (by decide)
theorem OnlyReplies.srd (k : OnlyReplies s t) : t.srd = s.srd := k.comps .srd (by decide)
theorem OnlyReplies.frm (k : OnlyReplies s t) : t.frm = s.frm := k.comps .frm (by decide)
theorem OnlyReplies.scr (k : OnlyReplies s t) : t.scr = s.scr := k.comps .scr (by decide)
theorem OnlyReplies.ref (k : OnlyReplies s t) : t.ref = s.ref := k.comps .ref (by decide)
theorem OnlyReplies.mon (k : OnlyReplies s t) : t.mon = s.mon := k.comps .mon (by decide)
theorem OnlyReplies.tick (k : OnlyReplies s t) : t.tick = s.tick := k.comps .tick (by decide)
theorem OnlyReplies.draws (k : OnlyReplies s t) : t.draws = s.draws := k.comps .draws (by decide)

end

/-! ### Commands -/

section
variable {c : CmdHdr → List Word → Instr} {op : OpDef} {C : List Nat → State → Prop} {P : CmdHdr → List Nat → State → State → Prop}

/-- The state that the effect `e` and the reply of status `st` leave, with what the reply's slot holds. -/
structure Replied (h : CmdHdr) (r : Running) (st : Status) (fl : Nat) (pay : State → List Nat) (u t : State) : Prop where
  keeps : OnlyReplies u t
  slot : t.slotReply h = some (u.mkReply r st fl (pay u))

theorem Replied.payload {h : CmdHdr} {r : Running} {st : Status} {fl : Nat} {pay : State → List Nat} {u t : State} (k : Replied h r st fl pay u t)
    (hu : u.plain) : t.payload h = (pay u).map (· % 2 ^ 32) := by
  rw [State.payload, k.slot]
  exact mkReply_payload_of_plain hu _ _ _ _

theorem replied_replyTo {h : CmdHdr} (hf : h.flags = 0) {st : Status} (hst : st ≠ .pending) (code : Nat) (p : List Nat) (fl : Nat) (pay : State → List Nat)
    (u : State) : Replied h (runOf h code p) st fl pay u ((replyTo (runOf h code p) st fl pay).act u) := by
  refine ⟨onlyReplies_replyTo _ _ _ _ _, ?_⟩
  have hslot := replyTo_slot (runOf h code p) st fl pay u (by simp [runOf, hf])
  rw [if_neg hst] at hslot
  exact congrArg (·.bind Slot.reply) hslot

/-- A command whose body answers OK with an effect, where `C` holds. -/
theorem does_of_body (hc : ∀ h p s, exec (c h p) s = perform (felwin op h p) s)
    (hb : ∀ h p s, C p s → ∃ e pay fl, op.body h p s = { status := .ok, eff := e, pay := pay, flags := fl } ∧
      ∀ t, Replied h (runOf h op.code p) .ok fl pay (e.act s) t → P h p s t) : Does c op C P := by
  intro h p s a hC
  obtain ⟨e, pay, fl, hbody, hP⟩ := hb h _ s hC
  have hact : (felwin op h p).act s = (replyTo (runOf h op.code (p.map (·.toNat))) .ok fl pay).act (e.act s) := by
    simp [felwin_accepted a, hbody, actAndReply]
  have k := replied_replyTo a.hold (by decide : Status.ok ≠ .pending) op.code (p.map (·.toNat)) fl pay (e.act s)
  rw [← hact] at k
  refine ⟨_, hc h p s, ?_, hP _ k⟩
  rw [State.replied, k.slot]
  rfl

/-- A command whose body answers OK with an effect and a payload. -/
theorem does_of_okP (hc : ∀ h p s, exec (c h p) s = perform (felwin op h p) s)
    (hb : ∀ h p s, C p s → ∃ e pay, op.body h p s = okP e pay ∧ ∀ t, Replied h (runOf h op.code p) .ok 0 pay (e.act s) t → P h p s t) : Does c op C P :=
  does_of_body hc fun h p s hC => by
    obtain ⟨e, pay, hbody, hP⟩ := hb h p s hC
    exact ⟨e, pay, 0, hbody, hP⟩

/-- A command whose body answers OK with an effect. -/
theorem does_of_okE (hc : ∀ h p s, exec (c h p) s = perform (felwin op h p) s)
    (hb : ∀ h p s, C p s → ∃ e, op.body h p s = okE e ∧ ∀ t, OnlyReplies (e.act s) t → P h p s t) : Does c op C P :=
  does_of_okP hc fun h p s hC => by
    obtain ⟨e, hbody, hP⟩ := hb h p s hC
    exact ⟨e, _, hbody, fun t k => hP t k.keeps⟩

/-- A command that only reads answers what its body answers. -/
theorem answers_of_body {f : List Nat → State → List Nat} (hc : ∀ h p s, exec (c h p) s = perform (felwin op h p) s)
    (hb : ∀ h p s, C p s → ∃ pay, op.body h p s = okP nop pay ∧ pay s = f p s) : Answers c op C f :=
  does_of_body hc fun h p s hC => by
    obtain ⟨pay, hbody, hpay⟩ := hb h p s hC.2
    refine ⟨nop, pay, 0, hbody, fun t k => ?_⟩
    rw [k.payload hC.1, act_nop, hpay]

/-- A class C command that is taken: its slot holds it as running. -/
theorem starts_of_pendE (hc : ∀ h p s, exec (c h p) s = perform (felwin op h p) s)
    (hb : ∀ h p s, C p s → ∃ e, op.body h p s = pendE e ∧ ∀ t, OnlyReplies (e.act s) t → P h p s t) : Starts c op C P := by
  intro h p s a hC
  obtain ⟨e, hbody, hP⟩ := hb h _ s hC
  have hact : (felwin op h p).act s = (replyTo (runOf h op.code (p.map (·.toNat))) .pending 0 (fun _ => [])).act (e.act s) := by
    simp [felwin_accepted a, hbody, actAndReply, pendE]
  refine ⟨_, hc h p s, ?_, ?_⟩
  · have hslot := replyTo_slot (runOf h op.code (p.map (·.toNat))) .pending 0 (fun _ => []) (e.act s) (by simp [runOf, a.hold])
    rw [← hact] at hslot
    exact hslot
  · rw [hact]
    exact hP _ (onlyReplies_replyTo _ _ _ _ _)

/-- A command whose reply a later step gives: its slot holds it, and the effect follows. -/
theorem starts_of_deferE (hc : ∀ h p s, exec (c h p) s = perform (felwin op h p) s)
    (hb : ∀ h p s, C p s → ∃ e, op.body h p s = deferE e ∧
      ∀ u, OnlyReplies s u → (e.act u).cmd.slots = u.cmd.slots ∧ P h p s (e.act u)) : Starts c op C P := by
  intro h p s a hC
  obtain ⟨e, hbody, hP⟩ := hb h _ s hC
  have hact : (felwin op h p).act s = e.act ((slotRuns (runOf h op.code (p.map (·.toNat)))).act s) := by
    simp [felwin_accepted a, hbody, actAndReply, deferE]
  obtain ⟨hslots, hp⟩ := hP ((slotRuns (runOf h op.code (p.map (·.toNat)))).act s) (onlyReplies_replySlots s _ s.cmd.waiting)
  refine ⟨_, hc h p s, ?_, hact ▸ hp⟩
  show Tab.get none ((felwin op h p).act s).cmd.slots _ = _
  rw [hact, hslots]
  simp [slotRuns, Upd.apply, runOf]

/-- The final reply of a command that its slot holds as running. -/
theorem finish_replied {h : CmdHdr} (hf : h.flags = 0) {code : Nat} {p : List Nat} {u : State} (hr : u.isRunning (runOf h code p) = true) {st : Status}
    (hst : st ≠ .pending) (pay : List Nat) : ((finish (runOf h code p) st pay).act u).replied h st := by
  simp only [finish, finishFl, act_dyn, act_whenE, hr, if_true]
  exact replyTo_replied (by simp [hf]) hst ..

theorem onlyReplies_finish (r : Running) (st : Status) (pay : List Nat) (s : State) : OnlyReplies s ((finish r st pay).act s) := by
  simp only [finish, finishFl, act_dyn, act_whenE]
  split
  · exact onlyReplies_replyTo _ _ _ _ _
  · exact .refl s

/-- A class C command that ends in the same step with OK: PENDING, then its effect `e'`, then the final reply. -/
theorem does_of_pendThen (hc : ∀ h p s, exec (c h p) s = perform (felwin op h p) s)
    (hb : ∀ h p s, C p s → ∃ (e e' : Eff) (pay : List Nat), op.body h p s = pendThen e ∧ (∀ u, e.act u = (finish (runOf h op.code p) .ok pay).act (e'.act u)) ∧
      ∀ u, OnlyReplies s u → (e'.act u).cmd.slots = u.cmd.slots ∧ ∀ t, OnlyReplies (e'.act u) t → P h p s t) : Does c op C P := by
  intro h p s a hC
  obtain ⟨e, e', pay, hbody, he, hP⟩ := hb h _ s hC
  have hact : (felwin op h p).act s = e.act ((replyTo (runOf h op.code (p.map (·.toNat))) .pending 0 (fun _ => [])).act s) := by
    simp [felwin_accepted a, hbody, actAndReply, pendThen]
  have hslot := replyTo_slot (runOf h op.code (p.map (·.toNat))) .pending 0 (fun _ => []) s (by simp [runOf, a.hold])
  obtain ⟨hslots, hp⟩ := hP _ (onlyReplies_replyTo _ _ _ _ _)
  have hrun : (e'.act ((replyTo (runOf h op.code (p.map (·.toNat))) .pending 0 (fun _ => [])).act s)).isRunning (runOf h op.code (p.map (·.toNat))) = true := by
    rw [State.isRunning, hslots, hslot]
    simp
  refine ⟨_, hc h p s, ?_⟩
  rw [hact, he]
  exact ⟨finish_replied a.hold hrun (by decide) pay, hp _ (onlyReplies_finish _ _ _ _)⟩

end

/-! ### Register writes -/

/-- What follows a register write that takes effect: its record, and the journal to the mate (R518, Table 16.7). -/
def Touch.logged : May := .join ⟨0, [], [], [], []⟩ [Touch.journal]

theorem logWrite_keeps (m : Nat) (r : RegDef) (i : Nat) (w : State → Nat) (e : Eff) (s : State) :
    Keeps Touch.logged (e.act s) ((logWrite m r i w e).act s) := by
  have hj : Touch.logged.foot.covers Touch.journal = true := by decide +kernel
  simp only [logWrite, act_dyn, act_seq_cons, act_seq_nil]
  generalize e.act s = u
  refine .trans (keeps_act (e := whenE _ (record 3 _)) (by simp)) (keeps_act ?_)
  simp [hj]

section
variable {c : Instr} {m : Mast} {f : Fld} {i : Nat} {e : Eff} {s : State} {P : State → Prop}

/-- A write by a master that reaches the block does what its effect does, and is logged. -/
theorem act_byMaster (ht : s.takes m f.block) : Keeps Touch.logged (e.act s) ((byMaster m f i e).act s) := by
  obtain ⟨hm, hw⟩ := ht
  have hbox : inSandbox m = false := by simp [inSandbox, hm]
  simp only [byMaster, act_dyn, hbox, hw, Bool.not_true, Bool.false_eq_true, if_false]
  split
  · exact logWrite_keeps _ _ _ _ _ _
  · exact keeps_refl _ _

theorem completes_byMaster (hc : exec c s = perform (byMaster m f i e) s) (ht : s.takes m f.block)
    (hP : ∀ t, Keeps Touch.logged (e.act s) t → P t) : Completes c s P :=
  ⟨_, hc, hP _ (act_byMaster ht)⟩

end

end Sys2Proof.Machine

/-!
What each shared effect leaves, by its footprint.
-/
namespace Sys2Proof.Machine
open Sys2Proof

-- The kernel evaluates each footprint once: one thread serves them all.
set_option Elab.async false

theorem keeps_unhold (r : Reply) (s : State) : Keeps Touch.unhold s ((unhold r).act s) :=
  keeps_act (within_unhold r (by decide +kernel))

theorem keeps_finishFl (r : Running) (st : Status) (flags : Nat) (pay : List Nat) (s : State) : Keeps Touch.finishFl s ((finishFl r st flags pay).act s) :=
  keeps_act (within_finishFl r st flags pay (by decide +kernel))

theorem keeps_finish (r : Running) (st : Status) (pay : List Nat) (s : State) : Keeps Touch.finish s ((finish r st pay).act s) :=
  keeps_act (within_finish r st pay (by decide +kernel))

theorem keeps_latchShadow (m off hi : Nat) (s : State) : Keeps Touch.latchShadow s ((latchShadow m off hi).act s) :=
  keeps_act (within_latchShadow m off hi (by decide +kernel))

theorem keeps_chDown (t st cause : Nat) (s : State) : Keeps Touch.chDown s ((chDown t st cause).act s) :=
  keeps_act (within_chDown t st cause (by decide +kernel))

theorem keeps_clearDefect (code layer : Nat) (s : State) : Keeps Touch.clearDefect s ((clearDefect code layer).act s) :=
  keeps_act (within_clearDefect code layer (by decide +kernel))

theorem keeps_judgeFill (s : State) : Keeps Touch.judgeFill s (judgeFill.act s) :=
  keeps_act (within_judgeFill (by decide +kernel))

theorem keeps_syncLosf (s : State) : Keeps Touch.syncLosf s (syncLosf.act s) :=
  keeps_act (within_syncLosf (by decide +kernel))

theorem keeps_losEnter (s : State) : Keeps Touch.losEnter s (losEnter.act s) :=
  keeps_act (within_losEnter (by decide +kernel))

theorem keeps_clearDefects (s : State) : Keeps Touch.clearDefects s (clearDefects.act s) :=
  keeps_act (within_clearDefects (by decide +kernel))

theorem keeps_timeMsg (bytes : List Nat) (s : State) : Keeps Touch.timeMsg s ((timeMsg bytes).act s) :=
  keeps_act (within_timeMsg bytes (by decide +kernel))

theorem keeps_takeSlots (t : Nat) (slots : List Nat) (s : State) : Keeps Touch.takeSlots s ((takeSlots t slots).act s) :=
  keeps_act (within_takeSlots t slots (by decide +kernel))

theorem keeps_eraseSlot (p k : Nat) (s : State) : Keeps Touch.eraseSlot s ((eraseSlot p k).act s) :=
  keeps_act (within_eraseSlot p k (by decide +kernel))

theorem keeps_applyBatch (sf : Nat) (s : State) : Keeps Touch.applyBatch s ((applyBatch sf).act s) :=
  keeps_act (within_applyBatch sf (by decide +kernel))

theorem keeps_judgeProt (s : State) : Keeps Touch.judgeProt s (judgeProt.act s) :=
  keeps_act (within_judgeProt (by decide +kernel))

theorem keeps_vnrBoundary (s : State) : Keeps Touch.vnrBoundary s (vnrBoundary.act s) :=
  keeps_act (within_vnrBoundary (by decide +kernel))

theorem keeps_portTo (p st : Nat) (s : State) : Keeps Touch.portTo s ((portTo p st).act s) :=
  keeps_act (within_portTo p st (by decide +kernel))

theorem keeps_syncServo (s : State) : Keeps Touch.syncServo s (syncServo.act s) :=
  keeps_act (within_syncServo (by decide +kernel))

theorem keeps_sendAnnounce (p : Nat) (s : State) : Keeps Touch.sendAnnounce s ((sendAnnounce p).act s) :=
  keeps_act (within_sendAnnounce p (by decide +kernel))

theorem keeps_syncPorts (s : State) : Keeps Touch.syncPorts s (syncPorts.act s) :=
  keeps_act (within_syncPorts (by decide +kernel))

theorem keeps_writePins (out : Bool) (w : Nat) (s : State) : Keeps Touch.writePins s ((writePins out w).act s) :=
  keeps_act (within_writePins out w (by decide +kernel))

theorem keeps_setRole (new row : Nat) (s : State) : Keeps Touch.setRole s ((setRole new row).act s) :=
  keeps_act (within_setRole new row (by decide +kernel))

theorem keeps_unitFails (trigger : Nat) (s : State) : Keeps Touch.unitFails s ((unitFails trigger).act s) :=
  keeps_act (within_unitFails trigger (by decide +kernel))

theorem keeps_moveNow (sf : Nat) (s : State) : Keeps Touch.moveNow s ((moveNow sf).act s) :=
  keeps_act (within_moveNow sf (by decide +kernel))

theorem keeps_batchNow (sf : Nat) (s : State) : Keeps Touch.batchNow s ((batchNow sf).act s) :=
  keeps_act (within_batchNow sf (by decide +kernel))

theorem keeps_putBank (b id : Nat) (ws : List Nat) (s : State) : Keeps Touch.putBank s ((putBank b id ws).act s) :=
  keeps_act (within_putBank b id ws (by decide +kernel))

theorem keeps_setChk (s : State) : Keeps Touch.setChk s (setChk.act s) :=
  keeps_act (within_setChk (by decide +kernel))

theorem keeps_dropLoads (op : Nat) (s : State) : Keeps Touch.dropLoads s ((dropLoads op).act s) :=
  keeps_act (within_dropLoads op (by decide +kernel))

theorem keeps_loadPlan0 (s : State) : Keeps Touch.loadPlan0 s (loadPlan0.act s) :=
  keeps_act (within_loadPlan0 (by decide +kernel))

theorem keeps_scrDrop (s : State) : Keeps Touch.scrDrop s (scrDrop.act s) :=
  keeps_act (within_scrDrop (by decide +kernel))

theorem keeps_scrOff (s : State) : Keeps Touch.scrOff s (scrOff.act s) :=
  keeps_act (within_scrOff (by decide +kernel))

theorem keeps_scrFollow (s : State) : Keeps Touch.scrFollow s (scrFollow.act s) :=
  keeps_act (within_scrFollow (by decide +kernel))

theorem keeps_applyPlan (sf : Nat) (s : State) : Keeps Touch.applyPlan s ((applyPlan sf).act s) :=
  keeps_act (within_applyPlan sf (by decide +kernel))

theorem keeps_commitReturn (s : State) : Keeps Touch.commitReturn s (commitReturn.act s) :=
  keeps_act (within_commitReturn (by decide +kernel))

theorem keeps_goDark (cause : Nat) (s : State) : Keeps Touch.goDark s ((goDark cause).act s) :=
  keeps_act (within_goDark cause (by decide +kernel))

theorem keeps_syncProt (s : State) : Keeps Touch.syncProt s (syncProt.act s) :=
  keeps_act (within_syncProt (by decide +kernel))

theorem keeps_emptyTable (s : State) : Keeps Touch.emptyTable s (emptyTable.act s) :=
  keeps_act (within_emptyTable (by decide +kernel))

theorem keeps_modSc (k : Nat) (g : ScSt → ScSt) (s : State) : Keeps Touch.modSc s ((modSc k g).act s) :=
  keeps_act (within_modSc k g (by decide +kernel))

theorem keeps_syncDD (s : State) : Keeps Touch.syncDD s (syncDD.act s) :=
  keeps_act (within_syncDD (by decide +kernel))

theorem keeps_syncFb (s : State) : Keeps Touch.syncFb s (syncFb.act s) :=
  keeps_act (within_syncFb (by decide +kernel))

theorem keeps_noQuality (s : State) : Keeps Touch.noQuality s (noQuality.act s) :=
  keeps_act (within_noQuality (by decide +kernel))

theorem keeps_dropLocks (s : State) : Keeps Touch.dropLocks s (dropLocks.act s) :=
  keeps_act (within_dropLocks (by decide +kernel))

theorem keeps_toIdle (s : State) : Keeps Touch.toIdle s (toIdle.act s) :=
  keeps_act (within_toIdle (by decide +kernel))

theorem keeps_unfreezeCheck (s : State) : Keeps Touch.unfreezeCheck s (unfreezeCheck.act s) :=
  keeps_act (within_unfreezeCheck (by decide +kernel))

theorem keeps_tryStart (s : State) : Keeps Touch.tryStart s (tryStart.act s) :=
  keeps_act (within_tryStart (by decide +kernel))

theorem keeps_modSet (k : Nat) (g : CalSet → CalSet) (s : State) : Keeps Touch.modSet s ((modSet k g).act s) :=
  keeps_act (within_modSet k g (by decide +kernel))

theorem keeps_syncSets (s : State) : Keeps Touch.syncSets s (syncSets.act s) :=
  keeps_act (within_syncSets (by decide +kernel))

theorem keeps_baseSkew (s : State) : Keeps Touch.baseSkew s (baseSkew.act s) :=
  keeps_act (within_baseSkew (by decide +kernel))

theorem keeps_abandonSteps (ms : List Nat) (s : State) : Keeps Touch.abandonSteps s ((abandonSteps ms).act s) :=
  keeps_act (within_abandonSteps ms (by decide +kernel))

theorem keeps_judgeFig (fig i v thr hyst : Nat) (s : State) : Keeps Touch.judgeFig s ((judgeFig fig i v thr hyst).act s) :=
  keeps_act (within_judgeFig fig i v thr hyst (by decide +kernel))

theorem keeps_syncRows (set : Nat) (s : State) : Keeps Touch.syncRows s ((syncRows set).act s) :=
  keeps_act (within_syncRows set (by decide +kernel))

theorem keeps_rowEnds (row st : Nat) (s : State) : Keeps Touch.rowEnds s ((rowEnds row st).act s) :=
  keeps_act (within_rowEnds row st (by decide +kernel))

theorem keeps_stopCommit (s : State) : Keeps Touch.stopCommit s (stopCommit.act s) :=
  keeps_act (within_stopCommit (by decide +kernel))

theorem keeps_returnSlices (s : State) : Keeps Touch.returnSlices s (returnSlices.act s) :=
  keeps_act (within_returnSlices (by decide +kernel))

theorem keeps_modMod (m : Nat) (g : ModSt → ModSt) (s : State) : Keeps Touch.modMod s ((modMod m g).act s) :=
  keeps_act (within_modMod m g (by decide +kernel))

theorem keeps_chainRestart (m : Nat) (s : State) : Keeps Touch.chainRestart s ((chainRestart m).act s) :=
  keeps_act (within_chainRestart m (by decide +kernel))

theorem keeps_startBurst (m : Nat) (s : State) : Keeps Touch.startBurst s ((startBurst m).act s) :=
  keeps_act (within_startBurst m (by decide +kernel))

theorem keeps_sendSignal (hdr : Nat) (s : State) : Keeps ⟨0, [], [], [], []⟩ s ((sendSignal hdr).act s) :=
  keeps_act (within_sendSignal hdr)

theorem keeps_emitPads (s : State) : Keeps ⟨0, [], [], [], []⟩ s (emitPads.act s) :=
  keeps_act within_emitPads

theorem keeps_judgeLock (s : State) : Keeps Touch.judgeLock s (judgeLock.act s) :=
  keeps_act (within_judgeLock (by decide +kernel))

theorem keeps_tune (p : Nat) (s : State) : Keeps Touch.tune s ((tune p).act s) :=
  keeps_act (within_tune p (by decide +kernel))

theorem keeps_laserOn (p : Nat) (s : State) : Keeps ⟨0, [], [], [], []⟩ s ((laserOn p).act s) :=
  keeps_act (within_laserOn p)

theorem keeps_laserOff (p : Nat) (s : State) : Keeps Touch.laserOff s ((laserOff p).act s) :=
  keeps_act (within_laserOff p (by decide +kernel))

theorem keeps_laserFresh (p : Nat) (s : State) : Keeps Touch.laserFresh s ((laserFresh p).act s) :=
  keeps_act (within_laserFresh p (by decide +kernel))

theorem keeps_laserFail (p : Nat) (s : State) : Keeps Touch.laserFail s ((laserFail p).act s) :=
  keeps_act (within_laserFail p (by decide +kernel))

theorem keeps_setLasEn (p : Nat) (en : Bool) (s : State) : Keeps Touch.setLasEn s ((setLasEn p en).act s) :=
  keeps_act (within_setLasEn p en (by decide +kernel))

theorem keeps_lasPower (p : Nat) (s : State) : Keeps ⟨0, [], [], [], []⟩ s ((lasPower p).act s) :=
  keeps_act (within_lasPower p)

theorem keeps_startBring (run : Option Running) (s : State) : Keeps Touch.startBring s ((startBring run).act s) :=
  keeps_act (within_startBring run (by decide +kernel))

theorem keeps_startSf (s : State) : Keeps Touch.startSf s (startSf.act s) :=
  keeps_act (within_startSf (by decide +kernel))

theorem keeps_clearSlips (s : State) : Keeps Touch.clearSlips s (clearSlips.act s) :=
  keeps_act (within_clearSlips (by decide +kernel))

theorem keeps_fecCntClr (s : State) : Keeps Touch.fecCntClr s (fecCntClr.act s) :=
  keeps_act (within_fecCntClr (by decide +kernel))

theorem keeps_oneShot (s : State) : Keeps Touch.oneShot s (oneShot.act s) :=
  keeps_act (within_oneShot (by decide +kernel))

theorem keeps_leaveInject (s : State) : Keeps Touch.leaveInject s (leaveInject.act s) :=
  keeps_act (within_leaveInject (by decide +kernel))

theorem keeps_dovetailRestart (s : State) : Keeps Touch.dovetailRestart s (dovetailRestart.act s) :=
  keeps_act (within_dovetailRestart (by decide +kernel))

theorem keeps_drainOh (c n : Nat) (s : State) : Keeps Touch.drainOh s ((drainOh c n).act s) :=
  keeps_act (within_drainOh c n (by decide +kernel))

theorem keeps_latchBank (r : PmRec) (free : Bool) (s : State) : Keeps Touch.latchBank s ((latchBank r free).act s) :=
  keeps_act (within_latchBank r free (by decide +kernel))

theorem keeps_sendEsmc (event : Bool) (s : State) : Keeps ⟨0, [], [], [], []⟩ s ((sendEsmc event).act s) :=
  keeps_act (within_sendEsmc event)

theorem keeps_failQl (s : State) : Keeps Touch.failQl s (failQl.act s) :=
  keeps_act (within_failQl (by decide +kernel))

theorem keeps_syncQl (s : State) : Keeps Touch.syncQl s (syncQl.act s) :=
  keeps_act (within_syncQl (by decide +kernel))

theorem keeps_syncOut (s : State) : Keeps Touch.syncOut s (syncOut.act s) :=
  keeps_act (within_syncOut (by decide +kernel))

theorem keeps_syncStates (s : State) : Keeps Touch.syncStates s (syncStates.act s) :=
  keeps_act (within_syncStates (by decide +kernel))

theorem keeps_startSwitch (c : Nat) (s : State) : Keeps Touch.startSwitch s ((startSwitch c).act s) :=
  keeps_act (within_startSwitch c (by decide +kernel))

theorem keeps_selEval (s : State) : Keeps Touch.selEval s (selEval.act s) :=
  keeps_act (within_selEval (by decide +kernel))

theorem keeps_refEval (s : State) : Keeps Touch.refEval s (refEval.act s) :=
  keeps_act (within_refEval (by decide +kernel))

theorem keeps_trainLanes (ls : List Nat) (s : State) : Keeps Touch.trainLanes s ((trainLanes ls).act s) :=
  keeps_act (within_trainLanes ls (by decide +kernel))

theorem keeps_startState (t : Nat) (lanes : List Nat) (s : State) : Keeps Touch.startState s ((startState t lanes).act s) :=
  keeps_act (within_startState t lanes (by decide +kernel))

theorem keeps_leaveLoops (s : State) : Keeps Touch.leaveLoops s (leaveLoops.act s) :=
  keeps_act (within_leaveLoops (by decide +kernel))

theorem keeps_laneIngress (n : Nat) (s : State) : Keeps Touch.laneIngress s ((laneIngress n).act s) :=
  keeps_act (within_laneIngress n (by decide +kernel))

theorem keeps_laneReady (n : Nat) (s : State) : Keeps Touch.laneReady s ((laneReady n).act s) :=
  keeps_act (within_laneReady n (by decide +kernel))

theorem keeps_startTraining (n : Nat) (s : State) : Keeps Touch.startTraining s ((startTraining n).act s) :=
  keeps_act (within_startTraining n (by decide +kernel))

theorem keeps_stopEnum (s : State) : Keeps Touch.stopEnum s (stopEnum.act s) :=
  keeps_act (within_stopEnum (by decide +kernel))

theorem keeps_groupTurns (g : Nat) (isUp : Bool) (s : State) : Keeps Touch.groupTurns s ((groupTurns g isUp).act s) :=
  keeps_act (within_groupTurns g isUp (by decide +kernel))

theorem keeps_leaveMaint (s : State) : Keeps Touch.leaveMaint s (leaveMaint.act s) :=
  keeps_act (within_leaveMaint (by decide +kernel))

theorem keeps_setDev (new : Nat) (s : State) : Keeps Touch.setDev s ((setDev new).act s) :=
  keeps_act (within_setDev new (by decide +kernel))

theorem keeps_setEng (e st : Nat) (s : State) : Keeps Touch.setEng s ((setEng e st).act s) :=
  keeps_act (within_setEng e st (by decide +kernel))

theorem keeps_dropTask (e : Nat) (s : State) : Keeps Touch.dropTask s ((dropTask e).act s) :=
  keeps_act (within_dropTask e (by decide +kernel))

theorem keeps_fwNextStep (s : State) : Keeps Touch.fwNextStep s (fwNextStep.act s) :=
  keeps_act (within_fwNextStep (by decide +kernel))

theorem keeps_fwBoundary (s : State) : Keeps Touch.fwBoundary s (fwBoundary.act s) :=
  keeps_act (within_fwBoundary (by decide +kernel))

theorem keeps_spareNoneClears (s : State) : Keeps Touch.spareNoneClears s (spareNoneClears.act s) :=
  keeps_act (within_spareNoneClears (by decide +kernel))

theorem keeps_engReturn (s : State) : Keeps Touch.engReturn s (engReturn.act s) :=
  keeps_act (within_engReturn (by decide +kernel))

theorem keeps_raiseCounter (typ svn : Nat) (s : State) : Keeps Touch.raiseCounter s ((raiseCounter typ svn).act s) :=
  keeps_act (within_raiseCounter typ svn (by decide +kernel))

theorem keeps_sbxStop (t : Nat) (s : State) : Keeps Touch.sbxStop s ((sbxStop t).act s) :=
  keeps_act (within_sbxStop t (by decide +kernel))

theorem keeps_dumpToHost (addr : Nat) (bytes : Nat) (words : List Nat) (s : State) : Keeps Touch.dumpToHost s ((dumpToHost addr bytes words).act s) :=
  keeps_act (within_dumpToHost addr bytes words (by decide +kernel))

theorem keeps_takeDump (trig : Bool) (s : State) : Keeps Touch.takeDump s ((takeDump trig).act s) :=
  keeps_act (within_takeDump trig (by decide +kernel))

theorem keeps_setDrivesOk (s : State) : Keeps Touch.setDrivesOk s (setDrivesOk.act s) :=
  keeps_act (within_setDrivesOk (by decide +kernel))

theorem keeps_setBacklog (s : State) : Keeps Touch.setBacklog s (setBacklog.act s) :=
  keeps_act (within_setBacklog (by decide +kernel))

theorem keeps_schedResult (e : Nat) (st : Status) (ns : Nat) (s : State) : Keeps Touch.schedResult s ((schedResult e st ns).act s) :=
  keeps_act (within_schedResult e st ns (by decide +kernel))

theorem keeps_schedAct (e : Nat) (s : State) : Keeps Touch.schedAct s ((schedAct e).act s) :=
  keeps_act (within_schedAct e (by decide +kernel))

theorem keeps_runGapActs (s : State) : Keeps Touch.runGapActs s (runGapActs.act s) :=
  keeps_act (within_runGapActs (by decide +kernel))

theorem keeps_schedRecheck (s : State) : Keeps Touch.schedRecheck s (schedRecheck.act s) :=
  keeps_act (within_schedRecheck (by decide +kernel))

theorem keeps_measure (a b : Int) (s : State) : Keeps Touch.measure s ((measure a b).act s) :=
  keeps_act (within_measure a b (by decide +kernel))

theorem keeps_rederive (mask : Nat) (s : State) : Keeps Touch.rederive s ((rederive mask).act s) :=
  keeps_act (within_rederive mask (by decide +kernel))

theorem keeps_pairEnSync (s : State) : Keeps Touch.pairEnSync s (pairEnSync.act s) :=
  keeps_act (within_pairEnSync (by decide +kernel))

theorem keeps_joinPair (s : State) : Keeps Touch.joinPair s (joinPair.act s) :=
  keeps_act (within_joinPair (by decide +kernel))

theorem keeps_sendChanged (s : State) : Keeps Touch.sendChanged s (sendChanged.act s) :=
  keeps_act (within_sendChanged (by decide +kernel))

theorem keeps_keyMitre (x : MateHello) (s : State) : Keeps Touch.keyMitre s ((keyMitre x).act s) :=
  keeps_act (within_keyMitre x (by decide +kernel))

theorem keeps_linkUp (x : MateHello) (s : State) : Keeps Touch.linkUp s ((linkUp x).act s) :=
  keeps_act (within_linkUp x (by decide +kernel))

theorem keeps_localBoundary (s : State) : Keeps Touch.localBoundary s (localBoundary.act s) :=
  keeps_act (within_localBoundary (by decide +kernel))

theorem keeps_judgeClip (hist : List (Nat × Nat)) (s : State) : Keeps Touch.judgeClip s ((judgeClip hist).act s) :=
  keeps_act (within_judgeClip hist (by decide +kernel))

theorem keeps_raiseSummaries (minute : Bool) (s : State) : Keeps Touch.raiseSummaries s ((raiseSummaries minute).act s) :=
  keeps_act (within_raiseSummaries minute (by decide +kernel))

theorem keeps_restartEnum (busy : Bool) (s : State) : Keeps Touch.restartEnum s ((restartEnum busy).act s) :=
  keeps_act (within_restartEnum busy (by decide +kernel))

theorem keeps_disqualify (c cause : Nat) (s : State) : Keeps Touch.disqualify s ((disqualify c cause).act s) :=
  keeps_act (within_disqualify c cause (by decide +kernel))

theorem keeps_setDrift (c cause : Nat) (rate : Int) (s : State) : Keeps Touch.setDrift s ((setDrift c cause rate).act s) :=
  keeps_act (within_setDrift c cause rate (by decide +kernel))

theorem keeps_vnrCntClr (s : State) : Keeps Touch.vnrCntClr s (vnrCntClr.act s) :=
  keeps_act (within_vnrCntClr (by decide +kernel))

theorem keeps_endLa (r : LaReq) (st : Status) (pay : List Nat) (s : State) : Keeps Touch.endLa s ((endLa r st pay).act s) :=
  keeps_act (within_endLa r st pay (by decide +kernel))

theorem keeps_stopLa (r : LaReq) (st : Status) (s : State) : Keeps Touch.stopLa s ((stopLa r st).act s) :=
  keeps_act (within_stopLa r st (by decide +kernel))

theorem keeps_stopSlot (p k : Nat) (s : State) : Keeps Touch.stopSlot s ((stopSlot p k).act s) :=
  keeps_act (within_stopSlot p k (by decide +kernel))

theorem keeps_sendPacket (typ seq : Nat) (body : List Nat) (s : State) : Keeps Touch.sendPacket s ((sendPacket typ seq body).act s) :=
  keeps_act (within_sendPacket typ seq body (by decide +kernel))

theorem keeps_sendReplyTo (q typ : Nat) (body : List Nat) (s : State) : Keeps Touch.sendReplyTo s ((sendReplyTo q typ body).act s) :=
  keeps_act (within_sendReplyTo q typ body (by decide +kernel))

theorem keeps_scrPlace (g k : Nat) (key : List Nat) (salt : Nat) (s : State) : Keeps Touch.scrPlace s ((scrPlace g k key salt).act s) :=
  keeps_act (within_scrPlace g k key salt (by decide +kernel))

theorem keeps_scrSwitch (ps : List Nat) (s : State) : Keeps Touch.scrSwitch s ((scrSwitch ps).act s) :=
  keeps_act (within_scrSwitch ps (by decide +kernel))

theorem keeps_sendKeys (ps : List Nat) (s : State) : Keeps Touch.sendKeys s ((sendKeys ps).act s) :=
  keeps_act (within_sendKeys ps (by decide +kernel))

theorem keeps_sendKex (peer : Option ScrKex) (s : State) : Keeps Touch.sendKex s ((sendKex peer).act s) :=
  keeps_act (within_sendKex peer (by decide +kernel))

theorem keeps_rxSwitch (s : State) : Keeps Touch.rxSwitch s (rxSwitch.act s) :=
  keeps_act (within_rxSwitch (by decide +kernel))

theorem keeps_takeTribs (f n mfas : Nat) (slices : List (List Nat)) (marked : List Nat) (waits : List (Fin 32 × Bool × Nat)) (s : State) : Keeps Touch.takeTribs s ((takeTribs f n mfas slices marked waits).act s) :=
  keeps_act (within_takeTribs f n mfas slices marked waits (by decide +kernel))

theorem keeps_takeInterop (bytes marked : List Nat) (s : State) : Keeps Touch.takeInterop s ((takeInterop bytes marked).act s) :=
  keeps_act (within_takeInterop bytes marked (by decide +kernel))

theorem keeps_announceMove (s : State) : Keeps Touch.announceMove s (announceMove.act s) :=
  keeps_act (within_announceMove (by decide +kernel))

theorem keeps_txSwitch (s : State) : Keeps Touch.txSwitch s (txSwitch.act s) :=
  keeps_act (within_txSwitch (by decide +kernel))

theorem keeps_sendOh (c : Nat) (s : State) : Keeps Touch.sendOh s ((sendOh c).act s) :=
  keeps_act (within_sendOh c (by decide +kernel))

theorem keeps_sendCbr (s : State) : Keeps Touch.sendCbr s (sendCbr.act s) :=
  keeps_act (within_sendCbr (by decide +kernel))

theorem keeps_takeEth (t : Nat) (bits : List Bool) (s : State) : Keeps Touch.takeEth s ((takeEth t bits).act s) :=
  keeps_act (within_takeEth t bits (by decide +kernel))

theorem keeps_sendSlices (waits : List (Fin 32 × Nat)) (s : State) : Keeps Touch.sendSlices s ((sendSlices waits).act s) :=
  keeps_act (within_sendSlices waits (by decide +kernel))

end Sys2Proof.Machine

/-!
The line transmitter: its commands complete with their effects (Table 2.9).
-/
namespace Sys2Proof.Machine
open Sys2Proof

set_option Elab.async false

/-! ### What the transmitter's shared effects leave -/



/-- The entries of a plan's bank. -/
theorem keeps_bankEntries (b : Nat) (ws : List Nat) (s : State) : Keeps ⟨0, LTX_PLAN_SC.fields, [], [], []⟩ s
    ((forE (List.range 16) fun k => putWord LTX_PLAN_SC.fields (ws.getD k 0) (16 * b + k)).act s) := by
  have hsc : LTX_PLAN_SC.fields.all (May.foot ⟨0, LTX_PLAN_SC.fields, [], [], []⟩).fld = true := by decide +kernel
  exact keeps_act (within_forE_mem fun k _ t => within_putWord _ _ _ hsc)

theorem putBank_planId (b id : Nat) (hb : b < 2) (ws : List Nat) (s : State) : ((putBank b id ws).act s).rd LTX_PLAN_HDR.PLAN_ID b = id % 256 := by
  simp only [putBank, act_seq_cons, act_seq_nil, act_put]
  rw [(keeps_bankEntries _ _ _).rd, rd_wr_self]
  · rfl
  · interval_cases b <;> decide

/-- Bank 0 keeps its identifier as bank 1 is written. -/
theorem putBank_planId_other (id : Nat) (ws : List Nat) (s : State) :
    ((putBank 1 id ws).act s).rd LTX_PLAN_HDR.PLAN_ID 0 = s.rd LTX_PLAN_HDR.PLAN_ID 0 := by
  simp only [putBank, act_seq_cons, act_seq_nil, act_put]
  rw [(keeps_bankEntries _ _ _).rd (by decide), rd_wr_ne _ _ _ _ _ _ (by decide)]

/-- Both banks hold plan 0 after a change of mode (R95). -/
theorem loadPlan0_planId (s : State) : (loadPlan0.act s).rd LTX_PLAN_HDR.PLAN_ID 0 = 0 ∧ (loadPlan0.act s).rd LTX_PLAN_HDR.PLAN_ID 1 = 0 := by
  simp (disch := decide) only [loadPlan0, act_rules, upd_rules, rd_rules, rd_mk, (keeps_dropLoads _ _).rd, (keeps_setChk _).rd, putBank_planId,
    putBank_planId_other]
  decide

theorem setTxMode_mode (m n : Nat) (s : State) : ((setTxMode m n).act s).txMode = m % 16 ∧ ((setTxMode m n).act s).txN = n % 64 := by
  simp (disch := decide) only [setTxMode, State.txMode, State.txN, act_rules, rd_rules, (keeps_scrFollow _).rd, (keeps_judgeFill _).rd,
    (keeps_loadPlan0 _).rd, ite_self]
  exact ⟨rfl, rfl⟩

theorem setTxMode_planId (m n : Nat) (s : State) (h : m ≠ s.txMode) :
    ((setTxMode m n).act s).rd LTX_PLAN_HDR.PLAN_ID 0 = 0 ∧ ((setTxMode m n).act s).rd LTX_PLAN_HDR.PLAN_ID 1 = 0 := by
  simp (disch := decide) only [setTxMode, act_rules, bne_iff_ne.2 h, Bool.true_or, if_true, (keeps_scrFollow _).rd, (keeps_judgeFill _).rd,
    loadPlan0_planId, and_self]


/-- The lock judgement moves the bring-up on, and nothing else of the transmitter's hidden state. -/
theorem judgeLock_ltx (s : State) : (judgeLock.act s).ltx = { s.ltx with bring := (judgeLock.act s).ltx.bring } := by
  simp (disch := decide) only [judgeLock, act_rules, upd_rules, ltx_rules]
  split_ifs <;> rfl

theorem judgeLock_loops (s : State) : (judgeLock.act s).ltx.ditherHz = s.ltx.ditherHz ∧ (judgeLock.act s).ltx.ditherAmp = s.ltx.ditherAmp ∧
    (judgeLock.act s).ltx.sweeping = s.ltx.sweeping ∧ (judgeLock.act s).ltx.loop = s.ltx.loop := by
  rw [judgeLock_ltx]
  exact ⟨rfl, rfl, rfl, rfl⟩

theorem applyPlan_ltx (sf : Nat) (s : State) : ((applyPlan sf).act s).ltx = { s.ltx with acc := 0, blk := [], sfs := 0 } := by
  simp (disch := decide) only [applyPlan, act_rules, upd_rules, ltx_rules, (keeps_putBank _ _ _ _).ltx]
  split_ifs <;> rfl

/-- What a rollback returns to restarts the block order where it is applied, and no more of the transmitter's hidden state. -/
theorem commitReturn_ltx (s : State) : (commitReturn.act s).ltx.bring = s.ltx.bring ∧ (commitReturn.act s).ltx.atten = s.ltx.atten ∧
    (commitReturn.act s).ltx.las = s.ltx.las := by
  unfold commitReturn
  simp (disch := decide) only [act_rules]
  split
  · simp (disch := decide) only [act_rules, upd_rules, ltx_rules, commitPlan, applyPlan_ltx, (keeps_setChk _).ltx, (keeps_putBank _ _ _ _).ltx]
    split_ifs <;> exact ⟨rfl, rfl, rfl⟩
  · simp only [act_rules, and_self]

/-- The enable of a laser takes its value. -/
theorem setLasEn_en (p : Nat) (hp : p < 2) (en : Bool) (s : State) : ((setLasEn p en).act s).rd LTX_LAS_CTRL.EN p = b2n en := by
  have hw : b2n en % 2 ^ LTX_LAS_CTRL.EN.width = b2n en := by cases en <;> rfl
  interval_cases p <;>
  simp (disch := decide) only [setLasEn, act_rules, rd_rules, (keeps_laserFresh _ _).rd, (keeps_laserOn _ _).rd, (keeps_laserOff _ _).rd, (keeps_tune _ _).rd, ite_self, hw]

/-! ### The commands -/

theorem ltxModeSet_does : Does .ltxModeSet opLtxModeSet (fun p s => s.lit = false ∧ modeOk s.is1600 (nth p 0) (nth p 1) = true ∧ modeArgsOk p = true ∧
      widthOk (nth p 0) (nth p 1) (nth p 2) (nth p 3) = true ∧ s.scribeOk (nth p 0) (nth p 1) (nth p 2) (nth p 3) = true)
    (fun _ p s t => t.txMode = nth p 0 ∧ t.txN = nth p 1 % 64 ∧ t.rd LTX_SHAPE.ROLLOFF = nth p 2 ∧ t.rd LTX_SHAPE.KERF = nth p 3 ∧
      t.rd LTX_CLIP.LEVEL = nth p 6 ∧ (nth p 0 ≠ s.txMode → t.rd LTX_PLAN_HDR.PLAN_ID 0 = 0 ∧ t.rd LTX_PLAN_HDR.PLAN_ID 1 = 0)) := by
  refine does_of_okE (fun _ _ _ => rfl) ?_
  rintro h p s ⟨hlit, hmode, hargs, hwidth, hscribe⟩
  refine ⟨_, by simp [opLtxModeSet, hlit, hmode, hargs, hwidth, hscribe]; rfl, fun t k => ?_⟩
  obtain ⟨hm, hn⟩ := setTxMode_mode (nth p 0) (nth p 1) s
  simp (disch := decide) only [State.txMode, State.txN, k.rd, act_rules, rd_rules]
  obtain ⟨hle, -⟩ : nth p 0 ≤ 11 ∧ _ := by simpa [modeOk, and_assoc] using hmode
  simp only [modeArgsOk, Bool.and_eq_true, decide_eq_true_eq] at hargs
  obtain ⟨⟨⟨⟨⟨⟨-, hroll⟩, hkerf⟩, -⟩, -⟩, -, hlevel⟩, -⟩ := hargs
  exact ⟨hm.trans (Nat.mod_eq_of_lt (by omega)), hn, Nat.mod_eq_of_lt hroll, Nat.mod_eq_of_lt (lt_of_le_of_lt hkerf (by decide)),
    Nat.mod_eq_of_lt (lt_of_le_of_lt hlevel (by decide)), setTxMode_planId _ _ _⟩

theorem ltxPlanLoad_starts : Starts .ltxPlanLoad opLtxPlanLoad (fun p s => s.on LTX_STATUS.PLAN_PENDING = false ∧ s.on LRX_ADAPT_CFG.TX_EN = false ∧
      planCheck s.txMode s.txN true (nth p 0) (loadWords (p.drop 1)) = none)
    (fun h p s t => t.ltx.loads = s.ltx.loads ++ [runOf h 0x0202 p]) := by
  refine starts_of_deferE (fun _ _ _ => rfl) ?_
  rintro h p s ⟨hp, ha, hk⟩
  refine ⟨_, by simp only [opLtxPlanLoad, hp, ha, hk]; rfl, fun u hu => ?_⟩
  simp only [act_rules, upd_rules, hu.ltx, and_self]

/-- The shadow plan applied at once (R72). -/
theorem applyPlan_done (sf : Nat) (s : State) : ((applyPlan sf).act s).rd LTX_STATUS.PLAN_PENDING = 0 ∧
    ((applyPlan sf).act s).rd LTX_PLAN_CHG.TARGET_SF = sf % 65536 ∧ ((applyPlan sf).act s).rd LTX_PLAN_CHG.CD = 0 ∧ ((applyPlan sf).act s).ltx.acc = 0 := by
  simp (disch := decide) only [applyPlan, act_rules, upd_rules, rd_rules, rd_mk, ltx_rules, ite_self, Nat.zero_mod, true_and, and_true]
  rfl

theorem ltxPlanCommit_does : Does .ltxPlanCommit opLtxPlanCommit (fun p s => s.on LTX_STATUS.PLAN_PENDING = false ∧ s.on LRX_ADAPT_CFG.TX_EN = false ∧
      nth p 0 = s.rd LTX_PLAN_HDR.PLAN_ID 1 ∧ planCheck s.txMode s.txN true (s.rd LTX_PLAN_HDR.PLAN_ID 1) (s.bankWords 1) = none)
    (fun _ _ s t => if s.sending then t.rd LTX_STATUS.PLAN_PENDING = 1 ∧ t.rd LTX_PLAN_CHG.TARGET_SF = (s.rd LTX_SF_NUM.ALL + 17) % 65536 ∧ t.rd LTX_PLAN_CHG.CD = 16
      else t.rd LTX_STATUS.PLAN_PENDING = 0 ∧ t.rd LTX_PLAN_CHG.TARGET_SF = 0xFFFF ∧ t.ltx.acc = 0) := by
  refine does_of_okP (fun _ _ _ => rfl) ?_
  rintro h p s ⟨hp, ha, hid, hk⟩
  refine ⟨commitPlan, fun s => [s.rd LTX_PLAN_CHG.TARGET_SF], by simp [opLtxPlanCommit, hp, ha, hk, hid], fun t k => ?_⟩
  obtain ⟨hpend, htarget, -, hacc⟩ := applyPlan_done 0xFFFF s
  split
  next hs =>
    simp (disch := decide) only [k.keeps.rd, commitPlan, act_rules, rd_rules, hs, if_true]
    exact ⟨rfl, rfl, rfl⟩
  next hs =>
    simp (disch := decide) only [k.keeps.rd, k.keeps.ltx, commitPlan, act_rules, hs, if_false, Bool.false_eq_true]
    exact ⟨hpend, htarget, hacc⟩

theorem cancelPlan_done (s : State) : (cancelPlan.act s).rd LTX_STATUS.PLAN_PENDING = 0 ∧ (cancelPlan.act s).rd LTX_PLAN_CHG.CD = 0 := by
  simp (disch := decide) only [cancelPlan, act_rules, upd_rules, rd_rules, rd_mk, ite_self, Nat.zero_mod, and_self]

theorem ltxPlanCancel_does : Does .ltxPlanCancel opLtxPlanCancel (fun _ s => s.cancelOk = true ∧ s.on LRX_ADAPT_CFG.TX_EN = false)
    (fun _ _ _ t => t.rd LTX_STATUS.PLAN_PENDING = 0 ∧ t.rd LTX_PLAN_CHG.CD = 0) := by
  refine does_of_okE (fun _ _ _ => rfl) ?_
  rintro h p s ⟨hc, ha⟩
  refine ⟨cancelPlan, by simp [opLtxPlanCancel, hc, ha], fun t k => ?_⟩
  simp (disch := decide) only [k.rd]
  exact cancelPlan_done s

theorem ltxPlanGet_answers : Answers .ltxPlanGet opLtxPlanGet (fun p _ => nth p 0 ≤ 1) (fun p s => [s.rd LTX_PLAN_HDR.PLAN_ID (nth p 0)] ++ s.bankWords (nth p 0) ++
    [sumE (s.bankWords (nth p 0)), wMin s.txMode s.txN] ++ (if s.on LTX_STATUS.PLAN_PENDING then [s.rd LTX_PLAN_CHG.TARGET_SF] else [])) := by
  refine answers_of_body (fun _ _ _ => rfl) fun h p s hp => ⟨_, if_neg (not_lt.2 hp), rfl⟩

theorem ltxBiasCtrl_does : Does .ltxBiasCtrl opLtxBiasCtrl (fun p _ => nth p 0 ≤ 63 ∧ nth p 1 ≤ 1 ∧ (1000 ≤ nth p 2 ∧ nth p 2 ≤ 40000) ∧ (1 ≤ nth p 3 ∧ nth p 3 ≤ 40) ∧
      (4 ≤ nth p 4 ∧ nth p 4 ≤ 256) ∧ nth p 5 ≤ 7 ∧ nth p 6 ≤ 1)
    (fun _ p _ t => t.rd LTX_BIAS_CTRL.EN = nth p 0 ∧ t.rd LTX_BIAS_CTRL.HOLD = nth p 1 ∧ t.ltx.ditherHz = nth p 2 ∧ t.ltx.ditherAmp = nth p 3 ∧
      t.rd LTX_BIAS_CTRL.GAIN = nth p 5 ∧ (nth p 6 = 1 → t.ltx.sweeping = true)) := by
  refine does_of_okP (fun _ _ _ => rfl) ?_
  rintro h p s ⟨h0, h1, ⟨h2, h2'⟩, ⟨h3, h3'⟩, ⟨h4, h4'⟩, h5, h6⟩
  have hin : ¬ (63 < nth p 0 ∨ 1 < nth p 1 ∨ nth p 2 < 1000 ∨ 40000 < nth p 2 ∨ nth p 3 < 1 ∨ 40 < nth p 3 ∨ nth p 4 < 4 ∨ 256 < nth p 4 ∨ 7 < nth p 5 ∨ 1 < nth p 6) := by
    omega
  refine ⟨_, _, by simp only [opLtxBiasCtrl, hin, if_false]; rfl, fun t k => ?_⟩
  simp (disch := decide) only [k.keeps.rd, k.keeps.ltx, (keeps_judgeLock _).rd, startSweep, act_rules, upd_rules, rd_rules, rd_mk, ite_self,
    judgeLock_loops, ltx_rules, apply_ite LtxSt.ditherHz, apply_ite LtxSt.ditherAmp, apply_ite LtxSt.sweeping]
  refine ⟨Nat.mod_eq_of_lt (lt_of_le_of_lt h0 (by decide)), Nat.mod_eq_of_lt (lt_of_le_of_lt h1 (by decide)), trivial, trivial,
    Nat.mod_eq_of_lt (lt_of_le_of_lt h5 (by decide)), fun h => ?_⟩
  simp only [h, beq_self_eq_true, if_true]

theorem ltxLaserSet_tunes : Does .ltxLaserSet opLtxLaserSet (fun p s => p.length = 5 ∧ nth p 0 = 0 ∧ nth p 1 ≤ 1 ∧ (1200 ≤ nth p 3 ∧ nth p 3 ≤ 1800) ∧ nth p 4 ≤ 1 ∧
      lasFreqOk (nth p 2) = true ∧ s.lit = false)
    (fun _ p _ t => t.rd LTX_LAS_FREQ.FREQ (nth p 1) = nth p 2 ∧ t.rd LTX_LAS_CTRL.POWER (nth p 1) = nth p 3 ∧ t.rd LTX_LAS_CTRL.EN (nth p 1) = nth p 4) := by
  refine does_of_okE (fun _ _ _ => rfl) ?_
  rintro h p s ⟨hlen, h0, h1, ⟨h3, h3'⟩, h4, hfreq, hlit⟩
  refine ⟨_, by simp [opLtxLaserSet, laserSet, hlen, h0, not_lt.2 h1, not_lt.2 h4, not_lt.2 h3, not_lt.2 h3', hfreq, hlit]; rfl, fun t k => ?_⟩
  obtain hp | hp : nth p 1 = 0 ∨ nth p 1 = 1 := by omega
  all_goals
    simp (disch := decide) only [hp, k.rd, act_rules, rd_rules, (keeps_laserFresh _ _).rd, (keeps_tune _ _).rd, (keeps_lasPower _ _).rd, (keeps_setLasEn _ _ _).rd,
      setLasEn_en, ite_self]
    refine ⟨Nat.mod_eq_of_lt ?_, Nat.mod_eq_of_lt (lt_of_le_of_lt h3' (by decide)), ?_⟩
    · simp only [lasFreqOk, Bool.and_eq_true, decide_eq_true_eq] at hfreq
      exact lt_of_le_of_lt hfreq.1.2 (by decide)
    · split
      next hen => rw [hen.1, State.rd_of_on hen.2]
      next => interval_cases nth p 4 <;> rfl

theorem ltxLaserSet_fineTunes : Does .ltxLaserSet opLtxLaserSet (fun p s => p.length = 3 ∧ nth p 0 = 1 ∧ nth p 1 ≤ 1 ∧ s.ftfOk (nth p 1) (ofPat 32 (nth p 2)) = true ∧
      (s.ltx.laser (nth p 1)).recent = false)
    (fun _ p _ t => (t.ltx.laser (nth p 1)).ftf = ofPat 32 (nth p 2) ∧ (t.ltx.laser (nth p 1)).recent = true) := by
  refine does_of_okE (fun _ _ _ => rfl) ?_
  rintro h p s ⟨hlen, h0, h1, hftf, hrec⟩
  refine ⟨acceptFtf (nth p 1) (ofPat 32 (nth p 2)), by simp [opLtxLaserSet, laserSet, hlen, h0, not_lt.2 h1, hftf], fun t k => ?_⟩
  simp only [k.ltx, acceptFtf, act_rules, hrec, Bool.false_eq_true, if_false, act_modLaser, ltx_rules]
  simp [LtxSt.laser]

theorem ltxLaserSet_times : Does .ltxLaserSet opLtxLaserSet (fun p _ => p.length = 2 ∧ nth p 0 = 2 ∧
      wordOk [LTX_LAS_TIMERS.TUNE_TO, LTX_LAS_TIMERS.POLL, LTX_LAS_TIMERS.RESP_TO, LTX_LAS_TIMERS.BIAS_TO] (nth p 1) = true)
    (fun _ p _ t => ∀ f ∈ [LTX_LAS_TIMERS.TUNE_TO, LTX_LAS_TIMERS.POLL, LTX_LAS_TIMERS.RESP_TO, LTX_LAS_TIMERS.BIAS_TO], t.rd f = f.raw (nth p 1)) := by
  refine does_of_okE (fun _ _ _ => rfl) ?_
  rintro h p s ⟨hlen, h0, hok⟩
  refine ⟨_, by simp only [opLtxLaserSet, laserSet, hlen, h0, hok]; rfl, fun t k => ?_⟩
  intro f hf
  have hne : f.key 0 ≠ OBS_REC_RSEQ.ALL.key 0 := (by decide : ∀ f ∈ [LTX_LAS_TIMERS.TUNE_TO, LTX_LAS_TIMERS.POLL, LTX_LAS_TIMERS.RESP_TO, LTX_LAS_TIMERS.BIAS_TO],
    f.key 0 ≠ OBS_REC_RSEQ.ALL.key 0) f hf
  have hw : f.writable = true := (by decide : ∀ f ∈ [LTX_LAS_TIMERS.TUNE_TO, LTX_LAS_TIMERS.POLL, LTX_LAS_TIMERS.RESP_TO, LTX_LAS_TIMERS.BIAS_TO],
    f.writable = true) f hf
  rw [k.rd hne]
  exact putWord_rd hf hw (by decide) _ _ _

theorem ltxLaserStatus_answers : Answers .ltxLaserStatus opLtxLaserStatus (fun p _ => nth p 0 ≤ 1) (fun p s => [s.rd LTX_LAS_STAT.STATUSF (nth p 0), (s.ltx.laser (nth p 0)).statusW,
    (s.ltx.laser (nth p 0)).lf, (s.ltx.laser (nth p 0)).oop, (s.ltx.laser (nth p 0)).ctemp, s.rd LTX_LAS_STAT.RESETS (nth p 0)]) :=
  answers_of_body (fun _ _ _ => rfl) fun _ _ _ hp => ⟨_, if_neg (not_lt.2 hp), rfl⟩

/-- The attenuation of LTX_OUTPUT: in force at once while TX_OUT is lit. -/
def setAtten (v : Nat) (lit : Bool) : Eff := upd (.ltx fun x => { x with atten := v, attNow := if lit then v else x.attNow })

/-- TX_OUT going dark while no LTX_OUTPUT waits gives no reply. -/
theorem goDark_slots {s : State} (hrun : s.ltx.outRun = none) (cause : Nat) : ((goDark cause).act s).cmd.slots = s.cmd.slots := by
  simp (disch := decide) only [goDark, hrun, act_rules, upd_rules, (keeps_commitReturn _).slots,
    (keeps_applyPlan _ _).slots, (keeps_moveNow _ _).slots, (keeps_batchNow _ _).slots, slots_rules, ite_self]

/-- TX_OUT is dark and its bring-up over. -/
theorem goDark_done (s : State) (cause : Nat) : ((goDark cause).act s).on LTX_STATUS.TX_ON = false ∧ ((goDark cause).act s).rd LTX_CTRL.OUT_EN = 0 ∧
    ((goDark cause).act s).ltx.bring = 0 ∧ ((goDark cause).act s).ltx.atten = s.ltx.atten := by
  unfold goDark
  simp (disch := decide) only [act_rules]
  split <;>
  simp (disch := decide) only [act_rules, upd_rules, rd_rules, on_rules, ltx_rules, rd_mk, on_mk, (onlyReplies_finish _ _ _ _).rd, (onlyReplies_finish _ _ _ _).on,
    (onlyReplies_finish _ _ _ _).ltx, (keeps_batchNow _ _).rd, (keeps_batchNow _ _).on, (keeps_batchNow _ _).ltx, (keeps_moveNow _ _).rd, (keeps_moveNow _ _).on, (keeps_moveNow _ _).ltx,
    (keeps_commitReturn _).rd, (keeps_commitReturn _).on, (keeps_applyPlan _ _).rd, (keeps_applyPlan _ _).on, commitReturn_ltx, applyPlan_ltx, apply_ite LtxSt.bring, apply_ite LtxSt.atten, ite_self]
  all_goals exact ⟨rfl, rfl, trivial, trivial⟩

theorem ltxOutput_darkens : Does .ltxOutput opLtxOutput (fun p s => nth p 0 = 0 ∧ nth p 1 ≤ 150 ∧ s.ltx.outRun = none)
    (fun _ p _ t => t.lit = false ∧ t.rd LTX_CTRL.OUT_EN = 0 ∧ t.ltx.bring = 0 ∧ t.ltx.atten = nth p 1) := by
  refine does_of_pendThen (fun _ _ _ => rfl) ?_
  rintro h p s ⟨h0, h1, hrun⟩
  refine ⟨_, seqE [setAtten (nth p 1) s.lit, goDark 1], [], by simp only [opLtxOutput, h0, not_lt.2 h1]; rfl, fun u => by simp only [act_rules, setAtten]; rfl,
    fun u hu => ⟨?_, fun t k => ?_⟩⟩
  · simp only [act_rules, upd_rules, setAtten]
    exact goDark_slots (by simp only [hu.ltx, hrun]) 1
  · simp (disch := decide) only [State.lit, k.rd, k.on, k.ltx, act_rules, upd_rules, setAtten, goDark_done, hu.ltx, and_self]

theorem ltxOutput_stays : Does .ltxOutput opLtxOutput (fun p s => nth p 0 = 1 ∧ nth p 1 ≤ 150 ∧ s.ltx.bring = 0 ∧ s.sending = true)
    (fun _ p s t => t.lit = s.lit ∧ t.ltx.atten = nth p 1 ∧ t.ltx.attNow = (if s.lit then nth p 1 else s.ltx.attNow)) := by
  refine does_of_pendThen (fun _ _ _ => rfl) ?_
  rintro h p s ⟨h0, h1, hb, hs⟩
  refine ⟨_, setAtten (nth p 1) s.lit, [], by simp only [opLtxOutput, h0, not_lt.2 h1, hb, hs]; rfl, fun u => by simp only [act_rules, setAtten]; rfl,
    fun u hu => ⟨?_, fun t k => ?_⟩⟩
  · simp only [act_rules, upd_rules, setAtten]
  · simp (disch := decide) only [State.lit, k.on, k.ltx, act_rules, upd_rules, setAtten, on_mk, hu.ltx, hu.on]
    exact ⟨trivial, trivial, rfl⟩

theorem ltxOutput_starts : Starts .ltxOutput opLtxOutput (fun p s => nth p 0 = 1 ∧ nth p 1 ≤ 150 ∧ s.ltx.bring = 0 ∧ s.sending = false ∧ s.canLight = true ∧ s.scr.beacon = false)
    (fun h p _ t => t.rd LTX_CTRL.OUT_EN = 1 ∧ t.ltx.bring = 1 ∧ t.ltx.sweeping = true ∧ t.ltx.drive = false ∧ t.ltx.attNow = 150 ∧ t.ltx.outRun = some (runOf h 0x0209 p)) := by
  refine starts_of_pendE (fun _ _ _ => rfl) ?_
  rintro h p s ⟨h0, h1, hb, hs, hl, hbeacon⟩
  refine ⟨_, by simp only [opLtxOutput, h0, not_lt.2 h1, hb, hs, hl]; rfl, fun t k => ?_⟩
  simp (disch := decide) only [k.rd, k.ltx, endBeacon, startBring, startSweep, hbeacon, act_rules, upd_rules, rd_rules, rd_mk, ltx_rules, scr_rules, Bool.false_eq_true, if_false]
  exact ⟨rfl, trivial, trivial, trivial, trivial, trivial⟩

/-- Settles O1. -/
theorem transmitCommands : Obligations.TransmitCommands :=
  ⟨ltxModeSet_does, ltxPlanLoad_starts, ltxPlanCommit_does, ltxPlanCancel_does, ltxPlanGet_answers, ltxBiasCtrl_does, ltxLaserSet_tunes, ltxLaserSet_fineTunes,
    ltxLaserSet_times, ltxLaserStatus_answers, ltxOutput_darkens, ltxOutput_stays, ltxOutput_starts⟩

end Sys2Proof.Machine

/-!
The line transmitter's register writes and events (R79 to R98).
-/
namespace Sys2Proof.Machine
open Sys2Proof

set_option Elab.async false

/-- A laser that starts tuning tunes. -/
theorem tune_tuning (p : Nat) (hp : p < 2) (s : State) : ((tune p).act s).on LTX_LAS_STAT.TUNING p = true := by
  interval_cases p <;>
  simp (disch := decide) only [tune, act_rules, on_rules, on_mk, ite_self] <;> rfl

/-- A laser that is disabled lases no more. -/
theorem setLasEn_off (p : Nat) (hp : p < 2) (s : State) (he : s.on LTX_LAS_CTRL.EN p = true) :
    ((setLasEn p false).act s).on LTX_LAS_STAT.LASING p = false := by
  interval_cases p <;>
  simp (disch := decide) only [setLasEn, he, laserOff, laserIdle, lasReady, act_rules, on_rules, on_mk, Bool.false_and, Bool.false_eq_true, if_false, Bool.not_false, Bool.and_self, if_true] <;> rfl

/-- A signed word reads back from its pattern. -/
theorem ofPat_toPat_toInt (v : BitVec 16) : ofPat 16 (toPat 16 v.toInt % 2 ^ 16) = v.toInt := by
  have := v.isLt
  simp only [ofPat, toPat, BitVec.toInt]
  split_ifs <;> omega

/-- An offset accepted reads back as the number it is. -/
theorem acceptFtf_reads (p : Nat) (v : BitVec 16) (s : State) :
    LTX_LAS_CTRL.FTF.int (((acceptFtf p v.toInt).act s).rd LTX_LAS_CTRL.FTF p) = v.toInt := by
  simp only [acceptFtf, act_rules, act_modLaser, rd_rules, rd_mk, ite_self]
  exact ofPat_toPat_toInt v

theorem ltxModeWrite_completes : ∀ m mode n s, s.takes m 1 → s.locked m.val LTX_CTRL.MODE 0 = false → modeOk s.is1600 mode.toNat n.toNat = true →
    widthOk mode.toNat n.toNat (s.rd LTX_SHAPE.ROLLOFF) (s.rd LTX_SHAPE.KERF) = true → s.scribeOk mode.toNat n.toNat (s.rd LTX_SHAPE.ROLLOFF) (s.rd LTX_SHAPE.KERF) = true →
    Completes (.ltxModeWrite m mode n) s (fun t => t.txMode = mode.toNat ∧ t.txN = n.toNat ∧ (mode.toNat ≠ s.txMode → t.rd LTX_PLAN_HDR.PLAN_ID 0 = 0)) := by
  intro m mode n s ht hlock hmode hwidth hscribe
  refine completes_byMaster rfl ht fun t k => ?_
  have hact : (ltxModeWrite m.val mode.toNat n.toNat).act s = (setTxMode mode.toNat n.toNat).act s := by
    simp only [ltxModeWrite, act_rules, hlock, hmode, hwidth, hscribe, Bool.false_and, Bool.and_self, Bool.false_eq_true, if_false, if_true]
  rw [hact] at k
  simp (disch := decide) only [State.txMode, State.txN, k.rd]
  obtain ⟨hm, hn⟩ := setTxMode_mode mode.toNat n.toNat s
  exact ⟨hm.trans (Nat.mod_eq_of_lt mode.isLt), hn.trans (Nat.mod_eq_of_lt n.isLt), fun h => (setTxMode_planId _ _ _ h).1⟩

theorem planChgCommit_completes : ∀ m s, s.takes m 1 → s.on LTX_STATUS.PLAN_PENDING = false → s.on LRX_ADAPT_CFG.TX_EN = false → s.sending = true →
    planCheck s.txMode s.txN true (s.rd LTX_PLAN_HDR.PLAN_ID 1) (s.bankWords 1) = none →
    Completes (.planChgCommit m) s (fun t => t.rd LTX_PLAN_CHG.RESULT = 1 ∧ t.rd LTX_STATUS.PLAN_PENDING = 1 ∧ t.rd LTX_PLAN_CHG.CD = 16) := by
  intro m s ht hp ha hs hk
  refine completes_byMaster rfl ht fun t k => ?_
  simp (disch := decide) only [k.rd, planChgCommit, commitPlan, hp, ha, hs, hk, act_rules, rd_rules, Bool.or_self, Bool.false_eq_true, if_false, if_true]
  exact ⟨rfl, rfl, rfl⟩

theorem planChgCancel_completes : ∀ m s, s.takes m 1 → s.cancelOk = true → s.on LRX_ADAPT_CFG.TX_EN = false →
    Completes (.planChgCancel m) s (fun t => t.rd LTX_PLAN_CHG.RESULT = 1 ∧ t.rd LTX_STATUS.PLAN_PENDING = 0) := by
  intro m s ht hc ha
  refine completes_byMaster rfl ht fun t k => ?_
  simp (disch := decide) only [k.rd, planChgCancel, hc, ha, act_rules, rd_rules, cancelPlan_done, Bool.and_self, Bool.not_false, if_true]
  exact ⟨rfl, trivial⟩

theorem biasSweep_completes : ∀ m s, s.takes m 1 → Completes (.biasSweep m) s (fun t => t.ltx.sweeping = true ∧ t.rd LTX_STATUS.BIAS_LOCKED = 0) := by
  intro m s ht
  refine completes_byMaster rfl ht fun t k => ?_
  simp (disch := decide) only [k.rd, k.ltx, startSweep, act_rules, upd_rules, rd_rules, ltx_rules]
  exact ⟨trivial, rfl⟩

theorem lasEnWrite_completes : ∀ m p en s, s.takes m 1 → Completes (.lasEnWrite m p en) s (fun t => t.rd LTX_LAS_CTRL.EN p.val = b2n en ∧ (s.on LTX_LAS_CTRL.EN p.val = true → en = false → t.on LTX_LAS_STAT.LASING p.val = false)) := by
  intro m p en s ht
  refine completes_byMaster rfl ht fun t k => ?_
  obtain ⟨p, hp⟩ := p
  have hen := setLasEn_en p hp en s
  interval_cases p
  all_goals
    simp (disch := decide) only [k.rd, k.on, hen, true_and]
    rintro he rfl
    exact setLasEn_off _ (by decide) s he

theorem lasFreqWrite_completes : ∀ m p v s, s.takes m 1 → s.locked m.val LTX_LAS_FREQ.FREQ p.val = false → LTX_LAS_FREQ.FREQ.inRange v.toNat = true → lasFreqOk v.toNat = true →
    Completes (.lasFreqWrite m p v) s (fun t => t.rd LTX_LAS_FREQ.FREQ p.val = v.toNat ∧ (s.on LTX_LAS_CTRL.EN p.val = true → s.lit = false → t.on LTX_LAS_STAT.TUNING p.val = true)) := by
  intro m p v s ht hl hr hf
  refine completes_byMaster rfl ht fun t k => ?_
  obtain ⟨p, hp⟩ := p
  have hw : s.writable LTX_LAS_FREQ.FREQ.block = true := ht.2
  have hact : (lasFreqWrite m.val p v.toNat).act s = (seqE [put LTX_LAS_FREQ.FREQ v.toNat p,
      whenE (s.on LTX_LAS_CTRL.EN p && !s.lit) (seqE [laserFresh p, tune p])]).act s := by
    simp only [lasFreqWrite, setFieldIf, act_rules, hw, hl, hr, hf, Bool.not_true, Bool.or_self, Bool.false_eq_true, if_false]
  have hmod : v.toNat % 2 ^ LTX_LAS_FREQ.FREQ.width = v.toNat := Nat.mod_eq_of_lt v.isLt
  rw [hact] at k
  interval_cases p
  all_goals
    simp (disch := decide) only [k.rd, k.on, act_rules, rd_rules, (keeps_laserFresh _ _).rd, (keeps_tune _ _).rd, ite_self, hmod, true_and]
    intro he hlit
    simp only [he, hlit, Bool.not_false, Bool.and_self, if_true]
    exact tune_tuning _ (by decide) _

theorem lasFtfWrite_completes : ∀ m p v s, s.takes m 1 → s.ftfOk p.val v.toInt = true → Completes (.lasFtfWrite m p v) s (fun t => t.rdI LTX_LAS_CTRL.FTF p.val = v.toInt) := by
  intro m p v s ht hf
  refine completes_byMaster rfl ht fun t k => ?_
  obtain ⟨p, hp⟩ := p
  simp only [lasFtfWrite, act_rules, hf, Bool.not_true, Bool.false_eq_true, if_false] at k
  have hread := acceptFtf_reads p v s
  interval_cases p
  all_goals
    simp (disch := decide) only [State.rdI, k.rd]
    exact hread

theorem lasReset_completes : ∀ m p s, s.takes m 1 → s.on LTX_LAS_CTRL.EN p.val = true → Completes (.lasReset m p) s (fun t => t.rd LTX_LAS_STAT.HOLD p.val = 0 ∧ t.on LTX_LAS_STAT.TUNING p.val = true ∧ (t.ltx.laser p.val).tries = 1) := by
  intro m p s ht he
  refine completes_byMaster rfl ht fun t k => ?_
  obtain ⟨p, hp⟩ := p
  have htune := fun u => tune_tuning p hp u
  simp only [lasReset, act_rules, he, if_true] at k
  interval_cases p
  all_goals
    simp (disch := decide) only [k.rd, k.on, k.ltx, softReset, htune, act_rules, rd_rules, act_modLaser, rd_mk, ltx_rules, (keeps_tune _ _).rd, (keeps_tune _ _).ltx]
    simp [LtxSt.laser]

theorem outEnWrite_darkens : ∀ m s, s.takes m 1 → s.ltx.outRun = none → Completes (.outEnWrite m false) s (fun t => t.lit = false ∧ t.rd LTX_CTRL.OUT_EN = 0 ∧ t.ltx.bring = 0) := by
  intro m s ht hrun
  refine completes_byMaster rfl ht fun t k => ?_
  simp (disch := decide) only [State.lit, k.rd, k.on, k.ltx, outEnWrite, act_rules, goDark_done, Bool.not_false, if_true, and_self]

theorem outEnWrite_starts : ∀ m s, s.takes m 1 → s.sending = false → s.ltx.bring = 0 → s.canLight = true → s.scr.beacon = false →
    Completes (.outEnWrite m true) s (fun t => t.rd LTX_CTRL.OUT_EN = 1 ∧ t.ltx.bring = 1) := by
  intro m s ht hs hb hl hbeacon
  refine completes_byMaster rfl ht fun t k => ?_
  simp (disch := decide) only [k.rd, k.ltx, outEnWrite, endBeacon, startBring, startSweep, hs, hb, hl, hbeacon, act_rules, upd_rules, rd_rules, rd_mk, ltx_rules,
    bne_self_eq_false, Bool.or_self, Bool.not_true, Bool.false_eq_true, if_false]
  exact ⟨rfl, trivial⟩

/-- Settles O2. -/
theorem transmitWrites : Obligations.TransmitWrites :=
  ⟨ltxModeWrite_completes, planChgCommit_completes, planChgCancel_completes, biasSweep_completes, lasEnWrite_completes, lasFreqWrite_completes, lasFtfWrite_completes,
    lasReset_completes, outEnWrite_darkens, outEnWrite_starts⟩

/-! ### Events -/

theorem dithers_of {s : State} (hh : s.biasHeld = false) (hs : s.ltx.sweeping = false) (hm : s.loopMask ≠ 0) : s.dithers = true := by
  simp only [State.dithers, hh, hs, Bool.not_false, Bool.and_self]
  exact bne_iff_ne.2 hm

/-- A laser failure stands, whether it stood or not. -/
theorem laserFail_fails (p : Nat) (hp : p < 2) (s : State) : ((laserFail p).act s).on LTX_LAS_STAT.FAIL p = true := by
  interval_cases p <;>
  simp (disch := decide) only [laserFail, laserIdle, lasReady, softReset, act_rules, on_rules, on_mk, act_modLaser, (keeps_losEnter _).on, (keeps_goDark _ _).on,
    (keeps_unitFails _ _).on, (keeps_tune _ _).on, if_true, ite_self, reduceIte, one_ne_zero]
  all_goals
    split
    · assumption
    · rfl

theorem goDark_las (cause : Nat) (s : State) : ((goDark cause).act s).ltx.las = s.ltx.las := by
  unfold goDark
  simp (disch := decide) only [act_rules]
  split <;>
  simp (disch := decide) only [act_rules, upd_rules, ltx_rules, (onlyReplies_finish _ _ _ _).ltx, (keeps_batchNow _ _).ltx, (keeps_moveNow _ _).ltx, commitReturn_ltx,
    applyPlan_ltx, apply_ite LtxSt.las, ite_self]

/-- A laser failure leaves what the laser last reported. -/
theorem laserFail_statusW (p : Nat) (s : State) : (((laserFail p).act s).ltx.laser p).statusW = (s.ltx.laser p).statusW := by
  simp (disch := decide) only [laserFail, laserIdle, softReset, act_rules, act_modLaser, ltx_rules, LtxSt.laser, (keeps_losEnter _).ltx, (keeps_unitFails _ _).ltx, (keeps_tune _ _).ltx,
    apply_ite LtxSt.las, goDark_las, ite_self]
  split_ifs <;> simp

/-- A failure of an enabled laser that is not under recovery starts its recovery. -/
theorem laserFail_done (p : Nat) (hp : p < 2) (s : State) (hf : s.on LTX_LAS_STAT.FAIL p = false) (he : s.on LTX_LAS_CTRL.EN p = true) (hr : (s.ltx.laser p).recov = false) :
    ((laserFail p).act s).on LTX_LAS_STAT.FAIL p = true ∧ ((laserFail p).act s).on LTX_LAS_STAT.TUNING p = true := by
  refine ⟨laserFail_fails p hp s, ?_⟩
  simp only [laserFail, softReset, act_rules, hf, he, hr, Bool.not_false, Bool.and_self, Bool.false_eq_true, if_false, if_true]
  exact tune_tuning p hp _

theorem planBoundsReady_completes : ∀ r s, s.ltx.loads = [r] → r.opcode = 0x0202 → s.on LTX_STATUS.PLAN_PENDING = false → Completes .planBoundsReady s (fun t => t.ltx.loads = [] ∧ t.rd LTX_PLAN_HDR.PLAN_ID 1 = nth r.par 0 % 256) := by
  intro r s hl hop hp
  refine ⟨_, rfl, ?_⟩
  simp only [act_rules, hl, hop, hp, Bool.false_eq_true, and_false, if_false, if_true]
  simp (disch := decide) only [(onlyReplies_finish _ _ _ _).ltx, (onlyReplies_finish _ _ _ _).rd, (keeps_setChk _).ltx, (keeps_setChk _).rd, (keeps_putBank _ _ _ _).ltx,
    putBank_planId, upd_rules, and_self]

theorem biasSweepDone_completes : ∀ s, s.ltx.sweeping = true → Completes .biasSweepDone s (fun t => t.ltx.sweeping = false ∧ t.ltx.loop = nextLoop s.loopMask 5) := by
  intro s hs
  refine ⟨_, rfl, ?_⟩
  simp only [act_rules, upd_rules, hs, Bool.not_true, Bool.false_eq_true, if_false, judgeLock_loops, and_self]

theorem ditherCycle_completes : ∀ s, s.biasHeld = false → s.ltx.sweeping = false → s.loopMask ≠ 0 → Completes .ditherCycle s (fun t => t.ltx.loop = s.biasLoop ∧
    t.ltx.dsync = some (200 * (s.biasLoop + 1)) ∧ t.out = .dsync (200 * (s.biasLoop + 1)) :: s.out) := by
  intro s hh hs hm
  refine ⟨_, rfl, ?_⟩
  have hd : s.dithers = true := dithers_of hh hs hm
  simp only [act_rules, upd_rules, hd, if_true, and_self]

theorem biasDwellEnd_completes : ∀ s, s.biasHeld = false → s.ltx.sweeping = false → s.loopMask ≠ 0 → Completes .biasDwellEnd s (fun t => t.ltx.loop = nextLoop s.loopMask s.biasLoop ∧
    t.rd LTX_BIAS_DAC.ALL s.biasLoop = biasStep (s.rd LTX_BIAS_DAC.ALL s.biasLoop) (s.rd LTX_BIAS_CTRL.GAIN)
      (Config.biasError s.biasLoop (biasWords (Tab.get [] s.mon.queues 0) s.biasLoop))) := by
  intro s hh hs hm
  refine ⟨_, rfl, ?_⟩
  have hd : s.dithers = true := dithers_of hh hs hm
  simp (disch := decide) only [act_rules, upd_rules, hd, Bool.not_true, Bool.false_eq_true, if_false, (keeps_judgeLock _).rdAny, rd_any_rules, rd_mk, judgeLock_loops, ltx_rules, ite_self,
    true_and]
  refine Nat.mod_eq_of_lt ?_
  simp only [biasStep, clampI]
  exact lt_of_lt_of_eq (by omega : _ < 65536) (by decide)

theorem ftfApply_completes : ∀ p z s, (s.ltx.laser p.val).held = some z → Completes (.ftfApply p) s (fun t => (t.ltx.laser p.val).ftf = z ∧ (t.ltx.laser p.val).held = none) := by
  intro p z s hz
  refine ⟨_, rfl, ?_⟩
  simp only [act_rules, hz, act_modLaser]
  simp [LtxSt.laser]

theorem laserPoll_completes : ∀ p f w s, s.on LTX_LAS_CTRL.EN p.val = true → s.on LTX_LAS_STAT.HOLD p.val = false → Completes (.laserPoll p f w) s (fun t => t.rd LTX_LAS_STAT.STATUSF p.val = f.toNat ∧ (t.ltx.laser p.val).statusW = w.toNat) := by
  intro p f w s he hh
  refine ⟨_, rfl, ?_⟩
  simp only [act_rules, he, hh, Bool.not_false, Bool.and_self, if_true]
  obtain ⟨p, hp⟩ := p
  have hw : f.toNat % 2 ^ LTX_LAS_STAT.STATUSF.width = f.toNat := Nat.mod_eq_of_lt f.isLt
  interval_cases p
  all_goals
    simp (disch := decide) only [rd_rules, act_modLaser, rd_mk, (keeps_laserFail _ _).rd, ite_self, hw, true_and]
    split_ifs
    · rw [laserFail_statusW]
      simp [LtxSt.laser]
    · simp [LtxSt.laser]

theorem itlaResponseTimeout_completes : ∀ p s, s.on LTX_LAS_STAT.FAIL p.val = false → s.on LTX_LAS_CTRL.EN p.val = true → (s.ltx.laser p.val).recov = false → Completes (.itlaResponseTimeout p) s (fun t => t.on LTX_LAS_STAT.FAIL p.val = true ∧ t.on LTX_LAS_STAT.TUNING p.val = true) := by
  intro p s hf he hr
  refine ⟨_, rfl, ?_⟩
  exact laserFail_done p.val p.isLt s hf he hr

theorem laserFaultPin_completes : ∀ p s, s.on LTX_LAS_STAT.FAIL p.val = false → s.on LTX_LAS_CTRL.EN p.val = true → (s.ltx.laser p.val).recov = false → Completes (.laserFaultPin p) s (fun t => t.on LTX_LAS_STAT.FAIL p.val = true ∧ t.on LTX_LAS_STAT.TUNING p.val = true) := by
  intro p s hf he hr
  refine ⟨_, rfl, ?_⟩
  rw [act_seq_cons, act_seq_nil]
  exact laserFail_done p.val p.isLt s hf he hr

theorem laserTuned_completes : ∀ p a b c d s, s.on LTX_LAS_STAT.TUNING p.val = true → Completes (.laserTuned p a b c d) s (fun t => t.on LTX_LAS_STAT.TUNING p.val = false ∧
    t.on LTX_LAS_STAT.TUNED p.val = true ∧ t.on LTX_LAS_STAT.FAIL p.val = false ∧ t.rd LTX_LAS_STAT.RESETS p.val = 0) := by
  intro p a b c d s ht
  refine ⟨_, rfl, ?_⟩
  obtain ⟨p, hp⟩ := p
  interval_cases p
  all_goals
    simp (disch := decide) only [lasReady, act_rules, ht, Bool.not_true, Bool.false_eq_true, if_false, (keeps_tryStart _).rd, (keeps_tryStart _).on, act_modLaser, rd_rules, on_rules, rd_mk, on_mk, one_ne_zero, if_false]
    exact ⟨rfl, rfl, rfl, rfl⟩

theorem laserTuneTimeout_completes : ∀ p s, s.on LTX_LAS_STAT.TUNING p.val = true → Completes (.laserTuneTimeout p) s (fun t => t.on LTX_LAS_STAT.FAIL p.val = true) := by
  intro p s ht
  refine ⟨_, rfl, ?_⟩
  simp only [act_rules, ht, if_true]
  exact laserFail_fails p.val p.isLt _

theorem laserResetRetry_completes : ∀ p s, (s.ltx.laser p.val).recov = true → 3 ≤ (s.ltx.laser p.val).tries →
    Completes (.laserResetRetry p) s (fun t => t.on LTX_LAS_STAT.HOLD p.val = true ∧ t.on LTX_LAS_STAT.LASING p.val = false) := by
  intro p s hr ht
  refine ⟨_, rfl, ?_⟩
  obtain ⟨p, hp⟩ := p
  interval_cases p
  all_goals
    simp (disch := decide) only [act_rules, hr, not_lt.2 ht, Bool.not_true, Bool.false_eq_true, if_false, laserOff, laserIdle, lasReady, act_modLaser, on_rules, on_mk, one_ne_zero, if_false]
    exact ⟨rfl, rfl⟩

theorem outputRampDone_completes : ∀ s, s.ltx.bring = 3 → s.scr.lighting = false → Completes .outputRampDone s (fun t => t.lit = true ∧ t.rd LTX_CTRL.LOCK = 1 ∧ t.ltx.bring = 0 ∧ t.ltx.drive = true ∧ t.ltx.attNow = s.ltx.atten ∧ t.rd LTX_SF_NUM.ALL = 0 ∧ t.ltx.acc = 0) := by
  intro s hb hl
  refine ⟨_, rfl, ?_⟩
  simp (disch := decide) only [act_rules, hb, hl, bne_self_eq_false, Bool.false_eq_true, if_false]
  split <;>
    simp (disch := decide) only [State.lit, act_rules, upd_rules, rd_rules, on_rules, rd_mk, on_mk, ltx_rules, (keeps_startSf _).rd, (keeps_startSf _).on, (keeps_startSf _).ltx, (onlyReplies_finish _ _ _ _).rd,
      (onlyReplies_finish _ _ _ _).on, (onlyReplies_finish _ _ _ _).ltx] <;>
    exact ⟨rfl, rfl, trivial, trivial, trivial, rfl, trivial⟩

theorem biasLockTimeout_completes : ∀ s, s.ltx.bring = 1 ∨ s.ltx.bring = 2 → Completes .biasLockTimeout s (fun t => t.ltx.bring = 0 ∧ t.rd LTX_CTRL.OUT_EN = 0) := by
  intro s hb
  refine ⟨_, rfl, ?_⟩
  have hwaits : (s.ltx.bring != 1 && s.ltx.bring != 2) = false := by rcases hb with hb | hb <;> simp [hb]
  simp only [act_rules, hwaits, Bool.false_eq_true, if_false]
  split <;>
    simp (disch := decide) only [act_rules, upd_rules, rd_rules, ltx_rules, (keeps_unitFails _ _).rd, (keeps_unitFails _ _).ltx, (onlyReplies_finish _ _ _ _).rd,
      (onlyReplies_finish _ _ _ _).ltx] <;>
    exact ⟨trivial, rfl⟩

theorem loLightChange_completes : ∀ b s, Completes (.loLightChange b) s (fun t => t.ltx.loLight = b) := by
  intro b s
  refine ⟨_, rfl, ?_⟩
  simp (disch := decide) only [act_rules, upd_rules, (keeps_tryStart _).ltx]

/-- Settles O3. -/
theorem transmitEvents : Obligations.TransmitEvents :=
  ⟨planBoundsReady_completes, biasSweepDone_completes, ditherCycle_completes, biasDwellEnd_completes, ftfApply_completes, laserPoll_completes,
    itlaResponseTimeout_completes, laserFaultPin_completes, laserTuned_completes, laserTuneTimeout_completes, laserResetRetry_completes, outputRampDone_completes,
    biasLockTimeout_completes, loLightChange_completes⟩

end Sys2Proof.Machine

/-!
The line receiver: its commands, its register writes and its acquisition (R99 to R152).
-/
namespace Sys2Proof.Machine
open Sys2Proof

-- The kernel evaluates many small footprints: one thread serves them all.
set_option Elab.async false


/-- What each round of a loop leaves, the loop leaves. -/
theorem forE_same {α β : Type} (P : State → β) {xs : List α} {f : α → Eff} (h : ∀ x ∈ xs, ∀ s, P ((f x).act s) = P s) (s : State) : P ((forE xs f).act s) = P s := by
  induction xs generalizing s with
  | nil => rw [act_forE_nil]
  | cons x xs ih => rw [act_forE_cons, ih fun y hy => h y (by simp [hy]), h x (by simp)]

/-! ### The mode, the stages and the restarts -/

theorem setRxMode_mode (m n : Nat) (s : State) : ((setRxMode m n).act s).rxMode = m % 16 ∧ ((setRxMode m n).act s).rxN = n % 64 := by
  simp (disch := decide) only [setRxMode, State.rxMode, State.rxN, act_rules, rd_rules, (keeps_syncPorts _).rd, (keeps_judgeFill _).rd, (keeps_emptyTable _).rd, ite_self]
  exact ⟨rfl, rfl⟩

theorem setRxMode_empties (m n : Nat) (s : State) (h : m ≠ s.rxMode) : ((setRxMode m n).act s).lrx.act = 0 ∧ ((setRxMode m n).act s).lrx.armed = none ∧
    ((setRxMode m n).act s).lrx.lru = [] := by
  simp (disch := decide) only [setRxMode, emptyTable, act_rules, upd_rules, bne_iff_ne.2 h, Bool.true_or, if_true, (keeps_syncPorts _).lrx, (keeps_judgeFill _).lrx, and_self]

theorem toIdle_stage (s : State) : (toIdle.act s).stage = 0 := by
  simp (disch := decide) only [toIdle, State.stage, act_rules, upd_rules, rd_mk, (keeps_noQuality _).rd, (keeps_syncDD _).rd]
  refine (forE_same (fun s => s.rd LRX_STATUS.STAGE) (fun k _ s => ?_) _).trans ?_
  · simp (disch := decide) only [act_rules, rd_any_rules]
  · simp (disch := decide) only [rd_rules, (keeps_dropLocks _).rd]
    rfl

/-- A cold restart (R139): the receiver is in GAIN, not warm, with no pause running. -/
theorem restartCold_done (s : State) : ((restartNow 0).act s).stage = 1 ∧ ((restartNow 0).act s).rd LRX_STATUS.WARM = 0 ∧ ((restartNow 0).act s).lrx.pause = false := by
  simp (disch := decide) only [restartNow, State.stage, act_rules, upd_rules, rd_rules, lrx_rules, (keeps_syncDD _).rd, (keeps_syncDD _).lrx]
  generalize hf : (fun k => seqE [put LRX_SC_STAT.STATE 0 k, modSc k _]) = f
  have hround : ∀ k u, ((f k).act u).rd LRX_STATUS.WARM = u.rd LRX_STATUS.WARM ∧ ((f k).act u).lrx.pause = u.lrx.pause := by
    intro k u
    subst hf
    simp (disch := decide) only [act_rules, act_modSc, rd_any_rules, rd_mk, lrx_rules, and_self]
  rw [forE_same (fun u => u.rd LRX_STATUS.WARM) (fun k _ u => (hround k u).1), forE_same (fun u => u.lrx.pause) (fun k _ u => (hround k u).2)]
  simp (disch := decide) only [rd_mk, rd_rules, dropLocks, noQuality, act_rules, upd_rules, lrx_rules, (keeps_syncLosf _).rd, (keeps_syncLosf _).lrx]
  refine ⟨rfl, rfl, ?_⟩
  rw [forE_same (fun u => u.lrx.pause) (fun k _ u => ?_)]
  simp only [act_modSc]

/-- A host restart from the start (R139). -/
theorem hostRestart_cold (mask : Nat) (s : State) : ((hostRestart 0 mask).act s).stage = 1 ∧ ((hostRestart 0 mask).act s).rd LRX_STATUS.WARM = 0 := by
  simp only [hostRestart, act_rules, OfNat.zero_ne_ofNat, if_false]
  obtain ⟨hstage, hwarm, -⟩ := restartCold_done _
  exact ⟨hstage, hwarm⟩

theorem setRxEn_sets (v : Bool) (s : State) : ((setRxEn v).act s).on LRX_CTRL.RX_EN = v := by
  simp only [setRxEn, act_rules]
  split
  next h => exact (beq_iff_eq.1 h).symm
  next h =>
    cases v <;> simp (disch := decide) only [on_rules, (keeps_tryStart _).on, (keeps_syncLosf _).on, (keeps_toIdle _).on, (keeps_clearDefects _).on, Bool.false_eq_true, if_false, if_true] <;> rfl

/-- The receiver enabled in IDLE with light at the local oscillator starts in GAIN (Table 3.2). -/
theorem setRxEn_starts (s : State) (he : s.on LRX_CTRL.RX_EN = false) (h0 : s.stage = 0) (hl : s.loPresent = true) : ((setRxEn true).act s).stage = 1 := by
  have hstart : ∀ u : State, u.on LRX_CTRL.RX_EN = true → u.stage = 0 → u.loPresent = true → (tryStart.act u).stage = 1 := by
    intro u hu hu0 hul
    simp only [tryStart, act_rules, hu, hu0, hul, beq_self_eq_true, Bool.and_self, if_true]
    exact (restartCold_done u).1
  simp only [setRxEn, he, act_rules, reduceCtorEq, beq_iff_eq, if_false, if_true]
  refine hstart _ ?_ ?_ ?_
  · simp (disch := decide) only [(keeps_syncLosf _).on, on_rules]
    rfl
  · simp (disch := decide) only [State.stage, (keeps_syncLosf _).rd, rd_rules]
    exact h0
  · simp (disch := decide) only [State.loPresent, State.txPresent, (keeps_syncLosf _).on, (keeps_syncLosf _).ltx, on_rules, ltx_rules]
    exact hl

theorem setRxEn_idles (s : State) (he : s.on LRX_CTRL.RX_EN = true) : ((setRxEn false).act s).stage = 0 := by
  simp only [setRxEn, he, act_rules, Bool.false_eq_true, if_false, beq_iff_eq]
  exact toIdle_stage _

/-! ### Commands -/

theorem lrxModeSet_does :
    Does .lrxModeSet opLrxModeSet (fun p s => s.on LRX_CTRL.RX_EN = false ∧ modeOk s.is1600 (nth p 0) (nth p 1) = true ∧ nth p 2 ≤ 31 ∧ nth p 3 ≤ 31 ∧
      LRX_SHAPE.ROLLOFF.inRange (nth p 2) = true ∧ LRX_SHAPE.KERF.inRange (nth p 3) = true ∧ widthOk (nth p 0) (nth p 1) (nth p 2) (nth p 3) = true)
    (fun _ p s t => t.rxMode = nth p 0 ∧ t.rxN = nth p 1 % 64 ∧ t.rd LRX_SHAPE.ROLLOFF = nth p 2 ∧ t.rd LRX_SHAPE.KERF = nth p 3 ∧
      (nth p 0 ≠ s.rxMode → t.lrx.act = 0 ∧ t.lrx.armed = none ∧ t.lrx.lru = [])) := by
  refine does_of_okE (fun _ _ _ => rfl) ?_
  rintro h p s ⟨hen, hmode, hr31, hk31, hroll, hkerf, hwidth⟩
  refine ⟨_, by simp [opLrxModeSet, hen, hmode, not_lt.2 hr31, not_lt.2 hk31, hroll, hkerf, hwidth]; rfl, fun t k => ?_⟩
  obtain ⟨hm, hn⟩ := setRxMode_mode (nth p 0) (nth p 1) s
  obtain ⟨hle, -⟩ : nth p 0 ≤ 11 ∧ _ := by simpa [modeOk, and_assoc] using hmode
  simp (disch := decide) only [State.rxMode, State.rxN, k.rd, k.lrx, act_rules, rd_rules, lrx_rules]
  exact ⟨hm.trans (Nat.mod_eq_of_lt (by omega)), hn, Nat.mod_eq_of_lt (lt_of_le_of_lt hr31 (by decide)), Nat.mod_eq_of_lt (lt_of_le_of_lt hk31 (by decide)),
    setRxMode_empties _ _ _⟩

theorem lrxEnable_enables :
    Does .lrxEnable opLrxEnable (fun p s => nth p 0 = 1 ∧ s.rxRefused = false) (fun _ _ s t => t.on LRX_CTRL.RX_EN = true ∧
      (s.on LRX_CTRL.RX_EN = false → s.stage = 0 → s.loPresent = true → t.stage = 1)) := by
  refine does_of_okE (fun _ _ _ => rfl) ?_
  rintro h p s ⟨h1, hr⟩
  refine ⟨setRxEn true, by simp [opLrxEnable, h1, hr], fun t k => ?_⟩
  simp (disch := decide) only [State.stage, k.rd, k.on]
  exact ⟨setRxEn_sets true s, setRxEn_starts s⟩

theorem lrxEnable_disables :
    Does .lrxEnable opLrxEnable (fun p s => nth p 0 = 0 ∧ s.on LRX_CTRL.RX_EN = true) (fun _ _ _ t => t.on LRX_CTRL.RX_EN = false ∧ t.stage = 0) := by
  refine does_of_okE (fun _ _ _ => rfl) ?_
  rintro h p s ⟨h0, hen⟩
  refine ⟨setRxEn false, by simp [opLrxEnable, h0], fun t k => ?_⟩
  simp (disch := decide) only [State.stage, k.rd, k.on]
  exact ⟨setRxEn_sets false s, setRxEn_idles s hen⟩

theorem lrxAcqCfg_does :
    Does .lrxAcqCfg opLrxAcqCfg (fun p s => wordOk [LRX_AGC.TARGET] (nth p 0) = true ∧ s.dForceOk (nth p 1) = true ∧ wordOk [LRX_TIM_CFG.BW] (nth p 2) = true ∧
      wordOk LRX_LOCK_CFG.fields (nth p 3) = true ∧ wordOk LRX_HOLD.fields (nth p 4) = true)
    (fun _ p _ t => t.rd LRX_AGC.TARGET = LRX_AGC.TARGET.raw (nth p 0) ∧ t.rd LRX_CD_CFG.D_FORCE = LRX_CD_CFG.D_FORCE.raw (nth p 1) ∧
      t.rd LRX_TIM_CFG.BW = LRX_TIM_CFG.BW.raw (nth p 2) ∧ t.rd LRX_LOCK_CFG.SF_THR = LRX_LOCK_CFG.SF_THR.raw (nth p 3) ∧ t.rd LRX_HOLD.HOLD = LRX_HOLD.HOLD.raw (nth p 4)) := by
  refine does_of_okE (fun _ _ _ => rfl) ?_
  rintro h p s ⟨hagc, hd, htim, hlock, hhold⟩
  refine ⟨_, by simp only [opLrxAcqCfg, hagc, hd, htim, hlock, hhold]; rfl, fun t k => ?_⟩
  simp (disch := decide) only [k.rd, act_rules, putWord_other, putWord_rd (.head []), putWord_rd (fs := LRX_CD_CFG.fields) (.tail _ (.tail _ (.head _))),
    putWord_rd (fs := LRX_LOCK_CFG.fields) (.tail _ (.tail _ (.tail _ (.head _)))), putWord_rd (fs := LRX_HOLD.fields) (.tail _ (.tail _ (.head _))), and_self]

theorem lrxEqCfg_does :
    Does .lrxEqCfg opLrxEqCfg (fun p s => wordOk LRX_EQ_CFG.fields (nth p 0) = true ∧ wordOk LRX_DFE_CFG.fields (nth p 1) = true ∧
      fOnOk (LRX_DFE_CFG.F_OFF.raw (nth p 1)) (LRX_DFE_CFG.F_ON.raw (nth p 1)) = true ∧ s.on LRX_CTRL.RX_EN = false)
    (fun _ p _ t => t.rd LRX_EQ_CFG.HALF_TAPS = LRX_EQ_CFG.HALF_TAPS.raw (nth p 0) ∧ t.rd LRX_DFE_CFG.NFB = LRX_DFE_CFG.NFB.raw (nth p 1)) := by
  refine does_of_okE (fun _ _ _ => rfl) ?_
  rintro h p s ⟨heq, hdfe, hf, hen⟩
  refine ⟨_, by simp only [opLrxEqCfg, heq, hdfe, hf, hen]; rfl, fun t k => ?_⟩
  simp (disch := decide) only [k.rd, act_rules, (keeps_syncFb _).rd, putWord_other, putWord_rd (fs := LRX_EQ_CFG.fields) (.tail _ (.tail _ (.head _))),
    putWord_rd (fs := LRX_DFE_CFG.fields) (.tail _ (.head _)), and_self]

theorem forE_scCtrl_rd {f : Fld} (h : f.apartOf LRX_SC_CTRL.fields = true) (w : Nat → Nat) (s : State) :
    ((forE (List.range 16) fun k => putWord LRX_SC_CTRL.fields (w k) k).act s).rd f = s.rd f :=
  forE_same (fun u => u.rd f) (fun k _ u => putWord_other (fun g hg => Fld.key_ne_of_apartOf h 0 g hg k) _ _) s

theorem lrxFreeze_does :
    Does .lrxFreeze opLrxFreeze (fun _ _ => True) (fun _ p _ t => t.rd LRX_FREEZE.TIMING = LRX_FREEZE.TIMING.raw (nth p 0) ∧ t.rd LRX_FREEZE.AGC = LRX_FREEZE.AGC.raw (nth p 0)) := by
  refine does_of_okE (fun _ _ _ => rfl) ?_
  rintro h p s -
  refine ⟨_, rfl, fun t k => ?_⟩
  simp (disch := decide) only [k.rd, act_rules, (keeps_syncFb _).rd, (keeps_unfreezeCheck _).rd, forE_scCtrl_rd, putWord_rd (fs := LRX_FREEZE.fields) (.tail _ (.head _)),
    putWord_rd (fs := LRX_FREEZE.fields) (.tail _ (.tail _ (.tail _ (.head _)))), and_self]

theorem lrxRestart_does :
    Does .lrxRestart opLrxRestart (fun p s => nth p 0 = 0 ∧ nth p 1 ≤ 65535 ∧ s.on LRX_CTRL.RX_EN = true) (fun _ _ _ t => t.stage = 1 ∧ t.rd LRX_STATUS.WARM = 0) := by
  refine does_of_okP (fun _ _ _ => rfl) ?_
  rintro h p s ⟨h0, h1, hen⟩
  have hr : s.restartRefused 0 = false := by simp [State.restartRefused, hen]
  refine ⟨hostRestart 0 (nth p 1), fun _ => s.restartClears 0 (nth p 1), by simp [opLrxRestart, h0, not_lt.2 h1, hr], fun t k => ?_⟩
  simp (disch := decide) only [State.stage, k.keeps.rd]
  exact hostRestart_cold _ s

theorem lrxStatus_answers :
    Answers .lrxStatus opLrxStatus (fun _ _ => True) (fun _ s => [s.word LRX_STATUS.fields, w32 (s.rdI LRX_CD_EST.ALL), w32 (s.rdI LRX_FREQ_EST.ALL), s.rd LRX_TIM_EST.ALL] ++
    (List.range 16).map (fun k => s.word LRX_SC_STAT.fields k) ++ (List.range 16).map (fun k => s.rd LRX_SC_RCD.ALL k)) := by
  exact answers_of_body (fun _ _ _ => rfl) fun h p s _ => ⟨_, rfl, rfl⟩

theorem lrxTapsGet_answers :
    Answers .lrxTapsGet opLrxTapsGet (fun p _ => nth p 0 ≤ 15) (fun p s => [s.taps, s.rd LRX_DFE_CFG.NFB] ++
    (fourSets (centred s.taps) (s.lrx.sc (nth p 0)).ff ++ fourSets (fromFirst (s.rd LRX_DFE_CFG.NFB)) (s.lrx.sc (nth p 0)).fb).flatten.map tapWord) := by
  exact answers_of_body (fun _ _ _ => rfl) fun h p s hp => ⟨_, if_neg (not_lt.2 hp), rfl⟩

/-- Settles O4. -/
theorem receiveCommands : Obligations.ReceiveCommands :=
  ⟨lrxModeSet_does, lrxEnable_enables, lrxEnable_disables, lrxAcqCfg_does, lrxEqCfg_does, lrxFreeze_does, lrxRestart_does, lrxStatus_answers,
    lrxTapsGet_answers⟩

/-! ### Register writes -/

theorem lrxModeWrite_completes :
    ∀ m mode n s, s.takes m 2 → s.locked m.val LRX_CTRL.MODE 0 = false → modeOk s.is1600 mode.toNat n.toNat = true →
    widthOk mode.toNat n.toNat (s.rd LRX_SHAPE.ROLLOFF) (s.rd LRX_SHAPE.KERF) = true →
    Completes (.lrxModeWrite m mode n) s (fun t => t.rxMode = mode.toNat ∧ t.rxN = n.toNat ∧ (mode.toNat ≠ s.rxMode → t.lrx.act = 0 ∧ t.lrx.lru = [])) := by
  intro m mode n s ht hlock hmode hwidth
  refine completes_byMaster rfl ht fun t k => ?_
  have hact : (lrxModeWrite m.val mode.toNat n.toNat).act s = (setRxMode mode.toNat n.toNat).act s := by
    simp only [lrxModeWrite, act_rules, hlock, hmode, hwidth, Bool.and_self, Bool.false_eq_true, if_false, if_true]
  rw [hact] at k
  obtain ⟨hm, hn⟩ := setRxMode_mode mode.toNat n.toNat s
  simp (disch := decide) only [State.rxMode, State.rxN, k.rd, k.lrx]
  exact ⟨hm.trans (Nat.mod_eq_of_lt mode.isLt), hn.trans (Nat.mod_eq_of_lt n.isLt), fun h => ⟨(setRxMode_empties _ _ _ h).1, (setRxMode_empties _ _ _ h).2.2⟩⟩

theorem rxEnWrite_enables :
    ∀ m s, s.takes m 2 → s.rxRefused = false → Completes (.rxEnWrite m true) s (fun t => t.on LRX_CTRL.RX_EN = true) := by
  intro m s ht hr
  refine completes_byMaster rfl ht fun t k => ?_
  simp only [rxEnWrite, act_rules, hr, Bool.and_false, Bool.false_eq_true, if_false] at k
  simp (disch := decide) only [k.on, setRxEn_sets]

theorem rxEnWrite_disables :
    ∀ m s, s.takes m 2 → s.on LRX_CTRL.RX_EN = true → Completes (.rxEnWrite m false) s (fun t => t.on LRX_CTRL.RX_EN = false ∧ t.stage = 0) := by
  intro m s ht hen
  refine completes_byMaster rfl ht fun t k => ?_
  simp only [rxEnWrite, act_rules, Bool.false_and, Bool.false_eq_true, if_false] at k
  simp (disch := decide) only [State.stage, k.rd, k.on]
  exact ⟨setRxEn_sets false s, setRxEn_idles s hen⟩

theorem lrxRestartGo_restarts :
    ∀ m s, s.takes m 2 → s.rd LRX_RESTART.FROM = 0 → s.on LRX_CTRL.RX_EN = true →
    Completes (.lrxRestartGo m) s (fun t => t.rd LRX_RESTART.RESULT = 1 ∧ t.stage = 1 ∧ t.rd LRX_STATUS.WARM = 0) := by
  intro m s ht h0 hen
  refine completes_byMaster rfl ht fun t k => ?_
  have hr : s.restartRefused 0 = false := by simp [State.restartRefused, hen]
  obtain ⟨hstage, hwarm⟩ := hostRestart_cold (s.rd LRX_RESTART.SC_MASK) s
  simp (disch := decide) only [State.stage, k.rd, restartGo, act_rules, h0, hr, Bool.false_eq_true, if_false, rd_rules]
  exact ⟨rfl, hstage, hwarm⟩

theorem lrxRestartGo_refused :
    ∀ m s, s.takes m 2 → s.on LRX_CTRL.RX_EN = false → Completes (.lrxRestartGo m) s (fun t => t.rd LRX_RESTART.RESULT = 5 ∧ t.stage = s.stage) := by
  intro m s ht hen
  refine completes_byMaster rfl ht fun t k => ?_
  have hr : ∀ frm, s.restartRefused frm = true := fun frm => by simp [State.restartRefused, hen]
  simp (disch := decide) only [State.stage, k.rd, restartGo, act_rules, hr, if_true, rd_rules]
  exact ⟨rfl, trivial⟩

theorem slipClr_completes :
    ∀ m s, s.takes m 2 → Completes (.slipClr m) s (fun t => ∀ k < 16, t.rd LRX_SC_SLIP.OUT k = 0 ∧ t.rd LRX_SC_SLIP.TRK k = 0) := by
  intro m s ht
  refine completes_byMaster rfl ht fun t k => ?_
  intro j hj
  have hclear : clearSlips.act s = ((List.range 16).flatMap (fun k => [Upd.put LRX_SC_SLIP.OUT k 0, .put LRX_SC_SLIP.TRK k 0])).foldl (fun u x => x.apply u) s := rfl
  rw [hclear] at k
  simp only [List.range, List.range.loop, List.flatMap_cons, List.flatMap_nil, List.cons_append, List.nil_append, List.foldl_cons, List.foldl_nil, apply_put] at k
  interval_cases j
  all_goals
    simp (disch := decide) only [k.rd, rd_rules]
    trivial

/-- Settles O5. -/
theorem receiveWrites : Obligations.ReceiveWrites :=
  ⟨lrxModeWrite_completes, rxEnWrite_enables, rxEnWrite_disables, lrxRestartGo_restarts, lrxRestartGo_refused, slipClr_completes⟩

/-! ### Acquisition -/

/-- A receiver of mode 6 in PILOT with its timing loop frozen and the loop's integrator beyond its limit; the one-bit field LRX_FREEZE.IQ holds 8, which no
write leaves there, and so stands where FREEZE.TIMING does when the word's fields are added up. -/
def wideFreeze : State :=
  { ((({} : State).wr LRX_CTRL.MODE 0 6).wr LRX_STATUS.STAGE 0 8).wr LRX_FREEZE.TIMING 0 1 with
    regs := Tab.set 0 ((((({} : State).wr LRX_CTRL.MODE 0 6).wr LRX_STATUS.STAGE 0 8).wr LRX_FREEZE.TIMING 0 1).regs) (LRX_FREEZE.IQ.key 0) 8
    lrx := { timInt := 2 ^ 64 } }

/-- What a window of no symbols leaves of the state, by SYMBOL_WINDOW_END. -/
theorem symbolWindowEnd_wideFreeze : ∃ t, exec (.symbolWindowEnd [] [] [[]]) wideFreeze = .next t ∧ (t.lrx.sc 0).ff = [] :=
  ⟨_, rfl, by decide +kernel⟩

theorem eqWindow_wideFreeze : (wideFreeze.eqWindow 0 []).ff ≠ [] := by decide +kernel

/-- Refutes O6: where a freeze field holds more than its width, TIM_LIMIT takes the timing loop for not frozen and restarts the receiver (R118, R138), so
that the window moves no equaliser. -/
theorem not_acquisitionEvents : ¬ Obligations.AcquisitionEvents := by
  rintro ⟨-, -, -, -, -, -, hwindow, -⟩
  obtain ⟨t, ht, hff, -⟩ := hwindow [] [] [] 0 wideFreeze (by decide +kernel) (by decide +kernel) (by decide +kernel) (by decide +kernel)
  obtain ⟨u, hu, hnone⟩ := symbolWindowEnd_wideFreeze
  rw [hu] at ht
  injection ht with ht
  rw [← ht, hnone] at hff
  exact eqWindow_wideFreeze hff.symm

end Sys2Proof.Machine

/-!
Carrier settings, line quality and plan adaptation (R153 to R176).
-/
namespace Sys2Proof.Machine
open Sys2Proof

-- The kernel evaluates many small footprints: one thread serves them all.
set_option Elab.async false


/-- A word leaves all but its fields. -/
theorem keeps_putWord (fs : List Fld) (w i : Nat) (s : State) : Keeps ⟨0, fs, [], [], []⟩ s ((putWord fs w i).act s) :=
  keeps_act (within_putWord _ _ _ (List.all_eq_true.2 fun f hf => List.any_eq_true.2 ⟨f, List.mem_append_right _ hf, f.alike_refl⟩))

theorem setAdaptEn_enables (tx rx : Bool) (s : State) : ((setAdaptEn tx rx).act s).on LRX_ADAPT_CFG.TX_EN = tx ∧ ((setAdaptEn tx rx).act s).on LRX_ADAPT_CFG.RX_EN = rx := by
  simp (disch := decide) only [setAdaptEn, act_rules, on_rules]
  cases tx <;> cases rx <;> exact ⟨rfl, rfl⟩

/-- Clearing TX_EN abandons the offer (R172). -/
theorem setAdaptEn_offer (rx : Bool) (s : State) : ((setAdaptEn false rx).act s).adapt.offer = none := by
  simp (disch := decide) only [setAdaptEn, act_rules, upd_rules, adapt_rules, Bool.not_false, Bool.true_and, Bool.false_and, Bool.false_eq_true, if_false,
    apply_ite State.adapt]
  cases h : s.adapt.offer <;> cases rx <;> simp [h]

/-- The power of two that a report period is stands in its field (R161). -/
theorem two_pow_log2_of_periodOk {n : Nat} (h : periodOk n = true) : 2 ^ (n.log2 % 2 ^ LRX_Q_CFG.REPORT.width) = n := by
  obtain ⟨k, hk, rfl⟩ : ∃ k < 9, n = 2 ^ (k + 4) := by simpa [periodOk] using h
  rw [Nat.log2_two_pow]
  interval_cases k <;> rfl

theorem lrxQuality_starts :
    Starts .lrxQuality opLrxQuality (fun _ _ => True) (fun h p s t => t.lrx.qTake = true ∧ t.lrx.qRuns = s.lrx.qRuns ++ [runOf h 0x0309 p]) := by
  refine starts_of_deferE (fun _ _ _ => rfl) ?_
  rintro h p s -
  refine ⟨_, rfl, fun u hu => ?_⟩
  simp only [act_rules, upd_rules, hu.lrx, and_self]

theorem lrxCrSet_does :
    Does .lrxCrSet opLrxCrSet (fun p _ => wordOk LRX_CR_CFG.fields (nth p 0) = true ∧ nth p 1 ≤ 12 ∧ periodOk (nth p 2) = true)
    (fun _ p _ t => t.rd LRX_CR_CFG.BPS_N = LRX_CR_CFG.BPS_N.raw (nth p 0) ∧ t.rd LRX_Q_CFG.AVG = nth p 1 ∧ 2 ^ t.rd LRX_Q_CFG.REPORT = nth p 2) := by
  refine does_of_okE (fun _ _ _ => rfl) ?_
  rintro h p s ⟨hw, havg, hper⟩
  refine ⟨_, by simp only [opLrxCrSet, hw, not_lt.2 havg, hper]; rfl, fun t k => ?_⟩
  simp (disch := decide) only [k.rd, act_rules, rd_rules, putWord_rd (fs := LRX_CR_CFG.fields) (.tail _ (.tail _ (.head _))), true_and]
  exact ⟨Nat.mod_eq_of_lt (lt_of_le_of_lt havg (by decide)), two_pow_log2_of_periodOk hper⟩

theorem lrxAdaptSet_does :
    Does .lrxAdaptSet opLrxAdaptSet (fun p _ => marginsOk (nth p 1) = true ∧ wordOk LRX_ADAPT_TIMERS.fields (nth p 2) = true ∧ wordOk LRX_ADAPT_LIMITS.fields (nth p 3) = true)
    (fun _ p s t => t.on LRX_ADAPT_CFG.TX_EN = bit (nth p 0) 0 ∧ t.on LRX_ADAPT_CFG.RX_EN = bit (nth p 0) 1 ∧
      t.rd LRX_ADAPT_MARGIN.TARGET = LRX_ADAPT_MARGIN.TARGET.raw (nth p 1) ∧ t.rd LRX_ADAPT_TIMERS.V = LRX_ADAPT_TIMERS.V.raw (nth p 2) ∧
      (bit (nth p 0) 0 = false → t.adapt.offer = none ∨ s.adapt.offer = none)) := by
  refine does_of_okE (fun _ _ _ => rfl) ?_
  rintro h p s ⟨hm, ht, hl⟩
  refine ⟨_, by simp only [opLrxAdaptSet, hm, ht, hl]; rfl, fun t k => ?_⟩
  obtain ⟨htx, hrx⟩ := setAdaptEn_enables (bit (nth p 0) 0) (bit (nth p 0) 1) s
  simp (disch := decide) only [k.rd, k.on, k.adapt, act_rules, on_rules, adapt_rules, htx, hrx, putWord_other, (keeps_putWord _ _ _ _).on, (keeps_putWord _ _ _ _).adapt, apply_ite State.adapt, (keeps_clearSlips _).on, (keeps_clearSlips _).adapt,
    putWord_rd (fs := LRX_ADAPT_MARGIN.fields) (.head _), putWord_rd (fs := LRX_ADAPT_TIMERS.fields) (.head _), ite_self, true_and]
  intro htx
  rw [htx]
  exact .inl (setAdaptEn_offer _ s)

theorem lrxRplanLoad_starts :
    Starts .lrxRplanLoad opLrxRplanLoad (fun p s => s.rplanRefusal (nth p 0) (loadWords (p.drop 1)) = none) (fun h p s t => t.ltx.loads = s.ltx.loads ++ [runOf h 0x030C p]) := by
  refine starts_of_deferE (fun _ _ _ => rfl) ?_
  rintro h p s hr
  refine ⟨_, by simp only [opLrxRplanLoad, hr]; rfl, fun u hu => ?_⟩
  simp only [act_rules, upd_rules, hu.ltx, and_self]

theorem lrxRplanGet_answers :
    Answers .lrxRplanGet opLrxRplanGet (fun p _ => nth p 0 ≤ 7) (fun p s => s.word LRX_RPLAN_ID.fields (nth p 0) :: s.rplanWords (nth p 0)) := by
  exact answers_of_body (fun _ _ _ => rfl) fun h p s hp => ⟨_, if_neg (not_lt.2 hp), rfl⟩

/-- The form of LRX_ADAPT_NOW that offers its candidate. -/
theorem lrxAdaptNow_offers (r : Report) (es : List Nat) (m : Nat) : Does .lrxAdaptNow opLrxAdaptNow
    (fun p s => nth p 0 = 1 ∧ nativeMode s.txMode = true ∧ s.adapt.report = some r ∧ s.candidate r = some (es, m) ∧ s.mayOffer = true)
    (fun _ _ s t => t.rd LRX_ADAPT_STAT.PHASE = 1 ∧ t.rd LRX_ADAPT_STAT.LAST_PLAN = s.nextPlanId % 256 ∧ (t.adapt.offer).map (·.words) = some (planFrom es)) := by
  refine does_of_okP (fun _ _ _ => rfl) ?_
  rintro h p s ⟨h1, hn, hr, hc, hmay⟩
  refine ⟨_, _, by simp only [opLrxAdaptNow, h1, hn, hr, hc, hmay]; rfl, fun t k => ?_⟩
  simp (disch := decide) only [k.keeps.rd, k.keeps.adapt, sendOffer, adaptMsg, nextSeq, act_rules, upd_rules, rd_rules, rd_mk, adapt_rules, apply_ite AdaptSt.offer, ite_self, if_true,
    beq_self_eq_true]
  exact ⟨rfl, rfl, rfl⟩

theorem lrxAdaptNow_completes :
    ∀ h p s r es m, Accepted opLrxAdaptNow h p s → nth (p.map (·.toNat)) 0 = 1 → nativeMode s.txMode = true → s.adapt.report = some r → s.candidate r = some (es, m) →
    s.mayOffer = true → Completes (.lrxAdaptNow h p) s (fun t => t.replied h .ok ∧ t.rd LRX_ADAPT_STAT.PHASE = 1 ∧ t.rd LRX_ADAPT_STAT.LAST_PLAN = s.nextPlanId % 256 ∧
      (t.adapt.offer).map (·.words) = some (planFrom es)) := by
  intro h p s r es m a h1 hn hr hc hmay
  exact lrxAdaptNow_offers r es m h p s a ⟨h1, hn, hr, hc, hmay⟩

/-- Settles O7. -/
theorem adaptationCommands : Obligations.AdaptationCommands :=
  ⟨lrxQuality_starts, lrxCrSet_does, lrxAdaptSet_does, lrxRplanLoad_starts, lrxRplanGet_answers, lrxAdaptNow_completes⟩

/-! ### Offers -/

/-- A receiver with every entry of its plan table taken, whose list of the entries by use names one past the last. -/
def strayEntry : State :=
  { ((((run ((List.range 8).map (fun e => .put LRX_RPLAN_ID.VALID e 1)) {}).wr LRX_CTRL.MODE 0 1).wr LRX_ADAPT_CFG.RX_EN 0 1).wr FRM_STATUS.DOVE 0 3).wr LRX_RPLAN_ID.ID 8 5 with
    lrx := { lru := [8] } }

/-- The words of mode 1's plan 0. -/
def offeredWords : List Word := (plan0 1 0).map (BitVec.ofNat 32)

theorem offer_strayEntry : ∃ t, exec (.offer true 0 200 0 offeredWords) strayEntry = .next t ∧ ∀ e < 8, t.rd LRX_RPLAN_ID.ID e ≠ 200 :=
  ⟨_, rfl, by decide +kernel⟩

/-- Refutes O8: where the list of entries by use names an entry that is none, an offered plan is stored past the table's end (R158, R166). -/
theorem not_adaptationEvents : ¬ Obligations.AdaptationEvents := by
  rintro ⟨-, -, -, -, -, -, -, hoffer, -⟩
  obtain ⟨t, ht, hstored, -⟩ := hoffer 0 200 0 offeredWords strayEntry (by decide +kernel) (by decide +kernel) (by decide +kernel) (by decide +kernel) (by decide +kernel)
    (by decide +kernel) (by decide +kernel)
  obtain ⟨u, hu, hnone⟩ := offer_strayEntry
  rw [hu] at ht
  injection ht with ht
  obtain ⟨e, he, hid⟩ := hstored (by decide +kernel)
  exact hnone e he (ht ▸ hid)

end Sys2Proof.Machine

/-!
Try-square: the calibration commands and events (R177 to R218).
-/
namespace Sys2Proof.Machine
open Sys2Proof

-- The kernel evaluates many small footprints: one thread serves them all.
set_option Elab.async false


/-- What each part of a sequence keeps, the sequence keeps. -/
theorem act_seqE_keeps {I : State → Prop} {es : List Eff} (h : ∀ e ∈ es, ∀ u, I u → I (e.act u)) {s : State} (hs : I s) : I ((seqE es).act s) := by
  induction es generalizing s with
  | nil => rwa [act_seq_nil]
  | cons e es ih =>
    rw [act_seq_cons]
    exact ih (fun x hx => h x (List.mem_cons_of_mem _ hx)) (h e List.mem_cons_self s hs)

theorem b2n_beq (b : Bool) : (b2n b % 2 ^ 1 == 1) = b := by cases b <;> rfl

/-! ### Slices -/

theorem CnvSt.slice_eq_of_slices {c d : CnvSt} (h : c.slices = d.slices) (n : Nat) : c.slice n = d.slice n := by simp only [CnvSt.slice, h]

theorem modSlice_slices_self (n : Nat) (g : SliceSt → SliceSt) (s : State) : Tab.get none ((modSlice n g).act s).cnv.slices n = some (g (s.cnv.slice n)) := by
  rw [act_modSlice, Tab.get_set_self]

theorem modSlice_slices_other {n j : Nat} (h : j ≠ n) (g : SliceSt → SliceSt) (s : State) : Tab.get none ((modSlice n g).act s).cnv.slices j = Tab.get none s.cnv.slices j := by
  rw [act_modSlice, Tab.get_set, if_neg h]

theorem retire_self (n r : Nat) (s : State) : ((retire n r).act s).cnv.slice n = { s.cnv.slice n with phase := 255, role := r, since := s.cnv.order + 1 } := by
  simp only [retire, act_rules, upd_rules]
  simp [CnvSt.slice]

theorem retire_other {n j : Nat} (h : j ≠ n) (r : Nat) (s : State) : ((retire n r).act s).cnv.slice j = s.cnv.slice j := by
  simp only [retire, act_rules, upd_rules]
  simp [CnvSt.slice, Tab.get_set, h]

/-! ### What the shared effects leave -/

theorem modSet_cnv (k : Nat) (g : CalSet → CalSet) (s : State) : ((modSet k g).act s).cnv = { s.cnv with sets := Tab.set {} s.cnv.sets k (g (Tab.get {} s.cnv.sets k)) } := by
  simp only [modSet, act_rules, upd_rules]

/-- What background calibration finds moves nothing of the converters but the sets. -/
theorem refine_cnv (k i v : Nat) (s : State) : ∃ x, ((refine k i v).act s).cnv = { s.cnv with sets := x } := by
  simp only [refine, act_rules]
  split <;> simp (disch := decide) only [(keeps_syncSets _).cnv, cnv_rules, modSet_cnv] <;> exact ⟨_, rfl⟩

theorem trimSlice_cnv (n : Nat) (d : Int) (s : State) : ∃ x, ((trimSlice n d).act s).cnv = { s.cnv with sets := x } := by
  simp only [trimSlice, setTiming, act_rules]
  exact refine_cnv _ _ _ _

theorem commitNext_cnv (fuel : Nat) (s : State) : ∃ x, ((commitNext fuel).act s).cnv = { s.cnv with commit := x } := by
  induction fuel generalizing s with
  | zero => exact ⟨_, rfl⟩
  | succ fuel ih =>
    simp only [commitNext, act_rules]
    split
    · exact ⟨_, rfl⟩
    · split
      · simp only [act_rules, upd_rules]
        split
        · obtain ⟨x, hx⟩ := ih _
          exact ⟨x, by rw [hx]; simp only [cnv_rules]⟩
        · exact ⟨_, rfl⟩
      · simp only [act_rules, upd_rules]
        exact ⟨none, by simp (disch := decide) only [(keeps_finishFl _ _ _ _ _).cnv]⟩

theorem commitGo_cnv (s : State) : ∃ x, (commitGo.act s).cnv = { s.cnv with commit := x } := by
  simp only [commitGo, act_rules]
  split
  · simp only [act_rules, upd_rules]
    split
    · obtain ⟨x, hx⟩ := commitNext_cnv 9 _
      exact ⟨x, by rw [hx]⟩
    · exact ⟨_, rfl⟩
  · exact ⟨_, rfl⟩

/-- What a figure judged and the end of a pass leave of the converters: the slices, the steps, the sets, the commit and the run. -/
def CnvSt.work (c : CnvSt) : Tab (Option SliceSt) × Tab (Option StepSt) × Tab CalSet × Option CommitSt × Option Running := (c.slices, c.steps, c.sets, c.commit, c.fg)

theorem judgeFig_work (fig i v thr hyst : Nat) (s : State) : ((judgeFig fig i v thr hyst).act s).cnv.work = s.cnv.work := by
  simp only [judgeFig, act_rules, upd_rules]
  split
  · simp only [cnv_rules]
    rfl
  · split <;> rfl

theorem passEnd_work (s : State) : (passEnd.act s).cnv.work = s.cnv.work := by
  simp only [passEnd, act_rules, upd_rules]
  split
  · rfl
  · rw [forE_same (fun u => u.cnv.work) fun f _ u => by simp only [act_rules, judgeFig_work]]
    simp only [cnv_rules]
    rfl

/-- Abandoned steps leave a slice that is in none of them. -/
theorem abandonSteps_slice (ms : List Nat) {n : Nat} (s : State) (h2 : (s.cnv.slice n).role ≠ 2) (h3 : (s.cnv.slice n).role ≠ 3) :
    ((abandonSteps ms).act s).cnv.slice n = s.cnv.slice n := by
  simp only [abandonSteps, act_rules, upd_rules]
  refine (CnvSt.slice_eq_of_slices rfl n).trans (forE_same (fun u => u.cnv.slice n) (fun k hk u => retire_other ?_ 1 u) s)
  rintro rfl
  simp only [List.mem_flatMap, List.mem_append, CnvSt.inRole, List.mem_filter, beq_iff_eq] at hk
  obtain ⟨m, -, ⟨-, hr⟩ | ⟨⟨-, hr⟩, -⟩⟩ := hk
  · exact h2 hr
  · exact h3 hr

theorem abandonStep_slice (m : Nat) {n : Nat} (s : State) (h2 : (s.cnv.slice n).role ≠ 2) (h3 : (s.cnv.slice n).role ≠ 3) :
    ((abandonStep m).act s).cnv.slice n = s.cnv.slice n := by
  simp only [abandonStep, act_rules]
  obtain ⟨x, hx⟩ := commitGo_cnv ((abandonSteps [m]).act s)
  rw [CnvSt.slice_eq_of_slices (congrArg Prod.fst (passEnd_work _)), hx, ← abandonSteps_slice [m] s h2 h3]
  rfl

/-- A fold that keeps what it holds or takes the next picks of the list. -/
theorem foldl_picks {α : Type} {f : Option α → α → Option α} (hf : ∀ b x, f b x = some x ∨ f b x = b) {l : List α} {b : Option α} {j : α} (h : l.foldl f b = some j) :
    j ∈ l ∨ b = some j := by
  induction l generalizing b with
  | nil => exact .inr h
  | cons x l ih =>
    rcases ih h with hj | hj
    · exact .inl (List.mem_cons_of_mem _ hj)
    · rcases hf b x with hx | hx
      · exact .inl (List.mem_cons.2 (.inl (by rw [hx] at hj; exact (Option.some.inj hj).symm)))
      · exact .inr (hx ▸ hj)

/-- The slice that takes over a phase serves none yet. -/
theorem taker_role {s : State} {m k : Nat} (h : s.taker m = some k) : (s.cnv.slice k).role ≠ 0 := by
  have hin : ∀ r, k ∈ s.cnv.inRole m r → (s.cnv.slice k).role = r := fun r hk => by simpa [CnvSt.inRole] using (List.mem_filter.1 hk).2
  have hold : ∀ j, s.cnv.oldestSpare m = some j → j ∈ s.cnv.inRole m 1 := fun j hj =>
    (foldl_picks (fun b x => by cases b <;> dsimp only <;> (try split) <;> simp) hj).resolve_right (by simp)
  simp only [State.taker] at h
  split at h
  next j hj =>
    cases h
    simp [hin 1 (hold _ hj)]
  next =>
    split at h
    next j js hjs =>
      cases h
      simp [hin 3 (by rw [hjs]; exact List.mem_cons_self)]
    next => simp [hin 2 (List.mem_of_mem_head? h)]

/-- A slice taken out of service is FAULTY and serves no phase (R194, R195). -/
theorem takeOut_slice (n : Nat) (test : Option Nat) (trim : Int) (s : State) (h : (s.cnv.slice n).role = 0) :
    (((takeOut n test trim).act s).cnv.slice n).role = 4 ∧ (((takeOut n test trim).act s).cnv.slice n).phase = 255 := by
  have hne : ∀ k, (if (s.cnv.slice n).phase = 255 then none else s.taker (n / 66)) = some k → n ≠ k := by
    rintro k hk rfl
    split at hk
    · cases hk
    · exact taker_role hk h
  rw [takeOut, act_dyn]
  dsimp only
  generalize (if (s.cnv.slice n).phase = 255 then none else s.taker (n / 66)) = k at hne ⊢
  rw [act_seq_cons]
  refine act_seqE_keeps (I := fun u => (u.cnv.slice n).role = 4 ∧ (u.cnv.slice n).phase = 255) ?_ (by rw [modSlice_self]; exact ⟨rfl, rfl⟩)
  simp only [List.forall_mem_cons, List.not_mem_nil, false_implies, implies_true, and_true]
  refine ⟨fun u hu => ?_, fun u hu => ?_, fun u hu => ?_, fun u hu => ?_, fun u hu => ?_⟩
  · simp only [act_rules, upd_rules]
    exact hu
  · split
    next j =>
      obtain ⟨x, hx⟩ := trimSlice_cnv j trim ((serve j (s.cnv.slice n).phase).act u)
      rw [act_seq_cons, act_seq_cons, act_seq_nil, CnvSt.slice_eq_of_slices (d := ((serve j (s.cnv.slice n).phase).act u).cnv) (by rw [hx]) n, serve,
        modSlice_other _ _ (hne j rfl)]
      exact hu
    next => exact hu
  · simp only [act_rules]
    rw [apply_ite (fun u : State => u.cnv.slice n), abandonStep_slice _ _ (by simp [hu.1]) (by simp [hu.1]), ite_self]
    exact hu
  · split
    · simp only [act_rules, cnv_rules]
      exact hu
    · exact hu
  · simp only [act_rules, upd_rules]
    split
    · simp only [cnv_rules]
      exact hu
    · exact hu

/-! ### Commands -/

theorem calStatus_answers :
    Answers .calStatus opCalStatus (fun _ _ => True) (fun _ s => [s.word CNV_STATUS.fields] ++ (List.range 8).map (fun k => s.word CNV_FUSE_STAT.fields k) ++
    [s.word [CNV_REF_STAT.VDEV, CNV_REF_STAT.FDEV]]) := by
  exact answers_of_body (fun _ _ _ => rfl) fun h p s _ => ⟨_, rfl, rfl⟩

theorem calBgSet_does :
    Does .calBgSet opCalBgSet (fun p _ => wordOk CNV_BG_CFG.fields (nth p 1) = true ∧ wordOk CNV_THR.fields (nth p 2) = true ∧ wordOk CNV_WTR.fields (nth p 3) = true)
    (fun _ p _ t => t.rd CNV_CTRL.BG_ADC = CNV_CTRL.BG_ADC.raw (nth p 0) ∧ t.rd CNV_BG_CFG.PERIOD = CNV_BG_CFG.PERIOD.raw (nth p 1) ∧
      t.rd CNV_THR.HANDOVER = CNV_THR.HANDOVER.raw (nth p 2) ∧ t.rd CNV_WTR.WTR = CNV_WTR.WTR.raw (nth p 3)) := by
  refine does_of_okE (fun _ _ _ => rfl) ?_
  rintro h p s ⟨hb, ht, hw⟩
  refine ⟨_, by simp only [opCalBgSet, hb, ht, hw]; rfl, fun t k => ?_⟩
  simp (disch := decide) only [k.rd, act_rules, putWord_other, putWord_rd (fs := CNV_CTRL.fields) (.tail _ (.head _)), putWord_rd (fs := CNV_BG_CFG.fields) (.head _),
    putWord_rd (fs := CNV_THR.fields) (.head _), putWord_rd (fs := CNV_WTR.fields) (.head _), and_self]

theorem calRefSet_does :
    Does .calRefSet opCalRefSet (fun p _ => 500000 ≤ nth p 0 ∧ nth p 0 ≤ 1250000 ∧ 1000000 ≤ nth p 1 ∧ nth p 1 ≤ 156250000)
    (fun _ p _ t => t.rd CNV_REF_CFG.VREF_UV = nth p 0 ∧ t.rd CNV_FREF_CFG.FREF_HZ = nth p 1) := by
  refine does_of_okE (fun _ _ _ => rfl) ?_
  rintro h p s hr
  refine ⟨_, by simp only [opCalRefSet, hr, and_self, decide_true]; rfl, fun t k => ?_⟩
  simp (disch := decide) only [k.rd, act_rules, rd_rules]
  obtain ⟨-, hv, -, hf⟩ := hr
  exact ⟨Nat.mod_eq_of_lt (lt_of_le_of_lt hv (by decide)), Nat.mod_eq_of_lt (lt_of_le_of_lt hf (by decide))⟩

theorem calRun_starts :
    ∀ v f, Starts (fun h p => .calRun h p v f) (opCalRun v.toInt f.toInt) (fun p s => 1 ≤ nth p 0 ∧ nth p 0 ≤ 7 ∧ 1 ≤ nth p 1 ∧ nth p 1 ≤ 10 ∧ s.on CNV_STATUS.FG_BUSY = false ∧ s.runOk (nth p 0) = true ∧
      s.on CNV_STATUS.REF_BAD = false)
    (fun h p _ t => t.rd CNV_STATUS.FG_BUSY = 1 ∧ t.cnv.fg = some (runOf h 0x0404 p) ∧
      t.on CNV_STATUS.REF_BAD = decide (2000 < v.toInt.natAbs ∨ 5000 < f.toInt.natAbs)) := by
  intro v f
  refine starts_of_pendE (fun _ _ _ => rfl) ?_
  rintro h p s ⟨h1, h7, hn1, hn10, hbusy, hok, hbad⟩
  refine ⟨_, by simp only [opCalRun, beq_eq_false_iff_ne.2 (Nat.one_le_iff_ne_zero.1 h1), not_lt.2 h7, not_lt.2 hn1, not_lt.2 hn10, hbusy, hok, hbad]; rfl, fun t k => ?_⟩
  simp (disch := decide) only [k.rd, k.on, k.cnv, checkRefs, act_rules, upd_rules, rd_rules, on_rules, rd_mk, cnv_rules, ite_self, (keeps_abandonSteps _ _).rd]
  exact ⟨rfl, trivial, b2n_beq _⟩

theorem calAbort_does :
    Does .calAbort opCalAbort (fun _ s => s.cnv.fg.isSome = true) (fun _ _ s t => t.rd CNV_STATUS.FG_BUSY = 0 ∧ t.cnv.fg = none ∧ t.cnv.sets = s.cnv.sets) := by
  refine does_of_okE (fun _ _ _ => rfl) ?_
  rintro h p s hfg
  refine ⟨endRun .aborted, by simp only [opCalAbort, hfg, if_true], fun t k => ?_⟩
  obtain ⟨r, hr⟩ := Option.isSome_iff_exists.1 hfg
  simp only [endRun, act_rules, upd_rules, hr] at k
  simp (disch := decide) only [k.rd, k.cnv, (onlyReplies_finish _ _ _ _).rd, (onlyReplies_finish _ _ _ _).cnv, rd_mk, rd_rules, cnv_rules]
  exact ⟨rfl, trivial, trivial⟩

theorem recordWords_length (s : State) (k : Nat) : (s.recordWords k).length = setLen k + 7 := by
  simp only [State.recordWords, State.rowFor, rowWords, CnvSt.setWords, w64, List.length_append, List.length_cons, List.length_nil, List.length_take, List.length_drop, List.length_map,
    List.length_range]
  omega

/-- A class C command that has begun: PENDING, then its effect; its final reply is still to come. -/
theorem starts_of_pendThen {c : CmdHdr → List Word → Instr} {op : OpDef} {C : List Nat → State → Prop} {P : CmdHdr → List Nat → State → State → Prop}
    (hc : ∀ h p s, exec (c h p) s = perform (felwin op h p) s)
    (hb : ∀ h p s, C p s → ∃ e, op.body h p s = pendThen e ∧ ∀ u, OnlyReplies s u → (e.act u).cmd.slots = u.cmd.slots ∧ P h p s (e.act u)) : Starts c op C P := by
  intro h p s a hC
  obtain ⟨e, hbody, hP⟩ := hb h _ s hC
  have hact : (felwin op h p).act s = e.act ((replyTo (runOf h op.code (p.map (·.toNat))) .pending 0 (fun _ => [])).act s) := by
    simp [felwin_accepted a, hbody, actAndReply, pendThen]
  have hslot := replyTo_slot (runOf h op.code (p.map (·.toNat))) .pending 0 (fun _ => []) s (by simp [runOf, a.hold])
  obtain ⟨hslots, hp⟩ := hP _ (onlyReplies_replyTo _ _ _ _ _)
  refine ⟨_, hc h p s, ?_, hact ▸ hp⟩
  show Tab.get none ((felwin op h p).act s).cmd.slots _ = _
  rw [hact, hslots]
  exact hslot

theorem bitsSet_ne_nil {v : Nat} (h1 : 1 ≤ v) (h255 : v ≤ 255) : bitsSet 8 v ≠ [] := by
  interval_cases v <;> decide

/-- A commit that waits takes up its first row, where no slice is stepped and no set's rows are used up (R210). -/
theorem commitGo_takes {u : State} {c : CommitSt} (hc : u.cnv.commit = some c) (hw : c.waits = true) (hs : u.cnv.stepping = false)
    (hset : bitsSet 8 (nth c.run.par 0) ≠ []) (hnext : ∀ k < 8, u.fuse.next k < 8) :
    ∃ c', (commitGo.act u).cnv.commit = some c' ∧ c'.run = c.run ∧ c'.waits = false ∧ c'.cur.isSome = true ∧ (commitGo.act u).cmd.slots = u.cmd.slots := by
  obtain ⟨k, ks, hks⟩ := List.exists_cons_of_ne_nil hset
  have hk : k < 8 := List.mem_range.1 (List.mem_filter.1 (hks ▸ List.mem_cons_self : k ∈ bitsSet 8 (nth c.run.par 0))).1
  simp only [commitGo, act_rules, upd_rules, hc, hw, hs, hks, Bool.not_false, Bool.and_self, if_true, commitNext, List.map_cons]
  simp only [not_le.2 (hnext k hk), if_false]
  exact ⟨_, rfl, rfl, rfl, rfl, trivial⟩

theorem calCommit_starts :
    ∀ v, Starts (fun h p => .calCommit h p v) (opCalCommit v) (fun p s => v = true ∧ 1 ≤ nth p 0 ∧ nth p 0 ≤ 255 ∧ s.on CNV_STATUS.FG_BUSY = false ∧ s.cnv.commit = none ∧ (0 ≤ s.pwr.tj ∧ s.pwr.tj ≤ 125) ∧
      ∀ k < 8, s.fuse.next k < 8)
    (fun h p s t => (t.cnv.commit).map (·.run) = some (runOf h 0x0406 p) ∧
      (t.cnv.commit).map (·.waits) = some s.cnv.stepping ∧ ((t.cnv.commit).bind (·.cur)).isSome = !s.cnv.stepping) := by
  intro v
  refine starts_of_pendThen (fun _ _ _ => rfl) ?_
  rintro h p s ⟨rfl, h1, h255, hbusy, hnone, htj, hnext⟩
  refine ⟨_, by simp only [opCalCommit, State.fuseTj, beq_eq_false_iff_ne.2 (Nat.one_le_iff_ne_zero.1 h1), not_lt.2 h255, hbusy, hnone, htj]; rfl, fun u hu => ?_⟩
  simp only [act_rules, upd_rules]
  rw [← hu.cnv]
  cases hs : u.cnv.stepping
  · obtain ⟨c, hc, hrun, hwaits, hcur, hslots⟩ := commitGo_takes (u := { u with cnv := { u.cnv with commit := some ⟨runOf h 0x0406 p, true, [], none, []⟩ } }) rfl rfl hs
      (bitsSet_ne_nil h1 h255) (by simpa only [hu.fuse] using hnext)
    simp only [hslots, hc, Option.map_some, Option.bind_some, hrun, hwaits, hcur, Bool.not_false, and_self]
  · have hstep : CnvSt.stepping { u.cnv with commit := some ⟨runOf h 0x0406 p, true, [], none, []⟩ } = true := hs
    simp only [commitGo, act_rules, hstep, Bool.not_true, Bool.and_false, Bool.false_eq_true, if_false]
    exact ⟨trivial, rfl, rfl, rfl⟩

/-- A record of set `set` as CAL_LOAD takes it, but for its signature (R212). -/
def State.recordOk (s : State) (set : Nat) (p : List Nat) : Prop :=
  s.on CNV_STATUS.FG_BUSY = false ∧ nth p 1 + nth p 2 * 2 ^ 32 = s.fuse.devId ∧ bits (nth p 0) 24 8 = set ∧ set ≤ 7 ∧ bits (nth p 0) 20 4 = 1 ∧ bits (nth p 0) 0 16 = setLen set ∧
    p.length = setLen set + 31 ∧ bits (nth p 0) 16 4 = (s.fuse.latest set).getD 0xF ∧ s.setIdle set = true

theorem calLoad_loads (set : Nat) : Does .calLoad opCalLoad
    (fun p s => s.recordOk set p ∧ Config.ecdsaOk keyCK (Config.sha384 (p.take (p.length - 24))) (p.drop (p.length - 24)) = true)
    (fun _ p _ t => t.rd CNV_FUSE_STAT.SOURCE set = 3 ∧ t.rd CNV_FUSE_STAT.REFINED set = 0 ∧ Tab.get {} t.cnv.sets set = setFrom ((p.drop 7).take (setLen set)) (p.drop 3)) := by
  refine does_of_okE (fun _ _ _ => rfl) ?_
  rintro h p s ⟨⟨hbusy, hdev, rfl, hset, hfmt, hlen, hplen, hlatest, hidle⟩, hok⟩
  have hform : (decide (7 < bits (nth p 0) 24 8) || bits (nth p 0) 20 4 != 1 || false || p.length != setLen (bits (nth p 0) 24 8) + 31) = false := by
    simp [not_lt.2 hset, hfmt, hplen]
  refine ⟨_, by simp only [opCalLoad, hbusy, hok, hdev, hform, hlen, hlatest, hidle, bne_self_eq_false, Bool.not_true, Bool.false_eq_true, if_false]; rfl, fun t k => ?_⟩
  generalize bits (nth p 0) 24 8 = set at hset k ⊢
  refine and_assoc.1 ⟨?_, ?_⟩
  rotate_left
  · simp (disch := decide) only [k.cnv, act_rules, cnv_rules, (keeps_syncSets _).cnv, modSet_cnv, baseSkew, upd_rules, apply_ite CnvSt.sets, ite_self, Tab.get_set_self]
  interval_cases set <;> simp (disch := decide) only [k.rd, act_rules, rd_rules, (keeps_baseSkew _).rd, (keeps_syncSets _).rd, ite_self] <;> exact ⟨rfl, rfl⟩

theorem calLoad_refuses (set : Nat) : Refuses .calLoad opCalLoad
    (fun p s => s.recordOk set p ∧ Config.ecdsaOk keyCK (Config.sha384 (p.take (p.length - 24))) (p.drop (p.length - 24)) = false) .auth := by
  refine refuses_of_body (by decide) (fun _ _ _ => rfl) ?_
  rintro h p s ⟨⟨hbusy, -⟩, hok⟩
  simp [opCalLoad, hbusy, hok]

theorem calLoad_completes :
    ∀ h p s, Accepted opCalLoad h p s → s.on CNV_STATUS.FG_BUSY = false → nth (p.map (·.toNat)) 1 + nth (p.map (·.toNat)) 2 * 2 ^ 32 = s.fuse.devId →
    bits (nth (p.map (·.toNat)) 0) 24 8 ≤ 7 → bits (nth (p.map (·.toNat)) 0) 20 4 = 1 →
    bits (nth (p.map (·.toNat)) 0) 0 16 = setLen (bits (nth (p.map (·.toNat)) 0) 24 8) → p.length = setLen (bits (nth (p.map (·.toNat)) 0) 24 8) + 31 →
    bits (nth (p.map (·.toNat)) 0) 16 4 = (s.fuse.latest (bits (nth (p.map (·.toNat)) 0) 24 8)).getD 0xF → s.setIdle (bits (nth (p.map (·.toNat)) 0) 24 8) = true →
    Completes (.calLoad h p) s (fun t =>
      if Config.ecdsaOk keyCK (Config.sha384 ((p.map (·.toNat)).take (p.length - 24))) ((p.map (·.toNat)).drop (p.length - 24)) = true
      then t.replied h .ok ∧ t.rd CNV_FUSE_STAT.SOURCE (bits (nth (p.map (·.toNat)) 0) 24 8) = 3 ∧ t.rd CNV_FUSE_STAT.REFINED (bits (nth (p.map (·.toNat)) 0) 24 8) = 0 ∧
        Tab.get {} t.cnv.sets (bits (nth (p.map (·.toNat)) 0) 24 8) =
          setFrom (((p.map (·.toNat)).drop 7).take (setLen (bits (nth (p.map (·.toNat)) 0) 24 8))) ((p.map (·.toNat)).drop 3)
      else t.replied h .auth ∧ t.cnv = s.cnv) := by
  intro h p s a hbusy hdev hset hfmt hlen hplen hlatest hidle
  have hrec : s.recordOk (bits (nth (p.map (·.toNat)) 0) 24 8) (p.map (·.toNat)) :=
    ⟨hbusy, hdev, rfl, hset, hfmt, hlen, by rw [List.length_map, hplen], hlatest, hidle⟩
  rw [← List.length_map (·.toNat) (as := p)]
  split
  next hok => exact calLoad_loads _ h p s a ⟨hrec, hok⟩
  next hok =>
    obtain ⟨t, ht, hreply, hkeeps⟩ := calLoad_refuses _ h p s a ⟨hrec, by simpa using hok⟩
    exact ⟨t, ht, hreply, hkeeps.cnv⟩

theorem calExport_does :
    Does .calExport opCalExport (fun p _ => nth p 0 ≤ 7) (fun h p s t => t.draws = s.draws + 1 ∧ t.fuse = s.fuse ∧ t.cnv = s.cnv ∧
    (s.plain → (t.payload h).take (setLen (nth p 0) + 7) = (s.recordWords (nth p 0)).map (· % 2 ^ 32))) := by
  refine does_of_okP (fun _ _ _ => rfl) ?_
  rintro h p s hk
  refine ⟨_, _, by simp only [opCalExport, not_lt.2 hk]; rfl, fun t k => ?_⟩
  rw [act_drawn] at k
  refine ⟨k.keeps.draws, k.keeps.fuse, k.keeps.cnv, fun hp => ?_⟩
  rw [k.payload hp, ← List.map_take, ← recordWords_length s, List.take_left]

theorem calQuality_starts :
    Starts .calQuality opCalQuality (fun _ _ => True) (fun h p s t => t.cnv.qTake = true ∧ t.cnv.qRuns = s.cnv.qRuns ++ [runOf h 0x0409 p]) := by
  refine starts_of_deferE (fun _ _ _ => rfl) ?_
  rintro h p s -
  refine ⟨_, rfl, fun u hu => ?_⟩
  simp only [act_rules, upd_rules, hu.cnv, and_self]

theorem calSlice_out :
    ∀ v, Does (fun h p => .calSlice h p v) (opCalSlice v.toInt) (fun p s => nth p 0 ≤ 3 ∧ nth p 1 ≤ 1 ∧ nth p 2 ≤ 65 ∧ nth p 3 = 0 ∧ (s.cnv.slice (66 * (2 * nth p 0 + nth p 1) + nth p 2)).role = 0)
    (fun _ p _ t => (t.cnv.slice (66 * (2 * nth p 0 + nth p 1) + nth p 2)).role = 4 ∧ (t.cnv.slice (66 * (2 * nth p 0 + nth p 1) + nth p 2)).phase = 255) := by
  intro v
  refine does_of_okP (fun _ _ _ => rfl) ?_
  rintro h p s ⟨h3, h1, h65, h0, hr⟩
  refine ⟨_, _, by simp only [opCalSlice, not_lt.2 h3, not_lt.2 h1, not_lt.2 h65, h0, hr]; rfl, fun t k => ?_⟩
  rw [k.keeps.cnv]
  exact takeOut_slice _ _ _ _ hr

theorem calSlice_back :
    ∀ v, Does (fun h p => .calSlice h p v) (opCalSlice v.toInt) (fun p s => nth p 0 ≤ 3 ∧ nth p 1 ≤ 1 ∧ nth p 2 ≤ 65 ∧ nth p 3 = 1 ∧ (s.cnv.slice (66 * (2 * nth p 0 + nth p 1) + nth p 2)).role = 4)
    (fun _ p _ t => (t.cnv.slice (66 * (2 * nth p 0 + nth p 1) + nth p 2)).role = 5) := by
  intro v
  refine does_of_okP (fun _ _ _ => rfl) ?_
  rintro h p s ⟨h3, h1, h65, h0, hr⟩
  refine ⟨_, _, by simp only [opCalSlice, not_lt.2 h3, not_lt.2 h1, not_lt.2 h65, h0, hr]; rfl, fun t k => ?_⟩
  rw [k.keeps.cnv, modSlice_self]

/-- Settles O9. -/
theorem calibrationCommands : Obligations.CalibrationCommands :=
  ⟨calStatus_answers, calBgSet_does, calRefSet_does, calRun_starts, calAbort_does, calCommit_starts, calExport_does, calLoad_completes,
    calQuality_starts, calSlice_out, calSlice_back⟩

/-! ### Events -/

/-- A loop establishes what one round of it establishes and each round keeps. -/
theorem forE_establishes {α : Type} {I : State → Prop} {xs : List α} {f : α → Eff} {x : α} (hx : x ∈ xs) (hset : ∀ u, I ((f x).act u))
    (hkeep : ∀ y ∈ xs, ∀ u, I u → I ((f y).act u)) (s : State) : I ((forE xs f).act s) := by
  induction xs generalizing s with
  | nil => cases hx
  | cons y ys ih =>
    rw [act_forE_cons]
    rcases List.mem_cons.1 hx with rfl | hx
    · refine act_seqE_keeps (es := ys.map f) ?_ (hset s)
      rintro e he u hu
      obtain ⟨y, hy, rfl⟩ := List.mem_map.1 he
      exact hkeep y (List.mem_cons_of_mem _ hy) u hu
    · exact ih hx (fun z hz => hkeep z (List.mem_cons_of_mem _ hz)) _

/-- Set `k` as a foreground run that makes the sets `g` leaves it. -/
def State.madeBy (s : State) (g : Nat → CalSet) (k : Nat) : Prop :=
  s.rd CNV_FUSE_STAT.SOURCE k = 4 ∧ s.rd CNV_FUSE_STAT.REFINED k = 0 ∧ (Tab.get {} s.cnv.sets k).words = (g k).words

/-- A set that a run makes. -/
def makeSet (g : Nat → CalSet) (k : Nat) : Eff := seqE [modSet k (fun _ => g k), put CNV_FUSE_STAT.SOURCE 4 k, put CNV_FUSE_STAT.REFINED 0 k]

theorem makeSet_made (g : Nat → CalSet) (k : Nat) (u : State) : ((makeSet g k).act u).madeBy g k := by
  simp (disch := decide) only [State.madeBy, makeSet, act_rules, rd_any_rules, cnv_rules, modSet_cnv, Tab.get_set_self]
  exact ⟨rfl, rfl, trivial⟩

theorem makeSet_keeps (g : Nat → CalSet) (y k : Nat) (u : State) (hu : u.madeBy g k) : ((makeSet g y).act u).madeBy g k := by
  by_cases h : k = y
  · rw [h]
    exact makeSet_made g y u
  · obtain ⟨hsrc, href, hwords⟩ := hu
    have hsource : CNV_FUSE_STAT.SOURCE.key k ≠ CNV_FUSE_STAT.SOURCE.key y := by
      show ((0x300200 + k * 4) * 64 + 24) * 128 + 4 ≠ ((0x300200 + y * 4) * 64 + 24) * 128 + 4
      omega
    have hrefined : CNV_FUSE_STAT.REFINED.key k ≠ CNV_FUSE_STAT.REFINED.key y := by
      show ((0x300200 + k * 4) * 64 + 23) * 128 + 1 ≠ ((0x300200 + y * 4) * 64 + 23) * 128 + 1
      omega
    simp only [State.madeBy, makeSet, act_rules, cnv_rules, modSet_cnv]
    refine ⟨?_, ?_, ?_⟩
    · rw [rd_wr_ne _ _ _ _ _ _ (Fld.key_ne_of_apart (by decide) k y), rd_wr_ne _ _ _ _ _ _ hsource, (keeps_modSet _ _ _).rdAny (by decide), hsrc]
    · rw [rd_wr_ne _ _ _ _ _ _ hrefined, rd_wr_ne _ _ _ _ _ _ (Fld.key_ne_of_apart (by decide) k y), (keeps_modSet _ _ _).rdAny (by decide), href]
    · rw [Tab.get_set, if_neg h, hwords]

theorem forE_makeSet {xs : List Nat} {k : Nat} (hk : k ∈ xs) (g : Nat → CalSet) (s : State) : ((forE xs (makeSet g)).act s).madeBy g k :=
  forE_establishes hk (makeSet_made g k) (fun y _ => makeSet_keeps g y k) s

theorem forE_judgeFig_rd (xs : List Nat) (c : Nat → Bool) (fig hyst : Nat) (v thr : Nat → Nat) {f : Fld} (hf : f.apartOf (Touch.judgeFig.flds ++ sharedFlds) = true) (i : Nat) (s : State) :
    ((forE xs fun k => whenE (c k) (judgeFig fig k (v k) (thr k) hyst)).act s).rd f i = s.rd f i :=
  forE_same (fun u => u.rd f i) (fun k _ u => by rw [act_whenE, rd_ite, (keeps_judgeFig _ _ _ _ _ _).rdAny hf, ite_self]) s

theorem forE_judgeFig_work (xs : List Nat) (c : Nat → Bool) (fig hyst : Nat) (v thr : Nat → Nat) (s : State) :
    ((forE xs fun k => whenE (c k) (judgeFig fig k (v k) (thr k) hyst)).act s).cnv.work = s.cnv.work :=
  forE_same (fun u => u.cnv.work) (fun k _ u => by rw [act_whenE, apply_ite (fun u : State => u.cnv.work), judgeFig_work, ite_self]) s

theorem forE_runSets {xs : List Nat} {k : Nat} (hk : k ∈ xs) (g : Nat → CalSet) (s : State) :
    ((forE xs (makeSet g)).act (s.wr CNV_STATUS.FG_BUSY 0 0)).madeBy g k ∧ ((forE xs (makeSet g)).act (s.wr CNV_STATUS.FG_BUSY 0 0)).rd CNV_STATUS.FG_BUSY = 0 := by
  refine ⟨forE_makeSet hk g _, (forE_same (fun u => u.rd CNV_STATUS.FG_BUSY) (fun y _ u => ?_) _).trans (rd_wr_self _ _ _ _)⟩
  simp (disch := decide) only [makeSet, act_rules, rd_any_rules, (keeps_modSet _ _ _).rdAny]

theorem calFgDone_completes :
    ∀ r k ws en fg s, s.cnv.fg = some r → (runSets (nth r.par 0)).contains k = true → Completes (.calFgDone ws en fg) s
    (fun t => t.rd CNV_STATUS.FG_BUSY = 0 ∧ t.cnv.fg = none ∧ t.rd CNV_FUSE_STAT.SOURCE k = 4 ∧ t.rd CNV_FUSE_STAT.REFINED k = 0 ∧
      (Tab.get {} t.cnv.sets k).words = s.runWords (nth r.par 0) k (((ws.find? (fun e => e.1.val == k)).map (·.2.map (·.toNat))).getD [])) := by
  intro r k ws en fg s hfg hk
  refine ⟨_, rfl, ?_⟩
  have hmade := forE_runSets (List.contains_iff_mem.1 hk)
    (fun k => s.calNow k (s.runWords (nth r.par 0) k (((ws.find? (fun e => e.1.val == k)).map (·.2.map (·.toNat))).getD [])) true) s
  unfold makeSet at hmade
  simp only [act_rules, hfg]
  generalize (forE (runSets _) _).act _ = u at hmade ⊢
  obtain ⟨⟨hsrc, href, hwords⟩, hbusy⟩ := hmade
  simp (disch := decide) only [(keeps_finish _ _ _ _).rdAny, (keeps_finish _ _ _ _).cnv, forE_judgeFig_rd, rd_any_rules, upd_rules, rd_mk, (keeps_baseSkew _).rdAny,
    (keeps_syncSets _).rdAny, hsrc, href, hbusy, true_and]
  have hwork := fun v => forE_judgeFig_work (List.range 8) (fun k => bit (nth r.par 0) (k / 4)) 3 33 (fun k => ((List.range 8).map fun k => (en.getD k 0).toNat).getD k 0)
    (fun k => if k < 4 then 560 else 530) v
  simp only [CnvSt.work, Prod.mk.injEq] at hwork
  simp (disch := decide) only [hwork, cnv_rules, baseSkew, act_rules, upd_rules, (keeps_syncSets _).cnv, hwords, true_and]
  rfl

theorem fgTimeout_completes :
    ∀ r s, s.cnv.fg = some r → Completes .fgTimeout s (fun t => t.rd CNV_STATUS.FG_BUSY = 0 ∧ t.cnv.fg = none ∧ t.cnv.sets = s.cnv.sets) := by
  intro r s hfg
  refine ⟨_, rfl, ?_⟩
  simp (disch := decide) only [endRun, act_rules, upd_rules, hfg, (onlyReplies_finish _ _ _ _).rd, (onlyReplies_finish _ _ _ _).cnv, rd_mk, rd_rules, cnv_rules]
  exact ⟨rfl, trivial, trivial⟩

theorem programRow_rowOf (set row : Nat) (ws : List Nat) (s : State) : ((programRow set row ws).act s).fuse.rowOf set row = ws := by
  simp (disch := decide) only [programRow, act_rules, upd_rules, (keeps_syncRows _ _).fuse, Fuses.rowOf, Tab.get_set_self]

/-- A commit with no row left ends (R210). -/
theorem commitNext_ends (fuel : Nat) {c : CommitSt} {s : State} (hc : s.cnv.commit = some c) (ht : c.todo = []) : ((commitNext (fuel + 1)).act s).cnv.commit = none := by
  simp (disch := decide) only [commitNext, act_rules, upd_rules, hc, ht, (keeps_finishFl _ _ _ _ _).cnv]

theorem stopCommit_none (s : State) : (stopCommit.act s).cnv.commit = none := by
  simp only [stopCommit, act_rules]
  split
  · assumption
  · simp only [act_rules, upd_rules]
    exact commitNext_ends 8 rfl rfl

theorem fuseRowWriteDone_commits :
    ∀ c w s, s.cnv.commit = some c → c.cur = some w → s.fuseTj = true → Completes (.fuseRowWriteDone true) s
    (fun t => t.fuse.rowOf w.set w.row = reRow w.set w.row w.words ++ [0xA5C30000 + w.set * 0x100 + w.row]) := by
  intro c w s hc hcur htj
  refine ⟨_, rfl, ?_⟩
  simp only [act_rules, hc, hcur, htj, Bool.not_true, Bool.false_eq_true, if_false, if_true]
  simp (disch := decide) only [fuse_rules, (keeps_rowEnds _ _ _).fuse, (keeps_modSet _ _ _).fuse]
  simp only [ite_self, programRow_rowOf, commitWord]

theorem fuseRowWriteDone_retries :
    ∀ c w s, s.cnv.commit = some c → c.cur = some w → w.retry = false → w.row < 7 → s.fuseTj = true → Completes (.fuseRowWriteDone false) s
    (fun t => t.fuse.rowOf w.set w.row = reRow w.set w.row w.words ∧ ((t.cnv.commit).bind (·.cur)).map (fun x => (x.row, x.retry)) = some (w.row + 1, true)) := by
  intro c w s hc hcur hr h7 htj
  refine ⟨_, rfl, ?_⟩
  simp only [act_rules, hc, hcur, htj, hr, not_le.2 h7, Bool.not_true, Bool.or_self, decide_false, Bool.false_eq_true, if_false]
  simp only [upd_rules, programRow_rowOf, Option.bind_some, Option.map_some, and_self]

theorem fuseRowWriteDone_stops :
    ∀ b c w s, s.cnv.commit = some c → c.cur = some w → s.fuseTj = false → Completes (.fuseRowWriteDone b) s
    (fun t => t.fuse.rowOf w.set w.row = reRow w.set w.row w.words ∧ t.cnv.commit = none) := by
  intro b c w s hc hcur htj
  refine ⟨_, rfl, ?_⟩
  simp only [act_rules, hc, hcur, htj, Bool.not_false, if_true]
  simp (disch := decide) only [(keeps_stopCommit _).fuse, programRow_rowOf, stopCommit_none, and_self]

theorem fuseVddLoss_completes :
    ∀ n k c w s, s.cnv.commit = some c → c.cur = some w → Completes (.fuseVddLoss n k) s
    (fun t => t.fuse.rowOf w.set w.row = cutRow w n k ∧ t.cnv.commit = none) := by
  intro n k c w s hc hcur
  refine ⟨_, rfl, ?_⟩
  simp only [act_rules, hc, hcur, Option.bind_some]
  simp (disch := decide) only [(keeps_stopCommit _).fuse, programRow_rowOf, stopCommit_none, and_self]

theorem cnvQTake_completes :
    ∀ m s, s.takes m 3 → Completes (.cnvQTake m) s (fun t => t.cnv.qTake = true) := by
  intro m s ht
  refine completes_byMaster rfl ht fun t k => ?_
  simp (disch := decide) only [k.cnv, cnvTake, act_rules, upd_rules]

theorem takeCnv_gen (s : State) : (takeCnv.act s).rd CNV_Q_SNAP.GEN = (s.rd CNV_Q_SNAP.GEN + 1) % 2 ^ CNV_Q_SNAP.GEN.width := by
  simp only [takeCnv, act_rules, upd_rules, rd_mk]
  simp only [Eff.act, run, List.foldl_append, List.foldl_cons, List.foldl_nil, apply_put, rd_wr_self]

theorem cnvQSnapDone_completes :
    ∀ s, s.cnv.qTake = true → s.cnv.stepping = false → Completes .cnvQSnapDone s (fun t => t.cnv.qTake = false ∧ t.cnv.qRuns = [] ∧ t.rd CNV_Q_SNAP.GEN = (s.rd CNV_Q_SNAP.GEN + 1) % 2 ^ CNV_Q_SNAP.GEN.width) := by
  intro s hq hs
  refine ⟨_, rfl, ?_⟩
  have hends : ∀ (f : State → List Nat) (u : State), ((forE s.cnv.qRuns fun r => finish r .ok (f u)).act u).cnv = u.cnv ∧
      ((forE s.cnv.qRuns fun r => finish r .ok (f u)).act u).rd CNV_Q_SNAP.GEN = u.rd CNV_Q_SNAP.GEN := fun f u =>
    ⟨forE_same (fun u => u.cnv) (fun r _ u => (onlyReplies_finish _ _ _ u).cnv) u, forE_same (fun u => u.rd CNV_Q_SNAP.GEN) (fun r _ u => (onlyReplies_finish _ _ _ u).rd (by decide)) u⟩
  simp only [act_rules, hq, hs, Bool.not_true, Bool.or_self, Bool.false_eq_true, if_false]
  rw [(hends State.calQualityWords _).1, (hends State.calQualityWords _).2, takeCnv_gen]
  simp only [takeCnv, act_rules, upd_rules, and_self]

theorem calPassStart_completes :
    ∀ s, s.cnv.pass = false → s.bgOn 0 = true → Completes .calPassStart s (fun t => t.cnv.pass = true ∧ t.cnv.passAt = s.tick ∧ t.cnv.passTj = s.pwr.tj) := by
  intro s hp hon
  refine ⟨_, rfl, ?_⟩
  have hany : (List.range 8).any s.bgOn = true := List.any_eq_true.2 ⟨0, by decide, hon⟩
  simp only [passEnd, startPass, act_rules, upd_rules, hp, hany, Bool.not_false, Bool.true_or, Bool.and_self, if_true, and_self]

theorem sliceStepStart_completes :
    ∀ m n r s, s.cnv.pass = true → s.bgOn m.val = true → Tab.get none s.cnv.steps m.val = none → s.cnv.commit = none → s.cnv.nextActive m.val = some n → s.cnv.oldestSpare m.val = some r →
    Completes (.sliceStepStart m) s (fun t => Tab.get none t.cnv.steps m.val = some ⟨n, r, 0, none⟩ ∧ (t.cnv.slice r).role = 3) := by
  intro m n r s hp hon hst hc hn hr
  refine ⟨_, rfl, ?_⟩
  simp only [act_rules, hp, hon, hst, hc, hn, hr, Option.isNone_none, Option.any_none, Bool.not_false, Bool.and_self]
  simp only [upd_rules, Tab.get_set_self, true_and]
  simp only [CnvSt.slice, modSlice_slices_self, Option.getD_some]

theorem sliceHandover_completes :
    ∀ m z d pin st s, Tab.get none s.cnv.steps m.val = some st → st.onBus = none → st.sel ≠ st.spare → s.handoverOk d pin = true →
    Completes (.sliceHandover m z d pin) s (fun t => (t.cnv.slice st.spare).phase = (s.cnv.slice st.sel).phase ∧ (t.cnv.slice st.spare).role = 0 ∧ (t.cnv.slice st.sel).role = 2) := by
  intro m z d pin st s hst hbus hne hok
  refine ⟨_, rfl, ?_⟩
  simp only [act_rules, hst, hbus, hok, Option.isSome_none, Bool.false_eq_true, if_false, if_true]
  obtain ⟨x, hx⟩ := trimSlice_cnv st.spare z.toInt s
  simp only [serve, upd_rules, CnvSt.slice, modSlice_slices_self, modSlice_slices_other hne, modSlice_slices_other hne.symm, hx, Option.getD_some, and_self]

/-- The end of a half-converter's step leaves every slice. -/
theorem stepEnds_done (m : Nat) (s : State) : Tab.get none ((stepEnds m).act s).cnv.steps m = none ∧ ∀ n, ((stepEnds m).act s).cnv.slice n = s.cnv.slice n := by
  simp only [stepEnds, act_rules, upd_rules]
  obtain ⟨x, hx⟩ := commitGo_cnv { s with cnv := { s.cnv with steps := Tab.set none s.cnv.steps m none } }
  have hwork := passEnd_work (commitGo.act { s with cnv := { s.cnv with steps := Tab.set none s.cnv.steps m none } })
  simp only [CnvSt.work, hx, Prod.mk.injEq] at hwork
  obtain ⟨hslices, hsteps, -⟩ := hwork
  exact ⟨by rw [hsteps, Tab.get_set_self], fun n => CnvSt.slice_eq_of_slices hslices n⟩

theorem sliceCalDone_completes :
    ∀ m g o f a b c n s, Tab.get none s.cnv.steps m.val = some ⟨a, b, c, some n⟩ → Completes (.sliceCalDone m g o f) s
    (fun t => Tab.get none t.cnv.steps m.val = none ∧ (t.cnv.slice n).phase = 255 ∧
      (t.cnv.slice n).role = if g.toInt.natAbs ≤ 450 ∧ o.toInt.natAbs ≤ 448 then 1 else 4) := by
  intro m g o f a b c n s hst
  refine ⟨_, rfl, ?_⟩
  simp only [act_rules, hst]
  refine ⟨(stepEnds_done _ _).1, ?_⟩
  rw [(stepEnds_done _ _).2]
  split
  · simp only [retire_self, and_self]
  · simp only [cnv_rules, modSlice_self, and_self]

theorem sliceFault_completes :
    ∀ n x z s, (s.cnv.slice n.val).role = 0 → (x.val ≠ 0 ∨ s.timingBad n.val = true) → Completes (.sliceFault n x z) s (fun t => (t.cnv.slice n.val).role = 4 ∧ (t.cnv.slice n.val).phase = 255) := by
  intro n x z s hr hx
  refine ⟨_, rfl, ?_⟩
  have hbad : ((s.cnv.slice n.val).role == 0 && (x.val != 0 || s.timingBad n.val)) = true := by simpa [hr] using hx
  simp only [act_rules, hbad, if_true]
  exact takeOut_slice _ _ _ _ hr

theorem sliceRetest_completes :
    ∀ n s, (s.cnv.slice n.val).role = 4 → Completes (.sliceRetest n true) s (fun t => (t.cnv.slice n.val).role = 5) := by
  intro n s hr
  refine ⟨_, rfl, ?_⟩
  simp only [act_rules, hr, beq_self_eq_true, Bool.and_self, if_true, modSlice_self]

theorem sliceReturn_spare :
    ∀ n z ds s, (s.cnv.slice n.val).role = 5 → (s.cnv.slice n.val).lost = 255 → Completes (.sliceReturn n z ds) s (fun t => (t.cnv.slice n.val).role = 1) := by
  intro n z ds s hr hl
  refine ⟨_, rfl, ?_⟩
  simp only [act_rules, hr, hl, ne_eq, not_true_eq_false, if_false, if_true, cnv_rules, retire_self]

theorem sliceReturn_shadows :
    ∀ n z ds s, (s.cnv.slice n.val).role = 5 → (s.cnv.slice n.val).lost ≠ 255 → (ds.take 2).any (fun d => s.handoverOk d.1 d.2) = true →
    Completes (.sliceReturn n z ds) s (fun t => (t.cnv.slice n.val).role = 3 ∧ t.cnv.rets = s.cnv.rets ++ [n.val]) := by
  intro n z ds s hr hl hok
  refine ⟨_, rfl, ?_⟩
  obtain ⟨x, hx⟩ := trimSlice_cnv n.val z.toInt s
  simp only [act_rules, upd_rules, hr, hl, hok, ne_eq, not_true_eq_false, if_false, Bool.or_true, if_true]
  refine ⟨by simp only [CnvSt.slice, modSlice_slices_self, Option.getD_some], ?_⟩
  simp only [modSlice, act_rules, upd_rules, hx]

theorem refCheck_completes :
    ∀ v f s, Completes (.refCheck v f) s (fun t => t.on CNV_STATUS.REF_BAD = decide (2000 < v.toInt.natAbs ∨ 5000 < f.toInt.natAbs)) := by
  intro v f s
  refine ⟨_, rfl, ?_⟩
  simp (disch := decide) only [checkRefs, act_rules, on_rules, ite_self]
  exact b2n_beq _

/-- What background calibration finds is the set's word (R182). -/
theorem refine_word (k i v : Nat) (s : State) (hi : i < setLen k) : (((refine k i v).act s).cnv.setWords k).getD i 0 = v := by
  have hlen : i < (s.cnv.setWords k).length := by simpa [CnvSt.setWords] using hi
  simp only [refine, act_rules]
  split
  next h =>
    simp (disch := decide) only [(keeps_syncSets _).cnv, CnvSt.setWords, modSet_cnv, Tab.get_set_self]
    exact h
  next h =>
    simp (disch := decide) only [(keeps_syncSets _).cnv, cnv_rules, modSet_cnv]
    simp [CnvSt.setWords, State.calNow, hi]

theorem bgEstimatorUpdate_skew :
    ∀ u g o z zs s, u.val < 4 → s.bgOn (2 * u.val) = true → Completes (.bgEstimatorUpdate 3 u g o z zs) s
    (fun t => (t.cnv.setWords 6).getD u.val 0 = w32 (clampI (-500) 500 (ofPat 32 ((s.cnv.setWords 6).getD u.val 0) +
      clampI (-1) 1 (s.skewWanted u.val - ofPat 32 ((s.cnv.setWords 6).getD u.val 0))))) := by
  intro u g o z zs s hu hon
  refine ⟨_, rfl, ?_⟩
  simp only [act_rules, hu, hon, if_true]
  exact refine_word 6 u.val _ s (lt_trans hu (by decide))

theorem bgEstimatorUpdate_dac :
    ∀ u g o z zs s, bit (s.rd CNV_CTRL.BG_DAC) (u.val / 2) = true → s.suspended true = false → Completes (.bgEstimatorUpdate 2 u g o z zs) s
    (fun t => (t.cnv.setWords 4).getD u.val 0 = mkHalfWord (wordGain ((s.cnv.setWords 4).getD u.val 0) + clampI (-1) 1 g.toInt)
      (wordOffset ((s.cnv.setWords 4).getD u.val 0) + clampI (-1) 1 o.toInt) (wordTiming ((s.cnv.setWords 4).getD u.val 0) + clampI (-5) 5 z.toInt)) := by
  intro u g o z zs s hbg hsus
  refine ⟨_, rfl, ?_⟩
  have h2 : (2 : Fin 4).val = 2 := rfl
  simp only [act_rules, h2, hbg, hsus, Bool.not_false, Bool.and_self, if_true]
  exact refine_word 4 u.val _ s u.isLt

/-- Settles O10. -/
theorem calibrationEvents : Obligations.CalibrationEvents :=
  ⟨calFgDone_completes, fgTimeout_completes, fuseRowWriteDone_commits, fuseRowWriteDone_retries, fuseRowWriteDone_stops, fuseVddLoss_completes,
    cnvQTake_completes, cnvQSnapDone_completes, calPassStart_completes, sliceStepStart_completes, sliceHandover_completes, sliceCalDone_completes,
    sliceFault_completes, sliceRetest_completes, sliceReturn_spare, sliceReturn_shadows, refCheck_completes, bgEstimatorUpdate_skew,
    bgEstimatorUpdate_dac⟩
end Sys2Proof.Machine

/-!
Forward error correction: its commands, its blocks and its code (R57, R58, R220 to R247).
-/
namespace Sys2Proof.Machine
open Sys2Proof

-- The kernel evaluates many small footprints: one thread serves them all.
set_option Elab.async false


/-! ### Counters -/

theorem cnt_count_other (s : State) {j i : Nat} (n : Nat) (h : j ≠ i) : (s.count i n).cnt j = s.cnt j := by
  simp only [State.count]
  split <;> simp only [State.cnt, State.occur_cnts, Tab.get_set, if_neg h]

theorem cnt_preset_self (s : State) (j v : Nat) : (s.preset j v).cnt j = v % 2 ^ 48 := by
  simp only [State.preset, State.cnt, Tab.get_set_self]

theorem cnt_preset_other (s : State) {j i : Nat} (v : Nat) (h : j ≠ i) : (s.preset i v).cnt j = s.cnt j := by
  simp only [State.preset, State.cnt, Tab.get_set, if_neg h]

theorem cnt_raise_other (s : State) {j : Nat} {e : Ev} (p : List Nat) (h64 : j ≠ 64) (h : j ≠ 1024 + e.x) : (s.raise e p).cnt j = s.cnt j := by
  have hev : (May.foot ⟨0, [e.stat], [e], [], []⟩).ev e = true := by
    simp [Foot.ev, May.foot, May.moves, Fld.alike_refl]
  have k : Keeps ⟨0, [e.stat], [e], [], []⟩ s ((raise e p).act s) := keeps_act ((within_raise_iff _ _).2 hev)
  rw [← act_raise]
  exact k.cnt (by simp [May.moves, h64, h])

/-- What a counter reads after an operation on another place. -/
theorem cnt_rules : (∀ (s : State) f i v j, (s.wr f i v).cnt j = s.cnt j) ∧ (∀ (s : State) i n j, j ≠ i → (s.count i n).cnt j = s.cnt j) ∧
    (∀ (s : State) j n, (s.count j n).cnt j = (s.cnt j + n) % 2 ^ 48) ∧ (∀ (s : State) e p j, j ≠ 64 → j ≠ 1024 + Ev.x e → (s.raise e p).cnt j = s.cnt j) ∧
    (∀ (c : Prop) [Decidable c] (a b : State) j, (if c then a else b).cnt j = if c then a.cnt j else b.cnt j) ∧
    (∀ (s : State) g m j, (s.setStat g m).cnt j = s.cnt j) ∧ (∀ (s : State) e k m it j, (s.occur e k m it).cnt j = s.cnt j) :=
  ⟨fun _ _ _ _ _ => rfl, fun s _ n _ h => cnt_count_other s n h, cnt_count_self, fun s _ p _ h64 h => cnt_raise_other s p h64 h, fun c _ a b j => by split <;> rfl,
    fun s g m j => by simp only [State.cnt, State.setStat_cnts], fun _ _ _ _ _ _ => rfl⟩

/-! ### Commands -/

theorem fecCfg_does :
    Does .fecCfg opFecCfg (fun p _ => wordOk FEC_DEC_CFG.fields (nth p 1) = true ∧ wordOk [FEC_LLR_CFG.GAIN] (nth p 2) = true ∧ wordOk FEC_DEG_SET.fields (nth p 3) = true ∧
      wordOk FEC_DEG_CLR.fields (nth p 4) = true ∧ degWordsOk (nth p 3) (nth p 4) = true)
    (fun _ p _ t => t.rd FEC_CTRL.EARLY_STOP = FEC_CTRL.EARLY_STOP.raw (nth p 0) ∧ t.rd FEC_DEC_CFG.ITER_MAX = FEC_DEC_CFG.ITER_MAX.raw (nth p 1) ∧
      t.rd FEC_DEG_SET.MANT = FEC_DEG_SET.MANT.raw (nth p 3) ∧ t.rd FEC_DEG_CLR.MANT = FEC_DEG_CLR.MANT.raw (nth p 4)) := by
  refine does_of_okE (fun _ _ _ => rfl) ?_
  rintro h p s ⟨hdec, hllr, hset, hclr, hdeg⟩
  refine ⟨_, by simp only [opFecCfg, hdec, hllr, hset, hclr, hdeg]; rfl, fun t k => ?_⟩
  simp (disch := decide) only [k.rd, act_rules, rd_rules, (keeps_fecCntClr _).rd, ite_self, putWord_other, putWord_rd (fs := [FEC_CTRL.EARLY_STOP]) (.head _),
    putWord_rd (fs := FEC_DEC_CFG.fields) (.head _), putWord_rd (fs := FEC_DEG_SET.fields) (.head _), putWord_rd (fs := FEC_DEG_CLR.fields) (.head _), and_self]

theorem fecStatus_answers :
    Answers .fecStatus opFecStatus (fun _ _ => True) (fun _ s => [s.fecStatus, s.word [FEC_SEC_BER.MANT, FEC_SEC_BER.EXP], s.fec.lastUncorr, s.fec.lastDm]) := by
  exact answers_of_body (fun _ _ _ => rfl) fun h p s _ => ⟨_, rfl, rfl⟩

theorem fecCounters_does :
    Does .fecCounters opFecCounters (fun p _ => nth p 0 ≤ 65535) (fun _ _ s t => t.snapGen = s.nextGen ∧ t.bank = s.bank) := by
  refine does_of_okP (fun _ _ _ => rfl) ?_
  rintro h p s hp
  refine ⟨_, _, by simp only [opFecCounters, not_lt.2 hp]; rfl, fun t k => ?_⟩
  obtain ⟨hbank, -, hgen⟩ := k.keeps.comps .bank (by decide)
  exact ⟨hgen, hbank⟩

theorem fecInject_does :
    Does .fecInject opFecInject (fun p _ => wordOk FEC_INJ.fields (nth p 0) = true)
    (fun _ p _ t => t.rd FEC_INJ.MODE = FEC_INJ.MODE.raw (nth p 0) ∧ t.rd FEC_INJ.SC_MASK = FEC_INJ.SC_MASK.raw (nth p 0)) := by
  refine does_of_okE (fun _ _ _ => rfl) ?_
  rintro h p s hw
  refine ⟨_, by simp only [opFecInject, hw]; rfl, fun t k => ?_⟩
  simp (disch := decide) only [k.rd, act_rules, rd_rules, (keeps_oneShot _).rd, ite_self, putWord_rd (fs := FEC_INJ.fields) (.head _),
    putWord_rd (fs := FEC_INJ.fields) (.tail _ (.tail _ (.head _))), and_self]

/-- The form of FEC_GEOMETRY that answers for the transmitter. -/
theorem fecGeometry_answers (ws : List Nat) : Answers .fecGeometry opFecGeometry
    (fun p s => nth p 1 = 0 ∧ s.txHeld (nth p 0) = some ws ∧ nth p 2 < 16 ∧ scEn (ws.getD (nth p 2) 0) = true) (fun p _ => geometry (ws.getD (nth p 2) 0) (nth p 3)) := by
  refine answers_of_body (fun _ _ _ => rfl) ?_
  rintro h p s ⟨h1, hheld, h16, hen⟩
  exact ⟨_, by simp only [opFecGeometry, h1, hheld, h16, hen, and_self, if_true]; rfl, rfl⟩

theorem fecGeometry_completes :
    ∀ h p s ws, Accepted opFecGeometry h p s → s.plain → nth (p.map (·.toNat)) 1 = 0 → s.txHeld (nth (p.map (·.toNat)) 0) = some ws → nth (p.map (·.toNat)) 2 < 16 →
    scEn (ws.getD (nth (p.map (·.toNat)) 2) 0) = true → Completes (.fecGeometry h p) s (fun t => t.replied h .ok ∧
      t.payload h = (geometry (ws.getD (nth (p.map (·.toNat)) 2) 0) (nth (p.map (·.toNat)) 3)).map (· % 2 ^ 32)) := by
  intro h p s ws a hp h1 hheld h16 hen
  exact fecGeometry_answers ws h p s a ⟨hp, h1, hheld, h16, hen⟩

/-- Settles O11. -/
theorem fecCommands : Obligations.FecCommands :=
  ⟨fecCfg_does, fecStatus_answers, fecCounters_does, fecInject_does, fecGeometry_completes⟩

/-! ### Events -/

/-- Counters preset to 0 read 0. -/
theorem cnt_run_presets {js : List Nat} {j : Nat} (s : State) (h : j ∈ js ∨ s.cnt j = 0) : (run (js.map fun i => .preset i 0) s).cnt j = 0 := by
  induction js generalizing s with
  | nil => exact h.resolve_left (List.not_mem_nil)
  | cons i js ih =>
    refine ih (s.preset i 0) ?_
    by_cases hj : j = i
    · exact .inr (by rw [hj, cnt_preset_self]; rfl)
    · rw [cnt_preset_other _ _ hj]
      exact h.imp_left fun hm => (List.mem_cons.1 hm).resolve_left hj

theorem fecCntClr_cnt {k c : Nat} (hk : k < 16) (hc : c < 7) (s : State) : (fecCntClr.act s).cnt (fecCnt k c) = 0 := by
  have hlist : fecCntClr s = ((List.range 16).flatMap fun k => (List.range 7).map (fecCnt k)).map fun i => .preset i 0 := by
    simp only [fecCntClr, List.map_flatMap, List.map_map, Function.comp_def]
  rw [Eff.act, hlist]
  exact cnt_run_presets s (.inl (List.mem_flatMap.2 ⟨k, List.mem_range.2 hk, List.mem_map.2 ⟨c, List.mem_range.2 hc, rfl⟩⟩))

theorem logged_moves_fecCnt {k c : Nat} (hk : k < 16) (hc : c < 7) : Touch.logged.moves (fecCnt k c) = false := by
  have hall : ((List.range 16).all fun k => (List.range 7).all fun c => !Touch.logged.moves (fecCnt k c)) = true := by decide +kernel
  simpa using List.all_eq_true.1 (List.all_eq_true.1 hall k (List.mem_range.2 hk)) c (List.mem_range.2 hc)

theorem fecCntClr_completes :
    ∀ m s, s.takes m 4 → Completes (.fecCntClr m) s (fun t => ∀ k < 16, ∀ c < 7, t.cnt (fecCnt k c) = 0) := by
  intro m s ht
  refine completes_byMaster rfl ht fun t w => fun k hk c hc => ?_
  rw [w.cnt (logged_moves_fecCnt hk hc), fecCntClr_cnt hk hc]

theorem fecOneShot_completes :
    ∀ m s, s.takes m 4 → s.dev = 4 → s.rd FEC_INJ.MODE = 2 → Completes (.fecOneShot m) s (fun t => t.fec.shot = s.rd FEC_INJ.SC_MASK ∧ t.fec.shotDue = s.rd FEC_INJ.SC_MASK) := by
  intro m s ht hdev hmode
  refine completes_byMaster rfl ht fun t k => ?_
  simp (disch := decide) only [k.fec, oneShot, act_rules, upd_rules, hdev, hmode, beq_self_eq_true, Bool.and_self, if_true, and_self]

theorem fecInjDone_completes :
    ∀ s, s.fec.shot ≠ 0 → Completes .fecInjDone s (fun t => t.fec.shot = 0 ∧ t.fec.shotDue = 0) := by
  intro s hs
  refine ⟨_, rfl, ?_⟩
  simp only [act_rules, upd_rules, fec_rules, bne_iff_ne.2 hs, if_true, and_self]

theorem interopMode_of_native {m : Nat} (h : nativeMode m = true) : interopMode m = false := by
  simp only [nativeMode, interopMode, Bool.or_eq_true, Bool.and_eq_true, decide_eq_true_eq, beq_iff_eq, Bool.and_eq_false_iff, decide_eq_false_iff_not] at *
  omega

/-- Out of MAINT nothing is injected (R243). -/
theorem injected_idle {s : State} (k : Nat) (hdev : s.dev ≠ 4) : (injected k).act s = s := by
  simp only [injected, State.injRate, State.injShot, act_rules, beq_eq_false_iff_ne.2 hdev, Bool.false_and, Bool.false_eq_true, if_false]

theorem fecBlockEncode_native :
    ∀ net held k j acc blk s, s.sending = true → nativeMode s.txMode = true → net.length = 42000 → held < bufCap → s.dev ≠ 4 →
    takePos (s.bankWords 0) (fitsIn s.payloadEnd) (rho (otucOf s.txMode s.txN) (sumE (s.bankWords 0))) s.ltx.acc s.ltx.blk = some (k, j, acc, blk) →
    Completes (.fecBlockEncode net held) s (fun t => t.ltx.acc = acc ∧ t.ltx.blk = blk ∧ t.out = Output.block k j (s.blockLevels k j net) :: s.out) := by
  intro net held k j acc blk s hs hn hlen hheld hdev htake
  refine ⟨_, rfl, ?_⟩
  simp only [act_rules, hs, hn, hlen, htake, interopMode_of_native hn, not_le.2 hheld, beq_self_eq_true, Bool.and_self, Bool.or_true, Bool.not_true, Bool.false_eq_true, if_false]
  rw [injected_idle]
  · simp only [upd_rules, and_self]
  · exact hdev

theorem fecBlockEncode_interop :
    ∀ net held s, s.sending = true → interopMode s.txMode = true → held < bufCap → s.dev ≠ 4 →
    Completes (.fecBlockEncode net held) s (fun t => Tab.get 0 t.ltx.blk 0 = Tab.get 0 s.ltx.blk 0 + 1 ∧
      t.out = Output.block 0 (Tab.get 0 s.ltx.blk 0) (s.carrierLevels net) :: s.out) := by
  intro net held s hs hi hheld hdev
  refine ⟨_, rfl, ?_⟩
  simp only [act_rules, hs, hi, not_le.2 hheld, Bool.true_or, Bool.and_self, Bool.not_true, Bool.false_eq_true, if_false, if_true]
  rw [injected_idle]
  · simp only [upd_rules, Tab.get_set_self, and_self]
  · exact hdev

theorem fecBlockEncode_overflows :
    ∀ net held s, s.sending = true → nativeMode s.txMode = true → net.length = 42000 → bufCap ≤ held →
    Completes (.fecBlockEncode net held) s (fun t => t.cnt 34 = (s.cnt 34 + 1) % 2 ^ 48 ∧ t.out = s.out) := by
  intro net held s hs hn hlen hheld
  refine ⟨_, rfl, ?_⟩
  simp only [act_rules, hs, hn, hlen, hheld, beq_self_eq_true, Bool.and_self, Bool.or_true, Bool.not_true, Bool.false_eq_true, if_false, if_true, cnt_count_self, State.count_out, and_self]

section
variable (k nz errs eras iters : Nat) (uncorr dm : Bool) (s : State)

theorem countBlock_place : ((countBlock k nz errs eras iters uncorr dm).act s).lrx.acc = s.lrx.acc ∧ ((countBlock k nz errs eras iters uncorr dm).act s).lrx.blk = s.lrx.blk := by
  simp only [countBlock, act_rules, upd_rules, lrx_rules, ite_self, and_self]

theorem countBlock_out : ((countBlock k nz errs eras iters uncorr dm).act s).out = s.out := by
  simp only [countBlock, act_rules, upd_rules]
  split <;> split <;> simp only [State.count_out]

theorem cnt_fec_lrx (f : FecSt → FecSt) (g : LrxSt → LrxSt) (j : Nat) : ((Upd.lrx g).apply ((Upd.fec f).apply s)).cnt j = s.cnt j := rfl

theorem countBlock_blocks : ((countBlock k nz errs eras iters uncorr dm).act s).cnt (fecCnt k 0) = (s.cnt (fecCnt k 0) + 1) % 2 ^ 48 := by
  simp (disch := omega) only [countBlock, fecCnt, act_rules, cnt_fec_lrx, cnt_rules, ite_self]

theorem countBlock_uncorr : ((countBlock k nz errs eras iters true dm).act s).cnt (fecCnt k 4) = (s.cnt (fecCnt k 4) + 1) % 2 ^ 48 := by
  simp (disch := omega) only [countBlock, fecCnt, act_rules, cnt_fec_lrx, cnt_rules, ite_self, if_true]

end

theorem fecBlockDecode_overflows :
    ∀ ys held k j acc blk s, s.rxPlace = some (k, j, acc, blk) → demapCap ≤ held →
    Completes (.fecBlockDecode ys held) s (fun t => t.cnt 35 = (s.cnt 35 + 1) % 2 ^ 48 ∧ t.lrx.acc = acc ∧ t.lrx.blk = blk) := by
  intro ys held k j acc blk s hp hheld
  refine ⟨_, rfl, ?_⟩
  simp only [act_rules, hp, hheld, if_true]
  simp only [upd_rules, lrx_rules, and_self, and_true]
  exact cnt_count_self _ _ _

theorem fecBlockDecode_unlocked :
    ∀ ys held k j acc blk s, s.rxPlace = some (k, j, acc, blk) → held < demapCap → s.stage ≠ 10 →
    Completes (.fecBlockDecode ys held) s (fun t => t.lrx.acc = acc ∧ t.lrx.blk = blk ∧
      t.out = .net k true (List.replicate (if nativeMode s.rxMode then 42000 else (s.carrierDec (s.placeWords k j ys)).1.length) false) :: s.out) := by
  intro ys held k j acc blk s hp hheld hs
  refine ⟨_, rfl, ?_⟩
  simp only [act_rules, hp, not_le.2 hheld, bne_iff_ne.2 hs, if_false, if_true]
  simp only [upd_rules, and_self]

theorem fecBlockDecode_native :
    ∀ ys held k j acc blk s, s.rxPlace = some (k, j, acc, blk) → held < demapCap → s.stage = 10 → nativeMode s.rxMode = true →
    Completes (.fecBlockDecode ys held) s (fun t => t.lrx.acc = acc ∧ t.lrx.blk = blk ∧ t.cnt (fecCnt k 0) = (s.cnt (fecCnt k 0) + 1) % 2 ^ 48 ∧
      if (s.placeWords k j ys).all (· == 0) = true then t.out = .net k true (List.replicate 42000 false) :: s.out
      else t.out = .net k (!(s.nativeResult k j (s.placeWords k j ys)).synOk || (s.nativeResult k j (s.placeWords k j ys)).dmFail)
        (s.nativeResult k j (s.placeWords k j ys)).net :: s.out) := by
  intro ys held k j acc blk s hp hheld hs hn
  refine ⟨_, rfl, ?_⟩
  simp only [act_rules, hp, not_le.2 hheld, hs, hn, interopMode_of_native hn, bne_self_eq_false, Bool.false_eq_true, if_false, if_true]
  split
  next h =>
    simp only [upd_rules, countBlock_place, countBlock_out, countBlock_blocks, true_and]
    exact ⟨rfl, trivial⟩
  next h =>
    simp only [nativeBlock, act_rules, countBlock_place, countBlock_out, countBlock_blocks]
    have hres : ((Upd.lrx fun x => { x with acc := acc, blk := blk }).apply s).nativeResult k j (s.placeWords k j ys) = s.nativeResult k j (s.placeWords k j ys) := rfl
    simp only [hres]
    split <;> exact ⟨rfl, rfl, rfl, rfl⟩

theorem fecBlockDecode_interop :
    ∀ ys held k j acc blk s, s.rxPlace = some (k, j, acc, blk) → held < demapCap → s.stage = 10 → nativeMode s.rxMode = false →
    Completes (.fecBlockDecode ys held) s (fun t => t.lrx.acc = acc ∧ t.lrx.blk = blk ∧
      if (s.placeWords k j ys).all (· == 0) = true then t.cnt (fecCnt k 4) = (s.cnt (fecCnt k 4) + 1) % 2 ^ 48
      else t.out = .net 0 (s.carrierDec (s.placeWords k j ys)).2 (s.carrierDec (s.placeWords k j ys)).1 :: s.out) := by
  intro ys held k j acc blk s hp hheld hs hn
  refine ⟨_, rfl, ?_⟩
  have hi : interopMode s.rxMode = true := by
    by_contra hno
    simp [State.rxPlace, hn, hno] at hp
  simp only [act_rules, hp, not_le.2 hheld, hs, hn, hi, bne_self_eq_false, Bool.false_eq_true, if_false, if_true]
  split
  next h =>
    simp only [upd_rules, countBlock_place, countBlock_uncorr, true_and]
    rfl
  next h =>
    simp only [carrierBlock, act_rules, countBlock_place, countBlock_out]
    exact ⟨rfl, rfl, rfl⟩

/-- Settles O12. -/
theorem fecEvents : Obligations.FecEvents :=
  ⟨fecCntClr_completes, fecOneShot_completes, fecInjDone_completes, fecBlockEncode_native, fecBlockEncode_interop, fecBlockEncode_overflows,
    fecBlockDecode_overflows, fecBlockDecode_unlocked, fecBlockDecode_native, fecBlockDecode_interop⟩

/-! ### The parity checks (R220) -/

theorem xorAll_range_succ (g : Nat → Bool) (n : Nat) : xorAll ((List.range (n + 1)).map g) = (xorAll ((List.range n).map g) != g n) := by
  simp only [xorAll, List.range_succ, List.map_append, List.map_cons, List.map_nil, List.foldl_append, List.foldl_cons, List.foldl_nil]

/-- Down the staircase, a parity column adds up the rows above it, with column 0 where those rows have it. -/
theorem parityBit_stairs (f : Nat → Bool) (x t : Nat) : parityBit f (t + 1) x =
    ((xorAll ((List.range (t + 1)).map fun i => infoCheck f i x) != parityBit f 0 ((x + 1) % 420)) != (decide (8 ≤ t) && parityBit f 0 x)) := by
  induction t with
  | zero => simp [parityBit, xorAll]
  | succ t ih =>
    have hstep : parityBit f (t + 1 + 1) x = ((infoCheck f (t + 1) x != parityBit f (t + 1) x) != (if t + 1 = 8 then parityBit f 0 x else false)) := rfl
    rw [hstep, ih, xorAll_range_succ _ (t + 1)]
    have hcol : (if t + 1 = 8 then parityBit f 0 x else false) = (decide (t + 1 = 8) && parityBit f 0 x) := by
      by_cases h : t + 1 = 8 <;> simp [h]
    have h8 : decide (8 ≤ t + 1) = (decide (8 ≤ t) != decide (t + 1 = 8)) := by
      by_cases h : t + 1 = 8
      · simp [h, show ¬8 ≤ t by omega]
      · simp only [h, decide_false, Bool.bne_false, decide_eq_decide]
        omega
    rw [hcol, h8]
    generalize xorAll _ = a
    generalize infoCheck f (t + 1) x = b
    generalize parityBit f 0 x = c
    generalize parityBit f 0 ((x + 1) % 420) = d
    generalize decide (8 ≤ t) = e
    generalize decide (t + 1 = 8) = g
    revert a b c d e g
    decide

theorem checkBit_parityBit (f : Nat → Bool) {i : Nat} (hi : i < 16) (x : Nat) : checkBit f (parityBit f) i x = false := by
  simp only [checkBit, parCheck]
  rcases Nat.eq_zero_or_pos i with rfl | hpos
  · rw [parityBit_stairs]
    simp [xorAll]
    cases infoCheck f 0 x <;> cases parityBit f 0 ((x + 1) % 420) <;> rfl
  · obtain ⟨t, rfl⟩ : ∃ t, i = t + 1 := ⟨i - 1, by omega⟩
    by_cases h15 : t + 1 = 15
    · obtain rfl : t = 14 := by omega
      have hall : parityBit f 0 x = (xorAll ((List.range 15).map fun i => infoCheck f i x) != infoCheck f 15 x) := xorAll_range_succ _ 15
      rw [parityBit_stairs, hall]
      simp
      generalize xorAll _ = a
      cases infoCheck f 15 x <;> cases parityBit f 0 ((x + 1) % 420) <;> cases a <;> rfl
    · have hstep : parityBit f (t + 1 + 1) x = ((infoCheck f (t + 1) x != parityBit f (t + 1) x) != (if t + 1 = 8 then parityBit f 0 x else false)) := rfl
      rw [hstep]
      by_cases h8 : t + 1 = 8
      · simp [h8]
        cases infoCheck f 8 x <;> cases parityBit f 0 x <;> cases parityBit f 8 x <;> rfl
      · simp [h15, h8]
        cases infoCheck f (t + 1) x <;> cases parityBit f (t + 1) x <;> rfl

/-! ### The distribution matcher (R224) -/

/-- The sequences that begin with amplitude `a`, when `n` amplitudes follow within the bound `m`. -/
def startingWith (lv n m a : Nat) : Nat := if ampW a ≤ m then seqCount lv n (m - ampW a) else 0

theorem sum_startingWith (lv n m : Nat) (l : List Nat) :
    ((l.filter (fun a => decide (ampW a ≤ m))).map (fun a => seqCount lv n (m - ampW a))).foldl (· + ·) 0 = (l.map (startingWith lv n m)).sum := by
  rw [← List.sum_eq_foldl]
  induction l with
  | nil => rfl
  | cons a l ih => by_cases h : ampW a ≤ m <;> simp [startingWith, h, ih]

theorem pickAmp_cons (lv n m v a : Nat) (l : List Nat) : pickAmp n m v lv (a :: l) =
    if v < startingWith lv n m a ∨ l = [] then (a, m - ampW a, v) else pickAmp n m (v - startingWith lv n m a) lv l := rfl

/-- The amplitude at which a rank falls: the sequences that begin with the amplitudes before it are counted off. -/
theorem pickAmp_falls (lv n m : Nat) : ∀ (l : List Nat) (v : Nat), v < (l.map (startingWith lv n m)).sum →
    ∃ pre a suf, l = pre ++ a :: suf ∧ pickAmp n m v lv l = (a, m - ampW a, v - (pre.map (startingWith lv n m)).sum) ∧
      (pre.map (startingWith lv n m)).sum ≤ v ∧ v - (pre.map (startingWith lv n m)).sum < startingWith lv n m a
  | [], v, hv => by simp at hv
  | a :: l, v, hv => by
    rw [List.map_cons, List.sum_cons] at hv
    rw [pickAmp_cons]
    by_cases h : v < startingWith lv n m a
    · exact ⟨[], a, l, rfl, by rw [if_pos (.inl h)]; rfl, Nat.zero_le _, h⟩
    · have hl : l ≠ [] := by
        rintro rfl
        simp at hv
        omega
      obtain ⟨pre, b, suf, rfl, hpick, hle, hlt⟩ := pickAmp_falls lv n m l (v - startingWith lv n m a) (by omega)
      refine ⟨a :: pre, b, suf, rfl, ?_, ?_, ?_⟩
      · rw [if_neg (not_or.2 ⟨h, hl⟩)]
        refine hpick.trans ?_
        rw [List.map_cons, List.sum_cons, Nat.sub_sub]
      · rw [List.map_cons, List.sum_cons]
        omega
      · rw [List.map_cons, List.sum_cons, ← Nat.sub_sub]
        exact hlt

theorem range_split {lv a : Nat} {pre suf : List Nat} (h : List.range lv = pre ++ a :: suf) : pre = List.range a ∧ a < lv := by
  have hlen : lv = pre.length + (suf.length + 1) := by simpa using congrArg List.length h
  have ha : a = pre.length := by
    have := congrArg (·[pre.length]?) h
    simpa [show pre.length < lv by omega] using this.symm
  refine ⟨?_, by omega⟩
  have htake := congrArg (List.take pre.length) h
  rw [List.take_range, List.take_left, Nat.min_eq_left (by omega), ← ha] at htake
  exact htake.symm

theorem rankOf_unrank :
    ∀ lv n m v, v < seqCount lv n m → rankOf lv m (unrank lv n m v) = some v ∧ (unrank lv n m v).length = n ∧ ∀ a ∈ unrank lv n m v, a < lv := by
  intro lv n
  induction n with
  | zero =>
    intro m v hv
    obtain rfl : v = 0 := by simpa [seqCount] using hv
    exact ⟨rfl, rfl, by simp [unrank]⟩
  | succ n ih =>
    intro m v hv
    rw [seqCount, sum_startingWith] at hv
    obtain ⟨pre, a, suf, hsplit, hpick, hle, hlt⟩ := pickAmp_falls lv n m (List.range lv) v hv
    obtain ⟨rfl, ha⟩ := range_split hsplit
    have hfits : ampW a ≤ m := by
      by_contra hno
      simp [startingWith, hno] at hlt
    have hcount : startingWith lv n m a = seqCount lv n (m - ampW a) := if_pos hfits
    obtain ⟨hrank, hlen, hall⟩ := ih (m - ampW a) _ (hcount ▸ hlt)
    have hun : unrank lv (n + 1) m v = a :: unrank lv n (m - ampW a) (v - ((List.range a).map (startingWith lv n m)).sum) := by rw [unrank, hpick]
    rw [hun]
    refine ⟨?_, by rw [List.length_cons, hlen], List.forall_mem_cons.2 ⟨ha, hall⟩⟩
    rw [rankOf, if_neg (not_lt.2 hfits), hrank, Option.map_some, hlen, sum_startingWith, Nat.sub_add_cancel hle]

theorem parityBit_meets :
    ∀ f, ∀ i < 16, ∀ x < 420, checkBit f (parityBit f) i x = false := by
  exact fun f i hi x _ => checkBit_parityBit f hi x

/-- Settles O52. -/
theorem fecCodes : Obligations.FecCodes :=
  ⟨parityBit_meets, rankOf_unrank⟩

end Sys2Proof.Machine

/-!
Line framing: its commands, Dovetail, the defects and the frames (R248 to R279).
-/
namespace Sys2Proof.Machine
open Sys2Proof

-- The kernel evaluates many small footprints: one thread serves them all.
set_option Elab.async false


/-! ### Commands -/

theorem frmCfg_does :
    Does .frmCfg opFrmCfg (fun p _ => wordOk FRM_DOVE_CFG.fields (nth p 0) = true ∧ wordOk FRM_DEF_CFG.fields (nth p 1) = true ∧ wordOk FRM_DEG_CFG.fields (nth p 2) = true ∧
      wordOk FRM_CA_CFG.fields (nth p 3) = true)
    (fun _ p _ t => t.rd FRM_DOVE_CFG.M = FRM_DOVE_CFG.M.raw (nth p 0) ∧ t.rd FRM_DEF_CFG.LOF_SET = FRM_DEF_CFG.LOF_SET.raw (nth p 1) ∧
      t.rd FRM_DEG_CFG.DEG_M = FRM_DEG_CFG.DEG_M.raw (nth p 2) ∧ t.rd FRM_CA_CFG.TIM_MODE = FRM_CA_CFG.TIM_MODE.raw (nth p 3)) := by
  refine does_of_okE (fun _ _ _ => rfl) ?_
  rintro h p s ⟨hdove, hdef, hdeg, hca⟩
  refine ⟨_, by simp only [opFrmCfg, hdove, hdef, hdeg, hca]; rfl, fun t k => ?_⟩
  simp (disch := decide) only [k.rd, act_rules, (keeps_judgeFill _).rd, putWord_other, putWord_rd (fs := FRM_DOVE_CFG.fields) (.head _),
    putWord_rd (fs := FRM_DEF_CFG.fields) (.head _), putWord_rd (fs := FRM_DEG_CFG.fields) (.tail _ (.tail _ (.head _))),
    putWord_rd (fs := FRM_CA_CFG.fields) (.tail _ (.head _)), and_self]

theorem frmStatus_answers :
    Answers .frmStatus opFrmStatus (fun _ _ => True) (fun _ s => [s.frmStatus, s.word [FRM_DOVE_STAT.CANDS, FRM_DOVE_STAT.BLK_OFS]] ++
    (List.range 4).flatMap (fun k => s.bankWords64 (256 + k))) := by
  exact answers_of_body (fun _ _ _ => rfl) fun h p s _ => ⟨_, rfl, rfl⟩

theorem frmPmGet_answers :
    Answers .frmPmGet opFrmPmGet (fun p _ => nth p 0 ≤ 33 ∧ 1 ≤ nth p 1 ∧ nth p 1 ≤ 900)
    (fun p s => (s.frm.recs.take (nth p 1)).flatMap (fun r => w64 r.time ++ [r.frames] ++ r.layers.getD (nth p 0) [0, 0, 0, 0])) := by
  refine does_of_body (fun _ _ _ => rfl) ?_
  rintro h p s ⟨hplain, h33, h1, h900⟩
  refine ⟨nop, _, _, by simp only [opFrmPmGet, not_lt.2 h33, Nat.one_le_iff_ne_zero.1 h1, not_lt.2 h900, or_self, if_false]; rfl, fun t k => ?_⟩
  rw [k.payload hplain]

theorem frmTtiSet_does :
    Does .frmTtiSet opFrmTtiSet (fun p _ => nth p 0 ≤ 1) (fun _ p _ t => Tab.get [] t.frm.ttiTx (nth p 0) = bytesOf ((p.drop 1).take 16) ∧
    Tab.get [] t.frm.ttiExp (nth p 0) = bytesOf ((p.drop 17).take 16)) := by
  refine does_of_okE (fun _ _ _ => rfl) ?_
  rintro h p s hl
  refine ⟨_, by simp only [opFrmTtiSet, not_lt.2 hl, if_false]; rfl, fun t k => ?_⟩
  simp only [k.frm, act_rules, upd_rules, Tab.get_set_self, and_self]

theorem frmTtiGet_answers :
    Answers .frmTtiGet opFrmTtiGet (fun p _ => nth p 0 ≤ 1) (fun p s => packBytes ((s.frm.layer (nth p 0)).ttiAcc.getD [])) := by
  refine answers_of_body (fun _ _ _ => rfl) ?_
  rintro h p s hl
  exact ⟨_, by simp only [opFrmTtiGet, not_lt.2 hl, if_false]; rfl, rfl⟩

theorem frmOhcCfg_does :
    Does .frmOhcCfg opFrmOhcCfg (fun p s => nth p 0 ≤ 2 ∧ wordOk FRM_OHC_ROUTE.fields (nth p 2) = true ∧ s.routeOk (nth p 2) = true)
    (fun _ p _ t => t.rd FRM_OHC_CFG.SLICE_MASK (nth p 0) = nth p 1 % 2 ^ FRM_OHC_CFG.SLICE_MASK.width ∧
      t.rd FRM_OHC_ROUTE.RX_DEST (nth p 0) = FRM_OHC_ROUTE.RX_DEST.raw (nth p 2) ∧ t.rd FRM_OHC_ROUTE.TX_SRC (nth p 0) = FRM_OHC_ROUTE.TX_SRC.raw (nth p 2)) := by
  refine does_of_okE (fun _ _ _ => rfl) ?_
  rintro h p s ⟨hc, hw, hr⟩
  refine ⟨_, by simp only [opFrmOhcCfg, not_lt.2 hc, hw, hr]; rfl, fun t k => ?_⟩
  generalize nth p 0 = c at hc k ⊢
  interval_cases c <;> simp (disch := decide) only [k.rd, act_rules, rd_rules, putWord_other, putWord_rd (fs := FRM_OHC_ROUTE.fields) (.tail _ (.head _)),
    putWord_rd (fs := FRM_OHC_ROUTE.fields) (.tail _ (.tail _ (.head _))), and_self]

theorem frmOhcXfer_sends :
    Does .frmOhcXfer opFrmOhcXfer (fun p s => nth p 0 ≤ 2 ∧ nth p 1 = 2 ∧ s.rd FRM_OHC_ROUTE.TX_SRC (nth p 0) = 1)
    (fun _ p s t => (t.frm.ohc (nth p 0)).txEng = (s.frm.ohc (nth p 0)).txEng ++ (bytesOf (p.drop 2)).take (1024 - (s.frm.ohc (nth p 0)).txEng.length)) := by
  refine does_of_okP (fun _ _ _ => rfl) ?_
  rintro h p s ⟨hc, h2, hsrc⟩
  refine ⟨_, _, by simp only [opFrmOhcXfer, not_lt.2 hc, h2, hsrc]; rfl, fun t k => ?_⟩
  rw [k.keeps.frm, modOh_self]

theorem Keeps.plain {m : May} {s t : State} (k : Keeps m s t) (h : Comp.pair ∉ m.comps) (hs : s.plain) : t.plain := by
  have hpair : { t.pair with
      wait := s.pair.wait, kept := s.pair.kept, keptBytes := s.pair.keptBytes, cutBytes := s.pair.cutBytes, jcut := s.pair.jcut, untold := s.pair.untold } = s.pair :=
    k.comps .pair h
  have htold : t.pair.told = s.pair.told := by simpa using congrArg PairSt.told hpair
  have hmask : t.pair.mask = s.pair.mask := by simpa using congrArg PairSt.mask hpair
  rwa [State.plain, htold, hmask]

theorem frmOhcXfer_answers :
    Answers .frmOhcXfer opFrmOhcXfer (fun p s => nth p 0 ≤ 2 ∧ nth p 1 = 1 ∧ s.rd FRM_OHC_ROUTE.RX_DEST (nth p 0) = 1) (fun p s => packBytes (s.frm.ohc (nth p 0)).rxEng ++ [0]) := by
  refine does_of_okP (fun _ _ _ => rfl) ?_
  rintro h p s ⟨hplain, hc, h1, hdest⟩
  refine ⟨_, _, by simp only [opFrmOhcXfer, not_lt.2 hc, h1, hdest]; rfl, fun t k => ?_⟩
  refine k.payload ?_
  simp only [act_seq_cons, act_seq_nil, act_modOh]
  exact (keeps_drainOh _ _ _).plain (by decide) hplain

/-- Settles O13. -/
theorem framingCommands : Obligations.FramingCommands :=
  ⟨frmCfg_does, frmStatus_answers, frmPmGet_answers, frmTtiSet_does, frmTtiGet_answers, frmOhcCfg_does, frmOhcXfer_sends, frmOhcXfer_answers⟩

/-! ### Dovetail and the defects -/

theorem cnt_run_clears {us : List Upd} (hus : ∀ u ∈ us, (∃ i, u = .preset i 0) ∨ ∃ f i v, u = .put f i v) {j : Nat} (s : State) (h : .preset j 0 ∈ us ∨ s.cnt j = 0) :
    (run us s).cnt j = 0 := by
  induction us generalizing s with
  | nil => exact h.resolve_left List.not_mem_nil
  | cons u us ih =>
    obtain ⟨hu, hus⟩ := List.forall_mem_cons.1 hus
    refine ih hus (u.apply s) ?_
    rcases hu with ⟨i, rfl⟩ | ⟨f, i, v, rfl⟩
    · by_cases hj : j = i
      · exact .inr (by rw [hj]; exact cnt_preset_self s i 0)
      · refine h.imp (fun hm => (List.mem_cons.1 hm).resolve_left fun he => hj (Upd.preset.inj he).1) fun h0 => ?_
        exact (cnt_preset_other s 0 hj).trans h0
    · exact h.imp_left fun hm => (List.mem_cons.1 hm).resolve_left (by simp)

theorem frmCntClr_completes :
    ∀ m s, s.takes m 5 → Completes (.frmCntClr m) s (fun t => ∀ k < 4, t.cnt (256 + k) = 0) := by
  intro m s ht
  refine completes_byMaster rfl ht fun t w => fun k hk => ?_
  rw [w.cnt (by interval_cases k <;> decide)]
  refine cnt_run_clears ?_ s (.inl ?_)
  · rintro u hu
    simp only [frmCntClr, List.mem_append, List.mem_map, List.mem_flatMap, List.mem_cons, List.not_mem_nil, or_false] at hu
    obtain ⟨i, -, rfl⟩ | ⟨i, -, rfl | rfl⟩ := hu
    · exact .inl ⟨_, rfl⟩
    · exact .inr ⟨_, _, _, rfl⟩
    · exact .inr ⟨_, _, _, rfl⟩
  · simp [frmCntClr, hk]

/-- Dovetail out of frame and without a candidate (R257, R259). -/
theorem dovetailRestart_restarts (s : State) : (dovetailRestart.act s).frm.cands = [] ∧ (dovetailRestart.act s).rd FRM_STATUS.OOF = 1 ∧
    (dovetailRestart.act s).rd FRM_STATUS.IM = 0 ∧ (dovetailRestart.act s).rd FRM_STATUS.DOVE = 0 := by
  simp (disch := decide) only [dovetailRestart, setCands, act_rules, upd_rules, rd_rules, rd_mk, frm_rules, (keeps_judgeFill _).rd, (keeps_judgeFill _).frm]
  decide

theorem dovetailRestart_cnt (s : State) (j : Nat) (h : Touch.dovetailRestart.moves j = false) : (dovetailRestart.act s).cnt j = s.cnt j :=
  (keeps_dovetailRestart s).cnt h

theorem frmResync_completes :
    ∀ m s, s.takes m 5 → Completes (.frmResync m) s (fun t => t.frm.cands = [] ∧ t.rd FRM_STATUS.OOF = 1 ∧ t.rd FRM_STATUS.IM = 0 ∧ t.rd FRM_STATUS.DOVE = 0) := by
  intro m s ht
  refine completes_byMaster rfl ht fun t w => ?_
  simp (disch := decide) only [w.rd, w.frm, dovetailRestart_restarts, and_self]

theorem fasDetect_completes :
    ∀ o b mk s, s.rxMode ≠ 0 → s.inFrame = false → s.frm.cands = [] → s.frm.window = false → s.frameBits ≠ 0 → Completes (.fasDetect o b mk) s
    (fun t => t.frm.cands = [⟨o % s.frameBits, b, s.agrees b mk, 1, s.rd FRM_DOVE_CFG.N, false⟩] ∧ t.rd FRM_DOVE_STAT.CANDS = 1 ∧ t.rd FRM_STATUS.DOVE = 1) := by
  intro o b mk s hmode hin hc hw hbits
  refine ⟨_, rfl, ?_⟩
  simp (disch := decide) only [act_rules, upd_rules, setCands, hmode, hin, hc, hw, hbits, rd_rules, frm_rules, List.any_nil, List.length_nil, List.nil_append, Bool.false_or,
    Bool.false_eq_true, if_false, decide_eq_true_eq, Nat.reduceLeDiff]
  exact ⟨trivial, rfl, rfl⟩

theorem candidateCheck_drops :
    ∀ o c s, s.frm.cands.find? (fun c => c.off == o) = some c → c.done = false → Completes (.candidateCheck o false) s
    (fun t => t.cnt 257 = (s.cnt 257 + 1) % 2 ^ 48 ∧ t.frm.cands = s.frm.cands.filter (fun d => d.off != o)) := by
  intro o c s hfind hdone
  refine ⟨_, rfl, ?_⟩
  simp only [act_rules, upd_rules, setCands, hfind, hdone, Bool.false_eq_true, if_false, Bool.not_false, if_true, cnt_rules, frm_rules]
  exact ⟨cnt_count_self _ _ _, trivial⟩

theorem resolutionWindowEnd_completes :
    ∀ w s, s.frm.window = true → (s.frm.cands.filter (·.done)).filter (·.agree) = [w] → Completes .resolutionWindowEnd s
    (fun t => t.inFrame = true ∧ t.rd FRM_STATUS.OOF = 0 ∧ t.frm.inOff = w.off ∧ t.frm.cands = []) := by
  intro w s hw hone
  refine ⟨_, rfl, ?_⟩
  simp (disch := decide) only [State.inFrame, act_rules, upd_rules, emul, hw, hone, Bool.not_true, Bool.false_eq_true, if_false, (keeps_judgeFill _).rd, (keeps_judgeFill _).frm,
    rd_rules, frm_rules]
  decide

theorem inFrameCheck_sees :
    ∀ s, s.inFrame = true → Completes (.inFrameCheck true) s (fun t => t.frm.miss = 0 ∧ t.rd FRM_STATUS.DOVE = 3) := by
  intro s hin
  refine ⟨_, rfl, ?_⟩
  simp only [act_rules, upd_rules, hin, Bool.not_true, Bool.false_eq_true, if_false, if_true, rd_rules, frm_rules]
  decide

theorem inFrameCheck_leaves :
    ∀ s, s.inFrame = true → s.rd FRM_DOVE_CFG.M ≤ s.frm.miss + 1 → Completes (.inFrameCheck false) s
    (fun t => t.inFrame = false ∧ t.rd FRM_STATUS.OOF = 1 ∧ t.cnt 258 = (s.cnt 258 + 1) % 2 ^ 48) := by
  intro s hin hm
  refine ⟨_, rfl, ?_⟩
  simp (disch := decide) only [act_rules, not_lt.2 hm, Bool.false_eq_true, if_false, rd_rules, State.inFrame, dovetailRestart_restarts, cnt_rules,
    (keeps_dovetailRestart _).cnt]
  have hleaves : 3 ≤ s.rd FRM_STATUS.DOVE := by simpa [State.inFrame] using hin
  simp [hleaves]

/-! ### The defects -/

/-- The effect moves no part of the framer but the defects that stand and those seen. -/
theorem clearDefect_frm (c l : Nat) (s : State) : ((clearDefect c l).act s).frm = { s.frm with defects := s.frm.defects.filter fun e => !(e.code == c && e.layer == l) } := by
  simp only [clearDefect, act_rules]
  split
  next h =>
    rw [List.filter_eq_self.2]
    · rfl
    · simpa [imp_iff_not_or] using List.find?_eq_none.1 h
  next => simp only [act_rules, upd_rules, frm_rules]

theorem forE_clearDefect_frm (ds : List Defect) (s : State) : ∃ x, ((forE ds fun d => clearDefect d.code d.layer).act s).frm = { s.frm with defects := x } ∧
    ∀ d ∈ x, d ∈ s.frm.defects := by
  induction ds generalizing s with
  | nil => exact ⟨_, rfl, fun _ h => h⟩
  | cons d ds ih =>
    rw [act_forE_cons]
    obtain ⟨x, hx, hmem⟩ := ih ((clearDefect d.code d.layer).act s)
    refine ⟨x, by rw [hx, clearDefect_frm], fun e he => ?_⟩
    have := hmem e he
    rw [clearDefect_frm] at this
    exact (List.mem_filter.1 this).1

theorem declareDefect_frm (c l : Nat) (s : State) : ∃ x y, ((declareDefect c l).act s).frm = { s.frm with defects := x, seen := y } ∧
    ∀ d ∈ x, d ∈ s.frm.defects ∨ d.code = c ∧ d.layer = l := by
  simp only [declareDefect, act_rules, upd_rules]
  split
  · exact ⟨_, _, rfl, fun _ h => .inl h⟩
  · obtain ⟨x, hx, hmem⟩ := forE_clearDefect_frm (s.frm.defects.filter fun d => suppresses c l d.code d.layer)
      ((raise EV.DEFECT_RAISE [c, l]).act { s with frm := { s.frm with defects := s.frm.defects ++ [⟨c, l, s.tick⟩], seen := s.frm.seen ++ [(c, l)] } })
    simp only [act_rules, frm_rules] at hx hmem
    refine ⟨x, _, hx, fun d hd => ?_⟩
    rcases List.mem_append.1 (hmem d hd) with h | h
    · exact .inl h
    · rw [List.mem_singleton.1 h]
      exact .inr ⟨rfl, rfl⟩

theorem defect_eq_false {s : State} {c l : Nat} : s.defect c l = false ↔ ∀ d ∈ s.frm.defects, ¬(d.code = c ∧ d.layer = l) := by
  simp [State.defect]

theorem clearDefect_clears (c l : Nat) (s : State) : ((clearDefect c l).act s).defect c l = false := by
  rw [defect_eq_false, clearDefect_frm]
  rintro d hd ⟨rfl, rfl⟩
  simp at hd

/-- A defect that does not stand does not arise as others come and go. -/
theorem clearDefect_defect {a b : Nat} (c l : Nat) {s : State} (h : s.defect a b = false) : ((clearDefect c l).act s).defect a b = false := by
  rw [defect_eq_false, clearDefect_frm]
  exact fun d hd => defect_eq_false.1 h d (List.mem_filter.1 hd).1

theorem declareDefect_defect {a b c l : Nat} (hne : (a, b) ≠ (c, l)) {s : State} (h : s.defect a b = false) : ((declareDefect c l).act s).defect a b = false := by
  obtain ⟨x, y, hx, hmem⟩ := declareDefect_frm c l s
  rw [defect_eq_false, hx]
  rintro d hd ⟨rfl, rfl⟩
  exact (hmem d hd).elim (fun hd => defect_eq_false.1 h d hd ⟨rfl, rfl⟩) fun ⟨hc, hl⟩ => hne (by rw [hc, hl])

/-- With no defect standing, one whose entry condition holds is declared. -/
theorem declareDefect_declares (c l : Nat) {s : State} (hrx : s.on LRX_CTRL.RX_EN = true) (hd : s.frm.defects = []) : ((declareDefect c l).act s).defect c l = true := by
  simp only [declareDefect, State.defect, act_rules, upd_rules, hrx, hd, List.any_nil, List.filter_nil, Bool.not_true, Bool.or_self, Bool.false_eq_true, if_false, List.nil_append]
  simp

theorem judgeFill_defect (s : State) (c l : Nat) : (judgeFill.act s).defect c l = s.defect c l := by
  simp (disch := decide) only [State.defect, (keeps_judgeFill _).frm]

theorem losClear_completes :
    ∀ s, s.on LRX_STATUS.SIG_PRESENT = true → s.on LTX_LAS_STAT.FAIL s.loPort = false → Completes .losClear s (fun t => t.defect 1 0 = false) := by
  intro s hs hl
  refine ⟨_, rfl, ?_⟩
  simp only [act_rules, hs, hl, Bool.not_false, Bool.and_self, if_true, syncLosf, judgeFill_defect]
  split
  · exact declareDefect_defect (by decide) (clearDefect_clears 1 0 s)
  · exact clearDefect_defect 2 0 (clearDefect_clears 1 0 s)

theorem lofDeclare_completes :
    ∀ s, s.inFrame = false → s.on LRX_CTRL.RX_EN = true → s.frm.defects = [] → Completes .lofDeclare s (fun t => t.defect 3 0 = true) := by
  intro s hin hrx hd
  refine ⟨_, rfl, ?_⟩
  simp only [act_rules, hin, Bool.not_false, if_true, judgeFill_defect, declareDefect_declares 3 0 hrx hd]

theorem lofClear_completes :
    ∀ s, s.inFrame = true → Completes .lofClear s (fun t => t.defect 3 0 = false) := by
  intro s hin
  refine ⟨_, rfl, ?_⟩
  simp only [act_rules, hin, if_true, judgeFill_defect, clearDefect_clears]

theorem lomDeclare_completes :
    ∀ s, s.on FRM_STATUS.IM = false → nativeMode s.rxMode = true → s.on LRX_CTRL.RX_EN = true → s.frm.defects = [] → Completes .lomDeclare s (fun t => t.defect 4 0 = true) := by
  intro s him hn hrx hd
  refine ⟨_, rfl, ?_⟩
  simp only [act_rules, him, hn, Bool.not_false, Bool.and_self, if_true, judgeFill_defect, declareDefect_declares 4 0 hrx hd]

theorem lomClear_completes :
    ∀ s, s.on FRM_STATUS.IM = true → Completes .lomClear s (fun t => t.defect 4 0 = false) := by
  intro s him
  refine ⟨_, rfl, ?_⟩
  simp only [act_rules, him, if_true, judgeFill_defect, clearDefect_clears]

/-! ### Frames and seconds -/

theorem act_seqE_same {β : Type} (P : State → β) {es : List Eff} (h : ∀ e ∈ es, ∀ u, P (e.act u) = P u) (s : State) : P ((seqE es).act s) = P s :=
  act_seqE_keeps (I := fun u => P u = P s) (fun e he u hu => (h e he u).trans hu) rfl

/-- What a received frame counts of itself: the frames of the second, and the violations of SM. -/
def State.frameCount (s : State) : Nat × Nat := (s.frm.frames, (s.frm.layer 0).bipv)

theorem frameCount_of_frm {s t : State} (h : t.frm = s.frm) : t.frameCount = s.frameCount := by rw [State.frameCount, State.frameCount, h]

theorem declareDefect_frameCount (c l : Nat) (s : State) : ((declareDefect c l).act s).frameCount = s.frameCount := by
  obtain ⟨x, y, h, -⟩ := declareDefect_frm c l s
  rw [State.frameCount, h]
  rfl

theorem clearDefect_frameCount (c l : Nat) (s : State) : ((clearDefect c l).act s).frameCount = s.frameCount := by
  rw [State.frameCount, clearDefect_frm]
  rfl

theorem modLayer_frameCount {l : Nat} {g : Layer → Layer} (hg : l ≠ 0 ∨ ∀ y, (g y).bipv = y.bipv) (s : State) : ((modLayer l g).act s).frameCount = s.frameCount := by
  have hframes : ((modLayer l g).act s).frm.frames = s.frm.frames := by rw [act_modLayer]
  rw [State.frameCount, State.frameCount, hframes]
  rcases eq_or_ne 0 l with rfl | hl
  · rw [modLayer_self, hg.resolve_left (by simp)]
  · rw [modLayer_other g s hl]

theorem takeLayer_frameCount (bip : Nat) (bei bdi : Bool) (s : State) : ((takeLayer 0 bip bei bdi).act s).frameCount = (s.frameCount.1, s.frameCount.2 + bip) := by
  rw [takeLayer, State.frameCount, modLayer_self, act_modLayer]
  rfl

theorem takeLayer_frameCount_other {l : Nat} (hl : l ≠ 0) (bip : Nat) (bei bdi : Bool) (s : State) : ((takeLayer l bip bei bdi).act s).frameCount = s.frameCount :=
  modLayer_frameCount (.inl hl) s

theorem judgeStat_frameCount (c v l : Nat) (s : State) : ((judgeStat c v l).act s).frameCount = s.frameCount := by
  simp only [judgeStat, act_rules]
  split
  · exact declareDefect_frameCount _ _ _
  · simp only [clearDefect_frameCount, apply_ite State.frameCount, ite_self]

theorem judgeRdi_frameCount (l : Nat) (s : State) : ((judgeRdi l).act s).frameCount = s.frameCount := by
  simp only [judgeRdi, act_rules]
  split
  · exact declareDefect_frameCount _ _ _
  · simp only [clearDefect_frameCount, apply_ite State.frameCount, ite_self]

theorem judgeTim_frameCount (l : Nat) (s : State) : ((judgeTim l).act s).frameCount = s.frameCount := by
  simp only [judgeTim, act_rules]
  split
  · exact declareDefect_frameCount _ _ _
  · exact clearDefect_frameCount _ _ _

theorem takeStat_frameCount (l v : Nat) (s : State) : ((takeStat l v).act s).frameCount = s.frameCount := by
  simp only [takeStat, act_rules, judgeStat_frameCount]
  exact modLayer_frameCount (.inr fun _ => by rfl) s

theorem takeTti_frameCount (l b : Nat) (s : State) : ((takeTti l b).act s).frameCount = s.frameCount := by
  have hraise : ∀ (u : State) e p, (u.raise e p).frameCount = u.frameCount := fun u e p => frameCount_of_frm (State.raise_frm u e p)
  simp only [takeTti, act_rules, apply_ite State.frameCount, hraise]
  simp (disch := simp) only [modLayer_frameCount, ite_self]

theorem takeFlex_frameCount (x : FlexOh) (s : State) : ((takeFlex x).act s).frameCount = s.frameCount := by
  simp only [takeFlex, act_rules]
  split
  · rfl
  · simp only [judgeRdi_frameCount, takeStat_frameCount]
    exact modLayer_frameCount (.inl (by omega)) _

theorem multiframe_frameCount (m : Nat) (s : State) : ((multiframe m).act s).frameCount = s.frameCount := by
  simp only [multiframe, act_rules, upd_rules]
  split_ifs <;> rfl

/-- An overhead channel takes no part in what a frame counts. -/
theorem modOh_frameCount (c : Nat) (g : OhSt → OhSt) (s : State) : ((modOh c g).act s).frameCount = s.frameCount := by
  rw [act_modOh]
  rfl

theorem ohWrite_frameCount (c : Nat) (rx : Bool) (f : List Nat) (s : State) : ((ohWrite c rx f).act s).frameCount = s.frameCount := by
  simp only [ohWrite, ohSlip, act_rules]
  split_ifs <;> rfl

theorem drainOh_frameCount (c n : Nat) (s : State) : ((drainOh c n).act s).frameCount = s.frameCount := by
  induction n generalizing s with
  | zero => rfl
  | succ n ih =>
    simp only [drainOh, act_dyn]
    split
    · rfl
    · split
      · simp only [act_seq_cons, act_seq_nil, ih, modOh_frameCount]
      · rfl

theorem takeOh_frameCount (c : Nat) (bs : List Nat) (s : State) : ((takeOh c bs).act s).frameCount = s.frameCount := by
  simp only [takeOh, act_dyn]
  split
  · rfl
  · split <;> simp only [act_seq_cons, act_seq_nil, drainOh_frameCount, ohWrite_frameCount, act_nop]

theorem keeps_ownDigest {d : Nat} (hd : d < 2) (sf crc : Nat) (skip : Bool) (s : State) : Keeps (Touch.ownDigest d) s ((ownDigest d sf crc skip).act s) :=
  keeps_act (within_ownDigest d sf crc skip (by interval_cases d <;> decide +kernel))

theorem rxFrame_completes :
    ∀ f s, s.inFrame = true → Completes (.rxFrame f) s (fun t => t.frm.frames = s.frm.frames + 1 ∧
    (bufCap ≤ f.held → t.cnt 36 = (s.cnt 36 + 1) % 2 ^ 48 ∧ (t.frm.layer 0).bipv = (s.frm.layer 0).bipv + 1) ∧
    (f.held < bufCap → interopMode s.rxMode = false → (t.frm.layer 0).bipv = (s.frm.layer 0).bipv +
      (s.violations ((f.slices.map (fun x => scramble (x.map (·.toNat)))).map (byteAt · 1 9))).foldl (· + ·) 0)) := by
  intro f s hin
  refine ⟨_, rfl, ?_⟩
  simp only [act_dyn, hin, Bool.not_true, Bool.false_eq_true, if_false]
  by_cases hheld : bufCap ≤ f.held
  · simp only [hheld, if_true, not_lt.2 hheld, false_implies, and_true, true_implies]
    simp only [takeLayer, act_seq_cons, act_seq_nil]
    rw [modLayer_other _ _ (by decide), modLayer_self]
    simp only [act_modLayer, act_rules, upd_rules, frm_rules]
    exact ⟨trivial, cnt_count_self _ _ _, rfl⟩
  · simp only [hheld, if_false, false_implies, true_and]
    by_cases hi : interopMode s.rxMode = true
    · simp only [hi, if_true, Bool.true_eq_false, false_implies, implies_true, and_true]
      rw [act_seq_cons, act_seq_cons, act_seq_cons, act_seq_nil, (keeps_takeInterop _ _ _).frm (by decide), act_whenE]
      split
      · simp only [act_seq_cons, act_seq_nil, act_modLayer, act_rules, upd_rules, frm_rules]
      · simp only [act_rules, upd_rules]
    · simp only [hi, Bool.false_eq_true, if_false, not_le.1 hheld, true_implies]
      rw [act_seq_cons, act_seq_cons, act_seq_cons, act_seq_cons, act_seq_cons]
      rw [← Prod.mk.injEq]
      refine (act_seqE_same State.frameCount ?_ _).trans ?_
      · simp only [List.forall_mem_cons, List.not_mem_nil, false_implies, implies_true, and_true, takeStat_frameCount, judgeRdi_frameCount, takeTti_frameCount,
          judgeTim_frameCount, takeOh_frameCount, act_dyn, true_and]
        exact ⟨forE_same _ fun x _ u => takeFlex_frameCount x u, fun u => frameCount_of_frm ((keeps_rxSwitch u).frm (by decide)),
          fun u => frameCount_of_frm ((keeps_judgeFill u).frm (by decide)), fun u => frameCount_of_frm ((keeps_takeTribs _ _ _ _ _ _ u).frm (by decide)),
          fun u => frameCount_of_frm ((keeps_ownDigest one_lt_two _ _ _ u).frm (by decide))⟩
      · have hcount : ∀ u : State, ((whenE (!f.marked.isEmpty) (count 259)).act u).frameCount = u.frameCount := fun u => by
          rw [act_whenE]
          split
          · exact frameCount_of_frm (State.count_frm _ _ _)
          · rfl
        rw [takeLayer_frameCount_other (by decide), takeLayer_frameCount, multiframe_frameCount, hcount, List.map_map, act_upd]
        simp only [State.frameCount, upd_rules, List.map_map]
        rfl

theorem cnt_forE_count {α : Type} (j : Nat) (xs : List α) (s : State) :
    ((forE xs fun _ => count j).act s).cnt j = if xs = [] then s.cnt j else (s.cnt j + xs.length) % 2 ^ 48 := by
  induction xs generalizing s with
  | nil => rw [act_forE_nil, if_pos rfl]
  | cons x xs ih =>
    rw [act_forE_cons, ih, act_count, cnt_count_self]
    split
    next h => simp [h]
    next => simp [Nat.add_assoc, Nat.add_comm 1]

/-- What a frame sent counts of itself. -/
def State.sendCount (s : State) : Nat × Nat := (s.frm.txMfas, s.frm.txFrames)

theorem sendCount_of_frm {s t : State} (h : t.frm = s.frm) : t.sendCount = s.sendCount := by rw [State.sendCount, State.sendCount, h]

theorem sendOh_sendCount (c : Nat) (s : State) : ((sendOh c).act s).sendCount = s.sendCount := by
  simp only [sendOh, act_dyn]
  split
  · split <;> rw [act_modOh] <;> rfl
  · simp only [ohRead, ohSlip, act_dyn]
    split
    · rw [act_modOh]
      rfl
    · simp only [act_rules]
      rfl
  · rw [act_modOh]
    rfl

theorem sendSlices_sendCount (l : List (Fin 32 × Nat)) (s : State) : ((sendSlices l).act s).sendCount = ((s.sendCount.1 + 1) % 256, s.sendCount.2 + 1) := by
  simp only [sendSlices, act_dyn, act_seq_cons, act_seq_nil]
  rw [sendCount_of_frm ((keeps_ownDigest Nat.zero_lt_two _ _ _ _).frm (by decide))]
  simp only [act_rules, upd_rules]
  rfl

theorem whenE_count_sendCount (b : Bool) (j : Nat) (s : State) : ((whenE b (count j)).act s).sendCount = s.sendCount := by
  rw [act_whenE]
  split
  · exact sendCount_of_frm (State.count_frm _ _ _)
  · rfl

/-- A channel's unit that carries fill goes out, and no more (R29). -/
theorem forE_fill_same {β : Type} (P : State → β) (hP : ∀ (s : State) o, P ((Upd.emit o).apply s) = P s) (l : List (Fin 32 × Nat)) (s : State) :
    P ((forE l fun w => emit (.fill w.1.val false)).act s) = P s :=
  forE_same P (fun w _ u => by rw [act_emit]; exact hP u (.fill w.1.val false)) s

theorem txFrame_native :
    ∀ held w e s, s.sending = true → nativeMode s.txMode = true → Completes (.txFrame held w e) s (fun t => t.frm.txMfas = (s.frm.txMfas + 1) % 256 ∧
    t.frm.txFrames = s.frm.txFrames + 1 ∧ t.cnt 33 = (if bufCap ≤ held then (s.cnt 33 + 1) % 2 ^ 48 else s.cnt 33) ∧
    t.cnt 32 = (if w.any (fun x => decide (bufCap ≤ x.2)) = true then (s.cnt 32 + (w.filter (fun x => decide (bufCap ≤ x.2))).length) % 2 ^ 48 else s.cnt 32)) := by
  intro held w e s hs hn
  refine ⟨_, rfl, ?_⟩
  simp only [act_dyn, hs, hn, Bool.not_true, Bool.false_eq_true, if_false, if_true, act_seq_cons, act_seq_nil]
  have hoh : ∀ u : State, ((forE (List.range 3) sendOh).act u).sendCount = u.sendCount := forE_same _ fun c _ u => sendOh_sendCount c u
  have heth : ∀ u : State, ((forE e fun e => takeEth e.1.val e.2).act u).sendCount = u.sendCount :=
    forE_same _ fun x _ u => sendCount_of_frm ((keeps_takeEth _ _ _).frm (by decide))
  have hlost : ∀ u : State, ((forE (w.filter fun w => decide (bufCap ≤ w.2)) fun _ => count 32).act u).sendCount = u.sendCount :=
    forE_same _ fun _ _ u => sendCount_of_frm (State.count_frm _ _ _)
  have hohcnt : ∀ j, j = 32 ∨ j = 33 → ∀ u : State, ((forE (List.range 3) sendOh).act u).cnt j = u.cnt j := fun j hj =>
    forE_same (State.cnt · j) fun c _ u => (keeps_sendOh c u).cnt (by rcases hj with rfl | rfl <;> decide)
  have hlost33 : ∀ u : State, ((forE (w.filter fun w => decide (bufCap ≤ w.2)) fun _ => count 32).act u).cnt 33 = u.cnt 33 :=
    forE_same (State.cnt · 33) fun _ _ u => cnt_count_other u 1 (by decide)
  have hethcnt : ∀ j, j = 32 ∨ j = 33 → ∀ u : State, ((forE e fun e => takeEth e.1.val e.2).act u).cnt j = u.cnt j := fun j hj =>
    forE_same (State.cnt · j) fun x _ u => (keeps_takeEth x.1.val x.2 u).cnt (by rcases hj with rfl | rfl <;> decide)
  rw [← and_assoc, ← Prod.mk.injEq]
  refine ⟨(sendSlices_sendCount _ _).trans ?_, ?_, ?_⟩
  · have hout : ∀ (u : State) o, ((emit o).act u).sendCount = u.sendCount := fun u o => by rw [act_emit]; rfl
    rw [hout, sendCount_of_frm ((keeps_sendCbr _).frm (by decide)), hoh, sendCount_of_frm ((keeps_announceMove _).frm (by decide)),
      sendCount_of_frm ((keeps_txSwitch _).frm (by decide)), forE_fill_same State.sendCount (fun _ _ => rfl), whenE_count_sendCount, hlost, heth]
    rfl
  · simp (disch := decide) only [(keeps_sendSlices _ _).cnt, act_emit, cnt_mk, (keeps_sendCbr _).cnt, (keeps_announceMove _).cnt, (keeps_txSwitch _).cnt, hohcnt, hethcnt,
      forE_fill_same (State.cnt · 33) fun _ _ => rfl, cnt_rules, act_rules, decide_eq_true_eq, hlost33]
  · simp (disch := decide) only [(keeps_sendSlices _ _).cnt, act_emit, cnt_mk, (keeps_sendCbr _).cnt, (keeps_announceMove _).cnt, (keeps_txSwitch _).cnt, hohcnt, hethcnt,
      forE_fill_same (State.cnt · 32) fun _ _ => rfl, cnt_rules, act_rules, ite_self, cnt_forE_count]
    by_cases hnone : (w.any fun x => decide (bufCap ≤ x.2)) = true
    · rw [if_pos hnone, if_neg]
      simpa [List.filter_eq_nil_iff] using hnone
    · rw [if_neg hnone, if_pos]
      simpa [List.filter_eq_nil_iff] using hnone

theorem txFrame_interop :
    ∀ held w s, s.sending = true → interopMode s.txMode = true → nativeMode s.txMode = false → Completes (.txFrame held w []) s (fun t => t.out =
    .slices [Config.interopMap s.txMode ((s.channels.filter s.carried).map (fun k =>
      if s.ingSignal k = true then faultBlocks (max 1 (Tab.get [] s.cli.blocks k).length) else Tab.get [] s.cli.blocks k))] :: s.out) := by
  intro held w s hs hi hn
  refine ⟨_, rfl, ?_⟩
  simp only [act_rules, hs, hn, Bool.not_true, Bool.false_eq_true, if_false, act_forE_nil, sendInterop, upd_rules]

theorem judgeDeg_frm (l : Nat) (s : State) : ∃ x y, ((judgeDeg l).act s).frm = { s.frm with defects := x, seen := y } := by
  simp only [judgeDeg, act_dyn]
  split
  · exact ⟨_, _, rfl⟩
  · split
    · obtain ⟨x, y, h, -⟩ := declareDefect_frm 10 l s
      exact ⟨x, y, h⟩
    · rw [act_whenE]
      split
      · exact ⟨_, _, clearDefect_frm 10 l s⟩
      · exact ⟨_, _, rfl⟩

/-- The frames of the second and the records that the second's judging leaves. -/
def State.secondCount (s : State) : Nat × List PmRec := (s.frm.frames, s.frm.recs)

theorem pmSecond_completes :
    ∀ s, Completes .pmSecond s (fun t => t.frm.frames = 0 ∧ t.rd FRM_PM_CTRL.GEN = (s.rd FRM_PM_CTRL.GEN + 1) % 2 ^ FRM_PM_CTRL.GEN.width ∧
    (t.frm.recs.head?).map (·.frames) = some s.frm.frames) := by
  intro s
  refine ⟨_, rfl, ?_⟩
  have hjudge : ∀ u : State, ((forE (List.range 34) judgeDeg).act u).secondCount = u.secondCount :=
    forE_same _ fun l _ u => by
      obtain ⟨x, y, h⟩ := judgeDeg_frm l u
      rw [State.secondCount, h]
      rfl
  have hkeep : ∀ u : State, ((forE (List.range 34) judgeDeg).act u).frm.frames = u.frm.frames ∧ ((forE (List.range 34) judgeDeg).act u).frm.recs = u.frm.recs :=
    fun u => Prod.ext_iff.1 (hjudge u)
  simp (disch := decide) only [act_rules, upd_rules, frm_rules, rd_rules, apply_ite State.frm, ite_self, (keeps_latchBank _ _ _).frm,
    hkeep, List.take_succ_cons, List.head?_cons, Option.map_some, and_self]

/-- Settles O14. -/
theorem framingEvents : Obligations.FramingEvents :=
  ⟨frmCntClr_completes, frmResync_completes, fasDetect_completes, candidateCheck_drops, resolutionWindowEnd_completes, inFrameCheck_sees,
    inFrameCheck_leaves, rxFrame_completes, txFrame_native, txFrame_interop, losClear_completes, lofDeclare_completes, lofClear_completes,
    lomDeclare_completes, lomClear_completes, pmSecond_completes⟩

end Sys2Proof.Machine

/-!
The clients: their commands, the received maps and the slip buffers (R280 to R322).
-/
namespace Sys2Proof.Machine
open Sys2Proof

-- The kernel evaluates many small footprints: one thread serves them all.
set_option Elab.async false


/-- Writes of registers of `gs` move nothing else. -/
theorem run_puts_only {gs : List Fld} {us : List Upd} (h : ∀ u ∈ us, ∃ g j v, u = .put g j v ∧ g ∈ gs) (s : State) :
    (∃ r, run us s = { s with regs := r }) ∧ ∀ f i, f.clearOf i gs = true → (run us s).rd f i = s.rd f i := by
  induction us generalizing s with
  | nil => exact ⟨⟨_, rfl⟩, fun _ _ _ => rfl⟩
  | cons u us ih =>
    obtain ⟨⟨g, j, v, rfl, hg⟩, hus⟩ := List.forall_mem_cons.1 h
    obtain ⟨⟨r, hr⟩, hrd⟩ := ih hus (s.wr g j v)
    exact ⟨⟨r, hr⟩, fun f i hf => (hrd f i hf).trans (rd_wr_ne _ _ _ _ _ _ (Fld.key_ne_of_clearOf hf g hg j))⟩

/-- An effect that only writes registers of `gs`. -/
def Eff.Puts (e : Eff) (gs : List Fld) : Prop := ∀ s, ∀ u ∈ e s, ∃ g j v, u = .put g j v ∧ g ∈ gs

section
variable {e : Eff} {gs : List Fld} (h : e.Puts gs)
include h

theorem Eff.Puts.act (s : State) : ∃ r, e.act s = { s with regs := r } := (run_puts_only (h s) s).1

theorem Eff.Puts.rd {f : Fld} {i : Nat} (hf : f.clearOf i gs = true) (s : State) : (e.act s).rd f i = s.rd f i := (run_puts_only (h s) s).2 f i hf

theorem Eff.Puts.cli (s : State) : (e.act s).cli = s.cli := by
  obtain ⟨r, hr⟩ := h.act s
  rw [hr]

end

/-! ### Commands -/

/-- A channel configured takes its type, and no loop (R309). -/
theorem addChannel_adds (t w : Nat) (lanes slots : List Nat) (s : State) : ((addChannel t w lanes slots).act s).chOn t = true ∧
    ((addChannel t w lanes slots).act s).rd CLI_CH_CFG.TYPE t = CLI_CH_CFG.TYPE.raw w ∧ ((addChannel t w lanes slots).act s).rd CLI_CH_CTRL.LOOP t = 0 := by
  simp (disch := decide) only [addChannel, State.chOn, act_seq_cons, act_seq_nil, (keeps_syncPorts _).rdAny, (keeps_syncPorts _).onAny, (keeps_judgeProt _).rdAny,
    (keeps_judgeProt _).onAny, (keeps_startState _ _ _).rdAny, (keeps_startState _ _ _).onAny, (keeps_trainLanes _ _).rdAny, (keeps_trainLanes _ _).onAny,
    (keeps_takeSlots _ _ _).rdAny, (keeps_takeSlots _ _ _).onAny, act_rules, rd_any_rules, on_any_rules]
  refine ⟨rfl, ?_, rfl⟩
  exact (run_puts_rd (List.mem_cons_self) (Fld.key_ne_of_distinct (by decide) t) s).trans (Fld.raw_mod _ _)

theorem exists_ok_of_isOk {ε α : Type} {r : Except ε α} (h : r.isOk = true) : ∃ x, r = .ok x := by
  cases r with
  | error e => exact absurd h Bool.false_ne_true
  | ok x => exact ⟨x, rfl⟩

theorem cliAdd_does :
    Does .cliAdd opCliAdd (fun p s => p.length = 4 + slotWords (nth p 2) (nth p 3) ∧ nth p 0 ≤ 31 ∧ s.chOn (nth p 0) = false ∧ nth p 2 ≤ 1 ∧
      s.typeOk (nth p 0) (CLI_CH_CFG.TYPE.raw (nth p 1)) = true ∧
      (laneGroup (CLI_CH_CFG.TYPE.raw (nth p 1)) (CLI_CH_CFG.RATE.raw (nth p 1)) (CLI_CH_CFG.M.raw (nth p 1)) (CLI_CH_CFG.LANE_BASE.raw (nth p 1))).any (fun ls => ls.all (fun n => !s.heldLanes.contains n)) = true ∧
      (s.pickSlots none (s.chBound (nth p 0)) (CLI_CH_CFG.TYPE.raw (nth p 1)) (CLI_CH_CFG.M.raw (nth p 1)) (nth p 2 == 1) (nth p 3)
        (unpackHalves (nth p 3) (p.drop 4))).isOk = true)
    (fun _ p _ t => t.chOn (nth p 0) = true ∧ t.rd CLI_CH_CFG.TYPE (nth p 0) = CLI_CH_CFG.TYPE.raw (nth p 1) ∧ t.rd CLI_CH_CTRL.LOOP (nth p 0) = 0) := by
  refine does_of_okP (fun _ _ _ => rfl) ?_
  rintro h p s ⟨hlen, ht, hoff, h1, htype, hlanes, hslots⟩
  obtain ⟨lanes, hl⟩ : ∃ lanes, laneGroup (CLI_CH_CFG.TYPE.raw (nth p 1)) (CLI_CH_CFG.RATE.raw (nth p 1)) (CLI_CH_CFG.M.raw (nth p 1)) (CLI_CH_CFG.LANE_BASE.raw (nth p 1)) = some lanes := by
    rw [Option.any_eq_true] at hlanes
    exact ⟨_, hlanes.choose_spec.1⟩
  rw [hl, Option.any_some, List.all_eq_not_any_not] at hlanes
  have hfree : (lanes.any fun n => s.heldLanes.contains n) = false := by simpa using hlanes
  obtain ⟨slots, hpick⟩ := exists_ok_of_isOk hslots
  refine ⟨_, _, by simp only [opCliAdd, hlen, bne_self_eq_false, not_lt.2 ht, hoff, not_lt.2 h1, hl, hfree, htype, hpick]; rfl, fun t k => ?_⟩
  rw [State.chOn, k.keeps.on (Fld.key_ne_of_apart (by decide) _ _), k.keeps.rd (Fld.key_ne_of_apart (by decide) _ _), k.keeps.rd (Fld.key_ne_of_apart (by decide) _ _)]
  exact addChannel_adds _ _ _ _ s

theorem cliRemove_does :
    Does .cliRemove opCliRemove (fun p s => nth p 0 ≤ 31 ∧ s.chOn (nth p 0) = true ∧ s.cli.move = none)
    (fun _ p _ t => t.chOn (nth p 0) = false ∧ t.rd CLI_CH_CFG.TYPE (nth p 0) = 0 ∧ t.rd CLI_CH_CFG.SLOTS (nth p 0) = 0) := by
  refine does_of_okE (fun _ _ _ => rfl) ?_
  rintro h p s ⟨ht, hon, hmove⟩
  refine ⟨_, by simp only [opCliRemove, not_lt.2 ht, hon, hmove]; rfl, fun t k => ?_⟩
  rw [State.chOn, k.on (Fld.key_ne_of_apart (by decide) _ _), k.rd (Fld.key_ne_of_apart (by decide) _ _), k.rd (Fld.key_ne_of_apart (by decide) _ _)]
  have hclear : ∀ f ∈ [CLI_CH_CTRL.EN, CLI_CH_CFG.TYPE, CLI_CH_CFG.SLOTS], ∀ i < 32, f.clearOf i (Touch.refEval.flds ++ sharedFlds) = true ∧
      f.clearOf i (Touch.syncPorts.flds ++ sharedFlds) = true ∧ f.clearOf i (Touch.judgeProt.flds ++ sharedFlds) = true ∧
      f.clearOf i (Touch.clearDefect.flds ++ sharedFlds) = true := by decide +kernel
  have hsub : ∀ f ∈ [CLI_CH_CTRL.EN, CLI_CH_CFG.TYPE, CLI_CH_CFG.SLOTS], f ∈ [CLI_CH_CFG.TYPE, CLI_CH_CFG.RATE, CLI_CH_CFG.M, CLI_CH_CFG.LANE_BASE, CLI_CH_CFG.SLOTS,
      CLI_CH_CTRL.EN, CLI_CH_CTRL.LOOP, CLI_CH_STAT.SKEW, CLI_CH_STAT.LF_OUT, CLI_CH_STAT.ING_FAIL, CLI_CH_STAT.STATE] := by simp
  have hzero : ∀ f ∈ [CLI_CH_CTRL.EN, CLI_CH_CFG.TYPE, CLI_CH_CFG.SLOTS], ((removeChannel (nth p 0)).act s).rd f (nth p 0) = 0 := by
    intro f hf
    obtain ⟨href, hports, hprot, hdef⟩ := hclear f hf (nth p 0) (Nat.lt_succ_of_le ht)
    simp only [removeChannel, act_rules, (keeps_refEval _).rd href, (keeps_syncPorts _).rd hports, (keeps_judgeProt _).rd hprot]
    rw [forE_same (State.rd · f (nth p 0)) fun d _ u => (keeps_clearDefect d.code d.layer u).rd hdef]
    simp only [upd_rules, rd_mk]
    exact (run_puts_rd (hsub f hf) (Fld.key_ne_of_distinct (by decide) _) _).trans (Nat.zero_mod _)
  exact ⟨by rw [State.on, hzero _ (by simp)]; rfl, hzero _ (by simp), hzero _ (by simp)⟩

theorem cliMove_does :
    Does .cliMove opCliMove (fun p s => p.length = 3 + slotWords (nth p 1) (nth p 2) ∧ nth p 0 ≤ 31 ∧ nth p 1 ≤ 1 ∧ s.chOn (nth p 0) = true ∧ s.cli.move = none ∧
      (s.pickSlots (some (nth p 0)) (s.chBound (nth p 0)) (s.rd CLI_CH_CFG.TYPE (nth p 0)) (s.rd CLI_CH_CFG.M (nth p 0)) (nth p 1 == 1) (nth p 2)
        (unpackHalves (nth p 2) (p.drop 3))).isOk = true)
    (fun _ p s t => t.cli.ver = (s.cli.ver + 1) % 256 ∧
      (s.sending = true → t.cli.move.map (·.sf) = some ((s.rd LTX_SF_NUM.ALL + 17) % 65536) ∧ t.rd CLI_MOVE_STAT.PENDING = 1 ∧ t.rd CLI_MOVE_STAT.CD = 17) ∧
      (s.sending = false → t.cli.move = none ∧ t.rd CLI_MOVE_STAT.TARGET_SF = 0xFFFF ∧ t.rd CLI_MOVE_STAT.PENDING = 0) ∧ t.rd CLI_MOVE_STAT.CHANNEL = nth p 0 % 2 ^ CLI_MOVE_STAT.CHANNEL.width) := by
  refine does_of_okP (fun _ _ _ => rfl) ?_
  rintro h p s ⟨hlen, ht, h1, hon, hmove, hslots⟩
  obtain ⟨slots, hpick⟩ := exists_ok_of_isOk hslots
  refine ⟨_, _, by simp only [opCliMove, hlen, bne_self_eq_false, not_lt.2 ht, hon, not_lt.2 h1, hmove, hpick]; rfl, fun t k => ?_⟩
  simp (disch := decide) only [k.keeps.rd, k.keeps.cli, startMove, act_rules, (keeps_judgeProt _).rd, (keeps_judgeProt _).cli]
  split
  next hs =>
    have hpend : Eff.Puts (fun u => (u.slotsOf (nth p 0)).map (fun q => .put CLI_TS_OWNER.PEND q 255) ++ slots.map fun q => .put CLI_TS_OWNER.PEND q (nth p 0))
        [CLI_TS_OWNER.PEND] := by
      intro u x hx
      rcases List.mem_append.1 hx with hx | hx <;> obtain ⟨q, -, rfl⟩ := List.mem_map.1 hx <;> exact ⟨_, _, _, rfl, List.mem_cons_self⟩
    simp (disch := decide) only [hs, upd_rules, cli_rules, rd_rules, hpend.rd, hpend.cli]
    exact ⟨trivial, fun _ => ⟨rfl, rfl, rfl⟩, by simp, trivial⟩
  next hs =>
    simp only [Bool.not_eq_true] at hs
    have hpend : Eff.Puts (fun u => (List.range 640).map (fun q => .put CLI_TS_OWNER.PEND q (u.rd CLI_TS_OWNER.OWNER q))) [CLI_TS_OWNER.PEND] := by
      intro u x hx
      obtain ⟨q, -, rfl⟩ := List.mem_map.1 hx
      exact ⟨_, _, _, rfl, List.mem_cons_self⟩
    simp (disch := decide) only [hs, act_rules, upd_rules, cli_rules, rd_rules, rd_mk, applyMove, dropMove, hpend.rd, hpend.cli, (keeps_takeSlots _ _ _).rd, (keeps_takeSlots _ _ _).cli]
    exact ⟨trivial, by simp, fun _ => ⟨trivial, rfl, rfl⟩, trivial⟩


theorem cliMoveCancel_does :
    Does .cliMoveCancel opCliMoveCancel (fun _ s => s.cli.move ≠ none ∧ 4 ≤ s.rd CLI_MOVE_STAT.CD)
    (fun _ _ _ t => t.cli.move = none ∧ t.rd CLI_MOVE_STAT.PENDING = 0 ∧ t.rd CLI_MOVE_STAT.CD = 0) := by
  refine does_of_okP (fun _ _ _ => rfl) ?_
  rintro h p s ⟨hmove, hcd⟩
  obtain ⟨m, hm⟩ := Option.ne_none_iff_exists'.1 hmove
  refine ⟨_, _, by simp only [opCliMoveCancel, hm, not_lt.2 hcd]; rfl, fun t k => ?_⟩
  simp (disch := decide) only [k.keeps.rd, k.keeps.cli, act_rules, rd_rules, cli_rules, (keeps_judgeProt _).rd, (keeps_judgeProt _).cli, dropMove, upd_rules, rd_mk]
  exact ⟨trivial, rfl, rfl⟩

theorem cliStatus_answers :
    Answers .cliStatus opCliStatus (fun _ _ => True) (fun p s => [s.cliStatus, s.word CLI_MOVE_STAT.fields] ++
    (bitsSet 32 (nth p 0)).flatMap (fun t => [s.word CLI_CH_CFG.fields t, s.word CLI_CH_STAT.fields t, s.rd CLI_CH_SKEW.ALL t])) := by
  exact answers_of_body (fun _ _ _ => rfl) fun h p s _ => ⟨_, rfl, rfl⟩

theorem cliCounters_does :
    Does .cliCounters opCliCounters (fun _ _ => True) (fun _ _ s t => t.snapGen = s.nextGen ∧ t.bank = s.bank) := by
  refine does_of_okP (fun _ _ _ => rfl) ?_
  rintro h p s -
  refine ⟨_, _, rfl, fun t k => ?_⟩
  obtain ⟨hbank, -, hgen⟩ := k.keeps.comps .bank (by decide)
  exact ⟨hgen, hbank⟩

theorem cliTsCfg_does :
    Does .cliTsCfg opCliTsCfg (fun p _ => nth p 0 ≤ 31 ∧ CLI_TS_ADJ_IN.ALL.inRange (nth p 1) = true ∧ CLI_TS_ADJ_EG.ALL.inRange (nth p 2) = true)
    (fun _ p _ t => t.rd CLI_TS_ADJ_IN.ALL (nth p 0) = nth p 1 % 2 ^ CLI_TS_ADJ_IN.ALL.width ∧ t.rd CLI_TS_ADJ_EG.ALL (nth p 0) = nth p 2 % 2 ^ CLI_TS_ADJ_EG.ALL.width) := by
  refine does_of_okP (fun _ _ _ => rfl) ?_
  rintro h p s ⟨ht, hin, heg⟩
  refine ⟨_, _, by simp only [opCliTsCfg, not_lt.2 ht, hin, heg]; rfl, fun t k => ?_⟩
  rw [k.keeps.rd (Fld.key_ne_of_apart (by decide) _ _), k.keeps.rd (Fld.key_ne_of_apart (by decide) _ _)]
  simp (disch := decide) only [act_rules, rd_any_rules, and_self]

theorem cliLoop_does :
    Does .cliLoop opCliLoop (fun p s => nth p 0 ≤ 31 ∧ nth p 1 ≤ 2 ∧ s.chOn (nth p 0) = true)
    (fun _ p _ t => t.rd CLI_CH_CTRL.LOOP (nth p 0) = nth p 1 ∧ (nth p 1 = 2 → t.rd CLI_CH_STAT.LF_OUT (nth p 0) = 1)) := by
  refine does_of_okE (fun _ _ _ => rfl) ?_
  rintro h p s ⟨ht, hv, hon⟩
  refine ⟨_, by simp only [opCliLoop, not_lt.2 ht, not_lt.2 hv, hon]; rfl, fun t k => ?_⟩
  rw [k.rd (Fld.key_ne_of_apart (by decide) _ _), k.rd (Fld.key_ne_of_apart (by decide) _ _)]
  simp (disch := decide) only [setLoop, act_rules, rd_any_rules]
  refine ⟨Nat.mod_eq_of_lt (lt_of_le_of_lt hv (by decide)), fun h2 => by rw [h2]; rfl⟩

theorem cliSlotMap_answers :
    Answers .cliSlotMap opCliSlotMap (fun _ _ => True) (fun _ s => (List.range s.modeSlots).map (fun q =>
    s.rd CLI_TS_OWNER.OWNER q + 256 * s.rd CLI_TS_OWNER.PEND q + 65536 * s.rd CLI_RX_MSI.CHAN q + 16777216 * s.rd CLI_RX_MSI.OCC q)) := by
  exact answers_of_body (fun _ _ _ => rfl) fun h p s _ => ⟨_, rfl, rfl⟩

/-- Settles O15. -/
theorem clientCommands : Obligations.ClientCommands :=
  ⟨cliAdd_does, cliRemove_does, cliMove_does, cliMoveCancel_does, cliStatus_answers, cliCounters_does, cliTsCfg_does, cliLoop_does,
    cliSlotMap_answers⟩

/-! ### Received maps, ingress and egress -/

theorem logged_moves_cliCnt {k : Nat} (hk : k < 128) : Touch.logged.moves (288 + k) = false := by
  have hall : ((List.range 128).all fun k => !Touch.logged.moves (288 + k)) = true := by decide +kernel
  simpa using List.all_eq_true.1 hall k (List.mem_range.2 hk)

theorem cliCntClr_completes :
    ∀ m s, s.takes m 6 → Completes (.cliCntClr m) s (fun t => ∀ k < 128, t.cnt (288 + k) = 0) := by
  intro m s ht
  refine completes_byMaster rfl ht fun t w => fun k hk => ?_
  rw [w.cnt (logged_moves_cliCnt hk)]
  refine cnt_run_clears (fun u hu => ?_) s (.inl (List.mem_map.2 ⟨k, List.mem_range.2 hk, rfl⟩))
  obtain ⟨i, -, rfl⟩ := List.mem_map.1 hu
  exact .inl ⟨_, rfl⟩

/-- A move record that is valid and announces no move drops what is held (R314), with no channel to be late. -/
theorem takeRecord_drops {r act pend : List Nat} {u : State} (hlen : r.length = 6) (hcrc : crc8 (r.take 5) = nth r 5) (hbit : bit (nth r 4) 0 = false) (hch : u.channels = []) :
    ((takeRecord r act pend).act u).cli.rxMove = none ∧ ((takeRecord r act pend).act u).cli.rxVer = some (nth r 1) := by
  have hform : (r.length != 6 || crc8 (r.take 5) != nth r 5) = false := by simp [hlen, hcrc]
  simp only [takeRecord, act_dyn, hform, hbit, hch, Bool.false_and, Bool.false_eq_true, if_false, List.filter_nil, ite_self, act_seq_cons, act_seq_nil, act_forE_nil, act_upd, upd_rules,
    and_self]

theorem acceptEntries_puts (vs : List (Nat × Nat)) : (acceptEntries vs).Puts [CLI_RX_MSI.CHAN, CLI_RX_MSI.OCC] := by
  intro s u hu
  obtain ⟨v, -, hu⟩ := List.mem_flatMap.1 hu
  rcases List.mem_pair.1 hu with rfl | rfl <;> exact ⟨_, _, _, rfl, by simp⟩

/-- The move that is held and the version of the map in force, as the receiver has them. -/
def State.rxMap (s : State) : Option (Move × List Nat) × Option Nat := (s.cli.rxMove, s.cli.rxVer)

theorem rxMap_eq_iff {s : State} {a b} : s.rxMap = (a, b) ↔ s.cli.rxMove = a ∧ s.cli.rxVer = b := by rw [State.rxMap, Prod.mk.injEq]

theorem rxMap_of_cli {s t : State} (h : t.cli = s.cli) : t.rxMap = s.rxMap := by rw [State.rxMap, State.rxMap, h]

theorem chDown_rxMap (t st cause : Nat) (s : State) : ((chDown t st cause).act s).rxMap = s.rxMap := by
  simp only [chDown, act_dyn]
  split
  · rfl
  · simp only [State.rxMap, act_rules, upd_rules, cli_rules, apply_ite State.cli, ite_self]

theorem judgeFill_rxMap (s : State) : (judgeFill.act s).rxMap = s.rxMap := by
  rw [judgeFill, act_dyn]
  refine forE_same State.rxMap (fun t _ u => ?_) s
  have hput : ∀ f i v, (u.wr f i v).rxMap = u.rxMap := fun f i v => rxMap_of_cli rfl
  simp only [act_rules, apply_ite State.rxMap, chDown_rxMap, hput, ite_self]

theorem judgeSlots_rxMap (s : State) : (judgeSlots.act s).rxMap = s.rxMap := by
  rw [judgeSlots, act_seq_cons, act_seq_cons, act_seq_nil, judgeFill_rxMap, act_dyn]
  exact forE_same State.rxMap (fun t _ u => rxMap_of_cli (by rw [act_put, State.wr_cli])) s

theorem psiMultiframe_completes :
    ∀ r s, nativeMode s.rxMode = true → s.inFrame = true → s.on FRM_STATUS.IM = true → s.channels = [] → r.length = 6 →
    crc8 ((r.map (·.toNat)).take 5) = nth (r.map (·.toNat)) 5 → bit (nth (r.map (·.toNat)) 4) 0 = false →
    Completes (.psiMultiframe [] [] r) s (fun t => t.cli.rxMove = none ∧ t.cli.rxVer = some (nth (r.map (·.toNat)) 1)) := by
  intro r s hn hin him hch hlen hcrc hbit
  refine ⟨_, rfl, ?_⟩
  simp only [act_dyn, hn, hin, him, Bool.and_self, Bool.not_true, Bool.false_eq_true, if_false, act_seq_cons, act_seq_nil]
  rw [← rxMap_eq_iff, judgeSlots_rxMap]
  have hbump : ∀ b (u : State), ((whenE b (bump CLI_STATUS.ORPHAN)).act u).rxMap = u.rxMap :=
    fun b u => rxMap_of_cli (by simp only [act_rules, apply_ite State.cli, cli_rules, ite_self])
  have hlate : ∀ l (u : State), ((upd (.cli fun c => { c with late := c.late.filter l })).act u).rxMap = u.rxMap := fun l u => by rw [act_upd]; rfl
  rw [hbump, hlate, rxMap_of_cli ((acceptEntries_puts _).cli _), rxMap_eq_iff]
  exact takeRecord_drops (by rw [List.length_map, hlen]) hcrc hbit hch

theorem clientIngressFail_completes :
    ∀ k why lane skew errs s, s.chOn k.val = true → s.rd CLI_CH_CFG.TYPE k.val ≠ 7 → Completes (.clientIngressFail k why lane skew errs) s
    (fun t => t.rd CLI_CH_STAT.ING_FAIL k.val = 1 ∧ (why.val = 1 → t.rd CLI_CH_SKEW.ALL k.val = skew.toNat)) := by
  intro k why lane skew errs s hon htyp
  refine ⟨_, rfl, ?_⟩
  simp (disch := decide) only [act_rules, hon, beq_eq_false_iff_ne.2 htyp, Bool.not_true, Bool.or_self, Bool.false_eq_true, if_false, (keeps_chDown _ _ _ _).rdAny, rd_any_rules, ite_self]
  exact ⟨rfl, fun _ => Nat.mod_eq_of_lt skew.isLt⟩

theorem ingressFailClear_waits :
    ∀ k skew s, s.chOn k.val = true → 10000 < skew.toNat → Completes (.ingressFailClear k skew) s (fun t => t = s) := by
  intro k skew s hon hsk
  refine ⟨_, rfl, ?_⟩
  simp only [act_rules, hsk, decide_true, Bool.or_true, if_true]

theorem ingressFailClear_clears :
    ∀ k skew s, s.chOn k.val = true → skew.toNat ≤ 10000 → Completes (.ingressFailClear k skew) s (fun t => t.rd CLI_CH_STAT.ING_FAIL k.val = 0 ∧
    t.rd CLI_CH_SKEW.ALL k.val = skew.toNat ∧ t.rd CLI_CH_STAT.SKEW k.val = 0 ∧
    (s.rd CLI_CH_STAT.STATE k.val = 4 → t.rd CLI_CH_STAT.STATE k.val = 2)) := by
  intro k skew s hon hsk
  refine ⟨_, rfl, ?_⟩
  simp (disch := decide) only [act_rules, hon, not_lt.2 hsk, decide_false, Bool.not_true, Bool.or_self, Bool.false_eq_true, if_false, rd_any_rules, ite_self, beq_iff_eq]
  exact ⟨rfl, Nat.mod_eq_of_lt skew.isLt, rfl, fun h => by rw [if_pos h]; rfl⟩

theorem cnt_raise_self (s : State) (e : Ev) (p : List Nat) : (s.raise e p).cnt (1024 + e.x) = (s.cnt (1024 + e.x) + 1) % 2 ^ 48 := by
  have hset : ∀ (u : State) f m j, (u.setStat f m).cnt j = u.cnt j := fun u f m j => by rw [State.cnt, State.setStat_cnts, State.cnt]
  have hqueue : ∀ (u : State) d c p j, (u.queueEvent d c p).cnt j = u.cnt j := fun u d c p j => by rw [State.cnt, State.queueEvent_cnts, State.cnt]
  have hrec : ∀ (u : State) ty fl b, (u.record ty fl b).cnt (1024 + e.x) = u.cnt (1024 + e.x) := fun u ty fl b => cnt_record_ne u ty fl b (by omega)
  rw [← cnt_count_self]
  simp only [State.raise]
  split <;> split <;> split <;> split <;> simp only [hset, hqueue, hrec, cnt_mk]

theorem clientUp_completes :
    ∀ k s, s.chOn k.val = true → s.rd CLI_CH_STAT.STATE k.val = 2 → s.on CLI_CH_STAT.ING_FAIL k.val = false → s.fillTrib k.val = false → s.carried k.val = true →
    Completes (.clientUp k) s (fun t => t.rd CLI_CH_STAT.STATE k.val = 3 ∧ t.cnt (1024 + EV.CLIENT_UP.x) = (s.cnt (1024 + EV.CLIENT_UP.x) + 1) % 2 ^ 48) := by
  intro k s hon hst hing hfill hcar
  refine ⟨_, rfl, ?_⟩
  simp (disch := decide) only [act_rules, hon, hst, hing, hfill, hcar, Bool.not_true, rd_any_rules, cnt_raise_self, cnt_rules]
  exact ⟨rfl, rfl⟩

theorem ohWrite_cli (c : Nat) (rx : Bool) (f : List Nat) (s : State) : ((ohWrite c rx f).act s).cli = s.cli ∧ ∀ j, ((ohWrite c rx f).act s).cnt j = s.cnt j := by
  simp only [ohWrite, ohSlip, act_rules, act_modOh]
  split_ifs <;> exact ⟨rfl, fun _ => rfl⟩

theorem cbrSlip_cli (t : Nat) (drop : Bool) (s : State) : ((cbrSlip t drop).act s).cli = s.cli := by
  simp only [cbrSlip, act_rules, cli_rules]

theorem cbrSlip_cnt (t : Nat) (drop : Bool) (s : State) : ((cbrSlip t drop).act s).cnt (cliCnt t (if drop then 2 else 3)) = (s.cnt (cliCnt t (if drop then 2 else 3)) + 1) % 2 ^ 48 := by
  simp only [cbrSlip, act_rules, cnt_rules]

/-- A frame written into a full slip buffer drives out the oldest (R300). -/
theorem cbrWrite_ing (t : Nat) (f : List Nat) (s : State) : Tab.get [] ((cbrWrite t true f).act s).cli.ing t =
    (if 3 ≤ (Tab.get [] s.cli.ing t).length then (Tab.get [] s.cli.ing t).drop 1 else Tab.get [] s.cli.ing t) ++ [f] := by
  simp only [cbrWrite, act_dyn, act_seq_cons, act_seq_nil, act_whenE, act_upd, if_true, apply_ite State.cli, cbrSlip_cli, ite_self, upd_rules, Tab.get_set_self, decide_eq_true_eq]

theorem cbrWrite_slips {t : Nat} {s : State} (h : 3 ≤ (Tab.get [] s.cli.ing t).length) (f : List Nat) :
    ((cbrWrite t true f).act s).cnt (cliCnt t 2) = (s.cnt (cliCnt t 2) + 1) % 2 ^ 48 := by
  simp only [cbrWrite, act_dyn, act_seq_cons, act_seq_nil, act_whenE, act_upd, if_true, h, decide_true]
  exact cbrSlip_cnt t true _

theorem clientFrameIngress_holds :
    ∀ k f s, s.isCbr k.val = true → s.on CLI_CH_STAT.ING_FAIL k.val = false → s.rd CLI_CH_CTRL.LOOP k.val = 0 → (Tab.get [] s.cli.ing k.val).length < 3 → Completes (.clientFrameIngress k f []) s
    (fun t => Tab.get [] t.cli.ing k.val = Tab.get [] s.cli.ing k.val ++ [f.map (·.toNat)]) := by
  intro k f s hcbr hing hloop hlen
  refine ⟨_, rfl, ?_⟩
  simp only [act_rules, hcbr, hing, hloop, Bool.not_true, Bool.or_self, Nat.reduceBEq, Bool.false_eq_true, if_false]
  rw [forE_same State.cli fun c _ u => (ohWrite_cli c false _ u).1]
  rw [cbrWrite_ing, if_neg (not_le.2 hlen)]

theorem clientFrameIngress_slips :
    ∀ k f s, s.isCbr k.val = true → s.on CLI_CH_STAT.ING_FAIL k.val = false → s.rd CLI_CH_CTRL.LOOP k.val = 0 → 3 ≤ (Tab.get [] s.cli.ing k.val).length → Completes (.clientFrameIngress k f []) s
    (fun t => Tab.get [] t.cli.ing k.val = (Tab.get [] s.cli.ing k.val).drop 1 ++ [f.map (·.toNat)] ∧ t.cnt (cliCnt k.val 2) = (s.cnt (cliCnt k.val 2) + 1) % 2 ^ 48) := by
  intro k f s hcbr hing hloop hlen
  refine ⟨_, rfl, ?_⟩
  simp only [act_rules, hcbr, hing, hloop, Bool.not_true, Bool.or_self, Nat.reduceBEq, Bool.false_eq_true, if_false]
  rw [forE_same State.cli fun c _ u => (ohWrite_cli c false _ u).1, forE_same (State.cnt · (cliCnt k.val 2)) fun c _ u => (ohWrite_cli c false _ u).2 _]
  rw [cbrWrite_ing, if_pos hlen, cbrWrite_slips hlen]
  exact ⟨rfl, rfl⟩

theorem clientFrameEgress_fills :
    ∀ k s, s.isCbr k.val = true → s.on CLI_CH_STAT.LF_OUT k.val = true → Completes (.clientFrameEgress k) s (fun t => t.out = .client k.val 1 (s.aisNext k.val true) :: s.out) := by
  intro k s hcbr hlf
  refine ⟨_, rfl, ?_⟩
  simp only [act_rules, upd_rules, hcbr, hlf, Bool.not_true, Bool.false_eq_true, if_false, if_true]

/-- A read of an overhead channel's slip buffer touches neither the clients nor what is sent nor the counters. -/
theorem ohRead_keeps (c : Nat) (rx : Bool) (s : State) : ((ohRead c rx).act s).cli = s.cli ∧ ((ohRead c rx).act s).out = s.out ∧ ((ohRead c rx).act s).cnts = s.cnts := by
  simp only [ohRead, ohSlip, act_dyn]
  split
  · simp only [act_modOh, and_self]
  · simp only [act_rules]
    exact ⟨rfl, rfl, rfl⟩

theorem clientFrameEgress_repeats :
    ∀ k s, s.isCbr k.val = true → s.on CLI_CH_STAT.LF_OUT k.val = false → Tab.get [] s.cli.eg k.val = [] → Completes (.clientFrameEgress k) s
    (fun t => Output.client k.val 0 (Tab.get [] s.cli.egLast k.val) ∈ s.sentSince t ∧ t.cnt (cliCnt k.val 3) = (s.cnt (cliCnt k.val 3) + 1) % 2 ^ 48) := by
  intro k s hcbr hlf heg
  refine ⟨_, rfl, ?_⟩
  have hread : (cbrRead k.val false).act s = (cbrSlip k.val false).act s := by simp only [cbrRead, act_dyn, Bool.false_eq_true, if_false, heg]
  simp only [act_dyn, hcbr, hlf, Bool.not_true, Bool.false_eq_true, if_false, act_seq_cons, act_seq_nil, hread, act_emit]
  rw [forE_same State.cli fun c _ u => (ohRead_keeps c true u).1, cbrSlip_cli]
  constructor
  · rw [State.sentSince, forE_same State.out fun c _ u => (ohRead_keeps c true u).2.1]
    simp only [cbrSlip, act_rules, State.count_out, State.occur_out, List.length_cons, Nat.add_sub_cancel_left, List.take_succ_cons, List.mem_cons, true_or]
  · rw [cnt_mk, State.cnt, forE_same State.cnts fun c _ u => (ohRead_keeps c true u).2.2]
    exact cbrSlip_cnt k.val false s

/-- Settles O16. -/
theorem clientEvents : Obligations.ClientEvents :=
  ⟨cliCntClr_completes, psiMultiframe_completes, clientIngressFail_completes, ingressFailClear_waits, ingressFailClear_clears, clientUp_completes,
    clientFrameIngress_holds, clientFrameIngress_slips, clientFrameEgress_fills, clientFrameEgress_repeats⟩

end Sys2Proof.Machine

/-!
The serial lanes: their commands, training, the groups, eye scans and Jig (R323 to R350).
-/
namespace Sys2Proof.Machine
open Sys2Proof

-- The kernel evaluates many small footprints: one thread serves them all.
set_option Elab.async false


/-! ### Commands -/

/-- Fields of one register table. -/
def Fld.alongside (f g : Fld) : Bool :=
  decide (f.width < 128) && decide (g.width < 128) && decide (f.lo < 64) && decide (g.lo < 64) && f.off == g.off && f.stride == g.stride && decide (0 < f.stride)

theorem Fld.key_ne_of_ne {f g : Fld} (h : f.alongside g = true) {i j : Nat} (hij : i ≠ j) : f.key i ≠ g.key j := by
  simp only [Fld.alongside, Bool.and_eq_true, decide_eq_true_eq, beq_iff_eq] at h
  obtain ⟨⟨⟨⟨⟨⟨hf, hg⟩, hfl⟩, hgl⟩, hoff⟩, hs⟩, hpos⟩ := h
  intro hk
  obtain ⟨-, -, h⟩ := Fld.key_inj hf hg hfl hgl hk
  rw [← hoff, ← hs] at h
  exact hij (Nat.eq_of_mul_eq_mul_right hpos (Nat.add_left_cancel h))

theorem mem_bitsSet_lt {n v k : Nat} (h : k ∈ bitsSet n v) : k < n := List.mem_range.1 (List.mem_filter.1 h).1

/-- What SRD_LANE_SET does on a lane (R326, R327). -/
def laneSet (w fir n : Nat) : Eff := dyn fun s => seqE [putWord SRD_LANE_CTRL.fields w n, whenE (decide (n < 16)) (putWord SRD_TXFIR.fields fir n),
  whenE (bit w 4 && s.rd SRD_LANE_STAT.STATE n != 0) (startTraining n)]

theorem putWord_apart {fs : List Fld} {f : Fld} (h : f.apartOf fs = true) (w i j : Nat) (s : State) : ((putWord fs w i).act s).rd f j = s.rd f j :=
  putWord_other (fun g hg => Fld.key_ne_of_apart (List.all_eq_true.1 h g hg) j i) w s

theorem laneSet_ctrl (w fir n : Nat) (s : State) : ((laneSet w fir n).act s).rd SRD_LANE_CTRL.TX_INV n = SRD_LANE_CTRL.TX_INV.raw w ∧
    ((laneSet w fir n).act s).rd SRD_LANE_CTRL.RX_INV n = SRD_LANE_CTRL.RX_INV.raw w ∧ (n < 16 → ((laneSet w fir n).act s).rd SRD_TXFIR.MAIN n = SRD_TXFIR.MAIN.raw fir) := by
  simp (disch := decide) only [laneSet, act_rules, (keeps_startTraining _ _).rdAny, rd_any_rules, putWord_apart, ite_self, putWord_rd (fs := SRD_LANE_CTRL.fields) (.head _),
    putWord_rd (fs := SRD_LANE_CTRL.fields) (.tail _ (.head _)), putWord_rd (fs := SRD_TXFIR.fields) (.tail _ (.tail _ (.head _))), decide_eq_true_eq]
  exact ⟨trivial, trivial, fun h => if_pos h⟩

theorem laneSet_other {n m : Nat} (h : n ≠ m) (w fir : Nat) (s : State) : ((laneSet w fir m).act s).rd SRD_LANE_CTRL.TX_INV n = s.rd SRD_LANE_CTRL.TX_INV n ∧
    ((laneSet w fir m).act s).rd SRD_LANE_CTRL.RX_INV n = s.rd SRD_LANE_CTRL.RX_INV n ∧ ((laneSet w fir m).act s).rd SRD_TXFIR.MAIN n = s.rd SRD_TXFIR.MAIN n := by
  have hword : ∀ {fs : List Fld} {f : Fld}, fs.all f.alongside = true → ∀ v u, ((putWord fs v m).act u).rd f n = u.rd f n := fun hfs v u =>
    putWord_other (fun g hg => Fld.key_ne_of_ne (List.all_eq_true.1 hfs g hg) h) v u
  simp (disch := decide) only [laneSet, act_rules, (keeps_startTraining _ _).rdAny, rd_any_rules, putWord_apart, hword, ite_self, and_self]

theorem srdLaneSet_does :
    Does .srdLaneSet opSrdLaneSet (fun p _ => nth p 1 ≤ 3 ∧ firOk (nth p 3) = true)
    (fun _ p _ t => ∀ n ∈ lanesIn (nth p 0) (nth p 1), t.rd SRD_LANE_CTRL.TX_INV n = SRD_LANE_CTRL.TX_INV.raw (nth p 2) ∧
      t.rd SRD_LANE_CTRL.RX_INV n = SRD_LANE_CTRL.RX_INV.raw (nth p 2) ∧ (n < 16 → t.rd SRD_TXFIR.MAIN n = SRD_TXFIR.MAIN.raw (nth p 3))) := by
  refine does_of_okE (fun _ _ _ => rfl) ?_
  rintro h p s ⟨h3, hfir⟩
  refine ⟨forE (lanesIn (nth p 0) (nth p 1)) (laneSet (nth p 2) (nth p 3)),
    by simp only [opSrdLaneSet, not_lt.2 h3, hfir, Bool.not_true, Bool.and_false, Bool.false_eq_true, if_false]; rfl, fun t k n hn => ?_⟩
  rw [k.rd (Fld.key_ne_of_apart (by decide) _ _), k.rd (Fld.key_ne_of_apart (by decide) _ _), k.rd (Fld.key_ne_of_apart (by decide) _ _)]
  refine forE_establishes (I := fun u => u.rd SRD_LANE_CTRL.TX_INV n = _ ∧ u.rd SRD_LANE_CTRL.RX_INV n = _ ∧ (n < 16 → u.rd SRD_TXFIR.MAIN n = _)) hn
    (fun u => laneSet_ctrl _ _ n u) (fun m _ u hu => ?_) s
  by_cases hm : n = m
  · exact hm ▸ laneSet_ctrl _ _ n u
  · simpa only [laneSet_other hm] using hu

theorem srdStatus_answers :
    Answers .srdStatus opSrdStatus (fun p _ => nth p 1 ≤ 3) (fun p s => s.word SRD_GRP_STAT.fields :: (lanesIn (nth p 0) (nth p 1)).flatMap (fun n =>
    [s.word SRD_LANE_STAT.fields n, s.word [SRD_EYE_SUM.WIDTH, SRD_EYE_SUM.HEIGHT] n] ++ s.bankWords64 (srdCnt n 0) ++ s.bankWords64 (srdCnt n 1))) := by
  refine answers_of_body (fun _ _ _ => rfl) ?_
  rintro h p s h3
  exact ⟨_, by simp only [opSrdStatus, not_lt.2 h3, if_false]; rfl, rfl⟩

theorem srdEyeScan_starts :
    Starts .srdEyeScan opSrdEyeScan (fun p s => nth p 0 ≤ 33 ∧ nth p 2 ≤ 1 ∧ (if nth p 0 < 16 then nth p 1 < 3 else nth p 1 = 3) ∧ 5 ≤ nth p 3 ∧ nth p 3 ≤ 10 ∧
      3 ≤ nth p 4 ∧ nth p 4 ≤ 9 ∧ s.srd.scans.length < 8 ∧ s.on SRD_LANE_STAT.SCAN (nth p 0) = false ∧ s.rd SRD_LANE_STAT.STATE (nth p 0) ≠ 2)
    (fun _ p s t => t.rd SRD_LANE_STAT.SCAN (nth p 0) = 1 ∧ t.srd.scans.length = s.srd.scans.length + 1) := by
  refine starts_of_pendE (fun _ _ _ => rfl) ?_
  rintro h p s ⟨h33, h1, heye, h5, h10, h3, h9, h8, hscan, hst⟩
  have hform : (decide (33 < nth p 0) || decide (1 < nth p 2) || !(if nth p 0 < 16 then decide (nth p 1 < 3) else nth p 1 == 3)) = false := by
    split at heye <;> simp [*]
  refine ⟨_, by simp only [opSrdEyeScan, hform, not_lt.2 h5, not_lt.2 h10, not_lt.2 h3, not_lt.2 h9, not_le.2 h8, hscan, beq_eq_false_iff_ne.2 hst]; rfl, fun t k => ?_⟩
  rw [k.rd (Fld.key_ne_of_apart (by decide) _ _), k.srd]
  simp only [act_rules, upd_rules, rd_mk, rd_rules, srd_rules, List.length_append]
  exact ⟨rfl, rfl⟩

theorem jigSignal_rd (n : Nat) (s : State) (f : Fld) (i : Nat) : ((jigSignal n).act s).rd f i = s.rd f i := by
  simp only [jigSignal, act_rules, rd_mk]

theorem injectGo_rd (n : Nat) (s : State) (f : Fld) (i : Nat) : ((injectGo n).act s).rd f i = s.rd f i := by
  simp only [injectGo, act_dyn]
  split <;> simp only [act_rules, rd_mk]

theorem srdJigSet_does :
    Does .srdJigSet opSrdJigSet (fun p s => nth p 0 ≤ 21 ∧ wordOk SRD_JIG_CFG.fields (nth p 1) = true ∧ jigPatOk (nth p 0) (nth p 1) = true ∧ s.jigLegal (nth p 0) (nth p 1) = true)
    (fun _ p _ t => t.rd SRD_JIG_CFG.GEN_EN (nth p 0) = SRD_JIG_CFG.GEN_EN.raw (nth p 1) ∧ t.rd SRD_JIG_CFG.GEN_PAT (nth p 0) = SRD_JIG_CFG.GEN_PAT.raw (nth p 1) ∧
      t.rd SRD_JIG_USER.ALL (nth p 0) = (nth p 2 + 2 ^ 32 * nth p 3) % 2 ^ SRD_JIG_USER.ALL.width) := by
  refine does_of_okE (fun _ _ _ => rfl) ?_
  rintro h p s ⟨h21, hw, hpat, hlegal⟩
  refine ⟨_, by simp only [opSrdJigSet, not_lt.2 h21, hw, hpat, hlegal]; rfl, fun t k => ?_⟩
  rw [k.rd (Fld.key_ne_of_apart (by decide) _ _), k.rd (Fld.key_ne_of_apart (by decide) _ _), k.rd (Fld.key_ne_of_apart (by decide) _ _)]
  simp (disch := decide) only [setJig, act_rules, injectGo_rd, rd_any_rules, (keeps_laneIngress _ _).rdAny, jigSignal_rd, ite_self, putWord_apart,
    putWord_rd (fs := SRD_JIG_CFG.fields) (.tail _ (.tail _ (.head _))), putWord_rd (fs := SRD_JIG_CFG.fields) (.head _), and_self]

theorem srdJigGet_does :
    Does .srdJigGet opSrdJigGet (fun p _ => nth p 0 ≤ 0x3FFFFF ∧ nth p 1 = 0) (fun _ _ s t => t.snapGen = s.nextGen ∧ t.bank = s.bank) := by
  refine does_of_okP (fun _ _ _ => rfl) ?_
  rintro h p s ⟨hn, h0⟩
  refine ⟨_, _, by simp only [opSrdJigGet, not_lt.2 hn, h0]; rfl, fun t k => ?_⟩
  obtain ⟨hbank, -, hgen⟩ := k.keeps.comps .bank (by decide)
  exact ⟨hgen, hbank⟩

/-- Settles O17. -/
theorem laneCommands : Obligations.LaneCommands :=
  ⟨srdLaneSet_does, srdStatus_answers, srdEyeScan_starts, srdJigSet_does, srdJigGet_does⟩

/-! ### Lanes -/

theorem logged_moves_srdCnt {k : Nat} (hk : k < 136) : Touch.logged.moves (672 + k) = false := by
  have hall : ((List.range 136).all fun k => !Touch.logged.moves (672 + k)) = true := by decide +kernel
  simpa using List.all_eq_true.1 hall k (List.mem_range.2 hk)

theorem srdCntClr_completes :
    ∀ m s, s.takes m 7 → Completes (.srdCntClr m) s (fun t => ∀ k < 136, t.cnt (672 + k) = 0) := by
  intro m s ht
  refine completes_byMaster rfl ht fun t w => fun k hk => ?_
  rw [w.cnt (logged_moves_srdCnt hk)]
  refine cnt_run_clears (fun u hu => ?_) s (.inl (List.mem_map.2 ⟨k, List.mem_range.2 hk, rfl⟩))
  obtain ⟨i, -, rfl⟩ := List.mem_map.1 hu
  exact .inl ⟨_, rfl⟩

theorem startTraining_rd (n : Nat) (s : State) : ((startTraining n).act s).rd SRD_LANE_STAT.STATE n = 2 ∧ ((startTraining n).act s).rd SRD_LANE_STAT.SYNC n = 0 ∧
    ((startTraining n).act s).rd SRD_LANE_STAT.SIG n = s.rd SRD_LANE_STAT.SIG n ∧ ((startTraining n).act s).rd SRD_LANE_STAT.RETRAINS n = s.rd SRD_LANE_STAT.RETRAINS n := by
  simp (disch := decide) only [startTraining, act_rules, rd_any_rules, (keeps_laneIngress _ _).rdAny]
  exact ⟨rfl, rfl, trivial, trivial⟩

theorem laneRetrain_completes :
    ∀ m n s, s.takes m 7 → s.rd SRD_LANE_STAT.STATE n.val ≠ 0 → Completes (.laneRetrain m n) s (fun t => t.rd SRD_LANE_STAT.STATE n.val = 2 ∧ t.rd SRD_LANE_STAT.SYNC n.val = 0) := by
  intro m n s ht hst
  refine completes_byMaster rfl ht fun t w => ?_
  rw [w.rdAny (by decide), w.rdAny (by decide)]
  simp only [retrain, act_rules, bne_iff_ne.2 hst, if_true, startTraining_rd, and_self]

/-- What goes out in a write's effect is among what has been sent since. -/
theorem mem_sentSince {m : May} {s u t : State} {o : Output} (k : Keeps m u t) (hu : u.out = o :: s.out) : o ∈ s.sentSince t := by
  obtain ⟨xs, hxs⟩ := k.sent
  rw [State.sentSince, ← hxs, hu, List.append_cons, List.length_append, Nat.add_sub_cancel, List.take_left]
  simp

theorem jigInject_completes :
    ∀ m n s, s.takes m 7 → (s.dev = 4 ∨ s.traffic n.val = false) → s.rd SRD_JIG_CFG.INJ n.val = 1 → Completes (.jigInject m n) s (fun t => Output.inject n.val 1 ∈ s.sentSince t) := by
  intro m n s ht hdev hinj
  refine completes_byMaster rfl ht fun t w => mem_sentSince w ?_
  have hfree : (s.traffic n.val && s.dev != 4) = false := by rcases hdev with h | h <;> simp [h]
  simp only [injGoWrite, injectGo, act_rules, hfree, Bool.false_eq_true, if_false, hinj]

theorem jigLock_locks :
    ∀ n b e s, s.on SRD_JIG_CFG.CHK_EN n.val = true → s.on SRD_JIG_CFG.LOCK n.val = false → Completes (.jigLock n b e) s (fun t => t.rd SRD_JIG_CFG.LOCK n.val = 1) := by
  intro n b e s hchk hlock
  refine ⟨_, rfl, ?_⟩
  simp (disch := decide) only [act_rules, hlock, hchk, Bool.false_eq_true, if_false, if_true, rd_any_rules]
  rfl

theorem srdCnt_ne {n : Nat} : srdCnt n 2 ≠ srdCnt n 3 := by simp [srdCnt]

theorem jigLock_counts :
    ∀ n b e s, s.on SRD_JIG_CFG.LOCK n.val = true → Completes (.jigLock n b e) s (fun t => t.cnt (srdCnt n.val 2) = (s.cnt (srdCnt n.val 2) + b) % 2 ^ 48 ∧
    t.cnt (srdCnt n.val 3) = (s.cnt (srdCnt n.val 3) + e) % 2 ^ 48 ∧ t.regs = s.regs) := by
  intro n b e s hlock
  refine ⟨_, rfl, ?_⟩
  simp only [act_rules, hlock, if_true, cnt_count_self, cnt_count_ne _ _ srdCnt_ne, cnt_count_ne _ _ srdCnt_ne.symm, State.count_regs, and_self]

theorem jigUnlock_completes :
    ∀ n b e s, s.on SRD_JIG_CFG.LOCK n.val = true → Completes (.jigUnlock n b e) s (fun t => t.rd SRD_JIG_CFG.LOCK n.val = 0 ∧
    t.cnt (srdCnt n.val 2) = (s.cnt (srdCnt n.val 2) + b) % 2 ^ 48 ∧ t.cnt (srdCnt n.val 3) = (s.cnt (srdCnt n.val 3) + e) % 2 ^ 48) := by
  intro n b e s hlock
  refine ⟨_, rfl, ?_⟩
  have hraise : ∀ (u : State) c p, c < 4 → (u.raise EV.JIG_UNLOCK p).cnt (srdCnt n.val c) = u.cnt (srdCnt n.val c) := fun u c p hc =>
    cnt_raise_other u p (by simp only [srdCnt]; omega) (by have := n.isLt; simp only [srdCnt]; omega)
  have hwr : ∀ (u : State) f i v j, (u.wr f i v).cnt j = u.cnt j := fun _ _ _ _ _ => rfl
  simp (disch := decide) only [act_rules, hlock, if_true, hraise, hwr, cnt_count_self, cnt_count_ne _ _ srdCnt_ne, cnt_count_ne _ _ srdCnt_ne.symm, rd_any_rules, and_self, and_true]
  rfl

/-- A loop in which every round keeps `J`, one round brings about `I`, and no round undoes it. -/
theorem forE_reaches {α : Type} {I J : State → Prop} {xs : List α} {f : α → Eff} {x : α} (hx : x ∈ xs) (hJ : ∀ y ∈ xs, ∀ u, J u → J ((f y).act u)) (hset : ∀ u, J u → I ((f x).act u))
    (hkeep : ∀ y ∈ xs, ∀ u, J u → I u → I ((f y).act u)) {s : State} (hs : J s) : I ((forE xs f).act s) := by
  induction xs generalizing s with
  | nil => cases hx
  | cons y ys ih =>
    have hJ' := fun z hz => hJ z (List.mem_cons_of_mem y hz)
    rw [act_forE_cons]
    rcases List.mem_cons.1 hx with rfl | hx
    · have hstep : ∀ g ∈ ys.map f, ∀ u, J u ∧ I u → J (g.act u) ∧ I (g.act u) := by
        rintro g hg u ⟨hJu, hIu⟩
        obtain ⟨z, hz, rfl⟩ := List.mem_map.1 hg
        exact ⟨hJ' z hz u hJu, hkeep z (List.mem_cons_of_mem _ hz) u hJu hIu⟩
      exact (act_seqE_keeps (es := ys.map f) hstep ⟨hJ x List.mem_cons_self s hs, hset s hs⟩).2
    · exact ih hx hJ' (fun z hz => hkeep z (List.mem_cons_of_mem _ hz)) (hJ y List.mem_cons_self s hs)

theorem lanePowerUp_completes :
    ∀ k n s, n ∈ powerStep k.val → s.rd SRD_LANE_STAT.STATE n = 0 → s.channels = [] → Completes (.lanePowerUp k) s (fun t => t.rd SRD_LANE_STAT.STATE n = 1) := by
  intro k n s hn hst hch
  refine ⟨_, rfl, ?_⟩
  have hrest : ∀ (u : State) m v, u.channels = [] → (u.wr SRD_LANE_STAT.STATE m v).channels = [] := fun u m v hu => by
    rw [← hu]
    refine List.filter_congr fun c _ => ?_
    rw [State.chOn, State.chOn, State.on, State.on, rd_wr_ne _ _ _ _ _ _ (Fld.key_ne_of_apart (by decide) _ _)]
  refine (forE_reaches (J := fun u => u.channels = [] ∧ (u.rd SRD_LANE_STAT.STATE n = 0 ∨ u.rd SRD_LANE_STAT.STATE n = 1)) hn ?_ ?_ ?_ ⟨hch, .inl hst⟩)
  · rintro m - u ⟨hu, hs⟩
    rw [act_dyn, act_whenE]
    split
    · rw [act_put, State.chanOf, hu, List.find?_nil, ite_self]
      refine ⟨hrest u m _ hu, ?_⟩
      by_cases hm : n = m
      · rw [hm, rd_wr_self]
        exact .inr rfl
      · rwa [rd_wr_ne _ _ _ _ _ _ (Fld.key_ne_of_ne (by decide) hm)]
    · exact ⟨hu, hs⟩
  · rintro u ⟨hu, hs⟩
    rw [act_dyn, act_whenE, act_put, State.chanOf, hu, List.find?_nil, ite_self]
    split
    next => rw [rd_wr_self]; rfl
    next h => exact hs.resolve_left (by simpa using h)
  · rintro m - u ⟨hu, hs⟩ h1
    rw [act_dyn, act_whenE]
    split
    next h =>
      rw [act_put, rd_wr_ne _ _ _ _ _ _ (Fld.key_ne_of_ne (by decide) ?_), h1]
      rintro rfl
      simp [h1] at h
    next => exact h1

theorem laneTrained_completes :
    ∀ n s, s.rd SRD_LANE_STAT.STATE n.val = 2 → Completes (.laneTrained n) s (fun t => t.rd SRD_LANE_STAT.STATE n.val = 3 ∧ t.rd SRD_LANE_STAT.SYNC n.val = 1 ∧
    t.rd SRD_LANE_STAT.SIG n.val = 1) := by
  intro n s hst
  refine ⟨_, rfl, ?_⟩
  have hready : ∀ u f, f.apartOf (Touch.laneReady.flds ++ sharedFlds) = true → ((laneReady n.val).act u).rd f n.val = u.rd f n.val := fun u f h => (keeps_laneReady n.val u).rdAny h
  simp (disch := decide) only [act_rules, hst, beq_self_eq_true, Bool.true_or, if_true, hready, rd_any_rules]
  exact ⟨rfl, rfl, rfl⟩

theorem trainTimeout_completes :
    ∀ n s, s.rd SRD_LANE_STAT.STATE n.val = 2 → Completes (.trainTimeout n) s (fun t => t.rd SRD_LANE_STAT.STATE n.val = 4) := by
  intro n s hst
  refine ⟨_, rfl, ?_⟩
  simp (disch := decide) only [act_rules, hst, beq_self_eq_true, if_true, (keeps_laneIngress _ _).rdAny, rd_any_rules]
  rfl

theorem trainRetry_completes :
    ∀ n s, s.rd SRD_LANE_STAT.STATE n.val = 4 → Completes (.trainRetry n) s (fun t => t = s.wr SRD_LANE_STAT.STATE n.val 2) := by
  intro n s hst
  refine ⟨_, rfl, ?_⟩
  simp only [act_rules, hst, beq_self_eq_true, if_true]

theorem laneSignalLoss_completes :
    ∀ n s, s.rd SRD_LANE_STAT.STATE n.val = 3 → Completes (.laneSignalLoss n) s (fun t => t.rd SRD_LANE_STAT.STATE n.val = 2 ∧ t.rd SRD_LANE_STAT.SIG n.val = 0 ∧
    t.rd SRD_LANE_STAT.RETRAINS n.val = sat (2 ^ SRD_LANE_STAT.RETRAINS.width - 1) (s.rd SRD_LANE_STAT.RETRAINS n.val + 1) % 2 ^ SRD_LANE_STAT.RETRAINS.width) := by
  intro n s hst
  refine ⟨_, rfl, ?_⟩
  simp only [act_rules, hst, beq_self_eq_true, if_true, startTraining_rd]
  simp (disch := decide) only [rd_any_rules]
  exact ⟨trivial, rfl, trivial⟩

/-! ### Groups -/

theorem syncGroup_puts (g : Nat) : (syncGroup g).Puts [SRD_LANE_STAT.IN_GROUP] := by
  intro s u hu
  obtain ⟨k, -, rfl⟩ := List.mem_map.1 hu
  exact ⟨_, _, _, rfl, List.mem_cons_self⟩

theorem Eff.Puts.srd {e : Eff} {gs : List Fld} (h : e.Puts gs) (s : State) : (e.act s).srd = s.srd := by
  obtain ⟨r, hr⟩ := h.act s
  rw [hr]

/-- A direction's ACTIVE as it changes: the register, the lanes that had left, IN_GROUP and the lanes that are back (R335, R336). -/
theorem act_setActive (g : Nat) (tx : Bool) (mask : Nat) (s : State) : ∃ f es, (∀ y : GrpSt, (f y).seq = y.seq) ∧ (setActive g tx mask).act s =
    if s.rd (if tx then grpTx g else grpRx g) = mask then s
    else (forE es fun k => raise EV.LANE_RESTORE [grpLane g k, mask]).act ((syncGroup g).act ((modGrp g f).act (s.wr (if tx then grpTx g else grpRx g) 0 mask))) := by
  cases tx
  all_goals
    refine ⟨?_, ?_, ?_, ?_⟩
    rotate_left 3
    · simp only [setActive, act_rules, Bool.false_eq_true, if_false, if_true]
      rfl
    · exact fun y => rfl

/-- A direction's ACTIVE changes neither the group's ALIGN number nor the other direction. -/
theorem setActive_seq (g : Nat) (tx : Bool) (mask : Nat) (s : State) : (((setActive g tx mask).act s).srd.grp g).seq = (s.srd.grp g).seq := by
  obtain ⟨f, es, hf, h⟩ := act_setActive g tx mask s
  rw [h]
  by_cases hm : s.rd (if tx then grpTx g else grpRx g) = mask
  · rw [if_pos hm]
  · rw [if_neg hm, forE_same State.srd fun _ _ _ => by rw [act_raise, State.raise_srd], (syncGroup_puts g).srd, modGrp_self, hf, State.wr_srd]

theorem grpRx_clear (g : Nat) : (grpRx g).clearOf 0 [SRD_LANE_STAT.IN_GROUP] = true ∧ (grpRx g).clearOf 0 [grpTx g] = true ∧ (grpRx g).apartOf EV.LANE_RESTORE.flds = true ∧
    (grpRx g).apartOf EV.GROUP_DOWN.flds = true ∧ (grpRx g).apartOf EV.GROUP_UP.flds = true := by
  simp only [grpRx, grpTx]
  split <;> decide

theorem setActive_true_rx (g mask : Nat) (s : State) : ((setActive g true mask).act s).rd (grpRx g) = s.rd (grpRx g) := by
  obtain ⟨hin, htx, hres, -⟩ := grpRx_clear g
  obtain ⟨f, es, -, h⟩ := act_setActive g true mask s
  rw [h, if_pos rfl]
  split
  · rfl
  · rw [forE_same (State.rd · (grpRx g)) fun _ _ u => by rw [act_raise, rd_raise _ _ _ _ _ (not_mem_raiseKeys hres 0)], (syncGroup_puts g).rd hin, act_modGrp, rd_mk,
      rd_wr_ne _ _ _ _ _ _ (Fld.key_ne_of_clearOf htx _ List.mem_cons_self 0)]

theorem setActive_false_rx {g mask : Nat} (hm : mask < 2 ^ (grpRx g).width) (s : State) : ((setActive g false mask).act s).rd (grpRx g) = mask := by
  obtain ⟨hin, -, hres, -⟩ := grpRx_clear g
  obtain ⟨f, es, -, h⟩ := act_setActive g false mask s
  rw [h, if_neg Bool.false_ne_true]
  split
  next h => exact h
  next => rw [forE_same (State.rd · (grpRx g)) fun _ _ u => by rw [act_raise, rd_raise _ _ _ _ _ (not_mem_raiseKeys hres 0)], (syncGroup_puts g).rd hin, act_modGrp, rd_mk, rd_wr_self,
      Nat.mod_eq_of_lt hm]

/-- What the receiver shows of its group, and the number of its next ALIGN. -/
def State.alignView (s : State) (g : Nat) : Nat × Nat := (s.rd (grpRx g), (s.srd.grp g).seq)

theorem modGrp_alignView {f : GrpSt → GrpSt} (hf : ∀ y, (f y).seq = y.seq) (g : Nat) (s : State) : ((modGrp g f).act s).alignView g = s.alignView g := by
  rw [State.alignView, modGrp_self, act_modGrp, rd_mk, hf, State.alignView]

theorem raise_alignView {e : Ev} {g : Nat} (he : (grpRx g).apartOf e.flds = true) (p : List Nat) (s : State) : ((raise e p).act s).alignView g = s.alignView g := by
  rw [act_raise, State.alignView, rd_raise _ _ _ _ _ (not_mem_raiseKeys he 0), State.raise_srd, State.alignView]

theorem groupTurns_alignView {g : Nat} (isUp : Bool) (s : State) : ((groupTurns g isUp).act s).alignView g = s.alignView g := by
  have hrd : (grpRx g).clearOf 0 (Touch.groupTurns.flds ++ sharedFlds) = true := by
    simp only [grpRx]
    split <;> decide
  rw [State.alignView, (keeps_groupTurns g isUp s).rd hrd, (keeps_groupTurns g isUp s).srd (by decide), State.alignView]

theorem judgeGroup_alignView (g : Nat) (ls : List AlignLane) (s : State) : ((judgeGroup g ls).act s).alignView g = s.alignView g := by
  obtain ⟨-, -, -, hdown, hup⟩ := grpRx_clear g
  have hgrp : ∀ {f : GrpSt → GrpSt} (u : State), (∀ y, (f y).seq = y.seq) → ((modGrp g f).act u).alignView g = u.alignView g := fun u hf => modGrp_alignView hf g u
  rw [judgeGroup, act_dyn, act_seq_cons, act_seq_cons, act_seq_nil]
  generalize (if alignedNow (s.rd (grpRx g)) ls then (s.srd.grp g).aligned + 1 else 0) = run
  split
  · rw [act_seq_cons, act_seq_cons, act_seq_cons, act_seq_nil, groupTurns_alignView, raise_alignView hdown, hgrp _ (fun _ => by rfl), hgrp _ (fun _ => by rfl)]
  · rw [act_whenE]
    split
    · rw [act_seq_cons, act_seq_cons, act_seq_cons, act_seq_nil, groupTurns_alignView, raise_alignView hup, hgrp _ (fun _ => by rfl), hgrp _ (fun _ => by rfl)]
    · exact hgrp _ fun _ => by rfl

theorem setActive_true_alignView (g mask : Nat) (s : State) : ((setActive g true mask).act s).alignView g = s.alignView g := by
  rw [State.alignView, setActive_true_rx, setActive_seq, State.alignView]

theorem judgeWidth_alignView (g : Nat) (good : Nat) (s : State) : ((judgeWidth g good).act s).alignView g = s.alignView g := by
  obtain ⟨-, -, -, hdown, -⟩ := grpRx_clear g
  simp only [judgeWidth, act_dyn]
  split
  · split
    · exact modGrp_alignView (fun _ => by rfl) g s
    · rw [act_seq_cons, act_seq_cons, act_seq_cons, act_seq_nil, act_whenE, apply_ite (State.alignView · g), raise_alignView hdown, ite_self, setActive_true_alignView]
      exact modGrp_alignView (fun _ => by rfl) g s
  · generalize (if good = s.rd (grpTx g) then 0 else (s.srd.grp g).diff + 1) = diff
    split <;> exact modGrp_alignView (fun _ => by rfl) g s

theorem farWidth_alignView {g a nx : Nat} (ha : a < 2 ^ (grpRx g).width) {s : State} (h : (s.srd.grp g).farNext = none) :
    ((farWidth g a nx).act s).alignView g = (a, (s.srd.grp g).seq) := by
  simp only [farWidth, act_dyn, h]
  rw [act_seq_cons, act_seq_cons, act_seq_nil, State.alignView, setActive_false_rx ha, setActive_seq, modGrp_self]

theorem align_completes :
    ∀ g a nx gd s, (s.srd.grp g.val).farNext = none → Completes (.align g [] a nx gd) s (fun t => t.rd (grpRx g.val) = a.toNat % 2 ^ (if g.val = 0 then 4 else 2) ∧
    (t.srd.grp g.val).seq = ((s.srd.grp g.val).seq + 1) % 16) := by
  intro g a nx gd s hnext
  refine ⟨_, rfl, ?_⟩
  have hw : a.toNat % 2 ^ (if g.val = 0 then 4 else 2) < 2 ^ (grpRx g.val).width := by
    refine lt_of_lt_of_eq (Nat.mod_lt _ (Nat.two_pow_pos _)) ?_
    simp only [grpRx]
    split <;> rfl
  rw [act_seq_cons, act_seq_cons, act_seq_cons, act_seq_cons, act_seq_cons, act_seq_nil, List.take_nil, List.zip_nil_right, act_forE_nil]
  have hview := (judgeWidth_alignView g.val (gd.toNat % 2 ^ (if g.val = 0 then 4 else 2)) _).trans ((judgeGroup_alignView g.val [] _).trans (farWidth_alignView
    (nx := nx.toNat % 2 ^ (if g.val = 0 then 4 else 2)) hw hnext))
  obtain ⟨hrx, hseq⟩ := Prod.mk.injEq _ _ _ _ |>.mp hview
  rw [act_dyn, act_seq_cons, act_seq_cons, act_seq_nil]
  beta_reduce
  rw [modGrp_self, act_modGrp, rd_mk, act_emit, rd_mk]
  exact ⟨hrx, congrArg (fun x => (x + 1) % 16) hseq⟩

theorem laneWtrEnd_completes :
    ∀ n g k s, laneGrp n.val = some (g, k) → s.rd SRD_LANE_STAT.STATE n.val = 6 → Completes (.laneWtrEnd n) s
    (fun t => t.rd SRD_LANE_STAT.STATE n.val = 3 ∧ (t.srd.grp g).good = setBit (s.srd.grp g).good k) := by
  intro n g k s hg hst
  refine ⟨_, rfl, ?_⟩
  simp only [act_dyn, hg, hst, beq_self_eq_true, act_whenE, if_true, act_seq_cons, act_seq_nil, modGrp_self, act_put, State.wr_srd, and_true]
  rw [act_modGrp, rd_mk, rd_wr_self]
  rfl

/-- The lanes of a packet on which an errored code group fell. -/
def badLanes (lanes : List Nat) (cols : List (List CodeGroup)) : List (Nat × Nat) :=
  ((List.range lanes.length).zip lanes).filter fun l => cols.any fun c => c.getD l.1 .pad == .bad

theorem act_packetRx (g : Fin 2) (cols : List (List CodeGroup)) (na : Bool) (s : State) : Completes (.packetRx g cols na) s fun t =>
    t = if !(badLanes (bitsSet 4 (s.rd (grpRx g.val))) cols).isEmpty || na
      then (forE (badLanes (bitsSet 4 (s.rd (grpRx g.val))) cols) fun l => count (srdCnt (grpLane g.val l.2) 1)).act s
      else { s with out := .packet g.val (packetBytes cols.flatten) :: s.out } := by
  refine ⟨_, rfl, ?_⟩
  simp only [act_dyn, act_ite, act_emit]
  rfl

theorem forE_count_keeps {α : Type} (xs : List α) (j : α → Nat) (s : State) : ((forE xs fun x => count (j x)).act s).regs = s.regs ∧ ((forE xs fun x => count (j x)).act s).out = s.out :=
  ⟨forE_same (f := fun x => count (j x)) State.regs (fun x _ u => State.count_regs u (j x) 1) s, forE_same (f := fun x => count (j x)) State.out (fun x _ u => State.count_out u (j x) 1) s⟩

theorem badLanes_of_good {cols : List (List CodeGroup)} (h : cols.all (fun c => !c.contains .bad) = true) (lanes : List Nat) : badLanes lanes cols = [] := by
  rw [badLanes, List.filter_eq_nil_iff]
  rintro l - hl
  obtain ⟨c, hc, hbad⟩ := List.any_eq_true.1 hl
  have hno : CodeGroup.bad ∉ c := by simpa using List.all_eq_true.1 h c hc
  have hget : c.getD l.1 .pad = .bad := by simpa using hbad
  by_cases hlt : l.1 < c.length
  · rw [List.getD_eq_getElem _ _ hlt] at hget
    exact hno (hget ▸ List.getElem_mem hlt)
  · rw [List.getD_eq_default _ _ (not_lt.1 hlt)] at hget
    cases hget

theorem packetRx_delivers :
    ∀ g cols s, cols.all (fun c => !c.contains .bad) = true → Completes (.packetRx g cols false) s (fun t => t.regs = s.regs ∧
    t.out = .packet g.val (packetBytes cols.flatten) :: s.out) := by
  intro g cols s hgood
  obtain ⟨t, ht, rfl⟩ := act_packetRx g cols false s
  refine ⟨_, ht, ?_⟩
  rw [badLanes_of_good hgood, List.isEmpty_nil, Bool.not_true, Bool.or_self, if_neg Bool.false_ne_true]
  exact ⟨rfl, rfl⟩

theorem packetRx_discards :
    ∀ g cols s, Completes (.packetRx g cols true) s (fun t => t.regs = s.regs ∧ t.out = s.out) := by
  intro g cols s
  obtain ⟨t, ht, rfl⟩ := act_packetRx g cols true s
  refine ⟨_, ht, ?_⟩
  rw [Bool.or_true, if_pos rfl]
  exact forE_count_keeps _ _ s

/-- Counted once each, a list of places without repetition counts each of its places once. -/
theorem cnt_forE_count_nodup {α : Type} {xs : List α} {j : α → Nat} (h : (xs.map j).Nodup) {x : α} (hx : x ∈ xs) (s : State) :
    ((forE xs fun x => count (j x)).act s).cnt (j x) = (s.cnt (j x) + 1) % 2 ^ 48 := by
  induction xs generalizing s with
  | nil => cases hx
  | cons y ys ih =>
    obtain ⟨hy, hys⟩ := List.nodup_cons.1 h
    rw [act_forE_cons, act_count]
    rcases List.mem_cons.1 hx with rfl | hx
    · rw [← cnt_count_self]
      refine forE_same (f := fun x => count (j x)) (State.cnt · (j x)) (fun z hz u => cnt_count_ne u 1 ?_) _
      exact fun he => hy (he ▸ List.mem_map_of_mem hz)
    · rw [ih hys hx, cnt_count_ne]
      exact fun he => hy (he ▸ List.mem_map_of_mem hx)

theorem packetRx_counts :
    ∀ g cols na i k s, (bitsSet 4 (s.rd (grpRx g.val)))[i]? = some k → cols.any (fun c => c.getD i .pad == .bad) = true →
    Completes (.packetRx g cols na) s (fun t => t.out = s.out ∧ t.cnt (srdCnt (grpLane g.val k) 1) = (s.cnt (srdCnt (grpLane g.val k) 1) + 1) % 2 ^ 48) := by
  intro g cols na i k s hk hbad
  obtain ⟨t, ht, rfl⟩ := act_packetRx g cols na s
  refine ⟨_, ht, ?_⟩
  have hmem : (i, k) ∈ badLanes (bitsSet 4 (s.rd (grpRx g.val))) cols := by
    obtain ⟨hi, hik⟩ := List.getElem?_eq_some_iff.1 hk
    refine List.mem_filter.2 ⟨?_, by simpa using hbad⟩
    rw [List.mem_iff_getElem]
    exact ⟨i, by simpa using hi, by simp [hik]⟩
  have hnodup : ((badLanes (bitsSet 4 (s.rd (grpRx g.val))) cols).map fun l => srdCnt (grpLane g.val l.2) 1).Nodup := by
    have hsnd : ((badLanes (bitsSet 4 (s.rd (grpRx g.val))) cols).map Prod.snd).Nodup := by
      refine List.Nodup.sublist (List.filter_sublist.map _) ?_
      rw [List.map_snd_zip (by simp)]
      exact List.nodup_range.filter _
    have hinj : Function.Injective fun k => srdCnt (grpLane g.val k) 1 := fun a b hab => by
      simp only [srdCnt, grpLane] at hab
      split at hab <;> omega
    have := hsnd.map hinj
    rwa [List.map_map] at this
  rw [if_pos]
  · exact ⟨(forE_count_keeps _ _ s).2, cnt_forE_count_nodup (j := fun l : Nat × Nat => srdCnt (grpLane g.val l.2) 1) hnodup hmem s⟩
  · rw [Bool.or_eq_true, Bool.not_eq_true', List.isEmpty_eq_false_iff]
    exact .inl (List.ne_nil_of_mem hmem)

/-! ### Eye scans -/

theorem judgeEye_srd (key n v thr : Nat) (s : State) : ((judgeEye key n v thr).act s).srd = s.srd := by
  simp only [judgeEye, act_dyn]
  split
  · simp only [act_rules, upd_rules, srd_rules]
  · simp only [act_rules, upd_rules, apply_ite State.srd, ite_self]

theorem eyeDone_completes :
    ∀ n es v ph e s, s.srd.scans = [e] → e.lane = n.val → [0, 2, 5].contains (s.rd SRD_LANE_STAT.STATE n.val) = false → Completes (.eyeDone n false es v ph) s
    (fun t => t.srd.scans = [] ∧ t.srd.eyes = Tab.insert s.srd.eyes (4 * n.val + e.eye) (eyeFigures e es v.toNat ph.toNat)) := by
  intro n es v ph e s hs hl hst
  refine ⟨_, rfl, ?_⟩
  simp only [act_dyn, hs, List.find?_cons, hl, beq_self_eq_true, Bool.false_or, hst, Bool.not_false, act_rules, upd_rules, srd_rules, if_true, (onlyReplies_finish _ _ _ _).srd,
    judgeEye_srd, List.filter_cons, bne_self_eq_false, Bool.false_eq_true, if_false, List.filter_nil, and_self]

theorem eyeDone_aborts :
    ∀ n es v ph e s, s.srd.scans = [e] → e.lane = n.val → Completes (.eyeDone n true es v ph) s
    (fun t => t.srd.scans = [] ∧ t.rd SRD_LANE_STAT.SCAN n.val = 0 ∧ t.srd.eyes = s.srd.eyes) := by
  intro n es v ph e s hs hl
  refine ⟨_, rfl, ?_⟩
  simp (disch := decide) only [act_dyn, hs, List.find?_cons, hl, beq_self_eq_true, Bool.true_or, Bool.not_true, act_rules, upd_rules, srd_rules, Bool.false_eq_true, if_false, rd_any_rules, rd_mk,
    (onlyReplies_finish _ _ _ _).srd, (onlyReplies_finish _ _ _ _).rd (Fld.key_ne_of_apart (f := SRD_LANE_STAT.SCAN) (g := OBS_REC_RSEQ.ALL) (by decide) _ _), List.filter_cons,
    bne_self_eq_false, List.filter_nil, true_and, and_true]
  rfl

/-- Settles O18. -/
theorem laneEvents : Obligations.LaneEvents :=
  ⟨srdCntClr_completes, laneRetrain_completes, jigInject_completes, jigLock_locks, jigLock_counts, jigUnlock_completes, lanePowerUp_completes,
    laneTrained_completes, trainTimeout_completes, trainRetry_completes, laneSignalLoss_completes, align_completes, laneWtrEnd_completes,
    packetRx_delivers, packetRx_discards, packetRx_counts, eyeDone_completes, eyeDone_aborts⟩

end Sys2Proof.Machine

/-!
The Veneer cipher: its commands, its keys, lookaside requests and protected blocks (R351 to R402).
-/
namespace Sys2Proof.Machine
open Sys2Proof

-- The kernel evaluates many small footprints: one thread serves them all.
set_option Elab.async false


/-! ### Loops over places -/

/-- In a loop over a list without repetition, what only the round of `x` changes is changed once. -/
theorem forE_once {α β : Type} (P : State → β) {g : β → β} {xs : List α} {f : α → Eff} {x : α} (hn : xs.Nodup) (hx : x ∈ xs) (hf : ∀ u, P ((f x).act u) = g (P u))
    (ho : ∀ y ∈ xs, y ≠ x → ∀ u, P ((f y).act u) = P u) (s : State) : P ((forE xs f).act s) = g (P s) := by
  induction xs generalizing s with
  | nil => cases hx
  | cons y ys ih =>
    obtain ⟨hy, hys⟩ := List.nodup_cons.1 hn
    rw [act_forE_cons]
    rcases List.mem_cons.1 hx with rfl | hx
    · rw [forE_same P fun z hz u => ho z (List.mem_cons_of_mem _ hz) (fun he => hy (he ▸ hz)) u, hf]
    · rw [ih hys hx (fun z hz => ho z (List.mem_cons_of_mem _ hz)), ho y List.mem_cons_self fun he => hy (he ▸ hx)]

theorem pagesOf_nodup (ws : List Nat) : (pagesOf ws).Nodup := List.nodup_range.filter _

theorem bitsSet_nodup (n v : Nat) : (bitsSet n v).Nodup := List.nodup_range.filter _

/-! ### Commands -/

theorem vnrCfg_does :
    Does .vnrCfg opVnrCfg (fun p s => wordOk [VNR_LA_CFG.HOLD] (nth p 1) = true ∧ s.protRefused (VNR_CTRL.PROT_MODE.raw (nth p 0)) = none ∧
      (bit (nth p 0) 7 = true → s.sensorOut = false))
    (fun _ p _ t => t.rd VNR_CTRL.PROT_MODE = VNR_CTRL.PROT_MODE.raw (nth p 0) ∧ t.rd VNR_LA_CFG.HOLD = VNR_LA_CFG.HOLD.raw (nth p 1) ∧
      (bit (nth p 0) 7 = true → t.rd VNR_STATUS.ERASED = 0)) := by
  refine does_of_okE (fun _ _ _ => rfl) ?_
  rintro h p s ⟨hw, hprot, hsens⟩
  have hrearm : (bit (nth p 0) 7 && s.sensorOut) = false := by
    cases hb : bit (nth p 0) 7
    · rfl
    · rw [hsens hb]; rfl
  refine ⟨_, by simp only [opVnrCfg, hw, hprot, hrearm]; rfl, fun t k => ?_⟩
  simp (disch := decide) only [k.rd, act_rules, (keeps_judgeProt _).rd, rd_rules, (keeps_vnrCntClr _).rd, ite_self, putWord_other, putWord_rd (fs := [VNR_LA_CFG.HOLD]) (.head _)]
  refine ⟨Fld.raw_mod _ _, trivial, fun hb => ?_⟩
  rw [if_pos hb]
  rfl

theorem vnrStatus_answers :
    Answers .vnrStatus opVnrStatus (fun _ _ => True) (fun _ s => s.vnrStatus :: (List.range 72).map (fun p => s.word VNR_PAGE_STAT.fields p)) := by
  exact answers_of_body (fun _ _ _ => rfl) fun h p s _ => ⟨_, rfl, rfl⟩

theorem pageRefused_none {p : Nat} (h8 : 8 ≤ p) (h71 : p ≤ 71) : pageRefused p = none := by rw [pageRefused, if_neg (not_lt.2 h8), if_neg (not_lt.2 h71)]

theorem vnrPageSet_does :
    Does .vnrPageSet opVnrPageSet (fun p s => 8 ≤ nth p 0 ∧ nth p 0 ≤ 71 ∧ wordOk [VNR_PAGE_ROT.PERIOD] (nth p 2) = true ∧
      (VNR_PAGE_CFG.INLINE.raw (nth p 1) = 0 → s.pageBound (nth p 0) = false))
    (fun _ p _ t => (∀ f ∈ VNR_PAGE_CFG.fields, t.rd f (nth p 0) = f.raw (nth p 1)) ∧ t.rd VNR_PAGE_ROT.PERIOD (nth p 0) = VNR_PAGE_ROT.PERIOD.raw (nth p 2)) := by
  refine does_of_okE (fun _ _ _ => rfl) ?_
  rintro h p s ⟨h8, h71, hw, hbound⟩
  have hin : (VNR_PAGE_CFG.INLINE.raw (nth p 1) == 0 && s.pageBound (nth p 0)) = false := by
    by_cases h0 : VNR_PAGE_CFG.INLINE.raw (nth p 1) = 0
    · rw [hbound h0, Bool.and_false]
    · rw [beq_eq_false_iff_ne.2 h0, Bool.false_and]
  refine ⟨_, by simp only [opVnrPageSet, pageRefused_none h8 h71, hw, hin]; rfl, fun t k => ⟨fun f hf => ?_, ?_⟩⟩
  · have hclear : ∀ g ∈ VNR_PAGE_CFG.fields, g.apart OBS_REC_RSEQ.ALL = true ∧ g.apartOf [VNR_PAGE_ROT.PERIOD] = true ∧ g.writable = true := by decide
    obtain ⟨hrseq, hrot, hwr⟩ := hclear f hf
    rw [k.rd (Fld.key_ne_of_apart hrseq _ _), act_seq_cons, act_seq_cons, act_seq_nil, putWord_apart hrot]
    exact putWord_rd hf hwr (by decide) _ _ _
  · rw [k.rd (Fld.key_ne_of_apart (by decide) _ _), act_seq_cons, act_seq_cons, act_seq_nil]
    exact putWord_rd (.head _) (by decide) (by decide) _ _ _

section
variable {c : Instr} {op : OpDef} {h : CmdHdr} {p : List Word} {s : State} {P : State → Prop}

/-- An accepted command whose body answers OK. -/
theorem completes_of_okP (hc : exec c s = perform (felwin op h p) s) (a : Accepted op h p s) {e : Eff} {pay : State → List Nat}
    (hbody : op.body h (p.map (·.toNat)) s = okP e pay) (hP : ∀ t, OnlyReplies (e.act s) t → P t) : Completes c s fun t => t.replied h .ok ∧ P t := by
  have hact : (felwin op h p).act s = (replyTo (runOf h op.code (p.map (·.toNat))) .ok 0 pay).act (e.act s) := by
    simp [felwin_accepted a, hbody, actAndReply, okP]
  have k := replied_replyTo a.hold (by decide : Status.ok ≠ .pending) op.code (p.map (·.toNat)) 0 pay (e.act s)
  rw [← hact] at k
  refine ⟨_, hc, ?_, hP _ k.keeps⟩
  rw [State.replied, k.slot]
  rfl

/-- An accepted command whose body refuses it. -/
theorem completes_of_no (hc : exec c s = perform (felwin op h p) s) (a : Accepted op h p s) {st : Status} (hst : st ≠ .pending)
    (hbody : op.body h (p.map (·.toNat)) s = no st) (hP : ∀ t, OnlyReplies s t → P t) : Completes c s fun t => t.replied h st ∧ P t :=
  ⟨_, hc, felwin_refusal_replied a (hbody.trans (no_eq_refusal st)) hst, hP _ (felwin_refusal_onlyReplies a (hbody.trans (no_eq_refusal st)))⟩

/-- An accepted command whose reply a later step gives. -/
theorem completes_of_deferE (hc : exec c s = perform (felwin op h p) s) (a : Accepted op h p s) {e : Eff} (hbody : op.body h (p.map (·.toNat)) s = deferE e)
    (hP : ∀ u, OnlyReplies s u → (e.act u).cmd.slots = u.cmd.slots ∧ P (e.act u)) : Completes c s fun t => t.running h op p ∧ P t := by
  have hact : (felwin op h p).act s = e.act ((slotRuns (runOf h op.code (p.map (·.toNat)))).act s) := by
    simp [felwin_accepted a, hbody, actAndReply, deferE]
  obtain ⟨hslots, hp⟩ := hP ((slotRuns (runOf h op.code (p.map (·.toNat)))).act s) (onlyReplies_replySlots s _ s.cmd.waiting)
  refine ⟨_, hc, ?_, hact ▸ hp⟩
  show Tab.get none ((felwin op h p).act s).cmd.slots _ = _
  rw [hact, hslots]
  simp [slotRuns, Upd.apply, runOf]

end

/-! ### Keys -/

/-- A key in its slot: the slot is valid, its GEN has stepped, and the generation counts from 0 (R357). -/
theorem placeKey_places {k : Nat} (hk : k ≤ 1) (g : Nat) (key : List Nat) (salt : Nat) (s : State) : ((placeKey g k key salt).act s).rd (validFld k) g = 1 ∧
    ((placeKey g k key salt).act s).rd (genFld k) g = (s.rd (genFld k) g + 1) % 32 ∧
    (((placeKey g k key salt).act s).vnr.slot g k).cur.map (fun c => (c.key, c.salt, c.seq)) = some (key, salt, 0) := by
  have hslot : ((placeKey g k key salt).act s).vnr.slot g k = { s.vnr.slot g k with
      cur := some ⟨(s.rd (genFld k) g + 1) % 32, key, salt, 0, 0, false, false, false, []⟩, ret := (s.vnr.slot g k).cur } := by
    simp only [placeKey, act_dyn, act_seq_cons, act_seq_nil, act_put, State.wr_vnr, modSlot_self]
  rw [hslot]
  interval_cases k <;> simp (disch := decide) only [placeKey, genFld, validFld, act_rules, if_true, Nat.one_ne_zero, if_false, rd_any_rules, act_modSlot, Option.map_some, and_true] <;>
    exact ⟨rfl, Nat.mod_mod _ _⟩

theorem unwrap_error {s : State} {i g k : Nat} {b : List Nat} {e : Status} (h : s.unwrap i g k b = .error e) : e ≠ .pending := by
  rintro rfl
  simp only [State.unwrap] at h
  split at h
  · cases h
  · split at h
    · cases h
    · split at h <;> cases h

/-- A key that enters a slot not in use (R357). -/
theorem keyEnters_places {g k : Nat} (hk : k ≤ 1) {s : State} (h : s.isRewrite g k = false) (key : List Nat) (salt : Nat) :
    ((keyEnters g k key salt).act s).rd (validFld k) g = 1 ∧ ((keyEnters g k key salt).act s).rd (genFld k) g = (s.rd (genFld k) g + 1) % 32 ∧
    (((keyEnters g k key salt).act s).vnr.slot g k).cur.map (fun c => (c.key, c.salt, c.seq)) = some (key, salt, 0) := by
  obtain ⟨p, hp⟩ : ∃ p, (keyEnters g k key salt).act s = ((placeKey g k key salt).act s).raise EV.KEY_LOADED p := by
    simp only [keyEnters, h, act_rules, Bool.false_and, Bool.false_eq_true, if_false]
    exact ⟨_, rfl⟩
  have hfld : (validFld k).apartOf EV.KEY_LOADED.flds = true ∧ (genFld k).apartOf EV.KEY_LOADED.flds = true := by
    simp only [validFld, genFld]
    split <;> decide
  rw [hp, rd_raise _ _ _ _ _ (not_mem_raiseKeys hfld.1 _), rd_raise _ _ _ _ _ (not_mem_raiseKeys hfld.2 _), State.raise_vnr]
  exact placeKey_places hk g key salt s

theorem vnrKeyLoad_completes :
    ∀ h p s, Accepted opVnrKeyLoad h p s → 8 ≤ nth (p.map (·.toNat)) 0 → nth (p.map (·.toNat)) 0 ≤ 71 → nth (p.map (·.toNat)) 1 ≤ 1 → s.on VNR_STATUS.ERASED = false →
    s.isRewrite (nth (p.map (·.toNat)) 0) (nth (p.map (·.toNat)) 1) = false → Completes (.vnrKeyLoad h p) s (fun t =>
      match s.unwrap h.session.toNat (nth (p.map (·.toNat)) 0) (nth (p.map (·.toNat)) 1) ((p.map (·.toNat)).drop 2) with
      | .error e => t.replied h e ∧ t.vnr = s.vnr
      | .ok (key, salt) => t.replied h .ok ∧ t.rd (validFld (nth (p.map (·.toNat)) 1)) (nth (p.map (·.toNat)) 0) = 1 ∧
          t.rd (genFld (nth (p.map (·.toNat)) 1)) (nth (p.map (·.toNat)) 0) = (s.rd (genFld (nth (p.map (·.toNat)) 1)) (nth (p.map (·.toNat)) 0) + 1) % 32 ∧
          (t.vnr.slot (nth (p.map (·.toNat)) 0) (nth (p.map (·.toNat)) 1)).cur.map (fun c => (c.key, c.salt, c.seq)) = some (key, salt, 0)) := by
  intro h p s a h8 h71 h1 her hrew
  cases hu : s.unwrap h.session.toNat (nth (p.map (·.toNat)) 0) (nth (p.map (·.toNat)) 1) ((p.map (·.toNat)).drop 2) with
  | error e =>
    refine completes_of_no rfl a (unwrap_error hu) ?_ fun t k => k.vnr
    simp only [opVnrKeyLoad, pageRefused_none h8 h71, not_lt.2 h1, her, hu, Bool.false_eq_true, if_false]
  | ok ks =>
    obtain ⟨key, salt⟩ := ks
    refine completes_of_okP rfl a (e := keyEnters (nth (p.map (·.toNat)) 0) (nth (p.map (·.toNat)) 1) key salt)
      (pay := fun u => [u.rd (genFld (nth (p.map (·.toNat)) 1)) (nth (p.map (·.toNat)) 0), s.keySf (nth (p.map (·.toNat)) 0) (nth (p.map (·.toNat)) 1)]) ?_ fun t k => ?_
    · simp only [opVnrKeyLoad, pageRefused_none h8 h71, not_lt.2 h1, her, hrew, hu, Bool.false_eq_true, if_false]
    · have hfld : (validFld (nth (p.map (·.toNat)) 1)).apart OBS_REC_RSEQ.ALL = true ∧ (genFld (nth (p.map (·.toNat)) 1)).apart OBS_REC_RSEQ.ALL = true := by
        simp only [validFld, genFld]
        split <;> decide
      rw [k.rd (Fld.key_ne_of_apart hfld.1 _ _), k.rd (Fld.key_ne_of_apart hfld.2 _ _), k.vnr]
      exact keyEnters_places h1 hrew key salt

/-- A change scheduled on a page waits for S (R373). -/
theorem schedule_marks {ps : List Nat} {g : Nat} (hg : g ∈ ps) (rewrite : List Nat) (s : State) : ((schedule ps rewrite).act s).rd VNR_PAGE_STAT.PENDING g = 1 ∧
    ((schedule ps rewrite).act s).rd VNR_PAGE_STAT.TARGET_SF g = s.nextS := by
  have hS : s.nextS % 2 ^ VNR_PAGE_STAT.TARGET_SF.width = s.nextS := Nat.mod_eq_of_lt (Nat.mod_lt _ (by decide))
  rw [schedule, act_dyn, act_seq_cons, act_seq_cons, act_seq_nil]
  refine forE_establishes (I := fun u => u.rd VNR_PAGE_STAT.PENDING g = 1 ∧ u.rd VNR_PAGE_STAT.TARGET_SF g = s.nextS) (List.mem_append_left _ hg) (fun u => ?_) (fun y _ u hu => ?_) _
  · simp (disch := decide) only [act_rules, rd_any_rules, hS]
    exact ⟨rfl, trivial⟩
  · simp only [act_rules]
    by_cases hy : g = y
    · subst hy
      simp (disch := decide) only [rd_any_rules, hS]
      exact ⟨rfl, trivial⟩
    · rwa [rd_wr_ne _ _ _ _ _ _ (Fld.key_ne_of_ne (by decide) hy), rd_wr_ne _ _ _ _ _ _ (Fld.key_ne_of_ne (by decide) hy), rd_wr_ne _ _ _ _ _ _ (Fld.key_ne_of_ne (by decide) hy),
        rd_wr_ne _ _ _ _ _ _ (Fld.key_ne_of_ne (by decide) hy)]

/-- Pages that switch at once (R372). -/
theorem flipPages {ps : List Nat} (hn : ps.Nodup) {g : Nat} (hg : g ∈ ps) (sf : Nat) (s : State) :
    ((forE ps fun p => seqE [flipPage p, put VNR_PAGE_STAT.TARGET_SF sf p]).act s).rd VNR_PAGE_STAT.TX_KP g = (1 - s.rd VNR_PAGE_STAT.TX_KP g) % 2 ∧
    ((forE ps fun p => seqE [flipPage p, put VNR_PAGE_STAT.TARGET_SF sf p]).act s).rd VNR_PAGE_STAT.TARGET_SF g = sf % 2 ^ 16 := by
  have hflip : ∀ p (u : State), (flipPage p).act u = u.wr VNR_PAGE_STAT.TX_KP p (1 - u.rd VNR_PAGE_STAT.TX_KP p) := fun _ _ => Eq.trans rfl rfl
  rw [← Prod.mk.injEq]
  refine forE_once (fun u => (u.rd VNR_PAGE_STAT.TX_KP g, u.rd VNR_PAGE_STAT.TARGET_SF g)) (g := fun v => ((1 - v.1) % 2, sf % 2 ^ 16)) hn hg (fun u => ?_) (fun y _ hy u => ?_) s
  · simp (disch := decide) only [act_seq_cons, act_seq_nil, hflip, act_put, rd_any_rules]
    rfl
  · simp only [act_seq_cons, act_seq_nil, hflip, act_put]
    rw [rd_wr_ne _ _ _ _ _ _ (Fld.key_ne_of_ne (by decide) hy.symm), rd_wr_ne _ _ _ _ _ _ (Fld.key_ne_of_ne (by decide) hy.symm), rd_wr_ne _ _ _ _ _ _ (Fld.key_ne_of_ne (by decide) hy.symm),
      rd_wr_ne _ _ _ _ _ _ (Fld.key_ne_of_ne (by decide) hy.symm)]

theorem vnrKeySwitch_does :
    Does .vnrKeySwitch opVnrKeySwitch (fun p s => maskRefused p = none ∧ s.schedRefused (pagesOf p) = none)
    (fun _ p s t => (s.scheduled = true → ∀ g ∈ pagesOf p, t.rd VNR_PAGE_STAT.PENDING g = 1 ∧ t.rd VNR_PAGE_STAT.TARGET_SF g = s.nextS) ∧
      (s.scheduled = false → ∀ g ∈ pagesOf p, t.rd VNR_PAGE_STAT.TX_KP g = (1 - s.rd VNR_PAGE_STAT.TX_KP g) % 2 ∧ t.rd VNR_PAGE_STAT.TARGET_SF g = 0xFFFF)) := by
  refine does_of_okP (fun _ _ _ => rfl) ?_
  rintro h p s ⟨hmask, hsched⟩
  refine ⟨_, _, by simp only [opVnrKeySwitch, hmask, hsched]; rfl, fun t k => ⟨fun hs g hg => ?_, fun hs g hg => ?_⟩⟩
  · rw [k.keeps.rd (Fld.key_ne_of_apart (by decide) _ _), k.keeps.rd (Fld.key_ne_of_apart (by decide) _ _), switchPages, act_dyn, if_pos hs]
    exact schedule_marks hg [] s
  · rw [k.keeps.rd (Fld.key_ne_of_apart (by decide) _ _), k.keeps.rd (Fld.key_ne_of_apart (by decide) _ _), switchPages, act_dyn, hs, if_neg Bool.false_ne_true, act_seq_cons,
      act_seq_cons, act_seq_nil, act_raise, rd_raise _ _ _ _ _ (not_mem_raiseKeys (by decide) _), rd_raise _ _ _ _ _ (not_mem_raiseKeys (by decide) _)]
    exact flipPages (pagesOf_nodup p) hg 0xFFFF s

/-- A slot zeroised, with its retained generation (R378). -/
theorem eraseSlot_self {k : Nat} (hk : k < 2) (p : Nat) (s : State) : ((eraseSlot p k).act s).rd (validFld k) p = 0 ∧ ((eraseSlot p k).act s).vnr.slot p k = {} := by
  have hflag : ∀ u : State, Eff.act (fun s => [.put VNR_PAGE_STAT.RX_USE p (clrBit (s.rd VNR_PAGE_STAT.RX_USE p) k)]) u =
      u.wr VNR_PAGE_STAT.RX_USE p (clrBit (u.rd VNR_PAGE_STAT.RX_USE p) k) := fun _ => Eq.trans rfl rfl
  have hfld : (validFld k).apart VNR_PAGE_STAT.RX_USE = true := by simp only [validFld]; split <;> decide
  rw [eraseSlot, act_seq_cons, act_seq_cons, act_seq_cons, act_seq_nil, hflag, act_put, rd_wr_ne _ _ _ _ _ _ (Fld.key_ne_of_apart hfld _ _), rd_wr_self, State.wr_vnr, State.wr_vnr, modSlot_self]
  exact ⟨Nat.zero_mod _, rfl⟩

/-- Another slot keeps what it holds. -/
theorem eraseSlot_other {p q k j : Nat} (hk : k < 2) (hj : j < 2) (h : q ≠ p ∨ j ≠ k) (s : State) :
    ((eraseSlot p k).act s).rd (validFld j) q = s.rd (validFld j) q ∧ ((eraseSlot p k).act s).vnr.slot q j = s.vnr.slot q j := by
  have hflag : ∀ u : State, Eff.act (fun s => [.put VNR_PAGE_STAT.RX_USE p (clrBit (s.rd VNR_PAGE_STAT.RX_USE p) k)]) u =
      u.wr VNR_PAGE_STAT.RX_USE p (clrBit (u.rd VNR_PAGE_STAT.RX_USE p) k) := fun _ => Eq.trans rfl rfl
  have hfld : (validFld j).apart VNR_PAGE_STAT.RX_USE = true := by simp only [validFld]; split <;> decide
  have hvalid : (validFld j).key q ≠ (validFld k).key p := by
    interval_cases k <;> interval_cases j
    · exact Fld.key_ne_of_ne (by decide) (h.resolve_right (by simp))
    · exact Fld.key_ne_of_apart (by decide) _ _
    · exact Fld.key_ne_of_apart (by decide) _ _
    · exact Fld.key_ne_of_ne (by decide) (h.resolve_right (by simp))
  rw [eraseSlot, act_seq_cons, act_seq_cons, act_seq_cons, act_seq_nil, hflag, act_put, rd_wr_ne _ _ _ _ _ _ (Fld.key_ne_of_apart hfld _ _), rd_wr_ne _ _ _ _ _ _ hvalid, State.wr_vnr,
    State.wr_vnr, modSlot_other _ _ hk hj h]
  exact ⟨by rw [act_modSlot, rd_mk], rfl⟩

/-! ### Lookaside requests -/

/-- A request that leaves the engine takes nothing of Veneer along but itself. -/
theorem endLa_vnr (r : LaReq) (st : Status) (pay : List Nat) (s : State) : ((endLa r st pay).act s).vnr = { s.vnr with las := s.vnr.las.filter fun q => q != r } := by
  simp only [endLa, act_rules, upd_rules, apply_ite State.vnr, vnr_rules, (onlyReplies_finish _ _ _ _).vnr, ite_self]

theorem stopLa_vnr (r : LaReq) (st : Status) (s : State) : ((stopLa r st).act s).vnr = { s.vnr with las := s.vnr.las.filter fun q => q != r } := by
  simp only [stopLa, act_dyn, act_seq_cons, act_seq_nil, endLa_vnr, act_emit, act_whenE, act_drawn, apply_ite State.vnr, ite_self]

/-- Slot `k` of page `p` as its registers and Veneer have it: whether it holds a key, and what. -/
def State.slotView (s : State) (p k : Nat) : Nat × KeySlot := (s.rd (validFld k) p, s.vnr.slot p k)

theorem stopSlot_slotView (p k q j : Nat) (s : State) : ((stopSlot p k).act s).slotView q j = s.slotView q j := by
  rw [stopSlot, act_dyn]
  refine forE_same (State.slotView · q j) (fun r _ u => ?_) s
  have hfld : (validFld j).apartOf (Touch.stopLa.flds ++ sharedFlds) = true := by simp only [validFld]; split <;> decide
  rw [State.slotView, State.slotView, (keeps_stopLa r .keyGone u).rdAny hfld, stopLa_vnr]
  rfl

theorem clearPending_slotView (p q j : Nat) (s : State) : ((clearPending p).act s).slotView q j = s.slotView q j := by
  have hfld : (validFld j).apart VNR_PAGE_STAT.PENDING = true := by simp only [validFld]; split <;> decide
  rw [clearPending, act_seq_cons, act_seq_cons, act_seq_nil, act_upd, act_put, State.slotView, State.slotView]
  simp only [upd_rules, rd_mk, rd_wr_ne _ _ _ _ _ _ (Fld.key_ne_of_apart hfld _ _), State.wr_vnr]
  rfl

theorem vnrKeyErase_does :
    Does .vnrKeyErase opVnrKeyErase (fun p _ => maskRefused (p.take 3) = none ∧ nth p 3 ≤ 3)
    (fun _ p _ t => ∀ g ∈ pagesOf (p.take 3), t.rd VNR_PAGE_STAT.PENDING g = 0 ∧
      ∀ k ∈ bitsSet 2 (nth p 3), t.rd (validFld k) g = 0 ∧ (t.vnr.slot g k).cur = none ∧ (t.vnr.slot g k).ret = none) := by
  refine does_of_okE (fun _ _ _ => rfl) ?_
  rintro h p s ⟨hmask, h3⟩
  refine ⟨_, by simp only [opVnrKeyErase, hmask, not_lt.2 h3, if_false]; rfl, fun t k g hg => ?_⟩
  rw [act_seq_cons, act_seq_cons, act_seq_nil, act_raise] at k
  constructor
  · rw [k.rd (Fld.key_ne_of_apart (by decide) _ _), rd_raise _ _ _ _ _ (not_mem_raiseKeys (by decide) _)]
    refine forE_once (State.rd · VNR_PAGE_STAT.PENDING g) (g := fun _ => 0) (pagesOf_nodup _) hg (fun u => ?_) (fun y _ hy u => ?_) s
    · simp only [act_seq_cons, act_seq_nil, clearPending, act_upd, upd_rules, rd_mk, act_put, rd_wr_self]
      rfl
    · simp only [act_seq_cons, act_seq_nil, clearPending, act_upd, upd_rules, rd_mk, act_put]
      rw [rd_wr_ne _ _ _ _ _ _ (Fld.key_ne_of_ne (by decide) hy.symm)]
      refine forE_same (State.rd · VNR_PAGE_STAT.PENDING g) (fun j _ u => ?_) u
      rw [act_seq_cons, act_seq_cons, act_seq_nil, (keeps_eraseSlot _ _ _).rdAny (by decide), (keeps_stopSlot _ _ _).rdAny (by decide)]
  · intro j hj
    have hj2 : j < 2 := mem_bitsSet_lt hj
    have hfld : (validFld j).apart OBS_REC_RSEQ.ALL = true ∧ (validFld j).apartOf EV.KEY_ERASED.flds = true := by simp only [validFld]; split <;> decide
    rw [k.rd (Fld.key_ne_of_apart hfld.1 _ _), rd_raise _ _ _ _ _ (not_mem_raiseKeys hfld.2 _), k.vnr, State.raise_vnr]
    have hview : ∀ u : State, ((forE (bitsSet 2 (nth p 3)) fun j => seqE [stopSlot g j, eraseSlot g j]).act u).slotView g j = (0, {}) := fun u =>
      forE_once (State.slotView · g j) (g := fun _ => (0, {})) (bitsSet_nodup _ _) hj (fun u => by
        rw [act_seq_cons, act_seq_cons, act_seq_nil, State.slotView, (eraseSlot_self hj2 g _).1, (eraseSlot_self hj2 g _).2]) (fun i hi hij u => by
        obtain ⟨hv, hs⟩ := eraseSlot_other (mem_bitsSet_lt hi) hj2 (.inr hij.symm) ((stopSlot g i).act u) (p := g) (q := g)
        rw [act_seq_cons, act_seq_cons, act_seq_nil, State.slotView, hv, hs]
        exact stopSlot_slotView g i g j u) u
    have hother : ∀ y, y ≠ g → ∀ u : State, ((forE (bitsSet 2 (nth p 3)) fun j => seqE [stopSlot y j, eraseSlot y j]).act u).slotView g j = u.slotView g j := fun y hy u =>
      forE_same (State.slotView · g j) (fun i hi u => by
        obtain ⟨hv, hs⟩ := eraseSlot_other (mem_bitsSet_lt hi) hj2 (.inl hy.symm) ((stopSlot y i).act u) (p := y) (q := g)
        rw [act_seq_cons, act_seq_cons, act_seq_nil, State.slotView, hv, hs]
        exact stopSlot_slotView y i g j u) u
    have hall := forE_once (State.slotView · g j) (g := fun _ => (0, {})) (pagesOf_nodup (p.take 3)) hg
      (f := fun g => seqE [forE (bitsSet 2 (nth p 3)) fun k => seqE [stopSlot g k, eraseSlot g k], clearPending g])
      (fun u => by rw [act_seq_cons, act_seq_cons, act_seq_nil, clearPending_slotView, hview])
      (fun y _ hy u => by rw [act_seq_cons, act_seq_cons, act_seq_nil, clearPending_slotView, hother y hy]) s
    obtain ⟨hv, hs⟩ := Prod.mk.injEq _ _ _ _ |>.mp hall
    exact ⟨hv, by rw [hs], by rw [hs]⟩

theorem vnrBind_does :
    Does .vnrBind opVnrBind (fun p s => nth p 0 ≤ 31 ∧ s.chOn (nth p 0) = false ∧ (nth p 1 = 255 ∨ (8 ≤ nth p 1 ∧ nth p 1 ≤ 71 ∧ s.on VNR_PAGE_CFG.INLINE (nth p 1) = true)))
    (fun _ p _ t => t.rd VNR_CH_BIND.PAGE (nth p 0) = nth p 1) := by
  refine does_of_okE (fun _ _ _ => rfl) ?_
  rintro h p s ⟨ht, hch, hpage⟩
  have hlt : nth p 1 < 2 ^ VNR_CH_BIND.PAGE.width := by
    have : VNR_CH_BIND.PAGE.width = 8 := rfl
    rw [this]
    omega
  refine ⟨put VNR_CH_BIND.PAGE (nth p 1) (nth p 0), ?_, fun t k => ?_⟩
  · rcases hpage with h255 | ⟨h8, h71, hin⟩
    · simp only [opVnrBind, not_lt.2 ht, h255, hch, bne_self_eq_false, Bool.false_and, Bool.or_self, Bool.false_eq_true, if_false]
    · simp only [opVnrBind, not_lt.2 ht, pageRefused_none h8 h71, hch, hin, Option.isSome_none, Bool.and_false, Bool.not_true, Bool.or_self, Bool.false_eq_true, if_false]
  · rw [k.rd (Fld.key_ne_of_apart (by decide) _ _), act_put, rd_wr_self, Nat.mod_eq_of_lt hlt]

theorem vnrLa_completes :
    ∀ h p s, Accepted opVnrLa h p s → nth (p.map (·.toNat)) 1 ≤ 4096 → nth (p.map (·.toNat)) 2 ≤ 65536 → bits (nth (p.map (·.toNat)) 0) 28 4 = 2 →
    8 ≤ bits (nth (p.map (·.toNat)) 0) 0 8 → bits (nth (p.map (·.toNat)) 0) 0 8 ≤ 71 → s.on VNR_PAGE_CFG.LA_EN (bits (nth (p.map (·.toNat)) 0) 0 8) = true →
    s.rd VNR_PAGE_CFG.OWNER (bits (nth (p.map (·.toNat)) 0) 0 8) = h.session.toNat → bit (nth (p.map (·.toNat)) 0) 27 = true →
    (s.vnr.slot (bits (nth (p.map (·.toNat)) 0) 0 8) (bits (nth (p.map (·.toNat)) 0) 26 1)).cur.isSome = true → s.on VNR_STATUS.RNG_OK = true →
    Completes (.vnrLa h p) s (fun t => t.running h opVnrLa p ∧ t.vnr.las = s.vnr.las ++ t.vnr.las.drop s.vnr.las.length ∧
        (t.vnr.las.drop s.vnr.las.length).map (fun r => (r.op, r.page, r.len, r.nonce, r.tag)) =
          [(2, bits (nth (p.map (·.toNat)) 0) 0 8, nth (p.map (·.toNat)) 2, ((p.map (·.toNat)).drop 7).take 3, ((p.map (·.toNat)).drop 10).take 4)]) := by
  intro h p s a hadd hlen hop h8 h71 hla hown hslot hcur hrng
  obtain ⟨y, hy⟩ := Option.isSome_iff_exists.1 hcur
  refine completes_of_deferE rfl a (by
    simp only [opVnrLa, not_lt.2 hadd, not_lt.2 hlen, hop, not_lt.2 h8, not_lt.2 h71, hla, hown, bne_self_eq_false, hslot, if_true, hy, hrng]
    rfl) fun u hu => ?_
  have hdec : ((2 : Nat) == 1) = false := rfl
  simp only [act_rules, upd_rules, hdec, Bool.false_eq_true, if_false, hu.vnr, List.drop_left, true_and]
  rfl

theorem vnrCounters_does :
    Does .vnrCounters opVnrCounters (fun _ _ => True) (fun _ _ s t => t.snapGen = s.nextGen ∧ t.bank = s.bank) := by
  refine does_of_okP (fun _ _ _ => rfl) ?_
  rintro h p s -
  refine ⟨_, _, rfl, fun t k => ?_⟩
  obtain ⟨hbank, -, hgen⟩ := k.keeps.comps .bank (by decide)
  exact ⟨hgen, hbank⟩

theorem vnrRearm_does :
    Does .vnrRearm opVnrRearm (fun _ s => s.sensorOut = false) (fun _ _ _ t => t.rd VNR_STATUS.ERASED = 0) := by
  refine does_of_okE (fun _ _ _ => rfl) ?_
  rintro h p s hs
  refine ⟨_, by simp only [opVnrRearm, hs]; rfl, fun t k => ?_⟩
  simp (disch := decide) only [k.rd, act_rules, rd_rules]
  rfl

/-- Settles O19. -/
theorem veneerCommands : Obligations.VeneerCommands :=
  ⟨vnrCfg_does, vnrStatus_answers, vnrPageSet_does, vnrKeyLoad_completes, vnrKeySwitch_does, vnrKeyErase_does, vnrBind_does, vnrLa_completes,
    vnrCounters_does, vnrRearm_does⟩

/-! ### Events -/

theorem vnrCtrlRearm_completes :
    ∀ m s, s.takes m 8 → s.sensorOut = false → Completes (.vnrCtrlRearm m) s (fun t => t.rd VNR_STATUS.ERASED = 0) := by
  intro m s ht hs
  refine completes_byMaster rfl ht fun t w => ?_
  simp (disch := decide) only [w.rd, rearmWrite, act_rules, hs, Bool.false_eq_true, if_false, rd_rules]
  rfl

theorem logged_moves_vnrCnt {k : Nat} (hk : k < 224) : Touch.logged.moves (424 + k) = false := by
  have hall : ((List.range 224).all fun k => !Touch.logged.moves (424 + k)) = true := by decide +kernel
  simpa using List.all_eq_true.1 hall k (List.mem_range.2 hk)

theorem vnrCntClr_completes :
    ∀ m s, s.takes m 8 → Completes (.vnrCntClr m) s (fun t => t.cnt 416 = 0 ∧ t.cnt 417 = 0 ∧ ∀ k < 224, t.cnt (424 + k) = 0) := by
  intro m s ht
  have hclr : ∀ j, .preset j 0 ∈ vnrCntClr s → (vnrCntClr.act s).cnt j = 0 := fun j hj => by
    refine cnt_run_clears (fun u hu => ?_) s (.inl hj)
    rcases List.mem_append.1 hu with hu | hu
    · rcases List.mem_pair.1 hu with rfl | rfl <;> exact .inl ⟨_, rfl⟩
    · obtain ⟨i, -, rfl⟩ := List.mem_map.1 hu
      exact .inl ⟨_, rfl⟩
  refine completes_byMaster rfl ht fun t w => ⟨?_, ?_, fun k hk => ?_⟩
  · rw [w.cnt (by decide), hclr 416 (by simp [vnrCntClr])]
  · rw [w.cnt (by decide), hclr 417 (by simp [vnrCntClr])]
  · rw [w.cnt (logged_moves_vnrCnt hk), hclr _ (List.mem_append_right _ (List.mem_map.2 ⟨k, List.mem_range.2 hk, rfl⟩))]

theorem protModeWrite_completes :
    ∀ m v s, s.takes m 8 → s.protRefused v.toNat = none → Completes (.protModeWrite m v) s (fun t => t.rd VNR_CTRL.PROT_MODE = v.toNat) := by
  intro m v s ht hprot
  refine completes_byMaster rfl ht fun t w => ?_
  simp (disch := decide) only [w.rd, protModeWrite, act_rules, hprot, Option.isSome_none, Bool.false_eq_true, if_false, (keeps_judgeProt _).rd, rd_rules]
  exact Nat.mod_eq_of_lt v.isLt

/-- What an effect sends is among what has been sent since, whatever follows. -/
theorem mem_sentSince_of_suffix {s u t : State} {o : Output} {xs : List Output} (k : u.out <:+ t.out) (hu : u.out = xs ++ s.out) (ho : o ∈ xs) : o ∈ s.sentSince t := by
  obtain ⟨ys, hys⟩ := k
  rw [State.sentSince, ← hys, hu, ← List.append_assoc, List.length_append, Nat.add_sub_cancel, List.take_left]
  exact List.mem_append_right _ ho

theorem endLa_cnt (r : LaReq) (st : Status) (pay : List Nat) (s : State) : ((endLa r st pay).act s).cnt 417 = (s.cnt 417 + 1) % 2 ^ 48 := by
  have hend : ∀ (b : Bool) (u : State) p, (((if b = true then raise EV.LA_DONE p else stat VNR_INT_STAT.ALL 11) : Eff).act u).cnt 417 = u.cnt 417 := fun b u p => by
    cases b
    · simp only [Bool.false_eq_true, if_false, act_rules, cnt_rules]
    · exact cnt_raise_other u p (by decide) (by decide)
  simp only [endLa, act_dyn, act_seq_cons, act_seq_nil, hend]
  rw [(keeps_finish _ _ _ _).cnt (by decide), act_count, cnt_count_self, act_upd]
  rfl

theorem endLa_las (r : LaReq) (st : Status) (pay : List Nat) (s : State) : r ∉ ((endLa r st pay).act s).vnr.las := by
  rw [endLa_vnr]
  simp

theorem laDone_completes :
    ∀ n a d r s, s.vnr.las[n]? = some r → Completes (.laDone n a d false) s (fun t => r ∉ t.vnr.las ∧ t.cnt 417 = (s.cnt 417 + 1) % 2 ^ 48 ∧
    let x := r.result (((a.map (·.toNat)).flatMap wordBytes).take r.aad) (((d.map (·.toNat)).flatMap wordBytes).take r.len)
    if x.2.2 = true then Output.host r.dest x.1 ∈ s.sentSince t
    else if r.op = 2 then Output.host r.dest (List.replicate ((r.len + 3) / 4) 0) ∈ s.sentSince t
    else Output.host r.dest (x.1.take (s.laHold r / 4)) ∈ s.sentSince t) := by
  intro n a d r s hr
  refine ⟨_, rfl, ?_⟩
  simp only [act_dyn, hr, Bool.false_eq_true, if_false]
  generalize hx : r.result (((a.map (·.toNat)).flatMap wordBytes).take r.aad) (((d.map (·.toNat)).flatMap wordBytes).take r.len) = x
  obtain ⟨words, tag, ok⟩ := x
  cases ok
  · simp only [Bool.false_eq_true, if_false]
    by_cases hop : r.op = 2
    · simp only [hop, if_true, act_seq_cons, act_seq_nil, laZeros, act_emit]
      exact ⟨endLa_las _ _ _ _, endLa_cnt _ _ _ _, mem_sentSince (keeps_endLa _ _ _ _) rfl⟩
    · simp only [hop, if_false, act_seq_cons, act_seq_nil, laZeros, act_emit]
      exact ⟨endLa_las _ _ _ _, endLa_cnt _ _ _ _, mem_sentSince_of_suffix (xs := [_, _]) (keeps_endLa _ _ _ _).sent rfl (List.mem_cons_of_mem _ List.mem_cons_self)⟩
  · simp only [if_true, act_seq_cons, act_seq_nil, act_emit]
    exact ⟨endLa_las _ _ _ _, endLa_cnt _ _ _ _, mem_sentSince (keeps_endLa _ _ _ _) rfl⟩

theorem laDone_faults :
    ∀ n a d r s, s.vnr.las[n]? = some r → Completes (.laDone n a d true) s (fun t => r ∉ t.vnr.las ∧ t.cnt 416 = (s.cnt 416 + 1) % 2 ^ 48) := by
  intro n a d r s hr
  refine ⟨_, rfl, ?_⟩
  simp only [act_dyn, hr, if_true, act_seq_cons, act_seq_nil, stopLa_vnr]
  refine ⟨by simp, ?_⟩
  rw [(keeps_stopLa _ _ _).cnt (by decide), act_raise, cnt_raise_other _ _ (by decide) (by decide), act_count, cnt_count_self]

theorem vnrKatDone_passes :
    ∀ dir pipe s, Completes (.vnrKatDone dir pipe true) s (fun t => t = s) := by
  intro dir pipe s
  exact ⟨_, rfl, rfl⟩

theorem vnrKatDone_fails :
    ∀ pipe s, Completes (.vnrKatDone 0 pipe false) s (fun t => t.rd VNR_STATUS.TX_PIPES = (s.rd VNR_STATUS.TX_PIPES - 2) % 2 ^ VNR_STATUS.TX_PIPES.width) := by
  intro pipe s
  refine ⟨_, rfl, ?_⟩
  have h0 : (0 : Fin 3).val = 0 := rfl
  simp (disch := decide) only [act_whenE, Bool.not_false, if_true, retirePipe, h0, act_rules, (keeps_judgeProt _).rd, rd_rules]
  rfl

theorem retainedGenErase_completes :
    ∀ p k s, s.allVerified p.val k.val = true → s.vnr.rewriting p.val = false → Completes (.retainedGenErase p k) s
    (fun t => (t.vnr.slot p.val k.val).ret = none ∧ (t.vnr.slot p.val k.val).cur = (s.vnr.slot p.val k.val).cur) := by
  intro p k s hall hrew
  refine ⟨_, rfl, ?_⟩
  simp only [act_dyn, hall, hrew, Bool.not_false, Bool.and_self, act_whenE, if_true, modSlot_self, and_self]

theorem keyAge_completes :
    ∀ p k c s, (s.vnr.slot p.val k.val).cur = some c → c.aged = false → 2 ^ 47 ≤ c.seq → Completes (.keyAge p k false) s
    (fun t => (t.vnr.slot p.val k.val).cur = some { c with aged := true } ∧ t.cnt (1024 + EV.KEY_AGE.x) = (s.cnt (1024 + EV.KEY_AGE.x) + 1) % 2 ^ 48) := by
  intro p k c s hc haged hseq
  refine ⟨_, rfl, ?_⟩
  simp only [act_dyn, hc, Bool.false_eq_true, if_false, haged, not_lt.2 hseq, decide_false, Bool.or_self, act_seq_cons, act_seq_nil, act_raise, State.raise_vnr, modSlot_self, cnt_raise_self,
    Option.map_some, true_and]
  rfl

theorem keyExhausted_completes :
    ∀ p k c s, (s.vnr.slot p.val k.val).cur = some c → c.spent = false → 2 ^ 48 ≤ c.seq → Completes (.keyExhausted p k) s
    (fun t => (t.vnr.slot p.val k.val).cur = some { c with spent := true } ∧ t.cnt (1024 + EV.KEY_EXHAUSTED.x) = (s.cnt (1024 + EV.KEY_EXHAUSTED.x) + 1) % 2 ^ 48) := by
  intro p k c s hc hspent hseq
  refine ⟨_, rfl, ?_⟩
  simp only [act_dyn, hc, hspent, not_lt.2 hseq, decide_false, Bool.or_self, Bool.false_eq_true, if_false, act_seq_cons, act_seq_nil, act_raise, State.raise_vnr, modSlot_self, cnt_raise_self,
    Option.map_some, true_and]
  rfl

theorem eraseAll_slot {p k : Nat} (hp : p < 72) (hk : k < 2) (s : State) : (eraseAll.act s).vnr.slot p k = {} := by
  have hput : ∀ q (u : State), ((put VNR_PAGE_STAT.PENDING 0 q).act u).vnr.slot p k = u.vnr.slot p k := fun q u => by rw [act_put, State.wr_vnr]
  have hbatch : ∀ u : State, ((Upd.vnr fun v => { v with batch := none }).apply u).vnr.slot p k = u.vnr.slot p k := fun _ => rfl
  rw [eraseAll, act_seq_cons, act_seq_cons, act_seq_cons, act_seq_nil, act_upd, hbatch]
  refine forE_once (fun u => u.vnr.slot p k) (g := fun _ => {}) List.nodup_range (List.mem_range.2 hp) (fun u => ?_) (fun q _ hq u => ?_) _
  · rw [act_seq_cons, act_seq_cons, act_seq_cons, act_seq_nil, hput]
    interval_cases k
    · rw [(eraseSlot_other (by decide) (by decide) (.inr (by decide)) _).2, (eraseSlot_self (by decide) p u).2]
    · rw [(eraseSlot_self (by decide) p _).2]
  · rw [act_seq_cons, act_seq_cons, act_seq_cons, act_seq_nil, hput, (eraseSlot_other (by decide) hk (.inl hq.symm) _).2, (eraseSlot_other (by decide) hk (.inl hq.symm) _).2]

theorem sensorAlarm_erases :
    ∀ b s, s.on VNR_STATUS.SENSE_ARMED = true → Completes (.sensorAlarm b) s (fun t => t.rd VNR_STATUS.ERASED = 1 ∧ ∀ p < 72, ∀ k < 2, (t.vnr.slot p k).cur = none) := by
  intro b s harm
  refine ⟨_, rfl, ?_⟩
  have hsens : Eff.act (fun s => [.put VNR_STATUS.SENSOR 0 (setBit (s.rd VNR_STATUS.SENSOR) b.val)]) s = s.wr VNR_STATUS.SENSOR 0 (setBit (s.rd VNR_STATUS.SENSOR) b.val) := Eq.trans rfl rfl
  simp (disch := decide) only [act_rules, hsens, on_rules, harm, if_true, rd_rules, vnr_rules]
  exact ⟨rfl, fun p hp k hk => by rw [eraseAll_slot hp hk]⟩

theorem sensorAlarm_reports :
    ∀ b s, s.on VNR_STATUS.SENSE_ARMED = false → Completes (.sensorAlarm b) s (fun t => t.vnr = s.vnr ∧
    t.rd VNR_STATUS.SENSOR = setBit (s.rd VNR_STATUS.SENSOR) b.val % 2 ^ VNR_STATUS.SENSOR.width) := by
  intro b s harm
  refine ⟨_, rfl, ?_⟩
  have hsens : Eff.act (fun s => [.put VNR_STATUS.SENSOR 0 (setBit (s.rd VNR_STATUS.SENSOR) b.val)]) s = s.wr VNR_STATUS.SENSOR 0 (setBit (s.rd VNR_STATUS.SENSOR) b.val) := Eq.trans rfl rfl
  simp (disch := decide) only [act_rules, hsens, on_rules, harm, Bool.false_eq_true, if_false, rd_rules, vnr_rules, and_self]

theorem sensorRekey_completes :
    ∀ s, s.on VNR_STATUS.ERASED = false → Completes .sensorRekey s (fun t => t = s.wr VNR_STATUS.SENSOR 0 0) := by
  intro s her
  refine ⟨_, rfl, ?_⟩
  simp only [act_rules, her, Bool.false_and, Bool.false_eq_true, if_false]

theorem drbgHealthFail_completes :
    ∀ s, Completes .drbgHealthFail s (fun t => t.rd VNR_STATUS.RNG_OK = 0 ∧ t.rd SEC_STATUS.DRBG_OK = 0) := by
  intro s
  refine ⟨_, rfl, ?_⟩
  simp (disch := decide) only [act_rules, rd_rules]
  exact ⟨rfl, rfl⟩

theorem drbgHealthPass_completes :
    ∀ s, Completes .drbgHealthPass s (fun t => t = (s.wr VNR_STATUS.RNG_OK 0 1).wr SEC_STATUS.DRBG_OK 0 1) := by
  intro s
  refine ⟨_, rfl, ?_⟩
  simp only [act_rules]

/-- Settles O20. -/
theorem veneerEvents : Obligations.VeneerEvents :=
  ⟨vnrCtrlRearm_completes, vnrCntClr_completes, protModeWrite_completes, laDone_completes, laDone_faults, vnrKatDone_passes, vnrKatDone_fails,
    retainedGenErase_completes, keyAge_completes, keyExhausted_completes, sensorAlarm_erases, sensorAlarm_reports, sensorRekey_completes,
    drbgHealthFail_completes, drbgHealthPass_completes⟩

/-! ### Blocks -/

theorem txGen_congr {s t : State} {p : Nat} (hr : t.rd VNR_PAGE_STAT.TX_KP p = s.rd VNR_PAGE_STAT.TX_KP p) (hv : t.vnr = s.vnr) : t.txGen p = s.txGen p := by
  rw [State.txGen, State.txGen, hr, hv]

/-- A block sent steps the generation it was encrypted under (R366, R374). -/
theorem stepSeq_txGen {p : Nat} {s : State} {y : KeyGen} (h : s.txGen p = some y) : (((stepSeq p).act s).txGen p).map (·.seq) = some (y.seq + 1) := by
  have hrew : ((stepSeq p).act s).vnr.rewriting p = s.vnr.rewriting p := by rw [stepSeq, act_dyn, act_modSlot]; rfl
  have hkp : ((stepSeq p).act s).rd VNR_PAGE_STAT.TX_KP p = s.rd VNR_PAGE_STAT.TX_KP p := by rw [stepSeq, act_dyn, act_modSlot]; rfl
  rw [State.txGen, hrew, hkp, stepSeq, act_dyn, modSlot_self]
  rw [State.txGen] at h
  split at h <;> simp_all

theorem vnrTxBlock_completes :
    ∀ k pipe y s, s.chOn k.val = true → s.chBound k.val = true → s.carried k.val = true → s.txGen (s.rd VNR_CH_BIND.PAGE k.val) = some y →
    s.on VNR_STATUS.RNG_OK = true → s.beyond 0 k.val = false → y.seq < 2 ^ 48 → Completes (.vnrTxBlock k pipe 0) s
    (fun t => t.cnt (vnrCnt k.val 0) = (s.cnt (vnrCnt k.val 0) + 1) % 2 ^ 48 ∧ (t.txGen (s.rd VNR_CH_BIND.PAGE k.val)).map (·.seq) = some (y.seq + 1) ∧
      Output.vblock k.val (s.rd VNR_PAGE_STAT.TX_KP (s.rd VNR_CH_BIND.PAGE k.val)) (b2n (s.vnr.switching (s.rd VNR_CH_BIND.PAGE k.val))) 0 y.gen y.seq
        (nonceWords y.salt (s.rd VNR_PAGE_CFG.DIR (s.rd VNR_CH_BIND.PAGE k.val)) y.seq) ∈ s.sentSince t) := by
  intro k pipe y s hch hb hcar hgen hrng hbey hseq
  refine ⟨_, rfl, ?_⟩
  have h0 : (0 : Fin 3).val = 0 := rfl
  have hok : (!s.on VNR_STATUS.RNG_OK || s.beyond 0 k.val || decide (2 ^ 48 ≤ y.seq)) = false := by rw [hrng, hbey, decide_eq_false (not_le.2 hseq)]; rfl
  simp only [act_dyn, hch, hb, hcar, Bool.and_self, Bool.not_true, Bool.false_eq_true, if_false, h0, hgen, hok]
  simp only [(by decide : ¬0 = 2), (by decide : ¬0 = 1), false_and, if_false, act_seq_cons, act_seq_nil, act_emit, act_count]
  refine ⟨?_, ?_, mem_sentSince_of_suffix (xs := [_]) List.suffix_rfl ?_ List.mem_cons_self⟩
  · rw [cnt_mk, cnt_count_self, stepSeq, act_dyn, act_modSlot, cnt_mk]
  · rw [txGen_congr (s := (stepSeq (s.rd VNR_CH_BIND.PAGE k.val)).act s) (by rw [rd_mk, rd_count]) (by rw [State.count_vnr])]
    exact stepSeq_txGen hgen
  · rw [State.count_out, stepSeq, act_dyn, act_modSlot]
    rfl

theorem vnrRxBlock_delivers :
    ∀ k pipe kp g q mk y s, s.chOn k.val = true → s.chBound k.val = true → s.carried k.val = true → s.fillTrib k.val = false → s.on VNR_STATUS.RNG_OK = true → s.beyond 1 k.val = false →
    (s.vnr.slot (s.rd VNR_CH_BIND.PAGE k.val) (b2n kp)).named g.toNat = some y → Tab.get 0 y.rx k.val ≤ q.toNat →
    Completes (.vnrRxBlock k pipe kp false false g q false true mk false) s
    (fun t => t.cnt (vnrCnt k.val 1) = (s.cnt (vnrCnt k.val 1) + 1) % 2 ^ 48 ∧ t.out = .delivered k.val 1 :: s.out) := by
  intro k pipe kp g q mk y s hch hb hcar hfill hrng hbey hnamed hseq
  refine ⟨_, rfl, ?_⟩
  simp only [act_dyn, hch, hb, hcar, Bool.and_self, Bool.not_true, Bool.false_eq_true, if_false, hfill, hrng, hbey, Bool.or_self, act_seq_cons, act_seq_nil, act_whenE, hnamed,
    Bool.false_and, not_le.2 (Nat.lt_succ_of_le hseq), act_emit, act_count]
  simp only [cnt_mk, cnt_count_self, State.count_out, verified, act_seq_cons, act_seq_nil, act_modSlot]
  exact ⟨rfl, rfl⟩

theorem vnrRxBlock_repeats :
    ∀ k pipe kp g q mk y s, s.chOn k.val = true → s.chBound k.val = true → s.carried k.val = true → s.fillTrib k.val = false → s.on VNR_STATUS.RNG_OK = true → s.beyond 1 k.val = false →
    (s.vnr.slot (s.rd VNR_CH_BIND.PAGE k.val) (b2n kp)).named g.toNat = some y → q.toNat < Tab.get 0 y.rx k.val →
    Completes (.vnrRxBlock k pipe kp false false g q false true mk false) s
    (fun t => t.cnt (vnrCnt k.val 5) = (s.cnt (vnrCnt k.val 5) + 1) % 2 ^ 48 ∧ t.vnr = s.vnr ∧ t.out = .delivered k.val 0 :: s.out) := by
  intro k pipe kp g q mk y s hch hb hcar hfill hrng hbey hnamed hseq
  refine ⟨_, rfl, ?_⟩
  simp only [act_dyn, hch, hb, hcar, Bool.and_self, Bool.not_true, Bool.false_eq_true, if_false, hfill, hrng, hbey, Bool.or_self, act_seq_cons, act_seq_nil, act_whenE, hnamed,
    Bool.false_and, Nat.succ_le_of_lt hseq, if_true, act_emit, act_count, State.count_vnr, State.count_out, true_and]
  exact ⟨by rw [cnt_mk, cnt_count_self], trivial⟩

theorem vnrRxBlock_fails :
    ∀ k pipe kp g q mk y s, s.chOn k.val = true → s.chBound k.val = true → s.carried k.val = true → s.fillTrib k.val = false → s.on VNR_STATUS.RNG_OK = true → s.beyond 1 k.val = false →
    (s.vnr.slot (s.rd VNR_CH_BIND.PAGE k.val) (b2n kp)).named g.toNat = some y → Completes (.vnrRxBlock k pipe kp false false g q false false mk false) s
    (fun t => t.cnt (vnrCnt k.val (if mk then 3 else 2)) = (s.cnt (vnrCnt k.val (if mk then 3 else 2)) + 1) % 2 ^ 48 ∧ t.vnr = s.vnr ∧ t.out = .delivered k.val 0 :: s.out) := by
  intro k pipe kp g q mk y s hch hb hcar hfill hrng hbey hnamed
  refine ⟨_, rfl, ?_⟩
  simp only [act_dyn, hch, hb, hcar, Bool.and_self, Bool.not_true, Bool.false_eq_true, if_false, hfill, hrng, hbey, Bool.or_self, act_seq_cons, act_seq_nil, act_whenE, hnamed,
    Bool.false_and, Bool.not_false, Bool.true_and, if_true]
  cases mk
  · simp only [Bool.false_eq_true, if_false, act_seq_cons, act_seq_nil, act_emit, act_count, act_occur, State.occur_vnr, State.occur_out, State.count_vnr, State.count_out, and_self, and_true]
    exact cnt_count_self _ _ _
  · simp only [if_true, act_seq_cons, act_seq_nil, act_emit, act_count, State.count_vnr, State.count_out, and_self, and_true]
    exact cnt_count_self _ _ _

/-- Settles O21. -/
theorem veneerBlocks : Obligations.VeneerBlocks :=
  ⟨vnrTxBlock_completes, vnrRxBlock_delivers, vnrRxBlock_repeats, vnrRxBlock_fails⟩

end Sys2Proof.Machine

/-!
Scribe: its commands, its messages and its timers (R403 to R434).
-/
namespace Sys2Proof.Machine
open Sys2Proof

-- The kernel evaluates many small footprints: one thread serves them all.
set_option Elab.async false


/-! ### Commands -/

theorem setScrEn_rd {f : Fld} (v : Bool) (s : State) (hdark : f.clearOf 0 (Touch.goDark.flds ++ sharedFlds) = true) (hoff : f.clearOf 0 (Touch.scrOff.flds ++ sharedFlds) = true)
    (hfollow : f.clearOf 0 (Touch.scrFollow.flds ++ sharedFlds) = true) :
    ((setScrEn v).act s).rd f = (s.wr SCR_CTRL.EN 0 (b2n v)).rd f := by
  simp only [setScrEn, act_rules]
  cases v
  · simp only [Bool.false_eq_true, if_false, rd_ite, (keeps_scrOff _).rd hoff, (keeps_goDark _ _).rd hdark, ite_self]
  · simp only [if_true, (keeps_scrFollow _).rd hfollow]

theorem scrRestart_rd {f : Fld} (s : State) (hdark : f.clearOf 0 (Touch.goDark.flds ++ sharedFlds) = true) (hdrop : f.clearOf 0 (Touch.scrDrop.flds ++ sharedFlds) = true)
    (hfollow : f.clearOf 0 (Touch.scrFollow.flds ++ sharedFlds) = true) (hst : f.key 0 ≠ SCR_STATUS.STATE.key 0) : (scrRestart.act s).rd f = s.rd f := by
  have hscr : ∀ (u : State) g, (Upd.apply (.scr g) u).rd f = u.rd f := fun _ _ => rfl
  simp only [scrRestart, setScr, act_rules, rd_ite, rd_wr_ne _ _ _ _ _ _ hst, (keeps_scrDrop _).rd hdrop, (keeps_goDark _ _).rd hdark, (keeps_scrFollow _).rd hfollow, ite_self, hscr]

theorem scrCntClr_rd (f : Fld) (s : State) : (scrCntClr.act s).rd f = s.rd f := rfl

theorem keyPages_rd {f : Fld} (g : Nat → Nat) (s : State) (h : f.apart SCR_KEY_PAGES.ALL = true) :
    ((forE (List.range 3) fun i => put SCR_KEY_PAGES.ALL (g i) i).act s).rd f = s.rd f :=
  forE_same (fun u => u.rd f) (fun i _ u => (congrArg (·.rd f) (act_put _ _ _ u)).trans (rd_wr_ne _ _ _ _ _ _ (Fld.key_ne_of_apart h _ _))) s

theorem scrCfgSet_does :
    Does .scrCfgSet opScrCfgSet (fun p s => wordOk SCR_CFG.fields (nth p 1) = true ∧ wordOk SCR_TIMERS.fields (nth p 2) = true ∧ wordOk SCR_TIMERS2.fields (nth p 3) = true ∧
      wordOk [SCR_BACKOFF.ALL] (nth p 4) = true ∧ SCR_CFG.FREQ.raw (nth p 1) = s.rd SCR_CFG.FREQ ∧ s.scrEdge (bits (nth p 0) 0 1) (SCR_CFG.FREQ.raw (nth p 1)) = true)
    (fun _ p _ t => t.rd SCR_CFG.LEVEL = SCR_CFG.LEVEL.raw (nth p 1) ∧ t.rd SCR_TIMERS.REPLY_TO = SCR_TIMERS.REPLY_TO.raw (nth p 2) ∧
      t.rd SCR_MODES.ALL = SCR_MODES.ALL.raw (nth p 5) ∧ t.rd SCR_CTRL.EN = bits (nth p 0) 0 1 ∧ t.rd SCR_CTRL.NEG = SCR_CTRL.NEG.raw (nth p 0)) := by
  refine does_of_okE (fun _ _ _ => rfl) ?_
  rintro h p s ⟨hcfg, ht, ht2, hb, hfreq, hedge⟩
  rw [hfreq] at hedge
  refine ⟨_, by simp only [opScrCfgSet, hcfg, ht, ht2, hb, hfreq, hedge, bne_self_eq_false]; rfl, fun t k => ?_⟩
  have hen : b2n (bits (nth p 0) 0 1 == 1) % 2 ^ SCR_CTRL.EN.width = bits (nth p 0) 0 1 := by
    have hlt : bits (nth p 0) 0 1 < 2 := Nat.mod_lt _ (by decide)
    interval_cases bits (nth p 0) 0 1 <;> rfl
  simp (disch := decide) only [k.rd, act_rules, rd_ite, scrRestart_rd, scrCntClr_rd, ite_self, setScrEn_rd, rd_wr_ne, rd_wr_self, keyPages_rd, putWord_other]
  refine ⟨?_, ?_, ?_, hen, putWord_rd (.tail _ (.tail _ (.head _))) (by decide) (by decide) _ _ _⟩
  · exact putWord_rd (.tail _ (.head _)) (by decide) (by decide) _ _ _
  · exact putWord_rd (.tail _ (.head _)) (by decide) (by decide) _ _ _
  · exact putWord_rd (.head _) (by decide) (by decide) _ _ _

theorem scrTrust_does :
    Does .scrTrust opScrTrust (fun p _ => nth p 0 ≤ 16 ∧ p.length = 1 + 2 * nth p 0)
    (fun _ p _ t => t.scr.trust = (List.range (nth p 0)).map (fun i => nth p (1 + 2 * i) + 2 ^ 32 * nth p (2 + 2 * i))) := by
  refine does_of_okE (fun _ _ _ => rfl) ?_
  rintro h p s ⟨h16, hlen⟩
  refine ⟨_, by simp only [opScrTrust, if_neg (not_lt.2 h16), hlen, bne_self_eq_false]; rfl, fun t k => ?_⟩
  rw [k.scr]
  rfl

theorem scrStatus_answers :
    Answers .scrStatus opScrStatus (fun _ _ => True) (fun _ s => [s.word SCR_STATUS.fields] ++ w64 s.scrPeer ++ [s.rd SCR_AFC.ALL, s.scr.mode, s.scr.excl] ++ maskWords s.scr.pages) := by
  exact answers_of_body (fun _ _ _ => rfl) fun h p s _ => ⟨_, rfl, rfl⟩

theorem scrPeers_answers :
    Answers .scrPeers opScrPeers (fun _ _ => True) (fun _ s => ((s.scr.peers.filter (fun p => decide (s.tick < p.heardAt + ticks60))).take 16).flatMap (fun p =>
    w64 p.id ++ [p.level, b2n p.passed, (s.tick - p.heardAt) * 32 / 25000000])) := by
  exact answers_of_body (fun _ _ _ => rfl) fun h p s _ => ⟨_, rfl, rfl⟩

theorem scrOff_excl (s : State) : (scrOff.act s).scr.excl = 0 := rfl

theorem scrDrop_excl (s : State) : (scrDrop.act s).scr.excl = s.scr.excl := rfl

theorem goDark_scr (c : Nat) (s : State) : ((goDark c).act s).scr = { s.scr with beacon := false, lighting := false, litBy := false } := by
  rw [goDark, act_dyn]
  cases s.ltx.outRun <;> simp (disch := decide) only [act_rules, upd_rules, scr_rules, ite_self, (keeps_finish _ _ _ _).scr, (keeps_batchNow _ _).scr, (keeps_moveNow _ _).scr,
    (keeps_commitReturn _).scr, (keeps_applyPlan _ _).scr]

theorem goDark_lit (c : Nat) (s : State) : ((goDark c).act s).lit = false := by
  rw [goDark, act_dyn]
  cases s.ltx.outRun <;> simp (disch := decide) only [State.lit, act_rules, upd_rules, on_rules, on_mk, ite_self, (keeps_finish _ _ _ _).on, (keeps_batchNow _ _).on, (keeps_moveNow _ _).on,
    (keeps_commitReturn _).on, (keeps_applyPlan _ _).on] <;> rfl

theorem scrFollow_excl {s : State} (h : s.scr.excl = 0) : (scrFollow.act s).scr.excl = 0 := by
  rw [scrFollow, act_dyn]
  split <;> rw [act_whenE] <;> split
  · exact h
  · exact h
  · exact scrOff_excl s
  · exact h

theorem scrRestart_excl (s : State) : (scrRestart.act s).scr.excl = 0 := by
  have hdark : ∀ u : State, u.scr.excl = 0 → ((if (s.scr.beacon || s.scr.lighting || s.scr.litBy) = true then (goDark 1).act u else u)).scr.excl = 0 := by
    intro u hu
    split
    · rw [goDark_scr]; exact hu
    · exact hu
  simp only [scrRestart, setScr, act_rules]
  split
  · exact scrFollow_excl (hdark _ rfl)
  · exact (scrDrop_excl _).trans (hdark _ rfl)

theorem scrRestart_does :
    Does .scrRestart opScrRestart (fun _ _ => True) (fun _ _ _ t => t.scr.excl = 0) := by
  refine does_of_okE (fun _ _ _ => rfl) fun h p s _ => ⟨_, rfl, fun t k => ?_⟩
  rw [k.scr, scrRestart_excl]

/-- Settles O22. -/
theorem scribeCommands : Obligations.ScribeCommands :=
  ⟨scrCfgSet_does, scrTrust_does, scrStatus_answers, scrPeers_answers, scrRestart_does⟩

/-! ### Register writes -/

theorem scrCtrlRestart_completes :
    ∀ m s, s.takes m 9 → Completes (.scrCtrlRestart m) s (fun t => t.scr.excl = 0) := by
  intro m s ht
  refine completes_byMaster rfl ht fun t w => ?_
  rw [w.scr (by decide), scrRestart_excl]

theorem scrCntClr_completes :
    ∀ m s, s.takes m 9 → Completes (.scrCntClr m) s (fun t => ∀ k < 8, t.cnt (264 + k) = 0) := by
  intro m s ht
  refine completes_byMaster rfl ht fun t w k hk => ?_
  rw [w.cnt (by interval_cases k <;> decide)]
  exact cnt_run_clears (fun u hu => .inl (by obtain ⟨i, -, rfl⟩ := List.mem_map.1 hu; exact ⟨_, rfl⟩)) s (.inl (List.mem_map.2 ⟨k, List.mem_range.2 hk, rfl⟩))

theorem scrEnWrite_completes :
    ∀ m v s, s.takes m 9 → s.scrEdge (b2n v) (s.rd SCR_CFG.FREQ) = true → Completes (.scrEnWrite m v) s (fun t => t.rd SCR_CTRL.EN = b2n v) := by
  intro m v s ht hedge
  refine completes_byMaster rfl ht fun t w => ?_
  simp (disch := decide) only [w.rd, scrEnWrite, act_rules, hedge, Bool.not_true, Bool.false_eq_true, if_false, setScrEn_rd, rd_rules]
  cases v <;> rfl

/-! ### Packets -/

/-- What takes up a packet and discards it, or keeps it for its message. -/
theorem syncWordDetect_takes {k : ScrPkt} {s : State} (hst : s.scrState ≠ 0) (hpeak : 20 ≤ k.peak.toNat)
    (hsync : (bitsSet 64 (k.word.toNat ^^^ syncWord)).length ≤ s.rd SCR_CFG.SYNC_TOL) (hrx : s.scr.rx = none) (hafc : s.afcOk k.afc.toInt = true) {P : State → Prop}
    (hP : P ((takePacket k).act s)) : Completes (.syncWordDetect k) s P := by
  refine ⟨_, rfl, ?_⟩
  rw [act_dyn, if_neg (by omega), hrx]
  simpa only [act_whenE, hafc, if_true] using hP

theorem syncWordDetect_bad :
    ∀ k s, s.scrState ≠ 0 → 20 ≤ k.peak.toNat → (bitsSet 64 (k.word.toNat ^^^ syncWord)).length ≤ s.rd SCR_CFG.SYNC_TOL → s.scr.rx = none → s.afcOk k.afc.toInt = true →
    headerBad (packBits (whiten k.bits)) = true → Completes (.syncWordDetect k) s (fun t => t.rd SCR_STATUS.LEVEL = k.level.toNat % 2 ^ SCR_STATUS.LEVEL.width ∧
      t.cnt 265 = (s.cnt 265 + 1) % 2 ^ 48 ∧ t.scr.rx = none) := by
  intro k s hst hpeak hsync hrx hafc hbad
  refine syncWordDetect_takes hst hpeak hsync hrx hafc ?_
  simp (disch := decide) only [takePacket, act_rules, upd_rules, hbad, if_true, rd_rules, rd_mk, cnt_rules, cnt_mk, scr_rules]
  exact ⟨trivial, trivial, trivial⟩

theorem syncWordDetect_good :
    ∀ k bs s, s.scrState ≠ 0 → 20 ≤ k.peak.toNat → (bitsSet 64 (k.word.toNat ^^^ syncWord)).length ≤ s.rd SCR_CFG.SYNC_TOL → s.scr.rx = none → s.afcOk k.afc.toInt = true →
    bs = packBits (whiten k.bits) → headerBad bs = false → beField bs 4 8 ≠ s.fuse.devId → beField bs 12 8 = s.fuse.devId →
    Completes (.syncWordDetect k) s (fun t => t.rd SCR_STATUS.LEVEL = k.level.toNat % 2 ^ SCR_STATUS.LEVEL.width ∧
      (crc32c (bs.take (24 + beField bs 2 2)) ≠ beField bs (24 + beField bs 2 2) 4 → t.scr.rx = none ∧ t.cnt 266 = (s.cnt 266 + 1) % 2 ^ 48) ∧
      (crc32c (bs.take (24 + beField bs 2 2)) = beField bs (24 + beField bs 2 2) 4 → 28 + beField bs 2 2 ≤ bs.length → bit (beField bs 0 1) 3 = false →
        t.scr.rx = some k.level.toNat ∧ t.rd SCR_STATUS.RX_BUSY = 1)) := by
  intro k bs s hst hpeak hsync hrx hafc hbs hgood hsrc hdst
  refine syncWordDetect_takes hst hpeak hsync hrx hafc ?_
  rw [takePacket, act_dyn]
  simp (disch := decide) only [← hbs, act_rules, upd_rules, hgood, beq_eq_false_iff_ne.2 hsrc, hdst, bne_self_eq_false, Bool.false_and, Bool.false_eq_true, if_false, rd_rules, rd_mk, cnt_rules, cnt_mk, scr_rules]
  refine ⟨ite_self _, fun hcrc => ?_, fun hcrc hlen hprot => ?_⟩
  · rw [if_pos (by rw [bne_iff_ne.2 hcrc]; simp), if_pos (by rw [bne_iff_ne.2 hcrc]; simp)]
    exact ⟨rfl, rfl⟩
  · have hkept : ¬ (decide (bs.length < 28 + beField bs 2 2) || crc32c (bs.take (24 + beField bs 2 2)) != beField bs (24 + beField bs 2 2) 4 ||
        (bit (beField bs 0 1) 3 && !s.tagHolds (bs.take 24) ((bs.drop 24).take (beField bs 2 2)))) = true := by
      rw [decide_eq_false (not_lt.2 hlen), hcrc, hprot]
      simp
    rw [if_neg hkept, if_neg hkept]
    exact ⟨rfl, rfl⟩

/-! ### What sending leaves of the session -/

theorem sendScr_scr (typ : Nat) (body : List Nat) (s : State) : ((sendScr typ body).act s).scr = { s.scr with seq := (s.scr.seq + 1) % 65536 } := by
  simp (disch := decide) only [sendScr, act_rules, upd_rules, (keeps_sendPacket _ _ _ _).scr]

theorem sendWait_scr (typ want : Nat) (body : List Nat) (s : State) : ((sendWait typ want body).act s).scr =
    { s.scr with seq := (s.scr.seq + 1) % 65536, wait := some ⟨want, (s.scr.seq + 1) % 65536, typ, body, 0⟩ } := by
  simp only [sendWait, act_rules, upd_rules, sendScr_scr]

theorem sendReplyTo_scr (q typ : Nat) (body : List Nat) (s : State) : ((sendReplyTo q typ body).act s).scr =
    { s.scr with seq := (s.scr.seq + 1) % 65536, replies := Tab.set [] s.scr.replies q ([typ, (s.scr.seq + 1) % 65536] ++ body) } := by
  simp only [sendReplyTo, act_rules, upd_rules, sendScr_scr]

/-- A key exchange sent leaves all but the key, the nonce, the message's number and what is awaited. -/
theorem sendKex_scr (s : State) : ∃ e n q w, ((sendKex none).act s).scr = { s.scr with ephem := e, nonce := n, seq := q, wait := w } := by
  simp only [sendKex, act_rules, upd_rules, sendWait_scr]
  exact ⟨_, _, _, _, rfl⟩

/-! ### Messages from a peer -/

/-- The state as a message's own effect finds it: the packet is no longer being received, and it is counted. -/
def packetTaken (s : State) : State := (seqE [put SCR_STATUS.RX_BUSY 0, upd (.scr fun c => { c with rx := none }), count 264]).act s

theorem act_fromPeer {src q : Nat} {s : State} (h : s.hears src q) (body : Eff) : (fromPeer src q body).act s = body.act (packetTaken s) := by
  obtain ⟨hst, hban, hpeer, hrep⟩ := h
  rw [fromPeer, act_dyn, if_neg hst, hban]
  have hother : ¬ (s.scrPeer ≠ 0 ∧ s.scrPeer ≠ src) := fun h => hpeer.elim h.1 h.2
  simp only [Bool.false_eq_true, if_false, if_neg hother, hrep, ite_self, packetTaken, act_rules]

theorem packetTaken_rd (s : State) {f : Fld} {i : Nat} (h : f.key i ≠ SCR_STATUS.RX_BUSY.key 0) : (packetTaken s).rd f i = s.rd f i := by
  simp only [packetTaken, act_rules, upd_rules, rd_rules, rd_mk, rd_wr_ne _ _ _ _ _ _ h]

theorem packetTaken_scr (s : State) : (packetTaken s).scr = { s.scr with rx := none } := by
  simp only [packetTaken, act_rules, upd_rules, scr_rules]

theorem completes_fromPeer {c : Instr} {src q : Nat} {body : Eff} {s : State} {P : State → Prop} (hc : exec c s = perform (fromPeer src q body) s) (h : s.hears src q)
    (hP : P (body.act (packetTaken s))) : Completes c s P :=
  ⟨_, hc, (act_fromPeer h body).symm ▸ hP⟩

theorem packetTaken_fuse (s : State) : (packetTaken s).fuse = s.fuse := by
  simp only [packetTaken, act_rules, upd_rules, fuse_rules]

theorem packetTaken_sec (s : State) : (packetTaken s).sec = s.sec := by
  simp only [packetTaken, act_rules, upd_rules, sec_rules]

theorem packetTaken_ltx (s : State) : (packetTaken s).ltx = s.ltx := by
  simp only [packetTaken, act_rules, upd_rules, ltx_rules]

theorem packetTaken_scrState (s : State) : (packetTaken s).scrState = s.scrState := packetTaken_rd s (by decide)
theorem packetTaken_scrPeer (s : State) : (packetTaken s).scrPeer = s.scrPeer := packetTaken_rd s (by decide)
theorem packetTaken_on (s : State) {f : Fld} {i : Nat} (h : f.key i ≠ SCR_STATUS.RX_BUSY.key 0) : (packetTaken s).on f i = s.on f i := by
  rw [State.on, packetTaken_rd s h, State.on]
theorem packetTaken_leads (s : State) : (packetTaken s).leads = s.leads := by rw [State.leads, packetTaken_rd s (by decide), State.leads]

theorem packetTaken_scrPages (s : State) : (packetTaken s).scrPages = s.scrPages := by
  have hpages : ∀ g, (packetTaken s).rd SCR_KEY_PAGES.ALL g = s.rd SCR_KEY_PAGES.ALL g := fun g => packetTaken_rd s (Fld.key_ne_of_apart (by decide) _ _)
  simp (disch := decide) only [State.scrPages, State.heard, State.lifecycle, packetTaken_scr, packetTaken_scrPeer, packetTaken_on, packetTaken_fuse, hpages]
  rfl

theorem packetTaken_rejects (s : State) (c shape : Nat) : (packetTaken s).rejects c shape = s.rejects c shape := by
  simp (disch := decide) only [State.rejects, State.ownModes, State.is1600, State.sending, State.lit, packetTaken_scr, packetTaken_ltx, packetTaken_rd, packetTaken_on, packetTaken_fuse]
  rfl

theorem hello_completes :
    ∀ x s, s.hears x.src.toNat x.seq.toNat → s.scrState = 2 → x.chainOk = true → x.certId = x.src → Completes (.hello x) s
    (fun t => x.src.toNat ∈ t.scr.cands ∧ t.scr.window = true ∧ (t.heard x.src.toNat).map (·.passed) = some true) := by
  intro x s hh hst hchain hid
  refine completes_fromPeer rfl hh ?_
  have hpassed : (helloPeer x (packetTaken s)).passed = true := by simp [helloPeer, hchain, hid]
  simp only [act_dyn, act_seq_cons, act_seq_nil, act_upd, apply_scr, hpassed, Bool.not_true, Bool.false_eq_true, if_false, act_whenE, packetTaken_scrState, hst, BEq.rfl, if_true]
  simp only [enterWindow, act_rules, upd_rules, scr_rules, State.heard]
  have hid' : (helloPeer x (packetTaken s)).id = x.src.toNat := rfl
  rw [hid']
  refine ⟨?_, trivial, ?_⟩
  · generalize (if (packetTaken s).scr.window = true then (packetTaken s).scr.cands else []) = heard
    split
    · exact List.contains_iff_mem.1 ‹_›
    · exact List.mem_append_right _ (.head _)
  · rw [List.take_succ_cons, List.find?_cons_of_pos (by rw [hid', BEq.rfl]), Option.map_some, hpassed]

theorem kex_held :
    ∀ src seq pub n ok s, s.hears src.toNat seq.toNat → s.scrState = 2 → (s.heard src.toNat).map (·.passed) = some true → Completes (.kex src seq pub n ok) s
    (fun t => t.scr.heldKex.head? = some (src.toNat, ⟨seq.toNat, pub.map (·.toNat), n.map (·.toNat), ok⟩)) := by
  intro src seq pub n ok s hh hst hpass
  refine completes_fromPeer rfl hh ?_
  have hheard : ((packetTaken s).heard src.toNat).map (·.passed) = some true := by rw [State.heard, packetTaken_scr]; exact hpass
  simp only [act_dyn, packetTaken_scrState, hst, if_true, hheard, act_whenE, act_upd, apply_scr, Option.getD_some, List.head?_cons]

theorem propose_accepted :
    ∀ src seq mode shape s, s.hears src.toNat seq.toNat → s.scrState = 4 → s.leads = false → s.scrPeer = src.toNat → s.rejects mode.toNat shape.toNat = none →
    Completes (.propose src seq mode shape) s (fun t => t.scrState = 5 ∧ t.scr.mode = mode.toNat ∧ t.scr.shape = shape.toNat) := by
  intro src seq mode shape s hh hst hlead hpeer hrej
  refine completes_fromPeer rfl hh ?_
  simp only [act_dyn, packetTaken_scrState, hst, packetTaken_leads, hlead, packetTaken_scrPeer, hpeer, packetTaken_rejects, hrej, bne_self_eq_false, Bool.or_self, Bool.false_eq_true, if_false]
  have hlead' : (packetTaken s).rd SCR_STATUS.ROLE ≠ 1 := beq_eq_false_iff_ne.1 ((packetTaken_leads s).trans hlead)
  simp (disch := decide) only [enterKeying, setScr, stopWait, State.scrState, State.leads, act_rules, upd_rules, rd_rules, rd_mk, (keeps_sendReplyTo _ _ _ _).rd,
    beq_eq_false_iff_ne.2 hlead', Bool.false_eq_true, if_false, scr_rules, sendReplyTo_scr]
  exact ⟨rfl, trivial, trivial⟩

theorem propose_rejected :
    ∀ src seq mode shape r s, s.hears src.toNat seq.toNat → s.scrState = 4 → s.leads = false → s.scrPeer = src.toNat → s.rejects mode.toNat shape.toNat = some r →
    Completes (.propose src seq mode shape) s (fun t => t.scrState = 8 ∧ t.scr.wait = none) := by
  intro src seq mode shape r s hh hst hlead hpeer hrej
  refine completes_fromPeer rfl hh ?_
  simp only [act_dyn, packetTaken_scrState, hst, packetTaken_leads, hlead, packetTaken_scrPeer, hpeer, packetTaken_rejects, hrej, bne_self_eq_false, Bool.or_self, Bool.false_eq_true, if_false]
  simp (disch := decide) only [noCommon, holdScr, setScr, stopWait, State.scrState, act_rules, upd_rules, rd_rules, rd_mk, scr_rules]
  trivial

theorem packetTaken_awaits (s : State) (typ q : Nat) : (packetTaken s).awaits typ q = s.awaits typ q := by rw [State.awaits, packetTaken_scr, State.awaits]

theorem enterKeying_state (s : State) : (enterKeying.act s).scrState = 5 := by
  simp (disch := decide) only [enterKeying, setScr, stopWait, State.scrState, act_rules, upd_rules, rd_rules, rd_mk, (keeps_sendKeys _ _).rd, ite_self]
  rfl

theorem accept_completes :
    ∀ src seq q s, s.hears src.toNat seq.toNat → s.scrState = 4 → s.awaits 4 q.toNat = true → Completes (.accept src seq q) s (fun t => t.scrState = 5) := by
  intro src seq q s hh hst haw
  refine completes_fromPeer rfl hh ?_
  simp only [act_dyn, packetTaken_scrState, hst, packetTaken_awaits, haw, act_whenE, BEq.rfl, Bool.and_self, if_true]
  exact enterKeying_state _

theorem reject_completes :
    ∀ src seq q r s, s.hears src.toNat seq.toNat → s.scrState = 4 → s.awaits 4 q.toNat = true → Completes (.reject src seq q r) s (fun t => t.scrState = 8 ∧ t.scr.wait = none) := by
  intro src seq q r s hh hst haw
  refine completes_fromPeer rfl hh ?_
  simp only [act_dyn, packetTaken_scrState, hst, packetTaken_awaits, haw, act_whenE, BEq.rfl, Bool.and_self, if_true]
  simp (disch := decide) only [holdScr, setScr, stopWait, State.scrState, act_rules, upd_rules, rd_rules, rd_mk, scr_rules]
  trivial

theorem packetTaken_laterKeys (s : State) : (packetTaken s).laterKeys = s.laterKeys := by
  rw [State.laterKeys, packetTaken_on s (by decide), packetTaken_scr, State.laterKeys]

theorem agreed_rules (ps : List Nat) (s : State) : ((agreed ps).act s).scr = { s.scr with pages := ps } ∧ ((agreed ps).act s).scrState = s.scrState := by
  simp (disch := decide) only [agreed, State.scrState, act_rules, upd_rules, scr_rules, rd_rules, rd_mk, and_self]

theorem keys_completes :
    ∀ src seq ks s, s.hears src.toNat seq.toNat → s.scrState = 5 → s.leads = false → s.scrPeer = src.toNat → s.on SCR_CTRL.NEG = true → s.scr.rot = none →
    Completes (.keys src seq ks) s (fun t => t.scrState = 5 ∧ t.scr.pages = (s.takeable ks).map (fun k => k.page.toNat)) := by
  intro src seq ks s hh hst hlead hpeer hneg hrot
  refine completes_fromPeer rfl hh ?_
  have htake : (packetTaken s).takeable ks = s.takeable ks := by rw [State.takeable, packetTaken_scrPages, State.takeable]
  have hneg' : (packetTaken s).on SCR_CTRL.NEG = true := (packetTaken_on s (by decide)).trans hneg
  simp only [act_dyn, packetTaken_scrState, hst, packetTaken_leads, hlead, packetTaken_scrPeer, hpeer, htake, bne_self_eq_false, Bool.or_self, Bool.false_and, Bool.false_eq_true, if_false, hneg', act_seq_cons, act_seq_nil, act_whenE, Bool.not_true,
    if_neg (by decide : ¬ (5 : Nat) = 7)]
  refine ⟨?_, congrArg ScrSt.pages (agreed_rules _ _).1⟩
  rw [(agreed_rules _ _).2]
  simp (disch := decide) only [State.scrState, (keeps_scrSwitch _ _).rd, (keeps_sendReplyTo _ _ _ _).rd, act_rules, upd_rules, rd_mk]
  rw [forE_same (fun u => u.rd SCR_STATUS.STATE) fun _ _ u => (keeps_scrPlace _ _ _ _ u).rd (by decide)]
  exact (packetTaken_scrState s).trans hst

theorem keysAck_completes :
    ∀ src seq q ps s, s.hears src.toNat seq.toNat → s.scrState = 5 → s.leads = true → s.awaits 7 q.toNat = true → s.on SCR_CTRL.NEG = true → s.scr.rot = none →
    Completes (.keysAck src seq q ps) s (fun t => t.scr.goDue = true ∧ t.scr.pages = (s.scr.keysOut.map (·.1)).filter (ps.map (·.toNat)).contains) := by
  intro src seq q ps s hh hst hlead haw hneg hrot
  refine completes_fromPeer rfl hh ?_
  have hneg' : (packetTaken s).on SCR_CTRL.NEG = true := (packetTaken_on s (by decide)).trans hneg
  simp only [act_dyn, packetTaken_scrState, hst, packetTaken_leads, hlead, packetTaken_awaits, haw, hneg', packetTaken_scr, Bool.not_true,
    Bool.or_self, Bool.false_eq_true, if_false, if_true, if_neg (by decide : ¬ (5 : Nat) = 7), act_seq_cons, act_seq_nil, act_upd, apply_scr, sendScr_scr, (agreed_rules _ _).1]
  exact ⟨trivial, trivial⟩

/-- The lines' states of a cold start stand apart from Scribe's. -/
theorem restartNow_cold_scrState (s : State) : ((restartNow 0).act s).rd SCR_STATUS.STATE = s.rd SCR_STATUS.STATE := by
  have hline : ∀ k < 16, SCR_STATUS.STATE.key 0 ≠ LRX_SC_STAT.STATE.key k := by decide
  rw [restartNow, act_dyn]
  simp (disch := decide) only [act_rules, upd_rules, rd_rules, (keeps_syncDD _).rd]
  rw [forE_same (fun u => u.rd SCR_STATUS.STATE) fun k hk u => by
    simp (disch := decide) only [act_rules, (keeps_modSc _ _ _).rd, rd_wr_ne _ _ _ _ _ _ (hline k (List.mem_range.1 hk))]]
  simp (disch := decide) only [rd_mk, rd_rules, (keeps_dropLocks _).rd, (keeps_noQuality _).rd]

theorem goLive_state (s : State) : (goLive.act s).scrState = 6 := by
  have hlight : ∀ u : State, ((whenE u.canLight (seqE [startBring none, upd (.scr fun c => { c with litBy := true })])).act u).rd SCR_STATUS.STATE = u.rd SCR_STATUS.STATE := fun u => by
    simp (disch := decide) only [act_rules, upd_rules, rd_ite, rd_mk, (keeps_startBring _ _).rd, ite_self]
  have hrx : ∀ u : State, ((whenE (!u.rxRefused) (setRxEn true)).act u).rd SCR_STATUS.STATE = u.rd SCR_STATUS.STATE := fun u => by
    simp (disch := decide) only [setRxEn, tryStart, if_true, act_rules, rd_ite, restartNow_cold_scrState, (keeps_syncLosf _).rd, rd_wr_ne, ite_self]
  rw [State.scrState, goLive, act_dyn]
  simp only [act_seq_cons, act_seq_nil]
  rw [act_dyn, hrx, act_dyn, hlight]
  simp (disch := decide) only [act_rules, upd_rules, rd_rules, rd_mk, setScr, stopWait]
  rfl

theorem go_completes :
    ∀ src seq q s, s.hears src.toNat seq.toNat → s.scrState = 5 → s.leads = false → s.scrPeer = src.toNat → s.scr.ackSeq = q.toNat → s.on SCR_CTRL.NEG = true →
    Completes (.go src seq q) s (fun t => t.scrState = 6) := by
  intro src seq q s hh hst hlead hpeer hack hneg
  refine completes_fromPeer rfl hh ?_
  have hneg' : (packetTaken s).on SCR_CTRL.NEG = true := (packetTaken_on s (by decide)).trans hneg
  simp only [act_dyn, packetTaken_scrState, hst, packetTaken_leads, hlead, packetTaken_scrPeer, hpeer, hneg', packetTaken_scr, hack, act_whenE, BEq.rfl, Bool.not_false, Bool.and_self, if_true]
  exact goLive_state _

theorem reneg_completes :
    ∀ src seq mode s, s.hears src.toNat seq.toNat → s.scrState = 7 → s.leads = false → s.scrPeer = src.toNat → Completes (.reneg src seq mode) s
    (fun t => t.scrState = 4 ∧ t.scr.excl = setBit s.scr.excl mode.toNat ∧ t.lit = false) := by
  intro src seq mode s hh hst hlead hpeer
  refine completes_fromPeer rfl hh ?_
  have hlead' : (packetTaken s).rd SCR_STATUS.ROLE ≠ 1 := beq_eq_false_iff_ne.1 ((packetTaken_leads s).trans hlead)
  simp only [act_dyn, packetTaken_scrState, hst, packetTaken_leads, hlead, packetTaken_scrPeer, hpeer, act_whenE, BEq.rfl, Bool.not_false, Bool.and_self, if_true]
  simp (disch := decide) only [renegotiate, enterPropose, setScr, stopWait, State.scrState, State.leads, act_rules, upd_rules, rd_rules, rd_mk, scr_rules, (keeps_goDark _ _).rd,
    beq_eq_false_iff_ne.2 hlead', Bool.false_eq_true, if_false, goDark_scr, packetTaken_scr]
  refine ⟨rfl, trivial, ?_⟩
  have hlit := goDark_lit 1 (packetTaken s)
  simp (disch := decide) only [State.lit, on_rules, on_mk]
  exact hlit

theorem rotate_completes :
    ∀ src seq page s, s.hears src.toNat seq.toNat → s.scrState = 7 → s.scrPeer = src.toNat → s.scrPages.contains page.toNat = true → s.scr.rot = none →
    Completes (.rotate src seq page) s (fun t => t.scr.rot = some page.toNat) := by
  intro src seq page s hh hst hpeer hpage hrot
  refine completes_fromPeer rfl hh ?_
  simp only [act_dyn, packetTaken_scrState, hst, packetTaken_scrPeer, hpeer, packetTaken_scrPages, hpage, packetTaken_scr, hrot, act_whenE, BEq.rfl, Option.isNone_none, Bool.and_self, if_true, startRotation, act_seq_cons, act_seq_nil]
  obtain ⟨e, n, w, v, hscr⟩ := sendKex_scr ((upd (.scr fun c => { c with rot := some page.toNat, kexIn := false, rotAt := Tab.set none c.rotAt page.toNat (some (packetTaken s).tick) })).act (packetTaken s))
  rw [hscr]
  rfl

/-- Settles O23. -/
theorem scribeMessages : Obligations.ScribeMessages :=
  ⟨scrCtrlRestart_completes, scrCntClr_completes, scrEnWrite_completes, syncWordDetect_bad, syncWordDetect_good, hello_completes, kex_held,
    propose_accepted, propose_rejected, accept_completes, reject_completes, keys_completes, keysAck_completes, go_completes, reneg_completes,
    rotate_completes⟩
/-! ### Timers -/

theorem goSent_completes :
    ∀ s, s.scr.goDue = true → Completes .goSent s (fun t => t.scrState = 6) := by
  intro s hdue
  refine ⟨_, rfl, ?_⟩
  simp only [act_dyn, act_whenE, hdue, if_true]
  exact goLive_state s

theorem holdOffEnd_completes :
    ∀ s, s.dev ≠ 0 → Completes .holdOffEnd s (fun t => t.scr.free = true ∧ (s.scrState = 1 → t.scrState = 2)) := by
  intro s hdev
  refine ⟨_, rfl, ?_⟩
  have hcond : (s.dev != 0) = true := bne_iff_ne.2 hdev
  simp only [act_dyn, act_whenE, hcond, if_true, act_seq_cons, act_seq_nil, act_upd, apply_scr, setScr, act_put]
  refine ⟨by split <;> rfl, fun h1 => ?_⟩
  rw [h1]
  exact rd_wr_self _ _ _ _

theorem helloTimer_completes :
    ∀ s, s.scrState = 2 → s.scrSends = true → Completes .helloTimer s (fun t => t.cnt 271 = (s.cnt 271 + 1) % 2 ^ 48 ∧ t.scr.seq = (s.scr.seq + 1) % 65536) := by
  intro s hst hsends
  refine ⟨_, rfl, ?_⟩
  simp only [act_dyn, act_whenE, hst, BEq.rfl, Bool.true_or, if_true]
  refine ⟨?_, congrArg ScrSt.seq (sendScr_scr _ _ _)⟩
  have hsends' : ((upd (.scr fun c => { c with seq := (c.seq + 1) % 65536 })).act s).scrSends = true := by rwa [act_upd, apply_scr]
  rw [sendScr, act_dyn, act_seq_cons, act_seq_cons, act_seq_nil, sendPacket, act_dyn, act_whenE, hsends', if_pos rfl]
  simp only [act_rules, upd_rules, cnt_mk, cnt_rules]

theorem beaconLight_completes :
    ∀ s, s.scrState = 2 → s.scrSends = true → s.powered 1 = true → s.ltx.txLight = true → s.calOk [4, 5, 6] = true → s.lit = false → s.ltx.bring = 0 →
    Completes .beaconLight s (fun t => t.scr.lighting = true ∧ t.ltx.bring = 1) := by
  intro s hst hsends hpow hlight hcal hlit hbring
  refine ⟨_, rfl, ?_⟩
  have hpresent : s.txPresent = true := by rw [State.txPresent, hlight]; rfl
  simp only [act_dyn, hst, hsends, hpow, hpresent, hcal, hlit, hbring, act_whenE, BEq.rfl, Bool.or_true, Bool.not_false, Bool.and_self, if_true, startSweep, act_rules, upd_rules, scr_rules, ltx_rules]
  trivial

theorem selectionWindowEnd_completes :
    ∀ s c, s.scr.window = true → s.scrState = 2 → s.lifecycle ≠ 3 → s.on SCR_CTRL.PIN = false → s.scr.cands = [c] → c < 2 ^ 64 → s.scr.heldKex = [] →
    Completes .selectionWindowEnd s (fun t => t.scrState = 3 ∧ t.scrPeer = c ∧ t.leads = decide (c < s.fuse.devId) ∧ t.scr.window = false) := by
  intro s c hwin hst hlife hpin hcands hc hheld
  refine ⟨_, rfl, ?_⟩
  have hlife' : (s.lifecycle == 3) = false := beq_eq_false_iff_ne.2 hlife
  simp only [act_dyn, hwin, hst, hlife', hpin, hcands, Bool.not_true, bne_self_eq_false, Bool.or_self, Bool.false_eq_true, if_false, act_seq_cons, act_seq_nil]
  rw [selectPeer, act_dyn]
  simp only [act_rules, upd_rules, hheld, scr_rules, List.find?_nil, setScr]
  obtain ⟨e, n, q, w, hscr⟩ := sendKex_scr _
  refine ⟨?_, ?_, ?_, congrArg ScrSt.window hscr⟩
  · simp (disch := decide) only [State.scrState, (keeps_sendKex _ _).rd, rd_mk, rd_rules]
    rfl
  · simp (disch := decide) only [State.scrPeer, (keeps_sendKex _ _).rd, rd_mk, rd_rules]
    exact Nat.mod_eq_of_lt hc
  · simp (disch := decide) only [State.leads, (keeps_sendKex _ _).rd, rd_mk, rd_rules]
    split <;> simp [*, SCR_STATUS.ROLE]

theorem scrReplyTimeout_resends :
    ∀ s w, s.scr.wait = some w → w.tries < s.rd SCR_TIMERS.RETRIES → Completes .scrReplyTimeout s (fun t => t.scr.wait = some { w with tries := w.tries + 1 } ∧ t.scr.seq = s.scr.seq) := by
  intro s w hw htries
  refine ⟨_, rfl, ?_⟩
  rw [act_dyn, hw]
  simp (disch := decide) only [if_pos htries, act_rules, upd_rules, (keeps_sendPacket _ _ _ _).scr]
  trivial

theorem holdScr_rules (s : State) : (holdScr.act s).scr.wait = none ∧ (holdScr.act s).scrState = 8 := by
  simp only [holdScr, setScr, stopWait, State.scrState, act_rules, upd_rules, scr_rules, rd_rules, rd_mk]
  trivial

theorem scrTimeout_rules (s : State) : (scrTimeout.act s).scr.wait = none ∧ (scrTimeout.act s).scrState = 8 := by
  rw [scrTimeout, act_dyn, act_seq_cons, act_seq_cons, act_seq_cons, act_seq_nil]
  exact holdScr_rules _

theorem scrReplyTimeout_gives_up :
    ∀ s w, s.scr.wait = some w → s.rd SCR_TIMERS.RETRIES ≤ w.tries → Completes .scrReplyTimeout s (fun t => t.scr.wait = none ∧ t.scrState = 8) := by
  intro s w hw htries
  refine ⟨_, rfl, ?_⟩
  rw [act_dyn, hw]
  simp only [if_neg (not_lt.2 htries)]
  exact scrTimeout_rules s

theorem negTimeout_completes :
    ∀ s, 3 ≤ s.scrState → s.scrState ≤ 5 → Completes .negTimeout s (fun t => t.scr.wait = none ∧ t.scrState = 8) := by
  intro s h3 h5
  refine ⟨_, rfl, ?_⟩
  simp only [act_dyn, act_whenE, h3, h5, and_self, decide_true, if_true, act_seq_cons, act_seq_nil]
  exact scrTimeout_rules s

theorem backToBeacon_drops (s : State) : ((backToBeacon false).act s).scrState = 2 ∧ ((backToBeacon false).act s).scrPeer = 0 := by
  simp (disch := decide) only [backToBeacon, scrDrop, setScr, stopWait, State.scrState, State.scrPeer, act_rules, upd_rules, rd_rules, rd_mk, Bool.not_false, if_true]
  trivial

theorem scrHoldEnd_completes :
    ∀ s, s.scrState = 8 → s.sending = false → Completes .scrHoldEnd s (fun t => t.scrState = 2 ∧ t.scrPeer = 0) := by
  intro s hst hsend
  refine ⟨_, rfl, ?_⟩
  simp only [act_dyn, hst, hsend, bne_self_eq_false, Bool.false_and, Bool.false_eq_true, if_false]
  exact backToBeacon_drops s

theorem scrLive_completes :
    ∀ s, s.scrState = 6 → s.lineUp = true → Completes .scrLive s (fun t => t.scrState = 7) := by
  intro s hst hup
  refine ⟨_, rfl, ?_⟩
  simp only [act_dyn, act_whenE, hst, hup, BEq.rfl, Bool.and_self, if_true]
  simp (disch := decide) only [enterLive, setScr, stopWait, State.scrState, act_rules, upd_rules, rd_rules, rd_mk]
  rfl

theorem goLiveTimeout_completes :
    ∀ s, s.scrState = 6 → Completes .goLiveTimeout s (fun t => t.scrState = 2 ∧ t.scr.excl = setBit s.scr.excl s.scr.mode ∧ t.lit = false) := by
  intro s hst
  refine ⟨_, rfl, ?_⟩
  simp only [act_dyn, act_whenE, hst, BEq.rfl, if_true]
  have hlit : ((goDark 1).act s).on LTX_STATUS.TX_ON = false := goDark_lit 1 s
  simp (disch := decide) only [backToBeacon, setScr, stopWait, State.scrState, State.lit, act_rules, upd_rules, rd_rules, rd_mk, on_rules, on_mk, scr_rules, goDark_scr, hlit, Bool.not_true, Bool.false_eq_true, if_false]
  trivial

theorem relockTimeout_completes :
    ∀ s, s.scrState = 7 → s.rxLocked = false → s.on SCR_CTRL.AUTO_RENEG = false → Completes .relockTimeout s (fun t =>
    t.scrState = 7 ∧ t.cnt (1024 + EV.SCR_FALLBACK.x) = (s.cnt (1024 + EV.SCR_FALLBACK.x) + 1) % 2 ^ 48) := by
  intro s hst hlock hauto
  refine ⟨_, rfl, ?_⟩
  simp (disch := decide) only [act_dyn, hst, hlock, hauto, bne_self_eq_false, Bool.false_and, Bool.or_self, Bool.false_eq_true, if_false, Bool.not_false, if_true, act_raise, cnt_raise_self]
  exact ⟨(rd_raise _ _ _ _ _ (by decide)).trans hst, trivial⟩

theorem peerHelloLost_completes :
    ∀ s, s.scrState = 7 → Completes .peerHelloLost s (fun t => t.scrState = 2 ∧ t.scrPeer = 0) := by
  intro s hst
  refine ⟨_, rfl, ?_⟩
  simp only [act_dyn, act_whenE, hst, BEq.rfl, if_true]
  exact backToBeacon_drops s

theorem keyRotationTimer_completes :
    ∀ p s, s.rd VNR_PAGE_ROT.PERIOD p.val ≠ 0 → s.rotatedNow p.val = false → s.scrState ≠ 7 → Completes (.keyRotationTimer p) s (fun t =>
    t.cnt (1024 + EV.KEY_AGE.x) = (s.cnt (1024 + EV.KEY_AGE.x) + 1) % 2 ^ 48 ∧ t.vnr = s.vnr) := by
  intro p s hper hrot hst
  refine ⟨_, rfl, ?_⟩
  have hst' : (s.scrState == 7) = false := beq_eq_false_iff_ne.2 hst
  simp only [act_dyn, hper, hrot, Bool.false_eq_true, or_self, if_false, hst', Bool.false_and, act_raise, cnt_raise_self, vnr_rules]
  trivial

/-- Settles O24. -/
theorem scribeTimers : Obligations.ScribeTimers :=
  ⟨goSent_completes, holdOffEnd_completes, helloTimer_completes, beaconLight_completes, selectionWindowEnd_completes, scrReplyTimeout_resends,
    scrReplyTimeout_gives_up, negTimeout_completes, scrHoldEnd_completes, scrLive_completes, goLiveTimeout_completes, relockTimeout_completes,
    peerHelloLost_completes, keyRotationTimer_completes⟩

end Sys2Proof.Machine

/-!
The timing references: their commands, their monitors and the DPLL (R435 to R468).
-/
namespace Sys2Proof.Machine
open Sys2Proof

-- The kernel evaluates many small footprints: one thread serves them all.
set_option Elab.async false


/-! ### Bits set and cleared -/

theorem bit_setBit_self (v k : Nat) : bit (setBit v k) k = true := by
  rw [setBit]
  split
  · assumption
  · rename_i h
    rw [bit, beq_iff_eq] at h
    rw [bit, beq_iff_eq, Nat.add_div_right _ (Nat.two_pow_pos k)]
    omega

theorem bit_clrBit_self (v k : Nat) : bit (clrBit v k) k = false := by
  rw [clrBit]
  split
  · rename_i h
    rw [bit, beq_iff_eq] at h
    have hdiv : (v - 2 ^ k) / 2 ^ k = v / 2 ^ k - 1 := by simpa using Nat.sub_mul_div v (2 ^ k) 1
    rw [bit, beq_eq_false_iff_ne, hdiv]
    omega
  · exact Bool.eq_false_iff.2 ‹_›

theorem bit_mod {w k : Nat} (h : k < w) (v : Nat) : bit (v % 2 ^ w) k = bit v k := by
  simp only [bit]
  rw [← Nat.toNat_testBit, ← Nat.toNat_testBit, Nat.testBit_mod_two_pow]
  simp [h]

theorem bit_mod_of_not {k : Nat} (v w : Nat) (h : bit v k = false) : bit (v % 2 ^ w) k = false := by
  simp only [bit] at *
  rw [← Nat.toNat_testBit] at *
  rw [Nat.testBit_mod_two_pow]
  revert h
  cases v.testBit k <;> simp

/-! ### What an evaluation leaves -/

/-- A candidate's field that an evaluation does not touch, at each candidate. -/
def Fld.keptByEval (f : Fld) : Bool := (List.range 12).all fun c => f.clearOf c (Touch.refEval.flds ++ sharedFlds)

theorem refEval_cand {f : Fld} {c : Nat} (h : f.keptByEval = true) (hc : c < 12) (s : State) : (refEval.act s).rd f c = s.rd f c :=
  (keeps_refEval s).rd (List.all_eq_true.1 h c (List.mem_range.2 hc))

theorem refEval_refQual (c : Nat) (s : State) : (refEval.act s).refQual c = s.refQual c := by
  rw [State.refQual, (keeps_refEval s).rd (by decide), State.refQual]

theorem enterClamp_ref (free : Bool) (s : State) : ((enterClamp free).act s).ref = { s.ref with clampAt := s.tick, lockedFor := 0 } := by
  cases free <;> simp only [enterClamp, Bool.false_eq_true, if_false, if_true, act_rules, upd_rules, ref_rules]

/-- An evaluation leaves of the references' own part all but the time in CLAMP and the time LOCKED, which it may end. -/
theorem refEval_ref (s : State) : ∃ at', ∃ l, (l = s.ref.lockedFor ∨ l = 0) ∧ (refEval.act s).ref = { s.ref with clampAt := at', lockedFor := l } := by
  have hsel : ∀ u : State, ∃ at', ∃ l, (l = u.ref.lockedFor ∨ l = 0) ∧ (selEval.act u).ref = { u.ref with clampAt := at', lockedFor := l } := by
    intro u
    have hsame : ∃ at', ∃ l, (l = u.ref.lockedFor ∨ l = 0) ∧ u.ref = { u.ref with clampAt := at', lockedFor := l } := ⟨_, _, .inl rfl, rfl⟩
    have hclamp : ∀ free, ∃ at', ∃ l, (l = u.ref.lockedFor ∨ l = 0) ∧ ((enterClamp free).act u).ref = { u.ref with clampAt := at', lockedFor := l } :=
      fun free => ⟨_, _, .inr rfl, enterClamp_ref free u⟩
    rw [selEval, act_dyn]
    split
    · exact hsame
    · split
      · rw [act_whenE]
        split
        · rw [(keeps_startSwitch _ _).ref (by decide)]
          exact hsame
        · exact hsame
      · exact hclamp _
      · split
        · exact hclamp _
        · rw [act_whenE]
          split
          · exact hclamp _
          · exact hsame
  obtain ⟨at', l, hl, h⟩ := hsel (syncQl.act (failQl.act s))
  rw [(keeps_syncQl _).ref (by decide), (keeps_failQl _).ref (by decide)] at h hl
  refine ⟨at', l, hl, ?_⟩
  simp (disch := decide) only [refEval, act_rules, (keeps_syncStates _).ref, (keeps_syncOut _).ref, h]

/-! ### Commands -/

/-- A field of the `k`-th of a row of registers written one after another, where the others stand apart. -/
theorem forE_putWord_rd {regs : List (List Fld)} {n k : Nat} {f : Fld} (p : List Nat) (s : State) (hk : k < n) (hf : f ∈ regs.getD k []) (hw : f.writable = true)
    (hd : Fld.distinct (regs.getD k []) = true) (ho : (List.range n).all (fun j => j == k || f.apartOf (regs.getD j [])) = true) :
    ((forE (List.range n) fun k => putWord (regs.getD k []) (nth p k)).act s).rd f = f.raw (nth p k) := by
  refine forE_once (fun u => u.rd f) (g := fun _ => f.raw (nth p k)) List.nodup_range (List.mem_range.2 hk) (fun u => putWord_rd hf hw hd _ _ u) (fun j hj hne u => ?_) s
  have h := List.all_eq_true.1 ho j hj
  rw [beq_eq_false_iff_ne.2 hne, Bool.false_or] at h
  exact putWord_apart h _ _ _ _

theorem refCfg_does :
    Does .refCfg opRefCfg (fun p _ => (∀ k < 9, wordOk (refCfgRegs.getD k []) (nth p k) = true) ∧ bwOk (REF_DPLL_CFG.BW.raw (nth p 1)) (REF_DPLL_CFG.ACQ_BW.raw (nth p 1)) = true ∧
      limitsOk (REF_MON_CFG.ACCEPT.raw (nth p 2)) (REF_MON_CFG.REJECT.raw (nth p 2)) = true)
    (fun _ p _ t => t.rd REF_CTRL.SEL_MODE = REF_CTRL.SEL_MODE.raw (nth p 0) ∧ t.rd REF_MON_CFG.ACCEPT = REF_MON_CFG.ACCEPT.raw (nth p 2) ∧
      t.rd REF_TIMERS.WTR = REF_TIMERS.WTR.raw (nth p 3) ∧ t.rd REF_CLAMP_MAX.ALL = REF_CLAMP_MAX.ALL.raw (nth p 5)) := by
  refine does_of_okE (fun _ _ _ => rfl) ?_
  rintro h p s ⟨hw, hbw, hlim⟩
  have hall : (List.range 9).all (fun k => wordOk (refCfgRegs.getD k []) (nth p k)) = true := List.all_eq_true.2 fun k hk => hw k (List.mem_range.1 hk)
  refine ⟨_, by simp only [opRefCfg, hall, hbw, hlim]; rfl, fun t k => ?_⟩
  simp (disch := decide) only [k.rd, act_seq_cons, act_seq_nil, (keeps_refEval _).rd]
  refine ⟨forE_putWord_rd p s (k := 0) (by decide) ?_ (by decide) (by decide) (by decide), forE_putWord_rd p s (k := 2) (by decide) ?_ (by decide) (by decide) (by decide),
    forE_putWord_rd p s (k := 3) (by decide) ?_ (by decide) (by decide) (by decide), forE_putWord_rd p s (k := 5) (by decide) ?_ (by decide) (by decide) (by decide)⟩
  all_goals simp [refCfgRegs, REF_CTRL.fields, REF_MON_CFG.fields, REF_TIMERS.fields]

theorem act_startQual (c : Nat) (s : State) : (startQual c).act s = s.wr REF_CAND_STAT.QUAL_LEFT c (if bit s.ref.again c then s.rd REF_TIMERS.WTR else s.rd REF_TIMERS.QUAL) := rfl

theorem act_clearQual (c : Nat) (s : State) : (clearQual c).act s = s.wr REF_STATUS.QUALIFIED 0 (clrBit (s.rd REF_STATUS.QUALIFIED) c) := rfl

theorem clearQual_refQual (c : Nat) (s : State) : ((clearQual c).act s).refQual c = false := by
  rw [act_clearQual, State.refQual, rd_wr_self]
  exact bit_mod_of_not _ _ (bit_clrBit_self _ _)

theorem requalify_refQual (c : Nat) (s : State) : ((requalify c).act s).refQual c = false := by
  have h := clearQual_refQual c s
  rw [State.refQual] at h
  simp only [requalify, act_seq_cons, act_seq_nil, refEval_refQual]
  simp (disch := decide) only [State.refQual, act_startQual, act_whenE, act_put, rd_any_rules, ite_self, h]

theorem requalify_cand {f : Fld} {c j : Nat} (h : f.keptByEval = true) (hj : j < 12) (hq : f.apart REF_CAND_STAT.QUAL_LEFT = true) (hr : f.apart REF_CAND_STAT.QL_RX = true)
    (hs : f.apart REF_STATUS.QUALIFIED = true) (s : State) : ((requalify c).act s).rd f j = s.rd f j := by
  simp only [requalify, act_seq_cons, act_seq_nil, refEval_cand h hj, act_startQual, act_clearQual, act_whenE, act_put, rd_ite, rd_wr_ne _ _ _ _ _ _ (Fld.key_ne_of_apart hq _ _),
    rd_wr_ne _ _ _ _ _ _ (Fld.key_ne_of_apart hr _ _), rd_wr_ne _ _ _ _ _ _ (Fld.key_ne_of_apart hs _ _), ite_self]

theorem refCandSet_does :
    Does .refCandSet opRefCandSet (fun p s => nth p 0 ≤ 11 ∧ wordOk REF_CAND_CFG.fields (nth p 1) = true ∧ (nth p 0 < 8 → REF_CAND_FHZ.HZ.inRange (REF_CAND_FHZ.HZ.raw (nth p 2)) = true) ∧
      (nth p 0 = 8 ∨ s.refSel ≠ some (nth p 0)))
    (fun _ p _ t => t.rd REF_CAND_CFG.PRIO (nth p 0) = REF_CAND_CFG.PRIO.raw (nth p 1) ∧ t.rd REF_CAND_CFG.QL (nth p 0) = REF_CAND_CFG.QL.raw (nth p 1) ∧
      (nth p 0 < 8 → t.rd REF_CAND_FHZ.HZ (nth p 0) = REF_CAND_FHZ.HZ.raw (nth p 2)) ∧ (nth p 0 ≠ 8 → t.refQual (nth p 0) = false)) := by
  refine does_of_okE (fun _ _ _ => rfl) ?_
  rintro h p s ⟨h11, hw, hhz, hsel⟩
  have hrange : (!wordOk REF_CAND_CFG.fields (nth p 1) || (decide (nth p 0 < 8) && !REF_CAND_FHZ.HZ.inRange (REF_CAND_FHZ.HZ.raw (nth p 2)))) = false := by
    by_cases h8 : nth p 0 < 8
    · simp [hw, h8, hhz h8]
    · simp [hw, h8]
  have hfree : (nth p 0 != 8 && s.refSel == some (nth p 0)) = false := by
    rcases hsel with h8 | hne
    · simp [h8]
    · simp [hne]
  refine ⟨_, by simp only [opRefCandSet, if_neg (not_lt.2 h11), hrange, hfree]; rfl, fun t k => ?_⟩
  have hkey : ∀ f : Fld, f.apart OBS_REC_RSEQ.ALL = true → t.rd f (nth p 0) = _ := fun f hf => k.rd (Fld.key_ne_of_apart hf _ _)
  rw [hkey _ (by decide), hkey _ (by decide), hkey _ (by decide), State.refQual, k.rd (by decide), ← State.refQual, act_seq_cons, act_seq_cons, act_seq_cons, act_seq_nil]
  have hlast : ∀ {f : Fld} {u : State}, f.keptByEval = true → f.apart REF_CAND_STAT.QUAL_LEFT = true → f.apart REF_CAND_STAT.QL_RX = true → f.apart REF_STATUS.QUALIFIED = true →
      ((if nth p 0 = 8 then refEval else requalify (nth p 0)).act u).rd f (nth p 0) = u.rd f (nth p 0) := by
    intro f u hkept hq hr hs
    split
    · exact refEval_cand hkept (Nat.lt_succ_of_le h11) u
    · exact requalify_cand hkept (Nat.lt_succ_of_le h11) hq hr hs u
  rw [hlast (by decide +kernel) (by decide) (by decide) (by decide), hlast (by decide +kernel) (by decide) (by decide) (by decide),
    hlast (by decide +kernel) (by decide) (by decide) (by decide)]
  refine ⟨?_, ?_, fun h8 => ?_, fun h8 => ?_⟩
  · simp (disch := decide) only [act_whenE, act_put, rd_any_rules, ite_self]
    exact putWord_rd (.head _) (by decide) (by decide) _ _ _
  · simp (disch := decide) only [act_whenE, act_put, rd_any_rules, ite_self]
    exact putWord_rd (.tail _ (.head _)) (by decide) (by decide) _ _ _
  · rw [act_whenE, decide_eq_true h8, if_pos rfl, act_put, rd_wr_self]
    exact Fld.raw_mod _ _
  · rw [if_neg h8]
    exact requalify_refQual _ _

theorem refSelect_does :
    Does .refSelect opRefSelect (fun p _ => nth p 0 ≤ 4 ∧ nth p 1 ≤ 11) (fun _ p _ t => t.rd REF_CTRL.SEL_MODE = nth p 0 ∧ t.rd REF_CTRL.SEL_CAND = nth p 1) := by
  refine does_of_okP (fun _ _ _ => rfl) ?_
  rintro h p s ⟨h4, h11⟩
  refine ⟨_, _, by simp only [opRefSelect, if_neg (by omega : ¬ (4 < nth p 0 ∨ 11 < nth p 1))]; rfl, fun t k => ?_⟩
  simp (disch := decide) only [k.keeps.rd, act_rules, (keeps_refEval _).rd, rd_rules]
  exact ⟨Nat.mod_eq_of_lt (show nth p 0 < 8 by omega), Nat.mod_eq_of_lt (show nth p 1 < 16 by omega)⟩

theorem refStatus_answers :
    Answers .refStatus opRefStatus (fun _ _ => True) (fun _ s => [s.word REF_STATUS.fields, s.rd REF_DPLL_FREQ.ALL, s.rd REF_HIST_FREQ.ALL, s.rd REF_PHASE_ERR.ALL] ++
    cands.map (fun c => s.word REF_CAND_STAT.fields c) ++ cands.map (fun c => s.rd REF_CAND_FREQ.ALL c)) := by
  exact answers_of_body (fun _ _ _ => rfl) fun h p s _ => ⟨_, rfl, rfl⟩

theorem refOutSet_does :
    Does .refOutSet opRefOutSet (fun p _ => nth p 0 ≤ 5 ∧ outOk (nth p 0) (REF_OUT_FHZ.HZ.raw (nth p 2)) (REF_OUT_CFG.WIDTH.raw (nth p 1)) = true)
    (fun _ p _ t => t.rd REF_OUT_CFG.EN (nth p 0) = REF_OUT_CFG.EN.raw (nth p 1) ∧ t.rd REF_OUT_FHZ.HZ (nth p 0) = REF_OUT_FHZ.HZ.raw (nth p 2) ∧
      t.rd REF_OUT_OFS.ALL (nth p 0) = nth p 3 % 2 ^ REF_OUT_OFS.ALL.width) := by
  refine does_of_okE (fun _ _ _ => rfl) ?_
  rintro h p s ⟨h5, hout⟩
  refine ⟨_, by simp only [opRefOutSet, if_neg (not_lt.2 h5), hout]; rfl, fun t k => ?_⟩
  have hofs : ∀ o < 6, REF_OUT_OFS.ALL.key o ≠ OBS_REC_RSEQ.ALL.key 0 := by decide
  rw [k.rd (Fld.key_ne_of_apart (by decide) _ _), k.rd (Fld.key_ne_of_apart (by decide) _ _), k.rd (hofs _ (Nat.lt_succ_of_le h5))]
  simp (disch := decide) only [act_seq_cons, act_seq_nil, outSignal, act_rules, rd_any_rules, rd_mk]
  exact ⟨putWord_rd (.head _) (by decide) (by decide) _ _ _, Fld.raw_mod _ _, trivial⟩

theorem refRealign_starts :
    ∀ h p s, Accepted opRefRealign h p s → nth (p.map (·.toNat)) 0 ≤ 63 → nth (p.map (·.toNat)) 1 = 0 → s.realignOfs 0 (ofPat 32 (nth (p.map (·.toNat)) 2)) = true →
    s.todValid = true → s.on REF_STATUS.BUILDOUT = false → s.pair.gap = false → s.ref.realign = none → Completes (.refRealign h p) s
    (fun t => t.running h opRefRealign p ∧ t.ref.realign = some ⟨runOf h 0x0B06 (p.map (·.toNat)), nth (p.map (·.toNat)) 0⟩) := by
  intro h p s a h63 h0 hofs htod hbuild hgap hfree
  refine completes_of_deferE rfl a (by simp only [opRefRealign, h0, not_lt.2 h63, hofs, htod, hbuild, hgap, hfree]; rfl) fun u k => ⟨rfl, rfl⟩

/-- Settles O25. -/
theorem referenceCommands : Obligations.ReferenceCommands :=
  ⟨refCfg_does, refCandSet_does, refSelect_does, refStatus_answers, refOutSet_does, refRealign_starts⟩

/-! ### Candidates -/

/-- What an evaluation does not count. -/
theorem refEval_cnt {j : Nat} (h : Touch.refEval.moves j = false) (s : State) : (refEval.act s).cnt j = s.cnt j := (keeps_refEval s).cnt h

theorem candFreqWrite_completes :
    ∀ m c v s, s.takes m 10 → c.val < 8 → s.refSel ≠ some c.val → REF_CAND_FHZ.HZ.inRange v.toNat = true → Completes (.candFreqWrite m c v) s
    (fun t => t.rd REF_CAND_FHZ.HZ c.val = v.toNat % 2 ^ REF_CAND_FHZ.HZ.width ∧ t.refQual c.val = false) := by
  intro m c v s ht h8 hsel hin
  refine completes_byMaster rfl ht fun t w => ?_
  have hbody : (candFreqWrite m c.val v.toNat).act s = (requalify c.val).act (s.wr REF_CAND_FHZ.HZ c.val v.toNat) := by
    simp only [candFreqWrite, act_dyn, if_pos h8, hin, beq_eq_false_iff_ne.2 hsel, Bool.not_true, Bool.or_self, Bool.false_eq_true, if_false, if_neg (Nat.ne_of_lt h8), act_seq_cons, act_seq_nil, act_put]
  have hhz : ∀ i < 8, REF_CAND_FHZ.HZ.clearOf i (Touch.logged.flds ++ sharedFlds) = true := by decide +kernel
  rw [hbody] at w
  refine ⟨?_, ?_⟩
  · rw [w.rd (hhz _ h8), requalify_cand (by decide +kernel) (by omega) (by decide) (by decide) (by decide), rd_wr_self]
  · rw [State.refQual, w.rd (by decide), ← State.refQual, requalify_refQual]

theorem realignStep_completes :
    ∀ mk mv r s, s.ref.realign = some r → Completes (.realignStep true mk mv) s (fun t => t.ref.realign = none ∧
    t.cnt (1024 + EV.OUT_REALIGNED.x) = (s.cnt (1024 + EV.OUT_REALIGNED.x) + 1) % 2 ^ 48) := by
  intro mk mv r s hr
  refine ⟨_, rfl, ?_⟩
  simp (disch := decide) only [act_dyn, if_true, hr, act_seq_cons, act_seq_nil, (keeps_finish _ _ _ _).ref, (keeps_finish _ _ _ _).cnt, act_upd, apply_ref, act_raise, cnt_raise_self, ref_rules, cnt_mk]
  trivial

theorem disqualify_ref (c cause : Nat) (s : State) : ((disqualify c cause).act s).ref = if s.refQual c then { s.ref with again := setBit s.ref.again c } else s.ref := by
  simp only [disqualify, act_rules, upd_rules]
  split
  · simp only [ref_rules, act_clearQual]
  · rfl

theorem disqualify_rd {f : Fld} {i : Nat} (c cause : Nat) (s : State) (hq : f.apart REF_STATUS.QUALIFIED = true) (he : f.apartOf EV.REF_DISQUALIFIED.flds = true) :
    ((disqualify c cause).act s).rd f i = s.rd f i := by
  simp only [disqualify, act_rules, upd_rules, rd_ite, rd_raise _ _ _ _ _ (not_mem_raiseKeys he _), rd_mk, act_clearQual, rd_wr_ne _ _ _ _ _ _ (Fld.key_ne_of_apart hq _ _), ite_self]

theorem disqualify_refQual (c cause : Nat) (s : State) : ((disqualify c cause).act s).refQual c = false := by
  have h := clearQual_refQual c s
  rw [State.refQual] at h
  simp only [disqualify, act_rules, upd_rules]
  split
  · simp (disch := decide) only [State.refQual, rd_rules, rd_mk, h]
  · exact Bool.eq_false_iff.2 ‹_›

theorem refActivity_completes :
    ∀ c e s, c.val < 8 → e ≠ s.refAct c.val → Completes (.refActivity c e) s (fun t => t.refAct c.val = e) := by
  intro c e s h8 hne
  refine ⟨_, rfl, ?_⟩
  have hnow : s.actNow c.val e = e := if_pos h8
  have hchange : (e == s.refAct c.val) = false := beq_eq_false_iff_ne.2 hne
  cases e
  · simp only [act_dyn, hnow, hchange, Bool.false_eq_true, if_false, act_seq_cons, act_seq_nil]
    rw [State.refAct, State.on, refEval_cand (by decide +kernel) c.isLt]
    simp (disch := decide) only [act_rules, act_startQual, rd_any_rules, disqualify_rd, upd_rules, rd_mk]
    rfl
  · simp only [act_dyn, hnow, hchange, Bool.false_eq_true, if_false, if_true, act_seq_cons, act_seq_nil]
    rw [State.refAct, State.on, refEval_cand (by decide +kernel) c.isLt]
    simp (disch := decide) only [act_rules, act_startQual, rd_any_rules]
    rfl

/-- What an evaluation leaves the candidates of their gates and their record. -/
theorem refEval_same {β : Type} (P : RefSt → β) (h : ∀ r a l, P { r with clampAt := a, lockedFor := l } = P r) (s : State) : P (refEval.act s).ref = P s.ref := by
  obtain ⟨a, l, -, hr⟩ := refEval_ref s
  rw [hr, h]

theorem freqGateEnd_completes :
    ∀ c off s, s.refAct c.val = true → Completes (.freqGateEnd c off) s (fun t => t.rd REF_CAND_FREQ.ALL c.val = REF_CAND_FREQ.ALL.pat (s.gateOffset c.val off.toInt) % 2 ^ REF_CAND_FREQ.ALL.width ∧
    Tab.get [] t.ref.gates c.val = (s.gateOffset c.val off.toInt :: Tab.get [] s.ref.gates c.val).take 32 ∧
    (s.refQual c.val = true → s.inReject (s.gateOffset c.val off.toInt) = false → t.refQual c.val = false)) := by
  intro c off s hact
  refine ⟨_, rfl, ?_⟩
  rw [act_dyn]
  simp only [hact, Bool.not_true, Bool.false_eq_true, if_false, act_seq_cons, act_seq_nil]
  generalize hz : s.gateOffset c.val off.toInt = z
  refine ⟨?_, ?_, fun hq hin => ?_⟩
  · rw [refEval_cand (by decide +kernel) c.isLt]
    have hdis : ∀ i < 12, REF_CAND_FREQ.ALL.clearOf i (Touch.disqualify.flds ++ sharedFlds) = true := by decide +kernel
    have hdrift : ∀ i < 12, REF_CAND_FREQ.ALL.clearOf i (Touch.setDrift.flds ++ sharedFlds) = true := by decide +kernel
    have hd := fun u => (keeps_disqualify c.val 2 u).rd (hdis _ c.isLt)
    have hs := fun u => (keeps_setDrift c.val 1 0 u).rd (hdrift _ c.isLt)
    simp (disch := decide) only [act_rules, act_startQual, rd_any_rules, hd, hs, upd_rules, rd_mk, ite_self]
  · rw [refEval_same (fun r => Tab.get [] r.gates c.val) fun _ _ _ => rfl]
    have hd := fun u => (keeps_setDrift c.val 1 0 u).ref (by decide)
    have hdis : ∀ u, ((disqualify c.val 2).act u).ref.gates = u.ref.gates := fun u => by rw [disqualify_ref]; split <;> rfl
    split
    · split
      · simp only [act_rules, act_startQual, ref_rules, hdis, upd_rules, Tab.get_set_self]
      · simp only [act_rules, upd_rules, hd, ite_self, ref_rules, Tab.get_set_self]
    · split <;> simp only [act_rules, act_startQual, ref_rules, upd_rules, Tab.get_set_self]
  · rw [refEval_refQual, hq, if_pos rfl, hin, Bool.not_false, if_pos rfl, act_seq_cons, act_seq_cons, act_seq_nil]
    have h := disqualify_refQual c.val 2 ((upd (.ref fun r => { r with gates := Tab.set [] r.gates c.val ((z :: Tab.get [] r.gates c.val).take 32) })).act
      ((putI REF_CAND_FREQ.ALL z c.val).act s))
    rw [State.refQual] at h
    simp (disch := decide) only [State.refQual, act_startQual, rd_any_rules, h]

theorem refQualifyEnd_completes :
    ∀ c s, s.refAct c.val = true → s.refQual c.val = false → s.accepts (s.rdI REF_CAND_FREQ.ALL c.val) = true → Completes (.refQualifyEnd c) s
    (fun t => t.refQual c.val = true ∧ bit t.ref.again c.val = false) := by
  intro c s hact hqual hacc
  refine ⟨_, rfl, ?_⟩
  rw [act_dyn]
  simp only [hact, hqual, hacc, Bool.not_true, Bool.or_self, Bool.false_eq_true, if_false, act_seq_cons, act_seq_nil, refEval_refQual]
  refine ⟨?_, ?_⟩
  · simp (disch := decide) only [State.refQual, act_rules, upd_rules, rd_rules, rd_mk]
    rw [rd_wr_ne _ _ _ _ _ _ (Fld.key_ne_of_apart (by decide) _ _), rd_wr_self]
    exact (bit_mod (show c.val < REF_STATUS.QUALIFIED.width from c.isLt) _).trans (bit_setBit_self _ _)
  · rw [refEval_same (·.again) fun _ _ _ => rfl]
    simp only [act_rules, upd_rules, ref_rules, bit_clrBit_self]


theorem setDrift_drifts (c cause : Nat) (rate : Int) (s : State) : ((setDrift c cause rate).act s).rd REF_CAND_STAT.DRIFT c = 1 := by
  rw [setDrift, act_dyn, act_whenE]
  cases h : s.on REF_CAND_STAT.DRIFT c
  · simp (disch := decide) only [Bool.not_false, if_true, act_rules, rd_any_rules]
    rfl
  · exact State.rd_of_on h

theorem setDrift_other {c y : Nat} (cause : Nat) (rate : Int) (s : State) (h : c ≠ y) :
    ((setDrift y cause rate).act s).rd REF_CAND_STAT.DRIFT c = s.rd REF_CAND_STAT.DRIFT c := by
  simp (disch := decide) only [setDrift, act_rules, rd_any_rules, rd_wr_ne _ _ _ _ _ _ (Fld.key_ne_of_ne (by decide : REF_CAND_STAT.DRIFT.alongside REF_CAND_STAT.DRIFT = true) h), ite_self]

theorem driftEval_completes :
    ∀ s c, c ∈ cands → s.refAct c = true → (Tab.get [] s.ref.gates c).length = 32 → 256 * s.rd REF_MON_CFG.RATE < (drift256 (Tab.get [] s.ref.gates c)).natAbs →
    Completes .driftEval s (fun t => t.rd REF_CAND_STAT.DRIFT c = 1 ∧ Tab.get 0 t.ref.calm c = 0) := by
  intro s c hc hact hlen hrate
  refine ⟨_, rfl, ?_⟩
  have hmem : c ∈ cands.filter (fun c => s.refAct c && (Tab.get [] s.ref.gates c).length == 32) := List.mem_filter.2 ⟨hc, by simp [hact, hlen]⟩
  have hown : ∀ u : State, (((seqE [upd (.ref fun r => { r with calm := Tab.set 0 r.calm c 0 }),
      setDrift c 2 (Int.tdiv (drift256 (Tab.get [] s.ref.gates c)) 256)]).act u).rd REF_CAND_STAT.DRIFT c = 1 ∧
      Tab.get 0 ((seqE [upd (.ref fun r => { r with calm := Tab.set 0 r.calm c 0 }),
        setDrift c 2 (Int.tdiv (drift256 (Tab.get [] s.ref.gates c)) 256)]).act u).ref.calm c = 0) := fun u => by
    simp (disch := decide) only [act_seq_cons, act_seq_nil, setDrift_drifts, (keeps_setDrift _ _ _ _).ref, act_upd, apply_ref, Tab.get_set_self, and_self]
  refine forE_establishes (I := fun t => t.rd REF_CAND_STAT.DRIFT c = 1 ∧ Tab.get 0 t.ref.calm c = 0) hmem (fun u => ?_) (fun y _ u hu => ?_) s
  · simp only [hrate, if_true]
    exact hown u
  · obtain ⟨hdrift, hcalm⟩ := hu
    by_cases hy : c = y
    · subst hy
      simp only [hrate, if_true]
      exact hown u
    · have hkey : REF_CAND_STAT.DRIFT.key c ≠ REF_CAND_STAT.DRIFT.key y := Fld.key_ne_of_ne (by decide) hy
      dsimp only
      split
      · simp (disch := decide) only [act_rules, upd_rules, setDrift_other _ _ _ hy, (keeps_setDrift _ _ _ _).ref, rd_mk, Tab.get_set_ne _ _ _ _ hy]
        exact ⟨hdrift, hcalm⟩
      · split
        · simp (disch := decide) only [act_rules, upd_rules, rd_mk, Tab.get_set_ne _ _ _ _ hy]
          exact ⟨hdrift, hcalm⟩
        · simp (disch := decide) only [act_rules, upd_rules, rd_ite, rd_wr_ne _ _ _ _ _ _ hkey, rd_mk, ite_self, ref_rules, Tab.get_set_ne _ _ _ _ hy]
          exact ⟨hdrift, hcalm⟩

theorem buildoutEnd_completes :
    ∀ s, s.on REF_STATUS.BUILDOUT = true → Completes .buildoutEnd s (fun t => t.ref.guard = s.rd REF_CLAMP_CFG.HIST_GUARD ∧
    t.ref.compatDue = ((List.range 6).filter (fun o => s.on REF_OUT_CFG.COMPAT o)).foldl setBit 0) := by
  intro s hon
  refine ⟨_, rfl, ?_⟩
  rw [act_dyn]
  simp only [hon, Bool.not_true, Bool.false_eq_true, if_false, act_seq_cons, act_seq_nil]
  rw [refEval_same (·.guard) fun _ _ _ => rfl, refEval_same (·.compatDue) fun _ _ _ => rfl, act_upd, apply_ref]
  trivial

theorem dpllLock_completes :
    ∀ s c, s.refSel = some c → s.rd REF_STATUS.DPLL = 1 → s.on REF_STATUS.BUILDOUT = false → Completes .dpllLock s
    (fun t => t.cnt (1024 + EV.DPLL_LOCK.x) = (s.cnt (1024 + EV.DPLL_LOCK.x) + 1) % 2 ^ 48) := by
  intro s c hsel hd hb
  refine ⟨_, rfl, ?_⟩
  rw [act_dyn, hsel]
  simp (disch := decide) only [hd, hb, act_whenE, BEq.rfl, Bool.not_false, Bool.and_self, if_true, act_rules, refEval_cnt, cnt_raise_self, cnt_rules]

theorem dpllUnlock_completes :
    ∀ e s, s.rd REF_STATUS.DPLL = 2 → s.on REF_STATUS.BUILDOUT = false → Completes (.dpllUnlock e) s
    (fun t => t.ref.lockedFor = 0 ∧ t.cnt (1024 + EV.DPLL_UNLOCK.x) = (s.cnt (1024 + EV.DPLL_UNLOCK.x) + 1) % 2 ^ 48) := by
  intro e s hd hb
  refine ⟨_, rfl, ?_⟩
  simp (disch := decide) only [act_dyn, hd, hb, act_whenE, BEq.rfl, Bool.not_false, Bool.and_self, if_true, act_seq_cons, act_seq_nil]
  refine ⟨?_, ?_⟩
  · obtain ⟨a, l, hl, hr⟩ := refEval_ref _
    rw [hr]
    refine hl.elim (fun h => h.trans ?_) id
    simp only [act_rules, upd_rules, ref_rules]
  · simp (disch := decide) only [refEval_cnt, act_rules, upd_rules, cnt_raise_self, cnt_rules, cnt_mk]

theorem dpllHistoryTick_completes :
    ∀ f ph s, s.rd REF_STATUS.DPLL = 2 → Completes (.dpllHistoryTick f ph) s (fun t => t.rd REF_DPLL_FREQ.ALL = REF_DPLL_FREQ.ALL.pat (heldIn f.toInt) % 2 ^ REF_DPLL_FREQ.ALL.width ∧ t.rd REF_PHASE_ERR.ALL = ph.toNat ∧
    t.ref.lockedFor = s.ref.lockedFor + 1 ∧ (s.on REF_STATUS.BUILDOUT = false → s.ref.guard = 0 → t.ref.hist = (heldIn f.toInt :: s.ref.hist).take 960)) := by
  intro f ph s hd
  refine ⟨_, rfl, ?_⟩
  rw [act_dyn]
  simp (disch := decide) only [hd, bne_self_eq_false, Bool.false_eq_true, if_false, act_rules, upd_rules, rd_rules, rd_mk, ref_rules, ite_self]
  refine ⟨trivial, Nat.mod_eq_of_lt ph.isLt, trivial, fun hb hg => ?_⟩
  rw [hb, hg]
  rfl

/-- With no candidate called for and none selected, an evaluation in CLAMP selects nothing. -/
theorem selEval_clamped {s : State} (hd : s.rd REF_STATUS.DPLL = 3) (hmode : s.rd REF_CTRL.SEL_MODE = 3) (hsel : s.refSel = none) : selEval.act s = s := by
  have htarget : s.target = none := by rw [State.target, hmode]; rfl
  rw [selEval, act_dyn]
  split
  · rfl
  · rw [htarget, hsel]
    simp [hmode, hd]

theorem syncOut_outQl (s : State) (h : s.outQl < 16) : (syncOut.act s).rd REF_STATUS.OUT_QL = s.outQl := by
  rw [syncOut, act_dyn, act_whenE]
  split
  · simp (disch := decide) only [act_rules, rd_ite, (keeps_timeMsg _ _).rd, (keeps_sendEsmc _ _).rd, rd_rules, ite_self]
    exact Nat.mod_eq_of_lt h
  · rename_i hne
    simpa using (eq_comm.1 (by simpa using hne))

theorem clampExpired_completes :
    ∀ s, s.rd REF_STATUS.DPLL = 3 → s.rd REF_CLAMP_MAX.ALL ≠ 0 → s.on REF_STATUS.CLAMP_EXPIRED = false → s.rd REF_CTRL.SEL_MODE = 3 → s.rd REF_STATUS.SELECTED = 15 →
    Completes .clampExpired s (fun t => t.rd REF_STATUS.CLAMP_EXPIRED = 1 ∧ t.rd REF_STATUS.OUT_QL = 8) := by
  intro s hd hmax hexp hmode hsel
  refine ⟨_, rfl, ?_⟩
  rw [act_dyn]
  simp only [hd, beq_eq_false_iff_ne.2 hmax, hexp, bne_self_eq_false, Bool.or_self, Bool.false_eq_true, if_false, act_seq_cons, act_seq_nil]
  have hexpired : ∀ u : State, u.rd REF_STATUS.DPLL = 3 → u.rd REF_STATUS.CLAMP_EXPIRED = 1 → u.outQl = 8 := fun u hu hx => by
    have hon : u.on REF_STATUS.CLAMP_EXPIRED = true := by rw [State.on, hx]; rfl
    simp only [State.outQl, hu, hon, Bool.true_or, if_true]
  generalize hv : syncQl.act (failQl.act ((raise EV.CLAMP_ENTER [s.rd REF_CLAMP_MAX.ALL, 0]).act ((put REF_STATUS.CLAMP_EXPIRED 1).act s))) = v
  have hvrd : ∀ f : Fld, f.clearOf 0 (Touch.syncQl.flds ++ sharedFlds) = true → f.clearOf 0 (Touch.failQl.flds ++ sharedFlds) = true → f.key 0 ∉ raiseKeys EV.CLAMP_ENTER →
      v.rd f = (s.wr REF_STATUS.CLAMP_EXPIRED 0 1).rd f := fun f h1 h2 h3 => by
    rw [← hv, (keeps_syncQl _).rd h1, (keeps_failQl _).rd h2, act_raise, rd_raise _ _ _ _ _ h3, act_put]
  have hvd : v.rd REF_STATUS.DPLL = 3 := (hvrd _ (by decide) (by decide) (by decide)).trans ((rd_wr_ne _ _ _ _ _ _ (by decide)).trans hd)
  have hvx : v.rd REF_STATUS.CLAMP_EXPIRED = 1 := (hvrd _ (by decide) (by decide) (by decide)).trans (rd_wr_self _ _ _ _)
  have hvm : v.rd REF_CTRL.SEL_MODE = 3 := (hvrd _ (by decide) (by decide) (by decide)).trans ((rd_wr_ne _ _ _ _ _ _ (by decide)).trans hmode)
  have hvs : v.refSel = none := if_pos ((hvrd _ (by decide) (by decide) (by decide)).trans ((rd_wr_ne _ _ _ _ _ _ (by decide)).trans hsel))
  rw [refEval]
  simp only [act_seq_cons, act_seq_nil]
  rw [hv, selEval_clamped hvd hvm hvs]
  refine ⟨?_, ?_⟩
  · rw [(keeps_syncStates _).rd (by decide), (keeps_syncOut _).rd (by decide), hvx]
  · rw [(keeps_syncStates _).rd (by decide), syncOut_outQl _ (by rw [hexpired v hvd hvx]; decide), hexpired v hvd hvx]

theorem oscLost_completes :
    ∀ s, s.on REF_STATUS.OSC_PRESENT = true → Completes .oscLost s (fun t => t.rd REF_STATUS.OSC_PRESENT = 0 ∧ t.rd REF_STATUS.MON_SRC = 1) := by
  intro s hosc
  refine ⟨_, rfl, ?_⟩
  rw [act_dyn]
  simp (disch := decide) only [hosc, Bool.not_true, Bool.false_eq_true, if_false, act_seq_cons, act_seq_nil, (keeps_refEval _).rd, act_rules, rd_rules, ite_self]
  trivial


/-! ### Quality messages -/

/-- A candidate's received code after an evaluation is as the check of the sources leaves it. -/
theorem refEval_qlRx {c : Nat} (s : State) (hc : c < 12) : (refEval.act s).rd REF_CAND_STAT.QL_RX c = (failQl.act s).rd REF_CAND_STAT.QL_RX c := by
  have hrest : ∀ i < 12, REF_CAND_STAT.QL_RX.clearOf i (Touch.syncQl.flds ++ sharedFlds) = true ∧ REF_CAND_STAT.QL_RX.clearOf i (Touch.selEval.flds ++ sharedFlds) = true ∧
    REF_CAND_STAT.QL_RX.clearOf i (Touch.syncOut.flds ++ sharedFlds) = true ∧ REF_CAND_STAT.QL_RX.clearOf i (Touch.syncStates.flds ++ sharedFlds) = true := by decide +kernel
  obtain ⟨h1, h2, h3, h4⟩ := hrest c hc
  simp only [refEval, act_seq_cons, act_seq_nil]
  rw [(keeps_syncStates _).rd h4, (keeps_syncOut _).rd h3, (keeps_selEval _).rd h2, (keeps_syncQl _).rd h1]

/-- A candidate that has a source, or whose code is FAILED already, keeps its received code. -/
theorem failQl_qlRx {c : Nat} (s : State) (h : s.noSource c = false ∨ s.rd REF_CAND_STAT.QL_RX c = 10) : (failQl.act s).rd REF_CAND_STAT.QL_RX c = s.rd REF_CAND_STAT.QL_RX c := by
  rw [failQl, act_dyn]
  refine forE_same (fun u => u.rd REF_CAND_STAT.QL_RX c) (fun y hy u => ?_) s
  have hne : c ≠ y := by
    rintro rfl
    have hf := (List.mem_filter.1 hy).2
    rw [Bool.and_eq_true, bne_iff_ne] at hf
    obtain ⟨hsrc, hcode⟩ := hf
    rcases h with h | h
    · rw [h] at hsrc
      cases hsrc
    · exact hcode h
  exact rd_wr_ne _ _ _ _ _ _ (Fld.key_ne_of_ne (by decide) hne)

theorem wr_qlRx_noSource (s : State) (y v c : Nat) : (s.wr REF_CAND_STAT.QL_RX y v).noSource c = s.noSource c := by
  simp (disch := decide) only [State.noSource, State.isEth, State.chOn, State.lanesOf, State.candLane, rd_any_rules, on_any_rules]

theorem forE_emit_out {α : Type} (xs : List α) (o : α → Output) (s : State) : (forE xs fun x => emit (o x)).act s = { s with out := (xs.map o).reverse ++ s.out } := by
  induction xs generalizing s with
  | nil => rfl
  | cons x xs ih =>
    rw [act_forE_cons, ih, List.map_cons, List.reverse_cons, List.append_assoc]
    rfl

theorem qlOf_lt (ssm enh : Nat) : qlOf ssm enh < 16 := by
  unfold qlOf
  split <;> decide

theorem esmcRx_completes :
    ∀ k ssm enh c s, s.isEth k.val = true → c ∈ [9, 10, 11] → s.candLane c ∈ s.lanesOf k.val → Completes (.esmcRx k ssm enh) s
    (fun t => t.rd REF_CAND_STAT.QL_RX c = qlOf ssm.toNat enh.toNat) := by
  intro k ssm enh c s heth hc hlane
  refine ⟨_, rfl, ?_⟩
  simp only [act_dyn, act_whenE, heth, if_true, act_seq_cons, act_seq_nil]
  have hmem : c ∈ [9, 10, 11].filter (fun c => (s.lanesOf k.val).contains (s.candLane c)) := List.mem_filter.2 ⟨hc, List.contains_iff_mem.2 hlane⟩
  have hsrc : s.noSource c = false := by
    have hany : (List.range 32).any (fun t => s.isEth t && (s.lanesOf t).contains (s.candLane c)) = true :=
      List.any_eq_true.2 ⟨k.val, List.mem_range.2 k.isLt, by rw [heth, List.contains_iff_mem.2 hlane]; rfl⟩
    rw [State.noSource, hany, Bool.not_true, Bool.and_false]
  have hlt : c < 12 := by simp at hc; omega
  have hput : ∀ (u : State) y, (put REF_CAND_STAT.QL_RX (qlOf ssm.toNat enh.toNat) y).act u = u.wr REF_CAND_STAT.QL_RX y (qlOf ssm.toNat enh.toNat) := fun u y => act_put _ _ _ _
  rw [refEval_qlRx _ hlt, failQl_qlRx _ (.inl ?_)]
  · refine forE_once (fun u => u.rd REF_CAND_STAT.QL_RX c) (g := fun _ => qlOf ssm.toNat enh.toNat) (List.Nodup.filter _ (by decide)) hmem
      (fun u => ?_) (fun y _ hy u => ?_) s
    · rw [hput, rd_wr_self]
      exact Nat.mod_eq_of_lt (qlOf_lt _ _)
    · rw [hput]
      exact rd_wr_ne _ _ _ _ _ _ (Fld.key_ne_of_ne (by decide) (Ne.symm hy))
  · rw [← hsrc]
    exact forE_same (fun u => u.noSource c) (fun y _ u => by rw [hput, wr_qlRx_noSource]) s

theorem esmcTx_completes :
    ∀ s, Completes .esmcTx s (fun t => t.regs = s.regs ∧ ∀ k ∈ s.esmcChans, (let c := ssmOf (if s.carriesSel k then 9 else s.rd REF_STATUS.OUT_QL)
      Output.esmc k false c.1 c.2 ∈ s.sentSince t)) := by
  intro s
  refine ⟨_, rfl, ?_⟩
  rw [sendEsmc, act_dyn, forE_emit_out]
  exact ⟨rfl, fun k hk => mem_sentSince_of_suffix (List.suffix_refl _) rfl (List.mem_reverse.2 (List.mem_map.2 ⟨k, hk, rfl⟩))⟩

theorem qlTimeout_completes :
    ∀ k s, Completes (.qlTimeout k) s (fun t => t.rd REF_CAND_STAT.QL_RX (8 + k.val) = 10) := by
  intro k s
  refine ⟨_, rfl, ?_⟩
  simp only [act_seq_cons, act_seq_nil, act_put]
  have hfailed := rd_wr_self s REF_CAND_STAT.QL_RX (8 + k.val) 10
  rw [refEval_qlRx _ (by omega), failQl_qlRx _ (.inr hfailed)]
  exact hfailed

theorem lineQlRx_completes :
    ∀ b1 b2 b3 s, crc8 [0x51, b1.toNat, b2.toNat] = b3.toNat → bit b2.toNat 0 = false → 1 ≤ b1.toNat → b1.toNat ≤ 10 → Completes (.lineQlRx 0x51 b1 b2 b3) s
    (fun t => t.rd REF_CAND_STAT.QL_RX 8 = b1.toNat) := by
  intro b1 b2 b3 s hcrc hbit h1 h10
  refine ⟨_, rfl, ?_⟩
  have hgood : (BitVec.toNat (81 : BitVec 8) == 81 && crc8 [BitVec.toNat (81 : BitVec 8), b1.toNat, b2.toNat] == b3.toNat) = true := by
    simpa using hcrc
  simp only [hbit, Bool.false_eq_true, if_false, if_pos (And.intro h1 h10), act_whenE, hgood, if_true, act_seq_cons, act_seq_nil, act_put]
  rw [refEval_qlRx _ (by decide), failQl_qlRx _ (.inl (by rw [State.noSource, decide_eq_false (by decide), Bool.false_and])), rd_wr_self]
  exact Nat.mod_eq_of_lt (show b1.toNat < 16 by omega)

theorem compatPulse_completes :
    ∀ o e s, s.on REF_OUT_CFG.COMPAT o.val = true → s.isPulse (s.rd REF_OUT_CFG.SRC o.val) = true → s.refAct (s.rd REF_OUT_CFG.SRC o.val) = true →
    bit s.ref.compatDue o.val = true → Completes (.compatPulse o e) s (fun t => t.ref.compatDue = clrBit s.ref.compatDue o.val ∧ Tab.get 0 t.ref.pulses o.val = 0) := by
  intro o e s hcompat hpulse hact hdue
  refine ⟨_, rfl, ?_⟩
  rw [act_dyn]
  simp only [hcompat, hpulse, hact, hdue, Bool.and_self, Bool.not_true, Bool.false_eq_true, if_false, if_true, act_rules, upd_rules, ref_rules, Tab.get_set_self]
  trivial

/-- Settles O26. -/
theorem referenceEvents : Obligations.ReferenceEvents :=
  ⟨candFreqWrite_completes, realignStep_completes, refActivity_completes, freqGateEnd_completes, refQualifyEnd_completes, driftEval_completes,
    buildoutEnd_completes, dpllLock_completes, dpllUnlock_completes, dpllHistoryTick_completes, clampExpired_completes, oscLost_completes,
    esmcRx_completes, esmcTx_completes, qlTimeout_completes, lineQlRx_completes, compatPulse_completes⟩

end Sys2Proof.Machine

/-!
The time of day and the boundary clock: commands, steps, scheduled actions and line measurements (R469 to R503).
-/
namespace Sys2Proof.Machine
open Sys2Proof

-- The kernel evaluates many small footprints: one thread serves them all.
set_option Elab.async false


/-! ### Words and commands -/

theorem nth_word_lt (p : List Word) (k : Nat) : nth (p.map (·.toNat)) k < 2 ^ 32 := by
  rw [nth, List.getD_eq_getElem?_getD, List.getElem?_map]
  cases p[k]? with
  | none => decide
  | some w => exact w.isLt

theorem toPat_ofPat {x : Nat} (h : x < 2 ^ 32) : toPat 32 (ofPat 32 x) = x := by
  simp only [toPat, ofPat, Nat.mod_eq_of_lt h]
  split <;> omega

section
variable {c : Instr} {op : OpDef} {h : CmdHdr} {p : List Word} {s : State} {P : State → Prop}

/-- An accepted command whose body answers at once, with what status soever. -/
theorem completes_of_answer (hc : exec c s = perform (felwin op h p) s) (a : Accepted op h p s) {st : Status} (hst : st ≠ .pending) {e : Eff} {pay : State → List Nat}
    (hbody : op.body h (p.map (·.toNat)) s = { status := st, pay := pay, eff := e }) (hP : ∀ t, OnlyReplies (e.act s) t → P t) : Completes c s fun t => t.replied h st ∧ P t := by
  have hact : (felwin op h p).act s = (replyTo (runOf h op.code (p.map (·.toNat))) st 0 pay).act (e.act s) := by
    simp [felwin_accepted a, hbody, actAndReply]
  have k := replied_replyTo a.hold hst op.code (p.map (·.toNat)) 0 pay (e.act s)
  rw [← hact] at k
  refine ⟨_, hc, ?_, hP _ k.keeps⟩
  rw [State.replied, k.slot]
  rfl

end

theorem todGet_answers :
    Answers .todGet opTodGet (fun _ _ => True) (fun _ s => todWords s.todVal ++ [s.word TOD_STATUS.fields, s.rd TOD_RATE.ALL]) := by
  exact answers_of_body (fun _ _ _ => rfl) fun h p s _ => ⟨_, rfl, rfl⟩

theorem todStep_relative :
    Does .todStep opTodStep (fun p s => nth p 0 = 0 ∧ s.on TOD_STATUS.BASE_OK = true ∧ s.on TOD_STATUS.STEP_AVAIL = true ∧ s.tod.step = none)
    (fun _ p _ t => t.tod.step = some ⟨false, (ofPat 64 (nth p 1 + nth p 2 * 2 ^ 32) * 1000000000 + ofPat 32 (nth p 3)) * todUnit + 25 * nth p 4, 0⟩) := by
  refine does_of_okP (fun _ _ _ => rfl) ?_
  rintro h p s ⟨h0, hbase, havail, hfree⟩
  refine ⟨_, _, by simp only [opTodStep, h0, hbase, havail, hfree]; rfl, fun t k => ?_⟩
  rw [k.keeps.tod]
  rfl

theorem todStep_absolute :
    Does .todStep opTodStep (fun p s => nth p 0 = 1 ∧ s.on TOD_STATUS.BASE_OK = true ∧ s.on TOD_STATUS.STEP_AVAIL = true ∧ s.tod.step = none ∧
      nth p 1 + nth p 2 * 2 ^ 32 < 2 ^ 48 ∧ nth p 3 < 1000000000)
    (fun _ p s t => t.tod.step = some ⟨true, (((nth p 1 + nth p 2 * 2 ^ 32) * 1000000000 + nth p 3) * todUnit + 25 * nth p 4 : Nat), s.nextSecond⟩) := by
  refine does_of_okP (fun _ _ _ => rfl) ?_
  rintro h p s ⟨h1, hbase, havail, hfree, hsec, hns⟩
  refine ⟨_, _, by simp only [opTodStep, h1, hbase, havail, hfree, decide_eq_false (not_le.2 hsec), decide_eq_false (not_le.2 hns)]; rfl, fun t k => ?_⟩
  rw [k.keeps.tod]
  rfl

/-- The servo's state moves nothing of the time's own part but whether the clock has been locked. -/
theorem syncServo_tod {β : Type} (P : TodSt → β) (hlock : ∀ t, P { t with everLocked := true, holdExpired := false } = P t) (s : State) : P (syncServo.act s).tod = P s.tod := by
  rw [syncServo, act_dyn]
  dsimp only
  split
  · rfl
  · simp only [act_rules, upd_rules]
    split
    · simp only [hlock, tod_rules, ite_self]
    · simp only [tod_rules, ite_self]

/-- What the ports following the BMCA leave of the time's own part: what is held of ports that no longer run goes. -/
theorem syncPorts_tod {β : Type} (P : TodSt → β) (hpar : ∀ t, P { t with samples := [], good := 0, far := 0 } = P t)
    (hlock : ∀ t, P { t with everLocked := true, holdExpired := false } = P t) (s : State) :
    P (syncPorts.act s).tod = P { s.tod with
      ann := s.tod.ann.filter (fun e => s.ptpOn e.1)
      refused := s.tod.refused.filter (fun e => s.ptpOn e.1)
      ports := s.tod.ports.filter (fun e => s.ptpOn e.1) } := by
  have hports : ∀ (par : Option Nat) (u : State), ((forE ptpPorts fun p => dyn fun _ => portTo p (s.portWant par p)).act u).tod = u.tod := fun par u =>
    forE_same (·.tod) (fun p _ v => (congrArg (·.tod) (act_dyn _ _)).trans ((keeps_portTo p _ v).tod (by decide))) u
  rw [syncPorts, act_dyn]
  simp (disch := decide) only [act_rules, (keeps_sendAnnounce _ _).tod, ite_self, upd_rules, tod_rules]
  rw [syncServo_tod P hlock]
  split
  · simp only [tod_rules, hpar]
    rw [hports]
  · simp only [hports]

theorem todRearm_does :
    Does .todRearm opTodRearm (fun _ _ => True) (fun _ _ _ t => t.rd TOD_STATUS.STEP_AVAIL = 1 ∧ t.tod.refused = []) := by
  refine does_of_okE (fun _ _ _ => rfl) fun h p s _ => ⟨_, rfl, fun t k => ⟨?_, ?_⟩⟩
  · simp (disch := decide) only [k.rd, act_rules, upd_rules, (keeps_syncPorts _).rd, rd_mk, rd_rules]
    rfl
  · rw [k.tod, act_seq_cons, act_seq_cons, act_seq_cons, act_seq_nil, syncPorts_tod (·.refused) (fun _ => rfl) fun _ => rfl]
    rfl

theorem todRateSet_does :
    Does .todRateSet opTodRateSet (fun p s => (ofPat 32 (nth p 0)).natAbs ≤ rateMax.toNat ∧ s.on TOD_SERVO_CFG.EN = false) (fun _ p _ t => t.rd TOD_RATE.ALL = nth p 0) := by
  intro h p s a ⟨hrate, hservo⟩
  have hin : ¬ rateMax < ((ofPat 32 (nth (p.map (·.toNat)) 0)).natAbs : Int) := by
    have hmax : (rateMax.toNat : Int) = rateMax := by decide
    omega
  refine completes_of_okP rfl a (by simp only [opTodRateSet, if_neg hin, hservo]; rfl) fun t k => ?_
  dsimp only
  rw [k.rd (by decide), act_put, rd_wr_self]
  exact Nat.mod_eq_of_lt (nth_word_lt p 0)

theorem ptpCfg_does :
    Does .ptpCfg opPtpCfg (fun p _ => ∀ k < 4, wordOk (ptpCfgRegs.getD k []) (nth p k) = true)
    (fun _ p _ t => t.rd TOD_PTP_CFG.DOMAIN = TOD_PTP_CFG.DOMAIN.raw (nth p 0) ∧ t.rd TOD_SERVO_CFG.EN = TOD_SERVO_CFG.EN.raw (nth p 1) ∧
      t.rd TOD_LIMITS.JUMP_THR = TOD_LIMITS.JUMP_THR.raw (nth p 2) ∧ t.rd TOD_SCHED_CFG.GRACE = TOD_SCHED_CFG.GRACE.raw (nth p 3)) := by
  refine does_of_okE (fun _ _ _ => rfl) ?_
  rintro h p s hw
  have hall : (List.range 4).all (fun k => wordOk (ptpCfgRegs.getD k []) (nth p k)) = true := List.all_eq_true.2 fun k hk => hw k (List.mem_range.1 hk)
  refine ⟨_, by simp only [opPtpCfg, hall]; rfl, fun t k => ?_⟩
  simp (disch := decide) only [k.rd, act_seq_cons, act_seq_nil, (keeps_syncPorts _).rd]
  refine ⟨forE_putWord_rd p s (k := 0) (by decide) ?_ (by decide) (by decide) (by decide), forE_putWord_rd p s (k := 1) (by decide) ?_ (by decide) (by decide) (by decide),
    forE_putWord_rd p s (k := 2) (by decide) ?_ (by decide) (by decide) (by decide), forE_putWord_rd p s (k := 3) (by decide) ?_ (by decide) (by decide) (by decide)⟩
  all_goals simp [ptpCfgRegs, TOD_PTP_CFG.fields, TOD_SERVO_CFG.fields, TOD_LIMITS.fields]

theorem ptpPortSet_does :
    Does .ptpPortSet opPtpPortSet (fun p _ => nth p 0 ≤ 32 ∧ wordOk TOD_PORT_CFG.fields (nth p 1) = true)
    (fun _ p _ t => t.rd TOD_PORT_CFG.EN (nth p 0) = TOD_PORT_CFG.EN.raw (nth p 1) ∧ t.rd TOD_PORT_CFG.LOCAL_PRIO (nth p 0) = TOD_PORT_CFG.LOCAL_PRIO.raw (nth p 1)) := by
  refine does_of_okE (fun _ _ _ => rfl) ?_
  rintro h p s ⟨h32, hw⟩
  refine ⟨_, by simp only [opPtpPortSet, if_neg (not_lt.2 h32), hw]; rfl, fun t k => ?_⟩
  have hclear : ∀ i < 33, TOD_PORT_CFG.EN.clearOf i (Touch.syncPorts.flds ++ sharedFlds) = true ∧ TOD_PORT_CFG.LOCAL_PRIO.clearOf i (Touch.syncPorts.flds ++ sharedFlds) = true := by
    decide +kernel
  obtain ⟨hen, hprio⟩ := hclear _ (Nat.lt_succ_of_le h32)
  rw [k.rd (Fld.key_ne_of_apart (by decide) _ _), k.rd (Fld.key_ne_of_apart (by decide) _ _), act_seq_cons, act_seq_cons, act_seq_nil, (keeps_syncPorts _).rd hen, (keeps_syncPorts _).rd hprio]
  exact ⟨putWord_rd (.head _) (by decide) (by decide) _ _ _, putWord_rd (by simp [TOD_PORT_CFG.fields]) (by decide) (by decide) _ _ _⟩

theorem ptpStatus_answers :
    Answers .ptpStatus opPtpStatus (fun _ _ => True) (fun _ s => [s.servo, s.rd TOD_STATUS.PARENT] ++ w64 (annGm s.gmAnn) ++ [annClass s.gmAnn, s.rd TOD_OFFSET.ALL] ++
    ptpPorts.map (fun p => s.word [TOD_PORT_STAT.STATE] p)) := by
  exact answers_of_body (fun _ _ _ => rfl) fun h p s _ => ⟨_, rfl, rfl⟩

theorem lineDelay_answers :
    Answers .lineDelay opLineDelay (fun _ _ => True) (fun _ s => w64 (s.rd TOD_LINE_FWD.ALL) ++ w64 (s.rd TOD_LINE_REV.ALL) ++
    [s.rd TOD_ASYM.ALL, s.rd TOD_ASYM_NEW.ALL, s.rd TOD_STATUS.PATH_ASYM, s.rd TOD_STATUS.FAR_VALID, s.rd TOD_STATUS.HOLD_LEFT]) := by
  exact answers_of_body (fun _ _ _ => rfl) fun h p s _ => ⟨_, rfl, rfl⟩

theorem asymAccept_does :
    Does .asymAccept opAsymAccept (fun p s => nth p 0 = 1 ∧ s.on TOD_STATUS.PATH_ASYM = true ∧
      (ofPat 32 (nth p 1) - s.rdI TOD_ASYM_NEW.ALL).natAbs ≤ 200000 * s.rd TOD_LIMITS.JUMP_THR)
    (fun _ p _ t => t.rd TOD_ASYM.ALL = nth p 1 ∧ t.rd TOD_STATUS.PATH_ASYM = 0 ∧ t.rd TOD_STATUS.HOLD_LEFT = 0 ∧ t.tod.wait = none) := by
  intro h p s a ⟨h1, hasym, hjump⟩
  refine completes_of_okP rfl a (by simp only [opAsymAccept, h1, hasym, if_neg (by decide : ¬ (1 : Nat) = 0), if_neg (not_lt.2 hjump)]; rfl) fun t k => ?_
  dsimp only
  rw [k.tod, k.rd (by decide), k.rd (by decide), k.rd (by decide), acceptAsym]
  simp (disch := decide) only [act_rules, upd_rules, (keeps_syncServo _).rd, rd_rules, rd_mk]
  refine ⟨?_, rfl, rfl, ?_⟩
  · exact (congrArg (· % 2 ^ 32) (toPat_ofPat (nth_word_lt p 1))).trans (Nat.mod_eq_of_lt (nth_word_lt p 1))
  · rw [syncServo_tod (·.wait) fun _ => rfl]
    simp only [tod_rules]

/-- An entry programmed, put after put. -/
theorem act_schedPut (e t w : Nat) (s : State) : (schedPut e t w).act s =
    (Upd.tod fun x => { x with gapActs := x.gapActs.filter (· != e) }).apply ((((((s.wr TOD_SCHED_T.ALL e t).wr TOD_SCHED_ACT.ARMED e 1).wr TOD_SCHED_ACT.RUN_LATE e
      (TOD_SCHED_ACT.RUN_LATE.raw w)).wr TOD_SCHED_ACT.CODE e (TOD_SCHED_ACT.CODE.raw w)).wr TOD_SCHED_ACT.L e (TOD_SCHED_ACT.L.raw w)).wr TOD_SCHED_ACT.P e
      (TOD_SCHED_ACT.P.raw w)) := rfl

theorem schedPut_rules (e t w : Nat) (s : State) : ((schedPut e t w).act s).rd TOD_SCHED_ACT.ARMED e = 1 ∧
    ((schedPut e t w).act s).rd TOD_SCHED_T.ALL e = t % 2 ^ TOD_SCHED_T.ALL.width ∧ ((schedPut e t w).act s).rd TOD_SCHED_ACT.CODE e = TOD_SCHED_ACT.CODE.raw w ∧
    ((schedPut e t w).act s).rd TOD_SCHED_ACT.P e = TOD_SCHED_ACT.P.raw w := by
  rw [act_schedPut]
  simp (disch := decide) only [upd_rules, rd_mk, rd_any_rules]
  exact ⟨rfl, trivial, Fld.raw_mod _ _, Fld.raw_mod _ _⟩

theorem schedSet_does :
    Does .schedSet opSchedSet (fun p s => nth p 0 ≤ 15 ∧ s.actOk (nth p 3) = true ∧ s.todValid = true ∧ s.lateness (nth p 1 + nth p 2 * 2 ^ 32) < 0)
    (fun _ p _ t => t.rd TOD_SCHED_ACT.ARMED (nth p 0) = 1 ∧ t.rd TOD_SCHED_T.ALL (nth p 0) = nth p 1 + nth p 2 * 2 ^ 32 ∧
      t.rd TOD_SCHED_ACT.CODE (nth p 0) = TOD_SCHED_ACT.CODE.raw (nth p 3) ∧ t.rd TOD_SCHED_ACT.P (nth p 0) = TOD_SCHED_ACT.P.raw (nth p 3)) := by
  intro h p s a ⟨h15, hok, hvalid, hlate⟩
  refine completes_of_okP rfl a (by simp only [opSchedSet, hok, hvalid, if_pos hlate, decide_eq_false (not_lt.2 h15)]; rfl) fun t k => ?_
  have hclear : ∀ i < 16, TOD_SCHED_T.ALL.key i ≠ OBS_REC_RSEQ.ALL.key 0 := by decide
  dsimp only
  rw [k.rd (Fld.key_ne_of_apart (by decide) _ _), k.rd (hclear _ (Nat.lt_succ_of_le h15)), k.rd (Fld.key_ne_of_apart (by decide) _ _), k.rd (Fld.key_ne_of_apart (by decide) _ _)]
  have hlt : nth (p.map (·.toNat)) 1 + nth (p.map (·.toNat)) 2 * 2 ^ 32 < 2 ^ TOD_SCHED_T.ALL.width := by
    have h1 := nth_word_lt p 1
    have h2 := nth_word_lt p 2
    show _ < 2 ^ 64
    omega
  obtain ⟨harmed, htime, hcode, hp⟩ := schedPut_rules (nth (p.map (·.toNat)) 0) (nth (p.map (·.toNat)) 1 + nth (p.map (·.toNat)) 2 * 2 ^ 32) (nth (p.map (·.toNat)) 3) s
  exact ⟨harmed, htime.trans (Nat.mod_eq_of_lt hlt), hcode, hp⟩

theorem schedResult_rules (e : Nat) (st : Status) (ns : Nat) (s : State) : ((schedResult e st ns).act s).rd TOD_SCHED_ACT.ARMED e = 0 ∧
    ((schedResult e st ns).act s).rd TOD_SCHED_STAT.STATUS e = st.code % 2 ^ TOD_SCHED_STAT.STATUS.width ∧
    ((schedResult e st ns).act s).rd TOD_SCHED_STAT.LATE_US e = sat 16777215 (ns / 1000) % 2 ^ TOD_SCHED_STAT.LATE_US.width := by
  simp (disch := decide) only [schedResult, act_rules, rd_any_rules, ite_self]
  exact ⟨rfl, trivial, trivial⟩

/-- An entry that is not held by a gap runs: its action, and its result. -/
theorem act_schedRun_of_open {e : Nat} {s : State} (h : s.pair.gap = false) (st : Status) (ns : Nat) :
    (schedRun e st ns).act s = (schedResult e st ns).act ((schedAct e).act s) := by
  rw [schedRun, act_dyn, h]
  simp only [Bool.false_and, Bool.false_eq_true, if_false, act_seq_cons, act_seq_nil]

theorem schedSet_late :
    ∀ h p s, Accepted opSchedSet h p s → nth (p.map (·.toNat)) 0 ≤ 15 → s.actOk (nth (p.map (·.toNat)) 3) = true → s.todValid = true →
    0 ≤ s.lateness (nth (p.map (·.toNat)) 1 + nth (p.map (·.toNat)) 2 * 2 ^ 32) → s.inGrace (s.lateness (nth (p.map (·.toNat)) 1 + nth (p.map (·.toNat)) 2 * 2 ^ 32)) = true →
    TOD_SCHED_ACT.CODE.raw (nth (p.map (·.toNat)) 3) = 1 → s.pair.gap = false → Completes (.schedSet h p) s (fun t => t.replied h .late ∧
      t.rd TOD_SCHED_ACT.ARMED (nth (p.map (·.toNat)) 0) = 0 ∧ t.rd TOD_SCHED_STAT.STATUS (nth (p.map (·.toNat)) 0) = Status.late.code) := by
  intro h p s a h15 hok hvalid hlate hgrace hcode hgap
  refine completes_of_answer rfl a (by decide) (by simp only [opSchedSet, hok, hvalid, if_neg (not_lt.2 hlate), decide_eq_false (not_lt.2 h15), hgrace]; rfl) fun t k => ?_
  rw [k.rd (Fld.key_ne_of_apart (by decide) _ _), k.rd (Fld.key_ne_of_apart (by decide) _ _), act_seq_cons, act_seq_cons, act_seq_nil,
    act_schedRun_of_open (by rw [act_schedPut, apply_tod]; simpa only [pair_rules] using hgap)]
  obtain ⟨harmed, hstatus, -⟩ := schedResult_rules (nth (p.map (·.toNat)) 0) .late
    (s.lateness (nth (p.map (·.toNat)) 1 + nth (p.map (·.toNat)) 2 * 2 ^ 32)).toNat ((schedAct (nth (p.map (·.toNat)) 0)).act
      ((schedPut (nth (p.map (·.toNat)) 0) (nth (p.map (·.toNat)) 1 + nth (p.map (·.toNat)) 2 * 2 ^ 32) (nth (p.map (·.toNat)) 3)).act s))
  exact ⟨harmed, hstatus⟩

theorem schedCancel_does :
    Does .schedCancel opSchedCancel (fun p _ => nth p 0 ≤ 65535) (fun _ p _ t => ∀ e ∈ bitsSet 16 (nth p 0), t.on TOD_SCHED_ACT.ARMED e = false) := by
  refine does_of_okP (fun _ _ _ => rfl) ?_
  rintro h p s hmask
  refine ⟨_, _, by simp only [opSchedCancel, if_neg (not_lt.2 hmask)]; rfl, fun t k e he => ?_⟩
  have hput : ∀ (u : State) y, (put TOD_SCHED_ACT.ARMED 0 y).act u = u.wr TOD_SCHED_ACT.ARMED y 0 := fun u y => act_put _ _ _ _
  rw [State.on, k.keeps.rd (Fld.key_ne_of_apart (by decide) _ _), ← State.on]
  cases hon : s.on TOD_SCHED_ACT.ARMED e with
  | true =>
    have hzero : ((forE ((bitsSet 16 (nth p 0)).filter fun e => s.on TOD_SCHED_ACT.ARMED e) fun e => put TOD_SCHED_ACT.ARMED 0 e).act s).rd TOD_SCHED_ACT.ARMED e = 0 := by
      refine forE_once (fun u => u.rd TOD_SCHED_ACT.ARMED e) (g := fun _ => 0) ((bitsSet_nodup _ _).filter _) (List.mem_filter.2 ⟨he, hon⟩) (fun u => ?_) (fun y _ hy u => ?_) s
      · rw [hput, rd_wr_self]
        rfl
      · rw [hput, rd_wr_ne _ _ _ _ _ _ (Fld.key_ne_of_ne (by decide) (Ne.symm hy))]
    rw [State.on, hzero]
    rfl
  | false =>
    rw [← hon]
    refine forE_same (fun u => u.on TOD_SCHED_ACT.ARMED e) (fun y hy u => ?_) s
    have hne : e ≠ y := by
      rintro rfl
      rw [(List.mem_filter.1 hy).2] at hon
      cases hon
    rw [hput, State.on, rd_wr_ne _ _ _ _ _ _ (Fld.key_ne_of_ne (by decide) hne), State.on]

/-- Settles O27. -/
theorem timeCommands : Obligations.TimeCommands :=
  ⟨todGet_answers, todStep_relative, todStep_absolute, todRearm_does, todRateSet_does, ptpCfg_does, ptpPortSet_does, ptpStatus_answers,
    lineDelay_answers, asymAccept_does, schedSet_does, schedSet_late, schedCancel_does⟩

/-! ### Steps -/

/-- What the actions and results of scheduled entries leave: the count, and what waits to step it. -/
theorem schedAct_tod (e : Nat) (s : State) : ((schedAct e).act s).tod = s.tod := (keeps_schedAct e s).tod (by decide)

theorem schedResult_tod (e : Nat) (st : Status) (ns : Nat) (s : State) : ((schedResult e st ns).act s).tod = s.tod := (keeps_schedResult e st ns s).tod (by decide)

theorem schedRun_tod {β : Type} (P : TodSt → β) (h : ∀ t l, P { t with gapActs := l } = P t) (e : Nat) (st : Status) (ns : Nat) (s : State) :
    P ((schedRun e st ns).act s).tod = P s.tod := by
  rw [schedRun, act_dyn]
  split
  · simp only [act_rules, upd_rules, h]
  · rw [act_seq_cons, act_seq_cons, act_seq_nil, schedResult_tod, schedAct_tod]

theorem schedRecheck_tod {β : Type} (P : TodSt → β) (h : ∀ t l, P { t with gapActs := l } = P t) (s : State) : P (schedRecheck.act s).tod = P s.tod := by
  refine forE_same (fun u => P u.tod) (fun e _ u => ?_) s
  rw [act_dyn]
  dsimp only
  split
  · rfl
  · split
    · exact schedRun_tod P h _ _ _ u
    · rw [schedResult_tod]

/-- The count after it takes an exact value. -/
theorem setTod_todVal (v : Int) (s : State) : ((setTod v).act s).todVal = (v % (todPeriod : Int)).toNat := by
  simp only [setTod, act_rules, upd_rules, State.todVal, State.todNs]
  generalize (v % (todPeriod : Int)).toNat = n
  rw [Nat.div_add_mod', Nat.add_assoc, Nat.div_add_mod (n % todUnit) 25, Nat.div_add_mod']

theorem stepTo_rules (src : Nat) (new by_ : Int) (s : State) : ((stepTo src new by_).act s).todVal = (new % (todPeriod : Int)).toNat ∧
    ((stepTo src new by_).act s).rd TOD_STATUS.VALID = 1 ∧ ((stepTo src new by_).act s).rd TOD_STATUS.STEP_AVAIL = 0 ∧ ((stepTo src new by_).act s).tod.step = none := by
  refine ⟨?_, ?_, ?_, ?_⟩
  · rw [← setTod_todVal new s]
    simp only [stepTo, act_seq_cons, act_seq_nil, State.todVal, State.todNs]
    rw [schedRecheck_tod (·.sec) fun _ _ => rfl, schedRecheck_tod (·.ns) fun _ _ => rfl, schedRecheck_tod (·.frac) fun _ _ => rfl, schedRecheck_tod (·.rem) fun _ _ => rfl]
    simp only [act_rules, upd_rules, tod_rules]
  · simp (disch := decide) only [stepTo, act_rules, (keeps_schedRecheck _).rd, upd_rules, rd_rules, rd_mk]
    rfl
  · simp (disch := decide) only [stepTo, act_rules, (keeps_schedRecheck _).rd, upd_rules, rd_rules, rd_mk]
    rfl
  · simp only [stepTo, act_seq_cons, act_seq_nil]
    rw [schedRecheck_tod (·.step) fun _ _ => rfl]
    simp only [act_rules, upd_rules, tod_rules]

theorem todStepApply_absolute :
    ∀ s r, s.tod.step = some r → r.abs = true → 0 ≤ s.lateness (r.boundary / todUnit) → Completes .todStepApply s
    (fun t => t.todVal = ((r.value + s.todVal - r.boundary) % (todPeriod : Int)).toNat ∧ t.rd TOD_STATUS.VALID = 1 ∧
    t.rd TOD_STATUS.STEP_AVAIL = 0 ∧ t.tod.step = none) := by
  intro s r hr habs hlate
  refine ⟨_, rfl, ?_⟩
  simp only [act_dyn, hr, habs, if_true, act_whenE, decide_eq_true hlate]
  exact stepTo_rules _ _ _ s

theorem todStepApply_relative :
    ∀ s r, s.tod.step = some r → r.abs = false → Completes .todStepApply s (fun t => t.todVal = ((s.todVal + r.value) % (todPeriod : Int)).toNat ∧ t.rd TOD_STATUS.VALID = 1 ∧
    t.rd TOD_STATUS.STEP_AVAIL = 0 ∧ t.tod.step = none) := by
  intro s r hr habs
  refine ⟨_, rfl, ?_⟩
  simp only [act_dyn, hr, habs, Bool.false_eq_true, if_false]
  exact stepTo_rules _ _ _ s

theorem schedFire_completes :
    ∀ e s, s.on TOD_SCHED_ACT.ARMED e.val = true → 0 ≤ s.lateness (s.rd TOD_SCHED_T.ALL e.val) → s.pair.gap = false → Completes (.schedFire e) s
    (fun t => t.rd TOD_SCHED_ACT.ARMED e.val = 0 ∧ t.rd TOD_SCHED_STAT.STATUS e.val = Status.ok.code ∧ t.rd TOD_SCHED_STAT.LATE_US e.val = 0) := by
  intro e s harmed hlate hgap
  refine ⟨_, rfl, ?_⟩
  simp only [act_dyn, harmed, decide_eq_true hlate, Bool.and_self, act_whenE, if_true]
  rw [act_schedRun_of_open hgap]
  exact schedResult_rules _ _ _ _

theorem todLatch_completes :
    ∀ m s, s.takes m 11 → Completes (.todLatch m) s (fun t => t.rd TOD_LATCH_NS.ALL = nth (todWords s.todNext) 2 % 2 ^ TOD_LATCH_NS.ALL.width ∧
    t.rd TOD_CTRL.GEN = (s.rd TOD_CTRL.GEN + 1) % 2 ^ TOD_CTRL.GEN.width) := by
  intro m s ht
  refine completes_byMaster rfl ht fun t w => ?_
  simp (disch := decide) only [w.rd, todLatch, act_rules, rd_rules]
  trivial

theorem todCntClr_completes :
    ∀ m s, s.takes m 11 → Completes (.todCntClr m) s (fun t => t.cnt 272 = 0 ∧ t.cnt 273 = 0) := by
  intro m s ht
  refine completes_byMaster rfl ht fun t w => ?_
  have hclr : ∀ u ∈ todCntClr s, (∃ i, u = .preset i 0) ∨ ∃ f i v, u = .put f i v := fun u hu => by
    obtain ⟨i, -, rfl⟩ := List.mem_map.1 hu
    exact .inl ⟨i, rfl⟩
  exact ⟨(w.cnt (by decide)).trans (cnt_run_clears hclr s (.inl (by simp [todCntClr, clearList]))), (w.cnt (by decide)).trans (cnt_run_clears hclr s (.inl (by simp [todCntClr, clearList])))⟩

theorem timeBaseOk_completes :
    ∀ s, s.dev ≠ 0 → s.on TOD_STATUS.BASE_OK = false → Completes .timeBaseOk s (fun t => t.todVal = 0 ∧ t.rd TOD_STATUS.BASE_OK = 1) := by
  intro s hdev hbase
  refine ⟨_, rfl, ?_⟩
  have hcond : (s.dev != 0 && !s.on TOD_STATUS.BASE_OK) = true := by rw [hbase, bne_iff_ne.2 hdev]; rfl
  simp only [act_dyn, act_whenE, hcond, if_true, act_seq_cons, act_seq_nil]
  refine ⟨setTod_todVal 0 _, ?_⟩
  simp only [setTod, act_rules, upd_rules, rd_mk, rd_rules]
  rfl

theorem lineStampRx_completes :
    ∀ bs s, bs.length = 32 → nth (bs.map (·.toNat)) 0 = 0x54 → crc16 ((bs.map (·.toNat)).take 30) = ofBytes (((bs.map (·.toNat)).drop 30).take 2) →
    nativeMode (s.rd LRX_CTRL.MODE) = true → Completes (.lineStampRx bs) s (fun t => t.on TOD_STATUS.FAR_VALID = bit (nth (bs.map (·.toNat)) 1) 0) := by
  intro bs s hlen h54 hcrc hnat
  refine ⟨_, rfl, ?_⟩
  have hgood : ((bs.map (·.toNat)).length != 32 || nth (bs.map (·.toNat)) 0 != 84 ||
      crc16 ((bs.map (·.toNat)).take 30) != ofBytes (((bs.map (·.toNat)).drop 30).take 2) || !nativeMode (s.rd LRX_CTRL.MODE)) = false := by
    rw [List.length_map, hlen, h54, hcrc, hnat]
    simp
  simp only [act_dyn, hgood, Bool.false_eq_true, if_false, act_seq_cons, act_seq_nil, act_putB]
  have hset : (s.wr TOD_STATUS.FAR_VALID 0 (b2n (bit (nth (bs.map (·.toNat)) 1) 0))).on TOD_STATUS.FAR_VALID = bit (nth (bs.map (·.toNat)) 1) 0 := by
    rw [State.on, rd_wr_self]
    cases bit (nth (bs.map (·.toNat)) 1) 0 <;> rfl
  split
  · rw [(keeps_measure _ _ _).on (by decide), hset]
  · rw [act_nop, hset]

theorem Tab.get_filter {α : Type} (d : α) (t : Tab α) {q : Nat → Bool} {k : Nat} (h : q k = true) : Tab.get d (t.filter fun e => q e.1) k = Tab.get d t k := by
  induction t with
  | nil => rfl
  | cons e t ih =>
    obtain ⟨k', v⟩ := e
    rw [List.filter_cons]
    by_cases hk : k = k'
    · rw [if_pos (hk ▸ h), Tab.get, Tab.get, if_pos hk, if_pos hk]
    · split
      · rw [Tab.get, Tab.get, if_neg hk, if_neg hk, ih]
      · rw [ih, Tab.get, if_neg hk]

/-- A state that differs in the time's own part alone runs the same ports. -/
theorem ptpOn_tod (s : State) (g : TodSt → TodSt) (p : Nat) : ((Upd.tod g).apply s).ptpOn p = s.ptpOn p := rfl

theorem annRx_annOf {p : Nat} {a : List Nat} {s : State} (h : s.ptpOn p = true) : ((annRx p a).act s).annOf p = a := by
  rw [State.annOf, annRx, act_dyn, act_seq_cons, act_seq_cons, act_seq_nil, syncPorts_tod (fun x => Tab.get [] x.ann p) (fun _ => rfl) fun _ => rfl]
  dsimp only
  rw [Tab.get_filter _ _ (q := fun k => State.ptpOn _ k) (by rw [act_upd, ptpOn_tod, h]), act_upd]
  exact Tab.get_set_self [] s.tod.ann p a

theorem lineAnnounceRx_completes :
    ∀ bs s, bs.length = 33 → nth (bs.map (·.toNat)) 0 = 0x41 → crc16 ((bs.map (·.toNat)).take 31) = ofBytes ((bs.map (·.toNat)).drop 31) → s.ptpOn 32 = true →
    Completes (.lineAnnounceRx bs) s (fun t => t.annOf 32 = ((bs.map (·.toNat)).drop 1).take 30) := by
  intro bs s hlen h41 hcrc hon
  refine ⟨_, rfl, ?_⟩
  have hgood : ((bs.map (·.toNat)).length == 33 && nth (bs.map (·.toNat)) 0 == 65 && crc16 ((bs.map (·.toNat)).take 31) == ofBytes ((bs.map (·.toNat)).drop 31) && s.ptpOn 32) = true := by
    rw [List.length_map, hlen, h41, hcrc, hon]
    simp
  simp only [act_dyn, act_whenE, hgood, if_true]
  exact annRx_annOf hon

theorem asymHoldEnd_completes :
    ∀ s, s.on TOD_STATUS.PATH_ASYM = true → s.tod.wait = none → s.tod.holdOk = true → s.todValid = true → s.on TOD_STATUS.FAR_VALID = true → Completes .asymHoldEnd s
    (fun t => t.rd TOD_STATUS.PATH_ASYM = 0 ∧ t.rd TOD_STATUS.HOLD_LEFT = 0 ∧ t.tod.delay = []) := by
  intro s hasym hwait hhold hvalid hfar
  refine ⟨_, rfl, ?_⟩
  simp only [act_dyn, hasym, hwait, hhold, hvalid, hfar, Bool.not_true, Option.isSome_none, Bool.or_self, Bool.false_eq_true, if_false, act_seq_cons, act_seq_nil, act_whenE, Bool.and_self, if_true, acceptAsym]
  refine ⟨?_, ?_, ?_⟩
  · simp (disch := decide) only [act_rules, upd_rules, (keeps_syncServo _).rd, rd_rules, rd_mk]
    rfl
  · simp (disch := decide) only [act_rules, upd_rules, (keeps_syncServo _).rd, rd_rules, rd_mk]
    rfl
  · simp only [act_rules, upd_rules]
    rw [syncServo_tod (·.delay) fun _ => rfl]
    simp only [tod_rules]

/-- Settles O28. -/
theorem timeEvents : Obligations.TimeEvents :=
  ⟨todStepApply_absolute, todStepApply_relative, schedFire_completes, todLatch_completes, todCntClr_completes, timeBaseOk_completes,
    lineStampRx_completes, lineAnnounceRx_completes, asymHoldEnd_completes⟩

/-! ### The servo -/

theorem portTo_ptpSt {p st : Nat} (h : st < 2 ^ TOD_PORT_STAT.STATE.width) (s : State) : ((portTo p st).act s).ptpSt p = st := by
  rw [portTo, act_dyn, act_whenE]
  split
  · simp (disch := decide) only [State.ptpSt, act_rules, rd_any_rules, Nat.mod_eq_of_lt h]
  · simpa using (‹¬ _› : ¬ (s.ptpSt p != st) = true)

/-- Entering HOLD with rates on record sets their mean (R495). -/
theorem syncServo_holds {s : State} (hw : s.servoWant = 3) (hservo : s.servo ≠ 3) (hen : s.on TOD_SERVO_CFG.EN = true) (hrates : s.tod.rates ≠ []) :
    (syncServo.act s).rd TOD_RATE.ALL = TOD_RATE.ALL.pat (meanRate s.tod.rates) % 2 ^ TOD_RATE.ALL.width := by
  have hsome : s.tod.rates.isEmpty = false := by rwa [List.isEmpty_eq_false_iff]
  rw [syncServo, act_dyn]
  simp only [hw, if_neg (Ne.symm hservo), act_rules, upd_rules, BEq.rfl, hen, hsome, Bool.not_false, Bool.and_self, if_true, rd_ite, rd_mk, rd_wr_self, ite_self]

/-- The rate a parent lost to a jump leaves while LOCKED: the mean of the last rates, not the one the loop called for (R495, R496). -/
theorem servoSecond_jumps {s : State} {p : Nat} {off : Int} (hpar : s.parent = some p) (hoff : s.filtered = some off) (hen : s.on TOD_SERVO_CFG.EN = true)
    (hst : s.ptpSt p = 3) (hasym : s.on TOD_STATUS.PATH_ASYM = false) (hservo : s.rd TOD_STATUS.SERVO = 2) (hjump : s.jumpThr < off.natAbs) (hfar : s.tod.far = 15) :
    ∃ t, exec .servoSecond s = .next t ∧ t.rd TOD_RATE.ALL = TOD_RATE.ALL.pat (meanRate (((s.servoLoop off).2 :: s.tod.rates).take 16)) % 2 ^ TOD_RATE.ALL.width := by
  refine ⟨_, rfl, ?_⟩
  have hfrozen : s.servoFrozen = false := by rw [State.servoFrozen, hasym, Bool.and_false]
  simp only [act_seq_cons, act_seq_nil, act_dyn, act_whenE, hasym, Bool.false_eq_true, if_false, hpar, hoff, hen, hst, hfrozen, hfar, if_pos hjump, bne_self_eq_false, Bool.not_true, Bool.or_self,
    decide_true, le_refl, if_true]
  generalize hv : (upd (.tod fun t => { t with good := 0 })).act ((portTo p 2).act _) = v
  have hrd : ∀ f : Fld, f.clearOf 0 (Touch.portTo.flds ++ sharedFlds) = true → f.apart TOD_RATE.ALL = true → f.apart TOD_OFFSET.ALL = true → v.rd f = s.rd f := fun f h1 h2 h3 => by
    rw [← hv, act_upd, apply_tod, rd_mk, (keeps_portTo _ _ _).rd h1]
    simp only [putOffset, act_rules, upd_rules, rd_mk, rd_wr_ne _ _ _ _ _ _ (Fld.key_ne_of_apart h2 _ _), rd_wr_ne _ _ _ _ _ _ (Fld.key_ne_of_apart h3 _ _)]
  have hon : ∀ f : Fld, f.clearOf 0 (Touch.portTo.flds ++ sharedFlds) = true → f.apart TOD_RATE.ALL = true → f.apart TOD_OFFSET.ALL = true → v.on f = s.on f := fun f h1 h2 h3 => by
    rw [State.on, hrd f h1 h2 h3, State.on]
  have hvpar : v.parent = some p := by rw [← hpar, State.parent, hrd _ (by decide) (by decide) (by decide), State.parent]
  have hvservo : v.servo = 2 := (hrd _ (by decide) (by decide) (by decide)).trans hservo
  have hvst : v.ptpSt p = 2 := by
    rw [← hv, act_upd, apply_tod, State.ptpSt, rd_mk]
    exact portTo_ptpSt (by decide) _
  have hvasym : v.on TOD_STATUS.PATH_ASYM = false := (hon _ (by decide) (by decide) (by decide)).trans hasym
  have hvrates : v.tod.rates = ((s.servoLoop off).2 :: s.tod.rates).take 16 := by
    simp (disch := decide) only [← hv, act_upd, apply_tod, (keeps_portTo _ _ _).tod, putOffset, act_putI, tod_rules]
  have hwant : v.servoWant = 3 := by simp [State.servoWant, hvpar, hvasym, hvst, hvservo]
  rw [syncServo_holds hwant (by rw [hvservo]; decide) ((hon _ (by decide) (by decide) (by decide)).trans hen) (by rw [hvrates]; simp), hvrates]

/-- A servo LOCKED to port 0, its rate held to 0, whose parent has stood off by more than the jump threshold for 15 s. -/
def jumpingServo : State :=
  { (((((({} : State).wr TOD_STATUS.PARENT 0 1).wr TOD_STATUS.SERVO 0 2).wr TOD_PORT_STAT.STATE 0 3).wr TOD_SERVO_CFG.EN 0 1).wr TOD_SERVO_CFG.RATE_MAX 0 0) with
    tod := { samples := [(0, 10 ^ 9)], far := 15, rates := [1000] } }

theorem servoLoop_jumpingServo (off : Int) : (jumpingServo.servoLoop off).2 = 0 := by
  have hmax : jumpingServo.rd TOD_SERVO_CFG.RATE_MAX = 0 := by decide +kernel
  simp only [State.servoLoop, State.limitRate, hmax, clampI]
  omega

/-- Refutes O29: the second that makes a LOCKED parent a new one for its jump also puts the servo in HOLD, so that TOD_RATE takes the mean of the last
rates and not the loop's (R495, R496). -/
theorem not_clockEvents : ¬ Obligations.ClockEvents := by
  rintro ⟨-, -, -, -, -, -, hsecond, -⟩
  have hpar : jumpingServo.parent = some 0 := by decide +kernel
  have hoff : jumpingServo.filtered = some (10 ^ 9) := by decide +kernel
  have hen : jumpingServo.on TOD_SERVO_CFG.EN = true := by decide +kernel
  have hst : jumpingServo.ptpSt 0 = 3 := by decide +kernel
  have hasym : jumpingServo.on TOD_STATUS.PATH_ASYM = false := by decide +kernel
  obtain ⟨t, ht, -, -, hrate, -⟩ := hsecond jumpingServo 0 (10 ^ 9) hpar hoff hen hst hasym
  obtain ⟨u, hu, hmean⟩ := servoSecond_jumps hpar hoff hen hst hasym (by decide +kernel) (by decide +kernel) rfl
  rw [hu] at ht
  injection ht with ht
  rw [← ht, hmean, servoLoop_jumpingServo] at hrate
  exact absurd hrate (by decide +kernel)


end Sys2Proof.Machine

/-!
The pair: its commands, the link, the journal and the switch of roles (R507 to R548).
-/
namespace Sys2Proof.Machine
open Sys2Proof

-- The kernel evaluates many small footprints: one thread serves them all.
set_option Elab.async false


/-! ### What keeps of the pair's own part -/

section
variable {β : Type} {P : PairSt → β} {m : May} {s t : State}

/-- A part of the pair that neither the journal nor the sessions told belong to. -/
def BesideJournal (P : PairSt → β) : Prop := ∀ q r : PairSt,
  P { q with wait := r.wait, kept := r.kept, keptBytes := r.keptBytes, cutBytes := r.cutBytes, jcut := r.jcut, untold := r.untold } = P q

theorem same_pairOf (hP : BesideJournal P) (h : Comp.pair.same s t) : P t.pair = P s.pair :=
  (hP t.pair s.pair).symm.trans (congrArg P h)

theorem Keeps.pairOf (k : Keeps m s t) (h : Comp.pair ∉ m.comps) (hP : BesideJournal P) : P t.pair = P s.pair := same_pairOf hP (k.comps .pair h)

theorem Keeps.held (k : Keeps m s t) (h : Comp.sys ∉ m.comps) : t.sys.held = s.sys.held := by
  have hsys : _ = s.sys := k.comps .sys h
  exact (congrArg SysSt.held hsys :)

theorem OnlyReplies.pairOf (k : OnlyReplies s t) (hP : BesideJournal P) : P t.pair = P s.pair := same_pairOf hP (k.comps .pair (by decide))

end

/-! ### Roles -/

/-- `g` where `c` holds. -/
def whenP (c : Bool) (g : PairSt → PairSt) (q : PairSt) : PairSt := if c then g q else q

theorem whenP_same {β : Type} (P : PairSt → β) {g : PairSt → PairSt} (h : ∀ q, P (g q) = P q) (c : Bool) (q : PairSt) : P (whenP c g q) = P q := by
  rw [whenP]
  split
  · exact h q
  · rfl

/-- The pair's part as a unit's role goes from `old` to `new` (R509, R511, R541). -/
def roleTaken (old new tick : Nat) (q : PairSt) : PairSt :=
  whenP (new == 0 || new == 1) (fun q => { q with returning := false }) (whenP (new == 3) (fun q => { q with snapIn := false })
    (whenP (new == 0) (fun q => { q with joinOk := false }) (whenP (new == 1) (fun q => { q with activeAt := tick })
      (whenP (old == 1) (fun q => { q with sel0 := false, sel1 := false }) q))))

/-- What a change of role leaves of the pair's part. -/
theorem roleTaken_same {β : Type} (P : PairSt → β) (hP : ∀ (q : PairSt) a b c d e n, P { q with sel0 := a, sel1 := b, joinOk := c, snapIn := d, returning := e, activeAt := n } = P q)
    (old new tick : Nat) (q : PairSt) : P (roleTaken old new tick q) = P q := by
  rw [roleTaken, whenP_same P (fun q => by exact hP q _ _ _ _ _ _), whenP_same P (fun q => by exact hP q _ _ _ _ _ _), whenP_same P (fun q => by exact hP q _ _ _ _ _ _),
    whenP_same P (fun q => by exact hP q _ _ _ _ _ _), whenP_same P (fun q => by exact hP q _ _ _ _ _ _)]

theorem roleTaken_sel (old new tick : Nat) (q : PairSt) : (roleTaken old new tick q).sel0 = (old != 1 && q.sel0) ∧ (roleTaken old new tick q).sel1 = (old != 1 && q.sel1) := by
  rw [roleTaken]
  refine ⟨?_, ?_⟩
  · rw [whenP_same (·.sel0) fun _ => by rfl, whenP_same (·.sel0) fun _ => by rfl, whenP_same (·.sel0) fun _ => by rfl, whenP_same (·.sel0) fun _ => by rfl, whenP, bne]
    cases old == 1 <;> rfl
  · rw [whenP_same (·.sel1) fun _ => by rfl, whenP_same (·.sel1) fun _ => by rfl, whenP_same (·.sel1) fun _ => by rfl, whenP_same (·.sel1) fun _ => by rfl, whenP, bne]
    cases old == 1 <;> rfl

theorem setRole_same {new : Nat} (row : Nat) {s : State} (h : s.role = new) : (setRole new row).act s = s := by
  rw [setRole, act_dyn]
  exact congrArg (fun e => Eff.act e s) (if_pos h)

theorem whenE_same {β : Type} (P : State → β) {e : Eff} (h : ∀ u, P (e.act u) = P u) (c : Bool) (s : State) : P ((whenE c e).act s) = P s := by
  rw [act_whenE]
  split
  · exact h s
  · rfl

/-- What changes the pair's part by `g` changes it so where it is due. -/
theorem whenE_pair {e : Eff} {g : PairSt → PairSt} (h : ∀ u, (e.act u).pair = g u.pair) (c : Bool) (s : State) : ((whenE c e).act s).pair = whenP c g s.pair := by
  rw [act_whenE, whenP]
  split
  · exact h s
  · rfl

theorem setRole_pairOf {β : Type} {P : PairSt → β} (hP : BesideJournal P) {new : Nat} (row : Nat) {s : State} (h : s.role ≠ new) :
    P ((setRole new row).act s).pair = P (roleTaken s.role new s.tick s.pair) := by
  rw [setRole, act_dyn]
  dsimp only
  rw [if_neg h]
  simp only [act_seq_cons, act_seq_nil]
  rw [(keeps_syncPorts _).pairOf (by decide) hP, act_raise]
  refine congrArg P ?_
  simp only [pair_rules]
  rw [whenE_pair (g := fun q => { q with returning := false }) fun _ => rfl, whenE_pair (g := fun q => { q with snapIn := false }) fun _ => rfl,
    whenE_pair (g := fun q => { q with joinOk := false }) fun _ => rfl, whenE_same (·.pair) fun _ => rfl, whenE_pair (g := fun q => { q with activeAt := s.tick }) fun _ => rfl,
    whenE_pair (g := fun q => { q with sel0 := false, sel1 := false }) fun _ => rfl]
  rfl

theorem setRole_role {new : Nat} (row : Nat) (s : State) (h : new < 8) : ((setRole new row).act s).role = new := by
  by_cases hr : s.role = new
  · rw [setRole_same row hr, hr]
  · rw [setRole, act_dyn]
    dsimp only
    rw [if_neg hr, act_seq_cons]
    refine (act_seqE_same (·.role) ?_ _).trans ((rd_wr_self _ _ _ _).trans (Nat.mod_eq_of_lt h))
    simp only [List.forall_mem_cons]
    refine ⟨whenE_same (·.role) (fun _ => rfl) _, whenE_same (·.role) (fun _ => rfl) _, whenE_same (·.role) (fun u => ?_) _, whenE_same (·.role) (fun _ => rfl) _,
      whenE_same (·.role) (fun u => ?_) _, whenE_same (·.role) (fun _ => rfl) _, fun u => rd_raise _ _ _ _ _ (by decide), fun u => (keeps_syncPorts u).rd (by decide), ?_⟩
    · simp (disch := decide) only [State.role, act_rules, rd_rules]
    · simp (disch := decide) only [State.role, act_rules, upd_rules, rd_rules, rd_mk]
    · exact fun x hx => absurd hx List.not_mem_nil

/-- What a change of role leaves of the pair's part, journal aside. -/
theorem setRole_kept {β : Type} {P : PairSt → β} (hJ : BesideJournal P)
    (hP : ∀ (q : PairSt) a b c d e n, P { q with sel0 := a, sel1 := b, joinOk := c, snapIn := d, returning := e, activeAt := n } = P q) (new row : Nat) (s : State) :
    P ((setRole new row).act s).pair = P s.pair := by
  by_cases h : s.role = new
  · rw [setRole_same row h]
  · rw [setRole_pairOf hJ row h, roleTaken_same P hP]

/-- A unit that takes another role, or keeps its own, from ACTIVE on releases the select lines; else they stand (R509). -/
theorem setRole_sel {new : Nat} (row : Nat) {s : State} (h : s.role ≠ new) :
    ((setRole new row).act s).pair.sel0 = (s.role != 1 && s.pair.sel0) ∧ ((setRole new row).act s).pair.sel1 = (s.role != 1 && s.pair.sel1) := by
  obtain ⟨h0, h1⟩ := roleTaken_sel s.role new s.tick s.pair
  exact ⟨(setRole_pairOf (P := (·.sel0)) (fun _ _ => rfl) row h).trans h0, (setRole_pairOf (P := (·.sel1)) (fun _ _ => rfl) row h).trans h1⟩

theorem rederive_role (mask : Nat) (s : State) : ((rederive mask).act s).role = s.role := (keeps_rederive mask s).rd (by decide +kernel)

/-- A unit promoted: ACTIVE, its select lines asserted, in the switchover gap (R533). -/
theorem promote_rules (trigger row : Nat) {s : State} (h : s.role ≠ 1) : ((promote trigger row).act s).role = 1 ∧ ((promote trigger row).act s).pair.sel0 = true ∧
    ((promote trigger row).act s).pair.sel1 = true ∧ ((promote trigger row).act s).pair.gap = true := by
  rw [promote, act_dyn]
  simp only [act_seq_cons, act_seq_nil, rederive_role, act_raise]
  generalize hu : (setSel true true).act _ = u
  have hur : u.role = s.role := by rw [← hu]; rfl
  have hub : u.pair.sel0 = true ∧ u.pair.sel1 = true ∧ u.pair.gap = true := by rw [← hu]; exact ⟨rfl, rfl, rfl⟩
  obtain ⟨hs0, hs1, hgap⟩ := hub
  have hne : (u.role != 1) = true := bne_iff_ne.2 (hur ▸ h)
  obtain ⟨h0, h1⟩ := setRole_sel row (new := 1) (s := u) (hur ▸ h)
  refine ⟨?_, ?_, ?_, ?_⟩
  · exact (rd_raise _ _ _ _ _ (by decide)).trans (setRole_role row u (by decide))
  · rw [(keeps_rederive _ _).pairOf (P := (·.sel0)) (by decide) fun _ _ => rfl]
    simp only [pair_rules, h0, hne, hs0, Bool.and_self]
  · rw [(keeps_rederive _ _).pairOf (P := (·.sel1)) (by decide) fun _ _ => rfl]
    simp only [pair_rules, h1, hne, hs1, Bool.and_self]
  · rw [(keeps_rederive _ _).pairOf (P := (·.gap)) (by decide) fun _ _ => rfl]
    simp only [pair_rules]
    exact (setRole_kept (P := (·.gap)) (fun _ _ => rfl) (fun _ _ _ _ _ _ _ => rfl) 1 row u).trans hgap

/-! ### Commands -/

theorem pairCfg_does :
    Does .pairCfg opPairCfg (fun p _ => ∀ k < 5, wordOk (pairCfgRegs.getD k []) (nth p k) = true)
    (fun _ p _ t => t.rd PAIR_TIMERS.WTR = PAIR_TIMERS.WTR.raw (nth p 1) ∧ t.rd PAIR_CTRL.REVERT = PAIR_CTRL.REVERT.raw (nth p 0) ∧
      t.rd PAIR_MATE_ID.ALL = (nth p 5 + nth p 6 * 2 ^ 32) % 2 ^ 64) := by
  refine does_of_okE (fun _ _ _ => rfl) ?_
  rintro h p s hw
  have hall : (List.range 5).all (fun k => wordOk (pairCfgRegs.getD k []) (nth p k)) = true := List.all_eq_true.2 fun k hk => hw k (List.mem_range.1 hk)
  refine ⟨_, by simp only [opPairCfg, hall]; rfl, fun t k => ?_⟩
  have hclr : ∀ (f : Fld) (c : Bool) (u : State), ((whenE c pairCntClr).act u).rd f = u.rd f := fun f c u => whenE_same (fun x => x.rd f) (fun _ => rfl) c u
  simp (disch := decide) only [k.rd, act_seq_cons, act_seq_nil, (keeps_joinPair _).rd, (keeps_pairEnSync _).rd, hclr, act_put, rd_wr_ne, rd_wr_self]
  refine ⟨forE_putWord_rd p s (k := 1) (by decide) ?_ (by decide) (by decide) (by decide), forE_putWord_rd p s (k := 0) (by decide) ?_ (by decide) (by decide) (by decide), rfl⟩
  all_goals simp [pairCfgRegs, PAIR_CTRL.fields, PAIR_TIMERS.fields]

theorem pairStatus_answers :
    Answers .pairStatus opPairStatus (fun _ _ => True) (fun _ s => [s.word PAIR_STATUS.fields, s.rd PAIR_EPOCH.ALL, s.rd PAIR_JSEQ.ALL,
    s.rd PAIR_JACK.ALL] ++ w64 (s.rd PAIR_MATE_ID.ALL) ++ (List.range 6).flatMap (fun k => w64 (s.cnt (280 + k)))) := by
  exact answers_of_body (fun _ _ _ => rfl) fun h p s _ => ⟨_, rfl, rfl⟩

theorem OnlyReplies.role {s t : State} (k : OnlyReplies s t) : t.role = s.role := k.rd (by decide)

theorem pairSwitch_promotes :
    Does .pairSwitch opPairSwitch (fun p s => nth p 0 = 0 ∧ s.paired ∧ s.role = 2 ∧ s.healthy)
    (fun _ _ _ t => t.role = 1 ∧ t.pair.sel0 = true ∧ t.pair.sel1 = true ∧ t.pair.gap = true) := by
  refine does_of_okP (fun _ _ _ => rfl) ?_
  rintro h p s ⟨h0, hpaired, hrole, hhealthy⟩
  refine ⟨_, _, by simp only [opPairSwitch, h0, hpaired, hrole, hhealthy]; rfl, fun t k => ?_⟩
  obtain ⟨hr, hs0, hs1, hgap⟩ := promote_rules 7 s.role (s := s) (by rw [hrole]; decide)
  rw [hrole] at hr hs0 hs1 hgap
  exact ⟨k.keeps.role.trans hr, (k.keeps.pairOf (P := (·.sel0)) fun _ _ => rfl).trans hs0, (k.keeps.pairOf (P := (·.sel1)) fun _ _ => rfl).trans hs1,
    (k.keeps.pairOf (P := (·.gap)) fun _ _ => rfl).trans hgap⟩

theorem pairSwitch_releases :
    Does .pairSwitch opPairSwitch (fun p s => nth p 0 = 1 ∧ s.paired ∧ s.role = 1 ∧ s.rd PAIR_STATUS.MATE_ROLE = 3)
    (fun _ _ _ t => t.role = 2 ∧ t.pair.sel0 = false ∧ t.pair.sel1 = false) := by
  refine does_of_okP (fun _ _ _ => rfl) ?_
  rintro h p s ⟨h1, hpaired, hrole, hmate⟩
  refine ⟨_, _, by simp only [opPairSwitch, h1, hpaired, hrole, hmate]; rfl, fun t k => ?_⟩
  rw [act_seq_cons, act_seq_cons, act_seq_nil] at k
  have hown : ((toMate 4 [7]).act s).role = 1 := hrole
  obtain ⟨hs0, hs1⟩ := setRole_sel (new := 2) 11 (s := (toMate 4 [7]).act s) (by rw [hown]; decide)
  rw [hown] at hs0 hs1
  exact ⟨k.keeps.role.trans (setRole_role _ _ (by decide)), (k.keeps.pairOf (P := (·.sel0)) fun _ _ => rfl).trans hs0, (k.keeps.pairOf (P := (·.sel1)) fun _ _ => rfl).trans hs1⟩

theorem pairPromote_does :
    Does .pairPromote opPairPromote (fun _ s => s.paired ∧ (s.role = 3 ∨ s.role = 4)) (fun _ _ _ t => t.role = 1 ∧ t.pair.sel0 = true ∧ t.pair.sel1 = true) := by
  refine does_of_okP (fun _ _ _ => rfl) ?_
  rintro h p s ⟨hpaired, hrole⟩
  have hcond : (!s.paired || !(s.role == 3 || s.role == 4)) = false := by rcases hrole with h | h <;> simp [hpaired, h]
  refine ⟨_, _, by simp only [opPairPromote, hcond]; rfl, fun t k => ?_⟩
  obtain ⟨hr, hs0, hs1, -⟩ := promote_rules 7 4 (s := s) (by rcases hrole with h | h <;> rw [h] <;> decide)
  exact ⟨k.keeps.role.trans hr, (k.keeps.pairOf (P := (·.sel0)) fun _ _ => rfl).trans hs0, (k.keeps.pairOf (P := (·.sel1)) fun _ _ => rfl).trans hs1⟩

theorem pairOos_does :
    Does .pairOos opPairOos (fun _ _ => True) (fun _ _ s t => t.role = 0 ∧ (s.role = 1 → t.pair.sel0 = false ∧ t.pair.sel1 = false)) := by
  refine does_of_okE (fun _ _ _ => rfl) fun h p s _ => ⟨_, rfl, fun t k => ?_⟩
  rw [act_seq_cons, act_seq_cons, act_seq_nil, act_upd, apply_pair] at k
  refine ⟨k.role.trans (setRole_role 1 s (by decide)), fun hrole => ?_⟩
  obtain ⟨hs0, hs1⟩ := setRole_sel (new := 0) 1 (s := s) (by rw [hrole]; decide)
  rw [hrole] at hs0 hs1
  exact ⟨(k.pairOf (P := (·.sel0)) fun _ _ => rfl).trans hs0, (k.pairOf (P := (·.sel1)) fun _ _ => rfl).trans hs1⟩

theorem joinPair_unlinked {s : State} (h : s.on PAIR_STATUS.LINK = false) : joinPair.act s = s := by
  rw [joinPair, act_dyn]
  simp only [h, Bool.and_false, Bool.false_and, Bool.not_false, if_true, act_nop]

theorem pairReturn_does :
    Does .pairReturn opPairReturn (fun _ s => s.role = 0 ∧ s.on PAIR_STATUS.LINK = false) (fun _ _ _ t => t.pair.joinOk = true ∧ t.pair.unresHold = false) := by
  refine does_of_okE (fun _ _ _ => rfl) ?_
  rintro h p s ⟨hrole, hlink⟩
  refine ⟨_, by simp only [opPairReturn, hrole]; rfl, fun t k => ?_⟩
  rw [act_seq_cons, act_seq_cons, act_seq_nil, act_upd, apply_pair, joinPair_unlinked (by exact hlink)] at k
  exact ⟨k.pairOf (P := (·.joinOk)) fun _ _ => rfl, k.pairOf (P := (·.unresHold)) fun _ _ => rfl⟩

theorem act_toMate (kind : Nat) (body : List Nat) (s : State) : (toMate kind body).act s = { s with out := s.mitre kind body :: s.out } := rfl

theorem cutSnapshot_rules (s : State) : (cutSnapshot.act s).rd PAIR_EPOCH.ALL = (s.rd PAIR_EPOCH.ALL + 1) % 2 ^ 32 ∧ (cutSnapshot.act s).pair.jcut = s.rd PAIR_JSEQ.ALL := by
  simp only [cutSnapshot, act_toMate, act_rules, upd_rules, rd_mk, rd_rules]
  exact ⟨rfl, trivial⟩

theorem pairSnapshot_does :
    Does .pairSnapshot opPairSnapshot (fun _ s => s.role = 1) (fun _ _ s t => t.rd PAIR_EPOCH.ALL = (s.rd PAIR_EPOCH.ALL + 1) % 2 ^ 32 ∧ t.pair.jcut = s.rd PAIR_JSEQ.ALL) := by
  refine does_of_okP (fun _ _ _ => rfl) ?_
  rintro h p s hrole
  refine ⟨_, _, by simp only [opPairSnapshot, hrole]; rfl, fun t k => ?_⟩
  obtain ⟨-, -, -, -, hjcut⟩ := k.keeps.comps .journal (by decide)
  rw [hjcut, k.keeps.rd (by decide)]
  exact cutSnapshot_rules s

theorem pairSpares_answers :
    Answers .pairSpares opPairSpares (fun _ _ => True) (fun _ s => (List.range 64).map (fun e => s.word PAIR_ENG.fields e)) := by
  exact answers_of_body (fun _ _ _ => rfl) fun h p s _ => ⟨_, rfl, rfl⟩

/-- Settles O30. -/
theorem pairCommands : Obligations.PairCommands :=
  ⟨pairCfg_does, pairStatus_answers, pairSwitch_promotes, pairSwitch_releases, pairPromote_does, pairOos_does, pairReturn_does, pairSnapshot_does,
    pairSpares_answers⟩

/-! ### Heartbeats, the link and Peg -/

theorem heartbeatTx_completes :
    ∀ s, s.paired → Completes .heartbeatTx s (fun t => s.mitre 1 [s.role, b2n s.healthy, s.rd PAIR_EPOCH.ALL,
    if s.role = 1 then s.rd PAIR_JACK.ALL else s.rd PAIR_JSEQ.ALL, b2n (s.stage == 10), b2n s.inFrame] ∈ s.sentSince t) := by
  intro s hp
  refine ⟨_, rfl, ?_⟩
  rw [act_dyn, hp, act_whenE, if_pos rfl, act_seq_cons, act_seq_cons, act_seq_cons, act_seq_cons, act_seq_nil]
  refine mem_sentSince (keeps_sendChanged _) ?_
  rw [whenE_same (·.out) fun _ => by rfl, whenE_same (·.out) fun _ => by rfl, act_toMate]

theorem heartbeatRx_completes :
    ∀ r hl e a lk fr ask s, s.paired → s.on PAIR_STATUS.LINK → s.role = 0 → Completes (.heartbeatRx r hl e a lk fr ask) s
    (fun t => t.rd PAIR_STATUS.MATE_ROLE = r.val ∧ t.pair.mateHealthy = hl ∧ t.pair.mateLocked = lk ∧ t.pair.mateEpoch = e.toNat) := by
  intro r hl e a lk fr ask s hp hlink hrole
  refine ⟨_, rfl, ?_⟩
  simp only [act_dyn, hp, hlink, hrole, Bool.and_self, Bool.not_true, Bool.false_eq_true, if_false, act_seq_cons, act_seq_nil, act_whenE, (by decide : ((0 : Nat) == 2) = false),
    (by decide : ((0 : Nat) == 1) = false), Bool.false_and, decide_eq_false (by decide : ¬ 10 ≤ 0), act_upd, apply_pair, act_put, rd_mk, rd_wr_self]
  exact ⟨Nat.mod_eq_of_lt (show r.val < 8 by omega), trivial, trivial, trivial⟩

theorem mitreLinkLost_completes :
    ∀ g s, s.on PAIR_STATUS.LINK → s.role = 2 → s.pair.death = false → Completes (.mitreLinkLost g) s
    (fun t => t.rd PAIR_STATUS.LINK = 0 ∧ t.rd PAIR_STATUS.MATE_ROLE = 7 ∧ t.pair.death = true) := by
  intro g s hlink hrole hdeath
  refine ⟨_, rfl, ?_⟩
  simp only [act_dyn, hlink, hrole, hdeath, Bool.not_true, Bool.false_and, Bool.false_eq_true, if_false, BEq.rfl, if_true, act_seq_cons, act_seq_nil]
  simp (disch := decide) only [act_rules, upd_rules, rd_rules, rd_mk]
  trivial

theorem joinPair_of_role {s : State} (h : s.role ≠ 0) : joinPair.act s = s := by
  rw [joinPair, act_dyn]
  simp only [beq_eq_false_iff_ne.2 h, Bool.and_false, Bool.false_and, Bool.not_false, if_true, act_nop]

theorem mitreLinkUp_completes :
    ∀ x s, s.paired → s.on PAIR_STATUS.LINK = false → s.role = 2 → x.id.toNat = s.rd PAIR_MATE_ID.ALL → x.certOk → x.sigOk → x.fmt = s.snapFmt →
    Completes (.mitreLinkUp x) s (fun t => t.rd PAIR_STATUS.LINK = 1 ∧ t.rd PAIR_STATUS.MATE_ROLE = x.role.toNat ∧ t.pair.mateId = x.id.toNat) := by
  intro x s hp hlink hrole hid hcert hsig hfmt
  refine ⟨_, rfl, ?_⟩
  rw [linkUp, act_dyn]
  simp only [hp, hlink, hid, hcert, hsig, hfmt, bne_self_eq_false, Bool.not_true, Bool.or_self, Bool.false_eq_true, if_false, act_seq_cons, act_seq_nil]
  generalize hu : (raise EV.PAIR_LINK_UP _).act _ = u
  have hurole : u.role = 2 := by
    rw [← hu, State.role]
    simp (disch := decide) only [act_rules, upd_rules, rd_rules, rd_mk, (keeps_keyMitre _ _).rd]
    exact hrole
  have hulink : u.rd PAIR_STATUS.LINK = 1 ∧ u.rd PAIR_STATUS.MATE_ROLE = x.role.toNat := by
    rw [← hu]
    simp (disch := decide) only [act_rules, upd_rules, rd_rules, rd_mk, (keeps_keyMitre _ _).rd]
    exact ⟨rfl, Nat.mod_eq_of_lt x.role.isLt⟩
  have humate : u.pair.mateId = x.id.toNat := by
    rw [← hu, act_raise]
    simp only [pair_rules]
    rw [(keeps_keyMitre _ _).pairOf (P := (·.mateId)) (by decide) fun _ _ => rfl]
    exact hid.symm
  have hrest : ∀ (c d : Bool) (e : Eff), ((if (u.role == 1 && c) = true then e else if (u.role == 1) = true then whenE d cutSnapshot else whenE (u.role == 3) (toMate 5 [])) : Eff).act u = u := fun c d e => by
    rw [hurole]
    rfl
  rw [joinPair_of_role (by rw [hurole]; decide), act_dyn, hrest]
  exact ⟨hulink.1, hulink.2, humate.trans hid⟩

theorem pairAuthRetry_completes :
    ∀ x s, s.pair.retry → Completes (.pairAuthRetry x) s (fun t => s.mitre 10 [] ∈ s.sentSince t) := by
  intro x s hretry
  refine ⟨_, rfl, ?_⟩
  simp only [act_dyn, act_whenE, hretry, if_true, act_seq_cons, act_seq_nil, act_toMate]
  exact mem_sentSince (keeps_linkUp x _) rfl

theorem pegTx_completes :
    ∀ s, s.paired → s.dev = 5 → Completes .pegTx s (fun t => t.out = .peg 3 :: s.out) := by
  intro s hp hdev
  refine ⟨_, rfl, ?_⟩
  simp only [act_dyn, act_whenE, hp, hdev, BEq.rfl, if_true, act_emit]

theorem pegCode_lt (us : Nat) : pegCode us < 4 := by
  rw [pegCode]
  split
  · decide
  · split
    · decide
    · split <;> decide

theorem pegPulse_completes :
    ∀ us s, s.on PAIR_STATUS.PEG → s.role = 1 → pegCode us ≠ 0 → s.pair.pegCand = pegCode us → 1 ≤ s.pair.pegRun →
    Completes (.pegPulse us) s (fun t => t.rd PAIR_STATUS.PEG_CODE = pegCode us) := by
  intro us s hpeg hrole hcode hcand hrun
  refine ⟨_, rfl, ?_⟩
  have hruns : pegCode us ≠ 0 ∧ pegCode us = s.pair.pegCand := ⟨hcode, hcand.symm⟩
  have htwo : decide (2 ≤ s.pair.pegRun + 1) = true := decide_eq_true (by omega)
  rw [act_dyn]
  simp only [hpeg, Bool.true_or, Bool.not_true, Bool.false_and, if_pos hruns, bne_iff_ne.2 hcode, htwo, Bool.and_self, act_seq_cons, act_seq_nil, act_whenE, Bool.false_eq_true, if_false, if_true]
  generalize hv : (put PAIR_STATUS.PEG_CODE _).act _ = v
  have hvrole : v.role = 1 := by
    rw [← hv, State.role]
    simp (disch := decide) only [act_rules, upd_rules, rd_rules, rd_mk]
    exact hrole
  rw [act_dyn, hvrole, (by decide : (((1 : Nat) == 2) || ((1 : Nat) == 3)) = false), Bool.and_false, act_whenE, if_neg Bool.false_ne_true, ← hv, act_put, rd_wr_self]
  exact Nat.mod_eq_of_lt (pegCode_lt us)

theorem pegLoss_completes :
    ∀ s, s.on PAIR_STATUS.PEG → s.role = 1 → Completes .pegLoss s (fun t => t.rd PAIR_STATUS.PEG = 0 ∧ t.rd PAIR_STATUS.PEG_CODE = 0 ∧ t.role = 1) := by
  intro s hpeg hrole
  refine ⟨_, rfl, ?_⟩
  have hone : s.rd PAIR_STATUS.ROLE = 1 := hrole
  simp only [act_dyn, hpeg, hrole, Bool.not_true, Bool.false_eq_true, if_false, (by decide : ((1 : Nat) == 2) = false), (by decide : ((1 : Nat) == 3) = false), Bool.false_and, Bool.and_false,
    act_seq_cons, act_seq_nil]
  simp (disch := decide) only [State.role, act_rules, upd_rules, rd_rules, rd_mk, ite_self, hone, Bool.false_eq_true, if_false]
  trivial

theorem deathWinEnd_completes :
    ∀ s, s.pair.death → s.role = 2 → s.on PAIR_STATUS.LINK = false → s.on PAIR_STATUS.PEG → Completes .deathWinEnd s (fun t => t.role = 3 ∧ t.pair.death = false) := by
  intro s hdeath hrole hlink hpeg
  refine ⟨_, rfl, ?_⟩
  simp only [act_dyn, act_whenE, hdeath, hrole, hlink, hpeg, if_true, act_seq_cons, act_seq_nil, BEq.rfl, Bool.not_false, Bool.and_self, Bool.not_true, Bool.false_eq_true, if_false]
  exact ⟨setRole_role 6 _ (by decide), setRole_kept (P := (·.death)) (fun _ _ => rfl) (fun _ _ _ _ _ _ _ => rfl) 3 6 _⟩

/-! ### The journal and the snapshots -/

/-- A number a little further round the 32 bits comes after. -/
theorem jAfter_add {d : Nat} (h0 : 0 < d) (h : d < 2 ^ 31) (a : Nat) : jAfter (a + d) a = true := by
  rw [jAfter, show ((a + d : Nat) : Int) - a = d by omega, toPat, ofPat]
  refine decide_eq_true ?_
  have hd : ((d : Int) % 2 ^ 32).toNat = d := by omega
  simp only [hd]
  split <;> omega

theorem trySync_of_role {s : State} (h : s.role ≠ 3) : trySync.act s = s := by
  rw [trySync, act_dyn, beq_eq_false_iff_ne.2 h, Bool.false_and, Bool.false_and, Bool.false_and, act_whenE, if_neg Bool.false_ne_true]

/-- The next entry of the journal is not held: nothing is applied. -/
theorem drainHeld_none {s : State} (h : s.pair.held.find? (fun e => e.1 == (s.rd PAIR_JSEQ.ALL + 1) % 2 ^ 32) = none) (n : Nat) : (drainHeld n).act s = s := by
  cases n with
  | zero => rfl
  | succ n => rw [drainHeld, act_dyn, h]; rfl

/-- The next entry of the journal is held: it is applied, and the entries behind it. -/
theorem drainHeld_some {s : State} {e : Nat × Glue} (h : s.pair.held.find? (fun e => e.1 == (s.rd PAIR_JSEQ.ALL + 1) % 2 ^ 32) = some e) (n : Nat) :
    (drainHeld (n + 1)).act s = (seqE [put PAIR_JSEQ.ALL e.1, whenE (s.role == 2) (upd (.pair fun q => { q with held := q.held.filter (fun x => x.1 != e.1) })),
      applyGlue e.2, drainHeld n]).act s := by
  rw [drainHeld, act_dyn, h]

theorem setRole_synced (row : Nat) {s : State} (h : s.role ≠ 3) : ((setRole 3 row).act s).rd PAIR_STATUS.SYNCED = 0 := by
  rw [setRole, act_dyn]
  dsimp only
  rw [if_neg h]
  simp only [act_seq_cons, act_seq_nil]
  rw [(keeps_syncPorts _).rd (by decide), act_raise, rd_raise _ _ _ _ _ (by decide), whenE_same (fun u => u.rd PAIR_STATUS.SYNCED) fun _ => by rfl, act_whenE, if_pos (by decide : ((3 : Nat) == 3) = true)]
  simp only [act_rules, upd_rules, rd_mk, rd_rules]
  rfl

theorem journalEntryRx_applied :
    ∀ j off w s, s.paired → s.on PAIR_STATUS.LINK → s.role = 2 → s.pair.held = [] → s.rd PAIR_JSEQ.ALL < 2 ^ 32 - 2 → j.toNat = s.rd PAIR_JSEQ.ALL + 1 →
    findReg (off.toNat / 4 * 4) = none → Completes (.journalEntryRx j (.value off w)) s (fun t => t.rd PAIR_JSEQ.ALL = j.toNat ∧ t.pair.held = []) := by
  intro j off w s hp hlink hrole hheld hlt hj hreg
  refine ⟨_, rfl, ?_⟩
  have hafter : jAfter j.toNat (s.rd PAIR_JSEQ.ALL) = true := by
    rw [hj]
    exact jAfter_add (d := 1) (by decide) (by decide) _
  have hnext : (s.rd PAIR_JSEQ.ALL + 1) % 2 ^ 32 = j.toNat := by rw [hj]; exact Nat.mod_eq_of_lt (by omega)
  simp only [act_dyn, hp, hlink, hrole, hafter, hheld, BEq.rfl, Bool.true_or, Bool.and_self, Bool.not_true, Bool.and_false, List.any_nil, Bool.or_self, Bool.false_eq_true, if_false, act_seq_cons,
    act_seq_nil, List.length_nil]
  generalize hu : (upd _).act s = u
  have hurole : u.role = 2 := by rw [← hu]; exact hrole
  have hfind : u.pair.held.find? (fun e => e.1 == (u.rd PAIR_JSEQ.ALL + 1) % 2 ^ 32) = some (j.toNat, .value off w) := by
    rw [← hu]
    simp only [act_upd, apply_pair, rd_mk, hheld, List.nil_append, List.find?_cons, hnext, BEq.rfl]
  have hheldu : u.pair.held = [(j.toNat, .value off w)] := by
    rw [← hu]
    simp only [act_upd, apply_pair, hheld, List.nil_append]
  rw [drainHeld_some hfind, hurole]
  simp only [act_seq_cons, act_seq_nil, act_whenE, BEq.rfl, if_true, applyGlue, takeValue, hreg, act_nop, drainHeld, act_put, act_upd, apply_pair]
  rw [trySync_of_role (by simp (disch := decide) only [State.role, rd_rules, rd_mk]; exact ne_of_eq_of_ne hurole (by decide))]
  simp only [rd_mk, rd_wr_self, pair_rules, hheldu, List.filter_cons, bne_self_eq_false, Bool.false_eq_true, if_false, List.filter_nil]
  exact ⟨Nat.mod_eq_of_lt j.isLt, trivial⟩

theorem journalEntryRx_held :
    ∀ j g s, s.paired → s.on PAIR_STATUS.LINK → s.role = 2 → s.pair.held = [] → s.rd PAIR_JSEQ.ALL < 2 ^ 31 → j.toNat = s.rd PAIR_JSEQ.ALL + 2 →
    Completes (.journalEntryRx j g) s (fun t => t.rd PAIR_JSEQ.ALL = s.rd PAIR_JSEQ.ALL ∧ t.pair.held = [(j.toNat, g)]) := by
  intro j g s hp hlink hrole hheld hlt hj
  refine ⟨_, rfl, ?_⟩
  have hafter : jAfter j.toNat (s.rd PAIR_JSEQ.ALL) = true := by
    rw [hj]
    exact jAfter_add (d := 2) (by decide) (by decide) _
  have hgap : (j.toNat == (s.rd PAIR_JSEQ.ALL + 1) % 2 ^ 32) = false := beq_eq_false_iff_ne.2 (by omega)
  simp only [act_dyn, hp, hlink, hrole, hafter, hheld, BEq.rfl, Bool.true_or, Bool.and_self, Bool.not_true, Bool.and_false, List.any_nil, Bool.or_self, Bool.false_eq_true, if_false, act_seq_cons,
    act_seq_nil, List.nil_append, List.length_nil, act_upd, apply_pair]
  rw [drainHeld_none (by simp only [rd_mk, List.find?_cons, hgap, List.find?_nil]), trySync_of_role (by rw [State.role, rd_mk]; exact ne_of_eq_of_ne hrole (by decide))]
  exact ⟨rfl, rfl⟩

theorem journalAckTimeout_completes :
    ∀ s, s.paired → s.role = 2 → s.pair.wait = none → Completes .journalAckTimeout s (fun t => t.role = 3 ∧ t.rd PAIR_STATUS.SYNCED = 0) := by
  intro s hp hrole hwait
  refine ⟨_, rfl, ?_⟩
  simp only [act_dyn, hwait, Option.isSome_none, Bool.false_eq_true, if_false, act_whenE, hp, hrole, BEq.rfl, Bool.and_self, if_true]
  exact ⟨setRole_role 7 s (by decide), setRole_synced 7 (by rw [hrole]; decide)⟩

theorem journalResend_completes :
    ∀ s e, s.paired → s.role = 1 → s.on PAIR_STATUS.LINK → s.pair.kept = [e] → jAfter e.jseq (s.rd PAIR_JACK.ALL) →
    Completes .journalResend s (fun t => t.out = s.mitre 2 (e.jseq :: e.epoch :: e.cat :: e.body.length :: e.body) :: s.out) := by
  intro s e hp hrole hlink hkept hj
  refine ⟨_, rfl, ?_⟩
  simp only [act_dyn, act_whenE, hp, hrole, hlink, BEq.rfl, Bool.and_self, if_true, hkept, List.filter_cons, hj, List.filter_nil, act_forE_cons, act_forE_nil, act_toMate]

theorem snapshotPeriod_completes :
    ∀ s, s.paired → s.role = 1 → s.on PAIR_STATUS.LINK → Completes .snapshotPeriod s (fun t => t.rd PAIR_EPOCH.ALL = (s.rd PAIR_EPOCH.ALL + 1) % 2 ^ 32) := by
  intro s hp hrole hlink
  refine ⟨_, rfl, ?_⟩
  simp only [act_dyn, hp, hrole, hlink, BEq.rfl, Bool.and_self, if_true]
  exact (cutSnapshot_rules s).1

/-- A STALE unit with a snapshot and no entry behind a gap becomes a synchronised STANDBY (R511). -/
theorem trySync_rules {s : State} (hrole : s.role = 3) (hsnap : s.pair.snapIn = true) (hgap : s.gapped = false) (hhold : s.pair.unresHold = false) :
    (trySync.act s).role = 2 ∧ (trySync.act s).rd PAIR_STATUS.SYNCED = 1 ∧ (trySync.act s).rd PAIR_EPOCH.ALL = s.rd PAIR_EPOCH.ALL ∧
      (trySync.act s).rd PAIR_JSEQ.ALL = s.rd PAIR_JSEQ.ALL := by
  rw [trySync, act_dyn]
  simp only [hrole, hsnap, hgap, hhold, BEq.rfl, Bool.not_false, Bool.and_self, act_whenE, if_true, act_seq_cons, act_seq_nil]
  have hset : ((setRole 2 10).act s).rd PAIR_STATUS.ROLE = 2 := setRole_role 10 s (by decide)
  generalize hu : (setRole 2 10).act s = u at hset
  have hepoch : u.rd PAIR_EPOCH.ALL = s.rd PAIR_EPOCH.ALL := by rw [← hu]; exact (keeps_setRole _ _ _).rd (by decide)
  have hjseq : u.rd PAIR_JSEQ.ALL = s.rd PAIR_JSEQ.ALL := by rw [← hu]; exact (keeps_setRole _ _ _).rd (by decide)
  refine ⟨?_, ?_, ?_, ?_⟩
  all_goals split
  all_goals simp (disch := decide) only [State.role, act_rules, upd_rules, rd_rules, rd_mk, hepoch, hjseq, hset]
  all_goals rfl

theorem snapshotRx_completes :
    ∀ x s, s.paired → s.on PAIR_STATUS.LINK → s.role = 3 → x.digestOk → x.items = [] → s.pair.held = [] → s.pair.unresHold = false →
    Completes (.snapshotRx x) s (fun t => t.role = 2 ∧ t.rd PAIR_STATUS.SYNCED = 1 ∧ t.rd PAIR_EPOCH.ALL = x.epoch.toNat ∧ t.rd PAIR_JSEQ.ALL = x.cut.toNat) := by
  intro x s hp hlink hrole hdig hitems hheld hhold
  refine ⟨_, rfl, ?_⟩
  simp only [act_dyn, hp, hlink, hrole, hdig, BEq.rfl, Bool.or_true, Bool.and_self, Bool.not_true, Bool.false_eq_true, if_false, if_true, takeSnapshot, act_seq_cons, act_seq_nil, act_whenE,
    Bool.true_or, hitems, act_forE_nil]
  generalize hu : (put LTX_SF_NUM.ALL _).act _ = u
  have huheld : u.pair.held = [] := by rw [← hu]; simp only [act_put, act_upd, apply_pair, pair_rules, hheld, List.filter_nil]
  have hurole : u.role = 3 := by
    rw [← hu, State.role]
    simp (disch := decide) only [act_rules, upd_rules, rd_rules, rd_mk]
    exact hrole
  rw [huheld, List.length_nil, drainHeld_none (by rw [huheld]; rfl), hurole]
  simp only [BEq.rfl, if_true]
  obtain ⟨hr, hsync, hepoch, hjseq⟩ := trySync_rules hurole (by rw [← hu]; rfl) (by rw [State.gapped, huheld]; rfl) (by rw [← hu]; exact hhold)
  refine ⟨hr, hsync, hepoch.trans ?_, hjseq.trans ?_⟩
  · rw [← hu]
    simp (disch := decide) only [act_rules, upd_rules, rd_rules, rd_mk]
    exact Nat.mod_eq_of_lt x.epoch.isLt
  · rw [← hu]
    simp (disch := decide) only [act_rules, upd_rules, rd_rules]
    exact Nat.mod_eq_of_lt x.cut.isLt

theorem snapshotTimeout_completes :
    ∀ s, s.paired → s.role = 3 → s.pair.snapFails < 2 → Completes .snapshotTimeout s (fun t => t.pair.snapFails = s.pair.snapFails + 1 ∧ t.out = s.mitre 5 [] :: s.out) := by
  intro s hp hrole hfails
  refine ⟨_, rfl, ?_⟩
  have h2 : (s.pair.snapFails == 2) = false := beq_eq_false_iff_ne.2 (by omega)
  rw [snapFail, act_dyn]
  simp only [act_whenE, hp, hrole, BEq.rfl, Bool.or_true, Bool.and_self, if_true, act_seq_cons, act_seq_nil, decide_eq_true hfails, h2, Bool.false_eq_true, if_false, act_toMate, act_upd, apply_pair]
  exact ⟨trivial, rfl⟩

/-- Settles O31. -/
theorem pairLinkEvents : Obligations.PairLinkEvents :=
  ⟨heartbeatTx_completes, heartbeatRx_completes, mitreLinkLost_completes, mitreLinkUp_completes, pairAuthRetry_completes, pegTx_completes,
    pegPulse_completes, pegLoss_completes, deathWinEnd_completes, journalEntryRx_applied, journalEntryRx_held, journalAckTimeout_completes,
    journalResend_completes, snapshotPeriod_completes, snapshotRx_completes, snapshotTimeout_completes⟩

/-! ### Comparison, promotion, handover and time -/

theorem pairCntClr_completes :
    ∀ m s, s.takes m 12 → Completes (.pairCntClr m) s (fun t => ∀ k < 6, t.cnt (280 + k) = 0) := by
  intro m s ht
  refine completes_byMaster rfl ht fun t w k hk => ?_
  rw [w.cnt (by interval_cases k <;> decide)]
  refine cnt_run_clears ?_ s (.inl (List.mem_map.2 ⟨_, ?_, rfl⟩))
  · rintro u hu
    obtain ⟨i, -, rfl⟩ := List.mem_map.1 hu
    exact .inl ⟨i, rfl⟩
  · interval_cases k <;> decide

theorem failRx_completes :
    ∀ row s, s.paired → s.role = 2 → Completes (.failRx row) s (fun t => t.role = 1 ∧ t.pair.sel0 = true ∧ t.pair.sel1 = true) := by
  intro row s hp hrole
  refine ⟨_, rfl, ?_⟩
  rw [promoteStandby, act_dyn, hp, hrole, act_whenE, if_pos (by decide)]
  obtain ⟨hr, hs0, hs1, -⟩ := promote_rules row.val 2 (s := s) (by rw [hrole]; decide)
  exact ⟨hr, hs0, hs1⟩

theorem gapEnd_completes :
    ∀ s, s.pair.gap → Completes .gapEnd s (fun t => t.pair.gap = false ∧ t.sys.held = []) := by
  intro s hgap
  refine ⟨_, rfl, ?_⟩
  rw [act_dyn, hgap, act_whenE, if_pos rfl]
  simp only [act_seq_cons, act_seq_nil]
  have hraise (p : List Nat) (u : State) : Keeps ⟨0, [], [EV.PAIR_SWITCHOVER], [], []⟩ u ((raise EV.PAIR_SWITCHOVER p).act u) := keeps_act ((within_raise_iff _ _).2 (by decide))
  rw [whenE_same (·.pair.gap) fun u => by exact (hraise _ u).pairOf (P := (·.gap)) (by decide) fun _ _ => rfl, whenE_same (·.sys.held) fun u => by exact (hraise _ u).held (by decide),
    (keeps_judgeFill _).held (by decide), (keeps_runGapActs _).held (by decide), (keeps_judgeFill _).pairOf (P := (·.gap)) (by decide) fun _ _ => rfl,
    (keeps_runGapActs _).pairOf (P := (·.gap)) (by decide) fun _ _ => rfl]
  refine ⟨?_, rfl⟩
  rw [act_upd, apply_sys]
  exact forE_same (·.pair.gap) (fun x _ u => (keeps_writePins x.out x.word u).pairOf (P := (·.gap)) (by decide) fun _ _ => rfl) _

theorem digestBatchRx_completes :
    ∀ d g s, s.comparing d.val → Tab.get [] s.pair.digs d.val = [⟨g.1.toNat, g.2.1.toNat, false, true⟩] → g.2.2 = false →
    Completes (.digestBatchRx d [g]) s (fun t => t.cnt (280 + 2 * d.val) = (s.cnt (280 + 2 * d.val) + 1) % 2 ^ 48 ∧ t.cnt (281 + 2 * d.val) = s.cnt (281 + 2 * d.val)) := by
  intro d g s hcmp hdigs hskip
  refine ⟨_, rfl, ?_⟩
  rw [act_forE_cons, act_forE_nil, act_dyn, hcmp, act_whenE, if_pos rfl, meetDigest, act_dyn]
  simp only [hdigs, List.find?_cons, BEq.rfl, hskip, (by decide : (true && true != false) = true), Bool.or_self, Bool.false_eq_true, if_false, bne_self_eq_false, act_seq_cons, act_seq_nil, act_whenE,
    act_count, act_upd, apply_pair]
  exact ⟨cnt_count_self _ _ _, cnt_count_other _ _ (by omega)⟩

theorem digestMissing_completes :
    ∀ d f s, (Tab.get [] s.pair.digs d.val).any (fun x => x.ftag == f.toNat) → Completes (.digestMissing d f) s (fun t => t.cnt 285 = (s.cnt 285 + 1) % 2 ^ 48) := by
  intro d f s hany
  refine ⟨_, rfl, ?_⟩
  rw [act_dyn]
  simp only [hany, act_whenE, if_true, act_seq_cons, act_seq_nil]
  simp only [act_rules, upd_rules, cnt_rules, cnt_mk]

theorem identificationDone_completes :
    ∀ s, s.on PAIR_STATUS.IDENT → s.role = 1 → Completes (.identificationDone true false) s (fun t => t.role = 0 ∧ t.rd PAIR_STATUS.IDENT = 0) := by
  intro s hident hrole
  refine ⟨_, rfl, ?_⟩
  rw [act_dyn]
  simp only [hident, hrole, identRow, BEq.rfl, Bool.not_true, Bool.false_eq_true, if_false, if_true, act_seq_cons, act_seq_nil]
  refine ⟨setRole_role 1 _ (by decide), ?_⟩
  rw [(keeps_setRole _ _ _).rd (by decide)]
  simp (disch := decide) only [act_toMate, act_rules, upd_rules, rd_rules, rd_mk]
  rfl

theorem pairWtrEnd_completes :
    ∀ s, s.on PAIR_STATUS.WTR_RUN → Completes .pairWtrEnd s (fun t => t.rd PAIR_STATUS.WTR_RUN = 0 ∧ t.rd PAIR_STATUS.WTR_LEFT = 0) := by
  intro s hrun
  refine ⟨_, rfl, ?_⟩
  rw [act_dyn, hrun, act_whenE, if_pos rfl]
  simp only [act_seq_cons, act_seq_nil]
  rw [whenE_same (fun x => x.rd PAIR_STATUS.WTR_RUN) fun _ => by rfl, whenE_same (fun x => x.rd PAIR_STATUS.WTR_LEFT) fun _ => by rfl]
  simp (disch := decide) only [act_rules, upd_rules, rd_rules, rd_mk]
  exact ⟨rfl, rfl⟩

theorem plannedHandover_completes :
    ∀ s, s.paired → s.role = 2 → Completes .plannedHandover s (fun t => t.role = 1 ∧ t.pair.sel0 = true ∧ t.pair.sel1 = true ∧ t.pair.mask = 0) := by
  intro s hp hrole
  refine ⟨_, rfl, ?_⟩
  rw [act_dyn]
  simp only [hp, hrole, (by decide : ((2 : Nat) == 1) = false), BEq.rfl, Bool.not_true, Bool.false_eq_true, if_false, act_whenE, if_true, act_seq_cons, act_seq_nil]
  generalize hu : (setSel true true).act _ = u
  have hur : u.role = 2 := by rw [← hu]; exact hrole
  have hub : u.pair.sel0 = true ∧ u.pair.sel1 = true ∧ u.pair.mask = 0 := by rw [← hu]; exact ⟨rfl, rfl, rfl⟩
  obtain ⟨hs0, hs1, hmask⟩ := hub
  obtain ⟨h0, h1⟩ := setRole_sel (new := 1) 11 (s := u) (by rw [hur]; decide)
  rw [hur] at h0 h1
  exact ⟨setRole_role 11 u (by decide), h0.trans hs0, h1.trans hs1, (setRole_kept (P := (·.mask)) (fun _ _ => rfl) (fun _ _ _ _ _ _ _ => rfl) 1 11 u).trans hmask⟩

/-- A number that fits is read back from the word it was written to. -/
theorem ofPat_toPat_mod {z : Int} (hlo : -2 ^ 31 ≤ z) (hhi : z < 2 ^ 31) : ofPat 32 (toPat 32 z % 2 ^ 32) = z := by
  rw [ofPat, toPat]
  split <;> omega

theorem mitreTimeStamp_completes :
    ∀ off r s, s.paired → s.on PAIR_STATUS.LINK → s.role = 2 → s.on TOD_STATUS.BASE_OK → s.on TOD_STATUS.STEP_AVAIL = false →
    Completes (.mitreTimeStamp off r) s (fun t => t.rdI TOD_RATE.ALL = clampI (-rateMax) rateMax r.toInt) := by
  intro off r s hp hlink hrole hbase hstep
  refine ⟨_, rfl, ?_⟩
  rw [act_dyn]
  simp only [hp, hlink, hrole, hbase, hstep, BEq.rfl, Bool.true_or, Bool.and_self, Bool.not_true, Bool.false_eq_true, if_false]
  have hlo : -549756 ≤ clampI (-rateMax) rateMax r.toInt := le_max_left _ _
  have hhi : clampI (-rateMax) rateMax r.toInt ≤ 549756 := max_le (by decide) (min_le_left _ _)
  generalize clampI (-rateMax) rateMax r.toInt = z at hlo hhi ⊢
  rw [State.rdI, act_putI, rd_wr_self]
  exact ofPat_toPat_mod (by omega) (by omega)

/-- Settles O32. -/
theorem pairSwitchEvents : Obligations.PairSwitchEvents :=
  ⟨pairCntClr_completes, failRx_completes, gapEnd_completes, digestBatchRx_completes, digestMissing_completes, identificationDone_completes,
    pairWtrEnd_completes, plannedHandover_completes, mitreTimeStamp_completes⟩

end Sys2Proof.Machine

/-!
Gauge: its commands, triggers, words and queues (R550 to R577).
-/
namespace Sys2Proof.Machine
open Sys2Proof

-- The kernel evaluates many small footprints: one thread serves them all.
set_option Elab.async false


/-! ### Commands -/

/-- A device in service whose modulator M1 runs with a trigger delay; the two-bit field MON_TRIG.SRC of M1 holds 4, which no write leaves there. -/
def wideSource : State :=
  { ((((({} : State).wr CMD_STATUS.STATE 0 3).wr MON_CTRL.EN1 0 1).wr MON_SCAN.ALL 1 1).wr MON_TRIG_TIME.DELAY 1 1) with
    regs := Tab.set 0 ((((({} : State).wr CMD_STATUS.STATE 0 3).wr MON_CTRL.EN1 0 1).wr MON_SCAN.ALL 1 1).wr MON_TRIG_TIME.DELAY 1 1).regs (MON_TRIG.SRC.key 1) 4 }

theorem monTrigger_accepted_wideSource : Accepted opMonTrigger ⟨0, 0, 0, 0⟩ [2] wideSource where
  life := by decide +kernel
  power := by decide +kernel
  boot := by decide +kernel
  session := by decide +kernel
  length := by decide +kernel
  legal := by decide +kernel
  reset := by decide +kernel
  powered := by decide +kernel
  role := by decide +kernel
  hold := rfl
  keeper := by decide +kernel

/-- What MON_TRIGGER of M1 leaves there. -/
theorem monTrigger_wideSource : ∃ t, exec (.monTrigger ⟨0, 0, 0, 0⟩ [2]) wideSource = .next t ∧ (t.mon.mod 1).delay = false :=
  ⟨_, rfl, by decide +kernel⟩

/-- Refutes O33: where SRC holds more than its width, MON_TRIGGER takes M1 for triggerable and its source is none it triggers (R554). -/
theorem not_gaugeCommands : ¬ Obligations.GaugeCommands := by
  rintro ⟨-, -, -, htrigger, -⟩
  obtain ⟨t, ht, -, hdelay, -⟩ := htrigger ⟨0, 0, 0, 0⟩ [2] wideSource monTrigger_accepted_wideSource (by decide +kernel)
  obtain ⟨u, hu, hnone⟩ := monTrigger_wideSource
  rw [hu] at ht
  injection ht with ht
  rw [← ht, hnone] at hdelay
  exact Bool.false_ne_true hdelay

/-! ### Modulators -/

theorem mod_modMod_self (m : Nat) (g : ModSt → ModSt) (s : State) : ((modMod m g).act s).mon.mod m = g (s.mon.mod m) := by
  rw [act_modMod, MonSt.mod, Tab.get_set_self]

theorem mod_modMod_other {m k : Nat} (h : k ≠ m) (g : ModSt → ModSt) (s : State) : ((modMod m g).act s).mon.mod k = s.mon.mod k := by
  rw [act_modMod, MonSt.mod, Tab.get_set, if_neg h, MonSt.mod]

theorem chainRestart_mod (m : Nat) (s : State) :
    ((chainRestart m).act s).mon.mod m = { s.mon.mod m with settle := s.monS m, restart := false, chain := ChainSt.zero (s.monK m) } := by
  rw [chainRestart, act_dyn, mod_modMod_self]

/-- What a change of one modulator leaves of every modulator. -/
theorem mod_modMod_same {β : Type} (P : ModSt → β) {g : ModSt → ModSt} (h : ∀ x, P (g x) = P x) (m k : Nat) (s : State) : P (((modMod m g).act s).mon.mod k) = P (s.mon.mod k) := by
  by_cases hk : k = m
  · rw [hk, mod_modMod_self, h]
  · rw [mod_modMod_other hk]

theorem together_nodup (s : State) (m : Nat) : (s.together m).Nodup := by
  rw [State.together]
  split
  · decide
  · exact List.nodup_singleton m

theorem mem_together (s : State) (m : Fin 2) : m.val ∈ s.together m.val := by
  rw [State.together]
  split
  · revert m
    decide
  · exact List.mem_singleton_self _

theorem startStep_other {m k : Nat} (h : k ≠ m) (c : Nat) (s : State) : ((startStep m c).act s).mon.mod k = s.mon.mod k := by
  rw [startStep, act_dyn, act_seq_cons, act_seq_cons, act_seq_nil, mod_modMod_other h]
  exact whenE_same (·.mon.mod k) (fun u => by rw [chainRestart, act_dyn, mod_modMod_other h]) _ s

theorem startStep_same {β : Type} (P : ModSt → β) (hP : ∀ (x : ModSt) a b c d e f, P { x with settle := a, restart := b, chain := c, ch := d, active := e, words := f } = P x) (m c k : Nat) (s : State) :
    P (((startStep m c).act s).mon.mod k) = P (s.mon.mod k) := by
  rw [startStep, act_dyn, act_seq_cons, act_seq_cons, act_seq_nil, mod_modMod_same P fun x => by exact hP x x.settle x.restart x.chain _ _ _]
  exact whenE_same (fun u => P (u.mon.mod k)) (fun u => by rw [chainRestart, act_dyn, mod_modMod_same P fun x => by exact hP x _ _ _ x.ch x.active x.words]) _ s

theorem startStep_active (m c : Nat) (s : State) : ((startStep m c).act s).mon.mod m = { ((startStep m c).act s).mon.mod m with active := true } := by
  rw [startStep, act_dyn, act_seq_cons, act_seq_cons, act_seq_nil, mod_modMod_self]

/-- The burst of a modulator starts: its delay is over and its SEQ one further (R555). -/
theorem startBurst_rules (m : Fin 2) (s : State) : (((startBurst m.val).act s).mon.mod m.val).delay = false ∧ (((startBurst m.val).act s).mon.mod m.val).active = true ∧
    (((startBurst m.val).act s).mon.mod m.val).seq = ((s.mon.mod m.val).seq + 1) % 16 := by
  rw [startBurst, act_dyn, act_seq_cons, act_seq_nil]
  refine ⟨?_, ?_, ?_⟩
  · refine forE_establishes (I := fun u => (u.mon.mod m.val).delay = false) (mem_together s m) (fun u => ?_) (fun k _ u hu => ?_) s
    · rw [act_seq_cons, act_seq_cons, act_seq_nil, startStep_same (·.delay) fun _ _ _ _ _ _ _ => by rfl, mod_modMod_self]
    · by_cases hk : m.val = k
      · rw [act_seq_cons, act_seq_cons, act_seq_nil, startStep_same (·.delay) fun _ _ _ _ _ _ _ => by rfl, hk, mod_modMod_self]
      · rw [act_seq_cons, act_seq_cons, act_seq_nil, startStep_same (·.delay) fun _ _ _ _ _ _ _ => by rfl, mod_modMod_other hk, hu]
  · refine forE_establishes (I := fun u => (u.mon.mod m.val).active = true) (mem_together s m) (fun u => ?_) (fun k _ u hu => ?_) s
    · rw [act_seq_cons, act_seq_cons, act_seq_nil, startStep_active]
    · by_cases hk : m.val = k
      · rw [act_seq_cons, act_seq_cons, act_seq_nil, hk, startStep_active]
      · rw [act_seq_cons, act_seq_cons, act_seq_nil, startStep_other hk, mod_modMod_other hk, hu]
  · refine forE_once (fun u => (u.mon.mod m.val).seq) (g := fun n => (n + 1) % 16) (together_nodup s m.val) (mem_together s m) (fun u => ?_) (fun k _ hk u => ?_) s
    · rw [act_seq_cons, act_seq_cons, act_seq_nil, startStep_same (·.seq) fun _ _ _ _ _ _ _ => by rfl, mod_modMod_self]
    · rw [act_seq_cons, act_seq_cons, act_seq_nil, startStep_same (·.seq) fun _ _ _ _ _ _ _ => by rfl, mod_modMod_other (Ne.symm hk)]

theorem startBurst_same {β : Type} (P : ModSt → β)
    (hP : ∀ (x : ModSt) a b c d e f dl sr sq, P { x with settle := a, restart := b, chain := c, ch := d, active := e, words := f, delay := dl, src := sr, seq := sq } = P x) (m k : Nat) (s : State) :
    P (((startBurst m).act s).mon.mod k) = P (s.mon.mod k) := by
  rw [startBurst, act_dyn, act_seq_cons, act_seq_nil]
  refine forE_same (fun u => P (u.mon.mod k)) (fun n _ u => ?_) s
  rw [act_seq_cons, act_seq_cons, act_seq_nil, startStep_same P fun x a b c d e f => by exact hP x a b c d e f x.delay x.src x.seq,
    mod_modMod_same P fun x => by exact hP x x.settle x.restart x.chain x.ch x.active x.words _ _ _]

/-- The modulators that step with a triggered one are in a burst, with its PW tag. -/
def armed (m pw : Nat) (s : State) : State := (forE (s.together m) fun k => seqE [put (burstFld k) 1, modMod k (fun x => { x with pw := pw })]).act s

theorem burstFld_on_modMod (k : Nat) (g : ModSt → ModSt) (s : State) : ((modMod k g).act ((put (burstFld k) 1).act s)).rd (burstFld k) = 1 := by
  rw [(keeps_modMod _ _ _).rd (by rw [burstFld]; split <;> decide), act_put, rd_wr_self, burstFld]
  split <;> rfl

theorem burstFld_key {m k : Nat} (h : ¬(m = 0 ↔ k = 0)) : (burstFld m).key 0 ≠ (burstFld k).key 0 := by
  by_cases hm : m = 0
  · rw [burstFld, burstFld, if_pos hm, if_neg fun hk => h (iff_of_true hm hk)]
    decide
  · rw [burstFld, burstFld, if_neg hm, if_pos (by_contra fun hk => h (iff_of_false hm hk))]
    decide

theorem burstFld_congr {m k : Nat} (h : m = 0 ↔ k = 0) : burstFld m = burstFld k := by
  rw [burstFld, burstFld]
  simp only [h]

theorem armed_burst (m : Fin 2) (pw : Nat) (s : State) : (armed m.val pw s).rd (burstFld m.val) = 1 := by
  have hset : ∀ k u, ((seqE [put (burstFld k) 1, modMod k (fun x => { x with pw := pw })]).act u).rd (burstFld k) = 1 := fun k u => by
    rw [act_seq_cons, act_seq_cons, act_seq_nil]
    exact burstFld_on_modMod _ _ _
  refine forE_establishes (I := fun u => u.rd (burstFld m.val) = 1) (mem_together s m) (hset m.val) (fun k _ u hu => ?_) s
  by_cases hk : m.val = 0 ↔ k = 0
  · rw [burstFld_congr hk]
    exact hset k u
  · rw [act_seq_cons, act_seq_cons, act_seq_nil, (keeps_modMod _ _ _).rd (by rw [burstFld]; split <;> decide), act_put, rd_wr_ne _ _ _ _ _ _ (burstFld_key hk), hu]

theorem armed_pw {m k : Nat} (pw : Nat) (s : State) (h : k ∈ s.together m) : ((armed m pw s).mon.mod k).pw = pw := by
  refine forE_establishes (I := fun u => (u.mon.mod k).pw = pw) h (fun u => ?_) (fun n _ u hu => ?_) s
  · rw [act_seq_cons, act_seq_cons, act_seq_nil, mod_modMod_self]
  · by_cases hk : k = n
    · rw [act_seq_cons, act_seq_cons, act_seq_nil, hk, mod_modMod_self]
    · rw [act_seq_cons, act_seq_cons, act_seq_nil, mod_modMod_other hk]
      exact hu

/-- A modulator that runs and is free takes a trigger (R555). -/
theorem act_trigger {m : Nat} {s : State} (hruns : s.monRuns m = true) (hactive : (s.mon.mod m).active = false) (hdelay : (s.mon.mod m).delay = false) (hcal : s.on MON_STATUS.SYSCAL = false)
    (pw : Nat) : (trigger m pw).act s = (if s.rd MON_TRIG_TIME.DELAY m = 0 then startBurst m else modMod m (fun x => { x with delay := true })).act (armed m pw s) := by
  rw [trigger, act_dyn]
  simp only [hruns, hactive, hdelay, hcal, Bool.or_self, Bool.not_true, Bool.false_eq_true, if_false, act_seq_cons, act_seq_nil]
  rfl

/-! ### System calibration and the writes -/

theorem monSyscalDone_completes :
    ∀ z0 f0 z1 f1 r s, s.mon.cal = some r → nth r.par 0 = 1 → Completes (.monSyscalDone z0 f0 z1 f1) s (fun t => t.rd MON_STATUS.SYSCAL = 0 ∧ t.mon.cal = none ∧
    t.mon.zero = some (nth r.par 1, pgaOf (s.rd MON_PGA.ALL) (nth r.par 1), modCorrect (s.cnv.setWords 7) 0 (meanOf (nth r.par 3) z0))) := by
  intro z0 f0 z1 f1 r s hcal hkind
  refine ⟨_, rfl, ?_⟩
  rw [act_dyn, hcal]
  simp only [hkind, endSyscal, act_seq_cons, act_seq_nil]
  refine ⟨?_, ?_, ?_⟩
  · rw [(onlyReplies_finish _ _ _ _).rd (by decide), act_raise, rd_raise _ _ _ _ _ (by decide), forE_same (fun u => u.rd MON_STATUS.SYSCAL 0) fun m _ u => by exact (keeps_chainRestart m u).rd (by decide)]
    simp only [act_rules, upd_rules, rd_mk, rd_rules]
    rfl
  · rw [(onlyReplies_finish _ _ _ _).mon, act_raise, State.raise_mon, forE_same (·.mon.cal) fun m _ u => by rw [chainRestart, act_dyn, act_modMod]]
    rfl
  · rw [(onlyReplies_finish _ _ _ _).mon, act_raise, State.raise_mon, forE_same (·.mon.zero) fun m _ u => by rw [chainRestart, act_dyn, act_modMod]]
    rfl

theorem monCntClr_completes :
    ∀ m s, s.takes m 13 → Completes (.monCntClr m) s (fun t => ∀ k < 2, t.rd MON_Q_STAT.LOST k = 0 ∧ t.rd MON_TRIG_OVR.ALL k = 0) := by
  intro m s ht
  refine completes_byMaster rfl ht fun t w k hk => ?_
  have hclr : monCntClr.act s = (((s.wr MON_Q_STAT.LOST 0 0).wr MON_TRIG_OVR.ALL 0 0).wr MON_Q_STAT.LOST 1 0).wr MON_TRIG_OVR.ALL 1 0 := rfl
  rw [hclr] at w
  interval_cases k
  all_goals
    simp (disch := decide) only [w.rd, rd_rules]
    exact ⟨rfl, rfl⟩

theorem monInterleaveWrite_completes :
    ∀ m v s, s.takes m 13 → s.m0Bias = false → s.on MON_STATUS.SYSCAL = false → Completes (.monInterleaveWrite m v) s (fun t => t.interleaved = v) := by
  intro m v s ht hbias hcal
  refine completes_byMaster rfl ht fun t w => ?_
  rw [State.interleaved, w.on (by decide), interleaveWrite, act_dyn]
  simp only [hbias, hcal, Bool.or_self, Bool.and_false, Bool.false_eq_true, if_false]
  by_cases hv : v = s.interleaved
  · rw [if_pos (beq_iff_eq.2 hv), act_nop, hv, State.interleaved]
  · rw [if_neg (mt beq_iff_eq.1 hv), act_seq_cons, act_seq_cons, act_seq_nil, forE_same (fun u => u.on MON_CTRL.INTERLEAVE 0) fun k _ u => ?_]
    · simp only [act_rules, on_rules]
      cases v <;> rfl
    · rw [act_seq_cons, act_seq_cons, act_seq_cons, act_seq_nil, (keeps_chainRestart _ _).on (by decide), (keeps_modMod _ _ _).on (by decide), burstFld]
      split <;> simp (disch := decide) only [act_rules, on_rules]

theorem popQueue_queue (q n : Nat) (s : State) : Tab.get [] ((popQueue q n).act s).mon.queues q = (Tab.get [] s.mon.queues q).drop n := by
  rw [popQueue, act_seq_cons, act_seq_cons, act_seq_nil, act_dyn, act_put, State.wr_mon, act_upd, apply_mon, Tab.get_set_self]

theorem popQueue_out (q n : Nat) (s : State) : ((popQueue q n).act s).out = s.out := rfl

theorem latchShadow_out (m off hi : Nat) (s : State) : ((latchShadow m off hi).act s).out = s.out := rfl

theorem monQRead_completes :
    ∀ m q s, Completes (.monQRead m q) s (fun t => t.out = .readData m.val (MON_Q.ALL.at q.val) (s.monQWord m.val q.val % 2 ^ 32) :: s.out ∧
    (s.monQWord m.val q.val ≠ 2 ^ 63 → Tab.get [] t.mon.queues q.val = (Tab.get [] s.mon.queues q.val).drop 1)) := by
  intro m q s
  refine ⟨_, rfl, ?_⟩
  rw [monQRead, act_dyn]
  simp only [act_seq_cons, act_seq_nil, monQPop, act_dyn, act_emit]
  refine ⟨?_, fun hw => ?_⟩
  · rw [latchShadow_out, whenE_same (·.out) fun u => by exact popQueue_out _ _ u]
  · rw [(keeps_latchShadow _ _ _ _).mon (by decide), act_whenE, if_pos (bne_iff_ne.2 hw)]
    exact popQueue_queue _ _ _

/-! ### Triggers -/

theorem monTimerTrigger_starts :
    ∀ m s, s.ownTrigger m.val = true → s.rd MON_TRIG.SRC m.val = 1 → s.monRuns m.val = true → (s.mon.mod m.val).active = false → (s.mon.mod m.val).delay = false →
    s.on MON_STATUS.SYSCAL = false → s.rd MON_TRIG_TIME.DELAY m.val ≠ 0 → Completes (.monTimerTrigger m) s (fun t => (t.mon.mod m.val).delay = true ∧ t.rd (burstFld m.val) = 1) := by
  intro m s hown hsrc hruns hactive hdelay hcal hwait
  refine ⟨_, rfl, ?_⟩
  rw [triggerBy, act_dyn]
  simp only [List.filter_cons, List.filter_nil, hown, hsrc, List.contains_cons, BEq.rfl, Bool.true_or, Bool.and_self, if_true, act_forE_cons, act_forE_nil]
  rw [act_trigger hruns hactive hdelay hcal, if_neg hwait, mod_modMod_self, act_modMod, rd_mk, armed_burst]
  exact ⟨rfl, rfl⟩

theorem monTimerTrigger_overruns :
    ∀ m s, s.ownTrigger m.val = true → s.rd MON_TRIG.SRC m.val = 1 → s.monRuns m.val = true → (s.mon.mod m.val).active = true →
    Completes (.monTimerTrigger m) s (fun t => t.mon = s.mon ∧ t.rd MON_TRIG_OVR.ALL m.val = sat (2 ^ MON_TRIG_OVR.ALL.width - 1) (s.rd MON_TRIG_OVR.ALL m.val + 1) % 2 ^ MON_TRIG_OVR.ALL.width) := by
  intro m s hown hsrc hruns hactive
  refine ⟨_, rfl, ?_⟩
  rw [triggerBy, act_dyn]
  simp only [List.filter_cons, List.filter_nil, hown, hsrc, List.contains_cons, BEq.rfl, Bool.true_or, Bool.and_self, if_true, act_forE_cons, act_forE_nil]
  rw [trigger, act_dyn]
  simp only [hruns, hactive, Bool.true_or, Bool.not_true, Bool.false_eq_true, if_false, if_true, act_seq_cons, act_seq_nil]
  have hbump : (bump MON_TRIG_OVR.ALL 1 m.val).act s = s.wr MON_TRIG_OVR.ALL m.val (sat (2 ^ MON_TRIG_OVR.ALL.width - 1) (s.rd MON_TRIG_OVR.ALL m.val + 1)) := rfl
  simp only [hbump, act_rules, mon_rules, rd_rules, and_self]

theorem dsyncPulse_completes :
    ∀ ns s, s.ltx.dsync = some ns → s.interleaved = true → s.rd MON_TRIG.SRC 0 = 2 → s.rd MON_TRIG.PW_MIN 0 ≤ ns / 10 → ns / 10 ≤ s.rd MON_TRIG.PW_MAX 0 →
    s.monRuns 0 = true → (s.mon.mod 0).active = false → (s.mon.mod 0).delay = false → s.on MON_STATUS.SYSCAL = false → Completes .dsyncPulse s
    (fun t => t.ltx.dsync = none ∧ (t.mon.mod 0).pw = pwTag (ns / 10) ∧ (t.mon.mod 1).pw = pwTag (ns / 10)) := by
  intro ns s hsync hilv hsrc hlo hhi hruns hactive hdelay hcal
  refine ⟨_, rfl, ?_⟩
  rw [act_dyn, hsync]
  simp only [act_seq_cons, act_seq_nil]
  generalize hu : (upd _).act s = u
  have hrd : ∀ f i, u.rd f i = s.rd f i := by rw [← hu]; intro f i; rfl
  have hmon : u.mon = s.mon := by rw [← hu]; rfl
  have hdone : u.ltx.dsync = none := by rw [← hu]; rfl
  have hilvu : u.interleaved = true := by rw [← hu]; exact hilv
  have htake : [0, 1].filter (fun m => u.ownTrigger m && u.rd MON_TRIG.SRC m == 2 && decide (u.rd MON_TRIG.PW_MIN m ≤ ns / 10 ∧ ns / 10 ≤ u.rd MON_TRIG.PW_MAX m)) = [0] := by
    simp only [List.filter_cons, List.filter_nil, State.ownTrigger, hilvu, hrd, hsrc, BEq.rfl, Bool.true_or, Bool.and_self, decide_eq_true (And.intro hlo hhi), if_true,
      (by decide : ((1 : Nat) == 0) = false), Bool.not_true, Bool.or_self, Bool.false_and, Bool.false_eq_true, if_false]
  rw [pulse, act_dyn, htake, act_forE_cons, act_forE_nil, act_trigger (by rw [← hu]; exact hruns) (hmon ▸ hactive) (hmon ▸ hdelay) (by rw [State.on, hrd]; exact hcal)]
  have hboth : ∀ k ∈ [0, 1], ((armed 0 (pwTag (ns / 10)) u).mon.mod k).pw = pwTag (ns / 10) := fun k hk => armed_pw _ u (by rw [State.together, if_pos hilvu]; exact hk)
  have hltx : (armed 0 (pwTag (ns / 10)) u).ltx = u.ltx := forE_same (·.ltx) (fun k _ v => by rfl) u
  split
  · rw [startBurst_same (·.pw) fun _ _ _ _ _ _ _ _ _ _ => by rfl, startBurst_same (·.pw) fun _ _ _ _ _ _ _ _ _ _ => by rfl, (keeps_startBurst _ _).ltx (by decide), hltx]
    exact ⟨hdone, hboth 0 (by decide), hboth 1 (by decide)⟩
  · rw [mod_modMod_same (·.pw) fun _ => by rfl, mod_modMod_same (·.pw) fun _ => by rfl, (keeps_modMod _ _ _).ltx (by decide), hltx]
    exact ⟨hdone, hboth 0 (by decide), hboth 1 (by decide)⟩

theorem monDelayEnd_completes :
    ∀ m s, (s.mon.mod m.val).delay = true → Completes (.monDelayEnd m) s (fun t => (t.mon.mod m.val).delay = false ∧ (t.mon.mod m.val).active = true ∧
    (t.mon.mod m.val).seq = ((s.mon.mod m.val).seq + 1) % 16) := by
  intro m s hdelay
  refine ⟨_, rfl, ?_⟩
  rw [act_dyn, hdelay, act_whenE, if_pos rfl]
  exact startBurst_rules m s

/-! ### Words -/

theorem monWord_restarts :
    ∀ m bs c s, s.on MON_STATUS.SYSCAL = false → s.monRuns m.val = true → s.m0Bias = false → (s.mon.mod m.val).restart = true → Completes (.monWord m bs c) s
    (fun t => (t.mon.mod m.val).restart = false ∧ (t.mon.mod m.val).settle = s.monS m.val ∧ (t.mon.mod m.val).chain = ChainSt.zero (s.monK m.val)) := by
  intro m bs c s hcal hruns hbias hrestart
  refine ⟨_, rfl, ?_⟩
  rw [act_dyn]
  simp only [hcal, hruns, hbias, hrestart, Bool.not_true, Bool.or_self, Bool.and_false, Bool.false_and, Bool.false_eq_true, if_false, if_true]
  rw [chainRestart_mod]
  exact ⟨rfl, rfl, rfl⟩

theorem monWord_waits :
    ∀ m bs c s, s.on MON_STATUS.SYSCAL = false → s.monRuns m.val = true → s.m0Bias = false → (s.mon.mod m.val).restart = false → (s.mon.mod m.val).active = false →
    (s.mon.mod m.val).delay = true → Completes (.monWord m bs c) s
    (fun t => (t.mon.mod m.val).chain = (s.mon.mod m.val).chain.word (s.monK m.val) (s.monR m.val) (s.monFir m.val) bs ∧ t.mon.queues = s.mon.queues) := by
  intro m bs c s hcal hruns hbias hrestart hactive hdelay
  refine ⟨_, rfl, ?_⟩
  rw [act_dyn]
  simp only [hcal, hruns, hbias, hrestart, hactive, hdelay, Bool.not_true, Bool.not_false, Bool.or_self, Bool.and_false, Bool.false_and, Bool.false_eq_true, if_false, act_seq_cons, act_seq_nil, act_whenE]
  rw [act_dyn]
  simp only [hactive, act_seq_cons, act_seq_nil]
  rw [act_nop, mod_modMod_self]
  exact ⟨rfl, rfl⟩

/-- Settles O34. -/
theorem gaugeEvents : Obligations.GaugeEvents :=
  ⟨monSyscalDone_completes, monCntClr_completes, monInterleaveWrite_completes, monQRead_completes, monTimerTrigger_starts, monTimerTrigger_overruns,
    dsyncPulse_completes, monDelayEnd_completes, monWord_restarts, monWord_waits⟩

end Sys2Proof.Machine

/-!
Observability: counters, dumps, windows, captures, the recorder and its drives (R578 to R604, R704).
-/
namespace Sys2Proof.Machine
open Sys2Proof

-- The kernel evaluates many small footprints: one thread serves them all.
set_option Elab.async false


/-! ### What keeps of the part's own state -/

section
variable {β : Type} {P : ObsSt → β} {m : May} {s t : State}

/-- A part of the observability state that neither the trigger inputs due nor the recorder's records belong to. -/
def BesideRecords (P : ObsSt → β) : Prop := ∀ q r : ObsSt, P { q with occ := r.occ, trigDue := r.trigDue, recs := r.recs, lost := r.lost } = P q

theorem same_obsOf (hP : BesideRecords P) (h : Comp.obs.same s t) : P t.obs = P s.obs := (hP t.obs s.obs).symm.trans (congrArg P h)

theorem count_obsOf (hP : BesideRecords P) (s : State) (j n : Nat) : P (s.count j n).obs = P s.obs := by
  refine same_obsOf hP ?_
  simp only [State.count]
  split <;> rfl

theorem Keeps.obsOf (k : Keeps m s t) (h : Comp.obs ∉ m.comps) (hP : BesideRecords P) : P t.obs = P s.obs := same_obsOf hP (k.comps .obs h)

theorem OnlyReplies.obsOf (k : OnlyReplies s t) (hP : BesideRecords P) : P t.obs = P s.obs := same_obsOf hP (k.comps .obs (by decide))

end

/-! ### Commands -/

theorem keeps_raise {e : Ev} (h : (May.foot ⟨0, [], [e], [], []⟩).ev e = true) (p : List Nat) (s : State) : Keeps ⟨0, [], [e], [], []⟩ s ((raise e p).act s) :=
  keeps_act ((within_raise_iff e p).2 h)

theorem obsSnapshot_does :
    Does .obsSnapshot opObsSnapshot (fun _ _ => True) (fun _ _ s t => t.bank = s.cnts ∧ t.bankWraps = s.wraps ∧ t.snapGen = s.nextGen) := by
  refine does_of_okP (fun _ _ _ => rfl) fun h p s _ => ⟨_, _, rfl, fun t k => ?_⟩
  obtain ⟨hbank, hwraps, hgen⟩ := k.keeps.comps .bank (by decide)
  exact ⟨hbank, hwraps, hgen⟩

theorem obsCntRead_does :
    Does .obsCntRead opObsCntRead (fun p _ => 1 ≤ nth p 1 ∧ nth p 1 ≤ 256 ∧ nth p 0 + nth p 1 ≤ 2048 ∧ nth p 2 = 0) (fun _ _ s t => t.snapGen = s.nextGen ∧ t.bank = s.bank) := by
  refine does_of_okP (fun _ _ _ => rfl) ?_
  rintro h p s ⟨hlo, hhi, hfit, h0⟩
  refine ⟨_, _, by simp only [opObsCntRead, h0, show ¬(nth p 1 < 1 ∨ 256 < nth p 1) by omega, not_lt.2 hfit]; rfl, fun t k => ?_⟩
  obtain ⟨hbank, -, hgen⟩ := k.keeps.comps .bank (by decide)
  exact ⟨hgen, hbank⟩

theorem obsCntPreset_does :
    Does .obsCntPreset opObsCntPreset (fun p _ => p.length = 3 ∧ assigned (nth p 0) = true ∧ nth p 0 ≤ 2047 ∧ nth p 2 ≤ 65535 ∧ nth p 0 ≠ 64)
    (fun _ p _ t => t.cnt (nth p 0) = nth p 1 + 2 ^ 32 * nth p 2) := by
  intro h p s a ⟨hlen, hass, hj, hv, h64⟩
  refine completes_of_okP rfl a (by simp only [opObsCntPreset, hlen, not_lt.2 hj, not_lt.2 hv]; rfl) fun t k => ?_
  have hlt : nth (p.map (·.toNat)) 1 < 2 ^ 32 := nth_word_lt p 1
  rw [presetCnt, if_pos hass, act_upd, Upd.apply] at k
  dsimp only at h64 hv ⊢
  rw [k.cnts _ h64, cnt_preset_self]
  exact Nat.mod_eq_of_lt (by omega)

theorem obsEvtRoute_does :
    Does .obsEvtRoute opObsEvtRoute (fun p _ => (routeOf (nth p 0)).isSome = true)
    (fun _ p _ t => ∀ f ∈ OBS_EVT_ROUTE.fields, t.rd f ((routeOf (nth p 0)).getD 0) = f.raw (nth p 1)) := by
  refine does_of_okP (fun _ _ _ => rfl) ?_
  rintro h p s hroute
  obtain ⟨x, hx⟩ := Option.isSome_iff_exists.1 hroute
  refine ⟨_, _, by simp only [opObsEvtRoute, hx]; rfl, fun t k f hf => ?_⟩
  rw [hx, Option.getD_some, k.keeps.rd (Fld.key_ne_of_apart ((by decide : ∀ f ∈ OBS_EVT_ROUTE.fields, f.apart OBS_REC_RSEQ.ALL = true) f hf) _ _)]
  exact putWord_rd hf ((by decide : ∀ f ∈ OBS_EVT_ROUTE.fields, f.writable = true) f hf) (by decide) _ _ _

theorem obsDumpCfg_does :
    Does .obsDumpCfg opObsDumpCfg (fun p _ => wordOk [OBS_DUMP_PERIOD.PERIOD] (nth p 1) = true)
    (fun _ p _ t => t.rd OBS_DUMP_CFG.RANGES = OBS_DUMP_CFG.RANGES.raw (nth p 0) ∧ t.rd OBS_DUMP_CFG.DEST = OBS_DUMP_CFG.DEST.raw (nth p 0) ∧
      t.rd OBS_DUMP_PERIOD.PERIOD = OBS_DUMP_PERIOD.PERIOD.raw (nth p 1)) := by
  refine does_of_okE (fun _ _ _ => rfl) ?_
  rintro h p s hw
  refine ⟨_, by simp only [opObsDumpCfg, hw]; rfl, fun t k => ?_⟩
  simp (disch := decide) only [k.rd, act_seq_cons, act_seq_nil, putWord_apart]
  exact ⟨putWord_rd (fs := OBS_DUMP_CFG.fields) (.head _) (by decide) (by decide) _ _ _, putWord_rd (fs := OBS_DUMP_CFG.fields) (.tail _ (.tail _ (.head _))) (by decide) (by decide) _ _ _,
    putWord_rd (fs := [OBS_DUMP_PERIOD.PERIOD]) (.head _) (by decide) (by decide) _ _ _⟩

theorem obsBwCfg_does :
    Does .obsBwCfg opObsBwCfg (fun p _ => nth p 0 ≤ 15 ∧ wordOk OBS_BW_CFG.fields (nth p 1) = true)
    (fun _ p _ t => t.rd OBS_BW_CFG.PORT (nth p 0) = OBS_BW_CFG.PORT.raw (nth p 1) ∧ Tab.get 0 t.obs.bwDiscard (nth p 0) = 1) := by
  refine does_of_okE (fun _ _ _ => rfl) ?_
  rintro h p s ⟨hw, hok⟩
  refine ⟨_, by simp only [opObsBwCfg, not_lt.2 hw, hok]; rfl, fun t k => ?_⟩
  rw [bwWrite, act_seq_cons, act_seq_cons, act_seq_nil, act_upd, apply_obs] at k
  refine ⟨?_, ?_⟩
  · rw [k.rd (Fld.key_ne_of_apart (by decide) _ _), rd_mk]
    exact putWord_rd (fs := OBS_BW_CFG.fields) (.tail _ (.head _)) (by decide) (by decide) _ _ _
  · rw [k.obsOf (P := (·.bwDiscard)) fun _ _ => rfl, Tab.get_set_self]

theorem arm_rd {f : Fld} (h : f.key 0 ≠ OBS_CAP_STAT.RAW_STATE.key 0 ∧ f.key 0 ≠ OBS_CAP_STAT.SOFT_STATE.key 0) (soft : Bool) (s : State) : ((arm soft).act s).rd f = s.rd f := by
  rw [arm, act_seq_cons, act_seq_cons, act_seq_nil, act_upd, apply_obs, rd_mk, act_put, rd_wr_ne _ _ _ _ _ _ (by rw [capState]; split; exacts [h.2, h.1])]

/-- REARM after a write to the capture settings (R597). -/
theorem capWrite_rearm (w : Nat) (s : State) : ((capWrite w).act s).rd OBS_CAP_CFG.REARM = OBS_CAP_CFG.REARM.raw w := by
  rw [capWrite, act_dyn, act_seq_cons]
  refine (act_seqE_same (·.rd OBS_CAP_CFG.REARM) ?_ _).trans ((rd_wr_self _ _ _ _).trans (OBS_CAP_CFG.REARM.raw_mod _))
  simp only [List.forall_mem_cons]
  refine ⟨fun u => rd_wr_ne _ _ _ _ _ _ (by decide), whenE_same (·.rd OBS_CAP_CFG.REARM) (fun u => ?_) _, whenE_same (·.rd OBS_CAP_CFG.REARM) (fun u => ?_) _,
    whenE_same (·.rd OBS_CAP_CFG.REARM) (fun u => ?_) _, whenE_same (·.rd OBS_CAP_CFG.REARM) (fun u => ?_) _, fun e he => absurd he List.not_mem_nil⟩
  all_goals simp (disch := decide) only [act_rules, rd_rules, arm_rd, ite_self]

theorem capCfg_does :
    Does .capCfg opCapCfg (fun p s => s.capOk (nth p 0) = true ∧ s.rd OBS_CAP_STAT.SOFT_STATE ≠ 0 ∧ postOk s.slots (nth p 1) = true)
    (fun _ p _ t => t.rd OBS_CAP_CFG.REARM = OBS_CAP_CFG.REARM.raw (nth p 0) ∧ t.rd OBS_CAP_POST.SOFT_POST = OBS_CAP_POST.SOFT_POST.raw (nth p 1) ∧
      ∀ k < 8, t.rd OBS_TRIG_CFG.RAW k = OBS_TRIG_CFG.RAW.raw (nth p (2 + k))) := by
  refine does_of_okP (fun _ _ _ => rfl) ?_
  rintro h p s ⟨hcap, hsoft, hpost⟩
  refine ⟨_, _, by simp only [opCapCfg, hcap, beq_eq_false_iff_ne.2 hsoft, Bool.false_eq_true, if_false, hpost]; rfl, fun t k => ?_⟩
  have htrig : ∀ (f : Fld) (u : State), f.apartOf OBS_TRIG_CFG.fields = true → ((forE (List.range 8) fun t => putWord OBS_TRIG_CFG.fields (nth p (2 + t)) t).act u).rd f = u.rd f :=
    fun f u hf => forE_same (fun x => x.rd f) (fun j _ v => putWord_apart hf _ _ _ v) u
  refine ⟨?_, ?_, fun j hj => ?_⟩
  · rw [k.keeps.rd (by decide), act_seq_cons, act_seq_cons, act_seq_cons, act_seq_nil, htrig _ _ (by decide), putWord_apart (by decide)]
    exact capWrite_rearm _ _
  · rw [k.keeps.rd (by decide), act_seq_cons, act_seq_cons, act_seq_cons, act_seq_nil, htrig _ _ (by decide)]
    exact putWord_rd (fs := [OBS_CAP_POST.SOFT_POST, OBS_CAP_POST.RAW_POST]) (.head _) (by decide) (by decide) _ _ _
  · rw [k.keeps.rd (Fld.key_ne_of_apart (by decide) _ _), act_seq_cons, act_seq_cons, act_seq_cons, act_seq_nil]
    refine forE_once (fun u => u.rd OBS_TRIG_CFG.RAW j) (g := fun _ => OBS_TRIG_CFG.RAW.raw (nth p (2 + j))) List.nodup_range (List.mem_range.2 hj) (fun u => ?_) (fun i _ hi u => ?_) _
    · exact putWord_rd (fs := OBS_TRIG_CFG.fields) (.tail _ (.tail _ (.tail _ (.tail _ (.tail _ (.tail _ (.head _))))))) (by decide) (by decide) _ _ _
    · exact putWord_other (fun g hg => Fld.key_ne_of_ne ((by decide : ∀ g ∈ OBS_TRIG_CFG.fields, OBS_TRIG_CFG.RAW.alongside g = true) g hg) (Ne.symm hi)) _ _

/-- What follows the captures that a trigger input starts leaves the captures' status (R587). -/
theorem fireTrigger_rest {f : Fld} (hdump : f.clearOf 0 (Touch.takeDump.flds ++ sharedFlds) = true) (hev : f.apartOf EV.CAP_TRIGGERED.flds = true) (a b c d : Bool) (pay mark : List Nat)
    (item : State → List Nat) (s : State) : ((seqE [whenE a (seqE [drawn, raise EV.CAP_TRIGGERED pay]), whenE b (seqE [count 68, dyn fun s => occur EV.CAP_BUSY 0 (item s)]),
      whenE c (takeDump true), whenE d (record 9 mark)]).act s).rd f = s.rd f := by
  refine act_seqE_same (·.rd f) ?_ s
  simp only [List.forall_mem_cons]
  refine ⟨whenE_same (·.rd f) (fun u => ?_) _, whenE_same (·.rd f) (fun u => ?_) _, whenE_same (·.rd f) (fun u => (keeps_takeDump true u).rd hdump) _,
    whenE_same (·.rd f) (fun u => ?_) _, fun e he => absurd he List.not_mem_nil⟩
  · rw [act_seq_cons, act_seq_cons, act_seq_nil, act_raise, rd_raise _ _ _ _ _ (not_mem_raiseKeys hev 0)]
    rfl
  · simp only [act_rules, rd_rules]
  · rw [act_record, rd_record _ _ _ _ _ _ (Fld.key_ne_of_apartOf hev 0 OBS_REC_RSEQ.ALL (by simp [Ev.flds]) 0)]

/-- A trigger input that starts the raw capture (R594, R595). -/
theorem fireTrigger_raw {n : Nat} (mark : List Nat) {s : State} (hraw : s.on OBS_TRIG_CFG.RAW n = true) (hst : s.rd OBS_CAP_STAT.RAW_STATE = 1) :
    ((fireTrigger n mark).act s).rd OBS_CAP_STAT.RAW_STATE = 2 ∧ ((fireTrigger n mark).act s).rd OBS_CAP_STAT.RAW_INPUT = n % 2 ^ 3 := by
  rw [fireTrigger, act_dyn]
  simp only [hraw, hst, BEq.rfl, Bool.and_self]
  rw [act_seq_cons, act_whenE, if_pos rfl, act_seq_cons, fireTrigger_rest (by decide +kernel) (by decide), fireTrigger_rest (by decide +kernel) (by decide), act_whenE]
  simp (disch := decide) only [act_rules, upd_rules, rd_rules, rd_mk, ite_self]
  exact ⟨rfl, rfl⟩

/-- A trigger input that starts the soft capture (R594, R595). -/
theorem fireTrigger_soft {n : Nat} (mark : List Nat) {s : State} (hsoft : s.on OBS_TRIG_CFG.SOFT n = true) (hst : s.rd OBS_CAP_STAT.SOFT_STATE = 1) :
    ((fireTrigger n mark).act s).rd OBS_CAP_STAT.SOFT_STATE = 2 ∧ ((fireTrigger n mark).act s).rd OBS_CAP_STAT.SOFT_INPUT = n % 2 ^ 3 := by
  rw [fireTrigger, act_dyn]
  simp only [hsoft, hst, BEq.rfl, Bool.and_self]
  rw [act_seq_cons, act_seq_cons, act_whenE true, if_pos rfl, fireTrigger_rest (by decide +kernel) (by decide), fireTrigger_rest (by decide +kernel) (by decide)]
  simp (disch := decide) only [act_rules, upd_rules, rd_rules, rd_mk]
  exact ⟨rfl, rfl⟩

theorem capTrigger_does :
    Does .capTrigger opCapTrigger (fun p s => nth p 0 ≤ 7 ∧ s.on OBS_TRIG_CFG.RAW (nth p 0) = true ∧ s.rd OBS_CAP_STAT.RAW_STATE = 1)
    (fun _ p _ t => t.rd OBS_CAP_STAT.RAW_STATE = 2 ∧ t.rd OBS_CAP_STAT.RAW_INPUT = nth p 0) := by
  refine does_of_okP (fun _ _ _ => rfl) ?_
  rintro h p s ⟨hk, hraw, hst⟩
  refine ⟨_, _, by simp only [opCapTrigger, not_lt.2 hk]; rfl, fun t k => ?_⟩
  obtain ⟨hstate, hinput⟩ := fireTrigger_raw (p.drop 1) hraw hst
  exact ⟨(k.keeps.rd (by decide)).trans hstate, (k.keeps.rd (by decide)).trans (hinput.trans (Nat.mod_eq_of_lt (show nth p 0 < 8 by omega)))⟩

theorem capRead_starts :
    Starts .capRead opCapRead (fun p s => nth p 0 = 1 ∧ s.obs.capRead = none ∧ s.rd OBS_CAP_STAT.RAW_STATE = 3 ∧
      nth p 3 + 2 ^ 32 * nth p 4 + (nth p 5 + 2 ^ 32 * nth p 6) ≤ 134217728)
    (fun h p _ t => t.obs.capRead = some (runOf h 0x0F09 p)) := by
  refine starts_of_pendE (fun _ _ _ => rfl) ?_
  rintro h p s ⟨h1, hfree, hst, hfit⟩
  have hfit' : ¬ s.winBytes false < nth p 3 + 2 ^ 32 * nth p 4 + (nth p 5 + 2 ^ 32 * nth p 6) := not_lt.2 hfit
  refine ⟨upd (.obs fun o => { o with capRead := some (runOf h 0x0F09 p) }), ?_, fun t k => k.obsOf (P := (·.capRead)) fun _ _ => rfl⟩
  have hcap : capOf (nth p 0) = some false := by rw [h1]; rfl
  simp only [opCapRead, hcap, hfree, Option.isSome_none, Bool.false_eq_true, if_false, if_neg hfit']
  exact if_neg (mt bne_iff_ne.1 (not_not.2 hst))

theorem capRearm_does :
    Does .capRearm opCapRearm (fun p s => (nth p 0 = 1 ∨ nth p 0 = 2) ∧ s.rd (capState (nth p 0 == 2)) = 3) (fun _ p _ t => t.rd (capState (nth p 0 == 2)) = 1) := by
  refine does_of_okE (fun _ _ _ => rfl) ?_
  rintro h p s ⟨h12, hst⟩
  have hcap : capOf (nth p 0) = some (nth p 0 == 2) := by rcases h12 with h | h <;> rw [h] <;> rfl
  refine ⟨_, by simp only [opCapRearm, hcap, hst]; rfl, fun t k => ?_⟩
  rw [arm, act_seq_cons, act_seq_cons, act_seq_nil, act_upd, apply_obs] at k
  rw [k.rd (by rw [capState]; split <;> decide), rd_mk, act_put, rd_wr_self, capState]
  split <;> rfl

theorem recCfg_does :
    Does .recCfg opRecCfg (fun p _ => wordOk OBS_REC_CFG.fields (nth p 0) = true)
    (fun _ p _ t => t.rd OBS_REC_CFG.EN = OBS_REC_CFG.EN.raw (nth p 0) ∧ t.rd OBS_REC_CFG.LOG_PCT = OBS_REC_CFG.LOG_PCT.raw (nth p 0)) := by
  refine does_of_okE (fun _ _ _ => rfl) ?_
  rintro h p s hok
  refine ⟨_, by simp only [opRecCfg, hok]; rfl, fun t k => ?_⟩
  simp (disch := decide) only [k.rd, act_seq_cons, act_seq_nil, (keeps_setDrivesOk _).rd]
  exact ⟨putWord_rd (fs := OBS_REC_CFG.fields) (.tail _ (.tail _ (.head _))) (by decide) (by decide) _ _ _, putWord_rd (fs := OBS_REC_CFG.fields) (.head _) (by decide) (by decide) _ _ _⟩

theorem recRead_starts :
    Starts .recRead opRecRead (fun p s => (nth p 0 = 1 ∨ nth p 0 = 2) ∧ s.obs.recRead = none) (fun h p _ t => t.obs.recRead = some (runOf h 0x0F0C p)) := by
  refine starts_of_pendE (fun _ _ _ => rfl) ?_
  rintro h p s ⟨h12, hfree⟩
  have hcond : (nth p 0 != 1 && nth p 0 != 2) = false := by rcases h12 with h | h <;> rw [h] <;> rfl
  refine ⟨_, by simp only [opRecRead, hcond, hfree]; rfl, fun t k => ?_⟩
  exact k.obsOf (P := (·.recRead)) fun _ _ => rfl

theorem recHold_releases :
    Does .recHold opRecHold (fun p s => nth p 1 = 0 ∧ (s.obs.wins.find? (fun w => w.num = nth p 0)).isSome = true)
    (fun _ p s t => t.obs.wins = holdWin (nth p 0) false s.obs.wins ∧ t.rd OBS_REC_STAT.HELD = heldCount (holdWin (nth p 0) false s.obs.wins) % 2 ^ OBS_REC_STAT.HELD.width) := by
  refine does_of_okP (fun _ _ _ => rfl) ?_
  rintro h p s ⟨h0, hwin⟩
  obtain ⟨w, hw⟩ := Option.isSome_iff_exists.1 hwin
  refine ⟨_, _, by simp only [opRecHold, h0, hw]; rfl, fun t k => ?_⟩
  rw [act_seq_cons, act_seq_cons, act_seq_nil, act_dyn] at k
  exact ⟨k.keeps.obsOf (P := (·.wins)) fun _ _ => rfl, (k.keeps.rd (by decide)).trans (rd_wr_self _ _ _ _)⟩

theorem recStatus_answers :
    Answers .recStatus opRecStatus (fun _ _ => True) (fun _ s => s.word OBS_REC_STAT.fields :: ((Tab.get {} s.obs.drives 0).words ++ (Tab.get {} s.obs.drives 1).words ++
    ((s.obs.wins.filter (·.held)).map (·.num)))) := by
  exact answers_of_body (fun _ _ _ => rfl) fun h p s _ => ⟨_, rfl, rfl⟩

/-- Settles O35. -/
theorem observeCommands : Obligations.ObserveCommands :=
  ⟨obsSnapshot_does, obsCntRead_does, obsCntPreset_does, obsEvtRoute_does, obsDumpCfg_does, obsBwCfg_does, capCfg_does, capTrigger_does,
    capRead_starts, capRearm_does, recCfg_does, recRead_starts, recHold_releases, recStatus_answers⟩

/-! ### Register writes -/

/-- A register write that takes effect on a block that the journal does not cover is recorded, and nothing else follows (Table 16.7). -/
def Touch.recorded : May := ⟨0, [], [], [], []⟩

theorem completes_recorded {c : Instr} {m : Mast} {f : Fld} {i : Nat} {e : Eff} {s : State} {P : State → Prop} (hc : exec c s = perform (byMaster m f i e) s) (ht : s.takes m f.block)
    (hb : (findReg (f.at i)).all (fun r => !configBlock (r.1.off / 0x100000)) = true) (hP : ∀ t, Keeps Touch.recorded (e.act s) t → P t) : Completes c s P := by
  refine ⟨_, hc, hP _ ?_⟩
  obtain ⟨hm, hw⟩ := ht
  have hbox : inSandbox m = false := by simp [inSandbox, hm]
  simp only [byMaster, act_dyn, hbox, hw, Bool.not_true, Bool.false_eq_true, if_false]
  split
  next r k hr =>
    rw [hr, Option.all_some, Bool.not_eq_true'] at hb
    simp only [logWrite, act_dyn, act_seq_cons, act_seq_nil, hb, Bool.and_false, Bool.false_and]
    exact keeps_act (e := whenE _ (record 3 _)) (by simp)
  next => exact keeps_refl _ _

theorem recorded_moves {j : Nat} (h : j ≠ 64) : Touch.recorded.moves j = false := by simp [May.moves, Touch.recorded, h]

theorem obsCntClr_completes :
    ∀ m s, s.takes m 14 → Completes (.obsCntClr m) s (fun t => ∀ k < 1600, (k < 128 ∧ k ≠ 64) ∨ 1024 ≤ k → t.cnt k = 0) := by
  intro m s ht
  refine completes_recorded rfl ht (by decide +kernel) fun t w k hk hrange => ?_
  rw [w.cnt (recorded_moves (by omega))]
  refine cnt_run_clears ?_ s (.inl (List.mem_map.2 ⟨_, ?_, rfl⟩))
  · rintro u hu
    obtain ⟨i, -, rfl⟩ := List.mem_map.1 hu
    exact .inl ⟨i, rfl⟩
  · rw [List.mem_append, List.mem_range, List.mem_map]
    exact hrange.imp (·.1) fun hev => ⟨k - 1024, List.mem_range.2 (by omega), by omega⟩

theorem bwClear_completes :
    ∀ m s, s.takes m 14 → Completes (.bwClear m) s (fun t => ∀ k < 16, t.rd OBS_BW_MAX.ALL k = 0 ∧ t.rd OBS_BW_MIN.ALL k = 2 ^ 48 - 1) := by
  intro m s ht
  refine completes_recorded rfl ht (by decide +kernel) fun t w k hk => ?_
  rw [w.rdAny (by decide), w.rdAny (by decide)]
  refine forE_establishes (I := fun u => u.rd OBS_BW_MAX.ALL k = 0 ∧ u.rd OBS_BW_MIN.ALL k = 2 ^ 48 - 1) (List.mem_range.2 hk) (fun u => ?_) (fun j _ u hu => ?_) s
  · simp (disch := decide) only [act_rules, rd_any_rules]
    exact ⟨rfl, rfl⟩
  · by_cases hj : k = j
    · rw [hj]
      simp (disch := decide) only [act_rules, rd_any_rules]
      exact ⟨rfl, rfl⟩
    · rw [act_seq_cons, act_seq_cons, act_seq_nil, act_put, act_put, rd_wr_ne _ _ _ _ _ _ (Fld.key_ne_of_apart (by decide) _ _), rd_wr_ne _ _ _ _ _ _ (Fld.key_ne_of_ne (by decide) hj),
        rd_wr_ne _ _ _ _ _ _ (Fld.key_ne_of_ne (by decide) hj), rd_wr_ne _ _ _ _ _ _ (Fld.key_ne_of_apart (by decide) _ _)]
      exact hu

theorem obsSnapTake_completes :
    ∀ m s, s.takes m 14 → Completes (.obsSnapTake m) s (fun t => t.bank = s.cnts ∧ t.bankWraps = s.wraps ∧ t.snapGen = s.nextGen) := by
  intro m s ht
  refine completes_recorded rfl ht (by decide +kernel) fun t w => ?_
  obtain ⟨hbank, hwraps, hgen⟩ := w.comps .bank (by decide)
  exact ⟨hbank, hwraps, hgen⟩

theorem obsPreset_completes :
    ∀ m j s, s.takes m 14 → assigned j.toNat = true → j.toNat ≠ 64 → Completes (.obsPreset m j) s (fun t => t.cnt j.toNat = s.rd OBS_PRESET_VAL.ALL % 2 ^ 48) := by
  intro m j s ht hass h64
  refine completes_recorded rfl ht (by decide +kernel) fun t w => ?_
  rw [w.cnt (recorded_moves h64), act_seq_cons, act_seq_cons, act_seq_nil, presetGo, act_dyn, act_put]
  simp (disch := decide) only [rd_rules]
  rw [Nat.mod_eq_of_lt (show j.toNat < 2 ^ OBS_PRESET_CTRL.INDEX.width from j.isLt), presetCnt, if_pos hass, act_upd, Upd.apply, cnt_preset_self]

theorem Tab.get_filter_dropped {α : Type} (d : α) (t : Tab α) {q : Nat → Bool} {k : Nat} (h : q k = false) : Tab.get d (t.filter fun e => q e.1) k = d := by
  induction t with
  | nil => rfl
  | cons e t ih =>
    rw [List.filter_cons]
    split
    next he =>
      rw [Tab.get, if_neg ?_, ih]
      rintro rfl
      exact Bool.false_ne_true (h.symm.trans he)
    next => exact ih

theorem wrapClear_completes :
    ∀ m i w s, s.takes m 14 → Completes (.wrapClear m i w) s (fun t => ∀ k ∈ bitsSet 32 w.toNat, 32 * i.val + k ≠ 64 → Tab.get 0 t.wraps (32 * i.val + k) = 0) := by
  intro m i w s ht
  refine completes_recorded rfl ht ((by decide +kernel : ∀ i : Fin 64, (findReg (OBS_WRAP_CLR.ALL.at i)).all (fun r => !configBlock (r.1.off / 0x100000)) = true) i) fun t k j hj h64 => ?_
  rw [(k.cnts _ h64 (fun r hr => absurd hr List.not_mem_nil) fun e he => absurd he List.not_mem_nil).2, wrapClear, act_upd, Upd.apply]
  exact Tab.get_filter_dropped (q := fun n => !((bitsSet 32 w.toNat).map (32 * i.val + ·)).contains n) _ _
    (by rw [List.contains_iff_mem.2 (List.mem_map_of_mem hj), Bool.not_true])

/-! ### Dumps, windows and captures -/

theorem dumpToHost_bank (addr bytes : Nat) (ws : List Nat) (s : State) :
    ((dumpToHost addr bytes ws).act s).bank = s.bank ∧ ((dumpToHost addr bytes ws).act s).snapGen = s.snapGen := by
  obtain ⟨hbank, -, hgen⟩ := (keeps_dumpToHost addr bytes ws s).comps .bank (by decide)
  exact ⟨hbank, hgen⟩

theorem dumpPeriod_completes :
    ∀ s, s.on OBS_DUMP_CFG.EN = true → Completes .dumpPeriod s (fun t => t.snapGen = s.nextGen ∧ t.bank = s.bank) := by
  intro s hen
  refine ⟨_, rfl, ?_⟩
  rw [act_dyn, hen, act_whenE, if_pos rfl, takeDump, act_seq_cons, act_seq_cons, act_seq_nil, act_upd, act_dyn]
  dsimp only
  refine ⟨(act_seqE_same (·.snapGen) ?_ _).trans rfl, (act_seqE_same (·.bank) ?_ _).trans rfl⟩
  all_goals
    simp only [List.forall_mem_cons]
    refine ⟨whenE_same _ (fun _ => by rfl) _, whenE_same _ (fun u => ?_) _, whenE_same _ (fun u => ?_) _, fun u => ?_, fun e he => absurd he List.not_mem_nil⟩
    · simp only [act_rules, snapGen_rules, bank_rules]
    · split
      · rfl
      · simp only [dumpToHost_bank]
    · split
      · simp only [act_rules, snapGen_rules, bank_rules]
      · simp only [stat, act_rules, Upd.apply, snapGen_rules, bank_rules]

theorem bwWindowEnd_completes :
    ∀ w b s, s.on OBS_BW_CFG.EN w.val = true → Tab.get 0 s.obs.bwDiscard w.val ≠ 1 → Completes (.bwWindowEnd w b) s (fun t => t.rd OBS_BW_BYTES.ALL w.val = b % 2 ^ 48 ∧
    t.rd OBS_BW_STAT.GEN w.val = (s.rd OBS_BW_STAT.GEN w.val + 1) % 2 ^ OBS_BW_STAT.GEN.width) := by
  intro w b s hen hdis
  refine ⟨_, rfl, ?_⟩
  rw [act_dyn]
  simp only [hen, Bool.not_true, Bool.false_eq_true, if_false, beq_eq_false_iff_ne.2 hdis, act_seq_cons, act_seq_nil]
  simp (disch := decide) only [act_rules, rd_any_rules]
  exact ⟨rfl, trivial⟩

theorem triggerInputFire_completes :
    ∀ k s, s.on OBS_TRIG_CFG.SOFT k.val = true → s.rd OBS_CAP_STAT.SOFT_STATE = 1 → Completes (.triggerInputFire k) s
    (fun t => t.rd OBS_CAP_STAT.SOFT_STATE = 2 ∧ t.rd OBS_CAP_STAT.SOFT_INPUT = k.val) := by
  intro k s hsoft hst
  refine ⟨_, rfl, ?_⟩
  rw [act_seq_cons, act_seq_cons, act_seq_nil, act_upd, apply_obs]
  obtain ⟨hstate, hinput⟩ := fireTrigger_soft (n := k.val) [] (s := { s with obs := { s.obs with trigDue := dropFirst k.val s.obs.trigDue } }) hsoft hst
  exact ⟨hstate, hinput.trans (Nat.mod_eq_of_lt k.isLt)⟩

theorem capFrozen_completes :
    ∀ soft fl s, s.rd (capState soft) = 2 → s.on OBS_CAP_CFG.DRAIN_AUTO = false → Completes (.capFrozen soft fl) s (fun t => t.rd (capState soft) = 3 ∧
    t.rd (if soft then OBS_CAP_STAT.SOFT_SHORT else OBS_CAP_STAT.RAW_SHORT) = b2n (!fl)) := by
  intro soft fl s hst hauto
  refine ⟨_, rfl, ?_⟩
  rw [act_dyn]
  simp only [hst, hauto, bne_self_eq_false, Bool.false_and, Bool.false_eq_true, if_false, act_seq_cons, act_seq_nil, act_whenE]
  cases soft
  all_goals
    simp (disch := decide) only [capState, Bool.false_eq_true, if_false, if_true, act_rules, upd_rules, rd_rules, rd_mk]
    cases fl <;> exact ⟨rfl, rfl⟩

theorem drainDone_completes :
    ∀ ms n s, s.obs.rawWin = some n → Completes (.drainDone false ms) s (fun t => t.obs.rawWin = none ∧ t.rd OBS_CAP_STAT.RAW_STATE = if s.on OBS_CAP_CFG.REARM then 1 else 3) := by
  intro ms n s hwin
  refine ⟨_, rfl, ?_⟩
  rw [act_dyn]
  simp only [Bool.false_eq_true, if_false, hwin, act_seq_cons, act_seq_nil]
  refine ⟨?_, ?_⟩
  · rw [(keeps_raise (by decide) _ _).obsOf (P := (·.rawWin)) (by decide) fun _ _ => rfl]
    split <;> rfl
  · rw [(keeps_raise (by decide) _ _).rd (by decide)]
    split
    · rw [arm, act_seq_cons, act_seq_cons, act_seq_nil, act_upd, apply_obs, rd_mk, act_put]
      exact rd_wr_self _ _ _ _
    · rw [act_put]
      exact rd_wr_self _ _ _ _

/-! ### The recorder -/

/-- The records discarded meanwhile are reported (R603). -/
theorem recLost_keeps (a b : Nat) (s : State) :
    Keeps ⟨0, [], [EV.REC_LOST], [], [.obs]⟩ s ((seqE [upd (.obs fun o => { o with lost := none }), raise EV.REC_LOST [a, b], record 10 [a, b]]).act s) :=
  keeps_act (by simp; exact ⟨.inl (by decide), by decide⟩)

theorem recLost_sseq (a b : Nat) (s : State) :
    ((seqE [upd (.obs fun o => { o with lost := none }), raise EV.REC_LOST [a, b], record 10 [a, b]]).act s).obs.sseq = s.obs.sseq := by
  rw [act_seq_cons]
  exact (keeps_act (m := ⟨0, [], [EV.REC_LOST], [], []⟩) (by simp; decide)).obsOf (P := (·.sseq)) (by decide) fun _ _ => rfl

theorem segmentWriteDone_completes :
    ∀ s y, s.rd OBS_REC_STAT.DRIVES_OK ≠ 0 → s.on SEC_STATUS.KEEPER_ALARM = false → (s.vnr.slot 0 (s.rd VNR_PAGE_STAT.TX_KP 0)).cur = some y → Completes .segmentWriteDone s
    (fun t => t.obs.sseq = s.obs.sseq + 1 ∧ t.cnt 417 = (s.cnt 417 + 1) % 2 ^ 48 ∧ (t.vnr.slot 0 (s.rd VNR_PAGE_STAT.TX_KP 0)).cur = some { y with la := y.la + 1 } ∧
      Output.drive (if s.rd OBS_REC_STAT.DRIVES_OK = 3 then s.obs.sseq % 2 else if s.rd OBS_REC_STAT.DRIVES_OK = 1 then 0 else 1) 1
        (s.segment y (takeSegment 65472 s.obs.recs).1) ∈ s.sentSince t) := by
  intro s y hok halarm hcur
  refine ⟨_, rfl, ?_⟩
  rw [act_dyn]
  simp only [hcur, beq_eq_false_iff_ne.2 hok, halarm, Bool.or_self, Bool.false_eq_true, if_false, act_seq_cons, act_seq_nil]
  generalize hu : (upd (.obs _)).act _ = u
  have hsseq : u.obs.sseq = s.obs.sseq + 1 := by rw [← hu, act_upd, apply_obs, act_count]; exact congrArg (· + 1) (count_obsOf (P := (·.sseq)) (fun _ _ => rfl) _ _ _)
  have hcnt : u.cnt 417 = (s.cnt 417 + 1) % 2 ^ 48 := by rw [← hu]; exact cnt_count_self _ _ _
  have hslot : (u.vnr.slot 0 (s.rd VNR_PAGE_STAT.TX_KP)).cur = some { y with la := y.la + 1 } := by
    rw [← hu, act_upd, apply_obs, act_count]
    simp only [vnr_rules, modSlot_self]
  have hout : ∃ o, u.out = o :: s.out ∧ o = Output.drive (if s.rd OBS_REC_STAT.DRIVES_OK = 3 then s.obs.sseq % 2 else if s.rd OBS_REC_STAT.DRIVES_OK = 1 then 0 else 1) 1
      (s.segment y (takeSegment 65472 s.obs.recs).1) := by
    refine ⟨_, ?_, rfl⟩
    rw [← hu]
    simp only [act_rules, upd_rules, act_modSlot, State.count_out, beq_iff_eq]
  obtain ⟨o, hout, ho⟩ := hout
  rw [← ho]
  cases s.obs.lost with
  | none =>
    rw [act_nop, (keeps_setBacklog u).obsOf (P := (·.sseq)) (by decide) fun _ _ => rfl, (keeps_setBacklog u).cnt (by decide), (keeps_setBacklog u).vnr (by decide)]
    exact ⟨hsseq, hcnt, hslot, mem_sentSince (keeps_setBacklog u) hout⟩
  | some ab =>
    obtain ⟨a, b⟩ := ab
    dsimp only
    have hk := recLost_keeps a b u
    have hs := recLost_sseq a b u
    generalize (seqE _).act u = v at hk hs ⊢
    rw [(keeps_setBacklog v).obsOf (P := (·.sseq)) (by decide) fun _ _ => rfl, (keeps_setBacklog v).cnt (by decide), (keeps_setBacklog v).vnr (by decide), hk.cnt (by decide), hk.vnr (by decide)]
    exact ⟨hs.trans hsseq, hcnt, hslot, mem_sentSince_of_suffix (xs := [o]) (hk.sent.trans (keeps_setBacklog v).sent) hout List.mem_cons_self⟩

theorem setDrivesOk_drive (p : Fin 2) (s : State) : Tab.get {} (setDrivesOk.act s).obs.drives p.val =
    { Tab.get {} s.obs.drives p.val with used := (Tab.get {} s.obs.drives p.val).usable && bit (s.rd OBS_REC_CFG.DRIVES) p.val && s.on OBS_REC_CFG.EN } := by
  obtain ⟨p, hp⟩ := p
  interval_cases p
  · exact (Tab.get_set_ne _ _ _ _ Nat.zero_ne_one).trans (Tab.get_set_self _ _ _ _)
  · exact Tab.get_set_self _ _ _ _

theorem driveFail_completes :
    ∀ p e c s, Completes (.driveFail p e c) s (fun t => (Tab.get {} t.obs.drives p.val).usable = false ∧ (Tab.get {} t.obs.drives p.val).used = false) := by
  intro p e c s
  refine ⟨_, rfl, ?_⟩
  dsimp only
  rw [act_seq_cons, act_seq_cons, act_seq_cons, act_seq_cons, act_seq_nil, (keeps_raise (by decide) _ _).obsOf (P := (·.drives)) (by decide) fun _ _ => rfl,
    whenE_same (·.obs.drives) fun u => by exact count_obsOf (P := (·.drives)) (fun _ _ => rfl) _ _ _]
  rw [setDrivesOk_drive, act_upd, apply_obs, Tab.get_set_self]
  exact ⟨rfl, rfl⟩

theorem driveReady_completes :
    ∀ p b sm s, Completes (.driveReady p b sm) s (fun t => t.obs.sseq = 0 ∧ (Tab.get {} t.obs.drives p.val).usable = true ∧ (Tab.get {} t.obs.drives p.val).cap = b.toNat) := by
  intro p b sm s
  refine ⟨_, rfl, ?_⟩
  dsimp only
  rw [act_seq_cons, act_seq_cons, act_seq_cons, act_seq_cons, act_seq_nil, (keeps_raise (by decide) _ _).obsOf (P := (·.drives)) (by decide) fun _ _ => rfl,
    (keeps_raise (by decide) _ _).obsOf (P := (·.sseq)) (by decide) fun _ _ => rfl, setDrivesOk_drive, act_upd, apply_obs, Tab.get_set_self]
  exact ⟨rfl, rfl, rfl⟩

theorem eqCoalesceEnd_completes :
    ∀ s, s.sys.coalDue = false → Completes .eqCoalesceEnd s (fun t => t.sys.coalOpen = false ∧ t.regs = s.regs) := by
  intro s hdue
  refine ⟨_, rfl, ?_⟩
  rw [Eff.act, hdue, Bool.and_false]
  exact ⟨rfl, rfl⟩

theorem capReadDone_completes :
    ∀ s r, s.obs.capRead = some r → Completes .capReadDone s (fun t => t.obs.capRead = none ∧
    Output.copy (nth r.par 1 + 2 ^ 32 * nth r.par 2) (nth r.par 5 + 2 ^ 32 * nth r.par 6) ∈ s.sentSince t) := by
  intro s r hread
  refine ⟨_, rfl, ?_⟩
  rw [act_dyn, hread]
  simp only [act_seq_cons, act_seq_nil]
  exact ⟨(onlyReplies_finish _ _ _ _).obsOf (P := (·.capRead)) fun _ _ => rfl, mem_sentSince_of_suffix (xs := [_]) (onlyReplies_finish _ _ _ _).sent rfl List.mem_cons_self⟩

theorem onlyReplies_finishFl (r : Running) (st : Status) (fl : Nat) (pay : List Nat) (s : State) : OnlyReplies s ((finishFl r st fl pay).act s) := by
  simp only [finishFl, act_dyn, act_whenE]
  split
  · exact onlyReplies_replyTo _ _ _ _ _
  · exact .refl s

theorem recReadDone_completes :
    ∀ n a b pt s r, s.obs.recRead = some r → Completes (.recReadDone n a b pt) s (fun t => t.obs.recRead = none ∧
    Output.copy (nth r.par 5 + 2 ^ 32 * nth r.par 6) (nth r.par 7) ∈ s.sentSince t) := by
  intro n a b pt s r hread
  refine ⟨_, rfl, ?_⟩
  rw [act_dyn, hread]
  simp only [act_seq_cons, act_seq_nil]
  exact ⟨(onlyReplies_finishFl _ _ _ _ _).obsOf (P := (·.recRead)) fun _ _ => rfl, mem_sentSince_of_suffix (xs := [_]) (onlyReplies_finishFl _ _ _ _ _).sent rfl List.mem_cons_self⟩

/-- Settles O36. -/
theorem observeEvents : Obligations.ObserveEvents :=
  ⟨obsCntClr_completes, bwClear_completes, obsSnapTake_completes, obsPreset_completes, wrapClear_completes, dumpPeriod_completes,
    bwWindowEnd_completes, triggerInputFire_completes, capFrozen_completes, drainDone_completes, segmentWriteDone_completes, driveFail_completes,
    driveReady_completes, eqCoalesceEnd_completes, capReadDone_completes, recReadDone_completes⟩

end Sys2Proof.Machine

/-!
The host interface's commands and the engines (R543 to R545, R620 to R627, R631 to R640, R682).
-/
namespace Sys2Proof.Machine
open Sys2Proof

-- The kernel evaluates many small footprints: one thread serves them all.
set_option Elab.async false


/-! ### What keeps of the host interface -/

theorem OnlyReplies.sessions {s t : State} (k : OnlyReplies s t) : t.cmd.sessions = s.cmd.sessions := by
  have hcmd : _ = s.cmd := k.comps .cmd (by decide)
  exact (congrArg CmdSt.sessions hcmd :)

/-! ### System commands -/

theorem identify_answers :
    Answers .identify opIdentify (fun _ _ => True) (fun _ s => [s.fuse.part.code] ++ w64 s.fuse.devId ++ [s.rd CMD_BAT_STAT.ADDR, imageVersion s.sec.flash.keeperA,
    imageVersion s.sec.flash.engineA, imageVersion s.sec.flash.keeperB, imageVersion s.sec.flash.engineB]) := by
  exact answers_of_body (fun _ _ _ => rfl) fun h p s _ => ⟨_, rfl, rfl⟩

theorem status_answers :
    Answers .status opStatus (fun _ _ => True) (fun _ s => [s.word CMD_STATUS.fields, s.word CMD_BAT_STAT.fields] ++ s.cmd.sessions) := by
  exact answers_of_body (fun _ _ _ => rfl) fun h p s _ => ⟨_, rfl, rfl⟩

theorem setDev_dev {new : Nat} (h : new < 8) (s : State) : ((setDev new).act s).dev = new := by
  rw [setDev, act_dyn, act_seq_cons, act_seq_cons, act_seq_cons, act_seq_nil, State.dev, (keeps_raise (by decide) _ _).rd (by decide),
    whenE_same (·.rd CMD_STATUS.STATE) fun u => by exact (keeps_leaveMaint u).rd (by decide +kernel), act_put, rd_wr_self]
  exact Nat.mod_eq_of_lt h

/-- A state that the host may ask for is one of three (Table 17.4). -/
theorem stateOk_le {s : State} {new : Nat} (h : s.stateOk new = true) : new ≤ 4 := by
  unfold State.stateOk at h
  split at h
  · decide
  · decide
  · decide
  · exact absurd h Bool.false_ne_true

theorem sysStateSet_does :
    Does .sysStateSet opSysStateSet (fun p s => s.stateOk (nth p 0) = true) (fun _ p _ t => t.dev = nth p 0) := by
  refine does_of_okP (fun _ _ _ => rfl) fun h p s hok => ?_
  have hle := stateOk_le hok
  exact ⟨_, _, by simp only [opSysStateSet, hok, show ¬ 5 < nth p 0 by omega]; rfl, fun t k => (k.keeps.rd (by decide)).trans (setDev_dev (by omega) s)⟩

theorem sysSessionOpen_does :
    Does .sysSessionOpen opSysSessionOpen (fun _ s => s.cmd.sessions.length < 16)
    (fun _ _ s t => t.cmd.sessions = s.cmd.sessions ++ [s.newSession] ∧ t.rd CMD_STATUS.SESSIONS = (s.cmd.sessions.length + 1) % 2 ^ CMD_STATUS.SESSIONS.width) := by
  refine does_of_okP (fun _ _ _ => rfl) fun h p s hroom => ?_
  refine ⟨_, _, by simp only [opSysSessionOpen, not_le.2 hroom]; rfl, fun t k => ?_⟩
  rw [act_seq_cons, act_seq_cons, act_seq_nil, act_upd, apply_cmd, act_put] at k
  exact ⟨k.keeps.sessions, (k.keeps.rd (by decide)).trans (rd_wr_self _ _ _ _)⟩

theorem sysSessionClose_does :
    Does .sysSessionClose opSysSessionClose (fun p s => nth p 0 ∈ s.cmd.sessions) (fun _ p _ t => nth p 0 ∉ t.cmd.sessions ∧ Tab.get [] t.sec.keys (nth p 0) = []) := by
  refine does_of_okE (fun _ _ _ => rfl) fun h p s hmem => ?_
  refine ⟨_, by simp only [opSysSessionClose, List.contains_iff_mem.2 hmem]; rfl, fun t k => ?_⟩
  rw [endSession, act_seq_cons, act_seq_cons, act_seq_cons, act_seq_nil, act_upd, act_upd, apply_cmd, apply_sec, act_dyn, act_put] at k
  refine ⟨?_, ?_⟩
  · rw [k.sessions]
    exact fun hm => (bne_iff_ne.1 (List.mem_filter.1 hm).2) rfl
  · rw [k.sec]
    simp only [sec_rules, Tab.get_set_self]

theorem sysSlotRelease_does :
    Does .sysSlotRelease opSysSlotRelease (fun p s => s.plain ∧ nth p 0 ≤ 65535 ∧ 1 ≤ nth p 1 ∧ nth p 1 ≤ 1024)
    (fun h p s t => t.payload h = [(((List.range (nth p 1)).map (fun i => (nth p 0 + i) % 65536)).filter (s.holdsFinal h.ring.val)).length % 2 ^ 32]) := by
  refine does_of_okP (fun _ _ _ => rfl) ?_
  rintro h p s ⟨hplain, hq, hlo, hhi⟩
  refine ⟨_, _, by simp only [opSysSlotRelease, show ¬(65535 < nth p 0 ∨ nth p 1 < 1 ∨ 1024 < nth p 1) by omega]; rfl, fun t k => ?_⟩
  exact k.payload hplain

/-- Reads by command leave what a reply's PROMOTED_STALE mask turns on. -/
theorem regEntries_plain {n : Nat} {p : List Nat} (h : ∀ i < n, nth p (3 * i + 1) = 1) {s : State} (hs : s.plain) : (run (regEntries n p s).1 s).plain := by
  induction n generalizing p s with
  | zero => exact hs
  | succ n ih =>
    have hrd : (nth p 1 == 1) = true := beq_iff_eq.2 (h 0 (Nat.succ_pos n))
    have hrest : ∀ i < n, nth (p.drop 3) (3 * i + 1) = 1 := fun i hi => by
      rw [nth, List.getD_eq_getElem?_getD, List.getElem?_drop, ← List.getD_eq_getElem?_getD]
      exact (congrArg (nth p) (by omega : 3 + (3 * i + 1) = 3 * (i + 1) + 1)).trans (h (i + 1) (Nat.succ_lt_succ hi))
    have hclear : ((forE accFlags fun f => put f 0 2).act s).plain := by
      rw [State.plain, forE_same (·.pair) fun f _ u => by rfl]
      exact hs
    have hside := (keeps_act (within_busSide 2 (nth p 0 / 4 * 4) (Φ := Touch.busSide.foot) (σ := _) (by decide +kernel))).plain (by decide) hclear
    simp only [regEntries, hrd, if_true, run_append]
    exact ih hrest hside

theorem sysRegAccess_reads :
    Does .sysRegAccess opSysRegAccess (fun p s => s.plain ∧ ∀ i < p.length / 3, nth p (3 * i + 1) = 1 ∧ nth p (3 * i) < 0x4000000)
    (fun h p s t => t.payload h = ((regEntries (p.length / 3) p s).2.1 ++ (regEntries (p.length / 3) p s).2.2).map (· % 2 ^ 32)) := by
  refine does_of_okP (fun _ _ _ => rfl) ?_
  rintro h p s ⟨hplain, hreads⟩
  have hgood : (List.range (p.length / 3)).any (fun i => nth p (3 * i + 1) != 1 && nth p (3 * i + 1) != 2 || decide (0x4000000 ≤ nth p (3 * i))) = false := by
    refine List.any_eq_false.2 fun i hi => ?_
    obtain ⟨h1, hlt⟩ := hreads i (List.mem_range.1 hi)
    rw [h1, decide_eq_false (not_le.2 hlt)]
    decide
  refine ⟨_, _, by simp only [opSysRegAccess, hgood]; rfl, fun t k => ?_⟩
  exact k.payload (regEntries_plain (fun i hi => (hreads i hi).1) hplain)

theorem battenStatus_answers :
    Answers .battenStatus opBattenStatus (fun _ _ => True) (fun _ s => s.rd CMD_BAT_STAT.COUNT :: (List.range (s.rd CMD_BAT_STAT.COUNT)).flatMap (fun a =>
    w64 (if a = s.rd CMD_BAT_STAT.ADDR then s.fuse.devId else Tab.get 0 s.cmd.ids a))) := by
  exact answers_of_body (fun _ _ _ => rfl) fun h p s _ => ⟨_, rfl, rfl⟩

/-! ### Engine commands -/

theorem engStatus_answers :
    Answers .engStatus opEngStatus (fun _ _ => True) (fun _ s => (List.range 64).map (fun e => s.word ENG_CORE.fields e) ++ [s.word ENG_FW_STAT.fields]) := by
  exact answers_of_body (fun _ _ _ => rfl) fun h p s _ => ⟨_, rfl, rfl⟩

theorem engCfg_does :
    Does .engCfg opEngCfg (fun p _ => wordOk [ENG_WDOG.PERIOD] (nth p 0) = true ∧ wordOk [ENG_FW_CFG.PROBATION] (nth p 1) = true)
    (fun _ p _ t => t.rd ENG_WDOG.PERIOD = ENG_WDOG.PERIOD.raw (nth p 0) ∧ t.rd ENG_FW_CFG.PROBATION = ENG_FW_CFG.PROBATION.raw (nth p 1)) := by
  refine does_of_okE (fun _ _ _ => rfl) ?_
  rintro h p s ⟨hw, hp⟩
  refine ⟨_, by simp only [opEngCfg, hw, hp]; rfl, fun t k => ?_⟩
  simp (disch := decide) only [k.rd, act_seq_cons, act_seq_nil, putWord_apart]
  exact ⟨putWord_rd (fs := [ENG_WDOG.PERIOD]) (.head _) (by decide) (by decide) _ _ _, putWord_rd (fs := [ENG_FW_CFG.PROBATION]) (.head _) (by decide) (by decide) _ _ _⟩

theorem fwStage_starts :
    Starts .fwStage opFwStage (fun _ s => s.eng.stage = none ∧ s.eng.update = none) (fun h p _ t => t.eng.stage = some (runOf h 0x1003 p)) := by
  refine starts_of_pendE (fun _ _ _ => rfl) ?_
  rintro h p s ⟨hstage, hupdate⟩
  refine ⟨_, by simp only [opFwStage, hstage, hupdate]; rfl, fun t k => ?_⟩
  rw [k.eng]
  rfl

/-- An update goes on to its next engine (R635). -/
theorem fwNextStep_goes {s : State} {u : FwUpdate} {e : Nat} (hu : s.eng.update = some u) (he : s.fwNext = some e) : fwNextStep.act s = (fwShow e 2).act s := by
  rw [fwNextStep, act_dyn, hu, he]

/-- A fresh update has an engine to go to where one serves (R635). -/
theorem fwNext_isSome {s : State} {r : Running} (hu : s.eng.update = some ⟨r, [], false⟩) (hserve : ∃ e < 56, s.rd ENG_CORE.STATE e = 0) : s.fwNext.isSome = true := by
  obtain ⟨e, he, hst⟩ := hserve
  rw [State.fwNext, hu]
  refine List.find?_isSome.2 ⟨e, List.mem_flatMap.2 ⟨e / 8, List.mem_reverse.2 (List.mem_range.2 (by omega)), List.mem_map.2 ⟨e % 8, List.mem_range.2 (by omega), by omega⟩⟩, ?_⟩
  rw [hst]
  rfl

theorem fwActivate_starts :
    Starts .fwActivate opFwActivate (fun _ s => s.eng.staged.isSome = true ∧ s.eng.update = none ∧ s.eng.stage = none ∧ s.eng.migs = [] ∧ s.paired = false ∧
      (∀ c < 7, ∃ k < 8, s.rd ENG_CORE.STATE (8 * c + k) = 1) ∧ ∃ e < 56, s.rd ENG_CORE.STATE e = 0)
    (fun h p _ t => t.eng.update = some ⟨runOf h 0x1004 p, [], false⟩ ∧ t.rd ENG_FW_STAT.PHASE = 2) := by
  refine starts_of_pendThen (fun _ _ _ => rfl) ?_
  rintro h p s ⟨hstaged, hupdate, hstage, hmigs, hpaired, hspares, hserve⟩
  obtain ⟨im, him⟩ := Option.isSome_iff_exists.1 hstaged
  have hall : (List.range 7).all (fun c => ((List.range 8).map (8 * c + ·)).any s.spareFree) = true := by
    refine List.all_eq_true.2 fun c hc => ?_
    obtain ⟨k, hk, hst⟩ := hspares c (List.mem_range.1 hc)
    refine List.any_eq_true.2 ⟨8 * c + k, List.mem_map.2 ⟨k, List.mem_range.2 hk, rfl⟩, ?_⟩
    rw [State.spareFree, hst, hmigs]
    rfl
  refine ⟨_, by simp only [opFwActivate, him, hupdate, hstage, hall, hmigs, hpaired, Bool.and_false, Bool.false_and]; rfl, fun u k => ?_⟩
  rw [act_seq_cons, act_seq_cons, act_seq_nil]
  generalize hv : (upd (.eng _)).act u = v
  have hup : v.eng.update = some ⟨runOf h 0x1004 p, [], false⟩ := by rw [← hv]; rfl
  obtain ⟨e, he⟩ := Option.isSome_iff_exists.1 (fwNext_isSome hup (by
    obtain ⟨e, hlt, hst⟩ := hserve
    exact ⟨e, hlt, by rw [← hv, act_upd, apply_eng, rd_mk, k.rd (Fld.key_ne_of_apart (by decide) _ _), hst]⟩))
  rw [fwNextStep_goes hup he, fwShow, act_seq_cons, act_seq_cons, act_seq_cons, act_seq_nil]
  exact ⟨by rw [← hv]; rfl, hup, rd_wr_self _ _ _ _⟩

theorem raiseCounter_flash (typ svn : Nat) (s : State) : ((raiseCounter typ svn).act s).sec.flash = s.sec.flash := by
  rw [raiseCounter, act_dyn]
  dsimp only
  generalize (if typ = 1 then s.fuse.kCnt else s.fuse.eCnt) = old
  split
  · rw [act_nop]
  · split
    · rw [act_seq_cons, act_seq_cons, act_seq_nil, act_raise, State.raise_sec]
      rfl
    · rfl

theorem fwCommit_does :
    Does .fwCommit opFwCommit (fun _ s => s.eng.staged.isSome = true ∧ s.eng.update = none ∧ s.eng.stage = none)
    (fun _ _ s t => t.rd ENG_FW_STAT.BANK = s.eng.stagedBank % 2 ^ ENG_FW_STAT.BANK.width ∧ t.sec.flash = s.sec.flash.commit s.eng.stagedBank) := by
  refine does_of_okP (fun _ _ _ => rfl) ?_
  rintro h p s ⟨hstaged, hupdate, hstage⟩
  obtain ⟨im, him⟩ := Option.isSome_iff_exists.1 hstaged
  refine ⟨_, _, by simp only [opFwCommit, him, hupdate, hstage]; rfl, fun t k => ?_⟩
  rw [act_seq_cons, act_seq_cons, act_seq_cons, act_seq_nil] at k
  refine ⟨?_, ?_⟩
  · rw [k.keeps.rd (by decide), (keeps_raiseCounter _ _ _).rd (by decide)]
    exact rd_wr_self _ _ _ _
  · rw [k.keeps.sec, raiseCounter_flash]
    rfl

theorem sbxLoad_starts :
    Starts .sbxLoad opSbxLoad (fun p s => s.eng.sbxLoad = none ∧ s.lifecycle ≠ 3 ∧ sbxMaskOk (nth p 3) = true) (fun h p _ t => t.eng.sbxLoad = some (runOf h 0x1006 p, nth p 3)) := by
  refine starts_of_pendE (fun _ _ _ => rfl) ?_
  rintro h p s ⟨hfree, hlife, hmask⟩
  refine ⟨_, by simp only [opSbxLoad, hfree, beq_eq_false_iff_ne.2 hlife, hmask]; rfl, fun t k => ?_⟩
  rw [k.eng]
  rfl

theorem act_sbxStop (t : Nat) (s : State) : (sbxStop t).act s = s.wr ENG_CORE.STATE (s.sbxAt t) 6 := rfl

/-- Where a sandbox task runs is the engines' own affair. -/
theorem sbxAt_of_eng {s u : State} (h : u.eng = s.eng) (t : Nat) : u.sbxAt t = s.sbxAt t := by
  rw [State.sbxAt, State.migOf, h]
  rfl

theorem sbxCtrl_stops :
    Does .sbxCtrl opSbxCtrl (fun p s => sbxMaskOk (nth p 2) = true ∧ nth p 3 = 0 ∧ (sbxOf (nth p 2)).all s.eng.sbxTasks.contains = true ∧
      wordOk ENG_SBX_CFG.fields (nth p 0) = true ∧ s.sbxFits (nth p 0) = true)
    (fun _ p s t => t.rd ENG_SBX_CFG.EN = ENG_SBX_CFG.EN.raw (nth p 0) ∧ ∀ k ∈ sbxOf (nth p 2), t.rd ENG_CORE.STATE (s.sbxAt k) = 6) := by
  refine does_of_okE (fun _ _ _ => rfl) ?_
  rintro h p s ⟨hmask, h0, htasks, hok, hfits⟩
  refine ⟨seqE [putWord ENG_SBX_CFG.fields (nth p 0), putWord ENG_SBX_GPIO.fields (nth p 1), forE (sbxOf (nth p 2)) sbxStop], ?_, fun t k => ?_⟩
  · simp only [opSbxCtrl, hmask, h0, htasks, hok, hfits, Bool.not_true, Bool.or_self, (by decide : decide ((1 : Nat) < 0) = false), (by decide : ((0 : Nat) == 1) = false), Bool.false_and,
      Bool.false_eq_true, if_false]
  · rw [act_seq_cons, act_seq_cons, act_seq_cons, act_seq_nil] at k
    refine ⟨?_, fun n hn => ?_⟩
    · rw [k.rd (by decide), forE_same (·.rd ENG_SBX_CFG.EN) fun m _ u => by exact (keeps_sbxStop m u).rd (by decide), putWord_apart (by decide)]
      exact putWord_rd (fs := ENG_SBX_CFG.fields) (.head _) (by decide) (by decide) _ _ _
    · rw [k.rd (Fld.key_ne_of_apart (by decide) _ _)]
      refine (forE_reaches (I := fun u => u.rd ENG_CORE.STATE (s.sbxAt n) = 6) (J := fun u => u.eng = s.eng) hn (fun m _ u hu => ?_) (fun u hu => ?_) (fun m _ u hu h6 => ?_) ?_)
      · rw [act_sbxStop]
        exact hu
      · rw [act_sbxStop, sbxAt_of_eng hu, rd_wr_self]
        rfl
      · rw [act_sbxStop, sbxAt_of_eng hu]
        by_cases hm : s.sbxAt n = s.sbxAt m
        · rw [hm, rd_wr_self]
          rfl
        · rw [rd_wr_ne _ _ _ _ _ _ (Fld.key_ne_of_ne (by decide) hm), h6]
      · rfl

theorem sbxMsg_does :
    ∀ taken posted, Does (fun h p => .sbxMsg h p taken posted) (opSbxMsg taken posted) (fun p s => nth p 0 ∈ s.eng.sbxTasks ∧ 1 < p.length ∧ ((Tab.get [] s.eng.sbxIn (nth p 0)).drop taken).length < 16)
    (fun _ p s t => Tab.get [] t.eng.sbxIn (nth p 0) = (Tab.get [] s.eng.sbxIn (nth p 0)).drop taken ++ [p.drop 1] ∧ Output.sandbox (nth p 0) (p.drop 1) ∈ s.sentSince t) := by
  intro taken posted
  refine does_of_okP (fun _ _ _ => rfl) ?_
  rintro h p s ⟨htask, hlen, hroom⟩
  refine ⟨_, _, by simp only [opSbxMsg, List.contains_iff_mem.2 htask, hlen, not_le.2 hroom, if_neg (ne_of_gt hlen)]; rfl, fun t k => ?_⟩
  simp only [act_seq_cons, act_seq_nil, decide_true, act_whenE true, if_true] at k
  generalize hu : (emit _).act _ = u at k
  have heng : u.eng.sbxIn = Tab.set [] s.eng.sbxIn (nth p 0) ((Tab.get [] s.eng.sbxIn (nth p 0)).drop taken ++ [p.drop 1]) := by rw [← hu]; rfl
  have hout : u.out = .sandbox (nth p 0) (p.drop 1) :: s.out := by rw [← hu]; rfl
  have hraise (ms : List (List Nat)) : Keeps ⟨0, [], [EV.SBX_MSG], [], []⟩ u ((forE ms fun m => raise EV.SBX_MSG [nth p 0, m.length]).act u) :=
    keeps_act (within_forE_mem fun m _ v => (within_raise_iff _ _).2 (by decide))
  refine ⟨?_, mem_sentSince_of_suffix (xs := [_]) (u := u) ?_ hout List.mem_cons_self⟩
  · rw [k.keeps.eng, whenE_same (·.eng) fun v => by rw [act_count, State.count_eng], (hraise _).eng (by decide), heng, Tab.get_set_self]
  · have hsent := k.keeps.sent
    rw [whenE_same (·.out) fun v => by rw [act_count, State.count_out]] at hsent
    exact (hraise _).sent.trans hsent

/-- Settles O37. -/
theorem systemCommands : Obligations.SystemCommands :=
  ⟨identify_answers, status_answers, sysStateSet_does, sysSessionOpen_does, sysSessionClose_does, sysSlotRelease_does, sysRegAccess_reads,
    battenStatus_answers, engStatus_answers, engCfg_does, fwStage_starts, fwActivate_starts, fwCommit_does, sbxLoad_starts, sbxCtrl_stops,
    sbxMsg_does⟩

/-! ### Failure and migration -/

/-- The engines' own block lies past the pair's view of them. -/
theorem engState_key (e : Fin 64) (i : Fin 64) : ENG_CORE.STATE.key e.val ≠ PAIR_ENG.STATE.key i.val := fun h => by
  obtain ⟨-, -, hoff⟩ := Fld.key_inj (by decide) (by decide) (by decide) (by decide) h
  simp only [ENG_CORE.STATE, PAIR_ENG.STATE] at hoff
  omega

theorem setEng_state {st : Nat} (h : st < 2 ^ ENG_CORE.STATE.width) (e : Fin 64) (s : State) : ((setEng e.val st).act s).rd ENG_CORE.STATE e.val = st := by
  rw [setEng, act_seq_cons, act_seq_cons, act_seq_nil, whenE_same (·.rd ENG_CORE.STATE e.val) fun u => by exact rd_wr_ne _ _ _ _ _ _ (engState_key e e), act_put, rd_wr_self]
  exact Nat.mod_eq_of_lt h

theorem dropTask_task (e : Nat) (s : State) : ((dropTask e).act s).rd ENG_CORE.TASK e = 255 := by
  rw [dropTask, act_seq_cons, act_seq_cons, act_seq_nil, act_put, act_put, rd_wr_ne _ _ _ _ _ _ (Fld.key_ne_of_apart (by decide) _ _), rd_wr_self]
  rfl

section
variable {f : Fld} (hf : f.off = 0xf00100 ∧ f.stride = 0x10 ∧ f.width < 128 ∧ f.lo < 64) (e : Fin 64)
include hf

/-- The engines' block lies past the lanes'. -/
theorem core_key_jig {n : Nat} (hn : n < 22) : ∀ g ∈ SRD_JIG_CFG.fields, f.key e.val ≠ g.key n := fun g hg h => by
  obtain ⟨hoff, hstride, hw, hl⟩ := hf
  obtain ⟨hgoff, hgstride, hgw, hgl⟩ := (by decide : ∀ g ∈ SRD_JIG_CFG.fields, g.off = 0x701020 ∧ g.stride = 0x40 ∧ g.width < 128 ∧ g.lo < 64) g hg
  obtain ⟨-, -, h⟩ := Fld.key_inj hw hgw hl hgl h
  rw [hoff, hstride, hgoff, hgstride] at h
  omega

theorem setJig_core (hlock : f.apart SRD_JIG_CFG.LOCK = true) (hstate : f.apart SRD_LANE_STAT.STATE = true) (hin : f.apartOf (Touch.laneIngress.flds ++ sharedFlds) = true) {n : Nat}
    (hn : n < 22) (w : Nat) (s : State) : ((setJig n w).act s).rd f e.val = s.rd f e.val := by
  rw [setJig, act_dyn]
  refine act_seqE_same (·.rd f e.val) ?_ s
  simp only [List.forall_mem_cons]
  refine ⟨fun u => putWord_other (core_key_jig hf e hn) w u, fun u => by rfl, whenE_same (·.rd f e.val) (fun u => by exact rd_wr_ne _ _ _ _ _ _ (Fld.key_ne_of_apart hlock _ _)) _,
    whenE_same (·.rd f e.val) (fun u => ?_) _, whenE_same (·.rd f e.val) (fun u => by exact rd_wr_ne _ _ _ _ _ _ (Fld.key_ne_of_apart hstate _ _)) _, fun x hx => absurd hx List.not_mem_nil⟩
  rw [act_seq_cons, act_seq_cons, act_seq_nil, (keeps_laneIngress _ _).rdAny hin, act_put, rd_wr_ne _ _ _ _ _ _ (Fld.key_ne_of_apart hstate _ _)]

end

/-- The fields of an engine that a failure sets. -/
def coreFlds : List Fld := [ENG_CORE.STATE, ENG_CORE.CAUSE, ENG_CORE.TASK]

section
variable {f : Fld} (hf : f ∈ coreFlds) (e : Fin 64)
include hf

/-- The end of the maintenance functions leaves the engines (R622). -/
theorem leaveMaint_core (s : State) : (leaveMaint.act s).rd f e.val = s.rd f e.val := by
  refine act_seqE_same (·.rd f e.val) ?_ s
  simp only [List.forall_mem_cons]
  refine ⟨fun u => (keeps_leaveInject u).rdAny ?_, fun u => (keeps_leaveLoops u).rdAny ?_, fun u => ?_, fun u => rd_wr_ne _ _ _ _ _ _ (Fld.key_ne_of_apart ?_ _ _),
    fun u => rd_wr_ne _ _ _ _ _ _ (Fld.key_ne_of_apart ?_ _ _), fun u => (keeps_judgeFill u).rdAny ?_, fun x hx => absurd hx List.not_mem_nil⟩
  · exact (by decide : ∀ f ∈ coreFlds, f.apartOf (Touch.leaveInject.flds ++ sharedFlds) = true) f hf
  · exact (by decide : ∀ f ∈ coreFlds, f.apartOf (Touch.leaveLoops.flds ++ sharedFlds) = true) f hf
  · rw [leaveJig, act_dyn]
    refine forE_same (·.rd f e.val) (fun n hn v => setJig_core ?_ e ?_ ?_ ?_ (List.mem_range.1 (List.mem_filter.1 hn).1) _ v) u
    · exact (by decide : ∀ f ∈ coreFlds, f.off = 0xf00100 ∧ f.stride = 0x10 ∧ f.width < 128 ∧ f.lo < 64) f hf
    · exact (by decide : ∀ f ∈ coreFlds, f.apart SRD_JIG_CFG.LOCK = true) f hf
    · exact (by decide : ∀ f ∈ coreFlds, f.apart SRD_LANE_STAT.STATE = true) f hf
    · exact (by decide : ∀ f ∈ coreFlds, f.apartOf (Touch.laneIngress.flds ++ sharedFlds) = true) f hf
  · exact (by decide : ∀ f ∈ coreFlds, f.apart FRM_CTRL.FILL_FORCE = true) f hf
  · exact (by decide : ∀ f ∈ coreFlds, f.apart FRM_CTRL.BDI_FORCE = true) f hf
  · exact (by decide : ∀ f ∈ coreFlds, f.apartOf (Touch.judgeFill.flds ++ sharedFlds) = true) f hf

theorem raise_core {ev : Ev} (hev : (coreFlds.all fun f => f.apartOf ev.flds) = true) (p : List Nat) (s : State) : ((raise ev p).act s).rd f e.val = s.rd f e.val := by
  rw [act_raise, rd_raise _ _ _ _ _ (not_mem_raiseKeys (List.all_eq_true.1 hev f hf) _)]

theorem put_core {g : Fld} (hg : (coreFlds.all fun f => f.apart g) = true) (v i : Nat) (s : State) : ((put g v i).act s).rd f e.val = s.rd f e.val := by
  rw [act_put, rd_wr_ne _ _ _ _ _ _ (Fld.key_ne_of_apart (List.all_eq_true.1 hg f hf) _ _)]

theorem setDev_core (new : Nat) (s : State) : ((setDev new).act s).rd f e.val = s.rd f e.val := by
  rw [setDev, act_dyn, act_seq_cons, act_seq_cons, act_seq_cons, act_seq_nil, raise_core hf e (by decide), whenE_same (·.rd f e.val) (leaveMaint_core hf e), put_core hf e (by decide)]

theorem enterFault_core (c trigger : Nat) (s : State) : ((enterFault c trigger).act s).rd f e.val = s.rd f e.val := by
  rw [enterFault, act_seq_cons, act_seq_cons, act_seq_nil, act_dyn, whenE_same (·.rd f e.val) fun u => ?_]
  · exact rd_wr_ne _ _ _ _ _ _ (Fld.key_ne_of_apart ((by decide : ∀ f ∈ coreFlds, f.apart CMD_STATUS.FAULT_CAUSE = true) f hf) _ _)
  · rw [act_seq_cons, act_seq_cons, act_seq_nil]
    refine Eq.trans ?_ (setDev_core hf e 5 u)
    split
    · exact (keeps_unitFails _ _).rdAny ((by decide : ∀ f ∈ coreFlds, f.apartOf (Touch.unitFails.flds ++ sharedFlds) = true) f hf)
    · exact whenE_same (·.rd f e.val) (fun v => (keeps_setRole _ _ v).rdAny ((by decide : ∀ f ∈ coreFlds, f.apartOf (Touch.setRole.flds ++ sharedFlds) = true) f hf)) _ _

/-- What takes an engine's task to a spare leaves the engines' own fields. -/
theorem migrate_core (n t : Nat) (s : State) : ((migrate n t).act s).rd f e.val = s.rd f e.val := by
  rw [migrate, act_dyn]
  split
  · rw [act_seq_cons, act_seq_cons, act_seq_cons, act_seq_nil, act_upd, apply_eng, rd_mk, put_core hf e (by decide), raise_core hf e (by decide)]
  · rw [act_seq_cons, act_seq_cons, act_seq_cons, act_seq_nil, enterFault_core hf e, act_upd, apply_eng, rd_mk, raise_core hf e (by decide)]

end

/-- A failed engine is halted, its cause shown, and holds no task (R632, R633). -/
theorem failEngine_rules {cause : Nat} (h : cause < 2 ^ ENG_CORE.CAUSE.width) (e : Fin 64) (s : State) : ((failEngine e.val cause).act s).rd ENG_CORE.STATE e.val = 2 ∧
    ((failEngine e.val cause).act s).rd ENG_CORE.CAUSE e.val = cause ∧ ((failEngine e.val cause).act s).rd ENG_CORE.TASK e.val = 255 := by
  rw [failEngine, act_dyn]
  simp only [act_seq_cons, act_seq_nil]
  refine ⟨?_, ?_, ?_⟩
  · rw [whenE_same (·.rd ENG_CORE.STATE e.val) fun u => by exact migrate_core (by simp [coreFlds]) e _ _ u, (keeps_dropTask _ _).rdAny (by decide), setEng_state (by decide)]
  · rw [whenE_same (·.rd ENG_CORE.CAUSE e.val) fun u => by exact migrate_core (by simp [coreFlds]) e _ _ u, (keeps_dropTask _ _).rdAny (by decide), (keeps_setEng _ _ _).rdAny (by decide)]
    have hbump : ∀ u : State, ((whenE (cause == 1) (bump PAIR_ENG.FAILS 1 e.val)).act u).rd ENG_CORE.CAUSE e.val = u.rd ENG_CORE.CAUSE e.val :=
      whenE_same (·.rd ENG_CORE.CAUSE e.val) (fun u => by exact rd_wr_ne _ _ _ _ _ _ (Fld.key_ne_of_apart (by decide) _ _)) _
    split
    all_goals
      rw [(keeps_raise (by decide) _ _).rdAny (by decide), hbump, act_put, rd_wr_self]
      exact Nat.mod_eq_of_lt h
  · rw [whenE_same (·.rd ENG_CORE.TASK e.val) fun u => by exact migrate_core (by simp [coreFlds]) e _ _ u, dropTask_task]

theorem act_engStops_of_none {e code : Nat} {s : State} (hruns : s.engRuns e = true) (he : e < 56) (hup : s.eng.update = none) : (engStops e code).act s = (failEngine e code).act s := by
  rw [engStops, act_dyn, hruns, State.fwEnds, hup]
  simp only [Bool.not_true, Bool.false_eq_true, if_false, if_neg (not_le.2 he)]

theorem engWatchdog_completes :
    ∀ e s, s.engRuns e.val = true → e.val < 56 → s.eng.update = none → Completes (.engWatchdog e) s (fun t => t.rd ENG_CORE.STATE e.val = 2 ∧ t.rd ENG_CORE.CAUSE e.val = 1 ∧
    t.rd ENG_CORE.TASK e.val = 255) := by
  intro e s hruns he hup
  refine ⟨_, rfl, ?_⟩
  rw [act_dyn, hruns, act_whenE, if_pos rfl, act_seq_cons, act_seq_cons, act_seq_nil]
  have hrd : ∀ f i, ((count (48 + e.val / 8)).act s).rd f i = s.rd f i := fun f i => by rw [act_count, rd_count]
  rw [act_engStops_of_none (by rw [State.engRuns, hrd]; exact hruns) he (by rw [act_count, State.count_eng]; exact hup)]
  exact failEngine_rules (by decide) e _

theorem engTrap_completes :
    ∀ e s, s.engRuns e.val = true → e.val < 56 → s.eng.update = none → Completes (.engTrap e) s (fun t => t.rd ENG_CORE.STATE e.val = 2 ∧ t.rd ENG_CORE.CAUSE e.val = 3) := by
  intro e s hruns he hup
  refine ⟨_, rfl, ?_⟩
  rw [act_engStops_of_none hruns he hup]
  obtain ⟨hst, hcause, -⟩ := failEngine_rules (cause := 3) (by decide) e s
  exact ⟨hst, hcause⟩

theorem engTrap_stops :
    ∀ e s, 56 ≤ e.val → s.rd ENG_CORE.STATE e.val = 0 → Completes (.engTrap e) s (fun t => t.rd ENG_CORE.STATE e.val = 6 ∧ t.rd ENG_CORE.CAUSE e.val = 3 ∧ t.eng = s.eng) := by
  intro e s he hst
  refine ⟨_, rfl, ?_⟩
  have hruns : s.engRuns e.val = true := by rw [State.engRuns, hst]; rfl
  rw [engStops, act_dyn, hruns, hst]
  simp only [Bool.not_true, Bool.false_eq_true, if_false, if_pos he, BEq.rfl, act_whenE, if_true, if_neg (by decide : ¬(3 : Nat) = 1), sbxFail, act_seq_cons, act_seq_nil, act_raise]
  simp (disch := decide) only [act_rules, rd_any_rules, eng_rules]
  exact ⟨rfl, rfl, rfl⟩

theorem engEcc_corrected :
    ∀ e s, Completes (.engEcc e true) s (fun t => t.rd ENG_CORE.SBE e.val = sat (2 ^ ENG_CORE.SBE.width - 1) (s.rd ENG_CORE.SBE e.val + 1) % 2 ^ ENG_CORE.SBE.width ∧
    t.rd ENG_CORE.STATE e.val = s.rd ENG_CORE.STATE e.val) := by
  intro e s
  refine ⟨_, rfl, ?_⟩
  rw [act_dyn]
  simp only [if_true, act_seq_cons, act_seq_nil, act_raise]
  have hbump : (bump ENG_CORE.SBE 1 e.val).act s = s.wr ENG_CORE.SBE e.val (sat (2 ^ ENG_CORE.SBE.width - 1) (s.rd ENG_CORE.SBE e.val + 1)) := rfl
  simp (disch := decide) only [hbump, rd_any_rules, and_self]

theorem engEcc_fails :
    ∀ e s, s.engRuns e.val = true → Completes (.engEcc e false) s (fun t => t.rd ENG_CORE.STATE e.val = 2 ∧ t.rd ENG_CORE.CAUSE e.val = 2) := by
  intro e s hruns
  refine ⟨_, rfl, ?_⟩
  rw [act_dyn, hruns]
  simp only [Bool.false_eq_true, if_false, if_true]
  obtain ⟨hst, hcause, -⟩ := failEngine_rules (cause := 2) (by decide) e s
  exact ⟨hst, hcause⟩

theorem taskResume_completes :
    ∀ sp pass m s, s.migBy sp.val = some m → m.resumed = false → Completes (.taskResume sp pass) s (fun t => t.rd ENG_CORE.TASK sp.val = m.task % 2 ^ ENG_CORE.TASK.width) := by
  intro sp pass m s hmig hres
  refine ⟨_, rfl, ?_⟩
  rw [act_dyn, hmig]
  simp only [hres, Bool.false_eq_true, if_false, act_seq_cons, act_seq_nil]
  rw [whenE_same (·.rd ENG_CORE.TASK sp.val) fun u => by exact (keeps_setEng _ _ u).rdAny (by decide), act_upd, apply_eng, rd_mk, giveTask]
  simp (disch := decide) only [act_rules, rd_any_rules]

theorem engineRetest_completes :
    ∀ e pass s, s.rd ENG_CORE.STATE e.val = 4 → Completes (.engineRetest e pass) s (fun t => t.rd ENG_CORE.STATE e.val = if pass then 3 else 4) := by
  intro e pass s hst
  refine ⟨_, rfl, ?_⟩
  rw [act_dyn, hst, BEq.rfl, Bool.true_or, act_whenE, if_pos rfl]
  refine setEng_state ?_ e s
  cases pass <;> decide

theorem spareWtrEnd_completes :
    ∀ e s, s.rd ENG_CORE.STATE e.val = 3 → s.migOf e.val = none → Completes (.spareWtrEnd e) s (fun t => t.rd ENG_CORE.STATE e.val = 1 ∧ t.rd ENG_CORE.TASK e.val = 255) := by
  intro e s hst hmig
  refine ⟨_, rfl, ?_⟩
  rw [act_dyn, hst, hmig]
  simp only [bne_self_eq_false, Bool.false_eq_true, if_false, act_seq_cons, act_seq_nil]
  refine ⟨?_, ?_⟩
  · rw [(keeps_spareNoneClears _).rdAny (by decide), (keeps_dropTask _ _).rdAny (by decide), setEng_state (by decide)]
  · rw [(keeps_spareNoneClears _).rdAny (by decide), dropTask_task]

theorem sharedSramError_completes :
    ∀ c s, c.val < 7 → s.dev ≠ 0 → s.dev ≠ 5 → Completes (.sharedSramError c) s (fun t => t.dev = 5 ∧ bit (t.rd CMD_STATUS.FAULT_CAUSE) 1 = true) := by
  intro c s hc hboot hfault
  refine ⟨_, rfl, ?_⟩
  rw [decide_eq_true hc, act_whenE, if_pos rfl, enterFault, act_seq_cons, act_seq_cons, act_seq_nil, act_dyn]
  generalize hu : Eff.act (fun s : State => [_]) s = u
  have hdev : u.dev = s.dev := by
    rw [← hu]
    exact rd_wr_ne _ _ _ _ _ _ (by decide)
  have hcause : bit (u.rd CMD_STATUS.FAULT_CAUSE) 1 = true := by
    rw [← hu]
    refine (congrArg (bit · 1) (rd_wr_self _ _ _ _)).trans ?_
    rw [bit_mod (by decide), bit_setBit_self]
  rw [hdev, bne_iff_ne.2 hboot, bne_iff_ne.2 hfault, act_whenE, if_pos (by rfl), act_seq_cons, act_seq_cons, act_seq_nil]
  have hrest : ∀ (c d : Bool) (v : State), ((if c = true then unitFails 1 else whenE d (setRole 0 1)).act v).dev = v.dev ∧
      ((if c = true then unitFails 1 else whenE d (setRole 0 1)).act v).rd CMD_STATUS.FAULT_CAUSE = v.rd CMD_STATUS.FAULT_CAUSE := fun c d v => by
    split
    · exact ⟨(keeps_unitFails _ _).rd (by decide), (keeps_unitFails _ _).rd (by decide)⟩
    · exact ⟨whenE_same (·.dev) (fun x => by exact (keeps_setRole _ _ x).rd (by decide)) _ _, whenE_same (·.rd CMD_STATUS.FAULT_CAUSE) (fun x => by exact (keeps_setRole _ _ x).rd (by decide)) _ _⟩
  obtain ⟨hd, hc'⟩ := hrest (u.role == 1) (u.paired && u.role != 0 && u.mateReady) ((setDev 5).act u)
  refine ⟨hd.trans (setDev_dev (by decide) u), ?_⟩
  rw [hc', (keeps_setDev _ _).rd (by decide +kernel), hcause]

/-! ### Firmware and the sandbox -/

theorem fwStageDone_completes :
    ∀ hd bd r s, s.eng.stage = some r → Completes (.fwStageDone hd bd) s (fun t => t.eng.stage = none ∧ t.eng.staged =
    (if (s.verify 2 ⟨hd.map (·.toNat), bd.map (·.toNat)⟩).isNone then some ⟨hd.map (·.toNat), bd.map (·.toNat)⟩ else s.eng.staged) ∧
    t.sec.flash = (if (s.verify 2 ⟨hd.map (·.toNat), bd.map (·.toNat)⟩).isNone then s.sec.flash.setEngine s.idleBank ⟨hd.map (·.toNat), bd.map (·.toNat)⟩ else s.sec.flash)) := by
  intro hd bd r s hstage
  refine ⟨_, rfl, ?_⟩
  rw [act_dyn, hstage]
  simp only [act_seq_cons, act_seq_nil]
  generalize s.verify 2 _ = v
  cases v with
  | none =>
    simp only [act_seq_cons, act_seq_nil, Option.isNone_none, if_true]
    rw [(onlyReplies_finish _ _ _ _).eng, (onlyReplies_finish _ _ _ _).sec]
    exact ⟨rfl, rfl, rfl⟩
  | some c =>
    simp only [Option.isNone_some, Bool.false_eq_true, if_false]
    rw [(onlyReplies_finish _ _ _ _).eng, (onlyReplies_finish _ _ _ _).sec]
    exact ⟨rfl, rfl, rfl⟩

/-- An update that goes on stands, or has ended. -/
theorem fwNextStep_update (s : State) : (fwNextStep.act s).eng.update = s.eng.update ∨ (fwNextStep.act s).eng.update = none := by
  rw [fwNextStep, act_dyn]
  split
  · exact .inl rfl
  · refine .inr ?_
    simp only [act_seq_cons, act_seq_nil]
    rw [(onlyReplies_finish _ _ _ _).eng, act_raise, State.raise_eng]
    rfl
  · exact .inl (by rw [act_nop])

theorem fwProbationEnd_completes :
    ∀ u w ws s, s.eng.update = some u → u.probation = true → u.swaps = w :: ws → Completes .fwProbationEnd s
    (fun t => t.cnt (1024 + EV.FW_ENGINE_DONE.x) = (s.cnt (1024 + EV.FW_ENGINE_DONE.x) + 1) % 2 ^ 48 ∧ ∀ v, t.eng.update = some v → v.probation = false) := by
  intro u w ws s hup hprob hswaps
  refine ⟨_, rfl, ?_⟩
  rw [act_dyn, hup]
  simp only [hprob, hswaps, act_seq_cons, act_seq_nil]
  refine ⟨?_, fun v hv => ?_⟩
  · rw [(keeps_fwNextStep _).cnt (by decide), act_upd, apply_eng, cnt_mk, act_raise, cnt_raise_self, whenE_same (·.cnt _) fun x => by rfl]
  · rcases fwNextStep_update _ with h | h
    · rw [h] at hv
      exact (congrArg FwUpdate.probation (Option.some.inj hv)).symm
    · rw [h] at hv
      cases hv

theorem sbxLoadDone_completes :
    ∀ hd bd r mask s, s.eng.sbxLoad = some (r, mask) → Completes (.sbxLoadDone hd bd) s (fun t => t.eng.sbxLoad = none ∧
    ((s.verify 3 ⟨hd.map (·.toNat), bd.map (·.toNat)⟩) = none → ∀ k ∈ sbxOf mask, k ∈ t.eng.sbxTasks)) := by
  intro hd bd r mask s hload
  refine ⟨_, rfl, ?_⟩
  rw [act_dyn, hload]
  simp only [act_seq_cons, act_seq_nil]
  generalize s.verify 3 _ = v
  cases v with
  | none =>
    simp only [act_seq_cons, act_seq_nil]
    rw [(onlyReplies_finish _ _ _ _).eng]
    refine ⟨?_, fun _ k hk => List.mem_append_right _ hk⟩
    exact (forE_same (·.eng.sbxLoad) (fun n _ u => by rw [act_sbxStop, State.wr_eng]) _).trans rfl
  | some c =>
    dsimp only
    rw [(onlyReplies_finish _ _ _ _).eng]
    exact ⟨rfl, fun h => absurd h (Option.some_ne_none _)⟩

/-- Settles O38. -/
theorem engineEvents : Obligations.EngineEvents :=
  ⟨engWatchdog_completes, engTrap_completes, engTrap_stops, engEcc_corrected, engEcc_fails, taskResume_completes, engineRetest_completes,
    spareWtrEnd_completes, sharedSramError_completes, fwStageDone_completes, fwProbationEnd_completes, sbxLoadDone_completes⟩

end Sys2Proof.Machine

/-!
The host interface: rings, the intake, timeouts, Batten and the PCIe link (R611 to R630, R663).
-/
namespace Sys2Proof.Machine
open Sys2Proof

-- The kernel evaluates many small footprints: one thread serves them all.
set_option Elab.async false


/-! ### Rings -/

/-- A write that takes effect to a field whose range is all its values. -/
theorem act_setField {f : Fld} (hacc : (f.acc == .rwl) = false) (hrange : f.range = []) (m i v : Nat) {s : State} (hw : s.writable f.block = true) : (setField m f i v).act s = s.wr f i v := by
  rw [setField, setFieldIf, act_dyn]
  simp only [hw, State.locked, hacc, Fld.inRange, hrange, List.isEmpty_nil, Bool.true_or, Bool.false_and, Bool.not_true, Bool.or_self, Bool.false_eq_true, if_false, act_seq_cons, act_seq_nil, act_nop, act_put]

theorem doorbell_rules (r v : Nat) (s : State) :
    Tab.get 0 ((doorbell r v).act s).cmd.prod r = (v + 65536 - ((v + 65536 - s.rd CMD_RING_STAT.CONS r) % 65536 - 2 ^ s.rd CMD_RING_CFG.CDEPTH r)) % 65536 ∧
      ((doorbell r v).act s).cnt 39 = if (v + 65536 - s.rd CMD_RING_STAT.CONS r) % 65536 - 2 ^ s.rd CMD_RING_CFG.CDEPTH r = 0 then s.cnt 39 else
        (s.cnt 39 + ((v + 65536 - s.rd CMD_RING_STAT.CONS r) % 65536 - 2 ^ s.rd CMD_RING_CFG.CDEPTH r)) % 2 ^ 48 := by
  rw [doorbell, act_dyn]
  dsimp only
  generalize (v + 65536 - s.rd CMD_RING_STAT.CONS r) % 65536 - 2 ^ s.rd CMD_RING_CFG.CDEPTH r = n
  rw [act_seq_cons, act_seq_cons, act_seq_nil]
  refine ⟨?_, ?_⟩
  · rw [whenE_same (·.cmd) fun u => by rw [act_count, State.count_cmd], act_upd, apply_cmd]
    simp only [Tab.get_set_self]
  · rw [act_whenE]
    by_cases hn : n = 0
    · rw [if_neg (by rw [hn]; exact Bool.false_ne_true), if_pos hn]
      simp only [act_upd, apply_cmd, cnt_mk]
    · rw [if_pos (bne_iff_ne.2 hn), if_neg hn]
      exact cnt_count_self _ _ _

theorem Keeps.prod {m : May} {s t : State} (k : Keeps m s t) (h : Comp.cmd ∉ m.comps) : t.cmd.prod = s.cmd.prod := by
  have hcmd : _ = s.cmd := k.comps .cmd h
  exact (congrArg CmdSt.prod hcmd :)

theorem cmdDoorbell_takes :
    ∀ m r v s, s.takes m 18 → (v.toNat + 65536 - s.rd CMD_RING_STAT.CONS r.val) % 65536 ≤ 2 ^ s.rd CMD_RING_CFG.CDEPTH r.val → Completes (.cmdDoorbell m r v) s
    (fun t => Tab.get 0 t.cmd.prod r.val = v.toNat ∧ t.cnt 39 = s.cnt 39) := by
  intro m r v s ht hfit
  refine completes_byMaster rfl ht fun t w => ?_
  obtain ⟨hprod, hcnt⟩ := doorbell_rules r.val v.toNat s
  have hv : v.toNat < 2 ^ 16 := v.isLt
  rw [w.prod (by decide), w.cnt (by decide), hprod, hcnt, Nat.sub_eq_zero_of_le hfit, if_pos rfl]
  exact ⟨by omega, rfl⟩

theorem cmdDoorbell_discards :
    ∀ m r v s, s.takes m 18 → 2 ^ s.rd CMD_RING_CFG.CDEPTH r.val < (v.toNat + 65536 - s.rd CMD_RING_STAT.CONS r.val) % 65536 → Completes (.cmdDoorbell m r v) s
    (fun t => t.cnt 39 = (s.cnt 39 + ((v.toNat + 65536 - s.rd CMD_RING_STAT.CONS r.val) % 65536 - 2 ^ s.rd CMD_RING_CFG.CDEPTH r.val)) % 2 ^ 48) := by
  intro m r v s ht hover
  refine completes_byMaster rfl ht fun t w => ?_
  rw [w.cnt (by decide), (doorbell_rules r.val v.toNat s).2, if_neg (by omega)]

theorem replyAck_completes :
    ∀ m r v s, s.takes m 18 → Completes (.replyAck m r v) s (fun t => t.rd CMD_RACK.ALL r.val = v.toNat) := by
  intro m r v s ht
  refine completes_byMaster rfl ht fun t w => ?_
  rw [w.rdAny (by decide), act_setField (by decide) rfl m.val r.val v.toNat ht.2, rd_wr_self]
  exact Nat.mod_eq_of_lt v.isLt

theorem dumpConsWrite_completes :
    ∀ m v s, s.takes m 18 → Completes (.dumpConsWrite m v) s (fun t => t.rd CMD_DUMP_CONS.ALL = v.toNat) := by
  intro m v s ht
  refine completes_byMaster rfl ht fun t w => ?_
  rw [w.rd (by decide), act_setField (by decide) rfl m.val 0 v.toNat ht.2, rd_wr_self]
  exact Nat.mod_eq_of_lt v.isLt

/-! ### The intake and the replies -/

theorem commandFetch_takes :
    ∀ pkt r s, s.midCommand = false → s.on CMD_STATUS.RING_OK = true → s.cmd.inbox = [] → s.nextRing = some r → Completes (.commandFetch pkt) s (fun t =>
    ∃ s', t = (acceptCmd r (pkt.map (·.toNat))).act s' ∧ s'.cmd.lastRing = r.val ∧ s'.cmd.slots = s.cmd.slots ∧
      s'.rd CMD_RING_STAT.CONS r.val = (s.rd CMD_RING_STAT.CONS r.val + 1) % 2 ^ CMD_RING_STAT.CONS.width) := by
  intro pkt r s hmid hring hinbox hnext
  refine ⟨_, rfl, ?_⟩
  rw [act_dyn, hmid, hring, hinbox]
  simp only [Bool.not_true, Bool.or_self, Bool.false_eq_true, if_false, hnext, act_seq_cons, act_seq_nil]
  exact ⟨_, rfl, rfl, rfl, rd_wr_self _ _ _ _⟩

theorem unhold_waiting (r : Reply) (s : State) : ((unhold r).act s).cmd.waiting = s.cmd.waiting := by
  rw [unhold, act_dyn]
  exact whenE_same (·.cmd.waiting) (fun u => by rfl) _ s

theorem keeps_signal (v : Nat) (s : State) : Keeps ⟨0, [MSIX_PBA.ALL], [], [], []⟩ s ((upd (.signal v)).act s) := keeps_act (by simp)

theorem replyWrite_completes :
    ∀ r rep rest s, Tab.get [] s.cmd.waiting r.val = rep :: rest → s.on CMD_RING_CFG.EN r.val = true → rep.entries ≤ s.freeReplies r.val → Completes (.replyWrite r) s
    (fun t => Tab.get [] t.cmd.waiting r.val = rest ∧ t.rd CMD_RING_STAT.RPROD r.val = (s.rd CMD_RING_STAT.RPROD r.val + rep.entries) % 2 ^ CMD_RING_STAT.RPROD.width ∧
      ∃ k c, Output.reply r.val k (rep.words ++ [c]) ∈ s.sentSince t) := by
  intro r rep rest s hwait hen hroom
  refine ⟨_, rfl, ?_⟩
  rw [act_dyn, hwait]
  have hcond : (!s.on CMD_RING_CFG.EN r.val || decide (s.freeReplies r.val < rep.entries)) = false := by rw [hen, decide_eq_false (not_lt.2 hroom)]; rfl
  simp only [hcond, Bool.false_eq_true, if_false, act_seq_cons, act_seq_nil]
  rw [unhold_waiting, (keeps_unhold rep _).rdAny (by decide)]
  generalize crc32cWords rep.words = c
  refine ⟨?_, ?_, s.rd CMD_RING_STAT.RPROD r.val % 2 ^ s.rd CMD_RING_CFG.RDEPTH r.val, c, mem_sentSince_of_suffix (u := (emit (.reply r.val _ _)).act s) (xs := [_]) ?_ rfl (List.mem_singleton_self _)⟩
  · rw [act_upd, apply_cmd]
    dsimp only
    rw [Tab.get_set_self]
  · rw [act_upd, apply_cmd, rd_mk, (keeps_signal _ _).rdAny (by decide), act_dyn, act_emit, rd_mk, act_put, rd_wr_self]
  · refine List.IsSuffix.trans ?_ (keeps_unhold rep _).sent
    rw [act_upd, apply_cmd]
    refine List.IsSuffix.trans ?_ (keeps_signal (s.rd CMD_RING_CFG.VEC r.val) _).sent
    exact List.suffix_cons _ _

/-! ### Timeouts -/

theorem cmdTimeout_completes :
    ∀ r q run s, Tab.get none s.cmd.slots (slotKey r.val q.toNat) = some ⟨run, none⟩ → run.seq = q.toNat → run.ring = r.val → run.flags = 0 → run.opcode = 0x0F09 →
    s.pair.wait = none → Completes (.cmdTimeout r q) s (fun t => t.obs.capRead = none ∧
      ((Tab.get none t.cmd.slots (slotKey r.val q.toNat)).bind (·.reply)).map (·.status) = some Status.timeout.code) := by
  intro r q run s hslot hseq hring hflags hop hwait
  refine ⟨_, rfl, ?_⟩
  rw [act_dyn, hslot]
  simp only [hseq, BEq.rfl, Option.isNone_none, Bool.and_self, act_whenE, if_true, act_seq_cons, act_seq_nil]
  have hcancel : (cancelRun run).act s = { s with obs := { s.obs with capRead := none } } := by
    rw [cancelRun, act_dyn, hop]
    rfl
  rw [hcancel, (keeps_raise (by decide) _ _).obsOf (P := (·.capRead)) (by decide) fun _ _ => rfl, act_raise, State.raise_cmd]
  generalize hu : (upd _).act _ = u
  have hcap : u.obs.capRead = none := by rw [← hu]; rfl
  have hrun : u.isRunning run = true := by
    have hslots : u.cmd.slots = s.cmd.slots := by rw [← hu]; rfl
    rw [State.isRunning, hslots, hring, hseq, hslot]
    simp
  rw [finish, finishFl, act_dyn, hrun, act_whenE, if_pos rfl, ← hring, ← hseq, replyTo_slot _ _ _ _ _ hflags]
  exact ⟨((onlyReplies_replyTo _ _ _ _ _).obsOf (P := (·.capRead)) fun _ _ => rfl).trans hcap, rfl⟩

/-! ### Batten -/

theorem act_restartEnum {busy : Bool} {s : State} (hhead : s.on CMD_BAT_STAT.HEAD = true) (hup : s.srd.batten.up = true) : (restartEnum busy).act s = (startEnum busy).act s := by
  rw [restartEnum, act_dyn, hhead, hup, act_whenE, if_pos (by rfl)]

theorem startEnum_rules (busy : Bool) (s : State) : ((startEnum busy).act s).rd CMD_BAT_STAT.ENUM = 1 ∧ ((startEnum busy).act s).cmd.tokenOut = some (1, 0) := by
  rw [startEnum, act_seq_cons, act_seq_cons, act_seq_cons, act_seq_nil, act_upd, apply_cmd, act_emit, act_put]
  refine ⟨?_, rfl⟩
  rw [rd_mk, rd_mk, rd_wr_self]
  rfl

theorem Keeps.tokenOut {m : May} {s t : State} (k : Keeps m s t) (h : Comp.cmd ∉ m.comps) : t.cmd.tokenOut = s.cmd.tokenOut := by
  have hcmd : _ = s.cmd := k.comps .cmd h
  exact (congrArg CmdSt.tokenOut hcmd :)

theorem battenRestart_completes :
    ∀ m s, s.takes m 18 → s.on CMD_BAT_STAT.HEAD = true → s.srd.batten.up = true → Completes (.battenRestart m) s (fun t => t.rd CMD_BAT_STAT.ENUM = 1 ∧ t.cmd.tokenOut = some (1, 0)) := by
  intro m s ht hhead hup
  refine completes_byMaster rfl ht fun t w => ?_
  rw [act_restartEnum hhead hup] at w
  obtain ⟨henum, htok⟩ := startEnum_rules true s
  exact ⟨(w.rd (by decide)).trans henum, (w.tokenOut (by decide)).trans htok⟩

theorem tokenCheck_lt {a n : Nat} (ha : a < 256) (hn : n < 256) : tokenCheck a n < 2 ^ 8 := Nat.xor_lt_two_pow (Nat.xor_lt_two_pow ha hn) (by decide)

theorem battenTokenRx_takes :
    ∀ a ids s, s.on CMD_BAT_STAT.HEAD = false → a.toNat < 64 → Completes (.battenTokenRx a 0 (BitVec.ofNat 8 (tokenCheck a.toNat 0)) ids) s
    (fun t => t.rd CMD_BAT_STAT.ADDR = a.toNat ∧ t.out = tokenOut (a.toNat + 1) 0 :: s.out) := by
  intro a ids s hhead ha
  refine ⟨_, rfl, ?_⟩
  have hcheck : (tokenCheck a.toNat (0 : BitVec 8).toNat != (BitVec.ofNat 8 (tokenCheck a.toNat 0)).toNat) = false := by
    rw [BitVec.toNat_ofNat, Nat.mod_eq_of_lt (tokenCheck_lt a.isLt (by decide))]
    exact bne_self_eq_false _
  rw [act_dyn]
  simp only [hcheck, hhead, Bool.false_eq_true, if_false, if_pos ha]
  refine ⟨(rd_wr_self _ _ _ _).trans (Nat.mod_eq_of_lt ?_), rfl⟩
  exact lt_trans ha (by decide)

theorem battenTokenRx_ignores :
    ∀ a n check ids s, tokenCheck a.toNat n.toNat ≠ check.toNat → Completes (.battenTokenRx a n check ids) s (fun t => t = s) := by
  intro a n check ids s hcheck
  refine ⟨_, rfl, ?_⟩
  rw [act_dyn]
  simp only [bne_iff_ne.2 hcheck, if_true, act_nop]

theorem battenPacketRx_forwards :
    ∀ dst src ring ty body s, src.toNat ≠ s.rd CMD_BAT_STAT.ADDR → dst.toNat ≠ s.rd CMD_BAT_STAT.ADDR → Completes (.battenPacketRx dst src ring ty body) s
    (fun t => t.out = s.batten dst.toNat src.toNat ring.val ty.toNat (body.map (·.toNat)) :: s.out ∧ t.regs = s.regs) := by
  intro dst src ring ty body s hsrc hdst
  refine ⟨_, rfl, ?_⟩
  rw [act_dyn]
  simp only [if_neg hsrc, bne_iff_ne.2 hdst, if_true]
  exact ⟨rfl, rfl⟩

theorem battenPacketRx_queues :
    ∀ dst src ring body s, src.toNat ≠ s.rd CMD_BAT_STAT.ADDR → dst.toNat = s.rd CMD_BAT_STAT.ADDR → Completes (.battenPacketRx dst src ring 1 body) s
    (fun t => Tab.get [] t.cmd.waiting ring.val = Tab.get [] s.cmd.waiting ring.val ++ [replyOf ring.val (body.map (·.toNat))]) := by
  intro dst src ring body s hsrc hdst
  refine ⟨_, rfl, ?_⟩
  rw [act_dyn]
  simp only [if_neg hsrc, hdst, bne_self_eq_false, Bool.false_eq_true, if_false]
  exact Tab.get_set_self _ _ _ _

theorem enumTimeout_completes :
    ∀ s, s.cmd.tokenOut.isSome = true → Completes .enumTimeout s (fun t => t.rd CMD_BAT_STAT.ENUM = 3 ∧ t.rd CMD_BAT_STAT.COUNT = 1 ∧ t.cmd.retryDue = true) := by
  intro s htok
  refine ⟨_, rfl, ?_⟩
  rw [act_dyn, htok, act_whenE, if_pos rfl]
  simp only [act_seq_cons, act_seq_nil, act_raise]
  simp (disch := decide) only [act_rules, upd_rules, rd_rules, cmd_rules, and_true]
  exact ⟨rfl, rfl⟩

theorem enumRetry_completes :
    ∀ s, s.cmd.retryDue = true → s.on CMD_BAT_STAT.HEAD = true → s.srd.batten.up = true → Completes .enumRetry s (fun t => t.rd CMD_BAT_STAT.ENUM = 1 ∧ t.cmd.tokenOut = some (1, 0)) := by
  intro s hdue hhead hup
  refine ⟨_, rfl, ?_⟩
  rw [act_dyn, hdue, act_whenE, if_pos rfl, act_restartEnum hhead hup]
  exact startEnum_rules false s

/-! ### The PCIe link -/

theorem endSession_sessions (n : Nat) (s : State) : ((endSession n).act s).cmd.sessions = s.cmd.sessions.filter (· != n) := rfl

theorem forE_endSession (ns : List Nat) (s : State) : ((forE ns endSession).act s).cmd.sessions = s.cmd.sessions.filter (· ∉ ns) := by
  induction ns generalizing s with
  | nil => simp
  | cons n ns ih =>
    rw [act_forE_cons, ih, endSession_sessions, List.filter_filter]
    congr 1
    funext x
    simp [bne, beq_eq_decide, Bool.and_comm]

theorem endSessions_sessions (s : State) : (endSessions.act s).cmd.sessions = [] := by
  rw [endSessions, act_dyn, forE_endSession]
  simp

/-- The registers of ring `r` as a restart of the host interface leaves them (R663). -/
def ringOff (r : Nat) : Eff := seqE [put CMD_RING_CFG.EN 0 r, put CMD_RING_STAT.CONS 0 r, put CMD_RING_STAT.RPROD 0 r, put CMD_RACK.ALL 0 r]

theorem ringOff_self (r : Nat) (s : State) : ((ringOff r).act s).rd CMD_RING_CFG.EN r = 0 := by
  simp (disch := decide) only [ringOff, act_rules, rd_any_rules]
  exact Nat.zero_mod _

theorem ringOff_keeps {r j : Nat} {s : State} (h : s.rd CMD_RING_CFG.EN r = 0) : ((ringOff j).act s).rd CMD_RING_CFG.EN r = 0 := by
  by_cases hj : r = j
  · rw [hj]
    exact ringOff_self j s
  · simp (disch := decide) only [ringOff, act_rules, rd_any_rules]
    rw [rd_wr_ne _ _ _ _ _ _ (Fld.key_ne_of_ne (by decide) hj), h]

/-- What a restart of the host interface changes beside the registers of the rings. -/
def Touch.hostRest : May := ⟨0, [CMD_DUMP_CFG.EN, CMD_STATUS.SESSIONS, MSIX_CTRL.MASK, SYS_EQ_PROD.ALL, SYS_EQ_CONS.ALL, SYS_EQ_STAT.LEVEL, SYS_EQ_STAT.LOST], [], [], [.cmd, .sec, .slots, .sys]⟩

theorem hostRestarts_rules (s : State) : (hostRestarts.act s).cmd.sessions = [] ∧ (hostRestarts.act s).cmd.slots = [] ∧ (hostRestarts.act s).sys.msixEn = false ∧
    ∀ r < 4, (hostRestarts.act s).rd CMD_RING_CFG.EN r = 0 := by
  refine ⟨?_, ?_, ?_, fun r hr => ?_⟩
  · rw [hostRestarts]
    simp only [act_seq_cons, act_seq_nil]
    exact Eq.trans (by rfl) (endSessions_sessions ((put CMD_DUMP_CFG.EN 0).act ((forE (List.range 4) ringOff).act s)))
  · rw [hostRestarts]
    simp only [act_seq_cons, act_seq_nil]
    rfl
  · rw [hostRestarts]
    simp only [act_seq_cons, act_seq_nil]
    rfl
  · have hrings : ((forE (List.range 4) ringOff).act s).rd CMD_RING_CFG.EN r = 0 :=
      forE_establishes (I := fun u => u.rd CMD_RING_CFG.EN r = 0) (List.mem_range.2 hr) (ringOff_self r) (fun _ _ _ => ringOff_keeps) s
    rw [hostRestarts, act_seq_cons]
    refine ((keeps_act (m := Touch.hostRest) ?_).rdAny (by decide)).trans hrings
    have hend : Touch.hostRest.foot.covers Touch.endSessions = true := by decide +kernel
    have hsys : Touch.hostRest.foot.has .sys = true := by decide
    have hcmd : Touch.hostRest.foot.has .cmd = true := by decide
    have hheld : Touch.hostRest.foot.has .slots = true := by decide
    simp [hend, hsys, hcmd, hheld]
    decide

theorem stopEnum_rules (s : State) : (stopEnum.act s).cmd.sessions = s.cmd.sessions ∧ (stopEnum.act s).cmd.slots = s.cmd.slots ∧ (stopEnum.act s).sys = s.sys := by
  rw [stopEnum, act_dyn]
  exact ⟨whenE_same (·.cmd.sessions) (fun u => by rfl) _ s, whenE_same (·.cmd.slots) (fun u => by rfl) _ s, whenE_same (·.sys) (fun u => by rfl) _ s⟩

theorem pcieHostReset_completes :
    ∀ down s, Completes (.pcieHostReset down) s (fun t => t.cmd.sessions = [] ∧ t.cmd.slots = [] ∧ t.sys.msixEn = false ∧ (∀ r < 4, t.rd CMD_RING_CFG.EN r = 0) ∧
    (down = true → t.rd CMD_BAT_STAT.HEAD = 0 ∧ t.rd CMD_BAT_STAT.ADDR = 127)) := by
  intro down s
  refine ⟨_, rfl, ?_⟩
  rw [act_seq_cons, act_seq_cons, act_seq_nil, act_whenE]
  obtain ⟨hses, hslots, hmsix, hrings⟩ := hostRestarts_rules s
  generalize hostRestarts.act s = u at hses hslots hmsix hrings ⊢
  split
  · rw [act_seq_cons, act_seq_cons, act_seq_cons, act_seq_cons, act_seq_nil, act_put, act_put, act_put]
    obtain ⟨hses', hslots', hsys'⟩ := stopEnum_rules u
    refine ⟨hses'.trans hses, hslots'.trans hslots, ?_, fun r hr => ?_, fun _ => ⟨?_, ?_⟩⟩
    · exact (congrArg SysSt.msixEn hsys').trans hmsix
    · simp (disch := decide) only [rd_any_rules, (keeps_stopEnum u).rdAny]
      exact hrings r hr
    · simp (disch := decide) only [rd_rules]
      rfl
    · simp (disch := decide) only [rd_rules]
      rfl
  · exact ⟨hses, hslots, hmsix, hrings, fun h => absurd h ‹_›⟩

theorem pcieLinkUp_completes :
    ∀ s, s.on CMD_BAT_STAT.HEAD = false → Completes .pcieLinkUp s (fun t => t.rd CMD_BAT_STAT.HEAD = 1 ∧ t.rd CMD_BAT_STAT.ADDR = 0 ∧ t.rd CMD_BAT_STAT.COUNT = 1) := by
  intro s hhead
  refine ⟨_, rfl, ?_⟩
  rw [act_dyn, hhead, act_whenE, if_pos (by rfl)]
  simp only [act_seq_cons, act_seq_nil]
  simp (disch := decide) only [(keeps_restartEnum _ _).rd, act_rules, rd_rules]
  exact ⟨rfl, rfl, rfl⟩

/-- Settles O39. -/
theorem hostEvents : Obligations.HostEvents :=
  ⟨cmdDoorbell_takes, cmdDoorbell_discards, replyAck_completes, dumpConsWrite_completes, commandFetch_takes, replyWrite_completes,
    cmdTimeout_completes, battenRestart_completes, battenTokenRx_takes, battenTokenRx_ignores, battenPacketRx_forwards, battenPacketRx_queues,
    enumTimeout_completes, enumRetry_completes, pcieHostReset_completes, pcieLinkUp_completes⟩

end Sys2Proof.Machine

/-!
Writes to plain registers, and writes that change no register (R9, R678, R684, R690).
-/
namespace Sys2Proof.Machine
open Sys2Proof

-- The kernel evaluates many small footprints: one thread serves them all.
set_option Elab.async false


/-! ### What a write reads of the state before it takes effect -/

/-- The fields that decide whether a write takes effect: the device and power states, and what locks a field (R665, R690). -/
def guardFlds : List Fld := [CMD_STATUS.STATE, PWR_STATUS.STATE, SYS_LOCK.LOCK, SYS_EQ_CFG.EN, LTX_STATUS.PLAN_PENDING, LTX_CTRL.LOCK, LTX_STATUS.TX_ON, LRX_CTRL.RX_EN,
  CLI_CH_CTRL.EN, CMD_RING_CFG.EN]

/-- The same of the fields that decide whether a write to instance `i` takes effect stands in two states. -/
def SameGuards (i : Nat) (s t : State) : Prop := ∀ g ∈ guardFlds, t.rd g 0 = s.rd g 0 ∧ t.rd g i = s.rd g i

section
variable {i : Nat} {s t : State}

theorem SameGuards.writable (h : SameGuards i s t) (b : Nat) : t.writable b = s.writable b := by
  simp only [SameGuards, guardFlds, List.forall_mem_cons] at h
  simp only [State.writable, State.powered, State.dev, h]

theorem SameGuards.locked (h : SameGuards i s t) (m : Nat) (f : Fld) : t.locked m f i = s.locked m f i := by
  simp only [SameGuards, guardFlds, List.forall_mem_cons] at h
  simp only [State.locked, State.lockCond, State.on, h]

end

/-! ### One field -/

/-- The access-status fields in which a write flags an access that does not take effect. -/
def accFlds : List Fld := [SYS_ACC_STAT.LOCK, SYS_ACC_STAT.RANGE, SYS_ACC_STAT.PARTIAL, SYS_ACC_STAT.UNMAPPED, SYS_ACC_STAT.ERRORS]

/-- Whether field `f` of instance `i` lies outside the masters' access status. -/
def Fld.offAcc (f : Fld) (i : Nat) : Bool := decide (f.width < 128) && decide (f.lo < 64) && (decide (f.at i < 0x200) || decide (0x310 ≤ f.at i))

theorem Fld.key_ne_of_offAcc {f a : Fld} {i m : Nat} (h : f.offAcc i = true) (ha : a ∈ accFlds) (hm : m < 68) : f.key i ≠ a.key m := by
  have hacc : a.off = 0x200 ∧ a.stride = 4 ∧ a.width < 128 ∧ a.lo < 64 := by
    revert a
    decide
  obtain ⟨hoff, hstride, haw, hal⟩ := hacc
  simp only [Fld.offAcc, Bool.and_eq_true, Bool.or_eq_true, decide_eq_true_eq] at h
  obtain ⟨⟨hfw, hfl⟩, hplace⟩ := h
  intro hk
  obtain ⟨-, -, hat⟩ := Fld.key_inj hfw haw hfl hal hk
  rw [Fld.at] at hplace
  have hout : f.off + i * f.stride = 0x200 + m * 4 := by rw [hat, hoff, hstride]
  generalize f.off + i * f.stride = x at *
  omega

theorem flagAcc_rd {f flag : Fld} {i m : Nat} (h : f.offAcc i = true) (hf : flag ∈ accFlds) (hm : m < 68) (off : Nat) (s : State) : ((flagAcc m flag off).act s).rd f i = s.rd f i := by
  have hput := rd_wr_ne (s.wr flag m 1) f SYS_ACC_STAT.ERRORS i m (sat 255 (s.rd SYS_ACC_STAT.ERRORS m + 1)) (Fld.key_ne_of_offAcc h (by simp [accFlds]) hm)
  rw [rd_wr_ne _ _ _ _ _ _ (Fld.key_ne_of_offAcc h hf hm)] at hput
  simp only [flagAcc, Eff.act]
  split <;> exact hput

/-- What a write of `w` by master `m` leaves in field `f` of instance `i` (R9, R690): the field's part of the word where the field is writable, unlocked and the
part is in range, else what it held. -/
def State.wrote (s : State) (m i w : Nat) (f : Fld) : Nat := if f.writable && !s.locked m f i && f.inRange (f.raw w) then f.raw w else s.rd f i

theorem setField_rd {m i v : Nat} {f : Fld} {s : State} (hw : s.writable f.block = true) (hf : f.offAcc i = true) (hm : m < 68) :
    ((setField m f i v).act s).rd f i = if !s.locked m f i && f.inRange v then v % 2 ^ f.width else s.rd f i := by
  have hlock := flagAcc_rd hf (flag := SYS_ACC_STAT.LOCK) (by simp [accFlds]) hm
  have hrange := flagAcc_rd hf (flag := SYS_ACC_STAT.RANGE) (by simp [accFlds]) hm
  rw [setField, setFieldIf, act_dyn, hw]
  cases hl : s.locked m f i
  · cases hr : f.inRange v
    · simp [hrange]
    · simpa using rd_wr_self _ _ _ _
  · rw [if_neg (by simp), if_pos rfl, act_whenE]
    split <;> simp [hlock]

/-- A write of a field leaves there what `State.wrote` says. -/
theorem writeField_rd {m i w : Nat} {f : Fld} {s : State} (ha : f.acc ∈ [Acc.rw, .rwl, .ro]) (hw : s.writable f.block = true) (hf : f.offAcc i = true) (hm : m < 68) :
    ((writeField m i w f).act s).rd f i = s.wrote m i w f := by
  rw [writeField, act_dyn]
  cases h : f.acc <;> simp [h] at ha
  all_goals simp [State.wrote, Fld.writable, h, setField_rd hw hf hm, Fld.raw_mod]

theorem setField_rd_other {m i j v : Nat} {f g : Fld} (hne : f.key j ≠ g.key i) (hf : f.offAcc j = true) (hm : m < 68) (s : State) : ((setField m g i v).act s).rd f j = s.rd f j := by
  have hlock := flagAcc_rd hf (flag := SYS_ACC_STAT.LOCK) (by simp [accFlds]) hm
  have hrange := flagAcc_rd hf (flag := SYS_ACC_STAT.RANGE) (by simp [accFlds]) hm
  rw [setField, setFieldIf, act_dyn]
  split
  · exact hrange _ s
  · split
    · rw [act_whenE]
      split
      · exact hlock _ s
      · rfl
    · split
      · exact hrange _ s
      · rw [act_seq_cons, act_seq_cons, act_seq_nil, act_nop, act_put, rd_wr_ne _ _ _ _ _ _ hne]

/-- A write of a field changes no other field but the access status. -/
theorem writeField_rd_other {m i j w : Nat} {f g : Fld} (hne : f.key j ≠ g.key i) (hf : f.offAcc j = true) (hm : m < 68) (s : State) :
    ((writeField m i w g).act s).rd f j = s.rd f j := by
  rw [writeField, act_dyn]
  cases g.acc with
  | rw => exact setField_rd_other hne hf hm s
  | rwl => exact setField_rd_other hne hf hm s
  | w1c => exact rd_wr_ne _ _ _ _ _ _ hne
  | _ => rfl

/-! ### The fields of a register -/

/-- Whether the fields of a register can be written one after another without one write changing what decides of the next: they lie apart from one another, from
the access status and from what decides whether a write takes effect. -/
def severalOk (fs : List Fld) (i : Nat) : Bool :=
  decide (fs.map (·.key i)).Nodup && guardFlds.all (fun q => q.offAcc 0 && q.offAcc i) &&
  fs.all (fun f => [Acc.rw, .rwl, .ro].contains f.acc && f.offAcc i && guardFlds.all (fun q => q.key 0 != f.key i && q.key i != f.key i))

section
variable {m i w : Nat} {fs : List Fld} {f : Fld} {s u : State}

theorem wrote_of_same (hg : SameGuards i s u) (h : u.rd f i = s.rd f i ∨ u.rd f i = s.wrote m i w f) : u.wrote m i w f = s.wrote m i w f := by
  simp only [State.wrote, hg.locked] at h ⊢
  split <;> simp_all

theorem act_forE_append {α : Type} (xs ys : List α) (e : α → Eff) (s : State) : (forE (xs ++ ys) e).act s = (forE ys e).act ((forE xs e).act s) := by
  induction xs generalizing s with
  | nil => rw [List.nil_append, act_forE_nil]
  | cons x xs ih => rw [List.cons_append, act_forE_cons, act_forE_cons, ih]

theorem guards_after_writeField (hok : severalOk fs i = true) (hm : m < 68) (hf : f ∈ fs) (h : SameGuards i s u) : SameGuards i s ((writeField m i w f).act u) := fun g hg => by
  simp only [severalOk, Bool.and_eq_true, List.all_eq_true, bne_iff_ne] at hok
  obtain ⟨⟨-, hoff⟩, hfs⟩ := hok
  obtain ⟨-, hne⟩ := hfs f hf
  exact ⟨(writeField_rd_other (hne g hg).1 (hoff g hg).1 hm u).trans (h g hg).1, (writeField_rd_other (hne g hg).2 (hoff g hg).2 hm u).trans (h g hg).2⟩

theorem writeField_rd_sibling {g : Fld} (hok : severalOk fs i = true) (hm : m < 68) (hf : f ∈ fs) (hg : g ∈ fs) (hne : g ≠ f) :
    ((writeField m i w g).act u).rd f i = u.rd f i := by
  simp only [severalOk, Bool.and_eq_true, decide_eq_true_eq, List.all_eq_true] at hok
  obtain ⟨⟨hnodup, -⟩, hfs⟩ := hok
  exact writeField_rd_other (fun h => hne (List.inj_on_of_nodup_map hnodup hg hf h.symm)) (hfs f hf).1.2 hm u

/-- A write of all the fields of a register leaves in each what `State.wrote` says. -/
theorem writeFields_rd (hok : severalOk fs i = true) (hm : m < 68) (hf : f ∈ fs) (hw : s.writable f.block = true) : ((writeFields m i w fs).act s).rd f i = s.wrote m i w f := by
  have hset : ∀ u, SameGuards i s u ∧ (u.rd f i = s.rd f i ∨ u.rd f i = s.wrote m i w f) → ((writeField m i w f).act u).rd f i = s.wrote m i w f := by
    rintro u ⟨hg, hu⟩
    have hall := hok
    simp only [severalOk, Bool.and_eq_true, List.all_eq_true] at hall
    obtain ⟨⟨hacc, hoff⟩, -⟩ := hall.2 f hf
    rw [writeField_rd (List.contains_iff_mem.1 hacc) ((hg.writable _).trans hw) hoff hm, wrote_of_same hg hu]
  have hkeep : ∀ g ∈ fs, ∀ u, SameGuards i s u ∧ (u.rd f i = s.rd f i ∨ u.rd f i = s.wrote m i w f) → ((writeField m i w g).act u).rd f i = u.rd f i ∨
      ((writeField m i w g).act u).rd f i = s.wrote m i w f := fun g hg u hu => by
    by_cases hne : g = f
    · exact .inr (hne ▸ hset u hu)
    · exact .inl (writeField_rd_sibling hok hm hf hg hne)
  have hmem : ∀ g, g ∈ fs.filter (fun f => f.acc == .rwl) ++ fs.filter (fun f => f.acc != .rwl) ↔ g ∈ fs := fun g => by
    simp only [List.mem_append, List.mem_filter, bne, ← and_or_left, Bool.not_eq_true', Bool.eq_true_or_eq_false_self, and_true]
  rw [writeFields, act_seq_cons, act_seq_cons, act_seq_nil, ← act_forE_append]
  refine forE_reaches (I := fun u => u.rd f i = s.wrote m i w f) (J := fun u => SameGuards i s u ∧ (u.rd f i = s.rd f i ∨ u.rd f i = s.wrote m i w f)) ((hmem f).2 hf) ?_ hset ?_
    ⟨fun g _ => ⟨rfl, rfl⟩, .inl rfl⟩
  · rintro g hg u hu
    refine ⟨guards_after_writeField hok hm ((hmem g).1 hg) hu.1, ?_⟩
    rcases hkeep g ((hmem g).1 hg) u hu with h | h
    · rw [h]
      exact hu.2
    · exact .inr h
  · rintro g hg u hJ hI
    rcases hkeep g ((hmem g).1 hg) u hJ with h | h
    · exact h.trans hI
    · exact h

end

/-! ### One register -/

/-- The registers whose write has an effect or a condition beside its fields (chapters 2 to 18). -/
def ownOffs : List Nat := [0x4, 0x30, 0x34, 0x58, 0x100, 0x8000C, 0x100000, 0x100008, 0x100100, 0x100110, 0x100200, 0x100400, 0x100500, 0x100508, 0x200000, 0x200008, 0x200014,
  0x200034, 0x200040, 0x200044, 0x200100, 0x20080C, 0x200810, 0x200814, 0x300020, 0x400000, 0x400010, 0x400014, 0x40001C, 0x500000, 0x500018, 0x500404, 0x600000, 0x601004,
  0x700000, 0x701000, 0x701008, 0x701020, 0x800000, 0x800100, 0x800800, 0x900000, 0x900008, 0x900030, 0xE00000, 0xE00004, 0xE00014, 0xE00030, 0xE00034, 0xE00040, 0xE00200,
  0xE00400, 0xF00010, 0x1100004, 0x1200010, 0x120011C]

/-- A register of one word, in a block where `ownOffs` names all exceptions and none of them, with fields that can be written one after another. -/
def RegDef.plain (r : RegDef) : Bool :=
  r.size == 4 && r.off % 4 == 0 && r.stride % 4 == 0 && decide (0 < r.count) && !r.isInt && !ownOffs.contains r.off &&
  decide (r.off / 0x100000 < 19 ∧ (r.off / 0x100000 < 10 ∨ 13 < r.off / 0x100000))

/-- Whether the fields of `r` can be written one after another in each instance, apart from what the log of a write changes. -/
def RegDef.several (r : RegDef) : Bool :=
  r.flds.any Fld.writable && r.flds.all (fun f => f.block == r.off / 0x100000) &&
  (List.range r.count).all (fun i => severalOk r.flds i && r.flds.all (fun f => f.clearOf i (Touch.logged.flds ++ sharedFlds))) &&
  (writeMay r.flds).foot.covers (.join Touch.logWrite [Touch.setFieldIf])

theorem plain_of_mem : ∀ b, ∀ r ∈ regsOf b, r.off ∈ plainOffs → r.plain = true ∧ r.several = true ∧ r.off / 0x100000 = b := by
  intro b
  unfold regsOf
  split
  case h_20 => exact fun r hr => absurd hr List.not_mem_nil
  all_goals decide +kernel

theorem dyn_const (e : Eff) : (dyn fun _ => e) = e := rfl

/-- A write to a plain register writes its fields, and that is all. -/
theorem writeBlock_plain {r : RegDef} (hr : r.plain = true) (m i w : Nat) : writeBlock m i w r = writeFields m i w r.flds := by
  simp only [RegDef.plain, Bool.and_eq_true, beq_iff_eq, Bool.not_eq_true', decide_eq_true_eq] at hr
  obtain ⟨⟨⟨-, hint⟩, hown⟩, -, hblocks⟩ := hr
  have hoff : r.off ∉ ownOffs := fun h => by
    rw [List.contains_iff_mem.2 h] at hown
    cases hown
  simp only [ownOffs, List.mem_cons, List.not_mem_nil, or_false, not_or] at hoff
  rw [writeBlock, hint, if_neg Bool.false_ne_true]
  split
  case h_11 | h_12 | h_13 | h_14 => omega
  case h_1 => simp only [writeSys, hoff, if_false]
  case h_2 => simp only [writeLtx, hoff, if_false, dyn_const]
  case h_3 => simp only [writeLrx, hoff, if_false, dyn_const]
  case h_4 => simp only [writeCnv, hoff, if_false]
  case h_5 => simp only [writeFec, hoff, if_false, dyn_const]
  case h_6 => simp only [writeFrm, hoff, if_false, dyn_const]
  case h_7 => simp only [writeCli, hoff, if_false, dyn_const]
  case h_8 => simp only [writeSrd, hoff, if_false, dyn_const]
  case h_9 => simp only [writeVnr, hoff, if_false, dyn_const]
  case h_10 => simp only [writeScr, hoff, if_false, dyn_const]
  case h_15 => simp only [writeObs, hoff, if_false, dyn_const]
  case h_16 => simp only [writeEng, hoff, if_false, dyn_const]
  case h_17 => simp only [writePwr, hoff, if_false]
  case h_18 => simp only [writeCmd, hoff, if_false]
  case h_19 => rfl

/-! ### One bus access -/

section
variable {m off : Nat} {e : Eff} {s : State}

/-- The count of one error for an access changes the access status alone. -/
theorem oneError_rd {f : Fld} {i : Nat} (hne : f.key i ≠ SYS_ACC_STAT.ERRORS.key m) : ((oneError m off e).act s).rd f i = (e.act s).rd f i := by
  rw [oneError, act_dyn, act_seq_cons, act_seq_cons, act_seq_nil, act_dyn, act_seq_cons, act_seq_cons, act_seq_nil]
  rw [whenE_same (fun u => u.rd f i) fun u => by rfl]
  exact whenE_same (fun u => u.rd f i) (fun u => by exact rd_wr_ne u f SYS_ACC_STAT.ERRORS i m _ hne) _ _

theorem within_oneError_of {F : Foot} (he : e.Within F s) (herr : F.fld SYS_ACC_STAT.ERRORS = true) (hsys : F.has .sys = true) : (oneError m off e).Within F s := by
  simp [oneError, he, herr, hsys]

end

theorem findReg_inst {off : Nat} {r : RegDef} {i : Nat} (h : findReg off = some (r, i)) : r.inst off = some i := by
  have hin : ∀ rs : List RegDef, findIn off rs = some (r, i) → r.inst off = some i := by
    intro rs
    induction rs with
    | nil => simp [findIn]
    | cons q qs ih =>
      intro hq
      rw [findIn] at hq
      cases hinst : q.inst off with
      | none =>
        rw [hinst] at hq
        exact ih hq
      | some j =>
        rw [hinst] at hq
        simp only [Option.some.injEq, Prod.mk.injEq] at hq
        obtain ⟨rfl, rfl⟩ := hq
        exact hinst
  exact hin _ h

theorem findReg_lt {off : Nat} {r : RegDef} {i : Nat} (h : findReg off = some (r, i)) (hr : 0 < r.count) : i < r.count := by
  have hinst := findReg_inst h
  rw [RegDef.inst] at hinst
  split at hinst
  · cases hinst
  · split at hinst
    · split at hinst <;> simp_all
    · split at hinst
      next hlt => exact Option.some.inj hinst ▸ hlt.2
      · cases hinst

/-- A whole write by a master that reaches the block to a register with fields it can set. -/
theorem writeReg_eq {r : RegDef} {i m : Nat} (hm : m < 60) (hfix : r.fixed i = false) (hany : r.flds.any Fld.writable = true) {s : State} (hw : s.writable (r.off / 0x100000) = true)
    (w : Nat) : writeReg m r i w s = logWrite m r i (fun _ => w) (writeBlock m i w r) s := by
  have hmay : s.mayWrite m r i = true := by simp [State.mayWrite, hm]
  obtain ⟨f, hf, hfw⟩ := List.any_eq_true.1 hany
  have hro : r.readOnly i = false := by
    rw [RegDef.readOnly, hfix, Bool.false_or, List.all_eq_false]
    refine ⟨f, hf, ?_⟩
    cases hacc : f.acc <;> simp [Fld.writable, hacc] at hfw ⊢
  have hall : r.flds.all (fun f => f.acc == .ro || f.acc == .rc) = false := by
    rw [List.all_eq_false]
    refine ⟨f, hf, ?_⟩
    cases hacc : f.acc <;> simp [Fld.writable, hacc] at hfw ⊢
  rw [writeReg, dyn]
  simp only [hmay, hro, hall, hw, Bool.not_true, Bool.false_eq_true, if_false]

/-- A whole-word write to a register of one word. -/
theorem busWrite_eq {m off w i : Nat} {r : RegDef} (hfind : findReg off = some (r, i)) (halias : aliasOf off = none) (hsize : r.size = 4) :
    busWrite m off w = oneError m off (writeReg m r i w) := by
  have hwide : r.wide = false := by rw [RegDef.wide, hsize]; rfl
  have heff : (dyn fun s => if r.readOnly i || !s.mayWrite m r i then writeReg m r i w
      else if r.wide then (if off = r.at i then stageLow m off w else highWrite m r i w)
      else writeReg m r i (if r.size = 8 then halfWord (s.word r.flds i) w (decide (off ≠ r.at i)) else w)) = writeReg m r i w := by
    funext u
    simp only [hwide, hsize, Bool.false_eq_true, if_false, (by decide : (4 : Nat) ≠ 8), ite_self]
    rfl
  rw [busWrite]
  simp only [halias, hfind, heff]

theorem aliasOf_eq_none {off : Nat} (h : off < 0x1A00000) : aliasOf off = none := by
  rw [aliasOf, if_neg (by omega), if_neg (by omega), if_neg (by omega), if_neg (by omega)]

/-- A whole-word write is an access to the bus. -/
theorem registerWrite_whole (m : Mast) (off : BitVec 26) (w : Word) (s : State) : exec (.registerWrite m off 15 w) s = .next ((busWrite m (off.toNat / 4 * 4) w.toNat).act s) := by
  have hwhole : ((15 : BitVec 4) != 15) = false := by decide
  refine Eq.trans (rfl : _ = execRegisterWrite m off 15 w s) ?_
  rw [execRegisterWrite, hwhole, Bool.and_false]
  rfl

section
variable {m i off : Nat} {r : RegDef} (hfind : findReg off = some (r, i)) (hplain : r.off ∈ plainOffs) (hfix : r.fixed i = false) (hm : m < 60) {s : State}
  (hw : s.writable (r.off / 0x100000) = true) (w : Nat)
include hfind hplain hfix hm hw

theorem plainWrite_eq : busWrite m off w = oneError m off (writeReg m r i w) ∧ writeReg m r i w s = logWrite m r i (fun _ => w) (writeFields m i w r.flds) s := by
  obtain ⟨hr, hsev, hblock⟩ := plain_of_mem _ r (findReg_mem hfind) hplain
  have hpl := hr
  simp only [RegDef.plain, RegDef.several, Bool.and_eq_true, beq_iff_eq, decide_eq_true_eq] at hpl hsev
  obtain ⟨⟨⟨⟨⟨⟨hsize, -⟩, -⟩, -⟩, -⟩, -⟩, hlt, -⟩ := hpl
  obtain ⟨⟨⟨hany, -⟩, -⟩, -⟩ := hsev
  have hreg := writeReg_eq hm hfix hany hw w
  rw [writeBlock_plain hr] at hreg
  exact ⟨busWrite_eq hfind (aliasOf_eq_none (by omega)) hsize, hreg⟩

/-- Beside the fields of the register a write changes what its log changes, and the access status. -/
theorem plainWrite_rd {f : Fld} {j : Nat} (hne : f.key j ≠ SYS_ACC_STAT.ERRORS.key m) (hlog : ∀ g ∈ Touch.logged.flds ++ sharedFlds, ∀ k, f.key j ≠ g.key k) :
    ((busWrite m off w).act s).rd f j = ((writeFields m i w r.flds).act s).rd f j := by
  obtain ⟨hbus, hreg⟩ := plainWrite_eq hfind hplain hfix hm hw w
  have hact : (writeReg m r i w).act s = (logWrite m r i (fun _ => w) (writeFields m i w r.flds)).act s := congrArg (fun us => run us s) hreg
  rw [hbus, oneError_rd hne, hact, (logWrite_keeps m r i _ _ s).flds f j hlog]

/-- What a whole write to a plain register that the block takes leaves (R9, R684, R690). -/
theorem plainWrite_leaves : Keeps (writeMay r.flds) s ((busWrite m off w).act s) ∧ ∀ f ∈ r.flds, ((busWrite m off w).act s).rd f i = s.wrote m i w f := by
  obtain ⟨hr, hsev, hblock⟩ := plain_of_mem _ r (findReg_mem hfind) hplain
  simp only [RegDef.plain, RegDef.several, Bool.and_eq_true, beq_iff_eq, decide_eq_true_eq, List.all_eq_true (l := r.flds), List.all_eq_true (l := List.range _)] at hr hsev
  obtain ⟨⟨⟨⟨-, hcount⟩, -⟩, -⟩, -⟩ := hr
  obtain ⟨⟨⟨-, hblocks⟩, hinst⟩, hcov⟩ := hsev
  obtain ⟨hok, hlog⟩ := hinst i (List.mem_range.2 (findReg_lt hfind hcount))
  simp only [Foot.covers_join (m := Touch.logWrite), List.all_cons, List.all_nil, Bool.and_true, Bool.and_eq_true] at hcov
  obtain ⟨hcovLog, hcovSet⟩ := hcov
  have hacc := hcovSet
  simp only [Touch.setFieldIf, Touch.flagAcc, Foot.covers_join, Foot.covers_mk, List.all_cons, List.all_nil, Bool.and_true, Bool.and_eq_true] at hacc
  obtain ⟨-, herr, hsys⟩ := hacc
  refine ⟨?_, fun f hf => ?_⟩
  · obtain ⟨hbus, hreg⟩ := plainWrite_eq hfind hplain hfix hm hw w
    have hfs : r.flds.all (writeMay r.flds).foot.fld = true := List.all_eq_true.2 fun f hf => List.any_eq_true.2 ⟨f, by simp [writeMay, hf], f.alike_refl⟩
    rw [hbus]
    refine keeps_act (within_oneError_of ?_ herr hsys)
    rw [Eff.Within, hreg]
    exact within_logWrite m r i _ _ hcovLog fun t => within_writeFields m i w r.flds hcovSet hfs
  · have hoff : f.offAcc i = true := by
      simp only [severalOk, Bool.and_eq_true, List.all_eq_true] at hok
      exact (hok.2 f hf).1.2
    rw [plainWrite_rd hfind hplain hfix hm hw w (Fld.key_ne_of_offAcc hoff (by simp [accFlds]) (by omega)) (Fld.key_ne_of_clearOf (hlog f hf))]
    exact writeFields_rd hok (by omega) hf (hw ▸ congrArg s.writable (hblocks f hf))

end

theorem plainWrite_completes :
    ∀ m off w r i s, findReg off.toNat = some (r, i) → off.toNat = r.at i → r.off ∈ plainOffs → r.fixed i = false → s.takes m (r.off / 0x100000) →
    Completes (.registerWrite m off 15 w) s (fun t => Keeps (writeMay r.flds) s t ∧ ∀ f ∈ r.flds,
      t.rd f i = if f.writable && !s.locked m.val f i && f.inRange (f.raw w.toNat) then f.raw w.toNat else s.rd f i) := by
  intro m off w r i s hfind hat hplain hfix ht
  obtain ⟨hm, hw⟩ := ht
  obtain ⟨hr, -⟩ := plain_of_mem _ r (findReg_mem hfind) hplain
  simp only [RegDef.plain, Bool.and_eq_true, beq_iff_eq] at hr
  obtain ⟨⟨⟨⟨⟨⟨-, hoff⟩, hstride⟩, -⟩, -⟩, -⟩, -⟩ := hr
  have hword : off.toNat / 4 * 4 = off.toNat := Nat.div_mul_cancel (by
    rw [hat, RegDef.at]
    exact Nat.dvd_add (Nat.dvd_of_mod_eq_zero hoff) (Dvd.dvd.mul_left (Nat.dvd_of_mod_eq_zero hstride) i))
  refine ⟨_, registerWrite_whole m off w s, ?_⟩
  rw [hword]
  exact plainWrite_leaves hfind hplain hfix hm hw w.toNat

/-- Settles O58. -/
theorem plainWrites : Obligations.PlainWrites := plainWrite_completes


end Sys2Proof.Machine

/-!
Writes that change no register of a block, and the registers whose writes have effects of their own (R9, R585, R637, R678, R684, R688, R690, R693, R701, R704).
-/
namespace Sys2Proof.Machine
open Sys2Proof

-- The kernel evaluates many small footprints: one thread serves them all.
set_option Elab.async false


/-! ### Accesses that are turned away -/

/-- An access that flags no error does what it does. -/
theorem oneError_quiet {m off : Nat} {e : Eff} {s : State} (herr : (e.act s).rd SYS_ACC_STAT.ERRORS m = s.rd SYS_ACC_STAT.ERRORS m)
    (haddr : Tab.get none (e.act s).sys.accAddr m = Tab.get none s.sys.accAddr m) : (oneError m off e).act s = e.act s := by
  rw [oneError, act_dyn, act_seq_cons, act_seq_cons, act_seq_nil, act_dyn, act_seq_cons, act_seq_cons, act_seq_nil, herr, haddr]
  have hcount : decide (s.rd SYS_ACC_STAT.ERRORS m < s.rd SYS_ACC_STAT.ERRORS m) = false := decide_eq_false (lt_irrefl _)
  have hfirst : ((Tab.get none s.sys.accAddr m).isNone && (Tab.get none s.sys.accAddr m).isSome) = false := by cases Tab.get none s.sys.accAddr m <;> rfl
  rw [hcount, hfirst]
  rfl

theorem findReg_block_lt {off : Nat} {r : RegDef} {i : Nat} (h : findReg off = some (r, i)) : off < 0x1300000 := by
  have hmem := findReg_mem h
  by_contra hge
  have hnil : ∀ b, 19 ≤ b → regsOf b = [] := fun b hb => by
    unfold regsOf
    split
    case h_20 => rfl
    all_goals omega
  rw [hnil _ (by omega)] at hmem
  cases hmem

/-- A write to the word at `off` itself, not to an alias. -/
def wordWrite (m off w : Nat) : Eff :=
  match findReg off with
  | none => if 60 ≤ m then bump ENG_SBX_DENY.WRITES else flagAcc m SYS_ACC_STAT.UNMAPPED off
  | some (r, i) => dyn fun s =>
    if r.readOnly i || !s.mayWrite m r i then writeReg m r i w
    else if r.wide then (if off = r.at i then stageLow m off w else highWrite m r i w)
    else writeReg m r i (if r.size = 8 then halfWord (s.word r.flds i) w (decide (off ≠ r.at i)) else w)

theorem busWrite_unaliased {m off w : Nat} (h : aliasOf off = none) : busWrite m off w = oneError m off (wordWrite m off w) := by
  rw [busWrite, h]
  rfl

theorem wordWrite_unmapped {m off w : Nat} (hfind : findReg off = none) : wordWrite m off w = if 60 ≤ m then bump ENG_SBX_DENY.WRITES else flagAcc m SYS_ACC_STAT.UNMAPPED off := by
  rw [wordWrite]
  simp only [hfind]

theorem act_wordWrite_mapped {m off w i : Nat} {r : RegDef} (hfind : findReg off = some (r, i)) (s : State) : (wordWrite m off w).act s =
    (if r.readOnly i || !s.mayWrite m r i then writeReg m r i w
    else if r.wide then (if off = r.at i then stageLow m off w else highWrite m r i w)
    else writeReg m r i (if r.size = 8 then halfWord (s.word r.flds i) w (decide (off ≠ r.at i)) else w)).act s := by
  rw [wordWrite]
  simp only [hfind, act_dyn]

theorem readOnlyWrite_completes :
    ∀ m off w r i s, m.val < 60 → findReg (off.toNat / 4 * 4) = some (r, i) → r.readOnly i = false → r.wide = false →
    r.flds.all (fun f => f.acc == .ro || f.acc == .rc) = true → Completes (.registerWrite m off 15 w) s (fun t => t = s) := by
  intro m off w r i s hm hfind hro hwide hall
  refine ⟨_, registerWrite_whole m off w s, ?_⟩
  have hlt := findReg_block_lt hfind
  have hmay : s.mayWrite m r i = true := by simp [State.mayWrite, hm]
  have hquiet : ∀ v, (writeReg m r i v).act s = s := fun v => by
    rw [writeReg, act_dyn]
    simp only [hmay, hro, hall, Bool.not_true, Bool.false_eq_true, if_false, if_true, act_nop]
  have hact : (wordWrite m (off.toNat / 4 * 4) w.toNat).act s = s := by
    rw [act_wordWrite_mapped hfind]
    simp only [hro, hmay, hwide, Bool.not_true, Bool.or_self, Bool.false_eq_true, if_false, hquiet]
  rw [busWrite_unaliased (aliasOf_eq_none (by omega)), oneError_quiet (by rw [hact]) (by rw [hact]), hact]

/-- The registers that an engine of cluster 7 may write lie where the map gives them (Table 17.10). -/
theorem sandboxRegs_at : ∀ b, ∀ r ∈ regsOf b, (r.off = 0x34 → r.stride = 0 ∧ r.size = 4) ∧ (r.off = 0x1100100 → r.stride = 4 ∧ r.size = 4 ∧ r.count = 4) := by
  intro b
  unfold regsOf
  split
  case h_20 => exact fun r hr => absurd hr List.not_mem_nil
  all_goals decide +kernel

/-- A write by an engine of cluster 7 to any other register is denied (R637). -/
theorem mayWrite_eq_false {m off : Nat} {r : RegDef} {i : Nat} {s : State} (hfind : findReg (off / 4 * 4) = some (r, i)) (hm : 60 ≤ m) (hgpio : off / 4 ≠ 0x34 / 4)
    (hpwm : off < 0x1100100 ∨ 0x1100110 ≤ off) : s.mayWrite m r i = false := by
  obtain ⟨hg, hp⟩ := sandboxRegs_at _ r (findReg_mem hfind)
  have hinst := findReg_inst hfind
  rw [RegDef.inst] at hinst
  have hout : r.off ≠ 0x34 := fun h => by
    obtain ⟨hstride, hsize⟩ := hg h
    simp only [h, hstride, hsize, if_true] at hinst
    split_ifs at hinst
    omega
  have hpwmOff : r.off ≠ 0x1100100 := fun h => by
    obtain ⟨hstride, hsize, hcount⟩ := hp h
    simp only [h, hstride, hsize, hcount] at hinst
    split_ifs at hinst <;> omega
  simp [State.mayWrite, hm, hout, hpwmOff]

theorem sandboxWrite_denied :
    ∀ m off w s, 60 ≤ m.val → aliasOf (off.toNat / 4 * 4) = none → off.toNat / 4 ≠ 0x34 / 4 → (off.toNat < 0x1100100 ∨ 0x1100110 ≤ off.toNat) →
    Completes (.registerWrite m off 15 w) s (fun t => Keeps ⟨7, [ENG_SBX_DENY.WRITES], [], [], []⟩ s t ∧
      t.rd ENG_SBX_DENY.WRITES = sat 65535 (s.rd ENG_SBX_DENY.WRITES + 1)) := by
  intro m off w s hm halias hgpio hpwm
  refine ⟨_, registerWrite_whole m off w s, ?_⟩
  have hact : (wordWrite m (off.toNat / 4 * 4) w.toNat).act s = (bump ENG_SBX_DENY.WRITES).act s := by
    cases hfind : findReg (off.toNat / 4 * 4) with
    | none => rw [wordWrite_unmapped hfind, if_pos hm]
    | some x =>
      have hmay := mayWrite_eq_false (s := s) hfind hm hgpio hpwm
      rw [act_wordWrite_mapped hfind, hmay, Bool.not_false, Bool.or_true, if_pos rfl, writeReg, act_dyn, hmay]
      rfl
  have herr : ((bump ENG_SBX_DENY.WRITES).act s).rd SYS_ACC_STAT.ERRORS m.val = s.rd SYS_ACC_STAT.ERRORS m.val :=
    rd_wr_ne _ _ _ _ _ _ (Fld.key_ne_of_offAcc (by decide) (by simp [accFlds]) (by omega)).symm
  rw [busWrite_unaliased halias, oneError_quiet (by rw [hact, herr]) (by rw [hact]; rfl), hact]
  refine ⟨keeps_act ((within_bump_iff _ _ _).2 (by decide)), (rd_wr_self _ _ _ _).trans ?_⟩
  exact Nat.mod_eq_of_lt (lt_of_le_of_lt (min_le_left _ _) (by decide))

/-- Settles O59. -/
theorem deniedWrites : Obligations.DeniedWrites :=
  ⟨readOnlyWrite_completes, sandboxWrite_denied⟩

/-! ### Accesses that are flagged -/

theorem flagAcc_flag {m off : Nat} {flag : Fld} (hne : flag.key m ≠ SYS_ACC_STAT.ERRORS.key m) (s : State) : ((flagAcc m flag off).act s).rd flag m = 1 % 2 ^ flag.width := by
  have h := rd_wr_ne (s.wr flag m 1) flag SYS_ACC_STAT.ERRORS m m (sat 255 (s.rd SYS_ACC_STAT.ERRORS m + 1)) hne
  rw [rd_wr_self] at h
  simp only [flagAcc, Eff.act]
  split <;> exact h

theorem flagAcc_errors {m off : Nat} {flag : Fld} (hm : m < 68) (s : State) : ((flagAcc m flag off).act s).rd SYS_ACC_STAT.ERRORS m = sat 255 (s.rd SYS_ACC_STAT.ERRORS m + 1) % 2 ^ 8 := by
  simp only [flagAcc, Eff.act]
  split <;> exact rd_wr_self _ _ _ _

theorem partialWrite_flagged :
    ∀ m off be w s, m.val < 60 → be ≠ 15 → Completes (.registerWrite m off be w) s (fun t => t.rd SYS_ACC_STAT.PARTIAL m.val = 1 ∧
    t.rd SYS_ACC_STAT.ERRORS m.val = sat 255 (s.rd SYS_ACC_STAT.ERRORS m.val + 1) % 2 ^ SYS_ACC_STAT.ERRORS.width ∧
    Keeps ⟨7, [SYS_ACC_STAT.PARTIAL, SYS_ACC_STAT.ERRORS], [], [], [.sys]⟩ s t) := by
  intro m off be w s hm hbe
  have hbox : inSandbox m = false := by simp [inSandbox, hm]
  refine ⟨(flagAcc m SYS_ACC_STAT.PARTIAL (off.toNat / 4 * 4)).act s, ?_, ?_, ?_, ?_⟩
  · refine Eq.trans (rfl : _ = execRegisterWrite m off be w s) ?_
    rw [execRegisterWrite, hbox, Bool.false_and, if_neg Bool.false_ne_true, if_pos (bne_iff_ne.2 hbe)]
    rfl
  · exact flagAcc_flag (Fld.key_ne_of_apart (by decide) m m) s
  · exact flagAcc_errors (by omega) s
  · exact keeps_act (within_flagAcc _ _ _ (by decide +kernel) (by decide))

theorem unmappedWrite_flagged :
    ∀ m off w s, m.val < 60 → aliasOf (off.toNat / 4 * 4) = none → findReg (off.toNat / 4 * 4) = none → Completes (.registerWrite m off 15 w) s
    (fun t => t.rd SYS_ACC_STAT.UNMAPPED m.val = 1 ∧ Keeps ⟨7, [SYS_ACC_STAT.UNMAPPED, SYS_ACC_STAT.ERRORS], [], [], [.sys]⟩ s t) := by
  intro m off w s hm halias hfind
  refine ⟨_, registerWrite_whole m off w s, ?_⟩
  rw [busWrite_unaliased halias, wordWrite_unmapped hfind, if_neg (by omega)]
  refine ⟨?_, keeps_act (within_oneError_of (within_flagAcc _ _ _ (by decide +kernel) (by decide)) (by decide) (by decide))⟩
  rw [oneError_rd (Fld.key_ne_of_apart (by decide) _ _)]
  exact flagAcc_flag (Fld.key_ne_of_apart (by decide) _ _) s

/-! ### Writes out of range -/

/-- A field whose part of the word is out of range keeps its value, and the write sets RANGE. -/
theorem writeField_range {m i w : Nat} {f : Fld} {s : State} (hacc : f.acc = .rw) (hw : s.writable f.block = true) (hr : f.inRange (f.raw w) = false) :
    ((writeField m i w f).act s).rd SYS_ACC_STAT.RANGE m = 1 := by
  rw [writeField, act_dyn, hacc]
  simp only [setField, setFieldIf, act_dyn, hw, State.locked, hacc, hr, Bool.not_true, Bool.not_false, Bool.true_or, Bool.false_eq_true, if_false, if_true]
  exact flagAcc_flag (Fld.key_ne_of_apart (by decide) _ _) s

theorem keeps_flagAcc (m : Nat) (flag : Fld) (off : Nat) (s : State) : Keeps ⟨0, [flag, SYS_ACC_STAT.ERRORS], [], [], [.sys]⟩ s ((flagAcc m flag off).act s) := by
  refine keeps_act (within_flagAcc m flag off ?_ ?_) <;> simp [Touch.flagAcc, May.foot, Fld.alike_refl]

theorem flagAcc_keeps_range {m off : Nat} {flag : Fld} (hf : flag = SYS_ACC_STAT.LOCK ∨ flag = SYS_ACC_STAT.RANGE) {s : State} (h : s.rd SYS_ACC_STAT.RANGE m = 1) :
    ((flagAcc m flag off).act s).rd SYS_ACC_STAT.RANGE m = 1 := by
  rcases hf with rfl | rfl
  · exact ((keeps_flagAcc m SYS_ACC_STAT.LOCK off s).rdAny (by decide)).trans h
  · exact flagAcc_flag (Fld.key_ne_of_apart (by decide) _ _) s

/-- RANGE, once set, stands through the writes of further fields. -/
theorem writeField_keeps_range {m i w : Nat} {f : Fld} {s : State} (hacc : f.acc = .rw) (hf : f.offAcc i = true) (hm : m < 68) (h : s.rd SYS_ACC_STAT.RANGE m = 1) :
    ((writeField m i w f).act s).rd SYS_ACC_STAT.RANGE m = 1 := by
  rw [writeField, act_dyn, hacc]
  simp only [setField, setFieldIf, act_dyn, State.locked, hacc, (by decide : (Acc.rw == .rwl) = false), Bool.false_and, Bool.false_eq_true, if_false]
  split
  · exact flagAcc_keeps_range (.inr rfl) h
  · split
    · exact flagAcc_keeps_range (.inr rfl) h
    · rw [act_seq_cons, act_seq_cons, act_seq_nil, act_nop, act_put, rd_wr_ne _ _ _ _ _ _ (Fld.key_ne_of_offAcc hf (by simp [accFlds]) hm).symm, h]

/-- A write of fields of which one is out of range sets RANGE. -/
theorem writeFields_range {m i w : Nat} {fs : List Fld} (hok : severalOk fs i = true) (hm : m < 68) (hacc : ∀ f ∈ fs, f.acc = .rw) {f : Fld} (hf : f ∈ fs)
    (hr : f.inRange (f.raw w) = false) {s : State} (hw : s.writable f.block = true) : ((writeFields m i w fs).act s).rd SYS_ACC_STAT.RANGE m = 1 := by
  have hoff : ∀ f ∈ fs, f.offAcc i = true := fun f hf => by
    simp only [severalOk, Bool.and_eq_true, List.all_eq_true] at hok
    exact (hok.2 f hf).1.2
  have hfs : fs.filter (fun f => f.acc == .rwl) = [] ∧ fs.filter (fun f => f.acc != .rwl) = fs :=
    ⟨List.filter_eq_nil_iff.2 fun g hg => by rw [hacc g hg]; decide, List.filter_eq_self.2 fun g hg => by rw [hacc g hg]; decide⟩
  rw [writeFields, act_seq_cons, act_seq_cons, act_seq_nil, hfs.1, hfs.2, act_forE_nil]
  exact forE_reaches (I := fun u => u.rd SYS_ACC_STAT.RANGE m = 1) (J := SameGuards i s) hf (fun g hg u hu => guards_after_writeField hok hm hg hu)
    (fun u hu => writeField_range (hacc f hf) ((hu.writable _).trans hw) hr) (fun g hg u _ hI => writeField_keeps_range (hacc g hg) (hoff g hg) hm hI) fun g _ => ⟨rfl, rfl⟩

theorem findReg_decCfg : findReg 0x400008 = some (⟨"FEC_DEC_CFG", 0x400008, 0, 1, 4, FEC_DEC_CFG.fields⟩, 0) := by rfl

theorem decCfg_wrote {m w : Nat} {f : Fld} (hf : f ∈ FEC_DEC_CFG.fields) (s : State) : s.wrote m 0 w f = if f.inRange (f.raw w) then f.raw w else s.rd f := by
  have hacc : f.acc = .rw := (by decide : ∀ f ∈ FEC_DEC_CFG.fields, f.acc = .rw) f hf
  simp [State.wrote, Fld.writable, State.locked, hacc]

theorem plainWrite_inRange :
    ∀ m w s, s.takes m 4 → wordOk FEC_DEC_CFG.fields w.toNat = true → Completes (.registerWrite m 0x400008 15 w) s (fun t => ∀ f ∈ FEC_DEC_CFG.fields, t.rd f = f.raw w.toNat) := by
  intro m w s ht hok
  refine ⟨_, registerWrite_whole m 0x400008 w s, fun f hf => ?_⟩
  refine ((plainWrite_leaves findReg_decCfg (by decide) rfl ht.1 ht.2 w.toNat).2 f hf).trans ?_
  have hin := List.all_eq_true.1 hok f hf
  rw [(by decide : ∀ f ∈ FEC_DEC_CFG.fields, f.writable = true) f hf, Bool.not_true, Bool.false_or] at hin
  rw [decCfg_wrote hf, if_pos hin]

theorem plainWrite_outOfRange :
    ∀ m w s, s.takes m 4 → wordOk FEC_DEC_CFG.fields w.toNat = false → Completes (.registerWrite m 0x400008 15 w) s (fun t => t.rd SYS_ACC_STAT.RANGE m.val = 1 ∧
    Keeps (writeMay FEC_DEC_CFG.fields) s t ∧ ∀ f ∈ FEC_DEC_CFG.fields, t.rd f = if f.inRange (f.raw w.toNat) then f.raw w.toNat else s.rd f) := by
  intro m w s ht hok
  refine ⟨_, registerWrite_whole m 0x400008 w s, ?_⟩
  obtain ⟨hkeeps, hvals⟩ := plainWrite_leaves findReg_decCfg (by decide) rfl ht.1 ht.2 w.toNat
  refine ⟨?_, hkeeps, fun f hf => (hvals f hf).trans (decCfg_wrote hf s)⟩
  obtain ⟨f, hf, hbad⟩ := List.all_eq_false.1 hok
  have hr : f.inRange (f.raw w.toNat) = false := by
    simp only [Bool.or_eq_true, not_or, Bool.not_eq_true] at hbad
    exact hbad.2
  refine (plainWrite_rd findReg_decCfg (by decide) rfl ht.1 ht.2 w.toNat (Fld.key_ne_of_apart (by decide) _ _)
    (Fld.key_ne_of_apartOf (by decide) _)).trans ?_
  exact writeFields_range (by decide) (by omega) (by decide) hf hr (by
    rw [(by decide : ∀ f ∈ FEC_DEC_CFG.fields, f.block = 4) f hf]
    exact ht.2)

/-! ### Aliases -/

/-- The write to a register with fields it can set is logged; what it leaves beside what the log changes, its block decides. -/
theorem writeReg_rd {m i w : Nat} {r : RegDef} (hm : m < 60) (hfix : r.fixed i = false) (hany : r.flds.any Fld.writable = true) {s : State}
    (hw : s.writable (r.off / 0x100000) = true) {f : Fld} {j : Nat} (hlog : ∀ g ∈ Touch.logged.flds ++ sharedFlds, ∀ k, f.key j ≠ g.key k) :
    ((writeReg m r i w).act s).rd f j = ((writeBlock m i w r).act s).rd f j := by
  have hact : (writeReg m r i w).act s = (logWrite m r i (fun _ => w) (writeBlock m i w r)).act s := congrArg (fun us => run us s) (writeReg_eq hm hfix hany hw w)
  rw [hact, (logWrite_keeps m r i _ _ s).flds f j hlog]

theorem keeps_resignal (b : Nat) (s : State) : Keeps ⟨0, [], [], [], []⟩ s ((upd (.resignal b)).act s) := keeps_act (by simp)

theorem findReg_ltxIntEn : findReg 0x100024 = some (⟨"LTX_INT_EN", 0x100024, 0, 1, 4, [LTX_INT_EN.ALL]⟩, 0) := by rfl

/-- A write to LTX_INT_EN sets its bits. -/
theorem ltxIntEn_write {m : Nat} (hm : m < 60) {s : State} (hw : s.writable 1 = true) (v : Nat) :
    ((writeReg m ⟨"LTX_INT_EN", 0x100024, 0, 1, 4, [LTX_INT_EN.ALL]⟩ 0 v).act s).rd LTX_INT_EN.ALL = LTX_INT_EN.ALL.raw v := by
  rw [writeReg_rd hm rfl rfl hw (Fld.key_ne_of_clearOf (by decide))]
  rw [writeBlock, if_pos (by decide), act_seq_cons, act_seq_cons, act_seq_nil, (keeps_resignal _ _).rd (by decide)]
  rw [writeFields_rd (by decide) (by omega) (List.mem_singleton_self _) hw]
  rfl

/-- An alias write to LTX_INT_EN sets or clears bits of what it holds (R688). -/
theorem ltxIntEn_alias {m : Nat} (hm : m < 60) {s : State} (hw : s.writable 1 = true) (set : Bool) (w : Nat) :
    ((busWrite m (aliasAddr set 0x100024) w).act s).rd LTX_INT_EN.ALL =
      LTX_INT_EN.ALL.raw (if set then s.rd LTX_INT_EN.ALL ||| w else s.rd LTX_INT_EN.ALL - (s.rd LTX_INT_EN.ALL &&& w)) := by
  have halias : aliasOf (aliasAddr set 0x100024) = some (set, 0x100024) := by cases set <;> rfl
  rw [busWrite, halias]
  dsimp only
  rw [oneError_rd (Fld.key_ne_of_apart (by decide) _ _), aliasWrite, act_dyn, findReg_ltxIntEn]
  dsimp only
  rw [if_neg (by decide), ltxIntEn_write hm hw]
  have hword : s.word ([LTX_INT_EN.ALL].filter Fld.writable) 0 = s.rd LTX_INT_EN.ALL := by
    change s.word [LTX_INT_EN.ALL] 0 = _
    simp only [State.word, List.foldl_cons, List.foldl_nil, zero_add]
    exact Nat.mul_one _
  simp [hword, RegDef.at]

theorem setAlias_completes :
    ∀ m w s, s.takes m 1 → Completes (.setAliasWrite m 0x100024 w) s (fun t => t.rd LTX_INT_EN.ALL = LTX_INT_EN.ALL.raw (s.rd LTX_INT_EN.ALL ||| w.toNat)) := by
  intro m w s ht
  exact ⟨_, rfl, ltxIntEn_alias ht.1 ht.2 true w.toNat⟩

theorem clearAlias_completes :
    ∀ m w s, s.takes m 1 → Completes (.clearAliasWrite m 0x100024 w) s (fun t => t.rd LTX_INT_EN.ALL = LTX_INT_EN.ALL.raw (s.rd LTX_INT_EN.ALL - (s.rd LTX_INT_EN.ALL &&& w.toNat))) := by
  intro m w s ht
  exact ⟨_, rfl, ltxIntEn_alias ht.1 ht.2 false w.toNat⟩

/-! ### The words of a 64-bit register -/

/-- The register of the peer's identifier. -/
def peerId : RegDef := ⟨"SCR_PEER_ID", 0x900020, 0, 1, 8, [SCR_PEER_ID.ALL]⟩

theorem findReg_peerId : findReg 0x900020 = some (peerId, 0) ∧ findReg 0x900024 = some (peerId, 0) := ⟨by rfl, by rfl⟩

theorem lowWord_staged :
    ∀ m w s, m.val < 60 → Completes (.lowWordWrite m 0x900020 w) s (fun t => Tab.get none t.sys.wrShadow m.val = some (0x900020, w.toNat) ∧ t.rd SCR_PEER_ID.ALL = s.rd SCR_PEER_ID.ALL) := by
  intro m w s hm
  refine ⟨_, rfl, ?_⟩
  have hmay : s.mayWrite m peerId 0 = true := by simp [State.mayWrite, hm]
  rw [act_seq_cons, act_seq_nil]
  have hact : (wordWrite m 0x900020 w.toNat).act s = (stageLow m 0x900020 w.toNat).act s := by
    rw [act_wordWrite_mapped findReg_peerId.1, hmay]
    rfl
  change Tab.get none ((busWrite m 0x900020 w.toNat).act s).sys.wrShadow m.val = _ ∧ ((busWrite m 0x900020 w.toNat).act s).rd _ = _
  rw [busWrite_unaliased (by rfl), oneError_quiet (by rw [hact]; rfl) (by rw [hact]; rfl), hact, stageLow, act_upd, apply_sys]
  dsimp only
  exact ⟨by rw [Tab.get_set_self], rfl⟩

theorem peerId_writeBlock {m : Nat} {u : State} (hw : u.writable 9 = true) (v : Nat) : (writeBlock m 0 v peerId).act u = u.wr SCR_PEER_ID.ALL 0 (SCR_PEER_ID.ALL.raw v) := by
  have hown : ∀ o ∈ [0x900000, 0x900008, 0x900030], peerId.off ≠ o := by decide
  simp only [List.forall_mem_cons] at hown
  rw [writeBlock, if_neg (by decide)]
  change (writeScr m 0 v peerId).act u = _
  rw [writeScr, act_dyn, if_neg hown.1, if_neg hown.2.1, if_neg hown.2.2.1]
  change (writeFields m 0 v [SCR_PEER_ID.ALL]).act u = _
  rw [writeFields, act_seq_cons, act_seq_cons, act_seq_nil]
  change (forE [SCR_PEER_ID.ALL] (writeField m 0 v)).act u = _
  rw [act_forE_cons, act_forE_nil]
  exact act_setField (by decide) rfl m 0 _ hw

theorem oneError_wrShadow (m off : Nat) (e : Eff) (s : State) : ((oneError m off e).act s).sys.wrShadow = (e.act s).sys.wrShadow := by
  rw [oneError, act_dyn, act_seq_cons, act_seq_cons, act_seq_nil, act_dyn, act_seq_cons, act_seq_cons, act_seq_nil]
  rw [whenE_same (·.sys.wrShadow) fun u => by rfl]
  exact whenE_same (·.sys.wrShadow) (fun u => by rfl) _ _

theorem highWord_completes :
    ∀ m w lo s, s.takes m 9 → Tab.get none s.sys.wrShadow m.val = some (0x900020, lo) → lo < 2 ^ 32 → Completes (.highWordWrite m 0x900020 w) s
    (fun t => t.rd SCR_PEER_ID.ALL = lo + 2 ^ 32 * w.toNat ∧ Tab.get none t.sys.wrShadow m.val = none) := by
  intro m w lo s ht hlow hlo
  obtain ⟨hm, hw⟩ := ht
  refine ⟨_, rfl, ?_⟩
  have hmay : s.mayWrite m peerId 0 = true := by simp [State.mayWrite, hm]
  change ((busWrite m 0x900024 w.toNat).act s).rd _ = _ ∧ Tab.get none ((busWrite m 0x900024 w.toNat).act s).sys.wrShadow m.val = _
  have hact : (wordWrite m 0x900024 w.toNat).act s = (writeReg m peerId 0 (lo + 2 ^ 32 * w.toNat)).act ((upd (.sys fun y => { y with wrShadow := Tab.set none y.wrShadow m none })).act s) := by
    rw [act_wordWrite_mapped findReg_peerId.2, hmay, if_neg (by decide), if_pos (by decide), if_neg (by decide), highWrite, act_dyn]
    simp only [hlow]
    rw [if_pos (by rfl), act_seq_cons, act_seq_cons, act_seq_nil]
  generalize hu : (upd _).act s = u at hact
  have hwu : u.writable 9 = true := by
    rw [← hu]
    exact hw
  have hreg : (writeReg m peerId 0 (lo + 2 ^ 32 * w.toNat)).act u = (logWrite m peerId 0 (fun _ => lo + 2 ^ 32 * w.toNat) (writeBlock m 0 (lo + 2 ^ 32 * w.toNat) peerId)).act u :=
    congrArg (fun us => run us u) (writeReg_eq hm rfl rfl hwu _)
  have k := logWrite_keeps m peerId 0 (fun _ => lo + 2 ^ 32 * w.toNat) (writeBlock m 0 (lo + 2 ^ 32 * w.toNat) peerId) u
  rw [busWrite_unaliased (by rfl), oneError_rd (Fld.key_ne_of_apart (by decide) _ _), oneError_wrShadow, hact, hreg]
  rw [peerId_writeBlock hwu] at k
  refine ⟨?_, ?_⟩
  · have hv : lo + 2 ^ 32 * w.toNat < 2 ^ 64 := by
      have hword := w.isLt
      omega
    have hraw : SCR_PEER_ID.ALL.raw (lo + 2 ^ 32 * w.toNat) = (lo + 2 ^ 32 * w.toNat) / 2 ^ 0 % 2 ^ 64 := rfl
    rw [k.rd (by decide), rd_wr_self, Fld.raw_mod, hraw, pow_zero, Nat.div_one, Nat.mod_eq_of_lt hv]
  · have hsys : _ = u.sys := k.comps .sys (by decide)
    have hshadow := congrArg SysSt.wrShadow hsys
    dsimp only at hshadow
    rw [hshadow, ← hu, act_upd, apply_sys]
    dsimp only
    rw [Tab.get_set_self]

/-! ### Status bits, locks and the event queue -/

theorem cutSnapshot_rd {f : Fld} {i : Nat} (h : f.key i ≠ PAIR_EPOCH.ALL.key 0) (s : State) : (cutSnapshot.act s).rd f i = s.rd f i := by
  simp only [cutSnapshot, act_toMate, act_rules, upd_rules, rd_mk]
  exact rd_wr_ne _ _ _ _ _ _ h

theorem mateStale_rd {f : Fld} {i : Nat} (hepoch : f.key i ≠ PAIR_EPOCH.ALL.key 0) (hrole : f.key i ≠ PAIR_STATUS.MATE_ROLE.key 0) (s : State) : (mateStale.act s).rd f i = s.rd f i := by
  rw [mateStale, act_dyn, act_seq_cons, act_seq_cons, act_seq_cons, act_seq_nil, whenE_same (fun u => u.rd f i) fun u => cutSnapshot_rd hepoch u, act_toMate, rd_mk]
  exact rd_wr_ne _ _ _ _ _ _ hrole

theorem journal_rd {f : Fld} {i : Nat} (h : f.key i ∉ raiseKeys EV.PAIR_SYNC_FAIL ++ May.journal.map (·.key 0)) (cat : Nat) (body : List Nat) (s : State) :
    ((journal cat body).act s).rd f i = s.rd f i := by
  simp only [List.mem_append, not_or, May.journal, List.map_cons, List.map_nil, List.mem_cons, List.not_mem_nil, or_false] at h
  obtain ⟨hraise, hepoch, hseq, hrole⟩ := h
  rw [journal, act_seq_cons, act_seq_cons, act_seq_nil, act_dyn]
  generalize hu : Eff.act _ s = u
  have hrd : u.rd f i = s.rd f i := by
    rw [← hu]
    exact rd_wr_ne _ _ _ _ _ _ hseq
  rw [← hrd]
  split
  · rw [act_seq_cons, act_seq_cons, act_seq_cons, act_seq_nil, mateStale_rd hepoch hrole, act_raise, rd_raise _ _ _ _ _ hraise]
    rfl
  · exact whenE_same (fun u => u.rd f i) (fun u => cutSnapshot_rd hepoch u) _ _

/-- The log of a write changes no field but those of the recorder and, where the write is journalled, of the journal. -/
theorem logWrite_rd {m i : Nat} {r : RegDef} {f : Fld} {j : Nat} (hrec : f.key j ≠ OBS_REC_RSEQ.ALL.key 0)
    (hj : configBlock (r.off / 0x100000) = false ∨ f.key j ∉ raiseKeys EV.PAIR_SYNC_FAIL ++ May.journal.map (·.key 0)) (w : State → Nat) (e : Eff) (s : State) :
    ((logWrite m r i w e).act s).rd f j = (e.act s).rd f j := by
  rw [logWrite, act_dyn, act_seq_cons, act_seq_cons, act_seq_nil, act_dyn, act_seq_cons, act_seq_cons, act_seq_nil]
  have hrecord : ∀ b body u, ((whenE b (record 3 body)).act u).rd f j = u.rd f j := fun b body u =>
    whenE_same (fun u => u.rd f j) (fun u => by rw [act_record, rd_record _ _ _ _ _ _ hrec]) b u
  rcases hj with hb | hj
  · rw [hb, Bool.and_false, Bool.false_and, Bool.false_and, Bool.false_and]
    exact hrecord _ _ _
  · rw [whenE_same (fun u => u.rd f j) fun u => by exact journal_rd hj _ _ u]
    exact hrecord _ _ _

theorem intStat_found : ∀ b p, (intPairs b).head? = some p → ∃ r, findReg p.1.off = some (r, 0) ∧ r.flds = [p.1] ∧ r.off = p.1.off ∧ r.size = 4 ∧ r.isInt = true ∧ p.1.block = b ∧
    r.readOnly 0 = false ∧
    p.1.acc = .w1c ∧ p.1.offAcc 0 = true ∧ p.1.key 0 ≠ MSIX_PBA.ALL.key 0 ∧ p.1.key 0 ≠ OBS_REC_RSEQ.ALL.key 0 ∧ (configBlock b = false ∨ p.1.key 0 ∉ raiseKeys EV.PAIR_SYNC_FAIL ++ May.journal.map (·.key 0)) := by
  intro b p h
  unfold intPairs at h
  split at h
  case h_20 => cases h
  all_goals
    cases h
    exact ⟨_, rfl, rfl, rfl, rfl, by decide +kernel, rfl, rfl, rfl, by decide, by decide, by decide, by decide +kernel⟩

/-- The write to a register that has fields a write can change, by a master that reaches the block. -/
theorem writeReg_logged {m i w : Nat} {r : RegDef} (hm : m < 60) (hro : r.readOnly i = false) (hall : r.flds.all (fun f => f.acc == .ro || f.acc == .rc) = false) {s : State}
    (hw : s.writable (r.off / 0x100000) = true) : (writeReg m r i w).act s = (logWrite m r i (fun _ => w) (writeBlock m i w r)).act s := by
  have hmay : s.mayWrite m r i = true := by simp [State.mayWrite, hm]
  rw [writeReg, act_dyn]
  simp only [hmay, hro, hall, hw, Bool.not_true, Bool.false_eq_true, if_false]

theorem resignal_rd {f : Fld} {i : Nat} (h : f.key i ≠ MSIX_PBA.ALL.key 0) (b : Nat) (s : State) : ((Upd.resignal b).apply s).rd f i = s.rd f i := by
  change (s.resignal b).rd f i = _
  rw [State.resignal]
  split
  · rw [State.signalBlock, rd_signal _ _ _ _ h]
  · rfl

/-- A write of 1s to a W1C field clears those bits. -/
theorem writeFields_clears {m i w : Nat} {f : Fld} (hacc : f.acc = .w1c) (s : State) :
    ((writeFields m i w [f]).act s).rd f i = (s.rd f i - (s.rd f i &&& f.raw w)) % 2 ^ f.width := by
  have hfs : [f].filter (fun f => f.acc == .rwl) = [] ∧ [f].filter (fun f => f.acc != .rwl) = [f] := by simp [hacc]
  rw [writeFields, act_seq_cons, act_seq_cons, act_seq_nil, hfs.1, hfs.2, act_forE_nil, act_forE_cons, act_forE_nil, writeField, act_dyn, hacc]
  exact rd_wr_self _ _ _ _

theorem intStatClear_completes :
    ∀ m b w p s, s.takes m b.val → (intPairs b.val).head? = some p → Completes (.intStatClear m b 0 w) s (fun t => t.rd p.1 = (s.rd p.1 - (s.rd p.1 &&& p.1.raw w.toNat)) % 2 ^ p.1.width) := by
  intro m b w p s ht hp
  obtain ⟨r, hfind, hflds, hoff, hsize, hint, hblock, hro, hacc, hacc0, hpba, hrec, hj⟩ := intStat_found b.val p hp
  obtain ⟨hm, hw⟩ := ht
  refine ⟨(busWrite m (p.1.at 0) w.toNat).act s, ?_, ?_⟩
  · refine Eq.trans (rfl : _ = execIntStatClear m b 0 w s) ?_
    rw [execIntStatClear]
    simp only [hp]
    rfl
  have hat : p.1.at 0 = p.1.off := by rw [Fld.at, Nat.zero_mul, Nat.add_zero]
  have hb : r.off / 0x100000 = b.val := by
    rw [hoff]
    exact hblock
  have hall : r.flds.all (fun f => f.acc == .ro || f.acc == .rc) = false := by
    rw [hflds, List.all_cons, hacc]
    rfl
  change ((busWrite m (p.1.at 0) w.toNat).act s).rd p.1 = _
  rw [hat, busWrite_eq hfind (aliasOf_eq_none (by have := findReg_block_lt hfind; omega)) hsize,
    oneError_rd (Fld.key_ne_of_offAcc hacc0 (by simp [accFlds]) (by omega)), writeReg_logged hm hro hall (hb ▸ hw), logWrite_rd hrec (hb ▸ hj), writeBlock, if_pos hint,
    act_seq_cons, act_seq_cons, act_seq_nil, act_upd, resignal_rd hpba, hflds, writeFields_clears hacc]

theorem findReg_lock : findReg 0x4 = some (⟨"SYS_LOCK", 0x4, 0, 1, 4, [SYS_LOCK.LOCK]⟩, 0) := by rfl

theorem lockSet_completes :
    ∀ m k s, s.takes m 0 → Completes (.sysLockSet m k) s (fun t => t.rd SYS_LOCK.LOCK = (s.rd SYS_LOCK.LOCK ||| k.toNat) % 2 ^ 19) := by
  intro m k s ht
  obtain ⟨hm, hw⟩ := ht
  refine ⟨_, rfl, ?_⟩
  have hraw : SYS_LOCK.LOCK.raw k.toNat = k.toNat := by
    have h : SYS_LOCK.LOCK.raw k.toNat = k.toNat / 2 ^ 0 % 2 ^ 19 := rfl
    rw [h, pow_zero, Nat.div_one, Nat.mod_eq_of_lt k.isLt]
  change ((busWrite m 0x4 k.toNat).act s).rd SYS_LOCK.LOCK = _
  rw [busWrite_eq findReg_lock (by rfl) rfl, oneError_rd (Fld.key_ne_of_apart (by decide) _ _), writeReg_logged hm rfl rfl hw,
    logWrite_rd (by decide) (.inl (by decide)), writeBlock, if_neg (by decide)]
  change ((lockSet k.toNat).act s).rd SYS_LOCK.LOCK = _
  rw [lockSet, act_dyn, act_put, rd_wr_self, hraw]
  rfl

theorem findReg_eqCons : findReg 0x58 = some (⟨"SYS_EQ_CONS", 0x58, 0, 1, 4, [SYS_EQ_CONS.ALL]⟩, 0) := by rfl

theorem eqConsWrite_completes :
    ∀ m v s, s.takes m 0 → Completes (.eqConsWrite m v) s (fun t => t.rd SYS_EQ_CONS.ALL = v.toNat ∧
    t.rd SYS_EQ_STAT.LEVEL = sat 32767 ((s.rd SYS_EQ_PROD.ALL + 65536 - v.toNat) % 65536) % 2 ^ SYS_EQ_STAT.LEVEL.width) := by
  intro m v s ht
  obtain ⟨hm, hw⟩ := ht
  refine ⟨_, rfl, ?_⟩
  have hrd : ∀ f, f.key 0 ≠ SYS_ACC_STAT.ERRORS.key m.val → f.key 0 ≠ OBS_REC_RSEQ.ALL.key 0 →
      ((busWrite m 0x58 v.toNat).act s).rd f = ((eqConsWrite m v.toNat).act s).rd f := fun f herr hrec => by
    rw [busWrite_eq findReg_eqCons (by rfl) rfl, oneError_rd herr, writeReg_logged hm rfl rfl hw, logWrite_rd hrec (.inl (by decide)), writeBlock, if_neg (by decide)]
    rfl
  have hv : v.toNat % 65536 = v.toNat := Nat.mod_eq_of_lt v.isLt
  change ((busWrite m 0x58 v.toNat).act s).rd SYS_EQ_CONS.ALL = _ ∧ ((busWrite m 0x58 v.toNat).act s).rd SYS_EQ_STAT.LEVEL = _
  rw [hrd _ (Fld.key_ne_of_apart (by decide) _ _) (by decide), hrd _ (Fld.key_ne_of_apart (by decide) _ _) (by decide), eqConsWrite, act_seq_cons, act_seq_cons, act_seq_nil, hv,
    act_setField (by decide) rfl m.val 0 _ hw, act_dyn, act_put]
  have hwidth : v.toNat % 2 ^ SYS_EQ_CONS.ALL.width = v.toNat := hv
  rw [rd_wr_ne _ SYS_EQ_CONS.ALL SYS_EQ_STAT.LEVEL _ _ _ (by decide), rd_wr_self, hwidth, rd_wr_self, rd_wr_ne s SYS_EQ_PROD.ALL _ _ _ _ (by decide)]
  exact ⟨rfl, rfl⟩

/-- Settles O43. -/
theorem registerWrites : Obligations.RegisterWrites :=
  ⟨plainWrite_inRange, plainWrite_outOfRange, partialWrite_flagged, unmappedWrite_flagged, setAlias_completes, clearAlias_completes, lowWord_staged,
    highWord_completes, intStatClear_completes, lockSet_completes, eqConsWrite_completes⟩

end Sys2Proof.Machine

/-!
Superframe boundaries and the ends of seconds and minutes (R32, R66, R71, R72, R77, R723, R725).
-/
namespace Sys2Proof.Machine
open Sys2Proof

-- The kernel evaluates many small footprints: one thread serves them all.
set_option Elab.async false


/-! ### The transmitter's boundary -/

/-- The local boundary takes the pilot gain that stands, and leaves the transmitter's hidden state otherwise. -/
theorem localBoundary_ltx (s : State) : (localBoundary.act s).ltx = { s.ltx with pilot := s.rd LTX_PILOT.GAIN } := by
  simp (disch := decide) only [localBoundary, act_rules, upd_rules, (keeps_fwBoundary _).ltx, (keeps_engReturn _).ltx, (keeps_vnrBoundary _).ltx, (keeps_returnSlices _).ltx]

theorem superframeBoundary_steps :
    ∀ c s, s.sending = true → Completes (.superframeBoundary c) s (fun t => t.rd LTX_SF_NUM.ALL = (s.rd LTX_SF_NUM.ALL + 1) % 65536 ∧ t.ltx.pilot = s.rd LTX_PILOT.GAIN) := by
  intro c s hs
  refine ⟨_, rfl, ?_⟩
  rw [act_dyn, hs]
  simp (disch := decide) only [Bool.not_true, Bool.false_eq_true, if_false, act_rules, (keeps_startSf _).rd, (keeps_startSf _).ltx, rd_rules, ltx_rules, (keeps_localBoundary _).rd,
    (keeps_applyBatch _ _).rd, (keeps_judgeProt _).rd, (keeps_commitReturn _).rd, (keeps_applyPlan _ _).rd, (keeps_emitPads _).rd, upd_rules, rd_mk, (keeps_judgeClip _ _).rd, localBoundary_ltx, ite_self]
  exact ⟨Nat.mod_eq_of_lt (Nat.mod_lt _ (by decide)), trivial⟩

/-- The start of a superframe counts a pending plan change down (R71). -/
theorem startSf_cd (s : State) : (startSf.act s).rd LTX_PLAN_CHG.CD =
    if nativeMode s.txMode && s.on LTX_STATUS.PLAN_PENDING && s.rd LTX_PLAN_CHG.CD != 0 then (s.rd LTX_PLAN_CHG.CD - 1) % 2 ^ LTX_PLAN_CHG.CD.width else s.rd LTX_PLAN_CHG.CD := by
  rw [startSf]
  simp (disch := decide) only [act_rules, upd_rules, rd_rules, rd_mk, (keeps_timeMsg _ _).rd, ite_self, (keeps_sendSignal _ _).rd]
  cases nativeMode s.txMode <;> cases s.on LTX_STATUS.PLAN_PENDING <;> simp

theorem commitReturn_none {s : State} (h : s.adapt.rollTo = none) : commitReturn.act s = s := by
  rw [commitReturn, act_dyn, h]
  rfl

/-- What a superframe boundary does once the plan of the new superframe is settled. -/
def afterPlan (batch move : Bool) (sf cd : Nat) : Eff :=
  seqE [commitReturn, whenE batch (seqE [applyBatch sf, judgeProt]), localBoundary, whenE move (put CLI_MOVE_STAT.CD cd), startSf]

/-- With no rollback to come, the rest of the boundary leaves the plan as it was settled, and counts a pending change down. -/
theorem afterPlan_rules {u : State} (h : u.adapt.rollTo = none) (batch move : Bool) (sf cd : Nat) :
    ((afterPlan batch move sf cd).act u).rd LTX_STATUS.PLAN_PENDING = u.rd LTX_STATUS.PLAN_PENDING ∧
    ((afterPlan batch move sf cd).act u).rd LTX_PLAN_HDR.PLAN_ID = u.rd LTX_PLAN_HDR.PLAN_ID ∧
    ((afterPlan batch move sf cd).act u).rd LTX_PLAN_CHG.CD =
      (if nativeMode u.txMode && u.on LTX_STATUS.PLAN_PENDING && u.rd LTX_PLAN_CHG.CD != 0 then (u.rd LTX_PLAN_CHG.CD - 1) % 2 ^ LTX_PLAN_CHG.CD.width else u.rd LTX_PLAN_CHG.CD) ∧
    ((afterPlan batch move sf cd).act u).ltx.acc = u.ltx.acc ∧ ((afterPlan batch move sf cd).act u).ltx.sfs = u.ltx.sfs := by
  simp (disch := decide) only [afterPlan, commitReturn_none h, startSf_cd, State.txMode, (keeps_startSf _).rd, (keeps_startSf _).ltx, act_rules, rd_rules, on_rules, ltx_rules,
    (keeps_localBoundary _).rd, (keeps_localBoundary _).on, (keeps_applyBatch _ _).rd, (keeps_applyBatch _ _).on, (keeps_applyBatch _ _).ltx, (keeps_judgeProt _).rd,
    (keeps_judgeProt _).on, (keeps_judgeProt _).ltx, localBoundary_ltx, ite_self, and_self]
  exact ⟨trivial, trivial, rfl, trivial⟩

theorem applyPlan_bank (sf : Nat) (s : State) : ((applyPlan sf).act s).rd LTX_PLAN_HDR.PLAN_ID = s.rd LTX_PLAN_HDR.PLAN_ID 1 % 2 ^ LTX_PLAN_HDR.PLAN_ID.width ∧
    ((applyPlan sf).act s).adapt.rollTo = s.adapt.rollTo := by
  simp (disch := decide) only [applyPlan, act_rules, upd_rules, rd_rules, rd_mk, adapt_rules, putBank_planId, (keeps_putBank _ _ _ _).adapt, ite_self]
  exact ⟨rfl, trivial⟩

theorem superframeBoundary_applies :
    ∀ c s, s.sending = true → s.on LTX_STATUS.PLAN_PENDING = true → s.rd LTX_PLAN_CHG.TARGET_SF = (s.rd LTX_SF_NUM.ALL + 1) % 65536 → s.adapt.rollTo = none →
    Completes (.superframeBoundary c) s (fun t => t.rd LTX_STATUS.PLAN_PENDING = 0 ∧ t.rd LTX_PLAN_CHG.CD = 0 ∧
      t.rd LTX_PLAN_HDR.PLAN_ID 0 = s.rd LTX_PLAN_HDR.PLAN_ID 1 % 2 ^ LTX_PLAN_HDR.PLAN_ID.width ∧ t.ltx.acc = 0 ∧ t.ltx.sfs = 0) := by
  intro c s hs hpend htarget hroll
  refine ⟨_, rfl, ?_⟩
  rw [act_dyn, hs, hpend, htarget]
  dsimp only
  rw [beq_self_eq_true, Bool.and_self, if_neg (by decide), if_pos rfl, act_seq_cons, act_seq_cons, act_seq_cons, act_seq_cons emitPads, act_seq_cons (applyPlan _), act_seq_nil]
  generalize hv : emitPads.act ((put LTX_SF_NUM.ALL _).act _) = v
  have hid : v.rd LTX_PLAN_HDR.PLAN_ID 1 = s.rd LTX_PLAN_HDR.PLAN_ID 1 := by
    rw [← hv, (keeps_emitPads _).rd (by decide), act_put, rd_wr_ne _ _ _ _ _ _ (by decide), (keeps_judgeClip _ _).rd (by decide)]
  have hroll' : v.adapt.rollTo = none := by
    rw [← hv, (keeps_emitPads _).adapt (by decide), act_put, State.wr_adapt, (keeps_judgeClip _ _).adapt (by decide), hroll]
  obtain ⟨hbank, hkept⟩ := applyPlan_bank ((s.rd LTX_SF_NUM.ALL + 1) % 65536) v
  obtain ⟨hdone, -, hcd, hacc⟩ := applyPlan_done ((s.rd LTX_SF_NUM.ALL + 1) % 65536) v
  have hsfs := congrArg LtxSt.sfs (applyPlan_ltx ((s.rd LTX_SF_NUM.ALL + 1) % 65536) v)
  generalize (applyPlan _).act v = u at *
  obtain ⟨hpend', hid', hcd', hacc', hsfs'⟩ := afterPlan_rules (hkept.trans hroll') (s.vnr.batch.map (·.sf) == some ((s.rd LTX_SF_NUM.ALL + 1) % 65536))
    (s.on CLI_MOVE_STAT.PENDING && s.rd CLI_MOVE_STAT.CD != 0) ((s.rd LTX_SF_NUM.ALL + 1) % 65536) (s.rd CLI_MOVE_STAT.CD - 1)
  rw [hcd, bne_self_eq_false, Bool.and_false, if_neg Bool.false_ne_true] at hcd'
  rw [hbank, hid] at hid'
  exact ⟨hpend'.trans hdone, hcd', hid', hacc'.trans hacc, hsfs'.trans hsfs⟩

theorem superframeBoundary_counts :
    ∀ c s, s.sending = true → nativeMode s.txMode = true → s.on LTX_STATUS.PLAN_PENDING = true → s.rd LTX_PLAN_CHG.TARGET_SF ≠ (s.rd LTX_SF_NUM.ALL + 1) % 65536 →
    s.adapt.rollTo = none → s.rd LTX_PLAN_CHG.CD ≠ 0 → Completes (.superframeBoundary c) s
    (fun t => t.rd LTX_PLAN_CHG.CD = (s.rd LTX_PLAN_CHG.CD - 1) % 2 ^ LTX_PLAN_CHG.CD.width ∧ t.rd LTX_PLAN_HDR.PLAN_ID 0 = s.rd LTX_PLAN_HDR.PLAN_ID 0) := by
  intro c s hs hnative hpend htarget hroll hcd
  refine ⟨_, rfl, ?_⟩
  rw [act_dyn, hs, hpend]
  dsimp only
  rw [beq_eq_false_iff_ne.2 htarget, if_neg (by decide), if_neg (by decide), act_seq_cons, act_seq_cons, act_seq_cons]
  generalize hu : (upd _).act ((put LTX_SF_NUM.ALL _).act _) = u
  have hrd : ∀ f, f.key 0 ≠ LTX_SF_NUM.ALL.key 0 → f.clearOf 0 (Touch.judgeClip.flds ++ sharedFlds) = true → u.rd f = s.rd f := fun f hne hf => by
    rw [← hu, act_upd, apply_ltx, rd_mk, act_put, rd_wr_ne _ _ _ _ _ _ hne, (keeps_judgeClip _ _).rd hf]
  have hroll' : u.adapt.rollTo = none := by
    rw [← hu, act_upd, apply_ltx, act_put, State.wr_adapt, (keeps_judgeClip _ _).adapt (by decide), hroll]
  obtain ⟨-, hid', hcd', -⟩ := afterPlan_rules hroll' (s.vnr.batch.map (·.sf) == some ((s.rd LTX_SF_NUM.ALL + 1) % 65536))
    (s.on CLI_MOVE_STAT.PENDING && s.rd CLI_MOVE_STAT.CD != 0) ((s.rd LTX_SF_NUM.ALL + 1) % 65536) (s.rd CLI_MOVE_STAT.CD - 1)
  have hon : u.on LTX_STATUS.PLAN_PENDING = true := by rw [State.on, hrd _ (by decide) (by decide), ← State.on, hpend]
  rw [State.txMode, hrd LTX_CTRL.MODE (by decide) (by decide), ← State.txMode, hnative, hon, hrd LTX_PLAN_CHG.CD (by decide) (by decide), bne_iff_ne.2 hcd] at hcd'
  exact ⟨hcd', hid'.trans (hrd _ (by decide) (by decide))⟩

theorem darkTimeTick_completes :
    ∀ s, s.sending = false → Completes .darkTimeTick s (fun t => t.ltx.pilot = s.rd LTX_PILOT.GAIN ∧ t.rd LTX_SF_NUM.ALL = s.rd LTX_SF_NUM.ALL) := by
  intro s hs
  refine ⟨_, rfl, ?_⟩
  rw [act_dyn, hs, act_whenE, if_pos (by rfl)]
  exact ⟨congrArg LtxSt.pilot (localBoundary_ltx s), (keeps_localBoundary s).rd (by decide)⟩

/-! ### The receiver's boundary -/

/-- A receiver that is not yet in its last stage and has no superframe lock goes on through missed words (Table 3.4). -/
theorem judgeLoss_early {s : State} (hstage : s.stage ≠ 10) (hlock : s.on LRX_STATUS.SF_LOCK = false) (fs : List (Nat × ScFrame)) (unlocked : Nat) :
    ((judgeLoss fs unlocked).act s).stage = s.stage := by
  rw [judgeLoss, act_dyn]
  dsimp only
  rw [beq_eq_false_iff_ne.2 hstage, Bool.false_and, Bool.false_and, if_neg Bool.false_ne_true, hlock, Bool.false_and, act_seq_cons, act_seq_cons, act_seq_nil]
  rfl

theorem modSc_sfNum (k : Nat) (g : ScSt → ScSt) (s : State) : ((modSc k g).act s).lrx.sfNum = s.lrx.sfNum := rfl

theorem restartOrder_sfNum (s : State) : (restartOrder.act s).lrx.sfNum = s.lrx.sfNum := by
  rw [restartOrder, act_dyn, act_seq_cons, act_seq_cons, act_seq_nil, forE_same (·.lrx.sfNum) fun k _ u => by exact modSc_sfNum _ _ u]
  rfl

theorem layWalk_sfNum (s : State) : (layWalk.act s).lrx.sfNum = s.lrx.sfNum := by
  rw [layWalk, act_dyn]
  exact whenE_same (·.lrx.sfNum) (fun u => forE_same (·.lrx.sfNum) (fun k _ v => by exact modSc_sfNum _ _ v) u) _ s

theorem switchPlan_sfNum (id : Nat) (s : State) : ((switchPlan id).act s).lrx.sfNum = s.lrx.sfNum := by
  rw [switchPlan, act_dyn]
  refine act_seqE_same (·.lrx.sfNum) ?_ s
  simp only [List.forall_mem_cons]
  refine ⟨fun u => by rfl, fun u => by rfl, fun u => ?_, fun u => congrArg LrxSt.sfNum ((keeps_syncProt u).lrx (by decide)), fun u => ?_, restartOrder_sfNum, layWalk_sfNum,
    fun u => congrArg LrxSt.sfNum ((keeps_syncFb u).lrx (by decide)), fun u => congrArg LrxSt.sfNum ((keeps_syncDD u).lrx (by decide)), fun e he => absurd he List.not_mem_nil⟩
  · split <;> rfl
  · rw [act_dyn, act_seq_cons, act_seq_cons, act_seq_nil, forE_same (·.lrx.sfNum) fun k _ v => ?_, forE_same (·.lrx.sfNum) fun k _ v => ?_]
    · simp only [act_seq_cons, act_seq_nil, modSc_sfNum, act_put, State.wr_lrx]
    · simp only [act_seq_cons, act_seq_nil, modSc_sfNum, act_put, State.wr_lrx]

theorem planAt_sfNum (sf : Nat) (s : State) : ((planAt sf).act s).lrx.sfNum = s.lrx.sfNum := by
  rw [planAt, act_dyn]
  split
  · rw [act_seq_cons, act_seq_cons, act_seq_cons, act_seq_nil, act_raise, State.raise_lrx, act_upd, apply_lrx]
    generalize hu : (switchPlan _).act s = u
    have hswitch : u.lrx.sfNum = s.lrx.sfNum := hu ▸ switchPlan_sfNum _ s
    exact hswitch
  · exact whenE_same (·.lrx.sfNum) (fun u => switchPlan_sfNum _ u) _ s
  · rw [act_nop]

theorem rxSuperframeBoundary_counts :
    ∀ fs s, s.rxRuns = true → 7 ≤ s.stage → s.stage ≤ 9 → s.on LRX_STATUS.SF_LOCK = false → Completes (.rxSuperframeBoundary fs) s (fun t => t.lrx.sfNum = (s.lrx.sfNum + 1) % 65536) := by
  intro fs s hruns hlo hhi hlock
  refine ⟨_, rfl, ?_⟩
  rw [act_dyn]
  dsimp only
  rw [hruns, decide_eq_true hlo, if_neg (by decide), act_seq_cons, act_seq_cons, act_seq_cons, act_seq_nil, act_dyn]
  generalize hu : (judgeLoss _ _).act _ = u
  have hstage : u.stage = s.stage := by
    have k : Keeps Touch.scPlm s ((forE (s.rxScs.zip (s.rxScs.map (fun (k : Nat) => (fs[(s.rxScs.idxOf k)]?).getD ⟨false, 0, 0, 0, 0⟩))) (fun e => scPlm e.1 e.2)).act s) :=
      keeps_act (within_forE_mem fun e _ t => within_scPlm e.1 e.2 (by decide +kernel))
    have hkept := k.rd (f := LRX_STATUS.STAGE) (i := 0) (by decide)
    rw [← hu, judgeLoss_early]
    · exact hkept
    · rw [State.stage, hkept, ← State.stage]
      omega
    · rw [k.on (by decide), hlock]
  have hnot7 : ¬ u.stage < 7 := by omega
  have hnot10 : (u.stage == 10) = false := beq_eq_false_iff_ne.2 (by omega)
  rw [if_neg hnot7, hnot10]
  simp only [act_seq_cons, act_seq_nil]
  generalize hw : (planAt _).act _ = w
  have hsf : w.lrx.sfNum = (s.lrx.sfNum + 1) % 65536 := by
    rw [← hw, planAt_sfNum, act_whenE, Bool.false_and, if_neg Bool.false_ne_true, act_upd, apply_lrx]
  rw [act_upd, apply_tod, act_upd, apply_pair, act_upd, apply_fec]
  exact hsf

theorem superframeHeaderRx_completes :
    ∀ h s, s.rxRuns = true → 7 ≤ s.stage → nativeMode s.rxMode = true → headerOk h.toNat = true → Completes (.superframeHeaderRx h) s
    (fun t => t.lrx.sfNum = bits h.toNat 48 16 ∧ t.vnr.rxNum = bits h.toNat 16 6 ∧
      (bits h.toNat 27 5 = 0 → t.lrx.armed = none) ∧ (bits h.toNat 27 5 ≠ 0 → t.lrx.armed =
        if (s.heldWords (bits h.toNat 32 8)).isSome then some (bits h.toNat 32 8, (bits h.toNat 48 16 + bits h.toNat 27 5) % 65536) else none)) := by
  intro h s hruns hstage hnative hok
  refine ⟨_, rfl, ?_⟩
  rw [act_dyn]
  dsimp only
  rw [hruns, decide_eq_true hstage, hnative, hok, if_neg (by decide)]
  simp only [act_seq_cons, act_seq_nil]
  generalize hv : Eff.act (match s.tod.rxTent with | some _ => _ | none => _) _ = v
  have hsf : v.lrx.sfNum = bits h.toNat 48 16 ∧ v.vnr.rxNum = bits h.toNat 16 6 := by
    rw [← hv]
    cases s.tod.rxTent <;> exact ⟨rfl, rfl⟩
  simp (disch := decide) only [(keeps_syncProt _).lrx, (keeps_syncProt _).vnr]
  by_cases hcd : bits h.toNat 27 5 = 0
  · rw [if_pos hcd]
    exact ⟨hsf.1, hsf.2, fun _ => rfl, fun hne => absurd hcd hne⟩
  · rw [if_neg hcd]
    split
    · exact ⟨hsf.1, hsf.2, fun h0 => absurd h0 hcd, fun _ => rfl⟩
    · rw [act_seq_cons, act_seq_cons, act_seq_nil, act_whenE]
      refine ⟨?_, ?_, fun h0 => absurd h0 hcd, fun _ => ?_⟩
      · split
        · rw [act_seq_cons, act_seq_cons, act_seq_nil, act_raise, State.raise_lrx]
          exact hsf.1
        · exact hsf.1
      · split
        · rw [act_seq_cons, act_seq_cons, act_seq_nil, act_raise, State.raise_vnr]
          exact hsf.2
        · exact hsf.2
      · split
        · rw [act_seq_cons, act_seq_cons, act_seq_nil, act_raise, State.raise_lrx]
          rfl
        · rfl

/-! ### Seconds and minutes -/

theorem summaryEvents_ids : (summaryEvents.map Ev.id).Nodup := by decide

/-- A single occurrence raises its event once at the end it was noted for, and no other event (R725). -/
theorem raiseSummaries_cnt {e : Ev} (he : e ∈ summaryEvents) {o : Occ} {s : State} (hocc : s.obs.occ = [o]) (hev : o.ev = e.id) :
    ((raiseSummaries o.minute).act s).cnt (1024 + e.x) = (s.cnt (1024 + e.x) + 1) % 2 ^ 48 := by
  rw [raiseSummaries, act_dyn, hocc, List.filter_cons_of_pos (by exact beq_self_eq_true _), List.filter_nil]
  dsimp only
  rw [act_seq_cons, act_seq_cons, act_seq_nil, act_upd, apply_obs]
  refine forE_once (fun u => u.cnt (1024 + e.x)) (g := fun n => (n + 1) % 2 ^ 48) (summaryEvents_ids.of_map _) he (fun u => ?_) (fun y hy hne u => ?_) _
  · rw [List.filter_cons_of_pos (by exact beq_iff_eq.2 hev), List.filter_nil, List.map_cons, List.map_nil, List.eraseDups_cons, List.filter_nil, List.eraseDups_nil, act_forE_cons, act_forE_nil, act_raise]
    exact cnt_raise_self _ _ _
  · have hne' : o.ev ≠ y.id := fun h => hne (List.inj_on_of_nodup_map summaryEvents_ids hy he (hev.symm.trans h).symm)
    have hno : [o].filter (·.ev == y.id) = [] := by rw [List.filter_cons, if_neg (by exact fun h => hne' (beq_iff_eq.1 h)), List.filter_nil]
    rw [hno, List.map_nil, List.eraseDups_nil, act_forE_nil]

theorem secondBoundary_counts :
    ∀ s, Completes .secondBoundary s (fun t => t.frm.emulSec = 0 ∧
    (s.on PAIR_STATUS.WTR_RUN = true → s.rd PAIR_STATUS.WTR_LEFT ≠ 0 → t.rd PAIR_STATUS.WTR_LEFT = (s.rd PAIR_STATUS.WTR_LEFT - 1) % 2 ^ PAIR_STATUS.WTR_LEFT.width)) := by
  intro s
  refine ⟨_, rfl, ?_⟩
  have k := keeps_raiseSummaries false s
  rw [act_seq_cons, act_seq_cons, act_seq_cons, act_seq_nil, act_dyn, act_seq_cons, act_seq_cons, act_seq_nil, act_upd, apply_frm]
  refine ⟨?_, fun hrun hleft => ?_⟩
  · simp only [act_rules, frm_rules, ite_self]
  · simp (disch := decide) only [act_rules, rd_rules, rd_mk, on_mk, k.rd, k.on, hrun, bne_iff_ne.2 hleft, Bool.and_self, if_true, ite_self]

theorem secondBoundary_raises :
    ∀ e ∈ summaryEvents, ∀ o s, s.obs.occ = [o] → o.ev = e.id → o.minute = false → Completes .secondBoundary s
    (fun t => t.cnt (1024 + e.x) = (s.cnt (1024 + e.x) + 1) % 2 ^ 48) := by
  intro e he o s hocc hev hminute
  refine ⟨_, rfl, ?_⟩
  rw [act_seq_cons, act_seq_cons, act_seq_cons, act_seq_nil, act_dyn]
  simp only [act_rules, upd_rules, cnt_rules, cnt_mk, ite_self, ← hminute]
  exact raiseSummaries_cnt he hocc hev

/-- Nothing is noted for the end of the minute. -/
def State.noMinutes (s : State) : Prop := ∀ o ∈ s.obs.occ, o.minute = false

theorem noMinutes_count {s : State} (h : s.noMinutes) (j n : Nat) : (s.count j n).noMinutes := by
  simp only [State.count]
  split
  · exact h
  · intro o ho
    rcases List.mem_append.1 ho with ho | ho
    · exact h o ho
    · rw [List.mem_singleton.1 ho]

theorem noMinutes_record {s : State} (h : s.noMinutes) (typ flags : Nat) (body : List Nat) : (s.record typ flags body).noMinutes := by
  simp only [State.record]
  split
  · exact h
  · split
    · exact h
    · split
      · refine noMinutes_count ?_ 64 1
        exact h
      · exact h

theorem noMinutes_raise {s : State} (h : s.noMinutes) (e : Ev) (pay : List Nat) : (s.raise e pay).noMinutes := by
  have hstat : ∀ (u : State) f m, (u.setStat f m).noMinutes ↔ u.noMinutes := fun u f m => by rw [State.noMinutes, State.setStat_obs, ← State.noMinutes]
  have hqueue : ∀ (u : State) d c p, (u.queueEvent d c p).noMinutes ↔ u.noMinutes := fun u d c p => by rw [State.noMinutes, State.queueEvent_obs, ← State.noMinutes]
  have htrig : ∀ (u : State) l, ({ u with obs := { u.obs with trigDue := l } } : State).noMinutes ↔ u.noMinutes := fun _ _ => Iff.rfl
  simp only [State.raise]
  split <;> split <;> split <;> split <;> simp only [hstat, hqueue, htrig, noMinutes_record, noMinutes_count h]

theorem minuteBoundary_clears :
    ∀ s, Completes .minuteBoundary s (fun t => ∀ o ∈ t.obs.occ, o.minute = false) := by
  intro s
  refine ⟨_, rfl, ?_⟩
  rw [raiseSummaries, act_dyn, act_seq_cons, act_seq_cons, act_seq_nil]
  refine act_seqE_keeps (I := State.noMinutes) (fun g hg u hu => ?_) (fun o ho => ?_)
  · obtain ⟨e, -, rfl⟩ := List.mem_map.1 hg
    refine act_seqE_keeps (I := State.noMinutes) (fun g hg u hu => ?_) hu
    obtain ⟨i, -, rfl⟩ := List.mem_map.1 hg
    exact noMinutes_raise hu _ _
  · simpa using (List.mem_filter.1 ho).2

theorem minuteBoundary_raises :
    ∀ e ∈ summaryEvents, ∀ o s, s.obs.occ = [o] → o.ev = e.id → o.minute = true → Completes .minuteBoundary s
    (fun t => t.cnt (1024 + e.x) = (s.cnt (1024 + e.x) + 1) % 2 ^ 48) := by
  intro e he o s hocc hev hminute
  refine ⟨_, rfl, ?_⟩
  rw [← hminute]
  exact raiseSummaries_cnt he hocc hev

/-- Settles O45. -/
theorem boundaries : Obligations.Boundaries :=
  ⟨superframeBoundary_steps, superframeBoundary_applies, superframeBoundary_counts, darkTimeTick_completes, rxSuperframeBoundary_counts,
    superframeHeaderRx_completes, secondBoundary_counts, secondBoundary_raises, minuteBoundary_clears, minuteBoundary_raises⟩

end Sys2Proof.Machine

/-!
Reads, and the pins and timers beside the register map (R27, R445, R459, R681, R691, R692, R697, R702).
-/
namespace Sys2Proof.Machine
open Sys2Proof

-- The kernel evaluates many small footprints: one thread serves them all.
set_option Elab.async false


/-! ### Reads of registers -/

/-- Where a field resets to 0, writing 0 to any field leaves it reading 0. -/
theorem rd_wr_zero {s : State} {f : Fld} {i : Nat} (hd : f.dflt i = 0) (h : s.rd f i = 0) (g : Fld) (j : Nat) : (s.wr g j 0).rd f i = 0 := by
  by_cases hkey : f.key i = g.key j
  · rw [State.rd, hkey]
    rcases Tab.get_set_self_or (f.dflt i) (g.dflt j) s.regs (g.key j) (0 % 2 ^ g.width) with hset | hset
    · exact hset.trans (Nat.zero_mod _)
    · exact hset.trans hd
  · rw [rd_wr_ne _ _ _ _ _ _ hkey, h]

/-- SYS_ACC_SELF is a register of one word. -/
theorem accSelf_size : ∀ b, ∀ r ∈ regsOf b, r.off = 0x10 → r.size = 4 := by
  intro b
  unfold regsOf
  split
  case h_20 => exact fun r hr => absurd hr List.not_mem_nil
  all_goals decide +kernel

theorem off_ne_accSelf {off i : Nat} {r : RegDef} (hfind : findReg off = some (r, i)) (hwide : r.wide = true) : r.off ≠ 0x10 := fun h => by
  simp [RegDef.wide, accSelf_size _ r (findReg_mem hfind) h] at hwide

/-- A master that is no engine of cluster 7 may read every register, and sees its counters. -/
theorem mayRead_of_lt {m : Nat} (hm : m < 60) (s : State) (b : Nat) : s.mayRead m b = true := by simp [State.mayRead, hm]

theorem readVal_of_lt {m : Nat} (hm : m < 60) (s : State) (r : RegDef) (i : Nat) : s.readVal m r i = s.regVal m r i := by
  rw [State.readVal, State.hidden, decide_eq_false (by omega), Bool.false_and, if_neg Bool.false_ne_true]

theorem released_of_dev {s : State} (h : s.dev ≠ 0) (b : Nat) : s.released b = true := by simp [State.released, h]

/-- What a read by a master that is no engine of cluster 7 returns of a released register (R678, R692). -/
theorem busVal_found {m off i : Nat} {r : RegDef} {s : State} (hm : m < 60) (hfind : findReg off = some (r, i)) (hrel : s.released (off / 0x100000) = true) (hq : ¬ (r.off = 0xD00118 ∧ off = r.at i)) :
    s.busVal m off = if r.wide ∧ off ≠ r.at i then (s.shadow m (r.at i)).getD (s.regVal m r i / 2 ^ 32 % 2 ^ 32) else s.regVal m r i / 2 ^ (8 * (off - r.at i)) % 2 ^ 32 := by
  rw [State.busVal, mayRead_of_lt hm]
  simp only [hfind, hrel, Bool.not_true, Bool.false_eq_true, if_false, if_neg hq, readVal_of_lt hm]

/-- What such a read does besides (R681, R691, R692). -/
theorem busSide_found {m off i : Nat} {r : RegDef} {s : State} (hm : m < 60) (hfind : findReg off = some (r, i)) (hrel : s.released (off / 0x100000) = true) (hq : ¬ (r.off = 0xD00118 ∧ off = r.at i)) :
    (busSide m off).act s =
    (if r.off = 0x10 then seqE [forE (SYS_ACC_STAT.fields.drop 1) (fun f => put f 0 m), upd (.sys fun y => { y with accAddr := Tab.set none y.accAddr m none })]
    else if !r.wide then nop
    else if off = r.at i then latchShadow m off (s.regVal m r i / 2 ^ 32 % 2 ^ 32)
    else if (s.shadow m (r.at i)).isSome then upd (.sys fun y => { y with rdShadow := Tab.set none y.rdShadow m none })
    else flagAcc m SYS_ACC_STAT.SHADOW_MISS off).act s := by
  rw [busSide, act_dyn, mayRead_of_lt hm]
  simp only [hfind, hrel, Bool.not_true, Bool.false_eq_true, if_false, if_neg hq, readVal_of_lt hm]

theorem act_busRead (m off : Nat) (s : State) : (busRead m off).act s = { (busSide m off).act s with out := .readData m off (s.busVal m off) :: ((busSide m off).act s).out } := by
  rw [busRead, act_dyn, act_seq_cons, act_seq_cons, act_seq_nil]
  rfl

theorem lowWordRead_latches :
    ∀ m off r i s, m.val < 60 → findReg (off.toNat / 8 * 8) = some (r, i) → off.toNat / 8 * 8 = r.at i → r.wide = true → r.off ≠ 0xD00118 → s.dev ≠ 0 →
    Completes (.lowWordRead m off) s (fun t => t.out = .readData m.val (r.at i) (s.regVal m.val r i % 2 ^ 32) :: s.out ∧
      Tab.get none t.sys.rdShadow m.val = some (r.at i, s.regVal m.val r i / 2 ^ 32 % 2 ^ 32) ∧
      t.rd SYS_ACC_STAT.SHADOW_GEN m.val = (s.rd SYS_ACC_STAT.SHADOW_GEN m.val + 1) % 2 ^ SYS_ACC_STAT.SHADOW_GEN.width) := by
  intro m off r i s hm hfind hat hwide hq hdev
  refine ⟨_, rfl, ?_⟩
  have hq' : ¬ (r.off = 0xD00118 ∧ off.toNat / 8 * 8 = r.at i) := fun h => hq h.1
  have hrel := released_of_dev hdev (off.toNat / 8 * 8 / 0x100000)
  rw [act_busRead, busSide_found hm hfind hrel hq', busVal_found hm hfind hrel hq', if_neg (off_ne_accSelf hfind hwide), hwide, hat]
  simp only [ne_eq, not_true_eq_false, and_false, if_false, Bool.not_true, Bool.false_eq_true, if_true, Nat.sub_self, Nat.mul_zero, pow_zero, Nat.div_one]
  exact ⟨rfl, Tab.get_set_self (α := Option (Nat × Nat)) none s.sys.rdShadow m.val (some _), by exact rd_wr_self _ _ _ _⟩

theorem highWordRead_shadowed :
    ∀ m off r i hi s, m.val < 60 → findReg (off.toNat / 8 * 8 + 4) = some (r, i) → r.at i = off.toNat / 8 * 8 → r.wide = true → s.dev ≠ 0 →
    Tab.get none s.sys.rdShadow m.val = some (r.at i, hi) → hi < 2 ^ 32 → Completes (.highWordRead m off) s
    (fun t => t.out = .readData m.val (r.at i + 4) hi :: s.out ∧ Tab.get none t.sys.rdShadow m.val = none) := by
  intro m off r i hi s hm hfind hat hwide hdev hshadow hhi
  refine ⟨_, rfl, ?_⟩
  have hne : off.toNat / 8 * 8 + 4 ≠ r.at i := by omega
  have hq' : ¬ (r.off = 0xD00118 ∧ off.toNat / 8 * 8 + 4 = r.at i) := fun h => hne h.2
  have hrel := released_of_dev hdev ((off.toNat / 8 * 8 + 4) / 0x100000)
  have hsh : s.shadow m.val (r.at i) = some hi := by simp [State.shadow, hshadow]
  rw [act_busRead, busSide_found hm hfind hrel hq', busVal_found hm hfind hrel hq', if_neg (off_ne_accSelf hfind hwide), hwide, hsh, Bool.not_true, if_neg Bool.false_ne_true, if_neg hne,
    Option.isSome_some, if_pos rfl, if_pos ⟨rfl, hne⟩, hat]
  exact ⟨rfl, Tab.get_set_self (α := Option (Nat × Nat)) none s.sys.rdShadow m.val none⟩

theorem findReg_accSelf : findReg 0x10 = some (⟨"SYS_ACC_SELF", 0x10, 0, 1, 4, [SYS_ACC_SELF.ALL]⟩, 0) := by rfl

/-- Clearing fields that reset to 0 leaves each of them 0. -/
theorem forE_clear_rd {fs : List Fld} {f : Fld} (hf : f ∈ fs) {m : Nat} (hd : f.dflt m = 0) (s : State) : ((forE fs (fun g => put g 0 m)).act s).rd f m = 0 :=
  forE_establishes (I := fun u => u.rd f m = 0) (f := fun g => put g 0 m) hf (fun u => (rd_wr_self u f m 0).trans (Nat.zero_mod _)) (fun g _ _ hu => rd_wr_zero hd hu g m) s

theorem regVal_accSelf (m : Nat) (s : State) : s.regVal m ⟨"SYS_ACC_SELF", 0x10, 0, 1, 4, [SYS_ACC_SELF.ALL]⟩ 0 = s.word SYS_ACC_STAT.fields m := by
  rw [State.regVal, show RegDef.counter _ 0 = none by decide]
  rfl

theorem released_sys (s : State) : s.released (0x10 / 0x100000) = true := by simp [State.released]

theorem busVal_accSelf {m : Nat} (hm : m < 60) (s : State) : s.busVal m 0x10 = s.word SYS_ACC_STAT.fields m % 2 ^ 32 := by
  rw [busVal_found hm findReg_accSelf (released_sys s) (by decide), if_neg (by decide), regVal_accSelf, show 8 * (0x10 - RegDef.at ⟨"SYS_ACC_SELF", 0x10, 0, 1, 4, [SYS_ACC_SELF.ALL]⟩ 0) = 0 by rfl, pow_zero,
    Nat.div_one]

/-- What a read of SYS_ACC_SELF does: the master's flags and count `fs`, and its noted address, are cleared (R681). -/
def clearAcc (fs : List Fld) (m : Nat) : Eff := seqE [forE fs (fun f => put f 0 m), upd (.sys fun y => { y with accAddr := Tab.set none y.accAddr m none })]

theorem busSide_accSelf {m : Nat} (hm : m < 60) (s : State) : (busSide m 0x10).act s = (clearAcc (SYS_ACC_STAT.fields.drop 1) m).act s := by
  rw [busSide_found hm findReg_accSelf (released_sys s) (by decide)]
  exact congrArg (Eff.act · s) (if_pos rfl)

theorem act_clearAcc (fs : List Fld) (m : Nat) (s : State) : ((clearAcc fs m).act s).out = s.out ∧ Tab.get none ((clearAcc fs m).act s).sys.accAddr m = none ∧
    ∀ f ∈ fs, f.dflt m = 0 → ((clearAcc fs m).act s).rd f m = 0 := by
  rw [clearAcc, act_seq_cons, act_seq_cons, act_seq_nil, act_upd, apply_sys]
  exact ⟨forE_same (·.out) (fun _ _ _ => rfl) s, Tab.get_set_self (α := Option Nat) none _ m none, fun f hf hd => forE_clear_rd hf hd s⟩

theorem accSelfRead_clears :
    ∀ m s, m.val < 60 → Completes (.accSelfRead m) s (fun t => t.rd SYS_ACC_STAT.ERRORS m.val = 0 ∧ t.rd SYS_ACC_STAT.RANGE m.val = 0 ∧ Tab.get none t.sys.accAddr m.val = none ∧
    t.out = .readData m.val 0x10 (s.word SYS_ACC_STAT.fields m.val % 2 ^ 32) :: s.out) := by
  intro m s hm
  refine ⟨_, rfl, ?_⟩
  obtain ⟨hout, haddr, hflags⟩ := act_clearAcc (SYS_ACC_STAT.fields.drop 1) m.val s
  rw [act_busRead, busSide_accSelf hm, busVal_accSelf hm, hout]
  generalize (clearAcc _ _).act s = u at *
  exact ⟨hflags _ (by simp [SYS_ACC_STAT.fields]) rfl, hflags _ (by simp [SYS_ACC_STAT.fields]) rfl, haddr, rfl⟩

/-! ### Pins, messages and timers -/

theorem bit_putBit_self (v k : Nat) (b : Bool) : bit (putBit v k b) k = b := by
  cases b
  · exact bit_clrBit_self v k
  · exact bit_setBit_self v k

theorem gpioEdge_samples :
    ∀ n lv s, bit (s.rd SYS_GPIO_OE.ALL) n.val = false → Completes (.gpioEdge n lv) s (fun t => bit (t.rd SYS_GPIO_IN.ALL) n.val = lv) := by
  intro n lv s hoe
  refine ⟨_, rfl, ?_⟩
  rw [act_dyn, hoe, act_whenE, if_pos (by rfl), pinSample, act_dyn, act_whenE]
  by_cases hlv : lv = bit (s.rd SYS_GPIO_IN.ALL) n.val
  · rw [hlv, bne_self_eq_false, if_neg Bool.false_ne_true]
  · rw [bne_iff_ne.2 hlv, if_pos rfl]
    simp (disch := decide) only [act_rules, upd_rules, rd_mk, rd_rules, ite_self]
    exact (bit_mod n.isLt _).trans (bit_putBit_self _ _ _)

/-- A pending message goes out at most. -/
theorem sendPending_keeps {β : Type} {P : State → β} (hpba : ∀ u w, P (u.wr MSIX_PBA.ALL 0 w) = P u) (hout : ∀ (u : State) o, P { u with out := o } = P u) (v : Nat) (u : State) :
    P ((sendPending v).act u) = P u := by
  rw [sendPending, act_dyn]
  refine whenE_same P (fun x => ?_) _ u
  rw [act_seq_cons, act_seq_cons, act_seq_nil, act_put, act_upd]
  refine Eq.trans ?_ (hpba x (clrBit (u.rd MSIX_PBA.ALL) v))
  change P (State.signal _ v) = _
  rw [State.signal]
  split
  · exact hout _ _
  · exact hpba _ _

theorem msixUnmask_opens :
    ∀ v en fm s, Completes (.msixUnmask v en fm) s (fun t => t.rd MSIX_CTRL.MASK v.val = 0 ∧ t.sys.msixEn = en ∧ t.sys.fnMask = fm) := by
  intro v en fm s
  refine ⟨_, rfl, ?_⟩
  rw [act_seq_cons, act_seq_cons, act_seq_cons, act_seq_nil]
  have hkeep : ∀ {β : Type} (P : State → β), (∀ u w, P (u.wr MSIX_PBA.ALL 0 w) = P u) → (∀ (u : State) o, P { u with out := o } = P u) → ∀ u, P ((forE (List.range 64) sendPending).act u) = P u :=
    fun P hpba hout u => forE_same P (fun k _ x => sendPending_keeps hpba hout k x) u
  refine ⟨?_, ?_, ?_⟩
  · rw [hkeep (·.rd MSIX_CTRL.MASK v.val) (fun u w => rd_wr_ne _ _ _ _ _ _ (Fld.key_ne_of_apart (by decide) _ _)) fun _ _ => rfl]
    exact rd_wr_self _ _ _ _
  · rw [hkeep (·.sys.msixEn) (fun _ _ => rfl) fun _ _ => rfl]
    rfl
  · rw [hkeep (·.sys.fnMask) (fun _ _ => rfl) fun _ _ => rfl]
    rfl

theorem fabricTimeout_flagged :
    ∀ k m off rd s, Completes (.fabricTimeout k m off rd) s (fun t => t.cnt k.val = (s.cnt k.val + 1) % 2 ^ 48 ∧ t.rd SYS_ACC_STAT.FABRIC m.val = 1 ∧
    t.out = if rd then .readData m.val off.toNat 0xFFFFFFFF :: s.out else s.out) := by
  intro k m off rd s
  refine ⟨_, rfl, ?_⟩
  rw [act_seq_cons, act_seq_cons, act_seq_cons, act_seq_nil, act_count, act_whenE]
  have kf := keeps_flagAcc m.val SYS_ACC_STAT.FABRIC off.toNat (s.count k.val 1)
  generalize hu : (flagAcc m.val SYS_ACC_STAT.FABRIC off.toNat).act (s.count k.val 1) = u at kf ⊢
  have hcnt : u.cnt k.val = (s.cnt k.val + 1) % 2 ^ 48 := by rw [kf.cnt (by have := k.isLt; simp [May.moves]; omega), cnt_count_self]
  have hflag : u.rd SYS_ACC_STAT.FABRIC m.val = 1 := by
    rw [← hu]
    exact flagAcc_flag (Fld.key_ne_of_apart (by decide) _ _) _
  have hout : u.out = s.out := by
    rw [← hu]
    simp only [flagAcc, Eff.act]
    split <;> exact State.count_out _ _ _
  cases rd
  · exact ⟨hcnt, hflag, hout⟩
  · exact ⟨hcnt, hflag, congrArg (_ :: ·) hout⟩

theorem oscInActive_completes :
    ∀ s, Completes .oscInActive s (fun t => t.rd REF_STATUS.OSC_PRESENT = 1 ∧ t.rd REF_STATUS.MON_SRC = 0) := by
  intro s
  refine ⟨_, rfl, ?_⟩
  rw [oscBack]
  simp (disch := decide) only [act_rules, (keeps_refEval _).rd, rd_rules]
  trivial

theorem lineQlMessageTx_sends :
    ∀ s, s.sending = true → Completes .lineQlMessageTx s (fun t => t = { s with out := .lineTime s.lineQl :: s.out, frm := { s.frm with timeOut := s.frm.timeOut ++ stuffed s.lineQl ++ [0x7E] } }) := by
  intro s hs
  refine ⟨_, rfl, ?_⟩
  rw [act_dyn, hs, act_whenE, if_pos rfl, timeMsg, act_seq_cons, act_seq_cons, act_seq_nil]
  rfl

/-- Settles O44. -/
theorem registerReads : Obligations.RegisterReads :=
  ⟨lowWordRead_latches, highWordRead_shadowed, accSelfRead_clears, gpioEdge_samples, msixUnmask_opens, fabricTimeout_flagged, oscInActive_completes,
    lineQlMessageTx_sends⟩

end Sys2Proof.Machine
